-- ==== Sys2Proof/Word.lean ====
section
/-!
DEFINITION. Word.lean: the word types of the MQ7016 model (spec/00_scope.md R6, R7) and the two container types every
block of the state is built from: byte strings and sparse tables.
-/
namespace Sys2Proof

/-- One byte of a register, a descriptor, a record or a memory. -/
abbrev Byte := BitVec 8

/-- A 16-bit field: an element of a token row, a descriptor field, a JOB_ID. -/
abbrev Half := BitVec 16

/-- A 32-bit register (R11), a sync counter, a scalar counter. -/
abbrev Word := BitVec 32

/-- A string of bytes in ascending address order. -/
abbrev Bytes := List Byte

/-- A sparse table: the entries that differ from the table's default value, keys strictly rising. -/
abbrev Tab (α : Type) := List (Nat × α)

/-- The addressed memories of the device (HBM, flash, Spool, scratch) are sparse tables of bytes. -/
abbrev Memory := Tab Byte

/-- A file of plain registers and counters, keyed by register offset (spec/27_register_index.md). -/
abbrev RegFile := Tab Nat

end Sys2Proof
end

