-- ==== Sys2Proof/Wire.lean ====
section
/-!
DEFINITION. Wire.lean: the names that commands and state share: indices of partitions, ports, links and streams,
the requesters of registers, and the packets and messages that arrive at the device or leave it.
-/
namespace Sys2Proof

/-- Partition P0 to P3 (spec/16 R408). -/
abbrev PartId := Fin 4
/-- Host port HP0 to HP3 (spec/06 R127). -/
abbrev PortId := Fin 4
/-- Engine stream in the order of spec/07 R159: 0 RTE, 1 SRT, 2 DSP, 3 SEQ, 4 CMB, 5 COL, 6 XFR. -/
abbrev StreamId := Fin 7
/-- Bridle link BL0 to BL15 (spec/13 R336). -/
abbrev LinkId := Fin 16
/-- Tether plane 0 to 31 (spec/14 R360). -/
abbrev PlaneId := Fin 32
/-- Cluster CL0 to CL7 (spec/00, grades). -/
abbrev ClusterId := Fin 8
/-- A DEVICE_ID: group in bits 13:4, member in bits 3:0 (spec/02 R24). -/
abbrev DevId := Nat

/-- Who reads or writes a register: a host port, with IDE protection or without (spec/06 R148), the management
requester (spec/00 R11), or JTAG (spec/21 R541, spec/25 R619). -/
inductive Requester where
  /-- A memory request of a host port, protected by IDE where the port has a Secure stream. -/
  | hp (k : PortId)
  /-- A memory request that the port received without IDE protection. -/
  | bare (k : PortId)
  | mgt
  | jtag
  deriving DecidableEq, Repr

/-- The way a packet reaches a device or leaves it: the local path, a direct Bridle link, a relay whose first or last
hop is that link, or a Tether plane (spec/02 R41, spec/13 R348 to R351). -/
inductive Path where
  | loc
  | bridle (l : LinkId)
  | relay (l : LinkId)
  | tether (pl : PlaneId)
  deriving DecidableEq, Repr

/-- The identity, scope and instant of a commit, as requests and announcements carry them (spec/05 R115, R116). -/
structure CommitHead where
  id : Nat := 0
  /-- The groups in scope; empty for scope "device". -/
  groups : List Nat := []
  instant : Nat := 0
  deriving DecidableEq, Repr

/-- The messages of a staged commit (spec/05 R115 to R121). -/
inductive CfgMsg where
  | voteReq (head : CommitHead) (digest : Bytes)
  | vote (id : Nat) (yes : Bool) (reason : Nat)
  /-- On ABORT the reason, and the first NO voter where there is one (R116). -/
  | outcome (id : Nat) (commit : Bool) (reason : Nat) (voter : Option DevId)
  | announce (head : CommitHead)
  | query (id : Nat)
  /-- The outcome that the device holds: COMMIT, with reason 0, or ABORT with its reason and first NO voter. -/
  | answer (id : Nat) (outcome : Option (Bool × Nat × Option DevId))
  deriving DecidableEq, Repr

/-- What an end of a link reports in IDENTIFY (spec/13 R339). -/
structure Identity where
  dev : DevId := 0
  link : Nat := 0
  groupSize : Nat := 0
  pairMode : Nat := 0
  crypt : Bool := false
  startId : Nat := 0
  deriving DecidableEq, Repr

/-- A bond advertisement (spec/13 R352). -/
structure Advert where
  /-- Bit m: the bond to member m is up. -/
  map : Nat := 0
  startId : Nat := 0
  /-- The START_ID that each member whose bond is up reported in IDENTIFY. -/
  peers : List (Nat × Nat) := []
  deriving DecidableEq, Repr

/-- The LINK flits of a Bridle link, and the wake pattern (spec/13 R339, R341, R352, R355, spec/20 R509). -/
inductive LinkMsg where
  | identify (i : Identity)
  | advert (a : Advert)
  | notice (b : Bytes)
  | sleepReq | sleepAck | sleepNak
  | dormantReq | dormantAck | dormantNak
  | wake
  | training
  | keying (n : Nat)
  deriving DecidableEq, Repr

/-- The data set that an Announce message carries (IEEE 1588; spec/05 R105). -/
structure PtpDs where
  priority1 : Nat := 250
  clockClass : Nat := 248
  accuracy : Nat := 0xFE
  variance : Nat := 0xFFFF
  priority2 : Nat := 128
  /-- The grandmaster's clockIdentity, and the steps from it. -/
  gm : Nat := 0
  steps : Nat := 0
  deriving DecidableEq, Repr

/-- The PTP messages of an ordinary clock with the end-to-end delay mechanism, and the rest, which it does not support
(spec/14 R380). -/
inductive PtpKind where
  | sync | delayReq | followUp | delayResp | announce | other
  deriving DecidableEq, Repr

/-- A PTP message: port identities are 80 bits, times are nanoseconds, `corr` is the correctionField. -/
structure PtpMsg where
  kind : PtpKind := .other
  domain : Nat := 0
  sdoId : Nat := 0
  seq : Nat := 0
  src : Nat := 0
  twoStep : Bool := false
  corr : Int := 0
  /-- originTimestamp, preciseOriginTimestamp or receiveTimestamp. -/
  time : Nat := 0
  /-- requestingPortIdentity of a Delay_Resp. -/
  req : Nat := 0
  logInterval : Int := 0
  ds : PtpDs := {}
  deriving DecidableEq, Repr

/-- Frames of a Tether plane other than transport datagrams (spec/14 R363, R366, R367, R380). -/
inductive EthMsg where
  | gratuitous
  | resolve (target : Nat)
  | resolveReply (asker : Nat)
  | echoReply (dst : Nat) (ident : Nat)
  /-- A PTP message to a multicast address, a UDP port and a DSCP. -/
  | ptp (group port dscp : Nat) (m : PtpMsg)
  deriving DecidableEq, Repr

/-- What the ECC finds in a word that a row reads: an HBM granule (R460), or an SRAM word by its location (R463). -/
inductive EccFind where
  /-- An absolute HBM granule; true when it cannot be corrected. -/
  | hbm (gran : Nat) (bad : Bool)
  /-- A single-bit error of a tile, accumulator or scratch word (R235). -/
  | single
  /-- Double-bit errors: SUB 1, a row of a tile, or a scratch granule. -/
  | tile (c : ClusterId) (i : Fin 8) (code row : Nat)
  | scratch (c : ClusterId) (i : Fin 8) (gran : Nat)
  /-- SUB 2: a Spool or Reel granule, a stored row by its tag, a slot's record or stash. -/
  | spool (gran : Nat)
  | reel (gran : Nat)
  | storedRow (tag : Nat)
  | slotRecord (slot : Nat)
  | slotRow (slot : Nat)
  /-- An item read from the backing region, whose granule cannot be corrected (R321): a received row by its tag, a slot's row, or
  its record or stash. -/
  | backedRow (tag gran : Nat)
  | backedSlot (slot : Nat) (row : Bool) (gran : Nat)
  /-- SUB 3: the gate buffer, or the shadow-gate buffer. -/
  | gate
  | shadowGate
  /-- SUB 4: control data in the Spool. -/
  | control
  /-- SUB 5: the reducer slot of a chunk of the partition's collective. -/
  | reducer (chunk : Nat)
  /-- SUB 6: the oldest packet in the pool of a Bridle link, or of a Tether plane. -/
  | linkPool (l : LinkId)
  | planePool (pl : PlaneId)
  /-- SUB 7: a queue entry, a tensor descriptor, a sync or scalar counter, an engine context. -/
  | context
  /-- SUB 8: a held result, by the tag of its row. -/
  | hold (tag : Nat)
  /-- SUB 9: the device's own memories. -/
  | device
  deriving DecidableEq, Repr

/-- An upset of the memories that no read has met yet: an absolute HBM granule, true when it cannot be corrected, or a word of SRAM of
a partition. -/
inductive Upset where
  | hbm (gran : Nat) (bad : Bool)
  | sram (p : PartId) (e : EccFind)
  deriving DecidableEq, Repr

/-- The operands of a sender's collective command that R388 compares and the header of R396 has no field for. -/
structure ColOps where
  dtype : Nat
  redop : Nat
  root : Nat
  cap : Nat
  deriving DecidableEq, Repr

/-- The VLAN tag, IP header and UDP header of a Tether datagram (spec/14 R361, R365, R366). -/
structure IpHead where
  /-- 0 untagged. -/
  vlan : Nat := 0
  pcp : Nat := 0
  ver : Nat := 4
  src : Nat := 0
  dst : Nat := 0
  dscp : Nat := 0
  /-- 0 Not-ECT, 1 ECT(1), 2 ECT(0), 3 CE. -/
  ecn : Nat := 0
  ttl : Nat := 64
  ident : Nat := 0
  df : Bool := true
  /-- A fragment; with IPv4 options or an IPv6 extension header. -/
  fragment : Bool := false
  options : Bool := false
  flow : Nat := 0
  sport : Nat := 0
  dport : Nat := 0
  udpSum : Nat := 0
  /-- The packet number of the frame's SecTAG, where it carries one (R377). -/
  pn : Option Nat := none
  deriving DecidableEq, Repr

/-- The VLAN tag and the SecTAG's packet number of a frame that is no transport datagram (spec/14 R361, R377); VID 0 untagged. -/
structure EthTag where
  vlan : Nat := 0
  pcp : Nat := 0
  pn : Option Nat := none
  deriving DecidableEq, Repr

/-- What the lower layers find of a received Tether frame: good, with its headers; a bad FCS (spec/14 R383); a failed ICV (R377). -/
inductive FrameCheck where
  | good (ip : IpHead) | fcs | macsec
  deriving DecidableEq, Repr

/-- The same of a frame that is no transport datagram. -/
inductive EthCheck where
  | good (tag : EthTag) | fcs | macsec
  deriving DecidableEq, Repr

/-- What happens at the PTP port: a message of the network arrives, or the port sends one of its own that is due. -/
inductive PtpEvent where
  | receive (tag : EthCheck) (m : PtpMsg)
  | send (kind : PtpKind)
  deriving DecidableEq, Repr

/-- The transport of an SPDM request: MCTP, or the DOE mailbox of a host port (spec/21 R533). -/
inductive SpdmBinding where
  | mctp
  | doe (k : PortId)
  deriving DecidableEq, Repr

/-- The way an MCTP message reaches the device (spec/23 R574). -/
inductive MctpBinding where
  | smbus
  | pcie (k : PortId)
  deriving DecidableEq, Repr

/-- The read-only fields of a function's configuration space that the spec gives by name (spec/06 R128 to R131, R152). -/
inductive ConfigField where
  | vendorId | deviceId | revisionId | classCode | headerType | subsystemVendorId | subsystemId | interruptPin
  | expansionRom
  /-- The Next pointer of the capability at an offset; 0 for the list's head, which the header points to. -/
  | nextCap (off : Nat)
  | pmeSupport | noSoftReset | auxCurrent | powerState | bme
  | mpsSupported | extTagSupported | flrCapability | ctoRanges | ctoDisable | tag10Supported | tag14Supported
  | aspmSupport | l1ExitLatency | l1Acceptable | maxSpeed | maxWidth | speed | width
  | msixSize | msixTable | msixPba | serialNumber
  /-- The answer of DOE Discovery to an index: the data object protocol there and the index of the next (R127). -/
  | doeDiscovery (index : Nat)
  deriving DecidableEq, Repr

/-- Where a register access lands: a register offset of BAR0 or of the management space (offsets from 0x0100_0000,
spec/27), an offset of BAR2, or a field of the function's configuration space (spec/06 R127 to R153). -/
inductive RegAddr where
  | reg (off : Nat)
  | mse | aspm | mps | mrrs | tag14 | tag10 | extTag | cto | relaxed | ido | pmeEn | pmeStatus | msixEn | msixMaskAll
  | vecAddr (v : Fin 16) | vecData (v : Fin 16) | vecMask (v : Fin 16)
  /-- A word of the six base address registers. -/
  | bar (i : Fin 6)
  /-- AER's status of Unexpected Completion, of Poisoned TLP Received, and of an advisory non-fatal error. -/
  | aerUnexpected | aerPoisoned | aerAdvisory
  | field (f : ConfigField)
  | bar2 (off : Nat)
  /-- A request that would use a feature that R127 marks not supported. -/
  | unsupported
  deriving DecidableEq, Repr

/-- How the host answers a device read (spec/06 R145). -/
inductive CplStatus where
  | ok | ur | ca | ep
  deriving DecidableEq, Repr

/-- Everything the device sends: the record `State.out` keeps it in order, newest first. -/
inductive Emit where
  /-- A host write, with its Relaxed Ordering and ID-Based Ordering attributes (spec/06 R143). -/
  | hostWrite (k : PortId) (addr : Nat) (data : Bytes) (ro ido : Bool)
  | hostRead (k : PortId) (tag addr len : Nat)
  | msix (k : PortId) (vec : Nat) (addr data : Nat)
  /-- The completion of a BAR or configuration read: 0 data, 1 UR, 2 EP, 3 Request Retry Status. -/
  | completion (k : PortId) (status : Nat) (data : Bytes)
  | pmPme (k : PortId) | pmeToAck (k : PortId) | l1Request (k : PortId)
  | regValue (r : Requester) (off : Nat) (value : Nat)
  | packet (dst : DevId) (path : Path) (bytes : Bytes)
  | link (l : LinkId) (m : LinkMsg)
  | flit (l : LinkId) (fseq : Nat) (bytes : Bytes)
  /-- A transport datagram: its headers, their bytes from the Ethernet header to the UDP header, and the UDP payload. -/
  | datagram (pl : PlaneId) (dst : DevId) (ip : IpHead) (head bytes : Bytes)
  | eth (pl : PlaneId) (tag : EthTag) (m : EthMsg)
  /-- A message of a staged commit, with the sender's epoch (spec/05 R119). -/
  | cfg (dst : DevId) (epoch : Nat) (m : CfgMsg)
  | timeMsg (l : LinkId) (dt sysOffset epoch master fabricCount : Nat) (table : Bytes) (ref : Bool)
  | pair (bytes : Bytes)
  | pairTether (pl : PlaneId) (dst : DevId) (bytes : Bytes)
  | dual (bytes : Bytes)
  /-- An SPDM response: its response code and what it carries. -/
  | spdm (b : SpdmBinding) (code : Nat) (bytes : Bytes)
  | mctp (b : MctpBinding) (type : Nat) (bytes : Bytes)
  | smbus (bytes : Bytes)
  | smbusRelease
  | ppsOut
  /-- The identification register shifted out of the TAP (spec/21 R541). -/
  | jtagId (value : Nat)
  | mpIrq (mp : Nat)
  deriving DecidableEq, Repr

end Sys2Proof
end

