-- ==== Sys2Proof/Syntax.lean ====
section
/-!
DEFINITION. Syntax.lean: the commands of the MQ7016, one constructor per row of spec/opcode_table.json. The operands are
those that the row's rule reads: who writes, which port, link, plane, partition or stream, and the bytes or values
that arrive (notes/assumptions/1.md).
-/
namespace Sys2Proof

/-- The commands of the block: the rows of the command table, in its order. -/
inductive Instr where
  -- Registers (spec/00)
  /-- REGISTER_WRITE (R9). A write to a register that has no row of its own sets, clears or ignores its fields according to their access codes. -/
  | registerWrite (r : Requester) (a : RegAddr) (len : Nat) (v : Nat) (ep : Bool)
  /-- RC_REGISTER_READ (R9). A read of an RC register returns its value and then clears it, or, during a snapshot, subtracts the captured value. -/
  | rcRegisterRead (r : Requester) (a : RegAddr) (len : Nat)
  /-- LOW_HALF_READ (R11). A 32-bit read of the low half of a 64-bit register latches the high half for that requester. -/
  | lowHalfRead (r : Requester) (off : Nat)
  /-- HIGH_HALF_READ (R11). A 32-bit read of the high half of a 64-bit register returns the requester's latched value, or the live value when it holds no latch. -/
  | highHalfRead (r : Requester) (off : Nat)
  -- Reset, start-up and watchdog (spec/03, spec/24)
  /-- PWR_GOOD_FALL (R45). PWR_GOOD going low enters COLD_RESET from any state. -/
  | pwrGoodFall
  /-- BOARD_RESET_ASSERT (R45). BOARD_RESET_n going low enters COLD_RESET from any state. -/
  | boardResetAssert
  /-- RAIL_BELOW_THRESHOLD (R597). A rail that stays below its monitor threshold for 2 µs causes a cold reset. -/
  | railBelowThreshold (rail : Nat)
  /-- TEST_EN_HIGH (R590). TEST_EN read high holds the device in COLD_RESET. -/
  | testEnHigh
  /-- COLD_RESET_RELEASE (R50). Once PWR_GOOD and BOARD_RESET_n are high and the main PLL is locked, the device sets the cold cause bit and enters ROM. -/
  | coldResetRelease
  /-- DEV_RESET_REQ_WARM (R45). A keyed write of DEV_RESET_REQ with WARM set triggers a warm reset. -/
  | devResetReqWarm (r : Requester) (v : Nat)
  /-- DEV_RESET_REQ_PARTITION (R45). A keyed write of DEV_RESET_REQ with PARTITION bits set resets the named partitions. -/
  | devResetReqPartition (r : Requester) (v : Nat)
  /-- WARM_RESET_COMPLETE (R50). When the non-AON domains have reset, the device enters ROM. -/
  | warmResetComplete
  /-- PARTITION_RESET_COMPLETE (R48). The partition resumes accepting descriptors when its reset has ended. -/
  | partitionResetComplete (p : PartId)
  /-- PERST_ASSERT (R45). PERST_n of a port going low resets the port and the partition mapped to it. -/
  | perstAssert (k : PortId)
  /-- PERST_RELEASE (R130). Release of PERST_n starts link training of the port within 20 ms. -/
  | perstRelease (k : PortId)
  /-- FLR (R155). A received Initiate Function Level Reset write discards unfinished TLPs and assembly, stops host writes and resets the partition. -/
  | flr (k : PortId)
  /-- FUNCTION_READY (R48). After FLR or port reset the function stops answering Request Retry Status and becomes ready. -/
  | functionReady (k : PortId)
  /-- ROM_BANK_CHOICE (R92). The ROM checks both headers and chooses the bank to verify, or holds a SAFE cause. -/
  | romBankChoice
  /-- IMAGE_VERIFY_DONE (R91). Verification of a bank ends; a failed bank leads to verifying the other candidate, otherwise the device enters SELFTEST. -/
  | imageVerifyDone (errs : List Nat)
  /-- SELFTEST_DONE (R542). The known-answer tests end and the device enters ERROR, SAFE or FW_LOAD. -/
  | selftestDone (failed : Nat)
  /-- GARKU_LOAD_DONE (R50). The Garku component has been loaded and its digest checked; the device enters BIST_READ or SAFE. -/
  | garkuLoadDone (errs : List Nat)
  /-- PORT_RETRAIN_DONE (R131). A port retrained at FW_LOAD reaches L0 and completes configuration requests. -/
  | portRetrainDone (k : PortId) (gen : Nat) (width : Nat)
  /-- BIST_READ_DONE (R564). The BIST log is read and the standing applied, disabling clusters or entering SAFE. -/
  | bistReadDone (errs : List Nat)
  /-- HBM_TRAIN_DONE (R51). HBM training ends; a failing stack enters SAFE, otherwise HBM is cleared. -/
  | hbmTrainDone (ok : Bool)
  /-- HBM_CLEAR_DONE (R61). When HBM has been cleared, the device releases GROUP_SYNC_n. -/
  | hbmClearDone (errs : List Nat)
  /-- GROUP_SYNC_RISE (R62). A run of 1,000 high samples of GROUP_SYNC_n starts the beat, sets DT to 0 and ALIGNED to 1. -/
  | groupSyncRise (errs : List Nat)
  /-- GROUP_SYNC_LINE_HIGH (R63). The line read high while the device drives it low records cause line-high, and the device starts unaligned at its release. -/
  | groupSyncLineHigh
  /-- ALIGN_TIMEOUT (R63). The alignment timeout expires and the device starts the beat unaligned. -/
  | alignTimeout (errs : List Nat)
  /-- LINK_TRAIN_END (R50). Every connected link is up, and the device enters TIME_SYNC. -/
  | linkTrainEnd
  /-- LINK_TRAIN_TIMEOUT (R50). The link training timeout expires, and the device enters TIME_SYNC with LINKS_INCOMPLETE set if a link is down. -/
  | linkTrainTimeout
  /-- TIME_SYNC_ACHIEVED (R99). In-group sync holds and the device enters READY. -/
  | timeSyncAchieved
  /-- TIME_SYNC_TIMEOUT (R64). The time sync timeout expires and the device enters READY with TIME_UNSYNC set. -/
  | timeSyncTimeout
  /-- THERMAL_TRIP (R504). A sensor or HBM stack at 115 °C enters TRIPPED, asserts THERMTRIP_n and stops all clocks except AON. -/
  | thermalTrip (sensor : Nat) (value : Nat)
  /-- FW_WATCHDOG (R570). Watchdog expiry records FW_WATCHDOG and restarts policy firmware, or at a second expiry brings a warm reset. -/
  | fwWatchdog
  /-- FALLBACK_ALERT_STEP (R571). While firmware restarts, each 10 ms of thermal alert lowers the P-state one step. -/
  | fallbackAlertStep
  /-- MGT_WDT_REFRESH (R570). A keyed write of MGT_WDT refreshes the watchdog and ends the fallback policy. -/
  | mgtWdtRefresh (r : Requester) (v : Nat)
  -- Time base (spec/05)
  /-- TIME_MESSAGE_SEND (R99). Every 100 µs a group time master sends a time message on each bond. -/
  | timeMessageSend
  /-- TIME_MESSAGE_RECEIVE (R99). A received time message measures the offset, steers DT, or in TIME_SYNC sets DT to the group's time. -/
  | timeMessageReceive (l : LinkId) (dt : Nat) (sysOffset : Nat) (epoch : Nat) (master : Nat) (fabricCount : Nat) (table : Bytes) (ref : Bool)
  /-- TIME_REF_LOCK (R100). TIME_REF having stayed within ±50 ppm for 1 ms becomes the TIME clock frequency source. -/
  | timeRefLock
  /-- PPS_IN_EDGE (R102). A PPS_IN rising edge is timestamped and used as a system reference, setting SYS_OFFSET on first lock. -/
  | ppsInEdge
  /-- PPS_OUT_EDGE (R104). At each ST multiple of 10⁹ ns the device drives a rising edge on PPS_OUT. -/
  | ppsOutEdge
  /-- PTP_EVENT_MESSAGE (R380). A PTP message is timestamped and processed by the group master's PTP port. -/
  | ptpEventMessage (pl : PlaneId) (e : PtpEvent)
  /-- SYS_SYNC_LOSS (R103). After 100 ms without a valid reference measurement SYS_SYNC drops to 0. -/
  | sysSyncLoss
  /-- PTP_PORT_MOVE (R379). When the PTP plane leaves UP the port moves to the next plane within 1 ms. -/
  | ptpPortMove
  -- Staged commits (spec/05)
  /-- CFG_STAGE_OPEN (R123). The OPEN command of CFG_STAGE_CTL clears the stage buffer and unlocks the stage fields. -/
  | cfgStageOpen (r : Requester) (v : Nat)
  /-- CFG_STAGE_SEAL (R113). The SEAL command locks the stage and starts the consistency checker. -/
  | cfgStageSeal (r : Requester) (v : Nat)
  /-- CHECKER_DONE (R113). The consistency checker finishes and holds a YES verdict or records CFG_CHECK_FAIL. -/
  | checkerDone
  /-- CFG_STAGE_START (R115). The START command makes the device coordinator and sends its vote request. -/
  | cfgStageStart (r : Requester) (v : Nat)
  /-- CFG_STAGE_ABORT (R117). The ABORT command in STAGING or SEALED discards the stage. -/
  | cfgStageAbort (r : Requester) (v : Nat)
  /-- VOTE_REQUEST_RECEIVE (R115). A device in scope votes YES or NO on a received vote request. -/
  | voteRequestReceive (src : DevId) (epoch : Nat) (head : CommitHead) (digest : Bytes)
  /-- VOTE_RECEIVE (R116). The coordinator collects a vote and decides COMMIT on all YES or ABORT on the first NO. -/
  | voteReceive (src : DevId) (epoch : Nat) (id : Nat) (yes : Bool) (reason : Nat)
  /-- VOTE_DEADLINE (R116). At I − 1 ms with a vote missing, the coordinator decides ABORT with reason 0x07. -/
  | voteDeadline
  /-- OUTCOME_RECEIVE (R123). A COMMIT outcome arms the device; an ABORT discards its stage and records CFG_VOTE_ABORT. -/
  | outcomeReceive (src : DevId) (epoch : Nat) (id : Nat) (commit : Bool) (reason : Nat) (voter : Option DevId)
  /-- ANNOUNCEMENT_RECEIVE (R116). A fabric-commit announcement is recorded and a group master passes it to its members. -/
  | announcementReceive (src : DevId) (epoch : Nat) (head : CommitHead)
  /-- COMMIT_INSTANT (R118). At the Commit Instant an armed device applies its items, and a voted device without outcome enters FENCED. -/
  | commitInstant
  /-- FENCED_QUERY (R121). Every 1 ms a fenced device queries the scope for the outcome. -/
  | fencedQuery
  /-- QUERY_RECEIVE (R121). A received commit query is answered with the outcome held, and a reported outcome is adopted by a fenced device. -/
  | queryReceive (src : DevId) (epoch : Nat) (msg : CfgMsg)
  /-- FENCE_TIMEOUT (R121). At I + 10 ms with no outcome reported, a fenced device takes ABORT. -/
  | fenceTimeout
  -- Host ports (spec/06)
  /-- BAR2_WRITE (R134). A write to a BAR2 window assembles descriptor bytes, discarding an interrupted block. -/
  | bar2Write (r : Requester) (off : Nat) (data : Bytes) (ep : Bool)
  /-- BAR4_READ (R136). A BAR4 read returns HBM bytes of the partition region, with EP on poisoned granules or UR out of range. -/
  | bar4Read (r : Requester) (off : Nat) (len : Nat) (ecc : List EccFind)
  /-- BAR4_WRITE (R136). A BAR4 write stores bytes in the partition region or is discarded with FIREWALL out of range. -/
  | bar4Write (r : Requester) (off : Nat) (data : Bytes) (ep : Bool) (ecc : List EccFind)
  /-- POWER_STATE_D3HOT (R149). A PowerState write of D3hot holds the partition's DMA and MSI-X and lets the link enter L1. -/
  | powerStateD3hot (k : PortId)
  /-- POWER_STATE_D0 (R152). A PowerState write of D0 issues held requests and withdraws a scheduled PM_PME. -/
  | powerStateD0 (k : PortId)
  /-- PM_PME_TRANSMIT (R152). A scheduled PM_PME is handed to the physical layer and WAKE_CAUSE.SENT set. -/
  | pmPmeTransmit (k : PortId)
  /-- PM_PME_RETRANSMIT (R152). Every 100 ms while PME_Status is 1 in D3hot the PM_PME is retransmitted. -/
  | pmPmeRetransmit (k : PortId)
  /-- ASPM_L1_ENTRY (R150). After 8 µs with nothing to send the port requests L1. -/
  | aspmL1Entry (k : PortId)
  /-- PME_TURN_OFF (R153). PME_Turn_Off stops DMA; PME_TO_Ack is sent when no read is outstanding. -/
  | pmeTurnOff (k : PortId)
  /-- DL_DOWN (R157). Data link down resets the function and, with work outstanding, drops writes and resets the partition after reads time out. -/
  | dlDown (k : PortId)
  /-- BUS_MASTER_ENABLE_CHANGE (R140). Bus Master Enable cleared holds DMA and MSI-X; set issues the held requests in order. -/
  | busMasterEnableChange (k : PortId) (on : Bool)
  /-- MSIX_UNMASK (R147). Unmasking a vector with its pending bit set sends one message. -/
  | msixUnmask (k : PortId) (v : Fin 16)
  /-- DMA_READ_COMPLETION (R145). A read completion delivers data, poisons on UR, CA or EP, or is discarded when late. -/
  | dmaReadCompletion (k : PortId) (tag : Nat) (status : CplStatus) (data : Bytes)
  /-- DMA_COMPLETION_TIMEOUT (R144). A read whose completion timeout expires poisons its bytes or tears down the job. -/
  | dmaCompletionTimeout (k : PortId) (tag : Nat)
  /-- IDE_INTEGRITY_FAIL (R148). An IDE integrity failure makes the stream Insecure, stops DMA and resets the partition. -/
  | ideIntegrityFail (k : PortId) (stream : Fin 5)
  -- Queues and commands (spec/07, spec/08)
  /-- RING_TAIL_WRITE (R164). A RING_TAIL write is the doorbell, or is refused with QUE_OVERRUN beyond the ring size. -/
  | ringTailWrite (r : Requester) (st : StreamId) (v : Nat)
  /-- RING_CTL_WRITE (R164). A RING_CTL write sets the ring, or while enabled only its clearing of ENABLE applies. -/
  | ringCtlWrite (r : Requester) (st : StreamId) (v : Nat)
  /-- RING_FETCH_COMPLETE (R161). A ring descriptor fetch completes and the descriptor enters the queue in ring order. -/
  | ringFetchComplete (p : PartId) (st : StreamId)
  /-- SYC_HOST_ADD (R177). A host add to a sync counter is applied, recording SYC_OVERFLOW on saturation, or discarded while halted. -/
  | sycHostAdd (r : Requester) (idx : Nat) (v : Nat)
  /-- NOP (R193). The NOP command completes at once. -/
  | nop (p : PartId) (st : StreamId)
  /-- JOB_BEGIN (R185). JOB_BEGIN opens a job in XFR or joins a stream to the open job, resolving its settings. -/
  | jobBegin (p : PartId) (st : StreamId)
  /-- JOB_END (R186). JOB_END ends a stream's share and the job ends when every stream has completed it. -/
  | jobEnd (p : PartId) (st : StreamId)
  /-- CT_SET (R178). CT.SET writes a scalar counter. -/
  | ctSet (p : PartId) (st : StreamId)
  /-- CT_ADD (R178). CT.ADD adds to a scalar counter modulo 2³². -/
  | ctAdd (p : PartId) (st : StreamId)
  /-- CMP_SKIP (R179). CMP.SKIP compares and, when true, consumes the next n descriptors undecoded. -/
  | cmpSkip (p : PartId) (st : StreamId)
  /-- CMP_BRANCH (R179). CMP.BRANCH in a resident program sets the program counter when its comparison holds. -/
  | cmpBranch (p : PartId) (st : StreamId)
  /-- SYC_WAIT (R202). SYC.WAIT completes when a sync counter meets a 32-bit condition. -/
  | sycWait (p : PartId) (st : StreamId)
  /-- SYC_SET (R202). SYC.SET writes a sync counter. -/
  | sycSet (p : PartId) (st : StreamId)
  /-- TD_SET (R181). TD.SET writes or clears a tensor descriptor after its checks. -/
  | tdSet (p : PartId) (st : StreamId)
  /-- PRG_RUN (R165). PRG.RUN switches the stream to a resident program of a loaded model. -/
  | prgRun (p : PartId) (st : StreamId)
  /-- PRG_END (R165). PRG.END returns the stream to its queue and completes the PRG.RUN. -/
  | prgEnd (p : PartId) (st : StreamId)
  /-- RTE_SELECT (R203). RTE.SELECT scores tokens against the gate matrix and writes their token-choice clause records. -/
  | rteSelect (p : PartId)
  /-- TOKEN_SELECTION_COMMIT (R292). A token's selection commits when its clause records are written, confirming or cancelling speculative clauses. -/
  | tokenSelectionCommit (p : PartId) (pos : Nat)
  /-- RTE_PROPOSE (R204). RTE.PROPOSE writes each expert's best local expert-choice candidates. -/
  | rtePropose (p : PartId)
  /-- RTE_ASSIGN (R205). RTE.ASSIGN turns the ballot result into the clause lists of this device's tokens. -/
  | rteAssign (p : PartId)
  /-- SRT_BUCKET (R207). SRT.BUCKET counting-sorts clauses into index and offset tensors, resolving them with KEY 0. -/
  | srtBucket (p : PartId)
  /-- DSP_GATHER (R208). DSP.GATHER copies rows on the device through an index tensor. -/
  | dspGather (p : PartId)
  /-- SEQ_LD (R245). SEQ.LD loads rows into a T tile on every core of the job. -/
  | seqLd (p : PartId) (ecc : List EccFind)
  /-- SEQ_ST (R246). SEQ.ST stores tile rows to a tensor, scattering with an index. -/
  | seqSt (p : PartId) (ecc : List EccFind)
  /-- SEQ_ZERO (R242). SEQ.ZERO clears a tile, its tag and its poison bits. -/
  | seqZero (p : PartId)
  /-- SEQ_MMA (R241). SEQ.MMA accumulates exact tile products into an accumulator tile. -/
  | seqMma (p : PartId) (ecc : List EccFind)
  /-- SEQ_ACT (R243). SEQ.ACT applies an activation function to tile elements. -/
  | seqAct (p : PartId) (ecc : List EccFind)
  /-- SEQ_MUL (R242). SEQ.MUL multiplies two tiles element by element. -/
  | seqMul (p : PartId) (ecc : List EccFind)
  /-- SEQ_SCALE (R242). SEQ.SCALE multiplies tile rows by per-row FP32 weights. -/
  | seqScale (p : PartId) (ecc : List EccFind)
  /-- SEQ_CVT (R242). SEQ.CVT rounds accumulator rows to BF16 into a T tile. -/
  | seqCvt (p : PartId) (ecc : List EccFind)
  /-- SEQ_EXPERT (R215). SEQ.EXPERT runs one expert pass over up to 64 rows. -/
  | seqExpert (p : PartId) (ecc : List EccFind)
  /-- CMB_ACCUM (R218). CMB.ACCUM adds weighted result rows into their tokens' Reel accumulators. -/
  | cmbAccum (p : PartId)
  /-- CMB_FINAL (R219). CMB.FINAL rounds the accumulators of a slot range to BF16 output rows. -/
  | cmbFinal (p : PartId)
  /-- COL_COMM_CREATE (R386). COL.COMM_CREATE checks the member list, takes a handle and sends JOIN to its group leader. -/
  | colCommCreate (p : PartId)
  /-- COL_COMM_DESTROY (R387). COL.COMM_DESTROY frees the communicator handle on this device. -/
  | colCommDestroy (p : PartId)
  /-- COL_ALLREDUCE (R390). COL.ALLREDUCE reduces every member's source into every member's destination. -/
  | colAllreduce (p : PartId)
  /-- COL_ALLGATHER (R389). COL.ALLGATHER concatenates every member's source in position order. -/
  | colAllgather (p : PartId)
  /-- COL_REDUCESCATTER (R389). COL.REDUCESCATTER gives each position its slice of the reduction. -/
  | colReducescatter (p : PartId)
  /-- COL_BROADCAST (R392). COL.BROADCAST copies the root's source to every member. -/
  | colBroadcast (p : PartId)
  /-- COL_BARRIER (R389). COL.BARRIER completes after every member has started it. -/
  | colBarrier (p : PartId)
  /-- COL_ALLTOALLV (R389). COL.ALLTOALLV sends each member's blocks directly to each position. -/
  | colAlltoallv (p : PartId)
  /-- COL_BALLOT_MERGE (R391). COL.BALLOT_MERGE merges every member's candidates into the global C best per expert. -/
  | colBallotMerge (p : PartId)
  /-- XFR_TOKENS_IN (R224). XFR.TOKENS_IN reads host token rows into slots, acquiring each slot. -/
  | xfrTokensIn (p : PartId)
  /-- XFR_TOKENS_OUT (R330). XFR.TOKENS_OUT writes output rows and then the completion record, freeing the slots. -/
  | xfrTokensOut (p : PartId)
  /-- XFR_COPY (R226). XFR.COPY copies a tensor between host and device or within the device. -/
  | xfrCopy (p : PartId)
  /-- XFR_LOAD_MODEL (R230). XFR.LOAD_MODEL checks a manifest, places its sections, checks digests and writes the report. -/
  | xfrLoadModel (p : PartId)
  /-- XFR_UNLOAD_MODEL (R232). XFR.UNLOAD_MODEL frees a resident model's HBM, TDs and slot. -/
  | xfrUnloadModel (p : PartId)
  /-- CONJ_STEP (R210). CONJ.STEP sorts, sends and serves the clauses of one layer step and combines its own tokens' results. -/
  | conjStep (p : PartId)
  /-- COMMAND_COMPLETE (R160). An executing command completes, applies its signal, sends its IRQ and frees its queue entry. -/
  | commandComplete (p : PartId) (st : StreamId)
  /-- SYC_WAIT_TIMEOUT (R174). A wait not met within SYC_WAIT_MS records SYC_WAIT_TIMEOUT and the command is not executed. -/
  | sycWaitTimeout (p : PartId) (st : StreamId)
  /-- TEARDOWN_COMPLETE (R187). Teardown steps 4 and 5 end and QUE_STATUS.HALTED returns to 0. -/
  | teardownComplete (p : PartId)
  -- Layer step, passes and packets (spec/01, spec/10, spec/11, spec/12)
  /-- PASS_START (R20). The SEQ starts an expert pass when 64 rows are ready, at closure, or when a full store forces it. -/
  | passStart (p : PartId) (expert : Nat)
  /-- PASS_END (R20). An expert pass ends and its results are returned or held. -/
  | passEnd (p : PartId) (ecc : List EccFind)
  /-- REISSUE_PASS_TIMER (R470). 2 µs after the latest re-issued row for an expert with no step executing, a pass starts. -/
  | reissuePassTimer (p : PartId) (expert : Nat)
  /-- SHADOW_SCORE_DONE (R287). Shadow scoring of a token ends and the predictions that clear the margin are resolved for speculation. -/
  | shadowScoreDone (p : PartId) (pos : Nat)
  /-- ROW_RECEIVE (R312). A ROW packet is checked, epoch-checked, ordered and stored, admitted against capacity or forwarded as a relay. -/
  | rowReceive (src : DevId) (path : Path) (pkt : Bytes)
  /-- RESULT_RECEIVE (R324). A RESULT packet is checked and combined into its token's Reel record, or discarded as stale or duplicate. -/
  | resultReceive (src : DevId) (path : Path) (pkt : Bytes)
  /-- VERDICT_RECEIVE (R296). A verdict packet confirms or cancels stored, computing or held speculative clauses. -/
  | verdictReceive (src : DevId) (path : Path) (pkt : Bytes)
  /-- CLOSE_RECEIVE (R19). A close marker is recorded and closes the clause set when one has arrived from every participant. -/
  | closeReceive (src : DevId) (path : Path) (pkt : Bytes)
  /-- DROP_RECEIVE (R275). A drop notice counts its clause as received without an add. -/
  | dropReceive (src : DevId) (path : Path) (pkt : Bytes)
  /-- REFUSE_RECEIVE (R314). A REFUSE makes the sender retransmit, re-issue or cancel the refused clause by its reason. -/
  | refuseReceive (src : DevId) (path : Path) (pkt : Bytes)
  /-- STEP_CLOSURE_PROBE (R469). After each 1 ms without a contribution past closure, a CONJ.STEP probes the device holding its clauses. -/
  | stepClosureProbe (p : PartId)
  /-- TEARDOWN_SERVE_END (R471). SYC_WAIT_MS after a teardown, the device stops serving a torn-down step and frees its rows. -/
  | teardownServeEnd (p : PartId)
  -- Partitions (spec/16)
  /-- DEADLINE_CHECKPOINT (R420). At checkpoint S or D a CONJ.STEP projects the job's completion and sets the fallback latch if late. -/
  | deadlineCheckpoint (p : PartId) (dispatch : Bool)
  /-- REGULATOR_WINDOW_REFILL (R416). At each 10 µs window boundary each regulator's credit is refilled up to its budget. -/
  | regulatorWindowRefill
  /-- REQUEST_AGING (R413). Each 100 µs a waiting request is raised one priority level, up to HIGH. -/
  | requestAging (p : PartId)
  -- Bridle links (spec/13)
  /-- BRL_SIGNAL_DETECT (R337). Far-end signal on all four lanes moves a Bridle link from DETECT to EQUALIZE. -/
  | brlSignalDetect (l : LinkId)
  /-- BRL_EQUALIZE_DONE (R337). Bit error ratio below 10⁻⁵ for 100 µs moves the link to IDENTIFY. -/
  | brlEqualizeDone (l : LinkId)
  /-- IDENTIFY_RECEIVE (R339). A LINK identify flit is compared, moving the link to KEYING or ACTIVE, MISWIRED or DOWN. -/
  | identifyReceive (l : LinkId) (i : Identity)
  /-- BRL_KEYING_DONE (R537). Bridle key exchange and confirmation succeed or fail, moving the link to ACTIVE or DOWN. -/
  | brlKeyingDone (l : LinkId) (ok : Bool)
  /-- BRL_TRAIN_TIMEOUT (R337). LINKTRAIN_MS since DETECT moves a training link to DOWN with BRL_DOWN cause 1. -/
  | brlTrainTimeout (l : LinkId)
  /-- BRL_DOWN_RETRY (R337). 1 s after entering DOWN or MISWIRED the link re-enters DETECT. -/
  | brlDownRetry (l : LinkId)
  /-- FLIT_RECEIVE (R341). A flit is FEC- and CRC-checked, acknowledged and delivered, or discarded with NAK. -/
  | flitReceive (l : LinkId) (fec : Nat) (flit : Bytes) (msg : Option LinkMsg)
  /-- NAK_RECEIVE (R341). A NAK makes the sender replay from ACK + 1. -/
  | nakReceive (l : LinkId) (ack : Nat)
  /-- NAK_REPEAT (R341). Every 1 µs until the awaited flit arrives the receiver repeats NAK. -/
  | nakRepeat (l : LinkId)
  /-- ACK_TIMER (R341). 200 ns without an acknowledgement sends one. -/
  | ackTimer (l : LinkId)
  /-- INTEGRITY_RECEIVE (R344). An INTEGRITY flit verifies the GCM tag of the previous 31 flits, releasing or replaying them. -/
  | integrityReceive (l : LinkId) (flit : Bytes)
  /-- TIME_FLIT_RECEIVE (R345). A TIME flit exchange measures the link's one-way delay. -/
  | timeFlitReceive (l : LinkId) (farDt : Nat) (farRx : Nat)
  /-- LOSS_OF_LINK (R343). Loss of signal or of good flits retrains the link and re-sends unacknowledged packets elsewhere. -/
  | lossOfLink (l : LinkId)
  /-- BOND_ADVERTISEMENT_SEND (R352). Every 100 µs and at each bond change a member advertises its bond map. -/
  | bondAdvertisementSend
  /-- BOND_ADVERTISEMENT_RECEIVE (R351). A bond advertisement updates relay eligibility and the relay sets. -/
  | bondAdvertisementReceive (l : LinkId) (a : Advert)
  /-- BRL_IDLE_TIMER (R355). After BRL_IDLE_US without sequenced flits the link sends SLEEP_REQ. -/
  | brlIdleTimer (l : LinkId)
  /-- SLEEP_REQ_RECEIVE (R355). A SLEEP_REQ is answered SLEEP_ACK and both ends enter SLEEP, or SLEEP_NAK. -/
  | sleepReqReceive (l : LinkId)
  /-- WAKE_PATTERN (R355). A wake pattern returns a SLEEP link to ACTIVE. -/
  | wakePattern (l : LinkId)
  /-- BRL_RETRAIN (R343). The RETRAIN command of BRL_CTL retrains a Bridle link. -/
  | brlRetrain (r : Requester) (l : LinkId) (v : Nat)
  /-- BRL_DORMANT (R355). The DORMANT command of BRL_CTL takes a link that is not a bond's last to DORMANT. -/
  | brlDormant (r : Requester) (l : LinkId) (v : Nat)
  /-- BRL_WAKE (R355). The WAKE command of BRL_CTL brings a DORMANT link back to DETECT. -/
  | brlWake (r : Requester) (l : LinkId) (v : Nat)
  -- Tether (spec/14)
  /-- TTH_ALIGN_DONE (R363). PCS alignment and FEC lock move a plane to KEYING or UP. -/
  | tthAlignDone (pl : PlaneId)
  /-- MKA_SECURED (R377). MKA securing the port moves the plane from KEYING to UP. -/
  | mkaSecured (pl : PlaneId) (peerPriority : Nat) (xpn : Bool)
  /-- TTH_TRAIN_TIMEOUT (R363). LINKTRAIN_MS in ALIGN or KEYING takes the plane to DOWN with TTH_DOWN. -/
  | tthTrainTimeout (pl : PlaneId)
  /-- TTH_FAULT (R363). Loss of alignment or a fault lasting 100 µs takes an UP plane to DOWN and ends its contexts. -/
  | tthFault (pl : PlaneId)
  /-- TTH_DOWN_RETRY (R363). 1 s after entering DOWN the plane re-enters ALIGN. -/
  | tthDownRetry (pl : PlaneId)
  /-- MKA_PEER_LOSS (R377). MKA live peer loss for 6 s takes the port to DOWN with cause 3. -/
  | mkaPeerLoss (pl : PlaneId)
  /-- MACSEC_REKEY (R377). A new SAK is taken at the PN limit or every 60 s. -/
  | macsecRekey (pl : PlaneId)
  /-- TTH_RETRAIN (R384). The RETRAIN command of TTH_CTL retrains a plane. -/
  | tthRetrain (r : Requester) (pl : PlaneId) (v : Nat)
  /-- TTH_DORMANT (R363). The DORMANT command of TTH_CTL takes a plane without PTP to DORMANT. -/
  | tthDormant (r : Requester) (pl : PlaneId) (v : Nat)
  /-- TTH_WAKE (R363). The WAKE command of TTH_CTL returns a DORMANT plane to ALIGN. -/
  | tthWake (r : Requester) (pl : PlaneId) (v : Nat)
  /-- TTH_DATA_RECEIVE (R372). A DATA segment is reassembled in the data pool and a complete packet passes to flow ordering. -/
  | tthDataReceive (pl : PlaneId) (fr : FrameCheck) (dgram : Bytes)
  /-- TTH_ACK_RECEIVE (R371). An ACK advances windows, triggers fast retransmission and adjusts the sending rate. -/
  | tthAckReceive (pl : PlaneId) (fr : FrameCheck) (dgram : Bytes)
  /-- TTH_HELLO_RECEIVE (R369). A HELLO opens the responder's context and is answered with HELLO_ACK. -/
  | tthHelloReceive (pl : PlaneId) (fr : FrameCheck) (dgram : Bytes)
  /-- TTH_HELLO_ACK_RECEIVE (R369). A HELLO_ACK fixes the segment size and ECN mode of the context. -/
  | tthHelloAckReceive (pl : PlaneId) (fr : FrameCheck) (dgram : Bytes)
  /-- CLOSE_CTX_RECEIVE (R370). A CLOSE_CTX closes the context, or reopens it when unacknowledged data remains. -/
  | closeCtxReceive (pl : PlaneId) (fr : FrameCheck) (dgram : Bytes)
  /-- HELLO_RETRY (R369). Every 200 µs without HELLO_ACK the opener sends HELLO of the other size. -/
  | helloRetry (ctx : Nat)
  /-- TTH_ACK_TIMER (R371). 10 µs after the first unacknowledged segment the receiver sends an ACK. -/
  | tthAckTimer (ctx : Nat)
  /-- RTO_EXPIRY (R372). On RTO expiry the oldest segment is retransmitted, RTO doubles and the path may change. -/
  | rtoExpiry (ctx : Nat)
  /-- CONTEXT_IDLE_CLOSE (R370). A context idle for 1 ms is closed with CLOSE_CTX. -/
  | contextIdleClose (ctx : Nat)
  /-- TTH_RETX_EXHAUST (R373). A segment or HELLO unanswered for TTH_RETX_MS ends the context and marks the plane failed toward the peer. -/
  | tthRetxExhaust (ctx : Nat)
  /-- FAILED_PLANE_PROBE (R373). Every 100 ms a HELLO is tried on a plane marked failed toward a peer. -/
  | failedPlaneProbe (pl : PlaneId) (peer : DevId) (part : PartId)
  /-- ARP_ND_REQUEST (R367). An ARP or Neighbor Solicitation for the device's own address is answered. -/
  | arpNdRequest (pl : PlaneId) (frame : EthCheck) (asker : Nat) (target : Nat)
  /-- NEIGHBOUR_REFRESH (R367). A neighbour cache entry is refreshed after 30 s. -/
  | neighbourRefresh (pl : PlaneId) (addr : Nat)
  /-- ICMP_ECHO_REQUEST (R366). An ICMP echo request is answered, up to 100 per second per plane. -/
  | icmpEchoRequest (pl : PlaneId) (frame : EthCheck) (asker : Nat) (ident : Nat)
  /-- PAUSE_FRAME_RECEIVE (R361). A PAUSE or PFC frame is discarded and counted. -/
  | pauseFrameReceive (pl : PlaneId)
  -- Collectives (spec/15)
  /-- COL_DATA_RECEIVE (R397). A collective DATA piece is reassembled; a complete chunk is CRC-checked, acknowledged or NACKed and reduced. -/
  | colDataReceive (src : DevId) (path : Path) (pkt : Bytes) (ops : Option ColOps)
  /-- COL_ACK_RECEIVE (R397). A chunk ACK frees the producer's copy and its slot. -/
  | colAckReceive (src : DevId) (path : Path) (pkt : Bytes)
  /-- COL_NACK_RECEIVE (R397). A chunk NACK makes the producer resend the whole chunk. -/
  | colNackReceive (src : DevId) (path : Path) (pkt : Bytes)
  /-- JOIN_RECEIVE (R386). A JOIN is collected by a leader or the coordinator toward READY. -/
  | joinReceive (src : DevId) (path : Path) (pkt : Bytes)
  /-- READY_RECEIVE (R386). READY makes a creating member's communicator ACTIVE and completes COMM_CREATE. -/
  | readyReceive (src : DevId) (path : Path) (pkt : Bytes)
  /-- COL_ABORT_RECEIVE (R403). An ABORT makes the communicator ABORTED and ends its executing COL command. -/
  | colAbortReceive (src : DevId) (path : Path) (pkt : Bytes)
  /-- COL_PROBE_RECEIVE (R400). A collective PROBE is answered with PROBE_ACK stating presence. -/
  | colProbeReceive (src : DevId) (path : Path) (pkt : Bytes)
  /-- COL_PROBE_ACK_RECEIVE (R400). A PROBE_ACK with PRESENT 0 or a higher epoch finds the member lost. -/
  | colProbeAckReceive (src : DevId) (path : Path) (pkt : Bytes)
  /-- COL_PROBE_TIMER (R400). After each 1 ms waiting in a chunk step a device probes members whose input is missing. -/
  | colProbeTimer (p : PartId)
  /-- COL_PROBE_TIMEOUT (R400). No PROBE_ACK 10 ms after the first PROBE finds the member lost. -/
  | colProbeTimeout (p : PartId) (dev : DevId)
  /-- COMM_CREATE_TIMEOUT (R386). No READY within SYC_WAIT_MS completes COMM_CREATE with status 3. -/
  | commCreateTimeout (p : PartId)
  /-- COL_COMMAND_TIMEOUT (R402). A COL command not completed within SYC_WAIT_MS records SYC_WAIT_TIMEOUT and aborts its communicator. -/
  | colCommandTimeout (p : PartId)
  /-- REDUCER_SLOT_GRANT (R395). A freed reducer slot is granted to the lowest waiting chunk. -/
  | reducerSlotGrant
  -- Dual-Line (spec/17)
  /-- DL_HELLO_RECEIVE (R439). A Dual-Line HELLO pairs, refuses or restarts pairing by settings and alignment. -/
  | dlHelloReceive (msg : Bytes)
  /-- DL_COMPARE_RECEIVE (R443). A pair COMPARE is held or decides the record's release or DL_MISMATCH. -/
  | dlCompareReceive (msg : Bytes)
  /-- DL_ABANDON_RECEIVE (R443). An ABANDON of the awaited DL_SEQ ends the compare with cause 4. -/
  | dlAbandonReceive (msg : Bytes)
  /-- DL_COMPARE_TIMEOUT (R443). No pair COMPARE within SYC_WAIT_MS ends with DL_MISMATCH cause 5. -/
  | dlCompareTimeout (p : PartId)
  /-- DL_PAIR_LINK_DOWN (R439). BL15 entering DOWN returns a PAIRED device to WAITING and ends waiting compares. -/
  | dlPairLinkDown
  -- Errors (spec/18)
  /-- PATROL_SCRUB_READ (R462). The patrol scrub reads a granule, correcting or poisoning it. -/
  | patrolScrubRead (gran : Nat) (result : Nat)
  /-- ERR_HEAD_WRITE (R477). An ERR_HEAD write records consumption, ignored when it would pass the tail or move back. -/
  | errHeadWrite (r : Requester) (v : Nat)
  -- Pairing (spec/19)
  /-- PAIR_HELLO_SEND (R479). Every 100 ms a paired device sends HELLO on BL15. -/
  | pairHelloSend
  /-- PAIR_HELLO_RECEIVE (R480). A pair HELLO decides the active and standby roles or deposition. -/
  | pairHelloReceive (msg : Bytes)
  /-- MIRROR_RECEIVE (R485). The standby stores a mirrored descriptor. -/
  | mirrorReceive (msg : Bytes)
  /-- SNAP_RECEIVE (R487). A snapshot piece fills the new buffer; a complete good snapshot becomes good and is acknowledged. -/
  | snapReceive (msg : Bytes)
  /-- HEARTBEAT_SNAPSHOT (R486). When SNAPSHOT_US passes without a job end, a heartbeat snapshot is sent. -/
  | heartbeatSnapshot (p : PartId)
  /-- PAIR_ACK_RECEIVE (R488). An ACK releases staged records, or with TORN or MISMATCH prompts a full snapshot. -/
  | pairAckReceive (msg : Bytes)
  /-- ACK_SILENCE (R481). Ack silence makes the active device continue uncovered or depose itself. -/
  | ackSilence
  /-- DEPOSED_RECEIVE (R480). A DEPOSED message makes the standby take over. -/
  | deposedReceive (msg : Bytes)
  /-- STANDBY_SILENCE (R483). Silence of 3 × SNAPSHOT_US enters TAKEOVER, sending PROBE and WITNESS_Q. -/
  | standbySilence
  /-- PAIR_PROBE_RECEIVE (R482). A pair PROBE is answered with PROBE_ACK carrying the role. -/
  | pairProbeReceive (pl : PlaneId) (msg : Bytes)
  /-- PAIR_PROBE_ACK_RECEIVE (R480). A PROBE_ACK in TAKEOVER returns to STANDBY or, with ROLE DEPOSED, takes over. -/
  | pairProbeAckReceive (pl : PlaneId) (msg : Bytes)
  /-- WITNESS_Q_RECEIVE (R483). A witness answers whether any bond or relay to the named device is up. -/
  | witnessQReceive (pl : PlaneId) (src : DevId) (msg : Bytes)
  /-- WITNESS_A_RECEIVE (R480). A WITNESS_A with REACHABLE returns the standby to STANDBY. -/
  | witnessAReceive (pl : PlaneId) (msg : Bytes)
  /-- TAKEOVER_DECISION (R483). 1 ms after the probes the standby takes over, or stays standby with no witness. -/
  | takeoverDecision
  /-- SB_ACTIVATE (R480). The ACTIVATE command of DEV_SB_CTL makes the device active. -/
  | sbActivate (r : Requester) (v : Nat)
  /-- SB_DEPOSE (R480). The DEPOSE command of DEV_SB_CTL deposes an active device. -/
  | sbDepose (r : Requester) (v : Nat)
  /-- SB_REJOIN (R480). The REJOIN command of DEV_SB_CTL returns a deposed device to WAITING. -/
  | sbRejoin (r : Requester) (v : Nat)
  -- Power (spec/20)
  /-- SET_PSTATE (R498). The SET_PSTATE command requests a P-state, refused, held or started. -/
  | setPstate (r : Requester) (v : Nat)
  /-- PSTATE_RAMP_DONE (R497). The rail reaches the raised target and CORE switches at the next beat. -/
  | pstateRampDone
  /-- RAIL_READBACK_SAMPLE (R499). Every 5 µs the VDD_CORE readback is checked and an out-of-range rail forces P5. -/
  | railReadbackSample (mv : Nat)
  /-- SENSOR_SAMPLE (R501). Every 10 µs the sensors are sampled and the thermal clamp stepped. -/
  | sensorSample (temps : List Int)
  /-- HBM_TEMP_REPORT (R501). Each 1 ms report of an HBM stack's temperature adjusts its refresh and request rate. -/
  | hbmTempReport (stack : Fin 6) (temp : Int)
  /-- POWER_ESTIMATE (R502). Every 1 µs device power is estimated and the power clamp stepped. -/
  | powerEstimate (watts : Nat)
  /-- PWR_LIMIT_W_WRITE (R517). A PWR_LIMIT_W write is clamped into 500 to 900 W. -/
  | pwrLimitWWrite (r : Requester) (v : Nat)
  /-- PWR_CLOSE_US_WRITE (R517). A PWR_CLOSE_US write is clamped into 10 to 1,000. -/
  | pwrCloseUsWrite (r : Requester) (v : Nat)
  /-- GATE (R511). The GATE command moves a cluster to CLOSING and sends a notice, or is refused. -/
  | gate (r : Requester) (v : Nat)
  /-- CLUSTER_NOTICE_TIMER (R509). Every 10 ms the notice is resent to every Tether peer with an open context. -/
  | clusterNoticeTimer
  /-- CLUSTER_NOTICE_RECEIVE (R509). A received notice with a higher NOTICE_SEQ updates the view of a device's clusters. -/
  | clusterNoticeReceive (notice : Bytes)
  /-- CLOSE_TIME_ELAPSED (R508). PWR_CLOSE_US after GATE the cluster enters DRAINING. -/
  | closeTimeElapsed (c : ClusterId)
  /-- DRAIN_COMPLETE (R508). A DRAINING cluster with no unserved row and no led pass becomes ISOLATED. -/
  | drainComplete (c : ClusterId)
  /-- DRAIN_CAP (R510). 500 µs into DRAINING held rows are refused and the cluster becomes ISOLATED. -/
  | drainCap (c : ClusterId)
  /-- ISOLATION_TIMER (R508). 20 µs after ISOLATED the cluster's power switches open. -/
  | isolationTimer (c : ClusterId)
  /-- PWR_WAKE (R508). The WAKE command returns a cluster to ON, powering and clearing it if needed. -/
  | pwrWake (r : Requester) (v : Nat)
  /-- CLUSTER_POWER_UP_DONE (R512). A woken cluster enters ON cleared and a notice is sent. -/
  | clusterPowerUpDone (c : ClusterId)
  /-- QUIET_ENTER (R515). The QUIET_ENTER command lowers the P-state and gates unneeded clusters, or is refused. -/
  | quietEnter (r : Requester) (v : Nat)
  /-- QUIET_EXIT (R515). The QUIET_EXIT command, or an exit condition, leaves QUIET and restores the P-state. -/
  | quietExit (r : Requester) (v : Nat)
  -- Security (spec/21)
  /-- PROVISION (R523). PROVISION in BLANK burns the owner-key hash, floor and PROV and warm-resets. -/
  | provision (r : Requester) (v : Nat)
  /-- DEPLOY (R523). DEPLOY burns the DEPLOY fuse and warm-resets. -/
  | deploy (r : Requester) (v : Nat)
  /-- UNLOCK_DEBUG (R523). UNLOCK_DEBUG zeroizes, burns the next UNLOCK fuse and warm-resets. -/
  | unlockDebug (r : Requester) (v : Nat)
  /-- RELOCK (R523). RELOCK burns the next RELOCK fuse and warm-resets. -/
  | relock (r : Requester) (v : Nat)
  /-- DECOMMISSION (R523). DECOMMISSION zeroizes, burns DECOM and warm-resets. -/
  | decommission (r : Requester) (v : Nat)
  /-- ZEROIZE (R523). ZEROIZE clears all keys, the vault and HBM and warm-resets. -/
  | zeroize (r : Requester) (v : Nat)
  /-- SET_VAULT (R531). SET_VAULT decrypts transported items and rewrites the key vault. -/
  | setVault (r : Requester) (v : Nat)
  /-- ADVANCE_FLOOR (R523). ADVANCE_FLOOR burns floor fuses up to the requested value. -/
  | advanceFloor (r : Requester) (v : Nat)
  /-- LOG_CLEAR (R550). LOG_CLEAR erases the security event log and writes LOG_CLEARED. -/
  | logClear (r : Requester) (v : Nat)
  /-- AUTH_LOCKOUT_END (R521). 10 s after the last failure the command lockout ends. -/
  | authLockoutEnd
  /-- SPDM_GET_CERTIFICATE (R533). GET_CERTIFICATE returns the slot 0 chain, or empty on mismatch. -/
  | spdmGetCertificate (bd : SpdmBinding) (slot : Nat) (off : Nat) (len : Nat)
  /-- SPDM_CHALLENGE (R533). CHALLENGE is answered with a signature by the alias key. -/
  | spdmChallenge (bd : SpdmBinding) (slot : Nat) (nonce : Bytes)
  /-- SPDM_GET_MEASUREMENTS (R534). GET_MEASUREMENTS returns the allowed measurement indices signed by the alias key. -/
  | spdmGetMeasurements (bd : SpdmBinding) (op : Nat) (nonce : Bytes)
  /-- SPDM_KEY_EXCHANGE (R533). KEY_EXCHANGE opens a session, or answers Busy beyond 8. -/
  | spdmKeyExchange (bd : SpdmBinding) (share : Bytes)
  /-- SPDM_KEY_UPDATE (R533). KEY_UPDATE refreshes a session's keys. -/
  | spdmKeyUpdate (bd : SpdmBinding) (session : Nat)
  /-- SPDM_HEARTBEAT (R533). HEARTBEAT keeps an SPDM session alive. -/
  | spdmHeartbeat (bd : SpdmBinding) (session : Nat)
  /-- IDE_KM_QUERY (R535). IDE_KM QUERY reports the port's IDE capability. -/
  | ideKmQuery (bd : SpdmBinding) (session : Nat) (port : PortId)
  /-- IDE_KM_KEY_PROG (R535). KEY_PROG programs an IDE key set. -/
  | ideKmKeyProg (bd : SpdmBinding) (session : Nat) (port : PortId) (stream : Fin 5) (set : Fin 12) (key : Nat)
  /-- IDE_KM_K_SET_GO (R535). K_SET_GO activates an IDE key set. -/
  | ideKmKSetGo (bd : SpdmBinding) (session : Nat) (port : PortId) (stream : Fin 5) (set : Fin 12)
  /-- IDE_KM_K_SET_STOP (R535). K_SET_STOP stops an IDE key set. -/
  | ideKmKSetStop (bd : SpdmBinding) (session : Nat) (port : PortId) (stream : Fin 5) (set : Fin 12)
  /-- BRL_REKEY (R537). Every 2³² groups or every hour the Bridle keys are renewed in-band. -/
  | brlRekey (l : LinkId)
  /-- JTAG_INSTRUCTION (R541). A TAP instruction acts according to the life-cycle state or acts as BYPASS. -/
  | jtagInstruction (ir : Nat)
  /-- ENTROPY_TEST_FAIL (R543). A failed conditional test enters ERROR and records SEC_SELFTEST_FAIL. -/
  | entropyTestFail (test : Nat)
  /-- ERROR_WARM_RESET (R544). 10 ms after entering ERROR, with the retry count below 3, the device warm-resets. -/
  | errorWarmReset
  -- Self-test (spec/22)
  /-- BIST_RUN (R557). The RUN command of BST_CTL starts a BIST run of the named units, or is refused. -/
  | bistRun (r : Requester) (v : Nat)
  /-- BIST_SHUTDOWN (R558). The SHUTDOWN command stops work, isolates clusters, takes links off and runs the shutdown test. -/
  | bistShutdown (r : Requester) (v : Nat)
  /-- MFG_TEST_RUN (R556). The JTAG MFG_TEST instruction in BLANK starts a BIST run. -/
  | mfgTestRun (units : Nat)
  /-- BIST_UNIT_DONE (R563). A unit's test ends, it is re-initialised and its UNIT record written; the run ends with RUN_END. -/
  | bistUnitDone (unit : Nat) (result : Nat) (detail : Nat)
  /-- BIST_WINDOW_SAMPLE (R559). Every 5 µs the clock and voltage window is checked, giving NOT RUN on a violation. -/
  | bistWindowSample (cause : Nat)
  -- Management (spec/23)
  /-- MGT_EVENT_HEAD_WRITE (R587). An MGT_EVENT_HEAD write consumes events, ignored when it would pass the tail. -/
  | mgtEventHeadWrite (r : Requester) (v : Nat)
  /-- MGT_MSG_CTL_SEND (R579). Writing MGT_MSG_CTL with SEND answers the pending policy message. -/
  | mgtMsgCtlSend (r : Requester) (v : Nat)
  /-- POLICY_MESSAGE_TIMEOUT (R579). A policy message unanswered for 100 ms is answered with STATUS 5. -/
  | policyMessageTimeout
  /-- READ32 (R578). The READ32 vendor message returns words of readable blocks. -/
  | read32 (bd : MctpBinding) (addr : Nat) (count : Nat)
  /-- SEC_RELAY (R578). The SEC_RELAY vendor message writes a command buffer and GO and returns its status. -/
  | secRelay (bd : MctpBinding) (buf : Bytes)
  /-- LOG_READ (R578). The LOG_READ vendor message returns bytes of a security log sector. -/
  | logRead (bd : MctpBinding) (sector : Nat) (off : Nat) (len : Nat)
  /-- POLICY_MESSAGE (R579). A policy vendor message is placed in MGT_MSG_IN and queued as an event. -/
  | policyMessage (bd : MctpBinding) (cmd : Nat) (body : Bytes)
  /-- SET_ENDPOINT_ID (R577). Set Endpoint ID on any binding sets the device's EID. -/
  | setEndpointId (bd : MctpBinding) (op : Nat) (eid : Nat)
  /-- SMBUS_TIMEOUT (R575). A line held low for 25 ms makes the interface release both lines. -/
  | smbusTimeout
  /-- TRIP_LATCH_READ (R576). In TRIPPED an SMBus Block Read 0xF0 returns the AON trip latch. -/
  | tripLatchRead
  /-- SET_EVENT_RECEIVER (R581). SetEventReceiver enables PLDM sensor event messages. -/
  | setEventReceiver (bd : MctpBinding) (enable : Nat)
  /-- GET_SENSOR_READING (R580). A PLDM sensor reading is returned from its source register. -/
  | getSensorReading (bd : MctpBinding) (sensor : Nat)
  /-- SENSOR_EVENT_TIMER (R581). At most once per second per sensor a pending crossing is sent as a PlatformEventMessage. -/
  | sensorEventTimer (sensor : Nat)
  /-- REQUEST_UPDATE (R582). PLDM RequestUpdate starts a firmware update or is refused by state. -/
  | requestUpdate (bd : MctpBinding) (maxSize : Nat) (count : Nat)
  /-- PASS_COMPONENT_TABLE (R582). PassComponentTable checks the component against the device. -/
  | passComponentTable (bd : MctpBinding) (cls : Nat) (ident : Nat) (stamp : Nat)
  /-- UPDATE_COMPONENT (R582). UpdateComponent checks the new header and starts the bank erase. -/
  | updateComponent (bd : MctpBinding) (cls : Nat) (ident : Nat) (size : Nat)
  /-- BANK_ERASE_DONE (R95). The bank erase ends and the device requests firmware data. -/
  | bankEraseDone
  /-- FIRMWARE_DATA_RECEIVE (R582). A RequestFirmwareData response is held or programmed into the bank. -/
  | firmwareDataReceive (bd : MctpBinding) (off : Nat) (data : Bytes)
  /-- TRANSFER_COMPLETE (R582). After the last data the device verifies the written bank. -/
  | transferComplete
  /-- VERIFY_COMPLETE (R582). Verification ends and the header sector is written. -/
  | verifyComplete
  /-- APPLY_COMPLETE (R582). The header sector write completes the update. -/
  | applyComplete
  /-- CANCEL_UPDATE (R582). CancelUpdate ends the update with the header sector erased. -/
  | cancelUpdate (bd : MctpBinding)
  /-- ACTIVATE_FIRMWARE (R584). ActivateFirmware reports activation pending in READY, or in SAFE clears the retry count and warm-resets. -/
  | activateFirmware (bd : MctpBinding)
  -- Trace and debug (spec/25)
  /-- DBG_TRACE_CTL_WRITE (R608). A DBG_TRACE_CTL write enables tracing after its checks, refuses it, or stops generation. -/
  | dbgTraceCtlWrite (r : Requester) (v : Nat)
  /-- TRACE_RECORD_DRAIN (R610). Buffered trace records are written to the ring, with a LOST record after drops. -/
  | traceRecordDrain (p : PartId)
  /-- DBG_TRACE_RD_WRITE (R616). A DBG_TRACE_RD write releases ring space in STOP mode. -/
  | dbgTraceRdWrite (r : Requester) (v : Nat)
  /-- DBG_MARK (R621). A DBG_MARK write generates a MARK trace record carrying the value. -/
  | dbgMark (r : Requester) (v : Nat)
  /-- CNT_SNAP_TAKE (R617). TAKE captures every counter of the requester's view in one FAB cycle. -/
  | cntSnapTake (r : Requester) (v : Nat)
  /-- CNT_SNAP_RELEASE (R617). RELEASE ends the requester's counter capture. -/
  | cntSnapRelease (r : Requester) (v : Nat)
  /-- MP_HALT (R621). The HALT bits of DBG_MP_CTL halt a management processor where R619 allows. -/
  | mpHalt (r : Requester) (v : Nat)
  /-- MP_STEP (R621). The STEP bits of DBG_MP_CTL single-step a halted management processor. -/
  | mpStep (r : Requester) (v : Nat)
  -- Further events
  /-- TIME_REF_LOSS (R100). When the 10 MHz TIME_REF leaves ±50 ppm or disappears, the TIME clock returns to the main 25 MHz reference without changing DT. -/
  | timeRefLoss
  /-- HOST_LINK_UP (R130). A host port's link reaches L0, or retrains to another rate or width while up, and HP_LINK_STATUS follows. -/
  | hostLinkUp (k : PortId) (gen : Nat) (width : Nat) (flit : Bool) (reversed : Bool)
  /-- MGT_WAKE_REQ_WRITE (R154). A write of MGT_WAKE_REQ by policy firmware asserts or withdraws WAKE_n of a port, or is a wake event for a function in D3hot. -/
  | mgtWakeReqWrite (r : Requester) (v : Nat)
  /-- ARP_ND_REPLY_RECEIVE (R367). An ARP reply or Neighbor Advertisement resolves a peer or the gateway into the plane's neighbour cache. -/
  | arpNdReplyReceive (pl : PlaneId) (frame : EthCheck) (addr : Nat) (mac : Nat)
  /-- NEIGHBOUR_RESOLUTION_RETRY (R367). An unanswered resolution is retried 1 ms later, up to 3 times, then left failed. -/
  | neighbourResolutionRetry (pl : PlaneId) (addr : Nat)
  /-- SPDM_END_SESSION (R533). END_SESSION closes an SPDM session and frees one of the 8 device-wide sessions. -/
  | spdmEndSession (bd : SpdmBinding) (session : Nat)
  /-- ACTIVATION_WARM_RESET (R584). 100 ms after answering ActivateFirmware in SAFE, the device performs a warm reset. -/
  | activationWarmReset
  /-- FIRMWARE_DATA_RETRY (R582). When a RequestFirmwareData goes unanswered, the device repeats it after the PLDM retry interval from the same offset. -/
  | firmwareDataRetry
  /-- SMBUS_ARBITRATION_RETRY (R575). After losing arbitration as SMBus controller, the device retries the MCTP packet 1 ms later, up to 5 times, then discards it. -/
  | smbusArbitrationRetry
  deriving DecidableEq, Repr

end Sys2Proof
end

