-- ==== Sys2Proof/Decode.lean ====
section
/-!
DEFINITION. Decode.lean: the command that a word spells. No row of spec/opcode_table.json gives bits (the commands are
events and register accesses, not words), so no word spells a command.
-/
namespace Sys2Proof

/-- The command that the low `nbits` bits `w` spell by the table's bits: none, since the table gives no row bits. -/
def decodeTableWord (nbits w : Nat) : Option Instr :=
  match nbits, w with
  | _, _ => none

end Sys2Proof
end

