-- ==== Sys2Proof/Machine/Tab.lean ====
section
/-!
DEFINITION. Machine/Tab.lean: operations over sparse tables in canonical form, byte strings in the byte order of R7,
bit fields, and the CRC-32C of spec/12 R314.
-/
namespace Sys2Proof.Machine
open Sys2Proof

/-- The value at key `q`; an unlisted key reads the default `d`. DESIGN CHOICE: notes/assumptions/19.md. -/
def tabGet {α : Type} (d : α) : Tab α → Nat → α
  | [], _ => d
  | (k, v) :: t, q => if k = q then v else tabGet d t q

/-- Write `v` at key `q`, keeping keys strictly rising and listing no default value. -/
def tabSet {α : Type} [DecidableEq α] (d : α) (q : Nat) (v : α) : Tab α → Tab α
  | [] => if v = d then [] else [(q, v)]
  | (k, w) :: t =>
    if k < q then (k, w) :: tabSet d q v t
    else if k = q then (if v = d then t else (q, v) :: t)
    else (if v = d then (k, w) :: t else (q, v) :: (k, w) :: t)

/-- The entries whose key lies outside `[lo, hi)`: the range returns to the default. -/
def tabClear {α : Type} (lo hi : Nat) (t : Tab α) : Tab α :=
  t.filter (fun e => decide (e.1 < lo) || decide (hi ≤ e.1))

/-- Apply `f` to the value at key `q`. -/
def tabUpd {α : Type} [DecidableEq α] (d : α) (q : Nat) (f : α → α) (t : Tab α) : Tab α :=
  tabSet d q (f (tabGet d t q)) t

/-- Canonical form: keys strictly rising from `lo`, no entry equal to the default. -/
def tabWfFrom {α : Type} [DecidableEq α] (d : α) : Nat → Tab α → Bool
  | _, [] => true
  | lo, (k, v) :: t => decide (lo ≤ k) && decide (v ≠ d) && tabWfFrom d (k + 1) t

/-- Canonical form of a whole table. -/
def tabWf {α : Type} [DecidableEq α] (d : α) (t : Tab α) : Bool := tabWfFrom d 0 t

/-- An unlisted byte of a memory that a reset clears reads zero (R46). DESIGN CHOICE: notes/assumptions/19.md. -/
def memDefault : Byte := 0

/-- An erased flash byte (spec/04 R69, spec/22 R563). DESIGN CHOICE: notes/assumptions/19.md. -/
def flashDefault : Byte := 0xFF

/-- Read one byte of a cleared memory. -/
def memRead (m : Memory) (a : Nat) : Byte := tabGet memDefault m a

/-- Write one byte of a cleared memory. -/
def memWrite (m : Memory) (a : Nat) (b : Byte) : Memory := tabSet memDefault a b m

/-- `n` bytes from address `a` in ascending order. -/
def memReadN (m : Memory) (a : Nat) : Nat → Bytes
  | 0 => []
  | n + 1 => memRead m a :: memReadN m (a + 1) n

/-- Write a string of bytes from address `a` upward. -/
def memWriteN (m : Memory) (a : Nat) : Bytes → Memory
  | [] => m
  | b :: bs => memWriteN (memWrite m a b) (a + 1) bs

/-- The canonical form of a cleared memory. -/
def memWf (m : Memory) : Bool := tabWf memDefault m

/-- Read `n` bytes of the flash. -/
def flashReadN (m : Memory) (a : Nat) : Nat → Bytes
  | 0 => []
  | n + 1 => tabGet flashDefault m a :: flashReadN m (a + 1) n

/-- Program a string of bytes of the flash. -/
def flashWriteN (m : Memory) (a : Nat) : Bytes → Memory
  | [] => m
  | b :: bs => flashWriteN (tabSet flashDefault a b m) (a + 1) bs

/-- The value of a little-endian byte string (R7). -/
def leNat : Bytes → Nat
  | [] => 0
  | b :: bs => b.toNat + 256 * leNat bs

/-- The `n` low bytes of a number, least significant first (R7). -/
def toLe : Nat → Nat → Bytes
  | 0, _ => []
  | n + 1, v => BitVec.ofNat 8 (v % 256) :: toLe n (v / 256)

/-- Bytes `[off, off + n)` of a string, zero beyond its end. -/
def bytesAt (b : Bytes) (off n : Nat) : Bytes :=
  (List.range n).map (fun i => b.getD (off + i) 0)

/-- The little-endian field of `n` bytes at `off`. -/
def leAt (b : Bytes) (off n : Nat) : Nat := leNat (bytesAt b off n)

/-- Are all bytes of the string zero? -/
def allZero (b : Bytes) : Bool := b.all (fun x => x == 0)

/-- Bits `[hi:lo]` of a number (R6). -/
def bitsOf (v hi lo : Nat) : Nat := (v / 2 ^ lo) % 2 ^ (hi + 1 - lo)

/-- Bit `i` of a number. -/
def bitOf (v i : Nat) : Bool := (v / 2 ^ i) % 2 == 1

/-- A flag as the number 0 or 1. -/
def b2n (b : Bool) : Nat := if b then 1 else 0

/-- Pack fields: each `(value, position)` is shifted to its position and added. -/
def packBits (fs : List (Nat × Nat)) : Nat := fs.foldl (fun a f => a + f.1 * 2 ^ f.2) 0

/-- Set bit `i` of a mask. -/
def maskSet (m i : Nat) : Nat := if bitOf m i then m else m + 2 ^ i

/-- Clear bit `i` of a mask. -/
def maskClr (m i : Nat) : Nat := if bitOf m i then m - 2 ^ i else m

/-- The number of set bits among the low `n`. -/
def popCount (m n : Nat) : Nat := ((List.range n).filter (fun i => bitOf m i)).length

/-- One bit of the reflected CRC-32C (polynomial 0x1EDC6F41, reflected 0x82F63B78; R314). -/
def crcBit (c : BitVec 32) : BitVec 32 :=
  if c.getLsbD 0 then (c >>> 1) ^^^ 0x82F63B78#32 else c >>> 1

/-- One byte of the CRC-32C. -/
def crcByte (c : BitVec 32) (b : Byte) : BitVec 32 :=
  crcBit (crcBit (crcBit (crcBit (crcBit (crcBit (crcBit (crcBit (c ^^^ b.setWidth 32))))))))

/-- CRC-32C over a byte string (R314): initial value and final inversion of all ones. -/
def crc32c (b : Bytes) : Nat := ((b.foldl crcByte 0xFFFFFFFF#32) ^^^ 0xFFFFFFFF#32).toNat

/-- An RC counter of 32 bits saturates at 0xFFFF_FFFF (R626). -/
def satAdd32 (v n : Nat) : Nat := min (v + n) 0xFFFFFFFF

/-- A free-running RO counter wraps modulo its width (R626). -/
def wrapAdd (w v n : Nat) : Nat := (v + n) % 2 ^ w

/-- Replace entry `i` of a list. -/
def listSet {α : Type} : List α → Nat → α → List α
  | [], _, _ => []
  | _ :: t, 0, v => v :: t
  | x :: t, i + 1, v => x :: listSet t i v

/-- Apply `f` to entry `i` of a list. -/
def listUpd {α : Type} : List α → Nat → (α → α) → List α
  | [], _, _ => []
  | x :: t, 0, f => f x :: t
  | x :: t, i + 1, f => x :: listUpd t i f

end Sys2Proof.Machine
end

