-- ==== Sys2Proof/Machine/Float.lean ====
section
/-!
DEFINITION. Machine/Float.lean: the number formats and roundings of spec/09 R238, R239, exact sums and products (R241),
chunked sums (R247, R259), comparison of keys (spec/10 R262), and the functions of R243 and R261.
-/
namespace Sys2Proof.Machine
open Sys2Proof

/-- A value: NaN, an infinity, or (−1)^neg × m × 2^e with its sign kept for zero. -/
inductive FVal where
  | nan
  | inf (neg : Bool)
  | fin (neg : Bool) (m : Nat) (e : Int)
  deriving DecidableEq, Repr

/-- 2^n for an integer shift: multiply when n ≥ 0. -/
def shlInt (m : Nat) (n : Int) : Nat := m * 2 ^ n.toNat

/-- Decode a binary format with `eb` exponent and `fb` fraction bits (R238), infinities and NaNs as IEEE 754. -/
def decodeF (eb fb bias : Nat) (w : Nat) : FVal :=
  let neg := bitOf w (eb + fb)
  let x := bitsOf w (eb + fb - 1) fb
  let f := w % 2 ^ fb
  if x = 2 ^ eb - 1 then (if f = 0 then .inf neg else .nan)
  else if x = 0 then .fin neg f (1 - (bias : Int) - fb)
  else .fin neg (2 ^ fb + f) ((x : Int) - bias - fb)

def decode32 (w : Nat) : FVal := decodeF 8 23 127 w
def decode16 (w : Nat) : FVal := decodeF 8 7 127 w
def decodeE5M2 (w : Nat) : FVal := decodeF 5 2 15 w
/-- E4M3 has no infinities, and one NaN per sign (R238). -/
def decodeE4M3 (w : Nat) : FVal :=
  let x := bitsOf w 6 3
  let f := w % 8
  if x = 15 ∧ f = 7 then .nan
  else if x = 0 then .fin (bitOf w 7) f (-9)
  else .fin (bitOf w 7) (8 + f) ((x : Int) - 10)

/-- Decode by format tag: 0 BF16, 1 E4M3, 2 E5M2. -/
def decodeTag (tag w : Nat) : FVal := match tag with | 0 => decode16 w | 1 => decodeE4M3 (w % 256) | _ => decodeE5M2 (w % 256)

/-- Round m × 2^e to nearest, ties to even, at a given unit exponent. -/
def roundAt (m : Nat) (e u : Int) : Nat :=
  if u ≤ e then shlInt m (e - u)
  else
    let k := (u - e).toNat
    let q := m / 2 ^ k
    let r := m % 2 ^ k
    let half := 2 ^ (k - 1)
    if r > half ∨ (r = half ∧ q % 2 = 1) then q + 1 else q

/-- Encode with one rounding (R239): overflow is an infinity of the same sign. -/
def encodeFin (eb fb bias : Nat) (neg : Bool) (m : Nat) (e : Int) : Nat :=
  let sign := if neg then 2 ^ (eb + fb) else 0
  if m = 0 then sign
  else
    let top : Int := e + Nat.log2 m
    let low : Int := 1 - (bias : Int) - fb
    let u : Int := if top - fb < low then low else top - fb
    let q := roundAt m e u
    let bits := if q < 2 ^ fb then q else ((u + fb + bias).toNat) * 2 ^ fb + (q - 2 ^ fb)
    sign + (if bits ≥ (2 ^ eb - 1) * 2 ^ fb then (2 ^ eb - 1) * 2 ^ fb else bits)

/-- fp32(): the FP32 bits of a value; NaN is canonical (R239). -/
def fp32 : FVal → Nat
  | .nan => 0x7FC00000
  | .inf neg => if neg then 0xFF800000 else 0x7F800000
  | .fin neg m e => encodeFin 8 23 127 neg m e

/-- bf16(): the BF16 bits of a value. -/
def bf16 : FVal → Nat
  | .nan => 0x7FC0
  | .inf neg => if neg then 0xFF80 else 0x7F80
  | .fin neg m e => encodeFin 8 7 127 neg m e

/-- The exact product (R241). -/
def mulF : FVal → FVal → FVal
  | .nan, _ => .nan
  | _, .nan => .nan
  | .inf a, .inf b => .inf (a != b)
  | .inf a, .fin b m _ => if m = 0 then .nan else .inf (a != b)
  | .fin a m _, .inf b => if m = 0 then .nan else .inf (a != b)
  | .fin a m e, .fin b n f => .fin (a != b) (m * n) (e + f)

/-- The least exponent of the finite values of a list. -/
def minExp : List FVal → Int → Int
  | [], e => e
  | .fin _ m x :: t, e => minExp t (if m ≠ 0 ∧ x < e then x else e)
  | _ :: t, e => minExp t e

/-- The exact sum (R241): NaN and infinities as there; a zero sum is −0 only when every term is −0. -/
def sumF (l : List FVal) : FVal :=
  if l.any (fun x => x == .nan) then .nan
  else
    let pos := l.any (fun x => x == .inf false)
    let negI := l.any (fun x => x == .inf true)
    if pos && negI then .nan
    else if pos then .inf false
    else if negI then .inf true
    else
      let e := minExp l 1000
      let t : Int := l.foldl (fun a x => match x with
        | .fin n m x => if m = 0 then a else if n then a - (shlInt m (x - e) : Int) else a + (shlInt m (x - e) : Int)
        | _ => a) 0
      if t = 0 then
        .fin (!l.isEmpty && l.all (fun x => match x with | .fin n m _ => n && m == 0 | _ => false)) 0 0
      else .fin (decide (t < 0)) t.natAbs e

/-- fp32(a + b) on FP32 bits. -/
def addF32 (a b : Nat) : Nat := fp32 (sumF [decode32 a, decode32 b])
/-- fp32(a × b) on FP32 bits. -/
def mulF32 (a b : Nat) : Nat := fp32 (mulF (decode32 a) (decode32 b))
/-- A value with its sign changed. -/
def negF : FVal → FVal
  | .nan => .nan
  | .inf n => .inf (!n)
  | .fin n m e => .fin (!n) m e
/-- fp32(a − b) on FP32 bits. -/
def subF32 (a b : Nat) : Nat := fp32 (sumF [decode32 a, negF (decode32 b)])

/-- Round num × 2^e / den to FP32, with the remainder as a sticky bit. -/
def ratF32 (neg : Bool) (num den : Nat) (e : Int) : Nat :=
  if num = 0 then (if neg then 0x80000000 else 0)
  else
    let k := 40 + Nat.log2 den
    let q := num * 2 ^ k / den
    let r := num * 2 ^ k % den
    encodeFin 8 23 127 neg (2 * q + (if r = 0 then 0 else 1)) (e - k - 1)

/-- fp32(a / b) on FP32 bits, by IEEE 754. -/
def divF32 (a b : Nat) : Nat :=
  match decode32 a, decode32 b with
  | .nan, _ => 0x7FC00000
  | _, .nan => 0x7FC00000
  | .inf _, .inf _ => 0x7FC00000
  | .inf x, .fin y _ _ => fp32 (.inf (x != y))
  | .fin x _ _, .inf y => fp32 (.fin (x != y) 0 0)
  | .fin x m e, .fin y n f =>
    if n = 0 then (if m = 0 then 0x7FC00000 else fp32 (.inf (x != y)))
    else ratF32 (x != y) m n (e - f)

def isNan32 (w : Nat) : Bool := decode32 w == .nan

/-- a < b as real numbers, infinities included; false for NaN; −0 equals +0 (R262). -/
def ltF (a b : FVal) : Bool :=
  match a, b with
  | .nan, _ => false
  | _, .nan => false
  | .inf x, .inf y => x && !y
  | .inf x, .fin .. => x
  | .fin .., .inf y => !y
  | x, y => match sumF [y, negF x] with
    | .fin n m _ => !n && m != 0
    | _ => false

/-- a < b on FP32 bits. -/
def lt32 (a b : Nat) : Bool := ltF (decode32 a) (decode32 b)

-- Chunked sums

/-- Cut a list into chunks of 64. -/
def chunks64 {α : Type} : Nat → List α → List (List α)
  | 0, _ => []
  | fuel + 1, l => if l.isEmpty then [] else l.take 64 :: chunks64 fuel (l.drop 64)

/-- The exact sums of the products of each chunk of 64. -/
def chunkSums (x w : List FVal) : List FVal :=
  (chunks64 (x.length + 1) (List.zipWith mulF x w)).map sumF

/-- The running sum of R259 and R286, as FP32 bits. -/
def chunkDot (x w : List FVal) : Nat := (chunkSums x w).foldl (fun a c => fp32 (sumF [decode32 a, c])) 0

/-- The sum of R247: segments of four chunks, then the segments in order. -/
def segSums : Nat → List FVal → List Nat
  | 0, _ => []
  | fuel + 1, l => if l.isEmpty then []
    else (l.take 4).foldl (fun a c => fp32 (sumF [decode32 a, c])) 0 :: segSums fuel (l.drop 4)

/-- T of R247, as FP32 bits. -/
def segDot (x w : List FVal) : Nat :=
  match segSums (x.length + 1) (chunkSums x w) with
  | [] => 0
  | p :: ps => ps.foldl addF32 p

-- Exponential, sigmoid and the activation functions, by fixed-point arithmetic (R243, R261; notes/assumptions/7.md)

/-- Fraction bits of the fixed-point values. -/
def fxBits : Nat := 1024
def fxOne : Nat := 2 ^ fxBits

/-- Terms n, n + 1, … of the series of e^(−y) at fixed point. -/
def expTerms (y : Nat) : Nat → Nat → Int → Int → Int
  | 0, _, _, acc => acc
  | fuel + 1, n, t, acc =>
    let t := -(t * y) / (fxOne * n : Nat)
    expTerms y fuel (n + 1) t (acc + t)

/-- Square a fixed-point value n times. -/
def fxSquares : Nat → Nat → Nat
  | 0, v => v
  | n + 1, v => fxSquares n (v * v / fxOne)

/-- e^(−v) for a fixed-point v below 512; zero from 512 up. -/
def expNeg (v : Nat) : Nat :=
  if v ≥ 512 * fxOne then 0
  else fxSquares 16 (expTerms (v / 2 ^ 16) 80 1 fxOne fxOne).toNat

/-- The magnitude m × 2^e at fixed point; FP32 values are exact here. -/
def fxOf (m : Nat) (e : Int) : Nat := if e ≥ -(fxBits : Int) then m * 2 ^ (e + fxBits).toNat else 0

/-- FP32 bits of m × v at fixed point v, with a sticky bit: the exact value is never a rounding boundary. DEDUCED: notes/assumptions/7.md. -/
def fxRound (neg : Bool) (m : Nat) (e : Int) (v : Nat) : Nat := encodeFin 8 23 127 neg (2 * (m * v) + 1) (e - fxBits - 1)

/-- σ at fixed point, of a value with the given sign and fixed-point magnitude. -/
def sigFx (neg : Bool) (v : Nat) : Nat :=
  let t := expNeg v
  if neg then t * fxOne / (fxOne + t) else fxOne * fxOne / (fxOne + t)

/-- exp of an FP32 value at most 0, correctly rounded (R261). DEDUCED: notes/assumptions/7.md. -/
def expF32 (w : Nat) : Nat :=
  match decode32 w with
  | .nan => 0x7FC00000
  | .inf neg => if neg then 0 else 0x7F800000
  | .fin neg m e =>
    if m = 0 then 0x3F800000
    else if neg then fxRound false 1 0 (expNeg (fxOf m e))
    else if fxOf m e ≥ 128 * fxOne then 0x7F800000
    else ratF32 false (fxOne * 2 ^ 64) (expNeg (fxOf m e)) (-64)

/-- σ correctly rounded (R243). DEDUCED: notes/assumptions/7.md. -/
def sigmoidF32 (w : Nat) : Nat :=
  match decode32 w with
  | .nan => 0x7FC00000
  | .inf neg => if neg then 0 else 0x3F800000
  | .fin neg m e => if m = 0 then 0x3F000000 else fxRound false 1 0 (sigFx neg (fxOf m e))

/-- x × σ(z) for a nonzero x, with z of x's sign at fixed-point magnitude v. -/
def xSig (neg : Bool) (m : Nat) (e : Int) (v : Nat) : Nat := fxRound neg m e (sigFx neg v)

/-- π at fixed point, by Machin's formula: terms of arctan(1/k). -/
def atanTerms (k2 : Nat) : Nat → Nat → Int → Int → Int
  | 0, _, _, acc => acc
  | fuel + 1, n, t, acc =>
    let t := -t / (k2 : Int)
    atanTerms k2 fuel (n + 2) t (acc + t / (n : Int))
def atanInv (k : Nat) : Int := atanTerms (k * k) 600 3 (fxOne / k : Nat) (fxOne / k : Nat)
def fxPi : Nat := (16 * atanInv 5 - 4 * atanInv 239).toNat

/-- Terms of Σ (−1)^n z^(2n+1) / (n! (2n + 1)) at fixed point, from the running power/factorial t. -/
def erfTerms (z2 : Nat) : Nat → Nat → Int → Int → Int
  | 0, _, _, acc => acc
  | fuel + 1, n, t, acc =>
    let t := -(t * z2) / (fxOne * n : Nat)
    erfTerms z2 fuel (n + 1) t (acc + t / ((2 * n + 1 : Nat) : Int))

/-- erf(x / √2) at fixed point, for x below 16 at fixed-point magnitude v. -/
def erfHalf (v : Nat) : Nat :=
  let z2 := v * v / fxOne / 2
  let z := Nat.sqrt (z2 * fxOne)
  let s := (erfTerms z2 1200 1 z z).toNat
  2 * s * fxOne / Nat.sqrt (fxPi * fxOne)

/-- GELU, erf form (R243). DEDUCED: notes/assumptions/7.md. -/
def geluErf (neg : Bool) (m : Nat) (e : Int) : Nat :=
  let v := fxOf m e
  if v ≥ 16 * fxOne then (if neg then 0x80000000 else encodeFin 8 23 127 false m e)
  else
    let r := erfHalf v
    fxRound neg m (e - 1) (if neg then fxOne - r else fxOne + r)

/-- GELU, tanh form (R243): x × σ(2u), u = √(2/π) × (x + 0.044715 x³). DEDUCED: notes/assumptions/7.md. -/
def geluTanh (neg : Bool) (m : Nat) (e : Int) : Nat :=
  let v := fxOf m e
  if v ≥ 16 * fxOne then (if neg then 0x80000000 else encodeFin 8 23 127 false m e)
  else
    let cube := v * v / fxOne * v / fxOne * 44715 / 1000000
    let k := Nat.sqrt (2 * fxOne * fxOne / fxPi * fxOne)
    xSig neg m e (2 * ((v + cube) * k / fxOne))

/-- FUNC of R243 on FP32 bits. -/
def actF32 (func w : Nat) : Nat :=
  match decode32 w with
  | .nan => 0x7FC00000
  | .inf neg =>
    match func with
    | 0 => if neg then 0xFF800000 else 0x7F800000
    | 1 => if neg then 0 else 0x7F800000
    | 5 => if neg then 0 else 0x3F800000
    | _ => if neg then 0x80000000 else 0x7F800000
  | .fin neg m e =>
    match func with
    | 0 => w
    | 1 => if neg ∨ m = 0 then 0 else w
    | 5 => sigmoidF32 w
    | _ =>
      if m = 0 then w
      else match func with
        | 2 => xSig neg m e (fxOf m e)
        | 3 => geluErf neg m e
        | _ => geluTanh neg m e

-- Rows

/-- The BF16 elements of a row's bytes. -/
def rowHalves : Bytes → List Nat
  | a :: b :: t => (a.toNat + 256 * b.toNat) :: rowHalves t
  | _ => []
def halvesBytes (l : List Nat) : Bytes := (l.map (fun w => toLe 2 w)).flatten
def rowVals (b : Bytes) : List FVal := (rowHalves b).map decode16

end Sys2Proof.Machine
end

