-- ==== Sys2Proof/Config.lean ====
section
/-!
DEFINITION. Config.lean: the constants of the MQ7016 (spec/26), and the uninterpreted constants: the values the spec
leaves open, and the results of keyed cryptography that the model does not compute.
-/
namespace Sys2Proof.Config
open Sys2Proof

/-- The n-th free value: a value the spec leaves open. Nothing is known of it (notes/assumptions/2.md). -/
opaque freeValue : Nat → Nat

/-- ECDSA P-384 signature of a message by the private key numbered by the first argument (spec/21 R533). -/
opaque sign : Nat → Bytes → Bytes
/-- AES-256-GCM encryption under a key number and a nonce. -/
opaque gcmSeal : Nat → Nat → Bytes → Bytes
/-- AES-256-GCM decryption: none when the tag does not verify. -/
opaque gcmOpen : Nat → Nat → Bytes → Option Bytes
/-- The AES-256-GCM key stream under a key number and a nonce for the `i`-th flit of an integrity group (spec/13 R344). -/
opaque keyStream : Nat → Nat → Nat → Bytes
/-- The payload of a LINK flit, and that of a TIME flit that carries the sender's DT and its capture of the last TIME flit received:
the spec gives their content and no layout (spec/13 R339, R345, R352; notes/assumptions/5.md). -/
opaque linkPayload : LinkMsg → Bytes
opaque timePayload : Nat → Option Nat → Bytes
/-- A message of a staged commit with the sender's epoch, whose layout the spec does not give (spec/05 R115 to R121). -/
opaque cfgBytes : Nat → CfgMsg → Bytes
/-- Key derivation: a key number from a key number and context bytes (spec/21 R529, R537). -/
opaque kdf : Nat → Bytes → Nat
/-- The n-th output of the device's DRBG (spec/21 R543), as a byte string of the given length. -/
opaque drbg : Nat → Nat → Bytes
/-- Does a certificate chain end in the DevID certificate of this key (spec/21 R533)? -/
opaque chainEndsIn : Bytes → Nat → Bool
/-- The alias certificate: of the DevID key, the alias key and measurements 1 to 6 (spec/21 R533). -/
opaque aliasCert : Nat → Nat → Bytes → Bytes
/-- SHA-384 of the mask ROM (spec/21 R534). -/
opaque romDigest : Bytes
/-- The flow hash of R41, whose function the spec does not give: of own device, peer and partition index. -/
opaque flowHash : Nat → Nat → Nat → Nat
/-- The HBM bursts of a partition that a reset cuts, by the number of a free value: first granule, granules, and how many of them
were written. The spec leaves open which bursts are in flight (spec/03 R47, notes/assumptions/92.md). -/
opaque cutBursts : Nat → List (Nat × Nat × Nat)
/-- The upset that strikes the memories in a nanosecond, by the number of a free value; the spec says what an error does and leaves open
when one occurs (spec/18 R460, R463, notes/assumptions/37.md). -/
opaque upsets : Nat → Option Upset
/-- SLOT and SRC_DEV of an empty candidate entry, which the spec does not give (spec/10 R267). -/
opaque emptyCandidate : Nat
/-- The fused offset of VDD_CORE in mV, from 0 for -30 to 60 for +30; the spec gives its range alone (spec/20 R496). -/
opaque vddOffset : Fin 61
/-- The fused base of the 32 consecutive MAC addresses (spec/14 R362). -/
opaque fusedMac : Nat

/-- Entries of a queue (spec/07 R159). -/
def queDepth : Nat := 256
/-- Sync counters of the device (spec/07 R171). -/
def sycTotal : Nat := 16384
/-- Tensor descriptors of a partition (spec/07 R181). -/
def tdEntries : Nat := 4096
/-- Records of an error ring (spec/18 R455). -/
def ringRecords : Nat := 512
/-- Communicators of the device (spec/15 R386). -/
def commMax : Nat := 64
/-- Reducer slots and how many only URGENT jobs may take (spec/15 R395). -/
def reducerSlots : Nat := 32
def reducerUrgent : Nat := 4
/-- Bytes of a reducer slot and of a collective piece (spec/15 R394, R395). -/
def slotBytes : Nat := 262144
def pieceBytes : Nat := 8192
/-- Transport contexts (spec/14 R370). -/
def ctxMax : Nat := 1024
/-- Neighbour cache entries of a plane (spec/14 R367). -/
def neighMax : Nat := 2048
/-- An HBM unit of 256 MiB (spec/04 R80); a granule (spec/18 R460). -/
def hbmUnit : Nat := 2 ^ 28
def granule : Nat := 64
/-- Bytes of the Bridle reorder buffer (spec/13 R350). -/
def reorderBytes : Nat := 4 * 2 ^ 20
/-- Policy events queued at most (spec/23 R572). -/
def eventMax : Nat := 256

end Sys2Proof.Config
end

