-- ==== Sys2Proof/Machine/BlocksBoot.lean ====
section
/-!
DEFINITION. Machine/BlocksBoot.lean: plain data of start-up, resets, clocks and alignment (spec/03), of the pins
(spec/24), of the fuses (spec/21 R525) and of the Ecano image's records (spec/04 R77 to R90).
-/
namespace Sys2Proof.Machine
open Sys2Proof

/-- The states of DEV_BOOT_STATE.STATE (spec/03 R50, R66). -/
inductive BootState where
  | coldReset | rom | verify | selftest | fwLoad | bistRead | clockAlign | linkTrain | timeSync | ready | safe | error
  | warmReset | tripped
  deriving DecidableEq, Repr

/-- The pins that the model reads or drives (spec/24 R588); true is the high level. -/
structure Pins where
  pwrGood : Bool := false
  boardReset : Bool := false
  testEn : Bool := false
  smbAddr0 : Bool := false
  smbAddr1 : Bool := false
  /-- GROUP_SYNC_n is driven low by this device (R61). -/
  groupSyncLow : Bool := true
  /-- FAULT_n driven low (R56, R544). -/
  faultLow : Bool := false
  /-- THERMTRIP_n driven low (R504). -/
  thermtripLow : Bool := false
  /-- HPk_PERST_n low. -/
  perstLow : Vector Bool 4 := .replicate 4 true
  /-- HPk_WAKE_n driven low (R154). -/
  wakeLow : Vector Bool 4 := .replicate 4 false
  /-- The flash pins xSPI_CK, xSPI_CS_n and the xSPI data outputs are driven; otherwise they are high-impedance (R70). -/
  flashDriven : Bool := false
  /-- What the board fits (R68): the density that the flash reports in Mib, and its SFDP table. -/
  flashMib : Nat := 0x800
  flashSfdp : Bool := true
  deriving DecidableEq, Repr

/-- The AON trip latch of R576: kept until cold reset. -/
structure TripLatch where
  held : Bool := false
  sensor : Nat := 0
  /-- Signed value in 0.125 degrees C, as its 16-bit pattern. -/
  value : Half := 0
  /-- Nanoseconds since the trip, counted in AON. -/
  nsSince : Nat := 0
  deriving DecidableEq, Repr

/-- Start-up, reset and clock state (spec/03 R50 to R66). -/
structure Boot where
  state : BootState := .coldReset
  /-- SAFE_CAUSE held from ROM or VERIFY until SELFTEST ends (R50, R527). -/
  heldCause : Nat := 0
  safeCause : Nat := 0
  /-- Boot retry count, held in AON, 0 to 3 (R55). -/
  retry : Nat := 0
  /-- The triggers of the cold reset in progress, set in the cause register at its release (R66). -/
  coldPower : Bool := true
  coldBoard : Bool := false
  /-- DEV_RESET_CAUSE, held in AON: bits 5:0 (R66). -/
  cause : Nat := 0
  bankB : Bool := false
  clustersDisabled : Bool := false
  linksIncomplete : Bool := false
  timeUnsync : Bool := false
  aligned : Bool := false
  /-- DEV_ALIGN.CAUSE: 0 aligned, 1 timeout, 2 line high, 3 not yet attempted. -/
  alignCause : Nat := 3
  waitUs : Nat := 0
  mainLock : Bool := false
  coreFabLock : Bool := false
  timeLock : Bool := false
  pstate : Nat := 0
  corePerBeat : Nat := 0
  /-- Nanoseconds since release of cold reset or start of warm reset. -/
  sinceNs : Nat := 0
  /-- The value of `sinceNs` at the own release of GROUP_SYNC_n. -/
  releaseNs : Nat := 0
  /-- The value of `sinceNs` at the entry to LINK_TRAIN, TIME_SYNC or ERROR (R52, R544). -/
  stageNs : Nat := 0
  /-- This start began with a warm reset, when GROUP_SYNC_n was first driven low (R61, R63). -/
  warm : Bool := false
  /-- DEV_BOOT_TIME.READY_US. -/
  readyUs : Nat := 0
  /-- The beat runs and DT counts. -/
  beat : Bool := false
  hbmTrained : Bool := false
  trip : TripLatch := {}
  deriving DecidableEq, Repr

/-- A logical fuse held as two physical bits, either of which reads as burned (R525). -/
structure Fuse where
  a : Bool := false
  b : Bool := false
  deriving DecidableEq, Repr

/-- The device's grade (spec/00 R1). -/
inductive Grade where
  | h | m
  deriving DecidableEq, Repr

/-- The fuses (R525) and the facts fused at manufacture (R77, R525, R529). -/
structure Fuses where
  prov : Fuse := {}
  deploy : Fuse := {}
  decom : Fuse := {}
  hukBlock : Fuse := {}
  unlock : Vector Fuse 16 := .replicate 16 {}
  relock : Vector Fuse 16 := .replicate 16 {}
  /-- The thermometer of FLOOR, as its count 0 to 255. -/
  floor : Nat := 0
  ownerHash : Bytes := []
  serial : Bytes := List.replicate 16 0
  grade : Grade := .h
  /-- Stepping code; B1 reads 0xB1 (R77). -/
  stepping : Nat := 0xB1
  /-- The determinism class, 4 bits; 0x1 on stepping B1 (R434). -/
  detClass : Nat := 1
  deriving DecidableEq, Repr

/-- The life-cycle state (R525). -/
inductive LifeCycle where
  | blank | provisioned | deployed | debugUnlocked | decommissioned
  deriving DecidableEq, Repr

/-- One entry of the PARTITIONS record (R80). -/
structure PartCfg where
  clusterMask : Nat := 0
  urgentMask : Nat := 0
  defined : Bool := false
  updraftEn : Bool := false
  bar4En : Bool := false
  hbmBase : Nat := 0
  hbmUnits : Nat := 0
  spoolMib : Nat := 0
  reelMib : Nat := 0
  sycBase : Nat := 0
  sycCount : Nat := 0
  tokenSlots : Nat := 0
  updClauses : Nat := 0
  regHbm : Nat := 0
  regBridle : Nat := 0
  regTether : Nat := 0
  regHostDma : Nat := 0
  weight : Nat := 0
  deriving DecidableEq, Repr

/-- One entry of the PORT_MAP record (R81). -/
structure PortCfg where
  /-- 0 to 3, or none for 0xFF. -/
  partition : Option PartId := none
  maxGen : Nat := 6
  maxWidth : Nat := 16
  ideRequired : Bool := false
  laneReverse : Bool := false
  deriving DecidableEq, Repr

/-- One plane entry of the TOPOLOGY record (R84). -/
structure PlaneCfg where
  plane : Nat := 0
  ipver : Nat := 4
  udpPort : Nat := 50716
  dscp : Nat := 0
  prefixLen : Nat := 8
  vlan : Nat := 0
  baseAddr : Nat := 0
  gateway : Nat := 0
  deriving DecidableEq, Repr

/-- The TOPOLOGY record (R84). -/
structure TopoCfg where
  groupCount : Nat := 1
  ptpEn : Bool := false
  planes : List PlaneCfg := []
  masks : List Nat := []
  deriving DecidableEq, Repr

/-- One entry of the PLACEMENT record (R86). -/
structure HomeCfg where
  homeCluster : Option ClusterId := none
  localAllowed : Bool := true
  deriving DecidableEq, Repr

/-- A GARKU or COMPONENT record (R88, R89). GARKU is held with KIND 0. -/
structure CompCfg where
  kind : Nat := 0
  offset : Nat := 0
  size : Nat := 0
  entry : Nat := 0
  build : Nat := 0
  digest : Bytes := []
  deriving DecidableEq, Repr

/-- BIST_POLICY (R90), with its defaults. -/
structure BistCfg where
  shutdownEn : Bool := false
  maxClusters : Nat := 2
  powerW : Nat := 400
  everyN : Nat := 1
  testMask : Nat := 0x1F
  deriving DecidableEq, Repr

/-- TIMEOUTS (R90), with its defaults. -/
structure TimeoutCfg where
  alignMs : Nat := 50
  linkTrainMs : Nat := 100
  timeSyncMs : Nat := 20
  dmaCtoMs : Nat := 50
  sycWaitMs : Nat := 1000
  tthRetxMs : Nat := 22
  watchdogMs : Nat := 100
  snapshotUs : Nat := 1000
  deriving DecidableEq, Repr

/-- CLOCK_PLAN and POWER (R78, R79). -/
structure ClockCfg where
  bootPstate : Nat := 2
  pstateMask : Nat := 4
  pinPstate : Option Nat := none
  hbmRate : Nat := 0
  boardPowerW : Nat := 0
  cooling : Nat := 0
  throttleTjC : Nat := 85
  avsAddr : List Nat := []
  deriving DecidableEq, Repr

/-- LINK_MAP (R82). -/
structure LinkCfg where
  brlEnable : Nat := 0
  brlCrypt : Bool := false
  tthMode : List Nat := List.replicate 8 0
  brlPolarity : List Nat := List.replicate 16 0
  brlLaneRev : Nat := 0
  tthPolarity : List Nat := List.replicate 8 0
  deriving DecidableEq, Repr

/-- GROUP (R83). -/
structure GroupCfg where
  group : Nat := 0
  member : Nat := 0
  size : Nat := 0
  pairMode : Nat := 0
  pairGroup : Nat := 0
  deriving DecidableEq, Repr

/-- SECURITY (R87). -/
structure SecCfg where
  macsec : Bool := false
  logFullMode : Nat := 0
  debugUnlockAllowed : Bool := false
  floorAdvance : Bool := false
  deriving DecidableEq, Repr

/-- One byte of DETERMINISM (R90). -/
structure DetCfg where
  stillAirDefault : Bool := false
  digestDefault : Bool := false
  deriving DecidableEq, Repr

/-- The content of a verified image, or the configuration applied from it and from staged commits. -/
structure ImageCfg where
  seq : Nat := 0
  signedLen : Nat := 0
  secVersion : Nat := 0
  buildId : Nat := 0
  digest : Bytes := []
  clock : ClockCfg := {}
  parts : Vector PartCfg 4 := .replicate 4 {}
  ports : Vector PortCfg 4 := .replicate 4 {}
  link : LinkCfg := {}
  group : GroupCfg := {}
  topo : Option TopoCfg := none
  home : Vector HomeCfg 4 := .replicate 4 {}
  sec : SecCfg := {}
  garku : CompCfg := {}
  comps : List CompCfg := []
  bist : BistCfg := {}
  det : Vector DetCfg 4 := .replicate 4 {}
  tmo : TimeoutCfg := {}
  deriving DecidableEq, Repr

/-- The result of checking one bank (R97): RESULT, RECORD, FIELD_OFFSET. -/
structure BankStatus where
  result : Nat := 0
  record : Nat := 0
  fieldOffset : Nat := 0
  deriving DecidableEq, Repr

/-- Bank choice and verification (R92), and the start-up status registers of R97. -/
structure ImageBoot where
  bankA : BankStatus := {}
  bankB : BankStatus := {}
  /-- Banks still to be verified, in order; false is A. -/
  candidates : List Bool := []
  /-- The bank that verification has passed. -/
  chosen : Option Bool := none
  /-- The content of the bank that verification has passed. -/
  image : Option ImageCfg := none
  /-- The fused floor at the last cold or warm reset, which CFG_SEC_VERSION shows (R97). -/
  floor : Nat := 0
  flashDensityMib : Nat := 0
  sfdpOk : Bool := false
  octalDdr : Bool := false
  deriving DecidableEq, Repr

end Sys2Proof.Machine
end

