-- ==== Sys2Proof/Machine/BlocksCfg.lean ====
section
/-!
DEFINITION. Machine/BlocksCfg.lean: plain data of the time base and of the staged commit (spec/05).
-/
namespace Sys2Proof.Machine
open Sys2Proof

/-- The reference that steers DT (TMB_STATUS.SOURCE, R124). -/
inductive TimeSource where
  | freeRun | bridle | ptp | ppsIn
  deriving DecidableEq, Repr

/-- A foreign master as its Announce messages show it: port, data set, and the DT of the last two (IEEE 1588). -/
structure Foreign where
  port : Nat := 0
  ds : PtpDs := {}
  last : Nat := 0
  prev : Nat := 0
  deriving DecidableEq, Repr

/-- The PTP port of a group time master (spec/14 R379, R380). -/
structure Ptp where
  /-- The plane on which the port runs, and the DT at which it started there. -/
  plane : Option Nat := none
  start : Nat := 0
  /-- IEEE 1588 portState: 4 LISTENING, 6 MASTER, 8 UNCALIBRATED, 9 SLAVE; 0 for no port. -/
  state : Nat := 0
  foreign : List Foreign := []
  /-- The port followed. -/
  parent : Nat := 0
  /-- A two-step Sync whose Follow_Up is awaited: sequence, receive DT, correction. -/
  rxSync : Option (Nat × Nat × Int) := none
  /-- The last Sync: corrected origin time and receive DT. -/
  pair : Option (Int × Nat) := none
  /-- The Delay_Req sent: sequence and transmit DT. -/
  req : Option (Nat × Nat) := none
  /-- Mean path delay. -/
  delay : Option Int := none
  syncSeq : Nat := 0
  annSeq : Nat := 0
  reqSeq : Nat := 0
  /-- DT at which the next Sync, Announce and Delay_Req are due. -/
  nextSync : Nat := 0
  nextAnn : Nat := 0
  nextReq : Nat := 0
  deriving DecidableEq, Repr

/-- The time base (R98 to R105, R124). -/
structure TimeBase where
  dt : Nat := 0
  sysOffset : Nat := 0
  /-- SYS_OFFSET has been set since the last cold or warm reset (R102). -/
  sysSet : Bool := false
  masterMember : Nat := 0
  isMaster : Bool := false
  /-- The directly bonded member that named the master, where this device has no bond to it (R99). -/
  via : Option Nat := none
  /-- Members that have sent no time message since TIME_SYNC or since their bond came up: not known to keep time (R99). -/
  unheard : List Nat := []
  timeRefOk : Bool := false
  source : TimeSource := .freeRun
  sysSync : Bool := false
  groupSync : Bool := false
  /-- Last measured offset, signed ns. -/
  offset : Int := 0
  ppsInDt : Nat := 0
  freqPpb : Int := 0
  /-- Consecutive time messages with an offset within 8 ns, up to 16 (R99). -/
  okRun : Nat := 0
  /-- Consecutive reference measurements within 2 us, up to 16 (R103). -/
  sysRun : Nat := 0
  /-- DT of the last valid reference measurement (R103). -/
  lastRef : Nat := 0
  /-- Consecutive PPS_IN pulses at 1 s intervals, up to 3 (R101). -/
  ppsRun : Nat := 0
  /-- DT has been taken from the group in TIME_SYNC (R64). -/
  took : Bool := false
  /-- The regulator window up to which the credits have been refilled (R107, R416). -/
  window : Nat := 0
  ptp : Ptp := {}
  deriving DecidableEq, Repr

/-- CFG_COMMIT_STATE.STATE (R123, R125). -/
inductive CommitState where
  | idle | staging | checking | sealed | voting | armed | fenced
  deriving DecidableEq, Repr

/-- A PLACEMENT_MAP item (R111). -/
structure PlacementItem where
  part : PartId := 0
  model : Nat := 0
  layerFirst : Nat := 0
  layerCount : Nat := 0
  length : Nat := 0
  offset : Nat := 0
  digest : Bytes := []
  deriving DecidableEq, Repr

/-- A staged item (R110, R111). -/
inductive StageItem where
  | power (boardPowerW cooling throttleTjC : Nat) (avsAddr : List Nat)
  | partitions (parts : Vector PartCfg 4)
  | linkMap (link : LinkCfg)
  | determinism (det : Vector DetCfg 4)
  | placementMap (m : PlacementItem)
  | image (offset length seq : Nat)
  | catchup (fabricCount : Nat) (table : Bytes)
  deriving DecidableEq, Repr

/-- Commit state (R110 to R126). -/
structure Commit where
  state : CommitState := .idle
  lastOutcome : Nat := 0
  checkSub : Nat := 0
  voteReason : Nat := 0
  id : Nat := 0
  instant : Nat := 0
  /-- Epoch of every group, default 0 (R119). -/
  epochs : Tab Nat := []
  /-- DT of the last change of a group's entry. -/
  epochAt : Tab Nat := []
  fabricCount : Nat := 0
  noDevice : Option Nat := none
  applyDt : Nat := 0
  stageId : Nat := 0
  stageInstant : Nat := 0
  stageScope : Nat := 0
  stageDigest : Bytes := List.replicate 32 0
  stageGroups : Memory := []
  stageBuf : Memory := []
  items : List StageItem := []
  verdictYes : Bool := false
  coordinator : Bool := false
  /-- The scope of the commit voted on. -/
  scope : List Nat := []
  /-- Devices whose YES the coordinator holds. -/
  yes : List DevId := []
  /-- Announced fabric commits not yet applied, of other scopes (R116). -/
  announced : List CommitHead := []
  /-- Devices that reported no outcome to a fenced device's query (R121). -/
  noOutcome : List DevId := []
  /-- FENCED because FABRIC_COUNT differs from the master's (R122), with the master's table for queries. -/
  rejoin : Bool := false
  masterTable : Tab Nat := []
  /-- Commits applied, and the newest fabric commit among them, for queries (R119, R120). -/
  applied : List Nat := []
  lastFabric : Option CommitHead := none
  /-- Commit outcomes this device holds, by commit ID: true is COMMIT; on ABORT the reason and the first NO voter. -/
  outcomes : List (Nat × Bool × Nat × Option DevId) := []
  /-- The header sector of an image written by R114, to be written at the Commit Instant. -/
  imageHeader : Bytes := []
  imageBankB : Bool := false
  /-- The budgets and weights of the last PARTITIONS item, and the DT of the window from which they hold (R118). -/
  nextRegs : Option (Nat × Vector PartCfg 4) := none
  deriving DecidableEq, Repr

end Sys2Proof.Machine
end

