-- ==== Sys2Proof/Machine/BlocksCol.lean ====
section
/-!
DEFINITION. Machine/BlocksCol.lean: plain data of the collectives (spec/15): communicators, executing collectives and
reducer slots.
-/
namespace Sys2Proof.Machine
open Sys2Proof

/-- States of a communicator (R387); FREE is the absence of an entry. -/
inductive CommState where
  | creating | active | aborted
  deriving DecidableEq, Repr

/-- A communicator of this device (R385 to R388, R399, R407). -/
structure Comm where
  part : PartId := 0
  id : Nat := 0
  state : CommState := .creating
  abortCode : Nat := 0
  /-- DEVICE_IDs in position order. -/
  members : List DevId := []
  digest : Bytes := []
  resultCt : Nat := 0
  /-- A leader has sent the JOIN of its group (R386). -/
  sentUp : Bool := false
  /-- At its coordinator: another communicator of the COMM_ID was CREATING or ACTIVE when it was created, so no JOIN of it
counts (R386). -/
  dup : Bool := false
  /-- DT at which its COMM_CREATE started (R386). -/
  started : Nat := 0
  /-- The device that the abort named, and the members that aborts with COL_MEMBER_LOST named (R403). -/
  abortDev : Nat := 0
  lost : List DevId := []
  /-- The members whose loss this device has recorded (R401, R467). -/
  noted : List DevId := []
  opSeq : Nat := 0
  /-- Collectives completed (R407), of which OP_SEQ is the low word. -/
  ops : Nat := 0
  bytes : Nat := 0
  /-- PART_EPOCH of each member at creation, as first shown (R400). -/
  epochs : List (DevId × Nat) := []
  /-- Laggard table: member and accumulated ns; histogram of 8 buckets (R399). -/
  lag : List (DevId × Nat) := []
  hist : List Nat := List.replicate 8 0
  deriving DecidableEq, Repr

/-- One input of a chunk step: the sender, its phase and round, the bytes, DT of its last piece. -/
structure ChunkIn where
  src : DevId := 0
  phase : Nat := 0
  round : Nat := 0
  data : Bytes := []
  dt : Nat := 0
  deriving DecidableEq, Repr

/-- A chunk copy sent and not yet acknowledged (R397). -/
structure ChunkOut where
  dst : DevId := 0
  /-- The chunk index that its pieces carry. -/
  chunk : Nat := 0
  phase : Nat := 0
  round : Nat := 0
  data : Bytes := []
  deriving DecidableEq, Repr

/-- Where a chunk stands on this device (R390, R392). -/
inductive ChunkStage where
  /-- Opened; a leader waits for its reducer slot or for its group's contributions. -/
  | gather
  /-- A group of high index: its partial is sent, and the fold's answer is awaited. -/
  | folded
  /-- A group of low index awaits the partial of the high group folded into it. -/
  | fold
  /-- The partner's partial of a leader round is awaited. -/
  | round (r : Nat)
  /-- A member awaits its leader's release. -/
  | release
  /-- This device's result is written. -/
  | done
  deriving DecidableEq, Repr

/-- The progress of one chunk of an executing collective (R390 to R395). -/
structure ChunkSt where
  idx : Nat := 0
  /-- The chunk needs a reducer slot, and holds one. -/
  needsSlot : Bool := false
  granted : Bool := false
  stage : ChunkStage := .gather
  /-- DT at which this device's own input of the present chunk step was complete (R399). -/
  ownDt : Nat := 0
  inputs : List ChunkIn := []
  outs : List ChunkOut := []
  /-- The partial after the phases done so far. -/
  partialV : Bytes := []
  deriving DecidableEq, Repr

/-- Pieces of a chunk not yet whole (R396): its name, the pieces so far by offset, and what its last piece said. -/
structure Reasm where
  commId : Nat := 0
  opSeq : Nat := 0
  chunk : Nat := 0
  src : DevId := 0
  phase : Nat := 0
  round : Nat := 0
  pieces : List (Nat × Bytes) := []
  crc : Option Nat := none
  bad : Bool := false
  /-- Failed checks so far (R397). -/
  fails : Nat := 0
  deriving DecidableEq, Repr

/-- The collective that a partition's COL stream executes (R388 to R402). -/
structure ColRun where
  handle : Nat := 0
  op : Nat := 0
  dtype : Nat := 0
  redop : Nat := 0
  root : Nat := 0
  cap : Nat := 0
  /-- The tensor descriptors copied at start. -/
  src : Bytes := []
  dst : Bytes := []
  /-- ALLTOALLV: send and receive counts in position order. -/
  sends : List Nat := []
  recvs : List Nat := []
  opSeq : Nat := 0
  tag : Nat := 0
  /-- The next chunk to open, and how many there are. -/
  next : Nat := 0
  total : Nat := 0
  /-- Chunks opened and not finished, ascending. -/
  chunks : List ChunkSt := []
  /-- Chunks of an ALLTOALLV received so far: position and chunk index. -/
  blocks : List (Nat × Nat) := []
  /-- DT of the first unanswered PROBE by member (R400). -/
  probes : List (DevId × Nat) := []
  /-- DT of the last PROBE by member (R400). -/
  asked : List (DevId × Nat) := []
  deriving DecidableEq, Repr

/-- Device-wide collective state. -/
structure Col where
  /-- Communicators by handle, 0 to 63. -/
  comms : Tab (Option Comm) := []
  /-- JOINs held by a leader or coordinator: COMM_ID, sender, digest (R386). -/
  joins : List (Nat × DevId × Bytes) := []
  reasm : List Reasm := []
  /-- Pieces ahead of the current OP_SEQ or without a slot, waiting in their pools: source, path, DT of receipt,
  bytes (R388, R395). -/
  waiting : List (DevId × Path × Nat × Bytes) := []
  /-- The operands that a sender's command named, by sender, COMM_ID and OP_SEQ (R388). -/
  named : List (DevId × Nat × Nat × ColOps) := []
  deriving DecidableEq, Repr

end Sys2Proof.Machine
end

