-- ==== Sys2Proof/Machine/BlocksErr.lean ====
section
/-!
DEFINITION. Machine/BlocksErr.lean: severity classes, error records and error rings (spec/18 R450 to R459, R477).
-/
namespace Sys2Proof.Machine
open Sys2Proof

/-- Severity classes (R450). -/
inductive ErrClass where
  | corrected | deferred | job | partition | device
  deriving DecidableEq, Repr

/-- KIND of an error record (R454). -/
inductive ErrKind where
  | fault | resetReport | tornRange
  deriving DecidableEq, Repr

/-- An error record (R454). -/
structure ErrRec where
  code : Nat := 0
  cls : ErrClass := .corrected
  kind : ErrKind := .fault
  source : Nat := 0xF
  part : Nat := 0
  tag : Nat := 0
  dt : Nat := 0
  ringSeq : Nat := 0
  jobId : Nat := 0
  sub : Nat := 0
  addr : Nat := 0
  detail0 : Nat := 0
  detail1 : Nat := 0
  count : Nat := 1
  epoch : Nat := 0
  deriving DecidableEq, Repr

/-- An error ring: a partition ring or the management ring (R455, R458). -/
structure ErrRing where
  /-- Record n is at n mod 512. -/
  recs : Tab ErrRec := []
  tail : Nat := 0
  head : Nat := 0
  seq : Nat := 0
  hostBase : Nat := 0
  hostEnable : Bool := false
  lastCode : Nat := 0
  lastClass : Nat := 0
  /-- Merging (R457): by code, the window of the last record and the occurrences since it. -/
  mergeWin : Tab Nat := []
  mergeCount : Tab Nat := []
  deriving DecidableEq, Repr

/-- The error of an HBM granule that no read has met yet (R460), or that the merge of a partial write has met and its record has not
(R461). -/
inductive HbmErr where
  | none | ce | ue | ceMet | ueMet
  deriving DecidableEq, Repr

end Sys2Proof.Machine
end

