-- ==== Sys2Proof/Machine/BlocksFab.lean ====
section
/-!
DEFINITION. Machine/BlocksFab.lean: plain data of the Bridle links (spec/13), of the Tether planes and transport
contexts (spec/14), and of what a device keeps of every other device: flows, epochs, START_ID, reachability and the
cluster notice (spec/02 R40, spec/12 R315 to R317, spec/20 R509).
-/
namespace Sys2Proof.Machine
open Sys2Proof

/-- States of a Bridle link (R337). -/
inductive BrlState where
  | off | detect | equalize | identify | keying | active | sleep | dormant | down | miswired
  deriving DecidableEq, Repr

/-- A sequenced flit held until it is acknowledged (R341). `last` carries the packet whose last flit it is. -/
structure TxFlit where
  fseq : Nat := 0
  /-- 1 DATA, 2 LINK, 3 TIME, 4 INTEGRITY. -/
  type : Nat := 1
  bytes : Bytes := []
  /-- On a packet's last flit: its destination, the device for which it is forwarded, its flags (16 * partition + stream flags, 255
  for a pair message, 254 for a message of a staged commit) and its bytes. -/
  last : Option (DevId × Option DevId × Nat × Bytes) := none
  deriving DecidableEq, Repr

/-- One Bridle link BL0 to BL15 (R336 to R359). -/
structure Link where
  state : BrlState := .off
  leader : Bool := false
  cryptOn : Bool := false
  lanesLocked : Nat := 0
  downCause : Nat := 0
  peer : Identity := {}
  peerValid : Bool := false
  delayNs : Nat := 0
  /-- DT at which the last TIME flit was sent, and at which one was received (R345). -/
  timeTx : Option Nat := none
  timeRx : Option Nat := none
  idleUs : Nat := 20
  txSeq : Nat := 0
  unacked : List TxFlit := []
  rxNext : Nat := 0
  /-- A discard is being recovered: sequenced flits are dropped until FSEQ rxNext (R341). -/
  nakOpen : Bool := false
  /-- NAKs received for one FSEQ in a row, and that FSEQ (R342). -/
  nakRun : Nat := 0
  nakSeq : Nat := 0
  /-- When the NAKs of the last millisecond were received, newest first (R342). -/
  nakTimes : List Nat := []
  /-- When the INTEGRITY failures of the last millisecond were met, newest first (R344). -/
  authTimes : List Nat := []
  /-- Sequenced flits accepted since the last acknowledgement sent, and when the first of them was (R341). -/
  ackOwed : Nat := 0
  ackAt : Nat := 0
  /-- When the state was entered, when training began, and when a sequenced flit other than TIME was last sent, in
  nanoseconds since the reset (R337, R355). -/
  since : Nat := 0
  trainAt : Nat := 0
  lastSent : Nat := 0
  /-- Accepted flits of the group whose INTEGRITY flit has not arrived (R344): FSEQ, the flit, and the message of a LINK flit. -/
  rxHeld : List (Nat × Bytes × Option LinkMsg) := []
  /-- Sequenced flits sent since the last INTEGRITY flit. -/
  txGroup : List Bytes := []
  /-- LINK and TIME flits that wait for room in the replay buffer: type and payload (R341). -/
  txWait : List (Nat × Bytes) := []
  /-- Packet bytes not yet whole, by VC (R340). -/
  rxPart : List Bytes := List.replicate 7 []
  /-- Packets received whole and still in their pool: VC and bytes (R346). -/
  pool : List (Nat × Bytes) := []
  /-- Credit held toward the far end, in 64-byte units, by VC, and by partition for VC 1 and VC 4 (R346). -/
  credit : Tab Nat := []
  /-- Pair messages not yet sent for want of credit or of a working link (BL15, R479). -/
  queue : List Bytes := []
  /-- A SLEEP_REQ or DORMANT request is waiting for its answer. -/
  sleepAsked : Bool := false
  dormantAsked : Bool := false
  key : Nat := 0
  /-- Groups sent and received under the current key (R537). -/
  groups : Nat := 0
  rxGroups : Nat := 0
  txFlits : Nat := 0
  rxFlits : Nat := 0
  /-- RC counters at their offset in the link's group (R358). -/
  regs : RegFile := []
  deriving DecidableEq, Repr

/-- A bond advertisement as last received (R351). -/
structure AdvertRx where
  map : Nat := 0
  /-- DT of receipt. -/
  dt : Nat := 0
  deriving DecidableEq, Repr

/-- A packet that this device forwards: its destination, its flags, the device that sent it, and its bytes (R353). -/
structure Relayed where
  dst : DevId := 0
  flags : Nat := 0
  src : DevId := 0
  bytes : Bytes := []
  deriving DecidableEq, Repr

/-- Device-wide Bridle state (R350 to R353, R358). -/
structure Bridle where
  /-- Advertisements by member. -/
  adverts : Tab (Option AdvertRx) := []
  relayFwd : Nat := 0
  relaySent : Nat := 0
  /-- Packets forwarded and held for want of a working link (R353). -/
  held : List Relayed := []
  /-- Credit of forwarded packets that first-hop links are still owed: link, VC, partition, units, destination (R353). -/
  owed : List (LinkId × Nat × PartId × Nat × DevId) := []
  regs : RegFile := []
  deriving DecidableEq, Repr

/-- States of a Tether plane (R363). -/
inductive TthState where
  | off | align | keying | up | dormant | down
  deriving DecidableEq, Repr

/-- A neighbour cache entry (R367). -/
structure Neigh where
  addr : Nat := 0
  mac : Option Nat := none
  /-- Tries made while unresolved, and the DT of the last request or reply. -/
  tries : Nat := 0
  at_ : Nat := 0
  deriving DecidableEq, Repr

/-- One Tether plane (R360 to R384). -/
structure Plane where
  state : TthState := .off
  secured : Bool := false
  downCause : Nat := 0
  /-- When the state was entered and when training began, in nanoseconds since the reset (R363). -/
  since : Nat := 0
  trainAt : Nat := 0
  txSegs : Nat := 0
  rxSegs : Nat := 0
  /-- Least recently used first. -/
  neigh : List Neigh := []
  /-- Peers toward which the plane is marked failed, with the DT of the mark or of the last HELLO tried on it (R373). -/
  failed : List (DevId × Nat) := []
  /-- When the echo replies of the last second were sent, newest first (R366). -/
  echoTimes : List Nat := []
  /-- The SAK in use and the DT of its installation, how many there have been, and whether the suite is GCM-AES-XPN-256 (R377). -/
  sak : Nat := 0
  sakAt : Nat := 0
  saks : Nat := 0
  xpn : Bool := true
  /-- Whether this device is MKA's key server (R377). -/
  keyServer : Bool := false
  /-- The next packet number to send under the SAK, and the one after the highest received (R377). -/
  txPn : Nat := 1
  rxPn : Nat := 1
  /-- Packets reassembled and not yet delivered: source device and bytes (R372). -/
  pool : List (DevId × Bytes) := []
  regs : RegFile := []
  deriving DecidableEq, Repr

/-- A DATA segment sent and not yet acknowledged (R371, R372). -/
structure TxSeg where
  ssn : Nat := 0
  /-- Index of its packet in the context's packet list. -/
  pkt : Nat := 0
  off : Nat := 0
  len : Nat := 0
  last : Bool := false
  firstTx : Nat := 0
  lastTx : Nat := 0
  fastDone : Bool := false
  deriving DecidableEq, Repr

/-- One stream of a context in both directions (R368, R371, R372). -/
structure CtxStream where
  txSsn : Nat := 0
  cum : Nat := 0
  window : Nat := 0
  unacked : List TxSeg := []
  /-- SSN and bytes of what SACK has acknowledged beyond CUM_SSN. -/
  sacked : List (Nat × Nat) := []
  rxCum : Nat := 0
  /-- SSNs received ahead of rxCum. -/
  rxAhead : List Nat := []
  /-- Pieces of packets not yet whole: SSN of the segment, packet offset, LAST, bytes. -/
  rxParts : List (Nat × Nat × Bool × Bytes) := []
  ce : Nat := 0
  rx : Nat := 0
  echoTs : Nat := 0
  deriving DecidableEq, Repr

/-- State of a context (R369, R370). -/
inductive CtxState where
  | opening | open_
  deriving DecidableEq, Repr

/-- A packet or piece that is not sent yet: for want of credit, of a window, of a context or of a path, because the device is
FENCED, or behind another packet of its flow (R121, R315, R346, R349, R370, R372, R373). -/
structure Waiting where
  dst : DevId := 0
  part : PartId := 0
  /-- The stream, bit 2 for a collective piece, bit 3 when FLOW_SEQ is assigned already or there is none, bit 4 for a message that is
  no packet, bit 5 for one that must not be lost with its plane. -/
  flags : Nat := 0
  bytes : Bytes := []
  /-- It has been counted as waiting for a context (R370). -/
  counted : Bool := false
  /-- DT from which it waits, and the raises of its priority (R413). -/
  since : Nat := 0
  raises : Nat := 0
  deriving DecidableEq, Repr

/-- A transport context (R368 to R375): one peer, one partition index, one plane. -/
structure Ctx where
  peer : DevId := 0
  part : PartId := 0
  plane : PlaneId := 0
  state : CtxState := .opening
  /-- The peer's index for this context. -/
  remoteId : Nat := 0xFFFF
  jumbo : Bool := true
  ecnOk : Bool := false
  seg : Nat := 8192
  path : Nat := 0
  rtoNs : Nat := 100000
  srtt : Nat := 0
  rttvar : Nat := 0
  /-- Consecutive RTO expiries without a new acknowledgement. -/
  rtoRun : Nat := 0
  /-- Sending rate in units of port rate / 1024, and alpha in units of 1/65536 (R374). -/
  rate : Nat := 128
  alpha : Nat := 65536
  lastCut : Nat := 0
  lastRaise : Nat := 0
  /-- DT of the last mark or retransmission (R374). -/
  lastBad : Nat := 0
  /-- The RTT samples of the last 10 ms: DT and sample (R375). -/
  rtts : List (Nat × Nat) := []
  streams : Vector CtxStream 4 := .replicate 4 {}
  /-- Packets not wholly acknowledged, with their flags; the first has index pktBase. -/
  pkts : List (Nat × Bytes) := []
  pktBase : Nat := 0
  /-- Packets waiting for a window, for credit or for HELLO_ACK. -/
  queue : List Waiting := []
  /-- Retransmissions that wait for credit: stream and SSN (R417). -/
  owed : List (Fin 4 × Nat) := []
  /-- TX_TS of the last datagram of the open context received from the peer: a HELLO older than it is no new opening (R369). -/
  heard : Option Nat := none
  lastUse : Nat := 0
  /-- DT of the first HELLO and of the last (R369, R373). -/
  firstHello : Nat := 0
  lastHello : Nat := 0
  /-- DT at which a data segment was last received (R372). -/
  lastRx : Nat := 0
  /-- Segments received since the last ACK, the DT of the first of them, and whether the last one had CE (R371). -/
  ackOwed : Nat := 0
  ackAt : Nat := 0
  lastCe : Bool := false
  deriving DecidableEq, Repr

/-- Device-wide Tether state (R370, R383). -/
structure Tether where
  /-- Contexts by CTX_ID, 0 to 1023. -/
  ctxs : Tab (Option Ctx) := []
  regs : RegFile := []
  deriving DecidableEq, Repr

/-- What this device keeps of another device. -/
structure Peer where
  /-- The last START_ID learnt (R317). -/
  startId : Option Nat := none
  unreachable : Bool := false
  /-- Marked unreachable because its epoch was behind; it stays so until it shows a current one (R120). -/
  behind : Bool := false
  /-- The newest cluster-state notice, where one has arrived: NOTICE_SEQ and IN_SERVICE (R509). -/
  noticeSeq : Option Nat := none
  inService : Nat := 0xFF
  deriving DecidableEq, Repr

/-- A packet that a flow holds until its turn (R350): FLOW_SEQ, path, whether it is a collective piece, DT of receipt, bytes (none
where the packet of that number failed its check, R314), and whether it moved from its pool into the reorder buffer. -/
structure HeldPkt where
  seq : Nat := 0
  path : Path := .loc
  piece : Bool := false
  dt : Nat := 0
  bytes : Bytes := []
  moved : Bool := false
  deriving DecidableEq, Repr

/-- One partition index's traffic with one device (R315, R316, R350). Keyed by 4 * device + partition. -/
structure Flow where
  txNext : Nat := 0
  /-- The Tether plane that the flow uses: the flow hash's, or the one after a plane that failed (R41). -/
  plane : Option PlaneId := none
  rxNext : Nat := 0
  /-- Packets not yet delivered (R350). -/
  rxHeld : List HeldPkt := []
  /-- Packets and pieces sent that a REFUSE may name (R120, R314): FLOW_SEQ, piece or not, bytes, newest first; as many
as FLOW_SEQ tells apart. -/
  sent : List (Nat × Bool × Bytes) := []
  /-- Failed transmissions (R314): tag, SLOT_GEN, KIND, number. -/
  fails : List (Nat × Nat × Nat × Nat) := []
  /-- The highest PART_EPOCH seen (R316). -/
  epoch : Option Nat := none
  deriving DecidableEq, Repr

/-- What the device keeps of the rest of the system. -/
structure Net where
  /-- Own START_ID (R317). -/
  startId : Nat := 0
  peers : Tab Peer := []
  flows : Tab Flow := []
  /-- What waits to be sent, in the order in which it was queued. -/
  wait : List Waiting := []
  /-- Messages of staged commits and of the pair that wait for a path: destination and bytes. -/
  msgs : List (DevId × Bytes) := []
  /-- Deficit round robin of R412: what each partition may still send in its turn, by 4 * resource + partition; a resource is a
  link or, from 16 on, a plane. -/
  deficit : Tab Nat := []
  /-- The device whose flow was served last, by the same key (R414). -/
  turn : Tab Nat := []
  /-- NOTICE_SEQ of this device's own notices (R509). -/
  noticeSeq : Nat := 1
  deriving DecidableEq, Repr

end Sys2Proof.Machine
end

