-- ==== Sys2Proof/Machine/BlocksHost.lean ====
section
/-!
DEFINITION. Machine/BlocksHost.lean: plain data of the host ports (spec/06): the function's configuration, BAR2
assembly, the port as DMA master, MSI-X, IDE and power management.
-/
namespace Sys2Proof.Machine
open Sys2Proof

/-- The assembly buffer of one BAR2 window (R134). -/
structure Assembly where
  /-- The 64-byte block being assembled. -/
  block : Option Nat := none
  bytes : Memory := []
  /-- One bit per byte written since assembly began. -/
  written : Nat := 0
  deriving DecidableEq, Repr

/-- One MSI-X vector (R129, R147). -/
structure MsixVec where
  addr : Nat := 0
  data : Nat := 0
  mask : Bool := true
  pend : Bool := false
  deriving DecidableEq, Repr

/-- Where the data of a host read goes. -/
inductive DmaTarget where
  /-- Bytes `[off, off + len)` of the row of a token slot (R224). -/
  | slotRow (slot off : Nat)
  /-- Bytes of the packed element order of an XFR.COPY from host (R226). -/
  | copyIn (off : Nat)
  /-- Bytes of ring entry `n` of a stream (R164). -/
  | ring (st : StreamId) (n : Nat)
  /-- Bytes of the manifest header of a LOAD_MODEL (R228). -/
  | manifest (off : Nat)
  /-- Bytes of manifest section `i` of a LOAD_MODEL (R229). -/
  | section_ (i off : Nat)
  /-- The zero-length read that a paired device waits for (R488). -/
  | flush (slot : Nat)
  /-- The DONE word of a record, which a standby reads at takeover (R490). -/
  | doneWord
  /-- A read whose requester is gone: its data is discarded (R155). -/
  | orphan
  deriving DecidableEq, Repr

/-- The kinds of host-memory write (R143, R151, R456, R632). -/
inductive HostWriteKind where
  | output | record | report | copyOut | mirror
  deriving DecidableEq, Repr

/-- A request of the port as DMA master, in issue order (R140 to R143). -/
inductive DmaReq where
  | read (addr len : Nat) (tgt : DmaTarget)
  /-- `unit` and `unitLen` name the write unit (R156); `first` marks its first TLP. -/
  | write (kind : HostWriteKind) (addr : Nat) (data : Bytes) (unit unitLen : Nat) (first : Bool)
  | msix (v : Nat)
  deriving DecidableEq, Repr

/-- A host read outstanding on the port (R142, R144). -/
structure DmaRead where
  tag : Nat := 0
  addr : Nat := 0
  len : Nat := 0
  /-- Bytes already delivered. -/
  got : Nat := 0
  tgt : DmaTarget := .orphan
  /-- Nanoseconds since the reset at its issue, and the timeout in force then (R144). -/
  issued : Nat := 0
  timeout : Nat := 0
  deriving DecidableEq, Repr

/-- What AER has logged of the errors the spec names; sticky through every port reset (R145, R146, R155, R157). -/
structure Aer where
  unexpected : Bool := false
  poisoned : Bool := false
  advisory : Bool := false
  deriving DecidableEq, Repr

/-- One IDE stream of a port: 0 Link, 1 to 4 Selective (R127, R148, R535). Keys are numbers; 0 is no key. -/
structure IdeStream where
  secure : Bool := false
  /-- Key of (sub-stream, direction, set) at index 4 * sub + 2 * dir + set. -/
  keys : List Nat := List.replicate 12 0
  /-- Active set of (sub-stream, direction) at index 2 * sub + dir; 2 for none. -/
  active : List Nat := List.replicate 6 2
  deriving DecidableEq, Repr

/-- The reset of the port or partition that is in progress, and the last port reset (R48, R158). -/
inductive PortReset where
  | none | flr | perst | linkDown
  deriving DecidableEq, Repr

/-- One host port (R127 to R158). -/
structure Port where
  /-- Rate 1 to 6, 0 when the link is down (HP_LINK_STATUS.GEN). -/
  gen : Nat := 0
  width : Nat := 0
  flit : Bool := false
  reversed : Bool := false
  /-- The link is directed to Detect.Quiet and trains no further (R81, R131). -/
  quiet : Bool := false
  /-- A retrain under R131 is in progress. -/
  retrain : Bool := false
  /-- The function answers Request Retry Status (R53, R155). -/
  rrs : Bool := true
  /-- BAR4 present in the configuration header (R128, R131). -/
  bar4 : Bool := false
  /-- The header is fixed (R131). -/
  mapped : Bool := false
  mse : Bool := false
  bme : Bool := false
  d3hot : Bool := false
  pmeEn : Bool := false
  pmeStatus : Bool := false
  /-- A PM_PME is scheduled and not yet transmitted (R151). -/
  pmePending : Bool := false
  aspmL1 : Bool := false
  inL1 : Bool := false
  /-- PME_Turn_Off has been received (R153); L2/L3 Ready has been entered. -/
  turnOff : Bool := false
  l23 : Bool := false
  mps : Nat := 128
  mrrs : Nat := 512
  tag14 : Bool := false
  tag10 : Bool := false
  extTag : Bool := false
  ctoSel : Nat := 0
  /-- Enable Relaxed Ordering; 1 after reset (PRESUMED: notes/assumptions/21.md). -/
  relaxed : Bool := true
  /-- ID-Based Ordering enable; 0 after reset (PRESUMED: notes/assumptions/21.md). -/
  ido : Bool := false
  /-- The base addresses of BAR0, BAR2 and BAR4 as configuration software wrote them (R128). -/
  bars : Vector Nat 3 := .replicate 3 0
  aer : Aer := {}
  msixEn : Bool := false
  msixMaskAll : Bool := false
  vecs : Vector MsixVec 16 := .replicate 16 {}
  asm : Vector Assembly 7 := .replicate 7 {}
  /-- Requests waiting to be issued, oldest first. -/
  dmaQ : List DmaReq := []
  /-- BAR4 accesses that wait for credit, oldest first: offset, bytes read, data of a write and its EP bit (R417). -/
  bar4Wait : List (Nat × Nat × Option (Bytes × Bool)) := []
  reads : List DmaRead := []
  nextTag : Nat := 0
  /-- DMA stopped by an IDE integrity failure (R148). -/
  dmaStopped : Bool := false
  ide : Vector IdeStream 5 := .replicate 5 {}
  /-- A port reset is in progress, from its trigger to FUNCTION_READY. -/
  resetting : PortReset := .none
  /-- Work was outstanding at DL_Down: the partition is reset once no read is outstanding (R157). -/
  downWait : Bool := false
  /-- WAKE_CAUSE bits (R158). -/
  wakeCause : Nat := 0
  bar4BaseGib : Nat := 0
  /-- HP_FLR_REPORT. -/
  tornRanges : Nat := 0
  allTorn : Bool := false
  lastReset : PortReset := .none
  /-- HP_* counters that are RC. -/
  regs : RegFile := []
  deriving DecidableEq, Repr

end Sys2Proof.Machine
end

