-- ==== Sys2Proof/Machine/BlocksSec.lean ====
section
/-!
DEFINITION. Machine/BlocksSec.lean: plain data of security (spec/21), of built-in self-test (spec/22), of the
management processors and MCTP services (spec/23) and of trace, snapshots and debug (spec/25).
-/
namespace Sys2Proof.Machine
open Sys2Proof

/-- One of the 8 SPDM sessions (R533). Key material is a number; 0 is zeroized. -/
structure SpdmSession where
  id : Nat := 0
  binding : SpdmBinding := .mctp
  key : Nat := 0
  updates : Nat := 0
  alive : Bool := true
  deriving DecidableEq, Repr

/-- One decrypted item of the key vault (R530). -/
structure VaultItem where
  /-- 1 MACsec, 2 Bridle. -/
  type : Nat := 0
  planeMask : Nat := 0
  ckn : Bytes := []
  /-- CAK of a MACsec item, group PSK of a Bridle item. -/
  secret : Bytes := []
  deriving DecidableEq, Repr

/-- The volatile keys of the key ladder (R529); 0 is zeroized. -/
structure KeyLadder where
  ork : Nat := 0
  vaultKey : Nat := 0
  devId : Nat := 0
  tkey : Nat := 0
  alias_ : Nat := 0
  drbg : Nat := 0
  deriving DecidableEq, Repr

/-- Security state (R518 to R553). -/
structure Sec where
  nonce : Bytes := List.replicate 48 0
  /-- SEC_CMD_BUF, 1,024 bytes. -/
  cmdBuf : Memory := []
  cmdBusy : Bool := false
  cmdStatus : Nat := 0
  cmdOpcode : Nat := 0
  /-- Consecutive signature failures (R521). -/
  failRun : Nat := 0
  locked : Bool := false
  /-- `boot.sinceNs` of the failure that started the lockout (R521). -/
  lockedAt : Nat := 0
  logSeq : Nat := 0
  /-- Chain value H (R546), 48 bytes. -/
  logH : Bytes := List.replicate 48 0
  logBoot : Nat := 0
  logSector : Nat := 0
  logFull : Bool := false
  /-- The same for LINK_AUTH_FAIL, per link (0 to 15), port (16 to 19) or plane (32 to 63). -/
  linkAuthLast : Tab Nat := []
  linkAuthCount : Tab Nat := []
  selftestPassed : Bool := false
  selftestLast : Nat := 0
  vaultValid : Bool := false
  certMismatch : Bool := false
  /-- DEBUG_ACCESS has been selected since the reset (R541). -/
  jtagOpen : Bool := false
  jtagIr : Nat := 0xFF
  sessions : List SpdmSession := []
  nextSession : Nat := 1
  keys : KeyLadder := {}
  tkeyPub : Bytes := List.replicate 96 0
  vault : List VaultItem := []
  deriving DecidableEq, Repr

/-- A BIST run in progress (R556 to R561). -/
structure BistRun where
  /-- 1 MFG_TEST, 2 RUN, 3 shutdown. -/
  trigger : Nat := 0
  /-- Unit codes (R554) not yet started. -/
  todo : List Nat := []
  /-- Unit codes under test. -/
  batch : List Nat := []
  maxClusters : Nat := 1
  powerW : Nat := 400
  /-- `boot.sinceNs` when the batch started. -/
  startNs : Nat := 0
  deriving DecidableEq, Repr

/-- Built-in self-test state (R554 to R565). -/
structure Bist where
  run : Option BistRun := none
  /-- BST_UNITS, all 32 bits as written. DESIGN CHOICE: notes/assumptions/90.md. -/
  units : Nat := 0
  parked : Bool := false
  refused : Bool := false
  reason : Nat := 0
  /-- Standing FAIL mask (R563) kept by the log, and the mask applied at the last start. -/
  standing : Nat := 0
  applied : Nat := 0
  /-- Retired reducer slots, as kept by the log and as applied. -/
  slots : Nat := 0
  slotsApplied : Nat := 0
  /-- Spool bank replaced by the spare; 0xFF none. -/
  spare : Nat := 0xFF
  runSeq : Nat := 0
  shutdownSeq : Nat := 0
  /-- Index of the next log record. -/
  nextRec : Nat := 0
  deriving DecidableEq, Repr

/-- One entry of the policy event queue (R572). -/
structure MgtEvent where
  event : Nat := 0
  unit : Nat := 0xFF
  arg : Nat := 0
  dt : Nat := 0
  deriving DecidableEq, Repr

/-- The steps of a PLDM firmware update (R582). -/
inductive UpdPhase where
  | idle | requested | tablePassed | erasing | transferring | verifying | applying | complete
  deriving DecidableEq, Repr

/-- A PLDM firmware update in progress (R582, R583). -/
structure PldmUpdate where
  phase : UpdPhase := .idle
  bankB : Bool := false
  /-- Offsets 0 to 0x0FFF, held in MGMT SRAM. -/
  hold : Memory := []
  /-- The first 512 bytes have arrived. -/
  headerHeld : Bool := false
  /-- An UpdateComponent waits for them. -/
  waiting : Bool := false
  length : Nat := 0
  nextOffset : Nat := 0
  /-- The way to the update agent. -/
  agent : MctpBinding := .smbus
  deriving DecidableEq, Repr

/-- The management processors and their services (R566 to R587). -/
structure Mgt where
  fwState : Nat := 0
  fallback : Bool := false
  /-- ns until the watchdog expires; 0 while it is not running. -/
  wdtLeft : Nat := 0
  /-- The event queue: entry n is at n mod 256. -/
  events : Tab MgtEvent := []
  head : Nat := 0
  tail : Nat := 0
  mp0Irq : Bool := false
  view : PartId := 0
  wakeReq : Nat := 0
  eid : Nat := 0
  smbAddr : Nat := 0
  stagePage : Nat := 0
  bootInfo : List Nat := [0, 0, 0, 0]
  msgIn : Memory := []
  msgOut : Memory := []
  /-- COMMAND of the policy message not yet answered, and the way it came (R579). -/
  msgPending : Option (Nat × MctpBinding) := none
  /-- `boot.sinceNs` at which it came. -/
  msgAt : Nat := 0
  update : PldmUpdate := {}
  /-- The way to the event receiver, once SetEventReceiver has named one (R581). -/
  eventReceiver : Option MctpBinding := none
  /-- Last reported level of each sensor: 1 normal, 2 warning, 3 critical, 4 fatal, or the state value. -/
  sensorLast : Tab Nat := []
  /-- `boot.sinceNs` of the last event of each sensor, plus 1; 0 where there was none. -/
  sensorAt : Tab Nat := []
  /-- The last MCTP message sent on SMBus, its type and its bytes, and how often it was retried (R575). -/
  smbLast : Option (Nat × Bytes) := none
  smbTries : Nat := 0
  /-- `boot.sinceNs` of the last try. -/
  smbAt : Nat := 0
  /-- `boot.sinceNs` at which ActivateFirmware was answered in SAFE; a warm reset is due 100 ms later (R584). -/
  activationAt : Option Nat := none
  /-- `boot.sinceNs` from which the next 10 ms of alert of the fallback policy count (R571). -/
  alertAt : Nat := 0
  deriving DecidableEq, Repr

/-- The KIND of a trace record (R612). -/
inductive TraceKind where
  | start | end_ | abort | stage | specSend | confirm | cancel | lost | mark
  deriving DecidableEq, Repr

/-- A trace record (R612). -/
structure TraceRec where
  opcode : Nat := 0
  kind : TraceKind := .start
  withdrawn : Bool := false
  stream : Nat := 7
  tag : Nat := 0
  dt : Nat := 0
  jobId : Nat := 0
  step : Nat := 0
  detail : Nat := 0
  seq : Nat := 0
  deriving DecidableEq, Repr

/-- The trace state of a partition (R608 to R616, R621). -/
structure Trace where
  ctl : Nat := 0x7F00
  base : Nat := 0
  size : Nat := 0x10000
  post : Nat := 0x400
  rd : Nat := 0
  trigTag : Nat := 0
  trigSeq : Nat := 0
  wr : Nat := 0
  seq : Nat := 0
  stopped : Bool := false
  triggered : Bool := false
  refused : Bool := false
  postLeft : Nat := 0
  buf : List TraceRec := []
  /-- Records dropped since the last LOST record. -/
  droppedRun : Nat := 0
  deriving DecidableEq, Repr

/-- A counter snapshot held for one requester (R617, R618). -/
structure Snap where
  held : Bool := false
  dt : Nat := 0
  /-- Captured values by register offset. -/
  caps : RegFile := []
  deriving DecidableEq, Repr

/-- The debug registers of the management processors (R619, R621). -/
structure MpDebug where
  /-- DBG_MP_CTL: the HALT bits and the STEP bits as last written. -/
  halt : Nat := 0
  step : Nat := 0
  pc0 : Nat := 0
  pc1 : Nat := 0
  deriving DecidableEq, Repr

end Sys2Proof.Machine
end

