-- ==== Sys2Proof/Machine/BlocksPart.lean ====
section
/-!
DEFINITION. Machine/BlocksPart.lean: plain data of a partition: its streams (spec/07), job (spec/07, spec/16), tensor
descriptors and models (spec/08), token slots and Reel records (spec/12), stored rows and passes (spec/10, spec/11,
spec/12), the layer step being carried (spec/01, spec/08), Dual-Line and pairing (spec/17, spec/19).
-/
namespace Sys2Proof.Machine
open Sys2Proof

/-- The progress of the command a stream executes (R160). -/
inductive ExecPhase where
  /-- At the head: decode checks passed, waits not yet met, since the given DT (R174). -/
  | waiting (since : Nat)
  /-- Executing; its writes or its awaited events are outstanding. -/
  | running
  /-- Executed: it completes at the next COMMAND_COMPLETE. -/
  | done
  deriving DecidableEq, Repr

/-- The command a stream has taken (R160, R182). -/
structure Exec where
  desc : Bytes := []
  phase : ExecPhase := .running
  /-- The copies of the TDs named, read at the start of execution: index and 32 bytes (R182). -/
  tds : List (Nat × Bytes) := []
  /-- DT of the start of execution. -/
  start : Nat := 0
  /-- Effective first slot or ROW0 (R196, R197). -/
  base : Nat := 0
  /-- Positions of the command already worked on (RTE.SELECT, XFR.TOKENS_OUT, XFR.COPY). -/
  at_ : Nat := 0
  /-- DEFERRED fault codes recorded for the command: once each (R145). -/
  noted : List Nat := []
  deriving DecidableEq, Repr

/-- One engine stream (R159 to R164, R178, R191). -/
structure Stream where
  /-- The queue of at most 256 descriptors, head first (R161). -/
  queue : List Bytes := []
  exec : Option Exec := none
  /-- Handle of the model whose program the stream runs; 0 when streamed (R165). -/
  resident : Nat := 0
  pc : Nat := 0
  ct : Vector Word 8 := .replicate 8 0
  /-- Descriptors still to be skipped (R179). -/
  skip : Nat := 0
  ringBase : Nat := 0
  ringLog2 : Nat := 8
  ringEnable : Bool := false
  ringTail : Nat := 0
  ringHead : Nat := 0
  /-- Ring fetches issued and not entered: entry index, bytes if they have arrived (R161, R164). -/
  fetches : List (Nat × Option Bytes) := []
  entered : Nat := 0
  retired : Nat := 0
  /-- The stream is inside the open job (R185). -/
  inJob : Bool := false
  /-- The stream has completed JOB_END of the open or last job. -/
  ended : Bool := false
  deriving DecidableEq, Repr

/-- The open or last job of a partition (R185, R199, R200, R409, R418, R429). -/
structure Job where
  open_ : Bool := false
  id : Nat := 0
  /-- The model's own number of the job, which tells jobs of one JOB_ID apart. -/
  serial : Nat := 0
  mask : Nat := 0
  priority : Nat := 0
  stillAir : Bool := false
  digest : Bool := false
  updraft : Bool := false
  model : Nat := 0
  deadline : Nat := 0
  /-- DEADLINE lay less than 10 µs after the DT of the JOB_BEGIN: every projection is late (R418). -/
  short : Bool := false
  clusters : Nat := 0
  /-- DEADLINE_MISS has been recorded (R422). -/
  missRecorded : Bool := false
  missed : Bool := false
  latch : Bool := false
  lastCheck : Nat := 0
  lateS : Bool := false
  lateD : Bool := false
  lastProj : Nat := 0
  fingerprint : Nat := 0
  settings : Bytes := List.replicate 32 0
  nondet : Nat := 0
  /-- DET_JOB_OUTSIDE bits 5:1 (R431). -/
  outside : Nat := 0
  /-- Bytes of the input digest so far (R435). -/
  hashed : Bytes := []
  suppressed : Nat := 0
  /-- The job came from the mirror (R491). -/
  replayed : Bool := false
  /-- Checkpoints of ended steps whose interval awaits the next completion record: model, dispatch, DT (R420). -/
  checks : List (Nat × Bool × Nat) := []
  deriving DecidableEq, Repr

/-- One section of a resident model (R229). -/
structure Section where
  kind : Nat := 0
  offset : Nat := 0
  length : Nat := 0
  deriving DecidableEq, Repr

/-- The map in force for a layer and the DT at which a commit brought it (R34, R111). -/
structure LayerMap where
  /-- Partition-region offset of the layer's entries; none before a commit brings a map. -/
  offset : Option Nat := none
  changed : Nat := 0
  deriving DecidableEq, Repr

/-- A resident model (R228 to R232, R420, R424). -/
structure Model where
  slot : Nat := 0
  handle : Nat := 0
  cmdset : Nat := 1
  localDispatch : Bool := false
  hasShadow : Bool := false
  wdtype : Nat := 0
  layers : Nat := 0
  experts : Nat := 0
  dmodel : Nat := 0
  hidden : Nat := 0
  homeHidden : Nat := 0
  topk : Nat := 0
  capacityTc : Nat := 0
  spoolKib : Nat := 0
  reelKib : Nat := 0
  sections : List Section := []
  ballastRows : Nat := 0
  ballastOffset : Nat := 0
  holdRows : Nat := 0
  programDigest : Bytes := []
  weightsDigest : Bytes := []
  /-- The TDs that its TD list wrote, index and image: its stored manifest's (R181, R184). -/
  tds : List (Nat × Bytes) := []
  maps : Tab LayerMap := []
  /-- The last 8 recorded intervals for checkpoints S and D (R420). -/
  estS : List Nat := []
  estD : List Nat := []
  deriving DecidableEq, Repr

/-- The model load that the XFR stream executes (R228 to R231). -/
structure Load where
  header : Memory := []
  /-- Section bytes received, by section index. -/
  data : List Memory := List.replicate 8 []
  /-- Bytes of a section that failed to arrive: section, offset, length (R145). -/
  bad : List (Nat × Nat × Nat) := []
  /-- 0 header, 1 TD list, 2 the other sections, 4 report due, 5 report written. -/
  stage : Nat := 0
  /-- Bytes of the stage still outstanding. -/
  left : Nat := 384
  /-- The outcome: 0 loaded, or the fault's code, sub-reason and detail. -/
  code : Nat := 0
  sub : Nat := 0
  detail : Nat := 0
  handle : Nat := 0
  bytes : Nat := 0
  programDigest : Bytes := List.replicate 32 0
  weightsDigest : Bytes := List.replicate 32 0
  deriving DecidableEq, Repr

/-- A token slot with its row and its Reel record (R21, R323 to R329). -/
structure Slot where
  held : Bool := false
  /-- The serial number of the job that took it. -/
  jobId : Nat := 0
  gen : Nat := 0
  row : Bytes := []
  /-- Bytes of the row still awaited from the host. -/
  awaited : Nat := 0
  rowPoison : Bool := false
  /-- Bytes of the row that never arrived: offset and length (R145, R435). -/
  absent : List (Nat × Nat) := []
  /-- The token was scored against a poisoned gate matrix by the last RTE.PROPOSE (R464). -/
  gateBad : Bool := false
  /-- A selection has been recorded for the slot in a step (R266). -/
  active : Bool := false
  expected : Nat := 0
  epoch : Nat := 0
  layer : Nat := 0
  /-- FP32 accumulator, D elements; empty is all +0. -/
  acc : List Nat := []
  seen : Nat := 0
  next : Nat := 0
  /-- Stash entries: rank, row (none for a drop). -/
  stash : List (Nat × Option (List Nat)) := []
  poison : Bool := false
  rounded : Bool := false
  out : Bytes := []
  fallback : Bool := false
  dropped : Nat := 0
  outOfOrder : Nat := 0
  deriving DecidableEq, Repr

/-- The stage of a row kept at a destination (R304, R20). -/
inductive RowStage where
  /-- Received in its turn, and kept in its pool until the row store or the Ballast has a free row (R272, R322). -/
  | waiting
  | stored | computing | held
  deriving DecidableEq, Repr

/-- A row received, or taken on the local path, and kept for a pass (R272, R295, R304, R322). -/
structure RowRec where
  tag : Nat := 0
  /-- FLOW_SEQ of its packet, which a REFUSE names (R314). -/
  seq : Nat := 0
  /-- The device that sent the row; its own DEVICE_ID for the local path and for home clauses. -/
  src : DevId := 0
  path : Path := .loc
  /-- Expert, 0xFFFF for a home clause. -/
  expert : Nat := 0
  cluster : Nat := 0
  layer : Nat := 0
  step : Nat := 0
  comm : Nat := 0xFF
  slotGen : Nat := 0
  partEpoch : Nat := 0
  weight : Nat := 0
  key : Nat := 0
  row : Bytes := []
  poison : Bool := false
  reissue : Bool := false
  spec : Bool := false
  ballast : Bool := false
  /-- Marked overflow (R273, R274). -/
  overflow : Bool := false
  stage : RowStage := .stored
  dt : Nat := 0
  /-- The unscaled result kept in the hold area (R295). -/
  heldD : List Nat := []
  heldPoison : Bool := false
  /-- Faults that its pass met and that wait for the verdict: an identity, shared by the rows that a fault concerns, and the
  record (R299). -/
  heldFaults : List (Nat × ErrRec) := []
  /-- Its expert had received C rows in the step before it (R272). -/
  late : Bool := false
  /-- Its packet as it stands in its pool, while the row waits there. -/
  pkt : Bytes := []
  /-- It has left the pool for the reorder buffer, and waits there (R350). -/
  moved : Bool := false
  /-- DSP_ROWSTORE_STALLS, and RTE_BALLAST_STALLS, have counted the row. -/
  storeStall : Bool := false
  ballastStall : Bool := false
  /-- A verdict that came during the pass: confirm, rank, weight (R304). -/
  verdict : Option (Bool × Nat × Nat) := none
  deriving DecidableEq, Repr

/-- An expert pass (R20, R247): its rows are the RowRecs in stage computing with this expert and layer. -/
structure Pass where
  expert : Nat := 0
  layer : Nat := 0
  step : Nat := 0
  /-- Handle of the model whose weights it uses. -/
  model : Nat := 0
  lead : Nat := 0
  /-- Tags of its rows in order. -/
  tags : List Nat := []
  /-- A pass for re-issued rows outside an executing step (R328, R470). -/
  reissue : Bool := false
  /-- The pass of a stand-alone SEQ.EXPERT (R215, R237). -/
  alone : Bool := false
  deriving DecidableEq, Repr

/-- The life of a clause of this device's own tokens (R303, R419, R466). -/
inductive ClauseStage where
  /-- A speculative clause sent and awaiting its verdict. -/
  | spec
  | refused
  /-- Resolved, queued and not dispatched. -/
  | queued
  /-- Dispatched, or on the local path. -/
  | sent
  deriving DecidableEq, Repr

/-- A clause of this device's tokens that is outstanding (R291, R466). -/
structure Clause where
  tag : Nat := 0
  pos : Nat := 0
  slot : Nat := 0
  rank : Nat := 0
  expert : Nat := 0
  weight : Nat := 0
  key : Nat := 0
  dev : DevId := 0
  cluster : Nat := 0
  stage : ClauseStage := .sent
  reissue : Bool := false
  /-- The configuration epoch of its resolution (R37). -/
  epoch : Nat := 0
  /-- Devices that caused a re-issue of it (R468), and failed retransmissions (R314). -/
  excluded : List DevId := []
  fails : Nat := 0
  /-- The code of a fault held with a speculative clause (R299). -/
  heldFault : Option Nat := none
  /-- The speculative tag that a committed clause was confirmed from (R292, R294). -/
  specTag : Option Nat := none
  deriving DecidableEq, Repr

/-- The close marker of one participant: the device, and its counts by expert and cluster (R19, R274, R313). -/
structure CloseRx where
  dev : DevId := 0
  counts : List (Nat × Nat × Nat) := []
  deriving DecidableEq, Repr

/-- A close marker that came before its CONJ.STEP started (R212). -/
structure EarlyClose where
  dev : DevId := 0
  step : Nat := 0
  layer : Nat := 0
  counts : List (Nat × Nat × Nat) := []
  deriving DecidableEq, Repr

/-- The layer step that the DSP stream's CONJ.STEP carries (R209 to R213, R19, R20, R419 to R421). -/
structure Conj where
  tag : Nat := 0
  first : Nat := 0
  count : Nat := 0
  clauseTd : Bytes := []
  feedSyc : Nat := 0
  feedEn : Bool := false
  comm : Nat := 0xFF
  /-- The step's participants, this device among them. -/
  parts : List DevId := []
  step : Nat := 0
  layer : Nat := 0
  /-- Positions taken so far, in order. -/
  taken : Nat := 0
  closeSent : Bool := false
  /-- Clauses sent to each destination replica: device, expert, cluster, count (R313). -/
  sent : List (DevId × Nat × Nat × Nat) := []
  clauses : List Clause := []
  closes : List CloseRx := []
  closed : Bool := false
  latch : Bool := false
  checkS : Option Nat := none
  checkD : Option Nat := none
  /-- The interval of the checkpoint is recorded already (R420). -/
  markS : Bool := false
  markD : Bool := false
  /-- Experts for which FALLBACK_TAKEN was recorded in the step (R39), and overflows recorded (R277). -/
  fallbackRec : List Nat := []
  overflowRec : List Nat := []
  /-- (device, cluster) pairs for which GATE_BOUNCE was recorded (R510). -/
  bounceRec : List (DevId × Nat) := []
  /-- Admitted clauses: expert, cluster, receive timestamp, place of the path (R273, R276). -/
  admitted : List (Nat × Nat × Nat × Nat) := []
  /-- Clauses counted as received per expert, for the Ballast rule (R272). -/
  received : List (Nat × Nat) := []
  /-- DT of the first unanswered PROBE by device (R469). -/
  probes : List (DevId × Nat) := []
  /-- DT of closure, and by device the DT of its last contribution or of the last PROBE to it (R469). -/
  closedAt : Nat := 0
  heard : List (DevId × Nat) := []
  /-- The job was torn down and the step is still served (R471), until this DT. -/
  served : Option Nat := none
  /-- A pass of the step has run; its stages 5 and 6 have been traced (R614). -/
  ran : Bool := false
  traced5 : Bool := false
  traced6 : Bool := false
  deriving DecidableEq, Repr

/-- A Still-Air record waiting for the pair's COMPARE (R443). -/
structure DlWait where
  seq : Nat := 0
  jobId : Nat := 0
  count : Nat := 0
  request : Nat := 0
  check : Bytes := []
  exempt : Bool := false
  sentDt : Nat := 0
  deriving DecidableEq, Repr

/-- A COMPARE of the pair held until this device has its own (R443), or an ABANDON. -/
structure DlRx where
  seq : Nat := 0
  abandon : Bool := false
  jobId : Nat := 0
  count : Nat := 0
  request : Nat := 0
  check : Bytes := []
  exempt : Bool := false
  deriving DecidableEq, Repr

/-- Dual-Line state of a partition (R443 to R447). -/
structure DlPart where
  seq : Nat := 0
  wait : Option DlWait := none
  rx : List DlRx := []
  compared : Nat := 0
  /-- Cause of the last DL_MISMATCH (R443, R447). -/
  lastCause : Nat := 0
  /-- The compare of the XFR.TOKENS_OUT at the head has let its record go (R443). -/
  decided : Bool := false
  deriving DecidableEq, Repr

/-- A completion record staged and not yet issued (R488). -/
structure Staged where
  addr : Nat := 0
  record : Bytes := []
  /-- Slots it holds: first and count. -/
  first : Nat := 0
  count : Nat := 0
  dt : Nat := 0
  /-- SNAP_EPOCH of the first snapshot that contains it; 0 for none yet. -/
  epoch : Nat := 0
  /-- Its command has IRQ set: the stream's vector follows the record's issue (R143, R147). -/
  irq : Bool := false
  deriving DecidableEq, Repr

/-- What a snapshot carries of a job end (R486). -/
structure Boundary where
  epoch : Nat := 0
  job : Nat := 0
  st : Nat := 0
  recordSeq : Nat := 0
  /-- The QUEUE, SYC and MODELS sections. -/
  queue : Bytes := []
  syc : Bytes := []
  models : Bytes := []
  /-- The TDs written since the job end before, and every VALID TD. -/
  dirty : List (Nat × Bytes) := []
  tds : List (Nat × Bytes) := []
  deriving DecidableEq, Repr

/-- Paired-mode state of a partition (R484 to R495). -/
structure SbPart where
  covered : Bool := false
  goodEpoch : Nat := 0
  good : Option Bytes := none
  newEpoch : Nat := 0
  newBuf : Bytes := []
  newFilling : Bool := false
  /-- Mirrored descriptors by stream: QUE_ENTERED index and descriptor (R485). -/
  mirror : List (Nat × Nat × Bytes) := []
  staged : List Staged := []
  snapEpoch : Nat := 0
  /-- DT of the last snapshot (R486). -/
  snapDt : Nat := 0
  /-- The state at the last job end, which snapshots repeat (R486). -/
  boundary : Option Boundary := none
  /-- TD indices written since the last job-end snapshot. -/
  tdDirty : List Nat := []
  issued : Nat := 0
  released : Nat := 0
  snapBytes : Nat := 0
  gateNs : Nat := 0
  resume : List Nat := List.replicate 7 0
  /-- Descriptors still in the queues that came from the mirror, by stream (R491). -/
  replayLeft : List Nat := List.replicate 7 0
  /-- The VALID TDs at the good snapshot. -/
  tds : Tab Bytes := []
  /-- Takeover: the staged records of the good snapshot whose DONE words are still to be read, first the one being read, and
  the bytes read of it (R490). -/
  resolve : List (Nat × Bytes) := []
  resolveGot : Bytes := []
  /-- ISSUED_COUNT carried by each snapshot sent and not acknowledged. -/
  sentCounts : List (Nat × Nat) := []
  deriving DecidableEq, Repr

/-- A regulator (R415 to R417). -/
structure Regulator where
  credit : Int := 0
  /-- A transfer has waited in the running window. -/
  stalled : Bool := false
  deriving DecidableEq, Repr

/-- A request of a partition waiting at a shared resource: since which DT, and how often its age has raised it (R412, R413). -/
structure WaitReq where
  since : Nat := 0
  raises : Nat := 0
  deriving DecidableEq, Repr

/-- A partition (R408). -/
structure Part where
  streams : Vector Stream 7 := .replicate 7 {}
  job : Job := {}
  halted : Bool := false
  /-- The teardown in progress is a job's: steps 4 and 5 of R187 are due (R187, R201). -/
  torn : Bool := false
  resetting : Bool := false
  epoch : Nat := 0
  /-- Tensor descriptors; an unlisted index holds VALID 0 (R180, R181). -/
  tds : Tab Bytes := []
  models : List Model := []
  loadSeq : Nat := 0
  /-- Current model handle; 0 for none (R425). -/
  curModel : Nat := 0
  load : Option Load := none
  slots : Tab Slot := []
  spool : Memory := []
  spoolPoison : Tab Bool := []
  reel : Memory := []
  reelPoison : Tab Bool := []
  rows : List RowRec := []
  closes : List EarlyClose := []
  pass : Option Pass := none
  /-- A pass has begun since the last reset of the SEQ block (R255). -/
  seqRan : Bool := false
  conj : Option Conj := none
  /-- A torn-down step that is still served (R471). -/
  served : Option Conj := none
  colRun : Option ColRun := none
  /-- Next RECORD_SEQ less 1 (R331). -/
  recordSeq : Nat := 0
  /-- Gate matrix held in the gate buffer: model handle and layer (R260). -/
  gateBuf : Option (Nat × Nat) := none
  /-- The configuration epoch at which SRT.BUCKET resolved the clause record at a Spool offset (R37). -/
  resolved : Tab (Option Nat) := []
  rteLayer : Nat := 0
  rteEc : Bool := false
  inputDigest : Bytes := List.replicate 32 0
  /-- Registers and counters; DLM_GUARD_NS resets to 2,000 (R429). -/
  regs : RegFile := [(0x00020078, 0x7D0)]
  ring : ErrRing := {}
  trace : Trace := {}
  dl : DlPart := {}
  sb : SbPart := {}
  regul : Vector Regulator 4 := .replicate 4 {}
  /-- The port's host requests that wait, oldest first; and what waits for HBM credit: a stream's command by its number, a pass
at 7, a drain of the trace at 8. -/
  waitReqs : List WaitReq := []
  hbmWait : Tab (Option WaitReq) := []
  /-- Tokens whose shadow scores are ready or due: position, predictions (expert, rank) (R287). -/
  shadow : List (Nat × List (Nat × Nat)) := []
  deriving DecidableEq, Repr

end Sys2Proof.Machine
end

