-- ==== Sys2Proof/Machine/BlocksPower.lean ====
section
/-!
DEFINITION. Machine/BlocksPower.lean: plain data of power and thermal (spec/20), of the pair roles (spec/19), of
Dual-Line pairing (spec/17) and of the Expert Cores (spec/09).
-/
namespace Sys2Proof.Machine
open Sys2Proof

/-- Gating states of a cluster (R508). -/
inductive ClusterState where
  | on | closing | draining | isolated | off
  deriving DecidableEq, Repr

/-- One Expert Core (R233, R236). Slots are keyed by 4096 * tile + 64 * row + element. -/
structure CoreSt where
  t : Tab Nat := []
  a : Tab Nat := []
  /-- Format tag of each T tile: 0 BF16, 1 E4M3, 2 E5M2. -/
  tags : Tab Nat := []
  /-- Row poison bits, keyed by 64 * tile code + row. -/
  rowPoison : Tab Bool := []
  scratch : Memory := []
  scratchPoison : Tab Bool := []
  deriving DecidableEq, Repr

/-- One cluster CL0 to CL7 (R508 to R512, R233). -/
structure Cluster where
  state : ClusterState := .off
  /-- Removed by BIST or fuses: never in service (R94). -/
  disabled : Bool := false
  /-- Powering up (R512). -/
  waking : Bool := false
  /-- Left the open job's cluster set at a pass boundary still to come (R409). -/
  leaving : Bool := false
  /-- `boot.sinceNs` when it entered its state (R508). -/
  since : Nat := 0
  cores : Vector CoreSt 8 := .replicate 8 {}
  deriving DecidableEq, Repr

/-- Power and thermal state (R496 to R517). -/
structure Power where
  target : Nat := 0
  changing : Bool := false
  quiet : Bool := false
  /-- The P-state held before QUIET, and the DTs of the last 64 ROW packets in it, newest first (R515). -/
  saved : Nat := 0
  rowDts : List Nat := []
  /-- Duties of the EDP/limit clamp and of the thermal clamp, 4 to 16 (R501 to R503). -/
  dutyPower : Nat := 16
  dutyThermal : Nat := 16
  clampEdp : Bool := false
  clampLimit : Bool := false
  clampThermal : Bool := false
  railOor : Bool := false
  /-- The last VDD_CORE readback in mV; consecutive samples outside 5 % and within 3 % (R499). -/
  railMv : Nat := 0
  railBad : Nat := 0
  railGood : Nat := 0
  held : Option Nat := none
  avg10 : Nat := 0
  avg100 : Nat := 0
  /-- Sum and number of the estimates of the running 10 us window. -/
  winSum : Nat := 0
  winCount : Nat := 0
  /-- The window index of the running sum, and the last ten thousand windows' sum is avg100's source. -/
  winIdx : Nat := 0
  sum100 : Nat := 0
  count100 : Nat := 0
  limitW : Nat := 900
  closeUs : Nat := 100
  alertC : Nat := 105
  lastCmd : Nat := 0
  refused : Bool := false
  reason : Nat := 0
  /-- Signed temperatures in 0.125 degrees C. -/
  tj : Int := 0
  hottest : Nat := 0
  sensors : Vector Int 18 := .replicate 18 0
  hbm : Vector Int 6 := .replicate 6 0
  alert : Bool := false
  thmMax : Int := 0
  /-- 10 us samples below 107.0 degrees C since the last duty raise (R501). -/
  coolRun : Nat := 0
  hbmDouble : Vector Bool 6 := .replicate 6 false
  hbmHalf : Vector Bool 6 := .replicate 6 false
  clampNs : Nat := 0
  energyMj : Nat := 0
  energyRem : Nat := 0
  /-- `boot.sinceNs` of the last round of cluster-state notices that the 10 ms timer sent (R509). -/
  noticeAt : Nat := 0
  regs : RegFile := []
  deriving DecidableEq, Repr

/-- SB_STATE (R480). -/
inductive SbState where
  | off | waiting | active | standby | deposed | takeover
  deriving DecidableEq, Repr

/-- The pair role of the device (R478 to R494). -/
structure Pair where
  state : SbState := .off
  noWitness : Bool := false
  pairUp : Bool := false
  lastCause : Nat := 0
  /-- DT of the last pair message received on BL15. -/
  lastRx : Nat := 0
  /-- The newest ACK: its ST stamp, and the DT of its receipt (R481). -/
  ackSt : Nat := 0
  ackDt : Nat := 0
  /-- TAKEOVER: DT at which the probes were sent (R483). -/
  probedDt : Nat := 0
  /-- TAKEOVER: PROBE_ACK seen, WITNESS_A seen (R483). -/
  probeAck : Bool := false
  witness : Bool := false
  deriving DecidableEq, Repr

/-- DL_STATE (R439). -/
inductive DlState where
  | off | waiting | paired | refused
  deriving DecidableEq, Repr

/-- Dual-Line pairing of the device (R439). -/
structure Dual where
  state : DlState := .off
  deriving DecidableEq, Repr

end Sys2Proof.Machine
end

