-- ==== Sys2Proof/Machine/State.lean ====
section
/-!
DEFINITION. Machine/State.lean: the whole state of one MQ7016, the reasons a command can stop, and the state after a
cold reset.
-/
namespace Sys2Proof.Machine
open Sys2Proof

/-- The ways a run of the block can stop with a fault. No command of the table faults: every event the spec gives an
effect is a next state. -/
inductive Fault where
  /-- Raised by nothing: kept so that the type has a value. Safe. -/
  | none
  deriving DecidableEq, Repr

/-- The ways a command can be refused. -/
inductive Refusal where
  /-- A row of the command table that has no meaning yet, by its mnemonic; raised by `exec` only. Safe. -/
  | notModelled (mnemonic : String)
  deriving DecidableEq, Repr

/-- The device: one MQ7016 with its commands waiting. -/
structure State where
  /-- Start-up, resets, clocks (spec/03). -/
  boot : Boot := {}
  pins : Pins := {}
  fuses : Fuses := {}
  /-- The xSPI flash; an unlisted byte is erased, 0xFF (spec/04 R68). -/
  flash : Memory := []
  /-- The configuration applied (spec/03 R46, spec/04 R75). -/
  cfg : ImageCfg := {}
  img : ImageBoot := {}
  time : TimeBase := {}
  commit : Commit := {}
  ports : Vector Port 4 := .replicate 4 {}
  parts : Vector Part 4 := .replicate 4 {}
  /-- Sync counters by absolute index, 0 to 16383 (spec/07 R171). -/
  syc : Tab Nat := []
  /-- HBM by absolute byte address; cleared memory reads zero (spec/03 R46). -/
  hbm : Memory := []
  /-- Poisoned granules by absolute granule index (spec/18 R460, R461). -/
  hbmPoison : Tab Bool := []
  /-- Errors of HBM granules that no read has met, by absolute granule index, and of SRAM words by partition (spec/18 R460, R463). -/
  hbmErr : Tab HbmErr := []
  sramErr : List (PartId × EccFind) := []
  links : Vector Link 16 := .replicate 16 {}
  bridle : Bridle := {}
  planes : Vector Plane 32 := .replicate 32 {}
  tether : Tether := {}
  net : Net := {}
  col : Col := {}
  clusters : Vector Cluster 8 := .replicate 8 {}
  power : Power := {}
  pair : Pair := {}
  dual : Dual := {}
  sec : Sec := {}
  bist : Bist := {}
  mgt : Mgt := {}
  mp : MpDebug := {}
  /-- The management error ring, kept in MGMT SRAM (spec/18 R458). -/
  mgtRing : ErrRing := {}
  errSelect : Nat := 0
  /-- Device registers that are plain: RC counters and RW fields by offset (spec/27). -/
  regs : RegFile := []
  /-- High halves latched by a low-half read, keyed by requester and register (spec/00 R11). -/
  latches : Tab (Option Nat) := []
  /-- Counter captures of the requesters HP0 to HP3 and management (spec/25 R617). -/
  snaps : Vector Snap 5 := .replicate 5 {}
  /-- The model's own counter of free values used. -/
  free : Nat := 0
  /-- The model's own record of everything sent, newest first. -/
  out : List Emit := []
  /-- Commands waiting, first in, first out. -/
  pending : List Instr := []
  deriving DecidableEq, Repr

/-- The device under cold reset, before it is released (spec/03 R14, R46, R50): every field at its reset value. -/
def State.reset : State := {}

end Sys2Proof.Machine
end

