-- ==== Sys2Proof/Machine/Ops.lean ====
section
/-!
DEFINITION. Machine/Ops.lean: the named operations that every meaning is built from: reads and updates of the parts of
the state, emissions, counters, policy events, host DMA (spec/06 R140 to R147), wake events, error records
(spec/18 R454 to R458) and trace records (spec/25 R612 to R616).
-/
namespace Sys2Proof.Machine
open Sys2Proof

/-- A command's next state. -/
abbrev Out := Host.Outcome State Fault Refusal

-- Reads and updates of the parts of the state

def getPart (s : State) (p : PartId) : Part := s.parts[p]
def updPart (s : State) (p : PartId) (f : Part → Part) : State := { s with parts := s.parts.set p (f s.parts[p]) }
def getPort (s : State) (k : PortId) : Port := s.ports[k]
def updPort (s : State) (k : PortId) (f : Port → Port) : State := { s with ports := s.ports.set k (f s.ports[k]) }
def getLink (s : State) (l : LinkId) : Link := s.links[l]
def updLink (s : State) (l : LinkId) (f : Link → Link) : State := { s with links := s.links.set l (f s.links[l]) }
def getPlane (s : State) (p : PlaneId) : Plane := s.planes[p]
def updPlane (s : State) (p : PlaneId) (f : Plane → Plane) : State := { s with planes := s.planes.set p (f s.planes[p]) }
def getCluster (s : State) (c : ClusterId) : Cluster := s.clusters[c]
def updCluster (s : State) (c : ClusterId) (f : Cluster → Cluster) : State :=
  { s with clusters := s.clusters.set c (f s.clusters[c]) }
def getStream (s : State) (p : PartId) (st : StreamId) : Stream := (getPart s p).streams[st]
def updStream (s : State) (p : PartId) (st : StreamId) (f : Stream → Stream) : State :=
  updPart s p (fun q => { q with streams := q.streams.set st (f q.streams[st]) })
def updJob (s : State) (p : PartId) (f : Job → Job) : State := updPart s p (fun q => { q with job := f q.job })
def partCfg (s : State) (p : PartId) : PartCfg := s.cfg.parts[p]
def portCfg (s : State) (k : PortId) : PortCfg := s.cfg.ports[k]

/-- Apply an operation for every element of a list, in order. -/
def eachOf {α : Type} (l : List α) (f : α → State → State) (s : State) : State := l.foldl (fun a x => f x a) s

def allParts : List PartId := List.finRange 4
def allPorts : List PortId := List.finRange 4
def allStreams : List StreamId := List.finRange 7
def allLinks : List LinkId := List.finRange 16
def allPlanes : List PlaneId := List.finRange 32
def allClusters : List ClusterId := List.finRange 8

/-- Own DEVICE_ID (R24): group in bits 13:4, member in bits 3:0. -/
def ownId (s : State) : DevId := 16 * s.cfg.group.group + s.cfg.group.member

/-- The DEFINED partitions (R80). -/
def definedParts (s : State) : List PartId := allParts.filter (fun p => (partCfg s p).defined)

/-- The host port mapped to a partition (R81). -/
def portOf (s : State) (p : PartId) : Option PortId := allPorts.find? (fun k => (portCfg s k).partition == some p)

/-- Record something sent. -/
def emit (e : Emit) (s : State) : State := { s with out := e :: s.out }

/-- The next free value, and the state that has used it. -/
def takeFree (s : State) : Nat × State := (Config.freeValue s.free, { s with free := s.free + 1 })

/-- System time ST = DT + SYS_OFFSET, modulo 2^64 (R101). -/
def sysTime (s : State) : Nat := (s.time.dt + s.time.sysOffset) % 2 ^ 64

def dtNow (s : State) : Nat := s.time.dt

/-- Nanoseconds since the reset, which DT's setting in TIME_SYNC does not move: the clock of training and port timeouts. -/
def upNs (s : State) : Nat := s.boot.sinceNs

/-- Is sequence number `a` before `b`, modulo 2^32 with a window of 2^31 (R625)? -/
def ssnBefore (a b : Nat) : Bool := (2 ^ 32 + b - a) % 2 ^ 32 < 2 ^ 31 && a != b

/-- The times less than `span` before `now`, and `now` (R342, R344). -/
def recent (now span : Nat) (l : List Nat) : List Nat := now :: l.filter (fun t => decide (now < t + span))

/-- Has a command of a partition waited or run for SYC_WAIT_MS since a DT (R109, R174)? -/
def waitedOut (s : State) (since : Nat) : Bool := decide (dtNow s ≥ since + s.cfg.tmo.sycWaitMs * 1000000)

/-- Do the clocks other than AON run (R50, R504)? -/
def clocked (s : State) : Bool := !(s.boot.state == .coldReset || s.boot.state == .tripped)

-- Counters

/-- Add to a 32-bit RC counter of a register file, saturating (R626). -/
def bump32 (off n : Nat) (r : RegFile) : RegFile := tabUpd 0 off (fun v => satAdd32 v n) r
/-- Add to a 64-bit free-running counter of a register file. -/
def bump64 (off n : Nat) (r : RegFile) : RegFile := tabUpd 0 off (fun v => wrapAdd 64 v n) r
def cntPart (off n : Nat) (p : PartId) (s : State) : State := updPart s p (fun q => { q with regs := bump32 off n q.regs })
def cntPart64 (off n : Nat) (p : PartId) (s : State) : State := updPart s p (fun q => { q with regs := bump64 off n q.regs })
def cntPort (off n : Nat) (k : PortId) (s : State) : State := updPort s k (fun q => { q with regs := bump32 off n q.regs })
def cntDev (off n : Nat) (s : State) : State := { s with regs := bump32 off n s.regs }
def cntBridle (off n : Nat) (s : State) : State := { s with bridle := { s.bridle with regs := bump32 off n s.bridle.regs } }
def cntTether (off n : Nat) (s : State) : State := { s with tether := { s.tether with regs := bump32 off n s.tether.regs } }
def cntLink (off n : Nat) (l : LinkId) (s : State) : State := updLink s l (fun q => { q with regs := bump32 off n q.regs })
def cntPlane (off n : Nat) (l : PlaneId) (s : State) : State := updPlane s l (fun q => { q with regs := bump32 off n q.regs })
def cntPower (off n : Nat) (s : State) : State := { s with power := { s.power with regs := bump32 off n s.power.regs } }
def regPart (s : State) (p : PartId) (off : Nat) : Nat := tabGet 0 (getPart s p).regs off
def setRegPart (off v : Nat) (p : PartId) (s : State) : State := updPart s p (fun q => { q with regs := tabSet 0 off v q.regs })

-- Policy events (R572)

/-- Write an event to the policy event queue, or drop it when 256 are unconsumed; each written interrupts MP0. -/
def mgtEvent (ev unit arg : Nat) (s : State) : State :=
  if s.mgt.tail - s.mgt.head ≥ Config.eventMax then cntDev 0x01050020 1 s
  else emit (.mpIrq 0) { s with mgt := { s.mgt with
    events := tabSet {} (s.mgt.tail % Config.eventMax) { event := ev, unit := unit, arg := arg, dt := dtNow s } s.mgt.events
    tail := s.mgt.tail + 1, mp0Irq := true } }

-- HBM (R136, R460, R461)

/-- First byte of a partition's HBM region. -/
def hbmBase (s : State) (p : PartId) : Nat := Config.hbmUnit * (partCfg s p).hbmBase
/-- Bytes of a partition's HBM region. -/
def hbmSize (s : State) (p : PartId) : Nat := Config.hbmUnit * (partCfg s p).hbmUnits

/-- The granules that bytes `[a, a + n)` touch. -/
def granules (a n : Nat) : List Nat :=
  if n = 0 then [] else (List.range ((a + n - 1) / Config.granule - a / Config.granule + 1)).map (· + a / Config.granule)

/-- Is any granule of the range marked poisoned? -/
def rangePoisoned (t : Tab Bool) (a n : Nat) : Bool := (granules a n).any (fun g => tabGet false t g)

/-- The marks after a write of `[a, a + n)`: whole granules lose theirs, granules written in part keep theirs (R461). -/
def clearWhole (a n : Nat) (t : Tab Bool) : Tab Bool :=
  (granules a n).foldl (fun t g =>
    if a ≤ g * Config.granule ∧ (g + 1) * Config.granule ≤ a + n then tabSet false g false t else t) t

/-- Mark every granule of the range. -/
def markRange (a n : Nat) (t : Tab Bool) : Tab Bool := (granules a n).foldl (fun t g => tabSet false g true t) t

/-- The errors after a write of `[a, a + n)`: whole granules lose theirs; the merge of a granule written in part meets its own, unless
the granule is marked already (R461). -/
def mergeErr (a n : Nat) (poison : Tab Bool) (t : Tab HbmErr) : Tab HbmErr :=
  (granules a n).foldl (fun t g =>
    if a ≤ g * Config.granule ∧ (g + 1) * Config.granule ≤ a + n then tabSet .none g .none t
    else if tabGet false poison g then t
    else match tabGet .none t g with
    | .ce => tabSet .none g .ceMet t
    | .ue => tabSet .none g .ueMet t
    | _ => t) t

/-- Write bytes to HBM at an absolute address. -/
def hbmWrite (a : Nat) (b : Bytes) (s : State) : State :=
  { s with hbm := memWriteN s.hbm a b, hbmPoison := clearWhole a b.length s.hbmPoison, hbmErr := mergeErr a b.length s.hbmPoison s.hbmErr }

/-- Does a read of a granule find it uncorrectable: marked, or with an error that no read has met (R460)? -/
def granBad (s : State) (g : Nat) : Bool :=
  tabGet false s.hbmPoison g || tabGet .none s.hbmErr g == .ue || tabGet .none s.hbmErr g == .ueMet
/-- Read bytes of HBM at an absolute address. -/
def hbmRead (s : State) (a n : Nat) : Bytes := memReadN s.hbm a n

-- Regulators (R415 to R417)

/-- The partition whose budgets and weight are in force: a commit's from the first window at or after its instant (R118). -/
def regCfg (s : State) (p : PartId) : PartCfg :=
  match s.commit.nextRegs with
  | some (t, ps) => if s.time.dt ≥ t then ps[p] else partCfg s p
  | none => partCfg s p

/-- The budget of regulator `i` (0 HBM, 1 Bridle, 2 Tether, 3 host DMA), in 4 KiB units; 0 is off. -/
def budget (s : State) (p : PartId) (i : Fin 4) : Nat :=
  match i with
  | 0 => (regCfg s p).regHbm
  | 1 => (regCfg s p).regBridle
  | 2 => (regCfg s p).regTether
  | 3 => (regCfg s p).regHostDma

/-- A partition's configuration with the budgets and weight of another. -/
def withRegs (a b : PartCfg) : PartCfg :=
  { a with regHbm := b.regHbm, regBridle := b.regBridle, regTether := b.regTether, regHostDma := b.regHostDma, weight := b.weight }

/-- The newest budgets and weights, in force or due, become the configuration's (R118). -/
def settleRegs (s : State) : State :=
  match s.commit.nextRegs with
  | some (_, ps) => { s with
    cfg := { s.cfg with parts := Vector.ofFn (fun p => withRegs s.cfg.parts[p] ps[p]) }
    commit := { s.commit with nextRegs := none } }
  | none => s

/-- May a transfer of the partition be granted by regulator `i`? DESIGN CHOICE: notes/assumptions/22.md. -/
def hasCredit (s : State) (p : PartId) (i : Fin 4) : Bool :=
  budget s p i == 0 || decide ((getPart s p).regul[i].credit > 0)

/-- Charge a transfer's bytes at its grant (R416). DESIGN CHOICE: notes/assumptions/22.md. -/
def charge (p : PartId) (i : Fin 4) (n : Nat) (s : State) : State :=
  if budget s p i = 0 then s
  else updPart s p (fun q => { q with regul := q.regul.set i { q.regul[i] with credit := q.regul[i].credit - n } })

/-- A transfer waits for credit: the window counts once in PRT_REG_STALL (R417). -/
def stall (p : PartId) (i : Fin 4) (s : State) : State :=
  if (getPart s p).regul[i].stalled then s
  else cntPart (0x00020040 + 4 * i.val) 1 p
    (updPart s p (fun q => { q with regul := q.regul.set i { q.regul[i] with stalled := true } }))

/-- What stream `i`'s command, a pass (7) or a drain (8) would move waits for HBM credit (R417): since now, where it does not wait
yet (R413). -/
def hbmHold (p : PartId) (i : Nat) (s : State) : State :=
  stall p 0 (updPart s p (fun q => if (tabGet none q.hbmWait i).isSome then q
    else { q with hbmWait := tabSet none i (some { since := dtNow s }) q.hbmWait }))

/-- Its wait for HBM credit ends. -/
def hbmGo (p : PartId) (i : Nat) (s : State) : State := updPart s p (fun q => { q with hbmWait := tabSet none i none q.hbmWait })

/-- Has the last 256-byte request of what was charged to the HBM regulator been granted (R412, R416)? Each was granted while the
credit was above zero. DEDUCED: notes/assumptions/22.md. -/
def hbmPaid (s : State) (p : PartId) : Bool := budget s p 0 == 0 || decide ((getPart s p).regul[(0 : Fin 4)].credit > -256)

/-- Host requests of a partition that wait for a grant: they are granted in order. DEDUCED: notes/assumptions/43.md. -/
def waitingRequests (s : State) (p : PartId) : Nat :=
  match portOf s p with | some k => (getPort s k).dmaQ.length | none => 0

/-- The `n` requests that wait now: those granted since, the oldest, leave; the new ones wait from now (R413). -/
def keptReqs (now n : Nat) (l : List WaitReq) : List WaitReq :=
  l.drop (l.length - n) ++ List.replicate (n - l.length) { since := now }

/-- Note which host requests of a partition wait, and since when. DEDUCED: notes/assumptions/43.md. -/
def noteWaits (p : PartId) (s : State) : State :=
  updPart s p (fun q => { q with waitReqs := keptReqs (dtNow s) (waitingRequests s p) q.waitReqs })

-- Host DMA (R140 to R143)

/-- Non-posted requests the port may have outstanding (R142). PRESUMED: notes/assumptions/21.md. -/
def tagLimit (q : Port) : Nat := if q.tag14 then 4096 else if q.tag10 then 768 else if q.extTag then 256 else 32

/-- May the port issue DMA requests and MSI-X messages (R140, R148, R149, R153, R155, R482)? DEDUCED: notes/assumptions/55.md. -/
def canIssue (s : State) (k : PortId) : Bool :=
  let q := getPort s k
  q.bme && !q.d3hot && !q.dmaStopped && !q.turnOff && (q.resetting == .none) && !q.downWait && s.pair.state != .deposed &&
    (!(portCfg s k).ideRequired || (List.finRange 5).any (fun i => q.ide[i].secure))

/-- Nanoseconds that a read issued now may take: the field's encoding, or DMA_CTO_MS (R144). -/
def readTimeout (s : State) (k : PortId) : Nat :=
  match (getPort s k).ctoSel with
  | 1 => 100000 | 2 => 10000000 | 5 => 55000000 | 6 => 210000000
  | 9 => 900000000 | 10 => 3500000000 | 13 => 13000000000 | 14 => 64000000000
  | _ => s.cfg.tmo.dmaCtoMs * 1000000

/-- The partition of a port. DEDUCED: notes/assumptions/73.md. -/
def partOf (s : State) (k : PortId) : Option PartId := (portCfg s k).partition

/-- Set the pending bit of a vector. -/
def setPend (k : PortId) (v : Nat) (s : State) : State :=
  updPort s k (fun q => { q with vecs := Vector.ofFn (fun i => if i.val = v then { q.vecs[i] with pend := true } else q.vecs[i]) })

/-- Hand one request to the link, or answer none when it must wait (R140 to R143, R415). PRESUMED: notes/assumptions/21.md. -/
def issueOne (k : PortId) (r : DmaReq) (s : State) : Option State :=
  let q := getPort s k
  let credit : Bool := match partOf s k with | some p => hasCredit s p 3 | none => true
  let s := updPort s k (fun q => { q with inL1 := false })
  let pay (n : Nat) (s : State) : State := match partOf s k with | some p => charge p 3 n s | none => s
  match r with
  | .read addr len tgt =>
    if q.reads.length ≥ tagLimit q || !credit then none
    else some (pay len (emit (.hostRead k q.nextTag addr len)
      (updPort s k (fun q => { q with
        nextTag := q.nextTag + 1
        reads := q.reads ++ [{ tag := q.nextTag, addr := addr, len := len, got := 0, tgt := tgt, issued := s.boot.sinceNs,
                               timeout := readTimeout s k }] }))))
  | .write kind addr data _ _ _ =>
    if !credit then none
    else
      let isData := kind == .output || kind == .copyOut
      some (pay data.length (emit (.hostWrite k addr data (q.relaxed && isData) (q.ido && isData)) s))
  | .msix v =>
    -- no message while MSI-X is disabled; a vector masked since then keeps its event pending (R147)
    let vec := q.vecs.toList.getD v {}
    some (if !q.msixEn then s else if q.msixMaskAll || vec.mask then setPend k v s else emit (.msix k v vec.addr vec.data) s)

/-- Issue the port's waiting requests in order until one must wait. DEDUCED: notes/assumptions/55.md. -/
def pumpList (k : PortId) : List DmaReq → State → State
  | [], s => updPort s k (fun q => { q with dmaQ := [] })
  | r :: rs, s =>
    match issueOne k r s with
    | some s' => pumpList k rs s'
    | none =>
      let s := updPort s k (fun q => { q with dmaQ := r :: rs })
      match r, partOf s k with
      | .msix _, _ => s
      | _, some p => if hasCredit s p 3 then s else stall p 3 s
      | _, none => s

/-- Split `[addr, addr + len)` at the multiples of `lim`, a divisor of 4 KiB (R141): every piece but the first starts on such
a multiple. `fuel` bounds the number of pieces. -/
def splitRange (lim : Nat) : Nat → Nat → Nat → List (Nat × Nat)
  | 0, _, _ => []
  | fuel + 1, addr, len =>
    if len = 0 then []
    else
      let n := min len (lim - addr % lim)
      (addr, n) :: splitRange lim fuel (addr + n) (len - n)

/-- Pieces of a read of `len` bytes (R141). -/
def readPieces (q : Port) (addr len : Nat) : List (Nat × Nat) := splitRange (max q.mrrs 1) (len + 1) addr len
/-- Pieces of a write of `len` bytes (R141): at most the lower of Max_Payload_Size and 512. -/
def writePieces (q : Port) (addr len : Nat) : List (Nat × Nat) := splitRange (max (min q.mps 512) 1) (len + 1) addr len

/-- The target of the bytes from `n` on of a read. -/
def targetFrom (n : Nat) : DmaTarget → DmaTarget
  | .slotRow slot off => .slotRow slot (off + n)
  | .copyIn off => .copyIn (off + n)
  | .manifest off => .manifest (off + n)
  | .section_ i off => .section_ i (off + n)
  | t => t

/-- A held request in the pieces that the sizes now in force allow (R141). -/
def cutReq (q : Port) : DmaReq → List DmaReq
  | .read addr len tgt =>
    if len = 0 then [.read addr len tgt]
    else (readPieces q addr len).map (fun (a, n) => .read a n (targetFrom (a - addr) tgt))
  | .write kind addr data u n first =>
    (writePieces q addr data.length).map (fun (a, m) => .write kind a ((data.drop (a - addr)).take m) u n (first && a == addr))
  | .msix v => [.msix v]

/-- Issue what the port may issue. -/
def pump (k : PortId) (s : State) : State :=
  let s := if canIssue s k then pumpList k ((getPort s k).dmaQ.flatMap (cutReq (getPort s k))) s else s
  match partOf s k with
  | some p => noteWaits p s
  | none => s

/-- Queue requests on the port of a partition and issue what may be issued. -/
def dmaPush (k : PortId) (rs : List DmaReq) (s : State) : State :=
  pump k (updPort s k (fun q => { q with dmaQ := q.dmaQ ++ rs }))

/-- The write requests of one write unit. -/
def writeReqs (q : Port) (kind : HostWriteKind) (addr : Nat) (data : Bytes) : List DmaReq :=
  (writePieces q addr data.length).map (fun (a, n) =>
    .write kind a ((data.drop (a - addr)).take n) addr data.length (a == addr))

-- Wake events (R151)

/-- A wake event of a port in D3hot: bit `cause` of WAKE_CAUSE, PME_Status, and a PM_PME when enabled. DEDUCED: notes/assumptions/49.md. -/
def wakeEvent (k : PortId) (cause : Nat) (s : State) : State :=
  let q := getPort s k
  if !q.d3hot then s
  else updPort s k (fun q => { q with
    wakeCause := maskSet q.wakeCause cause
    pmeStatus := true
    pmePending := q.pmePending || q.pmeEn })

-- MSI-X (R147)

/-- Signal vector `v` of a port: a message, or its pending bit while masked; nothing while MSI-X is disabled. -/
def msix (k : PortId) (v : Nat) (s : State) : State :=
  let q := getPort s k
  if !q.msixEn || v ≥ 16 then s
  else if q.msixMaskAll || (q.vecs.toList.getD v {}).mask then
    setPend k v s
  else wakeEvent k 2 (dmaPush k [.msix v] s)

/-- Signal vector `v` of the port of a partition. -/
def msixPart (p : PartId) (v : Nat) (s : State) : State :=
  match portOf s p with
  | some k => msix k v s
  | none => s

-- Trace records (R609 to R616)

/-- Records the ring of a partition holds. DEDUCED: notes/assumptions/79.md. -/
def traceRing (t : Trace) : Nat := t.size / 32

/-- Is tracing generating records? -/
def traceOn (t : Trace) : Bool := bitOf t.ctl 0 && !t.stopped

/-- Note a trigger in TRIGGER mode (R616). DEDUCED: notes/assumptions/79.md. -/
def traceTrigger (t : Trace) (seq : Nat) : Trace :=
  if bitsOf t.ctl 2 1 = 2 ∧ !t.triggered then { t with triggered := true, trigSeq := seq, postLeft := t.post } else t

/-- Generation ends once the records after the trigger are written (R616). -/
def traceStop (t : Trace) : Trace := if bitsOf t.ctl 2 1 = 2 ∧ t.triggered ∧ t.postLeft = 0 then { t with stopped := true } else t

/-- Generate one record: buffered, or dropped when the buffer holds 512 or a full STOP ring has no space (R610, R616).
DEDUCED: notes/assumptions/79.md. -/
def traceGen (p : PartId) (r : TraceRec) (s : State) : State :=
  let t := (getPart s p).trace
  if !traceOn t then s
  else
    let stopFull := decide (bitsOf t.ctl 2 1 = 1 ∧ (2 ^ 32 + t.wr + t.buf.length - t.rd) % 2 ^ 32 ≥ traceRing t)
    let lost : List TraceRec := if t.droppedRun > 0 ∧ t.buf.length < 512 ∧ !stopFull then
      [{ kind := .lost, stream := 7, dt := dtNow s, detail := t.droppedRun, seq := t.seq }] else []
    let r := { r with seq := wrapAdd 32 t.seq lost.length, dt := dtNow s }
    let t := { t with
      seq := wrapAdd 32 t.seq (lost.length + 1)
      buf := t.buf ++ lost
      droppedRun := if lost.isEmpty then t.droppedRun else 0 }
    if stopFull || decide (t.buf.length ≥ 512) then
      cntPart 0x00160020 1 p (updPart s p (fun q => { q with trace :=
        { t with droppedRun := if stopFull then t.droppedRun else t.droppedRun + 1 } }))
    else
      let t := { t with
        buf := t.buf ++ [r]
        postLeft := if t.triggered then t.postLeft - 1 else t.postLeft }
      let t := if bitOf t.ctl 7 ∧ !r.withdrawn ∧ r.tag = t.trigTag then traceTrigger t r.seq else t
      updPart s p (fun q => { q with trace := traceStop t })

/-- The record of a command of a stream, when R613 generates it. -/
def traceCmd (p : PartId) (st : StreamId) (desc : Bytes) (kind : TraceKind) (detail : Nat) (s : State) : State :=
  let t := (getPart s p).trace
  if traceOn t && bitOf t.ctl (8 + st.val) && (bitOf (leAt desc 2 1) 1 || bitOf t.ctl 5) then
    traceGen p {
      opcode := leAt desc 0 2
      kind := kind
      stream := st.val
      tag := leAt desc 4 4
      jobId := if (getPart s p).job.open_ then (getPart s p).job.id else 0
      step := if leAt desc 0 2 = 0x8001 then leAt desc 38 2 else 0
      detail := detail } s
  else s

-- Error records (R454 to R458)

/-- The class code of a record (R450). -/
def classCode : ErrClass → Nat
  | .corrected => 0 | .deferred => 1 | .job => 2 | .partition => 3 | .device => 4

/-- The KIND code of a record (R454). -/
def kindCode : ErrKind → Nat
  | .fault => 0 | .resetReport => 1 | .tornRange => 2

/-- The 64 bytes of a record whose append index is `n` (R454). -/
def errBytes (r : ErrRec) (n : Nat) : Bytes :=
  toLe 2 r.code ++ toLe 1 (classCode r.cls + 16 * kindCode r.kind) ++ toLe 1 (r.source + 16 * r.part) ++
  toLe 4 r.tag ++ toLe 8 r.dt ++ toLe 4 r.ringSeq ++ toLe 2 r.jobId ++ toLe 2 r.sub ++ toLe 8 r.addr ++
  toLe 8 r.detail0 ++ toLe 8 r.detail1 ++ toLe 4 r.count ++ toLe 2 r.epoch ++ List.replicate 9 0 ++
  toLe 1 (if (n / Config.ringRecords) % 2 = 0 then 1 else 0)

/-- The codes that R457 merges, with the length of their window in ns. -/
def mergeWindow (code : Nat) : Option Nat :=
  if code = 0x0301 then some 1000000
  else if code = 0x0304 ∨ code = 0x0406 ∨ code = 0x0A01 then some 10000
  else none

/-- Append a record to a ring, or drop it when the ring is full (R455). The flag says whether it was appended. -/
def ringAppend (g : ErrRing) (r : ErrRec) : ErrRing × Bool :=
  let r := { r with ringSeq := g.seq }
  let g := { g with lastCode := r.code, lastClass := classCode r.cls }
  if g.tail - g.head ≥ Config.ringRecords then ({ g with seq := wrapAdd 32 g.seq 1 }, false)
  else ({ g with
    recs := tabSet {} (g.tail % Config.ringRecords) r g.recs
    tail := g.tail + 1
    seq := wrapAdd 32 g.seq 1 }, true)

/-- Append a record to the management ring; policy firmware gets event 0x0006 (R458, R572). -/
def mgtRecord (r : ErrRec) (s : State) : State :=
  let (g, ok) := ringAppend s.mgtRing { r with dt := dtNow s }
  let s := cntDev (0x00060028 + 4 * classCode r.cls) 1 { s with mgtRing := g }
  if ok then mgtEvent 0x0006 0xFF r.code s else cntDev 0x0006000C 1 s

/-- Does a mirror write of the partition whose record meets a test wait to be issued (R449, R456)? -/
def mirrorOwed (s : State) (p : PartId) (t : Bytes → Bool) : Bool :=
  match portOf s p with
  | none => false
  | some k => (getPort s k).dmaQ.any (fun r => match r with | .write .mirror _ b _ _ _ => t b | _ => false)

/-- Append a record to the ring of a partition, with its mirror write and MSI-X vector 0 (R455, R456). -/
def partRecord (p : PartId) (r : ErrRec) (s : State) : State :=
  let q := getPart s p
  let r := { r with part := p.val, dt := dtNow s, epoch := q.epoch, jobId := if q.job.open_ then q.job.id else 0 }
  let n := q.ring.tail
  let (g, ok) := ringAppend q.ring r
  let s := cntPart (0x00060028 + 4 * classCode r.cls) 1 p (updPart s p (fun q => { q with ring := g }))
  if !ok then cntPart 0x0006000C 1 p s
  else
    let s := if g.hostEnable then
        match portOf s p with
        | some k => wakeEvent k 1 (dmaPush k (writeReqs (getPort s k) .mirror (g.hostBase + 64 * (n % Config.ringRecords))
            (errBytes { r with ringSeq := q.ring.seq } n)) s)
        | none => s
      else s
    let s := msixPart p 0 s
    -- a JOB, PARTITION or DEVICE record triggers TRIGGER mode (R616)
    if classCode r.cls ≥ 2 ∧ bitOf (getPart s p).trace.ctl 6 then
      updPart s p (fun q => { q with trace := traceStop (traceTrigger q.trace q.trace.seq) })
    else s

/-- Record a fault in a partition's ring, merged under R457 where the code is merged. -/
def record (p : PartId) (r : ErrRec) (s : State) : State :=
  match mergeWindow r.code with
  | none => partRecord p r s
  | some w =>
    let q := getPart s p
    let win := dtNow s / w + 1
    let cnt := tabGet 0 q.ring.mergeCount r.code + r.count
    if tabGet 0 q.ring.mergeWin r.code = win then
      updPart s p (fun q => { q with ring := { q.ring with mergeCount := tabSet 0 r.code cnt q.ring.mergeCount } })
    else
      let s := updPart s p (fun q => { q with ring := { q.ring with
        mergeWin := tabSet 0 r.code win q.ring.mergeWin, mergeCount := tabSet 0 r.code 0 q.ring.mergeCount } })
      partRecord p { r with count := cnt } s

/-- Record the same event in the ring of every DEFINED partition (R356, R363, R439, R502). -/
def recordAll (r : ErrRec) (s : State) : State := eachOf (definedParts s) (fun p s => record p r s) s

/-- Record an event of a link or plane in every partition ring and, as a copy, in the management ring (R458). -/
def recordLink (r : ErrRec) (s : State) : State := mgtRecord r (recordAll r s)

end Sys2Proof.Machine
end

