-- ==== Sys2Proof/Machine/Flags.lean ====
section
/-!
DEFINITION. Machine/Flags.lean: the state codes and the status words that registers and policy events show.
-/
namespace Sys2Proof.Machine
open Sys2Proof

/-- DEV_BOOT_STATE.STATE (R66). -/
def bootCode : BootState → Nat
  | .coldReset => 0 | .rom => 1 | .verify => 2 | .selftest => 3 | .fwLoad => 4 | .bistRead => 5 | .clockAlign => 6
  | .linkTrain => 7 | .timeSync => 8 | .ready => 9 | .safe => 0xA | .error => 0xB | .warmReset => 0xC | .tripped => 0xD

/-- TMB_STATUS.SOURCE (R124). -/
def sourceCode : TimeSource → Nat
  | .freeRun => 0 | .bridle => 1 | .ptp => 2 | .ppsIn => 3

/-- CFG_COMMIT_STATE.STATE (R125). -/
def commitCode : CommitState → Nat
  | .idle => 0 | .staging => 1 | .checking => 2 | .sealed => 3 | .voting => 4 | .armed => 5 | .fenced => 6

/-- BRL_STATUS.STATE (R337). -/
def brlCode : BrlState → Nat
  | .off => 0 | .detect => 1 | .equalize => 2 | .identify => 3 | .keying => 4 | .active => 5 | .sleep => 6 | .dormant => 7
  | .down => 8 | .miswired => 9

/-- TTH_STATUS.STATE (R363). -/
def tthCode : TthState → Nat
  | .off => 0 | .align => 1 | .keying => 2 | .up => 3 | .dormant => 4 | .down => 5

/-- PWR_CLUSTER codes (R508). -/
def clusterCode : ClusterState → Nat
  | .on => 0 | .closing => 1 | .draining => 2 | .isolated => 3 | .off => 4

/-- DEV_SB_STATUS.STATE (R480). -/
def sbCode : SbState → Nat
  | .off => 0 | .waiting => 1 | .active => 2 | .standby => 3 | .deposed => 5 | .takeover => 6

/-- DET_STATUS.DL_STATE (R439). -/
def dlCode : DlState → Nat
  | .off => 0 | .waiting => 1 | .paired => 2 | .refused => 3

/-- States of a communicator (R387). -/
def commCode : CommState → Nat
  | .creating => 1 | .active => 2 | .aborted => 3

/-- DEV_BOOT_STATE (R66). -/
def bootStateWord (s : State) : Nat :=
  let b := s.boot
  packBits [(b.safeCause, 24), (b.retry, 16), (b2n b.bankB, 11), (b2n b.clustersDisabled, 10), (b2n b.linksIncomplete, 9),
            (b2n b.timeUnsync, 8), (bootCode b.state, 0)]

/-- DEV_ALIGN (R66). -/
def alignWord (s : State) : Nat := packBits [(b2n s.boot.aligned, 31), (s.boot.alignCause, 28), (s.boot.waitUs % 2 ^ 20, 0)]

/-- DEV_CLK (R66). -/
def clkWord (s : State) : Nat :=
  packBits [(b2n s.boot.timeLock, 18), (b2n s.boot.coreFabLock, 17), (b2n s.boot.mainLock, 16), (s.boot.corePerBeat, 8), (s.boot.pstate, 0)]

/-- HP_LINK_STATUS (R158). DEDUCED: notes/assumptions/73.md. -/
def hpLinkStatus (q : Port) : Nat :=
  packBits [(q.gen, 0), (q.width, 4), (b2n q.flit, 9), (b2n (q.ide.toList.any (·.secure)), 10), (if q.d3hot then 3 else 0, 11),
            (b2n q.inL1, 13), (b2n q.reversed, 14)]

/-- HP_FLR_REPORT (R158). -/
def flrReport (q : Port) : Nat :=
  packBits [(q.tornRanges, 0), (b2n q.allTorn, 7), (match q.lastReset with | .none => 0 | .flr => 1 | .perst => 2 | .linkDown => 3, 8)]

/-- Pulses of PPS_IN are valid: three in a row at 1 s intervals, and the next one not overdue (R101). -/
def ppsValid (s : State) : Bool := decide (s.time.ppsRun ≥ 3) && decide (s.time.dt ≤ s.time.ppsInDt + 1000100000)

/-- A grandmaster has been selected, measured yet or not, and its Announce messages still come (R101, R380). -/
def ptpChosen (s : State) : Bool :=
  (s.time.ptp.state == 8 || s.time.ptp.state == 9) &&
    s.time.ptp.foreign.any (fun f => f.port == s.time.ptp.parent && decide (s.time.dt < f.last + 3000000000))

/-- The PTP port follows a grandmaster whose Announce messages still come (R101, R380: announceReceiptTimeout 3). -/
def ptpLocked (s : State) : Bool :=
  s.time.ptp.state == 9 && s.time.ptp.foreign.any (fun f => f.port == s.time.ptp.parent && decide (s.time.dt < f.last + 3000000000))

/-- TMB_STATUS (R124). -/
def tmbStatus (s : State) : Nat :=
  let t := s.time
  packBits [(t.masterMember, 12), (b2n t.isMaster, 11), (b2n (ptpLocked s), 10), (b2n (ppsValid s), 9), (b2n t.timeRefOk, 8),
            (sourceCode t.source, 4), (b2n t.sysSync, 1), (b2n t.groupSync, 0)]

/-- CFG_COMMIT_STATE (R125). -/
def commitWord (s : State) : Nat :=
  packBits [(commitCode s.commit.state, 0), (s.commit.lastOutcome, 4), (s.commit.checkSub, 8), (s.commit.voteReason, 16)]

/-- A partition's current priority (R411): 0 URGENT, 1 HIGH, 2 NORMAL, 3 BULK; NORMAL when no job is open. -/
def currentPri (s : State) (p : PartId) : Nat :=
  let j := (getPart s p).job
  if j.open_ then j.priority else 2

end Sys2Proof.Machine
end

