-- ==== Sys2Proof/Machine/Packets.lean ====
section
/-!
DEFINITION. Machine/Packets.lean: the layouts that travel on links: clause tags (spec/12 R310), data-plane packets
(R312), collective pieces (spec/15 R396), flits (spec/13 R340, R341), transport headers (spec/14 R368), and the CRCs
they carry.
-/
namespace Sys2Proof.Machine
open Sys2Proof

-- Clause tags (R310)

/-- The XOR of tag bytes 1 to 7, XOR 0xA5. -/
def tagChk (t : Nat) : Nat :=
  ((((((((t / 2 ^ 8) % 256) ^^^ ((t / 2 ^ 16) % 256)) ^^^ ((t / 2 ^ 24) % 256)) ^^^ ((t / 2 ^ 32) % 256)) ^^^
    ((t / 2 ^ 40) % 256)) ^^^ ((t / 2 ^ 48) % 256)) ^^^ ((t / 2 ^ 56) % 256)) ^^^ 0xA5

/-- A tag with its check byte. -/
def mkTag (dev slot rank epoch part : Nat) (spec : Bool) (layer : Nat) : Nat :=
  let t := packBits [(dev % 2 ^ 14, 50), (slot % 2 ^ 16, 34), (rank % 16, 30), (epoch % 64, 24), (part % 8, 21),
                     (b2n spec, 20), (layer % 2 ^ 12, 8)]
  t + tagChk t

def tagDev (t : Nat) : Nat := bitsOf t 63 50
def tagSlot (t : Nat) : Nat := bitsOf t 49 34
def tagRank (t : Nat) : Nat := bitsOf t 33 30
def tagEpoch (t : Nat) : Nat := bitsOf t 29 24
def tagPart (t : Nat) : Nat := bitsOf t 23 21
def tagSpec (t : Nat) : Bool := bitOf t 20
def tagLayer (t : Nat) : Nat := bitsOf t 19 8
/-- Does the check byte hold (R311)? -/
def tagOk (t : Nat) : Bool := t % 256 == tagChk t

-- Data-plane packets (R312)

/-- The fields of a data-plane packet. -/
structure Packet where
  tag : Nat := 0
  /-- 1 ROW, 2 RESULT, 3 VERDICT, 4 CLOSE, 5 DROP, 6 REFUSE. -/
  kind : Nat := 0
  poison : Bool := false
  reissue : Bool := false
  cfgEpoch : Nat := 0
  dst : DevId := 0
  cluster : Nat := 0
  reason : Nat := 0
  expert : Nat := 0
  partEpoch : Nat := 0
  slotGen : Nat := 0
  flowSeq : Nat := 0
  step : Nat := 0
  comm : Nat := 0xFF
  weight : Nat := 0
  key : Nat := 0
  count : Nat := 0
  payload : Bytes := []
  deriving DecidableEq, Repr

/-- Bytes 0 to 59 of the header. -/
def packetHead (k : Packet) : Bytes :=
  toLe 8 k.tag ++ toLe 1 (k.kind % 16 + 16 * b2n k.poison + 32 * b2n k.reissue) ++ toLe 1 (k.cfgEpoch % 4) ++
  toLe 2 k.dst ++ toLe 1 k.cluster ++ toLe 1 k.reason ++ toLe 2 k.expert ++ toLe 2 k.partEpoch ++ toLe 2 k.slotGen ++
  toLe 4 k.payload.length ++ toLe 4 k.flowSeq ++ toLe 2 k.step ++ toLe 1 k.comm ++ toLe 1 0 ++ toLe 4 k.weight ++
  toLe 4 k.key ++ toLe 4 k.count ++ List.replicate 16 0

/-- The packet as it travels: payload, header, CRC (R312, R314). -/
def packetBytes (k : Packet) : Bytes :=
  let b := k.payload ++ packetHead k
  b ++ toLe 4 (crc32c b)

/-- The fields of a packet's bytes, checked: length, CRC-32C and CHK; none on a failure of R311 or R314. -/
def parsePacket (b : Bytes) : Option Packet :=
  if b.length < 64 then none
  else
    let n := b.length - 64
    let h := b.drop n
    let tag := leAt h 0 8
    if leAt h 60 4 ≠ crc32c (b.take (b.length - 4)) ∨ !tagOk tag ∨ leAt h 20 4 ≠ n then none
    else some {
      tag := tag, kind := leAt h 8 1 % 16, poison := bitOf (leAt h 8 1) 4, reissue := bitOf (leAt h 8 1) 5,
      cfgEpoch := leAt h 9 1 % 4, dst := leAt h 10 2 % 2 ^ 14, cluster := leAt h 12 1 % 8, reason := leAt h 13 1,
      expert := leAt h 14 2, partEpoch := leAt h 16 2, slotGen := leAt h 18 2, flowSeq := leAt h 24 4,
      step := leAt h 28 2, comm := leAt h 30 1, weight := leAt h 32 4, key := leAt h 36 4, count := leAt h 40 4,
      payload := b.take n }

/-- The fields of a header whose checks are not consulted, for the REFUSE that names a failed packet (R314). -/
def rawPacket (b : Bytes) : Packet :=
  let h := b.drop (b.length - 64)
  { tag := leAt h 0 8, kind := leAt h 8 1 % 16, flowSeq := leAt h 24 4, partEpoch := leAt h 16 2, step := leAt h 28 2,
    comm := leAt h 30 1, expert := leAt h 14 2, slotGen := leAt h 18 2 }

-- Collective pieces (R396)

/-- The fields of a collective piece. -/
structure Piece where
  commId : Nat := 0
  /-- 1 DATA, 2 ACK, 3 NACK, 4 JOIN, 5 READY, 6 ABORT, 7 PROBE, 8 PROBE_ACK. -/
  kind : Nat := 0
  op : Nat := 8
  cfgEpoch : Nat := 0
  src : DevId := 0
  dst : DevId := 0
  partEpoch : Nat := 0
  opSeq : Nat := 0
  chunk : Nat := 0
  off : Nat := 0
  chunkLen : Nat := 0
  chunkCrc : Nat := 0
  flowSeq : Nat := 0
  phase : Nat := 0
  round : Nat := 0
  last : Bool := false
  retx : Bool := false
  tag : Nat := 0
  detail : Nat := 0
  payload : Bytes := []
  deriving DecidableEq, Repr

/-- A piece as it travels. -/
def pieceBytes (k : Piece) : Bytes :=
  let h := toLe 8 k.commId ++ toLe 1 (k.kind % 16 + 16 * (k.op % 16)) ++ toLe 1 (k.cfgEpoch % 4) ++ toLe 2 k.src ++
    toLe 2 k.dst ++ toLe 2 k.partEpoch ++ toLe 4 k.opSeq ++ toLe 4 k.chunk ++ toLe 4 k.off ++
    toLe 4 k.payload.length ++ toLe 4 k.chunkLen ++ toLe 4 k.chunkCrc ++ toLe 4 k.flowSeq ++
    toLe 1 (k.phase % 16 + 16 * (k.round % 16)) ++ toLe 1 (b2n k.last + 2 * b2n k.retx) ++ toLe 2 0 ++ toLe 4 k.tag ++
    toLe 4 k.detail ++ toLe 4 0
  let b := k.payload ++ h
  b ++ toLe 4 (crc32c b)

/-- The fields of a piece's header without its check. -/
def rawPiece (b : Bytes) : Piece :=
  let h := b.drop (b.length - 64)
  { commId := leAt h 0 8, kind := leAt h 8 1 % 16, op := leAt h 8 1 / 16, src := leAt h 10 2 % 2 ^ 14, opSeq := leAt h 16 4,
    chunk := leAt h 20 4, flowSeq := leAt h 40 4, phase := leAt h 44 1 % 16, round := leAt h 44 1 / 16, last := bitOf (leAt h 45 1) 0 }

/-- The fields of a piece's bytes, checked by PIECE_CRC. DEDUCED: notes/assumptions/44.md. -/
def parsePiece (b : Bytes) : Option Piece :=
  if b.length < 64 then none
  else
    let n := b.length - 64
    let h := b.drop n
    if leAt h 60 4 ≠ crc32c (b.take (b.length - 4)) ∨ leAt h 28 4 ≠ n then none
    else some {
      commId := leAt h 0 8, kind := leAt h 8 1 % 16, op := leAt h 8 1 / 16, cfgEpoch := leAt h 9 1 % 4,
      src := leAt h 10 2 % 2 ^ 14, dst := leAt h 12 2 % 2 ^ 14, partEpoch := leAt h 14 2, opSeq := leAt h 16 4,
      chunk := leAt h 20 4, off := leAt h 24 4, chunkLen := leAt h 32 4, chunkCrc := leAt h 36 4, flowSeq := leAt h 40 4,
      phase := leAt h 44 1 % 16, round := leAt h 44 1 / 16, last := bitOf (leAt h 45 1) 0, retx := bitOf (leAt h 45 1) 1,
      tag := leAt h 48 4, detail := leAt h 52 4, payload := b.take n }

/-- Rewrite the FLOW_SEQ of a packet or piece and its CRC, as at transmission (R349). -/
def withFlowSeq (isPiece : Bool) (n : Nat) (b : Bytes) : Bytes :=
  let h := b.length - 64
  let o := h + (if isPiece then 40 else 24)
  let c := b.take o ++ toLe 4 n ++ (b.drop (o + 4)).take (b.length - 4 - (o + 4))
  c ++ toLe 4 (crc32c c)

-- CRCs of other layouts

/-- One bit of the reflected CRC-32 of R341 (polynomial 0x04C11DB7, reflected 0xEDB88320). -/
def crc32Bit (c : BitVec 32) : BitVec 32 := if c.getLsbD 0 then (c >>> 1) ^^^ 0xEDB88320#32 else c >>> 1
def crc32Byte (c : BitVec 32) (b : Byte) : BitVec 32 :=
  crc32Bit (crc32Bit (crc32Bit (crc32Bit (crc32Bit (crc32Bit (crc32Bit (crc32Bit (c ^^^ b.setWidth 32))))))))
/-- The link CRC of a flit (R341). -/
def crc32 (b : Bytes) : Nat := ((b.foldl crc32Byte 0xFFFFFFFF#32) ^^^ 0xFFFFFFFF#32).toNat

/-- One bit of the reflected CRC-64/XZ (spec/19 R486; polynomial 0x42F0E1EBA9EA3693). -/
def crc64Bit (c : BitVec 64) : BitVec 64 := if c.getLsbD 0 then (c >>> 1) ^^^ 0xC96C5795D7870F42#64 else c >>> 1
def crc64Byte (c : BitVec 64) (b : Byte) : BitVec 64 :=
  crc64Bit (crc64Bit (crc64Bit (crc64Bit (crc64Bit (crc64Bit (crc64Bit (crc64Bit (c ^^^ b.setWidth 64))))))))
/-- The CRC-64 of a snapshot (R486). -/
def crc64 (b : Bytes) : Nat := ((b.foldl crc64Byte 0xFFFFFFFFFFFFFFFF#64) ^^^ 0xFFFFFFFFFFFFFFFF#64).toNat

-- Flits (R340)

/-- The fields of a flit's header. -/
structure FlitHead where
  type : Nat := 0
  fseq : Nat := 0
  ack : Nat := 0
  nak : Bool := false
  vc : Nat := 0
  end_ : Nat := 0
  next : Bool := false
  creditVc : Nat := 0
  creditPart : Nat := 0
  creditCount : Nat := 0
  deriving DecidableEq, Repr

/-- A flit of 256 bytes: header, payload padded to 242 bytes, CRC. -/
def flitBytes (h : FlitHead) (payload : Bytes) : Bytes :=
  let w := packBits [(h.type, 0), (h.fseq % 4096, 4), (h.ack % 4096, 16), (b2n h.nak, 28), (h.vc % 8, 29), (h.end_, 32),
                     (b2n h.next, 40), (h.creditVc % 8, 41), (h.creditPart % 4, 44), (h.creditCount % 2048, 46)]
  let b := toLe 10 w ++ bytesAt payload 0 242
  b ++ toLe 4 (crc32 b)

/-- The header and payload of a received flit; none when R341 discards it. -/
def parseFlit (b : Bytes) : Option (FlitHead × Bytes) :=
  let w := leAt b 0 10
  let h : FlitHead := {
    type := bitsOf w 3 0, fseq := bitsOf w 15 4, ack := bitsOf w 27 16, nak := bitOf w 28, vc := bitsOf w 31 29,
    end_ := bitsOf w 39 32, next := bitOf w 40, creditVc := bitsOf w 43 41, creditPart := bitsOf w 45 44,
    creditCount := bitsOf w 56 46 }
  if b.length ≠ 256 ∨ leAt b 252 4 ≠ crc32 (b.take 252) then none
  else if h.type > 4 ∨ (h.type = 1 ∧ h.vc = 7) ∨ h.end_ > 242 ∨ bitsOf w 79 57 ≠ 0 then none
  else some (h, bytesAt b 10 242)

-- UDP checksums (R365, R366)

/-- The sum of the big-endian 16-bit words of a string of bytes. -/
def wordSum (b : Bytes) : Nat :=
  (List.range ((b.length + 1) / 2)).foldl (fun a i => a + 256 * leAt b (2 * i) 1 + leAt b (2 * i + 1) 1) 0

/-- The one's complement of a one's complement sum of 16-bit words. -/
def onesComplement (sum : Nat) : Nat := 65535 - (if sum = 0 then 0 else if sum % 65535 = 0 then 65535 else sum % 65535)

/-- The UDP checksum of a datagram: the one's complement of the one's complement sum of the pseudo-header, the UDP header and
the data; 0 is sent as 0xFFFF. -/
def udpChecksum (h : IpHead) (data : Bytes) : Nat :=
  let addr (a : Nat) : Nat := (List.range 8).foldl (fun n i => n + a / 2 ^ (16 * i) % 2 ^ 16) 0
  let n := 8 + data.length
  let sum := addr h.src + addr h.dst + 17 + n + h.sport + h.dport + n + wordSum data
  let v := onesComplement sum
  if v = 0 then 65535 else v

-- Transport header (R368): big-endian on the wire (R364)

/-- The `n` bytes of a number, most significant first. -/
def toBe (n v : Nat) : Bytes := (toLe n v).reverse
/-- A big-endian field. -/
def beAt (b : Bytes) (off n : Nat) : Nat := leNat (bytesAt b off n).reverse

/-- Own MAC address on a plane: 48 bits (R362). -/
def planeMac (pl : PlaneId) : Nat := (Config.fusedMac + pl.val) % 2 ^ 48

/-- The IP header in front of `n` bytes (R364, R365). PRESUMED: notes/assumptions/28.md. -/
def ipBytes (h : IpHead) (n : Nat) : Bytes :=
  if h.ver = 4 then
    let a := toBe 1 0x45 ++ toBe 1 (4 * (h.dscp % 64) + h.ecn % 4) ++ toBe 2 (20 + n) ++ toBe 2 h.ident ++
      toBe 2 (if h.df then 0x4000 else 0) ++ toBe 1 h.ttl ++ toBe 1 17
    let b := toBe 4 h.src ++ toBe 4 h.dst
    a ++ toBe 2 (onesComplement (wordSum (a ++ b))) ++ b
  else
    toBe 4 (6 * 2 ^ 28 + (4 * (h.dscp % 64) + h.ecn % 4) * 2 ^ 20 + h.flow % 2 ^ 20) ++ toBe 2 n ++ toBe 1 17 ++ toBe 1 h.ttl ++
      toBe 16 h.src ++ toBe 16 h.dst

/-- The SecTAG of a frame: SCI included, encrypted, the association number `an`, the low half of the packet number (R377).
PRESUMED: notes/assumptions/28.md. -/
def secTag (src an pn : Nat) : Bytes := toBe 2 0x88E5 ++ toBe 1 (0x2C + an % 4) ++ toBe 1 0 ++ toBe 4 pn ++ toBe 6 src ++ toBe 2 1

/-- The headers of a datagram of `n` bytes on the wire: Ethernet, SecTAG, VLAN tag, IP and UDP (R361, R364, R365, R377).
PRESUMED: notes/assumptions/28.md. -/
def frameHead (src dst an : Nat) (h : IpHead) (n : Nat) : Bytes :=
  toBe 6 dst ++ toBe 6 src ++ (match h.pn with | some pn => secTag src an pn | none => []) ++
    (if h.vlan = 0 then [] else toBe 2 0x8100 ++ toBe 2 (8192 * h.pcp + h.vlan)) ++
    toBe 2 (if h.ver = 4 then 0x0800 else 0x86DD) ++ ipBytes h (8 + n) ++
    toBe 2 h.sport ++ toBe 2 h.dport ++ toBe 2 (8 + n) ++ toBe 2 h.udpSum

/-- The fields of a transport header. -/
structure TthHead where
  type : Nat := 0
  stream : Nat := 0
  first : Bool := false
  last : Bool := false
  retx : Bool := false
  cfgEpoch : Nat := 0
  part : Nat := 0
  src : DevId := 0
  dst : DevId := 0
  ctx : Nat := 0xFFFF
  ssn : Nat := 0
  off : Nat := 0
  len : Nat := 0
  ts : Nat := 0
  deriving DecidableEq, Repr

/-- A transport datagram: the header and its payload. -/
def tthBytes (h : TthHead) (payload : Bytes) : Bytes :=
  toBe 1 (16 + h.type % 16) ++
  toBe 1 (64 * (h.stream % 4) + 32 * b2n h.first + 16 * b2n h.last + 8 * b2n h.retx + 2 * (h.cfgEpoch % 4)) ++
  toBe 2 (2 ^ 14 * (h.part % 4) + h.src % 2 ^ 14) ++ toBe 2 (h.dst % 2 ^ 14) ++ toBe 2 h.ctx ++ toBe 4 h.ssn ++
  toBe 4 h.off ++ toBe 2 h.len ++ toBe 2 0 ++ toBe 4 h.ts ++ toBe 8 0 ++ payload

/-- The header and payload of a received datagram; none where its layout breaks R368. -/
def parseTth (b : Bytes) : Option (TthHead × Bytes) :=
  let b0 := beAt b 0 1
  let b1 := beAt b 1 1
  let h : TthHead := {
    type := b0 % 16, stream := b1 / 64, first := bitOf b1 5, last := bitOf b1 4, retx := bitOf b1 3,
    cfgEpoch := bitsOf b1 2 1, part := beAt b 2 2 / 2 ^ 14, src := beAt b 2 2 % 2 ^ 14, dst := beAt b 4 2 % 2 ^ 14,
    ctx := beAt b 6 2, ssn := beAt b 8 4, off := beAt b 12 4, len := beAt b 16 2, ts := beAt b 20 4 }
  if b.length < 32 ∨ b0 / 16 ≠ 1 ∨ h.type = 0 ∨ h.type > 5 ∨ bitOf b1 0 ∨ beAt b 4 2 / 2 ^ 14 ≠ 0 ∨ beAt b 18 2 ≠ 0 ∨
      !allZero (bytesAt b 24 8) ∨ (h.type ≠ 1 ∧ h.stream ≠ 0) ∨ b.length ≠ 32 + h.len then none
  else some (h, b.drop 32)

end Sys2Proof.Machine
end

