-- ==== Sys2Proof/Machine/Net.lean ====
section
/-!
DEFINITION. Machine/Net.lean: how a packet leaves the device: the mesh and its bonds (spec/02 R26 to R30), credit and
flits of a link (spec/13 R340 to R349), relays (R351), contexts and segments of the Tether Transport
(spec/14 R368 to R376), path selection (spec/02 R41), reachability (R40).
-/
namespace Sys2Proof.Machine
open Sys2Proof

-- The mesh (R26 to R28, R30)

/-- The member that link L of this device reaches, none when unconnected; BL15 reaches the pair (R26, R27, R30). -/
def linkMember (s : State) (l : LinkId) : Option Nat :=
  let g := s.cfg.group.size
  let m := s.cfg.group.member
  if l.val = 15 ∨ g < 2 then none
  else
    let k := g - 1
    let r := l.val % k
    -- the position of L in its class, and the number of links of the partner class (R26)
    let pos := ((List.range l.val).filter (fun x => x % k = r)).length
    let cnt := ((List.range 15).filter (fun x => x % k = k - 1 - r)).length
    if pos < cnt then some ((m + r + 1) % g) else none

/-- The DEVICE_ID at the far end of a link, by R26 and R30. -/
def linkPeer (s : State) (l : LinkId) : Option DevId :=
  if l.val = 15 then
    if s.cfg.group.pairMode = 0 then none else some (16 * s.cfg.group.pairGroup + s.cfg.group.member)
  else (linkMember s l).map (fun m => 16 * s.cfg.group.group + m)

/-- The link number at the far end (R26): the link of the partner class in the same position. -/
def farLink (s : State) (l : LinkId) : Nat :=
  let k := s.cfg.group.size - 1
  if l.val = 15 ∨ k = 0 then 15
  else
    let r := l.val % k
    let pos := ((List.range l.val).filter (fun x => x % k = r)).length
    ((List.range 15).filter (fun x => x % k = k - 1 - r)).getD pos 15

/-- A link is working in ACTIVE and SLEEP (R348). -/
def working (q : Link) : Bool := q.state == .active || q.state == .sleep

/-- The links of the bond to a member. -/
def bondLinks (s : State) (m : Nat) : List LinkId := allLinks.filter (fun l => linkMember s l == some m)

/-- A bond is up while at least one of its links is (R28). -/
def bondUp (s : State) (m : Nat) : Bool := (bondLinks s m).any (fun l => working (getLink s l))

/-- Bit m set when the bond to member m is up (R352, BRL_BONDS.UP). -/
def bondMap (s : State) : Nat := packBits ((List.range 16).map (fun m => (b2n (bondUp s m), m)))

def sameGroup (s : State) (d : DevId) : Bool := d / 16 == s.cfg.group.group

/-- Is a DEVICE_ID one that R25 allows, as far as this device holds group sizes (R33)? -/
def deviceExists (s : State) (d : DevId) : Bool :=
  if sameGroup s d then decide (d % 16 < s.cfg.group.size)
  else decide (d / 16 < (match s.cfg.topo with | some t => t.groupCount | none => 1))

-- Peers and flows

def getPeer (s : State) (d : DevId) : Peer := tabGet {} s.net.peers d
def updPeer (d : DevId) (f : Peer → Peer) (s : State) : State :=
  { s with net := { s.net with peers := tabUpd {} d f s.net.peers } }
def flowKey (d : DevId) (p : Nat) : Nat := 4 * d + p
def getFlow (s : State) (d : DevId) (p : Nat) : Flow := tabGet {} s.net.flows (flowKey d p)
def updFlow (d : DevId) (p : Nat) (f : Flow → Flow) (s : State) : State :=
  { s with net := { s.net with flows := tabUpd {} (flowKey d p) f s.net.flows } }

/-- Own group's entry of the epoch table (R119). -/
def ownEpoch (s : State) : Nat := tabGet 0 s.commit.epochs s.cfg.group.group

-- Relays (R351)

/-- The eligible relay candidates toward a member, at most four, in candidate order (R351). -/
def relaySet (s : State) (d : Nat) : List Nat :=
  let g := s.cfg.group.size
  let me := s.cfg.group.member
  (((List.range g).map (fun j => (d + j) % g)).drop 1 |>.filter (fun c =>
    c ≠ me && bondUp s c && (match tabGet none s.bridle.adverts c with
      | some a => bitOf a.map d && decide (dtNow s < a.dt + 300000)
      | none => false))).take 4

-- Credit (R346)

/-- The packet is a data-plane packet, by its header; otherwise it is a collective piece. -/
def isDataPacket (b : Bytes) : Bool :=
  let h := b.drop (b.length - 64)
  tagOk (leAt h 0 8) && leAt h 20 4 == b.length - 64

/-- The units of 64 bytes a packet of `n` bytes in all (payload and header) occupies: its payload and 64, rounded up. -/
def creditUnits (n : Nat) : Nat := (n + 63) / 64

/-- The pool size in units of a VC of a link, for a partition's share on VC 1 and VC 4 (R346). -/
def poolUnits (s : State) (l : LinkId) (vc : Nat) (p : PartId) : Nat :=
  let kib := if l.val = 15 then (if vc = 0 then 32 else if vc = 6 then 480 else 0)
    else match vc with | 0 => 32 | 1 => 256 | 2 => 96 | 3 => 64 | 4 => 32 | 5 => 32 | _ => 0
  let units := kib * 16
  if vc = 1 ∨ vc = 4 then
    let d := definedParts s
    if d.length = 0 ∨ !d.contains p then 0
    else units / d.length + (if d.head? = some p then units % d.length else 0)
  else units

/-- The key of a credit pool. -/
def creditKey (vc : Nat) (p : PartId) : Nat := if vc = 1 ∨ vc = 4 then 8 * (p.val + 1) + vc else vc

/-- Full credit toward the far end, as when the link enters ACTIVE from training. DEDUCED: notes/assumptions/8.md. -/
def fullCredit (s : State) (l : LinkId) : Tab Nat :=
  (List.range 7).foldl (fun t vc => allParts.foldl (fun t p => tabSet 0 (creditKey vc p) (poolUnits s l vc p) t) t) []

-- Sending on a link

/-- The kinds of traffic, for VC and stream choice (R346, R368, R398). -/
inductive Kind where
  | ctrl | row | result | coll
  deriving DecidableEq, Repr

def directVc : Kind → Nat
  | .ctrl => 0 | .row => 1 | .result => 2 | .coll => 3
def relayVc : Kind → Nat
  | .row => 4 | _ => 5
def tthStream : Kind → Nat
  | .ctrl => 0 | .row => 1 | .result => 2 | .coll => 3

/-- The DATA flits of one packet (R340): 242 payload bytes each, with END, which is nonzero on the last. `fuel` bounds their
number. -/
def cutFlits : Nat → Bytes → List (Nat × Bytes)
  | 0, _ => []
  | fuel + 1, b => if b.length ≤ 242 then [(b.length, b)] else (0, b.take 242) :: cutFlits fuel (b.drop 242)

/-- The last FSEQ received in order, as every flit acknowledges it (R340). -/
def lastRx (q : Link) : Nat := (q.rxNext + 4095) % 4096

/-- Room in the replay buffer for `n` sequenced flits, with the INTEGRITY flits that they bring about (R341, R344). -/
def replayRoom (q : Link) (n : Nat) : Bool :=
  decide (q.unacked.length + n + (if q.cryptOn then (q.txGroup.length + n) / 31 else 0) ≤ 512) && q.txWait.isEmpty

/-- May a packet of `n` bytes go on the link now: credit in its pool and room in the replay buffer (R341, R346)? -/
def linkRoom (q : Link) (vc : Nat) (p : PartId) (n : Nat) : Bool :=
  decide (creditUnits n ≤ tabGet 0 q.credit (creditKey vc p)) && replayRoom q ((n + 241) / 242)

/-- The key of one direction of a link, and the nonce of its integrity group `n` (R537). -/
def dirKey (q : Link) (src dst : DevId) : Nat := Config.kdf q.key (toLe 2 src ++ toLe 2 dst)
def groupNonce (src : DevId) (link n : Nat) : Nat := leNat (toLe 2 src ++ toLe 1 link ++ [0] ++ toLe 8 n)

/-- The tag of an integrity group: 16 bytes (R344). -/
def groupTag (key nonce : Nat) (fs : List Bytes) : Bytes := bytesAt (Config.gcmSeal key nonce fs.flatten) 0 16

/-- The payload of the `i`-th flit of an integrity group, encrypted or decrypted (R344). -/
def cryptPayload (key nonce i : Nat) (b : Bytes) : Bytes :=
  (List.range 242).map (fun j => b.getD j 0 ^^^ (Config.keyStream key nonce i).getD j 0)

/-- The key and the nonce of the integrity group that a link sends. -/
def txKey (s : State) (l : LinkId) : Nat := dirKey (getLink s l) (ownId s) ((linkPeer s l).getD 0)
def txNonce (s : State) (l : LinkId) : Nat := groupNonce (ownId s) l.val (getLink s l).groups

/-- Send one sequenced flit and keep it until it is acknowledged (R340, R341); on an encrypted link its payload is encrypted (R344). -/
def rawFlit (l : LinkId) (h : FlitHead) (payload : Bytes) (last : Option (DevId × Option DevId × Nat × Bytes)) (s : State) : State :=
  let q := getLink s l
  let sealed := q.cryptOn && h.type != 4
  let body := if sealed then cryptPayload (txKey s l) (txNonce s l) q.txGroup.length payload else payload
  let b := flitBytes { h with fseq := q.txSeq, ack := lastRx q, nak := q.nakOpen } body
  emit (.flit l q.txSeq b) (updLink s l (fun q => { q with
    txSeq := (q.txSeq + 1) % 4096
    txFlits := wrapAdd 64 q.txFlits 1
    ackOwed := 0
    lastSent := if h.type = 3 then q.lastSent else upNs s
    unacked := q.unacked ++ [{ fseq := q.txSeq, type := h.type, bytes := b, last := last }]
    txGroup := if sealed then q.txGroup ++ [b] else q.txGroup }))

/-- Send a sequenced flit; after every 31 on an encrypted link, one INTEGRITY flit (R344). -/
def seqFlit (l : LinkId) (h : FlitHead) (payload : Bytes) (last : Option (DevId × Option DevId × Nat × Bytes)) (s : State) : State :=
  let s := rawFlit l h payload last s
  let q := getLink s l
  if q.txGroup.length < 31 then s
  else
    let tag := groupTag (txKey s l) (txNonce s l) q.txGroup
    rawFlit l { type := 4 } tag none (updLink s l (fun q => { q with txGroup := [], groups := q.groups + 1 }))

/-- Send a LINK or TIME flit, or keep it for room in the replay buffer (R341). -/
def otherFlit (l : LinkId) (type : Nat) (payload : Bytes) (s : State) : State :=
  if replayRoom (getLink s l) 1 then seqFlit l { type := type } payload none s
  else updLink s l (fun q => { q with txWait := q.txWait ++ [(type, payload)] })

/-- An IDLE flit: it takes no FSEQ and carries the acknowledgement, a NAK and a credit (R340, R341). -/
def idleFlit (l : LinkId) (vc part units : Nat) (s : State) : State :=
  let q := getLink s l
  emit (.flit l q.txSeq (flitBytes { fseq := q.txSeq, ack := lastRx q, nak := q.nakOpen, creditVc := vc, creditPart := part, creditCount := units } []))
    (updLink s l (fun q => { q with ackOwed := 0 }))

/-- Put a whole packet on a link: spend credit, cut it into flits, keep them until acknowledged (R341, R346, R349). `fwd` names the
device for which it is forwarded. -/
def putOnLink (l : LinkId) (vc : Nat) (p : PartId) (dst : DevId) (fwd : Option DevId) (fl : Nat) (b : Bytes) (s : State) : State :=
  let q := getLink s l
  let s := updLink s l (fun q => { q with
    state := .active
    sleepAsked := false
    credit := tabUpd 0 (creditKey vc p) (fun c => c - creditUnits b.length) q.credit })
  let s := if q.state == .sleep then mgtEvent 0x0007 l.val 5 (emit (.link l .wake) s) else s
  (cutFlits (b.length / 242 + 1) b).foldl (fun s (n, x) =>
    seqFlit l { type := 1, vc := vc, end_ := n } x (if n = 0 then none else some (dst, fwd, fl, b)) s) s

-- Contexts (R368 to R376)

/-- The planes of this device's topology record, ascending, that the peer's group lists too (R31, R84). -/
def commonPlanes (s : State) (d : DevId) : List PlaneId :=
  match s.cfg.topo with
  | none => []
  | some t =>
    let own := t.masks.getD s.cfg.group.group 0
    let far := t.masks.getD (d / 16) 0
    allPlanes.filter (fun pl => bitOf own pl.val && bitOf far pl.val)

/-- Is the plane marked failed toward a peer (R373)? -/
def planeFailed (s : State) (pl : PlaneId) (d : DevId) : Bool := (getPlane s pl).failed.any (fun e => e.1 == d)

/-- A plane a flow to the peer may use: UP and not marked failed toward it (R363, R373). -/
def usablePlanes (s : State) (d : DevId) : List PlaneId :=
  (commonPlanes s d).filter (fun pl => (getPlane s pl).state == .up && !planeFailed s pl d)

/-- The next plane in plane order after `pl` that the flow may use (R41, R373). -/
def nextPlane (s : State) (pl : PlaneId) (d : DevId) : Option PlaneId :=
  let u := (usablePlanes s d).filter (· ≠ pl)
  match u.find? (fun x => decide (x > pl)) with
  | some x => some x
  | none => u.head?

/-- The plane of a flow: the flow hash chooses it among the planes up at both ends, and when it fails the next one in plane
order takes its place (R41). The spec gives the hash no function. DESIGN CHOICE: notes/assumptions/22.md. -/
def flowPlane (s : State) (d : DevId) (p : PartId) : Option PlaneId :=
  let ps := usablePlanes s d
  match (getFlow s d p.val).plane with
  | some pl => if ps.contains pl then some pl else nextPlane s pl d
  | none => if ps.isEmpty then none else ps[(Config.flowHash (ownId s) d p.val) % ps.length]?

/-- The open or opening context toward a peer, partition and plane (R370). -/
def findCtx (s : State) (d : DevId) (p : PartId) (pl : PlaneId) : Option (Nat × Ctx) :=
  s.tether.ctxs.findSome? (fun (i, c) => match c with
    | some c => if c.peer = d ∧ c.part = p ∧ c.plane = pl then some (i, c) else none
    | none => none)

def getCtx (s : State) (i : Nat) : Option Ctx := tabGet none s.tether.ctxs i
def setCtx (i : Nat) (c : Option Ctx) (s : State) : State :=
  { s with tether := { s.tether with ctxs := tabSet none i c s.tether.ctxs } }
def updCtx (i : Nat) (f : Ctx → Ctx) (s : State) : State :=
  match getCtx s i with
  | some c => setCtx i (some (f c)) s
  | none => s

/-- Bits [31:0] of DT, as TX_TS carries them. DESIGN CHOICE: notes/assumptions/10.md. -/
def txTs (s : State) : Nat := dtNow s % 2 ^ 32

/-- A HELLO of the context: JUMBO is padded to 8,192 bytes, the other size to 1,024 (R369). DESIGN CHOICE: notes/assumptions/28.md. -/
def helloPayload (s : State) (i : Nat) (jumbo : Bool) : Bytes :=
  bytesAt (toBe 1 (b2n jumbo) ++ toBe 3 0 ++ toBe 2 i ++ toBe 2 0 ++ toBe 4 s.net.startId) 0 (if jumbo then 8192 else 1024)

-- Neighbours (R367)

/-- SPEED of a plane by its port's mode: 1 100G, 2 200G, 3 400G (R383). -/
def planeSpeed (s : State) (pl : PlaneId) : Nat :=
  match s.cfg.link.tthMode.getD (pl.val / 4) 0 with | 1 => 3 | 2 => 2 | 3 => 1 | _ => 0

/-- The configuration of a plane (R84). -/
def planeCfg (s : State) (pl : PlaneId) : Option PlaneCfg :=
  match s.cfg.topo with
  | some t => t.planes.find? (fun e => e.plane == pl.val)
  | none => none

/-- The address of a device on a plane (R365). -/
def planeAddrOf (c : PlaneCfg) (d : DevId) : Nat := c.baseAddr + d

/-- The next hop of an address: itself inside the prefix, the gateway otherwise. -/
def nextHop (c : PlaneCfg) (a : Nat) : Nat :=
  let sh := (if c.ipver = 4 then 32 else 128) - c.prefixLen
  if a / 2 ^ sh = c.baseAddr / 2 ^ sh then a else c.gateway

/-- The packet number of the next frame of a plane that MACsec protects (R377). -/
def takePn (pl : PlaneId) (s : State) : Option Nat × State :=
  if s.cfg.sec.macsec then (some (getPlane s pl).txPn, updPlane s pl (fun q => { q with txPn := q.txPn + 1 })) else (none, s)

/-- Send a frame other than a transport datagram, with the plane's VLAN tag (R361) and SecTAG (R377). -/
def sendEth (pl : PlaneId) (m : EthMsg) (s : State) : State :=
  let c := (planeCfg s pl).getD {}
  let (pn, s) := takePn pl s
  emit (.eth pl { vlan := c.vlan, pcp := if c.vlan = 0 then 0 else c.dscp / 8, pn := pn } m) s

/-- Use the neighbour cache entry of an address, asking for it when there is none; the least recently used is replaced. -/
def resolveAddr (pl : PlaneId) (a : Nat) (s : State) : State :=
  let q := getPlane s pl
  match q.neigh.find? (fun e => e.addr == a) with
  | some e => updPlane s pl (fun q => { q with neigh := q.neigh.filter (fun x => x.addr != a) ++ [e] })
  | none =>
    let kept := if q.neigh.length ≥ Config.neighMax then q.neigh.drop 1 else q.neigh
    sendEth pl (.resolve a) (updPlane s pl (fun q => { q with neigh := kept ++ [{ addr := a, tries := 1, at_ := dtNow s }] }))

/-- Resolve the next hop toward a device. -/
def resolvePeer (pl : PlaneId) (d : DevId) (s : State) : State :=
  match planeCfg s pl with
  | some c => resolveAddr pl (nextHop c (planeAddrOf c d)) s
  | none => s

/-- The MAC address of the next hop toward a device, once it is resolved (R367). -/
def hopMac (s : State) (pl : PlaneId) (d : DevId) : Option Nat :=
  (planeCfg s pl).bind (fun c => ((getPlane s pl).neigh.find? (fun e => e.addr == nextHop c (planeAddrOf c d))).bind (·.mac))

/-- A resolution that has failed may be tried anew for a new context. -/
def forgetFailed (pl : PlaneId) (s : State) : State :=
  updPlane s pl (fun q => { q with neigh := q.neigh.filter (fun e => e.mac.isSome || decide (e.tries < 3) || decide (dtNow s < e.at_ + 1000000)) })

/-- The UDP source port of a context and path generation (R365). -/
def srcPort (src dst : DevId) (part path : Nat) : Nat := 49152 + ((src ^^^ (4 * dst + part)) + 4099 * path) % 16384

/-- The headers of a datagram that leaves (R361, R365): DATA and HELLO are ECT(0). DESIGN CHOICE: notes/assumptions/28.md. -/
def ipHead (c : PlaneCfg) (src dst : DevId) (type part path : Nat) (data : Bytes) : IpHead :=
  let h : IpHead := {
    vlan := c.vlan, pcp := if c.vlan = 0 then 0 else c.dscp / 8, ver := c.ipver, src := planeAddrOf c src, dst := planeAddrOf c dst
    dscp := c.dscp, ecn := if type = 1 ∨ type = 3 then 2 else 0, df := c.ipver == 4
    flow := if c.ipver = 6 then srcPort src dst part path else 0, sport := srcPort src dst part path, dport := c.udpPort }
  { h with udpSum := udpChecksum h data }

/-- Send a datagram on a plane, once the next hop is resolved; until then nothing leaves but the request (R365, R367). -/
def sendDgram (pl : PlaneId) (d : DevId) (path : Nat) (h : TthHead) (payload : Bytes) (s : State) : State :=
  let s := resolvePeer pl d s
  match planeCfg s pl, hopMac s pl d with
  | some c, some mac =>
    let data := tthBytes h payload
    let (pn, s) := takePn pl s
    let ip := { ipHead c (ownId s) d h.type h.part path data with pn := pn }
    emit (.datagram pl d ip (frameHead (planeMac pl) mac ((getPlane s pl).saks + 3) ip data.length) data) s
  | _, _ => s

/-- Bytes of the headers of a plane's datagrams below the transport header (R361, R365, R377). -/
def headLen (s : State) (pl : PlaneId) : Nat :=
  let c := (planeCfg s pl).getD {}
  14 + (if c.vlan = 0 then 0 else 4) + (if c.ipver = 4 then 20 else 40) + 8 + (if s.cfg.sec.macsec then 16 else 0)

/-- The header of a datagram of a context (R368). -/
def ctxHead (s : State) (c : Ctx) (type : Nat) : TthHead :=
  { type := type, cfgEpoch := ownEpoch s, part := c.part.val, src := ownId s, dst := c.peer, ctx := c.remoteId, ts := txTs s }

/-- Send the HELLO of context `i`. -/
def sendHello (i : Nat) (s : State) : State :=
  match getCtx s i with
  | none => s
  | some c =>
    let b := helloPayload s i c.jumbo
    let s := updCtx i (fun c => { c with lastHello := dtNow s, firstHello := if c.firstHello = 0 then dtNow s else c.firstHello }) s
    let s := if c.firstHello = 0 then forgetFailed c.plane s else s
    sendDgram c.plane c.peer c.path { ctxHead s c 3 with ctx := 0xFFFF, len := b.length } b s

/-- Tell the peer that a context is closed (R370). -/
def sendCloseCtx (c : Ctx) (s : State) : State := sendDgram c.plane c.peer c.path (ctxHead s c 5) [] s

/-- The lowest free context index; when all 1,024 are open, the least recently used idle one is closed first (R370). -/
def freeCtx (s : State) : Option Nat × State :=
  match (List.range Config.ctxMax).find? (fun i => (getCtx s i).isNone) with
  | some i => (some i, s)
  | none =>
    let idle := s.tether.ctxs.filterMap (fun (i, c) => match c with
      | some c => if c.queue.isEmpty && c.pkts.isEmpty && c.state == .open_ then some (i, c) else none
      | none => none)
    let old := idle.foldl (fun (a : Option (Nat × Ctx)) e => match a with
      | none => some e
      | some b => if e.2.lastUse < b.2.lastUse then some e else some b) none
    match old with
    | none => (none, s)
    | some (i, c) =>
      (some i, setCtx i none (sendCloseCtx c s))

/-- Segment length on a stream: stream 0 always 1,024 bytes (R369). -/
def segLen (c : Ctx) (stream : Nat) : Nat := if stream = 0 then 1024 else c.seg

/-- Offsets and lengths of the segments of `n` bytes. -/
def cutSegs (sz : Nat) : Nat → Nat → Nat → List (Nat × Nat)
  | 0, _, _ => []
  | fuel + 1, off, n => if n ≤ sz then [(off, n)] else (off, sz) :: cutSegs sz fuel (off + sz) (n - sz)

/-- Bytes of a stream sent beyond CUM_SSN (R371). -/
def beyondCum (t : CtxStream) : Nat := t.unacked.foldl (fun a x => a + x.len) 0 + t.sacked.foldl (fun a x => a + x.2) 0

/-- Unacknowledged segments of a plane (R372, TTH_UNACKED). -/
def planeUnacked (s : State) (pl : PlaneId) : Nat :=
  s.tether.ctxs.foldl (fun a (_, c) => match c with
    | some c => if c.plane = pl then a + (c.streams.toList.map (fun t => t.unacked.length)).foldl (· + ·) 0 else a
    | none => a) 0

/-- Send one DATA segment of a context: it counts and is charged with its headers as it leaves (R376, R383).
DEDUCED: notes/assumptions/28.md. -/
def sendSegment (i : Nat) (stream : Fin 4) (ssn off len : Nat) (first last retx : Bool) (pkt : Bytes) (s : State) : State :=
  match getCtx s i with
  | none => s
  | some c =>
    let b := (pkt.drop off).take len
    let s := sendDgram c.plane c.peer c.path { ctxHead s c 1 with
      stream := stream.val, first := first, last := last, retx := retx, ssn := ssn, off := off, len := len } b s
    if (hopMac s c.plane c.peer).isNone then s
    else charge c.part 2 (headLen s c.plane + 32 + len) (updPlane s c.plane (fun q => { q with txSegs := wrapAdd 64 q.txSegs 1 }))

/-- The stream of a flagged number. -/
def flagStream (n : Nat) : Fin 4 := ⟨n % 4, Nat.mod_lt _ (by decide)⟩

/-- Send one packet of a context whole: FLOW_SEQ has been assigned and the window holds it (R372). -/
def sendCtxPacket (i flags : Nat) (b : Bytes) (s : State) : State :=
  match getCtx s i with
  | none => s
  | some c =>
    let stream := flagStream flags
    let segs := cutSegs (segLen c stream.val) (b.length + 1) 0 b.length
    let t := c.streams[stream]
    let idx := c.pktBase + c.pkts.length
    let recs : List TxSeg := segs.mapIdx (fun j (off, len) => {
      ssn := (t.txSsn + j) % 2 ^ 32, pkt := idx, off := off, len := len, last := j + 1 == segs.length,
      firstTx := dtNow s, lastTx := dtNow s })
    let s := updCtx i (fun c => { c with
      pkts := c.pkts ++ [(flags, b)]
      lastUse := dtNow s
      streams := c.streams.set stream { t with txSsn := (t.txSsn + segs.length) % 2 ^ 32, unacked := t.unacked ++ recs } }) s
    recs.foldl (fun s r => sendSegment i stream r.ssn r.off r.len (r.off == 0) r.last false b s) s

/-- Assign the next FLOW_SEQ of a flow and rewrite the packet with it (R349, R372). -/
def assignSeq (d : DevId) (p : PartId) (isPiece : Bool) (b : Bytes) (s : State) : Bytes × State :=
  let n := (getFlow s d p.val).txNext
  let b := withFlowSeq isPiece n b
  (b, updFlow d p.val (fun f => { f with
    txNext := wrapAdd 32 f.txNext 1
    sent := ((n, isPiece, b) :: f.sent).take (2 ^ 31) }) s)

/-- Do the context's window and its port's bound hold a packet of `n` bytes now (R372)? -/
def ctxRoom (s : State) (c : Ctx) (stream : Fin 4) (n : Nat) : Bool :=
  c.state == .open_ && decide (beyondCum c.streams[stream] + n ≤ c.streams[stream].window) &&
    decide (planeUnacked s c.plane + (n + segLen c stream.val - 1) / segLen c stream.val ≤ 4096)

/-- Packets waiting for a path or a window are kept without a FLOW_SEQ, with the flags that name them: bit 2 of the
stream number says a collective piece, bit 3 that FLOW_SEQ is assigned already. -/
def streamFlags (k : Kind) (isPiece assigned : Bool) : Nat := tthStream k + 4 * b2n isPiece + 8 * b2n assigned


/-- Must the packet follow the ROW packets of its flow (R315: VERDICT and CLOSE follow the rows)? -/
def afterRows (flags : Nat) (b : Bytes) : Bool :=
  flags % 4 == 0 && !bitOf flags 2 && ((rawPacket b).kind == 3 || (rawPacket b).kind == 4)

/-- Is it a speculative ROW packet that has no FLOW_SEQ yet (R289, R290)? -/
def unsentSpec (flags : Nat) (b : Bytes) : Bool := !bitOf flags 3 && flags % 4 == 1 && tagSpec (rawPacket b).tag

/-- Must a packet with no FLOW_SEQ yet stay behind another of its flow that has none either (R293, R315, R347)? A speculative
row has no place among the rows in bucket order, but its verdict follows it. -/
def sameTurn (flags : Nat) (b : Bytes) (fl : Nat) (c : Bytes) : Bool :=
  !bitOf flags 3 && !bitOf fl 3 &&
    ((fl % 4 == flags % 4 && !unsentSpec flags b && !unsentSpec fl c) || (afterRows flags b && fl % 4 == 1))

/-- Is the device FENCED, by a commit or by R122 (R121)? -/
def fenced (s : State) : Bool := s.commit.state == .fenced || (s.commit.rejoin && s.boot.state == .ready)

/-- Must a packet wait while the device is FENCED (R121)? Refusals and messages go out. -/
def fencedHold (s : State) (flags : Nat) (b : Bytes) : Bool := fenced s && !bitOf flags 4 && (bitOf flags 2 || (rawPacket b).kind != 6)

/-- Does the packet have to stay behind one of `l` (R293, R315, R347)? -/
def behind (l : List Waiting) (w : Waiting) : Bool :=
  l.any (fun e => e.dst == w.dst && e.part == w.part && sameTurn w.flags w.bytes e.flags e.bytes)

-- Arbitration (R411 to R414)

/-- A waiting packet's effective priority (R413): URGENT stays, and raises do not go above HIGH. -/
def effPri (s : State) (w : Waiting) : Nat := if currentPri s w.part = 0 then 0 else max 1 (currentPri s w.part - w.raises)

/-- A packet that a resource may grant, with the place where it waits. -/
structure Bid where
  part : PartId
  dev : DevId
  pri : Nat
  size : Nat
  at_ : Nat
  deriving DecidableEq, Repr

/-- The quantum of a partition's round, in bytes (R412). -/
def drrQuantum (s : State) (p : PartId) : Nat := max 1 (partCfg s p).weight * 64

/-- The flow whose turn it is in a partition: round robin in device order after the one served last, each flow's packets in the
order in which they were queued (R414). -/
def flowTurn (last : Nat) (l : List Bid) : Option Bid :=
  let least (c : List Bid) : Option Bid := c.foldl (fun a b => match a with
    | none => some b
    | some x => if b.dev < x.dev then some b else some x) none
  match least (l.filter (fun b => decide (b.dev ≥ last))) with
  | some b => some b
  | none => least l

/-- Rounds of quantum until a deficit covers a packet. -/
def drrRounds (deficit quantum size : Nat) : Nat := (size - deficit + quantum - 1) / quantum

/-- The packet that a resource grants next (R412, R414): the highest effective priority, deficit round robin among partitions,
a tie to the lower index, round robin among a partition's flows. The deficit of a partition with nothing waiting is dropped.
DEDUCED: notes/assumptions/22.md. -/
def arbitrate (res : Nat) (bids : List Bid) (s : State) : Option (Bid × State) :=
  let key (p : PartId) : Nat := 4 * res + p.val
  let top := bids.foldl (fun a b => min a b.pri) 3
  let heads := allParts.filterMap (fun p =>
    (flowTurn (tabGet 0 s.net.turn (key p)) (bids.filter (fun b => b.pri == top && b.part == p))).map (fun b =>
      (drrRounds (tabGet 0 s.net.deficit (key p)) (drrQuantum s p) b.size, b)))
  match heads.foldl (fun (a : Option (Nat × Bid)) x => match a with
    | none => some x
    | some y => if x.1 < y.1 then some x else some y) none with
  | none => none
  | some (k, b) =>
    let deficit := allParts.foldl (fun t p =>
      if heads.any (fun x => x.2.part == p) then
        tabUpd 0 (key p) (fun d => d + k * drrQuantum s p - (if p = b.part then b.size else 0)) t
      else if bids.any (fun x => x.part == p) then t else tabSet 0 (key p) 0 t) s.net.deficit
    some (b, { s with net := { s.net with deficit := deficit, turn := tabSet 0 (key b.part) (b.dev + 1) s.net.turn } })

-- What a port sends (R372, R376)

/-- Cut the rate at most once per SRTT: to `num`/`den` of it, not below port rate / 1,024 (R374, R375). DESIGN CHOICE: notes/assumptions/10.md. -/
def cutRate (num den : Nat) (now : Nat) (c : Ctx) : Ctx :=
  if now < c.lastCut + c.srtt ∧ c.lastCut ≠ 0 then c else { c with rate := max 1 (c.rate * num / den), lastCut := now }

/-- Retransmit one segment (R372, R374), or keep it for the regulator's credit (R417); a FENCED device sends no data (R121). -/
def retransmit (i : Nat) (st : Fin 4) (x : TxSeg) (fast : Bool) (s : State) : State :=
  match getCtx s i with
  | none => s
  | some c =>
    match c.pkts[x.pkt - c.pktBase]? with
    | none => s
    | some (fl, b) =>
      if fencedHold s fl b then s
      else if !hasCredit s c.part 2 then
        stall c.part 2 (setCtx i (some { c with owed := c.owed.filter (· ≠ (st, x.ssn)) ++ [(st, x.ssn)] }) s)
      else
      let t : CtxStream := c.streams[st]
      let u := t.unacked.map (fun y => if y.ssn = x.ssn then { y with lastTx := dtNow s, fastDone := y.fastDone || fast } else y)
      let s := setCtx i (some (cutRate 1 2 (dtNow s) { c with lastBad := dtNow s, streams := c.streams.set st { t with unacked := u } })) s
      sendSegment i st x.ssn x.off x.len (x.off == 0) x.last true b (cntPlane 0x20 1 c.plane s)

/-- Send the retransmissions that a context owes. -/
def payRetx (i : Nat) (s : State) : State :=
  match getCtx s i with
  | none => s
  | some c =>
    c.owed.foldl (fun s (st, n) => match (c.streams[st]).unacked.find? (fun x => x.ssn == n) with
      | some x => retransmit i st x false s
      | none => s) (setCtx i (some { c with owed := [] }) s)

/-- May the packet at place `j` of the context's queue be sent but for credit (R372)? -/
def queueReady (s : State) (c : Ctx) (j : Nat) : Bool :=
  match c.queue[j]? with
  | none => false
  | some w => !behind (c.queue.take j) w && !fencedHold s w.flags w.bytes && ctxRoom s c (flagStream w.flags) w.bytes.length

/-- The first packet of stream 0, or of streams 1 to 3, that the context may send but for credit. -/
def firstReady (s : State) (c : Ctx) (control : Bool) : Option Nat :=
  (List.range c.queue.length).find? (fun j =>
    (match c.queue[j]? with | some w => (w.flags % 4 == 0) == control | none => false) && queueReady s c j)

/-- The contexts of a plane. -/
def planeCtxs (s : State) (pl : PlaneId) : List Nat :=
  s.tether.ctxs.filterMap (fun (i, c) => match c with
    | some c => if c.plane = pl then some i else none
    | none => none)

/-- The contexts of a plane with the first packet that each may send, on stream 0 or on streams 1 to 3, but for credit. -/
def planeReady (s : State) (pl : PlaneId) (control : Bool) : List (Nat × Ctx × Nat) :=
  (planeCtxs s pl).filterMap (fun i => (getCtx s i).bind (fun c => (firstReady s c control).map (fun j => (i, c, j))))

/-- Send the packet at place `j` of a context's queue; its FLOW_SEQ is assigned now (R372). -/
def sendQueued (i j : Nat) (s : State) : State :=
  match getCtx s i with
  | none => s
  | some c => match c.queue[j]? with
    | none => s
    | some w =>
      let s := setCtx i (some { c with queue := c.queue.eraseIdx j }) s
      let (b, s) := if bitOf w.flags 3 then (w.bytes, s) else assignSeq c.peer c.part (bitOf w.flags 2) w.bytes s
      sendCtxPacket i (w.flags % 8 + 8 + w.flags / 16 * 16) b s

/-- The context and place of the packet that a port sends next: stream 0 first, then streams 1 to 3 by partition and flow (R376,
R412, R414); a partition without credit takes no part (R416). -/
def nextGrant (pl : PlaneId) (s : State) : Option (Nat × Nat × State) :=
  let paid (l : List (Nat × Ctx × Nat)) : List (Nat × Ctx × Nat) := l.filter (fun e => hasCredit s e.2.1.part 2)
  match (paid (planeReady s pl true)).head? with
  | some (i, _, j) => some (i, j, s)
  | none =>
    let l := paid (planeReady s pl false)
    let bids : List Bid := l.mapIdx (fun n (_, c, j) =>
      let w := c.queue.getD j {}
      { part := c.part, dev := c.peer, pri := effPri s w, size := w.bytes.length, at_ := n })
    match arbitrate (16 + pl.val) bids s with
    | none => none
    | some (b, s) => (l[b.at_]?).map (fun (i, _, j) => (i, j, s))

/-- Grant at most `n` packets of a plane. -/
def grantPlane (pl : PlaneId) : Nat → State → State
  | 0, s => s
  | n + 1, s => match nextGrant pl s with
    | none => s
    | some (i, j, s) => grantPlane pl n (sendQueued i j s)

/-- Send what waits for a port while windows and credit allow: retransmissions, then queued packets (R376). The windows in which
a regulator withholds one count (R417). -/
def drainPlane (pl : PlaneId) (s : State) : State :=
  let s := eachOf (planeCtxs s pl) payRetx s
  let n := ((planeCtxs s pl).map (fun i => match getCtx s i with | some c => c.queue.length | none => 0)).foldl (· + ·) 0
  let s := grantPlane pl n s
  (planeReady s pl true ++ planeReady s pl false).foldl (fun s e => if hasCredit s e.2.1.part 2 then s else stall e.2.1.part 2 s) s

/-- Send what the port of a context may send. -/
def drainCtx (i : Nat) (s : State) : State :=
  match getCtx s i with
  | some c => drainPlane c.plane s
  | none => s

/-- Give a packet to a context of its plane, opening one with HELLO when there is none (R369, R370); none while it waits for
a free context. -/
def sendTether (pl : PlaneId) (w : Waiting) (s : State) : Option State :=
  match findCtx s w.dst w.part pl with
  | some (i, _) => some (drainCtx i (updCtx i (fun c => { c with queue := c.queue ++ [w] }) s))
  | none =>
    match freeCtx s with
    | (none, _) => none
    | (some i, s) => some (sendHello i (setCtx i (some {
        peer := w.dst, part := w.part, plane := pl, queue := [w], lastUse := dtNow s }) s))

-- Path selection (R41, R348 to R351, R373)

/-- The links of the first hop of a packet, its VC there, and the path named: the bond when it is up, otherwise the
relay that FLOW_SEQ picks (R348, R351). -/
def firstHop (s : State) (d : DevId) (k : Kind) (seq : Nat) : Option (List LinkId × Nat × Bool) :=
  if !sameGroup s d then none
  else if bondUp s (d % 16) then some (bondLinks s (d % 16), directVc k, false)
  else
    let r := relaySet s (d % 16)
    match r[seq % r.length]? with
    | some c => some (bondLinks s c, relayVc k, true)
    | none => none

/-- The kind of traffic of a flagged number. -/
def flagKind (n : Nat) : Kind := match n % 4 with | 0 => .ctrl | 1 => .row | 2 => .result | _ => .coll

/-- The partition of a flagged number 16 * partition + stream flags. -/
def flagPart (n : Nat) : PartId := ⟨n / 16 % 4, Nat.mod_lt _ (by decide)⟩

/-- Does a context other than that of plane `pl` hold a packet that this one must stay behind (R315)? -/
def behindCtx (s : State) (pl : Option PlaneId) (w : Waiting) : Bool :=
  s.tether.ctxs.any (fun (_, c) => match c with
    | some c => c.peer == w.dst && c.part == w.part && some c.plane != pl && behind c.queue w
    | none => false)

/-- The FLOW_SEQ that a packet has or takes when it is sent now. -/
def seqOf (s : State) (w : Waiting) : Nat :=
  if bitOf w.flags 3 then leAt (w.bytes.drop (w.bytes.length - 64)) (if bitOf w.flags 2 then 40 else 24) 4
  else (getFlow s w.dst w.part.val).txNext

/-- The first hop of a waiting packet. -/
def hopOf (s : State) (w : Waiting) : Option (List LinkId × Nat × Bool) := firstHop s w.dst (flagKind w.flags) (seqOf s w)

/-- Bytes that wait for the links of a bond (R348). -/
def bondWaits (s : State) (ls : List LinkId) : Nat :=
  ((s.net.wait.filter (fun w => match hopOf s w with | some (x, _, _) => x == ls | none => false)).map (fun w => w.bytes.length)).foldl (· + ·) 0

/-- The working link of a bond that has room and the fewest bytes queued, ties to the lower number; a SLEEP link only where no ACTIVE
one has room or more than 64 KiB are queued for the bond (R348). -/
def pickLink (s : State) (ls : List LinkId) (vc : Nat) (p : PartId) (n : Nat) : Option LinkId :=
  let load (l : LinkId) : Nat := (getLink s l).unacked.length * 242
  let total := (ls.map load).foldl (· + ·) (bondWaits s ls)
  let best (c : List LinkId) : Option LinkId :=
    c.foldl (fun a l => match a with
      | none => some l
      | some b => if load l < load b then some l else some b) none
  let able := ls.filter (fun l => working (getLink s l) && linkRoom (getLink s l) vc p n)
  let act := able.filter (fun l => (getLink s l).state == .active)
  if act.isEmpty || decide (total > 65536) then best able else best act

/-- Put a packet on a link of its first hop. -/
def sendOnLink (l : LinkId) (vc : Nat) (relayed : Bool) (w : Waiting) (s : State) : State :=
  let (b, s) := if bitOf w.flags 3 then (w.bytes, s) else assignSeq w.dst w.part (bitOf w.flags 2) w.bytes s
  let s := charge w.part 1 b.length (putOnLink l vc w.part w.dst none (16 * w.part.val + w.flags % 16) b s)
  let s := if relayed then { s with bridle := { s.bridle with relaySent := wrapAdd 64 s.bridle.relaySent 1 } } else s
  emit (.packet w.dst (if relayed then .relay l else .bridle l) b) s

/-- The link that takes a packet now, its VC there and whether a relay follows; none while it must wait (R41, R121, R289, R315,
R349, R416). -/
def linkFor (s : State) (w : Waiting) : Option (LinkId × Nat × Bool) :=
  if fencedHold s w.flags w.bytes then none
  else match hopOf s w with
  | some (ls, vc, relayed) =>
    if !hasCredit s w.part 1 || behindCtx s none w || (relayed && unsentSpec w.flags w.bytes) then none
    else (pickLink s ls vc w.part w.bytes.length).map (fun l => (l, vc, relayed))
  | none => none

/-- Send a packet or piece on its path, none when it must wait (R41, R121, R289, R315, R349). -/
def trySend (w : Waiting) (s : State) : Option State :=
  if fencedHold s w.flags w.bytes then none
  else match hopOf s w with
  | some _ => (linkFor s w).map (fun (l, vc, relayed) => sendOnLink l vc relayed w s)
  | none =>
    if unsentSpec w.flags w.bytes then none
    else match flowPlane s w.dst w.part with
    | none => none
    | some pl =>
      if behindCtx s (some pl) w then none
      else match sendTether pl w (updFlow w.dst w.part.val (fun f => { f with plane := some pl }) s) with
      | none => none
      | some s => some (emit (.packet w.dst (.tether pl) w.bytes) s)

/-- A packet that waits: the window in which its regulator withholds it counts (R417), and a wait for a free context (R370). -/
def holdBack (w : Waiting) (s : State) : Waiting × State :=
  if fencedHold s w.flags w.bytes then (w, s)
  else match hopOf s w with
  | some _ => (w, if hasCredit s w.part 1 then s else stall w.part 1 s)
  | none => match flowPlane s w.dst w.part with
    | some pl => if w.counted || (findCtx s w.dst w.part pl).isSome || (freeCtx s).1.isSome then (w, s)
      else ({ w with counted := true }, cntTether 0x00159004 1 s)
    | none => (w, s)

/-- Send it unless a packet that waits holds it up; none when it must wait. -/
def sendAfter (l : List Waiting) (w : Waiting) (s : State) : Option State :=
  if behind l w then none else trySend w s

/-- Send a packet or piece of partition index `p` to a device, or keep it until it may go. `flags` as `streamFlags`; the
FLOW_SEQ is assigned when the packet is transmitted (R349, R373). -/
def sendTo (d : DevId) (p : PartId) (flags : Nat) (b : Bytes) (s : State) : State :=
  let w : Waiting := { dst := d, part := p, flags := flags, bytes := b, since := dtNow s }
  match sendAfter s.net.wait w s with
  | some s => s
  | none =>
    let (w, s) := holdBack w s
    { s with net := { s.net with wait := s.net.wait ++ [w] } }

-- Messages that are no packets (R346, R405, R479)

/-- The links of the first hop of a message, and its VC: the pair's link, the bond, or the first relay (R26, R346, R351). -/
def msgHop (s : State) (d : DevId) : Option (List LinkId × Nat) :=
  if linkPeer s 15 == some d && working (getLink s 15) then some ([15], 0)
  else if !sameGroup s d then none
  else if bondUp s (d % 16) then some (bondLinks s (d % 16), 0)
  else ((relaySet s (d % 16)).head?).map (fun c => (bondLinks s c, 5))

/-- Send a message of the device on the CTRL VC, or on stream 0 of a context of its lowest partition, none when it must wait
(R346, R368, R405). DESIGN CHOICE: notes/assumptions/101.md. -/
def tryMsg (d : DevId) (b : Bytes) (s : State) : Option State :=
  match msgHop s d with
  | some (ls, vc) => (pickLink s ls vc 0 b.length).map (fun l => putOnLink l vc 0 d none 254 b s)
  | none =>
    let p := (definedParts s).headD 0
    (flowPlane s d p).bind (fun pl => sendTether pl { dst := d, part := p, flags := 56, bytes := b, since := dtNow s } s)

/-- Send a message, or keep it behind what waits for the same device. -/
def sendMessage (d : DevId) (b : Bytes) (s : State) : State :=
  match (if s.net.msgs.any (fun e => e.1 == d) then none else tryMsg d b s) with
  | some s => s
  | none => { s with net := { s.net with msgs := s.net.msgs ++ [(d, b)] } }

/-- Try the messages that wait again. -/
def drainMsgs (s : State) : State :=
  s.net.msgs.foldl (fun s (d, b) => sendMessage d b s) { s with net := { s.net with msgs := [] } }

/-- Put a pair-link message on BL15, or keep it for the link (R346, R349, R479). -/
def sendPairLink (b : Bytes) (s : State) : State :=
  let l : LinkId := 15
  let peer := (linkPeer s l).getD 0
  if working (getLink s l) && (getLink s l).queue.isEmpty && linkRoom (getLink s l) 6 0 b.length then putOnLink l 6 0 peer none 255 b s
  else updLink s l (fun q => { q with queue := q.queue ++ [b] })

/-- Send a forwarded packet on a working link of the bond to its destination, or hold it (R353). DEDUCED: notes/assumptions/27.md. -/
def forwardTo (x : Relayed) (s : State) : State :=
  let vc := relayVc (flagKind x.flags)
  match pickLink s (bondLinks s (x.dst % 16)) vc (flagPart x.flags) x.bytes.length with
  | some l => putOnLink l vc (flagPart x.flags) x.dst (some x.src) x.flags x.bytes s
  | none => { s with bridle := { s.bridle with held := s.bridle.held ++ [x] } }

/-- Send a packet again on another path with its FLOW_SEQ and tag (R349, R353). -/
def resend (d : DevId) (fwd : Option DevId) (fl : Nat) (b : Bytes) (s : State) : State :=
  let s := cntBridle 0x00150424 1 s
  if fl = 255 then sendPairLink b s
  else if fl = 254 then sendMessage d b s
  else match fwd with
    | some src => forwardTo { dst := d, flags := fl, src := src, bytes := b } s
    | none => sendTo d (flagPart fl) (fl % 8 + 8) b s

/-- The place of a waiting packet's VC in the order in which a link serves them (R347): CTRL, RELAY_OTHER, RELAY_ROW, the rest. -/
def vcOrder (s : State) (w : Waiting) : Nat :=
  match hopOf s w with
  | some (_, vc, _) => match vc with | 0 => 0 | 5 => 1 | 4 => 2 | _ => 3
  | none => 3

/-- Try the waiting packets of one place in the order of R347, as they were queued; all that still wait keep their order. -/
def drainOutList (c : Nat) : List Waiting → List Waiting → State → State
  | [], kept, s => { s with net := { s.net with wait := kept } }
  | w :: rest, kept, s =>
    if vcOrder s w ≠ c then drainOutList c rest (kept ++ [w]) s
    else match sendAfter kept w s with
    | some s => drainOutList c rest kept s
    | none =>
      let (w, s) := holdBack w s
      drainOutList c rest (kept ++ [w]) s

/-- The packets of the direct VCs that a link may take now: their place among what waits, and the link. -/
def linkBids (s : State) : List (LinkId × Bid) :=
  (s.net.wait.mapIdx (fun n w =>
    if vcOrder s w ≠ 3 ∨ behind (s.net.wait.take n) w then none
    else (linkFor s w).map (fun (l, _, _) =>
      (l, ({ part := w.part, dev := w.dst, pri := effPri s w, size := w.bytes.length, at_ := n } : Bid))))).filterMap id

/-- Grant at most `n` waiting packets of the direct VCs, link by link in the order of R412 and R414. -/
def grantLinks : Nat → State → State
  | 0, s => s
  | n + 1, s =>
    let bids := linkBids s
    match bids.head? with
    | none => s
    | some (l, _) =>
      match arbitrate l.val ((bids.filter (fun e => e.1 == l)).map (·.2)) s with
      | none => s
      | some (b, s) => match s.net.wait[b.at_]? with
        | none => s
        | some w => match trySend w { s with net := { s.net with wait := s.net.wait.eraseIdx b.at_ } } with
          | some s => grantLinks n s
          | none => s

/-- Try what waits of one place in the order of R347; the direct VCs by partition and flow (R414). -/
def drainWait (c : Nat) (s : State) : State :=
  let s := if c = 3 then grantLinks s.net.wait.length s else s
  drainOutList c s.net.wait [] s

/-- Return first-hop credit in order, as far as the second hop toward the destination holds as much (R353). `spent` is what
was set against it already. DEDUCED: notes/assumptions/27.md. -/
def payOwedList : List (LinkId × Nat × PartId × Nat × DevId) → List (LinkId × Nat × PartId × Nat × DevId) → State → State
  | [], _, s => s
  | (l, vc, p, n, d) :: rest, spent, s =>
    let used := ((spent.filter (fun o => o.2.2.2.2 == d && creditKey o.2.1 o.2.2.1 == creditKey vc p)).map (fun o => o.2.2.2.1)).foldl (· + ·) 0
    if (bondLinks s (d % 16)).any (fun x => working (getLink s x) && decide (used + n ≤ tabGet 0 (getLink s x).credit (creditKey vc p))) then
      payOwedList rest (spent ++ [(l, vc, p, n, d)]) (idleFlit l vc (if vc = 4 then p.val else 0) n s)
    else payOwedList rest spent { s with bridle := { s.bridle with owed := s.bridle.owed ++ [(l, vc, p, n, d)] } }

def payOwed (s : State) : State := payOwedList s.bridle.owed [] { s with bridle := { s.bridle with owed := [] } }

/-- Retry what a relay holds for want of a working link, rows or the rest (R347, R353). -/
def drainHeld (rows : Bool) (s : State) : State :=
  let mine (x : Relayed) : Bool := (x.flags % 4 == 1) == rows
  let q := s.bridle.held.filter mine
  q.foldl (fun s x => forwardTo x s) { s with bridle := { s.bridle with held := s.bridle.held.filter (fun x => !mine x) } }

/-- Retry everything that waits to be sent, in the order of R347: after a change of credit, window, context or path. A VERDICT
or a CLOSE may go once the rows before it have gone. -/
def drainOut (s : State) : State :=
  drainWait 1 (drainWait 0 (drainWait 3 (payOwed (drainWait 2 (drainHeld true (drainWait 1 (drainHeld false (drainWait 0 (drainMsgs s)))))))))

/-- Retry what waits on a link: its pair messages, and whatever else its credit lets go (R347). -/
def drainLink (l : LinkId) (s : State) : State :=
  let q := (getLink s l).queue
  drainOut (q.foldl (fun s b => sendPairLink b s) (updLink s l (fun x => { x with queue := [] })))

/-- Is anything queued for a link (R355)? -/
def queuedFor (s : State) (l : LinkId) : Bool :=
  !(getLink s l).queue.isEmpty ||
    s.net.wait.any (fun w => match hopOf s w with
      | some (ls, _, _) => ls.contains l
      | none => false) ||
    s.net.msgs.any (fun e => match msgHop s e.1 with | some (ls, _) => ls.contains l | none => false) ||
    s.bridle.held.any (fun x => (bondLinks s (x.dst % 16)).contains l)

/-- Send a data-plane packet of partition `p` under a configuration epoch: a ROW carries that of its clause's resolution (R37). -/
def sendPacketAs (e : Nat) (d : DevId) (p : PartId) (k : Kind) (x : Packet) (s : State) : State :=
  let b := packetBytes { x with cfgEpoch := e, dst := d }
  let s := cntPart64 0x000D0010 b.length p s
  sendTo d p (streamFlags k false false) b s

/-- Send a data-plane packet of partition `p`: CFG_EPOCH is own group's entry (R119, R312). -/
def sendPacket (d : DevId) (p : PartId) (k : Kind) (x : Packet) (s : State) : State := sendPacketAs (ownEpoch s) d p k x s

/-- Send a collective piece of partition `p` (R398). -/
def sendPiece (d : DevId) (p : PartId) (x : Piece) (s : State) : State :=
  let k : Kind := if x.kind = 1 then .coll else .ctrl
  let b := pieceBytes { x with cfgEpoch := ownEpoch s, src := ownId s, dst := d, partEpoch := (getPart s p).epoch }
  sendTo d p (streamFlags k true false) b s

/-- Is a path to the device up: a bond, a relay or a common Tether plane (R40)? -/
def pathUp (s : State) (d : DevId) : Bool :=
  (sameGroup s d && (bondUp s (d % 16) || !(relaySet s (d % 16)).isEmpty)) || !(usablePlanes s d).isEmpty

/-- The device of the topology: its group is listed, and in the own group it is a member (R25, R84, R366). -/
def knownDev (s : State) (d : DevId) : Bool :=
  match s.cfg.topo with
  | some t => decide (d / 16 < t.groupCount) && (!sameGroup s d || decide (d % 16 < s.cfg.group.size))
  | none => sameGroup s d && decide (d % 16 < s.cfg.group.size)

end Sys2Proof.Machine
end

