-- ==== Sys2Proof/Machine/Faults.lean ====
section
/-!
DEFINITION. Machine/Faults.lean: what a fault does: the teardown of a job (spec/07 R187, R201), the reset of a
partition (spec/03 R46, R47, spec/18 R459, R467, R632), a warm reset (spec/03 R45 to R50), and the shared pieces they
use: closing a layer step (spec/01 R19, spec/18 R471), aborting and freeing communicators (spec/15 R387, R403), and the
pair's ABANDON (spec/17 R445).
-/
namespace Sys2Proof.Machine
open Sys2Proof

-- Communicators (R385 to R387, R401, R403)

def getComm (s : State) (h : Nat) : Option Comm := tabGet none s.col.comms h
def setComm (h : Nat) (c : Option Comm) (s : State) : State := { s with col := { s.col with comms := tabSet none h c s.col.comms } }
def updComm (h : Nat) (f : Comm → Comm) (s : State) : State :=
  match getComm s h with
  | some c => setComm h (some (f c)) s
  | none => s

/-- The communicators of this device with a COMM_ID. -/
def commsNamed (s : State) (id : Nat) : List (Nat × Comm) :=
  s.col.comms.filterMap (fun (h, c) => match c with
    | some c => if c.id = id then some (h, c) else none
    | none => none)
/-- The communicator of this device that a piece names: the ACTIVE one of its COMM_ID, or any that stands. -/
def findComm (s : State) (id : Nat) : Option (Nat × Comm) :=
  let l := commsNamed s id
  (l.find? (fun x => x.2.state == .active)) <|> l.head?
/-- The communicator of a COMM_ID that JOIN and READY reach: the last created (R386). DEDUCED: notes/assumptions/52.md. -/
def findCreating (s : State) (id : Nat) : Option (Nat × Comm) :=
  let l := (commsNamed s id).filter (fun x => x.2.state == .creating && !x.2.dup)
  l.find? (fun x => l.all (fun y => decide (y.2.started ≤ x.2.started)))

/-- The distinct group numbers of a member list in ascending order; members are ascending. -/
def groupsOf (m : List DevId) : List Nat := (m.map (· / 16)).eraseDups
/-- The leader of a group: its member of lowest position (R385). -/
def leaderOf (m : List DevId) (g : Nat) : DevId := (m.find? (fun d => d / 16 == g)).getD 0

/-- Those to whom this device sends an ABORT: its leader, its group's members and every other leader (R401). -/
def abortTargets (s : State) (m : List DevId) : List DevId :=
  let me := ownId s
  ((m.filter (fun d => d / 16 == me / 16)) ++ (groupsOf m).map (leaderOf m)).eraseDups.filter (· ≠ me)

/-- Send ABORT pieces of a communicator with the code and device of DETAIL (R396, R401). -/
def sendAbort (c : Comm) (code dev : Nat) (dests : List DevId) (s : State) : State :=
  eachOf dests (fun d s => sendPiece d c.part { commId := c.id, kind := 6, op := 8, opSeq := c.opSeq, detail := code + 2 ^ 16 * dev } s) s

/-- The communicator enters ABORTED with a code and tells the others (R403). Nothing when it is not ACTIVE. -/
def abortComm (h code dev : Nat) (s : State) : State :=
  match getComm s h with
  | some c => if c.state == .active then
      sendAbort c code dev (abortTargets s c.members) (updComm h (fun c => { c with state := .aborted, abortCode := code, abortDev := dev }) s)
    else s
  | none => s

/-- Every communicator handle of a partition. -/
def commsOf (s : State) (p : PartId) : List Nat :=
  s.col.comms.filterMap (fun (h, c) => match c with
    | some c => if c.part = p then some h else none
    | none => none)

/-- The epoch notices of R467: PROBE_ACK with PRESENT 0 to every other member of each ACTIVE communicator. -/
def epochNotices (p : PartId) (s : State) : State :=
  eachOf (commsOf s p) (fun h s => match getComm s h with
    | some c => if c.state == .active then
        eachOf (c.members.filter (· ≠ ownId s)) (fun d s => sendPiece d p { commId := c.id, kind := 8, op := 8, opSeq := c.opSeq } s) s
      else s
    | none => s) s

-- Layer steps (R19, R302, R313)

/-- One entry of a close marker (R313). -/
def closeEntry (expert cluster count : Nat) : Bytes := toLe 4 (packBits [(expert % 4096, 0), (cluster % 8, 12), (count % 65536, 16)])

/-- The close marker of a step to one participant; to itself it is recorded at once (R19, R274). -/
def sendClose (p : PartId) (c : Conj) (d : DevId) (s : State) : State :=
  let ent := c.sent.filter (fun e => e.1 == d)
  if d = ownId s then s
  else sendPacket d p .ctrl {
    tag := mkTag (ownId s) 0 0 (c.step % 64) p.val false c.layer, kind := 4, partEpoch := (getPart s p).epoch,
    step := c.step, comm := c.comm, count := ent.length,
    payload := (ent.map (fun (_, e, cl, n) => closeEntry e cl n)).flatten } s

/-- A verdict entry (spec/11 R293). -/
def verdictEntry (tag : Nat) (confirm : Bool) (rank weight : Nat) : Bytes :=
  toLe 8 tag ++ toLe 1 (if confirm then 128 + rank % 16 else 0) ++ toLe 3 0 ++ toLe 4 (if confirm then weight else 0)

/-- Send verdicts to one destination, at most 64 entries a packet (R293). -/
def sendVerdicts (p : PartId) (c : Conj) (d : DevId) : List Bytes → Nat → State → State
  | _, 0, s => s
  | [], _, s => s
  | es, fuel + 1, s =>
    let now := es.take 64
    sendVerdicts p c d (es.drop 64) fuel (sendPacket d p .ctrl {
      tag := mkTag (ownId s) 0 0 (c.step % 64) p.val false c.layer, kind := 3, partEpoch := (getPart s p).epoch,
      step := c.step, comm := c.comm, count := now.length, payload := now.flatten } s)

/-- The speculative clauses of a step that still hold budget. -/
def outstandingSpec (c : Conj) : List Clause := c.clauses.filter (fun x => x.stage == .spec || x.stage == .refused)

/-- Faults held with speculative clauses end suppressed (R299). -/
def suppress (p : PartId) (n : Nat) (s : State) : State :=
  if n = 0 then s else cntPart 0x000A0048 n p (updJob s p (fun j => { j with suppressed := j.suppressed + n }))

/-- Every speculative row and hold entry of a partition is an orphan, and the faults held with them are suppressed (R297, R299). -/
def countOrphans (p : PartId) (s : State) : State :=
  let rs := (getPart s p).rows.filter (·.spec)
  suppress p ((rs.flatMap (fun r => r.heldFaults.map (·.1))).eraseDups).length (cntPart 0x000A004C rs.length p s)

/-- End every outstanding speculative clause in CANCELLED, telling each destination (R299, R302). -/
def cancelSpec (p : PartId) (c : Conj) (s : State) : State :=
  let out := outstandingSpec c
  let s := suppress p (out.filter (fun x => x.heldFault.isSome)).length (cntPart64 0x000A0018 out.length p s)
  let ds := ((out.filter (fun x => x.stage == .spec)).map (·.dev)).eraseDups.filter (· ≠ ownId s)
  eachOf ds (fun d s =>
    let es := (out.filter (fun x => x.dev == d && x.stage == .spec)).map (fun x => verdictEntry x.tag false 0 0)
    sendVerdicts p c d es (es.length + 1) s) s

/-- The packet waits without a FLOW_SEQ and is the ROW packet of a tag. -/
def isWaitingRow (tag fl : Nat) (b : Bytes) : Bool := !bitOf fl 3 && fl % 16 == 1 && (rawPacket b).tag == tag

/-- What waits to be sent, on its path or in a context. -/
def waitingAll (s : State) : List Waiting :=
  s.net.wait ++ s.tether.ctxs.flatMap (fun (_, c) => match c with | some c => c.queue | none => [])

/-- Is the ROW packet of a clause queued without a FLOW_SEQ (R419)? -/
def rowWaiting (s : State) (tag : Nat) : Bool := (waitingAll s).any (fun w => isWaitingRow tag w.flags w.bytes)

/-- Withdraw what waits to be sent and meets a test (R421, R428). -/
def withdraw (t : Waiting → Bool) (s : State) : State :=
  { s with
    net := { s.net with wait := s.net.wait.filter (fun w => !t w) }
    tether := { s.tether with
      ctxs := s.tether.ctxs.map (fun (i, c) => (i, c.map (fun c => { c with queue := c.queue.filter (fun w => !t w) }))) } }

def updConj (p : PartId) (f : Conj → Conj) (s : State) : State := updPart s p (fun q => { q with conj := q.conj.map f })

/-- Withdraw the queued ROW packet of a clause (R289, R421): it was never sent. -/
def withdrawRow (p : PartId) (x : Clause) (s : State) : State :=
  let n := (((waitingAll s).filter (fun w => isWaitingRow x.tag w.flags w.bytes)).map (fun w => w.bytes.length)).foldl (· + ·) 0
  let s := withdraw (fun w => isWaitingRow x.tag w.flags w.bytes) s
  let s := cntPart64 0x000D0000 (2 ^ 64 - 1) p (cntPart64 0x000D0010 (2 ^ 64 - n) p s)
  let same (e : DevId × Nat × Nat × Nat) : Bool := e.1 == x.dev && e.2.1 == x.expert && e.2.2.1 == x.cluster
  updConj p (fun c => { c with
    clauses := c.clauses.filter (fun y => !(y.slot == x.slot && y.rank == x.rank && y.stage == x.stage))
    sent := if x.reissue then c.sent else (c.sent.map (fun e => if same e then (e.1, e.2.1, e.2.2.1, e.2.2.2 - 1) else e)).filter (fun e => e.2.2.2 != 0) }) s

/-- The rows of the partition's own step that wait without a FLOW_SEQ are withdrawn (R421, R428). -/
def withdrawRows (p : PartId) (s : State) : State :=
  match (getPart s p).conj with
  | none => s
  | some c => eachOf (c.clauses.filter (fun x => x.dev != ownId s && rowWaiting s x.tag)) (fun x s =>
      withdrawRow p x (if x.stage == .spec then cntPart64 0x000A0008 (2 ^ 64 - 1) p s else s)) s

/-- The pieces of a partition's own collective that wait without a FLOW_SEQ are withdrawn (R428). -/
def withdrawPieces (p : PartId) (s : State) : State :=
  withdraw (fun w => w.part == p && !bitOf w.flags 3 && bitOf w.flags 2 && (rawPiece w.bytes).kind == 1) s

/-- Tear a CONJ.STEP down: CANCEL what is speculative, send the close markers at once with the counts sent, and go on
serving the step until its set closes or SYC_WAIT_MS has passed (R471). -/
def retireConj (p : PartId) (s : State) : State :=
  match (getPart s p).conj with
  | none => s
  | some c =>
    let s := cancelSpec p c s
    let s := if c.closeSent then s else eachOf c.parts (fun d s => sendClose p c d s) s
    let kept : Conj := { c with
      closeSent := true
      clauses := []
      served := some (dtNow s + s.cfg.tmo.sycWaitMs * 1000000) }
    updPart s p (fun q => { q with conj := none, served := some kept })

-- Dual-Line (R440, R445)

/-- A Dual-Line message: bytes 0 to 59 and their CRC (R440). -/
def dualMsg (kind : Nat) (p seq job count req flags defined : Nat) (check : Bytes) : Bytes :=
  let b := toLe 1 kind ++ toLe 1 p ++ toLe 2 0 ++ toLe 4 seq ++ toLe 2 job ++ toLe 2 count ++ toLe 4 req ++ toLe 1 flags ++
    toLe 1 defined ++ toLe 6 0 ++ bytesAt check 0 32 ++ toLe 4 0
  b ++ toLe 4 (crc32c b)

def sendDual (b : Bytes) (s : State) : State := emit (.dual b) (sendPairLink b s)

/-- The teardown of a compared job: ABANDON unless it ended in DL_MISMATCH, and DL_SEQ restarts (R445). -/
def abandonDual (p : PartId) (code : Nat) (s : State) : State :=
  let q := getPart s p
  if s.dual.state == .paired && q.job.stillAir && q.job.open_ then
    let s := if code = 0x0901 then s
      else sendDual (dualMsg 2 p.val q.dl.seq 0 0 0 0 0 []) s
    updPart s p (fun q => { q with dl := { q.dl with seq := 0, wait := none, rx := [], decided := false } })
  else s

-- Ending a job (R185 to R187)

/-- The open job ends: it stays as the last job (R429); CNT_JOBS and policy event 0x000F (R572, R620). DEDUCED: notes/assumptions/58.md. -/
def closeJob (p : PartId) (s : State) : State :=
  if !(getPart s p).job.open_ then s
  else mgtEvent 0x000F p.val (getPart s p).job.id (cntPart64 0x00070020 1 p (updJob s p (fun j => { j with open_ := false })))

/-- Step 1 of R187 for one stream: its command ends without its signal. -/
def stopStream (p : PartId) (code : Nat) (st : StreamId) (s : State) : State :=
  match (getStream s p st).exec with
  | some e => match e.phase with
    | .waiting _ => updStream s p st (fun x => { x with exec := none })
    | _ => traceCmd p st e.desc .abort code (updStream s p st (fun x => { x with exec := none }))
  | none => s

/-- Steps 2 and 3 of R187 for one stream: queue emptied, RING_HEAD at RING_TAIL, CT counters, resident flag and program
counter cleared. Ring fetches in flight stay: what they bring while HALTED is 1 is discarded and counted. -/
def emptyStream (x : Stream) : Stream := { x with
  queue := []
  exec := none
  resident := 0
  pc := 0
  skip := 0
  ct := .replicate 8 0
  ringHead := x.ringTail
  inJob := false
  ended := false }

/-- The sync counters of a partition's range return to zero (R171, R187). -/
def clearSyc (p : PartId) (s : State) : State :=
  { s with syc := tabClear (partCfg s p).sycBase ((partCfg s p).sycBase + (partCfg s p).sycCount) s.syc }

/-- Is the request one of the XFR stream's command: a read for it, or a data write (R428)? -/
def isXfrReq : DmaReq → Bool
  | .read _ _ (.ring _ _) => false
  | .read _ _ _ => true
  | .write .mirror _ _ _ _ _ => false
  | .write _ _ _ _ _ _ => true
  | .msix _ => false
def isRecordReq : DmaReq → Bool
  | .write .record _ _ _ _ _ => true
  | _ => false

/-- Does the XFR stream's command wait for the issue of its record? Other records in the queue are of commands that have ended. -/
def recordDue (s : State) (p : PartId) : Bool :=
  match (getStream s p 6).exec with
  | some e => leAt e.desc 0 2 == 0x7002 && e.at_ == 7
  | none => false

/-- The host reads and writes of a partition's XFR command lose their requester: what is queued is withdrawn, and data that still
arrives is discarded (R428). -/
def orphanReads (p : PartId) (s : State) : State :=
  let due := recordDue s p
  match portOf s p with
  | none => s
  | some k => updPort s k (fun q => { q with
      dmaQ := q.dmaQ.filter (fun r => !isXfrReq r || (isRecordReq r && !due))
      reads := q.reads.map (fun r => match r.tgt with
        | .ring _ _ => r
        | _ => { r with tgt := .orphan }) })

/-- Steps 1 to 3 of R187, in the cycle of the fault; HALTED reads 1 until TEARDOWN_COMPLETE. -/
def haltQueues (p : PartId) (code : Nat) (s : State) : State :=
  let s := orphanReads p s
  let s := eachOf allStreams (fun st s => stopStream p code st s) s
  let s := eachOf allStreams (fun st s => updStream s p st emptyStream) s
  let s := clearSyc p s
  updPart s p (fun q => { q with
    halted := true, load := none, shadow := [], hbmWait := q.hbmWait.filter (fun e => decide (e.1 ≥ 7))
    pass := match q.pass with | some x => if x.alone then none else some x | none => none })

/-- Tear the open job down under a fault code (R187, R297, R387, R428, R445, R471). DEDUCED: notes/assumptions/81.md. -/
def teardown (p : PartId) (code : Nat) (s : State) : State :=
  let s := match (getPart s p).colRun with
    | some r => abortComm r.handle code 0 (withdrawPieces p s)
    | none => s
  let s := updPart s p (fun q => { q with colRun := none })
  let s := abandonDual p code s
  let s := retireConj p (withdrawRows p s)
  let s := updPart (countOrphans p s) p (fun q => { q with rows := q.rows.filter (fun r => !r.spec) })
  let s := updPart s p (fun q => { q with sb := { q.sb with staged := q.sb.staged.filter (fun x => x.epoch ≠ 0) } })
  updPart (cntPart 0x00030208 1 p (closeJob p (haltQueues p code s))) p (fun q => { q with torn := true })

/-- Raise a JOB-class fault of a partition: its record, and the teardown when a job is open (R427, R452). A fault
during a teardown is recorded and absorbed. -/
def jobFault (p : PartId) (r : ErrRec) (s : State) : State :=
  let s := record p { r with cls := .job } s
  if (getPart s p).job.open_ && !(getPart s p).halted then teardown p r.code s else s

-- Rings (R161, R164)

/-- Queue a read of host memory on the partition's port; `tgt` names each piece by its offset (R141). -/
def hostRead (p : PartId) (addr len : Nat) (tgt : Nat → DmaTarget) (s : State) : State :=
  match portOf s p with
  | none => s
  | some k => dmaPush k ((readPieces (getPort s k) addr len).map (fun (a, n) => .read a n (tgt (a - addr)))) s

/-- Free entries of a queue: 256 − DEPTH − fetches issued and not entered (R191). -/
def queFree (x : Stream) : Nat := Config.queDepth - x.queue.length - x.fetches.length

/-- Issue ring fetches while the ring holds descriptors and FREE is nonzero (R164). DEDUCED: notes/assumptions/48.md. -/
def fetchRing (p : PartId) (st : StreamId) : Nat → State → State
  | 0, s => s
  | fuel + 1, s =>
    let x := getStream s p st
    if !x.ringEnable || x.ringTail == x.ringHead || queFree x == 0 then s
    else
      let n := x.ringHead
      let s := updStream s p st (fun x => { x with
        ringHead := wrapAdd 32 n 1
        fetches := x.fetches ++ [(n, none)] })
      fetchRing p st fuel (hostRead p ((x.ringBase + 64 * (n % 2 ^ x.ringLog2)) % 2 ^ 64) 64 (fun _ => .ring st n) s)

/-- Fetch what a ring may fetch now. DEDUCED: notes/assumptions/48.md. -/
def fetchNow (p : PartId) (st : StreamId) (s : State) : State := fetchRing p st Config.queDepth s

-- Faults of commands

/-- The head entry of a stream leaves its queue without counting as retired: its command faulted (R161). -/
def dropHead (p : PartId) (st : StreamId) (s : State) : State :=
  updStream s p st (fun x => { x with queue := if x.resident = 0 then x.queue.drop 1 else x.queue, exec := none })

/-- A command of a stream raises a JOB-class fault with its tag (R169, R170, R201). -/
def cmdFault (p : PartId) (st : StreamId) (desc : Bytes) (code sub detail : Nat) (s : State) : State :=
  let s := traceCmd p st desc .abort code s
  fetchNow p st <| jobFault p { code := code, source := st.val, tag := leAt desc 4 4, sub := sub, detail0 := detail } (dropHead p st s)

-- Partition reset (R46, R47, R459, R467, R611, R632)

/-- The kinds of reset that reach a partition (R459). -/
inductive ResetKind where
  | partition | flr | perst | linkDown
  deriving DecidableEq, Repr

def resetCode : ResetKind → Nat
  | .partition => 0 | .flr => 1 | .perst => 2 | .linkDown => 3

/-- Does the reset come from the port (FLR, PERST_n, link-down)? -/
def portKind (k : ResetKind) : Bool := k != .partition

/-- The host write units of a port of which some TLPs went out and others did not (R156, R632). DEDUCED: notes/assumptions/81.md. -/
def tornUnits (q : Port) : List (Nat × Nat) :=
  let units := q.dmaQ.filterMap (fun r => match r with
    | .write k _ _ u n _ => if k == .mirror || k == .report then none else some (u, n)
    | _ => none)
  let fresh := q.dmaQ.filterMap (fun r => match r with
    | .write _ _ _ u n true => some (u, n)
    | _ => none)
  units.eraseDups.filter (fun u => !fresh.contains u)

/-- Is the request a data write of the partition, or a read for it (R632)? Mirror writes and MSI-X messages are not. -/
def isData : DmaReq → Bool
  | .msix _ => false
  | .write .mirror _ _ _ _ _ => false
  | _ => true

/-- The 32 bytes of record `n` of the ring (R609, R612). -/
def traceBytes (p : PartId) (t : Trace) (n : Nat) (r : TraceRec) : Bytes :=
  let kind := match r.kind with
    | .start => 1 | .end_ => 2 | .abort => 3 | .stage => 4 | .specSend => 5 | .confirm => 6 | .cancel => 7 | .lost => 8 | .mark => 9
  toLe 2 r.opcode ++ toLe 1 (kind + 16 * b2n r.withdrawn + 32 * r.stream) ++
  toLe 1 (p.val + 4 * (if traceRing t = 0 then 1 else if (n / traceRing t) % 2 = 0 then 1 else 0)) ++ toLe 4 r.tag ++ toLe 8 r.dt ++ toLe 2 r.jobId ++
  toLe 2 r.step ++ toLe 8 r.detail ++ toLe 4 r.seq

/-- Write the buffered trace records to the ring, charged to the regulator (R609, R611). -/
def traceDrain (p : PartId) (s : State) : State :=
  let t := (getPart s p).trace
  let s := updPart s p (fun q => { q with trace := { t with buf := [] } })
  t.buf.foldl (fun s r =>
    let t := (getPart s p).trace
    if traceRing t = 0 then s
    else
      let s := hbmWrite (hbmBase s p + t.base + 32 * (t.wr % traceRing t)) (traceBytes p t t.wr r) s
      charge p 0 32 (updPart s p (fun q => { q with trace := { q.trace with wr := wrapAdd 32 q.trace.wr 1 } }))) s

/-- The clusters a partition owns (R80). -/
def clustersOf (s : State) (p : PartId) : List ClusterId := allClusters.filter (fun c => bitOf (partCfg s p).clusterMask c.val)

/-- The RW registers of a partition that a queue-clearing reset returns to their reset values (R429, R611). DEDUCED: notes/assumptions/82.md. -/
def rwResets : List (Nat × Nat) := [(0x00020074, 0), (0x00020078, 0x7D0), (0x0002007C, 0), (0x00020080, 0)]

/-- What a partition keeps through a reset: its models, ring, counters and region when no port caused it (R46). -/
def clearedPart (k : ResetKind) (s : State) (p : PartId) (q : Part) : Part :=
  let regs := if portKind k then [] else q.regs
  let base : Part := {
    epoch := (q.epoch + 1) % 65536
    resetting := true
    ring := if portKind k then {} else q.ring
    models := if portKind k then [] else q.models
    loadSeq := if portKind k then 0 else q.loadSeq
    recordSeq := if portKind k then 0 else q.recordSeq
    -- DET_JOB_NONDET is a counter, and DET_JOB_OUTSIDE stands until the next XFR JOB_BEGIN (R431, R438, R447)
    job := if portKind k then {} else { nondet := q.job.nondet, outside := q.job.outside }
    dl := if portKind k then {} else { q.dl with seq := 0, wait := none, rx := [], decided := false }
    sb := if portKind k then {} else { q.sb with staged := [], newBuf := [], newFilling := false, mirror := [], resolve := [] }
    regs := rwResets.foldl (fun r e => tabSet 0 e.1 e.2 r) regs }
  if portKind k then { base with regul := Vector.ofFn (fun i => { credit := (budget s p i * 4096 : Nat) }) }
  else { base with regul := q.regul }

/-- Does a command of the partition execute, whose HBM writes a reset may cut? -/
def writesHbm (s : State) (p : PartId) : Bool :=
  allStreams.any (fun st => match (getStream s p st).exec with
    | some e => e.phase == .running || e.phase == .done
    | none => false)

/-- The bursts that a reset of the partition cuts: those of the free choice that lie in its region and are not complete.
DESIGN CHOICE: notes/assumptions/92.md. -/
def cutNow (s : State) (p : PartId) : List (Nat × Nat × Nat) :=
  if writesHbm s p then
    (Config.cutBursts s.free).filter (fun x => decide (x.2.2 < x.2.1) && decide (Config.granule * (x.1 + x.2.1) ≤ hbmSize s p))
  else []

/-- A cut burst leaves the granules written before the cut; what stands in the rest of its range is a free value (R47).
DESIGN CHOICE: notes/assumptions/92.md. -/
def cutBurst (p : PartId) (x : Nat × Nat × Nat) (s : State) : State :=
  let (v, s) := takeFree s
  { s with hbm := memWriteN s.hbm (hbmBase s p + Config.granule * (x.1 + x.2.2)) (toLe (Config.granule * (x.2.1 - x.2.2)) v) }

/-- Torn ranges of the region, as offset and length (R47). -/
def cutRanges (l : List (Nat × Nat × Nat)) : List (Nat × Nat) := l.map (fun x => (Config.granule * x.1, Config.granule * x.2.1))

/-- The records of one kind of torn ranges: one each, or FLR_TORN for more than 64 (R459). -/
def tornRecords (code : Nat) (host : Bool) (torn : List (Nat × Nat)) : List ErrRec :=
  let source := if host then 7 else 0xA
  if torn.length > 64 then [{ code := 0x0703, cls := .partition, source := source, sub := b2n host }]
  else torn.map (fun (a, n) =>
    { code := code, cls := .partition, kind := .tornRange, source := source, addr := a, detail0 := n, detail1 := b2n host })

/-- The reset report and the torn ranges that follow it: of the region and of host write units (R459). -/
def resetReport (p : PartId) (k : ResetKind) (code : Nat) (hbm host : List (Nat × Nat)) (s : State) : State :=
  let torn := tornRecords code false hbm ++ tornRecords code true host
  eachOf torn (fun r s => record p r s) (record p {
    code := code, cls := .partition, kind := .resetReport, source := 0xF,
    detail0 := resetCode k + 2 ^ 16 * (getPart s p).epoch, detail1 := torn.length } s)

/-- Reset a partition (R46, R47). `code` is the triggering code of the report, 0 for a request. A reset that overlaps
one in progress raises the epoch no further (R49). DEDUCED: notes/assumptions/81.md. -/
def resetPartition (p : PartId) (k : ResetKind) (code : Nat) (s : State) : State :=
  let again := (getPart s p).resetting
  let cut := if portKind k then [] else cutNow s p
  let s := eachOf cut (fun x s => cutBurst p x s) s
  let s := eachOf allStreams (fun st s => stopStream p code st s) s
  let s := traceDrain p s
  let s := withdraw (fun w => w.part == p && !bitOf w.flags 3) (withdrawRows p s)
  let s := abandonDual p code s
  let s := match (getPart s p).conj with | some c => cancelSpec p c s | none => s
  let s := closeJob p s
  -- the new epoch stands before the notices go out (R467)
  let ep := (getPart s p).epoch
  let s := if again then s else updPart s p (fun q => { q with epoch := (ep + 1) % 65536 })
  let s := epochNotices p s
  let s := eachOf (commsOf s p) (fun h s => setComm h none s) s
  let s := clearSyc p s
  let s := if portKind k then
      { s with hbm := tabClear (hbmBase s p) (hbmBase s p + hbmSize s p) s.hbm
               hbmPoison := tabClear (hbmBase s p / Config.granule) ((hbmBase s p + hbmSize s p) / Config.granule) s.hbmPoison
               hbmErr := tabClear (hbmBase s p / Config.granule) ((hbmBase s p + hbmSize s p) / Config.granule) s.hbmErr }
    else s
  let s := eachOf (clustersOf s p) (fun c s => updCluster s c (fun q => { q with cores := .replicate 8 {} })) s
  -- speculative rows go with their hold entries and are counted (R297, R304)
  let s := countOrphans p s
  let now := (getPart s p).epoch
  let s := updPart { s with sramErr := s.sramErr.filter (fun e => e.1 != p) } p (fun q => { clearedPart k s p q with epoch := now })
  match portOf s p with
  | none => resetReport p k code (cutRanges cut) [] s
  | some h =>
    let q := getPort s h
    let torn := tornUnits q
    let blocks := (q.asm.toList.filter (fun a => a.block.isSome)).length
    let s := updPort s h (fun q => { q with
      asm := .replicate 7 {}
      dmaQ := if portKind k then [] else q.dmaQ.filter (fun r => !isData r)
      reads := q.reads.map (fun r => { r with tgt := .orphan }) })
    -- at an FLR or PERST_n the port's own reset has counted them (R134, R158)
    let s := cntPort 0x00028014 blocks h s
    let s := if portKind k then updPort s h (fun q => { q with
        tornRanges := if torn.length > 64 then 0 else torn.length
        allTorn := decide (torn.length > 64) }) else s
    resetReport p k code (cutRanges cut) torn s

/-- The TD table that the resident models' stored manifests give (R184). -/
def manifestTds (q : Part) : Tab Bytes :=
  (q.models.flatMap (·.tds)).foldl (fun t e => tabSet (List.replicate 32 0) e.1 e.2 t) q.tds

/-- End the reset of a partition: the resident models' TDs are written again, it accepts descriptors, and vector 8 is signalled
(R48, R147, R184). DEDUCED: notes/assumptions/49.md. -/
def partitionReady (p : PartId) (s : State) : State :=
  if !(getPart s p).resetting then s
  else msixPart p 8 (updPart s p (fun q => { q with resetting := false, halted := false, torn := false, tds := manifestTds q }))

/-- Raise a PARTITION-class fault: its record and the reset (R427). -/
def partFault (p : PartId) (r : ErrRec) (s : State) : State :=
  resetPartition p .partition r.code (record p { r with cls := .partition } s)

-- Warm reset (R45, R46, R50, R55)

/-- What a warm reset keeps of a host port: its link, its configuration space and its IDE keys (R46), and its port registers, which
return to their reset values at a reset of the port alone (R158). DEDUCED: notes/assumptions/82.md. -/
def warmPort (q : Port) : Port := { q with
  asm := .replicate 7 {}
  dmaQ := []
  bar4Wait := []
  reads := []
  dmaStopped := false
  resetting := if q.resetting == .perst then .perst else .none
  downWait := false
  rrs := true
  quiet := false
  mapped := false }

/-- Enter WARM_RESET: every domain but AON is reset; bit `cause` of DEV_RESET_CAUSE is set; outside READY the boot retry
count rises, at most to 3 (R46, R50, R55). Ignored where R50 gives no arrow: in COLD_RESET and TRIPPED.
DEDUCED: notes/assumptions/65.md; DEDUCED: notes/assumptions/82.md. -/
def warmReset (cause : Nat) (s : State) : State :=
  if s.boot.state == .coldReset || s.boot.state == .tripped then s
  else
    let b := s.boot
    { State.reset with
      boot := { state := .warmReset, warm := true, cause := maskSet b.cause cause, trip := b.trip,
                retry := if b.state == .ready then b.retry else min (b.retry + 1) 3 }
      pins := { s.pins with groupSyncLow := true, faultLow := false, wakeLow := .replicate 4 false }
      fuses := s.fuses
      flash := s.flash
      ports := Vector.ofFn (fun k => warmPort s.ports[k])
      mgtRing := s.mgtRing
      sec := { logSeq := s.sec.logSeq, logH := s.sec.logH, logBoot := s.sec.logBoot, logSector := s.sec.logSector,
               logFull := s.sec.logFull }
      bist := { standing := s.bist.standing, slots := s.bist.slots, spare := s.bist.spare, runSeq := s.bist.runSeq,
                shutdownSeq := s.bist.shutdownSeq, nextRec := s.bist.nextRec }
      mgt := { smbAddr := s.mgt.smbAddr, events := s.mgt.events, head := s.mgt.head, tail := s.mgt.tail, mp0Irq := s.mgt.mp0Irq }
      regs := tabSet 0 0x01050020 (tabGet 0 s.regs 0x01050020) []
      free := s.free
      out := s.out
      pending := s.pending }

/-- A warm reset for which DEV_RESET_CAUSE names no bit (R66, R523, R584). DEDUCED: notes/assumptions/82.md. -/
def warmPlain (s : State) : State :=
  let t := warmReset 3 s
  { t with boot := { t.boot with cause := s.boot.cause } }

/-- Raise a DEVICE-class fault other than the two that R45 excepts: its record, then a warm reset. -/
def deviceFault (r : ErrRec) (cause : Nat) (s : State) : State := warmReset cause (mgtRecord { r with cls := .device } s)

end Sys2Proof.Machine
end

