-- ==== Sys2Proof/Machine/Operands.lean ====
section
/-!
DEFINITION. Machine/Operands.lean: every operand form of a command: descriptor fields (spec/07 R167, spec/08 R194 to
R197), tensor descriptors and the spaces they name (R180 to R183), the tables of a resident model (spec/08 R229,
spec/09 R251, spec/10 R256, spec/11 R284, spec/02 R32) and the resolution of a clause (R37, R38).
-/
namespace Sys2Proof.Machine
open Sys2Proof

-- Descriptor fields (R167, R194)

def dOp (d : Bytes) : Nat := leAt d 0 2
def dIrq (d : Bytes) : Bool := bitOf (leAt d 2 1) 0
def dWaitCount (d : Bytes) : Nat := leAt d 3 1 % 4
def dTag (d : Bytes) : Nat := leAt d 4 4
def dWait (d : Bytes) (i : Nat) : Nat := leAt d (8 + 4 * i) 4
def dSignal (d : Bytes) : Nat := leAt d 16 8
def d8 (d : Bytes) (o : Nat) : Nat := leAt d o 1
def d16 (d : Bytes) (o : Nat) : Nat := leAt d o 2
def d32 (d : Bytes) (o : Nat) : Nat := leAt d o 4
def d64 (d : Bytes) (o : Nat) : Nat := leAt d o 8

/-- The CT counter `i` of a stream. -/
def ctVal (x : Stream) (i : Nat) : Nat := (x.ct.toList.getD i 0).toNat
def ctSet (x : Stream) (i v : Nat) : Stream :=
  { x with ct := Vector.ofFn (fun j => if j.val = i then BitVec.ofNat 32 v else x.ct[j]) }

/-- A counter-relative value: plus CT[2:0] when the REL byte's EN is set (R196, R197). -/
def relValue (x : Stream) (rel base : Nat) : Nat := if bitOf rel 7 then (base + ctVal x (rel % 8)) % 2 ^ 32 else base

-- Tensor descriptors (R180)

def tdBase (t : Bytes) : Nat := bitsOf (leAt t 0 8) 47 0
def tdSpace (t : Bytes) : Nat := bitsOf (leAt t 0 8) 51 48
def tdType (t : Bytes) : Nat := bitsOf (leAt t 0 8) 55 52
def tdRank (t : Bytes) : Nat := bitsOf (leAt t 0 8) 57 56
def tdValid (t : Bytes) : Bool := bitOf (leAt t 0 8) 63
def tdDim (t : Bytes) (i : Nat) : Nat := leAt t (8 + 2 * i) 2
/-- The byte stride of dimension `i`; dimension 0 is contiguous. -/
def tdStride (t : Bytes) (i : Nat) : Nat := if i = 0 then 0 else leAt t (12 + 4 * i) 4
def tdReadOnly (t : Bytes) : Bool := bitOf (leAt t 28 4) 0

/-- Bytes of an element by DTYPE: BF16, E4M3, E5M2, FP32, INT32, byte. -/
def elemSize (dtype : Nat) : Nat := match dtype with | 0 => 2 | 1 => 1 | 2 => 1 | 3 => 4 | 4 => 4 | _ => 1

/-- The extent of a tensor: one past its last byte (R180). -/
def tdExtent (t : Bytes) : Nat :=
  tdBase t + ((List.range (tdRank t + 1)).drop 1).foldl (fun a i => a + (tdDim t i - 1) * tdStride t i) 0 +
    tdDim t 0 * elemSize (tdType t)

/-- Elements of a tensor. -/
def tdElems (t : Bytes) : Nat := (List.range (tdRank t + 1)).foldl (fun a i => a * tdDim t i) 1

/-- The size of the outermost dimension in use (R183). -/
def tdOuter (t : Bytes) : Nat := tdDim t (tdRank t)

/-- Space-relative byte offset of the k-th row of the outermost dimension. -/
def tdRow (t : Bytes) (k : Nat) : Nat := tdBase t + k * tdStride t (tdRank t)

/-- Offset of element `n` in packed TD order, DIM0 innermost (R226). -/
def tdElemOff (t : Bytes) (n : Nat) : Nat :=
  let d0 := max (tdDim t 0) 1
  let d1 := max (tdDim t 1) 1
  let d2 := max (tdDim t 2) 1
  let i0 := n % d0
  let i1 := if tdRank t ≥ 1 then n / d0 % d1 else 0
  let i2 := if tdRank t ≥ 2 then n / d0 / d1 % d2 else 0
  let i3 := if tdRank t ≥ 3 then n / d0 / d1 / d2 else 0
  tdBase t + i0 * elemSize (tdType t) + i1 * tdStride t 1 + i2 * tdStride t 2 + i3 * tdStride t 3

/-- Bytes of the space in the partition (R180, R234). -/
def spaceSize (s : State) (p : PartId) (space : Nat) : Nat :=
  match space with
  | 0 => hbmSize s p
  | 1 => 2 ^ 20 * (partCfg s p).spoolMib
  | 2 => 2 ^ 20 * (partCfg s p).reelMib
  | 3 => 2 ^ 20
  | _ => 0

/-- The TD table entry of an index. -/
def tdGet (s : State) (p : PartId) (i : Nat) : Bytes := tabGet (List.replicate 32 0) (getPart s p).tds i

/-- The first inconsistent field of a valid TD image, by its byte offset (R180, R181). -/
def tdInvalid (t : Bytes) : Option Nat :=
  if tdSpace t > 3 ∨ tdType t > 5 then some 6
  else match (List.range 4).find? (fun i => if i ≤ tdRank t then tdDim t i == 0 else tdDim t i != 0) with
  | some i => some (8 + 2 * i)
  | none => ((List.range 4).find? (fun i => i ≥ 1 && i > tdRank t && tdStride t i != 0)).map (fun i => 12 + 4 * i)

/-- The faults of a TD image in the order of R181: 0x0103 for a reserved bit, 0x0104 for an invalid field, 0x0105 for an
extent beyond its space. -/
def tdCheck (s : State) (p : PartId) (t : Bytes) : Option Nat :=
  let w := leAt t 0 8
  if bitsOf w 62 58 ≠ 0 ∨ bitsOf (leAt t 28 4) 31 1 ≠ 0 then some 0x0103
  else if !tdValid t then none
  else if (tdInvalid t).isSome then some 0x0104
  else if tdExtent t > spaceSize s p (tdSpace t) then some 0x0105
  else none

-- Reading and writing the spaces

/-- Core `i` of a cluster. -/
def getCore (s : State) (c : ClusterId) (i : Fin 8) : CoreSt := (getCluster s c).cores[i]
def updCore (c : ClusterId) (i : Fin 8) (f : CoreSt → CoreSt) (s : State) : State :=
  updCluster s c (fun q => { q with cores := q.cores.set i (f q.cores[i]) })

/-- Read `n` bytes of SPACE 0, 1 or 2 of a partition. -/
def spaceRead (s : State) (p : PartId) (space off n : Nat) : Bytes :=
  match space with
  | 0 => hbmRead s (hbmBase s p + off) n
  | 1 => memReadN (getPart s p).spool off n
  | 2 => memReadN (getPart s p).reel off n
  | _ => List.replicate n 0

/-- Does a read of the range meet a poison mark? -/
def spacePoisoned (s : State) (p : PartId) (space off n : Nat) : Bool :=
  match space with
  | 0 => (granules (hbmBase s p + off) n).any (granBad s)
  | 1 => rangePoisoned (getPart s p).spoolPoison off n || (granules off n).any (fun g => s.sramErr.contains (p, .spool g))
  | 2 => rangePoisoned (getPart s p).reelPoison off n || (granules off n).any (fun g => s.sramErr.contains (p, .reel g))
  | _ => false

/-- Write bytes to SPACE 0, 1 or 2; HBM accesses are charged to the partition's regulator (R415). -/
def spaceWrite (p : PartId) (space off : Nat) (b : Bytes) (s : State) : State :=
  match space with
  | 0 => charge p 0 b.length (hbmWrite (hbmBase s p + off) b s)
  | 1 => updPart s p (fun q => { q with spool := memWriteN q.spool off b, spoolPoison := clearWhole off b.length q.spoolPoison })
  | 2 => updPart s p (fun q => { q with reel := memWriteN q.reel off b, reelPoison := clearWhole off b.length q.reelPoison })
  | _ => s

/-- Mark the granules of a range poisoned. -/
def spaceMark (p : PartId) (space off n : Nat) (s : State) : State :=
  match space with
  | 0 =>
    let fresh := (granules (hbmBase s p + off) n).filter (fun g => !tabGet false s.hbmPoison g)
    cntPart 0x00060044 fresh.length p { s with hbmPoison := markRange (hbmBase s p + off) n s.hbmPoison }
  | 1 => updPart s p (fun q => { q with spoolPoison := markRange off n q.spoolPoison })
  | 2 => updPart s p (fun q => { q with reelPoison := markRange off n q.reelPoison })
  | _ => s

/-- Read a 32-bit little-endian word of a space. -/
def spaceWord (s : State) (p : PartId) (space off : Nat) : Nat := leNat (spaceRead s p space off 4)

/-- Entry `k` of an index tensor or of an FP32 vector: its outermost-dimension element in packed order. -/
def tdWord (s : State) (p : PartId) (t : Bytes) (k : Nat) : Nat := spaceWord s p (tdSpace t) (tdElemOff t k)

-- Resident models (R229, R231)

def modelOf (q : Part) (handle : Nat) : Option Model := if handle = 0 then none else q.models.find? (fun m => m.handle == handle)
/-- The model of the partition's open job. DEDUCED: notes/assumptions/39.md. -/
def jobModel (q : Part) : Option Model := modelOf q q.job.model
def sectionOf (m : Model) (kind : Nat) : Option Section := m.sections.find? (fun x => x.kind == kind)
def secOff (m : Model) (kind : Nat) : Nat := ((sectionOf m kind).map (·.offset)).getD 0
def secLen (m : Model) (kind : Nat) : Nat := ((sectionOf m kind).map (·.length)).getD 0
/-- Bytes of a section at a section-relative offset. -/
def secRead (s : State) (p : PartId) (m : Model) (kind off n : Nat) : Bytes := spaceRead s p 0 (secOff m kind + off) n
/-- Models resident on the device, all partitions (R424). -/
def residentModels (s : State) : Nat := (s.parts.toList.map (fun q => q.models.length)).foldl (· + ·) 0
/-- Row bytes of a model: 2 × DMODEL. -/
def rowBytes (m : Model) : Nat := 2 * m.dmodel

/-- Router entry of a layer (R257). -/
structure RouterLayer where
  mode : Nat := 0
  func : Nat := 0
  norm : Bool := false
  bias : Bool := false
  drop : Bool := false
  capacity : Nat := 0
  scale : Nat := 0
  home : Nat := 0
  gate : Nat := 0
  biasOff : Nat := 0
  deriving DecidableEq, Repr

def routerLayer (s : State) (p : PartId) (m : Model) (layer : Nat) : RouterLayer :=
  let e := secRead s p m 1 (64 + 64 * layer) 64
  let cap := leAt e 4 2
  { mode := leAt e 0 1, func := leAt e 1 1, norm := bitOf (leAt e 2 1) 0, bias := bitOf (leAt e 2 1) 1,
    drop := bitOf (leAt e 2 1) 2, capacity := if cap = 0 then m.capacityTc else cap, scale := leAt e 8 4,
    home := leAt e 12 4, gate := leAt e 16 8, biasOff := leAt e 24 8 }

/-- The size of the backing region by R319. -/
def backingFor (slots d h : Nat) : Nat :=
  2 ^ 21 * ((slots * (2 * d + 64 + 4 * d + 64 + h * 2 * d) + 2 ^ 30 + 2 ^ 21 - 1) / 2 ^ 21)

/-- Has a resident model an expert-choice layer? -/
def hasEc (s : State) (p : PartId) (m : Model) : Bool := (List.range m.layers).any (fun l => (routerLayer s p m l).mode == 1)

/-- The backing region for a list of resident models. -/
def backingSize (s : State) (p : PartId) (ms : List Model) : Nat :=
  if ms.isEmpty then 0
  else backingFor (partCfg s p).tokenSlots ((ms.map (·.dmodel)).foldl max 0)
    (if ms.any (hasEc s p) then 15 else (ms.map (·.topk)).foldl max 0 - 1)

/-- First region offset of the backing region in force (R319). -/
def backingBase (s : State) (p : PartId) : Nat := hbmSize s p - backingSize s p (getPart s p).models

/-- The tensor lies outside the backing region when it is in SPACE 0 (R320). -/
def tdUsable (s : State) (p : PartId) (t : Bytes) : Bool :=
  tdSpace t != 0 || decide (tdExtent t ≤ backingBase s p)

-- Placement and resolution (R32, R37, R38)

/-- The valid replicas of a placement map's entry (R32). -/
def entryReplicas (b : Bytes) : List (DevId × Nat) :=
  (List.range 4).filterMap (fun i => let w := leAt b (4 * i) 4; if bitOf w 17 then some (bitsOf w 13 0, bitsOf w 16 14) else none)

/-- The replicas of an expert under the placement in force (R32, R37); a map enters service only through a commit (R34). -/
def replicas (s : State) (p : PartId) (m : Model) (layer expert : Nat) : List (DevId × Nat) :=
  match (tabGet {} m.maps layer).offset with
  | none => []
  | some off => entryReplicas (spaceRead s p 0 (off + 16 * expert) 16)

/-- Is a cluster of a device in service in this device's view (R38, R508, R509)? DEDUCED: notes/assumptions/41.md. -/
def clusterServes (s : State) (d : DevId) (c : Nat) : Bool :=
  if d = ownId s then (match s.clusters.toList[c]? with | some q => q.state == .on && !q.disabled && !q.waking | none => false)
  else bitOf (getPeer s d).inService c

/-- Is a replica eligible (R38)? -/
def eligible (s : State) (d : DevId) (c : Nat) : Bool := (d == ownId s || !(getPeer s d).unreachable) && clusterServes s d c

/-- The region offset of the granule in which the placement map's entry of an expert is poisoned: control data (R451). -/
def mapPoison (s : State) (p : PartId) (m : Model) (layer expert : Nat) : Option Nat :=
  match (tabGet {} m.maps layer).offset with
  | none => none
  | some off =>
    ((granules (hbmBase s p + off + 16 * expert) 16).find? (granBad s)).map (fun g => g * Config.granule - hbmBase s p)

/-- The replica a clause resolves to: nearest tier, then position (SRC_DEV + SLOT) mod n; none is the home expert
(R38, R39). Devices in `excl` are left out (R314, R468). -/
def resolve (s : State) (p : PartId) (m : Model) (layer expert slot : Nat) (excl : List DevId) : Option (DevId × Nat) :=
  let rs := (replicas s p m layer expert).filter (fun (d, c) => eligible s d c && !excl.contains d)
  let own := rs.filter (fun e => e.1 == ownId s)
  let grp := rs.filter (fun e => sameGroup s e.1)
  let tier := if !own.isEmpty then own else if !grp.isEmpty then grp else rs
  if tier.isEmpty then none else tier[(ownId s + slot) % tier.length]?

/-- Token slots of a partition. -/
def getSlot (s : State) (p : PartId) (i : Nat) : Slot := tabGet {} (getPart s p).slots i
def updSlot (p : PartId) (i : Nat) (f : Slot → Slot) (s : State) : State :=
  updPart s p (fun q => { q with slots := tabUpd {} i f q.slots })

/-- Sync counter `i` of a partition, relative to SYC_BASE (R171). -/
def sycGet (s : State) (p : PartId) (i : Nat) : Nat := tabGet 0 s.syc ((partCfg s p).sycBase + i)
def sycSetAt (p : PartId) (i v : Nat) (s : State) : State :=
  { s with syc := tabSet 0 ((partCfg s p).sycBase + i) (v % 2 ^ 32) s.syc }

end Sys2Proof.Machine
end

