-- ==== Sys2Proof/Machine/Sha.lean ====
section
/-!
DEFINITION. Machine/Sha.lean: SHA-256 (spec/17 R429, R432) and SHA-384 (spec/04 R72, spec/21 R546) over byte strings,
as FIPS 180-4 defines them (PRESUMED: the spec names the functions; notes/assumptions/4.md).
-/
namespace Sys2Proof.Machine
open Sys2Proof

/-- The first 80 primes: no number below 21 other than itself divides one, and 409 is the last. -/
def shaPrimes : List Nat :=
  (List.range 410).filter (fun n => decide (2 ≤ n) && (List.range 21).all (fun d => decide (d < 2) || n % d != 0 || n == d))

/-- The integer `k`-th root of `v`, bit by bit from bit `i` down, above the part `r` found so far. -/
def rootBits (k v : Nat) : Nat → Nat → Nat
  | 0, r => r
  | i + 1, r => rootBits k v i (if (r + 2 ^ i) ^ k ≤ v then r + 2 ^ i else r)

/-- The first `w` bits of the fraction of the `k`-th root of `p`, for `p` below 512. -/
def rootFraction (w k p : Nat) : BitVec w := BitVec.ofNat w (rootBits k (p * 2 ^ (k * w)) (w + 5) 0)

/-- The `n` round constants of a hash of `w`-bit words: the cube roots of the first primes. -/
def shaConsts (w n : Nat) : List (BitVec w) := (shaPrimes.take n).map (rootFraction w 3)

/-- The initial value: the square roots of eight primes, after the first `skip`. -/
def shaStart (w skip : Nat) : List (BitVec w) := ((shaPrimes.drop skip).take 8).map (rootFraction w 2)

/-- The XOR of a word rotated right by each amount, and of the word shifted right where a shift is given. -/
def shaMix {w : Nat} (rots : List Nat) (shift : Option Nat) (x : BitVec w) : BitVec w :=
  rots.foldl (fun a n => a ^^^ x.rotateRight n) (match shift with | some n => x >>> n | none => 0)

/-- The bytes of a word, most significant first. -/
def beBytes (w n : Nat) : Bytes := (toLe n w).reverse

/-- The padded message: bit 1, zeros, and the length in bits in `lenBytes` bytes, a multiple of `block` bytes. -/
def shaPad (block lenBytes : Nat) (m : Bytes) : Bytes :=
  let used := m.length + 1 + lenBytes
  let zeros := (block - used % block) % block
  m ++ [0x80] ++ List.replicate zeros 0 ++ beBytes (8 * m.length) lenBytes

/-- The words of a block. -/
def beWords {w : Nat} (n : Nat) : Nat → Bytes → List (BitVec w)
  | 0, _ => []
  | fuel + 1, b => if b.isEmpty then [] else BitVec.ofNat w (leNat (b.take n).reverse) :: beWords n fuel (b.drop n)

/-- Extend the schedule, newest word first, by `fuel` words. -/
def shaSched {w : Nat} (s0 s1 : BitVec w → BitVec w) : Nat → List (BitVec w) → List (BitVec w)
  | 0, x => x
  | fuel + 1, x =>
    shaSched s0 s1 fuel ((s1 (x.getD 1 0) + x.getD 6 0 + s0 (x.getD 14 0) + x.getD 15 0) :: x)

/-- One round. -/
def shaRound {w : Nat} (S0 S1 : BitVec w → BitVec w) (v : List (BitVec w)) (kw : BitVec w × BitVec w) : List (BitVec w) :=
  let a := v.getD 0 0
  let b := v.getD 1 0
  let c := v.getD 2 0
  let e := v.getD 4 0
  let t1 := v.getD 7 0 + S1 e + ((e &&& v.getD 5 0) ^^^ (~~~e &&& v.getD 6 0)) + kw.1 + kw.2
  let t2 := S0 a + ((a &&& b) ^^^ (a &&& c) ^^^ (b &&& c))
  [t1 + t2, a, b, c, v.getD 3 0 + t1, e, v.getD 5 0, v.getD 6 0]

/-- One block. -/
def shaBlock {w : Nat} (K : List (BitVec w)) (n : Nat) (s0 s1 S0 S1 : BitVec w → BitVec w) (h : List (BitVec w)) (b : Bytes) :
    List (BitVec w) :=
  let ws := (shaSched s0 s1 (K.length - 16) (beWords n 17 b).reverse).reverse
  List.zipWith (· + ·) h ((K.zip ws).foldl (shaRound S0 S1) h)

/-- All blocks. -/
def shaBlocks {w : Nat} (K : List (BitVec w)) (n : Nat) (s0 s1 S0 S1 : BitVec w → BitVec w) :
    Nat → List (BitVec w) → Bytes → List (BitVec w)
  | 0, h, _ => h
  | fuel + 1, h, b =>
    if b.isEmpty then h
    else shaBlocks K n s0 s1 S0 S1 fuel (shaBlock K n s0 s1 S0 S1 h (b.take (16 * n))) (b.drop (16 * n))

/-- SHA-256: 32 bytes. PRESUMED: notes/assumptions/4.md. -/
def sha256 (m : Bytes) : Bytes :=
  let p := shaPad 64 8 m
  let h := shaBlocks (shaConsts 32 64) 4 (shaMix [7, 18] (some 3)) (shaMix [17, 19] (some 10)) (shaMix [2, 13, 22] none)
    (shaMix [6, 11, 25] none) (p.length + 1) (shaStart 32 0) p
  (h.map (fun x => beBytes x.toNat 4)).flatten

/-- SHA-384: 48 bytes. PRESUMED: notes/assumptions/4.md. -/
def sha384 (m : Bytes) : Bytes :=
  let p := shaPad 128 16 m
  let h := shaBlocks (shaConsts 64 80) 8 (shaMix [1, 8] (some 7)) (shaMix [19, 61] (some 6)) (shaMix [28, 34, 39] none)
    (shaMix [14, 18, 41] none) (p.length + 1) (shaStart 64 8) p
  ((h.take 6).map (fun x => beBytes x.toNat 8)).flatten

end Sys2Proof.Machine
end

