-- ==== Sys2Proof/Machine/Ecdsa.lean ====
section
/-!
DEFINITION. Machine/Ecdsa.lean: ECDSA P-384 signature verification (spec/04 R72, spec/21 R519) as FIPS 186-5 defines it over
the curve P-384 of SP 800-186 (PRESUMED: the spec names both and defines neither; notes/assumptions/87.md).
-/
namespace Sys2Proof.Machine
open Sys2Proof

/-- The prime of the field of P-384. -/
def p384P : Nat := 2 ^ 384 - 2 ^ 128 - 2 ^ 96 + 2 ^ 32 - 1

/-- The coefficient b of P-384; the coefficient a is -3. -/
def p384B : Nat := 0xb3312fa7e23ee7e4988e056be3f82d19181d9c6efe8141120314088f5013875ac656398d8a2ed19d2a85c8edd3ec2aef

/-- The order of the base point. -/
def p384N : Nat := 0xffffffffffffffffffffffffffffffffffffffffffffffffc7634d81f4372ddf581a0db248b0a77aecec196accc52973

/-- The base point. -/
def p384G : Nat × Nat :=
  (0xaa87ca22be8b05378eb1c71ef320ad746e1d3b628ba79b9859f741e082542a385502f25dbf55296c3a545e3872760ab7,
   0x3617de4a96262c6f5d9e98bf9292dc29f8f41dbd289a147ce9da3113b5f0b8c00a60b1ce1d7e819d7a431d7c90ea0e5f)

/-- `a` to the power `e` modulo `m`, over the low `k` bits of `e`. -/
def powMod (m : Nat) : Nat → Nat → Nat → Nat
  | 0, _, _ => 1
  | k + 1, a, e => (if e % 2 = 1 then a else 1) * powMod m k (a * a % m) (e / 2) % m

/-- The inverse modulo a prime of at most 384 bits. -/
def invMod (m a : Nat) : Nat := powMod m 384 (a % m) (m - 2)

/-- The difference modulo the field's prime. -/
def subP (a b : Nat) : Nat := (a + (p384P - b % p384P)) % p384P

/-- Is the pair a point of the curve? -/
def onP384 (q : Nat × Nat) : Bool :=
  decide (q.1 < p384P) && decide (q.2 < p384P) && (q.2 * q.2 % p384P == subP (q.1 * q.1 * q.1 + p384B) (3 * q.1))

/-- The third point of a chord or tangent of slope `l`, reflected. -/
def chord (l : Nat) (a b : Nat × Nat) : Nat × Nat :=
  let x := subP (subP (l * l) a.1) b.1
  (x, subP (l * subP a.1 x) a.2)

/-- The sum of two points; none is the point at infinity. -/
def addP : Option (Nat × Nat) → Option (Nat × Nat) → Option (Nat × Nat)
  | none, b => b
  | a, none => a
  | some a, some b =>
    if a.1 = b.1 then
      if a.2 = b.2 ∧ a.2 ≠ 0 then some (chord ((3 * a.1 * a.1 + (p384P - 3)) * invMod p384P (2 * a.2) % p384P) a a) else none
    else some (chord (subP b.2 a.2 * invMod p384P (subP b.1 a.1) % p384P) a b)

/-- The multiple of a point by the low `k` bits of `e`. -/
def mulP : Nat → Nat → Option (Nat × Nat) → Option (Nat × Nat)
  | 0, _, _ => none
  | k + 1, e, q => addP (if e % 2 = 1 then q else none) (mulP k (e / 2) (addP q q))

/-- A number of bytes stored most significant first. -/
def beNat (b : Bytes) : Nat := leNat b.reverse

/-- Does a signature, r then s, over a SHA-384 digest verify under a public key, x then y, each number most significant byte
first (R72, R519)? PRESUMED: notes/assumptions/87.md. -/
def verifySig (key digest sig : Bytes) : Bool :=
  let q := (beNat (bytesAt key 0 48), beNat (bytesAt key 48 48))
  let r := beNat (bytesAt sig 0 48)
  let t := beNat (bytesAt sig 48 48)
  let ok := onP384 q && decide (0 < r) && decide (r < p384N) && decide (0 < t) && decide (t < p384N)
  let w := invMod p384N t
  let u := beNat (bytesAt digest 0 48) * w % p384N
  let v := r * w % p384N
  ok && match addP (mulP 384 u (some p384G)) (mulP 384 v (some q)) with
    | some z => z.1 % p384N == r
    | none => false

end Sys2Proof.Machine
end

