-- ==== Sys2Proof/Machine/Image.lean ====
section
/-!
DEFINITION. Machine/Image.lean: the Ecano image (spec/04): the header checks of R73, the record checks of R74 to R91, and
the configuration that a verified image gives.
-/
namespace Sys2Proof.Machine
open Sys2Proof

/-- A check of one field: whether it holds, the field's offset in its record, and the RESULT of a failure (R91). -/
abbrev Check := Bool × Nat × Nat

/-- The first check that fails: RESULT and offset. -/
def firstBad (cs : List Check) : Option (Nat × Nat) :=
  (cs.find? (fun c => !c.1)).map (fun c => (c.2.2, c.2.1))

/-- A value check of the field at body offset `o`; offsets count the 8-byte record header (R97). -/
def ckVal (ok : Bool) (o : Nat) : Check := (ok, o + 8, 0xB)
/-- A structure check of the field at body offset `o`. -/
def ckStr (ok : Bool) (o : Nat) : Check := (ok, o + 8, 0xA)
/-- `n` reserved bytes at body offset `o`. -/
def ckZero (b : Bytes) (o n : Nat) : Check := ckStr (allZero (bytesAt b o n)) o

-- Reading a bank

/-- First flash address of a bank (R69). -/
def bankBase (bankB : Bool) : Nat := if bankB then 0x06000000 else 0
/-- `n` image bytes at an image offset. -/
def imgRead (f : Memory) (bankB : Bool) (o n : Nat) : Bytes := flashReadN f (bankBase bankB + o) n

/-- The header checks of R73, in order: the RESULT, 0 when all hold. -/
def headerResult (s : State) (f : Memory) (bankB : Bool) : Nat :=
  let h := imgRead f bankB 0 512
  let l := leAt h 0x10 4
  if s.img.flashDensityMib < 0x800 ∨ !s.img.sfdpOk then 0x5
  else if leAt h 0 4 = 0xFFFFFFFF then 0x3
  else if leAt h 0 4 ≠ 0x4E414345 ∨ leAt h 4 2 ≠ 1 ∨ leAt h 6 2 ≠ 0x200 ∨ leAt h 0x18 2 ≠ 0x7016 ∨ leAt h 0x14 2 = 0 ∨
      leAt h 0x14 2 > 64 ∨ !allZero (bytesAt h 0x1A 102) ∨ !allZero (bytesAt h 0x140 192) then 0x4
  else if l < 0x20000 ∨ l > 0x6000000 ∨ l % 4096 ≠ 0 then 0x5
  else if leAt h 8 8 = 0 ∨ leAt h 8 8 > 0xFFFFFFFFFFFFFFFE then 0x6
  else if leAt h 0x16 2 < s.fuses.floor then 0x7
  else if sha384 (bytesAt h 0x80 96) ≠ s.fuses.ownerHash then 0x8
  else 0

/-- SEQ of a bank's header. -/
def bankSeq (f : Memory) (bankB : Bool) : Nat := leAt (imgRead f bankB 8 8) 0 8

/-- The image digest of R72: SIGNATURE taken as zero. -/
def imageDigest (f : Memory) (bankB : Bool) : Bytes :=
  let l := leAt (imgRead f bankB 0x10 4) 0 4
  sha384 (imgRead f bankB 0 0xE0 ++ List.replicate 96 0 ++ imgRead f bankB 0x140 (l - 0x140))

/-- A record of the image (R74): index, TYPE, LENGTH, body. -/
structure ImgRec where
  idx : Nat := 0
  type : Nat := 0
  off : Nat := 0
  len : Nat := 0
  body : Bytes := []
  deriving DecidableEq, Repr

/-- LENGTH of a record of a type, for a given body (R75). -/
def recLength (type : Nat) (body : Bytes) : Nat :=
  match type with
  | 0x1 => 64 | 0x2 => 16 | 0x3 => 24 | 0x4 => 264 | 0x5 => 40 | 0x6 => 48 | 0x7 => 16
  | 0x8 => 16 + 48 * leAt body 2 1 + 4 * leAt body 0 2 + 4 * (leAt body 0 2 % 2)
  | 0x9 => 24 | 0xA => 16 | 0xB => 72 | 0xC => 16 | 0xD => 16 | 0xE => 40 | _ => 72

/-- The records in order up to the first whose header breaks R74 or R76, with that failure; and the end of the last
record read. `fuel` is the number of records left. A known record with IGNORABLE 1 fails with RESULT 0xA at its FLAGS, and FLAGS
and LENGTH are checked before TYPE and VERSION. DESIGN CHOICE: notes/assumptions/89.md. -/
def scanRecords (f : Memory) (bankB : Bool) (l : Nat) : Nat → Nat → Nat → List ImgRec → List ImgRec × Option BankStatus × Nat
  | 0, _, off, acc => (acc.reverse, none, off)
  | fuel + 1, idx, off, acc =>
    let h := imgRead f bankB off 8
    let type := leAt h 0 2
    let ver := leAt h 2 1
    let flags := leAt h 3 1
    let len := leAt h 4 4
    let bad (o : Nat) : List ImgRec × Option BankStatus × Nat :=
      (acc.reverse, some { result := 0xA, record := idx, fieldOffset := o }, off)
    if flags > 1 then bad 3
    else if len % 8 ≠ 0 ∨ len < 8 ∨ off + len > l then bad 4
    else
      let known := 1 ≤ type ∧ type ≤ 0xF ∧ ver = 1
      let ign := bitOf flags 0
      if decide known && ign then bad 3
      else if !decide known && !ign then bad (if 1 ≤ type ∧ type ≤ 0xF then 2 else 0)
      else if !decide known then scanRecords f bankB l fuel (idx + 1) (off + len) acc
      else
        let body := imgRead f bankB (off + 8) (len - 8)
        if len ≠ recLength type body then bad 4
        else if type ≠ 0xF ∧ acc.any (fun r => r.type == type) then bad 0
        else scanRecords f bankB l fuel (idx + 1) (off + len)
          ({ idx := idx, type := type, off := off, len := len, body := body } :: acc)

-- Bodies (R77 to R90)

def parsePower (c : ClockCfg) (b : Bytes) : ClockCfg := { c with
  boardPowerW := leAt b 0 2
  cooling := leAt b 2 1
  throttleTjC := leAt b 3 1
  avsAddr := (List.range 4).map (fun i => leAt b (4 + i) 1) }

/-- POWER (R79). A wrong byte of AVS_ADDR is reported at the field's offset (R97). -/
def powerChecks (b : Bytes) : List Check :=
  [ ckVal (500 ≤ leAt b 0 2 ∧ leAt b 0 2 ≤ 850) 0, ckVal (leAt b 2 1 ≤ 3) 2,
    ckVal (85 ≤ leAt b 3 1 ∧ leAt b 3 1 ≤ 105) 3, ckVal (leAt b 4 1 ≤ 15) 4 ] ++
  ([1, 2, 3].map (fun i => ckVal (leAt b (4 + i) 1 ≤ 15 ∨ leAt b (4 + i) 1 = 0xFF) 4)) ++ [ckZero b 8 8]

/-- An entry of PARTITIONS (R80). -/
def parsePart (b : Bytes) : PartCfg :=
  let f := leAt b 2 1
  { clusterMask := leAt b 0 1, urgentMask := leAt b 1 1, defined := bitOf f 0, updraftEn := bitOf f 1, bar4En := bitOf f 2,
    hbmBase := leAt b 4 2, hbmUnits := leAt b 6 2, spoolMib := leAt b 8 1, reelMib := leAt b 9 1, sycBase := leAt b 12 2,
    sycCount := leAt b 14 2, tokenSlots := leAt b 16 4, updClauses := leAt b 20 2, regHbm := leAt b 24 4,
    regBridle := leAt b 28 4, regTether := leAt b 32 4, regHostDma := leAt b 36 4, weight := leAt b 40 2 }

def parseParts (b : Bytes) : Vector PartCfg 4 := Vector.ofFn (fun i => parsePart (bytesAt b (64 * i.val) 64))

/-- Do two ranges meet? -/
def overlaps (a n c m : Nat) : Bool := decide (a < c + m) && decide (c < a + n)

/-- The offset in an entry of PARTITIONS of the field that a byte belongs to (R80). -/
def partField (i : Nat) : Nat :=
  ([1, 2, 3, 4, 6, 8, 9, 10, 12, 14, 16, 20, 22, 24, 28, 32, 36, 40, 42].filter (· ≤ i)).foldl max 0

/-- PARTITIONS (R80): entry by entry, field by field; combinations fail at the later entry. An entry that is not DEFINED and not
all zero fails as a value at its first nonzero field, a reserved one too, and a record without a DEFINED entry fails at the FLAGS
of P0. DESIGN CHOICE: notes/assumptions/89.md. -/
def partChecks (b : Bytes) : List Check :=
  let es := (parseParts b).toList
  let sum (i : Nat) (g : PartCfg → Nat) : Nat := (es.take (i + 1)).foldl (fun a e => a + (if e.defined then g e else 0)) 0
  ((List.range 4).map (fun i =>
    let e := es.getD i {}
    let o := 64 * i
    let prev := (es.take i).filter (·.defined)
    if !e.defined then
      let z := bytesAt b o 64
      [ckVal (allZero z) (o + partField ((z.findIdx? (· != 0)).getD 0))]
    else
      [ ckVal (e.clusterMask ≠ 0 ∧ prev.all (fun q => q.clusterMask &&& e.clusterMask == 0)) o,
        ckVal (e.urgentMask &&& e.clusterMask = e.urgentMask) (o + 1), ckVal (leAt b (o + 2) 1 < 8) (o + 2),
        ckZero b (o + 3) 1,
        ckVal (e.hbmBase + e.hbmUnits ≤ 784 ∧ prev.all (fun q => !overlaps q.hbmBase q.hbmUnits e.hbmBase e.hbmUnits)) (o + 4),
        ckVal (e.hbmUnits ≥ 1) (o + 6),
        ckVal (e.spoolMib ≥ 1 ∧ sum i (·.spoolMib) ≤ 64) (o + 8), ckVal (e.reelMib ≥ 1 ∧ sum i (·.reelMib) ≤ 32) (o + 9),
        ckZero b (o + 10) 2,
        ckVal (e.sycBase + e.sycCount ≤ Config.sycTotal ∧ prev.all (fun q => !overlaps q.sycBase q.sycCount e.sycBase e.sycCount)) (o + 12),
        ckVal (e.sycCount ≥ 1) (o + 14), ckVal (e.tokenSlots ≥ 1 ∧ sum i (·.tokenSlots) ≤ 65536) (o + 16),
        ckVal ((e.updraftEn ∨ e.updClauses = 0) ∧ sum i (·.updClauses) ≤ 8192) (o + 20), ckZero b (o + 22) 2,
        ckVal (1 ≤ e.weight ∧ e.weight ≤ 1000) (o + 40), ckZero b (o + 42) 22 ])).flatten ++
  [ckVal (es.any (·.defined)) 2]

def parseLink (b : Bytes) : LinkCfg :=
  { brlEnable := leAt b 0 2, brlCrypt := leAt b 2 1 == 1, tthMode := (List.range 8).map (fun i => leAt b (4 + i) 1),
    brlPolarity := (List.range 16).map (fun i => leAt b (12 + i) 1), brlLaneRev := leAt b 28 2,
    tthPolarity := (List.range 8).map (fun i => leAt b (32 + i) 1) }

/-- LINK_MAP (R82). A wrong byte of TTH_MODE is reported at the field's offset (R97). -/
def linkChecks (b : Bytes) : List Check :=
  [ckVal (leAt b 2 1 ≤ 1) 2, ckZero b 3 1] ++ (List.range 8).map (fun i => ckVal (leAt b (4 + i) 1 ≤ 3) 4) ++ [ckZero b 30 2]

def parseDet (b : Bytes) : Vector DetCfg 4 :=
  Vector.ofFn (fun i => { stillAirDefault := bitOf (leAt b i.val 1) 0, digestDefault := bitOf (leAt b i.val 1) 1 })

/-- DETERMINISM (R90). -/
def detChecks (b : Bytes) : List Check :=
  (List.range 4).map (fun i => ckVal (leAt b i 1 < 4) i) ++ [ckZero b 4 4]

/-- The value of a TIMEOUTS field: 0 selects the default (R90). -/
def tmoVal (b : Bytes) (o dflt : Nat) : Nat := if leAt b o 4 = 0 then dflt else leAt b o 4
def tmoCheck (b : Bytes) (o lo hi : Nat) : Check := ckVal (leAt b o 4 = 0 ∨ (lo ≤ leAt b o 4 ∧ leAt b o 4 ≤ hi)) o

def parseTmo (b : Bytes) : TimeoutCfg :=
  { alignMs := tmoVal b 0 50, linkTrainMs := tmoVal b 4 100, timeSyncMs := tmoVal b 8 20, dmaCtoMs := tmoVal b 12 50,
    sycWaitMs := tmoVal b 16 1000, tthRetxMs := tmoVal b 20 22, watchdogMs := tmoVal b 24 100, snapshotUs := tmoVal b 28 1000 }

/-- An address field of a plane entry: IPv4 in the first four of its 16 bytes, most significant first, or IPv6 (R84). -/
def planeAddr (ver : Nat) (b : Bytes) (o : Nat) : Nat := if ver = 4 then beAt b o 4 else beAt b o 16

def parsePlane (b : Bytes) : PlaneCfg :=
  let v := leAt b 1 1
  { plane := leAt b 0 1, ipver := v, udpPort := if leAt b 2 2 = 0 then 50716 else leAt b 2 2, dscp := leAt b 4 1,
    prefixLen := leAt b 5 1, vlan := leAt b 6 2, baseAddr := planeAddr v b 8, gateway := planeAddr v b 24 }

def parseTopo (b : Bytes) : TopoCfg :=
  let n := leAt b 2 1
  { groupCount := leAt b 0 2, ptpEn := bitOf (leAt b 3 1) 0,
    planes := (List.range n).map (fun i => parsePlane (bytesAt b (8 + 48 * i) 48)),
    masks := (List.range (leAt b 0 2)).map (fun g => leAt b (8 + 48 * n + 4 * g) 4) }

/-- TOPOLOGY (R84, R85). -/
def topoChecks (b : Bytes) : List Check :=
  let n := leAt b 2 1
  let g := leAt b 0 2
  [ckVal (1 ≤ g ∧ g ≤ 1024) 0, ckVal (n ≤ 32) 2, ckVal (leAt b 3 1 ≤ 1) 3, ckZero b 4 4] ++
  ((List.range n).map (fun i =>
    let o := 8 + 48 * i
    let e := bytesAt b o 48
    let p := parsePlane e
    let v4 := p.ipver = 4
    let width := if v4 then 32 else 128
    let span := 2 ^ (width - p.prefixLen)
    let first := p.baseAddr / span * span
    let last := first + span - 1
    let top := p.baseAddr + 16 * g - 1
    [ ckVal (p.plane ≤ 31 ∧ (List.range i).all (fun j => leAt b (8 + 48 * j) 1 != p.plane)) o,
      ckVal (p.ipver = 4 ∨ p.ipver = 6) (o + 1), ckVal (leAt e 2 2 = 0 ∨ leAt e 2 2 ≥ 1024) (o + 2), ckVal (p.dscp ≤ 63) (o + 4),
      ckVal (if v4 then 8 ≤ p.prefixLen ∧ p.prefixLen ≤ 30 else 16 ≤ p.prefixLen ∧ p.prefixLen ≤ 126) (o + 5),
      ckVal (p.vlan ≤ 4094) (o + 6),
      ckVal ((!v4 || allZero (bytesAt e 12 12)) && decide (first < p.baseAddr ∧ top < last)) (o + 8),
      ckVal ((!v4 || allZero (bytesAt e 28 12)) && decide (first ≤ p.gateway ∧ p.gateway ≤ last ∧
        (p.gateway < p.baseAddr ∨ top < p.gateway))) (o + 24),
      ckZero e 40 8 |> (fun c => (c.1, c.2.1 + o, c.2.2)) ])).flatten ++
  (if g % 2 = 1 then [ckZero b (8 + 48 * n + 4 * g) 4] else [])

def parseComp (b : Bytes) (garku : Bool) : CompCfg :=
  if garku then { kind := 0, offset := leAt b 0 4, size := leAt b 4 4, entry := leAt b 8 4, build := leAt b 12 4, digest := bytesAt b 16 48 }
  else { kind := leAt b 0 1, offset := leAt b 4 4, size := leAt b 8 4, digest := bytesAt b 16 48 }

/-- The components named by GARKU and COMPONENT records, in record order. -/
def compsOf (rs : List ImgRec) : List CompCfg :=
  (rs.filter (fun r => r.type == 0xB || r.type == 0xF)).map (fun r => parseComp r.body (r.type == 0xB))

/-- The component's place (R74): aligned, beyond the records, within L, clear of every earlier component. -/
def compPlace (c : CompCfg) (prev : List CompCfg) (recEnd l o : Nat) : List Check :=
  [ckStr (c.offset % 4096 = 0 ∧ recEnd ≤ c.offset ∧ c.offset + c.size ≤ l ∧
    prev.all (fun q => !overlaps q.offset q.size c.offset c.size)) o]

/-- The checks of one record (R91), in field order. DEDUCED: notes/assumptions/81.md. A GRADE_MASK with a bit above 1 set fails
as a value. DESIGN CHOICE: notes/assumptions/89.md. -/
def recChecks (s : State) (rs : List ImgRec) (recEnd l : Nat) (r : ImgRec) : List Check :=
  let b := r.body
  let before := rs.takeWhile (fun q => q.idx < r.idx)
  match r.type with
  | 0x1 =>
    let g := match s.fuses.grade with | .h => 0 | .m => 1
    [ckVal (leAt b 0 1 ≠ 0 ∧ leAt b 0 1 < 4) 0, (bitOf (leAt b 0 1) g, 8, 0xD), (leAt b 1 1 ≤ s.fuses.stepping, 9, 0xD), ckZero b 2 2,
     (allZero (bytesAt b 8 16) || decide (bytesAt b 8 16 = s.fuses.serial), 16, 0xD)]
  | 0x2 =>
    let m := leAt b 1 1
    [ckVal (leAt b 0 1 ≤ 5) 0, ckVal (bitOf m 2 && bitOf m (leAt b 0 1) && decide (m < 64)) 1,
     ckVal (leAt b 2 1 = 0xFF ∨ (leAt b 2 1 ≤ 5 ∧ bitOf m (leAt b 2 1))) 2, ckVal (leAt b 3 1 ≤ 2) 3, ckZero b 4 4]
  | 0x3 => powerChecks b
  | 0x4 => partChecks b
  | 0x5 => ((List.range 4).map (fun i =>
      let o := 8 * i
      [ckVal (leAt b o 1 ≤ 3 ∨ leAt b o 1 = 0xFF) o, ckVal (4 ≤ leAt b (o + 1) 1 ∧ leAt b (o + 1) 1 ≤ 6) (o + 1),
       ckVal ([1, 2, 4, 8, 16].contains (leAt b (o + 2) 1)) (o + 2), ckVal (leAt b (o + 3) 1 < 4) (o + 3), ckZero b (o + 4) 4])).flatten
  | 0x6 => linkChecks b
  | 0x7 =>
    [ckVal (leAt b 0 2 ≤ 1023) 0, ckVal (leAt b 2 1 < leAt b 3 1) 2, ckVal (1 ≤ leAt b 3 1 ∧ leAt b 3 1 ≤ 16) 3,
     ckVal (leAt b 4 1 ≤ 2) 4, ckZero b 5 1,
     ckVal (if leAt b 4 1 = 0 then leAt b 6 2 = 0 else leAt b 6 2 ≠ leAt b 0 2) 6]
  | 0x8 => topoChecks b
  | 0x9 => ((List.range 4).map (fun i =>
      [ckVal (leAt b (4 * i) 1 ≤ 7 ∨ leAt b (4 * i) 1 = 0xFF) (4 * i), ckVal (leAt b (4 * i + 1) 1 ≤ 1) (4 * i + 1),
       ckZero b (4 * i + 2) 2])).flatten
  | 0xA => (List.range 4).map (fun i => ckVal (leAt b i 1 ≤ 1) i) ++ [ckZero b 4 4]
  | 0xB =>
    let c := parseComp b true
    compPlace c (compsOf before) recEnd l 0 ++
    [ckVal (0x20000 ≤ c.size ∧ c.size ≤ 0x800000 ∧ c.size % 4096 = 0) 4, ckVal (c.entry < c.size ∧ c.entry % 4 = 0) 8]
  | 0xC =>
    [ckVal (leAt b 0 1 ≤ 1) 0, ckVal (1 ≤ leAt b 1 1 ∧ leAt b 1 1 ≤ 2) 1, ckVal (100 ≤ leAt b 2 2) 2,
     ckVal (1 ≤ leAt b 4 2 ∧ leAt b 4 2 ≤ 1000) 4, ckVal (leAt b 6 1 < 32 ∧ (leAt b 0 1 = 0 ∨ leAt b 6 1 ≠ 0)) 6, ckZero b 7 1]
  | 0xD => detChecks b
  | 0xE => [tmoCheck b 0 1 1000, tmoCheck b 4 10 1000, tmoCheck b 8 1 1000, tmoCheck b 12 1 1000, tmoCheck b 16 1 60000,
            tmoCheck b 20 2 200, tmoCheck b 24 10 1000, tmoCheck b 28 100 1000]
  | _ =>
    let c := parseComp b false
    [ckVal (1 ≤ c.kind ∧ c.kind ≤ 5) 0, ckStr ((before.all (fun q => q.type != 0xF || leAt q.body 0 1 != c.kind))) 0,
     ckZero b 1 3] ++ compPlace c (compsOf before) recEnd l 4 ++
    [ckVal (1 ≤ c.size ∧ c.size ≤ 0x4000000) 8, ckZero b 12 4]

/-- The record of a type. -/
def recOf (rs : List ImgRec) (type : Nat) : Option ImgRec := rs.find? (fun r => r.type == type)
def bodyOf (rs : List ImgRec) (type : Nat) : Bytes := ((recOf rs type).map (·.body)).getD []
def idxOf (rs : List ImgRec) (type : Nat) : Nat := ((recOf rs type).map (·.idx)).getD 0xFF

/-- Required records that are missing, by TYPE (R75): FIELD_OFFSET holds the TYPE (R97). DEDUCED: notes/assumptions/81.md. -/
def missingRec (rs : List ImgRec) : Option Nat :=
  match [1, 2, 3, 4, 5, 6, 7, 0xA, 0xB].find? (fun t => (recOf rs t).isNone) with
  | some t => some t
  | none => if [1, 2].all (fun k => rs.any (fun r => r.type == 0xF && leAt r.body 0 1 == k)) then none else some 0xF

/-- Every byte of the bank below L outside the header, the records and the components reads 0xFF (R74). -/
def paddingOk (f : Memory) (bankB : Bool) (recEnd l : Nat) (cs : List CompCfg) : Bool :=
  let base := bankBase bankB
  f.all (fun e => e.1 < base + recEnd || base + l ≤ e.1 ||
    cs.any (fun c => decide (base + c.offset ≤ e.1 ∧ e.1 < base + c.offset + c.size)))

/-- The planes that TTH_MODE provides on TL i (R91). -/
def planesOf (mode i : Nat) : List Nat :=
  match mode with | 0 => [] | 1 => [4 * i] | 2 => [4 * i, 4 * i + 1] | _ => [4 * i, 4 * i + 1, 4 * i + 2, 4 * i + 3]

/-- Planes provided by a link map. -/
def linkPlanes (k : LinkCfg) : List Nat := (k.tthMode.mapIdx (fun i m => planesOf m i)).flatten

/-- The cross-record checks (R91), in the order of its row: each with its outcome, and the record and the field that a failure
reports, which R91 and R97 leave open. DESIGN CHOICE: notes/assumptions/89.md. -/
def crossChecks (rs : List ImgRec) : List (Bool × Nat × Nat) :=
  let parts := (parseParts (bodyOf rs 4)).toList
  let port (k : Nat) : Nat := leAt (bodyOf rs 5) (8 * k) 1
  let grp := bodyOf rs 7
  let link := parseLink (bodyOf rs 6)
  let topo := parseTopo (bodyOf rs 8)
  let hasTopo := (recOf rs 8).isSome
  let need := leAt grp 0 2 ≠ 0 ∨ leAt grp 4 1 ≠ 0 ∨ link.tthMode.any (· != 0)
  let n := topo.planes.length
  ((List.range 4).map (fun k => (port k == 0xFF || (parts.getD (port k) {}).defined, idxOf rs 5, 8 + 8 * k))) ++
  ((List.range 4).map (fun k => (port k == 0xFF || (List.range k).all (fun j => port j != port k), idxOf rs 5, 8 + 8 * k))) ++
  ((List.range 4).map (fun p => (!(parts.getD p {}).defined || (List.range 4).any (fun k => port k == p), idxOf rs 4, 8 + 64 * p + 2))) ++
  (if (recOf rs 9).isSome then (List.range 4).map (fun p =>
      let h := leAt (bodyOf rs 9) (4 * p) 1
      (h == 0xFF || bitOf (parts.getD p {}).clusterMask h, idxOf rs 9, 8 + 4 * p)) else []) ++
  (if (recOf rs 0xD).isSome then (List.range 4).map (fun p =>
      (leAt (bodyOf rs 0xD) p 1 == 0 || (parts.getD p {}).defined, idxOf rs 0xD, 8 + p)) else []) ++
  [(bitOf link.brlEnable 15 == (leAt grp 4 1 != 0), idxOf rs 6, 8), (hasTopo || !decide need, 0xFF, 8)] ++
  (if hasTopo then
    [(decide (leAt grp 0 2 < topo.groupCount ∧ leAt grp 6 2 < topo.groupCount), idxOf rs 8, 8)] ++
    topo.planes.mapIdx (fun i e => ((linkPlanes link).contains e.plane, idxOf rs 8, 16 + 48 * i)) ++
    [(decide (topo.masks.getD (leAt grp 0 2) 0 = packBits (topo.planes.map (fun e => (1, e.plane)))), idxOf rs 8,
      16 + 48 * n + 4 * leAt grp 0 2)] else []) ++
  (if (recOf rs 0xC).isSome then
    [(decide (leAt (bodyOf rs 0xC) 2 2 ≤ leAt (bodyOf rs 3) 0 2), idxOf rs 0xC, 10)] else [])

/-- The configuration that the records give (R77 to R90). -/
def buildImage (f : Memory) (bankB : Bool) (rs : List ImgRec) : ImageCfg :=
  let h := imgRead f bankB 0 512
  let clk := bodyOf rs 2
  let bist := bodyOf rs 0xC
  let sec := bodyOf rs 0xA
  { seq := leAt h 8 8, signedLen := leAt h 0x10 4, secVersion := leAt h 0x16 2, buildId := leAt (bodyOf rs 1) 4 4,
    digest := imageDigest f bankB
    clock := parsePower {
      bootPstate := leAt clk 0 1, pstateMask := leAt clk 1 1, pinPstate := if leAt clk 2 1 = 0xFF then none else some (leAt clk 2 1),
      hbmRate := leAt clk 3 1 } (bodyOf rs 3)
    parts := parseParts (bodyOf rs 4)
    ports := Vector.ofFn (fun k =>
      let b := bytesAt (bodyOf rs 5) (8 * k.val) 8
      { partition := if h : leAt b 0 1 < 4 then some ⟨leAt b 0 1, h⟩ else none, maxGen := leAt b 1 1, maxWidth := leAt b 2 1,
        ideRequired := bitOf (leAt b 3 1) 0, laneReverse := bitOf (leAt b 3 1) 1 })
    link := parseLink (bodyOf rs 6)
    group := { group := leAt (bodyOf rs 7) 0 2, member := leAt (bodyOf rs 7) 2 1, size := leAt (bodyOf rs 7) 3 1,
               pairMode := leAt (bodyOf rs 7) 4 1, pairGroup := leAt (bodyOf rs 7) 6 2 }
    topo := (recOf rs 8).map (fun r => parseTopo r.body)
    home := if (recOf rs 9).isSome then Vector.ofFn (fun p =>
        let b := bytesAt (bodyOf rs 9) (4 * p.val) 4
        { homeCluster := if h : leAt b 0 1 < 8 then some ⟨leAt b 0 1, h⟩ else none, localAllowed := bitOf (leAt b 1 1) 0 })
      else .replicate 4 {}
    sec := { macsec := leAt sec 0 1 == 1, logFullMode := leAt sec 1 1, debugUnlockAllowed := leAt sec 2 1 == 1,
             floorAdvance := leAt sec 3 1 == 1 }
    garku := parseComp (bodyOf rs 0xB) true
    comps := (rs.filter (fun r => r.type == 0xF)).map (fun r => parseComp r.body false)
    bist := if (recOf rs 0xC).isSome then
        { shutdownEn := leAt bist 0 1 == 1, maxClusters := leAt bist 1 1, powerW := leAt bist 2 2, everyN := leAt bist 4 2,
          testMask := leAt bist 6 1 }
      else {}
    det := if (recOf rs 0xD).isSome then parseDet (bodyOf rs 0xD) else .replicate 4 {}
    tmo := if (recOf rs 0xE).isSome then parseTmo (bodyOf rs 0xE) else {} }

/-- Verification of a bank that has passed R73 (R72, R91): the image, or the failure. Missing records and padding are checked
after every record and before the cross-record checks. DESIGN CHOICE: notes/assumptions/89.md. -/
def verifyImage (s : State) (f : Memory) (bankB : Bool) : Except BankStatus ImageCfg :=
  let h := imgRead f bankB 0 512
  let l := leAt h 0x10 4
  let none_ (r : Nat) : BankStatus := { result := r, record := 0xFF, fieldOffset := 0xFFFF }
  if !verifySig (bytesAt h 0x80 96) (imageDigest f bankB) (bytesAt h 0xE0 96) then .error (none_ 0x9)
  else
    let (rs, bad, recEnd) := scanRecords f bankB l (leAt h 0x14 2) 0 0x200 []
    match rs.findSome? (fun r => (firstBad (recChecks s rs recEnd l r)).map (fun x => (r.idx, x))) with
    | some (i, (res, o)) => .error { result := res, record := i, fieldOffset := o }
    | none =>
      match bad with
      | some b => .error b
      | none =>
        match missingRec rs with
        | some t => .error { result := 0xA, record := 0xFF, fieldOffset := t }
        | none =>
          if !paddingOk f bankB recEnd l (compsOf rs) then .error (none_ 0xA)
          else
            match (crossChecks rs).find? (fun c => !c.1) with
            | some (_, i, o) => .error { result := 0xC, record := i, fieldOffset := o }
            | none => .ok (buildImage f bankB rs)

/-- Does a component's digest match the flash (R93)? -/
def compDigestOk (f : Memory) (bankB : Bool) (c : CompCfg) : Bool := sha384 (imgRead f bankB c.offset c.size) == c.digest

/-- Does the load of a component end with its digest matched (R93)? `errs` holds the component's KIND once for each of its reads
that a flash read error corrupts; Garku, which counts as KIND 0, is read once, any other component a second time after a mismatch. -/
def compLoadOk (f : Memory) (bankB : Bool) (errs : List Nat) (c : CompCfg) : Bool :=
  decide ((errs.filter (· == c.kind)).length < (if c.kind = 0 then 1 else 2)) && compDigestOk f bankB c

end Sys2Proof.Machine
end

