-- ==== Sys2Proof/Machine/SecOps.lean ====
section
/-!
DEFINITION. Machine/SecOps.lean: shared operations of security and self-test: the life-cycle state (spec/21 R525), keys
and zeroization (R529, R530, R532), the security event log (R545 to R549), the BIST log (spec/22 R562, R563), the
cluster-state notice (spec/20 R509).
-/
namespace Sys2Proof.Machine
open Sys2Proof

-- Life cycle (R525)

def Fuse.on (f : Fuse) : Bool := f.a || f.b
def unlocks (s : State) : Nat := (s.fuses.unlock.toList.filter Fuse.on).length
def relocks (s : State) : Nat := (s.fuses.relock.toList.filter Fuse.on).length

def lifeCycle (s : State) : LifeCycle :=
  if s.fuses.decom.on then .decommissioned
  else if unlocks s > relocks s then .debugUnlocked
  else if s.fuses.deploy.on then .deployed
  else if s.fuses.prov.on then .provisioned
  else .blank

/-- Does a requester reach the management space: the management processors, or JTAG under DEBUG_ACCESS (R541)? -/
def isMgt (r : Requester) (s : State) : Bool :=
  r == .mgt || (r == .jtag && s.sec.jtagIr == 0x20 && lifeCycle s == .debugUnlocked)

/-- The code of the life-cycle state (R525). -/
def lcCode (s : State) : Nat :=
  match lifeCycle s with
  | .blank => 0 | .provisioned => 1 | .deployed => 2 | .debugUnlocked => 3 | .decommissioned => 4

/-- OWNER_GEN (R525). -/
def ownerGen (s : State) : Nat := unlocks s

-- Time in logs (R546, R563): ST, or DT while no system reference exists
def logTime (s : State) : Nat := if s.time.sysSet then sysTime s else dtNow s

-- The security event log (R545 to R549)

/-- Sectors of the log, and flash address of one. -/
def secSectors : Nat := 1023
def secSectorAddr (i : Nat) : Nat := 0x0C100000 + 4096 * (i % secSectors)

/-- Erase `[lo, hi)` of the flash. -/
def flashErase (lo hi : Nat) (s : State) : State := { s with flash := tabClear lo hi s.flash }
def flashWrite (a : Nat) (b : Bytes) (s : State) : State := { s with flash := flashWriteN s.flash a b }

/-- May the log take a record (R549)? -/
def logHasRoom (s : State) : Bool := !(s.sec.logSeq % 63 == 0 && s.sec.logSeq / 63 ≥ secSectors && s.cfg.sec.logFullMode == 1)

/-- Append a record to the security event log (R545, R546, R549). `role` is byte 18, `result` byte 19. DEDUCED: notes/assumptions/65.md. -/
def secLog (event role result : Nat) (detail : Bytes) (s : State) : State :=
  if !logHasRoom s then cntDev 0x00140010 1 { s with sec := { s.sec with logFull := true } }
  else
    let n := s.sec.logSeq
    let a := secSectorAddr (n / 63)
    let s := if n % 63 ≠ 0 then s
      else flashWrite a (toLe 4 0x474C434D ++ toLe 4 0 ++ toLe 8 (n / 63) ++ s.sec.logH) (flashErase a (a + 4096) s)
    let boot := s.sec.logBoot + (if event = 1 then 1 else 0)
    let body := toLe 8 n ++ toLe 8 (logTime s) ++ toLe 2 event ++ toLe 1 role ++ toLe 1 result ++ toLe 4 boot ++ bytesAt detail 0 24
    let h := sha384 (s.sec.logH ++ body)
    let s := flashWrite (a + 64 + 64 * (n % 63)) (body ++ h.take 16) s
    { s with sec := { s.sec with logSeq := n + 1, logH := h, logBoot := boot } }

/-- A CMD_AUTH_FAIL or LINK_AUTH_FAIL event: at most once per second per source, with the occurrences merged (R547). -/
def secLogMergedAs (event key role result : Nat) (detail : Bytes) (s : State) : State :=
  let k := key + 64 * event
  let cnt := tabGet 0 s.sec.linkAuthCount k + 1
  let last := tabGet 0 s.sec.linkAuthLast k
  if last ≠ 0 ∧ s.boot.sinceNs + 1 < last + 1000000000 then
    { s with sec := { s.sec with linkAuthCount := tabSet 0 k cnt s.sec.linkAuthCount } }
  else
    let s := { s with sec := { s.sec with
      linkAuthCount := tabSet 0 k 0 s.sec.linkAuthCount
      linkAuthLast := tabSet 0 k (s.boot.sinceNs + 1) s.sec.linkAuthLast } }
    secLog event role result (detail ++ toLe 4 cnt) s
/-- The same for the device itself. -/
def secLogMerged (event key : Nat) (detail : Bytes) (s : State) : State := secLogMergedAs event key 0 0 detail s

-- Keys (R529, R530, R532, R543)

/-- `n` fresh bytes of the DRBG. -/
def drbgBytes (n : Nat) (s : State) : Bytes × State := (bytesAt (Config.drbg s.free n) 0 n, { s with free := s.free + 1 })

/-- Replace SEC_NONCE with 48 fresh DRBG bytes (R521). -/
def freshNonce (s : State) : State :=
  let (b, s) := drbgBytes 48 s
  { s with sec := { s.sec with nonce := b } }

/-- Clear every volatile key, the DRBG state and every SPDM, IDE, MACsec and Bridle key (R532). -/
def zeroizeVolatile (s : State) : State :=
  { s with
    sec := { s.sec with keys := {}, sessions := [], vault := [], vaultValid := false, tkeyPub := List.replicate 96 0 }
    links := s.links.map (fun q => { q with key := 0 })
    planes := s.planes.map (fun q => { q with sak := 0, secured := false })
    ports := s.ports.map (fun q => { q with ide := .replicate 5 {} }) }

/-- The whole zeroization of R532: the volatile keys, the vault sector and all HBM. -/
def zeroizeAll (s : State) : State :=
  let s := zeroizeVolatile s
  { flashErase 0x0C4FF000 0x0C500000 s with hbm := [], hbmPoison := [], hbmErr := [] }

/-- An item of the vault (R530). -/
def parseItem (b : Bytes) : VaultItem :=
  { type := leAt b 0 1, planeMask := leAt b 4 4, ckn := bytesAt b 8 16, secret := bytesAt b 24 32 }

/-- The 64-byte items of a decrypted vault. DEDUCED: notes/assumptions/64.md. -/
def parseItems : Nat → Bytes → List VaultItem
  | 0, _ => []
  | n + 1, b => parseItem (bytesAt b 0 64) :: parseItems n (b.drop 64)

/-- Do items keep the limits of R530? -/
def itemsOk (is : List VaultItem) : Bool :=
  (is.filter (fun i => i.type == 2)).length ≤ 1 && is.all (fun i => i.type == 1 || i.type == 2) &&
  (allPlanes.all (fun pl => (is.filter (fun i => i.type == 1 && bitOf i.planeMask pl.val)).length ≤ 1))

/-- Read the vault sector under VAULT_KEY (R530): an invalid vault is empty. -/
def readVault (s : State) : State :=
  let b := flashReadN s.flash 0x0C4FF000 576
  let n := leAt b 5 1
  let plain := Config.gcmOpen s.sec.keys.vaultKey (leAt b 8 12) (bytesAt b 64 (64 * n) ++ bytesAt b 20 16 ++ bytesAt b 0 20 ++ bytesAt b 36 28)
  match plain with
  | some d =>
    if leAt b 0 4 = 0x56544B4D ∧ leAt b 4 1 = ownerGen s ∧ n ≤ 8 then
      { s with sec := { s.sec with vault := parseItems n d, vaultValid := true } }
    else { s with sec := { s.sec with vault := [], vaultValid := false } }
  | none => { s with sec := { s.sec with vault := [], vaultValid := false } }

-- Measurements (R534)

/-- A component of the verified image by KIND. -/
def imageComp (s : State) (kind : Nat) : Option CompCfg :=
  match s.img.image with
  | some c => c.comps.find? (fun x => x.kind == kind)
  | none => none

def compDigest (s : State) (kind : Nat) : Bytes := match imageComp s kind with | some x => x.digest | none => List.replicate 48 0

/-- Measurements 1 to 6. -/
def measurement (s : State) (i : Nat) : Bytes :=
  match i with
  | 1 => bytesAt Config.romDigest 0 48
  | 2 => bytesAt s.cfg.digest 0 48
  | 3 => match s.img.image with | some c => c.garku.digest | none => List.replicate 48 0
  | 4 => compDigest s 1
  | 5 => compDigest s 2
  | _ => toLe 1 (lcCode s) ++ toLe 1 (ownerGen s) ++ toLe 1 s.fuses.floor ++ toLe 2 s.cfg.secVersion ++ toLe 1 s.fuses.detClass ++
      toLe 1 (b2n s.cfg.sec.macsec) ++ toLe 1 s.cfg.sec.logFullMode ++ toLe 1 (b2n s.cfg.sec.debugUnlockAllowed) ++
      toLe 1 (b2n s.cfg.sec.floorAdvance) ++ List.replicate 6 0

/-- Measurements 1 to 6 in order, which the alias key and its certificate carry (R529, R533). -/
def bootMeasurements (s : State) : Bytes := ([1, 2, 3, 4, 5, 6].map (measurement s)).flatten

/-- The component chain of slot 0: KIND 0x04 of the image in use (R89); empty when the image holds none. -/
def compChain (s : State) : Bytes :=
  match imageComp s 4, s.img.chosen with
  | some x, some b => imgRead s.flash b x.offset x.size
  | _, _ => []

/-- The key ladder at start (R529): the HUK is key 1, refused once HUK_BLOCK is burned. -/
def deriveKeys (s : State) : State :=
  let huk := if s.fuses.hukBlock.on then 0 else 1
  let ork := Config.kdf huk (s.fuses.ownerHash ++ toLe 1 (ownerGen s))
  let s := { s with sec := { s.sec with
    keys := { ork := ork, vaultKey := Config.kdf ork [1], devId := Config.kdf huk [2], tkey := Config.kdf huk [3],
              alias_ := Config.kdf (Config.kdf huk [2]) (sha384 (bootMeasurements s)), drbg := Config.kdf huk [4] }
    certMismatch := !(compChain s).isEmpty && !Config.chainEndsIn (compChain s) (Config.kdf huk [2])
    tkeyPub := bytesAt (Config.sign (Config.kdf huk [3]) []) 0 96 } }
  readVault (freshNonce s)

-- ERROR (R544)

/-- Enter ERROR for a failed self-test: the record, zeroized keys, every link held down, FAULT_n low, GROUP_SYNC_n released, and
configuration requests completed normally (R53, R61, R544). -/
def enterError (id : Nat) (s : State) : State :=
  let s := mgtRecord { code := 0x0A02, cls := .device, source := 0xD, sub := id } s
  let s := secLog 0x0003 0 0 (toLe 1 id) s
  let s := secLog 0x0021 0 0 (toLe 2 0) (zeroizeVolatile s)
  { s with
    boot := { s.boot with state := .error, timeUnsync := false, stageNs := s.boot.sinceNs }
    pins := { s.pins with faultLow := true, groupSyncLow := false }
    ports := s.ports.map (fun q => { q with rrs := false, retrain := false })
    sec := { s.sec with selftestPassed := false, selftestLast := id }
    links := s.links.map (fun q => { q with state := .off, lanesLocked := 0, cryptOn := false })
    planes := s.planes.map (fun q => { q with state := .off, secured := false }) }

-- The BIST log (spec/22 R562, R563)

def bistAddr (i : Nat) : Nat := 0x0C000000 + 4096 * (i % 256)

/-- Append a record to the BIST log: bytes 0 to 59. -/
def bistAppend (body : Bytes) (s : State) : State :=
  let n := s.bist.nextRec
  let a := bistAddr (n / 63)
  let nx := bistAddr (n / 63 + 1)
  -- the sector is opened with its header, and the next one is kept erased ahead of use
  let s := if n % 63 ≠ 0 then s
    else flashErase nx (nx + 4096) (flashWrite a (toLe 4 0x4C545342 ++ toLe 4 0 ++ toLe 8 (n / 63) ++ List.replicate 48 0)
      (flashErase a (a + 4096) s))
  let b := bytesAt body 0 60
  let s := flashWrite (a + 64 + 64 * (n % 63)) (b ++ toLe 4 (crc32c b)) s
  { s with bist := { s.bist with nextRec := n + 1 } }

/-- Is the standing critical (R564)? -/
def bistCritical (s : State) : Bool :=
  bitOf s.bist.standing 8 || bitOf s.bist.standing 9 || bitOf s.bist.standing 10 || bitOf s.bist.standing 11 ||
    bitOf s.bist.standing 12 || decide (32 - popCount s.bist.slots 32 < 8)

-- Cluster-state notices (spec/20 R509)

/-- IN_SERVICE of this device: clusters ON or CLOSING are in service (R508); the device's own view and the notice mark a
CLOSING cluster not in service. DEDUCED: notes/assumptions/41.md. -/
def inService (s : State) : Nat :=
  packBits (allClusters.map (fun c => (b2n (clusterOn (getCluster s c)), c.val)))
where
  /-- The cluster is in service in this device's own view (R508, R511). -/
  clusterOn (q : Cluster) : Bool := q.state == .on && !q.waking && !q.disabled

def noticeBytes (s : State) : Bytes :=
  let b := toLe 2 (ownId s) ++ toLe 1 (inService s) ++ toLe 1 0 ++ toLe 4 s.net.noticeSeq ++ toLe 8 (sysTime s) ++
    toLe 4 s.net.startId ++ List.replicate 8 0
  b ++ toLe 4 (crc32c b)

/-- Send a LINK flit: sequenced while the link carries sequenced flits (R340). The spec gives its payload a content and no byte
layout (notes/assumptions/5.md). -/
def sendLinkMsg (l : LinkId) (m : LinkMsg) (s : State) : State :=
  emit (.link l m) (if working (getLink s l) then otherFlit l 2 (Config.linkPayload m) s else s)

/-- Send the notice on one mesh link when it is ACTIVE. -/
def noticeLink (l : LinkId) (s : State) : State :=
  if l.val ≠ 15 ∧ (getLink s l).state = .active then sendLinkMsg l (.notice (noticeBytes s)) s else s

/-- Send the notice on stream 0 of an open context (R509). -/
def noticeCtx (i : Nat) (s : State) : State :=
  match getCtx s i with
  | some c => if c.state == .open_ then
      drainCtx i (updCtx i (fun c => { c with queue := c.queue ++ [{ dst := c.peer, part := c.part, flags := 24, bytes := noticeBytes s, since := dtNow s }] }) s)
    else s
  | none => s

/-- The notice goes to every ACTIVE mesh link and every open context. -/
def sendNotices (s : State) : State :=
  let s := eachOf allLinks noticeLink s
  s.tether.ctxs.foldl (fun s (i, _) => noticeCtx i s) s

/-- After a change of clusters: when IN_SERVICE differs from `before`, NOTICE_SEQ rises and the notice is sent. -/
def noticeChange (before : Nat) (s : State) : State :=
  if inService s = before then s
  else sendNotices { s with net := { s.net with noticeSeq := wrapAdd 32 s.net.noticeSeq 1 } }

end Sys2Proof.Machine
end

