-- ==== Sys2Proof/Machine/Trans.lean ====
section
/-!
DEFINITION. Machine/Trans.lean: the changes of state that policy firmware is told of (spec/23 R572), and the start of link
training (spec/13 R337, R338, spec/14 R363).
-/
namespace Sys2Proof.Machine
open Sys2Proof

/-- A Bridle link changes state: policy event 0x0007; a link that leaves its lanes has none locked. -/
def setBrl (l : LinkId) (st : BrlState) (s : State) : State :=
  if (getLink s l).state == st then s
  else
    let lost := st == .off || st == .detect || st == .dormant || st == .down
    mgtEvent 0x0007 l.val (brlCode st) (updLink s l (fun q => { q with
      state := st, since := upNs s, lanesLocked := if lost then 0 else q.lanesLocked, cryptOn := !lost && q.cryptOn }))

/-- A Tether plane changes state: policy event 0x0008. -/
def setTth (pl : PlaneId) (st : TthState) (s : State) : State :=
  if (getPlane s pl).state == st then s
  else mgtEvent 0x0008 pl.val (tthCode st) (updPlane s pl (fun q => { q with state := st, since := upNs s }))

/-- A cluster changes gating state: policy event 0x0009. -/
def setCluster (c : ClusterId) (st : ClusterState) (s : State) : State :=
  if (getCluster s c).state == st then s
  else mgtEvent 0x0009 c.val (clusterCode st) (updCluster s c (fun q => { q with state := st, since := upNs s }))

/-- The commit state changes: policy event 0x000A. -/
def setCommit (st : CommitState) (s : State) : State :=
  if s.commit.state == st then s else mgtEvent 0x000A 0xFF (commitCode st) { s with commit := { s.commit with state := st } }

/-- The pair role changes: policy event 0x000B (R480). -/
def setSb (st : SbState) (s : State) : State :=
  if s.pair.state == st then s else mgtEvent 0x000B 0xFF (sbCode st) { s with pair := { s.pair with state := st } }

/-- A host port changes D-state, link state or PERST_n: policy event 0x000D. -/
def portEvent (k : PortId) (s : State) : State := mgtEvent 0x000D k.val (hpLinkStatus (getPort s k)) s

/-- Is the Bridle link connected and enabled (R27, R82)? -/
def brlConnected (s : State) (l : LinkId) : Bool := bitOf s.cfg.link.brlEnable l.val && (linkPeer s l).isSome

/-- Is the plane provided by the link map and listed in TOPOLOGY (R363)? -/
def tthConnected (s : State) (pl : PlaneId) : Bool :=
  (linkPlanes s.cfg.link).contains pl.val && (match s.cfg.topo with
    | some t => t.planes.any (fun e => e.plane == pl.val)
    | none => false)

/-- A link enters DETECT: the end with the lower DEVICE_ID leads and transmits training sequences (R338); it holds no sequenced
state (R343). -/
def enterDetect (l : LinkId) (s : State) : State :=
  let s := setBrl l .detect (updLink s l (fun q => { q with
    leader := decide (ownId s < (linkPeer s l).getD 0)
    trainAt := upNs s
    cryptOn := false
    peerValid := false
    sleepAsked := false
    dormantAsked := false }))
  if (getLink s l).leader then emit (.link l .training) s else s

/-- A plane enters ALIGN (R363). -/
def enterAlign (pl : PlaneId) (s : State) : State :=
  setTth pl .align (updPlane s pl (fun q => { q with secured := false, trainAt := upNs s }))

/-- Every connected link of both kinds starts training. -/
def startLinks (s : State) : State :=
  let s := eachOf allLinks (fun l s => if brlConnected s l && (getLink s l).state == .off then enterDetect l s else s) s
  eachOf allPlanes (fun pl s => if tthConnected s pl && (getPlane s pl).state == .off then enterAlign pl s else s) s

/-- Is a connected link or plane down (R50, LINKS_INCOMPLETE)? -/
def linksDown (s : State) : Bool :=
  allLinks.any (fun l => brlConnected s l && !working (getLink s l)) ||
    allPlanes.any (fun pl => tthConnected s pl && (getPlane s pl).state != .up)

/-- CORE cycles per beat of a P-state (R58). -/
def corePerBeat (p : Nat) : Nat := match p with | 0 => 30 | 1 => 28 | 2 => 25 | 3 => 22 | 4 => 19 | _ => 16

/-- The P-state that CORE starts at (R50, R78). -/
def setPstateNow (p : Nat) (s : State) : State :=
  { s with
    boot := { s.boot with pstate := p, corePerBeat := corePerBeat p }
    power := { s.power with target := p } }

/-- Is a clamp engaged (R501, R502)? -/
def clamped (s : State) : Bool := s.power.clampEdp || s.power.clampLimit || s.power.clampThermal

/-- The switching beat: CORE switches to a P-state, and DEV_CLK with it (R497). -/
def switchCore (p : Nat) (s : State) : State :=
  if p = s.boot.pstate then s
  else cntPower 0x0013001C 1 { s with boot := { s.boot with pstate := p, corePerBeat := corePerBeat p } }

/-- An accepted P-state request (R497, R498): a lower P-state takes CORE at once; a higher one waits for the rail, or is
held while a clamp is engaged or the fallback policy runs (R571). A request made during a change replaces its target. DEDUCED: notes/assumptions/60.md. -/
def requestPstate (p : Nat) (s : State) : State :=
  if p > s.boot.pstate then
    switchCore p { s with power := { s.power with target := p, changing := true, held := none } }
  else if p = s.boot.pstate then
    { s with power := { s.power with target := p, held := none } }
  else if clamped s || s.mgt.fwState == 2 then { s with power := { s.power with held := some p } }
  else { s with power := { s.power with target := p, changing := true, held := none } }

/-- When every clamp has released fully and no fallback policy runs, a held raise takes effect (R498, R571). DEDUCED: notes/assumptions/60.md. -/
def releaseHeld (s : State) : State :=
  if clamped s || s.mgt.fwState == 2 then s
  else match s.power.held with
    | some p => requestPstate p { s with power := { s.power with held := none } }
    | none => s

/-- Leave QUIET (R515): the P-state held before entry is requested; policy firmware hears the cause, 1 to 5. DEDUCED: notes/assumptions/63.md. -/
def quietExit (cause : Nat) (s : State) : State :=
  if !s.power.quiet then s
  else mgtEvent 0x000E 0xFF cause (requestPstate s.power.saved { s with power := { s.power with quiet := false, rowDts := [] } })

/-- A ROW packet arrives: more than 64 within 1 ms end QUIET (R515). -/
def quietRow (s : State) : State :=
  if !s.power.quiet then s
  else
    let now := dtNow s
    let many := decide (s.power.rowDts.length ≥ 64) && s.power.rowDts.all (fun t => now < t + 1000000)
    let s := { s with power := { s.power with rowDts := (now :: s.power.rowDts).take 64 } }
    if many then quietExit 4 s else s

/-- WAKE_n of a port follows R154. -/
def driveWake (k : PortId) (s : State) : State :=
  let want := bitOf s.mgt.wakeReq k.val && ((getPort s k).l23 || s.pins.perstLow[k]) && (partOf s k).isSome
  if want == s.pins.wakeLow[k] then s
  else
    let s := { s with pins := { s.pins with wakeLow := s.pins.wakeLow.set k want } }
    if want then updPort s k (fun q => { q with wakeCause := maskSet q.wakeCause 10 }) else s

end Sys2Proof.Machine
end

