-- ==== Sys2Proof/Machine/Conj.lean ====
section
/-!
DEFINITION. Machine/Conj.lean: the shared operations of a layer step: clause records (spec/10 R265), rows at their
destination (R271 to R277, spec/11 R295 to R297), the arithmetic of a pass (spec/09 R247, R251), the combine
(spec/12 R323 to R329), sending and re-issuing clauses (R313, R314, spec/18 R466, R468), restarts (R317) and reachability
(spec/02 R40).
-/
namespace Sys2Proof.Machine
open Sys2Proof

-- Updating the step

/-- Count a NONDET event (R438): DET_NONDET and DET_JOB_NONDET; bit 4 of DET_JOB_OUTSIDE (R431). -/
def nondet (p : PartId) (s : State) : State :=
  cntPart64 0x00090010 1 p (updJob s p (fun j => { j with nondet := satAdd32 j.nondet 1, outside := maskSet j.outside 4 }))
/-- Set a bit of DET_JOB_OUTSIDE (R431). DEDUCED: notes/assumptions/85.md. -/
def outside (p : PartId) (bit : Nat) (s : State) : State := updJob s p (fun j => { j with outside := maskSet j.outside bit })

/-- Capacity of a replica in a layer (R271). -/
def capacityOf (s : State) (p : PartId) (layer : Nat) : Nat :=
  match jobModel (getPart s p) with
  | some m => (routerLayer s p m layer).capacity
  | none => 65535

/-- OVFL of a layer: drop (R257). -/
def dropsOverflow (s : State) (p : PartId) (layer : Nat) : Bool :=
  match jobModel (getPart s p) with
  | some m => (routerLayer s p m layer).drop && (routerLayer s p m layer).mode == 0
  | none => false

/-- Is the layer token-choice? Capacity applies to it alone (R270). -/
def tokenChoice (s : State) (p : PartId) (layer : Nat) : Bool :=
  match jobModel (getPart s p) with
  | some m => (routerLayer s p m layer).mode == 0
  | none => true

-- Clause records (R265)

/-- Space offset of a clause record. -/
def clauseOff (td : Bytes) (pos rank : Nat) : Nat := tdRow td pos + 16 * rank
def clauseRead (s : State) (p : PartId) (td : Bytes) (pos rank : Nat) : Bytes := spaceRead s p (tdSpace td) (clauseOff td pos rank) 16
def clauseWrite (p : PartId) (td : Bytes) (pos rank : Nat) (b : Bytes) (s : State) : State :=
  spaceWrite p (tdSpace td) (clauseOff td pos rank) b s
/-- The records of a position: those up to the first with VALID 0. -/
def clausesAt (s : State) (p : PartId) (td : Bytes) (pos : Nat) : List Bytes :=
  ((List.range 16).map (clauseRead s p td pos)).takeWhile (fun r => bitOf (leAt r 2 1) 7)

def recExpert (r : Bytes) : Nat := leAt r 0 2
def recRank (r : Bytes) : Nat := leAt r 2 1 % 16
def recWeight (r : Bytes) : Nat := leAt r 4 4
def recKey (r : Bytes) : Nat := leAt r 8 4

/-- A clause record. -/
def clauseRec (expert rank : Nat) (spec poison : Bool) (reason weight key res : Nat) : Bytes :=
  toLe 2 expert ++ toLe 1 (rank % 16 + 16 * b2n spec + 32 * b2n poison + 128) ++ toLe 1 reason ++ toLe 4 weight ++ toLe 4 key ++ toLe 4 res

/-- The resolution word of a record. -/
def resWord (d : DevId) (c : Nat) : Nat := d + c * 2 ^ 14 + 2 ^ 17

/-- SRT.BUCKET has resolved a record: the epoch of the resolution is kept beside it (R37). -/
def noteResolved (p : PartId) (td : Bytes) (pos : Nat) (r : Bytes) (s : State) : State :=
  updPart s p (fun q => { q with resolved := tabSet none (clauseOff td pos (recRank r)) (some (ownEpoch s)) q.resolved })

/-- Set bits of bytes 12 to 15 of a record of the step's own tokens, named by slot and rank. -/
def clauseFlag (p : PartId) (slot rank bits : Nat) (s : State) : State :=
  match (getPart s p).conj with
  | some c =>
    if slot < c.first ∨ slot ≥ c.first + c.count then s
    else
      let r := clauseRead s p c.clauseTd (slot - c.first) rank
      clauseWrite p c.clauseTd (slot - c.first) rank (r.take 12 ++ toLe 4 (leAt r 12 4 ||| bits)) s
  | none => s

/-- A record becomes a home record with a reason, every other field kept (R278). -/
def clauseHome (p : PartId) (slot rank reason : Nat) (s : State) : State :=
  match (getPart s p).conj with
  | some c =>
    if slot < c.first ∨ slot ≥ c.first + c.count then s
    else
      let r := clauseRead s p c.clauseTd (slot - c.first) rank
      clauseWrite p c.clauseTd (slot - c.first) rank (toLe 2 0xFFFF ++ bytesAt r 2 1 ++ toLe 1 reason ++ r.drop 4) s
  | none => s

-- The arithmetic of a pass (R247, R251)

/-- A layer's block of an expert-weight section: FUNC and the section-relative offset. -/
def weightLayer (s : State) (p : PartId) (m : Model) (kind layer : Nat) : Nat × Nat :=
  let e := secRead s p m kind (16 * layer) 16
  (leAt e 0 1, leAt e 8 8)

/-- The scales and BLOCK of an expert. -/
def weightEntry (s : State) (p : PartId) (m : Model) (kind layer expert : Nat) : Bytes :=
  secRead s p m kind ((weightLayer s p m kind layer).2 + 16 * expert) 16

/-- Does this device hold the expert's weights (R252)? -/
def residentExpert (s : State) (p : PartId) (m : Model) (layer expert : Nat) : Bool :=
  expert == 0xFFFF || (decide (expert < m.experts) && leAt (weightEntry s p m 6 layer expert) 12 4 != 0xFFFFFFFF)

/-- Bytes of a weight element. -/
def wSize (m : Model) : Nat := if m.wdtype = 0 then 2 else 1

/-- Column `n` of a K × N matrix stored as 64 × 64 tiles at a region offset (R251). -/
def weightCol (s : State) (p : PartId) (m : Model) (base k n : Nat) : List FVal :=
  (List.range k).map (fun i =>
    let el := ((n / 64) * (k / 64) + i / 64) * 4096 + (i % 64) * 64 + n % 64
    decodeTag m.wdtype (leNat (spaceRead s p 0 (base + el * wSize m) (wSize m))))

/-- The place of an expert's three matrices: region offset and bytes. -/
def weightBase (s : State) (p : PartId) (m : Model) (layer expert : Nat) : Nat × Nat × Nat :=
  let home := expert = 0xFFFF
  let kind := if home then 7 else 6
  let h := if home then m.homeHidden else m.hidden
  let n := if home then 1 else m.experts
  let off := (weightLayer s p m kind layer).2
  let blk := leAt (weightEntry s p m kind layer (if home then 0 else expert)) 12 4
  let table := (16 * n + 63) / 64 * 64
  (secOff m kind + off + table + blk * 3 * m.dmodel * h * wSize m, m.dmodel * h * wSize m, h)

/-- d of R247: D FP32 values. DEDUCED: notes/assumptions/41.md. -/
def passRow (s : State) (p : PartId) (m : Model) (layer expert : Nat) (row : Bytes) : List Nat :=
  let home := expert = 0xFFFF
  let kind := if home then 7 else 6
  let func := (weightLayer s p m kind layer).1
  let e := weightEntry s p m kind layer (if home then 0 else expert)
  let (base, sz, h) := weightBase s p m layer expert
  let x := rowVals row
  let hid := (List.range h).map (fun n =>
    let u := mulF32 (leAt e 0 4) (segDot x (weightCol s p m base m.dmodel n))
    let g := mulF32 (leAt e 4 4) (segDot x (weightCol s p m (base + sz) m.dmodel n))
    decode16 (bf16 (decode32 (mulF32 (actF32 func g) u))))
  (List.range m.dmodel).map (fun n => mulF32 (leAt e 8 4) (segDot hid (weightCol s p m (base + 2 * sz) h n)))

/-- Is a weight of the expert poisoned (R236, R329)? -/
def weightsPoisoned (s : State) (p : PartId) (m : Model) (layer expert : Nat) : Bool :=
  let (base, sz, _) := weightBase s p m layer expert
  spacePoisoned s p 0 base (3 * sz)

/-- y = bf16(fp32(w × d)), and bf16(d) when w is 1.0 (R247). -/
def scaleRow (w : Nat) (d : List Nat) : List Nat :=
  d.map (fun x => bf16 (decode32 (if w = 0x3F800000 then x else mulF32 w x)))

/-- Does an output row of a pass hold an infinity or a NaN? -/
def nonFinite (y : List Nat) : Bool := y.any (fun w => match decode16 w with | .fin .. => false | _ => true)

-- The combine (R324 to R327)

/-- Ranks below EXPECTED whose seen bit is clear, lowest first. -/
def unseen (r : Slot) : Option Nat := (List.range r.expected).find? (fun k => !bitOf r.seen k)

/-- Add a row to the accumulator; an empty accumulator is all +0. -/
def addAcc (acc : List Nat) (y : List Nat) : List Nat :=
  let acc := if acc.isEmpty then y.map (fun _ => 0) else acc
  List.zipWith (fun a v => addF32 a (v * 2 ^ 16)) acc y

/-- Add rank NEXT and what follows it from the stash (R325). -/
def drainStash : Nat → Slot → Slot
  | 0, r => r
  | fuel + 1, r =>
    if r.next < r.expected ∧ bitOf r.seen r.next then
      match r.stash.find? (fun e => e.1 == r.next) with
      | some (k, y) => drainStash fuel { r with
          acc := match y with | some y => addAcc r.acc y | none => r.acc
          next := k + 1
          stash := r.stash.filter (fun e => e.1 != k) }
      | none => r
    else r

/-- The rows in a stash: an entry of a dropped clause holds none (R325). -/
def stashRows (r : Slot) : Nat := (r.stash.filter (fun e => e.2.isSome)).length

/-- Round a complete record (R327). -/
def roundSlot (p : PartId) (i : Nat) (s : State) : State :=
  let r := getSlot s p i
  if r.rounded || !r.active || (unseen r).isSome then s
  else
    let zero := r.acc.isEmpty
    let d := match jobModel (getPart s p) with | some m => m.dmodel | none => 0
    let row := if zero then List.replicate d 0 else r.acc.map (fun w => bf16 (decode32 w))
    let s := updSlot p i (fun r => { r with rounded := true, out := halvesBytes row }) s
    let s := if r.poison || r.rowPoison then cntPart 0x000F0024 1 p s else s
    if zero then cntPart 0x000F0028 1 p s else s

/-- A clause has its contribution: it is outstanding no longer (R466), and its device has been heard (R469). -/
def noteHeard (slot rank now : Nat) (c : Conj) : Conj :=
  let mine (x : Clause) : Bool := x.slot == slot && x.rank == rank && x.stage == .sent
  let heard := match c.clauses.find? mine with
    | some x => c.heard.filter (fun e => e.1 != x.dev) ++ [(x.dev, now)]
    | none => c.heard
  { c with clauses := c.clauses.filter (fun x => !mine x), heard := heard }

/-- A contribution: tag, PART_EPOCH, SLOT_GEN, row (none for a DROP), POISON, and whether it is the home expert's (R324). -/
def contribute (p : PartId) (tag partEpoch slotGen : Nat) (y : Option (List Nat)) (poison home : Bool) (s : State) : State :=
  let i := tagSlot tag
  let rank := tagRank tag
  let r := getSlot s p i
  if partEpoch ≠ (getPart s p).epoch ∨ !r.held ∨ !r.active ∨ r.gen ≠ slotGen ∨ r.epoch ≠ tagEpoch tag ∨ r.layer ≠ tagLayer tag ∨
      rank ≥ r.expected then cntPart 0x000F0014 1 p s
  else if bitOf r.seen rank then cntPart 0x000F0010 1 p s
  else
    let still := (getPart s p).job.stillAir
    let ooo := !still && y.isSome && (unseen r != some rank)
    let r := { r with seen := maskSet r.seen rank, poison := r.poison || poison, fallback := r.fallback || home }
    let before := stashRows r + b2n y.isSome
    let r := if still then
        if rank ≠ r.next then { r with stash := r.stash ++ [(rank, y)] }
        else drainStash 16 { r with acc := match y with | some y => addAcc r.acc y | none => r.acc, next := rank + 1 }
      else { r with acc := match y with | some y => addAcc r.acc y | none => r.acc,
                    outOfOrder := r.outOfOrder + b2n ooo }
    let s := updSlot p i (fun _ => r) s
    let s := cntPart64 0x000F0008 (before - stashRows r) p s
    let s := if ooo then nondet p (cntPart 0x000F0020 1 p s) else s
    let st := ((getPart s p).slots.map (fun e => stashRows e.2)).foldl (· + ·) 0
    let s := if st > regPart s p 0x000F001C then setRegPart 0x000F001C st p s else s
    let s := updConj p (noteHeard i rank (dtNow s)) s
    roundSlot p i s

-- Pools (R346)

/-- The list without the first entry that satisfies `f`. -/
def dropFirst {α : Type} (f : α → Bool) : List α → List α
  | [] => []
  | x :: t => if f x then t else x :: dropFirst f t

/-- Return the credit of a packet that leaves the pool of a link (R346). -/
def returnCredit (l : LinkId) (vc : Nat) (b : Bytes) (s : State) : State :=
  let part := if isDataPacket b then tagPart (leAt (b.drop (b.length - 64)) 0 8) % 4 else 0
  idleFlit l vc (if vc = 1 ∨ vc = 4 then part else 0) (creditUnits b.length) s

/-- A packet leaves its pool, and its credit returns. -/
def leavePool (src : DevId) (path : Path) (b : Bytes) (s : State) : State :=
  let link (l : LinkId) : State :=
    match (getLink s l).pool.find? (fun e => e.2 == b) with
    | some e => returnCredit l e.1 b (updLink s l (fun q => { q with pool := dropFirst (fun x => x.2 == b) q.pool }))
    | none => s
  match path with
  | .loc => s
  | .bridle l => link l
  | .relay l => link l
  | .tether pl => updPlane s pl (fun q => { q with pool := dropFirst (fun x => x.1 == src && x.2 == b) q.pool })

-- Rows at their destination

def updRows (p : PartId) (f : List RowRec → List RowRec) (s : State) : State := updPart s p (fun q => { q with rows := f q.rows })
/-- Replace the row of a tag. -/
def updRow (p : PartId) (tag : Nat) (f : RowRec → RowRec) (s : State) : State :=
  updRows p (fun l => l.map (fun r => if r.tag = tag then f r else r)) s
/-- A row goes; one that waits in its pool leaves it. -/
def dropRow (p : PartId) (tag : Nat) (s : State) : State :=
  updRows p (fun l => l.filter (fun r => r.tag != tag))
    (eachOf ((getPart s p).rows.filter (fun r => r.tag == tag && r.stage == .waiting)) (fun r s => leavePool r.src r.path r.pkt s) s)

/-- Is the row of the step that a CONJ.STEP carries: its STEP, its LAYER, from a participant (R210)? -/
def ofStep (c : Conj) (r : RowRec) : Bool := r.step == c.step && r.layer == c.layer && c.parts.contains r.src

/-- The executing step of a partition, or the torn-down one it still serves. -/
def stepOf (s : State) (p : PartId) (r : RowRec) : Option Conj :=
  let q := getPart s p
  match q.conj with
  | some c => if ofStep c r then some c else (match q.served with | some d => if ofStep d r then some d else none | none => none)
  | none => match q.served with | some d => if ofStep d r then some d else none | none => none

/-- Change the counts of the step that a row belongs to. -/
def updStep (p : PartId) (r : RowRec) (f : Conj → Conj) (s : State) : State :=
  updPart s p (fun q => match q.conj with
    | some c => if ofStep c r then { q with conj := some (f c) } else { q with served := q.served.map (fun d => if ofStep d r then f d else d) }
    | none => { q with served := q.served.map (fun d => if ofStep d r then f d else d) })

/-- The place of a path among rows of one receive timestamp (R273). -/
def pathOrder : Path → Nat
  | .loc => 0
  | .bridle l => 1 + l.val
  | .relay l => 1 + l.val
  | .tether pl => 17 + pl.val

/-- The order of admission: receive timestamp, then path (R273). -/
def admitKey (r : RowRec) : Nat × Nat := (r.dt, pathOrder r.path)
def earlier (a b : Nat × Nat) : Bool := decide (a.1 < b.1) || (a.1 == b.1 && decide (a.2 < b.2))

/-- The clauses that a replica of this device has admitted, by their place in the order. -/
def admittedTo (c : Conj) (e k : Nat) : List (Nat × Nat) :=
  (c.admitted.filter (fun x => x.1 == e && x.2.1 == k)).map (fun x => x.2.2)
def addAdmitted (r : RowRec) (c : Conj) : Conj := { c with admitted := c.admitted ++ [(r.expert, r.cluster, admitKey r)] }
def subAdmitted (r : RowRec) (c : Conj) : Conj := { c with admitted := c.admitted.erase (r.expert, r.cluster, admitKey r) }
/-- Rows of an expert received in the step (R272). -/
def receivedOf (c : Conj) (e : Nat) : Nat := (c.received.filter (fun x => x.1 == e)).foldl (fun a x => a + x.2) 0

/-- An overflow of an expert: the count, and the record once per step and expert (R277). -/
def noteOverflow (p : PartId) (r : RowRec) (s : State) : State :=
  let s := cntPart 0x000B002C 1 p s
  match stepOf s p r with
  | some c =>
    if c.overflowRec.contains r.expert then s
    else record p { code := 0x0501, cls := .corrected, source := 3, tag := c.tag, detail0 := r.expert }
      (updStep p r (fun c => { c with overflowRec := c.overflowRec ++ [r.expert] }) s)
  | none => s

/-- A DROP notice for a clause (R275): to the token's device, or to the own combine. -/
def sendDrop (p : PartId) (r : RowRec) (s : State) : State :=
  if r.src = ownId s then
    let s := clauseFlag p (tagSlot r.tag) (tagRank r.tag) (2 ^ 18 + 2 ^ 19) s
    let s := updSlot p (tagSlot r.tag) (fun x => { x with dropped := x.dropped + 1 }) s
    contribute p r.tag r.partEpoch r.slotGen none false false s
  else cntPart 0x000D002C 1 p (sendPacket r.src p .ctrl {
    tag := r.tag, kind := 5, partEpoch := r.partEpoch, slotGen := r.slotGen, step := r.step, comm := r.comm } s)

/-- A clause is dropped at its destination: its row goes, and the notice with it (R275). -/
def dropClause (p : PartId) (r : RowRec) (s : State) : State :=
  sendDrop p r (cntPart 0x000B0030 1 p (dropRow p r.tag s))

/-- Mark a row as overflow under its layer's OVFL (R275); what it shows of a speculative one waits for the verdict (R298). -/
def overflowRow (p : PartId) (r : RowRec) (s : State) : State :=
  if r.spec then updRow p r.tag (fun x => { x with overflow := true }) s
  else
  let s := noteOverflow p r s
  if dropsOverflow s p r.layer then dropClause p r s
  else
    let s := updRow p r.tag (fun x => { x with overflow := true }) s
    if r.src = ownId s then clauseFlag p (tagSlot r.tag) (tagRank r.tag) (2 ^ 18) s else s

/-- Rows of a partition that stand in the Ballast, and its high-water mark (R281). -/
def ballastUse (s : State) (p : PartId) : Nat := ((getPart s p).rows.filter (fun r => r.ballast && r.stage == .stored)).length
def ballastMark (p : PartId) (s : State) : State :=
  if ballastUse s p > regPart s p 0x000B0038 then setRegPart 0x000B0038 (ballastUse s p) p s else s

/-- Rows that the received-row store of a partition holds: 1 GiB of rows of the largest resident model (R319, R322). -/
def rowStoreCap (s : State) (p : PartId) : Nat := 2 ^ 30 / (2 * ((getPart s p).models.map (·.dmodel)).foldl max 0 + 64)
def rowStoreUse (s : State) (p : PartId) : Nat := ((getPart s p).rows.filter (fun r => !r.ballast && r.stage == .stored && r.src != ownId s)).length
/-- Rows of the Ballast of the job's model (R272). -/
def ballastCap (s : State) (p : PartId) : Nat := match jobModel (getPart s p) with | some m => m.ballastRows | none => 0
/-- Is the row store, or the Ballast, without a free row; and does the destination withhold ROW credit of the partition (R272, R322)? -/
def storeFull (s : State) (p : PartId) : Bool := decide (rowStoreUse s p ≥ rowStoreCap s p)
def ballastFull (s : State) (p : PartId) : Bool := decide (ballastCap s p > 0) && decide (ballastUse s p ≥ ballastCap s p)
def rowWithheld (s : State) (p : PartId) : Bool := storeFull s p || ballastFull s p

/-- The rows of a replica that have been received and wait for their turn in a flow, by their place in the order of R273. -/
def heldRows (s : State) (p : PartId) (c : Conj) (e k : Nat) : List (Nat × Nat) :=
  (s.net.flows.filter (fun f => f.1 % 4 == p.val && c.parts.contains (f.1 / 4))).flatMap (fun f =>
    f.2.rxHeld.filterMap (fun h =>
      match (if h.piece then none else parsePacket h.bytes) with
      | some x => if x.kind == 1 && !x.reissue && x.expert == e && x.cluster == k && x.step == c.step && tagLayer x.tag == c.layer
          then some (h.dt, pathOrder h.path) else none
      | none => none))

/-- Is a row among the first C of its replica in the order of R273: fewer than `cap` rows admitted or received come before it? -/
def admits (s : State) (p : PartId) (c : Conj) (r : RowRec) (cap : Nat) : Bool :=
  decide (((admittedTo c r.expert r.cluster).filter (fun x => !earlier (admitKey r) x)).length +
    ((heldRows s p c r.expert r.cluster).filter (fun x => earlier x (admitKey r))).length < cap)

/-- The last admitted row of a replica, where one more than its capacity stands admitted: a row of the same timestamp and an
earlier path has come after it (R273). -/
def displaced (s : State) (p : PartId) (c : Conj) (r : RowRec) (cap : Nat) : Option RowRec :=
  let l := admittedTo c r.expert r.cluster
  if l.length ≤ cap then none
  else
    let last := l.foldl (fun a x => if earlier x a then a else x) (0, 0)
    (getPart s p).rows.find? (fun x => ofStep c x && x.expert == r.expert && x.cluster == r.cluster && !x.reissue && !x.overflow && admitKey x == last)

/-- A row is admitted or overflows in Gust, in the order of receive timestamps (R273). DEDUCED: notes/assumptions/94.md. -/
def admitGust (p : PartId) (r : RowRec) (cap : Nat) (s : State) : State :=
  match stepOf s p r with
  | none => s
  | some c =>
    if !admits s p c r cap then overflowRow p r (nondet p s)
    else
      let s := updStep p r (addAdmitted r) s
      match (stepOf s p r).bind (fun c => displaced s p c r cap) with
      | some x => overflowRow p x (nondet p (updStep p x (subAdmitted x) s))
      | none => s

/-- Does a row beyond the first C of its expert take a Ballast row now (R272)? -/
def takesBallast (s : State) (p : PartId) (late : Bool) : Bool := late && decide (ballastUse s p < ballastCap s p)

/-- Count an arriving row among those of its expert, give it a Ballast row where it needs one and one is free, and admit it, in Gust
at once (R272, R273, R276). Home clauses and expert-choice layers are never counted; re-issued clauses take a Ballast row, but do
not count towards the replica's capacity. DEDUCED: notes/assumptions/94.md. -/
def admitRow (p : PartId) (r : RowRec) (s : State) : State :=
  if r.expert == 0xFFFF || !tokenChoice s p r.layer then s
  else
    match stepOf s p r with
    | none => s
    | some c =>
      let cap := capacityOf s p r.layer
      let late := decide (receivedOf c r.expert ≥ cap)
      let ballast := takesBallast s p late && r.stage == .stored
      let s := updStep p r (fun c => { c with received := (c.received.filter (fun x => x.1 != r.expert)) ++ [(r.expert, receivedOf c r.expert + 1)] }) s
      let s := ballastMark p (updRow p r.tag (fun x => { x with late := late, ballast := ballast }) s)
      let s := if ballast then charge p 0 r.row.length s else s
      if r.reissue || (getPart s p).job.stillAir then s else admitGust p { r with late := late, ballast := ballast } cap s

/-- Keep a row that a packet or the local path brings. -/
def storeRow (p : PartId) (r : RowRec) (s : State) : State :=
  let s := if r.spec then cntPart64 0x000A0028 1 p s else s
  admitRow p r (updRows p (fun l => l ++ [r]) s)

/-- Rows that wait in their pools are stored, in their order, while the row store and the Ballast have room: their packets leave
the pools, whose credit returns (R272, R322, R346). -/
def storeWaiting (p : PartId) : Nat → State → State
  | 0, s => s
  | n + 1, s =>
    match (getPart s p).rows.find? (fun r => r.stage == .waiting) with
    | none => s
    | some r =>
      if rowWithheld s p then s
      else
        let s := updRow p r.tag (fun x => { x with stage := .stored, pkt := [], moved := false, ballast := takesBallast s p x.late }) (leavePool r.src r.path r.pkt s)
        let s := if takesBallast s p r.late then charge p 0 r.row.length s else s
        storeWaiting p n (ballastMark p s)

/-- Each row that waits counts once for the row store that is full, and once for the Ballast (R272, R322). -/
def noteStalls (p : PartId) (s : State) : State :=
  let store := storeFull s p
  let ballast := ballastFull s p
  let w := (getPart s p).rows.filter (fun r => r.stage == .waiting)
  let s := cntPart 0x000D0034 (w.filter (fun r => store && !r.storeStall)).length p s
  let s := cntPart 0x000B003C (w.filter (fun r => ballast && !r.ballastStall)).length p s
  updRows p (fun l => l.map (fun r => if r.stage == .waiting then
    { r with storeStall := r.storeStall || store, ballastStall := r.ballastStall || ballast } else r)) s

/-- Store what may be stored of the rows that wait, and count those that still wait. -/
def settleRows (p : PartId) (s : State) : State :=
  noteStalls p (storeWaiting p ((getPart s p).rows.filter (fun r => r.stage == .waiting)).length s)

/-- Hold a fault with the speculative rows of some tags (R299). DEDUCED: notes/assumptions/58.md. -/
def holdFault (p : PartId) (tags : List Nat) (e : ErrRec) (s : State) : State :=
  updRows p (fun l => l.map (fun r => if r.spec && tags.contains r.tag then { r with heldFaults := r.heldFaults ++ [(s.free, e)] } else r))
    { s with free := s.free + 1 }

/-- Return the result of a row under its committed tag (R296, R313, R324). -/
def returnResult (p : PartId) (r : RowRec) (tag weight : Nat) (d : List Nat) (poison : Bool) (s : State) : State :=
  let y := scaleRow weight d
  if r.src = ownId s then
    contribute p tag r.partEpoch r.slotGen (some y) poison (r.expert == 0xFFFF) s
  else
    cntPart64 0x000D0018 1 p (sendPacket r.src p .result {
      tag := tag, kind := 2, poison := poison, expert := r.expert, partEpoch := r.partEpoch, slotGen := r.slotGen,
      step := r.step, comm := r.comm, payload := halvesBytes y } s)

/-- Does a row hold a fault of this identity? -/
def holdsFault (id : Nat) (r : RowRec) : Bool := r.heldFaults.any (fun e => e.1 == id)

/-- A speculative row is cancelled or freed: a fault held with it is suppressed when no other row holds it (R299).
DEDUCED: notes/assumptions/58.md. -/
def suppressFault (p : PartId) (r : RowRec) (s : State) : State :=
  eachOf (r.heldFaults.map (·.1)) (fun id s =>
    if (getPart s p).rows.any (fun x => x.tag != r.tag && holdsFault id x) then s else suppress p 1 s) s

/-- A speculative row is confirmed: the faults held with it are recorded under the CONJ.STEP's tag (R299); a corrected HBM error counts
as one (R460). -/
def confirmFault (p : PartId) (r : RowRec) (s : State) : State :=
  let tag := match stepOf s p r with | some c => c.tag | none => 0
  eachOf r.heldFaults (fun x s =>
    updRows p (fun l => l.map (fun y => { y with heldFaults := y.heldFaults.filter (fun e => e.1 != x.1) }))
      (record p { x.2 with tag := tag } (if x.2.code = 0x0301 then cntPart 0x00060040 1 p s else s))) s

/-- The count of admitted clauses falls by one when a speculative clause is freed (R276). -/
def uncount (p : PartId) (r : RowRec) (s : State) : State :=
  updStep p r (fun c => if r.overflow then c else subAdmitted r c) s

/-- Free a speculative row or hold entry without a verdict (R297): the count falls and an orphan is counted. -/
def orphanRow (p : PartId) (r : RowRec) (s : State) : State :=
  cntPart 0x000A004C 1 p (suppressFault p r (uncount p r (dropRow p r.tag s)))

/-- Free every row kept for a device and partition index; speculative ones are orphans (R297, R316). -/
def freeRowsOf (d : DevId) (p : PartId) (s : State) : State :=
  let rs := (getPart s p).rows.filter (fun r => r.src == d)
  let s := updPart s p (fun q => { q with closes := q.closes.filter (fun x => x.dev != d) })
  eachOf rs (fun r s => if r.spec then orphanRow p r s else dropRow p r.tag s) s

-- Verdicts at the destination (R296)

/-- The committed tag of a speculative clause (R292). DEDUCED: notes/assumptions/15.md. -/
def committedTag (tag rank : Nat) : Nat := mkTag (tagDev tag) (tagSlot tag) rank (tagEpoch tag) (tagPart tag) false (tagLayer tag)

/-- A speculative row is confirmed: it stands as an ordinary row under its committed tag and weight, and an overflow noted with
it takes effect (R275, R296, R298). -/
def confirmRow (p : PartId) (r : RowRec) (rank weight : Nat) (s : State) : State :=
  let x : RowRec := { r with tag := committedTag r.tag rank, spec := false, weight := weight, heldFaults := [], verdict := none }
  let s := updRow p r.tag (fun _ => x) (confirmFault p r s)
  if r.overflow then overflowRow p x s else s

/-- A confirmed hold entry returns its result (R255, R296), unless its clause overflowed and was dropped. -/
def releaseRow (p : PartId) (r : RowRec) (rank weight : Nat) (s : State) : State :=
  let t := committedTag r.tag rank
  match (getPart s p).rows.find? (fun x => x.tag == t && !x.spec && x.stage == .held) with
  | none => s
  | some x =>
    let s := if nonFinite (scaleRow weight r.heldD) then cntPart 0x000E0024 1 p s else s
    returnResult p x t weight r.heldD r.heldPoison (dropRow p t s)

/-- Apply a verdict to a speculative row of this device. -/
def applyVerdict (p : PartId) (tag : Nat) (confirm : Bool) (rank weight : Nat) (s : State) : State :=
  match (getPart s p).rows.find? (fun r => r.tag == tag && r.spec) with
  | none => s
  | some r =>
    match r.stage with
    | .computing => updRow p tag (fun r => { r with verdict := some (confirm, rank, weight) }) s
    | .waiting => if confirm then confirmRow p r rank weight s else suppressFault p r (uncount p r (dropRow p tag s))
    | .stored => if confirm then confirmRow p r rank weight s else suppressFault p r (uncount p r (dropRow p tag s))
    | .held =>
      if confirm then releaseRow p r rank weight (confirmRow p r rank weight s)
      else cntPart 0x000A0044 1 p (suppressFault p r (uncount p r (dropRow p tag s)))

-- Clauses of the own tokens

/-- The lead cluster of home passes (R86, R94, R279). DEDUCED: notes/assumptions/41.md. -/
def homeLead (s : State) (p : PartId) : Nat :=
  let own := clustersOf s p
  let named := (s.cfg.home[p]).homeCluster.getD ((own.head?).getD 0)
  if bitOf (getPart s p).job.clusters named.val && clusterServes s (ownId s) named.val then named.val
  else ((own.find? (fun c => bitOf (getPart s p).job.clusters c.val && clusterServes s (ownId s) c.val)).getD named).val

/-- The token row of a slot as it is sent: zero where bytes never arrived. -/
def slotRow (s : State) (p : PartId) (i : Nat) : Bytes := (getSlot s p i).row

/-- Put a clause on its way: the local path, a home pass of the own device, or a ROW packet (R18, R37, R279, R313). -/
def sendClause (p : PartId) (c : Conj) (x : Clause) (s : State) : State :=
  let r := getSlot s p x.slot
  let spec := x.stage == .spec
  if x.dev = ownId s then
    storeRow p {
      tag := x.tag, src := ownId s, path := .loc, expert := x.expert, cluster := x.cluster, layer := c.layer, step := c.step,
      comm := c.comm, slotGen := r.gen, partEpoch := (getPart s p).epoch, weight := x.weight, key := x.key, row := r.row,
      poison := r.rowPoison, reissue := x.reissue, spec := spec, dt := dtNow s } s
  else
    cntPart64 0x000D0000 1 p (sendPacketAs x.epoch x.dev p .row {
      tag := x.tag, kind := 1, poison := r.rowPoison, reissue := x.reissue, cluster := x.cluster, expert := x.expert,
      partEpoch := (getPart s p).epoch, slotGen := r.gen, step := c.step, comm := c.comm, weight := x.weight, key := x.key,
      payload := r.row } s)

/-- Count a clause sent to its destination replica; re-issued and home clauses are not counted (R313). -/
def countSent (x : Clause) (c : Conj) : Conj :=
  if x.reissue || x.expert == 0xFFFF then c
  else
    let same (e : DevId × Nat × Nat × Nat) : Bool := e.1 == x.dev && e.2.1 == x.expert && e.2.2.1 == x.cluster
    let n := ((c.sent.find? same).map (fun e => e.2.2.2)).getD 0
    { c with sent := (c.sent.filter (fun e => !same e)) ++ [(x.dev, x.expert, x.cluster, n + 1)] }

/-- Hold a clause as outstanding, count it and send it. -/
def issueClause (p : PartId) (x : Clause) (s : State) : State :=
  match (getPart s p).conj with
  | none => s
  | some c =>
    let s := updConj p (fun c => countSent x { c with clauses := c.clauses ++ [x] }) s
    sendClause p c x s

/-- A clause becomes a home clause with a reason (R39, R278, R421); reason 3 at resolution records FALLBACK_TAKEN. -/
def homeClause (p : PartId) (x : Clause) (reason : Nat) (s : State) : State :=
  let s := clauseHome p x.slot x.rank reason s
  let s := if reason = 3 then outside p 3 s else s
  let s := match (getPart s p).conj with
    | some c => if reason = 3 && !c.fallbackRec.contains x.expert then
        record p { code := 0x0503, cls := .corrected, source := 1, tag := c.tag, detail0 := x.expert }
          (updConj p (fun c => { c with fallbackRec := c.fallbackRec ++ [x.expert] }) s)
      else s
    | none => s
  let s := if reason = 3 then cntDev 0x00010060 1 s else s
  issueClause p { x with expert := 0xFFFF, dev := ownId s, cluster := homeLead s p, stage := .sent, reissue := false } s

-- Rows that wait to be sent (R289, R419, R421)

/-- Speculative rows that wait unsent when their bond goes down are not eligible, and are withdrawn (R289). -/
def withdrawSpecs (p : PartId) (s : State) : State :=
  match (getPart s p).conj with
  | none => s
  | some c =>
    eachOf (c.clauses.filter (fun x => x.stage == .spec && x.dev != ownId s && !bondUp s (x.dev % 16) && rowWaiting s x.tag))
      (fun x s => cntPart64 0x000A0008 (2 ^ 64 - 1) p (cntPart 0x000A0034 1 p (withdrawRow p x s))) s

/-- A clause re-issued for the first time that had not been admitted at its first destination counts in NONDET (R276, R438). A
row not yet sent was not, nor one refused on arrival; of a row that went out, or that DRAIN_CAP refused, the sender is told nothing:
a free value. DEDUCED: notes/assumptions/95.md. -/
def noteUnadmitted (p : PartId) (c : Conj) (x : Clause) (admitted : Option Bool) (s : State) : State :=
  if x.reissue || !tokenChoice s p c.layer || admitted == some true then s
  else if admitted == some false || rowWaiting s x.tag then nondet p s
  else
    let (v, s) := takeFree s
    if v % 2 = 1 then nondet p s else s

/-- Move a late clause to the home expert (R421). -/
def lateHome (p : PartId) (x : Clause) (s : State) : State := homeClause p x 2 (cntPart 0x00020084 1 p s)

/-- Re-issue an outstanding clause with a device excluded (R468): under the latch one that would go to another device becomes a
home clause (R421); `admitted` where it is known whether its destination had admitted
its row. DEDUCED: notes/assumptions/54.md. -/
def reissueClause (p : PartId) (x : Clause) (bad : Option DevId) (admitted : Option Bool) (s : State) : State :=
  match (getPart s p).conj, jobModel (getPart s p) with
  | some c, some m =>
    if x.expert = 0xFFFF then s
    else
      let excl := match bad with | some d => if x.excluded.contains d then x.excluded else x.excluded ++ [d] | none => x.excluded
      let s := updConj p (fun c => { c with clauses := c.clauses.filter (fun y => !(y.slot == x.slot && y.rank == x.rank && y.stage == x.stage)) }) s
      let s := noteUnadmitted p c x admitted s
      match mapPoison s p m c.layer x.expert with
      | some a => jobFault p { code := 0x0302, source := 0xA, tag := c.tag, addr := a } s
      | none => match resolve s p m c.layer x.expert x.slot excl with
        | some (d, k) =>
          if c.latch && d ≠ ownId s then lateHome p { x with excluded := excl } s
          else
            let s := if dropsOverflow s p c.layer then outside p 5 s else s
            let s := clauseRes p x d k (cntPart 0x000D0024 1 p s)
            issueClause p { x with dev := d, cluster := k, stage := .sent, reissue := true, excluded := excl, epoch := ownEpoch s } s
        | none => homeClause p { x with excluded := excl } (if c.latch then 2 else 3) s
  | _, _ => s
where
  /-- The new resolution enters the clause's record. -/
  clauseRes (p : PartId) (x : Clause) (d : DevId) (k : Nat) (s : State) : State :=
    match (getPart s p).conj with
    | some c => if x.slot < c.first ∨ x.slot ≥ c.first + c.count then s
      else clauseWrite p c.clauseTd (x.slot - c.first) x.rank
        ((clauseRead s p c.clauseTd (x.slot - c.first) x.rank).take 12 ++ toLe 4 (resWord d k)) s
    | none => s

/-- The outstanding committed clauses of a partition to a device. -/
def clausesTo (s : State) (p : PartId) (d : DevId) : List Clause :=
  match (getPart s p).conj with
  | some c => c.clauses.filter (fun x => x.dev == d && x.stage == .sent && x.expert != 0xFFFF && d != ownId s)
  | none => []

/-- Every outstanding clause of a partition to a device is re-issued (R466). -/
def reissueTo (p : PartId) (d : DevId) (s : State) : State :=
  eachOf (clausesTo s p d) (fun x s => reissueClause p x (some d) none s) s

-- The order of a flow (R316, R350)

/-- Compare a packet's PART_EPOCH with the record (R316): true when it is discarded as stale. -/
def staleEpoch (rec e : Nat) : Bool := (e + 65536 - rec) % 65536 ≥ 32768

/-- Discard packets that a flow holds (R350): they leave their pools or the reorder buffer, and the flow passes over their numbers.
DEDUCED: notes/assumptions/50.md. -/
def dropHeld (d : DevId) (p : PartId) (gone : HeldPkt → Bool) (s : State) : State :=
  let l := (getFlow s d p.val).rxHeld.filter gone
  if l.isEmpty then s
  else updFlow d p.val (fun f => { f with rxHeld := f.rxHeld.map (fun e => if gone e then { e with bytes := [], moved := false } else e) })
    (eachOf l (fun e s => if e.moved then s else leavePool d e.path e.bytes s) s)

/-- The sender's PART_EPOCH that a packet or piece shows (R316); RESULT and DROP carry the receiver's own. -/
def shownEpoch (isPiece : Bool) (b : Bytes) : Option Nat :=
  let h := b.drop (b.length - 64)
  let kind := leAt h 8 1 % 16
  if isPiece then some (leAt h 14 2) else if kind = 2 ∨ kind = 5 then none else some (leAt h 16 2)

/-- A held packet or piece of an older PART_EPOCH than `e` (R316, R350); a RESULT or DROP, which shows none, is older where its
FLOW_SEQ comes before that of the packet which showed `e`, `seq`. DEDUCED: notes/assumptions/50.md. -/
def heldStale (e seq : Nat) (x : HeldPkt) : Bool :=
  match shownEpoch x.piece x.bytes with
  | some n => staleEpoch e n
  | none => ssnBefore x.seq seq

-- Reachability (R40, R297, R317)

/-- A relay discards what it holds for a device, or of a device, that it marks unreachable (R353). -/
def dropForwarded (d : DevId) (s : State) : State :=
  { s with bridle := { s.bridle with held := s.bridle.held.filter (fun x => x.dst != d && x.src != d) } }

/-- Mark a device unreachable: DEV_REACH_CHG, its speculative rows freed, clauses to it re-issued. -/
def markUnreachable (d : DevId) (s : State) : State :=
  if (getPeer s d).unreachable || d == ownId s then s
  else
    let s := dropForwarded d (cntDev 0x00010064 1 (updPeer d (fun q => { q with unreachable := true }) s))
    eachOf allParts (fun p s =>
      let s := dropHeld d p (fun _ => true) s
      let orphans := (getPart s p).rows.filter (fun r => r.src == d && r.spec)
      reissueTo p d (eachOf orphans (fun r s => orphanRow p r s) s)) s

/-- A path to a device has completed a handshake (R40); a device whose epoch was behind waits for a current one (R120). -/
def markReachable (d : DevId) (s : State) : State :=
  if !(getPeer s d).unreachable || (getPeer s d).behind then s
  else drainOut (cntDev 0x00010064 1 (updPeer d (fun q => { q with unreachable := false }) s))

/-- A device shows its group's epoch: where it is current, a mark for a stale epoch ends (R120). DEDUCED: notes/assumptions/51.md. -/
def showEpoch (d : DevId) (e : Nat) (s : State) : State :=
  if (getPeer s d).behind && e == tabGet 0 s.commit.epochs (d / 16) then
    let s := updPeer d (fun q => { q with behind := false }) s
    if pathUp s d then markReachable d s else s
  else s

/-- The devices that the maps in force name (R34, R40). -/
def mapDevs (s : State) : List DevId :=
  allParts.flatMap (fun p => (getPart s p).models.flatMap (fun x => x.maps.flatMap (fun (_, e) => match e.offset with
    | none => []
    | some off => (List.range x.experts).flatMap (fun k => (entryReplicas (spaceRead s p 0 (off + 16 * k) 16)).map (·.1)))))

/-- The other devices that the topology record lists (R40, R84), the members of each of its groups by the own GROUP_SIZE, and
those that a map or traffic names. DEDUCED: notes/assumptions/81.md. -/
def listedDevs (s : State) : List DevId :=
  let gs := match s.cfg.topo with | some t => (List.range t.groupCount) | none => [s.cfg.group.group]
  (gs.flatMap (fun g => (List.range s.cfg.group.size).map (fun m => 16 * g + m)) ++ mapDevs s ++
    s.net.peers.map (·.1)).eraseDups.filter (· ≠ ownId s)

/-- Re-judge the reachability of every listed device: no path up marks it unreachable. Every device is reachable at
start-up, until link training ends (R40). DEDUCED: notes/assumptions/81.md. -/
def judgeReach (s : State) : State :=
  if s.boot.state != .timeSync && s.boot.state != .ready then s
  else eachOf (listedDevs s) (fun d s => if !pathUp s d then markUnreachable d s else s) s

/-- The members that a relay reaches now and did not reach before: the path's handshake is the advertisement's (R40, R352).
DEDUCED: notes/assumptions/81.md. -/
def relayReach (before : State) (s : State) : State :=
  eachOf ((List.range s.cfg.group.size).filter (fun m => (relaySet before m).isEmpty && !(relaySet s m).isEmpty))
    (fun m s => markReachable (16 * s.cfg.group.group + m) s) s

/-- Forget what is queued for a device on links, contexts and path-less queues (R317). -/
def dropTraffic (d : DevId) (s : State) : State :=
  { s with
    links := s.links.map (fun q => { q with
      unacked := q.unacked.map (fun t => match t.last with
        | some (e, fwd, fl, _) => if e == d && fwd.isNone && fl != 255 then { t with last := none } else t
        | none => t) })
    net := { s.net with wait := s.net.wait.filter (fun w => w.dst != d), msgs := s.net.msgs.filter (fun e => e.1 != d) }
    tether := { s.tether with
      ctxs := s.tether.ctxs.filter (fun e => match e.2 with | some c => c.peer != d | none => true) } }

/-- Learn a device's START_ID (R317): a different one means that it has restarted. -/
def learnStart (d : DevId) (id : Nat) (s : State) : State :=
  let old := (getPeer s d).startId
  let s := updPeer d (fun q => { q with startId := some id }) s
  match old with
  | none => s
  | some o =>
    if o = id then s
    else
      let s := dropTraffic d s
      eachOf allParts (fun p s => freeRowsOf d p (updFlow d p.val (fun _ => {}) (dropHeld d p (fun _ => true) s))) s

/-- Judge a sender's PART_EPOCH: none when the packet is stale. -/
def seeEpoch (d : DevId) (p : PartId) (e : Nat) (s : State) : Option State :=
  match (getFlow s d p.val).epoch with
  | none => some (updFlow d p.val (fun f => { f with epoch := some e }) s)
  | some r =>
    if e = r then some s
    else if staleEpoch r e then none
    else some (freeRowsOf d p (dropHeld d p (heldStale e (getFlow s d p.val).rxNext) (updFlow d p.val (fun f => { f with epoch := some e }) s)))

end Sys2Proof.Machine
end

