-- ==== Sys2Proof/Machine/Dual.lean ====
section
/-!
DEFINITION. Machine/Dual.lean: the settings block (spec/17 R433), Dual-Line pairing (R439 to R441) and the comparison of
completion records (R443 to R445).
-/
namespace Sys2Proof.Machine
open Sys2Proof

/-- The settings block of R433. -/
def settingsBlock (s : State) (cmdset cores : Nat) : Bytes :=
  toLe 1 1 ++ toLe 1 (s.fuses.stepping) ++ toLe 1 (match s.fuses.grade with | .h => 0 | .m => 1) ++ toLe 1 s.fuses.detClass ++
  toLe 1 s.cfg.clock.bootPstate ++ toLe 1 s.cfg.clock.pstateMask ++ toLe 1 (s.cfg.clock.pinPstate.getD 0xFF) ++
  toLe 1 s.cfg.clock.hbmRate ++ toLe 4 s.cfg.garku.build ++ toLe 1 cmdset ++ toLe 1 cores ++ List.replicate 18 0

/-- The settings fingerprint of a block (R433). -/
def fingerprint (b : Bytes) : Nat := leNat ((sha256 b).take 8)

/-- Bit p set for each DEFINED partition. -/
def definedMask (s : State) : Nat := packBits ((definedParts s).map (fun p => (1, p.val)))

/-- Send the HELLO of R440. -/
def dualHello (s : State) : State :=
  sendDual (dualMsg 3 0 0 0 0 0 (2 * b2n s.boot.aligned) (definedMask s) (settingsBlock s 0 0)) s

/-- DL_STATE changes. -/
def setDual (st : DlState) (s : State) : State := { s with dual := { s.dual with state := st } }

/-- Enter WAITING; a HELLO goes out when BL15 is up already (R439; notes/assumptions/6.md). -/
def dualWaiting (s : State) : State :=
  let s := setDual .waiting s
  if working (getLink s 15) then dualHello s else s

/-- The record of the compare may be issued; DL_WAIT_NS records the wait (R443). -/
def dualRelease (p : PartId) (w : DlWait) (s : State) : State :=
  setRegPart 0x00090098 ((dtNow s - w.sentDt) % 2 ^ 32) p
    (updPart s p (fun q => { q with dl := { q.dl with wait := none, decided := true } }))

/-- A compare ends in DL_MISMATCH with a cause (R443, R444). -/
def dualMismatch (p : PartId) (w : DlWait) (cause : Nat) (s : State) : State :=
  let s := setRegPart 0x00090098 ((dtNow s - w.sentDt) % 2 ^ 32) p s
  let s := cntPart 0x00090090 1 p s
  let s := updPart s p (fun q => { q with dl := { q.dl with wait := none, lastCause := cause } })
  let desc := match (getStream s p 6).exec with | some e => e.desc | none => []
  cmdFault p 6 desc 0x0901 cause w.seq s

/-- The decision on the pair's message for a waiting compare (R443). -/
def dualDecide (p : PartId) (w : DlWait) (r : DlRx) (s : State) : State :=
  if r.abandon then dualMismatch p w 4 s
  else if r.seq ≠ w.seq ∨ r.jobId ≠ w.jobId ∨ r.count ≠ w.count ∨ r.request ≠ w.request then dualMismatch p w 2 s
  else if r.exempt || w.exempt then dualRelease p w (cntPart 0x00090094 1 p s)
  else if r.check = w.check then
    dualRelease p w (updPart s p (fun q => { q with dl := { q.dl with compared := wrapAdd 64 q.dl.compared 1 } }))
  else dualMismatch p w 1 s

/-- Send this device's COMPARE and decide at once when the pair's is held; a held ABANDON of another DL_SEQ decides nothing
(R443). DEDUCED: notes/assumptions/102.md. -/
def dualStart (p : PartId) (jobId count request : Nat) (exempt : Bool) (check : Bytes) (s : State) : State :=
  let q := getPart s p
  let w : DlWait := { seq := q.dl.seq, jobId := jobId, count := count, request := request, check := check, exempt := exempt, sentDt := dtNow s }
  let s := updPart s p (fun q => { q with dl := { q.dl with seq := wrapAdd 32 q.dl.seq 1, wait := some w, decided := false } })
  let s := sendDual (dualMsg 1 p.val w.seq jobId count request (b2n exempt + 4) 0 check) s
  match (getPart s p).dl.rx.dropWhile (fun r => r.abandon && r.seq != w.seq) with
  | [] => updPart s p (fun q => { q with dl := { q.dl with rx := [] } })
  | r :: rest => dualDecide p w r (updPart s p (fun q => { q with dl := { q.dl with rx := rest } }))

/-- Is a Dual-Line message intact (R440)? -/
def dualOk (b : Bytes) : Bool := b.length == 64 && leAt b 60 4 == crc32c (b.take 60)

/-- The partition of a message. -/
def dualPart (b : Bytes) : Option PartId := if h : leAt b 1 1 < 4 then some ⟨leAt b 1 1, h⟩ else none

/-- A message for a partition's compare: decide, or hold it; an ABANDON of a DL_SEQ other than the waiting one has no effect
(R443). DEDUCED: notes/assumptions/102.md. -/
def dualMessage (p : PartId) (r : DlRx) (s : State) : State :=
  match (getPart s p).dl.wait with
  | some w => if r.abandon && r.seq != w.seq then s else dualDecide p w r s
  | none => updPart s p (fun q => { q with dl := { q.dl with rx := q.dl.rx ++ [r] } })

/-- End every waiting compare with cause 3 (R439). -/
def dualLost (s : State) : State :=
  eachOf allParts (fun p s => match (getPart s p).dl.wait with
    | some w => dualMismatch p w 3 s
    | none => s) s

/-- BL15 has gone DOWN (R439). -/
def dualLinkDown (s : State) : State :=
  if s.dual.state == .paired then setDual .waiting (dualLost s) else s

/-- BL15 enters DETECT (R439). -/
def dualDetect (s : State) : State := if s.dual.state == .refused then setDual .waiting s else s

/-- BL15 enters ACTIVE (R439). -/
def dualActive (s : State) : State := if s.dual.state == .waiting then dualHello s else s

/-- DL_HELLO_RECEIVE (R439); what was held of an earlier pairing is forgotten. DEDUCED: notes/assumptions/102.md. -/
def execDlHelloReceive (msg : Bytes) (s : State) : Out :=
  if !dualOk msg || leAt msg 0 1 != 3 then .next s
  else match s.dual.state with
  | .off => .next s
  | .refused => .next (setDual .waiting s)
  | .paired => .next (dualHello (setDual .waiting (dualLost s)))
  | .waiting =>
    let same := bytesAt msg 24 32 = settingsBlock s 0 0 ∧ leAt msg 17 1 = definedMask s
    let aligned := bitOf (leAt msg 16 1) 1 && s.boot.aligned
    if same ∧ aligned then
      .next (setDual .paired (eachOf allParts (fun p s => updPart s p (fun q => { q with dl := { q.dl with seq := 0, rx := [] } })) s))
    else
      .next (recordAll { code := 0x0902, cls := .corrected, source := 8, sub := if same then 0 else 2 } (setDual .refused s))

/-- DL_COMPARE_RECEIVE (R443): a message acts on a PAIRED device only. -/
def execDlCompareReceive (msg : Bytes) (s : State) : Out :=
  if !dualOk msg || leAt msg 0 1 != 1 || s.dual.state != .paired then .next s
  else match dualPart msg with
  | none => .next s
  | some p => .next (dualMessage p {
      seq := leAt msg 4 4, jobId := leAt msg 8 2, count := leAt msg 10 2, request := leAt msg 12 4,
      check := bytesAt msg 24 32, exempt := bitOf (leAt msg 16 1) 0 } s)

/-- DL_ABANDON_RECEIVE (R443). -/
def execDlAbandonReceive (msg : Bytes) (s : State) : Out :=
  if !dualOk msg || leAt msg 0 1 != 2 || s.dual.state != .paired then .next s
  else match dualPart msg with
  | none => .next s
  | some p => .next (dualMessage p { seq := leAt msg 4 4, abandon := true } s)

/-- DL_COMPARE_TIMEOUT (R443): cause 5. -/
def execDlCompareTimeout (p : PartId) (s : State) : Out :=
  match (getPart s p).dl.wait with
  | some w => if waitedOut s w.sentDt then .next (dualMismatch p w 5 s) else .next s
  | none => .next s

/-- DL_PAIR_LINK_DOWN (R439). -/
def execDlPairLinkDown (s : State) : Out := .next (dualLinkDown s)

end Sys2Proof.Machine
end

