-- ==== Sys2Proof/Machine/PairMsg.lean ====
section
/-!
DEFINITION. Machine/PairMsg.lean: the pair messages (spec/19 R479), the mirror of descriptors (R485), and the snapshots
of an active device (R486).
-/
namespace Sys2Proof.Machine
open Sys2Proof

/-- The fields of a pair message's header (R479). -/
structure PairHead where
  kind : Nat := 0
  part : Nat := 0
  role : Nat := 0
  flags : Nat := 0
  epoch : Nat := 0
  index : Nat := 0
  st : Nat := 0
  digest : Bytes := []
  deriving DecidableEq, Repr

/-- A pair message: header, CRC and payload (R479). -/
def pairBytes (h : PairHead) (payload : Bytes) : Bytes :=
  let b := toLe 1 h.kind ++ toLe 1 h.part ++ toLe 1 h.role ++ toLe 1 h.flags ++ toLe 4 h.epoch ++ toLe 4 h.index ++
    toLe 4 payload.length ++ toLe 8 h.st ++ bytesAt h.digest 0 32 ++ toLe 4 0
  b ++ toLe 4 (crc32c (payload ++ b)) ++ payload

/-- The header and payload of a received pair message; none where R479 discards it. -/
def parsePair (b : Bytes) : Option (PairHead × Bytes) :=
  let pay := b.drop 64
  if b.length < 64 ∨ pay.length > 8192 ∨ leAt b 12 4 ≠ pay.length ∨ leAt b 60 4 ≠ crc32c (pay ++ b.take 60) then none
  else if leAt b 0 1 = 0 ∨ leAt b 0 1 > 9 then none
  else some ({
    kind := leAt b 0 1, part := leAt b 1 1, role := leAt b 2 1, flags := leAt b 3 1, epoch := leAt b 4 4,
    index := leAt b 8 4, st := leAt b 16 8, digest := bytesAt b 24 32 }, pay)

/-- Role code of this device (R480). -/
def pairRole (s : State) : Nat := match s.pair.state with
  | .off => 0 | .waiting => 1 | .active => 2 | .standby => 3 | .deposed => 5 | .takeover => 6

/-- A message of this device, stamped with its role and ST. -/
def ownPair (h : PairHead) (payload : Bytes) (s : State) : Bytes := pairBytes { h with role := pairRole s, st := sysTime s } payload

/-- Send a pair message on BL15. -/
def sendPair (h : PairHead) (payload : Bytes) (s : State) : State :=
  let b := ownPair h payload s
  emit (.pair b) (sendPairLink b s)

-- The digest of HELLO (R478, R479)

/-- The PARTITIONS body of R80. DEDUCED: notes/assumptions/12.md. -/
def partsBody (ps : Vector PartCfg 4) : Bytes :=
  (ps.toList.map (fun e => toLe 1 e.clusterMask ++ toLe 1 e.urgentMask ++
    toLe 1 (b2n e.defined + 2 * b2n e.updraftEn + 4 * b2n e.bar4En) ++ toLe 1 0 ++ toLe 2 e.hbmBase ++ toLe 2 e.hbmUnits ++
    toLe 1 e.spoolMib ++ toLe 1 e.reelMib ++ toLe 2 0 ++ toLe 2 e.sycBase ++ toLe 2 e.sycCount ++ toLe 4 e.tokenSlots ++
    toLe 2 e.updClauses ++ toLe 2 0 ++ toLe 4 e.regHbm ++ toLe 4 e.regBridle ++ toLe 4 e.regTether ++ toLe 4 e.regHostDma ++
    toLe 2 e.weight ++ List.replicate 22 0)).flatten

/-- The PORT_MAP body of R81. DEDUCED: notes/assumptions/12.md. -/
def portsBody (ps : Vector PortCfg 4) : Bytes :=
  (ps.toList.map (fun e => toLe 1 (match e.partition with | some p => p.val | none => 0xFF) ++ toLe 1 e.maxGen ++
    toLe 1 e.maxWidth ++ toLe 1 (b2n e.ideRequired + 2 * b2n e.laneReverse) ++ toLe 4 0)).flatten

/-- The DETERMINISM body of R90. DEDUCED: notes/assumptions/12.md. -/
def detBody (ds : Vector DetCfg 4) : Bytes :=
  (ds.toList.map (fun e => toLe 1 (b2n e.stillAirDefault + 2 * b2n e.digestDefault))).flatten ++ toLe 4 0

/-- SHA-256 over the three record bodies of the start image (notes/assumptions/12.md). -/
def pairDigest (s : State) : Bytes :=
  let c := s.img.image.getD s.cfg
  sha256 (partsBody c.parts ++ portsBody c.ports ++ detBody c.det)

/-- Send HELLO (R479). -/
def pairHello (s : State) : State := sendPair { kind := 1, digest := pairDigest s } [] s

/-- BL15 enters ACTIVE (R479). -/
def pairActive (s : State) : State := if s.cfg.group.pairMode = 2 then pairHello s else s

/-- Mirror a descriptor that has entered a queue of an active device (R485). -/
def mirrorDesc (p : PartId) (st : StreamId) (idx : Nat) (d : Bytes) (s : State) : State :=
  if s.pair.state != .active then s
  else sendPair { kind := 2, part := p.val, index := 2 ^ 29 * st.val + idx % 2 ^ 29 } d s

-- Snapshots (R486)

/-- Number and entries of a section whose count takes 8 bytes. -/
def countSection (es : List Bytes) : Bytes := toLe 8 es.length ++ es.flatten

/-- The queue entry of a stream: the QUE_ENTERED index of its first descriptor still queued (notes/assumptions/13.md), CT0 to CT7, RING_BASE, RING_CTL, RING_HEAD. -/
def queueEntry (x : Stream) : Bytes :=
  toLe 4 ((2 ^ 32 + x.entered - x.queue.length) % 2 ^ 32) ++ (x.ct.toList.map (fun w => toLe 4 w.toNat)).flatten ++ toLe 8 x.ringBase ++
  toLe 4 (x.ringLog2 + 2 ^ 31 * b2n x.ringEnable) ++ toLe 4 x.ringHead ++ List.replicate 12 0

/-- The nonzero sync counters of a partition, by relative index. -/
def sycEntries (s : State) (p : PartId) : List Bytes :=
  let c := partCfg s p
  (s.syc.filter (fun e => decide (c.sycBase ≤ e.1) && decide (e.1 < c.sycBase + c.sycCount))).map
    (fun e => toLe 4 (e.1 - c.sycBase) ++ toLe 4 e.2)

/-- The entry of a TD. -/
def tdEntry (e : Nat × Bytes) : Bytes := toLe 2 e.1 ++ List.replicate 6 0 ++ bytesAt e.2 0 32

/-- The MODELS section; with no current model the current slot is a free value. -/
def modelsSection (s : State) (p : PartId) : Bytes × State :=
  let q := getPart s p
  let (cur, s) := match modelOf q q.curModel with
    | some m => (m.slot, s)
    | none => let (v, s) := takeFree s; (v % 256, s)
  (toLe 1 q.models.length ++ toLe 1 cur ++ List.replicate 6 0 ++
    (q.models.map (fun m => toLe 1 m.slot ++ List.replicate 7 0 ++ bytesAt m.programDigest 0 32 ++ bytesAt m.weightsDigest 0 32)).flatten, s)

/-- Record the state of the partition's job end. DEDUCED: notes/assumptions/13.md; DEDUCED: notes/assumptions/39.md. -/
def captureBoundary (p : PartId) (s : State) : State :=
  let q := getPart s p
  let (models, s) := modelsSection s p
  let b : Boundary := {
    epoch := q.epoch, job := q.job.id, st := sysTime s, recordSeq := q.recordSeq
    queue := (q.streams.toList.map queueEntry).flatten
    syc := countSection (sycEntries s p)
    models := models
    dirty := q.sb.tdDirty.map (fun i => (i, tdGet s p i))
    tds := q.tds.filter (fun e => tdValid e.2) }
  updPart s p (fun q => { q with sb := { q.sb with boundary := some b, tdDirty := [] } })

/-- The bytes of a snapshot of a boundary: kind 0 job end, 1 heartbeat, 2 full. DEDUCED: notes/assumptions/38.md. -/
def snapshotBytes (b : Boundary) (kind issued : Nat) (staged : List Staged) : Bytes :=
  let recs := staged.map (fun x => toLe 8 x.addr ++ x.record)
  let body := toLe 2 kind ++ toLe 2 b.epoch ++ toLe 2 b.job ++ toLe 2 0 ++ toLe 8 b.st ++ toLe 2 b.recordSeq ++ List.replicate 46 0 ++
    b.queue ++ b.syc ++ countSection ((if kind = 2 then b.tds else b.dirty).map tdEntry) ++ b.models ++
    toLe 8 recs.length ++ toLe 8 issued ++ recs.flatten
  let c := body ++ toLe 8 (body.length + 64)
  c ++ toLe 8 (crc64 c) ++ List.replicate 48 0

/-- Send the pieces of a snapshot, 8,192 bytes at most each. -/
def sendSnap (p : PartId) (epoch : Nat) : Nat → Nat → Bytes → State → State
  | 0, _, _, s => s
  | fuel + 1, off, b, s =>
    let now := b.take 8192
    let rest := b.drop 8192
    let s := sendPair { kind := 3, part := p.val, flags := b2n rest.isEmpty, epoch := epoch, index := off } now s
    if rest.isEmpty then s else sendSnap p epoch fuel (off + 8192) rest s

-- Issuing staged records (R143, R488)

/-- Free the slots of a range (R21). -/
def freeSlots (p : PartId) (first count : Nat) (s : State) : State :=
  updPart s p (fun q => { q with slots :=
    (q.slots.map (fun e => if first ≤ e.1 ∧ e.1 < first + count then (e.1, { gen := e.2.gen }) else e)).filter (fun e => e.2 != {}) })

/-- Write a completion record to the host; its slots become free (R21, R143). -/
def issueRecord (p : PartId) (addr : Nat) (record : Bytes) (first count : Nat) (s : State) : State :=
  let s := match portOf s p with
    | some k => wakeEvent k 0 (dmaPush k (writeReqs (getPort s k) .record addr record) s)
    | none => s
  freeSlots p first count (updPart s p (fun q => { q with sb := { q.sb with issued := wrapAdd 32 q.sb.issued 1 } }))

/-- Issue the first staged record of a partition. -/
def issueStaged (p : PartId) (x : Staged) (s : State) : State :=
  let s := updPart s p (fun q => { q with sb := { q.sb with staged := q.sb.staged.drop 1, gateNs := (dtNow s - x.dt) % 2 ^ 32 } })
  let s := issueRecord p x.addr x.record x.first x.count s
  if x.irq then msixPart p 7 s else s

/-- Issue, in staging order, the staged records that satisfy a condition, up to the first that does not (R488). -/
def issueWhile (p : PartId) (ok : Staged → Bool) (s : State) : State :=
  eachOf ((getPart s p).sb.staged.takeWhile ok) (fun x s => issueStaged p x s) s

/-- PRT_SB_RELEASED follows the records issued while COVERED is 0 (R488). -/
def settleReleased (p : PartId) (s : State) : State :=
  updPart s p (fun q => if q.sb.covered then q else { q with sb := { q.sb with released := q.sb.issued } })

/-- A partition loses cover: its staged records are issued at once (R480, R487, R488). -/
def uncover (p : PartId) (s : State) : State :=
  let s := updPart s p (fun q => { q with sb := { q.sb with covered := false } })
  settleReleased p (issueWhile p (fun _ => true) s)

/-- Send a snapshot of a partition under its next SNAP_EPOCH; one above 8 MiB is not sent (R486). DEDUCED: notes/assumptions/39.md. -/
def sendSnapshot (p : PartId) (kind : Nat) (s : State) : State :=
  if s.pair.state != .active then s
  else
    let s := updPart s p (fun q => { q with sb := { q.sb with snapDt := dtNow s } })
    let s := if (getPart s p).sb.boundary.isNone then captureBoundary p s else s
    let sb := (getPart s p).sb
    match sb.boundary with
    | none => s
    | some b =>
      let n := wrapAdd 32 sb.snapEpoch 1
      -- of the running job's records a snapshot of the boundary holds none (R486)
      let staged := if kind = 0 then sb.staged else if kind = 2 then sb.staged.filter (fun x => x.epoch != 0) else []
      let bytes := snapshotBytes b kind sb.issued staged
      if bytes.length > 8 * 2 ^ 20 then uncover p s
      else
        let s := updPart s p (fun q => { q with sb := { q.sb with
          snapEpoch := n
          snapBytes := bytes.length
          sentCounts := q.sb.sentCounts ++ [(n, q.sb.issued)]
          staged := if kind ≠ 0 then q.sb.staged else q.sb.staged.map (fun x => if x.epoch = 0 then { x with epoch := n } else x) } })
        sendSnap p n (bytes.length / 8192 + 1) 0 bytes s

/-- A job end of an active device: the boundary, and its snapshot (R486). -/
def jobEndSnapshot (p : PartId) (s : State) : State := sendSnapshot p 0 (captureBoundary p s)

end Sys2Proof.Machine
end

