-- ==== Sys2Proof/Machine/CmdDecode.lean ====
section
/-!
DEFINITION. Machine/CmdDecode.lean: the decode checks of a descriptor, 1 to 4 of R169 (spec/07), over the operand layouts
of spec/08, and check 5 on the tensor descriptors that a command names (R182, R320).
-/
namespace Sys2Proof.Machine
open Sys2Proof

/-- A fault of a command: code, SUB, ADDR, DETAIL0 (R453). -/
structure CmdErr where
  code : Nat := 0x0104
  sub : Nat := 0
  addr : Nat := 0
  detail : Nat := 0
  deriving DecidableEq, Repr

/-- CMD_OPERAND at a byte offset of the descriptor (R453). DEDUCED: notes/assumptions/33.md. -/
def badOperand (off : Nat) : CmdErr := { code := 0x0104, detail := off }

-- Check 1: CLASS and OP (R168, R193, R165)

/-- The opcodes of revision 1. -/
def opcodes : List Nat :=
  [0x9000, 0x9001, 0x9002, 0x9010, 0x9011, 0x9020, 0x9021, 0x9030, 0x9031, 0x9040, 0x9050, 0x9051, 0x1001, 0x1002, 0x1003,
   0x2001, 0x3001, 0x4001, 0x4002, 0x4003, 0x4004, 0x4005, 0x4006, 0x4007, 0x4008, 0x4010] ++
  [0x5001, 0x5002, 0x6001, 0x6002, 0x6010, 0x6011, 0x6012, 0x6013, 0x6014, 0x6015, 0x6016, 0x7001, 0x7002, 0x7003, 0x7010,
   0x7011, 0x8001]

/-- The stream that accepts a class; none for a class every stream accepts. -/
def classStream (cls : Nat) : Option Nat := if cls = 8 then some 2 else if 1 ≤ cls ∧ cls ≤ 7 then some (cls - 1) else none

/-- Is the opcode accepted in the stream, streamed or resident? -/
def opOk (st : StreamId) (resident : Bool) (op : Nat) : Bool :=
  opcodes.contains op && (op / 4096 == 9 || classStream (op / 4096) == some st.val) &&
    (if resident then !([0x9001, 0x9002, 0x9050, 0x7010].contains op) else !([0x9021, 0x9051].contains op))

-- Check 2: reserved bits and unused fields (R167, R175, R194)

/-- The slot range of R196. -/
def rangeFields : List (Nat × Nat × Nat) := [(24, 2, 0xFFFF), (26, 2, 0xFFFF), (28, 1, 0x87)]

/-- The bits in use of the operand bytes of a command: offset, size, mask (R199 to R232). -/
def operandFields (st : StreamId) (d : Bytes) : List (Nat × Nat × Nat) :=
  let all (o n : Nat) : Nat × Nat × Nat := (o, n, 256 ^ n - 1)
  let cmp : List (Nat × Nat × Nat) :=
    [(24, 2, if bitOf (d16 d 24) 15 then 0xBFFF else 0x8007), (26, 1, 7), (28, 4, if bitOf (d8 d 26) 2 then 7 else 0xFFFFFFFF)]
  match dOp d with
  | 0x9001 => if st = 6 then [all 24 2, (26, 1, 0x7F), (27, 1, 0x7F), all 28 4, all 32 8] else [all 24 2]
  | 0x9010 => [(24, 1, 7), all 28 4]
  | 0x9011 => [(24, 1, 7), all 28 4]
  | 0x9020 => cmp ++ [all 27 1]
  | 0x9021 => cmp ++ [all 32 4]
  | 0x9030 => [(24, 2, 0x3FFF), (26, 1, 3), all 28 4]
  | 0x9031 => [(24, 2, 0x3FFF), all 28 4]
  | 0x9040 => [all 24 2, all 32 8, all 40 8, all 48 8, all 56 4, all 60 4]
  | 0x9050 => [all 28 4, all 32 4]
  | 0x1001 => rangeFields ++ [all 32 2, all 34 2, all 36 1, all 38 2]
  | 0x1002 => rangeFields ++ [all 32 2, all 34 2, all 36 2]
  | 0x1003 => rangeFields ++ [all 32 2, all 34 2, all 36 2]
  | 0x2001 => [all 24 8, all 32 2, all 34 1]
  | 0x3001 => [all 24 6, (30, 1, 0x87), all 32 8]
  | 0x8001 => rangeFields ++ [all 32 2, (34, 2, if bitOf (d8 d 37) 0 then 0x3FFF else 0), all 36 1, (37, 1, 1), all 38 2, all 40 2]
  | 0x4001 => [all 24 6, (30, 1, 0x87), all 32 8, all 40 8]
  | 0x4002 => [all 24 6, (30, 1, 0x87), all 32 8, all 40 8]
  | 0x4003 => [all 24 1]
  | 0x4004 => [all 24 4, (28, 1, 1)]
  | 0x4005 => [all 24 4]
  | 0x4006 => [all 24 4]
  | 0x4007 => [all 24 4, (28, 1, 0x87), all 32 4, all 36 1]
  | 0x4008 => [all 24 3]
  | 0x4010 => [all 24 8, all 32 4, (36, 1, 0x87), all 38 2, all 40 4]
  | 0x5001 => [all 24 6, (30, 1, 0x87), all 32 6]
  | 0x5002 => rangeFields
  | 0x6001 => [all 26 2, all 28 8, (36, 1, 7)]
  | 0x6002 => [all 24 1]
  | 0x6010 => [all 24 1, (25, 1, 0x3F), all 26 4]
  | 0x6011 => [all 24 1, all 26 4]
  | 0x6012 => [all 24 1, (25, 1, 0x3F), all 26 4]
  | 0x6013 => [all 24 1, all 26 4, all 34 2]
  | 0x6014 => [all 24 1]
  | 0x6015 => [all 24 1, all 26 8]
  | 0x6016 => [all 24 1, all 26 4, all 36 2]
  | 0x7001 => rangeFields ++ [all 32 8, all 40 4]
  | 0x7002 => rangeFields ++ [all 32 8, all 40 8, all 48 8]
  | 0x7003 => [all 24 3, (28, 2, if d8 d 26 ≥ 2 then 0xFFFF else 0), (32, 8, if d8 d 26 = 2 then 0 else 256 ^ 8 - 1)]
  | 0x7010 => [all 32 8, all 40 8, (48, 1, 7)]
  | 0x7011 => [all 28 4]
  | _ => []

/-- The bits that byte `o` of a descriptor may hold. -/
def allowedByte (st : StreamId) (d : Bytes) (o : Nat) : Nat :=
  if o < 2 then 0xFF
  else if o = 2 ∨ o = 3 then 3
  else if o < 8 then 0xFF
  else if o < 12 then (if dWaitCount d = 0 then 0 else 0xFF)
  else if o < 16 then (if dWaitCount d < 2 then 0 else 0xFF)
  else if o < 24 then
    if o = 18 ∨ o = 19 then 0
    else if bitsOf (dSignal d) 15 14 = 0 then 0
    else 0xFF
  else (operandFields st d).foldl (fun a f => if f.1 ≤ o ∧ o < f.1 + f.2.1 then a ||| (f.2.2 / 256 ^ (o - f.1)) % 256 else a) 0

/-- The reserved bits of a TD.SET image: its first nonzero byte offset in the descriptor (R180, R181). -/
def tdReserved (d : Bytes) : Option Nat :=
  if dOp d ≠ 0x9040 then none
  else if bitsOf (d8 d 39) 6 2 ≠ 0 then some 39
  else (List.range 4).findSome? (fun i => if (if i = 0 then d8 d 60 / 2 else d8 d (60 + i)) ≠ 0 then some (60 + i) else none)

/-- The first byte that holds a reserved bit. -/
def firstReserved (st : StreamId) (d : Bytes) : Option Nat :=
  match (List.range 64).find? (fun o => (d8 d o) &&& (255 - allowedByte st d o) != 0) with
  | some o => some o
  | none => tdReserved d

/-- SRC_TD of a COL.BROADCAST on a member that is not the root is an unused field (R221). DEDUCED: notes/assumptions/40.md. -/
def unusedSrc (s : State) (p : PartId) (d : Bytes) : Option Nat :=
  if dOp d ≠ 0x6013 then none
  else match getComm s (d8 d 24) with
  | none => none
  | some c =>
    if c.part ≠ p ∨ d16 d 34 ≥ c.members.length ∨ c.members[d16 d 34]? = some (ownId s) then none
    else [26, 27].find? (fun o => d8 d o != 0)

/-- Check 2: the first byte that holds a reserved bit or an unused field. -/
def reservedFault (s : State) (p : PartId) (st : StreamId) (d : Bytes) : Option Nat :=
  match firstReserved st d, unusedSrc s p d with
  | some a, some b => some (min a b)
  | some a, none => some a
  | none, b => b

-- Check 3: field values

/-- TD index fields: offset, and whether 0xFFFF names none (R194). -/
def tdFields (d : Bytes) : List (Nat × Bool) :=
  match dOp d with
  | 0x9040 => [(24, false)]
  | 0x1001 => [(32, false), (38, true)]
  | 0x1002 => [(32, false)]
  | 0x1003 => [(32, false), (34, false)]
  | 0x2001 => [(24, false), (28, false), (30, false)]
  | 0x3001 => [(24, false), (26, false), (28, false)]
  | 0x8001 => [(32, false)]
  | 0x4001 => [(26, false), (28, true)]
  | 0x4002 => [(26, false), (28, true)]
  | 0x4007 => [(26, false)]
  | 0x4010 => [(24, false), (26, true), (32, false), (34, true)]
  | 0x5001 => [(24, false), (26, false), (28, false)]
  | 0x6001 => [(26, false)]
  | 0x6010 => [(26, false), (28, false)]
  | 0x6011 => [(26, false), (28, false)]
  | 0x6012 => [(26, false), (28, false)]
  | 0x6013 => [(26, false), (28, false)]
  | 0x6015 => [(26, false), (28, false), (30, false), (32, false)]
  | 0x6016 => [(26, false), (28, false)]
  | 0x7003 => if d8 d 26 = 2 then [(24, false), (28, false)] else [(24, false)]
  | _ => []

/-- Tile fields: offset, and whether a T tile and an A tile are accepted (R195, R214). -/
def tileFields (d : Bytes) : List (Nat × Bool × Bool) :=
  match dOp d with
  | 0x4001 => [(24, true, false)]
  | 0x4002 => [(24, true, true)]
  | 0x4003 => [(24, true, true)]
  | 0x4004 => [(24, false, true), (25, true, false), (26, true, false)]
  | 0x4005 => [(24, true, true), (25, true, true)]
  | 0x4006 => [(24, true, true), (25, true, true), (26, true, true)]
  | 0x4007 => [(24, true, true), (25, true, true)]
  | 0x4008 => [(24, true, false), (25, false, true)]
  | _ => []

def isT (code : Nat) : Bool := code < 64
def isA (code : Nat) : Bool := 0x40 ≤ code && code ≤ 0x43

/-- The slot range of a command fits the partition's slots (R196). -/
def rangeOk (s : State) (p : PartId) (x : Stream) (d : Bytes) : Bool :=
  relValue x (d8 d 28) (d16 d 24) + d16 d 26 ≤ (partCfg s p).tokenSlots

/-- Offset of a ROWS field of one byte, 1 to 64 (R216). -/
def rowsField (d : Bytes) : Option (Nat × Nat) :=
  match dOp d with
  | 0x4001 => some (25, 1) | 0x4002 => some (25, 1) | 0x4004 => some (27, 1) | 0x4005 => some (27, 1) | 0x4006 => some (27, 1)
  | 0x4007 => some (36, 1) | 0x4008 => some (26, 1) | 0x4010 => some (38, 2)
  | _ => none

/-- The LAYER field of a command. -/
def layerField (d : Bytes) : Option Nat :=
  match dOp d with
  | 0x1001 => some 34 | 0x1002 => some 34 | 0x1003 => some 36 | 0x2001 => some 32 | 0x8001 => some 40 | 0x4010 => some 28
  | _ => none

/-- Commands that raise CMD_OPERAND in a job with no model (R206, R213, R225). -/
def needsModel (op : Nat) : Bool := [0x1001, 0x1002, 0x1003, 0x2001, 0x8001, 0x4010, 0x7001, 0x7002].contains op

/-- The field values of a command that stand in its descriptor alone: the offset of the first that fails. -/
def valueFault (st : StreamId) (d : Bytes) : Option Nat :=
  let op := dOp d
  let ck (l : List (Bool × Nat)) : Option Nat := (l.find? (fun e => !e.1)).map (·.2)
  if dWaitCount d = 3 then some 3
  else if bitsOf (dSignal d) 15 14 = 3 then some 16
  else match (tdFields d).find? (fun f => !(decide (d16 d f.1 < 4096) || (f.2 && d16 d f.1 == 0xFFFF))) with
  | some f => some f.1
  | none =>
    match (tileFields d).find? (fun f => !((f.2.1 && isT (d8 d f.1)) || (f.2.2 && isA (d8 d f.1)))) with
    | some f => some f.1
    | none =>
      match rowsField d with
      | some (o, n) => if leAt d o n = 0 ∨ leAt d o n > 64 then some o else rest op ck
      | none => rest op ck
where
  rest (op : Nat) (ck : List (Bool × Nat) → Option Nat) : Option Nat :=
    match op with
    | 0x9001 => ck [(st ≠ 6 ∨ bitOf (d8 d 26) 6, 26)]
    | 0x9040 => if tdValid (bytesAt d 32 32) then (tdInvalid (bytesAt d 32 32)).map (· + 32) else none
    | 0x9020 => ck [(d8 d 27 ≠ 0, 27)]
    | 0x9021 => ck [(d32 d 32 % 64 = 0, 32)]
    | 0x9050 => ck [(d32 d 32 % 64 = 0, 32)]
    | 0x1001 => ck [(d16 d 26 ≠ 0, 26)]
    | 0x1002 => ck [(d16 d 26 ≠ 0, 26), (d16 d 36 ≠ 0, 36)]
    | 0x1003 => ck [(d16 d 26 ≠ 0, 26)]
    | 0x2001 => ck [(d16 d 26 ≠ 0, 26), (d8 d 34 ≤ 1, 34)]
    | 0x3001 => ck [(d32 d 32 ≠ 0 ∧ d32 d 32 ≤ 65535, 32)]
    | 0x4001 => ck [(d32 d 36 % 64 = 0, 36), (d32 d 44 % 64 = 0, 44)]
    | 0x4002 => ck [(d32 d 36 % 64 = 0, 36), (d32 d 44 % 64 = 0, 44)]
    | 0x4005 => ck [(d8 d 26 ≤ 5, 26), (isT (d8 d 24) = isT (d8 d 25), 25)]
    | 0x4006 => ck [(isT (d8 d 24) = isT (d8 d 25), 25), (isT (d8 d 24) = isT (d8 d 26), 26)]
    | 0x4007 => ck [(isT (d8 d 24) = isT (d8 d 25), 25)]
    | 0x5001 => ck [(d16 d 36 ≠ 0, 36)]
    | 0x6010 => ck [((d8 d 25 % 16 = 0 ∨ d8 d 25 % 16 = 3) ∧ bitsOf (d8 d 25) 5 4 ≤ 1, 25)]
    | 0x6012 => ck [((d8 d 25 % 16 = 0 ∨ d8 d 25 % 16 = 3) ∧ bitsOf (d8 d 25) 5 4 ≤ 1, 25)]
    | 0x6001 => ck [(1 ≤ d32 d 28 ∧ d32 d 28 ≤ 16384, 28)]
    | 0x7001 => ck [(d16 d 26 ≠ 0, 26), (d64 d 32 % 2 = 0, 32), (d32 d 40 % 2 = 0, 40)]
    | 0x7002 => ck [(d16 d 26 ≠ 0, 26), (d64 d 32 % 2 = 0, 32), (d32 d 40 % 2 = 0, 40), (d64 d 48 ≠ 0 ∧ d64 d 48 % 64 = 0, 48)]
    | 0x7003 => ck [(d8 d 26 ≤ 2, 26)]
    | 0x7010 => ck [(d64 d 32 % 64 = 0, 32), (d64 d 40 % 64 = 0, 40)]
    | _ => none

/-- The field values that depend on the partition, in a job or outside: the slot range (R196), a program and an offset in it (R165). -/
def placeField (s : State) (p : PartId) (st : StreamId) (d : Bytes) : Option Nat :=
  let q := getPart s p
  let x := getStream s p st
  let op := dOp d
  if [0x1001, 0x1002, 0x1003, 0x8001, 0x5002, 0x7001, 0x7002].contains op && !rangeOk s p x d then some 24
  else if op = 0x9050 then
    match modelOf q (d32 d 28) with
    | none => some 28
    | some m => if d32 d 32 + 64 ≤ secLen m 4 then none else some 32
  else if op = 0x9021 then
    match modelOf q x.resident with
    | none => some 32
    | some m => if d32 d 32 + 64 ≤ secLen m 4 then none else some 32
  else none

/-- The field values that depend on the job: its model and the model's layers. -/
def jobField (s : State) (p : PartId) (d : Bytes) : Option Nat :=
  let q := getPart s p
  let op := dOp d
  if op = 0x7010 ∧ q.job.model ≠ 0 then some 0
  else match jobModel q with
  | none => if needsModel op then some 0 else none
  | some m =>
    if (layerField d).any (fun o => d16 d o ≥ m.layers) then layerField d
    else if op = 0x1001 ∧ d8 d 36 > m.topk then some 36
    else if op = 0x4010 ∧ d16 d 30 ≠ 0xFFFF ∧ d16 d 30 ≥ m.experts then some 30
    else if (op = 0x7001 ∨ op = 0x7002) ∧ d32 d 40 < 2 * m.dmodel then some 40
    else none

/-- The field values that depend on the partition, and inside a job on the job. -/
def contextFault (s : State) (p : PartId) (st : StreamId) (d : Bytes) : Option Nat :=
  match placeField s p st d with
  | some o => some o
  | none => if (getStream s p st).inJob then jobField s p d else none

-- Check 4: sync counter indices

/-- The sync counters that a command names (R169). -/
def sycIndices (d : Bytes) : List Nat :=
  ((List.range (min (dWaitCount d) 2)).map (fun i => bitsOf (dWait d i) 13 0)) ++
  (if bitsOf (dSignal d) 15 14 = 0 then [] else [bitsOf (dSignal d) 13 0]) ++
  (match dOp d with
    | 0x9030 => [d16 d 24 % 2 ^ 14]
    | 0x9031 => [d16 d 24 % 2 ^ 14]
    | 0x9020 => if bitOf (d16 d 24) 15 then [d16 d 24 % 2 ^ 14] else []
    | 0x9021 => if bitOf (d16 d 24) 15 then [d16 d 24 % 2 ^ 14] else []
    | 0x8001 => if bitOf (d8 d 37) 0 then [d16 d 34 % 2 ^ 14] else []
    | _ => [])

/-- Checks 1 to 4 of R169, in order. -/
def decodeFault (s : State) (p : PartId) (st : StreamId) (d : Bytes) : Option CmdErr :=
  if !opOk st ((getStream s p st).resident != 0) (dOp d) then some { code := 0x0102, sub := st.val, detail := dOp d }
  else match reservedFault s p st d with
  | some o => some { code := 0x0103, detail := o }
  | none =>
    match valueFault st d with
    | some o => some (badOperand o)
    | none =>
      match contextFault s p st d with
      | some o => some (badOperand o)
      | none =>
        match (sycIndices d).find? (fun i => i ≥ (partCfg s p).sycCount) with
        | some i => some { code := 0x0107, detail := i }
        | none => none

-- Check 5: tensor descriptors (R182, R320)

/-- Read the TD named at a byte offset of the descriptor: its index and its copy. DEDUCED: notes/assumptions/33.md. -/
def useTd (s : State) (p : PartId) (d : Bytes) (off : Nat) (write : Bool) (suits : Bytes → Bool) : Except CmdErr (Nat × Bytes) :=
  let i := d16 d off
  let t := tdGet s p i
  if !tdValid t || !suits t || (write && tdReadOnly t) then .error (badOperand off)
  else if !tdUsable s p t then .error { code := 0x0105, detail := i }
  else .ok (i, t)

/-- The same for a field that may name none. -/
def useTdOpt (s : State) (p : PartId) (d : Bytes) (off : Nat) (write : Bool) (suits : Bytes → Bool) : Except CmdErr (Option (Nat × Bytes)) :=
  if d16 d off = 0xFFFF then .ok none
  else match useTd s p d off write suits with
  | .ok x => .ok (some x)
  | .error e => .error e

end Sys2Proof.Machine
end

