-- ==== Sys2Proof/Machine/Ecc.lean ====
section
/-!
DEFINITION. Machine/Ecc.lean: what the ECC of HBM and SRAM does with an error that a read meets (spec/18 R460, R461, R463, R321): the mark
of a granule, the records, the items that carry poison, and the errors that a command meets when it starts.
-/
namespace Sys2Proof.Machine
open Sys2Proof

/-- The partition whose region holds an absolute granule, if one does (R462). DEDUCED: notes/assumptions/35.md. -/
def granuleOwner (s : State) (g : Nat) : Option PartId :=
  (definedParts s).find? (fun p => decide (hbmBase s p ≤ g * Config.granule) && decide (g * Config.granule < hbmBase s p + hbmSize s p))

/-- Mark a granule poisoned; a new mark in a partition's region is counted (R461). -/
def markGranule (g : Nat) (s : State) : State :=
  let fresh := !tabGet false s.hbmPoison g
  let s := { s with hbmPoison := tabSet false g true s.hbmPoison }
  match granuleOwner s g with
  | some p => if fresh then cntPart 0x00060044 1 p s else s
  | none => s

/-- HBM_CE of a granule of the partition's region (R460). -/
def ceRec (s : State) (p : PartId) (tag g : Nat) : ErrRec :=
  { code := 0x0301, cls := .corrected, source := 0xA, tag := tag, addr := g * Config.granule - hbmBase s p }

/-- A record of HBM_UE_POISON, DEFERRED, for an absolute granule of the partition's region (R454). DEDUCED: notes/assumptions/35.md. -/
def ueRec (s : State) (p : PartId) (tag g : Nat) : ErrRec :=
  { code := 0x0302, cls := .deferred, source := 0xA, tag := tag, addr := g * Config.granule - hbmBase s p }

/-- SRAM_UE of a partition (R463). DEDUCED: notes/assumptions/36.md. -/
def sramRec (cls : ErrClass) (source sub tag : Nat) : ErrRec := { code := 0x0303, cls := cls, source := source, sub := sub, tag := tag }

/-- Change the executing command of a stream. -/
def updExec (p : PartId) (st : StreamId) (f : Exec → Exec) (s : State) : State :=
  updStream s p st (fun x => { x with exec := x.exec.map f })

/-- Record a DEFERRED fault of the command that a stream executes: once for a command and a code (R145, R216). -/
def noteOnce (p : PartId) (st : StreamId) (r : ErrRec) (s : State) : State :=
  match (getStream s p st).exec with
  | some e =>
    if dTag e.desc ≠ r.tag then record p r s
    else if e.noted.contains r.code then s
    else record p r (updExec p st (fun e => { e with noted := e.noted ++ [r.code] }) s)
  | none => record p r s

/-- A core: its cluster and its index in it. -/
abbrev CoreId := ClusterId × Fin 8

def onCore (c : CoreId) (f : CoreSt → CoreSt) (s : State) : State := updCore c.1 c.2 f s

def setRowBad (code row : Nat) (b : Bool) (q : CoreSt) : CoreSt := { q with rowPoison := tabSet false (64 * code + row) b q.rowPoison }


/-- Is the item of a find flagged already (R321)? -/
def itemFlagged (s : State) (p : PartId) : EccFind → Bool
  | .spool g => tabGet false (getPart s p).spoolPoison g
  | .reel g => tabGet false (getPart s p).reelPoison g
  | .storedRow t | .backedRow t _ => (getPart s p).rows.all (fun r => r.tag != t || r.poison)
  | .slotRecord i | .backedSlot i false _ => (getSlot s p i).poison
  | .slotRow i | .backedSlot i true _ => (getSlot s p i).rowPoison
  | _ => false

/-- Flag the item that a find concerns: a tile row or scratch granule (R236), an item of the Spool or the Reel, of the backing region
or of the hold area (R321, R329, R463). -/
def flagItem (p : PartId) (e : EccFind) (s : State) : State :=
  match e with
  | .tile c i code row => onCore (c, i) (setRowBad code row true) s
  | .scratch c i g => onCore (c, i) (fun q => { q with scratchPoison := tabSet false g true q.scratchPoison }) s
  | .spool g => updPart s p (fun q => { q with spoolPoison := tabSet false g true q.spoolPoison })
  | .reel g => updPart s p (fun q => { q with reelPoison := tabSet false g true q.reelPoison })
  | .storedRow t => updRow p t (fun r => { r with poison := true }) s
  | .backedRow t g => updRow p t (fun r => { r with poison := true }) (markGranule g s)
  | .slotRecord i => updSlot p i (fun r => { r with poison := true }) s
  | .slotRow i => updSlot p i (fun r => { r with rowPoison := true }) s
  | .backedSlot i false g => updSlot p i (fun r => { r with poison := true }) (markGranule g s)
  | .backedSlot i true g => updSlot p i (fun r => { r with rowPoison := true }) (markGranule g s)
  | .hold t => updRow p t (fun r => { r with heldPoison := true }) s
  | _ => s

/-- The record of a find that poisons an item, under the reading command's tag (R235, R321, R463). -/
def itemRec (s : State) (p : PartId) (tag : Nat) : EccFind → ErrRec
  | .tile .. | .scratch .. => sramRec .deferred 3 1 tag
  | .backedRow _ g | .backedSlot _ _ g => ueRec s p tag g
  | .hold _ => sramRec .deferred 3 8 tag
  | _ => sramRec .deferred 3 2 tag

/-- A find that poisons an item: recorded once for a command, or held with the speculative rows of `tags`, where it concerns them
alone (R299). -/
def itemFind (p : PartId) (st : StreamId) (tag : Nat) (tags : List Nat) (e : EccFind) (s : State) : State :=
  if itemFlagged s p e then s
  else if tags.isEmpty then noteOnce p st (itemRec s p tag e) (flagItem p e s)
  else holdFault p tags (itemRec s p tag e) (flagItem p e s)

/-- A read of `[a, a + n)` of the partition's region meets the errors of its granules: a corrected one is written back and recorded, an
uncorrectable one marks the granule (R460). -/
def meetHbm (p : PartId) (tag off n : Nat) (s : State) : State :=
  eachOf ((granules (hbmBase s p + off) n).filter (fun g => tabGet .none s.hbmErr g != .none)) (fun g s =>
    let e := tabGet .none s.hbmErr g
    let s := { s with hbmErr := tabSet .none g .none s.hbmErr }
    if e == .ue || e == .ueMet then markGranule g s else record p (ceRec s p tag g) (cntPart 0x00060040 1 p s)) s

/-- The errors that the merges of a command's partial writes have met: marked and recorded under its tag (R461). -/
def settleMerge (p : PartId) (st : StreamId) (tag : Nat) (s : State) : State :=
  eachOf (s.hbmErr.filter (fun e => (e.2 == .ceMet || e.2 == .ueMet) && granuleOwner s e.1 == some p)) (fun e s =>
    let s := { s with hbmErr := tabSet .none e.1 .none s.hbmErr }
    if e.2 == .ueMet then noteOnce p st (ueRec s p tag e.1) (markGranule e.1 s)
    else record p (ceRec s p tag e.1) (cntPart 0x00060040 1 p s)) s

/-- Does a command that starts on a stream read the words in which an error lies (R463)? DESIGN CHOICE: notes/assumptions/37.md. -/
def readsWord (st : StreamId) : EccFind → Bool
  | .context | .device => true
  | .control => [0, 1, 2, 5].contains st.val
  | .gate | .shadowGate => st.val == 0
  | .slotRow _ | .slotRecord _ | .storedRow _ | .backedRow .. | .backedSlot .. => [0, 2, 4, 6].contains st.val
  | .single | .tile .. | .scratch .. => st.val == 3
  | .hbm .. | .spool _ | .reel _ | .reducer _ | .linkPool _ | .planePool _ | .hold _ => false

/-- An error of an SRAM word that a starting command meets, by its location (R321, R463). -/
def startFind (p : PartId) (st : StreamId) (tag : Nat) (e : EccFind) (s : State) : State :=
  match e with
  | .context => partFault p (sramRec .partition 0xF 7 tag) s
  | .device => deviceFault (sramRec .device 0xB 9 tag) 5 s
  | .control => jobFault p (sramRec .job 3 4 tag) s
  | .gate => record p (sramRec .corrected 0 3 tag) (updPart s p (fun q => { q with gateBuf := none }))
  | .shadowGate => record p (sramRec .corrected 0 3 tag) s
  | .single => cntPart 0x000E0028 1 p s
  | _ => itemFind p st tag [] e s

/-- The errors that a starting command meets in SRAM (R460, R463). -/
def startMeets (p : PartId) (st : StreamId) (tag : Nat) (s : State) : State :=
  let hit (x : PartId × EccFind) : Bool := x.1 == p && readsWord st x.2
  (s.sramErr.filter hit).foldl (fun s x => startFind p st tag x.2 s) { s with sramErr := s.sramErr.filter (fun x => !hit x) }

end Sys2Proof.Machine
end

