-- ==== Sys2Proof/Machine/Queue.lean ====
section
/-!
DEFINITION. Machine/Queue.lean: the streams of a partition (spec/07): descriptors entering a queue, taking a command
through its checks and waits to its execution, and the control commands of spec/08 R199 to R202.
-/
namespace Sys2Proof.Machine
open Sys2Proof

-- Faults of commands (R169, R201)

/-- A command of a stream raises a JOB-class fault. -/
def cmdFail (p : PartId) (st : StreamId) (d : Bytes) (e : CmdErr) (s : State) : State :=
  let s := settleMerge p st (dTag d) (if e.code = 0x0302 then meetHbm p (dTag d) e.addr 1 s else s)
  let s := dropHead p st (traceCmd p st d .abort e.code s)
  let r : ErrRec := { code := e.code, source := if e.code = 0x0302 then 0xA else if e.code / 256 = 7 then 7 else st.val, tag := dTag d, sub := e.sub, addr := e.addr, detail0 := e.detail }
  let opens := st == 6 && dOp d == 0x9001 && (getStream s p st).resident == 0
  if opens && !(getPart s p).job.open_ then haltQueues p e.code (record p { r with cls := .job } s)
  else fetchNow p st (jobFault p r s)

-- Descriptors entering a queue (R161, R162, R179, R187)

/-- Do the partition's queues take descriptors? -/
def acceptsDesc (s : State) (p : PartId) : Bool :=
  (partCfg s p).defined && s.boot.state == .ready && !(getPart s p).resetting && !(getPart s p).halted

/-- A descriptor that arrives while the partition does not take any. -/
def discardDesc (p : PartId) (s : State) : State := cntPart 0x0003020C 1 p s

/-- QUE_OVERRUN of a stream (R162): the queue is flushed and the open job torn down. -/
def queOverrun (p : PartId) (st : StreamId) (s : State) : State :=
  let s := updStream s p st (fun x => { x with queue := [], exec := if x.resident = 0 then none else x.exec })
  fetchNow p st (jobFault p { code := 0x0101, source := st.val, sub := st.val } (cntPart 0x00030204 1 p s))

/-- A descriptor reaches the tail of a queue. -/
def enterDesc (p : PartId) (st : StreamId) (d : Bytes) (s : State) : State :=
  if (getPart s p).halted || !acceptsDesc s p then discardDesc p s
  else
    let x := getStream s p st
    if x.queue.length ≥ Config.queDepth then queOverrun p st s
    else
      let s := quietExit 3 (mirrorDesc p st x.entered d s)
      let s := updStream s p st (fun x => { x with entered := wrapAdd 32 x.entered 1 })
      if x.skip > 0 && x.resident == 0 && x.queue.isEmpty && !(dOp d == 0x9001 || dOp d == 0x9002) then
        updStream s p st (fun x => { x with skip := x.skip - 1, retired := wrapAdd 32 x.retired 1 })
      else updStream s p st (fun x => { x with queue := x.queue ++ [d], skip := if x.queue.isEmpty then 0 else x.skip })

-- Skipping (R179)

/-- Consume the descriptors of a queue that a true CMP.SKIP skips; the remainder is skipped on arrival. -/
def skipQueue : Nat → Stream → Stream
  | 0, x => x
  | n + 1, x => match x.queue with
    | [] => { x with skip := n + 1 }
    | d :: rest => if dOp d = 0x9001 ∨ dOp d = 0x9002 then x
      else skipQueue n { x with queue := rest, retired := wrapAdd 32 x.retired 1 }

/-- The same in a resident program: the program counter passes over the descriptors. -/
def skipProgram (s : State) (p : PartId) (m : Model) : Nat → Nat → Nat
  | 0, pc => pc
  | n + 1, pc =>
    let op := leAt (secRead s p m 4 pc 2) 0 2
    if pc + 64 ≤ secLen m 4 ∧ (op = 0x9001 ∨ op = 0x9002) then pc else skipProgram s p m n (pc + 64)

-- Taking a command (R160, R165)

/-- The descriptor at the head of a stream: none when there is none, or the fault of a program fetch. -/
def headDesc (s : State) (p : PartId) (st : StreamId) : Option (Except CmdErr Bytes) :=
  let x := getStream s p st
  if x.resident = 0 then (x.queue.head?).map .ok
  else match modelOf (getPart s p) x.resident with
  | none => some (.error (badOperand 0))
  | some m =>
    if x.pc + 64 > secLen m 4 then some (.error { code := 0x0104, detail := 0 })
    else if spacePoisoned s p 0 (secOff m 4 + x.pc) 64 then
      some (.error { code := 0x0302, addr := (secOff m 4 + x.pc) / Config.granule * Config.granule })
    else some (.ok (secRead s p m 4 x.pc 64))

/-- A comparison of R172 and R199: at least, equal, different, below. -/
def cmpHolds (c a b : Nat) : Bool :=
  match c % 4 with
  | 0 => decide (a ≥ b) | 1 => a == b | 2 => a != b | _ => decide (a < b)

/-- Does a wait specification hold (R172)? -/
def waitHolds (s : State) (p : PartId) (w : Nat) : Bool := cmpHolds (bitsOf w 15 14) (sycGet s p (bitsOf w 13 0)) (bitsOf w 31 16)

/-- Does every wait in force of a descriptor hold (R173)? -/
def waitsHold (s : State) (p : PartId) (d : Bytes) : Bool := (List.range (dWaitCount d)).all (fun i => waitHolds s p (dWait d i))

/-- The first wait that does not hold: its counter. -/
def unmetWait (s : State) (p : PartId) (d : Bytes) : Option Nat :=
  ((List.range (dWaitCount d)).find? (fun i => !waitHolds s p (dWait d i))).map (fun i => bitsOf (dWait d i) 13 0)

/-- A BIST run by the RUN command holds every XFR JOB_BEGIN and LOAD_MODEL (R557). -/
def bistHolds (s : State) : Bool := match s.bist.run with | some r => r.trigger == 2 | none => false

/-- Is the job there that a JOB_BEGIN waits for (R185), and does no BIST run hold the command (R557)? -/
def jobReady (s : State) (p : PartId) (st : StreamId) (d : Bytes) : Bool :=
  let q := getPart s p
  if dOp d ≠ 0x9001 then !(dOp d == 0x7010 && bistHolds s)
  else if st = 6 then !q.job.open_ && !bistHolds s
  else q.job.open_ && bitOf q.job.mask st.val && !(getStream s p st).ended

/-- The fields of a command that name the tensors it moves. -/
def tensorFields (d : Bytes) : List (Nat × Bool) := if dOp d = 0x9040 then [] else tdFields d

/-- Does a command move bytes of the partition's HBM: a tensor there, weights, sections (R415)? -/
def movesHbm (s : State) (p : PartId) (d : Bytes) : Bool :=
  dOp d == 0x4010 || dOp d == 0x7010 ||
    (tensorFields d).any (fun f => d16 d f.1 != 0xFFFF && tdSpace (tdGet s p (d16 d f.1)) == 0)

/-- Must a command wait for the HBM regulator (R416, R417)? DEDUCED: notes/assumptions/22.md. -/
def hbmWaits (s : State) (p : PartId) (d : Bytes) : Bool := !hasCredit s p 0 && movesHbm s p d

/-- The command that a stream may start now, if it is the one with opcode `op`; a head that fails a check faults, and one that
moves HBM waits for the regulator's credit. -/
def takeCmd (p : PartId) (st : StreamId) (op : Nat) (s : State) : Option Bytes × State :=
  if !acceptsDesc s p then (none, s)
  else
    let x := getStream s p st
    -- a resident program's descriptor is fetched from HBM (R415, R417)
    let resident := x.resident != 0 && x.exec.isNone
    let fetched (s : State) : State := if resident then charge p 0 64 s else s
    let begin (d : Bytes) (since : Nat) (s : State) : Option Bytes × State :=
      let wait (s : State) : State := updStream s p st (fun x => { x with exec := some { desc := d, phase := .waiting since } })
      if waitsHold s p d && jobReady s p st d then
        if hbmWaits s p d then (none, hbmHold p st.val (wait s)) else
        let s := updStream (hbmGo p st.val s) p st (fun x => { x with exec := some { desc := d, phase := .running, start := dtNow s } })
        let s := startMeets p st (dTag d) (traceCmd p st d .start (leAt d 8 8) s)
        ((getStream s p st).exec.map (·.desc), s)
      else (none, wait s)
    match x.exec with
    | some e => match e.phase with
      | .waiting since => if dOp e.desc = op then begin e.desc since s else (none, s)
      | _ => (none, s)
    | none =>
      if resident && !hasCredit s p 0 then (none, hbmHold p st.val s) else
      match headDesc s p st with
      | none => (none, s)
      | some (.error e) => (none, cmdFail p st [] e (fetched s))
      | some (.ok d) =>
        match decodeFault s p st d with
        | some e => (none, cmdFail p st d e (fetched s))
        | none =>
          if !x.inJob && dOp d != 0x9001 then (none, cmdFail p st d (badOperand 0) (fetched s))
          else if dOp d ≠ op then (none, s)
          else begin d (dtNow s) (fetched s)

/-- The executing command of a stream is done: it completes at the next COMMAND_COMPLETE. -/
def cmdDone (p : PartId) (st : StreamId) (s : State) : State := updExec p st (fun e => { e with phase := .done }) s

/-- Run a command: take it, apply its effect, and leave it done, running or faulted as the effect says. -/
def runCmd (p : PartId) (st : StreamId) (op : Nat) (body : Bytes → State → State) (s : State) : Out :=
  match takeCmd p st op s with
  | (some d, s) => .next (body d s)
  | (none, s) => .next s

-- Signals and host adds (R175 to R177)

/-- Add to a sync counter: the sum saturates and records SYC_OVERFLOW (R176). -/
def sycAdd (p : PartId) (idx v source tag : Nat) (s : State) : State :=
  let n := sycGet s p idx + v
  if n ≥ 2 ^ 32 then
    jobFault p { code := 0x0109, source := source, tag := tag, detail0 := idx } (sycSetAt p idx (2 ^ 32 - 1) s)
  else sycSetAt p idx n s

/-- Apply the signal of a completed command (R175). -/
def applySignal (p : PartId) (st : StreamId) (d : Bytes) (s : State) : State :=
  let g := dSignal d
  let idx := bitsOf g 13 0
  match bitsOf g 15 14 with
  | 1 => sycAdd p idx (g / 2 ^ 32) st.val (dTag d) s
  | 2 => sycSetAt p idx (g / 2 ^ 32) s
  | _ => s

-- Jobs (R185, R200, R409)

/-- Is a cluster in service for a job: ON or CLOSING (R508)? DEDUCED: notes/assumptions/41.md. -/
def clusterUp (s : State) (k : ClusterId) : Bool :=
  let q := getCluster s k
  (q.state == .on || q.state == .closing) && !q.disabled && !q.waking

/-- The clusters of a job of a partition (R409). -/
def jobClusters (s : State) (p : PartId) (urgent : Bool) : Nat :=
  let c := partCfg s p
  packBits ((allClusters.filter (fun k => bitOf c.clusterMask k.val && (urgent || !bitOf c.urgentMask k.val) &&
    clusterUp s k)).map (fun k => (1, k.val)))

/-- Clusters that have left service drop out of the job at a pass boundary, one that has been woken since among them
(R166, R409, R508). -/
def dropClusters (p : PartId) (s : State) : State :=
  updJob s p (fun j => { j with clusters := packBits ((allClusters.filter (fun k =>
    bitOf j.clusters k.val && clusterUp s k && !(getCluster s k).leaving)).map (fun k => (1, k.val))) })

/-- Enabled cores of a cluster (R1): 8 or, on grade M, 7. -/
def coresPer (s : State) : Nat := match s.fuses.grade with | .h => 8 | .m => 7

/-- Cores of the open job's cluster set (R166). -/
def jobCores (s : State) (p : PartId) : Nat := popCount (getPart s p).job.clusters 8 * coresPer s

/-- Does the resolved mode of a JOB_BEGIN read Still-Air (R200)? -/
def beginStill (s : State) (p : PartId) (d : Bytes) : Bool :=
  match bitsOf (d8 d 27) 3 2 with
  | 0 => (s.cfg.det[p]).stillAirDefault | 1 => false | _ => true

/-- Does its DIGEST resolve to on? -/
def beginDigest (s : State) (p : PartId) (d : Bytes) : Bool :=
  match bitsOf (d8 d 27) 5 4 with
  | 0 => (s.cfg.det[p]).digestDefault | 1 => false | _ => true

/-- A shutdown has been accepted (R558). -/
def shutDown (s : State) : Bool := s.bist.parked || (match s.bist.run with | some r => r.trigger == 3 | none => false)

/-- The refusals of an XFR JOB_BEGIN after its decode checks, in the order of R200. -/
def beginFault (s : State) (p : PartId) (d : Bytes) : Option CmdErr :=
  let mode := d8 d 27
  let dl := d64 d 32
  let model := d32 d 28
  if shutDown s ∨ s.pair.state = .deposed then some (badOperand 0)
  else if s.pair.state = .standby ∧ (model ≠ 0 ∨ d8 d 26 ≠ 64) then some (badOperand (if model ≠ 0 then 28 else 26))
  else if bitsOf mode 3 2 = 3 ∨ bitsOf mode 5 4 = 3 then some (badOperand 27)
  else if bitOf mode 6 ∧ (beginStill s p d ∨ !(partCfg s p).updraftEn) then some (badOperand 27)
  else if model ≠ 0 ∧ (modelOf (getPart s p) model).isNone then some (badOperand 28)
  else if dl ≠ 0 ∧ dl > dtNow s + 100000000 ∧ dl - dtNow s < 2 ^ 63 then some (badOperand 32)
  else if (bitOf (d8 d 26) 3 ∨ bitOf (d8 d 26) 2) ∧ jobClusters s p (bitsOf mode 1 0 = 0) = 0 then some (badOperand 26)
  else if beginStill s p d ∧ !s.boot.aligned then some { code := 0x0902, sub := 0 }
  else if beginStill s p d ∧ s.cfg.group.pairMode = 1 ∧ s.dual.state ≠ .paired then some { code := 0x0902, sub := 1 }
  else none

/-- JOB_BEGIN (R185, R199, R200): the job opens, or the stream enters it, at COMMAND_COMPLETE. -/
def execJobBegin (p : PartId) (st : StreamId) (s : State) : Out :=
  runCmd p st 0x9001 (fun d s =>
    if st = 6 then
      match beginFault s p d with
      | some e => cmdFail p st d e s
      | none => cmdDone p st s
    else if d16 d 24 ≠ (getPart s p).job.id then cmdFail p st d (badOperand 24) s
    else cmdDone p st s) s

/-- JOB_END (R186). -/
def execJobEnd (p : PartId) (st : StreamId) (s : State) : Out := runCmd p st 0x9002 (fun _ s => cmdDone p st s) s

/-- NOP. -/
def execNop (p : PartId) (st : StreamId) (s : State) : Out := runCmd p st 0x9000 (fun _ s => cmdDone p st s) s

/-- CT.SET (R178). -/
def execCtSet (p : PartId) (st : StreamId) (s : State) : Out :=
  runCmd p st 0x9010 (fun d s => cmdDone p st (updStream s p st (fun x => ctSet x (d8 d 24 % 8) (d32 d 28)))) s

/-- CT.ADD (R178): wraps modulo 2^32. -/
def execCtAdd (p : PartId) (st : StreamId) (s : State) : Out :=
  runCmd p st 0x9011 (fun d s => cmdDone p st (updStream s p st (fun x =>
    ctSet x (d8 d 24 % 8) (ctVal x (d8 d 24 % 8) + d32 d 28)))) s

/-- The comparison of a CMP command (R179, R199). -/
def cmpTrue (s : State) (p : PartId) (st : StreamId) (d : Bytes) : Bool :=
  let x := getStream s p st
  let lhs := if bitOf (d16 d 24) 15 then sycGet s p (d16 d 24 % 2 ^ 14) else ctVal x (d16 d 24 % 8)
  let rhs := if bitOf (d8 d 26) 2 then ctVal x (d32 d 28 % 8) else d32 d 28
  cmpHolds (d8 d 26) lhs rhs

/-- CMP.SKIP (R179): the skip takes effect at completion. -/
def execCmpSkip (p : PartId) (st : StreamId) (s : State) : Out :=
  runCmd p st 0x9020 (fun d s => cmdDone p st (updExec p st (fun e => { e with at_ := if cmpTrue s p st d then d8 d 27 else 0 }) s)) s

/-- CMP.BRANCH (R179). -/
def execCmpBranch (p : PartId) (st : StreamId) (s : State) : Out :=
  runCmd p st 0x9021 (fun d s => cmdDone p st (updExec p st (fun e => { e with at_ := b2n (cmpTrue s p st d), base := d32 d 32 }) s)) s

/-- Does the condition of a SYC.WAIT hold (R173)? -/
def sycWaitHolds (s : State) (p : PartId) (d : Bytes) : Bool := cmpHolds (d8 d 26) (sycGet s p (d16 d 24 % 2 ^ 14)) (d32 d 28)

/-- SYC.WAIT (R202): it runs until its condition holds. -/
def execSycWait (p : PartId) (st : StreamId) (s : State) : Out :=
  runCmd p st 0x9030 (fun d s => if sycWaitHolds s p d then cmdDone p st s else s) s

/-- Write an entry of the TD table. -/
def tdPut (p : PartId) (i : Nat) (t : Bytes) (s : State) : State :=
  updPart s p (fun q => { q with
    tds := tabSet (List.replicate 32 0) i t q.tds
    sb := if q.sb.tdDirty.contains i then q.sb else { q.sb with tdDirty := q.sb.tdDirty ++ [i] } })

/-- TD.SET (R181), after its decode checks. -/
def execTdSet (p : PartId) (st : StreamId) (s : State) : Out :=
  runCmd p st 0x9040 (fun d s =>
    let i := d16 d 24
    let t := bytesAt d 32 32
    if (getPart s p).models.any (fun m => m.tds.any (fun e => e.1 == i)) then cmdFail p st d (badOperand 24) s
    else if !tdValid t then cmdDone p st (tdPut p i (List.replicate 32 0) s)
    else if tdExtent t > spaceSize s p (tdSpace t) then cmdFail p st d { code := 0x0105, detail := i } s
    else cmdDone p st (tdPut p i t s)) s

/-- PRG.RUN (R165): the stream becomes resident; its entry stays until PRG.END. -/
def execPrgRun (p : PartId) (st : StreamId) (s : State) : Out :=
  runCmd p st 0x9050 (fun d s => updStream s p st (fun x => { x with resident := d32 d 28, pc := d32 d 32, exec := none })) s

/-- PRG.END (R165). -/
def execPrgEnd (p : PartId) (st : StreamId) (s : State) : Out := runCmd p st 0x9051 (fun _ s => cmdDone p st s) s

-- Waits that run out (R174, R185, R202)

/-- SYC_WAIT_TIMEOUT of a waiting head or of a SYC.WAIT: the command is not executed. A wait that holds is met (R109). -/
def waitTimeout (p : PartId) (st : StreamId) (s : State) : State :=
  match (getStream s p st).exec with
  | none => s
  | some e =>
    match e.phase with
    | .waiting since =>
      if !waitedOut s since || (waitsHold s p e.desc && jobReady s p st e.desc) then s
      else cmdFail p st e.desc { code := 0x0108, detail := (unmetWait s p e.desc).getD 0 } s
    | .running =>
      if dOp e.desc = 0x9030 ∧ waitedOut s e.start ∧ !sycWaitHolds s p e.desc then
        cmdFail p st e.desc { code := 0x0108, detail := d16 e.desc 24 % 2 ^ 14 } s
      else s
    | .done => s

/-- TEARDOWN_COMPLETE: the queues take descriptors again, once the mirror write of the fault's record is issued (R449).
After a job's teardown steps 4 and 5 of R187 have ended: the job's
slots are free and its cores are cleared (R539); after the fault of an XFR JOB_BEGIN there are none (R201). -/
def execTeardownComplete (p : PartId) (s : State) : Out :=
  let q := getPart s p
  if !q.halted || mirrorOwed s p (fun b => leAt b 2 1 % 16 == classCode .job) then .next s
  else if !q.torn then .next (updPart s p (fun q => { q with halted := false }))
  else
    let staged (i : Nat) : Bool := q.sb.staged.any (fun x => x.first ≤ i && i < x.first + x.count)
    let s := updPart s p (fun q => { q with
      halted := false
      torn := false
      -- what the pair sent of the torn-down job before its own teardown (R445)
      dl := if q.dl.seq ≠ 0 then q.dl else
        { q.dl with rx := q.dl.rx.filter (fun r => !r.abandon && r.seq == 0 && r.jobId != q.job.id) }
      slots := (q.slots.map (fun e => if staged e.1 || (e.2.held && e.2.jobId != q.job.serial) then e else (e.1, { gen := e.2.gen }))).filter (fun e => e.2 != {}) })
    .next (eachOf (allClusters.filter (fun c => bitOf q.job.clusters c.val)) (fun c s =>
      updCluster s c (fun q => { q with cores := .replicate 8 {} })) s)

end Sys2Proof.Machine
end

