-- ==== Sys2Proof/Machine/Gate.lean ====
section
/-!
DEFINITION. Machine/Gate.lean: which memory requests of a host port the function serves (spec/06 R131, R132, R139, R148,
spec/03 R54), and the partition whose registers a requester reaches (spec/00 R10, spec/23 R573).
-/
namespace Sys2Proof.Machine
open Sys2Proof

/-- The answer to a memory request: Unsupported Request, a read of zero or an ignored write, or service. -/
inductive MemGate where
  | ur | zero | go
  deriving DecidableEq, Repr

/-- The port of a requester, and whether its request came without IDE protection. DEDUCED: notes/assumptions/72.md. -/
def portReq : Requester → Option (PortId × Bool)
  | .hp k => some (k, false)
  | .bare k => some (k, true)
  | .mgt | .jtag => none

/-- Does the function complete memory requests at all (R139, R149, R153)? -/
def memOpen (q : Port) : Bool := !q.rrs && q.resetting == .none && q.mse && !q.d3hot && !q.quiet

/-- Is an IDE stream of the port Secure? PRESUMED: notes/assumptions/68.md. -/
def ideSecure (q : Port) : Bool := q.ide.toList.any (·.secure)

/-- An access of the management requester while the management space is served: outside COLD_RESET and TRIPPED (R50). -/
def mgtOpen (r : Requester) (s : State) : Bool := isMgt r s && clocked s

/-- FEAT and DEV (R54). -/
def alwaysBlock (off : Nat) : Bool := decide (off < 0x20000)
/-- FEAT, DEV and SEC (R148). -/
def ideOpenBlock (off : Nat) : Bool := alwaysBlock off || off / 0x10000 == 0x14
/-- The MSI-X table and PBA (R132). -/
def msixArea (off : Nat) : Bool := (decide (0xFE0000 ≤ off) && decide (off < 0xFE0100)) || (decide (0xFF0000 ≤ off) && decide (off < 0xFF0008))

/-- A request without IDE protection on a port with a Secure stream: counted, and recorded (R148, R547). -/
def refuseBare (k : PortId) (s : State) : State :=
  let s := cntPort 0x0002801C 1 k s
  let s := match partOf s k with
    | some p => if (partCfg s p).defined then record p { code := 0x0A01, cls := .corrected, source := 7 } s else s
    | none => s
  secLogMerged 0x0051 (16 + k.val) [BitVec.ofNat 8 (16 + k.val)] s

/-- A received request brings the link out of L1; in D3hot the link returns to L1 once it is answered (R149, R150). -/
def leaveL1 (k : PortId) (s : State) : State := updPort s k (fun q => { q with inL1 := q.inL1 && q.d3hot })

/-- The gate before a memory request; `bar0` is its offset where it reaches BAR0. -/
def hostMem (k : PortId) (bare : Bool) (bar0 : Option Nat) (s : State) : MemGate × State :=
  let s := leaveL1 k s
  let q := getPort s k
  if !memOpen q then (.ur, s)
  else
    let need := (portCfg s k).ideRequired
    if need && !ideSecure q && !(match bar0 with | some o => ideOpenBlock o | none => false) then (.ur, s)
    else if need && ideSecure q && bare then (.ur, refuseBare k s)
    else if s.boot.state == .ready then (.go, s)
    else match bar0 with
    | some o => (if alwaysBlock o || msixArea o then .go else .zero, s)
    | none => (.ur, s)

/-- Does a write of JTAG reach the DBG block, which DEBUG_ACCESS writes too (R541)? -/
def jtagDbg (r : Requester) (off : Nat) (s : State) : Bool := r == .jtag && mgtOpen r s && off / 2 ^ 16 == 0x16

/-- The partition whose block a register write reaches from a host port; the management space repeats these blocks
read-only (R573), but for the DBG block from JTAG (R541). DEDUCED: notes/assumptions/72.md. -/
def hostPart (r : Requester) (off : Nat) (s : State) : Option PartId × State :=
  match portReq r with
  | none => (if jtagDbg r off s && (partCfg s s.mgt.view).defined then some s.mgt.view else none, s)
  | some (k, bare) =>
    match hostMem k bare (some off) s with
    | (.go, s) => ((partOf s k).filter (fun p => (partCfg s p).defined), s)
    | (_, s) => (none, s)

end Sys2Proof.Machine
end

