-- ==== Sys2Proof/Machine/Bridle.lean ====
section
/-!
DEFINITION. Machine/Bridle.lean: the Bridle links (spec/13): training, flits and retry, encryption, retrain, bonds and
relays, sleep and dormant.
-/
namespace Sys2Proof.Machine
open Sys2Proof

-- Advertisements and bond changes (R352, R353, R40)

/-- The advertisement of this device (R352). -/
def ownAdvert (s : State) : Advert :=
  { map := bondMap s, startId := s.net.startId,
    peers := (List.range s.cfg.group.size).filterMap (fun m =>
      match (bondLinks s m).find? (fun l => working (getLink s l)) with
      | some l => some (m, (getLink s l).peer.startId)
      | none => none) }

/-- A SLEEP link becomes ACTIVE by the wake pattern (R355). -/
def wakeLink (l : LinkId) (s : State) : State :=
  if (getLink s l).state == .sleep then
    drainLink l (setBrl l .active (emit (.link l .wake) (updLink s l (fun q => { q with sleepAsked := false }))))
  else s

/-- Send the advertisement on every working mesh link, waking those asleep (R352, R355), and the notice with it (R509). -/
def advertise (s : State) : State :=
  let ls := allLinks.filter (fun l => l.val ≠ 15 && working (getLink s l))
  let s := eachOf ls (fun l s => sendLinkMsg l (.advert (ownAdvert s)) (wakeLink l s)) s
  eachOf ls noticeLink s

/-- Is the system one group (R103)? -/
def oneGroup (s : State) : Bool := match s.cfg.topo with | some t => decide (t.groupCount ≤ 1) | none => true

/-- Does the device keep group time: in TIME_SYNC and READY (R99)? -/
def timed (s : State) : Bool := s.boot.state == .timeSync || s.boot.state == .ready

/-- The lowest member in READY or TIME_SYNC among this one and those whose bond is up (R99). DEDUCED: notes/assumptions/11.md. -/
def groupMaster (s : State) : Nat :=
  ((List.range s.cfg.group.size).find? (fun m =>
    m == s.cfg.group.member || (bondUp s m && !s.time.unheard.contains m))).getD s.cfg.group.member

/-- The group time master is `m`, named by the member `via` where there is no bond to it. -/
def setMaster (m : Nat) (via : Option Nat) (s : State) : State :=
  let own := m == s.cfg.group.member
  { s with time := { s.time with
    masterMember := m, isMaster := own, via := via
    source := if own && s.time.source == .bridle then .freeRun else s.time.source
    ptp := if own then s.time.ptp else {} } }

/-- The time master by the bonds that are up (R99): the device keeps its own DT, and keeps a master that a bonded member still
names. DEDUCED: notes/assumptions/11.md. -/
def judgeMaster (s : State) : State :=
  if !timed s then s
  else
    let m := groupMaster s
    let named := decide (s.time.masterMember < m) && (match s.time.via with | some x => bondUp s x | none => false)
    if named then s else setMaster m none s

/-- Members whose bond comes up while this device keeps time are not known to keep time until they are heard (R99). -/
def noteBonds (before s : State) : State :=
  if !timed s then s
  else
    let fresh := (List.range s.cfg.group.size).filter (fun m => bondUp s m && !bondUp before m)
    { s with time := { s.time with unheard := (s.time.unheard.filter (bondUp s)) ++ fresh } }

/-- After a change of link state: a changed bond map is advertised, reachability is judged again, and what waits for a
path tries again. -/
def bondChange (before : State) (s : State) : State :=
  if bondMap s = bondMap before then s
  else drainOut (eachOf allParts withdrawSpecs (relayReach before (judgeReach (judgeMaster (noteBonds before (advertise s))))))

-- Entering states (R337, R343)

/-- The sequenced state of a link is gone (R343): FSEQ restarts at 0, packets not whole are discarded. -/
def clearSequenced (q : Link) : Link := { q with
  txSeq := 0
  unacked := []
  rxNext := 0
  nakOpen := false
  nakRun := 0
  nakSeq := 0
  ackOwed := 0
  rxHeld := []
  txGroup := []
  txWait := []
  timeTx := none
  timeRx := none
  rxPart := List.replicate 7 []
  queue := []
  credit := []
  cryptOn := false
  sleepAsked := false
  dormantAsked := false }

/-- Take the unacknowledged packets and the waiting ones from a link. -/
def linkPackets (q : Link) : List (DevId × Option DevId × Nat × Bytes) := q.unacked.filterMap (·.last)

/-- Leave the working states for `st`: sequenced state is discarded, and every packet whose last flit is unacknowledged
goes again on another path (R343, R349, R353). -/
def leaveActive (l : LinkId) (st : BrlState) (s : State) : State :=
  let before := s
  let q := getLink s l
  let s := updLink { s with bridle := { s.bridle with owed := s.bridle.owed.filter (fun o => o.1 ≠ l) } } l clearSequenced
  let s := if st == .detect then enterDetect l s else setBrl l st s
  let s := (linkPackets q).foldl (fun s (d, fwd, fl, b) => resend d fwd fl b s) s
  let s := q.queue.foldl (fun s b => sendPairLink b s) s
  let s := if l.val = 15 && st == .detect then dualDetect s else s
  bondChange before s

/-- A retrain (R343): BRL_RETRAINS and DETECT. DEDUCED: notes/assumptions/24.md. -/
def retrainLink (l : LinkId) (s : State) : State := leaveActive l .detect (cntLink 0x28 1 l s)

/-- A link goes DOWN or MISWIRED with a cause, recorded once (R337, R356). -/
def linkDown (l : LinkId) (st : BrlState) (cause : Nat) (s : State) : State :=
  let s := setBrl l st (updLink s l (fun q => { q with downCause := cause }))
  let s := recordLink { code := 0x0402, cls := .corrected, source := 8, sub := l.val, detail0 := cause } s
  if l.val = 15 && st == .down then dualLinkDown s else s

/-- A trained link enters ACTIVE: FSEQ 0, full credit (notes/assumptions/8.md), the handshake of R40, the held traffic. -/
def linkActive (l : LinkId) (crypt : Bool) (s : State) : State :=
  let before := s
  let s := setBrl l .active (updLink s l (fun q => { clearSequenced q with
    queue := q.queue, credit := fullCredit s l, cryptOn := crypt, groups := 0, rxGroups := 0, nakTimes := [], authTimes := [] }))
  let s := match linkPeer s l with
    | some d => if l.val = 15 then s else markReachable d s
    | none => s
  let s := if l.val = 15 then pairActive (dualActive s) else s
  drainLink l (bondChange before s)

/-- BRL_SIGNAL_DETECT (R337, R338): a follower that has locked to the leader transmits; one that transmits already and detects the
leader's sequences stops and starts again. Also a DORMANT link whose far end starts DETECT (R355). -/
def execBrlSignalDetect (l : LinkId) (s : State) : Out :=
  let follower := !(getLink s l).leader
  match (getLink s l).state with
  | .detect =>
    let s := setBrl l .equalize (updLink s l (fun q => { q with lanesLocked := 15 }))
    .next (if follower then emit (.link l .training) s else s)
  | .equalize | .identify | .keying => if follower then .next (enterDetect l s) else .next s
  | .dormant => .next (enterDetect l s)
  | _ => .next s

/-- What this end reports in IDENTIFY (R339). -/
def ownIdentity (s : State) (l : LinkId) : Identity :=
  { dev := ownId s, link := l.val, groupSize := s.cfg.group.size, pairMode := s.cfg.group.pairMode,
    crypt := s.cfg.link.brlCrypt, startId := s.net.startId }

/-- BRL_EQUALIZE_DONE (R337, R339). -/
def execBrlEqualizeDone (l : LinkId) (s : State) : Out :=
  if (getLink s l).state != .equalize then .next s
  else .next (sendLinkMsg l (.identify (ownIdentity s l)) (setBrl l .identify s))

/-- IDENTIFY_RECEIVE (R29, R30, R337, R339). -/
def execIdentifyReceive (l : LinkId) (i : Identity) (s : State) : Out :=
  if (getLink s l).state != .identify then .next s
  else
    let s := learnStart i.dev i.startId (updLink s l (fun q => { q with peer := i, peerValid := true }))
    if some i.dev ≠ linkPeer s l ∨ i.link ≠ farLink s l then .next (linkDown l .miswired 2 s)
    else if i.groupSize ≠ s.cfg.group.size ∨ i.pairMode ≠ s.cfg.group.pairMode ∨ i.crypt ≠ s.cfg.link.brlCrypt then
      .next (linkDown l .down 3 s)
    else if s.cfg.link.brlCrypt then .next (setBrl l .keying s)
    else .next (linkActive l false s)

/-- The group PSK of the vault (R530). -/
def groupPsk (s : State) : Option Bytes := (s.sec.vault.find? (fun i => i.type == 2)).map (·.secret)

/-- A failed authentication of a link: SEC_AUTH_FAIL, SUB 1, in every DEFINED partition's ring, and LINK_AUTH_FAIL (R337, R344,
R453, R547). -/
def linkAuthFail (l : LinkId) (s : State) : State :=
  secLogMerged 0x0051 l.val (toLe 1 l.val) (recordAll { code := 0x0A01, cls := .corrected, source := 8, sub := 1 } s)

/-- Fresh keys of a link: the ECDH secret is a value of the exchange (R537). -/
def freshKey (l : LinkId) (psk : Bytes) (s : State) : State :=
  let (v, s) := takeFree s
  updLink s l (fun q => { q with key := Config.kdf (leNat psk) (toLe 16 v), groups := 0, rxGroups := 0, txGroup := [], rxHeld := [] })

/-- BRL_KEYING_DONE (R337, R537): a missing PSK fails. -/
def execBrlKeyingDone (l : LinkId) (ok : Bool) (s : State) : Out :=
  if (getLink s l).state != .keying then .next s
  else match (if ok then groupPsk s else none) with
  | some psk => .next (linkActive l true (freshKey l psk s))
  | none => .next (linkDown l .down 4 (linkAuthFail l s))

/-- BRL_TRAIN_TIMEOUT (R109, R337): LINKTRAIN_MS since entry to DETECT. -/
def execBrlTrainTimeout (l : LinkId) (s : State) : Out :=
  if upNs s < (getLink s l).trainAt + s.cfg.tmo.linkTrainMs * 1000000 then .next s
  else match (getLink s l).state with
  | .detect | .equalize | .identify | .keying => .next (linkDown l .down 1 s)
  | _ => .next s

/-- DETECT again from DOWN or MISWIRED. -/
def retryLink (l : LinkId) (s : State) : State :=
  let s := enterDetect l s
  if l.val = 15 then dualDetect s else s

/-- BRL_DOWN_RETRY (R109, R337): 1 s since entry. -/
def execBrlDownRetry (l : LinkId) (s : State) : Out :=
  if upNs s < (getLink s l).since + 1000000000 then .next s
  else match (getLink s l).state with
  | .down | .miswired => .next (retryLink l s)
  | _ => .next s

-- Flits (R340 to R345)

/-- Is FSEQ `f` acknowledged by `ack`? -/
def ackedBy (ack f : Nat) : Bool := (ack + 4096 - f) % 4096 < 2048

/-- Take an acknowledgement: the flits up to it leave the replay buffer, and LINK and TIME flits that waited for room go (R341). -/
def takeAck (l : LinkId) (ack : Nat) (s : State) : State :=
  let w := (getLink s l).txWait
  eachOf w (fun e s => otherFlit l e.1 e.2 s)
    (updLink s l (fun q => { q with unacked := q.unacked.filter (fun f => !ackedBy ack f.fseq), txWait := [] }))

/-- Send the replay buffer again in FSEQ order (R341). -/
def replayLink (l : LinkId) (s : State) : State :=
  let u := (getLink s l).unacked
  let s := updLink s l (fun q => { q with txFlits := wrapAdd 64 q.txFlits u.length })
  eachOf u (fun f s => emit (.flit l f.fseq f.bytes) s) s

/-- A NAK that requests from `ack` + 1 (R341, R342). -/
def takeNak (l : LinkId) (ack : Nat) (s : State) : State :=
  let s := cntLink 0x24 1 l (takeAck l ack s)
  let q := getLink s l
  let want := (ack + 1) % 4096
  let run := if q.nakRun > 0 ∧ q.nakSeq = want then q.nakRun + 1 else 1
  let times := recent (upNs s) 1000000 q.nakTimes
  let s := updLink s l (fun q => { q with nakRun := run, nakSeq := want, nakTimes := times })
  if run ≥ 8 ∨ times.length ≥ 256 then
    retrainLink l (recordLink { code := 0x0401, cls := .corrected, source := 8, sub := l.val }
      (updLink s l (fun q => { q with nakTimes := [], nakRun := 0 })))
  else replayLink l s

/-- The acknowledgement of this end, or its NAK, in an IDLE flit. -/
def sendAck (l : LinkId) (s : State) : State := idleFlit l 0 0 0 s

/-- A discard of R341: NAK until FSEQ = ACK + 1 arrives. -/
def discardFlit (l : LinkId) (s : State) : State :=
  sendAck l (cntLink 0x20 1 l (updLink s l (fun q => { q with nakOpen := true })))

/-- The destination and the flags of a packet that passes this device (R353). DEDUCED: notes/assumptions/27.md. -/
def forwardHead (b : Bytes) : DevId × Nat :=
  let h := b.drop (b.length - 64)
  if isDataPacket b then
    let k := match leAt h 8 1 % 16 with | 1 => 1 | 2 => 2 | _ => 0
    (leAt h 10 2 % 2 ^ 14, 16 * (tagPart (leAt h 0 8) % 4) + k)
  else (leAt h 12 2 % 2 ^ 14, (if leAt h 8 1 % 16 = 1 then 3 else 0) + 4)

/-- A packet received whole: kept in its pool, or forwarded when it is for another device (R346, R353). BL15 has pools for CTRL and
PAIR only, and takes no other packet (R354). -/
def packetWhole (l : LinkId) (vc : Nat) (b : Bytes) (s : State) : State :=
  let (d, fl) := forwardHead b
  if l.val = 15 ∧ vc ≠ 0 ∧ vc ≠ 6 then s
  else if (vc = 4 ∨ vc = 5) ∧ d ≠ ownId s then
    payOwed (forwardTo { dst := d, flags := fl, src := (linkPeer s l).getD 0, bytes := b } { s with bridle := { s.bridle with
      relayFwd := wrapAdd 64 s.bridle.relayFwd 1
      owed := s.bridle.owed ++ [(l, vc, flagPart fl, creditUnits b.length, d)] } })
  else updLink s l (fun q => { q with pool := q.pool ++ [(vc, b)] })

/-- Deliver the payload of an accepted flit (R340): DATA continues or ends a packet of its VC. DESIGN CHOICE: notes/assumptions/5.md. -/
def deliverFlit (l : LinkId) (h : FlitHead) (payload : Bytes) (s : State) : State :=
  if h.type ≠ 1 then s
  else
    let part := (getLink s l).rxPart.getD h.vc []
    let setPart (b : Bytes) (s : State) : State := updLink s l (fun q => { q with rxPart := listSet q.rxPart h.vc b })
    if h.end_ = 0 then setPart (part ++ payload) s
    else packetWhole l h.vc (part ++ payload.take h.end_) (setPart (if h.next then payload.drop h.end_ else []) s)

/-- The far end's answers to SLEEP_REQ and the dormant handshake, as LINK flits bring them (R355). DESIGN CHOICE: notes/assumptions/5.md. -/
def takeLinkMsg (l : LinkId) (m : LinkMsg) (s : State) : State :=
  let q := getLink s l
  match m with
  | .sleepAck =>
    if q.sleepAsked then
      let s := cntLink 0x34 1 l (updLink s l (fun q => { q with sleepAsked := false }))
      setBrl l .sleep s
    else emit (.link l .wake) s
  | .sleepNak => updLink s l (fun q => { q with sleepAsked := false })
  | .dormantReq =>
    if !queuedFor s l then leaveActive l .dormant (sendLinkMsg l .dormantAck s) else sendLinkMsg l .dormantNak s
  | .dormantAck => if q.dormantAsked then leaveActive l .dormant s else s
  | .dormantNak => updLink s l (fun q => { q with dormantAsked := false })
  | _ => s

/-- The content of a sequenced flit that is delivered. -/
def takePayload (l : LinkId) (h : FlitHead) (payload : Bytes) (msg : Option LinkMsg) (s : State) : State :=
  let s := deliverFlit l h payload s
  match h.type, msg with
  | 2, some m => takeLinkMsg l m s
  | _, _ => s

/-- An INTEGRITY flit accepted in order (R344): the held group is delivered, or refused from its first flit. -/
def takeIntegrity (l : LinkId) (payload : Bytes) (s : State) : State :=
  let q := getLink s l
  let far := (linkPeer s l).getD 0
  let key := dirKey q far (ownId s)
  let nonce := groupNonce far (farLink s l) q.rxGroups
  let tag := groupTag key nonce (q.rxHeld.map (·.2.1))
  if bytesAt payload 0 16 = tag then
    let s := updLink s l (fun q => { q with rxHeld := [], rxGroups := q.rxGroups + 1 })
    q.rxHeld.zipIdx.foldl (fun s ((_, f, m), i) => match parseFlit f with
      | some (h, b) => takePayload l h (cryptPayload key nonce i b) m s
      | none => s) s
  else
    let first := ((q.rxHeld.head?).map (·.1)).getD q.rxNext
    let times := recent (upNs s) 1000000 q.authTimes
    let s := discardFlit l (cntLink 0x2C 1 l (updLink s l (fun q => { q with rxNext := first, rxHeld := [], authTimes := times })))
    if times.length ≥ 4 then retrainLink l (linkAuthFail l (updLink s l (fun q => { q with authTimes := [] }))) else s

/-- A sequenced flit that carries the next FSEQ is accepted (R341). -/
def takeSequenced (l : LinkId) (flit : Bytes) (h : FlitHead) (payload : Bytes) (msg : Option LinkMsg) (s : State) : State :=
    let q := getLink s l
    let s := updLink s l (fun q => { q with
      rxNext := (q.rxNext + 1) % 4096, nakOpen := false, rxFlits := wrapAdd 64 q.rxFlits 1, ackOwed := q.ackOwed + 1
      ackAt := if q.ackOwed = 0 then upNs s else q.ackAt })
    let s := if (getLink s l).ackOwed ≥ 32 then sendAck l s else s
    if h.type = 4 then (if q.cryptOn then takeIntegrity l payload s else s)
    else if q.cryptOn then updLink s l (fun q => { q with rxHeld := q.rxHeld ++ [(h.fseq, flit, msg)] })
    else takePayload l h payload msg s

/-- A received flit after FEC: one that carries another than the next FSEQ is discarded whole; otherwise its acknowledgement and
credit are taken, then its content (R340, R341, R346). -/
def takeFlit (l : LinkId) (flit : Bytes) (msg : Option LinkMsg) (s : State) : State :=
  match parseFlit flit with
  | none => discardFlit l s
  | some (h, payload) =>
    if h.type ≠ 0 ∧ h.fseq ≠ (getLink s l).rxNext then s else
    let s := if h.nak then takeNak l h.ack s else takeAck l h.ack s
    if !working (getLink s l) then s
    else
      let key := if h.creditVc = 1 ∨ h.creditVc = 4 then 8 * (h.creditPart + 1) + h.creditVc else h.creditVc
      let s := if h.creditCount = 0 then s
        else updLink s l (fun q => { q with credit := tabUpd 0 key (· + h.creditCount) q.credit })
      let s := drainLink l s
      if h.type = 0 then s else takeSequenced l flit h payload msg s

/-- FLIT_RECEIVE (R341). `fec` tells of the codeword: 0 clean, 1 corrected, 2 uncorrectable. `msg` is the content of a LINK flit, whose layout the spec does not give. -/
def execFlitReceive (l : LinkId) (fec : Nat) (flit : Bytes) (msg : Option LinkMsg) (s : State) : Out :=
  if (getLink s l).state != .active then .next s
  else if fec ≥ 2 then .next (discardFlit l (cntLink 0x1C 1 l s))
  else .next (takeFlit l flit msg (if fec = 1 then cntLink 0x18 1 l s else s))

/-- NAK_RECEIVE (R341, R342). -/
def execNakReceive (l : LinkId) (ack : Nat) (s : State) : Out :=
  if !working (getLink s l) then .next s else .next (takeNak l (ack % 4096) s)

/-- NAK_REPEAT (R341). -/
def execNakRepeat (l : LinkId) (s : State) : Out :=
  if working (getLink s l) && (getLink s l).nakOpen then .next (sendAck l s) else .next s

/-- ACK_TIMER (R109, R341): 200 ns without an acknowledgement. -/
def execAckTimer (l : LinkId) (s : State) : Out :=
  if working (getLink s l) && (getLink s l).ackOwed != 0 && decide (upNs s ≥ (getLink s l).ackAt + 200) then .next (sendAck l s) else .next s

/-- INTEGRITY_RECEIVE (R344): the flit as FLIT_RECEIVE takes it, when it is an INTEGRITY flit. -/
def execIntegrityReceive (l : LinkId) (flit : Bytes) (s : State) : Out :=
  match parseFlit flit with
  | some (h, _) => if h.type = 4 ∧ (getLink s l).state = .active then .next (takeFlit l flit none s) else .next s
  | none => .next s

/-- The one-way delay of a two-way exchange of TIME flits: sent at `tx`, received there at `farRx`, the answer sent at `farTx` and
received at `rx` (R345). -/
def oneWayDelay (tx farRx farTx rx : Nat) : Nat := ((((rx : Int) - tx) - ((farTx : Int) - farRx)) / 2).toNat % 2 ^ 16

/-- TIME_FLIT_RECEIVE (R345): the far end's DT for the flit, and its capture of this end's last TIME flit. The receive DT is captured,
and an exchange gives the delay. DESIGN CHOICE: notes/assumptions/5.md. -/
def execTimeFlitReceive (l : LinkId) (farDt farRx : Nat) (s : State) : Out :=
  if !working (getLink s l) then .next s
  else .next (updLink s l (fun q => { q with
    timeRx := some (dtNow s)
    delayNs := match q.timeTx with | some t => oneWayDelay t farRx farDt (dtNow s) | none => q.delayNs }))

/-- LOSS_OF_LINK (R343). -/
def execLossOfLink (l : LinkId) (s : State) : Out :=
  if !working (getLink s l) then .next s else .next (retrainLink l s)

-- Bonds (R351, R352)

/-- BOND_ADVERTISEMENT_SEND (R352). A relay whose advertisement has grown old since is no path any more (R40, R351).
DEDUCED: notes/assumptions/81.md. -/
def execBondAdvertisementSend (s : State) : Out := .next (judgeReach (advertise s))

/-- Keep the advertisement of member `m`, and learn the START_IDs it carries (R317, R352). -/
def takeAdvert (m : Nat) (a : Advert) (s : State) : State :=
  let dev (x : Nat) : DevId := 16 * s.cfg.group.group + x
  let s := learnStart (dev m) a.startId s
  let s := a.peers.foldl (fun s (x, id) => if x = s.cfg.group.member then s else learnStart (dev x) id s) s
  { s with bridle := { s.bridle with adverts := tabSet none m (some { map := a.map, dt := dtNow s }) s.bridle.adverts } }

/-- BOND_ADVERTISEMENT_RECEIVE (R317, R351, R352). -/
def execBondAdvertisementReceive (l : LinkId) (a : Advert) (s : State) : Out :=
  if !working (getLink s l) then .next s
  else match linkMember s l with
  | none => .next s
  | some m => .next (drainOut (relayReach s (judgeReach (takeAdvert m a s))))

-- Sleep and dormant (R355)

/-- BRL_IDLE_TIMER (R109, R355): BRL_IDLE_US without a sequenced flit other than TIME. -/
def execBrlIdleTimer (l : LinkId) (s : State) : Out :=
  let q := getLink s l
  if q.state != .active || q.idleUs == 0 || q.sleepAsked || queuedFor s l ||
      decide (upNs s < max q.since q.lastSent + q.idleUs * 1000) then .next s
  else .next (sendLinkMsg l .sleepReq (updLink s l (fun q => { q with sleepAsked := true })))

/-- SLEEP_REQ_RECEIVE (R355): SLEEP_ACK when nothing is queued for the link. -/
def execSleepReqReceive (l : LinkId) (s : State) : Out :=
  let q := getLink s l
  if q.state != .active then .next s
  else if queuedFor s l then .next (sendLinkMsg l .sleepNak s)
  else .next (setBrl l .sleep (cntLink 0x34 1 l (updLink (sendLinkMsg l .sleepAck s) l (fun q => { q with sleepAsked := false }))))

/-- WAKE_PATTERN (R355): the wake wins over a SLEEP_REQ that crosses it. -/
def execWakePattern (l : LinkId) (s : State) : Out :=
  match (getLink s l).state with
  | .sleep | .active =>
    .next (drainLink l (setBrl l .active (updLink s l (fun q => { q with sleepAsked := false, dormantAsked := false }))))
  | _ => .next s

/-- Is a write of BRL_CTL the command `cmd` (R359)? -/
def brlCmd (r : Requester) (v cmd : Nat) (s : State) : Bool := isMgt r s && bitsOf v 31 16 == 0xB1D0 && bitsOf v 15 0 == cmd

/-- BRL_RETRAIN (R337, R343, R359). DEDUCED: notes/assumptions/24.md. -/
def execBrlRetrain (r : Requester) (l : LinkId) (v : Nat) (s : State) : Out :=
  if !brlCmd r v 1 s then .next s
  else match (getLink s l).state with
  | .active | .sleep => .next (retrainLink l s)
  | .down | .miswired => .next (retryLink l s)
  | _ => .next s

/-- Is the link the last working link of its bond? -/
def lastOfBond (s : State) (l : LinkId) : Bool :=
  match linkMember s l with
  | some m => (bondLinks s m).all (fun x => x == l || !working (getLink s x))
  | none => false

/-- BRL_DORMANT (R355, R359). -/
def execBrlDormant (r : Requester) (l : LinkId) (v : Nat) (s : State) : Out :=
  if !brlCmd r v 2 s || !working (getLink s l) || lastOfBond s l || (l.val == 15 && s.cfg.group.pairMode != 0) then .next s
  else .next (sendLinkMsg l .dormantReq (wakeLink l (updLink s l (fun q => { q with dormantAsked := true }))))

/-- BRL_WAKE (R355, R359). -/
def execBrlWake (r : Requester) (l : LinkId) (v : Nat) (s : State) : Out :=
  if !brlCmd r v 3 s || (getLink s l).state != .dormant then .next s else .next (enterDetect l s)

/-- BRL_REKEY (R537): new keys in-band; no traffic stops. -/
def execBrlRekey (l : LinkId) (s : State) : Out :=
  if !working (getLink s l) || !(getLink s l).cryptOn then .next s
  else match groupPsk s with
  | some psk => .next (freshKey l psk s)
  | none => .next s

end Sys2Proof.Machine
end

