-- ==== Sys2Proof/Machine/Tether.lean ====
section
/-!
DEFINITION. Machine/Tether.lean: the Tether planes and the Tether Transport (spec/14): port states, contexts, segments,
acknowledgements, retransmission and rate control, MACsec, neighbours.
-/
namespace Sys2Proof.Machine
open Sys2Proof

-- Ending and moving contexts (R373)

/-- The packets of a context that are not wholly acknowledged, with FLOW_SEQ assigned, and those that wait. -/
def ctxPending (c : Ctx) : List Waiting :=
  let open_ := (c.streams.toList.map (fun t => t.unacked.map (·.pkt))).flatten
  ((c.pkts.zipIdx.filter (fun (_, i) => open_.contains (c.pktBase + i))).map (fun ((fl, b), _) =>
    { dst := c.peer, part := c.part, flags := fl, bytes := b, since := c.lastUse })) ++ c.queue

/-- Move the packets of an ended context: to the next plane, otherwise they wait for any other path before whatever waits
already (R373); without a plane a cluster notice is left to the next context, which sends its own. DEDUCED: notes/assumptions/23.md. -/
def movePackets (pl : PlaneId) (d : DevId) (p : PartId) (l : List Waiting) (s : State) : State :=
  let packet (w : Waiting) : Bool := !bitOf w.flags 4
  match nextPlane s pl d with
  | some x => l.foldl (fun s w =>
    let s := cntTether 0x0015900C 1 s
    match sendTether x w s with
    | some s => if packet w then emit (.packet d (.tether x) w.bytes) s else s
    | none =>
      let (w, s) := holdBack w s
      { s with net := { s.net with
        wait := if packet w then s.net.wait ++ [w] else s.net.wait
        msgs := if bitOf w.flags 5 then s.net.msgs ++ [(w.dst, w.bytes)] else s.net.msgs } }) (updFlow d p.val (fun f => { f with plane := some x }) s)
  | none => drainOut { s with net := { s.net with
      wait := l.filter packet ++ s.net.wait
      msgs := (l.filter (fun w => bitOf w.flags 5)).map (fun w => (w.dst, w.bytes)) ++ s.net.msgs } }

/-- End a context under R373: its packets move. DEDUCED: notes/assumptions/23.md. -/
def endCtx (i : Nat) (mark : Bool) (s : State) : State :=
  match getCtx s i with
  | none => s
  | some c =>
    let s := cntPlane 0x38 1 c.plane (setCtx i none s)
    let s := if mark then updPlane s c.plane (fun q => { q with failed := q.failed.filter (·.1 ≠ c.peer) ++ [(c.peer, dtNow s)] }) else s
    judgeReach (movePackets c.plane c.peer c.part (ctxPending c) s)

-- Port states (R363)

/-- A plane enters UP. -/
def planeUp (pl : PlaneId) (s : State) : State :=
  let s := sendEth pl .gratuitous (setTth pl .up s)
  let s := match planeCfg s pl with
    | some c => if c.gateway = 0 then s else resolveAddr pl c.gateway s
    | none => s
  drainOut s

/-- A plane leaves for another state: its contexts end (R373). -/
def planeLeave (pl : PlaneId) (st : TthState) (s : State) : State :=
  let s := setTth pl st (updPlane s pl (fun q => { q with secured := false }))
  judgeReach (drainOut (eachOf (planeCtxs s pl) (fun i s => endCtx i false s) s))

/-- A plane goes DOWN with a cause: TTH_DOWN in every DEFINED partition's ring (R363). -/
def planeDown (pl : PlaneId) (cause : Nat) (s : State) : State :=
  let s := updPlane s pl (fun q => { q with downCause := cause })
  planeLeave pl .down (recordLink { code := 0x0404, cls := .corrected, source := 9, sub := pl.val, detail0 := cause } s)

/-- TTH_ALIGN_DONE (R363). -/
def execTthAlignDone (pl : PlaneId) (s : State) : Out :=
  if (getPlane s pl).state != .align then .next s
  else if s.cfg.sec.macsec then .next (setTth pl .keying s)
  else .next (planeUp pl s)

/-- The vault item whose plane mask includes the plane (R536). -/
def macsecItem (s : State) (pl : PlaneId) : Option VaultItem := s.sec.vault.find? (fun i => i.type == 1 && bitOf i.planeMask pl.val)

/-- A SAK from MKA: its value is the key server's (R377, R536). Packet numbers start at 1 under it.
PRESUMED: notes/assumptions/100.md. -/
def freshSak (pl : PlaneId) (item : VaultItem) (s : State) : State :=
  let (v, s) := takeFree s
  updPlane s pl (fun q => { q with
    sak := Config.kdf (leNat item.secret) (toLe 16 v), sakAt := dtNow s, saks := q.saks + 1, txPn := 1, rxPn := 1 })

/-- MKA_SECURED (R363, R377, R536): the peer's key-server priority and the suite agreed. The device is key server only where
the peer bids 255. -/
def execMkaSecured (pl : PlaneId) (peerPriority : Nat) (xpn : Bool) (s : State) : Out :=
  if (getPlane s pl).state != .keying then .next s
  else match macsecItem s pl with
  | some item => .next (planeUp pl (updPlane (freshSak pl item s) pl (fun q => { q with
      secured := true, xpn := xpn, keyServer := decide (peerPriority ≥ 255) })))
  | none => .next s

/-- TTH_TRAIN_TIMEOUT (R109, R363): LINKTRAIN_MS since entry to ALIGN; cause 1 without alignment, 3 in KEYING. -/
def execTthTrainTimeout (pl : PlaneId) (s : State) : Out :=
  if upNs s < (getPlane s pl).trainAt + s.cfg.tmo.linkTrainMs * 1000000 then .next s
  else match (getPlane s pl).state with
  | .align => .next (planeDown pl 1 s)
  | .keying => .next (planeDown pl 3 s)
  | _ => .next s

/-- TTH_FAULT (R363). -/
def execTthFault (pl : PlaneId) (s : State) : Out :=
  if (getPlane s pl).state != .up then .next s else .next (planeDown pl 2 s)

/-- TTH_DOWN_RETRY (R109, R363): 1 s since entry. -/
def execTthDownRetry (pl : PlaneId) (s : State) : Out :=
  if (getPlane s pl).state != .down || decide (upNs s < (getPlane s pl).since + 1000000000) then .next s else .next (enterAlign pl s)

/-- MKA_PEER_LOSS (R377). -/
def execMkaPeerLoss (pl : PlaneId) (s : State) : Out :=
  if (getPlane s pl).state = .up ∧ (getPlane s pl).secured then .next (planeDown pl 3 s) else .next s

/-- Is a new SAK due: a packet number of 0xC000_0000, or 60 s of GCM-AES-256 (R377)? -/
def rekeyDue (s : State) (q : Plane) : Bool :=
  decide (max q.txPn q.rxPn ≥ 0xC0000000) || (!q.xpn && decide (dtNow s ≥ q.sakAt + 60000000000))

/-- MACSEC_REKEY (R377). -/
def execMacsecRekey (pl : PlaneId) (s : State) : Out :=
  if !(getPlane s pl).secured || !rekeyDue s (getPlane s pl) then .next s
  else match macsecItem s pl with
  | some item => .next (freshSak pl item s)
  | none => .next s

/-- Is a write of TTH_CTL the command `cmd` (R384)? -/
def tthCmd (r : Requester) (v cmd : Nat) (s : State) : Bool := isMgt r s && bitsOf v 31 16 == 0x7E70 && bitsOf v 15 0 == cmd

/-- TTH_RETRAIN (R363, R384): from DOWN. -/
def execTthRetrain (r : Requester) (pl : PlaneId) (v : Nat) (s : State) : Out :=
  if !tthCmd r v 1 s || (getPlane s pl).state != .down then .next s else .next (enterAlign pl s)

/-- TTH_DORMANT (R363, R384): an UP plane that carries no PTP. -/
def execTthDormant (r : Requester) (pl : PlaneId) (v : Nat) (s : State) : Out :=
  if !tthCmd r v 2 s || (getPlane s pl).state != .up || s.time.ptp.plane == some pl.val then .next s
  else .next (planeLeave pl .dormant s)

/-- TTH_WAKE (R363, R384). -/
def execTthWake (r : Requester) (pl : PlaneId) (v : Nat) (s : State) : Out :=
  if !tthCmd r v 3 s || (getPlane s pl).state != .dormant then .next s else .next (enterAlign pl s)

-- Receiving (R366, R368, R371, R372)

/-- Count a discarded datagram. -/
def discardDgram (pl : PlaneId) (s : State) : State := cntPlane 0x2C 1 pl s

/-- Bytes of a frame with its headers, FCS and SecTAG (R361, R377). -/
def frameLen (s : State) (h : IpHead) (data : Bytes) : Nat :=
  14 + (if h.vlan = 0 then 0 else 4) + (if h.ver = 4 then 20 else 40) + 8 + data.length + 4 + (if s.cfg.sec.macsec then 32 else 0)

/-- Does a received datagram pass the checks of R361 and R366 below the transport header? -/
def ipOk (s : State) (pl : PlaneId) (h : IpHead) (data : Bytes) : Bool :=
  match planeCfg s pl with
  | none => false
  | some c => h.vlan == c.vlan && decide (frameLen s h data ≤ 9216) && !h.fragment && !h.options &&
      (h.udpSum == udpChecksum h data || (h.udpSum == 0 && h.ver == 4)) && h.dport == c.udpPort &&
      h.src == planeAddrOf c (beAt data 2 2 % 2 ^ 14)

/-- Is the SecTAG one that the plane takes: none without MACsec, otherwise a packet number inside the window of 64 (R377)?
PRESUMED: notes/assumptions/100.md. -/
def secOk (s : State) (pl : PlaneId) (pn : Option Nat) : Bool :=
  match s.cfg.sec.macsec, pn with
  | true, some n => n != 0 && decide ((getPlane s pl).rxPn ≤ n + 64)
  | false, none => true
  | _, _ => false

/-- Note the packet number of an accepted frame. -/
def notePn (pl : PlaneId) (pn : Option Nat) (s : State) : State :=
  match pn with
  | some n => updPlane s pl (fun q => { q with rxPn := max q.rxPn (n + 1) })
  | none => s

/-- The packet number of a received datagram's frame. -/
def framePn (fr : FrameCheck) : Option Nat := match fr with | .good h => h.pn | _ => none

/-- A received frame that the lower layers discard (R361, R366, R377, R383): counted, and the state it leaves. -/
def frameBad (pl : PlaneId) (fr : FrameCheck) (data : Bytes) (s : State) : Option State :=
  match fr with
  | .good h =>
    if !secOk s pl h.pn then some (cntPlane 0x30 1 pl s)
    else if ipOk s pl h data then none else some (discardDgram pl (notePn pl h.pn s))
  | .fcs => some (cntPlane 0x3C 1 pl s)
  | .macsec => some (cntPlane 0x30 1 pl s)

/-- The same of a frame that is no transport datagram: another VID is discarded (R361). -/
def ethBad (pl : PlaneId) (fr : EthCheck) (s : State) : Option State :=
  match fr with
  | .good t =>
    if !secOk s pl t.pn then some (cntPlane 0x30 1 pl s)
    else if (planeCfg s pl).map (·.vlan) = some t.vlan then none else some (discardDgram pl (notePn pl t.pn s))
  | .fcs => some (cntPlane 0x3C 1 pl s)
  | .macsec => some (cntPlane 0x30 1 pl s)

/-- The packet number of such a frame. -/
def ethPn (fr : EthCheck) : Option Nat := match fr with | .good t => t.pn | _ => none

/-- The ECN field of a received frame. -/
def frameEcn (fr : FrameCheck) : Nat := match fr with | .good h => h.ecn | _ => 0

/-- A datagram of a type whose header keeps R368, with the context it names where it names one. -/
def acceptDgram (s : State) (type : Nat) (dgram : Bytes) : Option (TthHead × Bytes) :=
  match parseTth dgram with
  | none => none
  | some (h, b) => if h.type ≠ type ∨ h.dst ≠ ownId s ∨ !knownDev s h.src ∨ (type = 3 ∧ h.ctx ≠ 0xFFFF) then none else some (h, b)

/-- The context that a datagram names: of that peer, partition and plane (R368). -/
def ctxNamed (s : State) (pl : PlaneId) (h : TthHead) : Option Ctx :=
  match getCtx s h.ctx with
  | some c => if c.peer = h.src ∧ c.part.val = h.part ∧ c.plane = pl then some c else none
  | none => none

/-- Bytes that reassembly holds on the data streams or on the control stream (R372). DESIGN CHOICE: notes/assumptions/9.md. -/
def poolUsed (s : State) (control : Bool) : Nat :=
  let of (c : Ctx) : Nat := (c.streams.toList.mapIdx (fun j t =>
    if (j == 0) == control then (t.rxParts.map (fun e => e.2.2.2.length)).foldl (· + ·) 0 else 0)).foldl (· + ·) 0
  (s.tether.ctxs.map (fun (_, c) => match c with | some c => of c | none => 0)).foldl (· + ·) 0 +
    (if control then 0 else (s.planes.toList.map (fun q => (q.pool.map (fun e => e.2.length)).foldl (· + ·) 0)).foldl (· + ·) 0)

/-- Open contexts, and those that received data in the last 100 us with `c` among them. DESIGN CHOICE: notes/assumptions/9.md. -/
def openCtxs (s : State) : Nat := (s.tether.ctxs.filter (fun e => match e.2 with | some c => c.state == .open_ | none => false)).length
def busyCtxs (s : State) : Nat := (s.tether.ctxs.filter (fun e => match e.2 with
  | some c => c.lastRx != 0 && decide (dtNow s ≤ c.lastRx + 100000)
  | none => false)).length

/-- The window offered on a stream (R372; the division is notes/assumptions/9.md). -/
def offeredWindow (s : State) (c : Ctx) (st : Nat) : Nat :=
  if st = 0 then max 2048 ((2 ^ 21 - poolUsed s true) / max (openCtxs s) 1)
  else if st = 1 ∧ rowWithheld s c.part then 0
  else (2 ^ 25 - poolUsed s false) / max (busyCtxs s) 1 / 3

/-- Ranges of consecutive SSNs in a list in SSN order, ascending: first and count. -/
def ssnRanges : List Nat → List (Nat × Nat)
  | [] => []
  | n :: t => match ssnRanges t with
    | (m, k) :: r => if m = (n + 1) % 2 ^ 32 then (n, k + 1) :: r else (n, 1) :: (m, k) :: r
    | [] => [(n, 1)]

/-- One entry of an ACK (R371). -/
def ackEntry (s : State) (c : Ctx) (st : Nat) (t : CtxStream) : Bytes :=
  let rs := ((ssnRanges t.rxAhead).reverse.take 3)
  toBe 4 t.rxCum ++ toBe 4 (offeredWindow s c st) ++ toBe 4 t.ce ++ toBe 4 t.rx ++ toBe 4 t.echoTs ++ toBe 4 0 ++
    bytesAt ((rs.map (fun (f, n) => toBe 4 f ++ toBe 4 n)).flatten) 0 24

/-- Send an ACK of a context (R371). -/
def sendCtxAck (i : Nat) (s : State) : State :=
  match getCtx s i with
  | none => s
  | some c =>
    let b := (c.streams.toList.mapIdx (fun j t => ackEntry s c j t)).flatten
    let s := updCtx i (fun c => { c with
      ackOwed := 0
      streams := c.streams.map (fun t => { t with ce := 0, rx := 0, echoTs := 0 }) }) s
    sendDgram c.plane c.peer c.path { ctxHead s c 2 with len := b.length } b s

/-- The segments of a packet from SSN `n` on, up to the one with LAST. -/
def gatherFrom (parts : List (Nat × Nat × Bool × Bytes)) : Nat → Nat → Option (List Nat × Bytes)
  | 0, _ => none
  | fuel + 1, n => match parts.find? (fun e => e.1 == n) with
    | none => none
    | some (_, _, last, b) =>
      if last then some ([n], b)
      else (gatherFrom parts fuel ((n + 1) % 2 ^ 32)).map (fun (l, r) => (n :: l, b ++ r))

/-- The packet whose segments have all arrived, if there is one. -/
def wholePacket (parts : List (Nat × Nat × Bool × Bytes)) : Option (List Nat × Bytes) :=
  (parts.filter (fun e => e.2.1 == 0)).findSome? (fun e => gatherFrom parts (parts.length + 1) e.1)

/-- Advance the cumulative SSN over what has arrived ahead. -/
def advanceCum : Nat → CtxStream → CtxStream
  | 0, t => t
  | fuel + 1, t => if t.rxAhead.contains t.rxCum then
      advanceCum fuel { t with rxAhead := t.rxAhead.filter (· ≠ t.rxCum), rxCum := (t.rxCum + 1) % 2 ^ 32 }
    else t

/-- Insert an SSN into a list in SSN order, modulo 2^32 (R368). -/
def insertSsn (n : Nat) : List Nat → List Nat
  | [] => [n]
  | m :: t => if ssnBefore n m then n :: m :: t else m :: insertSsn n t

/-- A DATA segment of an open context (R372). -/
def takeSegment (pl : PlaneId) (i : Nat) (ce : Bool) (h : TthHead) (b : Bytes) (c : Ctx) (s : State) : State :=
  let st := flagStream h.stream
  let t : CtxStream := c.streams[st]
  let s := if ce then cntPlane 0x28 1 pl s else s
  let dup := ssnBefore h.ssn t.rxCum || t.rxAhead.contains h.ssn
  let ooo := !dup && h.ssn != t.rxCum
  let t1 := { t with ce := t.ce + b2n ce, rx := t.rx + 1 }
  let t2 := if dup then t1 else
    let u := if ooo then { t1 with rxAhead := insertSsn h.ssn t1.rxAhead } else { t1 with rxCum := (t1.rxCum + 1) % 2 ^ 32 }
    advanceCum (u.rxAhead.length + 1) { u with rxParts := u.rxParts ++ [(h.ssn, h.off, h.last, b)], echoTs := h.ts }
  let whole := if dup then none else wholePacket t2.rxParts
  let t3 := match whole with
    | some (ns, _) => { t2 with rxParts := t2.rxParts.filter (fun e => !ns.contains e.1) }
    | none => t2
  let now := ooo || (c.lastCe != ce) || decide (c.ackOwed + 1 ≥ 16)
  let s := setCtx i (some { c with
    streams := c.streams.set st t3, ackOwed := c.ackOwed + 1, ackAt := if c.ackOwed = 0 then dtNow s else c.ackAt, lastCe := ce, lastUse := dtNow s, lastRx := dtNow s, heard := some h.ts }) s
  let s := if dup then s else updPlane s pl (fun q => { q with rxSegs := wrapAdd 64 q.rxSegs 1 })
  let s := match whole with
    | some (_, x) => updPlane s pl (fun q => { q with pool := q.pool ++ [(c.peer, x)] })
    | none => s
  if now then sendCtxAck i s else s

/-- TTH_DATA_RECEIVE (R366, R368, R371, R372). -/
def execTthDataReceive (pl : PlaneId) (fr : FrameCheck) (dgram : Bytes) (s : State) : Out :=
  if (getPlane s pl).state != .up then .next s
  else match frameBad pl fr dgram s with
  | some t => .next t
  | none =>
    let s := notePn pl (framePn fr) s
    match acceptDgram s 1 dgram with
    | none => .next (discardDgram pl s)
    | some (h, b) => match ctxNamed s pl h with
      | some c => if c.state == .open_ then .next (takeSegment pl h.ctx (frameEcn fr == 3) h b c s) else .next (discardDgram pl s)
      | none => .next (discardDgram pl s)

-- Sending side: acknowledgements, retransmission and rate (R371 to R375)

/-- The SSNs that the SACK ranges of an entry cover. -/
def sackList (e : Bytes) : List (Nat × Nat) :=
  (List.range 3).filterMap (fun j =>
    let f := beAt e (24 + 8 * j) 4
    let n := beAt e (28 + 8 * j) 4
    if n = 0 then none else some (f, n))

def inSack (rs : List (Nat × Nat)) (n : Nat) : Bool := rs.any (fun (f, k) => decide ((2 ^ 32 + n - f) % 2 ^ 32 < k))

/-- One entry of an ACK on its stream: acknowledged segments leave, an RTT sample is taken (R372); an entry older than one seen
says nothing. DESIGN CHOICE: notes/assumptions/10.md. -/
def takeEntry (now : Nat) (c : Ctx) (st : Fin 4) (e : Bytes) : Ctx :=
  let t : CtxStream := c.streams[st]
  let cum := beAt e 0 4
  if ssnBefore cum t.cum then c else
  let fresh := t.cum != cum
  let rs := sackList e
  let kept := t.unacked.filter (fun x => !(ssnBefore x.ssn cum) && !inSack rs x.ssn)
  let sacked := (t.sacked ++ (t.unacked.filter (fun x => inSack rs x.ssn)).map (fun x => (x.ssn, x.len))).filter (fun x => !(ssnBefore x.1 cum))
  let c : Ctx := { c with streams := c.streams.set st { t with cum := cum, window := beAt e 4 4, unacked := kept, sacked := sacked } }
  let echo := beAt e 16 4
  let c : Ctx := if echo = 0 then c
    else
      let rtt : Nat := (2 ^ 32 + now % 2 ^ 32 - echo) % 2 ^ 32
      let c : Ctx := if c.srtt = 0 then { c with srtt := rtt, rttvar := rtt / 2 }
        else { c with srtt := (7 * c.srtt + rtt) / 8, rttvar := (3 * c.rttvar + (max rtt c.srtt - min rtt c.srtt)) / 4 }
      let rtts := c.rtts.filter (fun x => decide (now < x.1 + 10000000)) ++ [(now, rtt)]
      let c := if !c.ecnOk && rtts.any (fun x => decide (rtt > x.2 + 50000)) then cutRate 7 8 now c else c
      { c with rtts := rtts }
  if fresh then { c with rtoRun := 0, rtoNs := min 10000000 (max 100000 (c.srtt + 4 * c.rttvar)) } else c

/-- Packets at the front that are wholly acknowledged are forgotten. -/
def popPackets : Nat → Ctx → Ctx
  | 0, c => c
  | fuel + 1, c =>
    let busy := c.streams.toList.any (fun t => t.unacked.any (fun x => x.pkt == c.pktBase))
    match c.pkts with
    | [] => c
    | _ :: rest => if busy then c else popPackets fuel { c with pkts := rest, pktBase := c.pktBase + 1 }

/-- Segments of a stream that 3 later segments in SACK overtake, each at most once per SRTT (R372). -/
def fastList (now srtt : Nat) (t : CtxStream) (e : Bytes) : List TxSeg :=
  let rs := sackList e
  t.unacked.filter (fun x =>
    let later : Nat := (rs.map (fun (f, k) => ((List.range (min k 4096)).filter (fun j => ssnBefore x.ssn ((f + j) % 2 ^ 32))).length)).foldl (· + ·) 0
    decide (later ≥ 3) && (!x.fastDone || decide (now ≥ x.lastTx + srtt)))

/-- The marks of an ACK (R374): alpha, the cut, and the raise after an SRTT without mark or retransmission. DESIGN CHOICE: notes/assumptions/10.md. -/
def takeMarks (now ce rx : Nat) (retx : Bool) (c : Ctx) : Ctx :=
  let c := if c.ecnOk && rx ≠ 0 then { c with alpha := c.alpha * 15 / 16 + 65536 * ce / rx / 16 } else c
  let c := if c.ecnOk && ce ≠ 0 then cutRate (131072 - min c.alpha 65536) 131072 now c else c
  let c := if c.ecnOk && ce ≠ 0 then { c with lastBad := now } else c
  if ce = 0 && !retx && decide (now ≥ max c.lastRaise (max c.lastBad c.lastCut) + c.srtt) then { c with rate := min 1024 (c.rate + 16), lastRaise := now } else c

/-- An ACK of an open context (R371 to R375). -/
def takeAckDgram (i : Nat) (b : Bytes) (c : Ctx) (s : State) : State :=
  let now := dtNow s
  let ent (j : Nat) : Bytes := bytesAt b (48 * j) 48
  let c := (List.finRange 4).foldl (fun c st => takeEntry now c st (ent st.val)) c
  let ce := ((List.range 4).map (fun j => beAt (ent j) 8 4)).foldl (· + ·) 0
  let rx := ((List.range 4).map (fun j => beAt (ent j) 12 4)).foldl (· + ·) 0
  let fast := ((List.finRange 4).map (fun st => (fastList now c.srtt c.streams[st] (ent st.val)).map (fun x => (st, x)))).flatten
  let c := popPackets (c.pkts.length + 1) (takeMarks now ce rx (!fast.isEmpty) c)
  let s := setCtx i (some { c with lastUse := now }) s
  drainOut (drainCtx i (fast.foldl (fun s (st, x) => retransmit i st x true s) s))

/-- TTH_ACK_RECEIVE (R366, R368, R371). -/
def execTthAckReceive (pl : PlaneId) (fr : FrameCheck) (dgram : Bytes) (s : State) : Out :=
  if (getPlane s pl).state != .up then .next s
  else match frameBad pl fr dgram s with
  | some t => .next t
  | none =>
    let s := notePn pl (framePn fr) s
    match acceptDgram s 2 dgram with
    | none => .next (discardDgram pl s)
    | some (h, b) => match ctxNamed s pl h with
      | some c => if c.state == .open_ && b.length == 192 then .next (takeAckDgram h.ctx b { c with heard := some h.ts } s) else .next (discardDgram pl s)
      | none => .next (discardDgram pl s)

-- Opening and closing (R369, R370, R373)

/-- The windows of a context as it opens, before the peer's first ACK (notes/assumptions/9.md). -/
def openWindows (s : State) (c : Ctx) : Ctx :=
  { c with streams := Vector.ofFn (fun st => { c.streams[st] with window := offeredWindow s { c with lastRx := dtNow s } st.val }) }

/-- A context is open: the peer is reachable, the notice goes first, then what waits. DESIGN CHOICE: notes/assumptions/28.md. -/
def ctxOpened (i : Nat) (s : State) : State :=
  match getCtx s i with
  | none => s
  | some c =>
    let s := setCtx i (some (openWindows s { c with state := .open_, lastUse := dtNow s })) s
    let s := markReachable c.peer s
    drainOut (drainCtx i (noticeCtx i s))

/-- The HELLO_ACK of context `i` (R369). DESIGN CHOICE: notes/assumptions/28.md. -/
def sendHelloAck (i : Nat) (s : State) : State :=
  match getCtx s i with
  | none => s
  | some c =>
    let b := toBe 1 (b2n c.jumbo + 2 * b2n c.ecnOk) ++ toBe 3 0 ++ toBe 2 i ++ toBe 2 0 ++ toBe 4 s.net.startId ++ toBe 4 0
    sendDgram c.plane c.peer c.path { ctxHead s c 4 with len := b.length } b s

/-- A context as a HELLO of the peer makes it. -/
def respondCtx (pl : PlaneId) (p : PartId) (h : TthHead) (b : Bytes) (ecn : Bool) (queue : List Waiting) : Ctx :=
  { peer := h.src, part := p, plane := pl, remoteId := beAt b 4 2, jumbo := bitOf (beAt b 0 1) 0, ecnOk := ecn,
    seg := if bitOf (beAt b 0 1) 0 then 8192 else 1024, queue := queue }

/-- Answer a HELLO with a context of index `i`. -/
def respond (i : Nat) (c : Ctx) (s : State) : State := ctxOpened i (sendHelloAck i (setCtx i (some c) s))

/-- Did a HELLO arrive with ECT(0) or CE (R369)? -/
def ectSeen (fr : FrameCheck) : Bool := frameEcn fr == 2 || frameEcn fr == 3

/-- A HELLO of the opening that the context answered already: of the same index, and sent before what the context has heard
since (R369). DEDUCED: notes/assumptions/28.md. -/
def helloAgain (c : Ctx) (h : TthHead) (b : Bytes) : Bool :=
  c.state == .open_ && c.remoteId == beAt b 4 2 && (match c.heard with | some t => ssnBefore h.ts t | none => true)

/-- TTH_HELLO_RECEIVE (R317, R369, R370). -/
def execTthHelloReceive (pl : PlaneId) (fr : FrameCheck) (dgram : Bytes) (s : State) : Out :=
  if (getPlane s pl).state != .up then .next s
  else match frameBad pl fr dgram s with
  | some t => .next t
  | none =>
    let s := notePn pl (framePn fr) s
    match acceptDgram s 3 dgram with
    | none => .next (discardDgram pl s)
    | some (h, b) =>
      if hp : h.part < 4 then
        let p : PartId := ⟨h.part, hp⟩
        let s := showEpoch h.src h.cfgEpoch (learnStart h.src (beAt b 8 4) s)
        match findCtx s h.src p pl with
        | some (i, c) =>
          if c.state == .opening && decide (ownId s < h.src) then .next s
          else if helloAgain c h b then .next (sendHelloAck i s)
          else .next (respond i (respondCtx pl p h b (ectSeen fr) (ctxPending c)) s)
        | none =>
          match freeCtx s with
          | (some i, s) => .next (respond i (respondCtx pl p h b (ectSeen fr) []) s)
          | (none, s) => .next s
      else .next (discardDgram pl s)

/-- TTH_HELLO_ACK_RECEIVE (R317, R369). -/
def execTthHelloAckReceive (pl : PlaneId) (fr : FrameCheck) (dgram : Bytes) (s : State) : Out :=
  if (getPlane s pl).state != .up then .next s
  else match frameBad pl fr dgram s with
  | some t => .next t
  | none =>
    let s := notePn pl (framePn fr) s
    match acceptDgram s 4 dgram with
    | none => .next (discardDgram pl s)
    | some (h, b) => match ctxNamed s pl h with
      | none => .next (discardDgram pl s)
      | some c =>
        if c.state != .opening then .next s
        else
          let s := showEpoch h.src h.cfgEpoch (learnStart h.src (beAt b 8 4) s)
          if (ctxNamed s pl h).isNone then .next s else
          let jumbo := bitOf (beAt b 0 1) 0
          let s := setCtx h.ctx (some { c with
            remoteId := beAt b 4 2, jumbo := jumbo, seg := if jumbo then 8192 else 1024, ecnOk := bitOf (beAt b 0 1) 1 }) s
          let s := updPlane s pl (fun q => { q with failed := q.failed.filter (·.1 ≠ h.src) })
          .next (ctxOpened h.ctx s)

/-- Open a context again with what it holds (R370). -/
def reopenCtx (i : Nat) (c : Ctx) (s : State) : State :=
  sendHello i (setCtx i (some {
    peer := c.peer, part := c.part, plane := c.plane, queue := ctxPending c, lastUse := dtNow s }) s)

/-- CLOSE_CTX_RECEIVE (R370). -/
def execCloseCtxReceive (pl : PlaneId) (fr : FrameCheck) (dgram : Bytes) (s : State) : Out :=
  if (getPlane s pl).state != .up then .next s
  else match frameBad pl fr dgram s with
  | some t => .next t
  | none =>
    let s := notePn pl (framePn fr) s
    match acceptDgram s 5 dgram with
    | none => .next (discardDgram pl s)
    | some (h, _) => match ctxNamed s pl h with
      | none => .next (discardDgram pl s)
      | some c =>
        if c.state != .open_ then .next (discardDgram pl s)
        else if (ctxPending c).isEmpty then .next (drainOut (setCtx h.ctx none s)) else .next (reopenCtx h.ctx c s)

/-- HELLO_RETRY (R109, R369): 200 µs without HELLO_ACK, the other size. -/
def execHelloRetry (ctx : Nat) (s : State) : Out :=
  match getCtx s ctx with
  | some c => if c.state == .opening && decide (dtNow s ≥ c.lastHello + 200000) then .next (sendHello ctx (setCtx ctx (some { c with jumbo := !c.jumbo }) s)) else .next s
  | none => .next s

/-- TTH_ACK_TIMER (R109, R371): 10 µs after the first unacknowledged segment. -/
def execTthAckTimer (ctx : Nat) (s : State) : Out :=
  match getCtx s ctx with
  | some c => if c.state == .open_ && c.ackOwed != 0 && decide (dtNow s ≥ c.ackAt + 10000) then .next (sendCtxAck ctx s) else .next s
  | none => .next s

/-- The oldest unacknowledged segment of a context, with its stream. -/
def oldestSeg (c : Ctx) : Option (Fin 4 × TxSeg) :=
  let all := ((List.finRange 4).map (fun st => (c.streams[st]).unacked.map (fun x => (st, x)))).flatten
  all.foldl (fun a e => match a with
    | none => some e
    | some b => if e.2.firstTx < b.2.firstTx then some e else some b) none

/-- RTO_EXPIRY (R109, R372): RTO after the oldest segment was last sent; nothing expires while the device is FENCED and sends no data (R121). -/
def execRtoExpiry (ctx : Nat) (s : State) : Out :=
  match getCtx s ctx with
  | none => .next s
  | some c => match oldestSeg c with
    | none => .next s
    | some (st, x) =>
      if decide (dtNow s < x.lastTx + c.rtoNs) || c.owed.contains (st, x.ssn) || (match c.pkts[x.pkt - c.pktBase]? with | some (fl, b) => fencedHold s fl b | none => false) then .next s else
      let run := c.rtoRun + 1
      let s := setCtx ctx (some { c with
        rtoRun := run, rtoNs := min 10000000 (2 * c.rtoNs), path := if run % 2 = 0 then c.path + 1 else c.path }) s
      .next (retransmit ctx st x false (cntPlane 0x24 1 c.plane s))

/-- CONTEXT_IDLE_CLOSE (R109, R370): idle for 1 ms. -/
def execContextIdleClose (ctx : Nat) (s : State) : Out :=
  match getCtx s ctx with
  | none => .next s
  | some c =>
    if c.state != .open_ || !(ctxPending c).isEmpty || decide (dtNow s < c.lastUse + 1000000) then .next s
    else
      .next (drainOut (setCtx ctx none (sendCloseCtx c s)))

/-- The tag of the command that owns a packet (R213, R373), 0 when none does: a ROW, VERDICT or CLOSE packet is its own step's
CONJ.STEP, a piece its communicator's collective or creation that executes. DEDUCED: notes/assumptions/23.md. -/
def ownerTag (s : State) (p : PartId) (b : Bytes) : Nat :=
  let q := getPart s p
  if isDataPacket b then
    let x := rawPacket b
    match q.conj with
    | some c => if (x.kind = 1 ∨ x.kind = 3 ∨ x.kind = 4) ∧ x.step = c.step ∧ tagLayer x.tag = c.layer then c.tag else 0
    | none => 0
  else
    let ofComm (h : Nat) : Bool := (tabGet none s.col.comms h).any (fun c => c.id == leAt (b.drop (b.length - 64)) 0 8)
    match q.colRun, (q.streams[(5 : Fin 7)]).exec with
    | some r, _ => if ofComm r.handle && leAt (b.drop (b.length - 64)) 16 4 == r.opSeq then r.tag else 0
    | none, some e => if dOp e.desc = 0x6001 && ofComm e.base then dTag e.desc else 0
    | _, _ => 0

/-- DT from which TTH_RETX_MS runs: the first HELLO of a context that opens, the first transmission of its oldest
unacknowledged segment (R373). -/
def retxStart (c : Ctx) : Option Nat :=
  if c.state == .opening then some c.firstHello else (oldestSeg c).map (·.2.firstTx)

/-- TTH_RETX_EXHAUST (R109, R373). DEDUCED: notes/assumptions/23.md. -/
def execTthRetxExhaust (ctx : Nat) (s : State) : Out :=
  match getCtx s ctx with
  | none => .next s
  | some c =>
    if (match retxStart c with | some t => decide (dtNow s < t + s.cfg.tmo.tthRetxMs * 1000000) | none => true) then .next s else
    let tag := match (ctxPending c).head? with | some w => ownerTag s c.part w.bytes | none => 0
    let s := record c.part { code := 0x0403, cls := .corrected, source := 9, sub := c.plane.val, tag := tag, detail0 := c.peer } s
    .next (drainOut (endCtx ctx true s))

/-- Is a HELLO due on a plane that is marked failed toward a peer: every 100 ms (R373)? -/
def probeDue (s : State) (pl : PlaneId) (d : DevId) : Bool := (getPlane s pl).failed.any (fun e => e.1 == d && decide (dtNow s ≥ e.2 + 100000000))

/-- The HELLO tried on a failed plane is noted. -/
def noteProbe (pl : PlaneId) (d : DevId) (s : State) : State :=
  updPlane s pl (fun q => { q with failed := q.failed.map (fun e => if e.1 = d then (d, dtNow s) else e) })

/-- FAILED_PLANE_PROBE (R109, R373). -/
def execFailedPlaneProbe (pl : PlaneId) (peer : DevId) (part : PartId) (s : State) : Out :=
  if (getPlane s pl).state != .up || !probeDue s pl peer then .next s
  else match findCtx s peer part pl with
  | some (i, c) => if c.state == .opening then .next (sendHello i (noteProbe pl peer s)) else .next s
  | none =>
    match freeCtx (noteProbe pl peer s) with
    | (some i, s) => .next (sendHello i (setCtx i (some { peer := peer, part := part, plane := pl, lastUse := dtNow s }) s))
    | (none, s) => .next s

-- Neighbours, ICMP and PAUSE (R361, R366, R367)

/-- Own address on a plane. -/
def ownAddr (s : State) (pl : PlaneId) : Option Nat := (planeCfg s pl).map (fun c => planeAddrOf c (ownId s))

/-- ARP_ND_REQUEST (R361, R367). -/
def execArpNdRequest (pl : PlaneId) (frame : EthCheck) (asker target : Nat) (s : State) : Out :=
  if (getPlane s pl).state != .up then .next s
  else match ethBad pl frame s with
  | some t => .next t
  | none =>
    let s := notePn pl (ethPn frame) s
    if ownAddr s pl = some target then .next (sendEth pl (.resolveReply asker) s) else .next s

/-- NEIGHBOUR_REFRESH (R109, R367): after 30 s. -/
def execNeighbourRefresh (pl : PlaneId) (addr : Nat) (s : State) : Out :=
  if (getPlane s pl).state = .up ∧ (getPlane s pl).neigh.any (fun e => e.addr == addr && decide (dtNow s ≥ e.at_ + 30000000000)) then
    .next (sendEth pl (.resolve addr) (updPlane s pl (fun q => { q with
      neigh := q.neigh.map (fun e => if e.addr = addr then { e with tries := 1, at_ := dtNow s } else e) })))
  else .next s

/-- ICMP_ECHO_REQUEST (R361, R366): at most 100 replies per second and plane. -/
def execIcmpEchoRequest (pl : PlaneId) (frame : EthCheck) (asker ident : Nat) (s : State) : Out :=
  if (getPlane s pl).state != .up then .next s
  else match ethBad pl frame s with
  | some t => .next t
  | none =>
    let s := notePn pl (ethPn frame) s
    let times := recent (dtNow s) 1000000000 (getPlane s pl).echoTimes
    if times.length > 100 then .next s
    else .next (sendEth pl (.echoReply asker ident) (updPlane s pl (fun q => { q with echoTimes := times })))

/-- PAUSE_FRAME_RECEIVE (R361). -/
def execPauseFrameReceive (pl : PlaneId) (s : State) : Out :=
  if (getPlane s pl).state == .off then .next s else .next (discardDgram pl s)

/-- The contexts of a plane that open through a next hop: their HELLO has waited for its address (R367). -/
def helloWaits (s : State) (pl : PlaneId) (addr : Nat) : List Nat :=
  s.tether.ctxs.filterMap (fun (i, c) => match c, planeCfg s pl with
    | some c, some g => if c.plane = pl ∧ c.state = .opening ∧ nextHop g (planeAddrOf g c.peer) = addr then some i else none
    | _, _ => none)

/-- ARP_ND_REPLY_RECEIVE (R361, R367). -/
def execArpNdReplyReceive (pl : PlaneId) (frame : EthCheck) (addr mac : Nat) (s : State) : Out :=
  if (getPlane s pl).state != .up then .next s
  else match ethBad pl frame s with
  | some t => .next t
  | none =>
    let s := notePn pl (ethPn frame) s
    let fresh := (getPlane s pl).neigh.any (fun e => e.addr == addr && e.mac.isNone)
    let s := updPlane s pl (fun q => { q with
      neigh := q.neigh.map (fun e => if e.addr = addr then { e with mac := some mac, tries := 0, at_ := dtNow s } else e) })
    .next (if fresh then eachOf (helloWaits s pl addr) sendHello s else s)

/-- NEIGHBOUR_RESOLUTION_RETRY (R367): tried 3 times, 1 ms apart. -/
def execNeighbourResolutionRetry (pl : PlaneId) (addr : Nat) (s : State) : Out :=
  match (getPlane s pl).neigh.find? (fun e => e.addr == addr) with
  | some e =>
    if (getPlane s pl).state != .up || e.tries == 0 || decide (e.tries ≥ 3) || decide (dtNow s < e.at_ + 1000000) then .next s
    else .next (sendEth pl (.resolve addr) (updPlane s pl (fun q => { q with
      neigh := q.neigh.map (fun e => if e.addr = addr then { e with tries := e.tries + 1, at_ := dtNow s } else e) })))
  | none => .next s

end Sys2Proof.Machine
end

