-- ==== Sys2Proof/Machine/Time.lean ====
section
/-!
DEFINITION. Machine/Time.lean: the time base (spec/05 R98 to R105): time messages, the system references, PPS and PTP
(spec/14 R378 to R380).
-/
namespace Sys2Proof.Machine
open Sys2Proof

/-- In-group sync, TIME_UNSYNC and SYS_SYNC after a measurement (R99, R103). -/
def setGroupSync (g : Bool) (s : State) : State :=
  { s with
    time := { s.time with groupSync := g, sysSync := decide (s.time.sysRun ≥ 16) || (g && oneGroup s) }
    boot := { s.boot with timeUnsync := !g } }

/-- The frequency correction that steers DT: a value within 200 ppm that the spec leaves to the loop (R98). DESIGN CHOICE: notes/assumptions/30.md. -/
def steer (src : TimeSource) (s : State) : State :=
  let (v, s) := takeFree s
  { s with time := { s.time with freqPpb := (v % 400001 : Nat) - 200000, source := src } }

/-- A measurement of ST against the system reference (R103). DESIGN CHOICE: notes/assumptions/30.md. -/
def sysMeasure (off : Int) (s : State) : State :=
  let run := if off.natAbs ≤ 2000 then min 16 (s.time.sysRun + 1) else 0
  { s with time := { s.time with sysRun := run, lastRef := dtNow s, sysSync := decide (run ≥ 16) || (s.time.groupSync && oneGroup s) } }

/-- The epoch table as 256 bytes, 2 bits per group (R111). -/
def epochBytes (t : Tab Nat) : Bytes :=
  (List.range 256).map (fun i => BitVec.ofNat 8 (packBits ((List.range 4).map (fun j => (tabGet 0 t (4 * i + j), 2 * j)))))

/-- The table that 256 bytes hold. -/
def bytesEpochs (b : Bytes) : Tab Nat :=
  (List.range 1024).foldl (fun t g => tabSet 0 g (leAt b (g / 4) 1 / 2 ^ (2 * (g % 4)) % 4) t) []

/-- The link of a bond that a time message takes: an ACTIVE one, or a working one (R355). -/
def timeLink (s : State) (m : Nat) : Option LinkId :=
  match (bondLinks s m).find? (fun l => (getLink s l).state == .active) with
  | some l => some l
  | none => (bondLinks s m).find? (fun l => working (getLink s l))

/-- Has the master a valid measurement of its system reference (R101, R103)? -/
def refValid (s : State) : Bool :=
  (s.time.source == .ptp || s.time.source == .ppsIn) && decide (dtNow s < s.time.lastRef + 100000000)

/-- One time message to a member (R99, R119), with the master's FABRIC_COUNT and epoch table (R122) and whether its system
reference is valid (R103); a TIME flit due wakes a SLEEP link (R355). -/
def timeMessageTo (fabricCount : Nat) (table : Bytes) (ref : Bool) (m : Nat) (s : State) : State :=
  match timeLink s m with
  | some l =>
    let s := wakeLink l s
    let s := otherFlit l 3 (Config.timePayload (dtNow s) (getLink s l).timeRx) (updLink s l (fun q => { q with timeTx := some (dtNow s) }))
    emit (.timeMsg l (dtNow s) s.time.sysOffset (ownEpoch s) s.time.masterMember fabricCount table ref) s
  | none => s

/-- TIME_MESSAGE_SEND (R99): the master, on one working link of each bond. Its own sync holds after 16 messages.
DEDUCED: notes/assumptions/11.md. -/
def execTimeMessageSend (s : State) : Out :=
  if !timed s || !s.time.isMaster then .next s
  else
    let s := eachOf (List.range s.cfg.group.size) (timeMessageTo s.commit.fabricCount (epochBytes s.commit.epochs) (refValid s)) s
    if !(List.range s.cfg.group.size).any (bondUp s) then .next s
    else
      let run := min 16 (s.time.okRun + 1)
      .next (setGroupSync (decide (run ≥ 16)) { s with time := { s.time with okRun := run } })

/-- The member that this device follows: the master over its direct bond, otherwise its lowest bonded member (R99). -/
def followed (s : State) : Option Nat :=
  if s.time.isMaster then none
  else if bondUp s s.time.masterMember then some s.time.masterMember
  else (List.range s.cfg.group.size).find? (fun m => bondUp s m)

/-- A time message of member `m` that names a master: `m` keeps time, and a master below every member heard holds (R99). -/
def hearMember (m master : Nat) (s : State) : State :=
  let s := judgeMaster { s with time := { s.time with unheard := s.time.unheard.filter (· ≠ m) } }
  if s.time.via = some m ∨ master < s.time.masterMember then
    let v := groupMaster s
    if master < v then setMaster master (if bondUp s master then none else some m) s else setMaster v none s
  else s

/-- The first time message in TIME_SYNC: DT and ST are the group's, and a FABRIC_COUNT that differs from the master's fences
the device (R64, R101, R122). -/
def takeGroupTime (far sysOffset fabricCount : Nat) (table : Bytes) (s : State) : State :=
  { s with
    time := { s.time with
      dt := far % 2 ^ 64, took := true, okRun := 0, sysOffset := sysOffset % 2 ^ 64, sysSet := sysOffset != 0
      source := if s.time.isMaster then s.time.source else .bridle }
    commit := if fabricCount ≠ s.commit.fabricCount then { s.commit with rejoin := true, masterTable := bytesEpochs table } else s.commit }

/-- A time message of the member followed: the offset, the steering, ST and the state of sync (R99, R101, R103). It measures ST
against the system reference only where the master's reference is valid. -/
def followTime (far sysOffset : Nat) (ref : Bool) (s : State) : State :=
  let off : Int := (far : Int) - dtNow s
  let run := if off.natAbs ≤ 8 then min 16 (s.time.okRun + 1) else 0
  let s := steer .bridle { s with time := { s.time with okRun := run, offset := off } }
  let s := if s.time.sysSet then s else { s with time := { s.time with sysOffset := sysOffset % 2 ^ 64, sysSet := sysOffset != 0 } }
  setGroupSync (decide (run ≥ 16))
    (if ref then sysMeasure ((far + sysOffset : Nat) - (dtNow s + s.time.sysOffset : Nat)) s else s)

/-- Does member `m` follow this one: by its advertisement its bond to the master is down, and this member is the lowest it is
bonded to (R99, R352)? -/
def followsMe (s : State) (m : Nat) : Bool :=
  m != s.time.masterMember && bondUp s m && (match tabGet none s.bridle.adverts m with
    | some a => !bitOf a.map s.time.masterMember && (List.range 16).find? (fun x => bitOf a.map x) == some s.cfg.group.member
    | none => false)

/-- TIME_MESSAGE_RECEIVE (R64, R99, R101, R122): the far end's DT and SYS_OFFSET, its epoch, the master that it names, the
master's FABRIC_COUNT and epoch table, and whether the master's system reference is valid; the link's delay is R345's. A follower
passes the time on to the members that follow it. DEDUCED: notes/assumptions/11.md. -/
def execTimeMessageReceive (l : LinkId) (dt sysOffset epoch master fabricCount : Nat) (table : Bytes) (ref : Bool) (s : State) : Out :=
  match linkMember s l with
  | none => .next s
  | some m =>
    if !timed s || !working (getLink s l) then .next s
    else
      let far := dt + (getLink s l).delayNs
      let s := showEpoch (16 * s.cfg.group.group + m) (epoch % 4) (hearMember m master s)
      if s.boot.state == .timeSync && !s.time.took then .next (takeGroupTime far sysOffset fabricCount table s)
      else if followed s ≠ some m then .next s
      else
        let s := followTime far sysOffset ref s
        .next (eachOf ((List.range s.cfg.group.size).filter (followsMe s)) (timeMessageTo fabricCount table ref) s)

/-- TIME_REF_LOCK (R100): the frequency source changes, DT does not. -/
def execTimeRefLock (s : State) : Out :=
  if !clocked s then .next s else .next { s with time := { s.time with timeRefOk := true } }

/-- TIME_REF_LOSS (R100). -/
def execTimeRefLoss (s : State) : Out :=
  if !clocked s then .next s else .next { s with time := { s.time with timeRefOk := false } }

/-- Signed offset of an ST from the nearest multiple of 10^9. -/
def ppsOffset (st : Nat) : Int := ((st + 500000000) % 1000000000 : Nat) - (500000000 : Int)

/-- PPS_IN_EDGE (R101, R102, R106): the edge is stamped less the fixed input delay of 4 ns. -/
def execPpsInEdge (s : State) : Out :=
  if !s.boot.beat || !clocked s then .next s
  else
    let d := dtNow s - 4
    let gap := d - s.time.ppsInDt
    let run := if s.time.ppsInDt ≠ 0 ∧ 999900000 ≤ gap ∧ gap ≤ 1000100000 then min 3 (s.time.ppsRun + 1) else 0
    let s := { s with time := { s.time with ppsInDt := d, ppsRun := run } }
    if !timed s || !s.time.isMaster || ptpChosen s || run < 3 then .next s
    else if !s.time.sysSet then
      .next (steer .ppsIn { s with time := { s.time with sysOffset := (d / 1000000000 + 1) * 1000000000 - d, sysSet := true, offset := 0 } })
    else
      let off := ppsOffset (d + s.time.sysOffset)
      .next (sysMeasure off (steer .ppsIn { s with time := { s.time with offset := off } }))

/-- PPS_OUT_EDGE (R104): at every ST that is a multiple of 10^9. -/
def execPpsOutEdge (s : State) : Out :=
  if s.boot.beat && clocked s && sysTime s % 1000000000 == 0 then .next (emit .ppsOut s) else .next s

-- The PTP port (R105, R378 to R380)

/-- The plane of the PTP port: the lowest of the group's mask that is UP (R379). -/
def ptpPlaneNow (s : State) : Option PlaneId :=
  match s.cfg.topo with
  | some t => if t.ptpEn && s.time.isMaster && timed s then
      allPlanes.find? (fun pl => bitOf (t.masks.getD s.cfg.group.group 0) pl.val && (getPlane s pl).state == .up)
    else none
  | none => none

/-- Place the PTP port; a port that starts listens. -/
def placePtp (s : State) : State :=
  let pl := (ptpPlaneNow s).map (·.val)
  if s.time.ptp.plane = pl then s
  else { s with time := { s.time with ptp := { plane := pl, start := dtNow s, state := if pl.isSome then 4 else 0 } } }

def updPtp (f : Ptp → Ptp) (s : State) : State := { s with time := { s.time with ptp := f s.time.ptp } }

/-- Transmit and receive latency of a plane's mode (R378). -/
def ptpLatency (s : State) (pl : PlaneId) : Nat × Nat :=
  match planeSpeed s pl with | 3 => (52, 88) | 2 => (60, 104) | _ => (76, 138)

/-- Own clockIdentity, the EUI-64 of the plane's address, and the identity of its one port. PRESUMED: notes/assumptions/29.md. -/
def ownClock (pl : PlaneId) : Nat :=
  let mac := planeMac pl
  mac / 2 ^ 24 * 2 ^ 40 + 0xFFFE * 2 ^ 24 + mac % 2 ^ 24
def ownPort (pl : PlaneId) : Nat := ownClock pl * 65536 + 1

/-- The data set that the device advertises (R105). PRESUMED: notes/assumptions/29.md. -/
def ownDs (s : State) (pl : PlaneId) : PtpDs :=
  { priority1 := 250, clockClass := if s.time.source == .ppsIn && ppsValid s then 13 else 248, gm := ownClock pl }

/-- The order of two data sets: strictly better (IEEE 1588 data set comparison). PRESUMED: notes/assumptions/29.md. -/
def betterDs (a b : PtpDs) : Bool :=
  if a.gm = b.gm then decide (a.steps < b.steps)
  else
    let key (d : PtpDs) : List Nat := [d.priority1, d.clockClass, d.accuracy, d.variance, d.priority2, d.gm]
    decide (key a < key b)

/-- A foreign master counts after two Announce messages within four intervals, until three intervals pass without one
(R380; IEEE 1588). PRESUMED: notes/assumptions/29.md. -/
def foreignOk (now : Nat) (f : Foreign) : Bool :=
  f.prev != 0 && decide (f.last ≤ f.prev + 4000000000) && decide (now < f.last + 3000000000)

/-- The best foreign master. -/
def bestForeign (s : State) : Option Foreign :=
  (s.time.ptp.foreign.filter (foreignOk (dtNow s))).foldl (fun a f => match a with
    | none => some f
    | some b => if betterDs f.ds b.ds || (!betterDs b.ds f.ds && decide (f.port < b.port)) then some f else some b) none

/-- The port's state by the best-master algorithm: an external grandmaster with a better data set is followed (R105). -/
def judgePtp (pl : PlaneId) (s : State) : State :=
  match bestForeign s with
  | some f =>
    if betterDs (ownDs s pl) f.ds then updPtp (fun q => { q with state := 6, parent := 0 }) s
    else if s.time.ptp.parent = f.port ∧ (s.time.ptp.state = 8 ∨ s.time.ptp.state = 9) then s
    else updPtp (fun q => { q with state := 8, parent := f.port, rxSync := none, pair := none, req := none, delay := none }) s
  | none =>
    if s.time.ptp.state = 4 ∧ dtNow s < s.time.ptp.start + 3000000000 then s
    else updPtp (fun q => { q with state := 6, parent := 0 }) s

/-- Send a PTP message: multicast of the plane's IP version, the plane's DSCP, port 319 for an event message (R380). -/
def emitPtp (pl : PlaneId) (m : PtpMsg) (s : State) : State :=
  let c := (planeCfg s pl).getD {}
  let port := match m.kind with | .sync | .delayReq => 319 | _ => 320
  sendEth pl (.ptp (if c.ipver = 4 then 0xE0000181 else 0xFF0E * 2 ^ 112 + 0x181) port c.dscp { m with src := ownPort pl }) s

/-- The port measures the reference: PTP time `ref` at device time `dt` (R101, R102, R103). -/
def ptpMeasure (ref : Int) (dt : Nat) (s : State) : State :=
  let r := (ref % 2 ^ 64).toNat
  let s := updPtp (fun q => { q with state := 9 }) s
  if !s.time.sysSet then
    steer .ptp { s with time := { s.time with
      sysOffset := (2 ^ 64 + r - dt % 2 ^ 64) % 2 ^ 64, sysSet := true, offset := 0, lastRef := dtNow s } }
  else
    let off : Int := (r : Int) - ((dt + s.time.sysOffset) % 2 ^ 64 : Nat)
    sysMeasure off (steer .ptp { s with time := { s.time with offset := off } })

/-- A Sync of the parent is complete: corrected origin time `t1`, receive DT `t2`. The reference is known once the mean path
delay is. -/
def gotSync (t1 : Int) (t2 : Nat) (s : State) : State :=
  let s := updPtp (fun q => { q with pair := some (t1, t2), rxSync := none }) s
  match s.time.ptp.delay with
  | some d => ptpMeasure (t1 + d) t2 s
  | none => s

/-- Note an Announce message. -/
def noteForeign (m : PtpMsg) (now : Nat) (l : List Foreign) : List Foreign :=
  let old := (l.find? (fun f => f.port == m.src)).map (·.last)
  l.filter (fun f => f.port != m.src) ++ [{ port := m.src, ds := m.ds, last := now, prev := old.getD 0 }]

/-- A PTP message arrives: event messages take the receive timestamp of R378, transparent clocks' corrections apply, and what
R380 does not support is ignored. -/
def ptpReceive (pl : PlaneId) (m : PtpMsg) (s : State) : State :=
  let q := s.time.ptp
  let rx := dtNow s - (ptpLatency s pl).2
  let mine := (q.state == 8 || q.state == 9) && m.src == q.parent
  if m.domain ≠ 0 ∨ m.sdoId ≠ 0 ∨ m.src = ownPort pl then s
  else match m.kind with
  | .announce => judgePtp pl (updPtp (fun q => { q with foreign := noteForeign m (dtNow s) q.foreign }) s)
  | .sync =>
    if !mine then s
    else if m.twoStep then updPtp (fun q => { q with rxSync := some (m.seq, rx, m.corr) }) s
    else gotSync (m.time + m.corr) rx s
  | .followUp => match q.rxSync with
    | some (n, t2, corr) => if mine && n == m.seq then gotSync (m.time + corr + m.corr) t2 s else s
    | none => s
  | .delayReq =>
    if q.state ≠ 6 then s
    else emitPtp pl { kind := .delayResp, seq := m.seq, corr := m.corr, time := (rx + s.time.sysOffset) % 2 ^ 64, req := m.src, logInterval := -5 } s
  | .delayResp => match q.req, q.pair with
    | some (n, t3), some (t1, t2) =>
      if mine && m.req == ownPort pl && n == m.seq then
        updPtp (fun q => { q with req := none, delay := some ((((t2 : Int) - t1) + ((m.time : Int) - m.corr - t3)) / 2) }) s
      else s
    | _, _ => s
  | .other => s

/-- The port sends a message that is due: a Sync with its Follow_Up or an Announce as MASTER, a Delay_Req toward its parent
(R378, R380). A grandmaster's own ST is the reference. DEDUCED: notes/assumptions/30.md. -/
def ptpSend (pl : PlaneId) (k : PtpKind) (s : State) : State :=
  let s := judgePtp pl s
  let q := s.time.ptp
  let now := dtNow s
  let tx := now + (ptpLatency s pl).1
  match k with
  | .sync =>
    if q.state ≠ 6 ∨ now < q.nextSync then s
    else
      let s := emitPtp pl { kind := .sync, seq := q.syncSeq, twoStep := true, logInterval := -5 }
        (updPtp (fun q => { q with syncSeq := (q.syncSeq + 1) % 65536, nextSync := now + 31250000 }) s)
      sysMeasure 0 (emitPtp pl { kind := .followUp, seq := q.syncSeq, time := (tx + s.time.sysOffset) % 2 ^ 64, logInterval := -5 } s)
  | .announce =>
    if q.state ≠ 6 ∨ now < q.nextAnn then s
    else emitPtp pl { kind := .announce, seq := q.annSeq, ds := ownDs s pl }
      (updPtp (fun q => { q with annSeq := (q.annSeq + 1) % 65536, nextAnn := now + 1000000000 }) s)
  | .delayReq =>
    if !(q.state == 8 || q.state == 9) || q.pair.isNone || decide (now < q.nextReq) then s
    else emitPtp pl { kind := .delayReq, seq := q.reqSeq, logInterval := 127 }
      (updPtp (fun q => { q with req := some (q.reqSeq, tx), reqSeq := (q.reqSeq + 1) % 65536, nextReq := now + 31250000 }) s)
  | _ => s

/-- PTP_EVENT_MESSAGE (R101, R102, R105, R378, R379, R380): a message that arrives on a plane, or one that the port sends. -/
def execPtpEventMessage (pl : PlaneId) (e : PtpEvent) (s : State) : Out :=
  let s := placePtp s
  match e with
  | .receive frame m =>
    if (getPlane s pl).state != .up then .next s
    else match ethBad pl frame s with
    | some t => .next t
    | none =>
      let s := notePn pl (ethPn frame) s
      .next (if s.time.ptp.plane = some pl.val then ptpReceive pl m s else s)
  | .send k => .next (if s.time.ptp.plane = some pl.val then ptpSend pl k s else s)

/-- The reference after the loss of the one in use: PTP, then PPS_IN, then none; a member without its master runs free (R101). -/
def sourceNow (s : State) : TimeSource :=
  if !s.time.isMaster then (if (followed s).isSome then .bridle else .freeRun)
  else if ptpChosen s then .ptp else if ppsValid s then .ppsIn else .freeRun

/-- SYS_SYNC_LOSS (R101, R103, R109): 100 ms without a valid reference measurement. -/
def execSysSyncLoss (s : State) : Out :=
  if !timed s || decide (dtNow s < s.time.lastRef + 100000000) then .next s
  else
    let s := if ptpLocked s then s else if s.time.ptp.state = 9 then updPtp (fun q => { q with state := 8 }) s else s
    .next { s with time := { s.time with sysRun := 0, sysSync := s.time.groupSync && oneGroup s, source := sourceNow s } }

/-- PTP_PORT_MOVE (R379). -/
def execPtpPortMove (s : State) : Out := .next (placePtp s)

end Sys2Proof.Machine
end

