-- ==== Sys2Proof/Machine/Commit.lean ====
section
/-!
DEFINITION. Machine/Commit.lean: the staged commit (spec/05 R110 to R126): staging, the consistency checker, vote and
outcome, the Commit Instant, fencing and rejoining.
-/
namespace Sys2Proof.Machine
open Sys2Proof

-- The stage (R110 to R112)

/-- Is a write of CFG_STAGE_CTL the command `cmd` (R126)? DESIGN CHOICE: notes/assumptions/25.md. -/
def stageCmd (r : Requester) (v cmd : Nat) (s : State) : Bool :=
  isMgt r s && bitsOf v 31 16 == 0xC0F9 && bitsOf v 15 0 == cmd && clocked s

/-- The groups in the stage's scope; the value 3 is taken as a group list. DESIGN CHOICE: notes/assumptions/91.md. -/
def stageScopeGroups (s : State) : List Nat :=
  match s.commit.stageScope with
  | 0 => []
  | 1 => [s.cfg.group.group]
  | _ => (List.range 1024).filter (fun g => bitOf (memRead s.commit.stageGroups (g / 8)).toNat (g % 8))

/-- The devices of a group: this group's size holds for every group (notes/assumptions/11.md). -/
def groupDevices (s : State) (g : Nat) : List DevId := (List.range s.cfg.group.size).map (fun m => 16 * g + m)

/-- The devices in a scope; scope "device" is this device. DEDUCED: notes/assumptions/11.md. -/
def scopeDevices (s : State) (gs : List Nat) : List DevId :=
  if gs.isEmpty then [ownId s] else (gs.map (groupDevices s)).flatten

/-- The body length of a stage item with its header; none for a TYPE that cannot be staged (R110, R111). -/
def stageLength (type : Nat) : Option Nat :=
  match type with
  | 0x0003 => some 24 | 0x0004 => some 264 | 0x0006 => some 48 | 0x000D => some 16
  | 0x0101 => some 64 | 0x0102 => some 24 | 0x0103 => some 272 | _ => none

/-- The items of the stage buffer, ended by a zero TYPE: TYPE and body; none where R74 or R110 fails. -/
def scanStage (m : Memory) : Nat → Nat → List (Nat × Bytes) → Option (List (Nat × Bytes))
  | 0, _, _ => none
  | fuel + 1, off, acc =>
    let h := memReadN m off 8
    let type := leAt h 0 2
    if type = 0 then some acc.reverse
    else match stageLength type with
    | none => none
    | some n =>
      if leAt h 2 1 ≠ 1 ∨ leAt h 3 1 ≠ 0 ∨ leAt h 4 4 ≠ n ∨ off + n > 61440 then none
      else scanStage m fuel (off + n) ((type, memReadN m (off + 8) (n - 8)) :: acc)

/-- A staged item's fields. -/
def parseStage (type : Nat) (b : Bytes) : Option StageItem :=
  match type with
  | 0x0003 => some (.power (leAt b 0 2) (leAt b 2 1) (leAt b 3 1) ((List.range 4).map (fun i => leAt b (4 + i) 1)))
  | 0x0004 => some (.partitions (parseParts b))
  | 0x0006 => some (.linkMap (parseLink b))
  | 0x000D => some (.determinism (parseDet b))
  | 0x0101 =>
    if h : leAt b 0 1 < 4 then
      some (.placementMap { part := ⟨leAt b 0 1, h⟩, model := leAt b 4 4, layerFirst := leAt b 8 2, layerCount := leAt b 10 2,
                            length := leAt b 12 4, offset := leAt b 16 8, digest := bytesAt b 24 32 })
    else none
  | 0x0102 => some (.image (leAt b 0 4) (leAt b 4 4) (leAt b 8 8))
  | _ => some (.catchup (leAt b 0 2) (bytesAt b 8 256))

/-- The bodies of the local and link items break no field rule, and reserved bytes are zero (R110, R111). -/
def stageBodyOk (type : Nat) (b : Bytes) : Bool :=
  match type with
  | 0x0003 => (firstBad (powerChecks b)).isNone
  | 0x0006 => (firstBad (linkChecks b)).isNone
  | 0x000D => (firstBad (detChecks b)).isNone
  | 0x0101 => allZero (bytesAt b 1 3) && leAt b 10 2 != 0 && decide (leAt b 10 2 ≤ 256) && decide (leAt b 12 4 ≤ 65536 * leAt b 10 2) &&
      leAt b 16 8 % 64 == 0
  | 0x0102 => leAt b 0 4 % 4096 == 0
  | 0x0103 => allZero (bytesAt b 2 6)
  | _ => true

/-- The PLACEMENT_MAP items. -/
def stageMaps (is : List StageItem) : List PlacementItem := is.filterMap (fun i => match i with | .placementMap m => some m | _ => none)

/-- Does a commit hold a fabric item (R112)? -/
def isFabric (is : List StageItem) : Bool := is.any (fun i => match i with | .placementMap _ => true | .linkMap _ => true | _ => false)

/-- Does a commit bring a rejoining device up to date (R122)? -/
def isCatchup (is : List StageItem) : Bool := is.any (fun i => match i with | .catchup _ _ => true | _ => false)
/-- A fabric commit: one with a fabric item that does not replay committed ones at one device (R112, R122). -/
def fabricCommit (is : List StageItem) : Bool := isFabric is && !isCatchup is

/-- First HBM byte of the device staging area (R111). -/
def stagingBase : Nat := 784 * 2 ^ 28

/-- Does an IMAGE item name the length and SEQ of the image it stages (R111)? -/
def imageNamed (s : State) : StageItem → Bool
  | .image o n q => leNat (memReadN s.hbm (stagingBase + o + 8) 8) == q && leNat (memReadN s.hbm (stagingBase + o + 0x10) 4) == n
  | _ => true

/-- The model a map is for. -/
def mapModel (s : State) (m : PlacementItem) : Option Model := modelOf (getPart s m.part) m.model

/-- Check 0x01: well formed under R74, R110, R111 and R112. A map for a model that is not resident, or whose LENGTH or layers are
not the model's, is not well formed. DESIGN CHOICE: notes/assumptions/91.md. -/
def checkForm (s : State) : Option (List StageItem) :=
  match scanStage s.commit.stageBuf 2048 0 [] with
  | none => none
  | some raw =>
    let items := raw.filterMap (fun (t, b) => parseStage t b)
    let maps := stageMaps items
    let types := raw.map (·.1)
    let single := [0x0003, 0x0004, 0x0006, 0x000D, 0x0102, 0x0103].all (fun t => decide ((types.filter (· == t)).length ≤ 1))
    let apart := maps.zipIdx.all (fun (a, i) => maps.zipIdx.all (fun (b, j) =>
      i == j || a.model != b.model || a.part != b.part || !overlaps a.layerFirst a.layerCount b.layerFirst b.layerCount))
    let resident := maps.all (fun m => match mapModel s m with
      | some x => decide (m.layerFirst + m.layerCount ≤ x.layers) && m.length == 16 * x.experts * m.layerCount
      | none => false)
    if items.length = raw.length ∧ raw.all (fun (t, b) => stageBodyOk t b) ∧ single ∧ maps.length ≤ 16 ∧ apart ∧ resident ∧ items.all (imageNamed s) then some items
    else none

/-- The partitions after the commit. -/
def newParts (s : State) (is : List StageItem) : Vector PartCfg 4 :=
  (is.findSome? (fun i => match i with | .partitions p => some p | _ => none)).getD (settleRegs s).cfg.parts
/-- The link map after the commit. -/
def newLink (s : State) (is : List StageItem) : LinkCfg :=
  (is.findSome? (fun i => match i with | .linkMap k => some k | _ => none)).getD s.cfg.link

/-- The owner of a cluster under a set of partitions. -/
def clusterOwner (ps : Vector PartCfg 4) (c : Nat) : Option PartId := allParts.find? (fun p => ps[p].defined && bitOf ps[p].clusterMask c)

/-- Does any placement in force hold a valid replica on a cluster of this device? -/
def clusterPlaced (s : State) (c : Nat) : Bool :=
  allParts.any (fun p => (getPart s p).models.any (fun m => (List.range m.layers).any (fun l => (List.range m.experts).any (fun e =>
    (replicas s p m l e).contains (ownId s, c)))))

/-- Check 0x02: fields that cannot be staged equal the live values; PARTITIONS keeps R80 and R94. -/
def checkLive (s : State) (raw : List (Nat × Bytes)) (is : List StageItem) : Bool :=
  (is.all (fun i => match i with
    | .power _ _ _ a => a == s.cfg.clock.avsAddr
    | .linkMap k => bitOf k.brlEnable 15 == bitOf s.cfg.link.brlEnable 15 && k.brlCrypt == s.cfg.link.brlCrypt &&
        k.brlPolarity == s.cfg.link.brlPolarity && k.brlLaneRev == s.cfg.link.brlLaneRev && k.tthPolarity == s.cfg.link.tthPolarity
    | .partitions ps => allParts.all (fun p =>
        let a := ps[p]
        let b := s.cfg.parts[p]
        if !b.defined then a == b
        else { a with urgentMask := b.urgentMask, updraftEn := b.updraftEn, regHbm := b.regHbm, regBridle := b.regBridle,
                      regTether := b.regTether, regHostDma := b.regHostDma, weight := b.weight, updClauses := b.updClauses,
                      clusterMask := b.clusterMask } == b && a.clusterMask &&& (s.bist.applied % 256) == 0)
    | _ => true)) &&
  raw.all (fun (t, b) => t != 0x0004 || (firstBad (partChecks b)).isNone) &&
  allClusters.all (fun c =>
    clusterOwner s.cfg.parts c.val == clusterOwner (newParts s is) c.val ||
      ((getCluster s c).state == .off && !clusterPlaced s c.val))

/-- One entry of a staged map: 16 bytes. -/
def mapEntry (s : State) (m : PlacementItem) (k : Nat) : Bytes := spaceRead s m.part 0 (m.offset + 16 * k) 16
/-- Reserved bits are zero and valid replicas leave no gap (R32). -/
def entryForm (b : Bytes) : Bool :=
  (List.range 4).all (fun i => bitsOf (leAt b (4 * i) 4) 31 18 == 0 && (i == 0 || !bitOf (leAt b (4 * i) 4) 17 || bitOf (leAt b (4 * (i - 1)) 4) 17))
/-- The entries of a map. -/
def mapEntries (s : State) (m : PlacementItem) : List Bytes :=
  match mapModel s m with
  | some x => (List.range (m.layerCount * x.experts)).map (mapEntry s m)
  | none => []

/-- The entries of every placement after the commit, with their partition: of the staged maps, and of the maps in force that
none of them replaces. -/
def placementAfter (s : State) (is : List StageItem) : List (PartId × Bytes) :=
  (stageMaps is).flatMap (fun m => (mapEntries s m).map (fun b => (m.part, b))) ++
  allParts.flatMap (fun p => (getPart s p).models.flatMap (fun x => x.maps.flatMap (fun (l, e) =>
    if (stageMaps is).any (fun m => m.part == p && m.model == x.handle && decide (m.layerFirst ≤ l) && decide (l < m.layerFirst + m.layerCount)) then []
    else match e.offset with
    | none => []
    | some off => (List.range x.experts).map (fun k => (p, spaceRead s p 0 (off + 16 * k) 16)))))

/-- Does a map for a model in local dispatch mode name this device alone, in every entry (R42)? -/
def localMap (s : State) (m : PlacementItem) : Bool :=
  !(mapModel s m).any (·.localDispatch) || (mapEntries s m).all (fun b => (entryReplicas b).map (·.1) == [ownId s])

/-- Check 0x03: R32, R33 and R42 against the new partitions, and the map's own digest (R34), whose mismatch R113 gives no
sub-reason. DESIGN CHOICE: notes/assumptions/91.md. -/
def checkMaps (s : State) (is : List StageItem) : Bool :=
  (stageMaps is).all (fun m => sha256 (spaceRead s m.part 0 m.offset m.length) == m.digest && (mapEntries s m).all entryForm) &&
    (placementAfter s is).all (fun (p, b) => (entryReplicas b).all (fun (d, k) =>
      d != ownId s || (bitOf (newParts s is)[p].clusterMask k && !bitOf (newParts s is)[p].urgentMask k))) &&
    (stageMaps is).all (localMap s)

/-- Check 0x04: no device twice for an expert, none that R25 excludes. -/
def checkNames (s : State) (is : List StageItem) : Bool :=
  (stageMaps is).all (fun m => (mapEntries s m).all (fun b =>
    let ds := (entryReplicas b).map (·.1)
    decide (ds.eraseDups.length = ds.length) && ds.all (deviceExists s)))

/-- Check 0x05: experts that the new map or the map in force places on this device are resident (R34, R36). -/
def checkResident (s : State) (is : List StageItem) : Bool :=
  (stageMaps is).all (fun m => match mapModel s m with
    | none => false
    | some x => (List.range (m.layerCount * x.experts)).all (fun k =>
        let l := m.layerFirst + k / x.experts
        let e := k % x.experts
        let here := (entryReplicas (mapEntry s m k)).any (fun r => r.1 == ownId s) || (replicas s m.part x l e).any (fun r => r.1 == ownId s)
        !here || residentExpert s m.part x l e))

/-- Is a member bonded under a link map? -/
def mapBond (s : State) (k : LinkCfg) (m : Nat) : Bool := (bondLinks s m).any (fun l => bitOf k.brlEnable l.val)

/-- Check 0x06: every replica device can be reached under the new LINK_MAP. -/
def checkReach (s : State) (is : List StageItem) : Bool :=
  let k := newLink s is
  let masks := match s.cfg.topo with | some t => t.masks | none => []
  (placementAfter s is).all (fun (_, b) => (entryReplicas b).all (fun (d, _) =>
    d == ownId s ||
    (if sameGroup s d then
      mapBond s k (d % 16) || (List.range s.cfg.group.size).any (fun c => c != d % 16 && mapBond s k c)
    else (linkPlanes k).any (fun pl => bitOf (masks.getD s.cfg.group.group 0) pl && bitOf (masks.getD (d / 16) 0) pl))))

/-- Check 0x07: budgets and BIST power. -/
def checkBudgets (s : State) (is : List StageItem) : Bool :=
  let ps := (newParts s is).toList.filter (·.defined)
  let sum (g : PartCfg → Nat) : Nat := (ps.map g).foldl (· + ·) 0
  let board := (is.findSome? (fun i => match i with | .power w _ _ _ => some w | _ => none)).getD s.cfg.clock.boardPowerW
  decide (sum (·.regHbm) ≤ 18000) && decide (sum (·.regBridle) ≤ 1831) && decide (sum (·.regTether) ≤ 976) &&
    decide (sum (·.regHostDma) ≤ 312) && decide (s.cfg.bist.powerW ≤ board)

-- Writing a bank (R95)

/-- Bytes of a bank. -/
def bankSize : Nat := 0x06000000
/-- The inactive bank: bank A when none is in use, as in SAFE (R95). -/
def inactiveBank (s : State) : Bool :=
  match s.img.chosen with
  | some b => s.boot.state != .safe && !b
  | none => false

/-- The SEQ of each bank that passes R73. -/
def bankSeqs (s : State) : List Nat :=
  (if headerResult s s.flash false = 0 then [bankSeq s.flash false] else []) ++
  (if headerResult s s.flash true = 0 then [bankSeq s.flash true] else [])

/-- The flash with the header sector of a bank erased. -/
def eraseHeader (bank : Bool) (f : Memory) : Memory := tabClear (bankBase bank) (bankBase bank + 4096) f

/-- Step 1 of R95 over the header bytes of a new image, as they would stand in the bank: the RESULT of R73, with 0x6 for a SEQ
that is not greater than that of every bank that passes R73. -/
def newHeader (s : State) (bank : Bool) (header : Bytes) : Nat :=
  let f := flashWriteN (eraseHeader bank s.flash) (bankBase bank) header
  let n := headerResult s f bank
  if n ≠ 0 then n else if (bankSeqs s).any (fun q => decide (bankSeq f bank ≤ q)) then 0x6 else 0

/-- Steps 1 to 4 of R95 over an image of bytes: whether they pass, and the flash, its header sector erased. -/
def writeBank (s : State) (bank : Bool) (img : Bytes) : Bool × Memory :=
  let base := bankBase bank
  if newHeader s bank (img.take 512) ≠ 0 then (false, eraseHeader bank s.flash)
  else
    let body := flashWriteN (tabClear base (base + bankSize) s.flash) (base + 4096) (img.drop 4096)
    match verifyImage s (flashWriteN body base (img.take 4096)) bank with
    | .ok _ => (true, body)
    | .error _ => (false, body)

/-- Check 0x08: the IMAGE item passes steps 1 to 4 of R95, which write the bank (R114), while no PLDM update is in progress (R583). -/
def checkImage (is : List StageItem) (s : State) : Bool × State :=
  match is.findSome? (fun i => match i with | .image o n _ => some (o, n) | _ => none) with
  | none => (true, s)
  | some (o, n) =>
    let img := memReadN s.hbm (stagingBase + o) n
    let bank := inactiveBank s
    if s.mgt.update.phase != .idle then (false, s)
    else
      let (ok, f) := writeBank s bank img
      let s := { s with flash := f }
      (ok, if ok then { s with commit := { s.commit with imageHeader := img.take 4096, imageBankB := bank } } else s)

/-- Check 0x09: no group in scope has an epoch change armed or in its grace window. -/
def checkEpochs (s : State) (is : List StageItem) : Bool :=
  !fabricCommit is || (stageScopeGroups s).all (fun g =>
    !(s.commit.announced.any (fun h => h.groups.contains g)) &&
      (tabGet 0 s.commit.epochAt g == 0 || decide (dtNow s ≥ tabGet 0 s.commit.epochAt g + 1000000)))

/-- Check 0x0A: the scope obeys R112 and includes every group that a map names; a commit with CATCHUP is local (R122). -/
def checkScope (s : State) (is : List StageItem) : Bool :=
  if fabricCommit is then
    decide (s.commit.stageScope ≠ 0) && !(stageScopeGroups s).isEmpty &&
      (stageMaps is).all (fun m => (mapEntries s m).all (fun b => (entryReplicas b).all (fun (d, _) => (stageScopeGroups s).contains (d / 16))))
  else s.commit.stageScope == 0

/-- The first check that fails, 0 when all pass, and the state that the checks leave (R113). -/
def runChecks (s : State) : Nat × List StageItem × State :=
  match checkForm s with
  | none => (1, [], s)
  | some is =>
    let raw := (scanStage s.commit.stageBuf 2048 0 []).getD []
    if !checkLive s raw is then (2, is, s)
    else if !checkMaps s is then (3, is, s)
    else if !checkNames s is then (4, is, s)
    else if !checkResident s is then (5, is, s)
    else if !checkReach s is then (6, is, s)
    else if !checkBudgets s is then (7, is, s)
    else
      let (ok, s) := checkImage is s
      if !ok then (8, is, s)
      else if !checkEpochs s is then (9, is, s)
      else if !checkScope s is then (10, is, s)
      else (0, is, s)

/-- CONTENT_DIGEST (R115): SHA-256 over the DIGEST fields in (MODEL, LAYER_FIRST) order, zeros when there are none. -/
def contentDigest (ms : List PlacementItem) : Bytes :=
  if ms.isEmpty then List.replicate 32 0
  else sha256 (((ms.mergeSort (fun a b => decide (a.model < b.model) || (a.model == b.model && decide (a.layerFirst ≤ b.layerFirst)))).map (·.digest)).flatten)

/-- Where a stage that ends goes back to: FENCED while R122 keeps the device fenced, otherwise IDLE. -/
def idleState (s : State) : CommitState := if s.commit.rejoin then .fenced else .idle

/-- The stage has ended: its items and verdict are gone. The stage buffer keeps its bytes (R123). -/
def endStage (s : State) : State :=
  setCommit (idleState s) { s with commit := { s.commit with
    items := [], verdictYes := false, coordinator := false, yes := [], noOutcome := [], imageHeader := [] } }

/-- Discard the stage (R117). -/
def discardStage (s : State) : State := endStage { s with commit := { s.commit with stageBuf := [] } }

/-- CFG_STAGE_OPEN (R122, R123). DESIGN CHOICE: notes/assumptions/25.md. -/
def execCfgStageOpen (r : Requester) (v : Nat) (s : State) : Out :=
  if !stageCmd r v 1 s || !(s.commit.state == .idle || (s.commit.state == .fenced && s.commit.rejoin)) then .next s
  else .next (setCommit .staging { s with commit := { s.commit with stageBuf := [], items := [], checkSub := 0, voteReason := 0 } })

/-- CFG_STAGE_SEAL (R113, R123). -/
def execCfgStageSeal (r : Requester) (v : Nat) (s : State) : Out :=
  if !stageCmd r v 2 s || s.commit.state != .staging then .next s
  else
    let digest := match checkForm s with | some is => contentDigest (stageMaps is) | none => List.replicate 32 0
    .next (setCommit .checking { s with commit := { s.commit with stageDigest := digest } })

/-- CHECKER_DONE (R113, R114). -/
def execCheckerDone (s : State) : Out :=
  if s.commit.state != .checking then .next s
  else
    let (sub, is, s) := runChecks s
    if sub = 0 then .next (setCommit .sealed { s with commit := { s.commit with items := is, verdictYes := true, checkSub := 0 } })
    else
      let s := mgtRecord { code := 0x0801, cls := .corrected, source := 0xB, sub := sub } s
      .next (setCommit .sealed { s with commit := { s.commit with items := is, verdictYes := false, checkSub := sub, lastOutcome := 3 } })

/-- CFG_STAGE_ABORT (R117, R123). LAST_OUTCOME stays as it is. DESIGN CHOICE: notes/assumptions/91.md. -/
def execCfgStageAbort (r : Requester) (v : Nat) (s : State) : Out :=
  if !stageCmd r v 4 s || !(s.commit.state == .staging || s.commit.state == .sealed) then .next s
  else .next (discardStage s)

-- Vote and outcome (R115, R116)

/-- The reason for NO on a request for the sealed stage; none is YES (R115). -/
def voteReason (head : CommitHead) (digest : Bytes) (s : State) : Option Nat :=
  if !s.commit.verdictYes then some 1
  else if s.commit.stageDigest ≠ digest then some 2
  else if s.boot.timeUnsync || (decide (head.groups.length > 1) && !s.time.sysSync) then some 5
  else if head.instant < sysTime s + 2000000 ∨ head.instant > sysTime s + 1000000000 then some 6
  else none

/-- The epoch that a commit message carries (R119): the own group's entry, in a query of a rejoining device by the master's
table (R122). -/
def msgEpoch (m : CfgMsg) (s : State) : Nat :=
  match m with
  | .query _ => if s.commit.rejoin then tabGet 0 s.commit.masterTable s.cfg.group.group else ownEpoch s
  | _ => ownEpoch s

/-- Send a commit message on the CTRL VC or on stream 0 (R346, R405). -/
def sendCfg (d : DevId) (m : CfgMsg) (s : State) : State :=
  sendMessage d (Config.cfgBytes (msgEpoch m s) m) (emit (.cfg d (msgEpoch m s) m) s)

/-- Send to every other device of a list. -/
def sendCfgAll (ds : List DevId) (m : CfgMsg) (s : State) : State := eachOf (ds.filter (· ≠ ownId s)) (fun d s => sendCfg d m s) s

/-- Every device in scope records an ABORT, with its reason and the first NO voter (R116). -/
def recordAbort (id reason : Nat) (voter : Option DevId) (s : State) : State :=
  let s := mgtRecord { code := 0x0802, cls := .corrected, source := 0xB, sub := reason, detail0 := voter.getD 0 } s
  { s with commit := { s.commit with outcomes := s.commit.outcomes ++ [(id, false, reason, voter)] } }

/-- An ABORT outcome of the commit that this device voted on (R116, R117). -/
def takeAbort (reason : Nat) (voter : Option DevId) (s : State) : State :=
  let s := recordAbort s.commit.id reason voter s
  discardStage { s with commit := { s.commit with lastOutcome := 4, voteReason := reason, noDevice := voter } }

/-- The announcement of the fabric commit that is voted on. -/
def commitHead (s : State) : CommitHead := { id := s.commit.id, groups := s.commit.scope, instant := s.commit.instant }

/-- An announcement at a group master goes on to its members (R116). -/
def passOn (h : CommitHead) (s : State) : State :=
  if s.time.isMaster then sendCfgAll (groupDevices s s.cfg.group.group) (.announce h) s else s

/-- A COMMIT outcome at this device (R123). -/
def takeCommit (s : State) : State :=
  setCommit .armed { s with commit := { s.commit with outcomes := s.commit.outcomes ++ [(s.commit.id, true, 0, none)] } }

/-- The coordinator decides COMMIT (R116): outcome to the scope, announcement to the master of every group, to its own members
where it is their master. -/
def decideCommit (s : State) : State :=
  let s := sendCfgAll (scopeDevices s s.commit.scope) (.outcome s.commit.id true 0 none) s
  let n := match s.cfg.topo with | some t => t.groupCount | none => 0
  let masters := (List.range n).map (fun g => 16 * g + (if g = s.cfg.group.group then s.time.masterMember else 0))
  takeCommit (if fabricCommit s.commit.items then passOn (commitHead s) (sendCfgAll masters (.announce (commitHead s)) s) else s)

/-- The coordinator decides ABORT (R116). -/
def decideAbort (reason : Nat) (voter : Option DevId) (s : State) : State :=
  takeAbort reason voter (sendCfgAll (scopeDevices s s.commit.scope) (.outcome s.commit.id false reason voter) s)

/-- The coordinator takes one vote. -/
def takeVote (src : DevId) (yes : Bool) (reason : Nat) (s : State) : State :=
  if !yes then decideAbort reason (some src) s
  else
    let s := { s with commit := { s.commit with yes := if s.commit.yes.contains src then s.commit.yes else s.commit.yes ++ [src] } }
    if (scopeDevices s s.commit.scope).all (fun d => s.commit.yes.contains d) then decideCommit s else s

/-- The coordinator enters VOTING with the stage's identity, scope and instant (R115). -/
def startVote (head : CommitHead) (s : State) : State :=
  setCommit .voting { s with commit := { s.commit with
    id := head.id, instant := head.instant, scope := head.groups, coordinator := true, yes := [], noDevice := none, noOutcome := [] } }

/-- CFG_STAGE_START (R115, R123): the vote request goes out, and this device votes itself. -/
def execCfgStageStart (r : Requester) (v : Nat) (s : State) : Out :=
  if !stageCmd r v 3 s || s.commit.state != .sealed then .next s
  else
    let head : CommitHead := { id := s.commit.stageId, groups := stageScopeGroups s, instant := s.commit.stageInstant }
    let s := startVote head s
    let s := sendCfgAll (scopeDevices s head.groups) (.voteReq head s.commit.stageDigest) s
    match voteReason head s.commit.stageDigest s with
    | none => .next (takeVote (ownId s) true 0 s)
    | some n => .next (takeVote (ownId s) false n { s with commit := { s.commit with voteReason := n } })

/-- VOTE_REQUEST_RECEIVE (R115, R123). The epoch that the message carries refuses nothing (R119). -/
def execVoteRequestReceive (src : DevId) (epoch : Nat) (head : CommitHead) (digest : Bytes) (s : State) : Out :=
  let s := showEpoch src (epoch % 4) s
  let no (n : Nat) (s : State) : State := sendCfg src (.vote head.id false n) s
  match s.commit.state with
  | .sealed =>
    if head.id ≠ s.commit.stageId then .next (no 4 s)
    else
      let s := setCommit .voting { s with commit := { s.commit with
        id := head.id, instant := head.instant, scope := head.groups, coordinator := false, noDevice := none, noOutcome := [] } }
      match voteReason head digest s with
      | none => .next (sendCfg src (.vote head.id true 0) s)
      | some n => .next (no n { s with commit := { s.commit with voteReason := n } })
  | .staging | .checking => .next (no (if head.id = s.commit.stageId then 3 else 4) s)
  | .voting | .armed => if head.id = s.commit.id then .next s else .next (no 4 s)
  | .idle | .fenced => .next (no 3 s)

/-- VOTE_RECEIVE (R116): in time for I − 1 ms. -/
def execVoteReceive (src : DevId) (epoch id : Nat) (yes : Bool) (reason : Nat) (s : State) : Out :=
  let s := showEpoch src (epoch % 4) s
  if s.commit.state != .voting || !s.commit.coordinator || id != s.commit.id || !(scopeDevices s s.commit.scope).contains src ||
      decide (sysTime s + 1000000 > s.commit.instant) then .next s
  else .next (takeVote src yes reason s)

/-- VOTE_DEADLINE (R109, R116): a vote is missing at I − 1 ms. -/
def execVoteDeadline (s : State) : Out :=
  if s.commit.state != .voting || !s.commit.coordinator || decide (sysTime s + 1000000 < s.commit.instant) then .next s else .next (decideAbort 7 none s)

-- The Commit Instant (R118, R119)

/-- Epochs change for every group in scope, FABRIC_COUNT when this group is among them (R119). -/
def bumpEpochs (h : CommitHead) (s : State) : State :=
  if s.commit.applied.contains h.id then s
  else
    let now := dtNow s
    let ep := h.groups.foldl (fun t g => tabUpd 0 g (fun e => (e + 1) % 4) t) s.commit.epochs
    let at_ := h.groups.foldl (fun t g => tabSet 0 g now t) s.commit.epochAt
    { s with commit := { s.commit with
      epochs := ep, epochAt := at_, applied := s.commit.applied ++ [h.id], lastFabric := some h
      fabricCount := if h.groups.contains s.cfg.group.group then (s.commit.fabricCount + 1) % 65536 else s.commit.fabricCount } }

/-- A new LINK_MAP: links and planes it disables go OFF, those it enables train (R337, R363). -/
def applyLinkMap (k : LinkCfg) (s : State) : State :=
  let s := { s with cfg := { s.cfg with link := k } }
  let s := eachOf allLinks (fun l s =>
    if (getLink s l).state != .off && !brlConnected s l then leaveActive l .off s else s) s
  let s := eachOf allPlanes (fun pl s =>
    if (getPlane s pl).state != .off && !tthConnected s pl then planeLeave pl .off s else s) s
  startLinks s

/-- The new placement of a map's layers, with the DT of the change. -/
def applyMap (m : PlacementItem) (s : State) : State :=
  updPart s m.part (fun q => { q with models := q.models.map (fun x =>
    if x.handle ≠ m.model then x
    else { x with maps := (List.range m.layerCount).foldl (fun t i =>
      let l := m.layerFirst + i
      tabSet {} l { offset := some (m.offset + 16 * i * x.experts), changed := dtNow s } t) x.maps }) })

/-- The DT of the first window that begins at or after the instant, or after a late application (R107, R118). -/
def firstWindow (s : State) : Nat :=
  let i := (s.commit.instant + 2 ^ 64 - s.time.sysOffset % 2 ^ 64) % 2 ^ 64
  let t := if s.commit.state == .fenced then dtNow s else i
  (t + 9999) / 10000 * 10000

/-- Apply one staged item (R118). -/
def applyItem (i : StageItem) (s : State) : State :=
  match i with
  | .power w c t _ => { s with cfg := { s.cfg with clock := { s.cfg.clock with boardPowerW := w, cooling := c, throttleTjC := t } } }
  | .partitions ps =>
    -- budgets and weights wait for the first window at or after the instant; a cluster that changes owner is OFF and is cleared (R113, R512)
    let moved := allClusters.filter (fun c => clusterOwner s.cfg.parts c.val != clusterOwner ps c.val)
    eachOf moved (fun c s => setCluster c .off (updCluster s c (fun q => { q with cores := .replicate 8 {}, waking := false, leaving := false }))) { s with
      cfg := { s.cfg with parts := Vector.ofFn (fun p => withRegs ps[p] (regCfg s p)) }
      commit := { s.commit with nextRegs := some (firstWindow s, ps) } }
  | .linkMap k => applyLinkMap k s
  | .determinism d => { s with cfg := { s.cfg with det := d } }
  | .placementMap m => applyMap m s
  | .image _ _ q =>
    let s := flashWrite (bankBase s.commit.imageBankB) s.commit.imageHeader s
    secLog 0x0040 0 0 (toLe 1 (b2n s.commit.imageBankB) ++ toLe 8 q) s
  | .catchup n t => { s with commit := { s.commit with fabricCount := n, epochs := bytesEpochs t, rejoin := false } }

/-- The partitions that a commit changes (R147). -/
def changedParts (s : State) (is : List StageItem) : List PartId :=
  (definedParts s).filter (fun p => is.any (fun i => match i with
    | .partitions ps => ps[p] != partCfg s p
    | .determinism d => d[p] != s.cfg.det[p]
    | .placementMap m => m.part == p
    | _ => false))

/-- Apply the commit at its instant, or late (R118, R119, R121). -/
def applyCommit (late : Bool) (s : State) : State :=
  let is := s.commit.items
  let caught := isCatchup is
  let changed := changedParts s is
  let s := eachOf is applyItem s
  let s := if fabricCommit is then bumpEpochs (commitHead s) s else s
  let s := endStage { s with commit := { s.commit with
    applyDt := dtNow s, lastOutcome := if caught then 5 else if late then 2 else 1 } }
  drainOut (eachOf changed (fun p s => msixPart p 8 s) s)

/-- COMMIT_INSTANT (R118, R119, R121, R123): ST has reached I of this device's commit, and of the announced ones; a fenced
device that holds its commit's announcement changes its epochs with the others. -/
def execCommitInstant (s : State) : Out :=
  let due := s.commit.announced.filter (fun h => decide (h.instant ≤ sysTime s))
  let s := { s with commit := { s.commit with announced := s.commit.announced.filter (fun h => !decide (h.instant ≤ sysTime s)) } }
  let reached := decide (s.commit.instant ≤ sysTime s)
  let s := if s.commit.state == .armed && reached then applyCommit false s
    else if s.commit.state == .voting && reached then setCommit .fenced s
    else s
  .next (eachOf due bumpEpochs s)

/-- A device's outcome for the commit it voted on (R121, R123). -/
def takeOutcome (commit : Bool) (reason : Nat) (voter : Option DevId) (s : State) : State :=
  match s.commit.state with
  | .voting => if commit then takeCommit s else takeAbort reason voter s
  | .fenced =>
    if s.commit.rejoin then s
    else if commit then applyCommit true { s with commit := { s.commit with outcomes := s.commit.outcomes ++ [(s.commit.id, true, 0, none)] } }
    else drainOut (takeAbort reason voter s)
  | _ => s

/-- Is a commit the one that this device has voted on and waits for (R121, R123)? -/
def awaits (s : State) (id : Nat) : Bool :=
  id == s.commit.id && (s.commit.state == .voting || (s.commit.state == .fenced && !s.commit.rejoin))

/-- OUTCOME_RECEIVE (R116, R121, R123): a device that had voted NO without entering VOTING records the ABORT too. -/
def execOutcomeReceive (src : DevId) (epoch id : Nat) (commit : Bool) (reason : Nat) (voter : Option DevId) (s : State) : Out :=
  let s := showEpoch src (epoch % 4) s
  if awaits s id then .next (takeOutcome commit reason voter s)
  else if commit || s.commit.outcomes.any (fun e => e.1 == id) then .next s
  else .next (recordAbort id reason voter s)

/-- ANNOUNCEMENT_RECEIVE (R116, R119, R120): a group master passes it on; one whose instant has passed is adopted now. -/
def execAnnouncementReceive (src : DevId) (epoch : Nat) (head : CommitHead) (s : State) : Out :=
  let s := showEpoch src (epoch % 4) s
  if s.commit.applied.contains head.id || s.commit.announced.any (fun h => h.id == head.id) then .next s
  else
    let s := passOn head s
    if head.instant ≤ sysTime s then
      .next (bumpEpochs head s)
    else .next { s with commit := { s.commit with announced := s.commit.announced ++ [head] } }

/-- FENCED_QUERY (R121). -/
def execFencedQuery (s : State) : Out :=
  if s.commit.state != .fenced || s.commit.rejoin then .next s
  else .next (sendCfgAll (scopeDevices s s.commit.scope) (.query s.commit.id) s)

/-- QUERY_RECEIVE (R120, R121): a query is answered, an answer is adopted by a fenced device. Commit ID 0 asks for the newest
fabric commit's announcement. -/
def execQueryReceive (src : DevId) (epoch : Nat) (msg : CfgMsg) (s : State) : Out :=
  let s := showEpoch src (epoch % 4) s
  match msg with
  | .query id =>
    if id = 0 then
      match s.commit.lastFabric with
      | some h => .next (sendCfg src (.announce h) s)
      | none => .next s
    else .next (sendCfg src (.answer id ((s.commit.outcomes.find? (fun e => e.1 == id)).map (·.2))) s)
  | .answer id o =>
    if s.commit.state != .fenced || s.commit.rejoin || id != s.commit.id then .next s
    else match o with
    | some (b, reason, voter) => .next (takeOutcome b reason voter s)
    | none => .next { s with commit := { s.commit with noOutcome := if s.commit.noOutcome.contains src then s.commit.noOutcome else s.commit.noOutcome ++ [src] } }
  | _ => .next s

/-- FENCE_TIMEOUT (R109, R121): at I + 10 ms every reachable device in scope has reported no outcome. The ABORT so taken records
VOTE_REASON as it stands and no voter. DESIGN CHOICE: notes/assumptions/91.md. -/
def execFenceTimeout (s : State) : Out :=
  if s.commit.state != .fenced || s.commit.rejoin || decide (sysTime s < s.commit.instant + 10000000) ||
      !((scopeDevices s s.commit.scope).all (fun d => d == ownId s || (getPeer s d).unreachable || s.commit.noOutcome.contains d)) then .next s
  else .next (takeOutcome false s.commit.voteReason none s)

end Sys2Proof.Machine
end

