-- ==== Sys2Proof/Machine/Data.lean ====
section
/-!
DEFINITION. Machine/Data.lean: how commands read and write tensors: poison in tensor data and in control data (spec/18
R450, R451, R460, R463), index tensors (spec/07 R183), clause lists (spec/08 R198), and the trace records of a step
(spec/25 R613 to R615).
-/
namespace Sys2Proof.Machine
open Sys2Proof

/-- The bytes of an HBM read are charged to the regulator (R415). -/
def chargeRead (p : PartId) (space n : Nat) (s : State) : State := if space = 0 then charge p 0 n s else s

/-- The poisoned granules of a range of the partition's region. -/
def badGranules (s : State) (p : PartId) (off n : Nat) : List Nat :=
  (granules (hbmBase s p + off) n).filter (granBad s)

/-- A command's committed read of tensor data: poison in HBM records HBM_UE_POISON under its tag, once, with the first granule
met (R145, R216, R460). DEDUCED: notes/assumptions/35.md. -/
def noteUe (p : PartId) (st : StreamId) (tag space off n : Nat) (s : State) : State :=
  if space = 0 then
    let s := meetHbm p tag off n s
    match badGranules s p off n with
    | g :: _ => noteOnce p st (ueRec s p tag g) s
    | [] => s
  else
    -- an error of a Spool or Reel granule is recorded once, when its flag is set (R321)
    let hit (x : PartId × EccFind) : Bool := x.1 == p && (granules off n).any (fun g =>
      (space == 1 && x.2 == .spool g) || (space == 2 && x.2 == .reel g))
    (s.sramErr.filter hit).foldl (fun s x => itemFind p st tag [] x.2 s) { s with sramErr := s.sramErr.filter (fun x => !hit x) }

/-- A read of tensor data: its charge and its records. DEDUCED: notes/assumptions/35.md. -/
def touch (p : PartId) (st : StreamId) (tag space off n : Nat) (s : State) : State := noteUe p st tag space off n (chargeRead p space n s)

/-- The JOB-class fault of control data read from a poisoned granule or an uncorrectable word (R451, R463). DEDUCED: notes/assumptions/36.md. -/
def ctlFault (s : State) (p : PartId) (space off n : Nat) : Option CmdErr :=
  if !spacePoisoned s p space off n then none
  else if space = 0 then
    let a := hbmBase s p + off
    let g := ((granules a n).find? (granBad s)).getD 0
    some { code := 0x0302, addr := g * Config.granule - hbmBase s p }
  else some { code := 0x0303, sub := 4 }

-- Index tensors (R183)

/-- Entry `k` of an index tensor: TD_BOUNDS beyond its last entry, a fault where it is poisoned. -/
def idxAt (s : State) (p : PartId) (td : Nat × Bytes) (k : Nat) : Except CmdErr Nat :=
  if k ≥ tdElems td.2 then .error { code := 0x0105, detail := td.1 }
  else match ctlFault s p (tdSpace td.2) (tdElemOff td.2 k) 4 with
  | some e => .error e
  | none => .ok (tdWord s p td.2 k)

/-- The row that entry `k` names in a tensor of `n` rows: none for 0xFFFF_FFFF, INDEX_BOUNDS beyond the last row. -/
def rowAt (s : State) (p : PartId) (td : Nat × Bytes) (k n : Nat) : Except CmdErr (Option Nat) :=
  match idxAt s p td k with
  | .error e => .error e
  | .ok v => if v = 0xFFFFFFFF then .ok none
    else if v ≥ n then .error { code := 0x0106, addr := k, detail := v }
    else .ok (some v)

def isIndex (t : Bytes) : Bool := tdType t == 4
/-- A clause list of at least `n` positions (R198). DEDUCED: notes/assumptions/33.md. -/
def isClauseList (n : Nat) (t : Bytes) : Bool :=
  tdSpace t == 1 && tdType t == 5 && tdRank t == 1 && tdDim t 0 == 256 && decide (tdDim t 1 ≥ n) && tdStride t 1 == 256
/-- A candidate or ballot tensor of at least `n` entries (R204, R268). DEDUCED: notes/assumptions/33.md. -/
def isBallot (n : Nat) (t : Bytes) : Bool :=
  tdSpace t == 1 && tdType t == 5 && tdRank t == 1 && tdDim t 0 == 16 && decide (tdDim t 1 ≥ n)

/-- Bytes of one row of the outermost dimension, contiguous in DIM0. -/
def rowSize (t : Bytes) : Nat := tdDim t 0 * elemSize (tdType t)

/-- Write the words of an INT32 or FP32 tensor in packed order from entry `k`. -/
def tdWriteWords (p : PartId) (t : Bytes) : Nat → List Nat → State → State
  | _, [], s => s
  | k, w :: ws, s => tdWriteWords p t (k + 1) ws (spaceWrite p (tdSpace t) (tdElemOff t k) (toLe 4 w) s)

-- Working through a list

/-- Work through a list, stopping at the first fault; what has been done stays done (R183). -/
def eachUntil {α : Type} (f : α → State → Except CmdErr State) : List α → State → State × Option CmdErr
  | [], s => (s, none)
  | x :: t, s => match f x s with
    | .ok s => eachUntil f t s
    | .error e => (s, some e)

/-- End a command that has worked through its list. -/
def finish (p : PartId) (st : StreamId) (d : Bytes) (r : State × Option CmdErr) : State :=
  match r.2 with
  | some e => cmdFail p st d e r.1
  | none => cmdDone p st r.1

-- Moving elements between tensors

/-- Runs of DIM0 elements that are contiguous, in packed order. -/
def tdRuns (t : Bytes) : Nat := tdElems t / max (tdDim t 0) 1
/-- Elements of one index of the outermost dimension. -/
def tdSliceElems (t : Bytes) : Nat := tdElems t / max (tdOuter t) 1
/-- A read of a whole tensor: its charge and its records. -/
def touchTd (p : PartId) (st : StreamId) (tag : Nat) (t : Bytes) (s : State) : State :=
  eachOf (List.range (tdRuns t)) (fun r s => touch p st tag (tdSpace t) (tdElemOff t (r * tdDim t 0)) (rowSize t) s) s
/-- A read of one index of the outermost dimension. -/
def touchSlice (p : PartId) (st : StreamId) (tag : Nat) (t : Bytes) (k : Nat) (s : State) : State :=
  if tdRank t = 0 then touch p st tag (tdSpace t) (tdElemOff t k) (elemSize (tdType t)) s
  else eachOf (List.range (tdSliceElems t / max (tdDim t 0) 1)) (fun r s =>
    touch p st tag (tdSpace t) (tdElemOff t (k * tdSliceElems t + r * tdDim t 0)) (rowSize t) s) s

/-- Join cells (offset, bytes, poisoned) that follow one another without a gap. -/
def joinCells : List (Nat × Bytes × Bool) → List (Nat × Bytes)
  | [] => []
  | (o, b, _) :: t => match joinCells t with
    | [] => [(o, b)]
    | (o', b') :: r => if o + b.length = o' then (o, b ++ b') :: r else (o, b) :: (o', b') :: r

/-- Write cells of a space: each unbroken run is one write, and the poison of a cell marks its granules (R236, R461). -/
def writeCells (p : PartId) (space : Nat) (cs : List (Nat × Bytes × Bool)) (s : State) : State :=
  let s := eachOf (joinCells cs) (fun x s => spaceWrite p space x.1 x.2 s) s
  eachOf (cs.filter (·.2.2)) (fun x s => spaceMark p space x.1 x.2.1.length s) s

/-- Copy `n` elements of a tensor from element `i` to a tensor of the same element size from element `j`, with their
poison (R226, R236). -/
def copyElems (p : PartId) (src dst : Bytes) (i j n : Nat) (s : State) : State :=
  let z := elemSize (tdType src)
  writeCells p (tdSpace dst) ((List.range n).map (fun k => (tdElemOff dst (j + k),
    spaceRead s p (tdSpace src) (tdElemOff src (i + k)) z, spacePoisoned s p (tdSpace src) (tdElemOff src (i + k)) z))) s

/-- Write zeros to one index of the outermost dimension. -/
def zeroSlice (p : PartId) (t : Bytes) (k : Nat) (s : State) : State :=
  writeCells p (tdSpace t) ((List.range (tdSliceElems t)).map (fun j =>
    (tdElemOff t (k * tdSliceElems t + j), List.replicate (elemSize (tdType t)) 0, false))) s

-- Trace records of a step (R613 to R615)

/-- The descriptor that a stream executes. -/
def execDesc (s : State) (p : PartId) (st : StreamId) : Bytes := match (getStream s p st).exec with | some e => e.desc | none => []

/-- A record of the CONJ.STEP: a stage (bit 4 of DBG_TRACE_CTL) or an event of a clause (bit 3). -/
def traceStep (p : PartId) (bit : Nat) (kind : TraceKind) (detail : Nat) (withdrawn : Bool) (s : State) : State :=
  let t := (getPart s p).trace
  let d := execDesc s p 2
  if traceOn t && bitOf t.ctl bit && bitOf t.ctl 10 && dOp d == 0x8001 && (bitOf (d8 d 2) 1 || bitOf t.ctl 5) then
    traceGen p {
      opcode := dOp d, kind := kind, withdrawn := withdrawn, stream := 2, tag := dTag d
      jobId := if (getPart s p).job.open_ then (getPart s p).job.id else 0
      step := d16 d 38, detail := detail } s
  else s

/-- Milestone `code` of R614. -/
def traceStage (p : PartId) (code : Nat) (s : State) : State := traceStep p 4 .stage code false s
/-- A clause's SPEC_SEND, CONFIRM or CANCEL (R615). -/
def traceClause (p : PartId) (kind : TraceKind) (tag : Nat) (s : State) : State := traceStep p 3 kind tag (kind != .confirm) s

end Sys2Proof.Machine
end

