-- ==== Sys2Proof/Machine/Router.lean ====
section
/-!
DEFINITION. Machine/Router.lean: the Router Engine (spec/10) and Updraft at the source (spec/11): scoring, selection,
speculation, commit of a token, expert-choice proposals and assignment.
-/
namespace Sys2Proof.Machine
open Sys2Proof

-- Ordering

/-- Insert by a strict order, behind equals. -/
def insertBy {α : Type} (lt : α → α → Bool) (x : α) : List α → List α
  | [] => [x]
  | y :: t => if lt x y then x :: y :: t else y :: insertBy lt x t

/-- Sort by a strict order, stable. -/
def sortBy {α : Type} (lt : α → α → Bool) (l : List α) : List α := l.foldl (fun a x => insertBy lt x a) []

-- Scoring (R259 to R262)

/-- The logits of a token row (R259). DEDUCED: notes/assumptions/32.md. -/
def logits (s : State) (p : PartId) (m : Model) (r : RouterLayer) (row : Bytes) : List Nat :=
  let x := rowVals row
  (List.range m.experts).map (fun e => chunkDot x (rowVals (secRead s p m 1 (r.gate + e * 2 * m.dmodel) (2 * m.dmodel))))

/-- The largest value of a list of FP32 words that are not NaN. -/
def maxF32 (l : List Nat) : Option Nat :=
  l.foldl (fun a w => if isNan32 w then a else match a with | none => some w | some b => if lt32 b w then some w else a) none

/-- Is the word an infinity of the same sign as the other? -/
def sameInf (a b : Nat) : Bool := match decode32 a, decode32 b with | .inf x, .inf y => x == y | _, _ => false

/-- The probabilities (R261). -/
def probs (func : Nat) (ls : List Nat) : List Nat :=
  match func with
  | 0 =>
    match maxF32 ls with
    | none => ls.map (fun _ => 0x7FC00000)
    | some m =>
      let ts := ls.map (fun w => if isNan32 w then 0x7FC00000 else expF32 (if sameInf w m then 0 else subF32 w m))
      let z := ts.foldl (fun a t => if isNan32 t then a else addF32 a t) 0
      ts.map (fun t => divF32 t z)
  | 1 => ls.map sigmoidF32
  | _ => ls

/-- The keys of a token-choice layer (R262). -/
def keysOf (s : State) (p : PartId) (m : Model) (r : RouterLayer) (ps : List Nat) : List Nat :=
  ps.mapIdx (fun e w => addF32 w (if r.bias then leNat (secRead s p m 1 (r.biasOff + 4 * e) 4) else 0))

/-- Higher value first; the lower index among equals, by position in the list. -/
def byValue (f : Nat × Nat × Nat → Nat) (a b : Nat × Nat × Nat) : Bool := lt32 (f b) (f a)

/-- The min(K, n) experts with the highest keys, as (expert, p, key), ranked by p (R263, R264); and the decisions that
the expert index made among equal values (notes/assumptions/14.md). -/
def selectTop (k : Nat) (ps keys : List Nat) : List (Nat × Nat × Nat) × Nat :=
  let all := (ps.zip keys).mapIdx (fun e x => (e, x.1, x.2))
  let cand := sortBy (byValue (fun x => x.2.2)) (all.filter (fun x => !isNan32 x.2.2))
  let sel := cand.take k
  let eq (f : Nat × Nat × Nat → Nat) (a b : Nat × Nat × Nat) : Bool := !lt32 (f a) (f b) && !lt32 (f b) (f a)
  let cut := match sel.getLast?, (cand.drop k).head? with | some a, some b => b2n (eq (fun x => x.2.2) a b) | _, _ => 0
  let ranked := sortBy (fun a b => lt32 b.2.1 a.2.1 || (eq (fun x => x.2.1) a b && decide (a.1 < b.1))) sel
  let ties := ((ranked.zip (ranked.drop 1)).filter (fun (a, b) => eq (fun x => x.2.1) a b)).length
  (ranked, cut + ties)

/-- The gate weights of clauses in rank order (R264). -/
def gateWeights (r : RouterLayer) (ps : List Nat) : List Nat :=
  if r.norm then
    let z := ps.foldl addF32 0
    ps.map (fun w => mulF32 (divF32 w z) r.scale)
  else ps.map (fun w => mulF32 w r.scale)

/-- The place of a layer's gate matrix in the region. -/
def gateRange (m : Model) (r : RouterLayer) : Nat × Nat := (secOff m 1 + r.gate, m.experts * 2 * m.dmodel)

/-- Is the layer's gate matrix poisoned (R464)? -/
def gatePoisoned (s : State) (p : PartId) (m : Model) (r : RouterLayer) : Bool := spacePoisoned s p 0 (gateRange m r).1 (gateRange m r).2

/-- The largest gate matrix that the gate buffer holds: 32 MiB (R260). -/
def gateBufMax : Nat := 32 * 2 ^ 20

/-- Read the gate matrix for a command of `n` tokens (R260): into the gate buffer, once per job and layer; one larger than the
buffer once for each group of up to 64 tokens. DEDUCED: notes/assumptions/93.md. -/
def fillGate (p : PartId) (tag : Nat) (m : Model) (layer n : Nat) (s : State) : State :=
  let r := routerLayer s p m layer
  let read (s : State) : State := touch p 0 tag 0 (gateRange m r).1 (gateRange m r).2 s
  let s := updPart s p (fun q => { q with rteLayer := layer, rteEc := r.mode == 1 })
  if (gateRange m r).2 > gateBufMax then
    eachOf (List.range ((n + 63) / 64)) (fun _ s => read s) (updPart s p (fun q => { q with gateBuf := none }))
  else if (getPart s p).gateBuf = some (m.handle, layer) then s
  else updPart (read s) p (fun q => { q with gateBuf := some (m.handle, layer) })

-- Clause records of a token (R265, R266)

/-- The row of a slot, zero where bytes never arrived. -/
def fullRow (s : State) (p : PartId) (m : Model) (slot : Nat) : Bytes := bytesAt (getSlot s p slot).row 0 (2 * m.dmodel)

/-- Write the records of a token position: none left over behind the last. DEDUCED: notes/assumptions/31.md. -/
def writeClauses (p : PartId) (td : Bytes) (pos : Nat) (rs : List Bytes) (s : State) : State :=
  let s := (rs.mapIdx (fun k r => (k, r))).foldl (fun s (k, r) => clauseWrite p td pos k r s) s
  if rs.length < 16 then clauseWrite p td pos rs.length (List.replicate 16 0) s else s

/-- Record in the Reel what a selection expects of a slot (R266, R323). The step's EPOCH is that of the executing
CONJ.STEP of the layer, or is set when one starts (notes/assumptions/15.md). -/
def expectSlot (p : PartId) (slot layer n : Nat) (s : State) : State :=
  let ep := match (getPart s p).conj with | some c => if c.layer = layer then some (c.step % 64) else none | none => none
  updSlot p slot (fun r => { r with active := true, expected := n, layer := layer, epoch := ep.getD r.epoch, poison := r.poison || r.rowPoison }) s

/-- The home record of a token with no clause (R266). -/
def homeRecord (r : RouterLayer) (poison : Bool) : Bytes := clauseRec 0xFFFF 0 false poison 1 r.home 0 0

/-- Write the clauses of a token: its records, its count and the counters (R264 to R266). -/
def commitClauses (p : PartId) (td : Bytes) (pos slot layer : Nat) (r : RouterLayer) (poison : Bool)
    (cs : List (Nat × Nat × Nat × Nat)) (s : State) : State :=
  let rs := if cs.isEmpty then [homeRecord r poison]
    else cs.mapIdx (fun k (e, w, key, res) => clauseRec e k false poison 0 w key res)
  let s := writeClauses p td pos rs s
  let s := expectSlot p slot layer rs.length s
  let s := updSlot p slot (fun x => { x with poison := x.poison || poison }) s
  let s := cntPart64 0x000B0010 rs.length p s
  if cs.isEmpty then cntPart 0x000B0018 1 p s else s

-- Updraft at the source (R282 to R303)

/-- Does an RTE.SELECT of a layer speculate: the CONJ.STEP that takes its clauses (R203, R282, R283)? -/
def specStep (s : State) (p : PartId) (layer : Nat) : Option Conj :=
  let q := getPart s p
  match q.conj, jobModel q with
  | some c, some m =>
    if q.job.updraft && !q.job.stillAir && !q.job.replayed && (partCfg s p).updraftEn && m.hasShadow && c.feedEn && c.layer == layer &&
      bitOf (leAt (secRead s p m 2 (64 + 32 * layer) 1) 0 1) 0 then some c else none
  | _, _ => none

/-- The speculative clauses of a slot that hold budget. -/
def specOf (c : Conj) (slot : Nat) : List Clause := (outstandingSpec c).filter (fun x => x.slot == slot)

/-- Issue one verdict (R293): at once on the local path, in a VERDICT packet otherwise. -/
def sendVerdict (p : PartId) (x : Clause) (confirm : Bool) (rank weight : Nat) (s : State) : State :=
  match (getPart s p).conj with
  | none => s
  | some c =>
    if x.dev = ownId s then applyVerdict p x.tag confirm rank weight s
    else sendVerdicts p c x.dev [verdictEntry x.tag confirm rank weight] 1 s

/-- A speculative clause ends in CANCELLED (R303). -/
def cancelClause (p : PartId) (x : Clause) (s : State) : State :=
  let s := traceClause p .cancel x.tag (cntPart64 0x000A0018 1 p s)
  let s := updConj p (fun c => { c with clauses := c.clauses.filter (fun y => !(y.tag == x.tag && (y.stage == .spec || y.stage == .refused))) }) s
  let s := suppress p (b2n x.heldFault.isSome) s
  if x.stage == .spec then sendVerdict p x false 0 0 s else s

/-- A fault held with a confirmed clause, or met by one, is recorded, and the clause goes to another replica (R299, R314). -/
def recordLost (p : PartId) (x : Clause) (code : Nat) (s : State) : State :=
  let tag := match (getPart s p).conj with | some c => c.tag | none => 0
  reissueClause p x (some x.dev) (some false) (record p { code := code, cls := .corrected, source := 2, tag := tag, detail0 := x.tag } s)

/-- A speculative clause ends in CONFIRMED: its record keeps its resolution, and it counts as dispatched (R292, R301). -/
def confirmClause (p : PartId) (x : Clause) (rank weight : Nat) (s : State) : State :=
  let t := committedTag x.tag rank
  let s := cntPart64 0x000A0010 1 p s
  let s := updConj p (fun c => { c with clauses := c.clauses.map (fun y =>
    if y.tag == x.tag && y.stage == .spec then
      { y with tag := t, rank := rank, weight := weight, stage := .sent, heldFault := none, specTag := some x.tag } else y) }) s
  let s := traceClause p .confirm t (sendVerdict p x true rank weight s)
  match x.heldFault with
  | some code => recordLost p { x with tag := t, rank := rank, weight := weight, stage := .sent, heldFault := none } code s
  | none => s

/-- The outstanding speculative clauses of a slot in the executing step of a layer, whatever UPDRAFT_EN reads now (R283). -/
def specHeld (s : State) (p : PartId) (layer slot : Nat) : List Clause :=
  match (getPart s p).conj with | some c => if c.layer == layer then specOf c slot else [] | none => []

/-- The verdicts of a token whose experts `sel` have been selected with weights `ws` (R292). -/
def issueVerdicts (p : PartId) (sel : List (Nat × Nat × Nat)) (ws : List Nat) (spec : List Clause) (s : State) : State :=
  eachOf spec (fun x s => match sel.findIdx? (fun e => e.1 == x.expert) with
    | some k => if x.stage == .spec then confirmClause p x k (ws.getD k 0) s else cancelClause p x s
    | none => cancelClause p x s) s

/-- A token's selection commits, its scores in the copy of SCORE_TD that the command holds (R182): its records are written, then its speculative clauses get their verdicts (R292), so that a
result released on the local path meets the token's record. DEDUCED: notes/assumptions/15.md. -/
def commitToken (p : PartId) (d td : Bytes) (sc : Option Bytes) (base pos : Nat) (s : State) : State :=
  match jobModel (getPart s p) with
  | none => s
  | some m =>
    let layer := d16 d 34
    let r := routerLayer s p m layer
    let slot := base + pos
    let row := fullRow s p m slot
    let poison := (getSlot s p slot).rowPoison || gatePoisoned s p m r
    let ls := logits s p m r row
    let ps := probs r.func ls
    let keys := keysOf s p m r ps
    let (sel, ties) := selectTop (if d8 d 36 = 0 then m.topk else d8 d 36) ps keys
    let ws := gateWeights r (sel.map (fun x => x.2.1))
    let spec := specHeld s p layer slot
    let held (e : Nat) : Option Clause := spec.find? (fun x => x.expert == e && x.stage == .spec)
    let cs := (sel.zip ws).map (fun ((e, _, key), w) =>
      (e, w, key, match held e with | some x => resWord x.dev x.cluster | none => 0))
    let late := if (specStep s p layer).isSome || !spec.isEmpty then (sel.filter (fun x => (held x.1).isNone)).length else 0
    let s := cntPart64 0x000A0020 late p s
    let s := cntPart 0x000B0024 ties p (cntPart64 0x000B0008 1 p s)
    let s := if keys.any isNan32 then cntPart 0x000B0028 1 p s else s
    let s := match sc with | none => s | some t => tdWriteWords p t (pos * m.experts) ls s
    let s := updPart s p (fun q => { q with shadow := q.shadow.filter (fun e => e.1 != slot) })
    issueVerdicts p sel ws spec (commitClauses p td pos slot layer r poison cs s)

/-- Commit the positions of an RTE.SELECT up to its last. -/
def commitAll (p : PartId) (d td : Bytes) (sc : Option Bytes) (base : Nat) : Nat → Nat → State → State
  | 0, _, s => s
  | n + 1, pos, s => commitAll p d td sc base n (pos + 1) (commitToken p d td sc base pos s)

/-- The layer of a router command exists with the given MODE (R263). -/
def layerMode (s : State) (p : PartId) (layer mode : Nat) : Bool :=
  match jobModel (getPart s p) with
  | some m => (routerLayer s p m layer).mode == mode
  | none => false

/-- RTE.SELECT (R203, R263 to R266). Without speculation every token commits in order; with it each token commits at its
TOKEN_SELECTION_COMMIT. DEDUCED: notes/assumptions/31.md; DEDUCED: notes/assumptions/32.md. -/
def execRteSelect (p : PartId) (s : State) : Out :=
  runCmd p 0 0x1001 (fun d s =>
    let experts := match jobModel (getPart s p) with | some m => m.experts | none => 0
    let base := relValue (getStream s p 0) (d8 d 28) (d16 d 24)
    if !layerMode s p (d16 d 34) 0 then cmdFail p 0 d (badOperand 34) s
    else match useTd s p d 32 true (isClauseList (d16 d 26)) with
    | .error e => cmdFail p 0 d e s
    | .ok td =>
      match useTdOpt s p d 38 true (fun t => tdType t == 3 && tdSpace t != 3 && decide (tdElems t ≥ d16 d 26 * experts)) with
      | .error e => cmdFail p 0 d e s
      | .ok sc =>
        let s := match jobModel (getPart s p) with | some m => fillGate p (dTag d) m (d16 d 34) (d16 d 26) s | none => s
        let s := updExec p 0 (fun e => { e with tds := td :: sc.toList, base := base, at_ := 0 }) s
        if (specStep s p (d16 d 34)).isSome then s
        else cmdDone p 0 (updExec p 0 (fun e => { e with at_ := d16 d 26 }) (commitAll p d td.2 (sc.map (·.2)) base (d16 d 26) 0 s))) s

/-- TOKEN_SELECTION_COMMIT (R292): the next token of the executing RTE.SELECT commits. -/
def execTokenSelectionCommit (p : PartId) (pos : Nat) (s : State) : Out :=
  match (getStream s p 0).exec with
  | some e =>
    if e.phase == .running && dOp e.desc == 0x1001 && pos == e.at_ && pos < d16 e.desc 26 then
      match e.tds.head? with
      | none => .next s
      | some td =>
        let s := commitToken p e.desc td.2 ((e.tds[1]?).map (·.2)) e.base pos s
        let s := updExec p 0 (fun e => { e with at_ := pos + 1 }) s
        .next (if pos + 1 = d16 e.desc 26 then cmdDone p 0 s else s)
    else .next s
  | none => .next s

-- The shadow gate (R286, R287)

/-- The shadow scores of a token row (R286). -/
def shadowScores (s : State) (p : PartId) (m : Model) (layer : Nat) (row : Bytes) : List Nat :=
  let r := leAt (secRead s p m 2 2 2) 0 2
  let e := secRead s p m 2 (64 + 32 * layer) 32
  let u := leAt e 8 8
  let v := leAt e 16 8
  let x := rowVals row
  let z := (List.range r).map (fun j =>
    let col := (List.range m.dmodel).map (fun i => decode16 (leNat (secRead s p m 2 (u + 2 * (i * r + j)) 2)))
    decode16 (bf16 (decode32 (chunkDot x col))))
  (List.range m.experts).map (fun k => chunkDot z (rowVals (secRead s p m 2 (v + 2 * k * r) (2 * r))))

/-- The predictions of a token: (expert, speculative rank) of the set P in rank order, with whether each clears the
margin (R287). -/
def predict (k margin : Nat) (scores : List Nat) : List (Nat × Bool) :=
  let all := sortBy (byValue (fun x => x.2.2)) ((scores.mapIdx (fun e w => (e, w, w))).filter (fun x => !isNan32 x.2.2))
  let tau := match all[k]? with | some x => x.2.2 | none => 0xFF800000
  (all.take k).map (fun x =>
    let diff := subF32 x.2.2 tau
    (x.1, !isNan32 diff && !lt32 diff margin))

/-- Is the shadow gate of the layer poisoned: no prediction, and its fault is suppressed (R299)? -/
def shadowPoisoned (s : State) (p : PartId) (m : Model) (layer : Nat) : Bool :=
  let r := leAt (secRead s p m 2 2 2) 0 2
  let e := secRead s p m 2 (64 + 32 * layer) 32
  spacePoisoned s p 0 (secOff m 2 + leAt e 8 8) (2 * m.dmodel * r) || spacePoisoned s p 0 (secOff m 2 + leAt e 16 8) (2 * m.experts * r)

/-- Resolve one prediction and send it while the budget allows (R289 to R291, R303). -/
def speculate (p : PartId) (c : Conj) (m : Model) (slot expert rank : Nat) (s : State) : State :=
  if (mapPoison s p m c.layer expert).isSome then suppress p 1 s
  else match resolve s p m c.layer expert slot [] with
  | none => cntPart 0x000A0034 1 p s
  | some (dev, k) =>
    let near := dev == ownId s || (sameGroup s dev && bondUp s (dev % 16))
    let out := match (getPart s p).conj with | some c => (outstandingSpec c).length | none => 0
    if !near then cntPart 0x000A0034 1 p s
    else if out ≥ (partCfg s p).updClauses then cntPart 0x000A0038 1 p s
    else
      let x : Clause := {
        tag := mkTag (ownId s) slot rank (c.step % 64) p.val true c.layer, epoch := ownEpoch s
        pos := slot - c.first, slot := slot, rank := rank, expert := expert, dev := dev, cluster := k, stage := .spec }
      let poison := (getSlot s p slot).rowPoison
      let s := clauseWrite p c.clauseTd (slot - c.first) rank (clauseRec expert rank true poison 0 0 0 (resWord dev k)) s
      issueClause p x (traceClause p .specSend x.tag (cntPart64 0x000A0008 1 p s))

/-- May the shadow score of a slot be taken: the token's selection runs and has not committed it (R287)? -/
def shadowFresh (s : State) (p : PartId) (e : Exec) (c : Conj) (pos : Nat) : Bool :=
  e.phase == .running && dOp e.desc == 0x1001 && decide (e.at_ ≤ pos) && decide (pos < d16 e.desc 26) &&
    !((getPart s p).shadow.any (fun x => x.1 == e.base + pos)) && decide (c.first ≤ e.base + pos) && decide (e.base + pos < c.first + c.count)

/-- The predictions of a slot, each with whether its margin lets it be sent (R287). -/
def shadowPredict (s : State) (p : PartId) (m : Model) (d : Bytes) (slot : Nat) : List (Nat × Bool) :=
  let layer := d16 d 34
  predict (if d8 d 36 = 0 then m.topk else d8 d 36) (leAt (secRead s p m 2 (64 + 32 * layer) 32) 4 4)
    (shadowScores s p m layer (fullRow s p m slot))

/-- The predictions of a slot are kept, and those whose margin holds are sent (R287, R288). -/
def takeShadow (p : PartId) (c : Conj) (m : Model) (slot : Nat) (ps : List (Nat × Bool)) (s : State) : State :=
  eachOf ((ps.mapIdx (fun k x => (x, k))).filter (fun x => x.1.2)) (fun x s => speculate p c m slot x.1.1 x.2 s)
    (cntPart 0x000A0030 (ps.filter (fun x => !x.2)).length p
      (updPart s p (fun q => { q with shadow := q.shadow ++ [(slot, ps.mapIdx (fun k x => (x.1, k)))] })))

/-- SHADOW_SCORE_DONE (R287): the predictions of a token of the executing RTE.SELECT that has not committed. -/
def execShadowScoreDone (p : PartId) (pos : Nat) (s : State) : Out :=
  match (getStream s p 0).exec, jobModel (getPart s p) with
  | some e, some m =>
    let layer := d16 e.desc 34
    let slot := e.base + pos
    match specStep s p layer with
    | none => .next s
    | some c =>
      if !shadowFresh s p e c pos || (getSlot s p slot).rowPoison then .next s
      else if shadowPoisoned s p m layer then
        .next (suppress p 1 s)
      else .next (takeShadow p c m slot (shadowPredict s p m e.desc slot) s)
  | _, _ => .next s

-- Expert-choice (R267 to R269)

/-- The candidate ID of R267. -/
def candId (dev slot : Nat) : Nat := dev * 2 ^ 16 + slot

/-- A candidate record (R267). -/
def candRec (key expert slot dev : Nat) : Bytes :=
  toLe 4 key ++ toLe 2 expert ++ toLe 2 0 ++ toLe 2 slot ++ toLe 2 (dev % 2 ^ 14) ++ toLe 4 0

/-- An empty entry of expert `e` (R267): SLOT and the proposing device, which the spec does not give of it, are uninterpreted. -/
def emptyCand (e : Nat) : Bytes := toLe 4 0xFFFFFFFF ++ toLe 2 e ++ toLe 2 0 ++ toLe 4 (Config.emptyCandidate % 2 ^ 30) ++ toLe 4 0

/-- Highest key first, then the lower ID (R267, R268): entries are (key, ID). -/
def candLt (a b : Nat × Nat) : Bool := lt32 b.1 a.1 || (!lt32 a.1 b.1 && decide (a.2 < b.2))

/-- Write a string of records from an offset of a space. -/
def writeRecs (p : PartId) (t : Bytes) : Nat → List Bytes → State → State
  | _, [], s => s
  | k, r :: rs, s => writeRecs p t (k + 1) rs (spaceWrite p (tdSpace t) (tdRow t k) r s)

/-- The rows of a proposal: each row's slot, whether its candidates are left out for poison, its p values (R267, R464). -/
def proposeRows (s : State) (p : PartId) (m : Model) (r : RouterLayer) (base n : Nat) : List (Nat × Bool × List Nat) :=
  (List.range n).map (fun i => (base + i, (getSlot s p (base + i)).rowPoison || gatePoisoned s p m r,
    probs r.func (logits s p m r (fullRow s p m (base + i)))))

/-- The candidates of expert `e`, best first: (key, ID). A NaN makes no candidate (R264, R267). -/
def proposeBest (s : State) (c e : Nat) (rows : List (Nat × Bool × List Nat)) : List (Nat × Nat) :=
  (sortBy candLt ((rows.filter (fun x => !x.2.1 && !isNan32 (x.2.2.getD e 0x7FC00000))).map
    (fun x => (x.2.2.getD e 0, candId (ownId s) x.1)))).take c

/-- The C records of expert `e`: its best candidates, then empty entries (R267). -/
def proposeRecs (s : State) (c e : Nat) (rows : List (Nat × Bool × List Nat)) : List Bytes :=
  (proposeBest s c e rows).map (fun x => candRec x.1 e (x.2 % 2 ^ 16) (x.2 / 2 ^ 16)) ++
    List.replicate (c - (proposeBest s c e rows).length) (emptyCand e)

/-- The counts of a proposal: its rows, and its rows that hold a NaN. -/
def proposeCounts (p : PartId) (n : Nat) (rows : List (Nat × Bool × List Nat)) (s : State) : State :=
  cntPart 0x000B0028 (rows.filter (fun x => x.2.2.any isNan32)).length p (cntPart64 0x000B0008 n p s)

/-- RTE.PROPOSE (R204, R267, R464). -/
def execRtePropose (p : PartId) (s : State) : Out :=
  runCmd p 0 0x1002 (fun d s =>
    match jobModel (getPart s p) with
    | none => cmdFail p 0 d (badOperand 0) s
    | some m =>
      let c := d16 d 36
      let base := relValue (getStream s p 0) (d8 d 28) (d16 d 24)
      if !layerMode s p (d16 d 34) 1 then cmdFail p 0 d (badOperand 34) s
      else match useTd s p d 32 true (isBallot (m.experts * c)) with
      | .error e => cmdFail p 0 d e s
      | .ok td =>
        let s := updExec p 0 (fun e => { e with tds := [td], base := base, at_ := d16 d 26 }) (fillGate p (dTag d) m (d16 d 34) (d16 d 26) s)
        let r := routerLayer s p m (d16 d 34)
        let rows := proposeRows s p m r base (d16 d 26)
        let bad := gatePoisoned s p m r
        let s := eachOf (List.range (d16 d 26)) (fun i s => updSlot p (base + i) (fun x => { x with gateBad := bad }) s) s
        let recs := (List.range m.experts).flatMap (fun e => proposeRecs s c e rows)
        cmdDone p 0 (writeRecs p td.2 0 recs (proposeCounts p (d16 d 26) rows s))) s

/-- An entry of a ballot result that this device proposed: its index, slot, expert and key; none for the others. -/
def ballotEntry (s : State) (p : PartId) (t : Bytes) (i : Nat) : Option (Nat × Nat × Nat × Nat) :=
  let b := spaceRead s p (tdSpace t) (tdRow t i) 16
  if leAt b 0 4 = 0xFFFFFFFF ∨ leAt b 10 2 % 2 ^ 14 ≠ ownId s then none
  else some (i, leAt b 8 2, leAt b 4 2, leAt b 0 4)

/-- The picks of a slot among the entries of a ballot: (expert, p, key). -/
def picksOf (es : List (Nat × Nat × Nat × Nat)) (slot : Nat) : List (Nat × Nat × Nat) :=
  (es.filter (fun x => x.2.1 == slot)).map (fun x => (x.2.2.1, x.2.2.2, x.2.2.2))

/-- Greater p first, then the lower expert (R269). -/
def pickLt (a b : Nat × Nat × Nat) : Bool := lt32 b.2.1 a.2.1 || (!lt32 a.2.1 b.2.1 && decide (a.1 < b.1))

/-- The picks of a token in the order of R269, of which 16 are kept. -/
def picksRanked (es : List (Nat × Nat × Nat × Nat)) (slot : Nat) : List (Nat × Nat × Nat) := sortBy pickLt (picksOf es slot)
/-- At most 16 picks of a token, in the order of R269. -/
def keptOf (es : List (Nat × Nat × Nat × Nat)) (slot : Nat) : List (Nat × Nat × Nat) := (picksRanked es slot).take 16

/-- Neighbours of an order that have one p: ranks, and the last place, decided by the expert (notes/assumptions/14.md). -/
def pickTies (l : List (Nat × Nat × Nat)) : Nat :=
  ((l.zip (l.drop 1)).filter (fun x => !lt32 x.1.2.1 x.2.2.1 && !lt32 x.2.2.1 x.1.2.1)).length

/-- One token of RTE.ASSIGN: its clauses and its counts (R269). DEDUCED: notes/assumptions/14.md. -/
def assignToken (p : PartId) (ct : Bytes) (base layer : Nat) (r : RouterLayer) (es : List (Nat × Nat × Nat × Nat)) (pos : Nat) (s : State) : State :=
  let kept := keptOf es (base + pos)
  let s := cntPart 0x000B0024 (pickTies ((picksRanked es (base + pos)).take 17)) p (cntPart 0x000B0020 ((picksOf es (base + pos)).length - kept.length) p s)
  let s := if (picksOf es (base + pos)).isEmpty then cntPart 0x000B001C 1 p s else s
  commitClauses p ct pos (base + pos) layer r ((getSlot s p (base + pos)).rowPoison || (getSlot s p (base + pos)).gateBad)
    ((kept.zip (gateWeights r (kept.map (fun x => x.2.1)))).map (fun x => (x.1.1, x.2, x.1.2.2, 0))) s

/-- The entries of a ballot result that this device proposed. -/
def ballotEntries (s : State) (p : PartId) (t : Bytes) : List (Nat × Nat × Nat × Nat) :=
  (List.range (tdDim t 1)).filterMap (ballotEntry s p t)

/-- An entry of a ballot that names a slot outside the command's range or no expert of the model (R205). DEDUCED: notes/assumptions/33.md. -/
def strayEntry (base count experts : Nat) (x : Nat × Nat × Nat × Nat) : Bool := x.2.1 < base || x.2.1 ≥ base + count || x.2.2.1 ≥ experts

/-- RTE.ASSIGN (R205, R269): at most 16 picks a token, by p, then by expert. DEDUCED: notes/assumptions/33.md. -/
def execRteAssign (p : PartId) (s : State) : Out :=
  runCmd p 0 0x1003 (fun d s =>
    match jobModel (getPart s p) with
    | none => cmdFail p 0 d (badOperand 0) s
    | some m =>
      let base := relValue (getStream s p 0) (d8 d 28) (d16 d 24)
      let count := d16 d 26
      if !layerMode s p (d16 d 36) 1 then cmdFail p 0 d (badOperand 36) s
      else match useTd s p d 32 false (isBallot m.experts), useTd s p d 34 true (isClauseList count) with
      | .error e, _ => cmdFail p 0 d e s
      | _, .error e => cmdFail p 0 d e s
      | .ok bt, .ok ct =>
        match ctlFault s p (tdSpace bt.2) (tdBase bt.2) (tdExtent bt.2 - tdBase bt.2) with
        | some e => cmdFail p 0 d e s
        | none =>
          let es := ballotEntries s p bt.2
          match es.find? (strayEntry base count m.experts) with
          | some (i, slot, e, _) => cmdFail p 0 d { code := 0x0106, addr := i, detail := if slot < base ∨ slot ≥ base + count then slot else e } s
          | none =>
            let r := routerLayer s p m (d16 d 36)
            let s := updPart s p (fun q => { q with rteLayer := d16 d 36, rteEc := true })
            let s := updExec p 0 (fun e => { e with tds := [bt, ct], base := base, at_ := count }) s
            cmdDone p 0 (eachOf (List.range count) (assignToken p ct.2 base (d16 d 36) r es) s)) s

end Sys2Proof.Machine
end

