-- ==== Sys2Proof/Machine/Engine.lean ====
section
/-!
DEFINITION. Machine/Engine.lean: the Sort Engine, the copies of the Dispatch Engine and the Combine Engine's commands
(spec/08 R207, R208, R218, R219, spec/12 R307, R308, R323 to R327).
-/
namespace Sys2Proof.Machine
open Sys2Proof

-- Sorting (R307, R308)

/-- Is the clause record dropped (R265)? -/
def recDropped (r : Bytes) : Bool := bitOf (leAt r 12 4) 19
/-- The replica a record is resolved to, where it is (R37). -/
def recResolved (r : Bytes) : Option (DevId × Nat) :=
  let w := leAt r 12 4
  if bitOf w 17 then some (bitsOf w 13 0, bitsOf w 16 14) else none

/-- The replica of an expert clause: as it was resolved, or resolved now (R37, R38). -/
def clauseTarget (s : State) (p : PartId) (m : Model) (layer slot : Nat) (r : Bytes) : Option (DevId × Nat) :=
  match recResolved r with
  | some x => some x
  | none => resolve s p m layer (recExpert r) slot []

/-- The bucket key of an expert clause and of a home clause with KEY 0 (R307). -/
def expertKey (d : DevId) (c e : Nat) : Nat := (d * 8 + c) * 4096 + e
def homeKey (s : State) (p : PartId) : Nat := 2 ^ 31 + ownId s * 8 + homeLead s p
/-- The bucket key of a clause with KEY 0; one with no eligible replica is a home clause (R39). -/
def bucketKey (s : State) (p : PartId) (m : Model) (layer slot : Nat) (r : Bytes) : Nat :=
  if recExpert r = 0xFFFF then homeKey s p
  else match clauseTarget s p m layer slot r with
  | some (d, c) => expertKey d c (recExpert r)
  | none => homeKey s p

/-- The valid, undropped records of positions 0 to n − 1 of a clause list: position and record. DEDUCED: notes/assumptions/17.md. -/
def listClauses (s : State) (p : PartId) (td : Bytes) (n : Nat) : List (Nat × Bytes) :=
  (List.range n).flatMap (fun pos => ((clausesAt s p td pos).filter (fun r => !recDropped r)).map (fun r => (pos, r)))

/-- Write the resolution of a clause into its record; with no eligible replica it becomes a home record, with
FALLBACK_TAKEN once for each expert of the command (R38, R39, R278). DEDUCED: notes/assumptions/17.md. -/
def resolveRecord (p : PartId) (tag : Nat) (m : Model) (layer : Nat) (td : Bytes) (x : Nat × Bytes) (acc : State × List Nat) : State × List Nat :=
  let (s, seen) := acc
  let (pos, r) := x
  if recExpert r = 0xFFFF then acc
  else match clauseTarget s p m layer pos r with
  | some (d, c) =>
    let s := clauseWrite p td pos (recRank r) (r.take 12 ++ toLe 4 (leAt r 12 4 ||| resWord d c)) s
    (if (recResolved r).isNone then noteResolved p td pos r s else s, seen)
  | none =>
    let s := clauseWrite p td pos (recRank r) (toLe 2 0xFFFF ++ bytesAt r 2 1 ++ toLe 1 3 ++ r.drop 4) s
    let s := cntDev 0x00010060 1 (outside p 3 s)
    if seen.contains (recExpert r) then (s, seen)
    else (record p { code := 0x0503, cls := .corrected, source := 1, tag := tag, detail0 := recExpert r } s, seen ++ [recExpert r])

/-- Bucket starts of sorted keys: each key with the index of its first entry. -/
def bucketStarts (keys : List Nat) : List (Nat × Nat) :=
  (keys.mapIdx (fun i k => (k, i))).foldl (fun a e => if (a.getLast?.map (·.1)) = some e.1 then a else a ++ [e]) []

/-- The INDEX entry of a clause. -/
def indexEntry (pos rank : Nat) : Nat := 256 * pos + 16 * rank

/-- The keys of a clause list: KEY 0 keys every clause by its destination; KEY 1 keys by expert those that name one (R207). -/
def bucketKeyed (s : State) (p : PartId) (m : Model) (layer : Nat) (key0 : Bool) (cs : List (Nat × Bytes)) : List (Nat × Nat × Bytes) :=
  if key0 then cs.map (fun x => (bucketKey s p m layer x.1 x.2, x))
  else (cs.filter (fun x => recExpert x.2 != 0xFFFF)).map (fun x => (recExpert x.2, x))

/-- The clauses in the order of their keys, equal keys in list order. -/
def bucketSorted (l : List (Nat × Nat × Bytes)) : List (Nat × Nat × Bytes) := sortBy (fun a b => decide (a.1 < b.1)) l

/-- The words of the offsets tensor (R207): KEY 0 pairs of key and first index, closed by FFFF_FFFFh and the count; KEY 1 the
first index of each expert and the count. -/
def bucketOffs (key0 : Bool) (experts : Nat) (sorted : List (Nat × Nat × Bytes)) : List Nat :=
  if key0 then (bucketStarts (sorted.map (·.1))).flatMap (fun e => [e.1, e.2]) ++ [0xFFFFFFFF, sorted.length]
  else (List.range (experts + 1)).map (fun b => ((sorted.filter (fun e => e.1 < b)).length))

/-- KEY 0 resolves every clause of the list in its order. DEDUCED: notes/assumptions/17.md. -/
def resolveList (p : PartId) (tag : Nat) (m : Model) (layer : Nat) (td : Bytes) (cs : List (Nat × Bytes)) (s : State) : State :=
  (cs.foldl (fun a x => resolveRecord p tag m layer td x a) (s, [])).1

/-- SRT.BUCKET (R207, R307, R308). The slot of resolution is the token position (notes/assumptions/17.md). DEDUCED: notes/assumptions/34.md. -/
def execSrtBucket (p : PartId) (s : State) : Out :=
  runCmd p 1 0x2001 (fun d s =>
    match jobModel (getPart s p) with
    | none => cmdFail p 1 d (badOperand 0) s
    | some m =>
      let n := d16 d 26
      let key0 := d8 d 34 == 0
      match useTd s p d 24 key0 (isClauseList n), useTd s p d 28 true (fun t => isIndex t && tdSpace t != 3),
          useTd s p d 30 true (fun t => isIndex t && tdSpace t != 3) with
      | .error e, _, _ => cmdFail p 1 d e s
      | _, .error e, _ => cmdFail p 1 d e s
      | _, _, .error e => cmdFail p 1 d e s
      | .ok td, .ok ix, .ok off =>
        match ctlFault s p (tdSpace td.2) (tdBase td.2) (256 * n) with
        | some e => cmdFail p 1 d e s
        | none =>
          let cs := listClauses s p td.2 n
          match cs.find? (fun x => recExpert x.2 != 0xFFFF && recExpert x.2 ≥ m.experts) with
          | some (pos, r) => cmdFail p 1 d { code := 0x0106, addr := indexEntry pos (recRank r), detail := recExpert r } s
          | none =>
            match (if key0 then cs.findSome? (fun x =>
                if recExpert x.2 = 0xFFFF || (recResolved x.2).isSome then none else mapPoison s p m (d16 d 32) (recExpert x.2)) else none) with
            | some a => cmdFail p 1 d { code := 0x0302, addr := a } s
            | none =>
            let keyed := bucketKeyed s p m (d16 d 32) key0 cs
            let sorted := bucketSorted keyed
            let offs := bucketOffs key0 m.experts sorted
            if tdElems ix.2 < sorted.length then cmdFail p 1 d (badOperand 28) s
            else if tdElems off.2 < offs.length then cmdFail p 1 d (badOperand 30) s
            else
              let s := if key0 then resolveList p (dTag d) m (d16 d 32) td.2 cs s else s
              let s := tdWriteWords p ix.2 0 (sorted.map (fun e => indexEntry e.2.1 (recRank e.2.2))) s
              let s := tdWriteWords p off.2 0 offs s
              let s := cntPart64 0x000C0008 sorted.length p s
              cmdDone p 1 (cntPart 0x000C0010 (cs.length - keyed.length) p s)) s

-- DSP.GATHER (R208)

/-- Copy one row. DEDUCED: notes/assumptions/18.md. -/
def gatherRow (p : PartId) (d : Bytes) (src ix dst : Nat × Bytes) (i : Nat) (s : State) : Except CmdErr State :=
  let k := (relValue (getStream s p 2) (d8 d 30) (d32 d 36) + i) % 2 ^ 32
  match rowAt s p ix k (tdOuter src.2) with
  | .error e => .error e
  | .ok row =>
    if i ≥ tdOuter dst.2 then .error { code := 0x0105, detail := dst.1 }
    else match row with
    | none => .ok (zeroSlice p dst.2 i s)
    | some r =>
      let n := tdSliceElems src.2
      .ok (copyElems p src.2 dst.2 (r * n) (i * n) n (touchSlice p 2 (dTag d) src.2 r s))

/-- DSP.GATHER (R208). Slices of different size, at equal DTYPE and DIM0, are refused. DESIGN CHOICE: notes/assumptions/99.md. -/
def execDspGather (p : PartId) (s : State) : Out :=
  runCmd p 2 0x3001 (fun d s =>
    match useTd s p d 24 false (fun t => tdSpace t != 3), useTd s p d 26 false (fun t => isIndex t && tdSpace t != 3),
        useTd s p d 28 true (fun t => tdSpace t != 3) with
    | .error e, _, _ => cmdFail p 2 d e s
    | _, .error e, _ => cmdFail p 2 d e s
    | _, _, .error e => cmdFail p 2 d e s
    | .ok src, .ok ix, .ok dst =>
      if tdType src.2 ≠ tdType dst.2 ∨ tdDim src.2 0 ≠ tdDim dst.2 0 ∨ tdSliceElems src.2 ≠ tdSliceElems dst.2 then
        cmdFail p 2 d (badOperand 28) s
      else finish p 2 d (eachUntil (gatherRow p d src ix dst) (List.range (d32 d 32)) s)) s

-- The combine (R218, R219)

/-- Add one result row: the slot of its record is the token position of its index entry (notes/assumptions/18.md). -/
def accumRow (p : PartId) (d : Bytes) (m : Model) (rows td ix : Nat × Bytes) (i : Nat) (s : State) : Except CmdErr State :=
  let k := (relValue (getStream s p 4) (d8 d 30) (d32 d 32) + i) % 2 ^ 32
  match idxAt s p ix k with
  | .error e => .error e
  | .ok v =>
    let pos := v / 256
    let rank := v / 16 % 16
    if v = 0xFFFFFFFF then .ok s
    else if pos ≥ tdDim td.2 1 ∨ v % 16 ≠ 0 then .error { code := 0x0106, addr := k, detail := v }
    else if k ≥ tdOuter rows.2 then .error { code := 0x0105, detail := rows.1 }
    else match ctlFault s p (tdSpace td.2) (clauseOff td.2 pos rank) 16 with
    | some e => .error e
    | none =>
      let n := 2 * m.dmodel
      let off := tdRow rows.2 k
      let slot := getSlot s p pos
      let bad := spacePoisoned s p (tdSpace rows.2) off n
      let y := rowHalves (spaceRead s p (tdSpace rows.2) off n)
      let s := touch p 4 (dTag d) (tdSpace rows.2) off n s
      .ok (contribute p (mkTag (ownId s) pos rank slot.epoch p.val false slot.layer) (getPart s p).epoch slot.gen (some y) bad
        (recExpert (clauseRead s p td.2 pos rank) == 0xFFFF) s)

/-- CMB.ACCUM (R218): the Reel's rules of R324 to R326 apply to each row. -/
def execCmbAccum (p : PartId) (s : State) : Out :=
  runCmd p 4 0x5001 (fun d s =>
    match jobModel (getPart s p) with
    | none => cmdFail p 4 d (badOperand 0) s
    | some m =>
      match useTd s p d 24 false (fun t => tdType t == 0 && tdRank t == 1 && tdDim t 0 == m.dmodel && tdSpace t != 3),
          useTd s p d 26 false (isClauseList 1), useTd s p d 28 false (fun t => isIndex t && tdSpace t != 3) with
      | .error e, _, _ => cmdFail p 4 d e s
      | _, .error e, _ => cmdFail p 4 d e s
      | _, _, .error e => cmdFail p 4 d e s
      | .ok rows, .ok td, .ok ix => finish p 4 d (eachUntil (accumRow p d m rows td ix) (List.range (d16 d 36)) s)) s

/-- Has a slot received every contribution recorded for it (R219)? DEDUCED: notes/assumptions/34.md. -/
def slotFull (r : Slot) : Bool := r.rounded || (r.active && (unseen r).isNone)

/-- CMB.FINAL (R219). DEDUCED: notes/assumptions/34.md. -/
def execCmbFinal (p : PartId) (s : State) : Out :=
  runCmd p 4 0x5002 (fun d s =>
    let base := relValue (getStream s p 4) (d8 d 28) (d16 d 24)
    let is := (List.range (d16 d 26)).map (· + base)
    if !is.all (fun i => slotFull (getSlot s p i)) then cmdFail p 4 d (badOperand 24) s
    else cmdDone p 4 (eachOf is (fun i s => roundSlot p i s) s)) s

end Sys2Proof.Machine
end

