-- ==== Sys2Proof/Machine/Seq.lean ====
section
/-!
DEFINITION. Machine/Seq.lean: the commands of the Expert Sequencer (spec/08 R214 to R217, spec/09 R233 to R247): every
core of the job's cluster set works on its own tiles.
-/
namespace Sys2Proof.Machine
open Sys2Proof

-- Cores and tiles (R166, R233, R236)

/-- The cores that take part in a micro-operation, with their core index (R166). -/
def coreList (s : State) (p : PartId) : List (Nat × CoreId) :=
  ((allClusters.filter (fun c => bitOf (getPart s p).job.clusters c.val)).flatMap (fun c =>
    ((List.finRange 8).filter (fun i => decide (i.val < coresPer s))).map (fun i => (c, i)))).mapIdx (fun n c => (n, c))

def coreAt (s : State) (c : CoreId) : CoreSt := getCore s c.1 c.2
/-- Apply an operation on every core of the job. -/
def onCores (p : PartId) (f : CoreSt → CoreSt) (s : State) : State := eachOf (coreList s p) (fun c s => onCore c.2 f s) s

/-- The values of a tile row: 16-bit slots of a T tile, FP32 words of an A tile. -/
def tileRow (q : CoreSt) (code row : Nat) : List Nat :=
  (List.range 64).map (fun j => if isT code then tabGet 0 q.t (4096 * code + 64 * row + j) else tabGet 0 q.a (4096 * (code - 64) + 64 * row + j))
def setTileRow (code row : Nat) (vs : List Nat) (q : CoreSt) : CoreSt :=
  let put (base : Nat) (t : Tab Nat) : Tab Nat := (vs.take 64).foldl (fun (a : Nat × Tab Nat) v => (a.1 + 1, tabSet 0 a.1 v a.2)) (base, t) |>.2
  if isT code then { q with t := put (4096 * code + 64 * row) q.t } else { q with a := put (4096 * (code - 64) + 64 * row) q.a }
def tileTag (q : CoreSt) (code : Nat) : Nat := tabGet 0 q.tags code
def setTileTag (code tag : Nat) (q : CoreSt) : CoreSt := { q with tags := tabSet 0 code tag q.tags }
def rowBad (q : CoreSt) (code row : Nat) : Bool := tabGet false q.rowPoison (64 * code + row)
/-- A tile row as values: a T tile by its tag, an A tile as FP32. -/
def rowOf (q : CoreSt) (code row : Nat) : List FVal :=
  (tileRow q code row).map (if isT code then decodeTag (tileTag q code) else decode32)

/-- Is a tile an operand of R242: an A tile, or a T tile tagged BF16 on every core of the job? -/
def vecOperand (s : State) (p : PartId) (code : Nat) : Bool :=
  isA code || (coreList s p).all (fun c => tileTag (coreAt s c.2) code == 0)

/-- Write a result row of R242: FP32 words, rounded to BF16 for a T tile, which is then tagged BF16. -/
def putVec (code row : Nat) (ws : List Nat) (bad : Bool) (q : CoreSt) : CoreSt :=
  setRowBad code row bad
    (if isT code then setTileTag code 0 (setTileRow code row (ws.map (fun w => bf16 (decode32 w))) q) else setTileRow code row ws q)

/-- A tile row as FP32 words. -/
def rowWords (q : CoreSt) (code row : Nat) : List Nat :=
  (tileRow q code row).map (fun w => if isT code then w * 2 ^ 16 else w)

-- Spaces as a core sees them: SPACE 3 is its own scratch (R180)

def coreRead (s : State) (p : PartId) (c : CoreId) (space off n : Nat) : Bytes :=
  if space = 3 then memReadN (coreAt s c).scratch off n else spaceRead s p space off n
def coreBad (s : State) (p : PartId) (c : CoreId) (space off n : Nat) : Bool :=
  if space = 3 then rangePoisoned (coreAt s c).scratchPoison off n else spacePoisoned s p space off n
/-- Write bytes and, where they are poisoned, mark their granules (R236). -/
def coreWrite (p : PartId) (c : CoreId) (space off : Nat) (b : Bytes) (bad : Bool) (s : State) : State :=
  if space = 3 then
    onCore c (fun q => { q with
      scratch := memWriteN q.scratch off b
      scratchPoison := (if bad then markRange off b.length else id) (clearWhole off b.length q.scratchPoison) }) s
  else
    let s := spaceWrite p space off b s
    if bad then spaceMark p space off b.length s else s

/-- Entry `k` of an index tensor, as a core reads it (R183). -/
def coreIndex (s : State) (p : PartId) (c : CoreId) (td : Nat × Bytes) (k : Nat) : Except CmdErr Nat :=
  if tdSpace td.2 ≠ 3 then idxAt s p td k
  else if k ≥ tdElems td.2 then .error { code := 0x0105, detail := td.1 }
  else if coreBad s p c 3 (tdElemOff td.2 k) 4 then .error { code := 0x0303, sub := 4 }
  else .ok (leNat (coreRead s p c 3 (tdElemOff td.2 k) 4))

/-- The TD row of a gather or scatter: none for "no row"; TD_BOUNDS beyond a directly addressed tensor (R244). -/
def coreRow (s : State) (p : PartId) (c : CoreId) (td : Nat × Bytes) (index : Option (Nat × Bytes)) (k : Nat) : Except CmdErr (Option Nat) :=
  match index with
  | none => if k ≥ tdOuter td.2 then .error { code := 0x0105, detail := td.1 } else .ok (some k)
  | some ix =>
    match coreIndex s p c ix k with
    | .error e => .error e
    | .ok v => if v = 0xFFFFFFFF then .ok none
      else if v ≥ tdOuter td.2 then .error { code := 0x0106, addr := k, detail := v }
      else .ok (some v)

/-- The rows of SEQ.LD and SEQ.ST, core by core: core index, core, tile row. -/
def coreRows (s : State) (p : PartId) (rows : Nat) : List (Nat × CoreId × Nat) :=
  (coreList s p).flatMap (fun c => (List.range rows).map (fun r => (c.1, c.2, r)))

-- SEQ.LD and SEQ.ST (R244 to R246)

/-- Byte offset of the 64 elements of a row, or TD_BOUNDS. -/
def ldOffset (td : Nat × Bytes) (row e0 : Nat) : Except CmdErr Nat :=
  if e0 + 64 > tdDim td.2 0 then .error { code := 0x0105, detail := td.1 }
  else .ok (tdBase td.2 + row * tdStride td.2 1 + e0 * elemSize (tdType td.2))

/-- First row and first element on a core, modulo 2^32. -/
def coreOrigin (s : State) (p : PartId) (d : Bytes) (n : Nat) : Nat × Nat :=
  ((relValue (getStream s p 3) (d8 d 30) (d32 d 32) + n * d32 d 40) % 2 ^ 32, (d32 d 36 + n * d32 d 44) % 2 ^ 32)

/-- Load one tile row of one core. -/
def loadRow (p : PartId) (d : Bytes) (td : Nat × Bytes) (ix : Option (Nat × Bytes)) (x : Nat × CoreId × Nat) (s : State) : Except CmdErr State :=
  let (n, c, r) := x
  let (r0, e0) := coreOrigin s p d n
  match coreRow s p c td ix ((r0 + r) % 2 ^ 32), ldOffset td 0 e0 with
  | .error e, _ => .error e
  | _, .error e => .error e
  | .ok none, .ok _ => .ok (onCore c (fun q => setRowBad (d8 d 24) r false (setTileRow (d8 d 24) r (List.replicate 64 0) q)) s)
  | .ok (some row), .ok _ =>
    let sz := elemSize (tdType td.2)
    let off := tdBase td.2 + row * tdStride td.2 1 + e0 * sz
    let b := coreRead s p c (tdSpace td.2) off (64 * sz)
    let bad := coreBad s p c (tdSpace td.2) off (64 * sz)
    .ok (onCore c (fun q => setRowBad (d8 d 24) r bad (setTileRow (d8 d 24) r ((List.range 64).map (fun j => leAt b (j * sz) sz)) q))
      (touch p 3 (dTag d) (tdSpace td.2) off (64 * sz) s))

/-- The effect of SEQ.LD (R244, R245). -/
def seqLd (p : PartId) (d : Bytes) (s : State) : State :=
  match useTd s p d 26 false (fun t => tdRank t == 1 && decide (tdType t ≤ 2)), useTdOpt s p d 28 false isIndex with
  | .error e, _ => cmdFail p 3 d e s
  | _, .error e => cmdFail p 3 d e s
  | .ok td, .ok ix =>
    let s := onCores p (setTileTag (d8 d 24) (tdType td.2)) s
    finish p 3 d (eachUntil (loadRow p d td ix) (coreRows s p (d8 d 25)) s)

/-- Store one tile row of one core. -/
def storeTileRow (p : PartId) (d : Bytes) (td : Nat × Bytes) (ix : Option (Nat × Bytes)) (x : Nat × CoreId × Nat) (s : State) : Except CmdErr State :=
  let (n, c, r) := x
  let (r0, e0) := coreOrigin s p d n
  match coreRow s p c td ix ((r0 + r) % 2 ^ 32), ldOffset td 0 e0 with
  | .error e, _ => .error e
  | _, .error e => .error e
  | .ok none, .ok _ => .ok s
  | .ok (some row), .ok _ =>
    let sz := elemSize (tdType td.2)
    let off := tdBase td.2 + row * tdStride td.2 1 + e0 * sz
    .ok (coreWrite p c (tdSpace td.2) off ((tileRow (coreAt s c) (d8 d 24) r).map (toLe sz)).flatten (rowBad (coreAt s c) (d8 d 24) r) s)

/-- Does the tile match the DTYPE of SEQ.ST's tensor (R246)? -/
def storeSuits (s : State) (p : PartId) (code : Nat) (t : Bytes) : Bool :=
  tdRank t == 1 && (if isA code then tdType t == 3
    else decide (tdType t ≤ 2) && (coreList s p).all (fun c => tileTag (coreAt s c.2) code == tdType t))

/-- The effect of SEQ.ST (R244, R246): tile rows ascending within a core, cores ascending. -/
def seqSt (p : PartId) (d : Bytes) (s : State) : State :=
  match useTd s p d 26 true (storeSuits s p (d8 d 24)), useTdOpt s p d 28 false isIndex with
  | .error e, _ => cmdFail p 3 d e s
  | _, .error e => cmdFail p 3 d e s
  | .ok td, .ok ix => finish p 3 d (eachUntil (storeTileRow p d td ix) (coreRows s p (d8 d 25)) s)

-- Tile operations (R241 to R243)

/-- A tile at zero: every row, its tag and its row poison bits. -/
def zeroTile (c : Nat) (q : CoreSt) : CoreSt :=
  { q with
    t := if isT c then tabClear (4096 * c) (4096 * (c + 1)) q.t else q.t
    a := if isA c then tabClear (4096 * (c - 64)) (4096 * (c - 63)) q.a else q.a
    tags := if isT c then tabClear c (c + 1) q.tags else q.tags
    rowPoison := tabClear (64 * c) (64 * (c + 1)) q.rowPoison }

/-- The effect of SEQ.ZERO (R242): every row, the tag and the row poison bits. -/
def seqZero (p : PartId) (d : Bytes) (s : State) : State := cmdDone p 3 (onCores p (zeroTile (d8 d 24)) s)

/-- One row of SEQ.MMA on a core: the exact sum of 64 products and one rounding (R241). -/
def mmaRow (acc x w i : Nat) (transposed : Bool) (q : CoreSt) : CoreSt :=
  let xs := rowOf q x i
  let ws := (List.range 64).map (rowOf q w)
  let col (j : Nat) : List FVal := if transposed then ws.getD j [] else ws.map (fun r => r.getD j .nan)
  let old := tileRow q acc i
  let new := (List.range 64).map (fun j => fp32 (sumF [decode32 (old.getD j 0), sumF (List.zipWith mulF xs (col j))]))
  let wBad := (List.range 64).any (rowBad q w)
  setRowBad acc i (rowBad q acc i || rowBad q x i || wBad) (setTileRow acc i new q)

/-- The first rows of a tile, in order. -/
def tileRows (n : Nat) (f : Nat → CoreSt → CoreSt) (q : CoreSt) : CoreSt := (List.range n).foldl (fun q i => f i q) q

/-- The effect of SEQ.MMA (R240, R241). -/
def seqMma (p : PartId) (d : Bytes) (s : State) : State :=
  let n := (coreList s p).length
  let s := onCores p (tileRows (d8 d 27) (fun i => mmaRow (d8 d 24) (d8 d 25) (d8 d 26) i (bitOf (d8 d 28) 0))) s
  cmdDone p 3 (cntPart64 0x000E0008 (n * d8 d 27 * 4096) p s)

/-- One row of SEQ.ACT: the function of each element (R242, R243). -/
def actRow (dst src func i : Nat) (q : CoreSt) : CoreSt := putVec dst i ((rowWords q src i).map (actF32 func)) (rowBad q src i) q

/-- One row of SEQ.MUL: the products of the elements (R242). -/
def mulRow (dst a b i : Nat) (q : CoreSt) : CoreSt :=
  putVec dst i (List.zipWith mulF32 (rowWords q a i) (rowWords q b i)) (rowBad q a i || rowBad q b i) q

/-- One row of SEQ.CVT: a row of an accumulator in the tile's own format (R242). -/
def cvtRow (dst src i : Nat) (q : CoreSt) : CoreSt := putVec dst i (tileRow q src i) (rowBad q src i) q

/-- The first tile operand, by its offset, that the two forms of R242 do not allow. -/
def vecFault (s : State) (p : PartId) (d : Bytes) (offs : List Nat) : Option CmdErr :=
  (offs.find? (fun o => !vecOperand s p (d8 d o))).map badOperand

/-- The effect of SEQ.ACT (R242, R243). -/
def seqAct (p : PartId) (d : Bytes) (s : State) : State :=
  match vecFault s p d [24, 25] with
  | some e => cmdFail p 3 d e s
  | none => cmdDone p 3 (onCores p (tileRows (d8 d 27) (actRow (d8 d 24) (d8 d 25) (d8 d 26))) s)

/-- The effect of SEQ.MUL (R242). -/
def seqMul (p : PartId) (d : Bytes) (s : State) : State :=
  match vecFault s p d [24, 25, 26] with
  | some e => cmdFail p 3 d e s
  | none => cmdDone p 3 (onCores p (tileRows (d8 d 27) (mulRow (d8 d 24) (d8 d 25) (d8 d 26))) s)

/-- Scale one row of one core by its weight (R242). -/
def scaleTileRow (p : PartId) (d : Bytes) (td : Nat × Bytes) (x : Nat × CoreId × Nat) (s : State) : Except CmdErr State :=
  let (_, c, r) := x
  let k := (relValue (getStream s p 3) (d8 d 28) (d32 d 32) + r) % 2 ^ 32
  if k ≥ tdElems td.2 then .error { code := 0x0105, detail := td.1 }
  else
    let off := tdElemOff td.2 k
    let w := leNat (coreRead s p c (tdSpace td.2) off 4)
    let bad := coreBad s p c (tdSpace td.2) off 4
    .ok (onCore c (fun q => putVec (d8 d 24) r ((rowWords q (d8 d 25) r).map (fun x => mulF32 x w)) (rowBad q (d8 d 25) r || bad) q)
      (touch p 3 (dTag d) (tdSpace td.2) off 4 s))

/-- The effect of SEQ.SCALE (R242). -/
def seqScale (p : PartId) (d : Bytes) (s : State) : State :=
  match vecFault s p d [24, 25] with
  | some e => cmdFail p 3 d e s
  | none => match useTd s p d 26 false (fun t => tdType t == 3) with
    | .error e => cmdFail p 3 d e s
    | .ok td => finish p 3 d (eachUntil (scaleTileRow p d td) (coreRows s p (d8 d 36)) s)

/-- The effect of SEQ.CVT (R242). -/
def seqCvt (p : PartId) (d : Bytes) (s : State) : State :=
  cmdDone p 3 (onCores p (tileRows (d8 d 26) (cvtRow (d8 d 24) (d8 d 25))) s)

-- Expert passes (R215, R247)

/-- The pass's read of the expert's weights: its charge and its records (R254, R329). -/
def touchWeights (p : PartId) (tag : Nat) (m : Model) (layer expert : Nat) (s : State) : State :=
  let (base, sz, _) := weightBase s p m layer expert
  touch p 3 tag 0 base (3 * sz) s

/-- One row of a SEQ.EXPERT: its input, its weight and its output; `work` where the ECC has found a working word of the pass bad: whether
it was a word of this row is a free value (R236). DEDUCED: notes/assumptions/16.md; DESIGN CHOICE: notes/assumptions/37.md. -/
def expertRow (p : PartId) (d : Bytes) (m : Model) (work : Bool) (rows out : Nat × Bytes) (ix gate : Option (Nat × Bytes)) (i : Nat) (s : State) : Except CmdErr State :=
  let k := (relValue (getStream s p 3) (d8 d 36) (d32 d 40) + i) % 2 ^ 32
  let input : Except CmdErr (Option Nat) := match ix with
    | none => if k ≥ tdOuter rows.2 then .error { code := 0x0105, detail := rows.1 } else .ok (some k)
    | some x => rowAt s p x k (tdOuter rows.2)
  match input with
  | .error e => .error e
  | .ok row =>
    if k ≥ tdOuter out.2 then .error { code := 0x0105, detail := out.1 }
    else if gate.any (fun g => k ≥ tdElems g.2) then .error { code := 0x0105, detail := (gate.map (·.1)).getD 0 }
    else
      let n := 2 * m.dmodel
      let x := match row with | some r => spaceRead s p (tdSpace rows.2) (tdRow rows.2 r) n | none => List.replicate n 0
      let bad := (match row with | some r => spacePoisoned s p (tdSpace rows.2) (tdRow rows.2 r) n | none => false) ||
        weightsPoisoned s p m (d16 d 28) (d16 d 30) || gate.any (fun g => spacePoisoned s p (tdSpace g.2) (tdElemOff g.2 k) 4)
      let (v, s) := if work then takeFree s else (0, s)
      let bad := bad || v % 2 == 1
      let w := match gate with | some g => tdWord s p g.2 k | none => 0x3F800000
      let s := match row with | some r => touch p 3 (dTag d) (tdSpace rows.2) (tdRow rows.2 r) n s | none => s
      let s := match gate with | some g => touch p 3 (dTag d) (tdSpace g.2) (tdElemOff g.2 k) 4 s | none => s
      let y := scaleRow w (passRow s p m (d16 d 28) (d16 d 30) x)
      let h := if d16 d 30 = 0xFFFF then m.homeHidden else m.hidden
      let s := cntPart64 0x000E0008 (3 * m.dmodel * h) p (if nonFinite y then cntPart 0x000E0024 1 p s else s)
      let s := spaceWrite p (tdSpace out.2) (tdRow out.2 k) (halvesBytes y) s
      .ok (if bad then spaceMark p (tdSpace out.2) (tdRow out.2 k) n s else s)

/-- CORE cycles in which a micro-operation executed: how many is timing, so the count rises by a free amount (R255).
DEDUCED: notes/assumptions/71.md. -/
def seqBusy (p : PartId) (s : State) : State :=
  let (n, s) := takeFree s
  cntPart64 0x000E0010 n p s

/-- The CORE cycles of a pass, those that waited for weights among them, as `seqBusy` counts them (R254, R255).
DEDUCED: notes/assumptions/71.md. -/
def passCycles (p : PartId) (s : State) : State :=
  let (n, s) := takeFree (seqBusy p s)
  cntPart64 0x000E0018 n p s

/-- A pass of the partition's SEQ begins (R255). -/
def beginPass (p : PartId) (x : Pass) (s : State) : State := updPart s p (fun q => { q with pass := some x, seqRan := true })

/-- The lead cluster of a stand-alone SEQ.EXPERT: the lowest-numbered cluster of the job (R237). -/
def lowLead (s : State) (p : PartId) : Nat := ((allClusters.find? (fun c => bitOf (getPart s p).job.clusters c.val)).getD 0).val

/-- The effect of SEQ.EXPERT (R215, R237): its pass runs until the command completes. The output row and gate weight of
position i are those of ROW0 + i (notes/assumptions/16.md). -/
def seqExpert (p : PartId) (work : Bool) (d : Bytes) (s : State) : State :=
  match jobModel (getPart s p) with
  | none => cmdFail p 3 d (badOperand 0) s
  | some m =>
    let suits (t : Bytes) : Bool := tdType t == 0 && tdRank t == 1 && tdDim t 0 == m.dmodel && tdSpace t != 3
    if !residentExpert s p m (d16 d 28) (d16 d 30) then cmdFail p 3 d (badOperand 30) s
    else match useTd s p d 24 false suits, useTdOpt s p d 26 false (fun t => isIndex t && tdSpace t != 3), useTd s p d 32 true suits,
        useTdOpt s p d 34 false (fun t => tdType t == 3 && tdSpace t != 3) with
    | .error e, _, _, _ => cmdFail p 3 d e s
    | _, .error e, _, _ => cmdFail p 3 d e s
    | _, _, .error e, _ => cmdFail p 3 d e s
    | _, _, _, .error e => cmdFail p 3 d e s
    | .ok rows, .ok ix, .ok out, .ok gate =>
      let s := dropClusters p s
      let s := beginPass p { expert := d16 d 30, layer := d16 d 28, model := m.handle, lead := lowLead s p, alone := true } s
      let s := passCycles p (touchWeights p (dTag d) m (d16 d 28) (d16 d 30) s)
      finish p 3 d (eachUntil (expertRow p d m work rows out ix gate) (List.range (d16 d 38)) s)

/-- The pass of a SEQ.EXPERT ends with its command (R255). -/
def endAlone (p : PartId) (s : State) : State :=
  match (getPart s p).pass with
  | some x => if x.alone then
      dropClusters p (cntPart 0x000E0020 1 p (updPart s p (fun q => { q with pass := none })))
    else s
  | none => s

end Sys2Proof.Machine
end

