-- ==== Sys2Proof/Machine/Layer.lean ====
section
/-!
DEFINITION. Machine/Layer.lean: the layer step inside CONJ.STEP (spec/08 R209 to R213): dispatch, close markers, closure
(spec/01 R19, R20, spec/10 R271 to R277), expert passes (spec/11 R295, spec/12 R322), completion, the deadline monitor
(spec/16 R418 to R423), probes and the serving of a torn-down step (spec/18 R469 to R471).
-/
namespace Sys2Proof.Machine
open Sys2Proof

-- Completion (R211, R614)

/-- Rows kept for a step. -/
def stepRows (s : State) (p : PartId) (c : Conj) : List RowRec := (getPart s p).rows.filter (ofStep c)
/-- Are all output rows of the step's slot range rounded? -/
def stepRounded (s : State) (p : PartId) (c : Conj) : Bool := (List.range c.count).all (fun i => (getSlot s p (c.first + i)).rounded)
/-- Does a pass of the step run? DEDUCED: notes/assumptions/39.md. -/
def passOf (s : State) (p : PartId) (c : Conj) : Bool := match (getPart s p).pass with | some x => x.step == c.step && x.layer == c.layer && !x.alone | none => false

/-- Is the CONJ.STEP complete (R211; R491 for a replayed job)? -/
def conjDone (s : State) (p : PartId) (c : Conj) : Bool :=
  stepRounded s p c && (if (getPart s p).job.replayed then true else c.closed && !passOf s p c && (stepRows s p c).isEmpty)

/-- The stages of R614 that end a step, each traced once. -/
def traceEnd (p : PartId) (s : State) : State :=
  match (getPart s p).conj with
  | none => s
  | some c =>
    let s := if c.ran && !c.traced5 && c.closed && !passOf s p c && (stepRows s p c).isEmpty then
        traceStage p 5 (updConj p (fun c => { c with traced5 := true }) s) else s
    if c.count > 0 && !c.traced6 && stepRounded s p c then traceStage p 6 (updConj p (fun c => { c with traced6 := true }) s) else s

/-- End the CONJ.STEP when it is complete; a torn-down step is served no longer once closed with no row left (R471). -/
def conjSettle (p : PartId) (s : State) : State :=
  let s := traceEnd p s
  let s := match (getPart s p).served with
    | some d => if d.closed && !passOf s p d && (stepRows s p d).isEmpty then updPart s p (fun q => { q with served := none }) else s
    | none => s
  match (getPart s p).conj, (getStream s p 2).exec with
  | some c, some e => if e.phase == .running && conjDone s p c then cmdDone p 2 s else s
  | _, _ => s

-- Closure (R19, R274)

/-- Does the step hold a close marker from every participant? -/
def closureReady (s : State) (c : Conj) : Bool := c.closeSent && c.parts.all (fun d => d == ownId s || c.closes.any (fun x => x.dev == d))

/-- Clauses sent in the step to a replica of this device, by the close markers and the own count. -/
def closeCount (s : State) (c : Conj) (e k : Nat) : Nat :=
  let own := (c.sent.filter (fun x => x.1 == ownId s && x.2.1 == e && x.2.2.1 == k)).map (fun x => x.2.2.2)
  let far := c.closes.flatMap (fun x => (x.counts.filter (fun y => y.1 == e && y.2.1 == k)).map (fun y => y.2.2))
  (own ++ far).foldl (· + ·) 0

/-- In Still-Air a computed row of a layer that drops its overflow is withheld until closure (R275). -/
def withheld (r : RowRec) : Bool := r.stage == .held && !r.spec && !r.heldD.isEmpty

/-- A row that Still-Air judges: token-choice, not re-issued, an expert's. -/
def judged (s : State) (p : PartId) (r : RowRec) : Bool := !r.reissue && r.expert != 0xFFFF && tokenChoice s p r.layer

/-- Judge one replica at closure: the C highest keys, lower tags first among equals, are admitted (R274). -/
def judgeReplica (p : PartId) (c : Conj) (e k : Nat) (s : State) : State :=
  let rows := (stepRows s p c).filter (fun r => judged s p r && r.expert == e && r.cluster == k)
  let cap := capacityOf s p c.layer
  if closeCount s c e k ≤ cap then s
  else
    let lt (a b : RowRec) : Bool := lt32 b.key a.key || (!lt32 a.key b.key && decide (a.tag < b.tag))
    eachOf ((sortBy lt rows).drop cap) (fun r s => overflowRow p r s) s

/-- What Still-Air held back goes out: results withheld, and the records of rows already served. -/
def releaseJudged (p : PartId) (c : Conj) (s : State) : State :=
  eachOf ((stepRows s p c).filter (fun r => r.stage == .held && !r.spec)) (fun r s =>
    let s := dropRow p r.tag s
    if r.heldD.isEmpty then s else returnResult p r r.tag r.weight r.heldD r.heldPoison s) s

/-- Judge the step at closure in a Still-Air job. -/
def judgeStep (p : PartId) (c : Conj) (s : State) : State :=
  let reps := ((stepRows s p c).filter (judged s p)).map (fun r => (r.expert, r.cluster))
  releaseJudged p c (eachOf reps.eraseDups (fun x s => judgeReplica p c x.1 x.2 s) s)

/-- Close the clause set of the executing step, and of a torn-down one, when every close marker has come. -/
def tryClose (p : PartId) (s : State) : State :=
  let s := match (getPart s p).conj with
    | some c => if c.closed || !closureReady s c then s
      else
        let s := traceStage p 4 (updConj p (fun c => { c with closed := true, closedAt := dtNow s }) s)
        if (getPart s p).job.stillAir then judgeStep p c s else s
    | none => s
  let s := match (getPart s p).served with
    | some c => if c.closed || !closureReady s c then s
      else
        let s := updPart s p (fun q => { q with served := q.served.map (fun c => { c with closed := true }) })
        if (getPart s p).job.stillAir then judgeStep p c s else s
    | none => s
  conjSettle p s

/-- Send the close markers of the step (R19, R210); a replayed step sends none (R491). -/
def closeMarkers (p : PartId) (s : State) : State :=
  match (getPart s p).conj with
  | none => s
  | some c =>
    if c.closeSent then s
    else if (getPart s p).job.replayed then tryClose p (updConj p (fun c => { c with closeSent := true }) s)
    else
      let s := eachOf c.parts (fun d s => sendClose p c d s) s
      tryClose p (traceStage p 3 (updConj p (fun c => { c with closeSent := true }) s))

/-- A member is lost to the step (R403): its close marker is not awaited, its clauses are re-issued (R466). -/
def loseMember (p : PartId) (d : DevId) (s : State) : State :=
  let s := updConj p (fun c => { c with parts := c.parts.filter (· ≠ d), probes := c.probes.filter (fun x => x.1 != d) }) s
  let s := updPart s p (fun q => { q with served := q.served.map (fun c => { c with parts := c.parts.filter (· ≠ d) }) })
  tryClose p (reissueTo p d s)

-- The deadline monitor (R418 to R422)

/-- Does the job have checkpoints? -/
def hasDeadline (s : State) (p : PartId) : Bool := (getPart s p).job.deadline != 0

/-- The checkpoints of the executing step whose interval the next completion record ends: model, dispatch, DT (R420). -/
def stepChecks (s : State) (p : PartId) : List (Nat × Bool × Nat) :=
  match (getPart s p).conj with
  | none => []
  | some c =>
    if !hasDeadline s p || c.latch then []
    else
      (if c.markS then [] else c.checkS.toList.map (fun t => ((getPart s p).job.model, false, t))) ++
        (if c.markD then [] else c.checkD.toList.map (fun t => ((getPart s p).job.model, true, t)))

/-- EST of R420. -/
def dlmEst (s : State) (p : PartId) (isD : Bool) : Nat :=
  let l := match jobModel (getPart s p) with | some m => if isD then m.estD else m.estS | none => []
  if bitOf (regPart s p 0x00020074) 0 || l.isEmpty then regPart s p (if isD then 0x00020080 else 0x0002007C) else l.foldl max 0


/-- The undispatched remote clauses of the step become home clauses. -/
def moveLate (p : PartId) (s : State) : State :=
  match (getPart s p).conj with
  | none => s
  | some c =>
    eachOf (c.clauses.filter (fun x => x.stage == .sent && x.dev != ownId s && x.expert != 0xFFFF && rowWaiting s x.tag))
      (fun x s => lateHome p x (withdrawRow p x s)) s

/-- DEADLINE_MISS, at most once a job (R422). -/
def deadlineMiss (p : PartId) (st : StreamId) (tag : Nat) (s : State) : State :=
  let j := (getPart s p).job
  if j.missRecorded then s
  else record p { code := 0x0502, cls := .corrected, source := st.val, tag := tag, detail0 := j.deadline }
    (updJob s p (fun j => { j with missRecorded := true }))

/-- A projection at a checkpoint, and the latch (R420, R421, R422). -/
def projectCheck (p : PartId) (isD : Bool) (s : State) : State :=
  match (getPart s p).conj with
  | none => s
  | some c =>
    let j := (getPart s p).job
    let proj := (dtNow s + dlmEst s p isD + regPart s p 0x00020078) % 2 ^ 64
    let late := j.short || decide (proj > j.deadline)
    let s := updJob s p (fun j => { j with
      lastProj := proj
      lastCheck := if isD then 2 else 1
      lateS := if isD then j.lateS else late
      lateD := if isD then late else j.lateD })
    if !late then s
    else
      let s := deadlineMiss p 2 c.tag (cntPart 0x00020088 1 p s)
      moveLate p (updJob (updConj p (fun c => { c with latch := true }) s) p (fun j => { j with latch := true }))

-- Dispatch (R210)

/-- The epoch of a clause's resolution: of the SRT.BUCKET that resolved it, or of now (R37). -/
def clauseEpoch (s : State) (p : PartId) (td : Bytes) (pos rank : Nat) (r : Bytes) : Nat :=
  if (recResolved r).isNone then ownEpoch s else (tabGet none (getPart s p).resolved (clauseOff td pos rank)).getD (ownEpoch s)

/-- Dispatch one clause of a ready position: its record, the count and the packet, or a home clause. -/
def dispatchClause (p : PartId) (m : Model) (pos : Nat) (r : Bytes) (s : State) : State :=
  match (getPart s p).conj with
  | none => s
  | some c =>
    let slot := c.first + pos
    let rank := recRank r
    let replayed := (getPart s p).job.replayed
    if bitOf (getSlot s p slot).seen rank || c.clauses.any (fun x => x.slot == slot && x.rank == rank && x.stage == .sent) then s
    else
      let x : Clause := {
        tag := mkTag (ownId s) slot rank (c.step % 64) p.val false c.layer
        pos := pos, slot := slot, rank := rank, expert := recExpert r, weight := recWeight r, key := recKey r }
      if recExpert r = 0xFFFF then issueClause p { x with dev := ownId s, cluster := homeLead s p } s
      else match (if (recResolved r).isSome then none else mapPoison s p m c.layer (recExpert r)) with
      | some a => cmdFail p 2 (execDesc s p 2) { code := 0x0302, addr := a } s
      | none => match clauseTarget s p m c.layer slot r with
      | none => homeClause p x 3 s
      | some (d, k) =>
        let s := clauseWrite p c.clauseTd pos rank (r.take 12 ++ toLe 4 (leAt r 12 4 ||| resWord d k)) s
        let e := clauseEpoch s p c.clauseTd pos rank r
        if c.latch && d ≠ ownId s then lateHome p x s
        else issueClause p { x with dev := d, cluster := k, reissue := replayed, epoch := e } (cntPart 0x000D0024 (b2n replayed) p s)

/-- Sort, resolve and send the clauses of the ready positions from the first not taken up to `rd`. -/
def dispatchTo (p : PartId) (rd : Nat) (s : State) : State :=
  match (getPart s p).conj, jobModel (getPart s p) with
  | some c, some m =>
    let d := execDesc s p 2
    match ctlFault s p (tdSpace c.clauseTd) (tdRow c.clauseTd c.taken) (256 * (rd - c.taken)) with
    | some e => cmdFail p 2 d e s
    | none =>
      let cs := (listClauses s p c.clauseTd rd).filter (fun x => x.1 ≥ c.taken)
      match cs.find? (fun x => recExpert x.2 != 0xFFFF && recExpert x.2 ≥ m.experts) with
      | some (pos, r) => cmdFail p 2 d { code := 0x0106, addr := indexEntry pos (recRank r), detail := recExpert r } s
      | none =>
        let keyed := sortBy (fun a b => decide (a.1 < b.1)) (cs.map (fun x => (bucketKey s p m c.layer (c.first + x.1) x.2, x)))
        let s := cntPart64 0x000C0008 cs.length p (updConj p (fun c => { c with taken := rd }) s)
        eachOf keyed (fun e s => dispatchClause p m e.2.1 e.2.2 s) s
  | _, _ => s

/-- Has RTE completed the selection, or the assignment after the ballot, of the token at a position of the step (R16, R323)? -/
def selected (s : State) (p : PartId) (c : Conj) (pos : Nat) : Bool :=
  (getSlot s p (c.first + pos)).held && (getSlot s p (c.first + pos)).active && (getSlot s p (c.first + pos)).layer == c.layer

/-- Positions ready: those that the feed counter lets go (R210), up to the first whose token is not selected (R16).
DEDUCED: notes/assumptions/96.md. -/
def readyCount (s : State) (p : PartId) (c : Conj) : Nat :=
  ((List.range (if c.feedEn then min c.count (sycGet s p c.feedSyc) else c.count)).takeWhile (selected s p c)).length

/-- Carry the step on: dispatch what is ready, take the checkpoints, send the close markers (R210, R419). A job with a
deadline waits at each checkpoint for DEADLINE_CHECKPOINT. -/
def conjAdvance (p : PartId) (s : State) : State :=
  match (getPart s p).conj with
  | none => s
  | some c =>
    let rd := readyCount s p c
    if c.closeSent then s
    else if rd < c.count then (if rd > c.taken then conjSettle p (dispatchTo p rd s) else s)
    else if hasDeadline s p && c.checkS.isNone then s
    else
      let s := if c.checkS.isSome then s else traceStage p 1 (updConj p (fun c => { c with checkS := some (dtNow s) }) s)
      let s := if c.taken < c.count then dispatchTo p c.count s else s
      match (getPart s p).conj with
      | none => s
      | some c =>
        if hasDeadline s p && c.checkD.isNone then conjSettle p s
        else
          let s := if c.checkD.isSome then s else traceStage p 2 (updConj p (fun c => { c with checkD := some (dtNow s) }) s)
          closeMarkers p s

/-- DEADLINE_CHECKPOINT (R419, R420): checkpoint S once every position is ready, checkpoint D once every row is queued. -/
def execDeadlineCheckpoint (p : PartId) (dispatch : Bool) (s : State) : Out :=
  match (getPart s p).conj with
  | none => .next s
  | some c =>
    if !hasDeadline s p || c.closeSent || readyCount s p c < c.count then .next s
    else if !dispatch && c.checkS.isNone then
      .next (conjAdvance p (projectCheck p false (traceStage p 1 (updConj p (fun c => { c with checkS := some (dtNow s) }) s))))
    else if dispatch && c.checkS.isSome && c.checkD.isNone then
      .next (conjAdvance p (projectCheck p true (traceStage p 2 (updConj p (fun c => { c with checkD := some (dtNow s) }) s))))
    else .next s

-- CONJ.STEP (R209, R213)

/-- The participants of a step: the members of its communicator, or this device alone, as in every step of a model in local
dispatch mode (R42); none where R213 faults. -/
def conjParts (s : State) (p : PartId) (m : Model) (comm : Nat) : Option (List DevId) :=
  if (getPart s p).job.replayed then some [ownId s]
  else if comm = 0xFF then (if m.localDispatch then some [ownId s] else none)
  else match getComm s comm with
  | some c => if c.part = p ∧ c.state ≠ .creating ∧ c.members.contains (ownId s) then
      some (if m.localDispatch then [ownId s] else c.members.filter (fun d => !c.lost.contains d)) else none
  | none => none

/-- A step starts: its slots take the step's EPOCH, rows and close markers that came early join it (R212, R323). -/
def startConj (p : PartId) (d td : Bytes) (parts : List DevId) (s : State) : State :=
  let first := relValue (getStream s p 2) (d8 d 28) (d16 d 24)
  let c : Conj := {
    tag := dTag d, first := first, count := d16 d 26, clauseTd := td, feedSyc := d16 d 34 % 2 ^ 14, feedEn := bitOf (d8 d 37) 0
    comm := d8 d 36, parts := parts, step := d16 d 38, layer := d16 d 40 }
  let mine (x : EarlyClose) : Bool := x.step == c.step && x.layer == c.layer && parts.contains x.dev
  let c := { c with closes := ((getPart s p).closes.filter mine).map (fun x => { dev := x.dev, counts := x.counts }) }
  let c := if (getPart s p).job.replayed then { c with closed := true } else c
  let s := updPart s p (fun q => { q with conj := some c, closes := q.closes.filter (fun x => !mine x) })
  let s := eachOf (List.range c.count) (fun i s => updSlot p (first + i) (fun r =>
    if r.active && r.layer == c.layer then { r with epoch := c.step % 64 } else r) s) s
  if (getPart s p).job.replayed then s
  else eachOf (sortBy (fun a b => earlier (admitKey a) (admitKey b)) (stepRows s p c)) (fun r s => admitRow p r s) s

/-- CONJ.STEP (R209 to R213). -/
def execConjStep (p : PartId) (s : State) : Out :=
  runCmd p 2 0x8001 (fun d s =>
    match jobModel (getPart s p) with
    | none => cmdFail p 2 d (badOperand 0) s
    | some m =>
      match conjParts s p m (d8 d 36) with
      | none => cmdFail p 2 d (badOperand 36) s
      | some parts =>
        match useTd s p d 32 true (isClauseList (d16 d 26)) with
        | .error e => cmdFail p 2 d e s
        | .ok td => conjSettle p (conjAdvance p (startConj p d td.2 parts s))) s

-- Expert passes (R20, R272, R275, R295, R322)

/-- Free hold entries of a partition (R295). -/
def holdFree (s : State) (p : PartId) : Nat :=
  let cap := match modelOf (getPart s p) (getPart s p).curModel with | some m => m.holdRows | none => 0
  cap - ((getPart s p).rows.filter (fun r => r.spec && (r.stage == .computing || r.stage == .held))).length

/-- Is a row kept now fit for a pass: its step executes or is still served, or it is re-issued (R20, R328, R470)? -/
def servable (s : State) (p : PartId) (r : RowRec) : Bool := r.stage == .stored && (r.reissue || (stepOf s p r).isSome)

/-- Keep at most `n` speculative rows of a list. -/
def capSpec : Nat → List RowRec → List RowRec
  | _, [] => []
  | n, r :: t => if !r.spec then r :: capSpec n t else match n with | 0 => capSpec 0 t | k + 1 => r :: capSpec k t

/-- Rows ready for a pass of an expert, of the layer and step of row `h`: admitted rows first, overflow rows when none is left
(R275). -/
def groupRows (s : State) (p : PartId) (expert : Nat) (h : RowRec) : List RowRec :=
  let same := (getPart s p).rows.filter (fun r => r.expert == expert && servable s p r && r.layer == h.layer &&
    (stepOf s p r).map (·.step) == (stepOf s p h).map (·.step))
  let adm := same.filter (fun r => !r.overflow)
  capSpec (holdFree s p) (if adm.isEmpty then same else adm)

/-- The expert with the most stored rows, or with the most Ballast rows; ties to the lower number. -/
def fullest (s : State) (p : PartId) (ballast : Bool) : Option Nat :=
  let rs := (getPart s p).rows.filter (fun r => r.stage == .stored && (!ballast || r.ballast))
  let n (e : Nat) : Nat := (rs.filter (fun r => r.expert == e)).length
  (rs.map (·.expert)).eraseDups.foldl (fun a e => match a with
    | none => some e
    | some b => if n e > n b || (n e == n b && decide (e < b)) then some e else some b) none

/-- May a pass for the expert start now (R20, R272, R322, R328, R470)? -/
def passDue (s : State) (p : PartId) (expert : Nat) (rs : List RowRec) : Bool :=
  let step := match rs.head? with | some r => stepOf s p r | none => none
  decide (rs.length ≥ 64) || (match step with | some c => c.closed | none => false) ||
    (storeFull s p && fullest s p false == some expert) ||
    (ballastFull s p && fullest s p true == some expert)

/-- The rows of an expert for which a pass is due, of one layer and step: those of the executing step first, those of no executing
step with them (R20). -/
def readyRows (s : State) (p : PartId) (expert : Nat) : List RowRec :=
  let all := (getPart s p).rows.filter (fun r => r.expert == expert && servable s p r)
  let cur := all.filter (fun r => match (getPart s p).conj with | some c => ofStep c r | none => false)
  match (cur ++ all).find? (fun h => !(groupRows s p expert h).isEmpty && passDue s p expert (groupRows s p expert h)) with
  | some h => groupRows s p expert h
  | none => []

/-- Start a pass over rows (R20): they leave the row store and the Ballast, and speculative ones take hold entries. Its reads of the
weights and of Ballast rows are charged (R415). -/
def startPass (p : PartId) (m : Model) (expert : Nat) (rs : List RowRec) (reissue : Bool) (s : State) : State :=
  match rs.head? with
  | none => s
  | some h =>
    let ballast := ((rs.filter (·.ballast)).map (fun r => r.row.length)).foldl (· + ·) 0
    let s := charge p 0 (3 * (weightBase s p m h.layer expert).2.1 + ballast) (hbmGo p 7 s)
    let lead := if expert = 0xFFFF then homeLead s p else h.cluster
    let s := updRows p (fun l => l.map (fun r => if rs.any (fun x => x.tag == r.tag) then { r with stage := .computing } else r)) s
    let s := beginPass p { expert := expert, layer := h.layer, step := h.step, model := m.handle, lead := lead, tags := rs.map (·.tag), reissue := reissue } s
    updConj p (fun c => if ofStep c h then { c with ran := true } else c) s

/-- The model whose weights serve re-issued rows: the job's, else the current one, else the first resident one that holds the expert (R470).
DEDUCED: notes/assumptions/39.md. -/
def serveModel (s : State) (p : PartId) (layer expert : Nat) : Option Model :=
  let q := getPart s p
  jobModel q <|> modelOf q q.curModel <|> q.models.find? (fun m => residentExpert s p m layer expert)

/-- The layer of a list of rows. -/
def headLayer (rs : List RowRec) : Nat := match rs.head? with | some r => r.layer | none => 0

/-- A pass of an expert starts when it is due (R20) and the HBM regulator holds credit for its weights (R417). One pass of a
partition runs at a time (R254). DEDUCED: notes/assumptions/22.md. -/
def passStart (p : PartId) (expert : Nat) (s : State) : State :=
  let rs := readyRows s p expert
  match (getPart s p).pass, jobModel (getPart s p) with
  | none, some m =>
    if rs.isEmpty || !residentExpert s p m (headLayer rs) expert then s
    else if !hasCredit s p 0 then hbmHold p 7 s
    else startPass p m expert (rs.take 64) false (dropClusters p s)
  | _, _ => s

/-- A pass of rows re-issued for a step that does not execute here (R109, R470): 64 rows, or 2 µs after the latest. -/
def reissuePass (p : PartId) (expert : Nat) (s : State) : State :=
  let due (rs : List RowRec) : Bool := decide (rs.length ≥ 64) || rs.all (fun r => decide (dtNow s ≥ r.dt + 2000))
  let rs := (getPart s p).rows.filter (fun r => r.expert == expert && r.reissue && r.stage == .stored && (stepOf s p r).isNone)
  let rs := match rs.head? with | some h => rs.filter (fun r => r.layer == h.layer) | none => []
  match (getPart s p).pass, serveModel s p (headLayer rs) expert with
  | none, some m =>
    if rs.isEmpty || !due rs || !residentExpert s p m (headLayer rs) expert then s
    else if !hasCredit s p 0 then hbmHold p 7 s
    else startPass p m expert (rs.take 64) true (dropClusters p s)
  | _, _ => s

/-- One row of a pass that ends: held with the verdict that came meanwhile, kept back for Still-Air's judgement, or returned (R247,
R275, R295, R296). -/
def endRow (p : PartId) (m : Model) (bad : Bool) (tag : Nat) (s : State) : State :=
  match (getPart s p).rows.find? (fun r => r.tag == tag && r.stage == .computing) with
  | none => s
  | some r =>
    let d := passRow s p m r.layer r.expert r.row
    let poison := r.poison || bad
    if r.spec then
      cntPart 0x000A0040 1 p (updRow p tag (fun r => { r with stage := .held, heldD := d, heldPoison := poison }) s)
    else
      let s := if nonFinite (scaleRow r.weight d) then cntPart 0x000E0024 1 p s else s
      let judge := (getPart s p).job.stillAir && judged s p r && (match stepOf s p r with | some c => !c.closed | none => false)
      if judge && dropsOverflow s p r.layer then updRow p tag (fun r => { r with stage := .held, heldD := d, heldPoison := poison }) s
      else if judge then
        returnResult p r r.tag r.weight d poison (updRow p tag (fun r => { r with stage := .held, heldD := [] }) s)
      else returnResult p r r.tag r.weight d poison (dropRow p tag s)

/-- The verdict that came for a row during its pass takes effect, once every row of the pass holds what the pass met (R299, R304). -/
def applyKept (p : PartId) (tag : Nat) (s : State) : State :=
  match ((getPart s p).rows.find? (fun r => r.tag == tag && r.spec && r.stage == .held)).bind (·.verdict) with
  | some (confirm, rank, weight) => applyVerdict p tag confirm rank weight s
  | none => s

/-- The rows that a pass computes. -/
def passRows (s : State) (p : PartId) (x : Pass) : List RowRec := (getPart s p).rows.filter (fun r => x.tags.contains r.tag && r.stage == .computing)

/-- Are the rows of a pass speculative, all of them? -/
def passSpec (s : State) (p : PartId) (x : Pass) : Bool := !(passRows s p x).isEmpty && (passRows s p x).all (·.spec)

/-- The fault that the weights' poison leaves with the rows of a pass that are all speculative (R299). -/
def passFault (p : PartId) (m : Model) (x : Pass) (s : State) : State :=
  if passSpec s p x && weightsPoisoned s p m x.layer x.expert then
    let (base, sz, _) := weightBase s p m x.layer x.expert
    let g := (granules base (3 * sz)).find? (fun g => spacePoisoned s p 0 (g * Config.granule) Config.granule)
    holdFault p x.tags { code := 0x0302, cls := .deferred, source := 0xA, addr := (g.getD 0) * Config.granule } s
  else s

/-- The tag of the step that a pass serves. -/
def passTag (s : State) (p : PartId) (x : Pass) : Nat :=
  match (passRows s p x).head? with | some r => (match stepOf s p r with | some c => c.tag | none => 0) | none => 0

/-- What a pass's read of its expert's weights finds, and its counts (R20, R254, R299). -/
def passCharge (p : PartId) (m : Model) (x : Pass) (s : State) : State :=
  let n := (passRows s p x).length
  let allSpec := passSpec s p x
  let tag := passTag s p x
  let (base, sz, h) := weightBase s p m x.layer x.expert
  let s := if allSpec then s else noteUe p 2 tag 0 base (3 * sz) s
  cntPart 0x000E0020 1 p (cntPart64 0x000E0008 (n * 3 * m.dmodel * h) p (passCycles p s))

/-- A pass ends (R20): the weights' read, each row's result, then the step's completion. A fault that concerns speculative
rows alone is held with them (R299). -/
def passEnd (p : PartId) (s : State) : State :=
  match (getPart s p).pass, ((getPart s p).pass.bind (fun x => modelOf (getPart s p) x.model)) with
  | some x, some m =>
    let bad := weightsPoisoned s p m x.layer x.expert
    let s := eachOf x.tags (fun t s => endRow p m bad t s) (passCharge p m x (passFault p m x s))
    let s := eachOf x.tags (fun t s => applyKept p t s) s
    conjSettle p (dropClusters p (updPart s p (fun q => { q with pass := none })))
  | some _, none => updPart s p (fun q => { q with pass := none })
  | none, _ => s

-- Probes and torn-down steps (R469, R471)

/-- PROBE a device that a step waits for; the first PROBE's time is kept (R469). -/
def probeDev (p : PartId) (k : Comm) (d : DevId) (s : State) : State :=
  sendPiece d p { commId := k.id, kind := 7, op := 8, opSeq := k.opSeq }
    (updConj p (fun c => { c with
      probes := if c.probes.any (fun x => x.1 == d) then c.probes else c.probes ++ [(d, dtNow s)]
      heard := c.heard.filter (fun e => e.1 != d) ++ [(d, dtNow s)] }) s)

/-- Has 1 ms passed since closure without a contribution from the device or a PROBE to it (R109, R469)? -/
def longQuiet (c : Conj) (now : Nat) (d : DevId) : Bool :=
  decide (now ≥ max c.closedAt (((c.heard.find? (fun e => e.1 == d)).map (·.2)).getD 0) + 1000000)

/-- The other devices that hold clauses of a step. -/
def clauseDevs (s : State) (c : Conj) : List DevId :=
  ((c.clauses.filter (fun x => x.stage == .sent && x.dev != ownId s && x.expert != 0xFFFF)).map (·.dev)).eraseDups

/-- STEP_CLOSURE_PROBE (R469): past closure with the own passes ended, ask each device that still holds clauses and has been quiet
for 1 ms. -/
def execStepClosureProbe (p : PartId) (s : State) : Out :=
  match (getPart s p).conj with
  | none => .next s
  | some c =>
    if !c.closed || passOf s p c || !(stepRows s p c).isEmpty then .next s
    else
      match getComm s c.comm with
      | none => .next s
      | some k => .next (eachOf ((clauseDevs s c).filter (longQuiet c (dtNow s))) (probeDev p k) s)

/-- The serving of a torn-down step ends at its time (R109, R471). DEDUCED: notes/assumptions/42.md. -/
def serveEnd (p : PartId) (s : State) : State :=
  match (getPart s p).served with
  | none => s
  | some c =>
    if dtNow s < c.served.getD 0 then s
    else
    let s := eachOf (stepRows s p c) (fun r s => if r.spec then orphanRow p r s else dropRow p r.tag s) s
    updPart s p (fun q => { q with
      served := none
      pass := match q.pass with | some x => if x.step == c.step && x.layer == c.layer && !x.alone then none else some x | none => none })

-- Windows and aging (R413, R416)

/-- A regulator after `n` boundaries of windows of budget `b` (R416): a budget of 0 does not regulate. -/
def refill (n b : Nat) (r : Regulator) : Regulator :=
  if b = 0 then { r with stalled := false }
  else { credit := min (r.credit + (n * (b * 4096) : Nat)) (b * 4096 : Nat), stalled := false }

/-- The window that DT is in (R107). -/
def windowNow (s : State) : Nat := dtNow s / 10000
/-- Window boundaries passed since the last refill. DEDUCED: notes/assumptions/43.md. -/
def windowsDue (s : State) : Nat := windowNow s - s.time.window

/-- The budgets and weights of a commit have come into force (R118). -/
def regsDue (s : State) : Bool := match s.commit.nextRegs with | some (t, _) => decide (s.time.dt ≥ t) | none => false

/-- Every regulator of a partition after `n` window boundaries. -/
def refillPart (n : Nat) (p : PartId) (s : State) : State :=
  updPart s p (fun q => { q with regul := Vector.ofFn (fun i => refill n (budget s p i) q.regul[i]) })

/-- A waiting request at an aging: raised by one level for each complete 100 us it has waited, to at most HIGH (R413). -/
def agedReq (now pri : Nat) (w : WaitReq) : WaitReq :=
  { w with raises := max w.raises (min ((now - w.since) / 100000) (pri - 1)) }

/-- The requests that wait after an aging. -/
def agedReqs (now pri n : Nat) (l : List WaitReq) : List WaitReq := (keptReqs now n l).map (agedReq now pri)

/-- How many raises an aging makes. -/
def agedCount (now pri n : Nat) (l : List WaitReq) : Nat :=
  ((keptReqs now n l).map (fun w => (agedReq now pri w).raises - w.raises)).foldl (· + ·) 0

/-- A partition's queued packet after an aging. -/
def agedWait (p : PartId) (now pri : Nat) (w : Waiting) : Waiting :=
  if w.part = p then { w with raises := (agedReq now pri { since := w.since, raises := w.raises }).raises } else w

/-- How many raises an aging of queued packets makes. -/
def agedWaits (p : PartId) (now pri : Nat) (l : List Waiting) : Nat :=
  (l.map (fun w => (agedWait p now pri w).raises - w.raises)).foldl (· + ·) 0

/-- The queued packets of a partition, on links and in contexts, are raised as their age says (R413). -/
def agePackets (p : PartId) (s : State) : State :=
  let f := agedWait p (dtNow s) (currentPri s p)
  { s with
    net := { s.net with wait := s.net.wait.map f }
    tether := { s.tether with ctxs := s.tether.ctxs.map (fun (i, c) => (i, c.map (fun c => { c with queue := c.queue.map f }))) } }

/-- The raises that an aging of queued packets makes. -/
def packetRaises (s : State) (p : PartId) : Nat :=
  agedWaits p (dtNow s) (currentPri s p) s.net.wait +
    (s.tether.ctxs.map (fun e => match e.2 with | some c => agedWaits p (dtNow s) (currentPri s p) c.queue | none => 0)).foldl (· + ·) 0

/-- What waits for HBM credit, after an aging. -/
def agedHbm (now pri : Nat) (t : Tab (Option WaitReq)) : Tab (Option WaitReq) := t.map (fun (i, w) => (i, w.map (agedReq now pri)))

/-- The raises of those waits. -/
def hbmRaises (now pri : Nat) (t : Tab (Option WaitReq)) : Nat :=
  (t.map (fun e => match e.2 with | some w => (agedReq now pri w).raises - w.raises | none => 0)).foldl (· + ·) 0

/-- REQUEST_AGING (R413): each waiting request below HIGH is raised as its age says, and PRT_AGED counts the raises.
DEDUCED: notes/assumptions/43.md. -/
def execRequestAging (p : PartId) (s : State) : Out :=
  let now := dtNow s
  let pri := currentPri s p
  let n := waitingRequests s p
  let q := getPart s p
  .next (cntPart 0x00020050 (agedCount now pri n q.waitReqs + hbmRaises now pri q.hbmWait + packetRaises s p) p
    (agePackets p (updPart s p (fun q => { q with waitReqs := agedReqs now pri n q.waitReqs, hbmWait := agedHbm now pri q.hbmWait }))))

end Sys2Proof.Machine
end

