-- ==== Sys2Proof/Machine/Arrive.lean ====
section
/-!
DEFINITION. Machine/Arrive.lean: what every packet and piece meets on arrival: its pool and credit (spec/13 R346, R350), the
configuration epoch (spec/05 R120), the partition epoch (spec/12 R316) and the refusal (R312 to R314); and the loss of a
member (spec/15 R400 to R403, spec/18 R466, R467).
-/
namespace Sys2Proof.Machine
open Sys2Proof

-- Refusals (R312 to R314)

/-- Return a REFUSE that names a packet by its tag and FLOW_SEQ, with the slot, step and communicator of its header (R312); it
takes no number of its own flow. DEDUCED: notes/assumptions/50.md. -/
def sendRefuse (d : DevId) (p : PartId) (reason : Nat) (k : Packet) (s : State) : State :=
  let b := packetBytes {
    tag := k.tag, kind := 6, reason := reason, partEpoch := k.partEpoch, slotGen := k.slotGen, flowSeq := k.flowSeq, step := k.step
    comm := k.comm, cfgEpoch := ownEpoch s, dst := d }
  sendTo d p (streamFlags .ctrl false true) b (cntPart64 0x000D0010 b.length p s)

/-- The tag that an event of a partition carries: the executing CONJ.STEP's, or 0 (R213). DEDUCED: notes/assumptions/15.md. -/
def stepTag (s : State) (p : PartId) : Nat := match (getPart s p).conj with | some c => c.tag | none => 0

-- The configuration epoch (R120, R121)

/-- Does this device hold a group's change ARMED? -/
def epochArmed (s : State) (g : Nat) : Bool :=
  (s.commit.state == .armed && s.commit.scope.contains g && fabricCommit s.commit.items) || s.commit.announced.any (fun h => h.groups.contains g)

/-- Judge the epoch of a packet received at DT `dt`: accepted or not. DEDUCED: notes/assumptions/51.md. -/
def judgeEpoch (src : DevId) (e dt : Nat) (s : State) : Bool × State :=
  let g := src / 16
  let v := tabGet 0 s.commit.epochs g
  let at_ := tabGet 0 s.commit.epochAt g
  if fenced s then (false, s)
  else if e = v then (true, showEpoch src e s)
  else if e = (v + 3) % 4 && s.commit.epochAt.any (fun x => x.1 == g) && decide (dt < at_ + 1000000) then (true, cntDev 0x0012006C 1 s)
  else (e == (v + 1) % 4 && epochArmed s g, s)

/-- A packet refused for its epoch: the count, the record unless it is speculative, the refusal, and the query (R120).
DEDUCED: notes/assumptions/51.md. -/
def refuseEpoch (src : DevId) (p : PartId) (e : Nat) (k : Packet) (source : Nat) (quiet : Bool) (s : State) : State :=
  let v := tabGet 0 s.commit.epochs (src / 16)
  let s := cntDev 0x00120068 1 s
  let s := if quiet then s else
    record p { code := 0x0406, cls := .corrected, source := source, tag := stepTag s p, detail0 := src, detail1 := e + 2 ^ 16 * v } s
  let s := sendRefuse src p 2 k s
  if e = (v + 1) % 4 && !epochArmed s (src / 16) && !fenced s then sendCfg src (.query 0) s else s

-- Loss of a member (R400 to R403, R466, R467)

/-- A step that uses a communicator loses a member (R403). -/
def stepLoses (h : Nat) (d : DevId) (s : State) : State :=
  match getComm s h with
  | none => s
  | some c =>
    let s := updComm h (fun c => { c with lost := if c.lost.contains d then c.lost else c.lost ++ [d] }) s
    let uses := match (getPart s c.part).conj with | some j => j.comm == h | none => false
    let serves := match (getPart s c.part).served with | some j => j.comm == h | none => false
    if uses || serves then loseMember c.part d s else s

/-- The record of a COL command that an abort ends: SUB and DETAIL0 by its code (R453). -/
def abortErr (c : Comm) : CmdErr :=
  { code := c.abortCode, sub := if c.abortCode = 0x0104 then 1 else 0, detail := if c.abortCode = 0x0407 then c.abortDev else c.id }

/-- End the COL command that executes on a communicator, under the code of its abort (R403). -/
def endAborted (h : Nat) (s : State) : State :=
  match getComm s h with
  | none => s
  | some c => match (getPart s c.part).colRun with
    | some r => if r.handle = h then
        cmdFail c.part 5 (execDesc s c.part 5) (abortErr c) (updPart s c.part (fun q => { q with colRun := none }))
      else s
    | none => s

/-- Does a COL command execute on a communicator? -/
def executing (s : State) (h : Nat) : Bool :=
  match getComm s h with
  | some c => (match (getPart s c.part).colRun with | some r => r.handle == h | none => false)
  | none => false

/-- Raise an abort of a communicator at this device: the others hear of it and the executing command ends. -/
def raiseAbort (h code : Nat) (dev : DevId) (s : State) : State := endAborted h (abortComm h code dev s)

/-- Does the open job's CONJ.STEP use a communicator (R222)? -/
def stepUses (s : State) (p : PartId) (h : Nat) : Bool := match (getPart s p).conj with | some c => c.comm == h | none => false

/-- Does the executing step wait for a device that it has probed? -/
def stepProbed (s : State) (p : PartId) (d : DevId) : Bool :=
  match (getPart s p).conj with | some c => c.probes.any (fun x => x.1 == d) | none => false

/-- Record a member's loss that ends no COL command: under the step that uses the communicator, or under the collective engine
(R401, R453, R467). DEDUCED: notes/assumptions/15.md. -/
def recordLoss (h : Nat) (p : PartId) (d : DevId) (s : State) : State :=
  record p { code := 0x0407, cls := .corrected, source := if stepUses s p h then 2 else 5,
             tag := if stepUses s p h then stepTag s p else 0, detail0 := d } s

/-- A member of a communicator is found lost (R401). -/
def loseFrom (h : Nat) (d : DevId) (s : State) : State :=
  match getComm s h with
  | none => s
  | some c =>
    if c.state != .active then s
    else
      let s := if executing s h then s else recordLoss h c.part d s
      let s := updComm h (fun c => { c with noted := c.noted ++ [d] }) s
      let s := abortComm h 0x0407 d (markUnreachable d s)
      endAborted h (stepLoses h d s)

/-- A member of a communicator that an abort has ended is found lost: recorded once, for a step that still waits for it (R469)
or by its epoch notice (R467). -/
def loseLate (h : Nat) (d : DevId) (s : State) : State :=
  match getComm s h with
  | none => s
  | some c =>
    if c.state != .aborted || c.noted.contains d then s
    else
      let s := updComm h (fun c => { c with noted := c.noted ++ [d] }) (recordLoss h c.part d s)
      stepLoses h d (markUnreachable d s)

/-- A member that a run or a step asks after is lost. -/
def lostMember (h : Nat) (d : DevId) (s : State) : State :=
  match getComm s h with
  | none => s
  | some c =>
    if c.state == .active then loseFrom h d s
    else if stepUses s c.part h && stepProbed s c.part d then loseLate h d s else s

/-- A member shows a PART_EPOCH on any of its packets: one above that of a communicator's creation loses the member to it (R400). -/
def epochLoses (d : DevId) (p : PartId) (e : Nat) (s : State) : State :=
  eachOf (commsOf s p) (fun h s => match getComm s h with
    | none => s
    | some c =>
      if c.state == .creating || !c.members.contains d then s
      else match c.epochs.find? (fun x => x.1 == d) with
      | none => updComm h (fun c => { c with epochs := c.epochs ++ [(d, e)] }) s
      | some x => if x.2 = e ∨ staleEpoch x.2 e then s else lostMember h d s) s

-- The partition epoch (R316, R466)

/-- Judge a sender's PART_EPOCH; a rise re-issues the outstanding clauses to it, and loses it to its communicators (R316, R400,
R466). DEDUCED: notes/assumptions/51.md. -/
def judgePart (d : DevId) (p : PartId) (e : Nat) (s : State) : Option State :=
  let old := (getFlow s d p.val).epoch
  match seeEpoch d p e s with
  | none => none
  | some s =>
    let s := epochLoses d p e s
    match old with
    | some r => if r = e then some s else some (reissueTo p d s)
    | none => some s

end Sys2Proof.Machine
end

