-- ==== Sys2Proof/Machine/Xfer.lean ====
section
/-!
DEFINITION. Machine/Xfer.lean: the commands of the XFR stream that move data (spec/08 R224 to R227): token rows in, output
rows and completion records out (spec/12 R330 to R333, spec/17 R431, R435, R436, R443, spec/19 R488), copies, and the host
reads they wait for (spec/06 R144, R145).
-/
namespace Sys2Proof.Machine
open Sys2Proof

/-- Run a command of the XFR stream, or carry it on while it runs. -/
def runXfr (p : PartId) (op : Nat) (body : Bytes → State → State) (more : Bytes → State → State) (s : State) : State :=
  match (getStream s p 6).exec with
  | some e => if e.phase == .running && dOp e.desc == op then more e.desc s else start s
  | none => start s
where
  start (s : State) : State :=
    match takeCmd p 6 op s with
    | (some d, s) => body d s
    | (none, s) => s

/-- The effective first slot of a slot range (R196). -/
def rangeBase (s : State) (p : PartId) (st : StreamId) (d : Bytes) : Nat := relValue (getStream s p st) (d8 d 28) (d16 d 24)

/-- Progress of the executing XFR command. -/
def xfrAt (s : State) (p : PartId) : Nat := match (getStream s p 6).exec with | some e => e.at_ | none => 0
def setXfrAt (p : PartId) (n : Nat) (s : State) : State := updExec p 6 (fun e => { e with at_ := n }) s

/-- Queue one write unit on the partition's port (R156). -/
def hostWrite (p : PartId) (kind : HostWriteKind) (addr : Nat) (b : Bytes) (s : State) : State :=
  match portOf s p with
  | none => s
  | some k => dmaPush k (writeReqs (getPort s k) kind addr b) s

/-- Does a write of a kind wait on the partition's port? -/
def writesWait (s : State) (p : PartId) (kind : HostWriteKind) : Bool :=
  match portOf s p with
  | none => false
  | some k => (getPort s k).dmaQ.any (fun r => match r with | .write x _ _ _ _ _ => x == kind | _ => false)

/-- May a write be issued to the host at once? DEDUCED: notes/assumptions/45.md. -/
def hostReady (s : State) (p : PartId) : Bool :=
  match portOf s p with
  | none => true
  | some k => canIssue s k && (getPort s k).dmaQ.isEmpty && hasCredit s p 3

-- XFR.TOKENS_IN (R21, R224, R225, R435)

/-- Take the slot of one position and read its row. -/
def takeSlot (p : PartId) (d : Bytes) (m : Model) (i slot : Nat) (s : State) : State :=
  let s := updSlot p slot (fun r => {
    held := true, jobId := (getPart s p).job.serial, gen := (r.gen + 1) % 65536,
    row := List.replicate (rowBytes m) 0, awaited := rowBytes m, absent := [] }) s
  hostRead p ((d64 d 32 + i * d32 d 40) % 2 ^ 64) (rowBytes m) (fun o => .slotRow slot o) (setXfrAt p (i + 1) s)

/-- Take slots in order until one is still held: by an earlier job it holds the command back (R21, R225). -/
def takeSlots (p : PartId) (d : Bytes) (m : Model) (base : Nat) : List Nat → State → State
  | [], s => s
  | i :: rest, s =>
    let r := getSlot s p (base + i)
    if !r.held then takeSlots p d m base rest (takeSlot p d m i (base + i) s)
    else if r.jobId = (getPart s p).job.serial then cmdFail p 6 d (badOperand 24) s
    else s

/-- The bytes of a slot's row as the input digest counts them: those that never arrived count as zero (R435). -/
def digestRow (r : Slot) : Bytes :=
  r.absent.foldl (fun b x => b.take x.1 ++ List.replicate x.2 0 ++ b.drop (x.1 + x.2)) r.row

/-- The command ends when every row has arrived; its rows then enter the job's input digest in position order. -/
def tokensInEnd (p : PartId) (d : Bytes) (s : State) : State :=
  let base := rangeBase s p 6 d
  if xfrAt s p < d16 d 26 || (List.range (d16 d 26)).any (fun i => (getSlot s p (base + i)).awaited != 0) then s
  else
    let rows := ((List.range (d16 d 26)).map (fun i => digestRow (getSlot s p (base + i)))).flatten
    cmdDone p 6 (if (getPart s p).job.digest then updJob s p (fun j => { j with hashed := j.hashed ++ rows }) else s)

/-- Carry XFR.TOKENS_IN on. -/
def tokensIn (p : PartId) (d : Bytes) (s : State) : State :=
  match jobModel (getPart s p) with
  | none => cmdFail p 6 d (badOperand 0) s
  | some m =>
    let s := takeSlots p d m (rangeBase s p 6 d) ((List.range (d16 d 26)).drop (xfrAt s p)) s
    match (getStream s p 6).exec with
    | some _ => tokensInEnd p d s
    | none => s

/-- XFR_TOKENS_IN (R224, R225). -/
def execXfrTokensIn (p : PartId) (s : State) : Out := .next (runXfr p 0x7001 (tokensIn p) (tokensIn p) s)

-- The completion record (R331)

/-- Bits packed eight to a byte, lowest first, over `n` bytes. -/
def bitmap (bs : List Bool) (n : Nat) : Bytes :=
  (List.range n).map (fun k => BitVec.ofNat 8 (packBits ((List.range 8).map (fun j => (b2n (bs.getD (8 * k + j) false), j)))))

/-- BB: the bytes of a bitmap (R331). -/
def bitmapBytes (count : Nat) : Nat := (count + 511) / 512 * 64

/-- The slots of the command's range. -/
def outSlots (s : State) (p : PartId) (d : Bytes) : List Slot :=
  (List.range (d16 d 26)).map (fun i => getSlot s p (rangeBase s p 6 d + i))

/-- Is a token poisoned (R329)? -/
def slotPoison (r : Slot) : Bool := r.poison || r.rowPoison

def fallbackMap (l : List Slot) : Bytes := bitmap (l.map (·.fallback)) (bitmapBytes l.length)
def poisonMap (l : List Slot) : Bytes := bitmap (l.map slotPoison) (bitmapBytes l.length)

/-- The result digest (R436); zero when the job's digest is off. -/
def resultDigest (s : State) (p : PartId) : Bytes :=
  let q := getPart s p
  match jobModel q with
  | some m => if q.job.digest then
      sha256 ([0x4D, 0x51, 0x44, 0x47, 0x01, if q.job.stillAir then 0x02 else 0x01, 0, 0] ++ bytesAt m.programDigest 0 32 ++
        bytesAt m.weightsDigest 0 32 ++ sha256 q.job.hashed ++ toLe 8 q.job.fingerprint)
    else List.replicate 32 0
  | none => List.replicate 32 0

/-- The RECORD_SEQ after `n` (R331). -/
def nextSeq (n : Nat) : Nat := if n ≥ 0xFFFF then 1 else n + 1

/-- The completion record of the executing XFR.TOKENS_OUT (R331). -/
def recordBytes (s : State) (p : PartId) (d : Bytes) : Bytes :=
  let q := getPart s p
  let l := outSlots s p d
  let fb := (l.filter (·.fallback)).length
  let po := (l.filter slotPoison).length
  let dr := (l.map (·.dropped)).foldl (· + ·) 0
  let oo := if q.job.stillAir then 0 else (l.map (·.outOfOrder)).foldl (· + ·) 0
  let flags := packBits [(b2n (fb > 0), 0), (b2n (po > 0), 1), (b2n q.job.missRecorded, 2), (b2n q.job.digest, 3),
    (b2n q.job.stillAir, 4), (b2n (dr > 0), 5)]
  toLe 4 (d32 d 44) ++ toLe 2 l.length ++ toLe 2 (rangeBase s p 6 d) ++ toLe 2 q.job.id ++ toLe 1 flags ++ toLe 1 0 ++
    toLe 4 (dTag d) ++ toLe 8 (dtNow s) ++ toLe 4 fb ++ toLe 4 po ++ toLe 4 dr ++ toLe 4 oo ++ toLe 2 (bitmapBytes l.length) ++
    List.replicate 22 0 ++ resultDigest s p ++ List.replicate 32 0 ++ fallbackMap l ++ poisonMap l ++ List.replicate 56 0 ++
    toLe 4 (d32 d 44) ++ toLe 2 (nextSeq q.recordSeq) ++ toLe 2 0xC001

/-- Record the intervals that the record ends, of ended steps and of the executing one, keeping the last 8 of each checkpoint
(R420). -/
def recordIntervals (p : PartId) (s : State) : State :=
  let push (l : List Nat) (t : Nat) : List Nat := let l := l ++ [dtNow s - t]; l.drop (l.length - 8)
  let add (m : Model) (c : Nat × Bool × Nat) : Model :=
    if m.handle ≠ c.1 then m else if c.2.1 then { m with estD := push m.estD c.2.2 } else { m with estS := push m.estS c.2.2 }
  let now := stepChecks s p
  updPart s p (fun q => { q with
    models := q.models.map (fun m => (q.job.checks ++ now).foldl add m)
    job := { q.job with checks := [] }
    conj := q.conj.map (fun c => { c with markS := c.markS || c.checkS.isSome, markD := c.markD || c.checkD.isSome }) })

/-- The bits of DET_JOB_OUTSIDE that the record to come sets (R431), before a Dual-Line compare too (R443).
DEDUCED: notes/assumptions/45.md. -/
def outsideMarks (p : PartId) (d : Bytes) (s : State) : State :=
  let j := (getPart s p).job
  let s := if (outSlots s p d).any slotPoison then outside p 1 s else s
  if j.missRecorded || (j.deadline != 0 && decide (dtNow s > j.deadline)) then outside p 2 s else s

/-- The marks a record takes when it is issued: a missed deadline (R422) and the bits of DET_JOB_OUTSIDE (R431).
DEDUCED: notes/assumptions/45.md. -/
def recordMarks (p : PartId) (d : Bytes) (s : State) : State :=
  let j := (getPart s p).job
  let s := if j.deadline ≠ 0 ∧ dtNow s > j.deadline then
      cntPart 0x0002008C 1 p (updJob (deadlineMiss p 6 (dTag d) s) p (fun j => { j with missed := true }))
    else s
  outsideMarks p d s

/-- Is a record outside the promise (R431)? DEDUCED: notes/assumptions/85.md. -/
def isOutside (s : State) (p : PartId) : Bool := (getPart s p).job.outside != 0

/-- Counts and state that follow a record, issued or staged: RECORD_SEQ, XFR_RECORDS, DET_OUTSIDE, the input digest
shown, the deadline monitor's intervals. -/
def recordCounts (p : PartId) (s : State) : State :=
  let q := getPart s p
  let s := cntPart64 0x00110000 1 p (updPart s p (fun q => { q with
    recordSeq := nextSeq q.recordSeq
    inputDigest := if q.job.digest then sha256 q.job.hashed else q.inputDigest }))
  let s := if isOutside s p then cntPart 0x00090020 1 p s else s
  recordIntervals p s

-- XFR.TOKENS_OUT (R224, R225, R330 to R333, R443, R488)

/-- Stages of the command: 0 started, 1 rows queued, 2 compare sent, 3 compare decided or not due, 4 flush read sent,
5 flush read answered, 6 record staged: the vector of its IRQ is the staged record's to send (R143); 7 record queued. -/
def tokensOutRows (p : PartId) (d : Bytes) (s : State) : State :=
  let l := outSlots s p d
  if l.any (fun r => !r.rounded) then cmdFail p 6 d (badOperand 24) s
  else
    let s := eachOf (List.range l.length) (fun i s =>
      hostWrite p .output ((d64 d 32 + i * d32 d 40) % 2 ^ 64) (l.getD i {}).out s) s
    setXfrAt p 1 (cntPart64 0x00110008 l.length p s)

/-- Does the partition stage its records (R488)? -/
def stages (s : State) (p : PartId) : Bool := s.pair.state == .active && (getPart s p).sb.covered

/-- The CHECK of R443. -/
def dualCheck (s : State) (p : PartId) (d : Bytes) : Bytes :=
  let l := outSlots s p d
  sha256 ((l.map (·.out)).flatten ++ fallbackMap l ++ poisonMap l ++ resultDigest s p)

/-- A command whose record has been queued is done once all of it has been issued (R175, R186). -/
def recordIssued (p : PartId) (s : State) : State :=
  if xfrAt s p = 7 && !writesWait s p .record then cmdDone p 6 s else s

/-- Issue the record, or stage it; a command that stages it is then done. DEDUCED: notes/assumptions/45.md. -/
def tokensOutRecord (p : PartId) (d : Bytes) (s : State) : State :=
  let s := recordMarks p d s
  let b := recordBytes s p d
  let first := rangeBase s p 6 d
  let s := recordCounts p s
  if stages s p then cmdDone p 6 (updPart (setXfrAt p 6 s) p (fun q => { q with sb := { q.sb with
      staged := q.sb.staged ++ [{ addr := d64 d 48, record := b, first := first, count := d16 d 26, dt := dtNow s, irq := dIrq d }] } }))
  else recordIssued p (setXfrAt p 7 (settleReleased p (issueRecord p (d64 d 48) b first (d16 d 26) s)))

/-- In D3hot the completion record of the executing XFR.TOKENS_OUT is held behind its rows: a wake event, once (R151).
DEDUCED: notes/assumptions/45.md. -/
def heldRecord (p : PartId) (s : State) : State :=
  match portOf s p, (getStream s p 6).exec with
  | some k, some e =>
    if (getPort s k).d3hot && e.at_ != 0 && e.phase == .running && !e.noted.contains 0 then
      wakeEvent k 0 (updExec p 6 (fun e => { e with noted := e.noted ++ [0] }) s)
    else s
  | _, _ => s

/-- Carry XFR.TOKENS_OUT on as far as it can go. -/
def tokensOut (p : PartId) (d : Bytes) (s : State) : State :=
  let s := if xfrAt s p = 0 then tokensOutRows p d s else s
  let s := heldRecord p s
  if xfrAt s p = 7 then recordIssued p s
  else if (getStream s p 6).exec.isNone || writesWait s p .output then s
  else
    let s := if xfrAt s p = 1 then
        if (getPart s p).job.stillAir && s.dual.state == .paired then
          let s := outsideMarks p d s
          let j := (getPart s p).job
          dualStart p j.id (d16 d 26) (d32 d 44) (isOutside s p) (dualCheck s p d) (setXfrAt p 2 s)
        else setXfrAt p 3 s
      else s
    let s := if xfrAt s p = 2 && (getPart s p).dl.decided then
        setXfrAt p 3 (updPart s p (fun q => { q with dl := { q.dl with decided := false } }))
      else s
    let s := if xfrAt s p = 3 && stages s p then
        match portOf s p with
        | some k => setXfrAt p 4 (dmaPush k [.read (d64 d 32) 0 (.flush 0)] s)
        | none => setXfrAt p 5 s
      else s
    if (xfrAt s p = 5 && stages s p) || (xfrAt s p ≥ 3 && !stages s p && hostReady s p) then tokensOutRecord p d s else s

/-- XFR_TOKENS_OUT (R224). -/
def execXfrTokensOut (p : PartId) (s : State) : Out := .next (runXfr p 0x7002 (tokensOut p) (tokensOut p) s)

-- XFR.COPY (R226, R227, R464)

/-- Bytes of a tensor in packed order. -/
def tdBytes (t : Bytes) : Nat := tdElems t * elemSize (tdType t)

/-- Space offset of packed byte `o` of a tensor. -/
def tdByteOff (t : Bytes) (o : Nat) : Nat := tdElemOff t (o / elemSize (tdType t)) + o % elemSize (tdType t)

/-- The tensor that an executing XFR.COPY writes from the host. -/
def copyTd (s : State) (p : PartId) : Bytes :=
  match (getStream s p 6).exec with
  | some e => ((e.tds.head?).map (·.2)).getD []
  | none => []

/-- Packed bytes `[off, off + b.length)` of the tensor arrive, poisoned or not. -/
def copyArrive (p : PartId) (off : Nat) (b : Bytes) (bad : Bool) (s : State) : State :=
  let t := copyTd s p
  let s := writeCells p (tdSpace t) (b.mapIdx (fun i x => (tdByteOff t (off + i), [x], bad))) s
  setXfrAt p (xfrAt s p + b.length) s

/-- The bytes of a tensor in packed order. -/
def tdRead (s : State) (p : PartId) (t : Bytes) : Bytes :=
  ((List.range (tdElems t)).map (fun i => spaceRead s p (tdSpace t) (tdElemOff t i) (elemSize (tdType t)))).flatten

/-- The poisoned granules of a tensor, and the packed offset of its first poisoned byte. -/
def tdPoison (s : State) (p : PartId) (t : Bytes) : Nat × Option Nat :=
  let bad := (List.range (tdBytes t)).filter (fun o => spacePoisoned s p (tdSpace t) (tdByteOff t o) 1)
  (((bad.map (fun o => (if tdSpace t = 0 then hbmBase s p else 0) + tdByteOff t o)).map (· / Config.granule)).eraseDups.length, bad.head?)

/-- A tensor that XFR.COPY accepts. -/
def copyable (t : Bytes) : Bool := tdSpace t != 3

/-- Start XFR.COPY. -/
def copyStart (p : PartId) (d : Bytes) (s : State) : State :=
  match useTd s p d 24 (d8 d 26 == 0) copyable with
  | .error e => cmdFail p 6 d e s
  | .ok td =>
    if d8 d 26 = 0 then
      hostRead p (d64 d 32) (tdBytes td.2) (fun o => .copyIn o) (updExec p 6 (fun e => { e with tds := [td] }) s)
    else if d8 d 26 = 1 then
      let (n, bad) := tdPoison s p td.2
      let s := chargeRead p (tdSpace td.2) (tdBytes td.2) s
      let s := match bad with
        | some o => record p { code := 0x0302, cls := .deferred, source := 0xA, tag := dTag d, addr := (d64 d 32 + o) % 2 ^ 64, count := n } s
        | none => s
      hostWrite p .copyOut (d64 d 32) (tdRead s p td.2) s
    else match useTd s p d 28 true (fun t => copyable t && tdType t == tdType td.2 && tdElems t == tdElems td.2) with
    | .error e => cmdFail p 6 d e s
    | .ok dst => cmdDone p 6 (copyElems p td.2 dst.2 0 0 (tdElems td.2) (touchTd p 6 (dTag d) td.2 s))

/-- Carry XFR.COPY on: it ends when its bytes have arrived, or when its write has been issued (R193). -/
def copyMore (p : PartId) (d : Bytes) (s : State) : State :=
  if d8 d 26 = 0 then (if xfrAt s p ≥ tdBytes (copyTd s p) then cmdDone p 6 s else s)
  else if writesWait s p .copyOut then s
  else cmdDone p 6 s

/-- XFR_COPY (R226). -/
def execXfrCopy (p : PartId) (s : State) : Out :=
  .next (runXfr p 0x7003 (fun d s =>
    let s := copyStart p d s
    match (getStream s p 6).exec with
    | some e => if e.phase == .running then copyMore p d s else s
    | none => s) (copyMore p) s)

end Sys2Proof.Machine
end

