-- ==== Sys2Proof/Machine/ColMath.lean ====
section
/-!
DEFINITION. Machine/ColMath.lean: what the messages of a collective hold (spec/15 R389 to R396): chunks, contributions,
partials, the leader exchange, and the result on each position.
-/
namespace Sys2Proof.Machine
open Sys2Proof

/-- The communicator over which an operation runs: the ballot of a model in local dispatch mode runs over the source device
alone and uses no link (R42). -/
def runComm (s : State) (p : PartId) (r : ColRun) (c : Comm) : Comm :=
  if r.op == 6 && (jobModel (getPart s p)).any (·.localDispatch) then { c with members := [ownId s] } else c

/-- An executing collective with its communicator and this device's place in it. -/
structure ColView where
  comm : Comm
  run : ColRun
  me : DevId
  pos : Nat
  /-- Leaders in group order, and the group of this device. -/
  leaders : List DevId
  group : Nat

def colView (s : State) (p : PartId) : Option ColView :=
  match (getPart s p).colRun with
  | none => none
  | some r => match getComm s r.handle with
    | none => none
    | some c =>
      let c := runComm s p r c
      let gs := groupsOf c.members
      some { comm := c, run := r, me := ownId s, pos := c.members.findIdx (· == ownId s),
             leaders := gs.map (leaderOf c.members), group := gs.findIdx (· == ownId s / 16) }

/-- The leader of this device's group. -/
def ColView.lead (v : ColView) : DevId := v.leaders.getD v.group 0
def ColView.isLead (v : ColView) : Bool := v.lead == v.me
def ColView.groups (v : ColView) : Nat := v.leaders.length
/-- The largest power of two not above the number of groups (R390). -/
def ColView.pow (v : ColView) : Nat := 2 ^ Nat.log2 v.groups
/-- Bytes of an element in SRC and DST. -/
def ColView.elem (v : ColView) : Nat := elemSize v.run.dtype
def ColView.members (v : ColView) : Nat := v.comm.members.length
/-- The groups' distance from the root's group (R392). -/
def ColView.rel (v : ColView) (g : Nat) : Nat :=
  let gs := groupsOf v.comm.members
  let r := gs.findIdx (· == v.comm.members.getD v.run.root 0 / 16)
  (g + v.groups - r) % v.groups
/-- Other members of this device's group. -/
def ColView.mates (v : ColView) : List DevId := v.comm.members.filter (fun d => d / 16 == v.me / 16 && d != v.me)
def ColView.isSum (v : ColView) : Bool := v.run.op == 0 || v.run.op == 2

-- Chunks (R394)

/-- Experts of a BALLOT_MERGE in a chunk. DEDUCED: notes/assumptions/40.md. -/
def ballotExperts (c : Nat) : Nat := max 1 (Config.slotBytes / (16 * max c 1))
/-- Bytes of data, or elements of a sum, that a chunk covers. DEDUCED: notes/assumptions/40.md. -/
def chunkUnit (r : ColRun) : Nat :=
  if r.op = 0 ∨ r.op = 2 then 65536 else if r.op = 6 then 16 * r.cap * ballotExperts r.cap else Config.slotBytes
/-- The extent of an operation in the same units. DEDUCED: notes/assumptions/40.md. -/
def colExtent (c : Comm) (r : ColRun) : Nat :=
  if r.op = 0 ∨ r.op = 2 then tdElems r.src
  else if r.op = 1 then c.members.length * tdBytes r.src
  else if r.op = 3 then tdBytes r.dst
  else if r.op = 6 then tdBytes r.src
  else 0
/-- Pieces `[lo, hi)` of the extent that chunk `k` covers. -/
def chunkSpan (c : Comm) (r : ColRun) (k : Nat) : Nat × Nat :=
  (k * chunkUnit r, min (colExtent c r) ((k + 1) * chunkUnit r))
/-- The blocks of an ALLTOALLV that go to other members, chunk by chunk: position and chunk index. -/
def sendList (v : ColView) : List (Nat × Nat) :=
  (List.range v.members).flatMap (fun j =>
    if j = v.pos then [] else (List.range ((v.run.sends.getD j 0 + Config.slotBytes - 1) / Config.slotBytes)).map (fun k => (j, k)))
/-- Chunks of an operation on this device. -/
def chunkTotal (v : ColView) : Nat :=
  if v.run.op = 4 then 1
  else if v.run.op = 5 then (sendList v).length
  else (colExtent v.comm v.run + chunkUnit v.run - 1) / chunkUnit v.run

-- Ranges of a message

/-- The part of `[lo, hi)` within chunk `k`, relative to the chunk: offset and length. -/
def clip (span : Nat × Nat) (lo hi : Nat) : Nat × Nat :=
  (max span.1 lo - span.1, min span.2 hi - max span.1 lo)

/-- The positions of group `g`, which are consecutive. -/
def groupPos (v : ColView) (g : Nat) : Nat × Nat :=
  let d := v.leaders.getD g 0 / 16
  let a := v.comm.members.findIdx (fun m => m / 16 == d)
  (a, a + (v.comm.members.filter (fun m => m / 16 == d)).length)

/-- The groups whose data group `j` holds before leader round `r` (R390). -/
def heldGroups (v : ColView) (j r : Nat) : List Nat :=
  (List.range v.groups).filter (fun k => (if k < v.pow then k else k - v.pow) / 2 ^ r == j / 2 ^ r)

/-- The ranges of an ALLGATHER chunk that the portions of positions `[a, b)` fill. -/
def gatherRange (v : ColView) (k a b : Nat) : Nat × Nat :=
  clip (chunkSpan v.comm v.run k) (a * tdBytes v.run.src) (b * tdBytes v.run.src)

/-- Bytes of a partial of chunk `k`. -/
def partialLen (v : ColView) (k : Nat) : Nat :=
  let (lo, hi) := chunkSpan v.comm v.run k
  if v.isSum then 4 * (hi - lo) else hi - lo

/-- The ranges of chunk `k` that a message from position `q`'s device holds: phase 0 its own portion, phase 1 its group's,
phase 2 what its group holds before round `r`, otherwise all. -/
def msgRanges (v : ColView) (k : Nat) (src : DevId) (phase r : Nat) : List (Nat × Nat) :=
  let q := v.comm.members.findIdx (· == src)
  let g := v.leaders.findIdx (fun d => d / 16 == src / 16)
  if v.run.op ≠ 1 then [(0, partialLen v k)]
  else if phase = 0 then [gatherRange v k q (q + 1)]
  else if phase = 1 then [gatherRange v k (groupPos v g).1 (groupPos v g).2]
  else if phase = 2 then (heldGroups v g r).map (fun h => gatherRange v k (groupPos v h).1 (groupPos v h).2)
  else [(0, partialLen v k)]

/-- The elements of position `q`'s slice that chunk `k` covers. -/
def sliceRange (v : ColView) (k q : Nat) : Nat × Nat :=
  let e := tdElems v.run.dst
  clip (chunkSpan v.comm v.run k) (q * e) ((q + 1) * e)

/-- Bytes of the release of chunk `k` to position `q`. -/
def releaseLen (v : ColView) (k q : Nat) : Nat :=
  let (lo, hi) := chunkSpan v.comm v.run k
  if v.run.op = 0 then v.elem * (hi - lo) else if v.run.op = 2 then v.elem * (sliceRange v k q).2 else hi - lo

/-- The length of the message of a phase and round that this device expects from a member, none when it expects none. -/
def expectedLen (v : ColView) (k : Nat) (src : DevId) (phase r : Nat) : Option Nat :=
  let n := v.groups
  let len : Nat := ((msgRanges v k src phase r).map (·.2)).foldl (· + ·) 0
  let some_ (ok : Bool) (len : Nat) : Option Nat := if ok && (len != 0 || v.run.op == 4) then some len else none
  let from_ (g : Nat) : Bool := v.leaders[g]? == some src && g != v.group
  if v.run.op = 5 then
    let q := v.comm.members.findIdx (· == src)
    let left := v.run.recvs.getD q 0 - k * Config.slotBytes
    some_ (decide (phase = 5) && decide (q < v.members) && src != v.me) (min left Config.slotBytes)
  else if phase = 4 then some_ (!v.isLead && src == v.lead) (releaseLen v k v.pos)
  else if !v.isLead then none
  else if phase = 0 then
    some_ (v.mates.contains src && (v.run.op != 3 || v.comm.members[v.run.root]? == some src)) len
  else if v.run.op = 3 then
    let j := v.rel v.group
    some_ (decide (phase = 2) && j != 0 && r == Nat.log2 j && decide (v.rel (v.leaders.findIdx (· == src)) = j - 2 ^ Nat.log2 j) &&
      v.leaders.contains src) len
  else if phase = 1 then some_ (decide (v.group + v.pow < n) && from_ (v.group + v.pow)) len
  else if phase = 2 then some_ (decide (v.group < v.pow) && decide (2 ^ r < v.pow) && from_ (v.group ^^^ 2 ^ r)) len
  else if phase = 3 then some_ (decide (v.pow ≤ v.group) && from_ (v.group - v.pow)) len
  else none

-- Arithmetic (R390, R391)

/-- The 32-bit words of a byte string. -/
def wordsOf : Bytes → List Nat
  | a :: b :: c :: d :: t => leNat [a, b, c, d] :: wordsOf t
  | _ => []
def wordsBytes (l : List Nat) : Bytes := (l.map (toLe 4)).flatten

/-- The exact maximum: any NaN gives the canonical NaN, and +0 stands above −0 (R390). -/
def colMax (a b : Nat) : Nat :=
  if isNan32 a ∨ isNan32 b then 0x7FC00000
  else if lt32 a b then b
  else if lt32 b a then a
  else if a = 0 ∨ b = 0 then 0 else a

/-- A candidate of a ballot: key, ID and its 16 bytes; none for an empty entry. -/
def candOf (b : Bytes) : Option ((Nat × Nat) × Bytes) :=
  if leAt b 0 4 = 0xFFFFFFFF then none
  else some ((leAt b 0 4, leAt b 10 2 % 2 ^ 14 * 2 ^ 16 + leAt b 8 2), b)

/-- The entries of a byte string. -/
def entries16 : Nat → Bytes → List Bytes
  | 0, _ => []
  | n + 1, b => b.take 16 :: entries16 n (b.drop 16)

/-- Merge the candidate lists of one expert: the C best of the union, empty entries last. -/
def mergeExpert (c e : Nat) (a b : Bytes) : Bytes :=
  let best := (sortBy (fun x y => candLt x.1 y.1) ((entries16 c a ++ entries16 c b).filterMap candOf)).take c
  (best.map (·.2)).flatten ++ (List.replicate (c - best.length) (emptyCand e)).flatten

/-- Merge two ballot chunks whose first expert is `e`. -/
def mergeBallot (c : Nat) : Nat → Nat → Bytes → Bytes → Bytes
  | 0, _, _, _ => []
  | n + 1, e, a, b => mergeExpert c e (a.take (16 * c)) (b.take (16 * c)) ++ mergeBallot c n (e + 1) (a.drop (16 * c)) (b.drop (16 * c))

/-- Lay bytes over a string from an offset. -/
def overlay (b : Bytes) (off : Nat) (d : Bytes) : Bytes := b.take off ++ d ++ b.drop (off + d.length)

/-- Lay the bytes of a message over its ranges. -/
def layRanges : List (Nat × Nat) → Bytes → Bytes → Bytes
  | [], _, b => b
  | (o, n) :: t, d, b => layRanges t (d.drop n) (overlay b o (d.take n))

/-- Combine a partial of chunk `k` with a message that came in a phase and round. Phases 3 and 4 carry a result, which takes
the partial's place (R391). -/
def combine (v : ColView) (k : Nat) (src : DevId) (phase r : Nat) (acc d : Bytes) : Bytes :=
  if phase = 3 ∨ phase = 4 then d
  else if v.isSum then
    wordsBytes (List.zipWith (if v.run.redop = 0 then addF32 else colMax) (wordsOf acc) (wordsOf d))
  else if v.run.op = 1 then layRanges (msgRanges v k src phase r) d acc
  else if v.run.op = 6 then
    let per := 16 * max v.run.cap 1
    mergeBallot v.run.cap (d.length / per) (k * ballotExperts v.run.cap) acc d
  else d

/-- What a leader sends of its partial in a phase and round. -/
def outgoing (v : ColView) (k phase r : Nat) (acc : Bytes) : Bytes :=
  ((msgRanges v k v.me phase r).map (fun x => (acc.drop x.1).take x.2)).flatten

-- Sources and results

/-- Packed bytes `[off, off + n)` of a tensor. -/
def tdReadAt (s : State) (p : PartId) (t : Bytes) (off n : Nat) : Bytes :=
  (List.range n).flatMap (fun i => spaceRead s p (tdSpace t) (tdByteOff t (off + i)) 1)

/-- Write packed bytes of a tensor. -/
def tdWriteAt (p : PartId) (t : Bytes) (off : Nat) (b : Bytes) (s : State) : State :=
  writeCells p (tdSpace t) (b.mapIdx (fun i x => (tdByteOff t (off + i), [x], false))) s

/-- This device's contribution to chunk `k` (R389, R390): BF16 elements are widened to FP32 exactly. DEDUCED: notes/assumptions/53.md. -/
def contribution (s : State) (p : PartId) (v : ColView) (k : Nat) : Bytes :=
  let (lo, hi) := chunkSpan v.comm v.run k
  if v.isSum then
    let z := v.elem
    wordsBytes ((List.range (hi - lo)).map (fun i =>
      let w := leNat (spaceRead s p (tdSpace v.run.src) (tdElemOff v.run.src (lo + i)) z)
      if z = 2 then w * 2 ^ 16 else w))
  else if v.run.op = 1 then
    let (o, n) := gatherRange v k v.pos (v.pos + 1)
    tdReadAt s p v.run.src (lo + o - v.pos * tdBytes v.run.src) n
  else if v.run.op = 3 ∨ v.run.op = 6 then tdReadAt s p v.run.src lo (hi - lo)
  else []

/-- Chunk `k` of the result on position `q`, in DTYPE, from the whole partial. DEDUCED: notes/assumptions/53.md. -/
def resultOf (v : ColView) (k q : Nat) (acc : Bytes) : Bytes :=
  let ws (l : List Nat) : Bytes := if v.elem = 2 then (l.map (fun w => toLe 2 (bf16 (decode32 w)))).flatten else wordsBytes l
  if v.run.op = 0 then ws (wordsOf acc)
  else if v.run.op = 2 then
    let (o, n) := sliceRange v k q
    ws (((wordsOf acc).drop o).take n)
  else acc

/-- Write chunk `k` of this device's own result to DST. -/
def writeResult (p : PartId) (v : ColView) (k : Nat) (b : Bytes) (s : State) : State :=
  let (lo, _) := chunkSpan v.comm v.run k
  if v.run.op = 4 then s
  else if v.run.op = 0 then tdWriteAt p v.run.dst (v.elem * lo) b s
  else if v.run.op = 2 then tdWriteAt p v.run.dst (v.elem * (lo + (sliceRange v k v.pos).1 - v.pos * tdElems v.run.dst)) b s
  else tdWriteAt p v.run.dst lo b s

end Sys2Proof.Machine
end

