-- ==== Sys2Proof/Machine/Collect.lean ====
section
/-!
DEFINITION. Machine/Collect.lean: the run of a collective (spec/15 R386 to R403): chunks in flight, reducer slots, the
phases of a chunk, receipt of pieces, and the creation of communicators.
-/
namespace Sys2Proof.Machine
open Sys2Proof

def updRun (p : PartId) (f : ColRun → ColRun) (s : State) : State := updPart s p (fun q => { q with colRun := q.colRun.map f })
def updChunk (p : PartId) (k : Nat) (f : ChunkSt → ChunkSt) (s : State) : State :=
  updRun p (fun r => { r with chunks := r.chunks.map (fun c => if c.idx = k then f c else c) }) s
def findChunk (r : ColRun) (k : Nat) : Option ChunkSt := r.chunks.find? (fun c => c.idx == k)

-- Reducer slots (R395)

/-- The chunks that need a slot: partition, COMM_ID, OP_SEQ, chunk, held or waiting. -/
def slotChunks (s : State) : List (PartId × Nat × Nat × Nat × Bool) :=
  allParts.flatMap (fun p => match colView s p with
    | some v => (v.run.chunks.filter (·.needsSlot)).map (fun c => (p, v.comm.id, v.run.opSeq, c.idx, c.granted))
    | none => [])
/-- Is the partition's job URGENT? -/
def urgentPart (s : State) (p : PartId) : Bool := currentPri s p == 0
/-- Slots in use by URGENT jobs, and by the others. DEDUCED: notes/assumptions/53.md. -/
def slotsUsed (s : State) : Nat × Nat :=
  let used := (slotChunks s).filter (·.2.2.2.2)
  ((used.filter (fun x => urgentPart s x.1)).length, (used.filter (fun x => !urgentPart s x.1)).length)
/-- Slots not retired by the built-in self-test (spec/22). -/
def slotCount (s : State) : Nat := Config.reducerSlots - popCount s.bist.slotsApplied 32
/-- May a chunk of the partition take a slot now? Four slots go to URGENT jobs only. -/
def slotFree (s : State) (p : PartId) : Bool :=
  let (u, n) := slotsUsed s
  if urgentPart s p then decide (u + n < slotCount s)
  else decide (n + (u - Config.reducerUrgent) + Config.reducerUrgent < slotCount s)
/-- The order in which every device grants: COMM_ID, OP_SEQ, CHUNK. -/
def slotLt (a b : PartId × Nat × Nat × Nat × Bool) : Bool :=
  a.2.1 < b.2.1 || (a.2.1 == b.2.1 && (a.2.2.1 < b.2.2.1 || (a.2.2.1 == b.2.2.1 && a.2.2.2.1 < b.2.2.2.1)))

-- Sending (R394, R396, R397)

/-- The pieces of a chunk of `n` bytes: offset and length; an empty chunk is one empty piece. -/
def pieceList (n : Nat) : List (Nat × Nat) :=
  if n = 0 then [(0, 0)]
  else (List.range ((n + Config.pieceBytes - 1) / Config.pieceBytes)).map (fun i => (i * Config.pieceBytes, min Config.pieceBytes (n - i * Config.pieceBytes)))

/-- Send the pieces of a chunk. -/
def sendChunk (p : PartId) (v : ColView) (o : ChunkOut) (retx : Bool) (s : State) : State :=
  let n := o.data.length
  let crc := crc32c o.data
  let s := updComm v.run.handle (fun c => { c with bytes := wrapAdd 64 c.bytes n }) s
  eachOf (pieceList n) (fun x s =>
    let last := x.1 + x.2 == n
    sendPiece o.dst p {
      commId := v.comm.id, kind := 1, op := v.run.op, opSeq := v.run.opSeq, chunk := o.chunk, off := x.1, chunkLen := n,
      chunkCrc := if last then crc else 0, phase := o.phase, round := o.round, last := last, retx := retx,
      tag := v.run.tag, payload := (o.data.drop x.1).take x.2 } s) s

/-- Send a message of chunk `k` and hold its copy; an empty message is sent by a BARRIER only. DEDUCED: notes/assumptions/53.md. -/
def sendMsg (p : PartId) (v : ColView) (k : Nat) (o : ChunkOut) (s : State) : State :=
  if o.data.isEmpty && v.run.op != 4 then s
  else sendChunk p v o false (updChunk p k (fun c => { c with outs := c.outs ++ [o] }) s)

/-- Send control pieces of a chunk: ACK and NACK. -/
def answerChunk (p : PartId) (x : Piece) (kind : Nat) (s : State) : State :=
  sendPiece x.src p { commId := x.commId, kind := kind, op := 8, opSeq := x.opSeq, chunk := x.chunk, phase := x.phase, round := x.round } s

-- Laggards (R399, R407)

/-- The histogram bucket of a wait in ns. -/
def lagBucket (w : Nat) : Nat :=
  (([1000, 4000, 16000, 64000, 256000, 1000000, 4000000] : List Nat).filter (fun b => decide (b ≤ w))).length

/-- Attribute a wait to a member; a full table gives up its smallest entry. -/
def addLag (d : DevId) (w : Nat) (c : Comm) : Comm :=
  let lag := if c.lag.any (fun x => x.1 == d) then c.lag.map (fun x => if x.1 = d then (d, x.2 + w) else x)
    else if c.lag.length < 32 then c.lag ++ [(d, w)]
    else
      let low := (c.lag.map (·.2)).foldl min ((c.lag.head?.map (·.2)).getD 0)
      dropFirst (fun x => x.2 == low) c.lag ++ [(d, w)]
  { c with lag := lag, hist := listUpd c.hist (lagBucket w) (fun n => satAdd32 n 1) }

/-- The chunk step whose inputs are complete: the last of them waited for. -/
def noteLag (v : ColView) (ownDt : Nat) (ins : List ChunkIn) (s : State) : State :=
  match ins.find? (fun x => ins.all (fun y => decide (y.dt ≤ x.dt))) with
  | none => s
  | some x =>
    let rest := ((ins.filter (fun y => y.src != x.src)).map (·.dt)).foldl max ownDt
    if x.dt > rest then updComm v.run.handle (addLag x.src (x.dt - rest)) s else s

-- Phases of a chunk (R390, R392)

/-- The inputs that a chunk's stage waits for: source, phase, round. DEDUCED: notes/assumptions/53.md. -/
def chunkNeeds (v : ColView) (c : ChunkSt) : List (DevId × Nat × Nat) :=
  let dev (g : Nat) : DevId := v.leaders.getD g 0
  let all : List (DevId × Nat × Nat) := match c.stage with
    | .gather => v.mates.map (fun d => (d, 0, 0))
    | .folded => [(dev (v.group - v.pow), 3, 0)]
    | .fold => [(dev (v.group + v.pow), 1, 0)]
    | .round r => if v.run.op = 3 then v.leaders.map (fun d => (d, 2, r)) else [(dev (v.group ^^^ 2 ^ r), 2, r)]
    | .release => [(v.lead, 4, 0)]
    | .done => []
  all.filter (fun x => (expectedLen v c.idx x.1 x.2.1 x.2.2).isSome)

def hasInput (c : ChunkSt) (x : DevId × Nat × Nat) : Bool := c.inputs.any (fun i => i.src == x.1 && i.phase == x.2.1 && i.round == x.2.2)
def inputOf (c : ChunkSt) (x : DevId × Nat × Nat) : Option ChunkIn :=
  c.inputs.find? (fun i => i.src == x.1 && i.phase == x.2.1 && i.round == x.2.2)

/-- The whole result stands at a leader: release it to the group and write the own part. -/
def chunkResult (p : PartId) (v : ColView) (k : Nat) (acc : Bytes) (s : State) : State :=
  let s := eachOf v.mates (fun d s =>
    sendMsg p v k { dst := d, chunk := k, phase := 4, data := resultOf v k (v.comm.members.findIdx (· == d)) acc } s) s
  let s := updChunk p k (fun c => { c with stage := .done, inputs := [], partialV := [] }) s
  writeResult p v k (resultOf v k v.pos acc) s

/-- Enter leader round `r`, or end the exchange. -/
def enterRound (p : PartId) (v : ColView) (k r : Nat) (acc : Bytes) (s : State) : State :=
  if 2 ^ r < v.pow then
    let s := sendMsg p v k { dst := v.leaders.getD (v.group ^^^ 2 ^ r) 0, chunk := k, phase := 2, round := r, data := outgoing v k 2 r acc } s
    updChunk p k (fun c => { c with stage := .round r, partialV := acc, ownDt := dtNow s }) s
  else
    let s := if v.group + v.pow < v.groups then
        sendMsg p v k { dst := v.leaders.getD (v.group + v.pow) 0, chunk := k, phase := 3, data := outgoing v k 3 0 acc } s
      else s
    chunkResult p v k acc s

/-- Pass a broadcast down the binomial tree and release it. -/
def broadcastOn (p : PartId) (v : ColView) (k : Nat) (acc : Bytes) (s : State) : State :=
  let j := v.rel v.group
  let first := if j = 0 then 0 else Nat.log2 j + 1
  let rounds := (List.range (Nat.log2 v.groups + 1)).filter (fun r => decide (first ≤ r) && decide (j + 2 ^ r < v.groups))
  let s := eachOf rounds (fun r s =>
    sendMsg p v k { dst := v.leaders.getD ((v.group + 2 ^ r) % v.groups) 0, chunk := k, phase := 2, round := r, data := acc } s) s
  chunkResult p v k acc s

/-- A leader has its group's contributions: reduce them in position order and start the leader exchange. -/
def chunkGathered (p : PartId) (v : ColView) (c : ChunkSt) (s : State) : State :=
  let k := c.idx
  if v.run.op = 3 then
    let j := v.rel v.group
    if j ≠ 0 then updChunk p k (fun c => { c with stage := .round (Nat.log2 j) }) s
    else match c.inputs.head? with
      | some i => broadcastOn p v k i.data s
      | none => broadcastOn p v k (contribution s p v k) s
  else
    let devs := v.comm.members.filter (fun d => d / 16 == v.me / 16)
    let parts := devs.filterMap (fun d =>
      if d = v.me then some (d, contribution s p v k) else (inputOf c (d, 0, 0)).map (fun i => (d, i.data)))
    let acc :=
      if v.isSum then match parts with
        | [] => []
        | x :: t => t.foldl (fun a y => combine v k y.1 0 0 a y.2) (if v.run.redop = 0 then x.2 else combine v k x.1 0 0 x.2 x.2)
      else
        let fill : Byte := if v.run.op = 6 then 0xFF else 0
        parts.foldl (fun a y => combine v k y.1 0 0 a y.2) (List.replicate (partialLen v k) fill)
    if v.pow ≤ v.group then
      let s := sendMsg p v k { dst := v.leaders.getD (v.group - v.pow) 0, chunk := k, phase := 1, data := outgoing v k 1 0 acc } s
      updChunk p k (fun c => { c with stage := .folded, partialV := acc, ownDt := dtNow s }) s
    else if v.group + v.pow < v.groups then
      updChunk p k (fun c => { c with stage := .fold, partialV := acc, ownDt := dtNow s }) s
    else enterRound p v k 0 acc s

/-- Take the next stage of a chunk whose inputs are complete; none when it waits or is done. -/
def chunkStep (p : PartId) (v : ColView) (c : ChunkSt) (s : State) : Option State :=
  let need := chunkNeeds v c
  if c.stage == .done || (c.needsSlot && !c.granted) || need.any (fun x => !hasInput c x) then none
  else
    let ins := need.filterMap (inputOf c)
    let s := noteLag v c.ownDt ins s
    let got (phase r : Nat) : Bytes := ins.foldl (fun a i => combine v c.idx i.src phase r a i.data) c.partialV
    some (match c.stage with
      | .gather => chunkGathered p v c s
      | .folded => chunkResult p v c.idx (got 3 0) s
      | .fold => enterRound p v c.idx 0 (got 1 0) s
      | .round r => if v.run.op = 3 then broadcastOn p v c.idx (got 2 r) s else enterRound p v c.idx (r + 1) (got 2 r) s
      | .release => writeResult p v c.idx (got 4 0) (updChunk p c.idx (fun c => { c with stage := .done, inputs := [] }) s)
      | .done => s)

-- Chunks in flight (R394, R395)

/-- The first poisoned granule of a tensor, as the fault that a COL command records for it (R464). -/
def poisonFault (s : State) (p : PartId) (t : Bytes) : Option CmdErr :=
  match (tdPoison s p t).2 with
  | none => none
  | some o =>
    let a := (if tdSpace t = 0 then hbmBase s p else 0) + tdByteOff t o
    some { code := 0x0302, addr := a / Config.granule * Config.granule - (if tdSpace t = 0 then hbmBase s p else 0) }

/-- Open the next chunk. -/
def openChunk (p : PartId) (v : ColView) (s : State) : State :=
  let k := v.run.next
  let add (c : ChunkSt) (s : State) : State := updRun p (fun r => { r with next := r.next + 1, chunks := r.chunks ++ [c] }) s
  let fresh : ChunkSt := { idx := k, ownDt := dtNow s }
  if v.run.op = 5 then
    let (j, i) := (sendList v).getD k (0, 0)
    let n := v.run.sends.getD j 0
    let off := (v.run.sends.take j).foldl (· + ·) 0 + i * Config.slotBytes
    let b := tdReadAt s p v.run.src off (min Config.slotBytes (n - i * Config.slotBytes))
    sendMsg p v k { dst := v.comm.members.getD j 0, chunk := i, phase := 5, data := b } (add { fresh with stage := .done } s)
  else if v.isLead then
    if v.run.op = 4 then add fresh s
    else
      let me : PartId × Nat × Nat × Nat × Bool := (p, v.comm.id, v.run.opSeq, k, false)
      let free := slotFree s p && (slotChunks s).all (fun x => x.2.2.2.2 || !slotFree s x.1 || slotLt me x)
      let s := add { fresh with needsSlot := true, granted := free } s
      if free then s else cntPart 0x0010000C 1 p s
  else
    let s := add { fresh with stage := .release } s
    if v.run.op = 3 && v.pos != v.run.root then s
    else sendMsg p v k { dst := v.lead, chunk := k, phase := 0, data := contribution s p v k } s

/-- A chunk whose result is written and whose copies are all acknowledged. DEDUCED: notes/assumptions/53.md. -/
def chunkFinished (c : ChunkSt) : Bool := c.stage == .done && c.outs.isEmpty

/-- Has an ALLTOALLV every block? -/
def blocksIn (v : ColView) : Bool :=
  v.run.op != 5 || (List.range v.members).all (fun q => q == v.pos ||
    (List.range ((v.run.recvs.getD q 0 + Config.slotBytes - 1) / Config.slotBytes)).all (fun k => v.run.blocks.contains (q, k)))

/-- The poison that a run meets in the source bytes that it has yet to read (R448, R464). -/
def sourceFault (s : State) (p : PartId) (v : ColView) : Option CmdErr :=
  if v.run.src.isEmpty || (v.run.next ≥ v.run.total && v.run.chunks.all (fun c => c.stage != .gather)) then none
  else poisonFault s p v.run.src

/-- A run whose source is found poisoned fails, and aborts its communicator (R464). -/
def failSource (p : PartId) (v : ColView) (e : CmdErr) (s : State) : State :=
  cmdFail p 5 (execDesc s p 5) e (abortComm v.run.handle 0x0302 0 (updPart s p (fun q => { q with colRun := none })))

/-- One step of an executing collective that needs no further input; none when it waits. DEDUCED: notes/assumptions/53.md. -/
def colStep (p : PartId) (s : State) : Option State :=
  match colView s p with
  | none => none
  | some v =>
    match sourceFault s p v with
    | some e => some (failSource p v e s)
    | none =>
    match v.run.chunks.findSome? (fun c => chunkStep p v c s) with
    | some s => some s
    | none =>
      if v.run.chunks.any chunkFinished then
        some (updRun p (fun r => { r with chunks := r.chunks.filter (fun c => !chunkFinished c) }) s)
      else if v.run.next < v.run.total ∧ v.run.chunks.length < 8 then some (openChunk p v s)
      else if v.run.next = v.run.total ∧ v.run.chunks.isEmpty ∧ blocksIn v then
        let s := updComm v.run.handle (fun c => { c with opSeq := wrapAdd 32 c.opSeq 1, ops := wrapAdd 64 c.ops 1 }) s
        let s := { s with col := { s.col with named := s.col.named.filter (fun (_, id, seq, _) => !(id == v.comm.id && seq == v.comm.opSeq)) } }
        some (cmdDone p 5 (updPart s p (fun q => { q with colRun := none })))
      else none

-- Receipt of DATA (R388, R395 to R397)

/-- What becomes of a DATA piece. -/
inductive PieceFate where
  /-- Its communicator is not ACTIVE here. -/
  | absent
  /-- It belongs to a chunk taken already. -/
  | late
  /-- It waits in its pool. -/
  | early
  | now
  deriving DecidableEq, Repr

def pieceFate (s : State) (x : Piece) : PieceFate :=
  match findComm s x.commId with
  | none => .absent
  | some (h, c) =>
    if c.state != .active then .absent
    else if x.opSeq ≠ c.opSeq then (if (2 ^ 32 + x.opSeq - c.opSeq) % 2 ^ 32 < 2 ^ 31 then .early else .late)
    else match (getPart s c.part).colRun with
      | none => .early
      | some r =>
        if r.handle ≠ h then .early
        else if r.op ≠ x.op then .now
        else if r.op = 5 then
          (if r.blocks.contains (c.members.findIdx (· == x.src), x.chunk) then .late else .now)
        else if x.chunk ≥ r.next then (if x.chunk ≥ r.total then .now else .early)
        else match findChunk r x.chunk with
          | none => .late
          | some k => if k.needsSlot && !k.granted then .early else if hasInput k (x.src, x.phase, x.round) then .late else .now

def reasmOf (x : Piece) (r : Reasm) : Bool :=
  r.commId == x.commId && r.opSeq == x.opSeq && r.chunk == x.chunk && r.src == x.src && r.phase == x.phase && r.round == x.round
def getReasm (s : State) (x : Piece) : Reasm :=
  (s.col.reasm.find? (reasmOf x)).getD
    { commId := x.commId, opSeq := x.opSeq, chunk := x.chunk, src := x.src, phase := x.phase, round := x.round }
def setReasm (x : Piece) (r : Option Reasm) (s : State) : State :=
  { s with col := { s.col with reasm := s.col.reasm.filter (fun y => !reasmOf x y) ++ r.toList } }

/-- The bytes of a chunk in offset order. -/
def assembled (ps : List (Nat × Bytes)) (n : Nat) : Bytes :=
  (pieceList n).flatMap (fun x => ((ps.find? (fun y => y.1 == x.1)).map (·.2)).getD [])

/-- A whole chunk has arrived and passed its check. -/
def takeChunk (p : PartId) (v : ColView) (x : Piece) (dt : Nat) (data : Bytes) (s : State) : State :=
  if v.run.op = 5 then
    let q := v.comm.members.findIdx (· == x.src)
    let off := (v.run.recvs.take q).foldl (· + ·) 0 + x.chunk * Config.slotBytes
    tdWriteAt p v.run.dst off data (updRun p (fun r => { r with blocks := r.blocks ++ [(q, x.chunk)] }) s)
  else updChunk p x.chunk (fun c => { c with inputs := c.inputs ++ [{ src := x.src, phase := x.phase, round := x.round, data := data, dt := dt }] }) s

/-- Check a chunk when its last piece and all its bytes are there, or when a piece of it was bad.
DEDUCED: notes/assumptions/52.md; DEDUCED: notes/assumptions/53.md. -/
def checkChunk (p : PartId) (v : ColView) (x : Piece) (dt len : Nat) (s : State) : State :=
  let r := getReasm s x
  let data := assembled r.pieces len
  match r.crc with
  | none => s
  | some crc =>
    if !r.bad && data.length < len then s
    else if !r.bad && crc == crc32c data then
      answerChunk p x 2 (takeChunk p v x dt data (setReasm x none s))
    else if r.fails ≥ 3 then raiseAbort v.run.handle 0x0405 0 (setReasm x none s)
    else
      answerChunk p x 3 (cntPart 0x00100008 1 p
        (setReasm x (some { r with pieces := [], crc := none, bad := false, fails := r.fails + 1 }) s))

/-- Does a sender's command differ from this device's in DTYPE, REDOP, ROOT or CAPACITY (R388)? DEDUCED: notes/assumptions/52.md. -/
def opsDiffer (s : State) (v : ColView) (x : Piece) : Bool :=
  s.col.named.any (fun (d, id, seq, o) => d == x.src && id == x.commId && seq == x.opSeq &&
    o != { dtype := v.run.dtype, redop := v.run.redop, root := v.run.root, cap := v.run.cap })

/-- A DATA piece whose turn it is. -/
def dataNow (x : Piece) (dt : Nat) (s : State) : State :=
  match findComm s x.commId with
  | none => s
  | some (h, c) => match colView s c.part with
    | none => s
    | some v =>
      let p := c.part
      let len := expectedLen v x.chunk x.src x.phase x.round
      if x.op ≠ v.run.op ∨ len ≠ some x.chunkLen ∨ opsDiffer s v x then raiseAbort h 0x0104 0 s
      else
        let r := getReasm s x
        let r := { r with
          pieces := if r.pieces.any (fun y => y.1 == x.off) then r.pieces else r.pieces ++ [(x.off, x.payload)]
          crc := if x.last then some x.chunkCrc else r.crc }
        checkChunk p v x dt x.chunkLen (setReasm x (some r) s)

/-- A piece whose PIECE_CRC fails: its chunk is checked as failed (R396), once it holds its slot and its OP_SEQ has come. -/
def dataBad (x : Piece) (dt : Nat) (s : State) : State :=
  match findComm s x.commId with
  | none => s
  | some (_, c) => match colView s c.part with
    | none => s
    | some v =>
      match pieceFate s x, expectedLen v x.chunk x.src x.phase x.round with
      | .now, some len =>
        let r := getReasm s x
        checkChunk c.part v x dt len (setReasm x (some { r with bad := true, crc := if x.last then some 0 else r.crc }) s)
      | _, _ => s

/-- The partition that a COMM_ID names (R385). -/
def commPart (id : Nat) : PartId := ⟨bitsOf id 49 48 % 4, Nat.mod_lt _ (by decide)⟩

/-- Answer that a communicator is not ACTIVE here (R387). DEDUCED: notes/assumptions/52.md. -/
def notPresent (x : Piece) (s : State) : State := sendPiece x.src (commPart x.commId) { commId := x.commId, kind := 8, op := 8 } s

/-- Handle a DATA piece; false when it waits. -/
def dataPiece (src : DevId) (path : Path) (dt : Nat) (b : Bytes) (x : Piece) (s : State) : Bool × State :=
  match pieceFate s x with
  | .absent => (true, notPresent x (leavePool src path b s))
  | .late =>
    let s := leavePool src path b s
    (true, if x.last then answerChunk (commPart x.commId) x 2 s else s)
  | .early => (false, s)
  | .now => (true, dataNow x dt (leavePool src path b s))

/-- Take one waiting piece whose turn has come. DEDUCED: notes/assumptions/52.md. -/
def takeWaiting : List (DevId × Path × Nat × Bytes) → List (DevId × Path × Nat × Bytes) → State → Option State
  | _, [], _ => none
  | done, e :: t, s =>
    match parsePiece e.2.2.2 with
    | none =>
      if pieceFate s (rawPiece e.2.2.2) = .early then takeWaiting (e :: done) t s
      else some (dataBad (rawPiece e.2.2.2) e.2.2.1 { s with col := { s.col with waiting := done.reverse ++ t } })
    | some x =>
      if pieceFate s x = .early then takeWaiting (e :: done) t s
      else
        let s := { s with col := { s.col with waiting := done.reverse ++ t } }
        some (dataPiece e.1 e.2.1 e.2.2.1 e.2.2.2 x s).2

/-- Carry every collective of the partition as far as it goes. -/
def colLoop (p : PartId) : Nat → State → State
  | 0, s => s
  | n + 1, s =>
    match colStep p s with
    | some s => colLoop p n s
    | none => match takeWaiting [] s.col.waiting s with
      | some s => colLoop p n s
      | none => s

/-- A bound on the steps one event can set off. -/
def colFuel (s : State) (p : PartId) : Nat :=
  64 + s.col.waiting.length + (match (getPart s p).colRun with | some r => 64 * (r.total + 1) | none => 0)

def colSettle (p : PartId) (s : State) : State := colLoop p (colFuel s p) s

-- Creation (R386)

/-- A communicator becomes ACTIVE and its COMM_CREATE completes with status 0. -/
def becomeActive (h : Nat) (s : State) : State :=
  match getComm s h with
  | none => s
  | some c =>
    let known := c.members.filterMap (fun d => (getFlow s d c.part.val).epoch.map (fun e => (d, e)))
    let s := updComm h (fun c => { c with state := .active, epochs := known }) s
    let s := { s with col := { s.col with joins := s.col.joins.filter (fun j => j.1 != c.id), named := s.col.named.filter (fun e => e.2.1 != c.id) } }
    match (getStream s c.part 5).exec with
    | some e => if dOp e.desc = 0x6001 ∧ e.base = h ∧ e.phase = .running then
        cmdDone c.part 5 (updStream s c.part 5 (fun x => ctSet x c.resultCt h)) else s
    | none => s

/-- Send READY to a list of members. -/
def sendReady (c : Comm) (ds : List DevId) (s : State) : State :=
  eachOf ds (fun d s => sendPiece d c.part { commId := c.id, kind := 5, op := 7 } s) s

/-- The members of this device's group but itself. -/
def ownMates (s : State) (c : Comm) : List DevId := c.members.filter (fun d => d / 16 == ownId s / 16 && d != ownId s)

/-- READY reaches a creating member: a leader tells its group (R386 steps 5 and 6). -/
def takeReady (h : Nat) (s : State) : State :=
  match getComm s h with
  | none => s
  | some c =>
    if c.state != .creating then s
    else
      let s := becomeActive h s
      if leaderOf c.members (ownId s / 16) = ownId s then sendReady c (ownMates s c) s else s

/-- Judge the JOINs that a creating leader holds (R386 steps 4 and 5). -/
def joinSettle (h : Nat) (s : State) : State :=
  match getComm s h with
  | none => s
  | some c =>
    let me := ownId s
    let has (d : DevId) : Bool := s.col.joins.contains (c.id, d, c.digest)
    if c.state != .creating || c.dup || leaderOf c.members (me / 16) != me || !(ownMates s c).all has then s
    else
      let coord := c.members.headD 0
      let leaders := (groupsOf c.members).map (leaderOf c.members)
      if me ≠ coord then
        if c.sentUp then s
        else sendPiece coord c.part { commId := c.id, kind := 4, op := 7, tag := dTag (execDesc s c.part 5), detail := c.members.length, payload := c.digest }
          (updComm h (fun c => { c with sentUp := true }) s)
      else if (leaders.filter (· ≠ me)).all has then
        takeReady h (sendReady c (leaders.filter (· ≠ me)) s)
      else s

/-- The COMM_ID of a member list (R385). -/
def commId (p : PartId) (coord key : Nat) : Nat := packBits [(coord, 50), (p.val, 48), (key, 0)]

/-- A member list that R220 accepts. -/
def membersOk (s : State) (m : List DevId) : Bool :=
  m.contains (ownId s) && (m.zip (m.drop 1)).all (fun x => decide (x.1 < x.2)) &&
    m.all (fun d => decide (d < 2 ^ 14) && deviceExists s d)

/-- COMM_CREATE ends with a status other than 0. -/
def createFails (p : PartId) (ct status : Nat) (s : State) : State :=
  cmdDone p 5 (updStream s p 5 (fun x => ctSet x ct (0xFF + 256 * status)))

end Sys2Proof.Machine
end

