-- ==== Sys2Proof/Machine/Collectives.lean ====
section
/-!
DEFINITION. Machine/Collectives.lean: the COL stream's commands (spec/08 R220 to R222, spec/15 R386 to R392), the control
pieces (R396, R397, R400 to R403) and the timers of a collective (R386, R395, R400, R402).
-/
namespace Sys2Proof.Machine
open Sys2Proof

-- COMM_CREATE and COMM_DESTROY (R220, R386, R387)

/-- The member list that a COMM_CREATE names. -/
def memberList (s : State) (p : PartId) (td : Nat × Bytes) (n : Nat) : Except CmdErr (List DevId) :=
  (List.range n).foldr (fun k r => match r, idxAt s p td k with
    | .error e, _ => .error e
    | _, .error e => .error e
    | .ok l, .ok v => .ok (v :: l)) (.ok [])

/-- The start of the command that a partition's COL stream executes. -/
def colSince (s : State) (p : PartId) : Nat := match (getStream s p 5).exec with | some e => e.start | none => 0

/-- Start COMM_CREATE with a list that passed its reading. -/
def startCreate (p : PartId) (d : Bytes) (m : List DevId) (s : State) : State :=
  let ct := d8 d 36 % 8
  if !membersOk s m then createFails p ct 2 s
  else match (List.range Config.commMax).find? (fun h => (getComm s h).isNone) with
  | none => createFails p ct 1 s
  | some h =>
    let digest := sha256 (m.flatMap (toLe 4))
    let id := commId p (m.headD 0) (d32 d 32)
    let c : Comm := {
      part := p, id := id, members := m, digest := digest, resultCt := ct, started := colSince s p
      dup := m.headD 0 == ownId s && (commsNamed s id).any (fun x => x.2.state != .aborted) }
    let s := updExec p 5 (fun e => { e with base := h }) (setComm h (some c) s)
    let lead := leaderOf m (ownId s / 16)
    if lead = ownId s then joinSettle h s
    else sendPiece lead p { commId := c.id, kind := 4, op := 7, tag := dTag d, detail := m.length, payload := digest } s

/-- COL.COMM_CREATE. -/
def execColCommCreate (p : PartId) (s : State) : Out :=
  runCmd p 5 0x6001 (fun d s =>
    if (getPart s p).job.replayed then cmdFail p 5 d (badOperand 0) s
    else match useTd s p d 26 false isIndex with
    | .error e => cmdFail p 5 d e s
    | .ok td =>
      if tdElems td.2 < d32 d 28 then cmdFail p 5 d (badOperand 28) s
      else match memberList s p td (d32 d 28) with
      | .error e => cmdFail p 5 d e s
      | .ok m => startCreate p d m (chargeRead p (tdSpace td.2) (4 * d32 d 28) s)) s

/-- COL.COMM_DESTROY. -/
def execColCommDestroy (p : PartId) (s : State) : Out :=
  runCmd p 5 0x6002 (fun d s =>
    let h := d8 d 24
    match getComm s h with
    | some c =>
      if c.part ≠ p ∨ c.state = .creating ∨ (getPart s p).job.replayed ∨ stepUses s p h then cmdFail p 5 d (badOperand 24) s
      else cmdDone p 5 (setComm h none s)
    | none => cmdFail p 5 d (badOperand 24) s) s

-- The operations (R221, R222)

/-- The counts that an ALLTOALLV reads. -/
def countList (s : State) (p : PartId) (d : Bytes) (off n : Nat) : Except CmdErr (List Nat) :=
  match useTd s p d off false isIndex with
  | .error e => .error e
  | .ok td => if tdElems td.2 ≠ n then .error (badOperand off) else memberList s p td n

/-- The operands of an operation on a communicator of M members: the run without its chunks, or the fault. DEDUCED: notes/assumptions/40.md. -/
def colOperands (s : State) (p : PartId) (d : Bytes) (c : Comm) (op : Nat) : Except CmdErr ColRun :=
  let m := c.members.length
  let r : ColRun := { handle := d8 d 24, op := op, dtype := d8 d 25 % 16, redop := bitsOf (d8 d 25) 5 4, root := d16 d 34,
                      cap := d16 d 36, opSeq := c.opSeq, tag := dTag d }
  let sum := op == 0 || op == 2
  if op = 3 ∧ r.root ≥ m then .error (badOperand 34)
  else if op = 4 then .ok r
  else
    let suits (t : Bytes) : Bool := copyable t && (!sum || tdType t == r.dtype)
    let src : Except CmdErr Bytes :=
      if op = 3 ∧ c.members[r.root]? ≠ some (ownId s) then .ok []
      else (useTd s p d 26 false suits).map (·.2)
    match src, useTd s p d 28 true suits with
    | .error e, _ => .error e
    | _, .error e => .error e
    | .ok src, .ok (_, dst) =>
      let r := { r with src := src, dst := dst }
      let pair : Bool := match op with
        | 0 => tdElems src == tdElems dst
        | 1 => tdType src == tdType dst && tdElems dst == m * tdElems src
        | 2 => tdElems src == m * tdElems dst
        | 3 => src.isEmpty || (tdType src == tdType dst && tdElems src == tdElems dst)
        | 6 => tdBytes src == tdBytes dst && r.cap != 0 && tdBytes src % (16 * r.cap) == 0
        | _ => true
      if !pair then .error (badOperand 28)
      else if op ≠ 5 then .ok r
      else match countList s p d 30 m, countList s p d 32 m with
      | .error e, _ => .error e
      | _, .error e => .error e
      | .ok a, .ok b =>
        let i := c.members.findIdx (· == ownId s)
        if a.foldl (· + ·) 0 > tdBytes src then .error (badOperand 30)
        else if b.foldl (· + ·) 0 > tdBytes dst ∨ a.getD i 0 ≠ b.getD i 0 then .error (badOperand 32)
        else .ok { r with sends := a, recvs := b }

/-- Set an operation going: the run, its own ALLTOALLV block, and the chunks that can start. -/
def beginRun (p : PartId) (r : ColRun) (s : State) : State :=
  let s := updPart s p (fun q => { q with colRun := some r })
  match colView s p with
  | none => s
  | some v =>
    let s := updRun p (fun r => { r with total := chunkTotal v }) s
    let s := if r.src.isEmpty then s else touchTd p 5 r.tag r.src s
    let s := if r.op = 5 then
        tdWriteAt p r.dst ((r.recvs.take v.pos).foldl (· + ·) 0)
          (tdReadAt s p r.src ((r.sends.take v.pos).foldl (· + ·) 0) (r.sends.getD v.pos 0)) s
      else s
    colSettle p s

/-- Start a collective operation. -/
def colStart (p : PartId) (op : Nat) (d : Bytes) (s : State) : State :=
  let h := d8 d 24
  match getComm s h with
  | none => cmdFail p 5 d (badOperand 24) s
  | some c =>
    if c.part ≠ p ∨ c.state = .creating ∨ (getPart s p).job.replayed then cmdFail p 5 d (badOperand 24) s
    else if c.state = .aborted then cmdFail p 5 d (abortErr c) s
    else match colOperands s p d c op with
    | .error e => cmdFail p 5 d e s
    | .ok r =>
      match (if r.src.isEmpty then none else poisonFault s p r.src) with
      | some e => cmdFail p 5 d e (abortComm h 0x0302 0 s)
      | none => beginRun p r s

def execColAllreduce (p : PartId) (s : State) : Out := runCmd p 5 0x6010 (colStart p 0) s
def execColAllgather (p : PartId) (s : State) : Out := runCmd p 5 0x6011 (colStart p 1) s
def execColReducescatter (p : PartId) (s : State) : Out := runCmd p 5 0x6012 (colStart p 2) s
def execColBroadcast (p : PartId) (s : State) : Out := runCmd p 5 0x6013 (colStart p 3) s
def execColBarrier (p : PartId) (s : State) : Out := runCmd p 5 0x6014 (colStart p 4) s
def execColAlltoallv (p : PartId) (s : State) : Out := runCmd p 5 0x6015 (colStart p 5) s
def execColBallotMerge (p : PartId) (s : State) : Out := runCmd p 5 0x6016 (colStart p 6) s

-- Control pieces (R387, R396, R397, R400 to R403)

/-- The executing run that a piece names. -/
def runOf (s : State) (x : Piece) : Option (PartId × ColView) :=
  match findComm s x.commId with
  | none => none
  | some (h, c) => match colView s c.part with
    | some v => if v.run.handle = h ∧ v.run.opSeq = x.opSeq then some (c.part, v) else none
    | none => none

/-- Is the held copy the one that an ACK or NACK names? -/
def outNamed (x : Piece) (o : ChunkOut) : Bool := o.dst == x.src && o.chunk == x.chunk && o.phase == x.phase && o.round == x.round

/-- Does a piece name a communicator that is ACTIVE here? -/
def namesActive (s : State) (x : Piece) : Bool := (commsNamed s x.commId).any (fun c => c.2.state == .active)

/-- Answer a control piece whose communicator is not ACTIVE here (R387). -/
def ifActive (x : Piece) (s : State) : State := if namesActive s x then s else notPresent x s

/-- ACK: the producer frees its copy. -/
def ackPiece (x : Piece) (s : State) : State :=
  match runOf s x with
  | none => s
  | some (p, _) => updRun p (fun r => { r with chunks := r.chunks.map (fun c => { c with outs := c.outs.filter (fun o => !outNamed x o) }) }) s

/-- NACK: the producer resends the chunk, with RETX. A member's held copy is its source, so it can resend an acknowledged
contribution until its command completes (R397, R463). DEDUCED: notes/assumptions/53.md. -/
def nackPiece (x : Piece) (s : State) : State :=
  match runOf s x with
  | none => s
  | some (p, v) => match (v.run.chunks.flatMap (·.outs)).find? (outNamed x) with
    | some o => sendChunk p v o true s
    | none =>
      if x.phase = 0 ∧ !v.isLead ∧ x.src = v.lead ∧ (findChunk v.run x.chunk).isSome then
        sendChunk p v { dst := v.lead, chunk := x.chunk, phase := 0, data := contribution s p v x.chunk } true s
      else s

/-- Hold a JOIN: COMM_ID, member, digest. -/
def holdJoin (x : Piece) (s : State) : State :=
  if s.col.joins.contains (x.commId, x.src, x.payload) then s
  else { s with col := { s.col with joins := s.col.joins ++ [(x.commId, x.src, x.payload)] } }

/-- JOIN: held by a leader until its own creation stands; one of another digest is ignored (R386), and one that names a
communicator not ACTIVE is answered (R387). DEDUCED: notes/assumptions/52.md. -/
def joinPiece (x : Piece) (s : State) : State :=
  match findCreating s x.commId with
  | some (h, c) => if x.payload ≠ c.digest then ifActive x s else joinSettle h (holdJoin x (ifActive x s))
  | none => if namesActive s x then s else notPresent x (holdJoin x s)

/-- READY. -/
def readyPiece (x : Piece) (s : State) : State := match findCreating s x.commId with | some (h, _) => takeReady h s | none => ifActive x s

/-- ABORT (R401, R403): a leader passes it on once to its own group. -/
def abortPiece (x : Piece) (s : State) : State :=
  match findComm s x.commId with
  | none => s
  | some (h, c) =>
    if c.state != .active then s
    else
      let code := x.detail % 65536
      let dev := bitsOf x.detail 29 16
      let s := updComm h (fun c => { c with state := .aborted, abortCode := code, abortDev := dev,
                                            noted := if code = 0x0407 && executing s h then c.noted ++ [dev] else c.noted }) s
      let s := if leaderOf c.members (ownId s / 16) = ownId s then sendAbort c code dev (ownMates s c) s else s
      let s := if code = 0x0407 then stepLoses h dev (markUnreachable dev s) else s
      endAborted h s

/-- PROBE. -/
def probePiece (x : Piece) (s : State) : State :=
  match findComm s x.commId with
  | some (h, c) =>
    if c.state == .active then
      sendPiece x.src c.part { commId := c.id, kind := 8, op := 8, opSeq := c.opSeq,
                               detail := 1 + 2 * b2n (executing s h) + 4 * (c.opSeq % 2 ^ 30) } s
    else notPresent x s
  | none => notPresent x s

/-- Forget the unanswered PROBE to a member. -/
def answered (p : PartId) (d : DevId) (s : State) : State :=
  updConj p (fun c => { c with probes := c.probes.filter (fun x => x.1 != d) })
    (updRun p (fun r => { r with probes := r.probes.filter (fun x => x.1 != d) }) s)

/-- Was a device's first unanswered PROBE sent 10 ms ago (R109, R400)? -/
def probeOver (s : State) (probes : List (DevId × Nat)) (d : DevId) : Bool :=
  probes.any (fun x => x.1 == d && decide (dtNow s ≥ x.2 + 10000000))

/-- PROBE_ACK. One with PRESENT 0 and a PART_EPOCH above that of the creation is the epoch notice (R467), which is recorded
for a communicator that an abort has ended, too. -/
def probeAckPiece (x : Piece) (s : State) : State :=
  match findComm s x.commId with
  | none => s
  | some (h, c) =>
    if bitOf x.detail 0 then answered c.part x.src s
    else if c.epochs.any (fun e => e.1 == x.src && e.2 != x.partEpoch && !staleEpoch e.2 x.partEpoch) then
      loseLate h x.src (lostMember h x.src s)
    else lostMember h x.src s

/-- Deliver a piece in its turn. DEDUCED: notes/assumptions/44.md; DEDUCED: notes/assumptions/52.md. -/
def deliverPiece (src : DevId) (path : Path) (dt : Nat) (b : Bytes) (x : Piece) (s : State) : State :=
  let p := commPart x.commId
  let s :=
    if x.kind = 1 then
      match dataPiece src path dt b x s with
      | (true, s) => s
      | (false, s) => { s with col := { s.col with waiting := s.col.waiting ++ [(src, path, dt, b)] } }
    else
      let s := leavePool src path b s
      match x.kind with
      | 2 => ackPiece x (ifActive x s)
      | 3 => nackPiece x (ifActive x s)
      | 4 => joinPiece x s
      | 5 => readyPiece x s
      | 6 => abortPiece x s
      | 7 => probePiece x s
      | 8 => probeAckPiece x s
      | _ => cntPart 0x00100060 1 p s
  colSettle p s

-- Timers

/-- The members whose input an executing collective has lacked for 1 ms (R109, R400). -/
def colMissing (s : State) (p : PartId) : List DevId :=
  match colView s p with
  | none => []
  | some v =>
    let late (t : Nat) : Bool := decide (dtNow s ≥ t + 1000000)
    let chunks := (v.run.chunks.filter (fun c => (!c.needsSlot || c.granted) && late c.ownDt)).flatMap (fun c =>
      ((chunkNeeds v c).filter (fun x => !hasInput c x)).map (·.1))
    let blocks := if v.run.op = 5 && late (colSince s p) then
        (List.range v.members).filterMap (fun q =>
          if q ≠ v.pos ∧ (List.range ((v.run.recvs.getD q 0 + Config.slotBytes - 1) / Config.slotBytes)).any (fun k => !v.run.blocks.contains (q, k))
          then v.comm.members[q]? else none)
      else []
    ((chunks ++ blocks).eraseDups).filter (fun d => v.run.asked.all (fun x => x.1 != d || late x.2))

/-- Ask after a member whose input a run lacks (R400): one to which no path is up is lost; the first PROBE's time is kept. -/
def probeMember (p : PartId) (d : DevId) (s : State) : State :=
  match colView s p with
  | none => s
  | some v =>
    if !pathUp s d then colSettle p (loseFrom v.run.handle d s)
    else
      let s := updRun p (fun r => { r with
        probes := if r.probes.any (fun x => x.1 == d) then r.probes else r.probes ++ [(d, dtNow s)]
        asked := r.asked.filter (fun x => x.1 != d) ++ [(d, dtNow s)] }) s
      sendPiece d p { commId := v.comm.id, kind := 7, op := 8, opSeq := v.run.opSeq } s

/-- COL_PROBE_TIMER (R400): after each 1 ms of waiting the missing members are probed. -/
def execColProbeTimer (p : PartId) (s : State) : Out := .next (eachOf (colMissing s p) (probeMember p) s)

/-- COL_PROBE_TIMEOUT (R400, R401, R469): no PROBE_ACK 10 ms after the first PROBE. -/
def execColProbeTimeout (p : PartId) (dev : DevId) (s : State) : Out :=
  let inRun : Option Nat := match (getPart s p).colRun with
    | some r => if probeOver s r.probes dev then some r.handle else none
    | none => none
  match inRun with
  | some h => .next (colSettle p (loseFrom h dev s))
  | none =>
    match (getPart s p).conj with
    | some c => if probeOver s c.probes dev then .next (colSettle p (lostMember c.comm dev s)) else .next s
    | none => .next s

/-- Does a partition's COL stream execute the COMM_CREATE of a handle? -/
def createsComm (s : State) (p : PartId) (h : Nat) : Bool :=
  match (getStream s p 5).exec with
  | some e => dOp e.desc == 0x6001 && e.base == h && e.phase == .running
  | none => false

/-- A CREATING communicator that waited SYC_WAIT_MS is freed; the COMM_CREATE that executes for it completes with status 3 (R386,
R387). -/
def createLapse (p : PartId) (h : Nat) (s : State) : State :=
  match getComm s h with
  | none => s
  | some c =>
    if c.state != .creating || !waitedOut s c.started then s
    else
      let t := setComm h none { s with col := { s.col with joins := s.col.joins.filter (fun j => j.1 != c.id) } }
      if createsComm s p h then createFails p c.resultCt 3 t else t

/-- COMM_CREATE_TIMEOUT (R386, R387): no READY within SYC_WAIT_MS, whether or not the command still executes. -/
def execCommCreateTimeout (p : PartId) (s : State) : Out := .next (eachOf (commsOf s p) (createLapse p) s)

/-- COL_COMMAND_TIMEOUT (R402): a collective not completed within SYC_WAIT_MS. -/
def execColCommandTimeout (p : PartId) (s : State) : Out :=
  match (getPart s p).colRun with
  | none => .next s
  | some r => if waitedOut s (colSince s p) then .next (raiseAbort r.handle 0x0108 0 s) else .next s

/-- REDUCER_SLOT_GRANT (R395): the lowest waiting chunk that may take a slot gets it. -/
def execReducerSlotGrant (s : State) : Out :=
  match (sortBy slotLt ((slotChunks s).filter (fun x => !x.2.2.2.2))).find? (fun x => slotFree s x.1) with
  | none => .next s
  | some x => .next (colSettle x.1 (updChunk x.1 x.2.2.2.1 (fun c => { c with granted := true }) s))

end Sys2Proof.Machine
end

