-- ==== Sys2Proof/Machine/Failover.lean ====
section
/-!
DEFINITION. Machine/Failover.lean: the takeover of a standby device (spec/19 R490): the DONE words of the staged records, the
restored counters, descriptors and queues, and the failover record.
-/
namespace Sys2Proof.Machine
open Sys2Proof

def updSb (p : PartId) (f : SbPart → SbPart) (s : State) : State := updPart s p (fun q => { q with sb := f q.sb })

-- The sections of a snapshot (R486)

/-- Offsets of the SYC, TD, MODELS and RECORDS sections. -/
def snapSyc : Nat := 512
def snapTd (g : Bytes) : Nat := snapSyc + 8 + 8 * leAt g snapSyc 8
def snapModels (g : Bytes) : Nat := snapTd g + 8 + 40 * leAt g (snapTd g) 8
/-- Models and current slot of the MODELS section. -/
def snapModelCount (g : Bytes) : Nat := leAt g (snapModels g) 1
def snapCurrent (g : Bytes) : Nat := leAt g (snapModels g + 1) 1
def snapRecords (g : Bytes) : Nat := snapModels g + 8 + 72 * snapModelCount g

/-- The TD entries: index and TD. -/
def snapTds (g : Bytes) : List (Nat × Bytes) :=
  let o := snapTd g
  (List.range (leAt g o 8)).map (fun i => (leAt g (o + 8 + 40 * i) 2, bytesAt g (o + 16 + 40 * i) 32))
/-- The model entries: slot, program digest, weights digest. -/
def snapModelList (g : Bytes) : List (Nat × Bytes × Bytes) :=
  let o := snapModels g
  (List.range (snapModelCount g)).map (fun i => (leAt g (o + 8 + 72 * i) 1, bytesAt g (o + 16 + 72 * i) 32, bytesAt g (o + 48 + 72 * i) 32))

/-- `n` staged records from an offset: RECORD_ADDR and the record, whose length follows from its BITMAP_BYTES (R331). -/
def snapRecordList (g : Bytes) : Nat → Nat → List (Nat × Bytes)
  | 0, _ => []
  | n + 1, o =>
    let len := 192 + 2 * leAt g (o + 48) 2
    (leAt g o 8, bytesAt g (o + 8) len) :: snapRecordList g n (o + 8 + len)
def snapStaged (g : Bytes) : List (Nat × Bytes) := snapRecordList g (leAt g (snapRecords g) 8) (snapRecords g + 16)

/-- QUE_ENTERED of a stream. -/
def snapEntered (g : Bytes) (st : StreamId) : Nat := leAt g (64 + 64 * st.val) 4

-- The mirror (R485)

/-- Is a 29-bit index at or above another? -/
def atOrAbove (a b : Nat) : Bool := decide ((2 ^ 29 + a - b % 2 ^ 29) % 2 ^ 29 < 2 ^ 28)

/-- The mirrored descriptors of a stream from a position on. DEDUCED: notes/assumptions/13.md. -/
def mirrorFrom (q : SbPart) (st : StreamId) (entered : Nat) : List Bytes :=
  (q.mirror.filter (fun e => e.1 == st.val && atOrAbove e.2.1 entered)).map (·.2.2)

-- Steps 3 and 4 of R490

/-- Restore one stream from the good snapshot and the mirror. -/
def restoreStream (g : Bytes) (q : SbPart) (st : StreamId) (x : Stream) : Stream :=
  let o := 64 + 64 * st.val
  let ds := mirrorFrom q st (snapEntered g st)
  { (emptyStream x) with
    queue := ds
    entered := wrapAdd 32 (snapEntered g st) ds.length
    ct := Vector.ofFn (fun i => BitVec.ofNat 32 (leAt g (o + 4 + 4 * i.val) 4))
    ringBase := leAt g (o + 36) 8
    ringLog2 := leAt g (o + 44) 4 % 32
    ringEnable := false
    ringHead := leAt g (o + 48) 4
    ringTail := leAt g (o + 48) 4 }

/-- Restore the nonzero sync counters of a snapshot. -/
def restoreSyc (p : PartId) (g : Bytes) (s : State) : State :=
  eachOf (List.range (leAt g snapSyc 8)) (fun i s => sycSetAt p (leAt g (snapSyc + 8 + 8 * i) 4) (leAt g (snapSyc + 12 + 8 * i) 4) s) (clearSyc p s)

/-- A partition of the new active device: what its streams did ends, and its queues, counters and TDs are the mirror's.
DEDUCED: notes/assumptions/56.md. -/
def restorePart (p : PartId) (s : State) : State :=
  let s := eachOf allStreams (fun st s => stopStream p 0x0B02 st s) s
  let s := closeJob p (orphanReads p s)
  let s := updPart s p (fun q => { q with load := none })
  let sb := (getPart s p).sb
  let s := match sb.good with
    | none => eachOf allStreams (fun st s => updStream s p st emptyStream) (clearSyc p s)
    | some g =>
      let s := restoreSyc p g (eachOf allStreams (fun st s => updStream s p st (restoreStream g sb st)) s)
      let cur := ((getPart s p).models.find? (fun m => m.slot == snapCurrent g)).map (·.handle)
      updPart s p (fun q => { q with tds := sb.tds, recordSeq := leAt g 16 2, curModel := cur.getD q.curModel })
  let left := if sb.good.isSome then allStreams.map (fun st => ((getStream s p st).queue).length) else List.replicate 7 0
  let s := updSb p (fun b => { b with
    covered := false
    resolve := []
    mirror := []
    replayLeft := left
    resume := allStreams.map (fun st => (getStream s p st).entered) }) s
  let s := record p { code := 0x0B02, cls := .corrected, source := 0xF, detail0 := sb.goodEpoch } s
  settleReleased p (msixPart p 8 s)

-- Steps 1 and 2 of R490

/-- A new buffer is discarded (R487). DEDUCED: notes/assumptions/56.md. -/
def tornSnapshot (p : PartId) (s : State) : State :=
  let e := (getPart s p).sb.newEpoch
  let s := cntPart 0x00020118 1 p (updSb p (fun b => { b with newBuf := [], newFilling := false }) s)
  record p { code := 0x0B01, cls := .corrected, source := 0xF, detail0 := e } s

/-- Offset of the DONE word of a record. -/
def doneOffset (r : Bytes) : Nat := 184 + 2 * leAt r 40 2

/-- Read the DONE word of the next record, or go on when none is left. DEDUCED: notes/assumptions/56.md. -/
def readDone (p : PartId) (s : State) : State :=
  match (getPart s p).sb.resolve with
  | [] => restorePart p s
  | (a, r) :: _ =>
    if (portOf s p).isNone then restorePart p s
    else hostRead p ((a + doneOffset r) % 2 ^ 64) 8 (fun _ => .doneWord) (updSb p (fun b => { b with resolveGot := [] }) s)

/-- The DONE word is known: the record counts as issued, or it and every later one is written whole, in order. DEDUCED: notes/assumptions/56.md. -/
def doneJudge (p : PartId) (found : Bool) (s : State) : State :=
  match (getPart s p).sb.resolve with
  | [] => s
  | rs =>
    if found then readDone p (updSb p (fun b => { b with resolve := rs.drop 1, resolveGot := [] }) s)
    else restorePart p (eachOf rs (fun r s => issueRecord p r.1 r.2 0 0 s) s)

/-- Bytes of the DONE word arrive. -/
def doneArrive (p : PartId) (b : Bytes) (s : State) : State :=
  let got := (getPart s p).sb.resolveGot ++ b
  match (getPart s p).sb.resolve with
  | [] => s
  | (_, r) :: _ =>
    if got.length < 8 then updSb p (fun x => { x with resolveGot := got }) s
    else doneJudge p (got.take 8 == bytesAt r (doneOffset r) 8) s

/-- The device becomes ACTIVE in a failover (R480, R490). DEDUCED: notes/assumptions/56.md. -/
def failover (cause : Nat) (s : State) : State :=
  let s := cntDev 0x00010108 1 (setSb .active { s with pair := { s.pair with lastCause := cause, noWitness := false } })
  eachOf (definedParts s) (fun p s =>
    let s := if (getPart s p).sb.newFilling then tornSnapshot p s else s
    let sb := (getPart s p).sb
    readDone p (updSb p (fun b => { b with resolve := if sb.covered then (sb.good.map snapStaged).getD [] else [] }) s)) s

end Sys2Proof.Machine
end

