-- ==== Sys2Proof/Machine/Models.lean ====
section
/-!
DEFINITION. Machine/Models.lean: loading and unloading models (spec/08 R228 to R232): the manifest and its checks, the fit
and placement checks (spec/16 R426, spec/02 R33, R42, spec/04 R86), the checks of the sections once copied (spec/09 R252,
R253, spec/10 R258, R260, spec/11 R285), the digests and the report.
-/
namespace Sys2Proof.Machine
open Sys2Proof

/-- A refusal: code, sub-reason, detail. -/
abbrev Refuse := Nat × Nat × Nat
/-- CMD_OPERAND at a byte offset of the manifest. -/
def badField (o : Nat) : Refuse := (0x0104, 0, o)
/-- LOAD_NO_FIT with a sub-reason (R426). -/
def noFit (sub : Nat) : Refuse := (0x0201, sub, 0)

/-- The first failing check of a list. -/
def firstFail (l : List (Bool × Refuse)) : Option Refuse := (l.find? (fun e => !e.1)).map (·.2)

-- The manifest (R229)

/-- A field of the manifest header. -/
def hField (h : Bytes) (o n : Nat) : Nat := leAt h o n
def hSections (h : Bytes) : Nat := hField h 0x13 1
/-- Fields of section entry `i`: KIND, HOST_ADDR, LENGTH, HBM_OFFSET. -/
def entOff (i : Nat) : Nat := 0x80 + 32 * i
def entKind (h : Bytes) (i : Nat) : Nat := hField h (entOff i) 1
def entAddr (h : Bytes) (i : Nat) : Nat := hField h (entOff i + 8) 8
def entLen (h : Bytes) (i : Nat) : Nat := hField h (entOff i + 16) 8
def entHbm (h : Bytes) (i : Nat) : Nat := hField h (entOff i + 24) 8
/-- The index of the section of a kind. -/
def entOf (h : Bytes) (kind : Nat) : Option Nat := (List.range (hSections h)).find? (fun i => entKind h i == kind)

/-- A dimension: 64 to `hi`, a multiple of 64. -/
def dimOk (v hi : Nat) : Bool := decide (64 ≤ v) && decide (v ≤ hi) && v % 64 == 0
def within (v lo hi : Nat) : Bool := decide (lo ≤ v) && decide (v ≤ hi)

/-- Step 1 of R230 over the header: fields in offset order. DEDUCED: notes/assumptions/46.md. -/
def headerFault (h : Bytes) : Option Refuse :=
  let f := hField h
  firstFail (
    [(f 0 4 == 0x4C444F4D, badField 0), (f 4 1 == 1, badField 4), (f 6 1 / 4 == 0, badField 6), (f 7 1 ≤ 2, badField 7),
     (within (f 8 2) 1 256, badField 8), (within (f 10 2) 1 4096, badField 10), (dimOk (f 12 2) 16384, badField 12),
     (dimOk (f 14 2) 32768, badField 14), (dimOk (f 16 2) 32768, badField 16), (within (f 0x12 1) 1 16, badField 0x12),
     (within (f 0x13 1) 1 8, badField 0x13), (f 0x14 2 != 0, badField 0x14), (within (f 0x24 1) 1 64, badField 0x24),
     (allZero (bytesAt h 0x25 27), badField 0x25)] ++
    (List.range 8).flatMap (fun i =>
      if i ≥ hSections h then [(allZero (bytesAt h (entOff i) 32), badField (entOff i))]
      else
        let k := entKind h i
        [(within k 1 7 && (List.range i).all (fun j => entKind h j != k), badField (entOff i)),
         (allZero (bytesAt h (entOff i + 1) 7), badField (entOff i + 1)),
         (k != 3 || entLen h i == 16 * f 8 2 * f 10 2, badField (entOff i + 16)),
         (k != 5 || (entLen h i % 40 == 0 && decide (entLen h i ≤ 40 * 4096)), badField (entOff i + 16)),
         (entHbm h i % 64 == 0, badField (entOff i + 24))]) ++
    ([1, 3, 4, 6, 7] ++ (if bitOf (f 6 1) 1 then [2] else [])).map (fun k => ((entOf h k).isSome, badField 0x13)))

/-- The TD list (R229): entries of 40 bytes. -/
def tdEntries (b : Bytes) : List (Nat × Bytes × Bytes) :=
  (List.range (b.length / 40)).map (fun i => (leAt b (40 * i) 2, bytesAt b (40 * i + 2) 6, bytesAt b (40 * i + 8) 32))

/-- Step 1 over the TD list: no index twice or above 4,095, reserved bytes zero, every TD valid by R181. -/
def tdListFault (s : State) (p : PartId) (h b : Bytes) : Option Refuse :=
  let es := tdEntries b
  let at_ := badField (match entOf h 5 with | some i => entOff i | none => 0)
  firstFail [(es.all (fun e => decide (e.1 < 4096) && allZero e.2.1) && (es.map (·.1)).eraseDups.length == es.length, at_),
             (es.all (fun e => tdValid e.2.2 && (tdCheck s p e.2.2).isNone), at_)]

/-- The manifest as a model that is not yet resident. -/
def manifestModel (h : Bytes) : Model :=
  let f := hField h
  { cmdset := f 5 1, localDispatch := bitOf (f 6 1) 0, hasShadow := bitOf (f 6 1) 1, wdtype := f 7 1, layers := f 8 2, experts := f 10 2
    dmodel := f 12 2, hidden := f 14 2, homeHidden := f 16 2, topk := f 0x12 1, capacityTc := f 0x14 2, spoolKib := f 0x1C 4
    reelKib := f 0x20 4, sections := (List.range (hSections h)).map (fun i => { kind := entKind h i, offset := entHbm h i, length := entLen h i }) }

-- Step 3: the fit check (R426)

/-- Half-open byte ranges. -/
def rangesMeet (a b : Nat × Nat) : Bool := decide (a.1 < b.2) && decide (b.1 < a.2) && decide (a.1 < a.2) && decide (b.1 < b.2)
/-- Do any two of a list of ranges overlap? -/
def anyMeet : List (Nat × Nat) → Bool
  | [] => false
  | a :: t => t.any (rangesMeet a) || anyMeet t

/-- Do ranges of two different lists overlap? -/
def groupsMeet : List (List (Nat × Nat)) → Bool
  | [] => false
  | a :: t => t.any (fun b => a.any (fun x => b.any (rangesMeet x))) || groupsMeet t

/-- The HBM ranges of a model: its sections and its Ballast (R256). -/
def modelRanges (m : Model) : List (Nat × Nat) :=
  m.sections.map (fun x => (x.offset, x.offset + x.length)) ++
    [(m.ballastOffset, m.ballastOffset + m.ballastRows * (2 * m.dmodel + 64))]

/-- The region less its backing region with a model more (R319). -/
def roomWith (s : State) (p : PartId) (m : Model) (ec : Bool) : Nat :=
  let ms := (getPart s p).models
  let d := (ms.map (·.dmodel)).foldl max m.dmodel
  let h := if ec || ms.any (hasEc s p) then 15 else (ms.map (·.topk)).foldl max m.topk - 1
  hbmSize s p - backingFor (partCfg s p).tokenSlots d h

/-- Do the model's ranges fit (sub-reason HBM region)? The range of an enabled trace ring counts as occupied (R608). -/
def hbmFits (s : State) (p : PartId) (m : Model) (ec : Bool) : Bool :=
  let ms := (getPart s p).models
  let top := roomWith s p m ec
  let mine := modelRanges m
  let t := (getPart s p).trace
  let rest := ms.flatMap modelRanges ++ (if bitOf t.ctl 0 then [(t.base, t.base + t.size)] else [])
  (mine ++ rest).all (fun r => decide (r.2 ≤ top)) && !anyMeet mine && !mine.any (fun r => rest.any (rangesMeet r))

/-- Do the expert sections alone fit in the region less its backing region (sub-reason experts per device)? Where the backing
region alone exceeds the region, the sub-reason is HBM region (R319). -/
def weightsFit (s : State) (p : PartId) (m : Model) (ec : Bool) : Bool :=
  roomWith s p m ec == 0 || decide (secLen m 6 + secLen m 7 ≤ roomWith s p m ec)

/-- Clusters that hold expert weights: CLUSTER_MASK less URGENT_MASK. -/
def weightClusters (s : State) (p : PartId) : Nat :=
  ((List.range 8).filter (fun c => bitOf (partCfg s p).clusterMask c && !bitOf (partCfg s p).urgentMask c)).length

/-- Does the largest pinned footprint leave 1 MiB of a share unpinned (R318)? -/
def pinnedOk (mib : Nat) (kibs : List Nat) : Bool := decide (kibs.foldl max 0 * 1024 + 2 ^ 20 ≤ mib * 2 ^ 20)

/-- The checks of R426 that the header decides: codes 1 to 5, and 6 as far as no table is needed. -/
def fitFault (s : State) (p : PartId) (h : Bytes) (m : Model) : Option Refuse :=
  let c := partCfg s p
  firstFail [
    (residentModels s < 16, noFit 1), (hField h 0x18 4 ≤ 1024, noFit 4), (hField h 0x16 2 ≤ c.sycCount, noFit 5),
    (c.clusterMask != 0 && weightsFit s p m false, noFit 6)]

-- Step 4: placement (R33, R42, R86, R426)

/-- The replica words of a map entry. -/
def mapWords (b : Bytes) (k : Nat) : List Nat := (List.range 4).map (fun i => leAt b (16 * k + 4 * i) 4)
/-- The valid replicas: device and cluster. -/
def mapReplicas (ws : List Nat) : List (DevId × Nat) := (ws.filter (fun w => bitOf w 17)).map (fun w => (bitsOf w 13 0, bitsOf w 16 14))

/-- Is a map entry well formed for this device? -/
def entryOk (s : State) (p : PartId) (m : Model) (ws : List Nat) : Bool :=
  let rs := mapReplicas ws
  let c := partCfg s p
  ws.all (fun w => w / 2 ^ 18 == 0) && ((ws.dropWhile (fun w => bitOf w 17)).all (fun w => !bitOf w 17)) &&
    (rs.map (·.1)).eraseDups.length == rs.length &&
    rs.all (fun (d, k) =>
      (d != ownId s || (bitOf c.clusterMask k && !bitOf c.urgentMask k)) &&
      deviceExists s d) &&
    (!m.localDispatch || rs.map (·.1) == [ownId s])


-- The checks of the copied sections (R252, R258, R285)

/-- A finite FP32 value. -/
def finite32 (w : Nat) : Bool := bitsOf w 30 23 != 0xFF

/-- R251, R252 over a kind 6 or kind 7 section. -/
def weightsOk (s : State) (p : PartId) (m : Model) (kind : Nat) : Bool :=
  let home := kind = 7
  let n := if home then 1 else m.experts
  let mat := 3 * m.dmodel * (if home then m.homeHidden else m.hidden) * wSize m
  let table := (16 * n + 63) / 64 * 64
  let len := secLen m kind
  let blk (off e : Nat) : Nat := leAt (secRead s p m kind (off + 16 * e) 16) 12 4
  decide (16 * m.layers ≤ len) &&
  ((List.range m.layers).foldl (fun (a : Bool × Nat) l =>
    let e := secRead s p m kind (16 * l) 16
    let off := leAt e 8 8
    let res := ((List.range n).map (blk off)).filter (· ≠ 0xFFFFFFFF)
    let fine := leAt e 0 1 ≤ 5 && allZero (bytesAt e 1 7) && off % 64 == 0 && decide (a.2 ≤ off) && decide (off + table ≤ len) &&
      (List.range n).all (fun x => (List.range 3).all (fun j => finite32 (leAt (secRead s p m kind (off + 16 * x) 16) (4 * j) 4))) &&
      res == List.range res.length && (!home || res.length == 1) &&
      allZero (secRead s p m kind (off + 16 * n) (table - 16 * n)) && decide (off + table + res.length * mat ≤ len)
    (a.1 && fine, off + table + res.length * mat)) (true, 16 * m.layers)).1

/-- Resident experts of a layer. -/
def residentIn (s : State) (p : PartId) (m : Model) (l : Nat) : Nat := ((List.range m.experts).filter (residentExpert s p m l)).length

/-- R256 to R258 over the router tables. -/
def routerOk (s : State) (p : PartId) (m : Model) : Bool :=
  let len := secLen m 1
  let h := secRead s p m 1 0 64
  let ent (l : Nat) : Bytes := secRead s p m 1 (64 + 64 * l) 64
  let gate := m.experts * m.dmodel * 2
  let bias (l : Nat) : Bool := bitOf (leAt (ent l) 2 1) 1
  let tables := (List.range m.layers).map (fun l =>
    [(leAt (ent l) 16 8, leAt (ent l) 16 8 + gate)] ++ (if bias l then [(leAt (ent l) 24 8, leAt (ent l) 24 8 + 4 * m.experts)] else []))
  decide (64 + 64 * m.layers ≤ len) && leAt h 0 2 == m.layers && leAt h 2 2 == 0 && within (leAt h 4 4) 64 (2 ^ 24) &&
    leAt h 8 8 % 64 == 0 && allZero (bytesAt h 16 48) &&
    (List.range m.layers).all (fun l =>
      let e := ent l
      leAt e 0 1 ≤ 1 && leAt e 1 1 ≤ 2 && leAt e 2 1 < 8 && leAt e 3 1 == 0 && leAt e 6 2 == 0 &&
        finite32 (leAt e 8 4) && !bitOf (leAt e 8 4) 31 && bitsOf (leAt e 8 4) 30 0 != 0 && finite32 (leAt e 12 4) &&
        leAt e 16 8 % 64 == 0 && leAt e 24 8 % 64 == 0 && (bias l || leAt e 24 8 == 0) && allZero (bytesAt e 32 32) &&
        (!bias l || (List.range m.experts).all (fun x => finite32 (leNat (secRead s p m 1 (leAt e 24 8 + 4 * x) 4))))) &&
    tables.flatten.all (fun r => decide (r.2 ≤ len)) && !groupsMeet tables

/-- R284, R285 over the shadow gate. -/
def shadowOk (s : State) (p : PartId) (m : Model) : Bool :=
  let len := secLen m 2
  let h := secRead s p m 2 0 64
  let r := leAt h 2 2
  let ent (l : Nat) : Bytes := secRead s p m 2 (64 + 32 * l) 32
  let on (l : Nat) : Bool := bitOf (leAt (ent l) 0 1) 0
  let tables := ((List.range m.layers).filter on).map (fun l =>
    [(leAt (ent l) 8 8, leAt (ent l) 8 8 + m.dmodel * r * 2), (leAt (ent l) 16 8, leAt (ent l) 16 8 + m.experts * r * 2)])
  decide (64 + 32 * m.layers ≤ len) && leAt h 0 2 == m.layers && within r 16 256 && r % 16 == 0 && leAt h 4 2 ≤ 4096 &&
    allZero (bytesAt h 6 58) &&
    (List.range m.layers).all (fun l =>
      let e := ent l
      leAt e 0 1 ≤ 1 && allZero (bytesAt e 1 3) && allZero (bytesAt e 24 8) &&
        (if on l then (routerLayer s p m l).mode == 0 && finite32 (leAt e 4 4) && (!bitOf (leAt e 4 4) 31 || leAt e 4 4 == 0x80000000) &&
            leAt e 8 8 % 64 == 0 && leAt e 16 8 % 64 == 0
          else allZero (bytesAt e 4 20))) &&
    tables.flatten.all (fun t => decide (t.2 ≤ len)) && !groupsMeet tables

/-- Bytes that SPOOL_KIB must include: the gate matrix (R260), the largest shadow matrices and the hold area (R285). -/
def spoolNeed (s : State) (p : PartId) (m : Model) : Nat :=
  let h := secRead s p m 2 0 64
  min (m.experts * m.dmodel * 2) (32 * 2 ^ 20) + (if m.hasShadow then
    (if (List.range m.layers).any (fun l => bitOf (leNat (secRead s p m 2 (64 + 32 * l) 1)) 0) then (m.dmodel + m.experts) * leAt h 2 2 * 2 else 0) +
      leAt h 4 2 * 4 * m.dmodel
    else 0)

/-- Does the map name this device for an expert without a block (R253)? -/
def mapUnbacked (s : State) (p : PartId) (m : Model) : Bool :=
  (List.range m.layers).any (fun l => (List.range m.experts).any (fun e =>
    (mapReplicas (mapWords (secRead s p m 3 (16 * (l * m.experts + e)) 16) 0)).any (fun r => r.1 == ownId s) && !residentExpert s p m l e))

/-- The checks of R426 that need the tables, in its order: the rest of code 6, then 7 to 10. `t` is the state with the sections as
received in place, `b` the placement map. DEDUCED: notes/assumptions/46.md. -/
def placeFault (s t : State) (p : PartId) (m : Model) (b : Bytes) : Option Refuse :=
  let c := partCfg s p
  let ms := (getPart s p).models
  let es := (List.range (m.layers * m.experts)).map (mapWords b)
  let here (l : Nat) : Nat := (((es.drop (l * m.experts)).take m.experts).filter (fun ws => (mapReplicas ws).any (fun r => r.1 == ownId s))).length
  let ec := hasEc t p m
  firstFail [
    ((List.range m.layers).all (fun l => decide (max (here l) (residentIn t p m l) ≤ 64 * weightClusters s p)), noFit 6),
    (weightsFit s p m ec, noFit 6),
    (pinnedOk c.spoolMib (m.spoolKib :: ms.map (·.spoolKib)) && decide (spoolNeed t p m ≤ m.spoolKib * 1024), noFit 7),
    (pinnedOk c.reelMib (m.reelKib :: ms.map (·.reelKib)), noFit 8),
    (hbmFits s p m ec, noFit 9),
    ((!m.localDispatch || (s.cfg.home[p]).localAllowed) && es.all (entryOk s p m) && !mapUnbacked t p m, noFit 10)]

/-- The format checks after the copy (R252, R258, R285). -/
def copiedFault (s : State) (p : PartId) (h : Bytes) (m : Model) : Option Refuse :=
  let at_ (k : Nat) : Refuse := badField (match entOf h k with | some i => entOff i | none => 0)
  firstFail [(weightsOk s p m 6, at_ 6), (weightsOk s p m 7, at_ 7), (routerOk s p m, at_ 1), (!m.hasShadow || shadowOk s p m, at_ 2)]

-- The course of a load (R228, R230, R231)

def updLoad (p : PartId) (f : Load → Load) (s : State) : State := updPart s p (fun q => { q with load := q.load.map f })

/-- The manifest header received. DEDUCED: notes/assumptions/46.md. -/
def loadHead (x : Load) : Bytes := memReadN x.header 0 384

/-- The load is decided: its report is due. -/
def loadDecide (p : PartId) (r : Refuse) (s : State) : State := updLoad p (fun x => { x with stage := 4, code := r.1, sub := r.2.1, detail := r.2.2 }) s

/-- Section `i` as received. DEDUCED: notes/assumptions/46.md. -/
def loadSection (x : Load) (h : Bytes) (i : Nat) : Bytes := memReadN (x.data.getD i []) 0 (entLen h i)
/-- Section of a kind as received. DEDUCED: notes/assumptions/46.md. -/
def loadKind (x : Load) (h : Bytes) (k : Nat) : Bytes := match entOf h k with | some i => loadSection x h i | none => []

/-- A section enters HBM with the poison of what failed to arrive (R145, R230). -/
def placeSection (p : PartId) (x : Load) (h : Bytes) (i : Nat) (s : State) : State :=
  let s := spaceWrite p 0 (entHbm h i) (loadSection x h i) s
  eachOf (x.bad.filter (fun b => b.1 == i)) (fun b s => spaceMark p 0 (entHbm h i + b.2.1) b.2.2 s) s

/-- Bytes of a list of kinds, in manifest order. -/
def kindBytes (x : Load) (h : Bytes) (ks : List Nat) : Bytes :=
  ((List.range (hSections h)).filter (fun i => ks.contains (entKind h i))).flatMap (loadSection x h)

/-- The lowest free model slot of the partition. -/
def freeModelSlot (q : Part) : Nat := ((List.range 16).find? (fun i => q.models.all (fun m => m.slot != i))).getD 0

/-- Models resident on the device: PRT_RESIDENT.DEVICE_COUNT (R429). -/
def deviceModels (s : State) : Nat := (allParts.map (fun p => (getPart s p).models.length)).foldl (· + ·) 0

/-- The models of a partition have changed: policy event 0x0010 (R572). DEDUCED: notes/assumptions/47.md. -/
def modelsChanged (p : PartId) (s : State) : State := mgtEvent 0x0010 p.val (deviceModels s) s

/-- The model becomes resident: its handle, and the TDs of its TD list, READ_ONLY (R181, R231). DEDUCED: notes/assumptions/47.md. -/
def makeResident (p : PartId) (x : Load) (h : Bytes) (m : Model) (s : State) : State :=
  let q := getPart s p
  let slot := freeModelSlot q
  let handle := slot + 16 * (q.loadSeq + 1)
  let es := tdEntries (loadKind x h 5)
  let m := { m with slot := slot, handle := handle, tds := es.map (fun e => (e.1, bytesAt e.2.2 0 28 ++ toLe 4 1)) }
  let s := updPart s p (fun q => { q with models := q.models ++ [m], loadSeq := q.loadSeq + 1 })
  let s := eachOf m.tds (fun e s => tdPut p e.1 e.2 s) s
  modelsChanged p (updLoad p (fun y => { y with handle := handle }) s)

/-- The sections as received, in place. -/
def placeAll (p : PartId) (x : Load) (s : State) : State :=
  eachOf (List.range (hSections (loadHead x))) (placeSection p x (loadHead x)) s

/-- The manifest with what the headers of its router and shadow sections add (R256, R284). -/
def tableModel (s : State) (p : PartId) (h : Bytes) : Model :=
  let m := manifestModel h
  let t := secRead s p m 1 0 64
  { m with ballastRows := leAt t 4 4, ballastOffset := leAt t 8 8, holdRows := if m.hasShadow then leAt (secRead s p m 2 0 64) 4 2 else 0 }

/-- Every check has passed: copy, check the formats, digest, keep (R230). DEDUCED: notes/assumptions/47.md. -/
def loadCopied (p : PartId) (s : State) : State :=
  match (getPart s p).load with
  | none => s
  | some x =>
    let h := loadHead x
    let s := placeAll p x s
    let total := ((List.range (hSections h)).map (entLen h)).foldl (· + ·) 0
    let s := updLoad p (fun y => { y with bytes := total }) s
    let m := tableModel s p h
    match copiedFault s p h m with
    | some r => loadDecide p r s
    | none =>
      let pd := sha256 (loadKind x h 4)
      let wd := sha256 (kindBytes x h [1, 2, 6, 7])
      let m := { m with programDigest := pd, weightsDigest := wd }
      let s := updLoad p (fun y => { y with programDigest := pd, weightsDigest := wd }) s
      let wants (o : Nat) (d : Bytes) : Bool := allZero (bytesAt h o 32) || bytesAt h o 32 == d
      if !wants 0x40 pd then loadDecide p (0x0202, 1, 0) s
      else if !wants 0x60 wd then loadDecide p (0x0202, 2, 0) s
      else if 16 ≤ residentModels s then loadDecide p (noFit 1) s
      else
        let s := updLoad p (fun y => { y with bytes := total + m.ballastRows * (2 * m.dmodel + 64) }) s
        loadDecide p (0, 0, 0) (makeResident p x h m s)

/-- Ask for the sections of some kinds as stage `n`; with nothing to read the stage ends at once. DEDUCED: notes/assumptions/46.md. -/
def loadFetch (p : PartId) (n : Nat) (want : Nat → Bool) (done : State → State) (s : State) : State :=
  match (getPart s p).load with
  | none => s
  | some x =>
    let h := loadHead x
    let is := (List.range (hSections h)).filter (fun i => want (entKind h i))
    let total := (is.map (entLen h)).foldl (· + ·) 0
    let s := updLoad p (fun y => { y with stage := n, left := total }) s
    if total = 0 then done s
    else eachOf is (fun i s => hostRead p (entAddr h i) (entLen h i) (fun o => .section_ i o) s) s

/-- Every section has arrived: the rest of step 3, steps 4 and 5, then the copy. DEDUCED: notes/assumptions/46.md. -/
def loadPlaced (p : PartId) (s : State) : State :=
  match (getPart s p).load with
  | none => s
  | some x =>
    let h := loadHead x
    let t := placeAll p x s
    let m := tableModel t p h
    let held := (tdEntries (loadKind x h 5)).any (fun e => (getPart s p).models.any (fun m => m.tds.any (fun y => y.1 == e.1)))
    match placeFault s t p m (loadKind x h 3) with
    | some r => loadDecide p r s
    | none =>
      if held then loadDecide p (badField (match entOf h 5 with | some i => entOff i | none => 0)) s
      else loadCopied p s

/-- The TD list has arrived: the rest of step 1, steps 2 and 3, then the other sections. DEDUCED: notes/assumptions/46.md. -/
def loadListed (p : PartId) (s : State) : State :=
  match (getPart s p).load with
  | none => s
  | some x =>
    let h := loadHead x
    let m := manifestModel h
    match tdListFault s p h (loadKind x h 5) with
    | some r => loadDecide p r s
    | none =>
      if m.cmdset ≠ 1 then loadDecide p (0x0203, 0, m.cmdset) s
      else match fitFault s p h m with
      | some r => loadDecide p r s
      | none => loadFetch p 2 (· != 5) (loadPlaced p) s

/-- The header has arrived: step 1, then the TD list. DEDUCED: notes/assumptions/46.md. -/
def loadHeaded (p : PartId) (s : State) : State :=
  match (getPart s p).load with
  | none => s
  | some x =>
    match headerFault (loadHead x) with
    | some r => loadDecide p r s
    | none => loadFetch p 1 (· == 5) (loadListed p) s

/-- The 128 bytes of the report (R231). -/
def reportBytes (s : State) (x : Load) : Bytes :=
  toLe 2 x.code ++ toLe 2 (if x.code = 0x0201 then x.sub else 0) ++ toLe 4 (if x.code = 0 then x.handle else 0) ++ toLe 8 x.bytes ++
    toLe 8 (dtNow s) ++ List.replicate 40 0 ++ bytesAt x.programDigest 0 32 ++ bytesAt x.weightsDigest 0 32

/-- Write the report when the host can be written to; when it is issued, complete or fault (R231). DEDUCED: notes/assumptions/45.md. -/
def loadReport (p : PartId) (d : Bytes) (s : State) : State :=
  match (getPart s p).load with
  | none => s
  | some x =>
    let s := if x.stage = 4 && hostReady s p then
        updPart (hostWrite p .report (d64 d 40) (reportBytes s x) s) p (fun q => { q with load := some { x with stage := 5 } })
      else s
    if ((getPart s p).load.map (·.stage)) ≠ some 5 || writesWait s p .report then s
    else
      let s := updStream (updPart s p (fun q => { q with load := none })) p 6 (fun y => ctSet y (d8 d 48 % 8) (if x.code = 0 then x.handle else 0))
      if x.code = 0 then cmdDone p 6 s else cmdFail p 6 d { code := x.code, sub := x.sub, detail := x.detail } s

/-- Bytes of a load arrive at an offset of the header or of a section. -/
def loadArrive (p : PartId) (sec : Option Nat) (off : Nat) (b : Bytes) (bad : Bool) (s : State) : State :=
  match (getPart s p).load with
  | none => s
  | some x =>
    let x := match sec with
      | none => { x with header := memWriteN x.header off b }
      | some i => { x with data := listUpd x.data i (fun m => memWriteN m off b), bad := if bad then x.bad ++ [(i, off, b.length)] else x.bad }
    let x := { x with left := x.left - b.length }
    let s := updPart s p (fun q => { q with load := some x })
    if x.left ≠ 0 then s
    else match x.stage with
    | 0 => loadHeaded p s
    | 1 => loadListed p s
    | 2 => loadPlaced p s
    | _ => s

/-- XFR_LOAD_MODEL (R228 to R231). -/
def execXfrLoadModel (p : PartId) (s : State) : Out :=
  .next (runXfr p 0x7010 (fun d s =>
    if (getPart s p).job.model ≠ 0 then cmdFail p 6 d (badOperand 0) s
    else hostRead p (d64 d 32) 384 (fun o => .manifest o) (updPart s p (fun q => { q with load := some {} }))) (loadReport p) s)

/-- Does the placement in force name this device as a replica of the model (R36)? The map that resolves its clauses (R37).
DEDUCED: notes/assumptions/47.md. -/
def placedHere (s : State) (p : PartId) (m : Model) : Bool :=
  (List.range m.layers).any (fun l => (List.range m.experts).any (fun e => (replicas s p m l e).any (fun r => r.1 == ownId s)))

/-- A partition without a model: its handle, its place as current model and its gate buffer (R228). DEDUCED: notes/assumptions/47.md. -/
def forgetModel (h : Nat) (q : Part) : Part :=
  { q with
    models := q.models.filter (fun x => x.handle != h)
    curModel := if q.curModel = h then 0 else q.curModel
    gateBuf := if q.gateBuf.any (fun x => x.1 == h) then none else q.gateBuf }

/-- XFR_UNLOAD_MODEL (R232). DEDUCED: notes/assumptions/47.md. -/
def execXfrUnloadModel (p : PartId) (s : State) : Out :=
  .next (runXfr p 0x7011 (fun d s =>
    match modelOf (getPart s p) (d32 d 28) with
    | none => cmdFail p 6 d (badOperand 28) s
    | some m =>
      if m.handle = (getPart s p).job.model || placedHere s p m then cmdFail p 6 d (badOperand 28) s
      else
        let s := eachOf m.tds (fun e s => tdPut p e.1 (List.replicate 32 0) s) s
        cmdDone p 6 (modelsChanged p (updPart s p (forgetModel m.handle)))) (fun _ s => s) s)

-- The XFR stream goes on (R227)

/-- Carry on whatever host transfer the XFR stream executes. -/
def xfrAdvance (p : PartId) (s : State) : State :=
  match (getStream s p 6).exec with
  | none => s
  | some e =>
    if e.phase != .running then s
    else match dOp e.desc with
    | 0x7001 => tokensIn p e.desc s
    | 0x7002 => tokensOut p e.desc s
    | 0x7003 => copyMore p e.desc s
    | 0x7010 => loadReport p e.desc s
    | _ => s

end Sys2Proof.Machine
end

