-- ==== Sys2Proof/Machine/Host.lean ====
section
/-!
DEFINITION. Machine/Host.lean: the host ports (spec/06): BAR2 and BAR4, the port as DMA master, descriptor rings (spec/07
R161, R164), MSI-X, IDE, power management, and the resets of a port.
-/
namespace Sys2Proof.Machine
open Sys2Proof

/-- Can a request reach the port: its link is neither directed to Detect.Quiet nor held in fundamental reset (R81, R131)? -/
def cfgReach (s : State) (k : PortId) : Bool := clocked s && !(getPort s k).quiet && !s.pins.perstLow[k]

/-- Are configuration requests completed normally (R53, R139)? -/
def cfgOpen (s : State) (k : PortId) : Bool :=
  let q := getPort s k
  !q.rrs && q.resetting == .none && cfgReach s k

/-- A configuration write: completed normally with its effect, or with Request Retry Status and without it (R139, R155). -/
def cfgWrite (k : PortId) (f : State → State) (s : State) : State :=
  if cfgOpen s k then emit (.completion k 0 []) (f (leaveL1 k s))
  else if cfgReach s k then emit (.completion k 3 []) s
  else s

/-- The rate and width that a port advertises at most: the defaults until its PORT_MAP entry is applied (R130, R131). -/
def portCap (s : State) (k : PortId) : Nat × Nat :=
  if (getPort s k).mapped then (min (portCfg s k).maxGen 6, min (portCfg s k).maxWidth 16) else (6, 16)

/-- AER logs an advisory non-fatal error: a Poisoned TLP Received, or an Unexpected Completion (R145, R146). -/
def aerPoisoned (k : PortId) (s : State) : State :=
  updPort s k (fun q => { q with aer := { q.aer with poisoned := true, advisory := true } })
def aerUnexpected (k : PortId) (s : State) : State :=
  updPort s k (fun q => { q with aer := { q.aer with unexpected := true, advisory := true } })

/-- A received write with EP set is counted and logged (R146). -/
def poisonedWrite (k : PortId) (s : State) : State := aerPoisoned k (cntPort 0x00028030 1 k s)

/-- The states before the function completes its first configuration request (R53). -/
def beforeMap (s : State) : Bool := match s.boot.state with
  | .coldReset | .rom | .verify | .selftest | .fwLoad | .warmReset | .tripped => true
  | _ => false

-- BAR2 (R133 to R135, R146)

/-- Change the assembly buffer of a window. -/
def updAsm (k : PortId) (st : StreamId) (f : Assembly → Assembly) (s : State) : State :=
  updPort s k (fun q => { q with asm := q.asm.set st (f q.asm[st]) })

/-- Add to HP_DESC_DISCARDED. -/
def discardBlock (n : Nat) (k : PortId) (s : State) : State := cntPort 0x00028014 n k s

/-- Write bytes to one block of a window: another block under assembly is discarded; a whole block enters its queue. -/
def asmWrite (k : PortId) (p : PartId) (st : StreamId) (block o : Nat) (b : Bytes) (ep : Bool) (s : State) : State :=
  let a := (getPort s k).asm[st]
  let cut := match a.block with | some x => x != block | none => false
  let s := if cut then discardBlock 1 k s else s
  let a : Assembly := if cut || a.block.isNone then { block := some block } else a
  if ep then discardBlock 1 k (updAsm k st (fun _ => {}) s)
  else
    let a := { a with
      bytes := memWriteN a.bytes o b
      written := (List.range b.length).foldl (fun m i => maskSet m (o + i)) a.written }
    if a.written = 2 ^ 64 - 1 then enterDesc p st (memReadN a.bytes 0 64) (updAsm k st (fun _ => {}) s)
    else updAsm k st (fun _ => a) s

/-- The pieces of a write of `n` bytes at `off`, by 64-byte block: block offset from BAR2, first byte, length. PRESUMED: notes/assumptions/21.md. -/
def blockPieces (off n : Nat) : List (Nat × Nat) :=
  if n = 0 then [] else (List.range ((off + n - 1) / 64 - off / 64 + 1)).map (fun i =>
    let lo := max off (64 * (off / 64 + i))
    (lo, min (off + n) (64 * (off / 64 + i) + 64) - lo))

/-- One block of a BAR2 write. -/
def bar2Piece (k : PortId) (p : PartId) (off : Nat) (ep : Bool) (data : Bytes) (x : Nat × Nat) (s : State) : State :=
  if h : x.1 / 0x400000 < 7 then
    if (getPart s p).resetting then discardBlock 1 k s
    else asmWrite k p ⟨x.1 / 0x400000, h⟩ (x.1 % 0x400000 / 64) (x.1 % 64) (bytesAt data (x.1 - off) x.2) ep s
  else s

/-- A write to BAR2 (R133, R134, R135, R146). -/
def bar2Write (r : Requester) (off : Nat) (data : Bytes) (ep : Bool) (s : State) : State :=
  match portReq r with
  | none => s
  | some (k, bare) =>
    match hostMem k bare none s with
    | (.go, s) => match partOf s k with
      | some p =>
        if off + data.length > 0x4000000 then s
        else eachOf (blockPieces off data.length) (bar2Piece k p off ep data) (if ep then poisonedWrite k s else s)
      | none => s
    | (_, s) => s

/-- BAR2_WRITE (R133, R134, R135, R146). -/
def execBar2Write (r : Requester) (off : Nat) (data : Bytes) (ep : Bool) (s : State) : Out := .next (bar2Write r off data ep s)

-- BAR4 (R136, R137, R146)

/-- Region offset of a BAR4 access, when its whole range lies inside the region and outside the backing region (R136,
R320). -/
def bar4Addr (s : State) (k : PortId) (p : PartId) (off n : Nat) : Option Nat :=
  let x := 2 ^ 30 * (getPort s k).bar4BaseGib + off
  if x + n ≤ backingBase s p then some x else none

/-- A BAR4 access outside the region: counted and recorded (R136). -/
def bar4Refuse (k : PortId) (p : PartId) (off : Nat) (s : State) : State :=
  record p { code := 0x0304, cls := .corrected, source := 7, addr := 2 ^ 30 * (getPort s k).bar4BaseGib + off } (cntPort 0x00028018 1 k s)

/-- Does the port have the BAR4 window, and does the access lie in its 64 GiB (R136)? -/
def bar4Fits (s : State) (k : PortId) (off len : Nat) : Bool := (getPort s k).bar4 && decide (off + len ≤ 2 ^ 36)

/-- Have the regulators of HBM and of host DMA credit for a BAR4 access, and does none wait before it (R416, R417)? -/
def bar4Credit (s : State) (k : PortId) (p : PartId) : Bool := (getPort s k).bar4Wait.isEmpty && hasCredit s p 0 && hasCredit s p 3

/-- A BAR4 access waits for credit. -/
def bar4Hold (k : PortId) (p : PartId) (x : Nat × Nat × Option (Bytes × Bool)) (s : State) : State :=
  let s := if hasCredit s p 0 then s else stall p 0 s
  let s := if hasCredit s p 3 then s else stall p 3 s
  updPort s k (fun q => { q with bar4Wait := q.bar4Wait ++ [x] })

/-- A BAR4 read, once the ECC has seen its granules (R136, R137, R460): the completions carry at most one granule each, and each
poisoned granule is recorded. -/
def bar4ReadOn (k : PortId) (off len : Nat) (s : State) : State :=
  match partOf s k with
  | some p =>
    if bar4Fits s k off len then match bar4Addr s k p off len with
      | some x =>
        if !bar4Credit s k p then bar4Hold k p (off, len, none) s else
        eachOf (blockPieces x len) (fun e s =>
          emit (.completion k (if spacePoisoned s p 0 e.1 e.2 then 2 else 0) (spaceRead s p 0 e.1 e.2)) s)
          (eachOf (badGranules s p x len) (fun g s => record p (ueRec s p 0 g) s) (meetHbm p 0 x len (charge p 3 len (charge p 0 len s))))
      | none => emit (.completion k 1 []) (bar4Refuse k p off s)
    else emit (.completion k 1 []) s
  | none => emit (.completion k 1 []) s

/-- BAR4_READ (R136). -/
def bar4Read (r : Requester) (off len : Nat) (s : State) : Out :=
  match portReq r with
  | none => .next s
  | some (k, bare) =>
    match hostMem k bare none s with
    | (.go, s) => .next (bar4ReadOn k off len s)
    | (_, s) => .next (emit (.completion k 1 []) s)

/-- A BAR4 write, once the ECC has seen the granules that it writes in part (R136, R137, R146). -/
def bar4WriteOn (k : PortId) (off : Nat) (data : Bytes) (ep : Bool) (s : State) : State :=
  match partOf s k with
  | some p =>
    if bar4Fits s k off data.length then
      match bar4Addr s k p off data.length with
      | some x =>
        if !bar4Credit s k p then bar4Hold k p (off, data.length, some (data, ep)) s else
        let s := if ep then poisonedWrite k s else s
        let s := settleMerge p 0 0 (spaceWrite p 0 x data (charge p 3 data.length s))
        if ep then spaceMark p 0 x data.length s else s
      | none => bar4Refuse k p off (if ep then poisonedWrite k s else s)
    else s
  | none => s

/-- Perform one BAR4 access that waited. -/
def bar4Go (k : PortId) (x : Nat × Nat × Option (Bytes × Bool)) (s : State) : State :=
  match x with
  | (off, len, none) => bar4ReadOn k off len s
  | (off, _, some (data, ep)) => bar4WriteOn k off data ep s

/-- Perform the BAR4 accesses of a port that waited, as far as there is credit (R417). -/
def bar4Retry (k : PortId) (s : State) : State :=
  let l := (getPort s k).bar4Wait
  eachOf l (bar4Go k) (updPort s k (fun q => { q with bar4Wait := [] }))

/-- BAR4_WRITE (R136). -/
def bar4Write (r : Requester) (off : Nat) (data : Bytes) (ep : Bool) (s : State) : Out :=
  match portReq r with
  | none => .next s
  | some (k, bare) =>
    match hostMem k bare none s with
    | (.go, s) => .next (bar4WriteOn k off data ep s)
    | (_, s) => .next s

-- Resets of a port (R45, R134, R155 to R158)

/-- Put an IDE stream of a port in the Insecure state (R148, R547). -/
def ideInsecure (k : PortId) (i : Fin 5) (s : State) : State :=
  if !(getPort s k).ide[i].secure then s
  else secLog 0x0050 0 0 [BitVec.ofNat 8 k.val, BitVec.ofNat 8 i.val, 0]
    (updPort s k (fun q => { q with ide := q.ide.set i { q.ide[i] with secure := false } }))

/-- The function of a port at a reset of the port: its configuration registers and port registers at their reset values
(R155, R157, R158). FLR keeps the link and the IDE streams, and the sticky AER fields stay. At DL_Down the blocks under assembly
stay until the partition is reset (R134). -/
def clearFunction (kind : PortReset) (q : Port) : Port :=
  let flr := kind == .flr
  { bar4 := q.bar4
    mapped := q.mapped
    quiet := q.quiet
    rrs := q.rrs
    retrain := q.retrain && flr
    gen := if flr then q.gen else 0
    width := if flr then q.width else 0
    flit := flr && q.flit
    reversed := flr && q.reversed
    turnOff := flr && q.turnOff
    l23 := flr && q.l23
    aer := q.aer
    asm := if kind == .linkDown then q.asm else .replicate 7 {}
    dmaQ := q.dmaQ
    reads := q.reads
    nextTag := q.nextTag
    ide := if flr then q.ide else .replicate 5 {}
    lastReset := kind
    resetting := if kind == .linkDown then q.resetting else kind }

/-- The latches and the snapshot of a host port (R11, R617). -/
def dropPortView (k : PortId) (s : State) : State :=
  { s with latches := s.latches.filter (fun e => e.1 % 8 != k.val), snaps := s.snaps.set k.val {} }

/-- Reset the function of a port; events of the reset are counted after the registers are cleared (R158). DEDUCED: notes/assumptions/48.md. -/
def resetFunction (kind : PortReset) (k : PortId) (s : State) : State :=
  let open_ := if kind == .linkDown then 0 else ((getPort s k).asm.toList.filter (fun a => a.block.isSome)).length
  let s := if kind == .flr then s else eachOf (List.finRange 5) (ideInsecure k) s
  let s := dropPortView k (updPort s k (clearFunction kind))
  discardBlock open_ k s

/-- Reset the partition of a port. -/
def resetMapped (k : PortId) (kind : ResetKind) (s : State) : State :=
  match partOf s k with
  | some p => if (partCfg s p).defined then resetPartition p kind 0 s else s
  | none => s

/-- PERST_ASSERT (R45, R49, R148, R158). During the sequence of R157 it is absorbed: the reads run to their timeouts and the
partition is reset once, and the port stays in reset while PERST_n is low. -/
def execPerstAssert (k : PortId) (s : State) : Out :=
  if s.pins.perstLow[k] then .next s
  else
    let s := { s with pins := { s.pins with perstLow := s.pins.perstLow.set k true } }
    if (getPort s k).downWait then .next (driveWake k (portEvent k (updPort s k (fun q => { q with resetting := .perst, rrs := true }))))
    else
    let s := updPort (resetFunction .perst k s) k (fun q => { q with rrs := true, reads := [] })
    let s := resetMapped k .perst s
    .next (driveWake k (portEvent k s))

/-- PERST_RELEASE (R130, R154): training starts, and WAKE_n is released. -/
def execPerstRelease (k : PortId) (s : State) : Out :=
  if !s.pins.perstLow[k] then .next s
  else
    let s := { s with pins := { s.pins with perstLow := s.pins.perstLow.set k false } }
    .next (quietExit 2 (portEvent k (driveWake k s)))

/-- FLR (R155): the effect of the configuration write that sets Initiate Function Level Reset. -/
def startFlr (k : PortId) (s : State) : State :=
  resetMapped k .flr (updPort (resetFunction .flr k s) k (fun q => { q with rrs := true }))

/-- FLR (R155). -/
def execFlr (k : PortId) (s : State) : Out := .next (cfgWrite k (startFlr k) s)

/-- FUNCTION_READY (R48, R53): the function completes configuration requests; its partition accepts descriptors. DEDUCED: notes/assumptions/49.md. -/
def execFunctionReady (k : PortId) (s : State) : Out :=
  if (getPort s k).resetting == .none || s.pins.perstLow[k] then .next s
  else
    let s := updPort s k (fun q => { q with resetting := .none, rrs := beforeMap s || q.retrain })
    match partOf s k with
    | some p => .next (partitionReady p s)
    | none => .next s

/-- Is work of the partition outstanding (R157)? -/
def workOutstanding (s : State) (k : PortId) (p : PartId) : Bool :=
  let x := getPart s p
  let q := getPort s k
  x.job.open_ || x.streams.toList.any (fun t => !t.queue.isEmpty || (t.ringEnable && t.ringTail != t.ringHead)) ||
    q.dmaQ.any isData || !q.reads.isEmpty

/-- The write requests that belong to a write unit of which some TLPs were issued (R156). DEDUCED: notes/assumptions/49.md. -/
def tornRequest (q : Port) : DmaReq → Bool
  | .write .mirror _ _ _ _ _ => false
  | .write .report _ _ _ _ _ => false
  | .write _ _ _ u n _ => (tornUnits q).contains (u, n)
  | _ => false

/-- Is the request a write? -/
def isWrite : DmaReq → Bool
  | .write _ _ _ _ _ _ => true
  | _ => false

/-- Is the request an MSI-X message? -/
def isMsixReq : DmaReq → Bool
  | .msix _ => true
  | _ => false

/-- The partition of a link-down port is reset once no read is outstanding (R157). -/
def downReady (k : PortId) (s : State) : State :=
  let q := getPort s k
  if q.downWait && q.reads.isEmpty then
    -- what was queued since DL_Down is discarded and counted too; the rest of the torn units was counted then
    let n := (q.dmaQ.filter (fun r => isWrite r && !tornRequest q r)).length
    resetMapped k .linkDown (cntPort 0x0002802C n k (updPort s k (fun q => { q with downWait := false })))
  else s

/-- DL_DOWN (R157). DEDUCED: notes/assumptions/49.md. -/
def execDlDown (k : PortId) (s : State) : Out :=
  if s.pins.perstLow[k] || (getPort s k).downWait then .next s
  else
    let work := match partOf s k with | some p => workOutstanding s k p | none => false
    let s := resetFunction .linkDown k s
    let q := getPort s k
    if work then
      let n := (q.dmaQ.filter isWrite).length
      let s := cntPort 0x0002802C n k (updPort s k (fun q => { q with dmaQ := q.dmaQ.filter (tornRequest q), downWait := true }))
      .next (portEvent k (downReady k s))
    else
      .next (portEvent k (updPort s k (fun q => { q with dmaQ := q.dmaQ.filter (fun r => !isMsixReq r) })))

/-- HOST_LINK_UP (R127, R130): the link runs at what it reaches of the rate and width that the port advertises, in FLIT mode
where both ends support it, with its lanes reversed where the port's PORT_MAP entry forces it. -/
def execHostLinkUp (k : PortId) (gen width : Nat) (flit reversed : Bool) (s : State) : Out :=
  if s.pins.perstLow[k] || (getPort s k).quiet then .next s
  else .next (portEvent k (updPort s k (fun q => { q with
    gen := min gen (portCap s k).1, width := min width (portCap s k).2, flit := flit
    reversed := reversed || (q.mapped && (portCfg s k).laneReverse) })))

-- Power management (R149 to R154)

/-- What the port lets go after its hold has ended. -/
def release (k : PortId) (s : State) : State :=
  let s := pump k s
  match partOf s k with
  | some p => xfrAdvance p s
  | none => s

/-- The wake events of what is already held on entry to D3hot (R151). -/
def heldWakes (k : PortId) (s : State) : State :=
  eachOf (getPort s k).dmaQ (fun r s => match r with
    | .write .record _ _ _ _ _ => wakeEvent k 0 s
    | .write .mirror _ _ _ _ _ => wakeEvent k 1 s
    | .msix _ => wakeEvent k 2 s
    | _ => s) s

/-- The function enters D3hot (R134, R149). -/
def enterD3hot (k : PortId) (s : State) : State :=
  if (getPort s k).d3hot then s
  else
    let n := ((getPort s k).asm.toList.filter (fun a => a.block.isSome)).length
    let s := discardBlock n k (updPort s k (fun q => { q with d3hot := true, inL1 := true, asm := .replicate 7 {} }))
    let s := portEvent k (heldWakes k s)
    match partOf s k with
    | some p => xfrAdvance p s
    | none => s

/-- POWER_STATE_D3HOT (R134, R149). -/
def execPowerStateD3hot (k : PortId) (s : State) : Out := .next (cfgWrite k (enterD3hot k) s)

/-- The function returns to D0 (R149, R152): a PM_PME not yet transmitted is withdrawn; held requests are issued in order. -/
def enterD0 (k : PortId) (s : State) : State :=
  if !(getPort s k).d3hot then s
  else
    let s := updPort s k (fun q => { q with
      d3hot := false
      inL1 := false
      pmePending := false
      wakeCause := if q.pmePending then maskSet q.wakeCause 8 else q.wakeCause })
    let s := match partOf s k with
      | some p => updExec p 6 (fun e => { e with noted := e.noted.filter (· ≠ 0) }) s
      | none => s
    release k (quietExit 1 (portEvent k s))

/-- POWER_STATE_D0 (R149, R152). -/
def execPowerStateD0 (k : PortId) (s : State) : Out := .next (cfgWrite k (enterD0 k) s)

/-- PM_PME_TRANSMIT (R151, R152). -/
def execPmPmeTransmit (k : PortId) (s : State) : Out :=
  if !(getPort s k).pmePending || !(getPort s k).d3hot then .next s
  else .next (emit (.pmPme k) (updPort s k (fun q => { q with
    pmePending := false, inL1 := false, wakeCause := maskSet q.wakeCause 9 })))

/-- PM_PME_RETRANSMIT (R152): a PM_PME transmitted before goes again while PME_Status is 1 in D3hot. -/
def execPmPmeRetransmit (k : PortId) (s : State) : Out :=
  let q := getPort s k
  if !q.pmeStatus || !q.d3hot || !q.pmeEn || q.pmePending then .next s
  else .next (emit (.pmPme k) (updPort s k (fun q => { q with inL1 := false, wakeCause := maskSet q.wakeCause 9 })))

/-- ASPM_L1_ENTRY (R150). -/
def execAspmL1Entry (k : PortId) (s : State) : Out :=
  let q := getPort s k
  if !q.aspmL1 || q.d3hot || q.inL1 || !cfgOpen s k || !q.reads.isEmpty || (!q.dmaQ.isEmpty && canIssue s k) then .next s
  else .next (emit (.l1Request k) (updPort s k (fun q => { q with inL1 := true })))

/-- PME_TO_Ack is sent, and L2/L3 Ready entered, once no read is outstanding (R153). -/
def turnOffReady (k : PortId) (s : State) : State :=
  let q := getPort s k
  if q.turnOff && !q.l23 && q.reads.isEmpty then driveWake k (emit (.pmeToAck k) (updPort s k (fun q => { q with l23 := true }))) else s

/-- PME_TURN_OFF (R153). -/
def execPmeTurnOff (k : PortId) (s : State) : Out :=
  if s.pins.perstLow[k] || (getPort s k).turnOff then .next s
  else .next (turnOffReady k (updPort s k (fun q => { q with turnOff := true })))

/-- BUS_MASTER_ENABLE_CHANGE (R140). -/
def execBusMasterEnableChange (k : PortId) (on : Bool) (s : State) : Out :=
  .next (cfgWrite k (fun s => release k (updPort s k (fun q => { q with bme := on }))) s)

/-- MGT_WAKE_REQ_WRITE (R151, R154): bits 3:0, one for each port. DEDUCED: notes/assumptions/49.md. -/
def execMgtWakeReqWrite (r : Requester) (v : Nat) (s : State) : Out :=
  if !mgtOpen r s then .next s
  else
    let s := { s with mgt := { s.mgt with wakeReq := v % 16 } }
    .next (eachOf allPorts (fun k s =>
      let s := if bitOf v k.val && (partOf s k).isSome then wakeEvent k 3 s else s
      driveWake k s) s)

-- MSI-X (R147)

/-- Send one message for each vector that is pending and no longer masked. -/
def msixFlush (k : PortId) (s : State) : State :=
  let q := getPort s k
  if !q.msixEn || q.msixMaskAll then s
  else eachOf (List.finRange 16) (fun v s =>
    let e := (getPort s k).vecs[v]
    if e.pend && !e.mask then
      wakeEvent k 2 (dmaPush k [.msix v.val] (updPort s k (fun q => { q with vecs := q.vecs.set v { q.vecs[v] with pend := false } })))
    else s) s

/-- MSIX_UNMASK (R147). -/
def execMsixUnmask (k : PortId) (v : Fin 16) (s : State) : Out :=
  match hostMem k false (some 0xFE0000) s with
  | (.go, s) => .next (msixFlush k (updPort s k (fun q => { q with vecs := q.vecs.set v { q.vecs[v] with mask := false } })))
  | (_, s) => .next s

-- IDE (R148)

/-- IDE_INTEGRITY_FAIL (R148, R453). IDE_REQUIRED makes no difference. DEDUCED: notes/assumptions/48.md. -/
def execIdeIntegrityFail (k : PortId) (stream : Fin 5) (s : State) : Out :=
  if !(getPort s k).ide[stream].secure then .next s
  else
    let s := ideInsecure k stream s
    let s := secLogMerged 0x0051 (16 + k.val) [BitVec.ofNat 8 (16 + k.val)] s
    let s := updPort s k (fun q => { q with dmaStopped := true })
    match partOf s k with
    | some p => .next (if (partCfg s p).defined then partFault p { code := 0x0A01, source := 7 } s else s)
    | none => .next s

-- Rings (R161, R164)

/-- RING_TAIL_WRITE (R164). -/
def execRingTailWrite (r : Requester) (st : StreamId) (v : Nat) (s : State) : Out :=
  match hostPart r (0x0003001C + 64 * st.val) s with
  | (none, s) => .next s
  | (some p, s) =>
    let x := getStream s p st
    if (2 ^ 32 + v - x.ringHead) % 2 ^ 32 > 2 ^ x.ringLog2 then
      .next (queOverrun p st (updStream s p st (fun x => { x with ringEnable := false })))
    else .next (fetchNow p st (updStream s p st (fun x => { x with ringTail := v % 2 ^ 32 })))

/-- RING_CTL_WRITE (R164, R191). -/
def execRingCtlWrite (r : Requester) (st : StreamId) (v : Nat) (s : State) : Out :=
  match hostPart r (0x00030018 + 64 * st.val) s with
  | (none, s) => .next s
  | (some p, s) =>
    if (getStream s p st).ringEnable && bitOf v 31 then .next s
    else
      let n := v % 32
      .next (fetchNow p st (updStream s p st (fun x => { x with
        ringLog2 := if 8 ≤ n ∧ n ≤ 16 then n else 8
        ringEnable := bitOf v 31 })))

/-- RING_FETCH_COMPLETE (R161): ring descriptors enter in ring order. DEDUCED: notes/assumptions/48.md. -/
def execRingFetchComplete (p : PartId) (st : StreamId) (s : State) : Out :=
  match (getStream s p st).fetches with
  | (_, some b) :: rest =>
    if b.length < 64 then .next s
    else .next (fetchNow p st (enterDesc p st (b.take 64) (updStream s p st (fun x => { x with fetches := rest }))))
  | _ => .next s

-- Host reads (R144, R145)

/-- Bytes whose value the spec leaves open: those that a failed read did not bring. DEDUCED: notes/assumptions/48.md. -/
def freeBytes (n : Nat) (s : State) : Bytes × State :=
  let (v, s) := takeFree s
  (toLe n v, s)

/-- Record a failed read of tensor data, once for a command and a code (R145). -/
def noteRead (p : PartId) (code sub addr : Nat) (s : State) : State :=
  match (getStream s p 6).exec with
  | none => s
  | some e => noteOnce p 6 { code := code, cls := .deferred, source := 7, tag := dTag e.desc, sub := sub, addr := addr } s

/-- Replace bytes of a list from an offset. DEDUCED: notes/assumptions/48.md. -/
def putBytes (l : Bytes) (o : Nat) (b : Bytes) : Bytes := l.take o ++ b ++ l.drop (o + b.length)

/-- Data of a host read reaches its target at byte `got` of the request; `bad` marks it poisoned. -/
def deliver (p : PartId) (tgt : DmaTarget) (got : Nat) (b : Bytes) (bad : Bool) (s : State) : State :=
  match tgt with
  | .slotRow slot off => updSlot p slot (fun r => { r with
      row := putBytes r.row (off + got) b, awaited := r.awaited - b.length, rowPoison := r.rowPoison || bad }) s
  | .copyIn off => copyArrive p (off + got) b bad s
  | .manifest off => loadArrive p none (off + got) b bad s
  | .section_ i off => loadArrive p (some i) (off + got) b bad s
  | .ring st n => updStream s p st (fun x => { x with fetches := x.fetches.map (fun e =>
      if e.1 = n then (n, some (e.2.getD [] ++ b)) else e) })
  | .flush _ => if b.isEmpty then setXfrAt p 5 s else s
  | .doneWord => doneArrive p b s
  | .orphan => s

/-- Is the data of a read control data: a failure tears the job down (R145, R451)? -/
def controlRead (s : State) (p : PartId) : DmaTarget → Bool
  | .ring _ _ => true
  | .manifest _ => true
  | .section_ i _ => match (getPart s p).load with
    | some x => [3, 4, 5].contains (entKind (loadHead x) i)
    | none => false
  | _ => false

/-- The bytes that a failed request had already delivered are poisoned with it (R145). -/
def poisonGot (p : PartId) (tgt : DmaTarget) (got : Nat) (s : State) : State :=
  match tgt with
  | .slotRow slot _ => if got = 0 then s else updSlot p slot (fun r => { r with rowPoison := true }) s
  | .copyIn off =>
    let t := copyTd s p
    eachOf (List.range got) (fun i s => spaceMark p (tdSpace t) (tdByteOff t (off + i)) 1 s) s
  | .section_ i off => if got = 0 then s else updLoad p (fun x => { x with bad := x.bad ++ [(i, off, got)] }) s
  | _ => s

/-- A failed read: its fault, and the bytes `[from, len)` that it did not bring. DEDUCED: notes/assumptions/48.md. -/
def readFailed (p : PartId) (r : DmaRead) (code sub from_ n : Nat) (data : Option Bytes) (s : State) : State :=
  match r.tgt with
  | .orphan => s
  | .doneWord => doneJudge p false s
  | .ring st k => fetchNow p st <| jobFault p { code := code, source := 7, sub := sub, addr := r.addr }
      (updStream s p st (fun x => { x with fetches := x.fetches.filter (fun e => e.1 != k) }))
  | tgt =>
    if controlRead s p tgt then cmdFail p 6 (execDesc s p 6) { code := code, sub := sub, addr := r.addr } s
    else
      let s := noteRead p code sub (r.addr + (if data.isSome then from_ else 0)) s
      match data with
      | some b => deliver p tgt from_ b true s
      | none =>
        let (b, s) := freeBytes n (if code = 0x0702 then poisonGot p tgt from_ s else s)
        let s := match tgt with
          | .slotRow slot off => updSlot p slot (fun r => { r with absent := r.absent ++ [(off + from_, n)] }) s
          | _ => s
        deliver p tgt from_ b true s

/-- What the end of a read lets the port and the XFR stream do. DEDUCED: notes/assumptions/48.md. -/
def afterRead (k : PortId) (s : State) : State := downReady k (turnOffReady k (release k s))

/-- DMA_READ_COMPLETION (R145). -/
def execDmaReadCompletion (k : PortId) (tag : Nat) (status : CplStatus) (data : Bytes) (s : State) : Out :=
  match (getPort s k).reads.find? (fun r => r.tag == tag), partOf s k with
  | some r, some p =>
    let drop (s : State) : State := updPort s k (fun q => { q with reads := q.reads.filter (fun x => x.tag != tag) })
    let take (n : Nat) (s : State) : State :=
      if r.got + n ≥ r.len then drop s
      else updPort s k (fun q => { q with reads := q.reads.map (fun x => if x.tag = tag then { x with got := x.got + n } else x) })
    let b := data.take (r.len - r.got)
    match status with
    | .ok => .next (afterRead k (deliver p r.tgt r.got b false (take b.length s)))
    | .ep => .next (afterRead k (readFailed p r 0x0702 3 r.got b.length (some b) (cntPort 0x0002800C 1 k (take b.length s))))
    | .ur => .next (afterRead k (readFailed p r 0x0702 1 r.got (r.len - r.got) none (cntPort 0x0002800C 1 k (drop s))))
    | .ca => .next (afterRead k (readFailed p r 0x0702 2 r.got (r.len - r.got) none (cntPort 0x0002800C 1 k (drop s))))
  | _, _ => .next (aerUnexpected k (cntPort 0x00028010 1 k s))

/-- DMA_COMPLETION_TIMEOUT (R144, R145): once the read has been outstanding for its timeout (R109). -/
def execDmaCompletionTimeout (k : PortId) (tag : Nat) (s : State) : Out :=
  match (getPort s k).reads.find? (fun r => r.tag == tag), partOf s k with
  | some r, some p =>
    if s.boot.sinceNs < r.issued + r.timeout then .next s
    else
    let s := updPort s k (fun q => { q with reads := q.reads.filter (fun x => x.tag != tag) })
    .next (afterRead k (readFailed p r 0x0701 0 r.got (r.len - r.got) none (cntPort 0x00028008 1 k s)))
  | _, _ => .next s

/-- What waited for credit is tried again. -/
def retryAll (s : State) : State :=
  let s := eachOf allLinks (fun l s => drainLink l s) (eachOf allPorts (fun k s => bar4Retry k (pump k s)) s)
  eachOf allPlanes (fun pl s => drainPlane pl s) s

/-- REGULATOR_WINDOW_REFILL (R107, R416): at a window boundary each credit rises to at most its budget, and what waited is
tried again. -/
def execRegulatorWindowRefill (s : State) : Out :=
  let n := windowsDue s
  let s := { s with time := { s.time with window := windowNow s } }
  .next (if n = 0 then s
    else retryAll (eachOf allParts (fun p s => refillPart n p s) (if regsDue s then settleRegs s else s)))

end Sys2Proof.Machine
end

