-- ==== Sys2Proof/Machine/Errors.lean ====
section
/-!
DEFINITION. Machine/Errors.lean: what the ECC finds in HBM and SRAM, the rows that
read under it, the patrol scrub and the ERR_HEAD register (spec/18 R460 to R463, R477).
-/
namespace Sys2Proof.Machine
open Sys2Proof

/-- An uncorrectable scrub read (R461, R462): the mark, its count, and the record in the owner's ring or the management
ring. The owner's record gives the granule as an offset in its region. DEDUCED: notes/assumptions/35.md. -/
def scrubBad (g : Nat) (s : State) : State :=
  let s := markGranule g s
  match granuleOwner s g with
  | some p =>
    record p { code := 0x0302, cls := .deferred, source := 0xA, addr := g * Config.granule - hbmBase s p } s
  | none => mgtRecord { code := 0x0302, cls := .deferred, source := 0xA, addr := g * Config.granule } s

/-- What a read of a granule by partition `p` finds (R460): a corrected error is written back and recorded; an error that cannot
be corrected marks the granule, and the read itself records it. -/
def hbmFind (p : PartId) (tag g : Nat) (bad : Bool) (s : State) : State :=
  if granuleOwner s g ≠ some p ∨ tabGet false s.hbmPoison g then s
  else if bad then markGranule g s
  else record p (ceRec s p tag g) (cntPart 0x00060040 1 p s)

/-- The leader NACKs every input of a chunk and starts it again (R463, R397). -/
def renackChunk (p : PartId) (k : Nat) (s : State) : State :=
  match colView s p with
  | none => s
  | some v => match findChunk v.run k with
    | none => s
    | some c =>
      let s := updChunk p k (fun c => { c with stage := .gather, inputs := [], partialV := [] }) (cntPart 0x00100008 1 p s)
      eachOf c.inputs (fun i s => answerChunk p
        { src := i.src, commId := v.comm.id, opSeq := v.run.opSeq, chunk := k, phase := i.phase, round := i.round } 3 s) s

/-- A double-bit SRAM error, or a corrected HBM error, that a row of partition `p` meets, by its location (R235, R321, R460,
R463). An item of the Spool or the Reel is recorded when its flag is set, and not again (R321). `spec` gives the speculative rows
that a find concerns alone. DESIGN CHOICE: notes/assumptions/37.md. -/
def eccFind (p : PartId) (st : StreamId) (tag : Nat) (spec : EccFind → List Nat) (s : State) (e : EccFind) : State :=
  match e with
  | .hbm g bad =>
    if (spec e).isEmpty || bad || granuleOwner s g ≠ some p || tabGet false s.hbmPoison g then hbmFind p tag g bad s
    else holdFault p (spec e) (ceRec s p tag g) s
  | .single => cntPart 0x000E0028 1 p s
  | .gate => record p (sramRec .corrected 0 3 tag) (updPart s p (fun q => { q with gateBuf := none }))
  | .shadowGate => record p (sramRec .corrected 0 3 tag) s
  | .control => jobFault p (sramRec .job 3 4 tag) s
  | .reducer k => record p (sramRec .corrected 5 5 tag) (renackChunk p k s)
  | .linkPool l => match (getLink s l).pool with
    | x :: _ => record p (sramRec .corrected 8 6 tag) (leavePool 0 (.bridle l) x.2 s)
    | [] => s
  | .planePool pl => match (getPlane s pl).pool with
    | x :: _ => record p (sramRec .corrected 9 6 tag) (leavePool x.1 (.tether pl) x.2 s)
    | [] => s
  | .context => partFault p (sramRec .partition 0xF 7 tag) s
  | .hold t => match (getPart s p).rows.find? (fun r => r.tag == t && r.stage == .held) with
    | some r =>
      let cancelled := match r.verdict with | some (ok, _, _) => !ok | none => false
      if cancelled then record p (sramRec .corrected 3 8 tag) (flagItem p e s) else itemFind p st tag (spec e) e s
    | none => s
  | .device => deviceFault (sramRec .device 0xB 9 tag) 5 s
  | .tile .. | .scratch .. | .spool _ | .reel _ | .storedRow _ | .slotRecord _ | .slotRow _ | .backedRow .. | .backedSlot .. =>
    itemFind p st tag (spec e) e s

/-- An error stands in a granule that no read has met yet: the reads and the merges of a command meet it (R460, R461). -/
def plantErr (g : Nat) (bad : Bool) (s : State) : State :=
  if granBad s g then s else { s with hbmErr := tabSet .none g (if bad then .ue else .ce) s.hbmErr }

/-- What the ECC finds in a word that a row of the Expert Sequencer reads, under its tag: an HBM error stands in its granule until the
row's own read or merge meets it (R235, R460, R461). -/
def rowFind (p : PartId) (tag : Nat) (s : State) (e : EccFind) : State :=
  match e with
  | .hbm g bad => plantErr g bad s
  | e => eccFind p 3 tag (fun _ => []) s e

/-- The errors of SRAM words of a partition that meet a test are met now (R463). -/
def meetErrs (p : PartId) (st : StreamId) (tag : Nat) (t : EccFind → Bool) (s : State) : State :=
  let hit (x : PartId × EccFind) : Bool := x.1 == p && t x.2
  (s.sramErr.filter hit).foldl (fun s x => eccFind p st tag (fun _ => []) s x.2) { s with sramErr := s.sramErr.filter (fun x => !hit x) }

/-- The errors that a packet or piece of a partition meets where it arrives: in the pool of its path, in the reducer slots and in the
hold area (R463). -/
def arriveMeets (path : Path) (p : PartId) (s : State) : State :=
  meetErrs p 5 0 (fun e => match e with
    | .reducer _ | .hold _ => true
    | .linkPool l => path == .bridle l
    | .planePool pl => path == .tether pl
    | _ => false) s

/-- Is a find in a working word of a pass: a tile row or a scratch granule? -/
def isWork : EccFind → Bool
  | .tile .. | .scratch .. => true
  | _ => false

/-- One find of a BAR4 access to `[a, a + n)`: a granule outside it, one that a write covers whole, and one marked before meet
nothing; a write's partial granule records its own error. -/
def bar4Find (p : PartId) (a n : Nat) (write : Bool) (e : EccFind) (s : State) : State :=
  match e with
  | .hbm g bad =>
    let lo := g * Config.granule
    let hi := lo + Config.granule
    if hi ≤ a ∨ a + n ≤ lo ∨ (write ∧ a ≤ lo ∧ hi ≤ a + n) ∨ tabGet false s.hbmPoison g then s
    else
      let s := hbmFind p 0 g bad s
      if write && bad then record p { code := 0x0302, cls := .deferred, source := 0xA, addr := lo - hbmBase s p } s else s
  | _ => s

/-- The HBM finds of a BAR4 access to `[x, x + n)` of its partition's region: a write reads only the granules it covers in
part (R461), and a bad one among them is recorded under tag 0. DESIGN CHOICE: notes/assumptions/37.md. -/
def bar4Ecc (r : Requester) (off n : Nat) (write : Bool) (ecc : List EccFind) (s : State) : State :=
  match portReq r with
  | none => s
  | some (k, bare) => match partOf s k, (hostMem k bare none s).1 with
    | some p, .go => match bar4Addr s k p off n with
      | none => s
      | some x => ecc.foldl (fun s e => bar4Find p (hbmBase s p + x) n write e s) s
    | _, _ => s

/-- BAR4_READ (R136, R137, R460). -/
def execBar4Read (r : Requester) (off len : Nat) (ecc : List EccFind) (s : State) : Out := bar4Read r off len (bar4Ecc r off len false ecc s)

/-- BAR4_WRITE (R136, R137, R146, R461). -/
def execBar4Write (r : Requester) (off : Nat) (data : Bytes) (ep : Bool) (ecc : List EccFind) (s : State) : Out :=
  bar4Write r off data ep (bar4Ecc r off data.length true ecc s)

/-- The error that stands in a granule is met. -/
def forgetErr (gran : Nat) (s : State) : State := { s with hbmErr := tabSet .none gran .none s.hbmErr }

/-- PATROL_SCRUB_READ (R462) of an absolute granule: `result` is 0 clean, 1 corrected, 2 uncorrectable, beside the error that stands
there. DESIGN CHOICE: notes/assumptions/37.md. -/
def execPatrolScrubRead (gran result : Nat) (s : State) : Out :=
  if !s.boot.hbmTrained then .next s
  else if result = 1 then
    match granuleOwner s gran with
    | some p => .next (cntPart 0x00060040 1 p (if granBad s gran then s else forgetErr gran s))
    | none => .next s
  else if result = 2 then .next (scrubBad gran (forgetErr gran s))
  else match tabGet .none s.hbmErr gran, granuleOwner s gran with
  | .none, _ => .next s
  | .ue, _ | .ueMet, _ => .next (scrubBad gran (forgetErr gran s))
  | _, some p => .next (cntPart 0x00060040 1 p (forgetErr gran s))
  | _, none => .next (forgetErr gran s)

/-- ERR_HEAD of a ring: ignored where it would pass the tail or move back (R477). -/
def setHead (g : ErrRing) (v : Nat) : ErrRing :=
  let v := v % 2 ^ 32
  let moved := (2 ^ 32 + v - g.head % 2 ^ 32) % 2 ^ 32
  if moved ≥ 2 ^ 31 ∨ g.head + moved > g.tail then g else { g with head := g.head + moved }

/-- ERR_HEAD_WRITE (R477): the ring of the port's partition; in the management space the management ring alone (R573). -/
def execErrHeadWrite (r : Requester) (v : Nat) (s : State) : Out :=
  match r with
  | .mgt | .jtag => if mgtOpen r s && s.errSelect == 4 then .next { s with mgtRing := setHead s.mgtRing v } else .next s
  | _ => match hostPart r 0x00060004 s with
    | (some p, s) => .next (updPart s p (fun q => { q with ring := setHead q.ring v }))
    | (none, s) => .next s

end Sys2Proof.Machine
end

