-- ==== Sys2Proof/Machine/Receive.lean ====
section
/-!
DEFINITION. Machine/Receive.lean: what a device does with the packets and pieces of its flows (spec/12 R311 to R317, spec/13 R350,
spec/05 R120): order, checks, refusals, and the effect of each kind; and the passes, whose progress frees what a flow waits for
(spec/01 R20, spec/12 R322).
-/
namespace Sys2Proof.Machine
open Sys2Proof

-- REFUSE at the sender (R294, R314, R466, R510)

/-- Count a failed transmission of a packet by its tag, SLOT_GEN and kind; the new number of failures. DEDUCED: notes/assumptions/54.md. -/
def countFail (d : DevId) (p : PartId) (k : Packet) (s : State) : Nat × State :=
  let same (x : Nat × Nat × Nat × Nat) : Bool := x.1 == k.tag && x.2.1 == k.slotGen && x.2.2.1 == k.kind
  let old := (((getFlow s d p.val).fails.find? same).map (·.2.2.2)).getD 0
  (old + 1, updFlow d p.val (fun f => { f with fails := f.fails.filter (fun x => !same x) ++ [(k.tag, k.slotGen, k.kind, old + 1)] }) s)

/-- The kind of traffic of a packet's KIND. -/
def packetKind (k : Nat) : Kind := if k = 1 then .row else if k = 2 then .result else .ctrl

/-- Send a packet or piece again, under a new FLOW_SEQ and the present epoch, a ROW under that of its resolution (R37, R335). DEDUCED: notes/assumptions/42.md. -/
def sendAgain (d : DevId) (p : PartId) (isPiece : Bool) (b : Bytes) (s : State) : State :=
  if isPiece then match parsePiece b with
    | some x => sendPiece d p x s
    | none => s
  else match parsePacket b with
    | some x =>
      let s := if x.kind = 1 then cntPart64 0x000D0000 1 p s
        else if x.kind = 2 then cntPart64 0x000D0018 1 p s
        else if x.kind = 5 then cntPart 0x000D002C 1 p s else s
      sendPacketAs (if x.kind = 1 then x.cfgEpoch else ownEpoch s) d p (packetKind x.kind) x s
    | none => s

/-- Change the outstanding clause of a tag. -/
def updClause (p : PartId) (tag : Nat) (f : Clause → Clause) (s : State) : State :=
  updConj p (fun c => { c with clauses := c.clauses.map (fun x => if x.tag = tag then f x else x) }) s
def findClause (s : State) (p : PartId) (tag : Nat) : Option Clause :=
  match (getPart s p).conj with | some c => c.clauses.find? (fun x => x.tag == tag) | none => none

/-- The outstanding committed clause that was confirmed from a speculative tag. -/
def confirmedFrom (s : State) (p : PartId) (tag : Nat) : Option Clause :=
  match (getPart s p).conj with | some c => c.clauses.find? (fun x => x.stage == .sent && x.specTag == some tag) | none => none

/-- A selected expert's clause is sent once more under its committed tag, resolved anew (R294); past the close markers it is a
re-issued one (R19, R313). DEDUCED: notes/assumptions/97.md. -/
def sendLate (p : PartId) (x : Clause) (s : State) : State :=
  match (getPart s p).conj, jobModel (getPart s p) with
  | some c, some m =>
    if c.closeSent then reissueClause p { x with specTag := none } none (some false) s
    else
      let s := updConj p (fun c => { c with clauses := c.clauses.filter (fun y => !(y.slot == x.slot && y.rank == x.rank && y.stage == .sent)) }) s
      dispatchClause p m x.pos (bytesAt (clauseRead s p c.clauseTd x.pos x.rank) 0 12 ++ toLe 4 0) (cntPart64 0x000A0020 1 p s)
  | _, _ => s

/-- The GATE_BOUNCE record: once per step for each device and cluster (R510). DEDUCED: notes/assumptions/54.md. -/
def bounceRecord (p : PartId) (x : Clause) (d : DevId) (s : State) : State :=
  match (getPart s p).conj with
  | some c =>
    if c.bounceRec.contains (d, x.cluster) then s
    else record p { code := 0x0604, cls := .corrected, source := 2, tag := c.tag, detail0 := x.cluster }
      (updConj p (fun c => { c with bounceRec := c.bounceRec ++ [(d, x.cluster)] }) s)
  | none => s
/-- The GATE_BOUNCE record of the outstanding clause of a tag. -/
def noteBounce (p : PartId) (tag : Nat) (d : DevId) (s : State) : State :=
  match findClause s p tag with | some x => bounceRecord p x d s | none => s

/-- A speculative clause is refused (R294): it holds its budget until commit, and a GATE_BOUNCE with it (R299). A refusal that comes
after the commit finds the clause confirmed, and its expert's clause is sent late. DEDUCED: notes/assumptions/97.md. -/
def refuseSpec (p : PartId) (tag : Nat) (d : DevId) (bounce : Bool) (s : State) : State :=
  let s := cntPart 0x000A003C 1 p s
  match findClause s p tag with
  | some x => if x.stage == .spec then
      updClause p tag (fun x => { x with stage := .refused, heldFault := if bounce then some 0x0604 else x.heldFault }) s else s
  | none => match confirmedFrom s p tag with
    | some x => sendLate p x (if bounce then bounceRecord p x d s else s)
    | none => if bounce then suppress p 1 s else s

/-- A speculative row failed its check a third time (R299, R314): the fault is held with the clause, is recorded where it has been
confirmed, and is suppressed where it has been cancelled. -/
def specLost (p : PartId) (tag : Nat) (s : State) : State :=
  match findClause s p tag with
  | some x => if x.stage == .spec then updClause p tag (fun x => { x with heldFault := some 0x0405 }) s else s
  | none => match confirmedFrom s p tag with
    | some x => recordLost p x 0x0405 s
    | none => suppress p 1 s

/-- An outstanding clause of the own tokens is re-issued with a device excluded. -/
def reissueTag (p : PartId) (tag : Nat) (d : DevId) (admitted : Option Bool) (s : State) : State :=
  match findClause s p tag with
  | some x => if x.stage == .sent then reissueClause p x (some d) admitted s else s
  | none => s

/-- A packet failed its end-to-end check at the far device: resend it, or give up after the third failure (R314). DEDUCED: notes/assumptions/54.md. -/
def e2eFailed (d : DevId) (p : PartId) (x : Packet) (b : Bytes) (s : State) : State :=
  if x.kind ≠ 1 ∧ x.kind ≠ 2 then sendAgain d p false b s
  else
    let (n, s) := countFail d p x s
    if n < 3 then sendAgain d p false b s
    else if x.kind = 1 ∧ tagSpec x.tag then specLost p x.tag s
    else
      let s := record p { code := 0x0405, cls := .corrected, source := 2, tag := stepTag s p, detail0 := x.tag } s
      if x.kind = 1 then reissueTag p x.tag d (some false) s else s

/-- A REFUSE reaches the sender of what it names. DEDUCED: notes/assumptions/42.md. -/
def takeRefuse (d : DevId) (p : PartId) (k : Packet) (s : State) : State :=
  let v := tabGet 0 s.commit.epochs (d / 16)
  let behind := (v + 4 - k.cfgEpoch) % 4
  let named := (getFlow s d p.val).sent.find? (fun e => e.1 == k.flowSeq)
  let s := match named with
    | none => s
    | some (_, true, b) => if k.reason = 1 ∨ k.reason = 2 then sendAgain d p true b s else s
    | some (_, false, b) => match parsePacket b with
      | none => s
      | some x =>
        if k.reason = 1 then e2eFailed d p x b s
        else if x.kind ≠ 1 then (if k.reason = 2 then sendAgain d p false b s else s)
        else
          if tagSpec x.tag then refuseSpec p x.tag d (k.reason == 3) s
          else reissueTag p x.tag d (if k.reason = 3 then none else some false) (if k.reason = 3 then noteBounce p x.tag d s else s)
  let s := if k.reason = 2 ∧ (behind = 1 ∨ behind = 2) then updPeer d (fun q => { q with behind := true }) (markUnreachable d s) else s
  conjSettle p s

-- Packets in their turn (R311 to R316, R324)

/-- The row that a ROW packet brings. -/
def rowOfPacket (src : DevId) (path : Path) (k : Packet) (dt : Nat) : RowRec :=
  { tag := k.tag, seq := k.flowSeq, src := src, path := path, expert := k.expert, cluster := k.cluster, layer := tagLayer k.tag, step := k.step,
    comm := k.comm, slotGen := k.slotGen, partEpoch := k.partEpoch, weight := k.weight, key := k.key, row := k.payload,
    poison := k.poison, reissue := k.reissue, spec := tagSpec k.tag, dt := dt }

/-- A ROW that passed the checks: it is stored, or waits in its pool while ROW credit is withheld (R272, R322). -/
def takeRow (src : DevId) (path : Path) (p : PartId) (k : Packet) (dt : Nat) (b : Bytes) (s : State) : State :=
  let spec := tagSpec k.tag
  let st := match s.clusters.toList[k.cluster]? with | some c => c.state | none => .off
  if st == .isolated || st == .off then
    cntPower 0x00130014 1 (sendRefuse src p 3 k (leavePool src path b s))
  else if spec && !(partCfg s p).updraftEn then sendRefuse src p 4 k (leavePool src path b s)
  else
    let s := match (getPart s p).rows.find? (fun r => r.tag == k.tag && r.spec && spec) with | some r => orphanRow p r s | none => s
    let s := cntPart64 0x000D0008 1 p s
    let r := rowOfPacket src path k dt
    if rowWithheld s p then noteStalls p (storeRow p { r with stage := .waiting, pkt := b } s)
    else storeRow p r (leavePool src path b s)

/-- A RESULT or a DROP notice reaches the combine (R324). -/
def takeResult (p : PartId) (k : Packet) (s : State) : State :=
  if tagDev k.tag ≠ ownId s then cntPart 0x000F0014 1 p s
  else
    let i := tagSlot k.tag
    let seen := (getSlot s p i).seen
    if k.kind = 2 then conjSettle p (contribute p k.tag k.partEpoch k.slotGen (some (rowHalves k.payload)) k.poison false s)
    else
      let s := contribute p k.tag k.partEpoch k.slotGen none k.poison false s
      let s := if (getSlot s p i).seen = seen then s
        else updSlot p i (fun x => { x with dropped := x.dropped + 1 }) (clauseFlag p i (tagRank k.tag) (2 ^ 18 + 2 ^ 19) s)
      conjSettle p s

/-- Entry `i` of a VERDICT (R293). -/
def takeVerdict (p : PartId) (b : Bytes) (i : Nat) (s : State) : State :=
  let f := leAt b (16 * i + 8) 1
  applyVerdict p (leAt b (16 * i) 8) (bitOf f 7) (f % 16) (leAt b (16 * i + 12) 4) s

/-- The counts of a CLOSE: expert, cluster, clauses (R313). -/
def closeCounts (k : Packet) : List (Nat × Nat × Nat) :=
  (List.range k.count).map (fun i =>
    let w := leAt k.payload (4 * i) 4
    (bitsOf w 11 0, bitsOf w 14 12, bitsOf w 31 16))

/-- A CLOSE: for the executing step, for a torn-down one, or kept for a step to come (R19, R212). -/
def takeClose (src : DevId) (p : PartId) (k : Packet) (s : State) : State :=
  let mine (c : Conj) : Bool := c.step == k.step && c.layer == tagLayer k.tag && c.parts.contains src
  let add (c : Conj) : Conj := { c with closes := c.closes.filter (fun x => x.dev != src) ++ [{ dev := src, counts := closeCounts k }] }
  let q := getPart s p
  if (match q.conj with | some c => mine c | none => false) then tryClose p (updConj p add s)
  else if (match q.served with | some c => mine c | none => false) then
    tryClose p (updPart s p (fun q => { q with served := q.served.map add }))
  else updPart s p (fun q => { q with closes := q.closes ++ [{ dev := src, step := k.step, layer := tagLayer k.tag, counts := closeCounts k }] })

/-- A packet that fails its check (R311, R314). The device whose token a failing RESULT serves re-issues the clause after
the third failure. -/
def takeBad (src : DevId) (p : PartId) (b : Bytes) (s : State) : State :=
  let k := rawPacket b
  let s := cntPart 0x000D0020 1 p (sendRefuse src p 1 k s)
  if k.kind = 2 ∧ tagDev k.tag = ownId s then
    let (n, s) := countFail src p k s
    if n = 3 then conjSettle p (reissueTag p k.tag src none s) else s
  else s

/-- The error source of a path: the Bridle or the Tether; the DSP for anything else. -/
def pathSource : Path → Nat
  | .loc => 2 | .bridle _ => 8 | .relay _ => 8 | .tether _ => 9

/-- A RESULT or a DROP carries the partition epoch of the token's device (R312), this device: a lower one than its own is stale (R316);
what is not goes on to the checks of R324. DEDUCED: notes/assumptions/51.md. -/
def judgeResult (p : PartId) (k : Packet) (s : State) : State :=
  if tagDev k.tag = ownId s ∧ staleEpoch (getPart s p).epoch k.partEpoch then cntPart 0x000D0028 1 p s else takeResult p k s

/-- A data-plane packet in its turn. DEDUCED: notes/assumptions/51.md. -/
def deliverPacket (src : DevId) (path : Path) (dt : Nat) (p : PartId) (b : Bytes) (s : State) : State :=
  match parsePacket b with
  | none => takeBad src p b (leavePool src path b s)
  | some k =>
    if k.kind < 1 ∨ k.kind > 6 then sendRefuse src p 1 k (leavePool src path b s)
    else
      match judgeEpoch src k.cfgEpoch dt s with
      | (false, s) => refuseEpoch src p k.cfgEpoch k (pathSource path) (k.kind == 1 && tagSpec k.tag) (leavePool src path b s)
      | (true, s) =>
        if k.kind = 2 ∨ k.kind = 5 then judgeResult p k (leavePool src path b s)
        else match judgePart src p k.partEpoch s with
        | none => cntPart 0x000D0028 1 p (leavePool src path b s)
        | some s =>
          if k.kind = 1 then takeRow src path p k dt b s
          else if k.kind = 3 then
            conjSettle p (eachOf (List.range k.count) (fun i s => takeVerdict p k.payload i s) (leavePool src path b s))
          else takeClose src p k (leavePool src path b s)


/-- A collective piece in its turn (R387, R396). -/
def arrivePiece (src : DevId) (path : Path) (dt : Nat) (p : PartId) (b : Bytes) (s : State) : State :=
  match parsePiece b with
  | none =>
    let s := leavePool src path b s
    if (rawPiece b).kind = 1 then
      colSettle p (if pieceFate s (rawPiece b) = .early then { s with col := { s.col with waiting := s.col.waiting ++ [(src, path, dt, b)] } }
                   else dataBad (rawPiece b) dt s)
    else s
  | some x =>
    match judgeEpoch src x.cfgEpoch dt s with
    | (false, s) =>
      refuseEpoch src p x.cfgEpoch { tag := mkTag src 0 0 0 p.val false 0, flowSeq := x.flowSeq, partEpoch := x.partEpoch } (pathSource path) false (leavePool src path b s)
    | (true, s) => match judgePart src p x.partEpoch s with
      | none => cntPart 0x000D0028 1 p (leavePool src path b s)
      | some s => deliverPiece src path dt b x s

-- The order of a flow (R315, R350)

/-- Deliver one packet or piece of a flow. -/
def deliverHeld (d : DevId) (p : PartId) (path : Path) (isPiece : Bool) (dt : Nat) (b : Bytes) (s : State) : State :=
  if isPiece then arrivePiece d path dt p b s else deliverPacket d path dt p b s

/-- A row that waits after its turn and had moved into the reorder buffer stays there (R350). -/
def markMoved (p : PartId) (e : HeldPkt) (s : State) : State :=
  if e.moved then updRows p (fun l => l.map (fun r => if r.stage == .waiting && r.pkt == e.bytes then { r with moved := true } else r)) s else s

/-- Deliver what a flow holds in order until a number is missing. -/
def drainFlow (d : DevId) (p : PartId) : Nat → State → State
  | 0, s => s
  | n + 1, s =>
    let f := getFlow s d p.val
    match f.rxHeld.find? (fun e => e.seq == f.rxNext) with
    | none => s
    | some e =>
      let t := updFlow d p.val (fun f => { f with
        rxNext := wrapAdd 32 f.rxNext 1
        rxHeld := f.rxHeld.filter (fun x => x.seq != e.seq) }) s
      drainFlow d p n (if e.bytes.isEmpty then t else markMoved p e (deliverHeld d p e.path e.piece e.dt e.bytes t))

/-- Deliver what the flows of a partition index hold and may now deliver, and store the rows that there is now room for. -/
def drainPart (p : PartId) (s : State) : State :=
  let ks := (s.net.flows.filter (fun e => e.1 % 4 == p.val && !e.2.rxHeld.isEmpty)).map (fun e => e.1 / 4)
  settleRows p <| eachOf ks (fun d s => drainFlow d p ((getFlow s d p.val).rxHeld.length + 1) s) s

/-- Bytes in the reorder buffer: the packets that moved there, and the rows of them that wait after their turn (R350). -/
def reorderUse (s : State) : Nat :=
  ((s.net.flows.flatMap (fun e => e.2.rxHeld.filter (·.moved))).map (fun x => x.bytes.length)).foldl (· + ·) 0 +
    ((allParts.flatMap (fun p => (getPart s p).rows.filter (fun r => r.moved && r.stage == .waiting))).map (fun r => r.pkt.length)).foldl (· + ·) 0

/-- The flow's partition index, the FLOW_SEQ and the KIND that a packet or piece shows. -/
def flowPartOf (isPiece : Bool) (b : Bytes) : PartId :=
  if isPiece then commPart (rawPiece b).commId else ⟨tagPart (rawPacket b).tag % 4, Nat.mod_lt _ (by decide)⟩
def flowSeqOf (isPiece : Bool) (b : Bytes) : Nat := if isPiece then (rawPiece b).flowSeq else (rawPacket b).flowSeq
def kindOf (isPiece : Bool) (b : Bytes) : Nat := if isPiece then (rawPiece b).kind else (rawPacket b).kind

/-- Does the reorder buffer take a packet that came over the Bridle `ahead` of its turn (R350)? It then leaves its pool.
DEDUCED: notes/assumptions/50.md. -/
def reorderTakes (s : State) (path : Path) (ahead : Nat) (b : Bytes) : Bool :=
  ahead != 0 && (match path with | .bridle _ => true | .relay _ => true | _ => false) && decide (reorderUse s + b.length ≤ Config.reorderBytes)

/-- How far a FLOW_SEQ lies ahead of the next one of its flow, modulo 2^32. -/
def seqAhead (s : State) (src : DevId) (p : PartId) (seq : Nat) : Nat := (2 ^ 32 + seq - (getFlow s src p.val).rxNext) % 2 ^ 32

/-- Has the flow passed this FLOW_SEQ, or does it hold it? DEDUCED: notes/assumptions/50.md. -/
def seqSeen (s : State) (src : DevId) (p : PartId) (seq : Nat) : Bool :=
  decide (seqAhead s src p seq ≥ 2 ^ 31) || (getFlow s src p.val).rxHeld.any (fun e => e.seq == seq && !e.bytes.isEmpty)

/-- A packet or piece is held in its flow until its turn. DEDUCED: notes/assumptions/51.md. -/
def holdPacket (src : DevId) (path : Path) (isPiece : Bool) (p : PartId) (seq : Nat) (b : Bytes) (s : State) : State :=
  let moved := reorderTakes s path (seqAhead s src p seq) b
  let s := if moved then cntBridle 0x00150418 1 (leavePool src path b s) else s
  updFlow src p.val (fun f => { f with rxHeld := f.rxHeld.filter (fun e => e.seq != seq) ++
    [{ seq := seq, path := path, piece := isPiece, dt := dtNow s, bytes := b, moved := moved }] }) s

/-- The number of a packet that failed its check is passed over in its turn: the packet comes again under another (R314).
DEDUCED: notes/assumptions/50.md. -/
def passOver (src : DevId) (path : Path) (p : PartId) (seq : Nat) (s : State) : State :=
  if seqAhead s src p seq ≥ 2 ^ 31 || (getFlow s src p.val).rxHeld.any (fun e => e.seq == seq) then s
  else updFlow src p.val (fun f => { f with rxHeld := f.rxHeld ++ [{ seq := seq, path := path, dt := dtNow s }] }) s

/-- A packet or piece that shows a higher PART_EPOCH than was seen: what the flow holds of an older one is discarded at once, and
what the rise brings about follows (R316, R350, R466). DEDUCED: notes/assumptions/51.md. -/
def seeRise (src : DevId) (p : PartId) (isPiece : Bool) (seq : Nat) (b : Bytes) (s : State) : State :=
  match (getFlow s src p.val).epoch, shownEpoch isPiece b with
  | some r, some e =>
    if e = r ∨ staleEpoch r e then s
    else match judgePart src p e (dropHeld src p (heldStale e seq) s) with
      | some s => s
      | none => s
  | _, _ => s

/-- A packet or piece takes its turn in its flow, unless its number has passed. -/
def takeTurn (src : DevId) (path : Path) (isPiece : Bool) (p : PartId) (b : Bytes) (s : State) : State :=
  let seq := flowSeqOf isPiece b
  if seqSeen s src p seq then cntBridle 0x00150420 1 (leavePool src path b s)
  else drainPart p (holdPacket src path isPiece p seq b (seeRise src p isPiece seq b s))

/-- A packet that fails its check is discarded and refused at once (R311, R314). -/
def arriveBad (src : DevId) (path : Path) (p : PartId) (b : Bytes) (s : State) : State :=
  let s := takeBad src p b (leavePool src path b s)
  if (rawPacket b).kind = 6 then s else drainPart p (passOver src path p (rawPacket b).flowSeq s)

/-- A packet or piece arrives. A REFUSE acts at once; anything else that is sound takes its turn in its flow. -/
def arrive (src : DevId) (path : Path) (isPiece : Bool) (b : Bytes) (s : State) : State :=
  let p := flowPartOf isPiece b
  let s := arriveMeets path p s
  if isPiece then takeTurn src path true p b s
  else match parsePacket b with
  | none => arriveBad src path p b s
  | some k => if k.kind = 6 then drainPart p (takeRefuse src p k (leavePool src path b s)) else takeTurn src path false p b s

/-- A row of the table receives only a packet or piece of its own KIND. DEDUCED: notes/assumptions/50.md. -/
def arriveKind (src : DevId) (path : Path) (isPiece : Bool) (kinds : Nat → Bool) (b : Bytes) (s : State) : Out :=
  .next (if s.boot.state == .ready && kinds (kindOf isPiece b) then arrive src path isPiece b s else s)

def execRowReceive (src : DevId) (path : Path) (pkt : Bytes) (s : State) : Out :=
  arriveKind src path false (fun k => k == 1 || k == 0 || k > 6) pkt (quietRow s)
def execResultReceive (src : DevId) (path : Path) (pkt : Bytes) (s : State) : Out := arriveKind src path false (· == 2) pkt s
def execVerdictReceive (src : DevId) (path : Path) (pkt : Bytes) (s : State) : Out := arriveKind src path false (· == 3) pkt s
def execCloseReceive (src : DevId) (path : Path) (pkt : Bytes) (s : State) : Out := arriveKind src path false (· == 4) pkt s
def execDropReceive (src : DevId) (path : Path) (pkt : Bytes) (s : State) : Out := arriveKind src path false (· == 5) pkt s
def execRefuseReceive (src : DevId) (path : Path) (pkt : Bytes) (s : State) : Out := arriveKind src path false (· == 6) pkt s
/-- Keep what a sender's command named, once for each of its operations (R388). DEDUCED: notes/assumptions/52.md. -/
def noteOps (src : DevId) (b : Bytes) (ops : Option ColOps) (s : State) : State :=
  let x := rawPiece b
  match ops with
  | none => s
  | some o =>
    let rest := s.col.named.filter (fun (d, id, seq, _) => !(d == src && id == x.commId && seq == x.opSeq))
    { s with col := { s.col with named := rest ++ [(src, x.commId, x.opSeq, o)] } }

def execColDataReceive (src : DevId) (path : Path) (pkt : Bytes) (ops : Option ColOps) (s : State) : Out :=
  arriveKind src path true (fun k => k < 2 || k > 8) pkt (noteOps src pkt ops s)
def execColAckReceive (src : DevId) (path : Path) (pkt : Bytes) (s : State) : Out := arriveKind src path true (· == 2) pkt s
def execColNackReceive (src : DevId) (path : Path) (pkt : Bytes) (s : State) : Out := arriveKind src path true (· == 3) pkt s
def execJoinReceive (src : DevId) (path : Path) (pkt : Bytes) (s : State) : Out := arriveKind src path true (· == 4) pkt s
def execReadyReceive (src : DevId) (path : Path) (pkt : Bytes) (s : State) : Out := arriveKind src path true (· == 5) pkt s
def execColAbortReceive (src : DevId) (path : Path) (pkt : Bytes) (s : State) : Out := arriveKind src path true (· == 6) pkt s
def execColProbeReceive (src : DevId) (path : Path) (pkt : Bytes) (s : State) : Out := arriveKind src path true (· == 7) pkt s
def execColProbeAckReceive (src : DevId) (path : Path) (pkt : Bytes) (s : State) : Out := arriveKind src path true (· == 8) pkt s

-- Passes (R20, R322, R470, R471)

/-- PASS_START. -/
def execPassStart (p : PartId) (expert : Nat) (s : State) : Out := .next (drainPart p (passStart p expert s))
/-- REISSUE_PASS_TIMER (R470). -/
def execReissuePassTimer (p : PartId) (expert : Nat) (s : State) : Out := .next (drainPart p (reissuePass p expert s))
/-- TEARDOWN_SERVE_END: SYC_WAIT_MS after the teardown. DEDUCED: notes/assumptions/42.md. -/
def execTeardownServeEnd (p : PartId) (s : State) : Out := .next (drainPart p (serveEnd p s))

end Sys2Proof.Machine
end

