-- ==== Sys2Proof/Machine/Power.lean ====
section
/-!
DEFINITION. Machine/Power.lean: P-states, the rail monitor, sensors, clamps, cluster gating, notices and QUIET
(spec/20).
-/
namespace Sys2Proof.Machine
open Sys2Proof

-- Commands of PWR_CTL (R517)

/-- CMD and ARG of a PWR_CTL write that acts. -/
def pwrCtl (r : Requester) (v cmd : Nat) (s : State) : Option Nat :=
  if mgtOpen r s && bitsOf v 31 16 == 0x9A7E && bitsOf v 15 12 == 0 && bitsOf v 7 4 == 0 && bitsOf v 3 0 == cmd then some (bitsOf v 11 8)
  else none

/-- PWR_CMD_STATUS after a command: reason 0 for one that was taken. DEDUCED: notes/assumptions/60.md. -/
def pwrStatus (cmd reason : Nat) (s : State) : State :=
  { s with power := { s.power with lastCmd := cmd, refused := decide (reason ≠ 0), reason := reason } }

-- P-states (R496 to R499)

/-- SET_PSTATE (R498). Requests are not accepted while RAIL_OOR stands (R499). DEDUCED: notes/assumptions/60.md. -/
def execSetPstate (r : Requester) (v : Nat) (s : State) : Out :=
  match pwrCtl r v 1 s with
  | none => .next s
  | some p =>
    let pinned := match s.cfg.clock.pinPstate with | some x => x != p | none => false
    if !bitOf s.cfg.clock.pstateMask p || pinned then .next (pwrStatus 1 1 s)
    else if s.power.railOor then .next (pwrStatus 1 5 s)
    else .next (pwrStatus 1 0 (requestPstate p s))

/-- PSTATE_RAMP_DONE (R497): the rail has reached the target; a raised CORE switches at the next beat. DEDUCED: notes/assumptions/60.md. -/
def execPstateRampDone (s : State) : Out :=
  if !s.power.changing || !clocked s then .next s
  else
    let s := if s.power.target < s.boot.pstate then switchCore s.power.target s else s
    .next { s with power := { s.power with changing := false } }

/-- VDD_CORE target of a P-state in mV (R496). DEDUCED: notes/assumptions/59.md. -/
def vddTarget (p : Nat) : Int :=
  (match p with | 0 => 900 | 1 => 860 | 2 => 800 | 3 => 750 | 4 => 700 | _ => 650) + (Config.vddOffset.val : Int) - 30

/-- RAIL_READBACK_SAMPLE (R499): out of range for 10 µs is three samples 5 µs apart, in range for 1 ms is 201. DEDUCED: notes/assumptions/59.md. -/
def execRailReadbackSample (mv : Nat) (s : State) : Out :=
  if !s.boot.coreFabLock || !clocked s then .next s
  else
    let t := vddTarget s.power.target
    let off := ((mv : Int) - t).natAbs * 100
    let w := s.power
    let bad := if w.changing || decide ((off : Int) ≤ 5 * t) then 0 else w.railBad + 1
    let good := if decide ((off : Int) ≤ 3 * t) then w.railGood + 1 else 0
    let s := { s with power := { w with railMv := mv, railBad := bad, railGood := good } }
    if w.railOor then
      if good ≥ 201 then .next { s with power := { s.power with railOor := false } } else .next s
    else if bad ≥ 3 then
      .next (mgtEvent 0x0005 0xFF mv (switchCore 5 { s with power := { s.power with railOor := true } }))
    else .next s

-- Clamps (R501 to R503)

/-- The effective duty: the lowest of the engaged clamps' (R502). -/
def duty (s : State) : Nat := min s.power.dutyPower s.power.dutyThermal

/-- The thermal clamp at a round of samples (R501), temperatures in 0.125 degrees C. DEDUCED: notes/assumptions/61.md. -/
def thermalStep (s : State) : State :=
  let w := s.power
  if !w.clampThermal then
    if w.tj ≥ 880 then
      mgtEvent 0x0003 2 14 (cntPower 0x00130010 1 { s with power := { w with clampThermal := true, dutyThermal := 14, coolRun := 0 } })
    else s
  else if w.tj ≥ 856 then { s with power := { w with dutyThermal := max 4 (w.dutyThermal - 2), coolRun := 0 } }
  else if w.coolRun + 1 < 10 then { s with power := { w with coolRun := w.coolRun + 1 } }
  else if w.dutyThermal + 1 < 16 then { s with power := { w with dutyThermal := w.dutyThermal + 1, coolRun := 0 } }
  else releaseHeld (mgtEvent 0x0004 2 16 { s with power := { w with dutyThermal := 16, coolRun := 0, clampThermal := false } })

/-- The 16-bit pattern of a signed temperature. -/
def tempBits (t : Int) : Nat := (t % 65536).toNat

/-- THM_STATUS.ALERT (R506): an edge is a policy event, and the rising edge interrupts the management processors. DEDUCED: notes/assumptions/61.md. -/
def alertStep (s : State) : State :=
  let now := decide (s.power.tj ≥ 8 * (s.power.alertC : Int))
  let was := s.power.alert
  let s := { s with power := { s.power with alert := now } }
  if now && !was then
    mgtEvent 0x0001 0xFF (tempBits s.power.tj) (emit (.mpIrq 1) (emit (.mpIrq 0) { s with mgt := { s.mgt with alertAt := upNs s } }))
  else if was && !now then mgtEvent 0x0002 0xFF (tempBits s.power.tj) s
  else s

/-- The sensor of the highest temperature, the lowest of equals. -/
def hottestOf (t : Vector Int 18) : Nat := (List.range 18).foldl (fun a i => if t.toList.getD i 0 > t.toList.getD a 0 then i else a) 0

/-- SENSOR_SAMPLE (R500, R501, R506): one round of the 18 sensors. -/
def execSensorSample (temps : List Int) (s : State) : Out :=
  if !clocked s then .next s
  else
    let t : Vector Int 18 := Vector.ofFn (fun i => temps.getD i.val s.power.sensors[i])
    let h := hottestOf t
    let tj := t.toList.getD h 0
    let s := { s with power := { s.power with sensors := t, hottest := h, tj := tj, thmMax := max s.power.thmMax tj } }
    .next (thermalStep (alertStep s))

/-- HBM_TEMP_REPORT (R501): 95 degrees C doubles the refresh rate; 105 halves the request rate until below 100. DEDUCED: notes/assumptions/61.md. -/
def execHbmTempReport (stack : Fin 6) (temp : Int) (s : State) : Out :=
  if !clocked s then .next s
  else
    let w := s.power
    .next { s with power := { w with
      hbm := w.hbm.set stack temp
      hbmDouble := w.hbmDouble.set stack (decide (temp ≥ 760))
      hbmHalf := w.hbmHalf.set stack (decide (temp ≥ 840) || (w.hbmHalf[stack] && decide (temp ≥ 800))) } }

/-- The limit L of the power clamp (R502). -/
def powerLimit (s : State) : Nat := min 900 s.power.limitW

/-- The end of a 10 µs window (R502): its average, and a raise of the duty below 0.95 L. DEDUCED: notes/assumptions/61.md. -/
def windowEnd (s : State) : State :=
  let w := s.power
  if w.winCount = 0 then s
  else
    let avg := w.winSum / w.winCount
    let s := { s with power := { w with avg10 := avg, winSum := 0, winCount := 0 } }
    if !(w.clampEdp || w.clampLimit) || w.winSum * 100 ≥ 95 * powerLimit s * w.winCount then s
    else if w.dutyPower + 1 < 16 then { s with power := { s.power with dutyPower := w.dutyPower + 1 } }
    else
      let unit := if w.clampEdp then 0 else 1
      releaseHeld (mgtEvent 0x0004 unit 16 { s with power := { s.power with dutyPower := 16, clampEdp := false, clampLimit := false } })

/-- One microsecond over the limit (R502): the clamp engages or lowers its duty; an engagement above 900 W is recorded.
DEDUCED: notes/assumptions/61.md. -/
def overLimit (avg : Nat) (s : State) : State :=
  let w := s.power
  if w.clampEdp || w.clampLimit then { s with power := { w with dutyPower := max 4 (w.dutyPower - 1) } }
  else
    let edp := decide (w.winSum > 900 * w.winCount)
    let s := cntPower 0x00130010 1 { s with power := { w with dutyPower := 15, clampEdp := edp, clampLimit := !edp } }
    let s := mgtEvent 0x0003 (if edp then 0 else 1) 15 s
    if edp then
      let e : ErrRec := { code := 0x0602, cls := .corrected, source := 0xC, detail0 := avg }
      mgtRecord e (recordAll e s)
    else s

/-- The energy and the 100 ms average (R516): one estimate is one microsecond. DEDUCED: notes/assumptions/61.md. -/
def energyStep (watts : Nat) (s : State) : State :=
  let w := s.power
  let e := w.energyRem + watts
  let w := { w with energyMj := wrapAdd 64 w.energyMj (e / 1000), energyRem := e % 1000, sum100 := w.sum100 + watts, count100 := w.count100 + 1 }
  let w := if w.count100 ≥ 100000 then { w with avg100 := w.sum100 / w.count100, sum100 := 0, count100 := 0 } else w
  { s with power := w }

/-- POWER_ESTIMATE (R502): the estimate of one microsecond. DEDUCED: notes/assumptions/61.md. -/
def execPowerEstimate (watts : Nat) (s : State) : Out :=
  if !clocked s then .next s
  else
    let idx := dtNow s / 10000
    let s := if idx = s.power.winIdx then s
      else let t := windowEnd s; { t with power := { t.power with winIdx := idx } }
    let s := energyStep watts { s with power := { s.power with winSum := s.power.winSum + watts, winCount := s.power.winCount + 1 } }
    if s.power.winSum > powerLimit s * s.power.winCount then .next (overLimit (s.power.winSum / s.power.winCount) s) else .next s

/-- PWR_LIMIT_W_WRITE (R517). -/
def execPwrLimitWWrite (r : Requester) (v : Nat) (s : State) : Out :=
  if !mgtOpen r s then .next s
  else .next { s with power := { s.power with limitW := min 900 (max 500 (v % 65536)) } }

/-- PWR_CLOSE_US_WRITE (R517). -/
def execPwrCloseUsWrite (r : Requester) (v : Nat) (s : State) : Out :=
  if !mgtOpen r s then .next s
  else .next { s with power := { s.power with closeUs := min 1000 (max 10 (v % 65536)) } }

-- Cluster gating (R508 to R512)

/-- A cluster by number; none for a number that names no cluster. DEDUCED: notes/assumptions/62.md. -/
def clusterNo (n : Nat) : Option ClusterId := if h : n < 8 then some ⟨n, h⟩ else none

/-- Is the cluster in the URGENT_MASK of a DEFINED partition? -/
def urgentReserved (s : State) (c : ClusterId) : Bool := (definedParts s).any (fun p => bitOf (partCfg s p).urgentMask c.val)

/-- Would gating leave a DEFINED partition that holds a model with no cluster in service outside its URGENT_MASK (R511)? -/
def lastCluster (s : State) (c : ClusterId) : Bool :=
  (definedParts s).any (fun p => bitOf (partCfg s p).clusterMask c.val && !(getPart s p).models.isEmpty &&
    (allClusters.all (fun k => k == c || !bitOf (partCfg s p).clusterMask k.val || bitOf (partCfg s p).urgentMask k.val || !clusterUp s k)))

/-- Why a GATE has no effect; 0 when it has one (R511). DEDUCED: notes/assumptions/62.md. -/
def gateReason (s : State) (c : ClusterId) : Nat :=
  if (getCluster s c).state != .on then 5
  else if urgentReserved s c && !clamped s && !s.power.alert then 3
  else if lastCluster s c then 2
  else 0

/-- The cluster is marked not in service, and the notice goes out (R508). -/
def gateCluster (c : ClusterId) (s : State) : State := noticeChange (inService s) (setCluster c .closing s)

/-- GATE (R511). -/
def execGate (r : Requester) (v : Nat) (s : State) : Out :=
  match (pwrCtl r v 2 s).bind clusterNo with
  | none => .next s
  | some c =>
    let why := gateReason s c
    .next (pwrStatus 2 why (if why = 0 then gateCluster c s else s))

/-- CLUSTER_NOTICE_TIMER (R509): every 10 ms the notice goes again to every peer with an open context. -/
def execClusterNoticeTimer (s : State) : Out :=
  if s.boot.state != .ready || decide (upNs s < s.power.noticeAt + 10000000) then .next s
  else .next (s.tether.ctxs.foldl (fun s (i, _) => noticeCtx i s) { s with power := { s.power with noticeAt := upNs s } })

/-- CLUSTER_NOTICE_RECEIVE (R509): a notice that came on a Tether stream leaves its pool; the notice with the highest NOTICE_SEQ,
modulo 2^32 (R625), is kept; the START_ID in it is learnt (R317). DEDUCED: notes/assumptions/62.md. -/
def execClusterNoticeReceive (notice : Bytes) (s : State) : Out :=
  let s := eachOf allPlanes (fun pl s => updPlane s pl (fun q => { q with pool := dropFirst (fun x => x.2 == notice) q.pool })) s
  if leAt notice 28 4 ≠ crc32c (bytesAt notice 0 28) then .next s
  else
    let d := leAt notice 0 2 % 2 ^ 14
    let seq := leAt notice 4 4
    let id := leAt notice 16 4
    let restarted := match (getPeer s d).startId with | some o => o != id | none => false
    let s := learnStart d id s
    let lower := match (getPeer s d).noticeSeq with | some n => ssnBefore seq n | none => false
    if !restarted && lower then .next s
    else .next (updPeer d (fun q => { q with noticeSeq := some seq, inService := leAt notice 2 1 }) s)

/-- CLOSE_TIME_ELAPSED (R508): the cores leave every job's cluster set at the next pass boundary (R409). -/
def execCloseTimeElapsed (c : ClusterId) (s : State) : Out :=
  if (getCluster s c).state != .closing || decide (upNs s < (getCluster s c).since + s.power.closeUs * 1000) then .next s
  else .next (updCluster (setCluster c .draining s) c (fun q => { q with leaving := true }))

/-- Does the front end of the cluster hold the row unserved? DEDUCED: notes/assumptions/62.md. -/
def heldAt (c : ClusterId) (r : RowRec) : Bool := r.cluster == c.val && r.expert != 0xFFFF && (r.stage == .stored || r.stage == .waiting)

/-- Does any pass that the cluster leads run? DEDUCED: notes/assumptions/62.md. -/
def leadsPass (s : State) (c : ClusterId) : Bool :=
  allParts.any (fun p => match (getPart s p).pass with | some x => x.lead == c.val | none => false)

/-- DRAIN_COMPLETE (R508). -/
def execDrainComplete (c : ClusterId) (s : State) : Out :=
  if (getCluster s c).state != .draining || leadsPass s c || allParts.any (fun p => (getPart s p).rows.any (heldAt c)) then .next s
  else .next (setCluster c .isolated s)

/-- The header fields that a REFUSE of a kept row names (R312). -/
def packetOfRow (r : RowRec) : Packet :=
  { tag := r.tag, partEpoch := r.partEpoch, slotGen := r.slotGen, flowSeq := r.seq, step := r.step, comm := r.comm }

/-- Has this device admitted a row: in Gust on its arrival in its step, in Still-Air at closure (R273, R274)? -/
def rowAdmitted (s : State) (p : PartId) (r : RowRec) : Bool :=
  !r.overflow && (match stepOf s p r with | some c => !(getPart s p).job.stillAir || c.closed | none => false)

/-- A held row is refused under its own tag (R510). A row of an own token is resolved again here, as its sender. DEDUCED: notes/assumptions/62.md. -/
def refuseHeld (p : PartId) (r : RowRec) (s : State) : State :=
  let admitted := rowAdmitted s p r
  let s := cntPower 0x00130018 1 (dropRow p r.tag s)
  if r.src ≠ ownId s then sendRefuse r.src p 3 (packetOfRow r) s
  else
    if r.spec then refuseSpec p r.tag r.src true s
    else conjSettle p (reissueTag p r.tag r.src (some admitted) (noteBounce p r.tag r.src s))

/-- DRAIN_CAP (R510): 500 µs into DRAINING; passes that have started run to their end. DEDUCED: notes/assumptions/62.md. -/
def execDrainCap (c : ClusterId) (s : State) : Out :=
  if (getCluster s c).state != .draining || decide (upNs s < (getCluster s c).since + 500000) then .next s
  else
    let s := setCluster c .isolated s
    .next (eachOf allParts (fun p s => drainPart p (eachOf ((getPart s p).rows.filter (heldAt c)) (fun r s => refuseHeld p r s) s)) s)

/-- ISOLATION_TIMER (R508): the power switches open. -/
def execIsolationTimer (c : ClusterId) (s : State) : Out :=
  if (getCluster s c).state != .isolated || (getCluster s c).waking || decide (upNs s < (getCluster s c).since + 20000) then .next s
  else .next (setCluster c .off s)

/-- Is the cluster of a BIST run, or is the device shut down (R557, R558)? DEDUCED: notes/assumptions/62.md. -/
def bistKeeps (s : State) (c : ClusterId) : Bool :=
  s.bist.parked || (match s.bist.run with | some x => x.trigger == 3 || x.batch.contains c.val || x.todo.contains c.val | none => false)

/-- PWR_WAKE (R508, R511): a cluster that BIST has removed never returns to service (R94). DEDUCED: notes/assumptions/62.md. -/
def execPwrWake (r : Requester) (v : Nat) (s : State) : Out :=
  match (pwrCtl r v 3 s).bind clusterNo with
  | none => .next s
  | some c =>
    let q := getCluster s c
    -- every cluster stays OFF in SAFE (R56)
    if s.boot.state == .safe || q.state == .on || q.disabled || bistKeeps s c then .next (pwrStatus 3 5 s)
    else if q.state == .closing || q.state == .draining then
      .next (pwrStatus 3 0 (noticeChange (inService s) (setCluster c .on s)))
    else .next (pwrStatus 3 0 (updCluster s c (fun q => { q with waking := true })))

/-- CLUSTER_POWER_UP_DONE (R512): the cluster enters ON cleared. -/
def execClusterPowerUpDone (c : ClusterId) (s : State) : Out :=
  if !(getCluster s c).waking || s.boot.state == .safe then .next s
  else
    let before := inService s
    let s := updCluster s c (fun q => { q with waking := false, leaving := false, cores := .replicate 8 {} })
    .next (noticeChange before (setCluster c .on s))

-- QUIET (R515)

/-- Is a mapped port asleep: in D3hot, in L2/L3 Ready, or in PERST_n? -/
def portAsleep (s : State) (k : PortId) : Bool := (getPort s k).d3hot || (getPort s k).l23 || s.pins.perstLow[k]

/-- May QUIET be entered? DEDUCED: notes/assumptions/63.md. -/
def quietOk (s : State) : Bool :=
  allPorts.all (fun k => (partOf s k).isNone || portAsleep s k) && allParts.all (fun p => !(getPart s p).job.open_)

/-- The lowest P-state that PSTATE_MASK allows: P5, or the next above it. DEDUCED: notes/assumptions/63.md. -/
def lowestPstate (s : State) : Nat := ([5, 4, 3, 2, 1, 0].find? (fun p => bitOf s.cfg.clock.pstateMask p)).getD s.boot.pstate

/-- Does a placement in force name the cluster of this device: a model's map, or a HOME_CLUSTER (R36, R86)?
DEDUCED: notes/assumptions/41.md; DEDUCED: notes/assumptions/63.md. -/
def placementNames (s : State) (c : ClusterId) : Bool :=
  allParts.any (fun p =>
    ((partCfg s p).defined && (((s.cfg.home[p]).homeCluster).orElse (fun _ => (clustersOf s p).head?)) == some c) ||
    (getPart s p).models.any (fun m => (List.range m.layers).any (fun l => (List.range m.experts).any (fun e =>
      (replicas s p m l e).any (fun x => x.1 == ownId s && x.2 == c.val)))))

/-- Gate the clusters that nothing names, as GATE does (R508). DEDUCED: notes/assumptions/63.md. -/
def gateUnnamed (s : State) : State :=
  eachOf allClusters (fun c s => if placementNames s c || urgentReserved s c || gateReason s c != 0 then s else gateCluster c s) s

/-- QUIET_ENTER (R515). DEDUCED: notes/assumptions/63.md. -/
def execQuietEnter (r : Requester) (v : Nat) (s : State) : Out :=
  match pwrCtl r v 4 s with
  | none => .next s
  | some _ =>
    if !quietOk s then .next (pwrStatus 4 4 s)
    else if s.power.quiet then .next (pwrStatus 4 0 s)
    else
      let s := { s with power := { s.power with quiet := true, saved := s.boot.pstate, rowDts := [] } }
      let s := if s.cfg.clock.pinPstate.isSome then s else requestPstate (lowestPstate s) s
      .next (pwrStatus 4 0 (gateUnnamed s))

/-- QUIET_EXIT (R515). DEDUCED: notes/assumptions/63.md. -/
def execQuietExit (r : Requester) (v : Nat) (s : State) : Out :=
  match pwrCtl r v 5 s with
  | none => .next s
  | some _ => .next (pwrStatus 5 0 (quietExit 5 s))

end Sys2Proof.Machine
end

