-- ==== Sys2Proof/Machine/Security.lean ====
section
/-!
DEFINITION. Machine/Security.lean: the signed commands of the SEC mailbox, the key vault, the life-cycle transitions, SPDM,
IDE key management, JTAG and the conditional self-tests (spec/21).
-/
namespace Sys2Proof.Machine
open Sys2Proof

-- The command buffer (R522)

def secBuf (s : State) : Bytes := memReadN s.sec.cmdBuf 0 1024
def secOp (b : Bytes) : Nat := leAt b 0 2
def secArgLen (b : Bytes) : Nat := leAt b 2 2
def secArgs (b : Bytes) : Bytes := bytesAt b 248 (secArgLen b)

/-- ARG_LEN of an opcode (R523, R531). -/
def argLenOk (op n : Nat) : Bool :=
  match op with
  | 1 => n == 50
  | 3 => n == 16
  | 5 => n == 16
  | 7 => decide (124 ≤ n) && decide (n ≤ 124 + 512) && (n - 124) % 64 == 0
  | 8 => n == 2
  | _ => n == 0

/-- Check 1 of R522: format and reserved bytes. DEDUCED: notes/assumptions/64.md. -/
def secFormat (b : Bytes) : Bool :=
  let op := secOp b
  decide (1 ≤ op) && decide (op ≤ 9) && argLenOk op (secArgLen b) && allZero (bytesAt b 4 4) && allZero (b.drop (248 + secArgLen b)) &&
  (op != 1 || allZero (bytesAt b 56 192)) &&
  (op != 1 || decide (leAt (secArgs b) 48 2 ≤ 255)) && (op != 8 || decide (leAt (secArgs b) 0 2 ≤ 255))

/-- Check 3: the owner key and the signature. PROVISION is the unsigned command. -/
def secSigned (s : State) (b : Bytes) : Bool :=
  secOp b == 1 ||
  (sha384 (bytesAt b 152 96) == s.fuses.ownerHash &&
    verifySig (bytesAt b 152 96) (sha384 (bytesAt b 0 56 ++ secArgs b)) (bytesAt b 56 96))

/-- Check 4: the life-cycle states in which an opcode is accepted (R523). -/
def secState (s : State) (op : Nat) : Bool :=
  let lc := lifeCycle s
  match op with
  | 1 => lc == .blank
  | 2 => lc == .provisioned
  | 3 => lc == .deployed && s.cfg.sec.debugUnlockAllowed
  | 4 => lc == .debugUnlocked
  | 5 => lc == .provisioned || lc == .deployed || lc == .debugUnlocked
  | 6 => lc != .blank && lc != .decommissioned
  | 7 => lc == .provisioned || lc == .deployed || lc == .debugUnlocked
  | 8 => lc == .provisioned || lc == .deployed
  | _ => lc != .blank

/-- Does an opcode burn a fuse or reset the device? -/
def burnsOrResets (op : Nat) : Bool := op != 7 && op != 9

/-- An operand condition whose refusal status the spec does not give: SERIAL, or a floor below the present one. DEDUCED: notes/assumptions/64.md. -/
def argRefused (s : State) (b : Bytes) : Bool :=
  ((secOp b == 3 || secOp b == 5) && bytesAt (secArgs b) 0 16 != s.fuses.serial) ||
  (secOp b == 8 && decide (leAt (secArgs b) 0 2 < s.fuses.floor))

/-- The status of the checks of R521 and R522 in their order: 0 when all pass. An operand condition is refused with one of the
statuses 5, 6 and 9, the spec does not say which: `free` chooses. DEDUCED: notes/assumptions/64.md. -/
def secCheck (s : State) (b : Bytes) (free : Nat) : Nat :=
  let op := secOp b
  if s.sec.locked then 8
  else if !secFormat b then 4
  else if bytesAt b 8 48 != s.sec.nonce then 7
  else if !secSigned s b then 2
  else if !secState s op then 3
  else if s.sec.logFull && s.cfg.sec.logFullMode == 1 && op != 9 then 5
  else if burnsOrResets op && (s.commit.state == .voting || s.commit.state == .armed) then 9
  else if op == 3 && decide (unlocks s ≥ 16) then 6
  else if argRefused s b then ([5, 6, 9] : List Nat).getD (free % 3) 5
  else 0

-- Life-cycle transitions (R526)

/-- Burn the first unburned fuse of a thermometer. DEDUCED: notes/assumptions/65.md. -/
def burnNext (v : Vector Fuse 16) : Vector Fuse 16 :=
  let n := (v.toList.takeWhile Fuse.on).length
  Vector.ofFn (fun i => if i.val = n then { a := true, b := true } else v[i])

/-- A fuse with both bits burned. -/
def burned : Fuse := { a := true, b := true }

/-- One transition: LC_PENDING, the zeroization where R523 states it, the burn, LC_DONE. The code that names the fuse in the
records is not given by the spec. DEDUCED: notes/assumptions/65.md. -/
def lcTransition (op : Nat) (zero : Bool) (burn : Fuses → Fuses) (s : State) : State :=
  let (f, s) := takeFree s
  let detail := toLe 2 op ++ toLe 1 f
  let s := secLog 0x0010 1 0 detail s
  let s := if zero then zeroizeAll (secLog 0x0021 1 0 (toLe 2 op) s) else s
  secLog 0x0011 1 0 detail { s with fuses := burn s.fuses }

-- The log at a start of the ROM (R526, R548)

/-- The flash address of record n (R545). -/
def slotAddr (n : Nat) : Nat := secSectorAddr (n / 63) + 64 + 64 * (n % 63)
def logRecord (s : State) (n : Nat) : Bytes := flashReadN s.flash (slotAddr n) 64

/-- H before record n: the header of its sector and the records before it in the sector, voided ones left out (R545, R548).
DEDUCED: notes/assumptions/65.md. -/
def chainBefore (s : State) (n : Nat) : Bytes :=
  (List.range (n % 63)).foldl (fun h i =>
      let r := logRecord s (n - n % 63 + i)
      if leAt r 16 2 = 0 then h else sha384 (h ++ r.take 48))
    (flashReadN s.flash (secSectorAddr (n / 63) + 16) 48)

/-- Does the last written slot fail its chain check? A voided slot does not. -/
def slotTorn (s : State) : Bool :=
  let r := logRecord s (s.sec.logSeq - 1)
  s.sec.logSeq != 0 && leAt r 16 2 != 0 &&
    bytesAt r 48 16 != (sha384 (chainBefore s (s.sec.logSeq - 1) ++ r.take 48)).take 16

/-- A torn last slot is voided, and the chain continues from the record before it (R548). -/
def voidTorn (s : State) : State :=
  if slotTorn s then
    { flashWrite (slotAddr (s.sec.logSeq - 1) + 16) [0, 0] s with
      sec := { s.sec with logH := chainBefore s (s.sec.logSeq - 1) } }
  else s

/-- The LC_PENDING record that no LC_DONE or LC_ABORTED follows: a ZEROIZED record and a voided one may stand after it (R526).
DEDUCED: notes/assumptions/65.md. -/
def openLc (s : State) : Option Bytes :=
  match ((List.range (min 3 s.sec.logSeq)).map (fun i => logRecord s (s.sec.logSeq - 1 - i))).dropWhile
      (fun r => leAt r 16 2 = 0 || leAt r 16 2 = 0x0021) with
  | r :: _ => if leAt r 16 2 = 0x0010 then some r else none
  | [] => none

/-- Does the fuse of a pending transition read burned? UNLOCK_DEBUG and RELOCK burn alternately (R525). DEDUCED:
notes/assumptions/65.md. -/
def lcReads (op : Nat) (s : State) : Bool :=
  match op with
  | 1 => s.fuses.prov.on
  | 2 => s.fuses.deploy.on
  | 3 => decide (unlocks s > relocks s)
  | 4 => decide (0 < relocks s ∧ unlocks s = relocks s)
  | 5 => s.fuses.decom.on
  | _ => false

/-- Burn both bits of the last burned fuse of a thermometer. -/
def mendLast (v : Vector Fuse 16) : Vector Fuse 16 :=
  let n := (v.toList.takeWhile Fuse.on).length
  Vector.ofFn (fun i => if i.val + 1 = n then burned else v[i])

/-- Burn the unburned bit of the fuse of a transition. DEDUCED: notes/assumptions/65.md. -/
def mendLc (op : Nat) (f : Fuses) : Fuses :=
  match op with
  | 1 => { f with prov := burned }
  | 2 => { f with deploy := burned }
  | 3 => { f with unlock := mendLast f.unlock }
  | 4 => { f with relock := mendLast f.relock }
  | 5 => { f with decom := burned, hukBlock := burned }
  | _ => f

/-- Complete or abort a transition that a power failure cut (R526). -/
def lcRecover (s : State) : State :=
  match openLc s with
  | none => s
  | some r =>
    let op := leAt r 24 2
    if lcReads op s then
      let s := { s with fuses := mendLc op s.fuses }
      let s := if op = 3 ∨ op = 5 then zeroizeAll (secLog 0x0021 0 0 (toLe 2 op) s) else s
      secLog 0x0011 0 0 (bytesAt r 24 3) s
    else secLog 0x0012 0 0 (bytesAt r 24 3) s

/-- What the ROM does with the security log at each start (R526, R548). -/
def romLog (s : State) : State := lcRecover (voidTorn s)

/-- Burn the floor up to a value; FLOOR_ADVANCED precedes it (R547). -/
def burnFloor (n : Nat) (s : State) : State :=
  if n ≤ s.fuses.floor then s
  else
    let s := secLog 0x0020 1 0 (toLe 2 s.fuses.floor ++ toLe 2 n) s
    { s with fuses := { s.fuses with floor := n } }

/-- The action of PROVISION, DEPLOY, UNLOCK_DEBUG, RELOCK and DECOMMISSION: the status and the state before the reset. -/
def actProvision (b : Bytes) (s : State) : Nat × State :=
  (0, lcTransition 1 false (fun f => { f with ownerHash := bytesAt (secArgs b) 0 48, floor := max f.floor (leAt (secArgs b) 48 2), prov := burned }) s)
def actDeploy (s : State) : Nat × State := (0, lcTransition 2 false (fun f => { f with deploy := burned }) s)
def actUnlock (s : State) : Nat × State := (0, lcTransition 3 true (fun f => { f with unlock := burnNext f.unlock }) s)
def actRelock (s : State) : Nat × State := (0, lcTransition 4 false (fun f => { f with relock := burnNext f.relock }) s)
def actDecommission (s : State) : Nat × State := (0, lcTransition 5 true (fun f => { f with decom := burned, hukBlock := burned }) s)
/-- ZEROIZE (R532): ZEROIZED is written before the action. -/
def actZeroize (s : State) : Nat × State := (0, zeroizeAll (secLog 0x0021 1 0 (toLe 2 6) s))
/-- ADVANCE_FLOOR. -/
def actFloor (b : Bytes) (s : State) : Nat × State := (0, burnFloor (leAt (secArgs b) 0 2) s)

/-- SET_VAULT (R531): the transported items are decrypted, and the vault sector is written again under VAULT_KEY. -/
def actVault (b : Bytes) (s : State) : Nat × State :=
  let a := secArgs b
  let n := (a.length - 124) / 64
  let key := Config.kdf s.sec.keys.tkey (bytesAt a 0 96)
  match Config.gcmOpen key (leAt a 96 12) (a.drop 108) with
  | none => (4, s)
  | some plain =>
    let items := parseItems n plain
    if !itemsOk items then (4, s)
    else
      let (nonce, s) := drbgBytes 12 s
      let head := toLe 4 0x56544B4D ++ toLe 1 (ownerGen s) ++ toLe 1 n ++ toLe 2 0 ++ nonce
      let sealed := Config.gcmSeal s.sec.keys.vaultKey (leNat nonce) (bytesAt plain 0 (64 * n) ++ head ++ List.replicate 28 0)
      let sector := head ++ bytesAt sealed (64 * n) 16 ++ List.replicate 28 0 ++ bytesAt sealed 0 (64 * n)
      let s := flashWrite 0x0C4FF000 sector (flashErase 0x0C4FF000 0x0C500000 s)
      (0, secLog 0x0022 1 0 (toLe 1 n) { s with sec := { s.sec with vault := items, vaultValid := true } })

/-- LOG_CLEAR (R550): every sector is erased, and LOG_CLEARED is record 0 of a new chain. -/
def actLogClear (s : State) : Nat × State :=
  let n := s.sec.logSeq
  let s := flashErase 0x0C100000 0x0C4FF000 s
  (0, secLog 0x0060 1 0 (toLe 8 n) { s with sec := { s.sec with logSeq := 0, logH := List.replicate 48 0, logBoot := 0, logFull := false } })

/-- The action of an opcode that passed its checks. -/
def secAct (op : Nat) (b : Bytes) (s : State) : Nat × State :=
  match op with
  | 1 => actProvision b s
  | 2 => actDeploy s
  | 3 => actUnlock s
  | 4 => actRelock s
  | 5 => actDecommission s
  | 6 => actZeroize s
  | 7 => actVault b s
  | 8 => actFloor b s
  | _ => actLogClear s

/-- What an attempt leaves (R521, R553): its status, a fresh nonce, a cleared buffer. DEDUCED: notes/assumptions/64.md. -/
def secEnd (op status : Nat) (s : State) : State :=
  freshNonce { s with sec := { s.sec with cmdStatus := status, cmdOpcode := op, cmdBuf := [] } }

/-- A signature failure (R521): counted, recorded and logged; the third in a row, and each further one, locks for 10 s.
DEDUCED: notes/assumptions/64.md. -/
def sigFailed (op : Nat) (s : State) : State :=
  let s := cntDev 0x00140014 1 (mgtRecord { code := 0x0A01, cls := .corrected, source := 0xD, sub := 3 } s)
  let s := secLogMergedAs 0x0030 0 1 2 (toLe 2 op) s
  { s with sec := { s.sec with failRun := s.sec.failRun + 1, locked := s.sec.locked || decide (s.sec.failRun + 1 ≥ 3), lockedAt := upNs s } }

/-- One command attempt (R521 to R523), and whether a warm reset follows it. DEDUCED: notes/assumptions/64.md. -/
def secTry (s : State) : State × Bool :=
  let b := secBuf s
  let op := secOp b
  let (free, s) := if argRefused s b then takeFree s else (0, s)
  match secCheck s b free with
  | 0 =>
    let s := { s with sec := { s.sec with failRun := 0 } }
    let (status, t) := secAct op b s
    if status ≠ 0 then (secEnd op status (secLog 0x0031 1 status (toLe 2 op) t), false)
    else (secEnd op 0 t, decide (op ≤ 6))
  | 2 => (secEnd op 2 (sigFailed op s), false)
  | n => (secEnd op n (secLog 0x0031 1 n (toLe 2 op) s), false)

/-- A command attempt, with the warm reset that six of the commands end in. DEDUCED: notes/assumptions/64.md. -/
def secAttempt (s : State) : State :=
  let (t, warm) := secTry s
  if warm then warmPlain t else t

/-- Are the mailbox's services up: the self-tests of this start have passed and the device is not in ERROR (R527, R544)?
DEDUCED: notes/assumptions/64.md. -/
def secServed (s : State) : Bool := s.sec.selftestPassed && s.boot.state != .error

/-- A write of SEC_CMD_CTL starts the command in the buffer when it has the row's opcode (R553). -/
def secRow (op : Nat) (r : Requester) (v : Nat) (s : State) : State :=
  if r == .mgt && clocked s && v == 0x5EC00001 && secServed s && !s.sec.cmdBusy && secOp (secBuf s) == op then secAttempt s else s

def execProvision (r : Requester) (v : Nat) (s : State) : Out := .next (secRow 1 r v s)
def execDeploy (r : Requester) (v : Nat) (s : State) : Out := .next (secRow 2 r v s)
def execUnlockDebug (r : Requester) (v : Nat) (s : State) : Out := .next (secRow 3 r v s)
def execRelock (r : Requester) (v : Nat) (s : State) : Out := .next (secRow 4 r v s)
def execDecommission (r : Requester) (v : Nat) (s : State) : Out := .next (secRow 5 r v s)
def execZeroize (r : Requester) (v : Nat) (s : State) : Out := .next (secRow 6 r v s)
def execSetVault (r : Requester) (v : Nat) (s : State) : Out := .next (secRow 7 r v s)
def execAdvanceFloor (r : Requester) (v : Nat) (s : State) : Out := .next (secRow 8 r v s)
def execLogClear (r : Requester) (v : Nat) (s : State) : Out := .next (secRow 9 r v s)

/-- AUTH_LOCKOUT_END (R521): the 10 s have passed; a further failure locks at once. DEDUCED: notes/assumptions/64.md. -/
def execAuthLockoutEnd (s : State) : Out :=
  if upNs s < s.sec.lockedAt + 10000000000 then .next s else .next { s with sec := { s.sec with locked := false } }

-- SPDM (R533, R534)

/-- How an SPDM request is met: not at all, with ERROR Unspecified in ERROR, or served (R524, R544). PRESUMED: notes/assumptions/67.md. -/
def spdmGate (bd : SpdmBinding) (s : State) : Option Bool :=
  match bd with
  | .mctp => if s.boot.state == .error then some false else if s.boot.state == .ready || s.boot.state == .safe then some true else none
  | .doe k => if s.boot.state == .ready && cfgOpen s k then some true else none

/-- An SPDM ERROR response. PRESUMED: notes/assumptions/67.md. -/
def spdmError (bd : SpdmBinding) (code : Nat) (s : State) : State := emit (.spdm bd 0x7F (toLe 1 code)) s

/-- Serve an SPDM request. PRESUMED: notes/assumptions/67.md. -/
def spdmServe (bd : SpdmBinding) (f : State → State) (s : State) : Out :=
  match spdmGate bd s with
  | none => .next s
  | some false => .next (spdmError bd 5 s)
  | some true => .next (f s)

/-- The certificate chain of slot 0 (R533): the component chain and the alias certificate; empty on a mismatch. PRESUMED: notes/assumptions/67.md. -/
def slotChain (s : State) : Bytes :=
  if s.sec.certMismatch || (compChain s).isEmpty then []
  else compChain s ++ Config.aliasCert s.sec.keys.devId s.sec.keys.alias_ (bootMeasurements s)

/-- SPDM_GET_CERTIFICATE (R533): slot 0 alone exists. PRESUMED: notes/assumptions/67.md. -/
def execSpdmGetCertificate (bd : SpdmBinding) (slot off len : Nat) (s : State) : Out :=
  spdmServe bd (fun s => if slot ≠ 0 then spdmError bd 1 s else emit (.spdm bd 0x02 (((slotChain s).drop off).take len)) s) s

/-- SPDM_CHALLENGE (R533): the chain's hash, a fresh nonce, and the alias key's signature over both nonces. PRESUMED: notes/assumptions/67.md. -/
def execSpdmChallenge (bd : SpdmBinding) (slot : Nat) (nonce : Bytes) (s : State) : Out :=
  spdmServe bd (fun s =>
    if slot ≠ 0 then spdmError bd 1 s
    else
      let (own, s) := drbgBytes 32 s
      let body := sha384 (slotChain s) ++ own
      emit (.spdm bd 0x03 (body ++ bytesAt (Config.sign s.sec.keys.alias_ (nonce ++ body)) 0 96)) s) s

/-- Measurement 0x10 + p: every resident model's handle and digests (R230, R534). -/
def modelMeasurement (s : State) (p : PartId) : Bytes :=
  ((getPart s p).models.map (fun m => toLe 4 m.handle ++ bytesAt m.programDigest 0 32 ++ bytesAt m.weightsDigest 0 32)).flatten

/-- The content of one index, where the binding may see it (R534). -/
def measured (bd : SpdmBinding) (s : State) (i : Nat) : Option Bytes :=
  if 1 ≤ i ∧ i ≤ 6 then some (measurement s i)
  else if i = 7 then some (bytesAt s.sec.logH 0 48)
  else if i = 8 then some (bytesAt s.sec.tkeyPub 0 96)
  else
    match allParts.find? (fun p => 0x10 + p.val == i && (partCfg s p).defined) with
    | none => none
    | some p => match bd with
      | .mctp => some (modelMeasurement s p)
      | .doe k => if partOf s k = some p then some (modelMeasurement s p) else none

/-- Every index that the binding may see, in order. -/
def measuredAll (bd : SpdmBinding) (s : State) : List (Nat × Bytes) :=
  ([1, 2, 3, 4, 5, 6, 7, 8, 0x10, 0x11, 0x12, 0x13] : List Nat).filterMap (fun i => (measured bd s i).map (fun b => (i, b)))

/-- Measurement blocks: index, length, content. -/
def blockBytes (l : List (Nat × Bytes)) : Bytes := (l.map (fun e => toLe 1 e.1 ++ toLe 2 e.2.length ++ e.2)).flatten

/-- SPDM_GET_MEASUREMENTS (R534): `op` 0 asks for the number of indices, 0xFF for all, any other for that index. PRESUMED: notes/assumptions/67.md. -/
def execSpdmGetMeasurements (bd : SpdmBinding) (op : Nat) (nonce : Bytes) (s : State) : Out :=
  spdmServe bd (fun s =>
    let all := measuredAll bd s
    let blocks : Option (List (Nat × Bytes)) :=
      if op = 0 then some [] else if op = 0xFF then some all else (measured bd s op).map (fun b => [(op, b)])
    match blocks with
    | none => spdmError bd 1 s
    | some l =>
      let (own, s) := drbgBytes 32 s
      let body := toLe 1 (if op = 0 then all.length else l.length) ++ blockBytes l ++ own
      emit (.spdm bd 0x60 (body ++ bytesAt (Config.sign s.sec.keys.alias_ (nonce ++ body)) 0 96)) s) s

/-- SPDM_KEY_EXCHANGE (R533): one of 8 sessions; the ninth is answered Busy. PRESUMED: notes/assumptions/67.md. -/
def execSpdmKeyExchange (bd : SpdmBinding) (share : Bytes) (s : State) : Out :=
  spdmServe bd (fun s =>
    if s.sec.sessions.length ≥ 8 then spdmError bd 3 s
    else
      let (own, s) := drbgBytes 96 s
      let id := s.sec.nextSession
      let key := Config.kdf (leNat own + 1) share
      let s := { s with sec := { s.sec with
        sessions := s.sec.sessions ++ [{ id := id, binding := bd, key := key }]
        nextSession := id + 1 } }
      let body := toLe 2 id ++ own
      emit (.spdm bd 0x64 (body ++ bytesAt (Config.sign s.sec.keys.alias_ (share ++ body)) 0 96)) s) s

/-- The open session of a number on a binding. -/
def findSession (s : State) (bd : SpdmBinding) (n : Nat) : Option SpdmSession :=
  s.sec.sessions.find? (fun x => x.id == n && x.binding == bd)

def updSession (n : Nat) (f : SpdmSession → SpdmSession) (s : State) : State :=
  { s with sec := { s.sec with sessions := s.sec.sessions.map (fun x => if x.id = n then f x else x) } }

/-- Serve a request within a session; one that does not exist is answered with ERROR. PRESUMED: notes/assumptions/67.md. -/
def inSession (bd : SpdmBinding) (n : Nat) (f : SpdmSession → State → State) (s : State) : Out :=
  spdmServe bd (fun s => match findSession s bd n with
    | some x => f x s
    | none => spdmError bd 2 s) s

/-- SPDM_KEY_UPDATE (R533). -/
def execSpdmKeyUpdate (bd : SpdmBinding) (session : Nat) (s : State) : Out :=
  inSession bd session (fun x s => emit (.spdm bd 0x69 (toLe 2 session))
    (updSession x.id (fun x => { x with key := Config.kdf x.key [0], updates := x.updates + 1 }) s)) s

/-- SPDM_HEARTBEAT (R533). -/
def execSpdmHeartbeat (bd : SpdmBinding) (session : Nat) (s : State) : Out :=
  inSession bd session (fun x s => emit (.spdm bd 0x68 (toLe 2 session)) (updSession x.id (fun x => { x with alive := true }) s)) s

/-- SPDM_END_SESSION (R533): one of the 8 sessions is free again. -/
def execSpdmEndSession (bd : SpdmBinding) (session : Nat) (s : State) : Out :=
  inSession bd session (fun x s => emit (.spdm bd 0x6C (toLe 2 session))
    { s with sec := { s.sec with sessions := s.sec.sessions.filter (fun y => y.id != x.id) } }) s

-- IDE_KM (R535, R148)

/-- Serve an IDE_KM request: within a session on the DOE mailbox of the port it names. PRESUMED: notes/assumptions/68.md. -/
def ideServe (bd : SpdmBinding) (session : Nat) (k : PortId) (f : State → State) (s : State) : Out :=
  inSession bd session (fun _ s => if bd = .doe k then f s else spdmError bd 1 s) s

/-- An IDE_KM response: its object number, then what it carries. PRESUMED: notes/assumptions/68.md. -/
def ideAnswer (bd : SpdmBinding) (obj : Nat) (body : Bytes) (s : State) : State := emit (.spdm bd 0x7E (toLe 1 obj ++ body)) s

/-- IDE_KM_QUERY: one Link and four Selective streams, and which are Secure. PRESUMED: notes/assumptions/68.md. -/
def execIdeKmQuery (bd : SpdmBinding) (session : Nat) (port : PortId) (s : State) : Out :=
  ideServe bd session port (fun s => ideAnswer bd 1 (toLe 1 port.val ++ (List.finRange 5).map (fun i =>
    BitVec.ofNat 8 (b2n (getPort s port).ide[i].secure))) s) s

/-- IDE_KM_KEY_PROG: `set` is 4 * sub-stream + 2 * direction + key set. PRESUMED: notes/assumptions/68.md. -/
def execIdeKmKeyProg (bd : SpdmBinding) (session : Nat) (port : PortId) (stream : Fin 5) (set : Fin 12) (key : Nat) (s : State) : Out :=
  ideServe bd session port (fun s => ideAnswer bd 3 [] (updPort s port (fun q => { q with
    ide := q.ide.set stream { q.ide[stream] with keys := q.ide[stream].keys.set set.val (key + 1) } }))) s

/-- IDE_KM_K_SET_GO: the set becomes the active one. The stream is Secure once every sub-stream and direction has an active
set; its port's DMA may run again. PRESUMED: notes/assumptions/68.md. -/
def execIdeKmKSetGo (bd : SpdmBinding) (session : Nat) (port : PortId) (stream : Fin 5) (set : Fin 12) (s : State) : Out :=
  ideServe bd session port (fun s =>
    let x := (getPort s port).ide[stream]
    if x.keys.getD set.val 0 = 0 then spdmError bd 1 s
    else
      let active := x.active.set (set.val / 2) (set.val % 2)
      let secure := active.all (fun a => decide (a < 2))
      let s := updPort s port (fun q => { q with
        dmaStopped := q.dmaStopped && !secure
        ide := q.ide.set stream { x with active := active, secure := secure } })
      let s := if secure && !x.secure then
          release port (secLog 0x0050 2 0 [BitVec.ofNat 8 port.val, BitVec.ofNat 8 stream.val, 1] s)
        else s
      ideAnswer bd 6 [] s) s

/-- IDE_KM_K_SET_STOP: the set is active no longer, and the stream is Insecure. PRESUMED: notes/assumptions/68.md. -/
def execIdeKmKSetStop (bd : SpdmBinding) (session : Nat) (port : PortId) (stream : Fin 5) (set : Fin 12) (s : State) : Out :=
  ideServe bd session port (fun s =>
    let x := (getPort s port).ide[stream]
    if x.active.getD (set.val / 2) 2 ≠ set.val % 2 then ideAnswer bd 6 [] s
    else
      let s := ideInsecure port stream s
      ideAnswer bd 6 [] (updPort s port (fun q => { q with
        ide := q.ide.set stream { q.ide[stream] with active := x.active.set (set.val / 2) 2 } }))) s

-- JTAG (R541)

/-- Does an instruction act in the present life-cycle state? DEDUCED: notes/assumptions/69.md. -/
def jtagActs (s : State) (ir : Nat) : Bool :=
  let lc := lifeCycle s
  if ir = 0x01 ∨ ir = 0xFF then true
  else if ir ≤ 0x04 then lc == .blank || lc == .debugUnlocked
  else if ir = 0x20 then lc == .debugUnlocked
  else if ir = 0x30 then lc == .blank
  else false

/-- JTAG_INSTRUCTION (R541): an instruction that does not act here is BYPASS; IDCODE shows the identification; the first
DEBUG_ACCESS after each reset is logged. DEDUCED: notes/assumptions/69.md. -/
def execJtagInstruction (ir : Nat) (s : State) : Out :=
  if !clocked s then .next s
  else
    let ir := if jtagActs s ir then ir else 0xFF
    let s := if ir = 0x20 ∧ !s.sec.jtagOpen then secLog 0x0070 3 0 [] { s with sec := { s.sec with jtagOpen := true } } else s
    let s := if ir = 0x01 then emit (.jtagId 0x17016A3B) s else s
    .next { s with sec := { s.sec with jtagIr := ir } }

-- Conditional self-tests and ERROR (R543, R544)

/-- ENTROPY_TEST_FAIL (R543, R544): the conditional test that failed, 11 or 12; a failure of ID 13 refuses an image write
instead. DEDUCED: notes/assumptions/69.md. -/
def execEntropyTestFail (test : Nat) (s : State) : Out :=
  if !clocked s || s.boot.state == .error || s.boot.state == .warmReset || (test != 11 && test != 12) then .next s
  else .next (enterError test s)

/-- ERROR_WARM_RESET (R109, R544): 10 ms after entry; with the retry count at 3 the device holds ERROR. -/
def execErrorWarmReset (s : State) : Out :=
  if s.boot.state != .error || decide (s.boot.retry ≥ 3) || decide (upNs s < s.boot.stageNs + 10000000) then .next s else .next (warmReset 5 s)

end Sys2Proof.Machine
end

