-- ==== Sys2Proof/Machine/Bist.lean ====
section
/-!
DEFINITION. Machine/Bist.lean: built-in self-test runs, the orderly shutdown, and their log (spec/22).
-/
namespace Sys2Proof.Machine
open Sys2Proof

-- Records (R563)

/-- The 60 bytes of a log record before its CRC. -/
def bistRecord (s : State) (kind unit result trigger cause mask slots spare duration shutdowns : Nat) : Bytes :=
  toLe 2 kind ++ toLe 1 unit ++ toLe 1 result ++ toLe 4 s.bist.runSeq ++ toLe 8 (logTime s) ++ toLe 1 trigger ++
  toLe 1 (lcCode s) ++ toLe 1 cause ++ toLe 1 0 ++ toLe 4 mask ++ toLe 4 slots ++ toLe 1 spare ++ toLe 3 0 ++
  toLe 4 duration ++ toLe 4 shutdowns ++ List.replicate 20 0

/-- Write a UNIT record. DEDUCED: notes/assumptions/70.md. -/
def unitRecord (trigger unit result cause mask duration : Nat) (s : State) : State :=
  bistAppend (bistRecord s 2 unit result trigger cause mask 0 0 duration 0) s

-- Units (R554, R560, R565)

/-- The unit codes of a mask laid out as the standing mask, in the order in which a run tests them. DEDUCED: notes/assumptions/70.md. -/
def unitsOf (mask : Nat) : List Nat :=
  ([(10, 0x12), (8, 0x10), (9, 0x11), (11, 0x13), (0, 0), (1, 1), (2, 2), (3, 3), (4, 4), (5, 5), (6, 6), (7, 7), (12, 0x14)] :
    List (Nat × Nat)).filterMap (fun e => if bitOf mask e.1 then some e.2 else none)

/-- TEST_MASK (R90) as a standing mask, with the management unit, which is always tested. -/
def maskOfTests (t : Nat) : Nat :=
  (if bitOf t 0 then 0xFF else 0) + 2 ^ 8 * b2n (bitOf t 1) + 2 ^ 9 * b2n (bitOf t 2) + 2 ^ 10 * b2n (bitOf t 3) +
  2 ^ 11 * b2n (bitOf t 4) + 2 ^ 12

/-- BIST power of a cluster in W. -/
def clusterWatts : Nat := 96

/-- The next batch of a run (R560): clusters up to MAX_CLUSTERS and BIST_POWER_W, any other unit alone. -/
def nextBatch (x : BistRun) : List Nat :=
  match x.todo with
  | [] => []
  | u :: _ => if u < 8 then (x.todo.takeWhile (· < 8)).take (max 1 (min x.maxClusters (x.powerW / clusterWatts))) else [u]

-- The standing (R563, R564)

/-- The standing after a verdict: `ok` for PASS, and the failing mask for FAIL. -/
def standAfter (unit : Nat) (ok : Bool) (mask : Nat) (b : Bist) : Bist :=
  let set (bit : Nat) (v : Bool) (b : Bist) : Bist :=
    { b with standing := if v then maskSet b.standing bit else maskClr b.standing bit }
  if unit < 8 then set unit (!ok) b
  else if unit = 0x10 then
    let bad := if ok then 0 else popCount mask 17
    let b := set 8 (decide (bad ≥ 2)) b
    { b with spare := if bad = 1 then Nat.log2 mask else 0xFF }
  else if unit = 0x13 then
    let slots := if ok then 0 else mask % 2 ^ 32
    set 11 (decide (32 - popCount slots 32 < 8)) { b with slots := slots }
  else set (if unit = 0x14 then 12 else if unit = 0x11 then 9 else 10) (!ok) b

-- Isolation and re-initialisation (R561)

/-- Clusters of a batch are isolated; the other units are clamped from the network, which no state shows. DEDUCED: notes/assumptions/70.md. -/
def isolateUnits (us : List Nat) (s : State) : State :=
  eachOf (allClusters.filter (fun c => us.contains c.val)) (fun c s => setCluster c .isolated s) s

/-- A unit after its test: a cluster as R233 and R512 and OFF; memories zero with no poison; the management unit at its
cold-reset values. The SMBus address pins are sampled at cold reset only, and the management ring outlives everything else.
DEDUCED: notes/assumptions/70.md. -/
def reinitUnit (unit : Nat) (s : State) : State :=
  if unit < 8 then
    eachOf (allClusters.filter (fun c => c.val == unit)) (fun c s =>
      setCluster c .off (updCluster s c (fun q => { q with cores := .replicate 8 {} }))) s
  else if unit = 0x10 then
    eachOf allParts (fun p s => updPart s p (fun q => { q with spool := [], spoolPoison := [], gateBuf := none })) s
  else if unit = 0x11 then
    eachOf allParts (fun p s => updPart s p (fun q => { q with slots := [], reel := [], reelPoison := [] })) s
  else if unit = 0x12 then
    eachOf allParts (fun p s => updPart s p (fun q => { q with gateBuf := none, rteLayer := 0, rteEc := false, shadow := [] })) s
  -- the wake requests of policy firmware go with it, and WAKE_n follows them (R154)
  else if unit = 0x14 then eachOf allPorts driveWake { s with mgt := { smbAddr := s.mgt.smbAddr } }
  else s

-- The run (R556 to R563)

/-- The last record, and what follows a run: policy event 0x000C, and PARKED after a shutdown. -/
def endRun (x : BistRun) (s : State) : State :=
  let b := s.bist
  let s := bistAppend (bistRecord s 3 0 0 x.trigger 0 b.standing b.slots b.spare 0 b.shutdownSeq) s
  let s := mgtEvent 0x000C 0xFF s.bist.runSeq { s with bist := { s.bist with run := none } }
  if x.trigger = 3 then
    eachOf allClusters (fun c s => setCluster c .off s) { s with bist := { s.bist with parked := true } }
  else s

/-- Give every unit of a list NOT RUN with a cause. -/
def notRun (x : BistRun) (us : List Nat) (cause : Nat) (s : State) : State :=
  us.foldl (fun s u => unitRecord x.trigger u 2 cause 0 0 s) s

/-- Is VDD_CORE outside 3 % of its P2 target at the last readback? -/
def railOff (s : State) : Bool :=
  s.power.railMv != 0 && decide ((((s.power.railMv : Int) - vddTarget 2).natAbs : Int) * 100 > 3 * vddTarget 2)

/-- Why a unit may not start its test now; 0 when it may (R559). -/
def windowCause (s : State) : Nat :=
  if s.boot.pstate ≠ 2 then 1 else if railOff s then 2 else if duty s < 16 ∨ clamped s then 3 else 0

/-- Start the batches of a run until one runs or the run ends. `fuel` bounds the batches. DEDUCED: notes/assumptions/70.md. -/
def startBatches : Nat → BistRun → State → State
  | 0, x, s => endRun x s
  | fuel + 1, x, s =>
    let us := nextBatch x
    if us.isEmpty then endRun x s
    else
      let rest := { x with todo := x.todo.drop us.length }
      match windowCause s with
      | 0 => isolateUnits us { s with bist := { s.bist with run := some { rest with batch := us, startNs := s.boot.sinceNs } } }
      | 1 => startBatches fuel rest (notRun x us 1 s)
      | n => endRun x (notRun x x.todo n s)

/-- Begin a run: its number, RUN_BEGIN and the first batch. -/
def startRun (x : BistRun) (s : State) : State :=
  let s := { s with bist := { s.bist with runSeq := s.bist.runSeq + 1, run := some x, refused := false, reason := 0 } }
  startBatches (x.todo.length + 1) x (bistAppend (bistRecord s 1 0 0 x.trigger 0 0 0 0 0 s.bist.shutdownSeq) s)

def refuseBist (reason : Nat) (s : State) : State := { s with bist := { s.bist with refused := true, reason := reason } }

/-- Does a BST_CTL write carry the command (R565)? -/
def bstCtl (r : Requester) (v cmd : Nat) (s : State) : Bool := mgtOpen r s && v == 0xB1570000 + cmd

/-- Is a job open in any partition? -/
def anyJob (s : State) : Bool := allParts.any (fun p => (getPart s p).job.open_)

/-- Is the cluster gated: ISOLATED or OFF, and not powering up? -/
def gated (s : State) (c : ClusterId) : Bool :=
  let q := getCluster s c
  (q.state == .isolated || q.state == .off) && !q.waking

/-- BIST_RUN (R556, R557). DEDUCED: notes/assumptions/70.md. -/
def execBistRun (r : Requester) (v : Nat) (s : State) : Out :=
  if !bstCtl r v 1 s then .next s
  else
    let u := s.bist.units
    if s.boot.state != .ready || lifeCycle s != .provisioned || s.bist.parked then .next (refuseBist 1 s)
    else if s.bist.run.isSome then .next (refuseBist 4 s)
    else if allClusters.any (fun c => bitOf u c.val && !gated s c) then .next (refuseBist 2 s)
    else if bitsOf u 11 8 ≠ 0 ∧ (anyJob s ∨ deviceModels s ≠ 0) then .next (refuseBist 3 s)
    else .next (startRun { trigger := 2, todo := unitsOf u, maxClusters := s.cfg.bist.maxClusters, powerW := s.cfg.bist.powerW } s)

/-- CORE is set to P2 for a shutdown or BLANK run, whatever PIN_PSTATE says (R559). DEDUCED: notes/assumptions/70.md. -/
def setP2 (s : State) : State :=
  let s := switchCore 2 s
  { s with power := { s.power with target := 2, changing := false, held := none } }

/-- Every Bridle and Tether link goes to OFF (R558). -/
def linksOff (s : State) : State :=
  let s := eachOf allLinks (fun l s => setBrl l .off s) s
  eachOf allPlanes (fun pl s => if (getPlane s pl).state == .off then s else planeLeave pl .off s) s

/-- BIST_SHUTDOWN (R558). DEDUCED: notes/assumptions/70.md. -/
def execBistShutdown (r : Requester) (v : Nat) (s : State) : Out :=
  if !bstCtl r v 2 s then .next s
  else if s.boot.state != .ready || s.bist.parked then .next (refuseBist 1 s)
  else if s.bist.run.isSome then .next (refuseBist 4 s)
  else if anyJob s then .next (refuseBist 3 s)
  else
    let n := s.bist.shutdownSeq + 1
    let before := inService s
    let s := { s with bist := { s.bist with shutdownSeq := n } }
    let s := noticeChange before (eachOf allClusters (fun c s =>
      setCluster c .isolated (updCluster s c (fun q => { q with waking := false }))) s)
    let s := setP2 (linksOff s)
    let run := s.cfg.bist.shutdownEn && n % (max 1 s.cfg.bist.everyN) == 0
    .next (startRun { trigger := 3, todo := if run then unitsOf (maskOfTests s.cfg.bist.testMask) else [],
                      maxClusters := s.cfg.bist.maxClusters, powerW := s.cfg.bist.powerW } s)

/-- MFG_TEST_RUN (R541, R556): the unit mask of the JTAG data register, in BLANK with MFG_TEST selected. -/
def execMfgTestRun (units : Nat) (s : State) : Out :=
  if s.sec.jtagIr ≠ 0x30 ∨ lifeCycle s ≠ .blank ∨ s.bist.run.isSome ∨ !clocked s then .next s
  else .next (startRun { trigger := 1, todo := unitsOf units } (setP2 s))

/-- BIST_UNIT_DONE (R561, R563): `result` is 0 PASS or 1 FAIL, `detail` the failing mask. The batch ends with its last
test. DEDUCED: notes/assumptions/70.md. -/
def execBistUnitDone (unit result detail : Nat) (s : State) : Out :=
  match s.bist.run with
  | none => .next s
  | some x =>
    if !x.batch.contains unit || result > 1 then .next s
    else
      let mask := if result = 1 then detail % 2 ^ 32 else 0
      let s := unitRecord x.trigger unit result 0 mask ((s.boot.sinceNs - x.startNs) / 1000) (reinitUnit unit s)
      let left := { x with batch := x.batch.filter (· ≠ unit) }
      let s := { s with bist := { standAfter unit (result == 0) mask s.bist with run := some left } }
      if left.batch.isEmpty then .next (startBatches (left.todo.length + 1) left s) else .next s

/-- BIST_WINDOW_SAMPLE (R559): the cause that a 5 µs sample during a test finds, 0 for none. -/
def execBistWindowSample (cause : Nat) (s : State) : Out :=
  match s.bist.run with
  | none => .next s
  | some x =>
    if x.batch.isEmpty || cause = 0 || cause > 3 then .next s
    else
      let dur := (s.boot.sinceNs - x.startNs) / 1000
      let s := x.batch.foldl (fun s u => unitRecord x.trigger u 2 cause 0 dur (reinitUnit u s)) s
      let x := { x with batch := [] }
      let s := { s with bist := { s.bist with run := some x } }
      if cause = 1 then .next (startBatches (x.todo.length + 1) x s)
      else .next (endRun x (notRun x x.todo cause s))

end Sys2Proof.Machine
end

