-- ==== Sys2Proof/Machine/Boot.lean ====
section
/-!
DEFINITION. Machine/Boot.lean: resets and start-up from cold reset to READY, SAFE or ERROR (spec/03), bank choice and image
verification (spec/04), the firmware watchdog and its fallback policy (spec/23 R570, R571).
-/
namespace Sys2Proof.Machine
open Sys2Proof

-- Cold reset (R45, R50, R590, R597)

/-- Enter COLD_RESET: every domain is reset; fuses, flash and what the flash logs hold are kept (R46). DEDUCED: notes/assumptions/82.md. -/
def coldReset (board : Bool) (s : State) : State :=
  let again := s.boot.state == .coldReset
  { State.reset with
    boot := { coldPower := !board || (again && s.boot.coldPower), coldBoard := board || (again && s.boot.coldBoard) }
    pins := { pwrGood := s.pins.pwrGood, boardReset := s.pins.boardReset, testEn := s.pins.testEn,
              smbAddr0 := s.pins.smbAddr0, smbAddr1 := s.pins.smbAddr1, perstLow := s.pins.perstLow,
              flashMib := s.pins.flashMib, flashSfdp := s.pins.flashSfdp }
    fuses := s.fuses
    flash := s.flash
    sec := { logSeq := s.sec.logSeq, logH := s.sec.logH, logBoot := s.sec.logBoot, logFull := s.sec.logFull }
    bist := { standing := s.bist.standing, slots := s.bist.slots, spare := s.bist.spare, runSeq := s.bist.runSeq,
              shutdownSeq := s.bist.shutdownSeq, nextRec := s.bist.nextRec }
    free := s.free
    out := s.out
    pending := s.pending }

/-- PWR_GOOD_FALL (R45). -/
def execPwrGoodFall (s : State) : Out :=
  .next (coldReset false { s with pins := { s.pins with pwrGood := false } })

/-- BOARD_RESET_ASSERT (R45). -/
def execBoardResetAssert (s : State) : Out :=
  .next (coldReset true { s with pins := { s.pins with boardReset := false } })

/-- RAIL_BELOW_THRESHOLD (R597): outside COLD_RESET and TRIPPED; in TRIPPED only VDD_AON and VDDIO are monitored, which are
the rails 0 and 1 of the operand. -/
def execRailBelowThreshold (rail : Nat) (s : State) : Out :=
  if s.boot.state == .coldReset || (s.boot.state == .tripped && decide (rail > 1)) then .next s
  else .next (coldReset false s)

/-- TEST_EN_HIGH (R590): the device is held in COLD_RESET with that row's outputs. -/
def execTestEnHigh (s : State) : Out :=
  let s := { s with pins := { s.pins with testEn := true } }
  if s.boot.state == .coldReset then .next s else .next (coldReset false s)

/-- What ROM does after either reset: the flash pins are driven (R70), the fused floor is held for CFG_SEC_VERSION (R97), the
log's last slot and an open transition (R526, R548), and the START_ID of this start (R317), a value that the spec leaves open. -/
def enterRom (s : State) : State :=
  let s := romLog s
  let (v, s) := takeFree s
  { s with
    boot := { s.boot with state := .rom, mainLock := true, timeLock := true }
    pins := { s.pins with flashDriven := true }
    img := { s.img with floor := s.fuses.floor }
    net := { s.net with startId := v % 2 ^ 32 } }

/-- COLD_RESET_RELEASE (R50): PWR_GOOD and BOARD_RESET_n are high and the main PLL has locked. The cold cause bits are set
and the SMBus address is sampled (R590). READY_US counts from here. DESIGN CHOICE: notes/assumptions/99.md. -/
def execColdResetRelease (s : State) : Out :=
  if s.boot.state != .coldReset || s.pins.testEn then .next s
  else
    .next (enterRom { s with
      pins := { s.pins with pwrGood := true, boardReset := true }
      boot := { s.boot with cause := b2n s.boot.coldPower + 2 * b2n s.boot.coldBoard, sinceNs := 0 }
      mgt := { s.mgt with smbAddr := 0x52 + 2 * b2n s.pins.smbAddr1 + b2n s.pins.smbAddr0 } })

-- Warm and partition resets by request (R45, R49, R66, R67)

/-- Does a write of DEV_RESET_REQ act (R66, R67)? It exists in the management space only. -/
def resetReqOk (r : Requester) (v : Nat) (s : State) : Bool :=
  isMgt r s && bitsOf v 31 16 == 0xB007 && bitsOf v 15 8 == 0 && bitsOf v 3 1 == 0

/-- The PARTITION bits set PARTITION_REQUEST (R49). -/
def notePartitionReq (v : Nat) (s : State) : State :=
  if bitsOf v 7 4 = 0 then s else { s with boot := { s.boot with cause := maskSet s.boot.cause 2 } }

/-- DEV_RESET_REQ_WARM (R45, R49): a write with WARM set; PARTITION bits of the same write are absorbed. -/
def execDevResetReqWarm (r : Requester) (v : Nat) (s : State) : Out :=
  if !resetReqOk r v s || !bitOf v 0 || !clocked s then .next s
  else .next (warmReset 3 (notePartitionReq v s))

/-- DEV_RESET_REQ_PARTITION (R45, R66): a write with PARTITION bits and without WARM, in every state in which the management space
is served. In WARM_RESET it is absorbed and only its cause is noted (R49). -/
def execDevResetReqPartition (r : Requester) (v : Nat) (s : State) : Out :=
  if !resetReqOk r v s || bitOf v 0 || !clocked s then .next s
  else if s.boot.state == .warmReset then .next (notePartitionReq v s)
  else .next (eachOf (allParts.filter (fun p => bitOf v (4 + p.val))) (fun p s => resetPartition p .partition 0 s)
    (notePartitionReq v s))

/-- WARM_RESET_COMPLETE (R50). -/
def execWarmResetComplete (s : State) : Out :=
  if s.boot.state != .warmReset then .next s else .next (enterRom s)

/-- PARTITION_RESET_COMPLETE (R48). -/
def execPartitionResetComplete (p : PartId) (s : State) : Out :=
  .next (partitionReady p s)

-- SAFE, and the states after it

/-- Enter SAFE with a cause (R50, R56, R61, R131): FAULT_n low and GROUP_SYNC_n released, only the Boot ROM's services run and no
policy firmware, HP0 keeps the port defaults, every other port goes quiet. DEDUCED: notes/assumptions/66.md. -/
def enterSafe (cause : Nat) (s : State) : State :=
  { s with
    boot := { s.boot with state := .safe, safeCause := cause, heldCause := 0, readyUs := s.boot.sinceNs / 1000, timeUnsync := false }
    pins := { s.pins with faultLow := true, groupSyncLow := false }
    mgt := { s.mgt with fwState := 0, fallback := false, wdtLeft := 0 }
    ports := Vector.ofFn (fun k => if k.val = 0 then { s.ports[k] with rrs := false, quiet := false, mapped := false, retrain := false }
      else { s.ports[k] with quiet := true, gen := 0, width := 0, rrs := false, retrain := false })
    clusters := s.clusters.map (fun q => { q with state := .off, waking := false }) }

/-- The flash as the ROM finds it at discovery (R68, R97). OCTAL_DDR of CFG_FLASH reads 1 where the flash's SFDP table was read.
DESIGN CHOICE: notes/assumptions/89.md. -/
def probeFlash (s : State) : State :=
  { s with img := { s.img with flashDensityMib := s.pins.flashMib, sfdpOk := s.pins.flashSfdp, octalDdr := s.pins.flashSfdp } }

/-- The banks whose header passes, the one with the higher SEQ first (R73). -/
def bankOrder (s : State) : List Bool :=
  let good := [false, true].filter (fun b => headerResult s s.flash b == 0)
  if good.length = 2 ∧ bankSeq s.flash true > bankSeq s.flash false then [true, false] else good

/-- The status of a bank after its header check (R97): not chosen where the header passes. -/
def headerStatus (r : Nat) : BankStatus := { result := if r = 0 then 0x2 else r, record := 0xFF, fieldOffset := 0xFFFF }

/-- A bank that fails its header check is logged (R546), one that is erased is not. -/
def noteHeader (b : Bool) (r : Nat) (s : State) : State := if r > 3 then secLog 2 0 0 (toLe 1 (b2n b) ++ toLe 1 r) s else s

/-- Self-test follows with a SAFE cause held (R92). -/
def toSelftest (cause : Nat) (s : State) : State := { s with boot := { s.boot with state := .selftest, heldCause := cause } }

/-- ROM_BANK_CHOICE (R73, R92). A retry count of 3 holds 0x05 whatever the life-cycle state. DESIGN CHOICE: notes/assumptions/99.md. -/
def execRomBankChoice (s : State) : Out :=
  if s.boot.state != .rom then .next s
  else
    let s := probeFlash s
    if s.boot.retry = 3 then .next (toSelftest 5 s)
    else if lifeCycle s == .blank || lifeCycle s == .decommissioned then .next (toSelftest 1 s)
    else
      let ra := headerResult s s.flash false
      let rb := headerResult s s.flash true
      let l := bankOrder s
      let s := noteHeader true rb (noteHeader false ra { s with img := { s.img with
        bankA := headerStatus ra, bankB := headerStatus rb, candidates := l } })
      if l.isEmpty then .next (toSelftest 1 s) else .next { s with boot := { s.boot with state := .verify } }

/-- The configuration that is applied at VERIFY and the identity of the bank in use (R75, R97). -/
def applyVerified (c : ImageCfg) (s : State) : State :=
  { s with cfg := { s.cfg with seq := c.seq, signedLen := c.signedLen, secVersion := c.secVersion, buildId := c.buildId,
                               digest := c.digest, sec := c.sec } }

/-- Set the status of a bank (R97). -/
def setBankStatus (b : Bool) (x : BankStatus) (s : State) : State :=
  if b then { s with img := { s.img with bankB := x } } else { s with img := { s.img with bankA := x } }

/-- IMAGE_VERIFY_DONE (R72, R91, R92): the first candidate has been verified. -/
def execImageVerifyDone (errs : List Nat) (s : State) : Out :=
  if s.boot.state != .verify then .next s
  else match s.img.candidates with
  | [] => .next s
  | b :: rest =>
    match verifyImage s s.flash b with
    | .ok c =>
      let s := setBankStatus b { result := 1, record := 0xFF, fieldOffset := 0xFFFF } s
      let s := applyVerified c { s with
        img := { s.img with candidates := [], chosen := some b, image := some c }
        boot := { s.boot with state := .selftest, bankB := b } }
      -- the certificate chain loads here (R89); a digest that fails twice ends in a warm reset (R93)
      match c.comps.find? (fun x => x.kind == 4) with
      | some x => if compLoadOk s.flash b errs x then .next s else .next (warmReset 3 s)
      | none => .next s
    | .error x =>
      let s := secLog 2 0 0 (toLe 1 (b2n b) ++ toLe 1 x.result) (setBankStatus b x { s with img := { s.img with candidates := rest } })
      if rest.isEmpty then .next { s with boot := { s.boot with state := .selftest, heldCause := 1 } } else .next s

/-- SELFTEST_DONE (R50, R542, R544): `failed` is the first failing test's ID, 0 when all pass. DEDUCED: notes/assumptions/81.md. -/
def execSelftestDone (failed : Nat) (s : State) : Out :=
  if s.boot.state != .selftest then .next s
  else if failed ≠ 0 then .next (enterError failed s)
  else
    let s := { s with sec := { s.sec with selftestPassed := true, selftestLast := 0 } }
    let s := secLog 1 0 0 (toLe 1 (b2n s.boot.bankB) ++ toLe 8 s.cfg.seq ++ toLe 2 s.cfg.secVersion ++ toLe 1 (lcCode s) ++
      toLe 1 (ownerGen s)) (deriveKeys s)
    if s.boot.heldCause ≠ 0 then .next (enterSafe s.boot.heldCause s)
    else .next { s with boot := { s.boot with state := .fwLoad } }

/-- The address and size that MGT_BOOT_INFO gives of a component; the address is a value that the spec leaves open (R566). -/
def bootInfo (c : ImageCfg) (kind : Nat) (s : State) : List Nat × State :=
  match c.comps.find? (fun x => x.kind == kind) with
  | some x =>
    let (a, s) := takeFree s
    ([a % 2 ^ 32, x.size], s)
  | none => ([0, 0], s)

/-- A port takes its PORT_MAP entry at FW_LOAD (R131). -/
def mapPort (c : ImageCfg) (k : PortId) (s : State) : State :=
  let e := c.ports[k]
  match e.partition with
  | none => updPort s k (fun q => { q with quiet := true, gen := 0, width := 0, mapped := true, rrs := false })
  | some p =>
    let q := getPort s k
    let again := decide (q.gen ≠ 0) && (decide (q.gen > e.maxGen) || decide (q.width > e.maxWidth) || (e.laneReverse && !q.reversed))
    updPort s k (fun q => { q with mapped := true, bar4 := c.parts[p].bar4En, retrain := again, rrs := again || (q.resetting != .none) })

/-- GARKU_LOAD_DONE (R50, R93): the digest decides between BIST_READ and SAFE; policy firmware starts (R566, R570).
DEDUCED: notes/assumptions/66.md. -/
def execGarkuLoadDone (errs : List Nat) (s : State) : Out :=
  if s.boot.state != .fwLoad then .next s
  else match s.img.image, s.img.chosen with
  | some c, some b =>
    if !compLoadOk s.flash b errs c.garku then .next (enterSafe 2 s)
    else
      let (i1, s) := bootInfo c 3 s
      let (i2, s) := bootInfo c 5 s
      let s := { s with
        boot := { s.boot with state := .bistRead }
        cfg := { s.cfg with
          clock := { s.cfg.clock with boardPowerW := c.clock.boardPowerW, cooling := c.clock.cooling,
                                      throttleTjC := c.clock.throttleTjC, avsAddr := c.clock.avsAddr }
          ports := c.ports
          garku := c.garku
          comps := c.comps
          tmo := c.tmo }
        power := { s.power with limitW := c.clock.boardPowerW, alertC := c.clock.throttleTjC }
        mgt := { s.mgt with fwState := 1, wdtLeft := c.tmo.watchdogMs * 1000000, bootInfo := i1 ++ i2 } }
      let dataOk := (c.comps.filter (fun x => x.kind == 3 || x.kind == 5)).all (compLoadOk s.flash b errs)
      if dataOk then .next (eachOf allPorts (mapPort c) s) else .next (warmReset 3 s)
  | _, _ => .next s

/-- PORT_RETRAIN_DONE (R131): the port is in L0 again, within the rate and width of its PORT_MAP entry, and its function completes configuration requests. -/
def execPortRetrainDone (k : PortId) (gen width : Nat) (s : State) : Out :=
  if !(getPort s k).retrain then .next s
  else .next (portEvent k (updPort s k (fun q => { q with
    gen := min gen (portCap s k).1, width := min width (portCap s k).2, reversed := q.reversed || (portCfg s k).laneReverse, retrain := false, rrs := q.resetting != .none })))

/-- A partition's entry after BIST has removed clusters (R94). -/
def withoutClusters (bad : Nat) (c : PartCfg) : PartCfg :=
  { c with clusterMask := c.clusterMask - (c.clusterMask &&& bad), urgentMask := c.urgentMask - (c.urgentMask &&& bad) }

/-- The HOME_CLUSTER of a partition after R94. -/
def homeWithout (bad : Nat) (h : HomeCfg) : HomeCfg :=
  match h.homeCluster with
  | some c => if bitOf bad c.val then { h with homeCluster := none } else h
  | none => h

/-- BIST_READ_DONE (R94, R564): the standing is applied; PARTITIONS, PLACEMENT, BIST_POLICY and DETERMINISM take effect, and
the records of CLOCK_ALIGN with the transition. -/
def execBistReadDone (errs : List Nat) (s : State) : Out :=
  if s.boot.state != .bistRead then .next s
  else
    let s := { s with bist := { s.bist with applied := s.bist.standing, slotsApplied := s.bist.slots } }
    if bistCritical s then .next (enterSafe 3 s)
    else match s.img.image, s.img.chosen with
    | some c, some b =>
      let bad := s.bist.standing % 256
      let s := { s with
        cfg := { s.cfg with
          parts := c.parts.map (withoutClusters bad)
          home := c.home.map (homeWithout bad)
          bist := c.bist
          det := c.det
          clock := { c.clock with boardPowerW := s.cfg.clock.boardPowerW, cooling := s.cfg.clock.cooling,
                                  throttleTjC := s.cfg.clock.throttleTjC, avsAddr := s.cfg.clock.avsAddr }
          group := c.group }
        clusters := Vector.ofFn (fun k => { s.clusters[k] with disabled := bitOf bad k.val })
        boot := { s.boot with state := .clockAlign, clustersDisabled := decide (bad ≠ 0), coreFabLock := true } }
      let s := { s with parts := Vector.ofFn (fun p => { s.parts[p] with
        regul := Vector.ofFn (fun i => { credit := (budget s p i * 4096 : Nat) }) }) }
      let s := setPstateNow c.clock.bootPstate s
      -- the HBM PHY firmware is loaded, reloaded once, and a second mismatch ends in a warm reset (R93)
      match c.comps.find? (fun x => x.kind == 2) with
      | some x => if compLoadOk s.flash b errs x then .next s else .next (warmReset 3 s)
      | none => .next s
    | _, _ => .next s

/-- HBM_TRAIN_DONE (R50, R51). -/
def execHbmTrainDone (ok : Bool) (s : State) : Out :=
  if s.boot.state != .clockAlign || s.boot.hbmTrained then .next s
  else if ok then .next { s with boot := { s.boot with hbmTrained := true } }
  else .next (enterSafe 4 s)

/-- Enter LINK_TRAIN with the beat started and DT at 0 (R50, R62, R63): LINK_MAP and TOPOLOGY apply, links train, and the
SerDes firmware loads (R89, R93). -/
def enterLinkTrain (errs : List Nat) (aligned : Bool) (cause wait : Nat) (s : State) : State :=
  match s.img.image, s.img.chosen with
  | some c, some b =>
    let s := { s with
      boot := { s.boot with state := .linkTrain, beat := true, aligned := aligned, alignCause := cause, waitUs := wait,
                              stageNs := s.boot.sinceNs }
      time := { s.time with dt := 0 }
      cfg := { s.cfg with link := c.link, topo := c.topo } }
    match c.comps.find? (fun x => x.kind == 1) with
    | some x => if compLoadOk s.flash b errs x then startLinks s else warmReset 3 s
    | none => startLinks s
  | _, _ => s

/-- HBM_CLEAR_DONE (R61, R63): GROUP_SYNC_n is released; a device that found the line high starts unaligned at once. -/
def execHbmClearDone (errs : List Nat) (s : State) : Out :=
  if s.boot.state != .clockAlign || !s.boot.hbmTrained || !s.pins.groupSyncLow then .next s
  else
    let s := { s with
      hbm := []
      hbmPoison := []
      hbmErr := []
      pins := { s.pins with groupSyncLow := false }
      boot := { s.boot with releaseNs := s.boot.sinceNs } }
    if s.boot.alignCause = 2 then .next (enterLinkTrain errs false 2 0 s) else .next s

/-- Nanoseconds from the rising edge, the first high sample, to the sample that completes the run (R62). -/
def edgeRun : Nat := 999

/-- GROUP_SYNC_RISE (R62, R63): the sample that completes a run of 1,000 high samples after the own release, no later than the
expiry of the alignment timeout. WAIT_US counts to the edge. -/
def execGroupSyncRise (errs : List Nat) (s : State) : Out :=
  let since := s.boot.sinceNs - s.boot.releaseNs
  if s.boot.state != .clockAlign || s.pins.groupSyncLow || decide (since < edgeRun) || decide (since > s.cfg.tmo.alignMs * 1000000) then .next s
  else .next (enterLinkTrain errs true 0 ((since - edgeRun) / 1000) s)

/-- GROUP_SYNC_LINE_HIGH (R63): recorded at the first high sample before the own release, once the line has been driven for 10 us.
A start from cold reset has driven it since that reset began. -/
def execGroupSyncLineHigh (s : State) : Out :=
  if !s.pins.groupSyncLow || s.boot.state == .coldReset || s.boot.state == .tripped || s.boot.alignCause ≠ 3 ||
      (s.boot.warm && decide (s.boot.sinceNs < 10000)) then .next s
  else .next { s with boot := { s.boot with alignCause := 2 } }

/-- ALIGN_TIMEOUT (R52, R63, R109). -/
def execAlignTimeout (errs : List Nat) (s : State) : Out :=
  let since := s.boot.sinceNs - s.boot.releaseNs
  if s.boot.state != .clockAlign || s.pins.groupSyncLow || decide (since < s.cfg.tmo.alignMs * 1000000) then .next s
  else .next (enterLinkTrain errs false 1 (since / 1000) s)

/-- Enter TIME_SYNC (R40, R50, R99): in-group sync holds from entry in a group of one. Which other members keep time, their time
messages tell. DEDUCED: notes/assumptions/11.md. -/
def enterTimeSync (s : State) : State :=
  let one := decide (s.cfg.group.size ≤ 1)
  judgeReach (judgeMaster { s with
    boot := { s.boot with state := .timeSync, linksIncomplete := linksDown s, timeUnsync := !one, stageNs := s.boot.sinceNs }
    time := { s.time with groupSync := one, unheard := (List.range s.cfg.group.size).filter (· ≠ s.cfg.group.member), via := none, sysSync := one && oneGroup s } })

/-- LINK_TRAIN_END (R50): every connected link is up. -/
def execLinkTrainEnd (s : State) : Out :=
  if s.boot.state != .linkTrain || linksDown s then .next s else .next (enterTimeSync s)

/-- LINK_TRAIN_TIMEOUT (R50, R52, R109). -/
def execLinkTrainTimeout (s : State) : Out :=
  if s.boot.state != .linkTrain || decide (s.boot.sinceNs < s.boot.stageNs + s.cfg.tmo.linkTrainMs * 1000000) then .next s
  else .next (enterTimeSync s)

/-- Raise the security-version floor at READY (R528). -/
def advanceFloor (s : State) : State :=
  let n := min s.cfg.secVersion 255
  if s.cfg.sec.floorAdvance && decide (n > s.fuses.floor) then
    { secLog 0x0020 0 0 (toLe 2 s.fuses.floor ++ toLe 2 n) s with fuses := { s.fuses with floor := n } }
  else s

/-- The clusters at READY: ON where a DEFINED partition owns them, OFF otherwise (R508). -/
def readyClusters (s : State) : State :=
  let before := inService s
  let owned (c : ClusterId) : Bool := (definedParts s).any (fun p => bitOf (partCfg s p).clusterMask c.val)
  noticeChange before (eachOf allClusters (fun c s => setCluster c (if owned c && !(getCluster s c).disabled then .on else .off) s) s)

/-- Enter READY (R50, R55, R439, R480, R508, R528). -/
def enterReady (s : State) : State :=
  let s := advanceFloor { s with boot := { s.boot with state := .ready, retry := 0, readyUs := s.boot.sinceNs / 1000 } }
  let s := readyClusters s
  let s := if s.cfg.group.pairMode = 1 then dualWaiting s else s
  let s := if s.cfg.group.pairMode = 2 then setSb .waiting s else s
  if s.commit.rejoin then setCommit .fenced s else s

/-- TIME_SYNC_ACHIEVED (R50, R99). -/
def execTimeSyncAchieved (s : State) : Out :=
  if s.boot.state != .timeSync || !s.time.groupSync then .next s else .next (enterReady s)

/-- TIME_SYNC_TIMEOUT (R50, R52, R64, R109): READY with the device's own DT. -/
def execTimeSyncTimeout (s : State) : Out :=
  if s.boot.state != .timeSync || decide (s.boot.sinceNs < s.boot.stageNs + s.cfg.tmo.timeSyncMs * 1000000) then .next s
  else .next (enterReady { s with boot := { s.boot with timeUnsync := !s.time.groupSync } })

-- Thermal trip (R50, R504)

/-- THERMAL_TRIP (R61, R504, R576): the trip latch holds the sensor and its value; every clock but AON stops. -/
def execThermalTrip (sensor value : Nat) (s : State) : Out :=
  if s.boot.state == .coldReset || s.boot.state == .tripped then .next s
  else .next { s with
    boot := { s.boot with state := .tripped, trip := { held := true, sensor := sensor, value := BitVec.ofNat 16 value } }
    pins := { s.pins with thermtripLow := true, groupSyncLow := false }
    ports := s.ports.map (fun q => { q with gen := 0, width := 0, rrs := true }) }

-- Watchdog (R570, R571)

/-- FW_WATCHDOG (R570, R109): the first expiry restarts policy firmware, a second one before a refresh is DEVICE class. -/
def execFwWatchdog (s : State) : Out :=
  if s.mgt.fwState = 0 ∨ s.mgt.wdtLeft ≠ 0 then .next s
  else if s.mgt.fwState = 2 then .next (deviceFault { code := 0x0603, source := 0xB } 4 s)
  else
    let s := cntDev 0x0105000C 1 (mgtRecord { code := 0x0603, cls := .corrected, source := 0xB } s)
    .next { s with
      mgt := { s.mgt with fwState := 2, fallback := true, wdtLeft := s.cfg.tmo.watchdogMs * 1000000, alertAt := upNs s }
      power := { s.power with limitW := min s.power.limitW s.cfg.clock.boardPowerW } }

/-- The next lower P-state that PSTATE_MASK allows; P5 is the lowest. -/
def lowerPstate (s : State) (p : Nat) : Nat := ((List.range 6).find? (fun x => decide (x > p) && bitOf s.cfg.clock.pstateMask x)).getD p

/-- FALLBACK_ALERT_STEP (R571): one P-state lower for each complete 10 ms of alert; a pinned P-state does not move. -/
def execFallbackAlertStep (s : State) : Out :=
  if s.mgt.fwState ≠ 2 || !s.power.alert || s.cfg.clock.pinPstate.isSome || decide (upNs s < s.mgt.alertAt + 10000000) then .next s
  else .next (requestPstate (lowerPstate s s.boot.pstate) { s with mgt := { s.mgt with alertAt := s.mgt.alertAt + 10000000 } })

/-- MGT_WDT_REFRESH (R570, R571): only 0xD06E_0001 in the management space refreshes the watchdog; the first refresh ends the
fallback policy. -/
def execMgtWdtRefresh (r : Requester) (v : Nat) (s : State) : Out :=
  if !isMgt r s || v != 0xD06E0001 || s.mgt.fwState = 0 then .next s
  else .next (releaseHeld { s with
    mgt := { s.mgt with fwState := 1, fallback := false, wdtLeft := s.cfg.tmo.watchdogMs * 1000000 } })

end Sys2Proof.Machine
end

