-- ==== Sys2Proof/Machine/Complete.lean ====
section
/-!
DEFINITION. Machine/Complete.lean: the completion of a command (spec/07 R160, R165, R175 to R179), jobs that open and end (R185,
R186, spec/16 R409, R425, spec/17 R433), and sync counters that hosts and commands write (R176, R177, R202).
-/
namespace Sys2Proof.Machine
open Sys2Proof

-- Jobs

/-- KiB pinned by a model of a partition (R318); 0 for none. -/
def pinnedKib (s : State) (p : PartId) (h : Nat) : Nat :=
  match modelOf (getPart s p) h with | some m => m.spoolKib + m.reelKib | none => 0

/-- The HBM traffic of a switch is charged (R425): the lines that it writes back or reads in are a free value up to the pinned
footprints of both models. DESIGN CHOICE: notes/assumptions/58.md. -/
def chargeSwitch (p : PartId) (old new : Nat) (s : State) : State :=
  let (v, s) := takeFree s
  charge p 0 (v % (1024 * (pinnedKib s p old + pinnedKib s p new) + 1)) s

/-- The switch to another resident model (R200, R425). -/
def switchModel (p : PartId) (m : Nat) (start : Nat) (s : State) : State :=
  if m = 0 ∨ m = (getPart s p).curModel then s
  else
    let s := chargeSwitch p (getPart s p).curModel m s
    let s := cntPart 0x00020054 1 p (setRegPart 0x00020058 ((dtNow s - start) % 2 ^ 32) p s)
    updPart s p (fun q => { q with curModel := m, gateBuf := none })

/-- A Still-Air job opens with DL_SEQ at 0: what is held of the compare that ended before is dropped, which is every message of another
DL_SEQ and a COMPARE of the job before (R445). DEDUCED: notes/assumptions/102.md. -/
def freshDual (p : PartId) (old new : Nat) (s : State) : State :=
  updPart s p (fun q => if q.dl.seq ≠ 0 then q else
    { q with dl := { q.dl with rx := q.dl.rx.filter (fun r => r.seq == 0 && (r.abandon || r.jobId != old || old == new)) } })

/-- An XFR JOB_BEGIN completes: the job opens with its settings (R185, R200, R409, R433). DEDUCED: notes/assumptions/58.md. -/
def openJob (p : PartId) (d : Bytes) (start : Nat) (s : State) : State :=
  let mode := d8 d 27
  let urgent := decide (mode % 4 = 0)
  let model := d32 d 28
  let s := switchModel p model start s
  let old := (getPart s p).job
  let replayed := decide (((getPart s p).sb.replayLeft.getD 6 0) > 0)
  let clusters := jobClusters s p urgent
  let cmdset := match modelOf (getPart s p) model with | some m => m.cmdset | none => 0
  let block := settingsBlock s cmdset (popCount clusters 8 * coresPer s)
  let job : Job := {
    open_ := true, id := d16 d 24, serial := old.serial + 1, lastProj := old.lastProj, mask := d8 d 26 % 128, priority := mode % 4,
    stillAir := beginStill s p d, digest := beginDigest s p d, updraft := bitOf mode 6 && !replayed, model := model,
    deadline := d64 d 32, short := decide (d64 d 32 < start + 10000), clusters := clusters, fingerprint := fingerprint block, settings := block,
    replayed := replayed }
  let s := eachOf (allClusters.filter (fun c => bitOf clusters c.val)) (fun c s => updCluster s c (fun q => { q with leaving := false })) s
  let s := if job.stillAir then freshDual p old.id job.id s else s
  let s := updPart s p (fun q => { q with
    job := job
    gateBuf := none
    streams := Vector.ofFn (fun i => if bitOf job.mask i.val then { q.streams[i] with ended := false } else q.streams[i]) })
  mgtEvent 0x000F p.val (2 ^ 31 + job.id) (updStream s p 6 (fun x => { x with inJob := true }))

/-- The tiles, accumulators and scratch of a job's clusters are cleared (R539). -/
def clearCores (m : Nat) (s : State) : State :=
  eachOf (allClusters.filter (fun c => bitOf m c.val)) (fun c s => updCluster s c (fun q => { q with cores := .replicate 8 {} })) s

/-- A stream completes its JOB_END; the last one of the mask ends the job (R186, R299, R486, R539). -/
def endShare (p : PartId) (st : StreamId) (s : State) : State :=
  let s := updStream s p st (fun x => { x with inJob := false, ended := true })
  let j := (getPart s p).job
  if !j.open_ || !allStreams.all (fun i => !bitOf j.mask i.val || (getStream s p i).ended) then s
  else
    let s := if j.suppressed = 0 then s
      else record p { code := 0x0504, cls := .corrected, source := 0xF, count := j.suppressed } s
    let s := clearCores j.clusters (closeJob p s)
    if s.pair.state == .active then jobEndSnapshot p s else s

/-- A CONJ.STEP completes: its checkpoints await the next completion record (R420). -/
def endStep (p : PartId) (s : State) : State :=
  match (getPart s p).conj with
  | none => s
  | some _ => updPart s p (fun q => { q with conj := none, job := { q.job with checks := q.job.checks ++ stepChecks s p } })

-- Completion (R160, R165, R175)

/-- The entry of a completed command leaves its stream: from the queue, or by the program counter. -/
def freeEntry (p : PartId) (st : StreamId) (s : State) : State :=
  let x := getStream s p st
  if x.resident ≠ 0 then updStream s p st (fun x => { x with pc := x.pc + 64 })
  else
    let s := updStream s p st (fun x => { x with queue := x.queue.drop 1, retired := if x.queue.isEmpty then x.retired else wrapAdd 32 x.retired 1 })
    updPart s p (fun q => { q with sb := { q.sb with replayLeft := listUpd q.sb.replayLeft st.val (fun n => n - 1) } })

/-- The end of a command: trace, signal, interrupt, entry (R147, R160, R175, R613). -/
def signOff (p : PartId) (st : StreamId) (e : Exec) (s : State) : State :=
  let s := traceCmd p st e.desc .end_ (dtNow s - e.start) s
  let s := applySignal p st e.desc (updStream s p st (fun x => { x with exec := none }))
  let s := if dIrq e.desc && !(dOp e.desc == 0x7002 && e.at_ == 6) then msixPart p (1 + st.val) s else s
  cntPart64 0x00070028 1 p (freeEntry p st s)

/-- PRG.END: the stream leaves its program, and the PRG.RUN at the head of its queue completes (R165). -/
def endProgram (p : PartId) (st : StreamId) (e : Exec) (s : State) : State :=
  let s := signOff p st e s
  let s := updStream s p st (fun x => { x with resident := 0, pc := 0 })
  match (getStream s p st).queue.head? with
  | some d => signOff p st { desc := d, start := e.start } s
  | none => s

/-- What the completion of a command does beyond its signal. -/
def endEffect (p : PartId) (st : StreamId) (e : Exec) (s : State) : State :=
  match dOp e.desc with
  | 0x9001 => if st = 6 then openJob p e.desc e.start s else updStream s p st (fun x => { x with inJob := true })
  | 0x9002 => endShare p st s
  | 0x8001 => endStep p s
  | 0x4010 => endAlone p s
  | _ => s

/-- Where the stream goes on: after a true CMP.SKIP, a taken CMP.BRANCH (R179). -/
def goOn (p : PartId) (st : StreamId) (e : Exec) (s : State) : State :=
  if e.at_ = 0 ∨ (getPart s p).halted then s
  else match dOp e.desc with
  | 0x9020 =>
    let x := getStream s p st
    if x.resident = 0 then updStream s p st (fun x => skipQueue e.at_ x)
    else match modelOf (getPart s p) x.resident with
    | some m => updStream s p st (fun x => { x with pc := skipProgram s p m e.at_ x.pc })
    | none => s
  | 0x9021 => updStream s p st (fun x => { x with pc := e.base })
  | _ => s

/-- Complete the executed command of a stream: the mirror writes of the records that it caused are issued first (R449). -/
def complete (p : PartId) (st : StreamId) (s : State) : State :=
  match (getStream s p st).exec with
  | none => s
  | some e =>
    let ready := e.phase == .done || (e.phase == .running && dOp e.desc == 0x9030 && sycWaitHolds s p e.desc)
    if !ready || mirrorOwed s p (fun b => leAt b 4 4 == dTag e.desc) then s
    else if movesHbm s p e.desc && !hbmPaid s p then hbmHold p st.val s
    else
      let s := endEffect p st e (settleMerge p st (dTag e.desc) (hbmGo p st.val s))
      let s := if dOp e.desc = 0x9051 then endProgram p st e s else goOn p st e (signOff p st e s)
      fetchNow p st (conjAdvance p s)

/-- COMMAND_COMPLETE: what an executing XFR command still has to do is done first. -/
def execCommandComplete (p : PartId) (st : StreamId) (s : State) : Out :=
  .next (complete p st (if st = 6 then xfrAdvance p s else s))

-- Sync counters (R176, R177, R202)

/-- SYC.SET: the counter is written at execution. -/
def execSycSet (p : PartId) (st : StreamId) (s : State) : Out :=
  runCmd p st 0x9031 (fun d s => conjAdvance p (cmdDone p st (sycSetAt p (d16 d 24 % 2 ^ 14) (d32 d 28) s))) s

/-- SYC_HOST_ADD (R177, R192). -/
def execSycHostAdd (r : Requester) (i v : Nat) (s : State) : Out :=
  match hostPart r (0x00040004 + 8 * i) s with
  | (none, s) => .next s
  | (some p, s) =>
    if i ≥ (partCfg s p).sycCount || (getPart s p).halted then .next s
    else .next (conjAdvance p (sycAdd p i (v % 2 ^ 32) 7 0 s))

/-- SYC_WAIT_TIMEOUT (R174, R185, R202, R213). DEDUCED: notes/assumptions/58.md. -/
def execSycWaitTimeout (p : PartId) (st : StreamId) (s : State) : Out :=
  match (getStream s p st).exec with
  | none => .next s
  | some e =>
    if dOp e.desc = 0x8001 ∧ e.phase = .running then
      match (getPart s p).conj with
      | some c => if c.closed || !waitedOut s e.start then .next s else .next (cmdFail p st e.desc { code := 0x0108 } s)
      | none => .next s
    else .next (waitTimeout p st s)

end Sys2Proof.Machine
end

