-- ==== Sys2Proof/Machine/Regs.lean ====
section
/-!
DEFINITION. Machine/Regs.lean: the register map (spec/27): what stands at each 32-bit word of BAR0 and of the management
space, for the view of a requester.
-/
namespace Sys2Proof.Machine
open Sys2Proof

/-- Where a read-clears register is kept. -/
inductive Bank where
  | part (p : PartId) | port (k : PortId) | dev | bridle | tether | power | link (l : LinkId) | plane (pl : PlaneId)
  deriving DecidableEq, Repr

/-- What stands at a register offset (R9 to R11). -/
inductive Cell where
  /-- No register: reads zero (R10). -/
  | none
  | ro (v : Nat)
  /-- The low half of a 64-bit register. -/
  | ro64 (v : Nat)
  /-- A read-clears counter: its bank and its key there. -/
  | rc (b : Bank) (key : Nat)
  /-- A high-water mark: a read resets it to the current value. -/
  | hwm (p : PartId) (key now : Nat)
  /-- THM_MAX, which a read resets to the current TJ. -/
  | thmMax
  /-- COL_LAG_NS and COL_LAG_HIST of a communicator. -/
  | lagNs (h : Nat)
  | lagHist (h i : Nat)
  deriving DecidableEq, Repr

/-- Whose registers a requester sees: a partition, a port, whether through the management space, and whether with the access
that JTAG alone has to the registers of the management processors (R619). -/
structure View where
  part : Option PartId := .none
  port : Option PortId := .none
  mgt : Bool := false
  mpDebug : Bool := false
  deriving DecidableEq, Repr

-- Banks

def bankFile (s : State) : Bank → RegFile
  | .part p => (getPart s p).regs
  | .port k => (getPort s k).regs
  | .dev => s.regs
  | .bridle => s.bridle.regs
  | .tether => s.tether.regs
  | .power => s.power.regs
  | .link l => (getLink s l).regs
  | .plane pl => (getPlane s pl).regs

/-- Set a register of a bank. -/
def setBank (b : Bank) (key v : Nat) (s : State) : State :=
  match b with
  | .part p => updPart s p (fun q => { q with regs := tabSet 0 key v q.regs })
  | .port k => updPort s k (fun q => { q with regs := tabSet 0 key v q.regs })
  | .dev => { s with regs := tabSet 0 key v s.regs }
  | .bridle => { s with bridle := { s.bridle with regs := tabSet 0 key v s.bridle.regs } }
  | .tether => { s with tether := { s.tether with regs := tabSet 0 key v s.tether.regs } }
  | .power => { s with power := { s.power with regs := tabSet 0 key v s.power.regs } }
  | .link l => updLink s l (fun q => { q with regs := tabSet 0 key v q.regs })
  | .plane pl => updPlane s pl (fun q => { q with regs := tabSet 0 key v q.regs })

/-- A signed number as its 32-bit pattern. -/
def signed32 (x : Int) : Nat := (x % 2 ^ 32).toNat

/-- The word at offset `o` of a byte string. -/
def wordAt (b : Bytes) (o : Nat) : Nat := leAt b o 4

/-- The index of an element of a list of indices, where the number names one. -/
def finOf (n i : Nat) : Option (Fin n) := if h : i < n then some ⟨i, h⟩ else Option.none

/-- A free value for what a register shows of timing that the model leaves out; `i` tells the values of one read apart.
DEDUCED: notes/assumptions/71.md. -/
def openValue (s : State) (i w : Nat) : Nat := Config.freeValue (s.free + i) % 2 ^ w

-- FEAT (R190)

/-- Have the reducer slots passed their test? Until then none is free (R407, R563). DEDUCED: notes/assumptions/90.md. -/
def tested (s : State) : Bool :=
  match s.boot.state with
  | .coldReset | .warmReset | .tripped | .rom | .verify | .selftest => false
  | _ => true

/-- Has BIST_READ applied the image's partitions and the BIST standing? -/
def applied (s : State) : Bool := s.boot.coreFabLock

/-- Enabled clusters after BIST. -/
def enabledClusters (s : State) : Nat := if applied s then 255 - s.bist.applied % 256 else 0

def featCell (s : State) (v : View) (o : Nat) : Cell :=
  let c : PartCfg := match v.part with | some p => partCfg s p | .none => {}
  match o with
  | 0x00 => .ro (packBits [(0x7016, 0), (s.fuses.stepping, 16), ((match s.fuses.grade with | .h => 0 | .m => 1), 24)])
  | 0x04 => .ro 0x0101
  | 0x08 => .ro (packBits [(popCount (enabledClusters s) 8 * coresPer s, 0), (enabledClusters s, 8), (coresPer s, 16),
      (popCount (c.clusterMask &&& enabledClusters s) 8 * coresPer s, 24)])
  | 0x0C => .ro 0x01000007
  | 0x10 => .ro (packBits [(c.sycBase, 0), (c.sycCount, 16)])
  | 0x14 => .ro 0x1000
  | 0x18 => .ro 0x00844040
  | 0x1C => .ro 0x06000400
  | 0x20 => .ro 0x01001000
  | 0x24 => .ro 0x80004000
  | 0x28 => .ro 0x40100410
  | 0x2C => .ro 0xFFFF
  | 0x30 => .ro (packBits [(c.spoolMib, 0), (c.reelMib, 16)])
  | 0x34 => .ro c.tokenSlots
  | 0x38 => .ro (packBits [(c.updClauses, 0), (b2n c.updraftEn, 16)])
  | 0x40 => .ro64 (Config.hbmUnit * c.hbmUnits)
  | _ => .none

-- DEV (R43, R66, R494)

/-- DEV_BRL_PEER_L (R43, R44, R82): the start image's links. BL15, which R30 cables, counts the links to the pair.
DESIGN CHOICE: notes/assumptions/90.md. -/
def brlPeerWord (s : State) (l : LinkId) : Nat :=
  let img : LinkCfg := match s.img.image with | some c => c.link | .none => {}
  if !applied s || !bitOf img.brlEnable l.val then 0
  else match linkPeer s l with
  | .none => 0
  | some d =>
    let width := (allLinks.filter (fun k => linkPeer s k == some d && bitOf img.brlEnable k.val)).length
    packBits [(d % 16, 0), (farLink s l, 4), (1, 8), (width, 12)]

def devCell (s : State) (o : Nat) : Cell :=
  let g := s.cfg.group
  if o = 0x00 then .ro (if applied s then packBits [(g.member, 0), (g.group, 4), (g.size, 16), (1, 31)] else 0)
  else if o = 0x04 then .ro (if applied s ∧ g.pairMode ≠ 0 then packBits [(g.pairGroup, 0), (g.pairMode, 16)] else 0)
  else if 0x10 ≤ o ∧ o < 0x50 then match finOf 16 ((o - 0x10) / 4) with
    | some l => .ro (brlPeerWord s l)
    | .none => .none
  else match o with
  | 0x60 => .rc .dev 0x00010060
  | 0x64 => .rc .dev 0x00010064
  | 0x80 => .ro (bootStateWord s)
  | 0x84 => .ro s.boot.cause
  | 0x88 => .ro (alignWord s)
  | 0x8C => .ro (clkWord s)
  | 0x90 => .ro s.boot.readyUs
  | 0x100 => .ro (packBits [(sbCode s.pair.state, 0), (b2n s.pair.noWitness, 3), (b2n s.pair.pairUp, 4), (s.pair.lastCause, 8)])
  | 0x104 => .ro (if s.pair.state == .off then 0 else (dtNow s - s.pair.lastRx) / 1000 % 2 ^ 32)
  | 0x108 => .rc .dev 0x00010108
  | _ => .none

-- PRT (R429, R495, R158)

def hpCell (s : State) (k : PortId) (o : Nat) : Cell :=
  let q := getPort s k
  match o with
  | 0x8000 => .ro (hpLinkStatus q)
  | 0x8004 => .ro q.bar4BaseGib
  | 0x8008 => .rc (.port k) 0x00028008
  | 0x800C => .rc (.port k) 0x0002800C
  | 0x8010 => .rc (.port k) 0x00028010
  | 0x8014 => .rc (.port k) 0x00028014
  | 0x8018 => .rc (.port k) 0x00028018
  | 0x801C => .rc (.port k) 0x0002801C
  | 0x8020 => .ro (packBits [(q.reads.length % 2 ^ 13, 0), (tagLimit q, 16)])
  | 0x8024 => .ro q.wakeCause
  | 0x8028 => .ro (flrReport q)
  | 0x802C => .rc (.port k) 0x0002802C
  | 0x8030 => .rc (.port k) 0x00028030
  | _ => .none

def prtCell (s : State) (v : View) (p : PartId) (o : Nat) : Cell :=
  let q := getPart s p
  let c := partCfg s p
  let j := q.job
  if 0x8000 ≤ o then match (match v.port with | some k => some k | .none => portOf s p) with
    | some k => hpCell s k o
    | .none => .none
  else if 0x20 ≤ o ∧ o < 0x30 then match finOf 4 ((o - 0x20) / 4) with
    | some i => .ro (budget s p i)
    | .none => .none
  else if 0x30 ≤ o ∧ o < 0x40 then match finOf 4 ((o - 0x30) / 4) with
    | some i => .ro (signed32 q.regul[i].credit)
    | .none => .none
  else if 0x40 ≤ o ∧ o < 0x58 then .rc (.part p) (0x00020000 + o)
  else if 0x84 ≤ o ∧ o < 0x90 then .rc (.part p) (0x00020000 + o)
  else if 0x74 ≤ o ∧ o < 0x84 then .ro (regPart s p (0x00020000 + o))
  else if 0x120 ≤ o ∧ o < 0x13C then .ro (q.sb.resume.getD ((o - 0x120) / 4) 0)
  else match o with
  | 0x00 => .ro (packBits [(p.val, 0), (b2n c.defined, 2), (b2n c.updraftEn, 3), (b2n c.bar4En, 4), (c.clusterMask, 8), (c.urgentMask, 16),
      ((match portOf s p with | some k => k.val | .none => 0), 24)])
  | 0x04 => .ro (packBits [(c.hbmBase, 0), (c.hbmUnits, 16)])
  | 0x08 => .ro (packBits [(c.spoolMib, 0), (c.reelMib, 8), ((regCfg s p).weight, 16)])
  | 0x0C => .ro q.epoch
  | 0x10 => .ro (packBits [(j.id, 0), (j.priority, 16), (b2n j.stillAir, 18), (b2n j.digest, 19), (b2n j.updraft, 20), (b2n j.open_, 21),
      (b2n (j.deadline != 0), 22), (b2n j.latch, 23), (j.clusters, 24)])
  | 0x14 => .ro q.curModel
  | 0x18 => .ro (packBits [(packBits (q.models.map (fun m => (1, m.slot))), 0), (deviceModels s, 16)])
  | 0x58 => .ro (regPart s p 0x00020058)
  | 0x60 => .ro64 j.deadline
  | 0x68 => .ro64 j.lastProj
  | 0x70 => .ro (packBits [(j.lastCheck, 0), (b2n j.lateS, 2), (b2n j.lateD, 3), (b2n j.missed, 4)])
  | 0x100 => .ro (packBits [(b2n q.sb.covered, 0), (b2n q.sb.good.isSome, 1), (b2n q.sb.newFilling, 2)])
  | 0x104 => .ro q.sb.goodEpoch
  | 0x108 => .ro q.sb.released
  | 0x10C => .ro (q.sb.staged.length % 2 ^ 16)
  | 0x110 => .ro q.sb.snapBytes
  | 0x114 => .ro q.sb.gateNs
  | 0x118 => .rc (.part p) 0x00020118
  | _ => .none

-- QUE and SYC (R191, R192)

/-- Does a stream execute a command? -/
def runs (x : Stream) : Bool := match x.exec with | some e => (match e.phase with | .waiting _ => false | _ => true) | .none => false
def waits (x : Stream) : Bool := match x.exec with | some e => (match e.phase with | .waiting _ => true | _ => false) | .none => false

/-- The head or resident command of a stream. -/
def headBytes (s : State) (p : PartId) (st : StreamId) : Bytes :=
  match (getStream s p st).exec with
  | some e => e.desc
  | .none => match headDesc s p st with | some (.ok d) => d | _ => []

def streamCell (s : State) (p : PartId) (st : StreamId) (o : Nat) : Cell :=
  let x := getStream s p st
  match o with
  | 0x00 => .ro (packBits [(x.queue.length, 0), (queFree x, 16), (b2n (runs x), 25), (b2n (waits x), 26), (b2n (x.resident != 0), 27),
      (b2n (getPart s p).halted, 28)])
  | 0x04 => .ro x.entered
  | 0x08 => .ro x.retired
  | 0x0C => .ro (dTag (headBytes s p st))
  | 0x10 => .ro64 x.ringBase
  | 0x18 => .ro (packBits [(x.ringLog2, 0), (b2n x.ringEnable, 31)])
  | 0x1C => .ro x.ringTail
  | 0x20 => .ro x.ringHead
  | 0x24 => .ro x.pc
  | 0x28 => match (if waits x then unmetWait s p (headBytes s p st) else Option.none) with
    | some i => .ro (packBits [(i, 0), (1, 31)])
    | .none => .ro 0
  | _ => .none

def queCell (s : State) (p : PartId) (o : Nat) : Cell :=
  if o < 0x1C0 then match finOf 7 (o / 0x40) with
    | some st => streamCell s p st (o % 0x40)
    | .none => .none
  else match o with
  | 0x200 => let j := (getPart s p).job
    .ro (if j.open_ then packBits [(j.id, 0), (j.mask, 16), (1, 24)] else 0)
  | 0x204 => .rc (.part p) 0x00030204
  | 0x208 => .rc (.part p) 0x00030208
  | 0x20C => .rc (.part p) 0x0003020C
  | _ => .none

def sycCell (s : State) (p : PartId) (o : Nat) : Cell :=
  if o % 8 = 0 ∧ o / 8 < (partCfg s p).sycCount then .ro (sycGet s p (o / 8)) else .none

-- ERR (R477)

/-- The record window: record n stands at n mod 512. -/
def ringWindow (g : ErrRing) (i : Nat) : Bytes :=
  let n := if g.tail ≤ i then i else i + (g.tail - 1 - i) / Config.ringRecords * Config.ringRecords
  if n < g.tail then errBytes (tabGet {} g.recs i) n else List.replicate 64 0

def ringCell (g : ErrRing) (b : Bank) (view sel o : Nat) : Cell :=
  if 0x8000 ≤ o then .ro (wordAt (ringWindow g ((o - 0x8000) / 64)) (o % 64))
  else if 0x28 ≤ o ∧ o < 0x3C then .rc b (0x00060000 + o)
  else match o with
  | 0x00 => .ro (g.tail % 2 ^ 32)
  | 0x04 => .ro (g.head % 2 ^ 32)
  | 0x08 => .ro (packBits [(g.tail - g.head, 0), (b2n (decide (g.tail - g.head = Config.ringRecords)), 10), (b2n g.hostEnable, 11), (view, 12)])
  | 0x0C => .rc b 0x0006000C
  | 0x10 => .ro g.seq
  | 0x14 => .ro sel
  | 0x18 => .ro64 g.hostBase
  | 0x20 => .ro (b2n g.hostEnable)
  | 0x24 => .ro (packBits [(g.lastCode, 0), (g.lastClass, 16)])
  | 0x40 => match b with | .part p => .rc (.part p) 0x00060040 | _ => .ro 0
  | 0x44 => match b with | .part p => .rc (.part p) 0x00060044 | _ => .ro 0
  | _ => .none

def errCell (s : State) (v : View) (o : Nat) : Cell :=
  if v.mgt then
    match (if s.errSelect < 4 then finOf 4 s.errSelect else Option.none) with
    | some p => ringCell (getPart s p).ring (.part p) p.val s.errSelect o
    | .none => ringCell s.mgtRing .dev 4 s.errSelect o
  else match v.part with
  | some p => ringCell (getPart s p).ring (.part p) p.val p.val o
  | .none => .none

-- TMB (R124) and DET (R447)

def tmbCell (s : State) (o : Nat) : Cell :=
  match o with
  | 0x00 => .ro64 s.time.dt
  | 0x08 => .ro64 (s.time.sysOffset % 2 ^ 64)
  | 0x10 => .ro (tmbStatus s)
  | 0x14 => .ro (signed32 s.time.offset)
  | 0x18 => .ro64 s.time.ppsInDt
  | 0x20 => .ro64 (s.time.dt / 10000)
  | 0x28 => .ro (signed32 s.time.freqPpb)
  | _ => .none

def detCell (s : State) (p : PartId) (o : Nat) : Cell :=
  let q := getPart s p
  if 0x40 ≤ o ∧ o < 0x60 then .ro (wordAt q.job.settings (o - 0x40))
  else if 0x60 ≤ o ∧ o < 0x80 then .ro (wordAt q.inputDigest (o - 0x60))
  else match o with
  | 0x00 => .ro (packBits [(b2n s.boot.aligned, 0), (b2n (s.dual.state == .paired), 1), (dlCode s.dual.state, 2),
      ((if s.boot.state == .coldReset then 0 else s.fuses.detClass), 8), (q.dl.lastCause, 16)])
  | 0x08 => .ro64 q.job.fingerprint
  | 0x10 => .ro64 (regPart s p 0x00090010)
  | 0x18 => .ro q.job.nondet
  | 0x1C => .ro (packBits [(b2n (isOutside s p), 0), (q.job.outside % 64 / 2 * 2, 0), ((if q.job.outside = 0 then 0 else q.job.id), 16)])
  | 0x20 => .rc (.part p) 0x00090020
  | 0x80 => .ro q.dl.seq
  | 0x88 => .ro64 q.dl.compared
  | 0x90 => .rc (.part p) 0x00090090
  | 0x94 => .rc (.part p) 0x00090094
  | 0x98 => .ro (regPart s p 0x00090098)
  | _ => .none

-- UPD, RTE, SRT, DSP, SEQ, CMB, XFR (R306, R281, R335, R255)

def sumLens (l : List Nat) : Nat := l.foldl (· + ·) 0

def updCell (s : State) (p : PartId) (o : Nat) : Cell :=
  let q := getPart s p
  let c := partCfg s p
  let out := match q.conj with | some x => (outstandingSpec x).length | .none => 0
  let m := modelOf q q.curModel
  if 0x08 ≤ o ∧ o < 0x30 then (if o % 8 = 0 then .ro64 (regPart s p (0x000A0000 + o)) else .none)
  else if 0x30 ≤ o ∧ o < 0x50 then .rc (.part p) (0x000A0000 + o)
  else match o with
  | 0x00 => .ro (packBits [(out, 0), (b2n c.updraftEn, 16),
      (b2n (q.job.open_ && q.job.updraft && (match m with | some x => x.hasShadow | .none => false)), 17), (b2n (c.defined && out == c.updClauses), 18)])
  | 0x04 => .ro (packBits [((q.rows.filter (fun r => r.spec && (r.stage == .computing || r.stage == .held))).length, 0),
      ((match m with | some x => x.holdRows | .none => 0), 16)])
  | _ => .none

def rteCell (s : State) (p : PartId) (o : Nat) : Cell :=
  let q := getPart s p
  if 0x18 ≤ o ∧ o < 0x34 then .rc (.part p) (0x000B0000 + o)
  else match o with
  | 0x00 => .ro (packBits [(q.rteLayer, 0), (b2n (runs q.streams[0] && (match q.streams[0].exec with | some e => dOp e.desc / 0x100 == 0x10 | .none => false)), 8),
      (b2n (match q.gateBuf with | some (h, l) => h == q.curModel && l == q.rteLayer | .none => false), 9), (b2n q.rteEc, 10)])
  | 0x08 => .ro64 (regPart s p 0x000B0008)
  | 0x10 => .ro64 (regPart s p 0x000B0010)
  | 0x34 => .ro (ballastUse s p)
  | 0x38 => .hwm p 0x000B0038 (ballastUse s p)
  | 0x3C => .rc (.part p) 0x000B003C
  | _ => .none

def srtCell (s : State) (p : PartId) (o : Nat) : Cell :=
  match o with
  | 0x00 => .ro (b2n (runs (getPart s p).streams[1] && (match (getPart s p).streams[1].exec with | some e => dOp e.desc == 0x2001 | .none => false)))
  | 0x08 => .ro64 (regPart s p 0x000C0008)
  | 0x10 => .rc (.part p) 0x000C0010
  | _ => .none

def dspCell (s : State) (p : PartId) (o : Nat) : Cell :=
  if o < 0x20 then (if o % 8 = 0 then .ro64 (regPart s p (0x000D0000 + o)) else .none)
  else if o < 0x30 then .rc (.part p) (0x000D0000 + o)
  else if o = 0x30 then .ro (rowStoreUse s p)
  else if o = 0x34 then .rc (.part p) 0x000D0034
  else .none

/-- SEQ (R255). The phase of a pass shows timing, which the model leaves open. DEDUCED: notes/assumptions/71.md. LEAD_CLUSTER
keeps its reset value until the first pass. DEDUCED: notes/assumptions/90.md. -/
def seqCell (s : State) (p : PartId) (o : Nat) : Cell :=
  let x := (getPart s p).pass
  match o with
  | 0x00 => .ro (packBits [(jobCores s p, 0), ((match x with | some y => y.lead | .none => if (getPart s p).seqRan then 0xFF else 0), 8), (b2n x.isSome, 16),
      ((if x.isSome then 1 + openValue s 0 2 else 0), 17)])
  | 0x08 => .ro64 (regPart s p 0x000E0008)
  | 0x10 => .ro64 (regPart s p 0x000E0010)
  | 0x18 => .ro64 (regPart s p 0x000E0018)
  | 0x20 => .rc (.part p) 0x000E0020
  | 0x24 => .rc (.part p) 0x000E0024
  | 0x28 => .rc (.part p) 0x000E0028
  | _ => .none

/-- Rows in the stash of a partition. -/
def stashUse (s : State) (p : PartId) : Nat := sumLens ((getPart s p).slots.map (fun e => stashRows e.2))

def cmbCell (s : State) (p : PartId) (o : Nat) : Cell :=
  match o with
  | 0x00 => .ro (((getPart s p).slots.filter (fun e => e.2.active)).length)
  | 0x08 => .ro64 (regPart s p 0x000F0008)
  | 0x10 => .rc (.part p) 0x000F0010
  | 0x14 => .rc (.part p) 0x000F0014
  | 0x18 => .ro (stashUse s p)
  | 0x1C => .hwm p 0x000F001C (stashUse s p)
  | 0x20 => .rc (.part p) 0x000F0020
  | 0x24 => .rc (.part p) 0x000F0024
  | 0x28 => .rc (.part p) 0x000F0028
  | _ => .none

def xfrCell (s : State) (p : PartId) (o : Nat) : Cell :=
  let b := backingSize s p (getPart s p).models
  match o with
  | 0x00 => .ro64 (regPart s p 0x00110000)
  | 0x08 => .ro64 (regPart s p 0x00110008)
  | 0x10 => .ro ((getPart s p).recordSeq % 2 ^ 16)
  | 0x18 => .ro64 (if b = 0 then 0 else backingBase s p)
  | 0x20 => .ro (b / 2 ^ 20)
  | _ => .none

-- COL (R407)

/-- COL_SELECT of a view: the partition's, or the management requester's own (R573). -/
def colSelect (s : State) (v : View) (p : PartId) : Nat := if v.mgt then tabGet 0 s.regs 0x00100004 else regPart s p 0x00100004

/-- The member with the largest accumulator, the earliest of equals (R399, R407). -/
def lagTop (c : Comm) : Option (DevId × Nat) :=
  c.lag.foldl (fun a x => match a with
    | .none => some x
    | some y => if x.2 > y.2 then some x else some y) Option.none

def commCell (s : State) (h : Nat) (c : Comm) (o : Nat) : Cell :=
  if 0x40 ≤ o ∧ o < 0x60 then .lagHist h ((o - 0x40) / 4)
  else match o with
  | 0x10 => .ro64 c.id
  | 0x18 => .ro (packBits [(commCode c.state, 0), (c.abortCode, 16)])
  | 0x1C => .ro (packBits [(c.members.length, 0), ((groupsOf c.members).length, 16),
      (b2n (leaderOf c.members s.cfg.group.group == ownId s), 31)])
  | 0x20 => .ro (c.members.findIdx (· == ownId s))
  | 0x28 => .ro64 c.ops
  | 0x30 => .ro64 c.bytes
  | 0x38 => match lagTop c with
    | some x => .ro (packBits [(x.1, 0), (1, 31)])
    | .none => .ro 0
  | 0x3C => .lagNs h
  | _ => .none

def colCell (s : State) (v : View) (p : PartId) (o : Nat) : Cell :=
  let h := colSelect s v p
  if 0x10 ≤ o ∧ o < 0x60 then match getComm s h with
    | some c => if c.part = p then commCell s h c o else .none
    | .none => .none
  else match o with
  | 0x00 =>
    let (u, n) := slotsUsed s
    let held := ((slotChunks s).filter (fun x => x.1 == p && x.2.2.2.2)).length
    .ro (packBits [((commsOf s p).length, 0), (b2n (getPart s p).colRun.isSome, 7), (held, 8), ((if tested s then slotCount s - (u + n) else 0), 16)])
  | 0x04 => .ro h
  | 0x08 => .rc (.part p) 0x00100008
  | 0x0C => .rc (.part p) 0x0010000C
  | 0x60 => .rc (.part p) 0x00100060
  | _ => .none

-- CFG status (R97, R125)

def bankWord (b : BankStatus) : Nat := packBits [(b.result, 0), (b.record, 8), (b.fieldOffset, 16)]

def cfgCell (s : State) (o : Nat) : Cell :=
  match o with
  | 0x00 => .ro (bankWord s.img.bankA)
  | 0x04 => .ro (bankWord s.img.bankB)
  | 0x08 => .ro64 s.cfg.seq
  | 0x10 => .ro s.cfg.buildId
  | 0x14 => .ro s.cfg.signedLen
  | 0x18 => .ro (if s.boot.state == .coldReset then 0 else packBits [(s.cfg.secVersion, 0), (s.img.floor, 16)])
  | 0x1C => .ro (packBits [(s.img.flashDensityMib, 0), (b2n s.img.sfdpOk, 16), (b2n s.img.octalDdr, 17)])
  | 0x40 => .ro (commitWord s)
  | 0x48 => .ro64 s.commit.id
  | 0x50 => .ro64 s.commit.instant
  | 0x58 => .ro (packBits [(ownEpoch s, 0), (s.commit.fabricCount, 16)])
  | 0x5C => match s.commit.noDevice with | some d => .ro (packBits [(d, 0), (1, 31)]) | .none => .ro 0
  | 0x60 => .ro64 s.commit.applyDt
  | 0x68 => .rc .dev 0x00120068
  | 0x6C => .rc .dev 0x0012006C
  | _ => .none

-- PWR and THM (R516), SEC (R552)

def pwrCell (s : State) (o : Nat) : Cell :=
  let w := s.power
  if 0x10 ≤ o ∧ o < 0x20 then .rc .power (0x00130000 + o)
  else if 0x140 ≤ o ∧ o < 0x188 then match finOf 18 ((o - 0x140) / 4) with
    | some i => .ro (tempBits w.sensors[i])
    | .none => .none
  else if 0x1C0 ≤ o ∧ o < 0x1D8 then match finOf 6 ((o - 0x1C0) / 4) with
    | some i => .ro (tempBits w.hbm[i])
    | .none => .none
  else match o with
  | 0x00 => .ro (packBits [(s.boot.pstate, 0), (w.target, 3), (b2n w.changing, 6), (b2n w.quiet, 7), (duty s, 8), (b2n w.clampEdp, 13),
      (b2n w.clampLimit, 14), (b2n w.clampThermal, 15), (b2n w.railOor, 16), (b2n w.held.isSome, 17)])
  | 0x04 => .ro (packBits [(w.avg10 % 2 ^ 16, 0), (w.avg100 % 2 ^ 16, 16)])
  | 0x08 => .ro (packBits (allClusters.map (fun c => (clusterCode (getCluster s c).state, 4 * c.val))))
  | 0x0C => .ro (packBits [(powerLimit s, 0), (s.cfg.clock.boardPowerW, 16)])
  | 0x20 => .ro64 w.clampNs
  | 0x28 => .ro64 w.energyMj
  | 0x100 => .ro (packBits [(tempBits w.tj, 0), (w.hottest, 16), (b2n w.alert, 21), (b2n w.clampThermal, 22),
      (b2n (w.hbmDouble.toList.any id || w.hbmHalf.toList.any id), 23)])
  | 0x104 => .thmMax
  | _ => .none

/-- SEC_STATUS (R552). JTAG is open in the states whose JTAG is full (R525). -/
def secStatus (s : State) : Nat :=
  let lc := lifeCycle s
  packBits [(lcCode s, 0), (ownerGen s, 4), (b2n s.sec.selftestPassed, 9), (b2n (s.boot.state == .error), 10), (b2n s.sec.vaultValid, 11),
    (b2n s.sec.certMismatch, 12), (b2n s.sec.logFull, 13), (s.cfg.sec.logFullMode, 14), (b2n s.cfg.sec.debugUnlockAllowed, 15),
    (b2n (lc == .blank || lc == .debugUnlocked), 16), (s.fuses.floor, 24)]

def secCell (s : State) (v : View) (o : Nat) : Cell :=
  match o with
  | 0x00 => .ro (if s.boot.state == .coldReset then 0 else secStatus s)
  | 0x08 => .ro64 s.sec.logSeq
  | 0x10 => .rc .dev 0x00140010
  | 0x14 => .rc .dev 0x00140014
  | 0x18 => .ro s.sec.selftestLast
  | 0x1C => match v.port with
    | some k => .ro (packBits ((List.finRange 5).map (fun i => (b2n (getPort s k).ide[i].secure, i.val))))
    | .none => .none
  | _ => .none

-- BRL and TTH status (R358, R383)

def linkCell (s : State) (l : LinkId) (o : Nat) : Cell :=
  let q := getLink s l
  if (0x18 ≤ o ∧ o < 0x30) ∨ o = 0x34 then .rc (.link l) o
  else match o with
  | 0x00 => .ro (packBits [(brlCode q.state, 0), (b2n q.leader, 4), (b2n q.cryptOn, 5), (q.lanesLocked, 8), (q.downCause, 12)])
  | 0x04 => .ro (if q.peerValid then packBits [(q.peer.dev, 0), (q.peer.link, 14), (1, 18)] else 0)
  | 0x08 => .ro64 q.txFlits
  | 0x10 => .ro64 q.rxFlits
  | 0x30 => .ro q.delayNs
  | 0x38 => .ro q.unacked.length
  | _ => .none

/-- Members to which this device's flows are relayed: their bond is down and a relay stands. -/
def relayedMap (s : State) : Nat :=
  packBits ((List.range s.cfg.group.size).map (fun m =>
    (b2n (m != s.cfg.group.member && !bondUp s m && !(relaySet s m).isEmpty), m)))

def brlCell (s : State) (o : Nat) : Cell :=
  if o < 0x400 then match finOf 16 (o / 0x40) with
    | some l => linkCell s l (o % 0x40)
    | .none => .none
  else match o with
  | 0x400 => .ro (packBits [(bondMap s, 0), (relayedMap s, 16)])
  | 0x408 => .ro64 s.bridle.relayFwd
  | 0x410 => .ro64 s.bridle.relaySent
  | 0x418 => .rc .bridle 0x00150418
  | 0x41C => .ro (reorderUse s / 1024)
  | 0x420 => .rc .bridle 0x00150420
  | 0x424 => .rc .bridle 0x00150424
  | _ => .none

def ctxsOn (s : State) (pl : PlaneId) : List Ctx :=
  s.tether.ctxs.filterMap (fun e => match e.2 with
    | some c => if c.plane = pl then some c else Option.none
    | .none => Option.none)

def planeCell (s : State) (pl : PlaneId) (o : Nat) : Cell :=
  let q := getPlane s pl
  let cs := ctxsOn s pl
  if (0x20 ≤ o ∧ o < 0x34) ∨ o = 0x38 ∨ o = 0x3C then .rc (.plane pl) o
  else match o with
  | 0x00 => .ro (packBits [(tthCode q.state, 0), (b2n q.secured, 4), (b2n (s.time.ptp.plane == some pl.val), 5), (planeSpeed s pl, 6),
      (q.downCause, 8), ((cs.filter (·.state == .open_)).length, 16)])
  | 0x08 => .ro64 (if clocked s then planeMac pl else 0)
  | 0x10 => .ro64 q.txSegs
  | 0x18 => .ro64 q.rxSegs
  | 0x34 => .ro (sumLens (cs.map (fun c => sumLens (c.streams.toList.map (fun t => t.unacked.length)))))
  | _ => .none

def tthCell (s : State) (o : Nat) : Cell :=
  if o < 0x800 then match finOf 32 (o / 0x40) with
    | some pl => planeCell s pl (o % 0x40)
    | .none => .none
  else match o with
  | 0x1000 => .ro (openCtxs s)
  | 0x1004 => .rc .tether 0x00159004
  | 0x1008 => .ro ((s.tether.ctxs.filter (fun e => match e.2 with | some c => c.state == .open_ && !c.ecnOk | .none => false)).length)
  | 0x100C => .rc .tether 0x0015900C
  | 0x1010 => .ro (packBits [(poolUsed s false / 1024, 0), (poolUsed s true / 1024, 16)])
  | 0x1014 => .ro (packBits [(s.time.ptp.state, 0), ((match s.time.ptp.plane with | some x => x | .none => 0), 4)])
  | _ => .none

-- DBG (R621)

/-- May the requester use the registers of the management processors: JTAG alone, under MFG_TEST in BLANK or DEBUG_ACCESS in
DEBUG-UNLOCKED (R619)? To every other requester they read zero. -/
def mpDebugOpen (r : Requester) (s : State) : Bool :=
  r == .jtag && clocked s &&
    ((s.sec.jtagIr == 0x30 && lifeCycle s == .blank) || (s.sec.jtagIr == 0x20 && lifeCycle s == .debugUnlocked))

/-- DBG_MP_CTL, DBG_MP0_PC and DBG_MP1_PC. -/
def mpCell (s : State) (o : Nat) : Cell :=
  match o with
  | 0x100 => .ro (packBits [(s.mp.halt, 0), (s.mp.step, 2)])
  | 0x104 => .ro s.mp.pc0
  | 0x108 => .ro s.mp.pc1
  | _ => .none

def dbgCell (s : State) (p : PartId) (o : Nat) : Cell :=
  let t := (getPart s p).trace
  match o with
  | 0x00 => .ro t.ctl
  | 0x04 => .ro (packBits [(b2n (traceOn t), 0), (b2n t.stopped, 1), (b2n t.triggered, 2), (b2n t.refused, 3)])
  | 0x08 => .ro64 t.base
  | 0x10 => .ro t.size
  | 0x14 => .ro t.post
  | 0x18 => .ro t.wr
  | 0x1C => .ro t.rd
  | 0x20 => .rc (.part p) 0x00160020
  | 0x24 => .ro t.trigTag
  | 0x28 => .ro t.trigSeq
  | _ => .none

-- CNT (R620)

/-- FAB cycles since cold or warm reset: 1.6 GHz. -/
def fabCycles (s : State) : Nat := s.boot.sinceNs * 8 / 5

def cntCell (s : State) (p : PartId) (snap : Snap) (o : Nat) : Cell :=
  match o with
  | 0x04 => .ro (b2n snap.held)
  | 0x08 => .ro64 snap.dt
  | 0x10 => .ro64 (fabCycles s)
  | 0x18 => .ro64 (regPart s p 0x00070018)
  | 0x20 => .ro64 (regPart s p 0x00070020)
  | 0x28 => .ro64 (regPart s p 0x00070028)
  | _ => .none

-- MSI-X table and PBA (R132)

def msixCell (s : State) (k : PortId) (o : Nat) : Cell :=
  let vs := (getPort s k).vecs
  if o < 0x100 then match finOf 16 (o / 16) with
    | .none => .none
    | some i => match o % 16 with
      | 0 => .ro (vs[i].addr % 2 ^ 32)
      | 4 => .ro (vs[i].addr / 2 ^ 32)
      | 8 => .ro vs[i].data
      | _ => .ro (b2n vs[i].mask)
  else if o = 0x10000 then .ro (packBits ((List.finRange 16).map (fun i => (b2n vs[i].pend, i.val))))
  else .none

-- Management-only blocks

/-- The BST block (R565). UNIT reads 0x00 in COLD_RESET and 0xFF from ROM on while no unit is tested.
DESIGN CHOICE: notes/assumptions/90.md. -/
def bstCell (s : State) (o : Nat) : Cell :=
  let b := s.bist
  let st := if b.parked then 2 else if b.run.isSome then 1 else 0
  let unit := match b.run with | some x => x.batch.headD 0xFF | .none => 0xFF
  match o with
  | 0x04 => .ro b.units
  | 0x08 => .ro (packBits [(st, 0), (b2n b.refused, 2), (b.reason, 3), ((if st = 1 then unit else if clocked s then 0xFF else 0), 8)])
  | 0x0C => .ro b.applied
  | 0x10 => .ro b.slotsApplied
  | 0x14 => .ro (b.runSeq % 2 ^ 32)
  | 0x18 => .ro (b.shutdownSeq % 2 ^ 32)
  | _ => .none

/-- SEC_LOG_WINDOW: a sector of the log; sector 1,023 shows the vault's header only (R553). -/
def logWindow (s : State) (sector o n : Nat) : Bytes :=
  if sector < secSectors then flashReadN s.flash (secSectorAddr sector + o) n
  else (List.range n).map (fun i => if o + i < 64 then tabGet flashDefault s.flash (0x0C4FF000 + o + i) else 0)

def secCtlCell (s : State) (o : Nat) : Cell :=
  if o < 0x30 then .ro (wordAt s.sec.nonce o)
  else if 0x60 ≤ o ∧ o < 0xC0 then .ro (wordAt s.sec.tkeyPub (o - 0x60))
  else if 0x100 ≤ o ∧ o < 0x500 then .ro (leNat (memReadN s.sec.cmdBuf (o - 0x100) 4))
  else if 0x1000 ≤ o ∧ o < 0x2000 then .ro (leNat (logWindow s s.sec.logSector (o - 0x1000) 4))
  else match o with
  | 0x44 => .ro (packBits [(b2n s.sec.cmdBusy, 0), (s.sec.cmdStatus, 4), (s.sec.cmdOpcode, 16)])
  | 0x50 => .ro s.sec.logSector
  | _ => .none

def cfgCtlCell (s : State) (o : Nat) : Cell :=
  if 0x20 ≤ o ∧ o < 0x40 then .ro (wordAt s.commit.stageDigest (o - 0x20))
  else if 0x100 ≤ o ∧ o < 0x180 then .ro (leNat (memReadN s.commit.stageGroups (o - 0x100) 4))
  else if 0x1000 ≤ o ∧ o < 0x10000 then .ro (leNat (memReadN s.commit.stageBuf (o - 0x1000) 4))
  else match o with
  | 0x08 => .ro64 s.commit.stageId
  | 0x10 => .ro64 s.commit.stageInstant
  | 0x18 => .ro s.commit.stageScope
  | _ => .none

def brlCtlCell (s : State) (o : Nat) : Cell :=
  if o < 0x100 ∧ o % 16 = 4 then match finOf 16 (o / 16) with
    | some l => .ro (getLink s l).idleUs
    | .none => .none
  else .none

def pwrCtlCell (s : State) (o : Nat) : Cell :=
  match o with
  | 0x04 => .ro s.power.limitW
  | 0x08 => .ro s.power.closeUs
  | 0x0C => .ro s.power.alertC
  | 0x10 => .ro (packBits [(s.power.lastCmd, 0), (b2n s.power.refused, 4), (s.power.reason, 5)])
  | _ => .none

/-- An entry of the policy event queue (R572). -/
def eventBytes (e : MgtEvent) : Bytes := toLe 2 e.event ++ toLe 1 e.unit ++ toLe 1 0 ++ toLe 4 e.arg ++ toLe 8 e.dt

def mgtCell (s : State) (o : Nat) : Cell :=
  let m := s.mgt
  if 0x40 ≤ o ∧ o < 0x50 then .ro (m.bootInfo.getD ((o - 0x40) / 4) 0)
  else if 0x1000 ≤ o ∧ o < 0x2000 then
    .ro (if (o - 0x1000) / 16 < m.tail then wordAt (eventBytes (tabGet {} m.events ((o - 0x1000) / 16))) (o % 16) else 0)
  else if 0x2000 ≤ o ∧ o < 0x2400 then .ro (leNat (memReadN m.msgIn (o - 0x2000) 4))
  else if 0x2400 ≤ o ∧ o < 0x2800 then .ro (leNat (memReadN m.msgOut (o - 0x2400) 4))
  else match o with
  | 0x04 => .ro (packBits [(m.fwState, 0), (b2n m.fallback, 2), (b2n (m.update.phase != .idle), 3), (b2n m.msgPending.isSome, 4)])
  | 0x08 => .ro ((m.wdtLeft + 999) / 1000)
  | 0x0C => .rc .dev 0x0105000C
  | 0x10 => .ro m.view.val
  | 0x14 => .ro m.wakeReq
  | 0x18 => .ro (m.head % 2 ^ 32)
  | 0x1C => .ro (m.tail % 2 ^ 32)
  | 0x20 => .rc .dev 0x01050020
  | 0x24 => .ro (packBits [(m.eid, 0), (m.smbAddr, 8)])
  | 0x28 => .rc .dev 0x01050028
  | 0x2C => .ro m.stagePage
  | _ => .none

/-- The byte of HBM that an offset of the staging window addresses (R574). -/
def stageAddr (s : State) (o : Nat) : Nat := stagingBase + 2 ^ 20 * s.mgt.stagePage + o

-- The whole map

/-- A block that shows a partition: nothing where the requester has none. -/
def ofPart (v : View) (f : PartId → Cell) : Cell := match v.part with | some p => f p | .none => .none

/-- The word at an offset of the BAR0 blocks. -/
def blockCell (s : State) (v : View) (snap : Snap) (off : Nat) : Cell :=
  let o := off % 2 ^ 16
  match off / 2 ^ 16 with
  | 0x00 => featCell s v o
  | 0x01 => devCell s o
  | 0x02 => ofPart v (fun p => prtCell s v p o)
  | 0x03 => ofPart v (fun p => queCell s p o)
  | 0x04 => ofPart v (fun p => sycCell s p o)
  | 0x05 => ofPart v (fun p => sycCell s p (o + 2 ^ 16))
  | 0x06 => errCell s v o
  | 0x07 => ofPart v (fun p => cntCell s p snap o)
  | 0x08 => tmbCell s o
  | 0x09 => ofPart v (fun p => detCell s p o)
  | 0x0A => ofPart v (fun p => updCell s p o)
  | 0x0B => ofPart v (fun p => rteCell s p o)
  | 0x0C => ofPart v (fun p => srtCell s p o)
  | 0x0D => ofPart v (fun p => dspCell s p o)
  | 0x0E => ofPart v (fun p => seqCell s p o)
  | 0x0F => ofPart v (fun p => cmbCell s p o)
  | 0x10 => ofPart v (fun p => colCell s v p o)
  | 0x11 => ofPart v (fun p => xfrCell s p o)
  | 0x12 => cfgCell s o
  | 0x13 => pwrCell s o
  | 0x14 => secCell s v o
  | 0x15 => if o < 0x8000 then brlCell s o else tthCell s (o - 0x8000)
  | 0x16 => if v.mpDebug && decide (0x100 ≤ o) then mpCell s o else ofPart v (fun p => dbgCell s p o)
  | _ => .none

/-- The word at an aligned offset, for a view and the requester's snapshot. -/
def cellAt (s : State) (v : View) (snap : Snap) (off : Nat) : Cell :=
  let o := off % 2 ^ 16
  if off < 0x170000 then blockCell s v snap off
  else if !v.mgt then
    match v.port with
    | some k => if 0xFE0000 ≤ off ∧ off < 0xFF0008 then msixCell s k (off - 0xFE0000) else .none
    | .none => .none
  else if 0x01100000 ≤ off ∧ off < 0x01200000 then .ro (leNat (hbmRead s (stageAddr s (off - 0x01100000)) 4))
  else match off / 2 ^ 16 with
  | 0x100 => bstCell s o
  | 0x101 => secCtlCell s o
  | 0x102 => cfgCtlCell s o
  | 0x103 => brlCtlCell s o
  | 0x104 => pwrCtlCell s o
  | 0x105 => mgtCell s o
  | _ => .none

/-- The value of a cell. -/
def cellValue (s : State) : Cell → Nat
  | .none => 0
  | .ro v => v
  | .ro64 v => v
  | .rc b key => tabGet 0 (bankFile s b) key
  | .hwm p key now => max now (regPart s p key)
  | .thmMax => tempBits s.power.thmMax
  | .lagNs h => match getComm s h with
    | some c => min ((match lagTop c with | some x => x.2 | .none => 0)) (2 ^ 32 - 1)
    | .none => 0
  | .lagHist h i => match getComm s h with
    | some c => c.hist.getD i 0
    | .none => 0

/-- What a host read leaves in a read-clears register (R9, R12). -/
def cellClear (c : Cell) (s : State) : State :=
  match c with
  | .rc b key => setBank b key 0 s
  | .hwm p key now => setRegPart key now p s
  | .thmMax => { s with power := { s.power with thmMax := s.power.tj } }
  | .lagNs h => updComm h (fun c => { c with lag := [] }) s
  | .lagHist h i => updComm h (fun c => { c with hist := c.hist.set i 0 }) s
  | _ => s

end Sys2Proof.Machine
end

