-- ==== Sys2Proof/Machine/Registers.lean ====
section
/-!
DEFINITION. Machine/Registers.lean: reads and writes of the registers that have no row of their own (spec/00 R9 to R13,
spec/06 R132, spec/23 R573), the 64-bit latches (R11) and the counter snapshot (spec/25 R617, R618).
-/
namespace Sys2Proof.Machine
open Sys2Proof

/-- The SEC control block, which JTAG does not reach (R541). -/
def secControl (off : Nat) : Bool := off / 2 ^ 16 == 0x101

/-- The number of a requester: its port, or 4 for the management space. DEDUCED: notes/assumptions/69.md. -/
def requesterId : Requester → Fin 5
  | .hp k => k.castSucc
  | .bare k => k.castSucc
  | .mgt | .jtag => 4

/-- What a requester sees (R132, R573). -/
def viewOf (s : State) (r : Requester) : View :=
  match portReq r with
  | some (k, _) => { part := partOf s k, port := some k }
  | none => { part := some s.mgt.view, port := portOf s s.mgt.view, mgt := true, mpDebug := mpDebugOpen r s }

-- The counters of the snapshot (R617)

/-- Offsets `lo`, `lo + step`, … below `hi`. -/
def every (lo step hi : Nat) : List Nat := (List.range ((hi - lo + step - 1) / step)).map (fun i => lo + step * i)

/-- The counters of the partition blocks. -/
def partCounters : List Nat :=
  every 0x00020040 4 0x00020058 ++ [0x00020058] ++ every 0x00020084 4 0x00020090 ++ [0x00020118] ++
  every 0x00028008 4 0x00028020 ++ [0x0002802C, 0x00028030] ++
  (List.range 7).flatMap (fun i => [0x00030004 + 0x40 * i, 0x00030008 + 0x40 * i]) ++ every 0x00030204 4 0x00030210 ++
  [0x0006000C] ++ every 0x00060028 4 0x0006003C ++ [0x00060040, 0x00060044] ++
  every 0x00070010 8 0x00070030 ++
  [0x00090010, 0x00090018, 0x00090020, 0x00090088, 0x00090090, 0x00090094, 0x00090098] ++
  every 0x000A0008 8 0x000A0030 ++ every 0x000A0030 4 0x000A0050 ++
  [0x000B0008, 0x000B0010] ++ every 0x000B0018 4 0x000B0034 ++ [0x000B003C] ++
  [0x000C0008, 0x000C0010] ++
  every 0x000D0000 8 0x000D0020 ++ every 0x000D0020 4 0x000D0030 ++ [0x000D0034] ++
  every 0x000E0008 8 0x000E0020 ++ every 0x000E0020 4 0x000E002C ++
  [0x000F0008, 0x000F0010, 0x000F0014] ++ every 0x000F0020 4 0x000F002C ++
  [0x00100008, 0x0010000C, 0x00100028, 0x00100030] ++ every 0x00100040 4 0x00100064 ++
  [0x00110000, 0x00110008]

/-- The counters of the device blocks BRL, TTH and PWR. -/
def deviceCounters : List Nat :=
  every 0x00130010 4 0x00130020 ++ [0x00130020, 0x00130028] ++
  (List.range 16).flatMap (fun l => let b := 0x00150000 + 0x40 * l
    [b + 0x08, b + 0x10, b + 0x34] ++ every (b + 0x18) 4 (b + 0x30)) ++
  [0x00150408, 0x00150410, 0x00150418, 0x00150420, 0x00150424] ++
  (List.range 32).flatMap (fun p => let b := 0x00158000 + 0x40 * p
    [b + 0x10, b + 0x18, b + 0x38, b + 0x3C] ++ every (b + 0x20) 4 (b + 0x34)) ++
  [0x00159004, 0x0015900C]

/-- A captured counter is known by its offset and, where its block follows a selection, by what was selected. DEDUCED: notes/assumptions/72.md. -/
def capKey (s : State) (v : View) (off : Nat) : Nat :=
  let sel :=
    if 0x130000 ≤ off then 0
    else if off / 2 ^ 16 = 0x06 ∧ v.mgt then 1 + s.errSelect
    else match v.part with
      | some p => 1 + p.val + (if 0x100010 ≤ off ∧ off < 0x100060 then 8 * (1 + colSelect s v p) else 0)
      | none => 0
  off + 2 ^ 32 * sel

/-- What a snapshot holds of a register it did not capture. DEDUCED: notes/assumptions/71.md. -/
def notCaptured : Nat := 2 ^ 64

/-- The captured value of a register, where the requester holds one. -/
def captured (s : State) (v : View) (snap : Snap) (off : Nat) : Option Nat :=
  let x := tabGet notCaptured snap.caps (capKey s v off)
  if snap.held && x != notCaptured then some x else none

/-- The register whose half or whole stands at an aligned offset: its own offset, its cell, and whether this is its high half. -/
def wordCell (s : State) (v : View) (snap : Snap) (o : Nat) : Nat × Cell × Bool :=
  match cellAt s v snap o with
  | .none => if o % 8 = 4 then match cellAt s v snap (o - 4) with
      | .ro64 x => (o - 4, .ro64 x, true)
      | _ => (o, .none, false)
    else (o, .none, false)
  | c => (o, c, false)

/-- The value of a register as the requester sees it: the captured one while a capture is held. -/
def shownValue (s : State) (v : View) (snap : Snap) (base : Nat) (c : Cell) : Nat :=
  match captured s v snap base with
  | some x => x
  | none => cellValue s c

/-- The live word at an aligned offset. -/
def liveWord (s : State) (v : View) (snap : Snap) (o : Nat) : Nat :=
  let (base, c, hi) := wordCell s v snap o
  let x := shownValue s v snap base c
  if hi then x / 2 ^ 32 % 2 ^ 32 else x % 2 ^ 32

/-- The bytes of a read that uses no latch. -/
def liveBytes (s : State) (v : View) (snap : Snap) (off len : Nat) : Nat :=
  leNat ((List.range len).map (fun i => BitVec.ofNat 8 (liveWord s v snap (4 * ((off + i) / 4)) / 2 ^ (8 * ((off + i) % 4)))))

/-- The key of a latch: the register's offset and the requester (R11); a selection made between the halves is not part of
it. DESIGN CHOICE: notes/assumptions/90.md. -/
def latchKey (r : Requester) (base : Nat) : Nat := 8 * base + (requesterId r).val

/-- Subtract a captured value from a live counter, which stops at zero; a saturated one stays (R618). -/
def subtractLive (c : Cell) (n : Nat) (s : State) : State :=
  let f := fun x => if x = 2 ^ 32 - 1 then x else x - n
  match c with
  | .rc b key => setBank b key (f (tabGet 0 (bankFile s b) key)) s
  | .lagHist h i => updComm h (fun c => { c with hist := c.hist.set i (f (c.hist.getD i 0)) }) s
  | _ => s

/-- Does a host read clear the register? DEDUCED: notes/assumptions/72.md. -/
def clears : Cell → Bool
  | .rc _ _ | .hwm _ _ _ | .thmMax | .lagNs _ | .lagHist _ _ => true
  | _ => false

/-- What a host read leaves in the register at an aligned offset: it is cleared, or during a snapshot reduced by the
captured value, which then reads zero (R9, R618). DEDUCED: notes/assumptions/72.md. -/
def readEffect (r : Requester) (o : Nat) (s : State) : State :=
  let v := viewOf s r
  let snap := s.snaps[requesterId r]
  let c := cellAt s v snap o
  if !clears c then s
  else match captured s v snap o with
  | some x =>
    let snap := { snap with caps := tabSet notCaptured (capKey s v o) 0 snap.caps }
    subtractLive c x { s with snaps := s.snaps.set (requesterId r) snap }
  | none => cellClear c s

/-- The value of a read, and the latch that a 32-bit read of a low half leaves (R11). -/
def readValue (r : Requester) (off len : Nat) (s : State) : Nat × State :=
  let v := viewOf s r
  let snap := s.snaps[requesterId r]
  if len = 4 ∧ off % 4 = 0 then
    let (base, c, hi) := wordCell s v snap off
    match c, hi with
    | .ro64 _, false =>
      let x := shownValue s v snap base c
      (x % 2 ^ 32, { s with latches := tabSet none (latchKey r base) (some (x / 2 ^ 32 % 2 ^ 32)) s.latches })
    | .ro64 _, true => match tabGet none s.latches (latchKey r base) with
      | some x => (x, s)
      | none => (liveWord s v snap off, s)
    | _, _ => (liveWord s v snap off, s)
  else (liveBytes s v snap off len, s)

/-- A read that is served: its value goes to the requester; a host read has the read effects of the words it touches, and a
management read has none (R573). DEDUCED: notes/assumptions/72.md. -/
def readServed (r : Requester) (off len : Nat) (s : State) : State :=
  let (x, s) := readValue r off len s
  let words := ((List.range len).map (fun i => 4 * ((off + i) / 4))).eraseDups
  let s := if (portReq r).isNone then s else eachOf words (readEffect r) s
  emit (.regValue r off x) { s with free := s.free + 3 }

/-- The offset in BAR0 or in the management space that an address names: an MSI-X vector's fields stand in the MSI-X table, which
follows the rules of registers (R12, R132). -/
def regOffset : RegAddr → Option Nat
  | .reg off => some off
  | .vecAddr i => some (0xFE0000 + 16 * i.val)
  | .vecData i => some (0xFE0000 + 16 * i.val + 8)
  | .vecMask i => some (0xFE0000 + 16 * i.val + 12)
  | _ => none

/-- May the management requester or JTAG read an offset: its space, or, under MFG_TEST, the registers of R619 alone? -/
def mgtReads (r : Requester) (off : Nat) (s : State) : Bool :=
  (mgtOpen r s && !(r == .jtag && secControl off)) || (mpDebugOpen r s && decide (0x160100 ≤ off) && decide (off < 0x16010C))

/-- A register read (R11, R12, R54, R132, R139, R573). -/
def readReg (r : Requester) (off len : Nat) (s : State) : State :=
  match portReq r with
  | none => if mgtReads r off s then readServed r off len s else s
  | some (k, bare) =>
    match hostMem k bare (some off) s with
    | (.ur, s) => emit (.completion k 1 []) s
    | (g, s) =>
      if off % 8 + len > 8 then emit (.completion k 1 []) s
      else if g == .zero then emit (.regValue r off 0) s
      else readServed r off len s

-- Configuration space (R127 to R131, R139)

/-- The chain of capabilities (R129): the one after the capability at an offset, in either list. -/
def nextCap (off : Nat) : Nat :=
  let after (l : List Nat) : Option Nat := match l.dropWhile (fun x => x != off) with | _ :: n :: _ => some n | _ => none
  ((after [0, 0x40, 0x50, 0xB0]).orElse
    (fun _ => after [0x100, 0x180, 0x190, 0x1C0, 0x1D0, 0x200, 0x240, 0x260, 0x300, 0x340])).getD 0

/-- The code of a payload or request size: 128 bytes at code 0. PRESUMED: notes/assumptions/21.md. -/
def codeOf (n : Nat) : Nat := (n / 128).log2

/-- The sizes of BAR0, BAR2 and BAR4 (R128). -/
def barSize : Fin 3 → Nat
  | 0 => 2 ^ 24
  | 1 => 2 ^ 26
  | 2 => 2 ^ 36

/-- A word of a base address register with its attribute bits (R128): a 64-bit memory BAR, prefetchable but for BAR0; BAR4 is
hardwired to zero where the partition has none. PRESUMED for the bits: notes/assumptions/88.md. -/
def barWord (q : Port) (i : Fin 6) : Nat :=
  let j : Fin 3 := ⟨i.val / 2, by omega⟩
  if i.val / 2 = 2 ∧ !q.bar4 then 0
  else if i.val % 2 = 1 then q.bars[j] / 2 ^ 32 else q.bars[j] % 2 ^ 32 + (if i.val / 2 = 0 then 4 else 12)

/-- A read-only field of the configuration space (R127 to R131). PRESUMED for the codes: notes/assumptions/88.md. -/
def fieldValue (s : State) (k : PortId) : ConfigField → Nat
  | .vendorId | .subsystemVendorId => 0x1F4E
  | .deviceId => match s.fuses.grade with | .h => 0x7016 | .m => 0x7017
  | .revisionId => 0xB1
  | .classCode => 0x120000
  | .headerType | .interruptPin | .expansionRom | .auxCurrent | .ctoDisable => 0
  | .subsystemId => 0x0100 + k.val
  | .nextCap off => nextCap off
  | .pmeSupport => 8
  | .noSoftReset | .extTagSupported | .flrCapability | .tag10Supported | .tag14Supported => 1
  | .powerState => if (getPort s k).d3hot then 3 else 0
  | .bme => b2n (getPort s k).bme
  | .mpsSupported => codeOf 512
  | .ctoRanges => 15
  | .aspmSupport => 2
  | .l1ExitLatency => 3
  | .l1Acceptable => 6
  | .maxSpeed => (portCap s k).1
  | .maxWidth => (portCap s k).2
  | .speed => (getPort s k).gen
  | .width => (getPort s k).width
  | .msixSize => 15
  | .msixTable => 0xFE0000
  | .msixPba => 0xFF0000
  | .serialNumber => leAt s.fuses.serial 0 8
  -- Discovery, CMA/SPDM and Secured CMA/SPDM of the PCI-SIG, vendor 0x0001
  | .doeDiscovery i => if i < 3 then packBits [(1, 0), (i, 16), ((i + 1) % 3, 24)] else 0xFFFF

/-- The value of a field of the configuration space. -/
def configValue (s : State) (k : PortId) (a : RegAddr) : Nat :=
  let q := getPort s k
  match a with
  | .field f => fieldValue s k f
  | .bar i => barWord q i
  | .mse => b2n q.mse
  | .aspm => 2 * b2n q.aspmL1
  | .mps => codeOf q.mps
  | .mrrs => codeOf q.mrrs
  | .tag14 => b2n q.tag14
  | .tag10 => b2n q.tag10
  | .extTag => b2n q.extTag
  | .cto => q.ctoSel
  | .relaxed => b2n q.relaxed
  | .ido => b2n q.ido
  | .pmeEn => b2n q.pmeEn
  | .pmeStatus => b2n q.pmeStatus
  | .msixEn => b2n q.msixEn
  | .msixMaskAll => b2n q.msixMaskAll
  | .aerUnexpected => b2n q.aer.unexpected
  | .aerPoisoned => b2n q.aer.poisoned
  | .aerAdvisory => b2n q.aer.advisory
  | .reg _ | .vecAddr _ | .vecData _ | .vecMask _ | .bar2 _ | .unsupported => 0

/-- A configuration read: completed with its data, or with Request Retry Status (R139, R155). -/
def configRead (k : PortId) (a : RegAddr) (len : Nat) (s : State) : State :=
  if cfgOpen s k then emit (.completion k 0 (toLe len (configValue s k a))) (leaveL1 k s)
  else if cfgReach s k then emit (.completion k 3 []) s
  else s

/-- A read of BAR2, which returns zero (R133, R139). -/
def bar2Read (k : PortId) (bare : Bool) (len : Nat) (s : State) : State :=
  match hostMem k bare none s with
  | (.go, s) => emit (.completion k 0 (List.replicate len 0)) s
  | (_, s) => emit (.completion k 1 []) s

/-- A request that would use a feature that R127 marks not supported: an Unsupported Request. -/
def unsupportedReq (k : PortId) (s : State) : State := if cfgReach s k then emit (.completion k 1 []) (leaveL1 k s) else s

/-- RC_REGISTER_READ (R9, R12, R127, R128, R129, R133, R618). -/
def execRcRegisterRead (r : Requester) (a : RegAddr) (len : Nat) (s : State) : Out :=
  match regOffset a, portReq r, a with
  | some off, _, _ => .next (readReg r off len s)
  | none, none, _ => .next s
  | none, some (k, bare), .bar2 _ => .next (bar2Read k bare len s)
  | none, some (k, _), .unsupported => .next (unsupportedReq k s)
  | none, some (k, _), a => .next (configRead k a len s)

/-- LOW_HALF_READ (R11): a 32-bit read. -/
def execLowHalfRead (r : Requester) (off : Nat) (s : State) : Out := .next (readReg r off 4 s)

/-- HIGH_HALF_READ (R11): a 32-bit read. -/
def execHighHalfRead (r : Requester) (off : Nat) (s : State) : Out := .next (readReg r off 4 s)

-- The snapshot (R617)

/-- The captured values of a requester's view. DEDUCED: notes/assumptions/71.md. -/
def captureAll (s : State) (v : View) (snap : Snap) : RegFile :=
  (partCounters ++ deviceCounters).foldl (fun t o =>
    match cellAt s v snap o with
    | .none => t
    | c => tabSet notCaptured (capKey s v o) (cellValue s c) t) []

/-- May a requester write CNT_SNAP_CTL: a host port whose access is served? The management space repeats CNT read-only (R573).
DEDUCED: notes/assumptions/80.md. -/
def snapWriter (r : Requester) (s : State) : Bool × State :=
  if mgtOpen r s then (true, s)
  else match hostPart r 0x00070000 s with
  | (some _, s) => (true, s)
  | (none, s) => (false, s)

/-- A write of CNT_SNAP_CTL: TAKE, or RELEASE where TAKE is not set with it (R617). -/
def writeSnap (r : Requester) (v : Nat) (s : State) : State :=
  match snapWriter r s with
  | (true, s) =>
    if bitOf v 0 then
      { s with
        snaps := s.snaps.set (requesterId r)
          { held := true, dt := dtNow s, caps := captureAll s (viewOf s r) s.snaps[requesterId r] }
        free := s.free + 3 }
    else if bitOf v 1 then { s with snaps := s.snaps.set (requesterId r) {} }
    else s
  | (false, s) => s

/-- CNT_SNAP_TAKE (R617). DEDUCED: notes/assumptions/80.md. -/
def execCntSnapTake (r : Requester) (v : Nat) (s : State) : Out := .next (writeSnap r v s)

/-- CNT_SNAP_RELEASE (R617). -/
def execCntSnapRelease (r : Requester) (v : Nat) (s : State) : Out := .next (writeSnap r v s)

-- Writes

/-- Replace the low or the high half of a 64-bit register. -/
def setHalf (hi : Bool) (old v : Nat) : Nat := if hi then old % 2 ^ 32 + v * 2 ^ 32 else old / 2 ^ 32 * 2 ^ 32 + v

/-- A 64-bit base whose low 12 bits read zero. -/
def setBase (hi : Bool) (old v : Nat) : Nat := setHalf hi old v / 4096 * 4096

/-- RW1C: each 1 written clears its bit, of the bits that the mask names. -/
def clearOnes (mask old v : Nat) : Nat := old - (old &&& mask &&& v)

/-- A word written to the MSI-X table of a port (R129, R132): the mask bit's clearing lets a pending message go (R147). -/
def writeMsix (k : PortId) (o v : Nat) (s : State) : State :=
  match finOf 16 (o / 16) with
  | none => s
  | some i =>
    let f := fun (g : MsixVec → MsixVec) => updPort s k (fun q => { q with vecs := q.vecs.set i (g q.vecs[i]) })
    match o % 16 with
    | 0 => f (fun e => { e with addr := setHalf false e.addr v / 4 * 4 })
    | 4 => f (fun e => { e with addr := setHalf true e.addr v })
    | 8 => f (fun e => { e with data := v })
    | _ => msixFlush k (f (fun e => { e with mask := bitOf v 0 }))

/-- The stream whose RING_BASE an offset is, and whether it is the high half (R164). -/
def ringBaseReg (off : Nat) : Option (StreamId × Bool) :=
  allStreams.findSome? (fun st =>
    if off = 0x00030010 + 64 * st.val then some (st, false) else if off = 0x00030014 + 64 * st.val then some (st, true) else none)

/-- A word written to a register of a partition from its port (R164, R429, R456, R477, R407, R621). -/
def writePart (p : PartId) (off v : Nat) (s : State) : State :=
  let ring := fun (st : StreamId) (hi : Bool) =>
    updStream s p st (fun x => if x.ringEnable then x else { x with ringBase := setBase hi x.ringBase v })
  let err := fun (f : ErrRing → ErrRing) => updPart s p (fun q => { q with ring := f q.ring })
  let trace := fun (f : Trace → Trace) => updPart s p (fun q => { q with trace := f q.trace })
  match ringBaseReg off with
  | some (st, hi) => ring st hi
  | none => match off with
  | 0x00020074 => setRegPart off (v % 2) p s
  | 0x00020078 | 0x0002007C | 0x00020080 => setRegPart off v p s
  | 0x00060018 => err (fun g => if g.hostEnable then g else { g with hostBase := setBase false g.hostBase v })
  | 0x0006001C => err (fun g => if g.hostEnable then g else { g with hostBase := setBase true g.hostBase v })
  | 0x00060020 => err (fun g => { g with hostEnable := bitOf v 0 })
  | 0x00100004 => setRegPart off (v % 64) p s
  | 0x00160008 => trace (fun t => if bitOf t.ctl 0 then t else { t with base := setBase false t.base v })
  | 0x0016000C => trace (fun t => if bitOf t.ctl 0 then t else { t with base := setBase true t.base v })
  | 0x00160010 => trace (fun t => if bitOf t.ctl 0 then t else { t with size := v })
  | 0x00160014 => trace (fun t => { t with post := v })
  | 0x00160024 => trace (fun t => { t with trigTag := v })
  | _ => s

/-- A word written to BAR0 by a host port. DEDUCED: notes/assumptions/72.md. -/
def writeHostWord (k : PortId) (off v : Nat) (s : State) : State :=
  if off = 0x00028004 then updPort s k (fun q => { q with bar4BaseGib := v % 2 ^ 16 })
  else if off = 0x00028024 then updPort s k (fun q => { q with wakeCause := clearOnes 0x70F q.wakeCause v })
  else if 0xFE0000 ≤ off ∧ off < 0xFE0100 then writeMsix k (off - 0xFE0000) v s
  else match partOf s k with
    | some p => if (partCfg s p).defined then writePart p off v s else s
    | none => s

/-- A word written by the management requester (R126, R359, R477, R517, R553, R565, R573, R587).
DEDUCED: notes/assumptions/64.md; DEDUCED: notes/assumptions/72.md; DESIGN CHOICE: notes/assumptions/90.md. -/
def writeMgtWord (off v : Nat) (s : State) : State :=
  let stage := fun (f : Commit → Commit) => if s.commit.state == .staging then { s with commit := f s.commit } else s
  if 0x01030000 ≤ off ∧ off < 0x01030100 ∧ off % 16 = 4 then
    match finOf 16 ((off - 0x01030000) / 16) with
    | some l => updLink s l (fun q => { q with idleUs := v % 2 ^ 16 })
    | none => s
  else match off with
  | 0x00010084 => { s with boot := { s.boot with cause := clearOnes 0x3F s.boot.cause v } }
  | 0x00060014 => { s with errSelect := min (v % 8) 4 }
  | 0x00100004 => { s with regs := tabSet 0 0x00100004 (v % 64) s.regs }
  | 0x01000004 => { s with bist := { s.bist with units := v } }
  | 0x01010040 => if v == 0x5EC00001 && secServed s && !s.sec.cmdBusy && (secOp (secBuf s) == 0 || decide (secOp (secBuf s) > 9)) then
      secAttempt s else s
  | 0x01010050 => { s with sec := { s.sec with logSector := v % 1024 } }
  | 0x01020008 => stage (fun c => { c with stageId := setHalf false c.stageId v })
  | 0x0102000C => stage (fun c => { c with stageId := setHalf true c.stageId v })
  | 0x01020010 => stage (fun c => { c with stageInstant := setHalf false c.stageInstant v })
  | 0x01020014 => stage (fun c => { c with stageInstant := setHalf true c.stageInstant v })
  | 0x01020018 => stage (fun c => { c with stageScope := v % 4 })
  | 0x0104000C => { s with power := { s.power with alertC := v % 256 } }
  | 0x01050010 => { s with mgt := { s.mgt with view := ⟨v % 4, Nat.mod_lt _ (by decide)⟩ } }
  | 0x0105002C => { s with mgt := { s.mgt with stagePage := v % 256 } }
  | _ => s

/-- Does an offset lie in a byte window, where writes of any size take effect byte by byte (R12)? -/
def inWindow (off : Nat) : Bool :=
  (decide (0x01010100 ≤ off) && decide (off < 0x01010500)) || (decide (0x01020100 ≤ off) && decide (off < 0x01020180)) ||
  (decide (0x01021000 ≤ off) && decide (off < 0x01030000)) || (decide (0x01052400 ≤ off) && decide (off < 0x01052800)) ||
  (decide (0x01100000 ≤ off) && decide (off < 0x01200000))

/-- The bytes of a write that fall in a range: their offset in the range, and the bytes. -/
def windowPart (lo hi off : Nat) (b : Bytes) : Nat × Bytes :=
  (max lo off - lo, (b.drop (lo - off)).take (hi - max lo off))

/-- A write to the byte windows (R12, R126, R522, R574, R579). -/
def writeWindow (off : Nat) (b : Bytes) (s : State) : State :=
  if off < 0x01010500 then
    let (o, b) := windowPart 0x01010100 0x01010500 off b
    if s.sec.cmdBusy then s else { s with sec := { s.sec with cmdBuf := memWriteN s.sec.cmdBuf o b } }
  else if off < 0x01020180 then
    let (o, b) := windowPart 0x01020100 0x01020180 off b
    if s.commit.state == .staging then { s with commit := { s.commit with stageGroups := memWriteN s.commit.stageGroups o b } } else s
  else if off < 0x01030000 then
    let (o, b) := windowPart 0x01021000 0x01030000 off b
    if s.commit.state == .staging then { s with commit := { s.commit with stageBuf := memWriteN s.commit.stageBuf o b } } else s
  else if off < 0x01052800 then
    let (o, b) := windowPart 0x01052400 0x01052800 off b
    { s with mgt := { s.mgt with msgOut := memWriteN s.mgt.msgOut o b } }
  else
    let (o, b) := windowPart 0x01100000 0x01200000 off b
    if s.boot.hbmTrained then hbmWrite (stageAddr s o) b s else s

/-- Each aligned word of a register write: 32-bit registers take whole words only (R12). -/
def eachWord (off len v : Nat) (f : Nat → Nat → State → State) (s : State) : State :=
  if off % 4 ≠ 0 ∨ len % 4 ≠ 0 then s
  else eachOf (List.range (len / 4)) (fun i s => f (off + 4 * i) (v / 2 ^ (32 * i) % 2 ^ 32) s) s

/-- MPS and MRRS by their PCIe codes, 128 bytes at code 0; codes without a size change nothing. PRESUMED: notes/assumptions/21.md. -/
def sizeCode (old code : Nat) : Nat := if code ≤ 5 then 128 * 2 ^ code else old

/-- The effect of a write to a field of the function's configuration space (R127, R128, R141, R142, R143, R144, R147, R151);
read-only fields keep their value. PRESUMED: notes/assumptions/21.md. -/
def setConfig (k : PortId) (a : RegAddr) (v : Nat) (s : State) : State :=
  let b := bitOf v 0
  match a with
  | .mse => updPort s k (fun q => { q with mse := b })
  | .aspm => updPort s k (fun q => { q with aspmL1 := bitOf v 1 })
  | .mps => updPort s k (fun q => { q with mps := sizeCode q.mps (v % 8) })
  | .mrrs => updPort s k (fun q => { q with mrrs := sizeCode q.mrrs (v % 8) })
  | .tag14 => updPort s k (fun q => { q with tag14 := b })
  | .tag10 => updPort s k (fun q => { q with tag10 := b })
  | .extTag => updPort s k (fun q => { q with extTag := b })
  | .cto => updPort s k (fun q => { q with ctoSel := v % 16 })
  | .relaxed => updPort s k (fun q => { q with relaxed := b })
  | .ido => updPort s k (fun q => { q with ido := b })
  | .pmeEn => updPort s k (fun q => { q with pmeEn := b })
  | .pmeStatus => updPort s k (fun q => { q with pmeStatus := q.pmeStatus && !b })
  | .msixEn => msixFlush k (updPort s k (fun q => { q with msixEn := b }))
  | .msixMaskAll => msixFlush k (updPort s k (fun q => { q with msixMaskAll := b }))
  | .bar i =>
    let j : Fin 3 := ⟨i.val / 2, by omega⟩
    updPort s k (fun q => { q with bars := q.bars.set j (setHalf (i.val % 2 == 1) q.bars[j] (v % 2 ^ 32) / barSize j * barSize j) })
  | .aerUnexpected => updPort s k (fun q => { q with aer := { q.aer with unexpected := q.aer.unexpected && !b } })
  | .aerPoisoned => updPort s k (fun q => { q with aer := { q.aer with poisoned := q.aer.poisoned && !b } })
  | .aerAdvisory => updPort s k (fun q => { q with aer := { q.aer with advisory := q.aer.advisory && !b } })
  | .reg _ | .vecAddr _ | .vecData _ | .vecMask _ | .bar2 _ | .field _ | .unsupported => s

/-- A register write through the management space: DEBUG_ACCESS writes the DBG block of the viewed partition too (R541, R573). -/
def writeMgt (r : Requester) (off len v : Nat) (s : State) : State :=
  if !mgtOpen r s || (r == .jtag && secControl off) then s
  else if jtagDbg r off s then eachWord off len v (writePart s.mgt.view) s
  else if inWindow off then writeWindow off (toLe len v) s
  else eachWord off len v writeMgtWord s

/-- A register write through BAR0 of a port (R12, R132, R139, R146). -/
def writeBar0 (k : PortId) (bare : Bool) (off len v : Nat) (ep : Bool) (s : State) : State :=
  match hostMem k bare (some off) s with
  | (.ur, s) => s
  | (g, s) =>
    if ep then poisonedWrite k s
    else if g == .zero || decide (off % 8 + len > 8) then s
    else eachWord off len v (writeHostWord k) s

/-- REGISTER_WRITE (R9, R10, R12, R13, R127, R132, R146, R573): `len` bytes of `v`, least significant first.
DEDUCED: notes/assumptions/72.md. -/
def execRegisterWrite (r : Requester) (a : RegAddr) (len : Nat) (v : Nat) (ep : Bool) (s : State) : Out :=
  match regOffset a, portReq r, a with
  | some off, none, _ => .next (writeMgt r off len v s)
  | some off, some (k, bare), _ => .next (writeBar0 k bare off len v ep s)
  | none, none, _ => .next s
  | none, some _, .bar2 off => .next (bar2Write r off (toLe len v) ep s)
  | none, some (k, _), .unsupported => .next (unsupportedReq k s)
  | none, some (k, _), a => .next (cfgWrite k (setConfig k a v) s)

end Sys2Proof.Machine
end

