-- ==== Sys2Proof/Machine/Debug.lean ====
section
/-!
DEFINITION. Machine/Debug.lean: the trace ring's control, its draining, MARK records, and the halt and single step of the
management processors (spec/25 R608 to R621).
-/
namespace Sys2Proof.Machine
open Sys2Proof

/-- Is a value a power of two from 64 KiB to 1 GiB? -/
def traceSizeOk (n : Nat) : Bool := (List.range 15).any (fun i => n == 2 ^ (16 + i))

/-- The checks of an enabling write (R608). -/
def traceFits (s : State) (p : PartId) : Bool :=
  let t := (getPart s p).trace
  let r := (t.base, t.base + t.size)
  traceSizeOk t.size && t.base % 4096 == 0 && decide (t.base + t.size ≤ hbmSize s p) && decide (t.base + t.size ≤ backingBase s p) &&
  !((getPart s p).models.flatMap modelRanges).any (rangesMeet r)

/-- A write of DBG_TRACE_CTL (R608, R612, R616, R621): MODE keeps its value while ENABLE is 1; an accepted write with ENABLE 1
arms the trigger anew, and SEQ starts at 0 when ENABLE rises. DEDUCED: notes/assumptions/79.md. -/
def writeTraceCtl (s : State) (p : PartId) (v : Nat) : Trace :=
  let t := (getPart s p).trace
  let was := bitOf t.ctl 0
  let v := if was then v % 2 ^ 15 - 2 * bitsOf v 2 1 + 2 * bitsOf t.ctl 2 1 else v % 2 ^ 15
  if !bitOf v 0 then { t with ctl := v }
  else if !traceFits s p then { t with ctl := v - 1, refused := true }
  else { t with
    ctl := v
    refused := false
    stopped := false
    triggered := false
    trigSeq := if was then t.trigSeq else 0
    postLeft := 0
    seq := if was then t.seq else 0 }

/-- DBG_TRACE_CTL_WRITE (R608, R619). DEDUCED: notes/assumptions/79.md. -/
def execDbgTraceCtlWrite (r : Requester) (v : Nat) (s : State) : Out :=
  match hostPart r 0x00160000 s with
  | (some p, s) => .next (updPart s p (fun q => { q with trace := writeTraceCtl s p v }))
  | (none, s) => .next s

/-- TRACE_RECORD_DRAIN (R609, R610): the buffered records go to the ring in SEQ order. -/
def execTraceRecordDrain (p : PartId) (s : State) : Out :=
  if hasCredit s p 0 || (getPart s p).trace.buf.isEmpty then .next (settleMerge p 0 0 (traceDrain p (hbmGo p 8 s))) else .next (hbmHold p 8 s)

/-- DBG_TRACE_RD_WRITE (R616). DEDUCED: notes/assumptions/79.md. -/
def execDbgTraceRdWrite (r : Requester) (v : Nat) (s : State) : Out :=
  match hostPart r 0x0016001C s with
  | (some p, s) => .next (updPart s p (fun q => { q with trace := { q.trace with rd := v % 2 ^ 32 } }))
  | (none, s) => .next s

/-- DBG_MARK (R612, R621). -/
def execDbgMark (r : Requester) (v : Nat) (s : State) : Out :=
  match hostPart r 0x00160030 s with
  | (some p, s) =>
    let j := (getPart s p).job
    .next (traceGen p { kind := .mark, tag := v % 2 ^ 32, jobId := if j.open_ then j.id else 0 } s)
  | (none, s) => .next s

-- The management processors (R619, R621)

/-- The program counters that a halt or a step shows: what firmware has reached is not the device's to say. DEDUCED: notes/assumptions/80.md. -/
def showPc (mask : Nat) (s : State) : State :=
  let (a, s) := takeFree s
  let (b, s) := takeFree s
  { s with mp := { s.mp with
    pc0 := if bitOf mask 0 then a % 2 ^ 32 else s.mp.pc0
    pc1 := if bitOf mask 1 then b % 2 ^ 32 else s.mp.pc1 } }

/-- A write of DBG_MP_CTL (R619, R621): HALT in bits 1:0 and STEP in bits 3:2, of MP0 in the lower bit of each. A processor that
is not halted shows no program counter. DEDUCED: notes/assumptions/80.md. -/
def writeMpCtl (r : Requester) (v : Nat) (s : State) : State :=
  if !mpDebugOpen r s then s
  else
    let moved (i : Nat) : Bool := bitOf v i && (!bitOf s.mp.halt i || bitOf v (2 + i))
    showPc (packBits [(b2n (moved 0), 0), (b2n (moved 1), 1)]) { s with mp := {
      halt := v % 4
      step := bitsOf v 3 2
      pc0 := if bitOf v 0 then s.mp.pc0 else 0
      pc1 := if bitOf v 1 then s.mp.pc1 else 0 } }

/-- MP_HALT (R621): the HALT bits of the write. -/
def execMpHalt (r : Requester) (v : Nat) (s : State) : Out := .next (writeMpCtl r v s)

/-- MP_STEP (R621): the STEP bits of the write, which act on a processor that the same write leaves halted. -/
def execMpStep (r : Requester) (v : Nat) (s : State) : Out := .next (writeMpCtl r v s)

end Sys2Proof.Machine
end

