-- ==== Sys2Proof/Machine/Manage.lean ====
section
/-!
DEFINITION. Machine/Manage.lean: SMBus, MCTP and the vendor messages, policy messages, PLDM monitoring and the PLDM firmware
update (spec/23 R572 to R587). The numbers of MCTP control and PLDM messages are those of DSP0236, DSP0240, DSP0248 and
DSP0267 (PRESUMED, notes/assumptions/83.md).
-/
namespace Sys2Proof.Machine
open Sys2Proof

-- The policy event queue (R572, R587)

/-- MGT_EVENT_HEAD_WRITE (R587): ignored where it would pass the tail. -/
def execMgtEventHeadWrite (r : Requester) (v : Nat) (s : State) : Out :=
  let m := s.mgt
  let moved := (2 ^ 32 + v % 2 ^ 32 - m.head % 2 ^ 32) % 2 ^ 32
  if !mgtOpen r s || decide (m.head + moved > m.tail) then .next s
  else .next { s with mgt := { m with head := m.head + moved, mp0Irq := m.mp0Irq && decide (m.head + moved < m.tail) } }

-- MCTP (R575, R577)

/-- Does a binding carry MCTP: SMBus while the services run, a host port while its link is up (R577)? -/
def mctpOpen (bd : MctpBinding) (s : State) : Bool :=
  clocked s && match bd with
  | .smbus => true
  | .pcie k => (getPort s k).gen != 0

/-- Send an MCTP message; on SMBus it is kept for the retries of R575. DEDUCED: notes/assumptions/78.md; PRESUMED: notes/assumptions/83.md. -/
def sendMctp (bd : MctpBinding) (type : Nat) (b : Bytes) (s : State) : State :=
  let s := emit (.mctp bd type b) s
  if bd == .smbus then { s with mgt := { s.mgt with smbLast := some (type, b), smbTries := 0, smbAt := upNs s } } else s

/-- A response to a vendor message (R578). DEDUCED: notes/assumptions/74.md. -/
def vendorReply (bd : MctpBinding) (cmd status : Nat) (b : Bytes) (s : State) : State :=
  sendMctp bd 0x7E ([0x1F, 0x4E] ++ toLe 1 cmd ++ [1, 0, 0] ++ toLe 1 status ++ b) s

/-- Serve a message where MCTP is up. DEDUCED: notes/assumptions/75.md; PRESUMED: notes/assumptions/83.md. -/
def serveMctp (bd : MctpBinding) (f : State → State) (s : State) : Out := if mctpOpen bd s then .next (f s) else .next s

/-- SET_ENDPOINT_ID (R577): operations 0 and 1 set the EID on every binding. DEDUCED: notes/assumptions/75.md. -/
def execSetEndpointId (bd : MctpBinding) (op eid : Nat) (s : State) : Out :=
  serveMctp bd (fun s =>
    if op ≤ 1 ∧ (eid = 0 ∨ eid ≥ 0xFF) then sendMctp bd 0 [1, 2] s
    else
      let s := if op ≤ 1 then { s with mgt := { s.mgt with eid := eid } } else s
      sendMctp bd 0 ([1, 0, 0] ++ toLe 1 s.mgt.eid) s) s

/-- SMBUS_TIMEOUT (R575). DEDUCED: notes/assumptions/78.md. -/
def execSmbusTimeout (s : State) : Out :=
  if s.boot.state == .coldReset then .next s
  else .next (emit .smbusRelease (if clocked s then cntDev 0x01050028 1 s else s))

/-- SMBUS_ARBITRATION_RETRY (R575): the packet goes again, up to 5 times, then it is discarded. DEDUCED: notes/assumptions/78.md. -/
def execSmbusArbitrationRetry (s : State) : Out :=
  match s.mgt.smbLast with
  | none => .next s
  | some (t, b) =>
    if upNs s < s.mgt.smbAt + 1000000 then .next s
    else if s.mgt.smbTries ≥ 5 then .next { s with mgt := { s.mgt with smbLast := none, smbTries := 0 } }
    else .next (emit (.mctp .smbus t b) { s with mgt := { s.mgt with smbTries := s.mgt.smbTries + 1, smbAt := upNs s } })

/-- TRIP_LATCH_READ (R576): the Block Read 0xF0 that TRIPPED answers. -/
def execTripLatchRead (s : State) : Out :=
  if s.boot.state != .tripped then .next s
  else
    let t := s.boot.trip
    .next (emit (.smbus ([0x0D] ++ toLe 1 t.sensor ++ toLe 2 t.value.toNat ++ toLe 4 (t.nsSince / 1000000))) s)

-- Vendor messages (R578, R579)

/-- Is a word one that READ32 reads (R578)? DEDUCED: notes/assumptions/74.md. -/
def read32Ok (a : Nat) : Bool :=
  a % 4 == 0 && ((decide (a < 0x20000)) || [0x06, 0x08, 0x12, 0x13, 0x14, 0x15].contains (a / 2 ^ 16) ||
    (decide (0x01010000 ≤ a) && decide (a < 0x01010030)) || (decide (0x01010060 ≤ a) && decide (a < 0x010100C0)))

/-- READ32 (R578): words of the readable blocks; ERR shows the management ring. DEDUCED: notes/assumptions/74.md. -/
def execRead32 (bd : MctpBinding) (addr count : Nat) (s : State) : Out :=
  serveMctp bd (fun s =>
    if count = 0 ∨ count > 16 then vendorReply bd 1 4 [] s
    else
      let words := (List.range count).map (fun i => addr + 4 * i)
      if !words.all read32Ok then vendorReply bd 1 2 [] s
      else
        let t := { s with errSelect := 4 }
        vendorReply bd 1 0 ((words.map (fun a => toLe 4 (liveWord t (viewOf t .mgt) {} a))).flatten) s) s

/-- SEC_CMD_STATUS (R553). -/
def secCmdStatus (s : State) : Nat := packBits [(b2n s.sec.cmdBusy, 0), (s.sec.cmdStatus, 4), (s.sec.cmdOpcode, 16)]

/-- SEC_RELAY (R578): the buffer and GO; the device's checks decide the command. -/
def execSecRelay (bd : MctpBinding) (buf : Bytes) (s : State) : Out :=
  serveMctp bd (fun s =>
    if s.boot.state != .ready && s.boot.state != .safe then vendorReply bd 2 5 [] s
    else if buf.length > 1024 then vendorReply bd 2 4 [] s
    else
      let s := { s with sec := { s.sec with cmdBuf := memWriteN s.sec.cmdBuf 0 buf } }
      let (t, warm) := if secServed s then secTry s else (s, false)
      let t := vendorReply bd 2 0 (toLe 4 (secCmdStatus t)) t
      if warm then warmPlain t else t) s

/-- LOG_READ (R550, R578): bytes of one 4 KiB sector of the security event log. DEDUCED: notes/assumptions/74.md. -/
def execLogRead (bd : MctpBinding) (sector off len : Nat) (s : State) : Out :=
  serveMctp bd (fun s =>
    if len > 1024 ∨ off + len > 4096 then vendorReply bd 3 4 [] s
    else if sector > 1023 then vendorReply bd 3 2 [] s
    else vendorReply bd 3 0 (logWindow s sector off len) s) s

/-- POLICY_MESSAGE (R578, R579). DEDUCED: notes/assumptions/74.md. -/
def execPolicyMessage (bd : MctpBinding) (cmd : Nat) (body : Bytes) (s : State) : Out :=
  serveMctp bd (fun s =>
    if cmd < 0x10 ∨ cmd > 0x1F then vendorReply bd cmd 1 [] s
    else if s.boot.state != .ready || s.mgt.fwState != 1 then vendorReply bd cmd 5 [] s
    else if body.length > 1024 then vendorReply bd cmd 4 [] s
    else if s.mgt.msgPending.isSome then vendorReply bd cmd 3 [] s
    else mgtEvent 0x0011 0xFF body.length { s with mgt := { s.mgt with
      msgIn := memWriteN s.mgt.msgIn 0 body
      msgPending := some (cmd, bd)
      msgAt := upNs s } }) s

/-- MGT_MSG_CTL_SEND (R579): the answer of policy firmware; an answer with no message pending is discarded. DEDUCED: notes/assumptions/74.md. -/
def execMgtMsgCtlSend (r : Requester) (v : Nat) (s : State) : Out :=
  let n := bitsOf v 10 0
  if !mgtOpen r s || !bitOf v 31 || decide (n > 1024) then .next s
  else match s.mgt.msgPending with
  | none => .next s
  | some (cmd, bd) =>
    .next (vendorReply bd cmd 0 (memReadN s.mgt.msgOut 0 n) { s with mgt := { s.mgt with msgPending := none } })

/-- POLICY_MESSAGE_TIMEOUT (R579): 100 ms without an answer. -/
def execPolicyMessageTimeout (s : State) : Out :=
  match s.mgt.msgPending with
  | none => .next s
  | some (cmd, bd) =>
    if upNs s < s.mgt.msgAt + 100000000 then .next s
    else .next (vendorReply bd cmd 5 [] { s with mgt := { s.mgt with msgPending := none } })

-- PLDM monitoring (R580, R581)

/-- The sensors of the PDR repository. -/
def sensorIds : List Nat :=
  [0x0001] ++ (List.range 18).map (0x0010 + ·) ++ (List.range 6).map (0x0030 + ·) ++
  [0x0040, 0x0041, 0x0042, 0x0050, 0x0051, 0x0052, 0x0053, 0x0054, 0x0055]

/-- Does a sensor read now: before CLOCK_ALIGN and in SAFE some of them only? -/
def sensorUp (s : State) (id : Nat) : Bool :=
  if id ≤ 0x0021 ∨ id = 0x0051 ∨ id = 0x0052 ∨ id = 0x0055 then true
  else match s.boot.state with
  | .coldReset | .rom | .verify | .selftest | .fwLoad | .bistRead | .safe | .warmReset | .tripped => false
  | _ => true

/-- The reading of a sensor: its register's field, temperatures in 0.125 degrees C.
DEDUCED: notes/assumptions/76.md; PRESUMED: notes/assumptions/83.md. -/
def sensorReading (s : State) (id : Nat) : Int :=
  let w := s.power
  if id = 0x0001 then w.tj
  else if 0x0010 ≤ id ∧ id ≤ 0x0021 then w.sensors.toList.getD (id - 0x10) 0
  else if 0x0030 ≤ id ∧ id ≤ 0x0035 then w.hbm.toList.getD (id - 0x30) 0
  else match id with
  | 0x0040 => w.avg10
  | 0x0041 => w.avg100
  | 0x0042 => w.railMv
  | 0x0050 => s.boot.pstate
  | 0x0051 => bootCode s.boot.state
  | 0x0052 => lcCode s
  | 0x0053 => (allClusters.filter (clusterUp s)).length
  | 0x0054 => sbCode s.pair.state
  | _ => s.boot.safeCause

/-- Levels 1 normal, 2 warning, 3 critical, 4 fatal of a reading against its thresholds. DEDUCED: notes/assumptions/76.md. -/
def levelOf (x : Int) (warn crit fatal : Option Int) : Nat :=
  let above := fun (t : Option Int) => match t with | some y => decide (x ≥ y) | none => false
  if above fatal then 4 else if above crit then 3 else if above warn then 2 else 1

/-- What a sensor's events report: the level of a numeric sensor, the value of a state sensor, one level for the count.
DEDUCED: notes/assumptions/76.md. -/
def sensorLevel (s : State) (id : Nat) : Nat :=
  let x := sensorReading s id
  let die := levelOf x (some (8 * (s.cfg.clock.throttleTjC : Int))) (some 880) (some 920)
  if id ≤ 0x0021 then die
  else if 0x0030 ≤ id ∧ id ≤ 0x0035 then levelOf x (some 760) (some 840) none
  else match id with
  | 0x0040 => levelOf x (some s.power.limitW) (some 900) none
  | 0x0041 => levelOf x (some s.cfg.clock.boardPowerW) none none
  | 0x0042 =>
    let t := vddTarget s.power.target
    let off : Int := ((x - t).natAbs * 100 : Nat)
    if off > 5 * t then 3 else if off > 3 * t then 2 else 1
  | 0x0053 => 1
  | _ => x.toNat

/-- SET_EVENT_RECEIVER (R581): events report what changes from now on. DEDUCED: notes/assumptions/76.md. -/
def execSetEventReceiver (bd : MctpBinding) (enable : Nat) (s : State) : Out :=
  serveMctp bd (fun s => sendMctp bd 1 [2, 4, 0] { s with mgt := { s.mgt with
    eventReceiver := if enable = 0 then none else some bd
    sensorLast := sensorIds.foldl (fun t id => tabSet 0 id (sensorLevel s id) t) [] } }) s

/-- GET_SENSOR_READING (R580). DEDUCED: notes/assumptions/76.md. -/
def execGetSensorReading (bd : MctpBinding) (sensor : Nat) (s : State) : Out :=
  serveMctp bd (fun s =>
    if !sensorIds.contains sensor then sendMctp bd 1 [2, 0x11, 0x80] s
    else if !sensorUp s sensor then sendMctp bd 1 [2, 0x11, 0, 2] s
    else sendMctp bd 1 ([2, 0x11, 0, 0] ++ toLe 1 (sensorLevel s sensor) ++ toLe 4 (sensorReading s sensor % 2 ^ 32).toNat) s) s

/-- SENSOR_EVENT_TIMER (R581): what has changed since the sensor's last event is reported in one event. DEDUCED: notes/assumptions/76.md. -/
def execSensorEventTimer (sensor : Nat) (s : State) : Out :=
  match s.mgt.eventReceiver with
  | none => .next s
  | some bd =>
    let now := sensorLevel s sensor
    let was := tabGet 0 s.mgt.sensorLast sensor
    if !mctpOpen bd s || !sensorIds.contains sensor || !sensorUp s sensor || now == was ||
        (tabGet 0 s.mgt.sensorAt sensor != 0 && decide (upNs s + 1 < tabGet 0 s.mgt.sensorAt sensor + 1000000000)) then .next s
    else .next (sendMctp bd 1
      ([2, 0x0A] ++ toLe 2 sensor ++ toLe 1 was ++ toLe 1 now ++ toLe 4 (sensorReading s sensor % 2 ^ 32).toNat)
      { s with mgt := { s.mgt with
        sensorLast := tabSet 0 sensor now s.mgt.sensorLast
        sensorAt := tabSet 0 sensor (upNs s + 1) s.mgt.sensorAt } })

-- The PLDM firmware update (R582 to R584, R95)

def updUpdate (f : PldmUpdate → PldmUpdate) (s : State) : State := { s with mgt := { s.mgt with update := f s.mgt.update } }

/-- A firmware-update response: command, completion code, data. PRESUMED: notes/assumptions/83.md. -/
def pldmReply (bd : MctpBinding) (cmd code : Nat) (b : Bytes) (s : State) : State :=
  sendMctp bd 1 ([5] ++ toLe 1 cmd ++ toLe 1 code ++ b) s

/-- Ask the update agent for `n` bytes at an offset: RequestFirmwareData. DEDUCED: notes/assumptions/77.md. -/
def requestData (off n : Nat) (s : State) : State :=
  sendMctp s.mgt.update.agent 1 ([5, 0x15] ++ toLe 4 off ++ toLe 4 n) s

/-- The next request of a transfer: 4,096 bytes, at the end what is left. DEDUCED: notes/assumptions/77.md. -/
def requestNext (s : State) : State :=
  let u := s.mgt.update
  requestData u.nextOffset (min 4096 (u.length - u.nextOffset)) s

/-- The bank that an update writes: the inactive bank, settled when the erase starts (R95). DESIGN CHOICE: notes/assumptions/77.md. -/
def updateBank (s : State) : Bool :=
  match s.mgt.update.phase with
  | .idle | .requested | .tablePassed => inactiveBank s
  | _ => s.mgt.update.bankB

/-- Is a bank in use (R95, R96)? In SAFE none is. -/
def bankInUse (s : State) (b : Bool) : Bool := s.boot.state != .safe && s.img.chosen == some b

/-- End an update with the header sector erased (R95, R582), unless the bank has come into use since (R96).
DEDUCED: notes/assumptions/77.md. -/
def stopUpdate (s : State) : State :=
  let bank := updateBank s
  updUpdate (fun _ => {}) (if bankInUse s bank then s else { s with flash := eraseHeader bank s.flash })

/-- Does a commit hold an IMAGE item in STAGING to ARMED (R582)? -/
def commitHoldsImage (s : State) : Bool :=
  match s.commit.state with
  | .idle | .fenced => false
  | .staging => match scanStage s.commit.stageBuf 2048 0 [] with
    | some l => l.any (fun x => x.1 == 0x0102)
    | none => false
  | _ => s.commit.items.any (fun i => match i with | .image _ _ _ => true | _ => false)

/-- REQUEST_UPDATE (R582): the device requests the first 512 bytes first; the bank is settled at the erase.
DEDUCED: notes/assumptions/77.md. -/
def execRequestUpdate (bd : MctpBinding) (_maxSize _count : Nat) (s : State) : Out :=
  serveMctp bd (fun s =>
    let lc := lifeCycle s
    if lc == .blank || lc == .decommissioned || s.boot.state == .error || commitHoldsImage s then pldmReply bd 0x10 0x84 [] s
    else if s.mgt.update.phase != .idle then pldmReply bd 0x10 0x81 [] s
    else requestData 0 512 (pldmReply bd 0x10 0 []
      (updUpdate (fun _ => { phase := .requested, bankB := inactiveBank s, agent := bd }) s))) s

/-- The header check: 0 may be updated, 2 comparison stamp lower, 6 incompatible. -/
def componentCode (s : State) (cls ident : Nat) (stamp : Option Nat) : Nat :=
  let u := s.mgt.update
  let h := memReadN u.hold 0 512
  if cls ≠ 0x000A ∨ ident ≠ 0x7016 then 6
  else if !u.headerHeld then 0
  else match newHeader s (updateBank s) h with
  | 0 => if stamp.isSome && stamp != some (leAt h 8 4) then 6 else 0
  | 0x6 => 2
  | _ => 6

/-- PASS_COMPONENT_TABLE (R582). -/
def execPassComponentTable (bd : MctpBinding) (cls ident stamp : Nat) (s : State) : Out :=
  serveMctp bd (fun s =>
    if s.mgt.update.phase != .requested then pldmReply bd 0x13 0x88 [] s
    else match componentCode s cls ident (some (stamp % 2 ^ 32)) with
    | 0 => pldmReply bd 0x13 0 [0] (updUpdate (fun u => { u with phase := .tablePassed }) s)
    | n => pldmReply bd 0x13 0 (toLe 1 n) (stopUpdate s)) s

/-- UpdateComponent once the header is held: its check, and the start of the erase with the header sector (R95). DEDUCED: notes/assumptions/77.md. -/
def startErase (bd : MctpBinding) (cls ident : Nat) (s : State) : State :=
  match componentCode s cls ident none with
  | 0 =>
    let bank := inactiveBank s
    pldmReply bd 0x14 0 ([0] ++ toLe 2 231)
      (updUpdate (fun u => { u with phase := .erasing, bankB := bank, waiting := false, length := leAt (memReadN u.hold 0x10 4) 0 4 })
        { s with flash := eraseHeader bank s.flash })
  | n => pldmReply bd 0x14 0 (toLe 1 n) (stopUpdate s)

/-- UPDATE_COMPONENT (R582): where the header has not arrived yet, the command waits for it. DEDUCED: notes/assumptions/77.md. -/
def execUpdateComponent (bd : MctpBinding) (cls ident _size : Nat) (s : State) : Out :=
  serveMctp bd (fun s =>
    if s.mgt.update.phase != .tablePassed then pldmReply bd 0x14 0x88 [] s
    else if cls ≠ 0x000A ∨ ident ≠ 0x7016 then startErase bd cls ident s
    else if s.mgt.update.headerHeld then startErase bd cls ident s
    else updUpdate (fun u => { u with waiting := true }) s) s

/-- BANK_ERASE_DONE (R95, R582): the whole bank is erased and the transfer starts. DEDUCED: notes/assumptions/77.md. -/
def execBankEraseDone (s : State) : Out :=
  let u := s.mgt.update
  if u.phase != .erasing then .next s
  else if bankInUse s u.bankB then .next (stopUpdate s)
  else .next (requestNext (updUpdate (fun u => { u with phase := .transferring, nextOffset := 0, hold := [] })
    { s with flash := tabClear (bankBase u.bankB) (bankBase u.bankB + bankSize) s.flash }))

/-- FIRMWARE_DATA_RECEIVE (R582): the header for the check; then offsets in order, the first 4,096 bytes held, the rest
programmed. Data that was not asked for is discarded. -/
def execFirmwareDataReceive (bd : MctpBinding) (off : Nat) (data : Bytes) (s : State) : Out :=
  serveMctp bd (fun s =>
    let u := s.mgt.update
    match u.phase with
    | .requested | .tablePassed =>
      if bd != u.agent || u.headerHeld || off != 0 || data.length != 512 then s
      else
        let s := updUpdate (fun u => { u with hold := memWriteN [] 0 data, headerHeld := true }) s
        if u.waiting then startErase u.agent 0x000A 0x7016 s else s
    | .transferring =>
      if bd != u.agent || off != u.nextOffset || decide (off ≥ u.length) || data.length != min 4096 (u.length - off) then s
      else
        let s := if off = 0 then updUpdate (fun u => { u with hold := memWriteN [] 0 data }) s
          else { s with flash := flashWriteN s.flash (bankBase u.bankB + off) data }
        let s := updUpdate (fun u => { u with nextOffset := off + data.length }) s
        if off + data.length < u.length then requestNext s else s
    | _ => s) s

/-- FIRMWARE_DATA_RETRY (R582): an unanswered request is repeated from the same offset. -/
def execFirmwareDataRetry (s : State) : Out :=
  let u := s.mgt.update
  match u.phase with
  | .requested | .tablePassed => if u.headerHeld then .next s else .next (requestData 0 512 s)
  | .transferring => if u.nextOffset < u.length then .next (requestNext s) else .next s
  | _ => .next s

/-- TRANSFER_COMPLETE (R582): the last data has been programmed; the read-back and verification start. -/
def execTransferComplete (s : State) : Out :=
  let u := s.mgt.update
  if u.phase != .transferring || decide (u.nextOffset < u.length) then .next s
  else .next (sendMctp u.agent 1 [5, 0x16, 0] (updUpdate (fun u => { u with phase := .verifying }) s))

/-- The image as it will stand: the bank with the held first 4,096 bytes. -/
def heldImage (s : State) : Memory := flashWriteN s.flash (bankBase s.mgt.update.bankB) (memReadN s.mgt.update.hold 0 4096)

/-- VERIFY_COMPLETE (R95 steps 1 and 4, R582): the whole image is verified; where it passes, the header sector is written.
DEDUCED: notes/assumptions/77.md. -/
def execVerifyComplete (s : State) : Out :=
  let u := s.mgt.update
  if u.phase != .verifying then .next s
  else
    let good := newHeader s u.bankB (memReadN u.hold 0 512) == 0 &&
      (match verifyImage s (heldImage s) u.bankB with | .ok _ => true | .error _ => false)
    if good then
      .next (sendMctp u.agent 1 [5, 0x17, 0] (updUpdate (fun u => { u with phase := .applying }) { s with flash := heldImage s }))
    else .next (sendMctp u.agent 1 [5, 0x17, 1] (stopUpdate s))

/-- APPLY_COMPLETE (R582, R547): the image stands written. DEDUCED: notes/assumptions/77.md. -/
def execApplyComplete (s : State) : Out :=
  let u := s.mgt.update
  if u.phase != .applying then .next s
  else
    let s := secLog 0x0040 0 0 (toLe 1 (b2n u.bankB) ++ toLe 8 (bankSeq s.flash u.bankB)) s
    .next (sendMctp u.agent 1 [5, 0x18, 0] (updUpdate (fun u => { u with phase := .complete }) s))

/-- CANCEL_UPDATE (R582). DEDUCED: notes/assumptions/77.md. -/
def execCancelUpdate (bd : MctpBinding) (s : State) : Out :=
  serveMctp bd (fun s =>
    if s.mgt.update.phase == .idle then pldmReply bd 0x1D 0x80 [] s else pldmReply bd 0x1D 0 [] (stopUpdate s)) s

/-- ACTIVATE_FIRMWARE (R584). DEDUCED: notes/assumptions/77.md. -/
def execActivateFirmware (bd : MctpBinding) (s : State) : Out :=
  serveMctp bd (fun s =>
    let s := if s.mgt.update.phase == .complete then updUpdate (fun _ => {}) s else s
    if s.boot.state == .ready then pldmReply bd 0x1A 0 [] s
    else if s.boot.state == .safe then
      pldmReply bd 0x1A 0 [] { s with boot := { s.boot with retry := 0 }, mgt := { s.mgt with activationAt := some (upNs s) } }
    else pldmReply bd 0x1A 0x84 [] s) s

/-- ACTIVATION_WARM_RESET (R584): 100 ms after the answer. DEDUCED: notes/assumptions/65.md. -/
def execActivationWarmReset (s : State) : Out :=
  match s.mgt.activationAt with
  | none => .next s
  | some t => if s.boot.state != .safe || decide (upNs s < t + 100000000) then .next s else .next (warmPlain s)

end Sys2Proof.Machine
end

