-- ==== Sys2Proof/Machine/Pairing.lean ====
section
/-!
DEFINITION. Machine/Pairing.lean: the roles of a pair of devices and their messages (spec/19 R478 to R488).
-/
namespace Sys2Proof.Machine
open Sys2Proof

/-- DEVICE_ID of the pair: the same member of the pair group (R30). -/
def pairId (s : State) : DevId := 16 * s.cfg.group.pairGroup + s.cfg.group.member

/-- A pair message received on BL15 by a device in Paired mode: its header and payload, and the state that has heard it.
DEDUCED: notes/assumptions/56.md. -/
def hearPair (msg : Bytes) (kind : Nat) (s : State) : Option (PairHead × Bytes × State) :=
  if s.pair.state == .off || !working (getLink s 15) then none
  else match parsePair msg with
  | some (h, b) =>
    if h.kind = kind then some (h, b, { s with pair := { s.pair with lastRx := dtNow s } }) else none
  | none => none

/-- The pair state of every partition at pairing: empty buffers, COVERED 0, SNAP_EPOCH from 1 (R480, R486). DEDUCED: notes/assumptions/56.md. -/
def clearPair (s : State) : State :=
  let s := { s with pair := { s.pair with ackSt := sysTime s, ackDt := dtNow s } }
  eachOf allParts (fun p s => settleReleased p (updSb p (fun b => { b with
    covered := false, good := none, goodEpoch := 0, newBuf := [], newFilling := false, mirror := [], tds := [], snapEpoch := 0, sentCounts := [] }) s)) s

/-- Full snapshots of every DEFINED partition (R480). -/
def fullSnapshots (s : State) : State := eachOf (definedParts s) (fun p s => sendSnapshot p 2 s) s

/-- Every partition loses cover, and its staged records are issued (R480, R487). -/
def uncoverAll (s : State) : State := eachOf (definedParts s) (fun p s => uncover p s) s

/-- Enter DEPOSED (R482). DEDUCED: notes/assumptions/55.md. -/
def depose (cause : Nat) (s : State) : State :=
  let s := cntDev 0x00010108 1 (setSb .deposed { s with pair := { s.pair with lastCause := cause } })
  let s := eachOf allParts (fun p s => updSb p (fun b => { b with staged := [] }) s) s
  let s := sendPair { kind := 5 } [] s
  eachOf (definedParts s) (fun p s => resetPartition p .partition 0x0B02 s) s

-- HELLO (R479, R480)

/-- PAIR_HELLO_SEND. -/
def execPairHelloSend (s : State) : Out :=
  if s.cfg.group.pairMode ≠ 2 || !working (getLink s 15) then .next s else .next (pairHello s)

/-- PAIR_HELLO_RECEIVE. DEDUCED: notes/assumptions/56.md. -/
def execPairHelloReceive (msg : Bytes) (s : State) : Out :=
  match hearPair msg 1 s with
  | none => .next s
  | some (h, _, s) =>
    let same := h.digest == pairDigest s
    let s := if same then { s with pair := { s.pair with pairUp := true } } else s
    match s.pair.state with
    | .waiting =>
      if !same then .next (recordAll { code := 0x0902, cls := .corrected, source := 0xF, sub := 2 } s)
      else if h.role = 2 then .next (setSb .standby (clearPair s))
      else if h.role = 1 then
        if ownId s < pairId s then .next (fullSnapshots (setSb .active (clearPair s)))
        else .next (setSb .standby (clearPair s))
      else .next s
    | .active =>
      if h.role = 2 then .next (if ownId s > pairId s then depose 6 s else s)
      else if h.role = 1 ∧ same then
        .next (fullSnapshots (eachOf allParts (fun p s => updSb p (fun b => { b with snapEpoch := 0, sentCounts := [] }) s) (uncoverAll s)))
      else .next s
    | _ => .next s

-- The standby's mirror and snapshots (R485, R487)

/-- Does the device keep the mirror of an active device? -/
def mirrors (s : State) : Bool := s.pair.state == .standby || s.pair.state == .takeover

/-- The partition that a message names, when it is DEFINED. -/
def msgPart (s : State) (h : PairHead) : Option PartId := (definedParts s).find? (fun p => p.val == h.part)

/-- MIRROR_RECEIVE: at most 4,096 entries of a stream are held. -/
def execMirrorReceive (msg : Bytes) (s : State) : Out :=
  match hearPair msg 2 s with
  | none => .next s
  | some (h, b, s) =>
    match msgPart s h with
    | none => .next s
    | some p =>
      let st := h.index / 2 ^ 29
      if !mirrors s || st ≥ 7 || b.length ≠ 64 then .next s
      else if ((getPart s p).sb.mirror.filter (fun e => e.1 == st)).length ≥ 4096 then .next (updSb p (fun x => { x with covered := false }) s)
      else .next (updSb p (fun x => { x with mirror := x.mirror ++ [(st, h.index % 2 ^ 29, b)] }) s)

/-- Answer a snapshot: flags 0 good, 2 TORN, 4 MISMATCH. -/
def ackSnapshot (p : PartId) (epoch flags : Nat) (s : State) : State := sendPair { kind := 4, part := p.val, flags := flags, epoch := epoch } [] s

/-- The new buffer is discarded, and the active device is told. -/
def refuseSnapshot (p : PartId) (s : State) : State :=
  let e := (getPart s p).sb.newEpoch
  ackSnapshot p e 2 (tornSnapshot p s)

/-- Does the COMMIT section of a snapshot hold: its length and its CRC-64? DEDUCED: notes/assumptions/38.md; DEDUCED: notes/assumptions/56.md. -/
def snapSound (b : Bytes) : Bool :=
  decide (b.length ≥ 64) && leAt b (b.length - 64) 8 == b.length && leAt b (b.length - 56) 8 == crc64 (b.take (b.length - 56))

/-- Is every model of a snapshot resident in the same slot with equal digests? DEDUCED: notes/assumptions/56.md. -/
def snapModelsHere (s : State) (p : PartId) (b : Bytes) : Bool :=
  (snapModelList b).all (fun m => (getPart s p).models.any (fun x => x.slot == m.1 && bytesAt x.programDigest 0 32 == m.2.1 && bytesAt x.weightsDigest 0 32 == m.2.2))

/-- Judge a whole snapshot (R487). DEDUCED: notes/assumptions/56.md. -/
def judgeSnapshot (p : PartId) (s : State) : State :=
  let sb := (getPart s p).sb
  let b := sb.newBuf
  let full := leAt b 0 1 = 2
  if !snapSound b || !(full || (sb.good.isSome && sb.newEpoch == wrapAdd 32 sb.goodEpoch 1)) then refuseSnapshot p s
  else if !snapModelsHere s p b then
    ackSnapshot p sb.newEpoch 4 (updSb p (fun x => { x with good := none, covered := false, newBuf := [], newFilling := false }) s)
  else
    ackSnapshot p sb.newEpoch 0 (updSb p (fun x => { x with
      good := some b
      goodEpoch := x.newEpoch
      covered := true
      newBuf := []
      newFilling := false
      tds := (snapTds b).foldl (fun t e => tabSet (List.replicate 32 0) e.1 e.2 t) (if full then [] else x.tds)
      mirror := x.mirror.filter (fun e => match allStreams.find? (fun st => st.val == e.1) with
        | some st => atOrAbove e.2.1 (snapEntered b st)
        | none => false) }) s)

/-- SNAP_RECEIVE: pieces fill the new buffer in offset order. -/
def execSnapReceive (msg : Bytes) (s : State) : Out :=
  match hearPair msg 3 s with
  | none => .next s
  | some (h, b, s) =>
    match msgPart s h with
    | none => .next s
    | some p =>
      if !mirrors s then .next s
      else
        let s := if (getPart s p).sb.newFilling && h.epoch != (getPart s p).sb.newEpoch then refuseSnapshot p s else s
        let s := if h.index = 0 then updSb p (fun x => { x with newBuf := [], newEpoch := h.epoch, newFilling := true }) s else s
        let sb := (getPart s p).sb
        if !sb.newFilling then
          -- the first piece of this snapshot never came: it is answered all the same, once (R481)
          if h.epoch = sb.newEpoch then .next s
          else .next (refuseSnapshot p (updSb p (fun x => { x with newEpoch := h.epoch }) s))
        else if h.index ≠ sb.newBuf.length then .next (refuseSnapshot p s)
        else
          let s := updSb p (fun x => { x with newBuf := x.newBuf ++ b }) s
          .next (if bitOf h.flags 0 then judgeSnapshot p s else s)

-- The active device (R481, R486, R488)

/-- HEARTBEAT_SNAPSHOT (R109, R486): SNAPSHOT_US without a snapshot. -/
def execHeartbeatSnapshot (p : PartId) (s : State) : Out :=
  if (partCfg s p).defined && decide (dtNow s ≥ (getPart s p).sb.snapDt + s.cfg.tmo.snapshotUs * 1000) then .next (sendSnapshot p 1 s) else .next s

/-- PAIR_ACK_RECEIVE. -/
def execPairAckReceive (msg : Bytes) (s : State) : Out :=
  match hearPair msg 4 s with
  | none => .next s
  | some (h, _, s) =>
    let s := { s with pair := { s.pair with ackSt := max s.pair.ackSt h.st, ackDt := dtNow s } }
    match msgPart s h with
    | none => .next s
    | some p =>
      if s.pair.state != .active then .next s
      else
        if bitOf h.flags 1 then .next (sendSnapshot p 2 s)
        else if bitOf h.flags 2 then .next (uncover p s)
        else
          let upTo (e : Nat) : Bool := decide ((2 ^ 32 + h.epoch - e) % 2 ^ 32 < 2 ^ 31)
          let n := ((getPart s p).sb.sentCounts.find? (fun e => e.1 == h.epoch)).map (·.2)
          let s := updSb p (fun b => { b with
            covered := true
            goodEpoch := h.epoch
            released := n.getD b.released
            sentCounts := b.sentCounts.filter (fun e => !upTo e.1) }) s
          .next (issueWhile p (fun x => x.epoch != 0 && upTo x.epoch) s)

/-- Does the pair read SYS_SYNC 1? No pair message shows it: a free value. DEDUCED: notes/assumptions/98.md. -/
def pairSync (s : State) : Bool := Config.freeValue s.free % 2 == 1

/-- Does ack silence hold (R109, R481): by the ST stamp of the newest ACK, or by its receipt while either device reads SYS_SYNC 0?
DEDUCED: notes/assumptions/98.md. -/
def ackSilent (s : State) : Bool :=
  let n := 2 * s.cfg.tmo.snapshotUs * 1000
  if s.time.sysSync && pairSync s then decide (sysTime s > s.pair.ackSt + n) else decide (dtNow s > s.pair.ackDt + n)

/-- ACK_SILENCE (R481). -/
def execAckSilence (s : State) : Out :=
  if s.pair.state != .active then .next s
  else if !ackSilent s then .next { s with free := s.free + 1 }
  else
    let s := { s with free := s.free + 1 }
    let s := { s with pair := { s.pair with pairUp := false } }
    if s.cfg.group.size ≥ 2 ∧ bondMap s = 0 then .next (depose 4 s) else .next (uncoverAll s)

-- Takeover (R483)

/-- The two lowest members of the active device's group other than itself. -/
def witnesses (s : State) : List DevId :=
  (((List.range s.cfg.group.size).map (fun m => 16 * s.cfg.group.pairGroup + m)).filter (· ≠ pairId s)).take 2

/-- Send a pair message over the Tether: on stream 0 of a context of the lowest partition to the device on a plane (R368, R479); without
a free context it is not sent. DESIGN CHOICE: notes/assumptions/101.md. -/
def sendOverTether (pl : PlaneId) (d : DevId) (h : PairHead) (s : State) : State :=
  let b := ownPair h [] s
  match sendTether pl { dst := d, part := (definedParts s).headD 0, flags := 24, bytes := b, since := dtNow s } s with
  | some s => emit (.pairTether pl d b) s
  | none => s

/-- DEPOSED_RECEIVE. -/
def execDeposedReceive (msg : Bytes) (s : State) : Out :=
  match hearPair msg 5 s with
  | none => .next s
  | some (_, _, s) => if mirrors s then .next (failover 2 s) else .next s

/-- STANDBY_SILENCE (R109, R480): 3 × SNAPSHOT_US without a pair message. -/
def execStandbySilence (s : State) : Out :=
  if s.pair.state != .standby || decide (dtNow s < s.pair.lastRx + 3 * s.cfg.tmo.snapshotUs * 1000) then .next s
  else
    let s := setSb .takeover { s with pair := { s.pair with probedDt := dtNow s, probeAck := false, witness := false, noWitness := false, pairUp := false } }
    let s := eachOf ((commonPlanes s (pairId s)).filter (fun pl => (getPlane s pl).state == .up)) (fun pl s => sendOverTether pl (pairId s) { kind := 6 } s) s
    .next (eachOf (witnesses s) (fun d s => match flowPlane s d 0 with
      | some pl => sendOverTether pl d { kind := 8, index := pairId s } s
      | none => s) s)

/-- A pair message received over the Tether. DESIGN CHOICE: notes/assumptions/57.md. -/
def tetherPair (msg : Bytes) (kind : Nat) : Option PairHead := (parsePair msg).bind (fun x => if x.1.kind = kind then some x.1 else none)

/-- PAIR_PROBE_RECEIVE (R482, R483). DESIGN CHOICE: notes/assumptions/57.md. -/
def execPairProbeReceive (pl : PlaneId) (msg : Bytes) (s : State) : Out :=
  match tetherPair msg 6 with
  | none => .next s
  | some _ => if s.pair.state == .off then .next s else .next (sendOverTether pl (pairId s) { kind := 7 } s)

/-- The good buffers go, and the device stands by again (R480). DEDUCED: notes/assumptions/56.md. -/
def standDown (s : State) : State :=
  eachOf allParts (fun p s => updSb p (fun b => { b with good := none, covered := false }) s) (setSb .standby s)

/-- PAIR_PROBE_ACK_RECEIVE. DEDUCED: notes/assumptions/56.md. -/
def execPairProbeAckReceive (_pl : PlaneId) (msg : Bytes) (s : State) : Out :=
  match tetherPair msg 7 with
  | none => .next s
  | some h =>
    if !mirrors s then .next s
    else if h.role = 5 then .next (failover 2 s)
    else if s.pair.state != .takeover then .next s
    else if h.role = 2 then .next (standDown s)
    else .next { s with pair := { s.pair with probeAck := true } }

/-- WITNESS_Q_RECEIVE: a bond or a two-hop relay to the named device, and no Tether view. DESIGN CHOICE: notes/assumptions/57.md. -/
def execWitnessQReceive (pl : PlaneId) (src : DevId) (msg : Bytes) (s : State) : Out :=
  match tetherPair msg 8 with
  | none => .next s
  | some h =>
    let d := h.index
    let up := sameGroup s d && (bondUp s (d % 16) || !(relaySet s (d % 16)).isEmpty)
    .next (sendOverTether pl src { kind := 9, index := d, flags := 8 * b2n up } s)

/-- WITNESS_A_RECEIVE. -/
def execWitnessAReceive (_pl : PlaneId) (msg : Bytes) (s : State) : Out :=
  match tetherPair msg 9 with
  | none => .next s
  | some h =>
    if s.pair.state != .takeover || h.index != pairId s then .next s
    else if bitOf h.flags 3 then .next (standDown s)
    else .next { s with pair := { s.pair with witness := true } }

/-- TAKEOVER_DECISION (R109, R483): 1 ms after the probes. -/
def execTakeoverDecision (s : State) : Out :=
  if s.pair.state != .takeover || decide (dtNow s < s.pair.probedDt + 1000000) then .next s
  else if !s.pair.witness then .next (setSb .standby { s with pair := { s.pair with noWitness := true } })
  else if s.pair.probeAck then .next s
  else .next (failover 1 s)

-- DEV_SB_CTL (R494)

/-- A write of DEV_SB_CTL that carries its key and a command. -/
def sbCommand (r : Requester) (v cmd : Nat) (s : State) : Bool := isMgt r s && clocked s && v == 0x5A1E0000 + cmd

/-- SB_ACTIVATE. -/
def execSbActivate (r : Requester) (v : Nat) (s : State) : Out :=
  if !sbCommand r v 1 s then .next s
  else if s.pair.state == .waiting then
    let t := clearPair s
    .next (setSb .active { t with pair := { t.pair with lastCause := 3 } })
  else if mirrors s then .next (failover 3 s)
  else .next s

/-- SB_DEPOSE. -/
def execSbDepose (r : Requester) (v : Nat) (s : State) : Out :=
  if sbCommand r v 2 s && s.pair.state == .active then .next (depose 5 s) else .next s

/-- SB_REJOIN: what the ports held is issued again. DEDUCED: notes/assumptions/55.md. -/
def execSbRejoin (r : Requester) (v : Nat) (s : State) : Out :=
  if sbCommand r v 3 s && s.pair.state == .deposed then .next (eachOf allPorts (fun k s => pump k s) (setSb .waiting s)) else .next s

end Sys2Proof.Machine
end

