-- ==== Sys2Proof/Machine/SeqRun.lean ====
section
/-!
DEFINITION. Machine/SeqRun.lean: the rows of the Expert Sequencer (spec/08 R214 to R217) and the end of an expert pass (spec/01
R20), each with what the ECC finds in the words that it reads (spec/09 R235, spec/18 R460, R463).
-/
namespace Sys2Proof.Machine
open Sys2Proof

/-- Run a micro-operation of the SEQ (R166, R214), with what the ECC finds in the words that it reads; a find that ends the
command leaves nothing to run. DESIGN CHOICE: notes/assumptions/37.md. -/
def seqRun (p : PartId) (op : Nat) (ecc : List EccFind) (body : Bytes → State → State) (s : State) : Out :=
  runCmd p 3 op (fun d s =>
    let s := ecc.foldl (rowFind p (dTag d)) s
    match (getStream s p 3).exec with
    | some _ => body d (seqBusy p s)
    | none => s) s

/-- SEQ.LD (R244, R245). -/
def execSeqLd (p : PartId) (ecc : List EccFind) (s : State) : Out := seqRun p 0x4001 ecc (seqLd p) s
/-- SEQ.ST (R244, R246). -/
def execSeqSt (p : PartId) (ecc : List EccFind) (s : State) : Out := seqRun p 0x4002 ecc (seqSt p) s
/-- SEQ.ZERO (R242), which reads nothing. -/
def execSeqZero (p : PartId) (s : State) : Out := seqRun p 0x4003 [] (seqZero p) s
/-- SEQ.MMA (R240, R241). -/
def execSeqMma (p : PartId) (ecc : List EccFind) (s : State) : Out := seqRun p 0x4004 ecc (seqMma p) s
/-- SEQ.ACT (R242, R243). -/
def execSeqAct (p : PartId) (ecc : List EccFind) (s : State) : Out := seqRun p 0x4005 ecc (seqAct p) s
/-- SEQ.MUL (R242). -/
def execSeqMul (p : PartId) (ecc : List EccFind) (s : State) : Out := seqRun p 0x4006 ecc (seqMul p) s
/-- SEQ.SCALE (R242). -/
def execSeqScale (p : PartId) (ecc : List EccFind) (s : State) : Out := seqRun p 0x4007 ecc (seqScale p) s
/-- SEQ.CVT (R242). -/
def execSeqCvt (p : PartId) (ecc : List EccFind) (s : State) : Out := seqRun p 0x4008 ecc (seqCvt p) s
/-- SEQ.EXPERT (R215): it starts when no pass of the partition runs (R254). -/
def execSeqExpert (p : PartId) (ecc : List EccFind) (s : State) : Out :=
  if (getPart s p).pass.isSome then .next s else seqRun p 0x4010 ecc (seqExpert p (ecc.any isWork)) s

/-- The speculative rows that a find of a pass concerns alone (R299): the row whose item it names, or all the rows of a pass where
every one is speculative. -/
def passConcern (s : State) (p : PartId) (x : Pass) (e : EccFind) : List Nat :=
  let own (t : Nat) : List Nat := if (getPart s p).rows.any (fun r => r.tag == t && r.spec) then [t] else []
  match e with
  | .storedRow t | .backedRow t _ | .hold t => own t
  | .hbm .. | .tile .. | .scratch .. | .spool _ | .reel _ => if passSpec s p x then x.tags else []
  | _ => []

/-- What the ECC finds in a pass: the finds, and the rows whose working words they reach, of which the spec does not say which those
are: a free value for each row (R236, R329). DESIGN CHOICE: notes/assumptions/37.md. -/
def passEcc (p : PartId) (x : Pass) (ecc : List EccFind) (s : State) : State :=
  let due (e : PartId × EccFind) : Bool := e.1 == p && (isWork e.2 || e.2 == .single || (match e.2 with
    | .storedRow t | .backedRow t _ => x.tags.contains t
    | _ => false))
  let ecc := ecc ++ (s.sramErr.filter due).map (·.2)
  let s := ecc.foldl (eccFind p 2 (passTag s p x) (passConcern s p x)) { s with sramErr := s.sramErr.filter (fun e => !due e) }
  if ecc.any isWork then
    eachOf x.tags (fun t s =>
      let (v, s) := takeFree s
      if v % 2 = 1 then updRow p t (fun r => if r.stage == .computing then { r with poison := true } else r) s else s) s
  else s

/-- PASS_END (R20) of a pass inside CONJ.STEP, or of re-issued rows. -/
def execPassEnd (p : PartId) (ecc : List EccFind) (s : State) : Out :=
  match (getPart s p).pass with
  | none => .next s
  | some x =>
    if x.alone then .next s
    else if !hbmPaid s p then .next (hbmHold p 7 s)
    else .next (drainPart p (passEnd p (passEcc p x ecc (hbmGo p 7 s))))

end Sys2Proof.Machine
end

