-- ==== Sys2Proof/Machine/Dispatch.lean ====
section
/-!
DEFINITION. Machine/Dispatch.lean: one arm per command, each a direct call of its meaning.
-/
namespace Sys2Proof.Machine
open Sys2Proof

def exec (i : Instr) (s : State) : Host.Outcome State Fault Refusal :=
  match i with
  | .registerWrite r a len v ep => Sys2Proof.Machine.execRegisterWrite r a len v ep s
  | .rcRegisterRead r a len => Sys2Proof.Machine.execRcRegisterRead r a len s
  | .lowHalfRead r off => Sys2Proof.Machine.execLowHalfRead r off s
  | .highHalfRead r off => Sys2Proof.Machine.execHighHalfRead r off s
  | .pwrGoodFall => Sys2Proof.Machine.execPwrGoodFall s
  | .boardResetAssert => Sys2Proof.Machine.execBoardResetAssert s
  | .railBelowThreshold rail => Sys2Proof.Machine.execRailBelowThreshold rail s
  | .testEnHigh => Sys2Proof.Machine.execTestEnHigh s
  | .coldResetRelease => Sys2Proof.Machine.execColdResetRelease s
  | .devResetReqWarm r v => Sys2Proof.Machine.execDevResetReqWarm r v s
  | .devResetReqPartition r v => Sys2Proof.Machine.execDevResetReqPartition r v s
  | .warmResetComplete => Sys2Proof.Machine.execWarmResetComplete s
  | .partitionResetComplete p => Sys2Proof.Machine.execPartitionResetComplete p s
  | .perstAssert k => Sys2Proof.Machine.execPerstAssert k s
  | .perstRelease k => Sys2Proof.Machine.execPerstRelease k s
  | .flr k => Sys2Proof.Machine.execFlr k s
  | .functionReady k => Sys2Proof.Machine.execFunctionReady k s
  | .romBankChoice => Sys2Proof.Machine.execRomBankChoice s
  | .imageVerifyDone errs => Sys2Proof.Machine.execImageVerifyDone errs s
  | .selftestDone failed => Sys2Proof.Machine.execSelftestDone failed s
  | .garkuLoadDone errs => Sys2Proof.Machine.execGarkuLoadDone errs s
  | .portRetrainDone k gen width => Sys2Proof.Machine.execPortRetrainDone k gen width s
  | .bistReadDone errs => Sys2Proof.Machine.execBistReadDone errs s
  | .hbmTrainDone ok => Sys2Proof.Machine.execHbmTrainDone ok s
  | .hbmClearDone errs => Sys2Proof.Machine.execHbmClearDone errs s
  | .groupSyncRise errs => Sys2Proof.Machine.execGroupSyncRise errs s
  | .groupSyncLineHigh => Sys2Proof.Machine.execGroupSyncLineHigh s
  | .alignTimeout errs => Sys2Proof.Machine.execAlignTimeout errs s
  | .linkTrainEnd => Sys2Proof.Machine.execLinkTrainEnd s
  | .linkTrainTimeout => Sys2Proof.Machine.execLinkTrainTimeout s
  | .timeSyncAchieved => Sys2Proof.Machine.execTimeSyncAchieved s
  | .timeSyncTimeout => Sys2Proof.Machine.execTimeSyncTimeout s
  | .thermalTrip sensor value => Sys2Proof.Machine.execThermalTrip sensor value s
  | .fwWatchdog => Sys2Proof.Machine.execFwWatchdog s
  | .fallbackAlertStep => Sys2Proof.Machine.execFallbackAlertStep s
  | .mgtWdtRefresh r v => Sys2Proof.Machine.execMgtWdtRefresh r v s
  | .timeMessageSend => Sys2Proof.Machine.execTimeMessageSend s
  | .timeMessageReceive l dt sysOffset epoch master fabricCount table ref => Sys2Proof.Machine.execTimeMessageReceive l dt sysOffset epoch master fabricCount table ref s
  | .timeRefLock => Sys2Proof.Machine.execTimeRefLock s
  | .ppsInEdge => Sys2Proof.Machine.execPpsInEdge s
  | .ppsOutEdge => Sys2Proof.Machine.execPpsOutEdge s
  | .ptpEventMessage pl e => Sys2Proof.Machine.execPtpEventMessage pl e s
  | .sysSyncLoss => Sys2Proof.Machine.execSysSyncLoss s
  | .ptpPortMove => Sys2Proof.Machine.execPtpPortMove s
  | .cfgStageOpen r v => Sys2Proof.Machine.execCfgStageOpen r v s
  | .cfgStageSeal r v => Sys2Proof.Machine.execCfgStageSeal r v s
  | .checkerDone => Sys2Proof.Machine.execCheckerDone s
  | .cfgStageStart r v => Sys2Proof.Machine.execCfgStageStart r v s
  | .cfgStageAbort r v => Sys2Proof.Machine.execCfgStageAbort r v s
  | .voteRequestReceive src epoch head digest => Sys2Proof.Machine.execVoteRequestReceive src epoch head digest s
  | .voteReceive src epoch id yes reason => Sys2Proof.Machine.execVoteReceive src epoch id yes reason s
  | .voteDeadline => Sys2Proof.Machine.execVoteDeadline s
  | .outcomeReceive src epoch id commit reason voter => Sys2Proof.Machine.execOutcomeReceive src epoch id commit reason voter s
  | .announcementReceive src epoch head => Sys2Proof.Machine.execAnnouncementReceive src epoch head s
  | .commitInstant => Sys2Proof.Machine.execCommitInstant s
  | .fencedQuery => Sys2Proof.Machine.execFencedQuery s
  | .queryReceive src epoch msg => Sys2Proof.Machine.execQueryReceive src epoch msg s
  | .fenceTimeout => Sys2Proof.Machine.execFenceTimeout s
  | .bar2Write r off data ep => Sys2Proof.Machine.execBar2Write r off data ep s
  | .bar4Read r off len ecc => Sys2Proof.Machine.execBar4Read r off len ecc s
  | .bar4Write r off data ep ecc => Sys2Proof.Machine.execBar4Write r off data ep ecc s
  | .powerStateD3hot k => Sys2Proof.Machine.execPowerStateD3hot k s
  | .powerStateD0 k => Sys2Proof.Machine.execPowerStateD0 k s
  | .pmPmeTransmit k => Sys2Proof.Machine.execPmPmeTransmit k s
  | .pmPmeRetransmit k => Sys2Proof.Machine.execPmPmeRetransmit k s
  | .aspmL1Entry k => Sys2Proof.Machine.execAspmL1Entry k s
  | .pmeTurnOff k => Sys2Proof.Machine.execPmeTurnOff k s
  | .dlDown k => Sys2Proof.Machine.execDlDown k s
  | .busMasterEnableChange k on => Sys2Proof.Machine.execBusMasterEnableChange k on s
  | .msixUnmask k v => Sys2Proof.Machine.execMsixUnmask k v s
  | .dmaReadCompletion k tag status data => Sys2Proof.Machine.execDmaReadCompletion k tag status data s
  | .dmaCompletionTimeout k tag => Sys2Proof.Machine.execDmaCompletionTimeout k tag s
  | .ideIntegrityFail k stream => Sys2Proof.Machine.execIdeIntegrityFail k stream s
  | .ringTailWrite r st v => Sys2Proof.Machine.execRingTailWrite r st v s
  | .ringCtlWrite r st v => Sys2Proof.Machine.execRingCtlWrite r st v s
  | .ringFetchComplete p st => Sys2Proof.Machine.execRingFetchComplete p st s
  | .sycHostAdd r idx v => Sys2Proof.Machine.execSycHostAdd r idx v s
  | .nop p st => Sys2Proof.Machine.execNop p st s
  | .jobBegin p st => Sys2Proof.Machine.execJobBegin p st s
  | .jobEnd p st => Sys2Proof.Machine.execJobEnd p st s
  | .ctSet p st => Sys2Proof.Machine.execCtSet p st s
  | .ctAdd p st => Sys2Proof.Machine.execCtAdd p st s
  | .cmpSkip p st => Sys2Proof.Machine.execCmpSkip p st s
  | .cmpBranch p st => Sys2Proof.Machine.execCmpBranch p st s
  | .sycWait p st => Sys2Proof.Machine.execSycWait p st s
  | .sycSet p st => Sys2Proof.Machine.execSycSet p st s
  | .tdSet p st => Sys2Proof.Machine.execTdSet p st s
  | .prgRun p st => Sys2Proof.Machine.execPrgRun p st s
  | .prgEnd p st => Sys2Proof.Machine.execPrgEnd p st s
  | .rteSelect p => Sys2Proof.Machine.execRteSelect p s
  | .tokenSelectionCommit p pos => Sys2Proof.Machine.execTokenSelectionCommit p pos s
  | .rtePropose p => Sys2Proof.Machine.execRtePropose p s
  | .rteAssign p => Sys2Proof.Machine.execRteAssign p s
  | .srtBucket p => Sys2Proof.Machine.execSrtBucket p s
  | .dspGather p => Sys2Proof.Machine.execDspGather p s
  | .seqLd p ecc => Sys2Proof.Machine.execSeqLd p ecc s
  | .seqSt p ecc => Sys2Proof.Machine.execSeqSt p ecc s
  | .seqZero p => Sys2Proof.Machine.execSeqZero p s
  | .seqMma p ecc => Sys2Proof.Machine.execSeqMma p ecc s
  | .seqAct p ecc => Sys2Proof.Machine.execSeqAct p ecc s
  | .seqMul p ecc => Sys2Proof.Machine.execSeqMul p ecc s
  | .seqScale p ecc => Sys2Proof.Machine.execSeqScale p ecc s
  | .seqCvt p ecc => Sys2Proof.Machine.execSeqCvt p ecc s
  | .seqExpert p ecc => Sys2Proof.Machine.execSeqExpert p ecc s
  | .cmbAccum p => Sys2Proof.Machine.execCmbAccum p s
  | .cmbFinal p => Sys2Proof.Machine.execCmbFinal p s
  | .colCommCreate p => Sys2Proof.Machine.execColCommCreate p s
  | .colCommDestroy p => Sys2Proof.Machine.execColCommDestroy p s
  | .colAllreduce p => Sys2Proof.Machine.execColAllreduce p s
  | .colAllgather p => Sys2Proof.Machine.execColAllgather p s
  | .colReducescatter p => Sys2Proof.Machine.execColReducescatter p s
  | .colBroadcast p => Sys2Proof.Machine.execColBroadcast p s
  | .colBarrier p => Sys2Proof.Machine.execColBarrier p s
  | .colAlltoallv p => Sys2Proof.Machine.execColAlltoallv p s
  | .colBallotMerge p => Sys2Proof.Machine.execColBallotMerge p s
  | .xfrTokensIn p => Sys2Proof.Machine.execXfrTokensIn p s
  | .xfrTokensOut p => Sys2Proof.Machine.execXfrTokensOut p s
  | .xfrCopy p => Sys2Proof.Machine.execXfrCopy p s
  | .xfrLoadModel p => Sys2Proof.Machine.execXfrLoadModel p s
  | .xfrUnloadModel p => Sys2Proof.Machine.execXfrUnloadModel p s
  | .conjStep p => Sys2Proof.Machine.execConjStep p s
  | .commandComplete p st => Sys2Proof.Machine.execCommandComplete p st s
  | .sycWaitTimeout p st => Sys2Proof.Machine.execSycWaitTimeout p st s
  | .teardownComplete p => Sys2Proof.Machine.execTeardownComplete p s
  | .passStart p expert => Sys2Proof.Machine.execPassStart p expert s
  | .passEnd p ecc => Sys2Proof.Machine.execPassEnd p ecc s
  | .reissuePassTimer p expert => Sys2Proof.Machine.execReissuePassTimer p expert s
  | .shadowScoreDone p pos => Sys2Proof.Machine.execShadowScoreDone p pos s
  | .rowReceive src path pkt => Sys2Proof.Machine.execRowReceive src path pkt s
  | .resultReceive src path pkt => Sys2Proof.Machine.execResultReceive src path pkt s
  | .verdictReceive src path pkt => Sys2Proof.Machine.execVerdictReceive src path pkt s
  | .closeReceive src path pkt => Sys2Proof.Machine.execCloseReceive src path pkt s
  | .dropReceive src path pkt => Sys2Proof.Machine.execDropReceive src path pkt s
  | .refuseReceive src path pkt => Sys2Proof.Machine.execRefuseReceive src path pkt s
  | .stepClosureProbe p => Sys2Proof.Machine.execStepClosureProbe p s
  | .teardownServeEnd p => Sys2Proof.Machine.execTeardownServeEnd p s
  | .deadlineCheckpoint p dispatch => Sys2Proof.Machine.execDeadlineCheckpoint p dispatch s
  | .regulatorWindowRefill => Sys2Proof.Machine.execRegulatorWindowRefill s
  | .requestAging p => Sys2Proof.Machine.execRequestAging p s
  | .brlSignalDetect l => Sys2Proof.Machine.execBrlSignalDetect l s
  | .brlEqualizeDone l => Sys2Proof.Machine.execBrlEqualizeDone l s
  | .identifyReceive l ident => Sys2Proof.Machine.execIdentifyReceive l ident s
  | .brlKeyingDone l ok => Sys2Proof.Machine.execBrlKeyingDone l ok s
  | .brlTrainTimeout l => Sys2Proof.Machine.execBrlTrainTimeout l s
  | .brlDownRetry l => Sys2Proof.Machine.execBrlDownRetry l s
  | .flitReceive l fec flit msg => Sys2Proof.Machine.execFlitReceive l fec flit msg s
  | .nakReceive l ack => Sys2Proof.Machine.execNakReceive l ack s
  | .nakRepeat l => Sys2Proof.Machine.execNakRepeat l s
  | .ackTimer l => Sys2Proof.Machine.execAckTimer l s
  | .integrityReceive l flit => Sys2Proof.Machine.execIntegrityReceive l flit s
  | .timeFlitReceive l farDt farRx => Sys2Proof.Machine.execTimeFlitReceive l farDt farRx s
  | .lossOfLink l => Sys2Proof.Machine.execLossOfLink l s
  | .bondAdvertisementSend => Sys2Proof.Machine.execBondAdvertisementSend s
  | .bondAdvertisementReceive l a => Sys2Proof.Machine.execBondAdvertisementReceive l a s
  | .brlIdleTimer l => Sys2Proof.Machine.execBrlIdleTimer l s
  | .sleepReqReceive l => Sys2Proof.Machine.execSleepReqReceive l s
  | .wakePattern l => Sys2Proof.Machine.execWakePattern l s
  | .brlRetrain r l v => Sys2Proof.Machine.execBrlRetrain r l v s
  | .brlDormant r l v => Sys2Proof.Machine.execBrlDormant r l v s
  | .brlWake r l v => Sys2Proof.Machine.execBrlWake r l v s
  | .tthAlignDone pl => Sys2Proof.Machine.execTthAlignDone pl s
  | .mkaSecured pl peerPriority xpn => Sys2Proof.Machine.execMkaSecured pl peerPriority xpn s
  | .tthTrainTimeout pl => Sys2Proof.Machine.execTthTrainTimeout pl s
  | .tthFault pl => Sys2Proof.Machine.execTthFault pl s
  | .tthDownRetry pl => Sys2Proof.Machine.execTthDownRetry pl s
  | .mkaPeerLoss pl => Sys2Proof.Machine.execMkaPeerLoss pl s
  | .macsecRekey pl => Sys2Proof.Machine.execMacsecRekey pl s
  | .tthRetrain r pl v => Sys2Proof.Machine.execTthRetrain r pl v s
  | .tthDormant r pl v => Sys2Proof.Machine.execTthDormant r pl v s
  | .tthWake r pl v => Sys2Proof.Machine.execTthWake r pl v s
  | .tthDataReceive pl fr dgram => Sys2Proof.Machine.execTthDataReceive pl fr dgram s
  | .tthAckReceive pl fr dgram => Sys2Proof.Machine.execTthAckReceive pl fr dgram s
  | .tthHelloReceive pl fr dgram => Sys2Proof.Machine.execTthHelloReceive pl fr dgram s
  | .tthHelloAckReceive pl fr dgram => Sys2Proof.Machine.execTthHelloAckReceive pl fr dgram s
  | .closeCtxReceive pl fr dgram => Sys2Proof.Machine.execCloseCtxReceive pl fr dgram s
  | .helloRetry ctx => Sys2Proof.Machine.execHelloRetry ctx s
  | .tthAckTimer ctx => Sys2Proof.Machine.execTthAckTimer ctx s
  | .rtoExpiry ctx => Sys2Proof.Machine.execRtoExpiry ctx s
  | .contextIdleClose ctx => Sys2Proof.Machine.execContextIdleClose ctx s
  | .tthRetxExhaust ctx => Sys2Proof.Machine.execTthRetxExhaust ctx s
  | .failedPlaneProbe pl peer part => Sys2Proof.Machine.execFailedPlaneProbe pl peer part s
  | .arpNdRequest pl frame asker target => Sys2Proof.Machine.execArpNdRequest pl frame asker target s
  | .neighbourRefresh pl addr => Sys2Proof.Machine.execNeighbourRefresh pl addr s
  | .icmpEchoRequest pl frame asker ident => Sys2Proof.Machine.execIcmpEchoRequest pl frame asker ident s
  | .pauseFrameReceive pl => Sys2Proof.Machine.execPauseFrameReceive pl s
  | .colDataReceive src path pkt ops => Sys2Proof.Machine.execColDataReceive src path pkt ops s
  | .colAckReceive src path pkt => Sys2Proof.Machine.execColAckReceive src path pkt s
  | .colNackReceive src path pkt => Sys2Proof.Machine.execColNackReceive src path pkt s
  | .joinReceive src path pkt => Sys2Proof.Machine.execJoinReceive src path pkt s
  | .readyReceive src path pkt => Sys2Proof.Machine.execReadyReceive src path pkt s
  | .colAbortReceive src path pkt => Sys2Proof.Machine.execColAbortReceive src path pkt s
  | .colProbeReceive src path pkt => Sys2Proof.Machine.execColProbeReceive src path pkt s
  | .colProbeAckReceive src path pkt => Sys2Proof.Machine.execColProbeAckReceive src path pkt s
  | .colProbeTimer p => Sys2Proof.Machine.execColProbeTimer p s
  | .colProbeTimeout p dev => Sys2Proof.Machine.execColProbeTimeout p dev s
  | .commCreateTimeout p => Sys2Proof.Machine.execCommCreateTimeout p s
  | .colCommandTimeout p => Sys2Proof.Machine.execColCommandTimeout p s
  | .reducerSlotGrant => Sys2Proof.Machine.execReducerSlotGrant s
  | .dlHelloReceive msg => Sys2Proof.Machine.execDlHelloReceive msg s
  | .dlCompareReceive msg => Sys2Proof.Machine.execDlCompareReceive msg s
  | .dlAbandonReceive msg => Sys2Proof.Machine.execDlAbandonReceive msg s
  | .dlCompareTimeout p => Sys2Proof.Machine.execDlCompareTimeout p s
  | .dlPairLinkDown => Sys2Proof.Machine.execDlPairLinkDown s
  | .patrolScrubRead gran result => Sys2Proof.Machine.execPatrolScrubRead gran result s
  | .errHeadWrite r v => Sys2Proof.Machine.execErrHeadWrite r v s
  | .pairHelloSend => Sys2Proof.Machine.execPairHelloSend s
  | .pairHelloReceive msg => Sys2Proof.Machine.execPairHelloReceive msg s
  | .mirrorReceive msg => Sys2Proof.Machine.execMirrorReceive msg s
  | .snapReceive msg => Sys2Proof.Machine.execSnapReceive msg s
  | .heartbeatSnapshot p => Sys2Proof.Machine.execHeartbeatSnapshot p s
  | .pairAckReceive msg => Sys2Proof.Machine.execPairAckReceive msg s
  | .ackSilence => Sys2Proof.Machine.execAckSilence s
  | .deposedReceive msg => Sys2Proof.Machine.execDeposedReceive msg s
  | .standbySilence => Sys2Proof.Machine.execStandbySilence s
  | .pairProbeReceive pl msg => Sys2Proof.Machine.execPairProbeReceive pl msg s
  | .pairProbeAckReceive pl msg => Sys2Proof.Machine.execPairProbeAckReceive pl msg s
  | .witnessQReceive pl src msg => Sys2Proof.Machine.execWitnessQReceive pl src msg s
  | .witnessAReceive pl msg => Sys2Proof.Machine.execWitnessAReceive pl msg s
  | .takeoverDecision => Sys2Proof.Machine.execTakeoverDecision s
  | .sbActivate r v => Sys2Proof.Machine.execSbActivate r v s
  | .sbDepose r v => Sys2Proof.Machine.execSbDepose r v s
  | .sbRejoin r v => Sys2Proof.Machine.execSbRejoin r v s
  | .setPstate r v => Sys2Proof.Machine.execSetPstate r v s
  | .pstateRampDone => Sys2Proof.Machine.execPstateRampDone s
  | .railReadbackSample mv => Sys2Proof.Machine.execRailReadbackSample mv s
  | .sensorSample temps => Sys2Proof.Machine.execSensorSample temps s
  | .hbmTempReport stack temp => Sys2Proof.Machine.execHbmTempReport stack temp s
  | .powerEstimate watts => Sys2Proof.Machine.execPowerEstimate watts s
  | .pwrLimitWWrite r v => Sys2Proof.Machine.execPwrLimitWWrite r v s
  | .pwrCloseUsWrite r v => Sys2Proof.Machine.execPwrCloseUsWrite r v s
  | .gate r v => Sys2Proof.Machine.execGate r v s
  | .clusterNoticeTimer => Sys2Proof.Machine.execClusterNoticeTimer s
  | .clusterNoticeReceive notice => Sys2Proof.Machine.execClusterNoticeReceive notice s
  | .closeTimeElapsed c => Sys2Proof.Machine.execCloseTimeElapsed c s
  | .drainComplete c => Sys2Proof.Machine.execDrainComplete c s
  | .drainCap c => Sys2Proof.Machine.execDrainCap c s
  | .isolationTimer c => Sys2Proof.Machine.execIsolationTimer c s
  | .pwrWake r v => Sys2Proof.Machine.execPwrWake r v s
  | .clusterPowerUpDone c => Sys2Proof.Machine.execClusterPowerUpDone c s
  | .quietEnter r v => Sys2Proof.Machine.execQuietEnter r v s
  | .quietExit r v => Sys2Proof.Machine.execQuietExit r v s
  | .provision r v => Sys2Proof.Machine.execProvision r v s
  | .deploy r v => Sys2Proof.Machine.execDeploy r v s
  | .unlockDebug r v => Sys2Proof.Machine.execUnlockDebug r v s
  | .relock r v => Sys2Proof.Machine.execRelock r v s
  | .decommission r v => Sys2Proof.Machine.execDecommission r v s
  | .zeroize r v => Sys2Proof.Machine.execZeroize r v s
  | .setVault r v => Sys2Proof.Machine.execSetVault r v s
  | .advanceFloor r v => Sys2Proof.Machine.execAdvanceFloor r v s
  | .logClear r v => Sys2Proof.Machine.execLogClear r v s
  | .authLockoutEnd => Sys2Proof.Machine.execAuthLockoutEnd s
  | .spdmGetCertificate bd slot off len => Sys2Proof.Machine.execSpdmGetCertificate bd slot off len s
  | .spdmChallenge bd slot nonce => Sys2Proof.Machine.execSpdmChallenge bd slot nonce s
  | .spdmGetMeasurements bd op nonce => Sys2Proof.Machine.execSpdmGetMeasurements bd op nonce s
  | .spdmKeyExchange bd share => Sys2Proof.Machine.execSpdmKeyExchange bd share s
  | .spdmKeyUpdate bd session => Sys2Proof.Machine.execSpdmKeyUpdate bd session s
  | .spdmHeartbeat bd session => Sys2Proof.Machine.execSpdmHeartbeat bd session s
  | .ideKmQuery bd session port => Sys2Proof.Machine.execIdeKmQuery bd session port s
  | .ideKmKeyProg bd session port stream set key => Sys2Proof.Machine.execIdeKmKeyProg bd session port stream set key s
  | .ideKmKSetGo bd session port stream set => Sys2Proof.Machine.execIdeKmKSetGo bd session port stream set s
  | .ideKmKSetStop bd session port stream set => Sys2Proof.Machine.execIdeKmKSetStop bd session port stream set s
  | .brlRekey l => Sys2Proof.Machine.execBrlRekey l s
  | .jtagInstruction ir => Sys2Proof.Machine.execJtagInstruction ir s
  | .entropyTestFail test => Sys2Proof.Machine.execEntropyTestFail test s
  | .errorWarmReset => Sys2Proof.Machine.execErrorWarmReset s
  | .bistRun r v => Sys2Proof.Machine.execBistRun r v s
  | .bistShutdown r v => Sys2Proof.Machine.execBistShutdown r v s
  | .mfgTestRun units => Sys2Proof.Machine.execMfgTestRun units s
  | .bistUnitDone unit result detail => Sys2Proof.Machine.execBistUnitDone unit result detail s
  | .bistWindowSample cause => Sys2Proof.Machine.execBistWindowSample cause s
  | .mgtEventHeadWrite r v => Sys2Proof.Machine.execMgtEventHeadWrite r v s
  | .mgtMsgCtlSend r v => Sys2Proof.Machine.execMgtMsgCtlSend r v s
  | .policyMessageTimeout => Sys2Proof.Machine.execPolicyMessageTimeout s
  | .read32 bd addr count => Sys2Proof.Machine.execRead32 bd addr count s
  | .secRelay bd buf => Sys2Proof.Machine.execSecRelay bd buf s
  | .logRead bd sector off len => Sys2Proof.Machine.execLogRead bd sector off len s
  | .policyMessage bd cmd body => Sys2Proof.Machine.execPolicyMessage bd cmd body s
  | .setEndpointId bd op eid => Sys2Proof.Machine.execSetEndpointId bd op eid s
  | .smbusTimeout => Sys2Proof.Machine.execSmbusTimeout s
  | .tripLatchRead => Sys2Proof.Machine.execTripLatchRead s
  | .setEventReceiver bd enable => Sys2Proof.Machine.execSetEventReceiver bd enable s
  | .getSensorReading bd sensor => Sys2Proof.Machine.execGetSensorReading bd sensor s
  | .sensorEventTimer sensor => Sys2Proof.Machine.execSensorEventTimer sensor s
  | .requestUpdate bd maxSize count => Sys2Proof.Machine.execRequestUpdate bd maxSize count s
  | .passComponentTable bd cls ident stamp => Sys2Proof.Machine.execPassComponentTable bd cls ident stamp s
  | .updateComponent bd cls ident size => Sys2Proof.Machine.execUpdateComponent bd cls ident size s
  | .bankEraseDone => Sys2Proof.Machine.execBankEraseDone s
  | .firmwareDataReceive bd off data => Sys2Proof.Machine.execFirmwareDataReceive bd off data s
  | .transferComplete => Sys2Proof.Machine.execTransferComplete s
  | .verifyComplete => Sys2Proof.Machine.execVerifyComplete s
  | .applyComplete => Sys2Proof.Machine.execApplyComplete s
  | .cancelUpdate bd => Sys2Proof.Machine.execCancelUpdate bd s
  | .activateFirmware bd => Sys2Proof.Machine.execActivateFirmware bd s
  | .dbgTraceCtlWrite r v => Sys2Proof.Machine.execDbgTraceCtlWrite r v s
  | .traceRecordDrain p => Sys2Proof.Machine.execTraceRecordDrain p s
  | .dbgTraceRdWrite r v => Sys2Proof.Machine.execDbgTraceRdWrite r v s
  | .dbgMark r v => Sys2Proof.Machine.execDbgMark r v s
  | .cntSnapTake r v => Sys2Proof.Machine.execCntSnapTake r v s
  | .cntSnapRelease r v => Sys2Proof.Machine.execCntSnapRelease r v s
  | .mpHalt r v => Sys2Proof.Machine.execMpHalt r v s
  | .mpStep r v => Sys2Proof.Machine.execMpStep r v s
  | .timeRefLoss => Sys2Proof.Machine.execTimeRefLoss s
  | .hostLinkUp k gen width flit reversed => Sys2Proof.Machine.execHostLinkUp k gen width flit reversed s
  | .mgtWakeReqWrite r v => Sys2Proof.Machine.execMgtWakeReqWrite r v s
  | .arpNdReplyReceive pl frame addr mac => Sys2Proof.Machine.execArpNdReplyReceive pl frame addr mac s
  | .neighbourResolutionRetry pl addr => Sys2Proof.Machine.execNeighbourResolutionRetry pl addr s
  | .spdmEndSession bd session => Sys2Proof.Machine.execSpdmEndSession bd session s
  | .activationWarmReset => Sys2Proof.Machine.execActivationWarmReset s
  | .firmwareDataRetry => Sys2Proof.Machine.execFirmwareDataRetry s
  | .smbusArbitrationRetry => Sys2Proof.Machine.execSmbusArbitrationRetry s

end Sys2Proof.Machine
end

