-- ==== Sys2Proof/Machine/Tick.lean ====
section
/-!
DEFINITION. Machine/Tick.lean: one nanosecond of the block's clock (spec/05 R98, spec/25 R620, spec/23 R570, R576).
-/
namespace Sys2Proof.Machine
open Sys2Proof

/-- An upset strikes the memories, if one does in this nanosecond: a free value (R460, R463). DESIGN CHOICE: notes/assumptions/37.md. -/
def strike (s : State) : State :=
  let t := { s with free := s.free + 1 }
  match Config.upsets s.free with
  | some (.hbm g bad) => { t with hbmErr := tabSet .none g (if bad then .ue else .ce) t.hbmErr }
  | some (.sram p e) => { t with sramErr := t.sramErr ++ [(p, e)] }
  | none => t

/-- One nanosecond passes with no command waiting: DT advances while the beat runs, and the time counters advance; in TRIPPED the AON domain
counts the time since the trip. -/
def tick (s : State) : State :=
  if s.boot.state == .tripped then
    { s with boot := { s.boot with trip := { s.boot.trip with nsSince := s.boot.trip.nsSince + 1 } } }
  else if !clocked s then s
  else
    let s := { s with boot := { s.boot with sinceNs := s.boot.sinceNs + 1 } }
    let s := if s.boot.beat then { s with time := { s.time with dt := (s.time.dt + 1) % 2 ^ 64 } } else s
    let s := { s with mgt := { s.mgt with wdtLeft := s.mgt.wdtLeft - 1 } }
    let s := if s.power.dutyPower < 16 ∨ s.power.dutyThermal < 16 then
        { s with power := { s.power with clampNs := wrapAdd 64 s.power.clampNs 1 } } else s
    strike (eachOf allParts (fun p s => if (getPart s p).job.open_ then cntPart64 0x00070018 1 p s else s) s)

end Sys2Proof.Machine
end

