-- ==== Sys2Proof/Safety.lean ====
section
/-!
DEFINITION. Safety.lean: what counts as a safe run of the block, in the terms the statements use.
-/
namespace Sys2Proof.Safety
open Sys2Proof Sys2Proof.Machine

/-- A command runs: it answers a next state. -/
def Runs (i : Instr) (s : State) : Prop := ∃ t, exec i s = .next t

/-- The addressed memories and the tables of the state are in canonical form. -/
def MemWf (s : State) : Prop :=
  memWf s.hbm = true ∧ tabWf false s.hbmPoison = true ∧ tabWf .none s.hbmErr = true ∧ tabWf flashDefault s.flash = true ∧ tabWf 0 s.syc = true

-- Resets (R45, R46, R49, R50)

/-- What a cold reset leaves (R45, R46, R50): every domain at its reset value, fuses and flash kept, the open-drain outputs
released but GROUP_SYNC_n, and the trigger held for the cause register. -/
def ColdOf (s t : State) (power board : Bool) : Prop :=
  t.boot.state = .coldReset ∧ (power = true → t.boot.coldPower = true) ∧ (board = true → t.boot.coldBoard = true) ∧
  t.pins.groupSyncLow = true ∧ t.pins.faultLow = false ∧ t.pins.thermtripLow = false ∧ t.pins.flashDriven = false ∧
  t.fuses = s.fuses ∧ t.flash = s.flash ∧ t.hbm = [] ∧ t.syc = [] ∧ t.cfg = {} ∧
  (∀ p : PartId, getPart t p = {}) ∧ (∀ k : PortId, getPort t k = {}) ∧ (∀ l : LinkId, getLink t l = {}) ∧
  (∀ pl : PlaneId, getPlane t pl = {}) ∧ t.pending = s.pending

/-- What a warm reset with cause bit `cause` leaves (R45, R46, R49, R50): the cause set beside the causes held, the retry
count, the port's link and configuration space, fuses and flash; everything else is cleared. -/
def WarmOf (s t : State) (cause : Nat) : Prop :=
  t.boot.state = .warmReset ∧ t.boot.cause = maskSet s.boot.cause cause ∧
  (s.boot.state = .ready → t.boot.retry = s.boot.retry) ∧ (s.boot.state ≠ .ready → t.boot.retry = min (s.boot.retry + 1) 3) ∧
  t.pins.groupSyncLow = true ∧ t.fuses = s.fuses ∧ t.flash = s.flash ∧ t.hbm = [] ∧ t.syc = [] ∧ t.cfg = {} ∧ t.time.dt = 0 ∧
  (∀ p : PartId, getPart t p = {}) ∧ (∀ l : LinkId, getLink t l = {}) ∧ (∀ pl : PlaneId, getPlane t pl = {}) ∧
  (∀ k : PortId, (getPort t k).gen = (getPort s k).gen ∧ (getPort t k).bme = (getPort s k).bme) ∧ t.pending = s.pending

/-- The device has entered SAFE with a cause (R50, R56, R61): FAULT_n is low, GROUP_SYNC_n released, no policy firmware runs, every
cluster is OFF and every port but HP0 is quiet. -/
def SafeOf (s t : State) (cause : Nat) : Prop :=
  t.boot.state = .safe ∧ t.boot.safeCause = cause ∧ t.pins = { s.pins with faultLow := true, groupSyncLow := false } ∧
  t.mgt.fwState = 0 ∧ (∀ c : ClusterId, (getCluster t c).state = .off) ∧
  (∀ k : PortId, k ≠ 0 → (getPort t k).quiet = true) ∧ t.fuses = s.fuses ∧ t.flash = s.flash ∧ t.cfg = s.cfg ∧
  t.parts = s.parts ∧ t.hbm = s.hbm ∧ t.out = s.out

-- Fuses and frames

/-- A physical fuse bit that is burned stays burned (R525). -/
structure FuseLe (x y : Fuse) : Prop where
  a : x.a = true → y.a = true
  b : x.b = true → y.b = true

/-- Every fuse of one state that is burned is burned in another, and the floor is no lower (R525, R528). -/
structure FusesLe (f g : Fuses) : Prop where
  prov : FuseLe f.prov g.prov
  deploy : FuseLe f.deploy g.deploy
  decom : FuseLe f.decom g.decom
  huk : FuseLe f.hukBlock g.hukBlock
  unlock : ∀ i : Fin 16, FuseLe f.unlock[i] g.unlock[i]
  relock : ∀ i : Fin 16, FuseLe f.relock[i] g.relock[i]
  floor : f.floor ≤ g.floor

/-- The commands that may change the standing state: the boot block, the pins, the fuses, the configuration in force and the image
in use. They are the resets and the boot sequence, the pins, P-states and BIST, the staged commit, the mailbox, time in sync, and
what can lead to one of these; a SEQ command among them only with what the ECC finds. An error that stands in SRAM can lead to them
from any command that reads the word. -/
def mayChangeStanding : Instr → Bool
  | .registerWrite .. | .pwrGoodFall | .boardResetAssert | .railBelowThreshold .. | .testEnHigh | .coldResetRelease
  | .devResetReqWarm .. | .devResetReqPartition .. | .warmResetComplete | .perstAssert .. | .perstRelease ..
  | .romBankChoice | .imageVerifyDone .. | .selftestDone .. | .garkuLoadDone .. | .bistReadDone .. | .hbmTrainDone ..
  | .hbmClearDone .. | .groupSyncRise .. | .groupSyncLineHigh | .alignTimeout .. | .linkTrainEnd | .linkTrainTimeout
  | .timeSyncAchieved | .timeSyncTimeout | .thermalTrip .. | .fwWatchdog | .fallbackAlertStep | .mgtWdtRefresh ..
  | .timeMessageSend | .regulatorWindowRefill | .bistUnitDone .. | .bistWindowSample .. | .timeMessageReceive .. | .outcomeReceive .. | .commitInstant | .queryReceive .. | .fenceTimeout | .bar2Write ..
  | .powerStateD0 .. | .pmeTurnOff .. | .dmaReadCompletion .. | .dmaCompletionTimeout .. | .ringFetchComplete ..
  | .seqLd _ (_ :: _) | .seqSt _ (_ :: _) | .seqMma _ (_ :: _) | .seqAct _ (_ :: _) | .seqMul _ (_ :: _) | .seqScale _ (_ :: _)
  | .seqCvt _ (_ :: _) | .seqExpert _ (_ :: _) | .passEnd _ (_ :: _) | .rowReceive .. | .setPstate .. | .pstateRampDone | .railReadbackSample .. | .sensorSample ..
  | .powerEstimate .. | .quietEnter .. | .quietExit .. | .provision .. | .deploy .. | .unlockDebug .. | .relock ..
  | .decommission .. | .zeroize .. | .setVault .. | .advanceFloor .. | .logClear .. | .entropyTestFail ..
  | .errorWarmReset | .bistShutdown .. | .mfgTestRun .. | .secRelay .. | .activateFirmware .. | .mgtWakeReqWrite ..
  | .activationWarmReset => true
  | _ => false

/-- The commands that may change a byte of HBM, beside one that meets an error in SRAM. -/
def mayStoreHbm : Instr → Bool
  | .coldResetRelease | .warmResetComplete | .regulatorWindowRefill | .bondAdvertisementSend
  | .registerWrite .. | .pwrGoodFall | .boardResetAssert | .railBelowThreshold .. | .testEnHigh | .devResetReqWarm ..
  | .devResetReqPartition .. | .perstAssert .. | .flr .. | .imageVerifyDone .. | .garkuLoadDone .. | .bistReadDone ..
  | .hbmClearDone .. | .groupSyncRise .. | .alignTimeout .. | .linkTrainEnd | .linkTrainTimeout | .fwWatchdog
  | .outcomeReceive .. | .commitInstant | .queryReceive .. | .fenceTimeout | .bar4Write .. | .dlDown ..
  | .dmaReadCompletion .. | .dmaCompletionTimeout .. | .ideIntegrityFail .. | .sycHostAdd .. | .sycSet ..
  | .rteSelect .. | .tokenSelectionCommit .. | .rtePropose .. | .rteAssign .. | .srtBucket .. | .dspGather ..
  | .seqLd _ (_ :: _) | .seqMma _ (_ :: _) | .seqAct _ (_ :: _) | .seqMul _ (_ :: _) | .seqScale _ (_ :: _)
  | .seqCvt _ (_ :: _) | .seqSt .. | .seqExpert .. | .colAllreduce .. | .colAllgather .. | .colReducescatter ..
  | .colBroadcast .. | .colBarrier .. | .colAlltoallv .. | .colBallotMerge .. | .xfrCopy .. | .conjStep ..
  | .commandComplete .. | .passStart .. | .passEnd .. | .reissuePassTimer .. | .shadowScoreDone .. | .rowReceive ..
  | .resultReceive .. | .verdictReceive .. | .closeReceive .. | .dropReceive .. | .refuseReceive ..
  | .teardownServeEnd .. | .deadlineCheckpoint .. | .identifyReceive .. | .brlKeyingDone .. | .flitReceive ..
  | .nakReceive .. | .integrityReceive .. | .lossOfLink .. | .bondAdvertisementReceive .. | .brlRetrain ..
  | .tthTrainTimeout .. | .tthFault .. | .mkaPeerLoss .. | .tthDormant .. | .tthRetxExhaust .. | .colDataReceive ..
  | .colAckReceive .. | .colNackReceive .. | .joinReceive .. | .readyReceive .. | .colAbortReceive ..
  | .colProbeReceive .. | .colProbeAckReceive .. | .colProbeTimer .. | .colProbeTimeout .. | .reducerSlotGrant
  | .pairHelloReceive .. | .ackSilence | .sbDepose .. | .drainCap .. | .provision .. | .deploy .. | .unlockDebug ..
  | .relock .. | .decommission .. | .zeroize .. | .setVault .. | .advanceFloor .. | .logClear .. | .errorWarmReset
  | .bistShutdown .. | .secRelay .. | .traceRecordDrain .. | .activationWarmReset => true
  | _ => false

/-- The commands that may change a cluster or its cores (tiles, accumulators, scratch, tags), a pair role, the Dual-Line pairing,
BIST or the management processors' debug registers, beside one that meets an error in SRAM. -/
def mayChangeCores : Instr → Bool
  | .registerWrite .. | .pwrGoodFall | .boardResetAssert | .railBelowThreshold .. | .testEnHigh | .devResetReqWarm ..
  | .devResetReqPartition .. | .perstAssert .. | .flr .. | .imageVerifyDone .. | .selftestDone .. | .garkuLoadDone ..
  | .bistReadDone .. | .hbmTrainDone .. | .hbmClearDone .. | .groupSyncRise .. | .alignTimeout .. | .timeSyncAchieved
  | .timeSyncTimeout | .fwWatchdog | .outcomeReceive .. | .commitInstant | .queryReceive .. | .fenceTimeout
  | .powerStateD3hot .. | .powerStateD0 .. | .dlDown .. | .busMasterEnableChange .. | .dmaReadCompletion ..
  | .dmaCompletionTimeout .. | .ideIntegrityFail .. | .seqLd .. | .seqSt .. | .seqZero .. | .seqMma .. | .seqAct ..
  | .seqMul .. | .seqScale .. | .seqCvt .. | .seqExpert _ (_ :: _) | .passEnd _ (_ :: _) | .xfrTokensOut .. | .commandComplete .. | .teardownComplete ..
  | .identifyReceive .. | .brlKeyingDone .. | .brlTrainTimeout .. | .brlDownRetry .. | .flitReceive ..
  | .nakReceive .. | .integrityReceive .. | .lossOfLink .. | .brlRetrain .. | .dlHelloReceive ..
  | .dlCompareReceive .. | .dlAbandonReceive .. | .dlCompareTimeout .. | .dlPairLinkDown | .pairHelloReceive ..
  | .mirrorReceive .. | .snapReceive .. | .pairAckReceive .. | .ackSilence | .deposedReceive .. | .standbySilence
  | .pairProbeAckReceive .. | .witnessAReceive .. | .takeoverDecision | .sbActivate .. | .sbDepose .. | .sbRejoin ..
  | .gate .. | .closeTimeElapsed .. | .drainComplete .. | .drainCap .. | .isolationTimer .. | .pwrWake ..
  | .clusterPowerUpDone .. | .quietEnter .. | .provision .. | .deploy .. | .unlockDebug .. | .relock ..
  | .decommission .. | .zeroize .. | .setVault .. | .advanceFloor .. | .logClear .. | .ideKmKSetGo ..
  | .errorWarmReset | .bistRun .. | .bistShutdown .. | .mfgTestRun .. | .bistUnitDone .. | .bistWindowSample ..
  | .secRelay .. | .mpHalt .. | .mpStep .. | .activationWarmReset => true
  | _ => false

-- Messages whose fields fit their places

/-- Every field of a packet fits its bits, and its tag carries its check byte (R311, R312). -/
def PacketFits (k : Packet) : Prop :=
  k.tag < 2 ^ 64 ∧ tagOk k.tag = true ∧ k.kind < 16 ∧ k.cfgEpoch < 4 ∧ k.dst < 2 ^ 14 ∧ k.cluster < 8 ∧ k.reason < 256 ∧
  k.expert < 2 ^ 16 ∧ k.partEpoch < 2 ^ 16 ∧ k.slotGen < 2 ^ 16 ∧ k.flowSeq < 2 ^ 32 ∧ k.step < 2 ^ 16 ∧ k.comm < 256 ∧
  k.weight < 2 ^ 32 ∧ k.key < 2 ^ 32 ∧ k.count < 2 ^ 32 ∧ k.payload.length < 2 ^ 32

/-- Every field of a collective piece fits its bits (R396). -/
def PieceFits (k : Piece) : Prop :=
  k.commId < 2 ^ 64 ∧ k.kind < 16 ∧ k.op < 16 ∧ k.cfgEpoch < 4 ∧ k.src < 2 ^ 14 ∧ k.dst < 2 ^ 14 ∧ k.partEpoch < 2 ^ 16 ∧
  k.opSeq < 2 ^ 32 ∧ k.chunk < 2 ^ 32 ∧ k.off < 2 ^ 32 ∧ k.chunkLen < 2 ^ 32 ∧ k.chunkCrc < 2 ^ 32 ∧ k.flowSeq < 2 ^ 32 ∧
  k.phase < 16 ∧ k.round < 16 ∧ k.tag < 2 ^ 32 ∧ k.detail < 2 ^ 32 ∧ k.payload.length < 2 ^ 32

/-- The header of a flit is one that a receiver takes (R340). -/
def FlitFits (h : FlitHead) : Prop :=
  h.type ≤ 4 ∧ h.fseq < 4096 ∧ h.ack < 4096 ∧ h.vc < 8 ∧ ¬ (h.type = 1 ∧ h.vc = 7) ∧ h.end_ ≤ 242 ∧ h.creditVc < 8 ∧
  h.creditPart < 4 ∧ h.creditCount < 2048

/-- The header of a transport datagram is one that a receiver takes, for a payload (R368). -/
def TthFits (h : TthHead) (payload : Bytes) : Prop :=
  1 ≤ h.type ∧ h.type ≤ 5 ∧ h.stream < 4 ∧ (h.type = 1 ∨ h.stream = 0) ∧ h.cfgEpoch < 4 ∧ h.part < 4 ∧ h.src < 2 ^ 14 ∧
  h.dst < 2 ^ 14 ∧ h.ctx < 2 ^ 16 ∧ h.ssn < 2 ^ 32 ∧ h.off < 2 ^ 32 ∧ h.len < 2 ^ 16 ∧ h.ts < 2 ^ 32 ∧ payload.length = h.len

/-- The header of a pair message fits its places (R479). -/
def PairFits (h : PairHead) (payload : Bytes) : Prop :=
  1 ≤ h.kind ∧ h.kind ≤ 9 ∧ h.part < 256 ∧ h.role < 256 ∧ h.flags < 256 ∧ h.epoch < 2 ^ 32 ∧ h.index < 2 ^ 32 ∧ h.st < 2 ^ 64 ∧
  h.digest.length = 32 ∧ payload.length ≤ 8192

/-- The filled candidates of `c` ballot entries (R267). -/
def cands (c : Nat) (b : Bytes) : List ((Nat × Nat) × Bytes) := (entries16 c b).filterMap candOf

/-- The Expert Sequencer takes a row under what the ECC finds in the words it reads, none of which ends the row: `u` is the state in
which the row has its effect (R214, R235, R255). -/
def SeqTakes (p : PartId) (op : Nat) (ecc : List EccFind) (d : Bytes) (s u : State) : Prop :=
  ∃ v w, takeCmd p 3 op s = (some d, v) ∧ w = ecc.foldl (rowFind p (dTag d)) v ∧ (getStream w p 3).exec.isSome = true ∧ u = seqBusy p w

end Sys2Proof.Safety
end

