-- ==== Sys2Proof/Certificates/Slice0/Obligations.lean ====
section
/-!
DEFINITION. Obligations.lean: the statements about the MQ7016 that the provers are asked to prove, in the order of
OBLIGATIONS.json. A statement whose text names entries of notes/assumptions rests on choices of the model in part.
-/
open Sys2Proof Sys2Proof.Machine Sys2Proof.Safety

/-- A step runs the command at the front of the queue on the state with the rest of the queue (spec/opcode_table.json,
spec/00_scope.md R9). Rests in part on the choices of the model in notes/assumptions/1, 86. -/
def Obligations.StepRunsTheFrontCommand : Prop :=
  ∀ (c : Instr) (q : List Instr) (s : State), step { s with pending := c :: q } = exec c { s with pending := q }

/-- The model's choice (log 3): on an empty queue a step is one nanosecond, and DT counts exactly while the beat runs
(spec/05_time_base_windows_and_the_commit_instant.md R102). Rests in part on the choices of the model in
notes/assumptions/3. -/
def Obligations.IdleStepIsANanosecond : Prop :=
  ∀ s : State, s.pending = [] → s.boot.state ≠ .coldReset → s.boot.state ≠ .tripped →
    ∃ t, step s = .next t ∧ t.boot.sinceNs = s.boot.sinceNs + 1 ∧
      (s.boot.beat = true → t.time.dt = (s.time.dt + 1) % 2 ^ 64) ∧ (s.boot.beat = false → t.time.dt = s.time.dt) ∧
      t.pending = [] ∧ t.hbm = s.hbm ∧ t.flash = s.flash ∧ t.fuses = s.fuses ∧ t.cfg = s.cfg ∧ t.out = s.out

/-- The state after reset is COLD_RESET: GROUP_SYNC_n low, DT 0, HBM empty, every epoch 0, no job, every link and plane
OFF (spec/03_power_on_reset_and_clock_domains.md R46, spec/03_power_on_reset_and_clock_domains.md R50). Rests in
part on the choices of the model in notes/assumptions/19, 20. -/
def Obligations.ResetStateIsColdReset : Prop :=
  State.reset.boot.state = .coldReset ∧ State.reset.pins.groupSyncLow = true ∧ State.reset.pending = [] ∧
  State.reset.hbm = [] ∧ State.reset.time.dt = 0 ∧
  (∀ p : PartId, (getPart State.reset p).epoch = 0 ∧ (getPart State.reset p).job.open_ = false) ∧
  (∀ l : LinkId, (getLink State.reset l).state = .off) ∧ (∀ pl : PlaneId, (getPlane State.reset pl).state = .off)

/-- Cold reset from any state: every domain at its reset value, fuses and flash kept, GROUP_SYNC_n low, the trigger held
(spec/03_power_on_reset_and_clock_domains.md R45, spec/03_power_on_reset_and_clock_domains.md R46,
spec/03_power_on_reset_and_clock_domains.md R50, spec/24_signals_and_electrical.md R590,
spec/24_signals_and_electrical.md R597). Rests in part on the choices of the model in notes/assumptions/20, 82. -/
def Obligations.ColdResetsFromAnyState : Prop :=
  ∀ s : State,
    (∃ t, exec .pwrGoodFall s = .next t ∧ ColdOf s t true false ∧ t.pins.pwrGood = false) ∧
    (∃ t, exec .boardResetAssert s = .next t ∧ ColdOf s t false true ∧ t.pins.boardReset = false) ∧
    (∀ rail : Nat, s.boot.state ≠ .coldReset → (s.boot.state = .tripped → rail ≤ 1) →
      ∃ t, exec (.railBelowThreshold rail) s = .next t ∧ ColdOf s t true false) ∧
    (s.boot.state ≠ .coldReset →
      ∃ t, exec .testEnHigh s = .next t ∧ ColdOf s t false false ∧ t.pins.testEn = true) ∧
    (s.boot.state = .coldReset → exec .testEnHigh s = .next { s with pins := { s.pins with testEn := true } })

/-- A management write of DEV_RESET_REQ with WARM is a warm reset with its cause; both resets end in ROM; PARTITION bits
reset partitions (spec/03_power_on_reset_and_clock_domains.md R45, spec/03_power_on_reset_and_clock_domains.md R46,
spec/03_power_on_reset_and_clock_domains.md R49, spec/03_power_on_reset_and_clock_domains.md R50,
spec/03_power_on_reset_and_clock_domains.md R55, spec/03_power_on_reset_and_clock_domains.md R66,
spec/12_dispatch_and_combine.md R317, spec/21_security_and_life_cycle.md R526, spec/21_security_and_life_cycle.md
R548). Rests in part on the choices of the model in notes/assumptions/82. -/
def Obligations.WarmResetsAndTheRomTheyReach : Prop :=
  ∀ s : State,
    (∀ v : Nat, resetReqOk .mgt v s = true → bitOf v 0 = true → s.boot.state ≠ .coldReset → s.boot.state ≠ .tripped →
      ∃ t, exec (.devResetReqWarm .mgt v) s = .next t ∧ WarmOf (notePartitionReq v s) t 3) ∧
    (∀ v : Nat, resetReqOk .mgt v s = true → bitOf v 0 = false → clocked s = true → s.boot.state = .warmReset →
      exec (.devResetReqPartition .mgt v) s = .next (notePartitionReq v s)) ∧
    (∀ v : Nat, resetReqOk .mgt v s = true → bitOf v 0 = false → clocked s = true → s.boot.state ≠ .warmReset →
      exec (.devResetReqPartition .mgt v) s = .next (eachOf (allParts.filter (fun p => bitOf v (4 + p.val)))
        (fun p s => resetPartition p .partition 0 s) (notePartitionReq v s))) ∧
    (s.boot.state = .coldReset → s.pins.testEn = false → s.sec.logSeq = 0 →
      ∃ t, exec .coldResetRelease s = .next t ∧ t.boot.state = .rom ∧ t.boot.cause = b2n s.boot.coldPower + 2 * b2n s.boot.coldBoard ∧
      t.net.startId = Config.freeValue s.free % 2 ^ 32 ∧ t.free = s.free + 1 ∧ t.fuses = s.fuses ∧ t.flash = s.flash ∧ t.hbm = s.hbm ∧
      t.parts = s.parts ∧ t.ports = s.ports ∧ t.out = s.out) ∧
    (s.boot.state = .warmReset → s.sec.logSeq = 0 →
      ∃ t, exec .warmResetComplete s = .next t ∧ t.boot.state = .rom ∧ t.boot.cause = s.boot.cause ∧ t.boot.retry = s.boot.retry ∧
      t.net.startId = Config.freeValue s.free % 2 ^ 32 ∧ t.free = s.free + 1 ∧ t.fuses = s.fuses ∧ t.flash = s.flash ∧ t.hbm = s.hbm ∧
      t.parts = s.parts ∧ t.ports = s.ports ∧ t.out = s.out) ∧
    (s.boot.state = .warmReset →
      exec .warmResetComplete s = .next (let u := romLog s
      { u with
        boot := { u.boot with state := .rom, mainLock := true, timeLock := true }
        pins := { u.pins with flashDriven := true }
        img := { u.img with floor := u.fuses.floor }
        net := { u.net with startId := Config.freeValue u.free % 2 ^ 32 }
        free := u.free + 1 }) ∧ romLog s = lcRecover (voidTorn s)) ∧
    (slotTorn s = true →
      (voidTorn s).flash = flashWriteN s.flash (slotAddr (s.sec.logSeq - 1) + 16) [0, 0] ∧ (voidTorn s).sec.logH = chainBefore s (s.sec.logSeq - 1) ∧
      (voidTorn s).sec.logSeq = s.sec.logSeq ∧ (voidTorn s).fuses = s.fuses) ∧
    (openLc s = none → lcRecover s = s) ∧
    (∀ (r : Bytes), openLc s = some r → lcReads (leAt r 24 2) s = true →
      (lcRecover s).fuses = mendLc (leAt r 24 2) s.fuses) ∧
    (∀ (r : Bytes), openLc s = some r → lcReads (leAt r 24 2) s = false →
      (lcRecover s).fuses = s.fuses ∧ (lcRecover s).hbm = s.hbm) ∧
    (∀ p : PartId, (getPart s p).resetting = true →
      exec (.partitionResetComplete p) s = .next (msixPart p 8 (updPart s p (fun q => { q with
        resetting := false, halted := false, torn := false, tds := manifestTds q }))))

/-- Start-up by the transition table: ROM, VERIFY, SELFTEST, FW_LOAD, BIST_READ and HBM training, with their SAFE causes
(spec/03_power_on_reset_and_clock_domains.md R50, spec/03_power_on_reset_and_clock_domains.md R51,
spec/03_power_on_reset_and_clock_domains.md R55, spec/03_power_on_reset_and_clock_domains.md R56,
spec/04_the_ecano_image.md R92, spec/04_the_ecano_image.md R93, spec/04_the_ecano_image.md R94,
spec/21_security_and_life_cycle.md R527, spec/21_security_and_life_cycle.md R542). Rests in part on the choices of
the model in notes/assumptions/66, 81. -/
def Obligations.StartUpFromRomToTraining : Prop :=
  ∀ s : State,
    (s.boot.state = .rom → s.boot.retry = 3 →
      ∃ t, exec .romBankChoice s = .next t ∧ t.boot = { s.boot with state := .selftest, heldCause := 5 } ∧
      t.flash = s.flash ∧ t.fuses = s.fuses ∧ t.parts = s.parts ∧ t.cfg = s.cfg ∧ t.out = s.out) ∧
    (s.boot.state = .rom → s.boot.retry ≠ 3 → (lifeCycle s = .blank ∨ lifeCycle s = .decommissioned) →
      ∃ t, exec .romBankChoice s = .next t ∧ t.boot = { s.boot with state := .selftest, heldCause := 1 } ∧
      t.flash = s.flash ∧ t.fuses = s.fuses ∧ t.parts = s.parts ∧ t.cfg = s.cfg ∧ t.out = s.out) ∧
    (s.boot.state = .rom → s.boot.retry ≠ 3 → lifeCycle s ≠ .blank → lifeCycle s ≠ .decommissioned →
      ∃ t, exec .romBankChoice s = .next t ∧ t.img.candidates = bankOrder (probeFlash s) ∧
      t.img.bankA = headerStatus (headerResult (probeFlash s) s.flash false) ∧
      t.img.bankB = headerStatus (headerResult (probeFlash s) s.flash true) ∧
      t.boot = (if (bankOrder (probeFlash s)).isEmpty = true then { s.boot with state := .selftest, heldCause := 1 } else { s.boot with state := .verify }) ∧
      t.fuses = s.fuses ∧ t.parts = s.parts ∧ t.cfg = s.cfg ∧ t.hbm = s.hbm ∧ t.out = s.out) ∧
    (∀ (errs : List Nat) (b : Bool), s.boot.state = .verify → s.img.candidates = [b] →
      ∃ t, exec (.imageVerifyDone errs) s = .next t ∧ t.fuses = s.fuses ∧
      (match verifyImage s s.flash b with
       | .ok i => (i.comps.find? (fun x => x.kind == 4) = none → t.boot = { s.boot with state := .selftest, bankB := b } ∧ t.img.chosen = some b ∧
           t.img.image = some i ∧ t.cfg.seq = i.seq ∧ t.cfg.digest = i.digest ∧ t.cfg.sec = i.sec ∧ t.flash = s.flash ∧ t.hbm = s.hbm)
       | .error _ => t.boot = { s.boot with state := .selftest, heldCause := 1 } ∧ t.img.candidates = [] ∧ t.cfg = s.cfg ∧ t.hbm = s.hbm)) ∧
    (∀ f : Nat, s.boot.state = .selftest → f ≠ 0 →
      ∃ t, exec (.selftestDone f) s = .next t ∧ t.boot.state = .error ∧ t.pins = { s.pins with faultLow := true, groupSyncLow := false } ∧
      (∀ k : PortId, (getPort t k).rrs = false) ∧
      t.sec.selftestPassed = false ∧ t.sec.selftestLast = f ∧ t.fuses = s.fuses ∧ t.cfg = s.cfg ∧
      (∀ l, (getLink t l).state = .off) ∧ (∀ pl, (getPlane t pl).state = .off)) ∧
    (s.boot.state = .selftest → s.boot.heldCause ≠ 0 →
      ∃ t, exec (.selftestDone 0) s = .next t ∧ t.boot.state = .safe ∧ t.boot.safeCause = s.boot.heldCause ∧
      t.pins = { s.pins with faultLow := true, groupSyncLow := false } ∧ t.sec.selftestPassed = true ∧ t.fuses = s.fuses ∧ t.cfg = s.cfg ∧ t.parts = s.parts ∧
      (∀ k : PortId, k ≠ 0 → (getPort t k).quiet = true)) ∧
    (s.boot.state = .selftest → s.boot.heldCause = 0 →
      ∃ t, exec (.selftestDone 0) s = .next t ∧ t.boot = { s.boot with state := .fwLoad } ∧ t.pins = s.pins ∧
      t.sec.selftestPassed = true ∧ t.fuses = s.fuses ∧ t.cfg = s.cfg ∧ t.parts = s.parts ∧ t.ports = s.ports) ∧
    (∀ (errs : List Nat) (i : ImageCfg) (b : Bool), s.boot.state = .fwLoad → s.img.image = some i → s.img.chosen = some b →
      ∃ t, exec (.garkuLoadDone errs) s = .next t ∧
      (compLoadOk s.flash b errs i.garku = false → SafeOf s t 2) ∧
      (compLoadOk s.flash b errs i.garku = true →
        ((i.comps.filter (fun x => x.kind == 3 || x.kind == 5)).all (compLoadOk s.flash b errs)) = true →
        t.boot = { s.boot with state := .bistRead } ∧ t.mgt.fwState = 1 ∧ t.mgt.wdtLeft = i.tmo.watchdogMs * 1000000 ∧
        t.cfg.ports = i.ports ∧ t.cfg.tmo = i.tmo ∧ t.power.limitW = i.clock.boardPowerW ∧ t.fuses = s.fuses ∧ t.flash = s.flash ∧ t.parts = s.parts)) ∧
    (∀ errs : List Nat, s.boot.state = .bistRead → bistCritical s = true →
      ∃ t, exec (.bistReadDone errs) s = .next t ∧ t.boot.state = .safe ∧ t.boot.safeCause = 3 ∧ t.bist.applied = s.bist.standing ∧
      t.bist.slotsApplied = s.bist.slots ∧ t.pins = { s.pins with faultLow := true, groupSyncLow := false } ∧ t.cfg = s.cfg ∧ t.fuses = s.fuses) ∧
    (∀ (errs : List Nat) (i : ImageCfg) (b : Bool), s.boot.state = .bistRead → bistCritical s = false → s.img.image = some i → s.img.chosen = some b → (∀ x, i.comps.find? (fun x => x.kind == 2) = some x → compLoadOk s.flash b errs x = true) →
      ∃ t, exec (.bistReadDone errs) s = .next t ∧ t.boot.state = .clockAlign ∧ t.boot.pstate = i.clock.bootPstate ∧
      t.boot.clustersDisabled = decide (s.bist.standing % 256 ≠ 0) ∧ (∀ k : ClusterId, (getCluster t k).disabled = bitOf (s.bist.standing % 256) k.val) ∧
      t.cfg.parts = i.parts.map (withoutClusters (s.bist.standing % 256)) ∧ t.cfg.home = i.home.map (homeWithout (s.bist.standing % 256)) ∧
      t.cfg.group = i.group ∧ t.cfg.det = i.det ∧ t.fuses = s.fuses ∧ t.flash = s.flash ∧ t.pins = s.pins ∧ t.out = s.out) ∧
    (s.boot.state = .clockAlign → s.boot.hbmTrained = false →
      exec (.hbmTrainDone true) s = .next { s with boot := { s.boot with hbmTrained := true } }) ∧
    (s.boot.state = .clockAlign → s.boot.hbmTrained = false →
      ∃ t, exec (.hbmTrainDone false) s = .next t ∧ SafeOf s t 4)

/-- CLOCK_ALIGN to READY: the clear and the release of GROUP_SYNC_n, the rise or timeout starts the beat at DT 0, then
LINK_TRAIN, TIME_SYNC, READY (spec/03_power_on_reset_and_clock_domains.md R50,
spec/03_power_on_reset_and_clock_domains.md R61, spec/03_power_on_reset_and_clock_domains.md R62,
spec/03_power_on_reset_and_clock_domains.md R63, spec/03_power_on_reset_and_clock_domains.md R64,
spec/04_the_ecano_image.md R93, spec/02_groups_systems_and_addressing.md R40). Rests in part on the choices of the
model in notes/assumptions/81. -/
def Obligations.AlignmentTrainingAndTimeSync : Prop :=
  ∀ s : State,
    (∀ errs : List Nat, s.boot.state = .clockAlign → s.boot.hbmTrained = true → s.pins.groupSyncLow = true → s.boot.alignCause ≠ 2 →
      exec (.hbmClearDone errs) s = .next { s with
        hbm := []
        hbmPoison := []
        hbmErr := []
        pins := { s.pins with groupSyncLow := false }
        boot := { s.boot with releaseNs := s.boot.sinceNs } }) ∧
    (∀ errs : List Nat, s.boot.state = .clockAlign → s.boot.hbmTrained = true → s.pins.groupSyncLow = true → s.boot.alignCause = 2 →
      exec (.hbmClearDone errs) s = .next (enterLinkTrain errs false 2 0 { s with
        hbm := []
        hbmPoison := []
        hbmErr := []
        pins := { s.pins with groupSyncLow := false }
        boot := { s.boot with releaseNs := s.boot.sinceNs } })) ∧
    (∀ (errs : List Nat) (since : Nat), s.boot.state = .clockAlign → s.pins.groupSyncLow = false → s.boot.sinceNs = s.boot.releaseNs + since →
      edgeRun ≤ since → since ≤ s.cfg.tmo.alignMs * 1000000 →
      exec (.groupSyncRise errs) s = .next (enterLinkTrain errs true 0 ((since - edgeRun) / 1000) s)) ∧
    (∀ (errs : List Nat) (since : Nat), s.boot.state = .clockAlign → s.pins.groupSyncLow = false → s.boot.sinceNs = s.boot.releaseNs + since →
      s.cfg.tmo.alignMs * 1000000 ≤ since →
      exec (.alignTimeout errs) s = .next (enterLinkTrain errs false 1 (since / 1000) s)) ∧
    (∀ (errs : List Nat) (i : ImageCfg) (b al : Bool) (cause wait : Nat), s.img.image = some i → s.img.chosen = some b →
      (∀ x, i.comps.find? (fun x => x.kind == 1) = some x → compLoadOk s.flash b errs x = true) →
      enterLinkTrain errs al cause wait s = startLinks { s with
        boot := { s.boot with state := .linkTrain, beat := true, aligned := al, alignCause := cause, waitUs := wait, stageNs := s.boot.sinceNs }
        time := { s.time with dt := 0 }
        cfg := { s.cfg with link := i.link, topo := i.topo } }) ∧
    (s.pins.groupSyncLow = true → s.boot.state ≠ .coldReset → s.boot.state ≠ .tripped → s.boot.alignCause = 3 →
      (s.boot.warm = true → 10000 ≤ s.boot.sinceNs) →
      exec .groupSyncLineHigh s = .next { s with boot := { s.boot with alignCause := 2 } }) ∧
    (s.boot.state = .linkTrain → linksDown s = false →
      exec .linkTrainEnd s = .next (enterTimeSync s) ∧ (enterTimeSync s).boot.state = .timeSync ∧
      (enterTimeSync s).boot.linksIncomplete = false) ∧
    (s.boot.state = .linkTrain → s.boot.stageNs + s.cfg.tmo.linkTrainMs * 1000000 ≤ s.boot.sinceNs →
      exec .linkTrainTimeout s = .next (enterTimeSync s) ∧ (enterTimeSync s).boot.state = .timeSync ∧
      (enterTimeSync s).boot.linksIncomplete = linksDown s) ∧
    (s.boot.state = .timeSync → s.time.groupSync = true → exec .timeSyncAchieved s = .next (enterReady s)) ∧
    (s.boot.state = .timeSync → s.boot.stageNs + s.cfg.tmo.timeSyncMs * 1000000 ≤ s.boot.sinceNs →
      exec .timeSyncTimeout s = .next (enterReady { s with boot := { s.boot with timeUnsync := !s.time.groupSync } })) ∧
    ((enterReady s).boot.state = .ready ∧ (enterReady s).boot.retry = 0 ∧ (enterReady s).boot.timeUnsync = s.boot.timeUnsync)

/-- THERMAL_TRIP stops the device with its latch, FW_WATCHDOG restarts firmware once and then resets, the fallback steps
P-states down (spec/03_power_on_reset_and_clock_domains.md R50, spec/20_power_and_thermal.md R504,
spec/23_policy_firmware_and_management.md R570, spec/23_policy_firmware_and_management.md R571,
spec/23_policy_firmware_and_management.md R576). Rests in part on the choices of the model in notes/assumptions/82. -/
def Obligations.TripWatchdogAndFallback : Prop :=
  ∀ s : State,
    (∀ sensor value : Nat, s.boot.state ≠ .coldReset → s.boot.state ≠ .tripped →
      exec (.thermalTrip sensor value) s = .next { s with
        boot := { s.boot with
          state := .tripped
          trip := { held := true, sensor := sensor, value := BitVec.ofNat 16 value } }
        pins := { s.pins with thermtripLow := true, groupSyncLow := false }
        ports := s.ports.map (fun q => { q with gen := 0, width := 0, rrs := true }) }) ∧
    (s.mgt.fwState = 1 → s.mgt.wdtLeft = 0 →
      exec .fwWatchdog s = .next
        (let u := cntDev 0x0105000C 1 (mgtRecord { code := 0x0603, cls := .corrected, source := 0xB } s)
         { u with
           mgt := { u.mgt with fwState := 2, fallback := true, wdtLeft := u.cfg.tmo.watchdogMs * 1000000, alertAt := u.boot.sinceNs }
           power := { u.power with limitW := min u.power.limitW u.cfg.clock.boardPowerW } })) ∧
    (s.mgt.fwState = 2 → s.mgt.wdtLeft = 0 →
      exec .fwWatchdog s = .next (warmReset 4 (mgtRecord { code := 0x0603, cls := .device, source := 0xB } s))) ∧
    (s.mgt.fwState = 2 → s.power.alert = true → s.cfg.clock.pinPstate = none → s.mgt.alertAt + 10000000 ≤ s.boot.sinceNs →
      exec .fallbackAlertStep s = .next (requestPstate (lowerPstate s s.boot.pstate)
        { s with mgt := { s.mgt with alertAt := s.mgt.alertAt + 10000000 } })) ∧
    (∀ p : Nat, p < s.boot.pstate → s.mgt.fwState = 2 → requestPstate p s = { s with power := { s.power with held := some p } }) ∧
    (∀ r : Requester, isMgt r s = true → s.mgt.fwState ≠ 0 →
      exec (.mgtWdtRefresh r 0xD06E0001) s = .next (releaseHeld { s with
        mgt := { s.mgt with fwState := 1, fallback := false, wdtLeft := s.cfg.tmo.watchdogMs * 1000000 } })) ∧
    (∀ (r : Requester) (v : Nat), v ≠ 0xD06E0001 → exec (.mgtWdtRefresh r v) s = .next s)

/-- Register reads and writes: who is served, whole aligned words only, a poisoned host write is counted and dropped,
configuration requests completed or retried, BAR2 reads zero (spec/00_scope.md R9, spec/00_scope.md R10, spec/00_scope.md R11, spec/00_scope.md R12, spec/06_host_ports.md R127, spec/06_host_ports.md R132,
spec/06_host_ports.md R133, spec/06_host_ports.md R139,
spec/06_host_ports.md R146, spec/23_policy_firmware_and_management.md R573). Rests in part on the choices of the
model in notes/assumptions/2, 71, 72. -/
def Obligations.RegisterReadsAndWrites : Prop :=
  ∀ s : State,
    (∀ off len : Nat, mgtOpen .mgt s = true →
      ∃ t, exec (.rcRegisterRead .mgt (.reg off) len) s = .next t ∧ t.out = .regValue .mgt off (readValue .mgt off len s).1 :: s.out ∧
      t.regs = s.regs ∧ t.parts = s.parts ∧ t.ports = s.ports ∧ t.hbm = s.hbm ∧ t.cfg = s.cfg ∧ t.fuses = s.fuses) ∧
    (∀ (k : PortId) (off len : Nat) (u : State), hostMem k false (some off) s = (.go, u) → off % 8 + len ≤ 8 →
      exec (.rcRegisterRead (.hp k) (.reg off) len) s = .next (readServed (.hp k) off len u)) ∧
    (∀ (k : PortId) (off len : Nat) (u : State), hostMem k false (some off) s = (.ur, u) →
      exec (.rcRegisterRead (.hp k) (.reg off) len) s = .next (emit (.completion k 1 []) u)) ∧
    (∀ (r : Requester) (off : Nat),
      exec (.lowHalfRead r off) s = exec (.rcRegisterRead r (.reg off) 4) s ∧ exec (.highHalfRead r off) s = exec (.rcRegisterRead r (.reg off) 4) s ∧
      exec (.lowHalfRead r off) s = .next (readReg r off 4 s) ∧ exec (.highHalfRead r off) s = .next (readReg r off 4 s)) ∧
    (∀ off len v : Nat, mgtOpen .mgt s = true → inWindow off = false →
      exec (.registerWrite .mgt (.reg off) len v false) s = .next (eachWord off len v writeMgtWord s)) ∧
    (∀ off len v : Nat, mgtOpen .mgt s = true → inWindow off = true →
      exec (.registerWrite .mgt (.reg off) len v false) s = .next (writeWindow off (toLe len v) s)) ∧
    (∀ (k : PortId) (off len v : Nat) (u : State), hostMem k false (some off) s = (.go, u) → off % 8 + len ≤ 8 →
      exec (.registerWrite (.hp k) (.reg off) len v false) s = .next (eachWord off len v (writeHostWord k) u)) ∧
    (∀ (k : PortId) (off len v : Nat) (u : State), hostMem k false (some off) s = (.go, u) →
      exec (.registerWrite (.hp k) (.reg off) len v true) s = .next (poisonedWrite k u)) ∧
    (∀ (k : PortId) (off len v : Nat) (u : State), hostMem k false (some off) s = (.zero, u) → off % 8 + len ≤ 8 →
      exec (.rcRegisterRead (.hp k) (.reg off) len) s = .next (emit (.regValue (.hp k) off 0) u) ∧
      exec (.registerWrite (.hp k) (.reg off) len v false) s = .next u) ∧
    (∀ (k : PortId) (a : RegAddr) (len v : Nat), regOffset a = none → a ≠ .unsupported → (∀ x, a ≠ .bar2 x) → cfgOpen s k = true →
      exec (.rcRegisterRead (.hp k) a len) s = .next (emit (.completion k 0 (toLe len (configValue s k a))) (leaveL1 k s)) ∧
      exec (.registerWrite (.hp k) a len v false) s = .next (emit (.completion k 0 []) (setConfig k a v (leaveL1 k s)))) ∧
    (∀ (k : PortId) (a : RegAddr) (len v : Nat), regOffset a = none → a ≠ .unsupported → (∀ x, a ≠ .bar2 x) → cfgOpen s k = false → cfgReach s k = true →
      exec (.rcRegisterRead (.hp k) a len) s = .next (emit (.completion k 3 []) s) ∧
      exec (.registerWrite (.hp k) a len v false) s = .next (emit (.completion k 3 []) s)) ∧
    (∀ (k : PortId) (off len : Nat) (u : State), hostMem k false none s = (.go, u) →
      exec (.rcRegisterRead (.hp k) (.bar2 off) len) s = .next (emit (.completion k 0 (List.replicate len 0)) u)) ∧
    (∀ (k : PortId) (len v : Nat), cfgReach s k = true →
      exec (.rcRegisterRead (.hp k) .unsupported len) s = .next (emit (.completion k 1 []) (leaveL1 k s)) ∧
      exec (.registerWrite (.hp k) .unsupported len v false) s = .next (emit (.completion k 1 []) (leaveL1 k s))) ∧
    (∀ (off len v : Nat) (f : Nat → Nat → State → State), (off % 4 ≠ 0 ∨ len % 4 ≠ 0) →
      eachWord off len v f s = s)

/-- BAR2 and BAR4 accesses of a READY device: the window blocks, the region bound, the bytes read and written,
out-of-range accesses (spec/06_host_ports.md R133, spec/06_host_ports.md R134, spec/06_host_ports.md R136,
spec/06_host_ports.md R137, spec/06_host_ports.md R146, spec/16_partitions_scheduling_and_deadlines.md R416). Rests
in part on the choices of the model in notes/assumptions/19, 21, 37. -/
def Obligations.HostBarAccesses : Prop :=
  ∀ s : State,
    (∀ (r : Requester) (b : Bool) (k : PortId) (p : PartId) (off : Nat) (data : Bytes) (ep : Bool) (u : State), portReq r = some (k, b) → hostMem k b none s = (.go, u) → partOf u k = some p → off + data.length ≤ 0x4000000 →
      exec (.bar2Write r off data ep) s = .next (eachOf (blockPieces off data.length) (bar2Piece k p off ep data)
        (if ep then poisonedWrite k u else u))) ∧
    (∀ (r : Requester) (b : Bool) (k : PortId) (p : PartId) (off len x : Nat) (ecc : List EccFind) (u : State), portReq r = some (k, b) → hostMem k b none (bar4Ecc r off len false ecc s) = (.go, u) → partOf u k = some p → bar4Fits u k off len = true → bar4Addr u k p off len = some x → bar4Credit u k p = true →
      exec (.bar4Read r off len ecc) s = .next (eachOf (blockPieces x len) (fun e s =>
        emit (.completion k (if spacePoisoned s p 0 e.1 e.2 then 2 else 0) (spaceRead s p 0 e.1 e.2)) s)
        (eachOf (badGranules u p x len) (fun g s => record p (ueRec s p 0 g) s) (meetHbm p 0 x len (charge p 3 len (charge p 0 len u)))))) ∧
    (∀ (r : Requester) (b : Bool) (k : PortId) (p : PartId) (off len x : Nat) (ecc : List EccFind) (u : State), portReq r = some (k, b) → hostMem k b none (bar4Ecc r off len false ecc s) = (.go, u) → partOf u k = some p → bar4Fits u k off len = true → bar4Addr u k p off len = some x → bar4Credit u k p = false →
      exec (.bar4Read r off len ecc) s = .next (bar4Hold k p (off, len, none) u)) ∧
    (∀ (r : Requester) (b : Bool) (k : PortId) (p : PartId) (off len : Nat) (ecc : List EccFind) (u : State), portReq r = some (k, b) → hostMem k b none (bar4Ecc r off len false ecc s) = (.go, u) → partOf u k = some p → bar4Fits u k off len = true → bar4Addr u k p off len = none →
      exec (.bar4Read r off len ecc) s = .next (emit (.completion k 1 []) (bar4Refuse k p off u))) ∧
    (∀ (r : Requester) (b : Bool) (k : PortId) (p : PartId) (off x : Nat) (data : Bytes) (ep : Bool) (ecc : List EccFind) (u : State), portReq r = some (k, b) → hostMem k b none (bar4Ecc r off data.length true ecc s) = (.go, u) → partOf u k = some p → bar4Fits u k off data.length = true → bar4Addr u k p off data.length = some x → bar4Credit u k p = true →
      exec (.bar4Write r off data ep ecc) s = .next
        (let w := settleMerge p 0 0 (spaceWrite p 0 x data (charge p 3 data.length (if ep then poisonedWrite k u else u)))
         if ep then spaceMark p 0 x data.length w else w)) ∧
    (∀ (r : Requester) (b : Bool) (k : PortId) (p : PartId) (off x : Nat) (data : Bytes) (ep : Bool) (ecc : List EccFind) (u : State), portReq r = some (k, b) → hostMem k b none (bar4Ecc r off data.length true ecc s) = (.go, u) → partOf u k = some p → bar4Fits u k off data.length = true → bar4Addr u k p off data.length = some x → bar4Credit u k p = false →
      exec (.bar4Write r off data ep ecc) s = .next (bar4Hold k p (off, data.length, some (data, ep)) u)) ∧
    (∀ (r : Requester) (b : Bool) (k : PortId) (p : PartId) (off : Nat) (data : Bytes) (ep : Bool) (ecc : List EccFind) (u : State), portReq r = some (k, b) → hostMem k b none (bar4Ecc r off data.length true ecc s) = (.go, u) → partOf u k = some p → bar4Fits u k off data.length = true → bar4Addr u k p off data.length = none →
      exec (.bar4Write r off data ep ecc) s = .next (bar4Refuse k p off (if ep then poisonedWrite k u else u)))

/-- A BAR4 read answers EP for each completion whose granule is poisoned; a BAR4 write clears the marks of whole
granules, keeps the others, and marks a granule whose merge meets an uncorrectable word (spec/06_host_ports.md R137,
spec/18_errors_recovery_and_ordering.md R461). Rests in part on the choices of the model in notes/assumptions/37. -/
def Obligations.PoisonMarksOfBar4Granules : Prop :=
  ∀ s : State,
    (∀ (r : Requester) (b : Bool) (k : PortId) (p : PartId) (off len x : Nat) (u : State), portReq r = some (k, b) → hostMem k b none s = (.go, u) → partOf u k = some p → bar4Fits u k off len = true → bar4Addr u k p off len = some x → bar4Credit u k p = true → (∀ g, tabGet .none u.hbmErr g = .none) →
      ∃ t, exec (.bar4Read r off len []) s = .next t ∧
      t.out = ((blockPieces x len).map (fun e => Emit.completion k (if rangePoisoned u.hbmPoison (hbmBase u p + e.1) e.2 then 2 else 0)
        (memReadN u.hbm (hbmBase u p + e.1) e.2))).reverse ++ (eachOf (badGranules u p x len) (fun g s => record p (ueRec s p 0 g) s) (charge p 3 len (charge p 0 len u))).out ∧
      (∀ e ∈ blockPieces x len, e.1 / Config.granule = (e.1 + e.2 - 1) / Config.granule ∧ 0 < e.2)) ∧
    (∀ (r : Requester) (b : Bool) (k : PortId) (p : PartId) (off x : Nat) (data : Bytes) (u : State), portReq r = some (k, b) → hostMem k b none s = (.go, u) → partOf u k = some p → bar4Fits u k off data.length = true → bar4Addr u k p off data.length = some x → bar4Credit u k p = true → tabWf false u.hbmPoison = true → tabWf .none u.hbmErr = true →
      ∃ t, exec (.bar4Write r off data false []) s = .next t ∧
      ∀ g, tabGet false t.hbmPoison g =
        ((tabGet false u.hbmPoison g &&
          !(decide (hbmBase u p + x ≤ g * Config.granule ∧ (g + 1) * Config.granule ≤ hbmBase u p + x + data.length))) ||
         (tabGet .none (mergeErr (hbmBase u p + x) data.length u.hbmPoison u.hbmErr) g == .ueMet && granuleOwner u g == some p)))

/-- PERST_n, FLR, DL_Down, link-up and retrain: the function and partition they reset, and how the port comes back
(spec/06_host_ports.md R130, spec/06_host_ports.md R131, spec/06_host_ports.md R148, spec/06_host_ports.md R154,
spec/06_host_ports.md R155, spec/06_host_ports.md R157, spec/06_host_ports.md R158,
spec/03_power_on_reset_and_clock_domains.md R45, spec/03_power_on_reset_and_clock_domains.md R48,
spec/03_power_on_reset_and_clock_domains.md R53). Rests in part on the choices of the model in notes/assumptions/21,
49. -/
def Obligations.PortResetsAndLink : Prop :=
  ∀ s : State,
    (∀ (k : PortId), s.pins.perstLow[k] = false → (getPort s k).downWait = false →
      exec (.perstAssert k) s = .next
        (let a := { s with pins := { s.pins with perstLow := s.pins.perstLow.set k true } }
         let b := updPort (resetFunction .perst k a) k (fun q => { q with rrs := true, reads := [] })
         driveWake k (portEvent k (resetMapped k .perst b)))) ∧
    (∀ (k : PortId), s.pins.perstLow[k] = false → (getPort s k).downWait = true →
      exec (.perstAssert k) s = .next (driveWake k (portEvent k (updPort
        { s with pins := { s.pins with perstLow := s.pins.perstLow.set k true } } k (fun q => { q with resetting := .perst, rrs := true }))))) ∧
    (∀ (k : PortId), s.pins.perstLow[k] = true →
      exec (.perstRelease k) s = .next (quietExit 2 (portEvent k (driveWake k
        { s with pins := { s.pins with perstLow := s.pins.perstLow.set k false } })))) ∧
    (∀ (k : PortId), cfgOpen s k = true →
      exec (.flr k) s = .next (emit (.completion k 0 []) (resetMapped k .flr (updPort (resetFunction .flr k (leaveL1 k s)) k
        (fun q => { q with rrs := true }))))) ∧
    (∀ (k : PortId) (p : PartId), (getPort s k).resetting ≠ .none → s.pins.perstLow[k] = false → partOf s k = some p →
      exec (.functionReady k) s = .next (partitionReady p
        (updPort s k (fun q => { q with resetting := .none, rrs := beforeMap s || q.retrain })))) ∧
    (∀ (k : PortId), s.pins.perstLow[k] = false → (getPort s k).downWait = false → (∀ p, partOf s k = some p → workOutstanding s k p = false) →
      exec (.dlDown k) s = .next (portEvent k (updPort (resetFunction .linkDown k s) k
        (fun q => { q with dmaQ := q.dmaQ.filter (fun r => !isMsixReq r) })))) ∧
    (∀ (k : PortId) (p : PartId), s.pins.perstLow[k] = false → (getPort s k).downWait = false → partOf s k = some p → workOutstanding s k p = true →
      exec (.dlDown k) s = .next
        (let u := resetFunction .linkDown k s
         let n := ((getPort u k).dmaQ.filter isWrite).length
         portEvent k (downReady k (cntPort 0x0002802C n k
           (updPort u k (fun q => { q with dmaQ := q.dmaQ.filter (tornRequest q), downWait := true })))))) ∧
    (∀ (k : PortId) (gen width : Nat) (flit rev : Bool), s.pins.perstLow[k] = false → (getPort s k).quiet = false →
      exec (.hostLinkUp k gen width flit rev) s = .next (portEvent k (updPort s k
        (fun q => { q with gen := min gen (portCap s k).1, width := min width (portCap s k).2, flit := flit, reversed := rev || (q.mapped && (portCfg s k).laneReverse) })))) ∧
    (∀ (k : PortId) (gen width : Nat), (getPort s k).retrain = true →
      exec (.portRetrainDone k gen width) s = .next (portEvent k (updPort s k (fun q => { q with
        gen := min gen (portCap s k).1, width := min width (portCap s k).2
        reversed := q.reversed || (portCfg s k).laneReverse, retrain := false, rrs := q.resetting != .none }))))

/-- D3hot and D0, PM_PME, L1, PME_Turn_Off, bus master enable, MSI-X unmask, DMA completions and their failures, an IDE
integrity failure (spec/06_host_ports.md R140, spec/06_host_ports.md R144, spec/06_host_ports.md R145,
spec/06_host_ports.md R147, spec/06_host_ports.md R148, spec/06_host_ports.md R149, spec/06_host_ports.md R150,
spec/06_host_ports.md R151, spec/06_host_ports.md R152, spec/06_host_ports.md R153). Rests in part on the choices of
the model in notes/assumptions/21, 48, 49. -/
def Obligations.PortPowerManagementAndDma : Prop :=
  ∀ s : State,
    (∀ (k : PortId) (p : PartId) (u : State), cfgOpen s k = true → (getPort s k).d3hot = false → u = portEvent k (heldWakes k (discardBlock ((getPort s k).asm.toList.filter (fun a => a.block.isSome)).length k
      (updPort (leaveL1 k s) k (fun q => { q with d3hot := true, inL1 := true, asm := .replicate 7 {} })))) → partOf u k = some p →
      exec (.powerStateD3hot k) s = .next (emit (.completion k 0 []) (xfrAdvance p u))) ∧
    (∀ (k : PortId) (p : PartId), cfgOpen s k = true → (getPort s k).d3hot = true → partOf s k = some p →
      exec (.powerStateD0 k) s = .next (emit (.completion k 0 [])
        (let a := updPort (leaveL1 k s) k (fun q => { q with
           d3hot := false
           inL1 := false
           pmePending := false
           wakeCause := if q.pmePending then maskSet q.wakeCause 8 else q.wakeCause })
         let b := updExec p 6 (fun e => { e with noted := e.noted.filter (· ≠ 0) }) a
         release k (quietExit 1 (portEvent k b))))) ∧
    (∀ (k : PortId), (getPort s k).pmePending = true → (getPort s k).d3hot = true →
      exec (.pmPmeTransmit k) s = .next (emit (.pmPme k) (updPort s k (fun q => { q with
        pmePending := false, inL1 := false, wakeCause := maskSet q.wakeCause 9 })))) ∧
    (∀ (k : PortId), (getPort s k).pmeStatus = true → (getPort s k).d3hot = true → (getPort s k).pmeEn = true → (getPort s k).pmePending = false →
      exec (.pmPmeRetransmit k) s = .next (emit (.pmPme k) (updPort s k (fun q => { q with
        inL1 := false, wakeCause := maskSet q.wakeCause 9 })))) ∧
    (∀ (k : PortId), (getPort s k).aspmL1 = true → (getPort s k).d3hot = false → (getPort s k).inL1 = false → cfgOpen s k = true → (getPort s k).reads = [] → ((getPort s k).dmaQ = [] ∨ canIssue s k = false) →
      exec (.aspmL1Entry k) s = .next (emit (.l1Request k) (updPort s k (fun q => { q with inL1 := true })))) ∧
    (∀ (k : PortId), s.pins.perstLow[k] = false → (getPort s k).turnOff = false →
      exec (.pmeTurnOff k) s = .next (turnOffReady k (updPort s k (fun q => { q with turnOff := true })))) ∧
    (∀ (k : PortId) (on : Bool), cfgOpen s k = true →
      exec (.busMasterEnableChange k on) s = .next (emit (.completion k 0 []) (release k (updPort (leaveL1 k s) k (fun q => { q with bme := on }))))) ∧
    (∀ (k : PortId) (v : Fin 16) (u : State), hostMem k false (some 0xFE0000) s = (.go, u) →
      exec (.msixUnmask k v) s = .next (msixFlush k (updPort u k
        (fun q => { q with vecs := q.vecs.set v { q.vecs[v] with mask := false } })))) ∧
    (∀ (k : PortId) (p : PartId) (tag : Nat) (data : Bytes) (r : DmaRead), (getPort s k).reads.find? (fun r => r.tag == tag) = some r → partOf s k = some p → r.got + (data.take (r.len - r.got)).length ≥ r.len →
      exec (.dmaReadCompletion k tag .ok data) s = .next (afterRead k (deliver p r.tgt r.got (data.take (r.len - r.got)) false
        (updPort s k (fun q => { q with reads := q.reads.filter (fun x => x.tag != tag) }))))) ∧
    (∀ (k : PortId) (p : PartId) (tag : Nat) (data : Bytes) (r : DmaRead), (getPort s k).reads.find? (fun r => r.tag == tag) = some r → partOf s k = some p →
      exec (.dmaReadCompletion k tag .ur data) s = .next (afterRead k (readFailed p r 0x0702 1 r.got (r.len - r.got) none
        (cntPort 0x0002800C 1 k (updPort s k (fun q => { q with reads := q.reads.filter (fun x => x.tag != tag) })))))) ∧
    (∀ (k : PortId) (tag : Nat) (st : CplStatus) (data : Bytes), (getPort s k).reads.find? (fun r => r.tag == tag) = none →
      exec (.dmaReadCompletion k tag st data) s = .next (aerUnexpected k (cntPort 0x00028010 1 k s))) ∧
    (∀ (k : PortId) (tag : Nat) (r : DmaRead), (getPort s k).reads.find? (fun r => r.tag == tag) = some r → s.boot.sinceNs < r.issued + r.timeout →
      exec (.dmaCompletionTimeout k tag) s = .next s) ∧
    (∀ (k : PortId) (p : PartId) (tag : Nat) (r : DmaRead), (getPort s k).reads.find? (fun r => r.tag == tag) = some r → partOf s k = some p → r.issued + r.timeout ≤ s.boot.sinceNs →
      exec (.dmaCompletionTimeout k tag) s = .next (afterRead k (readFailed p r 0x0701 0 r.got (r.len - r.got) none
        (cntPort 0x00028008 1 k (updPort s k (fun q => { q with reads := q.reads.filter (fun x => x.tag != tag) })))))) ∧
    (∀ (k : PortId) (i : Fin 5) (p : PartId) (u : State), (getPort s k).ide[i].secure = true → u = updPort (secLogMerged 0x0051 (16 + k.val) [BitVec.ofNat 8 (16 + k.val)] (ideInsecure k i s)) k (fun q => { q with dmaStopped := true }) → partOf u k = some p → (partCfg u p).defined = true →
      exec (.ideIntegrityFail k i) s = .next (partFault p { code := 0x0A01, source := 7 } u)) ∧
    (∀ (r : Requester) (v : Nat), mgtOpen r s = true →
      exec (.mgtWakeReqWrite r v) s = .next (eachOf allPorts (fun k s =>
        driveWake k (if bitOf v k.val && (partOf s k).isSome then wakeEvent k 3 s else s)) { s with mgt := { s.mgt with wakeReq := v % 16 } }))

/-- PPS_OUT rises at every ST that is a multiple of 10^9 ns, whether or not SYS_SYNC is 1
(spec/05_time_base_windows_and_the_commit_instant.md R104). -/
def Obligations.PpsOutMarksEverySecond : Prop :=
  ∀ s : State,
    (s.boot.beat = true → clocked s = true → sysTime s % 1000000000 = 0 →
      exec .ppsOutEdge s = .next { s with out := .ppsOut :: s.out } ∧
      ∀ b, exec .ppsOutEdge { s with time := { s.time with sysSync := b } } =
        .next { s with time := { s.time with sysSync := b }, out := .ppsOut :: s.out }) ∧
    (s.boot.beat = true → clocked s = true → sysTime s % 1000000000 ≠ 0 → exec .ppsOutEdge s = .next s)

/-- Time messages, the frequency reference, PPS_IN, PTP and the loss of the system reference: what each sets, and DT
never but in TIME_SYNC (spec/03_power_on_reset_and_clock_domains.md R64,
spec/05_time_base_windows_and_the_commit_instant.md R98, spec/05_time_base_windows_and_the_commit_instant.md R99,
spec/05_time_base_windows_and_the_commit_instant.md R100, spec/05_time_base_windows_and_the_commit_instant.md R101,
spec/05_time_base_windows_and_the_commit_instant.md R102, spec/05_time_base_windows_and_the_commit_instant.md R103,
spec/05_time_base_windows_and_the_commit_instant.md R106, spec/14_tether_links_and_transport.md R378,
spec/14_tether_links_and_transport.md R379). Rests in part on the choices of the model in notes/assumptions/5, 29,
30. -/
def Obligations.TimeBaseAndReferences : Prop :=
  ∀ s : State,
    (∀ u : State, timed s = true → s.time.isMaster = true → u = eachOf (List.range s.cfg.group.size) (timeMessageTo s.commit.fabricCount (epochBytes s.commit.epochs) (refValid s)) s →
      exec .timeMessageSend s = .next (if (List.range u.cfg.group.size).any (bondUp u) = true
        then setGroupSync (decide (min 16 (u.time.okRun + 1) ≥ 16)) { u with time := { u.time with okRun := min 16 (u.time.okRun + 1) } }
        else u)) ∧
    ((timed s = false ∨ s.time.isMaster = false) → exec .timeMessageSend s = .next s) ∧
    (∀ (fc : Nat) (tb : Bytes) (ref : Bool) (m : Nat) (l : LinkId), timeLink s m = some l →
      timeMessageTo fc tb ref m s =
        (let u := wakeLink l s
         let v := otherFlit l 3 (Config.timePayload (dtNow u) (getLink u l).timeRx) (updLink u l (fun q => { q with timeTx := some (dtNow u) }))
         emit (.timeMsg l (dtNow v) v.time.sysOffset (ownEpoch v) v.time.masterMember fc tb ref) v)) ∧
    (∀ (l : LinkId) (dt off e master m fc : Nat) (tb : Bytes) (ref : Bool) (u : State), linkMember s l = some m → timed s = true → working (getLink s l) = true → u = showEpoch (16 * s.cfg.group.group + m) (e % 4) (hearMember m master s) → u.boot.state = .timeSync → u.time.took = false →
      ∃ t, exec (.timeMessageReceive l dt off e master fc tb ref) s = .next t ∧ t.time.dt = (dt + (getLink s l).delayNs) % 2 ^ 64 ∧
      t.time.took = true ∧ t.time.okRun = 0 ∧ t.time.sysOffset = off % 2 ^ 64 ∧ t.time.sysSet = (off != 0) ∧
      (u.time.isMaster = false → t.time.source = .bridle) ∧ t.time.isMaster = u.time.isMaster ∧ t.time.masterMember = u.time.masterMember ∧
      (fc ≠ u.commit.fabricCount → t.commit = { u.commit with rejoin := true, masterTable := bytesEpochs tb }) ∧
      (fc = u.commit.fabricCount → t.commit = u.commit) ∧ t.parts = u.parts ∧ t.links = u.links) ∧
    (∀ (l : LinkId) (dt off e master m fc : Nat) (tb : Bytes) (ref : Bool) (u : State), linkMember s l = some m → timed s = true → working (getLink s l) = true → u = showEpoch (16 * s.cfg.group.group + m) (e % 4) (hearMember m master s) → u.boot.state = .ready → followed u = some m →
      exec (.timeMessageReceive l dt off e master fc tb ref) s = .next
        (let v := followTime (dt + (getLink s l).delayNs) off ref u
         eachOf ((List.range v.cfg.group.size).filter (followsMe v)) (timeMessageTo fc tb ref) v)) ∧
    (∀ (l : LinkId) (dt off e master m fc : Nat) (tb : Bytes) (ref : Bool) (u : State), linkMember s l = some m → timed s = true → working (getLink s l) = true → u = showEpoch (16 * s.cfg.group.group + m) (e % 4) (hearMember m master s) → u.boot.state = .ready → followed u ≠ some m →
      exec (.timeMessageReceive l dt off e master fc tb ref) s = .next u) ∧
    (∀ (far off : Nat) (ref : Bool) (t : State), t = followTime far off ref s →
      t.time.dt = s.time.dt ∧ t.time.source = .bridle ∧ t.time.offset = (far : Int) - dtNow s ∧
      t.time.okRun = (if ((far : Int) - dtNow s).natAbs ≤ 8 then min 16 (s.time.okRun + 1) else 0) ∧
      t.time.groupSync = decide (t.time.okRun ≥ 16) ∧ t.boot = { s.boot with timeUnsync := !t.time.groupSync } ∧
      (s.time.sysSet = true → t.time.sysOffset = s.time.sysOffset) ∧ (s.time.sysSet = false → t.time.sysOffset = off % 2 ^ 64) ∧
      (ref = false → t.time.sysRun = s.time.sysRun ∧ t.time.lastRef = s.time.lastRef) ∧
      -200000 ≤ t.time.freqPpb ∧ t.time.freqPpb ≤ 200000 ∧ t.commit = s.commit ∧ t.parts = s.parts) ∧
    (clocked s = true →
      exec .timeRefLock s = .next { s with time := { s.time with timeRefOk := true } } ∧
      exec .timeRefLoss s = .next { s with time := { s.time with timeRefOk := false } }) ∧
    (∀ (gap run : Nat), s.boot.beat = true → clocked s = true → gap = dtNow s - 4 - s.time.ppsInDt → run = (if s.time.ppsInDt ≠ 0 ∧ 999900000 ≤ gap ∧ gap ≤ 1000100000 then min 3 (s.time.ppsRun + 1) else 0) → (timed s = false ∨ s.time.isMaster = false ∨ ptpChosen s = true ∨ run < 3) →
      exec .ppsInEdge s = .next { s with time := { s.time with ppsInDt := dtNow s - 4, ppsRun := run } }) ∧
    (s.boot.beat = true → timed s = true → s.time.isMaster = true → ptpChosen s = false → 2 ≤ s.time.ppsRun → s.time.ppsInDt ≠ 0 → dtNow s - 4 - s.time.ppsInDt = 1000000000 → s.time.sysSet = false →
      ∃ t, exec .ppsInEdge s = .next t ∧ t.time.sysSet = true ∧ t.time.source = .ppsIn ∧ t.time.dt = s.time.dt ∧ t.time.ppsRun = 3 ∧
      t.time.sysOffset = ((dtNow s - 4) / 1000000000 + 1) * 1000000000 - (dtNow s - 4) ∧ t.boot = s.boot ∧ t.parts = s.parts) ∧
    (s.boot.beat = true → timed s = true → s.time.isMaster = true → ptpChosen s = false → 2 ≤ s.time.ppsRun → s.time.ppsInDt ≠ 0 → dtNow s - 4 - s.time.ppsInDt = 1000000000 → s.time.sysSet = true →
      ∃ t, exec .ppsInEdge s = .next t ∧ t.time.offset = ppsOffset (dtNow s - 4 + s.time.sysOffset) ∧ t.time.sysOffset = s.time.sysOffset ∧
      t.time.source = .ppsIn ∧ t.time.dt = s.time.dt ∧ t.time.lastRef = dtNow s ∧
      t.time.sysRun = (if (ppsOffset (dtNow s - 4 + s.time.sysOffset)).natAbs ≤ 2000 then min 16 (s.time.sysRun + 1) else 0) ∧
      t.boot = s.boot ∧ t.parts = s.parts) ∧
    (∀ (pl : PlaneId) (k : PtpKind), (placePtp s).time.ptp.plane ≠ some pl.val →
      exec (.ptpEventMessage pl (.send k)) s = .next (placePtp s)) ∧
    (∀ (pl : PlaneId) (f : EthCheck) (m : PtpMsg), (getPlane (placePtp s) pl).state ≠ .up →
      exec (.ptpEventMessage pl (.receive f m)) s = .next (placePtp s)) ∧
    (∀ (pl : PlaneId) (f : EthCheck) (m : PtpMsg) (t : State), (getPlane (placePtp s) pl).state = .up → ethBad pl f (placePtp s) = some t →
      exec (.ptpEventMessage pl (.receive f m)) s = .next t) ∧
    (∀ (pl : PlaneId) (f : EthCheck) (m : PtpMsg) (u : State), (getPlane (placePtp s) pl).state = .up → ethBad pl f (placePtp s) = none → u = notePn pl (ethPn f) (placePtp s) →
      exec (.ptpEventMessage pl (.receive f m)) s = .next (if u.time.ptp.plane = some pl.val then ptpReceive pl m u else u)) ∧
    (∀ (pl : PlaneId) (k : PtpKind), (placePtp s).time.ptp.plane = some pl.val →
      exec (.ptpEventMessage pl (.send k)) s = .next (ptpSend pl k (placePtp s))) ∧
    (∀ (pl : PlaneId) (m : PtpMsg), m.kind = .sync → m.domain = 0 → m.sdoId = 0 → m.src ≠ ownPort pl → m.src = s.time.ptp.parent → s.time.ptp.state = 9 → m.twoStep = false →
      ptpReceive pl m s = gotSync (m.time + m.corr) (dtNow s - (ptpLatency s pl).2) s) ∧
    (∀ (pl : PlaneId) (m : PtpMsg) (t2 : Nat) (c : Int), m.kind = .followUp → m.domain = 0 → m.sdoId = 0 → m.src ≠ ownPort pl → m.src = s.time.ptp.parent → s.time.ptp.state = 9 → s.time.ptp.rxSync = some (m.seq, t2, c) →
      ptpReceive pl m s = gotSync (m.time + c + m.corr) t2 s) ∧
    (∀ (pl : PlaneId) (m : PtpMsg) (t1 : Int) (t2 t3 : Nat), m.kind = .delayResp → m.domain = 0 → m.sdoId = 0 → m.src ≠ ownPort pl → m.src = s.time.ptp.parent → s.time.ptp.state = 9 → m.req = ownPort pl → s.time.ptp.req = some (m.seq, t3) → s.time.ptp.pair = some (t1, t2) →
      ptpReceive pl m s = updPtp (fun q => { q with req := none, delay := some ((((t2 : Int) - t1) + ((m.time : Int) - m.corr - t3)) / 2) }) s) ∧
    (∀ (t1 d : Int) (t2 : Nat) (t : State), s.time.ptp.delay = some d → t = gotSync t1 t2 s → s.time.sysSet = false →
      t.time.sysSet = true ∧ t.time.sysOffset = (2 ^ 64 + ((t1 + d) % 2 ^ 64).toNat - t2 % 2 ^ 64) % 2 ^ 64 ∧
      t.time.ptp.state = 9 ∧ t.time.source = .ptp ∧ t.time.lastRef = dtNow s ∧ t.time.dt = s.time.dt) ∧
    (timed s = true → dtNow s < s.time.lastRef + 100000000 → exec .sysSyncLoss s = .next s) ∧
    (timed s = true → s.time.lastRef + 100000000 ≤ dtNow s →
      ∃ t, exec .sysSyncLoss s = .next t ∧ t.time.sysRun = 0 ∧ t.time.sysSync = (s.time.groupSync && oneGroup s) ∧
      t.time.sysOffset = s.time.sysOffset ∧ t.time.dt = s.time.dt ∧
      (s.time.isMaster = true → t.time.source = (if ptpChosen s = true then .ptp else if ppsValid s = true then .ppsIn else .freeRun)) ∧
      (s.time.isMaster = false → t.time.source = (if (followed s).isSome = true then .bridle else .freeRun)) ∧
      t.boot = s.boot ∧ t.parts = s.parts) ∧
    (exec .ptpPortMove s = .next (placePtp s) ∧ (placePtp s).time.ptp.plane = (ptpPlaneNow s).map Fin.val ∧ (placePtp s).time.dt = s.time.dt)

/-- The staged commit by its state table: OPEN, SEAL, the checker, ABORT, START, votes, outcomes, the announcement,
fencing (spec/05_time_base_windows_and_the_commit_instant.md R113,
spec/05_time_base_windows_and_the_commit_instant.md R115, spec/05_time_base_windows_and_the_commit_instant.md R116,
spec/05_time_base_windows_and_the_commit_instant.md R117, spec/05_time_base_windows_and_the_commit_instant.md R119,
spec/05_time_base_windows_and_the_commit_instant.md R120, spec/05_time_base_windows_and_the_commit_instant.md R121,
spec/05_time_base_windows_and_the_commit_instant.md R122, spec/05_time_base_windows_and_the_commit_instant.md R123).
Rests in part on the choices of the model in notes/assumptions/11, 25. -/
def Obligations.StagedCommitStates : Prop :=
  ∀ s : State,
    (∀ (r : Requester) (v : Nat), stageCmd r v 1 s = true → (s.commit.state = .idle ∨ (s.commit.state = .fenced ∧ s.commit.rejoin = true)) →
      exec (.cfgStageOpen r v) s = .next (setCommit .staging { s with
        commit := { s.commit with stageBuf := [], items := [], checkSub := 0, voteReason := 0 } })) ∧
    (∀ (r : Requester) (v : Nat), stageCmd r v 2 s = true → s.commit.state = .staging →
      ∃ d, exec (.cfgStageSeal r v) s = .next (setCommit .checking { s with commit := { s.commit with stageDigest := d } }) ∧
      (∀ is, checkForm s = some is → d = contentDigest (stageMaps is)) ∧ (checkForm s = none → d = List.replicate 32 0)) ∧
    (∀ (is : List StageItem) (u : State), s.commit.state = .checking → runChecks s = (0, is, u) →
      exec .checkerDone s = .next (setCommit .sealed { u with commit := { u.commit with items := is, verdictYes := true, checkSub := 0 } })) ∧
    (∀ (n : Nat) (is : List StageItem) (u : State), s.commit.state = .checking → runChecks s = (n, is, u) → n ≠ 0 →
      exec .checkerDone s = .next
        (let w := mgtRecord { code := 0x0801, cls := .corrected, source := 0xB, sub := n } u
         setCommit .sealed { w with commit := { w.commit with items := is, verdictYes := false, checkSub := n, lastOutcome := 3 } })) ∧
    (∀ (r : Requester) (v : Nat), stageCmd r v 4 s = true → (s.commit.state = .staging ∨ s.commit.state = .sealed) →
      exec (.cfgStageAbort r v) s = .next (discardStage s)) ∧
    (∀ (r : Requester) (v : Nat) (head : CommitHead) (u : State), stageCmd r v 3 s = true → s.commit.state = .sealed → head = { id := s.commit.stageId, groups := stageScopeGroups s, instant := s.commit.stageInstant } → u = sendCfgAll (scopeDevices (startVote head s) head.groups) (.voteReq head (startVote head s).commit.stageDigest) (startVote head s) →
      exec (.cfgStageStart r v) s = .next (match voteReason head u.commit.stageDigest u with
        | none => takeVote (ownId u) true 0 u
        | some n => takeVote (ownId u) false n { u with commit := { u.commit with voteReason := n } })) ∧
    (∀ (src : DevId) (e : Nat), (getPeer s src).behind = false → showEpoch src e s = s) ∧
    (∀ (src : DevId) (e : Nat) (head : CommitHead) (dg : Bytes) (u v : State), u = showEpoch src (e % 4) s → u.commit.state = .sealed → head.id = u.commit.stageId → v = setCommit .voting { u with commit := { u.commit with
        id := head.id, instant := head.instant, scope := head.groups, coordinator := false, noDevice := none, noOutcome := [] } } →
      exec (.voteRequestReceive src e head dg) s = .next (match voteReason head dg v with
        | none => sendCfg src (.vote head.id true 0) v
        | some n => sendCfg src (.vote head.id false n) { v with commit := { v.commit with voteReason := n } })) ∧
    (∀ (src : DevId) (e : Nat) (head : CommitHead) (dg : Bytes) (u : State), u = showEpoch src (e % 4) s → ((u.commit.state = .sealed ∨ u.commit.state = .staging ∨ u.commit.state = .checking) ∧ head.id ≠ u.commit.stageId) →
      exec (.voteRequestReceive src e head dg) s = .next (sendCfg src (.vote head.id false 4) u)) ∧
    (∀ (src : DevId) (e : Nat) (head : CommitHead) (dg : Bytes) (u : State), u = showEpoch src (e % 4) s → ((u.commit.state = .idle ∨ u.commit.state = .fenced) ∨ ((u.commit.state = .staging ∨ u.commit.state = .checking) ∧ head.id = u.commit.stageId)) →
      exec (.voteRequestReceive src e head dg) s = .next (sendCfg src (.vote head.id false 3) u)) ∧
    (∀ (src : DevId) (e : Nat) (head : CommitHead) (dg : Bytes) (u : State), u = showEpoch src (e % 4) s → (u.commit.state = .voting ∨ u.commit.state = .armed) →
      exec (.voteRequestReceive src e head dg) s = .next (if head.id = u.commit.id then u else sendCfg src (.vote head.id false 4) u)) ∧
    (∀ (d : DevId) (m : CfgMsg), sendCfg d m s = sendMessage d (Config.cfgBytes (msgEpoch m s) m) (emit (.cfg d (msgEpoch m s) m) s) ∧
      (s.commit.rejoin = false → msgEpoch m s = ownEpoch s)) ∧
    (∀ (head : CommitHead) (dg : Bytes),
      voteReason head dg s = (if s.commit.verdictYes = false then some 1
        else if s.commit.stageDigest ≠ dg then some 2
        else if s.boot.timeUnsync = true ∨ (1 < head.groups.length ∧ s.time.sysSync = false) then some 5
        else if head.instant < sysTime s + 2000000 ∨ sysTime s + 1000000000 < head.instant then some 6
        else none)) ∧
    (∀ (src : DevId) (e id : Nat) (yes : Bool) (r : Nat) (u : State), u = showEpoch src (e % 4) s → u.commit.state = .voting → u.commit.coordinator = true → id = u.commit.id → (scopeDevices u u.commit.scope).contains src = true → sysTime u + 1000000 ≤ u.commit.instant →
      exec (.voteReceive src e id yes r) s = .next (takeVote src yes r u)) ∧
    (s.commit.state = .voting → s.commit.coordinator = true → s.commit.instant ≤ sysTime s + 1000000 →
      exec .voteDeadline s = .next (decideAbort 7 none s)) ∧
    (∀ (src : DevId) (e id r : Nat) (b : Bool) (w : Option DevId) (u : State), u = showEpoch src (e % 4) s → id = u.commit.id → (u.commit.state = .voting ∨ (u.commit.state = .fenced ∧ u.commit.rejoin = false)) →
      exec (.outcomeReceive src e id b r w) s = .next (takeOutcome b r w u)) ∧
    (∀ (src : DevId) (e id r : Nat) (w : Option DevId) (u : State), u = showEpoch src (e % 4) s → awaits u id = false → u.commit.outcomes.any (fun e => e.1 == id) = false →
      exec (.outcomeReceive src e id false r w) s = .next (recordAbort id r w u)) ∧
    (∀ (src : DevId) (e id r : Nat) (b : Bool) (w : Option DevId) (u : State), u = showEpoch src (e % 4) s → awaits u id = false → (b = true ∨ u.commit.outcomes.any (fun e => e.1 == id) = true) →
      exec (.outcomeReceive src e id b r w) s = .next u) ∧
    (∀ (r : Nat) (w : Option DevId), s.commit.state = .voting →
      takeOutcome true r w s = setCommit .armed { s with commit := { s.commit with outcomes := s.commit.outcomes ++ [(s.commit.id, true, 0, none)] } } ∧
      takeOutcome false r w s = takeAbort r w s) ∧
    (∀ (src : DevId) (e : Nat) (head : CommitHead) (u : State), u = showEpoch src (e % 4) s → u.commit.applied.contains head.id = false → u.commit.announced.any (fun h => h.id == head.id) = false → u.time.isMaster = false → sysTime u < head.instant →
      exec (.announcementReceive src e head) s = .next { u with commit := { u.commit with announced := u.commit.announced ++ [head] } }) ∧
    (s.commit.state = .armed → s.commit.instant ≤ sysTime s → s.commit.announced = [] →
      exec .commitInstant s = .next (applyCommit false { s with commit := { s.commit with announced := [] } })) ∧
    (s.commit.state = .voting → s.commit.instant ≤ sysTime s → s.commit.announced = [] →
      exec .commitInstant s = .next (setCommit .fenced { s with commit := { s.commit with announced := [] } })) ∧
    (∀ (h : CommitHead), s.commit.applied.contains h.id = false → h.groups.Nodup →
      (bumpEpochs h s).commit.epochs = h.groups.foldl (fun t g => tabUpd 0 g (fun e => (e + 1) % 4) t) s.commit.epochs ∧
      (bumpEpochs h s).commit.fabricCount =
        (if h.groups.contains s.cfg.group.group then (s.commit.fabricCount + 1) % 65536 else s.commit.fabricCount) ∧
      (bumpEpochs h s).commit.applied = s.commit.applied ++ [h.id]) ∧
    (s.commit.state = .fenced → s.commit.rejoin = false →
      exec .fencedQuery s = .next (sendCfgAll (scopeDevices s s.commit.scope) (.query s.commit.id) s)) ∧
    (∀ (src : DevId) (e id : Nat) (u : State), u = showEpoch src (e % 4) s → id ≠ 0 →
      exec (.queryReceive src e (.query id)) s = .next (sendCfg src (.answer id ((u.commit.outcomes.find? (fun e => e.1 == id)).map (·.2))) u)) ∧
    (∀ (src : DevId) (e r : Nat) (b : Bool) (w : Option DevId) (u : State), u = showEpoch src (e % 4) s → u.commit.state = .fenced → u.commit.rejoin = false →
      exec (.queryReceive src e (.answer u.commit.id (some (b, r, w)))) s = .next (takeOutcome b r w u)) ∧
    (s.commit.state = .fenced → s.commit.rejoin = false → s.commit.instant + 10000000 ≤ sysTime s → (scopeDevices s s.commit.scope).all (fun d => d == ownId s || (getPeer s d).unreachable || s.commit.noOutcome.contains d) = true →
      exec .fenceTimeout s = .next (takeOutcome false s.commit.voteReason none s))

/-- NOP, jobs, scalar counters, compares, waits, sync counter writes, tensor descriptors and resident programs, once the
stream has taken the command (spec/07_engines_queues_and_sync_counters.md R160,
spec/07_engines_queues_and_sync_counters.md R165, spec/07_engines_queues_and_sync_counters.md R173,
spec/07_engines_queues_and_sync_counters.md R174, spec/07_engines_queues_and_sync_counters.md R178,
spec/07_engines_queues_and_sync_counters.md R179, spec/07_engines_queues_and_sync_counters.md R181,
spec/07_engines_queues_and_sync_counters.md R185, spec/07_engines_queues_and_sync_counters.md R186,
spec/07_engines_queues_and_sync_counters.md R187, spec/08_command_reference.md R199, spec/08_command_reference.md
R202). Rests in part on the choices of the model in notes/assumptions/22, 58. -/
def Obligations.StreamControlCommands : Prop :=
  ∀ s : State,
    (∀ (p : PartId) (st : StreamId) (d : Bytes) (u : State), takeCmd p st 0x9000 s = (some d, u) →
      exec (.nop p st) s = .next (cmdDone p st u)) ∧
    (∀ (p : PartId) (st : StreamId) (d : Bytes) (u : State), takeCmd p st 0x9001 s = (some d, u) → st ≠ 6 → d16 d 24 = (getPart u p).job.id →
      exec (.jobBegin p st) s = .next (cmdDone p st u)) ∧
    (∀ (p : PartId) (d : Bytes) (u : State), takeCmd p 6 0x9001 s = (some d, u) → beginFault u p d = none →
      exec (.jobBegin p 6) s = .next (cmdDone p 6 u)) ∧
    (∀ (p : PartId) (st : StreamId) (d : Bytes) (u : State), takeCmd p st 0x9002 s = (some d, u) →
      exec (.jobEnd p st) s = .next (cmdDone p st u)) ∧
    (∀ (p : PartId) (st : StreamId) (d : Bytes) (u : State), takeCmd p st 0x9010 s = (some d, u) →
      exec (.ctSet p st) s = .next (cmdDone p st (updStream u p st (fun x => ctSet x (d8 d 24 % 8) (d32 d 28))))) ∧
    (∀ (p : PartId) (st : StreamId) (d : Bytes) (u : State), takeCmd p st 0x9011 s = (some d, u) →
      exec (.ctAdd p st) s = .next (cmdDone p st (updStream u p st
        (fun x => ctSet x (d8 d 24 % 8) (ctVal x (d8 d 24 % 8) + d32 d 28))))) ∧
    (∀ (x : Stream) (i v : Nat), i < 8 →
      ctVal (ctSet x i v) i = v % 2 ^ 32 ∧ ∀ j, j < 8 → j ≠ i → ctVal (ctSet x i v) j = ctVal x j) ∧
    (∀ (p : PartId) (st : StreamId) (d : Bytes) (u : State), takeCmd p st 0x9020 s = (some d, u) →
      exec (.cmpSkip p st) s = .next (cmdDone p st (updExec p st (fun e => { e with at_ := if cmpTrue u p st d then d8 d 27 else 0 }) u))) ∧
    (∀ (p : PartId) (st : StreamId) (d : Bytes) (u : State), takeCmd p st 0x9021 s = (some d, u) →
      exec (.cmpBranch p st) s = .next (cmdDone p st (updExec p st
        (fun e => { e with at_ := b2n (cmpTrue u p st d), base := d32 d 32 }) u))) ∧
    (∀ (p : PartId) (st : StreamId) (d : Bytes) (u : State), takeCmd p st 0x9030 s = (some d, u) →
      exec (.sycWait p st) s = .next (if sycWaitHolds u p d then cmdDone p st u else u)) ∧
    (∀ (p : PartId) (st : StreamId) (d : Bytes) (u : State), takeCmd p st 0x9031 s = (some d, u) →
      exec (.sycSet p st) s = .next (conjAdvance p (cmdDone p st (sycSetAt p (d16 d 24 % 2 ^ 14) (d32 d 28) u)))) ∧
    (∀ (p : PartId) (st : StreamId) (d : Bytes) (u : State), takeCmd p st 0x9040 s = (some d, u) → (getPart u p).models.any (fun m => m.tds.any (fun e => e.1 == d16 d 24)) = false → tdValid (bytesAt d 32 32) = true → tdExtent (bytesAt d 32 32) ≤ spaceSize u p (tdSpace (bytesAt d 32 32)) →
      exec (.tdSet p st) s = .next (cmdDone p st (tdPut p (d16 d 24) (bytesAt d 32 32) u))) ∧
    (∀ (p : PartId) (st : StreamId) (d : Bytes) (u : State), takeCmd p st 0x9050 s = (some d, u) →
      exec (.prgRun p st) s = .next (updStream u p st (fun x => { x with resident := d32 d 28, pc := d32 d 32, exec := none }))) ∧
    (∀ (p : PartId) (st : StreamId) (d : Bytes) (u : State), takeCmd p st 0x9051 s = (some d, u) →
      exec (.prgEnd p st) s = .next (cmdDone p st u)) ∧
    (∀ (p : PartId) (st : StreamId),
      exec (.commandComplete p st) s = .next (complete p st (if st = 6 then xfrAdvance p s else s))) ∧
    (∀ (p : PartId) (st : StreamId) (e : Exec), (getStream s p st).exec = some e → e.phase = .done → dOp e.desc ≠ 0x9051 → mirrorOwed s p (fun b => leAt b 4 4 == dTag e.desc) = false → (movesHbm s p e.desc = false ∨ hbmPaid s p = true) →
      complete p st s = fetchNow p st (conjAdvance p (goOn p st e (signOff p st e
        (endEffect p st e (settleMerge p st (dTag e.desc) (hbmGo p st.val s))))))) ∧
    (∀ (p : PartId) (st : StreamId) (e : Exec), (getStream s p st).exec = some e → mirrorOwed s p (fun b => leAt b 4 4 == dTag e.desc) = true →
      complete p st s = s) ∧
    (∀ (p : PartId) (st : StreamId) (e : Exec), (getStream s p st).exec = some e → e.phase = .done → mirrorOwed s p (fun b => leAt b 4 4 == dTag e.desc) = false → movesHbm s p e.desc = true → hbmPaid s p = false →
      complete p st s = hbmHold p st.val s) ∧
    (∀ (p : PartId) (st : StreamId) (e : Exec) (t0 : Nat), (getStream s p st).exec = some e → e.phase = .waiting t0 → waitedOut s t0 = true → (waitsHold s p e.desc && jobReady s p st e.desc) = false →
      exec (.sycWaitTimeout p st) s = .next (cmdFail p st e.desc { code := 0x0108, detail := (unmetWait s p e.desc).getD 0 } s)) ∧
    (∀ (p : PartId), (getPart s p).halted = false → exec (.teardownComplete p) s = .next s) ∧
    (∀ (p : PartId), mirrorOwed s p (fun b => leAt b 2 1 % 16 == classCode .job) = true → exec (.teardownComplete p) s = .next s) ∧
    (∀ (p : PartId), (getPart s p).halted = true → mirrorOwed s p (fun b => leAt b 2 1 % 16 == classCode .job) = false →
      ∃ t, exec (.teardownComplete p) s = .next t ∧ (getPart t p).halted = false ∧ (getPart t p).tds = (getPart s p).tds ∧
      (getPart t p).models = (getPart s p).models ∧ t.hbm = s.hbm ∧ t.cfg = s.cfg ∧ t.out = s.out)

/-- A stream takes the command at its head after its decode checks and waits; a head that fails a check faults; one that
must wait waits (spec/07_engines_queues_and_sync_counters.md R160, spec/07_engines_queues_and_sync_counters.md R165,
spec/07_engines_queues_and_sync_counters.md R169, spec/07_engines_queues_and_sync_counters.md R172,
spec/07_engines_queues_and_sync_counters.md R173, spec/07_engines_queues_and_sync_counters.md R174,
spec/07_engines_queues_and_sync_counters.md R185). Rests in part on the choices of the model in
notes/assumptions/22, 33, 37. -/
def Obligations.CommandsAreTakenInOrder : Prop :=
  ∀ s : State,
    (∀ (p : PartId) (st : StreamId) (d : Bytes) (w : State), acceptsDesc s p = true → (getStream s p st).exec = none → headDesc s p st = some (.ok d) → ((getStream s p st).resident = 0 ∨ hasCredit s p 0 = true) → w = (if (getStream s p st).resident != 0 then charge p 0 64 s else s) → decodeFault s p st d = none → ((getStream s p st).inJob = true ∨ dOp d = 0x9001) → waitsHold w p d = true → jobReady w p st d = true → hbmWaits w p d = false →
      takeCmd p st (dOp d) s =
        (let v := startMeets p st (dTag d) (traceCmd p st d .start (leAt d 8 8)
          (updStream (hbmGo p st.val w) p st (fun x => { x with exec := some { desc := d, phase := .running, start := dtNow w } })))
         ((getStream v p st).exec.map (·.desc), v))) ∧
    (∀ (p : PartId) (st : StreamId) (d : Bytes), (∀ e ∈ s.sramErr, e.1 = p → readsWord st e.2 = false) →
      startMeets p st (dTag d) s = s) ∧
    (∀ (p : PartId) (st : StreamId) (d : Bytes) (w : State), acceptsDesc s p = true → (getStream s p st).exec = none → headDesc s p st = some (.ok d) → ((getStream s p st).resident = 0 ∨ hasCredit s p 0 = true) → w = (if (getStream s p st).resident != 0 then charge p 0 64 s else s) → decodeFault s p st d = none → ((getStream s p st).inJob = true ∨ dOp d = 0x9001) → (waitsHold w p d && jobReady w p st d) = false →
      takeCmd p st (dOp d) s = (none, updStream w p st (fun x => { x with exec := some { desc := d, phase := .waiting (dtNow w) } }))) ∧
    (∀ (p : PartId) (st : StreamId) (d : Bytes) (w : State), acceptsDesc s p = true → (getStream s p st).exec = none → headDesc s p st = some (.ok d) → ((getStream s p st).resident = 0 ∨ hasCredit s p 0 = true) → w = (if (getStream s p st).resident != 0 then charge p 0 64 s else s) → decodeFault s p st d = none → ((getStream s p st).inJob = true ∨ dOp d = 0x9001) → waitsHold w p d = true → jobReady w p st d = true → hbmWaits w p d = true →
      takeCmd p st (dOp d) s = (none, hbmHold p st.val (updStream w p st (fun x => { x with exec := some { desc := d, phase := .waiting (dtNow w) } })))) ∧
    (∀ (p : PartId) (st : StreamId) (op : Nat), acceptsDesc s p = true → (getStream s p st).exec = none → (getStream s p st).resident ≠ 0 → hasCredit s p 0 = false →
      takeCmd p st op s = (none, hbmHold p st.val s)) ∧
    (∀ (p : PartId) (st : StreamId) (op : Nat) (d : Bytes) (e : CmdErr) (w : State), acceptsDesc s p = true → (getStream s p st).exec = none → headDesc s p st = some (.ok d) → ((getStream s p st).resident = 0 ∨ hasCredit s p 0 = true) → w = (if (getStream s p st).resident != 0 then charge p 0 64 s else s) → decodeFault s p st d = some e →
      takeCmd p st op s = (none, cmdFail p st d e w)) ∧
    (∀ (p : PartId) (st : StreamId) (op : Nat) (d : Bytes) (w : State), acceptsDesc s p = true → (getStream s p st).exec = none → headDesc s p st = some (.ok d) → ((getStream s p st).resident = 0 ∨ hasCredit s p 0 = true) → w = (if (getStream s p st).resident != 0 then charge p 0 64 s else s) → decodeFault s p st d = none → (getStream s p st).inJob = false → dOp d ≠ 0x9001 →
      takeCmd p st op s = (none, cmdFail p st d { code := 0x0104, detail := 0 } w)) ∧
    (∀ (p : PartId) (st : StreamId) (op : Nat), acceptsDesc s p = false → takeCmd p st op s = (none, s))

/-- RTE.SELECT, RTE.PROPOSE, RTE.ASSIGN, SRT.BUCKET and DSP.GATHER on operands that pass their checks
(spec/08_command_reference.md R203, spec/08_command_reference.md R204, spec/08_command_reference.md R205,
spec/08_command_reference.md R207, spec/08_command_reference.md R208, spec/10_routing_and_selection.md R267,
spec/10_routing_and_selection.md R269). Rests in part on the choices of the model in notes/assumptions/14, 17, 31,
32, 33, 34. -/
def Obligations.RoutingCommands : Prop :=
  ∀ s : State,
    (∀ (p : PartId) (d : Bytes) (u : State) (m : Model) (td : Nat × Bytes) (sc : Option (Nat × Bytes)), takeCmd p 0 0x1001 s = (some d, u) → jobModel (getPart u p) = some m → layerMode u p (d16 d 34) 0 = true → useTd u p d 32 true (isClauseList (d16 d 26)) = .ok td → useTdOpt u p d 38 true (fun t => tdType t == 3 && tdSpace t != 3 && decide (tdElems t ≥ d16 d 26 * m.experts)) = .ok sc → specStep (updExec p 0 (fun e => { e with tds := td :: sc.toList, base := relValue (getStream u p 0) (d8 d 28) (d16 d 24), at_ := 0 })
  (fillGate p (dTag d) m (d16 d 34) (d16 d 26) u)) p (d16 d 34) = none →
      exec (.rteSelect p) s = .next (cmdDone p 0 (updExec p 0 (fun e => { e with at_ := d16 d 26 })
        (commitAll p d td.2 (sc.map (·.2)) (relValue (getStream u p 0) (d8 d 28) (d16 d 24)) (d16 d 26) 0
          (updExec p 0 (fun e => { e with tds := td :: sc.toList, base := relValue (getStream u p 0) (d8 d 28) (d16 d 24), at_ := 0 })
            (fillGate p (dTag d) m (d16 d 34) (d16 d 26) u)))))) ∧
    (∀ (p : PartId) (pos : Nat) (e : Exec) (td : Nat × Bytes), (getStream s p 0).exec = some e → e.phase = .running → dOp e.desc = 0x1001 → pos = e.at_ → pos < d16 e.desc 26 → e.tds.head? = some td →
      exec (.tokenSelectionCommit p pos) s = .next
        (let t := updExec p 0 (fun e => { e with at_ := pos + 1 }) (commitToken p e.desc td.2 ((e.tds[1]?).map (·.2)) e.base pos s)
         if pos + 1 = d16 e.desc 26 then cmdDone p 0 t else t)) ∧
    (∀ (p : PartId) (d : Bytes) (u : State) (m : Model) (td : Nat × Bytes) (v w : State) (rows : List (Nat × Bool × List Nat)), takeCmd p 0 0x1002 s = (some d, u) → jobModel (getPart u p) = some m → layerMode u p (d16 d 34) 1 = true → useTd u p d 32 true (isBallot (m.experts * d16 d 36)) = .ok td → v = updExec p 0 (fun e => { e with tds := [td], base := relValue (getStream u p 0) (d8 d 28) (d16 d 24), at_ := d16 d 26 })
  (fillGate p (dTag d) m (d16 d 34) (d16 d 26) u) → rows = proposeRows v p m (routerLayer v p m (d16 d 34)) (relValue (getStream u p 0) (d8 d 28) (d16 d 24)) (d16 d 26) → w = eachOf (List.range (d16 d 26)) (fun i s => updSlot p (relValue (getStream u p 0) (d8 d 28) (d16 d 24) + i)
  (fun x => { x with gateBad := gatePoisoned v p m (routerLayer v p m (d16 d 34)) }) s) v →
      exec (.rtePropose p) s = .next (cmdDone p 0
        (writeRecs p td.2 0 ((List.range m.experts).flatMap (fun e => proposeRecs w (d16 d 36) e rows)) (proposeCounts p (d16 d 26) rows w)))) ∧
    (∀ (c e : Nat) (rows : List (Nat × Bool × List Nat)),
      (proposeRecs s c e rows).length = c ∧ ∀ x ∈ proposeBest s c e rows, ∃ r ∈ rows, r.2.1 = false ∧ x = (r.2.2.getD e 0, candId (ownId s) r.1)) ∧
    (∀ (p : PartId) (d : Bytes) (u : State) (m : Model) (bt ct : Nat × Bytes), takeCmd p 0 0x1003 s = (some d, u) → jobModel (getPart u p) = some m → layerMode u p (d16 d 36) 1 = true → useTd u p d 32 false (isBallot m.experts) = .ok bt → useTd u p d 34 true (isClauseList (d16 d 26)) = .ok ct → ctlFault u p (tdSpace bt.2) (tdBase bt.2) (tdExtent bt.2 - tdBase bt.2) = none → (ballotEntries u p bt.2).find? (strayEntry (relValue (getStream u p 0) (d8 d 28) (d16 d 24)) (d16 d 26) m.experts) = none →
      exec (.rteAssign p) s = .next
        (let base := relValue (getStream u p 0) (d8 d 28) (d16 d 24)
         cmdDone p 0 (eachOf (List.range (d16 d 26))
           (assignToken p ct.2 base (d16 d 36) (routerLayer u p m (d16 d 36)) (ballotEntries u p bt.2))
           (updExec p 0 (fun e => { e with tds := [bt, ct], base := base, at_ := d16 d 26 })
             (updPart u p (fun q => { q with rteLayer := d16 d 36, rteEc := true })))))) ∧
    (∀ (es : List (Nat × Nat × Nat × Nat)) (slot : Nat),
      (keptOf es slot).length ≤ 16 ∧ ∀ x ∈ keptOf es slot, ∃ e ∈ es, e.2.1 = slot ∧ x = (e.2.2.1, e.2.2.2, e.2.2.2)) ∧
    (∀ (p : PartId) (d : Bytes) (u : State) (m : Model) (td ix off : Nat × Bytes) (l : List (Nat × Nat × Bytes)), takeCmd p 1 0x2001 s = (some d, u) → jobModel (getPart u p) = some m → useTd u p d 24 (d8 d 34 == 0) (isClauseList (d16 d 26)) = .ok td → useTd u p d 28 true (fun t => isIndex t && tdSpace t != 3) = .ok ix → useTd u p d 30 true (fun t => isIndex t && tdSpace t != 3) = .ok off → ctlFault u p (tdSpace td.2) (tdBase td.2) (256 * d16 d 26) = none → (listClauses u p td.2 (d16 d 26)).find? (fun x => recExpert x.2 != 0xFFFF && recExpert x.2 ≥ m.experts) = none → (∀ x ∈ listClauses u p td.2 (d16 d 26), d8 d 34 = 0 → recExpert x.2 ≠ 0xFFFF → recResolved x.2 = none → mapPoison u p m (d16 d 32) (recExpert x.2) = none) → l = bucketSorted (bucketKeyed u p m (d16 d 32) (d8 d 34 == 0) (listClauses u p td.2 (d16 d 26))) → l.length ≤ tdElems ix.2 → (bucketOffs (d8 d 34 == 0) m.experts l).length ≤ tdElems off.2 →
      exec (.srtBucket p) s = .next
        (let cs := listClauses u p td.2 (d16 d 26)
         let v := if d8 d 34 = 0 then resolveList p (dTag d) m (d16 d 32) td.2 cs u else u
         cmdDone p 1 (cntPart 0x000C0010 (cs.length - (bucketKeyed u p m (d16 d 32) (d8 d 34 == 0) cs).length) p
           (cntPart64 0x000C0008 l.length p
             (tdWriteWords p off.2 0 (bucketOffs (d8 d 34 == 0) m.experts l)
               (tdWriteWords p ix.2 0 (l.map (fun e => indexEntry e.2.1 (recRank e.2.2))) v)))))) ∧
    (∀ (p : PartId) (d : Bytes) (u : State) (src ix dst : Nat × Bytes), takeCmd p 2 0x3001 s = (some d, u) → useTd u p d 24 false (fun t => tdSpace t != 3) = .ok src → useTd u p d 26 false (fun t => isIndex t && tdSpace t != 3) = .ok ix → useTd u p d 28 true (fun t => tdSpace t != 3) = .ok dst → (¬ (tdType src.2 ≠ tdType dst.2 ∨ tdDim src.2 0 ≠ tdDim dst.2 0 ∨ tdSliceElems src.2 ≠ tdSliceElems dst.2)) → (eachUntil (gatherRow p d src ix dst) (List.range (d32 d 32)) u).2 = none →
      exec (.dspGather p) s = .next (cmdDone p 2 (eachUntil (gatherRow p d src ix dst) (List.range (d32 d 32)) u).1))

/-- The ten SEQ commands on operands that pass: what each does on every core of the partition, row by row
(spec/08_command_reference.md R209, spec/08_command_reference.md R210, spec/08_command_reference.md R211,
spec/08_command_reference.md R212, spec/08_command_reference.md R213, spec/08_command_reference.md R214,
spec/08_command_reference.md R215, spec/09_expert_cores_and_tiles.md R240, spec/09_expert_cores_and_tiles.md R241,
spec/09_expert_cores_and_tiles.md R242, spec/09_expert_cores_and_tiles.md R244, spec/09_expert_cores_and_tiles.md
R246). Rests in part on the choices of the model in notes/assumptions/7, 16. -/
def Obligations.SequencerCommands : Prop :=
  ∀ s : State,
    (∀ (p : PartId) (ecc : List EccFind) (d : Bytes) (u : State) (td : Nat × Bytes) (ix : Option (Nat × Bytes)) (v : State), SeqTakes p 0x4001 ecc d s u → useTd u p d 26 false (fun t => tdRank t == 1 && decide (tdType t ≤ 2)) = .ok td → useTdOpt u p d 28 false isIndex = .ok ix → v = onCores p (setTileTag (d8 d 24) (tdType td.2)) u → (eachUntil (loadRow p d td ix) (coreRows v p (d8 d 25)) v).2 = none →
      exec (.seqLd p ecc) s = .next (cmdDone p 3 (eachUntil (loadRow p d td ix) (coreRows v p (d8 d 25)) v).1)) ∧
    (∀ (p : PartId) (ecc : List EccFind) (d : Bytes) (u : State) (td : Nat × Bytes) (ix : Option (Nat × Bytes)), SeqTakes p 0x4002 ecc d s u → useTd u p d 26 true (storeSuits u p (d8 d 24)) = .ok td → useTdOpt u p d 28 false isIndex = .ok ix → (eachUntil (storeTileRow p d td ix) (coreRows u p (d8 d 25)) u).2 = none →
      exec (.seqSt p ecc) s = .next (cmdDone p 3 (eachUntil (storeTileRow p d td ix) (coreRows u p (d8 d 25)) u).1)) ∧
    (∀ (p : PartId) (d : Bytes) (u : State), SeqTakes p 0x4003 [] d s u →
      exec (.seqZero p) s = .next (cmdDone p 3 (onCores p (zeroTile (d8 d 24)) u))) ∧
    (∀ (q : CoreSt) (code row : Nat), (isT code = true ∨ isA code = true) → row < 64 →
      tileRow (zeroTile code q) code row = List.replicate 64 0 ∧ (isT code = true → tileTag (zeroTile code q) code = 0)) ∧
    (∀ (p : PartId) (ecc : List EccFind) (d : Bytes) (u : State), SeqTakes p 0x4004 ecc d s u →
      exec (.seqMma p ecc) s = .next (cmdDone p 3 (cntPart64 0x000E0008 ((coreList u p).length * d8 d 27 * 4096) p
        (onCores p (tileRows (d8 d 27) (fun i => mmaRow (d8 d 24) (d8 d 25) (d8 d 26) i (bitOf (d8 d 28) 0))) u)))) ∧
    (∀ (p : PartId) (ecc : List EccFind) (d : Bytes) (u : State), SeqTakes p 0x4005 ecc d s u → vecFault u p d [24, 25] = none →
      exec (.seqAct p ecc) s = .next (cmdDone p 3 (onCores p (tileRows (d8 d 27) (actRow (d8 d 24) (d8 d 25) (d8 d 26))) u))) ∧
    (∀ (p : PartId) (ecc : List EccFind) (d : Bytes) (u : State), SeqTakes p 0x4006 ecc d s u → vecFault u p d [24, 25, 26] = none →
      exec (.seqMul p ecc) s = .next (cmdDone p 3 (onCores p (tileRows (d8 d 27) (mulRow (d8 d 24) (d8 d 25) (d8 d 26))) u))) ∧
    (∀ (p : PartId) (ecc : List EccFind) (d : Bytes) (u : State) (td : Nat × Bytes), SeqTakes p 0x4007 ecc d s u → vecFault u p d [24, 25] = none → useTd u p d 26 false (fun t => tdType t == 3) = .ok td → (eachUntil (scaleTileRow p d td) (coreRows u p (d8 d 36)) u).2 = none →
      exec (.seqScale p ecc) s = .next (cmdDone p 3 (eachUntil (scaleTileRow p d td) (coreRows u p (d8 d 36)) u).1)) ∧
    (∀ (p : PartId) (ecc : List EccFind) (d : Bytes) (u : State), SeqTakes p 0x4008 ecc d s u →
      exec (.seqCvt p ecc) s = .next (cmdDone p 3 (onCores p (tileRows (d8 d 26) (cvtRow (d8 d 24) (d8 d 25))) u))) ∧
    (∀ (p : PartId) (ecc : List EccFind) (d : Bytes) (u : State) (m : Model) (rows out : Nat × Bytes) (ix gate : Option (Nat × Bytes)) (w v : State) (suits : Bytes → Bool), (getPart s p).pass = none → SeqTakes p 0x4010 ecc d s u → jobModel (getPart u p) = some m → suits = (fun t => tdType t == 0 && tdRank t == 1 && tdDim t 0 == m.dmodel && tdSpace t != 3) → residentExpert u p m (d16 d 28) (d16 d 30) = true → useTd u p d 24 false suits = .ok rows → useTdOpt u p d 26 false (fun t => isIndex t && tdSpace t != 3) = .ok ix → useTd u p d 32 true suits = .ok out → useTdOpt u p d 34 false (fun t => tdType t == 3 && tdSpace t != 3) = .ok gate → w = dropClusters p u → v = passCycles p (touchWeights p (dTag d) m (d16 d 28) (d16 d 30)
  (beginPass p { model := m.handle, expert := d16 d 30, layer := d16 d 28, lead := lowLead w p, alone := true } w)) → (eachUntil (expertRow p d m (ecc.any isWork) rows out ix gate) (List.range (d16 d 38)) v).2 = none →
      exec (.seqExpert p ecc) s = .next (cmdDone p 3 (eachUntil (expertRow p d m (ecc.any isWork) rows out ix gate) (List.range (d16 d 38)) v).1)) ∧
    (∀ (p : PartId) (op : Nat) (ecc : List EccFind) (d : Bytes) (v : State) (f : Bytes → State → State), takeCmd p 3 op s = (some d, v) → (getStream (ecc.foldl (rowFind p (dTag d)) v) p 3).exec = none →
      seqRun p op ecc f s = .next (ecc.foldl (rowFind p (dTag d)) v)) ∧
    (∀ (p : PartId) (op : Nat) (ecc : List EccFind) (v : State) (f : Bytes → State → State), takeCmd p 3 op s = (none, v) →
      seqRun p op ecc f s = .next v)

/-- CMB.ACCUM and CMB.FINAL on operands that pass (spec/08_command_reference.md R217, spec/12_dispatch_and_combine.md
R310). Rests in part on the choices of the model in notes/assumptions/18, 34. -/
def Obligations.CombineCommands : Prop :=
  ∀ s : State,
    (∀ (p : PartId) (d : Bytes) (u : State) (m : Model) (rows td ix : Nat × Bytes), takeCmd p 4 0x5001 s = (some d, u) → jobModel (getPart u p) = some m → useTd u p d 24 false (fun t => tdType t == 0 && tdRank t == 1 && tdDim t 0 == m.dmodel && tdSpace t != 3) = .ok rows → useTd u p d 26 false (isClauseList 1) = .ok td → useTd u p d 28 false (fun t => isIndex t && tdSpace t != 3) = .ok ix → (eachUntil (accumRow p d m rows td ix) (List.range (d16 d 36)) u).2 = none →
      exec (.cmbAccum p) s = .next (cmdDone p 4 (eachUntil (accumRow p d m rows td ix) (List.range (d16 d 36)) u).1)) ∧
    (∀ (p : PartId) (d : Bytes) (u : State) (is : List Nat), takeCmd p 4 0x5002 s = (some d, u) → is = (List.range (d16 d 26)).map (· + relValue (getStream u p 4) (d8 d 28) (d16 d 24)) → (∀ i ∈ is, slotFull (getSlot u p i) = true) →
      exec (.cmbFinal p) s = .next (cmdDone p 4 (eachOf is (fun i s => roundSlot p i s) u)))

/-- COMM_CREATE, COMM_DESTROY and the seven collective operations on operands that pass (spec/08_command_reference.md
R220, spec/08_command_reference.md R221, spec/08_command_reference.md R222, spec/15_collectives.md R385,
spec/15_collectives.md R386, spec/15_collectives.md R388). Rests in part on the choices of the model in
notes/assumptions/40, 53. -/
def Obligations.CollectiveCommands : Prop :=
  ∀ s : State,
    (∀ (p : PartId) (d : Bytes) (u : State) (td : Nat × Bytes) (l : List DevId), takeCmd p 5 0x6001 s = (some d, u) → (getPart u p).job.replayed = false → useTd u p d 26 false isIndex = .ok td → d32 d 28 ≤ tdElems td.2 → memberList u p td (d32 d 28) = .ok l →
      exec (.colCommCreate p) s = .next (startCreate p d l (chargeRead p (tdSpace td.2) (4 * d32 d 28) u))) ∧
    (∀ (p : PartId) (d : Bytes) (u : State) (k : Comm), takeCmd p 5 0x6002 s = (some d, u) → getComm u (d8 d 24) = some k → k.part = p → k.state ≠ .creating → (getPart u p).job.replayed = false → stepUses u p (d8 d 24) = false →
      exec (.colCommDestroy p) s = .next (cmdDone p 5 (setComm (d8 d 24) none u))) ∧
    (∀ (p : PartId) (d : Bytes) (u : State) (k : Comm) (r : ColRun), takeCmd p 5 0x6010 s = (some d, u) → getComm u (d8 d 24) = some k → k.part = p → k.state = .active → (getPart u p).job.replayed = false → colOperands u p d k 0 = .ok r → (r.src = [] ∨ poisonFault u p r.src = none) →
      exec (.colAllreduce p) s = .next (beginRun p r u)) ∧
    (∀ (p : PartId) (d : Bytes) (u : State) (k : Comm) (r : ColRun), takeCmd p 5 0x6011 s = (some d, u) → getComm u (d8 d 24) = some k → k.part = p → k.state = .active → (getPart u p).job.replayed = false → colOperands u p d k 1 = .ok r → (r.src = [] ∨ poisonFault u p r.src = none) →
      exec (.colAllgather p) s = .next (beginRun p r u)) ∧
    (∀ (p : PartId) (d : Bytes) (u : State) (k : Comm) (r : ColRun), takeCmd p 5 0x6012 s = (some d, u) → getComm u (d8 d 24) = some k → k.part = p → k.state = .active → (getPart u p).job.replayed = false → colOperands u p d k 2 = .ok r → (r.src = [] ∨ poisonFault u p r.src = none) →
      exec (.colReducescatter p) s = .next (beginRun p r u)) ∧
    (∀ (p : PartId) (d : Bytes) (u : State) (k : Comm) (r : ColRun), takeCmd p 5 0x6013 s = (some d, u) → getComm u (d8 d 24) = some k → k.part = p → k.state = .active → (getPart u p).job.replayed = false → colOperands u p d k 3 = .ok r → (r.src = [] ∨ poisonFault u p r.src = none) →
      exec (.colBroadcast p) s = .next (beginRun p r u)) ∧
    (∀ (p : PartId) (d : Bytes) (u : State) (k : Comm) (r : ColRun), takeCmd p 5 0x6014 s = (some d, u) → getComm u (d8 d 24) = some k → k.part = p → k.state = .active → (getPart u p).job.replayed = false → colOperands u p d k 4 = .ok r → (r.src = [] ∨ poisonFault u p r.src = none) →
      exec (.colBarrier p) s = .next (beginRun p r u)) ∧
    (∀ (p : PartId) (d : Bytes) (u : State) (k : Comm) (r : ColRun), takeCmd p 5 0x6015 s = (some d, u) → getComm u (d8 d 24) = some k → k.part = p → k.state = .active → (getPart u p).job.replayed = false → colOperands u p d k 5 = .ok r → (r.src = [] ∨ poisonFault u p r.src = none) →
      exec (.colAlltoallv p) s = .next (beginRun p r u)) ∧
    (∀ (p : PartId) (d : Bytes) (u : State) (k : Comm) (r : ColRun), takeCmd p 5 0x6016 s = (some d, u) → getComm u (d8 d 24) = some k → k.part = p → k.state = .active → (getPart u p).job.replayed = false → colOperands u p d k 6 = .ok r → (r.src = [] ∨ poisonFault u p r.src = none) →
      exec (.colBallotMerge p) s = .next (beginRun p r u)) ∧
    (∀ (p : PartId) (d : Bytes) (u : State), takeCmd p 5 0x6002 s = (some d, u) → (getComm u (d8 d 24) = none ∨ stepUses u p (d8 d 24) = true ∨ ∃ k, getComm u (d8 d 24) = some k ∧ (k.part ≠ p ∨ k.state = .creating)) →
      exec (.colCommDestroy p) s = .next (cmdFail p 5 d { code := 0x0104, detail := 24 } u)) ∧
    (∀ (p : PartId) (d : Bytes) (u : State) (k : Comm) (c : Instr) (n : Nat), (c, n) ∈ [(.colAllreduce p, 0x6010), (.colAllgather p, 0x6011), (.colReducescatter p, 0x6012), (.colBroadcast p, 0x6013),
  (.colBarrier p, 0x6014), (.colAlltoallv p, 0x6015), (.colBallotMerge p, 0x6016)] → takeCmd p 5 n s = (some d, u) → getComm u (d8 d 24) = some k → k.part = p → k.state = .aborted → (getPart u p).job.replayed = false →
      exec c s = .next (cmdFail p 5 d (abortErr k) u))

/-- TOKENS_IN, TOKENS_OUT, COPY, LOAD_MODEL, UNLOAD_MODEL and CONJ.STEP: how each starts, and what ends it
(spec/08_command_reference.md R224, spec/08_command_reference.md R225, spec/08_command_reference.md R227,
spec/08_command_reference.md R213, spec/08_command_reference.md R226, spec/08_command_reference.md R228). Rests in
part on the choices of the model in notes/assumptions/45, 46, 47. -/
def Obligations.TransferCommands : Prop :=
  ∀ s : State,
    (∀ (p : PartId) (d : Bytes) (u : State) (m : Model), (getStream s p 6).exec = none → takeCmd p 6 0x7001 s = (some d, u) → jobModel (getPart u p) = some m → (getStream (takeSlots p d m (rangeBase u p 6 d) ((List.range (d16 d 26)).drop (xfrAt u p)) u) p 6).exec ≠ none →
      exec (.xfrTokensIn p) s = .next (tokensInEnd p d
        (takeSlots p d m (rangeBase u p 6 d) ((List.range (d16 d 26)).drop (xfrAt u p)) u))) ∧
    (∀ (p : PartId) (e : Exec) (m : Model), (getStream s p 6).exec = some e → e.phase = .running → dOp e.desc = 0x7001 → jobModel (getPart s p) = some m → e.at_ = d16 e.desc 26 → (List.range (d16 e.desc 26)).any (fun i => (getSlot s p (rangeBase s p 6 e.desc + i)).awaited != 0) = false → (getPart s p).job.digest = false →
      exec (.xfrTokensIn p) s = .next (cmdDone p 6 s)) ∧
    (∀ (p : PartId) (d : Bytes) (i slot : Nat) (m : Model),
      takeSlot p d m i slot s =
        hostRead p ((d64 d 32 + i * d32 d 40) % 2 ^ 64) (rowBytes m) (fun o => .slotRow slot o)
          (setXfrAt p (i + 1) (updSlot p slot (fun r => { held := true, jobId := (getPart s p).job.serial, gen := (r.gen + 1) % 65536, row := List.replicate (rowBytes m) 0, awaited := rowBytes m }) s))) ∧
    (∀ (p : PartId) (e : Exec), (getStream s p 6).exec = some e → e.phase = .running → dOp e.desc = 0x7002 → e.at_ = 1 → heldRecord p s = s → writesWait s p .output = false → (getPart s p).job.stillAir = false → stages (setXfrAt p 3 s) p = false → hostReady (setXfrAt p 3 s) p = true →
      exec (.xfrTokensOut p) s = .next (tokensOutRecord p e.desc (setXfrAt p 3 s))) ∧
    (∀ (p : PartId) (e : Exec), (getStream s p 6).exec = some e → e.phase = .running → dOp e.desc = 0x7002 → e.at_ = 7 → heldRecord p s = s → writesWait s p .record = false →
      exec (.xfrTokensOut p) s = .next (cmdDone p 6 s)) ∧
    (∀ (p : PartId) (d : Bytes), (outSlots s p d).all (fun r => r.rounded) = true →
      tokensOutRows p d s = setXfrAt p 1 (cntPart64 0x00110008 (outSlots s p d).length p
        (eachOf (List.range (outSlots s p d).length) (fun i x =>
          hostWrite p .output ((d64 d 32 + i * d32 d 40) % 2 ^ 64) ((outSlots s p d).getD i {}).out x) s))) ∧
    (∀ (p : PartId) (d : Bytes) (u : State) (td dst : Nat × Bytes), (getStream s p 6).exec = none → takeCmd p 6 0x7003 s = (some d, u) → 2 ≤ d8 d 26 → useTd u p d 24 false copyable = .ok td → useTd u p d 28 true (fun t => copyable t && tdType t == tdType td.2 && tdElems t == tdElems td.2) = .ok dst →
      exec (.xfrCopy p) s = .next (cmdDone p 6 (copyElems p td.2 dst.2 0 0 (tdElems td.2) (touchTd p 6 (dTag d) td.2 u)))) ∧
    (∀ (p : PartId) (d : Bytes) (u : State) (td : Nat × Bytes), (getStream s p 6).exec = none → takeCmd p 6 0x7003 s = (some d, u) → d8 d 26 = 0 → useTd u p d 24 true copyable = .ok td →
      copyStart p d u = hostRead p (d64 d 32) (tdBytes td.2) (fun o => .copyIn o) (updExec p 6 (fun e => { e with tds := [td] }) u)) ∧
    (∀ (p : PartId) (e : Exec), (getStream s p 6).exec = some e → e.phase = .running → dOp e.desc = 0x7003 → d8 e.desc 26 = 1 → writesWait s p .copyOut = false →
      exec (.xfrCopy p) s = .next (cmdDone p 6 s)) ∧
    (∀ (p : PartId) (d : Bytes) (u : State), (getStream s p 6).exec = none → takeCmd p 6 0x7010 s = (some d, u) → (getPart u p).job.model = 0 →
      exec (.xfrLoadModel p) s = .next (hostRead p (d64 d 32) 384 (fun o => .manifest o) (updPart u p (fun q => { q with load := some {} })))) ∧
    (∀ (p : PartId) (e : Exec) (x : Load), (getStream s p 6).exec = some e → e.phase = .running → dOp e.desc = 0x7010 → (getPart s p).load = some x → x.stage = 4 → hostReady s p = true →
      ∃ w, w = updPart (hostWrite p .report (d64 e.desc 40) (reportBytes s x) s) p (fun q => { q with load := some { x with stage := 5 } }) ∧
      exec (.xfrLoadModel p) s = .next (if writesWait w p .report = true then w else loadReport p e.desc w)) ∧
    (∀ (p : PartId) (d : Bytes) (x : Load), (getPart s p).load = some x → x.stage = 5 → writesWait s p .report = false → x.code = 0 →
      loadReport p d s = cmdDone p 6 (updStream (updPart s p (fun q => { q with load := none })) p 6 (fun y => ctSet y (d8 d 48 % 8) x.handle))) ∧
    (∀ (p : PartId) (d : Bytes) (u : State) (m : Model), (getStream s p 6).exec = none → takeCmd p 6 0x7011 s = (some d, u) → modelOf (getPart u p) (d32 d 28) = some m → m.handle ≠ (getPart u p).job.model → placedHere u p m = false →
      exec (.xfrUnloadModel p) s = .next (cmdDone p 6 (modelsChanged p
        (updPart (eachOf m.tds (fun e s => tdPut p e.1 (List.replicate 32 0) s) u) p (forgetModel m.handle))))) ∧
    (∀ (p : PartId) (d : Bytes) (u : State) (m : Model) (ds : List DevId) (td : Nat × Bytes), takeCmd p 2 0x8001 s = (some d, u) → jobModel (getPart u p) = some m → conjParts u p m (d8 d 36) = some ds → useTd u p d 32 true (isClauseList (d16 d 26)) = .ok td →
      exec (.conjStep p) s = .next (conjSettle p (conjAdvance p (startConj p d td.2 ds u))))

/-- The host's writes of a stream's ring and of a sync counter, and the fetch of a ring's descriptor
(spec/07_engines_queues_and_sync_counters.md R161, spec/07_engines_queues_and_sync_counters.md R162,
spec/07_engines_queues_and_sync_counters.md R164, spec/07_engines_queues_and_sync_counters.md R176,
spec/07_engines_queues_and_sync_counters.md R177). Rests in part on the choices of the model in
notes/assumptions/48. -/
def Obligations.RingAndHostAdds : Prop :=
  ∀ s : State,
    (∀ (r : Requester) (st : StreamId) (v : Nat) (p : PartId) (u : State), hostPart r (0x0003001C + 64 * st.val) s = (some p, u) → (2 ^ 32 + v - (getStream u p st).ringHead) % 2 ^ 32 ≤ 2 ^ (getStream u p st).ringLog2 →
      exec (.ringTailWrite r st v) s = .next (fetchNow p st (updStream u p st (fun x => { x with ringTail := v % 2 ^ 32 })))) ∧
    (∀ (r : Requester) (st : StreamId) (v : Nat) (p : PartId) (u : State), hostPart r (0x0003001C + 64 * st.val) s = (some p, u) → 2 ^ (getStream u p st).ringLog2 < (2 ^ 32 + v - (getStream u p st).ringHead) % 2 ^ 32 →
      exec (.ringTailWrite r st v) s = .next (queOverrun p st (updStream u p st (fun x => { x with ringEnable := false })))) ∧
    (∀ (r : Requester) (st : StreamId) (v : Nat) (p : PartId) (u : State), hostPart r (0x00030018 + 64 * st.val) s = (some p, u) → (getStream u p st).ringEnable = false →
      exec (.ringCtlWrite r st v) s = .next (fetchNow p st (updStream u p st (fun x => { x with
        ringLog2 := if 8 ≤ v % 32 ∧ v % 32 ≤ 16 then v % 32 else 8
        ringEnable := bitOf v 31 })))) ∧
    (∀ (p : PartId) (st : StreamId) (n : Nat) (b : Bytes) (l : List (Nat × Option Bytes)), (getStream s p st).fetches = (n, some b) :: l → 64 ≤ b.length →
      exec (.ringFetchComplete p st) s = .next (fetchNow p st (enterDesc p st (b.take 64)
        (updStream s p st (fun x => { x with fetches := l }))))) ∧
    (∀ (r : Requester) (i v : Nat) (p : PartId) (u : State), hostPart r (0x00040004 + 8 * i) s = (some p, u) → i < (partCfg u p).sycCount → (getPart u p).halted = false →
      exec (.sycHostAdd r i v) s = .next (conjAdvance p (sycAdd p i (v % 2 ^ 32) 7 0 u))) ∧
    (∀ (p : PartId) (i v k g : Nat), sycGet s p i + v < 2 ^ 32 →
      sycAdd p i v k g s = sycSetAt p i (sycGet s p i + v) s)

/-- Expert passes, re-issue passes, shadow scores, closure probes and the end of a torn-down step
(spec/01_a_layer_step_end_to_end.md R20, spec/11_updraft_speculative_dispatch.md R287,
spec/12_dispatch_and_combine.md R329, spec/18_errors_recovery_and_ordering.md R470,
spec/18_errors_recovery_and_ordering.md R471, spec/18_errors_recovery_and_ordering.md R469). Rests in part on the
choices of the model in notes/assumptions/22, 39, 41, 42. -/
def Obligations.PassesAndPredictions : Prop :=
  ∀ s : State,
    (∀ (p : PartId) (x : Nat) (m : Model), (getPart s p).pass = none → jobModel (getPart s p) = some m → (readyRows s p x).isEmpty = false → residentExpert s p m (headLayer (readyRows s p x)) x = true → hasCredit s p 0 = true →
      exec (.passStart p x) s = .next (drainPart p (startPass p m x ((readyRows s p x).take 64) false (dropClusters p s)))) ∧
    (∀ (p : PartId) (x : Nat) (m : Model), (getPart s p).pass = none → jobModel (getPart s p) = some m → (readyRows s p x).isEmpty = false → residentExpert s p m (headLayer (readyRows s p x)) x = true → hasCredit s p 0 = false →
      exec (.passStart p x) s = .next (drainPart p (hbmHold p 7 s))) ∧
    (∀ (p : PartId) (m : Model) (x : Nat) (l : List RowRec) (h : RowRec) (b : Bool), l.head? = some h →
      (getPart (startPass p m x l b s) p).pass = some
        { expert := x, layer := h.layer, step := h.step, model := m.handle, lead := (if x = 0xFFFF then homeLead s p else h.cluster), tags := l.map (·.tag), reissue := b } ∧
      (startPass p m x l b s).hbm = s.hbm ∧ (startPass p m x l b s).out = s.out) ∧
    (∀ (p : PartId) (ecc : List EccFind) (x : Pass), (getPart s p).pass = some x → x.alone = false → hbmPaid s p = true →
      exec (.passEnd p ecc) s = .next (drainPart p (passEnd p (passEcc p x ecc (hbmGo p 7 s))))) ∧
    (∀ (p : PartId) (ecc : List EccFind) (x : Pass), (getPart s p).pass = some x → x.alone = false → hbmPaid s p = false →
      exec (.passEnd p ecc) s = .next (hbmHold p 7 s)) ∧
    (∀ (p : PartId) (x : Pass) (m : Model), (getPart s p).pass = some x → modelOf (getPart s p) x.model = some m →
      passEnd p s = conjSettle p (dropClusters p (updPart
        (eachOf x.tags (applyKept p) (eachOf x.tags (fun t v => endRow p m (weightsPoisoned s p m x.layer x.expert) t v)
          (passCharge p m x (passFault p m x s)))) p (fun q => { q with pass := none })))) ∧
    (∀ (p : PartId) (m : Model) (bad : Bool) (t : Nat) (r : RowRec), (getPart s p).rows.find? (fun r => r.tag == t && r.stage == .computing) = some r → r.spec = true →
      endRow p m bad t s = cntPart 0x000A0040 1 p (updRow p t (fun r' => { r' with
        stage := .held, heldD := passRow s p m r.layer r.expert r.row, heldPoison := r.poison || bad }) s)) ∧
    (∀ (p : PartId) (x : Nat) (m : Model) (l : List RowRec) (h : RowRec), (getPart s p).pass = none → serveModel s p h.layer x = some m → residentExpert s p m h.layer x = true → ((getPart s p).rows.filter (fun r => r.expert == x && r.reissue && r.stage == .stored && (stepOf s p r).isNone)).head? = some h → l = ((getPart s p).rows.filter (fun r => r.expert == x && r.reissue && r.stage == .stored && (stepOf s p r).isNone)).filter (fun r => r.layer == h.layer) → (64 ≤ l.length ∨ ∀ r ∈ l, r.dt + 2000 ≤ dtNow s) → hasCredit s p 0 = true →
      exec (.reissuePassTimer p x) s = .next (drainPart p (startPass p m x (l.take 64) true (dropClusters p s)))) ∧
    (∀ (p : PartId) (pos : Nat) (e : Exec) (m : Model) (k : Conj), (getStream s p 0).exec = some e → jobModel (getPart s p) = some m → specStep s p (d16 e.desc 34) = some k → shadowFresh s p e k pos = true → (getSlot s p (e.base + pos)).rowPoison = false → shadowPoisoned s p m (d16 e.desc 34) = false →
      exec (.shadowScoreDone p pos) s = .next (takeShadow p k m (e.base + pos) (shadowPredict s p m e.desc (e.base + pos)) s)) ∧
    (∀ (p : PartId) (pos : Nat) (e : Exec) (m : Model) (k : Conj), (getStream s p 0).exec = some e → jobModel (getPart s p) = some m → specStep s p (d16 e.desc 34) = some k → shadowFresh s p e k pos = true → (getSlot s p (e.base + pos)).rowPoison = false → shadowPoisoned s p m (d16 e.desc 34) = true →
      exec (.shadowScoreDone p pos) s = .next (suppress p 1 s)) ∧
    (∀ (p : PartId) (k : Conj) (m : Model) (i : Nat) (l : List (Nat × Bool)),
      takeShadow p k m i l s = eachOf ((l.mapIdx (fun j x => (x, j))).filter (fun x => x.1.2)) (fun x v => speculate p k m i x.1.1 x.2 v)
        (cntPart 0x000A0030 (l.filter (fun x => !x.2)).length p
          (updPart s p (fun q => { q with shadow := q.shadow ++ [(i, l.mapIdx (fun j x => (x.1, j)))] })))) ∧
    (∀ (p : PartId) (k : Conj) (x : Comm), (getPart s p).conj = some k → k.closed = true → passOf s p k = false → stepRows s p k = [] → getComm s k.comm = some x →
      exec (.stepClosureProbe p) s = .next (eachOf ((clauseDevs s k).filter (longQuiet k (dtNow s))) (probeDev p x) s)) ∧
    (∀ (p : PartId) (k : Conj), (getPart s p).served = some k → k.served.getD 0 ≤ dtNow s →
      ∃ u, exec (.teardownServeEnd p) s = .next (drainPart p u) ∧ (getPart u p).served = none ∧
      u = updPart (eachOf (stepRows s p k) (fun r v => if r.spec then orphanRow p r v else dropRow p r.tag v) s) p (fun q => { q with
        served := none
        pass := if q.pass.any (fun x => x.step == k.step && x.layer == k.layer && !x.alone) then none else q.pass }))

/-- Data-plane packets: held until their FLOW_SEQ is next, checked in their turn, then each kind has its effect; a
REFUSE acts at once (spec/12_dispatch_and_combine.md R311, spec/12_dispatch_and_combine.md R313,
spec/12_dispatch_and_combine.md R314, spec/12_dispatch_and_combine.md R315, spec/12_dispatch_and_combine.md R316,
spec/12_dispatch_and_combine.md R324, spec/05_time_base_windows_and_the_commit_instant.md R120,
spec/13_bridle_links.md R350). Rests in part on the choices of the model in notes/assumptions/37, 42, 50, 51. -/
def Obligations.PacketsArriveInFlowOrder : Prop :=
  ∀ s : State,
    (∀ (src : DevId) (path : Path) (b : Bytes), s.boot.state = .ready → (rawPacket b).kind = 2 →
      exec (.resultReceive src path b) s = .next (arrive src path false b s)) ∧
    (∀ (src : DevId) (path : Path) (b : Bytes), s.boot.state = .ready → (rawPacket b).kind = 3 →
      exec (.verdictReceive src path b) s = .next (arrive src path false b s)) ∧
    (∀ (src : DevId) (path : Path) (b : Bytes), s.boot.state = .ready → (rawPacket b).kind = 4 →
      exec (.closeReceive src path b) s = .next (arrive src path false b s)) ∧
    (∀ (src : DevId) (path : Path) (b : Bytes), s.boot.state = .ready → (rawPacket b).kind = 5 →
      exec (.dropReceive src path b) s = .next (arrive src path false b s)) ∧
    (∀ (src : DevId) (path : Path) (b : Bytes), s.boot.state = .ready → (rawPacket b).kind = 6 →
      exec (.refuseReceive src path b) s = .next (arrive src path false b s)) ∧
    (∀ (src : DevId) (path : Path) (b : Bytes), (quietRow s).boot.state = .ready → ((rawPacket b).kind = 0 ∨ (rawPacket b).kind = 1 ∨ 6 < (rawPacket b).kind) →
      exec (.rowReceive src path b) s = .next (arrive src path false b (quietRow s))) ∧
    (∀ (src : DevId) (path : Path) (b : Bytes) (k : Packet) (u : State), u = arriveMeets path (flowPartOf false b) s → parsePacket b = some k → k.kind = 6 →
      arrive src path false b s = drainPart (flowPartOf false b) (takeRefuse src (flowPartOf false b) k (leavePool src path b u))) ∧
    (∀ (src : DevId) (path : Path) (b : Bytes) (k : Packet) (u : State), u = arriveMeets path (flowPartOf false b) s → parsePacket b = some k → k.kind ≠ 6 → seqSeen u src (flowPartOf false b) (flowSeqOf false b) = false →
      arrive src path false b s = drainPart (flowPartOf false b) (holdPacket src path false (flowPartOf false b) (flowSeqOf false b) b
        (seeRise src (flowPartOf false b) false (flowSeqOf false b) b u))) ∧
    (∀ (src : DevId) (path : Path) (b : Bytes) (k : Packet) (u : State), u = arriveMeets path (flowPartOf false b) s → parsePacket b = some k → k.kind ≠ 6 → seqSeen u src (flowPartOf false b) (flowSeqOf false b) = true →
      arrive src path false b s = cntBridle 0x00150420 1 (leavePool src path b u)) ∧
    (∀ (src : DevId) (path : Path) (b : Bytes) (u : State), u = arriveMeets path (flowPartOf false b) s → parsePacket b = none → (rawPacket b).kind ≠ 6 →
      arrive src path false b s = drainPart (flowPartOf false b) (passOver src path (flowPartOf false b) (rawPacket b).flowSeq
        (takeBad src (flowPartOf false b) b (leavePool src path b u)))) ∧
    (∀ (src : DevId) (p : PartId) (b : Bytes), (rawPacket b).kind ≠ 2 →
      takeBad src p b s = cntPart 0x000D0020 1 p (sendRefuse src p 1 (rawPacket b) s)) ∧
    (∀ (d : DevId) (p : PartId) (n : Nat), (getFlow s d p.val).rxHeld.find? (fun e => e.seq == (getFlow s d p.val).rxNext) = none →
      drainFlow d p (n + 1) s = s) ∧
    (∀ (d : DevId) (p : PartId) (n : Nat) (e : HeldPkt) (t : State), (getFlow s d p.val).rxHeld.find? (fun e => e.seq == (getFlow s d p.val).rxNext) = some e → t = updFlow d p.val (fun f => { f with rxNext := wrapAdd 32 f.rxNext 1, rxHeld := f.rxHeld.filter (fun x => x.seq != e.seq) }) s →
      drainFlow d p (n + 1) s = drainFlow d p n (if e.bytes.isEmpty = true then t else markMoved p e (deliverHeld d p e.path e.piece e.dt e.bytes t))) ∧
    (∀ (d : DevId) (p : PartId) (path : Path) (dt : Nat) (b : Bytes),
      deliverHeld d p path false dt b s = deliverPacket d path dt p b s ∧ deliverHeld d p path true dt b s = arrivePiece d path dt p b s) ∧
    (∀ (src : DevId) (path : Path) (dt : Nat) (p : PartId) (b : Bytes) (k : Packet) (u : State), parsePacket b = some k → (1 ≤ k.kind ∧ k.kind ≤ 6) → judgeEpoch src k.cfgEpoch dt s = (false, u) →
      deliverPacket src path dt p b s = refuseEpoch src p k.cfgEpoch k (pathSource path) (k.kind == 1 && tagSpec k.tag)
        (leavePool src path b u)) ∧
    (∀ (src : DevId) (path : Path) (dt : Nat) (p : PartId) (b : Bytes) (k : Packet) (u : State), parsePacket b = some k → judgeEpoch src k.cfgEpoch dt s = (true, u) → (k.kind = 2 ∨ k.kind = 5) →
      deliverPacket src path dt p b s = judgeResult p k (leavePool src path b u)) ∧
    (∀ (p : PartId) (k : Packet), (tagDev k.tag = ownId s ∧ staleEpoch (getPart s p).epoch k.partEpoch = true) →
      judgeResult p k s = cntPart 0x000D0028 1 p s) ∧
    (∀ (p : PartId) (k : Packet), (tagDev k.tag ≠ ownId s ∨ staleEpoch (getPart s p).epoch k.partEpoch = false) →
      judgeResult p k s = takeResult p k s) ∧
    (∀ (src : DevId) (path : Path) (dt : Nat) (p : PartId) (b : Bytes) (k : Packet) (u : State), parsePacket b = some k → judgeEpoch src k.cfgEpoch dt s = (true, u) → (k.kind = 1 ∨ k.kind = 3 ∨ k.kind = 4) → judgePart src p k.partEpoch u = none →
      deliverPacket src path dt p b s = cntPart 0x000D0028 1 p (leavePool src path b u)) ∧
    (∀ (src : DevId) (path : Path) (dt : Nat) (p : PartId) (b : Bytes) (k : Packet) (u : State) (v : State), parsePacket b = some k → judgeEpoch src k.cfgEpoch dt s = (true, u) → k.kind = 1 → judgePart src p k.partEpoch u = some v →
      deliverPacket src path dt p b s = takeRow src path p k dt b v) ∧
    (∀ (src : DevId) (path : Path) (dt : Nat) (p : PartId) (b : Bytes) (k : Packet) (u : State) (v : State), parsePacket b = some k → judgeEpoch src k.cfgEpoch dt s = (true, u) → k.kind = 3 → judgePart src p k.partEpoch u = some v →
      deliverPacket src path dt p b s =
        conjSettle p (eachOf (List.range k.count) (fun i x => takeVerdict p k.payload i x) (leavePool src path b v))) ∧
    (∀ (src : DevId) (path : Path) (dt : Nat) (p : PartId) (b : Bytes) (k : Packet) (u : State) (v : State), parsePacket b = some k → judgeEpoch src k.cfgEpoch dt s = (true, u) → k.kind = 4 → judgePart src p k.partEpoch u = some v →
      deliverPacket src path dt p b s = takeClose src p k (leavePool src path b v)) ∧
    (∀ (src : DevId) (path : Path) (dt : Nat) (p : PartId) (b : Bytes) (k : Packet) (x : Cluster), s.clusters.toList[k.cluster]? = some x → x.state ≠ .isolated → x.state ≠ .off → tagSpec k.tag = false → rowWithheld s p = false →
      takeRow src path p k dt b s = storeRow p (rowOfPacket src path k dt) (leavePool src path b (cntPart64 0x000D0008 1 p s))) ∧
    (∀ (src : DevId) (path : Path) (dt : Nat) (p : PartId) (b : Bytes) (k : Packet) (x : Cluster), s.clusters.toList[k.cluster]? = some x → x.state ≠ .isolated → x.state ≠ .off → tagSpec k.tag = false → rowWithheld s p = true →
      takeRow src path p k dt b s = noteStalls p (storeRow p { rowOfPacket src path k dt with stage := .waiting, pkt := b } (cntPart64 0x000D0008 1 p s)))

/-- The combine counts a contribution once, only for the request and step that its slot holds
(spec/12_dispatch_and_combine.md R324, spec/12_dispatch_and_combine.md R325, spec/12_dispatch_and_combine.md R327).
Rests in part on the choices of the model in notes/assumptions/51. -/
def Obligations.AContributionCountsOnce : Prop :=
  ∀ s : State,
    (∀ (p : PartId) (tag e g : Nat) (y : Option (List Nat)) (b h : Bool) (r : Slot), r = getSlot s p (tagSlot tag) → (e ≠ (getPart s p).epoch ∨ r.held = false ∨ r.active = false ∨ r.gen ≠ g ∨ r.epoch ≠ tagEpoch tag ∨ r.layer ≠ tagLayer tag ∨ r.expected ≤ tagRank tag) →
      contribute p tag e g y b h s = cntPart 0x000F0014 1 p s ∧ (getPart (contribute p tag e g y b h s) p).slots = (getPart s p).slots) ∧
    (∀ (p : PartId) (tag e g : Nat) (y : Option (List Nat)) (b h : Bool) (r : Slot), r = getSlot s p (tagSlot tag) → (e = (getPart s p).epoch ∧ r.held = true ∧ r.active = true ∧ r.gen = g ∧ r.epoch = tagEpoch tag ∧ r.layer = tagLayer tag ∧ tagRank tag < r.expected) → bitOf r.seen (tagRank tag) = true →
      contribute p tag e g y b h s = cntPart 0x000F0010 1 p s ∧ (getPart (contribute p tag e g y b h s) p).slots = (getPart s p).slots) ∧
    (∀ (p : PartId) (i : Nat), ((getSlot s p i).rounded = true ∨ (getSlot s p i).active = false ∨ (unseen (getSlot s p i)).isSome = true) →
      roundSlot p i s = s)

/-- Collective pieces: each takes its turn in its flow and its checks, then each kind has its effect
(spec/15_collectives.md R386, spec/15_collectives.md R387, spec/15_collectives.md R388, spec/15_collectives.md R396,
spec/15_collectives.md R397, spec/15_collectives.md R400, spec/15_collectives.md R403,
spec/12_dispatch_and_combine.md R315). Rests in part on the choices of the model in notes/assumptions/44, 52, 53. -/
def Obligations.CollectiveMessages : Prop :=
  ∀ s : State,
    (∀ (src : DevId) (path : Path) (b : Bytes) (ops : Option ColOps), (noteOps src b ops s).boot.state = .ready → (rawPiece b).kind = 1 →
      exec (.colDataReceive src path b ops) s = .next (arrive src path true b (noteOps src b ops s))) ∧
    (∀ (src : DevId) (path : Path) (b : Bytes), s.boot.state = .ready → (rawPiece b).kind = 2 →
      exec (.colAckReceive src path b) s = .next (arrive src path true b s)) ∧
    (∀ (src : DevId) (path : Path) (b : Bytes), s.boot.state = .ready → (rawPiece b).kind = 3 →
      exec (.colNackReceive src path b) s = .next (arrive src path true b s)) ∧
    (∀ (src : DevId) (path : Path) (b : Bytes), s.boot.state = .ready → (rawPiece b).kind = 4 →
      exec (.joinReceive src path b) s = .next (arrive src path true b s)) ∧
    (∀ (src : DevId) (path : Path) (b : Bytes), s.boot.state = .ready → (rawPiece b).kind = 5 →
      exec (.readyReceive src path b) s = .next (arrive src path true b s)) ∧
    (∀ (src : DevId) (path : Path) (b : Bytes), s.boot.state = .ready → (rawPiece b).kind = 6 →
      exec (.colAbortReceive src path b) s = .next (arrive src path true b s)) ∧
    (∀ (src : DevId) (path : Path) (b : Bytes), s.boot.state = .ready → (rawPiece b).kind = 7 →
      exec (.colProbeReceive src path b) s = .next (arrive src path true b s)) ∧
    (∀ (src : DevId) (path : Path) (b : Bytes), s.boot.state = .ready → (rawPiece b).kind = 8 →
      exec (.colProbeAckReceive src path b) s = .next (arrive src path true b s)) ∧
    (∀ (src : DevId) (path : Path) (b : Bytes) (u : State), u = arriveMeets path (flowPartOf true b) s → seqSeen u src (flowPartOf true b) (flowSeqOf true b) = false →
      arrive src path true b s = drainPart (flowPartOf true b) (holdPacket src path true (flowPartOf true b) (flowSeqOf true b) b
        (seeRise src (flowPartOf true b) true (flowSeqOf true b) b u))) ∧
    (∀ (src : DevId) (path : Path) (dt : Nat) (p : PartId) (b : Bytes) (x : Piece) (u v : State), parsePiece b = some x → judgeEpoch src x.cfgEpoch dt s = (true, u) → judgePart src p x.partEpoch u = some v →
      arrivePiece src path dt p b s = deliverPiece src path dt b x v) ∧
    (∀ (src : DevId) (path : Path) (dt : Nat) (p : PartId) (b : Bytes) (x : Piece) (u : State), parsePiece b = some x → judgeEpoch src x.cfgEpoch dt s = (true, u) → judgePart src p x.partEpoch u = none →
      arrivePiece src path dt p b s = cntPart 0x000D0028 1 p (leavePool src path b u)) ∧
    (∀ (src : DevId) (path : Path) (dt : Nat) (p : PartId) (b : Bytes), parsePiece b = none → (rawPiece b).kind = 1 → pieceFate (leavePool src path b s) (rawPiece b) ≠ .early →
      arrivePiece src path dt p b s = colSettle p (dataBad (rawPiece b) dt (leavePool src path b s))) ∧
    (∀ (src : DevId) (path : Path) (dt : Nat) (b : Bytes) (x : Piece), x.kind = 1 →
      deliverPiece src path dt b x s = colSettle (commPart x.commId)
        (if (dataPiece src path dt b x s).1 then (dataPiece src path dt b x s).2
         else { (dataPiece src path dt b x s).2 with col := { (dataPiece src path dt b x s).2.col with waiting := (dataPiece src path dt b x s).2.col.waiting ++ [(src, path, dt, b)] } })) ∧
    (∀ (src : DevId) (path : Path) (dt : Nat) (b : Bytes) (x : Piece), x.kind = 2 →
      deliverPiece src path dt b x s = colSettle (commPart x.commId) (ackPiece x (ifActive x (leavePool src path b s)))) ∧
    (∀ (src : DevId) (path : Path) (dt : Nat) (b : Bytes) (x : Piece), x.kind = 3 →
      deliverPiece src path dt b x s = colSettle (commPart x.commId) (nackPiece x (ifActive x (leavePool src path b s)))) ∧
    (∀ (src : DevId) (path : Path) (dt : Nat) (b : Bytes) (x : Piece), x.kind = 4 →
      deliverPiece src path dt b x s = colSettle (commPart x.commId) (joinPiece x (leavePool src path b s))) ∧
    (∀ (src : DevId) (path : Path) (dt : Nat) (b : Bytes) (x : Piece), x.kind = 5 →
      deliverPiece src path dt b x s = colSettle (commPart x.commId) (readyPiece x (leavePool src path b s))) ∧
    (∀ (src : DevId) (path : Path) (dt : Nat) (b : Bytes) (x : Piece), x.kind = 6 →
      deliverPiece src path dt b x s = colSettle (commPart x.commId) (abortPiece x (leavePool src path b s))) ∧
    (∀ (src : DevId) (path : Path) (dt : Nat) (b : Bytes) (x : Piece), x.kind = 7 →
      deliverPiece src path dt b x s = colSettle (commPart x.commId) (probePiece x (leavePool src path b s))) ∧
    (∀ (src : DevId) (path : Path) (dt : Nat) (b : Bytes) (x : Piece), x.kind = 8 →
      deliverPiece src path dt b x s = colSettle (commPart x.commId) (probeAckPiece x (leavePool src path b s))) ∧
    (∀ (src : DevId) (path : Path) (dt : Nat) (b : Bytes) (x : Piece), (x.kind = 0 ∨ 8 < x.kind) →
      deliverPiece src path dt b x s = colSettle (commPart x.commId) (cntPart 0x00100060 1 (commPart x.commId) (leavePool src path b s))) ∧
    (∀ (x : Piece) (h : Nat) (k : Comm), findComm s x.commId = some (h, k) → k.state ≠ .active →
      abortPiece x s = s) ∧
    (∀ (x : Piece) (h : Nat) (k : Comm), findComm s x.commId = some (h, k) → k.state = .active →
      probePiece x s = sendPiece x.src k.part { commId := k.id, kind := 8, op := 8, opSeq := k.opSeq, detail := 1 + 2 * b2n (executing s h) + 4 * (k.opSeq % 2 ^ 30) } s) ∧
    (∀ (x : Piece) (h : Nat) (k : Comm), findCreating s x.commId = some (h, k) →
      (x.payload = k.digest → joinPiece x s = joinSettle h (holdJoin x (ifActive x s))) ∧
      (x.payload ≠ k.digest → joinPiece x s = ifActive x s) ∧
      (getComm s h = some k → k.state = .creating → leaderOf k.members (ownId s / 16) ≠ ownId s → readyPiece x s = becomeActive h s)) ∧
    (∀ (x : Piece), findCreating s x.commId = none →
      joinPiece x s = (if namesActive s x = true then s else notPresent x (holdJoin x s)) ∧ readyPiece x s = ifActive x s) ∧
    (∀ (x : Piece) (p : PartId) (v : ColView) (c : ChunkOut), runOf s x = some (p, v) → (v.run.chunks.flatMap (·.outs)).find? (outNamed x) = some c →
      nackPiece x s = sendChunk p v c true s) ∧
    (∀ (x : Piece) (p : PartId) (v : ColView), runOf s x = some (p, v) →
      ackPiece x s = updRun p (fun r => { r with chunks := r.chunks.map (fun k =>
        { k with outs := k.outs.filter (fun o => !(o.dst == x.src && o.chunk == x.chunk && o.phase == x.phase && o.round == x.round)) }) }) s)

/-- Probes, their timeout, the creation and command timeouts, and the grant of a reducer slot (spec/15_collectives.md
R386, spec/15_collectives.md R395, spec/15_collectives.md R400, spec/15_collectives.md R401, spec/15_collectives.md
R402). Rests in part on the choices of the model in notes/assumptions/53. -/
def Obligations.CollectiveTimers : Prop :=
  ∀ s : State,
    (∀ (p : PartId), exec (.colProbeTimer p) s = .next (eachOf (colMissing s p) (probeMember p) s)) ∧
    (∀ (p : PartId) (d : DevId) (v : ColView), colView s p = some v → pathUp s d = false →
      probeMember p d s = colSettle p (loseFrom v.run.handle d s)) ∧
    (∀ (p : PartId) (d : DevId) (r : ColRun), (getPart s p).colRun = some r → probeOver s r.probes d = true →
      exec (.colProbeTimeout p d) s = .next (colSettle p (loseFrom r.handle d s))) ∧
    (∀ (p : PartId) (d : DevId) (k : Conj), (getPart s p).colRun = none → (getPart s p).conj = some k →
      exec (.colProbeTimeout p d) s = .next (if probeOver s k.probes d = true then colSettle p (lostMember k.comm d s) else s)) ∧
    (∀ (p : PartId) (d : DevId) (v : ColView), colView s p = some v → pathUp s d = true →
      probeMember p d s = sendPiece d p { commId := v.comm.id, kind := 7, op := 8, opSeq := v.run.opSeq } (updRun p (fun r => { r with
        probes := if r.probes.any (fun x => x.1 == d) then r.probes else r.probes ++ [(d, dtNow s)]
        asked := r.asked.filter (fun x => x.1 != d) ++ [(d, dtNow s)] }) s)) ∧
    (∀ (p : PartId), exec (.commCreateTimeout p) s = .next (eachOf (commsOf s p) (createLapse p) s)) ∧
    (∀ (p : PartId) (h : Nat) (k : Comm) (t : State), getComm s h = some k → k.state = .creating → waitedOut s k.started = true → t = setComm h none { s with col := { s.col with joins := s.col.joins.filter (fun j => j.1 != k.id) } } →
      createLapse p h s = (if createsComm s p h = true then createFails p k.resultCt 3 t else t)) ∧
    (∀ (p : PartId) (h : Nat) (k : Comm), getComm s h = some k → (k.state ≠ .creating ∨ waitedOut s k.started = false) →
      createLapse p h s = s) ∧
    (∀ (p : PartId) (r : ColRun), (getPart s p).colRun = some r → waitedOut s (colSince s p) = true →
      exec (.colCommandTimeout p) s = .next (raiseAbort r.handle 0x0108 0 s)) ∧
    (∀ (x : PartId × Nat × Nat × Nat × Bool), (sortBy slotLt ((slotChunks s).filter (fun x => !x.2.2.2.2))).find? (fun x => slotFree s x.1) = some x →
      exec .reducerSlotGrant s = .next (colSettle x.1 (updChunk x.1 x.2.2.2.1 (fun k => { k with granted := true }) s))) ∧
    (∀ (p : PartId), currentPri s p ≠ 0 → slotCount s ≤ (slotsUsed s).2 + 4 → slotFree s p = false)

/-- Deadline checkpoints, the refill of the regulators and the aging of waiting requests
(spec/16_partitions_scheduling_and_deadlines.md R413, spec/16_partitions_scheduling_and_deadlines.md R416,
spec/16_partitions_scheduling_and_deadlines.md R417, spec/16_partitions_scheduling_and_deadlines.md R420,
spec/16_partitions_scheduling_and_deadlines.md R421). Rests in part on the choices of the model in
notes/assumptions/43. -/
def Obligations.DeadlinesRegulatorsAndAging : Prop :=
  ∀ s : State,
    (∀ (p : PartId) (k : Conj), (getPart s p).conj = some k → hasDeadline s p = true → k.closeSent = false → k.count ≤ readyCount s p k → k.checkS = none →
      exec (.deadlineCheckpoint p false) s = .next (conjAdvance p (projectCheck p false
        (traceStage p 1 (updConj p (fun k => { k with checkS := some (dtNow s) }) s))))) ∧
    (∀ (p : PartId) (k : Conj), (getPart s p).conj = some k → hasDeadline s p = true → k.closeSent = false → k.count ≤ readyCount s p k → k.checkS.isSome = true → k.checkD = none →
      exec (.deadlineCheckpoint p true) s = .next (conjAdvance p (projectCheck p true
        (traceStage p 2 (updConj p (fun k => { k with checkD := some (dtNow s) }) s))))) ∧
    (∀ (p : PartId) (k : Conj) (b : Bool), (getPart s p).conj = some k → (if b = true then k.checkD.isSome = true ∨ k.checkS = none else k.checkS.isSome = true) →
      exec (.deadlineCheckpoint p b) s = .next s) ∧
    (∀ u : State, windowsDue s ≠ 0 → u = { s with time := { s.time with window := windowNow s } } →
      exec .regulatorWindowRefill s = .next (retryAll (eachOf allParts (fun p v => refillPart (windowsDue s) p v) (if regsDue u = true then settleRegs u else u)))) ∧
    (windowsDue s = 0 → exec .regulatorWindowRefill s = .next { s with time := { s.time with window := windowNow s } }) ∧
    (∀ (n : Nat) (p : PartId) (i : Fin 4),
      (getPart (refillPart n p s) p).regul[i] = refill n (budget s p i) (getPart s p).regul[i] ∧
      (refillPart n p s).ports = s.ports ∧ (refillPart n p s).links = s.links ∧ (refillPart n p s).hbm = s.hbm) ∧
    (∀ (n b : Nat) (r : Regulator), 0 < b →
      (refill n b r).credit = min (r.credit + (n * (b * 4096) : Nat)) (b * 4096 : Nat) ∧ (refill n b r).stalled = false) ∧
    (∀ (p : PartId) (n : Nat) (l : List WaitReq), n = waitingRequests s p → l = (getPart s p).waitReqs →
      exec (.requestAging p) s = .next (cntPart 0x00020050
        (agedCount (dtNow s) (currentPri s p) n l + hbmRaises (dtNow s) (currentPri s p) (getPart s p).hbmWait + packetRaises s p) p
        (agePackets p (updPart s p (fun q => { q with
          waitReqs := agedReqs (dtNow s) (currentPri s p) n l
          hbmWait := agedHbm (dtNow s) (currentPri s p) q.hbmWait }))))) ∧
    (∀ (p : PartId), currentPri s p = (if (getPart s p).job.open_ = true then (getPart s p).job.priority else 2)) ∧
    (∀ (now pri : Nat) (w : WaitReq), w.raises = 0 →
      (agedReq now pri w).raises = min ((now - w.since) / 100000) (pri - 1) ∧ (agedReq now pri w).since = w.since) ∧
    (∀ (now pri n : Nat) (l : List WaitReq), (∀ w ∈ l, w.raises ≤ pri - 1) →
      (∀ w ∈ agedReqs now pri n l, w.raises ≤ pri - 1) ∧ (agedReqs now pri n l).length = n)

/-- The patrol scrub of a granule and the write of ERR_HEAD (spec/18_errors_recovery_and_ordering.md R455,
spec/18_errors_recovery_and_ordering.md R461, spec/18_errors_recovery_and_ordering.md R462,
spec/18_errors_recovery_and_ordering.md R477). Rests in part on the choices of the model in notes/assumptions/35,
37. -/
def Obligations.ScrubsAndTheErrorRing : Prop :=
  ∀ s : State,
    (∀ (g : Nat), s.boot.hbmTrained = true → tabGet .none s.hbmErr g = .none → exec (.patrolScrubRead g 0) s = .next s) ∧
    (∀ (g : Nat) (p : PartId), s.boot.hbmTrained = true → tabGet .none s.hbmErr g = .ce → granuleOwner s g = some p →
      exec (.patrolScrubRead g 0) s = .next (cntPart 0x00060040 1 p (forgetErr g s))) ∧
    (∀ (g : Nat), s.boot.hbmTrained = true → tabGet .none s.hbmErr g = .ue →
      exec (.patrolScrubRead g 0) s = .next (scrubBad g (forgetErr g s))) ∧
    (∀ (g : Nat) (p : PartId), s.boot.hbmTrained = true → granuleOwner s g = some p →
      exec (.patrolScrubRead g 1) s = .next (cntPart 0x00060040 1 p (if granBad s g = true then s else forgetErr g s))) ∧
    (∀ (g : Nat), s.boot.hbmTrained = true → exec (.patrolScrubRead g 2) s = .next (scrubBad g (forgetErr g s))) ∧
    (∀ (g : Nat) (p : PartId), granuleOwner (markGranule g s) g = some p →
      scrubBad g s = record p { code := 0x0302, cls := .deferred, source := 0xA, addr := g * Config.granule - hbmBase (markGranule g s) p } (markGranule g s)) ∧
    (∀ (g : Nat), granuleOwner (markGranule g s) g = none →
      scrubBad g s = mgtRecord { code := 0x0302, cls := .deferred, source := 0xA, addr := g * Config.granule } (markGranule g s)) ∧
    (∀ (k : PortId) (v : Nat) (p : PartId) (u : State), hostPart (.hp k) 0x00060004 s = (some p, u) →
      exec (.errHeadWrite (.hp k) v) s = .next (updPart u p (fun q => { q with ring := setHead q.ring v }))) ∧
    (∀ (r : Requester) (v : Nat), (r = .mgt ∨ r = .jtag) → mgtOpen r s = true → s.errSelect = 4 →
      exec (.errHeadWrite r v) s = .next { s with mgtRing := setHead s.mgtRing v }) ∧
    (∀ (g : ErrRing) (v : Nat), g.head ≤ g.tail →
      (setHead g v).head ≤ g.tail ∧ g.head ≤ (setHead g v).head ∧ (setHead g v).tail = g.tail ∧
      (setHead g v = g ∨ (setHead g v).head % 2 ^ 32 = v % 2 ^ 32))

/-- Bridle links by their state table: DETECT to ACTIVE, the ways to DOWN and MISWIRED, and the commands of the control
block (spec/13_bridle_links.md R337, spec/13_bridle_links.md R338, spec/13_bridle_links.md R339,
spec/13_bridle_links.md R343, spec/13_bridle_links.md R344, spec/13_bridle_links.md R356, spec/13_bridle_links.md
R359). Rests in part on the choices of the model in notes/assumptions/8, 24. -/
def Obligations.BridleTraining : Prop :=
  ∀ s : State,
    (∀ (l : LinkId) (u : State), (getLink s l).state = .detect → u = setBrl l .equalize (updLink s l (fun q => { q with lanesLocked := 15 })) →
      exec (.brlSignalDetect l) s = .next (if (getLink s l).leader = true then u else emit (.link l .training) u)) ∧
    (∀ (l : LinkId), ((getLink s l).state = .equalize ∨ (getLink s l).state = .identify ∨ (getLink s l).state = .keying) → (getLink s l).leader = false →
      exec (.brlSignalDetect l) s = .next (enterDetect l s)) ∧
    (∀ (l : LinkId), (getLink s l).state = .dormant → exec (.brlSignalDetect l) s = .next (enterDetect l s)) ∧
    (∀ (l : LinkId), (getLink s l).state = .equalize →
      exec (.brlEqualizeDone l) s = .next (sendLinkMsg l (.identify (ownIdentity s l)) (setBrl l .identify s))) ∧
    (∀ (l : LinkId) (i : Identity) (u : State), (getLink s l).state = .identify → u = learnStart i.dev i.startId (updLink s l (fun q => { q with peer := i, peerValid := true })) → some i.dev = linkPeer u l → i.link = farLink u l → i.groupSize = u.cfg.group.size → i.pairMode = u.cfg.group.pairMode → i.crypt = u.cfg.link.brlCrypt →
      exec (.identifyReceive l i) s = .next (if u.cfg.link.brlCrypt then setBrl l .keying u else linkActive l false u)) ∧
    (∀ (l : LinkId) (i : Identity) (u : State), (getLink s l).state = .identify → u = learnStart i.dev i.startId (updLink s l (fun q => { q with peer := i, peerValid := true })) → (some i.dev ≠ linkPeer u l ∨ i.link ≠ farLink u l) →
      exec (.identifyReceive l i) s = .next (linkDown l .miswired 2 u)) ∧
    (∀ (l : LinkId) (i : Identity) (u : State), (getLink s l).state = .identify → u = learnStart i.dev i.startId (updLink s l (fun q => { q with peer := i, peerValid := true })) → some i.dev = linkPeer u l → i.link = farLink u l → (i.groupSize ≠ u.cfg.group.size ∨ i.pairMode ≠ u.cfg.group.pairMode ∨ i.crypt ≠ u.cfg.link.brlCrypt) →
      exec (.identifyReceive l i) s = .next (linkDown l .down 3 u)) ∧
    (∀ (l : LinkId) (k : Bytes), (getLink s l).state = .keying → groupPsk s = some k →
      exec (.brlKeyingDone l true) s = .next (linkActive l true (freshKey l k s))) ∧
    (∀ (l : LinkId) (b : Bool), (getLink s l).state = .keying → (b = false ∨ groupPsk s = none) →
      exec (.brlKeyingDone l b) s = .next (linkDown l .down 4 (linkAuthFail l s))) ∧
    (∀ (l : LinkId), ((getLink s l).state = .detect ∨ (getLink s l).state = .equalize ∨ (getLink s l).state = .identify ∨ (getLink s l).state = .keying) → (getLink s l).trainAt + s.cfg.tmo.linkTrainMs * 1000000 ≤ upNs s →
      exec (.brlTrainTimeout l) s = .next (linkDown l .down 1 s)) ∧
    (∀ (l : LinkId), ((getLink s l).state = .down ∨ (getLink s l).state = .miswired) → (getLink s l).since + 1000000000 ≤ upNs s →
      exec (.brlDownRetry l) s = .next (retryLink l s)) ∧
    (∀ (l : LinkId), working (getLink s l) = true → exec (.lossOfLink l) s = .next (retrainLink l s)) ∧
    (∀ (r : Requester) (l : LinkId) (v : Nat), brlCmd r v 1 s = true → working (getLink s l) = true →
      exec (.brlRetrain r l v) s = .next (retrainLink l s)) ∧
    (∀ (r : Requester) (l : LinkId) (v : Nat), brlCmd r v 1 s = true → ((getLink s l).state = .down ∨ (getLink s l).state = .miswired) →
      exec (.brlRetrain r l v) s = .next (retryLink l s)) ∧
    (∀ (r : Requester) (l : LinkId) (v : Nat), brlCmd r v 2 s = true → working (getLink s l) = true → lastOfBond s l = false → (l.val ≠ 15 ∨ s.cfg.group.pairMode = 0) →
      exec (.brlDormant r l v) s = .next (sendLinkMsg l .dormantReq
        (wakeLink l (updLink s l (fun q => { q with dormantAsked := true }))))) ∧
    (∀ (r : Requester) (l : LinkId) (v : Nat), brlCmd r v 3 s = true → (getLink s l).state = .dormant →
      exec (.brlWake r l v) s = .next (enterDetect l s)) ∧
    (∀ (l : LinkId) (k : Bytes), working (getLink s l) = true → (getLink s l).cryptOn = true → groupPsk s = some k →
      exec (.brlRekey l) s = .next (freshKey l k s)) ∧
    (∀ (l : LinkId) (b : BrlState), b ≠ .active →
      (getLink (setBrl l b s) l).state = b ∧ (getLink (enterDetect l s) l).state = .detect ∧ (getLink (enterDetect l s) l).cryptOn = false)

/-- Bridle flits, acknowledgements, NAKs, integrity, time flits, advertisements and sleep (spec/13_bridle_links.md R340,
spec/13_bridle_links.md R341, spec/13_bridle_links.md R342, spec/13_bridle_links.md R344, spec/13_bridle_links.md
R345, spec/13_bridle_links.md R352, spec/13_bridle_links.md R355). Rests in part on the choices of the model in
notes/assumptions/5, 26, 27. -/
def Obligations.BridleFlitsAndSleep : Prop :=
  ∀ s : State,
    (∀ (l : LinkId) (fec : Nat) (b : Bytes) (m : Option LinkMsg), (getLink s l).state = .active → 2 ≤ fec →
      exec (.flitReceive l fec b m) s = .next (discardFlit l (cntLink 0x1C 1 l s))) ∧
    (∀ (l : LinkId) (fec : Nat) (b : Bytes) (m : Option LinkMsg), (getLink s l).state = .active → fec < 2 →
      exec (.flitReceive l fec b m) s = .next (takeFlit l b m (if fec = 1 then cntLink 0x18 1 l s else s))) ∧
    (∀ (l : LinkId) (b : Bytes) (m : Option LinkMsg), parseFlit b = none → takeFlit l b m s = discardFlit l s) ∧
    (∀ (l : LinkId) (b p : Bytes) (h : FlitHead) (m : Option LinkMsg), parseFlit b = some (h, p) → h.type ≠ 0 → h.fseq ≠ (getLink s l).rxNext →
      takeFlit l b m s = s) ∧
    (∀ (l : LinkId), discardFlit l s = sendAck l (cntLink 0x20 1 l (updLink s l (fun q => { q with nakOpen := true })))) ∧
    (∀ (l : LinkId) (u : State), u = updLink s l (fun q => { q with ackOwed := 0 }) →
      sendAck l s = emit (.flit l (getLink s l).txSeq (flitBytes { fseq := (getLink s l).txSeq, ack := lastRx (getLink s l), nak := (getLink s l).nakOpen } [])) u) ∧
    (∀ (l : LinkId) (k : Nat), working (getLink s l) = true →
      exec (.nakReceive l k) s = .next (takeNak l (k % 4096) s)) ∧
    (∀ (l : LinkId), working (getLink s l) = true → (getLink s l).nakOpen = true →
      exec (.nakRepeat l) s = .next (sendAck l s)) ∧
    (∀ (l : LinkId), working (getLink s l) = true → (getLink s l).ackOwed ≠ 0 → (getLink s l).ackAt + 200 ≤ upNs s →
      exec (.ackTimer l) s = .next (sendAck l s)) ∧
    (∀ (l : LinkId) (b p : Bytes) (h : FlitHead), parseFlit b = some (h, p) → h.type = 4 → (getLink s l).state = .active →
      exec (.integrityReceive l b) s = .next (takeFlit l b none s)) ∧
    (∀ (l : LinkId) (a b t : Nat), working (getLink s l) = true → (getLink s l).timeTx = some t →
      exec (.timeFlitReceive l a b) s = .next (updLink s l (fun q => { q with timeRx := some (dtNow s), delayNs := oneWayDelay t b a (dtNow s) }))) ∧
    (∀ (l : LinkId) (a b : Nat), working (getLink s l) = true → (getLink s l).timeTx = none →
      exec (.timeFlitReceive l a b) s = .next (updLink s l (fun q => { q with timeRx := some (dtNow s) }))) ∧
    (∀ (t d o h : Nat), oneWayDelay t (t + d + o) (t + d + o + h) (t + d + h + d) = d % 2 ^ 16) ∧
    (exec .bondAdvertisementSend s = .next (judgeReach (advertise s))) ∧
    (∀ (l : LinkId) (a : Advert) (m : Nat), working (getLink s l) = true → linkMember s l = some m →
      exec (.bondAdvertisementReceive l a) s = .next (drainOut (relayReach s (judgeReach (takeAdvert m a s))))) ∧
    (∀ (l : LinkId), (getLink s l).state = .active → (getLink s l).idleUs ≠ 0 → (getLink s l).sleepAsked = false → queuedFor s l = false → max (getLink s l).since (getLink s l).lastSent + (getLink s l).idleUs * 1000 ≤ upNs s →
      exec (.brlIdleTimer l) s = .next (sendLinkMsg l .sleepReq (updLink s l (fun q => { q with sleepAsked := true })))) ∧
    (∀ (l : LinkId), (getLink s l).state = .active → queuedFor s l = true →
      exec (.sleepReqReceive l) s = .next (sendLinkMsg l .sleepNak s)) ∧
    (∀ (l : LinkId), (getLink s l).state = .active → queuedFor s l = false →
      exec (.sleepReqReceive l) s = .next (setBrl l .sleep (cntLink 0x34 1 l
        (updLink (sendLinkMsg l .sleepAck s) l (fun q => { q with sleepAsked := false }))))) ∧
    (∀ (l : LinkId), working (getLink s l) = true →
      exec (.wakePattern l) s = .next (drainLink l (setBrl l .active
        (updLink s l (fun q => { q with sleepAsked := false, dormantAsked := false })))))

/-- Tether planes by their state table, their control commands, MACsec, and the frames of ARP, ND and ICMP
(spec/14_tether_links_and_transport.md R363, spec/14_tether_links_and_transport.md R366,
spec/14_tether_links_and_transport.md R367, spec/14_tether_links_and_transport.md R377,
spec/14_tether_links_and_transport.md R380, spec/14_tether_links_and_transport.md R382). Rests in part on the
choices of the model in notes/assumptions/21, 23. -/
def Obligations.TetherPlanes : Prop :=
  ∀ s : State,
    (∀ (pl : PlaneId), (getPlane s pl).state = .align → s.cfg.sec.macsec = false →
      exec (.tthAlignDone pl) s = .next (planeUp pl s)) ∧
    (∀ (pl : PlaneId), (getPlane s pl).state = .align → s.cfg.sec.macsec = true →
      exec (.tthAlignDone pl) s = .next (setTth pl .keying s)) ∧
    (∀ (pl : PlaneId) (i : VaultItem) (n : Nat) (x : Bool), (getPlane s pl).state = .keying → macsecItem s pl = some i →
      exec (.mkaSecured pl n x) s = .next (planeUp pl (updPlane (freshSak pl i s) pl
        (fun q => { q with secured := true, xpn := x, keyServer := decide (255 ≤ n) })))) ∧
    (∀ (pl : PlaneId), (getPlane s pl).state = .align → (getPlane s pl).trainAt + s.cfg.tmo.linkTrainMs * 1000000 ≤ upNs s →
      exec (.tthTrainTimeout pl) s = .next (planeDown pl 1 s)) ∧
    (∀ (pl : PlaneId), (getPlane s pl).state = .keying → (getPlane s pl).trainAt + s.cfg.tmo.linkTrainMs * 1000000 ≤ upNs s →
      exec (.tthTrainTimeout pl) s = .next (planeDown pl 3 s)) ∧
    (∀ (pl : PlaneId), (getPlane s pl).state = .up → exec (.tthFault pl) s = .next (planeDown pl 2 s)) ∧
    (∀ (pl : PlaneId), (getPlane s pl).state = .down → (getPlane s pl).since + 1000000000 ≤ upNs s →
      exec (.tthDownRetry pl) s = .next (enterAlign pl s)) ∧
    (∀ (pl : PlaneId), (getPlane s pl).state = .up → (getPlane s pl).secured = true →
      exec (.mkaPeerLoss pl) s = .next (planeDown pl 3 s)) ∧
    (∀ (pl : PlaneId) (i : VaultItem), (getPlane s pl).secured = true → (0xC0000000 ≤ max (getPlane s pl).txPn (getPlane s pl).rxPn ∨ ((getPlane s pl).xpn = false ∧ (getPlane s pl).sakAt + 60000000000 ≤ dtNow s)) → macsecItem s pl = some i →
      exec (.macsecRekey pl) s = .next (freshSak pl i s)) ∧
    (∀ (r : Requester) (pl : PlaneId) (v : Nat), tthCmd r v 1 s = true → (getPlane s pl).state = .down →
      exec (.tthRetrain r pl v) s = .next (enterAlign pl s)) ∧
    (∀ (r : Requester) (pl : PlaneId) (v : Nat), tthCmd r v 2 s = true → (getPlane s pl).state = .up → s.time.ptp.plane ≠ some pl.val →
      exec (.tthDormant r pl v) s = .next (planeLeave pl .dormant s)) ∧
    (∀ (r : Requester) (pl : PlaneId) (v : Nat), tthCmd r v 3 s = true → (getPlane s pl).state = .dormant →
      exec (.tthWake r pl v) s = .next (enterAlign pl s)) ∧
    (∀ (pl : PlaneId),
      planeDown pl 2 s = planeLeave pl .down (recordLink { code := 0x0404, cls := .corrected, source := 9, sub := pl.val, detail0 := 2 }
        (updPlane s pl (fun q => { q with downCause := 2 })))) ∧
    (∀ (pl : PlaneId) (f : EthCheck) (a m : Nat) (t : State), (getPlane s pl).state = .up → ethBad pl f s = some t →
      exec (.arpNdRequest pl f a m) s = .next t ∧ exec (.arpNdReplyReceive pl f a m) s = .next t ∧ exec (.icmpEchoRequest pl f a m) s = .next t) ∧
    (∀ (pl : PlaneId) (x : EthTag) (k : PlaneCfg), planeCfg s pl = some k →
      ethBad pl .fcs s = some (cntPlane 0x3C 1 pl s) ∧ ethBad pl .macsec s = some (cntPlane 0x30 1 pl s) ∧
      ethBad pl (.good x) s = (if secOk s pl x.pn = false then some (cntPlane 0x30 1 pl s)
        else if x.vlan = k.vlan then none else some (discardDgram pl (notePn pl x.pn s)))) ∧
    (∀ (pl : PlaneId) (f : EthCheck) (a t : Nat) (u : State), (getPlane s pl).state = .up → ethBad pl f s = none → u = notePn pl (ethPn f) s → ownAddr u pl = some t →
      exec (.arpNdRequest pl f a t) s = .next (sendEth pl (.resolveReply a) u)) ∧
    (∀ (pl : PlaneId) (f : EthCheck) (a m : Nat) (u v : State), (getPlane s pl).state = .up → ethBad pl f s = none → u = notePn pl (ethPn f) s → v = updPlane u pl (fun q => { q with
  neigh := q.neigh.map (fun e => if e.addr = a then { e with mac := some m, tries := 0, at_ := dtNow u } else e) }) →
      exec (.arpNdReplyReceive pl f a m) s = .next
        (if (getPlane u pl).neigh.any (fun e => e.addr == a && e.mac.isNone) then eachOf (helloWaits v pl a) sendHello v else v)) ∧
    (∀ (pl : PlaneId) (a : Nat), (getPlane s pl).state = .up → (getPlane s pl).neigh.any (fun e => e.addr == a && decide (dtNow s ≥ e.at_ + 30000000000)) = true →
      exec (.neighbourRefresh pl a) s = .next (sendEth pl (.resolve a) (updPlane s pl (fun q => { q with
        neigh := q.neigh.map (fun e => if e.addr = a then { e with tries := 1, at_ := dtNow s } else e) })))) ∧
    (∀ (pl : PlaneId) (a : Nat) (e : Neigh), (getPlane s pl).state = .up → (getPlane s pl).neigh.find? (fun x => x.addr == a) = some e → (e.tries = 1 ∨ e.tries = 2) → e.at_ + 1000000 ≤ dtNow s →
      exec (.neighbourResolutionRetry pl a) s = .next (sendEth pl (.resolve a) (updPlane s pl (fun q => { q with
        neigh := q.neigh.map (fun e => if e.addr = a then { e with tries := e.tries + 1, at_ := dtNow s } else e) })))) ∧
    (∀ (pl : PlaneId) (f : EthCheck) (a i : Nat) (u : State), (getPlane s pl).state = .up → ethBad pl f s = none → u = notePn pl (ethPn f) s → (recent (dtNow u) 1000000000 (getPlane u pl).echoTimes).length ≤ 100 →
      exec (.icmpEchoRequest pl f a i) s = .next (sendEth pl (.echoReply a i) (updPlane u pl (fun q => { q with
        echoTimes := recent (dtNow u) 1000000000 (getPlane u pl).echoTimes })))) ∧
    (∀ (pl : PlaneId) (f : EthCheck) (a i : Nat) (u : State), (getPlane s pl).state = .up → ethBad pl f s = none → u = notePn pl (ethPn f) s → 100 < (recent (dtNow u) 1000000000 (getPlane u pl).echoTimes).length →
      exec (.icmpEchoRequest pl f a i) s = .next u) ∧
    (∀ (pl : PlaneId), (getPlane s pl).state ≠ .off → exec (.pauseFrameReceive pl) s = .next (discardDgram pl s))

/-- Transport datagrams and contexts: DATA, ACK, HELLO, HELLO_ACK and CLOSE, their timers, and the exhaustion of a
context (spec/14_tether_links_and_transport.md R366, spec/14_tether_links_and_transport.md R368,
spec/14_tether_links_and_transport.md R369, spec/14_tether_links_and_transport.md R370,
spec/14_tether_links_and_transport.md R371, spec/14_tether_links_and_transport.md R372,
spec/14_tether_links_and_transport.md R373, spec/14_tether_links_and_transport.md R382). Rests in part on the
choices of the model in notes/assumptions/9, 10, 23, 28. -/
def Obligations.TetherTransport : Prop :=
  ∀ s : State,
    (∀ (pl : PlaneId) (f : FrameCheck) (g : Bytes) (t : State), (getPlane s pl).state = .up → frameBad pl f g s = some t →
      exec (.tthDataReceive pl f g) s = .next t ∧ exec (.tthAckReceive pl f g) s = .next t ∧
      exec (.tthHelloReceive pl f g) s = .next t ∧ exec (.tthHelloAckReceive pl f g) s = .next t ∧ exec (.closeCtxReceive pl f g) s = .next t) ∧
    (∀ (pl : PlaneId) (g : Bytes), frameBad pl .fcs g s = some (cntPlane 0x3C 1 pl s) ∧ frameBad pl .macsec g s = some (cntPlane 0x30 1 pl s)) ∧
    (∀ (pl : PlaneId) (x : IpHead) (g : Bytes), frameBad pl (.good x) g s = (if secOk s pl x.pn = false then some (cntPlane 0x30 1 pl s)
        else if ipOk s pl x g then none else some (discardDgram pl (notePn pl x.pn s)))) ∧
    (∀ (pl : PlaneId) (n : Nat), (s.cfg.sec.macsec = false → secOk s pl none = true ∧ secOk s pl (some n) = false) ∧
      (s.cfg.sec.macsec = true → secOk s pl none = false ∧ (secOk s pl (some n) = true ↔ n ≠ 0 ∧ (getPlane s pl).rxPn ≤ n + 64))) ∧
    (∀ (pl : PlaneId) (x : IpHead) (g : Bytes) (k : PlaneCfg), planeCfg s pl = some k →
      (ipOk s pl x g = true ↔ (x.vlan = k.vlan ∧ frameLen s x g ≤ 9216 ∧ x.fragment = false ∧ x.options = false ∧
        (x.udpSum = udpChecksum x g ∨ (x.udpSum = 0 ∧ x.ver = 4)) ∧ x.dport = k.udpPort ∧ x.src = planeAddrOf k (beAt g 2 2 % 2 ^ 14)))) ∧
    (∀ (pl : PlaneId) (f : FrameCheck) (g b : Bytes) (h : TthHead) (k : Ctx) (w : State), (getPlane s pl).state = .up → frameBad pl f g s = none → w = notePn pl (framePn f) s → acceptDgram w 1 g = some (h, b) → ctxNamed w pl h = some k → k.state = .open_ →
      exec (.tthDataReceive pl f g) s = .next (takeSegment pl h.ctx (frameEcn f == 3) h b k w)) ∧
    (∀ (pl : PlaneId) (f : FrameCheck) (g b : Bytes) (h : TthHead) (k : Ctx) (w : State), (getPlane s pl).state = .up → frameBad pl f g s = none → w = notePn pl (framePn f) s → acceptDgram w 2 g = some (h, b) → ctxNamed w pl h = some k → k.state = .open_ → b.length = 192 →
      exec (.tthAckReceive pl f g) s = .next (takeAckDgram h.ctx b { k with heard := some h.ts } w)) ∧
    (∀ (pl : PlaneId) (f : FrameCheck) (g b : Bytes) (h : TthHead) (p : PartId) (i : Nat) (w u v : State), (getPlane s pl).state = .up → frameBad pl f g s = none → w = notePn pl (framePn f) s → acceptDgram w 3 g = some (h, b) → h.part = p.val → u = showEpoch h.src h.cfgEpoch (learnStart h.src (beAt b 8 4) w) → findCtx u h.src p pl = none → freeCtx u = (some i, v) →
      exec (.tthHelloReceive pl f g) s = .next (respond i (respondCtx pl p h b (ectSeen f) []) v)) ∧
    (∀ (pl : PlaneId) (f : FrameCheck) (g b : Bytes) (h : TthHead) (p : PartId) (i : Nat) (k : Ctx) (w u : State), (getPlane s pl).state = .up → frameBad pl f g s = none → w = notePn pl (framePn f) s → acceptDgram w 3 g = some (h, b) → h.part = p.val → u = showEpoch h.src h.cfgEpoch (learnStart h.src (beAt b 8 4) w) → findCtx u h.src p pl = some (i, k) → helloAgain k h b = true →
      exec (.tthHelloReceive pl f g) s = .next (sendHelloAck i u)) ∧
    (∀ (pl : PlaneId) (f : FrameCheck) (g b : Bytes) (h : TthHead) (p : PartId) (i : Nat) (k : Ctx) (w u : State), (getPlane s pl).state = .up → frameBad pl f g s = none → w = notePn pl (framePn f) s → acceptDgram w 3 g = some (h, b) → h.part = p.val → u = showEpoch h.src h.cfgEpoch (learnStart h.src (beAt b 8 4) w) → findCtx u h.src p pl = some (i, k) → k.state = .open_ → helloAgain k h b = false →
      exec (.tthHelloReceive pl f g) s = .next (respond i (respondCtx pl p h b (ectSeen f) (ctxPending k)) u)) ∧
    (∀ (pl : PlaneId) (f : FrameCheck) (g b : Bytes) (h : TthHead) (k : Ctx) (w u : State), (getPlane s pl).state = .up → frameBad pl f g s = none → w = notePn pl (framePn f) s → acceptDgram w 4 g = some (h, b) → ctxNamed w pl h = some k → k.state = .opening → u = showEpoch h.src h.cfgEpoch (learnStart h.src (beAt b 8 4) w) → ctxNamed u pl h ≠ none →
      exec (.tthHelloAckReceive pl f g) s = .next (ctxOpened h.ctx
        (updPlane (setCtx h.ctx (some { k with remoteId := beAt b 4 2, jumbo := bitOf (beAt b 0 1) 0, seg := (if bitOf (beAt b 0 1) 0 then 8192 else 1024), ecnOk := bitOf (beAt b 0 1) 1 }) u)
          pl (fun q => { q with failed := q.failed.filter (·.1 ≠ h.src) })))) ∧
    (∀ (pl : PlaneId) (f : FrameCheck) (g b : Bytes) (h : TthHead) (k : Ctx) (w : State), (getPlane s pl).state = .up → frameBad pl f g s = none → w = notePn pl (framePn f) s → acceptDgram w 5 g = some (h, b) → ctxNamed w pl h = some k → k.state = .open_ → ctxPending k = [] →
      exec (.closeCtxReceive pl f g) s = .next (drainOut (setCtx h.ctx none w))) ∧
    (∀ (pl : PlaneId) (f : FrameCheck) (g b : Bytes) (h : TthHead) (k : Ctx) (w : State), (getPlane s pl).state = .up → frameBad pl f g s = none → w = notePn pl (framePn f) s → acceptDgram w 5 g = some (h, b) → ctxNamed w pl h = some k → k.state = .open_ → ctxPending k ≠ [] →
      exec (.closeCtxReceive pl f g) s = .next (reopenCtx h.ctx k w)) ∧
    (∀ (pl : PlaneId) (f : FrameCheck) (g b : Bytes) (h : TthHead) (k : Ctx) (w : State), (getPlane s pl).state = .up → frameBad pl f g s = none → w = notePn pl (framePn f) s → acceptDgram w 5 g = some (h, b) → ctxNamed w pl h = some k → k.state = .opening →
      exec (.closeCtxReceive pl f g) s = .next (discardDgram pl w)) ∧
    (∀ (pl : PlaneId) (f : FrameCheck) (g : Bytes) (w : State), (getPlane s pl).state = .up → frameBad pl f g s = none → w = notePn pl (framePn f) s → 
      (acceptDgram w 1 g = none → exec (.tthDataReceive pl f g) s = .next (discardDgram pl w)) ∧
      (acceptDgram w 2 g = none → exec (.tthAckReceive pl f g) s = .next (discardDgram pl w)) ∧
      (acceptDgram w 3 g = none → exec (.tthHelloReceive pl f g) s = .next (discardDgram pl w)) ∧
      (acceptDgram w 4 g = none → exec (.tthHelloAckReceive pl f g) s = .next (discardDgram pl w)) ∧
      (acceptDgram w 5 g = none → exec (.closeCtxReceive pl f g) s = .next (discardDgram pl w))) ∧
    (∀ (pl : PlaneId) (f : FrameCheck) (g b : Bytes) (h : TthHead) (w : State), (getPlane s pl).state = .up → frameBad pl f g s = none → w = notePn pl (framePn f) s → ctxNamed w pl h = none →
      (acceptDgram w 1 g = some (h, b) → exec (.tthDataReceive pl f g) s = .next (discardDgram pl w)) ∧
      (acceptDgram w 2 g = some (h, b) → exec (.tthAckReceive pl f g) s = .next (discardDgram pl w)) ∧
      (acceptDgram w 4 g = some (h, b) → exec (.tthHelloAckReceive pl f g) s = .next (discardDgram pl w)) ∧
      (acceptDgram w 5 g = some (h, b) → exec (.closeCtxReceive pl f g) s = .next (discardDgram pl w))) ∧
    (∀ (pl : PlaneId) (f : FrameCheck) (g b : Bytes) (h : TthHead) (k : Ctx) (w : State), (getPlane s pl).state = .up → frameBad pl f g s = none → w = notePn pl (framePn f) s → ctxNamed w pl h = some k → k.state = .opening →
      (acceptDgram w 1 g = some (h, b) → exec (.tthDataReceive pl f g) s = .next (discardDgram pl w)) ∧
      (acceptDgram w 2 g = some (h, b) → exec (.tthAckReceive pl f g) s = .next (discardDgram pl w))) ∧
    (∀ (t : Nat) (g b : Bytes) (h : TthHead),
      acceptDgram s t g = some (h, b) ↔ parseTth g = some (h, b) ∧ h.type = t ∧ h.dst = ownId s ∧ knownDev s h.src = true ∧ (t = 3 → h.ctx = 0xFFFF)) ∧
    (∀ (x : Nat) (k : Ctx), getCtx s x = some k → k.state = .opening → k.lastHello + 200000 ≤ dtNow s →
      exec (.helloRetry x) s = .next (sendHello x (setCtx x (some { k with jumbo := !k.jumbo }) s))) ∧
    (∀ (x : Nat) (k : Ctx), getCtx s x = some k → k.state = .open_ → k.ackOwed ≠ 0 → k.ackAt + 10000 ≤ dtNow s →
      exec (.tthAckTimer x) s = .next (sendCtxAck x s)) ∧
    (∀ (x : Nat) (k : Ctx) (st : Fin 4) (g : TxSeg), getCtx s x = some k → oldestSeg k = some (st, g) → g.lastTx + k.rtoNs ≤ dtNow s → k.owed.contains (st, g.ssn) = false →
      (∀ (n : Nat) (b : Bytes), k.pkts[g.pkt - k.pktBase]? = some (n, b) → fencedHold s n b = false) →
      exec (.rtoExpiry x) s = .next (retransmit x st g false (cntPlane 0x24 1 k.plane (setCtx x (some { k with
        rtoRun := k.rtoRun + 1
        rtoNs := min 10000000 (2 * k.rtoNs)
        path := if (k.rtoRun + 1) % 2 = 0 then k.path + 1 else k.path }) s)))) ∧
    (∀ (x : Nat) (k : Ctx), getCtx s x = some k → k.state = .open_ → ctxPending k = [] → k.lastUse + 1000000 ≤ dtNow s →
      exec (.contextIdleClose x) s = .next (drainOut (setCtx x none (sendCloseCtx k s)))) ∧
    (∀ (x t : Nat) (k : Ctx), getCtx s x = some k → retxStart k = some t → t + s.cfg.tmo.tthRetxMs * 1000000 ≤ dtNow s → ctxPending k = [] →
      exec (.tthRetxExhaust x) s = .next (drainOut (endCtx x true
        (record k.part { code := 0x0403, cls := .corrected, source := 9, sub := k.plane.val, tag := 0, detail0 := k.peer } s)))) ∧
    (∀ (x t : Nat) (k : Ctx) (w : Waiting) (l : List Waiting), getCtx s x = some k → retxStart k = some t → t + s.cfg.tmo.tthRetxMs * 1000000 ≤ dtNow s → ctxPending k = w :: l →
      exec (.tthRetxExhaust x) s = .next (drainOut (endCtx x true
        (record k.part { code := 0x0403, cls := .corrected, source := 9, sub := k.plane.val, tag := ownerTag s k.part w.bytes, detail0 := k.peer } s)))) ∧
    (∀ (pl : PlaneId) (d : DevId) (p : PartId) (i : Nat) (u : State), (getPlane s pl).state = .up → probeDue s pl d = true → findCtx s d p pl = none → freeCtx (noteProbe pl d s) = (some i, u) →
      exec (.failedPlaneProbe pl d p) s = .next (sendHello i (setCtx i (some { peer := d, part := p, plane := pl, lastUse := dtNow u }) u))) ∧
    (∀ (pl : PlaneId) (d : DevId) (p : PartId) (i : Nat) (k : Ctx), (getPlane s pl).state = .up → probeDue s pl d = true → findCtx s d p pl = some (i, k) → k.state = .opening →
      exec (.failedPlaneProbe pl d p) s = .next (sendHello i (noteProbe pl d s)))

/-- Dual-Line: HELLO in each DL_STATE, COMPARE and ABANDON of a partition, the timeout, the loss of BL15
(spec/17_determinism_and_dual_line.md R439, spec/17_determinism_and_dual_line.md R440,
spec/17_determinism_and_dual_line.md R443, spec/17_determinism_and_dual_line.md R444). Rests in part on the choices
of the model in notes/assumptions/6. -/
def Obligations.DualLineMessages : Prop :=
  ∀ s : State,
    (∀ (m : Bytes), dualOk m = true → leAt m 0 1 = 3 → s.dual.state = .waiting → bytesAt m 24 32 = settingsBlock s 0 0 → leAt m 17 1 = definedMask s → bitOf (leAt m 16 1) 1 = true → s.boot.aligned = true →
      exec (.dlHelloReceive m) s = .next (setDual .paired (eachOf allParts (fun p s => updPart s p (fun q => { q with dl := { q.dl with seq := 0, rx := [] } })) s))) ∧
    (∀ (m : Bytes) (same : Bool), dualOk m = true → leAt m 0 1 = 3 → s.dual.state = .waiting → (same = decide (bytesAt m 24 32 = settingsBlock s 0 0 ∧ leAt m 17 1 = definedMask s)) → (same = false ∨ bitOf (leAt m 16 1) 1 = false ∨ s.boot.aligned = false) →
      exec (.dlHelloReceive m) s = .next (recordAll { code := 0x0902, cls := .corrected, source := 8, sub := if same then 0 else 2 } (setDual .refused s))) ∧
    (∀ (m : Bytes), dualOk m = true → leAt m 0 1 = 3 → s.dual.state = .paired →
      exec (.dlHelloReceive m) s = .next (dualHello (setDual .waiting (dualLost s)))) ∧
    (∀ (m : Bytes), dualOk m = true → leAt m 0 1 = 3 → s.dual.state = .refused →
      exec (.dlHelloReceive m) s = .next (setDual .waiting s)) ∧
    (∀ (m : Bytes) (p : PartId), dualOk m = true → dualPart m = some p → s.dual.state = .paired → leAt m 0 1 = 1 →
      exec (.dlCompareReceive m) s = .next (dualMessage p { seq := leAt m 4 4, jobId := leAt m 8 2, count := leAt m 10 2, request := leAt m 12 4, check := bytesAt m 24 32, exempt := bitOf (leAt m 16 1) 0 } s)) ∧
    (∀ (m : Bytes) (p : PartId), dualOk m = true → dualPart m = some p → s.dual.state = .paired → leAt m 0 1 = 2 →
      exec (.dlAbandonReceive m) s = .next (dualMessage p { seq := leAt m 4 4, abandon := true } s)) ∧
    (∀ (m : Bytes), (dualOk m = false ∨ s.dual.state ≠ .paired) →
      exec (.dlCompareReceive m) s = .next s ∧ exec (.dlAbandonReceive m) s = .next s) ∧
    (∀ (p : PartId) (r : DlRx), (getPart s p).dl.wait = none →
      dualMessage p r s = updPart s p (fun q => { q with dl := { q.dl with rx := q.dl.rx ++ [r] } })) ∧
    (∀ (p : PartId) (r : DlRx) (w : DlWait), (getPart s p).dl.wait = some w → (r.abandon = false ∨ r.seq = w.seq) →
      dualMessage p r s = dualDecide p w r s) ∧
    (∀ (p : PartId) (w : DlWait) (r : DlRx) (same : Prop), (same = (r.seq = w.seq ∧ r.jobId = w.jobId ∧ r.count = w.count ∧ r.request = w.request)) →
      (r.abandon = true → dualDecide p w r s = dualMismatch p w 4 s) ∧
      (r.abandon = false → ¬ same → dualDecide p w r s = dualMismatch p w 2 s) ∧
      (r.abandon = false → same → (r.exempt || w.exempt) = true → dualDecide p w r s = dualRelease p w (cntPart 0x00090094 1 p s)) ∧
      (r.abandon = false → same → (r.exempt || w.exempt) = false → r.check = w.check → dualDecide p w r s =
        dualRelease p w (updPart s p (fun q => { q with dl := { q.dl with compared := wrapAdd 64 q.dl.compared 1 } }))) ∧
      (r.abandon = false → same → (r.exempt || w.exempt) = false → r.check ≠ w.check → dualDecide p w r s = dualMismatch p w 1 s)) ∧
    (∀ (p : PartId) (w : DlWait), (getPart s p).dl.wait = some w → waitedOut s w.sentDt = true →
      exec (.dlCompareTimeout p) s = .next (dualMismatch p w 5 s)) ∧
    (∀ (p : PartId) (w : DlWait) (r : DlRx), (getPart s p).dl.wait = some w → r.abandon = true → r.seq ≠ w.seq → dualMessage p r s = s) ∧
    (∀ (p : PartId), (∀ w : DlWait, (getPart s p).dl.wait = some w → waitedOut s w.sentDt = false) → exec (.dlCompareTimeout p) s = .next s) ∧
    (s.dual.state = .paired → exec (.dlPairLinkDown) s = .next (setDual .waiting (dualLost s))) ∧
    (s.dual.state ≠ .paired → exec (.dlPairLinkDown) s = .next s)

/-- Pair roles: HELLO by role, silence on either side, DEPOSED, PROBE, WITNESS, and ACTIVATE, DEPOSE, REJOIN
(spec/19_paired_mode_and_failover.md R480, spec/19_paired_mode_and_failover.md R481,
spec/19_paired_mode_and_failover.md R482, spec/19_paired_mode_and_failover.md R483,
spec/19_paired_mode_and_failover.md R494). Rests in part on the choices of the model in notes/assumptions/12, 55,
56, 57. -/
def Obligations.PairRolesAndHello : Prop :=
  ∀ s : State,
    (s.cfg.group.pairMode = 2 → working (getLink s 15) = true → exec (.pairHelloSend) s = .next (pairHello s)) ∧
    (∀ (m b : Bytes) (h : PairHead) (u : State), hearPair m 1 s = some (h, b, u) → s.pair.state = .waiting → h.digest ≠ pairDigest u →
      exec (.pairHelloReceive m) s = .next (recordAll { code := 0x0902, cls := .corrected, source := 0xF, sub := 2 } u)) ∧
    (∀ (m b : Bytes) (h : PairHead) (u : State) (v : State), hearPair m 1 s = some (h, b, u) → s.pair.state = .waiting → h.digest = pairDigest u → v = { u with pair := { u.pair with pairUp := true } } →
      (h.role = 2 → exec (.pairHelloReceive m) s = .next (setSb .standby (clearPair v))) ∧
      (h.role = 1 → ownId v < pairId v → exec (.pairHelloReceive m) s = .next (fullSnapshots (setSb .active (clearPair v)))) ∧
      (h.role = 1 → pairId v ≤ ownId v → exec (.pairHelloReceive m) s = .next (setSb .standby (clearPair v))) ∧
      (h.role ≠ 1 → h.role ≠ 2 → exec (.pairHelloReceive m) s = .next v)) ∧
    (∀ (m b : Bytes) (h : PairHead) (u : State) (v : State), hearPair m 1 s = some (h, b, u) → s.pair.state = .active → v = (if h.digest = pairDigest u then { u with pair := { u.pair with pairUp := true } } else u) →
      (h.role = 2 → exec (.pairHelloReceive m) s = .next (if ownId v > pairId v then depose 6 v else v)) ∧
      (h.role = 1 → h.digest = pairDigest u → exec (.pairHelloReceive m) s = .next (fullSnapshots
        (eachOf allParts (fun p s => updSb p (fun b => { b with snapEpoch := 0, sentCounts := [] }) s) (uncoverAll v)))) ∧
      (h.role ≠ 2 → ¬ (h.role = 1 ∧ h.digest = pairDigest u) → exec (.pairHelloReceive m) s = .next v)) ∧
    (∀ (u : State), s.pair.state = .active → ackSilent s = true → u = { s with free := s.free + 1, pair := { s.pair with pairUp := false } } →
      exec (.ackSilence) s = .next (if s.cfg.group.size ≥ 2 ∧ bondMap u = 0 then depose 4 u else uncoverAll u)) ∧
    (s.pair.state = .active → ackSilent s = false → exec (.ackSilence) s = .next { s with free := s.free + 1 }) ∧
    (∀ (cause : Nat) (u : State), u = sendPair { kind := 5 } [] (eachOf allParts (fun p t => updSb p (fun b => { b with staged := [] }) t)
  (cntDev 0x00010108 1 (setSb .deposed { s with pair := { s.pair with lastCause := cause } }))) →
      depose cause s = eachOf (definedParts u) (fun p t => resetPartition p .partition 0x0B02 t) u) ∧
    (∀ (m b : Bytes) (h : PairHead) (u : State), hearPair m 5 s = some (h, b, u) → mirrors u = true →
      exec (.deposedReceive m) s = .next (failover 2 u)) ∧
    (∀ (u v : State), s.pair.state = .standby → s.pair.lastRx + 3 * s.cfg.tmo.snapshotUs * 1000 ≤ dtNow s → u = setSb .takeover { s with pair := { s.pair with probedDt := dtNow s, probeAck := false, witness := false, noWitness := false, pairUp := false } } → v = eachOf ((commonPlanes u (pairId u)).filter (fun pl => (getPlane u pl).state == .up)) (fun pl t => sendOverTether pl (pairId t) { kind := 6 } t) u →
      exec (.standbySilence) s = .next (eachOf (witnesses v) (fun d t => ((flowPlane t d 0).map (fun pl =>
        sendOverTether pl d { kind := 8, index := pairId t } t)).getD t) v)) ∧
    (∀ (pl : PlaneId) (m : Bytes) (h : PairHead), tetherPair m 6 = some h → s.pair.state ≠ .off →
      exec (.pairProbeReceive pl m) s = .next (sendOverTether pl (pairId s) { kind := 7 } s)) ∧
    (∀ (pl : PlaneId) (m : Bytes) (h : PairHead), tetherPair m 7 = some h → s.pair.state = .takeover →
      exec (.pairProbeAckReceive pl m) s = .next (if h.role = 5 then failover 2 s else if h.role = 2 then standDown s
        else { s with pair := { s.pair with probeAck := true } })) ∧
    (∀ (pl : PlaneId) (m : Bytes) (h : PairHead), tetherPair m 7 = some h → s.pair.state = .standby →
      exec (.pairProbeAckReceive pl m) s = .next (if h.role = 5 then failover 2 s else s)) ∧
    (∀ (pl : PlaneId) (src : DevId) (m : Bytes) (h : PairHead) (up : Bool), tetherPair m 8 = some h → up = (sameGroup s h.index && (bondUp s (h.index % 16) || !(relaySet s (h.index % 16)).isEmpty)) →
      exec (.witnessQReceive pl src m) s = .next (sendOverTether pl src { kind := 9, index := h.index, flags := 8 * b2n up } s)) ∧
    (∀ (pl : PlaneId) (m : Bytes) (h : PairHead), tetherPair m 9 = some h → s.pair.state = .takeover → h.index = pairId s →
      exec (.witnessAReceive pl m) s = .next (if bitOf h.flags 3 = true then standDown s
        else { s with pair := { s.pair with witness := true } })) ∧
    (s.pair.state = .takeover → s.pair.probedDt + 1000000 ≤ dtNow s →
      exec (.takeoverDecision) s = .next (if s.pair.witness = false then setSb .standby { s with pair := { s.pair with noWitness := true } }
        else if s.pair.probeAck = true then s else failover 1 s)) ∧
    (∀ (r : Requester) (v : Nat), sbCommand r v 1 s = true →
      exec (.sbActivate r v) s = .next (if s.pair.state = .waiting then setSb .active { (clearPair s) with pair := { (clearPair s).pair with lastCause := 3 } }
        else if mirrors s = true then failover 3 s else s)) ∧
    (∀ (r : Requester) (v : Nat), sbCommand r v 2 s = true → s.pair.state = .active →
      exec (.sbDepose r v) s = .next (depose 5 s)) ∧
    (∀ (r : Requester) (v : Nat), sbCommand r v 3 s = true → s.pair.state = .deposed →
      exec (.sbRejoin r v) s = .next (eachOf allPorts (fun k s => pump k s) (setSb .waiting s)))

/-- MIRROR and SNAP on the standby, ACK on the active device, the heartbeat snapshot
(spec/19_paired_mode_and_failover.md R485, spec/19_paired_mode_and_failover.md R486,
spec/19_paired_mode_and_failover.md R487, spec/19_paired_mode_and_failover.md R488). Rests in part on the choices of
the model in notes/assumptions/13, 38, 39, 56. -/
def Obligations.MirrorsAndSnapshots : Prop :=
  ∀ s : State,
    (∀ (m b : Bytes) (h : PairHead) (u : State) (p : PartId), hearPair m 2 s = some (h, b, u) → msgPart u h = some p → mirrors u = true → h.index / 2 ^ 29 < 7 → b.length = 64 →
      exec (.mirrorReceive m) s = .next (if ((getPart u p).sb.mirror.filter (fun e => e.1 == h.index / 2 ^ 29)).length ≥ 4096 then updSb p (fun x => { x with covered := false }) u
        else updSb p (fun x => { x with mirror := x.mirror ++ [(h.index / 2 ^ 29, h.index % 2 ^ 29, b)] }) u)) ∧
    (∀ (m b : Bytes) (h : PairHead) (u : State) (p : PartId) (v : State), hearPair m 3 s = some (h, b, u) → msgPart u h = some p → mirrors u = true → h.index = 0 → (v = updSb p (fun x => { x with newBuf := b, newEpoch := h.epoch, newFilling := true })
  (if (getPart u p).sb.newFilling = true ∧ h.epoch ≠ (getPart u p).sb.newEpoch then refuseSnapshot p u else u)) →
      exec (.snapReceive m) s = .next (if bitOf h.flags 0 = true then judgeSnapshot p v else v)) ∧
    (∀ (m b : Bytes) (h : PairHead) (u : State) (p : PartId) (v : State), hearPair m 3 s = some (h, b, u) → msgPart u h = some p → mirrors u = true → 0 < h.index → (getPart u p).sb.newFilling = true → h.epoch = (getPart u p).sb.newEpoch → h.index = (getPart u p).sb.newBuf.length → v = updSb p (fun x => { x with newBuf := x.newBuf ++ b }) u →
      exec (.snapReceive m) s = .next (if bitOf h.flags 0 = true then judgeSnapshot p v else v)) ∧
    (∀ (m b : Bytes) (h : PairHead) (u : State) (p : PartId), hearPair m 3 s = some (h, b, u) → msgPart u h = some p → mirrors u = true → 0 < h.index → (getPart u p).sb.newFilling = true → h.epoch = (getPart u p).sb.newEpoch → h.index ≠ (getPart u p).sb.newBuf.length →
      exec (.snapReceive m) s = .next (refuseSnapshot p u)) ∧
    (∀ (m b : Bytes) (h : PairHead) (u : State) (p : PartId), hearPair m 3 s = some (h, b, u) → msgPart u h = some p → mirrors u = true → 0 < h.index → (getPart u p).sb.newFilling = false →
      exec (.snapReceive m) s = .next (if h.epoch = (getPart u p).sb.newEpoch then u
        else refuseSnapshot p (updSb p (fun x => { x with newEpoch := h.epoch }) u))) ∧
    (∀ (p : PartId), (partCfg s p).defined = true → (getPart s p).sb.snapDt + s.cfg.tmo.snapshotUs * 1000 ≤ dtNow s → exec (.heartbeatSnapshot p) s = .next (sendSnapshot p 1 s)) ∧
    (∀ (m b : Bytes) (h : PairHead) (u w : State) (p : PartId), hearPair m 4 s = some (h, b, u) → w = { u with pair := { u.pair with ackSt := max u.pair.ackSt h.st, ackDt := dtNow u } } → msgPart w h = some p → u.pair.state = .active → bitOf h.flags 1 = true →
      exec (.pairAckReceive m) s = .next (sendSnapshot p 2 w)) ∧
    (∀ (m b : Bytes) (h : PairHead) (u w : State) (p : PartId), hearPair m 4 s = some (h, b, u) → w = { u with pair := { u.pair with ackSt := max u.pair.ackSt h.st, ackDt := dtNow u } } → msgPart w h = some p → u.pair.state = .active → bitOf h.flags 1 = false → bitOf h.flags 2 = true →
      exec (.pairAckReceive m) s = .next (uncover p w)) ∧
    (∀ (m b : Bytes) (h : PairHead) (u w : State) (p : PartId) (upTo : Nat → Bool), hearPair m 4 s = some (h, b, u) → w = { u with pair := { u.pair with ackSt := max u.pair.ackSt h.st, ackDt := dtNow u } } → msgPart w h = some p → u.pair.state = .active → bitOf h.flags 1 = false → bitOf h.flags 2 = false → (upTo = fun e => decide ((2 ^ 32 + h.epoch - e) % 2 ^ 32 < 2 ^ 31)) →
      exec (.pairAckReceive m) s = .next (issueWhile p (fun x => x.epoch != 0 && upTo x.epoch) (updSb p (fun b => { b with
        covered := true
        goodEpoch := h.epoch
        released := (((getPart w p).sb.sentCounts.find? (fun e => e.1 == h.epoch)).map (·.2)).getD b.released
        sentCounts := b.sentCounts.filter (fun e => !upTo e.1) }) w)))

/-- SET_PSTATE and its refusals, the ramp, the rail monitor, sensor rounds, HBM temperatures, power estimates, the
limits (spec/20_power_and_thermal.md R496, spec/20_power_and_thermal.md R497, spec/20_power_and_thermal.md R498,
spec/20_power_and_thermal.md R499, spec/20_power_and_thermal.md R500, spec/20_power_and_thermal.md R501,
spec/20_power_and_thermal.md R502, spec/20_power_and_thermal.md R506, spec/20_power_and_thermal.md R517). Rests in
part on the choices of the model in notes/assumptions/59, 60, 61. -/
def Obligations.PowerStatesRailAndSensors : Prop :=
  ∀ s : State,
    (∀ (r : Requester) (v : Nat) (p : Nat) (pinned : Bool), pwrCtl r v 1 s = some p → pinned = (s.cfg.clock.pinPstate.any (fun x => x != p)) →
      exec (.setPstate r v) s = .next (if bitOf s.cfg.clock.pstateMask p = false ∨ pinned = true then pwrStatus 1 1 s
        else if s.power.railOor = true then pwrStatus 1 5 s
        else pwrStatus 1 0 (requestPstate p s))) ∧
    (∀ (p : Nat),
      (s.boot.pstate < p → requestPstate p s = switchCore p { s with power := { s.power with target := p, changing := true, held := none } }) ∧
      (p < s.boot.pstate → (clamped s = true ∨ s.mgt.fwState = 2) → requestPstate p s = { s with power := { s.power with held := some p } }) ∧
      (p < s.boot.pstate → clamped s = false → s.mgt.fwState ≠ 2 → requestPstate p s = { s with power := { s.power with target := p, changing := true, held := none } })) ∧
    (s.power.changing = true → clocked s = true →
      exec (.pstateRampDone) s = .next (if s.power.target < s.boot.pstate
        then { switchCore s.power.target s with power := { (switchCore s.power.target s).power with changing := false } }
        else { s with power := { s.power with changing := false } })) ∧
    (∀ (mv bad good : Nat) (t : Int), s.boot.coreFabLock = true → clocked s = true → s.power.railOor = false → t = vddTarget s.power.target → (bad = (if s.power.changing = true ∨ ((((mv : Int) - t).natAbs * 100 : Nat) : Int) ≤ 5 * t then 0 else s.power.railBad + 1)) → good = (if ((((mv : Int) - t).natAbs * 100 : Nat) : Int) ≤ 3 * t then s.power.railGood + 1 else 0) →
      (bad < 3 → exec (.railReadbackSample mv) s = .next { s with power := { s.power with railMv := mv, railBad := bad, railGood := good } }) ∧
      (3 ≤ bad → exec (.railReadbackSample mv) s = .next (mgtEvent 0x0005 0xFF mv (switchCore 5
        { s with power := { s.power with railMv := mv, railBad := bad, railGood := good, railOor := true } })))) ∧
    (∀ (mv bad good : Nat) (t : Int), s.boot.coreFabLock = true → clocked s = true → s.power.railOor = true → t = vddTarget s.power.target → (bad = (if s.power.changing = true ∨ ((((mv : Int) - t).natAbs * 100 : Nat) : Int) ≤ 5 * t then 0 else s.power.railBad + 1)) → good = (if ((((mv : Int) - t).natAbs * 100 : Nat) : Int) ≤ 3 * t then s.power.railGood + 1 else 0) →
      exec (.railReadbackSample mv) s = .next { s with power := { s.power with railMv := mv, railBad := bad, railGood := good, railOor := decide (good < 201) } }) ∧
    (∀ (x : List Int) (t : Vector Int 18), clocked s = true → (t = Vector.ofFn (fun i => x.getD i.val s.power.sensors[i])) →
      exec (.sensorSample x) s = .next (thermalStep (alertStep { s with power := { s.power with
        sensors := t
        hottest := hottestOf t
        tj := t.toList.getD (hottestOf t) 0
        thmMax := max s.power.thmMax (t.toList.getD (hottestOf t) 0) } }))) ∧
    ((s.power.clampThermal = false → s.power.tj < 880 → thermalStep s = s) ∧
      (s.power.clampThermal = false → 880 ≤ s.power.tj → thermalStep s = mgtEvent 0x0003 2 14 (cntPower 0x00130010 1
        { s with power := { s.power with clampThermal := true, dutyThermal := 14, coolRun := 0 } })) ∧
      (s.power.clampThermal = true → 856 ≤ s.power.tj → thermalStep s = { s with power := { s.power with dutyThermal := max 4 (s.power.dutyThermal - 2), coolRun := 0 } }) ∧
      (s.power.clampThermal = true → s.power.tj < 856 → s.power.coolRun + 1 < 10 → thermalStep s = { s with power := { s.power with coolRun := s.power.coolRun + 1 } })) ∧
    (∀ (k : Fin 6) (x : Int), clocked s = true →
      exec (.hbmTempReport k x) s = .next { s with power := { s.power with
        hbm := s.power.hbm.set k x
        hbmDouble := s.power.hbmDouble.set k (decide (760 ≤ x))
        hbmHalf := s.power.hbmHalf.set k (decide (840 ≤ x) || (s.power.hbmHalf[k] && decide (800 ≤ x))) } }) ∧
    (∀ (n : Nat) (u : State), clocked s = true → s.power.winIdx = dtNow s / 10000 → u = energyStep n { s with power := { s.power with winSum := s.power.winSum + n, winCount := s.power.winCount + 1 } } →
      exec (.powerEstimate n) s = .next (if u.power.winSum > powerLimit u * u.power.winCount then overLimit (u.power.winSum / u.power.winCount) u else u)) ∧
    (∀ (n : Nat) (t u v : State), clocked s = true → s.power.winIdx ≠ dtNow s / 10000 → t = windowEnd s → v = { t with power := { t.power with winIdx := dtNow s / 10000, winSum := t.power.winSum + n, winCount := t.power.winCount + 1 } } → u = energyStep n v →
      exec (.powerEstimate n) s = .next (if u.power.winSum > powerLimit u * u.power.winCount then overLimit (u.power.winSum / u.power.winCount) u else u)) ∧
    (∀ (x : Nat), (s.power.clampEdp || s.power.clampLimit) = true →
      overLimit x s = { s with power := { s.power with dutyPower := max 4 (s.power.dutyPower - 1) } }) ∧
    (∀ (r : Requester) (v : Nat), mgtOpen r s = true →
      exec (.pwrLimitWWrite r v) s = .next { s with power := { s.power with limitW := min 900 (max 500 (v % 65536)) } } ∧
      exec (.pwrCloseUsWrite r v) s = .next { s with power := { s.power with closeUs := min 1000 (max 10 (v % 65536)) } }) ∧
    (∀ (r : Requester) (v : Nat), mgtOpen r s = false →
      exec (.pwrLimitWWrite r v) s = .next s ∧ exec (.pwrCloseUsWrite r v) s = .next s)

/-- GATE, WAKE and the cluster states between them, notices, the drain cap, QUIET_ENTER and QUIET_EXIT
(spec/20_power_and_thermal.md R508, spec/20_power_and_thermal.md R509, spec/20_power_and_thermal.md R510,
spec/20_power_and_thermal.md R511, spec/20_power_and_thermal.md R512, spec/20_power_and_thermal.md R515,
spec/20_power_and_thermal.md R517). Rests in part on the choices of the model in notes/assumptions/41, 62, 63. -/
def Obligations.ClusterGatingAndQuiet : Prop :=
  ∀ s : State,
    (∀ (r : Requester) (v : Nat) (c : ClusterId), (pwrCtl r v 2 s).bind clusterNo = some c →
      exec (.gate r v) s = .next (pwrStatus 2 (gateReason s c) (if gateReason s c = 0 then gateCluster c s else s))) ∧
    (∀ (c : ClusterId),
      gateReason s c = (if (getCluster s c).state ≠ .on then 5
        else if urgentReserved s c = true ∧ clamped s = false ∧ s.power.alert = false then 3
        else if lastCluster s c = true then 2 else 0)) ∧
    (s.boot.state = .ready → s.power.noticeAt + 10000000 ≤ upNs s →
      exec (.clusterNoticeTimer) s = .next (s.tether.ctxs.foldl (fun u x => noticeCtx x.1 u) { s with power := { s.power with noticeAt := upNs s } })) ∧
    (∀ (n : Bytes) (d seq : Nat) (u v : State), leAt n 28 4 = crc32c (bytesAt n 0 28) → d = leAt n 0 2 % 2 ^ 14 → seq = leAt n 4 4 → (u = eachOf allPlanes (fun pl s => updPlane s pl (fun q => { q with pool := dropFirst (fun x => x.2 == n) q.pool })) s) → v = learnStart d (leAt n 16 4) u →
      ((∀ k, (getPeer v d).noticeSeq = some k → ssnBefore seq k = false) →
        exec (.clusterNoticeReceive n) s = .next (updPeer d (fun q => { q with noticeSeq := some seq, inService := leAt n 2 1 }) v)) ∧
      (∀ o, (getPeer u d).startId = some o → o ≠ leAt n 16 4 →
        exec (.clusterNoticeReceive n) s = .next (updPeer d (fun q => { q with noticeSeq := some seq, inService := leAt n 2 1 }) v)) ∧
      (∀ k, (getPeer v d).noticeSeq = some k → ssnBefore seq k = true → (∀ o, (getPeer u d).startId = some o → o = leAt n 16 4) →
        exec (.clusterNoticeReceive n) s = .next v)) ∧
    (∀ (n : Bytes), leAt n 28 4 ≠ crc32c (bytesAt n 0 28) →
      exec (.clusterNoticeReceive n) s = .next
        (eachOf allPlanes (fun pl s => updPlane s pl (fun q => { q with pool := dropFirst (fun x => x.2 == n) q.pool })) s)) ∧
    (∀ (c : ClusterId), (getCluster s c).state = .closing → (getCluster s c).since + s.power.closeUs * 1000 ≤ upNs s →
      exec (.closeTimeElapsed c) s = .next (updCluster (setCluster c .draining s) c (fun q => { q with leaving := true }))) ∧
    (∀ (c : ClusterId), (getCluster s c).state = .draining → leadsPass s c = false → ((∀ p : PartId, (getPart s p).rows.any (heldAt c) = false)) →
      exec (.drainComplete c) s = .next (setCluster c .isolated s)) ∧
    (∀ (c : ClusterId) (u : State), (getCluster s c).state = .draining → (getCluster s c).since + 500000 ≤ upNs s → u = setCluster c .isolated s →
      exec (.drainCap c) s = .next (eachOf allParts (fun p t => drainPart p
        (eachOf ((getPart t p).rows.filter (heldAt c)) (fun r w => refuseHeld p r w) t)) u)) ∧
    (∀ (p : PartId) (x : RowRec), x.src ≠ ownId s →
      refuseHeld p x s = sendRefuse x.src p 3 (packetOfRow x) (cntPower 0x00130018 1 (dropRow p x.tag s))) ∧
    (∀ (p : PartId) (x : RowRec) (u : State), x.src = ownId s → u = cntPower 0x00130018 1 (dropRow p x.tag s) →
      refuseHeld p x s = (if x.spec = true then refuseSpec p x.tag x.src true u
        else conjSettle p (reissueTag p x.tag x.src (some (rowAdmitted s p x)) (noteBounce p x.tag x.src u)))) ∧
    (∀ (c : ClusterId), (getCluster s c).state = .isolated → (getCluster s c).waking = false → (getCluster s c).since + 20000 ≤ upNs s →
      exec (.isolationTimer c) s = .next (setCluster c .off s)) ∧
    (∀ (r : Requester) (v : Nat) (c : ClusterId), (pwrCtl r v 3 s).bind clusterNo = some c → (getCluster s c).disabled = false → bistKeeps s c = false → s.boot.state ≠ .safe →
      exec (.pwrWake r v) s = .next (if (getCluster s c).state = .on then pwrStatus 3 5 s
        else if (getCluster s c).state = .closing ∨ (getCluster s c).state = .draining then pwrStatus 3 0 (noticeChange (inService s) (setCluster c .on s))
        else pwrStatus 3 0 (updCluster s c (fun q => { q with waking := true })))) ∧
    (∀ (r : Requester) (v : Nat) (c : ClusterId), (pwrCtl r v 3 s).bind clusterNo = some c → (((getCluster s c).disabled || bistKeeps s c) = true ∨ s.boot.state = .safe) →
      exec (.pwrWake r v) s = .next (pwrStatus 3 5 s)) ∧
    (∀ (c : ClusterId), (getCluster s c).waking = true → s.boot.state ≠ .safe →
      exec (.clusterPowerUpDone c) s = .next (noticeChange (inService s) (setCluster c .on
        (updCluster s c (fun q => { q with waking := false, leaving := false, cores := .replicate 8 {} }))))) ∧
    (∀ (r : Requester) (v : Nat) (a : Nat), pwrCtl r v 4 s = some a → quietOk s = false →
      exec (.quietEnter r v) s = .next (pwrStatus 4 4 s)) ∧
    (∀ (r : Requester) (v : Nat) (a : Nat) (u : State), pwrCtl r v 4 s = some a → quietOk s = true → s.power.quiet = false → u = { s with power := { s.power with quiet := true, saved := s.boot.pstate, rowDts := [] } } →
      exec (.quietEnter r v) s = .next (pwrStatus 4 0 (gateUnnamed
        (if s.cfg.clock.pinPstate.isSome = true then u else requestPstate (lowestPstate u) u)))) ∧
    (∀ (r : Requester) (v : Nat) (a : Nat), pwrCtl r v 4 s = some a → quietOk s = true → s.power.quiet = true →
      exec (.quietEnter r v) s = .next (pwrStatus 4 0 s)) ∧
    (∀ (r : Requester) (v : Nat) (a : Nat), pwrCtl r v 5 s = some a →
      exec (.quietExit r v) s = .next (pwrStatus 5 0 (quietExit 5 s)))

/-- The nine commands of the SEC mailbox: the action and reset of one that passes its checks, the status of one that
fails (spec/21_security_and_life_cycle.md R521, spec/21_security_and_life_cycle.md R522,
spec/21_security_and_life_cycle.md R523, spec/21_security_and_life_cycle.md R525, spec/21_security_and_life_cycle.md
R526, spec/21_security_and_life_cycle.md R528, spec/21_security_and_life_cycle.md R531,
spec/21_security_and_life_cycle.md R532, spec/21_security_and_life_cycle.md R550, spec/21_security_and_life_cycle.md
R553). Rests in part on the choices of the model in notes/assumptions/64, 65. -/
def Obligations.SignedCommandsOfTheMailbox : Prop :=
  ∀ s : State,
    (∀ (b : Bytes) (n : Nat) (u : Nat × State) (w : State), clocked s = true → secServed s = true → s.sec.cmdBusy = false → b = secBuf s → n = secOp b → argRefused s b = false → secCheck s b 0 = 0 → u = secAct n b { s with sec := { s.sec with failRun := 0 } } → w = (if u.1 = 0 then secEnd n 0 u.2 else secEnd n u.1 (secLog 0x0031 1 u.1 (toLe 2 n) u.2)) →
      (n = 1 → exec (.provision .mgt 0x5EC00001) s = .next (if u.1 = 0 ∧ n ≤ 6 then warmPlain w else w)) ∧
      (n = 2 → exec (.deploy .mgt 0x5EC00001) s = .next (if u.1 = 0 ∧ n ≤ 6 then warmPlain w else w)) ∧
      (n = 3 → exec (.unlockDebug .mgt 0x5EC00001) s = .next (if u.1 = 0 ∧ n ≤ 6 then warmPlain w else w)) ∧
      (n = 4 → exec (.relock .mgt 0x5EC00001) s = .next (if u.1 = 0 ∧ n ≤ 6 then warmPlain w else w)) ∧
      (n = 5 → exec (.decommission .mgt 0x5EC00001) s = .next (if u.1 = 0 ∧ n ≤ 6 then warmPlain w else w)) ∧
      (n = 6 → exec (.zeroize .mgt 0x5EC00001) s = .next (if u.1 = 0 ∧ n ≤ 6 then warmPlain w else w)) ∧
      (n = 7 → exec (.setVault .mgt 0x5EC00001) s = .next (if u.1 = 0 ∧ n ≤ 6 then warmPlain w else w)) ∧
      (n = 8 → exec (.advanceFloor .mgt 0x5EC00001) s = .next (if u.1 = 0 ∧ n ≤ 6 then warmPlain w else w)) ∧
      (n = 9 → exec (.logClear .mgt 0x5EC00001) s = .next (if u.1 = 0 ∧ n ≤ 6 then warmPlain w else w))) ∧
    (∀ (b : Bytes) (n k : Nat), clocked s = true → secServed s = true → s.sec.cmdBusy = false → b = secBuf s → n = secOp b → argRefused s b = false → k = secCheck s b 0 → k ≠ 0 → k ≠ 2 →
      (n = 1 → exec (.provision .mgt 0x5EC00001) s = .next (secEnd n k (secLog 0x0031 1 k (toLe 2 n) s))) ∧
      (n = 2 → exec (.deploy .mgt 0x5EC00001) s = .next (secEnd n k (secLog 0x0031 1 k (toLe 2 n) s))) ∧
      (n = 3 → exec (.unlockDebug .mgt 0x5EC00001) s = .next (secEnd n k (secLog 0x0031 1 k (toLe 2 n) s))) ∧
      (n = 4 → exec (.relock .mgt 0x5EC00001) s = .next (secEnd n k (secLog 0x0031 1 k (toLe 2 n) s))) ∧
      (n = 5 → exec (.decommission .mgt 0x5EC00001) s = .next (secEnd n k (secLog 0x0031 1 k (toLe 2 n) s))) ∧
      (n = 6 → exec (.zeroize .mgt 0x5EC00001) s = .next (secEnd n k (secLog 0x0031 1 k (toLe 2 n) s))) ∧
      (n = 7 → exec (.setVault .mgt 0x5EC00001) s = .next (secEnd n k (secLog 0x0031 1 k (toLe 2 n) s))) ∧
      (n = 8 → exec (.advanceFloor .mgt 0x5EC00001) s = .next (secEnd n k (secLog 0x0031 1 k (toLe 2 n) s))) ∧
      (n = 9 → exec (.logClear .mgt 0x5EC00001) s = .next (secEnd n k (secLog 0x0031 1 k (toLe 2 n) s)))) ∧
    (∀ (b : Bytes) (n : Nat), clocked s = true → secServed s = true → s.sec.cmdBusy = false → b = secBuf s → n = secOp b → argRefused s b = false → secCheck s b 0 = 2 →
      (n = 1 → exec (.provision .mgt 0x5EC00001) s = .next (secEnd n 2 (sigFailed n s))) ∧
      (n = 2 → exec (.deploy .mgt 0x5EC00001) s = .next (secEnd n 2 (sigFailed n s))) ∧
      (n = 3 → exec (.unlockDebug .mgt 0x5EC00001) s = .next (secEnd n 2 (sigFailed n s))) ∧
      (n = 4 → exec (.relock .mgt 0x5EC00001) s = .next (secEnd n 2 (sigFailed n s))) ∧
      (n = 5 → exec (.decommission .mgt 0x5EC00001) s = .next (secEnd n 2 (sigFailed n s))) ∧
      (n = 6 → exec (.zeroize .mgt 0x5EC00001) s = .next (secEnd n 2 (sigFailed n s))) ∧
      (n = 7 → exec (.setVault .mgt 0x5EC00001) s = .next (secEnd n 2 (sigFailed n s))) ∧
      (n = 8 → exec (.advanceFloor .mgt 0x5EC00001) s = .next (secEnd n 2 (sigFailed n s))) ∧
      (n = 9 → exec (.logClear .mgt 0x5EC00001) s = .next (secEnd n 2 (sigFailed n s)))) ∧
    (∀ (b : Bytes),
      (secAct 1 b s).2.fuses = { s.fuses with ownerHash := bytesAt (secArgs b) 0 48, floor := max s.fuses.floor (leAt (secArgs b) 48 2), prov := burned } ∧
      (secAct 2 b s).2.fuses = { s.fuses with deploy := burned } ∧ (secAct 3 b s).2.fuses = { s.fuses with unlock := burnNext s.fuses.unlock } ∧
      (secAct 4 b s).2.fuses = { s.fuses with relock := burnNext s.fuses.relock } ∧ (secAct 5 b s).2.fuses = { s.fuses with decom := burned, hukBlock := burned } ∧
      (secAct 6 b s).2.fuses = s.fuses ∧ (secAct 7 b s).2.fuses = s.fuses ∧
      (secAct 8 b s).2.fuses = { s.fuses with floor := max s.fuses.floor (leAt (secArgs b) 0 2) } ∧ (secAct 9 b s).2.fuses = s.fuses) ∧
    (∀ (b : Bytes),
      (secAct 3 b s).2.hbm = [] ∧ (secAct 5 b s).2.hbm = [] ∧ (secAct 6 b s).2.hbm = [] ∧
      (secAct 6 b s).2.sec.vault = []) ∧
    (∀ (n : Nat),
      (sigFailed n s).sec.failRun = s.sec.failRun + 1 ∧ (sigFailed n s).sec.locked = (s.sec.locked || decide (s.sec.failRun + 1 ≥ 3)) ∧
      (sigFailed n s).sec.lockedAt = upNs s ∧ (sigFailed n s).fuses = s.fuses ∧ (secEnd n 2 s).sec.cmdStatus = 2 ∧ (secEnd n 2 s).sec.cmdBuf = []) ∧
    (s.sec.lockedAt + 10000000000 ≤ upNs s →
      exec (.authLockoutEnd) s = .next { s with sec := { s.sec with locked := false } })

/-- SPDM requests, sessions and their limit, IDE key sets and Secure streams, JTAG instructions, entropy failures, ERROR
(spec/21_security_and_life_cycle.md R524, spec/21_security_and_life_cycle.md R533,
spec/21_security_and_life_cycle.md R534, spec/21_security_and_life_cycle.md R535, spec/21_security_and_life_cycle.md
R541, spec/21_security_and_life_cycle.md R543, spec/21_security_and_life_cycle.md R544). Rests in part on the
choices of the model in notes/assumptions/67, 68, 69. -/
def Obligations.AttestationIdeAndJtag : Prop :=
  ∀ s : State,
    (∀ (d : SpdmBinding) (off len : Nat), spdmGate d s = some true →
      exec (.spdmGetCertificate d 0 off len) s = .next (emit (.spdm d 0x02 (((slotChain s).drop off).take len)) s)) ∧
    (∀ (d : SpdmBinding) (slot off len : Nat) (nn : Bytes), spdmGate d s = some true → slot ≠ 0 →
      exec (.spdmGetCertificate d slot off len) s = .next (spdmError d 1 s) ∧ exec (.spdmChallenge d slot nn) s = .next (spdmError d 1 s)) ∧
    (∀ (d : SpdmBinding) (nn own : Bytes) (u : State), spdmGate d s = some true → drbgBytes 32 s = (own, u) →
      exec (.spdmChallenge d 0 nn) s = .next (emit (.spdm d 0x03 ((sha384 (slotChain u) ++ own) ++
        bytesAt (Config.sign u.sec.keys.alias_ (nn ++ (sha384 (slotChain u) ++ own))) 0 96)) u)) ∧
    (∀ (d : SpdmBinding) (op : Nat) (nn own : Bytes) (u : State) (l : List (Nat × Bytes)) (body : Bytes), spdmGate d s = some true → (if op = 0 then some [] else if op = 0xFF then some (measuredAll d s) else (measured d s op).map (fun b => [(op, b)])) = some l → drbgBytes 32 s = (own, u) → body = toLe 1 (if op = 0 then (measuredAll d s).length else l.length) ++ blockBytes l ++ own →
      exec (.spdmGetMeasurements d op nn) s = .next (emit (.spdm d 0x60 (body ++
        bytesAt (Config.sign u.sec.keys.alias_ (nn ++ body)) 0 96)) u)) ∧
    (∀ (d : SpdmBinding) (op : Nat) (nn : Bytes), spdmGate d s = some true → op ≠ 0 → op ≠ 0xFF → measured d s op = none →
      exec (.spdmGetMeasurements d op nn) s = .next (spdmError d 1 s)) ∧
    (∀ (k : PortId) (p : PartId), partOf s k ≠ some p → measured (.doe k) s (0x10 + p.val) = none) ∧
    (∀ (d : SpdmBinding) (share own : Bytes) (u : State), spdmGate d s = some true → s.sec.sessions.length < 8 → drbgBytes 96 s = (own, u) →
      exec (.spdmKeyExchange d share) s = .next (emit (.spdm d 0x64 ((toLe 2 u.sec.nextSession ++ own) ++
        bytesAt (Config.sign u.sec.keys.alias_ (share ++ (toLe 2 u.sec.nextSession ++ own))) 0 96)) { u with sec := { u.sec with
          sessions := u.sec.sessions ++ [{ id := u.sec.nextSession, binding := d, key := Config.kdf (leNat own + 1) share }]
          nextSession := u.sec.nextSession + 1 } })) ∧
    (∀ (d : SpdmBinding) (share : Bytes), spdmGate d s = some true → 8 ≤ s.sec.sessions.length →
      exec (.spdmKeyExchange d share) s = .next (spdmError d 3 s)) ∧
    (∀ (d : SpdmBinding) (n : Nat) (x : SpdmSession), spdmGate d s = some true → findSession s d n = some x →
      exec (.spdmKeyUpdate d n) s = .next (emit (.spdm d 0x69 (toLe 2 n))
        (updSession x.id (fun x => { x with key := Config.kdf x.key [0], updates := x.updates + 1 }) s)) ∧
      exec (.spdmHeartbeat d n) s = .next (emit (.spdm d 0x68 (toLe 2 n)) (updSession x.id (fun x => { x with alive := true }) s)) ∧
      exec (.spdmEndSession d n) s = .next (emit (.spdm d 0x6C (toLe 2 n)) { s with sec := { s.sec with sessions := s.sec.sessions.filter (fun y => y.id != x.id) } })) ∧
    (∀ (d : SpdmBinding) (n : Nat), spdmGate d s = some true → findSession s d n = none →
      exec (.spdmKeyUpdate d n) s = .next (spdmError d 2 s) ∧ exec (.spdmHeartbeat d n) s = .next (spdmError d 2 s) ∧ exec (.spdmEndSession d n) s = .next (spdmError d 2 s)) ∧
    (∀ (k : PortId) (n : Nat) (x : SpdmSession) (i : Fin 5), spdmGate (.doe k) s = some true → findSession s (.doe k) n = some x →
      exec (.ideKmQuery (.doe k) n k) s = .next (ideAnswer (.doe k) 1 (toLe 1 k.val ++ (List.finRange 5).map (fun j => BitVec.ofNat 8 (b2n (getPort s k).ide[j].secure))) s)) ∧
    (∀ (k : PortId) (n : Nat) (x : SpdmSession) (i : Fin 5) (set : Fin 12) (key : Nat), spdmGate (.doe k) s = some true → findSession s (.doe k) n = some x →
      exec (.ideKmKeyProg (.doe k) n k i set key) s = .next (ideAnswer (.doe k) 3 [] (updPort s k (fun q => { q with
        ide := q.ide.set i { q.ide[i] with keys := q.ide[i].keys.set set.val (key + 1) } })))) ∧
    (∀ (k : PortId) (n : Nat) (x : SpdmSession) (i : Fin 5) (set : Fin 12) (y : IdeStream) (act : List Nat) (u : State), spdmGate (.doe k) s = some true → findSession s (.doe k) n = some x → y = (getPort s k).ide[i] → y.keys.getD set.val 0 ≠ 0 → act = y.active.set (set.val / 2) (set.val % 2) → u = updPort s k (fun q => { q with dmaStopped := q.dmaStopped && !act.all (fun a => decide (a < 2)), ide := q.ide.set i { y with active := act, secure := act.all (fun a => decide (a < 2)) } }) →
      exec (.ideKmKSetGo (.doe k) n k i set) s = .next (ideAnswer (.doe k) 6 []
        (if act.all (fun a => decide (a < 2)) = true ∧ y.secure = false then release k (secLog 0x0050 2 0 [BitVec.ofNat 8 k.val, BitVec.ofNat 8 i.val, 1] u) else u))) ∧
    (∀ (k : PortId) (n : Nat) (x : SpdmSession) (i : Fin 5) (set : Fin 12) (u : State), spdmGate (.doe k) s = some true → findSession s (.doe k) n = some x → (getPort s k).ide[i].active.getD (set.val / 2) 2 = set.val % 2 → u = ideInsecure k i s →
      exec (.ideKmKSetStop (.doe k) n k i set) s = .next (ideAnswer (.doe k) 6 []
        (updPort u k (fun q => { q with ide := q.ide.set i { q.ide[i] with active := (getPort s k).ide[i].active.set (set.val / 2) 2 } })))) ∧
    (∀ (ir : Nat), clocked s = true → jtagActs s ir = false →
      exec (.jtagInstruction ir) s = .next { s with sec := { s.sec with jtagIr := 0xFF } }) ∧
    (∀ (ir : Nat), clocked s = true → jtagActs s ir = true → ir ≠ 0x20 → ir ≠ 0x01 →
      exec (.jtagInstruction ir) s = .next { s with sec := { s.sec with jtagIr := ir } }) ∧
    (clocked s = true →
      exec (.jtagInstruction 0x01) s = .next (emit (.jtagId 0x17016A3B) { s with sec := { s.sec with jtagIr := 0x01 } })) ∧
    (∀ (u : State), clocked s = true → lifeCycle s = .debugUnlocked → u = (if s.sec.jtagOpen = true then s else secLog 0x0070 3 0 [] { s with sec := { s.sec with jtagOpen := true } }) →
      exec (.jtagInstruction 0x20) s = .next { u with sec := { u.sec with jtagIr := 0x20 } }) ∧
    (∀ (n : Nat), clocked s = true → s.boot.state ≠ .error → s.boot.state ≠ .warmReset → (n = 11 ∨ n = 12) →
      exec (.entropyTestFail n) s = .next (enterError n s)) ∧
    (s.boot.state = .error → s.boot.retry < 3 → s.boot.stageNs + 10000000 ≤ upNs s → exec (.errorWarmReset) s = .next (warmReset 5 s)) ∧
    (s.boot.state = .error → 3 ≤ s.boot.retry → exec (.errorWarmReset) s = .next s)

/-- BIST: the three triggers and their refusals, the batches, the verdict of a unit, a window violation
(spec/22_built_in_self_test.md R556, spec/22_built_in_self_test.md R557, spec/22_built_in_self_test.md R558,
spec/22_built_in_self_test.md R559, spec/22_built_in_self_test.md R560, spec/22_built_in_self_test.md R561,
spec/22_built_in_self_test.md R563). Rests in part on the choices of the model in notes/assumptions/70. -/
def Obligations.BuiltInSelfTestRuns : Prop :=
  ∀ s : State,
    (∀ (r : Requester) (v : Nat) (u : Nat), bstCtl r v 1 s = true → u = s.bist.units → s.boot.state = .ready → lifeCycle s = .provisioned → s.bist.parked = false → s.bist.run = none → ((∀ k : ClusterId, bitOf u k.val = true → gated s k = true)) → (bitsOf u 11 8 = 0 ∨ (anyJob s = false ∧ deviceModels s = 0)) →
      exec (.bistRun r v) s = .next (startRun { trigger := 2, todo := unitsOf u, maxClusters := s.cfg.bist.maxClusters, powerW := s.cfg.bist.powerW } s)) ∧
    (∀ (r : Requester) (v : Nat), bstCtl r v 1 s = true → (s.boot.state ≠ .ready ∨ lifeCycle s ≠ .provisioned ∨ s.bist.parked = true) →
      exec (.bistRun r v) s = .next (refuseBist 1 s)) ∧
    (∀ (r : Requester) (v : Nat), bstCtl r v 1 s = true → s.boot.state = .ready → lifeCycle s = .provisioned → s.bist.parked = false → s.bist.run ≠ none →
      exec (.bistRun r v) s = .next (refuseBist 4 s)) ∧
    (∀ (r : Requester) (v : Nat) (k : ClusterId), bstCtl r v 1 s = true → s.boot.state = .ready → lifeCycle s = .provisioned → s.bist.parked = false → s.bist.run = none → bitOf s.bist.units k.val = true → gated s k = false →
      exec (.bistRun r v) s = .next (refuseBist 2 s)) ∧
    (∀ (r : Requester) (v : Nat), bstCtl r v 1 s = true → s.boot.state = .ready → lifeCycle s = .provisioned → s.bist.parked = false → s.bist.run = none → (∀ k : ClusterId, bitOf s.bist.units k.val = true → gated s k = true) → bitsOf s.bist.units 11 8 ≠ 0 → (anyJob s = true ∨ deviceModels s ≠ 0) →
      exec (.bistRun r v) s = .next (refuseBist 3 s)) ∧
    (∀ (r : Requester) (v : Nat), bstCtl r v 2 s = true → (s.boot.state ≠ .ready ∨ s.bist.parked = true) →
      exec (.bistShutdown r v) s = .next (refuseBist 1 s)) ∧
    (∀ (r : Requester) (v : Nat), bstCtl r v 2 s = true → s.boot.state = .ready → s.bist.parked = false → s.bist.run ≠ none →
      exec (.bistShutdown r v) s = .next (refuseBist 4 s)) ∧
    (∀ (r : Requester) (v : Nat) (n : Nat) (u w : State), bstCtl r v 2 s = true → s.boot.state = .ready → s.bist.parked = false → s.bist.run = none → anyJob s = false → n = s.bist.shutdownSeq + 1 → (u = eachOf allClusters (fun k t => setCluster k .isolated (updCluster t k (fun q => { q with waking := false }))) { s with bist := { s.bist with shutdownSeq := n } }) → w = setP2 (linksOff (noticeChange (inService s) u)) →
      exec (.bistShutdown r v) s = .next (startRun { trigger := 3, todo := (if w.cfg.bist.shutdownEn = true ∧ n % max 1 w.cfg.bist.everyN = 0
        then unitsOf (maskOfTests w.cfg.bist.testMask) else []), maxClusters := w.cfg.bist.maxClusters, powerW := w.cfg.bist.powerW } w)) ∧
    (∀ (r : Requester) (v : Nat), bstCtl r v 2 s = true → s.boot.state = .ready → s.bist.parked = false → s.bist.run = none → anyJob s = true →
      exec (.bistShutdown r v) s = .next (refuseBist 3 s)) ∧
    (∀ (n : Nat), s.sec.jtagIr = 0x30 → lifeCycle s = .blank → s.bist.run = none → clocked s = true →
      exec (.mfgTestRun n) s = .next (startRun { trigger := 1, todo := unitsOf n } (setP2 s))) ∧
    (∀ (x : BistRun),
      startRun x s = startBatches (x.todo.length + 1) x (bistAppend (bistRecord { s with bist := { s.bist with runSeq := s.bist.runSeq + 1, run := some x, refused := false, reason := 0 } } 1 0 0 x.trigger 0 0 0 0 0 s.bist.shutdownSeq)
        { s with bist := { s.bist with runSeq := s.bist.runSeq + 1, run := some x, refused := false, reason := 0 } })) ∧
    (∀ (x : BistRun) (k : Nat) (l : List Nat), x.todo = k :: l →
      nextBatch x = (if k < 8 then (x.todo.takeWhile (· < 8)).take (max 1 (min x.maxClusters (x.powerW / 96))) else [k])) ∧
    (∀ (x : BistRun) (k res det m : Nat) (u w : State) (left : BistRun), s.bist.run = some x → x.batch.contains k = true → res ≤ 1 → m = (if res = 1 then det % 2 ^ 32 else 0) → u = unitRecord x.trigger k res 0 m ((s.boot.sinceNs - x.startNs) / 1000) (reinitUnit k s) → left = { x with batch := x.batch.filter (· ≠ k) } → w = { u with bist := { standAfter k (res == 0) m u.bist with run := some left } } →
      exec (.bistUnitDone k res det) s = .next (if left.batch.isEmpty = true then startBatches (left.todo.length + 1) left w else w)) ∧
    (∀ (x : BistRun) (cause : Nat) (y : BistRun) (u w : State), s.bist.run = some x → x.batch ≠ [] → (1 ≤ cause ∧ cause ≤ 3) → y = { x with batch := [] } → (u = x.batch.foldl (fun t k => unitRecord x.trigger k 2 cause 0 ((s.boot.sinceNs - x.startNs) / 1000) (reinitUnit k t)) s) → w = { u with bist := { u.bist with run := some y } } →
      exec (.bistWindowSample cause) s = .next (if cause = 1 then startBatches (y.todo.length + 1) y w else endRun y (notRun y y.todo cause w))) ∧
    ((duty s < 16 ∨ clamped s = true → s.boot.pstate = 2 → railOff s = false → windowCause s = 3) ∧ (s.boot.pstate = 2 → railOff s = true → windowCause s = 2) ∧
      (s.boot.pstate ≠ 2 → windowCause s = 1))

/-- The event queue head, endpoint IDs, SMBus time-outs and retries, the trip latch, READ32, SEC_RELAY, LOG_READ, policy
messages (spec/21_security_and_life_cycle.md R550, spec/23_policy_firmware_and_management.md R572,
spec/23_policy_firmware_and_management.md R575, spec/23_policy_firmware_and_management.md R576,
spec/23_policy_firmware_and_management.md R577, spec/23_policy_firmware_and_management.md R578,
spec/23_policy_firmware_and_management.md R579, spec/23_policy_firmware_and_management.md R587). Rests in part on
the choices of the model in notes/assumptions/74, 75, 78, 83. -/
def Obligations.ManagementMessages : Prop :=
  ∀ s : State,
    (∀ (r : Requester) (v n : Nat), mgtOpen r s = true → n = (2 ^ 32 + v % 2 ^ 32 - s.mgt.head % 2 ^ 32) % 2 ^ 32 → s.mgt.head + n ≤ s.mgt.tail →
      exec (.mgtEventHeadWrite r v) s = .next { s with mgt := { s.mgt with
        head := s.mgt.head + n
        mp0Irq := s.mgt.mp0Irq && decide (s.mgt.head + n < s.mgt.tail) } }) ∧
    (∀ (r : Requester) (v n : Nat), n = (2 ^ 32 + v % 2 ^ 32 - s.mgt.head % 2 ^ 32) % 2 ^ 32 → s.mgt.tail < s.mgt.head + n →
      exec (.mgtEventHeadWrite r v) s = .next s) ∧
    (∀ (d : MctpBinding) (op e : Nat), mctpOpen d s = true → op ≤ 1 → 1 ≤ e → e < 0xFF →
      exec (.setEndpointId d op e) s = .next (sendMctp d 0 ([1, 0, 0] ++ toLe 1 e) { s with mgt := { s.mgt with eid := e } })) ∧
    (∀ (d : MctpBinding) (op e : Nat), mctpOpen d s = true → 1 < op →
      exec (.setEndpointId d op e) s = .next (sendMctp d 0 ([1, 0, 0] ++ toLe 1 s.mgt.eid) s)) ∧
    (clocked s = true → exec (.smbusTimeout) s = .next (emit .smbusRelease (cntDev 0x01050028 1 s))) ∧
    (∀ (x : Nat) (b : Bytes), s.mgt.smbLast = some (x, b) → s.mgt.smbAt + 1000000 ≤ upNs s →
      exec (.smbusArbitrationRetry) s = .next (if s.mgt.smbTries < 5 then emit (.mctp .smbus x b) { s with mgt := { s.mgt with smbTries := s.mgt.smbTries + 1, smbAt := upNs s } }
        else { s with mgt := { s.mgt with smbLast := none, smbTries := 0 } })) ∧
    (s.boot.state = .tripped →
      exec (.tripLatchRead) s = .next (emit (.smbus ([0x0D] ++ toLe 1 s.boot.trip.sensor ++ toLe 2 s.boot.trip.value.toNat ++ toLe 4 (s.boot.trip.nsSince / 1000000))) s)) ∧
    (∀ (d : MctpBinding) (a n : Nat) (l : List Nat) (u : State), mctpOpen d s = true → 1 ≤ n → n ≤ 16 → (l = (List.range n).map (fun i => a + 4 * i)) → u = { s with errSelect := 4 } →
      exec (.read32 d a n) s = .next (if l.all read32Ok = true
        then vendorReply d 1 0 ((l.map (fun x => toLe 4 (liveWord u (viewOf u .mgt) {} x))).flatten) s else vendorReply d 1 2 [] s)) ∧
    (∀ (d : MctpBinding) (a n : Nat), mctpOpen d s = true → (n = 0 ∨ 16 < n) →
      exec (.read32 d a n) s = .next (vendorReply d 1 4 [] s)) ∧
    (∀ (d : MctpBinding) (k off n : Nat), mctpOpen d s = true → (1024 < n ∨ 4096 < off + n) →
      exec (.logRead d k off n) s = .next (vendorReply d 3 4 [] s)) ∧
    (∀ (d : MctpBinding) (m : Nat) (b : Bytes), mctpOpen d s = true → (m < 0x10 ∨ 0x1F < m) →
      exec (.policyMessage d m b) s = .next (vendorReply d m 1 [] s)) ∧
    (∀ (d : MctpBinding) (m : Nat) (b : Bytes), mctpOpen d s = true → 0x10 ≤ m → m ≤ 0x1F → s.boot.state = .ready → s.mgt.fwState = 1 → 1024 < b.length →
      exec (.policyMessage d m b) s = .next (vendorReply d m 4 [] s)) ∧
    (∀ (d : MctpBinding) (b : Bytes) (u : State) (x : State × Bool), mctpOpen d s = true → (s.boot.state = .ready ∨ s.boot.state = .safe) → b.length ≤ 1024 → u = { s with sec := { s.sec with cmdBuf := memWriteN s.sec.cmdBuf 0 b } } → x = (if secServed u = true then secTry u else (u, false)) →
      exec (.secRelay d b) s = .next (if x.2 = true then warmPlain (vendorReply d 2 0 (toLe 4 (secCmdStatus x.1)) x.1) else vendorReply d 2 0 (toLe 4 (secCmdStatus x.1)) x.1)) ∧
    (∀ (d : MctpBinding) (b : Bytes), mctpOpen d s = true → s.boot.state ≠ .ready → s.boot.state ≠ .safe →
      exec (.secRelay d b) s = .next (vendorReply d 2 5 [] s)) ∧
    (∀ (d : MctpBinding) (k off n : Nat), mctpOpen d s = true → n ≤ 1024 → off + n ≤ 4096 →
      exec (.logRead d k off n) s = .next (if k ≤ 1023 then vendorReply d 3 0 (logWindow s k off n) s else vendorReply d 3 2 [] s)) ∧
    (∀ (d : MctpBinding) (m : Nat) (b : Bytes), mctpOpen d s = true → 0x10 ≤ m → m ≤ 0x1F → s.boot.state = .ready → s.mgt.fwState = 1 → b.length ≤ 1024 →
      exec (.policyMessage d m b) s = .next (if s.mgt.msgPending.isSome = true then vendorReply d m 3 [] s
        else mgtEvent 0x0011 0xFF b.length { s with mgt := { s.mgt with msgIn := memWriteN s.mgt.msgIn 0 b, msgPending := some (m, d), msgAt := upNs s } })) ∧
    (∀ (d : MctpBinding) (m : Nat) (b : Bytes), mctpOpen d s = true → 0x10 ≤ m → m ≤ 0x1F → (s.boot.state ≠ .ready ∨ s.mgt.fwState ≠ 1) →
      exec (.policyMessage d m b) s = .next (vendorReply d m 5 [] s)) ∧
    (∀ (d : MctpBinding) (m : Nat), s.mgt.msgPending = some (m, d) → s.mgt.msgAt + 100000000 ≤ upNs s →
      exec (.policyMessageTimeout) s = .next (vendorReply d m 5 [] { s with mgt := { s.mgt with msgPending := none } })) ∧
    (∀ (d : MctpBinding) (m : Nat) (r : Requester) (v : Nat), s.mgt.msgPending = some (m, d) → mgtOpen r s = true → bitOf v 31 = true → bitsOf v 10 0 ≤ 1024 →
      exec (.mgtMsgCtlSend r v) s = .next (vendorReply d m 0 (memReadN s.mgt.msgOut 0 (bitsOf v 10 0)) { s with mgt := { s.mgt with msgPending := none } })) ∧
    (∀ (r : Requester) (v : Nat), s.mgt.msgPending = none →
      exec (.mgtMsgCtlSend r v) s = .next s ∧ exec (.policyMessageTimeout) s = .next s)

/-- PLDM sensor readings and events, and each step of the firmware update from RequestUpdate to activation (PLDM numbers
presumed) (spec/23_policy_firmware_and_management.md R580, spec/23_policy_firmware_and_management.md R581,
spec/23_policy_firmware_and_management.md R582, spec/23_policy_firmware_and_management.md R583,
spec/23_policy_firmware_and_management.md R584, spec/04_the_ecano_image.md R95). Rests in part on the choices of the
model in notes/assumptions/76, 77, 83. -/
def Obligations.SensorsAndFirmwareUpdate : Prop :=
  ∀ s : State,
    (∀ (d : MctpBinding) (n : Nat), mctpOpen d s = true →
      exec (.setEventReceiver d n) s = .next (sendMctp d 1 [2, 4, 0] { s with mgt := { s.mgt with
        eventReceiver := if n = 0 then none else some d
        sensorLast := sensorIds.foldl (fun l id => tabSet 0 id (sensorLevel s id) l) [] } })) ∧
    (∀ (d : MctpBinding) (n : Nat), mctpOpen d s = true →
      exec (.getSensorReading d n) s = .next (if n ∈ sensorIds then (if sensorUp s n = true
        then sendMctp d 1 ([2, 0x11, 0, 0] ++ toLe 1 (sensorLevel s n) ++ toLe 4 (sensorReading s n % 2 ^ 32).toNat) s else sendMctp d 1 [2, 0x11, 0, 2] s)
        else sendMctp d 1 [2, 0x11, 0x80] s)) ∧
    (∀ (d : MctpBinding) (n : Nat), s.mgt.eventReceiver = some d → mctpOpen d s = true → n ∈ sensorIds → sensorUp s n = true → sensorLevel s n ≠ tabGet 0 s.mgt.sensorLast n →
      (tabGet 0 s.mgt.sensorAt n = 0 ∨ tabGet 0 s.mgt.sensorAt n + 1000000000 ≤ upNs s + 1) →
      exec (.sensorEventTimer n) s = .next (sendMctp d 1 ([2, 0x0A] ++ toLe 2 n ++ toLe 1 (tabGet 0 s.mgt.sensorLast n) ++ toLe 1 (sensorLevel s n) ++
        toLe 4 (sensorReading s n % 2 ^ 32).toNat) { s with mgt := { s.mgt with
          sensorLast := tabSet 0 n (sensorLevel s n) s.mgt.sensorLast
          sensorAt := tabSet 0 n (upNs s + 1) s.mgt.sensorAt } })) ∧
    (∀ (n : Nat), s.mgt.eventReceiver = none → exec (.sensorEventTimer n) s = .next s) ∧
    (∀ (d : MctpBinding) (a b : Nat), mctpOpen d s = true → (lifeCycle s = .blank ∨ lifeCycle s = .decommissioned ∨ s.boot.state = .error ∨ commitHoldsImage s = true) →
      exec (.requestUpdate d a b) s = .next (pldmReply d 0x10 0x84 [] s)) ∧
    (∀ (d : MctpBinding) (a b : Nat), mctpOpen d s = true → lifeCycle s ≠ .blank → lifeCycle s ≠ .decommissioned → s.boot.state ≠ .error → commitHoldsImage s = false →
      exec (.requestUpdate d a b) s = .next (if s.mgt.update.phase = .idle
        then requestData 0 512 (pldmReply d 0x10 0 [] (updUpdate (fun _ => { phase := .requested, bankB := inactiveBank s, agent := d }) s)) else pldmReply d 0x10 0x81 [] s)) ∧
    (∀ (d : MctpBinding) (a b x : Nat), mctpOpen d s = true → s.mgt.update.phase = .requested →
      exec (.passComponentTable d a b x) s = .next (if componentCode s a b (some (x % 2 ^ 32)) = 0
        then pldmReply d 0x13 0 [0] (updUpdate (fun u => { u with phase := .tablePassed }) s)
        else pldmReply d 0x13 0 (toLe 1 (componentCode s a b (some (x % 2 ^ 32)))) (stopUpdate s))) ∧
    (∀ (d : MctpBinding) (a b x : Nat), mctpOpen d s = true → s.mgt.update.phase = .tablePassed →
      exec (.updateComponent d a b x) s = .next (if (a = 0x000A ∧ b = 0x7016) ∧ s.mgt.update.headerHeld = false
        then updUpdate (fun u => { u with waiting := true }) s else startErase d a b s)) ∧
    (s.mgt.update.phase = .erasing → bankInUse s s.mgt.update.bankB = true → exec (.bankEraseDone) s = .next (stopUpdate s)) ∧
    (s.mgt.update.phase = .erasing → bankInUse s s.mgt.update.bankB = false →
      exec (.bankEraseDone) s = .next (requestNext (updUpdate (fun u => { u with phase := .transferring, nextOffset := 0, hold := [] })
        { s with flash := tabClear (bankBase s.mgt.update.bankB) (bankBase s.mgt.update.bankB + bankSize) s.flash }))) ∧
    (∀ (d : MctpBinding) (b : Bytes) (u : State), mctpOpen d s = true → (s.mgt.update.phase = .requested ∨ s.mgt.update.phase = .tablePassed) → d = s.mgt.update.agent → s.mgt.update.headerHeld = false → b.length = 512 → u = updUpdate (fun u => { u with hold := memWriteN [] 0 b, headerHeld := true }) s →
      exec (.firmwareDataReceive d 0 b) s = .next (if u.mgt.update.waiting = true then startErase u.mgt.update.agent 0x000A 0x7016 u else u)) ∧
    (∀ (d : MctpBinding) (o : Nat) (b : Bytes) (u : State), mctpOpen d s = true → s.mgt.update.phase = .transferring → d = s.mgt.update.agent → o = s.mgt.update.nextOffset → o < s.mgt.update.length → b.length = min 4096 (s.mgt.update.length - o) → u = updUpdate (fun u => { u with nextOffset := o + b.length }) (if o = 0 then updUpdate (fun u => { u with hold := memWriteN [] 0 b }) s
  else { s with flash := flashWriteN s.flash (bankBase s.mgt.update.bankB + o) b }) →
      exec (.firmwareDataReceive d o b) s = .next (if o + b.length < s.mgt.update.length then requestNext u else u)) ∧
    ((s.mgt.update.phase = .requested ∨ s.mgt.update.phase = .tablePassed) → s.mgt.update.headerHeld = false →
      exec (.firmwareDataRetry) s = .next (requestData 0 512 s)) ∧
    (s.mgt.update.phase = .transferring → s.mgt.update.nextOffset < s.mgt.update.length →
      exec (.firmwareDataRetry) s = .next (requestNext s)) ∧
    (s.mgt.update.phase = .transferring → s.mgt.update.length ≤ s.mgt.update.nextOffset →
      exec (.transferComplete) s = .next (sendMctp s.mgt.update.agent 1 [5, 0x16, 0] (updUpdate (fun u => { u with phase := .verifying }) s))) ∧
    (∀ (ok : Bool), s.mgt.update.phase = .verifying → ok = (newHeader s s.mgt.update.bankB (memReadN s.mgt.update.hold 0 512) == 0 && (verifyImage s (heldImage s) s.mgt.update.bankB).isOk) →
      exec (.verifyComplete) s = .next (if ok = true
        then sendMctp s.mgt.update.agent 1 [5, 0x17, 0] (updUpdate (fun u => { u with phase := .applying }) { s with flash := heldImage s })
        else sendMctp s.mgt.update.agent 1 [5, 0x17, 1] (stopUpdate s))) ∧
    (∀ (u : State), s.mgt.update.phase = .applying → u = secLog 0x0040 0 0 (toLe 1 (b2n s.mgt.update.bankB) ++ toLe 8 (bankSeq s.flash s.mgt.update.bankB)) s →
      exec (.applyComplete) s = .next (sendMctp s.mgt.update.agent 1 [5, 0x18, 0] (updUpdate (fun u => { u with phase := .complete }) u))) ∧
    (∀ (d : MctpBinding), mctpOpen d s = true →
      exec (.cancelUpdate d) s = .next (if s.mgt.update.phase = .idle then pldmReply d 0x1D 0x80 [] s else pldmReply d 0x1D 0 [] (stopUpdate s))) ∧
    (∀ (d : MctpBinding) (u : State), mctpOpen d s = true → u = (if s.mgt.update.phase = .complete then updUpdate (fun _ => {}) s else s) → s.boot.state = .ready →
      exec (.activateFirmware d) s = .next (pldmReply d 0x1A 0 [] u)) ∧
    (∀ (d : MctpBinding) (u : State), mctpOpen d s = true → u = (if s.mgt.update.phase = .complete then updUpdate (fun _ => {}) s else s) → s.boot.state = .safe →
      exec (.activateFirmware d) s = .next (pldmReply d 0x1A 0 [] { u with boot := { u.boot with retry := 0 }, mgt := { u.mgt with activationAt := some (upNs u) } })) ∧
    (∀ (t : Nat), s.mgt.activationAt = some t → s.boot.state = .safe → t + 100000000 ≤ upNs s → exec (.activationWarmReset) s = .next (warmPlain s))

/-- DBG_TRACE_CTL and its refusals, draining the trace buffer, DBG_TRACE_RD, MARK, counter snapshots, halting the
processors (spec/25_trace_counters_and_debug.md R608, spec/25_trace_counters_and_debug.md R609,
spec/25_trace_counters_and_debug.md R610, spec/25_trace_counters_and_debug.md R612,
spec/25_trace_counters_and_debug.md R616, spec/25_trace_counters_and_debug.md R617,
spec/25_trace_counters_and_debug.md R619, spec/25_trace_counters_and_debug.md R621). Rests in part on the choices of
the model in notes/assumptions/79, 80. -/
def Obligations.TraceSnapshotsAndProcessorDebug : Prop :=
  ∀ s : State,
    (∀ (r : Requester) (v : Nat) (p : PartId) (u : State), hostPart r 0x00160000 s = (some p, u) →
      exec (.dbgTraceCtlWrite r v) s = .next (updPart u p (fun q => { q with trace := writeTraceCtl u p v }))) ∧
    (∀ (p : PartId) (v : Nat) (t : Trace), t = (getPart s p).trace → bitOf t.ctl 0 = false → v < 2 ^ 15 → bitOf v 0 = true →
      (traceFits s p = false → writeTraceCtl s p v = { t with ctl := v - 1, refused := true }) ∧
      (traceFits s p = true → writeTraceCtl s p v = { t with ctl := v, refused := false, stopped := false, triggered := false, trigSeq := 0, postLeft := 0, seq := 0 })) ∧
    (∀ (p : PartId), (hasCredit s p 0 = true ∨ (getPart s p).trace.buf = []) → exec (.traceRecordDrain p) s = .next (settleMerge p 0 0 (traceDrain p (hbmGo p 8 s)))) ∧
    (∀ (p : PartId), hasCredit s p 0 = false → (getPart s p).trace.buf ≠ [] → exec (.traceRecordDrain p) s = .next (hbmHold p 8 s)) ∧
    (∀ (p : PartId), (getPart s p).trace.buf = [] →
      traceDrain p s = updPart s p (fun q => { q with trace := { (getPart s p).trace with buf := [] } })) ∧
    (∀ (r : Requester) (v : Nat) (p : PartId) (u : State), hostPart r 0x0016001C s = (some p, u) →
      exec (.dbgTraceRdWrite r v) s = .next (updPart u p (fun q => { q with trace := { q.trace with rd := v % 2 ^ 32 } }))) ∧
    (∀ (r : Requester) (v : Nat) (p : PartId) (u : State), hostPart r 0x00160030 s = (some p, u) →
      exec (.dbgMark r v) s = .next (traceGen p { kind := .mark, tag := v % 2 ^ 32, jobId := if (getPart u p).job.open_ = true then (getPart u p).job.id else 0 } u)) ∧
    (∀ (p : PartId) (x : TraceRec) (t : Trace), t = (getPart s p).trace → traceOn t = true → bitsOf t.ctl 2 1 = 0 → 512 ≤ t.buf.length →
      traceGen p x s = cntPart 0x00160020 1 p (updPart s p (fun q => { q with trace := { t with seq := wrapAdd 32 t.seq 1, droppedRun := t.droppedRun + 1 } }))) ∧
    (∀ (r : Requester) (v : Nat) (u : State), snapWriter r s = (true, u) → bitOf v 0 = true →
      exec (.cntSnapTake r v) s = .next { u with
        snaps := u.snaps.set (requesterId r) { held := true, dt := dtNow u, caps := captureAll u (viewOf u r) u.snaps[requesterId r] }
        free := u.free + 3 }) ∧
    (∀ (r : Requester) (v : Nat) (u : State), snapWriter r s = (true, u) → bitOf v 0 = false → bitOf v 1 = true →
      exec (.cntSnapRelease r v) s = .next { u with snaps := u.snaps.set (requesterId r) {} }) ∧
    (∀ (r : Requester) (v : Nat) (u : State), snapWriter r s = (false, u) →
      exec (.cntSnapTake r v) s = .next u ∧ exec (.cntSnapRelease r v) s = .next u) ∧
    (∀ (r : Requester) (v : Nat) (m0 m1 : Bool), mpDebugOpen r s = true →
      m0 = (bitOf v 0 && (!bitOf s.mp.halt 0 || bitOf v 2)) → m1 = (bitOf v 1 && (!bitOf s.mp.halt 1 || bitOf v 3)) →
      ∃ a b, ∀ u : State, u = { s with
          free := s.free + 2
          mp := {
            halt := v % 4
            step := bitsOf v 3 2
            pc0 := if m0 = true then a else if bitOf v 0 = true then s.mp.pc0 else 0
            pc1 := if m1 = true then b else if bitOf v 1 = true then s.mp.pc1 else 0 } } →
        exec (.mpHalt r v) s = .next u ∧ exec (.mpStep r v) s = .next u) ∧
    (∀ (r : Requester) (v : Nat), (r ≠ .jtag ∨ (lifeCycle s ≠ .blank ∧ lifeCycle s ≠ .debugUnlocked)) →
      exec (.mpHalt r v) s = .next s ∧ exec (.mpStep r v) s = .next s)

/-- A wait specification: INDEX, CMP and VALUE, the counter compared with VALUE by the four comparisons, unsigned
(spec/07_engines_queues_and_sync_counters.md R172). -/
def Obligations.WaitSpecificationLayout : Prop :=
  ∀ (s : State) (p : PartId) (i v w : Nat), i < 2 ^ 14 → v < 2 ^ 16 →
    (w = i + 2 ^ 14 * 0 + 2 ^ 16 * v → (waitHolds s p w = true ↔ sycGet s p i ≥ v)) ∧
    (w = i + 2 ^ 14 * 1 + 2 ^ 16 * v → (waitHolds s p w = true ↔ sycGet s p i = v)) ∧
    (w = i + 2 ^ 14 * 2 + 2 ^ 16 * v → (waitHolds s p w = true ↔ sycGet s p i ≠ v)) ∧
    (w = i + 2 ^ 14 * 3 + 2 ^ 16 * v → (waitHolds s p w = true ↔ sycGet s p i < v))

/-- BALLOT_MERGE keeps the C first of the union in the order of R267, empty entries last, and every merge order gives
the same result (spec/15_collectives.md R391). -/
def Obligations.BallotMergesAgree : Prop :=
  ∀ (c e : Nat) (a b d : Bytes), a.length = 16 * c → b.length = 16 * c → d.length = 16 * c →
    (∀ x ∈ cands c a ++ cands c b ++ cands c d, isNan32 x.1.1 = false) → ((cands c a ++ cands c b ++ cands c d).map (·.1.2)).Nodup →
    mergeExpert c e a b = mergeExpert c e b a ∧
    mergeExpert c e (mergeExpert c e a b) d = mergeExpert c e a (mergeExpert c e b d) ∧
    (cands c (mergeExpert c e a b)).Pairwise (fun x y => candLt x.1 y.1 = true) ∧
    (∀ x ∈ cands c a ++ cands c b, (x ∈ cands c (mergeExpert c e a b) ↔ ((cands c a ++ cands c b).filter (fun y => candLt y.1 x.1)).length < c)) ∧
    (∀ x ∈ cands c (mergeExpert c e a b), x ∈ cands c a ++ cands c b) ∧
    mergeExpert c e a b = ((cands c (mergeExpert c e a b)).map (·.2)).flatten ++
      (List.replicate (c - (cands c (mergeExpert c e a b)).length) (emptyCand e)).flatten

/-- Every tag reads back the fields it was made of with a good check byte, and every packet that fits its fields is read
back from its bytes (spec/12_dispatch_and_combine.md R311, spec/12_dispatch_and_combine.md R312,
spec/12_dispatch_and_combine.md R314). -/
def Obligations.TagsAndPacketsReadBack : Prop :=
  (∀ (dev slot rank epoch part : Nat) (spec : Bool) (layer : Nat), dev < 2 ^ 14 → slot < 2 ^ 16 → rank < 2 ^ 4 → epoch < 2 ^ 6 →
    part < 2 ^ 3 → layer < 2 ^ 12 → ∀ t, t = mkTag dev slot rank epoch part spec layer →
    tagDev t = dev ∧ tagSlot t = slot ∧ tagRank t = rank ∧ tagEpoch t = epoch ∧ tagPart t = part ∧ tagSpec t = spec ∧
    tagLayer t = layer ∧ tagOk t = true ∧ t < 2 ^ 64) ∧
  (∀ k : Packet, PacketFits k → parsePacket (packetBytes k) = some k)

/-- Every collective piece and every pair message that fits its fields is read back from the bytes it travels in
(spec/15_collectives.md R396, spec/19_paired_mode_and_failover.md R479). Rests in part on the choices of the model
in notes/assumptions/44. -/
def Obligations.PiecesAndPairMessagesReadBack : Prop :=
  (∀ k : Piece, PieceFits k → parsePiece (pieceBytes k) = some k) ∧
  (∀ (h : PairHead) (payload : Bytes), PairFits h payload → parsePair (pairBytes h payload) = some (h, payload))

/-- Every flit header and every transport header that a receiver takes is read back from the bytes it travels in, with
its payload (spec/13_bridle_links.md R340, spec/14_tether_links_and_transport.md R368). -/
def Obligations.FlitsAndDatagramsReadBack : Prop :=
  (∀ (h : FlitHead) (payload : Bytes), FlitFits h → payload.length = 242 → parseFlit (flitBytes h payload) = some (h, payload)) ∧
  (∀ (h : TthHead) (payload : Bytes), TthFits h payload → parseTth (tthBytes h payload) = some (h, payload))

/-- Every command on every state answers a next state: no command of the table ends in a fault or a refusal
(spec/00_scope.md R10, spec/18_errors_recovery_and_ordering.md R452). Rests in part on the choices of the model in
notes/assumptions/1. -/
def Obligations.EveryCommandRuns : Prop :=
  (∀ (c : Instr) (s : State), ∃ t, exec c s = .next t) ∧ (∀ s : State, ∃ t, step s = .next t)

/-- Every step keeps the canonical form of HBM, of its poison marks, of the flash and of the sync counters
(spec/06_host_ports.md R136, spec/07_engines_queues_and_sync_counters.md R177, spec/04_the_ecano_image.md R69).
Rests in part on the choices of the model in notes/assumptions/19. -/
def Obligations.MemoryStaysCanonical : Prop :=
  ∀ s t : State, MemWf s → step s = .next t → MemWf t

/-- The memories after reset are in canonical form: nothing is listed (spec/03_power_on_reset_and_clock_domains.md R46).
Rests in part on the choices of the model in notes/assumptions/19. -/
def Obligations.ResetMemoryIsCanonical : Prop :=
  MemWf State.reset

/-- No step unburns a fuse or lowers the floor, and a DECOMMISSIONED device stays DECOMMISSIONED
(spec/21_security_and_life_cycle.md R523, spec/21_security_and_life_cycle.md R525,
spec/21_security_and_life_cycle.md R526, spec/21_security_and_life_cycle.md R528). -/
def Obligations.FusesOnlyBurn : Prop :=
  ∀ s t : State, step s = .next t → FusesLe s.fuses t.fuses ∧ (lifeCycle s = .decommissioned → lifeCycle t = .decommissioned)

/-- No command touches the queue of waiting commands, takes back what was sent, or uses a free value twice
(spec/opcode_table.json). Rests in part on the choices of the model in notes/assumptions/2, 84. -/
def Obligations.CommandsKeepTheQueueAndTheRecord : Prop :=
  ∀ (c : Instr) (s t : State), exec c s = .next t → t.pending = s.pending ∧ s.out <:+ t.out ∧ s.free ≤ t.free

/-- Where no error stands in SRAM, every command outside the list of resets, boot, pins, P-states, BIST, commits and the
mailbox leaves the standing state unchanged (spec/03_power_on_reset_and_clock_domains.md R50, spec/03_power_on_reset_and_clock_domains.md R46,
spec/05_time_base_windows_and_the_commit_instant.md R113, spec/21_security_and_life_cycle.md R523). Rests in part on
the choices of the model in notes/assumptions/37, 65, 82. -/
def Obligations.StandingFrame : Prop :=
  ∀ (c : Instr) (s t : State), s.sramErr = [] → mayChangeStanding c = false → exec c s = .next t →
    t.boot = s.boot ∧ t.pins = s.pins ∧ t.fuses = s.fuses ∧ t.cfg = s.cfg ∧ t.img = s.img

/-- Where no error stands in SRAM, every command outside the list of those that store leaves every byte of HBM as it was;
a BAR4 write stores to its range only (spec/06_host_ports.md R136, spec/06_host_ports.md R137, spec/12_dispatch_and_combine.md R319,
spec/21_security_and_life_cycle.md R538). Rests in part on the choices of the model in notes/assumptions/37, 48. -/
def Obligations.HbmFrame : Prop :=
  (∀ (c : Instr) (s t : State), s.sramErr = [] → mayStoreHbm c = false → exec c s = .next t → ∀ a, memRead t.hbm a = memRead s.hbm a) ∧
  (∀ (r : Requester) (off : Nat) (data : Bytes) (ep : Bool) (s t : State) (k : PortId) (bare : Bool) (p : PartId), portReq r = some (k, bare) →
    partOf s k = some p → exec (.bar4Write r off data ep []) s = .next t → ∀ x, x = hbmBase s p + (2 ^ 30 * (getPort s k).bar4BaseGib + off) →
    ∀ a, a < x ∨ x + data.length ≤ a → memRead t.hbm a = memRead s.hbm a) ∧
  (∀ (r : Requester) (off : Nat) (data : Bytes) (ep : Bool) (s t : State) (k : PortId) (bare : Bool), portReq r = some (k, bare) →
    partOf s k = none → exec (.bar4Write r off data ep []) s = .next t → t.hbm = s.hbm) ∧
  (∀ (s : State) (x : Nat) (b : Bytes) (a : Nat), a < x ∨ x + b.length ≤ a → memRead (hbmWrite x b s).hbm a = memRead s.hbm a) ∧
  (∀ (s : State) (x : Nat) (b : Bytes), memWf s.hbm = true → ∀ i (h : i < b.length), memRead (hbmWrite x b s).hbm (x + i) = b[i])

/-- Where no error stands in SRAM, every command outside the list of those that act on clusters leaves the cores, the pair
role, Dual-Line, BIST and processor debug as they were (spec/09_expert_cores_and_tiles.md R233, spec/19_paired_mode_and_failover.md R480,
spec/17_determinism_and_dual_line.md R439, spec/20_power_and_thermal.md R508, spec/22_built_in_self_test.md R561).
Rests in part on the choices of the model in notes/assumptions/37, 62, 70. -/
def Obligations.CoresAndRolesFrame : Prop :=
  ∀ (c : Instr) (s t : State), s.sramErr = [] → mayChangeCores c = false → exec c s = .next t →
    t.clusters = s.clusters ∧ t.pair = s.pair ∧ t.dual = s.dual ∧ t.bist = s.bist ∧ t.mp = s.mp
end

