-- ==== Sys2Proof/Laws/Hbm1.lean ====
section
/-!
SUPPORT. Hbm1.lean: the relation itself, then what leaves HBM alone, one lemma per operation, in the order of the definitions (1 of 4).
Memo s t: every byte of HBM is that of s.
-/
set_option linter.all false
namespace Sys2Proof.Laws
open Sys2Proof Sys2Proof.Machine Sys2Proof.Safety

structure Memo (s t : State) : Prop where
  sram : s.sramErr = [] → t.sramErr = []
  hbm : s.sramErr = [] → t.hbm = s.hbm

theorem Memo.refl (s : State) : Memo s s := ⟨id, fun _ => rfl⟩

theorem Memo.upd {s0 X : State} (xe x0 x1 x2 x3 x4 x5 x6 x7 x8 x9 x10 x11 x12 x13 x14 x15 x16 x17 x18 x19 x20 x21 x22 x23 x24 x25 x26 x27 x28 x29 x30 x31 x32 x33) :
    Memo s0 {
      boot := x0
      pins := x1
      fuses := x2
      flash := x3
      cfg := x4
      img := x5
      time := x6
      commit := x7
      ports := x8
      parts := x9
      syc := x10
      hbm := X.hbm
      hbmPoison := x11
      hbmErr := xe
      sramErr := X.sramErr
      links := x12
      bridle := x13
      planes := x14
      tether := x15
      net := x16
      col := x17
      clusters := x18
      power := x19
      pair := x20
      dual := x21
      sec := x22
      bist := x23
      mgt := x24
      mp := x25
      mgtRing := x26
      errSelect := x27
      regs := x28
      latches := x29
      snaps := x30
      free := x31
      out := x32
      pending := x33 } ↔ Memo s0 X :=
  ⟨fun h => ⟨h.sram, h.hbm⟩, fun h => ⟨h.sram, h.hbm⟩⟩

theorem Memo.sramFilter {s0 s : State} (g : PartId × EccFind → Bool) (h : Memo s0 s) : Memo s0 { s with sramErr := s.sramErr.filter g } :=
  ⟨fun n => by rw [h.sram n]; rfl, h.hbm⟩

/-- With no error standing in SRAM, none is met. -/
theorem Memo.sramFold {s0 s u : State} (hs : Memo s0 s) (hu : Memo s0 u) (g : PartId × EccFind → Bool) (f : State → PartId × EccFind → State) :
    Memo s0 ((s.sramErr.filter g).foldl f u) := by
  have e : s0.sramErr = [] → (s.sramErr.filter g).foldl f u = u := fun n => by rw [hs.sram n]; rfl
  exact ⟨fun n => by rw [e n]; exact hu.sram n, fun n => by rw [e n]; exact hu.hbm n⟩

theorem Memo.ite {s0 : State} {c : Prop} [Decidable c] {a b : State} (ha : Memo s0 a) (hb : Memo s0 b) : Memo s0 (if c then a else b) := by
  split <;> assumption

theorem Memo.foldl {α : Type} {s0 : State} (f : State → α → State) (hf : ∀ s x, Memo s0 s → Memo s0 (f s x)) :
    ∀ (l : List α) (s : State), Memo s0 s → Memo s0 (l.foldl f s)
  | [], _, h => h
  | x :: l, s, h => Memo.foldl f hf l (f s x) (hf s x h)


theorem Memo.iteSnd {α : Type} {s0 : State} {c : Prop} [Decidable c] {a b : α × State} (ha : Memo s0 a.2) (hb : Memo s0 b.2) :
    Memo s0 (if c then a else b).2 := by
  split <;> assumption

theorem Memo.iteFst {α : Type} {s0 : State} {c : Prop} [Decidable c] {a b : State × α} (ha : Memo s0 a.1) (hb : Memo s0 b.1) :
    Memo s0 (if c then a else b).1 := by
  split <;> assumption

/-- The same for what a command answers. -/
def MemoO (s0 : State) : Out → Prop
  | .next t => Memo s0 t
  | _ => True

theorem MemoO.next {s0 t : State} (h : Memo s0 t) : MemoO s0 (.next t) := h

theorem MemoO.ite {s0 : State} {c : Prop} [Decidable c] {a b : Out} (ha : MemoO s0 a) (hb : MemoO s0 b) : MemoO s0 (if c then a else b) := by
  split <;> assumption

theorem updPart_memo {s0 : State} (s : State) (p : PartId) (f : Part → Part) (hk : Memo s0 s) : Memo s0 (updPart s p f) := by
  unfold updPart
  repeat (first | with_reducible assumption | intro _ | with_reducible apply Memo.ite | simp only [Memo.upd] | dsimp only | split)

theorem updPort_memo {s0 : State} (s : State) (k : PortId) (f : Port → Port) (hk : Memo s0 s) : Memo s0 (updPort s k f) := by
  unfold updPort
  repeat (first | with_reducible assumption | intro _ | with_reducible apply Memo.ite | simp only [Memo.upd] | dsimp only | split)

theorem updLink_memo {s0 : State} (s : State) (l : LinkId) (f : Link → Link) (hk : Memo s0 s) : Memo s0 (updLink s l f) := by
  unfold updLink
  repeat (first | with_reducible assumption | intro _ | with_reducible apply Memo.ite | simp only [Memo.upd] | dsimp only | split)

theorem updPlane_memo {s0 : State} (s : State) (p : PlaneId) (f : Plane → Plane) (hk : Memo s0 s) : Memo s0 (updPlane s p f) := by
  unfold updPlane
  repeat (first | with_reducible assumption | intro _ | with_reducible apply Memo.ite | simp only [Memo.upd] | dsimp only | split)

theorem updCluster_memo {s0 : State} (s : State) (c : ClusterId) (f : Cluster → Cluster) (hk : Memo s0 s) : Memo s0 (updCluster s c f) := by
  unfold updCluster
  repeat (first | with_reducible assumption | intro _ | with_reducible apply Memo.ite | simp only [Memo.upd] | dsimp only | split)

theorem updStream_memo {s0 : State} (s : State) (p : PartId) (st : StreamId) (f : Stream → Stream) (hk : Memo s0 s) : Memo s0 (updStream s p st f) := by
  unfold updStream
  repeat (first | with_reducible assumption | with_reducible apply updPart_memo | intro _ | with_reducible apply Memo.ite | simp only [Memo.upd] | dsimp only | split)

theorem updJob_memo {s0 : State} (s : State) (p : PartId) (f : Job → Job) (hk : Memo s0 s) : Memo s0 (updJob s p f) := by
  unfold updJob
  repeat (first | with_reducible assumption | with_reducible apply updPart_memo | intro _ | with_reducible apply Memo.ite | simp only [Memo.upd] | dsimp only | split)

theorem eachOf_memo {s0 : State} {α : Type} (f : α → State → State) (hf : ∀ x s, Memo s0 s → Memo s0 (f x s)) (l : List α)
    (s : State) (h : Memo s0 s) : Memo s0 (eachOf l f s) :=
  Memo.foldl (fun a x => f x a) (fun s x => hf x s) l s h

theorem emit_memo {s0 : State} (e : Emit) (s : State) (hk : Memo s0 s) : Memo s0 (emit e s) := by
  unfold emit
  repeat (first | with_reducible assumption | intro _ | with_reducible apply Memo.ite | simp only [Memo.upd] | dsimp only | split)

theorem takeFree_memo {s0 t : State} {v : Nat} {s : State} (e : takeFree s = (v, t)) (hk : Memo s0 s) : Memo s0 t := by
  unfold takeFree at e
  (try dsimp only at e)
  repeat' split at e
  all_goals (try cases e)
  all_goals repeat (first | with_reducible assumption | intro _ | with_reducible apply Memo.ite | simp only [Memo.upd] | dsimp only | split)

theorem takeFree_snd_memo {s0 : State} (s : State) (hk : Memo s0 s) : Memo s0 (takeFree s).2 :=
  takeFree_memo (Prod.eta _).symm hk

theorem cntPart_memo {s0 : State} (off n : Nat) (p : PartId) (s : State) (hk : Memo s0 s) : Memo s0 (cntPart off n p s) := by
  unfold cntPart
  repeat (first | with_reducible assumption | with_reducible apply updPart_memo | intro _ | with_reducible apply Memo.ite | simp only [Memo.upd] | dsimp only | split)

theorem cntPart64_memo {s0 : State} (off n : Nat) (p : PartId) (s : State) (hk : Memo s0 s) : Memo s0 (cntPart64 off n p s) := by
  unfold cntPart64
  repeat (first | with_reducible assumption | with_reducible apply updPart_memo | intro _ | with_reducible apply Memo.ite | simp only [Memo.upd] | dsimp only | split)

theorem cntPort_memo {s0 : State} (off n : Nat) (k : PortId) (s : State) (hk : Memo s0 s) : Memo s0 (cntPort off n k s) := by
  unfold cntPort
  repeat (first | with_reducible assumption | with_reducible apply updPort_memo | intro _ | with_reducible apply Memo.ite | simp only [Memo.upd] | dsimp only | split)

theorem cntDev_memo {s0 : State} (off n : Nat) (s : State) (hk : Memo s0 s) : Memo s0 (cntDev off n s) := by
  unfold cntDev
  repeat (first | with_reducible assumption | intro _ | with_reducible apply Memo.ite | simp only [Memo.upd] | dsimp only | split)

theorem cntBridle_memo {s0 : State} (off n : Nat) (s : State) (hk : Memo s0 s) : Memo s0 (cntBridle off n s) := by
  unfold cntBridle
  repeat (first | with_reducible assumption | intro _ | with_reducible apply Memo.ite | simp only [Memo.upd] | dsimp only | split)

theorem cntTether_memo {s0 : State} (off n : Nat) (s : State) (hk : Memo s0 s) : Memo s0 (cntTether off n s) := by
  unfold cntTether
  repeat (first | with_reducible assumption | intro _ | with_reducible apply Memo.ite | simp only [Memo.upd] | dsimp only | split)

theorem cntLink_memo {s0 : State} (off n : Nat) (l : LinkId) (s : State) (hk : Memo s0 s) : Memo s0 (cntLink off n l s) := by
  unfold cntLink
  repeat (first | with_reducible assumption | with_reducible apply updLink_memo | intro _ | with_reducible apply Memo.ite | simp only [Memo.upd] | dsimp only | split)

theorem cntPlane_memo {s0 : State} (off n : Nat) (l : PlaneId) (s : State) (hk : Memo s0 s) : Memo s0 (cntPlane off n l s) := by
  unfold cntPlane
  repeat (first | with_reducible assumption | with_reducible apply updPlane_memo | intro _ | with_reducible apply Memo.ite | simp only [Memo.upd] | dsimp only | split)

theorem cntPower_memo {s0 : State} (off n : Nat) (s : State) (hk : Memo s0 s) : Memo s0 (cntPower off n s) := by
  unfold cntPower
  repeat (first | with_reducible assumption | intro _ | with_reducible apply Memo.ite | simp only [Memo.upd] | dsimp only | split)

theorem setRegPart_memo {s0 : State} (off v : Nat) (p : PartId) (s : State) (hk : Memo s0 s) : Memo s0 (setRegPart off v p s) := by
  unfold setRegPart
  repeat (first | with_reducible assumption | with_reducible apply updPart_memo | intro _ | with_reducible apply Memo.ite | simp only [Memo.upd] | dsimp only | split)

theorem mgtEvent_memo {s0 : State} (ev unit arg : Nat) (s : State) (hk : Memo s0 s) : Memo s0 (mgtEvent ev unit arg s) := by
  unfold mgtEvent
  repeat (first | with_reducible assumption | with_reducible apply cntDev_memo | with_reducible apply emit_memo | intro _ | with_reducible apply Memo.ite | simp only [Memo.upd] | dsimp only | split)

theorem settleRegs_memo {s0 : State} (s : State) (hk : Memo s0 s) : Memo s0 (settleRegs s) := by
  unfold settleRegs
  repeat (first | with_reducible assumption | intro _ | with_reducible apply Memo.ite | simp only [Memo.upd] | dsimp only | split)

theorem charge_memo {s0 : State} (p : PartId) (i : Fin 4) (n : Nat) (s : State) (hk : Memo s0 s) : Memo s0 (charge p i n s) := by
  unfold charge
  repeat (first | with_reducible assumption | with_reducible apply updPart_memo | intro _ | with_reducible apply Memo.ite | simp only [Memo.upd] | dsimp only | split)

theorem stall_memo {s0 : State} (p : PartId) (i : Fin 4) (s : State) (hk : Memo s0 s) : Memo s0 (stall p i s) := by
  unfold stall
  repeat (first | with_reducible assumption | with_reducible apply cntPart_memo | with_reducible apply updPart_memo | intro _ | with_reducible apply Memo.ite | simp only [Memo.upd] | dsimp only | split)

theorem hbmHold_memo {s0 : State} (p : PartId) (i : Nat) (s : State) (hk : Memo s0 s) : Memo s0 (hbmHold p i s) := by
  unfold hbmHold
  repeat (first | with_reducible assumption | with_reducible apply stall_memo | with_reducible apply updPart_memo | intro _ | with_reducible apply Memo.ite | simp only [Memo.upd] | dsimp only | split)

theorem hbmGo_memo {s0 : State} (p : PartId) (i : Nat) (s : State) (hk : Memo s0 s) : Memo s0 (hbmGo p i s) := by
  unfold hbmGo
  repeat (first | with_reducible assumption | with_reducible apply updPart_memo | intro _ | with_reducible apply Memo.ite | simp only [Memo.upd] | dsimp only | split)

theorem noteWaits_memo {s0 : State} (p : PartId) (s : State) (hk : Memo s0 s) : Memo s0 (noteWaits p s) := by
  unfold noteWaits
  repeat (first | with_reducible assumption | with_reducible apply updPart_memo | intro _ | with_reducible apply Memo.ite | simp only [Memo.upd] | dsimp only | split)

theorem setPend_memo {s0 : State} (k : PortId) (v : Nat) (s : State) (hk : Memo s0 s) : Memo s0 (setPend k v s) := by
  unfold setPend
  repeat (first | with_reducible assumption | with_reducible apply updPort_memo | intro _ | with_reducible apply Memo.ite | simp only [Memo.upd] | dsimp only | split)

theorem issueOne_memo {s0 t : State} {k : PortId} {r : DmaReq} {s : State} (e : issueOne k r s = some t) (hk : Memo s0 s) : Memo s0 t := by
  unfold issueOne at e
  (try dsimp only at e)
  repeat' split at e
  all_goals (try cases e)
  all_goals repeat (first | with_reducible assumption | with_reducible apply updPort_memo | with_reducible apply charge_memo | with_reducible apply emit_memo | with_reducible apply setPend_memo | intro _ | with_reducible apply Memo.ite | simp only [Memo.upd] | dsimp only | split)

theorem pumpList_memo {s0 : State} (k : PortId) : ∀ (x0 : List DmaReq) (s : State), Memo s0 s → Memo s0 (pumpList k x0 s)
  | [], s, h => by
    unfold pumpList
    repeat (first | with_reducible assumption | with_reducible apply updPort_memo | with_reducible refine issueOne_memo (by with_reducible assumption) ?_ | with_reducible apply stall_memo | intro _ | with_reducible apply Memo.ite | simp only [Memo.upd] | dsimp only | split)
  | r :: rs, s, h => by
    unfold pumpList
    repeat (first | with_reducible assumption | with_reducible apply pumpList_memo | with_reducible apply updPort_memo | with_reducible refine issueOne_memo (by with_reducible assumption) ?_ | with_reducible apply stall_memo | intro _ | with_reducible apply Memo.ite | simp only [Memo.upd] | dsimp only | split)

theorem pump_memo {s0 : State} (k : PortId) (s : State) (hk : Memo s0 s) : Memo s0 (pump k s) := by
  unfold pump
  repeat (first | with_reducible assumption | with_reducible apply pumpList_memo | with_reducible apply noteWaits_memo | intro _ | with_reducible apply Memo.ite | simp only [Memo.upd] | dsimp only | split)

theorem dmaPush_memo {s0 : State} (k : PortId) (rs : List DmaReq) (s : State) (hk : Memo s0 s) : Memo s0 (dmaPush k rs s) := by
  unfold dmaPush
  repeat (first | with_reducible assumption | with_reducible apply pump_memo | with_reducible apply updPort_memo | intro _ | with_reducible apply Memo.ite | simp only [Memo.upd] | dsimp only | split)

theorem wakeEvent_memo {s0 : State} (k : PortId) (cause : Nat) (s : State) (hk : Memo s0 s) : Memo s0 (wakeEvent k cause s) := by
  unfold wakeEvent
  repeat (first | with_reducible assumption | with_reducible apply updPort_memo | intro _ | with_reducible apply Memo.ite | simp only [Memo.upd] | dsimp only | split)

theorem msix_memo {s0 : State} (k : PortId) (v : Nat) (s : State) (hk : Memo s0 s) : Memo s0 (msix k v s) := by
  unfold msix
  repeat (first | with_reducible assumption | with_reducible apply setPend_memo | with_reducible apply wakeEvent_memo | with_reducible apply dmaPush_memo | intro _ | with_reducible apply Memo.ite | simp only [Memo.upd] | dsimp only | split)

theorem msixPart_memo {s0 : State} (p : PartId) (v : Nat) (s : State) (hk : Memo s0 s) : Memo s0 (msixPart p v s) := by
  unfold msixPart
  repeat (first | with_reducible assumption | with_reducible apply msix_memo | intro _ | with_reducible apply Memo.ite | simp only [Memo.upd] | dsimp only | split)

theorem traceGen_memo {s0 : State} (p : PartId) (r : TraceRec) (s : State) (hk : Memo s0 s) : Memo s0 (traceGen p r s) := by
  unfold traceGen
  repeat (first | with_reducible assumption | with_reducible apply cntPart_memo | with_reducible apply updPart_memo | intro _ | with_reducible apply Memo.ite | simp only [Memo.upd] | dsimp only | split)

theorem traceCmd_memo {s0 : State} (p : PartId) (st : StreamId) (desc : Bytes) (kind : TraceKind) (detail : Nat) (s : State) (hk : Memo s0 s) : Memo s0 (traceCmd p st desc kind detail s) := by
  unfold traceCmd
  repeat (first | with_reducible assumption | with_reducible apply traceGen_memo | intro _ | with_reducible apply Memo.ite | simp only [Memo.upd] | dsimp only | split)

theorem mgtRecord_memo {s0 : State} (r : ErrRec) (s : State) (hk : Memo s0 s) : Memo s0 (mgtRecord r s) := by
  unfold mgtRecord
  repeat (first | with_reducible assumption | with_reducible apply cntDev_memo | with_reducible apply mgtEvent_memo | intro _ | with_reducible apply Memo.ite | simp only [Memo.upd] | dsimp only | split)

theorem partRecord_memo {s0 : State} (p : PartId) (r : ErrRec) (s : State) (hk : Memo s0 s) : Memo s0 (partRecord p r s) := by
  unfold partRecord
  repeat (first | with_reducible assumption | with_reducible apply cntPart_memo | with_reducible apply updPart_memo | with_reducible apply wakeEvent_memo | with_reducible apply dmaPush_memo | with_reducible apply msixPart_memo | intro _ | with_reducible apply Memo.ite | simp only [Memo.upd] | dsimp only | split)

theorem record_memo {s0 : State} (p : PartId) (r : ErrRec) (s : State) (hk : Memo s0 s) : Memo s0 (record p r s) := by
  unfold record
  repeat (first | with_reducible assumption | with_reducible apply partRecord_memo | with_reducible apply updPart_memo | intro _ | with_reducible apply Memo.ite | simp only [Memo.upd] | dsimp only | split)

theorem recordAll_memo {s0 : State} (r : ErrRec) (s : State) (hk : Memo s0 s) : Memo s0 (recordAll r s) := by
  unfold recordAll
  repeat (first | with_reducible assumption | with_reducible apply eachOf_memo | with_reducible apply record_memo | intro _ | with_reducible apply Memo.ite | simp only [Memo.upd] | dsimp only | split)

theorem recordLink_memo {s0 : State} (r : ErrRec) (s : State) (hk : Memo s0 s) : Memo s0 (recordLink r s) := by
  unfold recordLink
  repeat (first | with_reducible assumption | with_reducible apply mgtRecord_memo | with_reducible apply recordAll_memo | intro _ | with_reducible apply Memo.ite | simp only [Memo.upd] | dsimp only | split)

theorem updPeer_memo {s0 : State} (d : DevId) (f : Peer → Peer) (s : State) (hk : Memo s0 s) : Memo s0 (updPeer d f s) := by
  unfold updPeer
  repeat (first | with_reducible assumption | intro _ | with_reducible apply Memo.ite | simp only [Memo.upd] | dsimp only | split)

theorem updFlow_memo {s0 : State} (d : DevId) (p : Nat) (f : Flow → Flow) (s : State) (hk : Memo s0 s) : Memo s0 (updFlow d p f s) := by
  unfold updFlow
  repeat (first | with_reducible assumption | intro _ | with_reducible apply Memo.ite | simp only [Memo.upd] | dsimp only | split)

theorem rawFlit_memo {s0 : State} (l : LinkId) (h : FlitHead) (payload : Bytes) (last : Option (DevId × Option DevId × Nat × Bytes)) (s : State) (hk : Memo s0 s) : Memo s0 (rawFlit l h payload last s) := by
  unfold rawFlit
  repeat (first | with_reducible assumption | with_reducible apply emit_memo | with_reducible apply updLink_memo | intro _ | with_reducible apply Memo.ite | simp only [Memo.upd] | dsimp only | split)

theorem seqFlit_memo {s0 : State} (l : LinkId) (h : FlitHead) (payload : Bytes) (last : Option (DevId × Option DevId × Nat × Bytes)) (s : State) (hk : Memo s0 s) : Memo s0 (seqFlit l h payload last s) := by
  unfold seqFlit
  repeat (first | with_reducible assumption | with_reducible apply rawFlit_memo | with_reducible apply updLink_memo | intro _ | with_reducible apply Memo.ite | simp only [Memo.upd] | dsimp only | split)

theorem otherFlit_memo {s0 : State} (l : LinkId) (type : Nat) (payload : Bytes) (s : State) (hk : Memo s0 s) : Memo s0 (otherFlit l type payload s) := by
  unfold otherFlit
  repeat (first | with_reducible assumption | with_reducible apply seqFlit_memo | with_reducible apply updLink_memo | intro _ | with_reducible apply Memo.ite | simp only [Memo.upd] | dsimp only | split)

theorem idleFlit_memo {s0 : State} (l : LinkId) (vc part units : Nat) (s : State) (hk : Memo s0 s) : Memo s0 (idleFlit l vc part units s) := by
  unfold idleFlit
  repeat (first | with_reducible assumption | with_reducible apply emit_memo | with_reducible apply updLink_memo | intro _ | with_reducible apply Memo.ite | simp only [Memo.upd] | dsimp only | split)

theorem putOnLink_memo {s0 : State} (l : LinkId) (vc : Nat) (p : PartId) (dst : DevId) (fwd : Option DevId) (fl : Nat) (b : Bytes) (s : State) (hk : Memo s0 s) : Memo s0 (putOnLink l vc p dst fwd fl b s) := by
  unfold putOnLink
  repeat (first | with_reducible assumption | with_reducible apply updLink_memo | with_reducible apply mgtEvent_memo | with_reducible apply emit_memo | with_reducible apply seqFlit_memo | with_reducible apply Memo.foldl | intro _ | with_reducible apply Memo.ite | simp only [Memo.upd] | dsimp only | split)

theorem setCtx_memo {s0 : State} (i : Nat) (c : Option Ctx) (s : State) (hk : Memo s0 s) : Memo s0 (setCtx i c s) := by
  unfold setCtx
  repeat (first | with_reducible assumption | intro _ | with_reducible apply Memo.ite | simp only [Memo.upd] | dsimp only | split)

theorem updCtx_memo {s0 : State} (i : Nat) (f : Ctx → Ctx) (s : State) (hk : Memo s0 s) : Memo s0 (updCtx i f s) := by
  unfold updCtx
  repeat (first | with_reducible assumption | with_reducible apply setCtx_memo | intro _ | with_reducible apply Memo.ite | simp only [Memo.upd] | dsimp only | split)

theorem takePn_memo {s0 t : State} {v : Option Nat} {pl : PlaneId} {s : State} (e : takePn pl s = (v, t)) (hk : Memo s0 s) : Memo s0 t := by
  unfold takePn at e
  (try dsimp only at e)
  repeat' split at e
  all_goals (try cases e)
  all_goals repeat (first | with_reducible assumption | with_reducible apply updPlane_memo | intro _ | with_reducible apply Memo.ite | simp only [Memo.upd] | dsimp only | split)

theorem takePn_snd_memo {s0 : State} (pl : PlaneId) (s : State) (hk : Memo s0 s) : Memo s0 (takePn pl s).2 :=
  takePn_memo (Prod.eta _).symm hk

theorem sendEth_memo {s0 : State} (pl : PlaneId) (m : EthMsg) (s : State) (hk : Memo s0 s) : Memo s0 (sendEth pl m s) := by
  unfold sendEth
  repeat (first | with_reducible assumption | with_reducible refine takePn_memo (by with_reducible assumption) ?_ | with_reducible apply takePn_snd_memo | with_reducible apply emit_memo | intro _ | with_reducible apply Memo.ite | with_reducible apply Memo.iteSnd | with_reducible apply Memo.iteFst | simp only [Memo.upd] | dsimp only | split)

theorem resolveAddr_memo {s0 : State} (pl : PlaneId) (a : Nat) (s : State) (hk : Memo s0 s) : Memo s0 (resolveAddr pl a s) := by
  unfold resolveAddr
  repeat (first | with_reducible assumption | with_reducible apply updPlane_memo | with_reducible apply sendEth_memo | intro _ | with_reducible apply Memo.ite | simp only [Memo.upd] | dsimp only | split)

theorem resolvePeer_memo {s0 : State} (pl : PlaneId) (d : DevId) (s : State) (hk : Memo s0 s) : Memo s0 (resolvePeer pl d s) := by
  unfold resolvePeer
  repeat (first | with_reducible assumption | with_reducible apply resolveAddr_memo | intro _ | with_reducible apply Memo.ite | simp only [Memo.upd] | dsimp only | split)

theorem forgetFailed_memo {s0 : State} (pl : PlaneId) (s : State) (hk : Memo s0 s) : Memo s0 (forgetFailed pl s) := by
  unfold forgetFailed
  repeat (first | with_reducible assumption | with_reducible apply updPlane_memo | intro _ | with_reducible apply Memo.ite | simp only [Memo.upd] | dsimp only | split)

theorem sendDgram_memo {s0 : State} (pl : PlaneId) (d : DevId) (path : Nat) (h : TthHead) (payload : Bytes) (s : State) (hk : Memo s0 s) : Memo s0 (sendDgram pl d path h payload s) := by
  unfold sendDgram
  repeat (first | with_reducible assumption | with_reducible apply resolvePeer_memo | with_reducible refine takePn_memo (by with_reducible assumption) ?_ | with_reducible apply takePn_snd_memo | with_reducible apply emit_memo | intro _ | with_reducible apply Memo.ite | with_reducible apply Memo.iteSnd | with_reducible apply Memo.iteFst | simp only [Memo.upd] | dsimp only | split)

theorem sendHello_memo {s0 : State} (i : Nat) (s : State) (hk : Memo s0 s) : Memo s0 (sendHello i s) := by
  unfold sendHello
  repeat (first | with_reducible assumption | with_reducible apply updCtx_memo | with_reducible apply forgetFailed_memo | with_reducible apply sendDgram_memo | intro _ | with_reducible apply Memo.ite | simp only [Memo.upd] | dsimp only | split)

theorem sendCloseCtx_memo {s0 : State} (c : Ctx) (s : State) (hk : Memo s0 s) : Memo s0 (sendCloseCtx c s) := by
  unfold sendCloseCtx
  repeat (first | with_reducible assumption | with_reducible apply sendDgram_memo | intro _ | with_reducible apply Memo.ite | simp only [Memo.upd] | dsimp only | split)

theorem freeCtx_memo {s0 t : State} {v : Option Nat} {s : State} (e : freeCtx s = (v, t)) (hk : Memo s0 s) : Memo s0 t := by
  unfold freeCtx at e
  (try dsimp only at e)
  repeat' split at e
  all_goals (try cases e)
  all_goals repeat (first | with_reducible assumption | with_reducible apply setCtx_memo | with_reducible apply sendCloseCtx_memo | with_reducible apply Memo.foldl | intro _ | with_reducible apply Memo.ite | with_reducible apply Memo.iteSnd | with_reducible apply Memo.iteFst | simp only [Memo.upd] | dsimp only | split)

theorem freeCtx_snd_memo {s0 : State} (s : State) (hk : Memo s0 s) : Memo s0 (freeCtx s).2 :=
  freeCtx_memo (Prod.eta _).symm hk

theorem sendSegment_memo {s0 : State} (i : Nat) (stream : Fin 4) (ssn off len : Nat) (first last retx : Bool) (pkt : Bytes) (s : State) (hk : Memo s0 s) : Memo s0 (sendSegment i stream ssn off len first last retx pkt s) := by
  unfold sendSegment
  repeat (first | with_reducible assumption | with_reducible apply sendDgram_memo | with_reducible apply charge_memo | with_reducible apply updPlane_memo | intro _ | with_reducible apply Memo.ite | simp only [Memo.upd] | dsimp only | split)

theorem sendCtxPacket_memo {s0 : State} (i flags : Nat) (b : Bytes) (s : State) (hk : Memo s0 s) : Memo s0 (sendCtxPacket i flags b s) := by
  unfold sendCtxPacket
  repeat (first | with_reducible assumption | with_reducible apply updCtx_memo | with_reducible apply sendSegment_memo | with_reducible apply Memo.foldl | intro _ | with_reducible apply Memo.ite | simp only [Memo.upd] | dsimp only | split)

theorem assignSeq_memo {s0 t : State} {v : Bytes} {d : DevId} {p : PartId} {isPiece : Bool} {b : Bytes} {s : State} (e : assignSeq d p isPiece b s = (v, t)) (hk : Memo s0 s) : Memo s0 t := by
  unfold assignSeq at e
  (try dsimp only at e)
  repeat' split at e
  all_goals (try cases e)
  all_goals repeat (first | with_reducible assumption | with_reducible apply updFlow_memo | intro _ | with_reducible apply Memo.ite | simp only [Memo.upd] | dsimp only | split)

theorem assignSeq_snd_memo {s0 : State} (d : DevId) (p : PartId) (isPiece : Bool) (b : Bytes) (s : State) (hk : Memo s0 s) : Memo s0 (assignSeq d p isPiece b s).2 :=
  assignSeq_memo (Prod.eta _).symm hk

theorem arbitrate_memo {s0 t : State} {b : Bid} {res : Nat} {bids : List Bid} {s : State} (e : arbitrate res bids s = some (b, t)) (hk : Memo s0 s) : Memo s0 t := by
  unfold arbitrate at e
  dsimp only at e
  split at e
  · cases e
  · cases e
    simpa only [Memo.upd] using hk

theorem retransmit_memo {s0 : State} (i : Nat) (st : Fin 4) (x : TxSeg) (fast : Bool) (s : State) (hk : Memo s0 s) : Memo s0 (retransmit i st x fast s) := by
  unfold retransmit
  repeat (first | with_reducible assumption | with_reducible apply stall_memo | with_reducible apply setCtx_memo | with_reducible apply sendSegment_memo | with_reducible apply cntPlane_memo | intro _ | with_reducible apply Memo.ite | simp only [Memo.upd] | dsimp only | split)

theorem payRetx_memo {s0 : State} (i : Nat) (s : State) (hk : Memo s0 s) : Memo s0 (payRetx i s) := by
  unfold payRetx
  repeat (first | with_reducible assumption | with_reducible apply retransmit_memo | with_reducible apply setCtx_memo | with_reducible apply Memo.foldl | intro _ | with_reducible apply Memo.ite | simp only [Memo.upd] | dsimp only | split)

theorem sendQueued_memo {s0 : State} (i j : Nat) (s : State) (hk : Memo s0 s) : Memo s0 (sendQueued i j s) := by
  unfold sendQueued
  repeat (first | with_reducible assumption | with_reducible apply setCtx_memo | with_reducible refine assignSeq_memo (by with_reducible assumption) ?_ | with_reducible apply assignSeq_snd_memo | with_reducible apply sendCtxPacket_memo | intro _ | with_reducible apply Memo.ite | with_reducible apply Memo.iteSnd | with_reducible apply Memo.iteFst | simp only [Memo.upd] | dsimp only | split)

theorem nextGrant_memo {s0 t : State} {i j : Nat} {pl : PlaneId} {s : State} (e : nextGrant pl s = some (i, j, t)) (hk : Memo s0 s) : Memo s0 t := by
  unfold nextGrant at e
  dsimp only at e
  split at e
  · cases e; exact hk
  · split at e
    · cases e
    · rename_i b u h
      have hu := arbitrate_memo h hk
      obtain ⟨x, _, hx⟩ := Option.map_eq_some_iff.1 e
      cases hx
      exact hu

theorem grantPlane_memo {s0 : State} (pl : PlaneId) : ∀ (x0 : Nat) (s : State), Memo s0 s → Memo s0 (grantPlane pl x0 s)
  | 0, s, h => by
    unfold grantPlane
    repeat (first | with_reducible assumption | with_reducible refine nextGrant_memo (by with_reducible assumption) ?_ | with_reducible apply sendQueued_memo | intro _ | with_reducible apply Memo.ite | simp only [Memo.upd] | dsimp only | split)
  | n + 1, s, h => by
    unfold grantPlane
    repeat (first | with_reducible assumption | with_reducible apply grantPlane_memo | with_reducible refine nextGrant_memo (by with_reducible assumption) ?_ | with_reducible apply sendQueued_memo | intro _ | with_reducible apply Memo.ite | simp only [Memo.upd] | dsimp only | split)

theorem drainPlane_memo {s0 : State} (pl : PlaneId) (s : State) (hk : Memo s0 s) : Memo s0 (drainPlane pl s) := by
  unfold drainPlane
  repeat (first | with_reducible assumption | with_reducible apply eachOf_memo | with_reducible apply payRetx_memo | with_reducible apply grantPlane_memo | with_reducible apply stall_memo | with_reducible apply Memo.foldl | intro _ | with_reducible apply Memo.ite | with_reducible apply Memo.iteSnd | with_reducible apply Memo.iteFst | simp only [Memo.upd] | dsimp only | split)

theorem drainCtx_memo {s0 : State} (i : Nat) (s : State) (hk : Memo s0 s) : Memo s0 (drainCtx i s) := by
  unfold drainCtx
  repeat (first | with_reducible assumption | with_reducible apply drainPlane_memo | intro _ | with_reducible apply Memo.ite | simp only [Memo.upd] | dsimp only | split)

theorem sendTether_memo {s0 t : State} {pl : PlaneId} {w : Waiting} {s : State} (e : sendTether pl w s = some t) (hk : Memo s0 s) : Memo s0 t := by
  unfold sendTether at e
  (try dsimp only at e)
  repeat' split at e
  all_goals (try cases e)
  all_goals repeat (first | with_reducible assumption | with_reducible apply drainCtx_memo | with_reducible apply updCtx_memo | with_reducible refine freeCtx_memo (by with_reducible assumption) ?_ | with_reducible apply freeCtx_snd_memo | with_reducible apply sendHello_memo | with_reducible apply setCtx_memo | intro _ | with_reducible apply Memo.ite | with_reducible apply Memo.iteSnd | with_reducible apply Memo.iteFst | simp only [Memo.upd] | dsimp only | split)

theorem sendOnLink_memo {s0 : State} (l : LinkId) (vc : Nat) (relayed : Bool) (w : Waiting) (s : State) (hk : Memo s0 s) : Memo s0 (sendOnLink l vc relayed w s) := by
  unfold sendOnLink
  repeat (first | with_reducible assumption | with_reducible refine assignSeq_memo (by with_reducible assumption) ?_ | with_reducible apply assignSeq_snd_memo | with_reducible apply charge_memo | with_reducible apply putOnLink_memo | with_reducible apply emit_memo | intro _ | with_reducible apply Memo.ite | with_reducible apply Memo.iteSnd | with_reducible apply Memo.iteFst | simp only [Memo.upd] | dsimp only | split)

theorem trySend_memo {s0 t : State} {w : Waiting} {s : State} (e : trySend w s = some t) (hk : Memo s0 s) : Memo s0 t := by
  unfold trySend at e
  split at e
  · cases e
  · split at e
    · obtain ⟨x, _, hx⟩ := Option.map_eq_some_iff.1 e
      cases hx
      exact sendOnLink_memo _ _ _ _ _ hk
    · split at e
      · cases e
      · split at e
        · cases e
        · split at e
          · cases e
          · split at e
            · cases e
            · rename_i h
              cases e
              exact emit_memo _ _ (sendTether_memo h (updFlow_memo _ _ _ _ hk))

theorem holdBack_memo {s0 t : State} {v : Waiting} {w : Waiting} {s : State} (e : holdBack w s = (v, t)) (hk : Memo s0 s) : Memo s0 t := by
  unfold holdBack at e
  (try dsimp only at e)
  repeat' split at e
  all_goals (try cases e)
  all_goals repeat (first | with_reducible assumption | with_reducible apply stall_memo | with_reducible refine freeCtx_memo (by with_reducible assumption) ?_ | with_reducible apply freeCtx_snd_memo | with_reducible apply cntTether_memo | intro _ | with_reducible apply Memo.ite | with_reducible apply Memo.iteSnd | with_reducible apply Memo.iteFst | simp only [Memo.upd] | dsimp only | split)

theorem holdBack_snd_memo {s0 : State} (w : Waiting) (s : State) (hk : Memo s0 s) : Memo s0 (holdBack w s).2 :=
  holdBack_memo (Prod.eta _).symm hk

theorem sendAfter_memo {s0 t : State} {l : List Waiting} {w : Waiting} {s : State} (e : sendAfter l w s = some t) (hk : Memo s0 s) : Memo s0 t := by
  unfold sendAfter at e
  (try dsimp only at e)
  repeat' split at e
  all_goals (try cases e)
  all_goals repeat (first | with_reducible assumption | with_reducible refine trySend_memo (by with_reducible assumption) ?_ | intro _ | with_reducible apply Memo.ite | simp only [Memo.upd] | dsimp only | split)

theorem sendTo_memo {s0 : State} (d : DevId) (p : PartId) (flags : Nat) (b : Bytes) (s : State) (hk : Memo s0 s) : Memo s0 (sendTo d p flags b s) := by
  unfold sendTo
  repeat (first | with_reducible assumption | with_reducible refine sendAfter_memo (by with_reducible assumption) ?_ | with_reducible refine holdBack_memo (by with_reducible assumption) ?_ | with_reducible apply holdBack_snd_memo | intro _ | with_reducible apply Memo.ite | with_reducible apply Memo.iteSnd | with_reducible apply Memo.iteFst | simp only [Memo.upd] | dsimp only | split)

theorem tryMsg_memo {s0 t : State} {d : DevId} {b : Bytes} {s : State} (e : tryMsg d b s = some t) (hk : Memo s0 s) : Memo s0 t := by
  unfold tryMsg at e
  split at e
  · obtain ⟨x, _, hx⟩ := Option.map_eq_some_iff.1 e
    cases hx
    exact putOnLink_memo _ _ _ _ _ _ _ _ hk
  · obtain ⟨x, _, hx⟩ := Option.bind_eq_some_iff.1 e
    exact sendTether_memo hx hk

theorem sendMessage_memo {s0 : State} (d : DevId) (b : Bytes) (s : State) (hk : Memo s0 s) : Memo s0 (sendMessage d b s) := by
  unfold sendMessage
  split
  · rename_i h
    split at h
    · cases h
    · exact tryMsg_memo h hk
  · simpa only [Memo.upd] using hk

theorem drainMsgs_memo {s0 : State} (s : State) (hk : Memo s0 s) : Memo s0 (drainMsgs s) := by
  unfold drainMsgs
  repeat (first | with_reducible assumption | with_reducible apply sendMessage_memo | with_reducible apply Memo.foldl | intro _ | with_reducible apply Memo.ite | simp only [Memo.upd] | dsimp only | split)

theorem sendPairLink_memo {s0 : State} (b : Bytes) (s : State) (hk : Memo s0 s) : Memo s0 (sendPairLink b s) := by
  unfold sendPairLink
  repeat (first | with_reducible assumption | with_reducible apply putOnLink_memo | with_reducible apply updLink_memo | intro _ | with_reducible apply Memo.ite | simp only [Memo.upd] | dsimp only | split)

theorem forwardTo_memo {s0 : State} (x : Relayed) (s : State) (hk : Memo s0 s) : Memo s0 (forwardTo x s) := by
  unfold forwardTo
  repeat (first | with_reducible assumption | with_reducible apply putOnLink_memo | intro _ | with_reducible apply Memo.ite | simp only [Memo.upd] | dsimp only | split)

theorem resend_memo {s0 : State} (d : DevId) (fwd : Option DevId) (fl : Nat) (b : Bytes) (s : State) (hk : Memo s0 s) : Memo s0 (resend d fwd fl b s) := by
  unfold resend
  repeat (first | with_reducible assumption | with_reducible apply cntBridle_memo | with_reducible apply sendPairLink_memo | with_reducible apply sendMessage_memo | with_reducible apply forwardTo_memo | with_reducible apply sendTo_memo | intro _ | with_reducible apply Memo.ite | simp only [Memo.upd] | dsimp only | split)

theorem drainOutList_memo {s0 : State} (c : Nat) : ∀ (x0 : List Waiting) (x1 : List Waiting) (s : State), Memo s0 s → Memo s0 (drainOutList c x0 x1 s)
  | [], kept, s, h => by
    unfold drainOutList
    repeat (first | with_reducible assumption | with_reducible refine sendAfter_memo (by with_reducible assumption) ?_ | with_reducible refine holdBack_memo (by with_reducible assumption) ?_ | with_reducible apply holdBack_snd_memo | intro _ | with_reducible apply Memo.ite | with_reducible apply Memo.iteSnd | with_reducible apply Memo.iteFst | simp only [Memo.upd] | dsimp only | split)
  | w :: rest, kept, s, h => by
    unfold drainOutList
    repeat (first | with_reducible assumption | with_reducible apply drainOutList_memo | with_reducible refine sendAfter_memo (by with_reducible assumption) ?_ | with_reducible refine holdBack_memo (by with_reducible assumption) ?_ | with_reducible apply holdBack_snd_memo | intro _ | with_reducible apply Memo.ite | with_reducible apply Memo.iteSnd | with_reducible apply Memo.iteFst | simp only [Memo.upd] | dsimp only | split)

theorem grantLinks_memo {s0 : State}  : ∀ (x0 : Nat) (s : State), Memo s0 s → Memo s0 (grantLinks  x0 s)
  | 0, s, h => by
    unfold grantLinks
    repeat (first | with_reducible assumption | with_reducible refine arbitrate_memo (by with_reducible assumption) ?_ | with_reducible refine trySend_memo (by with_reducible assumption) ?_ | intro _ | with_reducible apply Memo.ite | with_reducible apply Memo.iteSnd | with_reducible apply Memo.iteFst | simp only [Memo.upd] | dsimp only | split)
  | n + 1, s, h => by
    unfold grantLinks
    repeat (first | with_reducible assumption | with_reducible apply grantLinks_memo | with_reducible refine arbitrate_memo (by with_reducible assumption) ?_ | with_reducible refine trySend_memo (by with_reducible assumption) ?_ | intro _ | with_reducible apply Memo.ite | with_reducible apply Memo.iteSnd | with_reducible apply Memo.iteFst | simp only [Memo.upd] | dsimp only | split)

theorem drainWait_memo {s0 : State} (c : Nat) (s : State) (hk : Memo s0 s) : Memo s0 (drainWait c s) := by
  unfold drainWait
  repeat (first | with_reducible assumption | with_reducible apply grantLinks_memo | with_reducible apply drainOutList_memo | intro _ | with_reducible apply Memo.ite | simp only [Memo.upd] | dsimp only | split)

theorem payOwedList_memo {s0 : State}  : ∀ (x0 : List (LinkId × Nat × PartId × Nat × DevId)) (x1 : List (LinkId × Nat × PartId × Nat × DevId)) (s : State), Memo s0 s → Memo s0 (payOwedList  x0 x1 s)
  | [], _x1, s, h => by
    unfold payOwedList
    repeat (first | with_reducible assumption | with_reducible apply idleFlit_memo | with_reducible apply Memo.foldl | intro _ | with_reducible apply Memo.ite | with_reducible apply Memo.iteSnd | with_reducible apply Memo.iteFst | simp only [Memo.upd] | dsimp only | split)
  | (l, vc, p, n, d) :: rest, spent, s, h => by
    unfold payOwedList
    repeat (first | with_reducible assumption | with_reducible apply payOwedList_memo | with_reducible apply idleFlit_memo | with_reducible apply Memo.foldl | intro _ | with_reducible apply Memo.ite | with_reducible apply Memo.iteSnd | with_reducible apply Memo.iteFst | simp only [Memo.upd] | dsimp only | split)

theorem payOwed_memo {s0 : State} (s : State) (hk : Memo s0 s) : Memo s0 (payOwed s) := by
  unfold payOwed
  repeat (first | with_reducible assumption | with_reducible apply payOwedList_memo | intro _ | with_reducible apply Memo.ite | simp only [Memo.upd] | dsimp only | split)

theorem drainHeld_memo {s0 : State} (rows : Bool) (s : State) (hk : Memo s0 s) : Memo s0 (drainHeld rows s) := by
  unfold drainHeld
  repeat (first | with_reducible assumption | with_reducible apply forwardTo_memo | with_reducible apply Memo.foldl | intro _ | with_reducible apply Memo.ite | simp only [Memo.upd] | dsimp only | split)

theorem drainOut_memo {s0 : State} (s : State) (hk : Memo s0 s) : Memo s0 (drainOut s) := by
  unfold drainOut
  repeat (first | with_reducible assumption | with_reducible apply drainWait_memo | with_reducible apply payOwed_memo | with_reducible apply drainHeld_memo | with_reducible apply drainMsgs_memo | intro _ | with_reducible apply Memo.ite | simp only [Memo.upd] | dsimp only | split)

theorem drainLink_memo {s0 : State} (l : LinkId) (s : State) (hk : Memo s0 s) : Memo s0 (drainLink l s) := by
  unfold drainLink
  repeat (first | with_reducible assumption | with_reducible apply drainOut_memo | with_reducible apply sendPairLink_memo | with_reducible apply updLink_memo | with_reducible apply Memo.foldl | intro _ | with_reducible apply Memo.ite | simp only [Memo.upd] | dsimp only | split)

theorem sendPacketAs_memo {s0 : State} (e : Nat) (d : DevId) (p : PartId) (k : Kind) (x : Packet) (s : State) (hk : Memo s0 s) : Memo s0 (sendPacketAs e d p k x s) := by
  unfold sendPacketAs
  repeat (first | with_reducible assumption | with_reducible apply cntPart64_memo | with_reducible apply sendTo_memo | intro _ | with_reducible apply Memo.ite | simp only [Memo.upd] | dsimp only | split)

theorem sendPacket_memo {s0 : State} (d : DevId) (p : PartId) (k : Kind) (x : Packet) (s : State) (hk : Memo s0 s) : Memo s0 (sendPacket d p k x s) := by
  unfold sendPacket
  repeat (first | with_reducible assumption | with_reducible apply sendPacketAs_memo | intro _ | with_reducible apply Memo.ite | simp only [Memo.upd] | dsimp only | split)

theorem sendPiece_memo {s0 : State} (d : DevId) (p : PartId) (x : Piece) (s : State) (hk : Memo s0 s) : Memo s0 (sendPiece d p x s) := by
  unfold sendPiece
  repeat (first | with_reducible assumption | with_reducible apply sendTo_memo | intro _ | with_reducible apply Memo.ite | simp only [Memo.upd] | dsimp only | split)

theorem setComm_memo {s0 : State} (h : Nat) (c : Option Comm) (s : State) (hk : Memo s0 s) : Memo s0 (setComm h c s) := by
  unfold setComm
  repeat (first | with_reducible assumption | intro _ | with_reducible apply Memo.ite | simp only [Memo.upd] | dsimp only | split)

theorem updComm_memo {s0 : State} (h : Nat) (f : Comm → Comm) (s : State) (hk : Memo s0 s) : Memo s0 (updComm h f s) := by
  unfold updComm
  repeat (first | with_reducible assumption | with_reducible apply setComm_memo | intro _ | with_reducible apply Memo.ite | simp only [Memo.upd] | dsimp only | split)

theorem sendAbort_memo {s0 : State} (c : Comm) (code dev : Nat) (dests : List DevId) (s : State) (hk : Memo s0 s) : Memo s0 (sendAbort c code dev dests s) := by
  unfold sendAbort
  repeat (first | with_reducible assumption | with_reducible apply eachOf_memo | with_reducible apply sendPiece_memo | intro _ | with_reducible apply Memo.ite | simp only [Memo.upd] | dsimp only | split)

theorem abortComm_memo {s0 : State} (h code dev : Nat) (s : State) (hk : Memo s0 s) : Memo s0 (abortComm h code dev s) := by
  unfold abortComm
  repeat (first | with_reducible assumption | with_reducible apply sendAbort_memo | with_reducible apply updComm_memo | intro _ | with_reducible apply Memo.ite | simp only [Memo.upd] | dsimp only | split)

theorem epochNotices_memo {s0 : State} (p : PartId) (s : State) (hk : Memo s0 s) : Memo s0 (epochNotices p s) := by
  unfold epochNotices
  repeat (first | with_reducible assumption | with_reducible apply eachOf_memo | with_reducible apply sendPiece_memo | intro _ | with_reducible apply Memo.ite | simp only [Memo.upd] | dsimp only | split)

theorem sendClose_memo {s0 : State} (p : PartId) (c : Conj) (d : DevId) (s : State) (hk : Memo s0 s) : Memo s0 (sendClose p c d s) := by
  unfold sendClose
  repeat (first | with_reducible assumption | with_reducible apply sendPacket_memo | intro _ | with_reducible apply Memo.ite | with_reducible apply Memo.iteSnd | with_reducible apply Memo.iteFst | simp only [Memo.upd] | dsimp only | split)

theorem sendVerdicts_memo {s0 : State} (p : PartId) (c : Conj) (d : DevId) : ∀ (x0 : List Bytes) (x1 : Nat) (s : State), Memo s0 s → Memo s0 (sendVerdicts p c d x0 x1 s)
  | _x0, 0, s, h => by
    unfold sendVerdicts
    repeat (first | with_reducible assumption | with_reducible apply sendPacket_memo | intro _ | with_reducible apply Memo.ite | simp only [Memo.upd] | dsimp only | split)
  | [], _x1, s, h => by
    unfold sendVerdicts
    repeat (first | with_reducible assumption | with_reducible apply sendPacket_memo | intro _ | with_reducible apply Memo.ite | simp only [Memo.upd] | dsimp only | split)
  | es, fuel + 1, s, h => by
    unfold sendVerdicts
    repeat (first | with_reducible assumption | with_reducible apply sendVerdicts_memo | with_reducible apply sendPacket_memo | intro _ | with_reducible apply Memo.ite | simp only [Memo.upd] | dsimp only | split)

theorem suppress_memo {s0 : State} (p : PartId) (n : Nat) (s : State) (hk : Memo s0 s) : Memo s0 (suppress p n s) := by
  unfold suppress
  repeat (first | with_reducible assumption | with_reducible apply cntPart_memo | with_reducible apply updJob_memo | intro _ | with_reducible apply Memo.ite | simp only [Memo.upd] | dsimp only | split)

theorem countOrphans_memo {s0 : State} (p : PartId) (s : State) (hk : Memo s0 s) : Memo s0 (countOrphans p s) := by
  unfold countOrphans
  repeat (first | with_reducible assumption | with_reducible apply suppress_memo | with_reducible apply cntPart_memo | intro _ | with_reducible apply Memo.ite | with_reducible apply Memo.iteSnd | with_reducible apply Memo.iteFst | simp only [Memo.upd] | dsimp only | split)

theorem cancelSpec_memo {s0 : State} (p : PartId) (c : Conj) (s : State) (hk : Memo s0 s) : Memo s0 (cancelSpec p c s) := by
  unfold cancelSpec
  repeat (first | with_reducible assumption | with_reducible apply suppress_memo | with_reducible apply cntPart64_memo | with_reducible apply eachOf_memo | with_reducible apply sendVerdicts_memo | intro _ | with_reducible apply Memo.ite | simp only [Memo.upd] | dsimp only | split)

theorem withdraw_memo {s0 : State} (t : Waiting → Bool) (s : State) (hk : Memo s0 s) : Memo s0 (withdraw t s) := by
  unfold withdraw
  repeat (first | with_reducible assumption | intro _ | with_reducible apply Memo.ite | simp only [Memo.upd] | dsimp only | split)

theorem updConj_memo {s0 : State} (p : PartId) (f : Conj → Conj) (s : State) (hk : Memo s0 s) : Memo s0 (updConj p f s) := by
  unfold updConj
  repeat (first | with_reducible assumption | with_reducible apply updPart_memo | intro _ | with_reducible apply Memo.ite | simp only [Memo.upd] | dsimp only | split)

theorem withdrawRow_memo {s0 : State} (p : PartId) (x : Clause) (s : State) (hk : Memo s0 s) : Memo s0 (withdrawRow p x s) := by
  unfold withdrawRow
  repeat (first | with_reducible assumption | with_reducible apply withdraw_memo | with_reducible apply cntPart64_memo | with_reducible apply updConj_memo | with_reducible apply Memo.foldl | intro _ | with_reducible apply Memo.ite | with_reducible apply Memo.iteSnd | with_reducible apply Memo.iteFst | simp only [Memo.upd] | dsimp only | split)

theorem withdrawRows_memo {s0 : State} (p : PartId) (s : State) (hk : Memo s0 s) : Memo s0 (withdrawRows p s) := by
  unfold withdrawRows
  repeat (first | with_reducible assumption | with_reducible apply eachOf_memo | with_reducible apply withdrawRow_memo | with_reducible apply cntPart64_memo | intro _ | with_reducible apply Memo.ite | simp only [Memo.upd] | dsimp only | split)

theorem withdrawPieces_memo {s0 : State} (p : PartId) (s : State) (hk : Memo s0 s) : Memo s0 (withdrawPieces p s) := by
  unfold withdrawPieces
  repeat (first | with_reducible assumption | with_reducible apply withdraw_memo | intro _ | with_reducible apply Memo.ite | simp only [Memo.upd] | dsimp only | split)

theorem retireConj_memo {s0 : State} (p : PartId) (s : State) (hk : Memo s0 s) : Memo s0 (retireConj p s) := by
  unfold retireConj
  repeat (first | with_reducible assumption | with_reducible apply cancelSpec_memo | with_reducible apply eachOf_memo | with_reducible apply sendClose_memo | with_reducible apply updPart_memo | intro _ | with_reducible apply Memo.ite | simp only [Memo.upd] | dsimp only | split)

theorem sendDual_memo {s0 : State} (b : Bytes) (s : State) (hk : Memo s0 s) : Memo s0 (sendDual b s) := by
  unfold sendDual
  repeat (first | with_reducible assumption | with_reducible apply emit_memo | with_reducible apply sendPairLink_memo | intro _ | with_reducible apply Memo.ite | simp only [Memo.upd] | dsimp only | split)

theorem abandonDual_memo {s0 : State} (p : PartId) (code : Nat) (s : State) (hk : Memo s0 s) : Memo s0 (abandonDual p code s) := by
  unfold abandonDual
  repeat (first | with_reducible assumption | with_reducible apply sendDual_memo | with_reducible apply updPart_memo | intro _ | with_reducible apply Memo.ite | simp only [Memo.upd] | dsimp only | split)

theorem closeJob_memo {s0 : State} (p : PartId) (s : State) (hk : Memo s0 s) : Memo s0 (closeJob p s) := by
  unfold closeJob
  repeat (first | with_reducible assumption | with_reducible apply mgtEvent_memo | with_reducible apply cntPart64_memo | with_reducible apply updJob_memo | intro _ | with_reducible apply Memo.ite | simp only [Memo.upd] | dsimp only | split)

theorem stopStream_memo {s0 : State} (p : PartId) (code : Nat) (st : StreamId) (s : State) (hk : Memo s0 s) : Memo s0 (stopStream p code st s) := by
  unfold stopStream
  repeat (first | with_reducible assumption | with_reducible apply updStream_memo | with_reducible apply traceCmd_memo | intro _ | with_reducible apply Memo.ite | simp only [Memo.upd] | dsimp only | split)

theorem clearSyc_memo {s0 : State} (p : PartId) (s : State) (hk : Memo s0 s) : Memo s0 (clearSyc p s) := by
  unfold clearSyc
  repeat (first | with_reducible assumption | intro _ | with_reducible apply Memo.ite | simp only [Memo.upd] | dsimp only | split)

theorem orphanReads_memo {s0 : State} (p : PartId) (s : State) (hk : Memo s0 s) : Memo s0 (orphanReads p s) := by
  unfold orphanReads
  repeat (first | with_reducible assumption | with_reducible apply updPort_memo | intro _ | with_reducible apply Memo.ite | simp only [Memo.upd] | dsimp only | split)

theorem haltQueues_memo {s0 : State} (p : PartId) (code : Nat) (s : State) (hk : Memo s0 s) : Memo s0 (haltQueues p code s) := by
  unfold haltQueues
  repeat (first | with_reducible assumption | with_reducible apply orphanReads_memo | with_reducible apply eachOf_memo | with_reducible apply stopStream_memo | with_reducible apply updStream_memo | with_reducible apply clearSyc_memo | with_reducible apply updPart_memo | intro _ | with_reducible apply Memo.ite | with_reducible apply Memo.iteSnd | with_reducible apply Memo.iteFst | simp only [Memo.upd] | dsimp only | split)

theorem teardown_memo {s0 : State} (p : PartId) (code : Nat) (s : State) (hk : Memo s0 s) : Memo s0 (teardown p code s) := by
  unfold teardown
  repeat (first | with_reducible assumption | with_reducible apply abortComm_memo | with_reducible apply withdrawPieces_memo | with_reducible apply updPart_memo | with_reducible apply abandonDual_memo | with_reducible apply retireConj_memo | with_reducible apply withdrawRows_memo | with_reducible apply countOrphans_memo | with_reducible apply cntPart_memo | with_reducible apply closeJob_memo | with_reducible apply haltQueues_memo | intro _ | with_reducible apply Memo.ite | simp only [Memo.upd] | dsimp only | split)

theorem jobFault_memo {s0 : State} (p : PartId) (r : ErrRec) (s : State) (hk : Memo s0 s) : Memo s0 (jobFault p r s) := by
  unfold jobFault
  repeat (first | with_reducible assumption | with_reducible apply record_memo | with_reducible apply teardown_memo | intro _ | with_reducible apply Memo.ite | simp only [Memo.upd] | dsimp only | split)

theorem hostRead_memo {s0 : State} (p : PartId) (addr len : Nat) (tgt : Nat → DmaTarget) (s : State) (hk : Memo s0 s) : Memo s0 (hostRead p addr len tgt s) := by
  unfold hostRead
  repeat (first | with_reducible assumption | with_reducible apply dmaPush_memo | intro _ | with_reducible apply Memo.ite | simp only [Memo.upd] | dsimp only | split)

theorem fetchRing_memo {s0 : State} (p : PartId) (st : StreamId) : ∀ (x0 : Nat) (s : State), Memo s0 s → Memo s0 (fetchRing p st x0 s)
  | 0, s, h => by
    unfold fetchRing
    repeat (first | with_reducible assumption | with_reducible apply updStream_memo | with_reducible apply hostRead_memo | intro _ | with_reducible apply Memo.ite | simp only [Memo.upd] | dsimp only | split)
  | fuel + 1, s, h => by
    unfold fetchRing
    repeat (first | with_reducible assumption | with_reducible apply fetchRing_memo | with_reducible apply updStream_memo | with_reducible apply hostRead_memo | intro _ | with_reducible apply Memo.ite | simp only [Memo.upd] | dsimp only | split)

theorem fetchNow_memo {s0 : State} (p : PartId) (st : StreamId) (s : State) (hk : Memo s0 s) : Memo s0 (fetchNow p st s) := by
  unfold fetchNow
  repeat (first | with_reducible assumption | with_reducible apply fetchRing_memo | intro _ | with_reducible apply Memo.ite | simp only [Memo.upd] | dsimp only | split)

theorem dropHead_memo {s0 : State} (p : PartId) (st : StreamId) (s : State) (hk : Memo s0 s) : Memo s0 (dropHead p st s) := by
  unfold dropHead
  repeat (first | with_reducible assumption | with_reducible apply updStream_memo | intro _ | with_reducible apply Memo.ite | simp only [Memo.upd] | dsimp only | split)

theorem cmdFault_memo {s0 : State} (p : PartId) (st : StreamId) (desc : Bytes) (code sub detail : Nat) (s : State) (hk : Memo s0 s) : Memo s0 (cmdFault p st desc code sub detail s) := by
  unfold cmdFault
  repeat (first | with_reducible assumption | with_reducible apply traceCmd_memo | with_reducible apply fetchNow_memo | with_reducible apply jobFault_memo | with_reducible apply dropHead_memo | intro _ | with_reducible apply Memo.ite | simp only [Memo.upd] | dsimp only | split)

theorem resetReport_memo {s0 : State} (p : PartId) (k : ResetKind) (code : Nat) (hbm host : List (Nat × Nat)) (s : State) (hk : Memo s0 s) : Memo s0 (resetReport p k code hbm host s) := by
  unfold resetReport
  repeat (first | with_reducible assumption | with_reducible apply eachOf_memo | with_reducible apply record_memo | intro _ | with_reducible apply Memo.ite | simp only [Memo.upd] | dsimp only | split)

theorem partitionReady_memo {s0 : State} (p : PartId) (s : State) (hk : Memo s0 s) : Memo s0 (partitionReady p s) := by
  unfold partitionReady
  repeat (first | with_reducible assumption | with_reducible apply msixPart_memo | with_reducible apply updPart_memo | intro _ | with_reducible apply Memo.ite | simp only [Memo.upd] | dsimp only | split)

theorem flashErase_memo {s0 : State} (lo hi : Nat) (s : State) (hk : Memo s0 s) : Memo s0 (flashErase lo hi s) := by
  unfold flashErase
  repeat (first | with_reducible assumption | intro _ | with_reducible apply Memo.ite | simp only [Memo.upd] | dsimp only | split)

theorem flashWrite_memo {s0 : State} (a : Nat) (b : Bytes) (s : State) (hk : Memo s0 s) : Memo s0 (flashWrite a b s) := by
  unfold flashWrite
  repeat (first | with_reducible assumption | intro _ | with_reducible apply Memo.ite | simp only [Memo.upd] | dsimp only | split)

theorem secLog_memo {s0 : State} (event role result : Nat) (detail : Bytes) (s : State) (hk : Memo s0 s) : Memo s0 (secLog event role result detail s) := by
  unfold secLog
  repeat (first | with_reducible assumption | with_reducible apply cntDev_memo | with_reducible apply flashWrite_memo | with_reducible apply flashErase_memo | intro _ | with_reducible apply Memo.ite | simp only [Memo.upd] | dsimp only | split)

theorem secLogMergedAs_memo {s0 : State} (event key role result : Nat) (detail : Bytes) (s : State) (hk : Memo s0 s) : Memo s0 (secLogMergedAs event key role result detail s) := by
  unfold secLogMergedAs
  repeat (first | with_reducible assumption | with_reducible apply secLog_memo | intro _ | with_reducible apply Memo.ite | simp only [Memo.upd] | dsimp only | split)

theorem secLogMerged_memo {s0 : State} (event key : Nat) (detail : Bytes) (s : State) (hk : Memo s0 s) : Memo s0 (secLogMerged event key detail s) := by
  unfold secLogMerged
  repeat (first | with_reducible assumption | with_reducible apply secLogMergedAs_memo | intro _ | with_reducible apply Memo.ite | simp only [Memo.upd] | dsimp only | split)

theorem drbgBytes_memo {s0 t : State} {v : Bytes} {n : Nat} {s : State} (e : drbgBytes n s = (v, t)) (hk : Memo s0 s) : Memo s0 t := by
  unfold drbgBytes at e
  (try dsimp only at e)
  repeat' split at e
  all_goals (try cases e)
  all_goals repeat (first | with_reducible assumption | intro _ | with_reducible apply Memo.ite | simp only [Memo.upd] | dsimp only | split)

theorem drbgBytes_snd_memo {s0 : State} (n : Nat) (s : State) (hk : Memo s0 s) : Memo s0 (drbgBytes n s).2 :=
  drbgBytes_memo (Prod.eta _).symm hk

theorem freshNonce_memo {s0 : State} (s : State) (hk : Memo s0 s) : Memo s0 (freshNonce s) := by
  unfold freshNonce
  repeat (first | with_reducible assumption | with_reducible refine drbgBytes_memo (by with_reducible assumption) ?_ | with_reducible apply drbgBytes_snd_memo | intro _ | with_reducible apply Memo.ite | with_reducible apply Memo.iteSnd | with_reducible apply Memo.iteFst | simp only [Memo.upd] | dsimp only | split)

theorem zeroizeVolatile_memo {s0 : State} (s : State) (hk : Memo s0 s) : Memo s0 (zeroizeVolatile s) := by
  unfold zeroizeVolatile
  repeat (first | with_reducible assumption | intro _ | with_reducible apply Memo.ite | simp only [Memo.upd] | dsimp only | split)

theorem readVault_memo {s0 : State} (s : State) (hk : Memo s0 s) : Memo s0 (readVault s) := by
  unfold readVault
  repeat (first | with_reducible assumption | intro _ | with_reducible apply Memo.ite | simp only [Memo.upd] | dsimp only | split)

theorem deriveKeys_memo {s0 : State} (s : State) (hk : Memo s0 s) : Memo s0 (deriveKeys s) := by
  unfold deriveKeys
  repeat (first | with_reducible assumption | with_reducible apply readVault_memo | with_reducible apply freshNonce_memo | intro _ | with_reducible apply Memo.ite | simp only [Memo.upd] | dsimp only | split)

theorem enterError_memo {s0 : State} (id : Nat) (s : State) (hk : Memo s0 s) : Memo s0 (enterError id s) := by
  unfold enterError
  repeat (first | with_reducible assumption | with_reducible apply mgtRecord_memo | with_reducible apply secLog_memo | with_reducible apply zeroizeVolatile_memo | intro _ | with_reducible apply Memo.ite | simp only [Memo.upd] | dsimp only | split)

theorem bistAppend_memo {s0 : State} (body : Bytes) (s : State) (hk : Memo s0 s) : Memo s0 (bistAppend body s) := by
  unfold bistAppend
  repeat (first | with_reducible assumption | with_reducible apply flashErase_memo | with_reducible apply flashWrite_memo | intro _ | with_reducible apply Memo.ite | simp only [Memo.upd] | dsimp only | split)

theorem sendLinkMsg_memo {s0 : State} (l : LinkId) (m : LinkMsg) (s : State) (hk : Memo s0 s) : Memo s0 (sendLinkMsg l m s) := by
  unfold sendLinkMsg
  repeat (first | with_reducible assumption | with_reducible apply emit_memo | with_reducible apply otherFlit_memo | intro _ | with_reducible apply Memo.ite | simp only [Memo.upd] | dsimp only | split)

theorem noticeLink_memo {s0 : State} (l : LinkId) (s : State) (hk : Memo s0 s) : Memo s0 (noticeLink l s) := by
  unfold noticeLink
  repeat (first | with_reducible assumption | with_reducible apply sendLinkMsg_memo | intro _ | with_reducible apply Memo.ite | simp only [Memo.upd] | dsimp only | split)

theorem noticeCtx_memo {s0 : State} (i : Nat) (s : State) (hk : Memo s0 s) : Memo s0 (noticeCtx i s) := by
  unfold noticeCtx
  repeat (first | with_reducible assumption | with_reducible apply drainCtx_memo | with_reducible apply updCtx_memo | intro _ | with_reducible apply Memo.ite | simp only [Memo.upd] | dsimp only | split)

theorem sendNotices_memo {s0 : State} (s : State) (hk : Memo s0 s) : Memo s0 (sendNotices s) := by
  unfold sendNotices
  repeat (first | with_reducible assumption | with_reducible apply eachOf_memo | with_reducible apply noticeLink_memo | with_reducible apply noticeCtx_memo | with_reducible apply Memo.foldl | intro _ | with_reducible apply Memo.ite | simp only [Memo.upd] | dsimp only | split)

theorem noticeChange_memo {s0 : State} (before : Nat) (s : State) (hk : Memo s0 s) : Memo s0 (noticeChange before s) := by
  unfold noticeChange
  repeat (first | with_reducible assumption | with_reducible apply sendNotices_memo | intro _ | with_reducible apply Memo.ite | simp only [Memo.upd] | dsimp only | split)

theorem setBrl_memo {s0 : State} (l : LinkId) (st : BrlState) (s : State) (hk : Memo s0 s) : Memo s0 (setBrl l st s) := by
  unfold setBrl
  repeat (first | with_reducible assumption | with_reducible apply mgtEvent_memo | with_reducible apply updLink_memo | intro _ | with_reducible apply Memo.ite | simp only [Memo.upd] | dsimp only | split)

theorem setTth_memo {s0 : State} (pl : PlaneId) (st : TthState) (s : State) (hk : Memo s0 s) : Memo s0 (setTth pl st s) := by
  unfold setTth
  repeat (first | with_reducible assumption | with_reducible apply mgtEvent_memo | with_reducible apply updPlane_memo | intro _ | with_reducible apply Memo.ite | simp only [Memo.upd] | dsimp only | split)

theorem setCluster_memo {s0 : State} (c : ClusterId) (st : ClusterState) (s : State) (hk : Memo s0 s) : Memo s0 (setCluster c st s) := by
  unfold setCluster
  repeat (first | with_reducible assumption | with_reducible apply mgtEvent_memo | with_reducible apply updCluster_memo | intro _ | with_reducible apply Memo.ite | simp only [Memo.upd] | dsimp only | split)

theorem setCommit_memo {s0 : State} (st : CommitState) (s : State) (hk : Memo s0 s) : Memo s0 (setCommit st s) := by
  unfold setCommit
  repeat (first | with_reducible assumption | with_reducible apply mgtEvent_memo | intro _ | with_reducible apply Memo.ite | simp only [Memo.upd] | dsimp only | split)

theorem setSb_memo {s0 : State} (st : SbState) (s : State) (hk : Memo s0 s) : Memo s0 (setSb st s) := by
  unfold setSb
  repeat (first | with_reducible assumption | with_reducible apply mgtEvent_memo | intro _ | with_reducible apply Memo.ite | simp only [Memo.upd] | dsimp only | split)

theorem portEvent_memo {s0 : State} (k : PortId) (s : State) (hk : Memo s0 s) : Memo s0 (portEvent k s) := by
  unfold portEvent
  repeat (first | with_reducible assumption | with_reducible apply mgtEvent_memo | intro _ | with_reducible apply Memo.ite | simp only [Memo.upd] | dsimp only | split)

theorem enterDetect_memo {s0 : State} (l : LinkId) (s : State) (hk : Memo s0 s) : Memo s0 (enterDetect l s) := by
  unfold enterDetect
  repeat (first | with_reducible assumption | with_reducible apply setBrl_memo | with_reducible apply updLink_memo | with_reducible apply emit_memo | intro _ | with_reducible apply Memo.ite | simp only [Memo.upd] | dsimp only | split)

theorem enterAlign_memo {s0 : State} (pl : PlaneId) (s : State) (hk : Memo s0 s) : Memo s0 (enterAlign pl s) := by
  unfold enterAlign
  repeat (first | with_reducible assumption | with_reducible apply setTth_memo | with_reducible apply updPlane_memo | intro _ | with_reducible apply Memo.ite | simp only [Memo.upd] | dsimp only | split)

theorem startLinks_memo {s0 : State} (s : State) (hk : Memo s0 s) : Memo s0 (startLinks s) := by
  unfold startLinks
  repeat (first | with_reducible assumption | with_reducible apply eachOf_memo | with_reducible apply enterDetect_memo | with_reducible apply enterAlign_memo | intro _ | with_reducible apply Memo.ite | simp only [Memo.upd] | dsimp only | split)

theorem setPstateNow_memo {s0 : State} (p : Nat) (s : State) (hk : Memo s0 s) : Memo s0 (setPstateNow p s) := by
  unfold setPstateNow
  repeat (first | with_reducible assumption | intro _ | with_reducible apply Memo.ite | simp only [Memo.upd] | dsimp only | split)

theorem switchCore_memo {s0 : State} (p : Nat) (s : State) (hk : Memo s0 s) : Memo s0 (switchCore p s) := by
  unfold switchCore
  repeat (first | with_reducible assumption | with_reducible apply cntPower_memo | intro _ | with_reducible apply Memo.ite | simp only [Memo.upd] | dsimp only | split)

theorem requestPstate_memo {s0 : State} (p : Nat) (s : State) (hk : Memo s0 s) : Memo s0 (requestPstate p s) := by
  unfold requestPstate
  repeat (first | with_reducible assumption | with_reducible apply switchCore_memo | intro _ | with_reducible apply Memo.ite | simp only [Memo.upd] | dsimp only | split)

theorem releaseHeld_memo {s0 : State} (s : State) (hk : Memo s0 s) : Memo s0 (releaseHeld s) := by
  unfold releaseHeld
  repeat (first | with_reducible assumption | with_reducible apply requestPstate_memo | intro _ | with_reducible apply Memo.ite | simp only [Memo.upd] | dsimp only | split)

theorem quietExit_memo {s0 : State} (cause : Nat) (s : State) (hk : Memo s0 s) : Memo s0 (quietExit cause s) := by
  unfold quietExit
  repeat (first | with_reducible assumption | with_reducible apply mgtEvent_memo | with_reducible apply requestPstate_memo | intro _ | with_reducible apply Memo.ite | simp only [Memo.upd] | dsimp only | split)

theorem quietRow_memo {s0 : State} (s : State) (hk : Memo s0 s) : Memo s0 (quietRow s) := by
  unfold quietRow
  repeat (first | with_reducible assumption | with_reducible apply quietExit_memo | intro _ | with_reducible apply Memo.ite | simp only [Memo.upd] | dsimp only | split)

theorem driveWake_memo {s0 : State} (k : PortId) (s : State) (hk : Memo s0 s) : Memo s0 (driveWake k s) := by
  unfold driveWake
  repeat (first | with_reducible assumption | with_reducible apply updPort_memo | intro _ | with_reducible apply Memo.ite | simp only [Memo.upd] | dsimp only | split)

theorem dualHello_memo {s0 : State} (s : State) (hk : Memo s0 s) : Memo s0 (dualHello s) := by
  unfold dualHello
  repeat (first | with_reducible assumption | with_reducible apply sendDual_memo | intro _ | with_reducible apply Memo.ite | simp only [Memo.upd] | dsimp only | split)

theorem setDual_memo {s0 : State} (st : DlState) (s : State) (hk : Memo s0 s) : Memo s0 (setDual st s) := by
  unfold setDual
  repeat (first | with_reducible assumption | intro _ | with_reducible apply Memo.ite | simp only [Memo.upd] | dsimp only | split)

theorem dualWaiting_memo {s0 : State} (s : State) (hk : Memo s0 s) : Memo s0 (dualWaiting s) := by
  unfold dualWaiting
  repeat (first | with_reducible assumption | with_reducible apply setDual_memo | with_reducible apply dualHello_memo | intro _ | with_reducible apply Memo.ite | simp only [Memo.upd] | dsimp only | split)

theorem dualRelease_memo {s0 : State} (p : PartId) (w : DlWait) (s : State) (hk : Memo s0 s) : Memo s0 (dualRelease p w s) := by
  unfold dualRelease
  repeat (first | with_reducible assumption | with_reducible apply setRegPart_memo | with_reducible apply updPart_memo | intro _ | with_reducible apply Memo.ite | simp only [Memo.upd] | dsimp only | split)

theorem dualMismatch_memo {s0 : State} (p : PartId) (w : DlWait) (cause : Nat) (s : State) (hk : Memo s0 s) : Memo s0 (dualMismatch p w cause s) := by
  unfold dualMismatch
  repeat (first | with_reducible assumption | with_reducible apply setRegPart_memo | with_reducible apply cntPart_memo | with_reducible apply updPart_memo | with_reducible apply cmdFault_memo | intro _ | with_reducible apply Memo.ite | simp only [Memo.upd] | dsimp only | split)

theorem dualDecide_memo {s0 : State} (p : PartId) (w : DlWait) (r : DlRx) (s : State) (hk : Memo s0 s) : Memo s0 (dualDecide p w r s) := by
  unfold dualDecide
  repeat (first | with_reducible assumption | with_reducible apply dualMismatch_memo | with_reducible apply dualRelease_memo | with_reducible apply cntPart_memo | with_reducible apply updPart_memo | intro _ | with_reducible apply Memo.ite | simp only [Memo.upd] | dsimp only | split)

theorem dualStart_memo {s0 : State} (p : PartId) (jobId count request : Nat) (exempt : Bool) (check : Bytes) (s : State) (hk : Memo s0 s) : Memo s0 (dualStart p jobId count request exempt check s) := by
  unfold dualStart
  repeat (first | with_reducible assumption | with_reducible apply updPart_memo | with_reducible apply sendDual_memo | with_reducible apply dualDecide_memo | intro _ | with_reducible apply Memo.ite | simp only [Memo.upd] | dsimp only | split)

theorem dualMessage_memo {s0 : State} (p : PartId) (r : DlRx) (s : State) (hk : Memo s0 s) : Memo s0 (dualMessage p r s) := by
  unfold dualMessage
  repeat (first | with_reducible assumption | with_reducible apply dualDecide_memo | with_reducible apply updPart_memo | intro _ | with_reducible apply Memo.ite | simp only [Memo.upd] | dsimp only | split)

theorem dualLost_memo {s0 : State} (s : State) (hk : Memo s0 s) : Memo s0 (dualLost s) := by
  unfold dualLost
  repeat (first | with_reducible assumption | with_reducible apply eachOf_memo | with_reducible apply dualMismatch_memo | intro _ | with_reducible apply Memo.ite | simp only [Memo.upd] | dsimp only | split)

theorem dualLinkDown_memo {s0 : State} (s : State) (hk : Memo s0 s) : Memo s0 (dualLinkDown s) := by
  unfold dualLinkDown
  repeat (first | with_reducible assumption | with_reducible apply setDual_memo | with_reducible apply dualLost_memo | intro _ | with_reducible apply Memo.ite | simp only [Memo.upd] | dsimp only | split)

theorem dualDetect_memo {s0 : State} (s : State) (hk : Memo s0 s) : Memo s0 (dualDetect s) := by
  unfold dualDetect
  repeat (first | with_reducible assumption | with_reducible apply setDual_memo | intro _ | with_reducible apply Memo.ite | simp only [Memo.upd] | dsimp only | split)

theorem dualActive_memo {s0 : State} (s : State) (hk : Memo s0 s) : Memo s0 (dualActive s) := by
  unfold dualActive
  repeat (first | with_reducible assumption | with_reducible apply dualHello_memo | intro _ | with_reducible apply Memo.ite | simp only [Memo.upd] | dsimp only | split)

theorem execDlHelloReceive_memo {s0 : State} (msg : Bytes) (s : State) (hk : Memo s0 s) : MemoO s0 (execDlHelloReceive msg s) := by
  unfold execDlHelloReceive
  repeat (first | with_reducible assumption | with_reducible apply MemoO.next | with_reducible apply MemoO.ite | with_reducible apply setDual_memo | with_reducible apply dualHello_memo | with_reducible apply dualLost_memo | with_reducible apply eachOf_memo | with_reducible apply updPart_memo | with_reducible apply recordAll_memo | intro _ | with_reducible apply Memo.ite | simp only [Memo.upd] | dsimp only | split)

theorem execDlCompareReceive_memo {s0 : State} (msg : Bytes) (s : State) (hk : Memo s0 s) : MemoO s0 (execDlCompareReceive msg s) := by
  unfold execDlCompareReceive
  repeat (first | with_reducible assumption | with_reducible apply MemoO.next | with_reducible apply MemoO.ite | with_reducible apply dualMessage_memo | intro _ | with_reducible apply Memo.ite | simp only [Memo.upd] | dsimp only | split)

theorem execDlAbandonReceive_memo {s0 : State} (msg : Bytes) (s : State) (hk : Memo s0 s) : MemoO s0 (execDlAbandonReceive msg s) := by
  unfold execDlAbandonReceive
  repeat (first | with_reducible assumption | with_reducible apply MemoO.next | with_reducible apply MemoO.ite | with_reducible apply dualMessage_memo | intro _ | with_reducible apply Memo.ite | simp only [Memo.upd] | dsimp only | split)

theorem execDlCompareTimeout_memo {s0 : State} (p : PartId) (s : State) (hk : Memo s0 s) : MemoO s0 (execDlCompareTimeout p s) := by
  unfold execDlCompareTimeout
  repeat (first | with_reducible assumption | with_reducible apply MemoO.next | with_reducible apply MemoO.ite | with_reducible apply dualMismatch_memo | intro _ | with_reducible apply Memo.ite | simp only [Memo.upd] | dsimp only | split)

theorem execDlPairLinkDown_memo {s0 : State} (s : State) (hk : Memo s0 s) : MemoO s0 (execDlPairLinkDown s) := by
  unfold execDlPairLinkDown
  repeat (first | with_reducible assumption | with_reducible apply MemoO.next | with_reducible apply MemoO.ite | with_reducible apply dualLinkDown_memo | intro _ | with_reducible apply Memo.ite | simp only [Memo.upd] | dsimp only | split)

theorem updCore_memo {s0 : State} (c : ClusterId) (i : Fin 8) (f : CoreSt → CoreSt) (s : State) (hk : Memo s0 s) : Memo s0 (updCore c i f s) := by
  unfold updCore
  repeat (first | with_reducible assumption | with_reducible apply updCluster_memo | intro _ | with_reducible apply Memo.ite | simp only [Memo.upd] | dsimp only | split)

theorem spaceMark_memo {s0 : State} (p : PartId) (space off n : Nat) (s : State) (hk : Memo s0 s) : Memo s0 (spaceMark p space off n s) := by
  unfold spaceMark
  repeat (first | with_reducible assumption | with_reducible apply cntPart_memo | with_reducible apply updPart_memo | intro _ | with_reducible apply Memo.ite | simp only [Memo.upd] | dsimp only | split)

theorem updSlot_memo {s0 : State} (p : PartId) (i : Nat) (f : Slot → Slot) (s : State) (hk : Memo s0 s) : Memo s0 (updSlot p i f s) := by
  unfold updSlot
  repeat (first | with_reducible assumption | with_reducible apply updPart_memo | intro _ | with_reducible apply Memo.ite | simp only [Memo.upd] | dsimp only | split)

theorem sycSetAt_memo {s0 : State} (p : PartId) (i v : Nat) (s : State) (hk : Memo s0 s) : Memo s0 (sycSetAt p i v s) := by
  unfold sycSetAt
  repeat (first | with_reducible assumption | intro _ | with_reducible apply Memo.ite | simp only [Memo.upd] | dsimp only | split)

theorem nondet_memo {s0 : State} (p : PartId) (s : State) (hk : Memo s0 s) : Memo s0 (nondet p s) := by
  unfold nondet
  repeat (first | with_reducible assumption | with_reducible apply cntPart64_memo | with_reducible apply updJob_memo | intro _ | with_reducible apply Memo.ite | simp only [Memo.upd] | dsimp only | split)

theorem outside_memo {s0 : State} (p : PartId) (bit : Nat) (s : State) (hk : Memo s0 s) : Memo s0 (outside p bit s) := by
  unfold outside
  repeat (first | with_reducible assumption | with_reducible apply updJob_memo | intro _ | with_reducible apply Memo.ite | simp only [Memo.upd] | dsimp only | split)

theorem noteResolved_memo {s0 : State} (p : PartId) (td : Bytes) (pos : Nat) (r : Bytes) (s : State) (hk : Memo s0 s) : Memo s0 (noteResolved p td pos r s) := by
  unfold noteResolved
  repeat (first | with_reducible assumption | with_reducible apply updPart_memo | intro _ | with_reducible apply Memo.ite | simp only [Memo.upd] | dsimp only | split)

theorem roundSlot_memo {s0 : State} (p : PartId) (i : Nat) (s : State) (hk : Memo s0 s) : Memo s0 (roundSlot p i s) := by
  unfold roundSlot
  repeat (first | with_reducible assumption | with_reducible apply updSlot_memo | with_reducible apply cntPart_memo | intro _ | with_reducible apply Memo.ite | simp only [Memo.upd] | dsimp only | split)

theorem contribute_memo {s0 : State} (p : PartId) (tag partEpoch slotGen : Nat) (y : Option (List Nat)) (poison home : Bool) (s : State) (hk : Memo s0 s) : Memo s0 (contribute p tag partEpoch slotGen y poison home s) := by
  unfold contribute
  repeat (first | with_reducible assumption | with_reducible apply cntPart_memo | with_reducible apply updSlot_memo | with_reducible apply cntPart64_memo | with_reducible apply nondet_memo | with_reducible apply setRegPart_memo | with_reducible apply updConj_memo | with_reducible apply roundSlot_memo | with_reducible apply Memo.foldl | intro _ | with_reducible apply Memo.ite | with_reducible apply Memo.iteSnd | with_reducible apply Memo.iteFst | simp only [Memo.upd] | dsimp only | split)

theorem returnCredit_memo {s0 : State} (l : LinkId) (vc : Nat) (b : Bytes) (s : State) (hk : Memo s0 s) : Memo s0 (returnCredit l vc b s) := by
  unfold returnCredit
  repeat (first | with_reducible assumption | with_reducible apply idleFlit_memo | intro _ | with_reducible apply Memo.ite | simp only [Memo.upd] | dsimp only | split)

theorem leavePool_memo {s0 : State} (src : DevId) (path : Path) (b : Bytes) (s : State) (hk : Memo s0 s) : Memo s0 (leavePool src path b s) := by
  unfold leavePool
  repeat (first | with_reducible assumption | with_reducible apply returnCredit_memo | with_reducible apply updLink_memo | with_reducible apply updPlane_memo | intro _ | with_reducible apply Memo.ite | with_reducible apply Memo.iteSnd | with_reducible apply Memo.iteFst | simp only [Memo.upd] | dsimp only | split)

theorem updRows_memo {s0 : State} (p : PartId) (f : List RowRec → List RowRec) (s : State) (hk : Memo s0 s) : Memo s0 (updRows p f s) := by
  unfold updRows
  repeat (first | with_reducible assumption | with_reducible apply updPart_memo | intro _ | with_reducible apply Memo.ite | simp only [Memo.upd] | dsimp only | split)

theorem updRow_memo {s0 : State} (p : PartId) (tag : Nat) (f : RowRec → RowRec) (s : State) (hk : Memo s0 s) : Memo s0 (updRow p tag f s) := by
  unfold updRow
  repeat (first | with_reducible assumption | with_reducible apply updRows_memo | intro _ | with_reducible apply Memo.ite | simp only [Memo.upd] | dsimp only | split)

theorem dropRow_memo {s0 : State} (p : PartId) (tag : Nat) (s : State) (hk : Memo s0 s) : Memo s0 (dropRow p tag s) := by
  unfold dropRow
  repeat (first | with_reducible assumption | with_reducible apply updRows_memo | with_reducible apply eachOf_memo | with_reducible apply leavePool_memo | intro _ | with_reducible apply Memo.ite | simp only [Memo.upd] | dsimp only | split)

theorem updStep_memo {s0 : State} (p : PartId) (r : RowRec) (f : Conj → Conj) (s : State) (hk : Memo s0 s) : Memo s0 (updStep p r f s) := by
  unfold updStep
  repeat (first | with_reducible assumption | with_reducible apply updPart_memo | intro _ | with_reducible apply Memo.ite | simp only [Memo.upd] | dsimp only | split)

theorem noteOverflow_memo {s0 : State} (p : PartId) (r : RowRec) (s : State) (hk : Memo s0 s) : Memo s0 (noteOverflow p r s) := by
  unfold noteOverflow
  repeat (first | with_reducible assumption | with_reducible apply cntPart_memo | with_reducible apply record_memo | with_reducible apply updStep_memo | intro _ | with_reducible apply Memo.ite | simp only [Memo.upd] | dsimp only | split)

theorem ballastMark_memo {s0 : State} (p : PartId) (s : State) (hk : Memo s0 s) : Memo s0 (ballastMark p s) := by
  unfold ballastMark
  repeat (first | with_reducible assumption | with_reducible apply setRegPart_memo | intro _ | with_reducible apply Memo.ite | simp only [Memo.upd] | dsimp only | split)

theorem storeWaiting_memo {s0 : State} (p : PartId) : ∀ (x0 : Nat) (s : State), Memo s0 s → Memo s0 (storeWaiting p x0 s)
  | 0, s, h => by
    unfold storeWaiting
    repeat (first | with_reducible assumption | with_reducible apply updRow_memo | with_reducible apply leavePool_memo | with_reducible apply charge_memo | with_reducible apply ballastMark_memo | intro _ | with_reducible apply Memo.ite | simp only [Memo.upd] | dsimp only | split)
  | n + 1, s, h => by
    unfold storeWaiting
    repeat (first | with_reducible assumption | with_reducible apply storeWaiting_memo | with_reducible apply updRow_memo | with_reducible apply leavePool_memo | with_reducible apply charge_memo | with_reducible apply ballastMark_memo | intro _ | with_reducible apply Memo.ite | simp only [Memo.upd] | dsimp only | split)

theorem noteStalls_memo {s0 : State} (p : PartId) (s : State) (hk : Memo s0 s) : Memo s0 (noteStalls p s) := by
  unfold noteStalls
  repeat (first | with_reducible assumption | with_reducible apply cntPart_memo | with_reducible apply updRows_memo | intro _ | with_reducible apply Memo.ite | simp only [Memo.upd] | dsimp only | split)

theorem settleRows_memo {s0 : State} (p : PartId) (s : State) (hk : Memo s0 s) : Memo s0 (settleRows p s) := by
  unfold settleRows
  repeat (first | with_reducible assumption | with_reducible apply noteStalls_memo | with_reducible apply storeWaiting_memo | intro _ | with_reducible apply Memo.ite | simp only [Memo.upd] | dsimp only | split)

theorem holdFault_memo {s0 : State} (p : PartId) (tags : List Nat) (e : ErrRec) (s : State) (hk : Memo s0 s) : Memo s0 (holdFault p tags e s) := by
  unfold holdFault
  repeat (first | with_reducible assumption | with_reducible apply updRows_memo | intro _ | with_reducible apply Memo.ite | simp only [Memo.upd] | dsimp only | split)

theorem returnResult_memo {s0 : State} (p : PartId) (r : RowRec) (tag weight : Nat) (d : List Nat) (poison : Bool) (s : State) (hk : Memo s0 s) : Memo s0 (returnResult p r tag weight d poison s) := by
  unfold returnResult
  repeat (first | with_reducible assumption | with_reducible apply contribute_memo | with_reducible apply cntPart64_memo | with_reducible apply sendPacket_memo | intro _ | with_reducible apply Memo.ite | simp only [Memo.upd] | dsimp only | split)

theorem suppressFault_memo {s0 : State} (p : PartId) (r : RowRec) (s : State) (hk : Memo s0 s) : Memo s0 (suppressFault p r s) := by
  unfold suppressFault
  repeat (first | with_reducible assumption | with_reducible apply eachOf_memo | with_reducible apply suppress_memo | intro _ | with_reducible apply Memo.ite | with_reducible apply Memo.iteSnd | with_reducible apply Memo.iteFst | simp only [Memo.upd] | dsimp only | split)

theorem confirmFault_memo {s0 : State} (p : PartId) (r : RowRec) (s : State) (hk : Memo s0 s) : Memo s0 (confirmFault p r s) := by
  unfold confirmFault
  repeat (first | with_reducible assumption | with_reducible apply eachOf_memo | with_reducible apply updRows_memo | with_reducible apply record_memo | with_reducible apply cntPart_memo | intro _ | with_reducible apply Memo.ite | with_reducible apply Memo.iteSnd | with_reducible apply Memo.iteFst | simp only [Memo.upd] | dsimp only | split)

theorem uncount_memo {s0 : State} (p : PartId) (r : RowRec) (s : State) (hk : Memo s0 s) : Memo s0 (uncount p r s) := by
  unfold uncount
  repeat (first | with_reducible assumption | with_reducible apply updStep_memo | intro _ | with_reducible apply Memo.ite | simp only [Memo.upd] | dsimp only | split)

theorem orphanRow_memo {s0 : State} (p : PartId) (r : RowRec) (s : State) (hk : Memo s0 s) : Memo s0 (orphanRow p r s) := by
  unfold orphanRow
  repeat (first | with_reducible assumption | with_reducible apply cntPart_memo | with_reducible apply suppressFault_memo | with_reducible apply uncount_memo | with_reducible apply dropRow_memo | intro _ | with_reducible apply Memo.ite | simp only [Memo.upd] | dsimp only | split)

theorem freeRowsOf_memo {s0 : State} (d : DevId) (p : PartId) (s : State) (hk : Memo s0 s) : Memo s0 (freeRowsOf d p s) := by
  unfold freeRowsOf
  repeat (first | with_reducible assumption | with_reducible apply updPart_memo | with_reducible apply eachOf_memo | with_reducible apply orphanRow_memo | with_reducible apply dropRow_memo | intro _ | with_reducible apply Memo.ite | simp only [Memo.upd] | dsimp only | split)

end Sys2Proof.Laws
end

