-- ==== Sys2Proof/Laws/Hbm2.lean ====
section
/-!
SUPPORT. Hbm2.lean: what leaves HBM alone, one lemma per operation, in the order of the definitions (2 of 4).
Memo s t: every byte of HBM is that of s.
-/
set_option linter.all false
namespace Sys2Proof.Laws
open Sys2Proof Sys2Proof.Machine Sys2Proof.Safety

theorem releaseRow_memo {s0 : State} (p : PartId) (r : RowRec) (rank weight : Nat) (s : State) (hk : Memo s0 s) : Memo s0 (releaseRow p r rank weight s) := by
  unfold releaseRow
  repeat (first | with_reducible assumption | with_reducible apply cntPart_memo | with_reducible apply returnResult_memo | with_reducible apply dropRow_memo | intro _ | with_reducible apply Memo.ite | simp only [Memo.upd] | dsimp only | split)

theorem withdrawSpecs_memo {s0 : State} (p : PartId) (s : State) (hk : Memo s0 s) : Memo s0 (withdrawSpecs p s) := by
  unfold withdrawSpecs
  repeat (first | with_reducible assumption | with_reducible apply eachOf_memo | with_reducible apply cntPart64_memo | with_reducible apply cntPart_memo | with_reducible apply withdrawRow_memo | intro _ | with_reducible apply Memo.ite | simp only [Memo.upd] | dsimp only | split)

theorem noteUnadmitted_memo {s0 : State} (p : PartId) (c : Conj) (x : Clause) (admitted : Option Bool) (s : State) (hk : Memo s0 s) : Memo s0 (noteUnadmitted p c x admitted s) := by
  unfold noteUnadmitted
  repeat (first | with_reducible assumption | with_reducible apply nondet_memo | with_reducible refine takeFree_memo (by with_reducible assumption) ?_ | with_reducible apply takeFree_snd_memo | intro _ | with_reducible apply Memo.ite | with_reducible apply Memo.iteSnd | with_reducible apply Memo.iteFst | simp only [Memo.upd] | dsimp only | split)

theorem dropHeld_memo {s0 : State} (d : DevId) (p : PartId) (gone : HeldPkt → Bool) (s : State) (hk : Memo s0 s) : Memo s0 (dropHeld d p gone s) := by
  unfold dropHeld
  repeat (first | with_reducible assumption | with_reducible apply updFlow_memo | with_reducible apply eachOf_memo | with_reducible apply leavePool_memo | intro _ | with_reducible apply Memo.ite | simp only [Memo.upd] | dsimp only | split)

theorem dropForwarded_memo {s0 : State} (d : DevId) (s : State) (hk : Memo s0 s) : Memo s0 (dropForwarded d s) := by
  unfold dropForwarded
  repeat (first | with_reducible assumption | intro _ | with_reducible apply Memo.ite | simp only [Memo.upd] | dsimp only | split)

theorem markReachable_memo {s0 : State} (d : DevId) (s : State) (hk : Memo s0 s) : Memo s0 (markReachable d s) := by
  unfold markReachable
  repeat (first | with_reducible assumption | with_reducible apply drainOut_memo | with_reducible apply cntDev_memo | with_reducible apply updPeer_memo | intro _ | with_reducible apply Memo.ite | simp only [Memo.upd] | dsimp only | split)

theorem showEpoch_memo {s0 : State} (d : DevId) (e : Nat) (s : State) (hk : Memo s0 s) : Memo s0 (showEpoch d e s) := by
  unfold showEpoch
  repeat (first | with_reducible assumption | with_reducible apply updPeer_memo | with_reducible apply markReachable_memo | intro _ | with_reducible apply Memo.ite | simp only [Memo.upd] | dsimp only | split)

theorem relayReach_memo {s0 : State} (before : State) (s : State) (hk : Memo s0 s) : Memo s0 (relayReach before s) := by
  unfold relayReach
  repeat (first | with_reducible assumption | with_reducible apply eachOf_memo | with_reducible apply markReachable_memo | intro _ | with_reducible apply Memo.ite | simp only [Memo.upd] | dsimp only | split)

theorem dropTraffic_memo {s0 : State} (d : DevId) (s : State) (hk : Memo s0 s) : Memo s0 (dropTraffic d s) := by
  unfold dropTraffic
  repeat (first | with_reducible assumption | intro _ | with_reducible apply Memo.ite | with_reducible apply Memo.iteSnd | with_reducible apply Memo.iteFst | simp only [Memo.upd] | dsimp only | split)

theorem learnStart_memo {s0 : State} (d : DevId) (id : Nat) (s : State) (hk : Memo s0 s) : Memo s0 (learnStart d id s) := by
  unfold learnStart
  repeat (first | with_reducible assumption | with_reducible apply updPeer_memo | with_reducible apply dropTraffic_memo | with_reducible apply eachOf_memo | with_reducible apply freeRowsOf_memo | with_reducible apply updFlow_memo | with_reducible apply dropHeld_memo | intro _ | with_reducible apply Memo.ite | simp only [Memo.upd] | dsimp only | split)

theorem seeEpoch_memo {s0 t : State} {d : DevId} {p : PartId} {e : Nat} {s : State} (e : seeEpoch d p e s = some t) (hk : Memo s0 s) : Memo s0 t := by
  unfold seeEpoch at e
  (try dsimp only at e)
  repeat' split at e
  all_goals (try cases e)
  all_goals repeat (first | with_reducible assumption | with_reducible apply updFlow_memo | with_reducible apply freeRowsOf_memo | with_reducible apply dropHeld_memo | intro _ | with_reducible apply Memo.ite | simp only [Memo.upd] | dsimp only | split)

theorem sendPair_memo {s0 : State} (h : PairHead) (payload : Bytes) (s : State) (hk : Memo s0 s) : Memo s0 (sendPair h payload s) := by
  unfold sendPair
  repeat (first | with_reducible assumption | with_reducible apply emit_memo | with_reducible apply sendPairLink_memo | intro _ | with_reducible apply Memo.ite | simp only [Memo.upd] | dsimp only | split)

theorem pairHello_memo {s0 : State} (s : State) (hk : Memo s0 s) : Memo s0 (pairHello s) := by
  unfold pairHello
  repeat (first | with_reducible assumption | with_reducible apply sendPair_memo | intro _ | with_reducible apply Memo.ite | simp only [Memo.upd] | dsimp only | split)

theorem pairActive_memo {s0 : State} (s : State) (hk : Memo s0 s) : Memo s0 (pairActive s) := by
  unfold pairActive
  repeat (first | with_reducible assumption | with_reducible apply pairHello_memo | intro _ | with_reducible apply Memo.ite | simp only [Memo.upd] | dsimp only | split)

theorem mirrorDesc_memo {s0 : State} (p : PartId) (st : StreamId) (idx : Nat) (d : Bytes) (s : State) (hk : Memo s0 s) : Memo s0 (mirrorDesc p st idx d s) := by
  unfold mirrorDesc
  repeat (first | with_reducible assumption | with_reducible apply sendPair_memo | intro _ | with_reducible apply Memo.ite | simp only [Memo.upd] | dsimp only | split)

theorem modelsSection_memo {s0 t : State} {v : Bytes} {s : State} {p : PartId} (e : modelsSection s p = (v, t)) (hk : Memo s0 s) : Memo s0 t := by
  unfold modelsSection at e
  (try dsimp only at e)
  repeat' split at e
  all_goals (try cases e)
  all_goals repeat (first | with_reducible assumption | with_reducible refine takeFree_memo (by with_reducible assumption) ?_ | with_reducible apply takeFree_snd_memo | intro _ | with_reducible apply Memo.ite | with_reducible apply Memo.iteSnd | with_reducible apply Memo.iteFst | simp only [Memo.upd] | dsimp only | split)

theorem modelsSection_snd_memo {s0 : State} (s : State) (p : PartId) (hk : Memo s0 s) : Memo s0 (modelsSection s p).2 :=
  modelsSection_memo (Prod.eta _).symm hk

theorem captureBoundary_memo {s0 : State} (p : PartId) (s : State) (hk : Memo s0 s) : Memo s0 (captureBoundary p s) := by
  unfold captureBoundary
  repeat (first | with_reducible assumption | with_reducible refine modelsSection_memo (by with_reducible assumption) ?_ | with_reducible apply modelsSection_snd_memo | with_reducible apply updPart_memo | intro _ | with_reducible apply Memo.ite | with_reducible apply Memo.iteSnd | with_reducible apply Memo.iteFst | simp only [Memo.upd] | dsimp only | split)

theorem sendSnap_memo {s0 : State} (p : PartId) (epoch : Nat) : ∀ (x0 : Nat) (x1 : Nat) (x2 : Bytes) (s : State), Memo s0 s → Memo s0 (sendSnap p epoch x0 x1 x2 s)
  | 0, _x1, _x2, s, h => by
    unfold sendSnap
    repeat (first | with_reducible assumption | with_reducible apply sendPair_memo | intro _ | with_reducible apply Memo.ite | simp only [Memo.upd] | dsimp only | split)
  | fuel + 1, off, b, s, h => by
    unfold sendSnap
    repeat (first | with_reducible assumption | with_reducible apply sendSnap_memo | with_reducible apply sendPair_memo | intro _ | with_reducible apply Memo.ite | simp only [Memo.upd] | dsimp only | split)

theorem freeSlots_memo {s0 : State} (p : PartId) (first count : Nat) (s : State) (hk : Memo s0 s) : Memo s0 (freeSlots p first count s) := by
  unfold freeSlots
  repeat (first | with_reducible assumption | with_reducible apply updPart_memo | intro _ | with_reducible apply Memo.ite | with_reducible apply Memo.iteSnd | with_reducible apply Memo.iteFst | simp only [Memo.upd] | dsimp only | split)

theorem issueRecord_memo {s0 : State} (p : PartId) (addr : Nat) (record : Bytes) (first count : Nat) (s : State) (hk : Memo s0 s) : Memo s0 (issueRecord p addr record first count s) := by
  unfold issueRecord
  repeat (first | with_reducible assumption | with_reducible apply wakeEvent_memo | with_reducible apply dmaPush_memo | with_reducible apply record_memo | with_reducible apply freeSlots_memo | with_reducible apply updPart_memo | intro _ | with_reducible apply Memo.ite | simp only [Memo.upd] | dsimp only | split)

theorem issueStaged_memo {s0 : State} (p : PartId) (x : Staged) (s : State) (hk : Memo s0 s) : Memo s0 (issueStaged p x s) := by
  unfold issueStaged
  repeat (first | with_reducible assumption | with_reducible apply updPart_memo | with_reducible apply issueRecord_memo | with_reducible apply msixPart_memo | intro _ | with_reducible apply Memo.ite | simp only [Memo.upd] | dsimp only | split)

theorem issueWhile_memo {s0 : State} (p : PartId) (ok : Staged → Bool) (s : State) (hk : Memo s0 s) : Memo s0 (issueWhile p ok s) := by
  unfold issueWhile
  repeat (first | with_reducible assumption | with_reducible apply eachOf_memo | with_reducible apply issueStaged_memo | intro _ | with_reducible apply Memo.ite | simp only [Memo.upd] | dsimp only | split)

theorem settleReleased_memo {s0 : State} (p : PartId) (s : State) (hk : Memo s0 s) : Memo s0 (settleReleased p s) := by
  unfold settleReleased
  repeat (first | with_reducible assumption | with_reducible apply updPart_memo | intro _ | with_reducible apply Memo.ite | simp only [Memo.upd] | dsimp only | split)

theorem uncover_memo {s0 : State} (p : PartId) (s : State) (hk : Memo s0 s) : Memo s0 (uncover p s) := by
  unfold uncover
  repeat (first | with_reducible assumption | with_reducible apply updPart_memo | with_reducible apply settleReleased_memo | with_reducible apply issueWhile_memo | intro _ | with_reducible apply Memo.ite | simp only [Memo.upd] | dsimp only | split)

theorem sendSnapshot_memo {s0 : State} (p : PartId) (kind : Nat) (s : State) (hk : Memo s0 s) : Memo s0 (sendSnapshot p kind s) := by
  unfold sendSnapshot
  repeat (first | with_reducible assumption | with_reducible apply updPart_memo | with_reducible apply captureBoundary_memo | with_reducible apply uncover_memo | with_reducible apply sendSnap_memo | intro _ | with_reducible apply Memo.ite | simp only [Memo.upd] | dsimp only | split)

theorem jobEndSnapshot_memo {s0 : State} (p : PartId) (s : State) (hk : Memo s0 s) : Memo s0 (jobEndSnapshot p s) := by
  unfold jobEndSnapshot
  repeat (first | with_reducible assumption | with_reducible apply sendSnapshot_memo | with_reducible apply captureBoundary_memo | intro _ | with_reducible apply Memo.ite | simp only [Memo.upd] | dsimp only | split)

theorem markGranule_memo {s0 : State} (g : Nat) (s : State) (hk : Memo s0 s) : Memo s0 (markGranule g s) := by
  unfold markGranule
  repeat (first | with_reducible assumption | with_reducible apply cntPart_memo | intro _ | with_reducible apply Memo.ite | simp only [Memo.upd] | dsimp only | split)

theorem updExec_memo {s0 : State} (p : PartId) (st : StreamId) (f : Exec → Exec) (s : State) (hk : Memo s0 s) : Memo s0 (updExec p st f s) := by
  unfold updExec
  repeat (first | with_reducible assumption | with_reducible apply updStream_memo | intro _ | with_reducible apply Memo.ite | simp only [Memo.upd] | dsimp only | split)

theorem noteOnce_memo {s0 : State} (p : PartId) (st : StreamId) (r : ErrRec) (s : State) (hk : Memo s0 s) : Memo s0 (noteOnce p st r s) := by
  unfold noteOnce
  repeat (first | with_reducible assumption | with_reducible apply record_memo | with_reducible apply updExec_memo | intro _ | with_reducible apply Memo.ite | simp only [Memo.upd] | dsimp only | split)

theorem onCore_memo {s0 : State} (c : CoreId) (f : CoreSt → CoreSt) (s : State) (hk : Memo s0 s) : Memo s0 (onCore c f s) := by
  unfold onCore
  repeat (first | with_reducible assumption | with_reducible apply updCore_memo | intro _ | with_reducible apply Memo.ite | with_reducible apply Memo.iteSnd | with_reducible apply Memo.iteFst | simp only [Memo.upd] | dsimp only | split)

theorem flagItem_memo {s0 : State} (p : PartId) (e : EccFind) (s : State) (hk : Memo s0 s) : Memo s0 (flagItem p e s) := by
  unfold flagItem
  repeat (first | with_reducible assumption | with_reducible apply onCore_memo | with_reducible apply updPart_memo | with_reducible apply updRow_memo | with_reducible apply markGranule_memo | with_reducible apply updSlot_memo | intro _ | with_reducible apply Memo.ite | simp only [Memo.upd] | dsimp only | split)

theorem itemFind_memo {s0 : State} (p : PartId) (st : StreamId) (tag : Nat) (tags : List Nat) (e : EccFind) (s : State) (hk : Memo s0 s) : Memo s0 (itemFind p st tag tags e s) := by
  unfold itemFind
  repeat (first | with_reducible assumption | with_reducible apply noteOnce_memo | with_reducible apply flagItem_memo | with_reducible apply holdFault_memo | intro _ | with_reducible apply Memo.ite | simp only [Memo.upd] | dsimp only | split)

theorem meetHbm_memo {s0 : State} (p : PartId) (tag off n : Nat) (s : State) (hk : Memo s0 s) : Memo s0 (meetHbm p tag off n s) := by
  unfold meetHbm
  repeat (first | with_reducible assumption | with_reducible apply eachOf_memo | with_reducible apply markGranule_memo | with_reducible apply record_memo | with_reducible apply cntPart_memo | intro _ | with_reducible apply Memo.ite | simp only [Memo.upd] | dsimp only | split)

theorem settleMerge_memo {s0 : State} (p : PartId) (st : StreamId) (tag : Nat) (s : State) (hk : Memo s0 s) : Memo s0 (settleMerge p st tag s) := by
  unfold settleMerge
  repeat (first | with_reducible assumption | with_reducible apply eachOf_memo | with_reducible apply noteOnce_memo | with_reducible apply markGranule_memo | with_reducible apply record_memo | with_reducible apply cntPart_memo | intro _ | with_reducible apply Memo.ite | with_reducible apply Memo.iteSnd | with_reducible apply Memo.iteFst | simp only [Memo.upd] | dsimp only | split)

theorem startMeets_memo {s0 : State} (p : PartId) (st : StreamId) (tag : Nat) (s : State) (hk : Memo s0 s) : Memo s0 (startMeets p st tag s) := by
  unfold startMeets
  repeat (first | with_reducible assumption | with_reducible refine Memo.sramFold ?_ ?_ _ _ | with_reducible apply Memo.sramFilter | with_reducible apply Memo.foldl | intro _ | with_reducible apply Memo.ite | with_reducible apply Memo.iteSnd | with_reducible apply Memo.iteFst | simp only [Memo.upd] | dsimp only | split)

theorem cmdFail_memo {s0 : State} (p : PartId) (st : StreamId) (d : Bytes) (e : CmdErr) (s : State) (hk : Memo s0 s) : Memo s0 (cmdFail p st d e s) := by
  unfold cmdFail
  repeat (first | with_reducible assumption | with_reducible apply settleMerge_memo | with_reducible apply meetHbm_memo | with_reducible apply dropHead_memo | with_reducible apply traceCmd_memo | with_reducible apply haltQueues_memo | with_reducible apply record_memo | with_reducible apply fetchNow_memo | with_reducible apply jobFault_memo | intro _ | with_reducible apply Memo.ite | simp only [Memo.upd] | dsimp only | split)

theorem discardDesc_memo {s0 : State} (p : PartId) (s : State) (hk : Memo s0 s) : Memo s0 (discardDesc p s) := by
  unfold discardDesc
  repeat (first | with_reducible assumption | with_reducible apply cntPart_memo | intro _ | with_reducible apply Memo.ite | simp only [Memo.upd] | dsimp only | split)

theorem queOverrun_memo {s0 : State} (p : PartId) (st : StreamId) (s : State) (hk : Memo s0 s) : Memo s0 (queOverrun p st s) := by
  unfold queOverrun
  repeat (first | with_reducible assumption | with_reducible apply updStream_memo | with_reducible apply fetchNow_memo | with_reducible apply jobFault_memo | with_reducible apply cntPart_memo | intro _ | with_reducible apply Memo.ite | simp only [Memo.upd] | dsimp only | split)

theorem enterDesc_memo {s0 : State} (p : PartId) (st : StreamId) (d : Bytes) (s : State) (hk : Memo s0 s) : Memo s0 (enterDesc p st d s) := by
  unfold enterDesc
  repeat (first | with_reducible assumption | with_reducible apply discardDesc_memo | with_reducible apply queOverrun_memo | with_reducible apply quietExit_memo | with_reducible apply mirrorDesc_memo | with_reducible apply updStream_memo | intro _ | with_reducible apply Memo.ite | simp only [Memo.upd] | dsimp only | split)

theorem takeCmd_memo {s0 t : State} {v : Option Bytes} {p : PartId} {st : StreamId} {op : Nat} {s : State} (e : takeCmd p st op s = (v, t)) (hk : Memo s0 s) : Memo s0 t := by
  unfold takeCmd at e
  (try dsimp only at e)
  repeat' split at e
  all_goals (try cases e)
  all_goals repeat (first | with_reducible assumption | with_reducible apply charge_memo | with_reducible apply updStream_memo | with_reducible apply hbmHold_memo | with_reducible apply hbmGo_memo | with_reducible apply startMeets_memo | with_reducible apply traceCmd_memo | with_reducible apply cmdFail_memo | intro _ | with_reducible apply Memo.ite | simp only [Memo.upd] | dsimp only | split)

theorem takeCmd_snd_memo {s0 : State} (p : PartId) (st : StreamId) (op : Nat) (s : State) (hk : Memo s0 s) : Memo s0 (takeCmd p st op s).2 :=
  takeCmd_memo (Prod.eta _).symm hk

theorem cmdDone_memo {s0 : State} (p : PartId) (st : StreamId) (s : State) (hk : Memo s0 s) : Memo s0 (cmdDone p st s) := by
  unfold cmdDone
  repeat (first | with_reducible assumption | with_reducible apply updExec_memo | intro _ | with_reducible apply Memo.ite | simp only [Memo.upd] | dsimp only | split)

theorem runCmd_memo {s0 : State} (p : PartId) (st : StreamId) (op : Nat) (body : Bytes → State → State) (s : State) (hbody : ∀ x0 x1, Memo s0 x1 → Memo s0 (body x0 x1)) (hk : Memo s0 s) : MemoO s0 (runCmd p st op body s) := by
  unfold runCmd
  repeat (first | with_reducible apply hbody | with_reducible assumption | with_reducible apply MemoO.next | with_reducible apply MemoO.ite | with_reducible refine takeCmd_memo (by with_reducible assumption) ?_ | with_reducible apply takeCmd_snd_memo | intro _ | with_reducible apply Memo.ite | with_reducible apply Memo.iteSnd | with_reducible apply Memo.iteFst | simp only [Memo.upd] | dsimp only | split)

theorem sycAdd_memo {s0 : State} (p : PartId) (idx v source tag : Nat) (s : State) (hk : Memo s0 s) : Memo s0 (sycAdd p idx v source tag s) := by
  unfold sycAdd
  repeat (first | with_reducible assumption | with_reducible apply jobFault_memo | with_reducible apply sycSetAt_memo | intro _ | with_reducible apply Memo.ite | simp only [Memo.upd] | dsimp only | split)

theorem applySignal_memo {s0 : State} (p : PartId) (st : StreamId) (d : Bytes) (s : State) (hk : Memo s0 s) : Memo s0 (applySignal p st d s) := by
  unfold applySignal
  repeat (first | with_reducible assumption | with_reducible apply sycAdd_memo | with_reducible apply sycSetAt_memo | intro _ | with_reducible apply Memo.ite | simp only [Memo.upd] | dsimp only | split)

theorem dropClusters_memo {s0 : State} (p : PartId) (s : State) (hk : Memo s0 s) : Memo s0 (dropClusters p s) := by
  unfold dropClusters
  repeat (first | with_reducible assumption | with_reducible apply updJob_memo | intro _ | with_reducible apply Memo.ite | simp only [Memo.upd] | dsimp only | split)

theorem execJobBegin_memo {s0 : State} (p : PartId) (st : StreamId) (s : State) (hk : Memo s0 s) : MemoO s0 (execJobBegin p st s) := by
  unfold execJobBegin
  repeat (first | with_reducible assumption | with_reducible apply MemoO.next | with_reducible apply MemoO.ite | with_reducible apply runCmd_memo | with_reducible apply cmdFail_memo | with_reducible apply cmdDone_memo | intro _ | with_reducible apply Memo.ite | simp only [Memo.upd] | dsimp only | split)

theorem execJobEnd_memo {s0 : State} (p : PartId) (st : StreamId) (s : State) (hk : Memo s0 s) : MemoO s0 (execJobEnd p st s) := by
  unfold execJobEnd
  repeat (first | with_reducible assumption | with_reducible apply MemoO.next | with_reducible apply MemoO.ite | with_reducible apply runCmd_memo | with_reducible apply cmdDone_memo | intro _ | with_reducible apply Memo.ite | simp only [Memo.upd] | dsimp only | split)

theorem execNop_memo {s0 : State} (p : PartId) (st : StreamId) (s : State) (hk : Memo s0 s) : MemoO s0 (execNop p st s) := by
  unfold execNop
  repeat (first | with_reducible assumption | with_reducible apply MemoO.next | with_reducible apply MemoO.ite | with_reducible apply runCmd_memo | with_reducible apply cmdDone_memo | intro _ | with_reducible apply Memo.ite | simp only [Memo.upd] | dsimp only | split)

theorem execCtSet_memo {s0 : State} (p : PartId) (st : StreamId) (s : State) (hk : Memo s0 s) : MemoO s0 (execCtSet p st s) := by
  unfold execCtSet
  repeat (first | with_reducible assumption | with_reducible apply MemoO.next | with_reducible apply MemoO.ite | with_reducible apply runCmd_memo | with_reducible apply cmdDone_memo | with_reducible apply updStream_memo | intro _ | with_reducible apply Memo.ite | simp only [Memo.upd] | dsimp only | split)

theorem execCtAdd_memo {s0 : State} (p : PartId) (st : StreamId) (s : State) (hk : Memo s0 s) : MemoO s0 (execCtAdd p st s) := by
  unfold execCtAdd
  repeat (first | with_reducible assumption | with_reducible apply MemoO.next | with_reducible apply MemoO.ite | with_reducible apply runCmd_memo | with_reducible apply cmdDone_memo | with_reducible apply updStream_memo | intro _ | with_reducible apply Memo.ite | simp only [Memo.upd] | dsimp only | split)

theorem execCmpSkip_memo {s0 : State} (p : PartId) (st : StreamId) (s : State) (hk : Memo s0 s) : MemoO s0 (execCmpSkip p st s) := by
  unfold execCmpSkip
  repeat (first | with_reducible assumption | with_reducible apply MemoO.next | with_reducible apply MemoO.ite | with_reducible apply runCmd_memo | with_reducible apply cmdDone_memo | with_reducible apply updExec_memo | intro _ | with_reducible apply Memo.ite | simp only [Memo.upd] | dsimp only | split)

theorem execCmpBranch_memo {s0 : State} (p : PartId) (st : StreamId) (s : State) (hk : Memo s0 s) : MemoO s0 (execCmpBranch p st s) := by
  unfold execCmpBranch
  repeat (first | with_reducible assumption | with_reducible apply MemoO.next | with_reducible apply MemoO.ite | with_reducible apply runCmd_memo | with_reducible apply cmdDone_memo | with_reducible apply updExec_memo | intro _ | with_reducible apply Memo.ite | simp only [Memo.upd] | dsimp only | split)

theorem execSycWait_memo {s0 : State} (p : PartId) (st : StreamId) (s : State) (hk : Memo s0 s) : MemoO s0 (execSycWait p st s) := by
  unfold execSycWait
  repeat (first | with_reducible assumption | with_reducible apply MemoO.next | with_reducible apply MemoO.ite | with_reducible apply runCmd_memo | with_reducible apply cmdDone_memo | intro _ | with_reducible apply Memo.ite | simp only [Memo.upd] | dsimp only | split)

theorem tdPut_memo {s0 : State} (p : PartId) (i : Nat) (t : Bytes) (s : State) (hk : Memo s0 s) : Memo s0 (tdPut p i t s) := by
  unfold tdPut
  repeat (first | with_reducible assumption | with_reducible apply updPart_memo | intro _ | with_reducible apply Memo.ite | simp only [Memo.upd] | dsimp only | split)

theorem execTdSet_memo {s0 : State} (p : PartId) (st : StreamId) (s : State) (hk : Memo s0 s) : MemoO s0 (execTdSet p st s) := by
  unfold execTdSet
  repeat (first | with_reducible assumption | with_reducible apply MemoO.next | with_reducible apply MemoO.ite | with_reducible apply runCmd_memo | with_reducible apply cmdFail_memo | with_reducible apply cmdDone_memo | with_reducible apply tdPut_memo | intro _ | with_reducible apply Memo.ite | with_reducible apply Memo.iteSnd | with_reducible apply Memo.iteFst | simp only [Memo.upd] | dsimp only | split)

theorem execPrgRun_memo {s0 : State} (p : PartId) (st : StreamId) (s : State) (hk : Memo s0 s) : MemoO s0 (execPrgRun p st s) := by
  unfold execPrgRun
  repeat (first | with_reducible assumption | with_reducible apply MemoO.next | with_reducible apply MemoO.ite | with_reducible apply runCmd_memo | with_reducible apply updStream_memo | intro _ | with_reducible apply Memo.ite | simp only [Memo.upd] | dsimp only | split)

theorem execPrgEnd_memo {s0 : State} (p : PartId) (st : StreamId) (s : State) (hk : Memo s0 s) : MemoO s0 (execPrgEnd p st s) := by
  unfold execPrgEnd
  repeat (first | with_reducible assumption | with_reducible apply MemoO.next | with_reducible apply MemoO.ite | with_reducible apply runCmd_memo | with_reducible apply cmdDone_memo | intro _ | with_reducible apply Memo.ite | simp only [Memo.upd] | dsimp only | split)

theorem waitTimeout_memo {s0 : State} (p : PartId) (st : StreamId) (s : State) (hk : Memo s0 s) : Memo s0 (waitTimeout p st s) := by
  unfold waitTimeout
  repeat (first | with_reducible assumption | with_reducible apply cmdFail_memo | intro _ | with_reducible apply Memo.ite | simp only [Memo.upd] | dsimp only | split)

theorem execTeardownComplete_memo {s0 : State} (p : PartId) (s : State) (hk : Memo s0 s) : MemoO s0 (execTeardownComplete p s) := by
  unfold execTeardownComplete
  repeat (first | with_reducible assumption | with_reducible apply MemoO.next | with_reducible apply MemoO.ite | with_reducible apply updPart_memo | with_reducible apply eachOf_memo | with_reducible apply updCluster_memo | intro _ | with_reducible apply Memo.ite | with_reducible apply Memo.iteSnd | with_reducible apply Memo.iteFst | simp only [Memo.upd] | dsimp only | split)

theorem chargeRead_memo {s0 : State} (p : PartId) (space n : Nat) (s : State) (hk : Memo s0 s) : Memo s0 (chargeRead p space n s) := by
  unfold chargeRead
  repeat (first | with_reducible assumption | with_reducible apply charge_memo | intro _ | with_reducible apply Memo.ite | simp only [Memo.upd] | dsimp only | split)

theorem noteUe_memo {s0 : State} (p : PartId) (st : StreamId) (tag space off n : Nat) (s : State) (hk : Memo s0 s) : Memo s0 (noteUe p st tag space off n s) := by
  unfold noteUe
  repeat (first | with_reducible assumption | with_reducible apply meetHbm_memo | with_reducible apply noteOnce_memo | with_reducible apply itemFind_memo | with_reducible refine Memo.sramFold ?_ ?_ _ _ | with_reducible apply Memo.sramFilter | with_reducible apply Memo.foldl | intro _ | with_reducible apply Memo.ite | with_reducible apply Memo.iteSnd | with_reducible apply Memo.iteFst | simp only [Memo.upd] | dsimp only | split)

theorem touch_memo {s0 : State} (p : PartId) (st : StreamId) (tag space off n : Nat) (s : State) (hk : Memo s0 s) : Memo s0 (touch p st tag space off n s) := by
  unfold touch
  repeat (first | with_reducible assumption | with_reducible apply noteUe_memo | with_reducible apply chargeRead_memo | intro _ | with_reducible apply Memo.ite | simp only [Memo.upd] | dsimp only | split)

theorem eachUntil_memo {s0 : State} {α : Type} (f : α → State → Except CmdErr State) (hf : ∀ x s t, f x s = .ok t → Memo s0 s → Memo s0 t) :
    ∀ (l : List α) (s : State), Memo s0 s → Memo s0 (eachUntil f l s).1
  | [], s, h => h
  | x :: l, s, h => by
    unfold eachUntil
    split
    · exact eachUntil_memo f hf l _ (hf _ _ _ (by assumption) h)
    · exact h

theorem finish_memo {s0 : State} (p : PartId) (st : StreamId) (d : Bytes) (r : State × Option CmdErr) (h : Memo s0 r.1) : Memo s0 (finish p st d r) := by
  unfold finish
  repeat (first | with_reducible assumption | with_reducible apply cmdFail_memo | with_reducible apply cmdDone_memo | intro _ | with_reducible apply Memo.ite | simp only [Memo.upd] | dsimp only | split)

theorem touchTd_memo {s0 : State} (p : PartId) (st : StreamId) (tag : Nat) (t : Bytes) (s : State) (hk : Memo s0 s) : Memo s0 (touchTd p st tag t s) := by
  unfold touchTd
  repeat (first | with_reducible assumption | with_reducible apply eachOf_memo | with_reducible apply touch_memo | intro _ | with_reducible apply Memo.ite | simp only [Memo.upd] | dsimp only | split)

theorem touchSlice_memo {s0 : State} (p : PartId) (st : StreamId) (tag : Nat) (t : Bytes) (k : Nat) (s : State) (hk : Memo s0 s) : Memo s0 (touchSlice p st tag t k s) := by
  unfold touchSlice
  repeat (first | with_reducible assumption | with_reducible apply touch_memo | with_reducible apply eachOf_memo | intro _ | with_reducible apply Memo.ite | simp only [Memo.upd] | dsimp only | split)

theorem traceStep_memo {s0 : State} (p : PartId) (bit : Nat) (kind : TraceKind) (detail : Nat) (withdrawn : Bool) (s : State) (hk : Memo s0 s) : Memo s0 (traceStep p bit kind detail withdrawn s) := by
  unfold traceStep
  repeat (first | with_reducible assumption | with_reducible apply traceGen_memo | intro _ | with_reducible apply Memo.ite | simp only [Memo.upd] | dsimp only | split)

theorem traceStage_memo {s0 : State} (p : PartId) (code : Nat) (s : State) (hk : Memo s0 s) : Memo s0 (traceStage p code s) := by
  unfold traceStage
  repeat (first | with_reducible assumption | with_reducible apply traceStep_memo | intro _ | with_reducible apply Memo.ite | simp only [Memo.upd] | dsimp only | split)

theorem traceClause_memo {s0 : State} (p : PartId) (kind : TraceKind) (tag : Nat) (s : State) (hk : Memo s0 s) : Memo s0 (traceClause p kind tag s) := by
  unfold traceClause
  repeat (first | with_reducible assumption | with_reducible apply traceStep_memo | intro _ | with_reducible apply Memo.ite | simp only [Memo.upd] | dsimp only | split)

theorem fillGate_memo {s0 : State} (p : PartId) (tag : Nat) (m : Model) (layer n : Nat) (s : State) (hk : Memo s0 s) : Memo s0 (fillGate p tag m layer n s) := by
  unfold fillGate
  repeat (first | with_reducible assumption | with_reducible apply touch_memo | with_reducible apply updPart_memo | with_reducible apply eachOf_memo | intro _ | with_reducible apply Memo.ite | with_reducible apply Memo.iteSnd | with_reducible apply Memo.iteFst | simp only [Memo.upd] | dsimp only | split)

theorem expectSlot_memo {s0 : State} (p : PartId) (slot layer n : Nat) (s : State) (hk : Memo s0 s) : Memo s0 (expectSlot p slot layer n s) := by
  unfold expectSlot
  repeat (first | with_reducible assumption | with_reducible apply updSlot_memo | intro _ | with_reducible apply Memo.ite | simp only [Memo.upd] | dsimp only | split)

theorem proposeCounts_memo {s0 : State} (p : PartId) (n : Nat) (rows : List (Nat × Bool × List Nat)) (s : State) (hk : Memo s0 s) : Memo s0 (proposeCounts p n rows s) := by
  unfold proposeCounts
  repeat (first | with_reducible assumption | with_reducible apply cntPart_memo | with_reducible apply cntPart64_memo | intro _ | with_reducible apply Memo.ite | with_reducible apply Memo.iteSnd | with_reducible apply Memo.iteFst | simp only [Memo.upd] | dsimp only | split)

theorem accumRow_memo {s0 t : State} {p : PartId} {d : Bytes} {m : Model} {rows td ix : Nat × Bytes} {i : Nat} {s : State} (e : accumRow p d m rows td ix i s = .ok t) (hk : Memo s0 s) : Memo s0 t := by
  unfold accumRow at e
  (try dsimp only at e)
  repeat' split at e
  all_goals (try cases e)
  all_goals repeat (first | with_reducible assumption | with_reducible apply touch_memo | with_reducible apply contribute_memo | intro _ | with_reducible apply Memo.ite | with_reducible apply Memo.iteSnd | with_reducible apply Memo.iteFst | simp only [Memo.upd] | dsimp only | split)

theorem execCmbAccum_memo {s0 : State} (p : PartId) (s : State) (hk : Memo s0 s) : MemoO s0 (execCmbAccum p s) := by
  unfold execCmbAccum
  repeat (first | with_reducible assumption | with_reducible apply MemoO.next | with_reducible apply MemoO.ite | with_reducible apply runCmd_memo | with_reducible apply cmdFail_memo | with_reducible apply finish_memo | with_reducible apply eachUntil_memo | with_reducible refine accumRow_memo (by with_reducible assumption) ?_ | intro _ | with_reducible apply Memo.ite | simp only [Memo.upd] | dsimp only | split)

theorem execCmbFinal_memo {s0 : State} (p : PartId) (s : State) (hk : Memo s0 s) : MemoO s0 (execCmbFinal p s) := by
  unfold execCmbFinal
  repeat (first | with_reducible assumption | with_reducible apply MemoO.next | with_reducible apply MemoO.ite | with_reducible apply runCmd_memo | with_reducible apply cmdFail_memo | with_reducible apply cmdDone_memo | with_reducible apply eachOf_memo | with_reducible apply roundSlot_memo | intro _ | with_reducible apply Memo.ite | simp only [Memo.upd] | dsimp only | split)

theorem onCores_memo {s0 : State} (p : PartId) (f : CoreSt → CoreSt) (s : State) (hk : Memo s0 s) : Memo s0 (onCores p f s) := by
  unfold onCores
  repeat (first | with_reducible assumption | with_reducible apply eachOf_memo | with_reducible apply onCore_memo | intro _ | with_reducible apply Memo.ite | with_reducible apply Memo.iteSnd | with_reducible apply Memo.iteFst | simp only [Memo.upd] | dsimp only | split)

theorem loadRow_memo {s0 t : State} {p : PartId} {d : Bytes} {td : Nat × Bytes} {ix : Option (Nat × Bytes)} {x : Nat × CoreId × Nat} {s : State} (e : loadRow p d td ix x s = .ok t) (hk : Memo s0 s) : Memo s0 t := by
  unfold loadRow at e
  (try dsimp only at e)
  repeat' split at e
  all_goals (try cases e)
  all_goals repeat (first | with_reducible assumption | with_reducible apply onCore_memo | with_reducible apply touch_memo | intro _ | with_reducible apply Memo.ite | with_reducible apply Memo.iteSnd | with_reducible apply Memo.iteFst | simp only [Memo.upd] | dsimp only | split)

theorem seqLd_memo {s0 : State} (p : PartId) (d : Bytes) (s : State) (hk : Memo s0 s) : Memo s0 (seqLd p d s) := by
  unfold seqLd
  repeat (first | with_reducible assumption | with_reducible apply cmdFail_memo | with_reducible apply onCores_memo | with_reducible apply finish_memo | with_reducible apply eachUntil_memo | with_reducible refine loadRow_memo (by with_reducible assumption) ?_ | intro _ | with_reducible apply Memo.ite | with_reducible apply Memo.iteSnd | with_reducible apply Memo.iteFst | simp only [Memo.upd] | dsimp only | split)

theorem seqZero_memo {s0 : State} (p : PartId) (d : Bytes) (s : State) (hk : Memo s0 s) : Memo s0 (seqZero p d s) := by
  unfold seqZero
  repeat (first | with_reducible assumption | with_reducible apply cmdDone_memo | with_reducible apply onCores_memo | intro _ | with_reducible apply Memo.ite | simp only [Memo.upd] | dsimp only | split)

theorem seqMma_memo {s0 : State} (p : PartId) (d : Bytes) (s : State) (hk : Memo s0 s) : Memo s0 (seqMma p d s) := by
  unfold seqMma
  repeat (first | with_reducible assumption | with_reducible apply onCores_memo | with_reducible apply cmdDone_memo | with_reducible apply cntPart64_memo | intro _ | with_reducible apply Memo.ite | simp only [Memo.upd] | dsimp only | split)

theorem seqAct_memo {s0 : State} (p : PartId) (d : Bytes) (s : State) (hk : Memo s0 s) : Memo s0 (seqAct p d s) := by
  unfold seqAct
  repeat (first | with_reducible assumption | with_reducible apply cmdFail_memo | with_reducible apply cmdDone_memo | with_reducible apply onCores_memo | intro _ | with_reducible apply Memo.ite | simp only [Memo.upd] | dsimp only | split)

theorem seqMul_memo {s0 : State} (p : PartId) (d : Bytes) (s : State) (hk : Memo s0 s) : Memo s0 (seqMul p d s) := by
  unfold seqMul
  repeat (first | with_reducible assumption | with_reducible apply cmdFail_memo | with_reducible apply cmdDone_memo | with_reducible apply onCores_memo | intro _ | with_reducible apply Memo.ite | simp only [Memo.upd] | dsimp only | split)

theorem scaleTileRow_memo {s0 t : State} {p : PartId} {d : Bytes} {td : Nat × Bytes} {x : Nat × CoreId × Nat} {s : State} (e : scaleTileRow p d td x s = .ok t) (hk : Memo s0 s) : Memo s0 t := by
  unfold scaleTileRow at e
  (try dsimp only at e)
  repeat' split at e
  all_goals (try cases e)
  all_goals repeat (first | with_reducible assumption | with_reducible apply onCore_memo | with_reducible apply touch_memo | intro _ | with_reducible apply Memo.ite | with_reducible apply Memo.iteSnd | with_reducible apply Memo.iteFst | simp only [Memo.upd] | dsimp only | split)

theorem seqScale_memo {s0 : State} (p : PartId) (d : Bytes) (s : State) (hk : Memo s0 s) : Memo s0 (seqScale p d s) := by
  unfold seqScale
  repeat (first | with_reducible assumption | with_reducible apply cmdFail_memo | with_reducible apply finish_memo | with_reducible apply eachUntil_memo | with_reducible refine scaleTileRow_memo (by with_reducible assumption) ?_ | intro _ | with_reducible apply Memo.ite | simp only [Memo.upd] | dsimp only | split)

theorem seqCvt_memo {s0 : State} (p : PartId) (d : Bytes) (s : State) (hk : Memo s0 s) : Memo s0 (seqCvt p d s) := by
  unfold seqCvt
  repeat (first | with_reducible assumption | with_reducible apply cmdDone_memo | with_reducible apply onCores_memo | intro _ | with_reducible apply Memo.ite | simp only [Memo.upd] | dsimp only | split)

theorem touchWeights_memo {s0 : State} (p : PartId) (tag : Nat) (m : Model) (layer expert : Nat) (s : State) (hk : Memo s0 s) : Memo s0 (touchWeights p tag m layer expert s) := by
  unfold touchWeights
  repeat (first | with_reducible assumption | with_reducible apply touch_memo | intro _ | with_reducible apply Memo.ite | simp only [Memo.upd] | dsimp only | split)

theorem seqBusy_memo {s0 : State} (p : PartId) (s : State) (hk : Memo s0 s) : Memo s0 (seqBusy p s) := by
  unfold seqBusy
  repeat (first | with_reducible assumption | with_reducible refine takeFree_memo (by with_reducible assumption) ?_ | with_reducible apply takeFree_snd_memo | with_reducible apply cntPart64_memo | intro _ | with_reducible apply Memo.ite | with_reducible apply Memo.iteSnd | with_reducible apply Memo.iteFst | simp only [Memo.upd] | dsimp only | split)

theorem passCycles_memo {s0 : State} (p : PartId) (s : State) (hk : Memo s0 s) : Memo s0 (passCycles p s) := by
  unfold passCycles
  repeat (first | with_reducible assumption | with_reducible refine takeFree_memo (by with_reducible assumption) ?_ | with_reducible apply takeFree_snd_memo | with_reducible apply seqBusy_memo | with_reducible apply cntPart64_memo | intro _ | with_reducible apply Memo.ite | with_reducible apply Memo.iteSnd | with_reducible apply Memo.iteFst | simp only [Memo.upd] | dsimp only | split)

theorem beginPass_memo {s0 : State} (p : PartId) (x : Pass) (s : State) (hk : Memo s0 s) : Memo s0 (beginPass p x s) := by
  unfold beginPass
  repeat (first | with_reducible assumption | with_reducible apply updPart_memo | intro _ | with_reducible apply Memo.ite | simp only [Memo.upd] | dsimp only | split)

theorem endAlone_memo {s0 : State} (p : PartId) (s : State) (hk : Memo s0 s) : Memo s0 (endAlone p s) := by
  unfold endAlone
  repeat (first | with_reducible assumption | with_reducible apply dropClusters_memo | with_reducible apply cntPart_memo | with_reducible apply updPart_memo | intro _ | with_reducible apply Memo.ite | simp only [Memo.upd] | dsimp only | split)

theorem traceEnd_memo {s0 : State} (p : PartId) (s : State) (hk : Memo s0 s) : Memo s0 (traceEnd p s) := by
  unfold traceEnd
  repeat (first | with_reducible assumption | with_reducible apply traceStage_memo | with_reducible apply updConj_memo | intro _ | with_reducible apply Memo.ite | simp only [Memo.upd] | dsimp only | split)

theorem conjSettle_memo {s0 : State} (p : PartId) (s : State) (hk : Memo s0 s) : Memo s0 (conjSettle p s) := by
  unfold conjSettle
  repeat (first | with_reducible assumption | with_reducible apply traceEnd_memo | with_reducible apply updPart_memo | with_reducible apply cmdDone_memo | intro _ | with_reducible apply Memo.ite | simp only [Memo.upd] | dsimp only | split)

theorem releaseJudged_memo {s0 : State} (p : PartId) (c : Conj) (s : State) (hk : Memo s0 s) : Memo s0 (releaseJudged p c s) := by
  unfold releaseJudged
  repeat (first | with_reducible assumption | with_reducible apply eachOf_memo | with_reducible apply dropRow_memo | with_reducible apply returnResult_memo | intro _ | with_reducible apply Memo.ite | simp only [Memo.upd] | dsimp only | split)

theorem deadlineMiss_memo {s0 : State} (p : PartId) (st : StreamId) (tag : Nat) (s : State) (hk : Memo s0 s) : Memo s0 (deadlineMiss p st tag s) := by
  unfold deadlineMiss
  repeat (first | with_reducible assumption | with_reducible apply record_memo | with_reducible apply updJob_memo | intro _ | with_reducible apply Memo.ite | simp only [Memo.upd] | dsimp only | split)

theorem startPass_memo {s0 : State} (p : PartId) (m : Model) (expert : Nat) (rs : List RowRec) (reissue : Bool) (s : State) (hk : Memo s0 s) : Memo s0 (startPass p m expert rs reissue s) := by
  unfold startPass
  repeat (first | with_reducible assumption | with_reducible apply charge_memo | with_reducible apply hbmGo_memo | with_reducible apply updRows_memo | with_reducible apply beginPass_memo | with_reducible apply updConj_memo | with_reducible apply Memo.foldl | intro _ | with_reducible apply Memo.ite | with_reducible apply Memo.iteSnd | with_reducible apply Memo.iteFst | simp only [Memo.upd] | dsimp only | split)

theorem passStart_memo {s0 : State} (p : PartId) (expert : Nat) (s : State) (hk : Memo s0 s) : Memo s0 (passStart p expert s) := by
  unfold passStart
  repeat (first | with_reducible assumption | with_reducible apply hbmHold_memo | with_reducible apply startPass_memo | with_reducible apply dropClusters_memo | intro _ | with_reducible apply Memo.ite | simp only [Memo.upd] | dsimp only | split)

theorem reissuePass_memo {s0 : State} (p : PartId) (expert : Nat) (s : State) (hk : Memo s0 s) : Memo s0 (reissuePass p expert s) := by
  unfold reissuePass
  repeat (first | with_reducible assumption | with_reducible apply hbmHold_memo | with_reducible apply startPass_memo | with_reducible apply dropClusters_memo | intro _ | with_reducible apply Memo.ite | simp only [Memo.upd] | dsimp only | split)

theorem endRow_memo {s0 : State} (p : PartId) (m : Model) (bad : Bool) (tag : Nat) (s : State) (hk : Memo s0 s) : Memo s0 (endRow p m bad tag s) := by
  unfold endRow
  repeat (first | with_reducible assumption | with_reducible apply cntPart_memo | with_reducible apply updRow_memo | with_reducible apply returnResult_memo | with_reducible apply dropRow_memo | intro _ | with_reducible apply Memo.ite | simp only [Memo.upd] | dsimp only | split)

theorem passFault_memo {s0 : State} (p : PartId) (m : Model) (x : Pass) (s : State) (hk : Memo s0 s) : Memo s0 (passFault p m x s) := by
  unfold passFault
  repeat (first | with_reducible assumption | with_reducible apply holdFault_memo | intro _ | with_reducible apply Memo.ite | simp only [Memo.upd] | dsimp only | split)

theorem passCharge_memo {s0 : State} (p : PartId) (m : Model) (x : Pass) (s : State) (hk : Memo s0 s) : Memo s0 (passCharge p m x s) := by
  unfold passCharge
  repeat (first | with_reducible assumption | with_reducible apply noteUe_memo | with_reducible apply cntPart_memo | with_reducible apply cntPart64_memo | with_reducible apply passCycles_memo | intro _ | with_reducible apply Memo.ite | simp only [Memo.upd] | dsimp only | split)

theorem probeDev_memo {s0 : State} (p : PartId) (k : Comm) (d : DevId) (s : State) (hk : Memo s0 s) : Memo s0 (probeDev p k d s) := by
  unfold probeDev
  repeat (first | with_reducible assumption | with_reducible apply sendPiece_memo | with_reducible apply updConj_memo | intro _ | with_reducible apply Memo.ite | with_reducible apply Memo.iteSnd | with_reducible apply Memo.iteFst | simp only [Memo.upd] | dsimp only | split)

theorem execStepClosureProbe_memo {s0 : State} (p : PartId) (s : State) (hk : Memo s0 s) : MemoO s0 (execStepClosureProbe p s) := by
  unfold execStepClosureProbe
  repeat (first | with_reducible assumption | with_reducible apply MemoO.next | with_reducible apply MemoO.ite | with_reducible apply eachOf_memo | with_reducible apply probeDev_memo | intro _ | with_reducible apply Memo.ite | simp only [Memo.upd] | dsimp only | split)

theorem serveEnd_memo {s0 : State} (p : PartId) (s : State) (hk : Memo s0 s) : Memo s0 (serveEnd p s) := by
  unfold serveEnd
  repeat (first | with_reducible assumption | with_reducible apply eachOf_memo | with_reducible apply orphanRow_memo | with_reducible apply dropRow_memo | with_reducible apply updPart_memo | intro _ | with_reducible apply Memo.ite | simp only [Memo.upd] | dsimp only | split)

theorem refillPart_memo {s0 : State} (n : Nat) (p : PartId) (s : State) (hk : Memo s0 s) : Memo s0 (refillPart n p s) := by
  unfold refillPart
  repeat (first | with_reducible assumption | with_reducible apply updPart_memo | intro _ | with_reducible apply Memo.ite | simp only [Memo.upd] | dsimp only | split)

theorem agePackets_memo {s0 : State} (p : PartId) (s : State) (hk : Memo s0 s) : Memo s0 (agePackets p s) := by
  unfold agePackets
  repeat (first | with_reducible assumption | intro _ | with_reducible apply Memo.ite | simp only [Memo.upd] | dsimp only | split)

theorem execRequestAging_memo {s0 : State} (p : PartId) (s : State) (hk : Memo s0 s) : MemoO s0 (execRequestAging p s) := by
  unfold execRequestAging
  repeat (first | with_reducible assumption | with_reducible apply MemoO.next | with_reducible apply MemoO.ite | with_reducible apply cntPart_memo | with_reducible apply agePackets_memo | with_reducible apply updPart_memo | intro _ | with_reducible apply Memo.ite | simp only [Memo.upd] | dsimp only | split)

theorem wakeLink_memo {s0 : State} (l : LinkId) (s : State) (hk : Memo s0 s) : Memo s0 (wakeLink l s) := by
  unfold wakeLink
  repeat (first | with_reducible assumption | with_reducible apply drainLink_memo | with_reducible apply setBrl_memo | with_reducible apply emit_memo | with_reducible apply updLink_memo | intro _ | with_reducible apply Memo.ite | simp only [Memo.upd] | dsimp only | split)

theorem advertise_memo {s0 : State} (s : State) (hk : Memo s0 s) : Memo s0 (advertise s) := by
  unfold advertise
  repeat (first | with_reducible assumption | with_reducible apply eachOf_memo | with_reducible apply sendLinkMsg_memo | with_reducible apply wakeLink_memo | with_reducible apply noticeLink_memo | intro _ | with_reducible apply Memo.ite | simp only [Memo.upd] | dsimp only | split)

theorem setMaster_memo {s0 : State} (m : Nat) (via : Option Nat) (s : State) (hk : Memo s0 s) : Memo s0 (setMaster m via s) := by
  unfold setMaster
  repeat (first | with_reducible assumption | intro _ | with_reducible apply Memo.ite | simp only [Memo.upd] | dsimp only | split)

theorem judgeMaster_memo {s0 : State} (s : State) (hk : Memo s0 s) : Memo s0 (judgeMaster s) := by
  unfold judgeMaster
  repeat (first | with_reducible assumption | with_reducible apply setMaster_memo | intro _ | with_reducible apply Memo.ite | simp only [Memo.upd] | dsimp only | split)

theorem noteBonds_memo {s0 : State} (before s : State) (hk : Memo s0 s) : Memo s0 (noteBonds before s) := by
  unfold noteBonds
  repeat (first | with_reducible assumption | intro _ | with_reducible apply Memo.ite | simp only [Memo.upd] | dsimp only | split)

theorem linkDown_memo {s0 : State} (l : LinkId) (st : BrlState) (cause : Nat) (s : State) (hk : Memo s0 s) : Memo s0 (linkDown l st cause s) := by
  unfold linkDown
  repeat (first | with_reducible assumption | with_reducible apply setBrl_memo | with_reducible apply updLink_memo | with_reducible apply recordLink_memo | with_reducible apply dualLinkDown_memo | intro _ | with_reducible apply Memo.ite | simp only [Memo.upd] | dsimp only | split)

theorem execBrlSignalDetect_memo {s0 : State} (l : LinkId) (s : State) (hk : Memo s0 s) : MemoO s0 (execBrlSignalDetect l s) := by
  unfold execBrlSignalDetect
  repeat (first | with_reducible assumption | with_reducible apply MemoO.next | with_reducible apply MemoO.ite | with_reducible apply setBrl_memo | with_reducible apply updLink_memo | with_reducible apply emit_memo | with_reducible apply enterDetect_memo | intro _ | with_reducible apply Memo.ite | simp only [Memo.upd] | dsimp only | split)

theorem execBrlEqualizeDone_memo {s0 : State} (l : LinkId) (s : State) (hk : Memo s0 s) : MemoO s0 (execBrlEqualizeDone l s) := by
  unfold execBrlEqualizeDone
  repeat (first | with_reducible assumption | with_reducible apply MemoO.next | with_reducible apply MemoO.ite | with_reducible apply sendLinkMsg_memo | with_reducible apply setBrl_memo | intro _ | with_reducible apply Memo.ite | simp only [Memo.upd] | dsimp only | split)

theorem linkAuthFail_memo {s0 : State} (l : LinkId) (s : State) (hk : Memo s0 s) : Memo s0 (linkAuthFail l s) := by
  unfold linkAuthFail
  repeat (first | with_reducible assumption | with_reducible apply secLogMerged_memo | with_reducible apply recordAll_memo | intro _ | with_reducible apply Memo.ite | simp only [Memo.upd] | dsimp only | split)

theorem freshKey_memo {s0 : State} (l : LinkId) (psk : Bytes) (s : State) (hk : Memo s0 s) : Memo s0 (freshKey l psk s) := by
  unfold freshKey
  repeat (first | with_reducible assumption | with_reducible refine takeFree_memo (by with_reducible assumption) ?_ | with_reducible apply takeFree_snd_memo | with_reducible apply updLink_memo | intro _ | with_reducible apply Memo.ite | with_reducible apply Memo.iteSnd | with_reducible apply Memo.iteFst | simp only [Memo.upd] | dsimp only | split)

theorem execBrlTrainTimeout_memo {s0 : State} (l : LinkId) (s : State) (hk : Memo s0 s) : MemoO s0 (execBrlTrainTimeout l s) := by
  unfold execBrlTrainTimeout
  repeat (first | with_reducible assumption | with_reducible apply MemoO.next | with_reducible apply MemoO.ite | with_reducible apply linkDown_memo | intro _ | with_reducible apply Memo.ite | simp only [Memo.upd] | dsimp only | split)

theorem retryLink_memo {s0 : State} (l : LinkId) (s : State) (hk : Memo s0 s) : Memo s0 (retryLink l s) := by
  unfold retryLink
  repeat (first | with_reducible assumption | with_reducible apply enterDetect_memo | with_reducible apply dualDetect_memo | intro _ | with_reducible apply Memo.ite | simp only [Memo.upd] | dsimp only | split)

theorem execBrlDownRetry_memo {s0 : State} (l : LinkId) (s : State) (hk : Memo s0 s) : MemoO s0 (execBrlDownRetry l s) := by
  unfold execBrlDownRetry
  repeat (first | with_reducible assumption | with_reducible apply MemoO.next | with_reducible apply MemoO.ite | with_reducible apply retryLink_memo | intro _ | with_reducible apply Memo.ite | simp only [Memo.upd] | dsimp only | split)

theorem takeAck_memo {s0 : State} (l : LinkId) (ack : Nat) (s : State) (hk : Memo s0 s) : Memo s0 (takeAck l ack s) := by
  unfold takeAck
  repeat (first | with_reducible assumption | with_reducible apply eachOf_memo | with_reducible apply otherFlit_memo | with_reducible apply updLink_memo | intro _ | with_reducible apply Memo.ite | with_reducible apply Memo.iteSnd | with_reducible apply Memo.iteFst | simp only [Memo.upd] | dsimp only | split)

theorem replayLink_memo {s0 : State} (l : LinkId) (s : State) (hk : Memo s0 s) : Memo s0 (replayLink l s) := by
  unfold replayLink
  repeat (first | with_reducible assumption | with_reducible apply updLink_memo | with_reducible apply eachOf_memo | with_reducible apply emit_memo | intro _ | with_reducible apply Memo.ite | simp only [Memo.upd] | dsimp only | split)

theorem sendAck_memo {s0 : State} (l : LinkId) (s : State) (hk : Memo s0 s) : Memo s0 (sendAck l s) := by
  unfold sendAck
  repeat (first | with_reducible assumption | with_reducible apply idleFlit_memo | intro _ | with_reducible apply Memo.ite | simp only [Memo.upd] | dsimp only | split)

theorem discardFlit_memo {s0 : State} (l : LinkId) (s : State) (hk : Memo s0 s) : Memo s0 (discardFlit l s) := by
  unfold discardFlit
  repeat (first | with_reducible assumption | with_reducible apply sendAck_memo | with_reducible apply cntLink_memo | with_reducible apply updLink_memo | intro _ | with_reducible apply Memo.ite | simp only [Memo.upd] | dsimp only | split)

theorem packetWhole_memo {s0 : State} (l : LinkId) (vc : Nat) (b : Bytes) (s : State) (hk : Memo s0 s) : Memo s0 (packetWhole l vc b s) := by
  unfold packetWhole
  repeat (first | with_reducible assumption | with_reducible apply payOwed_memo | with_reducible apply forwardTo_memo | with_reducible apply updLink_memo | intro _ | with_reducible apply Memo.ite | simp only [Memo.upd] | dsimp only | split)

theorem deliverFlit_memo {s0 : State} (l : LinkId) (h : FlitHead) (payload : Bytes) (s : State) (hk : Memo s0 s) : Memo s0 (deliverFlit l h payload s) := by
  unfold deliverFlit
  repeat (first | with_reducible assumption | with_reducible apply updLink_memo | with_reducible apply packetWhole_memo | intro _ | with_reducible apply Memo.ite | simp only [Memo.upd] | dsimp only | split)

theorem execNakRepeat_memo {s0 : State} (l : LinkId) (s : State) (hk : Memo s0 s) : MemoO s0 (execNakRepeat l s) := by
  unfold execNakRepeat
  repeat (first | with_reducible assumption | with_reducible apply MemoO.next | with_reducible apply MemoO.ite | with_reducible apply sendAck_memo | intro _ | with_reducible apply Memo.ite | simp only [Memo.upd] | dsimp only | split)

theorem execAckTimer_memo {s0 : State} (l : LinkId) (s : State) (hk : Memo s0 s) : MemoO s0 (execAckTimer l s) := by
  unfold execAckTimer
  repeat (first | with_reducible assumption | with_reducible apply MemoO.next | with_reducible apply MemoO.ite | with_reducible apply sendAck_memo | intro _ | with_reducible apply Memo.ite | simp only [Memo.upd] | dsimp only | split)

theorem execTimeFlitReceive_memo {s0 : State} (l : LinkId) (farDt farRx : Nat) (s : State) (hk : Memo s0 s) : MemoO s0 (execTimeFlitReceive l farDt farRx s) := by
  unfold execTimeFlitReceive
  repeat (first | with_reducible assumption | with_reducible apply MemoO.next | with_reducible apply MemoO.ite | with_reducible apply updLink_memo | intro _ | with_reducible apply Memo.ite | simp only [Memo.upd] | dsimp only | split)

theorem takeAdvert_memo {s0 : State} (m : Nat) (a : Advert) (s : State) (hk : Memo s0 s) : Memo s0 (takeAdvert m a s) := by
  unfold takeAdvert
  repeat (first | with_reducible assumption | with_reducible apply learnStart_memo | with_reducible apply Memo.foldl | intro _ | with_reducible apply Memo.ite | simp only [Memo.upd] | dsimp only | split)

theorem execBrlIdleTimer_memo {s0 : State} (l : LinkId) (s : State) (hk : Memo s0 s) : MemoO s0 (execBrlIdleTimer l s) := by
  unfold execBrlIdleTimer
  repeat (first | with_reducible assumption | with_reducible apply MemoO.next | with_reducible apply MemoO.ite | with_reducible apply sendLinkMsg_memo | with_reducible apply updLink_memo | intro _ | with_reducible apply Memo.ite | simp only [Memo.upd] | dsimp only | split)

theorem execSleepReqReceive_memo {s0 : State} (l : LinkId) (s : State) (hk : Memo s0 s) : MemoO s0 (execSleepReqReceive l s) := by
  unfold execSleepReqReceive
  repeat (first | with_reducible assumption | with_reducible apply MemoO.next | with_reducible apply MemoO.ite | with_reducible apply sendLinkMsg_memo | with_reducible apply setBrl_memo | with_reducible apply cntLink_memo | with_reducible apply updLink_memo | intro _ | with_reducible apply Memo.ite | simp only [Memo.upd] | dsimp only | split)

theorem execWakePattern_memo {s0 : State} (l : LinkId) (s : State) (hk : Memo s0 s) : MemoO s0 (execWakePattern l s) := by
  unfold execWakePattern
  repeat (first | with_reducible assumption | with_reducible apply MemoO.next | with_reducible apply MemoO.ite | with_reducible apply drainLink_memo | with_reducible apply setBrl_memo | with_reducible apply updLink_memo | intro _ | with_reducible apply Memo.ite | simp only [Memo.upd] | dsimp only | split)

theorem execBrlDormant_memo {s0 : State} (r : Requester) (l : LinkId) (v : Nat) (s : State) (hk : Memo s0 s) : MemoO s0 (execBrlDormant r l v s) := by
  unfold execBrlDormant
  repeat (first | with_reducible assumption | with_reducible apply MemoO.next | with_reducible apply MemoO.ite | with_reducible apply sendLinkMsg_memo | with_reducible apply wakeLink_memo | with_reducible apply updLink_memo | intro _ | with_reducible apply Memo.ite | simp only [Memo.upd] | dsimp only | split)

theorem execBrlWake_memo {s0 : State} (r : Requester) (l : LinkId) (v : Nat) (s : State) (hk : Memo s0 s) : MemoO s0 (execBrlWake r l v s) := by
  unfold execBrlWake
  repeat (first | with_reducible assumption | with_reducible apply MemoO.next | with_reducible apply MemoO.ite | with_reducible apply enterDetect_memo | intro _ | with_reducible apply Memo.ite | simp only [Memo.upd] | dsimp only | split)

theorem execBrlRekey_memo {s0 : State} (l : LinkId) (s : State) (hk : Memo s0 s) : MemoO s0 (execBrlRekey l s) := by
  unfold execBrlRekey
  repeat (first | with_reducible assumption | with_reducible apply MemoO.next | with_reducible apply MemoO.ite | with_reducible apply freshKey_memo | intro _ | with_reducible apply Memo.ite | simp only [Memo.upd] | dsimp only | split)

theorem movePackets_memo {s0 : State} (pl : PlaneId) (d : DevId) (p : PartId) (l : List Waiting) (s : State) (hk : Memo s0 s) : Memo s0 (movePackets pl d p l s) := by
  unfold movePackets
  repeat (first | with_reducible assumption | with_reducible apply cntTether_memo | with_reducible refine sendTether_memo (by with_reducible assumption) ?_ | with_reducible apply emit_memo | with_reducible refine holdBack_memo (by with_reducible assumption) ?_ | with_reducible apply holdBack_snd_memo | with_reducible apply updFlow_memo | with_reducible apply drainOut_memo | with_reducible apply Memo.foldl | intro _ | with_reducible apply Memo.ite | with_reducible apply Memo.iteSnd | with_reducible apply Memo.iteFst | simp only [Memo.upd] | dsimp only | split)

theorem planeUp_memo {s0 : State} (pl : PlaneId) (s : State) (hk : Memo s0 s) : Memo s0 (planeUp pl s) := by
  unfold planeUp
  repeat (first | with_reducible assumption | with_reducible apply sendEth_memo | with_reducible apply setTth_memo | with_reducible apply resolveAddr_memo | with_reducible apply drainOut_memo | intro _ | with_reducible apply Memo.ite | simp only [Memo.upd] | dsimp only | split)

theorem execTthAlignDone_memo {s0 : State} (pl : PlaneId) (s : State) (hk : Memo s0 s) : MemoO s0 (execTthAlignDone pl s) := by
  unfold execTthAlignDone
  repeat (first | with_reducible assumption | with_reducible apply MemoO.next | with_reducible apply MemoO.ite | with_reducible apply setTth_memo | with_reducible apply planeUp_memo | intro _ | with_reducible apply Memo.ite | simp only [Memo.upd] | dsimp only | split)

theorem freshSak_memo {s0 : State} (pl : PlaneId) (item : VaultItem) (s : State) (hk : Memo s0 s) : Memo s0 (freshSak pl item s) := by
  unfold freshSak
  repeat (first | with_reducible assumption | with_reducible refine takeFree_memo (by with_reducible assumption) ?_ | with_reducible apply takeFree_snd_memo | with_reducible apply updPlane_memo | intro _ | with_reducible apply Memo.ite | with_reducible apply Memo.iteSnd | with_reducible apply Memo.iteFst | simp only [Memo.upd] | dsimp only | split)

theorem execMkaSecured_memo {s0 : State} (pl : PlaneId) (peerPriority : Nat) (xpn : Bool) (s : State) (hk : Memo s0 s) : MemoO s0 (execMkaSecured pl peerPriority xpn s) := by
  unfold execMkaSecured
  repeat (first | with_reducible assumption | with_reducible apply MemoO.next | with_reducible apply MemoO.ite | with_reducible apply planeUp_memo | with_reducible apply updPlane_memo | with_reducible apply freshSak_memo | intro _ | with_reducible apply Memo.ite | simp only [Memo.upd] | dsimp only | split)

theorem execTthDownRetry_memo {s0 : State} (pl : PlaneId) (s : State) (hk : Memo s0 s) : MemoO s0 (execTthDownRetry pl s) := by
  unfold execTthDownRetry
  repeat (first | with_reducible assumption | with_reducible apply MemoO.next | with_reducible apply MemoO.ite | with_reducible apply enterAlign_memo | intro _ | with_reducible apply Memo.ite | simp only [Memo.upd] | dsimp only | split)

theorem execMacsecRekey_memo {s0 : State} (pl : PlaneId) (s : State) (hk : Memo s0 s) : MemoO s0 (execMacsecRekey pl s) := by
  unfold execMacsecRekey
  repeat (first | with_reducible assumption | with_reducible apply MemoO.next | with_reducible apply MemoO.ite | with_reducible apply freshSak_memo | intro _ | with_reducible apply Memo.ite | simp only [Memo.upd] | dsimp only | split)

theorem execTthRetrain_memo {s0 : State} (r : Requester) (pl : PlaneId) (v : Nat) (s : State) (hk : Memo s0 s) : MemoO s0 (execTthRetrain r pl v s) := by
  unfold execTthRetrain
  repeat (first | with_reducible assumption | with_reducible apply MemoO.next | with_reducible apply MemoO.ite | with_reducible apply enterAlign_memo | intro _ | with_reducible apply Memo.ite | simp only [Memo.upd] | dsimp only | split)

theorem execTthWake_memo {s0 : State} (r : Requester) (pl : PlaneId) (v : Nat) (s : State) (hk : Memo s0 s) : MemoO s0 (execTthWake r pl v s) := by
  unfold execTthWake
  repeat (first | with_reducible assumption | with_reducible apply MemoO.next | with_reducible apply MemoO.ite | with_reducible apply enterAlign_memo | intro _ | with_reducible apply Memo.ite | simp only [Memo.upd] | dsimp only | split)

theorem discardDgram_memo {s0 : State} (pl : PlaneId) (s : State) (hk : Memo s0 s) : Memo s0 (discardDgram pl s) := by
  unfold discardDgram
  repeat (first | with_reducible assumption | with_reducible apply cntPlane_memo | intro _ | with_reducible apply Memo.ite | simp only [Memo.upd] | dsimp only | split)

theorem notePn_memo {s0 : State} (pl : PlaneId) (pn : Option Nat) (s : State) (hk : Memo s0 s) : Memo s0 (notePn pl pn s) := by
  unfold notePn
  repeat (first | with_reducible assumption | with_reducible apply updPlane_memo | intro _ | with_reducible apply Memo.ite | simp only [Memo.upd] | dsimp only | split)

theorem frameBad_memo {s0 t : State} {pl : PlaneId} {fr : FrameCheck} {data : Bytes} {s : State} (e : frameBad pl fr data s = some t) (hk : Memo s0 s) : Memo s0 t := by
  unfold frameBad at e
  (try dsimp only at e)
  repeat' split at e
  all_goals (try cases e)
  all_goals repeat (first | with_reducible assumption | with_reducible apply cntPlane_memo | with_reducible apply discardDgram_memo | with_reducible apply notePn_memo | intro _ | with_reducible apply Memo.ite | simp only [Memo.upd] | dsimp only | split)

theorem ethBad_memo {s0 t : State} {pl : PlaneId} {fr : EthCheck} {s : State} (e : ethBad pl fr s = some t) (hk : Memo s0 s) : Memo s0 t := by
  unfold ethBad at e
  (try dsimp only at e)
  repeat' split at e
  all_goals (try cases e)
  all_goals repeat (first | with_reducible assumption | with_reducible apply cntPlane_memo | with_reducible apply discardDgram_memo | with_reducible apply notePn_memo | intro _ | with_reducible apply Memo.ite | simp only [Memo.upd] | dsimp only | split)

theorem sendCtxAck_memo {s0 : State} (i : Nat) (s : State) (hk : Memo s0 s) : Memo s0 (sendCtxAck i s) := by
  unfold sendCtxAck
  repeat (first | with_reducible assumption | with_reducible apply updCtx_memo | with_reducible apply sendDgram_memo | intro _ | with_reducible apply Memo.ite | simp only [Memo.upd] | dsimp only | split)

theorem takeSegment_memo {s0 : State} (pl : PlaneId) (i : Nat) (ce : Bool) (h : TthHead) (b : Bytes) (c : Ctx) (s : State) (hk : Memo s0 s) : Memo s0 (takeSegment pl i ce h b c s) := by
  unfold takeSegment
  repeat (first | with_reducible assumption | with_reducible apply cntPlane_memo | with_reducible apply setCtx_memo | with_reducible apply updPlane_memo | with_reducible apply sendCtxAck_memo | intro _ | with_reducible apply Memo.ite | with_reducible apply Memo.iteSnd | with_reducible apply Memo.iteFst | simp only [Memo.upd] | dsimp only | split)

theorem execTthDataReceive_memo {s0 : State} (pl : PlaneId) (fr : FrameCheck) (dgram : Bytes) (s : State) (hk : Memo s0 s) : MemoO s0 (execTthDataReceive pl fr dgram s) := by
  unfold execTthDataReceive
  repeat (first | with_reducible assumption | with_reducible apply MemoO.next | with_reducible apply MemoO.ite | with_reducible refine frameBad_memo (by with_reducible assumption) ?_ | with_reducible apply notePn_memo | with_reducible apply discardDgram_memo | with_reducible apply takeSegment_memo | intro _ | with_reducible apply Memo.ite | simp only [Memo.upd] | dsimp only | split)

theorem takeAckDgram_memo {s0 : State} (i : Nat) (b : Bytes) (c : Ctx) (s : State) (hk : Memo s0 s) : Memo s0 (takeAckDgram i b c s) := by
  unfold takeAckDgram
  repeat (first | with_reducible assumption | with_reducible apply setCtx_memo | with_reducible apply drainOut_memo | with_reducible apply drainCtx_memo | with_reducible apply retransmit_memo | with_reducible apply Memo.foldl | intro _ | with_reducible apply Memo.ite | simp only [Memo.upd] | dsimp only | split)

theorem execTthAckReceive_memo {s0 : State} (pl : PlaneId) (fr : FrameCheck) (dgram : Bytes) (s : State) (hk : Memo s0 s) : MemoO s0 (execTthAckReceive pl fr dgram s) := by
  unfold execTthAckReceive
  repeat (first | with_reducible assumption | with_reducible apply MemoO.next | with_reducible apply MemoO.ite | with_reducible refine frameBad_memo (by with_reducible assumption) ?_ | with_reducible apply notePn_memo | with_reducible apply discardDgram_memo | with_reducible apply takeAckDgram_memo | intro _ | with_reducible apply Memo.ite | simp only [Memo.upd] | dsimp only | split)

theorem ctxOpened_memo {s0 : State} (i : Nat) (s : State) (hk : Memo s0 s) : Memo s0 (ctxOpened i s) := by
  unfold ctxOpened
  repeat (first | with_reducible assumption | with_reducible apply setCtx_memo | with_reducible apply markReachable_memo | with_reducible apply drainOut_memo | with_reducible apply drainCtx_memo | with_reducible apply noticeCtx_memo | intro _ | with_reducible apply Memo.ite | simp only [Memo.upd] | dsimp only | split)

theorem sendHelloAck_memo {s0 : State} (i : Nat) (s : State) (hk : Memo s0 s) : Memo s0 (sendHelloAck i s) := by
  unfold sendHelloAck
  repeat (first | with_reducible assumption | with_reducible apply sendDgram_memo | intro _ | with_reducible apply Memo.ite | simp only [Memo.upd] | dsimp only | split)

theorem respond_memo {s0 : State} (i : Nat) (c : Ctx) (s : State) (hk : Memo s0 s) : Memo s0 (respond i c s) := by
  unfold respond
  repeat (first | with_reducible assumption | with_reducible apply ctxOpened_memo | with_reducible apply sendHelloAck_memo | with_reducible apply setCtx_memo | intro _ | with_reducible apply Memo.ite | simp only [Memo.upd] | dsimp only | split)

theorem execTthHelloReceive_memo {s0 : State} (pl : PlaneId) (fr : FrameCheck) (dgram : Bytes) (s : State) (hk : Memo s0 s) : MemoO s0 (execTthHelloReceive pl fr dgram s) := by
  unfold execTthHelloReceive
  repeat (first | with_reducible assumption | split | with_reducible apply MemoO.next | with_reducible apply MemoO.ite | with_reducible refine frameBad_memo (by with_reducible assumption) ?_ | with_reducible apply discardDgram_memo | with_reducible apply showEpoch_memo | with_reducible apply learnStart_memo | with_reducible apply sendHelloAck_memo | with_reducible apply respond_memo | with_reducible apply notePn_memo | with_reducible refine freeCtx_memo (by with_reducible assumption) ?_ | dsimp only)

theorem execTthHelloAckReceive_memo {s0 : State} (pl : PlaneId) (fr : FrameCheck) (dgram : Bytes) (s : State) (hk : Memo s0 s) : MemoO s0 (execTthHelloAckReceive pl fr dgram s) := by
  unfold execTthHelloAckReceive
  repeat (first | with_reducible assumption | with_reducible apply MemoO.next | with_reducible apply MemoO.ite | with_reducible refine frameBad_memo (by with_reducible assumption) ?_ | with_reducible apply notePn_memo | with_reducible apply discardDgram_memo | with_reducible apply showEpoch_memo | with_reducible apply learnStart_memo | with_reducible apply setCtx_memo | with_reducible apply updPlane_memo | with_reducible apply ctxOpened_memo | intro _ | with_reducible apply Memo.ite | with_reducible apply Memo.iteSnd | with_reducible apply Memo.iteFst | simp only [Memo.upd] | dsimp only | split)

theorem reopenCtx_memo {s0 : State} (i : Nat) (c : Ctx) (s : State) (hk : Memo s0 s) : Memo s0 (reopenCtx i c s) := by
  unfold reopenCtx
  repeat (first | with_reducible assumption | with_reducible apply sendHello_memo | with_reducible apply setCtx_memo | intro _ | with_reducible apply Memo.ite | simp only [Memo.upd] | dsimp only | split)

theorem execCloseCtxReceive_memo {s0 : State} (pl : PlaneId) (fr : FrameCheck) (dgram : Bytes) (s : State) (hk : Memo s0 s) : MemoO s0 (execCloseCtxReceive pl fr dgram s) := by
  unfold execCloseCtxReceive
  repeat (first | with_reducible assumption | with_reducible apply MemoO.next | with_reducible apply MemoO.ite | with_reducible refine frameBad_memo (by with_reducible assumption) ?_ | with_reducible apply notePn_memo | with_reducible apply discardDgram_memo | with_reducible apply drainOut_memo | with_reducible apply setCtx_memo | with_reducible apply reopenCtx_memo | intro _ | with_reducible apply Memo.ite | simp only [Memo.upd] | dsimp only | split)

theorem execHelloRetry_memo {s0 : State} (ctx : Nat) (s : State) (hk : Memo s0 s) : MemoO s0 (execHelloRetry ctx s) := by
  unfold execHelloRetry
  repeat (first | with_reducible assumption | with_reducible apply MemoO.next | with_reducible apply MemoO.ite | with_reducible apply sendHello_memo | with_reducible apply setCtx_memo | intro _ | with_reducible apply Memo.ite | simp only [Memo.upd] | dsimp only | split)

theorem execTthAckTimer_memo {s0 : State} (ctx : Nat) (s : State) (hk : Memo s0 s) : MemoO s0 (execTthAckTimer ctx s) := by
  unfold execTthAckTimer
  repeat (first | with_reducible assumption | with_reducible apply MemoO.next | with_reducible apply MemoO.ite | with_reducible apply sendCtxAck_memo | intro _ | with_reducible apply Memo.ite | simp only [Memo.upd] | dsimp only | split)

theorem execRtoExpiry_memo {s0 : State} (ctx : Nat) (s : State) (hk : Memo s0 s) : MemoO s0 (execRtoExpiry ctx s) := by
  unfold execRtoExpiry
  repeat (first | with_reducible assumption | with_reducible apply MemoO.next | with_reducible apply MemoO.ite | with_reducible apply setCtx_memo | with_reducible apply retransmit_memo | with_reducible apply cntPlane_memo | intro _ | with_reducible apply Memo.ite | simp only [Memo.upd] | dsimp only | split)

theorem execContextIdleClose_memo {s0 : State} (ctx : Nat) (s : State) (hk : Memo s0 s) : MemoO s0 (execContextIdleClose ctx s) := by
  unfold execContextIdleClose
  repeat (first | with_reducible assumption | with_reducible apply MemoO.next | with_reducible apply MemoO.ite | with_reducible apply drainOut_memo | with_reducible apply setCtx_memo | with_reducible apply sendCloseCtx_memo | intro _ | with_reducible apply Memo.ite | simp only [Memo.upd] | dsimp only | split)

theorem noteProbe_memo {s0 : State} (pl : PlaneId) (d : DevId) (s : State) (hk : Memo s0 s) : Memo s0 (noteProbe pl d s) := by
  unfold noteProbe
  repeat (first | with_reducible assumption | with_reducible apply updPlane_memo | intro _ | with_reducible apply Memo.ite | with_reducible apply Memo.iteSnd | with_reducible apply Memo.iteFst | simp only [Memo.upd] | dsimp only | split)

theorem execFailedPlaneProbe_memo {s0 : State} (pl : PlaneId) (peer : DevId) (part : PartId) (s : State) (hk : Memo s0 s) : MemoO s0 (execFailedPlaneProbe pl peer part s) := by
  unfold execFailedPlaneProbe
  repeat (first | with_reducible assumption | split | with_reducible apply MemoO.next | with_reducible apply MemoO.ite | with_reducible apply sendHello_memo | with_reducible apply noteProbe_memo | with_reducible refine freeCtx_memo (by with_reducible assumption) ?_ | with_reducible apply setCtx_memo | dsimp only)

theorem execArpNdRequest_memo {s0 : State} (pl : PlaneId) (frame : EthCheck) (asker target : Nat) (s : State) (hk : Memo s0 s) : MemoO s0 (execArpNdRequest pl frame asker target s) := by
  unfold execArpNdRequest
  repeat (first | with_reducible assumption | with_reducible apply MemoO.next | with_reducible apply MemoO.ite | with_reducible refine ethBad_memo (by with_reducible assumption) ?_ | with_reducible apply notePn_memo | with_reducible apply sendEth_memo | intro _ | with_reducible apply Memo.ite | simp only [Memo.upd] | dsimp only | split)

theorem execNeighbourRefresh_memo {s0 : State} (pl : PlaneId) (addr : Nat) (s : State) (hk : Memo s0 s) : MemoO s0 (execNeighbourRefresh pl addr s) := by
  unfold execNeighbourRefresh
  repeat (first | with_reducible assumption | with_reducible apply MemoO.next | with_reducible apply MemoO.ite | with_reducible apply sendEth_memo | with_reducible apply updPlane_memo | intro _ | with_reducible apply Memo.ite | simp only [Memo.upd] | dsimp only | split)

theorem execIcmpEchoRequest_memo {s0 : State} (pl : PlaneId) (frame : EthCheck) (asker ident : Nat) (s : State) (hk : Memo s0 s) : MemoO s0 (execIcmpEchoRequest pl frame asker ident s) := by
  unfold execIcmpEchoRequest
  repeat (first | with_reducible assumption | with_reducible apply MemoO.next | with_reducible apply MemoO.ite | with_reducible refine ethBad_memo (by with_reducible assumption) ?_ | with_reducible apply notePn_memo | with_reducible apply sendEth_memo | with_reducible apply updPlane_memo | intro _ | with_reducible apply Memo.ite | simp only [Memo.upd] | dsimp only | split)

theorem execPauseFrameReceive_memo {s0 : State} (pl : PlaneId) (s : State) (hk : Memo s0 s) : MemoO s0 (execPauseFrameReceive pl s) := by
  unfold execPauseFrameReceive
  repeat (first | with_reducible assumption | with_reducible apply MemoO.next | with_reducible apply MemoO.ite | with_reducible apply discardDgram_memo | intro _ | with_reducible apply Memo.ite | simp only [Memo.upd] | dsimp only | split)

theorem execArpNdReplyReceive_memo {s0 : State} (pl : PlaneId) (frame : EthCheck) (addr mac : Nat) (s : State) (hk : Memo s0 s) : MemoO s0 (execArpNdReplyReceive pl frame addr mac s) := by
  unfold execArpNdReplyReceive
  repeat (first | with_reducible assumption | with_reducible apply MemoO.next | with_reducible apply MemoO.ite | with_reducible refine ethBad_memo (by with_reducible assumption) ?_ | with_reducible apply notePn_memo | with_reducible apply updPlane_memo | with_reducible apply eachOf_memo | with_reducible apply sendHello_memo | intro _ | with_reducible apply Memo.ite | simp only [Memo.upd] | dsimp only | split)

theorem execNeighbourResolutionRetry_memo {s0 : State} (pl : PlaneId) (addr : Nat) (s : State) (hk : Memo s0 s) : MemoO s0 (execNeighbourResolutionRetry pl addr s) := by
  unfold execNeighbourResolutionRetry
  repeat (first | with_reducible assumption | with_reducible apply MemoO.next | with_reducible apply MemoO.ite | with_reducible apply sendEth_memo | with_reducible apply updPlane_memo | intro _ | with_reducible apply Memo.ite | simp only [Memo.upd] | dsimp only | split)

theorem setGroupSync_memo {s0 : State} (g : Bool) (s : State) (hk : Memo s0 s) : Memo s0 (setGroupSync g s) := by
  unfold setGroupSync
  repeat (first | with_reducible assumption | intro _ | with_reducible apply Memo.ite | simp only [Memo.upd] | dsimp only | split)

theorem steer_memo {s0 : State} (src : TimeSource) (s : State) (hk : Memo s0 s) : Memo s0 (steer src s) := by
  unfold steer
  repeat (first | with_reducible assumption | with_reducible refine takeFree_memo (by with_reducible assumption) ?_ | with_reducible apply takeFree_snd_memo | intro _ | with_reducible apply Memo.ite | with_reducible apply Memo.iteSnd | with_reducible apply Memo.iteFst | simp only [Memo.upd] | dsimp only | split)

theorem sysMeasure_memo {s0 : State} (off : Int) (s : State) (hk : Memo s0 s) : Memo s0 (sysMeasure off s) := by
  unfold sysMeasure
  repeat (first | with_reducible assumption | intro _ | with_reducible apply Memo.ite | simp only [Memo.upd] | dsimp only | split)

theorem timeMessageTo_memo {s0 : State} (fabricCount : Nat) (table : Bytes) (ref : Bool) (m : Nat) (s : State) (hk : Memo s0 s) : Memo s0 (timeMessageTo fabricCount table ref m s) := by
  unfold timeMessageTo
  repeat (first | with_reducible assumption | with_reducible apply wakeLink_memo | with_reducible apply otherFlit_memo | with_reducible apply updLink_memo | with_reducible apply emit_memo | intro _ | with_reducible apply Memo.ite | simp only [Memo.upd] | dsimp only | split)

theorem execTimeMessageSend_memo {s0 : State} (s : State) (hk : Memo s0 s) : MemoO s0 (execTimeMessageSend s) := by
  unfold execTimeMessageSend
  repeat (first | with_reducible assumption | with_reducible apply MemoO.next | with_reducible apply MemoO.ite | with_reducible apply eachOf_memo | with_reducible apply timeMessageTo_memo | with_reducible apply setGroupSync_memo | intro _ | with_reducible apply Memo.ite | simp only [Memo.upd] | dsimp only | split)

theorem hearMember_memo {s0 : State} (m master : Nat) (s : State) (hk : Memo s0 s) : Memo s0 (hearMember m master s) := by
  unfold hearMember
  repeat (first | with_reducible assumption | with_reducible apply judgeMaster_memo | with_reducible apply setMaster_memo | intro _ | with_reducible apply Memo.ite | simp only [Memo.upd] | dsimp only | split)

theorem takeGroupTime_memo {s0 : State} (far sysOffset fabricCount : Nat) (table : Bytes) (s : State) (hk : Memo s0 s) : Memo s0 (takeGroupTime far sysOffset fabricCount table s) := by
  unfold takeGroupTime
  repeat (first | with_reducible assumption | intro _ | with_reducible apply Memo.ite | simp only [Memo.upd] | dsimp only | split)

theorem followTime_memo {s0 : State} (far sysOffset : Nat) (ref : Bool) (s : State) (hk : Memo s0 s) : Memo s0 (followTime far sysOffset ref s) := by
  unfold followTime
  repeat (first | with_reducible assumption | with_reducible apply steer_memo | with_reducible apply setGroupSync_memo | with_reducible apply sysMeasure_memo | intro _ | with_reducible apply Memo.ite | simp only [Memo.upd] | dsimp only | split)

theorem execTimeMessageReceive_memo {s0 : State} (l : LinkId) (dt sysOffset epoch master fabricCount : Nat) (table : Bytes) (ref : Bool) (s : State) (hk : Memo s0 s) : MemoO s0 (execTimeMessageReceive l dt sysOffset epoch master fabricCount table ref s) := by
  unfold execTimeMessageReceive
  repeat (first | with_reducible assumption | with_reducible apply MemoO.next | with_reducible apply MemoO.ite | with_reducible apply showEpoch_memo | with_reducible apply hearMember_memo | with_reducible apply takeGroupTime_memo | with_reducible apply followTime_memo | with_reducible apply eachOf_memo | with_reducible apply timeMessageTo_memo | intro _ | with_reducible apply Memo.ite | simp only [Memo.upd] | dsimp only | split)

theorem execTimeRefLock_memo {s0 : State} (s : State) (hk : Memo s0 s) : MemoO s0 (execTimeRefLock s) := by
  unfold execTimeRefLock
  repeat (first | with_reducible assumption | with_reducible apply MemoO.next | with_reducible apply MemoO.ite | intro _ | with_reducible apply Memo.ite | simp only [Memo.upd] | dsimp only | split)

theorem execTimeRefLoss_memo {s0 : State} (s : State) (hk : Memo s0 s) : MemoO s0 (execTimeRefLoss s) := by
  unfold execTimeRefLoss
  repeat (first | with_reducible assumption | with_reducible apply MemoO.next | with_reducible apply MemoO.ite | intro _ | with_reducible apply Memo.ite | simp only [Memo.upd] | dsimp only | split)

theorem execPpsInEdge_memo {s0 : State} (s : State) (hk : Memo s0 s) : MemoO s0 (execPpsInEdge s) := by
  unfold execPpsInEdge
  repeat (first | with_reducible assumption | with_reducible apply MemoO.next | with_reducible apply MemoO.ite | with_reducible apply steer_memo | with_reducible apply sysMeasure_memo | intro _ | with_reducible apply Memo.ite | simp only [Memo.upd] | dsimp only | split)

theorem execPpsOutEdge_memo {s0 : State} (s : State) (hk : Memo s0 s) : MemoO s0 (execPpsOutEdge s) := by
  unfold execPpsOutEdge
  repeat (first | with_reducible assumption | with_reducible apply MemoO.next | with_reducible apply MemoO.ite | with_reducible apply emit_memo | intro _ | with_reducible apply Memo.ite | simp only [Memo.upd] | dsimp only | split)

theorem placePtp_memo {s0 : State} (s : State) (hk : Memo s0 s) : Memo s0 (placePtp s) := by
  unfold placePtp
  repeat (first | with_reducible assumption | intro _ | with_reducible apply Memo.ite | simp only [Memo.upd] | dsimp only | split)

theorem updPtp_memo {s0 : State} (f : Ptp → Ptp) (s : State) (hk : Memo s0 s) : Memo s0 (updPtp f s) := by
  unfold updPtp
  repeat (first | with_reducible assumption | intro _ | with_reducible apply Memo.ite | simp only [Memo.upd] | dsimp only | split)

theorem judgePtp_memo {s0 : State} (pl : PlaneId) (s : State) (hk : Memo s0 s) : Memo s0 (judgePtp pl s) := by
  unfold judgePtp
  repeat (first | with_reducible assumption | with_reducible apply updPtp_memo | intro _ | with_reducible apply Memo.ite | simp only [Memo.upd] | dsimp only | split)

theorem emitPtp_memo {s0 : State} (pl : PlaneId) (m : PtpMsg) (s : State) (hk : Memo s0 s) : Memo s0 (emitPtp pl m s) := by
  unfold emitPtp
  repeat (first | with_reducible assumption | with_reducible apply sendEth_memo | intro _ | with_reducible apply Memo.ite | simp only [Memo.upd] | dsimp only | split)

theorem ptpMeasure_memo {s0 : State} (ref : Int) (dt : Nat) (s : State) (hk : Memo s0 s) : Memo s0 (ptpMeasure ref dt s) := by
  unfold ptpMeasure
  repeat (first | with_reducible assumption | with_reducible apply updPtp_memo | with_reducible apply steer_memo | with_reducible apply sysMeasure_memo | intro _ | with_reducible apply Memo.ite | simp only [Memo.upd] | dsimp only | split)

theorem gotSync_memo {s0 : State} (t1 : Int) (t2 : Nat) (s : State) (hk : Memo s0 s) : Memo s0 (gotSync t1 t2 s) := by
  unfold gotSync
  repeat (first | with_reducible assumption | with_reducible apply updPtp_memo | with_reducible apply ptpMeasure_memo | intro _ | with_reducible apply Memo.ite | simp only [Memo.upd] | dsimp only | split)

theorem ptpReceive_memo {s0 : State} (pl : PlaneId) (m : PtpMsg) (s : State) (hk : Memo s0 s) : Memo s0 (ptpReceive pl m s) := by
  unfold ptpReceive
  repeat (first | with_reducible assumption | with_reducible apply judgePtp_memo | with_reducible apply updPtp_memo | with_reducible apply gotSync_memo | with_reducible apply emitPtp_memo | intro _ | with_reducible apply Memo.ite | with_reducible apply Memo.iteSnd | with_reducible apply Memo.iteFst | simp only [Memo.upd] | dsimp only | split)

end Sys2Proof.Laws
end

