-- ==== Sys2Proof/Laws/Hbm3.lean ====
section
/-!
SUPPORT. Hbm3.lean: what leaves HBM alone, one lemma per operation, in the order of the definitions (3 of 4).
Memo s t: every byte of HBM is that of s.
-/
set_option linter.all false
namespace Sys2Proof.Laws
open Sys2Proof Sys2Proof.Machine Sys2Proof.Safety

theorem ptpSend_memo {s0 : State} (pl : PlaneId) (k : PtpKind) (s : State) (hk : Memo s0 s) : Memo s0 (ptpSend pl k s) := by
  unfold ptpSend
  repeat (first | with_reducible assumption | with_reducible apply judgePtp_memo | with_reducible apply emitPtp_memo | with_reducible apply updPtp_memo | with_reducible apply sysMeasure_memo | intro _ | with_reducible apply Memo.ite | with_reducible apply Memo.iteSnd | with_reducible apply Memo.iteFst | simp only [Memo.upd] | dsimp only | split)

theorem execPtpEventMessage_memo {s0 : State} (pl : PlaneId) (e : PtpEvent) (s : State) (hk : Memo s0 s) : MemoO s0 (execPtpEventMessage pl e s) := by
  unfold execPtpEventMessage
  repeat (first | with_reducible assumption | with_reducible apply MemoO.next | with_reducible apply MemoO.ite | with_reducible apply placePtp_memo | with_reducible refine ethBad_memo (by with_reducible assumption) ?_ | with_reducible apply notePn_memo | with_reducible apply ptpReceive_memo | with_reducible apply ptpSend_memo | intro _ | with_reducible apply Memo.ite | simp only [Memo.upd] | dsimp only | split)

theorem execSysSyncLoss_memo {s0 : State} (s : State) (hk : Memo s0 s) : MemoO s0 (execSysSyncLoss s) := by
  unfold execSysSyncLoss
  repeat (first | with_reducible assumption | with_reducible apply MemoO.next | with_reducible apply MemoO.ite | with_reducible apply updPtp_memo | intro _ | with_reducible apply Memo.ite | simp only [Memo.upd] | dsimp only | split)

theorem execPtpPortMove_memo {s0 : State} (s : State) (hk : Memo s0 s) : MemoO s0 (execPtpPortMove s) := by
  unfold execPtpPortMove
  repeat (first | with_reducible assumption | with_reducible apply MemoO.next | with_reducible apply MemoO.ite | with_reducible apply placePtp_memo | intro _ | with_reducible apply Memo.ite | simp only [Memo.upd] | dsimp only | split)

theorem checkImage_memo {s0 t : State} {v : Bool} {is : List StageItem} {s : State} (e : checkImage is s = (v, t)) (hk : Memo s0 s) : Memo s0 t := by
  unfold checkImage at e
  (try dsimp only at e)
  repeat' split at e
  all_goals (try cases e)
  all_goals repeat (first | with_reducible assumption | intro _ | with_reducible apply Memo.ite | simp only [Memo.upd] | dsimp only | split)

theorem checkImage_snd_memo {s0 : State} (is : List StageItem) (s : State) (hk : Memo s0 s) : Memo s0 (checkImage is s).2 :=
  checkImage_memo (Prod.eta _).symm hk

theorem runChecks_memo {s0 t : State} {v0 : Nat} {v1 : List StageItem} {s : State} (e : runChecks s = (v0, v1, t)) (hk : Memo s0 s) : Memo s0 t := by
  unfold runChecks at e
  (try dsimp only at e)
  repeat' split at e
  all_goals (try cases e)
  all_goals repeat (first | with_reducible assumption | with_reducible refine checkImage_memo (by with_reducible assumption) ?_ | with_reducible apply checkImage_snd_memo | intro _ | with_reducible apply Memo.ite | with_reducible apply Memo.iteSnd | with_reducible apply Memo.iteFst | simp only [Memo.upd] | dsimp only | split)

theorem runChecks_snd_memo {s0 : State} (s : State) (hk : Memo s0 s) : Memo s0 (runChecks s).2.2 :=
  runChecks_memo rfl hk

theorem endStage_memo {s0 : State} (s : State) (hk : Memo s0 s) : Memo s0 (endStage s) := by
  unfold endStage
  repeat (first | with_reducible assumption | with_reducible apply setCommit_memo | intro _ | with_reducible apply Memo.ite | simp only [Memo.upd] | dsimp only | split)

theorem discardStage_memo {s0 : State} (s : State) (hk : Memo s0 s) : Memo s0 (discardStage s) := by
  unfold discardStage
  repeat (first | with_reducible assumption | with_reducible apply endStage_memo | intro _ | with_reducible apply Memo.ite | simp only [Memo.upd] | dsimp only | split)

theorem execCfgStageOpen_memo {s0 : State} (r : Requester) (v : Nat) (s : State) (hk : Memo s0 s) : MemoO s0 (execCfgStageOpen r v s) := by
  unfold execCfgStageOpen
  repeat (first | with_reducible assumption | with_reducible apply MemoO.next | with_reducible apply MemoO.ite | with_reducible apply setCommit_memo | intro _ | with_reducible apply Memo.ite | simp only [Memo.upd] | dsimp only | split)

theorem execCfgStageSeal_memo {s0 : State} (r : Requester) (v : Nat) (s : State) (hk : Memo s0 s) : MemoO s0 (execCfgStageSeal r v s) := by
  unfold execCfgStageSeal
  repeat (first | with_reducible assumption | with_reducible apply MemoO.next | with_reducible apply MemoO.ite | with_reducible apply setCommit_memo | intro _ | with_reducible apply Memo.ite | simp only [Memo.upd] | dsimp only | split)

theorem execCheckerDone_memo {s0 : State} (s : State) (hk : Memo s0 s) : MemoO s0 (execCheckerDone s) := by
  unfold execCheckerDone
  repeat (first | with_reducible assumption | with_reducible apply MemoO.next | with_reducible apply MemoO.ite | with_reducible refine runChecks_memo (by with_reducible assumption) ?_ | with_reducible apply runChecks_snd_memo | with_reducible apply setCommit_memo | with_reducible apply mgtRecord_memo | intro _ | with_reducible apply Memo.ite | with_reducible apply Memo.iteSnd | with_reducible apply Memo.iteFst | simp only [Memo.upd] | dsimp only | split)

theorem execCfgStageAbort_memo {s0 : State} (r : Requester) (v : Nat) (s : State) (hk : Memo s0 s) : MemoO s0 (execCfgStageAbort r v s) := by
  unfold execCfgStageAbort
  repeat (first | with_reducible assumption | with_reducible apply MemoO.next | with_reducible apply MemoO.ite | with_reducible apply discardStage_memo | intro _ | with_reducible apply Memo.ite | simp only [Memo.upd] | dsimp only | split)

theorem sendCfg_memo {s0 : State} (d : DevId) (m : CfgMsg) (s : State) (hk : Memo s0 s) : Memo s0 (sendCfg d m s) := by
  unfold sendCfg
  repeat (first | with_reducible assumption | with_reducible apply sendMessage_memo | with_reducible apply emit_memo | intro _ | with_reducible apply Memo.ite | simp only [Memo.upd] | dsimp only | split)

theorem sendCfgAll_memo {s0 : State} (ds : List DevId) (m : CfgMsg) (s : State) (hk : Memo s0 s) : Memo s0 (sendCfgAll ds m s) := by
  unfold sendCfgAll
  repeat (first | with_reducible assumption | with_reducible apply eachOf_memo | with_reducible apply sendCfg_memo | intro _ | with_reducible apply Memo.ite | simp only [Memo.upd] | dsimp only | split)

theorem recordAbort_memo {s0 : State} (id reason : Nat) (voter : Option DevId) (s : State) (hk : Memo s0 s) : Memo s0 (recordAbort id reason voter s) := by
  unfold recordAbort
  repeat (first | with_reducible assumption | with_reducible apply mgtRecord_memo | intro _ | with_reducible apply Memo.ite | simp only [Memo.upd] | dsimp only | split)

theorem takeAbort_memo {s0 : State} (reason : Nat) (voter : Option DevId) (s : State) (hk : Memo s0 s) : Memo s0 (takeAbort reason voter s) := by
  unfold takeAbort
  repeat (first | with_reducible assumption | with_reducible apply recordAbort_memo | with_reducible apply discardStage_memo | intro _ | with_reducible apply Memo.ite | simp only [Memo.upd] | dsimp only | split)

theorem passOn_memo {s0 : State} (h : CommitHead) (s : State) (hk : Memo s0 s) : Memo s0 (passOn h s) := by
  unfold passOn
  repeat (first | with_reducible assumption | with_reducible apply sendCfgAll_memo | intro _ | with_reducible apply Memo.ite | simp only [Memo.upd] | dsimp only | split)

theorem takeCommit_memo {s0 : State} (s : State) (hk : Memo s0 s) : Memo s0 (takeCommit s) := by
  unfold takeCommit
  repeat (first | with_reducible assumption | with_reducible apply setCommit_memo | intro _ | with_reducible apply Memo.ite | simp only [Memo.upd] | dsimp only | split)

theorem decideCommit_memo {s0 : State} (s : State) (hk : Memo s0 s) : Memo s0 (decideCommit s) := by
  unfold decideCommit
  repeat (first | with_reducible assumption | with_reducible apply sendCfgAll_memo | with_reducible apply takeCommit_memo | with_reducible apply passOn_memo | intro _ | with_reducible apply Memo.ite | simp only [Memo.upd] | dsimp only | split)

theorem decideAbort_memo {s0 : State} (reason : Nat) (voter : Option DevId) (s : State) (hk : Memo s0 s) : Memo s0 (decideAbort reason voter s) := by
  unfold decideAbort
  repeat (first | with_reducible assumption | with_reducible apply takeAbort_memo | with_reducible apply sendCfgAll_memo | intro _ | with_reducible apply Memo.ite | simp only [Memo.upd] | dsimp only | split)

theorem takeVote_memo {s0 : State} (src : DevId) (yes : Bool) (reason : Nat) (s : State) (hk : Memo s0 s) : Memo s0 (takeVote src yes reason s) := by
  unfold takeVote
  repeat (first | with_reducible assumption | with_reducible apply decideAbort_memo | with_reducible apply decideCommit_memo | intro _ | with_reducible apply Memo.ite | simp only [Memo.upd] | dsimp only | split)

theorem startVote_memo {s0 : State} (head : CommitHead) (s : State) (hk : Memo s0 s) : Memo s0 (startVote head s) := by
  unfold startVote
  repeat (first | with_reducible assumption | with_reducible apply setCommit_memo | intro _ | with_reducible apply Memo.ite | simp only [Memo.upd] | dsimp only | split)

theorem execCfgStageStart_memo {s0 : State} (r : Requester) (v : Nat) (s : State) (hk : Memo s0 s) : MemoO s0 (execCfgStageStart r v s) := by
  unfold execCfgStageStart
  repeat (first | with_reducible assumption | with_reducible apply MemoO.next | with_reducible apply MemoO.ite | with_reducible apply startVote_memo | with_reducible apply sendCfgAll_memo | with_reducible apply takeVote_memo | intro _ | with_reducible apply Memo.ite | simp only [Memo.upd] | dsimp only | split)

theorem execVoteRequestReceive_memo {s0 : State} (src : DevId) (epoch : Nat) (head : CommitHead) (digest : Bytes) (s : State) (hk : Memo s0 s) : MemoO s0 (execVoteRequestReceive src epoch head digest s) := by
  unfold execVoteRequestReceive
  repeat (first | with_reducible assumption | with_reducible apply MemoO.next | with_reducible apply MemoO.ite | with_reducible apply showEpoch_memo | with_reducible apply sendCfg_memo | with_reducible apply setCommit_memo | intro _ | with_reducible apply Memo.ite | simp only [Memo.upd] | dsimp only | split)

theorem execVoteReceive_memo {s0 : State} (src : DevId) (epoch id : Nat) (yes : Bool) (reason : Nat) (s : State) (hk : Memo s0 s) : MemoO s0 (execVoteReceive src epoch id yes reason s) := by
  unfold execVoteReceive
  repeat (first | with_reducible assumption | with_reducible apply MemoO.next | with_reducible apply MemoO.ite | with_reducible apply showEpoch_memo | with_reducible apply takeVote_memo | intro _ | with_reducible apply Memo.ite | simp only [Memo.upd] | dsimp only | split)

theorem execVoteDeadline_memo {s0 : State} (s : State) (hk : Memo s0 s) : MemoO s0 (execVoteDeadline s) := by
  unfold execVoteDeadline
  repeat (first | with_reducible assumption | with_reducible apply MemoO.next | with_reducible apply MemoO.ite | with_reducible apply decideAbort_memo | intro _ | with_reducible apply Memo.ite | simp only [Memo.upd] | dsimp only | split)

theorem bumpEpochs_memo {s0 : State} (h : CommitHead) (s : State) (hk : Memo s0 s) : Memo s0 (bumpEpochs h s) := by
  unfold bumpEpochs
  repeat (first | with_reducible assumption | with_reducible apply Memo.foldl | intro _ | with_reducible apply Memo.ite | simp only [Memo.upd] | dsimp only | split)

theorem applyMap_memo {s0 : State} (m : PlacementItem) (s : State) (hk : Memo s0 s) : Memo s0 (applyMap m s) := by
  unfold applyMap
  repeat (first | with_reducible assumption | with_reducible apply updPart_memo | with_reducible apply Memo.foldl | intro _ | with_reducible apply Memo.ite | simp only [Memo.upd] | dsimp only | split)

theorem execAnnouncementReceive_memo {s0 : State} (src : DevId) (epoch : Nat) (head : CommitHead) (s : State) (hk : Memo s0 s) : MemoO s0 (execAnnouncementReceive src epoch head s) := by
  unfold execAnnouncementReceive
  repeat (first | with_reducible assumption | with_reducible apply MemoO.next | with_reducible apply MemoO.ite | with_reducible apply showEpoch_memo | with_reducible apply passOn_memo | with_reducible apply bumpEpochs_memo | intro _ | with_reducible apply Memo.ite | simp only [Memo.upd] | dsimp only | split)

theorem execFencedQuery_memo {s0 : State} (s : State) (hk : Memo s0 s) : MemoO s0 (execFencedQuery s) := by
  unfold execFencedQuery
  repeat (first | with_reducible assumption | with_reducible apply MemoO.next | with_reducible apply MemoO.ite | with_reducible apply sendCfgAll_memo | intro _ | with_reducible apply Memo.ite | simp only [Memo.upd] | dsimp only | split)

theorem sendRefuse_memo {s0 : State} (d : DevId) (p : PartId) (reason : Nat) (k : Packet) (s : State) (hk : Memo s0 s) : Memo s0 (sendRefuse d p reason k s) := by
  unfold sendRefuse
  repeat (first | with_reducible assumption | with_reducible apply sendTo_memo | with_reducible apply cntPart64_memo | intro _ | with_reducible apply Memo.ite | simp only [Memo.upd] | dsimp only | split)

theorem judgeEpoch_memo {s0 t : State} {v : Bool} {src : DevId} {e dt : Nat} {s : State} (e : judgeEpoch src e dt s = (v, t)) (hk : Memo s0 s) : Memo s0 t := by
  unfold judgeEpoch at e
  (try dsimp only at e)
  repeat' split at e
  all_goals (try cases e)
  all_goals repeat (first | with_reducible assumption | with_reducible apply showEpoch_memo | with_reducible apply cntDev_memo | intro _ | with_reducible apply Memo.ite | with_reducible apply Memo.iteSnd | with_reducible apply Memo.iteFst | simp only [Memo.upd] | dsimp only | split)

theorem judgeEpoch_snd_memo {s0 : State} (src : DevId) (e dt : Nat) (s : State) (hk : Memo s0 s) : Memo s0 (judgeEpoch src e dt s).2 :=
  judgeEpoch_memo (Prod.eta _).symm hk

theorem refuseEpoch_memo {s0 : State} (src : DevId) (p : PartId) (e : Nat) (k : Packet) (source : Nat) (quiet : Bool) (s : State) (hk : Memo s0 s) : Memo s0 (refuseEpoch src p e k source quiet s) := by
  unfold refuseEpoch
  repeat (first | with_reducible assumption | with_reducible apply cntDev_memo | with_reducible apply record_memo | with_reducible apply sendRefuse_memo | with_reducible apply sendCfg_memo | intro _ | with_reducible apply Memo.ite | simp only [Memo.upd] | dsimp only | split)

theorem endAborted_memo {s0 : State} (h : Nat) (s : State) (hk : Memo s0 s) : Memo s0 (endAborted h s) := by
  unfold endAborted
  repeat (first | with_reducible assumption | with_reducible apply cmdFail_memo | with_reducible apply updPart_memo | intro _ | with_reducible apply Memo.ite | simp only [Memo.upd] | dsimp only | split)

theorem raiseAbort_memo {s0 : State} (h code : Nat) (dev : DevId) (s : State) (hk : Memo s0 s) : Memo s0 (raiseAbort h code dev s) := by
  unfold raiseAbort
  repeat (first | with_reducible assumption | with_reducible apply endAborted_memo | with_reducible apply abortComm_memo | intro _ | with_reducible apply Memo.ite | simp only [Memo.upd] | dsimp only | split)

theorem recordLoss_memo {s0 : State} (h : Nat) (p : PartId) (d : DevId) (s : State) (hk : Memo s0 s) : Memo s0 (recordLoss h p d s) := by
  unfold recordLoss
  repeat (first | with_reducible assumption | with_reducible apply record_memo | intro _ | with_reducible apply Memo.ite | simp only [Memo.upd] | dsimp only | split)

theorem runXfr_start_memo {s0 : State} (p : PartId) (op : Nat) (bd : Bytes → State → State) (s : State)
    (hb : ∀ x t, Memo s0 t → Memo s0 (bd x t)) (hk : Memo s0 s) : Memo s0 (runXfr.start p op bd s) := by
  unfold runXfr.start
  split
  · exact hb _ _ (takeCmd_memo (by assumption) hk)
  · exact takeCmd_memo (by assumption) hk

theorem runXfr_memo {s0 : State} (p : PartId) (op : Nat) (bd more : Bytes → State → State) (s : State)
    (hb : ∀ x t, Memo s0 t → Memo s0 (bd x t)) (hm : ∀ x t, Memo s0 t → Memo s0 (more x t)) (hk : Memo s0 s) :
    Memo s0 (runXfr p op bd more s) := by
  unfold runXfr
  split
  · split
    · exact hm _ _ hk
    · exact runXfr_start_memo p op bd s hb hk
  · exact runXfr_start_memo p op bd s hb hk

theorem setXfrAt_memo {s0 : State} (p : PartId) (n : Nat) (s : State) (hk : Memo s0 s) : Memo s0 (setXfrAt p n s) := by
  unfold setXfrAt
  repeat (first | with_reducible assumption | with_reducible apply updExec_memo | intro _ | with_reducible apply Memo.ite | simp only [Memo.upd] | dsimp only | split)

theorem hostWrite_memo {s0 : State} (p : PartId) (kind : HostWriteKind) (addr : Nat) (b : Bytes) (s : State) (hk : Memo s0 s) : Memo s0 (hostWrite p kind addr b s) := by
  unfold hostWrite
  repeat (first | with_reducible assumption | with_reducible apply dmaPush_memo | intro _ | with_reducible apply Memo.ite | simp only [Memo.upd] | dsimp only | split)

theorem takeSlot_memo {s0 : State} (p : PartId) (d : Bytes) (m : Model) (i slot : Nat) (s : State) (hk : Memo s0 s) : Memo s0 (takeSlot p d m i slot s) := by
  unfold takeSlot
  repeat (first | with_reducible assumption | with_reducible apply updSlot_memo | with_reducible apply hostRead_memo | with_reducible apply setXfrAt_memo | intro _ | with_reducible apply Memo.ite | simp only [Memo.upd] | dsimp only | split)

theorem takeSlots_memo {s0 : State} (p : PartId) (d : Bytes) (m : Model) (base : Nat) : ∀ (x0 : List Nat) (s : State), Memo s0 s → Memo s0 (takeSlots p d m base x0 s)
  | [], s, h => by
    unfold takeSlots
    repeat (first | with_reducible assumption | with_reducible apply takeSlot_memo | with_reducible apply cmdFail_memo | intro _ | with_reducible apply Memo.ite | simp only [Memo.upd] | dsimp only | split)
  | i :: rest, s, h => by
    unfold takeSlots
    repeat (first | with_reducible assumption | with_reducible apply takeSlots_memo | with_reducible apply takeSlot_memo | with_reducible apply cmdFail_memo | intro _ | with_reducible apply Memo.ite | simp only [Memo.upd] | dsimp only | split)

theorem tokensInEnd_memo {s0 : State} (p : PartId) (d : Bytes) (s : State) (hk : Memo s0 s) : Memo s0 (tokensInEnd p d s) := by
  unfold tokensInEnd
  repeat (first | with_reducible assumption | with_reducible apply cmdDone_memo | with_reducible apply updJob_memo | intro _ | with_reducible apply Memo.ite | simp only [Memo.upd] | dsimp only | split)

theorem tokensIn_memo {s0 : State} (p : PartId) (d : Bytes) (s : State) (hk : Memo s0 s) : Memo s0 (tokensIn p d s) := by
  unfold tokensIn
  repeat (first | with_reducible assumption | with_reducible apply cmdFail_memo | with_reducible apply takeSlots_memo | with_reducible apply tokensInEnd_memo | intro _ | with_reducible apply Memo.ite | simp only [Memo.upd] | dsimp only | split)

theorem execXfrTokensIn_memo {s0 : State} (p : PartId) (s : State) (hk : Memo s0 s) : MemoO s0 (execXfrTokensIn p s) := by
  unfold execXfrTokensIn
  repeat (first | with_reducible assumption | with_reducible apply MemoO.next | with_reducible apply MemoO.ite | with_reducible apply runXfr_memo | with_reducible apply tokensIn_memo | intro _ | with_reducible apply Memo.ite | simp only [Memo.upd] | dsimp only | split)

theorem recordIntervals_memo {s0 : State} (p : PartId) (s : State) (hk : Memo s0 s) : Memo s0 (recordIntervals p s) := by
  unfold recordIntervals
  repeat (first | with_reducible assumption | with_reducible apply updPart_memo | with_reducible apply Memo.foldl | intro _ | with_reducible apply Memo.ite | with_reducible apply Memo.iteSnd | with_reducible apply Memo.iteFst | simp only [Memo.upd] | dsimp only | split)

theorem outsideMarks_memo {s0 : State} (p : PartId) (d : Bytes) (s : State) (hk : Memo s0 s) : Memo s0 (outsideMarks p d s) := by
  unfold outsideMarks
  repeat (first | with_reducible assumption | with_reducible apply outside_memo | intro _ | with_reducible apply Memo.ite | simp only [Memo.upd] | dsimp only | split)

theorem recordMarks_memo {s0 : State} (p : PartId) (d : Bytes) (s : State) (hk : Memo s0 s) : Memo s0 (recordMarks p d s) := by
  unfold recordMarks
  repeat (first | with_reducible assumption | with_reducible apply cntPart_memo | with_reducible apply updJob_memo | with_reducible apply deadlineMiss_memo | with_reducible apply outsideMarks_memo | intro _ | with_reducible apply Memo.ite | simp only [Memo.upd] | dsimp only | split)

theorem recordCounts_memo {s0 : State} (p : PartId) (s : State) (hk : Memo s0 s) : Memo s0 (recordCounts p s) := by
  unfold recordCounts
  repeat (first | with_reducible assumption | with_reducible apply cntPart64_memo | with_reducible apply updPart_memo | with_reducible apply cntPart_memo | with_reducible apply recordIntervals_memo | intro _ | with_reducible apply Memo.ite | simp only [Memo.upd] | dsimp only | split)

theorem tokensOutRows_memo {s0 : State} (p : PartId) (d : Bytes) (s : State) (hk : Memo s0 s) : Memo s0 (tokensOutRows p d s) := by
  unfold tokensOutRows
  repeat (first | with_reducible assumption | with_reducible apply cmdFail_memo | with_reducible apply eachOf_memo | with_reducible apply hostWrite_memo | with_reducible apply setXfrAt_memo | with_reducible apply cntPart64_memo | intro _ | with_reducible apply Memo.ite | simp only [Memo.upd] | dsimp only | split)

theorem recordIssued_memo {s0 : State} (p : PartId) (s : State) (hk : Memo s0 s) : Memo s0 (recordIssued p s) := by
  unfold recordIssued
  repeat (first | with_reducible assumption | with_reducible apply record_memo | with_reducible apply cmdDone_memo | intro _ | with_reducible apply Memo.ite | simp only [Memo.upd] | dsimp only | split)

theorem tokensOutRecord_memo {s0 : State} (p : PartId) (d : Bytes) (s : State) (hk : Memo s0 s) : Memo s0 (tokensOutRecord p d s) := by
  unfold tokensOutRecord
  repeat (first | with_reducible assumption | with_reducible apply recordMarks_memo | with_reducible apply recordCounts_memo | with_reducible apply cmdDone_memo | with_reducible apply updPart_memo | with_reducible apply setXfrAt_memo | with_reducible apply record_memo | with_reducible apply recordIssued_memo | with_reducible apply settleReleased_memo | with_reducible apply issueRecord_memo | intro _ | with_reducible apply Memo.ite | simp only [Memo.upd] | dsimp only | split)

theorem heldRecord_memo {s0 : State} (p : PartId) (s : State) (hk : Memo s0 s) : Memo s0 (heldRecord p s) := by
  unfold heldRecord
  repeat (first | with_reducible assumption | with_reducible apply wakeEvent_memo | with_reducible apply updExec_memo | intro _ | with_reducible apply Memo.ite | simp only [Memo.upd] | dsimp only | split)

theorem tokensOut_memo {s0 : State} (p : PartId) (d : Bytes) (s : State) (hk : Memo s0 s) : Memo s0 (tokensOut p d s) := by
  unfold tokensOut
  repeat (first | with_reducible assumption | with_reducible apply tokensOutRows_memo | with_reducible apply heldRecord_memo | with_reducible apply recordIssued_memo | with_reducible apply outsideMarks_memo | with_reducible apply dualStart_memo | with_reducible apply setXfrAt_memo | with_reducible apply updPart_memo | with_reducible apply dmaPush_memo | with_reducible apply tokensOutRecord_memo | intro _ | with_reducible apply Memo.ite | simp only [Memo.upd] | dsimp only | split)

theorem execXfrTokensOut_memo {s0 : State} (p : PartId) (s : State) (hk : Memo s0 s) : MemoO s0 (execXfrTokensOut p s) := by
  unfold execXfrTokensOut
  repeat (first | with_reducible assumption | with_reducible apply MemoO.next | with_reducible apply MemoO.ite | with_reducible apply runXfr_memo | with_reducible apply tokensOut_memo | intro _ | with_reducible apply Memo.ite | simp only [Memo.upd] | dsimp only | split)

theorem copyMore_memo {s0 : State} (p : PartId) (d : Bytes) (s : State) (hk : Memo s0 s) : Memo s0 (copyMore p d s) := by
  unfold copyMore
  repeat (first | with_reducible assumption | with_reducible apply cmdDone_memo | intro _ | with_reducible apply Memo.ite | simp only [Memo.upd] | dsimp only | split)

theorem updRun_memo {s0 : State} (p : PartId) (f : ColRun → ColRun) (s : State) (hk : Memo s0 s) : Memo s0 (updRun p f s) := by
  unfold updRun
  repeat (first | with_reducible assumption | with_reducible apply updPart_memo | intro _ | with_reducible apply Memo.ite | simp only [Memo.upd] | dsimp only | split)

theorem updChunk_memo {s0 : State} (p : PartId) (k : Nat) (f : ChunkSt → ChunkSt) (s : State) (hk : Memo s0 s) : Memo s0 (updChunk p k f s) := by
  unfold updChunk
  repeat (first | with_reducible assumption | with_reducible apply updRun_memo | intro _ | with_reducible apply Memo.ite | simp only [Memo.upd] | dsimp only | split)

theorem sendChunk_memo {s0 : State} (p : PartId) (v : ColView) (o : ChunkOut) (retx : Bool) (s : State) (hk : Memo s0 s) : Memo s0 (sendChunk p v o retx s) := by
  unfold sendChunk
  repeat (first | with_reducible assumption | with_reducible apply updComm_memo | with_reducible apply eachOf_memo | with_reducible apply sendPiece_memo | intro _ | with_reducible apply Memo.ite | with_reducible apply Memo.iteSnd | with_reducible apply Memo.iteFst | simp only [Memo.upd] | dsimp only | split)

theorem sendMsg_memo {s0 : State} (p : PartId) (v : ColView) (k : Nat) (o : ChunkOut) (s : State) (hk : Memo s0 s) : Memo s0 (sendMsg p v k o s) := by
  unfold sendMsg
  repeat (first | with_reducible assumption | with_reducible apply sendChunk_memo | with_reducible apply updChunk_memo | intro _ | with_reducible apply Memo.ite | simp only [Memo.upd] | dsimp only | split)

theorem answerChunk_memo {s0 : State} (p : PartId) (x : Piece) (kind : Nat) (s : State) (hk : Memo s0 s) : Memo s0 (answerChunk p x kind s) := by
  unfold answerChunk
  repeat (first | with_reducible assumption | with_reducible apply sendPiece_memo | intro _ | with_reducible apply Memo.ite | simp only [Memo.upd] | dsimp only | split)

theorem noteLag_memo {s0 : State} (v : ColView) (ownDt : Nat) (ins : List ChunkIn) (s : State) (hk : Memo s0 s) : Memo s0 (noteLag v ownDt ins s) := by
  unfold noteLag
  repeat (first | with_reducible assumption | with_reducible apply updComm_memo | with_reducible apply Memo.foldl | intro _ | with_reducible apply Memo.ite | simp only [Memo.upd] | dsimp only | split)

theorem openChunk_memo {s0 : State} (p : PartId) (v : ColView) (s : State) (hk : Memo s0 s) : Memo s0 (openChunk p v s) := by
  unfold openChunk
  repeat (first | with_reducible assumption | with_reducible apply updRun_memo | with_reducible apply sendMsg_memo | with_reducible apply cntPart_memo | with_reducible apply Memo.foldl | intro _ | with_reducible apply Memo.ite | with_reducible apply Memo.iteSnd | with_reducible apply Memo.iteFst | simp only [Memo.upd] | dsimp only | split)

theorem failSource_memo {s0 : State} (p : PartId) (v : ColView) (e : CmdErr) (s : State) (hk : Memo s0 s) : Memo s0 (failSource p v e s) := by
  unfold failSource
  repeat (first | with_reducible assumption | with_reducible apply cmdFail_memo | with_reducible apply abortComm_memo | with_reducible apply updPart_memo | intro _ | with_reducible apply Memo.ite | simp only [Memo.upd] | dsimp only | split)

theorem setReasm_memo {s0 : State} (x : Piece) (r : Option Reasm) (s : State) (hk : Memo s0 s) : Memo s0 (setReasm x r s) := by
  unfold setReasm
  repeat (first | with_reducible assumption | intro _ | with_reducible apply Memo.ite | simp only [Memo.upd] | dsimp only | split)

theorem notPresent_memo {s0 : State} (x : Piece) (s : State) (hk : Memo s0 s) : Memo s0 (notPresent x s) := by
  unfold notPresent
  repeat (first | with_reducible assumption | with_reducible apply sendPiece_memo | intro _ | with_reducible apply Memo.ite | simp only [Memo.upd] | dsimp only | split)

theorem becomeActive_memo {s0 : State} (h : Nat) (s : State) (hk : Memo s0 s) : Memo s0 (becomeActive h s) := by
  unfold becomeActive
  repeat (first | with_reducible assumption | with_reducible apply updComm_memo | with_reducible apply cmdDone_memo | with_reducible apply updStream_memo | intro _ | with_reducible apply Memo.ite | with_reducible apply Memo.iteSnd | with_reducible apply Memo.iteFst | simp only [Memo.upd] | dsimp only | split)

theorem sendReady_memo {s0 : State} (c : Comm) (ds : List DevId) (s : State) (hk : Memo s0 s) : Memo s0 (sendReady c ds s) := by
  unfold sendReady
  repeat (first | with_reducible assumption | with_reducible apply eachOf_memo | with_reducible apply sendPiece_memo | intro _ | with_reducible apply Memo.ite | simp only [Memo.upd] | dsimp only | split)

theorem takeReady_memo {s0 : State} (h : Nat) (s : State) (hk : Memo s0 s) : Memo s0 (takeReady h s) := by
  unfold takeReady
  repeat (first | with_reducible assumption | with_reducible apply becomeActive_memo | with_reducible apply sendReady_memo | intro _ | with_reducible apply Memo.ite | simp only [Memo.upd] | dsimp only | split)

theorem joinSettle_memo {s0 : State} (h : Nat) (s : State) (hk : Memo s0 s) : Memo s0 (joinSettle h s) := by
  unfold joinSettle
  repeat (first | with_reducible assumption | with_reducible apply sendPiece_memo | with_reducible apply updComm_memo | with_reducible apply takeReady_memo | with_reducible apply sendReady_memo | intro _ | with_reducible apply Memo.ite | simp only [Memo.upd] | dsimp only | split)

theorem createFails_memo {s0 : State} (p : PartId) (ct status : Nat) (s : State) (hk : Memo s0 s) : Memo s0 (createFails p ct status s) := by
  unfold createFails
  repeat (first | with_reducible assumption | with_reducible apply cmdDone_memo | with_reducible apply updStream_memo | intro _ | with_reducible apply Memo.ite | simp only [Memo.upd] | dsimp only | split)

theorem startCreate_memo {s0 : State} (p : PartId) (d : Bytes) (m : List DevId) (s : State) (hk : Memo s0 s) : Memo s0 (startCreate p d m s) := by
  unfold startCreate
  repeat (first | with_reducible assumption | with_reducible apply createFails_memo | with_reducible apply updExec_memo | with_reducible apply setComm_memo | with_reducible apply joinSettle_memo | with_reducible apply sendPiece_memo | intro _ | with_reducible apply Memo.ite | with_reducible apply Memo.iteSnd | with_reducible apply Memo.iteFst | simp only [Memo.upd] | dsimp only | split)

theorem execColCommCreate_memo {s0 : State} (p : PartId) (s : State) (hk : Memo s0 s) : MemoO s0 (execColCommCreate p s) := by
  unfold execColCommCreate
  repeat (first | with_reducible assumption | with_reducible apply MemoO.next | with_reducible apply MemoO.ite | with_reducible apply runCmd_memo | with_reducible apply cmdFail_memo | with_reducible apply startCreate_memo | with_reducible apply chargeRead_memo | intro _ | with_reducible apply Memo.ite | with_reducible apply Memo.iteSnd | with_reducible apply Memo.iteFst | simp only [Memo.upd] | dsimp only | split)

theorem execColCommDestroy_memo {s0 : State} (p : PartId) (s : State) (hk : Memo s0 s) : MemoO s0 (execColCommDestroy p s) := by
  unfold execColCommDestroy
  repeat (first | with_reducible assumption | with_reducible apply MemoO.next | with_reducible apply MemoO.ite | with_reducible apply runCmd_memo | with_reducible apply cmdFail_memo | with_reducible apply cmdDone_memo | with_reducible apply setComm_memo | intro _ | with_reducible apply Memo.ite | simp only [Memo.upd] | dsimp only | split)

theorem ifActive_memo {s0 : State} (x : Piece) (s : State) (hk : Memo s0 s) : Memo s0 (ifActive x s) := by
  unfold ifActive
  repeat (first | with_reducible assumption | with_reducible apply notPresent_memo | intro _ | with_reducible apply Memo.ite | simp only [Memo.upd] | dsimp only | split)

theorem ackPiece_memo {s0 : State} (x : Piece) (s : State) (hk : Memo s0 s) : Memo s0 (ackPiece x s) := by
  unfold ackPiece
  repeat (first | with_reducible assumption | with_reducible apply updRun_memo | intro _ | with_reducible apply Memo.ite | simp only [Memo.upd] | dsimp only | split)

theorem nackPiece_memo {s0 : State} (x : Piece) (s : State) (hk : Memo s0 s) : Memo s0 (nackPiece x s) := by
  unfold nackPiece
  repeat (first | with_reducible assumption | with_reducible apply sendChunk_memo | intro _ | with_reducible apply Memo.ite | simp only [Memo.upd] | dsimp only | split)

theorem holdJoin_memo {s0 : State} (x : Piece) (s : State) (hk : Memo s0 s) : Memo s0 (holdJoin x s) := by
  unfold holdJoin
  repeat (first | with_reducible assumption | intro _ | with_reducible apply Memo.ite | simp only [Memo.upd] | dsimp only | split)

theorem joinPiece_memo {s0 : State} (x : Piece) (s : State) (hk : Memo s0 s) : Memo s0 (joinPiece x s) := by
  unfold joinPiece
  repeat (first | with_reducible assumption | with_reducible apply ifActive_memo | with_reducible apply joinSettle_memo | with_reducible apply holdJoin_memo | with_reducible apply notPresent_memo | intro _ | with_reducible apply Memo.ite | simp only [Memo.upd] | dsimp only | split)

theorem readyPiece_memo {s0 : State} (x : Piece) (s : State) (hk : Memo s0 s) : Memo s0 (readyPiece x s) := by
  unfold readyPiece
  repeat (first | with_reducible assumption | with_reducible apply takeReady_memo | with_reducible apply ifActive_memo | intro _ | with_reducible apply Memo.ite | simp only [Memo.upd] | dsimp only | split)

theorem probePiece_memo {s0 : State} (x : Piece) (s : State) (hk : Memo s0 s) : Memo s0 (probePiece x s) := by
  unfold probePiece
  repeat (first | with_reducible assumption | with_reducible apply sendPiece_memo | with_reducible apply notPresent_memo | intro _ | with_reducible apply Memo.ite | simp only [Memo.upd] | dsimp only | split)

theorem answered_memo {s0 : State} (p : PartId) (d : DevId) (s : State) (hk : Memo s0 s) : Memo s0 (answered p d s) := by
  unfold answered
  repeat (first | with_reducible assumption | with_reducible apply updConj_memo | with_reducible apply updRun_memo | intro _ | with_reducible apply Memo.ite | with_reducible apply Memo.iteSnd | with_reducible apply Memo.iteFst | simp only [Memo.upd] | dsimp only | split)

theorem createLapse_memo {s0 : State} (p : PartId) (h : Nat) (s : State) (hk : Memo s0 s) : Memo s0 (createLapse p h s) := by
  unfold createLapse
  repeat (first | with_reducible assumption | with_reducible apply setComm_memo | with_reducible apply createFails_memo | intro _ | with_reducible apply Memo.ite | with_reducible apply Memo.iteSnd | with_reducible apply Memo.iteFst | simp only [Memo.upd] | dsimp only | split)

theorem execCommCreateTimeout_memo {s0 : State} (p : PartId) (s : State) (hk : Memo s0 s) : MemoO s0 (execCommCreateTimeout p s) := by
  unfold execCommCreateTimeout
  repeat (first | with_reducible assumption | with_reducible apply MemoO.next | with_reducible apply MemoO.ite | with_reducible apply eachOf_memo | with_reducible apply createLapse_memo | intro _ | with_reducible apply Memo.ite | simp only [Memo.upd] | dsimp only | split)

theorem execColCommandTimeout_memo {s0 : State} (p : PartId) (s : State) (hk : Memo s0 s) : MemoO s0 (execColCommandTimeout p s) := by
  unfold execColCommandTimeout
  repeat (first | with_reducible assumption | with_reducible apply MemoO.next | with_reducible apply MemoO.ite | with_reducible apply raiseAbort_memo | intro _ | with_reducible apply Memo.ite | simp only [Memo.upd] | dsimp only | split)

theorem refuseBare_memo {s0 : State} (k : PortId) (s : State) (hk : Memo s0 s) : Memo s0 (refuseBare k s) := by
  unfold refuseBare
  repeat (first | with_reducible assumption | with_reducible apply cntPort_memo | with_reducible apply record_memo | with_reducible apply secLogMerged_memo | intro _ | with_reducible apply Memo.ite | simp only [Memo.upd] | dsimp only | split)

theorem leaveL1_memo {s0 : State} (k : PortId) (s : State) (hk : Memo s0 s) : Memo s0 (leaveL1 k s) := by
  unfold leaveL1
  repeat (first | with_reducible assumption | with_reducible apply updPort_memo | intro _ | with_reducible apply Memo.ite | simp only [Memo.upd] | dsimp only | split)

theorem hostMem_memo {s0 t : State} {v : MemGate} {k : PortId} {bare : Bool} {bar0 : Option Nat} {s : State} (e : hostMem k bare bar0 s = (v, t)) (hk : Memo s0 s) : Memo s0 t := by
  unfold hostMem at e
  (try dsimp only at e)
  repeat' split at e
  all_goals (try cases e)
  all_goals repeat (first | with_reducible assumption | with_reducible apply leaveL1_memo | with_reducible apply refuseBare_memo | intro _ | with_reducible apply Memo.ite | simp only [Memo.upd] | dsimp only | split)

theorem hostMem_snd_memo {s0 : State} (k : PortId) (bare : Bool) (bar0 : Option Nat) (s : State) (hk : Memo s0 s) : Memo s0 (hostMem k bare bar0 s).2 :=
  hostMem_memo (Prod.eta _).symm hk

theorem hostPart_memo {s0 t : State} {v : Option PartId} {r : Requester} {off : Nat} {s : State} (e : hostPart r off s = (v, t)) (hk : Memo s0 s) : Memo s0 t := by
  unfold hostPart at e
  (try dsimp only at e)
  repeat' split at e
  all_goals (try cases e)
  all_goals repeat (first | with_reducible assumption | with_reducible refine hostMem_memo (by with_reducible assumption) ?_ | with_reducible apply hostMem_snd_memo | intro _ | with_reducible apply Memo.ite | with_reducible apply Memo.iteSnd | with_reducible apply Memo.iteFst | simp only [Memo.upd] | dsimp only | split)

theorem hostPart_snd_memo {s0 : State} (r : Requester) (off : Nat) (s : State) (hk : Memo s0 s) : Memo s0 (hostPart r off s).2 :=
  hostPart_memo (Prod.eta _).symm hk

theorem updLoad_memo {s0 : State} (p : PartId) (f : Load → Load) (s : State) (hk : Memo s0 s) : Memo s0 (updLoad p f s) := by
  unfold updLoad
  repeat (first | with_reducible assumption | with_reducible apply updPart_memo | intro _ | with_reducible apply Memo.ite | simp only [Memo.upd] | dsimp only | split)

theorem loadDecide_memo {s0 : State} (p : PartId) (r : Refuse) (s : State) (hk : Memo s0 s) : Memo s0 (loadDecide p r s) := by
  unfold loadDecide
  repeat (first | with_reducible assumption | with_reducible apply updLoad_memo | intro _ | with_reducible apply Memo.ite | with_reducible apply Memo.iteSnd | with_reducible apply Memo.iteFst | simp only [Memo.upd] | dsimp only | split)

theorem modelsChanged_memo {s0 : State} (p : PartId) (s : State) (hk : Memo s0 s) : Memo s0 (modelsChanged p s) := by
  unfold modelsChanged
  repeat (first | with_reducible assumption | with_reducible apply mgtEvent_memo | intro _ | with_reducible apply Memo.ite | simp only [Memo.upd] | dsimp only | split)

theorem makeResident_memo {s0 : State} (p : PartId) (x : Load) (h : Bytes) (m : Model) (s : State) (hk : Memo s0 s) : Memo s0 (makeResident p x h m s) := by
  unfold makeResident
  repeat (first | with_reducible assumption | with_reducible apply updPart_memo | with_reducible apply eachOf_memo | with_reducible apply tdPut_memo | with_reducible apply modelsChanged_memo | with_reducible apply updLoad_memo | intro _ | with_reducible apply Memo.ite | with_reducible apply Memo.iteSnd | with_reducible apply Memo.iteFst | simp only [Memo.upd] | dsimp only | split)

theorem loadFetch_memo {s0 : State} (p : PartId) (n : Nat) (want : Nat → Bool) (done : State → State) (s : State) (hdone : ∀ x0, Memo s0 x0 → Memo s0 (done x0)) (hk : Memo s0 s) : Memo s0 (loadFetch p n want done s) := by
  unfold loadFetch
  repeat (first | with_reducible apply hdone | with_reducible assumption | with_reducible apply updLoad_memo | with_reducible apply eachOf_memo | with_reducible apply hostRead_memo | with_reducible apply Memo.foldl | intro _ | with_reducible apply Memo.ite | simp only [Memo.upd] | dsimp only | split)

theorem loadReport_memo {s0 : State} (p : PartId) (d : Bytes) (s : State) (hk : Memo s0 s) : Memo s0 (loadReport p d s) := by
  unfold loadReport
  repeat (first | with_reducible assumption | with_reducible apply updPart_memo | with_reducible apply hostWrite_memo | with_reducible apply updStream_memo | with_reducible apply cmdDone_memo | with_reducible apply cmdFail_memo | intro _ | with_reducible apply Memo.ite | simp only [Memo.upd] | dsimp only | split)

theorem execXfrLoadModel_memo {s0 : State} (p : PartId) (s : State) (hk : Memo s0 s) : MemoO s0 (execXfrLoadModel p s) := by
  unfold execXfrLoadModel
  repeat (first | with_reducible assumption | with_reducible apply MemoO.next | with_reducible apply MemoO.ite | with_reducible apply runXfr_memo | with_reducible apply cmdFail_memo | with_reducible apply hostRead_memo | with_reducible apply updPart_memo | with_reducible apply loadReport_memo | intro _ | with_reducible apply Memo.ite | simp only [Memo.upd] | dsimp only | split)

theorem execXfrUnloadModel_memo {s0 : State} (p : PartId) (s : State) (hk : Memo s0 s) : MemoO s0 (execXfrUnloadModel p s) := by
  unfold execXfrUnloadModel
  repeat (first | with_reducible assumption | with_reducible apply MemoO.next | with_reducible apply MemoO.ite | with_reducible apply runXfr_memo | with_reducible apply cmdFail_memo | with_reducible apply eachOf_memo | with_reducible apply tdPut_memo | with_reducible apply cmdDone_memo | with_reducible apply modelsChanged_memo | with_reducible apply updPart_memo | intro _ | with_reducible apply Memo.ite | with_reducible apply Memo.iteSnd | with_reducible apply Memo.iteFst | simp only [Memo.upd] | dsimp only | split)

theorem xfrAdvance_memo {s0 : State} (p : PartId) (s : State) (hk : Memo s0 s) : Memo s0 (xfrAdvance p s) := by
  unfold xfrAdvance
  repeat (first | with_reducible assumption | with_reducible apply tokensIn_memo | with_reducible apply tokensOut_memo | with_reducible apply copyMore_memo | with_reducible apply loadReport_memo | intro _ | with_reducible apply Memo.ite | simp only [Memo.upd] | dsimp only | split)

theorem updSb_memo {s0 : State} (p : PartId) (f : SbPart → SbPart) (s : State) (hk : Memo s0 s) : Memo s0 (updSb p f s) := by
  unfold updSb
  repeat (first | with_reducible assumption | with_reducible apply updPart_memo | intro _ | with_reducible apply Memo.ite | simp only [Memo.upd] | dsimp only | split)

theorem restoreSyc_memo {s0 : State} (p : PartId) (g : Bytes) (s : State) (hk : Memo s0 s) : Memo s0 (restoreSyc p g s) := by
  unfold restoreSyc
  repeat (first | with_reducible assumption | with_reducible apply eachOf_memo | with_reducible apply sycSetAt_memo | with_reducible apply clearSyc_memo | intro _ | with_reducible apply Memo.ite | simp only [Memo.upd] | dsimp only | split)

theorem restorePart_memo {s0 : State} (p : PartId) (s : State) (hk : Memo s0 s) : Memo s0 (restorePart p s) := by
  unfold restorePart
  repeat (first | with_reducible assumption | with_reducible apply eachOf_memo | with_reducible apply stopStream_memo | with_reducible apply closeJob_memo | with_reducible apply orphanReads_memo | with_reducible apply updPart_memo | with_reducible apply updStream_memo | with_reducible apply clearSyc_memo | with_reducible apply restoreSyc_memo | with_reducible apply updSb_memo | with_reducible apply record_memo | with_reducible apply settleReleased_memo | with_reducible apply msixPart_memo | intro _ | with_reducible apply Memo.ite | simp only [Memo.upd] | dsimp only | split)

theorem tornSnapshot_memo {s0 : State} (p : PartId) (s : State) (hk : Memo s0 s) : Memo s0 (tornSnapshot p s) := by
  unfold tornSnapshot
  repeat (first | with_reducible assumption | with_reducible apply cntPart_memo | with_reducible apply updSb_memo | with_reducible apply record_memo | intro _ | with_reducible apply Memo.ite | simp only [Memo.upd] | dsimp only | split)

theorem readDone_memo {s0 : State} (p : PartId) (s : State) (hk : Memo s0 s) : Memo s0 (readDone p s) := by
  unfold readDone
  repeat (first | with_reducible assumption | with_reducible apply restorePart_memo | with_reducible apply hostRead_memo | with_reducible apply updSb_memo | intro _ | with_reducible apply Memo.ite | simp only [Memo.upd] | dsimp only | split)

theorem doneJudge_memo {s0 : State} (p : PartId) (found : Bool) (s : State) (hk : Memo s0 s) : Memo s0 (doneJudge p found s) := by
  unfold doneJudge
  repeat (first | with_reducible assumption | with_reducible apply readDone_memo | with_reducible apply updSb_memo | with_reducible apply restorePart_memo | with_reducible apply eachOf_memo | with_reducible apply issueRecord_memo | intro _ | with_reducible apply Memo.ite | with_reducible apply Memo.iteSnd | with_reducible apply Memo.iteFst | simp only [Memo.upd] | dsimp only | split)

theorem doneArrive_memo {s0 : State} (p : PartId) (b : Bytes) (s : State) (hk : Memo s0 s) : Memo s0 (doneArrive p b s) := by
  unfold doneArrive
  repeat (first | with_reducible assumption | with_reducible apply updSb_memo | with_reducible apply doneJudge_memo | intro _ | with_reducible apply Memo.ite | simp only [Memo.upd] | dsimp only | split)

theorem failover_memo {s0 : State} (cause : Nat) (s : State) (hk : Memo s0 s) : Memo s0 (failover cause s) := by
  unfold failover
  repeat (first | with_reducible assumption | with_reducible apply cntDev_memo | with_reducible apply setSb_memo | with_reducible apply eachOf_memo | with_reducible apply tornSnapshot_memo | with_reducible apply readDone_memo | with_reducible apply updSb_memo | intro _ | with_reducible apply Memo.ite | simp only [Memo.upd] | dsimp only | split)

theorem cfgWrite_memo {s0 : State} (k : PortId) (f : State → State) (s : State) (hf : ∀ t, Memo s0 t → Memo s0 (f t)) (hk : Memo s0 s) : Memo s0 (cfgWrite k f s) := by
  unfold cfgWrite
  repeat (first | with_reducible assumption | with_reducible apply hf | with_reducible apply emit_memo | with_reducible apply leaveL1_memo | with_reducible apply Memo.ite | split)

theorem aerPoisoned_memo {s0 : State} (k : PortId) (s : State) (hk : Memo s0 s) : Memo s0 (aerPoisoned k s) := by
  unfold aerPoisoned
  repeat (first | with_reducible assumption | with_reducible apply updPort_memo | intro _ | with_reducible apply Memo.ite | simp only [Memo.upd] | dsimp only | split)

theorem aerUnexpected_memo {s0 : State} (k : PortId) (s : State) (hk : Memo s0 s) : Memo s0 (aerUnexpected k s) := by
  unfold aerUnexpected
  repeat (first | with_reducible assumption | with_reducible apply updPort_memo | intro _ | with_reducible apply Memo.ite | simp only [Memo.upd] | dsimp only | split)

theorem poisonedWrite_memo {s0 : State} (k : PortId) (s : State) (hk : Memo s0 s) : Memo s0 (poisonedWrite k s) := by
  unfold poisonedWrite
  repeat (first | with_reducible assumption | with_reducible apply aerPoisoned_memo | with_reducible apply cntPort_memo | intro _ | with_reducible apply Memo.ite | simp only [Memo.upd] | dsimp only | split)

theorem updAsm_memo {s0 : State} (k : PortId) (st : StreamId) (f : Assembly → Assembly) (s : State) (hk : Memo s0 s) : Memo s0 (updAsm k st f s) := by
  unfold updAsm
  repeat (first | with_reducible assumption | with_reducible apply updPort_memo | intro _ | with_reducible apply Memo.ite | simp only [Memo.upd] | dsimp only | split)

theorem discardBlock_memo {s0 : State} (n : Nat) (k : PortId) (s : State) (hk : Memo s0 s) : Memo s0 (discardBlock n k s) := by
  unfold discardBlock
  repeat (first | with_reducible assumption | with_reducible apply cntPort_memo | intro _ | with_reducible apply Memo.ite | simp only [Memo.upd] | dsimp only | split)

theorem asmWrite_memo {s0 : State} (k : PortId) (p : PartId) (st : StreamId) (block o : Nat) (b : Bytes) (ep : Bool) (s : State) (hk : Memo s0 s) : Memo s0 (asmWrite k p st block o b ep s) := by
  unfold asmWrite
  repeat (first | with_reducible assumption | with_reducible apply discardBlock_memo | with_reducible apply updAsm_memo | with_reducible apply enterDesc_memo | with_reducible apply Memo.foldl | intro _ | with_reducible apply Memo.ite | simp only [Memo.upd] | dsimp only | split)

theorem bar2Piece_memo {s0 : State} (k : PortId) (p : PartId) (off : Nat) (ep : Bool) (data : Bytes) (x : Nat × Nat) (s : State) (hk : Memo s0 s) : Memo s0 (bar2Piece k p off ep data x s) := by
  unfold bar2Piece
  repeat (first | with_reducible assumption | with_reducible apply discardBlock_memo | with_reducible apply asmWrite_memo | intro _ | with_reducible apply Memo.ite | with_reducible apply Memo.iteSnd | with_reducible apply Memo.iteFst | simp only [Memo.upd] | dsimp only | split)

theorem bar2Write_memo {s0 : State} (r : Requester) (off : Nat) (data : Bytes) (ep : Bool) (s : State) (hk : Memo s0 s) : Memo s0 (bar2Write r off data ep s) := by
  unfold bar2Write
  repeat (first | with_reducible assumption | with_reducible refine hostMem_memo (by with_reducible assumption) ?_ | with_reducible apply hostMem_snd_memo | with_reducible apply eachOf_memo | with_reducible apply bar2Piece_memo | with_reducible apply poisonedWrite_memo | intro _ | with_reducible apply Memo.ite | with_reducible apply Memo.iteSnd | with_reducible apply Memo.iteFst | simp only [Memo.upd] | dsimp only | split)

theorem execBar2Write_memo {s0 : State} (r : Requester) (off : Nat) (data : Bytes) (ep : Bool) (s : State) (hk : Memo s0 s) : MemoO s0 (execBar2Write r off data ep s) := by
  unfold execBar2Write
  repeat (first | with_reducible assumption | with_reducible apply MemoO.next | with_reducible apply MemoO.ite | with_reducible apply bar2Write_memo | intro _ | with_reducible apply Memo.ite | simp only [Memo.upd] | dsimp only | split)

theorem bar4Refuse_memo {s0 : State} (k : PortId) (p : PartId) (off : Nat) (s : State) (hk : Memo s0 s) : Memo s0 (bar4Refuse k p off s) := by
  unfold bar4Refuse
  repeat (first | with_reducible assumption | with_reducible apply record_memo | with_reducible apply cntPort_memo | intro _ | with_reducible apply Memo.ite | simp only [Memo.upd] | dsimp only | split)

theorem bar4Hold_memo {s0 : State} (k : PortId) (p : PartId) (x : Nat × Nat × Option (Bytes × Bool)) (s : State) (hk : Memo s0 s) : Memo s0 (bar4Hold k p x s) := by
  unfold bar4Hold
  repeat (first | with_reducible assumption | with_reducible apply stall_memo | with_reducible apply updPort_memo | intro _ | with_reducible apply Memo.ite | simp only [Memo.upd] | dsimp only | split)

theorem bar4ReadOn_memo {s0 : State} (k : PortId) (off len : Nat) (s : State) (hk : Memo s0 s) : Memo s0 (bar4ReadOn k off len s) := by
  unfold bar4ReadOn
  repeat (first | with_reducible assumption | with_reducible apply bar4Hold_memo | with_reducible apply eachOf_memo | with_reducible apply emit_memo | with_reducible apply record_memo | with_reducible apply meetHbm_memo | with_reducible apply charge_memo | with_reducible apply bar4Refuse_memo | intro _ | with_reducible apply Memo.ite | with_reducible apply Memo.iteSnd | with_reducible apply Memo.iteFst | simp only [Memo.upd] | dsimp only | split)

theorem bar4Read_memo {s0 : State} (r : Requester) (off len : Nat) (s : State) (hk : Memo s0 s) : MemoO s0 (bar4Read r off len s) := by
  unfold bar4Read
  repeat (first | with_reducible assumption | with_reducible apply MemoO.next | with_reducible apply MemoO.ite | with_reducible refine hostMem_memo (by with_reducible assumption) ?_ | with_reducible apply hostMem_snd_memo | with_reducible apply bar4ReadOn_memo | with_reducible apply emit_memo | intro _ | with_reducible apply Memo.ite | with_reducible apply Memo.iteSnd | with_reducible apply Memo.iteFst | simp only [Memo.upd] | dsimp only | split)

theorem ideInsecure_memo {s0 : State} (k : PortId) (i : Fin 5) (s : State) (hk : Memo s0 s) : Memo s0 (ideInsecure k i s) := by
  unfold ideInsecure
  repeat (first | with_reducible assumption | with_reducible apply secLog_memo | with_reducible apply updPort_memo | intro _ | with_reducible apply Memo.ite | simp only [Memo.upd] | dsimp only | split)

theorem dropPortView_memo {s0 : State} (k : PortId) (s : State) (hk : Memo s0 s) : Memo s0 (dropPortView k s) := by
  unfold dropPortView
  repeat (first | with_reducible assumption | intro _ | with_reducible apply Memo.ite | with_reducible apply Memo.iteSnd | with_reducible apply Memo.iteFst | simp only [Memo.upd] | dsimp only | split)

theorem resetFunction_memo {s0 : State} (kind : PortReset) (k : PortId) (s : State) (hk : Memo s0 s) : Memo s0 (resetFunction kind k s) := by
  unfold resetFunction
  repeat (first | with_reducible assumption | with_reducible apply linkDown_memo | with_reducible apply eachOf_memo | with_reducible apply ideInsecure_memo | with_reducible apply dropPortView_memo | with_reducible apply updPort_memo | with_reducible apply discardBlock_memo | intro _ | with_reducible apply Memo.ite | simp only [Memo.upd] | dsimp only | split)

theorem execPerstRelease_memo {s0 : State} (k : PortId) (s : State) (hk : Memo s0 s) : MemoO s0 (execPerstRelease k s) := by
  unfold execPerstRelease
  repeat (first | with_reducible assumption | with_reducible apply MemoO.next | with_reducible apply MemoO.ite | with_reducible apply quietExit_memo | with_reducible apply portEvent_memo | with_reducible apply driveWake_memo | intro _ | with_reducible apply Memo.ite | simp only [Memo.upd] | dsimp only | split)

theorem execFunctionReady_memo {s0 : State} (k : PortId) (s : State) (hk : Memo s0 s) : MemoO s0 (execFunctionReady k s) := by
  unfold execFunctionReady
  repeat (first | with_reducible assumption | with_reducible apply MemoO.next | with_reducible apply MemoO.ite | with_reducible apply updPort_memo | with_reducible apply partitionReady_memo | intro _ | with_reducible apply Memo.ite | simp only [Memo.upd] | dsimp only | split)

theorem execHostLinkUp_memo {s0 : State} (k : PortId) (gen width : Nat) (flit reversed : Bool) (s : State) (hk : Memo s0 s) : MemoO s0 (execHostLinkUp k gen width flit reversed s) := by
  unfold execHostLinkUp
  repeat (first | with_reducible assumption | with_reducible apply MemoO.next | with_reducible apply MemoO.ite | with_reducible apply portEvent_memo | with_reducible apply updPort_memo | intro _ | with_reducible apply Memo.ite | with_reducible apply Memo.iteSnd | with_reducible apply Memo.iteFst | simp only [Memo.upd] | dsimp only | split)

theorem release_memo {s0 : State} (k : PortId) (s : State) (hk : Memo s0 s) : Memo s0 (release k s) := by
  unfold release
  repeat (first | with_reducible assumption | with_reducible apply pump_memo | with_reducible apply xfrAdvance_memo | intro _ | with_reducible apply Memo.ite | simp only [Memo.upd] | dsimp only | split)

theorem heldWakes_memo {s0 : State} (k : PortId) (s : State) (hk : Memo s0 s) : Memo s0 (heldWakes k s) := by
  unfold heldWakes
  repeat (first | with_reducible assumption | with_reducible apply eachOf_memo | with_reducible apply record_memo | with_reducible apply wakeEvent_memo | with_reducible apply msix_memo | intro _ | with_reducible apply Memo.ite | simp only [Memo.upd] | dsimp only | split)

theorem enterD3hot_memo {s0 : State} (k : PortId) (s : State) (hk : Memo s0 s) : Memo s0 (enterD3hot k s) := by
  unfold enterD3hot
  repeat (first | with_reducible assumption | with_reducible apply discardBlock_memo | with_reducible apply updPort_memo | with_reducible apply portEvent_memo | with_reducible apply heldWakes_memo | with_reducible apply xfrAdvance_memo | intro _ | with_reducible apply Memo.ite | simp only [Memo.upd] | dsimp only | split)

theorem execPowerStateD3hot_memo {s0 : State} (k : PortId) (s : State) (hk : Memo s0 s) : MemoO s0 (execPowerStateD3hot k s) := by
  unfold execPowerStateD3hot
  repeat (first | with_reducible assumption | with_reducible apply MemoO.next | with_reducible apply MemoO.ite | with_reducible apply cfgWrite_memo | with_reducible apply enterD3hot_memo | intro _ | with_reducible apply Memo.ite | simp only [Memo.upd] | dsimp only | split)

theorem enterD0_memo {s0 : State} (k : PortId) (s : State) (hk : Memo s0 s) : Memo s0 (enterD0 k s) := by
  unfold enterD0
  repeat (first | with_reducible assumption | with_reducible apply updPort_memo | with_reducible apply updExec_memo | with_reducible apply release_memo | with_reducible apply quietExit_memo | with_reducible apply portEvent_memo | intro _ | with_reducible apply Memo.ite | simp only [Memo.upd] | dsimp only | split)

theorem execPowerStateD0_memo {s0 : State} (k : PortId) (s : State) (hk : Memo s0 s) : MemoO s0 (execPowerStateD0 k s) := by
  unfold execPowerStateD0
  repeat (first | with_reducible assumption | with_reducible apply MemoO.next | with_reducible apply MemoO.ite | with_reducible apply cfgWrite_memo | with_reducible apply enterD0_memo | intro _ | with_reducible apply Memo.ite | simp only [Memo.upd] | dsimp only | split)

theorem execPmPmeTransmit_memo {s0 : State} (k : PortId) (s : State) (hk : Memo s0 s) : MemoO s0 (execPmPmeTransmit k s) := by
  unfold execPmPmeTransmit
  repeat (first | with_reducible assumption | with_reducible apply MemoO.next | with_reducible apply MemoO.ite | with_reducible apply emit_memo | with_reducible apply updPort_memo | intro _ | with_reducible apply Memo.ite | simp only [Memo.upd] | dsimp only | split)

theorem execPmPmeRetransmit_memo {s0 : State} (k : PortId) (s : State) (hk : Memo s0 s) : MemoO s0 (execPmPmeRetransmit k s) := by
  unfold execPmPmeRetransmit
  repeat (first | with_reducible assumption | with_reducible apply MemoO.next | with_reducible apply MemoO.ite | with_reducible apply emit_memo | with_reducible apply updPort_memo | intro _ | with_reducible apply Memo.ite | simp only [Memo.upd] | dsimp only | split)

theorem execAspmL1Entry_memo {s0 : State} (k : PortId) (s : State) (hk : Memo s0 s) : MemoO s0 (execAspmL1Entry k s) := by
  unfold execAspmL1Entry
  repeat (first | with_reducible assumption | with_reducible apply MemoO.next | with_reducible apply MemoO.ite | with_reducible apply emit_memo | with_reducible apply updPort_memo | intro _ | with_reducible apply Memo.ite | simp only [Memo.upd] | dsimp only | split)

theorem turnOffReady_memo {s0 : State} (k : PortId) (s : State) (hk : Memo s0 s) : Memo s0 (turnOffReady k s) := by
  unfold turnOffReady
  repeat (first | with_reducible assumption | with_reducible apply driveWake_memo | with_reducible apply emit_memo | with_reducible apply updPort_memo | intro _ | with_reducible apply Memo.ite | simp only [Memo.upd] | dsimp only | split)

theorem execPmeTurnOff_memo {s0 : State} (k : PortId) (s : State) (hk : Memo s0 s) : MemoO s0 (execPmeTurnOff k s) := by
  unfold execPmeTurnOff
  repeat (first | with_reducible assumption | with_reducible apply MemoO.next | with_reducible apply MemoO.ite | with_reducible apply turnOffReady_memo | with_reducible apply updPort_memo | intro _ | with_reducible apply Memo.ite | simp only [Memo.upd] | dsimp only | split)

theorem execBusMasterEnableChange_memo {s0 : State} (k : PortId) (on : Bool) (s : State) (hk : Memo s0 s) : MemoO s0 (execBusMasterEnableChange k on s) := by
  unfold execBusMasterEnableChange
  repeat (first | with_reducible assumption | with_reducible apply MemoO.next | with_reducible apply MemoO.ite | with_reducible apply cfgWrite_memo | with_reducible apply release_memo | with_reducible apply updPort_memo | intro _ | with_reducible apply Memo.ite | simp only [Memo.upd] | dsimp only | split)

theorem execMgtWakeReqWrite_memo {s0 : State} (r : Requester) (v : Nat) (s : State) (hk : Memo s0 s) : MemoO s0 (execMgtWakeReqWrite r v s) := by
  unfold execMgtWakeReqWrite
  repeat (first | with_reducible assumption | with_reducible apply MemoO.next | with_reducible apply MemoO.ite | with_reducible apply eachOf_memo | with_reducible apply wakeEvent_memo | with_reducible apply driveWake_memo | intro _ | with_reducible apply Memo.ite | simp only [Memo.upd] | dsimp only | split)

theorem msixFlush_memo {s0 : State} (k : PortId) (s : State) (hk : Memo s0 s) : Memo s0 (msixFlush k s) := by
  unfold msixFlush
  repeat (first | with_reducible assumption | with_reducible apply eachOf_memo | with_reducible apply wakeEvent_memo | with_reducible apply dmaPush_memo | with_reducible apply msix_memo | with_reducible apply updPort_memo | intro _ | with_reducible apply Memo.ite | simp only [Memo.upd] | dsimp only | split)

theorem execMsixUnmask_memo {s0 : State} (k : PortId) (v : Fin 16) (s : State) (hk : Memo s0 s) : MemoO s0 (execMsixUnmask k v s) := by
  unfold execMsixUnmask
  repeat (first | with_reducible assumption | with_reducible apply MemoO.next | with_reducible apply MemoO.ite | with_reducible refine hostMem_memo (by with_reducible assumption) ?_ | with_reducible apply hostMem_snd_memo | with_reducible apply msixFlush_memo | with_reducible apply updPort_memo | intro _ | with_reducible apply Memo.ite | with_reducible apply Memo.iteSnd | with_reducible apply Memo.iteFst | simp only [Memo.upd] | dsimp only | split)

theorem execRingTailWrite_memo {s0 : State} (r : Requester) (st : StreamId) (v : Nat) (s : State) (hk : Memo s0 s) : MemoO s0 (execRingTailWrite r st v s) := by
  unfold execRingTailWrite
  repeat (first | with_reducible assumption | with_reducible apply MemoO.next | with_reducible apply MemoO.ite | with_reducible refine hostPart_memo (by with_reducible assumption) ?_ | with_reducible apply hostPart_snd_memo | with_reducible apply queOverrun_memo | with_reducible apply updStream_memo | with_reducible apply fetchNow_memo | intro _ | with_reducible apply Memo.ite | with_reducible apply Memo.iteSnd | with_reducible apply Memo.iteFst | simp only [Memo.upd] | dsimp only | split)

theorem execRingCtlWrite_memo {s0 : State} (r : Requester) (st : StreamId) (v : Nat) (s : State) (hk : Memo s0 s) : MemoO s0 (execRingCtlWrite r st v s) := by
  unfold execRingCtlWrite
  repeat (first | with_reducible assumption | with_reducible apply MemoO.next | with_reducible apply MemoO.ite | with_reducible refine hostPart_memo (by with_reducible assumption) ?_ | with_reducible apply hostPart_snd_memo | with_reducible apply fetchNow_memo | with_reducible apply updStream_memo | intro _ | with_reducible apply Memo.ite | with_reducible apply Memo.iteSnd | with_reducible apply Memo.iteFst | simp only [Memo.upd] | dsimp only | split)

theorem execRingFetchComplete_memo {s0 : State} (p : PartId) (st : StreamId) (s : State) (hk : Memo s0 s) : MemoO s0 (execRingFetchComplete p st s) := by
  unfold execRingFetchComplete
  repeat (first | with_reducible assumption | with_reducible apply MemoO.next | with_reducible apply MemoO.ite | with_reducible apply fetchNow_memo | with_reducible apply enterDesc_memo | with_reducible apply updStream_memo | intro _ | with_reducible apply Memo.ite | simp only [Memo.upd] | dsimp only | split)

theorem freeBytes_memo {s0 t : State} {v : Bytes} {n : Nat} {s : State} (e : freeBytes n s = (v, t)) (hk : Memo s0 s) : Memo s0 t := by
  unfold freeBytes at e
  (try dsimp only at e)
  repeat' split at e
  all_goals (try cases e)
  all_goals repeat (first | with_reducible assumption | with_reducible refine takeFree_memo (by with_reducible assumption) ?_ | with_reducible apply takeFree_snd_memo | intro _ | with_reducible apply Memo.ite | with_reducible apply Memo.iteSnd | with_reducible apply Memo.iteFst | simp only [Memo.upd] | dsimp only | split)

theorem freeBytes_snd_memo {s0 : State} (n : Nat) (s : State) (hk : Memo s0 s) : Memo s0 (freeBytes n s).2 :=
  freeBytes_memo (Prod.eta _).symm hk

theorem noteRead_memo {s0 : State} (p : PartId) (code sub addr : Nat) (s : State) (hk : Memo s0 s) : Memo s0 (noteRead p code sub addr s) := by
  unfold noteRead
  repeat (first | with_reducible assumption | with_reducible apply noteOnce_memo | intro _ | with_reducible apply Memo.ite | simp only [Memo.upd] | dsimp only | split)

theorem poisonGot_memo {s0 : State} (p : PartId) (tgt : DmaTarget) (got : Nat) (s : State) (hk : Memo s0 s) : Memo s0 (poisonGot p tgt got s) := by
  unfold poisonGot
  repeat (first | with_reducible assumption | with_reducible apply updSlot_memo | with_reducible apply eachOf_memo | with_reducible apply spaceMark_memo | with_reducible apply updLoad_memo | intro _ | with_reducible apply Memo.ite | simp only [Memo.upd] | dsimp only | split)

theorem scrubBad_memo {s0 : State} (g : Nat) (s : State) (hk : Memo s0 s) : Memo s0 (scrubBad g s) := by
  unfold scrubBad
  repeat (first | with_reducible assumption | with_reducible apply markGranule_memo | with_reducible apply record_memo | with_reducible apply mgtRecord_memo | intro _ | with_reducible apply Memo.ite | simp only [Memo.upd] | dsimp only | split)

theorem hbmFind_memo {s0 : State} (p : PartId) (tag g : Nat) (bad : Bool) (s : State) (hk : Memo s0 s) : Memo s0 (hbmFind p tag g bad s) := by
  unfold hbmFind
  repeat (first | with_reducible assumption | with_reducible apply markGranule_memo | with_reducible apply record_memo | with_reducible apply cntPart_memo | intro _ | with_reducible apply Memo.ite | simp only [Memo.upd] | dsimp only | split)

theorem renackChunk_memo {s0 : State} (p : PartId) (k : Nat) (s : State) (hk : Memo s0 s) : Memo s0 (renackChunk p k s) := by
  unfold renackChunk
  repeat (first | with_reducible assumption | with_reducible apply updChunk_memo | with_reducible apply cntPart_memo | with_reducible apply eachOf_memo | with_reducible apply answerChunk_memo | intro _ | with_reducible apply Memo.ite | simp only [Memo.upd] | dsimp only | split)

theorem plantErr_memo {s0 : State} (g : Nat) (bad : Bool) (s : State) (hk : Memo s0 s) : Memo s0 (plantErr g bad s) := by
  unfold plantErr
  repeat (first | with_reducible assumption | intro _ | with_reducible apply Memo.ite | simp only [Memo.upd] | dsimp only | split)

theorem meetErrs_memo {s0 : State} (p : PartId) (st : StreamId) (tag : Nat) (t : EccFind → Bool) (s : State) (hk : Memo s0 s) : Memo s0 (meetErrs p st tag t s) := by
  unfold meetErrs
  repeat (first | with_reducible assumption | with_reducible refine Memo.sramFold ?_ ?_ _ _ | with_reducible apply Memo.sramFilter | with_reducible apply Memo.foldl | intro _ | with_reducible apply Memo.ite | with_reducible apply Memo.iteSnd | with_reducible apply Memo.iteFst | simp only [Memo.upd] | dsimp only | split)

theorem arriveMeets_memo {s0 : State} (path : Path) (p : PartId) (s : State) (hk : Memo s0 s) : Memo s0 (arriveMeets path p s) := by
  unfold arriveMeets
  repeat (first | with_reducible assumption | with_reducible apply meetErrs_memo | intro _ | with_reducible apply Memo.ite | simp only [Memo.upd] | dsimp only | split)

theorem bar4Find_memo {s0 : State} (p : PartId) (a n : Nat) (write : Bool) (e : EccFind) (s : State) (hk : Memo s0 s) : Memo s0 (bar4Find p a n write e s) := by
  unfold bar4Find
  repeat (first | with_reducible assumption | with_reducible apply hbmFind_memo | with_reducible apply record_memo | intro _ | with_reducible apply Memo.ite | simp only [Memo.upd] | dsimp only | split)

theorem bar4Ecc_memo {s0 : State} (r : Requester) (off n : Nat) (write : Bool) (ecc : List EccFind) (s : State) (hk : Memo s0 s) : Memo s0 (bar4Ecc r off n write ecc s) := by
  unfold bar4Ecc
  repeat (first | with_reducible assumption | with_reducible refine hostMem_memo (by with_reducible assumption) ?_ | with_reducible apply hostMem_snd_memo | with_reducible apply bar4Find_memo | with_reducible apply Memo.foldl | intro _ | with_reducible apply Memo.ite | with_reducible apply Memo.iteSnd | with_reducible apply Memo.iteFst | simp only [Memo.upd] | dsimp only | split)

theorem execBar4Read_memo {s0 : State} (r : Requester) (off len : Nat) (ecc : List EccFind) (s : State) (hk : Memo s0 s) : MemoO s0 (execBar4Read r off len ecc s) := by
  unfold execBar4Read
  repeat (first | with_reducible assumption | with_reducible apply MemoO.next | with_reducible apply MemoO.ite | with_reducible apply bar4Read_memo | with_reducible apply bar4Ecc_memo | intro _ | with_reducible apply Memo.ite | simp only [Memo.upd] | dsimp only | split)

theorem forgetErr_memo {s0 : State} (gran : Nat) (s : State) (hk : Memo s0 s) : Memo s0 (forgetErr gran s) := by
  unfold forgetErr
  repeat (first | with_reducible assumption | intro _ | with_reducible apply Memo.ite | simp only [Memo.upd] | dsimp only | split)

theorem execPatrolScrubRead_memo {s0 : State} (gran result : Nat) (s : State) (hk : Memo s0 s) : MemoO s0 (execPatrolScrubRead gran result s) := by
  unfold execPatrolScrubRead
  repeat (first | with_reducible assumption | with_reducible apply MemoO.next | with_reducible apply MemoO.ite | with_reducible apply cntPart_memo | with_reducible apply forgetErr_memo | with_reducible apply scrubBad_memo | intro _ | with_reducible apply Memo.ite | simp only [Memo.upd] | dsimp only | split)

theorem execErrHeadWrite_memo {s0 : State} (r : Requester) (v : Nat) (s : State) (hk : Memo s0 s) : MemoO s0 (execErrHeadWrite r v s) := by
  unfold execErrHeadWrite
  repeat (first | with_reducible assumption | with_reducible apply MemoO.next | with_reducible apply MemoO.ite | with_reducible refine hostPart_memo (by with_reducible assumption) ?_ | with_reducible apply hostPart_snd_memo | with_reducible apply updPart_memo | intro _ | with_reducible apply Memo.ite | with_reducible apply Memo.iteSnd | with_reducible apply Memo.iteFst | simp only [Memo.upd] | dsimp only | split)

theorem countFail_memo {s0 t : State} {v : Nat} {d : DevId} {p : PartId} {k : Packet} {s : State} (e : countFail d p k s = (v, t)) (hk : Memo s0 s) : Memo s0 t := by
  unfold countFail at e
  (try dsimp only at e)
  repeat' split at e
  all_goals (try cases e)
  all_goals repeat (first | with_reducible assumption | with_reducible apply updFlow_memo | intro _ | with_reducible apply Memo.ite | with_reducible apply Memo.iteSnd | with_reducible apply Memo.iteFst | simp only [Memo.upd] | dsimp only | split)

theorem countFail_snd_memo {s0 : State} (d : DevId) (p : PartId) (k : Packet) (s : State) (hk : Memo s0 s) : Memo s0 (countFail d p k s).2 :=
  countFail_memo (Prod.eta _).symm hk

theorem sendAgain_memo {s0 : State} (d : DevId) (p : PartId) (isPiece : Bool) (b : Bytes) (s : State) (hk : Memo s0 s) : Memo s0 (sendAgain d p isPiece b s) := by
  unfold sendAgain
  repeat (first | with_reducible assumption | with_reducible apply sendPiece_memo | with_reducible apply cntPart64_memo | with_reducible apply cntPart_memo | with_reducible apply sendPacketAs_memo | intro _ | with_reducible apply Memo.ite | simp only [Memo.upd] | dsimp only | split)

theorem updClause_memo {s0 : State} (p : PartId) (tag : Nat) (f : Clause → Clause) (s : State) (hk : Memo s0 s) : Memo s0 (updClause p tag f s) := by
  unfold updClause
  repeat (first | with_reducible assumption | with_reducible apply updConj_memo | intro _ | with_reducible apply Memo.ite | simp only [Memo.upd] | dsimp only | split)

theorem bounceRecord_memo {s0 : State} (p : PartId) (x : Clause) (d : DevId) (s : State) (hk : Memo s0 s) : Memo s0 (bounceRecord p x d s) := by
  unfold bounceRecord
  repeat (first | with_reducible assumption | with_reducible apply record_memo | with_reducible apply updConj_memo | intro _ | with_reducible apply Memo.ite | simp only [Memo.upd] | dsimp only | split)

theorem noteBounce_memo {s0 : State} (p : PartId) (tag : Nat) (d : DevId) (s : State) (hk : Memo s0 s) : Memo s0 (noteBounce p tag d s) := by
  unfold noteBounce
  repeat (first | with_reducible assumption | with_reducible apply bounceRecord_memo | intro _ | with_reducible apply Memo.ite | simp only [Memo.upd] | dsimp only | split)

theorem markMoved_memo {s0 : State} (p : PartId) (e : HeldPkt) (s : State) (hk : Memo s0 s) : Memo s0 (markMoved p e s) := by
  unfold markMoved
  repeat (first | with_reducible assumption | with_reducible apply updRows_memo | intro _ | with_reducible apply Memo.ite | simp only [Memo.upd] | dsimp only | split)

theorem holdPacket_memo {s0 : State} (src : DevId) (path : Path) (isPiece : Bool) (p : PartId) (seq : Nat) (b : Bytes) (s : State) (hk : Memo s0 s) : Memo s0 (holdPacket src path isPiece p seq b s) := by
  unfold holdPacket
  repeat (first | with_reducible assumption | with_reducible apply cntBridle_memo | with_reducible apply leavePool_memo | with_reducible apply updFlow_memo | intro _ | with_reducible apply Memo.ite | simp only [Memo.upd] | dsimp only | split)

theorem passOver_memo {s0 : State} (src : DevId) (path : Path) (p : PartId) (seq : Nat) (s : State) (hk : Memo s0 s) : Memo s0 (passOver src path p seq s) := by
  unfold passOver
  repeat (first | with_reducible assumption | with_reducible apply updFlow_memo | intro _ | with_reducible apply Memo.ite | simp only [Memo.upd] | dsimp only | split)

theorem noteOps_memo {s0 : State} (src : DevId) (b : Bytes) (ops : Option ColOps) (s : State) (hk : Memo s0 s) : Memo s0 (noteOps src b ops s) := by
  unfold noteOps
  repeat (first | with_reducible assumption | intro _ | with_reducible apply Memo.ite | simp only [Memo.upd] | dsimp only | split)

theorem pwrStatus_memo {s0 : State} (cmd reason : Nat) (s : State) (hk : Memo s0 s) : Memo s0 (pwrStatus cmd reason s) := by
  unfold pwrStatus
  repeat (first | with_reducible assumption | intro _ | with_reducible apply Memo.ite | simp only [Memo.upd] | dsimp only | split)

theorem execSetPstate_memo {s0 : State} (r : Requester) (v : Nat) (s : State) (hk : Memo s0 s) : MemoO s0 (execSetPstate r v s) := by
  unfold execSetPstate
  repeat (first | with_reducible assumption | with_reducible apply MemoO.next | with_reducible apply MemoO.ite | with_reducible apply pwrStatus_memo | with_reducible apply requestPstate_memo | intro _ | with_reducible apply Memo.ite | simp only [Memo.upd] | dsimp only | split)

theorem execPstateRampDone_memo {s0 : State} (s : State) (hk : Memo s0 s) : MemoO s0 (execPstateRampDone s) := by
  unfold execPstateRampDone
  repeat (first | with_reducible assumption | with_reducible apply MemoO.next | with_reducible apply MemoO.ite | with_reducible apply switchCore_memo | intro _ | with_reducible apply Memo.ite | simp only [Memo.upd] | dsimp only | split)

theorem execRailReadbackSample_memo {s0 : State} (mv : Nat) (s : State) (hk : Memo s0 s) : MemoO s0 (execRailReadbackSample mv s) := by
  unfold execRailReadbackSample
  repeat (first | with_reducible assumption | with_reducible apply MemoO.next | with_reducible apply MemoO.ite | with_reducible apply mgtEvent_memo | with_reducible apply switchCore_memo | intro _ | with_reducible apply Memo.ite | simp only [Memo.upd] | dsimp only | split)

theorem thermalStep_memo {s0 : State} (s : State) (hk : Memo s0 s) : Memo s0 (thermalStep s) := by
  unfold thermalStep
  repeat (first | with_reducible assumption | with_reducible apply mgtEvent_memo | with_reducible apply cntPower_memo | with_reducible apply releaseHeld_memo | intro _ | with_reducible apply Memo.ite | simp only [Memo.upd] | dsimp only | split)

theorem alertStep_memo {s0 : State} (s : State) (hk : Memo s0 s) : Memo s0 (alertStep s) := by
  unfold alertStep
  repeat (first | with_reducible assumption | with_reducible apply mgtEvent_memo | with_reducible apply emit_memo | intro _ | with_reducible apply Memo.ite | simp only [Memo.upd] | dsimp only | split)

theorem execSensorSample_memo {s0 : State} (temps : List Int) (s : State) (hk : Memo s0 s) : MemoO s0 (execSensorSample temps s) := by
  unfold execSensorSample
  repeat (first | with_reducible assumption | with_reducible apply MemoO.next | with_reducible apply MemoO.ite | with_reducible apply thermalStep_memo | with_reducible apply alertStep_memo | intro _ | with_reducible apply Memo.ite | simp only [Memo.upd] | dsimp only | split)

theorem execHbmTempReport_memo {s0 : State} (stack : Fin 6) (temp : Int) (s : State) (hk : Memo s0 s) : MemoO s0 (execHbmTempReport stack temp s) := by
  unfold execHbmTempReport
  repeat (first | with_reducible assumption | with_reducible apply MemoO.next | with_reducible apply MemoO.ite | intro _ | with_reducible apply Memo.ite | simp only [Memo.upd] | dsimp only | split)

theorem windowEnd_memo {s0 : State} (s : State) (hk : Memo s0 s) : Memo s0 (windowEnd s) := by
  unfold windowEnd
  repeat (first | with_reducible assumption | with_reducible apply releaseHeld_memo | with_reducible apply mgtEvent_memo | intro _ | with_reducible apply Memo.ite | simp only [Memo.upd] | dsimp only | split)

theorem overLimit_memo {s0 : State} (avg : Nat) (s : State) (hk : Memo s0 s) : Memo s0 (overLimit avg s) := by
  unfold overLimit
  repeat (first | with_reducible assumption | with_reducible apply cntPower_memo | with_reducible apply mgtEvent_memo | with_reducible apply mgtRecord_memo | with_reducible apply recordAll_memo | intro _ | with_reducible apply Memo.ite | simp only [Memo.upd] | dsimp only | split)

theorem energyStep_memo {s0 : State} (watts : Nat) (s : State) (hk : Memo s0 s) : Memo s0 (energyStep watts s) := by
  unfold energyStep
  repeat (first | with_reducible assumption | intro _ | with_reducible apply Memo.ite | simp only [Memo.upd] | dsimp only | split)

theorem execPowerEstimate_memo {s0 : State} (watts : Nat) (s : State) (hk : Memo s0 s) : MemoO s0 (execPowerEstimate watts s) := by
  unfold execPowerEstimate
  repeat (first | with_reducible assumption | with_reducible apply MemoO.next | with_reducible apply MemoO.ite | with_reducible apply windowEnd_memo | with_reducible apply energyStep_memo | with_reducible apply overLimit_memo | intro _ | with_reducible apply Memo.ite | simp only [Memo.upd] | dsimp only | split)

theorem execPwrLimitWWrite_memo {s0 : State} (r : Requester) (v : Nat) (s : State) (hk : Memo s0 s) : MemoO s0 (execPwrLimitWWrite r v s) := by
  unfold execPwrLimitWWrite
  repeat (first | with_reducible assumption | with_reducible apply MemoO.next | with_reducible apply MemoO.ite | intro _ | with_reducible apply Memo.ite | simp only [Memo.upd] | dsimp only | split)

theorem execPwrCloseUsWrite_memo {s0 : State} (r : Requester) (v : Nat) (s : State) (hk : Memo s0 s) : MemoO s0 (execPwrCloseUsWrite r v s) := by
  unfold execPwrCloseUsWrite
  repeat (first | with_reducible assumption | with_reducible apply MemoO.next | with_reducible apply MemoO.ite | intro _ | with_reducible apply Memo.ite | simp only [Memo.upd] | dsimp only | split)

theorem gateCluster_memo {s0 : State} (c : ClusterId) (s : State) (hk : Memo s0 s) : Memo s0 (gateCluster c s) := by
  unfold gateCluster
  repeat (first | with_reducible assumption | with_reducible apply noticeChange_memo | with_reducible apply setCluster_memo | intro _ | with_reducible apply Memo.ite | simp only [Memo.upd] | dsimp only | split)

theorem execGate_memo {s0 : State} (r : Requester) (v : Nat) (s : State) (hk : Memo s0 s) : MemoO s0 (execGate r v s) := by
  unfold execGate
  repeat (first | with_reducible assumption | with_reducible apply MemoO.next | with_reducible apply MemoO.ite | with_reducible apply pwrStatus_memo | with_reducible apply gateCluster_memo | intro _ | with_reducible apply Memo.ite | simp only [Memo.upd] | dsimp only | split)

theorem execClusterNoticeTimer_memo {s0 : State} (s : State) (hk : Memo s0 s) : MemoO s0 (execClusterNoticeTimer s) := by
  unfold execClusterNoticeTimer
  repeat (first | with_reducible assumption | with_reducible apply MemoO.next | with_reducible apply MemoO.ite | with_reducible apply noticeCtx_memo | with_reducible apply Memo.foldl | intro _ | with_reducible apply Memo.ite | simp only [Memo.upd] | dsimp only | split)

theorem execClusterNoticeReceive_memo {s0 : State} (notice : Bytes) (s : State) (hk : Memo s0 s) : MemoO s0 (execClusterNoticeReceive notice s) := by
  unfold execClusterNoticeReceive
  repeat (first | with_reducible assumption | with_reducible apply MemoO.next | with_reducible apply MemoO.ite | with_reducible apply eachOf_memo | with_reducible apply updPlane_memo | with_reducible apply learnStart_memo | with_reducible apply updPeer_memo | intro _ | with_reducible apply Memo.ite | with_reducible apply Memo.iteSnd | with_reducible apply Memo.iteFst | simp only [Memo.upd] | dsimp only | split)

theorem execCloseTimeElapsed_memo {s0 : State} (c : ClusterId) (s : State) (hk : Memo s0 s) : MemoO s0 (execCloseTimeElapsed c s) := by
  unfold execCloseTimeElapsed
  repeat (first | with_reducible assumption | with_reducible apply MemoO.next | with_reducible apply MemoO.ite | with_reducible apply updCluster_memo | with_reducible apply setCluster_memo | intro _ | with_reducible apply Memo.ite | simp only [Memo.upd] | dsimp only | split)

theorem execDrainComplete_memo {s0 : State} (c : ClusterId) (s : State) (hk : Memo s0 s) : MemoO s0 (execDrainComplete c s) := by
  unfold execDrainComplete
  repeat (first | with_reducible assumption | with_reducible apply MemoO.next | with_reducible apply MemoO.ite | with_reducible apply setCluster_memo | intro _ | with_reducible apply Memo.ite | simp only [Memo.upd] | dsimp only | split)

theorem execIsolationTimer_memo {s0 : State} (c : ClusterId) (s : State) (hk : Memo s0 s) : MemoO s0 (execIsolationTimer c s) := by
  unfold execIsolationTimer
  repeat (first | with_reducible assumption | with_reducible apply MemoO.next | with_reducible apply MemoO.ite | with_reducible apply setCluster_memo | intro _ | with_reducible apply Memo.ite | simp only [Memo.upd] | dsimp only | split)

theorem execPwrWake_memo {s0 : State} (r : Requester) (v : Nat) (s : State) (hk : Memo s0 s) : MemoO s0 (execPwrWake r v s) := by
  unfold execPwrWake
  repeat (first | with_reducible assumption | with_reducible apply MemoO.next | with_reducible apply MemoO.ite | with_reducible apply pwrStatus_memo | with_reducible apply noticeChange_memo | with_reducible apply setCluster_memo | with_reducible apply updCluster_memo | intro _ | with_reducible apply Memo.ite | simp only [Memo.upd] | dsimp only | split)

theorem execClusterPowerUpDone_memo {s0 : State} (c : ClusterId) (s : State) (hk : Memo s0 s) : MemoO s0 (execClusterPowerUpDone c s) := by
  unfold execClusterPowerUpDone
  repeat (first | with_reducible assumption | with_reducible apply MemoO.next | with_reducible apply MemoO.ite | with_reducible apply updCluster_memo | with_reducible apply noticeChange_memo | with_reducible apply setCluster_memo | intro _ | with_reducible apply Memo.ite | simp only [Memo.upd] | dsimp only | split)

theorem gateUnnamed_memo {s0 : State} (s : State) (hk : Memo s0 s) : Memo s0 (gateUnnamed s) := by
  unfold gateUnnamed
  repeat (first | with_reducible assumption | with_reducible apply eachOf_memo | with_reducible apply gateCluster_memo | intro _ | with_reducible apply Memo.ite | simp only [Memo.upd] | dsimp only | split)

theorem execQuietEnter_memo {s0 : State} (r : Requester) (v : Nat) (s : State) (hk : Memo s0 s) : MemoO s0 (execQuietEnter r v s) := by
  unfold execQuietEnter
  repeat (first | with_reducible assumption | with_reducible apply MemoO.next | with_reducible apply MemoO.ite | with_reducible apply pwrStatus_memo | with_reducible apply requestPstate_memo | with_reducible apply gateUnnamed_memo | intro _ | with_reducible apply Memo.ite | simp only [Memo.upd] | dsimp only | split)

end Sys2Proof.Laws
end

