-- ==== Sys2Proof/Laws/Hbm4.lean ====
section
/-!
SUPPORT. Hbm4.lean: what leaves HBM alone, one lemma per operation, in the order of the definitions (4 of 4).
Memo s t: every byte of HBM is that of s.
-/
set_option linter.all false
namespace Sys2Proof.Laws
open Sys2Proof Sys2Proof.Machine Sys2Proof.Safety

theorem execQuietExit_memo {s0 : State} (r : Requester) (v : Nat) (s : State) (hk : Memo s0 s) : MemoO s0 (execQuietExit r v s) := by
  unfold execQuietExit
  repeat (first | with_reducible assumption | with_reducible apply MemoO.next | with_reducible apply MemoO.ite | with_reducible apply pwrStatus_memo | with_reducible apply quietExit_memo | intro _ | with_reducible apply Memo.ite | simp only [Memo.upd] | dsimp only | split)

theorem voidTorn_memo {s0 : State} (s : State) (hk : Memo s0 s) : Memo s0 (voidTorn s) := by
  unfold voidTorn
  repeat (first | with_reducible assumption | with_reducible apply flashWrite_memo | intro _ | with_reducible apply Memo.ite | simp only [Memo.upd] | dsimp only | split)

theorem burnFloor_memo {s0 : State} (n : Nat) (s : State) (hk : Memo s0 s) : Memo s0 (burnFloor n s) := by
  unfold burnFloor
  repeat (first | with_reducible assumption | with_reducible apply secLog_memo | intro _ | with_reducible apply Memo.ite | simp only [Memo.upd] | dsimp only | split)

theorem actFloor_memo {s0 t : State} {v : Nat} {b : Bytes} {s : State} (e : actFloor b s = (v, t)) (hk : Memo s0 s) : Memo s0 t := by
  unfold actFloor at e
  (try dsimp only at e)
  repeat' split at e
  all_goals (try cases e)
  all_goals repeat (first | with_reducible assumption | with_reducible apply burnFloor_memo | intro _ | with_reducible apply Memo.ite | simp only [Memo.upd] | dsimp only | split)

theorem actFloor_snd_memo {s0 : State} (b : Bytes) (s : State) (hk : Memo s0 s) : Memo s0 (actFloor b s).2 :=
  actFloor_memo (Prod.eta _).symm hk

theorem actVault_memo {s0 t : State} {v : Nat} {b : Bytes} {s : State} (e : actVault b s = (v, t)) (hk : Memo s0 s) : Memo s0 t := by
  unfold actVault at e
  (try dsimp only at e)
  repeat' split at e
  all_goals (try cases e)
  all_goals repeat (first | with_reducible assumption | with_reducible refine drbgBytes_memo (by with_reducible assumption) ?_ | with_reducible apply drbgBytes_snd_memo | with_reducible apply flashWrite_memo | with_reducible apply flashErase_memo | with_reducible apply secLog_memo | intro _ | with_reducible apply Memo.ite | with_reducible apply Memo.iteSnd | with_reducible apply Memo.iteFst | simp only [Memo.upd] | dsimp only | split)

theorem actVault_snd_memo {s0 : State} (b : Bytes) (s : State) (hk : Memo s0 s) : Memo s0 (actVault b s).2 :=
  actVault_memo (Prod.eta _).symm hk

theorem actLogClear_memo {s0 t : State} {v : Nat} {s : State} (e : actLogClear s = (v, t)) (hk : Memo s0 s) : Memo s0 t := by
  unfold actLogClear at e
  (try dsimp only at e)
  repeat' split at e
  all_goals (try cases e)
  all_goals repeat (first | with_reducible assumption | with_reducible apply flashErase_memo | with_reducible apply secLog_memo | intro _ | with_reducible apply Memo.ite | simp only [Memo.upd] | dsimp only | split)

theorem actLogClear_snd_memo {s0 : State} (s : State) (hk : Memo s0 s) : Memo s0 (actLogClear s).2 :=
  actLogClear_memo (Prod.eta _).symm hk

theorem secEnd_memo {s0 : State} (op status : Nat) (s : State) (hk : Memo s0 s) : Memo s0 (secEnd op status s) := by
  unfold secEnd
  repeat (first | with_reducible assumption | with_reducible apply freshNonce_memo | intro _ | with_reducible apply Memo.ite | simp only [Memo.upd] | dsimp only | split)

theorem sigFailed_memo {s0 : State} (op : Nat) (s : State) (hk : Memo s0 s) : Memo s0 (sigFailed op s) := by
  unfold sigFailed
  repeat (first | with_reducible assumption | with_reducible apply cntDev_memo | with_reducible apply mgtRecord_memo | with_reducible apply secLogMergedAs_memo | intro _ | with_reducible apply Memo.ite | simp only [Memo.upd] | dsimp only | split)

theorem execAuthLockoutEnd_memo {s0 : State} (s : State) (hk : Memo s0 s) : MemoO s0 (execAuthLockoutEnd s) := by
  unfold execAuthLockoutEnd
  repeat (first | with_reducible assumption | with_reducible apply MemoO.next | with_reducible apply MemoO.ite | intro _ | with_reducible apply Memo.ite | simp only [Memo.upd] | dsimp only | split)

theorem spdmError_memo {s0 : State} (bd : SpdmBinding) (code : Nat) (s : State) (hk : Memo s0 s) : Memo s0 (spdmError bd code s) := by
  unfold spdmError
  repeat (first | with_reducible assumption | with_reducible apply emit_memo | intro _ | with_reducible apply Memo.ite | simp only [Memo.upd] | dsimp only | split)

theorem spdmServe_memo {s0 : State} (bd : SpdmBinding) (f : State → State) (s : State) (hf : ∀ x0, Memo s0 x0 → Memo s0 (f x0)) (hk : Memo s0 s) : MemoO s0 (spdmServe bd f s) := by
  unfold spdmServe
  repeat (first | with_reducible apply hf | with_reducible assumption | with_reducible apply MemoO.next | with_reducible apply MemoO.ite | with_reducible apply spdmError_memo | intro _ | with_reducible apply Memo.ite | simp only [Memo.upd] | dsimp only | split)

theorem execSpdmGetCertificate_memo {s0 : State} (bd : SpdmBinding) (slot off len : Nat) (s : State) (hk : Memo s0 s) : MemoO s0 (execSpdmGetCertificate bd slot off len s) := by
  unfold execSpdmGetCertificate
  repeat (first | with_reducible assumption | with_reducible apply MemoO.next | with_reducible apply MemoO.ite | with_reducible apply spdmServe_memo | with_reducible apply spdmError_memo | with_reducible apply emit_memo | intro _ | with_reducible apply Memo.ite | simp only [Memo.upd] | dsimp only | split)

theorem execSpdmChallenge_memo {s0 : State} (bd : SpdmBinding) (slot : Nat) (nonce : Bytes) (s : State) (hk : Memo s0 s) : MemoO s0 (execSpdmChallenge bd slot nonce s) := by
  unfold execSpdmChallenge
  repeat (first | with_reducible assumption | with_reducible apply MemoO.next | with_reducible apply MemoO.ite | with_reducible apply spdmServe_memo | with_reducible apply spdmError_memo | with_reducible refine drbgBytes_memo (by with_reducible assumption) ?_ | with_reducible apply drbgBytes_snd_memo | with_reducible apply emit_memo | intro _ | with_reducible apply Memo.ite | with_reducible apply Memo.iteSnd | with_reducible apply Memo.iteFst | simp only [Memo.upd] | dsimp only | split)

theorem execSpdmGetMeasurements_memo {s0 : State} (bd : SpdmBinding) (op : Nat) (nonce : Bytes) (s : State) (hk : Memo s0 s) : MemoO s0 (execSpdmGetMeasurements bd op nonce s) := by
  unfold execSpdmGetMeasurements
  repeat (first | with_reducible assumption | with_reducible apply MemoO.next | with_reducible apply MemoO.ite | with_reducible apply spdmServe_memo | with_reducible apply spdmError_memo | with_reducible refine drbgBytes_memo (by with_reducible assumption) ?_ | with_reducible apply drbgBytes_snd_memo | with_reducible apply emit_memo | intro _ | with_reducible apply Memo.ite | with_reducible apply Memo.iteSnd | with_reducible apply Memo.iteFst | simp only [Memo.upd] | dsimp only | split)

theorem execSpdmKeyExchange_memo {s0 : State} (bd : SpdmBinding) (share : Bytes) (s : State) (hk : Memo s0 s) : MemoO s0 (execSpdmKeyExchange bd share s) := by
  unfold execSpdmKeyExchange
  repeat (first | with_reducible assumption | with_reducible apply MemoO.next | with_reducible apply MemoO.ite | with_reducible apply spdmServe_memo | with_reducible apply spdmError_memo | with_reducible refine drbgBytes_memo (by with_reducible assumption) ?_ | with_reducible apply drbgBytes_snd_memo | with_reducible apply emit_memo | intro _ | with_reducible apply Memo.ite | with_reducible apply Memo.iteSnd | with_reducible apply Memo.iteFst | simp only [Memo.upd] | dsimp only | split)

theorem updSession_memo {s0 : State} (n : Nat) (f : SpdmSession → SpdmSession) (s : State) (hk : Memo s0 s) : Memo s0 (updSession n f s) := by
  unfold updSession
  repeat (first | with_reducible assumption | intro _ | with_reducible apply Memo.ite | simp only [Memo.upd] | dsimp only | split)

theorem inSession_memo {s0 : State} (bd : SpdmBinding) (n : Nat) (f : SpdmSession → State → State) (s : State) (hf : ∀ x0 x1, Memo s0 x1 → Memo s0 (f x0 x1)) (hk : Memo s0 s) : MemoO s0 (inSession bd n f s) := by
  unfold inSession
  repeat (first | with_reducible apply hf | with_reducible assumption | with_reducible apply MemoO.next | with_reducible apply MemoO.ite | with_reducible apply spdmServe_memo | with_reducible apply spdmError_memo | intro _ | with_reducible apply Memo.ite | simp only [Memo.upd] | dsimp only | split)

theorem execSpdmKeyUpdate_memo {s0 : State} (bd : SpdmBinding) (session : Nat) (s : State) (hk : Memo s0 s) : MemoO s0 (execSpdmKeyUpdate bd session s) := by
  unfold execSpdmKeyUpdate
  repeat (first | with_reducible assumption | with_reducible apply MemoO.next | with_reducible apply MemoO.ite | with_reducible apply inSession_memo | with_reducible apply emit_memo | with_reducible apply updSession_memo | intro _ | with_reducible apply Memo.ite | simp only [Memo.upd] | dsimp only | split)

theorem execSpdmHeartbeat_memo {s0 : State} (bd : SpdmBinding) (session : Nat) (s : State) (hk : Memo s0 s) : MemoO s0 (execSpdmHeartbeat bd session s) := by
  unfold execSpdmHeartbeat
  repeat (first | with_reducible assumption | with_reducible apply MemoO.next | with_reducible apply MemoO.ite | with_reducible apply inSession_memo | with_reducible apply emit_memo | with_reducible apply updSession_memo | intro _ | with_reducible apply Memo.ite | simp only [Memo.upd] | dsimp only | split)

theorem execSpdmEndSession_memo {s0 : State} (bd : SpdmBinding) (session : Nat) (s : State) (hk : Memo s0 s) : MemoO s0 (execSpdmEndSession bd session s) := by
  unfold execSpdmEndSession
  repeat (first | with_reducible assumption | with_reducible apply MemoO.next | with_reducible apply MemoO.ite | with_reducible apply inSession_memo | with_reducible apply emit_memo | intro _ | with_reducible apply Memo.ite | simp only [Memo.upd] | dsimp only | split)

theorem ideServe_memo {s0 : State} (bd : SpdmBinding) (session : Nat) (k : PortId) (f : State → State) (s : State) (hf : ∀ x0, Memo s0 x0 → Memo s0 (f x0)) (hk : Memo s0 s) : MemoO s0 (ideServe bd session k f s) := by
  unfold ideServe
  repeat (first | with_reducible apply hf | with_reducible assumption | with_reducible apply MemoO.next | with_reducible apply MemoO.ite | with_reducible apply inSession_memo | with_reducible apply spdmError_memo | intro _ | with_reducible apply Memo.ite | simp only [Memo.upd] | dsimp only | split)

theorem ideAnswer_memo {s0 : State} (bd : SpdmBinding) (obj : Nat) (body : Bytes) (s : State) (hk : Memo s0 s) : Memo s0 (ideAnswer bd obj body s) := by
  unfold ideAnswer
  repeat (first | with_reducible assumption | with_reducible apply emit_memo | intro _ | with_reducible apply Memo.ite | simp only [Memo.upd] | dsimp only | split)

theorem execIdeKmQuery_memo {s0 : State} (bd : SpdmBinding) (session : Nat) (port : PortId) (s : State) (hk : Memo s0 s) : MemoO s0 (execIdeKmQuery bd session port s) := by
  unfold execIdeKmQuery
  repeat (first | with_reducible assumption | with_reducible apply MemoO.next | with_reducible apply MemoO.ite | with_reducible apply ideServe_memo | with_reducible apply ideAnswer_memo | intro _ | with_reducible apply Memo.ite | simp only [Memo.upd] | dsimp only | split)

theorem execIdeKmKeyProg_memo {s0 : State} (bd : SpdmBinding) (session : Nat) (port : PortId) (stream : Fin 5) (set : Fin 12) (key : Nat) (s : State) (hk : Memo s0 s) : MemoO s0 (execIdeKmKeyProg bd session port stream set key s) := by
  unfold execIdeKmKeyProg
  repeat (first | with_reducible assumption | with_reducible apply MemoO.next | with_reducible apply MemoO.ite | with_reducible apply ideServe_memo | with_reducible apply ideAnswer_memo | with_reducible apply updPort_memo | intro _ | with_reducible apply Memo.ite | simp only [Memo.upd] | dsimp only | split)

theorem execIdeKmKSetGo_memo {s0 : State} (bd : SpdmBinding) (session : Nat) (port : PortId) (stream : Fin 5) (set : Fin 12) (s : State) (hk : Memo s0 s) : MemoO s0 (execIdeKmKSetGo bd session port stream set s) := by
  unfold execIdeKmKSetGo
  repeat (first | with_reducible assumption | with_reducible apply MemoO.next | with_reducible apply MemoO.ite | with_reducible apply ideServe_memo | with_reducible apply spdmError_memo | with_reducible apply updPort_memo | with_reducible apply release_memo | with_reducible apply secLog_memo | with_reducible apply ideAnswer_memo | intro _ | with_reducible apply Memo.ite | simp only [Memo.upd] | dsimp only | split)

theorem execIdeKmKSetStop_memo {s0 : State} (bd : SpdmBinding) (session : Nat) (port : PortId) (stream : Fin 5) (set : Fin 12) (s : State) (hk : Memo s0 s) : MemoO s0 (execIdeKmKSetStop bd session port stream set s) := by
  unfold execIdeKmKSetStop
  repeat (first | with_reducible assumption | with_reducible apply MemoO.next | with_reducible apply MemoO.ite | with_reducible apply ideServe_memo | with_reducible apply ideAnswer_memo | with_reducible apply ideInsecure_memo | with_reducible apply updPort_memo | intro _ | with_reducible apply Memo.ite | simp only [Memo.upd] | dsimp only | split)

theorem execJtagInstruction_memo {s0 : State} (ir : Nat) (s : State) (hk : Memo s0 s) : MemoO s0 (execJtagInstruction ir s) := by
  unfold execJtagInstruction
  repeat (first | with_reducible assumption | with_reducible apply MemoO.next | with_reducible apply MemoO.ite | with_reducible apply secLog_memo | with_reducible apply emit_memo | intro _ | with_reducible apply Memo.ite | simp only [Memo.upd] | dsimp only | split)

theorem execEntropyTestFail_memo {s0 : State} (test : Nat) (s : State) (hk : Memo s0 s) : MemoO s0 (execEntropyTestFail test s) := by
  unfold execEntropyTestFail
  repeat (first | with_reducible assumption | with_reducible apply MemoO.next | with_reducible apply MemoO.ite | with_reducible apply enterError_memo | intro _ | with_reducible apply Memo.ite | simp only [Memo.upd] | dsimp only | split)

theorem unitRecord_memo {s0 : State} (trigger unit result cause mask duration : Nat) (s : State) (hk : Memo s0 s) : Memo s0 (unitRecord trigger unit result cause mask duration s) := by
  unfold unitRecord
  repeat (first | with_reducible assumption | with_reducible apply bistAppend_memo | intro _ | with_reducible apply Memo.ite | simp only [Memo.upd] | dsimp only | split)

theorem isolateUnits_memo {s0 : State} (us : List Nat) (s : State) (hk : Memo s0 s) : Memo s0 (isolateUnits us s) := by
  unfold isolateUnits
  repeat (first | with_reducible assumption | with_reducible apply eachOf_memo | with_reducible apply setCluster_memo | intro _ | with_reducible apply Memo.ite | simp only [Memo.upd] | dsimp only | split)

theorem reinitUnit_memo {s0 : State} (unit : Nat) (s : State) (hk : Memo s0 s) : Memo s0 (reinitUnit unit s) := by
  unfold reinitUnit
  repeat (first | with_reducible assumption | with_reducible apply eachOf_memo | with_reducible apply setCluster_memo | with_reducible apply updCluster_memo | with_reducible apply updPart_memo | with_reducible apply driveWake_memo | intro _ | with_reducible apply Memo.ite | simp only [Memo.upd] | dsimp only | split)

theorem endRun_memo {s0 : State} (x : BistRun) (s : State) (hk : Memo s0 s) : Memo s0 (endRun x s) := by
  unfold endRun
  repeat (first | with_reducible assumption | with_reducible apply bistAppend_memo | with_reducible apply mgtEvent_memo | with_reducible apply eachOf_memo | with_reducible apply setCluster_memo | intro _ | with_reducible apply Memo.ite | simp only [Memo.upd] | dsimp only | split)

theorem notRun_memo {s0 : State} (x : BistRun) (us : List Nat) (cause : Nat) (s : State) (hk : Memo s0 s) : Memo s0 (notRun x us cause s) := by
  unfold notRun
  repeat (first | with_reducible assumption | with_reducible apply unitRecord_memo | with_reducible apply Memo.foldl | intro _ | with_reducible apply Memo.ite | simp only [Memo.upd] | dsimp only | split)

theorem startBatches_memo {s0 : State}  : ∀ (x0 : Nat) (x1 : BistRun) (s : State), Memo s0 s → Memo s0 (startBatches  x0 x1 s)
  | 0, x, s, h => by
    unfold startBatches
    repeat (first | with_reducible assumption | with_reducible apply endRun_memo | with_reducible apply isolateUnits_memo | with_reducible apply notRun_memo | intro _ | with_reducible apply Memo.ite | simp only [Memo.upd] | dsimp only | split)
  | fuel + 1, x, s, h => by
    unfold startBatches
    repeat (first | with_reducible assumption | with_reducible apply startBatches_memo | with_reducible apply endRun_memo | with_reducible apply isolateUnits_memo | with_reducible apply notRun_memo | intro _ | with_reducible apply Memo.ite | simp only [Memo.upd] | dsimp only | split)

theorem startRun_memo {s0 : State} (x : BistRun) (s : State) (hk : Memo s0 s) : Memo s0 (startRun x s) := by
  unfold startRun
  repeat (first | with_reducible assumption | with_reducible apply startBatches_memo | with_reducible apply bistAppend_memo | intro _ | with_reducible apply Memo.ite | simp only [Memo.upd] | dsimp only | split)

theorem refuseBist_memo {s0 : State} (reason : Nat) (s : State) (hk : Memo s0 s) : Memo s0 (refuseBist reason s) := by
  unfold refuseBist
  repeat (first | with_reducible assumption | intro _ | with_reducible apply Memo.ite | simp only [Memo.upd] | dsimp only | split)

theorem execBistRun_memo {s0 : State} (r : Requester) (v : Nat) (s : State) (hk : Memo s0 s) : MemoO s0 (execBistRun r v s) := by
  unfold execBistRun
  repeat (first | with_reducible assumption | with_reducible apply MemoO.next | with_reducible apply MemoO.ite | with_reducible apply refuseBist_memo | with_reducible apply startRun_memo | intro _ | with_reducible apply Memo.ite | simp only [Memo.upd] | dsimp only | split)

theorem setP2_memo {s0 : State} (s : State) (hk : Memo s0 s) : Memo s0 (setP2 s) := by
  unfold setP2
  repeat (first | with_reducible assumption | with_reducible apply switchCore_memo | intro _ | with_reducible apply Memo.ite | simp only [Memo.upd] | dsimp only | split)

theorem execMfgTestRun_memo {s0 : State} (units : Nat) (s : State) (hk : Memo s0 s) : MemoO s0 (execMfgTestRun units s) := by
  unfold execMfgTestRun
  repeat (first | with_reducible assumption | with_reducible apply MemoO.next | with_reducible apply MemoO.ite | with_reducible apply startRun_memo | with_reducible apply setP2_memo | intro _ | with_reducible apply Memo.ite | simp only [Memo.upd] | dsimp only | split)

theorem execBistUnitDone_memo {s0 : State} (unit result detail : Nat) (s : State) (hk : Memo s0 s) : MemoO s0 (execBistUnitDone unit result detail s) := by
  unfold execBistUnitDone
  repeat (first | with_reducible assumption | with_reducible apply MemoO.next | with_reducible apply MemoO.ite | with_reducible apply unitRecord_memo | with_reducible apply reinitUnit_memo | with_reducible apply startBatches_memo | intro _ | with_reducible apply Memo.ite | simp only [Memo.upd] | dsimp only | split)

theorem execBistWindowSample_memo {s0 : State} (cause : Nat) (s : State) (hk : Memo s0 s) : MemoO s0 (execBistWindowSample cause s) := by
  unfold execBistWindowSample
  repeat (first | with_reducible assumption | with_reducible apply MemoO.next | with_reducible apply MemoO.ite | with_reducible apply unitRecord_memo | with_reducible apply reinitUnit_memo | with_reducible apply startBatches_memo | with_reducible apply endRun_memo | with_reducible apply notRun_memo | with_reducible apply Memo.foldl | intro _ | with_reducible apply Memo.ite | simp only [Memo.upd] | dsimp only | split)

theorem notePartitionReq_memo {s0 : State} (v : Nat) (s : State) (hk : Memo s0 s) : Memo s0 (notePartitionReq v s) := by
  unfold notePartitionReq
  repeat (first | with_reducible assumption | intro _ | with_reducible apply Memo.ite | simp only [Memo.upd] | dsimp only | split)

theorem execPartitionResetComplete_memo {s0 : State} (p : PartId) (s : State) (hk : Memo s0 s) : MemoO s0 (execPartitionResetComplete p s) := by
  unfold execPartitionResetComplete
  repeat (first | with_reducible assumption | with_reducible apply MemoO.next | with_reducible apply MemoO.ite | with_reducible apply partitionReady_memo | intro _ | with_reducible apply Memo.ite | simp only [Memo.upd] | dsimp only | split)

theorem enterSafe_memo {s0 : State} (cause : Nat) (s : State) (hk : Memo s0 s) : Memo s0 (enterSafe cause s) := by
  unfold enterSafe
  repeat (first | with_reducible assumption | intro _ | with_reducible apply Memo.ite | simp only [Memo.upd] | dsimp only | split)

theorem probeFlash_memo {s0 : State} (s : State) (hk : Memo s0 s) : Memo s0 (probeFlash s) := by
  unfold probeFlash
  repeat (first | with_reducible assumption | intro _ | with_reducible apply Memo.ite | simp only [Memo.upd] | dsimp only | split)

theorem noteHeader_memo {s0 : State} (b : Bool) (r : Nat) (s : State) (hk : Memo s0 s) : Memo s0 (noteHeader b r s) := by
  unfold noteHeader
  repeat (first | with_reducible assumption | with_reducible apply secLog_memo | intro _ | with_reducible apply Memo.ite | simp only [Memo.upd] | dsimp only | split)

theorem toSelftest_memo {s0 : State} (cause : Nat) (s : State) (hk : Memo s0 s) : Memo s0 (toSelftest cause s) := by
  unfold toSelftest
  repeat (first | with_reducible assumption | intro _ | with_reducible apply Memo.ite | simp only [Memo.upd] | dsimp only | split)

theorem execRomBankChoice_memo {s0 : State} (s : State) (hk : Memo s0 s) : MemoO s0 (execRomBankChoice s) := by
  unfold execRomBankChoice
  repeat (first | with_reducible assumption | with_reducible apply MemoO.next | with_reducible apply MemoO.ite | with_reducible apply probeFlash_memo | with_reducible apply toSelftest_memo | with_reducible apply noteHeader_memo | intro _ | with_reducible apply Memo.ite | simp only [Memo.upd] | dsimp only | split)

theorem applyVerified_memo {s0 : State} (c : ImageCfg) (s : State) (hk : Memo s0 s) : Memo s0 (applyVerified c s) := by
  unfold applyVerified
  repeat (first | with_reducible assumption | intro _ | with_reducible apply Memo.ite | simp only [Memo.upd] | dsimp only | split)

theorem setBankStatus_memo {s0 : State} (b : Bool) (x : BankStatus) (s : State) (hk : Memo s0 s) : Memo s0 (setBankStatus b x s) := by
  unfold setBankStatus
  repeat (first | with_reducible assumption | intro _ | with_reducible apply Memo.ite | simp only [Memo.upd] | dsimp only | split)

theorem execSelftestDone_memo {s0 : State} (failed : Nat) (s : State) (hk : Memo s0 s) : MemoO s0 (execSelftestDone failed s) := by
  unfold execSelftestDone
  repeat (first | with_reducible assumption | with_reducible apply MemoO.next | with_reducible apply MemoO.ite | with_reducible apply enterError_memo | with_reducible apply secLog_memo | with_reducible apply deriveKeys_memo | with_reducible apply enterSafe_memo | intro _ | with_reducible apply Memo.ite | simp only [Memo.upd] | dsimp only | split)

theorem bootInfo_memo {s0 t : State} {v : List Nat} {c : ImageCfg} {kind : Nat} {s : State} (e : bootInfo c kind s = (v, t)) (hk : Memo s0 s) : Memo s0 t := by
  unfold bootInfo at e
  (try dsimp only at e)
  repeat' split at e
  all_goals (try cases e)
  all_goals repeat (first | with_reducible assumption | with_reducible refine takeFree_memo (by with_reducible assumption) ?_ | with_reducible apply takeFree_snd_memo | intro _ | with_reducible apply Memo.ite | with_reducible apply Memo.iteSnd | with_reducible apply Memo.iteFst | simp only [Memo.upd] | dsimp only | split)

theorem bootInfo_snd_memo {s0 : State} (c : ImageCfg) (kind : Nat) (s : State) (hk : Memo s0 s) : Memo s0 (bootInfo c kind s).2 :=
  bootInfo_memo (Prod.eta _).symm hk

theorem mapPort_memo {s0 : State} (c : ImageCfg) (k : PortId) (s : State) (hk : Memo s0 s) : Memo s0 (mapPort c k s) := by
  unfold mapPort
  repeat (first | with_reducible assumption | with_reducible apply updPort_memo | intro _ | with_reducible apply Memo.ite | simp only [Memo.upd] | dsimp only | split)

theorem execPortRetrainDone_memo {s0 : State} (k : PortId) (gen width : Nat) (s : State) (hk : Memo s0 s) : MemoO s0 (execPortRetrainDone k gen width s) := by
  unfold execPortRetrainDone
  repeat (first | with_reducible assumption | with_reducible apply MemoO.next | with_reducible apply MemoO.ite | with_reducible apply portEvent_memo | with_reducible apply updPort_memo | intro _ | with_reducible apply Memo.ite | with_reducible apply Memo.iteSnd | with_reducible apply Memo.iteFst | simp only [Memo.upd] | dsimp only | split)

theorem execHbmTrainDone_memo {s0 : State} (ok : Bool) (s : State) (hk : Memo s0 s) : MemoO s0 (execHbmTrainDone ok s) := by
  unfold execHbmTrainDone
  repeat (first | with_reducible assumption | with_reducible apply MemoO.next | with_reducible apply MemoO.ite | with_reducible apply enterSafe_memo | intro _ | with_reducible apply Memo.ite | simp only [Memo.upd] | dsimp only | split)

theorem execGroupSyncLineHigh_memo {s0 : State} (s : State) (hk : Memo s0 s) : MemoO s0 (execGroupSyncLineHigh s) := by
  unfold execGroupSyncLineHigh
  repeat (first | with_reducible assumption | with_reducible apply MemoO.next | with_reducible apply MemoO.ite | intro _ | with_reducible apply Memo.ite | simp only [Memo.upd] | dsimp only | split)

theorem advanceFloor_memo {s0 : State} (s : State) (hk : Memo s0 s) : Memo s0 (advanceFloor s) := by
  unfold advanceFloor
  repeat (first | with_reducible assumption | with_reducible apply secLog_memo | intro _ | with_reducible apply Memo.ite | simp only [Memo.upd] | dsimp only | split)

theorem readyClusters_memo {s0 : State} (s : State) (hk : Memo s0 s) : Memo s0 (readyClusters s) := by
  unfold readyClusters
  repeat (first | with_reducible assumption | with_reducible apply noticeChange_memo | with_reducible apply eachOf_memo | with_reducible apply setCluster_memo | intro _ | with_reducible apply Memo.ite | simp only [Memo.upd] | dsimp only | split)

theorem enterReady_memo {s0 : State} (s : State) (hk : Memo s0 s) : Memo s0 (enterReady s) := by
  unfold enterReady
  repeat (first | with_reducible assumption | with_reducible apply advanceFloor_memo | with_reducible apply readyClusters_memo | with_reducible apply dualWaiting_memo | with_reducible apply setSb_memo | with_reducible apply setCommit_memo | intro _ | with_reducible apply Memo.ite | simp only [Memo.upd] | dsimp only | split)

theorem execTimeSyncAchieved_memo {s0 : State} (s : State) (hk : Memo s0 s) : MemoO s0 (execTimeSyncAchieved s) := by
  unfold execTimeSyncAchieved
  repeat (first | with_reducible assumption | with_reducible apply MemoO.next | with_reducible apply MemoO.ite | with_reducible apply enterReady_memo | intro _ | with_reducible apply Memo.ite | simp only [Memo.upd] | dsimp only | split)

theorem execTimeSyncTimeout_memo {s0 : State} (s : State) (hk : Memo s0 s) : MemoO s0 (execTimeSyncTimeout s) := by
  unfold execTimeSyncTimeout
  repeat (first | with_reducible assumption | with_reducible apply MemoO.next | with_reducible apply MemoO.ite | with_reducible apply enterReady_memo | intro _ | with_reducible apply Memo.ite | simp only [Memo.upd] | dsimp only | split)

theorem execThermalTrip_memo {s0 : State} (sensor value : Nat) (s : State) (hk : Memo s0 s) : MemoO s0 (execThermalTrip sensor value s) := by
  unfold execThermalTrip
  repeat (first | with_reducible assumption | with_reducible apply MemoO.next | with_reducible apply MemoO.ite | intro _ | with_reducible apply Memo.ite | simp only [Memo.upd] | dsimp only | split)

theorem execFallbackAlertStep_memo {s0 : State} (s : State) (hk : Memo s0 s) : MemoO s0 (execFallbackAlertStep s) := by
  unfold execFallbackAlertStep
  repeat (first | with_reducible assumption | with_reducible apply MemoO.next | with_reducible apply MemoO.ite | with_reducible apply requestPstate_memo | intro _ | with_reducible apply Memo.ite | simp only [Memo.upd] | dsimp only | split)

theorem execMgtWdtRefresh_memo {s0 : State} (r : Requester) (v : Nat) (s : State) (hk : Memo s0 s) : MemoO s0 (execMgtWdtRefresh r v s) := by
  unfold execMgtWdtRefresh
  repeat (first | with_reducible assumption | with_reducible apply MemoO.next | with_reducible apply MemoO.ite | with_reducible apply releaseHeld_memo | intro _ | with_reducible apply Memo.ite | simp only [Memo.upd] | dsimp only | split)

theorem chargeSwitch_memo {s0 : State} (p : PartId) (old new : Nat) (s : State) (hk : Memo s0 s) : Memo s0 (chargeSwitch p old new s) := by
  unfold chargeSwitch
  repeat (first | with_reducible assumption | with_reducible refine takeFree_memo (by with_reducible assumption) ?_ | with_reducible apply takeFree_snd_memo | with_reducible apply charge_memo | intro _ | with_reducible apply Memo.ite | with_reducible apply Memo.iteSnd | with_reducible apply Memo.iteFst | simp only [Memo.upd] | dsimp only | split)

theorem switchModel_memo {s0 : State} (p : PartId) (m : Nat) (start : Nat) (s : State) (hk : Memo s0 s) : Memo s0 (switchModel p m start s) := by
  unfold switchModel
  repeat (first | with_reducible assumption | with_reducible apply chargeSwitch_memo | with_reducible apply cntPart_memo | with_reducible apply setRegPart_memo | with_reducible apply updPart_memo | intro _ | with_reducible apply Memo.ite | simp only [Memo.upd] | dsimp only | split)

theorem freshDual_memo {s0 : State} (p : PartId) (old new : Nat) (s : State) (hk : Memo s0 s) : Memo s0 (freshDual p old new s) := by
  unfold freshDual
  repeat (first | with_reducible assumption | with_reducible apply updPart_memo | intro _ | with_reducible apply Memo.ite | simp only [Memo.upd] | dsimp only | split)

theorem openJob_memo {s0 : State} (p : PartId) (d : Bytes) (start : Nat) (s : State) (hk : Memo s0 s) : Memo s0 (openJob p d start s) := by
  unfold openJob
  repeat (first | with_reducible assumption | with_reducible apply switchModel_memo | with_reducible apply eachOf_memo | with_reducible apply updCluster_memo | with_reducible apply freshDual_memo | with_reducible apply updPart_memo | with_reducible apply mgtEvent_memo | with_reducible apply updStream_memo | intro _ | with_reducible apply Memo.ite | simp only [Memo.upd] | dsimp only | split)

theorem clearCores_memo {s0 : State} (m : Nat) (s : State) (hk : Memo s0 s) : Memo s0 (clearCores m s) := by
  unfold clearCores
  repeat (first | with_reducible assumption | with_reducible apply eachOf_memo | with_reducible apply updCluster_memo | intro _ | with_reducible apply Memo.ite | simp only [Memo.upd] | dsimp only | split)

theorem endShare_memo {s0 : State} (p : PartId) (st : StreamId) (s : State) (hk : Memo s0 s) : Memo s0 (endShare p st s) := by
  unfold endShare
  repeat (first | with_reducible assumption | with_reducible apply updStream_memo | with_reducible apply record_memo | with_reducible apply clearCores_memo | with_reducible apply closeJob_memo | with_reducible apply jobEndSnapshot_memo | intro _ | with_reducible apply Memo.ite | simp only [Memo.upd] | dsimp only | split)

theorem endStep_memo {s0 : State} (p : PartId) (s : State) (hk : Memo s0 s) : Memo s0 (endStep p s) := by
  unfold endStep
  repeat (first | with_reducible assumption | with_reducible apply updPart_memo | intro _ | with_reducible apply Memo.ite | simp only [Memo.upd] | dsimp only | split)

theorem freeEntry_memo {s0 : State} (p : PartId) (st : StreamId) (s : State) (hk : Memo s0 s) : Memo s0 (freeEntry p st s) := by
  unfold freeEntry
  repeat (first | with_reducible assumption | with_reducible apply updStream_memo | with_reducible apply updPart_memo | intro _ | with_reducible apply Memo.ite | simp only [Memo.upd] | dsimp only | split)

theorem signOff_memo {s0 : State} (p : PartId) (st : StreamId) (e : Exec) (s : State) (hk : Memo s0 s) : Memo s0 (signOff p st e s) := by
  unfold signOff
  repeat (first | with_reducible assumption | with_reducible apply traceCmd_memo | with_reducible apply applySignal_memo | with_reducible apply updStream_memo | with_reducible apply msixPart_memo | with_reducible apply cntPart64_memo | with_reducible apply freeEntry_memo | intro _ | with_reducible apply Memo.ite | simp only [Memo.upd] | dsimp only | split)

theorem endProgram_memo {s0 : State} (p : PartId) (st : StreamId) (e : Exec) (s : State) (hk : Memo s0 s) : Memo s0 (endProgram p st e s) := by
  unfold endProgram
  repeat (first | with_reducible assumption | with_reducible apply signOff_memo | with_reducible apply updStream_memo | intro _ | with_reducible apply Memo.ite | simp only [Memo.upd] | dsimp only | split)

theorem endEffect_memo {s0 : State} (p : PartId) (st : StreamId) (e : Exec) (s : State) (hk : Memo s0 s) : Memo s0 (endEffect p st e s) := by
  unfold endEffect
  repeat (first | with_reducible assumption | with_reducible apply openJob_memo | with_reducible apply updStream_memo | with_reducible apply endShare_memo | with_reducible apply endStep_memo | with_reducible apply endAlone_memo | intro _ | with_reducible apply Memo.ite | simp only [Memo.upd] | dsimp only | split)

theorem goOn_memo {s0 : State} (p : PartId) (st : StreamId) (e : Exec) (s : State) (hk : Memo s0 s) : Memo s0 (goOn p st e s) := by
  unfold goOn
  repeat (first | with_reducible assumption | with_reducible apply updStream_memo | intro _ | with_reducible apply Memo.ite | simp only [Memo.upd] | dsimp only | split)

theorem execSycWaitTimeout_memo {s0 : State} (p : PartId) (st : StreamId) (s : State) (hk : Memo s0 s) : MemoO s0 (execSycWaitTimeout p st s) := by
  unfold execSycWaitTimeout
  repeat (first | with_reducible assumption | with_reducible apply MemoO.next | with_reducible apply MemoO.ite | with_reducible apply cmdFail_memo | with_reducible apply waitTimeout_memo | intro _ | with_reducible apply Memo.ite | simp only [Memo.upd] | dsimp only | split)

theorem setBank_memo {s0 : State} (b : Bank) (key v : Nat) (s : State) (hk : Memo s0 s) : Memo s0 (setBank b key v s) := by
  unfold setBank
  repeat (first | with_reducible assumption | with_reducible apply updPart_memo | with_reducible apply updPort_memo | with_reducible apply updLink_memo | with_reducible apply updPlane_memo | intro _ | with_reducible apply Memo.ite | simp only [Memo.upd] | dsimp only | split)

theorem cellClear_memo {s0 : State} (c : Cell) (s : State) (hk : Memo s0 s) : Memo s0 (cellClear c s) := by
  unfold cellClear
  repeat (first | with_reducible assumption | with_reducible apply setBank_memo | with_reducible apply setRegPart_memo | with_reducible apply updComm_memo | intro _ | with_reducible apply Memo.ite | simp only [Memo.upd] | dsimp only | split)

theorem subtractLive_memo {s0 : State} (c : Cell) (n : Nat) (s : State) (hk : Memo s0 s) : Memo s0 (subtractLive c n s) := by
  unfold subtractLive
  repeat (first | with_reducible assumption | with_reducible apply setBank_memo | with_reducible apply updComm_memo | intro _ | with_reducible apply Memo.ite | simp only [Memo.upd] | dsimp only | split)

theorem readEffect_memo {s0 : State} (r : Requester) (o : Nat) (s : State) (hk : Memo s0 s) : Memo s0 (readEffect r o s) := by
  unfold readEffect
  repeat (first | with_reducible assumption | with_reducible apply subtractLive_memo | with_reducible apply cellClear_memo | intro _ | with_reducible apply Memo.ite | simp only [Memo.upd] | dsimp only | split)

theorem readValue_memo {s0 t : State} {v : Nat} {r : Requester} {off len : Nat} {s : State} (e : readValue r off len s = (v, t)) (hk : Memo s0 s) : Memo s0 t := by
  unfold readValue at e
  (try dsimp only at e)
  repeat' split at e
  all_goals (try cases e)
  all_goals repeat (first | with_reducible assumption | intro _ | with_reducible apply Memo.ite | simp only [Memo.upd] | dsimp only | split)

theorem readValue_snd_memo {s0 : State} (r : Requester) (off len : Nat) (s : State) (hk : Memo s0 s) : Memo s0 (readValue r off len s).2 :=
  readValue_memo (Prod.eta _).symm hk

theorem readServed_memo {s0 : State} (r : Requester) (off len : Nat) (s : State) (hk : Memo s0 s) : Memo s0 (readServed r off len s) := by
  unfold readServed
  repeat (first | with_reducible assumption | with_reducible refine readValue_memo (by with_reducible assumption) ?_ | with_reducible apply readValue_snd_memo | with_reducible apply eachOf_memo | with_reducible apply readEffect_memo | with_reducible apply emit_memo | intro _ | with_reducible apply Memo.ite | with_reducible apply Memo.iteSnd | with_reducible apply Memo.iteFst | simp only [Memo.upd] | dsimp only | split)

theorem readReg_memo {s0 : State} (r : Requester) (off len : Nat) (s : State) (hk : Memo s0 s) : Memo s0 (readReg r off len s) := by
  unfold readReg
  repeat (first | with_reducible assumption | with_reducible apply readServed_memo | with_reducible refine hostMem_memo (by with_reducible assumption) ?_ | with_reducible apply hostMem_snd_memo | with_reducible apply emit_memo | intro _ | with_reducible apply Memo.ite | with_reducible apply Memo.iteSnd | with_reducible apply Memo.iteFst | simp only [Memo.upd] | dsimp only | split)

theorem configRead_memo {s0 : State} (k : PortId) (a : RegAddr) (len : Nat) (s : State) (hk : Memo s0 s) : Memo s0 (configRead k a len s) := by
  unfold configRead
  repeat (first | with_reducible assumption | with_reducible apply emit_memo | with_reducible apply leaveL1_memo | intro _ | with_reducible apply Memo.ite | simp only [Memo.upd] | dsimp only | split)

theorem bar2Read_memo {s0 : State} (k : PortId) (bare : Bool) (len : Nat) (s : State) (hk : Memo s0 s) : Memo s0 (bar2Read k bare len s) := by
  unfold bar2Read
  repeat (first | with_reducible assumption | with_reducible refine hostMem_memo (by with_reducible assumption) ?_ | with_reducible apply hostMem_snd_memo | with_reducible apply emit_memo | intro _ | with_reducible apply Memo.ite | with_reducible apply Memo.iteSnd | with_reducible apply Memo.iteFst | simp only [Memo.upd] | dsimp only | split)

theorem unsupportedReq_memo {s0 : State} (k : PortId) (s : State) (hk : Memo s0 s) : Memo s0 (unsupportedReq k s) := by
  unfold unsupportedReq
  repeat (first | with_reducible assumption | with_reducible apply emit_memo | with_reducible apply leaveL1_memo | intro _ | with_reducible apply Memo.ite | simp only [Memo.upd] | dsimp only | split)

theorem execRcRegisterRead_memo {s0 : State} (r : Requester) (a : RegAddr) (len : Nat) (s : State) (hk : Memo s0 s) : MemoO s0 (execRcRegisterRead r a len s) := by
  unfold execRcRegisterRead
  repeat (first | with_reducible assumption | with_reducible apply MemoO.next | with_reducible apply MemoO.ite | with_reducible apply readReg_memo | with_reducible apply bar2Read_memo | with_reducible apply unsupportedReq_memo | with_reducible apply configRead_memo | intro _ | with_reducible apply Memo.ite | simp only [Memo.upd] | dsimp only | split)

theorem execLowHalfRead_memo {s0 : State} (r : Requester) (off : Nat) (s : State) (hk : Memo s0 s) : MemoO s0 (execLowHalfRead r off s) := by
  unfold execLowHalfRead
  repeat (first | with_reducible assumption | with_reducible apply MemoO.next | with_reducible apply MemoO.ite | with_reducible apply readReg_memo | intro _ | with_reducible apply Memo.ite | simp only [Memo.upd] | dsimp only | split)

theorem execHighHalfRead_memo {s0 : State} (r : Requester) (off : Nat) (s : State) (hk : Memo s0 s) : MemoO s0 (execHighHalfRead r off s) := by
  unfold execHighHalfRead
  repeat (first | with_reducible assumption | with_reducible apply MemoO.next | with_reducible apply MemoO.ite | with_reducible apply readReg_memo | intro _ | with_reducible apply Memo.ite | simp only [Memo.upd] | dsimp only | split)

theorem snapWriter_memo {s0 t : State} {v : Bool} {r : Requester} {s : State} (e : snapWriter r s = (v, t)) (hk : Memo s0 s) : Memo s0 t := by
  unfold snapWriter at e
  (try dsimp only at e)
  repeat' split at e
  all_goals (try cases e)
  all_goals repeat (first | with_reducible assumption | with_reducible refine hostPart_memo (by with_reducible assumption) ?_ | with_reducible apply hostPart_snd_memo | intro _ | with_reducible apply Memo.ite | with_reducible apply Memo.iteSnd | with_reducible apply Memo.iteFst | simp only [Memo.upd] | dsimp only | split)

theorem snapWriter_snd_memo {s0 : State} (r : Requester) (s : State) (hk : Memo s0 s) : Memo s0 (snapWriter r s).2 :=
  snapWriter_memo (Prod.eta _).symm hk

theorem writeSnap_memo {s0 : State} (r : Requester) (v : Nat) (s : State) (hk : Memo s0 s) : Memo s0 (writeSnap r v s) := by
  unfold writeSnap
  repeat (first | with_reducible assumption | with_reducible refine snapWriter_memo (by with_reducible assumption) ?_ | with_reducible apply snapWriter_snd_memo | intro _ | with_reducible apply Memo.ite | with_reducible apply Memo.iteSnd | with_reducible apply Memo.iteFst | simp only [Memo.upd] | dsimp only | split)

theorem execCntSnapTake_memo {s0 : State} (r : Requester) (v : Nat) (s : State) (hk : Memo s0 s) : MemoO s0 (execCntSnapTake r v s) := by
  unfold execCntSnapTake
  repeat (first | with_reducible assumption | with_reducible apply MemoO.next | with_reducible apply MemoO.ite | with_reducible apply writeSnap_memo | intro _ | with_reducible apply Memo.ite | simp only [Memo.upd] | dsimp only | split)

theorem execCntSnapRelease_memo {s0 : State} (r : Requester) (v : Nat) (s : State) (hk : Memo s0 s) : MemoO s0 (execCntSnapRelease r v s) := by
  unfold execCntSnapRelease
  repeat (first | with_reducible assumption | with_reducible apply MemoO.next | with_reducible apply MemoO.ite | with_reducible apply writeSnap_memo | intro _ | with_reducible apply Memo.ite | simp only [Memo.upd] | dsimp only | split)

theorem writeMsix_memo {s0 : State} (k : PortId) (o v : Nat) (s : State) (hk : Memo s0 s) : Memo s0 (writeMsix k o v s) := by
  unfold writeMsix
  repeat (first | with_reducible assumption | with_reducible apply updPort_memo | with_reducible apply msixFlush_memo | intro _ | with_reducible apply Memo.ite | simp only [Memo.upd] | dsimp only | split)

theorem writePart_memo {s0 : State} (p : PartId) (off v : Nat) (s : State) (hk : Memo s0 s) : Memo s0 (writePart p off v s) := by
  unfold writePart
  repeat (first | with_reducible assumption | with_reducible apply updStream_memo | with_reducible apply updPart_memo | with_reducible apply setRegPart_memo | intro _ | with_reducible apply Memo.ite | simp only [Memo.upd] | dsimp only | split)

theorem writeHostWord_memo {s0 : State} (k : PortId) (off v : Nat) (s : State) (hk : Memo s0 s) : Memo s0 (writeHostWord k off v s) := by
  unfold writeHostWord
  repeat (first | with_reducible assumption | with_reducible apply updPort_memo | with_reducible apply writeMsix_memo | with_reducible apply writePart_memo | intro _ | with_reducible apply Memo.ite | simp only [Memo.upd] | dsimp only | split)

theorem eachWord_memo {s0 : State} (off len v : Nat) (f : Nat → Nat → State → State) (s : State) (hf : ∀ x0 x1 x2, Memo s0 x2 → Memo s0 (f x0 x1 x2)) (hk : Memo s0 s) : Memo s0 (eachWord off len v f s) := by
  unfold eachWord
  repeat (first | with_reducible apply hf | with_reducible assumption | with_reducible apply eachOf_memo | intro _ | with_reducible apply Memo.ite | simp only [Memo.upd] | dsimp only | split)

theorem setConfig_memo {s0 : State} (k : PortId) (a : RegAddr) (v : Nat) (s : State) (hk : Memo s0 s) : Memo s0 (setConfig k a v s) := by
  unfold setConfig
  repeat (first | with_reducible assumption | with_reducible apply updPort_memo | with_reducible apply msixFlush_memo | with_reducible apply aerUnexpected_memo | with_reducible apply aerPoisoned_memo | intro _ | with_reducible apply Memo.ite | simp only [Memo.upd] | dsimp only | split)

theorem writeBar0_memo {s0 : State} (k : PortId) (bare : Bool) (off len v : Nat) (ep : Bool) (s : State) (hk : Memo s0 s) : Memo s0 (writeBar0 k bare off len v ep s) := by
  unfold writeBar0
  repeat (first | with_reducible assumption | with_reducible refine hostMem_memo (by with_reducible assumption) ?_ | with_reducible apply hostMem_snd_memo | with_reducible apply poisonedWrite_memo | with_reducible apply eachWord_memo | with_reducible apply writeHostWord_memo | intro _ | with_reducible apply Memo.ite | with_reducible apply Memo.iteSnd | with_reducible apply Memo.iteFst | simp only [Memo.upd] | dsimp only | split)

theorem execDbgTraceCtlWrite_memo {s0 : State} (r : Requester) (v : Nat) (s : State) (hk : Memo s0 s) : MemoO s0 (execDbgTraceCtlWrite r v s) := by
  unfold execDbgTraceCtlWrite
  repeat (first | with_reducible assumption | with_reducible apply MemoO.next | with_reducible apply MemoO.ite | with_reducible refine hostPart_memo (by with_reducible assumption) ?_ | with_reducible apply hostPart_snd_memo | with_reducible apply updPart_memo | intro _ | with_reducible apply Memo.ite | with_reducible apply Memo.iteSnd | with_reducible apply Memo.iteFst | simp only [Memo.upd] | dsimp only | split)

theorem execDbgTraceRdWrite_memo {s0 : State} (r : Requester) (v : Nat) (s : State) (hk : Memo s0 s) : MemoO s0 (execDbgTraceRdWrite r v s) := by
  unfold execDbgTraceRdWrite
  repeat (first | with_reducible assumption | with_reducible apply MemoO.next | with_reducible apply MemoO.ite | with_reducible refine hostPart_memo (by with_reducible assumption) ?_ | with_reducible apply hostPart_snd_memo | with_reducible apply updPart_memo | intro _ | with_reducible apply Memo.ite | with_reducible apply Memo.iteSnd | with_reducible apply Memo.iteFst | simp only [Memo.upd] | dsimp only | split)

theorem execDbgMark_memo {s0 : State} (r : Requester) (v : Nat) (s : State) (hk : Memo s0 s) : MemoO s0 (execDbgMark r v s) := by
  unfold execDbgMark
  repeat (first | with_reducible assumption | with_reducible apply MemoO.next | with_reducible apply MemoO.ite | with_reducible refine hostPart_memo (by with_reducible assumption) ?_ | with_reducible apply hostPart_snd_memo | with_reducible apply traceGen_memo | intro _ | with_reducible apply Memo.ite | with_reducible apply Memo.iteSnd | with_reducible apply Memo.iteFst | simp only [Memo.upd] | dsimp only | split)

theorem showPc_memo {s0 : State} (mask : Nat) (s : State) (hk : Memo s0 s) : Memo s0 (showPc mask s) := by
  unfold showPc
  repeat (first | with_reducible assumption | with_reducible refine takeFree_memo (by with_reducible assumption) ?_ | with_reducible apply takeFree_snd_memo | intro _ | with_reducible apply Memo.ite | with_reducible apply Memo.iteSnd | with_reducible apply Memo.iteFst | simp only [Memo.upd] | dsimp only | split)

theorem writeMpCtl_memo {s0 : State} (r : Requester) (v : Nat) (s : State) (hk : Memo s0 s) : Memo s0 (writeMpCtl r v s) := by
  unfold writeMpCtl
  repeat (first | with_reducible assumption | with_reducible apply showPc_memo | intro _ | with_reducible apply Memo.ite | simp only [Memo.upd] | dsimp only | split)

theorem execMpHalt_memo {s0 : State} (r : Requester) (v : Nat) (s : State) (hk : Memo s0 s) : MemoO s0 (execMpHalt r v s) := by
  unfold execMpHalt
  repeat (first | with_reducible assumption | with_reducible apply MemoO.next | with_reducible apply MemoO.ite | with_reducible apply writeMpCtl_memo | intro _ | with_reducible apply Memo.ite | simp only [Memo.upd] | dsimp only | split)

theorem execMpStep_memo {s0 : State} (r : Requester) (v : Nat) (s : State) (hk : Memo s0 s) : MemoO s0 (execMpStep r v s) := by
  unfold execMpStep
  repeat (first | with_reducible assumption | with_reducible apply MemoO.next | with_reducible apply MemoO.ite | with_reducible apply writeMpCtl_memo | intro _ | with_reducible apply Memo.ite | simp only [Memo.upd] | dsimp only | split)

theorem execMgtEventHeadWrite_memo {s0 : State} (r : Requester) (v : Nat) (s : State) (hk : Memo s0 s) : MemoO s0 (execMgtEventHeadWrite r v s) := by
  unfold execMgtEventHeadWrite
  repeat (first | with_reducible assumption | with_reducible apply MemoO.next | with_reducible apply MemoO.ite | intro _ | with_reducible apply Memo.ite | simp only [Memo.upd] | dsimp only | split)

theorem sendMctp_memo {s0 : State} (bd : MctpBinding) (type : Nat) (b : Bytes) (s : State) (hk : Memo s0 s) : Memo s0 (sendMctp bd type b s) := by
  unfold sendMctp
  repeat (first | with_reducible assumption | with_reducible apply emit_memo | intro _ | with_reducible apply Memo.ite | simp only [Memo.upd] | dsimp only | split)

theorem vendorReply_memo {s0 : State} (bd : MctpBinding) (cmd status : Nat) (b : Bytes) (s : State) (hk : Memo s0 s) : Memo s0 (vendorReply bd cmd status b s) := by
  unfold vendorReply
  repeat (first | with_reducible assumption | with_reducible apply sendMctp_memo | intro _ | with_reducible apply Memo.ite | simp only [Memo.upd] | dsimp only | split)

theorem serveMctp_memo {s0 : State} (bd : MctpBinding) (f : State → State) (s : State) (hf : ∀ x0, Memo s0 x0 → Memo s0 (f x0)) (hk : Memo s0 s) : MemoO s0 (serveMctp bd f s) := by
  unfold serveMctp
  repeat (first | with_reducible apply hf | with_reducible assumption | with_reducible apply MemoO.next | with_reducible apply MemoO.ite | intro _ | with_reducible apply Memo.ite | simp only [Memo.upd] | dsimp only | split)

theorem execSetEndpointId_memo {s0 : State} (bd : MctpBinding) (op eid : Nat) (s : State) (hk : Memo s0 s) : MemoO s0 (execSetEndpointId bd op eid s) := by
  unfold execSetEndpointId
  repeat (first | with_reducible assumption | with_reducible apply MemoO.next | with_reducible apply MemoO.ite | with_reducible apply serveMctp_memo | with_reducible apply sendMctp_memo | intro _ | with_reducible apply Memo.ite | simp only [Memo.upd] | dsimp only | split)

theorem execSmbusTimeout_memo {s0 : State} (s : State) (hk : Memo s0 s) : MemoO s0 (execSmbusTimeout s) := by
  unfold execSmbusTimeout
  repeat (first | with_reducible assumption | with_reducible apply MemoO.next | with_reducible apply MemoO.ite | with_reducible apply emit_memo | with_reducible apply cntDev_memo | intro _ | with_reducible apply Memo.ite | simp only [Memo.upd] | dsimp only | split)

theorem execSmbusArbitrationRetry_memo {s0 : State} (s : State) (hk : Memo s0 s) : MemoO s0 (execSmbusArbitrationRetry s) := by
  unfold execSmbusArbitrationRetry
  repeat (first | with_reducible assumption | with_reducible apply MemoO.next | with_reducible apply MemoO.ite | with_reducible apply emit_memo | intro _ | with_reducible apply Memo.ite | simp only [Memo.upd] | dsimp only | split)

theorem execTripLatchRead_memo {s0 : State} (s : State) (hk : Memo s0 s) : MemoO s0 (execTripLatchRead s) := by
  unfold execTripLatchRead
  repeat (first | with_reducible assumption | with_reducible apply MemoO.next | with_reducible apply MemoO.ite | with_reducible apply emit_memo | intro _ | with_reducible apply Memo.ite | simp only [Memo.upd] | dsimp only | split)

theorem execRead32_memo {s0 : State} (bd : MctpBinding) (addr count : Nat) (s : State) (hk : Memo s0 s) : MemoO s0 (execRead32 bd addr count s) := by
  unfold execRead32
  repeat (first | with_reducible assumption | with_reducible apply MemoO.next | with_reducible apply MemoO.ite | with_reducible apply serveMctp_memo | with_reducible apply vendorReply_memo | intro _ | with_reducible apply Memo.ite | simp only [Memo.upd] | dsimp only | split)

theorem execLogRead_memo {s0 : State} (bd : MctpBinding) (sector off len : Nat) (s : State) (hk : Memo s0 s) : MemoO s0 (execLogRead bd sector off len s) := by
  unfold execLogRead
  repeat (first | with_reducible assumption | with_reducible apply MemoO.next | with_reducible apply MemoO.ite | with_reducible apply serveMctp_memo | with_reducible apply vendorReply_memo | intro _ | with_reducible apply Memo.ite | simp only [Memo.upd] | dsimp only | split)

theorem execPolicyMessage_memo {s0 : State} (bd : MctpBinding) (cmd : Nat) (body : Bytes) (s : State) (hk : Memo s0 s) : MemoO s0 (execPolicyMessage bd cmd body s) := by
  unfold execPolicyMessage
  repeat (first | with_reducible assumption | with_reducible apply MemoO.next | with_reducible apply MemoO.ite | with_reducible apply serveMctp_memo | with_reducible apply vendorReply_memo | with_reducible apply mgtEvent_memo | intro _ | with_reducible apply Memo.ite | simp only [Memo.upd] | dsimp only | split)

theorem execMgtMsgCtlSend_memo {s0 : State} (r : Requester) (v : Nat) (s : State) (hk : Memo s0 s) : MemoO s0 (execMgtMsgCtlSend r v s) := by
  unfold execMgtMsgCtlSend
  repeat (first | with_reducible assumption | with_reducible apply MemoO.next | with_reducible apply MemoO.ite | with_reducible apply vendorReply_memo | intro _ | with_reducible apply Memo.ite | simp only [Memo.upd] | dsimp only | split)

theorem execPolicyMessageTimeout_memo {s0 : State} (s : State) (hk : Memo s0 s) : MemoO s0 (execPolicyMessageTimeout s) := by
  unfold execPolicyMessageTimeout
  repeat (first | with_reducible assumption | with_reducible apply MemoO.next | with_reducible apply MemoO.ite | with_reducible apply vendorReply_memo | intro _ | with_reducible apply Memo.ite | simp only [Memo.upd] | dsimp only | split)

theorem execSetEventReceiver_memo {s0 : State} (bd : MctpBinding) (enable : Nat) (s : State) (hk : Memo s0 s) : MemoO s0 (execSetEventReceiver bd enable s) := by
  unfold execSetEventReceiver
  repeat (first | with_reducible assumption | with_reducible apply MemoO.next | with_reducible apply MemoO.ite | with_reducible apply serveMctp_memo | with_reducible apply sendMctp_memo | with_reducible apply Memo.foldl | intro _ | with_reducible apply Memo.ite | simp only [Memo.upd] | dsimp only | split)

theorem execGetSensorReading_memo {s0 : State} (bd : MctpBinding) (sensor : Nat) (s : State) (hk : Memo s0 s) : MemoO s0 (execGetSensorReading bd sensor s) := by
  unfold execGetSensorReading
  repeat (first | with_reducible assumption | with_reducible apply MemoO.next | with_reducible apply MemoO.ite | with_reducible apply serveMctp_memo | with_reducible apply sendMctp_memo | intro _ | with_reducible apply Memo.ite | simp only [Memo.upd] | dsimp only | split)

theorem execSensorEventTimer_memo {s0 : State} (sensor : Nat) (s : State) (hk : Memo s0 s) : MemoO s0 (execSensorEventTimer sensor s) := by
  unfold execSensorEventTimer
  repeat (first | with_reducible assumption | with_reducible apply MemoO.next | with_reducible apply MemoO.ite | with_reducible apply sendMctp_memo | intro _ | with_reducible apply Memo.ite | simp only [Memo.upd] | dsimp only | split)

theorem updUpdate_memo {s0 : State} (f : PldmUpdate → PldmUpdate) (s : State) (hk : Memo s0 s) : Memo s0 (updUpdate f s) := by
  unfold updUpdate
  repeat (first | with_reducible assumption | intro _ | with_reducible apply Memo.ite | simp only [Memo.upd] | dsimp only | split)

theorem pldmReply_memo {s0 : State} (bd : MctpBinding) (cmd code : Nat) (b : Bytes) (s : State) (hk : Memo s0 s) : Memo s0 (pldmReply bd cmd code b s) := by
  unfold pldmReply
  repeat (first | with_reducible assumption | with_reducible apply sendMctp_memo | intro _ | with_reducible apply Memo.ite | simp only [Memo.upd] | dsimp only | split)

theorem requestData_memo {s0 : State} (off n : Nat) (s : State) (hk : Memo s0 s) : Memo s0 (requestData off n s) := by
  unfold requestData
  repeat (first | with_reducible assumption | with_reducible apply sendMctp_memo | intro _ | with_reducible apply Memo.ite | simp only [Memo.upd] | dsimp only | split)

theorem requestNext_memo {s0 : State} (s : State) (hk : Memo s0 s) : Memo s0 (requestNext s) := by
  unfold requestNext
  repeat (first | with_reducible assumption | with_reducible apply requestData_memo | intro _ | with_reducible apply Memo.ite | simp only [Memo.upd] | dsimp only | split)

theorem stopUpdate_memo {s0 : State} (s : State) (hk : Memo s0 s) : Memo s0 (stopUpdate s) := by
  unfold stopUpdate
  repeat (first | with_reducible assumption | with_reducible apply updUpdate_memo | intro _ | with_reducible apply Memo.ite | simp only [Memo.upd] | dsimp only | split)

theorem execRequestUpdate_memo {s0 : State} (bd : MctpBinding) (_maxSize _count : Nat) (s : State) (hk : Memo s0 s) : MemoO s0 (execRequestUpdate bd _maxSize _count s) := by
  unfold execRequestUpdate
  repeat (first | with_reducible assumption | with_reducible apply MemoO.next | with_reducible apply MemoO.ite | with_reducible apply serveMctp_memo | with_reducible apply pldmReply_memo | with_reducible apply requestData_memo | with_reducible apply updUpdate_memo | intro _ | with_reducible apply Memo.ite | simp only [Memo.upd] | dsimp only | split)

theorem execPassComponentTable_memo {s0 : State} (bd : MctpBinding) (cls ident stamp : Nat) (s : State) (hk : Memo s0 s) : MemoO s0 (execPassComponentTable bd cls ident stamp s) := by
  unfold execPassComponentTable
  repeat (first | with_reducible assumption | with_reducible apply MemoO.next | with_reducible apply MemoO.ite | with_reducible apply serveMctp_memo | with_reducible apply pldmReply_memo | with_reducible apply updUpdate_memo | with_reducible apply stopUpdate_memo | intro _ | with_reducible apply Memo.ite | simp only [Memo.upd] | dsimp only | split)

theorem startErase_memo {s0 : State} (bd : MctpBinding) (cls ident : Nat) (s : State) (hk : Memo s0 s) : Memo s0 (startErase bd cls ident s) := by
  unfold startErase
  repeat (first | with_reducible assumption | with_reducible apply pldmReply_memo | with_reducible apply updUpdate_memo | with_reducible apply stopUpdate_memo | intro _ | with_reducible apply Memo.ite | simp only [Memo.upd] | dsimp only | split)

theorem execUpdateComponent_memo {s0 : State} (bd : MctpBinding) (cls ident _size : Nat) (s : State) (hk : Memo s0 s) : MemoO s0 (execUpdateComponent bd cls ident _size s) := by
  unfold execUpdateComponent
  repeat (first | with_reducible assumption | with_reducible apply MemoO.next | with_reducible apply MemoO.ite | with_reducible apply serveMctp_memo | with_reducible apply pldmReply_memo | with_reducible apply startErase_memo | with_reducible apply updUpdate_memo | intro _ | with_reducible apply Memo.ite | simp only [Memo.upd] | dsimp only | split)

theorem execBankEraseDone_memo {s0 : State} (s : State) (hk : Memo s0 s) : MemoO s0 (execBankEraseDone s) := by
  unfold execBankEraseDone
  repeat (first | with_reducible assumption | with_reducible apply MemoO.next | with_reducible apply MemoO.ite | with_reducible apply stopUpdate_memo | with_reducible apply requestNext_memo | with_reducible apply updUpdate_memo | intro _ | with_reducible apply Memo.ite | simp only [Memo.upd] | dsimp only | split)

theorem execFirmwareDataReceive_memo {s0 : State} (bd : MctpBinding) (off : Nat) (data : Bytes) (s : State) (hk : Memo s0 s) : MemoO s0 (execFirmwareDataReceive bd off data s) := by
  unfold execFirmwareDataReceive
  repeat (first | with_reducible assumption | with_reducible apply MemoO.next | with_reducible apply MemoO.ite | with_reducible apply serveMctp_memo | with_reducible apply updUpdate_memo | with_reducible apply startErase_memo | with_reducible apply requestNext_memo | intro _ | with_reducible apply Memo.ite | simp only [Memo.upd] | dsimp only | split)

theorem execFirmwareDataRetry_memo {s0 : State} (s : State) (hk : Memo s0 s) : MemoO s0 (execFirmwareDataRetry s) := by
  unfold execFirmwareDataRetry
  repeat (first | with_reducible assumption | with_reducible apply MemoO.next | with_reducible apply MemoO.ite | with_reducible apply requestData_memo | with_reducible apply requestNext_memo | intro _ | with_reducible apply Memo.ite | simp only [Memo.upd] | dsimp only | split)

theorem execTransferComplete_memo {s0 : State} (s : State) (hk : Memo s0 s) : MemoO s0 (execTransferComplete s) := by
  unfold execTransferComplete
  repeat (first | with_reducible assumption | with_reducible apply MemoO.next | with_reducible apply MemoO.ite | with_reducible apply sendMctp_memo | with_reducible apply updUpdate_memo | intro _ | with_reducible apply Memo.ite | simp only [Memo.upd] | dsimp only | split)

theorem execVerifyComplete_memo {s0 : State} (s : State) (hk : Memo s0 s) : MemoO s0 (execVerifyComplete s) := by
  unfold execVerifyComplete
  repeat (first | with_reducible assumption | with_reducible apply MemoO.next | with_reducible apply MemoO.ite | with_reducible apply sendMctp_memo | with_reducible apply updUpdate_memo | with_reducible apply stopUpdate_memo | intro _ | with_reducible apply Memo.ite | simp only [Memo.upd] | dsimp only | split)

theorem execApplyComplete_memo {s0 : State} (s : State) (hk : Memo s0 s) : MemoO s0 (execApplyComplete s) := by
  unfold execApplyComplete
  repeat (first | with_reducible assumption | with_reducible apply MemoO.next | with_reducible apply MemoO.ite | with_reducible apply secLog_memo | with_reducible apply sendMctp_memo | with_reducible apply updUpdate_memo | intro _ | with_reducible apply Memo.ite | simp only [Memo.upd] | dsimp only | split)

theorem execCancelUpdate_memo {s0 : State} (bd : MctpBinding) (s : State) (hk : Memo s0 s) : MemoO s0 (execCancelUpdate bd s) := by
  unfold execCancelUpdate
  repeat (first | with_reducible assumption | with_reducible apply MemoO.next | with_reducible apply MemoO.ite | with_reducible apply serveMctp_memo | with_reducible apply pldmReply_memo | with_reducible apply stopUpdate_memo | intro _ | with_reducible apply Memo.ite | simp only [Memo.upd] | dsimp only | split)

theorem execActivateFirmware_memo {s0 : State} (bd : MctpBinding) (s : State) (hk : Memo s0 s) : MemoO s0 (execActivateFirmware bd s) := by
  unfold execActivateFirmware
  repeat (first | with_reducible assumption | with_reducible apply MemoO.next | with_reducible apply MemoO.ite | with_reducible apply serveMctp_memo | with_reducible apply updUpdate_memo | with_reducible apply pldmReply_memo | intro _ | with_reducible apply Memo.ite | simp only [Memo.upd] | dsimp only | split)

theorem hearPair_memo {s0 t : State} {hd : PairHead} {b msg : Bytes} {kind : Nat} {s : State} (e : hearPair msg kind s = some (hd, b, t)) (h : Memo s0 s) : Memo s0 t := by
  unfold hearPair at e
  (try dsimp only at e)
  repeat' split at e
  all_goals (try cases e)
  all_goals repeat (first | with_reducible assumption | intro _ | with_reducible apply Memo.ite | simp only [Memo.upd] | dsimp only | split)

theorem clearPair_memo {s0 : State} (s : State) (hk : Memo s0 s) : Memo s0 (clearPair s) := by
  unfold clearPair
  repeat (first | with_reducible assumption | with_reducible apply eachOf_memo | with_reducible apply settleReleased_memo | with_reducible apply updSb_memo | intro _ | with_reducible apply Memo.ite | simp only [Memo.upd] | dsimp only | split)

theorem fullSnapshots_memo {s0 : State} (s : State) (hk : Memo s0 s) : Memo s0 (fullSnapshots s) := by
  unfold fullSnapshots
  repeat (first | with_reducible assumption | with_reducible apply eachOf_memo | with_reducible apply sendSnapshot_memo | intro _ | with_reducible apply Memo.ite | simp only [Memo.upd] | dsimp only | split)

theorem uncoverAll_memo {s0 : State} (s : State) (hk : Memo s0 s) : Memo s0 (uncoverAll s) := by
  unfold uncoverAll
  repeat (first | with_reducible assumption | with_reducible apply eachOf_memo | with_reducible apply uncover_memo | intro _ | with_reducible apply Memo.ite | simp only [Memo.upd] | dsimp only | split)

theorem execPairHelloSend_memo {s0 : State} (s : State) (hk : Memo s0 s) : MemoO s0 (execPairHelloSend s) := by
  unfold execPairHelloSend
  repeat (first | with_reducible assumption | with_reducible apply MemoO.next | with_reducible apply MemoO.ite | with_reducible apply pairHello_memo | intro _ | with_reducible apply Memo.ite | simp only [Memo.upd] | dsimp only | split)

theorem execMirrorReceive_memo {s0 : State} (msg : Bytes) (s : State) (hk : Memo s0 s) : MemoO s0 (execMirrorReceive msg s) := by
  unfold execMirrorReceive
  repeat (first | with_reducible assumption | with_reducible apply MemoO.next | with_reducible apply MemoO.ite | with_reducible refine hearPair_memo (by with_reducible assumption) ?_ | with_reducible apply updSb_memo | intro _ | with_reducible apply Memo.ite | with_reducible apply Memo.iteSnd | with_reducible apply Memo.iteFst | simp only [Memo.upd] | dsimp only | split)

theorem ackSnapshot_memo {s0 : State} (p : PartId) (epoch flags : Nat) (s : State) (hk : Memo s0 s) : Memo s0 (ackSnapshot p epoch flags s) := by
  unfold ackSnapshot
  repeat (first | with_reducible assumption | with_reducible apply sendPair_memo | intro _ | with_reducible apply Memo.ite | simp only [Memo.upd] | dsimp only | split)

theorem refuseSnapshot_memo {s0 : State} (p : PartId) (s : State) (hk : Memo s0 s) : Memo s0 (refuseSnapshot p s) := by
  unfold refuseSnapshot
  repeat (first | with_reducible assumption | with_reducible apply ackSnapshot_memo | with_reducible apply tornSnapshot_memo | intro _ | with_reducible apply Memo.ite | simp only [Memo.upd] | dsimp only | split)

theorem judgeSnapshot_memo {s0 : State} (p : PartId) (s : State) (hk : Memo s0 s) : Memo s0 (judgeSnapshot p s) := by
  unfold judgeSnapshot
  repeat (first | with_reducible assumption | with_reducible apply refuseSnapshot_memo | with_reducible apply ackSnapshot_memo | with_reducible apply updSb_memo | with_reducible apply Memo.foldl | intro _ | with_reducible apply Memo.ite | with_reducible apply Memo.iteSnd | with_reducible apply Memo.iteFst | simp only [Memo.upd] | dsimp only | split)

theorem execSnapReceive_memo {s0 : State} (msg : Bytes) (s : State) (hk : Memo s0 s) : MemoO s0 (execSnapReceive msg s) := by
  unfold execSnapReceive
  repeat (first | with_reducible assumption | with_reducible apply MemoO.next | with_reducible apply MemoO.ite | with_reducible refine hearPair_memo (by with_reducible assumption) ?_ | with_reducible apply refuseSnapshot_memo | with_reducible apply updSb_memo | with_reducible apply judgeSnapshot_memo | intro _ | with_reducible apply Memo.ite | simp only [Memo.upd] | dsimp only | split)

theorem execHeartbeatSnapshot_memo {s0 : State} (p : PartId) (s : State) (hk : Memo s0 s) : MemoO s0 (execHeartbeatSnapshot p s) := by
  unfold execHeartbeatSnapshot
  repeat (first | with_reducible assumption | with_reducible apply MemoO.next | with_reducible apply MemoO.ite | with_reducible apply sendSnapshot_memo | intro _ | with_reducible apply Memo.ite | simp only [Memo.upd] | dsimp only | split)

theorem execPairAckReceive_memo {s0 : State} (msg : Bytes) (s : State) (hk : Memo s0 s) : MemoO s0 (execPairAckReceive msg s) := by
  unfold execPairAckReceive
  repeat (first | with_reducible assumption | with_reducible apply MemoO.next | with_reducible apply MemoO.ite | with_reducible refine hearPair_memo (by with_reducible assumption) ?_ | with_reducible apply sendSnapshot_memo | with_reducible apply uncover_memo | with_reducible apply updSb_memo | with_reducible apply issueWhile_memo | intro _ | with_reducible apply Memo.ite | with_reducible apply Memo.iteSnd | with_reducible apply Memo.iteFst | simp only [Memo.upd] | dsimp only | split)

theorem sendOverTether_memo {s0 : State} (pl : PlaneId) (d : DevId) (h : PairHead) (s : State) (hk : Memo s0 s) : Memo s0 (sendOverTether pl d h s) := by
  unfold sendOverTether
  repeat (first | with_reducible assumption | with_reducible refine sendTether_memo (by with_reducible assumption) ?_ | with_reducible apply emit_memo | intro _ | with_reducible apply Memo.ite | simp only [Memo.upd] | dsimp only | split)

theorem execDeposedReceive_memo {s0 : State} (msg : Bytes) (s : State) (hk : Memo s0 s) : MemoO s0 (execDeposedReceive msg s) := by
  unfold execDeposedReceive
  repeat (first | with_reducible assumption | with_reducible apply MemoO.next | with_reducible apply MemoO.ite | with_reducible refine hearPair_memo (by with_reducible assumption) ?_ | with_reducible apply failover_memo | intro _ | with_reducible apply Memo.ite | simp only [Memo.upd] | dsimp only | split)

theorem execStandbySilence_memo {s0 : State} (s : State) (hk : Memo s0 s) : MemoO s0 (execStandbySilence s) := by
  unfold execStandbySilence
  repeat (first | with_reducible assumption | with_reducible apply MemoO.next | with_reducible apply MemoO.ite | with_reducible apply setSb_memo | with_reducible apply eachOf_memo | with_reducible apply sendOverTether_memo | intro _ | with_reducible apply Memo.ite | simp only [Memo.upd] | dsimp only | split)

theorem execPairProbeReceive_memo {s0 : State} (pl : PlaneId) (msg : Bytes) (s : State) (hk : Memo s0 s) : MemoO s0 (execPairProbeReceive pl msg s) := by
  unfold execPairProbeReceive
  repeat (first | with_reducible assumption | with_reducible apply MemoO.next | with_reducible apply MemoO.ite | with_reducible apply sendOverTether_memo | intro _ | with_reducible apply Memo.ite | simp only [Memo.upd] | dsimp only | split)

theorem standDown_memo {s0 : State} (s : State) (hk : Memo s0 s) : Memo s0 (standDown s) := by
  unfold standDown
  repeat (first | with_reducible assumption | with_reducible apply eachOf_memo | with_reducible apply updSb_memo | with_reducible apply setSb_memo | intro _ | with_reducible apply Memo.ite | simp only [Memo.upd] | dsimp only | split)

theorem execPairProbeAckReceive_memo {s0 : State} (_pl : PlaneId) (msg : Bytes) (s : State) (hk : Memo s0 s) : MemoO s0 (execPairProbeAckReceive _pl msg s) := by
  unfold execPairProbeAckReceive
  repeat (first | with_reducible assumption | with_reducible apply MemoO.next | with_reducible apply MemoO.ite | with_reducible apply failover_memo | with_reducible apply standDown_memo | intro _ | with_reducible apply Memo.ite | simp only [Memo.upd] | dsimp only | split)

theorem execWitnessQReceive_memo {s0 : State} (pl : PlaneId) (src : DevId) (msg : Bytes) (s : State) (hk : Memo s0 s) : MemoO s0 (execWitnessQReceive pl src msg s) := by
  unfold execWitnessQReceive
  repeat (first | with_reducible assumption | with_reducible apply MemoO.next | with_reducible apply MemoO.ite | with_reducible apply sendOverTether_memo | intro _ | with_reducible apply Memo.ite | simp only [Memo.upd] | dsimp only | split)

theorem execWitnessAReceive_memo {s0 : State} (_pl : PlaneId) (msg : Bytes) (s : State) (hk : Memo s0 s) : MemoO s0 (execWitnessAReceive _pl msg s) := by
  unfold execWitnessAReceive
  repeat (first | with_reducible assumption | with_reducible apply MemoO.next | with_reducible apply MemoO.ite | with_reducible apply standDown_memo | intro _ | with_reducible apply Memo.ite | simp only [Memo.upd] | dsimp only | split)

theorem execTakeoverDecision_memo {s0 : State} (s : State) (hk : Memo s0 s) : MemoO s0 (execTakeoverDecision s) := by
  unfold execTakeoverDecision
  repeat (first | with_reducible assumption | with_reducible apply MemoO.next | with_reducible apply MemoO.ite | with_reducible apply setSb_memo | with_reducible apply failover_memo | intro _ | with_reducible apply Memo.ite | simp only [Memo.upd] | dsimp only | split)

theorem execSbActivate_memo {s0 : State} (r : Requester) (v : Nat) (s : State) (hk : Memo s0 s) : MemoO s0 (execSbActivate r v s) := by
  unfold execSbActivate
  repeat (first | with_reducible assumption | with_reducible apply MemoO.next | with_reducible apply MemoO.ite | with_reducible apply clearPair_memo | with_reducible apply setSb_memo | with_reducible apply failover_memo | intro _ | with_reducible apply Memo.ite | simp only [Memo.upd] | dsimp only | split)

theorem execSbRejoin_memo {s0 : State} (r : Requester) (v : Nat) (s : State) (hk : Memo s0 s) : MemoO s0 (execSbRejoin r v s) := by
  unfold execSbRejoin
  repeat (first | with_reducible assumption | with_reducible apply MemoO.next | with_reducible apply MemoO.ite | with_reducible apply eachOf_memo | with_reducible apply pump_memo | with_reducible apply setSb_memo | intro _ | with_reducible apply Memo.ite | simp only [Memo.upd] | dsimp only | split)

theorem seqRun_memo {s0 : State} (p : PartId) (op : Nat) (body : Bytes → State → State) (s : State) (hf : ∀ d t, Memo s0 t → Memo s0 (body d t)) (hk : Memo s0 s) : MemoO s0 (seqRun p op [] body s) := by
  unfold seqRun
  refine runCmd_memo _ _ _ _ _ (fun d t h => ?_) hk
  dsimp only [List.foldl]
  split
  · exact hf _ _ (seqBusy_memo _ _ h)
  · exact h

theorem execSeqLd_memo {s0 : State} (p : PartId) (s : State) (hk : Memo s0 s) : MemoO s0 (execSeqLd p [] s) :=
  seqRun_memo _ _ _ _ (fun d t h => seqLd_memo p d t h) hk

theorem execSeqZero_memo {s0 : State} (p : PartId) (s : State) (hk : Memo s0 s) : MemoO s0 (execSeqZero p s) := by
  unfold execSeqZero
  repeat (first | with_reducible assumption | with_reducible apply MemoO.next | with_reducible apply MemoO.ite | with_reducible apply seqRun_memo | with_reducible apply seqZero_memo | intro _ | with_reducible apply Memo.ite | simp only [Memo.upd] | dsimp only | split)

theorem execSeqMma_memo {s0 : State} (p : PartId) (s : State) (hk : Memo s0 s) : MemoO s0 (execSeqMma p [] s) :=
  seqRun_memo _ _ _ _ (fun d t h => seqMma_memo p d t h) hk

theorem execSeqAct_memo {s0 : State} (p : PartId) (s : State) (hk : Memo s0 s) : MemoO s0 (execSeqAct p [] s) :=
  seqRun_memo _ _ _ _ (fun d t h => seqAct_memo p d t h) hk

theorem execSeqMul_memo {s0 : State} (p : PartId) (s : State) (hk : Memo s0 s) : MemoO s0 (execSeqMul p [] s) :=
  seqRun_memo _ _ _ _ (fun d t h => seqMul_memo p d t h) hk

theorem execSeqScale_memo {s0 : State} (p : PartId) (s : State) (hk : Memo s0 s) : MemoO s0 (execSeqScale p [] s) :=
  seqRun_memo _ _ _ _ (fun d t h => seqScale_memo p d t h) hk

theorem execSeqCvt_memo {s0 : State} (p : PartId) (s : State) (hk : Memo s0 s) : MemoO s0 (execSeqCvt p [] s) :=
  seqRun_memo _ _ _ _ (fun d t h => seqCvt_memo p d t h) hk

theorem passEcc_memo {s0 : State} (p : PartId) (x : Pass) (s : State) (hk : Memo s0 s) : Memo s0 (passEcc p x [] s) := by
  have e : s0.sramErr = [] → passEcc p x [] s = s := fun n => by
    have h := hk.sram n
    unfold passEcc
    simp [h]
    rw [← h]
  constructor <;> intro n <;> rw [e n]
  · exact hk.sram n
  all_goals first | exact hk.hbm n

end Sys2Proof.Laws
end

