-- ==== Sys2Proof/Laws/Memory.lean ====
section
/-!
SUPPORT. Memory.lean: every operation on a memory or a sparse table keeps its canonical form.
-/
namespace Sys2Proof.Laws
open Sys2Proof Sys2Proof.Machine

theorem tabWfFrom_mono {α : Type} [DecidableEq α] (d : α) : ∀ (t : Tab α) (a b : Nat), a ≤ b → tabWfFrom d b t = true → tabWfFrom d a t = true
  | [], _, _, _, _ => rfl
  | (k, v) :: t, a, b, hab, h => by
    simp only [tabWfFrom, Bool.and_eq_true, decide_eq_true_eq] at h ⊢
    exact ⟨⟨Nat.le_trans hab h.1.1, h.1.2⟩, h.2⟩

theorem tabWfFrom_tabSet {α : Type} [DecidableEq α] (d : α) (q : Nat) (v : α) :
    ∀ (t : Tab α) (lo : Nat), lo ≤ q → tabWfFrom d lo t = true → tabWfFrom d lo (tabSet d q v t) = true
  | [], lo, hq, _ => by
    unfold tabSet
    split <;> simp_all [tabWfFrom]
  | (k, w) :: t, lo, hq, h => by
    have h' := h
    simp only [tabWfFrom, Bool.and_eq_true, decide_eq_true_eq] at h
    unfold tabSet
    by_cases hk : k < q
    · have ih := tabWfFrom_tabSet d q v t (k + 1) hk h.2
      simp [hk, tabWfFrom, h.1.1, h.1.2, ih]
    · by_cases he : k = q
      · subst he
        by_cases hv : v = d
        · simpa [hv] using tabWfFrom_mono d t lo (k + 1) (by omega) h.2
        · simp [hv, tabWfFrom, hq, h.2]
      · by_cases hv : v = d
        · simpa [hk, he, hv] using h'
        · simp [hk, he, hv, tabWfFrom, hq, h.1.2, h.2]; omega

/-- Writing an entry keeps the canonical form. -/
theorem tabWf_tabSet {α : Type} [DecidableEq α] (d : α) (q : Nat) (v : α) (t : Tab α) (h : tabWf d t = true) :
    tabWf d (tabSet d q v t) = true := tabWfFrom_tabSet d q v t 0 (Nat.zero_le _) h

theorem tabWfFrom_tabClear {α : Type} [DecidableEq α] (d : α) (lo hi : Nat) :
    ∀ (t : Tab α) (a : Nat), tabWfFrom d a t = true → tabWfFrom d a (tabClear lo hi t) = true
  | [], _, _ => rfl
  | (k, v) :: t, a, h => by
    simp only [tabWfFrom, Bool.and_eq_true, decide_eq_true_eq] at h
    have ih := tabWfFrom_tabClear d lo hi t (k + 1) h.2
    unfold tabClear at ih ⊢
    simp only [List.filter_cons]
    split
    · simp [tabWfFrom, h.1.1, h.1.2, ih]
    · exact tabWfFrom_mono d _ a (k + 1) (by omega) ih

/-- Clearing a range keeps the canonical form. -/
theorem tabWf_tabClear {α : Type} [DecidableEq α] (d : α) (lo hi : Nat) (t : Tab α) (h : tabWf d t = true) :
    tabWf d (tabClear lo hi t) = true := tabWfFrom_tabClear d lo hi t 0 h

/-- A read after a write of the same entry gives what was written. -/
theorem tabGet_tabSet_same {α : Type} [DecidableEq α] (d : α) (q : Nat) (v : α) :
    ∀ (t : Tab α) (lo : Nat), tabWfFrom d lo t = true → tabGet d (tabSet d q v t) q = v
  | [], _, _ => by
    unfold tabSet
    split <;> simp_all [tabGet]
  | (k, w) :: t, lo, h => by
    simp only [tabWfFrom, Bool.and_eq_true, decide_eq_true_eq] at h
    unfold tabSet
    by_cases hk : k < q
    · have ih := tabGet_tabSet_same d q v t (k + 1) h.2
      have : k ≠ q := by omega
      simp [hk, tabGet, this, ih]
    · have none : ∀ (u : Tab α) (a : Nat), q < a → tabWfFrom d a u = true → tabGet d u q = d := by
        intro u
        induction u with
        | nil => intro a _ _; rfl
        | cons e u ih =>
          obtain ⟨k', w'⟩ := e
          intro a ha hu
          simp only [tabWfFrom, Bool.and_eq_true, decide_eq_true_eq] at hu
          have : k' ≠ q := by omega
          simp only [tabGet, this, if_false]
          exact ih (k' + 1) (by omega) hu.2
      by_cases he : k = q
      · subst he
        by_cases hv : v = d
        · simpa [hv] using none t (k + 1) (by omega) h.2
        · simp [hv, tabGet]
      · by_cases hv : v = d
        · simp only [hk, he, hv, if_false, if_true, tabGet]
          exact none t (k + 1) (by omega) h.2
        · simp [hk, he, hv, tabGet]

/-- A write leaves every other entry as it was. -/
theorem tabGet_tabSet_other {α : Type} [DecidableEq α] (d : α) (q r : Nat) (v : α) (hr : r ≠ q) :
    ∀ (t : Tab α), tabGet d (tabSet d q v t) r = tabGet d t r
  | [] => by
    unfold tabSet
    split <;> simp [tabGet, Ne.symm hr]
  | (k, w) :: t => by
    have ih := tabGet_tabSet_other d q r v hr t
    unfold tabSet
    by_cases hk : k < q
    · simp [hk, tabGet, ih]
    · by_cases he : k = q
      · subst he
        by_cases hv : v = d <;> simp [hv, tabGet, Ne.symm hr]
      · by_cases hv : v = d <;> simp [hk, he, hv, tabGet, Ne.symm hr]

/-- Writing a string of bytes keeps the canonical form of a cleared memory. -/
theorem memWf_memWriteN : ∀ (b : Bytes) (m : Memory) (a : Nat), memWf m = true → memWf (memWriteN m a b) = true
  | [], _, _, h => h
  | x :: b, m, a, h => memWf_memWriteN b (memWrite m a x) (a + 1) (tabWf_tabSet memDefault a x m h)

/-- Programming a string of bytes keeps the canonical form of the flash. -/
theorem tabWf_flashWriteN : ∀ (b : Bytes) (m : Memory) (a : Nat), tabWf flashDefault m = true → tabWf flashDefault (flashWriteN m a b) = true
  | [], _, _, h => h
  | x :: b, m, a, h => tabWf_flashWriteN b (tabSet flashDefault a x m) (a + 1) (tabWf_tabSet flashDefault a x m h)

/-- A byte outside the written range reads as before. -/
theorem memRead_memWriteN_outside : ∀ (b : Bytes) (m : Memory) (a q : Nat), q < a ∨ a + b.length ≤ q →
    memRead (memWriteN m a b) q = memRead m q
  | [], _, _, _, _ => rfl
  | x :: b, m, a, q, h => by
    simp only [List.length_cons] at h
    rw [memWriteN, memRead_memWriteN_outside b (memWrite m a x) (a + 1) q (by omega)]
    exact tabGet_tabSet_other memDefault a q x (by omega) m

end Sys2Proof.Laws
end

