-- ==== Sys2Proof/Laws/Keeps1.lean ====
section
/-!
SUPPORT. Keeps1.lean: the relation itself, then what every operation keeps, one lemma per operation, in the order of the definitions (1 of 5).
Keeps s t: the memories of t are in canonical form if those of s are, no fuse is unburned, the queue is untouched, what was sent stays, the counter of free values does not fall.
-/
set_option linter.all false
namespace Sys2Proof.Laws
open Sys2Proof Sys2Proof.Machine Sys2Proof.Safety

structure Keeps (s t : State) : Prop where
  hbm : memWf s.hbm = true → memWf t.hbm = true
  poison : tabWf false s.hbmPoison = true → tabWf false t.hbmPoison = true
  err : tabWf .none s.hbmErr = true → tabWf .none t.hbmErr = true
  flash : tabWf flashDefault s.flash = true → tabWf flashDefault t.flash = true
  syc : tabWf 0 s.syc = true → tabWf 0 t.syc = true
  fuses : FusesLe s.fuses t.fuses
  pending : t.pending = s.pending
  out : s.out <:+ t.out
  free : s.free ≤ t.free

theorem FusesLe.refl (f : Fuses) : FusesLe f f := ⟨⟨id, id⟩, ⟨id, id⟩, ⟨id, id⟩, ⟨id, id⟩, fun _ => ⟨id, id⟩, fun _ => ⟨id, id⟩, Nat.le_refl _⟩
theorem FusesLe.trans {f g k : Fuses} (h : FusesLe f g) (i : FusesLe g k) : FusesLe f k :=
  ⟨⟨i.prov.a ∘ h.prov.a, i.prov.b ∘ h.prov.b⟩, ⟨i.deploy.a ∘ h.deploy.a, i.deploy.b ∘ h.deploy.b⟩,
   ⟨i.decom.a ∘ h.decom.a, i.decom.b ∘ h.decom.b⟩, ⟨i.huk.a ∘ h.huk.a, i.huk.b ∘ h.huk.b⟩,
   fun n => ⟨(i.unlock n).a ∘ (h.unlock n).a, (i.unlock n).b ∘ (h.unlock n).b⟩,
   fun n => ⟨(i.relock n).a ∘ (h.relock n).a, (i.relock n).b ∘ (h.relock n).b⟩, Nat.le_trans h.floor i.floor⟩

theorem Keeps.refl (s : State) : Keeps s s := ⟨id, id, id, id, id, FusesLe.refl _, rfl, List.suffix_refl _, Nat.le_refl _⟩

/-- An update of other fields. -/
theorem Keeps.upd {s0 X : State} (xs x0 x1 x2 x3 x4 x5 x6 x7 x9 x10 x11 x12 x13 x14 x15 x16 x17 x18 x19 x20 x21 x22 x23 x24 x25 x26 x27) :
    Keeps s0 {
      boot := x0
      pins := x1
      fuses := X.fuses
      flash := X.flash
      cfg := x2
      img := x3
      time := x4
      commit := x5
      ports := x6
      parts := x7
      syc := X.syc
      hbm := X.hbm
      hbmPoison := X.hbmPoison
      hbmErr := X.hbmErr
      sramErr := xs
      links := x9
      bridle := x10
      planes := x11
      tether := x12
      net := x13
      col := x14
      clusters := x15
      power := x16
      pair := x17
      dual := x18
      sec := x19
      bist := x20
      mgt := x21
      mp := x22
      mgtRing := x23
      errSelect := x24
      regs := x25
      latches := x26
      snaps := x27
      free := X.free
      out := X.out
      pending := X.pending } ↔ Keeps s0 X :=
  ⟨fun h => ⟨h.hbm, h.poison, h.err, h.flash, h.syc, h.fuses, h.pending, h.out, h.free⟩, fun h => ⟨h.hbm, h.poison, h.err, h.flash, h.syc, h.fuses, h.pending, h.out, h.free⟩⟩

/-- Updates of a memory. -/
theorem Keeps.hbmClear {s0 X : State} (lo hi lo2 hi2 : Nat) (h : Keeps s0 X) (xs x0 x1 x2 x3 x4 x5 x6 x7 x9 x10 x11 x12 x13 x14 x15 x16 x17 x18 x19 x20 x21 x22 x23 x24 x25 x26 x27) :
    Keeps s0 {
      boot := x0
      pins := x1
      fuses := X.fuses
      flash := X.flash
      cfg := x2
      img := x3
      time := x4
      commit := x5
      ports := x6
      parts := x7
      syc := X.syc
      hbm := tabClear lo hi X.hbm
      hbmPoison := tabClear lo2 hi2 X.hbmPoison
      hbmErr := tabClear lo2 hi2 X.hbmErr
      sramErr := xs
      links := x9
      bridle := x10
      planes := x11
      tether := x12
      net := x13
      col := x14
      clusters := x15
      power := x16
      pair := x17
      dual := x18
      sec := x19
      bist := x20
      mgt := x21
      mp := x22
      mgtRing := x23
      errSelect := x24
      regs := x25
      latches := x26
      snaps := x27
      free := X.free
      out := X.out
      pending := X.pending } :=
  ⟨fun w => tabWf_tabClear memDefault lo hi X.hbm (h.hbm w), fun w => tabWf_tabClear false lo2 hi2 X.hbmPoison (h.poison w), fun w => tabWf_tabClear .none lo2 hi2 X.hbmErr (h.err w), h.flash, h.syc, h.fuses, h.pending, h.out, h.free⟩

theorem Keeps.hbmNil {s0 X : State}  (h : Keeps s0 X) (xs x0 x1 x2 x3 x4 x5 x6 x7 x9 x10 x11 x12 x13 x14 x15 x16 x17 x18 x19 x20 x21 x22 x23 x24 x25 x26 x27) :
    Keeps s0 {
      boot := x0
      pins := x1
      fuses := X.fuses
      flash := X.flash
      cfg := x2
      img := x3
      time := x4
      commit := x5
      ports := x6
      parts := x7
      syc := X.syc
      hbm := []
      hbmPoison := []
      hbmErr := []
      sramErr := xs
      links := x9
      bridle := x10
      planes := x11
      tether := x12
      net := x13
      col := x14
      clusters := x15
      power := x16
      pair := x17
      dual := x18
      sec := x19
      bist := x20
      mgt := x21
      mp := x22
      mgtRing := x23
      errSelect := x24
      regs := x25
      latches := x26
      snaps := x27
      free := X.free
      out := X.out
      pending := X.pending } :=
  ⟨fun _ => rfl, fun _ => rfl, fun _ => rfl, h.flash, h.syc, h.fuses, h.pending, h.out, h.free⟩

theorem Keeps.flashClear {s0 X : State} (lo hi : Nat) (h : Keeps s0 X) (xs x0 x1 x2 x3 x4 x5 x6 x7 x9 x10 x11 x12 x13 x14 x15 x16 x17 x18 x19 x20 x21 x22 x23 x24 x25 x26 x27) :
    Keeps s0 {
      boot := x0
      pins := x1
      fuses := X.fuses
      flash := tabClear lo hi X.flash
      cfg := x2
      img := x3
      time := x4
      commit := x5
      ports := x6
      parts := x7
      syc := X.syc
      hbm := X.hbm
      hbmPoison := X.hbmPoison
      hbmErr := X.hbmErr
      sramErr := xs
      links := x9
      bridle := x10
      planes := x11
      tether := x12
      net := x13
      col := x14
      clusters := x15
      power := x16
      pair := x17
      dual := x18
      sec := x19
      bist := x20
      mgt := x21
      mp := x22
      mgtRing := x23
      errSelect := x24
      regs := x25
      latches := x26
      snaps := x27
      free := X.free
      out := X.out
      pending := X.pending } :=
  ⟨h.hbm, h.poison, h.err, fun w => tabWf_tabClear flashDefault lo hi X.flash (h.flash w), h.syc, h.fuses, h.pending, h.out, h.free⟩

theorem Keeps.flashWriteN {s0 X : State} (a : Nat) (b : Bytes) (h : Keeps s0 X) (xs x0 x1 x2 x3 x4 x5 x6 x7 x9 x10 x11 x12 x13 x14 x15 x16 x17 x18 x19 x20 x21 x22 x23 x24 x25 x26 x27) :
    Keeps s0 {
      boot := x0
      pins := x1
      fuses := X.fuses
      flash := flashWriteN X.flash a b
      cfg := x2
      img := x3
      time := x4
      commit := x5
      ports := x6
      parts := x7
      syc := X.syc
      hbm := X.hbm
      hbmPoison := X.hbmPoison
      hbmErr := X.hbmErr
      sramErr := xs
      links := x9
      bridle := x10
      planes := x11
      tether := x12
      net := x13
      col := x14
      clusters := x15
      power := x16
      pair := x17
      dual := x18
      sec := x19
      bist := x20
      mgt := x21
      mp := x22
      mgtRing := x23
      errSelect := x24
      regs := x25
      latches := x26
      snaps := x27
      free := X.free
      out := X.out
      pending := X.pending } :=
  ⟨h.hbm, h.poison, h.err, fun w => tabWf_flashWriteN b X.flash a (h.flash w), h.syc, h.fuses, h.pending, h.out, h.free⟩

theorem Keeps.sycSet {s0 X : State} (i v : Nat) (h : Keeps s0 X) (xs x0 x1 x2 x3 x4 x5 x6 x7 x9 x10 x11 x12 x13 x14 x15 x16 x17 x18 x19 x20 x21 x22 x23 x24 x25 x26 x27) :
    Keeps s0 {
      boot := x0
      pins := x1
      fuses := X.fuses
      flash := X.flash
      cfg := x2
      img := x3
      time := x4
      commit := x5
      ports := x6
      parts := x7
      syc := tabSet 0 i v X.syc
      hbm := X.hbm
      hbmPoison := X.hbmPoison
      hbmErr := X.hbmErr
      sramErr := xs
      links := x9
      bridle := x10
      planes := x11
      tether := x12
      net := x13
      col := x14
      clusters := x15
      power := x16
      pair := x17
      dual := x18
      sec := x19
      bist := x20
      mgt := x21
      mp := x22
      mgtRing := x23
      errSelect := x24
      regs := x25
      latches := x26
      snaps := x27
      free := X.free
      out := X.out
      pending := X.pending } :=
  ⟨h.hbm, h.poison, h.err, h.flash, fun w => tabWf_tabSet 0 i v X.syc (h.syc w), h.fuses, h.pending, h.out, h.free⟩

theorem Keeps.errSet {s0 X : State} (g : Nat) (v : HbmErr) (h : Keeps s0 X) (xs x0 x1 x2 x3 x4 x5 x6 x7 x9 x10 x11 x12 x13 x14 x15 x16 x17 x18 x19 x20 x21 x22 x23 x24 x25 x26 x27) :
    Keeps s0 {
      boot := x0
      pins := x1
      fuses := X.fuses
      flash := X.flash
      cfg := x2
      img := x3
      time := x4
      commit := x5
      ports := x6
      parts := x7
      syc := X.syc
      hbm := X.hbm
      hbmPoison := X.hbmPoison
      hbmErr := tabSet .none g v X.hbmErr
      sramErr := xs
      links := x9
      bridle := x10
      planes := x11
      tether := x12
      net := x13
      col := x14
      clusters := x15
      power := x16
      pair := x17
      dual := x18
      sec := x19
      bist := x20
      mgt := x21
      mp := x22
      mgtRing := x23
      errSelect := x24
      regs := x25
      latches := x26
      snaps := x27
      free := X.free
      out := X.out
      pending := X.pending } :=
  ⟨h.hbm, h.poison, fun w => tabWf_tabSet .none g v X.hbmErr (h.err w), h.flash, h.syc, h.fuses, h.pending, h.out, h.free⟩

theorem Keeps.freeUp {s0 X : State} (n : Nat) (h : Keeps s0 X) (xs x0 x1 x2 x3 x4 x5 x6 x7 x9 x10 x11 x12 x13 x14 x15 x16 x17 x18 x19 x20 x21 x22 x23 x24 x25 x26 x27) :
    Keeps s0 {
      boot := x0
      pins := x1
      fuses := X.fuses
      flash := X.flash
      cfg := x2
      img := x3
      time := x4
      commit := x5
      ports := x6
      parts := x7
      syc := X.syc
      hbm := X.hbm
      hbmPoison := X.hbmPoison
      hbmErr := X.hbmErr
      sramErr := xs
      links := x9
      bridle := x10
      planes := x11
      tether := x12
      net := x13
      col := x14
      clusters := x15
      power := x16
      pair := x17
      dual := x18
      sec := x19
      bist := x20
      mgt := x21
      mp := x22
      mgtRing := x23
      errSelect := x24
      regs := x25
      latches := x26
      snaps := x27
      free := X.free + n
      out := X.out
      pending := X.pending } :=
  ⟨h.hbm, h.poison, h.err, h.flash, h.syc, h.fuses, h.pending, h.out, Nat.le_trans h.free (Nat.le_add_right _ _)⟩

theorem Keeps.fusesUpd {s0 X : State} (f : Fuses) (hf : FusesLe X.fuses f) (h : Keeps s0 X) (xs x0 x1 x2 x3 x4 x5 x6 x7 x9 x10 x11 x12 x13 x14 x15 x16 x17 x18 x19 x20 x21 x22 x23 x24 x25 x26 x27) :
    Keeps s0 {
      boot := x0
      pins := x1
      fuses := f
      flash := X.flash
      cfg := x2
      img := x3
      time := x4
      commit := x5
      ports := x6
      parts := x7
      syc := X.syc
      hbm := X.hbm
      hbmPoison := X.hbmPoison
      hbmErr := X.hbmErr
      sramErr := xs
      links := x9
      bridle := x10
      planes := x11
      tether := x12
      net := x13
      col := x14
      clusters := x15
      power := x16
      pair := x17
      dual := x18
      sec := x19
      bist := x20
      mgt := x21
      mp := x22
      mgtRing := x23
      errSelect := x24
      regs := x25
      latches := x26
      snaps := x27
      free := X.free
      out := X.out
      pending := X.pending } :=
  ⟨h.hbm, h.poison, h.err, h.flash, h.syc, FusesLe.trans h.fuses hf, h.pending, h.out, h.free⟩

theorem Keeps.ite {s0 : State} {c : Prop} [Decidable c] {a b : State} (ha : Keeps s0 a) (hb : Keeps s0 b) : Keeps s0 (if c then a else b) := by
  split <;> assumption

theorem Keeps.foldl {α : Type} {s0 : State} (f : State → α → State) (hf : ∀ s x, Keeps s0 s → Keeps s0 (f s x)) :
    ∀ (l : List α) (s : State), Keeps s0 s → Keeps s0 (l.foldl f s)
  | [], _, h => h
  | x :: l, s, h => Keeps.foldl f hf l (f s x) (hf s x h)


theorem Keeps.iteSnd {α : Type} {s0 : State} {c : Prop} [Decidable c] {a b : α × State} (ha : Keeps s0 a.2) (hb : Keeps s0 b.2) :
    Keeps s0 (if c then a else b).2 := by
  split <;> assumption

theorem Keeps.iteFst {α : Type} {s0 : State} {c : Prop} [Decidable c] {a b : State × α} (ha : Keeps s0 a.1) (hb : Keeps s0 b.1) :
    Keeps s0 (if c then a else b).1 := by
  split <;> assumption

theorem tabWf_fold {α : Type} (f : Tab Bool → α → Tab Bool) (hf : ∀ t x, tabWf false t = true → tabWf false (f t x) = true) :
    ∀ (l : List α) (t : Tab Bool), tabWf false t = true → tabWf false (l.foldl f t) = true
  | [], _, h => h
  | x :: l, t, h => tabWf_fold f hf l (f t x) (hf t x h)

theorem tabWf_clearWhole (a n : Nat) (t : Tab Bool) (h : tabWf false t = true) : tabWf false (clearWhole a n t) = true := by
  unfold clearWhole
  refine tabWf_fold _ (fun t g w => ?_) _ t h
  split
  · exact tabWf_tabSet false g false t w
  · exact w

theorem tabWf_mergeErr (a n : Nat) (p : Tab Bool) (t : Tab HbmErr) (h : tabWf .none t = true) : tabWf .none (mergeErr a n p t) = true := by
  have fold : ∀ (f : Tab HbmErr → Nat → Tab HbmErr), (∀ t g, tabWf .none t = true → tabWf .none (f t g) = true) →
      ∀ (l : List Nat) (t : Tab HbmErr), tabWf .none t = true → tabWf .none (l.foldl f t) = true := by
    intro f hf l
    induction l with
    | nil => exact fun _ h => h
    | cons x l ih => exact fun t h => ih _ (hf t x h)
  unfold mergeErr
  refine fold _ (fun t g w => ?_) _ t h
  repeat' split
  all_goals first | exact w | exact tabWf_tabSet _ _ _ _ w

theorem tabWf_markRange (a n : Nat) (t : Tab Bool) (h : tabWf false t = true) : tabWf false (markRange a n t) = true := by
  unfold markRange
  exact tabWf_fold _ (fun t g w => tabWf_tabSet false g true t w) _ t h

/-- The same for what a command answers. -/
def KeepsO (s0 : State) : Out → Prop
  | .next t => Keeps s0 t
  | _ => True

theorem KeepsO.next {s0 t : State} (h : Keeps s0 t) : KeepsO s0 (.next t) := h

theorem KeepsO.ite {s0 : State} {c : Prop} [Decidable c] {a b : Out} (ha : KeepsO s0 a) (hb : KeepsO s0 b) : KeepsO s0 (if c then a else b) := by
  split <;> assumption

theorem updPart_keeps {s0 : State} (s : State) (p : PartId) (f : Part → Part) (hk : Keeps s0 s) : Keeps s0 (updPart s p f) := by
  unfold updPart
  repeat (first | with_reducible assumption | intro _ | with_reducible apply Keeps.ite | simp only [Keeps.upd] | dsimp only | split)

theorem updPort_keeps {s0 : State} (s : State) (k : PortId) (f : Port → Port) (hk : Keeps s0 s) : Keeps s0 (updPort s k f) := by
  unfold updPort
  repeat (first | with_reducible assumption | intro _ | with_reducible apply Keeps.ite | simp only [Keeps.upd] | dsimp only | split)

theorem updLink_keeps {s0 : State} (s : State) (l : LinkId) (f : Link → Link) (hk : Keeps s0 s) : Keeps s0 (updLink s l f) := by
  unfold updLink
  repeat (first | with_reducible assumption | intro _ | with_reducible apply Keeps.ite | simp only [Keeps.upd] | dsimp only | split)

theorem updPlane_keeps {s0 : State} (s : State) (p : PlaneId) (f : Plane → Plane) (hk : Keeps s0 s) : Keeps s0 (updPlane s p f) := by
  unfold updPlane
  repeat (first | with_reducible assumption | intro _ | with_reducible apply Keeps.ite | simp only [Keeps.upd] | dsimp only | split)

theorem updCluster_keeps {s0 : State} (s : State) (c : ClusterId) (f : Cluster → Cluster) (hk : Keeps s0 s) : Keeps s0 (updCluster s c f) := by
  unfold updCluster
  repeat (first | with_reducible assumption | intro _ | with_reducible apply Keeps.ite | simp only [Keeps.upd] | dsimp only | split)

theorem updStream_keeps {s0 : State} (s : State) (p : PartId) (st : StreamId) (f : Stream → Stream) (hk : Keeps s0 s) : Keeps s0 (updStream s p st f) := by
  unfold updStream
  repeat (first | with_reducible assumption | with_reducible apply updPart_keeps | intro _ | with_reducible apply Keeps.ite | simp only [Keeps.upd] | dsimp only | split)

theorem updJob_keeps {s0 : State} (s : State) (p : PartId) (f : Job → Job) (hk : Keeps s0 s) : Keeps s0 (updJob s p f) := by
  unfold updJob
  repeat (first | with_reducible assumption | with_reducible apply updPart_keeps | intro _ | with_reducible apply Keeps.ite | simp only [Keeps.upd] | dsimp only | split)

theorem eachOf_keeps {s0 : State} {α : Type} (f : α → State → State) (hf : ∀ x s, Keeps s0 s → Keeps s0 (f x s)) (l : List α)
    (s : State) (h : Keeps s0 s) : Keeps s0 (eachOf l f s) :=
  Keeps.foldl (fun a x => f x a) (fun s x => hf x s) l s h

theorem emit_keeps {s0 : State} (e : Emit) (s : State) (h : Keeps s0 s) : Keeps s0 (emit e s) :=
  ⟨h.hbm, h.poison, h.err, h.flash, h.syc, h.fuses, h.pending, h.out.trans (List.suffix_cons _ _), h.free⟩

theorem takeFree_keeps {s0 t : State} {v : Nat} {s : State} (e : takeFree s = (v, t)) (h : Keeps s0 s) : Keeps s0 t := by
  cases e
  exact ⟨h.hbm, h.poison, h.err, h.flash, h.syc, h.fuses, h.pending, h.out, Nat.le_succ_of_le h.free⟩

/-- A free value that is used where it is needed and not drawn by `takeFree`: the counter alone advances. -/
theorem Keeps.bumpFree {s0 s : State} (h : Keeps s0 s) : Keeps s0 { s with free := s.free + 1 } :=
  takeFree_keeps (s := s) rfl h
theorem takeFree_snd_keeps {s0 : State} (s : State) (hk : Keeps s0 s) : Keeps s0 (takeFree s).2 :=
  takeFree_keeps (Prod.eta _).symm hk

theorem cntPart_keeps {s0 : State} (off n : Nat) (p : PartId) (s : State) (hk : Keeps s0 s) : Keeps s0 (cntPart off n p s) := by
  unfold cntPart
  repeat (first | with_reducible assumption | with_reducible apply updPart_keeps | intro _ | with_reducible apply Keeps.ite | simp only [Keeps.upd] | dsimp only | split)

theorem cntPart64_keeps {s0 : State} (off n : Nat) (p : PartId) (s : State) (hk : Keeps s0 s) : Keeps s0 (cntPart64 off n p s) := by
  unfold cntPart64
  repeat (first | with_reducible assumption | with_reducible apply updPart_keeps | intro _ | with_reducible apply Keeps.ite | simp only [Keeps.upd] | dsimp only | split)

theorem cntPort_keeps {s0 : State} (off n : Nat) (k : PortId) (s : State) (hk : Keeps s0 s) : Keeps s0 (cntPort off n k s) := by
  unfold cntPort
  repeat (first | with_reducible assumption | with_reducible apply updPort_keeps | intro _ | with_reducible apply Keeps.ite | simp only [Keeps.upd] | dsimp only | split)

theorem cntDev_keeps {s0 : State} (off n : Nat) (s : State) (hk : Keeps s0 s) : Keeps s0 (cntDev off n s) := by
  unfold cntDev
  repeat (first | with_reducible assumption | intro _ | with_reducible apply Keeps.ite | simp only [Keeps.upd] | dsimp only | split)

theorem cntBridle_keeps {s0 : State} (off n : Nat) (s : State) (hk : Keeps s0 s) : Keeps s0 (cntBridle off n s) := by
  unfold cntBridle
  repeat (first | with_reducible assumption | intro _ | with_reducible apply Keeps.ite | simp only [Keeps.upd] | dsimp only | split)

theorem cntTether_keeps {s0 : State} (off n : Nat) (s : State) (hk : Keeps s0 s) : Keeps s0 (cntTether off n s) := by
  unfold cntTether
  repeat (first | with_reducible assumption | intro _ | with_reducible apply Keeps.ite | simp only [Keeps.upd] | dsimp only | split)

theorem cntLink_keeps {s0 : State} (off n : Nat) (l : LinkId) (s : State) (hk : Keeps s0 s) : Keeps s0 (cntLink off n l s) := by
  unfold cntLink
  repeat (first | with_reducible assumption | with_reducible apply updLink_keeps | intro _ | with_reducible apply Keeps.ite | simp only [Keeps.upd] | dsimp only | split)

theorem cntPlane_keeps {s0 : State} (off n : Nat) (l : PlaneId) (s : State) (hk : Keeps s0 s) : Keeps s0 (cntPlane off n l s) := by
  unfold cntPlane
  repeat (first | with_reducible assumption | with_reducible apply updPlane_keeps | intro _ | with_reducible apply Keeps.ite | simp only [Keeps.upd] | dsimp only | split)

theorem cntPower_keeps {s0 : State} (off n : Nat) (s : State) (hk : Keeps s0 s) : Keeps s0 (cntPower off n s) := by
  unfold cntPower
  repeat (first | with_reducible assumption | intro _ | with_reducible apply Keeps.ite | simp only [Keeps.upd] | dsimp only | split)

theorem setRegPart_keeps {s0 : State} (off v : Nat) (p : PartId) (s : State) (hk : Keeps s0 s) : Keeps s0 (setRegPart off v p s) := by
  unfold setRegPart
  repeat (first | with_reducible assumption | with_reducible apply updPart_keeps | intro _ | with_reducible apply Keeps.ite | simp only [Keeps.upd] | dsimp only | split)

theorem mgtEvent_keeps {s0 : State} (ev unit arg : Nat) (s : State) (hk : Keeps s0 s) : Keeps s0 (mgtEvent ev unit arg s) := by
  unfold mgtEvent
  repeat (first | with_reducible assumption | with_reducible apply cntDev_keeps | with_reducible apply emit_keeps | intro _ | with_reducible apply Keeps.ite | simp only [Keeps.upd] | dsimp only | split)

theorem hbmWrite_keeps {s0 : State} (a : Nat) (b : Bytes) (s : State) (h : Keeps s0 s) : Keeps s0 (hbmWrite a b s) :=
  ⟨fun w => memWf_memWriteN b s.hbm a (h.hbm w), fun w => tabWf_clearWhole a b.length s.hbmPoison (h.poison w), fun w => tabWf_mergeErr a b.length s.hbmPoison s.hbmErr (h.err w), h.flash, h.syc, h.fuses, h.pending, h.out, h.free⟩

theorem settleRegs_keeps {s0 : State} (s : State) (hk : Keeps s0 s) : Keeps s0 (settleRegs s) := by
  unfold settleRegs
  repeat (first | with_reducible assumption | intro _ | with_reducible apply Keeps.ite | simp only [Keeps.upd] | dsimp only | split)

theorem charge_keeps {s0 : State} (p : PartId) (i : Fin 4) (n : Nat) (s : State) (hk : Keeps s0 s) : Keeps s0 (charge p i n s) := by
  unfold charge
  repeat (first | with_reducible assumption | with_reducible apply updPart_keeps | intro _ | with_reducible apply Keeps.ite | simp only [Keeps.upd] | dsimp only | split)

theorem stall_keeps {s0 : State} (p : PartId) (i : Fin 4) (s : State) (hk : Keeps s0 s) : Keeps s0 (stall p i s) := by
  unfold stall
  repeat (first | with_reducible assumption | with_reducible apply cntPart_keeps | with_reducible apply updPart_keeps | intro _ | with_reducible apply Keeps.ite | simp only [Keeps.upd] | dsimp only | split)

theorem hbmHold_keeps {s0 : State} (p : PartId) (i : Nat) (s : State) (hk : Keeps s0 s) : Keeps s0 (hbmHold p i s) := by
  unfold hbmHold
  repeat (first | with_reducible assumption | with_reducible apply stall_keeps | with_reducible apply updPart_keeps | intro _ | with_reducible apply Keeps.ite | simp only [Keeps.upd] | dsimp only | split)

theorem hbmGo_keeps {s0 : State} (p : PartId) (i : Nat) (s : State) (hk : Keeps s0 s) : Keeps s0 (hbmGo p i s) := by
  unfold hbmGo
  repeat (first | with_reducible assumption | with_reducible apply updPart_keeps | intro _ | with_reducible apply Keeps.ite | simp only [Keeps.upd] | dsimp only | split)

theorem noteWaits_keeps {s0 : State} (p : PartId) (s : State) (hk : Keeps s0 s) : Keeps s0 (noteWaits p s) := by
  unfold noteWaits
  repeat (first | with_reducible assumption | with_reducible apply updPart_keeps | intro _ | with_reducible apply Keeps.ite | simp only [Keeps.upd] | dsimp only | split)

theorem setPend_keeps {s0 : State} (k : PortId) (v : Nat) (s : State) (hk : Keeps s0 s) : Keeps s0 (setPend k v s) := by
  unfold setPend
  repeat (first | with_reducible assumption | with_reducible apply updPort_keeps | intro _ | with_reducible apply Keeps.ite | simp only [Keeps.upd] | dsimp only | split)

theorem issueOne_keeps {s0 t : State} {k : PortId} {r : DmaReq} {s : State} (e : issueOne k r s = some t) (hk : Keeps s0 s) : Keeps s0 t := by
  unfold issueOne at e
  (try dsimp only at e)
  repeat' split at e
  all_goals (try cases e)
  all_goals repeat (first | with_reducible assumption | with_reducible apply updPort_keeps | with_reducible apply charge_keeps | with_reducible apply emit_keeps | with_reducible apply setPend_keeps | intro _ | with_reducible apply Keeps.ite | simp only [Keeps.upd] | dsimp only | split)

theorem pumpList_keeps {s0 : State} (k : PortId) : ∀ (x0 : List DmaReq) (s : State), Keeps s0 s → Keeps s0 (pumpList k x0 s)
  | [], s, h => by
    unfold pumpList
    repeat (first | with_reducible assumption | with_reducible apply updPort_keeps | with_reducible refine issueOne_keeps (by with_reducible assumption) ?_ | with_reducible apply stall_keeps | intro _ | with_reducible apply Keeps.ite | simp only [Keeps.upd] | dsimp only | split)
  | r :: rs, s, h => by
    unfold pumpList
    repeat (first | with_reducible assumption | with_reducible apply pumpList_keeps | with_reducible apply updPort_keeps | with_reducible refine issueOne_keeps (by with_reducible assumption) ?_ | with_reducible apply stall_keeps | intro _ | with_reducible apply Keeps.ite | simp only [Keeps.upd] | dsimp only | split)

theorem pump_keeps {s0 : State} (k : PortId) (s : State) (hk : Keeps s0 s) : Keeps s0 (pump k s) := by
  unfold pump
  repeat (first | with_reducible assumption | with_reducible apply pumpList_keeps | with_reducible apply noteWaits_keeps | intro _ | with_reducible apply Keeps.ite | simp only [Keeps.upd] | dsimp only | split)

theorem dmaPush_keeps {s0 : State} (k : PortId) (rs : List DmaReq) (s : State) (hk : Keeps s0 s) : Keeps s0 (dmaPush k rs s) := by
  unfold dmaPush
  repeat (first | with_reducible assumption | with_reducible apply pump_keeps | with_reducible apply updPort_keeps | intro _ | with_reducible apply Keeps.ite | simp only [Keeps.upd] | dsimp only | split)

theorem wakeEvent_keeps {s0 : State} (k : PortId) (cause : Nat) (s : State) (hk : Keeps s0 s) : Keeps s0 (wakeEvent k cause s) := by
  unfold wakeEvent
  repeat (first | with_reducible assumption | with_reducible apply updPort_keeps | intro _ | with_reducible apply Keeps.ite | simp only [Keeps.upd] | dsimp only | split)

theorem msix_keeps {s0 : State} (k : PortId) (v : Nat) (s : State) (hk : Keeps s0 s) : Keeps s0 (msix k v s) := by
  unfold msix
  repeat (first | with_reducible assumption | with_reducible apply setPend_keeps | with_reducible apply wakeEvent_keeps | with_reducible apply dmaPush_keeps | intro _ | with_reducible apply Keeps.ite | simp only [Keeps.upd] | dsimp only | split)

theorem msixPart_keeps {s0 : State} (p : PartId) (v : Nat) (s : State) (hk : Keeps s0 s) : Keeps s0 (msixPart p v s) := by
  unfold msixPart
  repeat (first | with_reducible assumption | with_reducible apply msix_keeps | intro _ | with_reducible apply Keeps.ite | simp only [Keeps.upd] | dsimp only | split)

theorem traceGen_keeps {s0 : State} (p : PartId) (r : TraceRec) (s : State) (hk : Keeps s0 s) : Keeps s0 (traceGen p r s) := by
  unfold traceGen
  repeat (first | with_reducible assumption | with_reducible apply cntPart_keeps | with_reducible apply updPart_keeps | intro _ | with_reducible apply Keeps.ite | simp only [Keeps.upd] | dsimp only | split)

theorem traceCmd_keeps {s0 : State} (p : PartId) (st : StreamId) (desc : Bytes) (kind : TraceKind) (detail : Nat) (s : State) (hk : Keeps s0 s) : Keeps s0 (traceCmd p st desc kind detail s) := by
  unfold traceCmd
  repeat (first | with_reducible assumption | with_reducible apply traceGen_keeps | intro _ | with_reducible apply Keeps.ite | simp only [Keeps.upd] | dsimp only | split)

theorem mgtRecord_keeps {s0 : State} (r : ErrRec) (s : State) (hk : Keeps s0 s) : Keeps s0 (mgtRecord r s) := by
  unfold mgtRecord
  repeat (first | with_reducible assumption | with_reducible apply cntDev_keeps | with_reducible apply mgtEvent_keeps | intro _ | with_reducible apply Keeps.ite | simp only [Keeps.upd] | dsimp only | split)

theorem partRecord_keeps {s0 : State} (p : PartId) (r : ErrRec) (s : State) (hk : Keeps s0 s) : Keeps s0 (partRecord p r s) := by
  unfold partRecord
  repeat (first | with_reducible assumption | with_reducible apply cntPart_keeps | with_reducible apply updPart_keeps | with_reducible apply wakeEvent_keeps | with_reducible apply dmaPush_keeps | with_reducible apply msixPart_keeps | intro _ | with_reducible apply Keeps.ite | simp only [Keeps.upd] | dsimp only | split)

theorem record_keeps {s0 : State} (p : PartId) (r : ErrRec) (s : State) (hk : Keeps s0 s) : Keeps s0 (record p r s) := by
  unfold record
  repeat (first | with_reducible assumption | with_reducible apply partRecord_keeps | with_reducible apply updPart_keeps | intro _ | with_reducible apply Keeps.ite | simp only [Keeps.upd] | dsimp only | split)

theorem recordAll_keeps {s0 : State} (r : ErrRec) (s : State) (hk : Keeps s0 s) : Keeps s0 (recordAll r s) := by
  unfold recordAll
  repeat (first | with_reducible assumption | with_reducible apply eachOf_keeps | with_reducible apply record_keeps | intro _ | with_reducible apply Keeps.ite | simp only [Keeps.upd] | dsimp only | split)

theorem recordLink_keeps {s0 : State} (r : ErrRec) (s : State) (hk : Keeps s0 s) : Keeps s0 (recordLink r s) := by
  unfold recordLink
  repeat (first | with_reducible assumption | with_reducible apply mgtRecord_keeps | with_reducible apply recordAll_keeps | intro _ | with_reducible apply Keeps.ite | simp only [Keeps.upd] | dsimp only | split)

theorem updPeer_keeps {s0 : State} (d : DevId) (f : Peer → Peer) (s : State) (hk : Keeps s0 s) : Keeps s0 (updPeer d f s) := by
  unfold updPeer
  repeat (first | with_reducible assumption | intro _ | with_reducible apply Keeps.ite | simp only [Keeps.upd] | dsimp only | split)

theorem updFlow_keeps {s0 : State} (d : DevId) (p : Nat) (f : Flow → Flow) (s : State) (hk : Keeps s0 s) : Keeps s0 (updFlow d p f s) := by
  unfold updFlow
  repeat (first | with_reducible assumption | intro _ | with_reducible apply Keeps.ite | simp only [Keeps.upd] | dsimp only | split)

theorem rawFlit_keeps {s0 : State} (l : LinkId) (h : FlitHead) (payload : Bytes) (last : Option (DevId × Option DevId × Nat × Bytes)) (s : State) (hk : Keeps s0 s) : Keeps s0 (rawFlit l h payload last s) := by
  unfold rawFlit
  repeat (first | with_reducible assumption | with_reducible apply emit_keeps | with_reducible apply updLink_keeps | intro _ | with_reducible apply Keeps.ite | simp only [Keeps.upd] | dsimp only | split)

theorem seqFlit_keeps {s0 : State} (l : LinkId) (h : FlitHead) (payload : Bytes) (last : Option (DevId × Option DevId × Nat × Bytes)) (s : State) (hk : Keeps s0 s) : Keeps s0 (seqFlit l h payload last s) := by
  unfold seqFlit
  repeat (first | with_reducible assumption | with_reducible apply rawFlit_keeps | with_reducible apply updLink_keeps | intro _ | with_reducible apply Keeps.ite | simp only [Keeps.upd] | dsimp only | split)

theorem otherFlit_keeps {s0 : State} (l : LinkId) (type : Nat) (payload : Bytes) (s : State) (hk : Keeps s0 s) : Keeps s0 (otherFlit l type payload s) := by
  unfold otherFlit
  repeat (first | with_reducible assumption | with_reducible apply seqFlit_keeps | with_reducible apply updLink_keeps | intro _ | with_reducible apply Keeps.ite | simp only [Keeps.upd] | dsimp only | split)

theorem idleFlit_keeps {s0 : State} (l : LinkId) (vc part units : Nat) (s : State) (hk : Keeps s0 s) : Keeps s0 (idleFlit l vc part units s) := by
  unfold idleFlit
  repeat (first | with_reducible assumption | with_reducible apply emit_keeps | with_reducible apply updLink_keeps | intro _ | with_reducible apply Keeps.ite | simp only [Keeps.upd] | dsimp only | split)

theorem putOnLink_keeps {s0 : State} (l : LinkId) (vc : Nat) (p : PartId) (dst : DevId) (fwd : Option DevId) (fl : Nat) (b : Bytes) (s : State) (hk : Keeps s0 s) : Keeps s0 (putOnLink l vc p dst fwd fl b s) := by
  unfold putOnLink
  repeat (first | with_reducible assumption | with_reducible apply updLink_keeps | with_reducible apply mgtEvent_keeps | with_reducible apply emit_keeps | with_reducible apply seqFlit_keeps | with_reducible apply Keeps.foldl | intro _ | with_reducible apply Keeps.ite | simp only [Keeps.upd] | dsimp only | split)

theorem setCtx_keeps {s0 : State} (i : Nat) (c : Option Ctx) (s : State) (hk : Keeps s0 s) : Keeps s0 (setCtx i c s) := by
  unfold setCtx
  repeat (first | with_reducible assumption | intro _ | with_reducible apply Keeps.ite | simp only [Keeps.upd] | dsimp only | split)

theorem updCtx_keeps {s0 : State} (i : Nat) (f : Ctx → Ctx) (s : State) (hk : Keeps s0 s) : Keeps s0 (updCtx i f s) := by
  unfold updCtx
  repeat (first | with_reducible assumption | with_reducible apply setCtx_keeps | intro _ | with_reducible apply Keeps.ite | simp only [Keeps.upd] | dsimp only | split)

theorem takePn_keeps {s0 t : State} {v : Option Nat} {pl : PlaneId} {s : State} (e : takePn pl s = (v, t)) (hk : Keeps s0 s) : Keeps s0 t := by
  unfold takePn at e
  (try dsimp only at e)
  repeat' split at e
  all_goals (try cases e)
  all_goals repeat (first | with_reducible assumption | with_reducible apply updPlane_keeps | intro _ | with_reducible apply Keeps.ite | simp only [Keeps.upd] | dsimp only | split)

theorem takePn_snd_keeps {s0 : State} (pl : PlaneId) (s : State) (hk : Keeps s0 s) : Keeps s0 (takePn pl s).2 :=
  takePn_keeps (Prod.eta _).symm hk

theorem sendEth_keeps {s0 : State} (pl : PlaneId) (m : EthMsg) (s : State) (hk : Keeps s0 s) : Keeps s0 (sendEth pl m s) := by
  unfold sendEth
  repeat (first | with_reducible assumption | with_reducible refine takePn_keeps (by with_reducible assumption) ?_ | with_reducible apply takePn_snd_keeps | with_reducible apply emit_keeps | intro _ | with_reducible apply Keeps.ite | with_reducible apply Keeps.iteSnd | with_reducible apply Keeps.iteFst | simp only [Keeps.upd] | dsimp only | split)

theorem resolveAddr_keeps {s0 : State} (pl : PlaneId) (a : Nat) (s : State) (hk : Keeps s0 s) : Keeps s0 (resolveAddr pl a s) := by
  unfold resolveAddr
  repeat (first | with_reducible assumption | with_reducible apply updPlane_keeps | with_reducible apply sendEth_keeps | intro _ | with_reducible apply Keeps.ite | simp only [Keeps.upd] | dsimp only | split)

theorem resolvePeer_keeps {s0 : State} (pl : PlaneId) (d : DevId) (s : State) (hk : Keeps s0 s) : Keeps s0 (resolvePeer pl d s) := by
  unfold resolvePeer
  repeat (first | with_reducible assumption | with_reducible apply resolveAddr_keeps | intro _ | with_reducible apply Keeps.ite | simp only [Keeps.upd] | dsimp only | split)

theorem forgetFailed_keeps {s0 : State} (pl : PlaneId) (s : State) (hk : Keeps s0 s) : Keeps s0 (forgetFailed pl s) := by
  unfold forgetFailed
  repeat (first | with_reducible assumption | with_reducible apply updPlane_keeps | intro _ | with_reducible apply Keeps.ite | simp only [Keeps.upd] | dsimp only | split)

theorem sendDgram_keeps {s0 : State} (pl : PlaneId) (d : DevId) (path : Nat) (h : TthHead) (payload : Bytes) (s : State) (hk : Keeps s0 s) : Keeps s0 (sendDgram pl d path h payload s) := by
  unfold sendDgram
  repeat (first | with_reducible assumption | with_reducible apply resolvePeer_keeps | with_reducible refine takePn_keeps (by with_reducible assumption) ?_ | with_reducible apply takePn_snd_keeps | with_reducible apply emit_keeps | intro _ | with_reducible apply Keeps.ite | with_reducible apply Keeps.iteSnd | with_reducible apply Keeps.iteFst | simp only [Keeps.upd] | dsimp only | split)

theorem sendHello_keeps {s0 : State} (i : Nat) (s : State) (hk : Keeps s0 s) : Keeps s0 (sendHello i s) := by
  unfold sendHello
  repeat (first | with_reducible assumption | with_reducible apply updCtx_keeps | with_reducible apply forgetFailed_keeps | with_reducible apply sendDgram_keeps | intro _ | with_reducible apply Keeps.ite | simp only [Keeps.upd] | dsimp only | split)

theorem sendCloseCtx_keeps {s0 : State} (c : Ctx) (s : State) (hk : Keeps s0 s) : Keeps s0 (sendCloseCtx c s) := by
  unfold sendCloseCtx
  repeat (first | with_reducible assumption | with_reducible apply sendDgram_keeps | intro _ | with_reducible apply Keeps.ite | simp only [Keeps.upd] | dsimp only | split)

theorem freeCtx_keeps {s0 t : State} {v : Option Nat} {s : State} (e : freeCtx s = (v, t)) (hk : Keeps s0 s) : Keeps s0 t := by
  unfold freeCtx at e
  (try dsimp only at e)
  repeat' split at e
  all_goals (try cases e)
  all_goals repeat (first | with_reducible assumption | with_reducible apply setCtx_keeps | with_reducible apply sendCloseCtx_keeps | with_reducible apply Keeps.foldl | intro _ | with_reducible apply Keeps.ite | with_reducible apply Keeps.iteSnd | with_reducible apply Keeps.iteFst | simp only [Keeps.upd] | dsimp only | split)

theorem freeCtx_snd_keeps {s0 : State} (s : State) (hk : Keeps s0 s) : Keeps s0 (freeCtx s).2 :=
  freeCtx_keeps (Prod.eta _).symm hk

theorem sendSegment_keeps {s0 : State} (i : Nat) (stream : Fin 4) (ssn off len : Nat) (first last retx : Bool) (pkt : Bytes) (s : State) (hk : Keeps s0 s) : Keeps s0 (sendSegment i stream ssn off len first last retx pkt s) := by
  unfold sendSegment
  repeat (first | with_reducible assumption | with_reducible apply sendDgram_keeps | with_reducible apply charge_keeps | with_reducible apply updPlane_keeps | intro _ | with_reducible apply Keeps.ite | simp only [Keeps.upd] | dsimp only | split)

theorem sendCtxPacket_keeps {s0 : State} (i flags : Nat) (b : Bytes) (s : State) (hk : Keeps s0 s) : Keeps s0 (sendCtxPacket i flags b s) := by
  unfold sendCtxPacket
  repeat (first | with_reducible assumption | with_reducible apply updCtx_keeps | with_reducible apply sendSegment_keeps | with_reducible apply Keeps.foldl | intro _ | with_reducible apply Keeps.ite | simp only [Keeps.upd] | dsimp only | split)

theorem assignSeq_keeps {s0 t : State} {v : Bytes} {d : DevId} {p : PartId} {isPiece : Bool} {b : Bytes} {s : State} (e : assignSeq d p isPiece b s = (v, t)) (hk : Keeps s0 s) : Keeps s0 t := by
  unfold assignSeq at e
  (try dsimp only at e)
  repeat' split at e
  all_goals (try cases e)
  all_goals repeat (first | with_reducible assumption | with_reducible apply updFlow_keeps | intro _ | with_reducible apply Keeps.ite | simp only [Keeps.upd] | dsimp only | split)

theorem assignSeq_snd_keeps {s0 : State} (d : DevId) (p : PartId) (isPiece : Bool) (b : Bytes) (s : State) (hk : Keeps s0 s) : Keeps s0 (assignSeq d p isPiece b s).2 :=
  assignSeq_keeps (Prod.eta _).symm hk

theorem arbitrate_keeps {s0 t : State} {b : Bid} {res : Nat} {bids : List Bid} {s : State} (e : arbitrate res bids s = some (b, t)) (hk : Keeps s0 s) : Keeps s0 t := by
  unfold arbitrate at e
  dsimp only at e
  split at e
  · cases e
  · cases e
    simpa only [Keeps.upd] using hk

theorem retransmit_keeps {s0 : State} (i : Nat) (st : Fin 4) (x : TxSeg) (fast : Bool) (s : State) (hk : Keeps s0 s) : Keeps s0 (retransmit i st x fast s) := by
  unfold retransmit
  repeat (first | with_reducible assumption | with_reducible apply stall_keeps | with_reducible apply setCtx_keeps | with_reducible apply sendSegment_keeps | with_reducible apply cntPlane_keeps | intro _ | with_reducible apply Keeps.ite | simp only [Keeps.upd] | dsimp only | split)

theorem payRetx_keeps {s0 : State} (i : Nat) (s : State) (hk : Keeps s0 s) : Keeps s0 (payRetx i s) := by
  unfold payRetx
  repeat (first | with_reducible assumption | with_reducible apply retransmit_keeps | with_reducible apply setCtx_keeps | with_reducible apply Keeps.foldl | intro _ | with_reducible apply Keeps.ite | simp only [Keeps.upd] | dsimp only | split)

theorem sendQueued_keeps {s0 : State} (i j : Nat) (s : State) (hk : Keeps s0 s) : Keeps s0 (sendQueued i j s) := by
  unfold sendQueued
  repeat (first | with_reducible assumption | with_reducible apply setCtx_keeps | with_reducible refine assignSeq_keeps (by with_reducible assumption) ?_ | with_reducible apply assignSeq_snd_keeps | with_reducible apply sendCtxPacket_keeps | intro _ | with_reducible apply Keeps.ite | with_reducible apply Keeps.iteSnd | with_reducible apply Keeps.iteFst | simp only [Keeps.upd] | dsimp only | split)

theorem nextGrant_keeps {s0 t : State} {i j : Nat} {pl : PlaneId} {s : State} (e : nextGrant pl s = some (i, j, t)) (hk : Keeps s0 s) : Keeps s0 t := by
  unfold nextGrant at e
  dsimp only at e
  split at e
  · cases e; exact hk
  · split at e
    · cases e
    · rename_i b u h
      have hu := arbitrate_keeps h hk
      obtain ⟨x, _, hx⟩ := Option.map_eq_some_iff.1 e
      cases hx
      exact hu

theorem grantPlane_keeps {s0 : State} (pl : PlaneId) : ∀ (x0 : Nat) (s : State), Keeps s0 s → Keeps s0 (grantPlane pl x0 s)
  | 0, s, h => by
    unfold grantPlane
    repeat (first | with_reducible assumption | with_reducible refine nextGrant_keeps (by with_reducible assumption) ?_ | with_reducible apply sendQueued_keeps | intro _ | with_reducible apply Keeps.ite | simp only [Keeps.upd] | dsimp only | split)
  | n + 1, s, h => by
    unfold grantPlane
    repeat (first | with_reducible assumption | with_reducible apply grantPlane_keeps | with_reducible refine nextGrant_keeps (by with_reducible assumption) ?_ | with_reducible apply sendQueued_keeps | intro _ | with_reducible apply Keeps.ite | simp only [Keeps.upd] | dsimp only | split)

theorem drainPlane_keeps {s0 : State} (pl : PlaneId) (s : State) (hk : Keeps s0 s) : Keeps s0 (drainPlane pl s) := by
  unfold drainPlane
  repeat (first | with_reducible assumption | with_reducible apply eachOf_keeps | with_reducible apply payRetx_keeps | with_reducible apply grantPlane_keeps | with_reducible apply stall_keeps | with_reducible apply Keeps.foldl | intro _ | with_reducible apply Keeps.ite | with_reducible apply Keeps.iteSnd | with_reducible apply Keeps.iteFst | simp only [Keeps.upd] | dsimp only | split)

theorem drainCtx_keeps {s0 : State} (i : Nat) (s : State) (hk : Keeps s0 s) : Keeps s0 (drainCtx i s) := by
  unfold drainCtx
  repeat (first | with_reducible assumption | with_reducible apply drainPlane_keeps | intro _ | with_reducible apply Keeps.ite | simp only [Keeps.upd] | dsimp only | split)

theorem sendTether_keeps {s0 t : State} {pl : PlaneId} {w : Waiting} {s : State} (e : sendTether pl w s = some t) (hk : Keeps s0 s) : Keeps s0 t := by
  unfold sendTether at e
  (try dsimp only at e)
  repeat' split at e
  all_goals (try cases e)
  all_goals repeat (first | with_reducible assumption | with_reducible apply drainCtx_keeps | with_reducible apply updCtx_keeps | with_reducible refine freeCtx_keeps (by with_reducible assumption) ?_ | with_reducible apply freeCtx_snd_keeps | with_reducible apply sendHello_keeps | with_reducible apply setCtx_keeps | intro _ | with_reducible apply Keeps.ite | with_reducible apply Keeps.iteSnd | with_reducible apply Keeps.iteFst | simp only [Keeps.upd] | dsimp only | split)

theorem sendOnLink_keeps {s0 : State} (l : LinkId) (vc : Nat) (relayed : Bool) (w : Waiting) (s : State) (hk : Keeps s0 s) : Keeps s0 (sendOnLink l vc relayed w s) := by
  unfold sendOnLink
  repeat (first | with_reducible assumption | with_reducible refine assignSeq_keeps (by with_reducible assumption) ?_ | with_reducible apply assignSeq_snd_keeps | with_reducible apply charge_keeps | with_reducible apply putOnLink_keeps | with_reducible apply emit_keeps | intro _ | with_reducible apply Keeps.ite | with_reducible apply Keeps.iteSnd | with_reducible apply Keeps.iteFst | simp only [Keeps.upd] | dsimp only | split)

theorem trySend_keeps {s0 t : State} {w : Waiting} {s : State} (e : trySend w s = some t) (hk : Keeps s0 s) : Keeps s0 t := by
  unfold trySend at e
  split at e
  · cases e
  · split at e
    · obtain ⟨x, _, hx⟩ := Option.map_eq_some_iff.1 e
      cases hx
      exact sendOnLink_keeps _ _ _ _ _ hk
    · split at e
      · cases e
      · split at e
        · cases e
        · split at e
          · cases e
          · split at e
            · cases e
            · rename_i h
              cases e
              exact emit_keeps _ _ (sendTether_keeps h (updFlow_keeps _ _ _ _ hk))

theorem holdBack_keeps {s0 t : State} {v : Waiting} {w : Waiting} {s : State} (e : holdBack w s = (v, t)) (hk : Keeps s0 s) : Keeps s0 t := by
  unfold holdBack at e
  (try dsimp only at e)
  repeat' split at e
  all_goals (try cases e)
  all_goals repeat (first | with_reducible assumption | with_reducible apply stall_keeps | with_reducible refine freeCtx_keeps (by with_reducible assumption) ?_ | with_reducible apply freeCtx_snd_keeps | with_reducible apply cntTether_keeps | intro _ | with_reducible apply Keeps.ite | with_reducible apply Keeps.iteSnd | with_reducible apply Keeps.iteFst | simp only [Keeps.upd] | dsimp only | split)

theorem holdBack_snd_keeps {s0 : State} (w : Waiting) (s : State) (hk : Keeps s0 s) : Keeps s0 (holdBack w s).2 :=
  holdBack_keeps (Prod.eta _).symm hk

theorem sendAfter_keeps {s0 t : State} {l : List Waiting} {w : Waiting} {s : State} (e : sendAfter l w s = some t) (hk : Keeps s0 s) : Keeps s0 t := by
  unfold sendAfter at e
  (try dsimp only at e)
  repeat' split at e
  all_goals (try cases e)
  all_goals repeat (first | with_reducible assumption | with_reducible refine trySend_keeps (by with_reducible assumption) ?_ | intro _ | with_reducible apply Keeps.ite | simp only [Keeps.upd] | dsimp only | split)

theorem sendTo_keeps {s0 : State} (d : DevId) (p : PartId) (flags : Nat) (b : Bytes) (s : State) (hk : Keeps s0 s) : Keeps s0 (sendTo d p flags b s) := by
  unfold sendTo
  repeat (first | with_reducible assumption | with_reducible refine sendAfter_keeps (by with_reducible assumption) ?_ | with_reducible refine holdBack_keeps (by with_reducible assumption) ?_ | with_reducible apply holdBack_snd_keeps | intro _ | with_reducible apply Keeps.ite | with_reducible apply Keeps.iteSnd | with_reducible apply Keeps.iteFst | simp only [Keeps.upd] | dsimp only | split)

theorem tryMsg_keeps {s0 t : State} {d : DevId} {b : Bytes} {s : State} (e : tryMsg d b s = some t) (hk : Keeps s0 s) : Keeps s0 t := by
  unfold tryMsg at e
  split at e
  · obtain ⟨x, _, hx⟩ := Option.map_eq_some_iff.1 e
    cases hx
    exact putOnLink_keeps _ _ _ _ _ _ _ _ hk
  · obtain ⟨x, _, hx⟩ := Option.bind_eq_some_iff.1 e
    exact sendTether_keeps hx hk

theorem sendMessage_keeps {s0 : State} (d : DevId) (b : Bytes) (s : State) (hk : Keeps s0 s) : Keeps s0 (sendMessage d b s) := by
  unfold sendMessage
  split
  · rename_i h
    split at h
    · cases h
    · exact tryMsg_keeps h hk
  · simpa only [Keeps.upd] using hk

theorem drainMsgs_keeps {s0 : State} (s : State) (hk : Keeps s0 s) : Keeps s0 (drainMsgs s) := by
  unfold drainMsgs
  repeat (first | with_reducible assumption | with_reducible apply sendMessage_keeps | with_reducible apply Keeps.foldl | intro _ | with_reducible apply Keeps.ite | simp only [Keeps.upd] | dsimp only | split)

theorem sendPairLink_keeps {s0 : State} (b : Bytes) (s : State) (hk : Keeps s0 s) : Keeps s0 (sendPairLink b s) := by
  unfold sendPairLink
  repeat (first | with_reducible assumption | with_reducible apply putOnLink_keeps | with_reducible apply updLink_keeps | intro _ | with_reducible apply Keeps.ite | simp only [Keeps.upd] | dsimp only | split)

theorem forwardTo_keeps {s0 : State} (x : Relayed) (s : State) (hk : Keeps s0 s) : Keeps s0 (forwardTo x s) := by
  unfold forwardTo
  repeat (first | with_reducible assumption | with_reducible apply putOnLink_keeps | intro _ | with_reducible apply Keeps.ite | simp only [Keeps.upd] | dsimp only | split)

theorem resend_keeps {s0 : State} (d : DevId) (fwd : Option DevId) (fl : Nat) (b : Bytes) (s : State) (hk : Keeps s0 s) : Keeps s0 (resend d fwd fl b s) := by
  unfold resend
  repeat (first | with_reducible assumption | with_reducible apply cntBridle_keeps | with_reducible apply sendPairLink_keeps | with_reducible apply sendMessage_keeps | with_reducible apply forwardTo_keeps | with_reducible apply sendTo_keeps | intro _ | with_reducible apply Keeps.ite | simp only [Keeps.upd] | dsimp only | split)

theorem drainOutList_keeps {s0 : State} (c : Nat) : ∀ (x0 : List Waiting) (x1 : List Waiting) (s : State), Keeps s0 s → Keeps s0 (drainOutList c x0 x1 s)
  | [], kept, s, h => by
    unfold drainOutList
    repeat (first | with_reducible assumption | with_reducible refine sendAfter_keeps (by with_reducible assumption) ?_ | with_reducible refine holdBack_keeps (by with_reducible assumption) ?_ | with_reducible apply holdBack_snd_keeps | intro _ | with_reducible apply Keeps.ite | with_reducible apply Keeps.iteSnd | with_reducible apply Keeps.iteFst | simp only [Keeps.upd] | dsimp only | split)
  | w :: rest, kept, s, h => by
    unfold drainOutList
    repeat (first | with_reducible assumption | with_reducible apply drainOutList_keeps | with_reducible refine sendAfter_keeps (by with_reducible assumption) ?_ | with_reducible refine holdBack_keeps (by with_reducible assumption) ?_ | with_reducible apply holdBack_snd_keeps | intro _ | with_reducible apply Keeps.ite | with_reducible apply Keeps.iteSnd | with_reducible apply Keeps.iteFst | simp only [Keeps.upd] | dsimp only | split)

theorem grantLinks_keeps {s0 : State}  : ∀ (x0 : Nat) (s : State), Keeps s0 s → Keeps s0 (grantLinks  x0 s)
  | 0, s, h => by
    unfold grantLinks
    repeat (first | with_reducible assumption | with_reducible refine arbitrate_keeps (by with_reducible assumption) ?_ | with_reducible refine trySend_keeps (by with_reducible assumption) ?_ | intro _ | with_reducible apply Keeps.ite | with_reducible apply Keeps.iteSnd | with_reducible apply Keeps.iteFst | simp only [Keeps.upd] | dsimp only | split)
  | n + 1, s, h => by
    unfold grantLinks
    repeat (first | with_reducible assumption | with_reducible apply grantLinks_keeps | with_reducible refine arbitrate_keeps (by with_reducible assumption) ?_ | with_reducible refine trySend_keeps (by with_reducible assumption) ?_ | intro _ | with_reducible apply Keeps.ite | with_reducible apply Keeps.iteSnd | with_reducible apply Keeps.iteFst | simp only [Keeps.upd] | dsimp only | split)

theorem drainWait_keeps {s0 : State} (c : Nat) (s : State) (hk : Keeps s0 s) : Keeps s0 (drainWait c s) := by
  unfold drainWait
  repeat (first | with_reducible assumption | with_reducible apply grantLinks_keeps | with_reducible apply drainOutList_keeps | intro _ | with_reducible apply Keeps.ite | simp only [Keeps.upd] | dsimp only | split)

theorem payOwedList_keeps {s0 : State}  : ∀ (x0 : List (LinkId × Nat × PartId × Nat × DevId)) (x1 : List (LinkId × Nat × PartId × Nat × DevId)) (s : State), Keeps s0 s → Keeps s0 (payOwedList  x0 x1 s)
  | [], _x1, s, h => by
    unfold payOwedList
    repeat (first | with_reducible assumption | with_reducible apply idleFlit_keeps | with_reducible apply Keeps.foldl | intro _ | with_reducible apply Keeps.ite | with_reducible apply Keeps.iteSnd | with_reducible apply Keeps.iteFst | simp only [Keeps.upd] | dsimp only | split)
  | (l, vc, p, n, d) :: rest, spent, s, h => by
    unfold payOwedList
    repeat (first | with_reducible assumption | with_reducible apply payOwedList_keeps | with_reducible apply idleFlit_keeps | with_reducible apply Keeps.foldl | intro _ | with_reducible apply Keeps.ite | with_reducible apply Keeps.iteSnd | with_reducible apply Keeps.iteFst | simp only [Keeps.upd] | dsimp only | split)

theorem payOwed_keeps {s0 : State} (s : State) (hk : Keeps s0 s) : Keeps s0 (payOwed s) := by
  unfold payOwed
  repeat (first | with_reducible assumption | with_reducible apply payOwedList_keeps | intro _ | with_reducible apply Keeps.ite | simp only [Keeps.upd] | dsimp only | split)

theorem drainHeld_keeps {s0 : State} (rows : Bool) (s : State) (hk : Keeps s0 s) : Keeps s0 (drainHeld rows s) := by
  unfold drainHeld
  repeat (first | with_reducible assumption | with_reducible apply forwardTo_keeps | with_reducible apply Keeps.foldl | intro _ | with_reducible apply Keeps.ite | simp only [Keeps.upd] | dsimp only | split)

theorem drainOut_keeps {s0 : State} (s : State) (hk : Keeps s0 s) : Keeps s0 (drainOut s) := by
  unfold drainOut
  repeat (first | with_reducible assumption | with_reducible apply drainWait_keeps | with_reducible apply payOwed_keeps | with_reducible apply drainHeld_keeps | with_reducible apply drainMsgs_keeps | intro _ | with_reducible apply Keeps.ite | simp only [Keeps.upd] | dsimp only | split)

theorem drainLink_keeps {s0 : State} (l : LinkId) (s : State) (hk : Keeps s0 s) : Keeps s0 (drainLink l s) := by
  unfold drainLink
  repeat (first | with_reducible assumption | with_reducible apply drainOut_keeps | with_reducible apply sendPairLink_keeps | with_reducible apply updLink_keeps | with_reducible apply Keeps.foldl | intro _ | with_reducible apply Keeps.ite | simp only [Keeps.upd] | dsimp only | split)

theorem sendPacketAs_keeps {s0 : State} (e : Nat) (d : DevId) (p : PartId) (k : Kind) (x : Packet) (s : State) (hk : Keeps s0 s) : Keeps s0 (sendPacketAs e d p k x s) := by
  unfold sendPacketAs
  repeat (first | with_reducible assumption | with_reducible apply cntPart64_keeps | with_reducible apply sendTo_keeps | intro _ | with_reducible apply Keeps.ite | simp only [Keeps.upd] | dsimp only | split)

theorem sendPacket_keeps {s0 : State} (d : DevId) (p : PartId) (k : Kind) (x : Packet) (s : State) (hk : Keeps s0 s) : Keeps s0 (sendPacket d p k x s) := by
  unfold sendPacket
  repeat (first | with_reducible assumption | with_reducible apply sendPacketAs_keeps | intro _ | with_reducible apply Keeps.ite | simp only [Keeps.upd] | dsimp only | split)

theorem sendPiece_keeps {s0 : State} (d : DevId) (p : PartId) (x : Piece) (s : State) (hk : Keeps s0 s) : Keeps s0 (sendPiece d p x s) := by
  unfold sendPiece
  repeat (first | with_reducible assumption | with_reducible apply sendTo_keeps | intro _ | with_reducible apply Keeps.ite | simp only [Keeps.upd] | dsimp only | split)

theorem setComm_keeps {s0 : State} (h : Nat) (c : Option Comm) (s : State) (hk : Keeps s0 s) : Keeps s0 (setComm h c s) := by
  unfold setComm
  repeat (first | with_reducible assumption | intro _ | with_reducible apply Keeps.ite | simp only [Keeps.upd] | dsimp only | split)

theorem updComm_keeps {s0 : State} (h : Nat) (f : Comm → Comm) (s : State) (hk : Keeps s0 s) : Keeps s0 (updComm h f s) := by
  unfold updComm
  repeat (first | with_reducible assumption | with_reducible apply setComm_keeps | intro _ | with_reducible apply Keeps.ite | simp only [Keeps.upd] | dsimp only | split)

theorem sendAbort_keeps {s0 : State} (c : Comm) (code dev : Nat) (dests : List DevId) (s : State) (hk : Keeps s0 s) : Keeps s0 (sendAbort c code dev dests s) := by
  unfold sendAbort
  repeat (first | with_reducible assumption | with_reducible apply eachOf_keeps | with_reducible apply sendPiece_keeps | intro _ | with_reducible apply Keeps.ite | simp only [Keeps.upd] | dsimp only | split)

theorem abortComm_keeps {s0 : State} (h code dev : Nat) (s : State) (hk : Keeps s0 s) : Keeps s0 (abortComm h code dev s) := by
  unfold abortComm
  repeat (first | with_reducible assumption | with_reducible apply sendAbort_keeps | with_reducible apply updComm_keeps | intro _ | with_reducible apply Keeps.ite | simp only [Keeps.upd] | dsimp only | split)

theorem epochNotices_keeps {s0 : State} (p : PartId) (s : State) (hk : Keeps s0 s) : Keeps s0 (epochNotices p s) := by
  unfold epochNotices
  repeat (first | with_reducible assumption | with_reducible apply eachOf_keeps | with_reducible apply sendPiece_keeps | intro _ | with_reducible apply Keeps.ite | simp only [Keeps.upd] | dsimp only | split)

theorem sendClose_keeps {s0 : State} (p : PartId) (c : Conj) (d : DevId) (s : State) (hk : Keeps s0 s) : Keeps s0 (sendClose p c d s) := by
  unfold sendClose
  repeat (first | with_reducible assumption | with_reducible apply sendPacket_keeps | intro _ | with_reducible apply Keeps.ite | with_reducible apply Keeps.iteSnd | with_reducible apply Keeps.iteFst | simp only [Keeps.upd] | dsimp only | split)

theorem sendVerdicts_keeps {s0 : State} (p : PartId) (c : Conj) (d : DevId) : ∀ (x0 : List Bytes) (x1 : Nat) (s : State), Keeps s0 s → Keeps s0 (sendVerdicts p c d x0 x1 s)
  | _x0, 0, s, h => by
    unfold sendVerdicts
    repeat (first | with_reducible assumption | with_reducible apply sendPacket_keeps | intro _ | with_reducible apply Keeps.ite | simp only [Keeps.upd] | dsimp only | split)
  | [], _x1, s, h => by
    unfold sendVerdicts
    repeat (first | with_reducible assumption | with_reducible apply sendPacket_keeps | intro _ | with_reducible apply Keeps.ite | simp only [Keeps.upd] | dsimp only | split)
  | es, fuel + 1, s, h => by
    unfold sendVerdicts
    repeat (first | with_reducible assumption | with_reducible apply sendVerdicts_keeps | with_reducible apply sendPacket_keeps | intro _ | with_reducible apply Keeps.ite | simp only [Keeps.upd] | dsimp only | split)

theorem suppress_keeps {s0 : State} (p : PartId) (n : Nat) (s : State) (hk : Keeps s0 s) : Keeps s0 (suppress p n s) := by
  unfold suppress
  repeat (first | with_reducible assumption | with_reducible apply cntPart_keeps | with_reducible apply updJob_keeps | intro _ | with_reducible apply Keeps.ite | simp only [Keeps.upd] | dsimp only | split)

theorem countOrphans_keeps {s0 : State} (p : PartId) (s : State) (hk : Keeps s0 s) : Keeps s0 (countOrphans p s) := by
  unfold countOrphans
  repeat (first | with_reducible assumption | with_reducible apply suppress_keeps | with_reducible apply cntPart_keeps | intro _ | with_reducible apply Keeps.ite | with_reducible apply Keeps.iteSnd | with_reducible apply Keeps.iteFst | simp only [Keeps.upd] | dsimp only | split)

theorem cancelSpec_keeps {s0 : State} (p : PartId) (c : Conj) (s : State) (hk : Keeps s0 s) : Keeps s0 (cancelSpec p c s) := by
  unfold cancelSpec
  repeat (first | with_reducible assumption | with_reducible apply suppress_keeps | with_reducible apply cntPart64_keeps | with_reducible apply eachOf_keeps | with_reducible apply sendVerdicts_keeps | intro _ | with_reducible apply Keeps.ite | simp only [Keeps.upd] | dsimp only | split)

theorem withdraw_keeps {s0 : State} (t : Waiting → Bool) (s : State) (hk : Keeps s0 s) : Keeps s0 (withdraw t s) := by
  unfold withdraw
  repeat (first | with_reducible assumption | intro _ | with_reducible apply Keeps.ite | simp only [Keeps.upd] | dsimp only | split)

theorem updConj_keeps {s0 : State} (p : PartId) (f : Conj → Conj) (s : State) (hk : Keeps s0 s) : Keeps s0 (updConj p f s) := by
  unfold updConj
  repeat (first | with_reducible assumption | with_reducible apply updPart_keeps | intro _ | with_reducible apply Keeps.ite | simp only [Keeps.upd] | dsimp only | split)

theorem withdrawRow_keeps {s0 : State} (p : PartId) (x : Clause) (s : State) (hk : Keeps s0 s) : Keeps s0 (withdrawRow p x s) := by
  unfold withdrawRow
  repeat (first | with_reducible assumption | with_reducible apply withdraw_keeps | with_reducible apply cntPart64_keeps | with_reducible apply updConj_keeps | with_reducible apply Keeps.foldl | intro _ | with_reducible apply Keeps.ite | with_reducible apply Keeps.iteSnd | with_reducible apply Keeps.iteFst | simp only [Keeps.upd] | dsimp only | split)

theorem withdrawRows_keeps {s0 : State} (p : PartId) (s : State) (hk : Keeps s0 s) : Keeps s0 (withdrawRows p s) := by
  unfold withdrawRows
  repeat (first | with_reducible assumption | with_reducible apply eachOf_keeps | with_reducible apply withdrawRow_keeps | with_reducible apply cntPart64_keeps | intro _ | with_reducible apply Keeps.ite | simp only [Keeps.upd] | dsimp only | split)

theorem withdrawPieces_keeps {s0 : State} (p : PartId) (s : State) (hk : Keeps s0 s) : Keeps s0 (withdrawPieces p s) := by
  unfold withdrawPieces
  repeat (first | with_reducible assumption | with_reducible apply withdraw_keeps | intro _ | with_reducible apply Keeps.ite | simp only [Keeps.upd] | dsimp only | split)

theorem retireConj_keeps {s0 : State} (p : PartId) (s : State) (hk : Keeps s0 s) : Keeps s0 (retireConj p s) := by
  unfold retireConj
  repeat (first | with_reducible assumption | with_reducible apply cancelSpec_keeps | with_reducible apply eachOf_keeps | with_reducible apply sendClose_keeps | with_reducible apply updPart_keeps | intro _ | with_reducible apply Keeps.ite | simp only [Keeps.upd] | dsimp only | split)

theorem sendDual_keeps {s0 : State} (b : Bytes) (s : State) (hk : Keeps s0 s) : Keeps s0 (sendDual b s) := by
  unfold sendDual
  repeat (first | with_reducible assumption | with_reducible apply emit_keeps | with_reducible apply sendPairLink_keeps | intro _ | with_reducible apply Keeps.ite | simp only [Keeps.upd] | dsimp only | split)

theorem abandonDual_keeps {s0 : State} (p : PartId) (code : Nat) (s : State) (hk : Keeps s0 s) : Keeps s0 (abandonDual p code s) := by
  unfold abandonDual
  repeat (first | with_reducible assumption | with_reducible apply sendDual_keeps | with_reducible apply updPart_keeps | intro _ | with_reducible apply Keeps.ite | simp only [Keeps.upd] | dsimp only | split)

theorem closeJob_keeps {s0 : State} (p : PartId) (s : State) (hk : Keeps s0 s) : Keeps s0 (closeJob p s) := by
  unfold closeJob
  repeat (first | with_reducible assumption | with_reducible apply mgtEvent_keeps | with_reducible apply cntPart64_keeps | with_reducible apply updJob_keeps | intro _ | with_reducible apply Keeps.ite | simp only [Keeps.upd] | dsimp only | split)

theorem stopStream_keeps {s0 : State} (p : PartId) (code : Nat) (st : StreamId) (s : State) (hk : Keeps s0 s) : Keeps s0 (stopStream p code st s) := by
  unfold stopStream
  repeat (first | with_reducible assumption | with_reducible apply updStream_keeps | with_reducible apply traceCmd_keeps | intro _ | with_reducible apply Keeps.ite | simp only [Keeps.upd] | dsimp only | split)

theorem clearSyc_keeps {s0 : State} (p : PartId) (s : State) (h : Keeps s0 s) : Keeps s0 (clearSyc p s) :=
  ⟨h.hbm, h.poison, h.err, h.flash, fun w => tabWf_tabClear 0 _ _ s.syc (h.syc w), h.fuses, h.pending, h.out, h.free⟩

theorem orphanReads_keeps {s0 : State} (p : PartId) (s : State) (hk : Keeps s0 s) : Keeps s0 (orphanReads p s) := by
  unfold orphanReads
  repeat (first | with_reducible assumption | with_reducible apply updPort_keeps | intro _ | with_reducible apply Keeps.ite | simp only [Keeps.upd] | dsimp only | split)

theorem haltQueues_keeps {s0 : State} (p : PartId) (code : Nat) (s : State) (hk : Keeps s0 s) : Keeps s0 (haltQueues p code s) := by
  unfold haltQueues
  repeat (first | with_reducible assumption | with_reducible apply orphanReads_keeps | with_reducible apply eachOf_keeps | with_reducible apply stopStream_keeps | with_reducible apply updStream_keeps | with_reducible apply clearSyc_keeps | with_reducible apply updPart_keeps | intro _ | with_reducible apply Keeps.ite | with_reducible apply Keeps.iteSnd | with_reducible apply Keeps.iteFst | simp only [Keeps.upd] | dsimp only | split)

theorem teardown_keeps {s0 : State} (p : PartId) (code : Nat) (s : State) (hk : Keeps s0 s) : Keeps s0 (teardown p code s) := by
  unfold teardown
  repeat (first | with_reducible assumption | with_reducible apply abortComm_keeps | with_reducible apply withdrawPieces_keeps | with_reducible apply updPart_keeps | with_reducible apply abandonDual_keeps | with_reducible apply retireConj_keeps | with_reducible apply withdrawRows_keeps | with_reducible apply countOrphans_keeps | with_reducible apply cntPart_keeps | with_reducible apply closeJob_keeps | with_reducible apply haltQueues_keeps | intro _ | with_reducible apply Keeps.ite | simp only [Keeps.upd] | dsimp only | split)

theorem jobFault_keeps {s0 : State} (p : PartId) (r : ErrRec) (s : State) (hk : Keeps s0 s) : Keeps s0 (jobFault p r s) := by
  unfold jobFault
  repeat (first | with_reducible assumption | with_reducible apply record_keeps | with_reducible apply teardown_keeps | intro _ | with_reducible apply Keeps.ite | simp only [Keeps.upd] | dsimp only | split)

theorem hostRead_keeps {s0 : State} (p : PartId) (addr len : Nat) (tgt : Nat → DmaTarget) (s : State) (hk : Keeps s0 s) : Keeps s0 (hostRead p addr len tgt s) := by
  unfold hostRead
  repeat (first | with_reducible assumption | with_reducible apply dmaPush_keeps | intro _ | with_reducible apply Keeps.ite | simp only [Keeps.upd] | dsimp only | split)

theorem fetchRing_keeps {s0 : State} (p : PartId) (st : StreamId) : ∀ (x0 : Nat) (s : State), Keeps s0 s → Keeps s0 (fetchRing p st x0 s)
  | 0, s, h => by
    unfold fetchRing
    repeat (first | with_reducible assumption | with_reducible apply updStream_keeps | with_reducible apply hostRead_keeps | intro _ | with_reducible apply Keeps.ite | simp only [Keeps.upd] | dsimp only | split)
  | fuel + 1, s, h => by
    unfold fetchRing
    repeat (first | with_reducible assumption | with_reducible apply fetchRing_keeps | with_reducible apply updStream_keeps | with_reducible apply hostRead_keeps | intro _ | with_reducible apply Keeps.ite | simp only [Keeps.upd] | dsimp only | split)

theorem fetchNow_keeps {s0 : State} (p : PartId) (st : StreamId) (s : State) (hk : Keeps s0 s) : Keeps s0 (fetchNow p st s) := by
  unfold fetchNow
  repeat (first | with_reducible assumption | with_reducible apply fetchRing_keeps | intro _ | with_reducible apply Keeps.ite | simp only [Keeps.upd] | dsimp only | split)

theorem dropHead_keeps {s0 : State} (p : PartId) (st : StreamId) (s : State) (hk : Keeps s0 s) : Keeps s0 (dropHead p st s) := by
  unfold dropHead
  repeat (first | with_reducible assumption | with_reducible apply updStream_keeps | intro _ | with_reducible apply Keeps.ite | simp only [Keeps.upd] | dsimp only | split)

theorem cmdFault_keeps {s0 : State} (p : PartId) (st : StreamId) (desc : Bytes) (code sub detail : Nat) (s : State) (hk : Keeps s0 s) : Keeps s0 (cmdFault p st desc code sub detail s) := by
  unfold cmdFault
  repeat (first | with_reducible assumption | with_reducible apply traceCmd_keeps | with_reducible apply fetchNow_keeps | with_reducible apply jobFault_keeps | with_reducible apply dropHead_keeps | intro _ | with_reducible apply Keeps.ite | simp only [Keeps.upd] | dsimp only | split)

theorem traceDrain_keeps {s0 : State} (p : PartId) (s : State) (hk : Keeps s0 s) : Keeps s0 (traceDrain p s) := by
  unfold traceDrain
  repeat (first | with_reducible assumption | with_reducible apply updPart_keeps | with_reducible apply hbmWrite_keeps | with_reducible apply charge_keeps | with_reducible apply Keeps.foldl | intro _ | with_reducible apply Keeps.ite | simp only [Keeps.upd] | dsimp only | split)

theorem cutBurst_keeps {s0 : State} (p : PartId) (x : Nat × Nat × Nat) (s : State) (hk : Keeps s0 s) : Keeps s0 (cutBurst p x s) := by
  have h := takeFree_snd_keeps s hk
  unfold cutBurst
  exact ⟨fun w => memWf_memWriteN _ _ _ (h.hbm w), h.poison, h.err, h.flash, h.syc, h.fuses, h.pending, h.out, h.free⟩

theorem resetReport_keeps {s0 : State} (p : PartId) (k : ResetKind) (code : Nat) (hbm host : List (Nat × Nat)) (s : State) (hk : Keeps s0 s) : Keeps s0 (resetReport p k code hbm host s) := by
  unfold resetReport
  repeat (first | with_reducible assumption | with_reducible apply eachOf_keeps | with_reducible apply record_keeps | intro _ | with_reducible apply Keeps.ite | simp only [Keeps.upd] | dsimp only | split)

theorem resetPartition_keeps {s0 : State} (p : PartId) (k : ResetKind) (code : Nat) (s : State) (hk : Keeps s0 s) : Keeps s0 (resetPartition p k code s) := by
  unfold resetPartition
  repeat (first | with_reducible assumption | with_reducible apply eachOf_keeps | with_reducible apply cutBurst_keeps | with_reducible apply stopStream_keeps | with_reducible apply traceDrain_keeps | with_reducible apply withdraw_keeps | with_reducible apply withdrawRows_keeps | with_reducible apply abandonDual_keeps | with_reducible apply cancelSpec_keeps | with_reducible apply closeJob_keeps | with_reducible apply updPart_keeps | with_reducible apply epochNotices_keeps | with_reducible apply setComm_keeps | with_reducible apply clearSyc_keeps | with_reducible apply updCluster_keeps | with_reducible apply countOrphans_keeps | with_reducible apply resetReport_keeps | with_reducible apply updPort_keeps | with_reducible apply cntPort_keeps | intro _ | with_reducible apply Keeps.ite | with_reducible apply Keeps.iteSnd | with_reducible apply Keeps.iteFst | with_reducible apply Keeps.hbmClear | with_reducible apply Keeps.hbmNil | simp only [Keeps.upd] | dsimp only | split)

theorem partitionReady_keeps {s0 : State} (p : PartId) (s : State) (hk : Keeps s0 s) : Keeps s0 (partitionReady p s) := by
  unfold partitionReady
  repeat (first | with_reducible assumption | with_reducible apply msixPart_keeps | with_reducible apply updPart_keeps | intro _ | with_reducible apply Keeps.ite | simp only [Keeps.upd] | dsimp only | split)

theorem partFault_keeps {s0 : State} (p : PartId) (r : ErrRec) (s : State) (hk : Keeps s0 s) : Keeps s0 (partFault p r s) := by
  unfold partFault
  repeat (first | with_reducible assumption | with_reducible apply resetPartition_keeps | with_reducible apply record_keeps | intro _ | with_reducible apply Keeps.ite | simp only [Keeps.upd] | dsimp only | split)

theorem warmReset_keeps {s0 : State} (cause : Nat) (s : State) (h : Keeps s0 s) : Keeps s0 (warmReset cause s) := by
  unfold warmReset
  split
  · exact h
  · exact ⟨fun _ => rfl, fun _ => rfl, fun _ => rfl, h.flash, fun _ => rfl, h.fuses, h.pending, h.out, h.free⟩

theorem warmPlain_keeps {s0 : State} (s : State) (hk : Keeps s0 s) : Keeps s0 (warmPlain s) := by
  unfold warmPlain
  repeat (first | with_reducible assumption | with_reducible apply warmReset_keeps | intro _ | with_reducible apply Keeps.ite | simp only [Keeps.upd] | dsimp only | split)

theorem deviceFault_keeps {s0 : State} (r : ErrRec) (cause : Nat) (s : State) (hk : Keeps s0 s) : Keeps s0 (deviceFault r cause s) := by
  unfold deviceFault
  repeat (first | with_reducible assumption | with_reducible apply warmReset_keeps | with_reducible apply mgtRecord_keeps | intro _ | with_reducible apply Keeps.ite | simp only [Keeps.upd] | dsimp only | split)

theorem flashErase_keeps {s0 : State} (lo hi : Nat) (s : State) (h : Keeps s0 s) : Keeps s0 (flashErase lo hi s) :=
  ⟨h.hbm, h.poison, h.err, fun w => tabWf_tabClear flashDefault lo hi s.flash (h.flash w), h.syc, h.fuses, h.pending, h.out, h.free⟩

theorem flashWrite_keeps {s0 : State} (a : Nat) (b : Bytes) (s : State) (h : Keeps s0 s) : Keeps s0 (flashWrite a b s) :=
  ⟨h.hbm, h.poison, h.err, fun w => tabWf_flashWriteN b s.flash a (h.flash w), h.syc, h.fuses, h.pending, h.out, h.free⟩

theorem secLog_keeps {s0 : State} (event role result : Nat) (detail : Bytes) (s : State) (hk : Keeps s0 s) : Keeps s0 (secLog event role result detail s) := by
  unfold secLog
  repeat (first | with_reducible assumption | with_reducible apply cntDev_keeps | with_reducible apply flashWrite_keeps | with_reducible apply flashErase_keeps | intro _ | with_reducible apply Keeps.ite | simp only [Keeps.upd] | dsimp only | split)

theorem secLogMergedAs_keeps {s0 : State} (event key role result : Nat) (detail : Bytes) (s : State) (hk : Keeps s0 s) : Keeps s0 (secLogMergedAs event key role result detail s) := by
  unfold secLogMergedAs
  repeat (first | with_reducible assumption | with_reducible apply secLog_keeps | intro _ | with_reducible apply Keeps.ite | simp only [Keeps.upd] | dsimp only | split)

theorem secLogMerged_keeps {s0 : State} (event key : Nat) (detail : Bytes) (s : State) (hk : Keeps s0 s) : Keeps s0 (secLogMerged event key detail s) := by
  unfold secLogMerged
  repeat (first | with_reducible assumption | with_reducible apply secLogMergedAs_keeps | intro _ | with_reducible apply Keeps.ite | simp only [Keeps.upd] | dsimp only | split)

theorem drbgBytes_keeps {s0 t : State} {v : Bytes} {n : Nat} {s : State} (e : drbgBytes n s = (v, t)) (h : Keeps s0 s) : Keeps s0 t := by
  unfold drbgBytes at e
  cases e
  exact ⟨h.hbm, h.poison, h.err, h.flash, h.syc, h.fuses, h.pending, h.out, Nat.le_succ_of_le h.free⟩

theorem drbgBytes_snd_keeps {s0 : State} (n : Nat) (s : State) (hk : Keeps s0 s) : Keeps s0 (drbgBytes n s).2 :=
  drbgBytes_keeps (Prod.eta _).symm hk

theorem freshNonce_keeps {s0 : State} (s : State) (hk : Keeps s0 s) : Keeps s0 (freshNonce s) := by
  unfold freshNonce
  repeat (first | with_reducible assumption | with_reducible refine drbgBytes_keeps (by with_reducible assumption) ?_ | with_reducible apply drbgBytes_snd_keeps | intro _ | with_reducible apply Keeps.ite | with_reducible apply Keeps.iteSnd | with_reducible apply Keeps.iteFst | simp only [Keeps.upd] | dsimp only | split)

theorem zeroizeVolatile_keeps {s0 : State} (s : State) (hk : Keeps s0 s) : Keeps s0 (zeroizeVolatile s) := by
  unfold zeroizeVolatile
  repeat (first | with_reducible assumption | intro _ | with_reducible apply Keeps.ite | simp only [Keeps.upd] | dsimp only | split)

theorem zeroizeAll_keeps {s0 : State} (s : State) (hk : Keeps s0 s) : Keeps s0 (zeroizeAll s) := by
  unfold zeroizeAll
  repeat (first | with_reducible assumption | with_reducible apply zeroizeVolatile_keeps | with_reducible apply flashErase_keeps | intro _ | with_reducible apply Keeps.ite | with_reducible apply Keeps.hbmClear | with_reducible apply Keeps.hbmNil | simp only [Keeps.upd] | dsimp only | split)

theorem readVault_keeps {s0 : State} (s : State) (hk : Keeps s0 s) : Keeps s0 (readVault s) := by
  unfold readVault
  repeat (first | with_reducible assumption | intro _ | with_reducible apply Keeps.ite | simp only [Keeps.upd] | dsimp only | split)

theorem deriveKeys_keeps {s0 : State} (s : State) (hk : Keeps s0 s) : Keeps s0 (deriveKeys s) := by
  unfold deriveKeys
  repeat (first | with_reducible assumption | with_reducible apply readVault_keeps | with_reducible apply freshNonce_keeps | intro _ | with_reducible apply Keeps.ite | simp only [Keeps.upd] | dsimp only | split)

theorem enterError_keeps {s0 : State} (id : Nat) (s : State) (hk : Keeps s0 s) : Keeps s0 (enterError id s) := by
  unfold enterError
  repeat (first | with_reducible assumption | with_reducible apply mgtRecord_keeps | with_reducible apply secLog_keeps | with_reducible apply zeroizeVolatile_keeps | intro _ | with_reducible apply Keeps.ite | simp only [Keeps.upd] | dsimp only | split)

theorem bistAppend_keeps {s0 : State} (body : Bytes) (s : State) (hk : Keeps s0 s) : Keeps s0 (bistAppend body s) := by
  unfold bistAppend
  repeat (first | with_reducible assumption | with_reducible apply flashErase_keeps | with_reducible apply flashWrite_keeps | intro _ | with_reducible apply Keeps.ite | simp only [Keeps.upd] | dsimp only | split)

theorem sendLinkMsg_keeps {s0 : State} (l : LinkId) (m : LinkMsg) (s : State) (hk : Keeps s0 s) : Keeps s0 (sendLinkMsg l m s) := by
  unfold sendLinkMsg
  repeat (first | with_reducible assumption | with_reducible apply emit_keeps | with_reducible apply otherFlit_keeps | intro _ | with_reducible apply Keeps.ite | simp only [Keeps.upd] | dsimp only | split)

theorem noticeLink_keeps {s0 : State} (l : LinkId) (s : State) (hk : Keeps s0 s) : Keeps s0 (noticeLink l s) := by
  unfold noticeLink
  repeat (first | with_reducible assumption | with_reducible apply sendLinkMsg_keeps | intro _ | with_reducible apply Keeps.ite | simp only [Keeps.upd] | dsimp only | split)

theorem noticeCtx_keeps {s0 : State} (i : Nat) (s : State) (hk : Keeps s0 s) : Keeps s0 (noticeCtx i s) := by
  unfold noticeCtx
  repeat (first | with_reducible assumption | with_reducible apply drainCtx_keeps | with_reducible apply updCtx_keeps | intro _ | with_reducible apply Keeps.ite | simp only [Keeps.upd] | dsimp only | split)

theorem sendNotices_keeps {s0 : State} (s : State) (hk : Keeps s0 s) : Keeps s0 (sendNotices s) := by
  unfold sendNotices
  repeat (first | with_reducible assumption | with_reducible apply eachOf_keeps | with_reducible apply noticeLink_keeps | with_reducible apply noticeCtx_keeps | with_reducible apply Keeps.foldl | intro _ | with_reducible apply Keeps.ite | simp only [Keeps.upd] | dsimp only | split)

theorem noticeChange_keeps {s0 : State} (before : Nat) (s : State) (hk : Keeps s0 s) : Keeps s0 (noticeChange before s) := by
  unfold noticeChange
  repeat (first | with_reducible assumption | with_reducible apply sendNotices_keeps | intro _ | with_reducible apply Keeps.ite | simp only [Keeps.upd] | dsimp only | split)

theorem setBrl_keeps {s0 : State} (l : LinkId) (st : BrlState) (s : State) (hk : Keeps s0 s) : Keeps s0 (setBrl l st s) := by
  unfold setBrl
  repeat (first | with_reducible assumption | with_reducible apply mgtEvent_keeps | with_reducible apply updLink_keeps | intro _ | with_reducible apply Keeps.ite | simp only [Keeps.upd] | dsimp only | split)

theorem setTth_keeps {s0 : State} (pl : PlaneId) (st : TthState) (s : State) (hk : Keeps s0 s) : Keeps s0 (setTth pl st s) := by
  unfold setTth
  repeat (first | with_reducible assumption | with_reducible apply mgtEvent_keeps | with_reducible apply updPlane_keeps | intro _ | with_reducible apply Keeps.ite | simp only [Keeps.upd] | dsimp only | split)

theorem setCluster_keeps {s0 : State} (c : ClusterId) (st : ClusterState) (s : State) (hk : Keeps s0 s) : Keeps s0 (setCluster c st s) := by
  unfold setCluster
  repeat (first | with_reducible assumption | with_reducible apply mgtEvent_keeps | with_reducible apply updCluster_keeps | intro _ | with_reducible apply Keeps.ite | simp only [Keeps.upd] | dsimp only | split)

theorem setCommit_keeps {s0 : State} (st : CommitState) (s : State) (hk : Keeps s0 s) : Keeps s0 (setCommit st s) := by
  unfold setCommit
  repeat (first | with_reducible assumption | with_reducible apply mgtEvent_keeps | intro _ | with_reducible apply Keeps.ite | simp only [Keeps.upd] | dsimp only | split)

theorem setSb_keeps {s0 : State} (st : SbState) (s : State) (hk : Keeps s0 s) : Keeps s0 (setSb st s) := by
  unfold setSb
  repeat (first | with_reducible assumption | with_reducible apply mgtEvent_keeps | intro _ | with_reducible apply Keeps.ite | simp only [Keeps.upd] | dsimp only | split)

theorem portEvent_keeps {s0 : State} (k : PortId) (s : State) (hk : Keeps s0 s) : Keeps s0 (portEvent k s) := by
  unfold portEvent
  repeat (first | with_reducible assumption | with_reducible apply mgtEvent_keeps | intro _ | with_reducible apply Keeps.ite | simp only [Keeps.upd] | dsimp only | split)

theorem enterDetect_keeps {s0 : State} (l : LinkId) (s : State) (hk : Keeps s0 s) : Keeps s0 (enterDetect l s) := by
  unfold enterDetect
  repeat (first | with_reducible assumption | with_reducible apply setBrl_keeps | with_reducible apply updLink_keeps | with_reducible apply emit_keeps | intro _ | with_reducible apply Keeps.ite | simp only [Keeps.upd] | dsimp only | split)

theorem enterAlign_keeps {s0 : State} (pl : PlaneId) (s : State) (hk : Keeps s0 s) : Keeps s0 (enterAlign pl s) := by
  unfold enterAlign
  repeat (first | with_reducible assumption | with_reducible apply setTth_keeps | with_reducible apply updPlane_keeps | intro _ | with_reducible apply Keeps.ite | simp only [Keeps.upd] | dsimp only | split)

theorem startLinks_keeps {s0 : State} (s : State) (hk : Keeps s0 s) : Keeps s0 (startLinks s) := by
  unfold startLinks
  repeat (first | with_reducible assumption | with_reducible apply eachOf_keeps | with_reducible apply enterDetect_keeps | with_reducible apply enterAlign_keeps | intro _ | with_reducible apply Keeps.ite | simp only [Keeps.upd] | dsimp only | split)

theorem setPstateNow_keeps {s0 : State} (p : Nat) (s : State) (hk : Keeps s0 s) : Keeps s0 (setPstateNow p s) := by
  unfold setPstateNow
  repeat (first | with_reducible assumption | intro _ | with_reducible apply Keeps.ite | simp only [Keeps.upd] | dsimp only | split)

theorem switchCore_keeps {s0 : State} (p : Nat) (s : State) (hk : Keeps s0 s) : Keeps s0 (switchCore p s) := by
  unfold switchCore
  repeat (first | with_reducible assumption | with_reducible apply cntPower_keeps | intro _ | with_reducible apply Keeps.ite | simp only [Keeps.upd] | dsimp only | split)

theorem requestPstate_keeps {s0 : State} (p : Nat) (s : State) (hk : Keeps s0 s) : Keeps s0 (requestPstate p s) := by
  unfold requestPstate
  repeat (first | with_reducible assumption | with_reducible apply switchCore_keeps | intro _ | with_reducible apply Keeps.ite | simp only [Keeps.upd] | dsimp only | split)

theorem releaseHeld_keeps {s0 : State} (s : State) (hk : Keeps s0 s) : Keeps s0 (releaseHeld s) := by
  unfold releaseHeld
  repeat (first | with_reducible assumption | with_reducible apply requestPstate_keeps | intro _ | with_reducible apply Keeps.ite | simp only [Keeps.upd] | dsimp only | split)

theorem quietExit_keeps {s0 : State} (cause : Nat) (s : State) (hk : Keeps s0 s) : Keeps s0 (quietExit cause s) := by
  unfold quietExit
  repeat (first | with_reducible assumption | with_reducible apply mgtEvent_keeps | with_reducible apply requestPstate_keeps | intro _ | with_reducible apply Keeps.ite | simp only [Keeps.upd] | dsimp only | split)

theorem quietRow_keeps {s0 : State} (s : State) (hk : Keeps s0 s) : Keeps s0 (quietRow s) := by
  unfold quietRow
  repeat (first | with_reducible assumption | with_reducible apply quietExit_keeps | intro _ | with_reducible apply Keeps.ite | simp only [Keeps.upd] | dsimp only | split)

theorem driveWake_keeps {s0 : State} (k : PortId) (s : State) (hk : Keeps s0 s) : Keeps s0 (driveWake k s) := by
  unfold driveWake
  repeat (first | with_reducible assumption | with_reducible apply updPort_keeps | intro _ | with_reducible apply Keeps.ite | simp only [Keeps.upd] | dsimp only | split)

theorem dualHello_keeps {s0 : State} (s : State) (hk : Keeps s0 s) : Keeps s0 (dualHello s) := by
  unfold dualHello
  repeat (first | with_reducible assumption | with_reducible apply sendDual_keeps | intro _ | with_reducible apply Keeps.ite | simp only [Keeps.upd] | dsimp only | split)

theorem setDual_keeps {s0 : State} (st : DlState) (s : State) (hk : Keeps s0 s) : Keeps s0 (setDual st s) := by
  unfold setDual
  repeat (first | with_reducible assumption | intro _ | with_reducible apply Keeps.ite | simp only [Keeps.upd] | dsimp only | split)

theorem dualWaiting_keeps {s0 : State} (s : State) (hk : Keeps s0 s) : Keeps s0 (dualWaiting s) := by
  unfold dualWaiting
  repeat (first | with_reducible assumption | with_reducible apply setDual_keeps | with_reducible apply dualHello_keeps | intro _ | with_reducible apply Keeps.ite | simp only [Keeps.upd] | dsimp only | split)

theorem dualRelease_keeps {s0 : State} (p : PartId) (w : DlWait) (s : State) (hk : Keeps s0 s) : Keeps s0 (dualRelease p w s) := by
  unfold dualRelease
  repeat (first | with_reducible assumption | with_reducible apply setRegPart_keeps | with_reducible apply updPart_keeps | intro _ | with_reducible apply Keeps.ite | simp only [Keeps.upd] | dsimp only | split)

theorem dualMismatch_keeps {s0 : State} (p : PartId) (w : DlWait) (cause : Nat) (s : State) (hk : Keeps s0 s) : Keeps s0 (dualMismatch p w cause s) := by
  unfold dualMismatch
  repeat (first | with_reducible assumption | with_reducible apply setRegPart_keeps | with_reducible apply cntPart_keeps | with_reducible apply updPart_keeps | with_reducible apply cmdFault_keeps | intro _ | with_reducible apply Keeps.ite | simp only [Keeps.upd] | dsimp only | split)

theorem dualDecide_keeps {s0 : State} (p : PartId) (w : DlWait) (r : DlRx) (s : State) (hk : Keeps s0 s) : Keeps s0 (dualDecide p w r s) := by
  unfold dualDecide
  repeat (first | with_reducible assumption | with_reducible apply dualMismatch_keeps | with_reducible apply dualRelease_keeps | with_reducible apply cntPart_keeps | with_reducible apply updPart_keeps | intro _ | with_reducible apply Keeps.ite | simp only [Keeps.upd] | dsimp only | split)

theorem dualStart_keeps {s0 : State} (p : PartId) (jobId count request : Nat) (exempt : Bool) (check : Bytes) (s : State) (hk : Keeps s0 s) : Keeps s0 (dualStart p jobId count request exempt check s) := by
  unfold dualStart
  repeat (first | with_reducible assumption | with_reducible apply updPart_keeps | with_reducible apply sendDual_keeps | with_reducible apply dualDecide_keeps | intro _ | with_reducible apply Keeps.ite | simp only [Keeps.upd] | dsimp only | split)

theorem dualMessage_keeps {s0 : State} (p : PartId) (r : DlRx) (s : State) (hk : Keeps s0 s) : Keeps s0 (dualMessage p r s) := by
  unfold dualMessage
  repeat (first | with_reducible assumption | with_reducible apply dualDecide_keeps | with_reducible apply updPart_keeps | intro _ | with_reducible apply Keeps.ite | simp only [Keeps.upd] | dsimp only | split)

theorem dualLost_keeps {s0 : State} (s : State) (hk : Keeps s0 s) : Keeps s0 (dualLost s) := by
  unfold dualLost
  repeat (first | with_reducible assumption | with_reducible apply eachOf_keeps | with_reducible apply dualMismatch_keeps | intro _ | with_reducible apply Keeps.ite | simp only [Keeps.upd] | dsimp only | split)

theorem dualLinkDown_keeps {s0 : State} (s : State) (hk : Keeps s0 s) : Keeps s0 (dualLinkDown s) := by
  unfold dualLinkDown
  repeat (first | with_reducible assumption | with_reducible apply setDual_keeps | with_reducible apply dualLost_keeps | intro _ | with_reducible apply Keeps.ite | simp only [Keeps.upd] | dsimp only | split)

theorem dualDetect_keeps {s0 : State} (s : State) (hk : Keeps s0 s) : Keeps s0 (dualDetect s) := by
  unfold dualDetect
  repeat (first | with_reducible assumption | with_reducible apply setDual_keeps | intro _ | with_reducible apply Keeps.ite | simp only [Keeps.upd] | dsimp only | split)

theorem dualActive_keeps {s0 : State} (s : State) (hk : Keeps s0 s) : Keeps s0 (dualActive s) := by
  unfold dualActive
  repeat (first | with_reducible assumption | with_reducible apply dualHello_keeps | intro _ | with_reducible apply Keeps.ite | simp only [Keeps.upd] | dsimp only | split)

theorem execDlHelloReceive_keeps {s0 : State} (msg : Bytes) (s : State) (hk : Keeps s0 s) : KeepsO s0 (execDlHelloReceive msg s) := by
  unfold execDlHelloReceive
  repeat (first | with_reducible assumption | with_reducible apply KeepsO.next | with_reducible apply KeepsO.ite | with_reducible apply setDual_keeps | with_reducible apply dualHello_keeps | with_reducible apply dualLost_keeps | with_reducible apply eachOf_keeps | with_reducible apply updPart_keeps | with_reducible apply recordAll_keeps | intro _ | with_reducible apply Keeps.ite | simp only [Keeps.upd] | dsimp only | split)

theorem execDlCompareReceive_keeps {s0 : State} (msg : Bytes) (s : State) (hk : Keeps s0 s) : KeepsO s0 (execDlCompareReceive msg s) := by
  unfold execDlCompareReceive
  repeat (first | with_reducible assumption | with_reducible apply KeepsO.next | with_reducible apply KeepsO.ite | with_reducible apply dualMessage_keeps | intro _ | with_reducible apply Keeps.ite | simp only [Keeps.upd] | dsimp only | split)

theorem execDlAbandonReceive_keeps {s0 : State} (msg : Bytes) (s : State) (hk : Keeps s0 s) : KeepsO s0 (execDlAbandonReceive msg s) := by
  unfold execDlAbandonReceive
  repeat (first | with_reducible assumption | with_reducible apply KeepsO.next | with_reducible apply KeepsO.ite | with_reducible apply dualMessage_keeps | intro _ | with_reducible apply Keeps.ite | simp only [Keeps.upd] | dsimp only | split)

theorem execDlCompareTimeout_keeps {s0 : State} (p : PartId) (s : State) (hk : Keeps s0 s) : KeepsO s0 (execDlCompareTimeout p s) := by
  unfold execDlCompareTimeout
  repeat (first | with_reducible assumption | with_reducible apply KeepsO.next | with_reducible apply KeepsO.ite | with_reducible apply dualMismatch_keeps | intro _ | with_reducible apply Keeps.ite | simp only [Keeps.upd] | dsimp only | split)

theorem execDlPairLinkDown_keeps {s0 : State} (s : State) (hk : Keeps s0 s) : KeepsO s0 (execDlPairLinkDown s) := by
  unfold execDlPairLinkDown
  repeat (first | with_reducible assumption | with_reducible apply KeepsO.next | with_reducible apply KeepsO.ite | with_reducible apply dualLinkDown_keeps | intro _ | with_reducible apply Keeps.ite | simp only [Keeps.upd] | dsimp only | split)

theorem updCore_keeps {s0 : State} (c : ClusterId) (i : Fin 8) (f : CoreSt → CoreSt) (s : State) (hk : Keeps s0 s) : Keeps s0 (updCore c i f s) := by
  unfold updCore
  repeat (first | with_reducible assumption | with_reducible apply updCluster_keeps | intro _ | with_reducible apply Keeps.ite | simp only [Keeps.upd] | dsimp only | split)

theorem spaceWrite_keeps {s0 : State} (p : PartId) (space off : Nat) (b : Bytes) (s : State) (hk : Keeps s0 s) : Keeps s0 (spaceWrite p space off b s) := by
  unfold spaceWrite
  repeat (first | with_reducible assumption | with_reducible apply charge_keeps | with_reducible apply hbmWrite_keeps | with_reducible apply updPart_keeps | intro _ | with_reducible apply Keeps.ite | simp only [Keeps.upd] | dsimp only | split)

theorem spaceMark_keeps {s0 : State} (p : PartId) (space off n : Nat) (s : State) (h : Keeps s0 s) : Keeps s0 (spaceMark p space off n s) := by
  unfold spaceMark
  split
  · dsimp only
    apply cntPart_keeps
    exact ⟨h.hbm, fun w => tabWf_markRange _ _ _ (h.poison w), h.err, h.flash, h.syc, h.fuses, h.pending, h.out, h.free⟩
  · repeat (first | with_reducible assumption | with_reducible apply cntPart_keeps | with_reducible apply updPart_keeps | intro _ | with_reducible apply Keeps.ite | simp only [Keeps.upd] | dsimp only | split)
  · repeat (first | with_reducible assumption | with_reducible apply cntPart_keeps | with_reducible apply updPart_keeps | intro _ | with_reducible apply Keeps.ite | simp only [Keeps.upd] | dsimp only | split)
  · exact h

theorem updSlot_keeps {s0 : State} (p : PartId) (i : Nat) (f : Slot → Slot) (s : State) (hk : Keeps s0 s) : Keeps s0 (updSlot p i f s) := by
  unfold updSlot
  repeat (first | with_reducible assumption | with_reducible apply updPart_keeps | intro _ | with_reducible apply Keeps.ite | simp only [Keeps.upd] | dsimp only | split)

theorem sycSetAt_keeps {s0 : State} (p : PartId) (i v : Nat) (s : State) (hk : Keeps s0 s) : Keeps s0 (sycSetAt p i v s) := by
  unfold sycSetAt
  repeat (first | with_reducible assumption | intro _ | with_reducible apply Keeps.ite | with_reducible apply Keeps.sycSet | simp only [Keeps.upd] | dsimp only | split)

theorem nondet_keeps {s0 : State} (p : PartId) (s : State) (hk : Keeps s0 s) : Keeps s0 (nondet p s) := by
  unfold nondet
  repeat (first | with_reducible assumption | with_reducible apply cntPart64_keeps | with_reducible apply updJob_keeps | intro _ | with_reducible apply Keeps.ite | simp only [Keeps.upd] | dsimp only | split)

theorem outside_keeps {s0 : State} (p : PartId) (bit : Nat) (s : State) (hk : Keeps s0 s) : Keeps s0 (outside p bit s) := by
  unfold outside
  repeat (first | with_reducible assumption | with_reducible apply updJob_keeps | intro _ | with_reducible apply Keeps.ite | simp only [Keeps.upd] | dsimp only | split)

theorem clauseWrite_keeps {s0 : State} (p : PartId) (td : Bytes) (pos rank : Nat) (b : Bytes) (s : State) (hk : Keeps s0 s) : Keeps s0 (clauseWrite p td pos rank b s) := by
  unfold clauseWrite
  repeat (first | with_reducible assumption | with_reducible apply spaceWrite_keeps | intro _ | with_reducible apply Keeps.ite | simp only [Keeps.upd] | dsimp only | split)

theorem noteResolved_keeps {s0 : State} (p : PartId) (td : Bytes) (pos : Nat) (r : Bytes) (s : State) (hk : Keeps s0 s) : Keeps s0 (noteResolved p td pos r s) := by
  unfold noteResolved
  repeat (first | with_reducible assumption | with_reducible apply updPart_keeps | intro _ | with_reducible apply Keeps.ite | simp only [Keeps.upd] | dsimp only | split)

theorem clauseFlag_keeps {s0 : State} (p : PartId) (slot rank bits : Nat) (s : State) (hk : Keeps s0 s) : Keeps s0 (clauseFlag p slot rank bits s) := by
  unfold clauseFlag
  repeat (first | with_reducible assumption | with_reducible apply clauseWrite_keeps | intro _ | with_reducible apply Keeps.ite | simp only [Keeps.upd] | dsimp only | split)

theorem clauseHome_keeps {s0 : State} (p : PartId) (slot rank reason : Nat) (s : State) (hk : Keeps s0 s) : Keeps s0 (clauseHome p slot rank reason s) := by
  unfold clauseHome
  repeat (first | with_reducible assumption | with_reducible apply clauseWrite_keeps | intro _ | with_reducible apply Keeps.ite | simp only [Keeps.upd] | dsimp only | split)

theorem roundSlot_keeps {s0 : State} (p : PartId) (i : Nat) (s : State) (hk : Keeps s0 s) : Keeps s0 (roundSlot p i s) := by
  unfold roundSlot
  repeat (first | with_reducible assumption | with_reducible apply updSlot_keeps | with_reducible apply cntPart_keeps | intro _ | with_reducible apply Keeps.ite | simp only [Keeps.upd] | dsimp only | split)

theorem contribute_keeps {s0 : State} (p : PartId) (tag partEpoch slotGen : Nat) (y : Option (List Nat)) (poison home : Bool) (s : State) (hk : Keeps s0 s) : Keeps s0 (contribute p tag partEpoch slotGen y poison home s) := by
  unfold contribute
  repeat (first | with_reducible assumption | with_reducible apply cntPart_keeps | with_reducible apply updSlot_keeps | with_reducible apply cntPart64_keeps | with_reducible apply nondet_keeps | with_reducible apply setRegPart_keeps | with_reducible apply updConj_keeps | with_reducible apply roundSlot_keeps | with_reducible apply Keeps.foldl | intro _ | with_reducible apply Keeps.ite | with_reducible apply Keeps.iteSnd | with_reducible apply Keeps.iteFst | simp only [Keeps.upd] | dsimp only | split)

theorem returnCredit_keeps {s0 : State} (l : LinkId) (vc : Nat) (b : Bytes) (s : State) (hk : Keeps s0 s) : Keeps s0 (returnCredit l vc b s) := by
  unfold returnCredit
  repeat (first | with_reducible assumption | with_reducible apply idleFlit_keeps | intro _ | with_reducible apply Keeps.ite | simp only [Keeps.upd] | dsimp only | split)

theorem leavePool_keeps {s0 : State} (src : DevId) (path : Path) (b : Bytes) (s : State) (hk : Keeps s0 s) : Keeps s0 (leavePool src path b s) := by
  unfold leavePool
  repeat (first | with_reducible assumption | with_reducible apply returnCredit_keeps | with_reducible apply updLink_keeps | with_reducible apply updPlane_keeps | intro _ | with_reducible apply Keeps.ite | with_reducible apply Keeps.iteSnd | with_reducible apply Keeps.iteFst | simp only [Keeps.upd] | dsimp only | split)

theorem updRows_keeps {s0 : State} (p : PartId) (f : List RowRec → List RowRec) (s : State) (hk : Keeps s0 s) : Keeps s0 (updRows p f s) := by
  unfold updRows
  repeat (first | with_reducible assumption | with_reducible apply updPart_keeps | intro _ | with_reducible apply Keeps.ite | simp only [Keeps.upd] | dsimp only | split)

theorem updRow_keeps {s0 : State} (p : PartId) (tag : Nat) (f : RowRec → RowRec) (s : State) (hk : Keeps s0 s) : Keeps s0 (updRow p tag f s) := by
  unfold updRow
  repeat (first | with_reducible assumption | with_reducible apply updRows_keeps | intro _ | with_reducible apply Keeps.ite | simp only [Keeps.upd] | dsimp only | split)

theorem dropRow_keeps {s0 : State} (p : PartId) (tag : Nat) (s : State) (hk : Keeps s0 s) : Keeps s0 (dropRow p tag s) := by
  unfold dropRow
  repeat (first | with_reducible assumption | with_reducible apply updRows_keeps | with_reducible apply eachOf_keeps | with_reducible apply leavePool_keeps | intro _ | with_reducible apply Keeps.ite | simp only [Keeps.upd] | dsimp only | split)

theorem updStep_keeps {s0 : State} (p : PartId) (r : RowRec) (f : Conj → Conj) (s : State) (hk : Keeps s0 s) : Keeps s0 (updStep p r f s) := by
  unfold updStep
  repeat (first | with_reducible assumption | with_reducible apply updPart_keeps | intro _ | with_reducible apply Keeps.ite | simp only [Keeps.upd] | dsimp only | split)

theorem noteOverflow_keeps {s0 : State} (p : PartId) (r : RowRec) (s : State) (hk : Keeps s0 s) : Keeps s0 (noteOverflow p r s) := by
  unfold noteOverflow
  repeat (first | with_reducible assumption | with_reducible apply cntPart_keeps | with_reducible apply record_keeps | with_reducible apply updStep_keeps | intro _ | with_reducible apply Keeps.ite | simp only [Keeps.upd] | dsimp only | split)

theorem sendDrop_keeps {s0 : State} (p : PartId) (r : RowRec) (s : State) (hk : Keeps s0 s) : Keeps s0 (sendDrop p r s) := by
  unfold sendDrop
  repeat (first | with_reducible assumption | with_reducible apply clauseFlag_keeps | with_reducible apply updSlot_keeps | with_reducible apply contribute_keeps | with_reducible apply cntPart_keeps | with_reducible apply sendPacket_keeps | intro _ | with_reducible apply Keeps.ite | simp only [Keeps.upd] | dsimp only | split)

theorem dropClause_keeps {s0 : State} (p : PartId) (r : RowRec) (s : State) (hk : Keeps s0 s) : Keeps s0 (dropClause p r s) := by
  unfold dropClause
  repeat (first | with_reducible assumption | with_reducible apply sendDrop_keeps | with_reducible apply cntPart_keeps | with_reducible apply dropRow_keeps | intro _ | with_reducible apply Keeps.ite | simp only [Keeps.upd] | dsimp only | split)

theorem overflowRow_keeps {s0 : State} (p : PartId) (r : RowRec) (s : State) (hk : Keeps s0 s) : Keeps s0 (overflowRow p r s) := by
  unfold overflowRow
  repeat (first | with_reducible assumption | with_reducible apply updRow_keeps | with_reducible apply noteOverflow_keeps | with_reducible apply dropClause_keeps | with_reducible apply clauseFlag_keeps | intro _ | with_reducible apply Keeps.ite | simp only [Keeps.upd] | dsimp only | split)

theorem ballastMark_keeps {s0 : State} (p : PartId) (s : State) (hk : Keeps s0 s) : Keeps s0 (ballastMark p s) := by
  unfold ballastMark
  repeat (first | with_reducible assumption | with_reducible apply setRegPart_keeps | intro _ | with_reducible apply Keeps.ite | simp only [Keeps.upd] | dsimp only | split)

theorem admitGust_keeps {s0 : State} (p : PartId) (r : RowRec) (cap : Nat) (s : State) (hk : Keeps s0 s) : Keeps s0 (admitGust p r cap s) := by
  unfold admitGust
  repeat (first | with_reducible assumption | with_reducible apply overflowRow_keeps | with_reducible apply nondet_keeps | with_reducible apply updStep_keeps | intro _ | with_reducible apply Keeps.ite | simp only [Keeps.upd] | dsimp only | split)

theorem admitRow_keeps {s0 : State} (p : PartId) (r : RowRec) (s : State) (hk : Keeps s0 s) : Keeps s0 (admitRow p r s) := by
  unfold admitRow
  repeat (first | with_reducible assumption | with_reducible apply updStep_keeps | with_reducible apply ballastMark_keeps | with_reducible apply updRow_keeps | with_reducible apply charge_keeps | with_reducible apply admitGust_keeps | intro _ | with_reducible apply Keeps.ite | with_reducible apply Keeps.iteSnd | with_reducible apply Keeps.iteFst | simp only [Keeps.upd] | dsimp only | split)

theorem storeRow_keeps {s0 : State} (p : PartId) (r : RowRec) (s : State) (hk : Keeps s0 s) : Keeps s0 (storeRow p r s) := by
  unfold storeRow
  repeat (first | with_reducible assumption | with_reducible apply cntPart64_keeps | with_reducible apply admitRow_keeps | with_reducible apply updRows_keeps | intro _ | with_reducible apply Keeps.ite | simp only [Keeps.upd] | dsimp only | split)

theorem storeWaiting_keeps {s0 : State} (p : PartId) : ∀ (x0 : Nat) (s : State), Keeps s0 s → Keeps s0 (storeWaiting p x0 s)
  | 0, s, h => by
    unfold storeWaiting
    repeat (first | with_reducible assumption | with_reducible apply updRow_keeps | with_reducible apply leavePool_keeps | with_reducible apply charge_keeps | with_reducible apply ballastMark_keeps | intro _ | with_reducible apply Keeps.ite | simp only [Keeps.upd] | dsimp only | split)
  | n + 1, s, h => by
    unfold storeWaiting
    repeat (first | with_reducible assumption | with_reducible apply storeWaiting_keeps | with_reducible apply updRow_keeps | with_reducible apply leavePool_keeps | with_reducible apply charge_keeps | with_reducible apply ballastMark_keeps | intro _ | with_reducible apply Keeps.ite | simp only [Keeps.upd] | dsimp only | split)

theorem noteStalls_keeps {s0 : State} (p : PartId) (s : State) (hk : Keeps s0 s) : Keeps s0 (noteStalls p s) := by
  unfold noteStalls
  repeat (first | with_reducible assumption | with_reducible apply cntPart_keeps | with_reducible apply updRows_keeps | intro _ | with_reducible apply Keeps.ite | simp only [Keeps.upd] | dsimp only | split)

theorem settleRows_keeps {s0 : State} (p : PartId) (s : State) (hk : Keeps s0 s) : Keeps s0 (settleRows p s) := by
  unfold settleRows
  repeat (first | with_reducible assumption | with_reducible apply noteStalls_keeps | with_reducible apply storeWaiting_keeps | intro _ | with_reducible apply Keeps.ite | simp only [Keeps.upd] | dsimp only | split)

end Sys2Proof.Laws
end

