-- ==== Sys2Proof/Laws/Keeps2.lean ====
section
/-!
SUPPORT. Keeps2.lean: what every operation keeps, one lemma per operation, in the order of the definitions (2 of 5).
Keeps s t: the memories of t are in canonical form if those of s are, no fuse is unburned, the queue is untouched, what was sent stays, the counter of free values does not fall.
-/
set_option linter.all false
namespace Sys2Proof.Laws
open Sys2Proof Sys2Proof.Machine Sys2Proof.Safety

theorem holdFault_keeps {s0 : State} (p : PartId) (tags : List Nat) (e : ErrRec) (s : State) (hk : Keeps s0 s) : Keeps s0 (holdFault p tags e s) := by
  unfold holdFault
  repeat (first | with_reducible assumption | with_reducible apply updRows_keeps | with_reducible apply Keeps.bumpFree | with_reducible apply Keeps.freeUp | intro _ | with_reducible apply Keeps.ite | simp only [Keeps.upd] | dsimp only | split)

theorem returnResult_keeps {s0 : State} (p : PartId) (r : RowRec) (tag weight : Nat) (d : List Nat) (poison : Bool) (s : State) (hk : Keeps s0 s) : Keeps s0 (returnResult p r tag weight d poison s) := by
  unfold returnResult
  repeat (first | with_reducible assumption | with_reducible apply contribute_keeps | with_reducible apply cntPart64_keeps | with_reducible apply sendPacket_keeps | intro _ | with_reducible apply Keeps.ite | simp only [Keeps.upd] | dsimp only | split)

theorem suppressFault_keeps {s0 : State} (p : PartId) (r : RowRec) (s : State) (hk : Keeps s0 s) : Keeps s0 (suppressFault p r s) := by
  unfold suppressFault
  repeat (first | with_reducible assumption | with_reducible apply eachOf_keeps | with_reducible apply suppress_keeps | intro _ | with_reducible apply Keeps.ite | with_reducible apply Keeps.iteSnd | with_reducible apply Keeps.iteFst | simp only [Keeps.upd] | dsimp only | split)

theorem confirmFault_keeps {s0 : State} (p : PartId) (r : RowRec) (s : State) (hk : Keeps s0 s) : Keeps s0 (confirmFault p r s) := by
  unfold confirmFault
  repeat (first | with_reducible assumption | with_reducible apply eachOf_keeps | with_reducible apply updRows_keeps | with_reducible apply record_keeps | with_reducible apply cntPart_keeps | intro _ | with_reducible apply Keeps.ite | with_reducible apply Keeps.iteSnd | with_reducible apply Keeps.iteFst | simp only [Keeps.upd] | dsimp only | split)

theorem uncount_keeps {s0 : State} (p : PartId) (r : RowRec) (s : State) (hk : Keeps s0 s) : Keeps s0 (uncount p r s) := by
  unfold uncount
  repeat (first | with_reducible assumption | with_reducible apply updStep_keeps | intro _ | with_reducible apply Keeps.ite | simp only [Keeps.upd] | dsimp only | split)

theorem orphanRow_keeps {s0 : State} (p : PartId) (r : RowRec) (s : State) (hk : Keeps s0 s) : Keeps s0 (orphanRow p r s) := by
  unfold orphanRow
  repeat (first | with_reducible assumption | with_reducible apply cntPart_keeps | with_reducible apply suppressFault_keeps | with_reducible apply uncount_keeps | with_reducible apply dropRow_keeps | intro _ | with_reducible apply Keeps.ite | simp only [Keeps.upd] | dsimp only | split)

theorem freeRowsOf_keeps {s0 : State} (d : DevId) (p : PartId) (s : State) (hk : Keeps s0 s) : Keeps s0 (freeRowsOf d p s) := by
  unfold freeRowsOf
  repeat (first | with_reducible assumption | with_reducible apply updPart_keeps | with_reducible apply eachOf_keeps | with_reducible apply orphanRow_keeps | with_reducible apply dropRow_keeps | intro _ | with_reducible apply Keeps.ite | simp only [Keeps.upd] | dsimp only | split)

theorem confirmRow_keeps {s0 : State} (p : PartId) (r : RowRec) (rank weight : Nat) (s : State) (hk : Keeps s0 s) : Keeps s0 (confirmRow p r rank weight s) := by
  unfold confirmRow
  repeat (first | with_reducible assumption | with_reducible apply updRow_keeps | with_reducible apply confirmFault_keeps | with_reducible apply overflowRow_keeps | intro _ | with_reducible apply Keeps.ite | simp only [Keeps.upd] | dsimp only | split)

theorem releaseRow_keeps {s0 : State} (p : PartId) (r : RowRec) (rank weight : Nat) (s : State) (hk : Keeps s0 s) : Keeps s0 (releaseRow p r rank weight s) := by
  unfold releaseRow
  repeat (first | with_reducible assumption | with_reducible apply cntPart_keeps | with_reducible apply returnResult_keeps | with_reducible apply dropRow_keeps | intro _ | with_reducible apply Keeps.ite | simp only [Keeps.upd] | dsimp only | split)

theorem applyVerdict_keeps {s0 : State} (p : PartId) (tag : Nat) (confirm : Bool) (rank weight : Nat) (s : State) (hk : Keeps s0 s) : Keeps s0 (applyVerdict p tag confirm rank weight s) := by
  unfold applyVerdict
  repeat (first | with_reducible assumption | with_reducible apply updRow_keeps | with_reducible apply confirmRow_keeps | with_reducible apply suppressFault_keeps | with_reducible apply uncount_keeps | with_reducible apply dropRow_keeps | with_reducible apply releaseRow_keeps | with_reducible apply cntPart_keeps | intro _ | with_reducible apply Keeps.ite | simp only [Keeps.upd] | dsimp only | split)

theorem sendClause_keeps {s0 : State} (p : PartId) (c : Conj) (x : Clause) (s : State) (hk : Keeps s0 s) : Keeps s0 (sendClause p c x s) := by
  unfold sendClause
  repeat (first | with_reducible assumption | with_reducible apply storeRow_keeps | with_reducible apply cntPart64_keeps | with_reducible apply sendPacketAs_keeps | intro _ | with_reducible apply Keeps.ite | simp only [Keeps.upd] | dsimp only | split)

theorem issueClause_keeps {s0 : State} (p : PartId) (x : Clause) (s : State) (hk : Keeps s0 s) : Keeps s0 (issueClause p x s) := by
  unfold issueClause
  repeat (first | with_reducible assumption | with_reducible apply updConj_keeps | with_reducible apply sendClause_keeps | intro _ | with_reducible apply Keeps.ite | simp only [Keeps.upd] | dsimp only | split)

theorem homeClause_keeps {s0 : State} (p : PartId) (x : Clause) (reason : Nat) (s : State) (hk : Keeps s0 s) : Keeps s0 (homeClause p x reason s) := by
  unfold homeClause
  repeat (first | with_reducible assumption | with_reducible apply clauseHome_keeps | with_reducible apply outside_keeps | with_reducible apply record_keeps | with_reducible apply updConj_keeps | with_reducible apply cntDev_keeps | with_reducible apply issueClause_keeps | intro _ | with_reducible apply Keeps.ite | simp only [Keeps.upd] | dsimp only | split)

theorem withdrawSpecs_keeps {s0 : State} (p : PartId) (s : State) (hk : Keeps s0 s) : Keeps s0 (withdrawSpecs p s) := by
  unfold withdrawSpecs
  repeat (first | with_reducible assumption | with_reducible apply eachOf_keeps | with_reducible apply cntPart64_keeps | with_reducible apply cntPart_keeps | with_reducible apply withdrawRow_keeps | intro _ | with_reducible apply Keeps.ite | simp only [Keeps.upd] | dsimp only | split)

theorem noteUnadmitted_keeps {s0 : State} (p : PartId) (c : Conj) (x : Clause) (admitted : Option Bool) (s : State) (hk : Keeps s0 s) : Keeps s0 (noteUnadmitted p c x admitted s) := by
  unfold noteUnadmitted
  repeat (first | with_reducible assumption | with_reducible apply nondet_keeps | with_reducible refine takeFree_keeps (by with_reducible assumption) ?_ | with_reducible apply takeFree_snd_keeps | intro _ | with_reducible apply Keeps.ite | with_reducible apply Keeps.iteSnd | with_reducible apply Keeps.iteFst | simp only [Keeps.upd] | dsimp only | split)

theorem lateHome_keeps {s0 : State} (p : PartId) (x : Clause) (s : State) (hk : Keeps s0 s) : Keeps s0 (lateHome p x s) := by
  unfold lateHome
  repeat (first | with_reducible assumption | with_reducible apply homeClause_keeps | with_reducible apply cntPart_keeps | intro _ | with_reducible apply Keeps.ite | simp only [Keeps.upd] | dsimp only | split)

theorem reissueClause_clauseRes_keeps {s0 : State} (p : PartId) (x : Clause) (d : DevId) (k : Nat) (s : State) (hk : Keeps s0 s) :
    Keeps s0 (reissueClause.clauseRes p x d k s) := by
  unfold reissueClause.clauseRes
  repeat (first | with_reducible assumption | with_reducible apply updConj_keeps | with_reducible apply outside_keeps | with_reducible apply homeClause_keeps | with_reducible apply cntPart_keeps | with_reducible apply issueClause_keeps | with_reducible apply clauseWrite_keeps | intro _ | with_reducible apply Keeps.ite | simp only [Keeps.upd] | dsimp only | split)

theorem reissueClause_keeps {s0 : State} (p : PartId) (x : Clause) (bad : Option DevId) (admitted : Option Bool) (s : State) (hk : Keeps s0 s) : Keeps s0 (reissueClause p x bad admitted s) := by
  unfold reissueClause
  repeat (first | with_reducible assumption | with_reducible apply updConj_keeps | with_reducible apply noteUnadmitted_keeps | with_reducible apply jobFault_keeps | with_reducible apply lateHome_keeps | with_reducible apply outside_keeps | with_reducible apply reissueClause_clauseRes_keeps | with_reducible apply cntPart_keeps | with_reducible apply issueClause_keeps | with_reducible apply homeClause_keeps | intro _ | with_reducible apply Keeps.ite | simp only [Keeps.upd] | dsimp only | split)

theorem reissueTo_keeps {s0 : State} (p : PartId) (d : DevId) (s : State) (hk : Keeps s0 s) : Keeps s0 (reissueTo p d s) := by
  unfold reissueTo
  repeat (first | with_reducible assumption | with_reducible apply eachOf_keeps | with_reducible apply reissueClause_keeps | intro _ | with_reducible apply Keeps.ite | simp only [Keeps.upd] | dsimp only | split)

theorem dropHeld_keeps {s0 : State} (d : DevId) (p : PartId) (gone : HeldPkt → Bool) (s : State) (hk : Keeps s0 s) : Keeps s0 (dropHeld d p gone s) := by
  unfold dropHeld
  repeat (first | with_reducible assumption | with_reducible apply updFlow_keeps | with_reducible apply eachOf_keeps | with_reducible apply leavePool_keeps | intro _ | with_reducible apply Keeps.ite | simp only [Keeps.upd] | dsimp only | split)

theorem dropForwarded_keeps {s0 : State} (d : DevId) (s : State) (hk : Keeps s0 s) : Keeps s0 (dropForwarded d s) := by
  unfold dropForwarded
  repeat (first | with_reducible assumption | intro _ | with_reducible apply Keeps.ite | simp only [Keeps.upd] | dsimp only | split)

theorem markUnreachable_keeps {s0 : State} (d : DevId) (s : State) (hk : Keeps s0 s) : Keeps s0 (markUnreachable d s) := by
  unfold markUnreachable
  repeat (first | with_reducible assumption | with_reducible apply dropForwarded_keeps | with_reducible apply cntDev_keeps | with_reducible apply updPeer_keeps | with_reducible apply eachOf_keeps | with_reducible apply dropHeld_keeps | with_reducible apply reissueTo_keeps | with_reducible apply orphanRow_keeps | intro _ | with_reducible apply Keeps.ite | simp only [Keeps.upd] | dsimp only | split)

theorem markReachable_keeps {s0 : State} (d : DevId) (s : State) (hk : Keeps s0 s) : Keeps s0 (markReachable d s) := by
  unfold markReachable
  repeat (first | with_reducible assumption | with_reducible apply drainOut_keeps | with_reducible apply cntDev_keeps | with_reducible apply updPeer_keeps | intro _ | with_reducible apply Keeps.ite | simp only [Keeps.upd] | dsimp only | split)

theorem showEpoch_keeps {s0 : State} (d : DevId) (e : Nat) (s : State) (hk : Keeps s0 s) : Keeps s0 (showEpoch d e s) := by
  unfold showEpoch
  repeat (first | with_reducible assumption | with_reducible apply updPeer_keeps | with_reducible apply markReachable_keeps | intro _ | with_reducible apply Keeps.ite | simp only [Keeps.upd] | dsimp only | split)

theorem judgeReach_keeps {s0 : State} (s : State) (hk : Keeps s0 s) : Keeps s0 (judgeReach s) := by
  unfold judgeReach
  repeat (first | with_reducible assumption | with_reducible apply eachOf_keeps | with_reducible apply markUnreachable_keeps | intro _ | with_reducible apply Keeps.ite | simp only [Keeps.upd] | dsimp only | split)

theorem relayReach_keeps {s0 : State} (before : State) (s : State) (hk : Keeps s0 s) : Keeps s0 (relayReach before s) := by
  unfold relayReach
  repeat (first | with_reducible assumption | with_reducible apply eachOf_keeps | with_reducible apply markReachable_keeps | intro _ | with_reducible apply Keeps.ite | simp only [Keeps.upd] | dsimp only | split)

theorem dropTraffic_keeps {s0 : State} (d : DevId) (s : State) (hk : Keeps s0 s) : Keeps s0 (dropTraffic d s) := by
  unfold dropTraffic
  repeat (first | with_reducible assumption | intro _ | with_reducible apply Keeps.ite | with_reducible apply Keeps.iteSnd | with_reducible apply Keeps.iteFst | simp only [Keeps.upd] | dsimp only | split)

theorem learnStart_keeps {s0 : State} (d : DevId) (id : Nat) (s : State) (hk : Keeps s0 s) : Keeps s0 (learnStart d id s) := by
  unfold learnStart
  repeat (first | with_reducible assumption | with_reducible apply updPeer_keeps | with_reducible apply dropTraffic_keeps | with_reducible apply eachOf_keeps | with_reducible apply freeRowsOf_keeps | with_reducible apply updFlow_keeps | with_reducible apply dropHeld_keeps | intro _ | with_reducible apply Keeps.ite | simp only [Keeps.upd] | dsimp only | split)

theorem seeEpoch_keeps {s0 t : State} {d : DevId} {p : PartId} {e : Nat} {s : State} (e : seeEpoch d p e s = some t) (hk : Keeps s0 s) : Keeps s0 t := by
  unfold seeEpoch at e
  (try dsimp only at e)
  repeat' split at e
  all_goals (try cases e)
  all_goals repeat (first | with_reducible assumption | with_reducible apply updFlow_keeps | with_reducible apply freeRowsOf_keeps | with_reducible apply dropHeld_keeps | intro _ | with_reducible apply Keeps.ite | simp only [Keeps.upd] | dsimp only | split)

theorem sendPair_keeps {s0 : State} (h : PairHead) (payload : Bytes) (s : State) (hk : Keeps s0 s) : Keeps s0 (sendPair h payload s) := by
  unfold sendPair
  repeat (first | with_reducible assumption | with_reducible apply emit_keeps | with_reducible apply sendPairLink_keeps | intro _ | with_reducible apply Keeps.ite | simp only [Keeps.upd] | dsimp only | split)

theorem pairHello_keeps {s0 : State} (s : State) (hk : Keeps s0 s) : Keeps s0 (pairHello s) := by
  unfold pairHello
  repeat (first | with_reducible assumption | with_reducible apply sendPair_keeps | intro _ | with_reducible apply Keeps.ite | simp only [Keeps.upd] | dsimp only | split)

theorem pairActive_keeps {s0 : State} (s : State) (hk : Keeps s0 s) : Keeps s0 (pairActive s) := by
  unfold pairActive
  repeat (first | with_reducible assumption | with_reducible apply pairHello_keeps | intro _ | with_reducible apply Keeps.ite | simp only [Keeps.upd] | dsimp only | split)

theorem mirrorDesc_keeps {s0 : State} (p : PartId) (st : StreamId) (idx : Nat) (d : Bytes) (s : State) (hk : Keeps s0 s) : Keeps s0 (mirrorDesc p st idx d s) := by
  unfold mirrorDesc
  repeat (first | with_reducible assumption | with_reducible apply sendPair_keeps | intro _ | with_reducible apply Keeps.ite | simp only [Keeps.upd] | dsimp only | split)

theorem modelsSection_keeps {s0 t : State} {v : Bytes} {s : State} {p : PartId} (e : modelsSection s p = (v, t)) (hk : Keeps s0 s) : Keeps s0 t := by
  unfold modelsSection at e
  (try dsimp only at e)
  repeat' split at e
  all_goals (try cases e)
  all_goals repeat (first | with_reducible assumption | with_reducible refine takeFree_keeps (by with_reducible assumption) ?_ | with_reducible apply takeFree_snd_keeps | intro _ | with_reducible apply Keeps.ite | with_reducible apply Keeps.iteSnd | with_reducible apply Keeps.iteFst | simp only [Keeps.upd] | dsimp only | split)

theorem modelsSection_snd_keeps {s0 : State} (s : State) (p : PartId) (hk : Keeps s0 s) : Keeps s0 (modelsSection s p).2 :=
  modelsSection_keeps (Prod.eta _).symm hk

theorem captureBoundary_keeps {s0 : State} (p : PartId) (s : State) (hk : Keeps s0 s) : Keeps s0 (captureBoundary p s) := by
  unfold captureBoundary
  repeat (first | with_reducible assumption | with_reducible refine modelsSection_keeps (by with_reducible assumption) ?_ | with_reducible apply modelsSection_snd_keeps | with_reducible apply updPart_keeps | intro _ | with_reducible apply Keeps.ite | with_reducible apply Keeps.iteSnd | with_reducible apply Keeps.iteFst | with_reducible apply Keeps.sycSet | simp only [Keeps.upd] | dsimp only | split)

theorem sendSnap_keeps {s0 : State} (p : PartId) (epoch : Nat) : ∀ (x0 : Nat) (x1 : Nat) (x2 : Bytes) (s : State), Keeps s0 s → Keeps s0 (sendSnap p epoch x0 x1 x2 s)
  | 0, _x1, _x2, s, h => by
    unfold sendSnap
    repeat (first | with_reducible assumption | with_reducible apply sendPair_keeps | intro _ | with_reducible apply Keeps.ite | simp only [Keeps.upd] | dsimp only | split)
  | fuel + 1, off, b, s, h => by
    unfold sendSnap
    repeat (first | with_reducible assumption | with_reducible apply sendSnap_keeps | with_reducible apply sendPair_keeps | intro _ | with_reducible apply Keeps.ite | simp only [Keeps.upd] | dsimp only | split)

theorem freeSlots_keeps {s0 : State} (p : PartId) (first count : Nat) (s : State) (hk : Keeps s0 s) : Keeps s0 (freeSlots p first count s) := by
  unfold freeSlots
  repeat (first | with_reducible assumption | with_reducible apply updPart_keeps | intro _ | with_reducible apply Keeps.ite | with_reducible apply Keeps.iteSnd | with_reducible apply Keeps.iteFst | simp only [Keeps.upd] | dsimp only | split)

theorem issueRecord_keeps {s0 : State} (p : PartId) (addr : Nat) (record : Bytes) (first count : Nat) (s : State) (hk : Keeps s0 s) : Keeps s0 (issueRecord p addr record first count s) := by
  unfold issueRecord
  repeat (first | with_reducible assumption | with_reducible apply wakeEvent_keeps | with_reducible apply dmaPush_keeps | with_reducible apply record_keeps | with_reducible apply freeSlots_keeps | with_reducible apply updPart_keeps | intro _ | with_reducible apply Keeps.ite | simp only [Keeps.upd] | dsimp only | split)

theorem issueStaged_keeps {s0 : State} (p : PartId) (x : Staged) (s : State) (hk : Keeps s0 s) : Keeps s0 (issueStaged p x s) := by
  unfold issueStaged
  repeat (first | with_reducible assumption | with_reducible apply updPart_keeps | with_reducible apply issueRecord_keeps | with_reducible apply msixPart_keeps | intro _ | with_reducible apply Keeps.ite | simp only [Keeps.upd] | dsimp only | split)

theorem issueWhile_keeps {s0 : State} (p : PartId) (ok : Staged → Bool) (s : State) (hk : Keeps s0 s) : Keeps s0 (issueWhile p ok s) := by
  unfold issueWhile
  repeat (first | with_reducible assumption | with_reducible apply eachOf_keeps | with_reducible apply issueStaged_keeps | intro _ | with_reducible apply Keeps.ite | simp only [Keeps.upd] | dsimp only | split)

theorem settleReleased_keeps {s0 : State} (p : PartId) (s : State) (hk : Keeps s0 s) : Keeps s0 (settleReleased p s) := by
  unfold settleReleased
  repeat (first | with_reducible assumption | with_reducible apply updPart_keeps | intro _ | with_reducible apply Keeps.ite | simp only [Keeps.upd] | dsimp only | split)

theorem uncover_keeps {s0 : State} (p : PartId) (s : State) (hk : Keeps s0 s) : Keeps s0 (uncover p s) := by
  unfold uncover
  repeat (first | with_reducible assumption | with_reducible apply updPart_keeps | with_reducible apply settleReleased_keeps | with_reducible apply issueWhile_keeps | intro _ | with_reducible apply Keeps.ite | simp only [Keeps.upd] | dsimp only | split)

theorem sendSnapshot_keeps {s0 : State} (p : PartId) (kind : Nat) (s : State) (hk : Keeps s0 s) : Keeps s0 (sendSnapshot p kind s) := by
  unfold sendSnapshot
  repeat (first | with_reducible assumption | with_reducible apply updPart_keeps | with_reducible apply captureBoundary_keeps | with_reducible apply uncover_keeps | with_reducible apply sendSnap_keeps | intro _ | with_reducible apply Keeps.ite | simp only [Keeps.upd] | dsimp only | split)

theorem jobEndSnapshot_keeps {s0 : State} (p : PartId) (s : State) (hk : Keeps s0 s) : Keeps s0 (jobEndSnapshot p s) := by
  unfold jobEndSnapshot
  repeat (first | with_reducible assumption | with_reducible apply sendSnapshot_keeps | with_reducible apply captureBoundary_keeps | intro _ | with_reducible apply Keeps.ite | simp only [Keeps.upd] | dsimp only | split)

theorem markGranule_keeps {s0 : State} (g : Nat) (s : State) (h : Keeps s0 s) : Keeps s0 (markGranule g s) := by
  have w : Keeps s0 { s with hbmPoison := tabSet false g true s.hbmPoison } :=
    ⟨h.hbm, fun w => tabWf_tabSet false g true s.hbmPoison (h.poison w), h.err, h.flash, h.syc, h.fuses, h.pending, h.out, h.free⟩
  unfold markGranule
  dsimp only
  split
  · split
    · exact cntPart_keeps _ _ _ _ w
    · exact w
  · exact w

theorem updExec_keeps {s0 : State} (p : PartId) (st : StreamId) (f : Exec → Exec) (s : State) (hk : Keeps s0 s) : Keeps s0 (updExec p st f s) := by
  unfold updExec
  repeat (first | with_reducible assumption | with_reducible apply updStream_keeps | intro _ | with_reducible apply Keeps.ite | simp only [Keeps.upd] | dsimp only | split)

theorem noteOnce_keeps {s0 : State} (p : PartId) (st : StreamId) (r : ErrRec) (s : State) (hk : Keeps s0 s) : Keeps s0 (noteOnce p st r s) := by
  unfold noteOnce
  repeat (first | with_reducible assumption | with_reducible apply record_keeps | with_reducible apply updExec_keeps | intro _ | with_reducible apply Keeps.ite | simp only [Keeps.upd] | dsimp only | split)

theorem onCore_keeps {s0 : State} (c : CoreId) (f : CoreSt → CoreSt) (s : State) (hk : Keeps s0 s) : Keeps s0 (onCore c f s) := by
  unfold onCore
  repeat (first | with_reducible assumption | with_reducible apply updCore_keeps | intro _ | with_reducible apply Keeps.ite | with_reducible apply Keeps.iteSnd | with_reducible apply Keeps.iteFst | simp only [Keeps.upd] | dsimp only | split)

theorem flagItem_keeps {s0 : State} (p : PartId) (e : EccFind) (s : State) (hk : Keeps s0 s) : Keeps s0 (flagItem p e s) := by
  unfold flagItem
  repeat (first | with_reducible assumption | with_reducible apply onCore_keeps | with_reducible apply updPart_keeps | with_reducible apply updRow_keeps | with_reducible apply markGranule_keeps | with_reducible apply updSlot_keeps | intro _ | with_reducible apply Keeps.ite | simp only [Keeps.upd] | dsimp only | split)

theorem itemFind_keeps {s0 : State} (p : PartId) (st : StreamId) (tag : Nat) (tags : List Nat) (e : EccFind) (s : State) (hk : Keeps s0 s) : Keeps s0 (itemFind p st tag tags e s) := by
  unfold itemFind
  repeat (first | with_reducible assumption | with_reducible apply noteOnce_keeps | with_reducible apply flagItem_keeps | with_reducible apply holdFault_keeps | intro _ | with_reducible apply Keeps.ite | simp only [Keeps.upd] | dsimp only | split)

theorem meetHbm_keeps {s0 : State} (p : PartId) (tag off n : Nat) (s : State) (hk : Keeps s0 s) : Keeps s0 (meetHbm p tag off n s) := by
  unfold meetHbm
  repeat (first | with_reducible assumption | with_reducible apply eachOf_keeps | with_reducible apply markGranule_keeps | with_reducible apply record_keeps | with_reducible apply cntPart_keeps | with_reducible apply Keeps.errSet | intro _ | with_reducible apply Keeps.ite | simp only [Keeps.upd] | dsimp only | split)

theorem settleMerge_keeps {s0 : State} (p : PartId) (st : StreamId) (tag : Nat) (s : State) (hk : Keeps s0 s) : Keeps s0 (settleMerge p st tag s) := by
  unfold settleMerge
  repeat (first | with_reducible assumption | with_reducible apply eachOf_keeps | with_reducible apply noteOnce_keeps | with_reducible apply markGranule_keeps | with_reducible apply record_keeps | with_reducible apply cntPart_keeps | with_reducible apply Keeps.errSet | intro _ | with_reducible apply Keeps.ite | with_reducible apply Keeps.iteSnd | with_reducible apply Keeps.iteFst | simp only [Keeps.upd] | dsimp only | split)

theorem startFind_keeps {s0 : State} (p : PartId) (st : StreamId) (tag : Nat) (e : EccFind) (s : State) (hk : Keeps s0 s) : Keeps s0 (startFind p st tag e s) := by
  unfold startFind
  repeat (first | with_reducible assumption | with_reducible apply partFault_keeps | with_reducible apply deviceFault_keeps | with_reducible apply jobFault_keeps | with_reducible apply record_keeps | with_reducible apply updPart_keeps | with_reducible apply cntPart_keeps | with_reducible apply itemFind_keeps | intro _ | with_reducible apply Keeps.ite | simp only [Keeps.upd] | dsimp only | split)

theorem startMeets_keeps {s0 : State} (p : PartId) (st : StreamId) (tag : Nat) (s : State) (hk : Keeps s0 s) : Keeps s0 (startMeets p st tag s) := by
  unfold startMeets
  repeat (first | with_reducible assumption | with_reducible apply startFind_keeps | with_reducible apply Keeps.foldl | intro _ | with_reducible apply Keeps.ite | with_reducible apply Keeps.iteSnd | with_reducible apply Keeps.iteFst | simp only [Keeps.upd] | dsimp only | split)

theorem cmdFail_keeps {s0 : State} (p : PartId) (st : StreamId) (d : Bytes) (e : CmdErr) (s : State) (hk : Keeps s0 s) : Keeps s0 (cmdFail p st d e s) := by
  unfold cmdFail
  repeat (first | with_reducible assumption | with_reducible apply settleMerge_keeps | with_reducible apply meetHbm_keeps | with_reducible apply dropHead_keeps | with_reducible apply traceCmd_keeps | with_reducible apply haltQueues_keeps | with_reducible apply record_keeps | with_reducible apply fetchNow_keeps | with_reducible apply jobFault_keeps | intro _ | with_reducible apply Keeps.ite | simp only [Keeps.upd] | dsimp only | split)

theorem discardDesc_keeps {s0 : State} (p : PartId) (s : State) (hk : Keeps s0 s) : Keeps s0 (discardDesc p s) := by
  unfold discardDesc
  repeat (first | with_reducible assumption | with_reducible apply cntPart_keeps | intro _ | with_reducible apply Keeps.ite | simp only [Keeps.upd] | dsimp only | split)

theorem queOverrun_keeps {s0 : State} (p : PartId) (st : StreamId) (s : State) (hk : Keeps s0 s) : Keeps s0 (queOverrun p st s) := by
  unfold queOverrun
  repeat (first | with_reducible assumption | with_reducible apply updStream_keeps | with_reducible apply fetchNow_keeps | with_reducible apply jobFault_keeps | with_reducible apply cntPart_keeps | intro _ | with_reducible apply Keeps.ite | simp only [Keeps.upd] | dsimp only | split)

theorem enterDesc_keeps {s0 : State} (p : PartId) (st : StreamId) (d : Bytes) (s : State) (hk : Keeps s0 s) : Keeps s0 (enterDesc p st d s) := by
  unfold enterDesc
  repeat (first | with_reducible assumption | with_reducible apply discardDesc_keeps | with_reducible apply queOverrun_keeps | with_reducible apply quietExit_keeps | with_reducible apply mirrorDesc_keeps | with_reducible apply updStream_keeps | intro _ | with_reducible apply Keeps.ite | simp only [Keeps.upd] | dsimp only | split)

theorem takeCmd_keeps {s0 t : State} {v : Option Bytes} {p : PartId} {st : StreamId} {op : Nat} {s : State} (e : takeCmd p st op s = (v, t)) (hk : Keeps s0 s) : Keeps s0 t := by
  unfold takeCmd at e
  (try dsimp only at e)
  repeat' split at e
  all_goals (try cases e)
  all_goals repeat (first | with_reducible assumption | with_reducible apply charge_keeps | with_reducible apply updStream_keeps | with_reducible apply hbmHold_keeps | with_reducible apply hbmGo_keeps | with_reducible apply startMeets_keeps | with_reducible apply traceCmd_keeps | with_reducible apply cmdFail_keeps | intro _ | with_reducible apply Keeps.ite | simp only [Keeps.upd] | dsimp only | split)

theorem takeCmd_snd_keeps {s0 : State} (p : PartId) (st : StreamId) (op : Nat) (s : State) (hk : Keeps s0 s) : Keeps s0 (takeCmd p st op s).2 :=
  takeCmd_keeps (Prod.eta _).symm hk

theorem cmdDone_keeps {s0 : State} (p : PartId) (st : StreamId) (s : State) (hk : Keeps s0 s) : Keeps s0 (cmdDone p st s) := by
  unfold cmdDone
  repeat (first | with_reducible assumption | with_reducible apply updExec_keeps | intro _ | with_reducible apply Keeps.ite | simp only [Keeps.upd] | dsimp only | split)

theorem runCmd_keeps {s0 : State} (p : PartId) (st : StreamId) (op : Nat) (body : Bytes → State → State) (s : State) (hbody : ∀ x0 x1, Keeps s0 x1 → Keeps s0 (body x0 x1)) (hk : Keeps s0 s) : KeepsO s0 (runCmd p st op body s) := by
  unfold runCmd
  repeat (first | with_reducible apply hbody | with_reducible assumption | with_reducible apply KeepsO.next | with_reducible apply KeepsO.ite | with_reducible refine takeCmd_keeps (by with_reducible assumption) ?_ | with_reducible apply takeCmd_snd_keeps | intro _ | with_reducible apply Keeps.ite | with_reducible apply Keeps.iteSnd | with_reducible apply Keeps.iteFst | simp only [Keeps.upd] | dsimp only | split)

theorem sycAdd_keeps {s0 : State} (p : PartId) (idx v source tag : Nat) (s : State) (hk : Keeps s0 s) : Keeps s0 (sycAdd p idx v source tag s) := by
  unfold sycAdd
  repeat (first | with_reducible assumption | with_reducible apply jobFault_keeps | with_reducible apply sycSetAt_keeps | intro _ | with_reducible apply Keeps.ite | simp only [Keeps.upd] | dsimp only | split)

theorem applySignal_keeps {s0 : State} (p : PartId) (st : StreamId) (d : Bytes) (s : State) (hk : Keeps s0 s) : Keeps s0 (applySignal p st d s) := by
  unfold applySignal
  repeat (first | with_reducible assumption | with_reducible apply sycAdd_keeps | with_reducible apply sycSetAt_keeps | intro _ | with_reducible apply Keeps.ite | simp only [Keeps.upd] | dsimp only | split)

theorem dropClusters_keeps {s0 : State} (p : PartId) (s : State) (hk : Keeps s0 s) : Keeps s0 (dropClusters p s) := by
  unfold dropClusters
  repeat (first | with_reducible assumption | with_reducible apply updJob_keeps | intro _ | with_reducible apply Keeps.ite | simp only [Keeps.upd] | dsimp only | split)

theorem execJobBegin_keeps {s0 : State} (p : PartId) (st : StreamId) (s : State) (hk : Keeps s0 s) : KeepsO s0 (execJobBegin p st s) := by
  unfold execJobBegin
  repeat (first | with_reducible assumption | with_reducible apply KeepsO.next | with_reducible apply KeepsO.ite | with_reducible apply runCmd_keeps | with_reducible apply cmdFail_keeps | with_reducible apply cmdDone_keeps | intro _ | with_reducible apply Keeps.ite | simp only [Keeps.upd] | dsimp only | split)

theorem execJobEnd_keeps {s0 : State} (p : PartId) (st : StreamId) (s : State) (hk : Keeps s0 s) : KeepsO s0 (execJobEnd p st s) := by
  unfold execJobEnd
  repeat (first | with_reducible assumption | with_reducible apply KeepsO.next | with_reducible apply KeepsO.ite | with_reducible apply runCmd_keeps | with_reducible apply cmdDone_keeps | intro _ | with_reducible apply Keeps.ite | simp only [Keeps.upd] | dsimp only | split)

theorem execNop_keeps {s0 : State} (p : PartId) (st : StreamId) (s : State) (hk : Keeps s0 s) : KeepsO s0 (execNop p st s) := by
  unfold execNop
  repeat (first | with_reducible assumption | with_reducible apply KeepsO.next | with_reducible apply KeepsO.ite | with_reducible apply runCmd_keeps | with_reducible apply cmdDone_keeps | intro _ | with_reducible apply Keeps.ite | simp only [Keeps.upd] | dsimp only | split)

theorem execCtSet_keeps {s0 : State} (p : PartId) (st : StreamId) (s : State) (hk : Keeps s0 s) : KeepsO s0 (execCtSet p st s) := by
  unfold execCtSet
  repeat (first | with_reducible assumption | with_reducible apply KeepsO.next | with_reducible apply KeepsO.ite | with_reducible apply runCmd_keeps | with_reducible apply cmdDone_keeps | with_reducible apply updStream_keeps | intro _ | with_reducible apply Keeps.ite | simp only [Keeps.upd] | dsimp only | split)

theorem execCtAdd_keeps {s0 : State} (p : PartId) (st : StreamId) (s : State) (hk : Keeps s0 s) : KeepsO s0 (execCtAdd p st s) := by
  unfold execCtAdd
  repeat (first | with_reducible assumption | with_reducible apply KeepsO.next | with_reducible apply KeepsO.ite | with_reducible apply runCmd_keeps | with_reducible apply cmdDone_keeps | with_reducible apply updStream_keeps | intro _ | with_reducible apply Keeps.ite | simp only [Keeps.upd] | dsimp only | split)

theorem execCmpSkip_keeps {s0 : State} (p : PartId) (st : StreamId) (s : State) (hk : Keeps s0 s) : KeepsO s0 (execCmpSkip p st s) := by
  unfold execCmpSkip
  repeat (first | with_reducible assumption | with_reducible apply KeepsO.next | with_reducible apply KeepsO.ite | with_reducible apply runCmd_keeps | with_reducible apply cmdDone_keeps | with_reducible apply updExec_keeps | intro _ | with_reducible apply Keeps.ite | simp only [Keeps.upd] | dsimp only | split)

theorem execCmpBranch_keeps {s0 : State} (p : PartId) (st : StreamId) (s : State) (hk : Keeps s0 s) : KeepsO s0 (execCmpBranch p st s) := by
  unfold execCmpBranch
  repeat (first | with_reducible assumption | with_reducible apply KeepsO.next | with_reducible apply KeepsO.ite | with_reducible apply runCmd_keeps | with_reducible apply cmdDone_keeps | with_reducible apply updExec_keeps | intro _ | with_reducible apply Keeps.ite | simp only [Keeps.upd] | dsimp only | split)

theorem execSycWait_keeps {s0 : State} (p : PartId) (st : StreamId) (s : State) (hk : Keeps s0 s) : KeepsO s0 (execSycWait p st s) := by
  unfold execSycWait
  repeat (first | with_reducible assumption | with_reducible apply KeepsO.next | with_reducible apply KeepsO.ite | with_reducible apply runCmd_keeps | with_reducible apply cmdDone_keeps | intro _ | with_reducible apply Keeps.ite | simp only [Keeps.upd] | dsimp only | split)

theorem tdPut_keeps {s0 : State} (p : PartId) (i : Nat) (t : Bytes) (s : State) (hk : Keeps s0 s) : Keeps s0 (tdPut p i t s) := by
  unfold tdPut
  repeat (first | with_reducible assumption | with_reducible apply updPart_keeps | intro _ | with_reducible apply Keeps.ite | simp only [Keeps.upd] | dsimp only | split)

theorem execTdSet_keeps {s0 : State} (p : PartId) (st : StreamId) (s : State) (hk : Keeps s0 s) : KeepsO s0 (execTdSet p st s) := by
  unfold execTdSet
  repeat (first | with_reducible assumption | with_reducible apply KeepsO.next | with_reducible apply KeepsO.ite | with_reducible apply runCmd_keeps | with_reducible apply cmdFail_keeps | with_reducible apply cmdDone_keeps | with_reducible apply tdPut_keeps | intro _ | with_reducible apply Keeps.ite | with_reducible apply Keeps.iteSnd | with_reducible apply Keeps.iteFst | simp only [Keeps.upd] | dsimp only | split)

theorem execPrgRun_keeps {s0 : State} (p : PartId) (st : StreamId) (s : State) (hk : Keeps s0 s) : KeepsO s0 (execPrgRun p st s) := by
  unfold execPrgRun
  repeat (first | with_reducible assumption | with_reducible apply KeepsO.next | with_reducible apply KeepsO.ite | with_reducible apply runCmd_keeps | with_reducible apply updStream_keeps | intro _ | with_reducible apply Keeps.ite | simp only [Keeps.upd] | dsimp only | split)

theorem execPrgEnd_keeps {s0 : State} (p : PartId) (st : StreamId) (s : State) (hk : Keeps s0 s) : KeepsO s0 (execPrgEnd p st s) := by
  unfold execPrgEnd
  repeat (first | with_reducible assumption | with_reducible apply KeepsO.next | with_reducible apply KeepsO.ite | with_reducible apply runCmd_keeps | with_reducible apply cmdDone_keeps | intro _ | with_reducible apply Keeps.ite | simp only [Keeps.upd] | dsimp only | split)

theorem waitTimeout_keeps {s0 : State} (p : PartId) (st : StreamId) (s : State) (hk : Keeps s0 s) : Keeps s0 (waitTimeout p st s) := by
  unfold waitTimeout
  repeat (first | with_reducible assumption | with_reducible apply cmdFail_keeps | intro _ | with_reducible apply Keeps.ite | simp only [Keeps.upd] | dsimp only | split)

theorem execTeardownComplete_keeps {s0 : State} (p : PartId) (s : State) (hk : Keeps s0 s) : KeepsO s0 (execTeardownComplete p s) := by
  unfold execTeardownComplete
  repeat (first | with_reducible assumption | with_reducible apply KeepsO.next | with_reducible apply KeepsO.ite | with_reducible apply updPart_keeps | with_reducible apply eachOf_keeps | with_reducible apply updCluster_keeps | intro _ | with_reducible apply Keeps.ite | with_reducible apply Keeps.iteSnd | with_reducible apply Keeps.iteFst | simp only [Keeps.upd] | dsimp only | split)

theorem chargeRead_keeps {s0 : State} (p : PartId) (space n : Nat) (s : State) (hk : Keeps s0 s) : Keeps s0 (chargeRead p space n s) := by
  unfold chargeRead
  repeat (first | with_reducible assumption | with_reducible apply charge_keeps | intro _ | with_reducible apply Keeps.ite | simp only [Keeps.upd] | dsimp only | split)

theorem noteUe_keeps {s0 : State} (p : PartId) (st : StreamId) (tag space off n : Nat) (s : State) (hk : Keeps s0 s) : Keeps s0 (noteUe p st tag space off n s) := by
  unfold noteUe
  repeat (first | with_reducible assumption | with_reducible apply meetHbm_keeps | with_reducible apply noteOnce_keeps | with_reducible apply itemFind_keeps | with_reducible apply Keeps.foldl | intro _ | with_reducible apply Keeps.ite | with_reducible apply Keeps.iteSnd | with_reducible apply Keeps.iteFst | simp only [Keeps.upd] | dsimp only | split)

theorem touch_keeps {s0 : State} (p : PartId) (st : StreamId) (tag space off n : Nat) (s : State) (hk : Keeps s0 s) : Keeps s0 (touch p st tag space off n s) := by
  unfold touch
  repeat (first | with_reducible assumption | with_reducible apply noteUe_keeps | with_reducible apply chargeRead_keeps | intro _ | with_reducible apply Keeps.ite | simp only [Keeps.upd] | dsimp only | split)

theorem tdWriteWords_keeps {s0 : State} (p : PartId) (t : Bytes) : ∀ (x0 : Nat) (x1 : List Nat) (s : State), Keeps s0 s → Keeps s0 (tdWriteWords p t x0 x1 s)
  | _x0, [], s, h => by
    unfold tdWriteWords
    repeat (first | with_reducible assumption | with_reducible apply spaceWrite_keeps | intro _ | with_reducible apply Keeps.ite | simp only [Keeps.upd] | dsimp only | split)
  | k, w :: ws, s, h => by
    unfold tdWriteWords
    repeat (first | with_reducible assumption | with_reducible apply tdWriteWords_keeps | with_reducible apply spaceWrite_keeps | intro _ | with_reducible apply Keeps.ite | simp only [Keeps.upd] | dsimp only | split)

theorem eachUntil_keeps {s0 : State} {α : Type} (f : α → State → Except CmdErr State) (hf : ∀ x s t, f x s = .ok t → Keeps s0 s → Keeps s0 t) :
    ∀ (l : List α) (s : State), Keeps s0 s → Keeps s0 (eachUntil f l s).1
  | [], s, h => h
  | x :: l, s, h => by
    unfold eachUntil
    split
    · exact eachUntil_keeps f hf l _ (hf _ _ _ (by assumption) h)
    · exact h

theorem finish_keeps {s0 : State} (p : PartId) (st : StreamId) (d : Bytes) (r : State × Option CmdErr) (h : Keeps s0 r.1) : Keeps s0 (finish p st d r) := by
  unfold finish
  repeat (first | with_reducible assumption | with_reducible apply cmdFail_keeps | with_reducible apply cmdDone_keeps | intro _ | with_reducible apply Keeps.ite | simp only [Keeps.upd] | dsimp only | split)

theorem touchTd_keeps {s0 : State} (p : PartId) (st : StreamId) (tag : Nat) (t : Bytes) (s : State) (hk : Keeps s0 s) : Keeps s0 (touchTd p st tag t s) := by
  unfold touchTd
  repeat (first | with_reducible assumption | with_reducible apply eachOf_keeps | with_reducible apply touch_keeps | intro _ | with_reducible apply Keeps.ite | simp only [Keeps.upd] | dsimp only | split)

theorem touchSlice_keeps {s0 : State} (p : PartId) (st : StreamId) (tag : Nat) (t : Bytes) (k : Nat) (s : State) (hk : Keeps s0 s) : Keeps s0 (touchSlice p st tag t k s) := by
  unfold touchSlice
  repeat (first | with_reducible assumption | with_reducible apply touch_keeps | with_reducible apply eachOf_keeps | intro _ | with_reducible apply Keeps.ite | simp only [Keeps.upd] | dsimp only | split)

theorem writeCells_keeps {s0 : State} (p : PartId) (space : Nat) (cs : List (Nat × Bytes × Bool)) (s : State) (hk : Keeps s0 s) : Keeps s0 (writeCells p space cs s) := by
  unfold writeCells
  repeat (first | with_reducible assumption | with_reducible apply eachOf_keeps | with_reducible apply spaceWrite_keeps | with_reducible apply spaceMark_keeps | intro _ | with_reducible apply Keeps.ite | with_reducible apply Keeps.iteSnd | with_reducible apply Keeps.iteFst | simp only [Keeps.upd] | dsimp only | split)

theorem copyElems_keeps {s0 : State} (p : PartId) (src dst : Bytes) (i j n : Nat) (s : State) (hk : Keeps s0 s) : Keeps s0 (copyElems p src dst i j n s) := by
  unfold copyElems
  repeat (first | with_reducible assumption | with_reducible apply writeCells_keeps | intro _ | with_reducible apply Keeps.ite | simp only [Keeps.upd] | dsimp only | split)

theorem zeroSlice_keeps {s0 : State} (p : PartId) (t : Bytes) (k : Nat) (s : State) (hk : Keeps s0 s) : Keeps s0 (zeroSlice p t k s) := by
  unfold zeroSlice
  repeat (first | with_reducible assumption | with_reducible apply writeCells_keeps | intro _ | with_reducible apply Keeps.ite | simp only [Keeps.upd] | dsimp only | split)

theorem traceStep_keeps {s0 : State} (p : PartId) (bit : Nat) (kind : TraceKind) (detail : Nat) (withdrawn : Bool) (s : State) (hk : Keeps s0 s) : Keeps s0 (traceStep p bit kind detail withdrawn s) := by
  unfold traceStep
  repeat (first | with_reducible assumption | with_reducible apply traceGen_keeps | intro _ | with_reducible apply Keeps.ite | simp only [Keeps.upd] | dsimp only | split)

theorem traceStage_keeps {s0 : State} (p : PartId) (code : Nat) (s : State) (hk : Keeps s0 s) : Keeps s0 (traceStage p code s) := by
  unfold traceStage
  repeat (first | with_reducible assumption | with_reducible apply traceStep_keeps | intro _ | with_reducible apply Keeps.ite | simp only [Keeps.upd] | dsimp only | split)

theorem traceClause_keeps {s0 : State} (p : PartId) (kind : TraceKind) (tag : Nat) (s : State) (hk : Keeps s0 s) : Keeps s0 (traceClause p kind tag s) := by
  unfold traceClause
  repeat (first | with_reducible assumption | with_reducible apply traceStep_keeps | intro _ | with_reducible apply Keeps.ite | simp only [Keeps.upd] | dsimp only | split)

theorem fillGate_keeps {s0 : State} (p : PartId) (tag : Nat) (m : Model) (layer n : Nat) (s : State) (hk : Keeps s0 s) : Keeps s0 (fillGate p tag m layer n s) := by
  unfold fillGate
  repeat (first | with_reducible assumption | with_reducible apply touch_keeps | with_reducible apply updPart_keeps | with_reducible apply eachOf_keeps | intro _ | with_reducible apply Keeps.ite | with_reducible apply Keeps.iteSnd | with_reducible apply Keeps.iteFst | simp only [Keeps.upd] | dsimp only | split)

theorem writeClauses_keeps {s0 : State} (p : PartId) (td : Bytes) (pos : Nat) (rs : List Bytes) (s : State) (hk : Keeps s0 s) : Keeps s0 (writeClauses p td pos rs s) := by
  unfold writeClauses
  repeat (first | with_reducible assumption | with_reducible apply clauseWrite_keeps | with_reducible apply Keeps.foldl | intro _ | with_reducible apply Keeps.ite | simp only [Keeps.upd] | dsimp only | split)

theorem expectSlot_keeps {s0 : State} (p : PartId) (slot layer n : Nat) (s : State) (hk : Keeps s0 s) : Keeps s0 (expectSlot p slot layer n s) := by
  unfold expectSlot
  repeat (first | with_reducible assumption | with_reducible apply updSlot_keeps | intro _ | with_reducible apply Keeps.ite | simp only [Keeps.upd] | dsimp only | split)

theorem commitClauses_keeps {s0 : State} (p : PartId) (td : Bytes) (pos slot layer : Nat) (r : RouterLayer) (poison : Bool) (cs : List (Nat × Nat × Nat × Nat)) (s : State) (hk : Keeps s0 s) : Keeps s0 (commitClauses p td pos slot layer r poison cs s) := by
  unfold commitClauses
  repeat (first | with_reducible assumption | with_reducible apply writeClauses_keeps | with_reducible apply expectSlot_keeps | with_reducible apply updSlot_keeps | with_reducible apply cntPart64_keeps | with_reducible apply cntPart_keeps | intro _ | with_reducible apply Keeps.ite | simp only [Keeps.upd] | dsimp only | split)

theorem sendVerdict_keeps {s0 : State} (p : PartId) (x : Clause) (confirm : Bool) (rank weight : Nat) (s : State) (hk : Keeps s0 s) : Keeps s0 (sendVerdict p x confirm rank weight s) := by
  unfold sendVerdict
  repeat (first | with_reducible assumption | with_reducible apply applyVerdict_keeps | with_reducible apply sendVerdicts_keeps | intro _ | with_reducible apply Keeps.ite | simp only [Keeps.upd] | dsimp only | split)

theorem cancelClause_keeps {s0 : State} (p : PartId) (x : Clause) (s : State) (hk : Keeps s0 s) : Keeps s0 (cancelClause p x s) := by
  unfold cancelClause
  repeat (first | with_reducible assumption | with_reducible apply traceClause_keeps | with_reducible apply cntPart64_keeps | with_reducible apply updConj_keeps | with_reducible apply suppress_keeps | with_reducible apply sendVerdict_keeps | intro _ | with_reducible apply Keeps.ite | simp only [Keeps.upd] | dsimp only | split)

theorem recordLost_keeps {s0 : State} (p : PartId) (x : Clause) (code : Nat) (s : State) (hk : Keeps s0 s) : Keeps s0 (recordLost p x code s) := by
  unfold recordLost
  repeat (first | with_reducible assumption | with_reducible apply reissueClause_keeps | with_reducible apply record_keeps | intro _ | with_reducible apply Keeps.ite | simp only [Keeps.upd] | dsimp only | split)

theorem confirmClause_keeps {s0 : State} (p : PartId) (x : Clause) (rank weight : Nat) (s : State) (hk : Keeps s0 s) : Keeps s0 (confirmClause p x rank weight s) := by
  unfold confirmClause
  repeat (first | with_reducible assumption | with_reducible apply cntPart64_keeps | with_reducible apply updConj_keeps | with_reducible apply traceClause_keeps | with_reducible apply sendVerdict_keeps | with_reducible apply recordLost_keeps | intro _ | with_reducible apply Keeps.ite | simp only [Keeps.upd] | dsimp only | split)

theorem issueVerdicts_keeps {s0 : State} (p : PartId) (sel : List (Nat × Nat × Nat)) (ws : List Nat) (spec : List Clause) (s : State) (hk : Keeps s0 s) : Keeps s0 (issueVerdicts p sel ws spec s) := by
  unfold issueVerdicts
  repeat (first | with_reducible assumption | with_reducible apply eachOf_keeps | with_reducible apply confirmClause_keeps | with_reducible apply cancelClause_keeps | intro _ | with_reducible apply Keeps.ite | with_reducible apply Keeps.iteSnd | with_reducible apply Keeps.iteFst | simp only [Keeps.upd] | dsimp only | split)

theorem commitToken_keeps {s0 : State} (p : PartId) (d td : Bytes) (sc : Option Bytes) (base pos : Nat) (s : State) (hk : Keeps s0 s) : Keeps s0 (commitToken p d td sc base pos s) := by
  unfold commitToken
  repeat (first | with_reducible assumption | with_reducible apply cntPart64_keeps | with_reducible apply cntPart_keeps | with_reducible apply tdWriteWords_keeps | with_reducible apply updPart_keeps | with_reducible apply issueVerdicts_keeps | with_reducible apply commitClauses_keeps | intro _ | with_reducible apply Keeps.ite | with_reducible apply Keeps.iteSnd | with_reducible apply Keeps.iteFst | simp only [Keeps.upd] | dsimp only | split)

theorem commitAll_keeps {s0 : State} (p : PartId) (d td : Bytes) (sc : Option Bytes) (base : Nat) : ∀ (x0 : Nat) (x1 : Nat) (s : State), Keeps s0 s → Keeps s0 (commitAll p d td sc base x0 x1 s)
  | 0, _x1, s, h => by
    unfold commitAll
    repeat (first | with_reducible assumption | with_reducible apply commitToken_keeps | intro _ | with_reducible apply Keeps.ite | simp only [Keeps.upd] | dsimp only | split)
  | n + 1, pos, s, h => by
    unfold commitAll
    repeat (first | with_reducible assumption | with_reducible apply commitAll_keeps | with_reducible apply commitToken_keeps | intro _ | with_reducible apply Keeps.ite | simp only [Keeps.upd] | dsimp only | split)

theorem execRteSelect_keeps {s0 : State} (p : PartId) (s : State) (hk : Keeps s0 s) : KeepsO s0 (execRteSelect p s) := by
  unfold execRteSelect
  repeat (first | with_reducible assumption | with_reducible apply KeepsO.next | with_reducible apply KeepsO.ite | with_reducible apply runCmd_keeps | with_reducible apply cmdFail_keeps | with_reducible apply fillGate_keeps | with_reducible apply updExec_keeps | with_reducible apply cmdDone_keeps | with_reducible apply commitAll_keeps | intro _ | with_reducible apply Keeps.ite | with_reducible apply Keeps.iteSnd | with_reducible apply Keeps.iteFst | simp only [Keeps.upd] | dsimp only | split)

theorem execTokenSelectionCommit_keeps {s0 : State} (p : PartId) (pos : Nat) (s : State) (hk : Keeps s0 s) : KeepsO s0 (execTokenSelectionCommit p pos s) := by
  unfold execTokenSelectionCommit
  repeat (first | with_reducible assumption | with_reducible apply KeepsO.next | with_reducible apply KeepsO.ite | with_reducible apply commitToken_keeps | with_reducible apply updExec_keeps | with_reducible apply cmdDone_keeps | intro _ | with_reducible apply Keeps.ite | with_reducible apply Keeps.iteSnd | with_reducible apply Keeps.iteFst | simp only [Keeps.upd] | dsimp only | split)

theorem speculate_keeps {s0 : State} (p : PartId) (c : Conj) (m : Model) (slot expert rank : Nat) (s : State) (hk : Keeps s0 s) : Keeps s0 (speculate p c m slot expert rank s) := by
  unfold speculate
  repeat (first | with_reducible assumption | with_reducible apply suppress_keeps | with_reducible apply cntPart_keeps | with_reducible apply clauseWrite_keeps | with_reducible apply issueClause_keeps | with_reducible apply traceClause_keeps | with_reducible apply cntPart64_keeps | intro _ | with_reducible apply Keeps.ite | simp only [Keeps.upd] | dsimp only | split)

theorem takeShadow_keeps {s0 : State} (p : PartId) (c : Conj) (m : Model) (slot : Nat) (ps : List (Nat × Bool)) (s : State) (hk : Keeps s0 s) : Keeps s0 (takeShadow p c m slot ps s) := by
  unfold takeShadow
  repeat (first | with_reducible assumption | with_reducible apply eachOf_keeps | with_reducible apply speculate_keeps | with_reducible apply cntPart_keeps | with_reducible apply updPart_keeps | intro _ | with_reducible apply Keeps.ite | with_reducible apply Keeps.iteSnd | with_reducible apply Keeps.iteFst | simp only [Keeps.upd] | dsimp only | split)

theorem execShadowScoreDone_keeps {s0 : State} (p : PartId) (pos : Nat) (s : State) (hk : Keeps s0 s) : KeepsO s0 (execShadowScoreDone p pos s) := by
  unfold execShadowScoreDone
  repeat (first | with_reducible assumption | with_reducible apply KeepsO.next | with_reducible apply KeepsO.ite | with_reducible apply suppress_keeps | with_reducible apply takeShadow_keeps | intro _ | with_reducible apply Keeps.ite | simp only [Keeps.upd] | dsimp only | split)

theorem writeRecs_keeps {s0 : State} (p : PartId) (t : Bytes) : ∀ (x0 : Nat) (x1 : List Bytes) (s : State), Keeps s0 s → Keeps s0 (writeRecs p t x0 x1 s)
  | _x0, [], s, h => by
    unfold writeRecs
    repeat (first | with_reducible assumption | with_reducible apply spaceWrite_keeps | intro _ | with_reducible apply Keeps.ite | simp only [Keeps.upd] | dsimp only | split)
  | k, r :: rs, s, h => by
    unfold writeRecs
    repeat (first | with_reducible assumption | with_reducible apply writeRecs_keeps | with_reducible apply spaceWrite_keeps | intro _ | with_reducible apply Keeps.ite | simp only [Keeps.upd] | dsimp only | split)

theorem proposeCounts_keeps {s0 : State} (p : PartId) (n : Nat) (rows : List (Nat × Bool × List Nat)) (s : State) (hk : Keeps s0 s) : Keeps s0 (proposeCounts p n rows s) := by
  unfold proposeCounts
  repeat (first | with_reducible assumption | with_reducible apply cntPart_keeps | with_reducible apply cntPart64_keeps | intro _ | with_reducible apply Keeps.ite | with_reducible apply Keeps.iteSnd | with_reducible apply Keeps.iteFst | simp only [Keeps.upd] | dsimp only | split)

theorem execRtePropose_keeps {s0 : State} (p : PartId) (s : State) (hk : Keeps s0 s) : KeepsO s0 (execRtePropose p s) := by
  unfold execRtePropose
  repeat (first | with_reducible assumption | with_reducible apply KeepsO.next | with_reducible apply KeepsO.ite | with_reducible apply runCmd_keeps | with_reducible apply cmdFail_keeps | with_reducible apply updExec_keeps | with_reducible apply fillGate_keeps | with_reducible apply eachOf_keeps | with_reducible apply updSlot_keeps | with_reducible apply cmdDone_keeps | with_reducible apply writeRecs_keeps | with_reducible apply proposeCounts_keeps | intro _ | with_reducible apply Keeps.ite | with_reducible apply Keeps.iteSnd | with_reducible apply Keeps.iteFst | simp only [Keeps.upd] | dsimp only | split)

theorem assignToken_keeps {s0 : State} (p : PartId) (ct : Bytes) (base layer : Nat) (r : RouterLayer) (es : List (Nat × Nat × Nat × Nat)) (pos : Nat) (s : State) (hk : Keeps s0 s) : Keeps s0 (assignToken p ct base layer r es pos s) := by
  unfold assignToken
  repeat (first | with_reducible assumption | with_reducible apply cntPart_keeps | with_reducible apply commitClauses_keeps | intro _ | with_reducible apply Keeps.ite | with_reducible apply Keeps.iteSnd | with_reducible apply Keeps.iteFst | simp only [Keeps.upd] | dsimp only | split)

theorem execRteAssign_keeps {s0 : State} (p : PartId) (s : State) (hk : Keeps s0 s) : KeepsO s0 (execRteAssign p s) := by
  unfold execRteAssign
  repeat (first | with_reducible assumption | with_reducible apply KeepsO.next | with_reducible apply KeepsO.ite | with_reducible apply runCmd_keeps | with_reducible apply cmdFail_keeps | with_reducible apply updPart_keeps | with_reducible apply updExec_keeps | with_reducible apply cmdDone_keeps | with_reducible apply eachOf_keeps | with_reducible apply assignToken_keeps | intro _ | with_reducible apply Keeps.ite | with_reducible apply Keeps.iteSnd | with_reducible apply Keeps.iteFst | simp only [Keeps.upd] | dsimp only | split)

theorem resolveRecord_keeps {s0 : State} (p : PartId) (tag : Nat) (m : Model) (layer : Nat) (td : Bytes) (x : Nat × Bytes) (acc : State × List Nat)
    (h : Keeps s0 acc.1) : Keeps s0 (resolveRecord p tag m layer td x acc).1 := by
  obtain ⟨s, seen⟩ := acc
  obtain ⟨pos, r⟩ := x
  unfold resolveRecord
  dsimp only
  split
  · exact h
  · split
    · (try dsimp only)
      repeat (first | with_reducible assumption | with_reducible apply clauseWrite_keeps | with_reducible apply cntDev_keeps | with_reducible apply outside_keeps | with_reducible apply noteResolved_keeps | with_reducible apply record_keeps | intro _ | with_reducible apply Keeps.ite | simp only [Keeps.upd] | dsimp only | split)
    · (try dsimp only)
      split
      · (try dsimp only)
        repeat (first | with_reducible assumption | with_reducible apply clauseWrite_keeps | with_reducible apply cntDev_keeps | with_reducible apply outside_keeps | with_reducible apply noteResolved_keeps | with_reducible apply record_keeps | intro _ | with_reducible apply Keeps.ite | simp only [Keeps.upd] | dsimp only | split)
      · (try dsimp only)
        repeat (first | with_reducible assumption | with_reducible apply clauseWrite_keeps | with_reducible apply cntDev_keeps | with_reducible apply outside_keeps | with_reducible apply noteResolved_keeps | with_reducible apply record_keeps | intro _ | with_reducible apply Keeps.ite | simp only [Keeps.upd] | dsimp only | split)

theorem resolveRecord_foldl_keeps {s0 : State} (p : PartId) (tag : Nat) (m : Model) (layer : Nat) (td : Bytes) :
    ∀ (l : List (Nat × Bytes)) (acc : State × List Nat), Keeps s0 acc.1 → Keeps s0 (l.foldl (fun a x => resolveRecord p tag m layer td x a) acc).1
  | [], _, h => h
  | x :: l, acc, h => resolveRecord_foldl_keeps p tag m layer td l _ (resolveRecord_keeps p tag m layer td x acc h)

theorem resolveList_keeps {s0 : State} (p : PartId) (tag : Nat) (m : Model) (layer : Nat) (td : Bytes) (cs : List (Nat × Bytes)) (s : State) (hk : Keeps s0 s) :
    Keeps s0 (resolveList p tag m layer td cs s) := resolveRecord_foldl_keeps p tag m layer td cs (s, []) hk

theorem execSrtBucket_keeps {s0 : State} (p : PartId) (s : State) (hk : Keeps s0 s) : KeepsO s0 (execSrtBucket p s) := by
  unfold execSrtBucket
  repeat (first | with_reducible assumption | with_reducible apply KeepsO.next | with_reducible apply KeepsO.ite | with_reducible apply runCmd_keeps | with_reducible apply cmdFail_keeps | with_reducible apply resolveList_keeps | with_reducible apply tdWriteWords_keeps | with_reducible apply cntPart64_keeps | with_reducible apply cmdDone_keeps | with_reducible apply cntPart_keeps | intro _ | with_reducible apply Keeps.ite | with_reducible apply Keeps.iteSnd | with_reducible apply Keeps.iteFst | simp only [Keeps.upd] | dsimp only | split)

theorem gatherRow_keeps {s0 t : State} {p : PartId} {d : Bytes} {src ix dst : Nat × Bytes} {i : Nat} {s : State} (e : gatherRow p d src ix dst i s = .ok t) (hk : Keeps s0 s) : Keeps s0 t := by
  unfold gatherRow at e
  (try dsimp only at e)
  repeat' split at e
  all_goals (try cases e)
  all_goals repeat (first | with_reducible assumption | with_reducible apply zeroSlice_keeps | with_reducible apply copyElems_keeps | with_reducible apply touchSlice_keeps | intro _ | with_reducible apply Keeps.ite | with_reducible apply Keeps.iteSnd | with_reducible apply Keeps.iteFst | simp only [Keeps.upd] | dsimp only | split)

theorem execDspGather_keeps {s0 : State} (p : PartId) (s : State) (hk : Keeps s0 s) : KeepsO s0 (execDspGather p s) := by
  unfold execDspGather
  repeat (first | with_reducible assumption | with_reducible apply KeepsO.next | with_reducible apply KeepsO.ite | with_reducible apply runCmd_keeps | with_reducible apply cmdFail_keeps | with_reducible apply finish_keeps | with_reducible apply eachUntil_keeps | with_reducible refine gatherRow_keeps (by with_reducible assumption) ?_ | intro _ | with_reducible apply Keeps.ite | with_reducible apply Keeps.iteSnd | with_reducible apply Keeps.iteFst | simp only [Keeps.upd] | dsimp only | split)

theorem accumRow_keeps {s0 t : State} {p : PartId} {d : Bytes} {m : Model} {rows td ix : Nat × Bytes} {i : Nat} {s : State} (e : accumRow p d m rows td ix i s = .ok t) (hk : Keeps s0 s) : Keeps s0 t := by
  unfold accumRow at e
  (try dsimp only at e)
  repeat' split at e
  all_goals (try cases e)
  all_goals repeat (first | with_reducible assumption | with_reducible apply touch_keeps | with_reducible apply contribute_keeps | intro _ | with_reducible apply Keeps.ite | with_reducible apply Keeps.iteSnd | with_reducible apply Keeps.iteFst | simp only [Keeps.upd] | dsimp only | split)

theorem execCmbAccum_keeps {s0 : State} (p : PartId) (s : State) (hk : Keeps s0 s) : KeepsO s0 (execCmbAccum p s) := by
  unfold execCmbAccum
  repeat (first | with_reducible assumption | with_reducible apply KeepsO.next | with_reducible apply KeepsO.ite | with_reducible apply runCmd_keeps | with_reducible apply cmdFail_keeps | with_reducible apply finish_keeps | with_reducible apply eachUntil_keeps | with_reducible refine accumRow_keeps (by with_reducible assumption) ?_ | intro _ | with_reducible apply Keeps.ite | simp only [Keeps.upd] | dsimp only | split)

theorem execCmbFinal_keeps {s0 : State} (p : PartId) (s : State) (hk : Keeps s0 s) : KeepsO s0 (execCmbFinal p s) := by
  unfold execCmbFinal
  repeat (first | with_reducible assumption | with_reducible apply KeepsO.next | with_reducible apply KeepsO.ite | with_reducible apply runCmd_keeps | with_reducible apply cmdFail_keeps | with_reducible apply cmdDone_keeps | with_reducible apply eachOf_keeps | with_reducible apply roundSlot_keeps | intro _ | with_reducible apply Keeps.ite | simp only [Keeps.upd] | dsimp only | split)

theorem onCores_keeps {s0 : State} (p : PartId) (f : CoreSt → CoreSt) (s : State) (hk : Keeps s0 s) : Keeps s0 (onCores p f s) := by
  unfold onCores
  repeat (first | with_reducible assumption | with_reducible apply eachOf_keeps | with_reducible apply onCore_keeps | intro _ | with_reducible apply Keeps.ite | with_reducible apply Keeps.iteSnd | with_reducible apply Keeps.iteFst | simp only [Keeps.upd] | dsimp only | split)

theorem coreWrite_keeps {s0 : State} (p : PartId) (c : CoreId) (space off : Nat) (b : Bytes) (bad : Bool) (s : State) (hk : Keeps s0 s) : Keeps s0 (coreWrite p c space off b bad s) := by
  unfold coreWrite
  repeat (first | with_reducible assumption | with_reducible apply onCore_keeps | with_reducible apply spaceWrite_keeps | with_reducible apply spaceMark_keeps | intro _ | with_reducible apply Keeps.ite | simp only [Keeps.upd] | dsimp only | split)

theorem loadRow_keeps {s0 t : State} {p : PartId} {d : Bytes} {td : Nat × Bytes} {ix : Option (Nat × Bytes)} {x : Nat × CoreId × Nat} {s : State} (e : loadRow p d td ix x s = .ok t) (hk : Keeps s0 s) : Keeps s0 t := by
  unfold loadRow at e
  (try dsimp only at e)
  repeat' split at e
  all_goals (try cases e)
  all_goals repeat (first | with_reducible assumption | with_reducible apply onCore_keeps | with_reducible apply touch_keeps | intro _ | with_reducible apply Keeps.ite | with_reducible apply Keeps.iteSnd | with_reducible apply Keeps.iteFst | simp only [Keeps.upd] | dsimp only | split)

theorem seqLd_keeps {s0 : State} (p : PartId) (d : Bytes) (s : State) (hk : Keeps s0 s) : Keeps s0 (seqLd p d s) := by
  unfold seqLd
  repeat (first | with_reducible assumption | with_reducible apply cmdFail_keeps | with_reducible apply onCores_keeps | with_reducible apply finish_keeps | with_reducible apply eachUntil_keeps | with_reducible refine loadRow_keeps (by with_reducible assumption) ?_ | intro _ | with_reducible apply Keeps.ite | with_reducible apply Keeps.iteSnd | with_reducible apply Keeps.iteFst | simp only [Keeps.upd] | dsimp only | split)

theorem storeTileRow_keeps {s0 t : State} {p : PartId} {d : Bytes} {td : Nat × Bytes} {ix : Option (Nat × Bytes)} {x : Nat × CoreId × Nat} {s : State} (e : storeTileRow p d td ix x s = .ok t) (hk : Keeps s0 s) : Keeps s0 t := by
  unfold storeTileRow at e
  (try dsimp only at e)
  repeat' split at e
  all_goals (try cases e)
  all_goals repeat (first | with_reducible assumption | with_reducible apply coreWrite_keeps | intro _ | with_reducible apply Keeps.ite | with_reducible apply Keeps.iteSnd | with_reducible apply Keeps.iteFst | simp only [Keeps.upd] | dsimp only | split)

theorem seqSt_keeps {s0 : State} (p : PartId) (d : Bytes) (s : State) (hk : Keeps s0 s) : Keeps s0 (seqSt p d s) := by
  unfold seqSt
  repeat (first | with_reducible assumption | with_reducible apply cmdFail_keeps | with_reducible apply finish_keeps | with_reducible apply eachUntil_keeps | with_reducible refine storeTileRow_keeps (by with_reducible assumption) ?_ | intro _ | with_reducible apply Keeps.ite | simp only [Keeps.upd] | dsimp only | split)

theorem seqZero_keeps {s0 : State} (p : PartId) (d : Bytes) (s : State) (hk : Keeps s0 s) : Keeps s0 (seqZero p d s) := by
  unfold seqZero
  repeat (first | with_reducible assumption | with_reducible apply cmdDone_keeps | with_reducible apply onCores_keeps | intro _ | with_reducible apply Keeps.ite | simp only [Keeps.upd] | dsimp only | split)

theorem seqMma_keeps {s0 : State} (p : PartId) (d : Bytes) (s : State) (hk : Keeps s0 s) : Keeps s0 (seqMma p d s) := by
  unfold seqMma
  repeat (first | with_reducible assumption | with_reducible apply onCores_keeps | with_reducible apply cmdDone_keeps | with_reducible apply cntPart64_keeps | intro _ | with_reducible apply Keeps.ite | simp only [Keeps.upd] | dsimp only | split)

theorem seqAct_keeps {s0 : State} (p : PartId) (d : Bytes) (s : State) (hk : Keeps s0 s) : Keeps s0 (seqAct p d s) := by
  unfold seqAct
  repeat (first | with_reducible assumption | with_reducible apply cmdFail_keeps | with_reducible apply cmdDone_keeps | with_reducible apply onCores_keeps | intro _ | with_reducible apply Keeps.ite | simp only [Keeps.upd] | dsimp only | split)

theorem seqMul_keeps {s0 : State} (p : PartId) (d : Bytes) (s : State) (hk : Keeps s0 s) : Keeps s0 (seqMul p d s) := by
  unfold seqMul
  repeat (first | with_reducible assumption | with_reducible apply cmdFail_keeps | with_reducible apply cmdDone_keeps | with_reducible apply onCores_keeps | intro _ | with_reducible apply Keeps.ite | simp only [Keeps.upd] | dsimp only | split)

theorem scaleTileRow_keeps {s0 t : State} {p : PartId} {d : Bytes} {td : Nat × Bytes} {x : Nat × CoreId × Nat} {s : State} (e : scaleTileRow p d td x s = .ok t) (hk : Keeps s0 s) : Keeps s0 t := by
  unfold scaleTileRow at e
  (try dsimp only at e)
  repeat' split at e
  all_goals (try cases e)
  all_goals repeat (first | with_reducible assumption | with_reducible apply onCore_keeps | with_reducible apply touch_keeps | intro _ | with_reducible apply Keeps.ite | with_reducible apply Keeps.iteSnd | with_reducible apply Keeps.iteFst | simp only [Keeps.upd] | dsimp only | split)

theorem seqScale_keeps {s0 : State} (p : PartId) (d : Bytes) (s : State) (hk : Keeps s0 s) : Keeps s0 (seqScale p d s) := by
  unfold seqScale
  repeat (first | with_reducible assumption | with_reducible apply cmdFail_keeps | with_reducible apply finish_keeps | with_reducible apply eachUntil_keeps | with_reducible refine scaleTileRow_keeps (by with_reducible assumption) ?_ | intro _ | with_reducible apply Keeps.ite | simp only [Keeps.upd] | dsimp only | split)

theorem seqCvt_keeps {s0 : State} (p : PartId) (d : Bytes) (s : State) (hk : Keeps s0 s) : Keeps s0 (seqCvt p d s) := by
  unfold seqCvt
  repeat (first | with_reducible assumption | with_reducible apply cmdDone_keeps | with_reducible apply onCores_keeps | intro _ | with_reducible apply Keeps.ite | simp only [Keeps.upd] | dsimp only | split)

theorem touchWeights_keeps {s0 : State} (p : PartId) (tag : Nat) (m : Model) (layer expert : Nat) (s : State) (hk : Keeps s0 s) : Keeps s0 (touchWeights p tag m layer expert s) := by
  unfold touchWeights
  repeat (first | with_reducible assumption | with_reducible apply touch_keeps | intro _ | with_reducible apply Keeps.ite | simp only [Keeps.upd] | dsimp only | split)

theorem expertRow_keeps {s0 t : State} {p : PartId} {d : Bytes} {m : Model} {work : Bool} {rows out : Nat × Bytes} {ix gate : Option (Nat × Bytes)} {i : Nat} {s : State} (e : expertRow p d m work rows out ix gate i s = .ok t) (hk : Keeps s0 s) : Keeps s0 t := by
  unfold expertRow at e
  (try dsimp only at e)
  repeat' split at e
  all_goals (try cases e)
  all_goals repeat (first | with_reducible assumption | with_reducible refine takeFree_keeps (by with_reducible assumption) ?_ | with_reducible apply takeFree_snd_keeps | with_reducible apply touch_keeps | with_reducible apply cntPart64_keeps | with_reducible apply cntPart_keeps | with_reducible apply spaceWrite_keeps | with_reducible apply spaceMark_keeps | intro _ | with_reducible apply Keeps.ite | with_reducible apply Keeps.iteSnd | with_reducible apply Keeps.iteFst | simp only [Keeps.upd] | dsimp only | split)

theorem seqBusy_keeps {s0 : State} (p : PartId) (s : State) (hk : Keeps s0 s) : Keeps s0 (seqBusy p s) := by
  unfold seqBusy
  repeat (first | with_reducible assumption | with_reducible refine takeFree_keeps (by with_reducible assumption) ?_ | with_reducible apply takeFree_snd_keeps | with_reducible apply cntPart64_keeps | intro _ | with_reducible apply Keeps.ite | with_reducible apply Keeps.iteSnd | with_reducible apply Keeps.iteFst | simp only [Keeps.upd] | dsimp only | split)

theorem passCycles_keeps {s0 : State} (p : PartId) (s : State) (hk : Keeps s0 s) : Keeps s0 (passCycles p s) := by
  unfold passCycles
  repeat (first | with_reducible assumption | with_reducible refine takeFree_keeps (by with_reducible assumption) ?_ | with_reducible apply takeFree_snd_keeps | with_reducible apply seqBusy_keeps | with_reducible apply cntPart64_keeps | intro _ | with_reducible apply Keeps.ite | with_reducible apply Keeps.iteSnd | with_reducible apply Keeps.iteFst | simp only [Keeps.upd] | dsimp only | split)

theorem beginPass_keeps {s0 : State} (p : PartId) (x : Pass) (s : State) (hk : Keeps s0 s) : Keeps s0 (beginPass p x s) := by
  unfold beginPass
  repeat (first | with_reducible assumption | with_reducible apply updPart_keeps | intro _ | with_reducible apply Keeps.ite | simp only [Keeps.upd] | dsimp only | split)

theorem seqExpert_keeps {s0 : State} (p : PartId) (work : Bool) (d : Bytes) (s : State) (hk : Keeps s0 s) : Keeps s0 (seqExpert p work d s) := by
  unfold seqExpert
  repeat (first | with_reducible assumption | with_reducible apply cmdFail_keeps | with_reducible apply dropClusters_keeps | with_reducible apply beginPass_keeps | with_reducible apply passCycles_keeps | with_reducible apply touchWeights_keeps | with_reducible apply finish_keeps | with_reducible apply eachUntil_keeps | with_reducible refine expertRow_keeps (by with_reducible assumption) ?_ | intro _ | with_reducible apply Keeps.ite | simp only [Keeps.upd] | dsimp only | split)

theorem endAlone_keeps {s0 : State} (p : PartId) (s : State) (hk : Keeps s0 s) : Keeps s0 (endAlone p s) := by
  unfold endAlone
  repeat (first | with_reducible assumption | with_reducible apply dropClusters_keeps | with_reducible apply cntPart_keeps | with_reducible apply updPart_keeps | intro _ | with_reducible apply Keeps.ite | simp only [Keeps.upd] | dsimp only | split)

theorem traceEnd_keeps {s0 : State} (p : PartId) (s : State) (hk : Keeps s0 s) : Keeps s0 (traceEnd p s) := by
  unfold traceEnd
  repeat (first | with_reducible assumption | with_reducible apply traceStage_keeps | with_reducible apply updConj_keeps | intro _ | with_reducible apply Keeps.ite | simp only [Keeps.upd] | dsimp only | split)

theorem conjSettle_keeps {s0 : State} (p : PartId) (s : State) (hk : Keeps s0 s) : Keeps s0 (conjSettle p s) := by
  unfold conjSettle
  repeat (first | with_reducible assumption | with_reducible apply traceEnd_keeps | with_reducible apply updPart_keeps | with_reducible apply cmdDone_keeps | intro _ | with_reducible apply Keeps.ite | simp only [Keeps.upd] | dsimp only | split)

theorem judgeReplica_keeps {s0 : State} (p : PartId) (c : Conj) (e k : Nat) (s : State) (hk : Keeps s0 s) : Keeps s0 (judgeReplica p c e k s) := by
  unfold judgeReplica
  repeat (first | with_reducible assumption | with_reducible apply eachOf_keeps | with_reducible apply overflowRow_keeps | intro _ | with_reducible apply Keeps.ite | simp only [Keeps.upd] | dsimp only | split)

theorem releaseJudged_keeps {s0 : State} (p : PartId) (c : Conj) (s : State) (hk : Keeps s0 s) : Keeps s0 (releaseJudged p c s) := by
  unfold releaseJudged
  repeat (first | with_reducible assumption | with_reducible apply eachOf_keeps | with_reducible apply dropRow_keeps | with_reducible apply returnResult_keeps | intro _ | with_reducible apply Keeps.ite | simp only [Keeps.upd] | dsimp only | split)

theorem judgeStep_keeps {s0 : State} (p : PartId) (c : Conj) (s : State) (hk : Keeps s0 s) : Keeps s0 (judgeStep p c s) := by
  unfold judgeStep
  repeat (first | with_reducible assumption | with_reducible apply releaseJudged_keeps | with_reducible apply eachOf_keeps | with_reducible apply judgeReplica_keeps | intro _ | with_reducible apply Keeps.ite | with_reducible apply Keeps.iteSnd | with_reducible apply Keeps.iteFst | simp only [Keeps.upd] | dsimp only | split)

theorem tryClose_keeps {s0 : State} (p : PartId) (s : State) (hk : Keeps s0 s) : Keeps s0 (tryClose p s) := by
  unfold tryClose
  repeat (first | with_reducible assumption | with_reducible apply traceStage_keeps | with_reducible apply updConj_keeps | with_reducible apply judgeStep_keeps | with_reducible apply updPart_keeps | with_reducible apply conjSettle_keeps | intro _ | with_reducible apply Keeps.ite | simp only [Keeps.upd] | dsimp only | split)

theorem closeMarkers_keeps {s0 : State} (p : PartId) (s : State) (hk : Keeps s0 s) : Keeps s0 (closeMarkers p s) := by
  unfold closeMarkers
  repeat (first | with_reducible assumption | with_reducible apply tryClose_keeps | with_reducible apply updConj_keeps | with_reducible apply eachOf_keeps | with_reducible apply sendClose_keeps | with_reducible apply traceStage_keeps | intro _ | with_reducible apply Keeps.ite | simp only [Keeps.upd] | dsimp only | split)

theorem loseMember_keeps {s0 : State} (p : PartId) (d : DevId) (s : State) (hk : Keeps s0 s) : Keeps s0 (loseMember p d s) := by
  unfold loseMember
  repeat (first | with_reducible assumption | with_reducible apply updConj_keeps | with_reducible apply updPart_keeps | with_reducible apply tryClose_keeps | with_reducible apply reissueTo_keeps | intro _ | with_reducible apply Keeps.ite | with_reducible apply Keeps.iteSnd | with_reducible apply Keeps.iteFst | simp only [Keeps.upd] | dsimp only | split)

theorem moveLate_keeps {s0 : State} (p : PartId) (s : State) (hk : Keeps s0 s) : Keeps s0 (moveLate p s) := by
  unfold moveLate
  repeat (first | with_reducible assumption | with_reducible apply eachOf_keeps | with_reducible apply lateHome_keeps | with_reducible apply withdrawRow_keeps | intro _ | with_reducible apply Keeps.ite | simp only [Keeps.upd] | dsimp only | split)

theorem deadlineMiss_keeps {s0 : State} (p : PartId) (st : StreamId) (tag : Nat) (s : State) (hk : Keeps s0 s) : Keeps s0 (deadlineMiss p st tag s) := by
  unfold deadlineMiss
  repeat (first | with_reducible assumption | with_reducible apply record_keeps | with_reducible apply updJob_keeps | intro _ | with_reducible apply Keeps.ite | simp only [Keeps.upd] | dsimp only | split)

theorem projectCheck_keeps {s0 : State} (p : PartId) (isD : Bool) (s : State) (hk : Keeps s0 s) : Keeps s0 (projectCheck p isD s) := by
  unfold projectCheck
  repeat (first | with_reducible assumption | with_reducible apply updJob_keeps | with_reducible apply deadlineMiss_keeps | with_reducible apply cntPart_keeps | with_reducible apply moveLate_keeps | with_reducible apply updConj_keeps | intro _ | with_reducible apply Keeps.ite | simp only [Keeps.upd] | dsimp only | split)

theorem dispatchClause_keeps {s0 : State} (p : PartId) (m : Model) (pos : Nat) (r : Bytes) (s : State) (hk : Keeps s0 s) : Keeps s0 (dispatchClause p m pos r s) := by
  unfold dispatchClause
  repeat (first | with_reducible assumption | with_reducible apply issueClause_keeps | with_reducible apply cmdFail_keeps | with_reducible apply homeClause_keeps | with_reducible apply clauseWrite_keeps | with_reducible apply lateHome_keeps | with_reducible apply cntPart_keeps | intro _ | with_reducible apply Keeps.ite | simp only [Keeps.upd] | dsimp only | split)

theorem dispatchTo_keeps {s0 : State} (p : PartId) (rd : Nat) (s : State) (hk : Keeps s0 s) : Keeps s0 (dispatchTo p rd s) := by
  unfold dispatchTo
  repeat (first | with_reducible assumption | with_reducible apply cmdFail_keeps | with_reducible apply cntPart64_keeps | with_reducible apply updConj_keeps | with_reducible apply eachOf_keeps | with_reducible apply dispatchClause_keeps | intro _ | with_reducible apply Keeps.ite | with_reducible apply Keeps.iteSnd | with_reducible apply Keeps.iteFst | simp only [Keeps.upd] | dsimp only | split)

theorem conjAdvance_keeps {s0 : State} (p : PartId) (s : State) (hk : Keeps s0 s) : Keeps s0 (conjAdvance p s) := by
  unfold conjAdvance
  repeat (first | with_reducible assumption | with_reducible apply conjSettle_keeps | with_reducible apply dispatchTo_keeps | with_reducible apply traceStage_keeps | with_reducible apply updConj_keeps | with_reducible apply closeMarkers_keeps | intro _ | with_reducible apply Keeps.ite | simp only [Keeps.upd] | dsimp only | split)

theorem execDeadlineCheckpoint_keeps {s0 : State} (p : PartId) (dispatch : Bool) (s : State) (hk : Keeps s0 s) : KeepsO s0 (execDeadlineCheckpoint p dispatch s) := by
  unfold execDeadlineCheckpoint
  repeat (first | with_reducible assumption | with_reducible apply KeepsO.next | with_reducible apply KeepsO.ite | with_reducible apply conjAdvance_keeps | with_reducible apply projectCheck_keeps | with_reducible apply traceStage_keeps | with_reducible apply updConj_keeps | intro _ | with_reducible apply Keeps.ite | simp only [Keeps.upd] | dsimp only | split)

theorem startConj_keeps {s0 : State} (p : PartId) (d td : Bytes) (parts : List DevId) (s : State) (hk : Keeps s0 s) : Keeps s0 (startConj p d td parts s) := by
  unfold startConj
  repeat (first | with_reducible assumption | with_reducible apply updPart_keeps | with_reducible apply eachOf_keeps | with_reducible apply updSlot_keeps | with_reducible apply admitRow_keeps | intro _ | with_reducible apply Keeps.ite | simp only [Keeps.upd] | dsimp only | split)

theorem execConjStep_keeps {s0 : State} (p : PartId) (s : State) (hk : Keeps s0 s) : KeepsO s0 (execConjStep p s) := by
  unfold execConjStep
  repeat (first | with_reducible assumption | with_reducible apply KeepsO.next | with_reducible apply KeepsO.ite | with_reducible apply runCmd_keeps | with_reducible apply cmdFail_keeps | with_reducible apply conjSettle_keeps | with_reducible apply conjAdvance_keeps | with_reducible apply startConj_keeps | intro _ | with_reducible apply Keeps.ite | with_reducible apply Keeps.iteSnd | with_reducible apply Keeps.iteFst | simp only [Keeps.upd] | dsimp only | split)

theorem startPass_keeps {s0 : State} (p : PartId) (m : Model) (expert : Nat) (rs : List RowRec) (reissue : Bool) (s : State) (hk : Keeps s0 s) : Keeps s0 (startPass p m expert rs reissue s) := by
  unfold startPass
  repeat (first | with_reducible assumption | with_reducible apply charge_keeps | with_reducible apply hbmGo_keeps | with_reducible apply updRows_keeps | with_reducible apply beginPass_keeps | with_reducible apply updConj_keeps | with_reducible apply Keeps.foldl | intro _ | with_reducible apply Keeps.ite | with_reducible apply Keeps.iteSnd | with_reducible apply Keeps.iteFst | simp only [Keeps.upd] | dsimp only | split)

theorem passStart_keeps {s0 : State} (p : PartId) (expert : Nat) (s : State) (hk : Keeps s0 s) : Keeps s0 (passStart p expert s) := by
  unfold passStart
  repeat (first | with_reducible assumption | with_reducible apply hbmHold_keeps | with_reducible apply startPass_keeps | with_reducible apply dropClusters_keeps | intro _ | with_reducible apply Keeps.ite | simp only [Keeps.upd] | dsimp only | split)

theorem reissuePass_keeps {s0 : State} (p : PartId) (expert : Nat) (s : State) (hk : Keeps s0 s) : Keeps s0 (reissuePass p expert s) := by
  unfold reissuePass
  repeat (first | with_reducible assumption | with_reducible apply hbmHold_keeps | with_reducible apply startPass_keeps | with_reducible apply dropClusters_keeps | intro _ | with_reducible apply Keeps.ite | simp only [Keeps.upd] | dsimp only | split)

theorem endRow_keeps {s0 : State} (p : PartId) (m : Model) (bad : Bool) (tag : Nat) (s : State) (hk : Keeps s0 s) : Keeps s0 (endRow p m bad tag s) := by
  unfold endRow
  repeat (first | with_reducible assumption | with_reducible apply cntPart_keeps | with_reducible apply updRow_keeps | with_reducible apply returnResult_keeps | with_reducible apply dropRow_keeps | intro _ | with_reducible apply Keeps.ite | simp only [Keeps.upd] | dsimp only | split)

theorem applyKept_keeps {s0 : State} (p : PartId) (tag : Nat) (s : State) (hk : Keeps s0 s) : Keeps s0 (applyKept p tag s) := by
  unfold applyKept
  repeat (first | with_reducible assumption | with_reducible apply applyVerdict_keeps | intro _ | with_reducible apply Keeps.ite | simp only [Keeps.upd] | dsimp only | split)

theorem passFault_keeps {s0 : State} (p : PartId) (m : Model) (x : Pass) (s : State) (hk : Keeps s0 s) : Keeps s0 (passFault p m x s) := by
  unfold passFault
  repeat (first | with_reducible assumption | with_reducible apply holdFault_keeps | intro _ | with_reducible apply Keeps.ite | simp only [Keeps.upd] | dsimp only | split)

theorem passCharge_keeps {s0 : State} (p : PartId) (m : Model) (x : Pass) (s : State) (hk : Keeps s0 s) : Keeps s0 (passCharge p m x s) := by
  unfold passCharge
  repeat (first | with_reducible assumption | with_reducible apply noteUe_keeps | with_reducible apply cntPart_keeps | with_reducible apply cntPart64_keeps | with_reducible apply passCycles_keeps | intro _ | with_reducible apply Keeps.ite | simp only [Keeps.upd] | dsimp only | split)

theorem passEnd_keeps {s0 : State} (p : PartId) (s : State) (hk : Keeps s0 s) : Keeps s0 (passEnd p s) := by
  unfold passEnd
  repeat (first | with_reducible assumption | with_reducible apply eachOf_keeps | with_reducible apply endRow_keeps | with_reducible apply passCharge_keeps | with_reducible apply passFault_keeps | with_reducible apply applyKept_keeps | with_reducible apply conjSettle_keeps | with_reducible apply dropClusters_keeps | with_reducible apply updPart_keeps | intro _ | with_reducible apply Keeps.ite | simp only [Keeps.upd] | dsimp only | split)

theorem probeDev_keeps {s0 : State} (p : PartId) (k : Comm) (d : DevId) (s : State) (hk : Keeps s0 s) : Keeps s0 (probeDev p k d s) := by
  unfold probeDev
  repeat (first | with_reducible assumption | with_reducible apply sendPiece_keeps | with_reducible apply updConj_keeps | intro _ | with_reducible apply Keeps.ite | with_reducible apply Keeps.iteSnd | with_reducible apply Keeps.iteFst | simp only [Keeps.upd] | dsimp only | split)

theorem execStepClosureProbe_keeps {s0 : State} (p : PartId) (s : State) (hk : Keeps s0 s) : KeepsO s0 (execStepClosureProbe p s) := by
  unfold execStepClosureProbe
  repeat (first | with_reducible assumption | with_reducible apply KeepsO.next | with_reducible apply KeepsO.ite | with_reducible apply eachOf_keeps | with_reducible apply probeDev_keeps | intro _ | with_reducible apply Keeps.ite | simp only [Keeps.upd] | dsimp only | split)

theorem serveEnd_keeps {s0 : State} (p : PartId) (s : State) (hk : Keeps s0 s) : Keeps s0 (serveEnd p s) := by
  unfold serveEnd
  repeat (first | with_reducible assumption | with_reducible apply eachOf_keeps | with_reducible apply orphanRow_keeps | with_reducible apply dropRow_keeps | with_reducible apply updPart_keeps | intro _ | with_reducible apply Keeps.ite | simp only [Keeps.upd] | dsimp only | split)

theorem refillPart_keeps {s0 : State} (n : Nat) (p : PartId) (s : State) (hk : Keeps s0 s) : Keeps s0 (refillPart n p s) := by
  unfold refillPart
  repeat (first | with_reducible assumption | with_reducible apply updPart_keeps | intro _ | with_reducible apply Keeps.ite | simp only [Keeps.upd] | dsimp only | split)

theorem agePackets_keeps {s0 : State} (p : PartId) (s : State) (hk : Keeps s0 s) : Keeps s0 (agePackets p s) := by
  unfold agePackets
  repeat (first | with_reducible assumption | intro _ | with_reducible apply Keeps.ite | simp only [Keeps.upd] | dsimp only | split)

theorem execRequestAging_keeps {s0 : State} (p : PartId) (s : State) (hk : Keeps s0 s) : KeepsO s0 (execRequestAging p s) := by
  unfold execRequestAging
  repeat (first | with_reducible assumption | with_reducible apply KeepsO.next | with_reducible apply KeepsO.ite | with_reducible apply cntPart_keeps | with_reducible apply agePackets_keeps | with_reducible apply updPart_keeps | intro _ | with_reducible apply Keeps.ite | simp only [Keeps.upd] | dsimp only | split)

theorem wakeLink_keeps {s0 : State} (l : LinkId) (s : State) (hk : Keeps s0 s) : Keeps s0 (wakeLink l s) := by
  unfold wakeLink
  repeat (first | with_reducible assumption | with_reducible apply drainLink_keeps | with_reducible apply setBrl_keeps | with_reducible apply emit_keeps | with_reducible apply updLink_keeps | intro _ | with_reducible apply Keeps.ite | simp only [Keeps.upd] | dsimp only | split)

theorem advertise_keeps {s0 : State} (s : State) (hk : Keeps s0 s) : Keeps s0 (advertise s) := by
  unfold advertise
  repeat (first | with_reducible assumption | with_reducible apply eachOf_keeps | with_reducible apply sendLinkMsg_keeps | with_reducible apply wakeLink_keeps | with_reducible apply noticeLink_keeps | intro _ | with_reducible apply Keeps.ite | simp only [Keeps.upd] | dsimp only | split)

theorem setMaster_keeps {s0 : State} (m : Nat) (via : Option Nat) (s : State) (hk : Keeps s0 s) : Keeps s0 (setMaster m via s) := by
  unfold setMaster
  repeat (first | with_reducible assumption | intro _ | with_reducible apply Keeps.ite | simp only [Keeps.upd] | dsimp only | split)

theorem judgeMaster_keeps {s0 : State} (s : State) (hk : Keeps s0 s) : Keeps s0 (judgeMaster s) := by
  unfold judgeMaster
  repeat (first | with_reducible assumption | with_reducible apply setMaster_keeps | intro _ | with_reducible apply Keeps.ite | simp only [Keeps.upd] | dsimp only | split)

theorem noteBonds_keeps {s0 : State} (before s : State) (hk : Keeps s0 s) : Keeps s0 (noteBonds before s) := by
  unfold noteBonds
  repeat (first | with_reducible assumption | intro _ | with_reducible apply Keeps.ite | simp only [Keeps.upd] | dsimp only | split)

theorem bondChange_keeps {s0 : State} (before : State) (s : State) (hk : Keeps s0 s) : Keeps s0 (bondChange before s) := by
  unfold bondChange
  repeat (first | with_reducible assumption | with_reducible apply drainOut_keeps | with_reducible apply eachOf_keeps | with_reducible apply withdrawSpecs_keeps | with_reducible apply relayReach_keeps | with_reducible apply judgeReach_keeps | with_reducible apply judgeMaster_keeps | with_reducible apply noteBonds_keeps | with_reducible apply advertise_keeps | intro _ | with_reducible apply Keeps.ite | simp only [Keeps.upd] | dsimp only | split)

theorem leaveActive_keeps {s0 : State} (l : LinkId) (st : BrlState) (s : State) (hk : Keeps s0 s) : Keeps s0 (leaveActive l st s) := by
  unfold leaveActive
  repeat (first | with_reducible assumption | with_reducible apply updLink_keeps | with_reducible apply enterDetect_keeps | with_reducible apply setBrl_keeps | with_reducible apply resend_keeps | with_reducible apply sendPairLink_keeps | with_reducible apply dualDetect_keeps | with_reducible apply bondChange_keeps | with_reducible apply Keeps.foldl | intro _ | with_reducible apply Keeps.ite | with_reducible apply Keeps.iteSnd | with_reducible apply Keeps.iteFst | simp only [Keeps.upd] | dsimp only | split)

theorem retrainLink_keeps {s0 : State} (l : LinkId) (s : State) (hk : Keeps s0 s) : Keeps s0 (retrainLink l s) := by
  unfold retrainLink
  repeat (first | with_reducible assumption | with_reducible apply leaveActive_keeps | with_reducible apply cntLink_keeps | intro _ | with_reducible apply Keeps.ite | simp only [Keeps.upd] | dsimp only | split)

theorem linkDown_keeps {s0 : State} (l : LinkId) (st : BrlState) (cause : Nat) (s : State) (hk : Keeps s0 s) : Keeps s0 (linkDown l st cause s) := by
  unfold linkDown
  repeat (first | with_reducible assumption | with_reducible apply setBrl_keeps | with_reducible apply updLink_keeps | with_reducible apply recordLink_keeps | with_reducible apply dualLinkDown_keeps | intro _ | with_reducible apply Keeps.ite | simp only [Keeps.upd] | dsimp only | split)

theorem linkActive_keeps {s0 : State} (l : LinkId) (crypt : Bool) (s : State) (hk : Keeps s0 s) : Keeps s0 (linkActive l crypt s) := by
  unfold linkActive
  repeat (first | with_reducible assumption | with_reducible apply setBrl_keeps | with_reducible apply updLink_keeps | with_reducible apply markReachable_keeps | with_reducible apply pairActive_keeps | with_reducible apply dualActive_keeps | with_reducible apply drainLink_keeps | with_reducible apply bondChange_keeps | intro _ | with_reducible apply Keeps.ite | simp only [Keeps.upd] | dsimp only | split)

theorem execBrlSignalDetect_keeps {s0 : State} (l : LinkId) (s : State) (hk : Keeps s0 s) : KeepsO s0 (execBrlSignalDetect l s) := by
  unfold execBrlSignalDetect
  repeat (first | with_reducible assumption | with_reducible apply KeepsO.next | with_reducible apply KeepsO.ite | with_reducible apply setBrl_keeps | with_reducible apply updLink_keeps | with_reducible apply emit_keeps | with_reducible apply enterDetect_keeps | intro _ | with_reducible apply Keeps.ite | simp only [Keeps.upd] | dsimp only | split)

theorem execBrlEqualizeDone_keeps {s0 : State} (l : LinkId) (s : State) (hk : Keeps s0 s) : KeepsO s0 (execBrlEqualizeDone l s) := by
  unfold execBrlEqualizeDone
  repeat (first | with_reducible assumption | with_reducible apply KeepsO.next | with_reducible apply KeepsO.ite | with_reducible apply sendLinkMsg_keeps | with_reducible apply setBrl_keeps | intro _ | with_reducible apply Keeps.ite | simp only [Keeps.upd] | dsimp only | split)

theorem execIdentifyReceive_keeps {s0 : State} (l : LinkId) (i : Identity) (s : State) (hk : Keeps s0 s) : KeepsO s0 (execIdentifyReceive l i s) := by
  unfold execIdentifyReceive
  repeat (first | with_reducible assumption | with_reducible apply KeepsO.next | with_reducible apply KeepsO.ite | with_reducible apply learnStart_keeps | with_reducible apply updLink_keeps | with_reducible apply linkDown_keeps | with_reducible apply setBrl_keeps | with_reducible apply linkActive_keeps | intro _ | with_reducible apply Keeps.ite | simp only [Keeps.upd] | dsimp only | split)

theorem linkAuthFail_keeps {s0 : State} (l : LinkId) (s : State) (hk : Keeps s0 s) : Keeps s0 (linkAuthFail l s) := by
  unfold linkAuthFail
  repeat (first | with_reducible assumption | with_reducible apply secLogMerged_keeps | with_reducible apply recordAll_keeps | intro _ | with_reducible apply Keeps.ite | simp only [Keeps.upd] | dsimp only | split)

theorem freshKey_keeps {s0 : State} (l : LinkId) (psk : Bytes) (s : State) (hk : Keeps s0 s) : Keeps s0 (freshKey l psk s) := by
  unfold freshKey
  repeat (first | with_reducible assumption | with_reducible refine takeFree_keeps (by with_reducible assumption) ?_ | with_reducible apply takeFree_snd_keeps | with_reducible apply updLink_keeps | intro _ | with_reducible apply Keeps.ite | with_reducible apply Keeps.iteSnd | with_reducible apply Keeps.iteFst | simp only [Keeps.upd] | dsimp only | split)

theorem execBrlKeyingDone_keeps {s0 : State} (l : LinkId) (ok : Bool) (s : State) (hk : Keeps s0 s) : KeepsO s0 (execBrlKeyingDone l ok s) := by
  unfold execBrlKeyingDone
  repeat (first | with_reducible assumption | with_reducible apply KeepsO.next | with_reducible apply KeepsO.ite | with_reducible apply linkActive_keeps | with_reducible apply freshKey_keeps | with_reducible apply linkDown_keeps | with_reducible apply linkAuthFail_keeps | intro _ | with_reducible apply Keeps.ite | simp only [Keeps.upd] | dsimp only | split)

theorem execBrlTrainTimeout_keeps {s0 : State} (l : LinkId) (s : State) (hk : Keeps s0 s) : KeepsO s0 (execBrlTrainTimeout l s) := by
  unfold execBrlTrainTimeout
  repeat (first | with_reducible assumption | with_reducible apply KeepsO.next | with_reducible apply KeepsO.ite | with_reducible apply linkDown_keeps | intro _ | with_reducible apply Keeps.ite | simp only [Keeps.upd] | dsimp only | split)

theorem retryLink_keeps {s0 : State} (l : LinkId) (s : State) (hk : Keeps s0 s) : Keeps s0 (retryLink l s) := by
  unfold retryLink
  repeat (first | with_reducible assumption | with_reducible apply enterDetect_keeps | with_reducible apply dualDetect_keeps | intro _ | with_reducible apply Keeps.ite | simp only [Keeps.upd] | dsimp only | split)

theorem execBrlDownRetry_keeps {s0 : State} (l : LinkId) (s : State) (hk : Keeps s0 s) : KeepsO s0 (execBrlDownRetry l s) := by
  unfold execBrlDownRetry
  repeat (first | with_reducible assumption | with_reducible apply KeepsO.next | with_reducible apply KeepsO.ite | with_reducible apply retryLink_keeps | intro _ | with_reducible apply Keeps.ite | simp only [Keeps.upd] | dsimp only | split)

theorem takeAck_keeps {s0 : State} (l : LinkId) (ack : Nat) (s : State) (hk : Keeps s0 s) : Keeps s0 (takeAck l ack s) := by
  unfold takeAck
  repeat (first | with_reducible assumption | with_reducible apply eachOf_keeps | with_reducible apply otherFlit_keeps | with_reducible apply updLink_keeps | intro _ | with_reducible apply Keeps.ite | with_reducible apply Keeps.iteSnd | with_reducible apply Keeps.iteFst | simp only [Keeps.upd] | dsimp only | split)

theorem replayLink_keeps {s0 : State} (l : LinkId) (s : State) (hk : Keeps s0 s) : Keeps s0 (replayLink l s) := by
  unfold replayLink
  repeat (first | with_reducible assumption | with_reducible apply updLink_keeps | with_reducible apply eachOf_keeps | with_reducible apply emit_keeps | intro _ | with_reducible apply Keeps.ite | simp only [Keeps.upd] | dsimp only | split)

theorem takeNak_keeps {s0 : State} (l : LinkId) (ack : Nat) (s : State) (hk : Keeps s0 s) : Keeps s0 (takeNak l ack s) := by
  unfold takeNak
  repeat (first | with_reducible assumption | with_reducible apply cntLink_keeps | with_reducible apply takeAck_keeps | with_reducible apply updLink_keeps | with_reducible apply retrainLink_keeps | with_reducible apply recordLink_keeps | with_reducible apply replayLink_keeps | intro _ | with_reducible apply Keeps.ite | simp only [Keeps.upd] | dsimp only | split)

theorem sendAck_keeps {s0 : State} (l : LinkId) (s : State) (hk : Keeps s0 s) : Keeps s0 (sendAck l s) := by
  unfold sendAck
  repeat (first | with_reducible assumption | with_reducible apply idleFlit_keeps | intro _ | with_reducible apply Keeps.ite | simp only [Keeps.upd] | dsimp only | split)

theorem discardFlit_keeps {s0 : State} (l : LinkId) (s : State) (hk : Keeps s0 s) : Keeps s0 (discardFlit l s) := by
  unfold discardFlit
  repeat (first | with_reducible assumption | with_reducible apply sendAck_keeps | with_reducible apply cntLink_keeps | with_reducible apply updLink_keeps | intro _ | with_reducible apply Keeps.ite | simp only [Keeps.upd] | dsimp only | split)

theorem packetWhole_keeps {s0 : State} (l : LinkId) (vc : Nat) (b : Bytes) (s : State) (hk : Keeps s0 s) : Keeps s0 (packetWhole l vc b s) := by
  unfold packetWhole
  repeat (first | with_reducible assumption | with_reducible apply payOwed_keeps | with_reducible apply forwardTo_keeps | with_reducible apply updLink_keeps | intro _ | with_reducible apply Keeps.ite | simp only [Keeps.upd] | dsimp only | split)

theorem deliverFlit_keeps {s0 : State} (l : LinkId) (h : FlitHead) (payload : Bytes) (s : State) (hk : Keeps s0 s) : Keeps s0 (deliverFlit l h payload s) := by
  unfold deliverFlit
  repeat (first | with_reducible assumption | with_reducible apply updLink_keeps | with_reducible apply packetWhole_keeps | intro _ | with_reducible apply Keeps.ite | simp only [Keeps.upd] | dsimp only | split)

theorem takeLinkMsg_keeps {s0 : State} (l : LinkId) (m : LinkMsg) (s : State) (hk : Keeps s0 s) : Keeps s0 (takeLinkMsg l m s) := by
  unfold takeLinkMsg
  repeat (first | with_reducible assumption | with_reducible apply cntLink_keeps | with_reducible apply updLink_keeps | with_reducible apply setBrl_keeps | with_reducible apply emit_keeps | with_reducible apply leaveActive_keeps | with_reducible apply sendLinkMsg_keeps | intro _ | with_reducible apply Keeps.ite | simp only [Keeps.upd] | dsimp only | split)

theorem takePayload_keeps {s0 : State} (l : LinkId) (h : FlitHead) (payload : Bytes) (msg : Option LinkMsg) (s : State) (hk : Keeps s0 s) : Keeps s0 (takePayload l h payload msg s) := by
  unfold takePayload
  repeat (first | with_reducible assumption | with_reducible apply deliverFlit_keeps | with_reducible apply takeLinkMsg_keeps | intro _ | with_reducible apply Keeps.ite | simp only [Keeps.upd] | dsimp only | split)

theorem takeIntegrity_keeps {s0 : State} (l : LinkId) (payload : Bytes) (s : State) (hk : Keeps s0 s) : Keeps s0 (takeIntegrity l payload s) := by
  unfold takeIntegrity
  repeat (first | with_reducible assumption | with_reducible apply updLink_keeps | with_reducible apply takePayload_keeps | with_reducible apply discardFlit_keeps | with_reducible apply cntLink_keeps | with_reducible apply retrainLink_keeps | with_reducible apply linkAuthFail_keeps | with_reducible apply Keeps.foldl | intro _ | with_reducible apply Keeps.ite | with_reducible apply Keeps.iteSnd | with_reducible apply Keeps.iteFst | simp only [Keeps.upd] | dsimp only | split)

theorem takeSequenced_keeps {s0 : State} (l : LinkId) (flit : Bytes) (h : FlitHead) (payload : Bytes) (msg : Option LinkMsg) (s : State) (hk : Keeps s0 s) : Keeps s0 (takeSequenced l flit h payload msg s) := by
  unfold takeSequenced
  repeat (first | with_reducible assumption | with_reducible apply updLink_keeps | with_reducible apply sendAck_keeps | with_reducible apply takeIntegrity_keeps | with_reducible apply takePayload_keeps | intro _ | with_reducible apply Keeps.ite | simp only [Keeps.upd] | dsimp only | split)

theorem takeFlit_keeps {s0 : State} (l : LinkId) (flit : Bytes) (msg : Option LinkMsg) (s : State) (hk : Keeps s0 s) : Keeps s0 (takeFlit l flit msg s) := by
  unfold takeFlit
  repeat (first | with_reducible assumption | with_reducible apply discardFlit_keeps | with_reducible apply takeNak_keeps | with_reducible apply takeAck_keeps | with_reducible apply updLink_keeps | with_reducible apply drainLink_keeps | with_reducible apply takeSequenced_keeps | intro _ | with_reducible apply Keeps.ite | simp only [Keeps.upd] | dsimp only | split)

theorem execFlitReceive_keeps {s0 : State} (l : LinkId) (fec : Nat) (flit : Bytes) (msg : Option LinkMsg) (s : State) (hk : Keeps s0 s) : KeepsO s0 (execFlitReceive l fec flit msg s) := by
  unfold execFlitReceive
  repeat (first | with_reducible assumption | with_reducible apply KeepsO.next | with_reducible apply KeepsO.ite | with_reducible apply discardFlit_keeps | with_reducible apply cntLink_keeps | with_reducible apply takeFlit_keeps | intro _ | with_reducible apply Keeps.ite | simp only [Keeps.upd] | dsimp only | split)

theorem execNakReceive_keeps {s0 : State} (l : LinkId) (ack : Nat) (s : State) (hk : Keeps s0 s) : KeepsO s0 (execNakReceive l ack s) := by
  unfold execNakReceive
  repeat (first | with_reducible assumption | with_reducible apply KeepsO.next | with_reducible apply KeepsO.ite | with_reducible apply takeNak_keeps | intro _ | with_reducible apply Keeps.ite | simp only [Keeps.upd] | dsimp only | split)

theorem execNakRepeat_keeps {s0 : State} (l : LinkId) (s : State) (hk : Keeps s0 s) : KeepsO s0 (execNakRepeat l s) := by
  unfold execNakRepeat
  repeat (first | with_reducible assumption | with_reducible apply KeepsO.next | with_reducible apply KeepsO.ite | with_reducible apply sendAck_keeps | intro _ | with_reducible apply Keeps.ite | simp only [Keeps.upd] | dsimp only | split)

theorem execAckTimer_keeps {s0 : State} (l : LinkId) (s : State) (hk : Keeps s0 s) : KeepsO s0 (execAckTimer l s) := by
  unfold execAckTimer
  repeat (first | with_reducible assumption | with_reducible apply KeepsO.next | with_reducible apply KeepsO.ite | with_reducible apply sendAck_keeps | intro _ | with_reducible apply Keeps.ite | simp only [Keeps.upd] | dsimp only | split)

theorem execIntegrityReceive_keeps {s0 : State} (l : LinkId) (flit : Bytes) (s : State) (hk : Keeps s0 s) : KeepsO s0 (execIntegrityReceive l flit s) := by
  unfold execIntegrityReceive
  repeat (first | with_reducible assumption | with_reducible apply KeepsO.next | with_reducible apply KeepsO.ite | with_reducible apply takeFlit_keeps | intro _ | with_reducible apply Keeps.ite | simp only [Keeps.upd] | dsimp only | split)

theorem execTimeFlitReceive_keeps {s0 : State} (l : LinkId) (farDt farRx : Nat) (s : State) (hk : Keeps s0 s) : KeepsO s0 (execTimeFlitReceive l farDt farRx s) := by
  unfold execTimeFlitReceive
  repeat (first | with_reducible assumption | with_reducible apply KeepsO.next | with_reducible apply KeepsO.ite | with_reducible apply updLink_keeps | intro _ | with_reducible apply Keeps.ite | simp only [Keeps.upd] | dsimp only | split)

theorem execLossOfLink_keeps {s0 : State} (l : LinkId) (s : State) (hk : Keeps s0 s) : KeepsO s0 (execLossOfLink l s) := by
  unfold execLossOfLink
  repeat (first | with_reducible assumption | with_reducible apply KeepsO.next | with_reducible apply KeepsO.ite | with_reducible apply retrainLink_keeps | intro _ | with_reducible apply Keeps.ite | simp only [Keeps.upd] | dsimp only | split)

theorem execBondAdvertisementSend_keeps {s0 : State} (s : State) (hk : Keeps s0 s) : KeepsO s0 (execBondAdvertisementSend s) := by
  unfold execBondAdvertisementSend
  repeat (first | with_reducible assumption | with_reducible apply KeepsO.next | with_reducible apply KeepsO.ite | with_reducible apply judgeReach_keeps | with_reducible apply advertise_keeps | intro _ | with_reducible apply Keeps.ite | simp only [Keeps.upd] | dsimp only | split)

theorem takeAdvert_keeps {s0 : State} (m : Nat) (a : Advert) (s : State) (hk : Keeps s0 s) : Keeps s0 (takeAdvert m a s) := by
  unfold takeAdvert
  repeat (first | with_reducible assumption | with_reducible apply learnStart_keeps | with_reducible apply Keeps.foldl | intro _ | with_reducible apply Keeps.ite | simp only [Keeps.upd] | dsimp only | split)

end Sys2Proof.Laws
end

