-- ==== Sys2Proof/Laws/Keeps3.lean ====
section
/-!
SUPPORT. Keeps3.lean: what every operation keeps, one lemma per operation, in the order of the definitions (3 of 5).
Keeps s t: the memories of t are in canonical form if those of s are, no fuse is unburned, the queue is untouched, what was sent stays, the counter of free values does not fall.
-/
set_option linter.all false
namespace Sys2Proof.Laws
open Sys2Proof Sys2Proof.Machine Sys2Proof.Safety

theorem execBondAdvertisementReceive_keeps {s0 : State} (l : LinkId) (a : Advert) (s : State) (hk : Keeps s0 s) : KeepsO s0 (execBondAdvertisementReceive l a s) := by
  unfold execBondAdvertisementReceive
  repeat (first | with_reducible assumption | with_reducible apply KeepsO.next | with_reducible apply KeepsO.ite | with_reducible apply drainOut_keeps | with_reducible apply relayReach_keeps | with_reducible apply judgeReach_keeps | with_reducible apply takeAdvert_keeps | intro _ | with_reducible apply Keeps.ite | simp only [Keeps.upd] | dsimp only | split)

theorem execBrlIdleTimer_keeps {s0 : State} (l : LinkId) (s : State) (hk : Keeps s0 s) : KeepsO s0 (execBrlIdleTimer l s) := by
  unfold execBrlIdleTimer
  repeat (first | with_reducible assumption | with_reducible apply KeepsO.next | with_reducible apply KeepsO.ite | with_reducible apply sendLinkMsg_keeps | with_reducible apply updLink_keeps | intro _ | with_reducible apply Keeps.ite | simp only [Keeps.upd] | dsimp only | split)

theorem execSleepReqReceive_keeps {s0 : State} (l : LinkId) (s : State) (hk : Keeps s0 s) : KeepsO s0 (execSleepReqReceive l s) := by
  unfold execSleepReqReceive
  repeat (first | with_reducible assumption | with_reducible apply KeepsO.next | with_reducible apply KeepsO.ite | with_reducible apply sendLinkMsg_keeps | with_reducible apply setBrl_keeps | with_reducible apply cntLink_keeps | with_reducible apply updLink_keeps | intro _ | with_reducible apply Keeps.ite | simp only [Keeps.upd] | dsimp only | split)

theorem execWakePattern_keeps {s0 : State} (l : LinkId) (s : State) (hk : Keeps s0 s) : KeepsO s0 (execWakePattern l s) := by
  unfold execWakePattern
  repeat (first | with_reducible assumption | with_reducible apply KeepsO.next | with_reducible apply KeepsO.ite | with_reducible apply drainLink_keeps | with_reducible apply setBrl_keeps | with_reducible apply updLink_keeps | intro _ | with_reducible apply Keeps.ite | simp only [Keeps.upd] | dsimp only | split)

theorem execBrlRetrain_keeps {s0 : State} (r : Requester) (l : LinkId) (v : Nat) (s : State) (hk : Keeps s0 s) : KeepsO s0 (execBrlRetrain r l v s) := by
  unfold execBrlRetrain
  repeat (first | with_reducible assumption | with_reducible apply KeepsO.next | with_reducible apply KeepsO.ite | with_reducible apply retrainLink_keeps | with_reducible apply retryLink_keeps | intro _ | with_reducible apply Keeps.ite | simp only [Keeps.upd] | dsimp only | split)

theorem execBrlDormant_keeps {s0 : State} (r : Requester) (l : LinkId) (v : Nat) (s : State) (hk : Keeps s0 s) : KeepsO s0 (execBrlDormant r l v s) := by
  unfold execBrlDormant
  repeat (first | with_reducible assumption | with_reducible apply KeepsO.next | with_reducible apply KeepsO.ite | with_reducible apply sendLinkMsg_keeps | with_reducible apply wakeLink_keeps | with_reducible apply updLink_keeps | intro _ | with_reducible apply Keeps.ite | simp only [Keeps.upd] | dsimp only | split)

theorem execBrlWake_keeps {s0 : State} (r : Requester) (l : LinkId) (v : Nat) (s : State) (hk : Keeps s0 s) : KeepsO s0 (execBrlWake r l v s) := by
  unfold execBrlWake
  repeat (first | with_reducible assumption | with_reducible apply KeepsO.next | with_reducible apply KeepsO.ite | with_reducible apply enterDetect_keeps | intro _ | with_reducible apply Keeps.ite | simp only [Keeps.upd] | dsimp only | split)

theorem execBrlRekey_keeps {s0 : State} (l : LinkId) (s : State) (hk : Keeps s0 s) : KeepsO s0 (execBrlRekey l s) := by
  unfold execBrlRekey
  repeat (first | with_reducible assumption | with_reducible apply KeepsO.next | with_reducible apply KeepsO.ite | with_reducible apply freshKey_keeps | intro _ | with_reducible apply Keeps.ite | simp only [Keeps.upd] | dsimp only | split)

theorem movePackets_keeps {s0 : State} (pl : PlaneId) (d : DevId) (p : PartId) (l : List Waiting) (s : State) (hk : Keeps s0 s) : Keeps s0 (movePackets pl d p l s) := by
  unfold movePackets
  repeat (first | with_reducible assumption | with_reducible apply cntTether_keeps | with_reducible refine sendTether_keeps (by with_reducible assumption) ?_ | with_reducible apply emit_keeps | with_reducible refine holdBack_keeps (by with_reducible assumption) ?_ | with_reducible apply holdBack_snd_keeps | with_reducible apply updFlow_keeps | with_reducible apply drainOut_keeps | with_reducible apply Keeps.foldl | intro _ | with_reducible apply Keeps.ite | with_reducible apply Keeps.iteSnd | with_reducible apply Keeps.iteFst | simp only [Keeps.upd] | dsimp only | split)

theorem endCtx_keeps {s0 : State} (i : Nat) (mark : Bool) (s : State) (hk : Keeps s0 s) : Keeps s0 (endCtx i mark s) := by
  unfold endCtx
  repeat (first | with_reducible assumption | with_reducible apply cntPlane_keeps | with_reducible apply setCtx_keeps | with_reducible apply updPlane_keeps | with_reducible apply judgeReach_keeps | with_reducible apply movePackets_keeps | intro _ | with_reducible apply Keeps.ite | with_reducible apply Keeps.iteSnd | with_reducible apply Keeps.iteFst | simp only [Keeps.upd] | dsimp only | split)

theorem planeUp_keeps {s0 : State} (pl : PlaneId) (s : State) (hk : Keeps s0 s) : Keeps s0 (planeUp pl s) := by
  unfold planeUp
  repeat (first | with_reducible assumption | with_reducible apply sendEth_keeps | with_reducible apply setTth_keeps | with_reducible apply resolveAddr_keeps | with_reducible apply drainOut_keeps | intro _ | with_reducible apply Keeps.ite | simp only [Keeps.upd] | dsimp only | split)

theorem planeLeave_keeps {s0 : State} (pl : PlaneId) (st : TthState) (s : State) (hk : Keeps s0 s) : Keeps s0 (planeLeave pl st s) := by
  unfold planeLeave
  repeat (first | with_reducible assumption | with_reducible apply setTth_keeps | with_reducible apply updPlane_keeps | with_reducible apply judgeReach_keeps | with_reducible apply drainOut_keeps | with_reducible apply eachOf_keeps | with_reducible apply endCtx_keeps | intro _ | with_reducible apply Keeps.ite | simp only [Keeps.upd] | dsimp only | split)

theorem planeDown_keeps {s0 : State} (pl : PlaneId) (cause : Nat) (s : State) (hk : Keeps s0 s) : Keeps s0 (planeDown pl cause s) := by
  unfold planeDown
  repeat (first | with_reducible assumption | with_reducible apply updPlane_keeps | with_reducible apply planeLeave_keeps | with_reducible apply recordLink_keeps | intro _ | with_reducible apply Keeps.ite | simp only [Keeps.upd] | dsimp only | split)

theorem execTthAlignDone_keeps {s0 : State} (pl : PlaneId) (s : State) (hk : Keeps s0 s) : KeepsO s0 (execTthAlignDone pl s) := by
  unfold execTthAlignDone
  repeat (first | with_reducible assumption | with_reducible apply KeepsO.next | with_reducible apply KeepsO.ite | with_reducible apply setTth_keeps | with_reducible apply planeUp_keeps | intro _ | with_reducible apply Keeps.ite | simp only [Keeps.upd] | dsimp only | split)

theorem freshSak_keeps {s0 : State} (pl : PlaneId) (item : VaultItem) (s : State) (hk : Keeps s0 s) : Keeps s0 (freshSak pl item s) := by
  unfold freshSak
  repeat (first | with_reducible assumption | with_reducible refine takeFree_keeps (by with_reducible assumption) ?_ | with_reducible apply takeFree_snd_keeps | with_reducible apply updPlane_keeps | intro _ | with_reducible apply Keeps.ite | with_reducible apply Keeps.iteSnd | with_reducible apply Keeps.iteFst | simp only [Keeps.upd] | dsimp only | split)

theorem execMkaSecured_keeps {s0 : State} (pl : PlaneId) (peerPriority : Nat) (xpn : Bool) (s : State) (hk : Keeps s0 s) : KeepsO s0 (execMkaSecured pl peerPriority xpn s) := by
  unfold execMkaSecured
  repeat (first | with_reducible assumption | with_reducible apply KeepsO.next | with_reducible apply KeepsO.ite | with_reducible apply planeUp_keeps | with_reducible apply updPlane_keeps | with_reducible apply freshSak_keeps | intro _ | with_reducible apply Keeps.ite | simp only [Keeps.upd] | dsimp only | split)

theorem execTthTrainTimeout_keeps {s0 : State} (pl : PlaneId) (s : State) (hk : Keeps s0 s) : KeepsO s0 (execTthTrainTimeout pl s) := by
  unfold execTthTrainTimeout
  repeat (first | with_reducible assumption | with_reducible apply KeepsO.next | with_reducible apply KeepsO.ite | with_reducible apply planeDown_keeps | intro _ | with_reducible apply Keeps.ite | simp only [Keeps.upd] | dsimp only | split)

theorem execTthFault_keeps {s0 : State} (pl : PlaneId) (s : State) (hk : Keeps s0 s) : KeepsO s0 (execTthFault pl s) := by
  unfold execTthFault
  repeat (first | with_reducible assumption | with_reducible apply KeepsO.next | with_reducible apply KeepsO.ite | with_reducible apply planeDown_keeps | intro _ | with_reducible apply Keeps.ite | simp only [Keeps.upd] | dsimp only | split)

theorem execTthDownRetry_keeps {s0 : State} (pl : PlaneId) (s : State) (hk : Keeps s0 s) : KeepsO s0 (execTthDownRetry pl s) := by
  unfold execTthDownRetry
  repeat (first | with_reducible assumption | with_reducible apply KeepsO.next | with_reducible apply KeepsO.ite | with_reducible apply enterAlign_keeps | intro _ | with_reducible apply Keeps.ite | simp only [Keeps.upd] | dsimp only | split)

theorem execMkaPeerLoss_keeps {s0 : State} (pl : PlaneId) (s : State) (hk : Keeps s0 s) : KeepsO s0 (execMkaPeerLoss pl s) := by
  unfold execMkaPeerLoss
  repeat (first | with_reducible assumption | with_reducible apply KeepsO.next | with_reducible apply KeepsO.ite | with_reducible apply planeDown_keeps | intro _ | with_reducible apply Keeps.ite | simp only [Keeps.upd] | dsimp only | split)

theorem execMacsecRekey_keeps {s0 : State} (pl : PlaneId) (s : State) (hk : Keeps s0 s) : KeepsO s0 (execMacsecRekey pl s) := by
  unfold execMacsecRekey
  repeat (first | with_reducible assumption | with_reducible apply KeepsO.next | with_reducible apply KeepsO.ite | with_reducible apply freshSak_keeps | intro _ | with_reducible apply Keeps.ite | simp only [Keeps.upd] | dsimp only | split)

theorem execTthRetrain_keeps {s0 : State} (r : Requester) (pl : PlaneId) (v : Nat) (s : State) (hk : Keeps s0 s) : KeepsO s0 (execTthRetrain r pl v s) := by
  unfold execTthRetrain
  repeat (first | with_reducible assumption | with_reducible apply KeepsO.next | with_reducible apply KeepsO.ite | with_reducible apply enterAlign_keeps | intro _ | with_reducible apply Keeps.ite | simp only [Keeps.upd] | dsimp only | split)

theorem execTthDormant_keeps {s0 : State} (r : Requester) (pl : PlaneId) (v : Nat) (s : State) (hk : Keeps s0 s) : KeepsO s0 (execTthDormant r pl v s) := by
  unfold execTthDormant
  repeat (first | with_reducible assumption | with_reducible apply KeepsO.next | with_reducible apply KeepsO.ite | with_reducible apply planeLeave_keeps | intro _ | with_reducible apply Keeps.ite | simp only [Keeps.upd] | dsimp only | split)

theorem execTthWake_keeps {s0 : State} (r : Requester) (pl : PlaneId) (v : Nat) (s : State) (hk : Keeps s0 s) : KeepsO s0 (execTthWake r pl v s) := by
  unfold execTthWake
  repeat (first | with_reducible assumption | with_reducible apply KeepsO.next | with_reducible apply KeepsO.ite | with_reducible apply enterAlign_keeps | intro _ | with_reducible apply Keeps.ite | simp only [Keeps.upd] | dsimp only | split)

theorem discardDgram_keeps {s0 : State} (pl : PlaneId) (s : State) (hk : Keeps s0 s) : Keeps s0 (discardDgram pl s) := by
  unfold discardDgram
  repeat (first | with_reducible assumption | with_reducible apply cntPlane_keeps | intro _ | with_reducible apply Keeps.ite | simp only [Keeps.upd] | dsimp only | split)

theorem notePn_keeps {s0 : State} (pl : PlaneId) (pn : Option Nat) (s : State) (hk : Keeps s0 s) : Keeps s0 (notePn pl pn s) := by
  unfold notePn
  repeat (first | with_reducible assumption | with_reducible apply updPlane_keeps | intro _ | with_reducible apply Keeps.ite | simp only [Keeps.upd] | dsimp only | split)

theorem frameBad_keeps {s0 t : State} {pl : PlaneId} {fr : FrameCheck} {data : Bytes} {s : State} (e : frameBad pl fr data s = some t) (hk : Keeps s0 s) : Keeps s0 t := by
  unfold frameBad at e
  (try dsimp only at e)
  repeat' split at e
  all_goals (try cases e)
  all_goals repeat (first | with_reducible assumption | with_reducible apply cntPlane_keeps | with_reducible apply discardDgram_keeps | with_reducible apply notePn_keeps | intro _ | with_reducible apply Keeps.ite | simp only [Keeps.upd] | dsimp only | split)

theorem ethBad_keeps {s0 t : State} {pl : PlaneId} {fr : EthCheck} {s : State} (e : ethBad pl fr s = some t) (hk : Keeps s0 s) : Keeps s0 t := by
  unfold ethBad at e
  (try dsimp only at e)
  repeat' split at e
  all_goals (try cases e)
  all_goals repeat (first | with_reducible assumption | with_reducible apply cntPlane_keeps | with_reducible apply discardDgram_keeps | with_reducible apply notePn_keeps | intro _ | with_reducible apply Keeps.ite | simp only [Keeps.upd] | dsimp only | split)

theorem sendCtxAck_keeps {s0 : State} (i : Nat) (s : State) (hk : Keeps s0 s) : Keeps s0 (sendCtxAck i s) := by
  unfold sendCtxAck
  repeat (first | with_reducible assumption | with_reducible apply updCtx_keeps | with_reducible apply sendDgram_keeps | intro _ | with_reducible apply Keeps.ite | simp only [Keeps.upd] | dsimp only | split)

theorem takeSegment_keeps {s0 : State} (pl : PlaneId) (i : Nat) (ce : Bool) (h : TthHead) (b : Bytes) (c : Ctx) (s : State) (hk : Keeps s0 s) : Keeps s0 (takeSegment pl i ce h b c s) := by
  unfold takeSegment
  repeat (first | with_reducible assumption | with_reducible apply cntPlane_keeps | with_reducible apply setCtx_keeps | with_reducible apply updPlane_keeps | with_reducible apply sendCtxAck_keeps | intro _ | with_reducible apply Keeps.ite | with_reducible apply Keeps.iteSnd | with_reducible apply Keeps.iteFst | simp only [Keeps.upd] | dsimp only | split)

theorem execTthDataReceive_keeps {s0 : State} (pl : PlaneId) (fr : FrameCheck) (dgram : Bytes) (s : State) (hk : Keeps s0 s) : KeepsO s0 (execTthDataReceive pl fr dgram s) := by
  unfold execTthDataReceive
  repeat (first | with_reducible assumption | with_reducible apply KeepsO.next | with_reducible apply KeepsO.ite | with_reducible refine frameBad_keeps (by with_reducible assumption) ?_ | with_reducible apply notePn_keeps | with_reducible apply discardDgram_keeps | with_reducible apply takeSegment_keeps | intro _ | with_reducible apply Keeps.ite | simp only [Keeps.upd] | dsimp only | split)

theorem takeAckDgram_keeps {s0 : State} (i : Nat) (b : Bytes) (c : Ctx) (s : State) (hk : Keeps s0 s) : Keeps s0 (takeAckDgram i b c s) := by
  unfold takeAckDgram
  repeat (first | with_reducible assumption | with_reducible apply setCtx_keeps | with_reducible apply drainOut_keeps | with_reducible apply drainCtx_keeps | with_reducible apply retransmit_keeps | with_reducible apply Keeps.foldl | intro _ | with_reducible apply Keeps.ite | simp only [Keeps.upd] | dsimp only | split)

theorem execTthAckReceive_keeps {s0 : State} (pl : PlaneId) (fr : FrameCheck) (dgram : Bytes) (s : State) (hk : Keeps s0 s) : KeepsO s0 (execTthAckReceive pl fr dgram s) := by
  unfold execTthAckReceive
  repeat (first | with_reducible assumption | with_reducible apply KeepsO.next | with_reducible apply KeepsO.ite | with_reducible refine frameBad_keeps (by with_reducible assumption) ?_ | with_reducible apply notePn_keeps | with_reducible apply discardDgram_keeps | with_reducible apply takeAckDgram_keeps | intro _ | with_reducible apply Keeps.ite | simp only [Keeps.upd] | dsimp only | split)

theorem ctxOpened_keeps {s0 : State} (i : Nat) (s : State) (hk : Keeps s0 s) : Keeps s0 (ctxOpened i s) := by
  unfold ctxOpened
  repeat (first | with_reducible assumption | with_reducible apply setCtx_keeps | with_reducible apply markReachable_keeps | with_reducible apply drainOut_keeps | with_reducible apply drainCtx_keeps | with_reducible apply noticeCtx_keeps | intro _ | with_reducible apply Keeps.ite | simp only [Keeps.upd] | dsimp only | split)

theorem sendHelloAck_keeps {s0 : State} (i : Nat) (s : State) (hk : Keeps s0 s) : Keeps s0 (sendHelloAck i s) := by
  unfold sendHelloAck
  repeat (first | with_reducible assumption | with_reducible apply sendDgram_keeps | intro _ | with_reducible apply Keeps.ite | simp only [Keeps.upd] | dsimp only | split)

theorem respond_keeps {s0 : State} (i : Nat) (c : Ctx) (s : State) (hk : Keeps s0 s) : Keeps s0 (respond i c s) := by
  unfold respond
  repeat (first | with_reducible assumption | with_reducible apply ctxOpened_keeps | with_reducible apply sendHelloAck_keeps | with_reducible apply setCtx_keeps | intro _ | with_reducible apply Keeps.ite | simp only [Keeps.upd] | dsimp only | split)

theorem execTthHelloReceive_keeps {s0 : State} (pl : PlaneId) (fr : FrameCheck) (dgram : Bytes) (s : State) (hk : Keeps s0 s) : KeepsO s0 (execTthHelloReceive pl fr dgram s) := by
  unfold execTthHelloReceive
  repeat (first | with_reducible assumption | split | with_reducible apply KeepsO.next | with_reducible apply KeepsO.ite | with_reducible refine frameBad_keeps (by with_reducible assumption) ?_ | with_reducible apply discardDgram_keeps | with_reducible apply showEpoch_keeps | with_reducible apply learnStart_keeps | with_reducible apply sendHelloAck_keeps | with_reducible apply respond_keeps | with_reducible apply notePn_keeps | with_reducible refine freeCtx_keeps (by with_reducible assumption) ?_ | dsimp only)

theorem execTthHelloAckReceive_keeps {s0 : State} (pl : PlaneId) (fr : FrameCheck) (dgram : Bytes) (s : State) (hk : Keeps s0 s) : KeepsO s0 (execTthHelloAckReceive pl fr dgram s) := by
  unfold execTthHelloAckReceive
  repeat (first | with_reducible assumption | with_reducible apply KeepsO.next | with_reducible apply KeepsO.ite | with_reducible refine frameBad_keeps (by with_reducible assumption) ?_ | with_reducible apply notePn_keeps | with_reducible apply discardDgram_keeps | with_reducible apply showEpoch_keeps | with_reducible apply learnStart_keeps | with_reducible apply setCtx_keeps | with_reducible apply updPlane_keeps | with_reducible apply ctxOpened_keeps | intro _ | with_reducible apply Keeps.ite | with_reducible apply Keeps.iteSnd | with_reducible apply Keeps.iteFst | simp only [Keeps.upd] | dsimp only | split)

theorem reopenCtx_keeps {s0 : State} (i : Nat) (c : Ctx) (s : State) (hk : Keeps s0 s) : Keeps s0 (reopenCtx i c s) := by
  unfold reopenCtx
  repeat (first | with_reducible assumption | with_reducible apply sendHello_keeps | with_reducible apply setCtx_keeps | intro _ | with_reducible apply Keeps.ite | simp only [Keeps.upd] | dsimp only | split)

theorem execCloseCtxReceive_keeps {s0 : State} (pl : PlaneId) (fr : FrameCheck) (dgram : Bytes) (s : State) (hk : Keeps s0 s) : KeepsO s0 (execCloseCtxReceive pl fr dgram s) := by
  unfold execCloseCtxReceive
  repeat (first | with_reducible assumption | with_reducible apply KeepsO.next | with_reducible apply KeepsO.ite | with_reducible refine frameBad_keeps (by with_reducible assumption) ?_ | with_reducible apply notePn_keeps | with_reducible apply discardDgram_keeps | with_reducible apply drainOut_keeps | with_reducible apply setCtx_keeps | with_reducible apply reopenCtx_keeps | intro _ | with_reducible apply Keeps.ite | simp only [Keeps.upd] | dsimp only | split)

theorem execHelloRetry_keeps {s0 : State} (ctx : Nat) (s : State) (hk : Keeps s0 s) : KeepsO s0 (execHelloRetry ctx s) := by
  unfold execHelloRetry
  repeat (first | with_reducible assumption | with_reducible apply KeepsO.next | with_reducible apply KeepsO.ite | with_reducible apply sendHello_keeps | with_reducible apply setCtx_keeps | intro _ | with_reducible apply Keeps.ite | simp only [Keeps.upd] | dsimp only | split)

theorem execTthAckTimer_keeps {s0 : State} (ctx : Nat) (s : State) (hk : Keeps s0 s) : KeepsO s0 (execTthAckTimer ctx s) := by
  unfold execTthAckTimer
  repeat (first | with_reducible assumption | with_reducible apply KeepsO.next | with_reducible apply KeepsO.ite | with_reducible apply sendCtxAck_keeps | intro _ | with_reducible apply Keeps.ite | simp only [Keeps.upd] | dsimp only | split)

theorem execRtoExpiry_keeps {s0 : State} (ctx : Nat) (s : State) (hk : Keeps s0 s) : KeepsO s0 (execRtoExpiry ctx s) := by
  unfold execRtoExpiry
  repeat (first | with_reducible assumption | with_reducible apply KeepsO.next | with_reducible apply KeepsO.ite | with_reducible apply setCtx_keeps | with_reducible apply retransmit_keeps | with_reducible apply cntPlane_keeps | intro _ | with_reducible apply Keeps.ite | simp only [Keeps.upd] | dsimp only | split)

theorem execContextIdleClose_keeps {s0 : State} (ctx : Nat) (s : State) (hk : Keeps s0 s) : KeepsO s0 (execContextIdleClose ctx s) := by
  unfold execContextIdleClose
  repeat (first | with_reducible assumption | with_reducible apply KeepsO.next | with_reducible apply KeepsO.ite | with_reducible apply drainOut_keeps | with_reducible apply setCtx_keeps | with_reducible apply sendCloseCtx_keeps | intro _ | with_reducible apply Keeps.ite | simp only [Keeps.upd] | dsimp only | split)

theorem execTthRetxExhaust_keeps {s0 : State} (ctx : Nat) (s : State) (hk : Keeps s0 s) : KeepsO s0 (execTthRetxExhaust ctx s) := by
  unfold execTthRetxExhaust
  repeat (first | with_reducible assumption | with_reducible apply KeepsO.next | with_reducible apply KeepsO.ite | with_reducible apply record_keeps | with_reducible apply drainOut_keeps | with_reducible apply endCtx_keeps | intro _ | with_reducible apply Keeps.ite | simp only [Keeps.upd] | dsimp only | split)

theorem noteProbe_keeps {s0 : State} (pl : PlaneId) (d : DevId) (s : State) (hk : Keeps s0 s) : Keeps s0 (noteProbe pl d s) := by
  unfold noteProbe
  repeat (first | with_reducible assumption | with_reducible apply updPlane_keeps | intro _ | with_reducible apply Keeps.ite | with_reducible apply Keeps.iteSnd | with_reducible apply Keeps.iteFst | simp only [Keeps.upd] | dsimp only | split)

theorem execFailedPlaneProbe_keeps {s0 : State} (pl : PlaneId) (peer : DevId) (part : PartId) (s : State) (hk : Keeps s0 s) : KeepsO s0 (execFailedPlaneProbe pl peer part s) := by
  unfold execFailedPlaneProbe
  repeat (first | with_reducible assumption | split | with_reducible apply KeepsO.next | with_reducible apply KeepsO.ite | with_reducible apply sendHello_keeps | with_reducible apply noteProbe_keeps | with_reducible refine freeCtx_keeps (by with_reducible assumption) ?_ | with_reducible apply setCtx_keeps | dsimp only)

theorem execArpNdRequest_keeps {s0 : State} (pl : PlaneId) (frame : EthCheck) (asker target : Nat) (s : State) (hk : Keeps s0 s) : KeepsO s0 (execArpNdRequest pl frame asker target s) := by
  unfold execArpNdRequest
  repeat (first | with_reducible assumption | with_reducible apply KeepsO.next | with_reducible apply KeepsO.ite | with_reducible refine ethBad_keeps (by with_reducible assumption) ?_ | with_reducible apply notePn_keeps | with_reducible apply sendEth_keeps | intro _ | with_reducible apply Keeps.ite | simp only [Keeps.upd] | dsimp only | split)

theorem execNeighbourRefresh_keeps {s0 : State} (pl : PlaneId) (addr : Nat) (s : State) (hk : Keeps s0 s) : KeepsO s0 (execNeighbourRefresh pl addr s) := by
  unfold execNeighbourRefresh
  repeat (first | with_reducible assumption | with_reducible apply KeepsO.next | with_reducible apply KeepsO.ite | with_reducible apply sendEth_keeps | with_reducible apply updPlane_keeps | intro _ | with_reducible apply Keeps.ite | simp only [Keeps.upd] | dsimp only | split)

theorem execIcmpEchoRequest_keeps {s0 : State} (pl : PlaneId) (frame : EthCheck) (asker ident : Nat) (s : State) (hk : Keeps s0 s) : KeepsO s0 (execIcmpEchoRequest pl frame asker ident s) := by
  unfold execIcmpEchoRequest
  repeat (first | with_reducible assumption | with_reducible apply KeepsO.next | with_reducible apply KeepsO.ite | with_reducible refine ethBad_keeps (by with_reducible assumption) ?_ | with_reducible apply notePn_keeps | with_reducible apply sendEth_keeps | with_reducible apply updPlane_keeps | intro _ | with_reducible apply Keeps.ite | simp only [Keeps.upd] | dsimp only | split)

theorem execPauseFrameReceive_keeps {s0 : State} (pl : PlaneId) (s : State) (hk : Keeps s0 s) : KeepsO s0 (execPauseFrameReceive pl s) := by
  unfold execPauseFrameReceive
  repeat (first | with_reducible assumption | with_reducible apply KeepsO.next | with_reducible apply KeepsO.ite | with_reducible apply discardDgram_keeps | intro _ | with_reducible apply Keeps.ite | simp only [Keeps.upd] | dsimp only | split)

theorem execArpNdReplyReceive_keeps {s0 : State} (pl : PlaneId) (frame : EthCheck) (addr mac : Nat) (s : State) (hk : Keeps s0 s) : KeepsO s0 (execArpNdReplyReceive pl frame addr mac s) := by
  unfold execArpNdReplyReceive
  repeat (first | with_reducible assumption | with_reducible apply KeepsO.next | with_reducible apply KeepsO.ite | with_reducible refine ethBad_keeps (by with_reducible assumption) ?_ | with_reducible apply notePn_keeps | with_reducible apply updPlane_keeps | with_reducible apply eachOf_keeps | with_reducible apply sendHello_keeps | intro _ | with_reducible apply Keeps.ite | simp only [Keeps.upd] | dsimp only | split)

theorem execNeighbourResolutionRetry_keeps {s0 : State} (pl : PlaneId) (addr : Nat) (s : State) (hk : Keeps s0 s) : KeepsO s0 (execNeighbourResolutionRetry pl addr s) := by
  unfold execNeighbourResolutionRetry
  repeat (first | with_reducible assumption | with_reducible apply KeepsO.next | with_reducible apply KeepsO.ite | with_reducible apply sendEth_keeps | with_reducible apply updPlane_keeps | intro _ | with_reducible apply Keeps.ite | simp only [Keeps.upd] | dsimp only | split)

theorem setGroupSync_keeps {s0 : State} (g : Bool) (s : State) (hk : Keeps s0 s) : Keeps s0 (setGroupSync g s) := by
  unfold setGroupSync
  repeat (first | with_reducible assumption | intro _ | with_reducible apply Keeps.ite | simp only [Keeps.upd] | dsimp only | split)

theorem steer_keeps {s0 : State} (src : TimeSource) (s : State) (hk : Keeps s0 s) : Keeps s0 (steer src s) := by
  unfold steer
  repeat (first | with_reducible assumption | with_reducible refine takeFree_keeps (by with_reducible assumption) ?_ | with_reducible apply takeFree_snd_keeps | intro _ | with_reducible apply Keeps.ite | with_reducible apply Keeps.iteSnd | with_reducible apply Keeps.iteFst | simp only [Keeps.upd] | dsimp only | split)

theorem sysMeasure_keeps {s0 : State} (off : Int) (s : State) (hk : Keeps s0 s) : Keeps s0 (sysMeasure off s) := by
  unfold sysMeasure
  repeat (first | with_reducible assumption | intro _ | with_reducible apply Keeps.ite | simp only [Keeps.upd] | dsimp only | split)

theorem timeMessageTo_keeps {s0 : State} (fabricCount : Nat) (table : Bytes) (ref : Bool) (m : Nat) (s : State) (hk : Keeps s0 s) : Keeps s0 (timeMessageTo fabricCount table ref m s) := by
  unfold timeMessageTo
  repeat (first | with_reducible assumption | with_reducible apply wakeLink_keeps | with_reducible apply otherFlit_keeps | with_reducible apply updLink_keeps | with_reducible apply emit_keeps | intro _ | with_reducible apply Keeps.ite | simp only [Keeps.upd] | dsimp only | split)

theorem execTimeMessageSend_keeps {s0 : State} (s : State) (hk : Keeps s0 s) : KeepsO s0 (execTimeMessageSend s) := by
  unfold execTimeMessageSend
  repeat (first | with_reducible assumption | with_reducible apply KeepsO.next | with_reducible apply KeepsO.ite | with_reducible apply eachOf_keeps | with_reducible apply timeMessageTo_keeps | with_reducible apply setGroupSync_keeps | intro _ | with_reducible apply Keeps.ite | simp only [Keeps.upd] | dsimp only | split)

theorem hearMember_keeps {s0 : State} (m master : Nat) (s : State) (hk : Keeps s0 s) : Keeps s0 (hearMember m master s) := by
  unfold hearMember
  repeat (first | with_reducible assumption | with_reducible apply judgeMaster_keeps | with_reducible apply setMaster_keeps | intro _ | with_reducible apply Keeps.ite | simp only [Keeps.upd] | dsimp only | split)

theorem takeGroupTime_keeps {s0 : State} (far sysOffset fabricCount : Nat) (table : Bytes) (s : State) (hk : Keeps s0 s) : Keeps s0 (takeGroupTime far sysOffset fabricCount table s) := by
  unfold takeGroupTime
  repeat (first | with_reducible assumption | intro _ | with_reducible apply Keeps.ite | simp only [Keeps.upd] | dsimp only | split)

theorem followTime_keeps {s0 : State} (far sysOffset : Nat) (ref : Bool) (s : State) (hk : Keeps s0 s) : Keeps s0 (followTime far sysOffset ref s) := by
  unfold followTime
  repeat (first | with_reducible assumption | with_reducible apply steer_keeps | with_reducible apply setGroupSync_keeps | with_reducible apply sysMeasure_keeps | intro _ | with_reducible apply Keeps.ite | simp only [Keeps.upd] | dsimp only | split)

theorem execTimeMessageReceive_keeps {s0 : State} (l : LinkId) (dt sysOffset epoch master fabricCount : Nat) (table : Bytes) (ref : Bool) (s : State) (hk : Keeps s0 s) : KeepsO s0 (execTimeMessageReceive l dt sysOffset epoch master fabricCount table ref s) := by
  unfold execTimeMessageReceive
  repeat (first | with_reducible assumption | with_reducible apply KeepsO.next | with_reducible apply KeepsO.ite | with_reducible apply showEpoch_keeps | with_reducible apply hearMember_keeps | with_reducible apply takeGroupTime_keeps | with_reducible apply followTime_keeps | with_reducible apply eachOf_keeps | with_reducible apply timeMessageTo_keeps | intro _ | with_reducible apply Keeps.ite | simp only [Keeps.upd] | dsimp only | split)

theorem execTimeRefLock_keeps {s0 : State} (s : State) (hk : Keeps s0 s) : KeepsO s0 (execTimeRefLock s) := by
  unfold execTimeRefLock
  repeat (first | with_reducible assumption | with_reducible apply KeepsO.next | with_reducible apply KeepsO.ite | intro _ | with_reducible apply Keeps.ite | simp only [Keeps.upd] | dsimp only | split)

theorem execTimeRefLoss_keeps {s0 : State} (s : State) (hk : Keeps s0 s) : KeepsO s0 (execTimeRefLoss s) := by
  unfold execTimeRefLoss
  repeat (first | with_reducible assumption | with_reducible apply KeepsO.next | with_reducible apply KeepsO.ite | intro _ | with_reducible apply Keeps.ite | simp only [Keeps.upd] | dsimp only | split)

theorem execPpsInEdge_keeps {s0 : State} (s : State) (hk : Keeps s0 s) : KeepsO s0 (execPpsInEdge s) := by
  unfold execPpsInEdge
  repeat (first | with_reducible assumption | with_reducible apply KeepsO.next | with_reducible apply KeepsO.ite | with_reducible apply steer_keeps | with_reducible apply sysMeasure_keeps | intro _ | with_reducible apply Keeps.ite | simp only [Keeps.upd] | dsimp only | split)

theorem execPpsOutEdge_keeps {s0 : State} (s : State) (hk : Keeps s0 s) : KeepsO s0 (execPpsOutEdge s) := by
  unfold execPpsOutEdge
  repeat (first | with_reducible assumption | with_reducible apply KeepsO.next | with_reducible apply KeepsO.ite | with_reducible apply emit_keeps | intro _ | with_reducible apply Keeps.ite | simp only [Keeps.upd] | dsimp only | split)

theorem placePtp_keeps {s0 : State} (s : State) (hk : Keeps s0 s) : Keeps s0 (placePtp s) := by
  unfold placePtp
  repeat (first | with_reducible assumption | intro _ | with_reducible apply Keeps.ite | simp only [Keeps.upd] | dsimp only | split)

theorem updPtp_keeps {s0 : State} (f : Ptp → Ptp) (s : State) (hk : Keeps s0 s) : Keeps s0 (updPtp f s) := by
  unfold updPtp
  repeat (first | with_reducible assumption | intro _ | with_reducible apply Keeps.ite | simp only [Keeps.upd] | dsimp only | split)

theorem judgePtp_keeps {s0 : State} (pl : PlaneId) (s : State) (hk : Keeps s0 s) : Keeps s0 (judgePtp pl s) := by
  unfold judgePtp
  repeat (first | with_reducible assumption | with_reducible apply updPtp_keeps | intro _ | with_reducible apply Keeps.ite | simp only [Keeps.upd] | dsimp only | split)

theorem emitPtp_keeps {s0 : State} (pl : PlaneId) (m : PtpMsg) (s : State) (hk : Keeps s0 s) : Keeps s0 (emitPtp pl m s) := by
  unfold emitPtp
  repeat (first | with_reducible assumption | with_reducible apply sendEth_keeps | intro _ | with_reducible apply Keeps.ite | simp only [Keeps.upd] | dsimp only | split)

theorem ptpMeasure_keeps {s0 : State} (ref : Int) (dt : Nat) (s : State) (hk : Keeps s0 s) : Keeps s0 (ptpMeasure ref dt s) := by
  unfold ptpMeasure
  repeat (first | with_reducible assumption | with_reducible apply updPtp_keeps | with_reducible apply steer_keeps | with_reducible apply sysMeasure_keeps | intro _ | with_reducible apply Keeps.ite | simp only [Keeps.upd] | dsimp only | split)

theorem gotSync_keeps {s0 : State} (t1 : Int) (t2 : Nat) (s : State) (hk : Keeps s0 s) : Keeps s0 (gotSync t1 t2 s) := by
  unfold gotSync
  repeat (first | with_reducible assumption | with_reducible apply updPtp_keeps | with_reducible apply ptpMeasure_keeps | intro _ | with_reducible apply Keeps.ite | simp only [Keeps.upd] | dsimp only | split)

theorem ptpReceive_keeps {s0 : State} (pl : PlaneId) (m : PtpMsg) (s : State) (hk : Keeps s0 s) : Keeps s0 (ptpReceive pl m s) := by
  unfold ptpReceive
  repeat (first | with_reducible assumption | with_reducible apply judgePtp_keeps | with_reducible apply updPtp_keeps | with_reducible apply gotSync_keeps | with_reducible apply emitPtp_keeps | intro _ | with_reducible apply Keeps.ite | with_reducible apply Keeps.iteSnd | with_reducible apply Keeps.iteFst | simp only [Keeps.upd] | dsimp only | split)

theorem ptpSend_keeps {s0 : State} (pl : PlaneId) (k : PtpKind) (s : State) (hk : Keeps s0 s) : Keeps s0 (ptpSend pl k s) := by
  unfold ptpSend
  repeat (first | with_reducible assumption | with_reducible apply judgePtp_keeps | with_reducible apply emitPtp_keeps | with_reducible apply updPtp_keeps | with_reducible apply sysMeasure_keeps | intro _ | with_reducible apply Keeps.ite | with_reducible apply Keeps.iteSnd | with_reducible apply Keeps.iteFst | simp only [Keeps.upd] | dsimp only | split)

theorem execPtpEventMessage_keeps {s0 : State} (pl : PlaneId) (e : PtpEvent) (s : State) (hk : Keeps s0 s) : KeepsO s0 (execPtpEventMessage pl e s) := by
  unfold execPtpEventMessage
  repeat (first | with_reducible assumption | with_reducible apply KeepsO.next | with_reducible apply KeepsO.ite | with_reducible apply placePtp_keeps | with_reducible refine ethBad_keeps (by with_reducible assumption) ?_ | with_reducible apply notePn_keeps | with_reducible apply ptpReceive_keeps | with_reducible apply ptpSend_keeps | intro _ | with_reducible apply Keeps.ite | simp only [Keeps.upd] | dsimp only | split)

theorem execSysSyncLoss_keeps {s0 : State} (s : State) (hk : Keeps s0 s) : KeepsO s0 (execSysSyncLoss s) := by
  unfold execSysSyncLoss
  repeat (first | with_reducible assumption | with_reducible apply KeepsO.next | with_reducible apply KeepsO.ite | with_reducible apply updPtp_keeps | intro _ | with_reducible apply Keeps.ite | simp only [Keeps.upd] | dsimp only | split)

theorem execPtpPortMove_keeps {s0 : State} (s : State) (hk : Keeps s0 s) : KeepsO s0 (execPtpPortMove s) := by
  unfold execPtpPortMove
  repeat (first | with_reducible assumption | with_reducible apply KeepsO.next | with_reducible apply KeepsO.ite | with_reducible apply placePtp_keeps | intro _ | with_reducible apply Keeps.ite | simp only [Keeps.upd] | dsimp only | split)

theorem writeBank_wf (s : State) (bank : Bool) (img : Bytes) (h : tabWf flashDefault s.flash = true) : tabWf flashDefault (writeBank s bank img).2 = true := by
  unfold writeBank
  dsimp only
  split
  · exact tabWf_tabClear flashDefault _ _ s.flash h
  · have w := tabWf_flashWriteN (img.drop 4096) _ (bankBase bank + 4096)
      (tabWf_tabClear flashDefault (bankBase bank) (bankBase bank + bankSize) s.flash h)
    split <;> exact w
theorem checkImage_keeps {s0 t : State} {v : Bool} {l : List StageItem} {s : State} (e : checkImage l s = (v, t)) (h : Keeps s0 s) : Keeps s0 t := by
  unfold checkImage at e
  split at e
  · cases e; exact h
  · dsimp only at e
    split at e
    · cases e; exact h
    · cases e
      split <;> exact ⟨h.hbm, h.poison, h.err, fun k => writeBank_wf s _ _ (h.flash k), h.syc, h.fuses, h.pending, h.out, h.free⟩

theorem checkImage_snd_keeps {s0 : State} (is : List StageItem) (s : State) (hk : Keeps s0 s) : Keeps s0 (checkImage is s).2 :=
  checkImage_keeps (Prod.eta _).symm hk

theorem runChecks_keeps {s0 t : State} {v0 : Nat} {v1 : List StageItem} {s : State} (e : runChecks s = (v0, v1, t)) (hk : Keeps s0 s) : Keeps s0 t := by
  unfold runChecks at e
  (try dsimp only at e)
  repeat' split at e
  all_goals (try cases e)
  all_goals repeat (first | with_reducible assumption | with_reducible refine checkImage_keeps (by with_reducible assumption) ?_ | with_reducible apply checkImage_snd_keeps | intro _ | with_reducible apply Keeps.ite | with_reducible apply Keeps.iteSnd | with_reducible apply Keeps.iteFst | simp only [Keeps.upd] | dsimp only | split)

theorem runChecks_snd_keeps {s0 : State} (s : State) (hk : Keeps s0 s) : Keeps s0 (runChecks s).2.2 :=
  runChecks_keeps rfl hk

theorem endStage_keeps {s0 : State} (s : State) (hk : Keeps s0 s) : Keeps s0 (endStage s) := by
  unfold endStage
  repeat (first | with_reducible assumption | with_reducible apply setCommit_keeps | intro _ | with_reducible apply Keeps.ite | simp only [Keeps.upd] | dsimp only | split)

theorem discardStage_keeps {s0 : State} (s : State) (hk : Keeps s0 s) : Keeps s0 (discardStage s) := by
  unfold discardStage
  repeat (first | with_reducible assumption | with_reducible apply endStage_keeps | intro _ | with_reducible apply Keeps.ite | simp only [Keeps.upd] | dsimp only | split)

theorem execCfgStageOpen_keeps {s0 : State} (r : Requester) (v : Nat) (s : State) (hk : Keeps s0 s) : KeepsO s0 (execCfgStageOpen r v s) := by
  unfold execCfgStageOpen
  repeat (first | with_reducible assumption | with_reducible apply KeepsO.next | with_reducible apply KeepsO.ite | with_reducible apply setCommit_keeps | intro _ | with_reducible apply Keeps.ite | simp only [Keeps.upd] | dsimp only | split)

theorem execCfgStageSeal_keeps {s0 : State} (r : Requester) (v : Nat) (s : State) (hk : Keeps s0 s) : KeepsO s0 (execCfgStageSeal r v s) := by
  unfold execCfgStageSeal
  repeat (first | with_reducible assumption | with_reducible apply KeepsO.next | with_reducible apply KeepsO.ite | with_reducible apply setCommit_keeps | intro _ | with_reducible apply Keeps.ite | simp only [Keeps.upd] | dsimp only | split)

theorem execCheckerDone_keeps {s0 : State} (s : State) (hk : Keeps s0 s) : KeepsO s0 (execCheckerDone s) := by
  unfold execCheckerDone
  repeat (first | with_reducible assumption | with_reducible apply KeepsO.next | with_reducible apply KeepsO.ite | with_reducible refine runChecks_keeps (by with_reducible assumption) ?_ | with_reducible apply runChecks_snd_keeps | with_reducible apply setCommit_keeps | with_reducible apply mgtRecord_keeps | intro _ | with_reducible apply Keeps.ite | with_reducible apply Keeps.iteSnd | with_reducible apply Keeps.iteFst | simp only [Keeps.upd] | dsimp only | split)

theorem execCfgStageAbort_keeps {s0 : State} (r : Requester) (v : Nat) (s : State) (hk : Keeps s0 s) : KeepsO s0 (execCfgStageAbort r v s) := by
  unfold execCfgStageAbort
  repeat (first | with_reducible assumption | with_reducible apply KeepsO.next | with_reducible apply KeepsO.ite | with_reducible apply discardStage_keeps | intro _ | with_reducible apply Keeps.ite | simp only [Keeps.upd] | dsimp only | split)

theorem sendCfg_keeps {s0 : State} (d : DevId) (m : CfgMsg) (s : State) (hk : Keeps s0 s) : Keeps s0 (sendCfg d m s) := by
  unfold sendCfg
  repeat (first | with_reducible assumption | with_reducible apply sendMessage_keeps | with_reducible apply emit_keeps | intro _ | with_reducible apply Keeps.ite | simp only [Keeps.upd] | dsimp only | split)

theorem sendCfgAll_keeps {s0 : State} (ds : List DevId) (m : CfgMsg) (s : State) (hk : Keeps s0 s) : Keeps s0 (sendCfgAll ds m s) := by
  unfold sendCfgAll
  repeat (first | with_reducible assumption | with_reducible apply eachOf_keeps | with_reducible apply sendCfg_keeps | intro _ | with_reducible apply Keeps.ite | simp only [Keeps.upd] | dsimp only | split)

theorem recordAbort_keeps {s0 : State} (id reason : Nat) (voter : Option DevId) (s : State) (hk : Keeps s0 s) : Keeps s0 (recordAbort id reason voter s) := by
  unfold recordAbort
  repeat (first | with_reducible assumption | with_reducible apply mgtRecord_keeps | intro _ | with_reducible apply Keeps.ite | simp only [Keeps.upd] | dsimp only | split)

theorem takeAbort_keeps {s0 : State} (reason : Nat) (voter : Option DevId) (s : State) (hk : Keeps s0 s) : Keeps s0 (takeAbort reason voter s) := by
  unfold takeAbort
  repeat (first | with_reducible assumption | with_reducible apply recordAbort_keeps | with_reducible apply discardStage_keeps | intro _ | with_reducible apply Keeps.ite | simp only [Keeps.upd] | dsimp only | split)

theorem passOn_keeps {s0 : State} (h : CommitHead) (s : State) (hk : Keeps s0 s) : Keeps s0 (passOn h s) := by
  unfold passOn
  repeat (first | with_reducible assumption | with_reducible apply sendCfgAll_keeps | intro _ | with_reducible apply Keeps.ite | simp only [Keeps.upd] | dsimp only | split)

theorem takeCommit_keeps {s0 : State} (s : State) (hk : Keeps s0 s) : Keeps s0 (takeCommit s) := by
  unfold takeCommit
  repeat (first | with_reducible assumption | with_reducible apply setCommit_keeps | intro _ | with_reducible apply Keeps.ite | simp only [Keeps.upd] | dsimp only | split)

theorem decideCommit_keeps {s0 : State} (s : State) (hk : Keeps s0 s) : Keeps s0 (decideCommit s) := by
  unfold decideCommit
  repeat (first | with_reducible assumption | with_reducible apply sendCfgAll_keeps | with_reducible apply takeCommit_keeps | with_reducible apply passOn_keeps | intro _ | with_reducible apply Keeps.ite | simp only [Keeps.upd] | dsimp only | split)

theorem decideAbort_keeps {s0 : State} (reason : Nat) (voter : Option DevId) (s : State) (hk : Keeps s0 s) : Keeps s0 (decideAbort reason voter s) := by
  unfold decideAbort
  repeat (first | with_reducible assumption | with_reducible apply takeAbort_keeps | with_reducible apply sendCfgAll_keeps | intro _ | with_reducible apply Keeps.ite | simp only [Keeps.upd] | dsimp only | split)

theorem takeVote_keeps {s0 : State} (src : DevId) (yes : Bool) (reason : Nat) (s : State) (hk : Keeps s0 s) : Keeps s0 (takeVote src yes reason s) := by
  unfold takeVote
  repeat (first | with_reducible assumption | with_reducible apply decideAbort_keeps | with_reducible apply decideCommit_keeps | intro _ | with_reducible apply Keeps.ite | simp only [Keeps.upd] | dsimp only | split)

theorem startVote_keeps {s0 : State} (head : CommitHead) (s : State) (hk : Keeps s0 s) : Keeps s0 (startVote head s) := by
  unfold startVote
  repeat (first | with_reducible assumption | with_reducible apply setCommit_keeps | intro _ | with_reducible apply Keeps.ite | simp only [Keeps.upd] | dsimp only | split)

theorem execCfgStageStart_keeps {s0 : State} (r : Requester) (v : Nat) (s : State) (hk : Keeps s0 s) : KeepsO s0 (execCfgStageStart r v s) := by
  unfold execCfgStageStart
  repeat (first | with_reducible assumption | with_reducible apply KeepsO.next | with_reducible apply KeepsO.ite | with_reducible apply startVote_keeps | with_reducible apply sendCfgAll_keeps | with_reducible apply takeVote_keeps | intro _ | with_reducible apply Keeps.ite | simp only [Keeps.upd] | dsimp only | split)

theorem execVoteRequestReceive_keeps {s0 : State} (src : DevId) (epoch : Nat) (head : CommitHead) (digest : Bytes) (s : State) (hk : Keeps s0 s) : KeepsO s0 (execVoteRequestReceive src epoch head digest s) := by
  unfold execVoteRequestReceive
  repeat (first | with_reducible assumption | with_reducible apply KeepsO.next | with_reducible apply KeepsO.ite | with_reducible apply showEpoch_keeps | with_reducible apply sendCfg_keeps | with_reducible apply setCommit_keeps | intro _ | with_reducible apply Keeps.ite | simp only [Keeps.upd] | dsimp only | split)

theorem execVoteReceive_keeps {s0 : State} (src : DevId) (epoch id : Nat) (yes : Bool) (reason : Nat) (s : State) (hk : Keeps s0 s) : KeepsO s0 (execVoteReceive src epoch id yes reason s) := by
  unfold execVoteReceive
  repeat (first | with_reducible assumption | with_reducible apply KeepsO.next | with_reducible apply KeepsO.ite | with_reducible apply showEpoch_keeps | with_reducible apply takeVote_keeps | intro _ | with_reducible apply Keeps.ite | simp only [Keeps.upd] | dsimp only | split)

theorem execVoteDeadline_keeps {s0 : State} (s : State) (hk : Keeps s0 s) : KeepsO s0 (execVoteDeadline s) := by
  unfold execVoteDeadline
  repeat (first | with_reducible assumption | with_reducible apply KeepsO.next | with_reducible apply KeepsO.ite | with_reducible apply decideAbort_keeps | intro _ | with_reducible apply Keeps.ite | simp only [Keeps.upd] | dsimp only | split)

theorem bumpEpochs_keeps {s0 : State} (h : CommitHead) (s : State) (hk : Keeps s0 s) : Keeps s0 (bumpEpochs h s) := by
  unfold bumpEpochs
  repeat (first | with_reducible assumption | with_reducible apply Keeps.foldl | intro _ | with_reducible apply Keeps.ite | simp only [Keeps.upd] | dsimp only | split)

theorem applyLinkMap_keeps {s0 : State} (k : LinkCfg) (s : State) (hk : Keeps s0 s) : Keeps s0 (applyLinkMap k s) := by
  unfold applyLinkMap
  repeat (first | with_reducible assumption | with_reducible apply eachOf_keeps | with_reducible apply leaveActive_keeps | with_reducible apply planeLeave_keeps | with_reducible apply startLinks_keeps | intro _ | with_reducible apply Keeps.ite | simp only [Keeps.upd] | dsimp only | split)

theorem applyMap_keeps {s0 : State} (m : PlacementItem) (s : State) (hk : Keeps s0 s) : Keeps s0 (applyMap m s) := by
  unfold applyMap
  repeat (first | with_reducible assumption | with_reducible apply updPart_keeps | with_reducible apply Keeps.foldl | intro _ | with_reducible apply Keeps.ite | simp only [Keeps.upd] | dsimp only | split)

theorem applyItem_keeps {s0 : State} (i : StageItem) (s : State) (hk : Keeps s0 s) : Keeps s0 (applyItem i s) := by
  unfold applyItem
  repeat (first | with_reducible assumption | with_reducible apply eachOf_keeps | with_reducible apply setCluster_keeps | with_reducible apply updCluster_keeps | with_reducible apply applyLinkMap_keeps | with_reducible apply applyMap_keeps | with_reducible apply flashWrite_keeps | with_reducible apply secLog_keeps | intro _ | with_reducible apply Keeps.ite | simp only [Keeps.upd] | dsimp only | split)

theorem applyCommit_keeps {s0 : State} (late : Bool) (s : State) (hk : Keeps s0 s) : Keeps s0 (applyCommit late s) := by
  unfold applyCommit
  repeat (first | with_reducible assumption | with_reducible apply eachOf_keeps | with_reducible apply applyItem_keeps | with_reducible apply bumpEpochs_keeps | with_reducible apply endStage_keeps | with_reducible apply drainOut_keeps | with_reducible apply msixPart_keeps | intro _ | with_reducible apply Keeps.ite | simp only [Keeps.upd] | dsimp only | split)

theorem execCommitInstant_keeps {s0 : State} (s : State) (hk : Keeps s0 s) : KeepsO s0 (execCommitInstant s) := by
  unfold execCommitInstant
  repeat (first | with_reducible assumption | with_reducible apply KeepsO.next | with_reducible apply KeepsO.ite | with_reducible apply applyCommit_keeps | with_reducible apply setCommit_keeps | with_reducible apply eachOf_keeps | with_reducible apply bumpEpochs_keeps | intro _ | with_reducible apply Keeps.ite | simp only [Keeps.upd] | dsimp only | split)

theorem takeOutcome_keeps {s0 : State} (commit : Bool) (reason : Nat) (voter : Option DevId) (s : State) (hk : Keeps s0 s) : Keeps s0 (takeOutcome commit reason voter s) := by
  unfold takeOutcome
  repeat (first | with_reducible assumption | with_reducible apply takeCommit_keeps | with_reducible apply takeAbort_keeps | with_reducible apply applyCommit_keeps | with_reducible apply drainOut_keeps | intro _ | with_reducible apply Keeps.ite | simp only [Keeps.upd] | dsimp only | split)

theorem execOutcomeReceive_keeps {s0 : State} (src : DevId) (epoch id : Nat) (commit : Bool) (reason : Nat) (voter : Option DevId) (s : State) (hk : Keeps s0 s) : KeepsO s0 (execOutcomeReceive src epoch id commit reason voter s) := by
  unfold execOutcomeReceive
  repeat (first | with_reducible assumption | with_reducible apply KeepsO.next | with_reducible apply KeepsO.ite | with_reducible apply showEpoch_keeps | with_reducible apply takeOutcome_keeps | with_reducible apply recordAbort_keeps | intro _ | with_reducible apply Keeps.ite | with_reducible apply Keeps.iteSnd | with_reducible apply Keeps.iteFst | simp only [Keeps.upd] | dsimp only | split)

theorem execAnnouncementReceive_keeps {s0 : State} (src : DevId) (epoch : Nat) (head : CommitHead) (s : State) (hk : Keeps s0 s) : KeepsO s0 (execAnnouncementReceive src epoch head s) := by
  unfold execAnnouncementReceive
  repeat (first | with_reducible assumption | with_reducible apply KeepsO.next | with_reducible apply KeepsO.ite | with_reducible apply showEpoch_keeps | with_reducible apply passOn_keeps | with_reducible apply bumpEpochs_keeps | intro _ | with_reducible apply Keeps.ite | simp only [Keeps.upd] | dsimp only | split)

theorem execFencedQuery_keeps {s0 : State} (s : State) (hk : Keeps s0 s) : KeepsO s0 (execFencedQuery s) := by
  unfold execFencedQuery
  repeat (first | with_reducible assumption | with_reducible apply KeepsO.next | with_reducible apply KeepsO.ite | with_reducible apply sendCfgAll_keeps | intro _ | with_reducible apply Keeps.ite | simp only [Keeps.upd] | dsimp only | split)

theorem execQueryReceive_keeps {s0 : State} (src : DevId) (epoch : Nat) (msg : CfgMsg) (s : State) (hk : Keeps s0 s) : KeepsO s0 (execQueryReceive src epoch msg s) := by
  unfold execQueryReceive
  repeat (first | with_reducible assumption | with_reducible apply KeepsO.next | with_reducible apply KeepsO.ite | with_reducible apply showEpoch_keeps | with_reducible apply sendCfg_keeps | with_reducible apply takeOutcome_keeps | intro _ | with_reducible apply Keeps.ite | with_reducible apply Keeps.iteSnd | with_reducible apply Keeps.iteFst | simp only [Keeps.upd] | dsimp only | split)

theorem execFenceTimeout_keeps {s0 : State} (s : State) (hk : Keeps s0 s) : KeepsO s0 (execFenceTimeout s) := by
  unfold execFenceTimeout
  repeat (first | with_reducible assumption | with_reducible apply KeepsO.next | with_reducible apply KeepsO.ite | with_reducible apply takeOutcome_keeps | intro _ | with_reducible apply Keeps.ite | simp only [Keeps.upd] | dsimp only | split)

theorem sendRefuse_keeps {s0 : State} (d : DevId) (p : PartId) (reason : Nat) (k : Packet) (s : State) (hk : Keeps s0 s) : Keeps s0 (sendRefuse d p reason k s) := by
  unfold sendRefuse
  repeat (first | with_reducible assumption | with_reducible apply sendTo_keeps | with_reducible apply cntPart64_keeps | intro _ | with_reducible apply Keeps.ite | simp only [Keeps.upd] | dsimp only | split)

theorem judgeEpoch_keeps {s0 t : State} {v : Bool} {src : DevId} {e dt : Nat} {s : State} (e : judgeEpoch src e dt s = (v, t)) (hk : Keeps s0 s) : Keeps s0 t := by
  unfold judgeEpoch at e
  (try dsimp only at e)
  repeat' split at e
  all_goals (try cases e)
  all_goals repeat (first | with_reducible assumption | with_reducible apply showEpoch_keeps | with_reducible apply cntDev_keeps | intro _ | with_reducible apply Keeps.ite | with_reducible apply Keeps.iteSnd | with_reducible apply Keeps.iteFst | simp only [Keeps.upd] | dsimp only | split)

theorem judgeEpoch_snd_keeps {s0 : State} (src : DevId) (e dt : Nat) (s : State) (hk : Keeps s0 s) : Keeps s0 (judgeEpoch src e dt s).2 :=
  judgeEpoch_keeps (Prod.eta _).symm hk

theorem refuseEpoch_keeps {s0 : State} (src : DevId) (p : PartId) (e : Nat) (k : Packet) (source : Nat) (quiet : Bool) (s : State) (hk : Keeps s0 s) : Keeps s0 (refuseEpoch src p e k source quiet s) := by
  unfold refuseEpoch
  repeat (first | with_reducible assumption | with_reducible apply cntDev_keeps | with_reducible apply record_keeps | with_reducible apply sendRefuse_keeps | with_reducible apply sendCfg_keeps | intro _ | with_reducible apply Keeps.ite | simp only [Keeps.upd] | dsimp only | split)

theorem stepLoses_keeps {s0 : State} (h : Nat) (d : DevId) (s : State) (hk : Keeps s0 s) : Keeps s0 (stepLoses h d s) := by
  unfold stepLoses
  repeat (first | with_reducible assumption | with_reducible apply updComm_keeps | with_reducible apply loseMember_keeps | intro _ | with_reducible apply Keeps.ite | simp only [Keeps.upd] | dsimp only | split)

theorem endAborted_keeps {s0 : State} (h : Nat) (s : State) (hk : Keeps s0 s) : Keeps s0 (endAborted h s) := by
  unfold endAborted
  repeat (first | with_reducible assumption | with_reducible apply cmdFail_keeps | with_reducible apply updPart_keeps | intro _ | with_reducible apply Keeps.ite | simp only [Keeps.upd] | dsimp only | split)

theorem raiseAbort_keeps {s0 : State} (h code : Nat) (dev : DevId) (s : State) (hk : Keeps s0 s) : Keeps s0 (raiseAbort h code dev s) := by
  unfold raiseAbort
  repeat (first | with_reducible assumption | with_reducible apply endAborted_keeps | with_reducible apply abortComm_keeps | intro _ | with_reducible apply Keeps.ite | simp only [Keeps.upd] | dsimp only | split)

theorem recordLoss_keeps {s0 : State} (h : Nat) (p : PartId) (d : DevId) (s : State) (hk : Keeps s0 s) : Keeps s0 (recordLoss h p d s) := by
  unfold recordLoss
  repeat (first | with_reducible assumption | with_reducible apply record_keeps | intro _ | with_reducible apply Keeps.ite | simp only [Keeps.upd] | dsimp only | split)

theorem loseFrom_keeps {s0 : State} (h : Nat) (d : DevId) (s : State) (hk : Keeps s0 s) : Keeps s0 (loseFrom h d s) := by
  unfold loseFrom
  repeat (first | with_reducible assumption | with_reducible apply recordLoss_keeps | with_reducible apply updComm_keeps | with_reducible apply abortComm_keeps | with_reducible apply markUnreachable_keeps | with_reducible apply endAborted_keeps | with_reducible apply stepLoses_keeps | intro _ | with_reducible apply Keeps.ite | simp only [Keeps.upd] | dsimp only | split)

theorem loseLate_keeps {s0 : State} (h : Nat) (d : DevId) (s : State) (hk : Keeps s0 s) : Keeps s0 (loseLate h d s) := by
  unfold loseLate
  repeat (first | with_reducible assumption | with_reducible apply updComm_keeps | with_reducible apply recordLoss_keeps | with_reducible apply stepLoses_keeps | with_reducible apply markUnreachable_keeps | intro _ | with_reducible apply Keeps.ite | simp only [Keeps.upd] | dsimp only | split)

theorem lostMember_keeps {s0 : State} (h : Nat) (d : DevId) (s : State) (hk : Keeps s0 s) : Keeps s0 (lostMember h d s) := by
  unfold lostMember
  repeat (first | with_reducible assumption | with_reducible apply loseFrom_keeps | with_reducible apply loseLate_keeps | intro _ | with_reducible apply Keeps.ite | simp only [Keeps.upd] | dsimp only | split)

theorem epochLoses_keeps {s0 : State} (d : DevId) (p : PartId) (e : Nat) (s : State) (hk : Keeps s0 s) : Keeps s0 (epochLoses d p e s) := by
  unfold epochLoses
  repeat (first | with_reducible assumption | with_reducible apply eachOf_keeps | with_reducible apply updComm_keeps | with_reducible apply lostMember_keeps | intro _ | with_reducible apply Keeps.ite | with_reducible apply Keeps.iteSnd | with_reducible apply Keeps.iteFst | simp only [Keeps.upd] | dsimp only | split)

theorem judgePart_keeps {s0 t : State} {d : DevId} {p : PartId} {e : Nat} {s : State} (e : judgePart d p e s = some t) (hk : Keeps s0 s) : Keeps s0 t := by
  unfold judgePart at e
  (try dsimp only at e)
  repeat' split at e
  all_goals (try cases e)
  all_goals repeat (first | with_reducible assumption | with_reducible refine seeEpoch_keeps (by with_reducible assumption) ?_ | with_reducible apply epochLoses_keeps | with_reducible apply reissueTo_keeps | intro _ | with_reducible apply Keeps.ite | simp only [Keeps.upd] | dsimp only | split)

theorem runXfr_start_keeps {s0 : State} (p : PartId) (op : Nat) (bd : Bytes → State → State) (s : State)
    (hb : ∀ x t, Keeps s0 t → Keeps s0 (bd x t)) (hk : Keeps s0 s) : Keeps s0 (runXfr.start p op bd s) := by
  unfold runXfr.start
  split
  · exact hb _ _ (takeCmd_keeps (by assumption) hk)
  · exact takeCmd_keeps (by assumption) hk

theorem runXfr_keeps {s0 : State} (p : PartId) (op : Nat) (bd more : Bytes → State → State) (s : State)
    (hb : ∀ x t, Keeps s0 t → Keeps s0 (bd x t)) (hm : ∀ x t, Keeps s0 t → Keeps s0 (more x t)) (hk : Keeps s0 s) :
    Keeps s0 (runXfr p op bd more s) := by
  unfold runXfr
  split
  · split
    · exact hm _ _ hk
    · exact runXfr_start_keeps p op bd s hb hk
  · exact runXfr_start_keeps p op bd s hb hk

theorem setXfrAt_keeps {s0 : State} (p : PartId) (n : Nat) (s : State) (hk : Keeps s0 s) : Keeps s0 (setXfrAt p n s) := by
  unfold setXfrAt
  repeat (first | with_reducible assumption | with_reducible apply updExec_keeps | intro _ | with_reducible apply Keeps.ite | simp only [Keeps.upd] | dsimp only | split)

theorem hostWrite_keeps {s0 : State} (p : PartId) (kind : HostWriteKind) (addr : Nat) (b : Bytes) (s : State) (hk : Keeps s0 s) : Keeps s0 (hostWrite p kind addr b s) := by
  unfold hostWrite
  repeat (first | with_reducible assumption | with_reducible apply dmaPush_keeps | intro _ | with_reducible apply Keeps.ite | simp only [Keeps.upd] | dsimp only | split)

theorem takeSlot_keeps {s0 : State} (p : PartId) (d : Bytes) (m : Model) (i slot : Nat) (s : State) (hk : Keeps s0 s) : Keeps s0 (takeSlot p d m i slot s) := by
  unfold takeSlot
  repeat (first | with_reducible assumption | with_reducible apply updSlot_keeps | with_reducible apply hostRead_keeps | with_reducible apply setXfrAt_keeps | intro _ | with_reducible apply Keeps.ite | simp only [Keeps.upd] | dsimp only | split)

theorem takeSlots_keeps {s0 : State} (p : PartId) (d : Bytes) (m : Model) (base : Nat) : ∀ (x0 : List Nat) (s : State), Keeps s0 s → Keeps s0 (takeSlots p d m base x0 s)
  | [], s, h => by
    unfold takeSlots
    repeat (first | with_reducible assumption | with_reducible apply takeSlot_keeps | with_reducible apply cmdFail_keeps | intro _ | with_reducible apply Keeps.ite | simp only [Keeps.upd] | dsimp only | split)
  | i :: rest, s, h => by
    unfold takeSlots
    repeat (first | with_reducible assumption | with_reducible apply takeSlots_keeps | with_reducible apply takeSlot_keeps | with_reducible apply cmdFail_keeps | intro _ | with_reducible apply Keeps.ite | simp only [Keeps.upd] | dsimp only | split)

theorem tokensInEnd_keeps {s0 : State} (p : PartId) (d : Bytes) (s : State) (hk : Keeps s0 s) : Keeps s0 (tokensInEnd p d s) := by
  unfold tokensInEnd
  repeat (first | with_reducible assumption | with_reducible apply cmdDone_keeps | with_reducible apply updJob_keeps | intro _ | with_reducible apply Keeps.ite | simp only [Keeps.upd] | dsimp only | split)

theorem tokensIn_keeps {s0 : State} (p : PartId) (d : Bytes) (s : State) (hk : Keeps s0 s) : Keeps s0 (tokensIn p d s) := by
  unfold tokensIn
  repeat (first | with_reducible assumption | with_reducible apply cmdFail_keeps | with_reducible apply takeSlots_keeps | with_reducible apply tokensInEnd_keeps | intro _ | with_reducible apply Keeps.ite | simp only [Keeps.upd] | dsimp only | split)

theorem execXfrTokensIn_keeps {s0 : State} (p : PartId) (s : State) (hk : Keeps s0 s) : KeepsO s0 (execXfrTokensIn p s) := by
  unfold execXfrTokensIn
  repeat (first | with_reducible assumption | with_reducible apply KeepsO.next | with_reducible apply KeepsO.ite | with_reducible apply runXfr_keeps | with_reducible apply tokensIn_keeps | intro _ | with_reducible apply Keeps.ite | simp only [Keeps.upd] | dsimp only | split)

theorem recordIntervals_keeps {s0 : State} (p : PartId) (s : State) (hk : Keeps s0 s) : Keeps s0 (recordIntervals p s) := by
  unfold recordIntervals
  repeat (first | with_reducible assumption | with_reducible apply updPart_keeps | with_reducible apply Keeps.foldl | intro _ | with_reducible apply Keeps.ite | with_reducible apply Keeps.iteSnd | with_reducible apply Keeps.iteFst | simp only [Keeps.upd] | dsimp only | split)

theorem outsideMarks_keeps {s0 : State} (p : PartId) (d : Bytes) (s : State) (hk : Keeps s0 s) : Keeps s0 (outsideMarks p d s) := by
  unfold outsideMarks
  repeat (first | with_reducible assumption | with_reducible apply outside_keeps | intro _ | with_reducible apply Keeps.ite | simp only [Keeps.upd] | dsimp only | split)

theorem recordMarks_keeps {s0 : State} (p : PartId) (d : Bytes) (s : State) (hk : Keeps s0 s) : Keeps s0 (recordMarks p d s) := by
  unfold recordMarks
  repeat (first | with_reducible assumption | with_reducible apply cntPart_keeps | with_reducible apply updJob_keeps | with_reducible apply deadlineMiss_keeps | with_reducible apply outsideMarks_keeps | intro _ | with_reducible apply Keeps.ite | simp only [Keeps.upd] | dsimp only | split)

theorem recordCounts_keeps {s0 : State} (p : PartId) (s : State) (hk : Keeps s0 s) : Keeps s0 (recordCounts p s) := by
  unfold recordCounts
  repeat (first | with_reducible assumption | with_reducible apply cntPart64_keeps | with_reducible apply updPart_keeps | with_reducible apply cntPart_keeps | with_reducible apply recordIntervals_keeps | intro _ | with_reducible apply Keeps.ite | simp only [Keeps.upd] | dsimp only | split)

theorem tokensOutRows_keeps {s0 : State} (p : PartId) (d : Bytes) (s : State) (hk : Keeps s0 s) : Keeps s0 (tokensOutRows p d s) := by
  unfold tokensOutRows
  repeat (first | with_reducible assumption | with_reducible apply cmdFail_keeps | with_reducible apply eachOf_keeps | with_reducible apply hostWrite_keeps | with_reducible apply setXfrAt_keeps | with_reducible apply cntPart64_keeps | intro _ | with_reducible apply Keeps.ite | simp only [Keeps.upd] | dsimp only | split)

theorem recordIssued_keeps {s0 : State} (p : PartId) (s : State) (hk : Keeps s0 s) : Keeps s0 (recordIssued p s) := by
  unfold recordIssued
  repeat (first | with_reducible assumption | with_reducible apply record_keeps | with_reducible apply cmdDone_keeps | intro _ | with_reducible apply Keeps.ite | simp only [Keeps.upd] | dsimp only | split)

theorem tokensOutRecord_keeps {s0 : State} (p : PartId) (d : Bytes) (s : State) (hk : Keeps s0 s) : Keeps s0 (tokensOutRecord p d s) := by
  unfold tokensOutRecord
  repeat (first | with_reducible assumption | with_reducible apply recordMarks_keeps | with_reducible apply recordCounts_keeps | with_reducible apply cmdDone_keeps | with_reducible apply updPart_keeps | with_reducible apply setXfrAt_keeps | with_reducible apply record_keeps | with_reducible apply recordIssued_keeps | with_reducible apply settleReleased_keeps | with_reducible apply issueRecord_keeps | intro _ | with_reducible apply Keeps.ite | simp only [Keeps.upd] | dsimp only | split)

theorem heldRecord_keeps {s0 : State} (p : PartId) (s : State) (hk : Keeps s0 s) : Keeps s0 (heldRecord p s) := by
  unfold heldRecord
  repeat (first | with_reducible assumption | with_reducible apply wakeEvent_keeps | with_reducible apply updExec_keeps | intro _ | with_reducible apply Keeps.ite | simp only [Keeps.upd] | dsimp only | split)

theorem tokensOut_keeps {s0 : State} (p : PartId) (d : Bytes) (s : State) (hk : Keeps s0 s) : Keeps s0 (tokensOut p d s) := by
  unfold tokensOut
  repeat (first | with_reducible assumption | with_reducible apply tokensOutRows_keeps | with_reducible apply heldRecord_keeps | with_reducible apply recordIssued_keeps | with_reducible apply outsideMarks_keeps | with_reducible apply dualStart_keeps | with_reducible apply setXfrAt_keeps | with_reducible apply updPart_keeps | with_reducible apply dmaPush_keeps | with_reducible apply tokensOutRecord_keeps | intro _ | with_reducible apply Keeps.ite | simp only [Keeps.upd] | dsimp only | split)

theorem execXfrTokensOut_keeps {s0 : State} (p : PartId) (s : State) (hk : Keeps s0 s) : KeepsO s0 (execXfrTokensOut p s) := by
  unfold execXfrTokensOut
  repeat (first | with_reducible assumption | with_reducible apply KeepsO.next | with_reducible apply KeepsO.ite | with_reducible apply runXfr_keeps | with_reducible apply tokensOut_keeps | intro _ | with_reducible apply Keeps.ite | simp only [Keeps.upd] | dsimp only | split)

theorem copyArrive_keeps {s0 : State} (p : PartId) (off : Nat) (b : Bytes) (bad : Bool) (s : State) (hk : Keeps s0 s) : Keeps s0 (copyArrive p off b bad s) := by
  unfold copyArrive
  repeat (first | with_reducible assumption | with_reducible apply writeCells_keeps | with_reducible apply setXfrAt_keeps | intro _ | with_reducible apply Keeps.ite | simp only [Keeps.upd] | dsimp only | split)

theorem copyStart_keeps {s0 : State} (p : PartId) (d : Bytes) (s : State) (hk : Keeps s0 s) : Keeps s0 (copyStart p d s) := by
  unfold copyStart
  repeat (first | with_reducible assumption | with_reducible apply cmdFail_keeps | with_reducible apply hostRead_keeps | with_reducible apply updExec_keeps | with_reducible apply chargeRead_keeps | with_reducible apply record_keeps | with_reducible apply hostWrite_keeps | with_reducible apply cmdDone_keeps | with_reducible apply copyElems_keeps | with_reducible apply touchTd_keeps | intro _ | with_reducible apply Keeps.ite | with_reducible apply Keeps.iteSnd | with_reducible apply Keeps.iteFst | simp only [Keeps.upd] | dsimp only | split)

theorem copyMore_keeps {s0 : State} (p : PartId) (d : Bytes) (s : State) (hk : Keeps s0 s) : Keeps s0 (copyMore p d s) := by
  unfold copyMore
  repeat (first | with_reducible assumption | with_reducible apply cmdDone_keeps | intro _ | with_reducible apply Keeps.ite | simp only [Keeps.upd] | dsimp only | split)

theorem execXfrCopy_keeps {s0 : State} (p : PartId) (s : State) (hk : Keeps s0 s) : KeepsO s0 (execXfrCopy p s) := by
  unfold execXfrCopy
  repeat (first | with_reducible assumption | with_reducible apply KeepsO.next | with_reducible apply KeepsO.ite | with_reducible apply runXfr_keeps | with_reducible apply copyStart_keeps | with_reducible apply copyMore_keeps | intro _ | with_reducible apply Keeps.ite | simp only [Keeps.upd] | dsimp only | split)

theorem tdWriteAt_keeps {s0 : State} (p : PartId) (t : Bytes) (off : Nat) (b : Bytes) (s : State) (hk : Keeps s0 s) : Keeps s0 (tdWriteAt p t off b s) := by
  unfold tdWriteAt
  repeat (first | with_reducible assumption | with_reducible apply writeCells_keeps | intro _ | with_reducible apply Keeps.ite | simp only [Keeps.upd] | dsimp only | split)

theorem writeResult_keeps {s0 : State} (p : PartId) (v : ColView) (k : Nat) (b : Bytes) (s : State) (hk : Keeps s0 s) : Keeps s0 (writeResult p v k b s) := by
  unfold writeResult
  repeat (first | with_reducible assumption | with_reducible apply tdWriteAt_keeps | intro _ | with_reducible apply Keeps.ite | with_reducible apply Keeps.iteSnd | with_reducible apply Keeps.iteFst | simp only [Keeps.upd] | dsimp only | split)

theorem updRun_keeps {s0 : State} (p : PartId) (f : ColRun → ColRun) (s : State) (hk : Keeps s0 s) : Keeps s0 (updRun p f s) := by
  unfold updRun
  repeat (first | with_reducible assumption | with_reducible apply updPart_keeps | intro _ | with_reducible apply Keeps.ite | simp only [Keeps.upd] | dsimp only | split)

theorem updChunk_keeps {s0 : State} (p : PartId) (k : Nat) (f : ChunkSt → ChunkSt) (s : State) (hk : Keeps s0 s) : Keeps s0 (updChunk p k f s) := by
  unfold updChunk
  repeat (first | with_reducible assumption | with_reducible apply updRun_keeps | intro _ | with_reducible apply Keeps.ite | simp only [Keeps.upd] | dsimp only | split)

theorem sendChunk_keeps {s0 : State} (p : PartId) (v : ColView) (o : ChunkOut) (retx : Bool) (s : State) (hk : Keeps s0 s) : Keeps s0 (sendChunk p v o retx s) := by
  unfold sendChunk
  repeat (first | with_reducible assumption | with_reducible apply updComm_keeps | with_reducible apply eachOf_keeps | with_reducible apply sendPiece_keeps | intro _ | with_reducible apply Keeps.ite | with_reducible apply Keeps.iteSnd | with_reducible apply Keeps.iteFst | simp only [Keeps.upd] | dsimp only | split)

theorem sendMsg_keeps {s0 : State} (p : PartId) (v : ColView) (k : Nat) (o : ChunkOut) (s : State) (hk : Keeps s0 s) : Keeps s0 (sendMsg p v k o s) := by
  unfold sendMsg
  repeat (first | with_reducible assumption | with_reducible apply sendChunk_keeps | with_reducible apply updChunk_keeps | intro _ | with_reducible apply Keeps.ite | simp only [Keeps.upd] | dsimp only | split)

theorem answerChunk_keeps {s0 : State} (p : PartId) (x : Piece) (kind : Nat) (s : State) (hk : Keeps s0 s) : Keeps s0 (answerChunk p x kind s) := by
  unfold answerChunk
  repeat (first | with_reducible assumption | with_reducible apply sendPiece_keeps | intro _ | with_reducible apply Keeps.ite | simp only [Keeps.upd] | dsimp only | split)

theorem noteLag_keeps {s0 : State} (v : ColView) (ownDt : Nat) (ins : List ChunkIn) (s : State) (hk : Keeps s0 s) : Keeps s0 (noteLag v ownDt ins s) := by
  unfold noteLag
  repeat (first | with_reducible assumption | with_reducible apply updComm_keeps | with_reducible apply Keeps.foldl | intro _ | with_reducible apply Keeps.ite | simp only [Keeps.upd] | dsimp only | split)

theorem chunkResult_keeps {s0 : State} (p : PartId) (v : ColView) (k : Nat) (acc : Bytes) (s : State) (hk : Keeps s0 s) : Keeps s0 (chunkResult p v k acc s) := by
  unfold chunkResult
  repeat (first | with_reducible assumption | with_reducible apply eachOf_keeps | with_reducible apply sendMsg_keeps | with_reducible apply updChunk_keeps | with_reducible apply writeResult_keeps | intro _ | with_reducible apply Keeps.ite | simp only [Keeps.upd] | dsimp only | split)

theorem enterRound_keeps {s0 : State} (p : PartId) (v : ColView) (k r : Nat) (acc : Bytes) (s : State) (hk : Keeps s0 s) : Keeps s0 (enterRound p v k r acc s) := by
  unfold enterRound
  repeat (first | with_reducible assumption | with_reducible apply sendMsg_keeps | with_reducible apply updChunk_keeps | with_reducible apply chunkResult_keeps | intro _ | with_reducible apply Keeps.ite | simp only [Keeps.upd] | dsimp only | split)

theorem broadcastOn_keeps {s0 : State} (p : PartId) (v : ColView) (k : Nat) (acc : Bytes) (s : State) (hk : Keeps s0 s) : Keeps s0 (broadcastOn p v k acc s) := by
  unfold broadcastOn
  repeat (first | with_reducible assumption | with_reducible apply eachOf_keeps | with_reducible apply sendMsg_keeps | with_reducible apply chunkResult_keeps | intro _ | with_reducible apply Keeps.ite | simp only [Keeps.upd] | dsimp only | split)

theorem chunkGathered_keeps {s0 : State} (p : PartId) (v : ColView) (c : ChunkSt) (s : State) (hk : Keeps s0 s) : Keeps s0 (chunkGathered p v c s) := by
  unfold chunkGathered
  repeat (first | with_reducible assumption | with_reducible apply updChunk_keeps | with_reducible apply broadcastOn_keeps | with_reducible apply sendMsg_keeps | with_reducible apply enterRound_keeps | with_reducible apply Keeps.foldl | intro _ | with_reducible apply Keeps.ite | with_reducible apply Keeps.iteSnd | with_reducible apply Keeps.iteFst | simp only [Keeps.upd] | dsimp only | split)

theorem chunkStep_keeps {s0 t : State} {p : PartId} {v : ColView} {c : ChunkSt} {s : State} (e : chunkStep p v c s = some t) (hk : Keeps s0 s) : Keeps s0 t := by
  unfold chunkStep at e
  (try dsimp only at e)
  repeat' split at e
  all_goals (try cases e)
  all_goals repeat (first | with_reducible assumption | with_reducible apply noteLag_keeps | with_reducible apply chunkGathered_keeps | with_reducible apply chunkResult_keeps | with_reducible apply enterRound_keeps | with_reducible apply broadcastOn_keeps | with_reducible apply writeResult_keeps | with_reducible apply updChunk_keeps | with_reducible apply Keeps.foldl | intro _ | with_reducible apply Keeps.ite | simp only [Keeps.upd] | dsimp only | split)

theorem openChunk_keeps {s0 : State} (p : PartId) (v : ColView) (s : State) (hk : Keeps s0 s) : Keeps s0 (openChunk p v s) := by
  unfold openChunk
  repeat (first | with_reducible assumption | with_reducible apply updRun_keeps | with_reducible apply sendMsg_keeps | with_reducible apply cntPart_keeps | with_reducible apply Keeps.foldl | intro _ | with_reducible apply Keeps.ite | with_reducible apply Keeps.iteSnd | with_reducible apply Keeps.iteFst | simp only [Keeps.upd] | dsimp only | split)

theorem failSource_keeps {s0 : State} (p : PartId) (v : ColView) (e : CmdErr) (s : State) (hk : Keeps s0 s) : Keeps s0 (failSource p v e s) := by
  unfold failSource
  repeat (first | with_reducible assumption | with_reducible apply cmdFail_keeps | with_reducible apply abortComm_keeps | with_reducible apply updPart_keeps | intro _ | with_reducible apply Keeps.ite | simp only [Keeps.upd] | dsimp only | split)

theorem colStep_keeps {s0 t : State} {p : PartId} {s : State} (e : colStep p s = some t) (h : Keeps s0 s) : Keeps s0 t := by
  unfold colStep at e
  split at e
  · cases e
  · split at e
    · cases e
      exact failSource_keeps _ _ _ _ h
    · split at e
      · cases e
        have w := ‹List.findSome? _ _ = some _›
        obtain ⟨c, _, hc⟩ := List.exists_of_findSome?_eq_some w
        exact chunkStep_keeps hc h
      · dsimp only at e
        repeat' split at e
        all_goals (try cases e)
        all_goals repeat (first | with_reducible assumption | with_reducible apply updRun_keeps | with_reducible apply openChunk_keeps | with_reducible apply updComm_keeps | with_reducible apply cmdDone_keeps | with_reducible apply updPart_keeps | simp only [Keeps.upd] | dsimp only)

theorem setReasm_keeps {s0 : State} (x : Piece) (r : Option Reasm) (s : State) (hk : Keeps s0 s) : Keeps s0 (setReasm x r s) := by
  unfold setReasm
  repeat (first | with_reducible assumption | intro _ | with_reducible apply Keeps.ite | simp only [Keeps.upd] | dsimp only | split)

theorem takeChunk_keeps {s0 : State} (p : PartId) (v : ColView) (x : Piece) (dt : Nat) (data : Bytes) (s : State) (hk : Keeps s0 s) : Keeps s0 (takeChunk p v x dt data s) := by
  unfold takeChunk
  repeat (first | with_reducible assumption | with_reducible apply tdWriteAt_keeps | with_reducible apply updRun_keeps | with_reducible apply updChunk_keeps | with_reducible apply Keeps.foldl | intro _ | with_reducible apply Keeps.ite | simp only [Keeps.upd] | dsimp only | split)

theorem checkChunk_keeps {s0 : State} (p : PartId) (v : ColView) (x : Piece) (dt len : Nat) (s : State) (hk : Keeps s0 s) : Keeps s0 (checkChunk p v x dt len s) := by
  unfold checkChunk
  repeat (first | with_reducible assumption | with_reducible apply answerChunk_keeps | with_reducible apply takeChunk_keeps | with_reducible apply setReasm_keeps | with_reducible apply raiseAbort_keeps | with_reducible apply cntPart_keeps | intro _ | with_reducible apply Keeps.ite | simp only [Keeps.upd] | dsimp only | split)

theorem dataNow_keeps {s0 : State} (x : Piece) (dt : Nat) (s : State) (hk : Keeps s0 s) : Keeps s0 (dataNow x dt s) := by
  unfold dataNow
  repeat (first | with_reducible assumption | with_reducible apply raiseAbort_keeps | with_reducible apply checkChunk_keeps | with_reducible apply setReasm_keeps | intro _ | with_reducible apply Keeps.ite | with_reducible apply Keeps.iteSnd | with_reducible apply Keeps.iteFst | simp only [Keeps.upd] | dsimp only | split)

theorem dataBad_keeps {s0 : State} (x : Piece) (dt : Nat) (s : State) (hk : Keeps s0 s) : Keeps s0 (dataBad x dt s) := by
  unfold dataBad
  repeat (first | with_reducible assumption | with_reducible apply checkChunk_keeps | with_reducible apply setReasm_keeps | intro _ | with_reducible apply Keeps.ite | simp only [Keeps.upd] | dsimp only | split)

theorem notPresent_keeps {s0 : State} (x : Piece) (s : State) (hk : Keeps s0 s) : Keeps s0 (notPresent x s) := by
  unfold notPresent
  repeat (first | with_reducible assumption | with_reducible apply sendPiece_keeps | intro _ | with_reducible apply Keeps.ite | simp only [Keeps.upd] | dsimp only | split)

theorem dataPiece_keeps {s0 t : State} {v : Bool} {src : DevId} {path : Path} {dt : Nat} {b : Bytes} {x : Piece} {s : State} (e : dataPiece src path dt b x s = (v, t)) (hk : Keeps s0 s) : Keeps s0 t := by
  unfold dataPiece at e
  (try dsimp only at e)
  repeat' split at e
  all_goals (try cases e)
  all_goals repeat (first | with_reducible assumption | with_reducible apply notPresent_keeps | with_reducible apply leavePool_keeps | with_reducible apply answerChunk_keeps | with_reducible apply dataNow_keeps | intro _ | with_reducible apply Keeps.ite | simp only [Keeps.upd] | dsimp only | split)

theorem dataPiece_snd_keeps {s0 : State} (src : DevId) (path : Path) (dt : Nat) (b : Bytes) (x : Piece) (s : State) (hk : Keeps s0 s) : Keeps s0 (dataPiece src path dt b x s).2 :=
  dataPiece_keeps (Prod.eta _).symm hk

theorem takeWaiting_keeps {s0 t : State} : ∀ (w : List (DevId × Path × Nat × Bytes)) (done : List (DevId × Path × Nat × Bytes)) (s : State),
    takeWaiting done w s = some t → Keeps s0 s → Keeps s0 t
  | [], done, s, e, h => by
    unfold takeWaiting at e
    cases e
  | x :: w, done, s, e, h => by
    unfold takeWaiting at e
    dsimp only at e
    split at e
    · split at e
      · exact takeWaiting_keeps w _ s e h
      · cases e
        refine dataBad_keeps _ _ _ ?_
        simpa only [Keeps.upd] using h
    · split at e
      · exact takeWaiting_keeps w _ s e h
      · cases e
        refine dataPiece_snd_keeps _ _ _ _ _ _ ?_
        simpa only [Keeps.upd] using h

theorem colLoop_keeps {s0 : State} (p : PartId) : ∀ (n : Nat) (s : State), Keeps s0 s → Keeps s0 (colLoop p n s)
  | 0, s, h => by
    unfold colLoop
    repeat (first | with_reducible assumption | with_reducible refine colStep_keeps (by with_reducible assumption) ?_ | with_reducible refine takeWaiting_keeps (by with_reducible assumption) ?_ | intro _ | with_reducible apply Keeps.ite | simp only [Keeps.upd] | dsimp only | split)
  | n + 1, s, h => by
    unfold colLoop
    repeat (first | with_reducible assumption | with_reducible apply colLoop_keeps | with_reducible refine takeWaiting_keeps _ _ _ (by with_reducible assumption) ?_ | with_reducible refine colStep_keeps (by with_reducible assumption) ?_ | with_reducible refine takeWaiting_keeps (by with_reducible assumption) ?_ | intro _ | with_reducible apply Keeps.ite | simp only [Keeps.upd] | dsimp only | split)

theorem colSettle_keeps {s0 : State} (p : PartId) (s : State) (hk : Keeps s0 s) : Keeps s0 (colSettle p s) := by
  unfold colSettle
  repeat (first | with_reducible assumption | with_reducible apply colLoop_keeps | intro _ | with_reducible apply Keeps.ite | simp only [Keeps.upd] | dsimp only | split)

theorem becomeActive_keeps {s0 : State} (h : Nat) (s : State) (hk : Keeps s0 s) : Keeps s0 (becomeActive h s) := by
  unfold becomeActive
  repeat (first | with_reducible assumption | with_reducible apply updComm_keeps | with_reducible apply cmdDone_keeps | with_reducible apply updStream_keeps | intro _ | with_reducible apply Keeps.ite | with_reducible apply Keeps.iteSnd | with_reducible apply Keeps.iteFst | simp only [Keeps.upd] | dsimp only | split)

theorem sendReady_keeps {s0 : State} (c : Comm) (ds : List DevId) (s : State) (hk : Keeps s0 s) : Keeps s0 (sendReady c ds s) := by
  unfold sendReady
  repeat (first | with_reducible assumption | with_reducible apply eachOf_keeps | with_reducible apply sendPiece_keeps | intro _ | with_reducible apply Keeps.ite | simp only [Keeps.upd] | dsimp only | split)

theorem takeReady_keeps {s0 : State} (h : Nat) (s : State) (hk : Keeps s0 s) : Keeps s0 (takeReady h s) := by
  unfold takeReady
  repeat (first | with_reducible assumption | with_reducible apply becomeActive_keeps | with_reducible apply sendReady_keeps | intro _ | with_reducible apply Keeps.ite | simp only [Keeps.upd] | dsimp only | split)

theorem joinSettle_keeps {s0 : State} (h : Nat) (s : State) (hk : Keeps s0 s) : Keeps s0 (joinSettle h s) := by
  unfold joinSettle
  repeat (first | with_reducible assumption | with_reducible apply sendPiece_keeps | with_reducible apply updComm_keeps | with_reducible apply takeReady_keeps | with_reducible apply sendReady_keeps | intro _ | with_reducible apply Keeps.ite | simp only [Keeps.upd] | dsimp only | split)

theorem createFails_keeps {s0 : State} (p : PartId) (ct status : Nat) (s : State) (hk : Keeps s0 s) : Keeps s0 (createFails p ct status s) := by
  unfold createFails
  repeat (first | with_reducible assumption | with_reducible apply cmdDone_keeps | with_reducible apply updStream_keeps | intro _ | with_reducible apply Keeps.ite | simp only [Keeps.upd] | dsimp only | split)

theorem startCreate_keeps {s0 : State} (p : PartId) (d : Bytes) (m : List DevId) (s : State) (hk : Keeps s0 s) : Keeps s0 (startCreate p d m s) := by
  unfold startCreate
  repeat (first | with_reducible assumption | with_reducible apply createFails_keeps | with_reducible apply updExec_keeps | with_reducible apply setComm_keeps | with_reducible apply joinSettle_keeps | with_reducible apply sendPiece_keeps | intro _ | with_reducible apply Keeps.ite | with_reducible apply Keeps.iteSnd | with_reducible apply Keeps.iteFst | simp only [Keeps.upd] | dsimp only | split)

theorem execColCommCreate_keeps {s0 : State} (p : PartId) (s : State) (hk : Keeps s0 s) : KeepsO s0 (execColCommCreate p s) := by
  unfold execColCommCreate
  repeat (first | with_reducible assumption | with_reducible apply KeepsO.next | with_reducible apply KeepsO.ite | with_reducible apply runCmd_keeps | with_reducible apply cmdFail_keeps | with_reducible apply startCreate_keeps | with_reducible apply chargeRead_keeps | intro _ | with_reducible apply Keeps.ite | with_reducible apply Keeps.iteSnd | with_reducible apply Keeps.iteFst | simp only [Keeps.upd] | dsimp only | split)

theorem execColCommDestroy_keeps {s0 : State} (p : PartId) (s : State) (hk : Keeps s0 s) : KeepsO s0 (execColCommDestroy p s) := by
  unfold execColCommDestroy
  repeat (first | with_reducible assumption | with_reducible apply KeepsO.next | with_reducible apply KeepsO.ite | with_reducible apply runCmd_keeps | with_reducible apply cmdFail_keeps | with_reducible apply cmdDone_keeps | with_reducible apply setComm_keeps | intro _ | with_reducible apply Keeps.ite | simp only [Keeps.upd] | dsimp only | split)

theorem beginRun_keeps {s0 : State} (p : PartId) (r : ColRun) (s : State) (hk : Keeps s0 s) : Keeps s0 (beginRun p r s) := by
  unfold beginRun
  repeat (first | with_reducible assumption | with_reducible apply updPart_keeps | with_reducible apply updRun_keeps | with_reducible apply touchTd_keeps | with_reducible apply tdWriteAt_keeps | with_reducible apply colSettle_keeps | with_reducible apply Keeps.foldl | intro _ | with_reducible apply Keeps.ite | simp only [Keeps.upd] | dsimp only | split)

theorem colStart_keeps {s0 : State} (p : PartId) (op : Nat) (d : Bytes) (s : State) (hk : Keeps s0 s) : Keeps s0 (colStart p op d s) := by
  unfold colStart
  repeat (first | with_reducible assumption | with_reducible apply cmdFail_keeps | with_reducible apply abortComm_keeps | with_reducible apply beginRun_keeps | intro _ | with_reducible apply Keeps.ite | simp only [Keeps.upd] | dsimp only | split)

theorem execColAllreduce_keeps {s0 : State} (p : PartId) (s : State) (hk : Keeps s0 s) : KeepsO s0 (execColAllreduce p s) := by
  unfold execColAllreduce
  repeat (first | with_reducible assumption | with_reducible apply KeepsO.next | with_reducible apply KeepsO.ite | with_reducible apply runCmd_keeps | with_reducible apply colStart_keeps | intro _ | with_reducible apply Keeps.ite | simp only [Keeps.upd] | dsimp only | split)

theorem execColAllgather_keeps {s0 : State} (p : PartId) (s : State) (hk : Keeps s0 s) : KeepsO s0 (execColAllgather p s) := by
  unfold execColAllgather
  repeat (first | with_reducible assumption | with_reducible apply KeepsO.next | with_reducible apply KeepsO.ite | with_reducible apply runCmd_keeps | with_reducible apply colStart_keeps | intro _ | with_reducible apply Keeps.ite | simp only [Keeps.upd] | dsimp only | split)

theorem execColReducescatter_keeps {s0 : State} (p : PartId) (s : State) (hk : Keeps s0 s) : KeepsO s0 (execColReducescatter p s) := by
  unfold execColReducescatter
  repeat (first | with_reducible assumption | with_reducible apply KeepsO.next | with_reducible apply KeepsO.ite | with_reducible apply runCmd_keeps | with_reducible apply colStart_keeps | intro _ | with_reducible apply Keeps.ite | simp only [Keeps.upd] | dsimp only | split)

theorem execColBroadcast_keeps {s0 : State} (p : PartId) (s : State) (hk : Keeps s0 s) : KeepsO s0 (execColBroadcast p s) := by
  unfold execColBroadcast
  repeat (first | with_reducible assumption | with_reducible apply KeepsO.next | with_reducible apply KeepsO.ite | with_reducible apply runCmd_keeps | with_reducible apply colStart_keeps | intro _ | with_reducible apply Keeps.ite | simp only [Keeps.upd] | dsimp only | split)

theorem execColBarrier_keeps {s0 : State} (p : PartId) (s : State) (hk : Keeps s0 s) : KeepsO s0 (execColBarrier p s) := by
  unfold execColBarrier
  repeat (first | with_reducible assumption | with_reducible apply KeepsO.next | with_reducible apply KeepsO.ite | with_reducible apply runCmd_keeps | with_reducible apply colStart_keeps | intro _ | with_reducible apply Keeps.ite | simp only [Keeps.upd] | dsimp only | split)

theorem execColAlltoallv_keeps {s0 : State} (p : PartId) (s : State) (hk : Keeps s0 s) : KeepsO s0 (execColAlltoallv p s) := by
  unfold execColAlltoallv
  repeat (first | with_reducible assumption | with_reducible apply KeepsO.next | with_reducible apply KeepsO.ite | with_reducible apply runCmd_keeps | with_reducible apply colStart_keeps | intro _ | with_reducible apply Keeps.ite | simp only [Keeps.upd] | dsimp only | split)

theorem execColBallotMerge_keeps {s0 : State} (p : PartId) (s : State) (hk : Keeps s0 s) : KeepsO s0 (execColBallotMerge p s) := by
  unfold execColBallotMerge
  repeat (first | with_reducible assumption | with_reducible apply KeepsO.next | with_reducible apply KeepsO.ite | with_reducible apply runCmd_keeps | with_reducible apply colStart_keeps | intro _ | with_reducible apply Keeps.ite | simp only [Keeps.upd] | dsimp only | split)

theorem ifActive_keeps {s0 : State} (x : Piece) (s : State) (hk : Keeps s0 s) : Keeps s0 (ifActive x s) := by
  unfold ifActive
  repeat (first | with_reducible assumption | with_reducible apply notPresent_keeps | intro _ | with_reducible apply Keeps.ite | simp only [Keeps.upd] | dsimp only | split)

theorem ackPiece_keeps {s0 : State} (x : Piece) (s : State) (hk : Keeps s0 s) : Keeps s0 (ackPiece x s) := by
  unfold ackPiece
  repeat (first | with_reducible assumption | with_reducible apply updRun_keeps | intro _ | with_reducible apply Keeps.ite | simp only [Keeps.upd] | dsimp only | split)

theorem nackPiece_keeps {s0 : State} (x : Piece) (s : State) (hk : Keeps s0 s) : Keeps s0 (nackPiece x s) := by
  unfold nackPiece
  repeat (first | with_reducible assumption | with_reducible apply sendChunk_keeps | intro _ | with_reducible apply Keeps.ite | simp only [Keeps.upd] | dsimp only | split)

theorem holdJoin_keeps {s0 : State} (x : Piece) (s : State) (hk : Keeps s0 s) : Keeps s0 (holdJoin x s) := by
  unfold holdJoin
  repeat (first | with_reducible assumption | intro _ | with_reducible apply Keeps.ite | simp only [Keeps.upd] | dsimp only | split)

theorem joinPiece_keeps {s0 : State} (x : Piece) (s : State) (hk : Keeps s0 s) : Keeps s0 (joinPiece x s) := by
  unfold joinPiece
  repeat (first | with_reducible assumption | with_reducible apply ifActive_keeps | with_reducible apply joinSettle_keeps | with_reducible apply holdJoin_keeps | with_reducible apply notPresent_keeps | intro _ | with_reducible apply Keeps.ite | simp only [Keeps.upd] | dsimp only | split)

theorem readyPiece_keeps {s0 : State} (x : Piece) (s : State) (hk : Keeps s0 s) : Keeps s0 (readyPiece x s) := by
  unfold readyPiece
  repeat (first | with_reducible assumption | with_reducible apply takeReady_keeps | with_reducible apply ifActive_keeps | intro _ | with_reducible apply Keeps.ite | simp only [Keeps.upd] | dsimp only | split)

theorem abortPiece_keeps {s0 : State} (x : Piece) (s : State) (hk : Keeps s0 s) : Keeps s0 (abortPiece x s) := by
  unfold abortPiece
  repeat (first | with_reducible assumption | with_reducible apply updComm_keeps | with_reducible apply sendAbort_keeps | with_reducible apply stepLoses_keeps | with_reducible apply markUnreachable_keeps | with_reducible apply endAborted_keeps | intro _ | with_reducible apply Keeps.ite | simp only [Keeps.upd] | dsimp only | split)

theorem probePiece_keeps {s0 : State} (x : Piece) (s : State) (hk : Keeps s0 s) : Keeps s0 (probePiece x s) := by
  unfold probePiece
  repeat (first | with_reducible assumption | with_reducible apply sendPiece_keeps | with_reducible apply notPresent_keeps | intro _ | with_reducible apply Keeps.ite | simp only [Keeps.upd] | dsimp only | split)

theorem answered_keeps {s0 : State} (p : PartId) (d : DevId) (s : State) (hk : Keeps s0 s) : Keeps s0 (answered p d s) := by
  unfold answered
  repeat (first | with_reducible assumption | with_reducible apply updConj_keeps | with_reducible apply updRun_keeps | intro _ | with_reducible apply Keeps.ite | with_reducible apply Keeps.iteSnd | with_reducible apply Keeps.iteFst | simp only [Keeps.upd] | dsimp only | split)

theorem probeAckPiece_keeps {s0 : State} (x : Piece) (s : State) (hk : Keeps s0 s) : Keeps s0 (probeAckPiece x s) := by
  unfold probeAckPiece
  repeat (first | with_reducible assumption | with_reducible apply answered_keeps | with_reducible apply loseLate_keeps | with_reducible apply lostMember_keeps | intro _ | with_reducible apply Keeps.ite | with_reducible apply Keeps.iteSnd | with_reducible apply Keeps.iteFst | simp only [Keeps.upd] | dsimp only | split)

theorem deliverPiece_keeps {s0 : State} (src : DevId) (path : Path) (dt : Nat) (b : Bytes) (x : Piece) (s : State) (hk : Keeps s0 s) : Keeps s0 (deliverPiece src path dt b x s) := by
  unfold deliverPiece
  repeat (first | with_reducible assumption | with_reducible refine dataPiece_keeps (by with_reducible assumption) ?_ | with_reducible apply dataPiece_snd_keeps | with_reducible apply leavePool_keeps | with_reducible apply ackPiece_keeps | with_reducible apply ifActive_keeps | with_reducible apply nackPiece_keeps | with_reducible apply joinPiece_keeps | with_reducible apply readyPiece_keeps | with_reducible apply abortPiece_keeps | with_reducible apply probePiece_keeps | with_reducible apply probeAckPiece_keeps | with_reducible apply cntPart_keeps | with_reducible apply colSettle_keeps | intro _ | with_reducible apply Keeps.ite | with_reducible apply Keeps.iteSnd | with_reducible apply Keeps.iteFst | simp only [Keeps.upd] | dsimp only | split)

theorem probeMember_keeps {s0 : State} (p : PartId) (d : DevId) (s : State) (hk : Keeps s0 s) : Keeps s0 (probeMember p d s) := by
  unfold probeMember
  repeat (first | with_reducible assumption | with_reducible apply colSettle_keeps | with_reducible apply loseFrom_keeps | with_reducible apply updRun_keeps | with_reducible apply sendPiece_keeps | intro _ | with_reducible apply Keeps.ite | with_reducible apply Keeps.iteSnd | with_reducible apply Keeps.iteFst | simp only [Keeps.upd] | dsimp only | split)

theorem execColProbeTimer_keeps {s0 : State} (p : PartId) (s : State) (hk : Keeps s0 s) : KeepsO s0 (execColProbeTimer p s) := by
  unfold execColProbeTimer
  repeat (first | with_reducible assumption | with_reducible apply KeepsO.next | with_reducible apply KeepsO.ite | with_reducible apply eachOf_keeps | with_reducible apply probeMember_keeps | intro _ | with_reducible apply Keeps.ite | simp only [Keeps.upd] | dsimp only | split)

theorem execColProbeTimeout_keeps {s0 : State} (p : PartId) (dev : DevId) (s : State) (hk : Keeps s0 s) : KeepsO s0 (execColProbeTimeout p dev s) := by
  unfold execColProbeTimeout
  repeat (first | with_reducible assumption | with_reducible apply KeepsO.next | with_reducible apply KeepsO.ite | with_reducible apply colSettle_keeps | with_reducible apply loseFrom_keeps | with_reducible apply lostMember_keeps | intro _ | with_reducible apply Keeps.ite | simp only [Keeps.upd] | dsimp only | split)

theorem createLapse_keeps {s0 : State} (p : PartId) (h : Nat) (s : State) (hk : Keeps s0 s) : Keeps s0 (createLapse p h s) := by
  unfold createLapse
  repeat (first | with_reducible assumption | with_reducible apply setComm_keeps | with_reducible apply createFails_keeps | intro _ | with_reducible apply Keeps.ite | with_reducible apply Keeps.iteSnd | with_reducible apply Keeps.iteFst | simp only [Keeps.upd] | dsimp only | split)

theorem execCommCreateTimeout_keeps {s0 : State} (p : PartId) (s : State) (hk : Keeps s0 s) : KeepsO s0 (execCommCreateTimeout p s) := by
  unfold execCommCreateTimeout
  repeat (first | with_reducible assumption | with_reducible apply KeepsO.next | with_reducible apply KeepsO.ite | with_reducible apply eachOf_keeps | with_reducible apply createLapse_keeps | intro _ | with_reducible apply Keeps.ite | simp only [Keeps.upd] | dsimp only | split)

theorem execColCommandTimeout_keeps {s0 : State} (p : PartId) (s : State) (hk : Keeps s0 s) : KeepsO s0 (execColCommandTimeout p s) := by
  unfold execColCommandTimeout
  repeat (first | with_reducible assumption | with_reducible apply KeepsO.next | with_reducible apply KeepsO.ite | with_reducible apply raiseAbort_keeps | intro _ | with_reducible apply Keeps.ite | simp only [Keeps.upd] | dsimp only | split)

theorem execReducerSlotGrant_keeps {s0 : State} (s : State) (hk : Keeps s0 s) : KeepsO s0 (execReducerSlotGrant s) := by
  unfold execReducerSlotGrant
  repeat (first | with_reducible assumption | with_reducible apply KeepsO.next | with_reducible apply KeepsO.ite | with_reducible apply colSettle_keeps | with_reducible apply updChunk_keeps | intro _ | with_reducible apply Keeps.ite | with_reducible apply Keeps.iteSnd | with_reducible apply Keeps.iteFst | simp only [Keeps.upd] | dsimp only | split)

theorem refuseBare_keeps {s0 : State} (k : PortId) (s : State) (hk : Keeps s0 s) : Keeps s0 (refuseBare k s) := by
  unfold refuseBare
  repeat (first | with_reducible assumption | with_reducible apply cntPort_keeps | with_reducible apply record_keeps | with_reducible apply secLogMerged_keeps | intro _ | with_reducible apply Keeps.ite | simp only [Keeps.upd] | dsimp only | split)

theorem leaveL1_keeps {s0 : State} (k : PortId) (s : State) (hk : Keeps s0 s) : Keeps s0 (leaveL1 k s) := by
  unfold leaveL1
  repeat (first | with_reducible assumption | with_reducible apply updPort_keeps | intro _ | with_reducible apply Keeps.ite | simp only [Keeps.upd] | dsimp only | split)

theorem hostMem_keeps {s0 t : State} {v : MemGate} {k : PortId} {bare : Bool} {bar0 : Option Nat} {s : State} (e : hostMem k bare bar0 s = (v, t)) (hk : Keeps s0 s) : Keeps s0 t := by
  unfold hostMem at e
  (try dsimp only at e)
  repeat' split at e
  all_goals (try cases e)
  all_goals repeat (first | with_reducible assumption | with_reducible apply leaveL1_keeps | with_reducible apply refuseBare_keeps | intro _ | with_reducible apply Keeps.ite | simp only [Keeps.upd] | dsimp only | split)

theorem hostMem_snd_keeps {s0 : State} (k : PortId) (bare : Bool) (bar0 : Option Nat) (s : State) (hk : Keeps s0 s) : Keeps s0 (hostMem k bare bar0 s).2 :=
  hostMem_keeps (Prod.eta _).symm hk

theorem hostPart_keeps {s0 t : State} {v : Option PartId} {r : Requester} {off : Nat} {s : State} (e : hostPart r off s = (v, t)) (hk : Keeps s0 s) : Keeps s0 t := by
  unfold hostPart at e
  (try dsimp only at e)
  repeat' split at e
  all_goals (try cases e)
  all_goals repeat (first | with_reducible assumption | with_reducible refine hostMem_keeps (by with_reducible assumption) ?_ | with_reducible apply hostMem_snd_keeps | intro _ | with_reducible apply Keeps.ite | with_reducible apply Keeps.iteSnd | with_reducible apply Keeps.iteFst | simp only [Keeps.upd] | dsimp only | split)

theorem hostPart_snd_keeps {s0 : State} (r : Requester) (off : Nat) (s : State) (hk : Keeps s0 s) : Keeps s0 (hostPart r off s).2 :=
  hostPart_keeps (Prod.eta _).symm hk

theorem updLoad_keeps {s0 : State} (p : PartId) (f : Load → Load) (s : State) (hk : Keeps s0 s) : Keeps s0 (updLoad p f s) := by
  unfold updLoad
  repeat (first | with_reducible assumption | with_reducible apply updPart_keeps | intro _ | with_reducible apply Keeps.ite | simp only [Keeps.upd] | dsimp only | split)

theorem loadDecide_keeps {s0 : State} (p : PartId) (r : Refuse) (s : State) (hk : Keeps s0 s) : Keeps s0 (loadDecide p r s) := by
  unfold loadDecide
  repeat (first | with_reducible assumption | with_reducible apply updLoad_keeps | intro _ | with_reducible apply Keeps.ite | with_reducible apply Keeps.iteSnd | with_reducible apply Keeps.iteFst | simp only [Keeps.upd] | dsimp only | split)

theorem placeSection_keeps {s0 : State} (p : PartId) (x : Load) (h : Bytes) (i : Nat) (s : State) (hk : Keeps s0 s) : Keeps s0 (placeSection p x h i s) := by
  unfold placeSection
  repeat (first | with_reducible assumption | with_reducible apply spaceWrite_keeps | with_reducible apply eachOf_keeps | with_reducible apply spaceMark_keeps | intro _ | with_reducible apply Keeps.ite | with_reducible apply Keeps.iteSnd | with_reducible apply Keeps.iteFst | simp only [Keeps.upd] | dsimp only | split)

theorem modelsChanged_keeps {s0 : State} (p : PartId) (s : State) (hk : Keeps s0 s) : Keeps s0 (modelsChanged p s) := by
  unfold modelsChanged
  repeat (first | with_reducible assumption | with_reducible apply mgtEvent_keeps | intro _ | with_reducible apply Keeps.ite | simp only [Keeps.upd] | dsimp only | split)

theorem makeResident_keeps {s0 : State} (p : PartId) (x : Load) (h : Bytes) (m : Model) (s : State) (hk : Keeps s0 s) : Keeps s0 (makeResident p x h m s) := by
  unfold makeResident
  repeat (first | with_reducible assumption | with_reducible apply updPart_keeps | with_reducible apply eachOf_keeps | with_reducible apply tdPut_keeps | with_reducible apply modelsChanged_keeps | with_reducible apply updLoad_keeps | intro _ | with_reducible apply Keeps.ite | with_reducible apply Keeps.iteSnd | with_reducible apply Keeps.iteFst | simp only [Keeps.upd] | dsimp only | split)

theorem placeAll_keeps {s0 : State} (p : PartId) (x : Load) (s : State) (hk : Keeps s0 s) : Keeps s0 (placeAll p x s) := by
  unfold placeAll
  repeat (first | with_reducible assumption | with_reducible apply eachOf_keeps | with_reducible apply placeSection_keeps | intro _ | with_reducible apply Keeps.ite | simp only [Keeps.upd] | dsimp only | split)

theorem loadCopied_keeps {s0 : State} (p : PartId) (s : State) (hk : Keeps s0 s) : Keeps s0 (loadCopied p s) := by
  unfold loadCopied
  repeat (first | with_reducible assumption | with_reducible apply placeAll_keeps | with_reducible apply updLoad_keeps | with_reducible apply loadDecide_keeps | with_reducible apply makeResident_keeps | with_reducible apply Keeps.foldl | intro _ | with_reducible apply Keeps.ite | simp only [Keeps.upd] | dsimp only | split)

theorem loadFetch_keeps {s0 : State} (p : PartId) (n : Nat) (want : Nat → Bool) (done : State → State) (s : State) (hdone : ∀ x0, Keeps s0 x0 → Keeps s0 (done x0)) (hk : Keeps s0 s) : Keeps s0 (loadFetch p n want done s) := by
  unfold loadFetch
  repeat (first | with_reducible apply hdone | with_reducible assumption | with_reducible apply updLoad_keeps | with_reducible apply eachOf_keeps | with_reducible apply hostRead_keeps | with_reducible apply Keeps.foldl | intro _ | with_reducible apply Keeps.ite | simp only [Keeps.upd] | dsimp only | split)

end Sys2Proof.Laws
end

