-- ==== Sys2Proof/Laws/Keeps4.lean ====
section
/-!
SUPPORT. Keeps4.lean: what every operation keeps, one lemma per operation, in the order of the definitions (4 of 5).
Keeps s t: the memories of t are in canonical form if those of s are, no fuse is unburned, the queue is untouched, what was sent stays, the counter of free values does not fall.
-/
set_option linter.all false
namespace Sys2Proof.Laws
open Sys2Proof Sys2Proof.Machine Sys2Proof.Safety

theorem loadPlaced_keeps {s0 : State} (p : PartId) (s : State) (hk : Keeps s0 s) : Keeps s0 (loadPlaced p s) := by
  unfold loadPlaced
  repeat (first | with_reducible assumption | with_reducible apply placeAll_keeps | with_reducible apply loadDecide_keeps | with_reducible apply loadCopied_keeps | intro _ | with_reducible apply Keeps.ite | with_reducible apply Keeps.iteSnd | with_reducible apply Keeps.iteFst | simp only [Keeps.upd] | dsimp only | split)

theorem loadListed_keeps {s0 : State} (p : PartId) (s : State) (hk : Keeps s0 s) : Keeps s0 (loadListed p s) := by
  unfold loadListed
  repeat (first | with_reducible assumption | with_reducible apply loadDecide_keeps | with_reducible apply loadFetch_keeps | with_reducible apply loadPlaced_keeps | intro _ | with_reducible apply Keeps.ite | simp only [Keeps.upd] | dsimp only | split)

theorem loadHeaded_keeps {s0 : State} (p : PartId) (s : State) (hk : Keeps s0 s) : Keeps s0 (loadHeaded p s) := by
  unfold loadHeaded
  repeat (first | with_reducible assumption | with_reducible apply loadDecide_keeps | with_reducible apply loadFetch_keeps | with_reducible apply loadListed_keeps | intro _ | with_reducible apply Keeps.ite | simp only [Keeps.upd] | dsimp only | split)

theorem loadReport_keeps {s0 : State} (p : PartId) (d : Bytes) (s : State) (hk : Keeps s0 s) : Keeps s0 (loadReport p d s) := by
  unfold loadReport
  repeat (first | with_reducible assumption | with_reducible apply updPart_keeps | with_reducible apply hostWrite_keeps | with_reducible apply updStream_keeps | with_reducible apply cmdDone_keeps | with_reducible apply cmdFail_keeps | intro _ | with_reducible apply Keeps.ite | simp only [Keeps.upd] | dsimp only | split)

theorem loadArrive_keeps {s0 : State} (p : PartId) (sec : Option Nat) (off : Nat) (b : Bytes) (bad : Bool) (s : State) (hk : Keeps s0 s) : Keeps s0 (loadArrive p sec off b bad s) := by
  unfold loadArrive
  repeat (first | with_reducible assumption | with_reducible apply updPart_keeps | with_reducible apply loadHeaded_keeps | with_reducible apply loadListed_keeps | with_reducible apply loadPlaced_keeps | intro _ | with_reducible apply Keeps.ite | simp only [Keeps.upd] | dsimp only | split)

theorem execXfrLoadModel_keeps {s0 : State} (p : PartId) (s : State) (hk : Keeps s0 s) : KeepsO s0 (execXfrLoadModel p s) := by
  unfold execXfrLoadModel
  repeat (first | with_reducible assumption | with_reducible apply KeepsO.next | with_reducible apply KeepsO.ite | with_reducible apply runXfr_keeps | with_reducible apply cmdFail_keeps | with_reducible apply hostRead_keeps | with_reducible apply updPart_keeps | with_reducible apply loadReport_keeps | intro _ | with_reducible apply Keeps.ite | simp only [Keeps.upd] | dsimp only | split)

theorem execXfrUnloadModel_keeps {s0 : State} (p : PartId) (s : State) (hk : Keeps s0 s) : KeepsO s0 (execXfrUnloadModel p s) := by
  unfold execXfrUnloadModel
  repeat (first | with_reducible assumption | with_reducible apply KeepsO.next | with_reducible apply KeepsO.ite | with_reducible apply runXfr_keeps | with_reducible apply cmdFail_keeps | with_reducible apply eachOf_keeps | with_reducible apply tdPut_keeps | with_reducible apply cmdDone_keeps | with_reducible apply modelsChanged_keeps | with_reducible apply updPart_keeps | intro _ | with_reducible apply Keeps.ite | with_reducible apply Keeps.iteSnd | with_reducible apply Keeps.iteFst | simp only [Keeps.upd] | dsimp only | split)

theorem xfrAdvance_keeps {s0 : State} (p : PartId) (s : State) (hk : Keeps s0 s) : Keeps s0 (xfrAdvance p s) := by
  unfold xfrAdvance
  repeat (first | with_reducible assumption | with_reducible apply tokensIn_keeps | with_reducible apply tokensOut_keeps | with_reducible apply copyMore_keeps | with_reducible apply loadReport_keeps | intro _ | with_reducible apply Keeps.ite | simp only [Keeps.upd] | dsimp only | split)

theorem updSb_keeps {s0 : State} (p : PartId) (f : SbPart → SbPart) (s : State) (hk : Keeps s0 s) : Keeps s0 (updSb p f s) := by
  unfold updSb
  repeat (first | with_reducible assumption | with_reducible apply updPart_keeps | intro _ | with_reducible apply Keeps.ite | simp only [Keeps.upd] | dsimp only | split)

theorem restoreSyc_keeps {s0 : State} (p : PartId) (g : Bytes) (s : State) (hk : Keeps s0 s) : Keeps s0 (restoreSyc p g s) := by
  unfold restoreSyc
  repeat (first | with_reducible assumption | with_reducible apply eachOf_keeps | with_reducible apply sycSetAt_keeps | with_reducible apply clearSyc_keeps | intro _ | with_reducible apply Keeps.ite | simp only [Keeps.upd] | dsimp only | split)

theorem restorePart_keeps {s0 : State} (p : PartId) (s : State) (hk : Keeps s0 s) : Keeps s0 (restorePart p s) := by
  unfold restorePart
  repeat (first | with_reducible assumption | with_reducible apply eachOf_keeps | with_reducible apply stopStream_keeps | with_reducible apply closeJob_keeps | with_reducible apply orphanReads_keeps | with_reducible apply updPart_keeps | with_reducible apply updStream_keeps | with_reducible apply clearSyc_keeps | with_reducible apply restoreSyc_keeps | with_reducible apply updSb_keeps | with_reducible apply record_keeps | with_reducible apply settleReleased_keeps | with_reducible apply msixPart_keeps | intro _ | with_reducible apply Keeps.ite | simp only [Keeps.upd] | dsimp only | split)

theorem tornSnapshot_keeps {s0 : State} (p : PartId) (s : State) (hk : Keeps s0 s) : Keeps s0 (tornSnapshot p s) := by
  unfold tornSnapshot
  repeat (first | with_reducible assumption | with_reducible apply cntPart_keeps | with_reducible apply updSb_keeps | with_reducible apply record_keeps | intro _ | with_reducible apply Keeps.ite | simp only [Keeps.upd] | dsimp only | split)

theorem readDone_keeps {s0 : State} (p : PartId) (s : State) (hk : Keeps s0 s) : Keeps s0 (readDone p s) := by
  unfold readDone
  repeat (first | with_reducible assumption | with_reducible apply restorePart_keeps | with_reducible apply hostRead_keeps | with_reducible apply updSb_keeps | intro _ | with_reducible apply Keeps.ite | simp only [Keeps.upd] | dsimp only | split)

theorem doneJudge_keeps {s0 : State} (p : PartId) (found : Bool) (s : State) (hk : Keeps s0 s) : Keeps s0 (doneJudge p found s) := by
  unfold doneJudge
  repeat (first | with_reducible assumption | with_reducible apply readDone_keeps | with_reducible apply updSb_keeps | with_reducible apply restorePart_keeps | with_reducible apply eachOf_keeps | with_reducible apply issueRecord_keeps | intro _ | with_reducible apply Keeps.ite | with_reducible apply Keeps.iteSnd | with_reducible apply Keeps.iteFst | simp only [Keeps.upd] | dsimp only | split)

theorem doneArrive_keeps {s0 : State} (p : PartId) (b : Bytes) (s : State) (hk : Keeps s0 s) : Keeps s0 (doneArrive p b s) := by
  unfold doneArrive
  repeat (first | with_reducible assumption | with_reducible apply updSb_keeps | with_reducible apply doneJudge_keeps | intro _ | with_reducible apply Keeps.ite | simp only [Keeps.upd] | dsimp only | split)

theorem failover_keeps {s0 : State} (cause : Nat) (s : State) (hk : Keeps s0 s) : Keeps s0 (failover cause s) := by
  unfold failover
  repeat (first | with_reducible assumption | with_reducible apply cntDev_keeps | with_reducible apply setSb_keeps | with_reducible apply eachOf_keeps | with_reducible apply tornSnapshot_keeps | with_reducible apply readDone_keeps | with_reducible apply updSb_keeps | intro _ | with_reducible apply Keeps.ite | simp only [Keeps.upd] | dsimp only | split)

theorem cfgWrite_keeps {s0 : State} (k : PortId) (f : State → State) (s : State) (hf : ∀ t, Keeps s0 t → Keeps s0 (f t)) (hk : Keeps s0 s) : Keeps s0 (cfgWrite k f s) := by
  unfold cfgWrite
  repeat (first | with_reducible assumption | with_reducible apply hf | with_reducible apply emit_keeps | with_reducible apply leaveL1_keeps | with_reducible apply Keeps.ite | split)

theorem aerPoisoned_keeps {s0 : State} (k : PortId) (s : State) (hk : Keeps s0 s) : Keeps s0 (aerPoisoned k s) := by
  unfold aerPoisoned
  repeat (first | with_reducible assumption | with_reducible apply updPort_keeps | intro _ | with_reducible apply Keeps.ite | simp only [Keeps.upd] | dsimp only | split)

theorem aerUnexpected_keeps {s0 : State} (k : PortId) (s : State) (hk : Keeps s0 s) : Keeps s0 (aerUnexpected k s) := by
  unfold aerUnexpected
  repeat (first | with_reducible assumption | with_reducible apply updPort_keeps | intro _ | with_reducible apply Keeps.ite | simp only [Keeps.upd] | dsimp only | split)

theorem poisonedWrite_keeps {s0 : State} (k : PortId) (s : State) (hk : Keeps s0 s) : Keeps s0 (poisonedWrite k s) := by
  unfold poisonedWrite
  repeat (first | with_reducible assumption | with_reducible apply aerPoisoned_keeps | with_reducible apply cntPort_keeps | intro _ | with_reducible apply Keeps.ite | simp only [Keeps.upd] | dsimp only | split)

theorem updAsm_keeps {s0 : State} (k : PortId) (st : StreamId) (f : Assembly → Assembly) (s : State) (hk : Keeps s0 s) : Keeps s0 (updAsm k st f s) := by
  unfold updAsm
  repeat (first | with_reducible assumption | with_reducible apply updPort_keeps | intro _ | with_reducible apply Keeps.ite | simp only [Keeps.upd] | dsimp only | split)

theorem discardBlock_keeps {s0 : State} (n : Nat) (k : PortId) (s : State) (hk : Keeps s0 s) : Keeps s0 (discardBlock n k s) := by
  unfold discardBlock
  repeat (first | with_reducible assumption | with_reducible apply cntPort_keeps | intro _ | with_reducible apply Keeps.ite | simp only [Keeps.upd] | dsimp only | split)

theorem asmWrite_keeps {s0 : State} (k : PortId) (p : PartId) (st : StreamId) (block o : Nat) (b : Bytes) (ep : Bool) (s : State) (hk : Keeps s0 s) : Keeps s0 (asmWrite k p st block o b ep s) := by
  unfold asmWrite
  repeat (first | with_reducible assumption | with_reducible apply discardBlock_keeps | with_reducible apply updAsm_keeps | with_reducible apply enterDesc_keeps | with_reducible apply Keeps.foldl | intro _ | with_reducible apply Keeps.ite | simp only [Keeps.upd] | dsimp only | split)

theorem bar2Piece_keeps {s0 : State} (k : PortId) (p : PartId) (off : Nat) (ep : Bool) (data : Bytes) (x : Nat × Nat) (s : State) (hk : Keeps s0 s) : Keeps s0 (bar2Piece k p off ep data x s) := by
  unfold bar2Piece
  repeat (first | with_reducible assumption | with_reducible apply discardBlock_keeps | with_reducible apply asmWrite_keeps | intro _ | with_reducible apply Keeps.ite | with_reducible apply Keeps.iteSnd | with_reducible apply Keeps.iteFst | simp only [Keeps.upd] | dsimp only | split)

theorem bar2Write_keeps {s0 : State} (r : Requester) (off : Nat) (data : Bytes) (ep : Bool) (s : State) (hk : Keeps s0 s) : Keeps s0 (bar2Write r off data ep s) := by
  unfold bar2Write
  repeat (first | with_reducible assumption | with_reducible refine hostMem_keeps (by with_reducible assumption) ?_ | with_reducible apply hostMem_snd_keeps | with_reducible apply eachOf_keeps | with_reducible apply bar2Piece_keeps | with_reducible apply poisonedWrite_keeps | intro _ | with_reducible apply Keeps.ite | with_reducible apply Keeps.iteSnd | with_reducible apply Keeps.iteFst | simp only [Keeps.upd] | dsimp only | split)

theorem execBar2Write_keeps {s0 : State} (r : Requester) (off : Nat) (data : Bytes) (ep : Bool) (s : State) (hk : Keeps s0 s) : KeepsO s0 (execBar2Write r off data ep s) := by
  unfold execBar2Write
  repeat (first | with_reducible assumption | with_reducible apply KeepsO.next | with_reducible apply KeepsO.ite | with_reducible apply bar2Write_keeps | intro _ | with_reducible apply Keeps.ite | simp only [Keeps.upd] | dsimp only | split)

theorem bar4Refuse_keeps {s0 : State} (k : PortId) (p : PartId) (off : Nat) (s : State) (hk : Keeps s0 s) : Keeps s0 (bar4Refuse k p off s) := by
  unfold bar4Refuse
  repeat (first | with_reducible assumption | with_reducible apply record_keeps | with_reducible apply cntPort_keeps | intro _ | with_reducible apply Keeps.ite | simp only [Keeps.upd] | dsimp only | split)

theorem bar4Hold_keeps {s0 : State} (k : PortId) (p : PartId) (x : Nat × Nat × Option (Bytes × Bool)) (s : State) (hk : Keeps s0 s) : Keeps s0 (bar4Hold k p x s) := by
  unfold bar4Hold
  repeat (first | with_reducible assumption | with_reducible apply stall_keeps | with_reducible apply updPort_keeps | intro _ | with_reducible apply Keeps.ite | simp only [Keeps.upd] | dsimp only | split)

theorem bar4ReadOn_keeps {s0 : State} (k : PortId) (off len : Nat) (s : State) (hk : Keeps s0 s) : Keeps s0 (bar4ReadOn k off len s) := by
  unfold bar4ReadOn
  repeat (first | with_reducible assumption | with_reducible apply bar4Hold_keeps | with_reducible apply eachOf_keeps | with_reducible apply emit_keeps | with_reducible apply record_keeps | with_reducible apply meetHbm_keeps | with_reducible apply charge_keeps | with_reducible apply bar4Refuse_keeps | intro _ | with_reducible apply Keeps.ite | with_reducible apply Keeps.iteSnd | with_reducible apply Keeps.iteFst | simp only [Keeps.upd] | dsimp only | split)

theorem bar4Read_keeps {s0 : State} (r : Requester) (off len : Nat) (s : State) (hk : Keeps s0 s) : KeepsO s0 (bar4Read r off len s) := by
  unfold bar4Read
  repeat (first | with_reducible assumption | with_reducible apply KeepsO.next | with_reducible apply KeepsO.ite | with_reducible refine hostMem_keeps (by with_reducible assumption) ?_ | with_reducible apply hostMem_snd_keeps | with_reducible apply bar4ReadOn_keeps | with_reducible apply emit_keeps | intro _ | with_reducible apply Keeps.ite | with_reducible apply Keeps.iteSnd | with_reducible apply Keeps.iteFst | simp only [Keeps.upd] | dsimp only | split)

theorem bar4WriteOn_keeps {s0 : State} (k : PortId) (off : Nat) (data : Bytes) (ep : Bool) (s : State) (hk : Keeps s0 s) : Keeps s0 (bar4WriteOn k off data ep s) := by
  unfold bar4WriteOn
  repeat (first | with_reducible assumption | with_reducible apply bar4Hold_keeps | with_reducible apply poisonedWrite_keeps | with_reducible apply settleMerge_keeps | with_reducible apply spaceWrite_keeps | with_reducible apply charge_keeps | with_reducible apply spaceMark_keeps | with_reducible apply bar4Refuse_keeps | intro _ | with_reducible apply Keeps.ite | simp only [Keeps.upd] | dsimp only | split)

theorem bar4Go_keeps {s0 : State} (k : PortId) (x : Nat × Nat × Option (Bytes × Bool)) (s : State) (hk : Keeps s0 s) : Keeps s0 (bar4Go k x s) := by
  unfold bar4Go
  repeat (first | with_reducible assumption | with_reducible apply bar4ReadOn_keeps | with_reducible apply bar4WriteOn_keeps | intro _ | with_reducible apply Keeps.ite | simp only [Keeps.upd] | dsimp only | split)

theorem bar4Retry_keeps {s0 : State} (k : PortId) (s : State) (hk : Keeps s0 s) : Keeps s0 (bar4Retry k s) := by
  unfold bar4Retry
  repeat (first | with_reducible assumption | with_reducible apply eachOf_keeps | with_reducible apply bar4Go_keeps | with_reducible apply updPort_keeps | intro _ | with_reducible apply Keeps.ite | simp only [Keeps.upd] | dsimp only | split)

theorem bar4Write_keeps {s0 : State} (r : Requester) (off : Nat) (data : Bytes) (ep : Bool) (s : State) (hk : Keeps s0 s) : KeepsO s0 (bar4Write r off data ep s) := by
  unfold bar4Write
  repeat (first | with_reducible assumption | with_reducible apply KeepsO.next | with_reducible apply KeepsO.ite | with_reducible refine hostMem_keeps (by with_reducible assumption) ?_ | with_reducible apply hostMem_snd_keeps | with_reducible apply bar4WriteOn_keeps | intro _ | with_reducible apply Keeps.ite | with_reducible apply Keeps.iteSnd | with_reducible apply Keeps.iteFst | simp only [Keeps.upd] | dsimp only | split)

theorem ideInsecure_keeps {s0 : State} (k : PortId) (i : Fin 5) (s : State) (hk : Keeps s0 s) : Keeps s0 (ideInsecure k i s) := by
  unfold ideInsecure
  repeat (first | with_reducible assumption | with_reducible apply secLog_keeps | with_reducible apply updPort_keeps | intro _ | with_reducible apply Keeps.ite | simp only [Keeps.upd] | dsimp only | split)

theorem dropPortView_keeps {s0 : State} (k : PortId) (s : State) (hk : Keeps s0 s) : Keeps s0 (dropPortView k s) := by
  unfold dropPortView
  repeat (first | with_reducible assumption | intro _ | with_reducible apply Keeps.ite | with_reducible apply Keeps.iteSnd | with_reducible apply Keeps.iteFst | simp only [Keeps.upd] | dsimp only | split)

theorem resetFunction_keeps {s0 : State} (kind : PortReset) (k : PortId) (s : State) (hk : Keeps s0 s) : Keeps s0 (resetFunction kind k s) := by
  unfold resetFunction
  repeat (first | with_reducible assumption | with_reducible apply linkDown_keeps | with_reducible apply eachOf_keeps | with_reducible apply ideInsecure_keeps | with_reducible apply dropPortView_keeps | with_reducible apply updPort_keeps | with_reducible apply discardBlock_keeps | intro _ | with_reducible apply Keeps.ite | simp only [Keeps.upd] | dsimp only | split)

theorem resetMapped_keeps {s0 : State} (k : PortId) (kind : ResetKind) (s : State) (hk : Keeps s0 s) : Keeps s0 (resetMapped k kind s) := by
  unfold resetMapped
  repeat (first | with_reducible assumption | with_reducible apply resetPartition_keeps | intro _ | with_reducible apply Keeps.ite | simp only [Keeps.upd] | dsimp only | split)

theorem execPerstAssert_keeps {s0 : State} (k : PortId) (s : State) (hk : Keeps s0 s) : KeepsO s0 (execPerstAssert k s) := by
  unfold execPerstAssert
  repeat (first | with_reducible assumption | with_reducible apply KeepsO.next | with_reducible apply KeepsO.ite | with_reducible apply driveWake_keeps | with_reducible apply portEvent_keeps | with_reducible apply updPort_keeps | with_reducible apply resetFunction_keeps | with_reducible apply resetMapped_keeps | intro _ | with_reducible apply Keeps.ite | simp only [Keeps.upd] | dsimp only | split)

theorem execPerstRelease_keeps {s0 : State} (k : PortId) (s : State) (hk : Keeps s0 s) : KeepsO s0 (execPerstRelease k s) := by
  unfold execPerstRelease
  repeat (first | with_reducible assumption | with_reducible apply KeepsO.next | with_reducible apply KeepsO.ite | with_reducible apply quietExit_keeps | with_reducible apply portEvent_keeps | with_reducible apply driveWake_keeps | intro _ | with_reducible apply Keeps.ite | simp only [Keeps.upd] | dsimp only | split)

theorem startFlr_keeps {s0 : State} (k : PortId) (s : State) (hk : Keeps s0 s) : Keeps s0 (startFlr k s) := by
  unfold startFlr
  repeat (first | with_reducible assumption | with_reducible apply resetMapped_keeps | with_reducible apply updPort_keeps | with_reducible apply resetFunction_keeps | intro _ | with_reducible apply Keeps.ite | simp only [Keeps.upd] | dsimp only | split)

theorem execFlr_keeps {s0 : State} (k : PortId) (s : State) (hk : Keeps s0 s) : KeepsO s0 (execFlr k s) := by
  unfold execFlr
  repeat (first | with_reducible assumption | with_reducible apply KeepsO.next | with_reducible apply KeepsO.ite | with_reducible apply cfgWrite_keeps | with_reducible apply startFlr_keeps | intro _ | with_reducible apply Keeps.ite | simp only [Keeps.upd] | dsimp only | split)

theorem execFunctionReady_keeps {s0 : State} (k : PortId) (s : State) (hk : Keeps s0 s) : KeepsO s0 (execFunctionReady k s) := by
  unfold execFunctionReady
  repeat (first | with_reducible assumption | with_reducible apply KeepsO.next | with_reducible apply KeepsO.ite | with_reducible apply updPort_keeps | with_reducible apply partitionReady_keeps | intro _ | with_reducible apply Keeps.ite | simp only [Keeps.upd] | dsimp only | split)

theorem downReady_keeps {s0 : State} (k : PortId) (s : State) (hk : Keeps s0 s) : Keeps s0 (downReady k s) := by
  unfold downReady
  repeat (first | with_reducible assumption | with_reducible apply resetMapped_keeps | with_reducible apply linkDown_keeps | with_reducible apply cntPort_keeps | with_reducible apply updPort_keeps | intro _ | with_reducible apply Keeps.ite | simp only [Keeps.upd] | dsimp only | split)

theorem execDlDown_keeps {s0 : State} (k : PortId) (s : State) (hk : Keeps s0 s) : KeepsO s0 (execDlDown k s) := by
  unfold execDlDown
  repeat (first | with_reducible assumption | with_reducible apply KeepsO.next | with_reducible apply KeepsO.ite | with_reducible apply resetFunction_keeps | with_reducible apply linkDown_keeps | with_reducible apply cntPort_keeps | with_reducible apply updPort_keeps | with_reducible apply portEvent_keeps | with_reducible apply downReady_keeps | intro _ | with_reducible apply Keeps.ite | simp only [Keeps.upd] | dsimp only | split)

theorem execHostLinkUp_keeps {s0 : State} (k : PortId) (gen width : Nat) (flit reversed : Bool) (s : State) (hk : Keeps s0 s) : KeepsO s0 (execHostLinkUp k gen width flit reversed s) := by
  unfold execHostLinkUp
  repeat (first | with_reducible assumption | with_reducible apply KeepsO.next | with_reducible apply KeepsO.ite | with_reducible apply portEvent_keeps | with_reducible apply updPort_keeps | intro _ | with_reducible apply Keeps.ite | with_reducible apply Keeps.iteSnd | with_reducible apply Keeps.iteFst | simp only [Keeps.upd] | dsimp only | split)

theorem release_keeps {s0 : State} (k : PortId) (s : State) (hk : Keeps s0 s) : Keeps s0 (release k s) := by
  unfold release
  repeat (first | with_reducible assumption | with_reducible apply pump_keeps | with_reducible apply xfrAdvance_keeps | intro _ | with_reducible apply Keeps.ite | simp only [Keeps.upd] | dsimp only | split)

theorem heldWakes_keeps {s0 : State} (k : PortId) (s : State) (hk : Keeps s0 s) : Keeps s0 (heldWakes k s) := by
  unfold heldWakes
  repeat (first | with_reducible assumption | with_reducible apply eachOf_keeps | with_reducible apply record_keeps | with_reducible apply wakeEvent_keeps | with_reducible apply msix_keeps | intro _ | with_reducible apply Keeps.ite | simp only [Keeps.upd] | dsimp only | split)

theorem enterD3hot_keeps {s0 : State} (k : PortId) (s : State) (hk : Keeps s0 s) : Keeps s0 (enterD3hot k s) := by
  unfold enterD3hot
  repeat (first | with_reducible assumption | with_reducible apply discardBlock_keeps | with_reducible apply updPort_keeps | with_reducible apply portEvent_keeps | with_reducible apply heldWakes_keeps | with_reducible apply xfrAdvance_keeps | intro _ | with_reducible apply Keeps.ite | simp only [Keeps.upd] | dsimp only | split)

theorem execPowerStateD3hot_keeps {s0 : State} (k : PortId) (s : State) (hk : Keeps s0 s) : KeepsO s0 (execPowerStateD3hot k s) := by
  unfold execPowerStateD3hot
  repeat (first | with_reducible assumption | with_reducible apply KeepsO.next | with_reducible apply KeepsO.ite | with_reducible apply cfgWrite_keeps | with_reducible apply enterD3hot_keeps | intro _ | with_reducible apply Keeps.ite | simp only [Keeps.upd] | dsimp only | split)

theorem enterD0_keeps {s0 : State} (k : PortId) (s : State) (hk : Keeps s0 s) : Keeps s0 (enterD0 k s) := by
  unfold enterD0
  repeat (first | with_reducible assumption | with_reducible apply updPort_keeps | with_reducible apply updExec_keeps | with_reducible apply release_keeps | with_reducible apply quietExit_keeps | with_reducible apply portEvent_keeps | intro _ | with_reducible apply Keeps.ite | simp only [Keeps.upd] | dsimp only | split)

theorem execPowerStateD0_keeps {s0 : State} (k : PortId) (s : State) (hk : Keeps s0 s) : KeepsO s0 (execPowerStateD0 k s) := by
  unfold execPowerStateD0
  repeat (first | with_reducible assumption | with_reducible apply KeepsO.next | with_reducible apply KeepsO.ite | with_reducible apply cfgWrite_keeps | with_reducible apply enterD0_keeps | intro _ | with_reducible apply Keeps.ite | simp only [Keeps.upd] | dsimp only | split)

theorem execPmPmeTransmit_keeps {s0 : State} (k : PortId) (s : State) (hk : Keeps s0 s) : KeepsO s0 (execPmPmeTransmit k s) := by
  unfold execPmPmeTransmit
  repeat (first | with_reducible assumption | with_reducible apply KeepsO.next | with_reducible apply KeepsO.ite | with_reducible apply emit_keeps | with_reducible apply updPort_keeps | intro _ | with_reducible apply Keeps.ite | simp only [Keeps.upd] | dsimp only | split)

theorem execPmPmeRetransmit_keeps {s0 : State} (k : PortId) (s : State) (hk : Keeps s0 s) : KeepsO s0 (execPmPmeRetransmit k s) := by
  unfold execPmPmeRetransmit
  repeat (first | with_reducible assumption | with_reducible apply KeepsO.next | with_reducible apply KeepsO.ite | with_reducible apply emit_keeps | with_reducible apply updPort_keeps | intro _ | with_reducible apply Keeps.ite | simp only [Keeps.upd] | dsimp only | split)

theorem execAspmL1Entry_keeps {s0 : State} (k : PortId) (s : State) (hk : Keeps s0 s) : KeepsO s0 (execAspmL1Entry k s) := by
  unfold execAspmL1Entry
  repeat (first | with_reducible assumption | with_reducible apply KeepsO.next | with_reducible apply KeepsO.ite | with_reducible apply emit_keeps | with_reducible apply updPort_keeps | intro _ | with_reducible apply Keeps.ite | simp only [Keeps.upd] | dsimp only | split)

theorem turnOffReady_keeps {s0 : State} (k : PortId) (s : State) (hk : Keeps s0 s) : Keeps s0 (turnOffReady k s) := by
  unfold turnOffReady
  repeat (first | with_reducible assumption | with_reducible apply driveWake_keeps | with_reducible apply emit_keeps | with_reducible apply updPort_keeps | intro _ | with_reducible apply Keeps.ite | simp only [Keeps.upd] | dsimp only | split)

theorem execPmeTurnOff_keeps {s0 : State} (k : PortId) (s : State) (hk : Keeps s0 s) : KeepsO s0 (execPmeTurnOff k s) := by
  unfold execPmeTurnOff
  repeat (first | with_reducible assumption | with_reducible apply KeepsO.next | with_reducible apply KeepsO.ite | with_reducible apply turnOffReady_keeps | with_reducible apply updPort_keeps | intro _ | with_reducible apply Keeps.ite | simp only [Keeps.upd] | dsimp only | split)

theorem execBusMasterEnableChange_keeps {s0 : State} (k : PortId) (on : Bool) (s : State) (hk : Keeps s0 s) : KeepsO s0 (execBusMasterEnableChange k on s) := by
  unfold execBusMasterEnableChange
  repeat (first | with_reducible assumption | with_reducible apply KeepsO.next | with_reducible apply KeepsO.ite | with_reducible apply cfgWrite_keeps | with_reducible apply release_keeps | with_reducible apply updPort_keeps | intro _ | with_reducible apply Keeps.ite | simp only [Keeps.upd] | dsimp only | split)

theorem execMgtWakeReqWrite_keeps {s0 : State} (r : Requester) (v : Nat) (s : State) (hk : Keeps s0 s) : KeepsO s0 (execMgtWakeReqWrite r v s) := by
  unfold execMgtWakeReqWrite
  repeat (first | with_reducible assumption | with_reducible apply KeepsO.next | with_reducible apply KeepsO.ite | with_reducible apply eachOf_keeps | with_reducible apply wakeEvent_keeps | with_reducible apply driveWake_keeps | intro _ | with_reducible apply Keeps.ite | simp only [Keeps.upd] | dsimp only | split)

theorem msixFlush_keeps {s0 : State} (k : PortId) (s : State) (hk : Keeps s0 s) : Keeps s0 (msixFlush k s) := by
  unfold msixFlush
  repeat (first | with_reducible assumption | with_reducible apply eachOf_keeps | with_reducible apply wakeEvent_keeps | with_reducible apply dmaPush_keeps | with_reducible apply msix_keeps | with_reducible apply updPort_keeps | intro _ | with_reducible apply Keeps.ite | simp only [Keeps.upd] | dsimp only | split)

theorem execMsixUnmask_keeps {s0 : State} (k : PortId) (v : Fin 16) (s : State) (hk : Keeps s0 s) : KeepsO s0 (execMsixUnmask k v s) := by
  unfold execMsixUnmask
  repeat (first | with_reducible assumption | with_reducible apply KeepsO.next | with_reducible apply KeepsO.ite | with_reducible refine hostMem_keeps (by with_reducible assumption) ?_ | with_reducible apply hostMem_snd_keeps | with_reducible apply msixFlush_keeps | with_reducible apply updPort_keeps | intro _ | with_reducible apply Keeps.ite | with_reducible apply Keeps.iteSnd | with_reducible apply Keeps.iteFst | simp only [Keeps.upd] | dsimp only | split)

theorem execIdeIntegrityFail_keeps {s0 : State} (k : PortId) (stream : Fin 5) (s : State) (hk : Keeps s0 s) : KeepsO s0 (execIdeIntegrityFail k stream s) := by
  unfold execIdeIntegrityFail
  repeat (first | with_reducible assumption | with_reducible apply KeepsO.next | with_reducible apply KeepsO.ite | with_reducible apply ideInsecure_keeps | with_reducible apply secLogMerged_keeps | with_reducible apply updPort_keeps | with_reducible apply partFault_keeps | intro _ | with_reducible apply Keeps.ite | simp only [Keeps.upd] | dsimp only | split)

theorem execRingTailWrite_keeps {s0 : State} (r : Requester) (st : StreamId) (v : Nat) (s : State) (hk : Keeps s0 s) : KeepsO s0 (execRingTailWrite r st v s) := by
  unfold execRingTailWrite
  repeat (first | with_reducible assumption | with_reducible apply KeepsO.next | with_reducible apply KeepsO.ite | with_reducible refine hostPart_keeps (by with_reducible assumption) ?_ | with_reducible apply hostPart_snd_keeps | with_reducible apply queOverrun_keeps | with_reducible apply updStream_keeps | with_reducible apply fetchNow_keeps | intro _ | with_reducible apply Keeps.ite | with_reducible apply Keeps.iteSnd | with_reducible apply Keeps.iteFst | simp only [Keeps.upd] | dsimp only | split)

theorem execRingCtlWrite_keeps {s0 : State} (r : Requester) (st : StreamId) (v : Nat) (s : State) (hk : Keeps s0 s) : KeepsO s0 (execRingCtlWrite r st v s) := by
  unfold execRingCtlWrite
  repeat (first | with_reducible assumption | with_reducible apply KeepsO.next | with_reducible apply KeepsO.ite | with_reducible refine hostPart_keeps (by with_reducible assumption) ?_ | with_reducible apply hostPart_snd_keeps | with_reducible apply fetchNow_keeps | with_reducible apply updStream_keeps | intro _ | with_reducible apply Keeps.ite | with_reducible apply Keeps.iteSnd | with_reducible apply Keeps.iteFst | simp only [Keeps.upd] | dsimp only | split)

theorem execRingFetchComplete_keeps {s0 : State} (p : PartId) (st : StreamId) (s : State) (hk : Keeps s0 s) : KeepsO s0 (execRingFetchComplete p st s) := by
  unfold execRingFetchComplete
  repeat (first | with_reducible assumption | with_reducible apply KeepsO.next | with_reducible apply KeepsO.ite | with_reducible apply fetchNow_keeps | with_reducible apply enterDesc_keeps | with_reducible apply updStream_keeps | intro _ | with_reducible apply Keeps.ite | simp only [Keeps.upd] | dsimp only | split)

theorem freeBytes_keeps {s0 t : State} {v : Bytes} {n : Nat} {s : State} (e : freeBytes n s = (v, t)) (hk : Keeps s0 s) : Keeps s0 t := by
  unfold freeBytes at e
  (try dsimp only at e)
  repeat' split at e
  all_goals (try cases e)
  all_goals repeat (first | with_reducible assumption | with_reducible refine takeFree_keeps (by with_reducible assumption) ?_ | with_reducible apply takeFree_snd_keeps | intro _ | with_reducible apply Keeps.ite | with_reducible apply Keeps.iteSnd | with_reducible apply Keeps.iteFst | simp only [Keeps.upd] | dsimp only | split)

theorem freeBytes_snd_keeps {s0 : State} (n : Nat) (s : State) (hk : Keeps s0 s) : Keeps s0 (freeBytes n s).2 :=
  freeBytes_keeps (Prod.eta _).symm hk

theorem noteRead_keeps {s0 : State} (p : PartId) (code sub addr : Nat) (s : State) (hk : Keeps s0 s) : Keeps s0 (noteRead p code sub addr s) := by
  unfold noteRead
  repeat (first | with_reducible assumption | with_reducible apply noteOnce_keeps | intro _ | with_reducible apply Keeps.ite | simp only [Keeps.upd] | dsimp only | split)

theorem deliver_keeps {s0 : State} (p : PartId) (tgt : DmaTarget) (got : Nat) (b : Bytes) (bad : Bool) (s : State) (hk : Keeps s0 s) : Keeps s0 (deliver p tgt got b bad s) := by
  unfold deliver
  repeat (first | with_reducible assumption | with_reducible apply updSlot_keeps | with_reducible apply copyArrive_keeps | with_reducible apply loadArrive_keeps | with_reducible apply updStream_keeps | with_reducible apply setXfrAt_keeps | with_reducible apply doneArrive_keeps | intro _ | with_reducible apply Keeps.ite | with_reducible apply Keeps.iteSnd | with_reducible apply Keeps.iteFst | simp only [Keeps.upd] | dsimp only | split)

theorem poisonGot_keeps {s0 : State} (p : PartId) (tgt : DmaTarget) (got : Nat) (s : State) (hk : Keeps s0 s) : Keeps s0 (poisonGot p tgt got s) := by
  unfold poisonGot
  repeat (first | with_reducible assumption | with_reducible apply updSlot_keeps | with_reducible apply eachOf_keeps | with_reducible apply spaceMark_keeps | with_reducible apply updLoad_keeps | intro _ | with_reducible apply Keeps.ite | simp only [Keeps.upd] | dsimp only | split)

theorem readFailed_keeps {s0 : State} (p : PartId) (r : DmaRead) (code sub from_ n : Nat) (data : Option Bytes) (s : State) (hk : Keeps s0 s) : Keeps s0 (readFailed p r code sub from_ n data s) := by
  unfold readFailed
  repeat (first | with_reducible assumption | with_reducible apply doneJudge_keeps | with_reducible apply fetchNow_keeps | with_reducible apply jobFault_keeps | with_reducible apply updStream_keeps | with_reducible apply cmdFail_keeps | with_reducible apply noteRead_keeps | with_reducible apply deliver_keeps | with_reducible refine freeBytes_keeps (by with_reducible assumption) ?_ | with_reducible apply freeBytes_snd_keeps | with_reducible apply poisonGot_keeps | with_reducible apply updSlot_keeps | intro _ | with_reducible apply Keeps.ite | with_reducible apply Keeps.iteSnd | with_reducible apply Keeps.iteFst | simp only [Keeps.upd] | dsimp only | split)

theorem afterRead_keeps {s0 : State} (k : PortId) (s : State) (hk : Keeps s0 s) : Keeps s0 (afterRead k s) := by
  unfold afterRead
  repeat (first | with_reducible assumption | with_reducible apply downReady_keeps | with_reducible apply turnOffReady_keeps | with_reducible apply release_keeps | intro _ | with_reducible apply Keeps.ite | simp only [Keeps.upd] | dsimp only | split)

theorem execDmaReadCompletion_keeps {s0 : State} (k : PortId) (tag : Nat) (status : CplStatus) (data : Bytes) (s : State) (hk : Keeps s0 s) : KeepsO s0 (execDmaReadCompletion k tag status data s) := by
  unfold execDmaReadCompletion
  repeat (first | with_reducible assumption | with_reducible apply KeepsO.next | with_reducible apply KeepsO.ite | with_reducible apply updPort_keeps | with_reducible apply afterRead_keeps | with_reducible apply deliver_keeps | with_reducible apply readFailed_keeps | with_reducible apply cntPort_keeps | with_reducible apply aerUnexpected_keeps | intro _ | with_reducible apply Keeps.ite | simp only [Keeps.upd] | dsimp only | split)

theorem execDmaCompletionTimeout_keeps {s0 : State} (k : PortId) (tag : Nat) (s : State) (hk : Keeps s0 s) : KeepsO s0 (execDmaCompletionTimeout k tag s) := by
  unfold execDmaCompletionTimeout
  repeat (first | with_reducible assumption | with_reducible apply KeepsO.next | with_reducible apply KeepsO.ite | with_reducible apply updPort_keeps | with_reducible apply afterRead_keeps | with_reducible apply readFailed_keeps | with_reducible apply cntPort_keeps | intro _ | with_reducible apply Keeps.ite | simp only [Keeps.upd] | dsimp only | split)

theorem retryAll_keeps {s0 : State} (s : State) (hk : Keeps s0 s) : Keeps s0 (retryAll s) := by
  unfold retryAll
  repeat (first | with_reducible assumption | with_reducible apply eachOf_keeps | with_reducible apply drainLink_keeps | with_reducible apply bar4Retry_keeps | with_reducible apply pump_keeps | with_reducible apply drainPlane_keeps | intro _ | with_reducible apply Keeps.ite | simp only [Keeps.upd] | dsimp only | split)

theorem execRegulatorWindowRefill_keeps {s0 : State} (s : State) (hk : Keeps s0 s) : KeepsO s0 (execRegulatorWindowRefill s) := by
  unfold execRegulatorWindowRefill
  repeat (first | with_reducible assumption | with_reducible apply KeepsO.next | with_reducible apply KeepsO.ite | with_reducible apply retryAll_keeps | with_reducible apply eachOf_keeps | with_reducible apply refillPart_keeps | with_reducible apply settleRegs_keeps | intro _ | with_reducible apply Keeps.ite | simp only [Keeps.upd] | dsimp only | split)

theorem scrubBad_keeps {s0 : State} (g : Nat) (s : State) (hk : Keeps s0 s) : Keeps s0 (scrubBad g s) := by
  unfold scrubBad
  repeat (first | with_reducible assumption | with_reducible apply markGranule_keeps | with_reducible apply record_keeps | with_reducible apply mgtRecord_keeps | intro _ | with_reducible apply Keeps.ite | simp only [Keeps.upd] | dsimp only | split)

theorem hbmFind_keeps {s0 : State} (p : PartId) (tag g : Nat) (bad : Bool) (s : State) (hk : Keeps s0 s) : Keeps s0 (hbmFind p tag g bad s) := by
  unfold hbmFind
  repeat (first | with_reducible assumption | with_reducible apply markGranule_keeps | with_reducible apply record_keeps | with_reducible apply cntPart_keeps | intro _ | with_reducible apply Keeps.ite | simp only [Keeps.upd] | dsimp only | split)

theorem renackChunk_keeps {s0 : State} (p : PartId) (k : Nat) (s : State) (hk : Keeps s0 s) : Keeps s0 (renackChunk p k s) := by
  unfold renackChunk
  repeat (first | with_reducible assumption | with_reducible apply updChunk_keeps | with_reducible apply cntPart_keeps | with_reducible apply eachOf_keeps | with_reducible apply answerChunk_keeps | intro _ | with_reducible apply Keeps.ite | simp only [Keeps.upd] | dsimp only | split)

theorem eccFind_keeps {s0 : State} (p : PartId) (st : StreamId) (tag : Nat) (spec : EccFind → List Nat) (s : State) (e : EccFind) (hk : Keeps s0 s) : Keeps s0 (eccFind p st tag spec s e) := by
  unfold eccFind
  repeat (first | with_reducible assumption | with_reducible apply hbmFind_keeps | with_reducible apply holdFault_keeps | with_reducible apply cntPart_keeps | with_reducible apply record_keeps | with_reducible apply updPart_keeps | with_reducible apply jobFault_keeps | with_reducible apply renackChunk_keeps | with_reducible apply leavePool_keeps | with_reducible apply partFault_keeps | with_reducible apply flagItem_keeps | with_reducible apply itemFind_keeps | with_reducible apply deviceFault_keeps | intro _ | with_reducible apply Keeps.ite | with_reducible apply Keeps.iteSnd | with_reducible apply Keeps.iteFst | simp only [Keeps.upd] | dsimp only | split)

theorem plantErr_keeps {s0 : State} (g : Nat) (bad : Bool) (s : State) (hk : Keeps s0 s) : Keeps s0 (plantErr g bad s) := by
  unfold plantErr
  repeat (first | with_reducible assumption | with_reducible apply Keeps.errSet | intro _ | with_reducible apply Keeps.ite | simp only [Keeps.upd] | dsimp only | split)

theorem rowFind_keeps {s0 : State} (p : PartId) (tag : Nat) (s : State) (e : EccFind) (hk : Keeps s0 s) : Keeps s0 (rowFind p tag s e) := by
  unfold rowFind
  repeat (first | with_reducible assumption | with_reducible apply plantErr_keeps | with_reducible apply eccFind_keeps | intro _ | with_reducible apply Keeps.ite | simp only [Keeps.upd] | dsimp only | split)

theorem meetErrs_keeps {s0 : State} (p : PartId) (st : StreamId) (tag : Nat) (t : EccFind → Bool) (s : State) (hk : Keeps s0 s) : Keeps s0 (meetErrs p st tag t s) := by
  unfold meetErrs
  repeat (first | with_reducible assumption | with_reducible apply eccFind_keeps | with_reducible apply Keeps.foldl | intro _ | with_reducible apply Keeps.ite | with_reducible apply Keeps.iteSnd | with_reducible apply Keeps.iteFst | simp only [Keeps.upd] | dsimp only | split)

theorem arriveMeets_keeps {s0 : State} (path : Path) (p : PartId) (s : State) (hk : Keeps s0 s) : Keeps s0 (arriveMeets path p s) := by
  unfold arriveMeets
  repeat (first | with_reducible assumption | with_reducible apply meetErrs_keeps | intro _ | with_reducible apply Keeps.ite | simp only [Keeps.upd] | dsimp only | split)

theorem bar4Find_keeps {s0 : State} (p : PartId) (a n : Nat) (write : Bool) (e : EccFind) (s : State) (hk : Keeps s0 s) : Keeps s0 (bar4Find p a n write e s) := by
  unfold bar4Find
  repeat (first | with_reducible assumption | with_reducible apply hbmFind_keeps | with_reducible apply record_keeps | intro _ | with_reducible apply Keeps.ite | simp only [Keeps.upd] | dsimp only | split)

theorem bar4Ecc_keeps {s0 : State} (r : Requester) (off n : Nat) (write : Bool) (ecc : List EccFind) (s : State) (hk : Keeps s0 s) : Keeps s0 (bar4Ecc r off n write ecc s) := by
  unfold bar4Ecc
  repeat (first | with_reducible assumption | with_reducible refine hostMem_keeps (by with_reducible assumption) ?_ | with_reducible apply hostMem_snd_keeps | with_reducible apply bar4Find_keeps | with_reducible apply Keeps.foldl | intro _ | with_reducible apply Keeps.ite | with_reducible apply Keeps.iteSnd | with_reducible apply Keeps.iteFst | simp only [Keeps.upd] | dsimp only | split)

theorem execBar4Read_keeps {s0 : State} (r : Requester) (off len : Nat) (ecc : List EccFind) (s : State) (hk : Keeps s0 s) : KeepsO s0 (execBar4Read r off len ecc s) := by
  unfold execBar4Read
  repeat (first | with_reducible assumption | with_reducible apply KeepsO.next | with_reducible apply KeepsO.ite | with_reducible apply bar4Read_keeps | with_reducible apply bar4Ecc_keeps | intro _ | with_reducible apply Keeps.ite | simp only [Keeps.upd] | dsimp only | split)

theorem execBar4Write_keeps {s0 : State} (r : Requester) (off : Nat) (data : Bytes) (ep : Bool) (ecc : List EccFind) (s : State) (hk : Keeps s0 s) : KeepsO s0 (execBar4Write r off data ep ecc s) := by
  unfold execBar4Write
  repeat (first | with_reducible assumption | with_reducible apply KeepsO.next | with_reducible apply KeepsO.ite | with_reducible apply bar4Write_keeps | with_reducible apply bar4Ecc_keeps | intro _ | with_reducible apply Keeps.ite | simp only [Keeps.upd] | dsimp only | split)

theorem forgetErr_keeps {s0 : State} (gran : Nat) (s : State) (hk : Keeps s0 s) : Keeps s0 (forgetErr gran s) := by
  unfold forgetErr
  repeat (first | with_reducible assumption | with_reducible apply Keeps.errSet | intro _ | with_reducible apply Keeps.ite | simp only [Keeps.upd] | dsimp only | split)

theorem execPatrolScrubRead_keeps {s0 : State} (gran result : Nat) (s : State) (hk : Keeps s0 s) : KeepsO s0 (execPatrolScrubRead gran result s) := by
  unfold execPatrolScrubRead
  repeat (first | with_reducible assumption | with_reducible apply KeepsO.next | with_reducible apply KeepsO.ite | with_reducible apply cntPart_keeps | with_reducible apply forgetErr_keeps | with_reducible apply scrubBad_keeps | intro _ | with_reducible apply Keeps.ite | simp only [Keeps.upd] | dsimp only | split)

theorem execErrHeadWrite_keeps {s0 : State} (r : Requester) (v : Nat) (s : State) (hk : Keeps s0 s) : KeepsO s0 (execErrHeadWrite r v s) := by
  unfold execErrHeadWrite
  repeat (first | with_reducible assumption | with_reducible apply KeepsO.next | with_reducible apply KeepsO.ite | with_reducible refine hostPart_keeps (by with_reducible assumption) ?_ | with_reducible apply hostPart_snd_keeps | with_reducible apply updPart_keeps | intro _ | with_reducible apply Keeps.ite | with_reducible apply Keeps.iteSnd | with_reducible apply Keeps.iteFst | simp only [Keeps.upd] | dsimp only | split)

theorem countFail_keeps {s0 t : State} {v : Nat} {d : DevId} {p : PartId} {k : Packet} {s : State} (e : countFail d p k s = (v, t)) (hk : Keeps s0 s) : Keeps s0 t := by
  unfold countFail at e
  (try dsimp only at e)
  repeat' split at e
  all_goals (try cases e)
  all_goals repeat (first | with_reducible assumption | with_reducible apply updFlow_keeps | intro _ | with_reducible apply Keeps.ite | with_reducible apply Keeps.iteSnd | with_reducible apply Keeps.iteFst | simp only [Keeps.upd] | dsimp only | split)

theorem countFail_snd_keeps {s0 : State} (d : DevId) (p : PartId) (k : Packet) (s : State) (hk : Keeps s0 s) : Keeps s0 (countFail d p k s).2 :=
  countFail_keeps (Prod.eta _).symm hk

theorem sendAgain_keeps {s0 : State} (d : DevId) (p : PartId) (isPiece : Bool) (b : Bytes) (s : State) (hk : Keeps s0 s) : Keeps s0 (sendAgain d p isPiece b s) := by
  unfold sendAgain
  repeat (first | with_reducible assumption | with_reducible apply sendPiece_keeps | with_reducible apply cntPart64_keeps | with_reducible apply cntPart_keeps | with_reducible apply sendPacketAs_keeps | intro _ | with_reducible apply Keeps.ite | simp only [Keeps.upd] | dsimp only | split)

theorem updClause_keeps {s0 : State} (p : PartId) (tag : Nat) (f : Clause → Clause) (s : State) (hk : Keeps s0 s) : Keeps s0 (updClause p tag f s) := by
  unfold updClause
  repeat (first | with_reducible assumption | with_reducible apply updConj_keeps | intro _ | with_reducible apply Keeps.ite | simp only [Keeps.upd] | dsimp only | split)

theorem sendLate_keeps {s0 : State} (p : PartId) (x : Clause) (s : State) (hk : Keeps s0 s) : Keeps s0 (sendLate p x s) := by
  unfold sendLate
  repeat (first | with_reducible assumption | with_reducible apply reissueClause_keeps | with_reducible apply updConj_keeps | with_reducible apply dispatchClause_keeps | with_reducible apply cntPart64_keeps | intro _ | with_reducible apply Keeps.ite | simp only [Keeps.upd] | dsimp only | split)

theorem bounceRecord_keeps {s0 : State} (p : PartId) (x : Clause) (d : DevId) (s : State) (hk : Keeps s0 s) : Keeps s0 (bounceRecord p x d s) := by
  unfold bounceRecord
  repeat (first | with_reducible assumption | with_reducible apply record_keeps | with_reducible apply updConj_keeps | intro _ | with_reducible apply Keeps.ite | simp only [Keeps.upd] | dsimp only | split)

theorem noteBounce_keeps {s0 : State} (p : PartId) (tag : Nat) (d : DevId) (s : State) (hk : Keeps s0 s) : Keeps s0 (noteBounce p tag d s) := by
  unfold noteBounce
  repeat (first | with_reducible assumption | with_reducible apply bounceRecord_keeps | intro _ | with_reducible apply Keeps.ite | simp only [Keeps.upd] | dsimp only | split)

theorem refuseSpec_keeps {s0 : State} (p : PartId) (tag : Nat) (d : DevId) (bounce : Bool) (s : State) (hk : Keeps s0 s) : Keeps s0 (refuseSpec p tag d bounce s) := by
  unfold refuseSpec
  repeat (first | with_reducible assumption | with_reducible apply cntPart_keeps | with_reducible apply updClause_keeps | with_reducible apply sendLate_keeps | with_reducible apply bounceRecord_keeps | with_reducible apply suppress_keeps | intro _ | with_reducible apply Keeps.ite | simp only [Keeps.upd] | dsimp only | split)

theorem specLost_keeps {s0 : State} (p : PartId) (tag : Nat) (s : State) (hk : Keeps s0 s) : Keeps s0 (specLost p tag s) := by
  unfold specLost
  repeat (first | with_reducible assumption | with_reducible apply updClause_keeps | with_reducible apply recordLost_keeps | with_reducible apply suppress_keeps | intro _ | with_reducible apply Keeps.ite | simp only [Keeps.upd] | dsimp only | split)

theorem reissueTag_keeps {s0 : State} (p : PartId) (tag : Nat) (d : DevId) (admitted : Option Bool) (s : State) (hk : Keeps s0 s) : Keeps s0 (reissueTag p tag d admitted s) := by
  unfold reissueTag
  repeat (first | with_reducible assumption | with_reducible apply reissueClause_keeps | intro _ | with_reducible apply Keeps.ite | simp only [Keeps.upd] | dsimp only | split)

theorem e2eFailed_keeps {s0 : State} (d : DevId) (p : PartId) (x : Packet) (b : Bytes) (s : State) (hk : Keeps s0 s) : Keeps s0 (e2eFailed d p x b s) := by
  unfold e2eFailed
  repeat (first | with_reducible assumption | with_reducible apply sendAgain_keeps | with_reducible refine countFail_keeps (by with_reducible assumption) ?_ | with_reducible apply countFail_snd_keeps | with_reducible apply specLost_keeps | with_reducible apply record_keeps | with_reducible apply reissueTag_keeps | intro _ | with_reducible apply Keeps.ite | with_reducible apply Keeps.iteSnd | with_reducible apply Keeps.iteFst | simp only [Keeps.upd] | dsimp only | split)

theorem takeRefuse_keeps {s0 : State} (d : DevId) (p : PartId) (k : Packet) (s : State) (hk : Keeps s0 s) : Keeps s0 (takeRefuse d p k s) := by
  unfold takeRefuse
  repeat (first | with_reducible assumption | with_reducible apply sendAgain_keeps | with_reducible apply e2eFailed_keeps | with_reducible apply refuseSpec_keeps | with_reducible apply reissueTag_keeps | with_reducible apply noteBounce_keeps | with_reducible apply updPeer_keeps | with_reducible apply markUnreachable_keeps | with_reducible apply conjSettle_keeps | intro _ | with_reducible apply Keeps.ite | with_reducible apply Keeps.iteSnd | with_reducible apply Keeps.iteFst | simp only [Keeps.upd] | dsimp only | split)

theorem takeRow_keeps {s0 : State} (src : DevId) (path : Path) (p : PartId) (k : Packet) (dt : Nat) (b : Bytes) (s : State) (hk : Keeps s0 s) : Keeps s0 (takeRow src path p k dt b s) := by
  unfold takeRow
  repeat (first | with_reducible assumption | with_reducible apply cntPower_keeps | with_reducible apply sendRefuse_keeps | with_reducible apply leavePool_keeps | with_reducible apply orphanRow_keeps | with_reducible apply cntPart64_keeps | with_reducible apply noteStalls_keeps | with_reducible apply storeRow_keeps | intro _ | with_reducible apply Keeps.ite | simp only [Keeps.upd] | dsimp only | split)

theorem takeResult_keeps {s0 : State} (p : PartId) (k : Packet) (s : State) (hk : Keeps s0 s) : Keeps s0 (takeResult p k s) := by
  unfold takeResult
  repeat (first | with_reducible assumption | with_reducible apply cntPart_keeps | with_reducible apply conjSettle_keeps | with_reducible apply contribute_keeps | with_reducible apply updSlot_keeps | with_reducible apply clauseFlag_keeps | intro _ | with_reducible apply Keeps.ite | simp only [Keeps.upd] | dsimp only | split)

theorem takeVerdict_keeps {s0 : State} (p : PartId) (b : Bytes) (i : Nat) (s : State) (hk : Keeps s0 s) : Keeps s0 (takeVerdict p b i s) := by
  unfold takeVerdict
  repeat (first | with_reducible assumption | with_reducible apply applyVerdict_keeps | intro _ | with_reducible apply Keeps.ite | simp only [Keeps.upd] | dsimp only | split)

theorem takeClose_keeps {s0 : State} (src : DevId) (p : PartId) (k : Packet) (s : State) (hk : Keeps s0 s) : Keeps s0 (takeClose src p k s) := by
  unfold takeClose
  repeat (first | with_reducible assumption | with_reducible apply tryClose_keeps | with_reducible apply updConj_keeps | with_reducible apply updPart_keeps | intro _ | with_reducible apply Keeps.ite | simp only [Keeps.upd] | dsimp only | split)

theorem takeBad_keeps {s0 : State} (src : DevId) (p : PartId) (b : Bytes) (s : State) (hk : Keeps s0 s) : Keeps s0 (takeBad src p b s) := by
  unfold takeBad
  repeat (first | with_reducible assumption | with_reducible apply cntPart_keeps | with_reducible apply sendRefuse_keeps | with_reducible refine countFail_keeps (by with_reducible assumption) ?_ | with_reducible apply countFail_snd_keeps | with_reducible apply conjSettle_keeps | with_reducible apply reissueTag_keeps | intro _ | with_reducible apply Keeps.ite | with_reducible apply Keeps.iteSnd | with_reducible apply Keeps.iteFst | simp only [Keeps.upd] | dsimp only | split)

theorem judgeResult_keeps {s0 : State} (p : PartId) (k : Packet) (s : State) (hk : Keeps s0 s) : Keeps s0 (judgeResult p k s) := by
  unfold judgeResult
  repeat (first | with_reducible assumption | with_reducible apply cntPart_keeps | with_reducible apply takeResult_keeps | intro _ | with_reducible apply Keeps.ite | simp only [Keeps.upd] | dsimp only | split)

theorem deliverPacket_keeps {s0 : State} (src : DevId) (path : Path) (dt : Nat) (p : PartId) (b : Bytes) (s : State) (hk : Keeps s0 s) : Keeps s0 (deliverPacket src path dt p b s) := by
  unfold deliverPacket
  repeat (first | with_reducible assumption | with_reducible apply takeBad_keeps | with_reducible apply leavePool_keeps | with_reducible apply sendRefuse_keeps | with_reducible refine judgeEpoch_keeps (by with_reducible assumption) ?_ | with_reducible apply judgeEpoch_snd_keeps | with_reducible apply refuseEpoch_keeps | with_reducible apply judgeResult_keeps | with_reducible refine judgePart_keeps (by with_reducible assumption) ?_ | with_reducible apply cntPart_keeps | with_reducible apply takeRow_keeps | with_reducible apply conjSettle_keeps | with_reducible apply eachOf_keeps | with_reducible apply takeVerdict_keeps | with_reducible apply takeClose_keeps | intro _ | with_reducible apply Keeps.ite | with_reducible apply Keeps.iteSnd | with_reducible apply Keeps.iteFst | simp only [Keeps.upd] | dsimp only | split)

theorem arrivePiece_keeps {s0 : State} (src : DevId) (path : Path) (dt : Nat) (p : PartId) (b : Bytes) (s : State) (hk : Keeps s0 s) : Keeps s0 (arrivePiece src path dt p b s) := by
  unfold arrivePiece
  repeat (first | with_reducible assumption | with_reducible apply leavePool_keeps | with_reducible apply colSettle_keeps | with_reducible apply dataBad_keeps | with_reducible refine judgeEpoch_keeps (by with_reducible assumption) ?_ | with_reducible apply judgeEpoch_snd_keeps | with_reducible apply refuseEpoch_keeps | with_reducible refine judgePart_keeps (by with_reducible assumption) ?_ | with_reducible apply cntPart_keeps | with_reducible apply deliverPiece_keeps | intro _ | with_reducible apply Keeps.ite | with_reducible apply Keeps.iteSnd | with_reducible apply Keeps.iteFst | simp only [Keeps.upd] | dsimp only | split)

theorem deliverHeld_keeps {s0 : State} (d : DevId) (p : PartId) (path : Path) (isPiece : Bool) (dt : Nat) (b : Bytes) (s : State) (hk : Keeps s0 s) : Keeps s0 (deliverHeld d p path isPiece dt b s) := by
  unfold deliverHeld
  repeat (first | with_reducible assumption | with_reducible apply arrivePiece_keeps | with_reducible apply deliverPacket_keeps | intro _ | with_reducible apply Keeps.ite | simp only [Keeps.upd] | dsimp only | split)

theorem markMoved_keeps {s0 : State} (p : PartId) (e : HeldPkt) (s : State) (hk : Keeps s0 s) : Keeps s0 (markMoved p e s) := by
  unfold markMoved
  repeat (first | with_reducible assumption | with_reducible apply updRows_keeps | intro _ | with_reducible apply Keeps.ite | simp only [Keeps.upd] | dsimp only | split)

theorem drainFlow_keeps {s0 : State} (d : DevId) (p : PartId) : ∀ (x0 : Nat) (s : State), Keeps s0 s → Keeps s0 (drainFlow d p x0 s)
  | 0, s, h => by
    unfold drainFlow
    repeat (first | with_reducible assumption | with_reducible apply updFlow_keeps | with_reducible apply markMoved_keeps | with_reducible apply deliverHeld_keeps | intro _ | with_reducible apply Keeps.ite | simp only [Keeps.upd] | dsimp only | split)
  | n + 1, s, h => by
    unfold drainFlow
    repeat (first | with_reducible assumption | with_reducible apply drainFlow_keeps | with_reducible apply updFlow_keeps | with_reducible apply markMoved_keeps | with_reducible apply deliverHeld_keeps | intro _ | with_reducible apply Keeps.ite | simp only [Keeps.upd] | dsimp only | split)

theorem drainPart_keeps {s0 : State} (p : PartId) (s : State) (hk : Keeps s0 s) : Keeps s0 (drainPart p s) := by
  unfold drainPart
  repeat (first | with_reducible assumption | with_reducible apply settleRows_keeps | with_reducible apply eachOf_keeps | with_reducible apply drainFlow_keeps | intro _ | with_reducible apply Keeps.ite | with_reducible apply Keeps.iteSnd | with_reducible apply Keeps.iteFst | simp only [Keeps.upd] | dsimp only | split)

theorem holdPacket_keeps {s0 : State} (src : DevId) (path : Path) (isPiece : Bool) (p : PartId) (seq : Nat) (b : Bytes) (s : State) (hk : Keeps s0 s) : Keeps s0 (holdPacket src path isPiece p seq b s) := by
  unfold holdPacket
  repeat (first | with_reducible assumption | with_reducible apply cntBridle_keeps | with_reducible apply leavePool_keeps | with_reducible apply updFlow_keeps | intro _ | with_reducible apply Keeps.ite | simp only [Keeps.upd] | dsimp only | split)

theorem passOver_keeps {s0 : State} (src : DevId) (path : Path) (p : PartId) (seq : Nat) (s : State) (hk : Keeps s0 s) : Keeps s0 (passOver src path p seq s) := by
  unfold passOver
  repeat (first | with_reducible assumption | with_reducible apply updFlow_keeps | intro _ | with_reducible apply Keeps.ite | simp only [Keeps.upd] | dsimp only | split)

theorem seeRise_keeps {s0 : State} (src : DevId) (p : PartId) (isPiece : Bool) (seq : Nat) (b : Bytes) (s : State) (hk : Keeps s0 s) : Keeps s0 (seeRise src p isPiece seq b s) := by
  unfold seeRise
  repeat (first | with_reducible assumption | with_reducible refine judgePart_keeps (by with_reducible assumption) ?_ | with_reducible apply dropHeld_keeps | intro _ | with_reducible apply Keeps.ite | simp only [Keeps.upd] | dsimp only | split)

theorem takeTurn_keeps {s0 : State} (src : DevId) (path : Path) (isPiece : Bool) (p : PartId) (b : Bytes) (s : State) (hk : Keeps s0 s) : Keeps s0 (takeTurn src path isPiece p b s) := by
  unfold takeTurn
  repeat (first | with_reducible assumption | with_reducible apply cntBridle_keeps | with_reducible apply leavePool_keeps | with_reducible apply drainPart_keeps | with_reducible apply holdPacket_keeps | with_reducible apply seeRise_keeps | intro _ | with_reducible apply Keeps.ite | simp only [Keeps.upd] | dsimp only | split)

theorem arriveBad_keeps {s0 : State} (src : DevId) (path : Path) (p : PartId) (b : Bytes) (s : State) (hk : Keeps s0 s) : Keeps s0 (arriveBad src path p b s) := by
  unfold arriveBad
  repeat (first | with_reducible assumption | with_reducible apply takeBad_keeps | with_reducible apply leavePool_keeps | with_reducible apply drainPart_keeps | with_reducible apply passOver_keeps | intro _ | with_reducible apply Keeps.ite | simp only [Keeps.upd] | dsimp only | split)

theorem arrive_keeps {s0 : State} (src : DevId) (path : Path) (isPiece : Bool) (b : Bytes) (s : State) (hk : Keeps s0 s) : Keeps s0 (arrive src path isPiece b s) := by
  unfold arrive
  repeat (first | with_reducible assumption | with_reducible apply arriveMeets_keeps | with_reducible apply takeTurn_keeps | with_reducible apply arriveBad_keeps | with_reducible apply drainPart_keeps | with_reducible apply takeRefuse_keeps | with_reducible apply leavePool_keeps | intro _ | with_reducible apply Keeps.ite | simp only [Keeps.upd] | dsimp only | split)

theorem arriveKind_keeps {s0 : State} (src : DevId) (path : Path) (isPiece : Bool) (kinds : Nat → Bool) (b : Bytes) (s : State) (hk : Keeps s0 s) : KeepsO s0 (arriveKind src path isPiece kinds b s) := by
  unfold arriveKind
  repeat (first | with_reducible assumption | with_reducible apply KeepsO.next | with_reducible apply KeepsO.ite | with_reducible apply arrive_keeps | intro _ | with_reducible apply Keeps.ite | simp only [Keeps.upd] | dsimp only | split)

theorem execRowReceive_keeps {s0 : State} (src : DevId) (path : Path) (pkt : Bytes) (s : State) (hk : Keeps s0 s) : KeepsO s0 (execRowReceive src path pkt s) := by
  unfold execRowReceive
  repeat (first | with_reducible assumption | with_reducible apply KeepsO.next | with_reducible apply KeepsO.ite | with_reducible apply arriveKind_keeps | with_reducible apply quietRow_keeps | intro _ | with_reducible apply Keeps.ite | simp only [Keeps.upd] | dsimp only | split)

theorem execResultReceive_keeps {s0 : State} (src : DevId) (path : Path) (pkt : Bytes) (s : State) (hk : Keeps s0 s) : KeepsO s0 (execResultReceive src path pkt s) := by
  unfold execResultReceive
  repeat (first | with_reducible assumption | with_reducible apply KeepsO.next | with_reducible apply KeepsO.ite | with_reducible apply arriveKind_keeps | intro _ | with_reducible apply Keeps.ite | simp only [Keeps.upd] | dsimp only | split)

theorem execVerdictReceive_keeps {s0 : State} (src : DevId) (path : Path) (pkt : Bytes) (s : State) (hk : Keeps s0 s) : KeepsO s0 (execVerdictReceive src path pkt s) := by
  unfold execVerdictReceive
  repeat (first | with_reducible assumption | with_reducible apply KeepsO.next | with_reducible apply KeepsO.ite | with_reducible apply arriveKind_keeps | intro _ | with_reducible apply Keeps.ite | simp only [Keeps.upd] | dsimp only | split)

theorem execCloseReceive_keeps {s0 : State} (src : DevId) (path : Path) (pkt : Bytes) (s : State) (hk : Keeps s0 s) : KeepsO s0 (execCloseReceive src path pkt s) := by
  unfold execCloseReceive
  repeat (first | with_reducible assumption | with_reducible apply KeepsO.next | with_reducible apply KeepsO.ite | with_reducible apply arriveKind_keeps | intro _ | with_reducible apply Keeps.ite | simp only [Keeps.upd] | dsimp only | split)

theorem execDropReceive_keeps {s0 : State} (src : DevId) (path : Path) (pkt : Bytes) (s : State) (hk : Keeps s0 s) : KeepsO s0 (execDropReceive src path pkt s) := by
  unfold execDropReceive
  repeat (first | with_reducible assumption | with_reducible apply KeepsO.next | with_reducible apply KeepsO.ite | with_reducible apply arriveKind_keeps | intro _ | with_reducible apply Keeps.ite | simp only [Keeps.upd] | dsimp only | split)

theorem execRefuseReceive_keeps {s0 : State} (src : DevId) (path : Path) (pkt : Bytes) (s : State) (hk : Keeps s0 s) : KeepsO s0 (execRefuseReceive src path pkt s) := by
  unfold execRefuseReceive
  repeat (first | with_reducible assumption | with_reducible apply KeepsO.next | with_reducible apply KeepsO.ite | with_reducible apply arriveKind_keeps | intro _ | with_reducible apply Keeps.ite | simp only [Keeps.upd] | dsimp only | split)

theorem noteOps_keeps {s0 : State} (src : DevId) (b : Bytes) (ops : Option ColOps) (s : State) (hk : Keeps s0 s) : Keeps s0 (noteOps src b ops s) := by
  unfold noteOps
  repeat (first | with_reducible assumption | intro _ | with_reducible apply Keeps.ite | simp only [Keeps.upd] | dsimp only | split)

theorem execColDataReceive_keeps {s0 : State} (src : DevId) (path : Path) (pkt : Bytes) (ops : Option ColOps) (s : State) (hk : Keeps s0 s) : KeepsO s0 (execColDataReceive src path pkt ops s) := by
  unfold execColDataReceive
  repeat (first | with_reducible assumption | with_reducible apply KeepsO.next | with_reducible apply KeepsO.ite | with_reducible apply arriveKind_keeps | with_reducible apply noteOps_keeps | intro _ | with_reducible apply Keeps.ite | simp only [Keeps.upd] | dsimp only | split)

theorem execColAckReceive_keeps {s0 : State} (src : DevId) (path : Path) (pkt : Bytes) (s : State) (hk : Keeps s0 s) : KeepsO s0 (execColAckReceive src path pkt s) := by
  unfold execColAckReceive
  repeat (first | with_reducible assumption | with_reducible apply KeepsO.next | with_reducible apply KeepsO.ite | with_reducible apply arriveKind_keeps | intro _ | with_reducible apply Keeps.ite | simp only [Keeps.upd] | dsimp only | split)

theorem execColNackReceive_keeps {s0 : State} (src : DevId) (path : Path) (pkt : Bytes) (s : State) (hk : Keeps s0 s) : KeepsO s0 (execColNackReceive src path pkt s) := by
  unfold execColNackReceive
  repeat (first | with_reducible assumption | with_reducible apply KeepsO.next | with_reducible apply KeepsO.ite | with_reducible apply arriveKind_keeps | intro _ | with_reducible apply Keeps.ite | simp only [Keeps.upd] | dsimp only | split)

theorem execJoinReceive_keeps {s0 : State} (src : DevId) (path : Path) (pkt : Bytes) (s : State) (hk : Keeps s0 s) : KeepsO s0 (execJoinReceive src path pkt s) := by
  unfold execJoinReceive
  repeat (first | with_reducible assumption | with_reducible apply KeepsO.next | with_reducible apply KeepsO.ite | with_reducible apply arriveKind_keeps | intro _ | with_reducible apply Keeps.ite | simp only [Keeps.upd] | dsimp only | split)

theorem execReadyReceive_keeps {s0 : State} (src : DevId) (path : Path) (pkt : Bytes) (s : State) (hk : Keeps s0 s) : KeepsO s0 (execReadyReceive src path pkt s) := by
  unfold execReadyReceive
  repeat (first | with_reducible assumption | with_reducible apply KeepsO.next | with_reducible apply KeepsO.ite | with_reducible apply arriveKind_keeps | intro _ | with_reducible apply Keeps.ite | simp only [Keeps.upd] | dsimp only | split)

theorem execColAbortReceive_keeps {s0 : State} (src : DevId) (path : Path) (pkt : Bytes) (s : State) (hk : Keeps s0 s) : KeepsO s0 (execColAbortReceive src path pkt s) := by
  unfold execColAbortReceive
  repeat (first | with_reducible assumption | with_reducible apply KeepsO.next | with_reducible apply KeepsO.ite | with_reducible apply arriveKind_keeps | intro _ | with_reducible apply Keeps.ite | simp only [Keeps.upd] | dsimp only | split)

theorem execColProbeReceive_keeps {s0 : State} (src : DevId) (path : Path) (pkt : Bytes) (s : State) (hk : Keeps s0 s) : KeepsO s0 (execColProbeReceive src path pkt s) := by
  unfold execColProbeReceive
  repeat (first | with_reducible assumption | with_reducible apply KeepsO.next | with_reducible apply KeepsO.ite | with_reducible apply arriveKind_keeps | intro _ | with_reducible apply Keeps.ite | simp only [Keeps.upd] | dsimp only | split)

theorem execColProbeAckReceive_keeps {s0 : State} (src : DevId) (path : Path) (pkt : Bytes) (s : State) (hk : Keeps s0 s) : KeepsO s0 (execColProbeAckReceive src path pkt s) := by
  unfold execColProbeAckReceive
  repeat (first | with_reducible assumption | with_reducible apply KeepsO.next | with_reducible apply KeepsO.ite | with_reducible apply arriveKind_keeps | intro _ | with_reducible apply Keeps.ite | simp only [Keeps.upd] | dsimp only | split)

theorem execPassStart_keeps {s0 : State} (p : PartId) (expert : Nat) (s : State) (hk : Keeps s0 s) : KeepsO s0 (execPassStart p expert s) := by
  unfold execPassStart
  repeat (first | with_reducible assumption | with_reducible apply KeepsO.next | with_reducible apply KeepsO.ite | with_reducible apply drainPart_keeps | with_reducible apply passStart_keeps | intro _ | with_reducible apply Keeps.ite | simp only [Keeps.upd] | dsimp only | split)

theorem execReissuePassTimer_keeps {s0 : State} (p : PartId) (expert : Nat) (s : State) (hk : Keeps s0 s) : KeepsO s0 (execReissuePassTimer p expert s) := by
  unfold execReissuePassTimer
  repeat (first | with_reducible assumption | with_reducible apply KeepsO.next | with_reducible apply KeepsO.ite | with_reducible apply drainPart_keeps | with_reducible apply reissuePass_keeps | intro _ | with_reducible apply Keeps.ite | simp only [Keeps.upd] | dsimp only | split)

theorem execTeardownServeEnd_keeps {s0 : State} (p : PartId) (s : State) (hk : Keeps s0 s) : KeepsO s0 (execTeardownServeEnd p s) := by
  unfold execTeardownServeEnd
  repeat (first | with_reducible assumption | with_reducible apply KeepsO.next | with_reducible apply KeepsO.ite | with_reducible apply drainPart_keeps | with_reducible apply serveEnd_keeps | intro _ | with_reducible apply Keeps.ite | simp only [Keeps.upd] | dsimp only | split)

theorem pwrStatus_keeps {s0 : State} (cmd reason : Nat) (s : State) (hk : Keeps s0 s) : Keeps s0 (pwrStatus cmd reason s) := by
  unfold pwrStatus
  repeat (first | with_reducible assumption | intro _ | with_reducible apply Keeps.ite | simp only [Keeps.upd] | dsimp only | split)

theorem execSetPstate_keeps {s0 : State} (r : Requester) (v : Nat) (s : State) (hk : Keeps s0 s) : KeepsO s0 (execSetPstate r v s) := by
  unfold execSetPstate
  repeat (first | with_reducible assumption | with_reducible apply KeepsO.next | with_reducible apply KeepsO.ite | with_reducible apply pwrStatus_keeps | with_reducible apply requestPstate_keeps | intro _ | with_reducible apply Keeps.ite | simp only [Keeps.upd] | dsimp only | split)

theorem execPstateRampDone_keeps {s0 : State} (s : State) (hk : Keeps s0 s) : KeepsO s0 (execPstateRampDone s) := by
  unfold execPstateRampDone
  repeat (first | with_reducible assumption | with_reducible apply KeepsO.next | with_reducible apply KeepsO.ite | with_reducible apply switchCore_keeps | intro _ | with_reducible apply Keeps.ite | simp only [Keeps.upd] | dsimp only | split)

theorem execRailReadbackSample_keeps {s0 : State} (mv : Nat) (s : State) (hk : Keeps s0 s) : KeepsO s0 (execRailReadbackSample mv s) := by
  unfold execRailReadbackSample
  repeat (first | with_reducible assumption | with_reducible apply KeepsO.next | with_reducible apply KeepsO.ite | with_reducible apply mgtEvent_keeps | with_reducible apply switchCore_keeps | intro _ | with_reducible apply Keeps.ite | simp only [Keeps.upd] | dsimp only | split)

theorem thermalStep_keeps {s0 : State} (s : State) (hk : Keeps s0 s) : Keeps s0 (thermalStep s) := by
  unfold thermalStep
  repeat (first | with_reducible assumption | with_reducible apply mgtEvent_keeps | with_reducible apply cntPower_keeps | with_reducible apply releaseHeld_keeps | intro _ | with_reducible apply Keeps.ite | simp only [Keeps.upd] | dsimp only | split)

theorem alertStep_keeps {s0 : State} (s : State) (hk : Keeps s0 s) : Keeps s0 (alertStep s) := by
  unfold alertStep
  repeat (first | with_reducible assumption | with_reducible apply mgtEvent_keeps | with_reducible apply emit_keeps | intro _ | with_reducible apply Keeps.ite | simp only [Keeps.upd] | dsimp only | split)

theorem execSensorSample_keeps {s0 : State} (temps : List Int) (s : State) (hk : Keeps s0 s) : KeepsO s0 (execSensorSample temps s) := by
  unfold execSensorSample
  repeat (first | with_reducible assumption | with_reducible apply KeepsO.next | with_reducible apply KeepsO.ite | with_reducible apply thermalStep_keeps | with_reducible apply alertStep_keeps | intro _ | with_reducible apply Keeps.ite | simp only [Keeps.upd] | dsimp only | split)

theorem execHbmTempReport_keeps {s0 : State} (stack : Fin 6) (temp : Int) (s : State) (hk : Keeps s0 s) : KeepsO s0 (execHbmTempReport stack temp s) := by
  unfold execHbmTempReport
  repeat (first | with_reducible assumption | with_reducible apply KeepsO.next | with_reducible apply KeepsO.ite | intro _ | with_reducible apply Keeps.ite | with_reducible apply Keeps.hbmClear | with_reducible apply Keeps.hbmNil | simp only [Keeps.upd] | dsimp only | split)

theorem windowEnd_keeps {s0 : State} (s : State) (hk : Keeps s0 s) : Keeps s0 (windowEnd s) := by
  unfold windowEnd
  repeat (first | with_reducible assumption | with_reducible apply releaseHeld_keeps | with_reducible apply mgtEvent_keeps | intro _ | with_reducible apply Keeps.ite | simp only [Keeps.upd] | dsimp only | split)

theorem overLimit_keeps {s0 : State} (avg : Nat) (s : State) (hk : Keeps s0 s) : Keeps s0 (overLimit avg s) := by
  unfold overLimit
  repeat (first | with_reducible assumption | with_reducible apply cntPower_keeps | with_reducible apply mgtEvent_keeps | with_reducible apply mgtRecord_keeps | with_reducible apply recordAll_keeps | intro _ | with_reducible apply Keeps.ite | simp only [Keeps.upd] | dsimp only | split)

theorem energyStep_keeps {s0 : State} (watts : Nat) (s : State) (hk : Keeps s0 s) : Keeps s0 (energyStep watts s) := by
  unfold energyStep
  repeat (first | with_reducible assumption | intro _ | with_reducible apply Keeps.ite | simp only [Keeps.upd] | dsimp only | split)

theorem execPowerEstimate_keeps {s0 : State} (watts : Nat) (s : State) (hk : Keeps s0 s) : KeepsO s0 (execPowerEstimate watts s) := by
  unfold execPowerEstimate
  repeat (first | with_reducible assumption | with_reducible apply KeepsO.next | with_reducible apply KeepsO.ite | with_reducible apply windowEnd_keeps | with_reducible apply energyStep_keeps | with_reducible apply overLimit_keeps | intro _ | with_reducible apply Keeps.ite | simp only [Keeps.upd] | dsimp only | split)

theorem execPwrLimitWWrite_keeps {s0 : State} (r : Requester) (v : Nat) (s : State) (hk : Keeps s0 s) : KeepsO s0 (execPwrLimitWWrite r v s) := by
  unfold execPwrLimitWWrite
  repeat (first | with_reducible assumption | with_reducible apply KeepsO.next | with_reducible apply KeepsO.ite | intro _ | with_reducible apply Keeps.ite | simp only [Keeps.upd] | dsimp only | split)

theorem execPwrCloseUsWrite_keeps {s0 : State} (r : Requester) (v : Nat) (s : State) (hk : Keeps s0 s) : KeepsO s0 (execPwrCloseUsWrite r v s) := by
  unfold execPwrCloseUsWrite
  repeat (first | with_reducible assumption | with_reducible apply KeepsO.next | with_reducible apply KeepsO.ite | intro _ | with_reducible apply Keeps.ite | simp only [Keeps.upd] | dsimp only | split)

theorem gateCluster_keeps {s0 : State} (c : ClusterId) (s : State) (hk : Keeps s0 s) : Keeps s0 (gateCluster c s) := by
  unfold gateCluster
  repeat (first | with_reducible assumption | with_reducible apply noticeChange_keeps | with_reducible apply setCluster_keeps | intro _ | with_reducible apply Keeps.ite | simp only [Keeps.upd] | dsimp only | split)

theorem execGate_keeps {s0 : State} (r : Requester) (v : Nat) (s : State) (hk : Keeps s0 s) : KeepsO s0 (execGate r v s) := by
  unfold execGate
  repeat (first | with_reducible assumption | with_reducible apply KeepsO.next | with_reducible apply KeepsO.ite | with_reducible apply pwrStatus_keeps | with_reducible apply gateCluster_keeps | intro _ | with_reducible apply Keeps.ite | simp only [Keeps.upd] | dsimp only | split)

theorem execClusterNoticeTimer_keeps {s0 : State} (s : State) (hk : Keeps s0 s) : KeepsO s0 (execClusterNoticeTimer s) := by
  unfold execClusterNoticeTimer
  repeat (first | with_reducible assumption | with_reducible apply KeepsO.next | with_reducible apply KeepsO.ite | with_reducible apply noticeCtx_keeps | with_reducible apply Keeps.foldl | intro _ | with_reducible apply Keeps.ite | simp only [Keeps.upd] | dsimp only | split)

theorem execClusterNoticeReceive_keeps {s0 : State} (notice : Bytes) (s : State) (hk : Keeps s0 s) : KeepsO s0 (execClusterNoticeReceive notice s) := by
  unfold execClusterNoticeReceive
  repeat (first | with_reducible assumption | with_reducible apply KeepsO.next | with_reducible apply KeepsO.ite | with_reducible apply eachOf_keeps | with_reducible apply updPlane_keeps | with_reducible apply learnStart_keeps | with_reducible apply updPeer_keeps | intro _ | with_reducible apply Keeps.ite | with_reducible apply Keeps.iteSnd | with_reducible apply Keeps.iteFst | simp only [Keeps.upd] | dsimp only | split)

theorem execCloseTimeElapsed_keeps {s0 : State} (c : ClusterId) (s : State) (hk : Keeps s0 s) : KeepsO s0 (execCloseTimeElapsed c s) := by
  unfold execCloseTimeElapsed
  repeat (first | with_reducible assumption | with_reducible apply KeepsO.next | with_reducible apply KeepsO.ite | with_reducible apply updCluster_keeps | with_reducible apply setCluster_keeps | intro _ | with_reducible apply Keeps.ite | simp only [Keeps.upd] | dsimp only | split)

theorem execDrainComplete_keeps {s0 : State} (c : ClusterId) (s : State) (hk : Keeps s0 s) : KeepsO s0 (execDrainComplete c s) := by
  unfold execDrainComplete
  repeat (first | with_reducible assumption | with_reducible apply KeepsO.next | with_reducible apply KeepsO.ite | with_reducible apply setCluster_keeps | intro _ | with_reducible apply Keeps.ite | simp only [Keeps.upd] | dsimp only | split)

theorem refuseHeld_keeps {s0 : State} (p : PartId) (r : RowRec) (s : State) (hk : Keeps s0 s) : Keeps s0 (refuseHeld p r s) := by
  unfold refuseHeld
  repeat (first | with_reducible assumption | with_reducible apply cntPower_keeps | with_reducible apply dropRow_keeps | with_reducible apply sendRefuse_keeps | with_reducible apply refuseSpec_keeps | with_reducible apply conjSettle_keeps | with_reducible apply reissueTag_keeps | with_reducible apply noteBounce_keeps | intro _ | with_reducible apply Keeps.ite | simp only [Keeps.upd] | dsimp only | split)

theorem execDrainCap_keeps {s0 : State} (c : ClusterId) (s : State) (hk : Keeps s0 s) : KeepsO s0 (execDrainCap c s) := by
  unfold execDrainCap
  repeat (first | with_reducible assumption | with_reducible apply KeepsO.next | with_reducible apply KeepsO.ite | with_reducible apply setCluster_keeps | with_reducible apply eachOf_keeps | with_reducible apply drainPart_keeps | with_reducible apply refuseHeld_keeps | intro _ | with_reducible apply Keeps.ite | simp only [Keeps.upd] | dsimp only | split)

theorem execIsolationTimer_keeps {s0 : State} (c : ClusterId) (s : State) (hk : Keeps s0 s) : KeepsO s0 (execIsolationTimer c s) := by
  unfold execIsolationTimer
  repeat (first | with_reducible assumption | with_reducible apply KeepsO.next | with_reducible apply KeepsO.ite | with_reducible apply setCluster_keeps | intro _ | with_reducible apply Keeps.ite | simp only [Keeps.upd] | dsimp only | split)

theorem execPwrWake_keeps {s0 : State} (r : Requester) (v : Nat) (s : State) (hk : Keeps s0 s) : KeepsO s0 (execPwrWake r v s) := by
  unfold execPwrWake
  repeat (first | with_reducible assumption | with_reducible apply KeepsO.next | with_reducible apply KeepsO.ite | with_reducible apply pwrStatus_keeps | with_reducible apply noticeChange_keeps | with_reducible apply setCluster_keeps | with_reducible apply updCluster_keeps | intro _ | with_reducible apply Keeps.ite | simp only [Keeps.upd] | dsimp only | split)

theorem execClusterPowerUpDone_keeps {s0 : State} (c : ClusterId) (s : State) (hk : Keeps s0 s) : KeepsO s0 (execClusterPowerUpDone c s) := by
  unfold execClusterPowerUpDone
  repeat (first | with_reducible assumption | with_reducible apply KeepsO.next | with_reducible apply KeepsO.ite | with_reducible apply updCluster_keeps | with_reducible apply noticeChange_keeps | with_reducible apply setCluster_keeps | intro _ | with_reducible apply Keeps.ite | simp only [Keeps.upd] | dsimp only | split)

theorem gateUnnamed_keeps {s0 : State} (s : State) (hk : Keeps s0 s) : Keeps s0 (gateUnnamed s) := by
  unfold gateUnnamed
  repeat (first | with_reducible assumption | with_reducible apply eachOf_keeps | with_reducible apply gateCluster_keeps | intro _ | with_reducible apply Keeps.ite | simp only [Keeps.upd] | dsimp only | split)

theorem execQuietEnter_keeps {s0 : State} (r : Requester) (v : Nat) (s : State) (hk : Keeps s0 s) : KeepsO s0 (execQuietEnter r v s) := by
  unfold execQuietEnter
  repeat (first | with_reducible assumption | with_reducible apply KeepsO.next | with_reducible apply KeepsO.ite | with_reducible apply pwrStatus_keeps | with_reducible apply requestPstate_keeps | with_reducible apply gateUnnamed_keeps | intro _ | with_reducible apply Keeps.ite | simp only [Keeps.upd] | dsimp only | split)

theorem execQuietExit_keeps {s0 : State} (r : Requester) (v : Nat) (s : State) (hk : Keeps s0 s) : KeepsO s0 (execQuietExit r v s) := by
  unfold execQuietExit
  repeat (first | with_reducible assumption | with_reducible apply KeepsO.next | with_reducible apply KeepsO.ite | with_reducible apply pwrStatus_keeps | with_reducible apply quietExit_keeps | intro _ | with_reducible apply Keeps.ite | simp only [Keeps.upd] | dsimp only | split)

theorem lcTransition_keeps {s0 : State} (op : Nat) (zero : Bool) (burn : Fuses → Fuses) (hb : ∀ f, FusesLe f (burn f)) (s : State)
    (hk : Keeps s0 s) : Keeps s0 (lcTransition op zero burn s) := by
  unfold lcTransition
  dsimp only
  apply secLog_keeps
  apply Keeps.fusesUpd
  · exact hb _
  · repeat (first | with_reducible assumption | with_reducible refine takeFree_keeps (by with_reducible assumption) ?_ | with_reducible apply takeFree_snd_keeps | with_reducible apply secLog_keeps | with_reducible apply zeroizeAll_keeps | intro _ | with_reducible apply Keeps.ite | with_reducible apply Keeps.iteSnd | with_reducible apply Keeps.iteFst | simp only [Keeps.upd] | dsimp only | split)

theorem FuseLe.refl (x : Fuse) : FuseLe x x := ⟨id, id⟩
theorem FuseLe.burned (x : Fuse) : FuseLe x burned := ⟨fun _ => rfl, fun _ => rfl⟩
theorem FuseLe.burnNext (v : Vector Fuse 16) (i : Fin 16) : FuseLe v[i] (burnNext v)[i] := by
  unfold Sys2Proof.Machine.burnNext
  simp only [Fin.getElem_fin, Vector.getElem_ofFn]
  split
  · exact FuseLe.burned _
  · exact FuseLe.refl _
theorem voidTorn_keeps {s0 : State} (s : State)  (hk : Keeps s0 s) : Keeps s0 (voidTorn s) := by
  unfold voidTorn
  repeat (first | with_reducible assumption | with_reducible apply flashWrite_keeps | intro _ | with_reducible apply Keeps.ite | simp only [Keeps.upd] | dsimp only | split)

theorem FuseLe.mendLast (v : Vector Fuse 16) (i : Fin 16) : FuseLe v[i] (mendLast v)[i] := by
  unfold Sys2Proof.Machine.mendLast
  simp only [Fin.getElem_fin, Vector.getElem_ofFn]
  split
  · exact FuseLe.burned _
  · exact FuseLe.refl _
theorem FusesLe.mendLc (op : Nat) (f : Fuses) : FusesLe f (mendLc op f) := by
  unfold Sys2Proof.Machine.mendLc
  split
  · exact ⟨FuseLe.burned _, FuseLe.refl _, FuseLe.refl _, FuseLe.refl _, fun _ => FuseLe.refl _, fun _ => FuseLe.refl _, Nat.le_refl _⟩
  · exact ⟨FuseLe.refl _, FuseLe.burned _, FuseLe.refl _, FuseLe.refl _, fun _ => FuseLe.refl _, fun _ => FuseLe.refl _, Nat.le_refl _⟩
  · exact ⟨FuseLe.refl _, FuseLe.refl _, FuseLe.refl _, FuseLe.refl _, FuseLe.mendLast _, fun _ => FuseLe.refl _, Nat.le_refl _⟩
  · exact ⟨FuseLe.refl _, FuseLe.refl _, FuseLe.refl _, FuseLe.refl _, fun _ => FuseLe.refl _, FuseLe.mendLast _, Nat.le_refl _⟩
  · exact ⟨FuseLe.refl _, FuseLe.refl _, FuseLe.burned _, FuseLe.burned _, fun _ => FuseLe.refl _, fun _ => FuseLe.refl _, Nat.le_refl _⟩
  · exact FusesLe.refl _
theorem lcRecover_keeps {s0 : State} (s : State) (hk : Keeps s0 s) : Keeps s0 (lcRecover s) := by
  unfold lcRecover
  split
  · exact hk
  · rename_i r _
    dsimp only
    split
    · have w : Keeps s0 { s with fuses := mendLc (leAt r 24 2) s.fuses } :=
        ⟨hk.hbm, hk.poison, hk.err, hk.flash, hk.syc, FusesLe.trans hk.fuses (FusesLe.mendLc _ _), hk.pending, hk.out, hk.free⟩
      apply secLog_keeps
      split
      · exact zeroizeAll_keeps _ (secLog_keeps _ _ _ _ _ w)
      · exact w
    · exact secLog_keeps _ _ _ _ _ hk

theorem romLog_keeps {s0 : State} (s : State) (hk : Keeps s0 s) : Keeps s0 (romLog s) := by
  unfold romLog
  repeat (first | with_reducible assumption | with_reducible apply lcRecover_keeps | with_reducible apply voidTorn_keeps | intro _ | with_reducible apply Keeps.ite | simp only [Keeps.upd] | dsimp only | split)

theorem burnFloor_keeps {s0 : State} (n : Nat) (s : State) (hk : Keeps s0 s) : Keeps s0 (burnFloor n s) := by
  unfold burnFloor
  split
  · exact hk
  · rename_i h
    have w := secLog_keeps (s0 := s0) 0x0020 1 0 (toLe 2 s.fuses.floor ++ toLe 2 n) s hk
    dsimp only
    refine ⟨w.hbm, w.poison, w.err, w.flash, w.syc, ?_, w.pending, w.out, w.free⟩
    exact ⟨w.fuses.prov, w.fuses.deploy, w.fuses.decom, w.fuses.huk, w.fuses.unlock, w.fuses.relock,
      Nat.le_trans hk.fuses.floor (Nat.le_of_lt (Nat.lt_of_not_le h))⟩

theorem actProvision_keeps {s0 t : State} {v : Nat} {b : Bytes} {s : State} (e : actProvision b s = (v, t)) (hk : Keeps s0 s) : Keeps s0 t := by
  unfold actProvision at e
  cases e
  refine lcTransition_keeps 1 false _ ?_ s hk
  intro f
  exact ⟨FuseLe.burned _, FuseLe.refl _, FuseLe.refl _, FuseLe.refl _, fun _ => FuseLe.refl _,
    fun _ => FuseLe.refl _, Nat.le_max_left _ _⟩

theorem actProvision_snd_keeps {s0 : State} (b : Bytes) (s : State) (hk : Keeps s0 s) : Keeps s0 (actProvision b s).2 :=
  actProvision_keeps (Prod.eta _).symm hk

theorem actDeploy_keeps {s0 t : State} {v : Nat} {s : State} (e : actDeploy s = (v, t)) (hk : Keeps s0 s) : Keeps s0 t := by
  unfold actDeploy at e
  cases e
  refine lcTransition_keeps 2 false _ ?_ s hk
  intro f
  exact ⟨FuseLe.refl _, FuseLe.burned _, FuseLe.refl _, FuseLe.refl _, fun _ => FuseLe.refl _,
    fun _ => FuseLe.refl _, Nat.le_refl _⟩

theorem actDeploy_snd_keeps {s0 : State} (s : State) (hk : Keeps s0 s) : Keeps s0 (actDeploy s).2 :=
  actDeploy_keeps (Prod.eta _).symm hk

theorem actUnlock_keeps {s0 t : State} {v : Nat} {s : State} (e : actUnlock s = (v, t)) (hk : Keeps s0 s) : Keeps s0 t := by
  unfold actUnlock at e
  cases e
  refine lcTransition_keeps 3 true _ ?_ s hk
  intro f
  exact ⟨FuseLe.refl _, FuseLe.refl _, FuseLe.refl _, FuseLe.refl _, FuseLe.burnNext _,
    fun _ => FuseLe.refl _, Nat.le_refl _⟩

theorem actUnlock_snd_keeps {s0 : State} (s : State) (hk : Keeps s0 s) : Keeps s0 (actUnlock s).2 :=
  actUnlock_keeps (Prod.eta _).symm hk

theorem actRelock_keeps {s0 t : State} {v : Nat} {s : State} (e : actRelock s = (v, t)) (hk : Keeps s0 s) : Keeps s0 t := by
  unfold actRelock at e
  cases e
  refine lcTransition_keeps 4 false _ ?_ s hk
  intro f
  exact ⟨FuseLe.refl _, FuseLe.refl _, FuseLe.refl _, FuseLe.refl _, fun _ => FuseLe.refl _,
    FuseLe.burnNext _, Nat.le_refl _⟩

theorem actRelock_snd_keeps {s0 : State} (s : State) (hk : Keeps s0 s) : Keeps s0 (actRelock s).2 :=
  actRelock_keeps (Prod.eta _).symm hk

theorem actDecommission_keeps {s0 t : State} {v : Nat} {s : State} (e : actDecommission s = (v, t)) (hk : Keeps s0 s) : Keeps s0 t := by
  unfold actDecommission at e
  cases e
  refine lcTransition_keeps 5 true _ ?_ s hk
  intro f
  exact ⟨FuseLe.refl _, FuseLe.refl _, FuseLe.burned _, FuseLe.burned _, fun _ => FuseLe.refl _,
    fun _ => FuseLe.refl _, Nat.le_refl _⟩

theorem actDecommission_snd_keeps {s0 : State} (s : State) (hk : Keeps s0 s) : Keeps s0 (actDecommission s).2 :=
  actDecommission_keeps (Prod.eta _).symm hk

theorem actZeroize_keeps {s0 t : State} {v : Nat} {s : State} (e : actZeroize s = (v, t)) (hk : Keeps s0 s) : Keeps s0 t := by
  unfold actZeroize at e
  (try dsimp only at e)
  repeat' split at e
  all_goals (try cases e)
  all_goals repeat (first | with_reducible assumption | with_reducible apply zeroizeAll_keeps | with_reducible apply secLog_keeps | intro _ | with_reducible apply Keeps.ite | simp only [Keeps.upd] | dsimp only | split)

theorem actZeroize_snd_keeps {s0 : State} (s : State) (hk : Keeps s0 s) : Keeps s0 (actZeroize s).2 :=
  actZeroize_keeps (Prod.eta _).symm hk

theorem actFloor_keeps {s0 t : State} {v : Nat} {b : Bytes} {s : State} (e : actFloor b s = (v, t)) (hk : Keeps s0 s) : Keeps s0 t := by
  unfold actFloor at e
  (try dsimp only at e)
  repeat' split at e
  all_goals (try cases e)
  all_goals repeat (first | with_reducible assumption | with_reducible apply burnFloor_keeps | intro _ | with_reducible apply Keeps.ite | simp only [Keeps.upd] | dsimp only | split)

theorem actFloor_snd_keeps {s0 : State} (b : Bytes) (s : State) (hk : Keeps s0 s) : Keeps s0 (actFloor b s).2 :=
  actFloor_keeps (Prod.eta _).symm hk

theorem actVault_keeps {s0 t : State} {v : Nat} {b : Bytes} {s : State} (e : actVault b s = (v, t)) (hk : Keeps s0 s) : Keeps s0 t := by
  unfold actVault at e
  (try dsimp only at e)
  repeat' split at e
  all_goals (try cases e)
  all_goals repeat (first | with_reducible assumption | with_reducible refine drbgBytes_keeps (by with_reducible assumption) ?_ | with_reducible apply drbgBytes_snd_keeps | with_reducible apply flashWrite_keeps | with_reducible apply flashErase_keeps | with_reducible apply secLog_keeps | intro _ | with_reducible apply Keeps.ite | with_reducible apply Keeps.iteSnd | with_reducible apply Keeps.iteFst | simp only [Keeps.upd] | dsimp only | split)

theorem actVault_snd_keeps {s0 : State} (b : Bytes) (s : State) (hk : Keeps s0 s) : Keeps s0 (actVault b s).2 :=
  actVault_keeps (Prod.eta _).symm hk

theorem actLogClear_keeps {s0 t : State} {v : Nat} {s : State} (e : actLogClear s = (v, t)) (hk : Keeps s0 s) : Keeps s0 t := by
  unfold actLogClear at e
  (try dsimp only at e)
  repeat' split at e
  all_goals (try cases e)
  all_goals repeat (first | with_reducible assumption | with_reducible apply flashErase_keeps | with_reducible apply secLog_keeps | intro _ | with_reducible apply Keeps.ite | simp only [Keeps.upd] | dsimp only | split)

theorem actLogClear_snd_keeps {s0 : State} (s : State) (hk : Keeps s0 s) : Keeps s0 (actLogClear s).2 :=
  actLogClear_keeps (Prod.eta _).symm hk

theorem secAct_keeps {s0 t : State} {v op : Nat} {b : Bytes} {s : State} (e : secAct op b s = (v, t)) (hk : Keeps s0 s) : Keeps s0 t := by
  unfold secAct at e
  split at e
  · exact actProvision_keeps e hk
  · exact actDeploy_keeps e hk
  · exact actUnlock_keeps e hk
  · exact actRelock_keeps e hk
  · exact actDecommission_keeps e hk
  · exact actZeroize_keeps e hk
  · exact actVault_keeps e hk
  · exact actFloor_keeps e hk
  · exact actLogClear_keeps e hk

theorem secAct_snd_keeps {s0 : State} (op : Nat) (b : Bytes) (s : State) (hk : Keeps s0 s) : Keeps s0 (secAct op b s).2 :=
  secAct_keeps (Prod.eta _).symm hk

theorem secEnd_keeps {s0 : State} (op status : Nat) (s : State) (hk : Keeps s0 s) : Keeps s0 (secEnd op status s) := by
  unfold secEnd
  repeat (first | with_reducible assumption | with_reducible apply freshNonce_keeps | intro _ | with_reducible apply Keeps.ite | simp only [Keeps.upd] | dsimp only | split)

theorem sigFailed_keeps {s0 : State} (op : Nat) (s : State) (hk : Keeps s0 s) : Keeps s0 (sigFailed op s) := by
  unfold sigFailed
  repeat (first | with_reducible assumption | with_reducible apply cntDev_keeps | with_reducible apply mgtRecord_keeps | with_reducible apply secLogMergedAs_keeps | intro _ | with_reducible apply Keeps.ite | simp only [Keeps.upd] | dsimp only | split)

theorem secTry_keeps {s0 t : State} {v : Bool} {s : State} (e : secTry s = (t, v)) (hk : Keeps s0 s) : Keeps s0 t := by
  unfold secTry at e
  (try dsimp only at e)
  repeat' split at e
  all_goals (try cases e)
  all_goals repeat (first | with_reducible assumption | with_reducible refine takeFree_keeps (by with_reducible assumption) ?_ | with_reducible apply takeFree_snd_keeps | with_reducible refine secAct_keeps (by with_reducible assumption) ?_ | with_reducible apply secAct_snd_keeps | with_reducible apply secEnd_keeps | with_reducible apply secLog_keeps | with_reducible apply sigFailed_keeps | intro _ | with_reducible apply Keeps.ite | with_reducible apply Keeps.iteSnd | with_reducible apply Keeps.iteFst | simp only [Keeps.upd] | dsimp only | split)

theorem secTry_fst_keeps {s0 : State} (s : State) (hk : Keeps s0 s) : Keeps s0 (secTry s).1 :=
  secTry_keeps (Prod.eta _).symm hk

theorem secAttempt_keeps {s0 : State} (s : State) (hk : Keeps s0 s) : Keeps s0 (secAttempt s) := by
  unfold secAttempt
  repeat (first | with_reducible assumption | with_reducible refine secTry_keeps (by with_reducible assumption) ?_ | with_reducible apply secTry_fst_keeps | with_reducible apply warmPlain_keeps | intro _ | with_reducible apply Keeps.ite | with_reducible apply Keeps.iteSnd | with_reducible apply Keeps.iteFst | simp only [Keeps.upd] | dsimp only | split)

theorem secRow_keeps {s0 : State} (op : Nat) (r : Requester) (v : Nat) (s : State) (hk : Keeps s0 s) : Keeps s0 (secRow op r v s) := by
  unfold secRow
  repeat (first | with_reducible assumption | with_reducible apply secAttempt_keeps | intro _ | with_reducible apply Keeps.ite | simp only [Keeps.upd] | dsimp only | split)

theorem execProvision_keeps {s0 : State} (r : Requester) (v : Nat) (s : State) (hk : Keeps s0 s) : KeepsO s0 (execProvision r v s) := by
  unfold execProvision
  repeat (first | with_reducible assumption | with_reducible apply KeepsO.next | with_reducible apply KeepsO.ite | with_reducible apply secRow_keeps | intro _ | with_reducible apply Keeps.ite | simp only [Keeps.upd] | dsimp only | split)

theorem execDeploy_keeps {s0 : State} (r : Requester) (v : Nat) (s : State) (hk : Keeps s0 s) : KeepsO s0 (execDeploy r v s) := by
  unfold execDeploy
  repeat (first | with_reducible assumption | with_reducible apply KeepsO.next | with_reducible apply KeepsO.ite | with_reducible apply secRow_keeps | intro _ | with_reducible apply Keeps.ite | simp only [Keeps.upd] | dsimp only | split)

theorem execUnlockDebug_keeps {s0 : State} (r : Requester) (v : Nat) (s : State) (hk : Keeps s0 s) : KeepsO s0 (execUnlockDebug r v s) := by
  unfold execUnlockDebug
  repeat (first | with_reducible assumption | with_reducible apply KeepsO.next | with_reducible apply KeepsO.ite | with_reducible apply secRow_keeps | intro _ | with_reducible apply Keeps.ite | simp only [Keeps.upd] | dsimp only | split)

theorem execRelock_keeps {s0 : State} (r : Requester) (v : Nat) (s : State) (hk : Keeps s0 s) : KeepsO s0 (execRelock r v s) := by
  unfold execRelock
  repeat (first | with_reducible assumption | with_reducible apply KeepsO.next | with_reducible apply KeepsO.ite | with_reducible apply secRow_keeps | intro _ | with_reducible apply Keeps.ite | simp only [Keeps.upd] | dsimp only | split)

theorem execDecommission_keeps {s0 : State} (r : Requester) (v : Nat) (s : State) (hk : Keeps s0 s) : KeepsO s0 (execDecommission r v s) := by
  unfold execDecommission
  repeat (first | with_reducible assumption | with_reducible apply KeepsO.next | with_reducible apply KeepsO.ite | with_reducible apply secRow_keeps | intro _ | with_reducible apply Keeps.ite | simp only [Keeps.upd] | dsimp only | split)

theorem execZeroize_keeps {s0 : State} (r : Requester) (v : Nat) (s : State) (hk : Keeps s0 s) : KeepsO s0 (execZeroize r v s) := by
  unfold execZeroize
  repeat (first | with_reducible assumption | with_reducible apply KeepsO.next | with_reducible apply KeepsO.ite | with_reducible apply secRow_keeps | intro _ | with_reducible apply Keeps.ite | simp only [Keeps.upd] | dsimp only | split)

theorem execSetVault_keeps {s0 : State} (r : Requester) (v : Nat) (s : State) (hk : Keeps s0 s) : KeepsO s0 (execSetVault r v s) := by
  unfold execSetVault
  repeat (first | with_reducible assumption | with_reducible apply KeepsO.next | with_reducible apply KeepsO.ite | with_reducible apply secRow_keeps | intro _ | with_reducible apply Keeps.ite | simp only [Keeps.upd] | dsimp only | split)

theorem execAdvanceFloor_keeps {s0 : State} (r : Requester) (v : Nat) (s : State) (hk : Keeps s0 s) : KeepsO s0 (execAdvanceFloor r v s) := by
  unfold execAdvanceFloor
  repeat (first | with_reducible assumption | with_reducible apply KeepsO.next | with_reducible apply KeepsO.ite | with_reducible apply secRow_keeps | intro _ | with_reducible apply Keeps.ite | simp only [Keeps.upd] | dsimp only | split)

theorem execLogClear_keeps {s0 : State} (r : Requester) (v : Nat) (s : State) (hk : Keeps s0 s) : KeepsO s0 (execLogClear r v s) := by
  unfold execLogClear
  repeat (first | with_reducible assumption | with_reducible apply KeepsO.next | with_reducible apply KeepsO.ite | with_reducible apply secRow_keeps | intro _ | with_reducible apply Keeps.ite | simp only [Keeps.upd] | dsimp only | split)

theorem execAuthLockoutEnd_keeps {s0 : State} (s : State) (hk : Keeps s0 s) : KeepsO s0 (execAuthLockoutEnd s) := by
  unfold execAuthLockoutEnd
  repeat (first | with_reducible assumption | with_reducible apply KeepsO.next | with_reducible apply KeepsO.ite | intro _ | with_reducible apply Keeps.ite | simp only [Keeps.upd] | dsimp only | split)

theorem spdmError_keeps {s0 : State} (bd : SpdmBinding) (code : Nat) (s : State) (hk : Keeps s0 s) : Keeps s0 (spdmError bd code s) := by
  unfold spdmError
  repeat (first | with_reducible assumption | with_reducible apply emit_keeps | intro _ | with_reducible apply Keeps.ite | simp only [Keeps.upd] | dsimp only | split)

theorem spdmServe_keeps {s0 : State} (bd : SpdmBinding) (f : State → State) (s : State) (hf : ∀ x0, Keeps s0 x0 → Keeps s0 (f x0)) (hk : Keeps s0 s) : KeepsO s0 (spdmServe bd f s) := by
  unfold spdmServe
  repeat (first | with_reducible apply hf | with_reducible assumption | with_reducible apply KeepsO.next | with_reducible apply KeepsO.ite | with_reducible apply spdmError_keeps | intro _ | with_reducible apply Keeps.ite | simp only [Keeps.upd] | dsimp only | split)

theorem execSpdmGetCertificate_keeps {s0 : State} (bd : SpdmBinding) (slot off len : Nat) (s : State) (hk : Keeps s0 s) : KeepsO s0 (execSpdmGetCertificate bd slot off len s) := by
  unfold execSpdmGetCertificate
  repeat (first | with_reducible assumption | with_reducible apply KeepsO.next | with_reducible apply KeepsO.ite | with_reducible apply spdmServe_keeps | with_reducible apply spdmError_keeps | with_reducible apply emit_keeps | intro _ | with_reducible apply Keeps.ite | simp only [Keeps.upd] | dsimp only | split)

theorem execSpdmChallenge_keeps {s0 : State} (bd : SpdmBinding) (slot : Nat) (nonce : Bytes) (s : State) (hk : Keeps s0 s) : KeepsO s0 (execSpdmChallenge bd slot nonce s) := by
  unfold execSpdmChallenge
  repeat (first | with_reducible assumption | with_reducible apply KeepsO.next | with_reducible apply KeepsO.ite | with_reducible apply spdmServe_keeps | with_reducible apply spdmError_keeps | with_reducible refine drbgBytes_keeps (by with_reducible assumption) ?_ | with_reducible apply drbgBytes_snd_keeps | with_reducible apply emit_keeps | intro _ | with_reducible apply Keeps.ite | with_reducible apply Keeps.iteSnd | with_reducible apply Keeps.iteFst | simp only [Keeps.upd] | dsimp only | split)

theorem execSpdmGetMeasurements_keeps {s0 : State} (bd : SpdmBinding) (op : Nat) (nonce : Bytes) (s : State) (hk : Keeps s0 s) : KeepsO s0 (execSpdmGetMeasurements bd op nonce s) := by
  unfold execSpdmGetMeasurements
  repeat (first | with_reducible assumption | with_reducible apply KeepsO.next | with_reducible apply KeepsO.ite | with_reducible apply spdmServe_keeps | with_reducible apply spdmError_keeps | with_reducible refine drbgBytes_keeps (by with_reducible assumption) ?_ | with_reducible apply drbgBytes_snd_keeps | with_reducible apply emit_keeps | intro _ | with_reducible apply Keeps.ite | with_reducible apply Keeps.iteSnd | with_reducible apply Keeps.iteFst | simp only [Keeps.upd] | dsimp only | split)

theorem execSpdmKeyExchange_keeps {s0 : State} (bd : SpdmBinding) (share : Bytes) (s : State) (hk : Keeps s0 s) : KeepsO s0 (execSpdmKeyExchange bd share s) := by
  unfold execSpdmKeyExchange
  repeat (first | with_reducible assumption | with_reducible apply KeepsO.next | with_reducible apply KeepsO.ite | with_reducible apply spdmServe_keeps | with_reducible apply spdmError_keeps | with_reducible refine drbgBytes_keeps (by with_reducible assumption) ?_ | with_reducible apply drbgBytes_snd_keeps | with_reducible apply emit_keeps | intro _ | with_reducible apply Keeps.ite | with_reducible apply Keeps.iteSnd | with_reducible apply Keeps.iteFst | simp only [Keeps.upd] | dsimp only | split)

theorem updSession_keeps {s0 : State} (n : Nat) (f : SpdmSession → SpdmSession) (s : State) (hk : Keeps s0 s) : Keeps s0 (updSession n f s) := by
  unfold updSession
  repeat (first | with_reducible assumption | intro _ | with_reducible apply Keeps.ite | simp only [Keeps.upd] | dsimp only | split)

theorem inSession_keeps {s0 : State} (bd : SpdmBinding) (n : Nat) (f : SpdmSession → State → State) (s : State) (hf : ∀ x0 x1, Keeps s0 x1 → Keeps s0 (f x0 x1)) (hk : Keeps s0 s) : KeepsO s0 (inSession bd n f s) := by
  unfold inSession
  repeat (first | with_reducible apply hf | with_reducible assumption | with_reducible apply KeepsO.next | with_reducible apply KeepsO.ite | with_reducible apply spdmServe_keeps | with_reducible apply spdmError_keeps | intro _ | with_reducible apply Keeps.ite | simp only [Keeps.upd] | dsimp only | split)

theorem execSpdmKeyUpdate_keeps {s0 : State} (bd : SpdmBinding) (session : Nat) (s : State) (hk : Keeps s0 s) : KeepsO s0 (execSpdmKeyUpdate bd session s) := by
  unfold execSpdmKeyUpdate
  repeat (first | with_reducible assumption | with_reducible apply KeepsO.next | with_reducible apply KeepsO.ite | with_reducible apply inSession_keeps | with_reducible apply emit_keeps | with_reducible apply updSession_keeps | intro _ | with_reducible apply Keeps.ite | simp only [Keeps.upd] | dsimp only | split)

theorem execSpdmHeartbeat_keeps {s0 : State} (bd : SpdmBinding) (session : Nat) (s : State) (hk : Keeps s0 s) : KeepsO s0 (execSpdmHeartbeat bd session s) := by
  unfold execSpdmHeartbeat
  repeat (first | with_reducible assumption | with_reducible apply KeepsO.next | with_reducible apply KeepsO.ite | with_reducible apply inSession_keeps | with_reducible apply emit_keeps | with_reducible apply updSession_keeps | intro _ | with_reducible apply Keeps.ite | simp only [Keeps.upd] | dsimp only | split)

theorem execSpdmEndSession_keeps {s0 : State} (bd : SpdmBinding) (session : Nat) (s : State) (hk : Keeps s0 s) : KeepsO s0 (execSpdmEndSession bd session s) := by
  unfold execSpdmEndSession
  repeat (first | with_reducible assumption | with_reducible apply KeepsO.next | with_reducible apply KeepsO.ite | with_reducible apply inSession_keeps | with_reducible apply emit_keeps | intro _ | with_reducible apply Keeps.ite | simp only [Keeps.upd] | dsimp only | split)

end Sys2Proof.Laws
end

