-- ==== Sys2Proof/Laws/Keeps5.lean ====
section
/-!
SUPPORT. Keeps5.lean: what every operation keeps, one lemma per operation, in the order of the definitions (5 of 5).
Keeps s t: the memories of t are in canonical form if those of s are, no fuse is unburned, the queue is untouched, what was sent stays, the counter of free values does not fall.
-/
set_option linter.all false
namespace Sys2Proof.Laws
open Sys2Proof Sys2Proof.Machine Sys2Proof.Safety

theorem ideServe_keeps {s0 : State} (bd : SpdmBinding) (session : Nat) (k : PortId) (f : State → State) (s : State) (hf : ∀ x0, Keeps s0 x0 → Keeps s0 (f x0)) (hk : Keeps s0 s) : KeepsO s0 (ideServe bd session k f s) := by
  unfold ideServe
  repeat (first | with_reducible apply hf | with_reducible assumption | with_reducible apply KeepsO.next | with_reducible apply KeepsO.ite | with_reducible apply inSession_keeps | with_reducible apply spdmError_keeps | intro _ | with_reducible apply Keeps.ite | simp only [Keeps.upd] | dsimp only | split)

theorem ideAnswer_keeps {s0 : State} (bd : SpdmBinding) (obj : Nat) (body : Bytes) (s : State) (hk : Keeps s0 s) : Keeps s0 (ideAnswer bd obj body s) := by
  unfold ideAnswer
  repeat (first | with_reducible assumption | with_reducible apply emit_keeps | intro _ | with_reducible apply Keeps.ite | simp only [Keeps.upd] | dsimp only | split)

theorem execIdeKmQuery_keeps {s0 : State} (bd : SpdmBinding) (session : Nat) (port : PortId) (s : State) (hk : Keeps s0 s) : KeepsO s0 (execIdeKmQuery bd session port s) := by
  unfold execIdeKmQuery
  repeat (first | with_reducible assumption | with_reducible apply KeepsO.next | with_reducible apply KeepsO.ite | with_reducible apply ideServe_keeps | with_reducible apply ideAnswer_keeps | intro _ | with_reducible apply Keeps.ite | simp only [Keeps.upd] | dsimp only | split)

theorem execIdeKmKeyProg_keeps {s0 : State} (bd : SpdmBinding) (session : Nat) (port : PortId) (stream : Fin 5) (set : Fin 12) (key : Nat) (s : State) (hk : Keeps s0 s) : KeepsO s0 (execIdeKmKeyProg bd session port stream set key s) := by
  unfold execIdeKmKeyProg
  repeat (first | with_reducible assumption | with_reducible apply KeepsO.next | with_reducible apply KeepsO.ite | with_reducible apply ideServe_keeps | with_reducible apply ideAnswer_keeps | with_reducible apply updPort_keeps | intro _ | with_reducible apply Keeps.ite | simp only [Keeps.upd] | dsimp only | split)

theorem execIdeKmKSetGo_keeps {s0 : State} (bd : SpdmBinding) (session : Nat) (port : PortId) (stream : Fin 5) (set : Fin 12) (s : State) (hk : Keeps s0 s) : KeepsO s0 (execIdeKmKSetGo bd session port stream set s) := by
  unfold execIdeKmKSetGo
  repeat (first | with_reducible assumption | with_reducible apply KeepsO.next | with_reducible apply KeepsO.ite | with_reducible apply ideServe_keeps | with_reducible apply spdmError_keeps | with_reducible apply updPort_keeps | with_reducible apply release_keeps | with_reducible apply secLog_keeps | with_reducible apply ideAnswer_keeps | intro _ | with_reducible apply Keeps.ite | simp only [Keeps.upd] | dsimp only | split)

theorem execIdeKmKSetStop_keeps {s0 : State} (bd : SpdmBinding) (session : Nat) (port : PortId) (stream : Fin 5) (set : Fin 12) (s : State) (hk : Keeps s0 s) : KeepsO s0 (execIdeKmKSetStop bd session port stream set s) := by
  unfold execIdeKmKSetStop
  repeat (first | with_reducible assumption | with_reducible apply KeepsO.next | with_reducible apply KeepsO.ite | with_reducible apply ideServe_keeps | with_reducible apply ideAnswer_keeps | with_reducible apply ideInsecure_keeps | with_reducible apply updPort_keeps | intro _ | with_reducible apply Keeps.ite | simp only [Keeps.upd] | dsimp only | split)

theorem execJtagInstruction_keeps {s0 : State} (ir : Nat) (s : State) (hk : Keeps s0 s) : KeepsO s0 (execJtagInstruction ir s) := by
  unfold execJtagInstruction
  repeat (first | with_reducible assumption | with_reducible apply KeepsO.next | with_reducible apply KeepsO.ite | with_reducible apply secLog_keeps | with_reducible apply emit_keeps | intro _ | with_reducible apply Keeps.ite | simp only [Keeps.upd] | dsimp only | split)

theorem execEntropyTestFail_keeps {s0 : State} (test : Nat) (s : State) (hk : Keeps s0 s) : KeepsO s0 (execEntropyTestFail test s) := by
  unfold execEntropyTestFail
  repeat (first | with_reducible assumption | with_reducible apply KeepsO.next | with_reducible apply KeepsO.ite | with_reducible apply warmReset_keeps | with_reducible apply enterError_keeps | intro _ | with_reducible apply Keeps.ite | simp only [Keeps.upd] | dsimp only | split)

theorem execErrorWarmReset_keeps {s0 : State} (s : State) (hk : Keeps s0 s) : KeepsO s0 (execErrorWarmReset s) := by
  unfold execErrorWarmReset
  repeat (first | with_reducible assumption | with_reducible apply KeepsO.next | with_reducible apply KeepsO.ite | with_reducible apply warmReset_keeps | intro _ | with_reducible apply Keeps.ite | simp only [Keeps.upd] | dsimp only | split)

theorem unitRecord_keeps {s0 : State} (trigger unit result cause mask duration : Nat) (s : State) (hk : Keeps s0 s) : Keeps s0 (unitRecord trigger unit result cause mask duration s) := by
  unfold unitRecord
  repeat (first | with_reducible assumption | with_reducible apply bistAppend_keeps | intro _ | with_reducible apply Keeps.ite | simp only [Keeps.upd] | dsimp only | split)

theorem isolateUnits_keeps {s0 : State} (us : List Nat) (s : State) (hk : Keeps s0 s) : Keeps s0 (isolateUnits us s) := by
  unfold isolateUnits
  repeat (first | with_reducible assumption | with_reducible apply eachOf_keeps | with_reducible apply setCluster_keeps | intro _ | with_reducible apply Keeps.ite | simp only [Keeps.upd] | dsimp only | split)

theorem reinitUnit_keeps {s0 : State} (unit : Nat) (s : State) (hk : Keeps s0 s) : Keeps s0 (reinitUnit unit s) := by
  unfold reinitUnit
  repeat (first | with_reducible assumption | with_reducible apply eachOf_keeps | with_reducible apply setCluster_keeps | with_reducible apply updCluster_keeps | with_reducible apply updPart_keeps | with_reducible apply driveWake_keeps | intro _ | with_reducible apply Keeps.ite | simp only [Keeps.upd] | dsimp only | split)

theorem endRun_keeps {s0 : State} (x : BistRun) (s : State) (hk : Keeps s0 s) : Keeps s0 (endRun x s) := by
  unfold endRun
  repeat (first | with_reducible assumption | with_reducible apply bistAppend_keeps | with_reducible apply mgtEvent_keeps | with_reducible apply eachOf_keeps | with_reducible apply setCluster_keeps | intro _ | with_reducible apply Keeps.ite | simp only [Keeps.upd] | dsimp only | split)

theorem notRun_keeps {s0 : State} (x : BistRun) (us : List Nat) (cause : Nat) (s : State) (hk : Keeps s0 s) : Keeps s0 (notRun x us cause s) := by
  unfold notRun
  repeat (first | with_reducible assumption | with_reducible apply unitRecord_keeps | with_reducible apply Keeps.foldl | intro _ | with_reducible apply Keeps.ite | simp only [Keeps.upd] | dsimp only | split)

theorem startBatches_keeps {s0 : State}  : ∀ (x0 : Nat) (x1 : BistRun) (s : State), Keeps s0 s → Keeps s0 (startBatches  x0 x1 s)
  | 0, x, s, h => by
    unfold startBatches
    repeat (first | with_reducible assumption | with_reducible apply endRun_keeps | with_reducible apply isolateUnits_keeps | with_reducible apply notRun_keeps | intro _ | with_reducible apply Keeps.ite | simp only [Keeps.upd] | dsimp only | split)
  | fuel + 1, x, s, h => by
    unfold startBatches
    repeat (first | with_reducible assumption | with_reducible apply startBatches_keeps | with_reducible apply endRun_keeps | with_reducible apply isolateUnits_keeps | with_reducible apply notRun_keeps | intro _ | with_reducible apply Keeps.ite | simp only [Keeps.upd] | dsimp only | split)

theorem startRun_keeps {s0 : State} (x : BistRun) (s : State) (hk : Keeps s0 s) : Keeps s0 (startRun x s) := by
  unfold startRun
  repeat (first | with_reducible assumption | with_reducible apply startBatches_keeps | with_reducible apply bistAppend_keeps | intro _ | with_reducible apply Keeps.ite | simp only [Keeps.upd] | dsimp only | split)

theorem refuseBist_keeps {s0 : State} (reason : Nat) (s : State) (hk : Keeps s0 s) : Keeps s0 (refuseBist reason s) := by
  unfold refuseBist
  repeat (first | with_reducible assumption | intro _ | with_reducible apply Keeps.ite | simp only [Keeps.upd] | dsimp only | split)

theorem execBistRun_keeps {s0 : State} (r : Requester) (v : Nat) (s : State) (hk : Keeps s0 s) : KeepsO s0 (execBistRun r v s) := by
  unfold execBistRun
  repeat (first | with_reducible assumption | with_reducible apply KeepsO.next | with_reducible apply KeepsO.ite | with_reducible apply refuseBist_keeps | with_reducible apply startRun_keeps | intro _ | with_reducible apply Keeps.ite | simp only [Keeps.upd] | dsimp only | split)

theorem setP2_keeps {s0 : State} (s : State) (hk : Keeps s0 s) : Keeps s0 (setP2 s) := by
  unfold setP2
  repeat (first | with_reducible assumption | with_reducible apply switchCore_keeps | intro _ | with_reducible apply Keeps.ite | simp only [Keeps.upd] | dsimp only | split)

theorem linksOff_keeps {s0 : State} (s : State) (hk : Keeps s0 s) : Keeps s0 (linksOff s) := by
  unfold linksOff
  repeat (first | with_reducible assumption | with_reducible apply eachOf_keeps | with_reducible apply setBrl_keeps | with_reducible apply planeLeave_keeps | intro _ | with_reducible apply Keeps.ite | simp only [Keeps.upd] | dsimp only | split)

theorem execBistShutdown_keeps {s0 : State} (r : Requester) (v : Nat) (s : State) (hk : Keeps s0 s) : KeepsO s0 (execBistShutdown r v s) := by
  unfold execBistShutdown
  repeat (first | with_reducible assumption | with_reducible apply KeepsO.next | with_reducible apply KeepsO.ite | with_reducible apply refuseBist_keeps | with_reducible apply noticeChange_keeps | with_reducible apply eachOf_keeps | with_reducible apply setCluster_keeps | with_reducible apply updCluster_keeps | with_reducible apply setP2_keeps | with_reducible apply linksOff_keeps | with_reducible apply startRun_keeps | intro _ | with_reducible apply Keeps.ite | simp only [Keeps.upd] | dsimp only | split)

theorem execMfgTestRun_keeps {s0 : State} (units : Nat) (s : State) (hk : Keeps s0 s) : KeepsO s0 (execMfgTestRun units s) := by
  unfold execMfgTestRun
  repeat (first | with_reducible assumption | with_reducible apply KeepsO.next | with_reducible apply KeepsO.ite | with_reducible apply startRun_keeps | with_reducible apply setP2_keeps | intro _ | with_reducible apply Keeps.ite | simp only [Keeps.upd] | dsimp only | split)

theorem execBistUnitDone_keeps {s0 : State} (unit result detail : Nat) (s : State) (hk : Keeps s0 s) : KeepsO s0 (execBistUnitDone unit result detail s) := by
  unfold execBistUnitDone
  repeat (first | with_reducible assumption | with_reducible apply KeepsO.next | with_reducible apply KeepsO.ite | with_reducible apply unitRecord_keeps | with_reducible apply reinitUnit_keeps | with_reducible apply startBatches_keeps | intro _ | with_reducible apply Keeps.ite | simp only [Keeps.upd] | dsimp only | split)

theorem execBistWindowSample_keeps {s0 : State} (cause : Nat) (s : State) (hk : Keeps s0 s) : KeepsO s0 (execBistWindowSample cause s) := by
  unfold execBistWindowSample
  repeat (first | with_reducible assumption | with_reducible apply KeepsO.next | with_reducible apply KeepsO.ite | with_reducible apply unitRecord_keeps | with_reducible apply reinitUnit_keeps | with_reducible apply startBatches_keeps | with_reducible apply endRun_keeps | with_reducible apply notRun_keeps | with_reducible apply Keeps.foldl | intro _ | with_reducible apply Keeps.ite | simp only [Keeps.upd] | dsimp only | split)

theorem coldReset_keeps {s0 : State} (board : Bool) (s : State) (h : Keeps s0 s) : Keeps s0 (coldReset board s) :=
  ⟨fun _ => rfl, fun _ => rfl, fun _ => rfl, h.flash, fun _ => rfl, h.fuses, h.pending, h.out, h.free⟩

theorem execPwrGoodFall_keeps {s0 : State} (s : State) (hk : Keeps s0 s) : KeepsO s0 (execPwrGoodFall s) := by
  unfold execPwrGoodFall
  repeat (first | with_reducible assumption | with_reducible apply KeepsO.next | with_reducible apply KeepsO.ite | with_reducible apply coldReset_keeps | intro _ | with_reducible apply Keeps.ite | simp only [Keeps.upd] | dsimp only | split)

theorem execBoardResetAssert_keeps {s0 : State} (s : State) (hk : Keeps s0 s) : KeepsO s0 (execBoardResetAssert s) := by
  unfold execBoardResetAssert
  repeat (first | with_reducible assumption | with_reducible apply KeepsO.next | with_reducible apply KeepsO.ite | with_reducible apply coldReset_keeps | intro _ | with_reducible apply Keeps.ite | simp only [Keeps.upd] | dsimp only | split)

theorem execRailBelowThreshold_keeps {s0 : State} (rail : Nat) (s : State) (hk : Keeps s0 s) : KeepsO s0 (execRailBelowThreshold rail s) := by
  unfold execRailBelowThreshold
  repeat (first | with_reducible assumption | with_reducible apply KeepsO.next | with_reducible apply KeepsO.ite | with_reducible apply coldReset_keeps | intro _ | with_reducible apply Keeps.ite | simp only [Keeps.upd] | dsimp only | split)

theorem execTestEnHigh_keeps {s0 : State} (s : State) (hk : Keeps s0 s) : KeepsO s0 (execTestEnHigh s) := by
  unfold execTestEnHigh
  repeat (first | with_reducible assumption | with_reducible apply KeepsO.next | with_reducible apply KeepsO.ite | with_reducible apply coldReset_keeps | intro _ | with_reducible apply Keeps.ite | simp only [Keeps.upd] | dsimp only | split)

theorem enterRom_keeps {s0 : State} (s : State) (hk : Keeps s0 s) : Keeps s0 (enterRom s) := by
  unfold enterRom
  repeat (first | with_reducible assumption | with_reducible apply romLog_keeps | with_reducible refine takeFree_keeps (by with_reducible assumption) ?_ | with_reducible apply takeFree_snd_keeps | intro _ | with_reducible apply Keeps.ite | with_reducible apply Keeps.iteSnd | with_reducible apply Keeps.iteFst | simp only [Keeps.upd] | dsimp only | split)

theorem execColdResetRelease_keeps {s0 : State} (s : State) (hk : Keeps s0 s) : KeepsO s0 (execColdResetRelease s) := by
  unfold execColdResetRelease
  repeat (first | with_reducible assumption | with_reducible apply KeepsO.next | with_reducible apply KeepsO.ite | with_reducible apply coldReset_keeps | with_reducible apply enterRom_keeps | intro _ | with_reducible apply Keeps.ite | simp only [Keeps.upd] | dsimp only | split)

theorem notePartitionReq_keeps {s0 : State} (v : Nat) (s : State) (hk : Keeps s0 s) : Keeps s0 (notePartitionReq v s) := by
  unfold notePartitionReq
  repeat (first | with_reducible assumption | intro _ | with_reducible apply Keeps.ite | simp only [Keeps.upd] | dsimp only | split)

theorem execDevResetReqWarm_keeps {s0 : State} (r : Requester) (v : Nat) (s : State) (hk : Keeps s0 s) : KeepsO s0 (execDevResetReqWarm r v s) := by
  unfold execDevResetReqWarm
  repeat (first | with_reducible assumption | with_reducible apply KeepsO.next | with_reducible apply KeepsO.ite | with_reducible apply warmReset_keeps | with_reducible apply notePartitionReq_keeps | intro _ | with_reducible apply Keeps.ite | simp only [Keeps.upd] | dsimp only | split)

theorem execDevResetReqPartition_keeps {s0 : State} (r : Requester) (v : Nat) (s : State) (hk : Keeps s0 s) : KeepsO s0 (execDevResetReqPartition r v s) := by
  unfold execDevResetReqPartition
  repeat (first | with_reducible assumption | with_reducible apply KeepsO.next | with_reducible apply KeepsO.ite | with_reducible apply warmReset_keeps | with_reducible apply notePartitionReq_keeps | with_reducible apply eachOf_keeps | with_reducible apply resetPartition_keeps | intro _ | with_reducible apply Keeps.ite | simp only [Keeps.upd] | dsimp only | split)

theorem execWarmResetComplete_keeps {s0 : State} (s : State) (hk : Keeps s0 s) : KeepsO s0 (execWarmResetComplete s) := by
  unfold execWarmResetComplete
  repeat (first | with_reducible assumption | with_reducible apply KeepsO.next | with_reducible apply KeepsO.ite | with_reducible apply warmReset_keeps | with_reducible apply enterRom_keeps | intro _ | with_reducible apply Keeps.ite | simp only [Keeps.upd] | dsimp only | split)

theorem execPartitionResetComplete_keeps {s0 : State} (p : PartId) (s : State) (hk : Keeps s0 s) : KeepsO s0 (execPartitionResetComplete p s) := by
  unfold execPartitionResetComplete
  repeat (first | with_reducible assumption | with_reducible apply KeepsO.next | with_reducible apply KeepsO.ite | with_reducible apply partitionReady_keeps | intro _ | with_reducible apply Keeps.ite | simp only [Keeps.upd] | dsimp only | split)

theorem enterSafe_keeps {s0 : State} (cause : Nat) (s : State) (hk : Keeps s0 s) : Keeps s0 (enterSafe cause s) := by
  unfold enterSafe
  repeat (first | with_reducible assumption | intro _ | with_reducible apply Keeps.ite | simp only [Keeps.upd] | dsimp only | split)

theorem probeFlash_keeps {s0 : State} (s : State) (hk : Keeps s0 s) : Keeps s0 (probeFlash s) := by
  unfold probeFlash
  repeat (first | with_reducible assumption | intro _ | with_reducible apply Keeps.ite | simp only [Keeps.upd] | dsimp only | split)

theorem noteHeader_keeps {s0 : State} (b : Bool) (r : Nat) (s : State) (hk : Keeps s0 s) : Keeps s0 (noteHeader b r s) := by
  unfold noteHeader
  repeat (first | with_reducible assumption | with_reducible apply secLog_keeps | intro _ | with_reducible apply Keeps.ite | simp only [Keeps.upd] | dsimp only | split)

theorem toSelftest_keeps {s0 : State} (cause : Nat) (s : State) (hk : Keeps s0 s) : Keeps s0 (toSelftest cause s) := by
  unfold toSelftest
  repeat (first | with_reducible assumption | intro _ | with_reducible apply Keeps.ite | simp only [Keeps.upd] | dsimp only | split)

theorem execRomBankChoice_keeps {s0 : State} (s : State) (hk : Keeps s0 s) : KeepsO s0 (execRomBankChoice s) := by
  unfold execRomBankChoice
  repeat (first | with_reducible assumption | with_reducible apply KeepsO.next | with_reducible apply KeepsO.ite | with_reducible apply probeFlash_keeps | with_reducible apply toSelftest_keeps | with_reducible apply noteHeader_keeps | intro _ | with_reducible apply Keeps.ite | simp only [Keeps.upd] | dsimp only | split)

theorem applyVerified_keeps {s0 : State} (c : ImageCfg) (s : State) (hk : Keeps s0 s) : Keeps s0 (applyVerified c s) := by
  unfold applyVerified
  repeat (first | with_reducible assumption | intro _ | with_reducible apply Keeps.ite | simp only [Keeps.upd] | dsimp only | split)

theorem setBankStatus_keeps {s0 : State} (b : Bool) (x : BankStatus) (s : State) (hk : Keeps s0 s) : Keeps s0 (setBankStatus b x s) := by
  unfold setBankStatus
  repeat (first | with_reducible assumption | intro _ | with_reducible apply Keeps.ite | simp only [Keeps.upd] | dsimp only | split)

theorem execImageVerifyDone_keeps {s0 : State} (errs : List Nat) (s : State) (hk : Keeps s0 s) : KeepsO s0 (execImageVerifyDone errs s) := by
  unfold execImageVerifyDone
  repeat (first | with_reducible assumption | split | with_reducible apply KeepsO.next | with_reducible apply warmReset_keeps | with_reducible apply applyVerified_keeps | with_reducible apply secLog_keeps | with_reducible apply setBankStatus_keeps | simp only [Keeps.upd] | dsimp only)

theorem execSelftestDone_keeps {s0 : State} (failed : Nat) (s : State) (hk : Keeps s0 s) : KeepsO s0 (execSelftestDone failed s) := by
  unfold execSelftestDone
  repeat (first | with_reducible assumption | with_reducible apply KeepsO.next | with_reducible apply KeepsO.ite | with_reducible apply enterError_keeps | with_reducible apply secLog_keeps | with_reducible apply deriveKeys_keeps | with_reducible apply enterSafe_keeps | intro _ | with_reducible apply Keeps.ite | simp only [Keeps.upd] | dsimp only | split)

theorem bootInfo_keeps {s0 t : State} {v : List Nat} {c : ImageCfg} {kind : Nat} {s : State} (e : bootInfo c kind s = (v, t)) (hk : Keeps s0 s) : Keeps s0 t := by
  unfold bootInfo at e
  (try dsimp only at e)
  repeat' split at e
  all_goals (try cases e)
  all_goals repeat (first | with_reducible assumption | with_reducible refine takeFree_keeps (by with_reducible assumption) ?_ | with_reducible apply takeFree_snd_keeps | intro _ | with_reducible apply Keeps.ite | with_reducible apply Keeps.iteSnd | with_reducible apply Keeps.iteFst | simp only [Keeps.upd] | dsimp only | split)

theorem bootInfo_snd_keeps {s0 : State} (c : ImageCfg) (kind : Nat) (s : State) (hk : Keeps s0 s) : Keeps s0 (bootInfo c kind s).2 :=
  bootInfo_keeps (Prod.eta _).symm hk

theorem mapPort_keeps {s0 : State} (c : ImageCfg) (k : PortId) (s : State) (hk : Keeps s0 s) : Keeps s0 (mapPort c k s) := by
  unfold mapPort
  repeat (first | with_reducible assumption | with_reducible apply updPort_keeps | intro _ | with_reducible apply Keeps.ite | simp only [Keeps.upd] | dsimp only | split)

theorem execGarkuLoadDone_keeps {s0 : State} (errs : List Nat) (s : State) (hk : Keeps s0 s) : KeepsO s0 (execGarkuLoadDone errs s) := by
  unfold execGarkuLoadDone
  repeat (first | with_reducible assumption | with_reducible apply KeepsO.next | with_reducible apply KeepsO.ite | with_reducible apply enterSafe_keeps | with_reducible refine bootInfo_keeps (by with_reducible assumption) ?_ | with_reducible apply bootInfo_snd_keeps | with_reducible apply eachOf_keeps | with_reducible apply mapPort_keeps | with_reducible apply warmReset_keeps | intro _ | with_reducible apply Keeps.ite | with_reducible apply Keeps.iteSnd | with_reducible apply Keeps.iteFst | simp only [Keeps.upd] | dsimp only | split)

theorem execPortRetrainDone_keeps {s0 : State} (k : PortId) (gen width : Nat) (s : State) (hk : Keeps s0 s) : KeepsO s0 (execPortRetrainDone k gen width s) := by
  unfold execPortRetrainDone
  repeat (first | with_reducible assumption | with_reducible apply KeepsO.next | with_reducible apply KeepsO.ite | with_reducible apply portEvent_keeps | with_reducible apply updPort_keeps | intro _ | with_reducible apply Keeps.ite | with_reducible apply Keeps.iteSnd | with_reducible apply Keeps.iteFst | simp only [Keeps.upd] | dsimp only | split)

theorem execBistReadDone_keeps {s0 : State} (errs : List Nat) (s : State) (hk : Keeps s0 s) : KeepsO s0 (execBistReadDone errs s) := by
  unfold execBistReadDone
  repeat (first | with_reducible assumption | with_reducible apply KeepsO.next | with_reducible apply KeepsO.ite | with_reducible apply enterSafe_keeps | with_reducible apply setPstateNow_keeps | with_reducible apply warmReset_keeps | intro _ | with_reducible apply Keeps.ite | simp only [Keeps.upd] | dsimp only | split)

theorem execHbmTrainDone_keeps {s0 : State} (ok : Bool) (s : State) (hk : Keeps s0 s) : KeepsO s0 (execHbmTrainDone ok s) := by
  unfold execHbmTrainDone
  repeat (first | with_reducible assumption | with_reducible apply KeepsO.next | with_reducible apply KeepsO.ite | with_reducible apply enterSafe_keeps | intro _ | with_reducible apply Keeps.ite | simp only [Keeps.upd] | dsimp only | split)

theorem enterLinkTrain_keeps {s0 : State} (errs : List Nat) (aligned : Bool) (cause wait : Nat) (s : State) (hk : Keeps s0 s) : Keeps s0 (enterLinkTrain errs aligned cause wait s) := by
  unfold enterLinkTrain
  repeat (first | with_reducible assumption | with_reducible apply startLinks_keeps | with_reducible apply warmReset_keeps | intro _ | with_reducible apply Keeps.ite | simp only [Keeps.upd] | dsimp only | split)

theorem execHbmClearDone_keeps {s0 : State} (errs : List Nat) (s : State) (hk : Keeps s0 s) : KeepsO s0 (execHbmClearDone errs s) := by
  unfold execHbmClearDone
  repeat (first | with_reducible assumption | with_reducible apply KeepsO.next | with_reducible apply KeepsO.ite | with_reducible apply enterLinkTrain_keeps | intro _ | with_reducible apply Keeps.ite | with_reducible apply Keeps.hbmClear | with_reducible apply Keeps.hbmNil | simp only [Keeps.upd] | dsimp only | split)

theorem execGroupSyncRise_keeps {s0 : State} (errs : List Nat) (s : State) (hk : Keeps s0 s) : KeepsO s0 (execGroupSyncRise errs s) := by
  unfold execGroupSyncRise
  repeat (first | with_reducible assumption | with_reducible apply KeepsO.next | with_reducible apply KeepsO.ite | with_reducible apply enterLinkTrain_keeps | intro _ | with_reducible apply Keeps.ite | simp only [Keeps.upd] | dsimp only | split)

theorem execGroupSyncLineHigh_keeps {s0 : State} (s : State) (hk : Keeps s0 s) : KeepsO s0 (execGroupSyncLineHigh s) := by
  unfold execGroupSyncLineHigh
  repeat (first | with_reducible assumption | with_reducible apply KeepsO.next | with_reducible apply KeepsO.ite | with_reducible apply coldReset_keeps | intro _ | with_reducible apply Keeps.ite | simp only [Keeps.upd] | dsimp only | split)

theorem execAlignTimeout_keeps {s0 : State} (errs : List Nat) (s : State) (hk : Keeps s0 s) : KeepsO s0 (execAlignTimeout errs s) := by
  unfold execAlignTimeout
  repeat (first | with_reducible assumption | with_reducible apply KeepsO.next | with_reducible apply KeepsO.ite | with_reducible apply enterLinkTrain_keeps | intro _ | with_reducible apply Keeps.ite | simp only [Keeps.upd] | dsimp only | split)

theorem enterTimeSync_keeps {s0 : State} (s : State) (hk : Keeps s0 s) : Keeps s0 (enterTimeSync s) := by
  unfold enterTimeSync
  repeat (first | with_reducible assumption | with_reducible apply judgeReach_keeps | with_reducible apply judgeMaster_keeps | intro _ | with_reducible apply Keeps.ite | simp only [Keeps.upd] | dsimp only | split)

theorem execLinkTrainEnd_keeps {s0 : State} (s : State) (hk : Keeps s0 s) : KeepsO s0 (execLinkTrainEnd s) := by
  unfold execLinkTrainEnd
  repeat (first | with_reducible assumption | with_reducible apply KeepsO.next | with_reducible apply KeepsO.ite | with_reducible apply enterTimeSync_keeps | intro _ | with_reducible apply Keeps.ite | simp only [Keeps.upd] | dsimp only | split)

theorem execLinkTrainTimeout_keeps {s0 : State} (s : State) (hk : Keeps s0 s) : KeepsO s0 (execLinkTrainTimeout s) := by
  unfold execLinkTrainTimeout
  repeat (first | with_reducible assumption | with_reducible apply KeepsO.next | with_reducible apply KeepsO.ite | with_reducible apply enterTimeSync_keeps | intro _ | with_reducible apply Keeps.ite | simp only [Keeps.upd] | dsimp only | split)

theorem advanceFloor_keeps {s0 : State} (s : State) (hk : Keeps s0 s) : Keeps s0 (advanceFloor s) := by
  unfold advanceFloor
  dsimp only
  split
  · rename_i h
    have w := secLog_keeps (s0 := s0) 0x0020 0 0 (toLe 2 s.fuses.floor ++ toLe 2 (min s.cfg.secVersion 255)) s hk
    refine ⟨w.hbm, w.poison, w.err, w.flash, w.syc, ?_, w.pending, w.out, w.free⟩
    have g : s.fuses.floor ≤ min s.cfg.secVersion 255 := by simp at h; omega
    exact ⟨hk.fuses.prov, hk.fuses.deploy, hk.fuses.decom, hk.fuses.huk, hk.fuses.unlock, hk.fuses.relock,
      Nat.le_trans hk.fuses.floor g⟩
  · exact hk

theorem readyClusters_keeps {s0 : State} (s : State) (hk : Keeps s0 s) : Keeps s0 (readyClusters s) := by
  unfold readyClusters
  repeat (first | with_reducible assumption | with_reducible apply noticeChange_keeps | with_reducible apply eachOf_keeps | with_reducible apply setCluster_keeps | intro _ | with_reducible apply Keeps.ite | simp only [Keeps.upd] | dsimp only | split)

theorem enterReady_keeps {s0 : State} (s : State) (hk : Keeps s0 s) : Keeps s0 (enterReady s) := by
  unfold enterReady
  repeat (first | with_reducible assumption | with_reducible apply advanceFloor_keeps | with_reducible apply readyClusters_keeps | with_reducible apply dualWaiting_keeps | with_reducible apply setSb_keeps | with_reducible apply setCommit_keeps | intro _ | with_reducible apply Keeps.ite | simp only [Keeps.upd] | dsimp only | split)

theorem execTimeSyncAchieved_keeps {s0 : State} (s : State) (hk : Keeps s0 s) : KeepsO s0 (execTimeSyncAchieved s) := by
  unfold execTimeSyncAchieved
  repeat (first | with_reducible assumption | with_reducible apply KeepsO.next | with_reducible apply KeepsO.ite | with_reducible apply enterReady_keeps | intro _ | with_reducible apply Keeps.ite | simp only [Keeps.upd] | dsimp only | split)

theorem execTimeSyncTimeout_keeps {s0 : State} (s : State) (hk : Keeps s0 s) : KeepsO s0 (execTimeSyncTimeout s) := by
  unfold execTimeSyncTimeout
  repeat (first | with_reducible assumption | with_reducible apply KeepsO.next | with_reducible apply KeepsO.ite | with_reducible apply enterReady_keeps | intro _ | with_reducible apply Keeps.ite | simp only [Keeps.upd] | dsimp only | split)

theorem execThermalTrip_keeps {s0 : State} (sensor value : Nat) (s : State) (hk : Keeps s0 s) : KeepsO s0 (execThermalTrip sensor value s) := by
  unfold execThermalTrip
  repeat (first | with_reducible assumption | with_reducible apply KeepsO.next | with_reducible apply KeepsO.ite | with_reducible apply coldReset_keeps | intro _ | with_reducible apply Keeps.ite | simp only [Keeps.upd] | dsimp only | split)

theorem execFwWatchdog_keeps {s0 : State} (s : State) (hk : Keeps s0 s) : KeepsO s0 (execFwWatchdog s) := by
  unfold execFwWatchdog
  repeat (first | with_reducible assumption | with_reducible apply KeepsO.next | with_reducible apply KeepsO.ite | with_reducible apply deviceFault_keeps | with_reducible apply cntDev_keeps | with_reducible apply mgtRecord_keeps | intro _ | with_reducible apply Keeps.ite | simp only [Keeps.upd] | dsimp only | split)

theorem execFallbackAlertStep_keeps {s0 : State} (s : State) (hk : Keeps s0 s) : KeepsO s0 (execFallbackAlertStep s) := by
  unfold execFallbackAlertStep
  repeat (first | with_reducible assumption | with_reducible apply KeepsO.next | with_reducible apply KeepsO.ite | with_reducible apply requestPstate_keeps | intro _ | with_reducible apply Keeps.ite | simp only [Keeps.upd] | dsimp only | split)

theorem execMgtWdtRefresh_keeps {s0 : State} (r : Requester) (v : Nat) (s : State) (hk : Keeps s0 s) : KeepsO s0 (execMgtWdtRefresh r v s) := by
  unfold execMgtWdtRefresh
  repeat (first | with_reducible assumption | with_reducible apply KeepsO.next | with_reducible apply KeepsO.ite | with_reducible apply releaseHeld_keeps | intro _ | with_reducible apply Keeps.ite | simp only [Keeps.upd] | dsimp only | split)

theorem chargeSwitch_keeps {s0 : State} (p : PartId) (old new : Nat) (s : State) (hk : Keeps s0 s) : Keeps s0 (chargeSwitch p old new s) := by
  unfold chargeSwitch
  repeat (first | with_reducible assumption | with_reducible refine takeFree_keeps (by with_reducible assumption) ?_ | with_reducible apply takeFree_snd_keeps | with_reducible apply charge_keeps | intro _ | with_reducible apply Keeps.ite | with_reducible apply Keeps.iteSnd | with_reducible apply Keeps.iteFst | simp only [Keeps.upd] | dsimp only | split)

theorem switchModel_keeps {s0 : State} (p : PartId) (m : Nat) (start : Nat) (s : State) (hk : Keeps s0 s) : Keeps s0 (switchModel p m start s) := by
  unfold switchModel
  repeat (first | with_reducible assumption | with_reducible apply chargeSwitch_keeps | with_reducible apply cntPart_keeps | with_reducible apply setRegPart_keeps | with_reducible apply updPart_keeps | intro _ | with_reducible apply Keeps.ite | simp only [Keeps.upd] | dsimp only | split)

theorem freshDual_keeps {s0 : State} (p : PartId) (old new : Nat) (s : State) (hk : Keeps s0 s) : Keeps s0 (freshDual p old new s) := by
  unfold freshDual
  repeat (first | with_reducible assumption | with_reducible apply updPart_keeps | intro _ | with_reducible apply Keeps.ite | simp only [Keeps.upd] | dsimp only | split)

theorem openJob_keeps {s0 : State} (p : PartId) (d : Bytes) (start : Nat) (s : State) (hk : Keeps s0 s) : Keeps s0 (openJob p d start s) := by
  unfold openJob
  repeat (first | with_reducible assumption | with_reducible apply switchModel_keeps | with_reducible apply eachOf_keeps | with_reducible apply updCluster_keeps | with_reducible apply freshDual_keeps | with_reducible apply updPart_keeps | with_reducible apply mgtEvent_keeps | with_reducible apply updStream_keeps | intro _ | with_reducible apply Keeps.ite | simp only [Keeps.upd] | dsimp only | split)

theorem clearCores_keeps {s0 : State} (m : Nat) (s : State) (hk : Keeps s0 s) : Keeps s0 (clearCores m s) := by
  unfold clearCores
  repeat (first | with_reducible assumption | with_reducible apply eachOf_keeps | with_reducible apply updCluster_keeps | intro _ | with_reducible apply Keeps.ite | simp only [Keeps.upd] | dsimp only | split)

theorem endShare_keeps {s0 : State} (p : PartId) (st : StreamId) (s : State) (hk : Keeps s0 s) : Keeps s0 (endShare p st s) := by
  unfold endShare
  repeat (first | with_reducible assumption | with_reducible apply updStream_keeps | with_reducible apply record_keeps | with_reducible apply clearCores_keeps | with_reducible apply closeJob_keeps | with_reducible apply jobEndSnapshot_keeps | intro _ | with_reducible apply Keeps.ite | simp only [Keeps.upd] | dsimp only | split)

theorem endStep_keeps {s0 : State} (p : PartId) (s : State) (hk : Keeps s0 s) : Keeps s0 (endStep p s) := by
  unfold endStep
  repeat (first | with_reducible assumption | with_reducible apply updPart_keeps | intro _ | with_reducible apply Keeps.ite | simp only [Keeps.upd] | dsimp only | split)

theorem freeEntry_keeps {s0 : State} (p : PartId) (st : StreamId) (s : State) (hk : Keeps s0 s) : Keeps s0 (freeEntry p st s) := by
  unfold freeEntry
  repeat (first | with_reducible assumption | with_reducible apply updStream_keeps | with_reducible apply updPart_keeps | intro _ | with_reducible apply Keeps.ite | simp only [Keeps.upd] | dsimp only | split)

theorem signOff_keeps {s0 : State} (p : PartId) (st : StreamId) (e : Exec) (s : State) (hk : Keeps s0 s) : Keeps s0 (signOff p st e s) := by
  unfold signOff
  repeat (first | with_reducible assumption | with_reducible apply traceCmd_keeps | with_reducible apply applySignal_keeps | with_reducible apply updStream_keeps | with_reducible apply msixPart_keeps | with_reducible apply cntPart64_keeps | with_reducible apply freeEntry_keeps | intro _ | with_reducible apply Keeps.ite | simp only [Keeps.upd] | dsimp only | split)

theorem endProgram_keeps {s0 : State} (p : PartId) (st : StreamId) (e : Exec) (s : State) (hk : Keeps s0 s) : Keeps s0 (endProgram p st e s) := by
  unfold endProgram
  repeat (first | with_reducible assumption | with_reducible apply signOff_keeps | with_reducible apply updStream_keeps | intro _ | with_reducible apply Keeps.ite | simp only [Keeps.upd] | dsimp only | split)

theorem endEffect_keeps {s0 : State} (p : PartId) (st : StreamId) (e : Exec) (s : State) (hk : Keeps s0 s) : Keeps s0 (endEffect p st e s) := by
  unfold endEffect
  repeat (first | with_reducible assumption | with_reducible apply openJob_keeps | with_reducible apply updStream_keeps | with_reducible apply endShare_keeps | with_reducible apply endStep_keeps | with_reducible apply endAlone_keeps | intro _ | with_reducible apply Keeps.ite | simp only [Keeps.upd] | dsimp only | split)

theorem goOn_keeps {s0 : State} (p : PartId) (st : StreamId) (e : Exec) (s : State) (hk : Keeps s0 s) : Keeps s0 (goOn p st e s) := by
  unfold goOn
  repeat (first | with_reducible assumption | with_reducible apply updStream_keeps | intro _ | with_reducible apply Keeps.ite | simp only [Keeps.upd] | dsimp only | split)

theorem complete_keeps {s0 : State} (p : PartId) (st : StreamId) (s : State) (hk : Keeps s0 s) : Keeps s0 (complete p st s) := by
  unfold complete
  repeat (first | with_reducible assumption | with_reducible apply hbmHold_keeps | with_reducible apply endEffect_keeps | with_reducible apply settleMerge_keeps | with_reducible apply hbmGo_keeps | with_reducible apply endProgram_keeps | with_reducible apply goOn_keeps | with_reducible apply signOff_keeps | with_reducible apply fetchNow_keeps | with_reducible apply conjAdvance_keeps | intro _ | with_reducible apply Keeps.ite | simp only [Keeps.upd] | dsimp only | split)

theorem execCommandComplete_keeps {s0 : State} (p : PartId) (st : StreamId) (s : State) (hk : Keeps s0 s) : KeepsO s0 (execCommandComplete p st s) := by
  unfold execCommandComplete
  repeat (first | with_reducible assumption | with_reducible apply KeepsO.next | with_reducible apply KeepsO.ite | with_reducible apply complete_keeps | with_reducible apply xfrAdvance_keeps | intro _ | with_reducible apply Keeps.ite | simp only [Keeps.upd] | dsimp only | split)

theorem execSycSet_keeps {s0 : State} (p : PartId) (st : StreamId) (s : State) (hk : Keeps s0 s) : KeepsO s0 (execSycSet p st s) := by
  unfold execSycSet
  repeat (first | with_reducible assumption | with_reducible apply KeepsO.next | with_reducible apply KeepsO.ite | with_reducible apply runCmd_keeps | with_reducible apply conjAdvance_keeps | with_reducible apply cmdDone_keeps | with_reducible apply sycSetAt_keeps | intro _ | with_reducible apply Keeps.ite | simp only [Keeps.upd] | dsimp only | split)

theorem execSycHostAdd_keeps {s0 : State} (r : Requester) (i v : Nat) (s : State) (hk : Keeps s0 s) : KeepsO s0 (execSycHostAdd r i v s) := by
  unfold execSycHostAdd
  repeat (first | with_reducible assumption | with_reducible apply KeepsO.next | with_reducible apply KeepsO.ite | with_reducible refine hostPart_keeps (by with_reducible assumption) ?_ | with_reducible apply hostPart_snd_keeps | with_reducible apply conjAdvance_keeps | with_reducible apply sycAdd_keeps | intro _ | with_reducible apply Keeps.ite | with_reducible apply Keeps.iteSnd | with_reducible apply Keeps.iteFst | simp only [Keeps.upd] | dsimp only | split)

theorem execSycWaitTimeout_keeps {s0 : State} (p : PartId) (st : StreamId) (s : State) (hk : Keeps s0 s) : KeepsO s0 (execSycWaitTimeout p st s) := by
  unfold execSycWaitTimeout
  repeat (first | with_reducible assumption | with_reducible apply KeepsO.next | with_reducible apply KeepsO.ite | with_reducible apply cmdFail_keeps | with_reducible apply waitTimeout_keeps | intro _ | with_reducible apply Keeps.ite | simp only [Keeps.upd] | dsimp only | split)

theorem setBank_keeps {s0 : State} (b : Bank) (key v : Nat) (s : State) (hk : Keeps s0 s) : Keeps s0 (setBank b key v s) := by
  unfold setBank
  repeat (first | with_reducible assumption | with_reducible apply updPart_keeps | with_reducible apply updPort_keeps | with_reducible apply updLink_keeps | with_reducible apply updPlane_keeps | intro _ | with_reducible apply Keeps.ite | simp only [Keeps.upd] | dsimp only | split)

theorem cellClear_keeps {s0 : State} (c : Cell) (s : State) (hk : Keeps s0 s) : Keeps s0 (cellClear c s) := by
  unfold cellClear
  repeat (first | with_reducible assumption | with_reducible apply setBank_keeps | with_reducible apply setRegPart_keeps | with_reducible apply updComm_keeps | intro _ | with_reducible apply Keeps.ite | simp only [Keeps.upd] | dsimp only | split)

theorem subtractLive_keeps {s0 : State} (c : Cell) (n : Nat) (s : State) (hk : Keeps s0 s) : Keeps s0 (subtractLive c n s) := by
  unfold subtractLive
  repeat (first | with_reducible assumption | with_reducible apply setBank_keeps | with_reducible apply updComm_keeps | intro _ | with_reducible apply Keeps.ite | simp only [Keeps.upd] | dsimp only | split)

theorem readEffect_keeps {s0 : State} (r : Requester) (o : Nat) (s : State) (hk : Keeps s0 s) : Keeps s0 (readEffect r o s) := by
  unfold readEffect
  repeat (first | with_reducible assumption | with_reducible apply subtractLive_keeps | with_reducible apply cellClear_keeps | intro _ | with_reducible apply Keeps.ite | simp only [Keeps.upd] | dsimp only | split)

theorem readValue_keeps {s0 t : State} {v : Nat} {r : Requester} {off len : Nat} {s : State} (e : readValue r off len s = (v, t)) (hk : Keeps s0 s) : Keeps s0 t := by
  unfold readValue at e
  (try dsimp only at e)
  repeat' split at e
  all_goals (try cases e)
  all_goals repeat (first | with_reducible assumption | intro _ | with_reducible apply Keeps.ite | simp only [Keeps.upd] | dsimp only | split)

theorem readValue_snd_keeps {s0 : State} (r : Requester) (off len : Nat) (s : State) (hk : Keeps s0 s) : Keeps s0 (readValue r off len s).2 :=
  readValue_keeps (Prod.eta _).symm hk

theorem readServed_keeps {s0 : State} (r : Requester) (off len : Nat) (s : State) (hk : Keeps s0 s) : Keeps s0 (readServed r off len s) := by
  unfold readServed
  dsimp only
  apply emit_keeps
  apply Keeps.freeUp
  repeat (first | with_reducible assumption | with_reducible refine readValue_keeps (by with_reducible assumption) ?_ | with_reducible apply readValue_snd_keeps | with_reducible apply eachOf_keeps | with_reducible apply readEffect_keeps | with_reducible apply emit_keeps | intro _ | with_reducible apply Keeps.ite | with_reducible apply Keeps.iteSnd | with_reducible apply Keeps.iteFst | simp only [Keeps.upd] | dsimp only | split)

theorem readReg_keeps {s0 : State} (r : Requester) (off len : Nat) (s : State) (hk : Keeps s0 s) : Keeps s0 (readReg r off len s) := by
  unfold readReg
  repeat (first | with_reducible assumption | with_reducible apply readServed_keeps | with_reducible refine hostMem_keeps (by with_reducible assumption) ?_ | with_reducible apply hostMem_snd_keeps | with_reducible apply emit_keeps | intro _ | with_reducible apply Keeps.ite | with_reducible apply Keeps.iteSnd | with_reducible apply Keeps.iteFst | simp only [Keeps.upd] | dsimp only | split)

theorem configRead_keeps {s0 : State} (k : PortId) (a : RegAddr) (len : Nat) (s : State) (hk : Keeps s0 s) : Keeps s0 (configRead k a len s) := by
  unfold configRead
  repeat (first | with_reducible assumption | with_reducible apply emit_keeps | with_reducible apply leaveL1_keeps | intro _ | with_reducible apply Keeps.ite | simp only [Keeps.upd] | dsimp only | split)

theorem bar2Read_keeps {s0 : State} (k : PortId) (bare : Bool) (len : Nat) (s : State) (hk : Keeps s0 s) : Keeps s0 (bar2Read k bare len s) := by
  unfold bar2Read
  repeat (first | with_reducible assumption | with_reducible refine hostMem_keeps (by with_reducible assumption) ?_ | with_reducible apply hostMem_snd_keeps | with_reducible apply emit_keeps | intro _ | with_reducible apply Keeps.ite | with_reducible apply Keeps.iteSnd | with_reducible apply Keeps.iteFst | simp only [Keeps.upd] | dsimp only | split)

theorem unsupportedReq_keeps {s0 : State} (k : PortId) (s : State) (hk : Keeps s0 s) : Keeps s0 (unsupportedReq k s) := by
  unfold unsupportedReq
  repeat (first | with_reducible assumption | with_reducible apply emit_keeps | with_reducible apply leaveL1_keeps | intro _ | with_reducible apply Keeps.ite | simp only [Keeps.upd] | dsimp only | split)

theorem execRcRegisterRead_keeps {s0 : State} (r : Requester) (a : RegAddr) (len : Nat) (s : State) (hk : Keeps s0 s) : KeepsO s0 (execRcRegisterRead r a len s) := by
  unfold execRcRegisterRead
  repeat (first | with_reducible assumption | with_reducible apply KeepsO.next | with_reducible apply KeepsO.ite | with_reducible apply readReg_keeps | with_reducible apply bar2Read_keeps | with_reducible apply unsupportedReq_keeps | with_reducible apply configRead_keeps | intro _ | with_reducible apply Keeps.ite | simp only [Keeps.upd] | dsimp only | split)

theorem execLowHalfRead_keeps {s0 : State} (r : Requester) (off : Nat) (s : State) (hk : Keeps s0 s) : KeepsO s0 (execLowHalfRead r off s) := by
  unfold execLowHalfRead
  repeat (first | with_reducible assumption | with_reducible apply KeepsO.next | with_reducible apply KeepsO.ite | with_reducible apply readReg_keeps | intro _ | with_reducible apply Keeps.ite | simp only [Keeps.upd] | dsimp only | split)

theorem execHighHalfRead_keeps {s0 : State} (r : Requester) (off : Nat) (s : State) (hk : Keeps s0 s) : KeepsO s0 (execHighHalfRead r off s) := by
  unfold execHighHalfRead
  repeat (first | with_reducible assumption | with_reducible apply KeepsO.next | with_reducible apply KeepsO.ite | with_reducible apply readReg_keeps | intro _ | with_reducible apply Keeps.ite | simp only [Keeps.upd] | dsimp only | split)

theorem snapWriter_keeps {s0 t : State} {v : Bool} {r : Requester} {s : State} (e : snapWriter r s = (v, t)) (hk : Keeps s0 s) : Keeps s0 t := by
  unfold snapWriter at e
  (try dsimp only at e)
  repeat' split at e
  all_goals (try cases e)
  all_goals repeat (first | with_reducible assumption | with_reducible refine hostPart_keeps (by with_reducible assumption) ?_ | with_reducible apply hostPart_snd_keeps | intro _ | with_reducible apply Keeps.ite | with_reducible apply Keeps.iteSnd | with_reducible apply Keeps.iteFst | simp only [Keeps.upd] | dsimp only | split)

theorem snapWriter_snd_keeps {s0 : State} (r : Requester) (s : State) (hk : Keeps s0 s) : Keeps s0 (snapWriter r s).2 :=
  snapWriter_keeps (Prod.eta _).symm hk

theorem writeSnap_keeps {s0 : State} (r : Requester) (v : Nat) (s : State) (hk : Keeps s0 s) : Keeps s0 (writeSnap r v s) := by
  unfold writeSnap
  split
  · have w := snapWriter_keeps (by assumption) hk
    split
    · exact ⟨w.hbm, w.poison, w.err, w.flash, w.syc, w.fuses, w.pending, w.out, Nat.le_trans w.free (Nat.le_add_right _ _)⟩
    · repeat (first | with_reducible assumption | with_reducible refine snapWriter_keeps (by with_reducible assumption) ?_ | with_reducible apply snapWriter_snd_keeps | intro _ | with_reducible apply Keeps.ite | with_reducible apply Keeps.iteSnd | with_reducible apply Keeps.iteFst | simp only [Keeps.upd] | dsimp only | split)
  · exact snapWriter_keeps (by assumption) hk

theorem execCntSnapTake_keeps {s0 : State} (r : Requester) (v : Nat) (s : State) (hk : Keeps s0 s) : KeepsO s0 (execCntSnapTake r v s) := by
  unfold execCntSnapTake
  repeat (first | with_reducible assumption | with_reducible apply KeepsO.next | with_reducible apply KeepsO.ite | with_reducible apply writeSnap_keeps | intro _ | with_reducible apply Keeps.ite | simp only [Keeps.upd] | dsimp only | split)

theorem execCntSnapRelease_keeps {s0 : State} (r : Requester) (v : Nat) (s : State) (hk : Keeps s0 s) : KeepsO s0 (execCntSnapRelease r v s) := by
  unfold execCntSnapRelease
  repeat (first | with_reducible assumption | with_reducible apply KeepsO.next | with_reducible apply KeepsO.ite | with_reducible apply writeSnap_keeps | intro _ | with_reducible apply Keeps.ite | simp only [Keeps.upd] | dsimp only | split)

theorem writeMsix_keeps {s0 : State} (k : PortId) (o v : Nat) (s : State) (hk : Keeps s0 s) : Keeps s0 (writeMsix k o v s) := by
  unfold writeMsix
  repeat (first | with_reducible assumption | with_reducible apply updPort_keeps | with_reducible apply msixFlush_keeps | intro _ | with_reducible apply Keeps.ite | simp only [Keeps.upd] | dsimp only | split)

theorem writePart_keeps {s0 : State} (p : PartId) (off v : Nat) (s : State) (hk : Keeps s0 s) : Keeps s0 (writePart p off v s) := by
  unfold writePart
  repeat (first | with_reducible assumption | with_reducible apply updStream_keeps | with_reducible apply updPart_keeps | with_reducible apply setRegPart_keeps | intro _ | with_reducible apply Keeps.ite | simp only [Keeps.upd] | dsimp only | split)

theorem writeHostWord_keeps {s0 : State} (k : PortId) (off v : Nat) (s : State) (hk : Keeps s0 s) : Keeps s0 (writeHostWord k off v s) := by
  unfold writeHostWord
  repeat (first | with_reducible assumption | with_reducible apply updPort_keeps | with_reducible apply writeMsix_keeps | with_reducible apply writePart_keeps | intro _ | with_reducible apply Keeps.ite | simp only [Keeps.upd] | dsimp only | split)

theorem writeMgtWord_keeps {s0 : State} (off v : Nat) (s : State) (hk : Keeps s0 s) : Keeps s0 (writeMgtWord off v s) := by
  unfold writeMgtWord
  repeat (first | with_reducible assumption | with_reducible apply updLink_keeps | with_reducible apply secAttempt_keeps | intro _ | with_reducible apply Keeps.ite | simp only [Keeps.upd] | dsimp only | split)

theorem writeWindow_keeps {s0 : State} (off : Nat) (b : Bytes) (s : State) (hk : Keeps s0 s) : Keeps s0 (writeWindow off b s) := by
  unfold writeWindow
  repeat (first | with_reducible assumption | with_reducible apply hbmWrite_keeps | intro _ | with_reducible apply Keeps.ite | simp only [Keeps.upd] | dsimp only | split)

theorem eachWord_keeps {s0 : State} (off len v : Nat) (f : Nat → Nat → State → State) (s : State) (hf : ∀ x0 x1 x2, Keeps s0 x2 → Keeps s0 (f x0 x1 x2)) (hk : Keeps s0 s) : Keeps s0 (eachWord off len v f s) := by
  unfold eachWord
  repeat (first | with_reducible apply hf | with_reducible assumption | with_reducible apply eachOf_keeps | intro _ | with_reducible apply Keeps.ite | simp only [Keeps.upd] | dsimp only | split)

theorem setConfig_keeps {s0 : State} (k : PortId) (a : RegAddr) (v : Nat) (s : State) (hk : Keeps s0 s) : Keeps s0 (setConfig k a v s) := by
  unfold setConfig
  repeat (first | with_reducible assumption | with_reducible apply updPort_keeps | with_reducible apply msixFlush_keeps | with_reducible apply aerUnexpected_keeps | with_reducible apply aerPoisoned_keeps | intro _ | with_reducible apply Keeps.ite | simp only [Keeps.upd] | dsimp only | split)

theorem writeMgt_keeps {s0 : State} (r : Requester) (off len v : Nat) (s : State) (hk : Keeps s0 s) : Keeps s0 (writeMgt r off len v s) := by
  unfold writeMgt
  repeat (first | with_reducible assumption | with_reducible apply eachWord_keeps | with_reducible apply writePart_keeps | with_reducible apply writeWindow_keeps | with_reducible apply writeMgtWord_keeps | intro _ | with_reducible apply Keeps.ite | simp only [Keeps.upd] | dsimp only | split)

theorem writeBar0_keeps {s0 : State} (k : PortId) (bare : Bool) (off len v : Nat) (ep : Bool) (s : State) (hk : Keeps s0 s) : Keeps s0 (writeBar0 k bare off len v ep s) := by
  unfold writeBar0
  repeat (first | with_reducible assumption | with_reducible refine hostMem_keeps (by with_reducible assumption) ?_ | with_reducible apply hostMem_snd_keeps | with_reducible apply poisonedWrite_keeps | with_reducible apply eachWord_keeps | with_reducible apply writeHostWord_keeps | intro _ | with_reducible apply Keeps.ite | with_reducible apply Keeps.iteSnd | with_reducible apply Keeps.iteFst | simp only [Keeps.upd] | dsimp only | split)

theorem execRegisterWrite_keeps {s0 : State} (r : Requester) (a : RegAddr) (len : Nat) (v : Nat) (ep : Bool) (s : State) (hk : Keeps s0 s) : KeepsO s0 (execRegisterWrite r a len v ep s) := by
  unfold execRegisterWrite
  repeat (first | with_reducible assumption | with_reducible apply KeepsO.next | with_reducible apply KeepsO.ite | with_reducible apply writeMgt_keeps | with_reducible apply writeBar0_keeps | with_reducible apply bar2Write_keeps | with_reducible apply unsupportedReq_keeps | with_reducible apply cfgWrite_keeps | with_reducible apply setConfig_keeps | intro _ | with_reducible apply Keeps.ite | simp only [Keeps.upd] | dsimp only | split)

theorem execDbgTraceCtlWrite_keeps {s0 : State} (r : Requester) (v : Nat) (s : State) (hk : Keeps s0 s) : KeepsO s0 (execDbgTraceCtlWrite r v s) := by
  unfold execDbgTraceCtlWrite
  repeat (first | with_reducible assumption | with_reducible apply KeepsO.next | with_reducible apply KeepsO.ite | with_reducible refine hostPart_keeps (by with_reducible assumption) ?_ | with_reducible apply hostPart_snd_keeps | with_reducible apply updPart_keeps | intro _ | with_reducible apply Keeps.ite | with_reducible apply Keeps.iteSnd | with_reducible apply Keeps.iteFst | simp only [Keeps.upd] | dsimp only | split)

theorem execTraceRecordDrain_keeps {s0 : State} (p : PartId) (s : State) (hk : Keeps s0 s) : KeepsO s0 (execTraceRecordDrain p s) := by
  unfold execTraceRecordDrain
  repeat (first | with_reducible assumption | with_reducible apply KeepsO.next | with_reducible apply KeepsO.ite | with_reducible apply settleMerge_keeps | with_reducible apply traceDrain_keeps | with_reducible apply hbmGo_keeps | with_reducible apply hbmHold_keeps | intro _ | with_reducible apply Keeps.ite | simp only [Keeps.upd] | dsimp only | split)

theorem execDbgTraceRdWrite_keeps {s0 : State} (r : Requester) (v : Nat) (s : State) (hk : Keeps s0 s) : KeepsO s0 (execDbgTraceRdWrite r v s) := by
  unfold execDbgTraceRdWrite
  repeat (first | with_reducible assumption | with_reducible apply KeepsO.next | with_reducible apply KeepsO.ite | with_reducible refine hostPart_keeps (by with_reducible assumption) ?_ | with_reducible apply hostPart_snd_keeps | with_reducible apply updPart_keeps | intro _ | with_reducible apply Keeps.ite | with_reducible apply Keeps.iteSnd | with_reducible apply Keeps.iteFst | simp only [Keeps.upd] | dsimp only | split)

theorem execDbgMark_keeps {s0 : State} (r : Requester) (v : Nat) (s : State) (hk : Keeps s0 s) : KeepsO s0 (execDbgMark r v s) := by
  unfold execDbgMark
  repeat (first | with_reducible assumption | with_reducible apply KeepsO.next | with_reducible apply KeepsO.ite | with_reducible refine hostPart_keeps (by with_reducible assumption) ?_ | with_reducible apply hostPart_snd_keeps | with_reducible apply traceGen_keeps | intro _ | with_reducible apply Keeps.ite | with_reducible apply Keeps.iteSnd | with_reducible apply Keeps.iteFst | simp only [Keeps.upd] | dsimp only | split)

theorem showPc_keeps {s0 : State} (mask : Nat) (s : State) (hk : Keeps s0 s) : Keeps s0 (showPc mask s) := by
  unfold showPc
  repeat (first | with_reducible assumption | with_reducible refine takeFree_keeps (by with_reducible assumption) ?_ | with_reducible apply takeFree_snd_keeps | intro _ | with_reducible apply Keeps.ite | with_reducible apply Keeps.iteSnd | with_reducible apply Keeps.iteFst | simp only [Keeps.upd] | dsimp only | split)

theorem writeMpCtl_keeps {s0 : State} (r : Requester) (v : Nat) (s : State) (hk : Keeps s0 s) : Keeps s0 (writeMpCtl r v s) := by
  unfold writeMpCtl
  repeat (first | with_reducible assumption | with_reducible apply showPc_keeps | intro _ | with_reducible apply Keeps.ite | simp only [Keeps.upd] | dsimp only | split)

theorem execMpHalt_keeps {s0 : State} (r : Requester) (v : Nat) (s : State) (hk : Keeps s0 s) : KeepsO s0 (execMpHalt r v s) := by
  unfold execMpHalt
  repeat (first | with_reducible assumption | with_reducible apply KeepsO.next | with_reducible apply KeepsO.ite | with_reducible apply writeMpCtl_keeps | intro _ | with_reducible apply Keeps.ite | simp only [Keeps.upd] | dsimp only | split)

theorem execMpStep_keeps {s0 : State} (r : Requester) (v : Nat) (s : State) (hk : Keeps s0 s) : KeepsO s0 (execMpStep r v s) := by
  unfold execMpStep
  repeat (first | with_reducible assumption | with_reducible apply KeepsO.next | with_reducible apply KeepsO.ite | with_reducible apply writeMpCtl_keeps | intro _ | with_reducible apply Keeps.ite | simp only [Keeps.upd] | dsimp only | split)

theorem execMgtEventHeadWrite_keeps {s0 : State} (r : Requester) (v : Nat) (s : State) (hk : Keeps s0 s) : KeepsO s0 (execMgtEventHeadWrite r v s) := by
  unfold execMgtEventHeadWrite
  repeat (first | with_reducible assumption | with_reducible apply KeepsO.next | with_reducible apply KeepsO.ite | intro _ | with_reducible apply Keeps.ite | simp only [Keeps.upd] | dsimp only | split)

theorem sendMctp_keeps {s0 : State} (bd : MctpBinding) (type : Nat) (b : Bytes) (s : State) (hk : Keeps s0 s) : Keeps s0 (sendMctp bd type b s) := by
  unfold sendMctp
  repeat (first | with_reducible assumption | with_reducible apply emit_keeps | intro _ | with_reducible apply Keeps.ite | simp only [Keeps.upd] | dsimp only | split)

theorem vendorReply_keeps {s0 : State} (bd : MctpBinding) (cmd status : Nat) (b : Bytes) (s : State) (hk : Keeps s0 s) : Keeps s0 (vendorReply bd cmd status b s) := by
  unfold vendorReply
  repeat (first | with_reducible assumption | with_reducible apply sendMctp_keeps | intro _ | with_reducible apply Keeps.ite | simp only [Keeps.upd] | dsimp only | split)

theorem serveMctp_keeps {s0 : State} (bd : MctpBinding) (f : State → State) (s : State) (hf : ∀ x0, Keeps s0 x0 → Keeps s0 (f x0)) (hk : Keeps s0 s) : KeepsO s0 (serveMctp bd f s) := by
  unfold serveMctp
  repeat (first | with_reducible apply hf | with_reducible assumption | with_reducible apply KeepsO.next | with_reducible apply KeepsO.ite | intro _ | with_reducible apply Keeps.ite | simp only [Keeps.upd] | dsimp only | split)

theorem execSetEndpointId_keeps {s0 : State} (bd : MctpBinding) (op eid : Nat) (s : State) (hk : Keeps s0 s) : KeepsO s0 (execSetEndpointId bd op eid s) := by
  unfold execSetEndpointId
  repeat (first | with_reducible assumption | with_reducible apply KeepsO.next | with_reducible apply KeepsO.ite | with_reducible apply serveMctp_keeps | with_reducible apply sendMctp_keeps | intro _ | with_reducible apply Keeps.ite | simp only [Keeps.upd] | dsimp only | split)

theorem execSmbusTimeout_keeps {s0 : State} (s : State) (hk : Keeps s0 s) : KeepsO s0 (execSmbusTimeout s) := by
  unfold execSmbusTimeout
  repeat (first | with_reducible assumption | with_reducible apply KeepsO.next | with_reducible apply KeepsO.ite | with_reducible apply coldReset_keeps | with_reducible apply emit_keeps | with_reducible apply cntDev_keeps | intro _ | with_reducible apply Keeps.ite | simp only [Keeps.upd] | dsimp only | split)

theorem execSmbusArbitrationRetry_keeps {s0 : State} (s : State) (hk : Keeps s0 s) : KeepsO s0 (execSmbusArbitrationRetry s) := by
  unfold execSmbusArbitrationRetry
  repeat (first | with_reducible assumption | with_reducible apply KeepsO.next | with_reducible apply KeepsO.ite | with_reducible apply emit_keeps | intro _ | with_reducible apply Keeps.ite | simp only [Keeps.upd] | dsimp only | split)

theorem execTripLatchRead_keeps {s0 : State} (s : State) (hk : Keeps s0 s) : KeepsO s0 (execTripLatchRead s) := by
  unfold execTripLatchRead
  repeat (first | with_reducible assumption | with_reducible apply KeepsO.next | with_reducible apply KeepsO.ite | with_reducible apply emit_keeps | intro _ | with_reducible apply Keeps.ite | simp only [Keeps.upd] | dsimp only | split)

theorem execRead32_keeps {s0 : State} (bd : MctpBinding) (addr count : Nat) (s : State) (hk : Keeps s0 s) : KeepsO s0 (execRead32 bd addr count s) := by
  unfold execRead32
  repeat (first | with_reducible assumption | with_reducible apply KeepsO.next | with_reducible apply KeepsO.ite | with_reducible apply serveMctp_keeps | with_reducible apply vendorReply_keeps | intro _ | with_reducible apply Keeps.ite | simp only [Keeps.upd] | dsimp only | split)

theorem execSecRelay_keeps {s0 : State} (bd : MctpBinding) (buf : Bytes) (s : State) (hk : Keeps s0 s) : KeepsO s0 (execSecRelay bd buf s) := by
  unfold execSecRelay
  repeat (first | with_reducible assumption | with_reducible apply KeepsO.next | with_reducible apply KeepsO.ite | with_reducible apply serveMctp_keeps | with_reducible apply vendorReply_keeps | with_reducible refine secTry_keeps (by with_reducible assumption) ?_ | with_reducible apply secTry_fst_keeps | with_reducible apply warmPlain_keeps | intro _ | with_reducible apply Keeps.ite | with_reducible apply Keeps.iteSnd | with_reducible apply Keeps.iteFst | simp only [Keeps.upd] | dsimp only | split)

theorem execLogRead_keeps {s0 : State} (bd : MctpBinding) (sector off len : Nat) (s : State) (hk : Keeps s0 s) : KeepsO s0 (execLogRead bd sector off len s) := by
  unfold execLogRead
  repeat (first | with_reducible assumption | with_reducible apply KeepsO.next | with_reducible apply KeepsO.ite | with_reducible apply serveMctp_keeps | with_reducible apply vendorReply_keeps | intro _ | with_reducible apply Keeps.ite | simp only [Keeps.upd] | dsimp only | split)

theorem execPolicyMessage_keeps {s0 : State} (bd : MctpBinding) (cmd : Nat) (body : Bytes) (s : State) (hk : Keeps s0 s) : KeepsO s0 (execPolicyMessage bd cmd body s) := by
  unfold execPolicyMessage
  repeat (first | with_reducible assumption | with_reducible apply KeepsO.next | with_reducible apply KeepsO.ite | with_reducible apply serveMctp_keeps | with_reducible apply vendorReply_keeps | with_reducible apply mgtEvent_keeps | intro _ | with_reducible apply Keeps.ite | simp only [Keeps.upd] | dsimp only | split)

theorem execMgtMsgCtlSend_keeps {s0 : State} (r : Requester) (v : Nat) (s : State) (hk : Keeps s0 s) : KeepsO s0 (execMgtMsgCtlSend r v s) := by
  unfold execMgtMsgCtlSend
  repeat (first | with_reducible assumption | with_reducible apply KeepsO.next | with_reducible apply KeepsO.ite | with_reducible apply vendorReply_keeps | intro _ | with_reducible apply Keeps.ite | simp only [Keeps.upd] | dsimp only | split)

theorem execPolicyMessageTimeout_keeps {s0 : State} (s : State) (hk : Keeps s0 s) : KeepsO s0 (execPolicyMessageTimeout s) := by
  unfold execPolicyMessageTimeout
  repeat (first | with_reducible assumption | with_reducible apply KeepsO.next | with_reducible apply KeepsO.ite | with_reducible apply vendorReply_keeps | intro _ | with_reducible apply Keeps.ite | simp only [Keeps.upd] | dsimp only | split)

theorem execSetEventReceiver_keeps {s0 : State} (bd : MctpBinding) (enable : Nat) (s : State) (hk : Keeps s0 s) : KeepsO s0 (execSetEventReceiver bd enable s) := by
  unfold execSetEventReceiver
  repeat (first | with_reducible assumption | with_reducible apply KeepsO.next | with_reducible apply KeepsO.ite | with_reducible apply serveMctp_keeps | with_reducible apply sendMctp_keeps | with_reducible apply Keeps.foldl | intro _ | with_reducible apply Keeps.ite | simp only [Keeps.upd] | dsimp only | split)

theorem execGetSensorReading_keeps {s0 : State} (bd : MctpBinding) (sensor : Nat) (s : State) (hk : Keeps s0 s) : KeepsO s0 (execGetSensorReading bd sensor s) := by
  unfold execGetSensorReading
  repeat (first | with_reducible assumption | with_reducible apply KeepsO.next | with_reducible apply KeepsO.ite | with_reducible apply serveMctp_keeps | with_reducible apply sendMctp_keeps | intro _ | with_reducible apply Keeps.ite | simp only [Keeps.upd] | dsimp only | split)

theorem execSensorEventTimer_keeps {s0 : State} (sensor : Nat) (s : State) (hk : Keeps s0 s) : KeepsO s0 (execSensorEventTimer sensor s) := by
  unfold execSensorEventTimer
  repeat (first | with_reducible assumption | with_reducible apply KeepsO.next | with_reducible apply KeepsO.ite | with_reducible apply sendMctp_keeps | intro _ | with_reducible apply Keeps.ite | simp only [Keeps.upd] | dsimp only | split)

theorem updUpdate_keeps {s0 : State} (f : PldmUpdate → PldmUpdate) (s : State) (hk : Keeps s0 s) : Keeps s0 (updUpdate f s) := by
  unfold updUpdate
  repeat (first | with_reducible assumption | intro _ | with_reducible apply Keeps.ite | simp only [Keeps.upd] | dsimp only | split)

theorem pldmReply_keeps {s0 : State} (bd : MctpBinding) (cmd code : Nat) (b : Bytes) (s : State) (hk : Keeps s0 s) : Keeps s0 (pldmReply bd cmd code b s) := by
  unfold pldmReply
  repeat (first | with_reducible assumption | with_reducible apply sendMctp_keeps | intro _ | with_reducible apply Keeps.ite | simp only [Keeps.upd] | dsimp only | split)

theorem requestData_keeps {s0 : State} (off n : Nat) (s : State) (hk : Keeps s0 s) : Keeps s0 (requestData off n s) := by
  unfold requestData
  repeat (first | with_reducible assumption | with_reducible apply sendMctp_keeps | intro _ | with_reducible apply Keeps.ite | simp only [Keeps.upd] | dsimp only | split)

theorem requestNext_keeps {s0 : State} (s : State) (hk : Keeps s0 s) : Keeps s0 (requestNext s) := by
  unfold requestNext
  repeat (first | with_reducible assumption | with_reducible apply requestData_keeps | intro _ | with_reducible apply Keeps.ite | simp only [Keeps.upd] | dsimp only | split)

theorem stopUpdate_keeps {s0 : State} (s : State) (hk : Keeps s0 s) : Keeps s0 (stopUpdate s) := by
  unfold stopUpdate
  dsimp only
  apply updUpdate_keeps
  split
  · exact hk
  · unfold eraseHeader
    apply Keeps.flashClear
    exact hk

theorem execRequestUpdate_keeps {s0 : State} (bd : MctpBinding) (_maxSize _count : Nat) (s : State) (hk : Keeps s0 s) : KeepsO s0 (execRequestUpdate bd _maxSize _count s) := by
  unfold execRequestUpdate
  repeat (first | with_reducible assumption | with_reducible apply KeepsO.next | with_reducible apply KeepsO.ite | with_reducible apply serveMctp_keeps | with_reducible apply pldmReply_keeps | with_reducible apply requestData_keeps | with_reducible apply updUpdate_keeps | intro _ | with_reducible apply Keeps.ite | simp only [Keeps.upd] | dsimp only | split)

theorem execPassComponentTable_keeps {s0 : State} (bd : MctpBinding) (cls ident stamp : Nat) (s : State) (hk : Keeps s0 s) : KeepsO s0 (execPassComponentTable bd cls ident stamp s) := by
  unfold execPassComponentTable
  repeat (first | with_reducible assumption | with_reducible apply KeepsO.next | with_reducible apply KeepsO.ite | with_reducible apply serveMctp_keeps | with_reducible apply pldmReply_keeps | with_reducible apply updUpdate_keeps | with_reducible apply stopUpdate_keeps | intro _ | with_reducible apply Keeps.ite | simp only [Keeps.upd] | dsimp only | split)

theorem startErase_keeps {s0 : State} (bd : MctpBinding) (cls ident : Nat) (s : State) (hk : Keeps s0 s) : Keeps s0 (startErase bd cls ident s) := by
  unfold startErase
  split
  · apply pldmReply_keeps
    apply updUpdate_keeps
    unfold eraseHeader
    apply Keeps.flashClear
    exact hk
  · exact pldmReply_keeps _ _ _ _ _ (stopUpdate_keeps s hk)

theorem execUpdateComponent_keeps {s0 : State} (bd : MctpBinding) (cls ident _size : Nat) (s : State) (hk : Keeps s0 s) : KeepsO s0 (execUpdateComponent bd cls ident _size s) := by
  unfold execUpdateComponent
  repeat (first | with_reducible assumption | with_reducible apply KeepsO.next | with_reducible apply KeepsO.ite | with_reducible apply serveMctp_keeps | with_reducible apply pldmReply_keeps | with_reducible apply startErase_keeps | with_reducible apply updUpdate_keeps | intro _ | with_reducible apply Keeps.ite | simp only [Keeps.upd] | dsimp only | split)

theorem execBankEraseDone_keeps {s0 : State} (s : State) (hk : Keeps s0 s) : KeepsO s0 (execBankEraseDone s) := by
  unfold execBankEraseDone
  repeat (first | with_reducible assumption | with_reducible apply KeepsO.next | with_reducible apply KeepsO.ite | with_reducible apply stopUpdate_keeps | with_reducible apply requestNext_keeps | with_reducible apply updUpdate_keeps | intro _ | with_reducible apply Keeps.ite | with_reducible apply Keeps.flashClear | with_reducible apply Keeps.flashWriteN | simp only [Keeps.upd] | dsimp only | split)

theorem execFirmwareDataReceive_keeps {s0 : State} (bd : MctpBinding) (off : Nat) (data : Bytes) (s : State) (hk : Keeps s0 s) : KeepsO s0 (execFirmwareDataReceive bd off data s) := by
  unfold execFirmwareDataReceive
  repeat (first | with_reducible assumption | with_reducible apply KeepsO.next | with_reducible apply KeepsO.ite | with_reducible apply serveMctp_keeps | with_reducible apply updUpdate_keeps | with_reducible apply startErase_keeps | with_reducible apply requestNext_keeps | intro _ | with_reducible apply Keeps.ite | with_reducible apply Keeps.flashClear | with_reducible apply Keeps.flashWriteN | simp only [Keeps.upd] | dsimp only | split)

theorem execFirmwareDataRetry_keeps {s0 : State} (s : State) (hk : Keeps s0 s) : KeepsO s0 (execFirmwareDataRetry s) := by
  unfold execFirmwareDataRetry
  repeat (first | with_reducible assumption | with_reducible apply KeepsO.next | with_reducible apply KeepsO.ite | with_reducible apply requestData_keeps | with_reducible apply requestNext_keeps | intro _ | with_reducible apply Keeps.ite | simp only [Keeps.upd] | dsimp only | split)

theorem execTransferComplete_keeps {s0 : State} (s : State) (hk : Keeps s0 s) : KeepsO s0 (execTransferComplete s) := by
  unfold execTransferComplete
  repeat (first | with_reducible assumption | with_reducible apply KeepsO.next | with_reducible apply KeepsO.ite | with_reducible apply sendMctp_keeps | with_reducible apply updUpdate_keeps | intro _ | with_reducible apply Keeps.ite | simp only [Keeps.upd] | dsimp only | split)

theorem execVerifyComplete_keeps {s0 : State} (s : State) (hk : Keeps s0 s) : KeepsO s0 (execVerifyComplete s) := by
  unfold execVerifyComplete
  dsimp only
  apply KeepsO.ite
  · exact hk
  · apply KeepsO.ite
    · apply KeepsO.next
      apply sendMctp_keeps
      apply updUpdate_keeps
      unfold heldImage
      apply Keeps.flashWriteN
      exact hk
    · exact sendMctp_keeps _ _ _ _ (stopUpdate_keeps s hk)

theorem execApplyComplete_keeps {s0 : State} (s : State) (hk : Keeps s0 s) : KeepsO s0 (execApplyComplete s) := by
  unfold execApplyComplete
  repeat (first | with_reducible assumption | with_reducible apply KeepsO.next | with_reducible apply KeepsO.ite | with_reducible apply secLog_keeps | with_reducible apply sendMctp_keeps | with_reducible apply updUpdate_keeps | with_reducible apply complete_keeps | intro _ | with_reducible apply Keeps.ite | simp only [Keeps.upd] | dsimp only | split)

theorem execCancelUpdate_keeps {s0 : State} (bd : MctpBinding) (s : State) (hk : Keeps s0 s) : KeepsO s0 (execCancelUpdate bd s) := by
  unfold execCancelUpdate
  repeat (first | with_reducible assumption | with_reducible apply KeepsO.next | with_reducible apply KeepsO.ite | with_reducible apply serveMctp_keeps | with_reducible apply pldmReply_keeps | with_reducible apply stopUpdate_keeps | intro _ | with_reducible apply Keeps.ite | simp only [Keeps.upd] | dsimp only | split)

theorem execActivateFirmware_keeps {s0 : State} (bd : MctpBinding) (s : State) (hk : Keeps s0 s) : KeepsO s0 (execActivateFirmware bd s) := by
  unfold execActivateFirmware
  repeat (first | with_reducible assumption | with_reducible apply KeepsO.next | with_reducible apply KeepsO.ite | with_reducible apply serveMctp_keeps | with_reducible apply complete_keeps | with_reducible apply updUpdate_keeps | with_reducible apply pldmReply_keeps | intro _ | with_reducible apply Keeps.ite | simp only [Keeps.upd] | dsimp only | split)

theorem execActivationWarmReset_keeps {s0 : State} (s : State) (hk : Keeps s0 s) : KeepsO s0 (execActivationWarmReset s) := by
  unfold execActivationWarmReset
  repeat (first | with_reducible assumption | with_reducible apply KeepsO.next | with_reducible apply KeepsO.ite | with_reducible apply warmPlain_keeps | intro _ | with_reducible apply Keeps.ite | simp only [Keeps.upd] | dsimp only | split)

theorem hearPair_keeps {s0 t : State} {hd : PairHead} {b msg : Bytes} {kind : Nat} {s : State} (e : hearPair msg kind s = some (hd, b, t)) (h : Keeps s0 s) : Keeps s0 t := by
  unfold hearPair at e
  (try dsimp only at e)
  repeat' split at e
  all_goals (try cases e)
  all_goals repeat (first | with_reducible assumption | intro _ | with_reducible apply Keeps.ite | simp only [Keeps.upd] | dsimp only | split)

theorem clearPair_keeps {s0 : State} (s : State) (hk : Keeps s0 s) : Keeps s0 (clearPair s) := by
  unfold clearPair
  repeat (first | with_reducible assumption | with_reducible apply eachOf_keeps | with_reducible apply settleReleased_keeps | with_reducible apply updSb_keeps | intro _ | with_reducible apply Keeps.ite | simp only [Keeps.upd] | dsimp only | split)

theorem fullSnapshots_keeps {s0 : State} (s : State) (hk : Keeps s0 s) : Keeps s0 (fullSnapshots s) := by
  unfold fullSnapshots
  repeat (first | with_reducible assumption | with_reducible apply eachOf_keeps | with_reducible apply sendSnapshot_keeps | intro _ | with_reducible apply Keeps.ite | simp only [Keeps.upd] | dsimp only | split)

theorem uncoverAll_keeps {s0 : State} (s : State) (hk : Keeps s0 s) : Keeps s0 (uncoverAll s) := by
  unfold uncoverAll
  repeat (first | with_reducible assumption | with_reducible apply eachOf_keeps | with_reducible apply uncover_keeps | intro _ | with_reducible apply Keeps.ite | simp only [Keeps.upd] | dsimp only | split)

theorem depose_keeps {s0 : State} (cause : Nat) (s : State) (hk : Keeps s0 s) : Keeps s0 (depose cause s) := by
  unfold depose
  repeat (first | with_reducible assumption | with_reducible apply cntDev_keeps | with_reducible apply setSb_keeps | with_reducible apply eachOf_keeps | with_reducible apply updSb_keeps | with_reducible apply sendPair_keeps | with_reducible apply resetPartition_keeps | intro _ | with_reducible apply Keeps.ite | simp only [Keeps.upd] | dsimp only | split)

theorem execPairHelloSend_keeps {s0 : State} (s : State) (hk : Keeps s0 s) : KeepsO s0 (execPairHelloSend s) := by
  unfold execPairHelloSend
  repeat (first | with_reducible assumption | with_reducible apply KeepsO.next | with_reducible apply KeepsO.ite | with_reducible apply pairHello_keeps | intro _ | with_reducible apply Keeps.ite | simp only [Keeps.upd] | dsimp only | split)

theorem execPairHelloReceive_keeps {s0 : State} (msg : Bytes) (s : State) (hk : Keeps s0 s) : KeepsO s0 (execPairHelloReceive msg s) := by
  unfold execPairHelloReceive
  repeat (first | with_reducible assumption | with_reducible apply KeepsO.next | with_reducible apply KeepsO.ite | with_reducible refine hearPair_keeps (by with_reducible assumption) ?_ | with_reducible apply recordAll_keeps | with_reducible apply setSb_keeps | with_reducible apply clearPair_keeps | with_reducible apply fullSnapshots_keeps | with_reducible apply depose_keeps | with_reducible apply eachOf_keeps | with_reducible apply updSb_keeps | with_reducible apply uncoverAll_keeps | intro _ | with_reducible apply Keeps.ite | simp only [Keeps.upd] | dsimp only | split)

theorem execMirrorReceive_keeps {s0 : State} (msg : Bytes) (s : State) (hk : Keeps s0 s) : KeepsO s0 (execMirrorReceive msg s) := by
  unfold execMirrorReceive
  repeat (first | with_reducible assumption | with_reducible apply KeepsO.next | with_reducible apply KeepsO.ite | with_reducible refine hearPair_keeps (by with_reducible assumption) ?_ | with_reducible apply updSb_keeps | intro _ | with_reducible apply Keeps.ite | with_reducible apply Keeps.iteSnd | with_reducible apply Keeps.iteFst | simp only [Keeps.upd] | dsimp only | split)

theorem ackSnapshot_keeps {s0 : State} (p : PartId) (epoch flags : Nat) (s : State) (hk : Keeps s0 s) : Keeps s0 (ackSnapshot p epoch flags s) := by
  unfold ackSnapshot
  repeat (first | with_reducible assumption | with_reducible apply sendPair_keeps | intro _ | with_reducible apply Keeps.ite | simp only [Keeps.upd] | dsimp only | split)

theorem refuseSnapshot_keeps {s0 : State} (p : PartId) (s : State) (hk : Keeps s0 s) : Keeps s0 (refuseSnapshot p s) := by
  unfold refuseSnapshot
  repeat (first | with_reducible assumption | with_reducible apply ackSnapshot_keeps | with_reducible apply tornSnapshot_keeps | intro _ | with_reducible apply Keeps.ite | simp only [Keeps.upd] | dsimp only | split)

theorem judgeSnapshot_keeps {s0 : State} (p : PartId) (s : State) (hk : Keeps s0 s) : Keeps s0 (judgeSnapshot p s) := by
  unfold judgeSnapshot
  repeat (first | with_reducible assumption | with_reducible apply refuseSnapshot_keeps | with_reducible apply ackSnapshot_keeps | with_reducible apply updSb_keeps | with_reducible apply Keeps.foldl | intro _ | with_reducible apply Keeps.ite | with_reducible apply Keeps.iteSnd | with_reducible apply Keeps.iteFst | simp only [Keeps.upd] | dsimp only | split)

theorem execSnapReceive_keeps {s0 : State} (msg : Bytes) (s : State) (hk : Keeps s0 s) : KeepsO s0 (execSnapReceive msg s) := by
  unfold execSnapReceive
  repeat (first | with_reducible assumption | with_reducible apply KeepsO.next | with_reducible apply KeepsO.ite | with_reducible refine hearPair_keeps (by with_reducible assumption) ?_ | with_reducible apply refuseSnapshot_keeps | with_reducible apply updSb_keeps | with_reducible apply judgeSnapshot_keeps | intro _ | with_reducible apply Keeps.ite | simp only [Keeps.upd] | dsimp only | split)

theorem execHeartbeatSnapshot_keeps {s0 : State} (p : PartId) (s : State) (hk : Keeps s0 s) : KeepsO s0 (execHeartbeatSnapshot p s) := by
  unfold execHeartbeatSnapshot
  repeat (first | with_reducible assumption | with_reducible apply KeepsO.next | with_reducible apply KeepsO.ite | with_reducible apply sendSnapshot_keeps | intro _ | with_reducible apply Keeps.ite | simp only [Keeps.upd] | dsimp only | split)

theorem execPairAckReceive_keeps {s0 : State} (msg : Bytes) (s : State) (hk : Keeps s0 s) : KeepsO s0 (execPairAckReceive msg s) := by
  unfold execPairAckReceive
  repeat (first | with_reducible assumption | with_reducible apply KeepsO.next | with_reducible apply KeepsO.ite | with_reducible refine hearPair_keeps (by with_reducible assumption) ?_ | with_reducible apply sendSnapshot_keeps | with_reducible apply uncover_keeps | with_reducible apply updSb_keeps | with_reducible apply issueWhile_keeps | intro _ | with_reducible apply Keeps.ite | with_reducible apply Keeps.iteSnd | with_reducible apply Keeps.iteFst | simp only [Keeps.upd] | dsimp only | split)

theorem execAckSilence_keeps {s0 : State} (s : State) (hk : Keeps s0 s) : KeepsO s0 (execAckSilence s) := by
  unfold execAckSilence
  repeat (first | with_reducible assumption | with_reducible apply KeepsO.next | with_reducible apply KeepsO.ite | with_reducible apply depose_keeps | with_reducible apply uncoverAll_keeps | with_reducible apply Keeps.bumpFree | with_reducible apply Keeps.freeUp | intro _ | with_reducible apply Keeps.ite | simp only [Keeps.upd] | dsimp only | split)

theorem sendOverTether_keeps {s0 : State} (pl : PlaneId) (d : DevId) (h : PairHead) (s : State) (hk : Keeps s0 s) : Keeps s0 (sendOverTether pl d h s) := by
  unfold sendOverTether
  repeat (first | with_reducible assumption | with_reducible refine sendTether_keeps (by with_reducible assumption) ?_ | with_reducible apply emit_keeps | intro _ | with_reducible apply Keeps.ite | simp only [Keeps.upd] | dsimp only | split)

theorem execDeposedReceive_keeps {s0 : State} (msg : Bytes) (s : State) (hk : Keeps s0 s) : KeepsO s0 (execDeposedReceive msg s) := by
  unfold execDeposedReceive
  repeat (first | with_reducible assumption | with_reducible apply KeepsO.next | with_reducible apply KeepsO.ite | with_reducible refine hearPair_keeps (by with_reducible assumption) ?_ | with_reducible apply failover_keeps | intro _ | with_reducible apply Keeps.ite | simp only [Keeps.upd] | dsimp only | split)

theorem execStandbySilence_keeps {s0 : State} (s : State) (hk : Keeps s0 s) : KeepsO s0 (execStandbySilence s) := by
  unfold execStandbySilence
  repeat (first | with_reducible assumption | with_reducible apply KeepsO.next | with_reducible apply KeepsO.ite | with_reducible apply setSb_keeps | with_reducible apply eachOf_keeps | with_reducible apply sendOverTether_keeps | intro _ | with_reducible apply Keeps.ite | simp only [Keeps.upd] | dsimp only | split)

theorem execPairProbeReceive_keeps {s0 : State} (pl : PlaneId) (msg : Bytes) (s : State) (hk : Keeps s0 s) : KeepsO s0 (execPairProbeReceive pl msg s) := by
  unfold execPairProbeReceive
  repeat (first | with_reducible assumption | with_reducible apply KeepsO.next | with_reducible apply KeepsO.ite | with_reducible apply sendOverTether_keeps | intro _ | with_reducible apply Keeps.ite | simp only [Keeps.upd] | dsimp only | split)

theorem standDown_keeps {s0 : State} (s : State) (hk : Keeps s0 s) : Keeps s0 (standDown s) := by
  unfold standDown
  repeat (first | with_reducible assumption | with_reducible apply eachOf_keeps | with_reducible apply updSb_keeps | with_reducible apply setSb_keeps | intro _ | with_reducible apply Keeps.ite | simp only [Keeps.upd] | dsimp only | split)

theorem execPairProbeAckReceive_keeps {s0 : State} (_pl : PlaneId) (msg : Bytes) (s : State) (hk : Keeps s0 s) : KeepsO s0 (execPairProbeAckReceive _pl msg s) := by
  unfold execPairProbeAckReceive
  repeat (first | with_reducible assumption | with_reducible apply KeepsO.next | with_reducible apply KeepsO.ite | with_reducible apply failover_keeps | with_reducible apply standDown_keeps | intro _ | with_reducible apply Keeps.ite | simp only [Keeps.upd] | dsimp only | split)

theorem execWitnessQReceive_keeps {s0 : State} (pl : PlaneId) (src : DevId) (msg : Bytes) (s : State) (hk : Keeps s0 s) : KeepsO s0 (execWitnessQReceive pl src msg s) := by
  unfold execWitnessQReceive
  repeat (first | with_reducible assumption | with_reducible apply KeepsO.next | with_reducible apply KeepsO.ite | with_reducible apply sendOverTether_keeps | intro _ | with_reducible apply Keeps.ite | simp only [Keeps.upd] | dsimp only | split)

theorem execWitnessAReceive_keeps {s0 : State} (_pl : PlaneId) (msg : Bytes) (s : State) (hk : Keeps s0 s) : KeepsO s0 (execWitnessAReceive _pl msg s) := by
  unfold execWitnessAReceive
  repeat (first | with_reducible assumption | with_reducible apply KeepsO.next | with_reducible apply KeepsO.ite | with_reducible apply standDown_keeps | intro _ | with_reducible apply Keeps.ite | simp only [Keeps.upd] | dsimp only | split)

theorem execTakeoverDecision_keeps {s0 : State} (s : State) (hk : Keeps s0 s) : KeepsO s0 (execTakeoverDecision s) := by
  unfold execTakeoverDecision
  repeat (first | with_reducible assumption | with_reducible apply KeepsO.next | with_reducible apply KeepsO.ite | with_reducible apply setSb_keeps | with_reducible apply failover_keeps | intro _ | with_reducible apply Keeps.ite | simp only [Keeps.upd] | dsimp only | split)

theorem execSbActivate_keeps {s0 : State} (r : Requester) (v : Nat) (s : State) (hk : Keeps s0 s) : KeepsO s0 (execSbActivate r v s) := by
  unfold execSbActivate
  repeat (first | with_reducible assumption | with_reducible apply KeepsO.next | with_reducible apply KeepsO.ite | with_reducible apply clearPair_keeps | with_reducible apply setSb_keeps | with_reducible apply failover_keeps | intro _ | with_reducible apply Keeps.ite | simp only [Keeps.upd] | dsimp only | split)

theorem execSbDepose_keeps {s0 : State} (r : Requester) (v : Nat) (s : State) (hk : Keeps s0 s) : KeepsO s0 (execSbDepose r v s) := by
  unfold execSbDepose
  repeat (first | with_reducible assumption | with_reducible apply KeepsO.next | with_reducible apply KeepsO.ite | with_reducible apply depose_keeps | intro _ | with_reducible apply Keeps.ite | simp only [Keeps.upd] | dsimp only | split)

theorem execSbRejoin_keeps {s0 : State} (r : Requester) (v : Nat) (s : State) (hk : Keeps s0 s) : KeepsO s0 (execSbRejoin r v s) := by
  unfold execSbRejoin
  repeat (first | with_reducible assumption | with_reducible apply KeepsO.next | with_reducible apply KeepsO.ite | with_reducible apply eachOf_keeps | with_reducible apply pump_keeps | with_reducible apply setSb_keeps | intro _ | with_reducible apply Keeps.ite | simp only [Keeps.upd] | dsimp only | split)

theorem seqRun_keeps {s0 : State} (p : PartId) (op : Nat) (ecc : List EccFind) (body : Bytes → State → State) (s : State) (hf : ∀ d t, Keeps s0 t → Keeps s0 (body d t)) (hk : Keeps s0 s) : KeepsO s0 (seqRun p op ecc body s) := by
  unfold seqRun
  refine runCmd_keeps _ _ _ _ _ (fun d t h => ?_) hk
  have hh : Keeps s0 (ecc.foldl (rowFind p (dTag d)) t) := by
    with_reducible apply Keeps.foldl
    · intro x u h; exact rowFind_keeps _ _ _ _ h
    · exact h
  dsimp only
  split
  · exact hf _ _ (seqBusy_keeps _ _ hh)
  · exact hh

theorem execSeqLd_keeps {s0 : State} (p : PartId) (ecc : List EccFind) (s : State) (hk : Keeps s0 s) : KeepsO s0 (execSeqLd p ecc s) := by
  unfold execSeqLd
  repeat (first | with_reducible assumption | with_reducible apply KeepsO.next | with_reducible apply KeepsO.ite | with_reducible apply seqRun_keeps | with_reducible apply seqLd_keeps | intro _ | with_reducible apply Keeps.ite | simp only [Keeps.upd] | dsimp only | split)

theorem execSeqSt_keeps {s0 : State} (p : PartId) (ecc : List EccFind) (s : State) (hk : Keeps s0 s) : KeepsO s0 (execSeqSt p ecc s) := by
  unfold execSeqSt
  repeat (first | with_reducible assumption | with_reducible apply KeepsO.next | with_reducible apply KeepsO.ite | with_reducible apply seqRun_keeps | with_reducible apply seqSt_keeps | intro _ | with_reducible apply Keeps.ite | simp only [Keeps.upd] | dsimp only | split)

theorem execSeqZero_keeps {s0 : State} (p : PartId) (s : State) (hk : Keeps s0 s) : KeepsO s0 (execSeqZero p s) := by
  unfold execSeqZero
  repeat (first | with_reducible assumption | with_reducible apply KeepsO.next | with_reducible apply KeepsO.ite | with_reducible apply seqRun_keeps | with_reducible apply seqZero_keeps | intro _ | with_reducible apply Keeps.ite | simp only [Keeps.upd] | dsimp only | split)

theorem execSeqMma_keeps {s0 : State} (p : PartId) (ecc : List EccFind) (s : State) (hk : Keeps s0 s) : KeepsO s0 (execSeqMma p ecc s) := by
  unfold execSeqMma
  repeat (first | with_reducible assumption | with_reducible apply KeepsO.next | with_reducible apply KeepsO.ite | with_reducible apply seqRun_keeps | with_reducible apply seqMma_keeps | intro _ | with_reducible apply Keeps.ite | simp only [Keeps.upd] | dsimp only | split)

theorem execSeqAct_keeps {s0 : State} (p : PartId) (ecc : List EccFind) (s : State) (hk : Keeps s0 s) : KeepsO s0 (execSeqAct p ecc s) := by
  unfold execSeqAct
  repeat (first | with_reducible assumption | with_reducible apply KeepsO.next | with_reducible apply KeepsO.ite | with_reducible apply seqRun_keeps | with_reducible apply seqAct_keeps | intro _ | with_reducible apply Keeps.ite | simp only [Keeps.upd] | dsimp only | split)

theorem execSeqMul_keeps {s0 : State} (p : PartId) (ecc : List EccFind) (s : State) (hk : Keeps s0 s) : KeepsO s0 (execSeqMul p ecc s) := by
  unfold execSeqMul
  repeat (first | with_reducible assumption | with_reducible apply KeepsO.next | with_reducible apply KeepsO.ite | with_reducible apply seqRun_keeps | with_reducible apply seqMul_keeps | intro _ | with_reducible apply Keeps.ite | simp only [Keeps.upd] | dsimp only | split)

theorem execSeqScale_keeps {s0 : State} (p : PartId) (ecc : List EccFind) (s : State) (hk : Keeps s0 s) : KeepsO s0 (execSeqScale p ecc s) := by
  unfold execSeqScale
  repeat (first | with_reducible assumption | with_reducible apply KeepsO.next | with_reducible apply KeepsO.ite | with_reducible apply seqRun_keeps | with_reducible apply seqScale_keeps | intro _ | with_reducible apply Keeps.ite | simp only [Keeps.upd] | dsimp only | split)

theorem execSeqCvt_keeps {s0 : State} (p : PartId) (ecc : List EccFind) (s : State) (hk : Keeps s0 s) : KeepsO s0 (execSeqCvt p ecc s) := by
  unfold execSeqCvt
  repeat (first | with_reducible assumption | with_reducible apply KeepsO.next | with_reducible apply KeepsO.ite | with_reducible apply seqRun_keeps | with_reducible apply seqCvt_keeps | intro _ | with_reducible apply Keeps.ite | simp only [Keeps.upd] | dsimp only | split)

theorem execSeqExpert_keeps {s0 : State} (p : PartId) (ecc : List EccFind) (s : State) (hk : Keeps s0 s) : KeepsO s0 (execSeqExpert p ecc s) := by
  unfold execSeqExpert
  repeat (first | with_reducible assumption | with_reducible apply KeepsO.next | with_reducible apply KeepsO.ite | with_reducible apply seqRun_keeps | with_reducible apply seqExpert_keeps | intro _ | with_reducible apply Keeps.ite | simp only [Keeps.upd] | dsimp only | split)

theorem passEcc_keeps {s0 : State} (p : PartId) (x : Pass) (ecc : List EccFind) (s : State) (hk : Keeps s0 s) : Keeps s0 (passEcc p x ecc s) := by
  unfold passEcc
  repeat (first | with_reducible assumption | with_reducible apply eccFind_keeps | with_reducible apply eachOf_keeps | with_reducible refine takeFree_keeps (by with_reducible assumption) ?_ | with_reducible apply takeFree_snd_keeps | with_reducible apply updRow_keeps | with_reducible apply Keeps.foldl | intro _ | with_reducible apply Keeps.ite | with_reducible apply Keeps.iteSnd | with_reducible apply Keeps.iteFst | simp only [Keeps.upd] | dsimp only | split)

theorem execPassEnd_keeps {s0 : State} (p : PartId) (ecc : List EccFind) (s : State) (hk : Keeps s0 s) : KeepsO s0 (execPassEnd p ecc s) := by
  unfold execPassEnd
  repeat (first | with_reducible assumption | with_reducible apply KeepsO.next | with_reducible apply KeepsO.ite | with_reducible apply hbmHold_keeps | with_reducible apply drainPart_keeps | with_reducible apply passEnd_keeps | with_reducible apply passEcc_keeps | with_reducible apply hbmGo_keeps | intro _ | with_reducible apply Keeps.ite | simp only [Keeps.upd] | dsimp only | split)

theorem strike_keeps {s0 : State} (s : State) (hk : Keeps s0 s) : Keeps s0 (strike s) := by
  have h := Keeps.bumpFree hk
  unfold strike
  dsimp only
  split
  · exact ⟨h.hbm, h.poison, fun w => tabWf_tabSet _ _ _ _ (h.err w), h.flash, h.syc, h.fuses, h.pending, h.out, h.free⟩
  · exact ⟨h.hbm, h.poison, h.err, h.flash, h.syc, h.fuses, h.pending, h.out, h.free⟩
  · exact h

theorem tick_keeps {s0 : State} (s : State) (hk : Keeps s0 s) : Keeps s0 (tick s) := by
  unfold tick
  repeat (first | with_reducible assumption | with_reducible apply strike_keeps | with_reducible apply eachOf_keeps | with_reducible apply cntPart64_keeps | intro _ | with_reducible apply Keeps.ite | simp only [Keeps.upd] | dsimp only | split)

end Sys2Proof.Laws
end

