-- ==== Sys2Proof/Laws/Roles1.lean ====
section
/-!
SUPPORT. Roles1.lean: the relation itself, then what leaves clusters and roles alone, one lemma per operation, in the order of the definitions (1 of 4).
Roles s t: clusters, pair role, Dual-Line, BIST and processor debug are those of s.
-/
set_option linter.all false
namespace Sys2Proof.Laws
open Sys2Proof Sys2Proof.Machine Sys2Proof.Safety

structure Roles (s t : State) : Prop where
  sram : s.sramErr = [] → t.sramErr = []
  clusters : s.sramErr = [] → t.clusters = s.clusters
  pair : s.sramErr = [] → t.pair = s.pair
  dual : s.sramErr = [] → t.dual = s.dual
  bist : s.sramErr = [] → t.bist = s.bist
  mp : s.sramErr = [] → t.mp = s.mp

theorem Roles.refl (s : State) : Roles s s := ⟨id, fun _ => rfl, fun _ => rfl, fun _ => rfl, fun _ => rfl, fun _ => rfl⟩

theorem Roles.upd {s0 X : State} (xe x0 x1 x2 x3 x4 x5 x6 x7 x8 x9 x10 x11 x12 x13 x14 x15 x16 x17 x18 x19 x20 x21 x22 x23 x24 x25 x26 x27 x28 x29) :
    Roles s0 {
      boot := x0
      pins := x1
      fuses := x2
      flash := x3
      cfg := x4
      img := x5
      time := x6
      commit := x7
      ports := x8
      parts := x9
      syc := x10
      hbm := x11
      hbmPoison := x12
      hbmErr := xe
      sramErr := X.sramErr
      links := x13
      bridle := x14
      planes := x15
      tether := x16
      net := x17
      col := x18
      clusters := X.clusters
      power := x19
      pair := X.pair
      dual := X.dual
      sec := x20
      bist := X.bist
      mgt := x21
      mp := X.mp
      mgtRing := x22
      errSelect := x23
      regs := x24
      latches := x25
      snaps := x26
      free := x27
      out := x28
      pending := x29 } ↔ Roles s0 X :=
  ⟨fun h => ⟨h.sram, h.clusters, h.pair, h.dual, h.bist, h.mp⟩, fun h => ⟨h.sram, h.clusters, h.pair, h.dual, h.bist, h.mp⟩⟩

theorem Roles.sramFilter {s0 s : State} (g : PartId × EccFind → Bool) (h : Roles s0 s) : Roles s0 { s with sramErr := s.sramErr.filter g } :=
  ⟨fun n => by rw [h.sram n]; rfl, h.clusters, h.pair, h.dual, h.bist, h.mp⟩

/-- With no error standing in SRAM, none is met. -/
theorem Roles.sramFold {s0 s u : State} (hs : Roles s0 s) (hu : Roles s0 u) (g : PartId × EccFind → Bool) (f : State → PartId × EccFind → State) :
    Roles s0 ((s.sramErr.filter g).foldl f u) := by
  have e : s0.sramErr = [] → (s.sramErr.filter g).foldl f u = u := fun n => by rw [hs.sram n]; rfl
  exact ⟨fun n => by rw [e n]; exact hu.sram n, fun n => by rw [e n]; exact hu.clusters n, fun n => by rw [e n]; exact hu.pair n, fun n => by rw [e n]; exact hu.dual n, fun n => by rw [e n]; exact hu.bist n, fun n => by rw [e n]; exact hu.mp n⟩

theorem Roles.ite {s0 : State} {c : Prop} [Decidable c] {a b : State} (ha : Roles s0 a) (hb : Roles s0 b) : Roles s0 (if c then a else b) := by
  split <;> assumption

theorem Roles.foldl {α : Type} {s0 : State} (f : State → α → State) (hf : ∀ s x, Roles s0 s → Roles s0 (f s x)) :
    ∀ (l : List α) (s : State), Roles s0 s → Roles s0 (l.foldl f s)
  | [], _, h => h
  | x :: l, s, h => Roles.foldl f hf l (f s x) (hf s x h)


theorem Roles.iteSnd {α : Type} {s0 : State} {c : Prop} [Decidable c] {a b : α × State} (ha : Roles s0 a.2) (hb : Roles s0 b.2) :
    Roles s0 (if c then a else b).2 := by
  split <;> assumption

theorem Roles.iteFst {α : Type} {s0 : State} {c : Prop} [Decidable c] {a b : State × α} (ha : Roles s0 a.1) (hb : Roles s0 b.1) :
    Roles s0 (if c then a else b).1 := by
  split <;> assumption

/-- The same for what a command answers. -/
def RolesO (s0 : State) : Out → Prop
  | .next t => Roles s0 t
  | _ => True

theorem RolesO.next {s0 t : State} (h : Roles s0 t) : RolesO s0 (.next t) := h

theorem RolesO.ite {s0 : State} {c : Prop} [Decidable c] {a b : Out} (ha : RolesO s0 a) (hb : RolesO s0 b) : RolesO s0 (if c then a else b) := by
  split <;> assumption

theorem updPart_roles {s0 : State} (s : State) (p : PartId) (f : Part → Part) (hk : Roles s0 s) : Roles s0 (updPart s p f) := by
  unfold updPart
  repeat (first | with_reducible assumption | intro _ | with_reducible apply Roles.ite | simp only [Roles.upd] | dsimp only | split)

theorem updPort_roles {s0 : State} (s : State) (k : PortId) (f : Port → Port) (hk : Roles s0 s) : Roles s0 (updPort s k f) := by
  unfold updPort
  repeat (first | with_reducible assumption | intro _ | with_reducible apply Roles.ite | simp only [Roles.upd] | dsimp only | split)

theorem updLink_roles {s0 : State} (s : State) (l : LinkId) (f : Link → Link) (hk : Roles s0 s) : Roles s0 (updLink s l f) := by
  unfold updLink
  repeat (first | with_reducible assumption | intro _ | with_reducible apply Roles.ite | simp only [Roles.upd] | dsimp only | split)

theorem updPlane_roles {s0 : State} (s : State) (p : PlaneId) (f : Plane → Plane) (hk : Roles s0 s) : Roles s0 (updPlane s p f) := by
  unfold updPlane
  repeat (first | with_reducible assumption | intro _ | with_reducible apply Roles.ite | simp only [Roles.upd] | dsimp only | split)

theorem updStream_roles {s0 : State} (s : State) (p : PartId) (st : StreamId) (f : Stream → Stream) (hk : Roles s0 s) : Roles s0 (updStream s p st f) := by
  unfold updStream
  repeat (first | with_reducible assumption | with_reducible apply updPart_roles | intro _ | with_reducible apply Roles.ite | simp only [Roles.upd] | dsimp only | split)

theorem updJob_roles {s0 : State} (s : State) (p : PartId) (f : Job → Job) (hk : Roles s0 s) : Roles s0 (updJob s p f) := by
  unfold updJob
  repeat (first | with_reducible assumption | with_reducible apply updPart_roles | intro _ | with_reducible apply Roles.ite | simp only [Roles.upd] | dsimp only | split)

theorem eachOf_roles {s0 : State} {α : Type} (f : α → State → State) (hf : ∀ x s, Roles s0 s → Roles s0 (f x s)) (l : List α)
    (s : State) (h : Roles s0 s) : Roles s0 (eachOf l f s) :=
  Roles.foldl (fun a x => f x a) (fun s x => hf x s) l s h

theorem emit_roles {s0 : State} (e : Emit) (s : State) (hk : Roles s0 s) : Roles s0 (emit e s) := by
  unfold emit
  repeat (first | with_reducible assumption | intro _ | with_reducible apply Roles.ite | simp only [Roles.upd] | dsimp only | split)

theorem takeFree_roles {s0 t : State} {v : Nat} {s : State} (e : takeFree s = (v, t)) (hk : Roles s0 s) : Roles s0 t := by
  unfold takeFree at e
  (try dsimp only at e)
  repeat' split at e
  all_goals (try cases e)
  all_goals repeat (first | with_reducible assumption | intro _ | with_reducible apply Roles.ite | simp only [Roles.upd] | dsimp only | split)

theorem takeFree_snd_roles {s0 : State} (s : State) (hk : Roles s0 s) : Roles s0 (takeFree s).2 :=
  takeFree_roles (Prod.eta _).symm hk

theorem cntPart_roles {s0 : State} (off n : Nat) (p : PartId) (s : State) (hk : Roles s0 s) : Roles s0 (cntPart off n p s) := by
  unfold cntPart
  repeat (first | with_reducible assumption | with_reducible apply updPart_roles | intro _ | with_reducible apply Roles.ite | simp only [Roles.upd] | dsimp only | split)

theorem cntPart64_roles {s0 : State} (off n : Nat) (p : PartId) (s : State) (hk : Roles s0 s) : Roles s0 (cntPart64 off n p s) := by
  unfold cntPart64
  repeat (first | with_reducible assumption | with_reducible apply updPart_roles | intro _ | with_reducible apply Roles.ite | simp only [Roles.upd] | dsimp only | split)

theorem cntPort_roles {s0 : State} (off n : Nat) (k : PortId) (s : State) (hk : Roles s0 s) : Roles s0 (cntPort off n k s) := by
  unfold cntPort
  repeat (first | with_reducible assumption | with_reducible apply updPort_roles | intro _ | with_reducible apply Roles.ite | simp only [Roles.upd] | dsimp only | split)

theorem cntDev_roles {s0 : State} (off n : Nat) (s : State) (hk : Roles s0 s) : Roles s0 (cntDev off n s) := by
  unfold cntDev
  repeat (first | with_reducible assumption | intro _ | with_reducible apply Roles.ite | simp only [Roles.upd] | dsimp only | split)

theorem cntBridle_roles {s0 : State} (off n : Nat) (s : State) (hk : Roles s0 s) : Roles s0 (cntBridle off n s) := by
  unfold cntBridle
  repeat (first | with_reducible assumption | intro _ | with_reducible apply Roles.ite | simp only [Roles.upd] | dsimp only | split)

theorem cntTether_roles {s0 : State} (off n : Nat) (s : State) (hk : Roles s0 s) : Roles s0 (cntTether off n s) := by
  unfold cntTether
  repeat (first | with_reducible assumption | intro _ | with_reducible apply Roles.ite | simp only [Roles.upd] | dsimp only | split)

theorem cntLink_roles {s0 : State} (off n : Nat) (l : LinkId) (s : State) (hk : Roles s0 s) : Roles s0 (cntLink off n l s) := by
  unfold cntLink
  repeat (first | with_reducible assumption | with_reducible apply updLink_roles | intro _ | with_reducible apply Roles.ite | simp only [Roles.upd] | dsimp only | split)

theorem cntPlane_roles {s0 : State} (off n : Nat) (l : PlaneId) (s : State) (hk : Roles s0 s) : Roles s0 (cntPlane off n l s) := by
  unfold cntPlane
  repeat (first | with_reducible assumption | with_reducible apply updPlane_roles | intro _ | with_reducible apply Roles.ite | simp only [Roles.upd] | dsimp only | split)

theorem cntPower_roles {s0 : State} (off n : Nat) (s : State) (hk : Roles s0 s) : Roles s0 (cntPower off n s) := by
  unfold cntPower
  repeat (first | with_reducible assumption | intro _ | with_reducible apply Roles.ite | simp only [Roles.upd] | dsimp only | split)

theorem setRegPart_roles {s0 : State} (off v : Nat) (p : PartId) (s : State) (hk : Roles s0 s) : Roles s0 (setRegPart off v p s) := by
  unfold setRegPart
  repeat (first | with_reducible assumption | with_reducible apply updPart_roles | intro _ | with_reducible apply Roles.ite | simp only [Roles.upd] | dsimp only | split)

theorem mgtEvent_roles {s0 : State} (ev unit arg : Nat) (s : State) (hk : Roles s0 s) : Roles s0 (mgtEvent ev unit arg s) := by
  unfold mgtEvent
  repeat (first | with_reducible assumption | with_reducible apply cntDev_roles | with_reducible apply emit_roles | intro _ | with_reducible apply Roles.ite | simp only [Roles.upd] | dsimp only | split)

theorem hbmWrite_roles {s0 : State} (a : Nat) (b : Bytes) (s : State) (hk : Roles s0 s) : Roles s0 (hbmWrite a b s) := by
  unfold hbmWrite
  repeat (first | with_reducible assumption | intro _ | with_reducible apply Roles.ite | simp only [Roles.upd] | dsimp only | split)

theorem settleRegs_roles {s0 : State} (s : State) (hk : Roles s0 s) : Roles s0 (settleRegs s) := by
  unfold settleRegs
  repeat (first | with_reducible assumption | intro _ | with_reducible apply Roles.ite | simp only [Roles.upd] | dsimp only | split)

theorem charge_roles {s0 : State} (p : PartId) (i : Fin 4) (n : Nat) (s : State) (hk : Roles s0 s) : Roles s0 (charge p i n s) := by
  unfold charge
  repeat (first | with_reducible assumption | with_reducible apply updPart_roles | intro _ | with_reducible apply Roles.ite | simp only [Roles.upd] | dsimp only | split)

theorem stall_roles {s0 : State} (p : PartId) (i : Fin 4) (s : State) (hk : Roles s0 s) : Roles s0 (stall p i s) := by
  unfold stall
  repeat (first | with_reducible assumption | with_reducible apply cntPart_roles | with_reducible apply updPart_roles | intro _ | with_reducible apply Roles.ite | simp only [Roles.upd] | dsimp only | split)

theorem hbmHold_roles {s0 : State} (p : PartId) (i : Nat) (s : State) (hk : Roles s0 s) : Roles s0 (hbmHold p i s) := by
  unfold hbmHold
  repeat (first | with_reducible assumption | with_reducible apply stall_roles | with_reducible apply updPart_roles | intro _ | with_reducible apply Roles.ite | simp only [Roles.upd] | dsimp only | split)

theorem hbmGo_roles {s0 : State} (p : PartId) (i : Nat) (s : State) (hk : Roles s0 s) : Roles s0 (hbmGo p i s) := by
  unfold hbmGo
  repeat (first | with_reducible assumption | with_reducible apply updPart_roles | intro _ | with_reducible apply Roles.ite | simp only [Roles.upd] | dsimp only | split)

theorem noteWaits_roles {s0 : State} (p : PartId) (s : State) (hk : Roles s0 s) : Roles s0 (noteWaits p s) := by
  unfold noteWaits
  repeat (first | with_reducible assumption | with_reducible apply updPart_roles | intro _ | with_reducible apply Roles.ite | simp only [Roles.upd] | dsimp only | split)

theorem setPend_roles {s0 : State} (k : PortId) (v : Nat) (s : State) (hk : Roles s0 s) : Roles s0 (setPend k v s) := by
  unfold setPend
  repeat (first | with_reducible assumption | with_reducible apply updPort_roles | intro _ | with_reducible apply Roles.ite | simp only [Roles.upd] | dsimp only | split)

theorem issueOne_roles {s0 t : State} {k : PortId} {r : DmaReq} {s : State} (e : issueOne k r s = some t) (hk : Roles s0 s) : Roles s0 t := by
  unfold issueOne at e
  (try dsimp only at e)
  repeat' split at e
  all_goals (try cases e)
  all_goals repeat (first | with_reducible assumption | with_reducible apply updPort_roles | with_reducible apply charge_roles | with_reducible apply emit_roles | with_reducible apply setPend_roles | intro _ | with_reducible apply Roles.ite | simp only [Roles.upd] | dsimp only | split)

theorem pumpList_roles {s0 : State} (k : PortId) : ∀ (x0 : List DmaReq) (s : State), Roles s0 s → Roles s0 (pumpList k x0 s)
  | [], s, h => by
    unfold pumpList
    repeat (first | with_reducible assumption | with_reducible apply updPort_roles | with_reducible refine issueOne_roles (by with_reducible assumption) ?_ | with_reducible apply stall_roles | intro _ | with_reducible apply Roles.ite | simp only [Roles.upd] | dsimp only | split)
  | r :: rs, s, h => by
    unfold pumpList
    repeat (first | with_reducible assumption | with_reducible apply pumpList_roles | with_reducible apply updPort_roles | with_reducible refine issueOne_roles (by with_reducible assumption) ?_ | with_reducible apply stall_roles | intro _ | with_reducible apply Roles.ite | simp only [Roles.upd] | dsimp only | split)

theorem pump_roles {s0 : State} (k : PortId) (s : State) (hk : Roles s0 s) : Roles s0 (pump k s) := by
  unfold pump
  repeat (first | with_reducible assumption | with_reducible apply pumpList_roles | with_reducible apply noteWaits_roles | intro _ | with_reducible apply Roles.ite | simp only [Roles.upd] | dsimp only | split)

theorem dmaPush_roles {s0 : State} (k : PortId) (rs : List DmaReq) (s : State) (hk : Roles s0 s) : Roles s0 (dmaPush k rs s) := by
  unfold dmaPush
  repeat (first | with_reducible assumption | with_reducible apply pump_roles | with_reducible apply updPort_roles | intro _ | with_reducible apply Roles.ite | simp only [Roles.upd] | dsimp only | split)

theorem wakeEvent_roles {s0 : State} (k : PortId) (cause : Nat) (s : State) (hk : Roles s0 s) : Roles s0 (wakeEvent k cause s) := by
  unfold wakeEvent
  repeat (first | with_reducible assumption | with_reducible apply updPort_roles | intro _ | with_reducible apply Roles.ite | simp only [Roles.upd] | dsimp only | split)

theorem msix_roles {s0 : State} (k : PortId) (v : Nat) (s : State) (hk : Roles s0 s) : Roles s0 (msix k v s) := by
  unfold msix
  repeat (first | with_reducible assumption | with_reducible apply setPend_roles | with_reducible apply wakeEvent_roles | with_reducible apply dmaPush_roles | intro _ | with_reducible apply Roles.ite | simp only [Roles.upd] | dsimp only | split)

theorem msixPart_roles {s0 : State} (p : PartId) (v : Nat) (s : State) (hk : Roles s0 s) : Roles s0 (msixPart p v s) := by
  unfold msixPart
  repeat (first | with_reducible assumption | with_reducible apply msix_roles | intro _ | with_reducible apply Roles.ite | simp only [Roles.upd] | dsimp only | split)

theorem traceGen_roles {s0 : State} (p : PartId) (r : TraceRec) (s : State) (hk : Roles s0 s) : Roles s0 (traceGen p r s) := by
  unfold traceGen
  repeat (first | with_reducible assumption | with_reducible apply cntPart_roles | with_reducible apply updPart_roles | intro _ | with_reducible apply Roles.ite | simp only [Roles.upd] | dsimp only | split)

theorem traceCmd_roles {s0 : State} (p : PartId) (st : StreamId) (desc : Bytes) (kind : TraceKind) (detail : Nat) (s : State) (hk : Roles s0 s) : Roles s0 (traceCmd p st desc kind detail s) := by
  unfold traceCmd
  repeat (first | with_reducible assumption | with_reducible apply traceGen_roles | intro _ | with_reducible apply Roles.ite | simp only [Roles.upd] | dsimp only | split)

theorem mgtRecord_roles {s0 : State} (r : ErrRec) (s : State) (hk : Roles s0 s) : Roles s0 (mgtRecord r s) := by
  unfold mgtRecord
  repeat (first | with_reducible assumption | with_reducible apply cntDev_roles | with_reducible apply mgtEvent_roles | intro _ | with_reducible apply Roles.ite | simp only [Roles.upd] | dsimp only | split)

theorem partRecord_roles {s0 : State} (p : PartId) (r : ErrRec) (s : State) (hk : Roles s0 s) : Roles s0 (partRecord p r s) := by
  unfold partRecord
  repeat (first | with_reducible assumption | with_reducible apply cntPart_roles | with_reducible apply updPart_roles | with_reducible apply wakeEvent_roles | with_reducible apply dmaPush_roles | with_reducible apply msixPart_roles | intro _ | with_reducible apply Roles.ite | simp only [Roles.upd] | dsimp only | split)

theorem record_roles {s0 : State} (p : PartId) (r : ErrRec) (s : State) (hk : Roles s0 s) : Roles s0 (record p r s) := by
  unfold record
  repeat (first | with_reducible assumption | with_reducible apply partRecord_roles | with_reducible apply updPart_roles | intro _ | with_reducible apply Roles.ite | simp only [Roles.upd] | dsimp only | split)

theorem recordAll_roles {s0 : State} (r : ErrRec) (s : State) (hk : Roles s0 s) : Roles s0 (recordAll r s) := by
  unfold recordAll
  repeat (first | with_reducible assumption | with_reducible apply eachOf_roles | with_reducible apply record_roles | intro _ | with_reducible apply Roles.ite | simp only [Roles.upd] | dsimp only | split)

theorem recordLink_roles {s0 : State} (r : ErrRec) (s : State) (hk : Roles s0 s) : Roles s0 (recordLink r s) := by
  unfold recordLink
  repeat (first | with_reducible assumption | with_reducible apply mgtRecord_roles | with_reducible apply recordAll_roles | intro _ | with_reducible apply Roles.ite | simp only [Roles.upd] | dsimp only | split)

theorem updPeer_roles {s0 : State} (d : DevId) (f : Peer → Peer) (s : State) (hk : Roles s0 s) : Roles s0 (updPeer d f s) := by
  unfold updPeer
  repeat (first | with_reducible assumption | intro _ | with_reducible apply Roles.ite | simp only [Roles.upd] | dsimp only | split)

theorem updFlow_roles {s0 : State} (d : DevId) (p : Nat) (f : Flow → Flow) (s : State) (hk : Roles s0 s) : Roles s0 (updFlow d p f s) := by
  unfold updFlow
  repeat (first | with_reducible assumption | intro _ | with_reducible apply Roles.ite | simp only [Roles.upd] | dsimp only | split)

theorem rawFlit_roles {s0 : State} (l : LinkId) (h : FlitHead) (payload : Bytes) (last : Option (DevId × Option DevId × Nat × Bytes)) (s : State) (hk : Roles s0 s) : Roles s0 (rawFlit l h payload last s) := by
  unfold rawFlit
  repeat (first | with_reducible assumption | with_reducible apply emit_roles | with_reducible apply updLink_roles | intro _ | with_reducible apply Roles.ite | simp only [Roles.upd] | dsimp only | split)

theorem seqFlit_roles {s0 : State} (l : LinkId) (h : FlitHead) (payload : Bytes) (last : Option (DevId × Option DevId × Nat × Bytes)) (s : State) (hk : Roles s0 s) : Roles s0 (seqFlit l h payload last s) := by
  unfold seqFlit
  repeat (first | with_reducible assumption | with_reducible apply rawFlit_roles | with_reducible apply updLink_roles | intro _ | with_reducible apply Roles.ite | simp only [Roles.upd] | dsimp only | split)

theorem otherFlit_roles {s0 : State} (l : LinkId) (type : Nat) (payload : Bytes) (s : State) (hk : Roles s0 s) : Roles s0 (otherFlit l type payload s) := by
  unfold otherFlit
  repeat (first | with_reducible assumption | with_reducible apply seqFlit_roles | with_reducible apply updLink_roles | intro _ | with_reducible apply Roles.ite | simp only [Roles.upd] | dsimp only | split)

theorem idleFlit_roles {s0 : State} (l : LinkId) (vc part units : Nat) (s : State) (hk : Roles s0 s) : Roles s0 (idleFlit l vc part units s) := by
  unfold idleFlit
  repeat (first | with_reducible assumption | with_reducible apply emit_roles | with_reducible apply updLink_roles | intro _ | with_reducible apply Roles.ite | simp only [Roles.upd] | dsimp only | split)

theorem putOnLink_roles {s0 : State} (l : LinkId) (vc : Nat) (p : PartId) (dst : DevId) (fwd : Option DevId) (fl : Nat) (b : Bytes) (s : State) (hk : Roles s0 s) : Roles s0 (putOnLink l vc p dst fwd fl b s) := by
  unfold putOnLink
  repeat (first | with_reducible assumption | with_reducible apply updLink_roles | with_reducible apply mgtEvent_roles | with_reducible apply emit_roles | with_reducible apply seqFlit_roles | with_reducible apply Roles.foldl | intro _ | with_reducible apply Roles.ite | simp only [Roles.upd] | dsimp only | split)

theorem setCtx_roles {s0 : State} (i : Nat) (c : Option Ctx) (s : State) (hk : Roles s0 s) : Roles s0 (setCtx i c s) := by
  unfold setCtx
  repeat (first | with_reducible assumption | intro _ | with_reducible apply Roles.ite | simp only [Roles.upd] | dsimp only | split)

theorem updCtx_roles {s0 : State} (i : Nat) (f : Ctx → Ctx) (s : State) (hk : Roles s0 s) : Roles s0 (updCtx i f s) := by
  unfold updCtx
  repeat (first | with_reducible assumption | with_reducible apply setCtx_roles | intro _ | with_reducible apply Roles.ite | simp only [Roles.upd] | dsimp only | split)

theorem takePn_roles {s0 t : State} {v : Option Nat} {pl : PlaneId} {s : State} (e : takePn pl s = (v, t)) (hk : Roles s0 s) : Roles s0 t := by
  unfold takePn at e
  (try dsimp only at e)
  repeat' split at e
  all_goals (try cases e)
  all_goals repeat (first | with_reducible assumption | with_reducible apply updPlane_roles | intro _ | with_reducible apply Roles.ite | simp only [Roles.upd] | dsimp only | split)

theorem takePn_snd_roles {s0 : State} (pl : PlaneId) (s : State) (hk : Roles s0 s) : Roles s0 (takePn pl s).2 :=
  takePn_roles (Prod.eta _).symm hk

theorem sendEth_roles {s0 : State} (pl : PlaneId) (m : EthMsg) (s : State) (hk : Roles s0 s) : Roles s0 (sendEth pl m s) := by
  unfold sendEth
  repeat (first | with_reducible assumption | with_reducible refine takePn_roles (by with_reducible assumption) ?_ | with_reducible apply takePn_snd_roles | with_reducible apply emit_roles | intro _ | with_reducible apply Roles.ite | with_reducible apply Roles.iteSnd | with_reducible apply Roles.iteFst | simp only [Roles.upd] | dsimp only | split)

theorem resolveAddr_roles {s0 : State} (pl : PlaneId) (a : Nat) (s : State) (hk : Roles s0 s) : Roles s0 (resolveAddr pl a s) := by
  unfold resolveAddr
  repeat (first | with_reducible assumption | with_reducible apply updPlane_roles | with_reducible apply sendEth_roles | intro _ | with_reducible apply Roles.ite | simp only [Roles.upd] | dsimp only | split)

theorem resolvePeer_roles {s0 : State} (pl : PlaneId) (d : DevId) (s : State) (hk : Roles s0 s) : Roles s0 (resolvePeer pl d s) := by
  unfold resolvePeer
  repeat (first | with_reducible assumption | with_reducible apply resolveAddr_roles | intro _ | with_reducible apply Roles.ite | simp only [Roles.upd] | dsimp only | split)

theorem forgetFailed_roles {s0 : State} (pl : PlaneId) (s : State) (hk : Roles s0 s) : Roles s0 (forgetFailed pl s) := by
  unfold forgetFailed
  repeat (first | with_reducible assumption | with_reducible apply updPlane_roles | intro _ | with_reducible apply Roles.ite | simp only [Roles.upd] | dsimp only | split)

theorem sendDgram_roles {s0 : State} (pl : PlaneId) (d : DevId) (path : Nat) (h : TthHead) (payload : Bytes) (s : State) (hk : Roles s0 s) : Roles s0 (sendDgram pl d path h payload s) := by
  unfold sendDgram
  repeat (first | with_reducible assumption | with_reducible apply resolvePeer_roles | with_reducible refine takePn_roles (by with_reducible assumption) ?_ | with_reducible apply takePn_snd_roles | with_reducible apply emit_roles | intro _ | with_reducible apply Roles.ite | with_reducible apply Roles.iteSnd | with_reducible apply Roles.iteFst | simp only [Roles.upd] | dsimp only | split)

theorem sendHello_roles {s0 : State} (i : Nat) (s : State) (hk : Roles s0 s) : Roles s0 (sendHello i s) := by
  unfold sendHello
  repeat (first | with_reducible assumption | with_reducible apply updCtx_roles | with_reducible apply forgetFailed_roles | with_reducible apply sendDgram_roles | intro _ | with_reducible apply Roles.ite | simp only [Roles.upd] | dsimp only | split)

theorem sendCloseCtx_roles {s0 : State} (c : Ctx) (s : State) (hk : Roles s0 s) : Roles s0 (sendCloseCtx c s) := by
  unfold sendCloseCtx
  repeat (first | with_reducible assumption | with_reducible apply sendDgram_roles | intro _ | with_reducible apply Roles.ite | simp only [Roles.upd] | dsimp only | split)

theorem freeCtx_roles {s0 t : State} {v : Option Nat} {s : State} (e : freeCtx s = (v, t)) (hk : Roles s0 s) : Roles s0 t := by
  unfold freeCtx at e
  (try dsimp only at e)
  repeat' split at e
  all_goals (try cases e)
  all_goals repeat (first | with_reducible assumption | with_reducible apply setCtx_roles | with_reducible apply sendCloseCtx_roles | with_reducible apply Roles.foldl | intro _ | with_reducible apply Roles.ite | with_reducible apply Roles.iteSnd | with_reducible apply Roles.iteFst | simp only [Roles.upd] | dsimp only | split)

theorem freeCtx_snd_roles {s0 : State} (s : State) (hk : Roles s0 s) : Roles s0 (freeCtx s).2 :=
  freeCtx_roles (Prod.eta _).symm hk

theorem sendSegment_roles {s0 : State} (i : Nat) (stream : Fin 4) (ssn off len : Nat) (first last retx : Bool) (pkt : Bytes) (s : State) (hk : Roles s0 s) : Roles s0 (sendSegment i stream ssn off len first last retx pkt s) := by
  unfold sendSegment
  repeat (first | with_reducible assumption | with_reducible apply sendDgram_roles | with_reducible apply charge_roles | with_reducible apply updPlane_roles | intro _ | with_reducible apply Roles.ite | simp only [Roles.upd] | dsimp only | split)

theorem sendCtxPacket_roles {s0 : State} (i flags : Nat) (b : Bytes) (s : State) (hk : Roles s0 s) : Roles s0 (sendCtxPacket i flags b s) := by
  unfold sendCtxPacket
  repeat (first | with_reducible assumption | with_reducible apply updCtx_roles | with_reducible apply sendSegment_roles | with_reducible apply Roles.foldl | intro _ | with_reducible apply Roles.ite | simp only [Roles.upd] | dsimp only | split)

theorem assignSeq_roles {s0 t : State} {v : Bytes} {d : DevId} {p : PartId} {isPiece : Bool} {b : Bytes} {s : State} (e : assignSeq d p isPiece b s = (v, t)) (hk : Roles s0 s) : Roles s0 t := by
  unfold assignSeq at e
  (try dsimp only at e)
  repeat' split at e
  all_goals (try cases e)
  all_goals repeat (first | with_reducible assumption | with_reducible apply updFlow_roles | intro _ | with_reducible apply Roles.ite | simp only [Roles.upd] | dsimp only | split)

theorem assignSeq_snd_roles {s0 : State} (d : DevId) (p : PartId) (isPiece : Bool) (b : Bytes) (s : State) (hk : Roles s0 s) : Roles s0 (assignSeq d p isPiece b s).2 :=
  assignSeq_roles (Prod.eta _).symm hk

theorem arbitrate_roles {s0 t : State} {b : Bid} {res : Nat} {bids : List Bid} {s : State} (e : arbitrate res bids s = some (b, t)) (hk : Roles s0 s) : Roles s0 t := by
  unfold arbitrate at e
  dsimp only at e
  split at e
  · cases e
  · cases e
    simpa only [Roles.upd] using hk

theorem retransmit_roles {s0 : State} (i : Nat) (st : Fin 4) (x : TxSeg) (fast : Bool) (s : State) (hk : Roles s0 s) : Roles s0 (retransmit i st x fast s) := by
  unfold retransmit
  repeat (first | with_reducible assumption | with_reducible apply stall_roles | with_reducible apply setCtx_roles | with_reducible apply sendSegment_roles | with_reducible apply cntPlane_roles | intro _ | with_reducible apply Roles.ite | simp only [Roles.upd] | dsimp only | split)

theorem payRetx_roles {s0 : State} (i : Nat) (s : State) (hk : Roles s0 s) : Roles s0 (payRetx i s) := by
  unfold payRetx
  repeat (first | with_reducible assumption | with_reducible apply retransmit_roles | with_reducible apply setCtx_roles | with_reducible apply Roles.foldl | intro _ | with_reducible apply Roles.ite | simp only [Roles.upd] | dsimp only | split)

theorem sendQueued_roles {s0 : State} (i j : Nat) (s : State) (hk : Roles s0 s) : Roles s0 (sendQueued i j s) := by
  unfold sendQueued
  repeat (first | with_reducible assumption | with_reducible apply setCtx_roles | with_reducible refine assignSeq_roles (by with_reducible assumption) ?_ | with_reducible apply assignSeq_snd_roles | with_reducible apply sendCtxPacket_roles | intro _ | with_reducible apply Roles.ite | with_reducible apply Roles.iteSnd | with_reducible apply Roles.iteFst | simp only [Roles.upd] | dsimp only | split)

theorem nextGrant_roles {s0 t : State} {i j : Nat} {pl : PlaneId} {s : State} (e : nextGrant pl s = some (i, j, t)) (hk : Roles s0 s) : Roles s0 t := by
  unfold nextGrant at e
  dsimp only at e
  split at e
  · cases e; exact hk
  · split at e
    · cases e
    · rename_i b u h
      have hu := arbitrate_roles h hk
      obtain ⟨x, _, hx⟩ := Option.map_eq_some_iff.1 e
      cases hx
      exact hu

theorem grantPlane_roles {s0 : State} (pl : PlaneId) : ∀ (x0 : Nat) (s : State), Roles s0 s → Roles s0 (grantPlane pl x0 s)
  | 0, s, h => by
    unfold grantPlane
    repeat (first | with_reducible assumption | with_reducible refine nextGrant_roles (by with_reducible assumption) ?_ | with_reducible apply sendQueued_roles | intro _ | with_reducible apply Roles.ite | simp only [Roles.upd] | dsimp only | split)
  | n + 1, s, h => by
    unfold grantPlane
    repeat (first | with_reducible assumption | with_reducible apply grantPlane_roles | with_reducible refine nextGrant_roles (by with_reducible assumption) ?_ | with_reducible apply sendQueued_roles | intro _ | with_reducible apply Roles.ite | simp only [Roles.upd] | dsimp only | split)

theorem drainPlane_roles {s0 : State} (pl : PlaneId) (s : State) (hk : Roles s0 s) : Roles s0 (drainPlane pl s) := by
  unfold drainPlane
  repeat (first | with_reducible assumption | with_reducible apply eachOf_roles | with_reducible apply payRetx_roles | with_reducible apply grantPlane_roles | with_reducible apply stall_roles | with_reducible apply Roles.foldl | intro _ | with_reducible apply Roles.ite | with_reducible apply Roles.iteSnd | with_reducible apply Roles.iteFst | simp only [Roles.upd] | dsimp only | split)

theorem drainCtx_roles {s0 : State} (i : Nat) (s : State) (hk : Roles s0 s) : Roles s0 (drainCtx i s) := by
  unfold drainCtx
  repeat (first | with_reducible assumption | with_reducible apply drainPlane_roles | intro _ | with_reducible apply Roles.ite | simp only [Roles.upd] | dsimp only | split)

theorem sendTether_roles {s0 t : State} {pl : PlaneId} {w : Waiting} {s : State} (e : sendTether pl w s = some t) (hk : Roles s0 s) : Roles s0 t := by
  unfold sendTether at e
  (try dsimp only at e)
  repeat' split at e
  all_goals (try cases e)
  all_goals repeat (first | with_reducible assumption | with_reducible apply drainCtx_roles | with_reducible apply updCtx_roles | with_reducible refine freeCtx_roles (by with_reducible assumption) ?_ | with_reducible apply freeCtx_snd_roles | with_reducible apply sendHello_roles | with_reducible apply setCtx_roles | intro _ | with_reducible apply Roles.ite | with_reducible apply Roles.iteSnd | with_reducible apply Roles.iteFst | simp only [Roles.upd] | dsimp only | split)

theorem sendOnLink_roles {s0 : State} (l : LinkId) (vc : Nat) (relayed : Bool) (w : Waiting) (s : State) (hk : Roles s0 s) : Roles s0 (sendOnLink l vc relayed w s) := by
  unfold sendOnLink
  repeat (first | with_reducible assumption | with_reducible refine assignSeq_roles (by with_reducible assumption) ?_ | with_reducible apply assignSeq_snd_roles | with_reducible apply charge_roles | with_reducible apply putOnLink_roles | with_reducible apply emit_roles | intro _ | with_reducible apply Roles.ite | with_reducible apply Roles.iteSnd | with_reducible apply Roles.iteFst | simp only [Roles.upd] | dsimp only | split)

theorem trySend_roles {s0 t : State} {w : Waiting} {s : State} (e : trySend w s = some t) (hk : Roles s0 s) : Roles s0 t := by
  unfold trySend at e
  split at e
  · cases e
  · split at e
    · obtain ⟨x, _, hx⟩ := Option.map_eq_some_iff.1 e
      cases hx
      exact sendOnLink_roles _ _ _ _ _ hk
    · split at e
      · cases e
      · split at e
        · cases e
        · split at e
          · cases e
          · split at e
            · cases e
            · rename_i h
              cases e
              exact emit_roles _ _ (sendTether_roles h (updFlow_roles _ _ _ _ hk))

theorem holdBack_roles {s0 t : State} {v : Waiting} {w : Waiting} {s : State} (e : holdBack w s = (v, t)) (hk : Roles s0 s) : Roles s0 t := by
  unfold holdBack at e
  (try dsimp only at e)
  repeat' split at e
  all_goals (try cases e)
  all_goals repeat (first | with_reducible assumption | with_reducible apply stall_roles | with_reducible refine freeCtx_roles (by with_reducible assumption) ?_ | with_reducible apply freeCtx_snd_roles | with_reducible apply cntTether_roles | intro _ | with_reducible apply Roles.ite | with_reducible apply Roles.iteSnd | with_reducible apply Roles.iteFst | simp only [Roles.upd] | dsimp only | split)

theorem holdBack_snd_roles {s0 : State} (w : Waiting) (s : State) (hk : Roles s0 s) : Roles s0 (holdBack w s).2 :=
  holdBack_roles (Prod.eta _).symm hk

theorem sendAfter_roles {s0 t : State} {l : List Waiting} {w : Waiting} {s : State} (e : sendAfter l w s = some t) (hk : Roles s0 s) : Roles s0 t := by
  unfold sendAfter at e
  (try dsimp only at e)
  repeat' split at e
  all_goals (try cases e)
  all_goals repeat (first | with_reducible assumption | with_reducible refine trySend_roles (by with_reducible assumption) ?_ | intro _ | with_reducible apply Roles.ite | simp only [Roles.upd] | dsimp only | split)

theorem sendTo_roles {s0 : State} (d : DevId) (p : PartId) (flags : Nat) (b : Bytes) (s : State) (hk : Roles s0 s) : Roles s0 (sendTo d p flags b s) := by
  unfold sendTo
  repeat (first | with_reducible assumption | with_reducible refine sendAfter_roles (by with_reducible assumption) ?_ | with_reducible refine holdBack_roles (by with_reducible assumption) ?_ | with_reducible apply holdBack_snd_roles | intro _ | with_reducible apply Roles.ite | with_reducible apply Roles.iteSnd | with_reducible apply Roles.iteFst | simp only [Roles.upd] | dsimp only | split)

theorem tryMsg_roles {s0 t : State} {d : DevId} {b : Bytes} {s : State} (e : tryMsg d b s = some t) (hk : Roles s0 s) : Roles s0 t := by
  unfold tryMsg at e
  split at e
  · obtain ⟨x, _, hx⟩ := Option.map_eq_some_iff.1 e
    cases hx
    exact putOnLink_roles _ _ _ _ _ _ _ _ hk
  · obtain ⟨x, _, hx⟩ := Option.bind_eq_some_iff.1 e
    exact sendTether_roles hx hk

theorem sendMessage_roles {s0 : State} (d : DevId) (b : Bytes) (s : State) (hk : Roles s0 s) : Roles s0 (sendMessage d b s) := by
  unfold sendMessage
  split
  · rename_i h
    split at h
    · cases h
    · exact tryMsg_roles h hk
  · simpa only [Roles.upd] using hk

theorem drainMsgs_roles {s0 : State} (s : State) (hk : Roles s0 s) : Roles s0 (drainMsgs s) := by
  unfold drainMsgs
  repeat (first | with_reducible assumption | with_reducible apply sendMessage_roles | with_reducible apply Roles.foldl | intro _ | with_reducible apply Roles.ite | simp only [Roles.upd] | dsimp only | split)

theorem sendPairLink_roles {s0 : State} (b : Bytes) (s : State) (hk : Roles s0 s) : Roles s0 (sendPairLink b s) := by
  unfold sendPairLink
  repeat (first | with_reducible assumption | with_reducible apply putOnLink_roles | with_reducible apply updLink_roles | intro _ | with_reducible apply Roles.ite | simp only [Roles.upd] | dsimp only | split)

theorem forwardTo_roles {s0 : State} (x : Relayed) (s : State) (hk : Roles s0 s) : Roles s0 (forwardTo x s) := by
  unfold forwardTo
  repeat (first | with_reducible assumption | with_reducible apply putOnLink_roles | intro _ | with_reducible apply Roles.ite | simp only [Roles.upd] | dsimp only | split)

theorem resend_roles {s0 : State} (d : DevId) (fwd : Option DevId) (fl : Nat) (b : Bytes) (s : State) (hk : Roles s0 s) : Roles s0 (resend d fwd fl b s) := by
  unfold resend
  repeat (first | with_reducible assumption | with_reducible apply cntBridle_roles | with_reducible apply sendPairLink_roles | with_reducible apply sendMessage_roles | with_reducible apply forwardTo_roles | with_reducible apply sendTo_roles | intro _ | with_reducible apply Roles.ite | simp only [Roles.upd] | dsimp only | split)

theorem drainOutList_roles {s0 : State} (c : Nat) : ∀ (x0 : List Waiting) (x1 : List Waiting) (s : State), Roles s0 s → Roles s0 (drainOutList c x0 x1 s)
  | [], kept, s, h => by
    unfold drainOutList
    repeat (first | with_reducible assumption | with_reducible refine sendAfter_roles (by with_reducible assumption) ?_ | with_reducible refine holdBack_roles (by with_reducible assumption) ?_ | with_reducible apply holdBack_snd_roles | intro _ | with_reducible apply Roles.ite | with_reducible apply Roles.iteSnd | with_reducible apply Roles.iteFst | simp only [Roles.upd] | dsimp only | split)
  | w :: rest, kept, s, h => by
    unfold drainOutList
    repeat (first | with_reducible assumption | with_reducible apply drainOutList_roles | with_reducible refine sendAfter_roles (by with_reducible assumption) ?_ | with_reducible refine holdBack_roles (by with_reducible assumption) ?_ | with_reducible apply holdBack_snd_roles | intro _ | with_reducible apply Roles.ite | with_reducible apply Roles.iteSnd | with_reducible apply Roles.iteFst | simp only [Roles.upd] | dsimp only | split)

theorem grantLinks_roles {s0 : State}  : ∀ (x0 : Nat) (s : State), Roles s0 s → Roles s0 (grantLinks  x0 s)
  | 0, s, h => by
    unfold grantLinks
    repeat (first | with_reducible assumption | with_reducible refine arbitrate_roles (by with_reducible assumption) ?_ | with_reducible refine trySend_roles (by with_reducible assumption) ?_ | intro _ | with_reducible apply Roles.ite | with_reducible apply Roles.iteSnd | with_reducible apply Roles.iteFst | simp only [Roles.upd] | dsimp only | split)
  | n + 1, s, h => by
    unfold grantLinks
    repeat (first | with_reducible assumption | with_reducible apply grantLinks_roles | with_reducible refine arbitrate_roles (by with_reducible assumption) ?_ | with_reducible refine trySend_roles (by with_reducible assumption) ?_ | intro _ | with_reducible apply Roles.ite | with_reducible apply Roles.iteSnd | with_reducible apply Roles.iteFst | simp only [Roles.upd] | dsimp only | split)

theorem drainWait_roles {s0 : State} (c : Nat) (s : State) (hk : Roles s0 s) : Roles s0 (drainWait c s) := by
  unfold drainWait
  repeat (first | with_reducible assumption | with_reducible apply grantLinks_roles | with_reducible apply drainOutList_roles | intro _ | with_reducible apply Roles.ite | simp only [Roles.upd] | dsimp only | split)

theorem payOwedList_roles {s0 : State}  : ∀ (x0 : List (LinkId × Nat × PartId × Nat × DevId)) (x1 : List (LinkId × Nat × PartId × Nat × DevId)) (s : State), Roles s0 s → Roles s0 (payOwedList  x0 x1 s)
  | [], _x1, s, h => by
    unfold payOwedList
    repeat (first | with_reducible assumption | with_reducible apply idleFlit_roles | with_reducible apply Roles.foldl | intro _ | with_reducible apply Roles.ite | with_reducible apply Roles.iteSnd | with_reducible apply Roles.iteFst | simp only [Roles.upd] | dsimp only | split)
  | (l, vc, p, n, d) :: rest, spent, s, h => by
    unfold payOwedList
    repeat (first | with_reducible assumption | with_reducible apply payOwedList_roles | with_reducible apply idleFlit_roles | with_reducible apply Roles.foldl | intro _ | with_reducible apply Roles.ite | with_reducible apply Roles.iteSnd | with_reducible apply Roles.iteFst | simp only [Roles.upd] | dsimp only | split)

theorem payOwed_roles {s0 : State} (s : State) (hk : Roles s0 s) : Roles s0 (payOwed s) := by
  unfold payOwed
  repeat (first | with_reducible assumption | with_reducible apply payOwedList_roles | intro _ | with_reducible apply Roles.ite | simp only [Roles.upd] | dsimp only | split)

theorem drainHeld_roles {s0 : State} (rows : Bool) (s : State) (hk : Roles s0 s) : Roles s0 (drainHeld rows s) := by
  unfold drainHeld
  repeat (first | with_reducible assumption | with_reducible apply forwardTo_roles | with_reducible apply Roles.foldl | intro _ | with_reducible apply Roles.ite | simp only [Roles.upd] | dsimp only | split)

theorem drainOut_roles {s0 : State} (s : State) (hk : Roles s0 s) : Roles s0 (drainOut s) := by
  unfold drainOut
  repeat (first | with_reducible assumption | with_reducible apply drainWait_roles | with_reducible apply payOwed_roles | with_reducible apply drainHeld_roles | with_reducible apply drainMsgs_roles | intro _ | with_reducible apply Roles.ite | simp only [Roles.upd] | dsimp only | split)

theorem drainLink_roles {s0 : State} (l : LinkId) (s : State) (hk : Roles s0 s) : Roles s0 (drainLink l s) := by
  unfold drainLink
  repeat (first | with_reducible assumption | with_reducible apply drainOut_roles | with_reducible apply sendPairLink_roles | with_reducible apply updLink_roles | with_reducible apply Roles.foldl | intro _ | with_reducible apply Roles.ite | simp only [Roles.upd] | dsimp only | split)

theorem sendPacketAs_roles {s0 : State} (e : Nat) (d : DevId) (p : PartId) (k : Kind) (x : Packet) (s : State) (hk : Roles s0 s) : Roles s0 (sendPacketAs e d p k x s) := by
  unfold sendPacketAs
  repeat (first | with_reducible assumption | with_reducible apply cntPart64_roles | with_reducible apply sendTo_roles | intro _ | with_reducible apply Roles.ite | simp only [Roles.upd] | dsimp only | split)

theorem sendPacket_roles {s0 : State} (d : DevId) (p : PartId) (k : Kind) (x : Packet) (s : State) (hk : Roles s0 s) : Roles s0 (sendPacket d p k x s) := by
  unfold sendPacket
  repeat (first | with_reducible assumption | with_reducible apply sendPacketAs_roles | intro _ | with_reducible apply Roles.ite | simp only [Roles.upd] | dsimp only | split)

theorem sendPiece_roles {s0 : State} (d : DevId) (p : PartId) (x : Piece) (s : State) (hk : Roles s0 s) : Roles s0 (sendPiece d p x s) := by
  unfold sendPiece
  repeat (first | with_reducible assumption | with_reducible apply sendTo_roles | intro _ | with_reducible apply Roles.ite | simp only [Roles.upd] | dsimp only | split)

theorem setComm_roles {s0 : State} (h : Nat) (c : Option Comm) (s : State) (hk : Roles s0 s) : Roles s0 (setComm h c s) := by
  unfold setComm
  repeat (first | with_reducible assumption | intro _ | with_reducible apply Roles.ite | simp only [Roles.upd] | dsimp only | split)

theorem updComm_roles {s0 : State} (h : Nat) (f : Comm → Comm) (s : State) (hk : Roles s0 s) : Roles s0 (updComm h f s) := by
  unfold updComm
  repeat (first | with_reducible assumption | with_reducible apply setComm_roles | intro _ | with_reducible apply Roles.ite | simp only [Roles.upd] | dsimp only | split)

theorem sendAbort_roles {s0 : State} (c : Comm) (code dev : Nat) (dests : List DevId) (s : State) (hk : Roles s0 s) : Roles s0 (sendAbort c code dev dests s) := by
  unfold sendAbort
  repeat (first | with_reducible assumption | with_reducible apply eachOf_roles | with_reducible apply sendPiece_roles | intro _ | with_reducible apply Roles.ite | simp only [Roles.upd] | dsimp only | split)

theorem abortComm_roles {s0 : State} (h code dev : Nat) (s : State) (hk : Roles s0 s) : Roles s0 (abortComm h code dev s) := by
  unfold abortComm
  repeat (first | with_reducible assumption | with_reducible apply sendAbort_roles | with_reducible apply updComm_roles | intro _ | with_reducible apply Roles.ite | simp only [Roles.upd] | dsimp only | split)

theorem epochNotices_roles {s0 : State} (p : PartId) (s : State) (hk : Roles s0 s) : Roles s0 (epochNotices p s) := by
  unfold epochNotices
  repeat (first | with_reducible assumption | with_reducible apply eachOf_roles | with_reducible apply sendPiece_roles | intro _ | with_reducible apply Roles.ite | simp only [Roles.upd] | dsimp only | split)

theorem sendClose_roles {s0 : State} (p : PartId) (c : Conj) (d : DevId) (s : State) (hk : Roles s0 s) : Roles s0 (sendClose p c d s) := by
  unfold sendClose
  repeat (first | with_reducible assumption | with_reducible apply sendPacket_roles | intro _ | with_reducible apply Roles.ite | with_reducible apply Roles.iteSnd | with_reducible apply Roles.iteFst | simp only [Roles.upd] | dsimp only | split)

theorem sendVerdicts_roles {s0 : State} (p : PartId) (c : Conj) (d : DevId) : ∀ (x0 : List Bytes) (x1 : Nat) (s : State), Roles s0 s → Roles s0 (sendVerdicts p c d x0 x1 s)
  | _x0, 0, s, h => by
    unfold sendVerdicts
    repeat (first | with_reducible assumption | with_reducible apply sendPacket_roles | intro _ | with_reducible apply Roles.ite | simp only [Roles.upd] | dsimp only | split)
  | [], _x1, s, h => by
    unfold sendVerdicts
    repeat (first | with_reducible assumption | with_reducible apply sendPacket_roles | intro _ | with_reducible apply Roles.ite | simp only [Roles.upd] | dsimp only | split)
  | es, fuel + 1, s, h => by
    unfold sendVerdicts
    repeat (first | with_reducible assumption | with_reducible apply sendVerdicts_roles | with_reducible apply sendPacket_roles | intro _ | with_reducible apply Roles.ite | simp only [Roles.upd] | dsimp only | split)

theorem suppress_roles {s0 : State} (p : PartId) (n : Nat) (s : State) (hk : Roles s0 s) : Roles s0 (suppress p n s) := by
  unfold suppress
  repeat (first | with_reducible assumption | with_reducible apply cntPart_roles | with_reducible apply updJob_roles | intro _ | with_reducible apply Roles.ite | simp only [Roles.upd] | dsimp only | split)

theorem countOrphans_roles {s0 : State} (p : PartId) (s : State) (hk : Roles s0 s) : Roles s0 (countOrphans p s) := by
  unfold countOrphans
  repeat (first | with_reducible assumption | with_reducible apply suppress_roles | with_reducible apply cntPart_roles | intro _ | with_reducible apply Roles.ite | with_reducible apply Roles.iteSnd | with_reducible apply Roles.iteFst | simp only [Roles.upd] | dsimp only | split)

theorem cancelSpec_roles {s0 : State} (p : PartId) (c : Conj) (s : State) (hk : Roles s0 s) : Roles s0 (cancelSpec p c s) := by
  unfold cancelSpec
  repeat (first | with_reducible assumption | with_reducible apply suppress_roles | with_reducible apply cntPart64_roles | with_reducible apply eachOf_roles | with_reducible apply sendVerdicts_roles | intro _ | with_reducible apply Roles.ite | simp only [Roles.upd] | dsimp only | split)

theorem withdraw_roles {s0 : State} (t : Waiting → Bool) (s : State) (hk : Roles s0 s) : Roles s0 (withdraw t s) := by
  unfold withdraw
  repeat (first | with_reducible assumption | intro _ | with_reducible apply Roles.ite | simp only [Roles.upd] | dsimp only | split)

theorem updConj_roles {s0 : State} (p : PartId) (f : Conj → Conj) (s : State) (hk : Roles s0 s) : Roles s0 (updConj p f s) := by
  unfold updConj
  repeat (first | with_reducible assumption | with_reducible apply updPart_roles | intro _ | with_reducible apply Roles.ite | simp only [Roles.upd] | dsimp only | split)

theorem withdrawRow_roles {s0 : State} (p : PartId) (x : Clause) (s : State) (hk : Roles s0 s) : Roles s0 (withdrawRow p x s) := by
  unfold withdrawRow
  repeat (first | with_reducible assumption | with_reducible apply withdraw_roles | with_reducible apply cntPart64_roles | with_reducible apply updConj_roles | with_reducible apply Roles.foldl | intro _ | with_reducible apply Roles.ite | with_reducible apply Roles.iteSnd | with_reducible apply Roles.iteFst | simp only [Roles.upd] | dsimp only | split)

theorem withdrawRows_roles {s0 : State} (p : PartId) (s : State) (hk : Roles s0 s) : Roles s0 (withdrawRows p s) := by
  unfold withdrawRows
  repeat (first | with_reducible assumption | with_reducible apply eachOf_roles | with_reducible apply withdrawRow_roles | with_reducible apply cntPart64_roles | intro _ | with_reducible apply Roles.ite | simp only [Roles.upd] | dsimp only | split)

theorem withdrawPieces_roles {s0 : State} (p : PartId) (s : State) (hk : Roles s0 s) : Roles s0 (withdrawPieces p s) := by
  unfold withdrawPieces
  repeat (first | with_reducible assumption | with_reducible apply withdraw_roles | intro _ | with_reducible apply Roles.ite | simp only [Roles.upd] | dsimp only | split)

theorem retireConj_roles {s0 : State} (p : PartId) (s : State) (hk : Roles s0 s) : Roles s0 (retireConj p s) := by
  unfold retireConj
  repeat (first | with_reducible assumption | with_reducible apply cancelSpec_roles | with_reducible apply eachOf_roles | with_reducible apply sendClose_roles | with_reducible apply updPart_roles | intro _ | with_reducible apply Roles.ite | simp only [Roles.upd] | dsimp only | split)

theorem sendDual_roles {s0 : State} (b : Bytes) (s : State) (hk : Roles s0 s) : Roles s0 (sendDual b s) := by
  unfold sendDual
  repeat (first | with_reducible assumption | with_reducible apply emit_roles | with_reducible apply sendPairLink_roles | intro _ | with_reducible apply Roles.ite | simp only [Roles.upd] | dsimp only | split)

theorem abandonDual_roles {s0 : State} (p : PartId) (code : Nat) (s : State) (hk : Roles s0 s) : Roles s0 (abandonDual p code s) := by
  unfold abandonDual
  repeat (first | with_reducible assumption | with_reducible apply sendDual_roles | with_reducible apply updPart_roles | intro _ | with_reducible apply Roles.ite | simp only [Roles.upd] | dsimp only | split)

theorem closeJob_roles {s0 : State} (p : PartId) (s : State) (hk : Roles s0 s) : Roles s0 (closeJob p s) := by
  unfold closeJob
  repeat (first | with_reducible assumption | with_reducible apply mgtEvent_roles | with_reducible apply cntPart64_roles | with_reducible apply updJob_roles | intro _ | with_reducible apply Roles.ite | simp only [Roles.upd] | dsimp only | split)

theorem stopStream_roles {s0 : State} (p : PartId) (code : Nat) (st : StreamId) (s : State) (hk : Roles s0 s) : Roles s0 (stopStream p code st s) := by
  unfold stopStream
  repeat (first | with_reducible assumption | with_reducible apply updStream_roles | with_reducible apply traceCmd_roles | intro _ | with_reducible apply Roles.ite | simp only [Roles.upd] | dsimp only | split)

theorem clearSyc_roles {s0 : State} (p : PartId) (s : State) (hk : Roles s0 s) : Roles s0 (clearSyc p s) := by
  unfold clearSyc
  repeat (first | with_reducible assumption | intro _ | with_reducible apply Roles.ite | simp only [Roles.upd] | dsimp only | split)

theorem orphanReads_roles {s0 : State} (p : PartId) (s : State) (hk : Roles s0 s) : Roles s0 (orphanReads p s) := by
  unfold orphanReads
  repeat (first | with_reducible assumption | with_reducible apply updPort_roles | intro _ | with_reducible apply Roles.ite | simp only [Roles.upd] | dsimp only | split)

theorem haltQueues_roles {s0 : State} (p : PartId) (code : Nat) (s : State) (hk : Roles s0 s) : Roles s0 (haltQueues p code s) := by
  unfold haltQueues
  repeat (first | with_reducible assumption | with_reducible apply orphanReads_roles | with_reducible apply eachOf_roles | with_reducible apply stopStream_roles | with_reducible apply updStream_roles | with_reducible apply clearSyc_roles | with_reducible apply updPart_roles | intro _ | with_reducible apply Roles.ite | with_reducible apply Roles.iteSnd | with_reducible apply Roles.iteFst | simp only [Roles.upd] | dsimp only | split)

theorem teardown_roles {s0 : State} (p : PartId) (code : Nat) (s : State) (hk : Roles s0 s) : Roles s0 (teardown p code s) := by
  unfold teardown
  repeat (first | with_reducible assumption | with_reducible apply abortComm_roles | with_reducible apply withdrawPieces_roles | with_reducible apply updPart_roles | with_reducible apply abandonDual_roles | with_reducible apply retireConj_roles | with_reducible apply withdrawRows_roles | with_reducible apply countOrphans_roles | with_reducible apply cntPart_roles | with_reducible apply closeJob_roles | with_reducible apply haltQueues_roles | intro _ | with_reducible apply Roles.ite | simp only [Roles.upd] | dsimp only | split)

theorem jobFault_roles {s0 : State} (p : PartId) (r : ErrRec) (s : State) (hk : Roles s0 s) : Roles s0 (jobFault p r s) := by
  unfold jobFault
  repeat (first | with_reducible assumption | with_reducible apply record_roles | with_reducible apply teardown_roles | intro _ | with_reducible apply Roles.ite | simp only [Roles.upd] | dsimp only | split)

theorem hostRead_roles {s0 : State} (p : PartId) (addr len : Nat) (tgt : Nat → DmaTarget) (s : State) (hk : Roles s0 s) : Roles s0 (hostRead p addr len tgt s) := by
  unfold hostRead
  repeat (first | with_reducible assumption | with_reducible apply dmaPush_roles | intro _ | with_reducible apply Roles.ite | simp only [Roles.upd] | dsimp only | split)

theorem fetchRing_roles {s0 : State} (p : PartId) (st : StreamId) : ∀ (x0 : Nat) (s : State), Roles s0 s → Roles s0 (fetchRing p st x0 s)
  | 0, s, h => by
    unfold fetchRing
    repeat (first | with_reducible assumption | with_reducible apply updStream_roles | with_reducible apply hostRead_roles | intro _ | with_reducible apply Roles.ite | simp only [Roles.upd] | dsimp only | split)
  | fuel + 1, s, h => by
    unfold fetchRing
    repeat (first | with_reducible assumption | with_reducible apply fetchRing_roles | with_reducible apply updStream_roles | with_reducible apply hostRead_roles | intro _ | with_reducible apply Roles.ite | simp only [Roles.upd] | dsimp only | split)

theorem fetchNow_roles {s0 : State} (p : PartId) (st : StreamId) (s : State) (hk : Roles s0 s) : Roles s0 (fetchNow p st s) := by
  unfold fetchNow
  repeat (first | with_reducible assumption | with_reducible apply fetchRing_roles | intro _ | with_reducible apply Roles.ite | simp only [Roles.upd] | dsimp only | split)

theorem dropHead_roles {s0 : State} (p : PartId) (st : StreamId) (s : State) (hk : Roles s0 s) : Roles s0 (dropHead p st s) := by
  unfold dropHead
  repeat (first | with_reducible assumption | with_reducible apply updStream_roles | intro _ | with_reducible apply Roles.ite | simp only [Roles.upd] | dsimp only | split)

theorem cmdFault_roles {s0 : State} (p : PartId) (st : StreamId) (desc : Bytes) (code sub detail : Nat) (s : State) (hk : Roles s0 s) : Roles s0 (cmdFault p st desc code sub detail s) := by
  unfold cmdFault
  repeat (first | with_reducible assumption | with_reducible apply traceCmd_roles | with_reducible apply fetchNow_roles | with_reducible apply jobFault_roles | with_reducible apply dropHead_roles | intro _ | with_reducible apply Roles.ite | simp only [Roles.upd] | dsimp only | split)

theorem traceDrain_roles {s0 : State} (p : PartId) (s : State) (hk : Roles s0 s) : Roles s0 (traceDrain p s) := by
  unfold traceDrain
  repeat (first | with_reducible assumption | with_reducible apply updPart_roles | with_reducible apply hbmWrite_roles | with_reducible apply charge_roles | with_reducible apply Roles.foldl | intro _ | with_reducible apply Roles.ite | simp only [Roles.upd] | dsimp only | split)

theorem cutBurst_roles {s0 : State} (p : PartId) (x : Nat × Nat × Nat) (s : State) (hk : Roles s0 s) : Roles s0 (cutBurst p x s) := by
  unfold cutBurst
  repeat (first | with_reducible assumption | with_reducible refine takeFree_roles (by with_reducible assumption) ?_ | with_reducible apply takeFree_snd_roles | intro _ | with_reducible apply Roles.ite | with_reducible apply Roles.iteSnd | with_reducible apply Roles.iteFst | simp only [Roles.upd] | dsimp only | split)

theorem resetReport_roles {s0 : State} (p : PartId) (k : ResetKind) (code : Nat) (hbm host : List (Nat × Nat)) (s : State) (hk : Roles s0 s) : Roles s0 (resetReport p k code hbm host s) := by
  unfold resetReport
  repeat (first | with_reducible assumption | with_reducible apply eachOf_roles | with_reducible apply record_roles | intro _ | with_reducible apply Roles.ite | simp only [Roles.upd] | dsimp only | split)

theorem partitionReady_roles {s0 : State} (p : PartId) (s : State) (hk : Roles s0 s) : Roles s0 (partitionReady p s) := by
  unfold partitionReady
  repeat (first | with_reducible assumption | with_reducible apply msixPart_roles | with_reducible apply updPart_roles | intro _ | with_reducible apply Roles.ite | simp only [Roles.upd] | dsimp only | split)

theorem flashErase_roles {s0 : State} (lo hi : Nat) (s : State) (hk : Roles s0 s) : Roles s0 (flashErase lo hi s) := by
  unfold flashErase
  repeat (first | with_reducible assumption | intro _ | with_reducible apply Roles.ite | simp only [Roles.upd] | dsimp only | split)

theorem flashWrite_roles {s0 : State} (a : Nat) (b : Bytes) (s : State) (hk : Roles s0 s) : Roles s0 (flashWrite a b s) := by
  unfold flashWrite
  repeat (first | with_reducible assumption | intro _ | with_reducible apply Roles.ite | simp only [Roles.upd] | dsimp only | split)

theorem secLog_roles {s0 : State} (event role result : Nat) (detail : Bytes) (s : State) (hk : Roles s0 s) : Roles s0 (secLog event role result detail s) := by
  unfold secLog
  repeat (first | with_reducible assumption | with_reducible apply cntDev_roles | with_reducible apply flashWrite_roles | with_reducible apply flashErase_roles | intro _ | with_reducible apply Roles.ite | simp only [Roles.upd] | dsimp only | split)

theorem secLogMergedAs_roles {s0 : State} (event key role result : Nat) (detail : Bytes) (s : State) (hk : Roles s0 s) : Roles s0 (secLogMergedAs event key role result detail s) := by
  unfold secLogMergedAs
  repeat (first | with_reducible assumption | with_reducible apply secLog_roles | intro _ | with_reducible apply Roles.ite | simp only [Roles.upd] | dsimp only | split)

theorem secLogMerged_roles {s0 : State} (event key : Nat) (detail : Bytes) (s : State) (hk : Roles s0 s) : Roles s0 (secLogMerged event key detail s) := by
  unfold secLogMerged
  repeat (first | with_reducible assumption | with_reducible apply secLogMergedAs_roles | intro _ | with_reducible apply Roles.ite | simp only [Roles.upd] | dsimp only | split)

theorem drbgBytes_roles {s0 t : State} {v : Bytes} {n : Nat} {s : State} (e : drbgBytes n s = (v, t)) (hk : Roles s0 s) : Roles s0 t := by
  unfold drbgBytes at e
  (try dsimp only at e)
  repeat' split at e
  all_goals (try cases e)
  all_goals repeat (first | with_reducible assumption | intro _ | with_reducible apply Roles.ite | simp only [Roles.upd] | dsimp only | split)

theorem drbgBytes_snd_roles {s0 : State} (n : Nat) (s : State) (hk : Roles s0 s) : Roles s0 (drbgBytes n s).2 :=
  drbgBytes_roles (Prod.eta _).symm hk

theorem freshNonce_roles {s0 : State} (s : State) (hk : Roles s0 s) : Roles s0 (freshNonce s) := by
  unfold freshNonce
  repeat (first | with_reducible assumption | with_reducible refine drbgBytes_roles (by with_reducible assumption) ?_ | with_reducible apply drbgBytes_snd_roles | intro _ | with_reducible apply Roles.ite | with_reducible apply Roles.iteSnd | with_reducible apply Roles.iteFst | simp only [Roles.upd] | dsimp only | split)

theorem zeroizeVolatile_roles {s0 : State} (s : State) (hk : Roles s0 s) : Roles s0 (zeroizeVolatile s) := by
  unfold zeroizeVolatile
  repeat (first | with_reducible assumption | intro _ | with_reducible apply Roles.ite | simp only [Roles.upd] | dsimp only | split)

theorem zeroizeAll_roles {s0 : State} (s : State) (hk : Roles s0 s) : Roles s0 (zeroizeAll s) := by
  unfold zeroizeAll
  repeat (first | with_reducible assumption | with_reducible apply zeroizeVolatile_roles | with_reducible apply flashErase_roles | intro _ | with_reducible apply Roles.ite | simp only [Roles.upd] | dsimp only | split)

theorem readVault_roles {s0 : State} (s : State) (hk : Roles s0 s) : Roles s0 (readVault s) := by
  unfold readVault
  repeat (first | with_reducible assumption | intro _ | with_reducible apply Roles.ite | simp only [Roles.upd] | dsimp only | split)

theorem deriveKeys_roles {s0 : State} (s : State) (hk : Roles s0 s) : Roles s0 (deriveKeys s) := by
  unfold deriveKeys
  repeat (first | with_reducible assumption | with_reducible apply readVault_roles | with_reducible apply freshNonce_roles | intro _ | with_reducible apply Roles.ite | simp only [Roles.upd] | dsimp only | split)

theorem enterError_roles {s0 : State} (id : Nat) (s : State) (hk : Roles s0 s) : Roles s0 (enterError id s) := by
  unfold enterError
  repeat (first | with_reducible assumption | with_reducible apply mgtRecord_roles | with_reducible apply secLog_roles | with_reducible apply zeroizeVolatile_roles | intro _ | with_reducible apply Roles.ite | simp only [Roles.upd] | dsimp only | split)

theorem sendLinkMsg_roles {s0 : State} (l : LinkId) (m : LinkMsg) (s : State) (hk : Roles s0 s) : Roles s0 (sendLinkMsg l m s) := by
  unfold sendLinkMsg
  repeat (first | with_reducible assumption | with_reducible apply emit_roles | with_reducible apply otherFlit_roles | intro _ | with_reducible apply Roles.ite | simp only [Roles.upd] | dsimp only | split)

theorem noticeLink_roles {s0 : State} (l : LinkId) (s : State) (hk : Roles s0 s) : Roles s0 (noticeLink l s) := by
  unfold noticeLink
  repeat (first | with_reducible assumption | with_reducible apply sendLinkMsg_roles | intro _ | with_reducible apply Roles.ite | simp only [Roles.upd] | dsimp only | split)

theorem noticeCtx_roles {s0 : State} (i : Nat) (s : State) (hk : Roles s0 s) : Roles s0 (noticeCtx i s) := by
  unfold noticeCtx
  repeat (first | with_reducible assumption | with_reducible apply drainCtx_roles | with_reducible apply updCtx_roles | intro _ | with_reducible apply Roles.ite | simp only [Roles.upd] | dsimp only | split)

theorem sendNotices_roles {s0 : State} (s : State) (hk : Roles s0 s) : Roles s0 (sendNotices s) := by
  unfold sendNotices
  repeat (first | with_reducible assumption | with_reducible apply eachOf_roles | with_reducible apply noticeLink_roles | with_reducible apply noticeCtx_roles | with_reducible apply Roles.foldl | intro _ | with_reducible apply Roles.ite | simp only [Roles.upd] | dsimp only | split)

theorem noticeChange_roles {s0 : State} (before : Nat) (s : State) (hk : Roles s0 s) : Roles s0 (noticeChange before s) := by
  unfold noticeChange
  repeat (first | with_reducible assumption | with_reducible apply sendNotices_roles | intro _ | with_reducible apply Roles.ite | simp only [Roles.upd] | dsimp only | split)

theorem setBrl_roles {s0 : State} (l : LinkId) (st : BrlState) (s : State) (hk : Roles s0 s) : Roles s0 (setBrl l st s) := by
  unfold setBrl
  repeat (first | with_reducible assumption | with_reducible apply mgtEvent_roles | with_reducible apply updLink_roles | intro _ | with_reducible apply Roles.ite | simp only [Roles.upd] | dsimp only | split)

theorem setTth_roles {s0 : State} (pl : PlaneId) (st : TthState) (s : State) (hk : Roles s0 s) : Roles s0 (setTth pl st s) := by
  unfold setTth
  repeat (first | with_reducible assumption | with_reducible apply mgtEvent_roles | with_reducible apply updPlane_roles | intro _ | with_reducible apply Roles.ite | simp only [Roles.upd] | dsimp only | split)

theorem setCommit_roles {s0 : State} (st : CommitState) (s : State) (hk : Roles s0 s) : Roles s0 (setCommit st s) := by
  unfold setCommit
  repeat (first | with_reducible assumption | with_reducible apply mgtEvent_roles | intro _ | with_reducible apply Roles.ite | simp only [Roles.upd] | dsimp only | split)

theorem portEvent_roles {s0 : State} (k : PortId) (s : State) (hk : Roles s0 s) : Roles s0 (portEvent k s) := by
  unfold portEvent
  repeat (first | with_reducible assumption | with_reducible apply mgtEvent_roles | intro _ | with_reducible apply Roles.ite | simp only [Roles.upd] | dsimp only | split)

theorem enterDetect_roles {s0 : State} (l : LinkId) (s : State) (hk : Roles s0 s) : Roles s0 (enterDetect l s) := by
  unfold enterDetect
  repeat (first | with_reducible assumption | with_reducible apply setBrl_roles | with_reducible apply updLink_roles | with_reducible apply emit_roles | intro _ | with_reducible apply Roles.ite | simp only [Roles.upd] | dsimp only | split)

theorem enterAlign_roles {s0 : State} (pl : PlaneId) (s : State) (hk : Roles s0 s) : Roles s0 (enterAlign pl s) := by
  unfold enterAlign
  repeat (first | with_reducible assumption | with_reducible apply setTth_roles | with_reducible apply updPlane_roles | intro _ | with_reducible apply Roles.ite | simp only [Roles.upd] | dsimp only | split)

theorem startLinks_roles {s0 : State} (s : State) (hk : Roles s0 s) : Roles s0 (startLinks s) := by
  unfold startLinks
  repeat (first | with_reducible assumption | with_reducible apply eachOf_roles | with_reducible apply enterDetect_roles | with_reducible apply enterAlign_roles | intro _ | with_reducible apply Roles.ite | simp only [Roles.upd] | dsimp only | split)

theorem setPstateNow_roles {s0 : State} (p : Nat) (s : State) (hk : Roles s0 s) : Roles s0 (setPstateNow p s) := by
  unfold setPstateNow
  repeat (first | with_reducible assumption | intro _ | with_reducible apply Roles.ite | simp only [Roles.upd] | dsimp only | split)

theorem switchCore_roles {s0 : State} (p : Nat) (s : State) (hk : Roles s0 s) : Roles s0 (switchCore p s) := by
  unfold switchCore
  repeat (first | with_reducible assumption | with_reducible apply cntPower_roles | intro _ | with_reducible apply Roles.ite | simp only [Roles.upd] | dsimp only | split)

theorem requestPstate_roles {s0 : State} (p : Nat) (s : State) (hk : Roles s0 s) : Roles s0 (requestPstate p s) := by
  unfold requestPstate
  repeat (first | with_reducible assumption | with_reducible apply switchCore_roles | intro _ | with_reducible apply Roles.ite | simp only [Roles.upd] | dsimp only | split)

theorem releaseHeld_roles {s0 : State} (s : State) (hk : Roles s0 s) : Roles s0 (releaseHeld s) := by
  unfold releaseHeld
  repeat (first | with_reducible assumption | with_reducible apply requestPstate_roles | intro _ | with_reducible apply Roles.ite | simp only [Roles.upd] | dsimp only | split)

theorem quietExit_roles {s0 : State} (cause : Nat) (s : State) (hk : Roles s0 s) : Roles s0 (quietExit cause s) := by
  unfold quietExit
  repeat (first | with_reducible assumption | with_reducible apply mgtEvent_roles | with_reducible apply requestPstate_roles | intro _ | with_reducible apply Roles.ite | simp only [Roles.upd] | dsimp only | split)

theorem quietRow_roles {s0 : State} (s : State) (hk : Roles s0 s) : Roles s0 (quietRow s) := by
  unfold quietRow
  repeat (first | with_reducible assumption | with_reducible apply quietExit_roles | intro _ | with_reducible apply Roles.ite | simp only [Roles.upd] | dsimp only | split)

theorem driveWake_roles {s0 : State} (k : PortId) (s : State) (hk : Roles s0 s) : Roles s0 (driveWake k s) := by
  unfold driveWake
  repeat (first | with_reducible assumption | with_reducible apply updPort_roles | intro _ | with_reducible apply Roles.ite | simp only [Roles.upd] | dsimp only | split)

theorem dualHello_roles {s0 : State} (s : State) (hk : Roles s0 s) : Roles s0 (dualHello s) := by
  unfold dualHello
  repeat (first | with_reducible assumption | with_reducible apply sendDual_roles | intro _ | with_reducible apply Roles.ite | simp only [Roles.upd] | dsimp only | split)

theorem dualRelease_roles {s0 : State} (p : PartId) (w : DlWait) (s : State) (hk : Roles s0 s) : Roles s0 (dualRelease p w s) := by
  unfold dualRelease
  repeat (first | with_reducible assumption | with_reducible apply setRegPart_roles | with_reducible apply updPart_roles | intro _ | with_reducible apply Roles.ite | simp only [Roles.upd] | dsimp only | split)

theorem dualActive_roles {s0 : State} (s : State) (hk : Roles s0 s) : Roles s0 (dualActive s) := by
  unfold dualActive
  repeat (first | with_reducible assumption | with_reducible apply dualHello_roles | intro _ | with_reducible apply Roles.ite | simp only [Roles.upd] | dsimp only | split)

theorem spaceWrite_roles {s0 : State} (p : PartId) (space off : Nat) (b : Bytes) (s : State) (hk : Roles s0 s) : Roles s0 (spaceWrite p space off b s) := by
  unfold spaceWrite
  repeat (first | with_reducible assumption | with_reducible apply charge_roles | with_reducible apply hbmWrite_roles | with_reducible apply updPart_roles | intro _ | with_reducible apply Roles.ite | simp only [Roles.upd] | dsimp only | split)

theorem spaceMark_roles {s0 : State} (p : PartId) (space off n : Nat) (s : State) (hk : Roles s0 s) : Roles s0 (spaceMark p space off n s) := by
  unfold spaceMark
  repeat (first | with_reducible assumption | with_reducible apply cntPart_roles | with_reducible apply updPart_roles | intro _ | with_reducible apply Roles.ite | simp only [Roles.upd] | dsimp only | split)

theorem updSlot_roles {s0 : State} (p : PartId) (i : Nat) (f : Slot → Slot) (s : State) (hk : Roles s0 s) : Roles s0 (updSlot p i f s) := by
  unfold updSlot
  repeat (first | with_reducible assumption | with_reducible apply updPart_roles | intro _ | with_reducible apply Roles.ite | simp only [Roles.upd] | dsimp only | split)

theorem sycSetAt_roles {s0 : State} (p : PartId) (i v : Nat) (s : State) (hk : Roles s0 s) : Roles s0 (sycSetAt p i v s) := by
  unfold sycSetAt
  repeat (first | with_reducible assumption | intro _ | with_reducible apply Roles.ite | simp only [Roles.upd] | dsimp only | split)

theorem nondet_roles {s0 : State} (p : PartId) (s : State) (hk : Roles s0 s) : Roles s0 (nondet p s) := by
  unfold nondet
  repeat (first | with_reducible assumption | with_reducible apply cntPart64_roles | with_reducible apply updJob_roles | intro _ | with_reducible apply Roles.ite | simp only [Roles.upd] | dsimp only | split)

theorem outside_roles {s0 : State} (p : PartId) (bit : Nat) (s : State) (hk : Roles s0 s) : Roles s0 (outside p bit s) := by
  unfold outside
  repeat (first | with_reducible assumption | with_reducible apply updJob_roles | intro _ | with_reducible apply Roles.ite | simp only [Roles.upd] | dsimp only | split)

theorem clauseWrite_roles {s0 : State} (p : PartId) (td : Bytes) (pos rank : Nat) (b : Bytes) (s : State) (hk : Roles s0 s) : Roles s0 (clauseWrite p td pos rank b s) := by
  unfold clauseWrite
  repeat (first | with_reducible assumption | with_reducible apply spaceWrite_roles | intro _ | with_reducible apply Roles.ite | simp only [Roles.upd] | dsimp only | split)

theorem noteResolved_roles {s0 : State} (p : PartId) (td : Bytes) (pos : Nat) (r : Bytes) (s : State) (hk : Roles s0 s) : Roles s0 (noteResolved p td pos r s) := by
  unfold noteResolved
  repeat (first | with_reducible assumption | with_reducible apply updPart_roles | intro _ | with_reducible apply Roles.ite | simp only [Roles.upd] | dsimp only | split)

theorem clauseFlag_roles {s0 : State} (p : PartId) (slot rank bits : Nat) (s : State) (hk : Roles s0 s) : Roles s0 (clauseFlag p slot rank bits s) := by
  unfold clauseFlag
  repeat (first | with_reducible assumption | with_reducible apply clauseWrite_roles | intro _ | with_reducible apply Roles.ite | simp only [Roles.upd] | dsimp only | split)

theorem clauseHome_roles {s0 : State} (p : PartId) (slot rank reason : Nat) (s : State) (hk : Roles s0 s) : Roles s0 (clauseHome p slot rank reason s) := by
  unfold clauseHome
  repeat (first | with_reducible assumption | with_reducible apply clauseWrite_roles | intro _ | with_reducible apply Roles.ite | simp only [Roles.upd] | dsimp only | split)

theorem roundSlot_roles {s0 : State} (p : PartId) (i : Nat) (s : State) (hk : Roles s0 s) : Roles s0 (roundSlot p i s) := by
  unfold roundSlot
  repeat (first | with_reducible assumption | with_reducible apply updSlot_roles | with_reducible apply cntPart_roles | intro _ | with_reducible apply Roles.ite | simp only [Roles.upd] | dsimp only | split)

theorem contribute_roles {s0 : State} (p : PartId) (tag partEpoch slotGen : Nat) (y : Option (List Nat)) (poison home : Bool) (s : State) (hk : Roles s0 s) : Roles s0 (contribute p tag partEpoch slotGen y poison home s) := by
  unfold contribute
  repeat (first | with_reducible assumption | with_reducible apply cntPart_roles | with_reducible apply updSlot_roles | with_reducible apply cntPart64_roles | with_reducible apply nondet_roles | with_reducible apply setRegPart_roles | with_reducible apply updConj_roles | with_reducible apply roundSlot_roles | with_reducible apply Roles.foldl | intro _ | with_reducible apply Roles.ite | with_reducible apply Roles.iteSnd | with_reducible apply Roles.iteFst | simp only [Roles.upd] | dsimp only | split)

theorem returnCredit_roles {s0 : State} (l : LinkId) (vc : Nat) (b : Bytes) (s : State) (hk : Roles s0 s) : Roles s0 (returnCredit l vc b s) := by
  unfold returnCredit
  repeat (first | with_reducible assumption | with_reducible apply idleFlit_roles | intro _ | with_reducible apply Roles.ite | simp only [Roles.upd] | dsimp only | split)

theorem leavePool_roles {s0 : State} (src : DevId) (path : Path) (b : Bytes) (s : State) (hk : Roles s0 s) : Roles s0 (leavePool src path b s) := by
  unfold leavePool
  repeat (first | with_reducible assumption | with_reducible apply returnCredit_roles | with_reducible apply updLink_roles | with_reducible apply updPlane_roles | intro _ | with_reducible apply Roles.ite | with_reducible apply Roles.iteSnd | with_reducible apply Roles.iteFst | simp only [Roles.upd] | dsimp only | split)

theorem updRows_roles {s0 : State} (p : PartId) (f : List RowRec → List RowRec) (s : State) (hk : Roles s0 s) : Roles s0 (updRows p f s) := by
  unfold updRows
  repeat (first | with_reducible assumption | with_reducible apply updPart_roles | intro _ | with_reducible apply Roles.ite | simp only [Roles.upd] | dsimp only | split)

theorem updRow_roles {s0 : State} (p : PartId) (tag : Nat) (f : RowRec → RowRec) (s : State) (hk : Roles s0 s) : Roles s0 (updRow p tag f s) := by
  unfold updRow
  repeat (first | with_reducible assumption | with_reducible apply updRows_roles | intro _ | with_reducible apply Roles.ite | simp only [Roles.upd] | dsimp only | split)

theorem dropRow_roles {s0 : State} (p : PartId) (tag : Nat) (s : State) (hk : Roles s0 s) : Roles s0 (dropRow p tag s) := by
  unfold dropRow
  repeat (first | with_reducible assumption | with_reducible apply updRows_roles | with_reducible apply eachOf_roles | with_reducible apply leavePool_roles | intro _ | with_reducible apply Roles.ite | simp only [Roles.upd] | dsimp only | split)

theorem updStep_roles {s0 : State} (p : PartId) (r : RowRec) (f : Conj → Conj) (s : State) (hk : Roles s0 s) : Roles s0 (updStep p r f s) := by
  unfold updStep
  repeat (first | with_reducible assumption | with_reducible apply updPart_roles | intro _ | with_reducible apply Roles.ite | simp only [Roles.upd] | dsimp only | split)

theorem noteOverflow_roles {s0 : State} (p : PartId) (r : RowRec) (s : State) (hk : Roles s0 s) : Roles s0 (noteOverflow p r s) := by
  unfold noteOverflow
  repeat (first | with_reducible assumption | with_reducible apply cntPart_roles | with_reducible apply record_roles | with_reducible apply updStep_roles | intro _ | with_reducible apply Roles.ite | simp only [Roles.upd] | dsimp only | split)

theorem sendDrop_roles {s0 : State} (p : PartId) (r : RowRec) (s : State) (hk : Roles s0 s) : Roles s0 (sendDrop p r s) := by
  unfold sendDrop
  repeat (first | with_reducible assumption | with_reducible apply clauseFlag_roles | with_reducible apply updSlot_roles | with_reducible apply contribute_roles | with_reducible apply cntPart_roles | with_reducible apply sendPacket_roles | intro _ | with_reducible apply Roles.ite | simp only [Roles.upd] | dsimp only | split)

theorem dropClause_roles {s0 : State} (p : PartId) (r : RowRec) (s : State) (hk : Roles s0 s) : Roles s0 (dropClause p r s) := by
  unfold dropClause
  repeat (first | with_reducible assumption | with_reducible apply sendDrop_roles | with_reducible apply cntPart_roles | with_reducible apply dropRow_roles | intro _ | with_reducible apply Roles.ite | simp only [Roles.upd] | dsimp only | split)

theorem overflowRow_roles {s0 : State} (p : PartId) (r : RowRec) (s : State) (hk : Roles s0 s) : Roles s0 (overflowRow p r s) := by
  unfold overflowRow
  repeat (first | with_reducible assumption | with_reducible apply updRow_roles | with_reducible apply noteOverflow_roles | with_reducible apply dropClause_roles | with_reducible apply clauseFlag_roles | intro _ | with_reducible apply Roles.ite | simp only [Roles.upd] | dsimp only | split)

theorem ballastMark_roles {s0 : State} (p : PartId) (s : State) (hk : Roles s0 s) : Roles s0 (ballastMark p s) := by
  unfold ballastMark
  repeat (first | with_reducible assumption | with_reducible apply setRegPart_roles | intro _ | with_reducible apply Roles.ite | simp only [Roles.upd] | dsimp only | split)

theorem admitGust_roles {s0 : State} (p : PartId) (r : RowRec) (cap : Nat) (s : State) (hk : Roles s0 s) : Roles s0 (admitGust p r cap s) := by
  unfold admitGust
  repeat (first | with_reducible assumption | with_reducible apply overflowRow_roles | with_reducible apply nondet_roles | with_reducible apply updStep_roles | intro _ | with_reducible apply Roles.ite | simp only [Roles.upd] | dsimp only | split)

theorem admitRow_roles {s0 : State} (p : PartId) (r : RowRec) (s : State) (hk : Roles s0 s) : Roles s0 (admitRow p r s) := by
  unfold admitRow
  repeat (first | with_reducible assumption | with_reducible apply updStep_roles | with_reducible apply ballastMark_roles | with_reducible apply updRow_roles | with_reducible apply charge_roles | with_reducible apply admitGust_roles | intro _ | with_reducible apply Roles.ite | with_reducible apply Roles.iteSnd | with_reducible apply Roles.iteFst | simp only [Roles.upd] | dsimp only | split)

theorem storeRow_roles {s0 : State} (p : PartId) (r : RowRec) (s : State) (hk : Roles s0 s) : Roles s0 (storeRow p r s) := by
  unfold storeRow
  repeat (first | with_reducible assumption | with_reducible apply cntPart64_roles | with_reducible apply admitRow_roles | with_reducible apply updRows_roles | intro _ | with_reducible apply Roles.ite | simp only [Roles.upd] | dsimp only | split)

theorem storeWaiting_roles {s0 : State} (p : PartId) : ∀ (x0 : Nat) (s : State), Roles s0 s → Roles s0 (storeWaiting p x0 s)
  | 0, s, h => by
    unfold storeWaiting
    repeat (first | with_reducible assumption | with_reducible apply updRow_roles | with_reducible apply leavePool_roles | with_reducible apply charge_roles | with_reducible apply ballastMark_roles | intro _ | with_reducible apply Roles.ite | simp only [Roles.upd] | dsimp only | split)
  | n + 1, s, h => by
    unfold storeWaiting
    repeat (first | with_reducible assumption | with_reducible apply storeWaiting_roles | with_reducible apply updRow_roles | with_reducible apply leavePool_roles | with_reducible apply charge_roles | with_reducible apply ballastMark_roles | intro _ | with_reducible apply Roles.ite | simp only [Roles.upd] | dsimp only | split)

theorem noteStalls_roles {s0 : State} (p : PartId) (s : State) (hk : Roles s0 s) : Roles s0 (noteStalls p s) := by
  unfold noteStalls
  repeat (first | with_reducible assumption | with_reducible apply cntPart_roles | with_reducible apply updRows_roles | intro _ | with_reducible apply Roles.ite | simp only [Roles.upd] | dsimp only | split)

theorem settleRows_roles {s0 : State} (p : PartId) (s : State) (hk : Roles s0 s) : Roles s0 (settleRows p s) := by
  unfold settleRows
  repeat (first | with_reducible assumption | with_reducible apply noteStalls_roles | with_reducible apply storeWaiting_roles | intro _ | with_reducible apply Roles.ite | simp only [Roles.upd] | dsimp only | split)

theorem holdFault_roles {s0 : State} (p : PartId) (tags : List Nat) (e : ErrRec) (s : State) (hk : Roles s0 s) : Roles s0 (holdFault p tags e s) := by
  unfold holdFault
  repeat (first | with_reducible assumption | with_reducible apply updRows_roles | intro _ | with_reducible apply Roles.ite | simp only [Roles.upd] | dsimp only | split)

theorem returnResult_roles {s0 : State} (p : PartId) (r : RowRec) (tag weight : Nat) (d : List Nat) (poison : Bool) (s : State) (hk : Roles s0 s) : Roles s0 (returnResult p r tag weight d poison s) := by
  unfold returnResult
  repeat (first | with_reducible assumption | with_reducible apply contribute_roles | with_reducible apply cntPart64_roles | with_reducible apply sendPacket_roles | intro _ | with_reducible apply Roles.ite | simp only [Roles.upd] | dsimp only | split)

theorem suppressFault_roles {s0 : State} (p : PartId) (r : RowRec) (s : State) (hk : Roles s0 s) : Roles s0 (suppressFault p r s) := by
  unfold suppressFault
  repeat (first | with_reducible assumption | with_reducible apply eachOf_roles | with_reducible apply suppress_roles | intro _ | with_reducible apply Roles.ite | with_reducible apply Roles.iteSnd | with_reducible apply Roles.iteFst | simp only [Roles.upd] | dsimp only | split)

theorem confirmFault_roles {s0 : State} (p : PartId) (r : RowRec) (s : State) (hk : Roles s0 s) : Roles s0 (confirmFault p r s) := by
  unfold confirmFault
  repeat (first | with_reducible assumption | with_reducible apply eachOf_roles | with_reducible apply updRows_roles | with_reducible apply record_roles | with_reducible apply cntPart_roles | intro _ | with_reducible apply Roles.ite | with_reducible apply Roles.iteSnd | with_reducible apply Roles.iteFst | simp only [Roles.upd] | dsimp only | split)

theorem uncount_roles {s0 : State} (p : PartId) (r : RowRec) (s : State) (hk : Roles s0 s) : Roles s0 (uncount p r s) := by
  unfold uncount
  repeat (first | with_reducible assumption | with_reducible apply updStep_roles | intro _ | with_reducible apply Roles.ite | simp only [Roles.upd] | dsimp only | split)

theorem orphanRow_roles {s0 : State} (p : PartId) (r : RowRec) (s : State) (hk : Roles s0 s) : Roles s0 (orphanRow p r s) := by
  unfold orphanRow
  repeat (first | with_reducible assumption | with_reducible apply cntPart_roles | with_reducible apply suppressFault_roles | with_reducible apply uncount_roles | with_reducible apply dropRow_roles | intro _ | with_reducible apply Roles.ite | simp only [Roles.upd] | dsimp only | split)

theorem freeRowsOf_roles {s0 : State} (d : DevId) (p : PartId) (s : State) (hk : Roles s0 s) : Roles s0 (freeRowsOf d p s) := by
  unfold freeRowsOf
  repeat (first | with_reducible assumption | with_reducible apply updPart_roles | with_reducible apply eachOf_roles | with_reducible apply orphanRow_roles | with_reducible apply dropRow_roles | intro _ | with_reducible apply Roles.ite | simp only [Roles.upd] | dsimp only | split)

theorem confirmRow_roles {s0 : State} (p : PartId) (r : RowRec) (rank weight : Nat) (s : State) (hk : Roles s0 s) : Roles s0 (confirmRow p r rank weight s) := by
  unfold confirmRow
  repeat (first | with_reducible assumption | with_reducible apply updRow_roles | with_reducible apply confirmFault_roles | with_reducible apply overflowRow_roles | intro _ | with_reducible apply Roles.ite | simp only [Roles.upd] | dsimp only | split)

theorem releaseRow_roles {s0 : State} (p : PartId) (r : RowRec) (rank weight : Nat) (s : State) (hk : Roles s0 s) : Roles s0 (releaseRow p r rank weight s) := by
  unfold releaseRow
  repeat (first | with_reducible assumption | with_reducible apply cntPart_roles | with_reducible apply returnResult_roles | with_reducible apply dropRow_roles | intro _ | with_reducible apply Roles.ite | simp only [Roles.upd] | dsimp only | split)

theorem applyVerdict_roles {s0 : State} (p : PartId) (tag : Nat) (confirm : Bool) (rank weight : Nat) (s : State) (hk : Roles s0 s) : Roles s0 (applyVerdict p tag confirm rank weight s) := by
  unfold applyVerdict
  repeat (first | with_reducible assumption | with_reducible apply updRow_roles | with_reducible apply confirmRow_roles | with_reducible apply suppressFault_roles | with_reducible apply uncount_roles | with_reducible apply dropRow_roles | with_reducible apply releaseRow_roles | with_reducible apply cntPart_roles | intro _ | with_reducible apply Roles.ite | simp only [Roles.upd] | dsimp only | split)

theorem sendClause_roles {s0 : State} (p : PartId) (c : Conj) (x : Clause) (s : State) (hk : Roles s0 s) : Roles s0 (sendClause p c x s) := by
  unfold sendClause
  repeat (first | with_reducible assumption | with_reducible apply storeRow_roles | with_reducible apply cntPart64_roles | with_reducible apply sendPacketAs_roles | intro _ | with_reducible apply Roles.ite | simp only [Roles.upd] | dsimp only | split)

theorem issueClause_roles {s0 : State} (p : PartId) (x : Clause) (s : State) (hk : Roles s0 s) : Roles s0 (issueClause p x s) := by
  unfold issueClause
  repeat (first | with_reducible assumption | with_reducible apply updConj_roles | with_reducible apply sendClause_roles | intro _ | with_reducible apply Roles.ite | simp only [Roles.upd] | dsimp only | split)

theorem homeClause_roles {s0 : State} (p : PartId) (x : Clause) (reason : Nat) (s : State) (hk : Roles s0 s) : Roles s0 (homeClause p x reason s) := by
  unfold homeClause
  repeat (first | with_reducible assumption | with_reducible apply clauseHome_roles | with_reducible apply outside_roles | with_reducible apply record_roles | with_reducible apply updConj_roles | with_reducible apply cntDev_roles | with_reducible apply issueClause_roles | intro _ | with_reducible apply Roles.ite | simp only [Roles.upd] | dsimp only | split)

theorem withdrawSpecs_roles {s0 : State} (p : PartId) (s : State) (hk : Roles s0 s) : Roles s0 (withdrawSpecs p s) := by
  unfold withdrawSpecs
  repeat (first | with_reducible assumption | with_reducible apply eachOf_roles | with_reducible apply cntPart64_roles | with_reducible apply cntPart_roles | with_reducible apply withdrawRow_roles | intro _ | with_reducible apply Roles.ite | simp only [Roles.upd] | dsimp only | split)

theorem noteUnadmitted_roles {s0 : State} (p : PartId) (c : Conj) (x : Clause) (admitted : Option Bool) (s : State) (hk : Roles s0 s) : Roles s0 (noteUnadmitted p c x admitted s) := by
  unfold noteUnadmitted
  repeat (first | with_reducible assumption | with_reducible apply nondet_roles | with_reducible refine takeFree_roles (by with_reducible assumption) ?_ | with_reducible apply takeFree_snd_roles | intro _ | with_reducible apply Roles.ite | with_reducible apply Roles.iteSnd | with_reducible apply Roles.iteFst | simp only [Roles.upd] | dsimp only | split)

theorem lateHome_roles {s0 : State} (p : PartId) (x : Clause) (s : State) (hk : Roles s0 s) : Roles s0 (lateHome p x s) := by
  unfold lateHome
  repeat (first | with_reducible assumption | with_reducible apply homeClause_roles | with_reducible apply cntPart_roles | intro _ | with_reducible apply Roles.ite | simp only [Roles.upd] | dsimp only | split)

theorem reissueClause_clauseRes_roles {s0 : State} (p : PartId) (x : Clause) (d : DevId) (k : Nat) (s : State) (hk : Roles s0 s) :
    Roles s0 (reissueClause.clauseRes p x d k s) := by
  unfold reissueClause.clauseRes
  repeat (first | with_reducible assumption | with_reducible apply updConj_roles | with_reducible apply outside_roles | with_reducible apply homeClause_roles | with_reducible apply cntPart_roles | with_reducible apply issueClause_roles | with_reducible apply clauseWrite_roles | intro _ | with_reducible apply Roles.ite | simp only [Roles.upd] | dsimp only | split)

theorem reissueClause_roles {s0 : State} (p : PartId) (x : Clause) (bad : Option DevId) (admitted : Option Bool) (s : State) (hk : Roles s0 s) : Roles s0 (reissueClause p x bad admitted s) := by
  unfold reissueClause
  repeat (first | with_reducible assumption | with_reducible apply updConj_roles | with_reducible apply noteUnadmitted_roles | with_reducible apply jobFault_roles | with_reducible apply lateHome_roles | with_reducible apply outside_roles | with_reducible apply reissueClause_clauseRes_roles | with_reducible apply cntPart_roles | with_reducible apply issueClause_roles | with_reducible apply homeClause_roles | intro _ | with_reducible apply Roles.ite | simp only [Roles.upd] | dsimp only | split)

theorem reissueTo_roles {s0 : State} (p : PartId) (d : DevId) (s : State) (hk : Roles s0 s) : Roles s0 (reissueTo p d s) := by
  unfold reissueTo
  repeat (first | with_reducible assumption | with_reducible apply eachOf_roles | with_reducible apply reissueClause_roles | intro _ | with_reducible apply Roles.ite | simp only [Roles.upd] | dsimp only | split)

theorem dropHeld_roles {s0 : State} (d : DevId) (p : PartId) (gone : HeldPkt → Bool) (s : State) (hk : Roles s0 s) : Roles s0 (dropHeld d p gone s) := by
  unfold dropHeld
  repeat (first | with_reducible assumption | with_reducible apply updFlow_roles | with_reducible apply eachOf_roles | with_reducible apply leavePool_roles | intro _ | with_reducible apply Roles.ite | simp only [Roles.upd] | dsimp only | split)

theorem dropForwarded_roles {s0 : State} (d : DevId) (s : State) (hk : Roles s0 s) : Roles s0 (dropForwarded d s) := by
  unfold dropForwarded
  repeat (first | with_reducible assumption | intro _ | with_reducible apply Roles.ite | simp only [Roles.upd] | dsimp only | split)

theorem markUnreachable_roles {s0 : State} (d : DevId) (s : State) (hk : Roles s0 s) : Roles s0 (markUnreachable d s) := by
  unfold markUnreachable
  repeat (first | with_reducible assumption | with_reducible apply dropForwarded_roles | with_reducible apply cntDev_roles | with_reducible apply updPeer_roles | with_reducible apply eachOf_roles | with_reducible apply dropHeld_roles | with_reducible apply reissueTo_roles | with_reducible apply orphanRow_roles | intro _ | with_reducible apply Roles.ite | simp only [Roles.upd] | dsimp only | split)

theorem markReachable_roles {s0 : State} (d : DevId) (s : State) (hk : Roles s0 s) : Roles s0 (markReachable d s) := by
  unfold markReachable
  repeat (first | with_reducible assumption | with_reducible apply drainOut_roles | with_reducible apply cntDev_roles | with_reducible apply updPeer_roles | intro _ | with_reducible apply Roles.ite | simp only [Roles.upd] | dsimp only | split)

theorem showEpoch_roles {s0 : State} (d : DevId) (e : Nat) (s : State) (hk : Roles s0 s) : Roles s0 (showEpoch d e s) := by
  unfold showEpoch
  repeat (first | with_reducible assumption | with_reducible apply updPeer_roles | with_reducible apply markReachable_roles | intro _ | with_reducible apply Roles.ite | simp only [Roles.upd] | dsimp only | split)

theorem judgeReach_roles {s0 : State} (s : State) (hk : Roles s0 s) : Roles s0 (judgeReach s) := by
  unfold judgeReach
  repeat (first | with_reducible assumption | with_reducible apply eachOf_roles | with_reducible apply markUnreachable_roles | intro _ | with_reducible apply Roles.ite | simp only [Roles.upd] | dsimp only | split)

theorem relayReach_roles {s0 : State} (before : State) (s : State) (hk : Roles s0 s) : Roles s0 (relayReach before s) := by
  unfold relayReach
  repeat (first | with_reducible assumption | with_reducible apply eachOf_roles | with_reducible apply markReachable_roles | intro _ | with_reducible apply Roles.ite | simp only [Roles.upd] | dsimp only | split)

theorem dropTraffic_roles {s0 : State} (d : DevId) (s : State) (hk : Roles s0 s) : Roles s0 (dropTraffic d s) := by
  unfold dropTraffic
  repeat (first | with_reducible assumption | intro _ | with_reducible apply Roles.ite | with_reducible apply Roles.iteSnd | with_reducible apply Roles.iteFst | simp only [Roles.upd] | dsimp only | split)

theorem learnStart_roles {s0 : State} (d : DevId) (id : Nat) (s : State) (hk : Roles s0 s) : Roles s0 (learnStart d id s) := by
  unfold learnStart
  repeat (first | with_reducible assumption | with_reducible apply updPeer_roles | with_reducible apply dropTraffic_roles | with_reducible apply eachOf_roles | with_reducible apply freeRowsOf_roles | with_reducible apply updFlow_roles | with_reducible apply dropHeld_roles | intro _ | with_reducible apply Roles.ite | simp only [Roles.upd] | dsimp only | split)

theorem seeEpoch_roles {s0 t : State} {d : DevId} {p : PartId} {e : Nat} {s : State} (e : seeEpoch d p e s = some t) (hk : Roles s0 s) : Roles s0 t := by
  unfold seeEpoch at e
  (try dsimp only at e)
  repeat' split at e
  all_goals (try cases e)
  all_goals repeat (first | with_reducible assumption | with_reducible apply updFlow_roles | with_reducible apply freeRowsOf_roles | with_reducible apply dropHeld_roles | intro _ | with_reducible apply Roles.ite | simp only [Roles.upd] | dsimp only | split)

theorem sendPair_roles {s0 : State} (h : PairHead) (payload : Bytes) (s : State) (hk : Roles s0 s) : Roles s0 (sendPair h payload s) := by
  unfold sendPair
  repeat (first | with_reducible assumption | with_reducible apply emit_roles | with_reducible apply sendPairLink_roles | intro _ | with_reducible apply Roles.ite | simp only [Roles.upd] | dsimp only | split)

theorem pairHello_roles {s0 : State} (s : State) (hk : Roles s0 s) : Roles s0 (pairHello s) := by
  unfold pairHello
  repeat (first | with_reducible assumption | with_reducible apply sendPair_roles | intro _ | with_reducible apply Roles.ite | simp only [Roles.upd] | dsimp only | split)

theorem pairActive_roles {s0 : State} (s : State) (hk : Roles s0 s) : Roles s0 (pairActive s) := by
  unfold pairActive
  repeat (first | with_reducible assumption | with_reducible apply pairHello_roles | intro _ | with_reducible apply Roles.ite | simp only [Roles.upd] | dsimp only | split)

theorem mirrorDesc_roles {s0 : State} (p : PartId) (st : StreamId) (idx : Nat) (d : Bytes) (s : State) (hk : Roles s0 s) : Roles s0 (mirrorDesc p st idx d s) := by
  unfold mirrorDesc
  repeat (first | with_reducible assumption | with_reducible apply sendPair_roles | intro _ | with_reducible apply Roles.ite | simp only [Roles.upd] | dsimp only | split)

theorem modelsSection_roles {s0 t : State} {v : Bytes} {s : State} {p : PartId} (e : modelsSection s p = (v, t)) (hk : Roles s0 s) : Roles s0 t := by
  unfold modelsSection at e
  (try dsimp only at e)
  repeat' split at e
  all_goals (try cases e)
  all_goals repeat (first | with_reducible assumption | with_reducible refine takeFree_roles (by with_reducible assumption) ?_ | with_reducible apply takeFree_snd_roles | intro _ | with_reducible apply Roles.ite | with_reducible apply Roles.iteSnd | with_reducible apply Roles.iteFst | simp only [Roles.upd] | dsimp only | split)

theorem modelsSection_snd_roles {s0 : State} (s : State) (p : PartId) (hk : Roles s0 s) : Roles s0 (modelsSection s p).2 :=
  modelsSection_roles (Prod.eta _).symm hk

theorem captureBoundary_roles {s0 : State} (p : PartId) (s : State) (hk : Roles s0 s) : Roles s0 (captureBoundary p s) := by
  unfold captureBoundary
  repeat (first | with_reducible assumption | with_reducible refine modelsSection_roles (by with_reducible assumption) ?_ | with_reducible apply modelsSection_snd_roles | with_reducible apply updPart_roles | intro _ | with_reducible apply Roles.ite | with_reducible apply Roles.iteSnd | with_reducible apply Roles.iteFst | simp only [Roles.upd] | dsimp only | split)

theorem sendSnap_roles {s0 : State} (p : PartId) (epoch : Nat) : ∀ (x0 : Nat) (x1 : Nat) (x2 : Bytes) (s : State), Roles s0 s → Roles s0 (sendSnap p epoch x0 x1 x2 s)
  | 0, _x1, _x2, s, h => by
    unfold sendSnap
    repeat (first | with_reducible assumption | with_reducible apply sendPair_roles | intro _ | with_reducible apply Roles.ite | simp only [Roles.upd] | dsimp only | split)
  | fuel + 1, off, b, s, h => by
    unfold sendSnap
    repeat (first | with_reducible assumption | with_reducible apply sendSnap_roles | with_reducible apply sendPair_roles | intro _ | with_reducible apply Roles.ite | simp only [Roles.upd] | dsimp only | split)

theorem freeSlots_roles {s0 : State} (p : PartId) (first count : Nat) (s : State) (hk : Roles s0 s) : Roles s0 (freeSlots p first count s) := by
  unfold freeSlots
  repeat (first | with_reducible assumption | with_reducible apply updPart_roles | intro _ | with_reducible apply Roles.ite | with_reducible apply Roles.iteSnd | with_reducible apply Roles.iteFst | simp only [Roles.upd] | dsimp only | split)

theorem issueRecord_roles {s0 : State} (p : PartId) (addr : Nat) (record : Bytes) (first count : Nat) (s : State) (hk : Roles s0 s) : Roles s0 (issueRecord p addr record first count s) := by
  unfold issueRecord
  repeat (first | with_reducible assumption | with_reducible apply wakeEvent_roles | with_reducible apply dmaPush_roles | with_reducible apply record_roles | with_reducible apply freeSlots_roles | with_reducible apply updPart_roles | intro _ | with_reducible apply Roles.ite | simp only [Roles.upd] | dsimp only | split)

theorem issueStaged_roles {s0 : State} (p : PartId) (x : Staged) (s : State) (hk : Roles s0 s) : Roles s0 (issueStaged p x s) := by
  unfold issueStaged
  repeat (first | with_reducible assumption | with_reducible apply updPart_roles | with_reducible apply issueRecord_roles | with_reducible apply msixPart_roles | intro _ | with_reducible apply Roles.ite | simp only [Roles.upd] | dsimp only | split)

theorem issueWhile_roles {s0 : State} (p : PartId) (ok : Staged → Bool) (s : State) (hk : Roles s0 s) : Roles s0 (issueWhile p ok s) := by
  unfold issueWhile
  repeat (first | with_reducible assumption | with_reducible apply eachOf_roles | with_reducible apply issueStaged_roles | intro _ | with_reducible apply Roles.ite | simp only [Roles.upd] | dsimp only | split)

theorem settleReleased_roles {s0 : State} (p : PartId) (s : State) (hk : Roles s0 s) : Roles s0 (settleReleased p s) := by
  unfold settleReleased
  repeat (first | with_reducible assumption | with_reducible apply updPart_roles | intro _ | with_reducible apply Roles.ite | simp only [Roles.upd] | dsimp only | split)

theorem uncover_roles {s0 : State} (p : PartId) (s : State) (hk : Roles s0 s) : Roles s0 (uncover p s) := by
  unfold uncover
  repeat (first | with_reducible assumption | with_reducible apply updPart_roles | with_reducible apply settleReleased_roles | with_reducible apply issueWhile_roles | intro _ | with_reducible apply Roles.ite | simp only [Roles.upd] | dsimp only | split)

theorem sendSnapshot_roles {s0 : State} (p : PartId) (kind : Nat) (s : State) (hk : Roles s0 s) : Roles s0 (sendSnapshot p kind s) := by
  unfold sendSnapshot
  repeat (first | with_reducible assumption | with_reducible apply updPart_roles | with_reducible apply captureBoundary_roles | with_reducible apply uncover_roles | with_reducible apply sendSnap_roles | intro _ | with_reducible apply Roles.ite | simp only [Roles.upd] | dsimp only | split)

end Sys2Proof.Laws
end

