-- ==== Sys2Proof/Laws/Roles2.lean ====
section
/-!
SUPPORT. Roles2.lean: what leaves clusters and roles alone, one lemma per operation, in the order of the definitions (2 of 4).
Roles s t: clusters, pair role, Dual-Line, BIST and processor debug are those of s.
-/
set_option linter.all false
namespace Sys2Proof.Laws
open Sys2Proof Sys2Proof.Machine Sys2Proof.Safety

theorem jobEndSnapshot_roles {s0 : State} (p : PartId) (s : State) (hk : Roles s0 s) : Roles s0 (jobEndSnapshot p s) := by
  unfold jobEndSnapshot
  repeat (first | with_reducible assumption | with_reducible apply sendSnapshot_roles | with_reducible apply captureBoundary_roles | intro _ | with_reducible apply Roles.ite | simp only [Roles.upd] | dsimp only | split)

theorem markGranule_roles {s0 : State} (g : Nat) (s : State) (hk : Roles s0 s) : Roles s0 (markGranule g s) := by
  unfold markGranule
  repeat (first | with_reducible assumption | with_reducible apply cntPart_roles | intro _ | with_reducible apply Roles.ite | simp only [Roles.upd] | dsimp only | split)

theorem updExec_roles {s0 : State} (p : PartId) (st : StreamId) (f : Exec → Exec) (s : State) (hk : Roles s0 s) : Roles s0 (updExec p st f s) := by
  unfold updExec
  repeat (first | with_reducible assumption | with_reducible apply updStream_roles | intro _ | with_reducible apply Roles.ite | simp only [Roles.upd] | dsimp only | split)

theorem noteOnce_roles {s0 : State} (p : PartId) (st : StreamId) (r : ErrRec) (s : State) (hk : Roles s0 s) : Roles s0 (noteOnce p st r s) := by
  unfold noteOnce
  repeat (first | with_reducible assumption | with_reducible apply record_roles | with_reducible apply updExec_roles | intro _ | with_reducible apply Roles.ite | simp only [Roles.upd] | dsimp only | split)

theorem meetHbm_roles {s0 : State} (p : PartId) (tag off n : Nat) (s : State) (hk : Roles s0 s) : Roles s0 (meetHbm p tag off n s) := by
  unfold meetHbm
  repeat (first | with_reducible assumption | with_reducible apply eachOf_roles | with_reducible apply markGranule_roles | with_reducible apply record_roles | with_reducible apply cntPart_roles | intro _ | with_reducible apply Roles.ite | simp only [Roles.upd] | dsimp only | split)

theorem settleMerge_roles {s0 : State} (p : PartId) (st : StreamId) (tag : Nat) (s : State) (hk : Roles s0 s) : Roles s0 (settleMerge p st tag s) := by
  unfold settleMerge
  repeat (first | with_reducible assumption | with_reducible apply eachOf_roles | with_reducible apply noteOnce_roles | with_reducible apply markGranule_roles | with_reducible apply record_roles | with_reducible apply cntPart_roles | intro _ | with_reducible apply Roles.ite | with_reducible apply Roles.iteSnd | with_reducible apply Roles.iteFst | simp only [Roles.upd] | dsimp only | split)

theorem startMeets_roles {s0 : State} (p : PartId) (st : StreamId) (tag : Nat) (s : State) (hk : Roles s0 s) : Roles s0 (startMeets p st tag s) := by
  unfold startMeets
  repeat (first | with_reducible assumption | with_reducible refine Roles.sramFold ?_ ?_ _ _ | with_reducible apply Roles.sramFilter | with_reducible apply Roles.foldl | intro _ | with_reducible apply Roles.ite | with_reducible apply Roles.iteSnd | with_reducible apply Roles.iteFst | simp only [Roles.upd] | dsimp only | split)

theorem cmdFail_roles {s0 : State} (p : PartId) (st : StreamId) (d : Bytes) (e : CmdErr) (s : State) (hk : Roles s0 s) : Roles s0 (cmdFail p st d e s) := by
  unfold cmdFail
  repeat (first | with_reducible assumption | with_reducible apply settleMerge_roles | with_reducible apply meetHbm_roles | with_reducible apply dropHead_roles | with_reducible apply traceCmd_roles | with_reducible apply haltQueues_roles | with_reducible apply record_roles | with_reducible apply fetchNow_roles | with_reducible apply jobFault_roles | intro _ | with_reducible apply Roles.ite | simp only [Roles.upd] | dsimp only | split)

theorem discardDesc_roles {s0 : State} (p : PartId) (s : State) (hk : Roles s0 s) : Roles s0 (discardDesc p s) := by
  unfold discardDesc
  repeat (first | with_reducible assumption | with_reducible apply cntPart_roles | intro _ | with_reducible apply Roles.ite | simp only [Roles.upd] | dsimp only | split)

theorem queOverrun_roles {s0 : State} (p : PartId) (st : StreamId) (s : State) (hk : Roles s0 s) : Roles s0 (queOverrun p st s) := by
  unfold queOverrun
  repeat (first | with_reducible assumption | with_reducible apply updStream_roles | with_reducible apply fetchNow_roles | with_reducible apply jobFault_roles | with_reducible apply cntPart_roles | intro _ | with_reducible apply Roles.ite | simp only [Roles.upd] | dsimp only | split)

theorem enterDesc_roles {s0 : State} (p : PartId) (st : StreamId) (d : Bytes) (s : State) (hk : Roles s0 s) : Roles s0 (enterDesc p st d s) := by
  unfold enterDesc
  repeat (first | with_reducible assumption | with_reducible apply discardDesc_roles | with_reducible apply queOverrun_roles | with_reducible apply quietExit_roles | with_reducible apply mirrorDesc_roles | with_reducible apply updStream_roles | intro _ | with_reducible apply Roles.ite | simp only [Roles.upd] | dsimp only | split)

theorem takeCmd_roles {s0 t : State} {v : Option Bytes} {p : PartId} {st : StreamId} {op : Nat} {s : State} (e : takeCmd p st op s = (v, t)) (hk : Roles s0 s) : Roles s0 t := by
  unfold takeCmd at e
  (try dsimp only at e)
  repeat' split at e
  all_goals (try cases e)
  all_goals repeat (first | with_reducible assumption | with_reducible apply charge_roles | with_reducible apply updStream_roles | with_reducible apply hbmHold_roles | with_reducible apply hbmGo_roles | with_reducible apply startMeets_roles | with_reducible apply traceCmd_roles | with_reducible apply cmdFail_roles | intro _ | with_reducible apply Roles.ite | simp only [Roles.upd] | dsimp only | split)

theorem takeCmd_snd_roles {s0 : State} (p : PartId) (st : StreamId) (op : Nat) (s : State) (hk : Roles s0 s) : Roles s0 (takeCmd p st op s).2 :=
  takeCmd_roles (Prod.eta _).symm hk

theorem cmdDone_roles {s0 : State} (p : PartId) (st : StreamId) (s : State) (hk : Roles s0 s) : Roles s0 (cmdDone p st s) := by
  unfold cmdDone
  repeat (first | with_reducible assumption | with_reducible apply updExec_roles | intro _ | with_reducible apply Roles.ite | simp only [Roles.upd] | dsimp only | split)

theorem runCmd_roles {s0 : State} (p : PartId) (st : StreamId) (op : Nat) (body : Bytes → State → State) (s : State) (hbody : ∀ x0 x1, Roles s0 x1 → Roles s0 (body x0 x1)) (hk : Roles s0 s) : RolesO s0 (runCmd p st op body s) := by
  unfold runCmd
  repeat (first | with_reducible apply hbody | with_reducible assumption | with_reducible apply RolesO.next | with_reducible apply RolesO.ite | with_reducible refine takeCmd_roles (by with_reducible assumption) ?_ | with_reducible apply takeCmd_snd_roles | intro _ | with_reducible apply Roles.ite | with_reducible apply Roles.iteSnd | with_reducible apply Roles.iteFst | simp only [Roles.upd] | dsimp only | split)

theorem sycAdd_roles {s0 : State} (p : PartId) (idx v source tag : Nat) (s : State) (hk : Roles s0 s) : Roles s0 (sycAdd p idx v source tag s) := by
  unfold sycAdd
  repeat (first | with_reducible assumption | with_reducible apply jobFault_roles | with_reducible apply sycSetAt_roles | intro _ | with_reducible apply Roles.ite | simp only [Roles.upd] | dsimp only | split)

theorem applySignal_roles {s0 : State} (p : PartId) (st : StreamId) (d : Bytes) (s : State) (hk : Roles s0 s) : Roles s0 (applySignal p st d s) := by
  unfold applySignal
  repeat (first | with_reducible assumption | with_reducible apply sycAdd_roles | with_reducible apply sycSetAt_roles | intro _ | with_reducible apply Roles.ite | simp only [Roles.upd] | dsimp only | split)

theorem dropClusters_roles {s0 : State} (p : PartId) (s : State) (hk : Roles s0 s) : Roles s0 (dropClusters p s) := by
  unfold dropClusters
  repeat (first | with_reducible assumption | with_reducible apply updJob_roles | intro _ | with_reducible apply Roles.ite | simp only [Roles.upd] | dsimp only | split)

theorem execJobBegin_roles {s0 : State} (p : PartId) (st : StreamId) (s : State) (hk : Roles s0 s) : RolesO s0 (execJobBegin p st s) := by
  unfold execJobBegin
  repeat (first | with_reducible assumption | with_reducible apply RolesO.next | with_reducible apply RolesO.ite | with_reducible apply runCmd_roles | with_reducible apply cmdFail_roles | with_reducible apply cmdDone_roles | intro _ | with_reducible apply Roles.ite | simp only [Roles.upd] | dsimp only | split)

theorem execJobEnd_roles {s0 : State} (p : PartId) (st : StreamId) (s : State) (hk : Roles s0 s) : RolesO s0 (execJobEnd p st s) := by
  unfold execJobEnd
  repeat (first | with_reducible assumption | with_reducible apply RolesO.next | with_reducible apply RolesO.ite | with_reducible apply runCmd_roles | with_reducible apply cmdDone_roles | intro _ | with_reducible apply Roles.ite | simp only [Roles.upd] | dsimp only | split)

theorem execNop_roles {s0 : State} (p : PartId) (st : StreamId) (s : State) (hk : Roles s0 s) : RolesO s0 (execNop p st s) := by
  unfold execNop
  repeat (first | with_reducible assumption | with_reducible apply RolesO.next | with_reducible apply RolesO.ite | with_reducible apply runCmd_roles | with_reducible apply cmdDone_roles | intro _ | with_reducible apply Roles.ite | simp only [Roles.upd] | dsimp only | split)

theorem execCtSet_roles {s0 : State} (p : PartId) (st : StreamId) (s : State) (hk : Roles s0 s) : RolesO s0 (execCtSet p st s) := by
  unfold execCtSet
  repeat (first | with_reducible assumption | with_reducible apply RolesO.next | with_reducible apply RolesO.ite | with_reducible apply runCmd_roles | with_reducible apply cmdDone_roles | with_reducible apply updStream_roles | intro _ | with_reducible apply Roles.ite | simp only [Roles.upd] | dsimp only | split)

theorem execCtAdd_roles {s0 : State} (p : PartId) (st : StreamId) (s : State) (hk : Roles s0 s) : RolesO s0 (execCtAdd p st s) := by
  unfold execCtAdd
  repeat (first | with_reducible assumption | with_reducible apply RolesO.next | with_reducible apply RolesO.ite | with_reducible apply runCmd_roles | with_reducible apply cmdDone_roles | with_reducible apply updStream_roles | intro _ | with_reducible apply Roles.ite | simp only [Roles.upd] | dsimp only | split)

theorem execCmpSkip_roles {s0 : State} (p : PartId) (st : StreamId) (s : State) (hk : Roles s0 s) : RolesO s0 (execCmpSkip p st s) := by
  unfold execCmpSkip
  repeat (first | with_reducible assumption | with_reducible apply RolesO.next | with_reducible apply RolesO.ite | with_reducible apply runCmd_roles | with_reducible apply cmdDone_roles | with_reducible apply updExec_roles | intro _ | with_reducible apply Roles.ite | simp only [Roles.upd] | dsimp only | split)

theorem execCmpBranch_roles {s0 : State} (p : PartId) (st : StreamId) (s : State) (hk : Roles s0 s) : RolesO s0 (execCmpBranch p st s) := by
  unfold execCmpBranch
  repeat (first | with_reducible assumption | with_reducible apply RolesO.next | with_reducible apply RolesO.ite | with_reducible apply runCmd_roles | with_reducible apply cmdDone_roles | with_reducible apply updExec_roles | intro _ | with_reducible apply Roles.ite | simp only [Roles.upd] | dsimp only | split)

theorem execSycWait_roles {s0 : State} (p : PartId) (st : StreamId) (s : State) (hk : Roles s0 s) : RolesO s0 (execSycWait p st s) := by
  unfold execSycWait
  repeat (first | with_reducible assumption | with_reducible apply RolesO.next | with_reducible apply RolesO.ite | with_reducible apply runCmd_roles | with_reducible apply cmdDone_roles | intro _ | with_reducible apply Roles.ite | simp only [Roles.upd] | dsimp only | split)

theorem tdPut_roles {s0 : State} (p : PartId) (i : Nat) (t : Bytes) (s : State) (hk : Roles s0 s) : Roles s0 (tdPut p i t s) := by
  unfold tdPut
  repeat (first | with_reducible assumption | with_reducible apply updPart_roles | intro _ | with_reducible apply Roles.ite | simp only [Roles.upd] | dsimp only | split)

theorem execTdSet_roles {s0 : State} (p : PartId) (st : StreamId) (s : State) (hk : Roles s0 s) : RolesO s0 (execTdSet p st s) := by
  unfold execTdSet
  repeat (first | with_reducible assumption | with_reducible apply RolesO.next | with_reducible apply RolesO.ite | with_reducible apply runCmd_roles | with_reducible apply cmdFail_roles | with_reducible apply cmdDone_roles | with_reducible apply tdPut_roles | intro _ | with_reducible apply Roles.ite | with_reducible apply Roles.iteSnd | with_reducible apply Roles.iteFst | simp only [Roles.upd] | dsimp only | split)

theorem execPrgRun_roles {s0 : State} (p : PartId) (st : StreamId) (s : State) (hk : Roles s0 s) : RolesO s0 (execPrgRun p st s) := by
  unfold execPrgRun
  repeat (first | with_reducible assumption | with_reducible apply RolesO.next | with_reducible apply RolesO.ite | with_reducible apply runCmd_roles | with_reducible apply updStream_roles | intro _ | with_reducible apply Roles.ite | simp only [Roles.upd] | dsimp only | split)

theorem execPrgEnd_roles {s0 : State} (p : PartId) (st : StreamId) (s : State) (hk : Roles s0 s) : RolesO s0 (execPrgEnd p st s) := by
  unfold execPrgEnd
  repeat (first | with_reducible assumption | with_reducible apply RolesO.next | with_reducible apply RolesO.ite | with_reducible apply runCmd_roles | with_reducible apply cmdDone_roles | intro _ | with_reducible apply Roles.ite | simp only [Roles.upd] | dsimp only | split)

theorem waitTimeout_roles {s0 : State} (p : PartId) (st : StreamId) (s : State) (hk : Roles s0 s) : Roles s0 (waitTimeout p st s) := by
  unfold waitTimeout
  repeat (first | with_reducible assumption | with_reducible apply cmdFail_roles | intro _ | with_reducible apply Roles.ite | simp only [Roles.upd] | dsimp only | split)

theorem chargeRead_roles {s0 : State} (p : PartId) (space n : Nat) (s : State) (hk : Roles s0 s) : Roles s0 (chargeRead p space n s) := by
  unfold chargeRead
  repeat (first | with_reducible assumption | with_reducible apply charge_roles | intro _ | with_reducible apply Roles.ite | simp only [Roles.upd] | dsimp only | split)

theorem noteUe_roles {s0 : State} (p : PartId) (st : StreamId) (tag space off n : Nat) (s : State) (hk : Roles s0 s) : Roles s0 (noteUe p st tag space off n s) := by
  unfold noteUe
  repeat (first | with_reducible assumption | with_reducible apply meetHbm_roles | with_reducible apply noteOnce_roles | with_reducible refine Roles.sramFold ?_ ?_ _ _ | with_reducible apply Roles.sramFilter | with_reducible apply Roles.foldl | intro _ | with_reducible apply Roles.ite | with_reducible apply Roles.iteSnd | with_reducible apply Roles.iteFst | simp only [Roles.upd] | dsimp only | split)

theorem touch_roles {s0 : State} (p : PartId) (st : StreamId) (tag space off n : Nat) (s : State) (hk : Roles s0 s) : Roles s0 (touch p st tag space off n s) := by
  unfold touch
  repeat (first | with_reducible assumption | with_reducible apply noteUe_roles | with_reducible apply chargeRead_roles | intro _ | with_reducible apply Roles.ite | simp only [Roles.upd] | dsimp only | split)

theorem tdWriteWords_roles {s0 : State} (p : PartId) (t : Bytes) : ∀ (x0 : Nat) (x1 : List Nat) (s : State), Roles s0 s → Roles s0 (tdWriteWords p t x0 x1 s)
  | _x0, [], s, h => by
    unfold tdWriteWords
    repeat (first | with_reducible assumption | with_reducible apply spaceWrite_roles | intro _ | with_reducible apply Roles.ite | simp only [Roles.upd] | dsimp only | split)
  | k, w :: ws, s, h => by
    unfold tdWriteWords
    repeat (first | with_reducible assumption | with_reducible apply tdWriteWords_roles | with_reducible apply spaceWrite_roles | intro _ | with_reducible apply Roles.ite | simp only [Roles.upd] | dsimp only | split)

theorem eachUntil_roles {s0 : State} {α : Type} (f : α → State → Except CmdErr State) (hf : ∀ x s t, f x s = .ok t → Roles s0 s → Roles s0 t) :
    ∀ (l : List α) (s : State), Roles s0 s → Roles s0 (eachUntil f l s).1
  | [], s, h => h
  | x :: l, s, h => by
    unfold eachUntil
    split
    · exact eachUntil_roles f hf l _ (hf _ _ _ (by assumption) h)
    · exact h

theorem finish_roles {s0 : State} (p : PartId) (st : StreamId) (d : Bytes) (r : State × Option CmdErr) (h : Roles s0 r.1) : Roles s0 (finish p st d r) := by
  unfold finish
  repeat (first | with_reducible assumption | with_reducible apply cmdFail_roles | with_reducible apply cmdDone_roles | intro _ | with_reducible apply Roles.ite | simp only [Roles.upd] | dsimp only | split)

theorem touchTd_roles {s0 : State} (p : PartId) (st : StreamId) (tag : Nat) (t : Bytes) (s : State) (hk : Roles s0 s) : Roles s0 (touchTd p st tag t s) := by
  unfold touchTd
  repeat (first | with_reducible assumption | with_reducible apply eachOf_roles | with_reducible apply touch_roles | intro _ | with_reducible apply Roles.ite | simp only [Roles.upd] | dsimp only | split)

theorem touchSlice_roles {s0 : State} (p : PartId) (st : StreamId) (tag : Nat) (t : Bytes) (k : Nat) (s : State) (hk : Roles s0 s) : Roles s0 (touchSlice p st tag t k s) := by
  unfold touchSlice
  repeat (first | with_reducible assumption | with_reducible apply touch_roles | with_reducible apply eachOf_roles | intro _ | with_reducible apply Roles.ite | simp only [Roles.upd] | dsimp only | split)

theorem writeCells_roles {s0 : State} (p : PartId) (space : Nat) (cs : List (Nat × Bytes × Bool)) (s : State) (hk : Roles s0 s) : Roles s0 (writeCells p space cs s) := by
  unfold writeCells
  repeat (first | with_reducible assumption | with_reducible apply eachOf_roles | with_reducible apply spaceWrite_roles | with_reducible apply spaceMark_roles | intro _ | with_reducible apply Roles.ite | with_reducible apply Roles.iteSnd | with_reducible apply Roles.iteFst | simp only [Roles.upd] | dsimp only | split)

theorem copyElems_roles {s0 : State} (p : PartId) (src dst : Bytes) (i j n : Nat) (s : State) (hk : Roles s0 s) : Roles s0 (copyElems p src dst i j n s) := by
  unfold copyElems
  repeat (first | with_reducible assumption | with_reducible apply writeCells_roles | intro _ | with_reducible apply Roles.ite | simp only [Roles.upd] | dsimp only | split)

theorem zeroSlice_roles {s0 : State} (p : PartId) (t : Bytes) (k : Nat) (s : State) (hk : Roles s0 s) : Roles s0 (zeroSlice p t k s) := by
  unfold zeroSlice
  repeat (first | with_reducible assumption | with_reducible apply writeCells_roles | intro _ | with_reducible apply Roles.ite | simp only [Roles.upd] | dsimp only | split)

theorem traceStep_roles {s0 : State} (p : PartId) (bit : Nat) (kind : TraceKind) (detail : Nat) (withdrawn : Bool) (s : State) (hk : Roles s0 s) : Roles s0 (traceStep p bit kind detail withdrawn s) := by
  unfold traceStep
  repeat (first | with_reducible assumption | with_reducible apply traceGen_roles | intro _ | with_reducible apply Roles.ite | simp only [Roles.upd] | dsimp only | split)

theorem traceStage_roles {s0 : State} (p : PartId) (code : Nat) (s : State) (hk : Roles s0 s) : Roles s0 (traceStage p code s) := by
  unfold traceStage
  repeat (first | with_reducible assumption | with_reducible apply traceStep_roles | intro _ | with_reducible apply Roles.ite | simp only [Roles.upd] | dsimp only | split)

theorem traceClause_roles {s0 : State} (p : PartId) (kind : TraceKind) (tag : Nat) (s : State) (hk : Roles s0 s) : Roles s0 (traceClause p kind tag s) := by
  unfold traceClause
  repeat (first | with_reducible assumption | with_reducible apply traceStep_roles | intro _ | with_reducible apply Roles.ite | simp only [Roles.upd] | dsimp only | split)

theorem fillGate_roles {s0 : State} (p : PartId) (tag : Nat) (m : Model) (layer n : Nat) (s : State) (hk : Roles s0 s) : Roles s0 (fillGate p tag m layer n s) := by
  unfold fillGate
  repeat (first | with_reducible assumption | with_reducible apply touch_roles | with_reducible apply updPart_roles | with_reducible apply eachOf_roles | intro _ | with_reducible apply Roles.ite | with_reducible apply Roles.iteSnd | with_reducible apply Roles.iteFst | simp only [Roles.upd] | dsimp only | split)

theorem writeClauses_roles {s0 : State} (p : PartId) (td : Bytes) (pos : Nat) (rs : List Bytes) (s : State) (hk : Roles s0 s) : Roles s0 (writeClauses p td pos rs s) := by
  unfold writeClauses
  repeat (first | with_reducible assumption | with_reducible apply clauseWrite_roles | with_reducible apply Roles.foldl | intro _ | with_reducible apply Roles.ite | simp only [Roles.upd] | dsimp only | split)

theorem expectSlot_roles {s0 : State} (p : PartId) (slot layer n : Nat) (s : State) (hk : Roles s0 s) : Roles s0 (expectSlot p slot layer n s) := by
  unfold expectSlot
  repeat (first | with_reducible assumption | with_reducible apply updSlot_roles | intro _ | with_reducible apply Roles.ite | simp only [Roles.upd] | dsimp only | split)

theorem commitClauses_roles {s0 : State} (p : PartId) (td : Bytes) (pos slot layer : Nat) (r : RouterLayer) (poison : Bool) (cs : List (Nat × Nat × Nat × Nat)) (s : State) (hk : Roles s0 s) : Roles s0 (commitClauses p td pos slot layer r poison cs s) := by
  unfold commitClauses
  repeat (first | with_reducible assumption | with_reducible apply writeClauses_roles | with_reducible apply expectSlot_roles | with_reducible apply updSlot_roles | with_reducible apply cntPart64_roles | with_reducible apply cntPart_roles | intro _ | with_reducible apply Roles.ite | simp only [Roles.upd] | dsimp only | split)

theorem sendVerdict_roles {s0 : State} (p : PartId) (x : Clause) (confirm : Bool) (rank weight : Nat) (s : State) (hk : Roles s0 s) : Roles s0 (sendVerdict p x confirm rank weight s) := by
  unfold sendVerdict
  repeat (first | with_reducible assumption | with_reducible apply applyVerdict_roles | with_reducible apply sendVerdicts_roles | intro _ | with_reducible apply Roles.ite | simp only [Roles.upd] | dsimp only | split)

theorem cancelClause_roles {s0 : State} (p : PartId) (x : Clause) (s : State) (hk : Roles s0 s) : Roles s0 (cancelClause p x s) := by
  unfold cancelClause
  repeat (first | with_reducible assumption | with_reducible apply traceClause_roles | with_reducible apply cntPart64_roles | with_reducible apply updConj_roles | with_reducible apply suppress_roles | with_reducible apply sendVerdict_roles | intro _ | with_reducible apply Roles.ite | simp only [Roles.upd] | dsimp only | split)

theorem recordLost_roles {s0 : State} (p : PartId) (x : Clause) (code : Nat) (s : State) (hk : Roles s0 s) : Roles s0 (recordLost p x code s) := by
  unfold recordLost
  repeat (first | with_reducible assumption | with_reducible apply reissueClause_roles | with_reducible apply record_roles | intro _ | with_reducible apply Roles.ite | simp only [Roles.upd] | dsimp only | split)

theorem confirmClause_roles {s0 : State} (p : PartId) (x : Clause) (rank weight : Nat) (s : State) (hk : Roles s0 s) : Roles s0 (confirmClause p x rank weight s) := by
  unfold confirmClause
  repeat (first | with_reducible assumption | with_reducible apply cntPart64_roles | with_reducible apply updConj_roles | with_reducible apply traceClause_roles | with_reducible apply sendVerdict_roles | with_reducible apply recordLost_roles | intro _ | with_reducible apply Roles.ite | simp only [Roles.upd] | dsimp only | split)

theorem issueVerdicts_roles {s0 : State} (p : PartId) (sel : List (Nat × Nat × Nat)) (ws : List Nat) (spec : List Clause) (s : State) (hk : Roles s0 s) : Roles s0 (issueVerdicts p sel ws spec s) := by
  unfold issueVerdicts
  repeat (first | with_reducible assumption | with_reducible apply eachOf_roles | with_reducible apply confirmClause_roles | with_reducible apply cancelClause_roles | intro _ | with_reducible apply Roles.ite | with_reducible apply Roles.iteSnd | with_reducible apply Roles.iteFst | simp only [Roles.upd] | dsimp only | split)

theorem commitToken_roles {s0 : State} (p : PartId) (d td : Bytes) (sc : Option Bytes) (base pos : Nat) (s : State) (hk : Roles s0 s) : Roles s0 (commitToken p d td sc base pos s) := by
  unfold commitToken
  repeat (first | with_reducible assumption | with_reducible apply cntPart64_roles | with_reducible apply cntPart_roles | with_reducible apply tdWriteWords_roles | with_reducible apply updPart_roles | with_reducible apply issueVerdicts_roles | with_reducible apply commitClauses_roles | intro _ | with_reducible apply Roles.ite | with_reducible apply Roles.iteSnd | with_reducible apply Roles.iteFst | simp only [Roles.upd] | dsimp only | split)

theorem commitAll_roles {s0 : State} (p : PartId) (d td : Bytes) (sc : Option Bytes) (base : Nat) : ∀ (x0 : Nat) (x1 : Nat) (s : State), Roles s0 s → Roles s0 (commitAll p d td sc base x0 x1 s)
  | 0, _x1, s, h => by
    unfold commitAll
    repeat (first | with_reducible assumption | with_reducible apply commitToken_roles | intro _ | with_reducible apply Roles.ite | simp only [Roles.upd] | dsimp only | split)
  | n + 1, pos, s, h => by
    unfold commitAll
    repeat (first | with_reducible assumption | with_reducible apply commitAll_roles | with_reducible apply commitToken_roles | intro _ | with_reducible apply Roles.ite | simp only [Roles.upd] | dsimp only | split)

theorem execRteSelect_roles {s0 : State} (p : PartId) (s : State) (hk : Roles s0 s) : RolesO s0 (execRteSelect p s) := by
  unfold execRteSelect
  repeat (first | with_reducible assumption | with_reducible apply RolesO.next | with_reducible apply RolesO.ite | with_reducible apply runCmd_roles | with_reducible apply cmdFail_roles | with_reducible apply fillGate_roles | with_reducible apply updExec_roles | with_reducible apply cmdDone_roles | with_reducible apply commitAll_roles | intro _ | with_reducible apply Roles.ite | with_reducible apply Roles.iteSnd | with_reducible apply Roles.iteFst | simp only [Roles.upd] | dsimp only | split)

theorem execTokenSelectionCommit_roles {s0 : State} (p : PartId) (pos : Nat) (s : State) (hk : Roles s0 s) : RolesO s0 (execTokenSelectionCommit p pos s) := by
  unfold execTokenSelectionCommit
  repeat (first | with_reducible assumption | with_reducible apply RolesO.next | with_reducible apply RolesO.ite | with_reducible apply commitToken_roles | with_reducible apply updExec_roles | with_reducible apply cmdDone_roles | intro _ | with_reducible apply Roles.ite | with_reducible apply Roles.iteSnd | with_reducible apply Roles.iteFst | simp only [Roles.upd] | dsimp only | split)

theorem speculate_roles {s0 : State} (p : PartId) (c : Conj) (m : Model) (slot expert rank : Nat) (s : State) (hk : Roles s0 s) : Roles s0 (speculate p c m slot expert rank s) := by
  unfold speculate
  repeat (first | with_reducible assumption | with_reducible apply suppress_roles | with_reducible apply cntPart_roles | with_reducible apply clauseWrite_roles | with_reducible apply issueClause_roles | with_reducible apply traceClause_roles | with_reducible apply cntPart64_roles | intro _ | with_reducible apply Roles.ite | simp only [Roles.upd] | dsimp only | split)

theorem takeShadow_roles {s0 : State} (p : PartId) (c : Conj) (m : Model) (slot : Nat) (ps : List (Nat × Bool)) (s : State) (hk : Roles s0 s) : Roles s0 (takeShadow p c m slot ps s) := by
  unfold takeShadow
  repeat (first | with_reducible assumption | with_reducible apply eachOf_roles | with_reducible apply speculate_roles | with_reducible apply cntPart_roles | with_reducible apply updPart_roles | intro _ | with_reducible apply Roles.ite | with_reducible apply Roles.iteSnd | with_reducible apply Roles.iteFst | simp only [Roles.upd] | dsimp only | split)

theorem execShadowScoreDone_roles {s0 : State} (p : PartId) (pos : Nat) (s : State) (hk : Roles s0 s) : RolesO s0 (execShadowScoreDone p pos s) := by
  unfold execShadowScoreDone
  repeat (first | with_reducible assumption | with_reducible apply RolesO.next | with_reducible apply RolesO.ite | with_reducible apply suppress_roles | with_reducible apply takeShadow_roles | intro _ | with_reducible apply Roles.ite | simp only [Roles.upd] | dsimp only | split)

theorem writeRecs_roles {s0 : State} (p : PartId) (t : Bytes) : ∀ (x0 : Nat) (x1 : List Bytes) (s : State), Roles s0 s → Roles s0 (writeRecs p t x0 x1 s)
  | _x0, [], s, h => by
    unfold writeRecs
    repeat (first | with_reducible assumption | with_reducible apply spaceWrite_roles | intro _ | with_reducible apply Roles.ite | simp only [Roles.upd] | dsimp only | split)
  | k, r :: rs, s, h => by
    unfold writeRecs
    repeat (first | with_reducible assumption | with_reducible apply writeRecs_roles | with_reducible apply spaceWrite_roles | intro _ | with_reducible apply Roles.ite | simp only [Roles.upd] | dsimp only | split)

theorem proposeCounts_roles {s0 : State} (p : PartId) (n : Nat) (rows : List (Nat × Bool × List Nat)) (s : State) (hk : Roles s0 s) : Roles s0 (proposeCounts p n rows s) := by
  unfold proposeCounts
  repeat (first | with_reducible assumption | with_reducible apply cntPart_roles | with_reducible apply cntPart64_roles | intro _ | with_reducible apply Roles.ite | with_reducible apply Roles.iteSnd | with_reducible apply Roles.iteFst | simp only [Roles.upd] | dsimp only | split)

theorem execRtePropose_roles {s0 : State} (p : PartId) (s : State) (hk : Roles s0 s) : RolesO s0 (execRtePropose p s) := by
  unfold execRtePropose
  repeat (first | with_reducible assumption | with_reducible apply RolesO.next | with_reducible apply RolesO.ite | with_reducible apply runCmd_roles | with_reducible apply cmdFail_roles | with_reducible apply updExec_roles | with_reducible apply fillGate_roles | with_reducible apply eachOf_roles | with_reducible apply updSlot_roles | with_reducible apply cmdDone_roles | with_reducible apply writeRecs_roles | with_reducible apply proposeCounts_roles | intro _ | with_reducible apply Roles.ite | with_reducible apply Roles.iteSnd | with_reducible apply Roles.iteFst | simp only [Roles.upd] | dsimp only | split)

theorem assignToken_roles {s0 : State} (p : PartId) (ct : Bytes) (base layer : Nat) (r : RouterLayer) (es : List (Nat × Nat × Nat × Nat)) (pos : Nat) (s : State) (hk : Roles s0 s) : Roles s0 (assignToken p ct base layer r es pos s) := by
  unfold assignToken
  repeat (first | with_reducible assumption | with_reducible apply cntPart_roles | with_reducible apply commitClauses_roles | intro _ | with_reducible apply Roles.ite | with_reducible apply Roles.iteSnd | with_reducible apply Roles.iteFst | simp only [Roles.upd] | dsimp only | split)

theorem execRteAssign_roles {s0 : State} (p : PartId) (s : State) (hk : Roles s0 s) : RolesO s0 (execRteAssign p s) := by
  unfold execRteAssign
  repeat (first | with_reducible assumption | with_reducible apply RolesO.next | with_reducible apply RolesO.ite | with_reducible apply runCmd_roles | with_reducible apply cmdFail_roles | with_reducible apply updPart_roles | with_reducible apply updExec_roles | with_reducible apply cmdDone_roles | with_reducible apply eachOf_roles | with_reducible apply assignToken_roles | intro _ | with_reducible apply Roles.ite | with_reducible apply Roles.iteSnd | with_reducible apply Roles.iteFst | simp only [Roles.upd] | dsimp only | split)

theorem resolveRecord_roles {s0 : State} (p : PartId) (tag : Nat) (m : Model) (layer : Nat) (td : Bytes) (x : Nat × Bytes) (acc : State × List Nat)
    (h : Roles s0 acc.1) : Roles s0 (resolveRecord p tag m layer td x acc).1 := by
  obtain ⟨s, seen⟩ := acc
  obtain ⟨pos, r⟩ := x
  unfold resolveRecord
  dsimp only
  split
  · exact h
  · split
    · (try dsimp only)
      repeat (first | with_reducible assumption | with_reducible apply clauseWrite_roles | with_reducible apply cntDev_roles | with_reducible apply outside_roles | with_reducible apply noteResolved_roles | with_reducible apply record_roles | intro _ | with_reducible apply Roles.ite | simp only [Roles.upd] | dsimp only | split)
    · (try dsimp only)
      split
      · (try dsimp only)
        repeat (first | with_reducible assumption | with_reducible apply clauseWrite_roles | with_reducible apply cntDev_roles | with_reducible apply outside_roles | with_reducible apply noteResolved_roles | with_reducible apply record_roles | intro _ | with_reducible apply Roles.ite | simp only [Roles.upd] | dsimp only | split)
      · (try dsimp only)
        repeat (first | with_reducible assumption | with_reducible apply clauseWrite_roles | with_reducible apply cntDev_roles | with_reducible apply outside_roles | with_reducible apply noteResolved_roles | with_reducible apply record_roles | intro _ | with_reducible apply Roles.ite | simp only [Roles.upd] | dsimp only | split)

theorem resolveRecord_foldl_roles {s0 : State} (p : PartId) (tag : Nat) (m : Model) (layer : Nat) (td : Bytes) :
    ∀ (l : List (Nat × Bytes)) (acc : State × List Nat), Roles s0 acc.1 → Roles s0 (l.foldl (fun a x => resolveRecord p tag m layer td x a) acc).1
  | [], _, h => h
  | x :: l, acc, h => resolveRecord_foldl_roles p tag m layer td l _ (resolveRecord_roles p tag m layer td x acc h)

theorem resolveList_roles {s0 : State} (p : PartId) (tag : Nat) (m : Model) (layer : Nat) (td : Bytes) (cs : List (Nat × Bytes)) (s : State) (hk : Roles s0 s) :
    Roles s0 (resolveList p tag m layer td cs s) := resolveRecord_foldl_roles p tag m layer td cs (s, []) hk

theorem execSrtBucket_roles {s0 : State} (p : PartId) (s : State) (hk : Roles s0 s) : RolesO s0 (execSrtBucket p s) := by
  unfold execSrtBucket
  repeat (first | with_reducible assumption | with_reducible apply RolesO.next | with_reducible apply RolesO.ite | with_reducible apply runCmd_roles | with_reducible apply cmdFail_roles | with_reducible apply resolveList_roles | with_reducible apply tdWriteWords_roles | with_reducible apply cntPart64_roles | with_reducible apply cmdDone_roles | with_reducible apply cntPart_roles | intro _ | with_reducible apply Roles.ite | with_reducible apply Roles.iteSnd | with_reducible apply Roles.iteFst | simp only [Roles.upd] | dsimp only | split)

theorem gatherRow_roles {s0 t : State} {p : PartId} {d : Bytes} {src ix dst : Nat × Bytes} {i : Nat} {s : State} (e : gatherRow p d src ix dst i s = .ok t) (hk : Roles s0 s) : Roles s0 t := by
  unfold gatherRow at e
  (try dsimp only at e)
  repeat' split at e
  all_goals (try cases e)
  all_goals repeat (first | with_reducible assumption | with_reducible apply zeroSlice_roles | with_reducible apply copyElems_roles | with_reducible apply touchSlice_roles | intro _ | with_reducible apply Roles.ite | with_reducible apply Roles.iteSnd | with_reducible apply Roles.iteFst | simp only [Roles.upd] | dsimp only | split)

theorem execDspGather_roles {s0 : State} (p : PartId) (s : State) (hk : Roles s0 s) : RolesO s0 (execDspGather p s) := by
  unfold execDspGather
  repeat (first | with_reducible assumption | with_reducible apply RolesO.next | with_reducible apply RolesO.ite | with_reducible apply runCmd_roles | with_reducible apply cmdFail_roles | with_reducible apply finish_roles | with_reducible apply eachUntil_roles | with_reducible refine gatherRow_roles (by with_reducible assumption) ?_ | intro _ | with_reducible apply Roles.ite | with_reducible apply Roles.iteSnd | with_reducible apply Roles.iteFst | simp only [Roles.upd] | dsimp only | split)

theorem accumRow_roles {s0 t : State} {p : PartId} {d : Bytes} {m : Model} {rows td ix : Nat × Bytes} {i : Nat} {s : State} (e : accumRow p d m rows td ix i s = .ok t) (hk : Roles s0 s) : Roles s0 t := by
  unfold accumRow at e
  (try dsimp only at e)
  repeat' split at e
  all_goals (try cases e)
  all_goals repeat (first | with_reducible assumption | with_reducible apply touch_roles | with_reducible apply contribute_roles | intro _ | with_reducible apply Roles.ite | with_reducible apply Roles.iteSnd | with_reducible apply Roles.iteFst | simp only [Roles.upd] | dsimp only | split)

theorem execCmbAccum_roles {s0 : State} (p : PartId) (s : State) (hk : Roles s0 s) : RolesO s0 (execCmbAccum p s) := by
  unfold execCmbAccum
  repeat (first | with_reducible assumption | with_reducible apply RolesO.next | with_reducible apply RolesO.ite | with_reducible apply runCmd_roles | with_reducible apply cmdFail_roles | with_reducible apply finish_roles | with_reducible apply eachUntil_roles | with_reducible refine accumRow_roles (by with_reducible assumption) ?_ | intro _ | with_reducible apply Roles.ite | simp only [Roles.upd] | dsimp only | split)

theorem execCmbFinal_roles {s0 : State} (p : PartId) (s : State) (hk : Roles s0 s) : RolesO s0 (execCmbFinal p s) := by
  unfold execCmbFinal
  repeat (first | with_reducible assumption | with_reducible apply RolesO.next | with_reducible apply RolesO.ite | with_reducible apply runCmd_roles | with_reducible apply cmdFail_roles | with_reducible apply cmdDone_roles | with_reducible apply eachOf_roles | with_reducible apply roundSlot_roles | intro _ | with_reducible apply Roles.ite | simp only [Roles.upd] | dsimp only | split)

theorem touchWeights_roles {s0 : State} (p : PartId) (tag : Nat) (m : Model) (layer expert : Nat) (s : State) (hk : Roles s0 s) : Roles s0 (touchWeights p tag m layer expert s) := by
  unfold touchWeights
  repeat (first | with_reducible assumption | with_reducible apply touch_roles | intro _ | with_reducible apply Roles.ite | simp only [Roles.upd] | dsimp only | split)

theorem expertRow_roles {s0 t : State} {p : PartId} {d : Bytes} {m : Model} {work : Bool} {rows out : Nat × Bytes} {ix gate : Option (Nat × Bytes)} {i : Nat} {s : State} (e : expertRow p d m work rows out ix gate i s = .ok t) (hk : Roles s0 s) : Roles s0 t := by
  unfold expertRow at e
  (try dsimp only at e)
  repeat' split at e
  all_goals (try cases e)
  all_goals repeat (first | with_reducible assumption | with_reducible refine takeFree_roles (by with_reducible assumption) ?_ | with_reducible apply takeFree_snd_roles | with_reducible apply touch_roles | with_reducible apply cntPart64_roles | with_reducible apply cntPart_roles | with_reducible apply spaceWrite_roles | with_reducible apply spaceMark_roles | intro _ | with_reducible apply Roles.ite | with_reducible apply Roles.iteSnd | with_reducible apply Roles.iteFst | simp only [Roles.upd] | dsimp only | split)

theorem seqBusy_roles {s0 : State} (p : PartId) (s : State) (hk : Roles s0 s) : Roles s0 (seqBusy p s) := by
  unfold seqBusy
  repeat (first | with_reducible assumption | with_reducible refine takeFree_roles (by with_reducible assumption) ?_ | with_reducible apply takeFree_snd_roles | with_reducible apply cntPart64_roles | intro _ | with_reducible apply Roles.ite | with_reducible apply Roles.iteSnd | with_reducible apply Roles.iteFst | simp only [Roles.upd] | dsimp only | split)

theorem passCycles_roles {s0 : State} (p : PartId) (s : State) (hk : Roles s0 s) : Roles s0 (passCycles p s) := by
  unfold passCycles
  repeat (first | with_reducible assumption | with_reducible refine takeFree_roles (by with_reducible assumption) ?_ | with_reducible apply takeFree_snd_roles | with_reducible apply seqBusy_roles | with_reducible apply cntPart64_roles | intro _ | with_reducible apply Roles.ite | with_reducible apply Roles.iteSnd | with_reducible apply Roles.iteFst | simp only [Roles.upd] | dsimp only | split)

theorem beginPass_roles {s0 : State} (p : PartId) (x : Pass) (s : State) (hk : Roles s0 s) : Roles s0 (beginPass p x s) := by
  unfold beginPass
  repeat (first | with_reducible assumption | with_reducible apply updPart_roles | intro _ | with_reducible apply Roles.ite | simp only [Roles.upd] | dsimp only | split)

theorem seqExpert_roles {s0 : State} (p : PartId) (work : Bool) (d : Bytes) (s : State) (hk : Roles s0 s) : Roles s0 (seqExpert p work d s) := by
  unfold seqExpert
  repeat (first | with_reducible assumption | with_reducible apply cmdFail_roles | with_reducible apply dropClusters_roles | with_reducible apply beginPass_roles | with_reducible apply passCycles_roles | with_reducible apply touchWeights_roles | with_reducible apply finish_roles | with_reducible apply eachUntil_roles | with_reducible refine expertRow_roles (by with_reducible assumption) ?_ | intro _ | with_reducible apply Roles.ite | simp only [Roles.upd] | dsimp only | split)

theorem endAlone_roles {s0 : State} (p : PartId) (s : State) (hk : Roles s0 s) : Roles s0 (endAlone p s) := by
  unfold endAlone
  repeat (first | with_reducible assumption | with_reducible apply dropClusters_roles | with_reducible apply cntPart_roles | with_reducible apply updPart_roles | intro _ | with_reducible apply Roles.ite | simp only [Roles.upd] | dsimp only | split)

theorem traceEnd_roles {s0 : State} (p : PartId) (s : State) (hk : Roles s0 s) : Roles s0 (traceEnd p s) := by
  unfold traceEnd
  repeat (first | with_reducible assumption | with_reducible apply traceStage_roles | with_reducible apply updConj_roles | intro _ | with_reducible apply Roles.ite | simp only [Roles.upd] | dsimp only | split)

theorem conjSettle_roles {s0 : State} (p : PartId) (s : State) (hk : Roles s0 s) : Roles s0 (conjSettle p s) := by
  unfold conjSettle
  repeat (first | with_reducible assumption | with_reducible apply traceEnd_roles | with_reducible apply updPart_roles | with_reducible apply cmdDone_roles | intro _ | with_reducible apply Roles.ite | simp only [Roles.upd] | dsimp only | split)

theorem judgeReplica_roles {s0 : State} (p : PartId) (c : Conj) (e k : Nat) (s : State) (hk : Roles s0 s) : Roles s0 (judgeReplica p c e k s) := by
  unfold judgeReplica
  repeat (first | with_reducible assumption | with_reducible apply eachOf_roles | with_reducible apply overflowRow_roles | intro _ | with_reducible apply Roles.ite | simp only [Roles.upd] | dsimp only | split)

theorem releaseJudged_roles {s0 : State} (p : PartId) (c : Conj) (s : State) (hk : Roles s0 s) : Roles s0 (releaseJudged p c s) := by
  unfold releaseJudged
  repeat (first | with_reducible assumption | with_reducible apply eachOf_roles | with_reducible apply dropRow_roles | with_reducible apply returnResult_roles | intro _ | with_reducible apply Roles.ite | simp only [Roles.upd] | dsimp only | split)

theorem judgeStep_roles {s0 : State} (p : PartId) (c : Conj) (s : State) (hk : Roles s0 s) : Roles s0 (judgeStep p c s) := by
  unfold judgeStep
  repeat (first | with_reducible assumption | with_reducible apply releaseJudged_roles | with_reducible apply eachOf_roles | with_reducible apply judgeReplica_roles | intro _ | with_reducible apply Roles.ite | with_reducible apply Roles.iteSnd | with_reducible apply Roles.iteFst | simp only [Roles.upd] | dsimp only | split)

theorem tryClose_roles {s0 : State} (p : PartId) (s : State) (hk : Roles s0 s) : Roles s0 (tryClose p s) := by
  unfold tryClose
  repeat (first | with_reducible assumption | with_reducible apply traceStage_roles | with_reducible apply updConj_roles | with_reducible apply judgeStep_roles | with_reducible apply updPart_roles | with_reducible apply conjSettle_roles | intro _ | with_reducible apply Roles.ite | simp only [Roles.upd] | dsimp only | split)

theorem closeMarkers_roles {s0 : State} (p : PartId) (s : State) (hk : Roles s0 s) : Roles s0 (closeMarkers p s) := by
  unfold closeMarkers
  repeat (first | with_reducible assumption | with_reducible apply tryClose_roles | with_reducible apply updConj_roles | with_reducible apply eachOf_roles | with_reducible apply sendClose_roles | with_reducible apply traceStage_roles | intro _ | with_reducible apply Roles.ite | simp only [Roles.upd] | dsimp only | split)

theorem loseMember_roles {s0 : State} (p : PartId) (d : DevId) (s : State) (hk : Roles s0 s) : Roles s0 (loseMember p d s) := by
  unfold loseMember
  repeat (first | with_reducible assumption | with_reducible apply updConj_roles | with_reducible apply updPart_roles | with_reducible apply tryClose_roles | with_reducible apply reissueTo_roles | intro _ | with_reducible apply Roles.ite | with_reducible apply Roles.iteSnd | with_reducible apply Roles.iteFst | simp only [Roles.upd] | dsimp only | split)

theorem moveLate_roles {s0 : State} (p : PartId) (s : State) (hk : Roles s0 s) : Roles s0 (moveLate p s) := by
  unfold moveLate
  repeat (first | with_reducible assumption | with_reducible apply eachOf_roles | with_reducible apply lateHome_roles | with_reducible apply withdrawRow_roles | intro _ | with_reducible apply Roles.ite | simp only [Roles.upd] | dsimp only | split)

theorem deadlineMiss_roles {s0 : State} (p : PartId) (st : StreamId) (tag : Nat) (s : State) (hk : Roles s0 s) : Roles s0 (deadlineMiss p st tag s) := by
  unfold deadlineMiss
  repeat (first | with_reducible assumption | with_reducible apply record_roles | with_reducible apply updJob_roles | intro _ | with_reducible apply Roles.ite | simp only [Roles.upd] | dsimp only | split)

theorem projectCheck_roles {s0 : State} (p : PartId) (isD : Bool) (s : State) (hk : Roles s0 s) : Roles s0 (projectCheck p isD s) := by
  unfold projectCheck
  repeat (first | with_reducible assumption | with_reducible apply updJob_roles | with_reducible apply deadlineMiss_roles | with_reducible apply cntPart_roles | with_reducible apply moveLate_roles | with_reducible apply updConj_roles | intro _ | with_reducible apply Roles.ite | simp only [Roles.upd] | dsimp only | split)

theorem dispatchClause_roles {s0 : State} (p : PartId) (m : Model) (pos : Nat) (r : Bytes) (s : State) (hk : Roles s0 s) : Roles s0 (dispatchClause p m pos r s) := by
  unfold dispatchClause
  repeat (first | with_reducible assumption | with_reducible apply issueClause_roles | with_reducible apply cmdFail_roles | with_reducible apply homeClause_roles | with_reducible apply clauseWrite_roles | with_reducible apply lateHome_roles | with_reducible apply cntPart_roles | intro _ | with_reducible apply Roles.ite | simp only [Roles.upd] | dsimp only | split)

theorem dispatchTo_roles {s0 : State} (p : PartId) (rd : Nat) (s : State) (hk : Roles s0 s) : Roles s0 (dispatchTo p rd s) := by
  unfold dispatchTo
  repeat (first | with_reducible assumption | with_reducible apply cmdFail_roles | with_reducible apply cntPart64_roles | with_reducible apply updConj_roles | with_reducible apply eachOf_roles | with_reducible apply dispatchClause_roles | intro _ | with_reducible apply Roles.ite | with_reducible apply Roles.iteSnd | with_reducible apply Roles.iteFst | simp only [Roles.upd] | dsimp only | split)

theorem conjAdvance_roles {s0 : State} (p : PartId) (s : State) (hk : Roles s0 s) : Roles s0 (conjAdvance p s) := by
  unfold conjAdvance
  repeat (first | with_reducible assumption | with_reducible apply conjSettle_roles | with_reducible apply dispatchTo_roles | with_reducible apply traceStage_roles | with_reducible apply updConj_roles | with_reducible apply closeMarkers_roles | intro _ | with_reducible apply Roles.ite | simp only [Roles.upd] | dsimp only | split)

theorem execDeadlineCheckpoint_roles {s0 : State} (p : PartId) (dispatch : Bool) (s : State) (hk : Roles s0 s) : RolesO s0 (execDeadlineCheckpoint p dispatch s) := by
  unfold execDeadlineCheckpoint
  repeat (first | with_reducible assumption | with_reducible apply RolesO.next | with_reducible apply RolesO.ite | with_reducible apply conjAdvance_roles | with_reducible apply projectCheck_roles | with_reducible apply traceStage_roles | with_reducible apply updConj_roles | intro _ | with_reducible apply Roles.ite | simp only [Roles.upd] | dsimp only | split)

theorem startConj_roles {s0 : State} (p : PartId) (d td : Bytes) (parts : List DevId) (s : State) (hk : Roles s0 s) : Roles s0 (startConj p d td parts s) := by
  unfold startConj
  repeat (first | with_reducible assumption | with_reducible apply updPart_roles | with_reducible apply eachOf_roles | with_reducible apply updSlot_roles | with_reducible apply admitRow_roles | intro _ | with_reducible apply Roles.ite | simp only [Roles.upd] | dsimp only | split)

theorem execConjStep_roles {s0 : State} (p : PartId) (s : State) (hk : Roles s0 s) : RolesO s0 (execConjStep p s) := by
  unfold execConjStep
  repeat (first | with_reducible assumption | with_reducible apply RolesO.next | with_reducible apply RolesO.ite | with_reducible apply runCmd_roles | with_reducible apply cmdFail_roles | with_reducible apply conjSettle_roles | with_reducible apply conjAdvance_roles | with_reducible apply startConj_roles | intro _ | with_reducible apply Roles.ite | with_reducible apply Roles.iteSnd | with_reducible apply Roles.iteFst | simp only [Roles.upd] | dsimp only | split)

theorem startPass_roles {s0 : State} (p : PartId) (m : Model) (expert : Nat) (rs : List RowRec) (reissue : Bool) (s : State) (hk : Roles s0 s) : Roles s0 (startPass p m expert rs reissue s) := by
  unfold startPass
  repeat (first | with_reducible assumption | with_reducible apply charge_roles | with_reducible apply hbmGo_roles | with_reducible apply updRows_roles | with_reducible apply beginPass_roles | with_reducible apply updConj_roles | with_reducible apply Roles.foldl | intro _ | with_reducible apply Roles.ite | with_reducible apply Roles.iteSnd | with_reducible apply Roles.iteFst | simp only [Roles.upd] | dsimp only | split)

theorem passStart_roles {s0 : State} (p : PartId) (expert : Nat) (s : State) (hk : Roles s0 s) : Roles s0 (passStart p expert s) := by
  unfold passStart
  repeat (first | with_reducible assumption | with_reducible apply hbmHold_roles | with_reducible apply startPass_roles | with_reducible apply dropClusters_roles | intro _ | with_reducible apply Roles.ite | simp only [Roles.upd] | dsimp only | split)

theorem reissuePass_roles {s0 : State} (p : PartId) (expert : Nat) (s : State) (hk : Roles s0 s) : Roles s0 (reissuePass p expert s) := by
  unfold reissuePass
  repeat (first | with_reducible assumption | with_reducible apply hbmHold_roles | with_reducible apply startPass_roles | with_reducible apply dropClusters_roles | intro _ | with_reducible apply Roles.ite | simp only [Roles.upd] | dsimp only | split)

theorem endRow_roles {s0 : State} (p : PartId) (m : Model) (bad : Bool) (tag : Nat) (s : State) (hk : Roles s0 s) : Roles s0 (endRow p m bad tag s) := by
  unfold endRow
  repeat (first | with_reducible assumption | with_reducible apply cntPart_roles | with_reducible apply updRow_roles | with_reducible apply returnResult_roles | with_reducible apply dropRow_roles | intro _ | with_reducible apply Roles.ite | simp only [Roles.upd] | dsimp only | split)

theorem applyKept_roles {s0 : State} (p : PartId) (tag : Nat) (s : State) (hk : Roles s0 s) : Roles s0 (applyKept p tag s) := by
  unfold applyKept
  repeat (first | with_reducible assumption | with_reducible apply applyVerdict_roles | intro _ | with_reducible apply Roles.ite | simp only [Roles.upd] | dsimp only | split)

theorem passFault_roles {s0 : State} (p : PartId) (m : Model) (x : Pass) (s : State) (hk : Roles s0 s) : Roles s0 (passFault p m x s) := by
  unfold passFault
  repeat (first | with_reducible assumption | with_reducible apply holdFault_roles | intro _ | with_reducible apply Roles.ite | simp only [Roles.upd] | dsimp only | split)

theorem passCharge_roles {s0 : State} (p : PartId) (m : Model) (x : Pass) (s : State) (hk : Roles s0 s) : Roles s0 (passCharge p m x s) := by
  unfold passCharge
  repeat (first | with_reducible assumption | with_reducible apply noteUe_roles | with_reducible apply cntPart_roles | with_reducible apply cntPart64_roles | with_reducible apply passCycles_roles | intro _ | with_reducible apply Roles.ite | simp only [Roles.upd] | dsimp only | split)

theorem passEnd_roles {s0 : State} (p : PartId) (s : State) (hk : Roles s0 s) : Roles s0 (passEnd p s) := by
  unfold passEnd
  repeat (first | with_reducible assumption | with_reducible apply eachOf_roles | with_reducible apply endRow_roles | with_reducible apply passCharge_roles | with_reducible apply passFault_roles | with_reducible apply applyKept_roles | with_reducible apply conjSettle_roles | with_reducible apply dropClusters_roles | with_reducible apply updPart_roles | intro _ | with_reducible apply Roles.ite | simp only [Roles.upd] | dsimp only | split)

theorem probeDev_roles {s0 : State} (p : PartId) (k : Comm) (d : DevId) (s : State) (hk : Roles s0 s) : Roles s0 (probeDev p k d s) := by
  unfold probeDev
  repeat (first | with_reducible assumption | with_reducible apply sendPiece_roles | with_reducible apply updConj_roles | intro _ | with_reducible apply Roles.ite | with_reducible apply Roles.iteSnd | with_reducible apply Roles.iteFst | simp only [Roles.upd] | dsimp only | split)

theorem execStepClosureProbe_roles {s0 : State} (p : PartId) (s : State) (hk : Roles s0 s) : RolesO s0 (execStepClosureProbe p s) := by
  unfold execStepClosureProbe
  repeat (first | with_reducible assumption | with_reducible apply RolesO.next | with_reducible apply RolesO.ite | with_reducible apply eachOf_roles | with_reducible apply probeDev_roles | intro _ | with_reducible apply Roles.ite | simp only [Roles.upd] | dsimp only | split)

theorem serveEnd_roles {s0 : State} (p : PartId) (s : State) (hk : Roles s0 s) : Roles s0 (serveEnd p s) := by
  unfold serveEnd
  repeat (first | with_reducible assumption | with_reducible apply eachOf_roles | with_reducible apply orphanRow_roles | with_reducible apply dropRow_roles | with_reducible apply updPart_roles | intro _ | with_reducible apply Roles.ite | simp only [Roles.upd] | dsimp only | split)

theorem refillPart_roles {s0 : State} (n : Nat) (p : PartId) (s : State) (hk : Roles s0 s) : Roles s0 (refillPart n p s) := by
  unfold refillPart
  repeat (first | with_reducible assumption | with_reducible apply updPart_roles | intro _ | with_reducible apply Roles.ite | simp only [Roles.upd] | dsimp only | split)

theorem agePackets_roles {s0 : State} (p : PartId) (s : State) (hk : Roles s0 s) : Roles s0 (agePackets p s) := by
  unfold agePackets
  repeat (first | with_reducible assumption | intro _ | with_reducible apply Roles.ite | simp only [Roles.upd] | dsimp only | split)

theorem execRequestAging_roles {s0 : State} (p : PartId) (s : State) (hk : Roles s0 s) : RolesO s0 (execRequestAging p s) := by
  unfold execRequestAging
  repeat (first | with_reducible assumption | with_reducible apply RolesO.next | with_reducible apply RolesO.ite | with_reducible apply cntPart_roles | with_reducible apply agePackets_roles | with_reducible apply updPart_roles | intro _ | with_reducible apply Roles.ite | simp only [Roles.upd] | dsimp only | split)

theorem wakeLink_roles {s0 : State} (l : LinkId) (s : State) (hk : Roles s0 s) : Roles s0 (wakeLink l s) := by
  unfold wakeLink
  repeat (first | with_reducible assumption | with_reducible apply drainLink_roles | with_reducible apply setBrl_roles | with_reducible apply emit_roles | with_reducible apply updLink_roles | intro _ | with_reducible apply Roles.ite | simp only [Roles.upd] | dsimp only | split)

theorem advertise_roles {s0 : State} (s : State) (hk : Roles s0 s) : Roles s0 (advertise s) := by
  unfold advertise
  repeat (first | with_reducible assumption | with_reducible apply eachOf_roles | with_reducible apply sendLinkMsg_roles | with_reducible apply wakeLink_roles | with_reducible apply noticeLink_roles | intro _ | with_reducible apply Roles.ite | simp only [Roles.upd] | dsimp only | split)

theorem setMaster_roles {s0 : State} (m : Nat) (via : Option Nat) (s : State) (hk : Roles s0 s) : Roles s0 (setMaster m via s) := by
  unfold setMaster
  repeat (first | with_reducible assumption | intro _ | with_reducible apply Roles.ite | simp only [Roles.upd] | dsimp only | split)

theorem judgeMaster_roles {s0 : State} (s : State) (hk : Roles s0 s) : Roles s0 (judgeMaster s) := by
  unfold judgeMaster
  repeat (first | with_reducible assumption | with_reducible apply setMaster_roles | intro _ | with_reducible apply Roles.ite | simp only [Roles.upd] | dsimp only | split)

theorem noteBonds_roles {s0 : State} (before s : State) (hk : Roles s0 s) : Roles s0 (noteBonds before s) := by
  unfold noteBonds
  repeat (first | with_reducible assumption | intro _ | with_reducible apply Roles.ite | simp only [Roles.upd] | dsimp only | split)

theorem bondChange_roles {s0 : State} (before : State) (s : State) (hk : Roles s0 s) : Roles s0 (bondChange before s) := by
  unfold bondChange
  repeat (first | with_reducible assumption | with_reducible apply drainOut_roles | with_reducible apply eachOf_roles | with_reducible apply withdrawSpecs_roles | with_reducible apply relayReach_roles | with_reducible apply judgeReach_roles | with_reducible apply judgeMaster_roles | with_reducible apply noteBonds_roles | with_reducible apply advertise_roles | intro _ | with_reducible apply Roles.ite | simp only [Roles.upd] | dsimp only | split)

theorem linkActive_roles {s0 : State} (l : LinkId) (crypt : Bool) (s : State) (hk : Roles s0 s) : Roles s0 (linkActive l crypt s) := by
  unfold linkActive
  repeat (first | with_reducible assumption | with_reducible apply setBrl_roles | with_reducible apply updLink_roles | with_reducible apply markReachable_roles | with_reducible apply pairActive_roles | with_reducible apply dualActive_roles | with_reducible apply drainLink_roles | with_reducible apply bondChange_roles | intro _ | with_reducible apply Roles.ite | simp only [Roles.upd] | dsimp only | split)

theorem execBrlSignalDetect_roles {s0 : State} (l : LinkId) (s : State) (hk : Roles s0 s) : RolesO s0 (execBrlSignalDetect l s) := by
  unfold execBrlSignalDetect
  repeat (first | with_reducible assumption | with_reducible apply RolesO.next | with_reducible apply RolesO.ite | with_reducible apply setBrl_roles | with_reducible apply updLink_roles | with_reducible apply emit_roles | with_reducible apply enterDetect_roles | intro _ | with_reducible apply Roles.ite | simp only [Roles.upd] | dsimp only | split)

theorem execBrlEqualizeDone_roles {s0 : State} (l : LinkId) (s : State) (hk : Roles s0 s) : RolesO s0 (execBrlEqualizeDone l s) := by
  unfold execBrlEqualizeDone
  repeat (first | with_reducible assumption | with_reducible apply RolesO.next | with_reducible apply RolesO.ite | with_reducible apply sendLinkMsg_roles | with_reducible apply setBrl_roles | intro _ | with_reducible apply Roles.ite | simp only [Roles.upd] | dsimp only | split)

theorem linkAuthFail_roles {s0 : State} (l : LinkId) (s : State) (hk : Roles s0 s) : Roles s0 (linkAuthFail l s) := by
  unfold linkAuthFail
  repeat (first | with_reducible assumption | with_reducible apply secLogMerged_roles | with_reducible apply recordAll_roles | intro _ | with_reducible apply Roles.ite | simp only [Roles.upd] | dsimp only | split)

theorem freshKey_roles {s0 : State} (l : LinkId) (psk : Bytes) (s : State) (hk : Roles s0 s) : Roles s0 (freshKey l psk s) := by
  unfold freshKey
  repeat (first | with_reducible assumption | with_reducible refine takeFree_roles (by with_reducible assumption) ?_ | with_reducible apply takeFree_snd_roles | with_reducible apply updLink_roles | intro _ | with_reducible apply Roles.ite | with_reducible apply Roles.iteSnd | with_reducible apply Roles.iteFst | simp only [Roles.upd] | dsimp only | split)

theorem takeAck_roles {s0 : State} (l : LinkId) (ack : Nat) (s : State) (hk : Roles s0 s) : Roles s0 (takeAck l ack s) := by
  unfold takeAck
  repeat (first | with_reducible assumption | with_reducible apply eachOf_roles | with_reducible apply otherFlit_roles | with_reducible apply updLink_roles | intro _ | with_reducible apply Roles.ite | with_reducible apply Roles.iteSnd | with_reducible apply Roles.iteFst | simp only [Roles.upd] | dsimp only | split)

theorem replayLink_roles {s0 : State} (l : LinkId) (s : State) (hk : Roles s0 s) : Roles s0 (replayLink l s) := by
  unfold replayLink
  repeat (first | with_reducible assumption | with_reducible apply updLink_roles | with_reducible apply eachOf_roles | with_reducible apply emit_roles | intro _ | with_reducible apply Roles.ite | simp only [Roles.upd] | dsimp only | split)

theorem sendAck_roles {s0 : State} (l : LinkId) (s : State) (hk : Roles s0 s) : Roles s0 (sendAck l s) := by
  unfold sendAck
  repeat (first | with_reducible assumption | with_reducible apply idleFlit_roles | intro _ | with_reducible apply Roles.ite | simp only [Roles.upd] | dsimp only | split)

theorem discardFlit_roles {s0 : State} (l : LinkId) (s : State) (hk : Roles s0 s) : Roles s0 (discardFlit l s) := by
  unfold discardFlit
  repeat (first | with_reducible assumption | with_reducible apply sendAck_roles | with_reducible apply cntLink_roles | with_reducible apply updLink_roles | intro _ | with_reducible apply Roles.ite | simp only [Roles.upd] | dsimp only | split)

theorem packetWhole_roles {s0 : State} (l : LinkId) (vc : Nat) (b : Bytes) (s : State) (hk : Roles s0 s) : Roles s0 (packetWhole l vc b s) := by
  unfold packetWhole
  repeat (first | with_reducible assumption | with_reducible apply payOwed_roles | with_reducible apply forwardTo_roles | with_reducible apply updLink_roles | intro _ | with_reducible apply Roles.ite | simp only [Roles.upd] | dsimp only | split)

theorem deliverFlit_roles {s0 : State} (l : LinkId) (h : FlitHead) (payload : Bytes) (s : State) (hk : Roles s0 s) : Roles s0 (deliverFlit l h payload s) := by
  unfold deliverFlit
  repeat (first | with_reducible assumption | with_reducible apply updLink_roles | with_reducible apply packetWhole_roles | intro _ | with_reducible apply Roles.ite | simp only [Roles.upd] | dsimp only | split)

theorem execNakRepeat_roles {s0 : State} (l : LinkId) (s : State) (hk : Roles s0 s) : RolesO s0 (execNakRepeat l s) := by
  unfold execNakRepeat
  repeat (first | with_reducible assumption | with_reducible apply RolesO.next | with_reducible apply RolesO.ite | with_reducible apply sendAck_roles | intro _ | with_reducible apply Roles.ite | simp only [Roles.upd] | dsimp only | split)

theorem execAckTimer_roles {s0 : State} (l : LinkId) (s : State) (hk : Roles s0 s) : RolesO s0 (execAckTimer l s) := by
  unfold execAckTimer
  repeat (first | with_reducible assumption | with_reducible apply RolesO.next | with_reducible apply RolesO.ite | with_reducible apply sendAck_roles | intro _ | with_reducible apply Roles.ite | simp only [Roles.upd] | dsimp only | split)

theorem execTimeFlitReceive_roles {s0 : State} (l : LinkId) (farDt farRx : Nat) (s : State) (hk : Roles s0 s) : RolesO s0 (execTimeFlitReceive l farDt farRx s) := by
  unfold execTimeFlitReceive
  repeat (first | with_reducible assumption | with_reducible apply RolesO.next | with_reducible apply RolesO.ite | with_reducible apply updLink_roles | intro _ | with_reducible apply Roles.ite | simp only [Roles.upd] | dsimp only | split)

theorem execBondAdvertisementSend_roles {s0 : State} (s : State) (hk : Roles s0 s) : RolesO s0 (execBondAdvertisementSend s) := by
  unfold execBondAdvertisementSend
  repeat (first | with_reducible assumption | with_reducible apply RolesO.next | with_reducible apply RolesO.ite | with_reducible apply judgeReach_roles | with_reducible apply advertise_roles | intro _ | with_reducible apply Roles.ite | simp only [Roles.upd] | dsimp only | split)

theorem takeAdvert_roles {s0 : State} (m : Nat) (a : Advert) (s : State) (hk : Roles s0 s) : Roles s0 (takeAdvert m a s) := by
  unfold takeAdvert
  repeat (first | with_reducible assumption | with_reducible apply learnStart_roles | with_reducible apply Roles.foldl | intro _ | with_reducible apply Roles.ite | simp only [Roles.upd] | dsimp only | split)

theorem execBondAdvertisementReceive_roles {s0 : State} (l : LinkId) (a : Advert) (s : State) (hk : Roles s0 s) : RolesO s0 (execBondAdvertisementReceive l a s) := by
  unfold execBondAdvertisementReceive
  repeat (first | with_reducible assumption | with_reducible apply RolesO.next | with_reducible apply RolesO.ite | with_reducible apply drainOut_roles | with_reducible apply relayReach_roles | with_reducible apply judgeReach_roles | with_reducible apply takeAdvert_roles | intro _ | with_reducible apply Roles.ite | simp only [Roles.upd] | dsimp only | split)

theorem execBrlIdleTimer_roles {s0 : State} (l : LinkId) (s : State) (hk : Roles s0 s) : RolesO s0 (execBrlIdleTimer l s) := by
  unfold execBrlIdleTimer
  repeat (first | with_reducible assumption | with_reducible apply RolesO.next | with_reducible apply RolesO.ite | with_reducible apply sendLinkMsg_roles | with_reducible apply updLink_roles | intro _ | with_reducible apply Roles.ite | simp only [Roles.upd] | dsimp only | split)

theorem execSleepReqReceive_roles {s0 : State} (l : LinkId) (s : State) (hk : Roles s0 s) : RolesO s0 (execSleepReqReceive l s) := by
  unfold execSleepReqReceive
  repeat (first | with_reducible assumption | with_reducible apply RolesO.next | with_reducible apply RolesO.ite | with_reducible apply sendLinkMsg_roles | with_reducible apply setBrl_roles | with_reducible apply cntLink_roles | with_reducible apply updLink_roles | intro _ | with_reducible apply Roles.ite | simp only [Roles.upd] | dsimp only | split)

theorem execWakePattern_roles {s0 : State} (l : LinkId) (s : State) (hk : Roles s0 s) : RolesO s0 (execWakePattern l s) := by
  unfold execWakePattern
  repeat (first | with_reducible assumption | with_reducible apply RolesO.next | with_reducible apply RolesO.ite | with_reducible apply drainLink_roles | with_reducible apply setBrl_roles | with_reducible apply updLink_roles | intro _ | with_reducible apply Roles.ite | simp only [Roles.upd] | dsimp only | split)

theorem execBrlDormant_roles {s0 : State} (r : Requester) (l : LinkId) (v : Nat) (s : State) (hk : Roles s0 s) : RolesO s0 (execBrlDormant r l v s) := by
  unfold execBrlDormant
  repeat (first | with_reducible assumption | with_reducible apply RolesO.next | with_reducible apply RolesO.ite | with_reducible apply sendLinkMsg_roles | with_reducible apply wakeLink_roles | with_reducible apply updLink_roles | intro _ | with_reducible apply Roles.ite | simp only [Roles.upd] | dsimp only | split)

theorem execBrlWake_roles {s0 : State} (r : Requester) (l : LinkId) (v : Nat) (s : State) (hk : Roles s0 s) : RolesO s0 (execBrlWake r l v s) := by
  unfold execBrlWake
  repeat (first | with_reducible assumption | with_reducible apply RolesO.next | with_reducible apply RolesO.ite | with_reducible apply enterDetect_roles | intro _ | with_reducible apply Roles.ite | simp only [Roles.upd] | dsimp only | split)

theorem execBrlRekey_roles {s0 : State} (l : LinkId) (s : State) (hk : Roles s0 s) : RolesO s0 (execBrlRekey l s) := by
  unfold execBrlRekey
  repeat (first | with_reducible assumption | with_reducible apply RolesO.next | with_reducible apply RolesO.ite | with_reducible apply freshKey_roles | intro _ | with_reducible apply Roles.ite | simp only [Roles.upd] | dsimp only | split)

theorem movePackets_roles {s0 : State} (pl : PlaneId) (d : DevId) (p : PartId) (l : List Waiting) (s : State) (hk : Roles s0 s) : Roles s0 (movePackets pl d p l s) := by
  unfold movePackets
  repeat (first | with_reducible assumption | with_reducible apply cntTether_roles | with_reducible refine sendTether_roles (by with_reducible assumption) ?_ | with_reducible apply emit_roles | with_reducible refine holdBack_roles (by with_reducible assumption) ?_ | with_reducible apply holdBack_snd_roles | with_reducible apply updFlow_roles | with_reducible apply drainOut_roles | with_reducible apply Roles.foldl | intro _ | with_reducible apply Roles.ite | with_reducible apply Roles.iteSnd | with_reducible apply Roles.iteFst | simp only [Roles.upd] | dsimp only | split)

theorem endCtx_roles {s0 : State} (i : Nat) (mark : Bool) (s : State) (hk : Roles s0 s) : Roles s0 (endCtx i mark s) := by
  unfold endCtx
  repeat (first | with_reducible assumption | with_reducible apply cntPlane_roles | with_reducible apply setCtx_roles | with_reducible apply updPlane_roles | with_reducible apply judgeReach_roles | with_reducible apply movePackets_roles | intro _ | with_reducible apply Roles.ite | with_reducible apply Roles.iteSnd | with_reducible apply Roles.iteFst | simp only [Roles.upd] | dsimp only | split)

theorem planeUp_roles {s0 : State} (pl : PlaneId) (s : State) (hk : Roles s0 s) : Roles s0 (planeUp pl s) := by
  unfold planeUp
  repeat (first | with_reducible assumption | with_reducible apply sendEth_roles | with_reducible apply setTth_roles | with_reducible apply resolveAddr_roles | with_reducible apply drainOut_roles | intro _ | with_reducible apply Roles.ite | simp only [Roles.upd] | dsimp only | split)

theorem planeLeave_roles {s0 : State} (pl : PlaneId) (st : TthState) (s : State) (hk : Roles s0 s) : Roles s0 (planeLeave pl st s) := by
  unfold planeLeave
  repeat (first | with_reducible assumption | with_reducible apply setTth_roles | with_reducible apply updPlane_roles | with_reducible apply judgeReach_roles | with_reducible apply drainOut_roles | with_reducible apply eachOf_roles | with_reducible apply endCtx_roles | intro _ | with_reducible apply Roles.ite | simp only [Roles.upd] | dsimp only | split)

theorem planeDown_roles {s0 : State} (pl : PlaneId) (cause : Nat) (s : State) (hk : Roles s0 s) : Roles s0 (planeDown pl cause s) := by
  unfold planeDown
  repeat (first | with_reducible assumption | with_reducible apply updPlane_roles | with_reducible apply planeLeave_roles | with_reducible apply recordLink_roles | intro _ | with_reducible apply Roles.ite | simp only [Roles.upd] | dsimp only | split)

theorem execTthAlignDone_roles {s0 : State} (pl : PlaneId) (s : State) (hk : Roles s0 s) : RolesO s0 (execTthAlignDone pl s) := by
  unfold execTthAlignDone
  repeat (first | with_reducible assumption | with_reducible apply RolesO.next | with_reducible apply RolesO.ite | with_reducible apply setTth_roles | with_reducible apply planeUp_roles | intro _ | with_reducible apply Roles.ite | simp only [Roles.upd] | dsimp only | split)

theorem freshSak_roles {s0 : State} (pl : PlaneId) (item : VaultItem) (s : State) (hk : Roles s0 s) : Roles s0 (freshSak pl item s) := by
  unfold freshSak
  repeat (first | with_reducible assumption | with_reducible refine takeFree_roles (by with_reducible assumption) ?_ | with_reducible apply takeFree_snd_roles | with_reducible apply updPlane_roles | intro _ | with_reducible apply Roles.ite | with_reducible apply Roles.iteSnd | with_reducible apply Roles.iteFst | simp only [Roles.upd] | dsimp only | split)

theorem execMkaSecured_roles {s0 : State} (pl : PlaneId) (peerPriority : Nat) (xpn : Bool) (s : State) (hk : Roles s0 s) : RolesO s0 (execMkaSecured pl peerPriority xpn s) := by
  unfold execMkaSecured
  repeat (first | with_reducible assumption | with_reducible apply RolesO.next | with_reducible apply RolesO.ite | with_reducible apply planeUp_roles | with_reducible apply updPlane_roles | with_reducible apply freshSak_roles | intro _ | with_reducible apply Roles.ite | simp only [Roles.upd] | dsimp only | split)

theorem execTthTrainTimeout_roles {s0 : State} (pl : PlaneId) (s : State) (hk : Roles s0 s) : RolesO s0 (execTthTrainTimeout pl s) := by
  unfold execTthTrainTimeout
  repeat (first | with_reducible assumption | with_reducible apply RolesO.next | with_reducible apply RolesO.ite | with_reducible apply planeDown_roles | intro _ | with_reducible apply Roles.ite | simp only [Roles.upd] | dsimp only | split)

theorem execTthFault_roles {s0 : State} (pl : PlaneId) (s : State) (hk : Roles s0 s) : RolesO s0 (execTthFault pl s) := by
  unfold execTthFault
  repeat (first | with_reducible assumption | with_reducible apply RolesO.next | with_reducible apply RolesO.ite | with_reducible apply planeDown_roles | intro _ | with_reducible apply Roles.ite | simp only [Roles.upd] | dsimp only | split)

theorem execTthDownRetry_roles {s0 : State} (pl : PlaneId) (s : State) (hk : Roles s0 s) : RolesO s0 (execTthDownRetry pl s) := by
  unfold execTthDownRetry
  repeat (first | with_reducible assumption | with_reducible apply RolesO.next | with_reducible apply RolesO.ite | with_reducible apply enterAlign_roles | intro _ | with_reducible apply Roles.ite | simp only [Roles.upd] | dsimp only | split)

theorem execMkaPeerLoss_roles {s0 : State} (pl : PlaneId) (s : State) (hk : Roles s0 s) : RolesO s0 (execMkaPeerLoss pl s) := by
  unfold execMkaPeerLoss
  repeat (first | with_reducible assumption | with_reducible apply RolesO.next | with_reducible apply RolesO.ite | with_reducible apply planeDown_roles | intro _ | with_reducible apply Roles.ite | simp only [Roles.upd] | dsimp only | split)

theorem execMacsecRekey_roles {s0 : State} (pl : PlaneId) (s : State) (hk : Roles s0 s) : RolesO s0 (execMacsecRekey pl s) := by
  unfold execMacsecRekey
  repeat (first | with_reducible assumption | with_reducible apply RolesO.next | with_reducible apply RolesO.ite | with_reducible apply freshSak_roles | intro _ | with_reducible apply Roles.ite | simp only [Roles.upd] | dsimp only | split)

theorem execTthRetrain_roles {s0 : State} (r : Requester) (pl : PlaneId) (v : Nat) (s : State) (hk : Roles s0 s) : RolesO s0 (execTthRetrain r pl v s) := by
  unfold execTthRetrain
  repeat (first | with_reducible assumption | with_reducible apply RolesO.next | with_reducible apply RolesO.ite | with_reducible apply enterAlign_roles | intro _ | with_reducible apply Roles.ite | simp only [Roles.upd] | dsimp only | split)

theorem execTthDormant_roles {s0 : State} (r : Requester) (pl : PlaneId) (v : Nat) (s : State) (hk : Roles s0 s) : RolesO s0 (execTthDormant r pl v s) := by
  unfold execTthDormant
  repeat (first | with_reducible assumption | with_reducible apply RolesO.next | with_reducible apply RolesO.ite | with_reducible apply planeLeave_roles | intro _ | with_reducible apply Roles.ite | simp only [Roles.upd] | dsimp only | split)

theorem execTthWake_roles {s0 : State} (r : Requester) (pl : PlaneId) (v : Nat) (s : State) (hk : Roles s0 s) : RolesO s0 (execTthWake r pl v s) := by
  unfold execTthWake
  repeat (first | with_reducible assumption | with_reducible apply RolesO.next | with_reducible apply RolesO.ite | with_reducible apply enterAlign_roles | intro _ | with_reducible apply Roles.ite | simp only [Roles.upd] | dsimp only | split)

theorem discardDgram_roles {s0 : State} (pl : PlaneId) (s : State) (hk : Roles s0 s) : Roles s0 (discardDgram pl s) := by
  unfold discardDgram
  repeat (first | with_reducible assumption | with_reducible apply cntPlane_roles | intro _ | with_reducible apply Roles.ite | simp only [Roles.upd] | dsimp only | split)

theorem notePn_roles {s0 : State} (pl : PlaneId) (pn : Option Nat) (s : State) (hk : Roles s0 s) : Roles s0 (notePn pl pn s) := by
  unfold notePn
  repeat (first | with_reducible assumption | with_reducible apply updPlane_roles | intro _ | with_reducible apply Roles.ite | simp only [Roles.upd] | dsimp only | split)

theorem frameBad_roles {s0 t : State} {pl : PlaneId} {fr : FrameCheck} {data : Bytes} {s : State} (e : frameBad pl fr data s = some t) (hk : Roles s0 s) : Roles s0 t := by
  unfold frameBad at e
  (try dsimp only at e)
  repeat' split at e
  all_goals (try cases e)
  all_goals repeat (first | with_reducible assumption | with_reducible apply cntPlane_roles | with_reducible apply discardDgram_roles | with_reducible apply notePn_roles | intro _ | with_reducible apply Roles.ite | simp only [Roles.upd] | dsimp only | split)

theorem ethBad_roles {s0 t : State} {pl : PlaneId} {fr : EthCheck} {s : State} (e : ethBad pl fr s = some t) (hk : Roles s0 s) : Roles s0 t := by
  unfold ethBad at e
  (try dsimp only at e)
  repeat' split at e
  all_goals (try cases e)
  all_goals repeat (first | with_reducible assumption | with_reducible apply cntPlane_roles | with_reducible apply discardDgram_roles | with_reducible apply notePn_roles | intro _ | with_reducible apply Roles.ite | simp only [Roles.upd] | dsimp only | split)

theorem sendCtxAck_roles {s0 : State} (i : Nat) (s : State) (hk : Roles s0 s) : Roles s0 (sendCtxAck i s) := by
  unfold sendCtxAck
  repeat (first | with_reducible assumption | with_reducible apply updCtx_roles | with_reducible apply sendDgram_roles | intro _ | with_reducible apply Roles.ite | simp only [Roles.upd] | dsimp only | split)

theorem takeSegment_roles {s0 : State} (pl : PlaneId) (i : Nat) (ce : Bool) (h : TthHead) (b : Bytes) (c : Ctx) (s : State) (hk : Roles s0 s) : Roles s0 (takeSegment pl i ce h b c s) := by
  unfold takeSegment
  repeat (first | with_reducible assumption | with_reducible apply cntPlane_roles | with_reducible apply setCtx_roles | with_reducible apply updPlane_roles | with_reducible apply sendCtxAck_roles | intro _ | with_reducible apply Roles.ite | with_reducible apply Roles.iteSnd | with_reducible apply Roles.iteFst | simp only [Roles.upd] | dsimp only | split)

theorem execTthDataReceive_roles {s0 : State} (pl : PlaneId) (fr : FrameCheck) (dgram : Bytes) (s : State) (hk : Roles s0 s) : RolesO s0 (execTthDataReceive pl fr dgram s) := by
  unfold execTthDataReceive
  repeat (first | with_reducible assumption | with_reducible apply RolesO.next | with_reducible apply RolesO.ite | with_reducible refine frameBad_roles (by with_reducible assumption) ?_ | with_reducible apply notePn_roles | with_reducible apply discardDgram_roles | with_reducible apply takeSegment_roles | intro _ | with_reducible apply Roles.ite | simp only [Roles.upd] | dsimp only | split)

theorem takeAckDgram_roles {s0 : State} (i : Nat) (b : Bytes) (c : Ctx) (s : State) (hk : Roles s0 s) : Roles s0 (takeAckDgram i b c s) := by
  unfold takeAckDgram
  repeat (first | with_reducible assumption | with_reducible apply setCtx_roles | with_reducible apply drainOut_roles | with_reducible apply drainCtx_roles | with_reducible apply retransmit_roles | with_reducible apply Roles.foldl | intro _ | with_reducible apply Roles.ite | simp only [Roles.upd] | dsimp only | split)

theorem execTthAckReceive_roles {s0 : State} (pl : PlaneId) (fr : FrameCheck) (dgram : Bytes) (s : State) (hk : Roles s0 s) : RolesO s0 (execTthAckReceive pl fr dgram s) := by
  unfold execTthAckReceive
  repeat (first | with_reducible assumption | with_reducible apply RolesO.next | with_reducible apply RolesO.ite | with_reducible refine frameBad_roles (by with_reducible assumption) ?_ | with_reducible apply notePn_roles | with_reducible apply discardDgram_roles | with_reducible apply takeAckDgram_roles | intro _ | with_reducible apply Roles.ite | simp only [Roles.upd] | dsimp only | split)

theorem ctxOpened_roles {s0 : State} (i : Nat) (s : State) (hk : Roles s0 s) : Roles s0 (ctxOpened i s) := by
  unfold ctxOpened
  repeat (first | with_reducible assumption | with_reducible apply setCtx_roles | with_reducible apply markReachable_roles | with_reducible apply drainOut_roles | with_reducible apply drainCtx_roles | with_reducible apply noticeCtx_roles | intro _ | with_reducible apply Roles.ite | simp only [Roles.upd] | dsimp only | split)

theorem sendHelloAck_roles {s0 : State} (i : Nat) (s : State) (hk : Roles s0 s) : Roles s0 (sendHelloAck i s) := by
  unfold sendHelloAck
  repeat (first | with_reducible assumption | with_reducible apply sendDgram_roles | intro _ | with_reducible apply Roles.ite | simp only [Roles.upd] | dsimp only | split)

theorem respond_roles {s0 : State} (i : Nat) (c : Ctx) (s : State) (hk : Roles s0 s) : Roles s0 (respond i c s) := by
  unfold respond
  repeat (first | with_reducible assumption | with_reducible apply ctxOpened_roles | with_reducible apply sendHelloAck_roles | with_reducible apply setCtx_roles | intro _ | with_reducible apply Roles.ite | simp only [Roles.upd] | dsimp only | split)

theorem execTthHelloReceive_roles {s0 : State} (pl : PlaneId) (fr : FrameCheck) (dgram : Bytes) (s : State) (hk : Roles s0 s) : RolesO s0 (execTthHelloReceive pl fr dgram s) := by
  unfold execTthHelloReceive
  repeat (first | with_reducible assumption | split | with_reducible apply RolesO.next | with_reducible apply RolesO.ite | with_reducible refine frameBad_roles (by with_reducible assumption) ?_ | with_reducible apply discardDgram_roles | with_reducible apply showEpoch_roles | with_reducible apply learnStart_roles | with_reducible apply sendHelloAck_roles | with_reducible apply respond_roles | with_reducible apply notePn_roles | with_reducible refine freeCtx_roles (by with_reducible assumption) ?_ | dsimp only)

theorem execTthHelloAckReceive_roles {s0 : State} (pl : PlaneId) (fr : FrameCheck) (dgram : Bytes) (s : State) (hk : Roles s0 s) : RolesO s0 (execTthHelloAckReceive pl fr dgram s) := by
  unfold execTthHelloAckReceive
  repeat (first | with_reducible assumption | with_reducible apply RolesO.next | with_reducible apply RolesO.ite | with_reducible refine frameBad_roles (by with_reducible assumption) ?_ | with_reducible apply notePn_roles | with_reducible apply discardDgram_roles | with_reducible apply showEpoch_roles | with_reducible apply learnStart_roles | with_reducible apply setCtx_roles | with_reducible apply updPlane_roles | with_reducible apply ctxOpened_roles | intro _ | with_reducible apply Roles.ite | with_reducible apply Roles.iteSnd | with_reducible apply Roles.iteFst | simp only [Roles.upd] | dsimp only | split)

theorem reopenCtx_roles {s0 : State} (i : Nat) (c : Ctx) (s : State) (hk : Roles s0 s) : Roles s0 (reopenCtx i c s) := by
  unfold reopenCtx
  repeat (first | with_reducible assumption | with_reducible apply sendHello_roles | with_reducible apply setCtx_roles | intro _ | with_reducible apply Roles.ite | simp only [Roles.upd] | dsimp only | split)

theorem execCloseCtxReceive_roles {s0 : State} (pl : PlaneId) (fr : FrameCheck) (dgram : Bytes) (s : State) (hk : Roles s0 s) : RolesO s0 (execCloseCtxReceive pl fr dgram s) := by
  unfold execCloseCtxReceive
  repeat (first | with_reducible assumption | with_reducible apply RolesO.next | with_reducible apply RolesO.ite | with_reducible refine frameBad_roles (by with_reducible assumption) ?_ | with_reducible apply notePn_roles | with_reducible apply discardDgram_roles | with_reducible apply drainOut_roles | with_reducible apply setCtx_roles | with_reducible apply reopenCtx_roles | intro _ | with_reducible apply Roles.ite | simp only [Roles.upd] | dsimp only | split)

theorem execHelloRetry_roles {s0 : State} (ctx : Nat) (s : State) (hk : Roles s0 s) : RolesO s0 (execHelloRetry ctx s) := by
  unfold execHelloRetry
  repeat (first | with_reducible assumption | with_reducible apply RolesO.next | with_reducible apply RolesO.ite | with_reducible apply sendHello_roles | with_reducible apply setCtx_roles | intro _ | with_reducible apply Roles.ite | simp only [Roles.upd] | dsimp only | split)

theorem execTthAckTimer_roles {s0 : State} (ctx : Nat) (s : State) (hk : Roles s0 s) : RolesO s0 (execTthAckTimer ctx s) := by
  unfold execTthAckTimer
  repeat (first | with_reducible assumption | with_reducible apply RolesO.next | with_reducible apply RolesO.ite | with_reducible apply sendCtxAck_roles | intro _ | with_reducible apply Roles.ite | simp only [Roles.upd] | dsimp only | split)

theorem execRtoExpiry_roles {s0 : State} (ctx : Nat) (s : State) (hk : Roles s0 s) : RolesO s0 (execRtoExpiry ctx s) := by
  unfold execRtoExpiry
  repeat (first | with_reducible assumption | with_reducible apply RolesO.next | with_reducible apply RolesO.ite | with_reducible apply setCtx_roles | with_reducible apply retransmit_roles | with_reducible apply cntPlane_roles | intro _ | with_reducible apply Roles.ite | simp only [Roles.upd] | dsimp only | split)

theorem execContextIdleClose_roles {s0 : State} (ctx : Nat) (s : State) (hk : Roles s0 s) : RolesO s0 (execContextIdleClose ctx s) := by
  unfold execContextIdleClose
  repeat (first | with_reducible assumption | with_reducible apply RolesO.next | with_reducible apply RolesO.ite | with_reducible apply drainOut_roles | with_reducible apply setCtx_roles | with_reducible apply sendCloseCtx_roles | intro _ | with_reducible apply Roles.ite | simp only [Roles.upd] | dsimp only | split)

theorem execTthRetxExhaust_roles {s0 : State} (ctx : Nat) (s : State) (hk : Roles s0 s) : RolesO s0 (execTthRetxExhaust ctx s) := by
  unfold execTthRetxExhaust
  repeat (first | with_reducible assumption | with_reducible apply RolesO.next | with_reducible apply RolesO.ite | with_reducible apply record_roles | with_reducible apply drainOut_roles | with_reducible apply endCtx_roles | intro _ | with_reducible apply Roles.ite | simp only [Roles.upd] | dsimp only | split)

theorem noteProbe_roles {s0 : State} (pl : PlaneId) (d : DevId) (s : State) (hk : Roles s0 s) : Roles s0 (noteProbe pl d s) := by
  unfold noteProbe
  repeat (first | with_reducible assumption | with_reducible apply updPlane_roles | intro _ | with_reducible apply Roles.ite | with_reducible apply Roles.iteSnd | with_reducible apply Roles.iteFst | simp only [Roles.upd] | dsimp only | split)

theorem execFailedPlaneProbe_roles {s0 : State} (pl : PlaneId) (peer : DevId) (part : PartId) (s : State) (hk : Roles s0 s) : RolesO s0 (execFailedPlaneProbe pl peer part s) := by
  unfold execFailedPlaneProbe
  repeat (first | with_reducible assumption | split | with_reducible apply RolesO.next | with_reducible apply RolesO.ite | with_reducible apply sendHello_roles | with_reducible apply noteProbe_roles | with_reducible refine freeCtx_roles (by with_reducible assumption) ?_ | with_reducible apply setCtx_roles | dsimp only)

theorem execArpNdRequest_roles {s0 : State} (pl : PlaneId) (frame : EthCheck) (asker target : Nat) (s : State) (hk : Roles s0 s) : RolesO s0 (execArpNdRequest pl frame asker target s) := by
  unfold execArpNdRequest
  repeat (first | with_reducible assumption | with_reducible apply RolesO.next | with_reducible apply RolesO.ite | with_reducible refine ethBad_roles (by with_reducible assumption) ?_ | with_reducible apply notePn_roles | with_reducible apply sendEth_roles | intro _ | with_reducible apply Roles.ite | simp only [Roles.upd] | dsimp only | split)

theorem execNeighbourRefresh_roles {s0 : State} (pl : PlaneId) (addr : Nat) (s : State) (hk : Roles s0 s) : RolesO s0 (execNeighbourRefresh pl addr s) := by
  unfold execNeighbourRefresh
  repeat (first | with_reducible assumption | with_reducible apply RolesO.next | with_reducible apply RolesO.ite | with_reducible apply sendEth_roles | with_reducible apply updPlane_roles | intro _ | with_reducible apply Roles.ite | simp only [Roles.upd] | dsimp only | split)

theorem execIcmpEchoRequest_roles {s0 : State} (pl : PlaneId) (frame : EthCheck) (asker ident : Nat) (s : State) (hk : Roles s0 s) : RolesO s0 (execIcmpEchoRequest pl frame asker ident s) := by
  unfold execIcmpEchoRequest
  repeat (first | with_reducible assumption | with_reducible apply RolesO.next | with_reducible apply RolesO.ite | with_reducible refine ethBad_roles (by with_reducible assumption) ?_ | with_reducible apply notePn_roles | with_reducible apply sendEth_roles | with_reducible apply updPlane_roles | intro _ | with_reducible apply Roles.ite | simp only [Roles.upd] | dsimp only | split)

theorem execPauseFrameReceive_roles {s0 : State} (pl : PlaneId) (s : State) (hk : Roles s0 s) : RolesO s0 (execPauseFrameReceive pl s) := by
  unfold execPauseFrameReceive
  repeat (first | with_reducible assumption | with_reducible apply RolesO.next | with_reducible apply RolesO.ite | with_reducible apply discardDgram_roles | intro _ | with_reducible apply Roles.ite | simp only [Roles.upd] | dsimp only | split)

theorem execArpNdReplyReceive_roles {s0 : State} (pl : PlaneId) (frame : EthCheck) (addr mac : Nat) (s : State) (hk : Roles s0 s) : RolesO s0 (execArpNdReplyReceive pl frame addr mac s) := by
  unfold execArpNdReplyReceive
  repeat (first | with_reducible assumption | with_reducible apply RolesO.next | with_reducible apply RolesO.ite | with_reducible refine ethBad_roles (by with_reducible assumption) ?_ | with_reducible apply notePn_roles | with_reducible apply updPlane_roles | with_reducible apply eachOf_roles | with_reducible apply sendHello_roles | intro _ | with_reducible apply Roles.ite | simp only [Roles.upd] | dsimp only | split)

theorem execNeighbourResolutionRetry_roles {s0 : State} (pl : PlaneId) (addr : Nat) (s : State) (hk : Roles s0 s) : RolesO s0 (execNeighbourResolutionRetry pl addr s) := by
  unfold execNeighbourResolutionRetry
  repeat (first | with_reducible assumption | with_reducible apply RolesO.next | with_reducible apply RolesO.ite | with_reducible apply sendEth_roles | with_reducible apply updPlane_roles | intro _ | with_reducible apply Roles.ite | simp only [Roles.upd] | dsimp only | split)

theorem setGroupSync_roles {s0 : State} (g : Bool) (s : State) (hk : Roles s0 s) : Roles s0 (setGroupSync g s) := by
  unfold setGroupSync
  repeat (first | with_reducible assumption | intro _ | with_reducible apply Roles.ite | simp only [Roles.upd] | dsimp only | split)

theorem steer_roles {s0 : State} (src : TimeSource) (s : State) (hk : Roles s0 s) : Roles s0 (steer src s) := by
  unfold steer
  repeat (first | with_reducible assumption | with_reducible refine takeFree_roles (by with_reducible assumption) ?_ | with_reducible apply takeFree_snd_roles | intro _ | with_reducible apply Roles.ite | with_reducible apply Roles.iteSnd | with_reducible apply Roles.iteFst | simp only [Roles.upd] | dsimp only | split)

theorem sysMeasure_roles {s0 : State} (off : Int) (s : State) (hk : Roles s0 s) : Roles s0 (sysMeasure off s) := by
  unfold sysMeasure
  repeat (first | with_reducible assumption | intro _ | with_reducible apply Roles.ite | simp only [Roles.upd] | dsimp only | split)

theorem timeMessageTo_roles {s0 : State} (fabricCount : Nat) (table : Bytes) (ref : Bool) (m : Nat) (s : State) (hk : Roles s0 s) : Roles s0 (timeMessageTo fabricCount table ref m s) := by
  unfold timeMessageTo
  repeat (first | with_reducible assumption | with_reducible apply wakeLink_roles | with_reducible apply otherFlit_roles | with_reducible apply updLink_roles | with_reducible apply emit_roles | intro _ | with_reducible apply Roles.ite | simp only [Roles.upd] | dsimp only | split)

theorem execTimeMessageSend_roles {s0 : State} (s : State) (hk : Roles s0 s) : RolesO s0 (execTimeMessageSend s) := by
  unfold execTimeMessageSend
  repeat (first | with_reducible assumption | with_reducible apply RolesO.next | with_reducible apply RolesO.ite | with_reducible apply eachOf_roles | with_reducible apply timeMessageTo_roles | with_reducible apply setGroupSync_roles | intro _ | with_reducible apply Roles.ite | simp only [Roles.upd] | dsimp only | split)

theorem hearMember_roles {s0 : State} (m master : Nat) (s : State) (hk : Roles s0 s) : Roles s0 (hearMember m master s) := by
  unfold hearMember
  repeat (first | with_reducible assumption | with_reducible apply judgeMaster_roles | with_reducible apply setMaster_roles | intro _ | with_reducible apply Roles.ite | simp only [Roles.upd] | dsimp only | split)

theorem takeGroupTime_roles {s0 : State} (far sysOffset fabricCount : Nat) (table : Bytes) (s : State) (hk : Roles s0 s) : Roles s0 (takeGroupTime far sysOffset fabricCount table s) := by
  unfold takeGroupTime
  repeat (first | with_reducible assumption | intro _ | with_reducible apply Roles.ite | simp only [Roles.upd] | dsimp only | split)

theorem followTime_roles {s0 : State} (far sysOffset : Nat) (ref : Bool) (s : State) (hk : Roles s0 s) : Roles s0 (followTime far sysOffset ref s) := by
  unfold followTime
  repeat (first | with_reducible assumption | with_reducible apply steer_roles | with_reducible apply setGroupSync_roles | with_reducible apply sysMeasure_roles | intro _ | with_reducible apply Roles.ite | simp only [Roles.upd] | dsimp only | split)

theorem execTimeMessageReceive_roles {s0 : State} (l : LinkId) (dt sysOffset epoch master fabricCount : Nat) (table : Bytes) (ref : Bool) (s : State) (hk : Roles s0 s) : RolesO s0 (execTimeMessageReceive l dt sysOffset epoch master fabricCount table ref s) := by
  unfold execTimeMessageReceive
  repeat (first | with_reducible assumption | with_reducible apply RolesO.next | with_reducible apply RolesO.ite | with_reducible apply showEpoch_roles | with_reducible apply hearMember_roles | with_reducible apply takeGroupTime_roles | with_reducible apply followTime_roles | with_reducible apply eachOf_roles | with_reducible apply timeMessageTo_roles | intro _ | with_reducible apply Roles.ite | simp only [Roles.upd] | dsimp only | split)

theorem execTimeRefLock_roles {s0 : State} (s : State) (hk : Roles s0 s) : RolesO s0 (execTimeRefLock s) := by
  unfold execTimeRefLock
  repeat (first | with_reducible assumption | with_reducible apply RolesO.next | with_reducible apply RolesO.ite | intro _ | with_reducible apply Roles.ite | simp only [Roles.upd] | dsimp only | split)

theorem execTimeRefLoss_roles {s0 : State} (s : State) (hk : Roles s0 s) : RolesO s0 (execTimeRefLoss s) := by
  unfold execTimeRefLoss
  repeat (first | with_reducible assumption | with_reducible apply RolesO.next | with_reducible apply RolesO.ite | intro _ | with_reducible apply Roles.ite | simp only [Roles.upd] | dsimp only | split)

theorem execPpsInEdge_roles {s0 : State} (s : State) (hk : Roles s0 s) : RolesO s0 (execPpsInEdge s) := by
  unfold execPpsInEdge
  repeat (first | with_reducible assumption | with_reducible apply RolesO.next | with_reducible apply RolesO.ite | with_reducible apply steer_roles | with_reducible apply sysMeasure_roles | intro _ | with_reducible apply Roles.ite | simp only [Roles.upd] | dsimp only | split)

theorem execPpsOutEdge_roles {s0 : State} (s : State) (hk : Roles s0 s) : RolesO s0 (execPpsOutEdge s) := by
  unfold execPpsOutEdge
  repeat (first | with_reducible assumption | with_reducible apply RolesO.next | with_reducible apply RolesO.ite | with_reducible apply emit_roles | intro _ | with_reducible apply Roles.ite | simp only [Roles.upd] | dsimp only | split)

theorem placePtp_roles {s0 : State} (s : State) (hk : Roles s0 s) : Roles s0 (placePtp s) := by
  unfold placePtp
  repeat (first | with_reducible assumption | intro _ | with_reducible apply Roles.ite | simp only [Roles.upd] | dsimp only | split)

theorem updPtp_roles {s0 : State} (f : Ptp → Ptp) (s : State) (hk : Roles s0 s) : Roles s0 (updPtp f s) := by
  unfold updPtp
  repeat (first | with_reducible assumption | intro _ | with_reducible apply Roles.ite | simp only [Roles.upd] | dsimp only | split)

theorem judgePtp_roles {s0 : State} (pl : PlaneId) (s : State) (hk : Roles s0 s) : Roles s0 (judgePtp pl s) := by
  unfold judgePtp
  repeat (first | with_reducible assumption | with_reducible apply updPtp_roles | intro _ | with_reducible apply Roles.ite | simp only [Roles.upd] | dsimp only | split)

theorem emitPtp_roles {s0 : State} (pl : PlaneId) (m : PtpMsg) (s : State) (hk : Roles s0 s) : Roles s0 (emitPtp pl m s) := by
  unfold emitPtp
  repeat (first | with_reducible assumption | with_reducible apply sendEth_roles | intro _ | with_reducible apply Roles.ite | simp only [Roles.upd] | dsimp only | split)

theorem ptpMeasure_roles {s0 : State} (ref : Int) (dt : Nat) (s : State) (hk : Roles s0 s) : Roles s0 (ptpMeasure ref dt s) := by
  unfold ptpMeasure
  repeat (first | with_reducible assumption | with_reducible apply updPtp_roles | with_reducible apply steer_roles | with_reducible apply sysMeasure_roles | intro _ | with_reducible apply Roles.ite | simp only [Roles.upd] | dsimp only | split)

theorem gotSync_roles {s0 : State} (t1 : Int) (t2 : Nat) (s : State) (hk : Roles s0 s) : Roles s0 (gotSync t1 t2 s) := by
  unfold gotSync
  repeat (first | with_reducible assumption | with_reducible apply updPtp_roles | with_reducible apply ptpMeasure_roles | intro _ | with_reducible apply Roles.ite | simp only [Roles.upd] | dsimp only | split)

theorem ptpReceive_roles {s0 : State} (pl : PlaneId) (m : PtpMsg) (s : State) (hk : Roles s0 s) : Roles s0 (ptpReceive pl m s) := by
  unfold ptpReceive
  repeat (first | with_reducible assumption | with_reducible apply judgePtp_roles | with_reducible apply updPtp_roles | with_reducible apply gotSync_roles | with_reducible apply emitPtp_roles | intro _ | with_reducible apply Roles.ite | with_reducible apply Roles.iteSnd | with_reducible apply Roles.iteFst | simp only [Roles.upd] | dsimp only | split)

theorem ptpSend_roles {s0 : State} (pl : PlaneId) (k : PtpKind) (s : State) (hk : Roles s0 s) : Roles s0 (ptpSend pl k s) := by
  unfold ptpSend
  repeat (first | with_reducible assumption | with_reducible apply judgePtp_roles | with_reducible apply emitPtp_roles | with_reducible apply updPtp_roles | with_reducible apply sysMeasure_roles | intro _ | with_reducible apply Roles.ite | with_reducible apply Roles.iteSnd | with_reducible apply Roles.iteFst | simp only [Roles.upd] | dsimp only | split)

theorem execPtpEventMessage_roles {s0 : State} (pl : PlaneId) (e : PtpEvent) (s : State) (hk : Roles s0 s) : RolesO s0 (execPtpEventMessage pl e s) := by
  unfold execPtpEventMessage
  repeat (first | with_reducible assumption | with_reducible apply RolesO.next | with_reducible apply RolesO.ite | with_reducible apply placePtp_roles | with_reducible refine ethBad_roles (by with_reducible assumption) ?_ | with_reducible apply notePn_roles | with_reducible apply ptpReceive_roles | with_reducible apply ptpSend_roles | intro _ | with_reducible apply Roles.ite | simp only [Roles.upd] | dsimp only | split)

theorem execSysSyncLoss_roles {s0 : State} (s : State) (hk : Roles s0 s) : RolesO s0 (execSysSyncLoss s) := by
  unfold execSysSyncLoss
  repeat (first | with_reducible assumption | with_reducible apply RolesO.next | with_reducible apply RolesO.ite | with_reducible apply updPtp_roles | intro _ | with_reducible apply Roles.ite | simp only [Roles.upd] | dsimp only | split)

theorem execPtpPortMove_roles {s0 : State} (s : State) (hk : Roles s0 s) : RolesO s0 (execPtpPortMove s) := by
  unfold execPtpPortMove
  repeat (first | with_reducible assumption | with_reducible apply RolesO.next | with_reducible apply RolesO.ite | with_reducible apply placePtp_roles | intro _ | with_reducible apply Roles.ite | simp only [Roles.upd] | dsimp only | split)

theorem checkImage_roles {s0 t : State} {v : Bool} {is : List StageItem} {s : State} (e : checkImage is s = (v, t)) (hk : Roles s0 s) : Roles s0 t := by
  unfold checkImage at e
  (try dsimp only at e)
  repeat' split at e
  all_goals (try cases e)
  all_goals repeat (first | with_reducible assumption | intro _ | with_reducible apply Roles.ite | simp only [Roles.upd] | dsimp only | split)

theorem checkImage_snd_roles {s0 : State} (is : List StageItem) (s : State) (hk : Roles s0 s) : Roles s0 (checkImage is s).2 :=
  checkImage_roles (Prod.eta _).symm hk

theorem runChecks_roles {s0 t : State} {v0 : Nat} {v1 : List StageItem} {s : State} (e : runChecks s = (v0, v1, t)) (hk : Roles s0 s) : Roles s0 t := by
  unfold runChecks at e
  (try dsimp only at e)
  repeat' split at e
  all_goals (try cases e)
  all_goals repeat (first | with_reducible assumption | with_reducible refine checkImage_roles (by with_reducible assumption) ?_ | with_reducible apply checkImage_snd_roles | intro _ | with_reducible apply Roles.ite | with_reducible apply Roles.iteSnd | with_reducible apply Roles.iteFst | simp only [Roles.upd] | dsimp only | split)

end Sys2Proof.Laws
end

