-- ==== Sys2Proof/Laws/Roles3.lean ====
section
/-!
SUPPORT. Roles3.lean: what leaves clusters and roles alone, one lemma per operation, in the order of the definitions (3 of 4).
Roles s t: clusters, pair role, Dual-Line, BIST and processor debug are those of s.
-/
set_option linter.all false
namespace Sys2Proof.Laws
open Sys2Proof Sys2Proof.Machine Sys2Proof.Safety

theorem runChecks_snd_roles {s0 : State} (s : State) (hk : Roles s0 s) : Roles s0 (runChecks s).2.2 :=
  runChecks_roles rfl hk

theorem endStage_roles {s0 : State} (s : State) (hk : Roles s0 s) : Roles s0 (endStage s) := by
  unfold endStage
  repeat (first | with_reducible assumption | with_reducible apply setCommit_roles | intro _ | with_reducible apply Roles.ite | simp only [Roles.upd] | dsimp only | split)

theorem discardStage_roles {s0 : State} (s : State) (hk : Roles s0 s) : Roles s0 (discardStage s) := by
  unfold discardStage
  repeat (first | with_reducible assumption | with_reducible apply endStage_roles | intro _ | with_reducible apply Roles.ite | simp only [Roles.upd] | dsimp only | split)

theorem execCfgStageOpen_roles {s0 : State} (r : Requester) (v : Nat) (s : State) (hk : Roles s0 s) : RolesO s0 (execCfgStageOpen r v s) := by
  unfold execCfgStageOpen
  repeat (first | with_reducible assumption | with_reducible apply RolesO.next | with_reducible apply RolesO.ite | with_reducible apply setCommit_roles | intro _ | with_reducible apply Roles.ite | simp only [Roles.upd] | dsimp only | split)

theorem execCfgStageSeal_roles {s0 : State} (r : Requester) (v : Nat) (s : State) (hk : Roles s0 s) : RolesO s0 (execCfgStageSeal r v s) := by
  unfold execCfgStageSeal
  repeat (first | with_reducible assumption | with_reducible apply RolesO.next | with_reducible apply RolesO.ite | with_reducible apply setCommit_roles | intro _ | with_reducible apply Roles.ite | simp only [Roles.upd] | dsimp only | split)

theorem execCheckerDone_roles {s0 : State} (s : State) (hk : Roles s0 s) : RolesO s0 (execCheckerDone s) := by
  unfold execCheckerDone
  repeat (first | with_reducible assumption | with_reducible apply RolesO.next | with_reducible apply RolesO.ite | with_reducible refine runChecks_roles (by with_reducible assumption) ?_ | with_reducible apply runChecks_snd_roles | with_reducible apply setCommit_roles | with_reducible apply mgtRecord_roles | intro _ | with_reducible apply Roles.ite | with_reducible apply Roles.iteSnd | with_reducible apply Roles.iteFst | simp only [Roles.upd] | dsimp only | split)

theorem execCfgStageAbort_roles {s0 : State} (r : Requester) (v : Nat) (s : State) (hk : Roles s0 s) : RolesO s0 (execCfgStageAbort r v s) := by
  unfold execCfgStageAbort
  repeat (first | with_reducible assumption | with_reducible apply RolesO.next | with_reducible apply RolesO.ite | with_reducible apply discardStage_roles | intro _ | with_reducible apply Roles.ite | simp only [Roles.upd] | dsimp only | split)

theorem sendCfg_roles {s0 : State} (d : DevId) (m : CfgMsg) (s : State) (hk : Roles s0 s) : Roles s0 (sendCfg d m s) := by
  unfold sendCfg
  repeat (first | with_reducible assumption | with_reducible apply sendMessage_roles | with_reducible apply emit_roles | intro _ | with_reducible apply Roles.ite | simp only [Roles.upd] | dsimp only | split)

theorem sendCfgAll_roles {s0 : State} (ds : List DevId) (m : CfgMsg) (s : State) (hk : Roles s0 s) : Roles s0 (sendCfgAll ds m s) := by
  unfold sendCfgAll
  repeat (first | with_reducible assumption | with_reducible apply eachOf_roles | with_reducible apply sendCfg_roles | intro _ | with_reducible apply Roles.ite | simp only [Roles.upd] | dsimp only | split)

theorem recordAbort_roles {s0 : State} (id reason : Nat) (voter : Option DevId) (s : State) (hk : Roles s0 s) : Roles s0 (recordAbort id reason voter s) := by
  unfold recordAbort
  repeat (first | with_reducible assumption | with_reducible apply mgtRecord_roles | intro _ | with_reducible apply Roles.ite | simp only [Roles.upd] | dsimp only | split)

theorem takeAbort_roles {s0 : State} (reason : Nat) (voter : Option DevId) (s : State) (hk : Roles s0 s) : Roles s0 (takeAbort reason voter s) := by
  unfold takeAbort
  repeat (first | with_reducible assumption | with_reducible apply recordAbort_roles | with_reducible apply discardStage_roles | intro _ | with_reducible apply Roles.ite | simp only [Roles.upd] | dsimp only | split)

theorem passOn_roles {s0 : State} (h : CommitHead) (s : State) (hk : Roles s0 s) : Roles s0 (passOn h s) := by
  unfold passOn
  repeat (first | with_reducible assumption | with_reducible apply sendCfgAll_roles | intro _ | with_reducible apply Roles.ite | simp only [Roles.upd] | dsimp only | split)

theorem takeCommit_roles {s0 : State} (s : State) (hk : Roles s0 s) : Roles s0 (takeCommit s) := by
  unfold takeCommit
  repeat (first | with_reducible assumption | with_reducible apply setCommit_roles | intro _ | with_reducible apply Roles.ite | simp only [Roles.upd] | dsimp only | split)

theorem decideCommit_roles {s0 : State} (s : State) (hk : Roles s0 s) : Roles s0 (decideCommit s) := by
  unfold decideCommit
  repeat (first | with_reducible assumption | with_reducible apply sendCfgAll_roles | with_reducible apply takeCommit_roles | with_reducible apply passOn_roles | intro _ | with_reducible apply Roles.ite | simp only [Roles.upd] | dsimp only | split)

theorem decideAbort_roles {s0 : State} (reason : Nat) (voter : Option DevId) (s : State) (hk : Roles s0 s) : Roles s0 (decideAbort reason voter s) := by
  unfold decideAbort
  repeat (first | with_reducible assumption | with_reducible apply takeAbort_roles | with_reducible apply sendCfgAll_roles | intro _ | with_reducible apply Roles.ite | simp only [Roles.upd] | dsimp only | split)

theorem takeVote_roles {s0 : State} (src : DevId) (yes : Bool) (reason : Nat) (s : State) (hk : Roles s0 s) : Roles s0 (takeVote src yes reason s) := by
  unfold takeVote
  repeat (first | with_reducible assumption | with_reducible apply decideAbort_roles | with_reducible apply decideCommit_roles | intro _ | with_reducible apply Roles.ite | simp only [Roles.upd] | dsimp only | split)

theorem startVote_roles {s0 : State} (head : CommitHead) (s : State) (hk : Roles s0 s) : Roles s0 (startVote head s) := by
  unfold startVote
  repeat (first | with_reducible assumption | with_reducible apply setCommit_roles | intro _ | with_reducible apply Roles.ite | simp only [Roles.upd] | dsimp only | split)

theorem execCfgStageStart_roles {s0 : State} (r : Requester) (v : Nat) (s : State) (hk : Roles s0 s) : RolesO s0 (execCfgStageStart r v s) := by
  unfold execCfgStageStart
  repeat (first | with_reducible assumption | with_reducible apply RolesO.next | with_reducible apply RolesO.ite | with_reducible apply startVote_roles | with_reducible apply sendCfgAll_roles | with_reducible apply takeVote_roles | intro _ | with_reducible apply Roles.ite | simp only [Roles.upd] | dsimp only | split)

theorem execVoteRequestReceive_roles {s0 : State} (src : DevId) (epoch : Nat) (head : CommitHead) (digest : Bytes) (s : State) (hk : Roles s0 s) : RolesO s0 (execVoteRequestReceive src epoch head digest s) := by
  unfold execVoteRequestReceive
  repeat (first | with_reducible assumption | with_reducible apply RolesO.next | with_reducible apply RolesO.ite | with_reducible apply showEpoch_roles | with_reducible apply sendCfg_roles | with_reducible apply setCommit_roles | intro _ | with_reducible apply Roles.ite | simp only [Roles.upd] | dsimp only | split)

theorem execVoteReceive_roles {s0 : State} (src : DevId) (epoch id : Nat) (yes : Bool) (reason : Nat) (s : State) (hk : Roles s0 s) : RolesO s0 (execVoteReceive src epoch id yes reason s) := by
  unfold execVoteReceive
  repeat (first | with_reducible assumption | with_reducible apply RolesO.next | with_reducible apply RolesO.ite | with_reducible apply showEpoch_roles | with_reducible apply takeVote_roles | intro _ | with_reducible apply Roles.ite | simp only [Roles.upd] | dsimp only | split)

theorem execVoteDeadline_roles {s0 : State} (s : State) (hk : Roles s0 s) : RolesO s0 (execVoteDeadline s) := by
  unfold execVoteDeadline
  repeat (first | with_reducible assumption | with_reducible apply RolesO.next | with_reducible apply RolesO.ite | with_reducible apply decideAbort_roles | intro _ | with_reducible apply Roles.ite | simp only [Roles.upd] | dsimp only | split)

theorem bumpEpochs_roles {s0 : State} (h : CommitHead) (s : State) (hk : Roles s0 s) : Roles s0 (bumpEpochs h s) := by
  unfold bumpEpochs
  repeat (first | with_reducible assumption | with_reducible apply Roles.foldl | intro _ | with_reducible apply Roles.ite | simp only [Roles.upd] | dsimp only | split)

theorem applyMap_roles {s0 : State} (m : PlacementItem) (s : State) (hk : Roles s0 s) : Roles s0 (applyMap m s) := by
  unfold applyMap
  repeat (first | with_reducible assumption | with_reducible apply updPart_roles | with_reducible apply Roles.foldl | intro _ | with_reducible apply Roles.ite | simp only [Roles.upd] | dsimp only | split)

theorem execAnnouncementReceive_roles {s0 : State} (src : DevId) (epoch : Nat) (head : CommitHead) (s : State) (hk : Roles s0 s) : RolesO s0 (execAnnouncementReceive src epoch head s) := by
  unfold execAnnouncementReceive
  repeat (first | with_reducible assumption | with_reducible apply RolesO.next | with_reducible apply RolesO.ite | with_reducible apply showEpoch_roles | with_reducible apply passOn_roles | with_reducible apply bumpEpochs_roles | intro _ | with_reducible apply Roles.ite | simp only [Roles.upd] | dsimp only | split)

theorem execFencedQuery_roles {s0 : State} (s : State) (hk : Roles s0 s) : RolesO s0 (execFencedQuery s) := by
  unfold execFencedQuery
  repeat (first | with_reducible assumption | with_reducible apply RolesO.next | with_reducible apply RolesO.ite | with_reducible apply sendCfgAll_roles | intro _ | with_reducible apply Roles.ite | simp only [Roles.upd] | dsimp only | split)

theorem sendRefuse_roles {s0 : State} (d : DevId) (p : PartId) (reason : Nat) (k : Packet) (s : State) (hk : Roles s0 s) : Roles s0 (sendRefuse d p reason k s) := by
  unfold sendRefuse
  repeat (first | with_reducible assumption | with_reducible apply sendTo_roles | with_reducible apply cntPart64_roles | intro _ | with_reducible apply Roles.ite | simp only [Roles.upd] | dsimp only | split)

theorem judgeEpoch_roles {s0 t : State} {v : Bool} {src : DevId} {e dt : Nat} {s : State} (e : judgeEpoch src e dt s = (v, t)) (hk : Roles s0 s) : Roles s0 t := by
  unfold judgeEpoch at e
  (try dsimp only at e)
  repeat' split at e
  all_goals (try cases e)
  all_goals repeat (first | with_reducible assumption | with_reducible apply showEpoch_roles | with_reducible apply cntDev_roles | intro _ | with_reducible apply Roles.ite | with_reducible apply Roles.iteSnd | with_reducible apply Roles.iteFst | simp only [Roles.upd] | dsimp only | split)

theorem judgeEpoch_snd_roles {s0 : State} (src : DevId) (e dt : Nat) (s : State) (hk : Roles s0 s) : Roles s0 (judgeEpoch src e dt s).2 :=
  judgeEpoch_roles (Prod.eta _).symm hk

theorem refuseEpoch_roles {s0 : State} (src : DevId) (p : PartId) (e : Nat) (k : Packet) (source : Nat) (quiet : Bool) (s : State) (hk : Roles s0 s) : Roles s0 (refuseEpoch src p e k source quiet s) := by
  unfold refuseEpoch
  repeat (first | with_reducible assumption | with_reducible apply cntDev_roles | with_reducible apply record_roles | with_reducible apply sendRefuse_roles | with_reducible apply sendCfg_roles | intro _ | with_reducible apply Roles.ite | simp only [Roles.upd] | dsimp only | split)

theorem stepLoses_roles {s0 : State} (h : Nat) (d : DevId) (s : State) (hk : Roles s0 s) : Roles s0 (stepLoses h d s) := by
  unfold stepLoses
  repeat (first | with_reducible assumption | with_reducible apply updComm_roles | with_reducible apply loseMember_roles | intro _ | with_reducible apply Roles.ite | simp only [Roles.upd] | dsimp only | split)

theorem endAborted_roles {s0 : State} (h : Nat) (s : State) (hk : Roles s0 s) : Roles s0 (endAborted h s) := by
  unfold endAborted
  repeat (first | with_reducible assumption | with_reducible apply cmdFail_roles | with_reducible apply updPart_roles | intro _ | with_reducible apply Roles.ite | simp only [Roles.upd] | dsimp only | split)

theorem raiseAbort_roles {s0 : State} (h code : Nat) (dev : DevId) (s : State) (hk : Roles s0 s) : Roles s0 (raiseAbort h code dev s) := by
  unfold raiseAbort
  repeat (first | with_reducible assumption | with_reducible apply endAborted_roles | with_reducible apply abortComm_roles | intro _ | with_reducible apply Roles.ite | simp only [Roles.upd] | dsimp only | split)

theorem recordLoss_roles {s0 : State} (h : Nat) (p : PartId) (d : DevId) (s : State) (hk : Roles s0 s) : Roles s0 (recordLoss h p d s) := by
  unfold recordLoss
  repeat (first | with_reducible assumption | with_reducible apply record_roles | intro _ | with_reducible apply Roles.ite | simp only [Roles.upd] | dsimp only | split)

theorem loseFrom_roles {s0 : State} (h : Nat) (d : DevId) (s : State) (hk : Roles s0 s) : Roles s0 (loseFrom h d s) := by
  unfold loseFrom
  repeat (first | with_reducible assumption | with_reducible apply recordLoss_roles | with_reducible apply updComm_roles | with_reducible apply abortComm_roles | with_reducible apply markUnreachable_roles | with_reducible apply endAborted_roles | with_reducible apply stepLoses_roles | intro _ | with_reducible apply Roles.ite | simp only [Roles.upd] | dsimp only | split)

theorem loseLate_roles {s0 : State} (h : Nat) (d : DevId) (s : State) (hk : Roles s0 s) : Roles s0 (loseLate h d s) := by
  unfold loseLate
  repeat (first | with_reducible assumption | with_reducible apply updComm_roles | with_reducible apply recordLoss_roles | with_reducible apply stepLoses_roles | with_reducible apply markUnreachable_roles | intro _ | with_reducible apply Roles.ite | simp only [Roles.upd] | dsimp only | split)

theorem lostMember_roles {s0 : State} (h : Nat) (d : DevId) (s : State) (hk : Roles s0 s) : Roles s0 (lostMember h d s) := by
  unfold lostMember
  repeat (first | with_reducible assumption | with_reducible apply loseFrom_roles | with_reducible apply loseLate_roles | intro _ | with_reducible apply Roles.ite | simp only [Roles.upd] | dsimp only | split)

theorem epochLoses_roles {s0 : State} (d : DevId) (p : PartId) (e : Nat) (s : State) (hk : Roles s0 s) : Roles s0 (epochLoses d p e s) := by
  unfold epochLoses
  repeat (first | with_reducible assumption | with_reducible apply eachOf_roles | with_reducible apply updComm_roles | with_reducible apply lostMember_roles | intro _ | with_reducible apply Roles.ite | with_reducible apply Roles.iteSnd | with_reducible apply Roles.iteFst | simp only [Roles.upd] | dsimp only | split)

theorem judgePart_roles {s0 t : State} {d : DevId} {p : PartId} {e : Nat} {s : State} (e : judgePart d p e s = some t) (hk : Roles s0 s) : Roles s0 t := by
  unfold judgePart at e
  (try dsimp only at e)
  repeat' split at e
  all_goals (try cases e)
  all_goals repeat (first | with_reducible assumption | with_reducible refine seeEpoch_roles (by with_reducible assumption) ?_ | with_reducible apply epochLoses_roles | with_reducible apply reissueTo_roles | intro _ | with_reducible apply Roles.ite | simp only [Roles.upd] | dsimp only | split)

theorem runXfr_start_roles {s0 : State} (p : PartId) (op : Nat) (bd : Bytes → State → State) (s : State)
    (hb : ∀ x t, Roles s0 t → Roles s0 (bd x t)) (hk : Roles s0 s) : Roles s0 (runXfr.start p op bd s) := by
  unfold runXfr.start
  split
  · exact hb _ _ (takeCmd_roles (by assumption) hk)
  · exact takeCmd_roles (by assumption) hk

theorem runXfr_roles {s0 : State} (p : PartId) (op : Nat) (bd more : Bytes → State → State) (s : State)
    (hb : ∀ x t, Roles s0 t → Roles s0 (bd x t)) (hm : ∀ x t, Roles s0 t → Roles s0 (more x t)) (hk : Roles s0 s) :
    Roles s0 (runXfr p op bd more s) := by
  unfold runXfr
  split
  · split
    · exact hm _ _ hk
    · exact runXfr_start_roles p op bd s hb hk
  · exact runXfr_start_roles p op bd s hb hk

theorem setXfrAt_roles {s0 : State} (p : PartId) (n : Nat) (s : State) (hk : Roles s0 s) : Roles s0 (setXfrAt p n s) := by
  unfold setXfrAt
  repeat (first | with_reducible assumption | with_reducible apply updExec_roles | intro _ | with_reducible apply Roles.ite | simp only [Roles.upd] | dsimp only | split)

theorem hostWrite_roles {s0 : State} (p : PartId) (kind : HostWriteKind) (addr : Nat) (b : Bytes) (s : State) (hk : Roles s0 s) : Roles s0 (hostWrite p kind addr b s) := by
  unfold hostWrite
  repeat (first | with_reducible assumption | with_reducible apply dmaPush_roles | intro _ | with_reducible apply Roles.ite | simp only [Roles.upd] | dsimp only | split)

theorem takeSlot_roles {s0 : State} (p : PartId) (d : Bytes) (m : Model) (i slot : Nat) (s : State) (hk : Roles s0 s) : Roles s0 (takeSlot p d m i slot s) := by
  unfold takeSlot
  repeat (first | with_reducible assumption | with_reducible apply updSlot_roles | with_reducible apply hostRead_roles | with_reducible apply setXfrAt_roles | intro _ | with_reducible apply Roles.ite | simp only [Roles.upd] | dsimp only | split)

theorem takeSlots_roles {s0 : State} (p : PartId) (d : Bytes) (m : Model) (base : Nat) : ∀ (x0 : List Nat) (s : State), Roles s0 s → Roles s0 (takeSlots p d m base x0 s)
  | [], s, h => by
    unfold takeSlots
    repeat (first | with_reducible assumption | with_reducible apply takeSlot_roles | with_reducible apply cmdFail_roles | intro _ | with_reducible apply Roles.ite | simp only [Roles.upd] | dsimp only | split)
  | i :: rest, s, h => by
    unfold takeSlots
    repeat (first | with_reducible assumption | with_reducible apply takeSlots_roles | with_reducible apply takeSlot_roles | with_reducible apply cmdFail_roles | intro _ | with_reducible apply Roles.ite | simp only [Roles.upd] | dsimp only | split)

theorem tokensInEnd_roles {s0 : State} (p : PartId) (d : Bytes) (s : State) (hk : Roles s0 s) : Roles s0 (tokensInEnd p d s) := by
  unfold tokensInEnd
  repeat (first | with_reducible assumption | with_reducible apply cmdDone_roles | with_reducible apply updJob_roles | intro _ | with_reducible apply Roles.ite | simp only [Roles.upd] | dsimp only | split)

theorem tokensIn_roles {s0 : State} (p : PartId) (d : Bytes) (s : State) (hk : Roles s0 s) : Roles s0 (tokensIn p d s) := by
  unfold tokensIn
  repeat (first | with_reducible assumption | with_reducible apply cmdFail_roles | with_reducible apply takeSlots_roles | with_reducible apply tokensInEnd_roles | intro _ | with_reducible apply Roles.ite | simp only [Roles.upd] | dsimp only | split)

theorem execXfrTokensIn_roles {s0 : State} (p : PartId) (s : State) (hk : Roles s0 s) : RolesO s0 (execXfrTokensIn p s) := by
  unfold execXfrTokensIn
  repeat (first | with_reducible assumption | with_reducible apply RolesO.next | with_reducible apply RolesO.ite | with_reducible apply runXfr_roles | with_reducible apply tokensIn_roles | intro _ | with_reducible apply Roles.ite | simp only [Roles.upd] | dsimp only | split)

theorem recordIntervals_roles {s0 : State} (p : PartId) (s : State) (hk : Roles s0 s) : Roles s0 (recordIntervals p s) := by
  unfold recordIntervals
  repeat (first | with_reducible assumption | with_reducible apply updPart_roles | with_reducible apply Roles.foldl | intro _ | with_reducible apply Roles.ite | with_reducible apply Roles.iteSnd | with_reducible apply Roles.iteFst | simp only [Roles.upd] | dsimp only | split)

theorem outsideMarks_roles {s0 : State} (p : PartId) (d : Bytes) (s : State) (hk : Roles s0 s) : Roles s0 (outsideMarks p d s) := by
  unfold outsideMarks
  repeat (first | with_reducible assumption | with_reducible apply outside_roles | intro _ | with_reducible apply Roles.ite | simp only [Roles.upd] | dsimp only | split)

theorem recordMarks_roles {s0 : State} (p : PartId) (d : Bytes) (s : State) (hk : Roles s0 s) : Roles s0 (recordMarks p d s) := by
  unfold recordMarks
  repeat (first | with_reducible assumption | with_reducible apply cntPart_roles | with_reducible apply updJob_roles | with_reducible apply deadlineMiss_roles | with_reducible apply outsideMarks_roles | intro _ | with_reducible apply Roles.ite | simp only [Roles.upd] | dsimp only | split)

theorem recordCounts_roles {s0 : State} (p : PartId) (s : State) (hk : Roles s0 s) : Roles s0 (recordCounts p s) := by
  unfold recordCounts
  repeat (first | with_reducible assumption | with_reducible apply cntPart64_roles | with_reducible apply updPart_roles | with_reducible apply cntPart_roles | with_reducible apply recordIntervals_roles | intro _ | with_reducible apply Roles.ite | simp only [Roles.upd] | dsimp only | split)

theorem tokensOutRows_roles {s0 : State} (p : PartId) (d : Bytes) (s : State) (hk : Roles s0 s) : Roles s0 (tokensOutRows p d s) := by
  unfold tokensOutRows
  repeat (first | with_reducible assumption | with_reducible apply cmdFail_roles | with_reducible apply eachOf_roles | with_reducible apply hostWrite_roles | with_reducible apply setXfrAt_roles | with_reducible apply cntPart64_roles | intro _ | with_reducible apply Roles.ite | simp only [Roles.upd] | dsimp only | split)

theorem recordIssued_roles {s0 : State} (p : PartId) (s : State) (hk : Roles s0 s) : Roles s0 (recordIssued p s) := by
  unfold recordIssued
  repeat (first | with_reducible assumption | with_reducible apply record_roles | with_reducible apply cmdDone_roles | intro _ | with_reducible apply Roles.ite | simp only [Roles.upd] | dsimp only | split)

theorem tokensOutRecord_roles {s0 : State} (p : PartId) (d : Bytes) (s : State) (hk : Roles s0 s) : Roles s0 (tokensOutRecord p d s) := by
  unfold tokensOutRecord
  repeat (first | with_reducible assumption | with_reducible apply recordMarks_roles | with_reducible apply recordCounts_roles | with_reducible apply cmdDone_roles | with_reducible apply updPart_roles | with_reducible apply setXfrAt_roles | with_reducible apply record_roles | with_reducible apply recordIssued_roles | with_reducible apply settleReleased_roles | with_reducible apply issueRecord_roles | intro _ | with_reducible apply Roles.ite | simp only [Roles.upd] | dsimp only | split)

theorem heldRecord_roles {s0 : State} (p : PartId) (s : State) (hk : Roles s0 s) : Roles s0 (heldRecord p s) := by
  unfold heldRecord
  repeat (first | with_reducible assumption | with_reducible apply wakeEvent_roles | with_reducible apply updExec_roles | intro _ | with_reducible apply Roles.ite | simp only [Roles.upd] | dsimp only | split)

theorem copyArrive_roles {s0 : State} (p : PartId) (off : Nat) (b : Bytes) (bad : Bool) (s : State) (hk : Roles s0 s) : Roles s0 (copyArrive p off b bad s) := by
  unfold copyArrive
  repeat (first | with_reducible assumption | with_reducible apply writeCells_roles | with_reducible apply setXfrAt_roles | intro _ | with_reducible apply Roles.ite | simp only [Roles.upd] | dsimp only | split)

theorem copyStart_roles {s0 : State} (p : PartId) (d : Bytes) (s : State) (hk : Roles s0 s) : Roles s0 (copyStart p d s) := by
  unfold copyStart
  repeat (first | with_reducible assumption | with_reducible apply cmdFail_roles | with_reducible apply hostRead_roles | with_reducible apply updExec_roles | with_reducible apply chargeRead_roles | with_reducible apply record_roles | with_reducible apply hostWrite_roles | with_reducible apply cmdDone_roles | with_reducible apply copyElems_roles | with_reducible apply touchTd_roles | intro _ | with_reducible apply Roles.ite | with_reducible apply Roles.iteSnd | with_reducible apply Roles.iteFst | simp only [Roles.upd] | dsimp only | split)

theorem copyMore_roles {s0 : State} (p : PartId) (d : Bytes) (s : State) (hk : Roles s0 s) : Roles s0 (copyMore p d s) := by
  unfold copyMore
  repeat (first | with_reducible assumption | with_reducible apply cmdDone_roles | intro _ | with_reducible apply Roles.ite | simp only [Roles.upd] | dsimp only | split)

theorem execXfrCopy_roles {s0 : State} (p : PartId) (s : State) (hk : Roles s0 s) : RolesO s0 (execXfrCopy p s) := by
  unfold execXfrCopy
  repeat (first | with_reducible assumption | with_reducible apply RolesO.next | with_reducible apply RolesO.ite | with_reducible apply runXfr_roles | with_reducible apply copyStart_roles | with_reducible apply copyMore_roles | intro _ | with_reducible apply Roles.ite | simp only [Roles.upd] | dsimp only | split)

theorem tdWriteAt_roles {s0 : State} (p : PartId) (t : Bytes) (off : Nat) (b : Bytes) (s : State) (hk : Roles s0 s) : Roles s0 (tdWriteAt p t off b s) := by
  unfold tdWriteAt
  repeat (first | with_reducible assumption | with_reducible apply writeCells_roles | intro _ | with_reducible apply Roles.ite | simp only [Roles.upd] | dsimp only | split)

theorem writeResult_roles {s0 : State} (p : PartId) (v : ColView) (k : Nat) (b : Bytes) (s : State) (hk : Roles s0 s) : Roles s0 (writeResult p v k b s) := by
  unfold writeResult
  repeat (first | with_reducible assumption | with_reducible apply tdWriteAt_roles | intro _ | with_reducible apply Roles.ite | with_reducible apply Roles.iteSnd | with_reducible apply Roles.iteFst | simp only [Roles.upd] | dsimp only | split)

theorem updRun_roles {s0 : State} (p : PartId) (f : ColRun → ColRun) (s : State) (hk : Roles s0 s) : Roles s0 (updRun p f s) := by
  unfold updRun
  repeat (first | with_reducible assumption | with_reducible apply updPart_roles | intro _ | with_reducible apply Roles.ite | simp only [Roles.upd] | dsimp only | split)

theorem updChunk_roles {s0 : State} (p : PartId) (k : Nat) (f : ChunkSt → ChunkSt) (s : State) (hk : Roles s0 s) : Roles s0 (updChunk p k f s) := by
  unfold updChunk
  repeat (first | with_reducible assumption | with_reducible apply updRun_roles | intro _ | with_reducible apply Roles.ite | simp only [Roles.upd] | dsimp only | split)

theorem sendChunk_roles {s0 : State} (p : PartId) (v : ColView) (o : ChunkOut) (retx : Bool) (s : State) (hk : Roles s0 s) : Roles s0 (sendChunk p v o retx s) := by
  unfold sendChunk
  repeat (first | with_reducible assumption | with_reducible apply updComm_roles | with_reducible apply eachOf_roles | with_reducible apply sendPiece_roles | intro _ | with_reducible apply Roles.ite | with_reducible apply Roles.iteSnd | with_reducible apply Roles.iteFst | simp only [Roles.upd] | dsimp only | split)

theorem sendMsg_roles {s0 : State} (p : PartId) (v : ColView) (k : Nat) (o : ChunkOut) (s : State) (hk : Roles s0 s) : Roles s0 (sendMsg p v k o s) := by
  unfold sendMsg
  repeat (first | with_reducible assumption | with_reducible apply sendChunk_roles | with_reducible apply updChunk_roles | intro _ | with_reducible apply Roles.ite | simp only [Roles.upd] | dsimp only | split)

theorem answerChunk_roles {s0 : State} (p : PartId) (x : Piece) (kind : Nat) (s : State) (hk : Roles s0 s) : Roles s0 (answerChunk p x kind s) := by
  unfold answerChunk
  repeat (first | with_reducible assumption | with_reducible apply sendPiece_roles | intro _ | with_reducible apply Roles.ite | simp only [Roles.upd] | dsimp only | split)

theorem noteLag_roles {s0 : State} (v : ColView) (ownDt : Nat) (ins : List ChunkIn) (s : State) (hk : Roles s0 s) : Roles s0 (noteLag v ownDt ins s) := by
  unfold noteLag
  repeat (first | with_reducible assumption | with_reducible apply updComm_roles | with_reducible apply Roles.foldl | intro _ | with_reducible apply Roles.ite | simp only [Roles.upd] | dsimp only | split)

theorem chunkResult_roles {s0 : State} (p : PartId) (v : ColView) (k : Nat) (acc : Bytes) (s : State) (hk : Roles s0 s) : Roles s0 (chunkResult p v k acc s) := by
  unfold chunkResult
  repeat (first | with_reducible assumption | with_reducible apply eachOf_roles | with_reducible apply sendMsg_roles | with_reducible apply updChunk_roles | with_reducible apply writeResult_roles | intro _ | with_reducible apply Roles.ite | simp only [Roles.upd] | dsimp only | split)

theorem enterRound_roles {s0 : State} (p : PartId) (v : ColView) (k r : Nat) (acc : Bytes) (s : State) (hk : Roles s0 s) : Roles s0 (enterRound p v k r acc s) := by
  unfold enterRound
  repeat (first | with_reducible assumption | with_reducible apply sendMsg_roles | with_reducible apply updChunk_roles | with_reducible apply chunkResult_roles | intro _ | with_reducible apply Roles.ite | simp only [Roles.upd] | dsimp only | split)

theorem broadcastOn_roles {s0 : State} (p : PartId) (v : ColView) (k : Nat) (acc : Bytes) (s : State) (hk : Roles s0 s) : Roles s0 (broadcastOn p v k acc s) := by
  unfold broadcastOn
  repeat (first | with_reducible assumption | with_reducible apply eachOf_roles | with_reducible apply sendMsg_roles | with_reducible apply chunkResult_roles | intro _ | with_reducible apply Roles.ite | simp only [Roles.upd] | dsimp only | split)

theorem chunkGathered_roles {s0 : State} (p : PartId) (v : ColView) (c : ChunkSt) (s : State) (hk : Roles s0 s) : Roles s0 (chunkGathered p v c s) := by
  unfold chunkGathered
  repeat (first | with_reducible assumption | with_reducible apply updChunk_roles | with_reducible apply broadcastOn_roles | with_reducible apply sendMsg_roles | with_reducible apply enterRound_roles | with_reducible apply Roles.foldl | intro _ | with_reducible apply Roles.ite | with_reducible apply Roles.iteSnd | with_reducible apply Roles.iteFst | simp only [Roles.upd] | dsimp only | split)

theorem chunkStep_roles {s0 t : State} {p : PartId} {v : ColView} {c : ChunkSt} {s : State} (e : chunkStep p v c s = some t) (hk : Roles s0 s) : Roles s0 t := by
  unfold chunkStep at e
  (try dsimp only at e)
  repeat' split at e
  all_goals (try cases e)
  all_goals repeat (first | with_reducible assumption | with_reducible apply noteLag_roles | with_reducible apply chunkGathered_roles | with_reducible apply chunkResult_roles | with_reducible apply enterRound_roles | with_reducible apply broadcastOn_roles | with_reducible apply writeResult_roles | with_reducible apply updChunk_roles | with_reducible apply Roles.foldl | intro _ | with_reducible apply Roles.ite | simp only [Roles.upd] | dsimp only | split)

theorem openChunk_roles {s0 : State} (p : PartId) (v : ColView) (s : State) (hk : Roles s0 s) : Roles s0 (openChunk p v s) := by
  unfold openChunk
  repeat (first | with_reducible assumption | with_reducible apply updRun_roles | with_reducible apply sendMsg_roles | with_reducible apply cntPart_roles | with_reducible apply Roles.foldl | intro _ | with_reducible apply Roles.ite | with_reducible apply Roles.iteSnd | with_reducible apply Roles.iteFst | simp only [Roles.upd] | dsimp only | split)

theorem failSource_roles {s0 : State} (p : PartId) (v : ColView) (e : CmdErr) (s : State) (hk : Roles s0 s) : Roles s0 (failSource p v e s) := by
  unfold failSource
  repeat (first | with_reducible assumption | with_reducible apply cmdFail_roles | with_reducible apply abortComm_roles | with_reducible apply updPart_roles | intro _ | with_reducible apply Roles.ite | simp only [Roles.upd] | dsimp only | split)

theorem colStep_roles {s0 t : State} {p : PartId} {s : State} (e : colStep p s = some t) (h : Roles s0 s) : Roles s0 t := by
  unfold colStep at e
  split at e
  · cases e
  · split at e
    · cases e
      exact failSource_roles _ _ _ _ h
    · split at e
      · cases e
        have w := ‹List.findSome? _ _ = some _›
        obtain ⟨c, _, hc⟩ := List.exists_of_findSome?_eq_some w
        exact chunkStep_roles hc h
      · dsimp only at e
        repeat' split at e
        all_goals (try cases e)
        all_goals repeat (first | with_reducible assumption | with_reducible apply updRun_roles | with_reducible apply openChunk_roles | with_reducible apply updComm_roles | with_reducible apply cmdDone_roles | with_reducible apply updPart_roles | simp only [Roles.upd] | dsimp only)

theorem setReasm_roles {s0 : State} (x : Piece) (r : Option Reasm) (s : State) (hk : Roles s0 s) : Roles s0 (setReasm x r s) := by
  unfold setReasm
  repeat (first | with_reducible assumption | intro _ | with_reducible apply Roles.ite | simp only [Roles.upd] | dsimp only | split)

theorem takeChunk_roles {s0 : State} (p : PartId) (v : ColView) (x : Piece) (dt : Nat) (data : Bytes) (s : State) (hk : Roles s0 s) : Roles s0 (takeChunk p v x dt data s) := by
  unfold takeChunk
  repeat (first | with_reducible assumption | with_reducible apply tdWriteAt_roles | with_reducible apply updRun_roles | with_reducible apply updChunk_roles | with_reducible apply Roles.foldl | intro _ | with_reducible apply Roles.ite | simp only [Roles.upd] | dsimp only | split)

theorem checkChunk_roles {s0 : State} (p : PartId) (v : ColView) (x : Piece) (dt len : Nat) (s : State) (hk : Roles s0 s) : Roles s0 (checkChunk p v x dt len s) := by
  unfold checkChunk
  repeat (first | with_reducible assumption | with_reducible apply answerChunk_roles | with_reducible apply takeChunk_roles | with_reducible apply setReasm_roles | with_reducible apply raiseAbort_roles | with_reducible apply cntPart_roles | intro _ | with_reducible apply Roles.ite | simp only [Roles.upd] | dsimp only | split)

theorem dataNow_roles {s0 : State} (x : Piece) (dt : Nat) (s : State) (hk : Roles s0 s) : Roles s0 (dataNow x dt s) := by
  unfold dataNow
  repeat (first | with_reducible assumption | with_reducible apply raiseAbort_roles | with_reducible apply checkChunk_roles | with_reducible apply setReasm_roles | intro _ | with_reducible apply Roles.ite | with_reducible apply Roles.iteSnd | with_reducible apply Roles.iteFst | simp only [Roles.upd] | dsimp only | split)

theorem dataBad_roles {s0 : State} (x : Piece) (dt : Nat) (s : State) (hk : Roles s0 s) : Roles s0 (dataBad x dt s) := by
  unfold dataBad
  repeat (first | with_reducible assumption | with_reducible apply checkChunk_roles | with_reducible apply setReasm_roles | intro _ | with_reducible apply Roles.ite | simp only [Roles.upd] | dsimp only | split)

theorem notPresent_roles {s0 : State} (x : Piece) (s : State) (hk : Roles s0 s) : Roles s0 (notPresent x s) := by
  unfold notPresent
  repeat (first | with_reducible assumption | with_reducible apply sendPiece_roles | intro _ | with_reducible apply Roles.ite | simp only [Roles.upd] | dsimp only | split)

theorem dataPiece_roles {s0 t : State} {v : Bool} {src : DevId} {path : Path} {dt : Nat} {b : Bytes} {x : Piece} {s : State} (e : dataPiece src path dt b x s = (v, t)) (hk : Roles s0 s) : Roles s0 t := by
  unfold dataPiece at e
  (try dsimp only at e)
  repeat' split at e
  all_goals (try cases e)
  all_goals repeat (first | with_reducible assumption | with_reducible apply notPresent_roles | with_reducible apply leavePool_roles | with_reducible apply answerChunk_roles | with_reducible apply dataNow_roles | intro _ | with_reducible apply Roles.ite | simp only [Roles.upd] | dsimp only | split)

theorem dataPiece_snd_roles {s0 : State} (src : DevId) (path : Path) (dt : Nat) (b : Bytes) (x : Piece) (s : State) (hk : Roles s0 s) : Roles s0 (dataPiece src path dt b x s).2 :=
  dataPiece_roles (Prod.eta _).symm hk

theorem takeWaiting_roles {s0 t : State} : ∀ (w : List (DevId × Path × Nat × Bytes)) (done : List (DevId × Path × Nat × Bytes)) (s : State),
    takeWaiting done w s = some t → Roles s0 s → Roles s0 t
  | [], done, s, e, h => by
    unfold takeWaiting at e
    cases e
  | x :: w, done, s, e, h => by
    unfold takeWaiting at e
    dsimp only at e
    split at e
    · split at e
      · exact takeWaiting_roles w _ s e h
      · cases e
        refine dataBad_roles _ _ _ ?_
        simpa only [Roles.upd] using h
    · split at e
      · exact takeWaiting_roles w _ s e h
      · cases e
        refine dataPiece_snd_roles _ _ _ _ _ _ ?_
        simpa only [Roles.upd] using h

theorem colLoop_roles {s0 : State} (p : PartId) : ∀ (n : Nat) (s : State), Roles s0 s → Roles s0 (colLoop p n s)
  | 0, s, h => by
    unfold colLoop
    repeat (first | with_reducible assumption | with_reducible refine colStep_roles (by with_reducible assumption) ?_ | with_reducible refine takeWaiting_roles (by with_reducible assumption) ?_ | intro _ | with_reducible apply Roles.ite | simp only [Roles.upd] | dsimp only | split)
  | n + 1, s, h => by
    unfold colLoop
    repeat (first | with_reducible assumption | with_reducible apply colLoop_roles | with_reducible refine takeWaiting_roles _ _ _ (by with_reducible assumption) ?_ | with_reducible refine colStep_roles (by with_reducible assumption) ?_ | with_reducible refine takeWaiting_roles (by with_reducible assumption) ?_ | intro _ | with_reducible apply Roles.ite | simp only [Roles.upd] | dsimp only | split)

theorem colSettle_roles {s0 : State} (p : PartId) (s : State) (hk : Roles s0 s) : Roles s0 (colSettle p s) := by
  unfold colSettle
  repeat (first | with_reducible assumption | with_reducible apply colLoop_roles | intro _ | with_reducible apply Roles.ite | simp only [Roles.upd] | dsimp only | split)

theorem becomeActive_roles {s0 : State} (h : Nat) (s : State) (hk : Roles s0 s) : Roles s0 (becomeActive h s) := by
  unfold becomeActive
  repeat (first | with_reducible assumption | with_reducible apply updComm_roles | with_reducible apply cmdDone_roles | with_reducible apply updStream_roles | intro _ | with_reducible apply Roles.ite | with_reducible apply Roles.iteSnd | with_reducible apply Roles.iteFst | simp only [Roles.upd] | dsimp only | split)

theorem sendReady_roles {s0 : State} (c : Comm) (ds : List DevId) (s : State) (hk : Roles s0 s) : Roles s0 (sendReady c ds s) := by
  unfold sendReady
  repeat (first | with_reducible assumption | with_reducible apply eachOf_roles | with_reducible apply sendPiece_roles | intro _ | with_reducible apply Roles.ite | simp only [Roles.upd] | dsimp only | split)

theorem takeReady_roles {s0 : State} (h : Nat) (s : State) (hk : Roles s0 s) : Roles s0 (takeReady h s) := by
  unfold takeReady
  repeat (first | with_reducible assumption | with_reducible apply becomeActive_roles | with_reducible apply sendReady_roles | intro _ | with_reducible apply Roles.ite | simp only [Roles.upd] | dsimp only | split)

theorem joinSettle_roles {s0 : State} (h : Nat) (s : State) (hk : Roles s0 s) : Roles s0 (joinSettle h s) := by
  unfold joinSettle
  repeat (first | with_reducible assumption | with_reducible apply sendPiece_roles | with_reducible apply updComm_roles | with_reducible apply takeReady_roles | with_reducible apply sendReady_roles | intro _ | with_reducible apply Roles.ite | simp only [Roles.upd] | dsimp only | split)

theorem createFails_roles {s0 : State} (p : PartId) (ct status : Nat) (s : State) (hk : Roles s0 s) : Roles s0 (createFails p ct status s) := by
  unfold createFails
  repeat (first | with_reducible assumption | with_reducible apply cmdDone_roles | with_reducible apply updStream_roles | intro _ | with_reducible apply Roles.ite | simp only [Roles.upd] | dsimp only | split)

theorem startCreate_roles {s0 : State} (p : PartId) (d : Bytes) (m : List DevId) (s : State) (hk : Roles s0 s) : Roles s0 (startCreate p d m s) := by
  unfold startCreate
  repeat (first | with_reducible assumption | with_reducible apply createFails_roles | with_reducible apply updExec_roles | with_reducible apply setComm_roles | with_reducible apply joinSettle_roles | with_reducible apply sendPiece_roles | intro _ | with_reducible apply Roles.ite | with_reducible apply Roles.iteSnd | with_reducible apply Roles.iteFst | simp only [Roles.upd] | dsimp only | split)

theorem execColCommCreate_roles {s0 : State} (p : PartId) (s : State) (hk : Roles s0 s) : RolesO s0 (execColCommCreate p s) := by
  unfold execColCommCreate
  repeat (first | with_reducible assumption | with_reducible apply RolesO.next | with_reducible apply RolesO.ite | with_reducible apply runCmd_roles | with_reducible apply cmdFail_roles | with_reducible apply startCreate_roles | with_reducible apply chargeRead_roles | intro _ | with_reducible apply Roles.ite | with_reducible apply Roles.iteSnd | with_reducible apply Roles.iteFst | simp only [Roles.upd] | dsimp only | split)

theorem execColCommDestroy_roles {s0 : State} (p : PartId) (s : State) (hk : Roles s0 s) : RolesO s0 (execColCommDestroy p s) := by
  unfold execColCommDestroy
  repeat (first | with_reducible assumption | with_reducible apply RolesO.next | with_reducible apply RolesO.ite | with_reducible apply runCmd_roles | with_reducible apply cmdFail_roles | with_reducible apply cmdDone_roles | with_reducible apply setComm_roles | intro _ | with_reducible apply Roles.ite | simp only [Roles.upd] | dsimp only | split)

theorem beginRun_roles {s0 : State} (p : PartId) (r : ColRun) (s : State) (hk : Roles s0 s) : Roles s0 (beginRun p r s) := by
  unfold beginRun
  repeat (first | with_reducible assumption | with_reducible apply updPart_roles | with_reducible apply updRun_roles | with_reducible apply touchTd_roles | with_reducible apply tdWriteAt_roles | with_reducible apply colSettle_roles | with_reducible apply Roles.foldl | intro _ | with_reducible apply Roles.ite | simp only [Roles.upd] | dsimp only | split)

theorem colStart_roles {s0 : State} (p : PartId) (op : Nat) (d : Bytes) (s : State) (hk : Roles s0 s) : Roles s0 (colStart p op d s) := by
  unfold colStart
  repeat (first | with_reducible assumption | with_reducible apply cmdFail_roles | with_reducible apply abortComm_roles | with_reducible apply beginRun_roles | intro _ | with_reducible apply Roles.ite | simp only [Roles.upd] | dsimp only | split)

theorem execColAllreduce_roles {s0 : State} (p : PartId) (s : State) (hk : Roles s0 s) : RolesO s0 (execColAllreduce p s) := by
  unfold execColAllreduce
  repeat (first | with_reducible assumption | with_reducible apply RolesO.next | with_reducible apply RolesO.ite | with_reducible apply runCmd_roles | with_reducible apply colStart_roles | intro _ | with_reducible apply Roles.ite | simp only [Roles.upd] | dsimp only | split)

theorem execColAllgather_roles {s0 : State} (p : PartId) (s : State) (hk : Roles s0 s) : RolesO s0 (execColAllgather p s) := by
  unfold execColAllgather
  repeat (first | with_reducible assumption | with_reducible apply RolesO.next | with_reducible apply RolesO.ite | with_reducible apply runCmd_roles | with_reducible apply colStart_roles | intro _ | with_reducible apply Roles.ite | simp only [Roles.upd] | dsimp only | split)

theorem execColReducescatter_roles {s0 : State} (p : PartId) (s : State) (hk : Roles s0 s) : RolesO s0 (execColReducescatter p s) := by
  unfold execColReducescatter
  repeat (first | with_reducible assumption | with_reducible apply RolesO.next | with_reducible apply RolesO.ite | with_reducible apply runCmd_roles | with_reducible apply colStart_roles | intro _ | with_reducible apply Roles.ite | simp only [Roles.upd] | dsimp only | split)

theorem execColBroadcast_roles {s0 : State} (p : PartId) (s : State) (hk : Roles s0 s) : RolesO s0 (execColBroadcast p s) := by
  unfold execColBroadcast
  repeat (first | with_reducible assumption | with_reducible apply RolesO.next | with_reducible apply RolesO.ite | with_reducible apply runCmd_roles | with_reducible apply colStart_roles | intro _ | with_reducible apply Roles.ite | simp only [Roles.upd] | dsimp only | split)

theorem execColBarrier_roles {s0 : State} (p : PartId) (s : State) (hk : Roles s0 s) : RolesO s0 (execColBarrier p s) := by
  unfold execColBarrier
  repeat (first | with_reducible assumption | with_reducible apply RolesO.next | with_reducible apply RolesO.ite | with_reducible apply runCmd_roles | with_reducible apply colStart_roles | intro _ | with_reducible apply Roles.ite | simp only [Roles.upd] | dsimp only | split)

theorem execColAlltoallv_roles {s0 : State} (p : PartId) (s : State) (hk : Roles s0 s) : RolesO s0 (execColAlltoallv p s) := by
  unfold execColAlltoallv
  repeat (first | with_reducible assumption | with_reducible apply RolesO.next | with_reducible apply RolesO.ite | with_reducible apply runCmd_roles | with_reducible apply colStart_roles | intro _ | with_reducible apply Roles.ite | simp only [Roles.upd] | dsimp only | split)

theorem execColBallotMerge_roles {s0 : State} (p : PartId) (s : State) (hk : Roles s0 s) : RolesO s0 (execColBallotMerge p s) := by
  unfold execColBallotMerge
  repeat (first | with_reducible assumption | with_reducible apply RolesO.next | with_reducible apply RolesO.ite | with_reducible apply runCmd_roles | with_reducible apply colStart_roles | intro _ | with_reducible apply Roles.ite | simp only [Roles.upd] | dsimp only | split)

theorem ifActive_roles {s0 : State} (x : Piece) (s : State) (hk : Roles s0 s) : Roles s0 (ifActive x s) := by
  unfold ifActive
  repeat (first | with_reducible assumption | with_reducible apply notPresent_roles | intro _ | with_reducible apply Roles.ite | simp only [Roles.upd] | dsimp only | split)

theorem ackPiece_roles {s0 : State} (x : Piece) (s : State) (hk : Roles s0 s) : Roles s0 (ackPiece x s) := by
  unfold ackPiece
  repeat (first | with_reducible assumption | with_reducible apply updRun_roles | intro _ | with_reducible apply Roles.ite | simp only [Roles.upd] | dsimp only | split)

theorem nackPiece_roles {s0 : State} (x : Piece) (s : State) (hk : Roles s0 s) : Roles s0 (nackPiece x s) := by
  unfold nackPiece
  repeat (first | with_reducible assumption | with_reducible apply sendChunk_roles | intro _ | with_reducible apply Roles.ite | simp only [Roles.upd] | dsimp only | split)

theorem holdJoin_roles {s0 : State} (x : Piece) (s : State) (hk : Roles s0 s) : Roles s0 (holdJoin x s) := by
  unfold holdJoin
  repeat (first | with_reducible assumption | intro _ | with_reducible apply Roles.ite | simp only [Roles.upd] | dsimp only | split)

theorem joinPiece_roles {s0 : State} (x : Piece) (s : State) (hk : Roles s0 s) : Roles s0 (joinPiece x s) := by
  unfold joinPiece
  repeat (first | with_reducible assumption | with_reducible apply ifActive_roles | with_reducible apply joinSettle_roles | with_reducible apply holdJoin_roles | with_reducible apply notPresent_roles | intro _ | with_reducible apply Roles.ite | simp only [Roles.upd] | dsimp only | split)

theorem readyPiece_roles {s0 : State} (x : Piece) (s : State) (hk : Roles s0 s) : Roles s0 (readyPiece x s) := by
  unfold readyPiece
  repeat (first | with_reducible assumption | with_reducible apply takeReady_roles | with_reducible apply ifActive_roles | intro _ | with_reducible apply Roles.ite | simp only [Roles.upd] | dsimp only | split)

theorem abortPiece_roles {s0 : State} (x : Piece) (s : State) (hk : Roles s0 s) : Roles s0 (abortPiece x s) := by
  unfold abortPiece
  repeat (first | with_reducible assumption | with_reducible apply updComm_roles | with_reducible apply sendAbort_roles | with_reducible apply stepLoses_roles | with_reducible apply markUnreachable_roles | with_reducible apply endAborted_roles | intro _ | with_reducible apply Roles.ite | simp only [Roles.upd] | dsimp only | split)

theorem probePiece_roles {s0 : State} (x : Piece) (s : State) (hk : Roles s0 s) : Roles s0 (probePiece x s) := by
  unfold probePiece
  repeat (first | with_reducible assumption | with_reducible apply sendPiece_roles | with_reducible apply notPresent_roles | intro _ | with_reducible apply Roles.ite | simp only [Roles.upd] | dsimp only | split)

theorem answered_roles {s0 : State} (p : PartId) (d : DevId) (s : State) (hk : Roles s0 s) : Roles s0 (answered p d s) := by
  unfold answered
  repeat (first | with_reducible assumption | with_reducible apply updConj_roles | with_reducible apply updRun_roles | intro _ | with_reducible apply Roles.ite | with_reducible apply Roles.iteSnd | with_reducible apply Roles.iteFst | simp only [Roles.upd] | dsimp only | split)

theorem probeAckPiece_roles {s0 : State} (x : Piece) (s : State) (hk : Roles s0 s) : Roles s0 (probeAckPiece x s) := by
  unfold probeAckPiece
  repeat (first | with_reducible assumption | with_reducible apply answered_roles | with_reducible apply loseLate_roles | with_reducible apply lostMember_roles | intro _ | with_reducible apply Roles.ite | with_reducible apply Roles.iteSnd | with_reducible apply Roles.iteFst | simp only [Roles.upd] | dsimp only | split)

theorem deliverPiece_roles {s0 : State} (src : DevId) (path : Path) (dt : Nat) (b : Bytes) (x : Piece) (s : State) (hk : Roles s0 s) : Roles s0 (deliverPiece src path dt b x s) := by
  unfold deliverPiece
  repeat (first | with_reducible assumption | with_reducible refine dataPiece_roles (by with_reducible assumption) ?_ | with_reducible apply dataPiece_snd_roles | with_reducible apply leavePool_roles | with_reducible apply ackPiece_roles | with_reducible apply ifActive_roles | with_reducible apply nackPiece_roles | with_reducible apply joinPiece_roles | with_reducible apply readyPiece_roles | with_reducible apply abortPiece_roles | with_reducible apply probePiece_roles | with_reducible apply probeAckPiece_roles | with_reducible apply cntPart_roles | with_reducible apply colSettle_roles | intro _ | with_reducible apply Roles.ite | with_reducible apply Roles.iteSnd | with_reducible apply Roles.iteFst | simp only [Roles.upd] | dsimp only | split)

theorem probeMember_roles {s0 : State} (p : PartId) (d : DevId) (s : State) (hk : Roles s0 s) : Roles s0 (probeMember p d s) := by
  unfold probeMember
  repeat (first | with_reducible assumption | with_reducible apply colSettle_roles | with_reducible apply loseFrom_roles | with_reducible apply updRun_roles | with_reducible apply sendPiece_roles | intro _ | with_reducible apply Roles.ite | with_reducible apply Roles.iteSnd | with_reducible apply Roles.iteFst | simp only [Roles.upd] | dsimp only | split)

theorem execColProbeTimer_roles {s0 : State} (p : PartId) (s : State) (hk : Roles s0 s) : RolesO s0 (execColProbeTimer p s) := by
  unfold execColProbeTimer
  repeat (first | with_reducible assumption | with_reducible apply RolesO.next | with_reducible apply RolesO.ite | with_reducible apply eachOf_roles | with_reducible apply probeMember_roles | intro _ | with_reducible apply Roles.ite | simp only [Roles.upd] | dsimp only | split)

theorem execColProbeTimeout_roles {s0 : State} (p : PartId) (dev : DevId) (s : State) (hk : Roles s0 s) : RolesO s0 (execColProbeTimeout p dev s) := by
  unfold execColProbeTimeout
  repeat (first | with_reducible assumption | with_reducible apply RolesO.next | with_reducible apply RolesO.ite | with_reducible apply colSettle_roles | with_reducible apply loseFrom_roles | with_reducible apply lostMember_roles | intro _ | with_reducible apply Roles.ite | simp only [Roles.upd] | dsimp only | split)

theorem createLapse_roles {s0 : State} (p : PartId) (h : Nat) (s : State) (hk : Roles s0 s) : Roles s0 (createLapse p h s) := by
  unfold createLapse
  repeat (first | with_reducible assumption | with_reducible apply setComm_roles | with_reducible apply createFails_roles | intro _ | with_reducible apply Roles.ite | with_reducible apply Roles.iteSnd | with_reducible apply Roles.iteFst | simp only [Roles.upd] | dsimp only | split)

theorem execCommCreateTimeout_roles {s0 : State} (p : PartId) (s : State) (hk : Roles s0 s) : RolesO s0 (execCommCreateTimeout p s) := by
  unfold execCommCreateTimeout
  repeat (first | with_reducible assumption | with_reducible apply RolesO.next | with_reducible apply RolesO.ite | with_reducible apply eachOf_roles | with_reducible apply createLapse_roles | intro _ | with_reducible apply Roles.ite | simp only [Roles.upd] | dsimp only | split)

theorem execColCommandTimeout_roles {s0 : State} (p : PartId) (s : State) (hk : Roles s0 s) : RolesO s0 (execColCommandTimeout p s) := by
  unfold execColCommandTimeout
  repeat (first | with_reducible assumption | with_reducible apply RolesO.next | with_reducible apply RolesO.ite | with_reducible apply raiseAbort_roles | intro _ | with_reducible apply Roles.ite | simp only [Roles.upd] | dsimp only | split)

theorem execReducerSlotGrant_roles {s0 : State} (s : State) (hk : Roles s0 s) : RolesO s0 (execReducerSlotGrant s) := by
  unfold execReducerSlotGrant
  repeat (first | with_reducible assumption | with_reducible apply RolesO.next | with_reducible apply RolesO.ite | with_reducible apply colSettle_roles | with_reducible apply updChunk_roles | intro _ | with_reducible apply Roles.ite | with_reducible apply Roles.iteSnd | with_reducible apply Roles.iteFst | simp only [Roles.upd] | dsimp only | split)

theorem refuseBare_roles {s0 : State} (k : PortId) (s : State) (hk : Roles s0 s) : Roles s0 (refuseBare k s) := by
  unfold refuseBare
  repeat (first | with_reducible assumption | with_reducible apply cntPort_roles | with_reducible apply record_roles | with_reducible apply secLogMerged_roles | intro _ | with_reducible apply Roles.ite | simp only [Roles.upd] | dsimp only | split)

theorem leaveL1_roles {s0 : State} (k : PortId) (s : State) (hk : Roles s0 s) : Roles s0 (leaveL1 k s) := by
  unfold leaveL1
  repeat (first | with_reducible assumption | with_reducible apply updPort_roles | intro _ | with_reducible apply Roles.ite | simp only [Roles.upd] | dsimp only | split)

theorem hostMem_roles {s0 t : State} {v : MemGate} {k : PortId} {bare : Bool} {bar0 : Option Nat} {s : State} (e : hostMem k bare bar0 s = (v, t)) (hk : Roles s0 s) : Roles s0 t := by
  unfold hostMem at e
  (try dsimp only at e)
  repeat' split at e
  all_goals (try cases e)
  all_goals repeat (first | with_reducible assumption | with_reducible apply leaveL1_roles | with_reducible apply refuseBare_roles | intro _ | with_reducible apply Roles.ite | simp only [Roles.upd] | dsimp only | split)

theorem hostMem_snd_roles {s0 : State} (k : PortId) (bare : Bool) (bar0 : Option Nat) (s : State) (hk : Roles s0 s) : Roles s0 (hostMem k bare bar0 s).2 :=
  hostMem_roles (Prod.eta _).symm hk

theorem hostPart_roles {s0 t : State} {v : Option PartId} {r : Requester} {off : Nat} {s : State} (e : hostPart r off s = (v, t)) (hk : Roles s0 s) : Roles s0 t := by
  unfold hostPart at e
  (try dsimp only at e)
  repeat' split at e
  all_goals (try cases e)
  all_goals repeat (first | with_reducible assumption | with_reducible refine hostMem_roles (by with_reducible assumption) ?_ | with_reducible apply hostMem_snd_roles | intro _ | with_reducible apply Roles.ite | with_reducible apply Roles.iteSnd | with_reducible apply Roles.iteFst | simp only [Roles.upd] | dsimp only | split)

theorem hostPart_snd_roles {s0 : State} (r : Requester) (off : Nat) (s : State) (hk : Roles s0 s) : Roles s0 (hostPart r off s).2 :=
  hostPart_roles (Prod.eta _).symm hk

theorem updLoad_roles {s0 : State} (p : PartId) (f : Load → Load) (s : State) (hk : Roles s0 s) : Roles s0 (updLoad p f s) := by
  unfold updLoad
  repeat (first | with_reducible assumption | with_reducible apply updPart_roles | intro _ | with_reducible apply Roles.ite | simp only [Roles.upd] | dsimp only | split)

theorem loadDecide_roles {s0 : State} (p : PartId) (r : Refuse) (s : State) (hk : Roles s0 s) : Roles s0 (loadDecide p r s) := by
  unfold loadDecide
  repeat (first | with_reducible assumption | with_reducible apply updLoad_roles | intro _ | with_reducible apply Roles.ite | with_reducible apply Roles.iteSnd | with_reducible apply Roles.iteFst | simp only [Roles.upd] | dsimp only | split)

theorem placeSection_roles {s0 : State} (p : PartId) (x : Load) (h : Bytes) (i : Nat) (s : State) (hk : Roles s0 s) : Roles s0 (placeSection p x h i s) := by
  unfold placeSection
  repeat (first | with_reducible assumption | with_reducible apply spaceWrite_roles | with_reducible apply eachOf_roles | with_reducible apply spaceMark_roles | intro _ | with_reducible apply Roles.ite | with_reducible apply Roles.iteSnd | with_reducible apply Roles.iteFst | simp only [Roles.upd] | dsimp only | split)

theorem modelsChanged_roles {s0 : State} (p : PartId) (s : State) (hk : Roles s0 s) : Roles s0 (modelsChanged p s) := by
  unfold modelsChanged
  repeat (first | with_reducible assumption | with_reducible apply mgtEvent_roles | intro _ | with_reducible apply Roles.ite | simp only [Roles.upd] | dsimp only | split)

theorem makeResident_roles {s0 : State} (p : PartId) (x : Load) (h : Bytes) (m : Model) (s : State) (hk : Roles s0 s) : Roles s0 (makeResident p x h m s) := by
  unfold makeResident
  repeat (first | with_reducible assumption | with_reducible apply updPart_roles | with_reducible apply eachOf_roles | with_reducible apply tdPut_roles | with_reducible apply modelsChanged_roles | with_reducible apply updLoad_roles | intro _ | with_reducible apply Roles.ite | with_reducible apply Roles.iteSnd | with_reducible apply Roles.iteFst | simp only [Roles.upd] | dsimp only | split)

theorem placeAll_roles {s0 : State} (p : PartId) (x : Load) (s : State) (hk : Roles s0 s) : Roles s0 (placeAll p x s) := by
  unfold placeAll
  repeat (first | with_reducible assumption | with_reducible apply eachOf_roles | with_reducible apply placeSection_roles | intro _ | with_reducible apply Roles.ite | simp only [Roles.upd] | dsimp only | split)

theorem loadCopied_roles {s0 : State} (p : PartId) (s : State) (hk : Roles s0 s) : Roles s0 (loadCopied p s) := by
  unfold loadCopied
  repeat (first | with_reducible assumption | with_reducible apply placeAll_roles | with_reducible apply updLoad_roles | with_reducible apply loadDecide_roles | with_reducible apply makeResident_roles | with_reducible apply Roles.foldl | intro _ | with_reducible apply Roles.ite | simp only [Roles.upd] | dsimp only | split)

theorem loadFetch_roles {s0 : State} (p : PartId) (n : Nat) (want : Nat → Bool) (done : State → State) (s : State) (hdone : ∀ x0, Roles s0 x0 → Roles s0 (done x0)) (hk : Roles s0 s) : Roles s0 (loadFetch p n want done s) := by
  unfold loadFetch
  repeat (first | with_reducible apply hdone | with_reducible assumption | with_reducible apply updLoad_roles | with_reducible apply eachOf_roles | with_reducible apply hostRead_roles | with_reducible apply Roles.foldl | intro _ | with_reducible apply Roles.ite | simp only [Roles.upd] | dsimp only | split)

theorem loadPlaced_roles {s0 : State} (p : PartId) (s : State) (hk : Roles s0 s) : Roles s0 (loadPlaced p s) := by
  unfold loadPlaced
  repeat (first | with_reducible assumption | with_reducible apply placeAll_roles | with_reducible apply loadDecide_roles | with_reducible apply loadCopied_roles | intro _ | with_reducible apply Roles.ite | with_reducible apply Roles.iteSnd | with_reducible apply Roles.iteFst | simp only [Roles.upd] | dsimp only | split)

theorem loadListed_roles {s0 : State} (p : PartId) (s : State) (hk : Roles s0 s) : Roles s0 (loadListed p s) := by
  unfold loadListed
  repeat (first | with_reducible assumption | with_reducible apply loadDecide_roles | with_reducible apply loadFetch_roles | with_reducible apply loadPlaced_roles | intro _ | with_reducible apply Roles.ite | simp only [Roles.upd] | dsimp only | split)

theorem loadHeaded_roles {s0 : State} (p : PartId) (s : State) (hk : Roles s0 s) : Roles s0 (loadHeaded p s) := by
  unfold loadHeaded
  repeat (first | with_reducible assumption | with_reducible apply loadDecide_roles | with_reducible apply loadFetch_roles | with_reducible apply loadListed_roles | intro _ | with_reducible apply Roles.ite | simp only [Roles.upd] | dsimp only | split)

theorem loadReport_roles {s0 : State} (p : PartId) (d : Bytes) (s : State) (hk : Roles s0 s) : Roles s0 (loadReport p d s) := by
  unfold loadReport
  repeat (first | with_reducible assumption | with_reducible apply updPart_roles | with_reducible apply hostWrite_roles | with_reducible apply updStream_roles | with_reducible apply cmdDone_roles | with_reducible apply cmdFail_roles | intro _ | with_reducible apply Roles.ite | simp only [Roles.upd] | dsimp only | split)

theorem loadArrive_roles {s0 : State} (p : PartId) (sec : Option Nat) (off : Nat) (b : Bytes) (bad : Bool) (s : State) (hk : Roles s0 s) : Roles s0 (loadArrive p sec off b bad s) := by
  unfold loadArrive
  repeat (first | with_reducible assumption | with_reducible apply updPart_roles | with_reducible apply loadHeaded_roles | with_reducible apply loadListed_roles | with_reducible apply loadPlaced_roles | intro _ | with_reducible apply Roles.ite | simp only [Roles.upd] | dsimp only | split)

theorem execXfrLoadModel_roles {s0 : State} (p : PartId) (s : State) (hk : Roles s0 s) : RolesO s0 (execXfrLoadModel p s) := by
  unfold execXfrLoadModel
  repeat (first | with_reducible assumption | with_reducible apply RolesO.next | with_reducible apply RolesO.ite | with_reducible apply runXfr_roles | with_reducible apply cmdFail_roles | with_reducible apply hostRead_roles | with_reducible apply updPart_roles | with_reducible apply loadReport_roles | intro _ | with_reducible apply Roles.ite | simp only [Roles.upd] | dsimp only | split)

theorem execXfrUnloadModel_roles {s0 : State} (p : PartId) (s : State) (hk : Roles s0 s) : RolesO s0 (execXfrUnloadModel p s) := by
  unfold execXfrUnloadModel
  repeat (first | with_reducible assumption | with_reducible apply RolesO.next | with_reducible apply RolesO.ite | with_reducible apply runXfr_roles | with_reducible apply cmdFail_roles | with_reducible apply eachOf_roles | with_reducible apply tdPut_roles | with_reducible apply cmdDone_roles | with_reducible apply modelsChanged_roles | with_reducible apply updPart_roles | intro _ | with_reducible apply Roles.ite | with_reducible apply Roles.iteSnd | with_reducible apply Roles.iteFst | simp only [Roles.upd] | dsimp only | split)

theorem updSb_roles {s0 : State} (p : PartId) (f : SbPart → SbPart) (s : State) (hk : Roles s0 s) : Roles s0 (updSb p f s) := by
  unfold updSb
  repeat (first | with_reducible assumption | with_reducible apply updPart_roles | intro _ | with_reducible apply Roles.ite | simp only [Roles.upd] | dsimp only | split)

theorem restoreSyc_roles {s0 : State} (p : PartId) (g : Bytes) (s : State) (hk : Roles s0 s) : Roles s0 (restoreSyc p g s) := by
  unfold restoreSyc
  repeat (first | with_reducible assumption | with_reducible apply eachOf_roles | with_reducible apply sycSetAt_roles | with_reducible apply clearSyc_roles | intro _ | with_reducible apply Roles.ite | simp only [Roles.upd] | dsimp only | split)

theorem restorePart_roles {s0 : State} (p : PartId) (s : State) (hk : Roles s0 s) : Roles s0 (restorePart p s) := by
  unfold restorePart
  repeat (first | with_reducible assumption | with_reducible apply eachOf_roles | with_reducible apply stopStream_roles | with_reducible apply closeJob_roles | with_reducible apply orphanReads_roles | with_reducible apply updPart_roles | with_reducible apply updStream_roles | with_reducible apply clearSyc_roles | with_reducible apply restoreSyc_roles | with_reducible apply updSb_roles | with_reducible apply record_roles | with_reducible apply settleReleased_roles | with_reducible apply msixPart_roles | intro _ | with_reducible apply Roles.ite | simp only [Roles.upd] | dsimp only | split)

theorem tornSnapshot_roles {s0 : State} (p : PartId) (s : State) (hk : Roles s0 s) : Roles s0 (tornSnapshot p s) := by
  unfold tornSnapshot
  repeat (first | with_reducible assumption | with_reducible apply cntPart_roles | with_reducible apply updSb_roles | with_reducible apply record_roles | intro _ | with_reducible apply Roles.ite | simp only [Roles.upd] | dsimp only | split)

theorem readDone_roles {s0 : State} (p : PartId) (s : State) (hk : Roles s0 s) : Roles s0 (readDone p s) := by
  unfold readDone
  repeat (first | with_reducible assumption | with_reducible apply restorePart_roles | with_reducible apply hostRead_roles | with_reducible apply updSb_roles | intro _ | with_reducible apply Roles.ite | simp only [Roles.upd] | dsimp only | split)

theorem doneJudge_roles {s0 : State} (p : PartId) (found : Bool) (s : State) (hk : Roles s0 s) : Roles s0 (doneJudge p found s) := by
  unfold doneJudge
  repeat (first | with_reducible assumption | with_reducible apply readDone_roles | with_reducible apply updSb_roles | with_reducible apply restorePart_roles | with_reducible apply eachOf_roles | with_reducible apply issueRecord_roles | intro _ | with_reducible apply Roles.ite | with_reducible apply Roles.iteSnd | with_reducible apply Roles.iteFst | simp only [Roles.upd] | dsimp only | split)

theorem doneArrive_roles {s0 : State} (p : PartId) (b : Bytes) (s : State) (hk : Roles s0 s) : Roles s0 (doneArrive p b s) := by
  unfold doneArrive
  repeat (first | with_reducible assumption | with_reducible apply updSb_roles | with_reducible apply doneJudge_roles | intro _ | with_reducible apply Roles.ite | simp only [Roles.upd] | dsimp only | split)

theorem cfgWrite_roles {s0 : State} (k : PortId) (f : State → State) (s : State) (hf : ∀ t, Roles s0 t → Roles s0 (f t)) (hk : Roles s0 s) : Roles s0 (cfgWrite k f s) := by
  unfold cfgWrite
  repeat (first | with_reducible assumption | with_reducible apply hf | with_reducible apply emit_roles | with_reducible apply leaveL1_roles | with_reducible apply Roles.ite | split)

theorem aerPoisoned_roles {s0 : State} (k : PortId) (s : State) (hk : Roles s0 s) : Roles s0 (aerPoisoned k s) := by
  unfold aerPoisoned
  repeat (first | with_reducible assumption | with_reducible apply updPort_roles | intro _ | with_reducible apply Roles.ite | simp only [Roles.upd] | dsimp only | split)

theorem aerUnexpected_roles {s0 : State} (k : PortId) (s : State) (hk : Roles s0 s) : Roles s0 (aerUnexpected k s) := by
  unfold aerUnexpected
  repeat (first | with_reducible assumption | with_reducible apply updPort_roles | intro _ | with_reducible apply Roles.ite | simp only [Roles.upd] | dsimp only | split)

theorem poisonedWrite_roles {s0 : State} (k : PortId) (s : State) (hk : Roles s0 s) : Roles s0 (poisonedWrite k s) := by
  unfold poisonedWrite
  repeat (first | with_reducible assumption | with_reducible apply aerPoisoned_roles | with_reducible apply cntPort_roles | intro _ | with_reducible apply Roles.ite | simp only [Roles.upd] | dsimp only | split)

theorem updAsm_roles {s0 : State} (k : PortId) (st : StreamId) (f : Assembly → Assembly) (s : State) (hk : Roles s0 s) : Roles s0 (updAsm k st f s) := by
  unfold updAsm
  repeat (first | with_reducible assumption | with_reducible apply updPort_roles | intro _ | with_reducible apply Roles.ite | simp only [Roles.upd] | dsimp only | split)

theorem discardBlock_roles {s0 : State} (n : Nat) (k : PortId) (s : State) (hk : Roles s0 s) : Roles s0 (discardBlock n k s) := by
  unfold discardBlock
  repeat (first | with_reducible assumption | with_reducible apply cntPort_roles | intro _ | with_reducible apply Roles.ite | simp only [Roles.upd] | dsimp only | split)

theorem asmWrite_roles {s0 : State} (k : PortId) (p : PartId) (st : StreamId) (block o : Nat) (b : Bytes) (ep : Bool) (s : State) (hk : Roles s0 s) : Roles s0 (asmWrite k p st block o b ep s) := by
  unfold asmWrite
  repeat (first | with_reducible assumption | with_reducible apply discardBlock_roles | with_reducible apply updAsm_roles | with_reducible apply enterDesc_roles | with_reducible apply Roles.foldl | intro _ | with_reducible apply Roles.ite | simp only [Roles.upd] | dsimp only | split)

theorem bar2Piece_roles {s0 : State} (k : PortId) (p : PartId) (off : Nat) (ep : Bool) (data : Bytes) (x : Nat × Nat) (s : State) (hk : Roles s0 s) : Roles s0 (bar2Piece k p off ep data x s) := by
  unfold bar2Piece
  repeat (first | with_reducible assumption | with_reducible apply discardBlock_roles | with_reducible apply asmWrite_roles | intro _ | with_reducible apply Roles.ite | with_reducible apply Roles.iteSnd | with_reducible apply Roles.iteFst | simp only [Roles.upd] | dsimp only | split)

theorem bar2Write_roles {s0 : State} (r : Requester) (off : Nat) (data : Bytes) (ep : Bool) (s : State) (hk : Roles s0 s) : Roles s0 (bar2Write r off data ep s) := by
  unfold bar2Write
  repeat (first | with_reducible assumption | with_reducible refine hostMem_roles (by with_reducible assumption) ?_ | with_reducible apply hostMem_snd_roles | with_reducible apply eachOf_roles | with_reducible apply bar2Piece_roles | with_reducible apply poisonedWrite_roles | intro _ | with_reducible apply Roles.ite | with_reducible apply Roles.iteSnd | with_reducible apply Roles.iteFst | simp only [Roles.upd] | dsimp only | split)

theorem execBar2Write_roles {s0 : State} (r : Requester) (off : Nat) (data : Bytes) (ep : Bool) (s : State) (hk : Roles s0 s) : RolesO s0 (execBar2Write r off data ep s) := by
  unfold execBar2Write
  repeat (first | with_reducible assumption | with_reducible apply RolesO.next | with_reducible apply RolesO.ite | with_reducible apply bar2Write_roles | intro _ | with_reducible apply Roles.ite | simp only [Roles.upd] | dsimp only | split)

theorem bar4Refuse_roles {s0 : State} (k : PortId) (p : PartId) (off : Nat) (s : State) (hk : Roles s0 s) : Roles s0 (bar4Refuse k p off s) := by
  unfold bar4Refuse
  repeat (first | with_reducible assumption | with_reducible apply record_roles | with_reducible apply cntPort_roles | intro _ | with_reducible apply Roles.ite | simp only [Roles.upd] | dsimp only | split)

theorem bar4Hold_roles {s0 : State} (k : PortId) (p : PartId) (x : Nat × Nat × Option (Bytes × Bool)) (s : State) (hk : Roles s0 s) : Roles s0 (bar4Hold k p x s) := by
  unfold bar4Hold
  repeat (first | with_reducible assumption | with_reducible apply stall_roles | with_reducible apply updPort_roles | intro _ | with_reducible apply Roles.ite | simp only [Roles.upd] | dsimp only | split)

theorem bar4ReadOn_roles {s0 : State} (k : PortId) (off len : Nat) (s : State) (hk : Roles s0 s) : Roles s0 (bar4ReadOn k off len s) := by
  unfold bar4ReadOn
  repeat (first | with_reducible assumption | with_reducible apply bar4Hold_roles | with_reducible apply eachOf_roles | with_reducible apply emit_roles | with_reducible apply record_roles | with_reducible apply meetHbm_roles | with_reducible apply charge_roles | with_reducible apply bar4Refuse_roles | intro _ | with_reducible apply Roles.ite | with_reducible apply Roles.iteSnd | with_reducible apply Roles.iteFst | simp only [Roles.upd] | dsimp only | split)

theorem bar4Read_roles {s0 : State} (r : Requester) (off len : Nat) (s : State) (hk : Roles s0 s) : RolesO s0 (bar4Read r off len s) := by
  unfold bar4Read
  repeat (first | with_reducible assumption | with_reducible apply RolesO.next | with_reducible apply RolesO.ite | with_reducible refine hostMem_roles (by with_reducible assumption) ?_ | with_reducible apply hostMem_snd_roles | with_reducible apply bar4ReadOn_roles | with_reducible apply emit_roles | intro _ | with_reducible apply Roles.ite | with_reducible apply Roles.iteSnd | with_reducible apply Roles.iteFst | simp only [Roles.upd] | dsimp only | split)

theorem bar4WriteOn_roles {s0 : State} (k : PortId) (off : Nat) (data : Bytes) (ep : Bool) (s : State) (hk : Roles s0 s) : Roles s0 (bar4WriteOn k off data ep s) := by
  unfold bar4WriteOn
  repeat (first | with_reducible assumption | with_reducible apply bar4Hold_roles | with_reducible apply poisonedWrite_roles | with_reducible apply settleMerge_roles | with_reducible apply spaceWrite_roles | with_reducible apply charge_roles | with_reducible apply spaceMark_roles | with_reducible apply bar4Refuse_roles | intro _ | with_reducible apply Roles.ite | simp only [Roles.upd] | dsimp only | split)

theorem bar4Go_roles {s0 : State} (k : PortId) (x : Nat × Nat × Option (Bytes × Bool)) (s : State) (hk : Roles s0 s) : Roles s0 (bar4Go k x s) := by
  unfold bar4Go
  repeat (first | with_reducible assumption | with_reducible apply bar4ReadOn_roles | with_reducible apply bar4WriteOn_roles | intro _ | with_reducible apply Roles.ite | simp only [Roles.upd] | dsimp only | split)

theorem bar4Retry_roles {s0 : State} (k : PortId) (s : State) (hk : Roles s0 s) : Roles s0 (bar4Retry k s) := by
  unfold bar4Retry
  repeat (first | with_reducible assumption | with_reducible apply eachOf_roles | with_reducible apply bar4Go_roles | with_reducible apply updPort_roles | intro _ | with_reducible apply Roles.ite | simp only [Roles.upd] | dsimp only | split)

theorem bar4Write_roles {s0 : State} (r : Requester) (off : Nat) (data : Bytes) (ep : Bool) (s : State) (hk : Roles s0 s) : RolesO s0 (bar4Write r off data ep s) := by
  unfold bar4Write
  repeat (first | with_reducible assumption | with_reducible apply RolesO.next | with_reducible apply RolesO.ite | with_reducible refine hostMem_roles (by with_reducible assumption) ?_ | with_reducible apply hostMem_snd_roles | with_reducible apply bar4WriteOn_roles | intro _ | with_reducible apply Roles.ite | with_reducible apply Roles.iteSnd | with_reducible apply Roles.iteFst | simp only [Roles.upd] | dsimp only | split)

theorem ideInsecure_roles {s0 : State} (k : PortId) (i : Fin 5) (s : State) (hk : Roles s0 s) : Roles s0 (ideInsecure k i s) := by
  unfold ideInsecure
  repeat (first | with_reducible assumption | with_reducible apply secLog_roles | with_reducible apply updPort_roles | intro _ | with_reducible apply Roles.ite | simp only [Roles.upd] | dsimp only | split)

theorem dropPortView_roles {s0 : State} (k : PortId) (s : State) (hk : Roles s0 s) : Roles s0 (dropPortView k s) := by
  unfold dropPortView
  repeat (first | with_reducible assumption | intro _ | with_reducible apply Roles.ite | with_reducible apply Roles.iteSnd | with_reducible apply Roles.iteFst | simp only [Roles.upd] | dsimp only | split)

theorem resetFunction_roles {s0 : State} (kind : PortReset) (k : PortId) (s : State) (hk : Roles s0 s) : Roles s0 (resetFunction kind k s) := by
  unfold resetFunction
  repeat (first | with_reducible assumption | with_reducible apply eachOf_roles | with_reducible apply ideInsecure_roles | with_reducible apply dropPortView_roles | with_reducible apply updPort_roles | with_reducible apply discardBlock_roles | intro _ | with_reducible apply Roles.ite | simp only [Roles.upd] | dsimp only | split)

theorem execPerstRelease_roles {s0 : State} (k : PortId) (s : State) (hk : Roles s0 s) : RolesO s0 (execPerstRelease k s) := by
  unfold execPerstRelease
  repeat (first | with_reducible assumption | with_reducible apply RolesO.next | with_reducible apply RolesO.ite | with_reducible apply quietExit_roles | with_reducible apply portEvent_roles | with_reducible apply driveWake_roles | intro _ | with_reducible apply Roles.ite | simp only [Roles.upd] | dsimp only | split)

theorem execFunctionReady_roles {s0 : State} (k : PortId) (s : State) (hk : Roles s0 s) : RolesO s0 (execFunctionReady k s) := by
  unfold execFunctionReady
  repeat (first | with_reducible assumption | with_reducible apply RolesO.next | with_reducible apply RolesO.ite | with_reducible apply updPort_roles | with_reducible apply partitionReady_roles | intro _ | with_reducible apply Roles.ite | simp only [Roles.upd] | dsimp only | split)

theorem execHostLinkUp_roles {s0 : State} (k : PortId) (gen width : Nat) (flit reversed : Bool) (s : State) (hk : Roles s0 s) : RolesO s0 (execHostLinkUp k gen width flit reversed s) := by
  unfold execHostLinkUp
  repeat (first | with_reducible assumption | with_reducible apply RolesO.next | with_reducible apply RolesO.ite | with_reducible apply portEvent_roles | with_reducible apply updPort_roles | intro _ | with_reducible apply Roles.ite | with_reducible apply Roles.iteSnd | with_reducible apply Roles.iteFst | simp only [Roles.upd] | dsimp only | split)

theorem heldWakes_roles {s0 : State} (k : PortId) (s : State) (hk : Roles s0 s) : Roles s0 (heldWakes k s) := by
  unfold heldWakes
  repeat (first | with_reducible assumption | with_reducible apply eachOf_roles | with_reducible apply record_roles | with_reducible apply wakeEvent_roles | with_reducible apply msix_roles | intro _ | with_reducible apply Roles.ite | simp only [Roles.upd] | dsimp only | split)

theorem execPmPmeTransmit_roles {s0 : State} (k : PortId) (s : State) (hk : Roles s0 s) : RolesO s0 (execPmPmeTransmit k s) := by
  unfold execPmPmeTransmit
  repeat (first | with_reducible assumption | with_reducible apply RolesO.next | with_reducible apply RolesO.ite | with_reducible apply emit_roles | with_reducible apply updPort_roles | intro _ | with_reducible apply Roles.ite | simp only [Roles.upd] | dsimp only | split)

theorem execPmPmeRetransmit_roles {s0 : State} (k : PortId) (s : State) (hk : Roles s0 s) : RolesO s0 (execPmPmeRetransmit k s) := by
  unfold execPmPmeRetransmit
  repeat (first | with_reducible assumption | with_reducible apply RolesO.next | with_reducible apply RolesO.ite | with_reducible apply emit_roles | with_reducible apply updPort_roles | intro _ | with_reducible apply Roles.ite | simp only [Roles.upd] | dsimp only | split)

theorem execAspmL1Entry_roles {s0 : State} (k : PortId) (s : State) (hk : Roles s0 s) : RolesO s0 (execAspmL1Entry k s) := by
  unfold execAspmL1Entry
  repeat (first | with_reducible assumption | with_reducible apply RolesO.next | with_reducible apply RolesO.ite | with_reducible apply emit_roles | with_reducible apply updPort_roles | intro _ | with_reducible apply Roles.ite | simp only [Roles.upd] | dsimp only | split)

theorem turnOffReady_roles {s0 : State} (k : PortId) (s : State) (hk : Roles s0 s) : Roles s0 (turnOffReady k s) := by
  unfold turnOffReady
  repeat (first | with_reducible assumption | with_reducible apply driveWake_roles | with_reducible apply emit_roles | with_reducible apply updPort_roles | intro _ | with_reducible apply Roles.ite | simp only [Roles.upd] | dsimp only | split)

theorem execPmeTurnOff_roles {s0 : State} (k : PortId) (s : State) (hk : Roles s0 s) : RolesO s0 (execPmeTurnOff k s) := by
  unfold execPmeTurnOff
  repeat (first | with_reducible assumption | with_reducible apply RolesO.next | with_reducible apply RolesO.ite | with_reducible apply turnOffReady_roles | with_reducible apply updPort_roles | intro _ | with_reducible apply Roles.ite | simp only [Roles.upd] | dsimp only | split)

theorem execMgtWakeReqWrite_roles {s0 : State} (r : Requester) (v : Nat) (s : State) (hk : Roles s0 s) : RolesO s0 (execMgtWakeReqWrite r v s) := by
  unfold execMgtWakeReqWrite
  repeat (first | with_reducible assumption | with_reducible apply RolesO.next | with_reducible apply RolesO.ite | with_reducible apply eachOf_roles | with_reducible apply wakeEvent_roles | with_reducible apply driveWake_roles | intro _ | with_reducible apply Roles.ite | simp only [Roles.upd] | dsimp only | split)

theorem msixFlush_roles {s0 : State} (k : PortId) (s : State) (hk : Roles s0 s) : Roles s0 (msixFlush k s) := by
  unfold msixFlush
  repeat (first | with_reducible assumption | with_reducible apply eachOf_roles | with_reducible apply wakeEvent_roles | with_reducible apply dmaPush_roles | with_reducible apply msix_roles | with_reducible apply updPort_roles | intro _ | with_reducible apply Roles.ite | simp only [Roles.upd] | dsimp only | split)

theorem execMsixUnmask_roles {s0 : State} (k : PortId) (v : Fin 16) (s : State) (hk : Roles s0 s) : RolesO s0 (execMsixUnmask k v s) := by
  unfold execMsixUnmask
  repeat (first | with_reducible assumption | with_reducible apply RolesO.next | with_reducible apply RolesO.ite | with_reducible refine hostMem_roles (by with_reducible assumption) ?_ | with_reducible apply hostMem_snd_roles | with_reducible apply msixFlush_roles | with_reducible apply updPort_roles | intro _ | with_reducible apply Roles.ite | with_reducible apply Roles.iteSnd | with_reducible apply Roles.iteFst | simp only [Roles.upd] | dsimp only | split)

theorem execRingTailWrite_roles {s0 : State} (r : Requester) (st : StreamId) (v : Nat) (s : State) (hk : Roles s0 s) : RolesO s0 (execRingTailWrite r st v s) := by
  unfold execRingTailWrite
  repeat (first | with_reducible assumption | with_reducible apply RolesO.next | with_reducible apply RolesO.ite | with_reducible refine hostPart_roles (by with_reducible assumption) ?_ | with_reducible apply hostPart_snd_roles | with_reducible apply queOverrun_roles | with_reducible apply updStream_roles | with_reducible apply fetchNow_roles | intro _ | with_reducible apply Roles.ite | with_reducible apply Roles.iteSnd | with_reducible apply Roles.iteFst | simp only [Roles.upd] | dsimp only | split)

theorem execRingCtlWrite_roles {s0 : State} (r : Requester) (st : StreamId) (v : Nat) (s : State) (hk : Roles s0 s) : RolesO s0 (execRingCtlWrite r st v s) := by
  unfold execRingCtlWrite
  repeat (first | with_reducible assumption | with_reducible apply RolesO.next | with_reducible apply RolesO.ite | with_reducible refine hostPart_roles (by with_reducible assumption) ?_ | with_reducible apply hostPart_snd_roles | with_reducible apply fetchNow_roles | with_reducible apply updStream_roles | intro _ | with_reducible apply Roles.ite | with_reducible apply Roles.iteSnd | with_reducible apply Roles.iteFst | simp only [Roles.upd] | dsimp only | split)

theorem execRingFetchComplete_roles {s0 : State} (p : PartId) (st : StreamId) (s : State) (hk : Roles s0 s) : RolesO s0 (execRingFetchComplete p st s) := by
  unfold execRingFetchComplete
  repeat (first | with_reducible assumption | with_reducible apply RolesO.next | with_reducible apply RolesO.ite | with_reducible apply fetchNow_roles | with_reducible apply enterDesc_roles | with_reducible apply updStream_roles | intro _ | with_reducible apply Roles.ite | simp only [Roles.upd] | dsimp only | split)

theorem freeBytes_roles {s0 t : State} {v : Bytes} {n : Nat} {s : State} (e : freeBytes n s = (v, t)) (hk : Roles s0 s) : Roles s0 t := by
  unfold freeBytes at e
  (try dsimp only at e)
  repeat' split at e
  all_goals (try cases e)
  all_goals repeat (first | with_reducible assumption | with_reducible refine takeFree_roles (by with_reducible assumption) ?_ | with_reducible apply takeFree_snd_roles | intro _ | with_reducible apply Roles.ite | with_reducible apply Roles.iteSnd | with_reducible apply Roles.iteFst | simp only [Roles.upd] | dsimp only | split)

theorem freeBytes_snd_roles {s0 : State} (n : Nat) (s : State) (hk : Roles s0 s) : Roles s0 (freeBytes n s).2 :=
  freeBytes_roles (Prod.eta _).symm hk

theorem noteRead_roles {s0 : State} (p : PartId) (code sub addr : Nat) (s : State) (hk : Roles s0 s) : Roles s0 (noteRead p code sub addr s) := by
  unfold noteRead
  repeat (first | with_reducible assumption | with_reducible apply noteOnce_roles | intro _ | with_reducible apply Roles.ite | simp only [Roles.upd] | dsimp only | split)

theorem deliver_roles {s0 : State} (p : PartId) (tgt : DmaTarget) (got : Nat) (b : Bytes) (bad : Bool) (s : State) (hk : Roles s0 s) : Roles s0 (deliver p tgt got b bad s) := by
  unfold deliver
  repeat (first | with_reducible assumption | with_reducible apply updSlot_roles | with_reducible apply copyArrive_roles | with_reducible apply loadArrive_roles | with_reducible apply updStream_roles | with_reducible apply setXfrAt_roles | with_reducible apply doneArrive_roles | intro _ | with_reducible apply Roles.ite | with_reducible apply Roles.iteSnd | with_reducible apply Roles.iteFst | simp only [Roles.upd] | dsimp only | split)

theorem poisonGot_roles {s0 : State} (p : PartId) (tgt : DmaTarget) (got : Nat) (s : State) (hk : Roles s0 s) : Roles s0 (poisonGot p tgt got s) := by
  unfold poisonGot
  repeat (first | with_reducible assumption | with_reducible apply updSlot_roles | with_reducible apply eachOf_roles | with_reducible apply spaceMark_roles | with_reducible apply updLoad_roles | intro _ | with_reducible apply Roles.ite | simp only [Roles.upd] | dsimp only | split)

theorem readFailed_roles {s0 : State} (p : PartId) (r : DmaRead) (code sub from_ n : Nat) (data : Option Bytes) (s : State) (hk : Roles s0 s) : Roles s0 (readFailed p r code sub from_ n data s) := by
  unfold readFailed
  repeat (first | with_reducible assumption | with_reducible apply doneJudge_roles | with_reducible apply fetchNow_roles | with_reducible apply jobFault_roles | with_reducible apply updStream_roles | with_reducible apply cmdFail_roles | with_reducible apply noteRead_roles | with_reducible apply deliver_roles | with_reducible refine freeBytes_roles (by with_reducible assumption) ?_ | with_reducible apply freeBytes_snd_roles | with_reducible apply poisonGot_roles | with_reducible apply updSlot_roles | intro _ | with_reducible apply Roles.ite | with_reducible apply Roles.iteSnd | with_reducible apply Roles.iteFst | simp only [Roles.upd] | dsimp only | split)

theorem retryAll_roles {s0 : State} (s : State) (hk : Roles s0 s) : Roles s0 (retryAll s) := by
  unfold retryAll
  repeat (first | with_reducible assumption | with_reducible apply eachOf_roles | with_reducible apply drainLink_roles | with_reducible apply bar4Retry_roles | with_reducible apply pump_roles | with_reducible apply drainPlane_roles | intro _ | with_reducible apply Roles.ite | simp only [Roles.upd] | dsimp only | split)

theorem execRegulatorWindowRefill_roles {s0 : State} (s : State) (hk : Roles s0 s) : RolesO s0 (execRegulatorWindowRefill s) := by
  unfold execRegulatorWindowRefill
  repeat (first | with_reducible assumption | with_reducible apply RolesO.next | with_reducible apply RolesO.ite | with_reducible apply retryAll_roles | with_reducible apply eachOf_roles | with_reducible apply refillPart_roles | with_reducible apply settleRegs_roles | intro _ | with_reducible apply Roles.ite | simp only [Roles.upd] | dsimp only | split)

theorem scrubBad_roles {s0 : State} (g : Nat) (s : State) (hk : Roles s0 s) : Roles s0 (scrubBad g s) := by
  unfold scrubBad
  repeat (first | with_reducible assumption | with_reducible apply markGranule_roles | with_reducible apply record_roles | with_reducible apply mgtRecord_roles | intro _ | with_reducible apply Roles.ite | simp only [Roles.upd] | dsimp only | split)

theorem hbmFind_roles {s0 : State} (p : PartId) (tag g : Nat) (bad : Bool) (s : State) (hk : Roles s0 s) : Roles s0 (hbmFind p tag g bad s) := by
  unfold hbmFind
  repeat (first | with_reducible assumption | with_reducible apply markGranule_roles | with_reducible apply record_roles | with_reducible apply cntPart_roles | intro _ | with_reducible apply Roles.ite | simp only [Roles.upd] | dsimp only | split)

theorem renackChunk_roles {s0 : State} (p : PartId) (k : Nat) (s : State) (hk : Roles s0 s) : Roles s0 (renackChunk p k s) := by
  unfold renackChunk
  repeat (first | with_reducible assumption | with_reducible apply updChunk_roles | with_reducible apply cntPart_roles | with_reducible apply eachOf_roles | with_reducible apply answerChunk_roles | intro _ | with_reducible apply Roles.ite | simp only [Roles.upd] | dsimp only | split)

theorem plantErr_roles {s0 : State} (g : Nat) (bad : Bool) (s : State) (hk : Roles s0 s) : Roles s0 (plantErr g bad s) := by
  unfold plantErr
  repeat (first | with_reducible assumption | intro _ | with_reducible apply Roles.ite | simp only [Roles.upd] | dsimp only | split)

theorem meetErrs_roles {s0 : State} (p : PartId) (st : StreamId) (tag : Nat) (t : EccFind → Bool) (s : State) (hk : Roles s0 s) : Roles s0 (meetErrs p st tag t s) := by
  unfold meetErrs
  repeat (first | with_reducible assumption | with_reducible refine Roles.sramFold ?_ ?_ _ _ | with_reducible apply Roles.sramFilter | with_reducible apply Roles.foldl | intro _ | with_reducible apply Roles.ite | with_reducible apply Roles.iteSnd | with_reducible apply Roles.iteFst | simp only [Roles.upd] | dsimp only | split)

theorem arriveMeets_roles {s0 : State} (path : Path) (p : PartId) (s : State) (hk : Roles s0 s) : Roles s0 (arriveMeets path p s) := by
  unfold arriveMeets
  repeat (first | with_reducible assumption | with_reducible apply meetErrs_roles | intro _ | with_reducible apply Roles.ite | simp only [Roles.upd] | dsimp only | split)

theorem bar4Find_roles {s0 : State} (p : PartId) (a n : Nat) (write : Bool) (e : EccFind) (s : State) (hk : Roles s0 s) : Roles s0 (bar4Find p a n write e s) := by
  unfold bar4Find
  repeat (first | with_reducible assumption | with_reducible apply hbmFind_roles | with_reducible apply record_roles | intro _ | with_reducible apply Roles.ite | simp only [Roles.upd] | dsimp only | split)

theorem bar4Ecc_roles {s0 : State} (r : Requester) (off n : Nat) (write : Bool) (ecc : List EccFind) (s : State) (hk : Roles s0 s) : Roles s0 (bar4Ecc r off n write ecc s) := by
  unfold bar4Ecc
  repeat (first | with_reducible assumption | with_reducible refine hostMem_roles (by with_reducible assumption) ?_ | with_reducible apply hostMem_snd_roles | with_reducible apply bar4Find_roles | with_reducible apply Roles.foldl | intro _ | with_reducible apply Roles.ite | with_reducible apply Roles.iteSnd | with_reducible apply Roles.iteFst | simp only [Roles.upd] | dsimp only | split)

theorem execBar4Read_roles {s0 : State} (r : Requester) (off len : Nat) (ecc : List EccFind) (s : State) (hk : Roles s0 s) : RolesO s0 (execBar4Read r off len ecc s) := by
  unfold execBar4Read
  repeat (first | with_reducible assumption | with_reducible apply RolesO.next | with_reducible apply RolesO.ite | with_reducible apply bar4Read_roles | with_reducible apply bar4Ecc_roles | intro _ | with_reducible apply Roles.ite | simp only [Roles.upd] | dsimp only | split)

theorem execBar4Write_roles {s0 : State} (r : Requester) (off : Nat) (data : Bytes) (ep : Bool) (ecc : List EccFind) (s : State) (hk : Roles s0 s) : RolesO s0 (execBar4Write r off data ep ecc s) := by
  unfold execBar4Write
  repeat (first | with_reducible assumption | with_reducible apply RolesO.next | with_reducible apply RolesO.ite | with_reducible apply bar4Write_roles | with_reducible apply bar4Ecc_roles | intro _ | with_reducible apply Roles.ite | simp only [Roles.upd] | dsimp only | split)

theorem forgetErr_roles {s0 : State} (gran : Nat) (s : State) (hk : Roles s0 s) : Roles s0 (forgetErr gran s) := by
  unfold forgetErr
  repeat (first | with_reducible assumption | intro _ | with_reducible apply Roles.ite | simp only [Roles.upd] | dsimp only | split)

theorem execPatrolScrubRead_roles {s0 : State} (gran result : Nat) (s : State) (hk : Roles s0 s) : RolesO s0 (execPatrolScrubRead gran result s) := by
  unfold execPatrolScrubRead
  repeat (first | with_reducible assumption | with_reducible apply RolesO.next | with_reducible apply RolesO.ite | with_reducible apply cntPart_roles | with_reducible apply forgetErr_roles | with_reducible apply scrubBad_roles | intro _ | with_reducible apply Roles.ite | simp only [Roles.upd] | dsimp only | split)

theorem execErrHeadWrite_roles {s0 : State} (r : Requester) (v : Nat) (s : State) (hk : Roles s0 s) : RolesO s0 (execErrHeadWrite r v s) := by
  unfold execErrHeadWrite
  repeat (first | with_reducible assumption | with_reducible apply RolesO.next | with_reducible apply RolesO.ite | with_reducible refine hostPart_roles (by with_reducible assumption) ?_ | with_reducible apply hostPart_snd_roles | with_reducible apply updPart_roles | intro _ | with_reducible apply Roles.ite | with_reducible apply Roles.iteSnd | with_reducible apply Roles.iteFst | simp only [Roles.upd] | dsimp only | split)

theorem countFail_roles {s0 t : State} {v : Nat} {d : DevId} {p : PartId} {k : Packet} {s : State} (e : countFail d p k s = (v, t)) (hk : Roles s0 s) : Roles s0 t := by
  unfold countFail at e
  (try dsimp only at e)
  repeat' split at e
  all_goals (try cases e)
  all_goals repeat (first | with_reducible assumption | with_reducible apply updFlow_roles | intro _ | with_reducible apply Roles.ite | with_reducible apply Roles.iteSnd | with_reducible apply Roles.iteFst | simp only [Roles.upd] | dsimp only | split)

theorem countFail_snd_roles {s0 : State} (d : DevId) (p : PartId) (k : Packet) (s : State) (hk : Roles s0 s) : Roles s0 (countFail d p k s).2 :=
  countFail_roles (Prod.eta _).symm hk

theorem sendAgain_roles {s0 : State} (d : DevId) (p : PartId) (isPiece : Bool) (b : Bytes) (s : State) (hk : Roles s0 s) : Roles s0 (sendAgain d p isPiece b s) := by
  unfold sendAgain
  repeat (first | with_reducible assumption | with_reducible apply sendPiece_roles | with_reducible apply cntPart64_roles | with_reducible apply cntPart_roles | with_reducible apply sendPacketAs_roles | intro _ | with_reducible apply Roles.ite | simp only [Roles.upd] | dsimp only | split)

theorem updClause_roles {s0 : State} (p : PartId) (tag : Nat) (f : Clause → Clause) (s : State) (hk : Roles s0 s) : Roles s0 (updClause p tag f s) := by
  unfold updClause
  repeat (first | with_reducible assumption | with_reducible apply updConj_roles | intro _ | with_reducible apply Roles.ite | simp only [Roles.upd] | dsimp only | split)

theorem sendLate_roles {s0 : State} (p : PartId) (x : Clause) (s : State) (hk : Roles s0 s) : Roles s0 (sendLate p x s) := by
  unfold sendLate
  repeat (first | with_reducible assumption | with_reducible apply reissueClause_roles | with_reducible apply updConj_roles | with_reducible apply dispatchClause_roles | with_reducible apply cntPart64_roles | intro _ | with_reducible apply Roles.ite | simp only [Roles.upd] | dsimp only | split)

theorem bounceRecord_roles {s0 : State} (p : PartId) (x : Clause) (d : DevId) (s : State) (hk : Roles s0 s) : Roles s0 (bounceRecord p x d s) := by
  unfold bounceRecord
  repeat (first | with_reducible assumption | with_reducible apply record_roles | with_reducible apply updConj_roles | intro _ | with_reducible apply Roles.ite | simp only [Roles.upd] | dsimp only | split)

theorem noteBounce_roles {s0 : State} (p : PartId) (tag : Nat) (d : DevId) (s : State) (hk : Roles s0 s) : Roles s0 (noteBounce p tag d s) := by
  unfold noteBounce
  repeat (first | with_reducible assumption | with_reducible apply bounceRecord_roles | intro _ | with_reducible apply Roles.ite | simp only [Roles.upd] | dsimp only | split)

theorem refuseSpec_roles {s0 : State} (p : PartId) (tag : Nat) (d : DevId) (bounce : Bool) (s : State) (hk : Roles s0 s) : Roles s0 (refuseSpec p tag d bounce s) := by
  unfold refuseSpec
  repeat (first | with_reducible assumption | with_reducible apply cntPart_roles | with_reducible apply updClause_roles | with_reducible apply sendLate_roles | with_reducible apply bounceRecord_roles | with_reducible apply suppress_roles | intro _ | with_reducible apply Roles.ite | simp only [Roles.upd] | dsimp only | split)

theorem specLost_roles {s0 : State} (p : PartId) (tag : Nat) (s : State) (hk : Roles s0 s) : Roles s0 (specLost p tag s) := by
  unfold specLost
  repeat (first | with_reducible assumption | with_reducible apply updClause_roles | with_reducible apply recordLost_roles | with_reducible apply suppress_roles | intro _ | with_reducible apply Roles.ite | simp only [Roles.upd] | dsimp only | split)

theorem reissueTag_roles {s0 : State} (p : PartId) (tag : Nat) (d : DevId) (admitted : Option Bool) (s : State) (hk : Roles s0 s) : Roles s0 (reissueTag p tag d admitted s) := by
  unfold reissueTag
  repeat (first | with_reducible assumption | with_reducible apply reissueClause_roles | intro _ | with_reducible apply Roles.ite | simp only [Roles.upd] | dsimp only | split)

theorem e2eFailed_roles {s0 : State} (d : DevId) (p : PartId) (x : Packet) (b : Bytes) (s : State) (hk : Roles s0 s) : Roles s0 (e2eFailed d p x b s) := by
  unfold e2eFailed
  repeat (first | with_reducible assumption | with_reducible apply sendAgain_roles | with_reducible refine countFail_roles (by with_reducible assumption) ?_ | with_reducible apply countFail_snd_roles | with_reducible apply specLost_roles | with_reducible apply record_roles | with_reducible apply reissueTag_roles | intro _ | with_reducible apply Roles.ite | with_reducible apply Roles.iteSnd | with_reducible apply Roles.iteFst | simp only [Roles.upd] | dsimp only | split)

theorem takeRefuse_roles {s0 : State} (d : DevId) (p : PartId) (k : Packet) (s : State) (hk : Roles s0 s) : Roles s0 (takeRefuse d p k s) := by
  unfold takeRefuse
  repeat (first | with_reducible assumption | with_reducible apply sendAgain_roles | with_reducible apply e2eFailed_roles | with_reducible apply refuseSpec_roles | with_reducible apply reissueTag_roles | with_reducible apply noteBounce_roles | with_reducible apply updPeer_roles | with_reducible apply markUnreachable_roles | with_reducible apply conjSettle_roles | intro _ | with_reducible apply Roles.ite | with_reducible apply Roles.iteSnd | with_reducible apply Roles.iteFst | simp only [Roles.upd] | dsimp only | split)

theorem takeRow_roles {s0 : State} (src : DevId) (path : Path) (p : PartId) (k : Packet) (dt : Nat) (b : Bytes) (s : State) (hk : Roles s0 s) : Roles s0 (takeRow src path p k dt b s) := by
  unfold takeRow
  repeat (first | with_reducible assumption | with_reducible apply cntPower_roles | with_reducible apply sendRefuse_roles | with_reducible apply leavePool_roles | with_reducible apply orphanRow_roles | with_reducible apply cntPart64_roles | with_reducible apply noteStalls_roles | with_reducible apply storeRow_roles | intro _ | with_reducible apply Roles.ite | simp only [Roles.upd] | dsimp only | split)

theorem takeResult_roles {s0 : State} (p : PartId) (k : Packet) (s : State) (hk : Roles s0 s) : Roles s0 (takeResult p k s) := by
  unfold takeResult
  repeat (first | with_reducible assumption | with_reducible apply cntPart_roles | with_reducible apply conjSettle_roles | with_reducible apply contribute_roles | with_reducible apply updSlot_roles | with_reducible apply clauseFlag_roles | intro _ | with_reducible apply Roles.ite | simp only [Roles.upd] | dsimp only | split)

theorem takeVerdict_roles {s0 : State} (p : PartId) (b : Bytes) (i : Nat) (s : State) (hk : Roles s0 s) : Roles s0 (takeVerdict p b i s) := by
  unfold takeVerdict
  repeat (first | with_reducible assumption | with_reducible apply applyVerdict_roles | intro _ | with_reducible apply Roles.ite | simp only [Roles.upd] | dsimp only | split)

theorem takeClose_roles {s0 : State} (src : DevId) (p : PartId) (k : Packet) (s : State) (hk : Roles s0 s) : Roles s0 (takeClose src p k s) := by
  unfold takeClose
  repeat (first | with_reducible assumption | with_reducible apply tryClose_roles | with_reducible apply updConj_roles | with_reducible apply updPart_roles | intro _ | with_reducible apply Roles.ite | simp only [Roles.upd] | dsimp only | split)

theorem takeBad_roles {s0 : State} (src : DevId) (p : PartId) (b : Bytes) (s : State) (hk : Roles s0 s) : Roles s0 (takeBad src p b s) := by
  unfold takeBad
  repeat (first | with_reducible assumption | with_reducible apply cntPart_roles | with_reducible apply sendRefuse_roles | with_reducible refine countFail_roles (by with_reducible assumption) ?_ | with_reducible apply countFail_snd_roles | with_reducible apply conjSettle_roles | with_reducible apply reissueTag_roles | intro _ | with_reducible apply Roles.ite | with_reducible apply Roles.iteSnd | with_reducible apply Roles.iteFst | simp only [Roles.upd] | dsimp only | split)

end Sys2Proof.Laws
end

