-- ==== Sys2Proof/Laws/Roles4.lean ====
section
/-!
SUPPORT. Roles4.lean: what leaves clusters and roles alone, one lemma per operation, in the order of the definitions (4 of 4).
Roles s t: clusters, pair role, Dual-Line, BIST and processor debug are those of s.
-/
set_option linter.all false
namespace Sys2Proof.Laws
open Sys2Proof Sys2Proof.Machine Sys2Proof.Safety

theorem judgeResult_roles {s0 : State} (p : PartId) (k : Packet) (s : State) (hk : Roles s0 s) : Roles s0 (judgeResult p k s) := by
  unfold judgeResult
  repeat (first | with_reducible assumption | with_reducible apply cntPart_roles | with_reducible apply takeResult_roles | intro _ | with_reducible apply Roles.ite | simp only [Roles.upd] | dsimp only | split)

theorem deliverPacket_roles {s0 : State} (src : DevId) (path : Path) (dt : Nat) (p : PartId) (b : Bytes) (s : State) (hk : Roles s0 s) : Roles s0 (deliverPacket src path dt p b s) := by
  unfold deliverPacket
  repeat (first | with_reducible assumption | with_reducible apply takeBad_roles | with_reducible apply leavePool_roles | with_reducible apply sendRefuse_roles | with_reducible refine judgeEpoch_roles (by with_reducible assumption) ?_ | with_reducible apply judgeEpoch_snd_roles | with_reducible apply refuseEpoch_roles | with_reducible apply judgeResult_roles | with_reducible refine judgePart_roles (by with_reducible assumption) ?_ | with_reducible apply cntPart_roles | with_reducible apply takeRow_roles | with_reducible apply conjSettle_roles | with_reducible apply eachOf_roles | with_reducible apply takeVerdict_roles | with_reducible apply takeClose_roles | intro _ | with_reducible apply Roles.ite | with_reducible apply Roles.iteSnd | with_reducible apply Roles.iteFst | simp only [Roles.upd] | dsimp only | split)

theorem arrivePiece_roles {s0 : State} (src : DevId) (path : Path) (dt : Nat) (p : PartId) (b : Bytes) (s : State) (hk : Roles s0 s) : Roles s0 (arrivePiece src path dt p b s) := by
  unfold arrivePiece
  repeat (first | with_reducible assumption | with_reducible apply leavePool_roles | with_reducible apply colSettle_roles | with_reducible apply dataBad_roles | with_reducible refine judgeEpoch_roles (by with_reducible assumption) ?_ | with_reducible apply judgeEpoch_snd_roles | with_reducible apply refuseEpoch_roles | with_reducible refine judgePart_roles (by with_reducible assumption) ?_ | with_reducible apply cntPart_roles | with_reducible apply deliverPiece_roles | intro _ | with_reducible apply Roles.ite | with_reducible apply Roles.iteSnd | with_reducible apply Roles.iteFst | simp only [Roles.upd] | dsimp only | split)

theorem deliverHeld_roles {s0 : State} (d : DevId) (p : PartId) (path : Path) (isPiece : Bool) (dt : Nat) (b : Bytes) (s : State) (hk : Roles s0 s) : Roles s0 (deliverHeld d p path isPiece dt b s) := by
  unfold deliverHeld
  repeat (first | with_reducible assumption | with_reducible apply arrivePiece_roles | with_reducible apply deliverPacket_roles | intro _ | with_reducible apply Roles.ite | simp only [Roles.upd] | dsimp only | split)

theorem markMoved_roles {s0 : State} (p : PartId) (e : HeldPkt) (s : State) (hk : Roles s0 s) : Roles s0 (markMoved p e s) := by
  unfold markMoved
  repeat (first | with_reducible assumption | with_reducible apply updRows_roles | intro _ | with_reducible apply Roles.ite | simp only [Roles.upd] | dsimp only | split)

theorem drainFlow_roles {s0 : State} (d : DevId) (p : PartId) : ∀ (x0 : Nat) (s : State), Roles s0 s → Roles s0 (drainFlow d p x0 s)
  | 0, s, h => by
    unfold drainFlow
    repeat (first | with_reducible assumption | with_reducible apply updFlow_roles | with_reducible apply markMoved_roles | with_reducible apply deliverHeld_roles | intro _ | with_reducible apply Roles.ite | simp only [Roles.upd] | dsimp only | split)
  | n + 1, s, h => by
    unfold drainFlow
    repeat (first | with_reducible assumption | with_reducible apply drainFlow_roles | with_reducible apply updFlow_roles | with_reducible apply markMoved_roles | with_reducible apply deliverHeld_roles | intro _ | with_reducible apply Roles.ite | simp only [Roles.upd] | dsimp only | split)

theorem drainPart_roles {s0 : State} (p : PartId) (s : State) (hk : Roles s0 s) : Roles s0 (drainPart p s) := by
  unfold drainPart
  repeat (first | with_reducible assumption | with_reducible apply settleRows_roles | with_reducible apply eachOf_roles | with_reducible apply drainFlow_roles | intro _ | with_reducible apply Roles.ite | with_reducible apply Roles.iteSnd | with_reducible apply Roles.iteFst | simp only [Roles.upd] | dsimp only | split)

theorem holdPacket_roles {s0 : State} (src : DevId) (path : Path) (isPiece : Bool) (p : PartId) (seq : Nat) (b : Bytes) (s : State) (hk : Roles s0 s) : Roles s0 (holdPacket src path isPiece p seq b s) := by
  unfold holdPacket
  repeat (first | with_reducible assumption | with_reducible apply cntBridle_roles | with_reducible apply leavePool_roles | with_reducible apply updFlow_roles | intro _ | with_reducible apply Roles.ite | simp only [Roles.upd] | dsimp only | split)

theorem passOver_roles {s0 : State} (src : DevId) (path : Path) (p : PartId) (seq : Nat) (s : State) (hk : Roles s0 s) : Roles s0 (passOver src path p seq s) := by
  unfold passOver
  repeat (first | with_reducible assumption | with_reducible apply updFlow_roles | intro _ | with_reducible apply Roles.ite | simp only [Roles.upd] | dsimp only | split)

theorem seeRise_roles {s0 : State} (src : DevId) (p : PartId) (isPiece : Bool) (seq : Nat) (b : Bytes) (s : State) (hk : Roles s0 s) : Roles s0 (seeRise src p isPiece seq b s) := by
  unfold seeRise
  repeat (first | with_reducible assumption | with_reducible refine judgePart_roles (by with_reducible assumption) ?_ | with_reducible apply dropHeld_roles | intro _ | with_reducible apply Roles.ite | simp only [Roles.upd] | dsimp only | split)

theorem takeTurn_roles {s0 : State} (src : DevId) (path : Path) (isPiece : Bool) (p : PartId) (b : Bytes) (s : State) (hk : Roles s0 s) : Roles s0 (takeTurn src path isPiece p b s) := by
  unfold takeTurn
  repeat (first | with_reducible assumption | with_reducible apply cntBridle_roles | with_reducible apply leavePool_roles | with_reducible apply drainPart_roles | with_reducible apply holdPacket_roles | with_reducible apply seeRise_roles | intro _ | with_reducible apply Roles.ite | simp only [Roles.upd] | dsimp only | split)

theorem arriveBad_roles {s0 : State} (src : DevId) (path : Path) (p : PartId) (b : Bytes) (s : State) (hk : Roles s0 s) : Roles s0 (arriveBad src path p b s) := by
  unfold arriveBad
  repeat (first | with_reducible assumption | with_reducible apply takeBad_roles | with_reducible apply leavePool_roles | with_reducible apply drainPart_roles | with_reducible apply passOver_roles | intro _ | with_reducible apply Roles.ite | simp only [Roles.upd] | dsimp only | split)

theorem arrive_roles {s0 : State} (src : DevId) (path : Path) (isPiece : Bool) (b : Bytes) (s : State) (hk : Roles s0 s) : Roles s0 (arrive src path isPiece b s) := by
  unfold arrive
  repeat (first | with_reducible assumption | with_reducible apply arriveMeets_roles | with_reducible apply takeTurn_roles | with_reducible apply arriveBad_roles | with_reducible apply drainPart_roles | with_reducible apply takeRefuse_roles | with_reducible apply leavePool_roles | intro _ | with_reducible apply Roles.ite | simp only [Roles.upd] | dsimp only | split)

theorem arriveKind_roles {s0 : State} (src : DevId) (path : Path) (isPiece : Bool) (kinds : Nat → Bool) (b : Bytes) (s : State) (hk : Roles s0 s) : RolesO s0 (arriveKind src path isPiece kinds b s) := by
  unfold arriveKind
  repeat (first | with_reducible assumption | with_reducible apply RolesO.next | with_reducible apply RolesO.ite | with_reducible apply arrive_roles | intro _ | with_reducible apply Roles.ite | simp only [Roles.upd] | dsimp only | split)

theorem execRowReceive_roles {s0 : State} (src : DevId) (path : Path) (pkt : Bytes) (s : State) (hk : Roles s0 s) : RolesO s0 (execRowReceive src path pkt s) := by
  unfold execRowReceive
  repeat (first | with_reducible assumption | with_reducible apply RolesO.next | with_reducible apply RolesO.ite | with_reducible apply arriveKind_roles | with_reducible apply quietRow_roles | intro _ | with_reducible apply Roles.ite | simp only [Roles.upd] | dsimp only | split)

theorem execResultReceive_roles {s0 : State} (src : DevId) (path : Path) (pkt : Bytes) (s : State) (hk : Roles s0 s) : RolesO s0 (execResultReceive src path pkt s) := by
  unfold execResultReceive
  repeat (first | with_reducible assumption | with_reducible apply RolesO.next | with_reducible apply RolesO.ite | with_reducible apply arriveKind_roles | intro _ | with_reducible apply Roles.ite | simp only [Roles.upd] | dsimp only | split)

theorem execVerdictReceive_roles {s0 : State} (src : DevId) (path : Path) (pkt : Bytes) (s : State) (hk : Roles s0 s) : RolesO s0 (execVerdictReceive src path pkt s) := by
  unfold execVerdictReceive
  repeat (first | with_reducible assumption | with_reducible apply RolesO.next | with_reducible apply RolesO.ite | with_reducible apply arriveKind_roles | intro _ | with_reducible apply Roles.ite | simp only [Roles.upd] | dsimp only | split)

theorem execCloseReceive_roles {s0 : State} (src : DevId) (path : Path) (pkt : Bytes) (s : State) (hk : Roles s0 s) : RolesO s0 (execCloseReceive src path pkt s) := by
  unfold execCloseReceive
  repeat (first | with_reducible assumption | with_reducible apply RolesO.next | with_reducible apply RolesO.ite | with_reducible apply arriveKind_roles | intro _ | with_reducible apply Roles.ite | simp only [Roles.upd] | dsimp only | split)

theorem execDropReceive_roles {s0 : State} (src : DevId) (path : Path) (pkt : Bytes) (s : State) (hk : Roles s0 s) : RolesO s0 (execDropReceive src path pkt s) := by
  unfold execDropReceive
  repeat (first | with_reducible assumption | with_reducible apply RolesO.next | with_reducible apply RolesO.ite | with_reducible apply arriveKind_roles | intro _ | with_reducible apply Roles.ite | simp only [Roles.upd] | dsimp only | split)

theorem execRefuseReceive_roles {s0 : State} (src : DevId) (path : Path) (pkt : Bytes) (s : State) (hk : Roles s0 s) : RolesO s0 (execRefuseReceive src path pkt s) := by
  unfold execRefuseReceive
  repeat (first | with_reducible assumption | with_reducible apply RolesO.next | with_reducible apply RolesO.ite | with_reducible apply arriveKind_roles | intro _ | with_reducible apply Roles.ite | simp only [Roles.upd] | dsimp only | split)

theorem noteOps_roles {s0 : State} (src : DevId) (b : Bytes) (ops : Option ColOps) (s : State) (hk : Roles s0 s) : Roles s0 (noteOps src b ops s) := by
  unfold noteOps
  repeat (first | with_reducible assumption | intro _ | with_reducible apply Roles.ite | simp only [Roles.upd] | dsimp only | split)

theorem execColDataReceive_roles {s0 : State} (src : DevId) (path : Path) (pkt : Bytes) (ops : Option ColOps) (s : State) (hk : Roles s0 s) : RolesO s0 (execColDataReceive src path pkt ops s) := by
  unfold execColDataReceive
  repeat (first | with_reducible assumption | with_reducible apply RolesO.next | with_reducible apply RolesO.ite | with_reducible apply arriveKind_roles | with_reducible apply noteOps_roles | intro _ | with_reducible apply Roles.ite | simp only [Roles.upd] | dsimp only | split)

theorem execColAckReceive_roles {s0 : State} (src : DevId) (path : Path) (pkt : Bytes) (s : State) (hk : Roles s0 s) : RolesO s0 (execColAckReceive src path pkt s) := by
  unfold execColAckReceive
  repeat (first | with_reducible assumption | with_reducible apply RolesO.next | with_reducible apply RolesO.ite | with_reducible apply arriveKind_roles | intro _ | with_reducible apply Roles.ite | simp only [Roles.upd] | dsimp only | split)

theorem execColNackReceive_roles {s0 : State} (src : DevId) (path : Path) (pkt : Bytes) (s : State) (hk : Roles s0 s) : RolesO s0 (execColNackReceive src path pkt s) := by
  unfold execColNackReceive
  repeat (first | with_reducible assumption | with_reducible apply RolesO.next | with_reducible apply RolesO.ite | with_reducible apply arriveKind_roles | intro _ | with_reducible apply Roles.ite | simp only [Roles.upd] | dsimp only | split)

theorem execJoinReceive_roles {s0 : State} (src : DevId) (path : Path) (pkt : Bytes) (s : State) (hk : Roles s0 s) : RolesO s0 (execJoinReceive src path pkt s) := by
  unfold execJoinReceive
  repeat (first | with_reducible assumption | with_reducible apply RolesO.next | with_reducible apply RolesO.ite | with_reducible apply arriveKind_roles | intro _ | with_reducible apply Roles.ite | simp only [Roles.upd] | dsimp only | split)

theorem execReadyReceive_roles {s0 : State} (src : DevId) (path : Path) (pkt : Bytes) (s : State) (hk : Roles s0 s) : RolesO s0 (execReadyReceive src path pkt s) := by
  unfold execReadyReceive
  repeat (first | with_reducible assumption | with_reducible apply RolesO.next | with_reducible apply RolesO.ite | with_reducible apply arriveKind_roles | intro _ | with_reducible apply Roles.ite | simp only [Roles.upd] | dsimp only | split)

theorem execColAbortReceive_roles {s0 : State} (src : DevId) (path : Path) (pkt : Bytes) (s : State) (hk : Roles s0 s) : RolesO s0 (execColAbortReceive src path pkt s) := by
  unfold execColAbortReceive
  repeat (first | with_reducible assumption | with_reducible apply RolesO.next | with_reducible apply RolesO.ite | with_reducible apply arriveKind_roles | intro _ | with_reducible apply Roles.ite | simp only [Roles.upd] | dsimp only | split)

theorem execColProbeReceive_roles {s0 : State} (src : DevId) (path : Path) (pkt : Bytes) (s : State) (hk : Roles s0 s) : RolesO s0 (execColProbeReceive src path pkt s) := by
  unfold execColProbeReceive
  repeat (first | with_reducible assumption | with_reducible apply RolesO.next | with_reducible apply RolesO.ite | with_reducible apply arriveKind_roles | intro _ | with_reducible apply Roles.ite | simp only [Roles.upd] | dsimp only | split)

theorem execColProbeAckReceive_roles {s0 : State} (src : DevId) (path : Path) (pkt : Bytes) (s : State) (hk : Roles s0 s) : RolesO s0 (execColProbeAckReceive src path pkt s) := by
  unfold execColProbeAckReceive
  repeat (first | with_reducible assumption | with_reducible apply RolesO.next | with_reducible apply RolesO.ite | with_reducible apply arriveKind_roles | intro _ | with_reducible apply Roles.ite | simp only [Roles.upd] | dsimp only | split)

theorem execPassStart_roles {s0 : State} (p : PartId) (expert : Nat) (s : State) (hk : Roles s0 s) : RolesO s0 (execPassStart p expert s) := by
  unfold execPassStart
  repeat (first | with_reducible assumption | with_reducible apply RolesO.next | with_reducible apply RolesO.ite | with_reducible apply drainPart_roles | with_reducible apply passStart_roles | intro _ | with_reducible apply Roles.ite | simp only [Roles.upd] | dsimp only | split)

theorem execReissuePassTimer_roles {s0 : State} (p : PartId) (expert : Nat) (s : State) (hk : Roles s0 s) : RolesO s0 (execReissuePassTimer p expert s) := by
  unfold execReissuePassTimer
  repeat (first | with_reducible assumption | with_reducible apply RolesO.next | with_reducible apply RolesO.ite | with_reducible apply drainPart_roles | with_reducible apply reissuePass_roles | intro _ | with_reducible apply Roles.ite | simp only [Roles.upd] | dsimp only | split)

theorem execTeardownServeEnd_roles {s0 : State} (p : PartId) (s : State) (hk : Roles s0 s) : RolesO s0 (execTeardownServeEnd p s) := by
  unfold execTeardownServeEnd
  repeat (first | with_reducible assumption | with_reducible apply RolesO.next | with_reducible apply RolesO.ite | with_reducible apply drainPart_roles | with_reducible apply serveEnd_roles | intro _ | with_reducible apply Roles.ite | simp only [Roles.upd] | dsimp only | split)

theorem pwrStatus_roles {s0 : State} (cmd reason : Nat) (s : State) (hk : Roles s0 s) : Roles s0 (pwrStatus cmd reason s) := by
  unfold pwrStatus
  repeat (first | with_reducible assumption | intro _ | with_reducible apply Roles.ite | simp only [Roles.upd] | dsimp only | split)

theorem execSetPstate_roles {s0 : State} (r : Requester) (v : Nat) (s : State) (hk : Roles s0 s) : RolesO s0 (execSetPstate r v s) := by
  unfold execSetPstate
  repeat (first | with_reducible assumption | with_reducible apply RolesO.next | with_reducible apply RolesO.ite | with_reducible apply pwrStatus_roles | with_reducible apply requestPstate_roles | intro _ | with_reducible apply Roles.ite | simp only [Roles.upd] | dsimp only | split)

theorem execPstateRampDone_roles {s0 : State} (s : State) (hk : Roles s0 s) : RolesO s0 (execPstateRampDone s) := by
  unfold execPstateRampDone
  repeat (first | with_reducible assumption | with_reducible apply RolesO.next | with_reducible apply RolesO.ite | with_reducible apply switchCore_roles | intro _ | with_reducible apply Roles.ite | simp only [Roles.upd] | dsimp only | split)

theorem execRailReadbackSample_roles {s0 : State} (mv : Nat) (s : State) (hk : Roles s0 s) : RolesO s0 (execRailReadbackSample mv s) := by
  unfold execRailReadbackSample
  repeat (first | with_reducible assumption | with_reducible apply RolesO.next | with_reducible apply RolesO.ite | with_reducible apply mgtEvent_roles | with_reducible apply switchCore_roles | intro _ | with_reducible apply Roles.ite | simp only [Roles.upd] | dsimp only | split)

theorem thermalStep_roles {s0 : State} (s : State) (hk : Roles s0 s) : Roles s0 (thermalStep s) := by
  unfold thermalStep
  repeat (first | with_reducible assumption | with_reducible apply mgtEvent_roles | with_reducible apply cntPower_roles | with_reducible apply releaseHeld_roles | intro _ | with_reducible apply Roles.ite | simp only [Roles.upd] | dsimp only | split)

theorem alertStep_roles {s0 : State} (s : State) (hk : Roles s0 s) : Roles s0 (alertStep s) := by
  unfold alertStep
  repeat (first | with_reducible assumption | with_reducible apply mgtEvent_roles | with_reducible apply emit_roles | intro _ | with_reducible apply Roles.ite | simp only [Roles.upd] | dsimp only | split)

theorem execSensorSample_roles {s0 : State} (temps : List Int) (s : State) (hk : Roles s0 s) : RolesO s0 (execSensorSample temps s) := by
  unfold execSensorSample
  repeat (first | with_reducible assumption | with_reducible apply RolesO.next | with_reducible apply RolesO.ite | with_reducible apply thermalStep_roles | with_reducible apply alertStep_roles | intro _ | with_reducible apply Roles.ite | simp only [Roles.upd] | dsimp only | split)

theorem execHbmTempReport_roles {s0 : State} (stack : Fin 6) (temp : Int) (s : State) (hk : Roles s0 s) : RolesO s0 (execHbmTempReport stack temp s) := by
  unfold execHbmTempReport
  repeat (first | with_reducible assumption | with_reducible apply RolesO.next | with_reducible apply RolesO.ite | intro _ | with_reducible apply Roles.ite | simp only [Roles.upd] | dsimp only | split)

theorem windowEnd_roles {s0 : State} (s : State) (hk : Roles s0 s) : Roles s0 (windowEnd s) := by
  unfold windowEnd
  repeat (first | with_reducible assumption | with_reducible apply releaseHeld_roles | with_reducible apply mgtEvent_roles | intro _ | with_reducible apply Roles.ite | simp only [Roles.upd] | dsimp only | split)

theorem overLimit_roles {s0 : State} (avg : Nat) (s : State) (hk : Roles s0 s) : Roles s0 (overLimit avg s) := by
  unfold overLimit
  repeat (first | with_reducible assumption | with_reducible apply cntPower_roles | with_reducible apply mgtEvent_roles | with_reducible apply mgtRecord_roles | with_reducible apply recordAll_roles | intro _ | with_reducible apply Roles.ite | simp only [Roles.upd] | dsimp only | split)

theorem energyStep_roles {s0 : State} (watts : Nat) (s : State) (hk : Roles s0 s) : Roles s0 (energyStep watts s) := by
  unfold energyStep
  repeat (first | with_reducible assumption | intro _ | with_reducible apply Roles.ite | simp only [Roles.upd] | dsimp only | split)

theorem execPowerEstimate_roles {s0 : State} (watts : Nat) (s : State) (hk : Roles s0 s) : RolesO s0 (execPowerEstimate watts s) := by
  unfold execPowerEstimate
  repeat (first | with_reducible assumption | with_reducible apply RolesO.next | with_reducible apply RolesO.ite | with_reducible apply windowEnd_roles | with_reducible apply energyStep_roles | with_reducible apply overLimit_roles | intro _ | with_reducible apply Roles.ite | simp only [Roles.upd] | dsimp only | split)

theorem execPwrLimitWWrite_roles {s0 : State} (r : Requester) (v : Nat) (s : State) (hk : Roles s0 s) : RolesO s0 (execPwrLimitWWrite r v s) := by
  unfold execPwrLimitWWrite
  repeat (first | with_reducible assumption | with_reducible apply RolesO.next | with_reducible apply RolesO.ite | intro _ | with_reducible apply Roles.ite | simp only [Roles.upd] | dsimp only | split)

theorem execPwrCloseUsWrite_roles {s0 : State} (r : Requester) (v : Nat) (s : State) (hk : Roles s0 s) : RolesO s0 (execPwrCloseUsWrite r v s) := by
  unfold execPwrCloseUsWrite
  repeat (first | with_reducible assumption | with_reducible apply RolesO.next | with_reducible apply RolesO.ite | intro _ | with_reducible apply Roles.ite | simp only [Roles.upd] | dsimp only | split)

theorem execClusterNoticeTimer_roles {s0 : State} (s : State) (hk : Roles s0 s) : RolesO s0 (execClusterNoticeTimer s) := by
  unfold execClusterNoticeTimer
  repeat (first | with_reducible assumption | with_reducible apply RolesO.next | with_reducible apply RolesO.ite | with_reducible apply noticeCtx_roles | with_reducible apply Roles.foldl | intro _ | with_reducible apply Roles.ite | simp only [Roles.upd] | dsimp only | split)

theorem execClusterNoticeReceive_roles {s0 : State} (notice : Bytes) (s : State) (hk : Roles s0 s) : RolesO s0 (execClusterNoticeReceive notice s) := by
  unfold execClusterNoticeReceive
  repeat (first | with_reducible assumption | with_reducible apply RolesO.next | with_reducible apply RolesO.ite | with_reducible apply eachOf_roles | with_reducible apply updPlane_roles | with_reducible apply learnStart_roles | with_reducible apply updPeer_roles | intro _ | with_reducible apply Roles.ite | with_reducible apply Roles.iteSnd | with_reducible apply Roles.iteFst | simp only [Roles.upd] | dsimp only | split)

theorem refuseHeld_roles {s0 : State} (p : PartId) (r : RowRec) (s : State) (hk : Roles s0 s) : Roles s0 (refuseHeld p r s) := by
  unfold refuseHeld
  repeat (first | with_reducible assumption | with_reducible apply cntPower_roles | with_reducible apply dropRow_roles | with_reducible apply sendRefuse_roles | with_reducible apply refuseSpec_roles | with_reducible apply conjSettle_roles | with_reducible apply reissueTag_roles | with_reducible apply noteBounce_roles | intro _ | with_reducible apply Roles.ite | simp only [Roles.upd] | dsimp only | split)

theorem execQuietExit_roles {s0 : State} (r : Requester) (v : Nat) (s : State) (hk : Roles s0 s) : RolesO s0 (execQuietExit r v s) := by
  unfold execQuietExit
  repeat (first | with_reducible assumption | with_reducible apply RolesO.next | with_reducible apply RolesO.ite | with_reducible apply pwrStatus_roles | with_reducible apply quietExit_roles | intro _ | with_reducible apply Roles.ite | simp only [Roles.upd] | dsimp only | split)

theorem lcTransition_roles {s0 : State} (op : Nat) (zero : Bool) (burn : Fuses → Fuses) (s : State) (hk : Roles s0 s) : Roles s0 (lcTransition op zero burn s) := by
  unfold lcTransition
  repeat (first | with_reducible assumption | with_reducible refine takeFree_roles (by with_reducible assumption) ?_ | with_reducible apply takeFree_snd_roles | with_reducible apply secLog_roles | with_reducible apply zeroizeAll_roles | intro _ | with_reducible apply Roles.ite | with_reducible apply Roles.iteSnd | with_reducible apply Roles.iteFst | simp only [Roles.upd] | dsimp only | split)

theorem voidTorn_roles {s0 : State} (s : State) (hk : Roles s0 s) : Roles s0 (voidTorn s) := by
  unfold voidTorn
  repeat (first | with_reducible assumption | with_reducible apply flashWrite_roles | intro _ | with_reducible apply Roles.ite | simp only [Roles.upd] | dsimp only | split)

theorem lcRecover_roles {s0 : State} (s : State) (hk : Roles s0 s) : Roles s0 (lcRecover s) := by
  unfold lcRecover
  repeat (first | with_reducible assumption | with_reducible apply zeroizeAll_roles | with_reducible apply secLog_roles | intro _ | with_reducible apply Roles.ite | simp only [Roles.upd] | dsimp only | split)

theorem romLog_roles {s0 : State} (s : State) (hk : Roles s0 s) : Roles s0 (romLog s) := by
  unfold romLog
  repeat (first | with_reducible assumption | with_reducible apply lcRecover_roles | with_reducible apply voidTorn_roles | intro _ | with_reducible apply Roles.ite | simp only [Roles.upd] | dsimp only | split)

theorem burnFloor_roles {s0 : State} (n : Nat) (s : State) (hk : Roles s0 s) : Roles s0 (burnFloor n s) := by
  unfold burnFloor
  repeat (first | with_reducible assumption | with_reducible apply secLog_roles | intro _ | with_reducible apply Roles.ite | simp only [Roles.upd] | dsimp only | split)

theorem actProvision_roles {s0 t : State} {v : Nat} {b : Bytes} {s : State} (e : actProvision b s = (v, t)) (hk : Roles s0 s) : Roles s0 t := by
  unfold actProvision at e
  (try dsimp only at e)
  repeat' split at e
  all_goals (try cases e)
  all_goals repeat (first | with_reducible assumption | with_reducible apply lcTransition_roles | intro _ | with_reducible apply Roles.ite | simp only [Roles.upd] | dsimp only | split)

theorem actProvision_snd_roles {s0 : State} (b : Bytes) (s : State) (hk : Roles s0 s) : Roles s0 (actProvision b s).2 :=
  actProvision_roles (Prod.eta _).symm hk

theorem actDeploy_roles {s0 t : State} {v : Nat} {s : State} (e : actDeploy s = (v, t)) (hk : Roles s0 s) : Roles s0 t := by
  unfold actDeploy at e
  (try dsimp only at e)
  repeat' split at e
  all_goals (try cases e)
  all_goals repeat (first | with_reducible assumption | with_reducible apply lcTransition_roles | intro _ | with_reducible apply Roles.ite | simp only [Roles.upd] | dsimp only | split)

theorem actDeploy_snd_roles {s0 : State} (s : State) (hk : Roles s0 s) : Roles s0 (actDeploy s).2 :=
  actDeploy_roles (Prod.eta _).symm hk

theorem actUnlock_roles {s0 t : State} {v : Nat} {s : State} (e : actUnlock s = (v, t)) (hk : Roles s0 s) : Roles s0 t := by
  unfold actUnlock at e
  (try dsimp only at e)
  repeat' split at e
  all_goals (try cases e)
  all_goals repeat (first | with_reducible assumption | with_reducible apply lcTransition_roles | intro _ | with_reducible apply Roles.ite | simp only [Roles.upd] | dsimp only | split)

theorem actUnlock_snd_roles {s0 : State} (s : State) (hk : Roles s0 s) : Roles s0 (actUnlock s).2 :=
  actUnlock_roles (Prod.eta _).symm hk

theorem actRelock_roles {s0 t : State} {v : Nat} {s : State} (e : actRelock s = (v, t)) (hk : Roles s0 s) : Roles s0 t := by
  unfold actRelock at e
  (try dsimp only at e)
  repeat' split at e
  all_goals (try cases e)
  all_goals repeat (first | with_reducible assumption | with_reducible apply lcTransition_roles | intro _ | with_reducible apply Roles.ite | simp only [Roles.upd] | dsimp only | split)

theorem actRelock_snd_roles {s0 : State} (s : State) (hk : Roles s0 s) : Roles s0 (actRelock s).2 :=
  actRelock_roles (Prod.eta _).symm hk

theorem actDecommission_roles {s0 t : State} {v : Nat} {s : State} (e : actDecommission s = (v, t)) (hk : Roles s0 s) : Roles s0 t := by
  unfold actDecommission at e
  (try dsimp only at e)
  repeat' split at e
  all_goals (try cases e)
  all_goals repeat (first | with_reducible assumption | with_reducible apply lcTransition_roles | intro _ | with_reducible apply Roles.ite | simp only [Roles.upd] | dsimp only | split)

theorem actDecommission_snd_roles {s0 : State} (s : State) (hk : Roles s0 s) : Roles s0 (actDecommission s).2 :=
  actDecommission_roles (Prod.eta _).symm hk

theorem actZeroize_roles {s0 t : State} {v : Nat} {s : State} (e : actZeroize s = (v, t)) (hk : Roles s0 s) : Roles s0 t := by
  unfold actZeroize at e
  (try dsimp only at e)
  repeat' split at e
  all_goals (try cases e)
  all_goals repeat (first | with_reducible assumption | with_reducible apply zeroizeAll_roles | with_reducible apply secLog_roles | intro _ | with_reducible apply Roles.ite | simp only [Roles.upd] | dsimp only | split)

theorem actZeroize_snd_roles {s0 : State} (s : State) (hk : Roles s0 s) : Roles s0 (actZeroize s).2 :=
  actZeroize_roles (Prod.eta _).symm hk

theorem actFloor_roles {s0 t : State} {v : Nat} {b : Bytes} {s : State} (e : actFloor b s = (v, t)) (hk : Roles s0 s) : Roles s0 t := by
  unfold actFloor at e
  (try dsimp only at e)
  repeat' split at e
  all_goals (try cases e)
  all_goals repeat (first | with_reducible assumption | with_reducible apply burnFloor_roles | intro _ | with_reducible apply Roles.ite | simp only [Roles.upd] | dsimp only | split)

theorem actFloor_snd_roles {s0 : State} (b : Bytes) (s : State) (hk : Roles s0 s) : Roles s0 (actFloor b s).2 :=
  actFloor_roles (Prod.eta _).symm hk

theorem actVault_roles {s0 t : State} {v : Nat} {b : Bytes} {s : State} (e : actVault b s = (v, t)) (hk : Roles s0 s) : Roles s0 t := by
  unfold actVault at e
  (try dsimp only at e)
  repeat' split at e
  all_goals (try cases e)
  all_goals repeat (first | with_reducible assumption | with_reducible refine drbgBytes_roles (by with_reducible assumption) ?_ | with_reducible apply drbgBytes_snd_roles | with_reducible apply flashWrite_roles | with_reducible apply flashErase_roles | with_reducible apply secLog_roles | intro _ | with_reducible apply Roles.ite | with_reducible apply Roles.iteSnd | with_reducible apply Roles.iteFst | simp only [Roles.upd] | dsimp only | split)

theorem actVault_snd_roles {s0 : State} (b : Bytes) (s : State) (hk : Roles s0 s) : Roles s0 (actVault b s).2 :=
  actVault_roles (Prod.eta _).symm hk

theorem actLogClear_roles {s0 t : State} {v : Nat} {s : State} (e : actLogClear s = (v, t)) (hk : Roles s0 s) : Roles s0 t := by
  unfold actLogClear at e
  (try dsimp only at e)
  repeat' split at e
  all_goals (try cases e)
  all_goals repeat (first | with_reducible assumption | with_reducible apply flashErase_roles | with_reducible apply secLog_roles | intro _ | with_reducible apply Roles.ite | simp only [Roles.upd] | dsimp only | split)

theorem actLogClear_snd_roles {s0 : State} (s : State) (hk : Roles s0 s) : Roles s0 (actLogClear s).2 :=
  actLogClear_roles (Prod.eta _).symm hk

theorem secAct_roles {s0 t : State} {v op : Nat} {b : Bytes} {s : State} (e : secAct op b s = (v, t)) (hk : Roles s0 s) : Roles s0 t := by
  unfold secAct at e
  split at e
  · exact actProvision_roles e hk
  · exact actDeploy_roles e hk
  · exact actUnlock_roles e hk
  · exact actRelock_roles e hk
  · exact actDecommission_roles e hk
  · exact actZeroize_roles e hk
  · exact actVault_roles e hk
  · exact actFloor_roles e hk
  · exact actLogClear_roles e hk

theorem secAct_snd_roles {s0 : State} (op : Nat) (b : Bytes) (s : State) (hk : Roles s0 s) : Roles s0 (secAct op b s).2 :=
  secAct_roles (Prod.eta _).symm hk

theorem secEnd_roles {s0 : State} (op status : Nat) (s : State) (hk : Roles s0 s) : Roles s0 (secEnd op status s) := by
  unfold secEnd
  repeat (first | with_reducible assumption | with_reducible apply freshNonce_roles | intro _ | with_reducible apply Roles.ite | simp only [Roles.upd] | dsimp only | split)

theorem sigFailed_roles {s0 : State} (op : Nat) (s : State) (hk : Roles s0 s) : Roles s0 (sigFailed op s) := by
  unfold sigFailed
  repeat (first | with_reducible assumption | with_reducible apply cntDev_roles | with_reducible apply mgtRecord_roles | with_reducible apply secLogMergedAs_roles | intro _ | with_reducible apply Roles.ite | simp only [Roles.upd] | dsimp only | split)

theorem secTry_roles {s0 t : State} {v : Bool} {s : State} (e : secTry s = (t, v)) (hk : Roles s0 s) : Roles s0 t := by
  unfold secTry at e
  (try dsimp only at e)
  repeat' split at e
  all_goals (try cases e)
  all_goals repeat (first | with_reducible assumption | with_reducible refine takeFree_roles (by with_reducible assumption) ?_ | with_reducible apply takeFree_snd_roles | with_reducible refine secAct_roles (by with_reducible assumption) ?_ | with_reducible apply secAct_snd_roles | with_reducible apply secEnd_roles | with_reducible apply secLog_roles | with_reducible apply sigFailed_roles | intro _ | with_reducible apply Roles.ite | with_reducible apply Roles.iteSnd | with_reducible apply Roles.iteFst | simp only [Roles.upd] | dsimp only | split)

theorem secTry_fst_roles {s0 : State} (s : State) (hk : Roles s0 s) : Roles s0 (secTry s).1 :=
  secTry_roles (Prod.eta _).symm hk

theorem execAuthLockoutEnd_roles {s0 : State} (s : State) (hk : Roles s0 s) : RolesO s0 (execAuthLockoutEnd s) := by
  unfold execAuthLockoutEnd
  repeat (first | with_reducible assumption | with_reducible apply RolesO.next | with_reducible apply RolesO.ite | intro _ | with_reducible apply Roles.ite | simp only [Roles.upd] | dsimp only | split)

theorem spdmError_roles {s0 : State} (bd : SpdmBinding) (code : Nat) (s : State) (hk : Roles s0 s) : Roles s0 (spdmError bd code s) := by
  unfold spdmError
  repeat (first | with_reducible assumption | with_reducible apply emit_roles | intro _ | with_reducible apply Roles.ite | simp only [Roles.upd] | dsimp only | split)

theorem spdmServe_roles {s0 : State} (bd : SpdmBinding) (f : State → State) (s : State) (hf : ∀ x0, Roles s0 x0 → Roles s0 (f x0)) (hk : Roles s0 s) : RolesO s0 (spdmServe bd f s) := by
  unfold spdmServe
  repeat (first | with_reducible apply hf | with_reducible assumption | with_reducible apply RolesO.next | with_reducible apply RolesO.ite | with_reducible apply spdmError_roles | intro _ | with_reducible apply Roles.ite | simp only [Roles.upd] | dsimp only | split)

theorem execSpdmGetCertificate_roles {s0 : State} (bd : SpdmBinding) (slot off len : Nat) (s : State) (hk : Roles s0 s) : RolesO s0 (execSpdmGetCertificate bd slot off len s) := by
  unfold execSpdmGetCertificate
  repeat (first | with_reducible assumption | with_reducible apply RolesO.next | with_reducible apply RolesO.ite | with_reducible apply spdmServe_roles | with_reducible apply spdmError_roles | with_reducible apply emit_roles | intro _ | with_reducible apply Roles.ite | simp only [Roles.upd] | dsimp only | split)

theorem execSpdmChallenge_roles {s0 : State} (bd : SpdmBinding) (slot : Nat) (nonce : Bytes) (s : State) (hk : Roles s0 s) : RolesO s0 (execSpdmChallenge bd slot nonce s) := by
  unfold execSpdmChallenge
  repeat (first | with_reducible assumption | with_reducible apply RolesO.next | with_reducible apply RolesO.ite | with_reducible apply spdmServe_roles | with_reducible apply spdmError_roles | with_reducible refine drbgBytes_roles (by with_reducible assumption) ?_ | with_reducible apply drbgBytes_snd_roles | with_reducible apply emit_roles | intro _ | with_reducible apply Roles.ite | with_reducible apply Roles.iteSnd | with_reducible apply Roles.iteFst | simp only [Roles.upd] | dsimp only | split)

theorem execSpdmGetMeasurements_roles {s0 : State} (bd : SpdmBinding) (op : Nat) (nonce : Bytes) (s : State) (hk : Roles s0 s) : RolesO s0 (execSpdmGetMeasurements bd op nonce s) := by
  unfold execSpdmGetMeasurements
  repeat (first | with_reducible assumption | with_reducible apply RolesO.next | with_reducible apply RolesO.ite | with_reducible apply spdmServe_roles | with_reducible apply spdmError_roles | with_reducible refine drbgBytes_roles (by with_reducible assumption) ?_ | with_reducible apply drbgBytes_snd_roles | with_reducible apply emit_roles | intro _ | with_reducible apply Roles.ite | with_reducible apply Roles.iteSnd | with_reducible apply Roles.iteFst | simp only [Roles.upd] | dsimp only | split)

theorem execSpdmKeyExchange_roles {s0 : State} (bd : SpdmBinding) (share : Bytes) (s : State) (hk : Roles s0 s) : RolesO s0 (execSpdmKeyExchange bd share s) := by
  unfold execSpdmKeyExchange
  repeat (first | with_reducible assumption | with_reducible apply RolesO.next | with_reducible apply RolesO.ite | with_reducible apply spdmServe_roles | with_reducible apply spdmError_roles | with_reducible refine drbgBytes_roles (by with_reducible assumption) ?_ | with_reducible apply drbgBytes_snd_roles | with_reducible apply emit_roles | intro _ | with_reducible apply Roles.ite | with_reducible apply Roles.iteSnd | with_reducible apply Roles.iteFst | simp only [Roles.upd] | dsimp only | split)

theorem updSession_roles {s0 : State} (n : Nat) (f : SpdmSession → SpdmSession) (s : State) (hk : Roles s0 s) : Roles s0 (updSession n f s) := by
  unfold updSession
  repeat (first | with_reducible assumption | intro _ | with_reducible apply Roles.ite | simp only [Roles.upd] | dsimp only | split)

theorem inSession_roles {s0 : State} (bd : SpdmBinding) (n : Nat) (f : SpdmSession → State → State) (s : State) (hf : ∀ x0 x1, Roles s0 x1 → Roles s0 (f x0 x1)) (hk : Roles s0 s) : RolesO s0 (inSession bd n f s) := by
  unfold inSession
  repeat (first | with_reducible apply hf | with_reducible assumption | with_reducible apply RolesO.next | with_reducible apply RolesO.ite | with_reducible apply spdmServe_roles | with_reducible apply spdmError_roles | intro _ | with_reducible apply Roles.ite | simp only [Roles.upd] | dsimp only | split)

theorem execSpdmKeyUpdate_roles {s0 : State} (bd : SpdmBinding) (session : Nat) (s : State) (hk : Roles s0 s) : RolesO s0 (execSpdmKeyUpdate bd session s) := by
  unfold execSpdmKeyUpdate
  repeat (first | with_reducible assumption | with_reducible apply RolesO.next | with_reducible apply RolesO.ite | with_reducible apply inSession_roles | with_reducible apply emit_roles | with_reducible apply updSession_roles | intro _ | with_reducible apply Roles.ite | simp only [Roles.upd] | dsimp only | split)

theorem execSpdmHeartbeat_roles {s0 : State} (bd : SpdmBinding) (session : Nat) (s : State) (hk : Roles s0 s) : RolesO s0 (execSpdmHeartbeat bd session s) := by
  unfold execSpdmHeartbeat
  repeat (first | with_reducible assumption | with_reducible apply RolesO.next | with_reducible apply RolesO.ite | with_reducible apply inSession_roles | with_reducible apply emit_roles | with_reducible apply updSession_roles | intro _ | with_reducible apply Roles.ite | simp only [Roles.upd] | dsimp only | split)

theorem execSpdmEndSession_roles {s0 : State} (bd : SpdmBinding) (session : Nat) (s : State) (hk : Roles s0 s) : RolesO s0 (execSpdmEndSession bd session s) := by
  unfold execSpdmEndSession
  repeat (first | with_reducible assumption | with_reducible apply RolesO.next | with_reducible apply RolesO.ite | with_reducible apply inSession_roles | with_reducible apply emit_roles | intro _ | with_reducible apply Roles.ite | simp only [Roles.upd] | dsimp only | split)

theorem ideServe_roles {s0 : State} (bd : SpdmBinding) (session : Nat) (k : PortId) (f : State → State) (s : State) (hf : ∀ x0, Roles s0 x0 → Roles s0 (f x0)) (hk : Roles s0 s) : RolesO s0 (ideServe bd session k f s) := by
  unfold ideServe
  repeat (first | with_reducible apply hf | with_reducible assumption | with_reducible apply RolesO.next | with_reducible apply RolesO.ite | with_reducible apply inSession_roles | with_reducible apply spdmError_roles | intro _ | with_reducible apply Roles.ite | simp only [Roles.upd] | dsimp only | split)

theorem ideAnswer_roles {s0 : State} (bd : SpdmBinding) (obj : Nat) (body : Bytes) (s : State) (hk : Roles s0 s) : Roles s0 (ideAnswer bd obj body s) := by
  unfold ideAnswer
  repeat (first | with_reducible assumption | with_reducible apply emit_roles | intro _ | with_reducible apply Roles.ite | simp only [Roles.upd] | dsimp only | split)

theorem execIdeKmQuery_roles {s0 : State} (bd : SpdmBinding) (session : Nat) (port : PortId) (s : State) (hk : Roles s0 s) : RolesO s0 (execIdeKmQuery bd session port s) := by
  unfold execIdeKmQuery
  repeat (first | with_reducible assumption | with_reducible apply RolesO.next | with_reducible apply RolesO.ite | with_reducible apply ideServe_roles | with_reducible apply ideAnswer_roles | intro _ | with_reducible apply Roles.ite | simp only [Roles.upd] | dsimp only | split)

theorem execIdeKmKeyProg_roles {s0 : State} (bd : SpdmBinding) (session : Nat) (port : PortId) (stream : Fin 5) (set : Fin 12) (key : Nat) (s : State) (hk : Roles s0 s) : RolesO s0 (execIdeKmKeyProg bd session port stream set key s) := by
  unfold execIdeKmKeyProg
  repeat (first | with_reducible assumption | with_reducible apply RolesO.next | with_reducible apply RolesO.ite | with_reducible apply ideServe_roles | with_reducible apply ideAnswer_roles | with_reducible apply updPort_roles | intro _ | with_reducible apply Roles.ite | simp only [Roles.upd] | dsimp only | split)

theorem execIdeKmKSetStop_roles {s0 : State} (bd : SpdmBinding) (session : Nat) (port : PortId) (stream : Fin 5) (set : Fin 12) (s : State) (hk : Roles s0 s) : RolesO s0 (execIdeKmKSetStop bd session port stream set s) := by
  unfold execIdeKmKSetStop
  repeat (first | with_reducible assumption | with_reducible apply RolesO.next | with_reducible apply RolesO.ite | with_reducible apply ideServe_roles | with_reducible apply ideAnswer_roles | with_reducible apply ideInsecure_roles | with_reducible apply updPort_roles | intro _ | with_reducible apply Roles.ite | simp only [Roles.upd] | dsimp only | split)

theorem execJtagInstruction_roles {s0 : State} (ir : Nat) (s : State) (hk : Roles s0 s) : RolesO s0 (execJtagInstruction ir s) := by
  unfold execJtagInstruction
  repeat (first | with_reducible assumption | with_reducible apply RolesO.next | with_reducible apply RolesO.ite | with_reducible apply secLog_roles | with_reducible apply emit_roles | intro _ | with_reducible apply Roles.ite | simp only [Roles.upd] | dsimp only | split)

theorem execEntropyTestFail_roles {s0 : State} (test : Nat) (s : State) (hk : Roles s0 s) : RolesO s0 (execEntropyTestFail test s) := by
  unfold execEntropyTestFail
  repeat (first | with_reducible assumption | with_reducible apply RolesO.next | with_reducible apply RolesO.ite | with_reducible apply enterError_roles | intro _ | with_reducible apply Roles.ite | simp only [Roles.upd] | dsimp only | split)

theorem setP2_roles {s0 : State} (s : State) (hk : Roles s0 s) : Roles s0 (setP2 s) := by
  unfold setP2
  repeat (first | with_reducible assumption | with_reducible apply switchCore_roles | intro _ | with_reducible apply Roles.ite | simp only [Roles.upd] | dsimp only | split)

theorem linksOff_roles {s0 : State} (s : State) (hk : Roles s0 s) : Roles s0 (linksOff s) := by
  unfold linksOff
  repeat (first | with_reducible assumption | with_reducible apply eachOf_roles | with_reducible apply setBrl_roles | with_reducible apply planeLeave_roles | intro _ | with_reducible apply Roles.ite | simp only [Roles.upd] | dsimp only | split)

theorem enterRom_roles {s0 : State} (s : State) (hk : Roles s0 s) : Roles s0 (enterRom s) := by
  unfold enterRom
  repeat (first | with_reducible assumption | with_reducible apply romLog_roles | with_reducible refine takeFree_roles (by with_reducible assumption) ?_ | with_reducible apply takeFree_snd_roles | intro _ | with_reducible apply Roles.ite | with_reducible apply Roles.iteSnd | with_reducible apply Roles.iteFst | simp only [Roles.upd] | dsimp only | split)

theorem execColdResetRelease_roles {s0 : State} (s : State) (hk : Roles s0 s) : RolesO s0 (execColdResetRelease s) := by
  unfold execColdResetRelease
  repeat (first | with_reducible assumption | with_reducible apply RolesO.next | with_reducible apply RolesO.ite | with_reducible apply enterRom_roles | intro _ | with_reducible apply Roles.ite | simp only [Roles.upd] | dsimp only | split)

theorem notePartitionReq_roles {s0 : State} (v : Nat) (s : State) (hk : Roles s0 s) : Roles s0 (notePartitionReq v s) := by
  unfold notePartitionReq
  repeat (first | with_reducible assumption | intro _ | with_reducible apply Roles.ite | simp only [Roles.upd] | dsimp only | split)

theorem execWarmResetComplete_roles {s0 : State} (s : State) (hk : Roles s0 s) : RolesO s0 (execWarmResetComplete s) := by
  unfold execWarmResetComplete
  repeat (first | with_reducible assumption | with_reducible apply RolesO.next | with_reducible apply RolesO.ite | with_reducible apply enterRom_roles | intro _ | with_reducible apply Roles.ite | simp only [Roles.upd] | dsimp only | split)

theorem execPartitionResetComplete_roles {s0 : State} (p : PartId) (s : State) (hk : Roles s0 s) : RolesO s0 (execPartitionResetComplete p s) := by
  unfold execPartitionResetComplete
  repeat (first | with_reducible assumption | with_reducible apply RolesO.next | with_reducible apply RolesO.ite | with_reducible apply partitionReady_roles | intro _ | with_reducible apply Roles.ite | simp only [Roles.upd] | dsimp only | split)

theorem probeFlash_roles {s0 : State} (s : State) (hk : Roles s0 s) : Roles s0 (probeFlash s) := by
  unfold probeFlash
  repeat (first | with_reducible assumption | intro _ | with_reducible apply Roles.ite | simp only [Roles.upd] | dsimp only | split)

theorem noteHeader_roles {s0 : State} (b : Bool) (r : Nat) (s : State) (hk : Roles s0 s) : Roles s0 (noteHeader b r s) := by
  unfold noteHeader
  repeat (first | with_reducible assumption | with_reducible apply secLog_roles | intro _ | with_reducible apply Roles.ite | simp only [Roles.upd] | dsimp only | split)

theorem toSelftest_roles {s0 : State} (cause : Nat) (s : State) (hk : Roles s0 s) : Roles s0 (toSelftest cause s) := by
  unfold toSelftest
  repeat (first | with_reducible assumption | intro _ | with_reducible apply Roles.ite | simp only [Roles.upd] | dsimp only | split)

theorem execRomBankChoice_roles {s0 : State} (s : State) (hk : Roles s0 s) : RolesO s0 (execRomBankChoice s) := by
  unfold execRomBankChoice
  repeat (first | with_reducible assumption | with_reducible apply RolesO.next | with_reducible apply RolesO.ite | with_reducible apply probeFlash_roles | with_reducible apply toSelftest_roles | with_reducible apply noteHeader_roles | intro _ | with_reducible apply Roles.ite | simp only [Roles.upd] | dsimp only | split)

theorem applyVerified_roles {s0 : State} (c : ImageCfg) (s : State) (hk : Roles s0 s) : Roles s0 (applyVerified c s) := by
  unfold applyVerified
  repeat (first | with_reducible assumption | intro _ | with_reducible apply Roles.ite | simp only [Roles.upd] | dsimp only | split)

theorem setBankStatus_roles {s0 : State} (b : Bool) (x : BankStatus) (s : State) (hk : Roles s0 s) : Roles s0 (setBankStatus b x s) := by
  unfold setBankStatus
  repeat (first | with_reducible assumption | intro _ | with_reducible apply Roles.ite | simp only [Roles.upd] | dsimp only | split)

theorem bootInfo_roles {s0 t : State} {v : List Nat} {c : ImageCfg} {kind : Nat} {s : State} (e : bootInfo c kind s = (v, t)) (hk : Roles s0 s) : Roles s0 t := by
  unfold bootInfo at e
  (try dsimp only at e)
  repeat' split at e
  all_goals (try cases e)
  all_goals repeat (first | with_reducible assumption | with_reducible refine takeFree_roles (by with_reducible assumption) ?_ | with_reducible apply takeFree_snd_roles | intro _ | with_reducible apply Roles.ite | with_reducible apply Roles.iteSnd | with_reducible apply Roles.iteFst | simp only [Roles.upd] | dsimp only | split)

theorem bootInfo_snd_roles {s0 : State} (c : ImageCfg) (kind : Nat) (s : State) (hk : Roles s0 s) : Roles s0 (bootInfo c kind s).2 :=
  bootInfo_roles (Prod.eta _).symm hk

theorem mapPort_roles {s0 : State} (c : ImageCfg) (k : PortId) (s : State) (hk : Roles s0 s) : Roles s0 (mapPort c k s) := by
  unfold mapPort
  repeat (first | with_reducible assumption | with_reducible apply updPort_roles | intro _ | with_reducible apply Roles.ite | simp only [Roles.upd] | dsimp only | split)

theorem execPortRetrainDone_roles {s0 : State} (k : PortId) (gen width : Nat) (s : State) (hk : Roles s0 s) : RolesO s0 (execPortRetrainDone k gen width s) := by
  unfold execPortRetrainDone
  repeat (first | with_reducible assumption | with_reducible apply RolesO.next | with_reducible apply RolesO.ite | with_reducible apply portEvent_roles | with_reducible apply updPort_roles | intro _ | with_reducible apply Roles.ite | with_reducible apply Roles.iteSnd | with_reducible apply Roles.iteFst | simp only [Roles.upd] | dsimp only | split)

theorem execGroupSyncLineHigh_roles {s0 : State} (s : State) (hk : Roles s0 s) : RolesO s0 (execGroupSyncLineHigh s) := by
  unfold execGroupSyncLineHigh
  repeat (first | with_reducible assumption | with_reducible apply RolesO.next | with_reducible apply RolesO.ite | intro _ | with_reducible apply Roles.ite | simp only [Roles.upd] | dsimp only | split)

theorem enterTimeSync_roles {s0 : State} (s : State) (hk : Roles s0 s) : Roles s0 (enterTimeSync s) := by
  unfold enterTimeSync
  repeat (first | with_reducible assumption | with_reducible apply judgeReach_roles | with_reducible apply judgeMaster_roles | intro _ | with_reducible apply Roles.ite | simp only [Roles.upd] | dsimp only | split)

theorem execLinkTrainEnd_roles {s0 : State} (s : State) (hk : Roles s0 s) : RolesO s0 (execLinkTrainEnd s) := by
  unfold execLinkTrainEnd
  repeat (first | with_reducible assumption | with_reducible apply RolesO.next | with_reducible apply RolesO.ite | with_reducible apply enterTimeSync_roles | intro _ | with_reducible apply Roles.ite | simp only [Roles.upd] | dsimp only | split)

theorem execLinkTrainTimeout_roles {s0 : State} (s : State) (hk : Roles s0 s) : RolesO s0 (execLinkTrainTimeout s) := by
  unfold execLinkTrainTimeout
  repeat (first | with_reducible assumption | with_reducible apply RolesO.next | with_reducible apply RolesO.ite | with_reducible apply enterTimeSync_roles | intro _ | with_reducible apply Roles.ite | simp only [Roles.upd] | dsimp only | split)

theorem advanceFloor_roles {s0 : State} (s : State) (hk : Roles s0 s) : Roles s0 (advanceFloor s) := by
  unfold advanceFloor
  repeat (first | with_reducible assumption | with_reducible apply secLog_roles | intro _ | with_reducible apply Roles.ite | simp only [Roles.upd] | dsimp only | split)

theorem execThermalTrip_roles {s0 : State} (sensor value : Nat) (s : State) (hk : Roles s0 s) : RolesO s0 (execThermalTrip sensor value s) := by
  unfold execThermalTrip
  repeat (first | with_reducible assumption | with_reducible apply RolesO.next | with_reducible apply RolesO.ite | intro _ | with_reducible apply Roles.ite | simp only [Roles.upd] | dsimp only | split)

theorem execFallbackAlertStep_roles {s0 : State} (s : State) (hk : Roles s0 s) : RolesO s0 (execFallbackAlertStep s) := by
  unfold execFallbackAlertStep
  repeat (first | with_reducible assumption | with_reducible apply RolesO.next | with_reducible apply RolesO.ite | with_reducible apply requestPstate_roles | intro _ | with_reducible apply Roles.ite | simp only [Roles.upd] | dsimp only | split)

theorem execMgtWdtRefresh_roles {s0 : State} (r : Requester) (v : Nat) (s : State) (hk : Roles s0 s) : RolesO s0 (execMgtWdtRefresh r v s) := by
  unfold execMgtWdtRefresh
  repeat (first | with_reducible assumption | with_reducible apply RolesO.next | with_reducible apply RolesO.ite | with_reducible apply releaseHeld_roles | intro _ | with_reducible apply Roles.ite | simp only [Roles.upd] | dsimp only | split)

theorem chargeSwitch_roles {s0 : State} (p : PartId) (old new : Nat) (s : State) (hk : Roles s0 s) : Roles s0 (chargeSwitch p old new s) := by
  unfold chargeSwitch
  repeat (first | with_reducible assumption | with_reducible refine takeFree_roles (by with_reducible assumption) ?_ | with_reducible apply takeFree_snd_roles | with_reducible apply charge_roles | intro _ | with_reducible apply Roles.ite | with_reducible apply Roles.iteSnd | with_reducible apply Roles.iteFst | simp only [Roles.upd] | dsimp only | split)

theorem switchModel_roles {s0 : State} (p : PartId) (m : Nat) (start : Nat) (s : State) (hk : Roles s0 s) : Roles s0 (switchModel p m start s) := by
  unfold switchModel
  repeat (first | with_reducible assumption | with_reducible apply chargeSwitch_roles | with_reducible apply cntPart_roles | with_reducible apply setRegPart_roles | with_reducible apply updPart_roles | intro _ | with_reducible apply Roles.ite | simp only [Roles.upd] | dsimp only | split)

theorem freshDual_roles {s0 : State} (p : PartId) (old new : Nat) (s : State) (hk : Roles s0 s) : Roles s0 (freshDual p old new s) := by
  unfold freshDual
  repeat (first | with_reducible assumption | with_reducible apply updPart_roles | intro _ | with_reducible apply Roles.ite | simp only [Roles.upd] | dsimp only | split)

theorem endStep_roles {s0 : State} (p : PartId) (s : State) (hk : Roles s0 s) : Roles s0 (endStep p s) := by
  unfold endStep
  repeat (first | with_reducible assumption | with_reducible apply updPart_roles | intro _ | with_reducible apply Roles.ite | simp only [Roles.upd] | dsimp only | split)

theorem freeEntry_roles {s0 : State} (p : PartId) (st : StreamId) (s : State) (hk : Roles s0 s) : Roles s0 (freeEntry p st s) := by
  unfold freeEntry
  repeat (first | with_reducible assumption | with_reducible apply updStream_roles | with_reducible apply updPart_roles | intro _ | with_reducible apply Roles.ite | simp only [Roles.upd] | dsimp only | split)

theorem signOff_roles {s0 : State} (p : PartId) (st : StreamId) (e : Exec) (s : State) (hk : Roles s0 s) : Roles s0 (signOff p st e s) := by
  unfold signOff
  repeat (first | with_reducible assumption | with_reducible apply traceCmd_roles | with_reducible apply applySignal_roles | with_reducible apply updStream_roles | with_reducible apply msixPart_roles | with_reducible apply cntPart64_roles | with_reducible apply freeEntry_roles | intro _ | with_reducible apply Roles.ite | simp only [Roles.upd] | dsimp only | split)

theorem endProgram_roles {s0 : State} (p : PartId) (st : StreamId) (e : Exec) (s : State) (hk : Roles s0 s) : Roles s0 (endProgram p st e s) := by
  unfold endProgram
  repeat (first | with_reducible assumption | with_reducible apply signOff_roles | with_reducible apply updStream_roles | intro _ | with_reducible apply Roles.ite | simp only [Roles.upd] | dsimp only | split)

theorem goOn_roles {s0 : State} (p : PartId) (st : StreamId) (e : Exec) (s : State) (hk : Roles s0 s) : Roles s0 (goOn p st e s) := by
  unfold goOn
  repeat (first | with_reducible assumption | with_reducible apply updStream_roles | intro _ | with_reducible apply Roles.ite | simp only [Roles.upd] | dsimp only | split)

theorem execSycSet_roles {s0 : State} (p : PartId) (st : StreamId) (s : State) (hk : Roles s0 s) : RolesO s0 (execSycSet p st s) := by
  unfold execSycSet
  repeat (first | with_reducible assumption | with_reducible apply RolesO.next | with_reducible apply RolesO.ite | with_reducible apply runCmd_roles | with_reducible apply conjAdvance_roles | with_reducible apply cmdDone_roles | with_reducible apply sycSetAt_roles | intro _ | with_reducible apply Roles.ite | simp only [Roles.upd] | dsimp only | split)

theorem execSycHostAdd_roles {s0 : State} (r : Requester) (i v : Nat) (s : State) (hk : Roles s0 s) : RolesO s0 (execSycHostAdd r i v s) := by
  unfold execSycHostAdd
  repeat (first | with_reducible assumption | with_reducible apply RolesO.next | with_reducible apply RolesO.ite | with_reducible refine hostPart_roles (by with_reducible assumption) ?_ | with_reducible apply hostPart_snd_roles | with_reducible apply conjAdvance_roles | with_reducible apply sycAdd_roles | intro _ | with_reducible apply Roles.ite | with_reducible apply Roles.iteSnd | with_reducible apply Roles.iteFst | simp only [Roles.upd] | dsimp only | split)

theorem execSycWaitTimeout_roles {s0 : State} (p : PartId) (st : StreamId) (s : State) (hk : Roles s0 s) : RolesO s0 (execSycWaitTimeout p st s) := by
  unfold execSycWaitTimeout
  repeat (first | with_reducible assumption | with_reducible apply RolesO.next | with_reducible apply RolesO.ite | with_reducible apply cmdFail_roles | with_reducible apply waitTimeout_roles | intro _ | with_reducible apply Roles.ite | simp only [Roles.upd] | dsimp only | split)

theorem setBank_roles {s0 : State} (b : Bank) (key v : Nat) (s : State) (hk : Roles s0 s) : Roles s0 (setBank b key v s) := by
  unfold setBank
  repeat (first | with_reducible assumption | with_reducible apply updPart_roles | with_reducible apply updPort_roles | with_reducible apply updLink_roles | with_reducible apply updPlane_roles | intro _ | with_reducible apply Roles.ite | simp only [Roles.upd] | dsimp only | split)

theorem cellClear_roles {s0 : State} (c : Cell) (s : State) (hk : Roles s0 s) : Roles s0 (cellClear c s) := by
  unfold cellClear
  repeat (first | with_reducible assumption | with_reducible apply setBank_roles | with_reducible apply setRegPart_roles | with_reducible apply updComm_roles | intro _ | with_reducible apply Roles.ite | simp only [Roles.upd] | dsimp only | split)

theorem subtractLive_roles {s0 : State} (c : Cell) (n : Nat) (s : State) (hk : Roles s0 s) : Roles s0 (subtractLive c n s) := by
  unfold subtractLive
  repeat (first | with_reducible assumption | with_reducible apply setBank_roles | with_reducible apply updComm_roles | intro _ | with_reducible apply Roles.ite | simp only [Roles.upd] | dsimp only | split)

theorem readEffect_roles {s0 : State} (r : Requester) (o : Nat) (s : State) (hk : Roles s0 s) : Roles s0 (readEffect r o s) := by
  unfold readEffect
  repeat (first | with_reducible assumption | with_reducible apply subtractLive_roles | with_reducible apply cellClear_roles | intro _ | with_reducible apply Roles.ite | simp only [Roles.upd] | dsimp only | split)

theorem readValue_roles {s0 t : State} {v : Nat} {r : Requester} {off len : Nat} {s : State} (e : readValue r off len s = (v, t)) (hk : Roles s0 s) : Roles s0 t := by
  unfold readValue at e
  (try dsimp only at e)
  repeat' split at e
  all_goals (try cases e)
  all_goals repeat (first | with_reducible assumption | intro _ | with_reducible apply Roles.ite | simp only [Roles.upd] | dsimp only | split)

theorem readValue_snd_roles {s0 : State} (r : Requester) (off len : Nat) (s : State) (hk : Roles s0 s) : Roles s0 (readValue r off len s).2 :=
  readValue_roles (Prod.eta _).symm hk

theorem readServed_roles {s0 : State} (r : Requester) (off len : Nat) (s : State) (hk : Roles s0 s) : Roles s0 (readServed r off len s) := by
  unfold readServed
  repeat (first | with_reducible assumption | with_reducible refine readValue_roles (by with_reducible assumption) ?_ | with_reducible apply readValue_snd_roles | with_reducible apply eachOf_roles | with_reducible apply readEffect_roles | with_reducible apply emit_roles | intro _ | with_reducible apply Roles.ite | with_reducible apply Roles.iteSnd | with_reducible apply Roles.iteFst | simp only [Roles.upd] | dsimp only | split)

theorem readReg_roles {s0 : State} (r : Requester) (off len : Nat) (s : State) (hk : Roles s0 s) : Roles s0 (readReg r off len s) := by
  unfold readReg
  repeat (first | with_reducible assumption | with_reducible apply readServed_roles | with_reducible refine hostMem_roles (by with_reducible assumption) ?_ | with_reducible apply hostMem_snd_roles | with_reducible apply emit_roles | intro _ | with_reducible apply Roles.ite | with_reducible apply Roles.iteSnd | with_reducible apply Roles.iteFst | simp only [Roles.upd] | dsimp only | split)

theorem configRead_roles {s0 : State} (k : PortId) (a : RegAddr) (len : Nat) (s : State) (hk : Roles s0 s) : Roles s0 (configRead k a len s) := by
  unfold configRead
  repeat (first | with_reducible assumption | with_reducible apply emit_roles | with_reducible apply leaveL1_roles | intro _ | with_reducible apply Roles.ite | simp only [Roles.upd] | dsimp only | split)

theorem bar2Read_roles {s0 : State} (k : PortId) (bare : Bool) (len : Nat) (s : State) (hk : Roles s0 s) : Roles s0 (bar2Read k bare len s) := by
  unfold bar2Read
  repeat (first | with_reducible assumption | with_reducible refine hostMem_roles (by with_reducible assumption) ?_ | with_reducible apply hostMem_snd_roles | with_reducible apply emit_roles | intro _ | with_reducible apply Roles.ite | with_reducible apply Roles.iteSnd | with_reducible apply Roles.iteFst | simp only [Roles.upd] | dsimp only | split)

theorem unsupportedReq_roles {s0 : State} (k : PortId) (s : State) (hk : Roles s0 s) : Roles s0 (unsupportedReq k s) := by
  unfold unsupportedReq
  repeat (first | with_reducible assumption | with_reducible apply emit_roles | with_reducible apply leaveL1_roles | intro _ | with_reducible apply Roles.ite | simp only [Roles.upd] | dsimp only | split)

theorem execRcRegisterRead_roles {s0 : State} (r : Requester) (a : RegAddr) (len : Nat) (s : State) (hk : Roles s0 s) : RolesO s0 (execRcRegisterRead r a len s) := by
  unfold execRcRegisterRead
  repeat (first | with_reducible assumption | with_reducible apply RolesO.next | with_reducible apply RolesO.ite | with_reducible apply readReg_roles | with_reducible apply bar2Read_roles | with_reducible apply unsupportedReq_roles | with_reducible apply configRead_roles | intro _ | with_reducible apply Roles.ite | simp only [Roles.upd] | dsimp only | split)

theorem execLowHalfRead_roles {s0 : State} (r : Requester) (off : Nat) (s : State) (hk : Roles s0 s) : RolesO s0 (execLowHalfRead r off s) := by
  unfold execLowHalfRead
  repeat (first | with_reducible assumption | with_reducible apply RolesO.next | with_reducible apply RolesO.ite | with_reducible apply readReg_roles | intro _ | with_reducible apply Roles.ite | simp only [Roles.upd] | dsimp only | split)

theorem execHighHalfRead_roles {s0 : State} (r : Requester) (off : Nat) (s : State) (hk : Roles s0 s) : RolesO s0 (execHighHalfRead r off s) := by
  unfold execHighHalfRead
  repeat (first | with_reducible assumption | with_reducible apply RolesO.next | with_reducible apply RolesO.ite | with_reducible apply readReg_roles | intro _ | with_reducible apply Roles.ite | simp only [Roles.upd] | dsimp only | split)

theorem snapWriter_roles {s0 t : State} {v : Bool} {r : Requester} {s : State} (e : snapWriter r s = (v, t)) (hk : Roles s0 s) : Roles s0 t := by
  unfold snapWriter at e
  (try dsimp only at e)
  repeat' split at e
  all_goals (try cases e)
  all_goals repeat (first | with_reducible assumption | with_reducible refine hostPart_roles (by with_reducible assumption) ?_ | with_reducible apply hostPart_snd_roles | intro _ | with_reducible apply Roles.ite | with_reducible apply Roles.iteSnd | with_reducible apply Roles.iteFst | simp only [Roles.upd] | dsimp only | split)

theorem snapWriter_snd_roles {s0 : State} (r : Requester) (s : State) (hk : Roles s0 s) : Roles s0 (snapWriter r s).2 :=
  snapWriter_roles (Prod.eta _).symm hk

theorem writeSnap_roles {s0 : State} (r : Requester) (v : Nat) (s : State) (hk : Roles s0 s) : Roles s0 (writeSnap r v s) := by
  unfold writeSnap
  repeat (first | with_reducible assumption | with_reducible refine snapWriter_roles (by with_reducible assumption) ?_ | with_reducible apply snapWriter_snd_roles | intro _ | with_reducible apply Roles.ite | with_reducible apply Roles.iteSnd | with_reducible apply Roles.iteFst | simp only [Roles.upd] | dsimp only | split)

theorem execCntSnapTake_roles {s0 : State} (r : Requester) (v : Nat) (s : State) (hk : Roles s0 s) : RolesO s0 (execCntSnapTake r v s) := by
  unfold execCntSnapTake
  repeat (first | with_reducible assumption | with_reducible apply RolesO.next | with_reducible apply RolesO.ite | with_reducible apply writeSnap_roles | intro _ | with_reducible apply Roles.ite | simp only [Roles.upd] | dsimp only | split)

theorem execCntSnapRelease_roles {s0 : State} (r : Requester) (v : Nat) (s : State) (hk : Roles s0 s) : RolesO s0 (execCntSnapRelease r v s) := by
  unfold execCntSnapRelease
  repeat (first | with_reducible assumption | with_reducible apply RolesO.next | with_reducible apply RolesO.ite | with_reducible apply writeSnap_roles | intro _ | with_reducible apply Roles.ite | simp only [Roles.upd] | dsimp only | split)

theorem writeMsix_roles {s0 : State} (k : PortId) (o v : Nat) (s : State) (hk : Roles s0 s) : Roles s0 (writeMsix k o v s) := by
  unfold writeMsix
  repeat (first | with_reducible assumption | with_reducible apply updPort_roles | with_reducible apply msixFlush_roles | intro _ | with_reducible apply Roles.ite | simp only [Roles.upd] | dsimp only | split)

theorem writePart_roles {s0 : State} (p : PartId) (off v : Nat) (s : State) (hk : Roles s0 s) : Roles s0 (writePart p off v s) := by
  unfold writePart
  repeat (first | with_reducible assumption | with_reducible apply updStream_roles | with_reducible apply updPart_roles | with_reducible apply setRegPart_roles | intro _ | with_reducible apply Roles.ite | simp only [Roles.upd] | dsimp only | split)

theorem writeHostWord_roles {s0 : State} (k : PortId) (off v : Nat) (s : State) (hk : Roles s0 s) : Roles s0 (writeHostWord k off v s) := by
  unfold writeHostWord
  repeat (first | with_reducible assumption | with_reducible apply updPort_roles | with_reducible apply writeMsix_roles | with_reducible apply writePart_roles | intro _ | with_reducible apply Roles.ite | simp only [Roles.upd] | dsimp only | split)

theorem writeWindow_roles {s0 : State} (off : Nat) (b : Bytes) (s : State) (hk : Roles s0 s) : Roles s0 (writeWindow off b s) := by
  unfold writeWindow
  repeat (first | with_reducible assumption | with_reducible apply hbmWrite_roles | intro _ | with_reducible apply Roles.ite | simp only [Roles.upd] | dsimp only | split)

theorem eachWord_roles {s0 : State} (off len v : Nat) (f : Nat → Nat → State → State) (s : State) (hf : ∀ x0 x1 x2, Roles s0 x2 → Roles s0 (f x0 x1 x2)) (hk : Roles s0 s) : Roles s0 (eachWord off len v f s) := by
  unfold eachWord
  repeat (first | with_reducible apply hf | with_reducible assumption | with_reducible apply eachOf_roles | intro _ | with_reducible apply Roles.ite | simp only [Roles.upd] | dsimp only | split)

theorem setConfig_roles {s0 : State} (k : PortId) (a : RegAddr) (v : Nat) (s : State) (hk : Roles s0 s) : Roles s0 (setConfig k a v s) := by
  unfold setConfig
  repeat (first | with_reducible assumption | with_reducible apply updPort_roles | with_reducible apply msixFlush_roles | with_reducible apply aerUnexpected_roles | with_reducible apply aerPoisoned_roles | intro _ | with_reducible apply Roles.ite | simp only [Roles.upd] | dsimp only | split)

theorem writeBar0_roles {s0 : State} (k : PortId) (bare : Bool) (off len v : Nat) (ep : Bool) (s : State) (hk : Roles s0 s) : Roles s0 (writeBar0 k bare off len v ep s) := by
  unfold writeBar0
  repeat (first | with_reducible assumption | with_reducible refine hostMem_roles (by with_reducible assumption) ?_ | with_reducible apply hostMem_snd_roles | with_reducible apply poisonedWrite_roles | with_reducible apply eachWord_roles | with_reducible apply writeHostWord_roles | intro _ | with_reducible apply Roles.ite | with_reducible apply Roles.iteSnd | with_reducible apply Roles.iteFst | simp only [Roles.upd] | dsimp only | split)

theorem execDbgTraceCtlWrite_roles {s0 : State} (r : Requester) (v : Nat) (s : State) (hk : Roles s0 s) : RolesO s0 (execDbgTraceCtlWrite r v s) := by
  unfold execDbgTraceCtlWrite
  repeat (first | with_reducible assumption | with_reducible apply RolesO.next | with_reducible apply RolesO.ite | with_reducible refine hostPart_roles (by with_reducible assumption) ?_ | with_reducible apply hostPart_snd_roles | with_reducible apply updPart_roles | intro _ | with_reducible apply Roles.ite | with_reducible apply Roles.iteSnd | with_reducible apply Roles.iteFst | simp only [Roles.upd] | dsimp only | split)

theorem execTraceRecordDrain_roles {s0 : State} (p : PartId) (s : State) (hk : Roles s0 s) : RolesO s0 (execTraceRecordDrain p s) := by
  unfold execTraceRecordDrain
  repeat (first | with_reducible assumption | with_reducible apply RolesO.next | with_reducible apply RolesO.ite | with_reducible apply settleMerge_roles | with_reducible apply traceDrain_roles | with_reducible apply hbmGo_roles | with_reducible apply hbmHold_roles | intro _ | with_reducible apply Roles.ite | simp only [Roles.upd] | dsimp only | split)

theorem execDbgTraceRdWrite_roles {s0 : State} (r : Requester) (v : Nat) (s : State) (hk : Roles s0 s) : RolesO s0 (execDbgTraceRdWrite r v s) := by
  unfold execDbgTraceRdWrite
  repeat (first | with_reducible assumption | with_reducible apply RolesO.next | with_reducible apply RolesO.ite | with_reducible refine hostPart_roles (by with_reducible assumption) ?_ | with_reducible apply hostPart_snd_roles | with_reducible apply updPart_roles | intro _ | with_reducible apply Roles.ite | with_reducible apply Roles.iteSnd | with_reducible apply Roles.iteFst | simp only [Roles.upd] | dsimp only | split)

theorem execDbgMark_roles {s0 : State} (r : Requester) (v : Nat) (s : State) (hk : Roles s0 s) : RolesO s0 (execDbgMark r v s) := by
  unfold execDbgMark
  repeat (first | with_reducible assumption | with_reducible apply RolesO.next | with_reducible apply RolesO.ite | with_reducible refine hostPart_roles (by with_reducible assumption) ?_ | with_reducible apply hostPart_snd_roles | with_reducible apply traceGen_roles | intro _ | with_reducible apply Roles.ite | with_reducible apply Roles.iteSnd | with_reducible apply Roles.iteFst | simp only [Roles.upd] | dsimp only | split)

theorem execMgtEventHeadWrite_roles {s0 : State} (r : Requester) (v : Nat) (s : State) (hk : Roles s0 s) : RolesO s0 (execMgtEventHeadWrite r v s) := by
  unfold execMgtEventHeadWrite
  repeat (first | with_reducible assumption | with_reducible apply RolesO.next | with_reducible apply RolesO.ite | intro _ | with_reducible apply Roles.ite | simp only [Roles.upd] | dsimp only | split)

theorem sendMctp_roles {s0 : State} (bd : MctpBinding) (type : Nat) (b : Bytes) (s : State) (hk : Roles s0 s) : Roles s0 (sendMctp bd type b s) := by
  unfold sendMctp
  repeat (first | with_reducible assumption | with_reducible apply emit_roles | intro _ | with_reducible apply Roles.ite | simp only [Roles.upd] | dsimp only | split)

theorem vendorReply_roles {s0 : State} (bd : MctpBinding) (cmd status : Nat) (b : Bytes) (s : State) (hk : Roles s0 s) : Roles s0 (vendorReply bd cmd status b s) := by
  unfold vendorReply
  repeat (first | with_reducible assumption | with_reducible apply sendMctp_roles | intro _ | with_reducible apply Roles.ite | simp only [Roles.upd] | dsimp only | split)

theorem serveMctp_roles {s0 : State} (bd : MctpBinding) (f : State → State) (s : State) (hf : ∀ x0, Roles s0 x0 → Roles s0 (f x0)) (hk : Roles s0 s) : RolesO s0 (serveMctp bd f s) := by
  unfold serveMctp
  repeat (first | with_reducible apply hf | with_reducible assumption | with_reducible apply RolesO.next | with_reducible apply RolesO.ite | intro _ | with_reducible apply Roles.ite | simp only [Roles.upd] | dsimp only | split)

theorem execSetEndpointId_roles {s0 : State} (bd : MctpBinding) (op eid : Nat) (s : State) (hk : Roles s0 s) : RolesO s0 (execSetEndpointId bd op eid s) := by
  unfold execSetEndpointId
  repeat (first | with_reducible assumption | with_reducible apply RolesO.next | with_reducible apply RolesO.ite | with_reducible apply serveMctp_roles | with_reducible apply sendMctp_roles | intro _ | with_reducible apply Roles.ite | simp only [Roles.upd] | dsimp only | split)

theorem execSmbusTimeout_roles {s0 : State} (s : State) (hk : Roles s0 s) : RolesO s0 (execSmbusTimeout s) := by
  unfold execSmbusTimeout
  repeat (first | with_reducible assumption | with_reducible apply RolesO.next | with_reducible apply RolesO.ite | with_reducible apply emit_roles | with_reducible apply cntDev_roles | intro _ | with_reducible apply Roles.ite | simp only [Roles.upd] | dsimp only | split)

theorem execSmbusArbitrationRetry_roles {s0 : State} (s : State) (hk : Roles s0 s) : RolesO s0 (execSmbusArbitrationRetry s) := by
  unfold execSmbusArbitrationRetry
  repeat (first | with_reducible assumption | with_reducible apply RolesO.next | with_reducible apply RolesO.ite | with_reducible apply emit_roles | intro _ | with_reducible apply Roles.ite | simp only [Roles.upd] | dsimp only | split)

theorem execTripLatchRead_roles {s0 : State} (s : State) (hk : Roles s0 s) : RolesO s0 (execTripLatchRead s) := by
  unfold execTripLatchRead
  repeat (first | with_reducible assumption | with_reducible apply RolesO.next | with_reducible apply RolesO.ite | with_reducible apply emit_roles | intro _ | with_reducible apply Roles.ite | simp only [Roles.upd] | dsimp only | split)

theorem execRead32_roles {s0 : State} (bd : MctpBinding) (addr count : Nat) (s : State) (hk : Roles s0 s) : RolesO s0 (execRead32 bd addr count s) := by
  unfold execRead32
  repeat (first | with_reducible assumption | with_reducible apply RolesO.next | with_reducible apply RolesO.ite | with_reducible apply serveMctp_roles | with_reducible apply vendorReply_roles | intro _ | with_reducible apply Roles.ite | simp only [Roles.upd] | dsimp only | split)

theorem execLogRead_roles {s0 : State} (bd : MctpBinding) (sector off len : Nat) (s : State) (hk : Roles s0 s) : RolesO s0 (execLogRead bd sector off len s) := by
  unfold execLogRead
  repeat (first | with_reducible assumption | with_reducible apply RolesO.next | with_reducible apply RolesO.ite | with_reducible apply serveMctp_roles | with_reducible apply vendorReply_roles | intro _ | with_reducible apply Roles.ite | simp only [Roles.upd] | dsimp only | split)

theorem execPolicyMessage_roles {s0 : State} (bd : MctpBinding) (cmd : Nat) (body : Bytes) (s : State) (hk : Roles s0 s) : RolesO s0 (execPolicyMessage bd cmd body s) := by
  unfold execPolicyMessage
  repeat (first | with_reducible assumption | with_reducible apply RolesO.next | with_reducible apply RolesO.ite | with_reducible apply serveMctp_roles | with_reducible apply vendorReply_roles | with_reducible apply mgtEvent_roles | intro _ | with_reducible apply Roles.ite | simp only [Roles.upd] | dsimp only | split)

theorem execMgtMsgCtlSend_roles {s0 : State} (r : Requester) (v : Nat) (s : State) (hk : Roles s0 s) : RolesO s0 (execMgtMsgCtlSend r v s) := by
  unfold execMgtMsgCtlSend
  repeat (first | with_reducible assumption | with_reducible apply RolesO.next | with_reducible apply RolesO.ite | with_reducible apply vendorReply_roles | intro _ | with_reducible apply Roles.ite | simp only [Roles.upd] | dsimp only | split)

theorem execPolicyMessageTimeout_roles {s0 : State} (s : State) (hk : Roles s0 s) : RolesO s0 (execPolicyMessageTimeout s) := by
  unfold execPolicyMessageTimeout
  repeat (first | with_reducible assumption | with_reducible apply RolesO.next | with_reducible apply RolesO.ite | with_reducible apply vendorReply_roles | intro _ | with_reducible apply Roles.ite | simp only [Roles.upd] | dsimp only | split)

theorem execSetEventReceiver_roles {s0 : State} (bd : MctpBinding) (enable : Nat) (s : State) (hk : Roles s0 s) : RolesO s0 (execSetEventReceiver bd enable s) := by
  unfold execSetEventReceiver
  repeat (first | with_reducible assumption | with_reducible apply RolesO.next | with_reducible apply RolesO.ite | with_reducible apply serveMctp_roles | with_reducible apply sendMctp_roles | with_reducible apply Roles.foldl | intro _ | with_reducible apply Roles.ite | simp only [Roles.upd] | dsimp only | split)

theorem execGetSensorReading_roles {s0 : State} (bd : MctpBinding) (sensor : Nat) (s : State) (hk : Roles s0 s) : RolesO s0 (execGetSensorReading bd sensor s) := by
  unfold execGetSensorReading
  repeat (first | with_reducible assumption | with_reducible apply RolesO.next | with_reducible apply RolesO.ite | with_reducible apply serveMctp_roles | with_reducible apply sendMctp_roles | intro _ | with_reducible apply Roles.ite | simp only [Roles.upd] | dsimp only | split)

theorem execSensorEventTimer_roles {s0 : State} (sensor : Nat) (s : State) (hk : Roles s0 s) : RolesO s0 (execSensorEventTimer sensor s) := by
  unfold execSensorEventTimer
  repeat (first | with_reducible assumption | with_reducible apply RolesO.next | with_reducible apply RolesO.ite | with_reducible apply sendMctp_roles | intro _ | with_reducible apply Roles.ite | simp only [Roles.upd] | dsimp only | split)

theorem updUpdate_roles {s0 : State} (f : PldmUpdate → PldmUpdate) (s : State) (hk : Roles s0 s) : Roles s0 (updUpdate f s) := by
  unfold updUpdate
  repeat (first | with_reducible assumption | intro _ | with_reducible apply Roles.ite | simp only [Roles.upd] | dsimp only | split)

theorem pldmReply_roles {s0 : State} (bd : MctpBinding) (cmd code : Nat) (b : Bytes) (s : State) (hk : Roles s0 s) : Roles s0 (pldmReply bd cmd code b s) := by
  unfold pldmReply
  repeat (first | with_reducible assumption | with_reducible apply sendMctp_roles | intro _ | with_reducible apply Roles.ite | simp only [Roles.upd] | dsimp only | split)

theorem requestData_roles {s0 : State} (off n : Nat) (s : State) (hk : Roles s0 s) : Roles s0 (requestData off n s) := by
  unfold requestData
  repeat (first | with_reducible assumption | with_reducible apply sendMctp_roles | intro _ | with_reducible apply Roles.ite | simp only [Roles.upd] | dsimp only | split)

theorem requestNext_roles {s0 : State} (s : State) (hk : Roles s0 s) : Roles s0 (requestNext s) := by
  unfold requestNext
  repeat (first | with_reducible assumption | with_reducible apply requestData_roles | intro _ | with_reducible apply Roles.ite | simp only [Roles.upd] | dsimp only | split)

theorem stopUpdate_roles {s0 : State} (s : State) (hk : Roles s0 s) : Roles s0 (stopUpdate s) := by
  unfold stopUpdate
  repeat (first | with_reducible assumption | with_reducible apply updUpdate_roles | intro _ | with_reducible apply Roles.ite | simp only [Roles.upd] | dsimp only | split)

theorem execRequestUpdate_roles {s0 : State} (bd : MctpBinding) (_maxSize _count : Nat) (s : State) (hk : Roles s0 s) : RolesO s0 (execRequestUpdate bd _maxSize _count s) := by
  unfold execRequestUpdate
  repeat (first | with_reducible assumption | with_reducible apply RolesO.next | with_reducible apply RolesO.ite | with_reducible apply serveMctp_roles | with_reducible apply pldmReply_roles | with_reducible apply requestData_roles | with_reducible apply updUpdate_roles | intro _ | with_reducible apply Roles.ite | simp only [Roles.upd] | dsimp only | split)

theorem execPassComponentTable_roles {s0 : State} (bd : MctpBinding) (cls ident stamp : Nat) (s : State) (hk : Roles s0 s) : RolesO s0 (execPassComponentTable bd cls ident stamp s) := by
  unfold execPassComponentTable
  repeat (first | with_reducible assumption | with_reducible apply RolesO.next | with_reducible apply RolesO.ite | with_reducible apply serveMctp_roles | with_reducible apply pldmReply_roles | with_reducible apply updUpdate_roles | with_reducible apply stopUpdate_roles | intro _ | with_reducible apply Roles.ite | simp only [Roles.upd] | dsimp only | split)

theorem startErase_roles {s0 : State} (bd : MctpBinding) (cls ident : Nat) (s : State) (hk : Roles s0 s) : Roles s0 (startErase bd cls ident s) := by
  unfold startErase
  repeat (first | with_reducible assumption | with_reducible apply pldmReply_roles | with_reducible apply updUpdate_roles | with_reducible apply stopUpdate_roles | intro _ | with_reducible apply Roles.ite | simp only [Roles.upd] | dsimp only | split)

theorem execUpdateComponent_roles {s0 : State} (bd : MctpBinding) (cls ident _size : Nat) (s : State) (hk : Roles s0 s) : RolesO s0 (execUpdateComponent bd cls ident _size s) := by
  unfold execUpdateComponent
  repeat (first | with_reducible assumption | with_reducible apply RolesO.next | with_reducible apply RolesO.ite | with_reducible apply serveMctp_roles | with_reducible apply pldmReply_roles | with_reducible apply startErase_roles | with_reducible apply updUpdate_roles | intro _ | with_reducible apply Roles.ite | simp only [Roles.upd] | dsimp only | split)

theorem execBankEraseDone_roles {s0 : State} (s : State) (hk : Roles s0 s) : RolesO s0 (execBankEraseDone s) := by
  unfold execBankEraseDone
  repeat (first | with_reducible assumption | with_reducible apply RolesO.next | with_reducible apply RolesO.ite | with_reducible apply stopUpdate_roles | with_reducible apply requestNext_roles | with_reducible apply updUpdate_roles | intro _ | with_reducible apply Roles.ite | simp only [Roles.upd] | dsimp only | split)

theorem execFirmwareDataReceive_roles {s0 : State} (bd : MctpBinding) (off : Nat) (data : Bytes) (s : State) (hk : Roles s0 s) : RolesO s0 (execFirmwareDataReceive bd off data s) := by
  unfold execFirmwareDataReceive
  repeat (first | with_reducible assumption | with_reducible apply RolesO.next | with_reducible apply RolesO.ite | with_reducible apply serveMctp_roles | with_reducible apply updUpdate_roles | with_reducible apply startErase_roles | with_reducible apply requestNext_roles | intro _ | with_reducible apply Roles.ite | simp only [Roles.upd] | dsimp only | split)

theorem execFirmwareDataRetry_roles {s0 : State} (s : State) (hk : Roles s0 s) : RolesO s0 (execFirmwareDataRetry s) := by
  unfold execFirmwareDataRetry
  repeat (first | with_reducible assumption | with_reducible apply RolesO.next | with_reducible apply RolesO.ite | with_reducible apply requestData_roles | with_reducible apply requestNext_roles | intro _ | with_reducible apply Roles.ite | simp only [Roles.upd] | dsimp only | split)

theorem execTransferComplete_roles {s0 : State} (s : State) (hk : Roles s0 s) : RolesO s0 (execTransferComplete s) := by
  unfold execTransferComplete
  repeat (first | with_reducible assumption | with_reducible apply RolesO.next | with_reducible apply RolesO.ite | with_reducible apply sendMctp_roles | with_reducible apply updUpdate_roles | intro _ | with_reducible apply Roles.ite | simp only [Roles.upd] | dsimp only | split)

theorem execVerifyComplete_roles {s0 : State} (s : State) (hk : Roles s0 s) : RolesO s0 (execVerifyComplete s) := by
  unfold execVerifyComplete
  repeat (first | with_reducible assumption | with_reducible apply RolesO.next | with_reducible apply RolesO.ite | with_reducible apply sendMctp_roles | with_reducible apply updUpdate_roles | with_reducible apply stopUpdate_roles | intro _ | with_reducible apply Roles.ite | simp only [Roles.upd] | dsimp only | split)

theorem execApplyComplete_roles {s0 : State} (s : State) (hk : Roles s0 s) : RolesO s0 (execApplyComplete s) := by
  unfold execApplyComplete
  repeat (first | with_reducible assumption | with_reducible apply RolesO.next | with_reducible apply RolesO.ite | with_reducible apply secLog_roles | with_reducible apply sendMctp_roles | with_reducible apply updUpdate_roles | intro _ | with_reducible apply Roles.ite | simp only [Roles.upd] | dsimp only | split)

theorem execCancelUpdate_roles {s0 : State} (bd : MctpBinding) (s : State) (hk : Roles s0 s) : RolesO s0 (execCancelUpdate bd s) := by
  unfold execCancelUpdate
  repeat (first | with_reducible assumption | with_reducible apply RolesO.next | with_reducible apply RolesO.ite | with_reducible apply serveMctp_roles | with_reducible apply pldmReply_roles | with_reducible apply stopUpdate_roles | intro _ | with_reducible apply Roles.ite | simp only [Roles.upd] | dsimp only | split)

theorem execActivateFirmware_roles {s0 : State} (bd : MctpBinding) (s : State) (hk : Roles s0 s) : RolesO s0 (execActivateFirmware bd s) := by
  unfold execActivateFirmware
  repeat (first | with_reducible assumption | with_reducible apply RolesO.next | with_reducible apply RolesO.ite | with_reducible apply serveMctp_roles | with_reducible apply updUpdate_roles | with_reducible apply pldmReply_roles | intro _ | with_reducible apply Roles.ite | simp only [Roles.upd] | dsimp only | split)

theorem fullSnapshots_roles {s0 : State} (s : State) (hk : Roles s0 s) : Roles s0 (fullSnapshots s) := by
  unfold fullSnapshots
  repeat (first | with_reducible assumption | with_reducible apply eachOf_roles | with_reducible apply sendSnapshot_roles | intro _ | with_reducible apply Roles.ite | simp only [Roles.upd] | dsimp only | split)

theorem uncoverAll_roles {s0 : State} (s : State) (hk : Roles s0 s) : Roles s0 (uncoverAll s) := by
  unfold uncoverAll
  repeat (first | with_reducible assumption | with_reducible apply eachOf_roles | with_reducible apply uncover_roles | intro _ | with_reducible apply Roles.ite | simp only [Roles.upd] | dsimp only | split)

theorem execPairHelloSend_roles {s0 : State} (s : State) (hk : Roles s0 s) : RolesO s0 (execPairHelloSend s) := by
  unfold execPairHelloSend
  repeat (first | with_reducible assumption | with_reducible apply RolesO.next | with_reducible apply RolesO.ite | with_reducible apply pairHello_roles | intro _ | with_reducible apply Roles.ite | simp only [Roles.upd] | dsimp only | split)

theorem ackSnapshot_roles {s0 : State} (p : PartId) (epoch flags : Nat) (s : State) (hk : Roles s0 s) : Roles s0 (ackSnapshot p epoch flags s) := by
  unfold ackSnapshot
  repeat (first | with_reducible assumption | with_reducible apply sendPair_roles | intro _ | with_reducible apply Roles.ite | simp only [Roles.upd] | dsimp only | split)

theorem refuseSnapshot_roles {s0 : State} (p : PartId) (s : State) (hk : Roles s0 s) : Roles s0 (refuseSnapshot p s) := by
  unfold refuseSnapshot
  repeat (first | with_reducible assumption | with_reducible apply ackSnapshot_roles | with_reducible apply tornSnapshot_roles | intro _ | with_reducible apply Roles.ite | simp only [Roles.upd] | dsimp only | split)

theorem judgeSnapshot_roles {s0 : State} (p : PartId) (s : State) (hk : Roles s0 s) : Roles s0 (judgeSnapshot p s) := by
  unfold judgeSnapshot
  repeat (first | with_reducible assumption | with_reducible apply refuseSnapshot_roles | with_reducible apply ackSnapshot_roles | with_reducible apply updSb_roles | with_reducible apply Roles.foldl | intro _ | with_reducible apply Roles.ite | with_reducible apply Roles.iteSnd | with_reducible apply Roles.iteFst | simp only [Roles.upd] | dsimp only | split)

theorem execHeartbeatSnapshot_roles {s0 : State} (p : PartId) (s : State) (hk : Roles s0 s) : RolesO s0 (execHeartbeatSnapshot p s) := by
  unfold execHeartbeatSnapshot
  repeat (first | with_reducible assumption | with_reducible apply RolesO.next | with_reducible apply RolesO.ite | with_reducible apply sendSnapshot_roles | intro _ | with_reducible apply Roles.ite | simp only [Roles.upd] | dsimp only | split)

theorem sendOverTether_roles {s0 : State} (pl : PlaneId) (d : DevId) (h : PairHead) (s : State) (hk : Roles s0 s) : Roles s0 (sendOverTether pl d h s) := by
  unfold sendOverTether
  repeat (first | with_reducible assumption | with_reducible refine sendTether_roles (by with_reducible assumption) ?_ | with_reducible apply emit_roles | intro _ | with_reducible apply Roles.ite | simp only [Roles.upd] | dsimp only | split)

theorem execPairProbeReceive_roles {s0 : State} (pl : PlaneId) (msg : Bytes) (s : State) (hk : Roles s0 s) : RolesO s0 (execPairProbeReceive pl msg s) := by
  unfold execPairProbeReceive
  repeat (first | with_reducible assumption | with_reducible apply RolesO.next | with_reducible apply RolesO.ite | with_reducible apply sendOverTether_roles | intro _ | with_reducible apply Roles.ite | simp only [Roles.upd] | dsimp only | split)

theorem execWitnessQReceive_roles {s0 : State} (pl : PlaneId) (src : DevId) (msg : Bytes) (s : State) (hk : Roles s0 s) : RolesO s0 (execWitnessQReceive pl src msg s) := by
  unfold execWitnessQReceive
  repeat (first | with_reducible assumption | with_reducible apply RolesO.next | with_reducible apply RolesO.ite | with_reducible apply sendOverTether_roles | intro _ | with_reducible apply Roles.ite | simp only [Roles.upd] | dsimp only | split)

theorem seqRun_roles {s0 : State} (p : PartId) (op : Nat) (body : Bytes → State → State) (s : State) (hf : ∀ d t, Roles s0 t → Roles s0 (body d t)) (hk : Roles s0 s) : RolesO s0 (seqRun p op [] body s) := by
  unfold seqRun
  refine runCmd_roles _ _ _ _ _ (fun d t h => ?_) hk
  dsimp only [List.foldl]
  split
  · exact hf _ _ (seqBusy_roles _ _ h)
  · exact h

theorem execSeqExpert_roles {s0 : State} (p : PartId) (s : State) (hk : Roles s0 s) : RolesO s0 (execSeqExpert p [] s) := by
  unfold execSeqExpert
  with_reducible apply RolesO.ite
  · exact .next hk
  · exact seqRun_roles _ _ _ _ (fun d t h => seqExpert_roles p _ d t h) hk

theorem passEcc_roles {s0 : State} (p : PartId) (x : Pass) (s : State) (hk : Roles s0 s) : Roles s0 (passEcc p x [] s) := by
  have e : s0.sramErr = [] → passEcc p x [] s = s := fun n => by
    have h := hk.sram n
    unfold passEcc
    simp [h]
    rw [← h]
  constructor <;> intro n <;> rw [e n]
  · exact hk.sram n
  all_goals first | exact hk.clusters n | exact hk.pair n | exact hk.dual n | exact hk.bist n | exact hk.mp n

theorem execPassEnd_roles {s0 : State} (p : PartId) (s : State) (hk : Roles s0 s) : RolesO s0 (execPassEnd p [] s) := by
  unfold execPassEnd
  split
  · exact .next hk
  · with_reducible apply RolesO.ite
    · exact .next hk
    · with_reducible apply RolesO.ite
      · exact .next (hbmHold_roles _ _ _ hk)
      · exact .next (drainPart_roles _ _ (passEnd_roles _ _ (passEcc_roles _ _ _ (hbmGo_roles _ _ _ hk))))

end Sys2Proof.Laws
end

