-- ==== Sys2Proof/Laws/State.lean ====
section
/-!
SUPPORT. State.lean: what each update of the state leaves alone, field by field, and what the part it writes reads as.
-/
namespace Sys2Proof.Laws
open Sys2Proof Sys2Proof.Machine

@[simp] theorem updPart_boot (s : State) (p : PartId) (f : Part → Part) : (updPart s p f).boot = s.boot := rfl
@[simp] theorem updPart_pins (s : State) (p : PartId) (f : Part → Part) : (updPart s p f).pins = s.pins := rfl
@[simp] theorem updPart_fuses (s : State) (p : PartId) (f : Part → Part) : (updPart s p f).fuses = s.fuses := rfl
@[simp] theorem updPart_flash (s : State) (p : PartId) (f : Part → Part) : (updPart s p f).flash = s.flash := rfl
@[simp] theorem updPart_cfg (s : State) (p : PartId) (f : Part → Part) : (updPart s p f).cfg = s.cfg := rfl
@[simp] theorem updPart_img (s : State) (p : PartId) (f : Part → Part) : (updPart s p f).img = s.img := rfl
@[simp] theorem updPart_time (s : State) (p : PartId) (f : Part → Part) : (updPart s p f).time = s.time := rfl
@[simp] theorem updPart_commit (s : State) (p : PartId) (f : Part → Part) : (updPart s p f).commit = s.commit := rfl
@[simp] theorem updPart_ports (s : State) (p : PartId) (f : Part → Part) : (updPart s p f).ports = s.ports := rfl
@[simp] theorem updPart_syc (s : State) (p : PartId) (f : Part → Part) : (updPart s p f).syc = s.syc := rfl
@[simp] theorem updPart_hbm (s : State) (p : PartId) (f : Part → Part) : (updPart s p f).hbm = s.hbm := rfl
@[simp] theorem updPart_hbmPoison (s : State) (p : PartId) (f : Part → Part) : (updPart s p f).hbmPoison = s.hbmPoison := rfl
@[simp] theorem updPart_hbmErr (s : State) (p : PartId) (f : Part → Part) : (updPart s p f).hbmErr = s.hbmErr := rfl
@[simp] theorem updPart_sramErr (s : State) (p : PartId) (f : Part → Part) : (updPart s p f).sramErr = s.sramErr := rfl
@[simp] theorem updPart_links (s : State) (p : PartId) (f : Part → Part) : (updPart s p f).links = s.links := rfl
@[simp] theorem updPart_bridle (s : State) (p : PartId) (f : Part → Part) : (updPart s p f).bridle = s.bridle := rfl
@[simp] theorem updPart_planes (s : State) (p : PartId) (f : Part → Part) : (updPart s p f).planes = s.planes := rfl
@[simp] theorem updPart_tether (s : State) (p : PartId) (f : Part → Part) : (updPart s p f).tether = s.tether := rfl
@[simp] theorem updPart_net (s : State) (p : PartId) (f : Part → Part) : (updPart s p f).net = s.net := rfl
@[simp] theorem updPart_col (s : State) (p : PartId) (f : Part → Part) : (updPart s p f).col = s.col := rfl
@[simp] theorem updPart_clusters (s : State) (p : PartId) (f : Part → Part) : (updPart s p f).clusters = s.clusters := rfl
@[simp] theorem updPart_power (s : State) (p : PartId) (f : Part → Part) : (updPart s p f).power = s.power := rfl
@[simp] theorem updPart_pair (s : State) (p : PartId) (f : Part → Part) : (updPart s p f).pair = s.pair := rfl
@[simp] theorem updPart_dual (s : State) (p : PartId) (f : Part → Part) : (updPart s p f).dual = s.dual := rfl
@[simp] theorem updPart_sec (s : State) (p : PartId) (f : Part → Part) : (updPart s p f).sec = s.sec := rfl
@[simp] theorem updPart_bist (s : State) (p : PartId) (f : Part → Part) : (updPart s p f).bist = s.bist := rfl
@[simp] theorem updPart_mgt (s : State) (p : PartId) (f : Part → Part) : (updPart s p f).mgt = s.mgt := rfl
@[simp] theorem updPart_mp (s : State) (p : PartId) (f : Part → Part) : (updPart s p f).mp = s.mp := rfl
@[simp] theorem updPart_mgtRing (s : State) (p : PartId) (f : Part → Part) : (updPart s p f).mgtRing = s.mgtRing := rfl
@[simp] theorem updPart_errSelect (s : State) (p : PartId) (f : Part → Part) : (updPart s p f).errSelect = s.errSelect := rfl
@[simp] theorem updPart_regs (s : State) (p : PartId) (f : Part → Part) : (updPart s p f).regs = s.regs := rfl
@[simp] theorem updPart_latches (s : State) (p : PartId) (f : Part → Part) : (updPart s p f).latches = s.latches := rfl
@[simp] theorem updPart_snaps (s : State) (p : PartId) (f : Part → Part) : (updPart s p f).snaps = s.snaps := rfl
@[simp] theorem updPart_free (s : State) (p : PartId) (f : Part → Part) : (updPart s p f).free = s.free := rfl
@[simp] theorem updPart_out (s : State) (p : PartId) (f : Part → Part) : (updPart s p f).out = s.out := rfl
@[simp] theorem updPart_pending (s : State) (p : PartId) (f : Part → Part) : (updPart s p f).pending = s.pending := rfl

@[simp] theorem updPort_boot (s : State) (k : PortId) (f : Port → Port) : (updPort s k f).boot = s.boot := rfl
@[simp] theorem updPort_pins (s : State) (k : PortId) (f : Port → Port) : (updPort s k f).pins = s.pins := rfl
@[simp] theorem updPort_fuses (s : State) (k : PortId) (f : Port → Port) : (updPort s k f).fuses = s.fuses := rfl
@[simp] theorem updPort_flash (s : State) (k : PortId) (f : Port → Port) : (updPort s k f).flash = s.flash := rfl
@[simp] theorem updPort_cfg (s : State) (k : PortId) (f : Port → Port) : (updPort s k f).cfg = s.cfg := rfl
@[simp] theorem updPort_img (s : State) (k : PortId) (f : Port → Port) : (updPort s k f).img = s.img := rfl
@[simp] theorem updPort_time (s : State) (k : PortId) (f : Port → Port) : (updPort s k f).time = s.time := rfl
@[simp] theorem updPort_commit (s : State) (k : PortId) (f : Port → Port) : (updPort s k f).commit = s.commit := rfl
@[simp] theorem updPort_parts (s : State) (k : PortId) (f : Port → Port) : (updPort s k f).parts = s.parts := rfl
@[simp] theorem updPort_syc (s : State) (k : PortId) (f : Port → Port) : (updPort s k f).syc = s.syc := rfl
@[simp] theorem updPort_hbm (s : State) (k : PortId) (f : Port → Port) : (updPort s k f).hbm = s.hbm := rfl
@[simp] theorem updPort_hbmPoison (s : State) (k : PortId) (f : Port → Port) : (updPort s k f).hbmPoison = s.hbmPoison := rfl
@[simp] theorem updPort_hbmErr (s : State) (k : PortId) (f : Port → Port) : (updPort s k f).hbmErr = s.hbmErr := rfl
@[simp] theorem updPort_sramErr (s : State) (k : PortId) (f : Port → Port) : (updPort s k f).sramErr = s.sramErr := rfl
@[simp] theorem updPort_links (s : State) (k : PortId) (f : Port → Port) : (updPort s k f).links = s.links := rfl
@[simp] theorem updPort_bridle (s : State) (k : PortId) (f : Port → Port) : (updPort s k f).bridle = s.bridle := rfl
@[simp] theorem updPort_planes (s : State) (k : PortId) (f : Port → Port) : (updPort s k f).planes = s.planes := rfl
@[simp] theorem updPort_tether (s : State) (k : PortId) (f : Port → Port) : (updPort s k f).tether = s.tether := rfl
@[simp] theorem updPort_net (s : State) (k : PortId) (f : Port → Port) : (updPort s k f).net = s.net := rfl
@[simp] theorem updPort_col (s : State) (k : PortId) (f : Port → Port) : (updPort s k f).col = s.col := rfl
@[simp] theorem updPort_clusters (s : State) (k : PortId) (f : Port → Port) : (updPort s k f).clusters = s.clusters := rfl
@[simp] theorem updPort_power (s : State) (k : PortId) (f : Port → Port) : (updPort s k f).power = s.power := rfl
@[simp] theorem updPort_pair (s : State) (k : PortId) (f : Port → Port) : (updPort s k f).pair = s.pair := rfl
@[simp] theorem updPort_dual (s : State) (k : PortId) (f : Port → Port) : (updPort s k f).dual = s.dual := rfl
@[simp] theorem updPort_sec (s : State) (k : PortId) (f : Port → Port) : (updPort s k f).sec = s.sec := rfl
@[simp] theorem updPort_bist (s : State) (k : PortId) (f : Port → Port) : (updPort s k f).bist = s.bist := rfl
@[simp] theorem updPort_mgt (s : State) (k : PortId) (f : Port → Port) : (updPort s k f).mgt = s.mgt := rfl
@[simp] theorem updPort_mp (s : State) (k : PortId) (f : Port → Port) : (updPort s k f).mp = s.mp := rfl
@[simp] theorem updPort_mgtRing (s : State) (k : PortId) (f : Port → Port) : (updPort s k f).mgtRing = s.mgtRing := rfl
@[simp] theorem updPort_errSelect (s : State) (k : PortId) (f : Port → Port) : (updPort s k f).errSelect = s.errSelect := rfl
@[simp] theorem updPort_regs (s : State) (k : PortId) (f : Port → Port) : (updPort s k f).regs = s.regs := rfl
@[simp] theorem updPort_latches (s : State) (k : PortId) (f : Port → Port) : (updPort s k f).latches = s.latches := rfl
@[simp] theorem updPort_snaps (s : State) (k : PortId) (f : Port → Port) : (updPort s k f).snaps = s.snaps := rfl
@[simp] theorem updPort_free (s : State) (k : PortId) (f : Port → Port) : (updPort s k f).free = s.free := rfl
@[simp] theorem updPort_out (s : State) (k : PortId) (f : Port → Port) : (updPort s k f).out = s.out := rfl
@[simp] theorem updPort_pending (s : State) (k : PortId) (f : Port → Port) : (updPort s k f).pending = s.pending := rfl

@[simp] theorem updLink_boot (s : State) (l : LinkId) (f : Link → Link) : (updLink s l f).boot = s.boot := rfl
@[simp] theorem updLink_pins (s : State) (l : LinkId) (f : Link → Link) : (updLink s l f).pins = s.pins := rfl
@[simp] theorem updLink_fuses (s : State) (l : LinkId) (f : Link → Link) : (updLink s l f).fuses = s.fuses := rfl
@[simp] theorem updLink_flash (s : State) (l : LinkId) (f : Link → Link) : (updLink s l f).flash = s.flash := rfl
@[simp] theorem updLink_cfg (s : State) (l : LinkId) (f : Link → Link) : (updLink s l f).cfg = s.cfg := rfl
@[simp] theorem updLink_img (s : State) (l : LinkId) (f : Link → Link) : (updLink s l f).img = s.img := rfl
@[simp] theorem updLink_time (s : State) (l : LinkId) (f : Link → Link) : (updLink s l f).time = s.time := rfl
@[simp] theorem updLink_commit (s : State) (l : LinkId) (f : Link → Link) : (updLink s l f).commit = s.commit := rfl
@[simp] theorem updLink_ports (s : State) (l : LinkId) (f : Link → Link) : (updLink s l f).ports = s.ports := rfl
@[simp] theorem updLink_parts (s : State) (l : LinkId) (f : Link → Link) : (updLink s l f).parts = s.parts := rfl
@[simp] theorem updLink_syc (s : State) (l : LinkId) (f : Link → Link) : (updLink s l f).syc = s.syc := rfl
@[simp] theorem updLink_hbm (s : State) (l : LinkId) (f : Link → Link) : (updLink s l f).hbm = s.hbm := rfl
@[simp] theorem updLink_hbmPoison (s : State) (l : LinkId) (f : Link → Link) : (updLink s l f).hbmPoison = s.hbmPoison := rfl
@[simp] theorem updLink_hbmErr (s : State) (l : LinkId) (f : Link → Link) : (updLink s l f).hbmErr = s.hbmErr := rfl
@[simp] theorem updLink_sramErr (s : State) (l : LinkId) (f : Link → Link) : (updLink s l f).sramErr = s.sramErr := rfl
@[simp] theorem updLink_bridle (s : State) (l : LinkId) (f : Link → Link) : (updLink s l f).bridle = s.bridle := rfl
@[simp] theorem updLink_planes (s : State) (l : LinkId) (f : Link → Link) : (updLink s l f).planes = s.planes := rfl
@[simp] theorem updLink_tether (s : State) (l : LinkId) (f : Link → Link) : (updLink s l f).tether = s.tether := rfl
@[simp] theorem updLink_net (s : State) (l : LinkId) (f : Link → Link) : (updLink s l f).net = s.net := rfl
@[simp] theorem updLink_col (s : State) (l : LinkId) (f : Link → Link) : (updLink s l f).col = s.col := rfl
@[simp] theorem updLink_clusters (s : State) (l : LinkId) (f : Link → Link) : (updLink s l f).clusters = s.clusters := rfl
@[simp] theorem updLink_power (s : State) (l : LinkId) (f : Link → Link) : (updLink s l f).power = s.power := rfl
@[simp] theorem updLink_pair (s : State) (l : LinkId) (f : Link → Link) : (updLink s l f).pair = s.pair := rfl
@[simp] theorem updLink_dual (s : State) (l : LinkId) (f : Link → Link) : (updLink s l f).dual = s.dual := rfl
@[simp] theorem updLink_sec (s : State) (l : LinkId) (f : Link → Link) : (updLink s l f).sec = s.sec := rfl
@[simp] theorem updLink_bist (s : State) (l : LinkId) (f : Link → Link) : (updLink s l f).bist = s.bist := rfl
@[simp] theorem updLink_mgt (s : State) (l : LinkId) (f : Link → Link) : (updLink s l f).mgt = s.mgt := rfl
@[simp] theorem updLink_mp (s : State) (l : LinkId) (f : Link → Link) : (updLink s l f).mp = s.mp := rfl
@[simp] theorem updLink_mgtRing (s : State) (l : LinkId) (f : Link → Link) : (updLink s l f).mgtRing = s.mgtRing := rfl
@[simp] theorem updLink_errSelect (s : State) (l : LinkId) (f : Link → Link) : (updLink s l f).errSelect = s.errSelect := rfl
@[simp] theorem updLink_regs (s : State) (l : LinkId) (f : Link → Link) : (updLink s l f).regs = s.regs := rfl
@[simp] theorem updLink_latches (s : State) (l : LinkId) (f : Link → Link) : (updLink s l f).latches = s.latches := rfl
@[simp] theorem updLink_snaps (s : State) (l : LinkId) (f : Link → Link) : (updLink s l f).snaps = s.snaps := rfl
@[simp] theorem updLink_free (s : State) (l : LinkId) (f : Link → Link) : (updLink s l f).free = s.free := rfl
@[simp] theorem updLink_out (s : State) (l : LinkId) (f : Link → Link) : (updLink s l f).out = s.out := rfl
@[simp] theorem updLink_pending (s : State) (l : LinkId) (f : Link → Link) : (updLink s l f).pending = s.pending := rfl

@[simp] theorem updPlane_boot (s : State) (p : PlaneId) (f : Plane → Plane) : (updPlane s p f).boot = s.boot := rfl
@[simp] theorem updPlane_pins (s : State) (p : PlaneId) (f : Plane → Plane) : (updPlane s p f).pins = s.pins := rfl
@[simp] theorem updPlane_fuses (s : State) (p : PlaneId) (f : Plane → Plane) : (updPlane s p f).fuses = s.fuses := rfl
@[simp] theorem updPlane_flash (s : State) (p : PlaneId) (f : Plane → Plane) : (updPlane s p f).flash = s.flash := rfl
@[simp] theorem updPlane_cfg (s : State) (p : PlaneId) (f : Plane → Plane) : (updPlane s p f).cfg = s.cfg := rfl
@[simp] theorem updPlane_img (s : State) (p : PlaneId) (f : Plane → Plane) : (updPlane s p f).img = s.img := rfl
@[simp] theorem updPlane_time (s : State) (p : PlaneId) (f : Plane → Plane) : (updPlane s p f).time = s.time := rfl
@[simp] theorem updPlane_commit (s : State) (p : PlaneId) (f : Plane → Plane) : (updPlane s p f).commit = s.commit := rfl
@[simp] theorem updPlane_ports (s : State) (p : PlaneId) (f : Plane → Plane) : (updPlane s p f).ports = s.ports := rfl
@[simp] theorem updPlane_parts (s : State) (p : PlaneId) (f : Plane → Plane) : (updPlane s p f).parts = s.parts := rfl
@[simp] theorem updPlane_syc (s : State) (p : PlaneId) (f : Plane → Plane) : (updPlane s p f).syc = s.syc := rfl
@[simp] theorem updPlane_hbm (s : State) (p : PlaneId) (f : Plane → Plane) : (updPlane s p f).hbm = s.hbm := rfl
@[simp] theorem updPlane_hbmPoison (s : State) (p : PlaneId) (f : Plane → Plane) : (updPlane s p f).hbmPoison = s.hbmPoison := rfl
@[simp] theorem updPlane_hbmErr (s : State) (p : PlaneId) (f : Plane → Plane) : (updPlane s p f).hbmErr = s.hbmErr := rfl
@[simp] theorem updPlane_sramErr (s : State) (p : PlaneId) (f : Plane → Plane) : (updPlane s p f).sramErr = s.sramErr := rfl
@[simp] theorem updPlane_links (s : State) (p : PlaneId) (f : Plane → Plane) : (updPlane s p f).links = s.links := rfl
@[simp] theorem updPlane_bridle (s : State) (p : PlaneId) (f : Plane → Plane) : (updPlane s p f).bridle = s.bridle := rfl
@[simp] theorem updPlane_tether (s : State) (p : PlaneId) (f : Plane → Plane) : (updPlane s p f).tether = s.tether := rfl
@[simp] theorem updPlane_net (s : State) (p : PlaneId) (f : Plane → Plane) : (updPlane s p f).net = s.net := rfl
@[simp] theorem updPlane_col (s : State) (p : PlaneId) (f : Plane → Plane) : (updPlane s p f).col = s.col := rfl
@[simp] theorem updPlane_clusters (s : State) (p : PlaneId) (f : Plane → Plane) : (updPlane s p f).clusters = s.clusters := rfl
@[simp] theorem updPlane_power (s : State) (p : PlaneId) (f : Plane → Plane) : (updPlane s p f).power = s.power := rfl
@[simp] theorem updPlane_pair (s : State) (p : PlaneId) (f : Plane → Plane) : (updPlane s p f).pair = s.pair := rfl
@[simp] theorem updPlane_dual (s : State) (p : PlaneId) (f : Plane → Plane) : (updPlane s p f).dual = s.dual := rfl
@[simp] theorem updPlane_sec (s : State) (p : PlaneId) (f : Plane → Plane) : (updPlane s p f).sec = s.sec := rfl
@[simp] theorem updPlane_bist (s : State) (p : PlaneId) (f : Plane → Plane) : (updPlane s p f).bist = s.bist := rfl
@[simp] theorem updPlane_mgt (s : State) (p : PlaneId) (f : Plane → Plane) : (updPlane s p f).mgt = s.mgt := rfl
@[simp] theorem updPlane_mp (s : State) (p : PlaneId) (f : Plane → Plane) : (updPlane s p f).mp = s.mp := rfl
@[simp] theorem updPlane_mgtRing (s : State) (p : PlaneId) (f : Plane → Plane) : (updPlane s p f).mgtRing = s.mgtRing := rfl
@[simp] theorem updPlane_errSelect (s : State) (p : PlaneId) (f : Plane → Plane) : (updPlane s p f).errSelect = s.errSelect := rfl
@[simp] theorem updPlane_regs (s : State) (p : PlaneId) (f : Plane → Plane) : (updPlane s p f).regs = s.regs := rfl
@[simp] theorem updPlane_latches (s : State) (p : PlaneId) (f : Plane → Plane) : (updPlane s p f).latches = s.latches := rfl
@[simp] theorem updPlane_snaps (s : State) (p : PlaneId) (f : Plane → Plane) : (updPlane s p f).snaps = s.snaps := rfl
@[simp] theorem updPlane_free (s : State) (p : PlaneId) (f : Plane → Plane) : (updPlane s p f).free = s.free := rfl
@[simp] theorem updPlane_out (s : State) (p : PlaneId) (f : Plane → Plane) : (updPlane s p f).out = s.out := rfl
@[simp] theorem updPlane_pending (s : State) (p : PlaneId) (f : Plane → Plane) : (updPlane s p f).pending = s.pending := rfl

@[simp] theorem updCluster_boot (s : State) (c : ClusterId) (f : Cluster → Cluster) : (updCluster s c f).boot = s.boot := rfl
@[simp] theorem updCluster_pins (s : State) (c : ClusterId) (f : Cluster → Cluster) : (updCluster s c f).pins = s.pins := rfl
@[simp] theorem updCluster_fuses (s : State) (c : ClusterId) (f : Cluster → Cluster) : (updCluster s c f).fuses = s.fuses := rfl
@[simp] theorem updCluster_flash (s : State) (c : ClusterId) (f : Cluster → Cluster) : (updCluster s c f).flash = s.flash := rfl
@[simp] theorem updCluster_cfg (s : State) (c : ClusterId) (f : Cluster → Cluster) : (updCluster s c f).cfg = s.cfg := rfl
@[simp] theorem updCluster_img (s : State) (c : ClusterId) (f : Cluster → Cluster) : (updCluster s c f).img = s.img := rfl
@[simp] theorem updCluster_time (s : State) (c : ClusterId) (f : Cluster → Cluster) : (updCluster s c f).time = s.time := rfl
@[simp] theorem updCluster_commit (s : State) (c : ClusterId) (f : Cluster → Cluster) : (updCluster s c f).commit = s.commit := rfl
@[simp] theorem updCluster_ports (s : State) (c : ClusterId) (f : Cluster → Cluster) : (updCluster s c f).ports = s.ports := rfl
@[simp] theorem updCluster_parts (s : State) (c : ClusterId) (f : Cluster → Cluster) : (updCluster s c f).parts = s.parts := rfl
@[simp] theorem updCluster_syc (s : State) (c : ClusterId) (f : Cluster → Cluster) : (updCluster s c f).syc = s.syc := rfl
@[simp] theorem updCluster_hbm (s : State) (c : ClusterId) (f : Cluster → Cluster) : (updCluster s c f).hbm = s.hbm := rfl
@[simp] theorem updCluster_hbmPoison (s : State) (c : ClusterId) (f : Cluster → Cluster) : (updCluster s c f).hbmPoison = s.hbmPoison := rfl
@[simp] theorem updCluster_hbmErr (s : State) (c : ClusterId) (f : Cluster → Cluster) : (updCluster s c f).hbmErr = s.hbmErr := rfl
@[simp] theorem updCluster_sramErr (s : State) (c : ClusterId) (f : Cluster → Cluster) : (updCluster s c f).sramErr = s.sramErr := rfl
@[simp] theorem updCluster_links (s : State) (c : ClusterId) (f : Cluster → Cluster) : (updCluster s c f).links = s.links := rfl
@[simp] theorem updCluster_bridle (s : State) (c : ClusterId) (f : Cluster → Cluster) : (updCluster s c f).bridle = s.bridle := rfl
@[simp] theorem updCluster_planes (s : State) (c : ClusterId) (f : Cluster → Cluster) : (updCluster s c f).planes = s.planes := rfl
@[simp] theorem updCluster_tether (s : State) (c : ClusterId) (f : Cluster → Cluster) : (updCluster s c f).tether = s.tether := rfl
@[simp] theorem updCluster_net (s : State) (c : ClusterId) (f : Cluster → Cluster) : (updCluster s c f).net = s.net := rfl
@[simp] theorem updCluster_col (s : State) (c : ClusterId) (f : Cluster → Cluster) : (updCluster s c f).col = s.col := rfl
@[simp] theorem updCluster_power (s : State) (c : ClusterId) (f : Cluster → Cluster) : (updCluster s c f).power = s.power := rfl
@[simp] theorem updCluster_pair (s : State) (c : ClusterId) (f : Cluster → Cluster) : (updCluster s c f).pair = s.pair := rfl
@[simp] theorem updCluster_dual (s : State) (c : ClusterId) (f : Cluster → Cluster) : (updCluster s c f).dual = s.dual := rfl
@[simp] theorem updCluster_sec (s : State) (c : ClusterId) (f : Cluster → Cluster) : (updCluster s c f).sec = s.sec := rfl
@[simp] theorem updCluster_bist (s : State) (c : ClusterId) (f : Cluster → Cluster) : (updCluster s c f).bist = s.bist := rfl
@[simp] theorem updCluster_mgt (s : State) (c : ClusterId) (f : Cluster → Cluster) : (updCluster s c f).mgt = s.mgt := rfl
@[simp] theorem updCluster_mp (s : State) (c : ClusterId) (f : Cluster → Cluster) : (updCluster s c f).mp = s.mp := rfl
@[simp] theorem updCluster_mgtRing (s : State) (c : ClusterId) (f : Cluster → Cluster) : (updCluster s c f).mgtRing = s.mgtRing := rfl
@[simp] theorem updCluster_errSelect (s : State) (c : ClusterId) (f : Cluster → Cluster) : (updCluster s c f).errSelect = s.errSelect := rfl
@[simp] theorem updCluster_regs (s : State) (c : ClusterId) (f : Cluster → Cluster) : (updCluster s c f).regs = s.regs := rfl
@[simp] theorem updCluster_latches (s : State) (c : ClusterId) (f : Cluster → Cluster) : (updCluster s c f).latches = s.latches := rfl
@[simp] theorem updCluster_snaps (s : State) (c : ClusterId) (f : Cluster → Cluster) : (updCluster s c f).snaps = s.snaps := rfl
@[simp] theorem updCluster_free (s : State) (c : ClusterId) (f : Cluster → Cluster) : (updCluster s c f).free = s.free := rfl
@[simp] theorem updCluster_out (s : State) (c : ClusterId) (f : Cluster → Cluster) : (updCluster s c f).out = s.out := rfl
@[simp] theorem updCluster_pending (s : State) (c : ClusterId) (f : Cluster → Cluster) : (updCluster s c f).pending = s.pending := rfl

@[simp] theorem updStream_boot (s : State) (p : PartId) (x : StreamId) (f : Stream → Stream) : (updStream s p x f).boot = s.boot := rfl
@[simp] theorem updStream_pins (s : State) (p : PartId) (x : StreamId) (f : Stream → Stream) : (updStream s p x f).pins = s.pins := rfl
@[simp] theorem updStream_fuses (s : State) (p : PartId) (x : StreamId) (f : Stream → Stream) : (updStream s p x f).fuses = s.fuses := rfl
@[simp] theorem updStream_flash (s : State) (p : PartId) (x : StreamId) (f : Stream → Stream) : (updStream s p x f).flash = s.flash := rfl
@[simp] theorem updStream_cfg (s : State) (p : PartId) (x : StreamId) (f : Stream → Stream) : (updStream s p x f).cfg = s.cfg := rfl
@[simp] theorem updStream_img (s : State) (p : PartId) (x : StreamId) (f : Stream → Stream) : (updStream s p x f).img = s.img := rfl
@[simp] theorem updStream_time (s : State) (p : PartId) (x : StreamId) (f : Stream → Stream) : (updStream s p x f).time = s.time := rfl
@[simp] theorem updStream_commit (s : State) (p : PartId) (x : StreamId) (f : Stream → Stream) : (updStream s p x f).commit = s.commit := rfl
@[simp] theorem updStream_ports (s : State) (p : PartId) (x : StreamId) (f : Stream → Stream) : (updStream s p x f).ports = s.ports := rfl
@[simp] theorem updStream_syc (s : State) (p : PartId) (x : StreamId) (f : Stream → Stream) : (updStream s p x f).syc = s.syc := rfl
@[simp] theorem updStream_hbm (s : State) (p : PartId) (x : StreamId) (f : Stream → Stream) : (updStream s p x f).hbm = s.hbm := rfl
@[simp] theorem updStream_hbmPoison (s : State) (p : PartId) (x : StreamId) (f : Stream → Stream) : (updStream s p x f).hbmPoison = s.hbmPoison := rfl
@[simp] theorem updStream_hbmErr (s : State) (p : PartId) (x : StreamId) (f : Stream → Stream) : (updStream s p x f).hbmErr = s.hbmErr := rfl
@[simp] theorem updStream_sramErr (s : State) (p : PartId) (x : StreamId) (f : Stream → Stream) : (updStream s p x f).sramErr = s.sramErr := rfl
@[simp] theorem updStream_links (s : State) (p : PartId) (x : StreamId) (f : Stream → Stream) : (updStream s p x f).links = s.links := rfl
@[simp] theorem updStream_bridle (s : State) (p : PartId) (x : StreamId) (f : Stream → Stream) : (updStream s p x f).bridle = s.bridle := rfl
@[simp] theorem updStream_planes (s : State) (p : PartId) (x : StreamId) (f : Stream → Stream) : (updStream s p x f).planes = s.planes := rfl
@[simp] theorem updStream_tether (s : State) (p : PartId) (x : StreamId) (f : Stream → Stream) : (updStream s p x f).tether = s.tether := rfl
@[simp] theorem updStream_net (s : State) (p : PartId) (x : StreamId) (f : Stream → Stream) : (updStream s p x f).net = s.net := rfl
@[simp] theorem updStream_col (s : State) (p : PartId) (x : StreamId) (f : Stream → Stream) : (updStream s p x f).col = s.col := rfl
@[simp] theorem updStream_clusters (s : State) (p : PartId) (x : StreamId) (f : Stream → Stream) : (updStream s p x f).clusters = s.clusters := rfl
@[simp] theorem updStream_power (s : State) (p : PartId) (x : StreamId) (f : Stream → Stream) : (updStream s p x f).power = s.power := rfl
@[simp] theorem updStream_pair (s : State) (p : PartId) (x : StreamId) (f : Stream → Stream) : (updStream s p x f).pair = s.pair := rfl
@[simp] theorem updStream_dual (s : State) (p : PartId) (x : StreamId) (f : Stream → Stream) : (updStream s p x f).dual = s.dual := rfl
@[simp] theorem updStream_sec (s : State) (p : PartId) (x : StreamId) (f : Stream → Stream) : (updStream s p x f).sec = s.sec := rfl
@[simp] theorem updStream_bist (s : State) (p : PartId) (x : StreamId) (f : Stream → Stream) : (updStream s p x f).bist = s.bist := rfl
@[simp] theorem updStream_mgt (s : State) (p : PartId) (x : StreamId) (f : Stream → Stream) : (updStream s p x f).mgt = s.mgt := rfl
@[simp] theorem updStream_mp (s : State) (p : PartId) (x : StreamId) (f : Stream → Stream) : (updStream s p x f).mp = s.mp := rfl
@[simp] theorem updStream_mgtRing (s : State) (p : PartId) (x : StreamId) (f : Stream → Stream) : (updStream s p x f).mgtRing = s.mgtRing := rfl
@[simp] theorem updStream_errSelect (s : State) (p : PartId) (x : StreamId) (f : Stream → Stream) : (updStream s p x f).errSelect = s.errSelect := rfl
@[simp] theorem updStream_regs (s : State) (p : PartId) (x : StreamId) (f : Stream → Stream) : (updStream s p x f).regs = s.regs := rfl
@[simp] theorem updStream_latches (s : State) (p : PartId) (x : StreamId) (f : Stream → Stream) : (updStream s p x f).latches = s.latches := rfl
@[simp] theorem updStream_snaps (s : State) (p : PartId) (x : StreamId) (f : Stream → Stream) : (updStream s p x f).snaps = s.snaps := rfl
@[simp] theorem updStream_free (s : State) (p : PartId) (x : StreamId) (f : Stream → Stream) : (updStream s p x f).free = s.free := rfl
@[simp] theorem updStream_out (s : State) (p : PartId) (x : StreamId) (f : Stream → Stream) : (updStream s p x f).out = s.out := rfl
@[simp] theorem updStream_pending (s : State) (p : PartId) (x : StreamId) (f : Stream → Stream) : (updStream s p x f).pending = s.pending := rfl

@[simp] theorem updJob_boot (s : State) (p : PartId) (f : Job → Job) : (updJob s p f).boot = s.boot := rfl
@[simp] theorem updJob_pins (s : State) (p : PartId) (f : Job → Job) : (updJob s p f).pins = s.pins := rfl
@[simp] theorem updJob_fuses (s : State) (p : PartId) (f : Job → Job) : (updJob s p f).fuses = s.fuses := rfl
@[simp] theorem updJob_flash (s : State) (p : PartId) (f : Job → Job) : (updJob s p f).flash = s.flash := rfl
@[simp] theorem updJob_cfg (s : State) (p : PartId) (f : Job → Job) : (updJob s p f).cfg = s.cfg := rfl
@[simp] theorem updJob_img (s : State) (p : PartId) (f : Job → Job) : (updJob s p f).img = s.img := rfl
@[simp] theorem updJob_time (s : State) (p : PartId) (f : Job → Job) : (updJob s p f).time = s.time := rfl
@[simp] theorem updJob_commit (s : State) (p : PartId) (f : Job → Job) : (updJob s p f).commit = s.commit := rfl
@[simp] theorem updJob_ports (s : State) (p : PartId) (f : Job → Job) : (updJob s p f).ports = s.ports := rfl
@[simp] theorem updJob_syc (s : State) (p : PartId) (f : Job → Job) : (updJob s p f).syc = s.syc := rfl
@[simp] theorem updJob_hbm (s : State) (p : PartId) (f : Job → Job) : (updJob s p f).hbm = s.hbm := rfl
@[simp] theorem updJob_hbmPoison (s : State) (p : PartId) (f : Job → Job) : (updJob s p f).hbmPoison = s.hbmPoison := rfl
@[simp] theorem updJob_hbmErr (s : State) (p : PartId) (f : Job → Job) : (updJob s p f).hbmErr = s.hbmErr := rfl
@[simp] theorem updJob_sramErr (s : State) (p : PartId) (f : Job → Job) : (updJob s p f).sramErr = s.sramErr := rfl
@[simp] theorem updJob_links (s : State) (p : PartId) (f : Job → Job) : (updJob s p f).links = s.links := rfl
@[simp] theorem updJob_bridle (s : State) (p : PartId) (f : Job → Job) : (updJob s p f).bridle = s.bridle := rfl
@[simp] theorem updJob_planes (s : State) (p : PartId) (f : Job → Job) : (updJob s p f).planes = s.planes := rfl
@[simp] theorem updJob_tether (s : State) (p : PartId) (f : Job → Job) : (updJob s p f).tether = s.tether := rfl
@[simp] theorem updJob_net (s : State) (p : PartId) (f : Job → Job) : (updJob s p f).net = s.net := rfl
@[simp] theorem updJob_col (s : State) (p : PartId) (f : Job → Job) : (updJob s p f).col = s.col := rfl
@[simp] theorem updJob_clusters (s : State) (p : PartId) (f : Job → Job) : (updJob s p f).clusters = s.clusters := rfl
@[simp] theorem updJob_power (s : State) (p : PartId) (f : Job → Job) : (updJob s p f).power = s.power := rfl
@[simp] theorem updJob_pair (s : State) (p : PartId) (f : Job → Job) : (updJob s p f).pair = s.pair := rfl
@[simp] theorem updJob_dual (s : State) (p : PartId) (f : Job → Job) : (updJob s p f).dual = s.dual := rfl
@[simp] theorem updJob_sec (s : State) (p : PartId) (f : Job → Job) : (updJob s p f).sec = s.sec := rfl
@[simp] theorem updJob_bist (s : State) (p : PartId) (f : Job → Job) : (updJob s p f).bist = s.bist := rfl
@[simp] theorem updJob_mgt (s : State) (p : PartId) (f : Job → Job) : (updJob s p f).mgt = s.mgt := rfl
@[simp] theorem updJob_mp (s : State) (p : PartId) (f : Job → Job) : (updJob s p f).mp = s.mp := rfl
@[simp] theorem updJob_mgtRing (s : State) (p : PartId) (f : Job → Job) : (updJob s p f).mgtRing = s.mgtRing := rfl
@[simp] theorem updJob_errSelect (s : State) (p : PartId) (f : Job → Job) : (updJob s p f).errSelect = s.errSelect := rfl
@[simp] theorem updJob_regs (s : State) (p : PartId) (f : Job → Job) : (updJob s p f).regs = s.regs := rfl
@[simp] theorem updJob_latches (s : State) (p : PartId) (f : Job → Job) : (updJob s p f).latches = s.latches := rfl
@[simp] theorem updJob_snaps (s : State) (p : PartId) (f : Job → Job) : (updJob s p f).snaps = s.snaps := rfl
@[simp] theorem updJob_free (s : State) (p : PartId) (f : Job → Job) : (updJob s p f).free = s.free := rfl
@[simp] theorem updJob_out (s : State) (p : PartId) (f : Job → Job) : (updJob s p f).out = s.out := rfl
@[simp] theorem updJob_pending (s : State) (p : PartId) (f : Job → Job) : (updJob s p f).pending = s.pending := rfl

@[simp] theorem emit_boot (e : Emit) (s : State) : (emit e s).boot = s.boot := rfl
@[simp] theorem emit_pins (e : Emit) (s : State) : (emit e s).pins = s.pins := rfl
@[simp] theorem emit_fuses (e : Emit) (s : State) : (emit e s).fuses = s.fuses := rfl
@[simp] theorem emit_flash (e : Emit) (s : State) : (emit e s).flash = s.flash := rfl
@[simp] theorem emit_cfg (e : Emit) (s : State) : (emit e s).cfg = s.cfg := rfl
@[simp] theorem emit_img (e : Emit) (s : State) : (emit e s).img = s.img := rfl
@[simp] theorem emit_time (e : Emit) (s : State) : (emit e s).time = s.time := rfl
@[simp] theorem emit_commit (e : Emit) (s : State) : (emit e s).commit = s.commit := rfl
@[simp] theorem emit_ports (e : Emit) (s : State) : (emit e s).ports = s.ports := rfl
@[simp] theorem emit_parts (e : Emit) (s : State) : (emit e s).parts = s.parts := rfl
@[simp] theorem emit_syc (e : Emit) (s : State) : (emit e s).syc = s.syc := rfl
@[simp] theorem emit_hbm (e : Emit) (s : State) : (emit e s).hbm = s.hbm := rfl
@[simp] theorem emit_hbmPoison (e : Emit) (s : State) : (emit e s).hbmPoison = s.hbmPoison := rfl
@[simp] theorem emit_hbmErr (e : Emit) (s : State) : (emit e s).hbmErr = s.hbmErr := rfl
@[simp] theorem emit_sramErr (e : Emit) (s : State) : (emit e s).sramErr = s.sramErr := rfl
@[simp] theorem emit_links (e : Emit) (s : State) : (emit e s).links = s.links := rfl
@[simp] theorem emit_bridle (e : Emit) (s : State) : (emit e s).bridle = s.bridle := rfl
@[simp] theorem emit_planes (e : Emit) (s : State) : (emit e s).planes = s.planes := rfl
@[simp] theorem emit_tether (e : Emit) (s : State) : (emit e s).tether = s.tether := rfl
@[simp] theorem emit_net (e : Emit) (s : State) : (emit e s).net = s.net := rfl
@[simp] theorem emit_col (e : Emit) (s : State) : (emit e s).col = s.col := rfl
@[simp] theorem emit_clusters (e : Emit) (s : State) : (emit e s).clusters = s.clusters := rfl
@[simp] theorem emit_power (e : Emit) (s : State) : (emit e s).power = s.power := rfl
@[simp] theorem emit_pair (e : Emit) (s : State) : (emit e s).pair = s.pair := rfl
@[simp] theorem emit_dual (e : Emit) (s : State) : (emit e s).dual = s.dual := rfl
@[simp] theorem emit_sec (e : Emit) (s : State) : (emit e s).sec = s.sec := rfl
@[simp] theorem emit_bist (e : Emit) (s : State) : (emit e s).bist = s.bist := rfl
@[simp] theorem emit_mgt (e : Emit) (s : State) : (emit e s).mgt = s.mgt := rfl
@[simp] theorem emit_mp (e : Emit) (s : State) : (emit e s).mp = s.mp := rfl
@[simp] theorem emit_mgtRing (e : Emit) (s : State) : (emit e s).mgtRing = s.mgtRing := rfl
@[simp] theorem emit_errSelect (e : Emit) (s : State) : (emit e s).errSelect = s.errSelect := rfl
@[simp] theorem emit_regs (e : Emit) (s : State) : (emit e s).regs = s.regs := rfl
@[simp] theorem emit_latches (e : Emit) (s : State) : (emit e s).latches = s.latches := rfl
@[simp] theorem emit_snaps (e : Emit) (s : State) : (emit e s).snaps = s.snaps := rfl
@[simp] theorem emit_free (e : Emit) (s : State) : (emit e s).free = s.free := rfl
@[simp] theorem emit_pending (e : Emit) (s : State) : (emit e s).pending = s.pending := rfl

@[simp] theorem cntPart_boot (o n : Nat) (p : PartId) (s : State) : (cntPart o n p s).boot = s.boot := rfl
@[simp] theorem cntPart_pins (o n : Nat) (p : PartId) (s : State) : (cntPart o n p s).pins = s.pins := rfl
@[simp] theorem cntPart_fuses (o n : Nat) (p : PartId) (s : State) : (cntPart o n p s).fuses = s.fuses := rfl
@[simp] theorem cntPart_flash (o n : Nat) (p : PartId) (s : State) : (cntPart o n p s).flash = s.flash := rfl
@[simp] theorem cntPart_cfg (o n : Nat) (p : PartId) (s : State) : (cntPart o n p s).cfg = s.cfg := rfl
@[simp] theorem cntPart_img (o n : Nat) (p : PartId) (s : State) : (cntPart o n p s).img = s.img := rfl
@[simp] theorem cntPart_time (o n : Nat) (p : PartId) (s : State) : (cntPart o n p s).time = s.time := rfl
@[simp] theorem cntPart_commit (o n : Nat) (p : PartId) (s : State) : (cntPart o n p s).commit = s.commit := rfl
@[simp] theorem cntPart_ports (o n : Nat) (p : PartId) (s : State) : (cntPart o n p s).ports = s.ports := rfl
@[simp] theorem cntPart_syc (o n : Nat) (p : PartId) (s : State) : (cntPart o n p s).syc = s.syc := rfl
@[simp] theorem cntPart_hbm (o n : Nat) (p : PartId) (s : State) : (cntPart o n p s).hbm = s.hbm := rfl
@[simp] theorem cntPart_hbmPoison (o n : Nat) (p : PartId) (s : State) : (cntPart o n p s).hbmPoison = s.hbmPoison := rfl
@[simp] theorem cntPart_hbmErr (o n : Nat) (p : PartId) (s : State) : (cntPart o n p s).hbmErr = s.hbmErr := rfl
@[simp] theorem cntPart_sramErr (o n : Nat) (p : PartId) (s : State) : (cntPart o n p s).sramErr = s.sramErr := rfl
@[simp] theorem cntPart_links (o n : Nat) (p : PartId) (s : State) : (cntPart o n p s).links = s.links := rfl
@[simp] theorem cntPart_bridle (o n : Nat) (p : PartId) (s : State) : (cntPart o n p s).bridle = s.bridle := rfl
@[simp] theorem cntPart_planes (o n : Nat) (p : PartId) (s : State) : (cntPart o n p s).planes = s.planes := rfl
@[simp] theorem cntPart_tether (o n : Nat) (p : PartId) (s : State) : (cntPart o n p s).tether = s.tether := rfl
@[simp] theorem cntPart_net (o n : Nat) (p : PartId) (s : State) : (cntPart o n p s).net = s.net := rfl
@[simp] theorem cntPart_col (o n : Nat) (p : PartId) (s : State) : (cntPart o n p s).col = s.col := rfl
@[simp] theorem cntPart_clusters (o n : Nat) (p : PartId) (s : State) : (cntPart o n p s).clusters = s.clusters := rfl
@[simp] theorem cntPart_power (o n : Nat) (p : PartId) (s : State) : (cntPart o n p s).power = s.power := rfl
@[simp] theorem cntPart_pair (o n : Nat) (p : PartId) (s : State) : (cntPart o n p s).pair = s.pair := rfl
@[simp] theorem cntPart_dual (o n : Nat) (p : PartId) (s : State) : (cntPart o n p s).dual = s.dual := rfl
@[simp] theorem cntPart_sec (o n : Nat) (p : PartId) (s : State) : (cntPart o n p s).sec = s.sec := rfl
@[simp] theorem cntPart_bist (o n : Nat) (p : PartId) (s : State) : (cntPart o n p s).bist = s.bist := rfl
@[simp] theorem cntPart_mgt (o n : Nat) (p : PartId) (s : State) : (cntPart o n p s).mgt = s.mgt := rfl
@[simp] theorem cntPart_mp (o n : Nat) (p : PartId) (s : State) : (cntPart o n p s).mp = s.mp := rfl
@[simp] theorem cntPart_mgtRing (o n : Nat) (p : PartId) (s : State) : (cntPart o n p s).mgtRing = s.mgtRing := rfl
@[simp] theorem cntPart_errSelect (o n : Nat) (p : PartId) (s : State) : (cntPart o n p s).errSelect = s.errSelect := rfl
@[simp] theorem cntPart_regs (o n : Nat) (p : PartId) (s : State) : (cntPart o n p s).regs = s.regs := rfl
@[simp] theorem cntPart_latches (o n : Nat) (p : PartId) (s : State) : (cntPart o n p s).latches = s.latches := rfl
@[simp] theorem cntPart_snaps (o n : Nat) (p : PartId) (s : State) : (cntPart o n p s).snaps = s.snaps := rfl
@[simp] theorem cntPart_free (o n : Nat) (p : PartId) (s : State) : (cntPart o n p s).free = s.free := rfl
@[simp] theorem cntPart_out (o n : Nat) (p : PartId) (s : State) : (cntPart o n p s).out = s.out := rfl
@[simp] theorem cntPart_pending (o n : Nat) (p : PartId) (s : State) : (cntPart o n p s).pending = s.pending := rfl

@[simp] theorem cntPart64_boot (o n : Nat) (p : PartId) (s : State) : (cntPart64 o n p s).boot = s.boot := rfl
@[simp] theorem cntPart64_pins (o n : Nat) (p : PartId) (s : State) : (cntPart64 o n p s).pins = s.pins := rfl
@[simp] theorem cntPart64_fuses (o n : Nat) (p : PartId) (s : State) : (cntPart64 o n p s).fuses = s.fuses := rfl
@[simp] theorem cntPart64_flash (o n : Nat) (p : PartId) (s : State) : (cntPart64 o n p s).flash = s.flash := rfl
@[simp] theorem cntPart64_cfg (o n : Nat) (p : PartId) (s : State) : (cntPart64 o n p s).cfg = s.cfg := rfl
@[simp] theorem cntPart64_img (o n : Nat) (p : PartId) (s : State) : (cntPart64 o n p s).img = s.img := rfl
@[simp] theorem cntPart64_time (o n : Nat) (p : PartId) (s : State) : (cntPart64 o n p s).time = s.time := rfl
@[simp] theorem cntPart64_commit (o n : Nat) (p : PartId) (s : State) : (cntPart64 o n p s).commit = s.commit := rfl
@[simp] theorem cntPart64_ports (o n : Nat) (p : PartId) (s : State) : (cntPart64 o n p s).ports = s.ports := rfl
@[simp] theorem cntPart64_syc (o n : Nat) (p : PartId) (s : State) : (cntPart64 o n p s).syc = s.syc := rfl
@[simp] theorem cntPart64_hbm (o n : Nat) (p : PartId) (s : State) : (cntPart64 o n p s).hbm = s.hbm := rfl
@[simp] theorem cntPart64_hbmPoison (o n : Nat) (p : PartId) (s : State) : (cntPart64 o n p s).hbmPoison = s.hbmPoison := rfl
@[simp] theorem cntPart64_hbmErr (o n : Nat) (p : PartId) (s : State) : (cntPart64 o n p s).hbmErr = s.hbmErr := rfl
@[simp] theorem cntPart64_sramErr (o n : Nat) (p : PartId) (s : State) : (cntPart64 o n p s).sramErr = s.sramErr := rfl
@[simp] theorem cntPart64_links (o n : Nat) (p : PartId) (s : State) : (cntPart64 o n p s).links = s.links := rfl
@[simp] theorem cntPart64_bridle (o n : Nat) (p : PartId) (s : State) : (cntPart64 o n p s).bridle = s.bridle := rfl
@[simp] theorem cntPart64_planes (o n : Nat) (p : PartId) (s : State) : (cntPart64 o n p s).planes = s.planes := rfl
@[simp] theorem cntPart64_tether (o n : Nat) (p : PartId) (s : State) : (cntPart64 o n p s).tether = s.tether := rfl
@[simp] theorem cntPart64_net (o n : Nat) (p : PartId) (s : State) : (cntPart64 o n p s).net = s.net := rfl
@[simp] theorem cntPart64_col (o n : Nat) (p : PartId) (s : State) : (cntPart64 o n p s).col = s.col := rfl
@[simp] theorem cntPart64_clusters (o n : Nat) (p : PartId) (s : State) : (cntPart64 o n p s).clusters = s.clusters := rfl
@[simp] theorem cntPart64_power (o n : Nat) (p : PartId) (s : State) : (cntPart64 o n p s).power = s.power := rfl
@[simp] theorem cntPart64_pair (o n : Nat) (p : PartId) (s : State) : (cntPart64 o n p s).pair = s.pair := rfl
@[simp] theorem cntPart64_dual (o n : Nat) (p : PartId) (s : State) : (cntPart64 o n p s).dual = s.dual := rfl
@[simp] theorem cntPart64_sec (o n : Nat) (p : PartId) (s : State) : (cntPart64 o n p s).sec = s.sec := rfl
@[simp] theorem cntPart64_bist (o n : Nat) (p : PartId) (s : State) : (cntPart64 o n p s).bist = s.bist := rfl
@[simp] theorem cntPart64_mgt (o n : Nat) (p : PartId) (s : State) : (cntPart64 o n p s).mgt = s.mgt := rfl
@[simp] theorem cntPart64_mp (o n : Nat) (p : PartId) (s : State) : (cntPart64 o n p s).mp = s.mp := rfl
@[simp] theorem cntPart64_mgtRing (o n : Nat) (p : PartId) (s : State) : (cntPart64 o n p s).mgtRing = s.mgtRing := rfl
@[simp] theorem cntPart64_errSelect (o n : Nat) (p : PartId) (s : State) : (cntPart64 o n p s).errSelect = s.errSelect := rfl
@[simp] theorem cntPart64_regs (o n : Nat) (p : PartId) (s : State) : (cntPart64 o n p s).regs = s.regs := rfl
@[simp] theorem cntPart64_latches (o n : Nat) (p : PartId) (s : State) : (cntPart64 o n p s).latches = s.latches := rfl
@[simp] theorem cntPart64_snaps (o n : Nat) (p : PartId) (s : State) : (cntPart64 o n p s).snaps = s.snaps := rfl
@[simp] theorem cntPart64_free (o n : Nat) (p : PartId) (s : State) : (cntPart64 o n p s).free = s.free := rfl
@[simp] theorem cntPart64_out (o n : Nat) (p : PartId) (s : State) : (cntPart64 o n p s).out = s.out := rfl
@[simp] theorem cntPart64_pending (o n : Nat) (p : PartId) (s : State) : (cntPart64 o n p s).pending = s.pending := rfl

@[simp] theorem setRegPart_boot (o v : Nat) (p : PartId) (s : State) : (setRegPart o v p s).boot = s.boot := rfl
@[simp] theorem setRegPart_pins (o v : Nat) (p : PartId) (s : State) : (setRegPart o v p s).pins = s.pins := rfl
@[simp] theorem setRegPart_fuses (o v : Nat) (p : PartId) (s : State) : (setRegPart o v p s).fuses = s.fuses := rfl
@[simp] theorem setRegPart_flash (o v : Nat) (p : PartId) (s : State) : (setRegPart o v p s).flash = s.flash := rfl
@[simp] theorem setRegPart_cfg (o v : Nat) (p : PartId) (s : State) : (setRegPart o v p s).cfg = s.cfg := rfl
@[simp] theorem setRegPart_img (o v : Nat) (p : PartId) (s : State) : (setRegPart o v p s).img = s.img := rfl
@[simp] theorem setRegPart_time (o v : Nat) (p : PartId) (s : State) : (setRegPart o v p s).time = s.time := rfl
@[simp] theorem setRegPart_commit (o v : Nat) (p : PartId) (s : State) : (setRegPart o v p s).commit = s.commit := rfl
@[simp] theorem setRegPart_ports (o v : Nat) (p : PartId) (s : State) : (setRegPart o v p s).ports = s.ports := rfl
@[simp] theorem setRegPart_syc (o v : Nat) (p : PartId) (s : State) : (setRegPart o v p s).syc = s.syc := rfl
@[simp] theorem setRegPart_hbm (o v : Nat) (p : PartId) (s : State) : (setRegPart o v p s).hbm = s.hbm := rfl
@[simp] theorem setRegPart_hbmPoison (o v : Nat) (p : PartId) (s : State) : (setRegPart o v p s).hbmPoison = s.hbmPoison := rfl
@[simp] theorem setRegPart_hbmErr (o v : Nat) (p : PartId) (s : State) : (setRegPart o v p s).hbmErr = s.hbmErr := rfl
@[simp] theorem setRegPart_sramErr (o v : Nat) (p : PartId) (s : State) : (setRegPart o v p s).sramErr = s.sramErr := rfl
@[simp] theorem setRegPart_links (o v : Nat) (p : PartId) (s : State) : (setRegPart o v p s).links = s.links := rfl
@[simp] theorem setRegPart_bridle (o v : Nat) (p : PartId) (s : State) : (setRegPart o v p s).bridle = s.bridle := rfl
@[simp] theorem setRegPart_planes (o v : Nat) (p : PartId) (s : State) : (setRegPart o v p s).planes = s.planes := rfl
@[simp] theorem setRegPart_tether (o v : Nat) (p : PartId) (s : State) : (setRegPart o v p s).tether = s.tether := rfl
@[simp] theorem setRegPart_net (o v : Nat) (p : PartId) (s : State) : (setRegPart o v p s).net = s.net := rfl
@[simp] theorem setRegPart_col (o v : Nat) (p : PartId) (s : State) : (setRegPart o v p s).col = s.col := rfl
@[simp] theorem setRegPart_clusters (o v : Nat) (p : PartId) (s : State) : (setRegPart o v p s).clusters = s.clusters := rfl
@[simp] theorem setRegPart_power (o v : Nat) (p : PartId) (s : State) : (setRegPart o v p s).power = s.power := rfl
@[simp] theorem setRegPart_pair (o v : Nat) (p : PartId) (s : State) : (setRegPart o v p s).pair = s.pair := rfl
@[simp] theorem setRegPart_dual (o v : Nat) (p : PartId) (s : State) : (setRegPart o v p s).dual = s.dual := rfl
@[simp] theorem setRegPart_sec (o v : Nat) (p : PartId) (s : State) : (setRegPart o v p s).sec = s.sec := rfl
@[simp] theorem setRegPart_bist (o v : Nat) (p : PartId) (s : State) : (setRegPart o v p s).bist = s.bist := rfl
@[simp] theorem setRegPart_mgt (o v : Nat) (p : PartId) (s : State) : (setRegPart o v p s).mgt = s.mgt := rfl
@[simp] theorem setRegPart_mp (o v : Nat) (p : PartId) (s : State) : (setRegPart o v p s).mp = s.mp := rfl
@[simp] theorem setRegPart_mgtRing (o v : Nat) (p : PartId) (s : State) : (setRegPart o v p s).mgtRing = s.mgtRing := rfl
@[simp] theorem setRegPart_errSelect (o v : Nat) (p : PartId) (s : State) : (setRegPart o v p s).errSelect = s.errSelect := rfl
@[simp] theorem setRegPart_regs (o v : Nat) (p : PartId) (s : State) : (setRegPart o v p s).regs = s.regs := rfl
@[simp] theorem setRegPart_latches (o v : Nat) (p : PartId) (s : State) : (setRegPart o v p s).latches = s.latches := rfl
@[simp] theorem setRegPart_snaps (o v : Nat) (p : PartId) (s : State) : (setRegPart o v p s).snaps = s.snaps := rfl
@[simp] theorem setRegPart_free (o v : Nat) (p : PartId) (s : State) : (setRegPart o v p s).free = s.free := rfl
@[simp] theorem setRegPart_out (o v : Nat) (p : PartId) (s : State) : (setRegPart o v p s).out = s.out := rfl
@[simp] theorem setRegPart_pending (o v : Nat) (p : PartId) (s : State) : (setRegPart o v p s).pending = s.pending := rfl

@[simp] theorem cntPort_boot (o n : Nat) (k : PortId) (s : State) : (cntPort o n k s).boot = s.boot := rfl
@[simp] theorem cntPort_pins (o n : Nat) (k : PortId) (s : State) : (cntPort o n k s).pins = s.pins := rfl
@[simp] theorem cntPort_fuses (o n : Nat) (k : PortId) (s : State) : (cntPort o n k s).fuses = s.fuses := rfl
@[simp] theorem cntPort_flash (o n : Nat) (k : PortId) (s : State) : (cntPort o n k s).flash = s.flash := rfl
@[simp] theorem cntPort_cfg (o n : Nat) (k : PortId) (s : State) : (cntPort o n k s).cfg = s.cfg := rfl
@[simp] theorem cntPort_img (o n : Nat) (k : PortId) (s : State) : (cntPort o n k s).img = s.img := rfl
@[simp] theorem cntPort_time (o n : Nat) (k : PortId) (s : State) : (cntPort o n k s).time = s.time := rfl
@[simp] theorem cntPort_commit (o n : Nat) (k : PortId) (s : State) : (cntPort o n k s).commit = s.commit := rfl
@[simp] theorem cntPort_parts (o n : Nat) (k : PortId) (s : State) : (cntPort o n k s).parts = s.parts := rfl
@[simp] theorem cntPort_syc (o n : Nat) (k : PortId) (s : State) : (cntPort o n k s).syc = s.syc := rfl
@[simp] theorem cntPort_hbm (o n : Nat) (k : PortId) (s : State) : (cntPort o n k s).hbm = s.hbm := rfl
@[simp] theorem cntPort_hbmPoison (o n : Nat) (k : PortId) (s : State) : (cntPort o n k s).hbmPoison = s.hbmPoison := rfl
@[simp] theorem cntPort_hbmErr (o n : Nat) (k : PortId) (s : State) : (cntPort o n k s).hbmErr = s.hbmErr := rfl
@[simp] theorem cntPort_sramErr (o n : Nat) (k : PortId) (s : State) : (cntPort o n k s).sramErr = s.sramErr := rfl
@[simp] theorem cntPort_links (o n : Nat) (k : PortId) (s : State) : (cntPort o n k s).links = s.links := rfl
@[simp] theorem cntPort_bridle (o n : Nat) (k : PortId) (s : State) : (cntPort o n k s).bridle = s.bridle := rfl
@[simp] theorem cntPort_planes (o n : Nat) (k : PortId) (s : State) : (cntPort o n k s).planes = s.planes := rfl
@[simp] theorem cntPort_tether (o n : Nat) (k : PortId) (s : State) : (cntPort o n k s).tether = s.tether := rfl
@[simp] theorem cntPort_net (o n : Nat) (k : PortId) (s : State) : (cntPort o n k s).net = s.net := rfl
@[simp] theorem cntPort_col (o n : Nat) (k : PortId) (s : State) : (cntPort o n k s).col = s.col := rfl
@[simp] theorem cntPort_clusters (o n : Nat) (k : PortId) (s : State) : (cntPort o n k s).clusters = s.clusters := rfl
@[simp] theorem cntPort_power (o n : Nat) (k : PortId) (s : State) : (cntPort o n k s).power = s.power := rfl
@[simp] theorem cntPort_pair (o n : Nat) (k : PortId) (s : State) : (cntPort o n k s).pair = s.pair := rfl
@[simp] theorem cntPort_dual (o n : Nat) (k : PortId) (s : State) : (cntPort o n k s).dual = s.dual := rfl
@[simp] theorem cntPort_sec (o n : Nat) (k : PortId) (s : State) : (cntPort o n k s).sec = s.sec := rfl
@[simp] theorem cntPort_bist (o n : Nat) (k : PortId) (s : State) : (cntPort o n k s).bist = s.bist := rfl
@[simp] theorem cntPort_mgt (o n : Nat) (k : PortId) (s : State) : (cntPort o n k s).mgt = s.mgt := rfl
@[simp] theorem cntPort_mp (o n : Nat) (k : PortId) (s : State) : (cntPort o n k s).mp = s.mp := rfl
@[simp] theorem cntPort_mgtRing (o n : Nat) (k : PortId) (s : State) : (cntPort o n k s).mgtRing = s.mgtRing := rfl
@[simp] theorem cntPort_errSelect (o n : Nat) (k : PortId) (s : State) : (cntPort o n k s).errSelect = s.errSelect := rfl
@[simp] theorem cntPort_regs (o n : Nat) (k : PortId) (s : State) : (cntPort o n k s).regs = s.regs := rfl
@[simp] theorem cntPort_latches (o n : Nat) (k : PortId) (s : State) : (cntPort o n k s).latches = s.latches := rfl
@[simp] theorem cntPort_snaps (o n : Nat) (k : PortId) (s : State) : (cntPort o n k s).snaps = s.snaps := rfl
@[simp] theorem cntPort_free (o n : Nat) (k : PortId) (s : State) : (cntPort o n k s).free = s.free := rfl
@[simp] theorem cntPort_out (o n : Nat) (k : PortId) (s : State) : (cntPort o n k s).out = s.out := rfl
@[simp] theorem cntPort_pending (o n : Nat) (k : PortId) (s : State) : (cntPort o n k s).pending = s.pending := rfl

@[simp] theorem cntDev_boot (o n : Nat) (s : State) : (cntDev o n s).boot = s.boot := rfl
@[simp] theorem cntDev_pins (o n : Nat) (s : State) : (cntDev o n s).pins = s.pins := rfl
@[simp] theorem cntDev_fuses (o n : Nat) (s : State) : (cntDev o n s).fuses = s.fuses := rfl
@[simp] theorem cntDev_flash (o n : Nat) (s : State) : (cntDev o n s).flash = s.flash := rfl
@[simp] theorem cntDev_cfg (o n : Nat) (s : State) : (cntDev o n s).cfg = s.cfg := rfl
@[simp] theorem cntDev_img (o n : Nat) (s : State) : (cntDev o n s).img = s.img := rfl
@[simp] theorem cntDev_time (o n : Nat) (s : State) : (cntDev o n s).time = s.time := rfl
@[simp] theorem cntDev_commit (o n : Nat) (s : State) : (cntDev o n s).commit = s.commit := rfl
@[simp] theorem cntDev_ports (o n : Nat) (s : State) : (cntDev o n s).ports = s.ports := rfl
@[simp] theorem cntDev_parts (o n : Nat) (s : State) : (cntDev o n s).parts = s.parts := rfl
@[simp] theorem cntDev_syc (o n : Nat) (s : State) : (cntDev o n s).syc = s.syc := rfl
@[simp] theorem cntDev_hbm (o n : Nat) (s : State) : (cntDev o n s).hbm = s.hbm := rfl
@[simp] theorem cntDev_hbmPoison (o n : Nat) (s : State) : (cntDev o n s).hbmPoison = s.hbmPoison := rfl
@[simp] theorem cntDev_hbmErr (o n : Nat) (s : State) : (cntDev o n s).hbmErr = s.hbmErr := rfl
@[simp] theorem cntDev_sramErr (o n : Nat) (s : State) : (cntDev o n s).sramErr = s.sramErr := rfl
@[simp] theorem cntDev_links (o n : Nat) (s : State) : (cntDev o n s).links = s.links := rfl
@[simp] theorem cntDev_bridle (o n : Nat) (s : State) : (cntDev o n s).bridle = s.bridle := rfl
@[simp] theorem cntDev_planes (o n : Nat) (s : State) : (cntDev o n s).planes = s.planes := rfl
@[simp] theorem cntDev_tether (o n : Nat) (s : State) : (cntDev o n s).tether = s.tether := rfl
@[simp] theorem cntDev_net (o n : Nat) (s : State) : (cntDev o n s).net = s.net := rfl
@[simp] theorem cntDev_col (o n : Nat) (s : State) : (cntDev o n s).col = s.col := rfl
@[simp] theorem cntDev_clusters (o n : Nat) (s : State) : (cntDev o n s).clusters = s.clusters := rfl
@[simp] theorem cntDev_power (o n : Nat) (s : State) : (cntDev o n s).power = s.power := rfl
@[simp] theorem cntDev_pair (o n : Nat) (s : State) : (cntDev o n s).pair = s.pair := rfl
@[simp] theorem cntDev_dual (o n : Nat) (s : State) : (cntDev o n s).dual = s.dual := rfl
@[simp] theorem cntDev_sec (o n : Nat) (s : State) : (cntDev o n s).sec = s.sec := rfl
@[simp] theorem cntDev_bist (o n : Nat) (s : State) : (cntDev o n s).bist = s.bist := rfl
@[simp] theorem cntDev_mgt (o n : Nat) (s : State) : (cntDev o n s).mgt = s.mgt := rfl
@[simp] theorem cntDev_mp (o n : Nat) (s : State) : (cntDev o n s).mp = s.mp := rfl
@[simp] theorem cntDev_mgtRing (o n : Nat) (s : State) : (cntDev o n s).mgtRing = s.mgtRing := rfl
@[simp] theorem cntDev_errSelect (o n : Nat) (s : State) : (cntDev o n s).errSelect = s.errSelect := rfl
@[simp] theorem cntDev_latches (o n : Nat) (s : State) : (cntDev o n s).latches = s.latches := rfl
@[simp] theorem cntDev_snaps (o n : Nat) (s : State) : (cntDev o n s).snaps = s.snaps := rfl
@[simp] theorem cntDev_free (o n : Nat) (s : State) : (cntDev o n s).free = s.free := rfl
@[simp] theorem cntDev_out (o n : Nat) (s : State) : (cntDev o n s).out = s.out := rfl
@[simp] theorem cntDev_pending (o n : Nat) (s : State) : (cntDev o n s).pending = s.pending := rfl

@[simp] theorem cntBridle_boot (o n : Nat) (s : State) : (cntBridle o n s).boot = s.boot := rfl
@[simp] theorem cntBridle_pins (o n : Nat) (s : State) : (cntBridle o n s).pins = s.pins := rfl
@[simp] theorem cntBridle_fuses (o n : Nat) (s : State) : (cntBridle o n s).fuses = s.fuses := rfl
@[simp] theorem cntBridle_flash (o n : Nat) (s : State) : (cntBridle o n s).flash = s.flash := rfl
@[simp] theorem cntBridle_cfg (o n : Nat) (s : State) : (cntBridle o n s).cfg = s.cfg := rfl
@[simp] theorem cntBridle_img (o n : Nat) (s : State) : (cntBridle o n s).img = s.img := rfl
@[simp] theorem cntBridle_time (o n : Nat) (s : State) : (cntBridle o n s).time = s.time := rfl
@[simp] theorem cntBridle_commit (o n : Nat) (s : State) : (cntBridle o n s).commit = s.commit := rfl
@[simp] theorem cntBridle_ports (o n : Nat) (s : State) : (cntBridle o n s).ports = s.ports := rfl
@[simp] theorem cntBridle_parts (o n : Nat) (s : State) : (cntBridle o n s).parts = s.parts := rfl
@[simp] theorem cntBridle_syc (o n : Nat) (s : State) : (cntBridle o n s).syc = s.syc := rfl
@[simp] theorem cntBridle_hbm (o n : Nat) (s : State) : (cntBridle o n s).hbm = s.hbm := rfl
@[simp] theorem cntBridle_hbmPoison (o n : Nat) (s : State) : (cntBridle o n s).hbmPoison = s.hbmPoison := rfl
@[simp] theorem cntBridle_hbmErr (o n : Nat) (s : State) : (cntBridle o n s).hbmErr = s.hbmErr := rfl
@[simp] theorem cntBridle_sramErr (o n : Nat) (s : State) : (cntBridle o n s).sramErr = s.sramErr := rfl
@[simp] theorem cntBridle_links (o n : Nat) (s : State) : (cntBridle o n s).links = s.links := rfl
@[simp] theorem cntBridle_planes (o n : Nat) (s : State) : (cntBridle o n s).planes = s.planes := rfl
@[simp] theorem cntBridle_tether (o n : Nat) (s : State) : (cntBridle o n s).tether = s.tether := rfl
@[simp] theorem cntBridle_net (o n : Nat) (s : State) : (cntBridle o n s).net = s.net := rfl
@[simp] theorem cntBridle_col (o n : Nat) (s : State) : (cntBridle o n s).col = s.col := rfl
@[simp] theorem cntBridle_clusters (o n : Nat) (s : State) : (cntBridle o n s).clusters = s.clusters := rfl
@[simp] theorem cntBridle_power (o n : Nat) (s : State) : (cntBridle o n s).power = s.power := rfl
@[simp] theorem cntBridle_pair (o n : Nat) (s : State) : (cntBridle o n s).pair = s.pair := rfl
@[simp] theorem cntBridle_dual (o n : Nat) (s : State) : (cntBridle o n s).dual = s.dual := rfl
@[simp] theorem cntBridle_sec (o n : Nat) (s : State) : (cntBridle o n s).sec = s.sec := rfl
@[simp] theorem cntBridle_bist (o n : Nat) (s : State) : (cntBridle o n s).bist = s.bist := rfl
@[simp] theorem cntBridle_mgt (o n : Nat) (s : State) : (cntBridle o n s).mgt = s.mgt := rfl
@[simp] theorem cntBridle_mp (o n : Nat) (s : State) : (cntBridle o n s).mp = s.mp := rfl
@[simp] theorem cntBridle_mgtRing (o n : Nat) (s : State) : (cntBridle o n s).mgtRing = s.mgtRing := rfl
@[simp] theorem cntBridle_errSelect (o n : Nat) (s : State) : (cntBridle o n s).errSelect = s.errSelect := rfl
@[simp] theorem cntBridle_regs (o n : Nat) (s : State) : (cntBridle o n s).regs = s.regs := rfl
@[simp] theorem cntBridle_latches (o n : Nat) (s : State) : (cntBridle o n s).latches = s.latches := rfl
@[simp] theorem cntBridle_snaps (o n : Nat) (s : State) : (cntBridle o n s).snaps = s.snaps := rfl
@[simp] theorem cntBridle_free (o n : Nat) (s : State) : (cntBridle o n s).free = s.free := rfl
@[simp] theorem cntBridle_out (o n : Nat) (s : State) : (cntBridle o n s).out = s.out := rfl
@[simp] theorem cntBridle_pending (o n : Nat) (s : State) : (cntBridle o n s).pending = s.pending := rfl

@[simp] theorem cntTether_boot (o n : Nat) (s : State) : (cntTether o n s).boot = s.boot := rfl
@[simp] theorem cntTether_pins (o n : Nat) (s : State) : (cntTether o n s).pins = s.pins := rfl
@[simp] theorem cntTether_fuses (o n : Nat) (s : State) : (cntTether o n s).fuses = s.fuses := rfl
@[simp] theorem cntTether_flash (o n : Nat) (s : State) : (cntTether o n s).flash = s.flash := rfl
@[simp] theorem cntTether_cfg (o n : Nat) (s : State) : (cntTether o n s).cfg = s.cfg := rfl
@[simp] theorem cntTether_img (o n : Nat) (s : State) : (cntTether o n s).img = s.img := rfl
@[simp] theorem cntTether_time (o n : Nat) (s : State) : (cntTether o n s).time = s.time := rfl
@[simp] theorem cntTether_commit (o n : Nat) (s : State) : (cntTether o n s).commit = s.commit := rfl
@[simp] theorem cntTether_ports (o n : Nat) (s : State) : (cntTether o n s).ports = s.ports := rfl
@[simp] theorem cntTether_parts (o n : Nat) (s : State) : (cntTether o n s).parts = s.parts := rfl
@[simp] theorem cntTether_syc (o n : Nat) (s : State) : (cntTether o n s).syc = s.syc := rfl
@[simp] theorem cntTether_hbm (o n : Nat) (s : State) : (cntTether o n s).hbm = s.hbm := rfl
@[simp] theorem cntTether_hbmPoison (o n : Nat) (s : State) : (cntTether o n s).hbmPoison = s.hbmPoison := rfl
@[simp] theorem cntTether_hbmErr (o n : Nat) (s : State) : (cntTether o n s).hbmErr = s.hbmErr := rfl
@[simp] theorem cntTether_sramErr (o n : Nat) (s : State) : (cntTether o n s).sramErr = s.sramErr := rfl
@[simp] theorem cntTether_links (o n : Nat) (s : State) : (cntTether o n s).links = s.links := rfl
@[simp] theorem cntTether_bridle (o n : Nat) (s : State) : (cntTether o n s).bridle = s.bridle := rfl
@[simp] theorem cntTether_planes (o n : Nat) (s : State) : (cntTether o n s).planes = s.planes := rfl
@[simp] theorem cntTether_net (o n : Nat) (s : State) : (cntTether o n s).net = s.net := rfl
@[simp] theorem cntTether_col (o n : Nat) (s : State) : (cntTether o n s).col = s.col := rfl
@[simp] theorem cntTether_clusters (o n : Nat) (s : State) : (cntTether o n s).clusters = s.clusters := rfl
@[simp] theorem cntTether_power (o n : Nat) (s : State) : (cntTether o n s).power = s.power := rfl
@[simp] theorem cntTether_pair (o n : Nat) (s : State) : (cntTether o n s).pair = s.pair := rfl
@[simp] theorem cntTether_dual (o n : Nat) (s : State) : (cntTether o n s).dual = s.dual := rfl
@[simp] theorem cntTether_sec (o n : Nat) (s : State) : (cntTether o n s).sec = s.sec := rfl
@[simp] theorem cntTether_bist (o n : Nat) (s : State) : (cntTether o n s).bist = s.bist := rfl
@[simp] theorem cntTether_mgt (o n : Nat) (s : State) : (cntTether o n s).mgt = s.mgt := rfl
@[simp] theorem cntTether_mp (o n : Nat) (s : State) : (cntTether o n s).mp = s.mp := rfl
@[simp] theorem cntTether_mgtRing (o n : Nat) (s : State) : (cntTether o n s).mgtRing = s.mgtRing := rfl
@[simp] theorem cntTether_errSelect (o n : Nat) (s : State) : (cntTether o n s).errSelect = s.errSelect := rfl
@[simp] theorem cntTether_regs (o n : Nat) (s : State) : (cntTether o n s).regs = s.regs := rfl
@[simp] theorem cntTether_latches (o n : Nat) (s : State) : (cntTether o n s).latches = s.latches := rfl
@[simp] theorem cntTether_snaps (o n : Nat) (s : State) : (cntTether o n s).snaps = s.snaps := rfl
@[simp] theorem cntTether_free (o n : Nat) (s : State) : (cntTether o n s).free = s.free := rfl
@[simp] theorem cntTether_out (o n : Nat) (s : State) : (cntTether o n s).out = s.out := rfl
@[simp] theorem cntTether_pending (o n : Nat) (s : State) : (cntTether o n s).pending = s.pending := rfl

@[simp] theorem cntLink_boot (o n : Nat) (l : LinkId) (s : State) : (cntLink o n l s).boot = s.boot := rfl
@[simp] theorem cntLink_pins (o n : Nat) (l : LinkId) (s : State) : (cntLink o n l s).pins = s.pins := rfl
@[simp] theorem cntLink_fuses (o n : Nat) (l : LinkId) (s : State) : (cntLink o n l s).fuses = s.fuses := rfl
@[simp] theorem cntLink_flash (o n : Nat) (l : LinkId) (s : State) : (cntLink o n l s).flash = s.flash := rfl
@[simp] theorem cntLink_cfg (o n : Nat) (l : LinkId) (s : State) : (cntLink o n l s).cfg = s.cfg := rfl
@[simp] theorem cntLink_img (o n : Nat) (l : LinkId) (s : State) : (cntLink o n l s).img = s.img := rfl
@[simp] theorem cntLink_time (o n : Nat) (l : LinkId) (s : State) : (cntLink o n l s).time = s.time := rfl
@[simp] theorem cntLink_commit (o n : Nat) (l : LinkId) (s : State) : (cntLink o n l s).commit = s.commit := rfl
@[simp] theorem cntLink_ports (o n : Nat) (l : LinkId) (s : State) : (cntLink o n l s).ports = s.ports := rfl
@[simp] theorem cntLink_parts (o n : Nat) (l : LinkId) (s : State) : (cntLink o n l s).parts = s.parts := rfl
@[simp] theorem cntLink_syc (o n : Nat) (l : LinkId) (s : State) : (cntLink o n l s).syc = s.syc := rfl
@[simp] theorem cntLink_hbm (o n : Nat) (l : LinkId) (s : State) : (cntLink o n l s).hbm = s.hbm := rfl
@[simp] theorem cntLink_hbmPoison (o n : Nat) (l : LinkId) (s : State) : (cntLink o n l s).hbmPoison = s.hbmPoison := rfl
@[simp] theorem cntLink_hbmErr (o n : Nat) (l : LinkId) (s : State) : (cntLink o n l s).hbmErr = s.hbmErr := rfl
@[simp] theorem cntLink_sramErr (o n : Nat) (l : LinkId) (s : State) : (cntLink o n l s).sramErr = s.sramErr := rfl
@[simp] theorem cntLink_bridle (o n : Nat) (l : LinkId) (s : State) : (cntLink o n l s).bridle = s.bridle := rfl
@[simp] theorem cntLink_planes (o n : Nat) (l : LinkId) (s : State) : (cntLink o n l s).planes = s.planes := rfl
@[simp] theorem cntLink_tether (o n : Nat) (l : LinkId) (s : State) : (cntLink o n l s).tether = s.tether := rfl
@[simp] theorem cntLink_net (o n : Nat) (l : LinkId) (s : State) : (cntLink o n l s).net = s.net := rfl
@[simp] theorem cntLink_col (o n : Nat) (l : LinkId) (s : State) : (cntLink o n l s).col = s.col := rfl
@[simp] theorem cntLink_clusters (o n : Nat) (l : LinkId) (s : State) : (cntLink o n l s).clusters = s.clusters := rfl
@[simp] theorem cntLink_power (o n : Nat) (l : LinkId) (s : State) : (cntLink o n l s).power = s.power := rfl
@[simp] theorem cntLink_pair (o n : Nat) (l : LinkId) (s : State) : (cntLink o n l s).pair = s.pair := rfl
@[simp] theorem cntLink_dual (o n : Nat) (l : LinkId) (s : State) : (cntLink o n l s).dual = s.dual := rfl
@[simp] theorem cntLink_sec (o n : Nat) (l : LinkId) (s : State) : (cntLink o n l s).sec = s.sec := rfl
@[simp] theorem cntLink_bist (o n : Nat) (l : LinkId) (s : State) : (cntLink o n l s).bist = s.bist := rfl
@[simp] theorem cntLink_mgt (o n : Nat) (l : LinkId) (s : State) : (cntLink o n l s).mgt = s.mgt := rfl
@[simp] theorem cntLink_mp (o n : Nat) (l : LinkId) (s : State) : (cntLink o n l s).mp = s.mp := rfl
@[simp] theorem cntLink_mgtRing (o n : Nat) (l : LinkId) (s : State) : (cntLink o n l s).mgtRing = s.mgtRing := rfl
@[simp] theorem cntLink_errSelect (o n : Nat) (l : LinkId) (s : State) : (cntLink o n l s).errSelect = s.errSelect := rfl
@[simp] theorem cntLink_regs (o n : Nat) (l : LinkId) (s : State) : (cntLink o n l s).regs = s.regs := rfl
@[simp] theorem cntLink_latches (o n : Nat) (l : LinkId) (s : State) : (cntLink o n l s).latches = s.latches := rfl
@[simp] theorem cntLink_snaps (o n : Nat) (l : LinkId) (s : State) : (cntLink o n l s).snaps = s.snaps := rfl
@[simp] theorem cntLink_free (o n : Nat) (l : LinkId) (s : State) : (cntLink o n l s).free = s.free := rfl
@[simp] theorem cntLink_out (o n : Nat) (l : LinkId) (s : State) : (cntLink o n l s).out = s.out := rfl
@[simp] theorem cntLink_pending (o n : Nat) (l : LinkId) (s : State) : (cntLink o n l s).pending = s.pending := rfl

@[simp] theorem cntPlane_boot (o n : Nat) (l : PlaneId) (s : State) : (cntPlane o n l s).boot = s.boot := rfl
@[simp] theorem cntPlane_pins (o n : Nat) (l : PlaneId) (s : State) : (cntPlane o n l s).pins = s.pins := rfl
@[simp] theorem cntPlane_fuses (o n : Nat) (l : PlaneId) (s : State) : (cntPlane o n l s).fuses = s.fuses := rfl
@[simp] theorem cntPlane_flash (o n : Nat) (l : PlaneId) (s : State) : (cntPlane o n l s).flash = s.flash := rfl
@[simp] theorem cntPlane_cfg (o n : Nat) (l : PlaneId) (s : State) : (cntPlane o n l s).cfg = s.cfg := rfl
@[simp] theorem cntPlane_img (o n : Nat) (l : PlaneId) (s : State) : (cntPlane o n l s).img = s.img := rfl
@[simp] theorem cntPlane_time (o n : Nat) (l : PlaneId) (s : State) : (cntPlane o n l s).time = s.time := rfl
@[simp] theorem cntPlane_commit (o n : Nat) (l : PlaneId) (s : State) : (cntPlane o n l s).commit = s.commit := rfl
@[simp] theorem cntPlane_ports (o n : Nat) (l : PlaneId) (s : State) : (cntPlane o n l s).ports = s.ports := rfl
@[simp] theorem cntPlane_parts (o n : Nat) (l : PlaneId) (s : State) : (cntPlane o n l s).parts = s.parts := rfl
@[simp] theorem cntPlane_syc (o n : Nat) (l : PlaneId) (s : State) : (cntPlane o n l s).syc = s.syc := rfl
@[simp] theorem cntPlane_hbm (o n : Nat) (l : PlaneId) (s : State) : (cntPlane o n l s).hbm = s.hbm := rfl
@[simp] theorem cntPlane_hbmPoison (o n : Nat) (l : PlaneId) (s : State) : (cntPlane o n l s).hbmPoison = s.hbmPoison := rfl
@[simp] theorem cntPlane_hbmErr (o n : Nat) (l : PlaneId) (s : State) : (cntPlane o n l s).hbmErr = s.hbmErr := rfl
@[simp] theorem cntPlane_sramErr (o n : Nat) (l : PlaneId) (s : State) : (cntPlane o n l s).sramErr = s.sramErr := rfl
@[simp] theorem cntPlane_links (o n : Nat) (l : PlaneId) (s : State) : (cntPlane o n l s).links = s.links := rfl
@[simp] theorem cntPlane_bridle (o n : Nat) (l : PlaneId) (s : State) : (cntPlane o n l s).bridle = s.bridle := rfl
@[simp] theorem cntPlane_tether (o n : Nat) (l : PlaneId) (s : State) : (cntPlane o n l s).tether = s.tether := rfl
@[simp] theorem cntPlane_net (o n : Nat) (l : PlaneId) (s : State) : (cntPlane o n l s).net = s.net := rfl
@[simp] theorem cntPlane_col (o n : Nat) (l : PlaneId) (s : State) : (cntPlane o n l s).col = s.col := rfl
@[simp] theorem cntPlane_clusters (o n : Nat) (l : PlaneId) (s : State) : (cntPlane o n l s).clusters = s.clusters := rfl
@[simp] theorem cntPlane_power (o n : Nat) (l : PlaneId) (s : State) : (cntPlane o n l s).power = s.power := rfl
@[simp] theorem cntPlane_pair (o n : Nat) (l : PlaneId) (s : State) : (cntPlane o n l s).pair = s.pair := rfl
@[simp] theorem cntPlane_dual (o n : Nat) (l : PlaneId) (s : State) : (cntPlane o n l s).dual = s.dual := rfl
@[simp] theorem cntPlane_sec (o n : Nat) (l : PlaneId) (s : State) : (cntPlane o n l s).sec = s.sec := rfl
@[simp] theorem cntPlane_bist (o n : Nat) (l : PlaneId) (s : State) : (cntPlane o n l s).bist = s.bist := rfl
@[simp] theorem cntPlane_mgt (o n : Nat) (l : PlaneId) (s : State) : (cntPlane o n l s).mgt = s.mgt := rfl
@[simp] theorem cntPlane_mp (o n : Nat) (l : PlaneId) (s : State) : (cntPlane o n l s).mp = s.mp := rfl
@[simp] theorem cntPlane_mgtRing (o n : Nat) (l : PlaneId) (s : State) : (cntPlane o n l s).mgtRing = s.mgtRing := rfl
@[simp] theorem cntPlane_errSelect (o n : Nat) (l : PlaneId) (s : State) : (cntPlane o n l s).errSelect = s.errSelect := rfl
@[simp] theorem cntPlane_regs (o n : Nat) (l : PlaneId) (s : State) : (cntPlane o n l s).regs = s.regs := rfl
@[simp] theorem cntPlane_latches (o n : Nat) (l : PlaneId) (s : State) : (cntPlane o n l s).latches = s.latches := rfl
@[simp] theorem cntPlane_snaps (o n : Nat) (l : PlaneId) (s : State) : (cntPlane o n l s).snaps = s.snaps := rfl
@[simp] theorem cntPlane_free (o n : Nat) (l : PlaneId) (s : State) : (cntPlane o n l s).free = s.free := rfl
@[simp] theorem cntPlane_out (o n : Nat) (l : PlaneId) (s : State) : (cntPlane o n l s).out = s.out := rfl
@[simp] theorem cntPlane_pending (o n : Nat) (l : PlaneId) (s : State) : (cntPlane o n l s).pending = s.pending := rfl

@[simp] theorem cntPower_boot (o n : Nat) (s : State) : (cntPower o n s).boot = s.boot := rfl
@[simp] theorem cntPower_pins (o n : Nat) (s : State) : (cntPower o n s).pins = s.pins := rfl
@[simp] theorem cntPower_fuses (o n : Nat) (s : State) : (cntPower o n s).fuses = s.fuses := rfl
@[simp] theorem cntPower_flash (o n : Nat) (s : State) : (cntPower o n s).flash = s.flash := rfl
@[simp] theorem cntPower_cfg (o n : Nat) (s : State) : (cntPower o n s).cfg = s.cfg := rfl
@[simp] theorem cntPower_img (o n : Nat) (s : State) : (cntPower o n s).img = s.img := rfl
@[simp] theorem cntPower_time (o n : Nat) (s : State) : (cntPower o n s).time = s.time := rfl
@[simp] theorem cntPower_commit (o n : Nat) (s : State) : (cntPower o n s).commit = s.commit := rfl
@[simp] theorem cntPower_ports (o n : Nat) (s : State) : (cntPower o n s).ports = s.ports := rfl
@[simp] theorem cntPower_parts (o n : Nat) (s : State) : (cntPower o n s).parts = s.parts := rfl
@[simp] theorem cntPower_syc (o n : Nat) (s : State) : (cntPower o n s).syc = s.syc := rfl
@[simp] theorem cntPower_hbm (o n : Nat) (s : State) : (cntPower o n s).hbm = s.hbm := rfl
@[simp] theorem cntPower_hbmPoison (o n : Nat) (s : State) : (cntPower o n s).hbmPoison = s.hbmPoison := rfl
@[simp] theorem cntPower_hbmErr (o n : Nat) (s : State) : (cntPower o n s).hbmErr = s.hbmErr := rfl
@[simp] theorem cntPower_sramErr (o n : Nat) (s : State) : (cntPower o n s).sramErr = s.sramErr := rfl
@[simp] theorem cntPower_links (o n : Nat) (s : State) : (cntPower o n s).links = s.links := rfl
@[simp] theorem cntPower_bridle (o n : Nat) (s : State) : (cntPower o n s).bridle = s.bridle := rfl
@[simp] theorem cntPower_planes (o n : Nat) (s : State) : (cntPower o n s).planes = s.planes := rfl
@[simp] theorem cntPower_tether (o n : Nat) (s : State) : (cntPower o n s).tether = s.tether := rfl
@[simp] theorem cntPower_net (o n : Nat) (s : State) : (cntPower o n s).net = s.net := rfl
@[simp] theorem cntPower_col (o n : Nat) (s : State) : (cntPower o n s).col = s.col := rfl
@[simp] theorem cntPower_clusters (o n : Nat) (s : State) : (cntPower o n s).clusters = s.clusters := rfl
@[simp] theorem cntPower_pair (o n : Nat) (s : State) : (cntPower o n s).pair = s.pair := rfl
@[simp] theorem cntPower_dual (o n : Nat) (s : State) : (cntPower o n s).dual = s.dual := rfl
@[simp] theorem cntPower_sec (o n : Nat) (s : State) : (cntPower o n s).sec = s.sec := rfl
@[simp] theorem cntPower_bist (o n : Nat) (s : State) : (cntPower o n s).bist = s.bist := rfl
@[simp] theorem cntPower_mgt (o n : Nat) (s : State) : (cntPower o n s).mgt = s.mgt := rfl
@[simp] theorem cntPower_mp (o n : Nat) (s : State) : (cntPower o n s).mp = s.mp := rfl
@[simp] theorem cntPower_mgtRing (o n : Nat) (s : State) : (cntPower o n s).mgtRing = s.mgtRing := rfl
@[simp] theorem cntPower_errSelect (o n : Nat) (s : State) : (cntPower o n s).errSelect = s.errSelect := rfl
@[simp] theorem cntPower_regs (o n : Nat) (s : State) : (cntPower o n s).regs = s.regs := rfl
@[simp] theorem cntPower_latches (o n : Nat) (s : State) : (cntPower o n s).latches = s.latches := rfl
@[simp] theorem cntPower_snaps (o n : Nat) (s : State) : (cntPower o n s).snaps = s.snaps := rfl
@[simp] theorem cntPower_free (o n : Nat) (s : State) : (cntPower o n s).free = s.free := rfl
@[simp] theorem cntPower_out (o n : Nat) (s : State) : (cntPower o n s).out = s.out := rfl
@[simp] theorem cntPower_pending (o n : Nat) (s : State) : (cntPower o n s).pending = s.pending := rfl

@[simp] theorem emit_out (e : Emit) (s : State) : (emit e s).out = e :: s.out := rfl

@[simp] theorem getPart_updPart (s : State) (p : PartId) (f : Part → Part) : getPart (updPart s p f) p = f (getPart s p) := by
  simp [getPart, updPart]
theorem getPart_updPart_ne (s : State) (p q : PartId) (f : Part → Part) (h : p ≠ q) : getPart (updPart s p f) q = getPart s q := by
  have h' : (p : Nat) ≠ q := fun e => h (Fin.ext e)
  simp [getPart, updPart, h']
@[simp] theorem getPort_updPort (s : State) (p : PortId) (f : Port → Port) : getPort (updPort s p f) p = f (getPort s p) := by
  simp [getPort, updPort]
theorem getPort_updPort_ne (s : State) (p q : PortId) (f : Port → Port) (h : p ≠ q) : getPort (updPort s p f) q = getPort s q := by
  have h' : (p : Nat) ≠ q := fun e => h (Fin.ext e)
  simp [getPort, updPort, h']
@[simp] theorem getLink_updLink (s : State) (p : LinkId) (f : Link → Link) : getLink (updLink s p f) p = f (getLink s p) := by
  simp [getLink, updLink]
theorem getLink_updLink_ne (s : State) (p q : LinkId) (f : Link → Link) (h : p ≠ q) : getLink (updLink s p f) q = getLink s q := by
  have h' : (p : Nat) ≠ q := fun e => h (Fin.ext e)
  simp [getLink, updLink, h']
@[simp] theorem getPlane_updPlane (s : State) (p : PlaneId) (f : Plane → Plane) : getPlane (updPlane s p f) p = f (getPlane s p) := by
  simp [getPlane, updPlane]
theorem getPlane_updPlane_ne (s : State) (p q : PlaneId) (f : Plane → Plane) (h : p ≠ q) : getPlane (updPlane s p f) q = getPlane s q := by
  have h' : (p : Nat) ≠ q := fun e => h (Fin.ext e)
  simp [getPlane, updPlane, h']
@[simp] theorem getCluster_updCluster (s : State) (p : ClusterId) (f : Cluster → Cluster) : getCluster (updCluster s p f) p = f (getCluster s p) := by
  simp [getCluster, updCluster]
theorem getCluster_updCluster_ne (s : State) (p q : ClusterId) (f : Cluster → Cluster) (h : p ≠ q) : getCluster (updCluster s p f) q = getCluster s q := by
  have h' : (p : Nat) ≠ q := fun e => h (Fin.ext e)
  simp [getCluster, updCluster, h']
@[simp] theorem getStream_updStream (s : State) (p : PartId) (x : StreamId) (f : Stream → Stream) :
    getStream (updStream s p x f) p x = f (getStream s p x) := by
  simp [getStream, updStream]
@[simp] theorem getPart_updJob (s : State) (p : PartId) (f : Job → Job) :
    (getPart (updJob s p f) p).job = f (getPart s p).job := by
  simp [updJob]

@[simp] theorem getPart_emit (e : Emit) (s : State) (p : PartId) : getPart (emit e s) p = getPart s p := rfl
@[simp] theorem getPart_cntDev (o n : Nat) (s : State) (p : PartId) : getPart (cntDev o n s) p = getPart s p := rfl
@[simp] theorem getPort_emit (e : Emit) (s : State) (p : PortId) : getPort (emit e s) p = getPort s p := rfl
@[simp] theorem getPort_cntDev (o n : Nat) (s : State) (p : PortId) : getPort (cntDev o n s) p = getPort s p := rfl
@[simp] theorem getLink_emit (e : Emit) (s : State) (p : LinkId) : getLink (emit e s) p = getLink s p := rfl
@[simp] theorem getLink_cntDev (o n : Nat) (s : State) (p : LinkId) : getLink (cntDev o n s) p = getLink s p := rfl
@[simp] theorem getPlane_emit (e : Emit) (s : State) (p : PlaneId) : getPlane (emit e s) p = getPlane s p := rfl
@[simp] theorem getPlane_cntDev (o n : Nat) (s : State) (p : PlaneId) : getPlane (cntDev o n s) p = getPlane s p := rfl
@[simp] theorem getCluster_emit (e : Emit) (s : State) (p : ClusterId) : getCluster (emit e s) p = getCluster s p := rfl
@[simp] theorem getCluster_cntDev (o n : Nat) (s : State) (p : ClusterId) : getCluster (cntDev o n s) p = getCluster s p := rfl

end Sys2Proof.Laws
end

