-- ==== Sys2Proof/Laws/Still1.lean ====
section
/-!
SUPPORT. Still1.lean: the relation itself, then what leaves the standing state alone, one lemma per operation, in the order of the definitions (1 of 5).
Still s t: start-up state, pins, fuses and the configuration applied are those of s.
-/
set_option linter.all false
namespace Sys2Proof.Laws
open Sys2Proof Sys2Proof.Machine Sys2Proof.Safety

structure Still (s t : State) : Prop where
  sram : s.sramErr = [] → t.sramErr = []
  boot : s.sramErr = [] → t.boot = s.boot
  pins : s.sramErr = [] → t.pins = s.pins
  fuses : s.sramErr = [] → t.fuses = s.fuses
  cfg : s.sramErr = [] → t.cfg = s.cfg
  img : s.sramErr = [] → t.img = s.img

theorem Still.refl (s : State) : Still s s := ⟨id, fun _ => rfl, fun _ => rfl, fun _ => rfl, fun _ => rfl, fun _ => rfl⟩

theorem Still.upd {s0 X : State} (xe x0 x1 x2 x3 x4 x5 x6 x7 x8 x9 x10 x11 x12 x13 x14 x15 x16 x17 x18 x19 x20 x21 x22 x23 x24 x25 x26 x27 x28 x29) :
    Still s0 {
      boot := X.boot
      pins := X.pins
      fuses := X.fuses
      flash := x0
      cfg := X.cfg
      img := X.img
      time := x1
      commit := x2
      ports := x3
      parts := x4
      syc := x5
      hbm := x6
      hbmPoison := x7
      hbmErr := xe
      sramErr := X.sramErr
      links := x8
      bridle := x9
      planes := x10
      tether := x11
      net := x12
      col := x13
      clusters := x14
      power := x15
      pair := x16
      dual := x17
      sec := x18
      bist := x19
      mgt := x20
      mp := x21
      mgtRing := x22
      errSelect := x23
      regs := x24
      latches := x25
      snaps := x26
      free := x27
      out := x28
      pending := x29 } ↔ Still s0 X :=
  ⟨fun h => ⟨h.sram, h.boot, h.pins, h.fuses, h.cfg, h.img⟩, fun h => ⟨h.sram, h.boot, h.pins, h.fuses, h.cfg, h.img⟩⟩

theorem Still.sramFilter {s0 s : State} (g : PartId × EccFind → Bool) (h : Still s0 s) : Still s0 { s with sramErr := s.sramErr.filter g } :=
  ⟨fun n => by rw [h.sram n]; rfl, h.boot, h.pins, h.fuses, h.cfg, h.img⟩

/-- With no error standing in SRAM, none is met. -/
theorem Still.sramFold {s0 s u : State} (hs : Still s0 s) (hu : Still s0 u) (g : PartId × EccFind → Bool) (f : State → PartId × EccFind → State) :
    Still s0 ((s.sramErr.filter g).foldl f u) := by
  have e : s0.sramErr = [] → (s.sramErr.filter g).foldl f u = u := fun n => by rw [hs.sram n]; rfl
  exact ⟨fun n => by rw [e n]; exact hu.sram n, fun n => by rw [e n]; exact hu.boot n, fun n => by rw [e n]; exact hu.pins n, fun n => by rw [e n]; exact hu.fuses n, fun n => by rw [e n]; exact hu.cfg n, fun n => by rw [e n]; exact hu.img n⟩

theorem Still.ite {s0 : State} {c : Prop} [Decidable c] {a b : State} (ha : Still s0 a) (hb : Still s0 b) : Still s0 (if c then a else b) := by
  split <;> assumption

theorem Still.foldl {α : Type} {s0 : State} (f : State → α → State) (hf : ∀ s x, Still s0 s → Still s0 (f s x)) :
    ∀ (l : List α) (s : State), Still s0 s → Still s0 (l.foldl f s)
  | [], _, h => h
  | x :: l, s, h => Still.foldl f hf l (f s x) (hf s x h)


theorem Still.iteSnd {α : Type} {s0 : State} {c : Prop} [Decidable c] {a b : α × State} (ha : Still s0 a.2) (hb : Still s0 b.2) :
    Still s0 (if c then a else b).2 := by
  split <;> assumption

theorem Still.iteFst {α : Type} {s0 : State} {c : Prop} [Decidable c] {a b : State × α} (ha : Still s0 a.1) (hb : Still s0 b.1) :
    Still s0 (if c then a else b).1 := by
  split <;> assumption

/-- The same for what a command answers. -/
def StillO (s0 : State) : Out → Prop
  | .next t => Still s0 t
  | _ => True

theorem StillO.next {s0 t : State} (h : Still s0 t) : StillO s0 (.next t) := h

theorem StillO.ite {s0 : State} {c : Prop} [Decidable c] {a b : Out} (ha : StillO s0 a) (hb : StillO s0 b) : StillO s0 (if c then a else b) := by
  split <;> assumption

theorem updPart_still {s0 : State} (s : State) (p : PartId) (f : Part → Part) (hk : Still s0 s) : Still s0 (updPart s p f) := by
  unfold updPart
  repeat (first | with_reducible assumption | intro _ | with_reducible apply Still.ite | simp only [Still.upd] | dsimp only | split)

theorem updPort_still {s0 : State} (s : State) (k : PortId) (f : Port → Port) (hk : Still s0 s) : Still s0 (updPort s k f) := by
  unfold updPort
  repeat (first | with_reducible assumption | intro _ | with_reducible apply Still.ite | simp only [Still.upd] | dsimp only | split)

theorem updLink_still {s0 : State} (s : State) (l : LinkId) (f : Link → Link) (hk : Still s0 s) : Still s0 (updLink s l f) := by
  unfold updLink
  repeat (first | with_reducible assumption | intro _ | with_reducible apply Still.ite | simp only [Still.upd] | dsimp only | split)

theorem updPlane_still {s0 : State} (s : State) (p : PlaneId) (f : Plane → Plane) (hk : Still s0 s) : Still s0 (updPlane s p f) := by
  unfold updPlane
  repeat (first | with_reducible assumption | intro _ | with_reducible apply Still.ite | simp only [Still.upd] | dsimp only | split)

theorem updCluster_still {s0 : State} (s : State) (c : ClusterId) (f : Cluster → Cluster) (hk : Still s0 s) : Still s0 (updCluster s c f) := by
  unfold updCluster
  repeat (first | with_reducible assumption | intro _ | with_reducible apply Still.ite | simp only [Still.upd] | dsimp only | split)

theorem updStream_still {s0 : State} (s : State) (p : PartId) (st : StreamId) (f : Stream → Stream) (hk : Still s0 s) : Still s0 (updStream s p st f) := by
  unfold updStream
  repeat (first | with_reducible assumption | with_reducible apply updPart_still | intro _ | with_reducible apply Still.ite | simp only [Still.upd] | dsimp only | split)

theorem updJob_still {s0 : State} (s : State) (p : PartId) (f : Job → Job) (hk : Still s0 s) : Still s0 (updJob s p f) := by
  unfold updJob
  repeat (first | with_reducible assumption | with_reducible apply updPart_still | intro _ | with_reducible apply Still.ite | simp only [Still.upd] | dsimp only | split)

theorem eachOf_still {s0 : State} {α : Type} (f : α → State → State) (hf : ∀ x s, Still s0 s → Still s0 (f x s)) (l : List α)
    (s : State) (h : Still s0 s) : Still s0 (eachOf l f s) :=
  Still.foldl (fun a x => f x a) (fun s x => hf x s) l s h

theorem emit_still {s0 : State} (e : Emit) (s : State) (hk : Still s0 s) : Still s0 (emit e s) := by
  unfold emit
  repeat (first | with_reducible assumption | intro _ | with_reducible apply Still.ite | simp only [Still.upd] | dsimp only | split)

theorem takeFree_still {s0 t : State} {v : Nat} {s : State} (e : takeFree s = (v, t)) (hk : Still s0 s) : Still s0 t := by
  unfold takeFree at e
  (try dsimp only at e)
  repeat' split at e
  all_goals (try cases e)
  all_goals repeat (first | with_reducible assumption | intro _ | with_reducible apply Still.ite | simp only [Still.upd] | dsimp only | split)

theorem takeFree_snd_still {s0 : State} (s : State) (hk : Still s0 s) : Still s0 (takeFree s).2 :=
  takeFree_still (Prod.eta _).symm hk

theorem cntPart_still {s0 : State} (off n : Nat) (p : PartId) (s : State) (hk : Still s0 s) : Still s0 (cntPart off n p s) := by
  unfold cntPart
  repeat (first | with_reducible assumption | with_reducible apply updPart_still | intro _ | with_reducible apply Still.ite | simp only [Still.upd] | dsimp only | split)

theorem cntPart64_still {s0 : State} (off n : Nat) (p : PartId) (s : State) (hk : Still s0 s) : Still s0 (cntPart64 off n p s) := by
  unfold cntPart64
  repeat (first | with_reducible assumption | with_reducible apply updPart_still | intro _ | with_reducible apply Still.ite | simp only [Still.upd] | dsimp only | split)

theorem cntPort_still {s0 : State} (off n : Nat) (k : PortId) (s : State) (hk : Still s0 s) : Still s0 (cntPort off n k s) := by
  unfold cntPort
  repeat (first | with_reducible assumption | with_reducible apply updPort_still | intro _ | with_reducible apply Still.ite | simp only [Still.upd] | dsimp only | split)

theorem cntDev_still {s0 : State} (off n : Nat) (s : State) (hk : Still s0 s) : Still s0 (cntDev off n s) := by
  unfold cntDev
  repeat (first | with_reducible assumption | intro _ | with_reducible apply Still.ite | simp only [Still.upd] | dsimp only | split)

theorem cntBridle_still {s0 : State} (off n : Nat) (s : State) (hk : Still s0 s) : Still s0 (cntBridle off n s) := by
  unfold cntBridle
  repeat (first | with_reducible assumption | intro _ | with_reducible apply Still.ite | simp only [Still.upd] | dsimp only | split)

theorem cntTether_still {s0 : State} (off n : Nat) (s : State) (hk : Still s0 s) : Still s0 (cntTether off n s) := by
  unfold cntTether
  repeat (first | with_reducible assumption | intro _ | with_reducible apply Still.ite | simp only [Still.upd] | dsimp only | split)

theorem cntLink_still {s0 : State} (off n : Nat) (l : LinkId) (s : State) (hk : Still s0 s) : Still s0 (cntLink off n l s) := by
  unfold cntLink
  repeat (first | with_reducible assumption | with_reducible apply updLink_still | intro _ | with_reducible apply Still.ite | simp only [Still.upd] | dsimp only | split)

theorem cntPlane_still {s0 : State} (off n : Nat) (l : PlaneId) (s : State) (hk : Still s0 s) : Still s0 (cntPlane off n l s) := by
  unfold cntPlane
  repeat (first | with_reducible assumption | with_reducible apply updPlane_still | intro _ | with_reducible apply Still.ite | simp only [Still.upd] | dsimp only | split)

theorem cntPower_still {s0 : State} (off n : Nat) (s : State) (hk : Still s0 s) : Still s0 (cntPower off n s) := by
  unfold cntPower
  repeat (first | with_reducible assumption | intro _ | with_reducible apply Still.ite | simp only [Still.upd] | dsimp only | split)

theorem setRegPart_still {s0 : State} (off v : Nat) (p : PartId) (s : State) (hk : Still s0 s) : Still s0 (setRegPart off v p s) := by
  unfold setRegPart
  repeat (first | with_reducible assumption | with_reducible apply updPart_still | intro _ | with_reducible apply Still.ite | simp only [Still.upd] | dsimp only | split)

theorem mgtEvent_still {s0 : State} (ev unit arg : Nat) (s : State) (hk : Still s0 s) : Still s0 (mgtEvent ev unit arg s) := by
  unfold mgtEvent
  repeat (first | with_reducible assumption | with_reducible apply cntDev_still | with_reducible apply emit_still | intro _ | with_reducible apply Still.ite | simp only [Still.upd] | dsimp only | split)

theorem hbmWrite_still {s0 : State} (a : Nat) (b : Bytes) (s : State) (hk : Still s0 s) : Still s0 (hbmWrite a b s) := by
  unfold hbmWrite
  repeat (first | with_reducible assumption | intro _ | with_reducible apply Still.ite | simp only [Still.upd] | dsimp only | split)

theorem charge_still {s0 : State} (p : PartId) (i : Fin 4) (n : Nat) (s : State) (hk : Still s0 s) : Still s0 (charge p i n s) := by
  unfold charge
  repeat (first | with_reducible assumption | with_reducible apply updPart_still | intro _ | with_reducible apply Still.ite | simp only [Still.upd] | dsimp only | split)

theorem stall_still {s0 : State} (p : PartId) (i : Fin 4) (s : State) (hk : Still s0 s) : Still s0 (stall p i s) := by
  unfold stall
  repeat (first | with_reducible assumption | with_reducible apply cntPart_still | with_reducible apply updPart_still | intro _ | with_reducible apply Still.ite | simp only [Still.upd] | dsimp only | split)

theorem hbmHold_still {s0 : State} (p : PartId) (i : Nat) (s : State) (hk : Still s0 s) : Still s0 (hbmHold p i s) := by
  unfold hbmHold
  repeat (first | with_reducible assumption | with_reducible apply stall_still | with_reducible apply updPart_still | intro _ | with_reducible apply Still.ite | simp only [Still.upd] | dsimp only | split)

theorem hbmGo_still {s0 : State} (p : PartId) (i : Nat) (s : State) (hk : Still s0 s) : Still s0 (hbmGo p i s) := by
  unfold hbmGo
  repeat (first | with_reducible assumption | with_reducible apply updPart_still | intro _ | with_reducible apply Still.ite | simp only [Still.upd] | dsimp only | split)

theorem noteWaits_still {s0 : State} (p : PartId) (s : State) (hk : Still s0 s) : Still s0 (noteWaits p s) := by
  unfold noteWaits
  repeat (first | with_reducible assumption | with_reducible apply updPart_still | intro _ | with_reducible apply Still.ite | simp only [Still.upd] | dsimp only | split)

theorem setPend_still {s0 : State} (k : PortId) (v : Nat) (s : State) (hk : Still s0 s) : Still s0 (setPend k v s) := by
  unfold setPend
  repeat (first | with_reducible assumption | with_reducible apply updPort_still | intro _ | with_reducible apply Still.ite | simp only [Still.upd] | dsimp only | split)

theorem issueOne_still {s0 t : State} {k : PortId} {r : DmaReq} {s : State} (e : issueOne k r s = some t) (hk : Still s0 s) : Still s0 t := by
  unfold issueOne at e
  (try dsimp only at e)
  repeat' split at e
  all_goals (try cases e)
  all_goals repeat (first | with_reducible assumption | with_reducible apply updPort_still | with_reducible apply charge_still | with_reducible apply emit_still | with_reducible apply setPend_still | intro _ | with_reducible apply Still.ite | simp only [Still.upd] | dsimp only | split)

theorem pumpList_still {s0 : State} (k : PortId) : ∀ (x0 : List DmaReq) (s : State), Still s0 s → Still s0 (pumpList k x0 s)
  | [], s, h => by
    unfold pumpList
    repeat (first | with_reducible assumption | with_reducible apply updPort_still | with_reducible refine issueOne_still (by with_reducible assumption) ?_ | with_reducible apply stall_still | intro _ | with_reducible apply Still.ite | simp only [Still.upd] | dsimp only | split)
  | r :: rs, s, h => by
    unfold pumpList
    repeat (first | with_reducible assumption | with_reducible apply pumpList_still | with_reducible apply updPort_still | with_reducible refine issueOne_still (by with_reducible assumption) ?_ | with_reducible apply stall_still | intro _ | with_reducible apply Still.ite | simp only [Still.upd] | dsimp only | split)

theorem pump_still {s0 : State} (k : PortId) (s : State) (hk : Still s0 s) : Still s0 (pump k s) := by
  unfold pump
  repeat (first | with_reducible assumption | with_reducible apply pumpList_still | with_reducible apply noteWaits_still | intro _ | with_reducible apply Still.ite | simp only [Still.upd] | dsimp only | split)

theorem dmaPush_still {s0 : State} (k : PortId) (rs : List DmaReq) (s : State) (hk : Still s0 s) : Still s0 (dmaPush k rs s) := by
  unfold dmaPush
  repeat (first | with_reducible assumption | with_reducible apply pump_still | with_reducible apply updPort_still | intro _ | with_reducible apply Still.ite | simp only [Still.upd] | dsimp only | split)

theorem wakeEvent_still {s0 : State} (k : PortId) (cause : Nat) (s : State) (hk : Still s0 s) : Still s0 (wakeEvent k cause s) := by
  unfold wakeEvent
  repeat (first | with_reducible assumption | with_reducible apply updPort_still | intro _ | with_reducible apply Still.ite | simp only [Still.upd] | dsimp only | split)

theorem msix_still {s0 : State} (k : PortId) (v : Nat) (s : State) (hk : Still s0 s) : Still s0 (msix k v s) := by
  unfold msix
  repeat (first | with_reducible assumption | with_reducible apply setPend_still | with_reducible apply wakeEvent_still | with_reducible apply dmaPush_still | intro _ | with_reducible apply Still.ite | simp only [Still.upd] | dsimp only | split)

theorem msixPart_still {s0 : State} (p : PartId) (v : Nat) (s : State) (hk : Still s0 s) : Still s0 (msixPart p v s) := by
  unfold msixPart
  repeat (first | with_reducible assumption | with_reducible apply msix_still | intro _ | with_reducible apply Still.ite | simp only [Still.upd] | dsimp only | split)

theorem traceGen_still {s0 : State} (p : PartId) (r : TraceRec) (s : State) (hk : Still s0 s) : Still s0 (traceGen p r s) := by
  unfold traceGen
  repeat (first | with_reducible assumption | with_reducible apply cntPart_still | with_reducible apply updPart_still | intro _ | with_reducible apply Still.ite | simp only [Still.upd] | dsimp only | split)

theorem traceCmd_still {s0 : State} (p : PartId) (st : StreamId) (desc : Bytes) (kind : TraceKind) (detail : Nat) (s : State) (hk : Still s0 s) : Still s0 (traceCmd p st desc kind detail s) := by
  unfold traceCmd
  repeat (first | with_reducible assumption | with_reducible apply traceGen_still | intro _ | with_reducible apply Still.ite | simp only [Still.upd] | dsimp only | split)

theorem mgtRecord_still {s0 : State} (r : ErrRec) (s : State) (hk : Still s0 s) : Still s0 (mgtRecord r s) := by
  unfold mgtRecord
  repeat (first | with_reducible assumption | with_reducible apply cntDev_still | with_reducible apply mgtEvent_still | intro _ | with_reducible apply Still.ite | simp only [Still.upd] | dsimp only | split)

theorem partRecord_still {s0 : State} (p : PartId) (r : ErrRec) (s : State) (hk : Still s0 s) : Still s0 (partRecord p r s) := by
  unfold partRecord
  repeat (first | with_reducible assumption | with_reducible apply cntPart_still | with_reducible apply updPart_still | with_reducible apply wakeEvent_still | with_reducible apply dmaPush_still | with_reducible apply msixPart_still | intro _ | with_reducible apply Still.ite | simp only [Still.upd] | dsimp only | split)

theorem record_still {s0 : State} (p : PartId) (r : ErrRec) (s : State) (hk : Still s0 s) : Still s0 (record p r s) := by
  unfold record
  repeat (first | with_reducible assumption | with_reducible apply partRecord_still | with_reducible apply updPart_still | intro _ | with_reducible apply Still.ite | simp only [Still.upd] | dsimp only | split)

theorem recordAll_still {s0 : State} (r : ErrRec) (s : State) (hk : Still s0 s) : Still s0 (recordAll r s) := by
  unfold recordAll
  repeat (first | with_reducible assumption | with_reducible apply eachOf_still | with_reducible apply record_still | intro _ | with_reducible apply Still.ite | simp only [Still.upd] | dsimp only | split)

theorem recordLink_still {s0 : State} (r : ErrRec) (s : State) (hk : Still s0 s) : Still s0 (recordLink r s) := by
  unfold recordLink
  repeat (first | with_reducible assumption | with_reducible apply mgtRecord_still | with_reducible apply recordAll_still | intro _ | with_reducible apply Still.ite | simp only [Still.upd] | dsimp only | split)

theorem updPeer_still {s0 : State} (d : DevId) (f : Peer → Peer) (s : State) (hk : Still s0 s) : Still s0 (updPeer d f s) := by
  unfold updPeer
  repeat (first | with_reducible assumption | intro _ | with_reducible apply Still.ite | simp only [Still.upd] | dsimp only | split)

theorem updFlow_still {s0 : State} (d : DevId) (p : Nat) (f : Flow → Flow) (s : State) (hk : Still s0 s) : Still s0 (updFlow d p f s) := by
  unfold updFlow
  repeat (first | with_reducible assumption | intro _ | with_reducible apply Still.ite | simp only [Still.upd] | dsimp only | split)

theorem rawFlit_still {s0 : State} (l : LinkId) (h : FlitHead) (payload : Bytes) (last : Option (DevId × Option DevId × Nat × Bytes)) (s : State) (hk : Still s0 s) : Still s0 (rawFlit l h payload last s) := by
  unfold rawFlit
  repeat (first | with_reducible assumption | with_reducible apply emit_still | with_reducible apply updLink_still | intro _ | with_reducible apply Still.ite | simp only [Still.upd] | dsimp only | split)

theorem seqFlit_still {s0 : State} (l : LinkId) (h : FlitHead) (payload : Bytes) (last : Option (DevId × Option DevId × Nat × Bytes)) (s : State) (hk : Still s0 s) : Still s0 (seqFlit l h payload last s) := by
  unfold seqFlit
  repeat (first | with_reducible assumption | with_reducible apply rawFlit_still | with_reducible apply updLink_still | intro _ | with_reducible apply Still.ite | simp only [Still.upd] | dsimp only | split)

theorem otherFlit_still {s0 : State} (l : LinkId) (type : Nat) (payload : Bytes) (s : State) (hk : Still s0 s) : Still s0 (otherFlit l type payload s) := by
  unfold otherFlit
  repeat (first | with_reducible assumption | with_reducible apply seqFlit_still | with_reducible apply updLink_still | intro _ | with_reducible apply Still.ite | simp only [Still.upd] | dsimp only | split)

theorem idleFlit_still {s0 : State} (l : LinkId) (vc part units : Nat) (s : State) (hk : Still s0 s) : Still s0 (idleFlit l vc part units s) := by
  unfold idleFlit
  repeat (first | with_reducible assumption | with_reducible apply emit_still | with_reducible apply updLink_still | intro _ | with_reducible apply Still.ite | simp only [Still.upd] | dsimp only | split)

theorem putOnLink_still {s0 : State} (l : LinkId) (vc : Nat) (p : PartId) (dst : DevId) (fwd : Option DevId) (fl : Nat) (b : Bytes) (s : State) (hk : Still s0 s) : Still s0 (putOnLink l vc p dst fwd fl b s) := by
  unfold putOnLink
  repeat (first | with_reducible assumption | with_reducible apply updLink_still | with_reducible apply mgtEvent_still | with_reducible apply emit_still | with_reducible apply seqFlit_still | with_reducible apply Still.foldl | intro _ | with_reducible apply Still.ite | simp only [Still.upd] | dsimp only | split)

theorem setCtx_still {s0 : State} (i : Nat) (c : Option Ctx) (s : State) (hk : Still s0 s) : Still s0 (setCtx i c s) := by
  unfold setCtx
  repeat (first | with_reducible assumption | intro _ | with_reducible apply Still.ite | simp only [Still.upd] | dsimp only | split)

theorem updCtx_still {s0 : State} (i : Nat) (f : Ctx → Ctx) (s : State) (hk : Still s0 s) : Still s0 (updCtx i f s) := by
  unfold updCtx
  repeat (first | with_reducible assumption | with_reducible apply setCtx_still | intro _ | with_reducible apply Still.ite | simp only [Still.upd] | dsimp only | split)

theorem takePn_still {s0 t : State} {v : Option Nat} {pl : PlaneId} {s : State} (e : takePn pl s = (v, t)) (hk : Still s0 s) : Still s0 t := by
  unfold takePn at e
  (try dsimp only at e)
  repeat' split at e
  all_goals (try cases e)
  all_goals repeat (first | with_reducible assumption | with_reducible apply updPlane_still | intro _ | with_reducible apply Still.ite | simp only [Still.upd] | dsimp only | split)

theorem takePn_snd_still {s0 : State} (pl : PlaneId) (s : State) (hk : Still s0 s) : Still s0 (takePn pl s).2 :=
  takePn_still (Prod.eta _).symm hk

theorem sendEth_still {s0 : State} (pl : PlaneId) (m : EthMsg) (s : State) (hk : Still s0 s) : Still s0 (sendEth pl m s) := by
  unfold sendEth
  repeat (first | with_reducible assumption | with_reducible refine takePn_still (by with_reducible assumption) ?_ | with_reducible apply takePn_snd_still | with_reducible apply emit_still | intro _ | with_reducible apply Still.ite | with_reducible apply Still.iteSnd | with_reducible apply Still.iteFst | simp only [Still.upd] | dsimp only | split)

theorem resolveAddr_still {s0 : State} (pl : PlaneId) (a : Nat) (s : State) (hk : Still s0 s) : Still s0 (resolveAddr pl a s) := by
  unfold resolveAddr
  repeat (first | with_reducible assumption | with_reducible apply updPlane_still | with_reducible apply sendEth_still | intro _ | with_reducible apply Still.ite | simp only [Still.upd] | dsimp only | split)

theorem resolvePeer_still {s0 : State} (pl : PlaneId) (d : DevId) (s : State) (hk : Still s0 s) : Still s0 (resolvePeer pl d s) := by
  unfold resolvePeer
  repeat (first | with_reducible assumption | with_reducible apply resolveAddr_still | intro _ | with_reducible apply Still.ite | simp only [Still.upd] | dsimp only | split)

theorem forgetFailed_still {s0 : State} (pl : PlaneId) (s : State) (hk : Still s0 s) : Still s0 (forgetFailed pl s) := by
  unfold forgetFailed
  repeat (first | with_reducible assumption | with_reducible apply updPlane_still | intro _ | with_reducible apply Still.ite | simp only [Still.upd] | dsimp only | split)

theorem sendDgram_still {s0 : State} (pl : PlaneId) (d : DevId) (path : Nat) (h : TthHead) (payload : Bytes) (s : State) (hk : Still s0 s) : Still s0 (sendDgram pl d path h payload s) := by
  unfold sendDgram
  repeat (first | with_reducible assumption | with_reducible apply resolvePeer_still | with_reducible refine takePn_still (by with_reducible assumption) ?_ | with_reducible apply takePn_snd_still | with_reducible apply emit_still | intro _ | with_reducible apply Still.ite | with_reducible apply Still.iteSnd | with_reducible apply Still.iteFst | simp only [Still.upd] | dsimp only | split)

theorem sendHello_still {s0 : State} (i : Nat) (s : State) (hk : Still s0 s) : Still s0 (sendHello i s) := by
  unfold sendHello
  repeat (first | with_reducible assumption | with_reducible apply updCtx_still | with_reducible apply forgetFailed_still | with_reducible apply sendDgram_still | intro _ | with_reducible apply Still.ite | simp only [Still.upd] | dsimp only | split)

theorem sendCloseCtx_still {s0 : State} (c : Ctx) (s : State) (hk : Still s0 s) : Still s0 (sendCloseCtx c s) := by
  unfold sendCloseCtx
  repeat (first | with_reducible assumption | with_reducible apply sendDgram_still | intro _ | with_reducible apply Still.ite | simp only [Still.upd] | dsimp only | split)

theorem freeCtx_still {s0 t : State} {v : Option Nat} {s : State} (e : freeCtx s = (v, t)) (hk : Still s0 s) : Still s0 t := by
  unfold freeCtx at e
  (try dsimp only at e)
  repeat' split at e
  all_goals (try cases e)
  all_goals repeat (first | with_reducible assumption | with_reducible apply setCtx_still | with_reducible apply sendCloseCtx_still | with_reducible apply Still.foldl | intro _ | with_reducible apply Still.ite | with_reducible apply Still.iteSnd | with_reducible apply Still.iteFst | simp only [Still.upd] | dsimp only | split)

theorem freeCtx_snd_still {s0 : State} (s : State) (hk : Still s0 s) : Still s0 (freeCtx s).2 :=
  freeCtx_still (Prod.eta _).symm hk

theorem sendSegment_still {s0 : State} (i : Nat) (stream : Fin 4) (ssn off len : Nat) (first last retx : Bool) (pkt : Bytes) (s : State) (hk : Still s0 s) : Still s0 (sendSegment i stream ssn off len first last retx pkt s) := by
  unfold sendSegment
  repeat (first | with_reducible assumption | with_reducible apply sendDgram_still | with_reducible apply charge_still | with_reducible apply updPlane_still | intro _ | with_reducible apply Still.ite | simp only [Still.upd] | dsimp only | split)

theorem sendCtxPacket_still {s0 : State} (i flags : Nat) (b : Bytes) (s : State) (hk : Still s0 s) : Still s0 (sendCtxPacket i flags b s) := by
  unfold sendCtxPacket
  repeat (first | with_reducible assumption | with_reducible apply updCtx_still | with_reducible apply sendSegment_still | with_reducible apply Still.foldl | intro _ | with_reducible apply Still.ite | simp only [Still.upd] | dsimp only | split)

theorem assignSeq_still {s0 t : State} {v : Bytes} {d : DevId} {p : PartId} {isPiece : Bool} {b : Bytes} {s : State} (e : assignSeq d p isPiece b s = (v, t)) (hk : Still s0 s) : Still s0 t := by
  unfold assignSeq at e
  (try dsimp only at e)
  repeat' split at e
  all_goals (try cases e)
  all_goals repeat (first | with_reducible assumption | with_reducible apply updFlow_still | intro _ | with_reducible apply Still.ite | simp only [Still.upd] | dsimp only | split)

theorem assignSeq_snd_still {s0 : State} (d : DevId) (p : PartId) (isPiece : Bool) (b : Bytes) (s : State) (hk : Still s0 s) : Still s0 (assignSeq d p isPiece b s).2 :=
  assignSeq_still (Prod.eta _).symm hk

theorem arbitrate_still {s0 t : State} {b : Bid} {res : Nat} {bids : List Bid} {s : State} (e : arbitrate res bids s = some (b, t)) (hk : Still s0 s) : Still s0 t := by
  unfold arbitrate at e
  dsimp only at e
  split at e
  · cases e
  · cases e
    simpa only [Still.upd] using hk

theorem retransmit_still {s0 : State} (i : Nat) (st : Fin 4) (x : TxSeg) (fast : Bool) (s : State) (hk : Still s0 s) : Still s0 (retransmit i st x fast s) := by
  unfold retransmit
  repeat (first | with_reducible assumption | with_reducible apply stall_still | with_reducible apply setCtx_still | with_reducible apply sendSegment_still | with_reducible apply cntPlane_still | intro _ | with_reducible apply Still.ite | simp only [Still.upd] | dsimp only | split)

theorem payRetx_still {s0 : State} (i : Nat) (s : State) (hk : Still s0 s) : Still s0 (payRetx i s) := by
  unfold payRetx
  repeat (first | with_reducible assumption | with_reducible apply retransmit_still | with_reducible apply setCtx_still | with_reducible apply Still.foldl | intro _ | with_reducible apply Still.ite | simp only [Still.upd] | dsimp only | split)

theorem sendQueued_still {s0 : State} (i j : Nat) (s : State) (hk : Still s0 s) : Still s0 (sendQueued i j s) := by
  unfold sendQueued
  repeat (first | with_reducible assumption | with_reducible apply setCtx_still | with_reducible refine assignSeq_still (by with_reducible assumption) ?_ | with_reducible apply assignSeq_snd_still | with_reducible apply sendCtxPacket_still | intro _ | with_reducible apply Still.ite | with_reducible apply Still.iteSnd | with_reducible apply Still.iteFst | simp only [Still.upd] | dsimp only | split)

theorem nextGrant_still {s0 t : State} {i j : Nat} {pl : PlaneId} {s : State} (e : nextGrant pl s = some (i, j, t)) (hk : Still s0 s) : Still s0 t := by
  unfold nextGrant at e
  dsimp only at e
  split at e
  · cases e; exact hk
  · split at e
    · cases e
    · rename_i b u h
      have hu := arbitrate_still h hk
      obtain ⟨x, _, hx⟩ := Option.map_eq_some_iff.1 e
      cases hx
      exact hu

theorem grantPlane_still {s0 : State} (pl : PlaneId) : ∀ (x0 : Nat) (s : State), Still s0 s → Still s0 (grantPlane pl x0 s)
  | 0, s, h => by
    unfold grantPlane
    repeat (first | with_reducible assumption | with_reducible refine nextGrant_still (by with_reducible assumption) ?_ | with_reducible apply sendQueued_still | intro _ | with_reducible apply Still.ite | simp only [Still.upd] | dsimp only | split)
  | n + 1, s, h => by
    unfold grantPlane
    repeat (first | with_reducible assumption | with_reducible apply grantPlane_still | with_reducible refine nextGrant_still (by with_reducible assumption) ?_ | with_reducible apply sendQueued_still | intro _ | with_reducible apply Still.ite | simp only [Still.upd] | dsimp only | split)

theorem drainPlane_still {s0 : State} (pl : PlaneId) (s : State) (hk : Still s0 s) : Still s0 (drainPlane pl s) := by
  unfold drainPlane
  repeat (first | with_reducible assumption | with_reducible apply eachOf_still | with_reducible apply payRetx_still | with_reducible apply grantPlane_still | with_reducible apply stall_still | with_reducible apply Still.foldl | intro _ | with_reducible apply Still.ite | with_reducible apply Still.iteSnd | with_reducible apply Still.iteFst | simp only [Still.upd] | dsimp only | split)

theorem drainCtx_still {s0 : State} (i : Nat) (s : State) (hk : Still s0 s) : Still s0 (drainCtx i s) := by
  unfold drainCtx
  repeat (first | with_reducible assumption | with_reducible apply drainPlane_still | intro _ | with_reducible apply Still.ite | simp only [Still.upd] | dsimp only | split)

theorem sendTether_still {s0 t : State} {pl : PlaneId} {w : Waiting} {s : State} (e : sendTether pl w s = some t) (hk : Still s0 s) : Still s0 t := by
  unfold sendTether at e
  (try dsimp only at e)
  repeat' split at e
  all_goals (try cases e)
  all_goals repeat (first | with_reducible assumption | with_reducible apply drainCtx_still | with_reducible apply updCtx_still | with_reducible refine freeCtx_still (by with_reducible assumption) ?_ | with_reducible apply freeCtx_snd_still | with_reducible apply sendHello_still | with_reducible apply setCtx_still | intro _ | with_reducible apply Still.ite | with_reducible apply Still.iteSnd | with_reducible apply Still.iteFst | simp only [Still.upd] | dsimp only | split)

theorem sendOnLink_still {s0 : State} (l : LinkId) (vc : Nat) (relayed : Bool) (w : Waiting) (s : State) (hk : Still s0 s) : Still s0 (sendOnLink l vc relayed w s) := by
  unfold sendOnLink
  repeat (first | with_reducible assumption | with_reducible refine assignSeq_still (by with_reducible assumption) ?_ | with_reducible apply assignSeq_snd_still | with_reducible apply charge_still | with_reducible apply putOnLink_still | with_reducible apply emit_still | intro _ | with_reducible apply Still.ite | with_reducible apply Still.iteSnd | with_reducible apply Still.iteFst | simp only [Still.upd] | dsimp only | split)

theorem trySend_still {s0 t : State} {w : Waiting} {s : State} (e : trySend w s = some t) (hk : Still s0 s) : Still s0 t := by
  unfold trySend at e
  split at e
  · cases e
  · split at e
    · obtain ⟨x, _, hx⟩ := Option.map_eq_some_iff.1 e
      cases hx
      exact sendOnLink_still _ _ _ _ _ hk
    · split at e
      · cases e
      · split at e
        · cases e
        · split at e
          · cases e
          · split at e
            · cases e
            · rename_i h
              cases e
              exact emit_still _ _ (sendTether_still h (updFlow_still _ _ _ _ hk))

theorem holdBack_still {s0 t : State} {v : Waiting} {w : Waiting} {s : State} (e : holdBack w s = (v, t)) (hk : Still s0 s) : Still s0 t := by
  unfold holdBack at e
  (try dsimp only at e)
  repeat' split at e
  all_goals (try cases e)
  all_goals repeat (first | with_reducible assumption | with_reducible apply stall_still | with_reducible refine freeCtx_still (by with_reducible assumption) ?_ | with_reducible apply freeCtx_snd_still | with_reducible apply cntTether_still | intro _ | with_reducible apply Still.ite | with_reducible apply Still.iteSnd | with_reducible apply Still.iteFst | simp only [Still.upd] | dsimp only | split)

theorem holdBack_snd_still {s0 : State} (w : Waiting) (s : State) (hk : Still s0 s) : Still s0 (holdBack w s).2 :=
  holdBack_still (Prod.eta _).symm hk

theorem sendAfter_still {s0 t : State} {l : List Waiting} {w : Waiting} {s : State} (e : sendAfter l w s = some t) (hk : Still s0 s) : Still s0 t := by
  unfold sendAfter at e
  (try dsimp only at e)
  repeat' split at e
  all_goals (try cases e)
  all_goals repeat (first | with_reducible assumption | with_reducible refine trySend_still (by with_reducible assumption) ?_ | intro _ | with_reducible apply Still.ite | simp only [Still.upd] | dsimp only | split)

theorem sendTo_still {s0 : State} (d : DevId) (p : PartId) (flags : Nat) (b : Bytes) (s : State) (hk : Still s0 s) : Still s0 (sendTo d p flags b s) := by
  unfold sendTo
  repeat (first | with_reducible assumption | with_reducible refine sendAfter_still (by with_reducible assumption) ?_ | with_reducible refine holdBack_still (by with_reducible assumption) ?_ | with_reducible apply holdBack_snd_still | intro _ | with_reducible apply Still.ite | with_reducible apply Still.iteSnd | with_reducible apply Still.iteFst | simp only [Still.upd] | dsimp only | split)

theorem tryMsg_still {s0 t : State} {d : DevId} {b : Bytes} {s : State} (e : tryMsg d b s = some t) (hk : Still s0 s) : Still s0 t := by
  unfold tryMsg at e
  split at e
  · obtain ⟨x, _, hx⟩ := Option.map_eq_some_iff.1 e
    cases hx
    exact putOnLink_still _ _ _ _ _ _ _ _ hk
  · obtain ⟨x, _, hx⟩ := Option.bind_eq_some_iff.1 e
    exact sendTether_still hx hk

theorem sendMessage_still {s0 : State} (d : DevId) (b : Bytes) (s : State) (hk : Still s0 s) : Still s0 (sendMessage d b s) := by
  unfold sendMessage
  split
  · rename_i h
    split at h
    · cases h
    · exact tryMsg_still h hk
  · simpa only [Still.upd] using hk

theorem drainMsgs_still {s0 : State} (s : State) (hk : Still s0 s) : Still s0 (drainMsgs s) := by
  unfold drainMsgs
  repeat (first | with_reducible assumption | with_reducible apply sendMessage_still | with_reducible apply Still.foldl | intro _ | with_reducible apply Still.ite | simp only [Still.upd] | dsimp only | split)

theorem sendPairLink_still {s0 : State} (b : Bytes) (s : State) (hk : Still s0 s) : Still s0 (sendPairLink b s) := by
  unfold sendPairLink
  repeat (first | with_reducible assumption | with_reducible apply putOnLink_still | with_reducible apply updLink_still | intro _ | with_reducible apply Still.ite | simp only [Still.upd] | dsimp only | split)

theorem forwardTo_still {s0 : State} (x : Relayed) (s : State) (hk : Still s0 s) : Still s0 (forwardTo x s) := by
  unfold forwardTo
  repeat (first | with_reducible assumption | with_reducible apply putOnLink_still | intro _ | with_reducible apply Still.ite | simp only [Still.upd] | dsimp only | split)

theorem resend_still {s0 : State} (d : DevId) (fwd : Option DevId) (fl : Nat) (b : Bytes) (s : State) (hk : Still s0 s) : Still s0 (resend d fwd fl b s) := by
  unfold resend
  repeat (first | with_reducible assumption | with_reducible apply cntBridle_still | with_reducible apply sendPairLink_still | with_reducible apply sendMessage_still | with_reducible apply forwardTo_still | with_reducible apply sendTo_still | intro _ | with_reducible apply Still.ite | simp only [Still.upd] | dsimp only | split)

theorem drainOutList_still {s0 : State} (c : Nat) : ∀ (x0 : List Waiting) (x1 : List Waiting) (s : State), Still s0 s → Still s0 (drainOutList c x0 x1 s)
  | [], kept, s, h => by
    unfold drainOutList
    repeat (first | with_reducible assumption | with_reducible refine sendAfter_still (by with_reducible assumption) ?_ | with_reducible refine holdBack_still (by with_reducible assumption) ?_ | with_reducible apply holdBack_snd_still | intro _ | with_reducible apply Still.ite | with_reducible apply Still.iteSnd | with_reducible apply Still.iteFst | simp only [Still.upd] | dsimp only | split)
  | w :: rest, kept, s, h => by
    unfold drainOutList
    repeat (first | with_reducible assumption | with_reducible apply drainOutList_still | with_reducible refine sendAfter_still (by with_reducible assumption) ?_ | with_reducible refine holdBack_still (by with_reducible assumption) ?_ | with_reducible apply holdBack_snd_still | intro _ | with_reducible apply Still.ite | with_reducible apply Still.iteSnd | with_reducible apply Still.iteFst | simp only [Still.upd] | dsimp only | split)

theorem grantLinks_still {s0 : State}  : ∀ (x0 : Nat) (s : State), Still s0 s → Still s0 (grantLinks  x0 s)
  | 0, s, h => by
    unfold grantLinks
    repeat (first | with_reducible assumption | with_reducible refine arbitrate_still (by with_reducible assumption) ?_ | with_reducible refine trySend_still (by with_reducible assumption) ?_ | intro _ | with_reducible apply Still.ite | with_reducible apply Still.iteSnd | with_reducible apply Still.iteFst | simp only [Still.upd] | dsimp only | split)
  | n + 1, s, h => by
    unfold grantLinks
    repeat (first | with_reducible assumption | with_reducible apply grantLinks_still | with_reducible refine arbitrate_still (by with_reducible assumption) ?_ | with_reducible refine trySend_still (by with_reducible assumption) ?_ | intro _ | with_reducible apply Still.ite | with_reducible apply Still.iteSnd | with_reducible apply Still.iteFst | simp only [Still.upd] | dsimp only | split)

theorem drainWait_still {s0 : State} (c : Nat) (s : State) (hk : Still s0 s) : Still s0 (drainWait c s) := by
  unfold drainWait
  repeat (first | with_reducible assumption | with_reducible apply grantLinks_still | with_reducible apply drainOutList_still | intro _ | with_reducible apply Still.ite | simp only [Still.upd] | dsimp only | split)

theorem payOwedList_still {s0 : State}  : ∀ (x0 : List (LinkId × Nat × PartId × Nat × DevId)) (x1 : List (LinkId × Nat × PartId × Nat × DevId)) (s : State), Still s0 s → Still s0 (payOwedList  x0 x1 s)
  | [], _x1, s, h => by
    unfold payOwedList
    repeat (first | with_reducible assumption | with_reducible apply idleFlit_still | with_reducible apply Still.foldl | intro _ | with_reducible apply Still.ite | with_reducible apply Still.iteSnd | with_reducible apply Still.iteFst | simp only [Still.upd] | dsimp only | split)
  | (l, vc, p, n, d) :: rest, spent, s, h => by
    unfold payOwedList
    repeat (first | with_reducible assumption | with_reducible apply payOwedList_still | with_reducible apply idleFlit_still | with_reducible apply Still.foldl | intro _ | with_reducible apply Still.ite | with_reducible apply Still.iteSnd | with_reducible apply Still.iteFst | simp only [Still.upd] | dsimp only | split)

theorem payOwed_still {s0 : State} (s : State) (hk : Still s0 s) : Still s0 (payOwed s) := by
  unfold payOwed
  repeat (first | with_reducible assumption | with_reducible apply payOwedList_still | intro _ | with_reducible apply Still.ite | simp only [Still.upd] | dsimp only | split)

theorem drainHeld_still {s0 : State} (rows : Bool) (s : State) (hk : Still s0 s) : Still s0 (drainHeld rows s) := by
  unfold drainHeld
  repeat (first | with_reducible assumption | with_reducible apply forwardTo_still | with_reducible apply Still.foldl | intro _ | with_reducible apply Still.ite | simp only [Still.upd] | dsimp only | split)

theorem drainOut_still {s0 : State} (s : State) (hk : Still s0 s) : Still s0 (drainOut s) := by
  unfold drainOut
  repeat (first | with_reducible assumption | with_reducible apply drainWait_still | with_reducible apply payOwed_still | with_reducible apply drainHeld_still | with_reducible apply drainMsgs_still | intro _ | with_reducible apply Still.ite | simp only [Still.upd] | dsimp only | split)

theorem drainLink_still {s0 : State} (l : LinkId) (s : State) (hk : Still s0 s) : Still s0 (drainLink l s) := by
  unfold drainLink
  repeat (first | with_reducible assumption | with_reducible apply drainOut_still | with_reducible apply sendPairLink_still | with_reducible apply updLink_still | with_reducible apply Still.foldl | intro _ | with_reducible apply Still.ite | simp only [Still.upd] | dsimp only | split)

theorem sendPacketAs_still {s0 : State} (e : Nat) (d : DevId) (p : PartId) (k : Kind) (x : Packet) (s : State) (hk : Still s0 s) : Still s0 (sendPacketAs e d p k x s) := by
  unfold sendPacketAs
  repeat (first | with_reducible assumption | with_reducible apply cntPart64_still | with_reducible apply sendTo_still | intro _ | with_reducible apply Still.ite | simp only [Still.upd] | dsimp only | split)

theorem sendPacket_still {s0 : State} (d : DevId) (p : PartId) (k : Kind) (x : Packet) (s : State) (hk : Still s0 s) : Still s0 (sendPacket d p k x s) := by
  unfold sendPacket
  repeat (first | with_reducible assumption | with_reducible apply sendPacketAs_still | intro _ | with_reducible apply Still.ite | simp only [Still.upd] | dsimp only | split)

theorem sendPiece_still {s0 : State} (d : DevId) (p : PartId) (x : Piece) (s : State) (hk : Still s0 s) : Still s0 (sendPiece d p x s) := by
  unfold sendPiece
  repeat (first | with_reducible assumption | with_reducible apply sendTo_still | intro _ | with_reducible apply Still.ite | simp only [Still.upd] | dsimp only | split)

theorem setComm_still {s0 : State} (h : Nat) (c : Option Comm) (s : State) (hk : Still s0 s) : Still s0 (setComm h c s) := by
  unfold setComm
  repeat (first | with_reducible assumption | intro _ | with_reducible apply Still.ite | simp only [Still.upd] | dsimp only | split)

theorem updComm_still {s0 : State} (h : Nat) (f : Comm → Comm) (s : State) (hk : Still s0 s) : Still s0 (updComm h f s) := by
  unfold updComm
  repeat (first | with_reducible assumption | with_reducible apply setComm_still | intro _ | with_reducible apply Still.ite | simp only [Still.upd] | dsimp only | split)

theorem sendAbort_still {s0 : State} (c : Comm) (code dev : Nat) (dests : List DevId) (s : State) (hk : Still s0 s) : Still s0 (sendAbort c code dev dests s) := by
  unfold sendAbort
  repeat (first | with_reducible assumption | with_reducible apply eachOf_still | with_reducible apply sendPiece_still | intro _ | with_reducible apply Still.ite | simp only [Still.upd] | dsimp only | split)

theorem abortComm_still {s0 : State} (h code dev : Nat) (s : State) (hk : Still s0 s) : Still s0 (abortComm h code dev s) := by
  unfold abortComm
  repeat (first | with_reducible assumption | with_reducible apply sendAbort_still | with_reducible apply updComm_still | intro _ | with_reducible apply Still.ite | simp only [Still.upd] | dsimp only | split)

theorem epochNotices_still {s0 : State} (p : PartId) (s : State) (hk : Still s0 s) : Still s0 (epochNotices p s) := by
  unfold epochNotices
  repeat (first | with_reducible assumption | with_reducible apply eachOf_still | with_reducible apply sendPiece_still | intro _ | with_reducible apply Still.ite | simp only [Still.upd] | dsimp only | split)

theorem sendClose_still {s0 : State} (p : PartId) (c : Conj) (d : DevId) (s : State) (hk : Still s0 s) : Still s0 (sendClose p c d s) := by
  unfold sendClose
  repeat (first | with_reducible assumption | with_reducible apply sendPacket_still | intro _ | with_reducible apply Still.ite | with_reducible apply Still.iteSnd | with_reducible apply Still.iteFst | simp only [Still.upd] | dsimp only | split)

theorem sendVerdicts_still {s0 : State} (p : PartId) (c : Conj) (d : DevId) : ∀ (x0 : List Bytes) (x1 : Nat) (s : State), Still s0 s → Still s0 (sendVerdicts p c d x0 x1 s)
  | _x0, 0, s, h => by
    unfold sendVerdicts
    repeat (first | with_reducible assumption | with_reducible apply sendPacket_still | intro _ | with_reducible apply Still.ite | simp only [Still.upd] | dsimp only | split)
  | [], _x1, s, h => by
    unfold sendVerdicts
    repeat (first | with_reducible assumption | with_reducible apply sendPacket_still | intro _ | with_reducible apply Still.ite | simp only [Still.upd] | dsimp only | split)
  | es, fuel + 1, s, h => by
    unfold sendVerdicts
    repeat (first | with_reducible assumption | with_reducible apply sendVerdicts_still | with_reducible apply sendPacket_still | intro _ | with_reducible apply Still.ite | simp only [Still.upd] | dsimp only | split)

theorem suppress_still {s0 : State} (p : PartId) (n : Nat) (s : State) (hk : Still s0 s) : Still s0 (suppress p n s) := by
  unfold suppress
  repeat (first | with_reducible assumption | with_reducible apply cntPart_still | with_reducible apply updJob_still | intro _ | with_reducible apply Still.ite | simp only [Still.upd] | dsimp only | split)

theorem countOrphans_still {s0 : State} (p : PartId) (s : State) (hk : Still s0 s) : Still s0 (countOrphans p s) := by
  unfold countOrphans
  repeat (first | with_reducible assumption | with_reducible apply suppress_still | with_reducible apply cntPart_still | intro _ | with_reducible apply Still.ite | with_reducible apply Still.iteSnd | with_reducible apply Still.iteFst | simp only [Still.upd] | dsimp only | split)

theorem cancelSpec_still {s0 : State} (p : PartId) (c : Conj) (s : State) (hk : Still s0 s) : Still s0 (cancelSpec p c s) := by
  unfold cancelSpec
  repeat (first | with_reducible assumption | with_reducible apply suppress_still | with_reducible apply cntPart64_still | with_reducible apply eachOf_still | with_reducible apply sendVerdicts_still | intro _ | with_reducible apply Still.ite | simp only [Still.upd] | dsimp only | split)

theorem withdraw_still {s0 : State} (t : Waiting → Bool) (s : State) (hk : Still s0 s) : Still s0 (withdraw t s) := by
  unfold withdraw
  repeat (first | with_reducible assumption | intro _ | with_reducible apply Still.ite | simp only [Still.upd] | dsimp only | split)

theorem updConj_still {s0 : State} (p : PartId) (f : Conj → Conj) (s : State) (hk : Still s0 s) : Still s0 (updConj p f s) := by
  unfold updConj
  repeat (first | with_reducible assumption | with_reducible apply updPart_still | intro _ | with_reducible apply Still.ite | simp only [Still.upd] | dsimp only | split)

theorem withdrawRow_still {s0 : State} (p : PartId) (x : Clause) (s : State) (hk : Still s0 s) : Still s0 (withdrawRow p x s) := by
  unfold withdrawRow
  repeat (first | with_reducible assumption | with_reducible apply withdraw_still | with_reducible apply cntPart64_still | with_reducible apply updConj_still | with_reducible apply Still.foldl | intro _ | with_reducible apply Still.ite | with_reducible apply Still.iteSnd | with_reducible apply Still.iteFst | simp only [Still.upd] | dsimp only | split)

theorem withdrawRows_still {s0 : State} (p : PartId) (s : State) (hk : Still s0 s) : Still s0 (withdrawRows p s) := by
  unfold withdrawRows
  repeat (first | with_reducible assumption | with_reducible apply eachOf_still | with_reducible apply withdrawRow_still | with_reducible apply cntPart64_still | intro _ | with_reducible apply Still.ite | simp only [Still.upd] | dsimp only | split)

theorem withdrawPieces_still {s0 : State} (p : PartId) (s : State) (hk : Still s0 s) : Still s0 (withdrawPieces p s) := by
  unfold withdrawPieces
  repeat (first | with_reducible assumption | with_reducible apply withdraw_still | intro _ | with_reducible apply Still.ite | simp only [Still.upd] | dsimp only | split)

theorem retireConj_still {s0 : State} (p : PartId) (s : State) (hk : Still s0 s) : Still s0 (retireConj p s) := by
  unfold retireConj
  repeat (first | with_reducible assumption | with_reducible apply cancelSpec_still | with_reducible apply eachOf_still | with_reducible apply sendClose_still | with_reducible apply updPart_still | intro _ | with_reducible apply Still.ite | simp only [Still.upd] | dsimp only | split)

theorem sendDual_still {s0 : State} (b : Bytes) (s : State) (hk : Still s0 s) : Still s0 (sendDual b s) := by
  unfold sendDual
  repeat (first | with_reducible assumption | with_reducible apply emit_still | with_reducible apply sendPairLink_still | intro _ | with_reducible apply Still.ite | simp only [Still.upd] | dsimp only | split)

theorem abandonDual_still {s0 : State} (p : PartId) (code : Nat) (s : State) (hk : Still s0 s) : Still s0 (abandonDual p code s) := by
  unfold abandonDual
  repeat (first | with_reducible assumption | with_reducible apply sendDual_still | with_reducible apply updPart_still | intro _ | with_reducible apply Still.ite | simp only [Still.upd] | dsimp only | split)

theorem closeJob_still {s0 : State} (p : PartId) (s : State) (hk : Still s0 s) : Still s0 (closeJob p s) := by
  unfold closeJob
  repeat (first | with_reducible assumption | with_reducible apply mgtEvent_still | with_reducible apply cntPart64_still | with_reducible apply updJob_still | intro _ | with_reducible apply Still.ite | simp only [Still.upd] | dsimp only | split)

theorem stopStream_still {s0 : State} (p : PartId) (code : Nat) (st : StreamId) (s : State) (hk : Still s0 s) : Still s0 (stopStream p code st s) := by
  unfold stopStream
  repeat (first | with_reducible assumption | with_reducible apply updStream_still | with_reducible apply traceCmd_still | intro _ | with_reducible apply Still.ite | simp only [Still.upd] | dsimp only | split)

theorem clearSyc_still {s0 : State} (p : PartId) (s : State) (hk : Still s0 s) : Still s0 (clearSyc p s) := by
  unfold clearSyc
  repeat (first | with_reducible assumption | intro _ | with_reducible apply Still.ite | simp only [Still.upd] | dsimp only | split)

theorem orphanReads_still {s0 : State} (p : PartId) (s : State) (hk : Still s0 s) : Still s0 (orphanReads p s) := by
  unfold orphanReads
  repeat (first | with_reducible assumption | with_reducible apply updPort_still | intro _ | with_reducible apply Still.ite | simp only [Still.upd] | dsimp only | split)

theorem haltQueues_still {s0 : State} (p : PartId) (code : Nat) (s : State) (hk : Still s0 s) : Still s0 (haltQueues p code s) := by
  unfold haltQueues
  repeat (first | with_reducible assumption | with_reducible apply orphanReads_still | with_reducible apply eachOf_still | with_reducible apply stopStream_still | with_reducible apply updStream_still | with_reducible apply clearSyc_still | with_reducible apply updPart_still | intro _ | with_reducible apply Still.ite | with_reducible apply Still.iteSnd | with_reducible apply Still.iteFst | simp only [Still.upd] | dsimp only | split)

theorem teardown_still {s0 : State} (p : PartId) (code : Nat) (s : State) (hk : Still s0 s) : Still s0 (teardown p code s) := by
  unfold teardown
  repeat (first | with_reducible assumption | with_reducible apply abortComm_still | with_reducible apply withdrawPieces_still | with_reducible apply updPart_still | with_reducible apply abandonDual_still | with_reducible apply retireConj_still | with_reducible apply withdrawRows_still | with_reducible apply countOrphans_still | with_reducible apply cntPart_still | with_reducible apply closeJob_still | with_reducible apply haltQueues_still | intro _ | with_reducible apply Still.ite | simp only [Still.upd] | dsimp only | split)

theorem jobFault_still {s0 : State} (p : PartId) (r : ErrRec) (s : State) (hk : Still s0 s) : Still s0 (jobFault p r s) := by
  unfold jobFault
  repeat (first | with_reducible assumption | with_reducible apply record_still | with_reducible apply teardown_still | intro _ | with_reducible apply Still.ite | simp only [Still.upd] | dsimp only | split)

theorem hostRead_still {s0 : State} (p : PartId) (addr len : Nat) (tgt : Nat → DmaTarget) (s : State) (hk : Still s0 s) : Still s0 (hostRead p addr len tgt s) := by
  unfold hostRead
  repeat (first | with_reducible assumption | with_reducible apply dmaPush_still | intro _ | with_reducible apply Still.ite | simp only [Still.upd] | dsimp only | split)

theorem fetchRing_still {s0 : State} (p : PartId) (st : StreamId) : ∀ (x0 : Nat) (s : State), Still s0 s → Still s0 (fetchRing p st x0 s)
  | 0, s, h => by
    unfold fetchRing
    repeat (first | with_reducible assumption | with_reducible apply updStream_still | with_reducible apply hostRead_still | intro _ | with_reducible apply Still.ite | simp only [Still.upd] | dsimp only | split)
  | fuel + 1, s, h => by
    unfold fetchRing
    repeat (first | with_reducible assumption | with_reducible apply fetchRing_still | with_reducible apply updStream_still | with_reducible apply hostRead_still | intro _ | with_reducible apply Still.ite | simp only [Still.upd] | dsimp only | split)

theorem fetchNow_still {s0 : State} (p : PartId) (st : StreamId) (s : State) (hk : Still s0 s) : Still s0 (fetchNow p st s) := by
  unfold fetchNow
  repeat (first | with_reducible assumption | with_reducible apply fetchRing_still | intro _ | with_reducible apply Still.ite | simp only [Still.upd] | dsimp only | split)

theorem dropHead_still {s0 : State} (p : PartId) (st : StreamId) (s : State) (hk : Still s0 s) : Still s0 (dropHead p st s) := by
  unfold dropHead
  repeat (first | with_reducible assumption | with_reducible apply updStream_still | intro _ | with_reducible apply Still.ite | simp only [Still.upd] | dsimp only | split)

theorem cmdFault_still {s0 : State} (p : PartId) (st : StreamId) (desc : Bytes) (code sub detail : Nat) (s : State) (hk : Still s0 s) : Still s0 (cmdFault p st desc code sub detail s) := by
  unfold cmdFault
  repeat (first | with_reducible assumption | with_reducible apply traceCmd_still | with_reducible apply fetchNow_still | with_reducible apply jobFault_still | with_reducible apply dropHead_still | intro _ | with_reducible apply Still.ite | simp only [Still.upd] | dsimp only | split)

theorem traceDrain_still {s0 : State} (p : PartId) (s : State) (hk : Still s0 s) : Still s0 (traceDrain p s) := by
  unfold traceDrain
  repeat (first | with_reducible assumption | with_reducible apply updPart_still | with_reducible apply hbmWrite_still | with_reducible apply charge_still | with_reducible apply Still.foldl | intro _ | with_reducible apply Still.ite | simp only [Still.upd] | dsimp only | split)

theorem cutBurst_still {s0 : State} (p : PartId) (x : Nat × Nat × Nat) (s : State) (hk : Still s0 s) : Still s0 (cutBurst p x s) := by
  unfold cutBurst
  repeat (first | with_reducible assumption | with_reducible refine takeFree_still (by with_reducible assumption) ?_ | with_reducible apply takeFree_snd_still | intro _ | with_reducible apply Still.ite | with_reducible apply Still.iteSnd | with_reducible apply Still.iteFst | simp only [Still.upd] | dsimp only | split)

theorem resetReport_still {s0 : State} (p : PartId) (k : ResetKind) (code : Nat) (hbm host : List (Nat × Nat)) (s : State) (hk : Still s0 s) : Still s0 (resetReport p k code hbm host s) := by
  unfold resetReport
  repeat (first | with_reducible assumption | with_reducible apply eachOf_still | with_reducible apply record_still | intro _ | with_reducible apply Still.ite | simp only [Still.upd] | dsimp only | split)

theorem resetPartition_still {s0 : State} (p : PartId) (k : ResetKind) (code : Nat) (s : State) (hk : Still s0 s) : Still s0 (resetPartition p k code s) := by
  unfold resetPartition
  repeat (first | with_reducible assumption | with_reducible apply eachOf_still | with_reducible apply cutBurst_still | with_reducible apply stopStream_still | with_reducible apply traceDrain_still | with_reducible apply withdraw_still | with_reducible apply withdrawRows_still | with_reducible apply abandonDual_still | with_reducible apply cancelSpec_still | with_reducible apply closeJob_still | with_reducible apply updPart_still | with_reducible apply epochNotices_still | with_reducible apply setComm_still | with_reducible apply clearSyc_still | with_reducible apply updCluster_still | with_reducible apply countOrphans_still | with_reducible apply resetReport_still | with_reducible apply updPort_still | with_reducible apply cntPort_still | with_reducible refine Still.sramFold ?_ ?_ _ _ | with_reducible apply Still.sramFilter | intro _ | with_reducible apply Still.ite | with_reducible apply Still.iteSnd | with_reducible apply Still.iteFst | simp only [Still.upd] | dsimp only | split)

theorem partitionReady_still {s0 : State} (p : PartId) (s : State) (hk : Still s0 s) : Still s0 (partitionReady p s) := by
  unfold partitionReady
  repeat (first | with_reducible assumption | with_reducible apply msixPart_still | with_reducible apply updPart_still | intro _ | with_reducible apply Still.ite | simp only [Still.upd] | dsimp only | split)

theorem partFault_still {s0 : State} (p : PartId) (r : ErrRec) (s : State) (hk : Still s0 s) : Still s0 (partFault p r s) := by
  unfold partFault
  repeat (first | with_reducible assumption | with_reducible apply resetPartition_still | with_reducible apply record_still | intro _ | with_reducible apply Still.ite | simp only [Still.upd] | dsimp only | split)

theorem flashErase_still {s0 : State} (lo hi : Nat) (s : State) (hk : Still s0 s) : Still s0 (flashErase lo hi s) := by
  unfold flashErase
  repeat (first | with_reducible assumption | intro _ | with_reducible apply Still.ite | simp only [Still.upd] | dsimp only | split)

theorem flashWrite_still {s0 : State} (a : Nat) (b : Bytes) (s : State) (hk : Still s0 s) : Still s0 (flashWrite a b s) := by
  unfold flashWrite
  repeat (first | with_reducible assumption | intro _ | with_reducible apply Still.ite | simp only [Still.upd] | dsimp only | split)

theorem secLog_still {s0 : State} (event role result : Nat) (detail : Bytes) (s : State) (hk : Still s0 s) : Still s0 (secLog event role result detail s) := by
  unfold secLog
  repeat (first | with_reducible assumption | with_reducible apply cntDev_still | with_reducible apply flashWrite_still | with_reducible apply flashErase_still | intro _ | with_reducible apply Still.ite | simp only [Still.upd] | dsimp only | split)

theorem secLogMergedAs_still {s0 : State} (event key role result : Nat) (detail : Bytes) (s : State) (hk : Still s0 s) : Still s0 (secLogMergedAs event key role result detail s) := by
  unfold secLogMergedAs
  repeat (first | with_reducible assumption | with_reducible apply secLog_still | intro _ | with_reducible apply Still.ite | simp only [Still.upd] | dsimp only | split)

theorem secLogMerged_still {s0 : State} (event key : Nat) (detail : Bytes) (s : State) (hk : Still s0 s) : Still s0 (secLogMerged event key detail s) := by
  unfold secLogMerged
  repeat (first | with_reducible assumption | with_reducible apply secLogMergedAs_still | intro _ | with_reducible apply Still.ite | simp only [Still.upd] | dsimp only | split)

theorem drbgBytes_still {s0 t : State} {v : Bytes} {n : Nat} {s : State} (e : drbgBytes n s = (v, t)) (hk : Still s0 s) : Still s0 t := by
  unfold drbgBytes at e
  (try dsimp only at e)
  repeat' split at e
  all_goals (try cases e)
  all_goals repeat (first | with_reducible assumption | intro _ | with_reducible apply Still.ite | simp only [Still.upd] | dsimp only | split)

theorem drbgBytes_snd_still {s0 : State} (n : Nat) (s : State) (hk : Still s0 s) : Still s0 (drbgBytes n s).2 :=
  drbgBytes_still (Prod.eta _).symm hk

theorem freshNonce_still {s0 : State} (s : State) (hk : Still s0 s) : Still s0 (freshNonce s) := by
  unfold freshNonce
  repeat (first | with_reducible assumption | with_reducible refine drbgBytes_still (by with_reducible assumption) ?_ | with_reducible apply drbgBytes_snd_still | intro _ | with_reducible apply Still.ite | with_reducible apply Still.iteSnd | with_reducible apply Still.iteFst | simp only [Still.upd] | dsimp only | split)

theorem zeroizeVolatile_still {s0 : State} (s : State) (hk : Still s0 s) : Still s0 (zeroizeVolatile s) := by
  unfold zeroizeVolatile
  repeat (first | with_reducible assumption | intro _ | with_reducible apply Still.ite | simp only [Still.upd] | dsimp only | split)

theorem zeroizeAll_still {s0 : State} (s : State) (hk : Still s0 s) : Still s0 (zeroizeAll s) := by
  unfold zeroizeAll
  repeat (first | with_reducible assumption | with_reducible apply zeroizeVolatile_still | with_reducible apply flashErase_still | intro _ | with_reducible apply Still.ite | simp only [Still.upd] | dsimp only | split)

theorem readVault_still {s0 : State} (s : State) (hk : Still s0 s) : Still s0 (readVault s) := by
  unfold readVault
  repeat (first | with_reducible assumption | intro _ | with_reducible apply Still.ite | simp only [Still.upd] | dsimp only | split)

theorem deriveKeys_still {s0 : State} (s : State) (hk : Still s0 s) : Still s0 (deriveKeys s) := by
  unfold deriveKeys
  repeat (first | with_reducible assumption | with_reducible apply readVault_still | with_reducible apply freshNonce_still | intro _ | with_reducible apply Still.ite | simp only [Still.upd] | dsimp only | split)

theorem bistAppend_still {s0 : State} (body : Bytes) (s : State) (hk : Still s0 s) : Still s0 (bistAppend body s) := by
  unfold bistAppend
  repeat (first | with_reducible assumption | with_reducible apply flashErase_still | with_reducible apply flashWrite_still | intro _ | with_reducible apply Still.ite | simp only [Still.upd] | dsimp only | split)

theorem sendLinkMsg_still {s0 : State} (l : LinkId) (m : LinkMsg) (s : State) (hk : Still s0 s) : Still s0 (sendLinkMsg l m s) := by
  unfold sendLinkMsg
  repeat (first | with_reducible assumption | with_reducible apply emit_still | with_reducible apply otherFlit_still | intro _ | with_reducible apply Still.ite | simp only [Still.upd] | dsimp only | split)

theorem noticeLink_still {s0 : State} (l : LinkId) (s : State) (hk : Still s0 s) : Still s0 (noticeLink l s) := by
  unfold noticeLink
  repeat (first | with_reducible assumption | with_reducible apply sendLinkMsg_still | intro _ | with_reducible apply Still.ite | simp only [Still.upd] | dsimp only | split)

theorem noticeCtx_still {s0 : State} (i : Nat) (s : State) (hk : Still s0 s) : Still s0 (noticeCtx i s) := by
  unfold noticeCtx
  repeat (first | with_reducible assumption | with_reducible apply drainCtx_still | with_reducible apply updCtx_still | intro _ | with_reducible apply Still.ite | simp only [Still.upd] | dsimp only | split)

theorem sendNotices_still {s0 : State} (s : State) (hk : Still s0 s) : Still s0 (sendNotices s) := by
  unfold sendNotices
  repeat (first | with_reducible assumption | with_reducible apply eachOf_still | with_reducible apply noticeLink_still | with_reducible apply noticeCtx_still | with_reducible apply Still.foldl | intro _ | with_reducible apply Still.ite | simp only [Still.upd] | dsimp only | split)

theorem noticeChange_still {s0 : State} (before : Nat) (s : State) (hk : Still s0 s) : Still s0 (noticeChange before s) := by
  unfold noticeChange
  repeat (first | with_reducible assumption | with_reducible apply sendNotices_still | intro _ | with_reducible apply Still.ite | simp only [Still.upd] | dsimp only | split)

theorem setBrl_still {s0 : State} (l : LinkId) (st : BrlState) (s : State) (hk : Still s0 s) : Still s0 (setBrl l st s) := by
  unfold setBrl
  repeat (first | with_reducible assumption | with_reducible apply mgtEvent_still | with_reducible apply updLink_still | intro _ | with_reducible apply Still.ite | simp only [Still.upd] | dsimp only | split)

theorem setTth_still {s0 : State} (pl : PlaneId) (st : TthState) (s : State) (hk : Still s0 s) : Still s0 (setTth pl st s) := by
  unfold setTth
  repeat (first | with_reducible assumption | with_reducible apply mgtEvent_still | with_reducible apply updPlane_still | intro _ | with_reducible apply Still.ite | simp only [Still.upd] | dsimp only | split)

theorem setCluster_still {s0 : State} (c : ClusterId) (st : ClusterState) (s : State) (hk : Still s0 s) : Still s0 (setCluster c st s) := by
  unfold setCluster
  repeat (first | with_reducible assumption | with_reducible apply mgtEvent_still | with_reducible apply updCluster_still | intro _ | with_reducible apply Still.ite | simp only [Still.upd] | dsimp only | split)

theorem setCommit_still {s0 : State} (st : CommitState) (s : State) (hk : Still s0 s) : Still s0 (setCommit st s) := by
  unfold setCommit
  repeat (first | with_reducible assumption | with_reducible apply mgtEvent_still | intro _ | with_reducible apply Still.ite | simp only [Still.upd] | dsimp only | split)

theorem setSb_still {s0 : State} (st : SbState) (s : State) (hk : Still s0 s) : Still s0 (setSb st s) := by
  unfold setSb
  repeat (first | with_reducible assumption | with_reducible apply mgtEvent_still | intro _ | with_reducible apply Still.ite | simp only [Still.upd] | dsimp only | split)

theorem portEvent_still {s0 : State} (k : PortId) (s : State) (hk : Still s0 s) : Still s0 (portEvent k s) := by
  unfold portEvent
  repeat (first | with_reducible assumption | with_reducible apply mgtEvent_still | intro _ | with_reducible apply Still.ite | simp only [Still.upd] | dsimp only | split)

theorem enterDetect_still {s0 : State} (l : LinkId) (s : State) (hk : Still s0 s) : Still s0 (enterDetect l s) := by
  unfold enterDetect
  repeat (first | with_reducible assumption | with_reducible apply setBrl_still | with_reducible apply updLink_still | with_reducible apply emit_still | intro _ | with_reducible apply Still.ite | simp only [Still.upd] | dsimp only | split)

theorem enterAlign_still {s0 : State} (pl : PlaneId) (s : State) (hk : Still s0 s) : Still s0 (enterAlign pl s) := by
  unfold enterAlign
  repeat (first | with_reducible assumption | with_reducible apply setTth_still | with_reducible apply updPlane_still | intro _ | with_reducible apply Still.ite | simp only [Still.upd] | dsimp only | split)

theorem startLinks_still {s0 : State} (s : State) (hk : Still s0 s) : Still s0 (startLinks s) := by
  unfold startLinks
  repeat (first | with_reducible assumption | with_reducible apply eachOf_still | with_reducible apply enterDetect_still | with_reducible apply enterAlign_still | intro _ | with_reducible apply Still.ite | simp only [Still.upd] | dsimp only | split)

theorem dualHello_still {s0 : State} (s : State) (hk : Still s0 s) : Still s0 (dualHello s) := by
  unfold dualHello
  repeat (first | with_reducible assumption | with_reducible apply sendDual_still | intro _ | with_reducible apply Still.ite | simp only [Still.upd] | dsimp only | split)

theorem setDual_still {s0 : State} (st : DlState) (s : State) (hk : Still s0 s) : Still s0 (setDual st s) := by
  unfold setDual
  repeat (first | with_reducible assumption | intro _ | with_reducible apply Still.ite | simp only [Still.upd] | dsimp only | split)

theorem dualWaiting_still {s0 : State} (s : State) (hk : Still s0 s) : Still s0 (dualWaiting s) := by
  unfold dualWaiting
  repeat (first | with_reducible assumption | with_reducible apply setDual_still | with_reducible apply dualHello_still | intro _ | with_reducible apply Still.ite | simp only [Still.upd] | dsimp only | split)

theorem dualRelease_still {s0 : State} (p : PartId) (w : DlWait) (s : State) (hk : Still s0 s) : Still s0 (dualRelease p w s) := by
  unfold dualRelease
  repeat (first | with_reducible assumption | with_reducible apply setRegPart_still | with_reducible apply updPart_still | intro _ | with_reducible apply Still.ite | simp only [Still.upd] | dsimp only | split)

theorem dualMismatch_still {s0 : State} (p : PartId) (w : DlWait) (cause : Nat) (s : State) (hk : Still s0 s) : Still s0 (dualMismatch p w cause s) := by
  unfold dualMismatch
  repeat (first | with_reducible assumption | with_reducible apply setRegPart_still | with_reducible apply cntPart_still | with_reducible apply updPart_still | with_reducible apply cmdFault_still | intro _ | with_reducible apply Still.ite | simp only [Still.upd] | dsimp only | split)

theorem dualDecide_still {s0 : State} (p : PartId) (w : DlWait) (r : DlRx) (s : State) (hk : Still s0 s) : Still s0 (dualDecide p w r s) := by
  unfold dualDecide
  repeat (first | with_reducible assumption | with_reducible apply dualMismatch_still | with_reducible apply dualRelease_still | with_reducible apply cntPart_still | with_reducible apply updPart_still | intro _ | with_reducible apply Still.ite | simp only [Still.upd] | dsimp only | split)

theorem dualStart_still {s0 : State} (p : PartId) (jobId count request : Nat) (exempt : Bool) (check : Bytes) (s : State) (hk : Still s0 s) : Still s0 (dualStart p jobId count request exempt check s) := by
  unfold dualStart
  repeat (first | with_reducible assumption | with_reducible apply updPart_still | with_reducible apply sendDual_still | with_reducible apply dualDecide_still | intro _ | with_reducible apply Still.ite | simp only [Still.upd] | dsimp only | split)

theorem dualMessage_still {s0 : State} (p : PartId) (r : DlRx) (s : State) (hk : Still s0 s) : Still s0 (dualMessage p r s) := by
  unfold dualMessage
  repeat (first | with_reducible assumption | with_reducible apply dualDecide_still | with_reducible apply updPart_still | intro _ | with_reducible apply Still.ite | simp only [Still.upd] | dsimp only | split)

theorem dualLost_still {s0 : State} (s : State) (hk : Still s0 s) : Still s0 (dualLost s) := by
  unfold dualLost
  repeat (first | with_reducible assumption | with_reducible apply eachOf_still | with_reducible apply dualMismatch_still | intro _ | with_reducible apply Still.ite | simp only [Still.upd] | dsimp only | split)

theorem dualLinkDown_still {s0 : State} (s : State) (hk : Still s0 s) : Still s0 (dualLinkDown s) := by
  unfold dualLinkDown
  repeat (first | with_reducible assumption | with_reducible apply setDual_still | with_reducible apply dualLost_still | intro _ | with_reducible apply Still.ite | simp only [Still.upd] | dsimp only | split)

theorem dualDetect_still {s0 : State} (s : State) (hk : Still s0 s) : Still s0 (dualDetect s) := by
  unfold dualDetect
  repeat (first | with_reducible assumption | with_reducible apply setDual_still | intro _ | with_reducible apply Still.ite | simp only [Still.upd] | dsimp only | split)

theorem dualActive_still {s0 : State} (s : State) (hk : Still s0 s) : Still s0 (dualActive s) := by
  unfold dualActive
  repeat (first | with_reducible assumption | with_reducible apply dualHello_still | intro _ | with_reducible apply Still.ite | simp only [Still.upd] | dsimp only | split)

theorem execDlHelloReceive_still {s0 : State} (msg : Bytes) (s : State) (hk : Still s0 s) : StillO s0 (execDlHelloReceive msg s) := by
  unfold execDlHelloReceive
  repeat (first | with_reducible assumption | with_reducible apply StillO.next | with_reducible apply StillO.ite | with_reducible apply setDual_still | with_reducible apply dualHello_still | with_reducible apply dualLost_still | with_reducible apply eachOf_still | with_reducible apply updPart_still | with_reducible apply recordAll_still | intro _ | with_reducible apply Still.ite | simp only [Still.upd] | dsimp only | split)

theorem execDlCompareReceive_still {s0 : State} (msg : Bytes) (s : State) (hk : Still s0 s) : StillO s0 (execDlCompareReceive msg s) := by
  unfold execDlCompareReceive
  repeat (first | with_reducible assumption | with_reducible apply StillO.next | with_reducible apply StillO.ite | with_reducible apply dualMessage_still | intro _ | with_reducible apply Still.ite | simp only [Still.upd] | dsimp only | split)

theorem execDlAbandonReceive_still {s0 : State} (msg : Bytes) (s : State) (hk : Still s0 s) : StillO s0 (execDlAbandonReceive msg s) := by
  unfold execDlAbandonReceive
  repeat (first | with_reducible assumption | with_reducible apply StillO.next | with_reducible apply StillO.ite | with_reducible apply dualMessage_still | intro _ | with_reducible apply Still.ite | simp only [Still.upd] | dsimp only | split)

theorem execDlCompareTimeout_still {s0 : State} (p : PartId) (s : State) (hk : Still s0 s) : StillO s0 (execDlCompareTimeout p s) := by
  unfold execDlCompareTimeout
  repeat (first | with_reducible assumption | with_reducible apply StillO.next | with_reducible apply StillO.ite | with_reducible apply dualMismatch_still | intro _ | with_reducible apply Still.ite | simp only [Still.upd] | dsimp only | split)

theorem execDlPairLinkDown_still {s0 : State} (s : State) (hk : Still s0 s) : StillO s0 (execDlPairLinkDown s) := by
  unfold execDlPairLinkDown
  repeat (first | with_reducible assumption | with_reducible apply StillO.next | with_reducible apply StillO.ite | with_reducible apply dualLinkDown_still | intro _ | with_reducible apply Still.ite | simp only [Still.upd] | dsimp only | split)

theorem updCore_still {s0 : State} (c : ClusterId) (i : Fin 8) (f : CoreSt → CoreSt) (s : State) (hk : Still s0 s) : Still s0 (updCore c i f s) := by
  unfold updCore
  repeat (first | with_reducible assumption | with_reducible apply updCluster_still | intro _ | with_reducible apply Still.ite | simp only [Still.upd] | dsimp only | split)

theorem spaceWrite_still {s0 : State} (p : PartId) (space off : Nat) (b : Bytes) (s : State) (hk : Still s0 s) : Still s0 (spaceWrite p space off b s) := by
  unfold spaceWrite
  repeat (first | with_reducible assumption | with_reducible apply charge_still | with_reducible apply hbmWrite_still | with_reducible apply updPart_still | intro _ | with_reducible apply Still.ite | simp only [Still.upd] | dsimp only | split)

theorem spaceMark_still {s0 : State} (p : PartId) (space off n : Nat) (s : State) (hk : Still s0 s) : Still s0 (spaceMark p space off n s) := by
  unfold spaceMark
  repeat (first | with_reducible assumption | with_reducible apply cntPart_still | with_reducible apply updPart_still | intro _ | with_reducible apply Still.ite | simp only [Still.upd] | dsimp only | split)

theorem updSlot_still {s0 : State} (p : PartId) (i : Nat) (f : Slot → Slot) (s : State) (hk : Still s0 s) : Still s0 (updSlot p i f s) := by
  unfold updSlot
  repeat (first | with_reducible assumption | with_reducible apply updPart_still | intro _ | with_reducible apply Still.ite | simp only [Still.upd] | dsimp only | split)

theorem sycSetAt_still {s0 : State} (p : PartId) (i v : Nat) (s : State) (hk : Still s0 s) : Still s0 (sycSetAt p i v s) := by
  unfold sycSetAt
  repeat (first | with_reducible assumption | intro _ | with_reducible apply Still.ite | simp only [Still.upd] | dsimp only | split)

theorem nondet_still {s0 : State} (p : PartId) (s : State) (hk : Still s0 s) : Still s0 (nondet p s) := by
  unfold nondet
  repeat (first | with_reducible assumption | with_reducible apply cntPart64_still | with_reducible apply updJob_still | intro _ | with_reducible apply Still.ite | simp only [Still.upd] | dsimp only | split)

theorem outside_still {s0 : State} (p : PartId) (bit : Nat) (s : State) (hk : Still s0 s) : Still s0 (outside p bit s) := by
  unfold outside
  repeat (first | with_reducible assumption | with_reducible apply updJob_still | intro _ | with_reducible apply Still.ite | simp only [Still.upd] | dsimp only | split)

theorem clauseWrite_still {s0 : State} (p : PartId) (td : Bytes) (pos rank : Nat) (b : Bytes) (s : State) (hk : Still s0 s) : Still s0 (clauseWrite p td pos rank b s) := by
  unfold clauseWrite
  repeat (first | with_reducible assumption | with_reducible apply spaceWrite_still | intro _ | with_reducible apply Still.ite | simp only [Still.upd] | dsimp only | split)

theorem noteResolved_still {s0 : State} (p : PartId) (td : Bytes) (pos : Nat) (r : Bytes) (s : State) (hk : Still s0 s) : Still s0 (noteResolved p td pos r s) := by
  unfold noteResolved
  repeat (first | with_reducible assumption | with_reducible apply updPart_still | intro _ | with_reducible apply Still.ite | simp only [Still.upd] | dsimp only | split)

theorem clauseFlag_still {s0 : State} (p : PartId) (slot rank bits : Nat) (s : State) (hk : Still s0 s) : Still s0 (clauseFlag p slot rank bits s) := by
  unfold clauseFlag
  repeat (first | with_reducible assumption | with_reducible apply clauseWrite_still | intro _ | with_reducible apply Still.ite | simp only [Still.upd] | dsimp only | split)

theorem clauseHome_still {s0 : State} (p : PartId) (slot rank reason : Nat) (s : State) (hk : Still s0 s) : Still s0 (clauseHome p slot rank reason s) := by
  unfold clauseHome
  repeat (first | with_reducible assumption | with_reducible apply clauseWrite_still | intro _ | with_reducible apply Still.ite | simp only [Still.upd] | dsimp only | split)

theorem roundSlot_still {s0 : State} (p : PartId) (i : Nat) (s : State) (hk : Still s0 s) : Still s0 (roundSlot p i s) := by
  unfold roundSlot
  repeat (first | with_reducible assumption | with_reducible apply updSlot_still | with_reducible apply cntPart_still | intro _ | with_reducible apply Still.ite | simp only [Still.upd] | dsimp only | split)

theorem contribute_still {s0 : State} (p : PartId) (tag partEpoch slotGen : Nat) (y : Option (List Nat)) (poison home : Bool) (s : State) (hk : Still s0 s) : Still s0 (contribute p tag partEpoch slotGen y poison home s) := by
  unfold contribute
  repeat (first | with_reducible assumption | with_reducible apply cntPart_still | with_reducible apply updSlot_still | with_reducible apply cntPart64_still | with_reducible apply nondet_still | with_reducible apply setRegPart_still | with_reducible apply updConj_still | with_reducible apply roundSlot_still | with_reducible apply Still.foldl | intro _ | with_reducible apply Still.ite | with_reducible apply Still.iteSnd | with_reducible apply Still.iteFst | simp only [Still.upd] | dsimp only | split)

theorem returnCredit_still {s0 : State} (l : LinkId) (vc : Nat) (b : Bytes) (s : State) (hk : Still s0 s) : Still s0 (returnCredit l vc b s) := by
  unfold returnCredit
  repeat (first | with_reducible assumption | with_reducible apply idleFlit_still | intro _ | with_reducible apply Still.ite | simp only [Still.upd] | dsimp only | split)

theorem leavePool_still {s0 : State} (src : DevId) (path : Path) (b : Bytes) (s : State) (hk : Still s0 s) : Still s0 (leavePool src path b s) := by
  unfold leavePool
  repeat (first | with_reducible assumption | with_reducible apply returnCredit_still | with_reducible apply updLink_still | with_reducible apply updPlane_still | intro _ | with_reducible apply Still.ite | with_reducible apply Still.iteSnd | with_reducible apply Still.iteFst | simp only [Still.upd] | dsimp only | split)

theorem updRows_still {s0 : State} (p : PartId) (f : List RowRec → List RowRec) (s : State) (hk : Still s0 s) : Still s0 (updRows p f s) := by
  unfold updRows
  repeat (first | with_reducible assumption | with_reducible apply updPart_still | intro _ | with_reducible apply Still.ite | simp only [Still.upd] | dsimp only | split)

theorem updRow_still {s0 : State} (p : PartId) (tag : Nat) (f : RowRec → RowRec) (s : State) (hk : Still s0 s) : Still s0 (updRow p tag f s) := by
  unfold updRow
  repeat (first | with_reducible assumption | with_reducible apply updRows_still | intro _ | with_reducible apply Still.ite | simp only [Still.upd] | dsimp only | split)

theorem dropRow_still {s0 : State} (p : PartId) (tag : Nat) (s : State) (hk : Still s0 s) : Still s0 (dropRow p tag s) := by
  unfold dropRow
  repeat (first | with_reducible assumption | with_reducible apply updRows_still | with_reducible apply eachOf_still | with_reducible apply leavePool_still | intro _ | with_reducible apply Still.ite | simp only [Still.upd] | dsimp only | split)

theorem updStep_still {s0 : State} (p : PartId) (r : RowRec) (f : Conj → Conj) (s : State) (hk : Still s0 s) : Still s0 (updStep p r f s) := by
  unfold updStep
  repeat (first | with_reducible assumption | with_reducible apply updPart_still | intro _ | with_reducible apply Still.ite | simp only [Still.upd] | dsimp only | split)

theorem noteOverflow_still {s0 : State} (p : PartId) (r : RowRec) (s : State) (hk : Still s0 s) : Still s0 (noteOverflow p r s) := by
  unfold noteOverflow
  repeat (first | with_reducible assumption | with_reducible apply cntPart_still | with_reducible apply record_still | with_reducible apply updStep_still | intro _ | with_reducible apply Still.ite | simp only [Still.upd] | dsimp only | split)

theorem sendDrop_still {s0 : State} (p : PartId) (r : RowRec) (s : State) (hk : Still s0 s) : Still s0 (sendDrop p r s) := by
  unfold sendDrop
  repeat (first | with_reducible assumption | with_reducible apply clauseFlag_still | with_reducible apply updSlot_still | with_reducible apply contribute_still | with_reducible apply cntPart_still | with_reducible apply sendPacket_still | intro _ | with_reducible apply Still.ite | simp only [Still.upd] | dsimp only | split)

theorem dropClause_still {s0 : State} (p : PartId) (r : RowRec) (s : State) (hk : Still s0 s) : Still s0 (dropClause p r s) := by
  unfold dropClause
  repeat (first | with_reducible assumption | with_reducible apply sendDrop_still | with_reducible apply cntPart_still | with_reducible apply dropRow_still | intro _ | with_reducible apply Still.ite | simp only [Still.upd] | dsimp only | split)

theorem overflowRow_still {s0 : State} (p : PartId) (r : RowRec) (s : State) (hk : Still s0 s) : Still s0 (overflowRow p r s) := by
  unfold overflowRow
  repeat (first | with_reducible assumption | with_reducible apply updRow_still | with_reducible apply noteOverflow_still | with_reducible apply dropClause_still | with_reducible apply clauseFlag_still | intro _ | with_reducible apply Still.ite | simp only [Still.upd] | dsimp only | split)

theorem ballastMark_still {s0 : State} (p : PartId) (s : State) (hk : Still s0 s) : Still s0 (ballastMark p s) := by
  unfold ballastMark
  repeat (first | with_reducible assumption | with_reducible apply setRegPart_still | intro _ | with_reducible apply Still.ite | simp only [Still.upd] | dsimp only | split)

theorem admitGust_still {s0 : State} (p : PartId) (r : RowRec) (cap : Nat) (s : State) (hk : Still s0 s) : Still s0 (admitGust p r cap s) := by
  unfold admitGust
  repeat (first | with_reducible assumption | with_reducible apply overflowRow_still | with_reducible apply nondet_still | with_reducible apply updStep_still | intro _ | with_reducible apply Still.ite | simp only [Still.upd] | dsimp only | split)

theorem admitRow_still {s0 : State} (p : PartId) (r : RowRec) (s : State) (hk : Still s0 s) : Still s0 (admitRow p r s) := by
  unfold admitRow
  repeat (first | with_reducible assumption | with_reducible apply updStep_still | with_reducible apply ballastMark_still | with_reducible apply updRow_still | with_reducible apply charge_still | with_reducible apply admitGust_still | intro _ | with_reducible apply Still.ite | with_reducible apply Still.iteSnd | with_reducible apply Still.iteFst | simp only [Still.upd] | dsimp only | split)

theorem storeRow_still {s0 : State} (p : PartId) (r : RowRec) (s : State) (hk : Still s0 s) : Still s0 (storeRow p r s) := by
  unfold storeRow
  repeat (first | with_reducible assumption | with_reducible apply cntPart64_still | with_reducible apply admitRow_still | with_reducible apply updRows_still | intro _ | with_reducible apply Still.ite | simp only [Still.upd] | dsimp only | split)

theorem storeWaiting_still {s0 : State} (p : PartId) : ∀ (x0 : Nat) (s : State), Still s0 s → Still s0 (storeWaiting p x0 s)
  | 0, s, h => by
    unfold storeWaiting
    repeat (first | with_reducible assumption | with_reducible apply updRow_still | with_reducible apply leavePool_still | with_reducible apply charge_still | with_reducible apply ballastMark_still | intro _ | with_reducible apply Still.ite | simp only [Still.upd] | dsimp only | split)
  | n + 1, s, h => by
    unfold storeWaiting
    repeat (first | with_reducible assumption | with_reducible apply storeWaiting_still | with_reducible apply updRow_still | with_reducible apply leavePool_still | with_reducible apply charge_still | with_reducible apply ballastMark_still | intro _ | with_reducible apply Still.ite | simp only [Still.upd] | dsimp only | split)

end Sys2Proof.Laws
end

