-- ==== Sys2Proof/Laws/Still2.lean ====
section
/-!
SUPPORT. Still2.lean: what leaves the standing state alone, one lemma per operation, in the order of the definitions (2 of 5).
Still s t: start-up state, pins, fuses and the configuration applied are those of s.
-/
set_option linter.all false
namespace Sys2Proof.Laws
open Sys2Proof Sys2Proof.Machine Sys2Proof.Safety

theorem noteStalls_still {s0 : State} (p : PartId) (s : State) (hk : Still s0 s) : Still s0 (noteStalls p s) := by
  unfold noteStalls
  repeat (first | with_reducible assumption | with_reducible apply cntPart_still | with_reducible apply updRows_still | intro _ | with_reducible apply Still.ite | simp only [Still.upd] | dsimp only | split)

theorem settleRows_still {s0 : State} (p : PartId) (s : State) (hk : Still s0 s) : Still s0 (settleRows p s) := by
  unfold settleRows
  repeat (first | with_reducible assumption | with_reducible apply noteStalls_still | with_reducible apply storeWaiting_still | intro _ | with_reducible apply Still.ite | simp only [Still.upd] | dsimp only | split)

theorem holdFault_still {s0 : State} (p : PartId) (tags : List Nat) (e : ErrRec) (s : State) (hk : Still s0 s) : Still s0 (holdFault p tags e s) := by
  unfold holdFault
  repeat (first | with_reducible assumption | with_reducible apply updRows_still | intro _ | with_reducible apply Still.ite | simp only [Still.upd] | dsimp only | split)

theorem returnResult_still {s0 : State} (p : PartId) (r : RowRec) (tag weight : Nat) (d : List Nat) (poison : Bool) (s : State) (hk : Still s0 s) : Still s0 (returnResult p r tag weight d poison s) := by
  unfold returnResult
  repeat (first | with_reducible assumption | with_reducible apply contribute_still | with_reducible apply cntPart64_still | with_reducible apply sendPacket_still | intro _ | with_reducible apply Still.ite | simp only [Still.upd] | dsimp only | split)

theorem suppressFault_still {s0 : State} (p : PartId) (r : RowRec) (s : State) (hk : Still s0 s) : Still s0 (suppressFault p r s) := by
  unfold suppressFault
  repeat (first | with_reducible assumption | with_reducible apply eachOf_still | with_reducible apply suppress_still | intro _ | with_reducible apply Still.ite | with_reducible apply Still.iteSnd | with_reducible apply Still.iteFst | simp only [Still.upd] | dsimp only | split)

theorem confirmFault_still {s0 : State} (p : PartId) (r : RowRec) (s : State) (hk : Still s0 s) : Still s0 (confirmFault p r s) := by
  unfold confirmFault
  repeat (first | with_reducible assumption | with_reducible apply eachOf_still | with_reducible apply updRows_still | with_reducible apply record_still | with_reducible apply cntPart_still | intro _ | with_reducible apply Still.ite | with_reducible apply Still.iteSnd | with_reducible apply Still.iteFst | simp only [Still.upd] | dsimp only | split)

theorem uncount_still {s0 : State} (p : PartId) (r : RowRec) (s : State) (hk : Still s0 s) : Still s0 (uncount p r s) := by
  unfold uncount
  repeat (first | with_reducible assumption | with_reducible apply updStep_still | intro _ | with_reducible apply Still.ite | simp only [Still.upd] | dsimp only | split)

theorem orphanRow_still {s0 : State} (p : PartId) (r : RowRec) (s : State) (hk : Still s0 s) : Still s0 (orphanRow p r s) := by
  unfold orphanRow
  repeat (first | with_reducible assumption | with_reducible apply cntPart_still | with_reducible apply suppressFault_still | with_reducible apply uncount_still | with_reducible apply dropRow_still | intro _ | with_reducible apply Still.ite | simp only [Still.upd] | dsimp only | split)

theorem freeRowsOf_still {s0 : State} (d : DevId) (p : PartId) (s : State) (hk : Still s0 s) : Still s0 (freeRowsOf d p s) := by
  unfold freeRowsOf
  repeat (first | with_reducible assumption | with_reducible apply updPart_still | with_reducible apply eachOf_still | with_reducible apply orphanRow_still | with_reducible apply dropRow_still | intro _ | with_reducible apply Still.ite | simp only [Still.upd] | dsimp only | split)

theorem confirmRow_still {s0 : State} (p : PartId) (r : RowRec) (rank weight : Nat) (s : State) (hk : Still s0 s) : Still s0 (confirmRow p r rank weight s) := by
  unfold confirmRow
  repeat (first | with_reducible assumption | with_reducible apply updRow_still | with_reducible apply confirmFault_still | with_reducible apply overflowRow_still | intro _ | with_reducible apply Still.ite | simp only [Still.upd] | dsimp only | split)

theorem releaseRow_still {s0 : State} (p : PartId) (r : RowRec) (rank weight : Nat) (s : State) (hk : Still s0 s) : Still s0 (releaseRow p r rank weight s) := by
  unfold releaseRow
  repeat (first | with_reducible assumption | with_reducible apply cntPart_still | with_reducible apply returnResult_still | with_reducible apply dropRow_still | intro _ | with_reducible apply Still.ite | simp only [Still.upd] | dsimp only | split)

theorem applyVerdict_still {s0 : State} (p : PartId) (tag : Nat) (confirm : Bool) (rank weight : Nat) (s : State) (hk : Still s0 s) : Still s0 (applyVerdict p tag confirm rank weight s) := by
  unfold applyVerdict
  repeat (first | with_reducible assumption | with_reducible apply updRow_still | with_reducible apply confirmRow_still | with_reducible apply suppressFault_still | with_reducible apply uncount_still | with_reducible apply dropRow_still | with_reducible apply releaseRow_still | with_reducible apply cntPart_still | intro _ | with_reducible apply Still.ite | simp only [Still.upd] | dsimp only | split)

theorem sendClause_still {s0 : State} (p : PartId) (c : Conj) (x : Clause) (s : State) (hk : Still s0 s) : Still s0 (sendClause p c x s) := by
  unfold sendClause
  repeat (first | with_reducible assumption | with_reducible apply storeRow_still | with_reducible apply cntPart64_still | with_reducible apply sendPacketAs_still | intro _ | with_reducible apply Still.ite | simp only [Still.upd] | dsimp only | split)

theorem issueClause_still {s0 : State} (p : PartId) (x : Clause) (s : State) (hk : Still s0 s) : Still s0 (issueClause p x s) := by
  unfold issueClause
  repeat (first | with_reducible assumption | with_reducible apply updConj_still | with_reducible apply sendClause_still | intro _ | with_reducible apply Still.ite | simp only [Still.upd] | dsimp only | split)

theorem homeClause_still {s0 : State} (p : PartId) (x : Clause) (reason : Nat) (s : State) (hk : Still s0 s) : Still s0 (homeClause p x reason s) := by
  unfold homeClause
  repeat (first | with_reducible assumption | with_reducible apply clauseHome_still | with_reducible apply outside_still | with_reducible apply record_still | with_reducible apply updConj_still | with_reducible apply cntDev_still | with_reducible apply issueClause_still | intro _ | with_reducible apply Still.ite | simp only [Still.upd] | dsimp only | split)

theorem withdrawSpecs_still {s0 : State} (p : PartId) (s : State) (hk : Still s0 s) : Still s0 (withdrawSpecs p s) := by
  unfold withdrawSpecs
  repeat (first | with_reducible assumption | with_reducible apply eachOf_still | with_reducible apply cntPart64_still | with_reducible apply cntPart_still | with_reducible apply withdrawRow_still | intro _ | with_reducible apply Still.ite | simp only [Still.upd] | dsimp only | split)

theorem noteUnadmitted_still {s0 : State} (p : PartId) (c : Conj) (x : Clause) (admitted : Option Bool) (s : State) (hk : Still s0 s) : Still s0 (noteUnadmitted p c x admitted s) := by
  unfold noteUnadmitted
  repeat (first | with_reducible assumption | with_reducible apply nondet_still | with_reducible refine takeFree_still (by with_reducible assumption) ?_ | with_reducible apply takeFree_snd_still | intro _ | with_reducible apply Still.ite | with_reducible apply Still.iteSnd | with_reducible apply Still.iteFst | simp only [Still.upd] | dsimp only | split)

theorem lateHome_still {s0 : State} (p : PartId) (x : Clause) (s : State) (hk : Still s0 s) : Still s0 (lateHome p x s) := by
  unfold lateHome
  repeat (first | with_reducible assumption | with_reducible apply homeClause_still | with_reducible apply cntPart_still | intro _ | with_reducible apply Still.ite | simp only [Still.upd] | dsimp only | split)

theorem reissueClause_clauseRes_still {s0 : State} (p : PartId) (x : Clause) (d : DevId) (k : Nat) (s : State) (hk : Still s0 s) :
    Still s0 (reissueClause.clauseRes p x d k s) := by
  unfold reissueClause.clauseRes
  repeat (first | with_reducible assumption | with_reducible apply updConj_still | with_reducible apply outside_still | with_reducible apply homeClause_still | with_reducible apply cntPart_still | with_reducible apply issueClause_still | with_reducible apply clauseWrite_still | intro _ | with_reducible apply Still.ite | simp only [Still.upd] | dsimp only | split)

theorem reissueClause_still {s0 : State} (p : PartId) (x : Clause) (bad : Option DevId) (admitted : Option Bool) (s : State) (hk : Still s0 s) : Still s0 (reissueClause p x bad admitted s) := by
  unfold reissueClause
  repeat (first | with_reducible assumption | with_reducible apply updConj_still | with_reducible apply noteUnadmitted_still | with_reducible apply jobFault_still | with_reducible apply lateHome_still | with_reducible apply outside_still | with_reducible apply reissueClause_clauseRes_still | with_reducible apply cntPart_still | with_reducible apply issueClause_still | with_reducible apply homeClause_still | intro _ | with_reducible apply Still.ite | simp only [Still.upd] | dsimp only | split)

theorem reissueTo_still {s0 : State} (p : PartId) (d : DevId) (s : State) (hk : Still s0 s) : Still s0 (reissueTo p d s) := by
  unfold reissueTo
  repeat (first | with_reducible assumption | with_reducible apply eachOf_still | with_reducible apply reissueClause_still | intro _ | with_reducible apply Still.ite | simp only [Still.upd] | dsimp only | split)

theorem dropHeld_still {s0 : State} (d : DevId) (p : PartId) (gone : HeldPkt → Bool) (s : State) (hk : Still s0 s) : Still s0 (dropHeld d p gone s) := by
  unfold dropHeld
  repeat (first | with_reducible assumption | with_reducible apply updFlow_still | with_reducible apply eachOf_still | with_reducible apply leavePool_still | intro _ | with_reducible apply Still.ite | simp only [Still.upd] | dsimp only | split)

theorem dropForwarded_still {s0 : State} (d : DevId) (s : State) (hk : Still s0 s) : Still s0 (dropForwarded d s) := by
  unfold dropForwarded
  repeat (first | with_reducible assumption | intro _ | with_reducible apply Still.ite | simp only [Still.upd] | dsimp only | split)

theorem markUnreachable_still {s0 : State} (d : DevId) (s : State) (hk : Still s0 s) : Still s0 (markUnreachable d s) := by
  unfold markUnreachable
  repeat (first | with_reducible assumption | with_reducible apply dropForwarded_still | with_reducible apply cntDev_still | with_reducible apply updPeer_still | with_reducible apply eachOf_still | with_reducible apply dropHeld_still | with_reducible apply reissueTo_still | with_reducible apply orphanRow_still | intro _ | with_reducible apply Still.ite | simp only [Still.upd] | dsimp only | split)

theorem markReachable_still {s0 : State} (d : DevId) (s : State) (hk : Still s0 s) : Still s0 (markReachable d s) := by
  unfold markReachable
  repeat (first | with_reducible assumption | with_reducible apply drainOut_still | with_reducible apply cntDev_still | with_reducible apply updPeer_still | intro _ | with_reducible apply Still.ite | simp only [Still.upd] | dsimp only | split)

theorem showEpoch_still {s0 : State} (d : DevId) (e : Nat) (s : State) (hk : Still s0 s) : Still s0 (showEpoch d e s) := by
  unfold showEpoch
  repeat (first | with_reducible assumption | with_reducible apply updPeer_still | with_reducible apply markReachable_still | intro _ | with_reducible apply Still.ite | simp only [Still.upd] | dsimp only | split)

theorem judgeReach_still {s0 : State} (s : State) (hk : Still s0 s) : Still s0 (judgeReach s) := by
  unfold judgeReach
  repeat (first | with_reducible assumption | with_reducible apply eachOf_still | with_reducible apply markUnreachable_still | intro _ | with_reducible apply Still.ite | simp only [Still.upd] | dsimp only | split)

theorem relayReach_still {s0 : State} (before : State) (s : State) (hk : Still s0 s) : Still s0 (relayReach before s) := by
  unfold relayReach
  repeat (first | with_reducible assumption | with_reducible apply eachOf_still | with_reducible apply markReachable_still | intro _ | with_reducible apply Still.ite | simp only [Still.upd] | dsimp only | split)

theorem dropTraffic_still {s0 : State} (d : DevId) (s : State) (hk : Still s0 s) : Still s0 (dropTraffic d s) := by
  unfold dropTraffic
  repeat (first | with_reducible assumption | intro _ | with_reducible apply Still.ite | with_reducible apply Still.iteSnd | with_reducible apply Still.iteFst | simp only [Still.upd] | dsimp only | split)

theorem learnStart_still {s0 : State} (d : DevId) (id : Nat) (s : State) (hk : Still s0 s) : Still s0 (learnStart d id s) := by
  unfold learnStart
  repeat (first | with_reducible assumption | with_reducible apply updPeer_still | with_reducible apply dropTraffic_still | with_reducible apply eachOf_still | with_reducible apply freeRowsOf_still | with_reducible apply updFlow_still | with_reducible apply dropHeld_still | intro _ | with_reducible apply Still.ite | simp only [Still.upd] | dsimp only | split)

theorem seeEpoch_still {s0 t : State} {d : DevId} {p : PartId} {e : Nat} {s : State} (e : seeEpoch d p e s = some t) (hk : Still s0 s) : Still s0 t := by
  unfold seeEpoch at e
  (try dsimp only at e)
  repeat' split at e
  all_goals (try cases e)
  all_goals repeat (first | with_reducible assumption | with_reducible apply updFlow_still | with_reducible apply freeRowsOf_still | with_reducible apply dropHeld_still | intro _ | with_reducible apply Still.ite | simp only [Still.upd] | dsimp only | split)

theorem sendPair_still {s0 : State} (h : PairHead) (payload : Bytes) (s : State) (hk : Still s0 s) : Still s0 (sendPair h payload s) := by
  unfold sendPair
  repeat (first | with_reducible assumption | with_reducible apply emit_still | with_reducible apply sendPairLink_still | intro _ | with_reducible apply Still.ite | simp only [Still.upd] | dsimp only | split)

theorem pairHello_still {s0 : State} (s : State) (hk : Still s0 s) : Still s0 (pairHello s) := by
  unfold pairHello
  repeat (first | with_reducible assumption | with_reducible apply sendPair_still | intro _ | with_reducible apply Still.ite | simp only [Still.upd] | dsimp only | split)

theorem pairActive_still {s0 : State} (s : State) (hk : Still s0 s) : Still s0 (pairActive s) := by
  unfold pairActive
  repeat (first | with_reducible assumption | with_reducible apply pairHello_still | intro _ | with_reducible apply Still.ite | simp only [Still.upd] | dsimp only | split)

theorem mirrorDesc_still {s0 : State} (p : PartId) (st : StreamId) (idx : Nat) (d : Bytes) (s : State) (hk : Still s0 s) : Still s0 (mirrorDesc p st idx d s) := by
  unfold mirrorDesc
  repeat (first | with_reducible assumption | with_reducible apply sendPair_still | intro _ | with_reducible apply Still.ite | simp only [Still.upd] | dsimp only | split)

theorem modelsSection_still {s0 t : State} {v : Bytes} {s : State} {p : PartId} (e : modelsSection s p = (v, t)) (hk : Still s0 s) : Still s0 t := by
  unfold modelsSection at e
  (try dsimp only at e)
  repeat' split at e
  all_goals (try cases e)
  all_goals repeat (first | with_reducible assumption | with_reducible refine takeFree_still (by with_reducible assumption) ?_ | with_reducible apply takeFree_snd_still | intro _ | with_reducible apply Still.ite | with_reducible apply Still.iteSnd | with_reducible apply Still.iteFst | simp only [Still.upd] | dsimp only | split)

theorem modelsSection_snd_still {s0 : State} (s : State) (p : PartId) (hk : Still s0 s) : Still s0 (modelsSection s p).2 :=
  modelsSection_still (Prod.eta _).symm hk

theorem captureBoundary_still {s0 : State} (p : PartId) (s : State) (hk : Still s0 s) : Still s0 (captureBoundary p s) := by
  unfold captureBoundary
  repeat (first | with_reducible assumption | with_reducible refine modelsSection_still (by with_reducible assumption) ?_ | with_reducible apply modelsSection_snd_still | with_reducible apply updPart_still | intro _ | with_reducible apply Still.ite | with_reducible apply Still.iteSnd | with_reducible apply Still.iteFst | simp only [Still.upd] | dsimp only | split)

theorem sendSnap_still {s0 : State} (p : PartId) (epoch : Nat) : ∀ (x0 : Nat) (x1 : Nat) (x2 : Bytes) (s : State), Still s0 s → Still s0 (sendSnap p epoch x0 x1 x2 s)
  | 0, _x1, _x2, s, h => by
    unfold sendSnap
    repeat (first | with_reducible assumption | with_reducible apply sendPair_still | intro _ | with_reducible apply Still.ite | simp only [Still.upd] | dsimp only | split)
  | fuel + 1, off, b, s, h => by
    unfold sendSnap
    repeat (first | with_reducible assumption | with_reducible apply sendSnap_still | with_reducible apply sendPair_still | intro _ | with_reducible apply Still.ite | simp only [Still.upd] | dsimp only | split)

theorem freeSlots_still {s0 : State} (p : PartId) (first count : Nat) (s : State) (hk : Still s0 s) : Still s0 (freeSlots p first count s) := by
  unfold freeSlots
  repeat (first | with_reducible assumption | with_reducible apply updPart_still | intro _ | with_reducible apply Still.ite | with_reducible apply Still.iteSnd | with_reducible apply Still.iteFst | simp only [Still.upd] | dsimp only | split)

theorem issueRecord_still {s0 : State} (p : PartId) (addr : Nat) (record : Bytes) (first count : Nat) (s : State) (hk : Still s0 s) : Still s0 (issueRecord p addr record first count s) := by
  unfold issueRecord
  repeat (first | with_reducible assumption | with_reducible apply wakeEvent_still | with_reducible apply dmaPush_still | with_reducible apply record_still | with_reducible apply freeSlots_still | with_reducible apply updPart_still | intro _ | with_reducible apply Still.ite | simp only [Still.upd] | dsimp only | split)

theorem issueStaged_still {s0 : State} (p : PartId) (x : Staged) (s : State) (hk : Still s0 s) : Still s0 (issueStaged p x s) := by
  unfold issueStaged
  repeat (first | with_reducible assumption | with_reducible apply updPart_still | with_reducible apply issueRecord_still | with_reducible apply msixPart_still | intro _ | with_reducible apply Still.ite | simp only [Still.upd] | dsimp only | split)

theorem issueWhile_still {s0 : State} (p : PartId) (ok : Staged → Bool) (s : State) (hk : Still s0 s) : Still s0 (issueWhile p ok s) := by
  unfold issueWhile
  repeat (first | with_reducible assumption | with_reducible apply eachOf_still | with_reducible apply issueStaged_still | intro _ | with_reducible apply Still.ite | simp only [Still.upd] | dsimp only | split)

theorem settleReleased_still {s0 : State} (p : PartId) (s : State) (hk : Still s0 s) : Still s0 (settleReleased p s) := by
  unfold settleReleased
  repeat (first | with_reducible assumption | with_reducible apply updPart_still | intro _ | with_reducible apply Still.ite | simp only [Still.upd] | dsimp only | split)

theorem uncover_still {s0 : State} (p : PartId) (s : State) (hk : Still s0 s) : Still s0 (uncover p s) := by
  unfold uncover
  repeat (first | with_reducible assumption | with_reducible apply updPart_still | with_reducible apply settleReleased_still | with_reducible apply issueWhile_still | intro _ | with_reducible apply Still.ite | simp only [Still.upd] | dsimp only | split)

theorem sendSnapshot_still {s0 : State} (p : PartId) (kind : Nat) (s : State) (hk : Still s0 s) : Still s0 (sendSnapshot p kind s) := by
  unfold sendSnapshot
  repeat (first | with_reducible assumption | with_reducible apply updPart_still | with_reducible apply captureBoundary_still | with_reducible apply uncover_still | with_reducible apply sendSnap_still | intro _ | with_reducible apply Still.ite | simp only [Still.upd] | dsimp only | split)

theorem jobEndSnapshot_still {s0 : State} (p : PartId) (s : State) (hk : Still s0 s) : Still s0 (jobEndSnapshot p s) := by
  unfold jobEndSnapshot
  repeat (first | with_reducible assumption | with_reducible apply sendSnapshot_still | with_reducible apply captureBoundary_still | intro _ | with_reducible apply Still.ite | simp only [Still.upd] | dsimp only | split)

theorem markGranule_still {s0 : State} (g : Nat) (s : State) (hk : Still s0 s) : Still s0 (markGranule g s) := by
  unfold markGranule
  repeat (first | with_reducible assumption | with_reducible apply cntPart_still | intro _ | with_reducible apply Still.ite | simp only [Still.upd] | dsimp only | split)

theorem updExec_still {s0 : State} (p : PartId) (st : StreamId) (f : Exec → Exec) (s : State) (hk : Still s0 s) : Still s0 (updExec p st f s) := by
  unfold updExec
  repeat (first | with_reducible assumption | with_reducible apply updStream_still | intro _ | with_reducible apply Still.ite | simp only [Still.upd] | dsimp only | split)

theorem noteOnce_still {s0 : State} (p : PartId) (st : StreamId) (r : ErrRec) (s : State) (hk : Still s0 s) : Still s0 (noteOnce p st r s) := by
  unfold noteOnce
  repeat (first | with_reducible assumption | with_reducible apply record_still | with_reducible apply updExec_still | intro _ | with_reducible apply Still.ite | simp only [Still.upd] | dsimp only | split)

theorem onCore_still {s0 : State} (c : CoreId) (f : CoreSt → CoreSt) (s : State) (hk : Still s0 s) : Still s0 (onCore c f s) := by
  unfold onCore
  repeat (first | with_reducible assumption | with_reducible apply updCore_still | intro _ | with_reducible apply Still.ite | with_reducible apply Still.iteSnd | with_reducible apply Still.iteFst | simp only [Still.upd] | dsimp only | split)

theorem flagItem_still {s0 : State} (p : PartId) (e : EccFind) (s : State) (hk : Still s0 s) : Still s0 (flagItem p e s) := by
  unfold flagItem
  repeat (first | with_reducible assumption | with_reducible apply onCore_still | with_reducible apply updPart_still | with_reducible apply updRow_still | with_reducible apply markGranule_still | with_reducible apply updSlot_still | intro _ | with_reducible apply Still.ite | simp only [Still.upd] | dsimp only | split)

theorem itemFind_still {s0 : State} (p : PartId) (st : StreamId) (tag : Nat) (tags : List Nat) (e : EccFind) (s : State) (hk : Still s0 s) : Still s0 (itemFind p st tag tags e s) := by
  unfold itemFind
  repeat (first | with_reducible assumption | with_reducible apply noteOnce_still | with_reducible apply flagItem_still | with_reducible apply holdFault_still | intro _ | with_reducible apply Still.ite | simp only [Still.upd] | dsimp only | split)

theorem meetHbm_still {s0 : State} (p : PartId) (tag off n : Nat) (s : State) (hk : Still s0 s) : Still s0 (meetHbm p tag off n s) := by
  unfold meetHbm
  repeat (first | with_reducible assumption | with_reducible apply eachOf_still | with_reducible apply markGranule_still | with_reducible apply record_still | with_reducible apply cntPart_still | intro _ | with_reducible apply Still.ite | simp only [Still.upd] | dsimp only | split)

theorem settleMerge_still {s0 : State} (p : PartId) (st : StreamId) (tag : Nat) (s : State) (hk : Still s0 s) : Still s0 (settleMerge p st tag s) := by
  unfold settleMerge
  repeat (first | with_reducible assumption | with_reducible apply eachOf_still | with_reducible apply noteOnce_still | with_reducible apply markGranule_still | with_reducible apply record_still | with_reducible apply cntPart_still | intro _ | with_reducible apply Still.ite | with_reducible apply Still.iteSnd | with_reducible apply Still.iteFst | simp only [Still.upd] | dsimp only | split)

theorem startMeets_still {s0 : State} (p : PartId) (st : StreamId) (tag : Nat) (s : State) (hk : Still s0 s) : Still s0 (startMeets p st tag s) := by
  unfold startMeets
  repeat (first | with_reducible assumption | with_reducible refine Still.sramFold ?_ ?_ _ _ | with_reducible apply Still.sramFilter | with_reducible apply Still.foldl | intro _ | with_reducible apply Still.ite | with_reducible apply Still.iteSnd | with_reducible apply Still.iteFst | simp only [Still.upd] | dsimp only | split)

theorem cmdFail_still {s0 : State} (p : PartId) (st : StreamId) (d : Bytes) (e : CmdErr) (s : State) (hk : Still s0 s) : Still s0 (cmdFail p st d e s) := by
  unfold cmdFail
  repeat (first | with_reducible assumption | with_reducible apply settleMerge_still | with_reducible apply meetHbm_still | with_reducible apply dropHead_still | with_reducible apply traceCmd_still | with_reducible apply haltQueues_still | with_reducible apply record_still | with_reducible apply fetchNow_still | with_reducible apply jobFault_still | intro _ | with_reducible apply Still.ite | simp only [Still.upd] | dsimp only | split)

theorem discardDesc_still {s0 : State} (p : PartId) (s : State) (hk : Still s0 s) : Still s0 (discardDesc p s) := by
  unfold discardDesc
  repeat (first | with_reducible assumption | with_reducible apply cntPart_still | intro _ | with_reducible apply Still.ite | simp only [Still.upd] | dsimp only | split)

theorem queOverrun_still {s0 : State} (p : PartId) (st : StreamId) (s : State) (hk : Still s0 s) : Still s0 (queOverrun p st s) := by
  unfold queOverrun
  repeat (first | with_reducible assumption | with_reducible apply updStream_still | with_reducible apply fetchNow_still | with_reducible apply jobFault_still | with_reducible apply cntPart_still | intro _ | with_reducible apply Still.ite | simp only [Still.upd] | dsimp only | split)

theorem takeCmd_still {s0 t : State} {v : Option Bytes} {p : PartId} {st : StreamId} {op : Nat} {s : State} (e : takeCmd p st op s = (v, t)) (hk : Still s0 s) : Still s0 t := by
  unfold takeCmd at e
  (try dsimp only at e)
  repeat' split at e
  all_goals (try cases e)
  all_goals repeat (first | with_reducible assumption | with_reducible apply charge_still | with_reducible apply updStream_still | with_reducible apply hbmHold_still | with_reducible apply hbmGo_still | with_reducible apply startMeets_still | with_reducible apply traceCmd_still | with_reducible apply cmdFail_still | intro _ | with_reducible apply Still.ite | simp only [Still.upd] | dsimp only | split)

theorem takeCmd_snd_still {s0 : State} (p : PartId) (st : StreamId) (op : Nat) (s : State) (hk : Still s0 s) : Still s0 (takeCmd p st op s).2 :=
  takeCmd_still (Prod.eta _).symm hk

theorem cmdDone_still {s0 : State} (p : PartId) (st : StreamId) (s : State) (hk : Still s0 s) : Still s0 (cmdDone p st s) := by
  unfold cmdDone
  repeat (first | with_reducible assumption | with_reducible apply updExec_still | intro _ | with_reducible apply Still.ite | simp only [Still.upd] | dsimp only | split)

theorem runCmd_still {s0 : State} (p : PartId) (st : StreamId) (op : Nat) (body : Bytes → State → State) (s : State) (hbody : ∀ x0 x1, Still s0 x1 → Still s0 (body x0 x1)) (hk : Still s0 s) : StillO s0 (runCmd p st op body s) := by
  unfold runCmd
  repeat (first | with_reducible apply hbody | with_reducible assumption | with_reducible apply StillO.next | with_reducible apply StillO.ite | with_reducible refine takeCmd_still (by with_reducible assumption) ?_ | with_reducible apply takeCmd_snd_still | intro _ | with_reducible apply Still.ite | with_reducible apply Still.iteSnd | with_reducible apply Still.iteFst | simp only [Still.upd] | dsimp only | split)

theorem sycAdd_still {s0 : State} (p : PartId) (idx v source tag : Nat) (s : State) (hk : Still s0 s) : Still s0 (sycAdd p idx v source tag s) := by
  unfold sycAdd
  repeat (first | with_reducible assumption | with_reducible apply jobFault_still | with_reducible apply sycSetAt_still | intro _ | with_reducible apply Still.ite | simp only [Still.upd] | dsimp only | split)

theorem applySignal_still {s0 : State} (p : PartId) (st : StreamId) (d : Bytes) (s : State) (hk : Still s0 s) : Still s0 (applySignal p st d s) := by
  unfold applySignal
  repeat (first | with_reducible assumption | with_reducible apply sycAdd_still | with_reducible apply sycSetAt_still | intro _ | with_reducible apply Still.ite | simp only [Still.upd] | dsimp only | split)

theorem dropClusters_still {s0 : State} (p : PartId) (s : State) (hk : Still s0 s) : Still s0 (dropClusters p s) := by
  unfold dropClusters
  repeat (first | with_reducible assumption | with_reducible apply updJob_still | intro _ | with_reducible apply Still.ite | simp only [Still.upd] | dsimp only | split)

theorem execJobBegin_still {s0 : State} (p : PartId) (st : StreamId) (s : State) (hk : Still s0 s) : StillO s0 (execJobBegin p st s) := by
  unfold execJobBegin
  repeat (first | with_reducible assumption | with_reducible apply StillO.next | with_reducible apply StillO.ite | with_reducible apply runCmd_still | with_reducible apply cmdFail_still | with_reducible apply cmdDone_still | intro _ | with_reducible apply Still.ite | simp only [Still.upd] | dsimp only | split)

theorem execJobEnd_still {s0 : State} (p : PartId) (st : StreamId) (s : State) (hk : Still s0 s) : StillO s0 (execJobEnd p st s) := by
  unfold execJobEnd
  repeat (first | with_reducible assumption | with_reducible apply StillO.next | with_reducible apply StillO.ite | with_reducible apply runCmd_still | with_reducible apply cmdDone_still | intro _ | with_reducible apply Still.ite | simp only [Still.upd] | dsimp only | split)

theorem execNop_still {s0 : State} (p : PartId) (st : StreamId) (s : State) (hk : Still s0 s) : StillO s0 (execNop p st s) := by
  unfold execNop
  repeat (first | with_reducible assumption | with_reducible apply StillO.next | with_reducible apply StillO.ite | with_reducible apply runCmd_still | with_reducible apply cmdDone_still | intro _ | with_reducible apply Still.ite | simp only [Still.upd] | dsimp only | split)

theorem execCtSet_still {s0 : State} (p : PartId) (st : StreamId) (s : State) (hk : Still s0 s) : StillO s0 (execCtSet p st s) := by
  unfold execCtSet
  repeat (first | with_reducible assumption | with_reducible apply StillO.next | with_reducible apply StillO.ite | with_reducible apply runCmd_still | with_reducible apply cmdDone_still | with_reducible apply updStream_still | intro _ | with_reducible apply Still.ite | simp only [Still.upd] | dsimp only | split)

theorem execCtAdd_still {s0 : State} (p : PartId) (st : StreamId) (s : State) (hk : Still s0 s) : StillO s0 (execCtAdd p st s) := by
  unfold execCtAdd
  repeat (first | with_reducible assumption | with_reducible apply StillO.next | with_reducible apply StillO.ite | with_reducible apply runCmd_still | with_reducible apply cmdDone_still | with_reducible apply updStream_still | intro _ | with_reducible apply Still.ite | simp only [Still.upd] | dsimp only | split)

theorem execCmpSkip_still {s0 : State} (p : PartId) (st : StreamId) (s : State) (hk : Still s0 s) : StillO s0 (execCmpSkip p st s) := by
  unfold execCmpSkip
  repeat (first | with_reducible assumption | with_reducible apply StillO.next | with_reducible apply StillO.ite | with_reducible apply runCmd_still | with_reducible apply cmdDone_still | with_reducible apply updExec_still | intro _ | with_reducible apply Still.ite | simp only [Still.upd] | dsimp only | split)

theorem execCmpBranch_still {s0 : State} (p : PartId) (st : StreamId) (s : State) (hk : Still s0 s) : StillO s0 (execCmpBranch p st s) := by
  unfold execCmpBranch
  repeat (first | with_reducible assumption | with_reducible apply StillO.next | with_reducible apply StillO.ite | with_reducible apply runCmd_still | with_reducible apply cmdDone_still | with_reducible apply updExec_still | intro _ | with_reducible apply Still.ite | simp only [Still.upd] | dsimp only | split)

theorem execSycWait_still {s0 : State} (p : PartId) (st : StreamId) (s : State) (hk : Still s0 s) : StillO s0 (execSycWait p st s) := by
  unfold execSycWait
  repeat (first | with_reducible assumption | with_reducible apply StillO.next | with_reducible apply StillO.ite | with_reducible apply runCmd_still | with_reducible apply cmdDone_still | intro _ | with_reducible apply Still.ite | simp only [Still.upd] | dsimp only | split)

theorem tdPut_still {s0 : State} (p : PartId) (i : Nat) (t : Bytes) (s : State) (hk : Still s0 s) : Still s0 (tdPut p i t s) := by
  unfold tdPut
  repeat (first | with_reducible assumption | with_reducible apply updPart_still | intro _ | with_reducible apply Still.ite | simp only [Still.upd] | dsimp only | split)

theorem execTdSet_still {s0 : State} (p : PartId) (st : StreamId) (s : State) (hk : Still s0 s) : StillO s0 (execTdSet p st s) := by
  unfold execTdSet
  repeat (first | with_reducible assumption | with_reducible apply StillO.next | with_reducible apply StillO.ite | with_reducible apply runCmd_still | with_reducible apply cmdFail_still | with_reducible apply cmdDone_still | with_reducible apply tdPut_still | intro _ | with_reducible apply Still.ite | with_reducible apply Still.iteSnd | with_reducible apply Still.iteFst | simp only [Still.upd] | dsimp only | split)

theorem execPrgRun_still {s0 : State} (p : PartId) (st : StreamId) (s : State) (hk : Still s0 s) : StillO s0 (execPrgRun p st s) := by
  unfold execPrgRun
  repeat (first | with_reducible assumption | with_reducible apply StillO.next | with_reducible apply StillO.ite | with_reducible apply runCmd_still | with_reducible apply updStream_still | intro _ | with_reducible apply Still.ite | simp only [Still.upd] | dsimp only | split)

theorem execPrgEnd_still {s0 : State} (p : PartId) (st : StreamId) (s : State) (hk : Still s0 s) : StillO s0 (execPrgEnd p st s) := by
  unfold execPrgEnd
  repeat (first | with_reducible assumption | with_reducible apply StillO.next | with_reducible apply StillO.ite | with_reducible apply runCmd_still | with_reducible apply cmdDone_still | intro _ | with_reducible apply Still.ite | simp only [Still.upd] | dsimp only | split)

theorem waitTimeout_still {s0 : State} (p : PartId) (st : StreamId) (s : State) (hk : Still s0 s) : Still s0 (waitTimeout p st s) := by
  unfold waitTimeout
  repeat (first | with_reducible assumption | with_reducible apply cmdFail_still | intro _ | with_reducible apply Still.ite | simp only [Still.upd] | dsimp only | split)

theorem execTeardownComplete_still {s0 : State} (p : PartId) (s : State) (hk : Still s0 s) : StillO s0 (execTeardownComplete p s) := by
  unfold execTeardownComplete
  repeat (first | with_reducible assumption | with_reducible apply StillO.next | with_reducible apply StillO.ite | with_reducible apply updPart_still | with_reducible apply eachOf_still | with_reducible apply updCluster_still | intro _ | with_reducible apply Still.ite | with_reducible apply Still.iteSnd | with_reducible apply Still.iteFst | simp only [Still.upd] | dsimp only | split)

theorem chargeRead_still {s0 : State} (p : PartId) (space n : Nat) (s : State) (hk : Still s0 s) : Still s0 (chargeRead p space n s) := by
  unfold chargeRead
  repeat (first | with_reducible assumption | with_reducible apply charge_still | intro _ | with_reducible apply Still.ite | simp only [Still.upd] | dsimp only | split)

theorem noteUe_still {s0 : State} (p : PartId) (st : StreamId) (tag space off n : Nat) (s : State) (hk : Still s0 s) : Still s0 (noteUe p st tag space off n s) := by
  unfold noteUe
  repeat (first | with_reducible assumption | with_reducible apply meetHbm_still | with_reducible apply noteOnce_still | with_reducible apply itemFind_still | with_reducible refine Still.sramFold ?_ ?_ _ _ | with_reducible apply Still.sramFilter | with_reducible apply Still.foldl | intro _ | with_reducible apply Still.ite | with_reducible apply Still.iteSnd | with_reducible apply Still.iteFst | simp only [Still.upd] | dsimp only | split)

theorem touch_still {s0 : State} (p : PartId) (st : StreamId) (tag space off n : Nat) (s : State) (hk : Still s0 s) : Still s0 (touch p st tag space off n s) := by
  unfold touch
  repeat (first | with_reducible assumption | with_reducible apply noteUe_still | with_reducible apply chargeRead_still | intro _ | with_reducible apply Still.ite | simp only [Still.upd] | dsimp only | split)

theorem tdWriteWords_still {s0 : State} (p : PartId) (t : Bytes) : ∀ (x0 : Nat) (x1 : List Nat) (s : State), Still s0 s → Still s0 (tdWriteWords p t x0 x1 s)
  | _x0, [], s, h => by
    unfold tdWriteWords
    repeat (first | with_reducible assumption | with_reducible apply spaceWrite_still | intro _ | with_reducible apply Still.ite | simp only [Still.upd] | dsimp only | split)
  | k, w :: ws, s, h => by
    unfold tdWriteWords
    repeat (first | with_reducible assumption | with_reducible apply tdWriteWords_still | with_reducible apply spaceWrite_still | intro _ | with_reducible apply Still.ite | simp only [Still.upd] | dsimp only | split)

theorem eachUntil_still {s0 : State} {α : Type} (f : α → State → Except CmdErr State) (hf : ∀ x s t, f x s = .ok t → Still s0 s → Still s0 t) :
    ∀ (l : List α) (s : State), Still s0 s → Still s0 (eachUntil f l s).1
  | [], s, h => h
  | x :: l, s, h => by
    unfold eachUntil
    split
    · exact eachUntil_still f hf l _ (hf _ _ _ (by assumption) h)
    · exact h

theorem finish_still {s0 : State} (p : PartId) (st : StreamId) (d : Bytes) (r : State × Option CmdErr) (h : Still s0 r.1) : Still s0 (finish p st d r) := by
  unfold finish
  repeat (first | with_reducible assumption | with_reducible apply cmdFail_still | with_reducible apply cmdDone_still | intro _ | with_reducible apply Still.ite | simp only [Still.upd] | dsimp only | split)

theorem touchTd_still {s0 : State} (p : PartId) (st : StreamId) (tag : Nat) (t : Bytes) (s : State) (hk : Still s0 s) : Still s0 (touchTd p st tag t s) := by
  unfold touchTd
  repeat (first | with_reducible assumption | with_reducible apply eachOf_still | with_reducible apply touch_still | intro _ | with_reducible apply Still.ite | simp only [Still.upd] | dsimp only | split)

theorem touchSlice_still {s0 : State} (p : PartId) (st : StreamId) (tag : Nat) (t : Bytes) (k : Nat) (s : State) (hk : Still s0 s) : Still s0 (touchSlice p st tag t k s) := by
  unfold touchSlice
  repeat (first | with_reducible assumption | with_reducible apply touch_still | with_reducible apply eachOf_still | intro _ | with_reducible apply Still.ite | simp only [Still.upd] | dsimp only | split)

theorem writeCells_still {s0 : State} (p : PartId) (space : Nat) (cs : List (Nat × Bytes × Bool)) (s : State) (hk : Still s0 s) : Still s0 (writeCells p space cs s) := by
  unfold writeCells
  repeat (first | with_reducible assumption | with_reducible apply eachOf_still | with_reducible apply spaceWrite_still | with_reducible apply spaceMark_still | intro _ | with_reducible apply Still.ite | with_reducible apply Still.iteSnd | with_reducible apply Still.iteFst | simp only [Still.upd] | dsimp only | split)

theorem copyElems_still {s0 : State} (p : PartId) (src dst : Bytes) (i j n : Nat) (s : State) (hk : Still s0 s) : Still s0 (copyElems p src dst i j n s) := by
  unfold copyElems
  repeat (first | with_reducible assumption | with_reducible apply writeCells_still | intro _ | with_reducible apply Still.ite | simp only [Still.upd] | dsimp only | split)

theorem zeroSlice_still {s0 : State} (p : PartId) (t : Bytes) (k : Nat) (s : State) (hk : Still s0 s) : Still s0 (zeroSlice p t k s) := by
  unfold zeroSlice
  repeat (first | with_reducible assumption | with_reducible apply writeCells_still | intro _ | with_reducible apply Still.ite | simp only [Still.upd] | dsimp only | split)

theorem traceStep_still {s0 : State} (p : PartId) (bit : Nat) (kind : TraceKind) (detail : Nat) (withdrawn : Bool) (s : State) (hk : Still s0 s) : Still s0 (traceStep p bit kind detail withdrawn s) := by
  unfold traceStep
  repeat (first | with_reducible assumption | with_reducible apply traceGen_still | intro _ | with_reducible apply Still.ite | simp only [Still.upd] | dsimp only | split)

theorem traceStage_still {s0 : State} (p : PartId) (code : Nat) (s : State) (hk : Still s0 s) : Still s0 (traceStage p code s) := by
  unfold traceStage
  repeat (first | with_reducible assumption | with_reducible apply traceStep_still | intro _ | with_reducible apply Still.ite | simp only [Still.upd] | dsimp only | split)

theorem traceClause_still {s0 : State} (p : PartId) (kind : TraceKind) (tag : Nat) (s : State) (hk : Still s0 s) : Still s0 (traceClause p kind tag s) := by
  unfold traceClause
  repeat (first | with_reducible assumption | with_reducible apply traceStep_still | intro _ | with_reducible apply Still.ite | simp only [Still.upd] | dsimp only | split)

theorem fillGate_still {s0 : State} (p : PartId) (tag : Nat) (m : Model) (layer n : Nat) (s : State) (hk : Still s0 s) : Still s0 (fillGate p tag m layer n s) := by
  unfold fillGate
  repeat (first | with_reducible assumption | with_reducible apply touch_still | with_reducible apply updPart_still | with_reducible apply eachOf_still | intro _ | with_reducible apply Still.ite | with_reducible apply Still.iteSnd | with_reducible apply Still.iteFst | simp only [Still.upd] | dsimp only | split)

theorem writeClauses_still {s0 : State} (p : PartId) (td : Bytes) (pos : Nat) (rs : List Bytes) (s : State) (hk : Still s0 s) : Still s0 (writeClauses p td pos rs s) := by
  unfold writeClauses
  repeat (first | with_reducible assumption | with_reducible apply clauseWrite_still | with_reducible apply Still.foldl | intro _ | with_reducible apply Still.ite | simp only [Still.upd] | dsimp only | split)

theorem expectSlot_still {s0 : State} (p : PartId) (slot layer n : Nat) (s : State) (hk : Still s0 s) : Still s0 (expectSlot p slot layer n s) := by
  unfold expectSlot
  repeat (first | with_reducible assumption | with_reducible apply updSlot_still | intro _ | with_reducible apply Still.ite | simp only [Still.upd] | dsimp only | split)

theorem commitClauses_still {s0 : State} (p : PartId) (td : Bytes) (pos slot layer : Nat) (r : RouterLayer) (poison : Bool) (cs : List (Nat × Nat × Nat × Nat)) (s : State) (hk : Still s0 s) : Still s0 (commitClauses p td pos slot layer r poison cs s) := by
  unfold commitClauses
  repeat (first | with_reducible assumption | with_reducible apply writeClauses_still | with_reducible apply expectSlot_still | with_reducible apply updSlot_still | with_reducible apply cntPart64_still | with_reducible apply cntPart_still | intro _ | with_reducible apply Still.ite | simp only [Still.upd] | dsimp only | split)

theorem sendVerdict_still {s0 : State} (p : PartId) (x : Clause) (confirm : Bool) (rank weight : Nat) (s : State) (hk : Still s0 s) : Still s0 (sendVerdict p x confirm rank weight s) := by
  unfold sendVerdict
  repeat (first | with_reducible assumption | with_reducible apply applyVerdict_still | with_reducible apply sendVerdicts_still | intro _ | with_reducible apply Still.ite | simp only [Still.upd] | dsimp only | split)

theorem cancelClause_still {s0 : State} (p : PartId) (x : Clause) (s : State) (hk : Still s0 s) : Still s0 (cancelClause p x s) := by
  unfold cancelClause
  repeat (first | with_reducible assumption | with_reducible apply traceClause_still | with_reducible apply cntPart64_still | with_reducible apply updConj_still | with_reducible apply suppress_still | with_reducible apply sendVerdict_still | intro _ | with_reducible apply Still.ite | simp only [Still.upd] | dsimp only | split)

theorem recordLost_still {s0 : State} (p : PartId) (x : Clause) (code : Nat) (s : State) (hk : Still s0 s) : Still s0 (recordLost p x code s) := by
  unfold recordLost
  repeat (first | with_reducible assumption | with_reducible apply reissueClause_still | with_reducible apply record_still | intro _ | with_reducible apply Still.ite | simp only [Still.upd] | dsimp only | split)

theorem confirmClause_still {s0 : State} (p : PartId) (x : Clause) (rank weight : Nat) (s : State) (hk : Still s0 s) : Still s0 (confirmClause p x rank weight s) := by
  unfold confirmClause
  repeat (first | with_reducible assumption | with_reducible apply cntPart64_still | with_reducible apply updConj_still | with_reducible apply traceClause_still | with_reducible apply sendVerdict_still | with_reducible apply recordLost_still | intro _ | with_reducible apply Still.ite | simp only [Still.upd] | dsimp only | split)

theorem issueVerdicts_still {s0 : State} (p : PartId) (sel : List (Nat × Nat × Nat)) (ws : List Nat) (spec : List Clause) (s : State) (hk : Still s0 s) : Still s0 (issueVerdicts p sel ws spec s) := by
  unfold issueVerdicts
  repeat (first | with_reducible assumption | with_reducible apply eachOf_still | with_reducible apply confirmClause_still | with_reducible apply cancelClause_still | intro _ | with_reducible apply Still.ite | with_reducible apply Still.iteSnd | with_reducible apply Still.iteFst | simp only [Still.upd] | dsimp only | split)

theorem commitToken_still {s0 : State} (p : PartId) (d td : Bytes) (sc : Option Bytes) (base pos : Nat) (s : State) (hk : Still s0 s) : Still s0 (commitToken p d td sc base pos s) := by
  unfold commitToken
  repeat (first | with_reducible assumption | with_reducible apply cntPart64_still | with_reducible apply cntPart_still | with_reducible apply tdWriteWords_still | with_reducible apply updPart_still | with_reducible apply issueVerdicts_still | with_reducible apply commitClauses_still | intro _ | with_reducible apply Still.ite | with_reducible apply Still.iteSnd | with_reducible apply Still.iteFst | simp only [Still.upd] | dsimp only | split)

theorem commitAll_still {s0 : State} (p : PartId) (d td : Bytes) (sc : Option Bytes) (base : Nat) : ∀ (x0 : Nat) (x1 : Nat) (s : State), Still s0 s → Still s0 (commitAll p d td sc base x0 x1 s)
  | 0, _x1, s, h => by
    unfold commitAll
    repeat (first | with_reducible assumption | with_reducible apply commitToken_still | intro _ | with_reducible apply Still.ite | simp only [Still.upd] | dsimp only | split)
  | n + 1, pos, s, h => by
    unfold commitAll
    repeat (first | with_reducible assumption | with_reducible apply commitAll_still | with_reducible apply commitToken_still | intro _ | with_reducible apply Still.ite | simp only [Still.upd] | dsimp only | split)

theorem execRteSelect_still {s0 : State} (p : PartId) (s : State) (hk : Still s0 s) : StillO s0 (execRteSelect p s) := by
  unfold execRteSelect
  repeat (first | with_reducible assumption | with_reducible apply StillO.next | with_reducible apply StillO.ite | with_reducible apply runCmd_still | with_reducible apply cmdFail_still | with_reducible apply fillGate_still | with_reducible apply updExec_still | with_reducible apply cmdDone_still | with_reducible apply commitAll_still | intro _ | with_reducible apply Still.ite | with_reducible apply Still.iteSnd | with_reducible apply Still.iteFst | simp only [Still.upd] | dsimp only | split)

theorem execTokenSelectionCommit_still {s0 : State} (p : PartId) (pos : Nat) (s : State) (hk : Still s0 s) : StillO s0 (execTokenSelectionCommit p pos s) := by
  unfold execTokenSelectionCommit
  repeat (first | with_reducible assumption | with_reducible apply StillO.next | with_reducible apply StillO.ite | with_reducible apply commitToken_still | with_reducible apply updExec_still | with_reducible apply cmdDone_still | intro _ | with_reducible apply Still.ite | with_reducible apply Still.iteSnd | with_reducible apply Still.iteFst | simp only [Still.upd] | dsimp only | split)

theorem speculate_still {s0 : State} (p : PartId) (c : Conj) (m : Model) (slot expert rank : Nat) (s : State) (hk : Still s0 s) : Still s0 (speculate p c m slot expert rank s) := by
  unfold speculate
  repeat (first | with_reducible assumption | with_reducible apply suppress_still | with_reducible apply cntPart_still | with_reducible apply clauseWrite_still | with_reducible apply issueClause_still | with_reducible apply traceClause_still | with_reducible apply cntPart64_still | intro _ | with_reducible apply Still.ite | simp only [Still.upd] | dsimp only | split)

theorem takeShadow_still {s0 : State} (p : PartId) (c : Conj) (m : Model) (slot : Nat) (ps : List (Nat × Bool)) (s : State) (hk : Still s0 s) : Still s0 (takeShadow p c m slot ps s) := by
  unfold takeShadow
  repeat (first | with_reducible assumption | with_reducible apply eachOf_still | with_reducible apply speculate_still | with_reducible apply cntPart_still | with_reducible apply updPart_still | intro _ | with_reducible apply Still.ite | with_reducible apply Still.iteSnd | with_reducible apply Still.iteFst | simp only [Still.upd] | dsimp only | split)

theorem execShadowScoreDone_still {s0 : State} (p : PartId) (pos : Nat) (s : State) (hk : Still s0 s) : StillO s0 (execShadowScoreDone p pos s) := by
  unfold execShadowScoreDone
  repeat (first | with_reducible assumption | with_reducible apply StillO.next | with_reducible apply StillO.ite | with_reducible apply suppress_still | with_reducible apply takeShadow_still | intro _ | with_reducible apply Still.ite | simp only [Still.upd] | dsimp only | split)

theorem writeRecs_still {s0 : State} (p : PartId) (t : Bytes) : ∀ (x0 : Nat) (x1 : List Bytes) (s : State), Still s0 s → Still s0 (writeRecs p t x0 x1 s)
  | _x0, [], s, h => by
    unfold writeRecs
    repeat (first | with_reducible assumption | with_reducible apply spaceWrite_still | intro _ | with_reducible apply Still.ite | simp only [Still.upd] | dsimp only | split)
  | k, r :: rs, s, h => by
    unfold writeRecs
    repeat (first | with_reducible assumption | with_reducible apply writeRecs_still | with_reducible apply spaceWrite_still | intro _ | with_reducible apply Still.ite | simp only [Still.upd] | dsimp only | split)

theorem proposeCounts_still {s0 : State} (p : PartId) (n : Nat) (rows : List (Nat × Bool × List Nat)) (s : State) (hk : Still s0 s) : Still s0 (proposeCounts p n rows s) := by
  unfold proposeCounts
  repeat (first | with_reducible assumption | with_reducible apply cntPart_still | with_reducible apply cntPart64_still | intro _ | with_reducible apply Still.ite | with_reducible apply Still.iteSnd | with_reducible apply Still.iteFst | simp only [Still.upd] | dsimp only | split)

theorem execRtePropose_still {s0 : State} (p : PartId) (s : State) (hk : Still s0 s) : StillO s0 (execRtePropose p s) := by
  unfold execRtePropose
  repeat (first | with_reducible assumption | with_reducible apply StillO.next | with_reducible apply StillO.ite | with_reducible apply runCmd_still | with_reducible apply cmdFail_still | with_reducible apply updExec_still | with_reducible apply fillGate_still | with_reducible apply eachOf_still | with_reducible apply updSlot_still | with_reducible apply cmdDone_still | with_reducible apply writeRecs_still | with_reducible apply proposeCounts_still | intro _ | with_reducible apply Still.ite | with_reducible apply Still.iteSnd | with_reducible apply Still.iteFst | simp only [Still.upd] | dsimp only | split)

theorem assignToken_still {s0 : State} (p : PartId) (ct : Bytes) (base layer : Nat) (r : RouterLayer) (es : List (Nat × Nat × Nat × Nat)) (pos : Nat) (s : State) (hk : Still s0 s) : Still s0 (assignToken p ct base layer r es pos s) := by
  unfold assignToken
  repeat (first | with_reducible assumption | with_reducible apply cntPart_still | with_reducible apply commitClauses_still | intro _ | with_reducible apply Still.ite | with_reducible apply Still.iteSnd | with_reducible apply Still.iteFst | simp only [Still.upd] | dsimp only | split)

theorem execRteAssign_still {s0 : State} (p : PartId) (s : State) (hk : Still s0 s) : StillO s0 (execRteAssign p s) := by
  unfold execRteAssign
  repeat (first | with_reducible assumption | with_reducible apply StillO.next | with_reducible apply StillO.ite | with_reducible apply runCmd_still | with_reducible apply cmdFail_still | with_reducible apply updPart_still | with_reducible apply updExec_still | with_reducible apply cmdDone_still | with_reducible apply eachOf_still | with_reducible apply assignToken_still | intro _ | with_reducible apply Still.ite | with_reducible apply Still.iteSnd | with_reducible apply Still.iteFst | simp only [Still.upd] | dsimp only | split)

theorem resolveRecord_still {s0 : State} (p : PartId) (tag : Nat) (m : Model) (layer : Nat) (td : Bytes) (x : Nat × Bytes) (acc : State × List Nat)
    (h : Still s0 acc.1) : Still s0 (resolveRecord p tag m layer td x acc).1 := by
  obtain ⟨s, seen⟩ := acc
  obtain ⟨pos, r⟩ := x
  unfold resolveRecord
  dsimp only
  split
  · exact h
  · split
    · (try dsimp only)
      repeat (first | with_reducible assumption | with_reducible apply clauseWrite_still | with_reducible apply cntDev_still | with_reducible apply outside_still | with_reducible apply noteResolved_still | with_reducible apply record_still | intro _ | with_reducible apply Still.ite | simp only [Still.upd] | dsimp only | split)
    · (try dsimp only)
      split
      · (try dsimp only)
        repeat (first | with_reducible assumption | with_reducible apply clauseWrite_still | with_reducible apply cntDev_still | with_reducible apply outside_still | with_reducible apply noteResolved_still | with_reducible apply record_still | intro _ | with_reducible apply Still.ite | simp only [Still.upd] | dsimp only | split)
      · (try dsimp only)
        repeat (first | with_reducible assumption | with_reducible apply clauseWrite_still | with_reducible apply cntDev_still | with_reducible apply outside_still | with_reducible apply noteResolved_still | with_reducible apply record_still | intro _ | with_reducible apply Still.ite | simp only [Still.upd] | dsimp only | split)

theorem resolveRecord_foldl_still {s0 : State} (p : PartId) (tag : Nat) (m : Model) (layer : Nat) (td : Bytes) :
    ∀ (l : List (Nat × Bytes)) (acc : State × List Nat), Still s0 acc.1 → Still s0 (l.foldl (fun a x => resolveRecord p tag m layer td x a) acc).1
  | [], _, h => h
  | x :: l, acc, h => resolveRecord_foldl_still p tag m layer td l _ (resolveRecord_still p tag m layer td x acc h)

theorem resolveList_still {s0 : State} (p : PartId) (tag : Nat) (m : Model) (layer : Nat) (td : Bytes) (cs : List (Nat × Bytes)) (s : State) (hk : Still s0 s) :
    Still s0 (resolveList p tag m layer td cs s) := resolveRecord_foldl_still p tag m layer td cs (s, []) hk

theorem execSrtBucket_still {s0 : State} (p : PartId) (s : State) (hk : Still s0 s) : StillO s0 (execSrtBucket p s) := by
  unfold execSrtBucket
  repeat (first | with_reducible assumption | with_reducible apply StillO.next | with_reducible apply StillO.ite | with_reducible apply runCmd_still | with_reducible apply cmdFail_still | with_reducible apply resolveList_still | with_reducible apply tdWriteWords_still | with_reducible apply cntPart64_still | with_reducible apply cmdDone_still | with_reducible apply cntPart_still | intro _ | with_reducible apply Still.ite | with_reducible apply Still.iteSnd | with_reducible apply Still.iteFst | simp only [Still.upd] | dsimp only | split)

theorem gatherRow_still {s0 t : State} {p : PartId} {d : Bytes} {src ix dst : Nat × Bytes} {i : Nat} {s : State} (e : gatherRow p d src ix dst i s = .ok t) (hk : Still s0 s) : Still s0 t := by
  unfold gatherRow at e
  (try dsimp only at e)
  repeat' split at e
  all_goals (try cases e)
  all_goals repeat (first | with_reducible assumption | with_reducible apply zeroSlice_still | with_reducible apply copyElems_still | with_reducible apply touchSlice_still | intro _ | with_reducible apply Still.ite | with_reducible apply Still.iteSnd | with_reducible apply Still.iteFst | simp only [Still.upd] | dsimp only | split)

theorem execDspGather_still {s0 : State} (p : PartId) (s : State) (hk : Still s0 s) : StillO s0 (execDspGather p s) := by
  unfold execDspGather
  repeat (first | with_reducible assumption | with_reducible apply StillO.next | with_reducible apply StillO.ite | with_reducible apply runCmd_still | with_reducible apply cmdFail_still | with_reducible apply finish_still | with_reducible apply eachUntil_still | with_reducible refine gatherRow_still (by with_reducible assumption) ?_ | intro _ | with_reducible apply Still.ite | with_reducible apply Still.iteSnd | with_reducible apply Still.iteFst | simp only [Still.upd] | dsimp only | split)

theorem accumRow_still {s0 t : State} {p : PartId} {d : Bytes} {m : Model} {rows td ix : Nat × Bytes} {i : Nat} {s : State} (e : accumRow p d m rows td ix i s = .ok t) (hk : Still s0 s) : Still s0 t := by
  unfold accumRow at e
  (try dsimp only at e)
  repeat' split at e
  all_goals (try cases e)
  all_goals repeat (first | with_reducible assumption | with_reducible apply touch_still | with_reducible apply contribute_still | intro _ | with_reducible apply Still.ite | with_reducible apply Still.iteSnd | with_reducible apply Still.iteFst | simp only [Still.upd] | dsimp only | split)

theorem execCmbAccum_still {s0 : State} (p : PartId) (s : State) (hk : Still s0 s) : StillO s0 (execCmbAccum p s) := by
  unfold execCmbAccum
  repeat (first | with_reducible assumption | with_reducible apply StillO.next | with_reducible apply StillO.ite | with_reducible apply runCmd_still | with_reducible apply cmdFail_still | with_reducible apply finish_still | with_reducible apply eachUntil_still | with_reducible refine accumRow_still (by with_reducible assumption) ?_ | intro _ | with_reducible apply Still.ite | simp only [Still.upd] | dsimp only | split)

theorem execCmbFinal_still {s0 : State} (p : PartId) (s : State) (hk : Still s0 s) : StillO s0 (execCmbFinal p s) := by
  unfold execCmbFinal
  repeat (first | with_reducible assumption | with_reducible apply StillO.next | with_reducible apply StillO.ite | with_reducible apply runCmd_still | with_reducible apply cmdFail_still | with_reducible apply cmdDone_still | with_reducible apply eachOf_still | with_reducible apply roundSlot_still | intro _ | with_reducible apply Still.ite | simp only [Still.upd] | dsimp only | split)

theorem onCores_still {s0 : State} (p : PartId) (f : CoreSt → CoreSt) (s : State) (hk : Still s0 s) : Still s0 (onCores p f s) := by
  unfold onCores
  repeat (first | with_reducible assumption | with_reducible apply eachOf_still | with_reducible apply onCore_still | intro _ | with_reducible apply Still.ite | with_reducible apply Still.iteSnd | with_reducible apply Still.iteFst | simp only [Still.upd] | dsimp only | split)

theorem coreWrite_still {s0 : State} (p : PartId) (c : CoreId) (space off : Nat) (b : Bytes) (bad : Bool) (s : State) (hk : Still s0 s) : Still s0 (coreWrite p c space off b bad s) := by
  unfold coreWrite
  repeat (first | with_reducible assumption | with_reducible apply onCore_still | with_reducible apply spaceWrite_still | with_reducible apply spaceMark_still | intro _ | with_reducible apply Still.ite | simp only [Still.upd] | dsimp only | split)

theorem loadRow_still {s0 t : State} {p : PartId} {d : Bytes} {td : Nat × Bytes} {ix : Option (Nat × Bytes)} {x : Nat × CoreId × Nat} {s : State} (e : loadRow p d td ix x s = .ok t) (hk : Still s0 s) : Still s0 t := by
  unfold loadRow at e
  (try dsimp only at e)
  repeat' split at e
  all_goals (try cases e)
  all_goals repeat (first | with_reducible assumption | with_reducible apply onCore_still | with_reducible apply touch_still | intro _ | with_reducible apply Still.ite | with_reducible apply Still.iteSnd | with_reducible apply Still.iteFst | simp only [Still.upd] | dsimp only | split)

theorem seqLd_still {s0 : State} (p : PartId) (d : Bytes) (s : State) (hk : Still s0 s) : Still s0 (seqLd p d s) := by
  unfold seqLd
  repeat (first | with_reducible assumption | with_reducible apply cmdFail_still | with_reducible apply onCores_still | with_reducible apply finish_still | with_reducible apply eachUntil_still | with_reducible refine loadRow_still (by with_reducible assumption) ?_ | intro _ | with_reducible apply Still.ite | with_reducible apply Still.iteSnd | with_reducible apply Still.iteFst | simp only [Still.upd] | dsimp only | split)

theorem storeTileRow_still {s0 t : State} {p : PartId} {d : Bytes} {td : Nat × Bytes} {ix : Option (Nat × Bytes)} {x : Nat × CoreId × Nat} {s : State} (e : storeTileRow p d td ix x s = .ok t) (hk : Still s0 s) : Still s0 t := by
  unfold storeTileRow at e
  (try dsimp only at e)
  repeat' split at e
  all_goals (try cases e)
  all_goals repeat (first | with_reducible assumption | with_reducible apply coreWrite_still | intro _ | with_reducible apply Still.ite | with_reducible apply Still.iteSnd | with_reducible apply Still.iteFst | simp only [Still.upd] | dsimp only | split)

theorem seqSt_still {s0 : State} (p : PartId) (d : Bytes) (s : State) (hk : Still s0 s) : Still s0 (seqSt p d s) := by
  unfold seqSt
  repeat (first | with_reducible assumption | with_reducible apply cmdFail_still | with_reducible apply finish_still | with_reducible apply eachUntil_still | with_reducible refine storeTileRow_still (by with_reducible assumption) ?_ | intro _ | with_reducible apply Still.ite | simp only [Still.upd] | dsimp only | split)

theorem seqZero_still {s0 : State} (p : PartId) (d : Bytes) (s : State) (hk : Still s0 s) : Still s0 (seqZero p d s) := by
  unfold seqZero
  repeat (first | with_reducible assumption | with_reducible apply cmdDone_still | with_reducible apply onCores_still | intro _ | with_reducible apply Still.ite | simp only [Still.upd] | dsimp only | split)

theorem seqMma_still {s0 : State} (p : PartId) (d : Bytes) (s : State) (hk : Still s0 s) : Still s0 (seqMma p d s) := by
  unfold seqMma
  repeat (first | with_reducible assumption | with_reducible apply onCores_still | with_reducible apply cmdDone_still | with_reducible apply cntPart64_still | intro _ | with_reducible apply Still.ite | simp only [Still.upd] | dsimp only | split)

theorem seqAct_still {s0 : State} (p : PartId) (d : Bytes) (s : State) (hk : Still s0 s) : Still s0 (seqAct p d s) := by
  unfold seqAct
  repeat (first | with_reducible assumption | with_reducible apply cmdFail_still | with_reducible apply cmdDone_still | with_reducible apply onCores_still | intro _ | with_reducible apply Still.ite | simp only [Still.upd] | dsimp only | split)

theorem seqMul_still {s0 : State} (p : PartId) (d : Bytes) (s : State) (hk : Still s0 s) : Still s0 (seqMul p d s) := by
  unfold seqMul
  repeat (first | with_reducible assumption | with_reducible apply cmdFail_still | with_reducible apply cmdDone_still | with_reducible apply onCores_still | intro _ | with_reducible apply Still.ite | simp only [Still.upd] | dsimp only | split)

theorem scaleTileRow_still {s0 t : State} {p : PartId} {d : Bytes} {td : Nat × Bytes} {x : Nat × CoreId × Nat} {s : State} (e : scaleTileRow p d td x s = .ok t) (hk : Still s0 s) : Still s0 t := by
  unfold scaleTileRow at e
  (try dsimp only at e)
  repeat' split at e
  all_goals (try cases e)
  all_goals repeat (first | with_reducible assumption | with_reducible apply onCore_still | with_reducible apply touch_still | intro _ | with_reducible apply Still.ite | with_reducible apply Still.iteSnd | with_reducible apply Still.iteFst | simp only [Still.upd] | dsimp only | split)

theorem seqScale_still {s0 : State} (p : PartId) (d : Bytes) (s : State) (hk : Still s0 s) : Still s0 (seqScale p d s) := by
  unfold seqScale
  repeat (first | with_reducible assumption | with_reducible apply cmdFail_still | with_reducible apply finish_still | with_reducible apply eachUntil_still | with_reducible refine scaleTileRow_still (by with_reducible assumption) ?_ | intro _ | with_reducible apply Still.ite | simp only [Still.upd] | dsimp only | split)

theorem seqCvt_still {s0 : State} (p : PartId) (d : Bytes) (s : State) (hk : Still s0 s) : Still s0 (seqCvt p d s) := by
  unfold seqCvt
  repeat (first | with_reducible assumption | with_reducible apply cmdDone_still | with_reducible apply onCores_still | intro _ | with_reducible apply Still.ite | simp only [Still.upd] | dsimp only | split)

theorem touchWeights_still {s0 : State} (p : PartId) (tag : Nat) (m : Model) (layer expert : Nat) (s : State) (hk : Still s0 s) : Still s0 (touchWeights p tag m layer expert s) := by
  unfold touchWeights
  repeat (first | with_reducible assumption | with_reducible apply touch_still | intro _ | with_reducible apply Still.ite | simp only [Still.upd] | dsimp only | split)

theorem expertRow_still {s0 t : State} {p : PartId} {d : Bytes} {m : Model} {work : Bool} {rows out : Nat × Bytes} {ix gate : Option (Nat × Bytes)} {i : Nat} {s : State} (e : expertRow p d m work rows out ix gate i s = .ok t) (hk : Still s0 s) : Still s0 t := by
  unfold expertRow at e
  (try dsimp only at e)
  repeat' split at e
  all_goals (try cases e)
  all_goals repeat (first | with_reducible assumption | with_reducible refine takeFree_still (by with_reducible assumption) ?_ | with_reducible apply takeFree_snd_still | with_reducible apply touch_still | with_reducible apply cntPart64_still | with_reducible apply cntPart_still | with_reducible apply spaceWrite_still | with_reducible apply spaceMark_still | intro _ | with_reducible apply Still.ite | with_reducible apply Still.iteSnd | with_reducible apply Still.iteFst | simp only [Still.upd] | dsimp only | split)

theorem seqBusy_still {s0 : State} (p : PartId) (s : State) (hk : Still s0 s) : Still s0 (seqBusy p s) := by
  unfold seqBusy
  repeat (first | with_reducible assumption | with_reducible refine takeFree_still (by with_reducible assumption) ?_ | with_reducible apply takeFree_snd_still | with_reducible apply cntPart64_still | intro _ | with_reducible apply Still.ite | with_reducible apply Still.iteSnd | with_reducible apply Still.iteFst | simp only [Still.upd] | dsimp only | split)

theorem passCycles_still {s0 : State} (p : PartId) (s : State) (hk : Still s0 s) : Still s0 (passCycles p s) := by
  unfold passCycles
  repeat (first | with_reducible assumption | with_reducible refine takeFree_still (by with_reducible assumption) ?_ | with_reducible apply takeFree_snd_still | with_reducible apply seqBusy_still | with_reducible apply cntPart64_still | intro _ | with_reducible apply Still.ite | with_reducible apply Still.iteSnd | with_reducible apply Still.iteFst | simp only [Still.upd] | dsimp only | split)

theorem beginPass_still {s0 : State} (p : PartId) (x : Pass) (s : State) (hk : Still s0 s) : Still s0 (beginPass p x s) := by
  unfold beginPass
  repeat (first | with_reducible assumption | with_reducible apply updPart_still | intro _ | with_reducible apply Still.ite | simp only [Still.upd] | dsimp only | split)

theorem seqExpert_still {s0 : State} (p : PartId) (work : Bool) (d : Bytes) (s : State) (hk : Still s0 s) : Still s0 (seqExpert p work d s) := by
  unfold seqExpert
  repeat (first | with_reducible assumption | with_reducible apply cmdFail_still | with_reducible apply dropClusters_still | with_reducible apply beginPass_still | with_reducible apply passCycles_still | with_reducible apply touchWeights_still | with_reducible apply finish_still | with_reducible apply eachUntil_still | with_reducible refine expertRow_still (by with_reducible assumption) ?_ | intro _ | with_reducible apply Still.ite | simp only [Still.upd] | dsimp only | split)

theorem endAlone_still {s0 : State} (p : PartId) (s : State) (hk : Still s0 s) : Still s0 (endAlone p s) := by
  unfold endAlone
  repeat (first | with_reducible assumption | with_reducible apply dropClusters_still | with_reducible apply cntPart_still | with_reducible apply updPart_still | intro _ | with_reducible apply Still.ite | simp only [Still.upd] | dsimp only | split)

theorem traceEnd_still {s0 : State} (p : PartId) (s : State) (hk : Still s0 s) : Still s0 (traceEnd p s) := by
  unfold traceEnd
  repeat (first | with_reducible assumption | with_reducible apply traceStage_still | with_reducible apply updConj_still | intro _ | with_reducible apply Still.ite | simp only [Still.upd] | dsimp only | split)

theorem conjSettle_still {s0 : State} (p : PartId) (s : State) (hk : Still s0 s) : Still s0 (conjSettle p s) := by
  unfold conjSettle
  repeat (first | with_reducible assumption | with_reducible apply traceEnd_still | with_reducible apply updPart_still | with_reducible apply cmdDone_still | intro _ | with_reducible apply Still.ite | simp only [Still.upd] | dsimp only | split)

theorem judgeReplica_still {s0 : State} (p : PartId) (c : Conj) (e k : Nat) (s : State) (hk : Still s0 s) : Still s0 (judgeReplica p c e k s) := by
  unfold judgeReplica
  repeat (first | with_reducible assumption | with_reducible apply eachOf_still | with_reducible apply overflowRow_still | intro _ | with_reducible apply Still.ite | simp only [Still.upd] | dsimp only | split)

theorem releaseJudged_still {s0 : State} (p : PartId) (c : Conj) (s : State) (hk : Still s0 s) : Still s0 (releaseJudged p c s) := by
  unfold releaseJudged
  repeat (first | with_reducible assumption | with_reducible apply eachOf_still | with_reducible apply dropRow_still | with_reducible apply returnResult_still | intro _ | with_reducible apply Still.ite | simp only [Still.upd] | dsimp only | split)

theorem judgeStep_still {s0 : State} (p : PartId) (c : Conj) (s : State) (hk : Still s0 s) : Still s0 (judgeStep p c s) := by
  unfold judgeStep
  repeat (first | with_reducible assumption | with_reducible apply releaseJudged_still | with_reducible apply eachOf_still | with_reducible apply judgeReplica_still | intro _ | with_reducible apply Still.ite | with_reducible apply Still.iteSnd | with_reducible apply Still.iteFst | simp only [Still.upd] | dsimp only | split)

theorem tryClose_still {s0 : State} (p : PartId) (s : State) (hk : Still s0 s) : Still s0 (tryClose p s) := by
  unfold tryClose
  repeat (first | with_reducible assumption | with_reducible apply traceStage_still | with_reducible apply updConj_still | with_reducible apply judgeStep_still | with_reducible apply updPart_still | with_reducible apply conjSettle_still | intro _ | with_reducible apply Still.ite | simp only [Still.upd] | dsimp only | split)

theorem closeMarkers_still {s0 : State} (p : PartId) (s : State) (hk : Still s0 s) : Still s0 (closeMarkers p s) := by
  unfold closeMarkers
  repeat (first | with_reducible assumption | with_reducible apply tryClose_still | with_reducible apply updConj_still | with_reducible apply eachOf_still | with_reducible apply sendClose_still | with_reducible apply traceStage_still | intro _ | with_reducible apply Still.ite | simp only [Still.upd] | dsimp only | split)

theorem loseMember_still {s0 : State} (p : PartId) (d : DevId) (s : State) (hk : Still s0 s) : Still s0 (loseMember p d s) := by
  unfold loseMember
  repeat (first | with_reducible assumption | with_reducible apply updConj_still | with_reducible apply updPart_still | with_reducible apply tryClose_still | with_reducible apply reissueTo_still | intro _ | with_reducible apply Still.ite | with_reducible apply Still.iteSnd | with_reducible apply Still.iteFst | simp only [Still.upd] | dsimp only | split)

theorem moveLate_still {s0 : State} (p : PartId) (s : State) (hk : Still s0 s) : Still s0 (moveLate p s) := by
  unfold moveLate
  repeat (first | with_reducible assumption | with_reducible apply eachOf_still | with_reducible apply lateHome_still | with_reducible apply withdrawRow_still | intro _ | with_reducible apply Still.ite | simp only [Still.upd] | dsimp only | split)

theorem deadlineMiss_still {s0 : State} (p : PartId) (st : StreamId) (tag : Nat) (s : State) (hk : Still s0 s) : Still s0 (deadlineMiss p st tag s) := by
  unfold deadlineMiss
  repeat (first | with_reducible assumption | with_reducible apply record_still | with_reducible apply updJob_still | intro _ | with_reducible apply Still.ite | simp only [Still.upd] | dsimp only | split)

theorem projectCheck_still {s0 : State} (p : PartId) (isD : Bool) (s : State) (hk : Still s0 s) : Still s0 (projectCheck p isD s) := by
  unfold projectCheck
  repeat (first | with_reducible assumption | with_reducible apply updJob_still | with_reducible apply deadlineMiss_still | with_reducible apply cntPart_still | with_reducible apply moveLate_still | with_reducible apply updConj_still | intro _ | with_reducible apply Still.ite | simp only [Still.upd] | dsimp only | split)

theorem dispatchClause_still {s0 : State} (p : PartId) (m : Model) (pos : Nat) (r : Bytes) (s : State) (hk : Still s0 s) : Still s0 (dispatchClause p m pos r s) := by
  unfold dispatchClause
  repeat (first | with_reducible assumption | with_reducible apply issueClause_still | with_reducible apply cmdFail_still | with_reducible apply homeClause_still | with_reducible apply clauseWrite_still | with_reducible apply lateHome_still | with_reducible apply cntPart_still | intro _ | with_reducible apply Still.ite | simp only [Still.upd] | dsimp only | split)

theorem dispatchTo_still {s0 : State} (p : PartId) (rd : Nat) (s : State) (hk : Still s0 s) : Still s0 (dispatchTo p rd s) := by
  unfold dispatchTo
  repeat (first | with_reducible assumption | with_reducible apply cmdFail_still | with_reducible apply cntPart64_still | with_reducible apply updConj_still | with_reducible apply eachOf_still | with_reducible apply dispatchClause_still | intro _ | with_reducible apply Still.ite | with_reducible apply Still.iteSnd | with_reducible apply Still.iteFst | simp only [Still.upd] | dsimp only | split)

theorem conjAdvance_still {s0 : State} (p : PartId) (s : State) (hk : Still s0 s) : Still s0 (conjAdvance p s) := by
  unfold conjAdvance
  repeat (first | with_reducible assumption | with_reducible apply conjSettle_still | with_reducible apply dispatchTo_still | with_reducible apply traceStage_still | with_reducible apply updConj_still | with_reducible apply closeMarkers_still | intro _ | with_reducible apply Still.ite | simp only [Still.upd] | dsimp only | split)

theorem execDeadlineCheckpoint_still {s0 : State} (p : PartId) (dispatch : Bool) (s : State) (hk : Still s0 s) : StillO s0 (execDeadlineCheckpoint p dispatch s) := by
  unfold execDeadlineCheckpoint
  repeat (first | with_reducible assumption | with_reducible apply StillO.next | with_reducible apply StillO.ite | with_reducible apply conjAdvance_still | with_reducible apply projectCheck_still | with_reducible apply traceStage_still | with_reducible apply updConj_still | intro _ | with_reducible apply Still.ite | simp only [Still.upd] | dsimp only | split)

theorem startConj_still {s0 : State} (p : PartId) (d td : Bytes) (parts : List DevId) (s : State) (hk : Still s0 s) : Still s0 (startConj p d td parts s) := by
  unfold startConj
  repeat (first | with_reducible assumption | with_reducible apply updPart_still | with_reducible apply eachOf_still | with_reducible apply updSlot_still | with_reducible apply admitRow_still | intro _ | with_reducible apply Still.ite | simp only [Still.upd] | dsimp only | split)

theorem execConjStep_still {s0 : State} (p : PartId) (s : State) (hk : Still s0 s) : StillO s0 (execConjStep p s) := by
  unfold execConjStep
  repeat (first | with_reducible assumption | with_reducible apply StillO.next | with_reducible apply StillO.ite | with_reducible apply runCmd_still | with_reducible apply cmdFail_still | with_reducible apply conjSettle_still | with_reducible apply conjAdvance_still | with_reducible apply startConj_still | intro _ | with_reducible apply Still.ite | with_reducible apply Still.iteSnd | with_reducible apply Still.iteFst | simp only [Still.upd] | dsimp only | split)

theorem startPass_still {s0 : State} (p : PartId) (m : Model) (expert : Nat) (rs : List RowRec) (reissue : Bool) (s : State) (hk : Still s0 s) : Still s0 (startPass p m expert rs reissue s) := by
  unfold startPass
  repeat (first | with_reducible assumption | with_reducible apply charge_still | with_reducible apply hbmGo_still | with_reducible apply updRows_still | with_reducible apply beginPass_still | with_reducible apply updConj_still | with_reducible apply Still.foldl | intro _ | with_reducible apply Still.ite | with_reducible apply Still.iteSnd | with_reducible apply Still.iteFst | simp only [Still.upd] | dsimp only | split)

theorem passStart_still {s0 : State} (p : PartId) (expert : Nat) (s : State) (hk : Still s0 s) : Still s0 (passStart p expert s) := by
  unfold passStart
  repeat (first | with_reducible assumption | with_reducible apply hbmHold_still | with_reducible apply startPass_still | with_reducible apply dropClusters_still | intro _ | with_reducible apply Still.ite | simp only [Still.upd] | dsimp only | split)

theorem reissuePass_still {s0 : State} (p : PartId) (expert : Nat) (s : State) (hk : Still s0 s) : Still s0 (reissuePass p expert s) := by
  unfold reissuePass
  repeat (first | with_reducible assumption | with_reducible apply hbmHold_still | with_reducible apply startPass_still | with_reducible apply dropClusters_still | intro _ | with_reducible apply Still.ite | simp only [Still.upd] | dsimp only | split)

theorem endRow_still {s0 : State} (p : PartId) (m : Model) (bad : Bool) (tag : Nat) (s : State) (hk : Still s0 s) : Still s0 (endRow p m bad tag s) := by
  unfold endRow
  repeat (first | with_reducible assumption | with_reducible apply cntPart_still | with_reducible apply updRow_still | with_reducible apply returnResult_still | with_reducible apply dropRow_still | intro _ | with_reducible apply Still.ite | simp only [Still.upd] | dsimp only | split)

theorem applyKept_still {s0 : State} (p : PartId) (tag : Nat) (s : State) (hk : Still s0 s) : Still s0 (applyKept p tag s) := by
  unfold applyKept
  repeat (first | with_reducible assumption | with_reducible apply applyVerdict_still | intro _ | with_reducible apply Still.ite | simp only [Still.upd] | dsimp only | split)

theorem passFault_still {s0 : State} (p : PartId) (m : Model) (x : Pass) (s : State) (hk : Still s0 s) : Still s0 (passFault p m x s) := by
  unfold passFault
  repeat (first | with_reducible assumption | with_reducible apply holdFault_still | intro _ | with_reducible apply Still.ite | simp only [Still.upd] | dsimp only | split)

theorem passCharge_still {s0 : State} (p : PartId) (m : Model) (x : Pass) (s : State) (hk : Still s0 s) : Still s0 (passCharge p m x s) := by
  unfold passCharge
  repeat (first | with_reducible assumption | with_reducible apply noteUe_still | with_reducible apply cntPart_still | with_reducible apply cntPart64_still | with_reducible apply passCycles_still | intro _ | with_reducible apply Still.ite | simp only [Still.upd] | dsimp only | split)

theorem passEnd_still {s0 : State} (p : PartId) (s : State) (hk : Still s0 s) : Still s0 (passEnd p s) := by
  unfold passEnd
  repeat (first | with_reducible assumption | with_reducible apply eachOf_still | with_reducible apply endRow_still | with_reducible apply passCharge_still | with_reducible apply passFault_still | with_reducible apply applyKept_still | with_reducible apply conjSettle_still | with_reducible apply dropClusters_still | with_reducible apply updPart_still | intro _ | with_reducible apply Still.ite | simp only [Still.upd] | dsimp only | split)

theorem probeDev_still {s0 : State} (p : PartId) (k : Comm) (d : DevId) (s : State) (hk : Still s0 s) : Still s0 (probeDev p k d s) := by
  unfold probeDev
  repeat (first | with_reducible assumption | with_reducible apply sendPiece_still | with_reducible apply updConj_still | intro _ | with_reducible apply Still.ite | with_reducible apply Still.iteSnd | with_reducible apply Still.iteFst | simp only [Still.upd] | dsimp only | split)

theorem execStepClosureProbe_still {s0 : State} (p : PartId) (s : State) (hk : Still s0 s) : StillO s0 (execStepClosureProbe p s) := by
  unfold execStepClosureProbe
  repeat (first | with_reducible assumption | with_reducible apply StillO.next | with_reducible apply StillO.ite | with_reducible apply eachOf_still | with_reducible apply probeDev_still | intro _ | with_reducible apply Still.ite | simp only [Still.upd] | dsimp only | split)

theorem serveEnd_still {s0 : State} (p : PartId) (s : State) (hk : Still s0 s) : Still s0 (serveEnd p s) := by
  unfold serveEnd
  repeat (first | with_reducible assumption | with_reducible apply eachOf_still | with_reducible apply orphanRow_still | with_reducible apply dropRow_still | with_reducible apply updPart_still | intro _ | with_reducible apply Still.ite | simp only [Still.upd] | dsimp only | split)

theorem refillPart_still {s0 : State} (n : Nat) (p : PartId) (s : State) (hk : Still s0 s) : Still s0 (refillPart n p s) := by
  unfold refillPart
  repeat (first | with_reducible assumption | with_reducible apply updPart_still | intro _ | with_reducible apply Still.ite | simp only [Still.upd] | dsimp only | split)

theorem agePackets_still {s0 : State} (p : PartId) (s : State) (hk : Still s0 s) : Still s0 (agePackets p s) := by
  unfold agePackets
  repeat (first | with_reducible assumption | intro _ | with_reducible apply Still.ite | simp only [Still.upd] | dsimp only | split)

theorem execRequestAging_still {s0 : State} (p : PartId) (s : State) (hk : Still s0 s) : StillO s0 (execRequestAging p s) := by
  unfold execRequestAging
  repeat (first | with_reducible assumption | with_reducible apply StillO.next | with_reducible apply StillO.ite | with_reducible apply cntPart_still | with_reducible apply agePackets_still | with_reducible apply updPart_still | intro _ | with_reducible apply Still.ite | simp only [Still.upd] | dsimp only | split)

theorem wakeLink_still {s0 : State} (l : LinkId) (s : State) (hk : Still s0 s) : Still s0 (wakeLink l s) := by
  unfold wakeLink
  repeat (first | with_reducible assumption | with_reducible apply drainLink_still | with_reducible apply setBrl_still | with_reducible apply emit_still | with_reducible apply updLink_still | intro _ | with_reducible apply Still.ite | simp only [Still.upd] | dsimp only | split)

theorem advertise_still {s0 : State} (s : State) (hk : Still s0 s) : Still s0 (advertise s) := by
  unfold advertise
  repeat (first | with_reducible assumption | with_reducible apply eachOf_still | with_reducible apply sendLinkMsg_still | with_reducible apply wakeLink_still | with_reducible apply noticeLink_still | intro _ | with_reducible apply Still.ite | simp only [Still.upd] | dsimp only | split)

theorem setMaster_still {s0 : State} (m : Nat) (via : Option Nat) (s : State) (hk : Still s0 s) : Still s0 (setMaster m via s) := by
  unfold setMaster
  repeat (first | with_reducible assumption | intro _ | with_reducible apply Still.ite | simp only [Still.upd] | dsimp only | split)

theorem judgeMaster_still {s0 : State} (s : State) (hk : Still s0 s) : Still s0 (judgeMaster s) := by
  unfold judgeMaster
  repeat (first | with_reducible assumption | with_reducible apply setMaster_still | intro _ | with_reducible apply Still.ite | simp only [Still.upd] | dsimp only | split)

theorem noteBonds_still {s0 : State} (before s : State) (hk : Still s0 s) : Still s0 (noteBonds before s) := by
  unfold noteBonds
  repeat (first | with_reducible assumption | intro _ | with_reducible apply Still.ite | simp only [Still.upd] | dsimp only | split)

theorem bondChange_still {s0 : State} (before : State) (s : State) (hk : Still s0 s) : Still s0 (bondChange before s) := by
  unfold bondChange
  repeat (first | with_reducible assumption | with_reducible apply drainOut_still | with_reducible apply eachOf_still | with_reducible apply withdrawSpecs_still | with_reducible apply relayReach_still | with_reducible apply judgeReach_still | with_reducible apply judgeMaster_still | with_reducible apply noteBonds_still | with_reducible apply advertise_still | intro _ | with_reducible apply Still.ite | simp only [Still.upd] | dsimp only | split)

theorem leaveActive_still {s0 : State} (l : LinkId) (st : BrlState) (s : State) (hk : Still s0 s) : Still s0 (leaveActive l st s) := by
  unfold leaveActive
  repeat (first | with_reducible assumption | with_reducible apply updLink_still | with_reducible apply enterDetect_still | with_reducible apply setBrl_still | with_reducible apply resend_still | with_reducible apply sendPairLink_still | with_reducible apply dualDetect_still | with_reducible apply bondChange_still | with_reducible apply Still.foldl | intro _ | with_reducible apply Still.ite | with_reducible apply Still.iteSnd | with_reducible apply Still.iteFst | simp only [Still.upd] | dsimp only | split)

theorem retrainLink_still {s0 : State} (l : LinkId) (s : State) (hk : Still s0 s) : Still s0 (retrainLink l s) := by
  unfold retrainLink
  repeat (first | with_reducible assumption | with_reducible apply leaveActive_still | with_reducible apply cntLink_still | intro _ | with_reducible apply Still.ite | simp only [Still.upd] | dsimp only | split)

theorem linkDown_still {s0 : State} (l : LinkId) (st : BrlState) (cause : Nat) (s : State) (hk : Still s0 s) : Still s0 (linkDown l st cause s) := by
  unfold linkDown
  repeat (first | with_reducible assumption | with_reducible apply setBrl_still | with_reducible apply updLink_still | with_reducible apply recordLink_still | with_reducible apply dualLinkDown_still | intro _ | with_reducible apply Still.ite | simp only [Still.upd] | dsimp only | split)

end Sys2Proof.Laws
end

