-- ==== Sys2Proof/Laws/Still3.lean ====
section
/-!
SUPPORT. Still3.lean: what leaves the standing state alone, one lemma per operation, in the order of the definitions (3 of 5).
Still s t: start-up state, pins, fuses and the configuration applied are those of s.
-/
set_option linter.all false
namespace Sys2Proof.Laws
open Sys2Proof Sys2Proof.Machine Sys2Proof.Safety

theorem linkActive_still {s0 : State} (l : LinkId) (crypt : Bool) (s : State) (hk : Still s0 s) : Still s0 (linkActive l crypt s) := by
  unfold linkActive
  repeat (first | with_reducible assumption | with_reducible apply setBrl_still | with_reducible apply updLink_still | with_reducible apply markReachable_still | with_reducible apply pairActive_still | with_reducible apply dualActive_still | with_reducible apply drainLink_still | with_reducible apply bondChange_still | intro _ | with_reducible apply Still.ite | simp only [Still.upd] | dsimp only | split)

theorem execBrlSignalDetect_still {s0 : State} (l : LinkId) (s : State) (hk : Still s0 s) : StillO s0 (execBrlSignalDetect l s) := by
  unfold execBrlSignalDetect
  repeat (first | with_reducible assumption | with_reducible apply StillO.next | with_reducible apply StillO.ite | with_reducible apply setBrl_still | with_reducible apply updLink_still | with_reducible apply emit_still | with_reducible apply enterDetect_still | intro _ | with_reducible apply Still.ite | simp only [Still.upd] | dsimp only | split)

theorem execBrlEqualizeDone_still {s0 : State} (l : LinkId) (s : State) (hk : Still s0 s) : StillO s0 (execBrlEqualizeDone l s) := by
  unfold execBrlEqualizeDone
  repeat (first | with_reducible assumption | with_reducible apply StillO.next | with_reducible apply StillO.ite | with_reducible apply sendLinkMsg_still | with_reducible apply setBrl_still | intro _ | with_reducible apply Still.ite | simp only [Still.upd] | dsimp only | split)

theorem execIdentifyReceive_still {s0 : State} (l : LinkId) (i : Identity) (s : State) (hk : Still s0 s) : StillO s0 (execIdentifyReceive l i s) := by
  unfold execIdentifyReceive
  repeat (first | with_reducible assumption | with_reducible apply StillO.next | with_reducible apply StillO.ite | with_reducible apply learnStart_still | with_reducible apply updLink_still | with_reducible apply linkDown_still | with_reducible apply setBrl_still | with_reducible apply linkActive_still | intro _ | with_reducible apply Still.ite | simp only [Still.upd] | dsimp only | split)

theorem linkAuthFail_still {s0 : State} (l : LinkId) (s : State) (hk : Still s0 s) : Still s0 (linkAuthFail l s) := by
  unfold linkAuthFail
  repeat (first | with_reducible assumption | with_reducible apply secLogMerged_still | with_reducible apply recordAll_still | intro _ | with_reducible apply Still.ite | simp only [Still.upd] | dsimp only | split)

theorem freshKey_still {s0 : State} (l : LinkId) (psk : Bytes) (s : State) (hk : Still s0 s) : Still s0 (freshKey l psk s) := by
  unfold freshKey
  repeat (first | with_reducible assumption | with_reducible refine takeFree_still (by with_reducible assumption) ?_ | with_reducible apply takeFree_snd_still | with_reducible apply updLink_still | intro _ | with_reducible apply Still.ite | with_reducible apply Still.iteSnd | with_reducible apply Still.iteFst | simp only [Still.upd] | dsimp only | split)

theorem execBrlKeyingDone_still {s0 : State} (l : LinkId) (ok : Bool) (s : State) (hk : Still s0 s) : StillO s0 (execBrlKeyingDone l ok s) := by
  unfold execBrlKeyingDone
  repeat (first | with_reducible assumption | with_reducible apply StillO.next | with_reducible apply StillO.ite | with_reducible apply linkActive_still | with_reducible apply freshKey_still | with_reducible apply linkDown_still | with_reducible apply linkAuthFail_still | intro _ | with_reducible apply Still.ite | simp only [Still.upd] | dsimp only | split)

theorem execBrlTrainTimeout_still {s0 : State} (l : LinkId) (s : State) (hk : Still s0 s) : StillO s0 (execBrlTrainTimeout l s) := by
  unfold execBrlTrainTimeout
  repeat (first | with_reducible assumption | with_reducible apply StillO.next | with_reducible apply StillO.ite | with_reducible apply linkDown_still | intro _ | with_reducible apply Still.ite | simp only [Still.upd] | dsimp only | split)

theorem retryLink_still {s0 : State} (l : LinkId) (s : State) (hk : Still s0 s) : Still s0 (retryLink l s) := by
  unfold retryLink
  repeat (first | with_reducible assumption | with_reducible apply enterDetect_still | with_reducible apply dualDetect_still | intro _ | with_reducible apply Still.ite | simp only [Still.upd] | dsimp only | split)

theorem execBrlDownRetry_still {s0 : State} (l : LinkId) (s : State) (hk : Still s0 s) : StillO s0 (execBrlDownRetry l s) := by
  unfold execBrlDownRetry
  repeat (first | with_reducible assumption | with_reducible apply StillO.next | with_reducible apply StillO.ite | with_reducible apply retryLink_still | intro _ | with_reducible apply Still.ite | simp only [Still.upd] | dsimp only | split)

theorem takeAck_still {s0 : State} (l : LinkId) (ack : Nat) (s : State) (hk : Still s0 s) : Still s0 (takeAck l ack s) := by
  unfold takeAck
  repeat (first | with_reducible assumption | with_reducible apply eachOf_still | with_reducible apply otherFlit_still | with_reducible apply updLink_still | intro _ | with_reducible apply Still.ite | with_reducible apply Still.iteSnd | with_reducible apply Still.iteFst | simp only [Still.upd] | dsimp only | split)

theorem replayLink_still {s0 : State} (l : LinkId) (s : State) (hk : Still s0 s) : Still s0 (replayLink l s) := by
  unfold replayLink
  repeat (first | with_reducible assumption | with_reducible apply updLink_still | with_reducible apply eachOf_still | with_reducible apply emit_still | intro _ | with_reducible apply Still.ite | simp only [Still.upd] | dsimp only | split)

theorem takeNak_still {s0 : State} (l : LinkId) (ack : Nat) (s : State) (hk : Still s0 s) : Still s0 (takeNak l ack s) := by
  unfold takeNak
  repeat (first | with_reducible assumption | with_reducible apply cntLink_still | with_reducible apply takeAck_still | with_reducible apply updLink_still | with_reducible apply retrainLink_still | with_reducible apply recordLink_still | with_reducible apply replayLink_still | intro _ | with_reducible apply Still.ite | simp only [Still.upd] | dsimp only | split)

theorem sendAck_still {s0 : State} (l : LinkId) (s : State) (hk : Still s0 s) : Still s0 (sendAck l s) := by
  unfold sendAck
  repeat (first | with_reducible assumption | with_reducible apply idleFlit_still | intro _ | with_reducible apply Still.ite | simp only [Still.upd] | dsimp only | split)

theorem discardFlit_still {s0 : State} (l : LinkId) (s : State) (hk : Still s0 s) : Still s0 (discardFlit l s) := by
  unfold discardFlit
  repeat (first | with_reducible assumption | with_reducible apply sendAck_still | with_reducible apply cntLink_still | with_reducible apply updLink_still | intro _ | with_reducible apply Still.ite | simp only [Still.upd] | dsimp only | split)

theorem packetWhole_still {s0 : State} (l : LinkId) (vc : Nat) (b : Bytes) (s : State) (hk : Still s0 s) : Still s0 (packetWhole l vc b s) := by
  unfold packetWhole
  repeat (first | with_reducible assumption | with_reducible apply payOwed_still | with_reducible apply forwardTo_still | with_reducible apply updLink_still | intro _ | with_reducible apply Still.ite | simp only [Still.upd] | dsimp only | split)

theorem deliverFlit_still {s0 : State} (l : LinkId) (h : FlitHead) (payload : Bytes) (s : State) (hk : Still s0 s) : Still s0 (deliverFlit l h payload s) := by
  unfold deliverFlit
  repeat (first | with_reducible assumption | with_reducible apply updLink_still | with_reducible apply packetWhole_still | intro _ | with_reducible apply Still.ite | simp only [Still.upd] | dsimp only | split)

theorem takeLinkMsg_still {s0 : State} (l : LinkId) (m : LinkMsg) (s : State) (hk : Still s0 s) : Still s0 (takeLinkMsg l m s) := by
  unfold takeLinkMsg
  repeat (first | with_reducible assumption | with_reducible apply cntLink_still | with_reducible apply updLink_still | with_reducible apply setBrl_still | with_reducible apply emit_still | with_reducible apply leaveActive_still | with_reducible apply sendLinkMsg_still | intro _ | with_reducible apply Still.ite | simp only [Still.upd] | dsimp only | split)

theorem takePayload_still {s0 : State} (l : LinkId) (h : FlitHead) (payload : Bytes) (msg : Option LinkMsg) (s : State) (hk : Still s0 s) : Still s0 (takePayload l h payload msg s) := by
  unfold takePayload
  repeat (first | with_reducible assumption | with_reducible apply deliverFlit_still | with_reducible apply takeLinkMsg_still | intro _ | with_reducible apply Still.ite | simp only [Still.upd] | dsimp only | split)

theorem takeIntegrity_still {s0 : State} (l : LinkId) (payload : Bytes) (s : State) (hk : Still s0 s) : Still s0 (takeIntegrity l payload s) := by
  unfold takeIntegrity
  repeat (first | with_reducible assumption | with_reducible apply updLink_still | with_reducible apply takePayload_still | with_reducible apply discardFlit_still | with_reducible apply cntLink_still | with_reducible apply retrainLink_still | with_reducible apply linkAuthFail_still | with_reducible apply Still.foldl | intro _ | with_reducible apply Still.ite | with_reducible apply Still.iteSnd | with_reducible apply Still.iteFst | simp only [Still.upd] | dsimp only | split)

theorem takeSequenced_still {s0 : State} (l : LinkId) (flit : Bytes) (h : FlitHead) (payload : Bytes) (msg : Option LinkMsg) (s : State) (hk : Still s0 s) : Still s0 (takeSequenced l flit h payload msg s) := by
  unfold takeSequenced
  repeat (first | with_reducible assumption | with_reducible apply updLink_still | with_reducible apply sendAck_still | with_reducible apply takeIntegrity_still | with_reducible apply takePayload_still | intro _ | with_reducible apply Still.ite | simp only [Still.upd] | dsimp only | split)

theorem takeFlit_still {s0 : State} (l : LinkId) (flit : Bytes) (msg : Option LinkMsg) (s : State) (hk : Still s0 s) : Still s0 (takeFlit l flit msg s) := by
  unfold takeFlit
  repeat (first | with_reducible assumption | with_reducible apply discardFlit_still | with_reducible apply takeNak_still | with_reducible apply takeAck_still | with_reducible apply updLink_still | with_reducible apply drainLink_still | with_reducible apply takeSequenced_still | intro _ | with_reducible apply Still.ite | simp only [Still.upd] | dsimp only | split)

theorem execFlitReceive_still {s0 : State} (l : LinkId) (fec : Nat) (flit : Bytes) (msg : Option LinkMsg) (s : State) (hk : Still s0 s) : StillO s0 (execFlitReceive l fec flit msg s) := by
  unfold execFlitReceive
  repeat (first | with_reducible assumption | with_reducible apply StillO.next | with_reducible apply StillO.ite | with_reducible apply discardFlit_still | with_reducible apply cntLink_still | with_reducible apply takeFlit_still | intro _ | with_reducible apply Still.ite | simp only [Still.upd] | dsimp only | split)

theorem execNakReceive_still {s0 : State} (l : LinkId) (ack : Nat) (s : State) (hk : Still s0 s) : StillO s0 (execNakReceive l ack s) := by
  unfold execNakReceive
  repeat (first | with_reducible assumption | with_reducible apply StillO.next | with_reducible apply StillO.ite | with_reducible apply takeNak_still | intro _ | with_reducible apply Still.ite | simp only [Still.upd] | dsimp only | split)

theorem execNakRepeat_still {s0 : State} (l : LinkId) (s : State) (hk : Still s0 s) : StillO s0 (execNakRepeat l s) := by
  unfold execNakRepeat
  repeat (first | with_reducible assumption | with_reducible apply StillO.next | with_reducible apply StillO.ite | with_reducible apply sendAck_still | intro _ | with_reducible apply Still.ite | simp only [Still.upd] | dsimp only | split)

theorem execAckTimer_still {s0 : State} (l : LinkId) (s : State) (hk : Still s0 s) : StillO s0 (execAckTimer l s) := by
  unfold execAckTimer
  repeat (first | with_reducible assumption | with_reducible apply StillO.next | with_reducible apply StillO.ite | with_reducible apply sendAck_still | intro _ | with_reducible apply Still.ite | simp only [Still.upd] | dsimp only | split)

theorem execIntegrityReceive_still {s0 : State} (l : LinkId) (flit : Bytes) (s : State) (hk : Still s0 s) : StillO s0 (execIntegrityReceive l flit s) := by
  unfold execIntegrityReceive
  repeat (first | with_reducible assumption | with_reducible apply StillO.next | with_reducible apply StillO.ite | with_reducible apply takeFlit_still | intro _ | with_reducible apply Still.ite | simp only [Still.upd] | dsimp only | split)

theorem execTimeFlitReceive_still {s0 : State} (l : LinkId) (farDt farRx : Nat) (s : State) (hk : Still s0 s) : StillO s0 (execTimeFlitReceive l farDt farRx s) := by
  unfold execTimeFlitReceive
  repeat (first | with_reducible assumption | with_reducible apply StillO.next | with_reducible apply StillO.ite | with_reducible apply updLink_still | intro _ | with_reducible apply Still.ite | simp only [Still.upd] | dsimp only | split)

theorem execLossOfLink_still {s0 : State} (l : LinkId) (s : State) (hk : Still s0 s) : StillO s0 (execLossOfLink l s) := by
  unfold execLossOfLink
  repeat (first | with_reducible assumption | with_reducible apply StillO.next | with_reducible apply StillO.ite | with_reducible apply retrainLink_still | intro _ | with_reducible apply Still.ite | simp only [Still.upd] | dsimp only | split)

theorem execBondAdvertisementSend_still {s0 : State} (s : State) (hk : Still s0 s) : StillO s0 (execBondAdvertisementSend s) := by
  unfold execBondAdvertisementSend
  repeat (first | with_reducible assumption | with_reducible apply StillO.next | with_reducible apply StillO.ite | with_reducible apply judgeReach_still | with_reducible apply advertise_still | intro _ | with_reducible apply Still.ite | simp only [Still.upd] | dsimp only | split)

theorem takeAdvert_still {s0 : State} (m : Nat) (a : Advert) (s : State) (hk : Still s0 s) : Still s0 (takeAdvert m a s) := by
  unfold takeAdvert
  repeat (first | with_reducible assumption | with_reducible apply learnStart_still | with_reducible apply Still.foldl | intro _ | with_reducible apply Still.ite | simp only [Still.upd] | dsimp only | split)

theorem execBondAdvertisementReceive_still {s0 : State} (l : LinkId) (a : Advert) (s : State) (hk : Still s0 s) : StillO s0 (execBondAdvertisementReceive l a s) := by
  unfold execBondAdvertisementReceive
  repeat (first | with_reducible assumption | with_reducible apply StillO.next | with_reducible apply StillO.ite | with_reducible apply drainOut_still | with_reducible apply relayReach_still | with_reducible apply judgeReach_still | with_reducible apply takeAdvert_still | intro _ | with_reducible apply Still.ite | simp only [Still.upd] | dsimp only | split)

theorem execBrlIdleTimer_still {s0 : State} (l : LinkId) (s : State) (hk : Still s0 s) : StillO s0 (execBrlIdleTimer l s) := by
  unfold execBrlIdleTimer
  repeat (first | with_reducible assumption | with_reducible apply StillO.next | with_reducible apply StillO.ite | with_reducible apply sendLinkMsg_still | with_reducible apply updLink_still | intro _ | with_reducible apply Still.ite | simp only [Still.upd] | dsimp only | split)

theorem execSleepReqReceive_still {s0 : State} (l : LinkId) (s : State) (hk : Still s0 s) : StillO s0 (execSleepReqReceive l s) := by
  unfold execSleepReqReceive
  repeat (first | with_reducible assumption | with_reducible apply StillO.next | with_reducible apply StillO.ite | with_reducible apply sendLinkMsg_still | with_reducible apply setBrl_still | with_reducible apply cntLink_still | with_reducible apply updLink_still | intro _ | with_reducible apply Still.ite | simp only [Still.upd] | dsimp only | split)

theorem execWakePattern_still {s0 : State} (l : LinkId) (s : State) (hk : Still s0 s) : StillO s0 (execWakePattern l s) := by
  unfold execWakePattern
  repeat (first | with_reducible assumption | with_reducible apply StillO.next | with_reducible apply StillO.ite | with_reducible apply drainLink_still | with_reducible apply setBrl_still | with_reducible apply updLink_still | intro _ | with_reducible apply Still.ite | simp only [Still.upd] | dsimp only | split)

theorem execBrlRetrain_still {s0 : State} (r : Requester) (l : LinkId) (v : Nat) (s : State) (hk : Still s0 s) : StillO s0 (execBrlRetrain r l v s) := by
  unfold execBrlRetrain
  repeat (first | with_reducible assumption | with_reducible apply StillO.next | with_reducible apply StillO.ite | with_reducible apply retrainLink_still | with_reducible apply retryLink_still | intro _ | with_reducible apply Still.ite | simp only [Still.upd] | dsimp only | split)

theorem execBrlDormant_still {s0 : State} (r : Requester) (l : LinkId) (v : Nat) (s : State) (hk : Still s0 s) : StillO s0 (execBrlDormant r l v s) := by
  unfold execBrlDormant
  repeat (first | with_reducible assumption | with_reducible apply StillO.next | with_reducible apply StillO.ite | with_reducible apply sendLinkMsg_still | with_reducible apply wakeLink_still | with_reducible apply updLink_still | intro _ | with_reducible apply Still.ite | simp only [Still.upd] | dsimp only | split)

theorem execBrlWake_still {s0 : State} (r : Requester) (l : LinkId) (v : Nat) (s : State) (hk : Still s0 s) : StillO s0 (execBrlWake r l v s) := by
  unfold execBrlWake
  repeat (first | with_reducible assumption | with_reducible apply StillO.next | with_reducible apply StillO.ite | with_reducible apply enterDetect_still | intro _ | with_reducible apply Still.ite | simp only [Still.upd] | dsimp only | split)

theorem execBrlRekey_still {s0 : State} (l : LinkId) (s : State) (hk : Still s0 s) : StillO s0 (execBrlRekey l s) := by
  unfold execBrlRekey
  repeat (first | with_reducible assumption | with_reducible apply StillO.next | with_reducible apply StillO.ite | with_reducible apply freshKey_still | intro _ | with_reducible apply Still.ite | simp only [Still.upd] | dsimp only | split)

theorem movePackets_still {s0 : State} (pl : PlaneId) (d : DevId) (p : PartId) (l : List Waiting) (s : State) (hk : Still s0 s) : Still s0 (movePackets pl d p l s) := by
  unfold movePackets
  repeat (first | with_reducible assumption | with_reducible apply cntTether_still | with_reducible refine sendTether_still (by with_reducible assumption) ?_ | with_reducible apply emit_still | with_reducible refine holdBack_still (by with_reducible assumption) ?_ | with_reducible apply holdBack_snd_still | with_reducible apply updFlow_still | with_reducible apply drainOut_still | with_reducible apply Still.foldl | intro _ | with_reducible apply Still.ite | with_reducible apply Still.iteSnd | with_reducible apply Still.iteFst | simp only [Still.upd] | dsimp only | split)

theorem endCtx_still {s0 : State} (i : Nat) (mark : Bool) (s : State) (hk : Still s0 s) : Still s0 (endCtx i mark s) := by
  unfold endCtx
  repeat (first | with_reducible assumption | with_reducible apply cntPlane_still | with_reducible apply setCtx_still | with_reducible apply updPlane_still | with_reducible apply judgeReach_still | with_reducible apply movePackets_still | intro _ | with_reducible apply Still.ite | with_reducible apply Still.iteSnd | with_reducible apply Still.iteFst | simp only [Still.upd] | dsimp only | split)

theorem planeUp_still {s0 : State} (pl : PlaneId) (s : State) (hk : Still s0 s) : Still s0 (planeUp pl s) := by
  unfold planeUp
  repeat (first | with_reducible assumption | with_reducible apply sendEth_still | with_reducible apply setTth_still | with_reducible apply resolveAddr_still | with_reducible apply drainOut_still | intro _ | with_reducible apply Still.ite | simp only [Still.upd] | dsimp only | split)

theorem planeLeave_still {s0 : State} (pl : PlaneId) (st : TthState) (s : State) (hk : Still s0 s) : Still s0 (planeLeave pl st s) := by
  unfold planeLeave
  repeat (first | with_reducible assumption | with_reducible apply setTth_still | with_reducible apply updPlane_still | with_reducible apply judgeReach_still | with_reducible apply drainOut_still | with_reducible apply eachOf_still | with_reducible apply endCtx_still | intro _ | with_reducible apply Still.ite | simp only [Still.upd] | dsimp only | split)

theorem planeDown_still {s0 : State} (pl : PlaneId) (cause : Nat) (s : State) (hk : Still s0 s) : Still s0 (planeDown pl cause s) := by
  unfold planeDown
  repeat (first | with_reducible assumption | with_reducible apply updPlane_still | with_reducible apply planeLeave_still | with_reducible apply recordLink_still | intro _ | with_reducible apply Still.ite | simp only [Still.upd] | dsimp only | split)

theorem execTthAlignDone_still {s0 : State} (pl : PlaneId) (s : State) (hk : Still s0 s) : StillO s0 (execTthAlignDone pl s) := by
  unfold execTthAlignDone
  repeat (first | with_reducible assumption | with_reducible apply StillO.next | with_reducible apply StillO.ite | with_reducible apply setTth_still | with_reducible apply planeUp_still | intro _ | with_reducible apply Still.ite | simp only [Still.upd] | dsimp only | split)

theorem freshSak_still {s0 : State} (pl : PlaneId) (item : VaultItem) (s : State) (hk : Still s0 s) : Still s0 (freshSak pl item s) := by
  unfold freshSak
  repeat (first | with_reducible assumption | with_reducible refine takeFree_still (by with_reducible assumption) ?_ | with_reducible apply takeFree_snd_still | with_reducible apply updPlane_still | intro _ | with_reducible apply Still.ite | with_reducible apply Still.iteSnd | with_reducible apply Still.iteFst | simp only [Still.upd] | dsimp only | split)

theorem execMkaSecured_still {s0 : State} (pl : PlaneId) (peerPriority : Nat) (xpn : Bool) (s : State) (hk : Still s0 s) : StillO s0 (execMkaSecured pl peerPriority xpn s) := by
  unfold execMkaSecured
  repeat (first | with_reducible assumption | with_reducible apply StillO.next | with_reducible apply StillO.ite | with_reducible apply planeUp_still | with_reducible apply updPlane_still | with_reducible apply freshSak_still | intro _ | with_reducible apply Still.ite | simp only [Still.upd] | dsimp only | split)

theorem execTthTrainTimeout_still {s0 : State} (pl : PlaneId) (s : State) (hk : Still s0 s) : StillO s0 (execTthTrainTimeout pl s) := by
  unfold execTthTrainTimeout
  repeat (first | with_reducible assumption | with_reducible apply StillO.next | with_reducible apply StillO.ite | with_reducible apply planeDown_still | intro _ | with_reducible apply Still.ite | simp only [Still.upd] | dsimp only | split)

theorem execTthFault_still {s0 : State} (pl : PlaneId) (s : State) (hk : Still s0 s) : StillO s0 (execTthFault pl s) := by
  unfold execTthFault
  repeat (first | with_reducible assumption | with_reducible apply StillO.next | with_reducible apply StillO.ite | with_reducible apply planeDown_still | intro _ | with_reducible apply Still.ite | simp only [Still.upd] | dsimp only | split)

theorem execTthDownRetry_still {s0 : State} (pl : PlaneId) (s : State) (hk : Still s0 s) : StillO s0 (execTthDownRetry pl s) := by
  unfold execTthDownRetry
  repeat (first | with_reducible assumption | with_reducible apply StillO.next | with_reducible apply StillO.ite | with_reducible apply enterAlign_still | intro _ | with_reducible apply Still.ite | simp only [Still.upd] | dsimp only | split)

theorem execMkaPeerLoss_still {s0 : State} (pl : PlaneId) (s : State) (hk : Still s0 s) : StillO s0 (execMkaPeerLoss pl s) := by
  unfold execMkaPeerLoss
  repeat (first | with_reducible assumption | with_reducible apply StillO.next | with_reducible apply StillO.ite | with_reducible apply planeDown_still | intro _ | with_reducible apply Still.ite | simp only [Still.upd] | dsimp only | split)

theorem execMacsecRekey_still {s0 : State} (pl : PlaneId) (s : State) (hk : Still s0 s) : StillO s0 (execMacsecRekey pl s) := by
  unfold execMacsecRekey
  repeat (first | with_reducible assumption | with_reducible apply StillO.next | with_reducible apply StillO.ite | with_reducible apply freshSak_still | intro _ | with_reducible apply Still.ite | simp only [Still.upd] | dsimp only | split)

theorem execTthRetrain_still {s0 : State} (r : Requester) (pl : PlaneId) (v : Nat) (s : State) (hk : Still s0 s) : StillO s0 (execTthRetrain r pl v s) := by
  unfold execTthRetrain
  repeat (first | with_reducible assumption | with_reducible apply StillO.next | with_reducible apply StillO.ite | with_reducible apply enterAlign_still | intro _ | with_reducible apply Still.ite | simp only [Still.upd] | dsimp only | split)

theorem execTthDormant_still {s0 : State} (r : Requester) (pl : PlaneId) (v : Nat) (s : State) (hk : Still s0 s) : StillO s0 (execTthDormant r pl v s) := by
  unfold execTthDormant
  repeat (first | with_reducible assumption | with_reducible apply StillO.next | with_reducible apply StillO.ite | with_reducible apply planeLeave_still | intro _ | with_reducible apply Still.ite | simp only [Still.upd] | dsimp only | split)

theorem execTthWake_still {s0 : State} (r : Requester) (pl : PlaneId) (v : Nat) (s : State) (hk : Still s0 s) : StillO s0 (execTthWake r pl v s) := by
  unfold execTthWake
  repeat (first | with_reducible assumption | with_reducible apply StillO.next | with_reducible apply StillO.ite | with_reducible apply enterAlign_still | intro _ | with_reducible apply Still.ite | simp only [Still.upd] | dsimp only | split)

theorem discardDgram_still {s0 : State} (pl : PlaneId) (s : State) (hk : Still s0 s) : Still s0 (discardDgram pl s) := by
  unfold discardDgram
  repeat (first | with_reducible assumption | with_reducible apply cntPlane_still | intro _ | with_reducible apply Still.ite | simp only [Still.upd] | dsimp only | split)

theorem notePn_still {s0 : State} (pl : PlaneId) (pn : Option Nat) (s : State) (hk : Still s0 s) : Still s0 (notePn pl pn s) := by
  unfold notePn
  repeat (first | with_reducible assumption | with_reducible apply updPlane_still | intro _ | with_reducible apply Still.ite | simp only [Still.upd] | dsimp only | split)

theorem frameBad_still {s0 t : State} {pl : PlaneId} {fr : FrameCheck} {data : Bytes} {s : State} (e : frameBad pl fr data s = some t) (hk : Still s0 s) : Still s0 t := by
  unfold frameBad at e
  (try dsimp only at e)
  repeat' split at e
  all_goals (try cases e)
  all_goals repeat (first | with_reducible assumption | with_reducible apply cntPlane_still | with_reducible apply discardDgram_still | with_reducible apply notePn_still | intro _ | with_reducible apply Still.ite | simp only [Still.upd] | dsimp only | split)

theorem ethBad_still {s0 t : State} {pl : PlaneId} {fr : EthCheck} {s : State} (e : ethBad pl fr s = some t) (hk : Still s0 s) : Still s0 t := by
  unfold ethBad at e
  (try dsimp only at e)
  repeat' split at e
  all_goals (try cases e)
  all_goals repeat (first | with_reducible assumption | with_reducible apply cntPlane_still | with_reducible apply discardDgram_still | with_reducible apply notePn_still | intro _ | with_reducible apply Still.ite | simp only [Still.upd] | dsimp only | split)

theorem sendCtxAck_still {s0 : State} (i : Nat) (s : State) (hk : Still s0 s) : Still s0 (sendCtxAck i s) := by
  unfold sendCtxAck
  repeat (first | with_reducible assumption | with_reducible apply updCtx_still | with_reducible apply sendDgram_still | intro _ | with_reducible apply Still.ite | simp only [Still.upd] | dsimp only | split)

theorem takeSegment_still {s0 : State} (pl : PlaneId) (i : Nat) (ce : Bool) (h : TthHead) (b : Bytes) (c : Ctx) (s : State) (hk : Still s0 s) : Still s0 (takeSegment pl i ce h b c s) := by
  unfold takeSegment
  repeat (first | with_reducible assumption | with_reducible apply cntPlane_still | with_reducible apply setCtx_still | with_reducible apply updPlane_still | with_reducible apply sendCtxAck_still | intro _ | with_reducible apply Still.ite | with_reducible apply Still.iteSnd | with_reducible apply Still.iteFst | simp only [Still.upd] | dsimp only | split)

theorem execTthDataReceive_still {s0 : State} (pl : PlaneId) (fr : FrameCheck) (dgram : Bytes) (s : State) (hk : Still s0 s) : StillO s0 (execTthDataReceive pl fr dgram s) := by
  unfold execTthDataReceive
  repeat (first | with_reducible assumption | with_reducible apply StillO.next | with_reducible apply StillO.ite | with_reducible refine frameBad_still (by with_reducible assumption) ?_ | with_reducible apply notePn_still | with_reducible apply discardDgram_still | with_reducible apply takeSegment_still | intro _ | with_reducible apply Still.ite | simp only [Still.upd] | dsimp only | split)

theorem takeAckDgram_still {s0 : State} (i : Nat) (b : Bytes) (c : Ctx) (s : State) (hk : Still s0 s) : Still s0 (takeAckDgram i b c s) := by
  unfold takeAckDgram
  repeat (first | with_reducible assumption | with_reducible apply setCtx_still | with_reducible apply drainOut_still | with_reducible apply drainCtx_still | with_reducible apply retransmit_still | with_reducible apply Still.foldl | intro _ | with_reducible apply Still.ite | simp only [Still.upd] | dsimp only | split)

theorem execTthAckReceive_still {s0 : State} (pl : PlaneId) (fr : FrameCheck) (dgram : Bytes) (s : State) (hk : Still s0 s) : StillO s0 (execTthAckReceive pl fr dgram s) := by
  unfold execTthAckReceive
  repeat (first | with_reducible assumption | with_reducible apply StillO.next | with_reducible apply StillO.ite | with_reducible refine frameBad_still (by with_reducible assumption) ?_ | with_reducible apply notePn_still | with_reducible apply discardDgram_still | with_reducible apply takeAckDgram_still | intro _ | with_reducible apply Still.ite | simp only [Still.upd] | dsimp only | split)

theorem ctxOpened_still {s0 : State} (i : Nat) (s : State) (hk : Still s0 s) : Still s0 (ctxOpened i s) := by
  unfold ctxOpened
  repeat (first | with_reducible assumption | with_reducible apply setCtx_still | with_reducible apply markReachable_still | with_reducible apply drainOut_still | with_reducible apply drainCtx_still | with_reducible apply noticeCtx_still | intro _ | with_reducible apply Still.ite | simp only [Still.upd] | dsimp only | split)

theorem sendHelloAck_still {s0 : State} (i : Nat) (s : State) (hk : Still s0 s) : Still s0 (sendHelloAck i s) := by
  unfold sendHelloAck
  repeat (first | with_reducible assumption | with_reducible apply sendDgram_still | intro _ | with_reducible apply Still.ite | simp only [Still.upd] | dsimp only | split)

theorem respond_still {s0 : State} (i : Nat) (c : Ctx) (s : State) (hk : Still s0 s) : Still s0 (respond i c s) := by
  unfold respond
  repeat (first | with_reducible assumption | with_reducible apply ctxOpened_still | with_reducible apply sendHelloAck_still | with_reducible apply setCtx_still | intro _ | with_reducible apply Still.ite | simp only [Still.upd] | dsimp only | split)

theorem execTthHelloReceive_still {s0 : State} (pl : PlaneId) (fr : FrameCheck) (dgram : Bytes) (s : State) (hk : Still s0 s) : StillO s0 (execTthHelloReceive pl fr dgram s) := by
  unfold execTthHelloReceive
  repeat (first | with_reducible assumption | split | with_reducible apply StillO.next | with_reducible apply StillO.ite | with_reducible refine frameBad_still (by with_reducible assumption) ?_ | with_reducible apply discardDgram_still | with_reducible apply showEpoch_still | with_reducible apply learnStart_still | with_reducible apply sendHelloAck_still | with_reducible apply respond_still | with_reducible apply notePn_still | with_reducible refine freeCtx_still (by with_reducible assumption) ?_ | dsimp only)

theorem execTthHelloAckReceive_still {s0 : State} (pl : PlaneId) (fr : FrameCheck) (dgram : Bytes) (s : State) (hk : Still s0 s) : StillO s0 (execTthHelloAckReceive pl fr dgram s) := by
  unfold execTthHelloAckReceive
  repeat (first | with_reducible assumption | with_reducible apply StillO.next | with_reducible apply StillO.ite | with_reducible refine frameBad_still (by with_reducible assumption) ?_ | with_reducible apply notePn_still | with_reducible apply discardDgram_still | with_reducible apply showEpoch_still | with_reducible apply learnStart_still | with_reducible apply setCtx_still | with_reducible apply updPlane_still | with_reducible apply ctxOpened_still | intro _ | with_reducible apply Still.ite | with_reducible apply Still.iteSnd | with_reducible apply Still.iteFst | simp only [Still.upd] | dsimp only | split)

theorem reopenCtx_still {s0 : State} (i : Nat) (c : Ctx) (s : State) (hk : Still s0 s) : Still s0 (reopenCtx i c s) := by
  unfold reopenCtx
  repeat (first | with_reducible assumption | with_reducible apply sendHello_still | with_reducible apply setCtx_still | intro _ | with_reducible apply Still.ite | simp only [Still.upd] | dsimp only | split)

theorem execCloseCtxReceive_still {s0 : State} (pl : PlaneId) (fr : FrameCheck) (dgram : Bytes) (s : State) (hk : Still s0 s) : StillO s0 (execCloseCtxReceive pl fr dgram s) := by
  unfold execCloseCtxReceive
  repeat (first | with_reducible assumption | with_reducible apply StillO.next | with_reducible apply StillO.ite | with_reducible refine frameBad_still (by with_reducible assumption) ?_ | with_reducible apply notePn_still | with_reducible apply discardDgram_still | with_reducible apply drainOut_still | with_reducible apply setCtx_still | with_reducible apply reopenCtx_still | intro _ | with_reducible apply Still.ite | simp only [Still.upd] | dsimp only | split)

theorem execHelloRetry_still {s0 : State} (ctx : Nat) (s : State) (hk : Still s0 s) : StillO s0 (execHelloRetry ctx s) := by
  unfold execHelloRetry
  repeat (first | with_reducible assumption | with_reducible apply StillO.next | with_reducible apply StillO.ite | with_reducible apply sendHello_still | with_reducible apply setCtx_still | intro _ | with_reducible apply Still.ite | simp only [Still.upd] | dsimp only | split)

theorem execTthAckTimer_still {s0 : State} (ctx : Nat) (s : State) (hk : Still s0 s) : StillO s0 (execTthAckTimer ctx s) := by
  unfold execTthAckTimer
  repeat (first | with_reducible assumption | with_reducible apply StillO.next | with_reducible apply StillO.ite | with_reducible apply sendCtxAck_still | intro _ | with_reducible apply Still.ite | simp only [Still.upd] | dsimp only | split)

theorem execRtoExpiry_still {s0 : State} (ctx : Nat) (s : State) (hk : Still s0 s) : StillO s0 (execRtoExpiry ctx s) := by
  unfold execRtoExpiry
  repeat (first | with_reducible assumption | with_reducible apply StillO.next | with_reducible apply StillO.ite | with_reducible apply setCtx_still | with_reducible apply retransmit_still | with_reducible apply cntPlane_still | intro _ | with_reducible apply Still.ite | simp only [Still.upd] | dsimp only | split)

theorem execContextIdleClose_still {s0 : State} (ctx : Nat) (s : State) (hk : Still s0 s) : StillO s0 (execContextIdleClose ctx s) := by
  unfold execContextIdleClose
  repeat (first | with_reducible assumption | with_reducible apply StillO.next | with_reducible apply StillO.ite | with_reducible apply drainOut_still | with_reducible apply setCtx_still | with_reducible apply sendCloseCtx_still | intro _ | with_reducible apply Still.ite | simp only [Still.upd] | dsimp only | split)

theorem execTthRetxExhaust_still {s0 : State} (ctx : Nat) (s : State) (hk : Still s0 s) : StillO s0 (execTthRetxExhaust ctx s) := by
  unfold execTthRetxExhaust
  repeat (first | with_reducible assumption | with_reducible apply StillO.next | with_reducible apply StillO.ite | with_reducible apply record_still | with_reducible apply drainOut_still | with_reducible apply endCtx_still | intro _ | with_reducible apply Still.ite | simp only [Still.upd] | dsimp only | split)

theorem noteProbe_still {s0 : State} (pl : PlaneId) (d : DevId) (s : State) (hk : Still s0 s) : Still s0 (noteProbe pl d s) := by
  unfold noteProbe
  repeat (first | with_reducible assumption | with_reducible apply updPlane_still | intro _ | with_reducible apply Still.ite | with_reducible apply Still.iteSnd | with_reducible apply Still.iteFst | simp only [Still.upd] | dsimp only | split)

theorem execFailedPlaneProbe_still {s0 : State} (pl : PlaneId) (peer : DevId) (part : PartId) (s : State) (hk : Still s0 s) : StillO s0 (execFailedPlaneProbe pl peer part s) := by
  unfold execFailedPlaneProbe
  repeat (first | with_reducible assumption | split | with_reducible apply StillO.next | with_reducible apply StillO.ite | with_reducible apply sendHello_still | with_reducible apply noteProbe_still | with_reducible refine freeCtx_still (by with_reducible assumption) ?_ | with_reducible apply setCtx_still | dsimp only)

theorem execArpNdRequest_still {s0 : State} (pl : PlaneId) (frame : EthCheck) (asker target : Nat) (s : State) (hk : Still s0 s) : StillO s0 (execArpNdRequest pl frame asker target s) := by
  unfold execArpNdRequest
  repeat (first | with_reducible assumption | with_reducible apply StillO.next | with_reducible apply StillO.ite | with_reducible refine ethBad_still (by with_reducible assumption) ?_ | with_reducible apply notePn_still | with_reducible apply sendEth_still | intro _ | with_reducible apply Still.ite | simp only [Still.upd] | dsimp only | split)

theorem execNeighbourRefresh_still {s0 : State} (pl : PlaneId) (addr : Nat) (s : State) (hk : Still s0 s) : StillO s0 (execNeighbourRefresh pl addr s) := by
  unfold execNeighbourRefresh
  repeat (first | with_reducible assumption | with_reducible apply StillO.next | with_reducible apply StillO.ite | with_reducible apply sendEth_still | with_reducible apply updPlane_still | intro _ | with_reducible apply Still.ite | simp only [Still.upd] | dsimp only | split)

theorem execIcmpEchoRequest_still {s0 : State} (pl : PlaneId) (frame : EthCheck) (asker ident : Nat) (s : State) (hk : Still s0 s) : StillO s0 (execIcmpEchoRequest pl frame asker ident s) := by
  unfold execIcmpEchoRequest
  repeat (first | with_reducible assumption | with_reducible apply StillO.next | with_reducible apply StillO.ite | with_reducible refine ethBad_still (by with_reducible assumption) ?_ | with_reducible apply notePn_still | with_reducible apply sendEth_still | with_reducible apply updPlane_still | intro _ | with_reducible apply Still.ite | simp only [Still.upd] | dsimp only | split)

theorem execPauseFrameReceive_still {s0 : State} (pl : PlaneId) (s : State) (hk : Still s0 s) : StillO s0 (execPauseFrameReceive pl s) := by
  unfold execPauseFrameReceive
  repeat (first | with_reducible assumption | with_reducible apply StillO.next | with_reducible apply StillO.ite | with_reducible apply discardDgram_still | intro _ | with_reducible apply Still.ite | simp only [Still.upd] | dsimp only | split)

theorem execArpNdReplyReceive_still {s0 : State} (pl : PlaneId) (frame : EthCheck) (addr mac : Nat) (s : State) (hk : Still s0 s) : StillO s0 (execArpNdReplyReceive pl frame addr mac s) := by
  unfold execArpNdReplyReceive
  repeat (first | with_reducible assumption | with_reducible apply StillO.next | with_reducible apply StillO.ite | with_reducible refine ethBad_still (by with_reducible assumption) ?_ | with_reducible apply notePn_still | with_reducible apply updPlane_still | with_reducible apply eachOf_still | with_reducible apply sendHello_still | intro _ | with_reducible apply Still.ite | simp only [Still.upd] | dsimp only | split)

theorem execNeighbourResolutionRetry_still {s0 : State} (pl : PlaneId) (addr : Nat) (s : State) (hk : Still s0 s) : StillO s0 (execNeighbourResolutionRetry pl addr s) := by
  unfold execNeighbourResolutionRetry
  repeat (first | with_reducible assumption | with_reducible apply StillO.next | with_reducible apply StillO.ite | with_reducible apply sendEth_still | with_reducible apply updPlane_still | intro _ | with_reducible apply Still.ite | simp only [Still.upd] | dsimp only | split)

theorem steer_still {s0 : State} (src : TimeSource) (s : State) (hk : Still s0 s) : Still s0 (steer src s) := by
  unfold steer
  repeat (first | with_reducible assumption | with_reducible refine takeFree_still (by with_reducible assumption) ?_ | with_reducible apply takeFree_snd_still | intro _ | with_reducible apply Still.ite | with_reducible apply Still.iteSnd | with_reducible apply Still.iteFst | simp only [Still.upd] | dsimp only | split)

theorem sysMeasure_still {s0 : State} (off : Int) (s : State) (hk : Still s0 s) : Still s0 (sysMeasure off s) := by
  unfold sysMeasure
  repeat (first | with_reducible assumption | intro _ | with_reducible apply Still.ite | simp only [Still.upd] | dsimp only | split)

theorem timeMessageTo_still {s0 : State} (fabricCount : Nat) (table : Bytes) (ref : Bool) (m : Nat) (s : State) (hk : Still s0 s) : Still s0 (timeMessageTo fabricCount table ref m s) := by
  unfold timeMessageTo
  repeat (first | with_reducible assumption | with_reducible apply wakeLink_still | with_reducible apply otherFlit_still | with_reducible apply updLink_still | with_reducible apply emit_still | intro _ | with_reducible apply Still.ite | simp only [Still.upd] | dsimp only | split)

theorem hearMember_still {s0 : State} (m master : Nat) (s : State) (hk : Still s0 s) : Still s0 (hearMember m master s) := by
  unfold hearMember
  repeat (first | with_reducible assumption | with_reducible apply judgeMaster_still | with_reducible apply setMaster_still | intro _ | with_reducible apply Still.ite | simp only [Still.upd] | dsimp only | split)

theorem takeGroupTime_still {s0 : State} (far sysOffset fabricCount : Nat) (table : Bytes) (s : State) (hk : Still s0 s) : Still s0 (takeGroupTime far sysOffset fabricCount table s) := by
  unfold takeGroupTime
  repeat (first | with_reducible assumption | intro _ | with_reducible apply Still.ite | simp only [Still.upd] | dsimp only | split)

theorem execTimeRefLock_still {s0 : State} (s : State) (hk : Still s0 s) : StillO s0 (execTimeRefLock s) := by
  unfold execTimeRefLock
  repeat (first | with_reducible assumption | with_reducible apply StillO.next | with_reducible apply StillO.ite | intro _ | with_reducible apply Still.ite | simp only [Still.upd] | dsimp only | split)

theorem execTimeRefLoss_still {s0 : State} (s : State) (hk : Still s0 s) : StillO s0 (execTimeRefLoss s) := by
  unfold execTimeRefLoss
  repeat (first | with_reducible assumption | with_reducible apply StillO.next | with_reducible apply StillO.ite | intro _ | with_reducible apply Still.ite | simp only [Still.upd] | dsimp only | split)

theorem execPpsInEdge_still {s0 : State} (s : State) (hk : Still s0 s) : StillO s0 (execPpsInEdge s) := by
  unfold execPpsInEdge
  repeat (first | with_reducible assumption | with_reducible apply StillO.next | with_reducible apply StillO.ite | with_reducible apply steer_still | with_reducible apply sysMeasure_still | intro _ | with_reducible apply Still.ite | simp only [Still.upd] | dsimp only | split)

theorem execPpsOutEdge_still {s0 : State} (s : State) (hk : Still s0 s) : StillO s0 (execPpsOutEdge s) := by
  unfold execPpsOutEdge
  repeat (first | with_reducible assumption | with_reducible apply StillO.next | with_reducible apply StillO.ite | with_reducible apply emit_still | intro _ | with_reducible apply Still.ite | simp only [Still.upd] | dsimp only | split)

theorem placePtp_still {s0 : State} (s : State) (hk : Still s0 s) : Still s0 (placePtp s) := by
  unfold placePtp
  repeat (first | with_reducible assumption | intro _ | with_reducible apply Still.ite | simp only [Still.upd] | dsimp only | split)

theorem updPtp_still {s0 : State} (f : Ptp → Ptp) (s : State) (hk : Still s0 s) : Still s0 (updPtp f s) := by
  unfold updPtp
  repeat (first | with_reducible assumption | intro _ | with_reducible apply Still.ite | simp only [Still.upd] | dsimp only | split)

theorem judgePtp_still {s0 : State} (pl : PlaneId) (s : State) (hk : Still s0 s) : Still s0 (judgePtp pl s) := by
  unfold judgePtp
  repeat (first | with_reducible assumption | with_reducible apply updPtp_still | intro _ | with_reducible apply Still.ite | simp only [Still.upd] | dsimp only | split)

theorem emitPtp_still {s0 : State} (pl : PlaneId) (m : PtpMsg) (s : State) (hk : Still s0 s) : Still s0 (emitPtp pl m s) := by
  unfold emitPtp
  repeat (first | with_reducible assumption | with_reducible apply sendEth_still | intro _ | with_reducible apply Still.ite | simp only [Still.upd] | dsimp only | split)

theorem ptpMeasure_still {s0 : State} (ref : Int) (dt : Nat) (s : State) (hk : Still s0 s) : Still s0 (ptpMeasure ref dt s) := by
  unfold ptpMeasure
  repeat (first | with_reducible assumption | with_reducible apply updPtp_still | with_reducible apply steer_still | with_reducible apply sysMeasure_still | intro _ | with_reducible apply Still.ite | simp only [Still.upd] | dsimp only | split)

theorem gotSync_still {s0 : State} (t1 : Int) (t2 : Nat) (s : State) (hk : Still s0 s) : Still s0 (gotSync t1 t2 s) := by
  unfold gotSync
  repeat (first | with_reducible assumption | with_reducible apply updPtp_still | with_reducible apply ptpMeasure_still | intro _ | with_reducible apply Still.ite | simp only [Still.upd] | dsimp only | split)

theorem ptpReceive_still {s0 : State} (pl : PlaneId) (m : PtpMsg) (s : State) (hk : Still s0 s) : Still s0 (ptpReceive pl m s) := by
  unfold ptpReceive
  repeat (first | with_reducible assumption | with_reducible apply judgePtp_still | with_reducible apply updPtp_still | with_reducible apply gotSync_still | with_reducible apply emitPtp_still | intro _ | with_reducible apply Still.ite | with_reducible apply Still.iteSnd | with_reducible apply Still.iteFst | simp only [Still.upd] | dsimp only | split)

theorem ptpSend_still {s0 : State} (pl : PlaneId) (k : PtpKind) (s : State) (hk : Still s0 s) : Still s0 (ptpSend pl k s) := by
  unfold ptpSend
  repeat (first | with_reducible assumption | with_reducible apply judgePtp_still | with_reducible apply emitPtp_still | with_reducible apply updPtp_still | with_reducible apply sysMeasure_still | intro _ | with_reducible apply Still.ite | with_reducible apply Still.iteSnd | with_reducible apply Still.iteFst | simp only [Still.upd] | dsimp only | split)

theorem execPtpEventMessage_still {s0 : State} (pl : PlaneId) (e : PtpEvent) (s : State) (hk : Still s0 s) : StillO s0 (execPtpEventMessage pl e s) := by
  unfold execPtpEventMessage
  repeat (first | with_reducible assumption | with_reducible apply StillO.next | with_reducible apply StillO.ite | with_reducible apply placePtp_still | with_reducible refine ethBad_still (by with_reducible assumption) ?_ | with_reducible apply notePn_still | with_reducible apply ptpReceive_still | with_reducible apply ptpSend_still | intro _ | with_reducible apply Still.ite | simp only [Still.upd] | dsimp only | split)

theorem execSysSyncLoss_still {s0 : State} (s : State) (hk : Still s0 s) : StillO s0 (execSysSyncLoss s) := by
  unfold execSysSyncLoss
  repeat (first | with_reducible assumption | with_reducible apply StillO.next | with_reducible apply StillO.ite | with_reducible apply updPtp_still | intro _ | with_reducible apply Still.ite | simp only [Still.upd] | dsimp only | split)

theorem execPtpPortMove_still {s0 : State} (s : State) (hk : Still s0 s) : StillO s0 (execPtpPortMove s) := by
  unfold execPtpPortMove
  repeat (first | with_reducible assumption | with_reducible apply StillO.next | with_reducible apply StillO.ite | with_reducible apply placePtp_still | intro _ | with_reducible apply Still.ite | simp only [Still.upd] | dsimp only | split)

theorem checkImage_still {s0 t : State} {v : Bool} {is : List StageItem} {s : State} (e : checkImage is s = (v, t)) (hk : Still s0 s) : Still s0 t := by
  unfold checkImage at e
  (try dsimp only at e)
  repeat' split at e
  all_goals (try cases e)
  all_goals repeat (first | with_reducible assumption | intro _ | with_reducible apply Still.ite | simp only [Still.upd] | dsimp only | split)

theorem checkImage_snd_still {s0 : State} (is : List StageItem) (s : State) (hk : Still s0 s) : Still s0 (checkImage is s).2 :=
  checkImage_still (Prod.eta _).symm hk

theorem runChecks_still {s0 t : State} {v0 : Nat} {v1 : List StageItem} {s : State} (e : runChecks s = (v0, v1, t)) (hk : Still s0 s) : Still s0 t := by
  unfold runChecks at e
  (try dsimp only at e)
  repeat' split at e
  all_goals (try cases e)
  all_goals repeat (first | with_reducible assumption | with_reducible refine checkImage_still (by with_reducible assumption) ?_ | with_reducible apply checkImage_snd_still | intro _ | with_reducible apply Still.ite | with_reducible apply Still.iteSnd | with_reducible apply Still.iteFst | simp only [Still.upd] | dsimp only | split)

theorem runChecks_snd_still {s0 : State} (s : State) (hk : Still s0 s) : Still s0 (runChecks s).2.2 :=
  runChecks_still rfl hk

theorem endStage_still {s0 : State} (s : State) (hk : Still s0 s) : Still s0 (endStage s) := by
  unfold endStage
  repeat (first | with_reducible assumption | with_reducible apply setCommit_still | intro _ | with_reducible apply Still.ite | simp only [Still.upd] | dsimp only | split)

theorem discardStage_still {s0 : State} (s : State) (hk : Still s0 s) : Still s0 (discardStage s) := by
  unfold discardStage
  repeat (first | with_reducible assumption | with_reducible apply endStage_still | intro _ | with_reducible apply Still.ite | simp only [Still.upd] | dsimp only | split)

theorem execCfgStageOpen_still {s0 : State} (r : Requester) (v : Nat) (s : State) (hk : Still s0 s) : StillO s0 (execCfgStageOpen r v s) := by
  unfold execCfgStageOpen
  repeat (first | with_reducible assumption | with_reducible apply StillO.next | with_reducible apply StillO.ite | with_reducible apply setCommit_still | intro _ | with_reducible apply Still.ite | simp only [Still.upd] | dsimp only | split)

theorem execCfgStageSeal_still {s0 : State} (r : Requester) (v : Nat) (s : State) (hk : Still s0 s) : StillO s0 (execCfgStageSeal r v s) := by
  unfold execCfgStageSeal
  repeat (first | with_reducible assumption | with_reducible apply StillO.next | with_reducible apply StillO.ite | with_reducible apply setCommit_still | intro _ | with_reducible apply Still.ite | simp only [Still.upd] | dsimp only | split)

theorem execCheckerDone_still {s0 : State} (s : State) (hk : Still s0 s) : StillO s0 (execCheckerDone s) := by
  unfold execCheckerDone
  repeat (first | with_reducible assumption | with_reducible apply StillO.next | with_reducible apply StillO.ite | with_reducible refine runChecks_still (by with_reducible assumption) ?_ | with_reducible apply runChecks_snd_still | with_reducible apply setCommit_still | with_reducible apply mgtRecord_still | intro _ | with_reducible apply Still.ite | with_reducible apply Still.iteSnd | with_reducible apply Still.iteFst | simp only [Still.upd] | dsimp only | split)

theorem execCfgStageAbort_still {s0 : State} (r : Requester) (v : Nat) (s : State) (hk : Still s0 s) : StillO s0 (execCfgStageAbort r v s) := by
  unfold execCfgStageAbort
  repeat (first | with_reducible assumption | with_reducible apply StillO.next | with_reducible apply StillO.ite | with_reducible apply discardStage_still | intro _ | with_reducible apply Still.ite | simp only [Still.upd] | dsimp only | split)

theorem sendCfg_still {s0 : State} (d : DevId) (m : CfgMsg) (s : State) (hk : Still s0 s) : Still s0 (sendCfg d m s) := by
  unfold sendCfg
  repeat (first | with_reducible assumption | with_reducible apply sendMessage_still | with_reducible apply emit_still | intro _ | with_reducible apply Still.ite | simp only [Still.upd] | dsimp only | split)

theorem sendCfgAll_still {s0 : State} (ds : List DevId) (m : CfgMsg) (s : State) (hk : Still s0 s) : Still s0 (sendCfgAll ds m s) := by
  unfold sendCfgAll
  repeat (first | with_reducible assumption | with_reducible apply eachOf_still | with_reducible apply sendCfg_still | intro _ | with_reducible apply Still.ite | simp only [Still.upd] | dsimp only | split)

theorem recordAbort_still {s0 : State} (id reason : Nat) (voter : Option DevId) (s : State) (hk : Still s0 s) : Still s0 (recordAbort id reason voter s) := by
  unfold recordAbort
  repeat (first | with_reducible assumption | with_reducible apply mgtRecord_still | intro _ | with_reducible apply Still.ite | simp only [Still.upd] | dsimp only | split)

theorem takeAbort_still {s0 : State} (reason : Nat) (voter : Option DevId) (s : State) (hk : Still s0 s) : Still s0 (takeAbort reason voter s) := by
  unfold takeAbort
  repeat (first | with_reducible assumption | with_reducible apply recordAbort_still | with_reducible apply discardStage_still | intro _ | with_reducible apply Still.ite | simp only [Still.upd] | dsimp only | split)

theorem passOn_still {s0 : State} (h : CommitHead) (s : State) (hk : Still s0 s) : Still s0 (passOn h s) := by
  unfold passOn
  repeat (first | with_reducible assumption | with_reducible apply sendCfgAll_still | intro _ | with_reducible apply Still.ite | simp only [Still.upd] | dsimp only | split)

theorem takeCommit_still {s0 : State} (s : State) (hk : Still s0 s) : Still s0 (takeCommit s) := by
  unfold takeCommit
  repeat (first | with_reducible assumption | with_reducible apply setCommit_still | intro _ | with_reducible apply Still.ite | simp only [Still.upd] | dsimp only | split)

theorem decideCommit_still {s0 : State} (s : State) (hk : Still s0 s) : Still s0 (decideCommit s) := by
  unfold decideCommit
  repeat (first | with_reducible assumption | with_reducible apply sendCfgAll_still | with_reducible apply takeCommit_still | with_reducible apply passOn_still | intro _ | with_reducible apply Still.ite | simp only [Still.upd] | dsimp only | split)

theorem decideAbort_still {s0 : State} (reason : Nat) (voter : Option DevId) (s : State) (hk : Still s0 s) : Still s0 (decideAbort reason voter s) := by
  unfold decideAbort
  repeat (first | with_reducible assumption | with_reducible apply takeAbort_still | with_reducible apply sendCfgAll_still | intro _ | with_reducible apply Still.ite | simp only [Still.upd] | dsimp only | split)

theorem takeVote_still {s0 : State} (src : DevId) (yes : Bool) (reason : Nat) (s : State) (hk : Still s0 s) : Still s0 (takeVote src yes reason s) := by
  unfold takeVote
  repeat (first | with_reducible assumption | with_reducible apply decideAbort_still | with_reducible apply decideCommit_still | intro _ | with_reducible apply Still.ite | simp only [Still.upd] | dsimp only | split)

theorem startVote_still {s0 : State} (head : CommitHead) (s : State) (hk : Still s0 s) : Still s0 (startVote head s) := by
  unfold startVote
  repeat (first | with_reducible assumption | with_reducible apply setCommit_still | intro _ | with_reducible apply Still.ite | simp only [Still.upd] | dsimp only | split)

theorem execCfgStageStart_still {s0 : State} (r : Requester) (v : Nat) (s : State) (hk : Still s0 s) : StillO s0 (execCfgStageStart r v s) := by
  unfold execCfgStageStart
  repeat (first | with_reducible assumption | with_reducible apply StillO.next | with_reducible apply StillO.ite | with_reducible apply startVote_still | with_reducible apply sendCfgAll_still | with_reducible apply takeVote_still | intro _ | with_reducible apply Still.ite | simp only [Still.upd] | dsimp only | split)

theorem execVoteRequestReceive_still {s0 : State} (src : DevId) (epoch : Nat) (head : CommitHead) (digest : Bytes) (s : State) (hk : Still s0 s) : StillO s0 (execVoteRequestReceive src epoch head digest s) := by
  unfold execVoteRequestReceive
  repeat (first | with_reducible assumption | with_reducible apply StillO.next | with_reducible apply StillO.ite | with_reducible apply showEpoch_still | with_reducible apply sendCfg_still | with_reducible apply setCommit_still | intro _ | with_reducible apply Still.ite | simp only [Still.upd] | dsimp only | split)

theorem execVoteReceive_still {s0 : State} (src : DevId) (epoch id : Nat) (yes : Bool) (reason : Nat) (s : State) (hk : Still s0 s) : StillO s0 (execVoteReceive src epoch id yes reason s) := by
  unfold execVoteReceive
  repeat (first | with_reducible assumption | with_reducible apply StillO.next | with_reducible apply StillO.ite | with_reducible apply showEpoch_still | with_reducible apply takeVote_still | intro _ | with_reducible apply Still.ite | simp only [Still.upd] | dsimp only | split)

theorem execVoteDeadline_still {s0 : State} (s : State) (hk : Still s0 s) : StillO s0 (execVoteDeadline s) := by
  unfold execVoteDeadline
  repeat (first | with_reducible assumption | with_reducible apply StillO.next | with_reducible apply StillO.ite | with_reducible apply decideAbort_still | intro _ | with_reducible apply Still.ite | simp only [Still.upd] | dsimp only | split)

theorem bumpEpochs_still {s0 : State} (h : CommitHead) (s : State) (hk : Still s0 s) : Still s0 (bumpEpochs h s) := by
  unfold bumpEpochs
  repeat (first | with_reducible assumption | with_reducible apply Still.foldl | intro _ | with_reducible apply Still.ite | simp only [Still.upd] | dsimp only | split)

theorem applyMap_still {s0 : State} (m : PlacementItem) (s : State) (hk : Still s0 s) : Still s0 (applyMap m s) := by
  unfold applyMap
  repeat (first | with_reducible assumption | with_reducible apply updPart_still | with_reducible apply Still.foldl | intro _ | with_reducible apply Still.ite | simp only [Still.upd] | dsimp only | split)

theorem execAnnouncementReceive_still {s0 : State} (src : DevId) (epoch : Nat) (head : CommitHead) (s : State) (hk : Still s0 s) : StillO s0 (execAnnouncementReceive src epoch head s) := by
  unfold execAnnouncementReceive
  repeat (first | with_reducible assumption | with_reducible apply StillO.next | with_reducible apply StillO.ite | with_reducible apply showEpoch_still | with_reducible apply passOn_still | with_reducible apply bumpEpochs_still | intro _ | with_reducible apply Still.ite | simp only [Still.upd] | dsimp only | split)

theorem execFencedQuery_still {s0 : State} (s : State) (hk : Still s0 s) : StillO s0 (execFencedQuery s) := by
  unfold execFencedQuery
  repeat (first | with_reducible assumption | with_reducible apply StillO.next | with_reducible apply StillO.ite | with_reducible apply sendCfgAll_still | intro _ | with_reducible apply Still.ite | simp only [Still.upd] | dsimp only | split)

theorem sendRefuse_still {s0 : State} (d : DevId) (p : PartId) (reason : Nat) (k : Packet) (s : State) (hk : Still s0 s) : Still s0 (sendRefuse d p reason k s) := by
  unfold sendRefuse
  repeat (first | with_reducible assumption | with_reducible apply sendTo_still | with_reducible apply cntPart64_still | intro _ | with_reducible apply Still.ite | simp only [Still.upd] | dsimp only | split)

theorem judgeEpoch_still {s0 t : State} {v : Bool} {src : DevId} {e dt : Nat} {s : State} (e : judgeEpoch src e dt s = (v, t)) (hk : Still s0 s) : Still s0 t := by
  unfold judgeEpoch at e
  (try dsimp only at e)
  repeat' split at e
  all_goals (try cases e)
  all_goals repeat (first | with_reducible assumption | with_reducible apply showEpoch_still | with_reducible apply cntDev_still | intro _ | with_reducible apply Still.ite | with_reducible apply Still.iteSnd | with_reducible apply Still.iteFst | simp only [Still.upd] | dsimp only | split)

theorem judgeEpoch_snd_still {s0 : State} (src : DevId) (e dt : Nat) (s : State) (hk : Still s0 s) : Still s0 (judgeEpoch src e dt s).2 :=
  judgeEpoch_still (Prod.eta _).symm hk

theorem refuseEpoch_still {s0 : State} (src : DevId) (p : PartId) (e : Nat) (k : Packet) (source : Nat) (quiet : Bool) (s : State) (hk : Still s0 s) : Still s0 (refuseEpoch src p e k source quiet s) := by
  unfold refuseEpoch
  repeat (first | with_reducible assumption | with_reducible apply cntDev_still | with_reducible apply record_still | with_reducible apply sendRefuse_still | with_reducible apply sendCfg_still | intro _ | with_reducible apply Still.ite | simp only [Still.upd] | dsimp only | split)

theorem stepLoses_still {s0 : State} (h : Nat) (d : DevId) (s : State) (hk : Still s0 s) : Still s0 (stepLoses h d s) := by
  unfold stepLoses
  repeat (first | with_reducible assumption | with_reducible apply updComm_still | with_reducible apply loseMember_still | intro _ | with_reducible apply Still.ite | simp only [Still.upd] | dsimp only | split)

theorem endAborted_still {s0 : State} (h : Nat) (s : State) (hk : Still s0 s) : Still s0 (endAborted h s) := by
  unfold endAborted
  repeat (first | with_reducible assumption | with_reducible apply cmdFail_still | with_reducible apply updPart_still | intro _ | with_reducible apply Still.ite | simp only [Still.upd] | dsimp only | split)

theorem raiseAbort_still {s0 : State} (h code : Nat) (dev : DevId) (s : State) (hk : Still s0 s) : Still s0 (raiseAbort h code dev s) := by
  unfold raiseAbort
  repeat (first | with_reducible assumption | with_reducible apply endAborted_still | with_reducible apply abortComm_still | intro _ | with_reducible apply Still.ite | simp only [Still.upd] | dsimp only | split)

theorem recordLoss_still {s0 : State} (h : Nat) (p : PartId) (d : DevId) (s : State) (hk : Still s0 s) : Still s0 (recordLoss h p d s) := by
  unfold recordLoss
  repeat (first | with_reducible assumption | with_reducible apply record_still | intro _ | with_reducible apply Still.ite | simp only [Still.upd] | dsimp only | split)

theorem loseFrom_still {s0 : State} (h : Nat) (d : DevId) (s : State) (hk : Still s0 s) : Still s0 (loseFrom h d s) := by
  unfold loseFrom
  repeat (first | with_reducible assumption | with_reducible apply recordLoss_still | with_reducible apply updComm_still | with_reducible apply abortComm_still | with_reducible apply markUnreachable_still | with_reducible apply endAborted_still | with_reducible apply stepLoses_still | intro _ | with_reducible apply Still.ite | simp only [Still.upd] | dsimp only | split)

theorem loseLate_still {s0 : State} (h : Nat) (d : DevId) (s : State) (hk : Still s0 s) : Still s0 (loseLate h d s) := by
  unfold loseLate
  repeat (first | with_reducible assumption | with_reducible apply updComm_still | with_reducible apply recordLoss_still | with_reducible apply stepLoses_still | with_reducible apply markUnreachable_still | intro _ | with_reducible apply Still.ite | simp only [Still.upd] | dsimp only | split)

theorem lostMember_still {s0 : State} (h : Nat) (d : DevId) (s : State) (hk : Still s0 s) : Still s0 (lostMember h d s) := by
  unfold lostMember
  repeat (first | with_reducible assumption | with_reducible apply loseFrom_still | with_reducible apply loseLate_still | intro _ | with_reducible apply Still.ite | simp only [Still.upd] | dsimp only | split)

theorem epochLoses_still {s0 : State} (d : DevId) (p : PartId) (e : Nat) (s : State) (hk : Still s0 s) : Still s0 (epochLoses d p e s) := by
  unfold epochLoses
  repeat (first | with_reducible assumption | with_reducible apply eachOf_still | with_reducible apply updComm_still | with_reducible apply lostMember_still | intro _ | with_reducible apply Still.ite | with_reducible apply Still.iteSnd | with_reducible apply Still.iteFst | simp only [Still.upd] | dsimp only | split)

theorem judgePart_still {s0 t : State} {d : DevId} {p : PartId} {e : Nat} {s : State} (e : judgePart d p e s = some t) (hk : Still s0 s) : Still s0 t := by
  unfold judgePart at e
  (try dsimp only at e)
  repeat' split at e
  all_goals (try cases e)
  all_goals repeat (first | with_reducible assumption | with_reducible refine seeEpoch_still (by with_reducible assumption) ?_ | with_reducible apply epochLoses_still | with_reducible apply reissueTo_still | intro _ | with_reducible apply Still.ite | simp only [Still.upd] | dsimp only | split)

theorem runXfr_start_still {s0 : State} (p : PartId) (op : Nat) (bd : Bytes → State → State) (s : State)
    (hb : ∀ x t, Still s0 t → Still s0 (bd x t)) (hk : Still s0 s) : Still s0 (runXfr.start p op bd s) := by
  unfold runXfr.start
  split
  · exact hb _ _ (takeCmd_still (by assumption) hk)
  · exact takeCmd_still (by assumption) hk

theorem runXfr_still {s0 : State} (p : PartId) (op : Nat) (bd more : Bytes → State → State) (s : State)
    (hb : ∀ x t, Still s0 t → Still s0 (bd x t)) (hm : ∀ x t, Still s0 t → Still s0 (more x t)) (hk : Still s0 s) :
    Still s0 (runXfr p op bd more s) := by
  unfold runXfr
  split
  · split
    · exact hm _ _ hk
    · exact runXfr_start_still p op bd s hb hk
  · exact runXfr_start_still p op bd s hb hk

theorem setXfrAt_still {s0 : State} (p : PartId) (n : Nat) (s : State) (hk : Still s0 s) : Still s0 (setXfrAt p n s) := by
  unfold setXfrAt
  repeat (first | with_reducible assumption | with_reducible apply updExec_still | intro _ | with_reducible apply Still.ite | simp only [Still.upd] | dsimp only | split)

theorem hostWrite_still {s0 : State} (p : PartId) (kind : HostWriteKind) (addr : Nat) (b : Bytes) (s : State) (hk : Still s0 s) : Still s0 (hostWrite p kind addr b s) := by
  unfold hostWrite
  repeat (first | with_reducible assumption | with_reducible apply dmaPush_still | intro _ | with_reducible apply Still.ite | simp only [Still.upd] | dsimp only | split)

theorem takeSlot_still {s0 : State} (p : PartId) (d : Bytes) (m : Model) (i slot : Nat) (s : State) (hk : Still s0 s) : Still s0 (takeSlot p d m i slot s) := by
  unfold takeSlot
  repeat (first | with_reducible assumption | with_reducible apply updSlot_still | with_reducible apply hostRead_still | with_reducible apply setXfrAt_still | intro _ | with_reducible apply Still.ite | simp only [Still.upd] | dsimp only | split)

theorem takeSlots_still {s0 : State} (p : PartId) (d : Bytes) (m : Model) (base : Nat) : ∀ (x0 : List Nat) (s : State), Still s0 s → Still s0 (takeSlots p d m base x0 s)
  | [], s, h => by
    unfold takeSlots
    repeat (first | with_reducible assumption | with_reducible apply takeSlot_still | with_reducible apply cmdFail_still | intro _ | with_reducible apply Still.ite | simp only [Still.upd] | dsimp only | split)
  | i :: rest, s, h => by
    unfold takeSlots
    repeat (first | with_reducible assumption | with_reducible apply takeSlots_still | with_reducible apply takeSlot_still | with_reducible apply cmdFail_still | intro _ | with_reducible apply Still.ite | simp only [Still.upd] | dsimp only | split)

theorem tokensInEnd_still {s0 : State} (p : PartId) (d : Bytes) (s : State) (hk : Still s0 s) : Still s0 (tokensInEnd p d s) := by
  unfold tokensInEnd
  repeat (first | with_reducible assumption | with_reducible apply cmdDone_still | with_reducible apply updJob_still | intro _ | with_reducible apply Still.ite | simp only [Still.upd] | dsimp only | split)

theorem tokensIn_still {s0 : State} (p : PartId) (d : Bytes) (s : State) (hk : Still s0 s) : Still s0 (tokensIn p d s) := by
  unfold tokensIn
  repeat (first | with_reducible assumption | with_reducible apply cmdFail_still | with_reducible apply takeSlots_still | with_reducible apply tokensInEnd_still | intro _ | with_reducible apply Still.ite | simp only [Still.upd] | dsimp only | split)

theorem execXfrTokensIn_still {s0 : State} (p : PartId) (s : State) (hk : Still s0 s) : StillO s0 (execXfrTokensIn p s) := by
  unfold execXfrTokensIn
  repeat (first | with_reducible assumption | with_reducible apply StillO.next | with_reducible apply StillO.ite | with_reducible apply runXfr_still | with_reducible apply tokensIn_still | intro _ | with_reducible apply Still.ite | simp only [Still.upd] | dsimp only | split)

theorem recordIntervals_still {s0 : State} (p : PartId) (s : State) (hk : Still s0 s) : Still s0 (recordIntervals p s) := by
  unfold recordIntervals
  repeat (first | with_reducible assumption | with_reducible apply updPart_still | with_reducible apply Still.foldl | intro _ | with_reducible apply Still.ite | with_reducible apply Still.iteSnd | with_reducible apply Still.iteFst | simp only [Still.upd] | dsimp only | split)

theorem outsideMarks_still {s0 : State} (p : PartId) (d : Bytes) (s : State) (hk : Still s0 s) : Still s0 (outsideMarks p d s) := by
  unfold outsideMarks
  repeat (first | with_reducible assumption | with_reducible apply outside_still | intro _ | with_reducible apply Still.ite | simp only [Still.upd] | dsimp only | split)

theorem recordMarks_still {s0 : State} (p : PartId) (d : Bytes) (s : State) (hk : Still s0 s) : Still s0 (recordMarks p d s) := by
  unfold recordMarks
  repeat (first | with_reducible assumption | with_reducible apply cntPart_still | with_reducible apply updJob_still | with_reducible apply deadlineMiss_still | with_reducible apply outsideMarks_still | intro _ | with_reducible apply Still.ite | simp only [Still.upd] | dsimp only | split)

theorem recordCounts_still {s0 : State} (p : PartId) (s : State) (hk : Still s0 s) : Still s0 (recordCounts p s) := by
  unfold recordCounts
  repeat (first | with_reducible assumption | with_reducible apply cntPart64_still | with_reducible apply updPart_still | with_reducible apply cntPart_still | with_reducible apply recordIntervals_still | intro _ | with_reducible apply Still.ite | simp only [Still.upd] | dsimp only | split)

theorem tokensOutRows_still {s0 : State} (p : PartId) (d : Bytes) (s : State) (hk : Still s0 s) : Still s0 (tokensOutRows p d s) := by
  unfold tokensOutRows
  repeat (first | with_reducible assumption | with_reducible apply cmdFail_still | with_reducible apply eachOf_still | with_reducible apply hostWrite_still | with_reducible apply setXfrAt_still | with_reducible apply cntPart64_still | intro _ | with_reducible apply Still.ite | simp only [Still.upd] | dsimp only | split)

theorem recordIssued_still {s0 : State} (p : PartId) (s : State) (hk : Still s0 s) : Still s0 (recordIssued p s) := by
  unfold recordIssued
  repeat (first | with_reducible assumption | with_reducible apply record_still | with_reducible apply cmdDone_still | intro _ | with_reducible apply Still.ite | simp only [Still.upd] | dsimp only | split)

theorem tokensOutRecord_still {s0 : State} (p : PartId) (d : Bytes) (s : State) (hk : Still s0 s) : Still s0 (tokensOutRecord p d s) := by
  unfold tokensOutRecord
  repeat (first | with_reducible assumption | with_reducible apply recordMarks_still | with_reducible apply recordCounts_still | with_reducible apply cmdDone_still | with_reducible apply updPart_still | with_reducible apply setXfrAt_still | with_reducible apply record_still | with_reducible apply recordIssued_still | with_reducible apply settleReleased_still | with_reducible apply issueRecord_still | intro _ | with_reducible apply Still.ite | simp only [Still.upd] | dsimp only | split)

theorem heldRecord_still {s0 : State} (p : PartId) (s : State) (hk : Still s0 s) : Still s0 (heldRecord p s) := by
  unfold heldRecord
  repeat (first | with_reducible assumption | with_reducible apply wakeEvent_still | with_reducible apply updExec_still | intro _ | with_reducible apply Still.ite | simp only [Still.upd] | dsimp only | split)

theorem tokensOut_still {s0 : State} (p : PartId) (d : Bytes) (s : State) (hk : Still s0 s) : Still s0 (tokensOut p d s) := by
  unfold tokensOut
  repeat (first | with_reducible assumption | with_reducible apply tokensOutRows_still | with_reducible apply heldRecord_still | with_reducible apply recordIssued_still | with_reducible apply outsideMarks_still | with_reducible apply dualStart_still | with_reducible apply setXfrAt_still | with_reducible apply updPart_still | with_reducible apply dmaPush_still | with_reducible apply tokensOutRecord_still | intro _ | with_reducible apply Still.ite | simp only [Still.upd] | dsimp only | split)

theorem execXfrTokensOut_still {s0 : State} (p : PartId) (s : State) (hk : Still s0 s) : StillO s0 (execXfrTokensOut p s) := by
  unfold execXfrTokensOut
  repeat (first | with_reducible assumption | with_reducible apply StillO.next | with_reducible apply StillO.ite | with_reducible apply runXfr_still | with_reducible apply tokensOut_still | intro _ | with_reducible apply Still.ite | simp only [Still.upd] | dsimp only | split)

theorem copyArrive_still {s0 : State} (p : PartId) (off : Nat) (b : Bytes) (bad : Bool) (s : State) (hk : Still s0 s) : Still s0 (copyArrive p off b bad s) := by
  unfold copyArrive
  repeat (first | with_reducible assumption | with_reducible apply writeCells_still | with_reducible apply setXfrAt_still | intro _ | with_reducible apply Still.ite | simp only [Still.upd] | dsimp only | split)

theorem copyStart_still {s0 : State} (p : PartId) (d : Bytes) (s : State) (hk : Still s0 s) : Still s0 (copyStart p d s) := by
  unfold copyStart
  repeat (first | with_reducible assumption | with_reducible apply cmdFail_still | with_reducible apply hostRead_still | with_reducible apply updExec_still | with_reducible apply chargeRead_still | with_reducible apply record_still | with_reducible apply hostWrite_still | with_reducible apply cmdDone_still | with_reducible apply copyElems_still | with_reducible apply touchTd_still | intro _ | with_reducible apply Still.ite | with_reducible apply Still.iteSnd | with_reducible apply Still.iteFst | simp only [Still.upd] | dsimp only | split)

theorem copyMore_still {s0 : State} (p : PartId) (d : Bytes) (s : State) (hk : Still s0 s) : Still s0 (copyMore p d s) := by
  unfold copyMore
  repeat (first | with_reducible assumption | with_reducible apply cmdDone_still | intro _ | with_reducible apply Still.ite | simp only [Still.upd] | dsimp only | split)

theorem execXfrCopy_still {s0 : State} (p : PartId) (s : State) (hk : Still s0 s) : StillO s0 (execXfrCopy p s) := by
  unfold execXfrCopy
  repeat (first | with_reducible assumption | with_reducible apply StillO.next | with_reducible apply StillO.ite | with_reducible apply runXfr_still | with_reducible apply copyStart_still | with_reducible apply copyMore_still | intro _ | with_reducible apply Still.ite | simp only [Still.upd] | dsimp only | split)

theorem tdWriteAt_still {s0 : State} (p : PartId) (t : Bytes) (off : Nat) (b : Bytes) (s : State) (hk : Still s0 s) : Still s0 (tdWriteAt p t off b s) := by
  unfold tdWriteAt
  repeat (first | with_reducible assumption | with_reducible apply writeCells_still | intro _ | with_reducible apply Still.ite | simp only [Still.upd] | dsimp only | split)

theorem writeResult_still {s0 : State} (p : PartId) (v : ColView) (k : Nat) (b : Bytes) (s : State) (hk : Still s0 s) : Still s0 (writeResult p v k b s) := by
  unfold writeResult
  repeat (first | with_reducible assumption | with_reducible apply tdWriteAt_still | intro _ | with_reducible apply Still.ite | with_reducible apply Still.iteSnd | with_reducible apply Still.iteFst | simp only [Still.upd] | dsimp only | split)

theorem updRun_still {s0 : State} (p : PartId) (f : ColRun → ColRun) (s : State) (hk : Still s0 s) : Still s0 (updRun p f s) := by
  unfold updRun
  repeat (first | with_reducible assumption | with_reducible apply updPart_still | intro _ | with_reducible apply Still.ite | simp only [Still.upd] | dsimp only | split)

theorem updChunk_still {s0 : State} (p : PartId) (k : Nat) (f : ChunkSt → ChunkSt) (s : State) (hk : Still s0 s) : Still s0 (updChunk p k f s) := by
  unfold updChunk
  repeat (first | with_reducible assumption | with_reducible apply updRun_still | intro _ | with_reducible apply Still.ite | simp only [Still.upd] | dsimp only | split)

theorem sendChunk_still {s0 : State} (p : PartId) (v : ColView) (o : ChunkOut) (retx : Bool) (s : State) (hk : Still s0 s) : Still s0 (sendChunk p v o retx s) := by
  unfold sendChunk
  repeat (first | with_reducible assumption | with_reducible apply updComm_still | with_reducible apply eachOf_still | with_reducible apply sendPiece_still | intro _ | with_reducible apply Still.ite | with_reducible apply Still.iteSnd | with_reducible apply Still.iteFst | simp only [Still.upd] | dsimp only | split)

theorem sendMsg_still {s0 : State} (p : PartId) (v : ColView) (k : Nat) (o : ChunkOut) (s : State) (hk : Still s0 s) : Still s0 (sendMsg p v k o s) := by
  unfold sendMsg
  repeat (first | with_reducible assumption | with_reducible apply sendChunk_still | with_reducible apply updChunk_still | intro _ | with_reducible apply Still.ite | simp only [Still.upd] | dsimp only | split)

theorem answerChunk_still {s0 : State} (p : PartId) (x : Piece) (kind : Nat) (s : State) (hk : Still s0 s) : Still s0 (answerChunk p x kind s) := by
  unfold answerChunk
  repeat (first | with_reducible assumption | with_reducible apply sendPiece_still | intro _ | with_reducible apply Still.ite | simp only [Still.upd] | dsimp only | split)

theorem noteLag_still {s0 : State} (v : ColView) (ownDt : Nat) (ins : List ChunkIn) (s : State) (hk : Still s0 s) : Still s0 (noteLag v ownDt ins s) := by
  unfold noteLag
  repeat (first | with_reducible assumption | with_reducible apply updComm_still | with_reducible apply Still.foldl | intro _ | with_reducible apply Still.ite | simp only [Still.upd] | dsimp only | split)

theorem chunkResult_still {s0 : State} (p : PartId) (v : ColView) (k : Nat) (acc : Bytes) (s : State) (hk : Still s0 s) : Still s0 (chunkResult p v k acc s) := by
  unfold chunkResult
  repeat (first | with_reducible assumption | with_reducible apply eachOf_still | with_reducible apply sendMsg_still | with_reducible apply updChunk_still | with_reducible apply writeResult_still | intro _ | with_reducible apply Still.ite | simp only [Still.upd] | dsimp only | split)

theorem enterRound_still {s0 : State} (p : PartId) (v : ColView) (k r : Nat) (acc : Bytes) (s : State) (hk : Still s0 s) : Still s0 (enterRound p v k r acc s) := by
  unfold enterRound
  repeat (first | with_reducible assumption | with_reducible apply sendMsg_still | with_reducible apply updChunk_still | with_reducible apply chunkResult_still | intro _ | with_reducible apply Still.ite | simp only [Still.upd] | dsimp only | split)

theorem broadcastOn_still {s0 : State} (p : PartId) (v : ColView) (k : Nat) (acc : Bytes) (s : State) (hk : Still s0 s) : Still s0 (broadcastOn p v k acc s) := by
  unfold broadcastOn
  repeat (first | with_reducible assumption | with_reducible apply eachOf_still | with_reducible apply sendMsg_still | with_reducible apply chunkResult_still | intro _ | with_reducible apply Still.ite | simp only [Still.upd] | dsimp only | split)

theorem chunkGathered_still {s0 : State} (p : PartId) (v : ColView) (c : ChunkSt) (s : State) (hk : Still s0 s) : Still s0 (chunkGathered p v c s) := by
  unfold chunkGathered
  repeat (first | with_reducible assumption | with_reducible apply updChunk_still | with_reducible apply broadcastOn_still | with_reducible apply sendMsg_still | with_reducible apply enterRound_still | with_reducible apply Still.foldl | intro _ | with_reducible apply Still.ite | with_reducible apply Still.iteSnd | with_reducible apply Still.iteFst | simp only [Still.upd] | dsimp only | split)

theorem chunkStep_still {s0 t : State} {p : PartId} {v : ColView} {c : ChunkSt} {s : State} (e : chunkStep p v c s = some t) (hk : Still s0 s) : Still s0 t := by
  unfold chunkStep at e
  (try dsimp only at e)
  repeat' split at e
  all_goals (try cases e)
  all_goals repeat (first | with_reducible assumption | with_reducible apply noteLag_still | with_reducible apply chunkGathered_still | with_reducible apply chunkResult_still | with_reducible apply enterRound_still | with_reducible apply broadcastOn_still | with_reducible apply writeResult_still | with_reducible apply updChunk_still | with_reducible apply Still.foldl | intro _ | with_reducible apply Still.ite | simp only [Still.upd] | dsimp only | split)

theorem openChunk_still {s0 : State} (p : PartId) (v : ColView) (s : State) (hk : Still s0 s) : Still s0 (openChunk p v s) := by
  unfold openChunk
  repeat (first | with_reducible assumption | with_reducible apply updRun_still | with_reducible apply sendMsg_still | with_reducible apply cntPart_still | with_reducible apply Still.foldl | intro _ | with_reducible apply Still.ite | with_reducible apply Still.iteSnd | with_reducible apply Still.iteFst | simp only [Still.upd] | dsimp only | split)

theorem failSource_still {s0 : State} (p : PartId) (v : ColView) (e : CmdErr) (s : State) (hk : Still s0 s) : Still s0 (failSource p v e s) := by
  unfold failSource
  repeat (first | with_reducible assumption | with_reducible apply cmdFail_still | with_reducible apply abortComm_still | with_reducible apply updPart_still | intro _ | with_reducible apply Still.ite | simp only [Still.upd] | dsimp only | split)

theorem colStep_still {s0 t : State} {p : PartId} {s : State} (e : colStep p s = some t) (h : Still s0 s) : Still s0 t := by
  unfold colStep at e
  split at e
  · cases e
  · split at e
    · cases e
      exact failSource_still _ _ _ _ h
    · split at e
      · cases e
        have w := ‹List.findSome? _ _ = some _›
        obtain ⟨c, _, hc⟩ := List.exists_of_findSome?_eq_some w
        exact chunkStep_still hc h
      · dsimp only at e
        repeat' split at e
        all_goals (try cases e)
        all_goals repeat (first | with_reducible assumption | with_reducible apply updRun_still | with_reducible apply openChunk_still | with_reducible apply updComm_still | with_reducible apply cmdDone_still | with_reducible apply updPart_still | simp only [Still.upd] | dsimp only)

theorem setReasm_still {s0 : State} (x : Piece) (r : Option Reasm) (s : State) (hk : Still s0 s) : Still s0 (setReasm x r s) := by
  unfold setReasm
  repeat (first | with_reducible assumption | intro _ | with_reducible apply Still.ite | simp only [Still.upd] | dsimp only | split)

theorem takeChunk_still {s0 : State} (p : PartId) (v : ColView) (x : Piece) (dt : Nat) (data : Bytes) (s : State) (hk : Still s0 s) : Still s0 (takeChunk p v x dt data s) := by
  unfold takeChunk
  repeat (first | with_reducible assumption | with_reducible apply tdWriteAt_still | with_reducible apply updRun_still | with_reducible apply updChunk_still | with_reducible apply Still.foldl | intro _ | with_reducible apply Still.ite | simp only [Still.upd] | dsimp only | split)

theorem checkChunk_still {s0 : State} (p : PartId) (v : ColView) (x : Piece) (dt len : Nat) (s : State) (hk : Still s0 s) : Still s0 (checkChunk p v x dt len s) := by
  unfold checkChunk
  repeat (first | with_reducible assumption | with_reducible apply answerChunk_still | with_reducible apply takeChunk_still | with_reducible apply setReasm_still | with_reducible apply raiseAbort_still | with_reducible apply cntPart_still | intro _ | with_reducible apply Still.ite | simp only [Still.upd] | dsimp only | split)

theorem dataNow_still {s0 : State} (x : Piece) (dt : Nat) (s : State) (hk : Still s0 s) : Still s0 (dataNow x dt s) := by
  unfold dataNow
  repeat (first | with_reducible assumption | with_reducible apply raiseAbort_still | with_reducible apply checkChunk_still | with_reducible apply setReasm_still | intro _ | with_reducible apply Still.ite | with_reducible apply Still.iteSnd | with_reducible apply Still.iteFst | simp only [Still.upd] | dsimp only | split)

theorem dataBad_still {s0 : State} (x : Piece) (dt : Nat) (s : State) (hk : Still s0 s) : Still s0 (dataBad x dt s) := by
  unfold dataBad
  repeat (first | with_reducible assumption | with_reducible apply checkChunk_still | with_reducible apply setReasm_still | intro _ | with_reducible apply Still.ite | simp only [Still.upd] | dsimp only | split)

theorem notPresent_still {s0 : State} (x : Piece) (s : State) (hk : Still s0 s) : Still s0 (notPresent x s) := by
  unfold notPresent
  repeat (first | with_reducible assumption | with_reducible apply sendPiece_still | intro _ | with_reducible apply Still.ite | simp only [Still.upd] | dsimp only | split)

theorem dataPiece_still {s0 t : State} {v : Bool} {src : DevId} {path : Path} {dt : Nat} {b : Bytes} {x : Piece} {s : State} (e : dataPiece src path dt b x s = (v, t)) (hk : Still s0 s) : Still s0 t := by
  unfold dataPiece at e
  (try dsimp only at e)
  repeat' split at e
  all_goals (try cases e)
  all_goals repeat (first | with_reducible assumption | with_reducible apply notPresent_still | with_reducible apply leavePool_still | with_reducible apply answerChunk_still | with_reducible apply dataNow_still | intro _ | with_reducible apply Still.ite | simp only [Still.upd] | dsimp only | split)

theorem dataPiece_snd_still {s0 : State} (src : DevId) (path : Path) (dt : Nat) (b : Bytes) (x : Piece) (s : State) (hk : Still s0 s) : Still s0 (dataPiece src path dt b x s).2 :=
  dataPiece_still (Prod.eta _).symm hk

theorem takeWaiting_still {s0 t : State} : ∀ (w : List (DevId × Path × Nat × Bytes)) (done : List (DevId × Path × Nat × Bytes)) (s : State),
    takeWaiting done w s = some t → Still s0 s → Still s0 t
  | [], done, s, e, h => by
    unfold takeWaiting at e
    cases e
  | x :: w, done, s, e, h => by
    unfold takeWaiting at e
    dsimp only at e
    split at e
    · split at e
      · exact takeWaiting_still w _ s e h
      · cases e
        refine dataBad_still _ _ _ ?_
        simpa only [Still.upd] using h
    · split at e
      · exact takeWaiting_still w _ s e h
      · cases e
        refine dataPiece_snd_still _ _ _ _ _ _ ?_
        simpa only [Still.upd] using h

end Sys2Proof.Laws
end

