-- ==== Sys2Proof/Laws/Still4.lean ====
section
/-!
SUPPORT. Still4.lean: what leaves the standing state alone, one lemma per operation, in the order of the definitions (4 of 5).
Still s t: start-up state, pins, fuses and the configuration applied are those of s.
-/
set_option linter.all false
namespace Sys2Proof.Laws
open Sys2Proof Sys2Proof.Machine Sys2Proof.Safety

theorem colLoop_still {s0 : State} (p : PartId) : ∀ (n : Nat) (s : State), Still s0 s → Still s0 (colLoop p n s)
  | 0, s, h => by
    unfold colLoop
    repeat (first | with_reducible assumption | with_reducible refine colStep_still (by with_reducible assumption) ?_ | with_reducible refine takeWaiting_still (by with_reducible assumption) ?_ | intro _ | with_reducible apply Still.ite | simp only [Still.upd] | dsimp only | split)
  | n + 1, s, h => by
    unfold colLoop
    repeat (first | with_reducible assumption | with_reducible apply colLoop_still | with_reducible refine takeWaiting_still _ _ _ (by with_reducible assumption) ?_ | with_reducible refine colStep_still (by with_reducible assumption) ?_ | with_reducible refine takeWaiting_still (by with_reducible assumption) ?_ | intro _ | with_reducible apply Still.ite | simp only [Still.upd] | dsimp only | split)

theorem colSettle_still {s0 : State} (p : PartId) (s : State) (hk : Still s0 s) : Still s0 (colSettle p s) := by
  unfold colSettle
  repeat (first | with_reducible assumption | with_reducible apply colLoop_still | intro _ | with_reducible apply Still.ite | simp only [Still.upd] | dsimp only | split)

theorem becomeActive_still {s0 : State} (h : Nat) (s : State) (hk : Still s0 s) : Still s0 (becomeActive h s) := by
  unfold becomeActive
  repeat (first | with_reducible assumption | with_reducible apply updComm_still | with_reducible apply cmdDone_still | with_reducible apply updStream_still | intro _ | with_reducible apply Still.ite | with_reducible apply Still.iteSnd | with_reducible apply Still.iteFst | simp only [Still.upd] | dsimp only | split)

theorem sendReady_still {s0 : State} (c : Comm) (ds : List DevId) (s : State) (hk : Still s0 s) : Still s0 (sendReady c ds s) := by
  unfold sendReady
  repeat (first | with_reducible assumption | with_reducible apply eachOf_still | with_reducible apply sendPiece_still | intro _ | with_reducible apply Still.ite | simp only [Still.upd] | dsimp only | split)

theorem takeReady_still {s0 : State} (h : Nat) (s : State) (hk : Still s0 s) : Still s0 (takeReady h s) := by
  unfold takeReady
  repeat (first | with_reducible assumption | with_reducible apply becomeActive_still | with_reducible apply sendReady_still | intro _ | with_reducible apply Still.ite | simp only [Still.upd] | dsimp only | split)

theorem joinSettle_still {s0 : State} (h : Nat) (s : State) (hk : Still s0 s) : Still s0 (joinSettle h s) := by
  unfold joinSettle
  repeat (first | with_reducible assumption | with_reducible apply sendPiece_still | with_reducible apply updComm_still | with_reducible apply takeReady_still | with_reducible apply sendReady_still | intro _ | with_reducible apply Still.ite | simp only [Still.upd] | dsimp only | split)

theorem createFails_still {s0 : State} (p : PartId) (ct status : Nat) (s : State) (hk : Still s0 s) : Still s0 (createFails p ct status s) := by
  unfold createFails
  repeat (first | with_reducible assumption | with_reducible apply cmdDone_still | with_reducible apply updStream_still | intro _ | with_reducible apply Still.ite | simp only [Still.upd] | dsimp only | split)

theorem startCreate_still {s0 : State} (p : PartId) (d : Bytes) (m : List DevId) (s : State) (hk : Still s0 s) : Still s0 (startCreate p d m s) := by
  unfold startCreate
  repeat (first | with_reducible assumption | with_reducible apply createFails_still | with_reducible apply updExec_still | with_reducible apply setComm_still | with_reducible apply joinSettle_still | with_reducible apply sendPiece_still | intro _ | with_reducible apply Still.ite | with_reducible apply Still.iteSnd | with_reducible apply Still.iteFst | simp only [Still.upd] | dsimp only | split)

theorem execColCommCreate_still {s0 : State} (p : PartId) (s : State) (hk : Still s0 s) : StillO s0 (execColCommCreate p s) := by
  unfold execColCommCreate
  repeat (first | with_reducible assumption | with_reducible apply StillO.next | with_reducible apply StillO.ite | with_reducible apply runCmd_still | with_reducible apply cmdFail_still | with_reducible apply startCreate_still | with_reducible apply chargeRead_still | intro _ | with_reducible apply Still.ite | with_reducible apply Still.iteSnd | with_reducible apply Still.iteFst | simp only [Still.upd] | dsimp only | split)

theorem execColCommDestroy_still {s0 : State} (p : PartId) (s : State) (hk : Still s0 s) : StillO s0 (execColCommDestroy p s) := by
  unfold execColCommDestroy
  repeat (first | with_reducible assumption | with_reducible apply StillO.next | with_reducible apply StillO.ite | with_reducible apply runCmd_still | with_reducible apply cmdFail_still | with_reducible apply cmdDone_still | with_reducible apply setComm_still | intro _ | with_reducible apply Still.ite | simp only [Still.upd] | dsimp only | split)

theorem beginRun_still {s0 : State} (p : PartId) (r : ColRun) (s : State) (hk : Still s0 s) : Still s0 (beginRun p r s) := by
  unfold beginRun
  repeat (first | with_reducible assumption | with_reducible apply updPart_still | with_reducible apply updRun_still | with_reducible apply touchTd_still | with_reducible apply tdWriteAt_still | with_reducible apply colSettle_still | with_reducible apply Still.foldl | intro _ | with_reducible apply Still.ite | simp only [Still.upd] | dsimp only | split)

theorem colStart_still {s0 : State} (p : PartId) (op : Nat) (d : Bytes) (s : State) (hk : Still s0 s) : Still s0 (colStart p op d s) := by
  unfold colStart
  repeat (first | with_reducible assumption | with_reducible apply cmdFail_still | with_reducible apply abortComm_still | with_reducible apply beginRun_still | intro _ | with_reducible apply Still.ite | simp only [Still.upd] | dsimp only | split)

theorem execColAllreduce_still {s0 : State} (p : PartId) (s : State) (hk : Still s0 s) : StillO s0 (execColAllreduce p s) := by
  unfold execColAllreduce
  repeat (first | with_reducible assumption | with_reducible apply StillO.next | with_reducible apply StillO.ite | with_reducible apply runCmd_still | with_reducible apply colStart_still | intro _ | with_reducible apply Still.ite | simp only [Still.upd] | dsimp only | split)

theorem execColAllgather_still {s0 : State} (p : PartId) (s : State) (hk : Still s0 s) : StillO s0 (execColAllgather p s) := by
  unfold execColAllgather
  repeat (first | with_reducible assumption | with_reducible apply StillO.next | with_reducible apply StillO.ite | with_reducible apply runCmd_still | with_reducible apply colStart_still | intro _ | with_reducible apply Still.ite | simp only [Still.upd] | dsimp only | split)

theorem execColReducescatter_still {s0 : State} (p : PartId) (s : State) (hk : Still s0 s) : StillO s0 (execColReducescatter p s) := by
  unfold execColReducescatter
  repeat (first | with_reducible assumption | with_reducible apply StillO.next | with_reducible apply StillO.ite | with_reducible apply runCmd_still | with_reducible apply colStart_still | intro _ | with_reducible apply Still.ite | simp only [Still.upd] | dsimp only | split)

theorem execColBroadcast_still {s0 : State} (p : PartId) (s : State) (hk : Still s0 s) : StillO s0 (execColBroadcast p s) := by
  unfold execColBroadcast
  repeat (first | with_reducible assumption | with_reducible apply StillO.next | with_reducible apply StillO.ite | with_reducible apply runCmd_still | with_reducible apply colStart_still | intro _ | with_reducible apply Still.ite | simp only [Still.upd] | dsimp only | split)

theorem execColBarrier_still {s0 : State} (p : PartId) (s : State) (hk : Still s0 s) : StillO s0 (execColBarrier p s) := by
  unfold execColBarrier
  repeat (first | with_reducible assumption | with_reducible apply StillO.next | with_reducible apply StillO.ite | with_reducible apply runCmd_still | with_reducible apply colStart_still | intro _ | with_reducible apply Still.ite | simp only [Still.upd] | dsimp only | split)

theorem execColAlltoallv_still {s0 : State} (p : PartId) (s : State) (hk : Still s0 s) : StillO s0 (execColAlltoallv p s) := by
  unfold execColAlltoallv
  repeat (first | with_reducible assumption | with_reducible apply StillO.next | with_reducible apply StillO.ite | with_reducible apply runCmd_still | with_reducible apply colStart_still | intro _ | with_reducible apply Still.ite | simp only [Still.upd] | dsimp only | split)

theorem execColBallotMerge_still {s0 : State} (p : PartId) (s : State) (hk : Still s0 s) : StillO s0 (execColBallotMerge p s) := by
  unfold execColBallotMerge
  repeat (first | with_reducible assumption | with_reducible apply StillO.next | with_reducible apply StillO.ite | with_reducible apply runCmd_still | with_reducible apply colStart_still | intro _ | with_reducible apply Still.ite | simp only [Still.upd] | dsimp only | split)

theorem ifActive_still {s0 : State} (x : Piece) (s : State) (hk : Still s0 s) : Still s0 (ifActive x s) := by
  unfold ifActive
  repeat (first | with_reducible assumption | with_reducible apply notPresent_still | intro _ | with_reducible apply Still.ite | simp only [Still.upd] | dsimp only | split)

theorem ackPiece_still {s0 : State} (x : Piece) (s : State) (hk : Still s0 s) : Still s0 (ackPiece x s) := by
  unfold ackPiece
  repeat (first | with_reducible assumption | with_reducible apply updRun_still | intro _ | with_reducible apply Still.ite | simp only [Still.upd] | dsimp only | split)

theorem nackPiece_still {s0 : State} (x : Piece) (s : State) (hk : Still s0 s) : Still s0 (nackPiece x s) := by
  unfold nackPiece
  repeat (first | with_reducible assumption | with_reducible apply sendChunk_still | intro _ | with_reducible apply Still.ite | simp only [Still.upd] | dsimp only | split)

theorem holdJoin_still {s0 : State} (x : Piece) (s : State) (hk : Still s0 s) : Still s0 (holdJoin x s) := by
  unfold holdJoin
  repeat (first | with_reducible assumption | intro _ | with_reducible apply Still.ite | simp only [Still.upd] | dsimp only | split)

theorem joinPiece_still {s0 : State} (x : Piece) (s : State) (hk : Still s0 s) : Still s0 (joinPiece x s) := by
  unfold joinPiece
  repeat (first | with_reducible assumption | with_reducible apply ifActive_still | with_reducible apply joinSettle_still | with_reducible apply holdJoin_still | with_reducible apply notPresent_still | intro _ | with_reducible apply Still.ite | simp only [Still.upd] | dsimp only | split)

theorem readyPiece_still {s0 : State} (x : Piece) (s : State) (hk : Still s0 s) : Still s0 (readyPiece x s) := by
  unfold readyPiece
  repeat (first | with_reducible assumption | with_reducible apply takeReady_still | with_reducible apply ifActive_still | intro _ | with_reducible apply Still.ite | simp only [Still.upd] | dsimp only | split)

theorem abortPiece_still {s0 : State} (x : Piece) (s : State) (hk : Still s0 s) : Still s0 (abortPiece x s) := by
  unfold abortPiece
  repeat (first | with_reducible assumption | with_reducible apply updComm_still | with_reducible apply sendAbort_still | with_reducible apply stepLoses_still | with_reducible apply markUnreachable_still | with_reducible apply endAborted_still | intro _ | with_reducible apply Still.ite | simp only [Still.upd] | dsimp only | split)

theorem probePiece_still {s0 : State} (x : Piece) (s : State) (hk : Still s0 s) : Still s0 (probePiece x s) := by
  unfold probePiece
  repeat (first | with_reducible assumption | with_reducible apply sendPiece_still | with_reducible apply notPresent_still | intro _ | with_reducible apply Still.ite | simp only [Still.upd] | dsimp only | split)

theorem answered_still {s0 : State} (p : PartId) (d : DevId) (s : State) (hk : Still s0 s) : Still s0 (answered p d s) := by
  unfold answered
  repeat (first | with_reducible assumption | with_reducible apply updConj_still | with_reducible apply updRun_still | intro _ | with_reducible apply Still.ite | with_reducible apply Still.iteSnd | with_reducible apply Still.iteFst | simp only [Still.upd] | dsimp only | split)

theorem probeAckPiece_still {s0 : State} (x : Piece) (s : State) (hk : Still s0 s) : Still s0 (probeAckPiece x s) := by
  unfold probeAckPiece
  repeat (first | with_reducible assumption | with_reducible apply answered_still | with_reducible apply loseLate_still | with_reducible apply lostMember_still | intro _ | with_reducible apply Still.ite | with_reducible apply Still.iteSnd | with_reducible apply Still.iteFst | simp only [Still.upd] | dsimp only | split)

theorem deliverPiece_still {s0 : State} (src : DevId) (path : Path) (dt : Nat) (b : Bytes) (x : Piece) (s : State) (hk : Still s0 s) : Still s0 (deliverPiece src path dt b x s) := by
  unfold deliverPiece
  repeat (first | with_reducible assumption | with_reducible refine dataPiece_still (by with_reducible assumption) ?_ | with_reducible apply dataPiece_snd_still | with_reducible apply leavePool_still | with_reducible apply ackPiece_still | with_reducible apply ifActive_still | with_reducible apply nackPiece_still | with_reducible apply joinPiece_still | with_reducible apply readyPiece_still | with_reducible apply abortPiece_still | with_reducible apply probePiece_still | with_reducible apply probeAckPiece_still | with_reducible apply cntPart_still | with_reducible apply colSettle_still | intro _ | with_reducible apply Still.ite | with_reducible apply Still.iteSnd | with_reducible apply Still.iteFst | simp only [Still.upd] | dsimp only | split)

theorem probeMember_still {s0 : State} (p : PartId) (d : DevId) (s : State) (hk : Still s0 s) : Still s0 (probeMember p d s) := by
  unfold probeMember
  repeat (first | with_reducible assumption | with_reducible apply colSettle_still | with_reducible apply loseFrom_still | with_reducible apply updRun_still | with_reducible apply sendPiece_still | intro _ | with_reducible apply Still.ite | with_reducible apply Still.iteSnd | with_reducible apply Still.iteFst | simp only [Still.upd] | dsimp only | split)

theorem execColProbeTimer_still {s0 : State} (p : PartId) (s : State) (hk : Still s0 s) : StillO s0 (execColProbeTimer p s) := by
  unfold execColProbeTimer
  repeat (first | with_reducible assumption | with_reducible apply StillO.next | with_reducible apply StillO.ite | with_reducible apply eachOf_still | with_reducible apply probeMember_still | intro _ | with_reducible apply Still.ite | simp only [Still.upd] | dsimp only | split)

theorem execColProbeTimeout_still {s0 : State} (p : PartId) (dev : DevId) (s : State) (hk : Still s0 s) : StillO s0 (execColProbeTimeout p dev s) := by
  unfold execColProbeTimeout
  repeat (first | with_reducible assumption | with_reducible apply StillO.next | with_reducible apply StillO.ite | with_reducible apply colSettle_still | with_reducible apply loseFrom_still | with_reducible apply lostMember_still | intro _ | with_reducible apply Still.ite | simp only [Still.upd] | dsimp only | split)

theorem createLapse_still {s0 : State} (p : PartId) (h : Nat) (s : State) (hk : Still s0 s) : Still s0 (createLapse p h s) := by
  unfold createLapse
  repeat (first | with_reducible assumption | with_reducible apply setComm_still | with_reducible apply createFails_still | intro _ | with_reducible apply Still.ite | with_reducible apply Still.iteSnd | with_reducible apply Still.iteFst | simp only [Still.upd] | dsimp only | split)

theorem execCommCreateTimeout_still {s0 : State} (p : PartId) (s : State) (hk : Still s0 s) : StillO s0 (execCommCreateTimeout p s) := by
  unfold execCommCreateTimeout
  repeat (first | with_reducible assumption | with_reducible apply StillO.next | with_reducible apply StillO.ite | with_reducible apply eachOf_still | with_reducible apply createLapse_still | intro _ | with_reducible apply Still.ite | simp only [Still.upd] | dsimp only | split)

theorem execColCommandTimeout_still {s0 : State} (p : PartId) (s : State) (hk : Still s0 s) : StillO s0 (execColCommandTimeout p s) := by
  unfold execColCommandTimeout
  repeat (first | with_reducible assumption | with_reducible apply StillO.next | with_reducible apply StillO.ite | with_reducible apply raiseAbort_still | intro _ | with_reducible apply Still.ite | simp only [Still.upd] | dsimp only | split)

theorem execReducerSlotGrant_still {s0 : State} (s : State) (hk : Still s0 s) : StillO s0 (execReducerSlotGrant s) := by
  unfold execReducerSlotGrant
  repeat (first | with_reducible assumption | with_reducible apply StillO.next | with_reducible apply StillO.ite | with_reducible apply colSettle_still | with_reducible apply updChunk_still | intro _ | with_reducible apply Still.ite | with_reducible apply Still.iteSnd | with_reducible apply Still.iteFst | simp only [Still.upd] | dsimp only | split)

theorem refuseBare_still {s0 : State} (k : PortId) (s : State) (hk : Still s0 s) : Still s0 (refuseBare k s) := by
  unfold refuseBare
  repeat (first | with_reducible assumption | with_reducible apply cntPort_still | with_reducible apply record_still | with_reducible apply secLogMerged_still | intro _ | with_reducible apply Still.ite | simp only [Still.upd] | dsimp only | split)

theorem leaveL1_still {s0 : State} (k : PortId) (s : State) (hk : Still s0 s) : Still s0 (leaveL1 k s) := by
  unfold leaveL1
  repeat (first | with_reducible assumption | with_reducible apply updPort_still | intro _ | with_reducible apply Still.ite | simp only [Still.upd] | dsimp only | split)

theorem hostMem_still {s0 t : State} {v : MemGate} {k : PortId} {bare : Bool} {bar0 : Option Nat} {s : State} (e : hostMem k bare bar0 s = (v, t)) (hk : Still s0 s) : Still s0 t := by
  unfold hostMem at e
  (try dsimp only at e)
  repeat' split at e
  all_goals (try cases e)
  all_goals repeat (first | with_reducible assumption | with_reducible apply leaveL1_still | with_reducible apply refuseBare_still | intro _ | with_reducible apply Still.ite | simp only [Still.upd] | dsimp only | split)

theorem hostMem_snd_still {s0 : State} (k : PortId) (bare : Bool) (bar0 : Option Nat) (s : State) (hk : Still s0 s) : Still s0 (hostMem k bare bar0 s).2 :=
  hostMem_still (Prod.eta _).symm hk

theorem hostPart_still {s0 t : State} {v : Option PartId} {r : Requester} {off : Nat} {s : State} (e : hostPart r off s = (v, t)) (hk : Still s0 s) : Still s0 t := by
  unfold hostPart at e
  (try dsimp only at e)
  repeat' split at e
  all_goals (try cases e)
  all_goals repeat (first | with_reducible assumption | with_reducible refine hostMem_still (by with_reducible assumption) ?_ | with_reducible apply hostMem_snd_still | intro _ | with_reducible apply Still.ite | with_reducible apply Still.iteSnd | with_reducible apply Still.iteFst | simp only [Still.upd] | dsimp only | split)

theorem hostPart_snd_still {s0 : State} (r : Requester) (off : Nat) (s : State) (hk : Still s0 s) : Still s0 (hostPart r off s).2 :=
  hostPart_still (Prod.eta _).symm hk

theorem updLoad_still {s0 : State} (p : PartId) (f : Load → Load) (s : State) (hk : Still s0 s) : Still s0 (updLoad p f s) := by
  unfold updLoad
  repeat (first | with_reducible assumption | with_reducible apply updPart_still | intro _ | with_reducible apply Still.ite | simp only [Still.upd] | dsimp only | split)

theorem loadDecide_still {s0 : State} (p : PartId) (r : Refuse) (s : State) (hk : Still s0 s) : Still s0 (loadDecide p r s) := by
  unfold loadDecide
  repeat (first | with_reducible assumption | with_reducible apply updLoad_still | intro _ | with_reducible apply Still.ite | with_reducible apply Still.iteSnd | with_reducible apply Still.iteFst | simp only [Still.upd] | dsimp only | split)

theorem placeSection_still {s0 : State} (p : PartId) (x : Load) (h : Bytes) (i : Nat) (s : State) (hk : Still s0 s) : Still s0 (placeSection p x h i s) := by
  unfold placeSection
  repeat (first | with_reducible assumption | with_reducible apply spaceWrite_still | with_reducible apply eachOf_still | with_reducible apply spaceMark_still | intro _ | with_reducible apply Still.ite | with_reducible apply Still.iteSnd | with_reducible apply Still.iteFst | simp only [Still.upd] | dsimp only | split)

theorem modelsChanged_still {s0 : State} (p : PartId) (s : State) (hk : Still s0 s) : Still s0 (modelsChanged p s) := by
  unfold modelsChanged
  repeat (first | with_reducible assumption | with_reducible apply mgtEvent_still | intro _ | with_reducible apply Still.ite | simp only [Still.upd] | dsimp only | split)

theorem makeResident_still {s0 : State} (p : PartId) (x : Load) (h : Bytes) (m : Model) (s : State) (hk : Still s0 s) : Still s0 (makeResident p x h m s) := by
  unfold makeResident
  repeat (first | with_reducible assumption | with_reducible apply updPart_still | with_reducible apply eachOf_still | with_reducible apply tdPut_still | with_reducible apply modelsChanged_still | with_reducible apply updLoad_still | intro _ | with_reducible apply Still.ite | with_reducible apply Still.iteSnd | with_reducible apply Still.iteFst | simp only [Still.upd] | dsimp only | split)

theorem placeAll_still {s0 : State} (p : PartId) (x : Load) (s : State) (hk : Still s0 s) : Still s0 (placeAll p x s) := by
  unfold placeAll
  repeat (first | with_reducible assumption | with_reducible apply eachOf_still | with_reducible apply placeSection_still | intro _ | with_reducible apply Still.ite | simp only [Still.upd] | dsimp only | split)

theorem loadCopied_still {s0 : State} (p : PartId) (s : State) (hk : Still s0 s) : Still s0 (loadCopied p s) := by
  unfold loadCopied
  repeat (first | with_reducible assumption | with_reducible apply placeAll_still | with_reducible apply updLoad_still | with_reducible apply loadDecide_still | with_reducible apply makeResident_still | with_reducible apply Still.foldl | intro _ | with_reducible apply Still.ite | simp only [Still.upd] | dsimp only | split)

theorem loadFetch_still {s0 : State} (p : PartId) (n : Nat) (want : Nat → Bool) (done : State → State) (s : State) (hdone : ∀ x0, Still s0 x0 → Still s0 (done x0)) (hk : Still s0 s) : Still s0 (loadFetch p n want done s) := by
  unfold loadFetch
  repeat (first | with_reducible apply hdone | with_reducible assumption | with_reducible apply updLoad_still | with_reducible apply eachOf_still | with_reducible apply hostRead_still | with_reducible apply Still.foldl | intro _ | with_reducible apply Still.ite | simp only [Still.upd] | dsimp only | split)

theorem loadPlaced_still {s0 : State} (p : PartId) (s : State) (hk : Still s0 s) : Still s0 (loadPlaced p s) := by
  unfold loadPlaced
  repeat (first | with_reducible assumption | with_reducible apply placeAll_still | with_reducible apply loadDecide_still | with_reducible apply loadCopied_still | intro _ | with_reducible apply Still.ite | with_reducible apply Still.iteSnd | with_reducible apply Still.iteFst | simp only [Still.upd] | dsimp only | split)

theorem loadListed_still {s0 : State} (p : PartId) (s : State) (hk : Still s0 s) : Still s0 (loadListed p s) := by
  unfold loadListed
  repeat (first | with_reducible assumption | with_reducible apply loadDecide_still | with_reducible apply loadFetch_still | with_reducible apply loadPlaced_still | intro _ | with_reducible apply Still.ite | simp only [Still.upd] | dsimp only | split)

theorem loadHeaded_still {s0 : State} (p : PartId) (s : State) (hk : Still s0 s) : Still s0 (loadHeaded p s) := by
  unfold loadHeaded
  repeat (first | with_reducible assumption | with_reducible apply loadDecide_still | with_reducible apply loadFetch_still | with_reducible apply loadListed_still | intro _ | with_reducible apply Still.ite | simp only [Still.upd] | dsimp only | split)

theorem loadReport_still {s0 : State} (p : PartId) (d : Bytes) (s : State) (hk : Still s0 s) : Still s0 (loadReport p d s) := by
  unfold loadReport
  repeat (first | with_reducible assumption | with_reducible apply updPart_still | with_reducible apply hostWrite_still | with_reducible apply updStream_still | with_reducible apply cmdDone_still | with_reducible apply cmdFail_still | intro _ | with_reducible apply Still.ite | simp only [Still.upd] | dsimp only | split)

theorem loadArrive_still {s0 : State} (p : PartId) (sec : Option Nat) (off : Nat) (b : Bytes) (bad : Bool) (s : State) (hk : Still s0 s) : Still s0 (loadArrive p sec off b bad s) := by
  unfold loadArrive
  repeat (first | with_reducible assumption | with_reducible apply updPart_still | with_reducible apply loadHeaded_still | with_reducible apply loadListed_still | with_reducible apply loadPlaced_still | intro _ | with_reducible apply Still.ite | simp only [Still.upd] | dsimp only | split)

theorem execXfrLoadModel_still {s0 : State} (p : PartId) (s : State) (hk : Still s0 s) : StillO s0 (execXfrLoadModel p s) := by
  unfold execXfrLoadModel
  repeat (first | with_reducible assumption | with_reducible apply StillO.next | with_reducible apply StillO.ite | with_reducible apply runXfr_still | with_reducible apply cmdFail_still | with_reducible apply hostRead_still | with_reducible apply updPart_still | with_reducible apply loadReport_still | intro _ | with_reducible apply Still.ite | simp only [Still.upd] | dsimp only | split)

theorem execXfrUnloadModel_still {s0 : State} (p : PartId) (s : State) (hk : Still s0 s) : StillO s0 (execXfrUnloadModel p s) := by
  unfold execXfrUnloadModel
  repeat (first | with_reducible assumption | with_reducible apply StillO.next | with_reducible apply StillO.ite | with_reducible apply runXfr_still | with_reducible apply cmdFail_still | with_reducible apply eachOf_still | with_reducible apply tdPut_still | with_reducible apply cmdDone_still | with_reducible apply modelsChanged_still | with_reducible apply updPart_still | intro _ | with_reducible apply Still.ite | with_reducible apply Still.iteSnd | with_reducible apply Still.iteFst | simp only [Still.upd] | dsimp only | split)

theorem xfrAdvance_still {s0 : State} (p : PartId) (s : State) (hk : Still s0 s) : Still s0 (xfrAdvance p s) := by
  unfold xfrAdvance
  repeat (first | with_reducible assumption | with_reducible apply tokensIn_still | with_reducible apply tokensOut_still | with_reducible apply copyMore_still | with_reducible apply loadReport_still | intro _ | with_reducible apply Still.ite | simp only [Still.upd] | dsimp only | split)

theorem updSb_still {s0 : State} (p : PartId) (f : SbPart → SbPart) (s : State) (hk : Still s0 s) : Still s0 (updSb p f s) := by
  unfold updSb
  repeat (first | with_reducible assumption | with_reducible apply updPart_still | intro _ | with_reducible apply Still.ite | simp only [Still.upd] | dsimp only | split)

theorem restoreSyc_still {s0 : State} (p : PartId) (g : Bytes) (s : State) (hk : Still s0 s) : Still s0 (restoreSyc p g s) := by
  unfold restoreSyc
  repeat (first | with_reducible assumption | with_reducible apply eachOf_still | with_reducible apply sycSetAt_still | with_reducible apply clearSyc_still | intro _ | with_reducible apply Still.ite | simp only [Still.upd] | dsimp only | split)

theorem restorePart_still {s0 : State} (p : PartId) (s : State) (hk : Still s0 s) : Still s0 (restorePart p s) := by
  unfold restorePart
  repeat (first | with_reducible assumption | with_reducible apply eachOf_still | with_reducible apply stopStream_still | with_reducible apply closeJob_still | with_reducible apply orphanReads_still | with_reducible apply updPart_still | with_reducible apply updStream_still | with_reducible apply clearSyc_still | with_reducible apply restoreSyc_still | with_reducible apply updSb_still | with_reducible apply record_still | with_reducible apply settleReleased_still | with_reducible apply msixPart_still | intro _ | with_reducible apply Still.ite | simp only [Still.upd] | dsimp only | split)

theorem tornSnapshot_still {s0 : State} (p : PartId) (s : State) (hk : Still s0 s) : Still s0 (tornSnapshot p s) := by
  unfold tornSnapshot
  repeat (first | with_reducible assumption | with_reducible apply cntPart_still | with_reducible apply updSb_still | with_reducible apply record_still | intro _ | with_reducible apply Still.ite | simp only [Still.upd] | dsimp only | split)

theorem readDone_still {s0 : State} (p : PartId) (s : State) (hk : Still s0 s) : Still s0 (readDone p s) := by
  unfold readDone
  repeat (first | with_reducible assumption | with_reducible apply restorePart_still | with_reducible apply hostRead_still | with_reducible apply updSb_still | intro _ | with_reducible apply Still.ite | simp only [Still.upd] | dsimp only | split)

theorem doneJudge_still {s0 : State} (p : PartId) (found : Bool) (s : State) (hk : Still s0 s) : Still s0 (doneJudge p found s) := by
  unfold doneJudge
  repeat (first | with_reducible assumption | with_reducible apply readDone_still | with_reducible apply updSb_still | with_reducible apply restorePart_still | with_reducible apply eachOf_still | with_reducible apply issueRecord_still | intro _ | with_reducible apply Still.ite | with_reducible apply Still.iteSnd | with_reducible apply Still.iteFst | simp only [Still.upd] | dsimp only | split)

theorem doneArrive_still {s0 : State} (p : PartId) (b : Bytes) (s : State) (hk : Still s0 s) : Still s0 (doneArrive p b s) := by
  unfold doneArrive
  repeat (first | with_reducible assumption | with_reducible apply updSb_still | with_reducible apply doneJudge_still | intro _ | with_reducible apply Still.ite | simp only [Still.upd] | dsimp only | split)

theorem failover_still {s0 : State} (cause : Nat) (s : State) (hk : Still s0 s) : Still s0 (failover cause s) := by
  unfold failover
  repeat (first | with_reducible assumption | with_reducible apply cntDev_still | with_reducible apply setSb_still | with_reducible apply eachOf_still | with_reducible apply tornSnapshot_still | with_reducible apply readDone_still | with_reducible apply updSb_still | intro _ | with_reducible apply Still.ite | simp only [Still.upd] | dsimp only | split)

theorem cfgWrite_still {s0 : State} (k : PortId) (f : State → State) (s : State) (hf : ∀ t, Still s0 t → Still s0 (f t)) (hk : Still s0 s) : Still s0 (cfgWrite k f s) := by
  unfold cfgWrite
  repeat (first | with_reducible assumption | with_reducible apply hf | with_reducible apply emit_still | with_reducible apply leaveL1_still | with_reducible apply Still.ite | split)

theorem aerPoisoned_still {s0 : State} (k : PortId) (s : State) (hk : Still s0 s) : Still s0 (aerPoisoned k s) := by
  unfold aerPoisoned
  repeat (first | with_reducible assumption | with_reducible apply updPort_still | intro _ | with_reducible apply Still.ite | simp only [Still.upd] | dsimp only | split)

theorem aerUnexpected_still {s0 : State} (k : PortId) (s : State) (hk : Still s0 s) : Still s0 (aerUnexpected k s) := by
  unfold aerUnexpected
  repeat (first | with_reducible assumption | with_reducible apply updPort_still | intro _ | with_reducible apply Still.ite | simp only [Still.upd] | dsimp only | split)

theorem poisonedWrite_still {s0 : State} (k : PortId) (s : State) (hk : Still s0 s) : Still s0 (poisonedWrite k s) := by
  unfold poisonedWrite
  repeat (first | with_reducible assumption | with_reducible apply aerPoisoned_still | with_reducible apply cntPort_still | intro _ | with_reducible apply Still.ite | simp only [Still.upd] | dsimp only | split)

theorem updAsm_still {s0 : State} (k : PortId) (st : StreamId) (f : Assembly → Assembly) (s : State) (hk : Still s0 s) : Still s0 (updAsm k st f s) := by
  unfold updAsm
  repeat (first | with_reducible assumption | with_reducible apply updPort_still | intro _ | with_reducible apply Still.ite | simp only [Still.upd] | dsimp only | split)

theorem discardBlock_still {s0 : State} (n : Nat) (k : PortId) (s : State) (hk : Still s0 s) : Still s0 (discardBlock n k s) := by
  unfold discardBlock
  repeat (first | with_reducible assumption | with_reducible apply cntPort_still | intro _ | with_reducible apply Still.ite | simp only [Still.upd] | dsimp only | split)

theorem bar4Refuse_still {s0 : State} (k : PortId) (p : PartId) (off : Nat) (s : State) (hk : Still s0 s) : Still s0 (bar4Refuse k p off s) := by
  unfold bar4Refuse
  repeat (first | with_reducible assumption | with_reducible apply record_still | with_reducible apply cntPort_still | intro _ | with_reducible apply Still.ite | simp only [Still.upd] | dsimp only | split)

theorem bar4Hold_still {s0 : State} (k : PortId) (p : PartId) (x : Nat × Nat × Option (Bytes × Bool)) (s : State) (hk : Still s0 s) : Still s0 (bar4Hold k p x s) := by
  unfold bar4Hold
  repeat (first | with_reducible assumption | with_reducible apply stall_still | with_reducible apply updPort_still | intro _ | with_reducible apply Still.ite | simp only [Still.upd] | dsimp only | split)

theorem bar4ReadOn_still {s0 : State} (k : PortId) (off len : Nat) (s : State) (hk : Still s0 s) : Still s0 (bar4ReadOn k off len s) := by
  unfold bar4ReadOn
  repeat (first | with_reducible assumption | with_reducible apply bar4Hold_still | with_reducible apply eachOf_still | with_reducible apply emit_still | with_reducible apply record_still | with_reducible apply meetHbm_still | with_reducible apply charge_still | with_reducible apply bar4Refuse_still | intro _ | with_reducible apply Still.ite | with_reducible apply Still.iteSnd | with_reducible apply Still.iteFst | simp only [Still.upd] | dsimp only | split)

theorem bar4Read_still {s0 : State} (r : Requester) (off len : Nat) (s : State) (hk : Still s0 s) : StillO s0 (bar4Read r off len s) := by
  unfold bar4Read
  repeat (first | with_reducible assumption | with_reducible apply StillO.next | with_reducible apply StillO.ite | with_reducible refine hostMem_still (by with_reducible assumption) ?_ | with_reducible apply hostMem_snd_still | with_reducible apply bar4ReadOn_still | with_reducible apply emit_still | intro _ | with_reducible apply Still.ite | with_reducible apply Still.iteSnd | with_reducible apply Still.iteFst | simp only [Still.upd] | dsimp only | split)

theorem bar4WriteOn_still {s0 : State} (k : PortId) (off : Nat) (data : Bytes) (ep : Bool) (s : State) (hk : Still s0 s) : Still s0 (bar4WriteOn k off data ep s) := by
  unfold bar4WriteOn
  repeat (first | with_reducible assumption | with_reducible apply bar4Hold_still | with_reducible apply poisonedWrite_still | with_reducible apply settleMerge_still | with_reducible apply spaceWrite_still | with_reducible apply charge_still | with_reducible apply spaceMark_still | with_reducible apply bar4Refuse_still | intro _ | with_reducible apply Still.ite | simp only [Still.upd] | dsimp only | split)

theorem bar4Go_still {s0 : State} (k : PortId) (x : Nat × Nat × Option (Bytes × Bool)) (s : State) (hk : Still s0 s) : Still s0 (bar4Go k x s) := by
  unfold bar4Go
  repeat (first | with_reducible assumption | with_reducible apply bar4ReadOn_still | with_reducible apply bar4WriteOn_still | intro _ | with_reducible apply Still.ite | simp only [Still.upd] | dsimp only | split)

theorem bar4Retry_still {s0 : State} (k : PortId) (s : State) (hk : Still s0 s) : Still s0 (bar4Retry k s) := by
  unfold bar4Retry
  repeat (first | with_reducible assumption | with_reducible apply eachOf_still | with_reducible apply bar4Go_still | with_reducible apply updPort_still | intro _ | with_reducible apply Still.ite | simp only [Still.upd] | dsimp only | split)

theorem bar4Write_still {s0 : State} (r : Requester) (off : Nat) (data : Bytes) (ep : Bool) (s : State) (hk : Still s0 s) : StillO s0 (bar4Write r off data ep s) := by
  unfold bar4Write
  repeat (first | with_reducible assumption | with_reducible apply StillO.next | with_reducible apply StillO.ite | with_reducible refine hostMem_still (by with_reducible assumption) ?_ | with_reducible apply hostMem_snd_still | with_reducible apply bar4WriteOn_still | intro _ | with_reducible apply Still.ite | with_reducible apply Still.iteSnd | with_reducible apply Still.iteFst | simp only [Still.upd] | dsimp only | split)

theorem ideInsecure_still {s0 : State} (k : PortId) (i : Fin 5) (s : State) (hk : Still s0 s) : Still s0 (ideInsecure k i s) := by
  unfold ideInsecure
  repeat (first | with_reducible assumption | with_reducible apply secLog_still | with_reducible apply updPort_still | intro _ | with_reducible apply Still.ite | simp only [Still.upd] | dsimp only | split)

theorem dropPortView_still {s0 : State} (k : PortId) (s : State) (hk : Still s0 s) : Still s0 (dropPortView k s) := by
  unfold dropPortView
  repeat (first | with_reducible assumption | intro _ | with_reducible apply Still.ite | with_reducible apply Still.iteSnd | with_reducible apply Still.iteFst | simp only [Still.upd] | dsimp only | split)

theorem resetFunction_still {s0 : State} (kind : PortReset) (k : PortId) (s : State) (hk : Still s0 s) : Still s0 (resetFunction kind k s) := by
  unfold resetFunction
  repeat (first | with_reducible assumption | with_reducible apply linkDown_still | with_reducible apply eachOf_still | with_reducible apply ideInsecure_still | with_reducible apply dropPortView_still | with_reducible apply updPort_still | with_reducible apply discardBlock_still | intro _ | with_reducible apply Still.ite | simp only [Still.upd] | dsimp only | split)

theorem resetMapped_still {s0 : State} (k : PortId) (kind : ResetKind) (s : State) (hk : Still s0 s) : Still s0 (resetMapped k kind s) := by
  unfold resetMapped
  repeat (first | with_reducible assumption | with_reducible apply resetPartition_still | intro _ | with_reducible apply Still.ite | simp only [Still.upd] | dsimp only | split)

theorem startFlr_still {s0 : State} (k : PortId) (s : State) (hk : Still s0 s) : Still s0 (startFlr k s) := by
  unfold startFlr
  repeat (first | with_reducible assumption | with_reducible apply resetMapped_still | with_reducible apply updPort_still | with_reducible apply resetFunction_still | intro _ | with_reducible apply Still.ite | simp only [Still.upd] | dsimp only | split)

theorem execFlr_still {s0 : State} (k : PortId) (s : State) (hk : Still s0 s) : StillO s0 (execFlr k s) := by
  unfold execFlr
  repeat (first | with_reducible assumption | with_reducible apply StillO.next | with_reducible apply StillO.ite | with_reducible apply cfgWrite_still | with_reducible apply startFlr_still | intro _ | with_reducible apply Still.ite | simp only [Still.upd] | dsimp only | split)

theorem execFunctionReady_still {s0 : State} (k : PortId) (s : State) (hk : Still s0 s) : StillO s0 (execFunctionReady k s) := by
  unfold execFunctionReady
  repeat (first | with_reducible assumption | with_reducible apply StillO.next | with_reducible apply StillO.ite | with_reducible apply updPort_still | with_reducible apply partitionReady_still | intro _ | with_reducible apply Still.ite | simp only [Still.upd] | dsimp only | split)

theorem downReady_still {s0 : State} (k : PortId) (s : State) (hk : Still s0 s) : Still s0 (downReady k s) := by
  unfold downReady
  repeat (first | with_reducible assumption | with_reducible apply resetMapped_still | with_reducible apply linkDown_still | with_reducible apply cntPort_still | with_reducible apply updPort_still | intro _ | with_reducible apply Still.ite | simp only [Still.upd] | dsimp only | split)

theorem execDlDown_still {s0 : State} (k : PortId) (s : State) (hk : Still s0 s) : StillO s0 (execDlDown k s) := by
  unfold execDlDown
  repeat (first | with_reducible assumption | with_reducible apply StillO.next | with_reducible apply StillO.ite | with_reducible apply resetFunction_still | with_reducible apply linkDown_still | with_reducible apply cntPort_still | with_reducible apply updPort_still | with_reducible apply portEvent_still | with_reducible apply downReady_still | intro _ | with_reducible apply Still.ite | simp only [Still.upd] | dsimp only | split)

theorem execHostLinkUp_still {s0 : State} (k : PortId) (gen width : Nat) (flit reversed : Bool) (s : State) (hk : Still s0 s) : StillO s0 (execHostLinkUp k gen width flit reversed s) := by
  unfold execHostLinkUp
  repeat (first | with_reducible assumption | with_reducible apply StillO.next | with_reducible apply StillO.ite | with_reducible apply portEvent_still | with_reducible apply updPort_still | intro _ | with_reducible apply Still.ite | with_reducible apply Still.iteSnd | with_reducible apply Still.iteFst | simp only [Still.upd] | dsimp only | split)

theorem release_still {s0 : State} (k : PortId) (s : State) (hk : Still s0 s) : Still s0 (release k s) := by
  unfold release
  repeat (first | with_reducible assumption | with_reducible apply pump_still | with_reducible apply xfrAdvance_still | intro _ | with_reducible apply Still.ite | simp only [Still.upd] | dsimp only | split)

theorem heldWakes_still {s0 : State} (k : PortId) (s : State) (hk : Still s0 s) : Still s0 (heldWakes k s) := by
  unfold heldWakes
  repeat (first | with_reducible assumption | with_reducible apply eachOf_still | with_reducible apply record_still | with_reducible apply wakeEvent_still | with_reducible apply msix_still | intro _ | with_reducible apply Still.ite | simp only [Still.upd] | dsimp only | split)

theorem enterD3hot_still {s0 : State} (k : PortId) (s : State) (hk : Still s0 s) : Still s0 (enterD3hot k s) := by
  unfold enterD3hot
  repeat (first | with_reducible assumption | with_reducible apply discardBlock_still | with_reducible apply updPort_still | with_reducible apply portEvent_still | with_reducible apply heldWakes_still | with_reducible apply xfrAdvance_still | intro _ | with_reducible apply Still.ite | simp only [Still.upd] | dsimp only | split)

theorem execPowerStateD3hot_still {s0 : State} (k : PortId) (s : State) (hk : Still s0 s) : StillO s0 (execPowerStateD3hot k s) := by
  unfold execPowerStateD3hot
  repeat (first | with_reducible assumption | with_reducible apply StillO.next | with_reducible apply StillO.ite | with_reducible apply cfgWrite_still | with_reducible apply enterD3hot_still | intro _ | with_reducible apply Still.ite | simp only [Still.upd] | dsimp only | split)

theorem execPmPmeTransmit_still {s0 : State} (k : PortId) (s : State) (hk : Still s0 s) : StillO s0 (execPmPmeTransmit k s) := by
  unfold execPmPmeTransmit
  repeat (first | with_reducible assumption | with_reducible apply StillO.next | with_reducible apply StillO.ite | with_reducible apply emit_still | with_reducible apply updPort_still | intro _ | with_reducible apply Still.ite | simp only [Still.upd] | dsimp only | split)

theorem execPmPmeRetransmit_still {s0 : State} (k : PortId) (s : State) (hk : Still s0 s) : StillO s0 (execPmPmeRetransmit k s) := by
  unfold execPmPmeRetransmit
  repeat (first | with_reducible assumption | with_reducible apply StillO.next | with_reducible apply StillO.ite | with_reducible apply emit_still | with_reducible apply updPort_still | intro _ | with_reducible apply Still.ite | simp only [Still.upd] | dsimp only | split)

theorem execAspmL1Entry_still {s0 : State} (k : PortId) (s : State) (hk : Still s0 s) : StillO s0 (execAspmL1Entry k s) := by
  unfold execAspmL1Entry
  repeat (first | with_reducible assumption | with_reducible apply StillO.next | with_reducible apply StillO.ite | with_reducible apply emit_still | with_reducible apply updPort_still | intro _ | with_reducible apply Still.ite | simp only [Still.upd] | dsimp only | split)

theorem execBusMasterEnableChange_still {s0 : State} (k : PortId) (on : Bool) (s : State) (hk : Still s0 s) : StillO s0 (execBusMasterEnableChange k on s) := by
  unfold execBusMasterEnableChange
  repeat (first | with_reducible assumption | with_reducible apply StillO.next | with_reducible apply StillO.ite | with_reducible apply cfgWrite_still | with_reducible apply release_still | with_reducible apply updPort_still | intro _ | with_reducible apply Still.ite | simp only [Still.upd] | dsimp only | split)

theorem msixFlush_still {s0 : State} (k : PortId) (s : State) (hk : Still s0 s) : Still s0 (msixFlush k s) := by
  unfold msixFlush
  repeat (first | with_reducible assumption | with_reducible apply eachOf_still | with_reducible apply wakeEvent_still | with_reducible apply dmaPush_still | with_reducible apply msix_still | with_reducible apply updPort_still | intro _ | with_reducible apply Still.ite | simp only [Still.upd] | dsimp only | split)

theorem execMsixUnmask_still {s0 : State} (k : PortId) (v : Fin 16) (s : State) (hk : Still s0 s) : StillO s0 (execMsixUnmask k v s) := by
  unfold execMsixUnmask
  repeat (first | with_reducible assumption | with_reducible apply StillO.next | with_reducible apply StillO.ite | with_reducible refine hostMem_still (by with_reducible assumption) ?_ | with_reducible apply hostMem_snd_still | with_reducible apply msixFlush_still | with_reducible apply updPort_still | intro _ | with_reducible apply Still.ite | with_reducible apply Still.iteSnd | with_reducible apply Still.iteFst | simp only [Still.upd] | dsimp only | split)

theorem execIdeIntegrityFail_still {s0 : State} (k : PortId) (stream : Fin 5) (s : State) (hk : Still s0 s) : StillO s0 (execIdeIntegrityFail k stream s) := by
  unfold execIdeIntegrityFail
  repeat (first | with_reducible assumption | with_reducible apply StillO.next | with_reducible apply StillO.ite | with_reducible apply ideInsecure_still | with_reducible apply secLogMerged_still | with_reducible apply updPort_still | with_reducible apply partFault_still | intro _ | with_reducible apply Still.ite | simp only [Still.upd] | dsimp only | split)

theorem execRingTailWrite_still {s0 : State} (r : Requester) (st : StreamId) (v : Nat) (s : State) (hk : Still s0 s) : StillO s0 (execRingTailWrite r st v s) := by
  unfold execRingTailWrite
  repeat (first | with_reducible assumption | with_reducible apply StillO.next | with_reducible apply StillO.ite | with_reducible refine hostPart_still (by with_reducible assumption) ?_ | with_reducible apply hostPart_snd_still | with_reducible apply queOverrun_still | with_reducible apply updStream_still | with_reducible apply fetchNow_still | intro _ | with_reducible apply Still.ite | with_reducible apply Still.iteSnd | with_reducible apply Still.iteFst | simp only [Still.upd] | dsimp only | split)

theorem execRingCtlWrite_still {s0 : State} (r : Requester) (st : StreamId) (v : Nat) (s : State) (hk : Still s0 s) : StillO s0 (execRingCtlWrite r st v s) := by
  unfold execRingCtlWrite
  repeat (first | with_reducible assumption | with_reducible apply StillO.next | with_reducible apply StillO.ite | with_reducible refine hostPart_still (by with_reducible assumption) ?_ | with_reducible apply hostPart_snd_still | with_reducible apply fetchNow_still | with_reducible apply updStream_still | intro _ | with_reducible apply Still.ite | with_reducible apply Still.iteSnd | with_reducible apply Still.iteFst | simp only [Still.upd] | dsimp only | split)

theorem freeBytes_still {s0 t : State} {v : Bytes} {n : Nat} {s : State} (e : freeBytes n s = (v, t)) (hk : Still s0 s) : Still s0 t := by
  unfold freeBytes at e
  (try dsimp only at e)
  repeat' split at e
  all_goals (try cases e)
  all_goals repeat (first | with_reducible assumption | with_reducible refine takeFree_still (by with_reducible assumption) ?_ | with_reducible apply takeFree_snd_still | intro _ | with_reducible apply Still.ite | with_reducible apply Still.iteSnd | with_reducible apply Still.iteFst | simp only [Still.upd] | dsimp only | split)

theorem freeBytes_snd_still {s0 : State} (n : Nat) (s : State) (hk : Still s0 s) : Still s0 (freeBytes n s).2 :=
  freeBytes_still (Prod.eta _).symm hk

theorem noteRead_still {s0 : State} (p : PartId) (code sub addr : Nat) (s : State) (hk : Still s0 s) : Still s0 (noteRead p code sub addr s) := by
  unfold noteRead
  repeat (first | with_reducible assumption | with_reducible apply noteOnce_still | intro _ | with_reducible apply Still.ite | simp only [Still.upd] | dsimp only | split)

theorem deliver_still {s0 : State} (p : PartId) (tgt : DmaTarget) (got : Nat) (b : Bytes) (bad : Bool) (s : State) (hk : Still s0 s) : Still s0 (deliver p tgt got b bad s) := by
  unfold deliver
  repeat (first | with_reducible assumption | with_reducible apply updSlot_still | with_reducible apply copyArrive_still | with_reducible apply loadArrive_still | with_reducible apply updStream_still | with_reducible apply setXfrAt_still | with_reducible apply doneArrive_still | intro _ | with_reducible apply Still.ite | with_reducible apply Still.iteSnd | with_reducible apply Still.iteFst | simp only [Still.upd] | dsimp only | split)

theorem poisonGot_still {s0 : State} (p : PartId) (tgt : DmaTarget) (got : Nat) (s : State) (hk : Still s0 s) : Still s0 (poisonGot p tgt got s) := by
  unfold poisonGot
  repeat (first | with_reducible assumption | with_reducible apply updSlot_still | with_reducible apply eachOf_still | with_reducible apply spaceMark_still | with_reducible apply updLoad_still | intro _ | with_reducible apply Still.ite | simp only [Still.upd] | dsimp only | split)

theorem readFailed_still {s0 : State} (p : PartId) (r : DmaRead) (code sub from_ n : Nat) (data : Option Bytes) (s : State) (hk : Still s0 s) : Still s0 (readFailed p r code sub from_ n data s) := by
  unfold readFailed
  repeat (first | with_reducible assumption | with_reducible apply doneJudge_still | with_reducible apply fetchNow_still | with_reducible apply jobFault_still | with_reducible apply updStream_still | with_reducible apply cmdFail_still | with_reducible apply noteRead_still | with_reducible apply deliver_still | with_reducible refine freeBytes_still (by with_reducible assumption) ?_ | with_reducible apply freeBytes_snd_still | with_reducible apply poisonGot_still | with_reducible apply updSlot_still | intro _ | with_reducible apply Still.ite | with_reducible apply Still.iteSnd | with_reducible apply Still.iteFst | simp only [Still.upd] | dsimp only | split)

theorem retryAll_still {s0 : State} (s : State) (hk : Still s0 s) : Still s0 (retryAll s) := by
  unfold retryAll
  repeat (first | with_reducible assumption | with_reducible apply eachOf_still | with_reducible apply drainLink_still | with_reducible apply bar4Retry_still | with_reducible apply pump_still | with_reducible apply drainPlane_still | intro _ | with_reducible apply Still.ite | simp only [Still.upd] | dsimp only | split)

theorem scrubBad_still {s0 : State} (g : Nat) (s : State) (hk : Still s0 s) : Still s0 (scrubBad g s) := by
  unfold scrubBad
  repeat (first | with_reducible assumption | with_reducible apply markGranule_still | with_reducible apply record_still | with_reducible apply mgtRecord_still | intro _ | with_reducible apply Still.ite | simp only [Still.upd] | dsimp only | split)

theorem hbmFind_still {s0 : State} (p : PartId) (tag g : Nat) (bad : Bool) (s : State) (hk : Still s0 s) : Still s0 (hbmFind p tag g bad s) := by
  unfold hbmFind
  repeat (first | with_reducible assumption | with_reducible apply markGranule_still | with_reducible apply record_still | with_reducible apply cntPart_still | intro _ | with_reducible apply Still.ite | simp only [Still.upd] | dsimp only | split)

theorem renackChunk_still {s0 : State} (p : PartId) (k : Nat) (s : State) (hk : Still s0 s) : Still s0 (renackChunk p k s) := by
  unfold renackChunk
  repeat (first | with_reducible assumption | with_reducible apply updChunk_still | with_reducible apply cntPart_still | with_reducible apply eachOf_still | with_reducible apply answerChunk_still | intro _ | with_reducible apply Still.ite | simp only [Still.upd] | dsimp only | split)

theorem plantErr_still {s0 : State} (g : Nat) (bad : Bool) (s : State) (hk : Still s0 s) : Still s0 (plantErr g bad s) := by
  unfold plantErr
  repeat (first | with_reducible assumption | intro _ | with_reducible apply Still.ite | simp only [Still.upd] | dsimp only | split)

theorem meetErrs_still {s0 : State} (p : PartId) (st : StreamId) (tag : Nat) (t : EccFind → Bool) (s : State) (hk : Still s0 s) : Still s0 (meetErrs p st tag t s) := by
  unfold meetErrs
  repeat (first | with_reducible assumption | with_reducible refine Still.sramFold ?_ ?_ _ _ | with_reducible apply Still.sramFilter | with_reducible apply Still.foldl | intro _ | with_reducible apply Still.ite | with_reducible apply Still.iteSnd | with_reducible apply Still.iteFst | simp only [Still.upd] | dsimp only | split)

theorem arriveMeets_still {s0 : State} (path : Path) (p : PartId) (s : State) (hk : Still s0 s) : Still s0 (arriveMeets path p s) := by
  unfold arriveMeets
  repeat (first | with_reducible assumption | with_reducible apply meetErrs_still | intro _ | with_reducible apply Still.ite | simp only [Still.upd] | dsimp only | split)

theorem bar4Find_still {s0 : State} (p : PartId) (a n : Nat) (write : Bool) (e : EccFind) (s : State) (hk : Still s0 s) : Still s0 (bar4Find p a n write e s) := by
  unfold bar4Find
  repeat (first | with_reducible assumption | with_reducible apply hbmFind_still | with_reducible apply record_still | intro _ | with_reducible apply Still.ite | simp only [Still.upd] | dsimp only | split)

theorem bar4Ecc_still {s0 : State} (r : Requester) (off n : Nat) (write : Bool) (ecc : List EccFind) (s : State) (hk : Still s0 s) : Still s0 (bar4Ecc r off n write ecc s) := by
  unfold bar4Ecc
  repeat (first | with_reducible assumption | with_reducible refine hostMem_still (by with_reducible assumption) ?_ | with_reducible apply hostMem_snd_still | with_reducible apply bar4Find_still | with_reducible apply Still.foldl | intro _ | with_reducible apply Still.ite | with_reducible apply Still.iteSnd | with_reducible apply Still.iteFst | simp only [Still.upd] | dsimp only | split)

theorem execBar4Read_still {s0 : State} (r : Requester) (off len : Nat) (ecc : List EccFind) (s : State) (hk : Still s0 s) : StillO s0 (execBar4Read r off len ecc s) := by
  unfold execBar4Read
  repeat (first | with_reducible assumption | with_reducible apply StillO.next | with_reducible apply StillO.ite | with_reducible apply bar4Read_still | with_reducible apply bar4Ecc_still | intro _ | with_reducible apply Still.ite | simp only [Still.upd] | dsimp only | split)

theorem execBar4Write_still {s0 : State} (r : Requester) (off : Nat) (data : Bytes) (ep : Bool) (ecc : List EccFind) (s : State) (hk : Still s0 s) : StillO s0 (execBar4Write r off data ep ecc s) := by
  unfold execBar4Write
  repeat (first | with_reducible assumption | with_reducible apply StillO.next | with_reducible apply StillO.ite | with_reducible apply bar4Write_still | with_reducible apply bar4Ecc_still | intro _ | with_reducible apply Still.ite | simp only [Still.upd] | dsimp only | split)

theorem forgetErr_still {s0 : State} (gran : Nat) (s : State) (hk : Still s0 s) : Still s0 (forgetErr gran s) := by
  unfold forgetErr
  repeat (first | with_reducible assumption | intro _ | with_reducible apply Still.ite | simp only [Still.upd] | dsimp only | split)

theorem execPatrolScrubRead_still {s0 : State} (gran result : Nat) (s : State) (hk : Still s0 s) : StillO s0 (execPatrolScrubRead gran result s) := by
  unfold execPatrolScrubRead
  repeat (first | with_reducible assumption | with_reducible apply StillO.next | with_reducible apply StillO.ite | with_reducible apply cntPart_still | with_reducible apply forgetErr_still | with_reducible apply scrubBad_still | intro _ | with_reducible apply Still.ite | simp only [Still.upd] | dsimp only | split)

theorem execErrHeadWrite_still {s0 : State} (r : Requester) (v : Nat) (s : State) (hk : Still s0 s) : StillO s0 (execErrHeadWrite r v s) := by
  unfold execErrHeadWrite
  repeat (first | with_reducible assumption | with_reducible apply StillO.next | with_reducible apply StillO.ite | with_reducible refine hostPart_still (by with_reducible assumption) ?_ | with_reducible apply hostPart_snd_still | with_reducible apply updPart_still | intro _ | with_reducible apply Still.ite | with_reducible apply Still.iteSnd | with_reducible apply Still.iteFst | simp only [Still.upd] | dsimp only | split)

theorem countFail_still {s0 t : State} {v : Nat} {d : DevId} {p : PartId} {k : Packet} {s : State} (e : countFail d p k s = (v, t)) (hk : Still s0 s) : Still s0 t := by
  unfold countFail at e
  (try dsimp only at e)
  repeat' split at e
  all_goals (try cases e)
  all_goals repeat (first | with_reducible assumption | with_reducible apply updFlow_still | intro _ | with_reducible apply Still.ite | with_reducible apply Still.iteSnd | with_reducible apply Still.iteFst | simp only [Still.upd] | dsimp only | split)

theorem countFail_snd_still {s0 : State} (d : DevId) (p : PartId) (k : Packet) (s : State) (hk : Still s0 s) : Still s0 (countFail d p k s).2 :=
  countFail_still (Prod.eta _).symm hk

theorem sendAgain_still {s0 : State} (d : DevId) (p : PartId) (isPiece : Bool) (b : Bytes) (s : State) (hk : Still s0 s) : Still s0 (sendAgain d p isPiece b s) := by
  unfold sendAgain
  repeat (first | with_reducible assumption | with_reducible apply sendPiece_still | with_reducible apply cntPart64_still | with_reducible apply cntPart_still | with_reducible apply sendPacketAs_still | intro _ | with_reducible apply Still.ite | simp only [Still.upd] | dsimp only | split)

theorem updClause_still {s0 : State} (p : PartId) (tag : Nat) (f : Clause → Clause) (s : State) (hk : Still s0 s) : Still s0 (updClause p tag f s) := by
  unfold updClause
  repeat (first | with_reducible assumption | with_reducible apply updConj_still | intro _ | with_reducible apply Still.ite | simp only [Still.upd] | dsimp only | split)

theorem sendLate_still {s0 : State} (p : PartId) (x : Clause) (s : State) (hk : Still s0 s) : Still s0 (sendLate p x s) := by
  unfold sendLate
  repeat (first | with_reducible assumption | with_reducible apply reissueClause_still | with_reducible apply updConj_still | with_reducible apply dispatchClause_still | with_reducible apply cntPart64_still | intro _ | with_reducible apply Still.ite | simp only [Still.upd] | dsimp only | split)

theorem bounceRecord_still {s0 : State} (p : PartId) (x : Clause) (d : DevId) (s : State) (hk : Still s0 s) : Still s0 (bounceRecord p x d s) := by
  unfold bounceRecord
  repeat (first | with_reducible assumption | with_reducible apply record_still | with_reducible apply updConj_still | intro _ | with_reducible apply Still.ite | simp only [Still.upd] | dsimp only | split)

theorem noteBounce_still {s0 : State} (p : PartId) (tag : Nat) (d : DevId) (s : State) (hk : Still s0 s) : Still s0 (noteBounce p tag d s) := by
  unfold noteBounce
  repeat (first | with_reducible assumption | with_reducible apply bounceRecord_still | intro _ | with_reducible apply Still.ite | simp only [Still.upd] | dsimp only | split)

theorem refuseSpec_still {s0 : State} (p : PartId) (tag : Nat) (d : DevId) (bounce : Bool) (s : State) (hk : Still s0 s) : Still s0 (refuseSpec p tag d bounce s) := by
  unfold refuseSpec
  repeat (first | with_reducible assumption | with_reducible apply cntPart_still | with_reducible apply updClause_still | with_reducible apply sendLate_still | with_reducible apply bounceRecord_still | with_reducible apply suppress_still | intro _ | with_reducible apply Still.ite | simp only [Still.upd] | dsimp only | split)

theorem specLost_still {s0 : State} (p : PartId) (tag : Nat) (s : State) (hk : Still s0 s) : Still s0 (specLost p tag s) := by
  unfold specLost
  repeat (first | with_reducible assumption | with_reducible apply updClause_still | with_reducible apply recordLost_still | with_reducible apply suppress_still | intro _ | with_reducible apply Still.ite | simp only [Still.upd] | dsimp only | split)

theorem reissueTag_still {s0 : State} (p : PartId) (tag : Nat) (d : DevId) (admitted : Option Bool) (s : State) (hk : Still s0 s) : Still s0 (reissueTag p tag d admitted s) := by
  unfold reissueTag
  repeat (first | with_reducible assumption | with_reducible apply reissueClause_still | intro _ | with_reducible apply Still.ite | simp only [Still.upd] | dsimp only | split)

theorem e2eFailed_still {s0 : State} (d : DevId) (p : PartId) (x : Packet) (b : Bytes) (s : State) (hk : Still s0 s) : Still s0 (e2eFailed d p x b s) := by
  unfold e2eFailed
  repeat (first | with_reducible assumption | with_reducible apply sendAgain_still | with_reducible refine countFail_still (by with_reducible assumption) ?_ | with_reducible apply countFail_snd_still | with_reducible apply specLost_still | with_reducible apply record_still | with_reducible apply reissueTag_still | intro _ | with_reducible apply Still.ite | with_reducible apply Still.iteSnd | with_reducible apply Still.iteFst | simp only [Still.upd] | dsimp only | split)

theorem takeRefuse_still {s0 : State} (d : DevId) (p : PartId) (k : Packet) (s : State) (hk : Still s0 s) : Still s0 (takeRefuse d p k s) := by
  unfold takeRefuse
  repeat (first | with_reducible assumption | with_reducible apply sendAgain_still | with_reducible apply e2eFailed_still | with_reducible apply refuseSpec_still | with_reducible apply reissueTag_still | with_reducible apply noteBounce_still | with_reducible apply updPeer_still | with_reducible apply markUnreachable_still | with_reducible apply conjSettle_still | intro _ | with_reducible apply Still.ite | with_reducible apply Still.iteSnd | with_reducible apply Still.iteFst | simp only [Still.upd] | dsimp only | split)

theorem takeRow_still {s0 : State} (src : DevId) (path : Path) (p : PartId) (k : Packet) (dt : Nat) (b : Bytes) (s : State) (hk : Still s0 s) : Still s0 (takeRow src path p k dt b s) := by
  unfold takeRow
  repeat (first | with_reducible assumption | with_reducible apply cntPower_still | with_reducible apply sendRefuse_still | with_reducible apply leavePool_still | with_reducible apply orphanRow_still | with_reducible apply cntPart64_still | with_reducible apply noteStalls_still | with_reducible apply storeRow_still | intro _ | with_reducible apply Still.ite | simp only [Still.upd] | dsimp only | split)

theorem takeResult_still {s0 : State} (p : PartId) (k : Packet) (s : State) (hk : Still s0 s) : Still s0 (takeResult p k s) := by
  unfold takeResult
  repeat (first | with_reducible assumption | with_reducible apply cntPart_still | with_reducible apply conjSettle_still | with_reducible apply contribute_still | with_reducible apply updSlot_still | with_reducible apply clauseFlag_still | intro _ | with_reducible apply Still.ite | simp only [Still.upd] | dsimp only | split)

theorem takeVerdict_still {s0 : State} (p : PartId) (b : Bytes) (i : Nat) (s : State) (hk : Still s0 s) : Still s0 (takeVerdict p b i s) := by
  unfold takeVerdict
  repeat (first | with_reducible assumption | with_reducible apply applyVerdict_still | intro _ | with_reducible apply Still.ite | simp only [Still.upd] | dsimp only | split)

theorem takeClose_still {s0 : State} (src : DevId) (p : PartId) (k : Packet) (s : State) (hk : Still s0 s) : Still s0 (takeClose src p k s) := by
  unfold takeClose
  repeat (first | with_reducible assumption | with_reducible apply tryClose_still | with_reducible apply updConj_still | with_reducible apply updPart_still | intro _ | with_reducible apply Still.ite | simp only [Still.upd] | dsimp only | split)

theorem takeBad_still {s0 : State} (src : DevId) (p : PartId) (b : Bytes) (s : State) (hk : Still s0 s) : Still s0 (takeBad src p b s) := by
  unfold takeBad
  repeat (first | with_reducible assumption | with_reducible apply cntPart_still | with_reducible apply sendRefuse_still | with_reducible refine countFail_still (by with_reducible assumption) ?_ | with_reducible apply countFail_snd_still | with_reducible apply conjSettle_still | with_reducible apply reissueTag_still | intro _ | with_reducible apply Still.ite | with_reducible apply Still.iteSnd | with_reducible apply Still.iteFst | simp only [Still.upd] | dsimp only | split)

theorem judgeResult_still {s0 : State} (p : PartId) (k : Packet) (s : State) (hk : Still s0 s) : Still s0 (judgeResult p k s) := by
  unfold judgeResult
  repeat (first | with_reducible assumption | with_reducible apply cntPart_still | with_reducible apply takeResult_still | intro _ | with_reducible apply Still.ite | simp only [Still.upd] | dsimp only | split)

theorem deliverPacket_still {s0 : State} (src : DevId) (path : Path) (dt : Nat) (p : PartId) (b : Bytes) (s : State) (hk : Still s0 s) : Still s0 (deliverPacket src path dt p b s) := by
  unfold deliverPacket
  repeat (first | with_reducible assumption | with_reducible apply takeBad_still | with_reducible apply leavePool_still | with_reducible apply sendRefuse_still | with_reducible refine judgeEpoch_still (by with_reducible assumption) ?_ | with_reducible apply judgeEpoch_snd_still | with_reducible apply refuseEpoch_still | with_reducible apply judgeResult_still | with_reducible refine judgePart_still (by with_reducible assumption) ?_ | with_reducible apply cntPart_still | with_reducible apply takeRow_still | with_reducible apply conjSettle_still | with_reducible apply eachOf_still | with_reducible apply takeVerdict_still | with_reducible apply takeClose_still | intro _ | with_reducible apply Still.ite | with_reducible apply Still.iteSnd | with_reducible apply Still.iteFst | simp only [Still.upd] | dsimp only | split)

theorem arrivePiece_still {s0 : State} (src : DevId) (path : Path) (dt : Nat) (p : PartId) (b : Bytes) (s : State) (hk : Still s0 s) : Still s0 (arrivePiece src path dt p b s) := by
  unfold arrivePiece
  repeat (first | with_reducible assumption | with_reducible apply leavePool_still | with_reducible apply colSettle_still | with_reducible apply dataBad_still | with_reducible refine judgeEpoch_still (by with_reducible assumption) ?_ | with_reducible apply judgeEpoch_snd_still | with_reducible apply refuseEpoch_still | with_reducible refine judgePart_still (by with_reducible assumption) ?_ | with_reducible apply cntPart_still | with_reducible apply deliverPiece_still | intro _ | with_reducible apply Still.ite | with_reducible apply Still.iteSnd | with_reducible apply Still.iteFst | simp only [Still.upd] | dsimp only | split)

theorem deliverHeld_still {s0 : State} (d : DevId) (p : PartId) (path : Path) (isPiece : Bool) (dt : Nat) (b : Bytes) (s : State) (hk : Still s0 s) : Still s0 (deliverHeld d p path isPiece dt b s) := by
  unfold deliverHeld
  repeat (first | with_reducible assumption | with_reducible apply arrivePiece_still | with_reducible apply deliverPacket_still | intro _ | with_reducible apply Still.ite | simp only [Still.upd] | dsimp only | split)

theorem markMoved_still {s0 : State} (p : PartId) (e : HeldPkt) (s : State) (hk : Still s0 s) : Still s0 (markMoved p e s) := by
  unfold markMoved
  repeat (first | with_reducible assumption | with_reducible apply updRows_still | intro _ | with_reducible apply Still.ite | simp only [Still.upd] | dsimp only | split)

theorem drainFlow_still {s0 : State} (d : DevId) (p : PartId) : ∀ (x0 : Nat) (s : State), Still s0 s → Still s0 (drainFlow d p x0 s)
  | 0, s, h => by
    unfold drainFlow
    repeat (first | with_reducible assumption | with_reducible apply updFlow_still | with_reducible apply markMoved_still | with_reducible apply deliverHeld_still | intro _ | with_reducible apply Still.ite | simp only [Still.upd] | dsimp only | split)
  | n + 1, s, h => by
    unfold drainFlow
    repeat (first | with_reducible assumption | with_reducible apply drainFlow_still | with_reducible apply updFlow_still | with_reducible apply markMoved_still | with_reducible apply deliverHeld_still | intro _ | with_reducible apply Still.ite | simp only [Still.upd] | dsimp only | split)

theorem drainPart_still {s0 : State} (p : PartId) (s : State) (hk : Still s0 s) : Still s0 (drainPart p s) := by
  unfold drainPart
  repeat (first | with_reducible assumption | with_reducible apply settleRows_still | with_reducible apply eachOf_still | with_reducible apply drainFlow_still | intro _ | with_reducible apply Still.ite | with_reducible apply Still.iteSnd | with_reducible apply Still.iteFst | simp only [Still.upd] | dsimp only | split)

theorem holdPacket_still {s0 : State} (src : DevId) (path : Path) (isPiece : Bool) (p : PartId) (seq : Nat) (b : Bytes) (s : State) (hk : Still s0 s) : Still s0 (holdPacket src path isPiece p seq b s) := by
  unfold holdPacket
  repeat (first | with_reducible assumption | with_reducible apply cntBridle_still | with_reducible apply leavePool_still | with_reducible apply updFlow_still | intro _ | with_reducible apply Still.ite | simp only [Still.upd] | dsimp only | split)

theorem passOver_still {s0 : State} (src : DevId) (path : Path) (p : PartId) (seq : Nat) (s : State) (hk : Still s0 s) : Still s0 (passOver src path p seq s) := by
  unfold passOver
  repeat (first | with_reducible assumption | with_reducible apply updFlow_still | intro _ | with_reducible apply Still.ite | simp only [Still.upd] | dsimp only | split)

theorem seeRise_still {s0 : State} (src : DevId) (p : PartId) (isPiece : Bool) (seq : Nat) (b : Bytes) (s : State) (hk : Still s0 s) : Still s0 (seeRise src p isPiece seq b s) := by
  unfold seeRise
  repeat (first | with_reducible assumption | with_reducible refine judgePart_still (by with_reducible assumption) ?_ | with_reducible apply dropHeld_still | intro _ | with_reducible apply Still.ite | simp only [Still.upd] | dsimp only | split)

theorem takeTurn_still {s0 : State} (src : DevId) (path : Path) (isPiece : Bool) (p : PartId) (b : Bytes) (s : State) (hk : Still s0 s) : Still s0 (takeTurn src path isPiece p b s) := by
  unfold takeTurn
  repeat (first | with_reducible assumption | with_reducible apply cntBridle_still | with_reducible apply leavePool_still | with_reducible apply drainPart_still | with_reducible apply holdPacket_still | with_reducible apply seeRise_still | intro _ | with_reducible apply Still.ite | simp only [Still.upd] | dsimp only | split)

theorem arriveBad_still {s0 : State} (src : DevId) (path : Path) (p : PartId) (b : Bytes) (s : State) (hk : Still s0 s) : Still s0 (arriveBad src path p b s) := by
  unfold arriveBad
  repeat (first | with_reducible assumption | with_reducible apply takeBad_still | with_reducible apply leavePool_still | with_reducible apply drainPart_still | with_reducible apply passOver_still | intro _ | with_reducible apply Still.ite | simp only [Still.upd] | dsimp only | split)

theorem arrive_still {s0 : State} (src : DevId) (path : Path) (isPiece : Bool) (b : Bytes) (s : State) (hk : Still s0 s) : Still s0 (arrive src path isPiece b s) := by
  unfold arrive
  repeat (first | with_reducible assumption | with_reducible apply arriveMeets_still | with_reducible apply takeTurn_still | with_reducible apply arriveBad_still | with_reducible apply drainPart_still | with_reducible apply takeRefuse_still | with_reducible apply leavePool_still | intro _ | with_reducible apply Still.ite | simp only [Still.upd] | dsimp only | split)

theorem arriveKind_still {s0 : State} (src : DevId) (path : Path) (isPiece : Bool) (kinds : Nat → Bool) (b : Bytes) (s : State) (hk : Still s0 s) : StillO s0 (arriveKind src path isPiece kinds b s) := by
  unfold arriveKind
  repeat (first | with_reducible assumption | with_reducible apply StillO.next | with_reducible apply StillO.ite | with_reducible apply arrive_still | intro _ | with_reducible apply Still.ite | simp only [Still.upd] | dsimp only | split)

theorem execResultReceive_still {s0 : State} (src : DevId) (path : Path) (pkt : Bytes) (s : State) (hk : Still s0 s) : StillO s0 (execResultReceive src path pkt s) := by
  unfold execResultReceive
  repeat (first | with_reducible assumption | with_reducible apply StillO.next | with_reducible apply StillO.ite | with_reducible apply arriveKind_still | intro _ | with_reducible apply Still.ite | simp only [Still.upd] | dsimp only | split)

theorem execVerdictReceive_still {s0 : State} (src : DevId) (path : Path) (pkt : Bytes) (s : State) (hk : Still s0 s) : StillO s0 (execVerdictReceive src path pkt s) := by
  unfold execVerdictReceive
  repeat (first | with_reducible assumption | with_reducible apply StillO.next | with_reducible apply StillO.ite | with_reducible apply arriveKind_still | intro _ | with_reducible apply Still.ite | simp only [Still.upd] | dsimp only | split)

theorem execCloseReceive_still {s0 : State} (src : DevId) (path : Path) (pkt : Bytes) (s : State) (hk : Still s0 s) : StillO s0 (execCloseReceive src path pkt s) := by
  unfold execCloseReceive
  repeat (first | with_reducible assumption | with_reducible apply StillO.next | with_reducible apply StillO.ite | with_reducible apply arriveKind_still | intro _ | with_reducible apply Still.ite | simp only [Still.upd] | dsimp only | split)

theorem execDropReceive_still {s0 : State} (src : DevId) (path : Path) (pkt : Bytes) (s : State) (hk : Still s0 s) : StillO s0 (execDropReceive src path pkt s) := by
  unfold execDropReceive
  repeat (first | with_reducible assumption | with_reducible apply StillO.next | with_reducible apply StillO.ite | with_reducible apply arriveKind_still | intro _ | with_reducible apply Still.ite | simp only [Still.upd] | dsimp only | split)

theorem execRefuseReceive_still {s0 : State} (src : DevId) (path : Path) (pkt : Bytes) (s : State) (hk : Still s0 s) : StillO s0 (execRefuseReceive src path pkt s) := by
  unfold execRefuseReceive
  repeat (first | with_reducible assumption | with_reducible apply StillO.next | with_reducible apply StillO.ite | with_reducible apply arriveKind_still | intro _ | with_reducible apply Still.ite | simp only [Still.upd] | dsimp only | split)

theorem noteOps_still {s0 : State} (src : DevId) (b : Bytes) (ops : Option ColOps) (s : State) (hk : Still s0 s) : Still s0 (noteOps src b ops s) := by
  unfold noteOps
  repeat (first | with_reducible assumption | intro _ | with_reducible apply Still.ite | simp only [Still.upd] | dsimp only | split)

theorem execColDataReceive_still {s0 : State} (src : DevId) (path : Path) (pkt : Bytes) (ops : Option ColOps) (s : State) (hk : Still s0 s) : StillO s0 (execColDataReceive src path pkt ops s) := by
  unfold execColDataReceive
  repeat (first | with_reducible assumption | with_reducible apply StillO.next | with_reducible apply StillO.ite | with_reducible apply arriveKind_still | with_reducible apply noteOps_still | intro _ | with_reducible apply Still.ite | simp only [Still.upd] | dsimp only | split)

theorem execColAckReceive_still {s0 : State} (src : DevId) (path : Path) (pkt : Bytes) (s : State) (hk : Still s0 s) : StillO s0 (execColAckReceive src path pkt s) := by
  unfold execColAckReceive
  repeat (first | with_reducible assumption | with_reducible apply StillO.next | with_reducible apply StillO.ite | with_reducible apply arriveKind_still | intro _ | with_reducible apply Still.ite | simp only [Still.upd] | dsimp only | split)

theorem execColNackReceive_still {s0 : State} (src : DevId) (path : Path) (pkt : Bytes) (s : State) (hk : Still s0 s) : StillO s0 (execColNackReceive src path pkt s) := by
  unfold execColNackReceive
  repeat (first | with_reducible assumption | with_reducible apply StillO.next | with_reducible apply StillO.ite | with_reducible apply arriveKind_still | intro _ | with_reducible apply Still.ite | simp only [Still.upd] | dsimp only | split)

theorem execJoinReceive_still {s0 : State} (src : DevId) (path : Path) (pkt : Bytes) (s : State) (hk : Still s0 s) : StillO s0 (execJoinReceive src path pkt s) := by
  unfold execJoinReceive
  repeat (first | with_reducible assumption | with_reducible apply StillO.next | with_reducible apply StillO.ite | with_reducible apply arriveKind_still | intro _ | with_reducible apply Still.ite | simp only [Still.upd] | dsimp only | split)

theorem execReadyReceive_still {s0 : State} (src : DevId) (path : Path) (pkt : Bytes) (s : State) (hk : Still s0 s) : StillO s0 (execReadyReceive src path pkt s) := by
  unfold execReadyReceive
  repeat (first | with_reducible assumption | with_reducible apply StillO.next | with_reducible apply StillO.ite | with_reducible apply arriveKind_still | intro _ | with_reducible apply Still.ite | simp only [Still.upd] | dsimp only | split)

theorem execColAbortReceive_still {s0 : State} (src : DevId) (path : Path) (pkt : Bytes) (s : State) (hk : Still s0 s) : StillO s0 (execColAbortReceive src path pkt s) := by
  unfold execColAbortReceive
  repeat (first | with_reducible assumption | with_reducible apply StillO.next | with_reducible apply StillO.ite | with_reducible apply arriveKind_still | intro _ | with_reducible apply Still.ite | simp only [Still.upd] | dsimp only | split)

theorem execColProbeReceive_still {s0 : State} (src : DevId) (path : Path) (pkt : Bytes) (s : State) (hk : Still s0 s) : StillO s0 (execColProbeReceive src path pkt s) := by
  unfold execColProbeReceive
  repeat (first | with_reducible assumption | with_reducible apply StillO.next | with_reducible apply StillO.ite | with_reducible apply arriveKind_still | intro _ | with_reducible apply Still.ite | simp only [Still.upd] | dsimp only | split)

theorem execColProbeAckReceive_still {s0 : State} (src : DevId) (path : Path) (pkt : Bytes) (s : State) (hk : Still s0 s) : StillO s0 (execColProbeAckReceive src path pkt s) := by
  unfold execColProbeAckReceive
  repeat (first | with_reducible assumption | with_reducible apply StillO.next | with_reducible apply StillO.ite | with_reducible apply arriveKind_still | intro _ | with_reducible apply Still.ite | simp only [Still.upd] | dsimp only | split)

theorem execPassStart_still {s0 : State} (p : PartId) (expert : Nat) (s : State) (hk : Still s0 s) : StillO s0 (execPassStart p expert s) := by
  unfold execPassStart
  repeat (first | with_reducible assumption | with_reducible apply StillO.next | with_reducible apply StillO.ite | with_reducible apply drainPart_still | with_reducible apply passStart_still | intro _ | with_reducible apply Still.ite | simp only [Still.upd] | dsimp only | split)

theorem execReissuePassTimer_still {s0 : State} (p : PartId) (expert : Nat) (s : State) (hk : Still s0 s) : StillO s0 (execReissuePassTimer p expert s) := by
  unfold execReissuePassTimer
  repeat (first | with_reducible assumption | with_reducible apply StillO.next | with_reducible apply StillO.ite | with_reducible apply drainPart_still | with_reducible apply reissuePass_still | intro _ | with_reducible apply Still.ite | simp only [Still.upd] | dsimp only | split)

theorem execTeardownServeEnd_still {s0 : State} (p : PartId) (s : State) (hk : Still s0 s) : StillO s0 (execTeardownServeEnd p s) := by
  unfold execTeardownServeEnd
  repeat (first | with_reducible assumption | with_reducible apply StillO.next | with_reducible apply StillO.ite | with_reducible apply drainPart_still | with_reducible apply serveEnd_still | intro _ | with_reducible apply Still.ite | simp only [Still.upd] | dsimp only | split)

theorem pwrStatus_still {s0 : State} (cmd reason : Nat) (s : State) (hk : Still s0 s) : Still s0 (pwrStatus cmd reason s) := by
  unfold pwrStatus
  repeat (first | with_reducible assumption | intro _ | with_reducible apply Still.ite | simp only [Still.upd] | dsimp only | split)

theorem alertStep_still {s0 : State} (s : State) (hk : Still s0 s) : Still s0 (alertStep s) := by
  unfold alertStep
  repeat (first | with_reducible assumption | with_reducible apply mgtEvent_still | with_reducible apply emit_still | intro _ | with_reducible apply Still.ite | simp only [Still.upd] | dsimp only | split)

theorem execHbmTempReport_still {s0 : State} (stack : Fin 6) (temp : Int) (s : State) (hk : Still s0 s) : StillO s0 (execHbmTempReport stack temp s) := by
  unfold execHbmTempReport
  repeat (first | with_reducible assumption | with_reducible apply StillO.next | with_reducible apply StillO.ite | intro _ | with_reducible apply Still.ite | simp only [Still.upd] | dsimp only | split)

theorem overLimit_still {s0 : State} (avg : Nat) (s : State) (hk : Still s0 s) : Still s0 (overLimit avg s) := by
  unfold overLimit
  repeat (first | with_reducible assumption | with_reducible apply cntPower_still | with_reducible apply mgtEvent_still | with_reducible apply mgtRecord_still | with_reducible apply recordAll_still | intro _ | with_reducible apply Still.ite | simp only [Still.upd] | dsimp only | split)

theorem energyStep_still {s0 : State} (watts : Nat) (s : State) (hk : Still s0 s) : Still s0 (energyStep watts s) := by
  unfold energyStep
  repeat (first | with_reducible assumption | intro _ | with_reducible apply Still.ite | simp only [Still.upd] | dsimp only | split)

theorem execPwrLimitWWrite_still {s0 : State} (r : Requester) (v : Nat) (s : State) (hk : Still s0 s) : StillO s0 (execPwrLimitWWrite r v s) := by
  unfold execPwrLimitWWrite
  repeat (first | with_reducible assumption | with_reducible apply StillO.next | with_reducible apply StillO.ite | intro _ | with_reducible apply Still.ite | simp only [Still.upd] | dsimp only | split)

theorem execPwrCloseUsWrite_still {s0 : State} (r : Requester) (v : Nat) (s : State) (hk : Still s0 s) : StillO s0 (execPwrCloseUsWrite r v s) := by
  unfold execPwrCloseUsWrite
  repeat (first | with_reducible assumption | with_reducible apply StillO.next | with_reducible apply StillO.ite | intro _ | with_reducible apply Still.ite | simp only [Still.upd] | dsimp only | split)

theorem gateCluster_still {s0 : State} (c : ClusterId) (s : State) (hk : Still s0 s) : Still s0 (gateCluster c s) := by
  unfold gateCluster
  repeat (first | with_reducible assumption | with_reducible apply noticeChange_still | with_reducible apply setCluster_still | intro _ | with_reducible apply Still.ite | simp only [Still.upd] | dsimp only | split)

theorem execGate_still {s0 : State} (r : Requester) (v : Nat) (s : State) (hk : Still s0 s) : StillO s0 (execGate r v s) := by
  unfold execGate
  repeat (first | with_reducible assumption | with_reducible apply StillO.next | with_reducible apply StillO.ite | with_reducible apply pwrStatus_still | with_reducible apply gateCluster_still | intro _ | with_reducible apply Still.ite | simp only [Still.upd] | dsimp only | split)

theorem execClusterNoticeTimer_still {s0 : State} (s : State) (hk : Still s0 s) : StillO s0 (execClusterNoticeTimer s) := by
  unfold execClusterNoticeTimer
  repeat (first | with_reducible assumption | with_reducible apply StillO.next | with_reducible apply StillO.ite | with_reducible apply noticeCtx_still | with_reducible apply Still.foldl | intro _ | with_reducible apply Still.ite | simp only [Still.upd] | dsimp only | split)

theorem execClusterNoticeReceive_still {s0 : State} (notice : Bytes) (s : State) (hk : Still s0 s) : StillO s0 (execClusterNoticeReceive notice s) := by
  unfold execClusterNoticeReceive
  repeat (first | with_reducible assumption | with_reducible apply StillO.next | with_reducible apply StillO.ite | with_reducible apply eachOf_still | with_reducible apply updPlane_still | with_reducible apply learnStart_still | with_reducible apply updPeer_still | intro _ | with_reducible apply Still.ite | with_reducible apply Still.iteSnd | with_reducible apply Still.iteFst | simp only [Still.upd] | dsimp only | split)

theorem execCloseTimeElapsed_still {s0 : State} (c : ClusterId) (s : State) (hk : Still s0 s) : StillO s0 (execCloseTimeElapsed c s) := by
  unfold execCloseTimeElapsed
  repeat (first | with_reducible assumption | with_reducible apply StillO.next | with_reducible apply StillO.ite | with_reducible apply updCluster_still | with_reducible apply setCluster_still | intro _ | with_reducible apply Still.ite | simp only [Still.upd] | dsimp only | split)

theorem execDrainComplete_still {s0 : State} (c : ClusterId) (s : State) (hk : Still s0 s) : StillO s0 (execDrainComplete c s) := by
  unfold execDrainComplete
  repeat (first | with_reducible assumption | with_reducible apply StillO.next | with_reducible apply StillO.ite | with_reducible apply setCluster_still | intro _ | with_reducible apply Still.ite | simp only [Still.upd] | dsimp only | split)

theorem refuseHeld_still {s0 : State} (p : PartId) (r : RowRec) (s : State) (hk : Still s0 s) : Still s0 (refuseHeld p r s) := by
  unfold refuseHeld
  repeat (first | with_reducible assumption | with_reducible apply cntPower_still | with_reducible apply dropRow_still | with_reducible apply sendRefuse_still | with_reducible apply refuseSpec_still | with_reducible apply conjSettle_still | with_reducible apply reissueTag_still | with_reducible apply noteBounce_still | intro _ | with_reducible apply Still.ite | simp only [Still.upd] | dsimp only | split)

theorem execDrainCap_still {s0 : State} (c : ClusterId) (s : State) (hk : Still s0 s) : StillO s0 (execDrainCap c s) := by
  unfold execDrainCap
  repeat (first | with_reducible assumption | with_reducible apply StillO.next | with_reducible apply StillO.ite | with_reducible apply setCluster_still | with_reducible apply eachOf_still | with_reducible apply drainPart_still | with_reducible apply refuseHeld_still | intro _ | with_reducible apply Still.ite | simp only [Still.upd] | dsimp only | split)

end Sys2Proof.Laws
end

