-- ==== Sys2Proof/Laws/Shared.lean ====
section
/-!
SUPPORT. Shared.lean: what the security log, the vault, the ECC of BAR4, sorting and a pair message leave alone.
-/
namespace Sys2Proof.Laws
open Sys2Proof Sys2Proof.Machine Sys2Proof.Safety

@[simp] theorem secLog_hbm (e r x : Nat) (d : Bytes) (s : State) : (secLog e r x d s).hbm = s.hbm := by
  unfold secLog; split; rfl; dsimp only; split <;> rfl
@[simp] theorem secLog_parts (e r x : Nat) (d : Bytes) (s : State) : (secLog e r x d s).parts = s.parts := by
  unfold secLog; split; rfl; dsimp only; split <;> rfl
@[simp] theorem secLog_ports (e r x : Nat) (d : Bytes) (s : State) : (secLog e r x d s).ports = s.ports := by
  unfold secLog; split; rfl; dsimp only; split <;> rfl
@[simp] theorem secLog_selftest (e r x : Nat) (d : Bytes) (s : State) : (secLog e r x d s).sec.selftestPassed = s.sec.selftestPassed := by
  unfold secLog; split; rfl; dsimp only; split <;> rfl
@[simp] theorem secLog_boot (e r x : Nat) (d : Bytes) (s : State) : (secLog e r x d s).boot = s.boot := by
  unfold secLog; split; rfl; dsimp only; split <;> rfl
@[simp] theorem secLog_pins (e r x : Nat) (d : Bytes) (s : State) : (secLog e r x d s).pins = s.pins := by
  unfold secLog; split; rfl; dsimp only; split <;> rfl
@[simp] theorem secLog_fuses (e r x : Nat) (d : Bytes) (s : State) : (secLog e r x d s).fuses = s.fuses := by
  unfold secLog; split; rfl; dsimp only; split <;> rfl
@[simp] theorem secLog_cfg (e r x : Nat) (d : Bytes) (s : State) : (secLog e r x d s).cfg = s.cfg := by
  unfold secLog; split; rfl; dsimp only; split <;> rfl
@[simp] theorem secLog_img (e r x : Nat) (d : Bytes) (s : State) : (secLog e r x d s).img = s.img := by
  unfold secLog; split; rfl; dsimp only; split <;> rfl
theorem readVault_eq (s : State) : (readVault s).parts = s.parts ∧ (readVault s).ports = s.ports ∧ (readVault s).sec.selftestPassed = s.sec.selftestPassed := by
  unfold readVault; dsimp only; split
  · split <;> exact ⟨rfl, rfl, rfl⟩
  · exact ⟨rfl, rfl, rfl⟩
theorem deriveKeys_eq (s : State) : (deriveKeys s).parts = s.parts ∧ (deriveKeys s).ports = s.ports ∧ (deriveKeys s).sec.selftestPassed = s.sec.selftestPassed := by
  unfold deriveKeys; dsimp only
  obtain ⟨a, b, c⟩ := readVault_eq (freshNonce { s with sec := { s.sec with
    keys := { ork := Config.kdf (if s.fuses.hukBlock.on then 0 else 1) (s.fuses.ownerHash ++ toLe 1 (ownerGen s)), vaultKey := Config.kdf (Config.kdf (if s.fuses.hukBlock.on then 0 else 1) (s.fuses.ownerHash ++ toLe 1 (ownerGen s))) [1#8], devId := Config.kdf (if s.fuses.hukBlock.on then 0 else 1) [2#8], tkey := Config.kdf (if s.fuses.hukBlock.on then 0 else 1) [3#8],
              alias_ := Config.kdf (Config.kdf (if s.fuses.hukBlock.on then 0 else 1) [2#8]) (sha384 (bootMeasurements s)), drbg := Config.kdf (if s.fuses.hukBlock.on then 0 else 1) [4#8] }
    certMismatch := !(compChain s).isEmpty && !Config.chainEndsIn (compChain s) (Config.kdf (if s.fuses.hukBlock.on then 0 else 1) [2#8])
    tkeyPub := bytesAt (Config.sign (Config.kdf (if s.fuses.hukBlock.on then 0 else 1) [3#8]) []) 0 96 } })
  exact ⟨a, b, c⟩
theorem bar4Ecc_nil (r : Requester) (off n : Nat) (w : Bool) (s : State) : bar4Ecc r off n w [] s = s := by
  unfold bar4Ecc
  split
  · rfl
  · split
    · split <;> rfl
    · rfl
theorem mem_insertBy {α : Type} (lt : α → α → Bool) (x y : α) : ∀ l : List α, y ∈ insertBy lt x l ↔ y = x ∨ y ∈ l
  | [] => by simp [insertBy]
  | z :: l => by
    unfold insertBy
    split
    · simp
    · simp only [List.mem_cons, mem_insertBy lt x y l]
      constructor
      · rintro (h | h | h) <;> simp [h]
      · rintro (h | h | h) <;> simp [h]
theorem mem_sortBy {α : Type} (lt : α → α → Bool) (l : List α) (y : α) : y ∈ sortBy lt l ↔ y ∈ l := by
  have h : ∀ (l a : List α), y ∈ l.foldl (fun a x => insertBy lt x a) a ↔ y ∈ a ∨ y ∈ l := by
    intro l
    induction l with
    | nil => simp
    | cons x l ih => intro a; simp only [List.foldl_cons, ih, mem_insertBy, List.mem_cons]; rw [or_assoc]; exact or_left_comm
  simpa [sortBy] using h l []
theorem hear_state {m b : Bytes} {k : Nat} {h : PairHead} {s u : State} (e : hearPair m k s = some (h, b, u)) : u.pair.state = s.pair.state := by
  unfold hearPair at e
  split at e
  · simp at e
  · split at e
    · split at e
      · simp only [Option.some.injEq, Prod.mk.injEq] at e
        obtain ⟨-, -, e⟩ := e
        subst e; rfl
      · simp at e
    · simp at e

end Sys2Proof.Laws
end

