-- ==== Sys2Proof/Laws/Still5.lean ====
section
/-!
SUPPORT. Still5.lean: what leaves the standing state alone, one lemma per operation, in the order of the definitions (5 of 5).
Still s t: start-up state, pins, fuses and the configuration applied are those of s.
-/
set_option linter.all false
namespace Sys2Proof.Laws
open Sys2Proof Sys2Proof.Machine Sys2Proof.Safety

theorem execIsolationTimer_still {s0 : State} (c : ClusterId) (s : State) (hk : Still s0 s) : StillO s0 (execIsolationTimer c s) := by
  unfold execIsolationTimer
  repeat (first | with_reducible assumption | with_reducible apply StillO.next | with_reducible apply StillO.ite | with_reducible apply setCluster_still | intro _ | with_reducible apply Still.ite | simp only [Still.upd] | dsimp only | split)

theorem execPwrWake_still {s0 : State} (r : Requester) (v : Nat) (s : State) (hk : Still s0 s) : StillO s0 (execPwrWake r v s) := by
  unfold execPwrWake
  repeat (first | with_reducible assumption | with_reducible apply StillO.next | with_reducible apply StillO.ite | with_reducible apply pwrStatus_still | with_reducible apply noticeChange_still | with_reducible apply setCluster_still | with_reducible apply updCluster_still | intro _ | with_reducible apply Still.ite | simp only [Still.upd] | dsimp only | split)

theorem execClusterPowerUpDone_still {s0 : State} (c : ClusterId) (s : State) (hk : Still s0 s) : StillO s0 (execClusterPowerUpDone c s) := by
  unfold execClusterPowerUpDone
  repeat (first | with_reducible assumption | with_reducible apply StillO.next | with_reducible apply StillO.ite | with_reducible apply updCluster_still | with_reducible apply noticeChange_still | with_reducible apply setCluster_still | intro _ | with_reducible apply Still.ite | simp only [Still.upd] | dsimp only | split)

theorem gateUnnamed_still {s0 : State} (s : State) (hk : Still s0 s) : Still s0 (gateUnnamed s) := by
  unfold gateUnnamed
  repeat (first | with_reducible assumption | with_reducible apply eachOf_still | with_reducible apply gateCluster_still | intro _ | with_reducible apply Still.ite | simp only [Still.upd] | dsimp only | split)

theorem voidTorn_still {s0 : State} (s : State) (hk : Still s0 s) : Still s0 (voidTorn s) := by
  unfold voidTorn
  repeat (first | with_reducible assumption | with_reducible apply flashWrite_still | intro _ | with_reducible apply Still.ite | simp only [Still.upd] | dsimp only | split)

theorem actZeroize_still {s0 t : State} {v : Nat} {s : State} (e : actZeroize s = (v, t)) (hk : Still s0 s) : Still s0 t := by
  unfold actZeroize at e
  (try dsimp only at e)
  repeat' split at e
  all_goals (try cases e)
  all_goals repeat (first | with_reducible assumption | with_reducible apply zeroizeAll_still | with_reducible apply secLog_still | intro _ | with_reducible apply Still.ite | simp only [Still.upd] | dsimp only | split)

theorem actZeroize_snd_still {s0 : State} (s : State) (hk : Still s0 s) : Still s0 (actZeroize s).2 :=
  actZeroize_still (Prod.eta _).symm hk

theorem actVault_still {s0 t : State} {v : Nat} {b : Bytes} {s : State} (e : actVault b s = (v, t)) (hk : Still s0 s) : Still s0 t := by
  unfold actVault at e
  (try dsimp only at e)
  repeat' split at e
  all_goals (try cases e)
  all_goals repeat (first | with_reducible assumption | with_reducible refine drbgBytes_still (by with_reducible assumption) ?_ | with_reducible apply drbgBytes_snd_still | with_reducible apply flashWrite_still | with_reducible apply flashErase_still | with_reducible apply secLog_still | intro _ | with_reducible apply Still.ite | with_reducible apply Still.iteSnd | with_reducible apply Still.iteFst | simp only [Still.upd] | dsimp only | split)

theorem actVault_snd_still {s0 : State} (b : Bytes) (s : State) (hk : Still s0 s) : Still s0 (actVault b s).2 :=
  actVault_still (Prod.eta _).symm hk

theorem actLogClear_still {s0 t : State} {v : Nat} {s : State} (e : actLogClear s = (v, t)) (hk : Still s0 s) : Still s0 t := by
  unfold actLogClear at e
  (try dsimp only at e)
  repeat' split at e
  all_goals (try cases e)
  all_goals repeat (first | with_reducible assumption | with_reducible apply flashErase_still | with_reducible apply secLog_still | intro _ | with_reducible apply Still.ite | simp only [Still.upd] | dsimp only | split)

theorem actLogClear_snd_still {s0 : State} (s : State) (hk : Still s0 s) : Still s0 (actLogClear s).2 :=
  actLogClear_still (Prod.eta _).symm hk

theorem secEnd_still {s0 : State} (op status : Nat) (s : State) (hk : Still s0 s) : Still s0 (secEnd op status s) := by
  unfold secEnd
  repeat (first | with_reducible assumption | with_reducible apply freshNonce_still | intro _ | with_reducible apply Still.ite | simp only [Still.upd] | dsimp only | split)

theorem sigFailed_still {s0 : State} (op : Nat) (s : State) (hk : Still s0 s) : Still s0 (sigFailed op s) := by
  unfold sigFailed
  repeat (first | with_reducible assumption | with_reducible apply cntDev_still | with_reducible apply mgtRecord_still | with_reducible apply secLogMergedAs_still | intro _ | with_reducible apply Still.ite | simp only [Still.upd] | dsimp only | split)

theorem execAuthLockoutEnd_still {s0 : State} (s : State) (hk : Still s0 s) : StillO s0 (execAuthLockoutEnd s) := by
  unfold execAuthLockoutEnd
  repeat (first | with_reducible assumption | with_reducible apply StillO.next | with_reducible apply StillO.ite | intro _ | with_reducible apply Still.ite | simp only [Still.upd] | dsimp only | split)

theorem spdmError_still {s0 : State} (bd : SpdmBinding) (code : Nat) (s : State) (hk : Still s0 s) : Still s0 (spdmError bd code s) := by
  unfold spdmError
  repeat (first | with_reducible assumption | with_reducible apply emit_still | intro _ | with_reducible apply Still.ite | simp only [Still.upd] | dsimp only | split)

theorem spdmServe_still {s0 : State} (bd : SpdmBinding) (f : State → State) (s : State) (hf : ∀ x0, Still s0 x0 → Still s0 (f x0)) (hk : Still s0 s) : StillO s0 (spdmServe bd f s) := by
  unfold spdmServe
  repeat (first | with_reducible apply hf | with_reducible assumption | with_reducible apply StillO.next | with_reducible apply StillO.ite | with_reducible apply spdmError_still | intro _ | with_reducible apply Still.ite | simp only [Still.upd] | dsimp only | split)

theorem execSpdmGetCertificate_still {s0 : State} (bd : SpdmBinding) (slot off len : Nat) (s : State) (hk : Still s0 s) : StillO s0 (execSpdmGetCertificate bd slot off len s) := by
  unfold execSpdmGetCertificate
  repeat (first | with_reducible assumption | with_reducible apply StillO.next | with_reducible apply StillO.ite | with_reducible apply spdmServe_still | with_reducible apply spdmError_still | with_reducible apply emit_still | intro _ | with_reducible apply Still.ite | simp only [Still.upd] | dsimp only | split)

theorem execSpdmChallenge_still {s0 : State} (bd : SpdmBinding) (slot : Nat) (nonce : Bytes) (s : State) (hk : Still s0 s) : StillO s0 (execSpdmChallenge bd slot nonce s) := by
  unfold execSpdmChallenge
  repeat (first | with_reducible assumption | with_reducible apply StillO.next | with_reducible apply StillO.ite | with_reducible apply spdmServe_still | with_reducible apply spdmError_still | with_reducible refine drbgBytes_still (by with_reducible assumption) ?_ | with_reducible apply drbgBytes_snd_still | with_reducible apply emit_still | intro _ | with_reducible apply Still.ite | with_reducible apply Still.iteSnd | with_reducible apply Still.iteFst | simp only [Still.upd] | dsimp only | split)

theorem execSpdmGetMeasurements_still {s0 : State} (bd : SpdmBinding) (op : Nat) (nonce : Bytes) (s : State) (hk : Still s0 s) : StillO s0 (execSpdmGetMeasurements bd op nonce s) := by
  unfold execSpdmGetMeasurements
  repeat (first | with_reducible assumption | with_reducible apply StillO.next | with_reducible apply StillO.ite | with_reducible apply spdmServe_still | with_reducible apply spdmError_still | with_reducible refine drbgBytes_still (by with_reducible assumption) ?_ | with_reducible apply drbgBytes_snd_still | with_reducible apply emit_still | intro _ | with_reducible apply Still.ite | with_reducible apply Still.iteSnd | with_reducible apply Still.iteFst | simp only [Still.upd] | dsimp only | split)

theorem execSpdmKeyExchange_still {s0 : State} (bd : SpdmBinding) (share : Bytes) (s : State) (hk : Still s0 s) : StillO s0 (execSpdmKeyExchange bd share s) := by
  unfold execSpdmKeyExchange
  repeat (first | with_reducible assumption | with_reducible apply StillO.next | with_reducible apply StillO.ite | with_reducible apply spdmServe_still | with_reducible apply spdmError_still | with_reducible refine drbgBytes_still (by with_reducible assumption) ?_ | with_reducible apply drbgBytes_snd_still | with_reducible apply emit_still | intro _ | with_reducible apply Still.ite | with_reducible apply Still.iteSnd | with_reducible apply Still.iteFst | simp only [Still.upd] | dsimp only | split)

theorem updSession_still {s0 : State} (n : Nat) (f : SpdmSession → SpdmSession) (s : State) (hk : Still s0 s) : Still s0 (updSession n f s) := by
  unfold updSession
  repeat (first | with_reducible assumption | intro _ | with_reducible apply Still.ite | simp only [Still.upd] | dsimp only | split)

theorem inSession_still {s0 : State} (bd : SpdmBinding) (n : Nat) (f : SpdmSession → State → State) (s : State) (hf : ∀ x0 x1, Still s0 x1 → Still s0 (f x0 x1)) (hk : Still s0 s) : StillO s0 (inSession bd n f s) := by
  unfold inSession
  repeat (first | with_reducible apply hf | with_reducible assumption | with_reducible apply StillO.next | with_reducible apply StillO.ite | with_reducible apply spdmServe_still | with_reducible apply spdmError_still | intro _ | with_reducible apply Still.ite | simp only [Still.upd] | dsimp only | split)

theorem execSpdmKeyUpdate_still {s0 : State} (bd : SpdmBinding) (session : Nat) (s : State) (hk : Still s0 s) : StillO s0 (execSpdmKeyUpdate bd session s) := by
  unfold execSpdmKeyUpdate
  repeat (first | with_reducible assumption | with_reducible apply StillO.next | with_reducible apply StillO.ite | with_reducible apply inSession_still | with_reducible apply emit_still | with_reducible apply updSession_still | intro _ | with_reducible apply Still.ite | simp only [Still.upd] | dsimp only | split)

theorem execSpdmHeartbeat_still {s0 : State} (bd : SpdmBinding) (session : Nat) (s : State) (hk : Still s0 s) : StillO s0 (execSpdmHeartbeat bd session s) := by
  unfold execSpdmHeartbeat
  repeat (first | with_reducible assumption | with_reducible apply StillO.next | with_reducible apply StillO.ite | with_reducible apply inSession_still | with_reducible apply emit_still | with_reducible apply updSession_still | intro _ | with_reducible apply Still.ite | simp only [Still.upd] | dsimp only | split)

theorem execSpdmEndSession_still {s0 : State} (bd : SpdmBinding) (session : Nat) (s : State) (hk : Still s0 s) : StillO s0 (execSpdmEndSession bd session s) := by
  unfold execSpdmEndSession
  repeat (first | with_reducible assumption | with_reducible apply StillO.next | with_reducible apply StillO.ite | with_reducible apply inSession_still | with_reducible apply emit_still | intro _ | with_reducible apply Still.ite | simp only [Still.upd] | dsimp only | split)

theorem ideServe_still {s0 : State} (bd : SpdmBinding) (session : Nat) (k : PortId) (f : State → State) (s : State) (hf : ∀ x0, Still s0 x0 → Still s0 (f x0)) (hk : Still s0 s) : StillO s0 (ideServe bd session k f s) := by
  unfold ideServe
  repeat (first | with_reducible apply hf | with_reducible assumption | with_reducible apply StillO.next | with_reducible apply StillO.ite | with_reducible apply inSession_still | with_reducible apply spdmError_still | intro _ | with_reducible apply Still.ite | simp only [Still.upd] | dsimp only | split)

theorem ideAnswer_still {s0 : State} (bd : SpdmBinding) (obj : Nat) (body : Bytes) (s : State) (hk : Still s0 s) : Still s0 (ideAnswer bd obj body s) := by
  unfold ideAnswer
  repeat (first | with_reducible assumption | with_reducible apply emit_still | intro _ | with_reducible apply Still.ite | simp only [Still.upd] | dsimp only | split)

theorem execIdeKmQuery_still {s0 : State} (bd : SpdmBinding) (session : Nat) (port : PortId) (s : State) (hk : Still s0 s) : StillO s0 (execIdeKmQuery bd session port s) := by
  unfold execIdeKmQuery
  repeat (first | with_reducible assumption | with_reducible apply StillO.next | with_reducible apply StillO.ite | with_reducible apply ideServe_still | with_reducible apply ideAnswer_still | intro _ | with_reducible apply Still.ite | simp only [Still.upd] | dsimp only | split)

theorem execIdeKmKeyProg_still {s0 : State} (bd : SpdmBinding) (session : Nat) (port : PortId) (stream : Fin 5) (set : Fin 12) (key : Nat) (s : State) (hk : Still s0 s) : StillO s0 (execIdeKmKeyProg bd session port stream set key s) := by
  unfold execIdeKmKeyProg
  repeat (first | with_reducible assumption | with_reducible apply StillO.next | with_reducible apply StillO.ite | with_reducible apply ideServe_still | with_reducible apply ideAnswer_still | with_reducible apply updPort_still | intro _ | with_reducible apply Still.ite | simp only [Still.upd] | dsimp only | split)

theorem execIdeKmKSetGo_still {s0 : State} (bd : SpdmBinding) (session : Nat) (port : PortId) (stream : Fin 5) (set : Fin 12) (s : State) (hk : Still s0 s) : StillO s0 (execIdeKmKSetGo bd session port stream set s) := by
  unfold execIdeKmKSetGo
  repeat (first | with_reducible assumption | with_reducible apply StillO.next | with_reducible apply StillO.ite | with_reducible apply ideServe_still | with_reducible apply spdmError_still | with_reducible apply updPort_still | with_reducible apply release_still | with_reducible apply secLog_still | with_reducible apply ideAnswer_still | intro _ | with_reducible apply Still.ite | simp only [Still.upd] | dsimp only | split)

theorem execIdeKmKSetStop_still {s0 : State} (bd : SpdmBinding) (session : Nat) (port : PortId) (stream : Fin 5) (set : Fin 12) (s : State) (hk : Still s0 s) : StillO s0 (execIdeKmKSetStop bd session port stream set s) := by
  unfold execIdeKmKSetStop
  repeat (first | with_reducible assumption | with_reducible apply StillO.next | with_reducible apply StillO.ite | with_reducible apply ideServe_still | with_reducible apply ideAnswer_still | with_reducible apply ideInsecure_still | with_reducible apply updPort_still | intro _ | with_reducible apply Still.ite | simp only [Still.upd] | dsimp only | split)

theorem execJtagInstruction_still {s0 : State} (ir : Nat) (s : State) (hk : Still s0 s) : StillO s0 (execJtagInstruction ir s) := by
  unfold execJtagInstruction
  repeat (first | with_reducible assumption | with_reducible apply StillO.next | with_reducible apply StillO.ite | with_reducible apply secLog_still | with_reducible apply emit_still | intro _ | with_reducible apply Still.ite | simp only [Still.upd] | dsimp only | split)

theorem unitRecord_still {s0 : State} (trigger unit result cause mask duration : Nat) (s : State) (hk : Still s0 s) : Still s0 (unitRecord trigger unit result cause mask duration s) := by
  unfold unitRecord
  repeat (first | with_reducible assumption | with_reducible apply bistAppend_still | intro _ | with_reducible apply Still.ite | simp only [Still.upd] | dsimp only | split)

theorem isolateUnits_still {s0 : State} (us : List Nat) (s : State) (hk : Still s0 s) : Still s0 (isolateUnits us s) := by
  unfold isolateUnits
  repeat (first | with_reducible assumption | with_reducible apply eachOf_still | with_reducible apply setCluster_still | intro _ | with_reducible apply Still.ite | simp only [Still.upd] | dsimp only | split)

theorem endRun_still {s0 : State} (x : BistRun) (s : State) (hk : Still s0 s) : Still s0 (endRun x s) := by
  unfold endRun
  repeat (first | with_reducible assumption | with_reducible apply bistAppend_still | with_reducible apply mgtEvent_still | with_reducible apply eachOf_still | with_reducible apply setCluster_still | intro _ | with_reducible apply Still.ite | simp only [Still.upd] | dsimp only | split)

theorem notRun_still {s0 : State} (x : BistRun) (us : List Nat) (cause : Nat) (s : State) (hk : Still s0 s) : Still s0 (notRun x us cause s) := by
  unfold notRun
  repeat (first | with_reducible assumption | with_reducible apply unitRecord_still | with_reducible apply Still.foldl | intro _ | with_reducible apply Still.ite | simp only [Still.upd] | dsimp only | split)

theorem startBatches_still {s0 : State}  : ∀ (x0 : Nat) (x1 : BistRun) (s : State), Still s0 s → Still s0 (startBatches  x0 x1 s)
  | 0, x, s, h => by
    unfold startBatches
    repeat (first | with_reducible assumption | with_reducible apply endRun_still | with_reducible apply isolateUnits_still | with_reducible apply notRun_still | intro _ | with_reducible apply Still.ite | simp only [Still.upd] | dsimp only | split)
  | fuel + 1, x, s, h => by
    unfold startBatches
    repeat (first | with_reducible assumption | with_reducible apply startBatches_still | with_reducible apply endRun_still | with_reducible apply isolateUnits_still | with_reducible apply notRun_still | intro _ | with_reducible apply Still.ite | simp only [Still.upd] | dsimp only | split)

theorem startRun_still {s0 : State} (x : BistRun) (s : State) (hk : Still s0 s) : Still s0 (startRun x s) := by
  unfold startRun
  repeat (first | with_reducible assumption | with_reducible apply startBatches_still | with_reducible apply bistAppend_still | intro _ | with_reducible apply Still.ite | simp only [Still.upd] | dsimp only | split)

theorem refuseBist_still {s0 : State} (reason : Nat) (s : State) (hk : Still s0 s) : Still s0 (refuseBist reason s) := by
  unfold refuseBist
  repeat (first | with_reducible assumption | intro _ | with_reducible apply Still.ite | simp only [Still.upd] | dsimp only | split)

theorem execBistRun_still {s0 : State} (r : Requester) (v : Nat) (s : State) (hk : Still s0 s) : StillO s0 (execBistRun r v s) := by
  unfold execBistRun
  repeat (first | with_reducible assumption | with_reducible apply StillO.next | with_reducible apply StillO.ite | with_reducible apply refuseBist_still | with_reducible apply startRun_still | intro _ | with_reducible apply Still.ite | simp only [Still.upd] | dsimp only | split)

theorem linksOff_still {s0 : State} (s : State) (hk : Still s0 s) : Still s0 (linksOff s) := by
  unfold linksOff
  repeat (first | with_reducible assumption | with_reducible apply eachOf_still | with_reducible apply setBrl_still | with_reducible apply planeLeave_still | intro _ | with_reducible apply Still.ite | simp only [Still.upd] | dsimp only | split)

theorem execPartitionResetComplete_still {s0 : State} (p : PartId) (s : State) (hk : Still s0 s) : StillO s0 (execPartitionResetComplete p s) := by
  unfold execPartitionResetComplete
  repeat (first | with_reducible assumption | with_reducible apply StillO.next | with_reducible apply StillO.ite | with_reducible apply partitionReady_still | intro _ | with_reducible apply Still.ite | simp only [Still.upd] | dsimp only | split)

theorem noteHeader_still {s0 : State} (b : Bool) (r : Nat) (s : State) (hk : Still s0 s) : Still s0 (noteHeader b r s) := by
  unfold noteHeader
  repeat (first | with_reducible assumption | with_reducible apply secLog_still | intro _ | with_reducible apply Still.ite | simp only [Still.upd] | dsimp only | split)

theorem bootInfo_still {s0 t : State} {v : List Nat} {c : ImageCfg} {kind : Nat} {s : State} (e : bootInfo c kind s = (v, t)) (hk : Still s0 s) : Still s0 t := by
  unfold bootInfo at e
  (try dsimp only at e)
  repeat' split at e
  all_goals (try cases e)
  all_goals repeat (first | with_reducible assumption | with_reducible refine takeFree_still (by with_reducible assumption) ?_ | with_reducible apply takeFree_snd_still | intro _ | with_reducible apply Still.ite | with_reducible apply Still.iteSnd | with_reducible apply Still.iteFst | simp only [Still.upd] | dsimp only | split)

theorem bootInfo_snd_still {s0 : State} (c : ImageCfg) (kind : Nat) (s : State) (hk : Still s0 s) : Still s0 (bootInfo c kind s).2 :=
  bootInfo_still (Prod.eta _).symm hk

theorem mapPort_still {s0 : State} (c : ImageCfg) (k : PortId) (s : State) (hk : Still s0 s) : Still s0 (mapPort c k s) := by
  unfold mapPort
  repeat (first | with_reducible assumption | with_reducible apply updPort_still | intro _ | with_reducible apply Still.ite | simp only [Still.upd] | dsimp only | split)

theorem execPortRetrainDone_still {s0 : State} (k : PortId) (gen width : Nat) (s : State) (hk : Still s0 s) : StillO s0 (execPortRetrainDone k gen width s) := by
  unfold execPortRetrainDone
  repeat (first | with_reducible assumption | with_reducible apply StillO.next | with_reducible apply StillO.ite | with_reducible apply portEvent_still | with_reducible apply updPort_still | intro _ | with_reducible apply Still.ite | with_reducible apply Still.iteSnd | with_reducible apply Still.iteFst | simp only [Still.upd] | dsimp only | split)

theorem readyClusters_still {s0 : State} (s : State) (hk : Still s0 s) : Still s0 (readyClusters s) := by
  unfold readyClusters
  repeat (first | with_reducible assumption | with_reducible apply noticeChange_still | with_reducible apply eachOf_still | with_reducible apply setCluster_still | intro _ | with_reducible apply Still.ite | simp only [Still.upd] | dsimp only | split)

theorem chargeSwitch_still {s0 : State} (p : PartId) (old new : Nat) (s : State) (hk : Still s0 s) : Still s0 (chargeSwitch p old new s) := by
  unfold chargeSwitch
  repeat (first | with_reducible assumption | with_reducible refine takeFree_still (by with_reducible assumption) ?_ | with_reducible apply takeFree_snd_still | with_reducible apply charge_still | intro _ | with_reducible apply Still.ite | with_reducible apply Still.iteSnd | with_reducible apply Still.iteFst | simp only [Still.upd] | dsimp only | split)

theorem switchModel_still {s0 : State} (p : PartId) (m : Nat) (start : Nat) (s : State) (hk : Still s0 s) : Still s0 (switchModel p m start s) := by
  unfold switchModel
  repeat (first | with_reducible assumption | with_reducible apply chargeSwitch_still | with_reducible apply cntPart_still | with_reducible apply setRegPart_still | with_reducible apply updPart_still | intro _ | with_reducible apply Still.ite | simp only [Still.upd] | dsimp only | split)

theorem freshDual_still {s0 : State} (p : PartId) (old new : Nat) (s : State) (hk : Still s0 s) : Still s0 (freshDual p old new s) := by
  unfold freshDual
  repeat (first | with_reducible assumption | with_reducible apply updPart_still | intro _ | with_reducible apply Still.ite | simp only [Still.upd] | dsimp only | split)

theorem openJob_still {s0 : State} (p : PartId) (d : Bytes) (start : Nat) (s : State) (hk : Still s0 s) : Still s0 (openJob p d start s) := by
  unfold openJob
  repeat (first | with_reducible assumption | with_reducible apply switchModel_still | with_reducible apply eachOf_still | with_reducible apply updCluster_still | with_reducible apply freshDual_still | with_reducible apply updPart_still | with_reducible apply mgtEvent_still | with_reducible apply updStream_still | intro _ | with_reducible apply Still.ite | simp only [Still.upd] | dsimp only | split)

theorem clearCores_still {s0 : State} (m : Nat) (s : State) (hk : Still s0 s) : Still s0 (clearCores m s) := by
  unfold clearCores
  repeat (first | with_reducible assumption | with_reducible apply eachOf_still | with_reducible apply updCluster_still | intro _ | with_reducible apply Still.ite | simp only [Still.upd] | dsimp only | split)

theorem endShare_still {s0 : State} (p : PartId) (st : StreamId) (s : State) (hk : Still s0 s) : Still s0 (endShare p st s) := by
  unfold endShare
  repeat (first | with_reducible assumption | with_reducible apply updStream_still | with_reducible apply record_still | with_reducible apply clearCores_still | with_reducible apply closeJob_still | with_reducible apply jobEndSnapshot_still | intro _ | with_reducible apply Still.ite | simp only [Still.upd] | dsimp only | split)

theorem endStep_still {s0 : State} (p : PartId) (s : State) (hk : Still s0 s) : Still s0 (endStep p s) := by
  unfold endStep
  repeat (first | with_reducible assumption | with_reducible apply updPart_still | intro _ | with_reducible apply Still.ite | simp only [Still.upd] | dsimp only | split)

theorem freeEntry_still {s0 : State} (p : PartId) (st : StreamId) (s : State) (hk : Still s0 s) : Still s0 (freeEntry p st s) := by
  unfold freeEntry
  repeat (first | with_reducible assumption | with_reducible apply updStream_still | with_reducible apply updPart_still | intro _ | with_reducible apply Still.ite | simp only [Still.upd] | dsimp only | split)

theorem signOff_still {s0 : State} (p : PartId) (st : StreamId) (e : Exec) (s : State) (hk : Still s0 s) : Still s0 (signOff p st e s) := by
  unfold signOff
  repeat (first | with_reducible assumption | with_reducible apply traceCmd_still | with_reducible apply applySignal_still | with_reducible apply updStream_still | with_reducible apply msixPart_still | with_reducible apply cntPart64_still | with_reducible apply freeEntry_still | intro _ | with_reducible apply Still.ite | simp only [Still.upd] | dsimp only | split)

theorem endProgram_still {s0 : State} (p : PartId) (st : StreamId) (e : Exec) (s : State) (hk : Still s0 s) : Still s0 (endProgram p st e s) := by
  unfold endProgram
  repeat (first | with_reducible assumption | with_reducible apply signOff_still | with_reducible apply updStream_still | intro _ | with_reducible apply Still.ite | simp only [Still.upd] | dsimp only | split)

theorem endEffect_still {s0 : State} (p : PartId) (st : StreamId) (e : Exec) (s : State) (hk : Still s0 s) : Still s0 (endEffect p st e s) := by
  unfold endEffect
  repeat (first | with_reducible assumption | with_reducible apply openJob_still | with_reducible apply updStream_still | with_reducible apply endShare_still | with_reducible apply endStep_still | with_reducible apply endAlone_still | intro _ | with_reducible apply Still.ite | simp only [Still.upd] | dsimp only | split)

theorem goOn_still {s0 : State} (p : PartId) (st : StreamId) (e : Exec) (s : State) (hk : Still s0 s) : Still s0 (goOn p st e s) := by
  unfold goOn
  repeat (first | with_reducible assumption | with_reducible apply updStream_still | intro _ | with_reducible apply Still.ite | simp only [Still.upd] | dsimp only | split)

theorem complete_still {s0 : State} (p : PartId) (st : StreamId) (s : State) (hk : Still s0 s) : Still s0 (complete p st s) := by
  unfold complete
  repeat (first | with_reducible assumption | with_reducible apply hbmHold_still | with_reducible apply endEffect_still | with_reducible apply settleMerge_still | with_reducible apply hbmGo_still | with_reducible apply endProgram_still | with_reducible apply goOn_still | with_reducible apply signOff_still | with_reducible apply fetchNow_still | with_reducible apply conjAdvance_still | intro _ | with_reducible apply Still.ite | simp only [Still.upd] | dsimp only | split)

theorem execCommandComplete_still {s0 : State} (p : PartId) (st : StreamId) (s : State) (hk : Still s0 s) : StillO s0 (execCommandComplete p st s) := by
  unfold execCommandComplete
  repeat (first | with_reducible assumption | with_reducible apply StillO.next | with_reducible apply StillO.ite | with_reducible apply complete_still | with_reducible apply xfrAdvance_still | intro _ | with_reducible apply Still.ite | simp only [Still.upd] | dsimp only | split)

theorem execSycSet_still {s0 : State} (p : PartId) (st : StreamId) (s : State) (hk : Still s0 s) : StillO s0 (execSycSet p st s) := by
  unfold execSycSet
  repeat (first | with_reducible assumption | with_reducible apply StillO.next | with_reducible apply StillO.ite | with_reducible apply runCmd_still | with_reducible apply conjAdvance_still | with_reducible apply cmdDone_still | with_reducible apply sycSetAt_still | intro _ | with_reducible apply Still.ite | simp only [Still.upd] | dsimp only | split)

theorem execSycHostAdd_still {s0 : State} (r : Requester) (i v : Nat) (s : State) (hk : Still s0 s) : StillO s0 (execSycHostAdd r i v s) := by
  unfold execSycHostAdd
  repeat (first | with_reducible assumption | with_reducible apply StillO.next | with_reducible apply StillO.ite | with_reducible refine hostPart_still (by with_reducible assumption) ?_ | with_reducible apply hostPart_snd_still | with_reducible apply conjAdvance_still | with_reducible apply sycAdd_still | intro _ | with_reducible apply Still.ite | with_reducible apply Still.iteSnd | with_reducible apply Still.iteFst | simp only [Still.upd] | dsimp only | split)

theorem execSycWaitTimeout_still {s0 : State} (p : PartId) (st : StreamId) (s : State) (hk : Still s0 s) : StillO s0 (execSycWaitTimeout p st s) := by
  unfold execSycWaitTimeout
  repeat (first | with_reducible assumption | with_reducible apply StillO.next | with_reducible apply StillO.ite | with_reducible apply cmdFail_still | with_reducible apply waitTimeout_still | intro _ | with_reducible apply Still.ite | simp only [Still.upd] | dsimp only | split)

theorem setBank_still {s0 : State} (b : Bank) (key v : Nat) (s : State) (hk : Still s0 s) : Still s0 (setBank b key v s) := by
  unfold setBank
  repeat (first | with_reducible assumption | with_reducible apply updPart_still | with_reducible apply updPort_still | with_reducible apply updLink_still | with_reducible apply updPlane_still | intro _ | with_reducible apply Still.ite | simp only [Still.upd] | dsimp only | split)

theorem cellClear_still {s0 : State} (c : Cell) (s : State) (hk : Still s0 s) : Still s0 (cellClear c s) := by
  unfold cellClear
  repeat (first | with_reducible assumption | with_reducible apply setBank_still | with_reducible apply setRegPart_still | with_reducible apply updComm_still | intro _ | with_reducible apply Still.ite | simp only [Still.upd] | dsimp only | split)

theorem subtractLive_still {s0 : State} (c : Cell) (n : Nat) (s : State) (hk : Still s0 s) : Still s0 (subtractLive c n s) := by
  unfold subtractLive
  repeat (first | with_reducible assumption | with_reducible apply setBank_still | with_reducible apply updComm_still | intro _ | with_reducible apply Still.ite | simp only [Still.upd] | dsimp only | split)

theorem readEffect_still {s0 : State} (r : Requester) (o : Nat) (s : State) (hk : Still s0 s) : Still s0 (readEffect r o s) := by
  unfold readEffect
  repeat (first | with_reducible assumption | with_reducible apply subtractLive_still | with_reducible apply cellClear_still | intro _ | with_reducible apply Still.ite | simp only [Still.upd] | dsimp only | split)

theorem readValue_still {s0 t : State} {v : Nat} {r : Requester} {off len : Nat} {s : State} (e : readValue r off len s = (v, t)) (hk : Still s0 s) : Still s0 t := by
  unfold readValue at e
  (try dsimp only at e)
  repeat' split at e
  all_goals (try cases e)
  all_goals repeat (first | with_reducible assumption | intro _ | with_reducible apply Still.ite | simp only [Still.upd] | dsimp only | split)

theorem readValue_snd_still {s0 : State} (r : Requester) (off len : Nat) (s : State) (hk : Still s0 s) : Still s0 (readValue r off len s).2 :=
  readValue_still (Prod.eta _).symm hk

theorem readServed_still {s0 : State} (r : Requester) (off len : Nat) (s : State) (hk : Still s0 s) : Still s0 (readServed r off len s) := by
  unfold readServed
  repeat (first | with_reducible assumption | with_reducible refine readValue_still (by with_reducible assumption) ?_ | with_reducible apply readValue_snd_still | with_reducible apply eachOf_still | with_reducible apply readEffect_still | with_reducible apply emit_still | intro _ | with_reducible apply Still.ite | with_reducible apply Still.iteSnd | with_reducible apply Still.iteFst | simp only [Still.upd] | dsimp only | split)

theorem readReg_still {s0 : State} (r : Requester) (off len : Nat) (s : State) (hk : Still s0 s) : Still s0 (readReg r off len s) := by
  unfold readReg
  repeat (first | with_reducible assumption | with_reducible apply readServed_still | with_reducible refine hostMem_still (by with_reducible assumption) ?_ | with_reducible apply hostMem_snd_still | with_reducible apply emit_still | intro _ | with_reducible apply Still.ite | with_reducible apply Still.iteSnd | with_reducible apply Still.iteFst | simp only [Still.upd] | dsimp only | split)

theorem configRead_still {s0 : State} (k : PortId) (a : RegAddr) (len : Nat) (s : State) (hk : Still s0 s) : Still s0 (configRead k a len s) := by
  unfold configRead
  repeat (first | with_reducible assumption | with_reducible apply emit_still | with_reducible apply leaveL1_still | intro _ | with_reducible apply Still.ite | simp only [Still.upd] | dsimp only | split)

theorem bar2Read_still {s0 : State} (k : PortId) (bare : Bool) (len : Nat) (s : State) (hk : Still s0 s) : Still s0 (bar2Read k bare len s) := by
  unfold bar2Read
  repeat (first | with_reducible assumption | with_reducible refine hostMem_still (by with_reducible assumption) ?_ | with_reducible apply hostMem_snd_still | with_reducible apply emit_still | intro _ | with_reducible apply Still.ite | with_reducible apply Still.iteSnd | with_reducible apply Still.iteFst | simp only [Still.upd] | dsimp only | split)

theorem unsupportedReq_still {s0 : State} (k : PortId) (s : State) (hk : Still s0 s) : Still s0 (unsupportedReq k s) := by
  unfold unsupportedReq
  repeat (first | with_reducible assumption | with_reducible apply emit_still | with_reducible apply leaveL1_still | intro _ | with_reducible apply Still.ite | simp only [Still.upd] | dsimp only | split)

theorem execRcRegisterRead_still {s0 : State} (r : Requester) (a : RegAddr) (len : Nat) (s : State) (hk : Still s0 s) : StillO s0 (execRcRegisterRead r a len s) := by
  unfold execRcRegisterRead
  repeat (first | with_reducible assumption | with_reducible apply StillO.next | with_reducible apply StillO.ite | with_reducible apply readReg_still | with_reducible apply bar2Read_still | with_reducible apply unsupportedReq_still | with_reducible apply configRead_still | intro _ | with_reducible apply Still.ite | simp only [Still.upd] | dsimp only | split)

theorem execLowHalfRead_still {s0 : State} (r : Requester) (off : Nat) (s : State) (hk : Still s0 s) : StillO s0 (execLowHalfRead r off s) := by
  unfold execLowHalfRead
  repeat (first | with_reducible assumption | with_reducible apply StillO.next | with_reducible apply StillO.ite | with_reducible apply readReg_still | intro _ | with_reducible apply Still.ite | simp only [Still.upd] | dsimp only | split)

theorem execHighHalfRead_still {s0 : State} (r : Requester) (off : Nat) (s : State) (hk : Still s0 s) : StillO s0 (execHighHalfRead r off s) := by
  unfold execHighHalfRead
  repeat (first | with_reducible assumption | with_reducible apply StillO.next | with_reducible apply StillO.ite | with_reducible apply readReg_still | intro _ | with_reducible apply Still.ite | simp only [Still.upd] | dsimp only | split)

theorem snapWriter_still {s0 t : State} {v : Bool} {r : Requester} {s : State} (e : snapWriter r s = (v, t)) (hk : Still s0 s) : Still s0 t := by
  unfold snapWriter at e
  (try dsimp only at e)
  repeat' split at e
  all_goals (try cases e)
  all_goals repeat (first | with_reducible assumption | with_reducible refine hostPart_still (by with_reducible assumption) ?_ | with_reducible apply hostPart_snd_still | intro _ | with_reducible apply Still.ite | with_reducible apply Still.iteSnd | with_reducible apply Still.iteFst | simp only [Still.upd] | dsimp only | split)

theorem snapWriter_snd_still {s0 : State} (r : Requester) (s : State) (hk : Still s0 s) : Still s0 (snapWriter r s).2 :=
  snapWriter_still (Prod.eta _).symm hk

theorem writeSnap_still {s0 : State} (r : Requester) (v : Nat) (s : State) (hk : Still s0 s) : Still s0 (writeSnap r v s) := by
  unfold writeSnap
  repeat (first | with_reducible assumption | with_reducible refine snapWriter_still (by with_reducible assumption) ?_ | with_reducible apply snapWriter_snd_still | intro _ | with_reducible apply Still.ite | with_reducible apply Still.iteSnd | with_reducible apply Still.iteFst | simp only [Still.upd] | dsimp only | split)

theorem execCntSnapTake_still {s0 : State} (r : Requester) (v : Nat) (s : State) (hk : Still s0 s) : StillO s0 (execCntSnapTake r v s) := by
  unfold execCntSnapTake
  repeat (first | with_reducible assumption | with_reducible apply StillO.next | with_reducible apply StillO.ite | with_reducible apply writeSnap_still | intro _ | with_reducible apply Still.ite | simp only [Still.upd] | dsimp only | split)

theorem execCntSnapRelease_still {s0 : State} (r : Requester) (v : Nat) (s : State) (hk : Still s0 s) : StillO s0 (execCntSnapRelease r v s) := by
  unfold execCntSnapRelease
  repeat (first | with_reducible assumption | with_reducible apply StillO.next | with_reducible apply StillO.ite | with_reducible apply writeSnap_still | intro _ | with_reducible apply Still.ite | simp only [Still.upd] | dsimp only | split)

theorem writeMsix_still {s0 : State} (k : PortId) (o v : Nat) (s : State) (hk : Still s0 s) : Still s0 (writeMsix k o v s) := by
  unfold writeMsix
  repeat (first | with_reducible assumption | with_reducible apply updPort_still | with_reducible apply msixFlush_still | intro _ | with_reducible apply Still.ite | simp only [Still.upd] | dsimp only | split)

theorem writePart_still {s0 : State} (p : PartId) (off v : Nat) (s : State) (hk : Still s0 s) : Still s0 (writePart p off v s) := by
  unfold writePart
  repeat (first | with_reducible assumption | with_reducible apply updStream_still | with_reducible apply updPart_still | with_reducible apply setRegPart_still | intro _ | with_reducible apply Still.ite | simp only [Still.upd] | dsimp only | split)

theorem writeHostWord_still {s0 : State} (k : PortId) (off v : Nat) (s : State) (hk : Still s0 s) : Still s0 (writeHostWord k off v s) := by
  unfold writeHostWord
  repeat (first | with_reducible assumption | with_reducible apply updPort_still | with_reducible apply writeMsix_still | with_reducible apply writePart_still | intro _ | with_reducible apply Still.ite | simp only [Still.upd] | dsimp only | split)

theorem writeWindow_still {s0 : State} (off : Nat) (b : Bytes) (s : State) (hk : Still s0 s) : Still s0 (writeWindow off b s) := by
  unfold writeWindow
  repeat (first | with_reducible assumption | with_reducible apply hbmWrite_still | intro _ | with_reducible apply Still.ite | simp only [Still.upd] | dsimp only | split)

theorem eachWord_still {s0 : State} (off len v : Nat) (f : Nat → Nat → State → State) (s : State) (hf : ∀ x0 x1 x2, Still s0 x2 → Still s0 (f x0 x1 x2)) (hk : Still s0 s) : Still s0 (eachWord off len v f s) := by
  unfold eachWord
  repeat (first | with_reducible apply hf | with_reducible assumption | with_reducible apply eachOf_still | intro _ | with_reducible apply Still.ite | simp only [Still.upd] | dsimp only | split)

theorem setConfig_still {s0 : State} (k : PortId) (a : RegAddr) (v : Nat) (s : State) (hk : Still s0 s) : Still s0 (setConfig k a v s) := by
  unfold setConfig
  repeat (first | with_reducible assumption | with_reducible apply updPort_still | with_reducible apply msixFlush_still | with_reducible apply aerUnexpected_still | with_reducible apply aerPoisoned_still | intro _ | with_reducible apply Still.ite | simp only [Still.upd] | dsimp only | split)

theorem writeBar0_still {s0 : State} (k : PortId) (bare : Bool) (off len v : Nat) (ep : Bool) (s : State) (hk : Still s0 s) : Still s0 (writeBar0 k bare off len v ep s) := by
  unfold writeBar0
  repeat (first | with_reducible assumption | with_reducible refine hostMem_still (by with_reducible assumption) ?_ | with_reducible apply hostMem_snd_still | with_reducible apply poisonedWrite_still | with_reducible apply eachWord_still | with_reducible apply writeHostWord_still | intro _ | with_reducible apply Still.ite | with_reducible apply Still.iteSnd | with_reducible apply Still.iteFst | simp only [Still.upd] | dsimp only | split)

theorem execDbgTraceCtlWrite_still {s0 : State} (r : Requester) (v : Nat) (s : State) (hk : Still s0 s) : StillO s0 (execDbgTraceCtlWrite r v s) := by
  unfold execDbgTraceCtlWrite
  repeat (first | with_reducible assumption | with_reducible apply StillO.next | with_reducible apply StillO.ite | with_reducible refine hostPart_still (by with_reducible assumption) ?_ | with_reducible apply hostPart_snd_still | with_reducible apply updPart_still | intro _ | with_reducible apply Still.ite | with_reducible apply Still.iteSnd | with_reducible apply Still.iteFst | simp only [Still.upd] | dsimp only | split)

theorem execTraceRecordDrain_still {s0 : State} (p : PartId) (s : State) (hk : Still s0 s) : StillO s0 (execTraceRecordDrain p s) := by
  unfold execTraceRecordDrain
  repeat (first | with_reducible assumption | with_reducible apply StillO.next | with_reducible apply StillO.ite | with_reducible apply settleMerge_still | with_reducible apply traceDrain_still | with_reducible apply hbmGo_still | with_reducible apply hbmHold_still | intro _ | with_reducible apply Still.ite | simp only [Still.upd] | dsimp only | split)

theorem execDbgTraceRdWrite_still {s0 : State} (r : Requester) (v : Nat) (s : State) (hk : Still s0 s) : StillO s0 (execDbgTraceRdWrite r v s) := by
  unfold execDbgTraceRdWrite
  repeat (first | with_reducible assumption | with_reducible apply StillO.next | with_reducible apply StillO.ite | with_reducible refine hostPart_still (by with_reducible assumption) ?_ | with_reducible apply hostPart_snd_still | with_reducible apply updPart_still | intro _ | with_reducible apply Still.ite | with_reducible apply Still.iteSnd | with_reducible apply Still.iteFst | simp only [Still.upd] | dsimp only | split)

theorem execDbgMark_still {s0 : State} (r : Requester) (v : Nat) (s : State) (hk : Still s0 s) : StillO s0 (execDbgMark r v s) := by
  unfold execDbgMark
  repeat (first | with_reducible assumption | with_reducible apply StillO.next | with_reducible apply StillO.ite | with_reducible refine hostPart_still (by with_reducible assumption) ?_ | with_reducible apply hostPart_snd_still | with_reducible apply traceGen_still | intro _ | with_reducible apply Still.ite | with_reducible apply Still.iteSnd | with_reducible apply Still.iteFst | simp only [Still.upd] | dsimp only | split)

theorem showPc_still {s0 : State} (mask : Nat) (s : State) (hk : Still s0 s) : Still s0 (showPc mask s) := by
  unfold showPc
  repeat (first | with_reducible assumption | with_reducible refine takeFree_still (by with_reducible assumption) ?_ | with_reducible apply takeFree_snd_still | intro _ | with_reducible apply Still.ite | with_reducible apply Still.iteSnd | with_reducible apply Still.iteFst | simp only [Still.upd] | dsimp only | split)

theorem writeMpCtl_still {s0 : State} (r : Requester) (v : Nat) (s : State) (hk : Still s0 s) : Still s0 (writeMpCtl r v s) := by
  unfold writeMpCtl
  repeat (first | with_reducible assumption | with_reducible apply showPc_still | intro _ | with_reducible apply Still.ite | simp only [Still.upd] | dsimp only | split)

theorem execMpHalt_still {s0 : State} (r : Requester) (v : Nat) (s : State) (hk : Still s0 s) : StillO s0 (execMpHalt r v s) := by
  unfold execMpHalt
  repeat (first | with_reducible assumption | with_reducible apply StillO.next | with_reducible apply StillO.ite | with_reducible apply writeMpCtl_still | intro _ | with_reducible apply Still.ite | simp only [Still.upd] | dsimp only | split)

theorem execMpStep_still {s0 : State} (r : Requester) (v : Nat) (s : State) (hk : Still s0 s) : StillO s0 (execMpStep r v s) := by
  unfold execMpStep
  repeat (first | with_reducible assumption | with_reducible apply StillO.next | with_reducible apply StillO.ite | with_reducible apply writeMpCtl_still | intro _ | with_reducible apply Still.ite | simp only [Still.upd] | dsimp only | split)

theorem execMgtEventHeadWrite_still {s0 : State} (r : Requester) (v : Nat) (s : State) (hk : Still s0 s) : StillO s0 (execMgtEventHeadWrite r v s) := by
  unfold execMgtEventHeadWrite
  repeat (first | with_reducible assumption | with_reducible apply StillO.next | with_reducible apply StillO.ite | intro _ | with_reducible apply Still.ite | simp only [Still.upd] | dsimp only | split)

theorem sendMctp_still {s0 : State} (bd : MctpBinding) (type : Nat) (b : Bytes) (s : State) (hk : Still s0 s) : Still s0 (sendMctp bd type b s) := by
  unfold sendMctp
  repeat (first | with_reducible assumption | with_reducible apply emit_still | intro _ | with_reducible apply Still.ite | simp only [Still.upd] | dsimp only | split)

theorem vendorReply_still {s0 : State} (bd : MctpBinding) (cmd status : Nat) (b : Bytes) (s : State) (hk : Still s0 s) : Still s0 (vendorReply bd cmd status b s) := by
  unfold vendorReply
  repeat (first | with_reducible assumption | with_reducible apply sendMctp_still | intro _ | with_reducible apply Still.ite | simp only [Still.upd] | dsimp only | split)

theorem serveMctp_still {s0 : State} (bd : MctpBinding) (f : State → State) (s : State) (hf : ∀ x0, Still s0 x0 → Still s0 (f x0)) (hk : Still s0 s) : StillO s0 (serveMctp bd f s) := by
  unfold serveMctp
  repeat (first | with_reducible apply hf | with_reducible assumption | with_reducible apply StillO.next | with_reducible apply StillO.ite | intro _ | with_reducible apply Still.ite | simp only [Still.upd] | dsimp only | split)

theorem execSetEndpointId_still {s0 : State} (bd : MctpBinding) (op eid : Nat) (s : State) (hk : Still s0 s) : StillO s0 (execSetEndpointId bd op eid s) := by
  unfold execSetEndpointId
  repeat (first | with_reducible assumption | with_reducible apply StillO.next | with_reducible apply StillO.ite | with_reducible apply serveMctp_still | with_reducible apply sendMctp_still | intro _ | with_reducible apply Still.ite | simp only [Still.upd] | dsimp only | split)

theorem execSmbusTimeout_still {s0 : State} (s : State) (hk : Still s0 s) : StillO s0 (execSmbusTimeout s) := by
  unfold execSmbusTimeout
  repeat (first | with_reducible assumption | with_reducible apply StillO.next | with_reducible apply StillO.ite | with_reducible apply emit_still | with_reducible apply cntDev_still | intro _ | with_reducible apply Still.ite | simp only [Still.upd] | dsimp only | split)

theorem execSmbusArbitrationRetry_still {s0 : State} (s : State) (hk : Still s0 s) : StillO s0 (execSmbusArbitrationRetry s) := by
  unfold execSmbusArbitrationRetry
  repeat (first | with_reducible assumption | with_reducible apply StillO.next | with_reducible apply StillO.ite | with_reducible apply emit_still | intro _ | with_reducible apply Still.ite | simp only [Still.upd] | dsimp only | split)

theorem execTripLatchRead_still {s0 : State} (s : State) (hk : Still s0 s) : StillO s0 (execTripLatchRead s) := by
  unfold execTripLatchRead
  repeat (first | with_reducible assumption | with_reducible apply StillO.next | with_reducible apply StillO.ite | with_reducible apply emit_still | intro _ | with_reducible apply Still.ite | simp only [Still.upd] | dsimp only | split)

theorem execRead32_still {s0 : State} (bd : MctpBinding) (addr count : Nat) (s : State) (hk : Still s0 s) : StillO s0 (execRead32 bd addr count s) := by
  unfold execRead32
  repeat (first | with_reducible assumption | with_reducible apply StillO.next | with_reducible apply StillO.ite | with_reducible apply serveMctp_still | with_reducible apply vendorReply_still | intro _ | with_reducible apply Still.ite | simp only [Still.upd] | dsimp only | split)

theorem execLogRead_still {s0 : State} (bd : MctpBinding) (sector off len : Nat) (s : State) (hk : Still s0 s) : StillO s0 (execLogRead bd sector off len s) := by
  unfold execLogRead
  repeat (first | with_reducible assumption | with_reducible apply StillO.next | with_reducible apply StillO.ite | with_reducible apply serveMctp_still | with_reducible apply vendorReply_still | intro _ | with_reducible apply Still.ite | simp only [Still.upd] | dsimp only | split)

theorem execPolicyMessage_still {s0 : State} (bd : MctpBinding) (cmd : Nat) (body : Bytes) (s : State) (hk : Still s0 s) : StillO s0 (execPolicyMessage bd cmd body s) := by
  unfold execPolicyMessage
  repeat (first | with_reducible assumption | with_reducible apply StillO.next | with_reducible apply StillO.ite | with_reducible apply serveMctp_still | with_reducible apply vendorReply_still | with_reducible apply mgtEvent_still | intro _ | with_reducible apply Still.ite | simp only [Still.upd] | dsimp only | split)

theorem execMgtMsgCtlSend_still {s0 : State} (r : Requester) (v : Nat) (s : State) (hk : Still s0 s) : StillO s0 (execMgtMsgCtlSend r v s) := by
  unfold execMgtMsgCtlSend
  repeat (first | with_reducible assumption | with_reducible apply StillO.next | with_reducible apply StillO.ite | with_reducible apply vendorReply_still | intro _ | with_reducible apply Still.ite | simp only [Still.upd] | dsimp only | split)

theorem execPolicyMessageTimeout_still {s0 : State} (s : State) (hk : Still s0 s) : StillO s0 (execPolicyMessageTimeout s) := by
  unfold execPolicyMessageTimeout
  repeat (first | with_reducible assumption | with_reducible apply StillO.next | with_reducible apply StillO.ite | with_reducible apply vendorReply_still | intro _ | with_reducible apply Still.ite | simp only [Still.upd] | dsimp only | split)

theorem execSetEventReceiver_still {s0 : State} (bd : MctpBinding) (enable : Nat) (s : State) (hk : Still s0 s) : StillO s0 (execSetEventReceiver bd enable s) := by
  unfold execSetEventReceiver
  repeat (first | with_reducible assumption | with_reducible apply StillO.next | with_reducible apply StillO.ite | with_reducible apply serveMctp_still | with_reducible apply sendMctp_still | with_reducible apply Still.foldl | intro _ | with_reducible apply Still.ite | simp only [Still.upd] | dsimp only | split)

theorem execGetSensorReading_still {s0 : State} (bd : MctpBinding) (sensor : Nat) (s : State) (hk : Still s0 s) : StillO s0 (execGetSensorReading bd sensor s) := by
  unfold execGetSensorReading
  repeat (first | with_reducible assumption | with_reducible apply StillO.next | with_reducible apply StillO.ite | with_reducible apply serveMctp_still | with_reducible apply sendMctp_still | intro _ | with_reducible apply Still.ite | simp only [Still.upd] | dsimp only | split)

theorem execSensorEventTimer_still {s0 : State} (sensor : Nat) (s : State) (hk : Still s0 s) : StillO s0 (execSensorEventTimer sensor s) := by
  unfold execSensorEventTimer
  repeat (first | with_reducible assumption | with_reducible apply StillO.next | with_reducible apply StillO.ite | with_reducible apply sendMctp_still | intro _ | with_reducible apply Still.ite | simp only [Still.upd] | dsimp only | split)

theorem updUpdate_still {s0 : State} (f : PldmUpdate → PldmUpdate) (s : State) (hk : Still s0 s) : Still s0 (updUpdate f s) := by
  unfold updUpdate
  repeat (first | with_reducible assumption | intro _ | with_reducible apply Still.ite | simp only [Still.upd] | dsimp only | split)

theorem pldmReply_still {s0 : State} (bd : MctpBinding) (cmd code : Nat) (b : Bytes) (s : State) (hk : Still s0 s) : Still s0 (pldmReply bd cmd code b s) := by
  unfold pldmReply
  repeat (first | with_reducible assumption | with_reducible apply sendMctp_still | intro _ | with_reducible apply Still.ite | simp only [Still.upd] | dsimp only | split)

theorem requestData_still {s0 : State} (off n : Nat) (s : State) (hk : Still s0 s) : Still s0 (requestData off n s) := by
  unfold requestData
  repeat (first | with_reducible assumption | with_reducible apply sendMctp_still | intro _ | with_reducible apply Still.ite | simp only [Still.upd] | dsimp only | split)

theorem requestNext_still {s0 : State} (s : State) (hk : Still s0 s) : Still s0 (requestNext s) := by
  unfold requestNext
  repeat (first | with_reducible assumption | with_reducible apply requestData_still | intro _ | with_reducible apply Still.ite | simp only [Still.upd] | dsimp only | split)

theorem stopUpdate_still {s0 : State} (s : State) (hk : Still s0 s) : Still s0 (stopUpdate s) := by
  unfold stopUpdate
  repeat (first | with_reducible assumption | with_reducible apply updUpdate_still | intro _ | with_reducible apply Still.ite | simp only [Still.upd] | dsimp only | split)

theorem execRequestUpdate_still {s0 : State} (bd : MctpBinding) (_maxSize _count : Nat) (s : State) (hk : Still s0 s) : StillO s0 (execRequestUpdate bd _maxSize _count s) := by
  unfold execRequestUpdate
  repeat (first | with_reducible assumption | with_reducible apply StillO.next | with_reducible apply StillO.ite | with_reducible apply serveMctp_still | with_reducible apply pldmReply_still | with_reducible apply requestData_still | with_reducible apply updUpdate_still | intro _ | with_reducible apply Still.ite | simp only [Still.upd] | dsimp only | split)

theorem execPassComponentTable_still {s0 : State} (bd : MctpBinding) (cls ident stamp : Nat) (s : State) (hk : Still s0 s) : StillO s0 (execPassComponentTable bd cls ident stamp s) := by
  unfold execPassComponentTable
  repeat (first | with_reducible assumption | with_reducible apply StillO.next | with_reducible apply StillO.ite | with_reducible apply serveMctp_still | with_reducible apply pldmReply_still | with_reducible apply updUpdate_still | with_reducible apply stopUpdate_still | intro _ | with_reducible apply Still.ite | simp only [Still.upd] | dsimp only | split)

theorem startErase_still {s0 : State} (bd : MctpBinding) (cls ident : Nat) (s : State) (hk : Still s0 s) : Still s0 (startErase bd cls ident s) := by
  unfold startErase
  repeat (first | with_reducible assumption | with_reducible apply pldmReply_still | with_reducible apply updUpdate_still | with_reducible apply stopUpdate_still | intro _ | with_reducible apply Still.ite | simp only [Still.upd] | dsimp only | split)

theorem execUpdateComponent_still {s0 : State} (bd : MctpBinding) (cls ident _size : Nat) (s : State) (hk : Still s0 s) : StillO s0 (execUpdateComponent bd cls ident _size s) := by
  unfold execUpdateComponent
  repeat (first | with_reducible assumption | with_reducible apply StillO.next | with_reducible apply StillO.ite | with_reducible apply serveMctp_still | with_reducible apply pldmReply_still | with_reducible apply startErase_still | with_reducible apply updUpdate_still | intro _ | with_reducible apply Still.ite | simp only [Still.upd] | dsimp only | split)

theorem execBankEraseDone_still {s0 : State} (s : State) (hk : Still s0 s) : StillO s0 (execBankEraseDone s) := by
  unfold execBankEraseDone
  repeat (first | with_reducible assumption | with_reducible apply StillO.next | with_reducible apply StillO.ite | with_reducible apply stopUpdate_still | with_reducible apply requestNext_still | with_reducible apply updUpdate_still | intro _ | with_reducible apply Still.ite | simp only [Still.upd] | dsimp only | split)

theorem execFirmwareDataReceive_still {s0 : State} (bd : MctpBinding) (off : Nat) (data : Bytes) (s : State) (hk : Still s0 s) : StillO s0 (execFirmwareDataReceive bd off data s) := by
  unfold execFirmwareDataReceive
  repeat (first | with_reducible assumption | with_reducible apply StillO.next | with_reducible apply StillO.ite | with_reducible apply serveMctp_still | with_reducible apply updUpdate_still | with_reducible apply startErase_still | with_reducible apply requestNext_still | intro _ | with_reducible apply Still.ite | simp only [Still.upd] | dsimp only | split)

theorem execFirmwareDataRetry_still {s0 : State} (s : State) (hk : Still s0 s) : StillO s0 (execFirmwareDataRetry s) := by
  unfold execFirmwareDataRetry
  repeat (first | with_reducible assumption | with_reducible apply StillO.next | with_reducible apply StillO.ite | with_reducible apply requestData_still | with_reducible apply requestNext_still | intro _ | with_reducible apply Still.ite | simp only [Still.upd] | dsimp only | split)

theorem execTransferComplete_still {s0 : State} (s : State) (hk : Still s0 s) : StillO s0 (execTransferComplete s) := by
  unfold execTransferComplete
  repeat (first | with_reducible assumption | with_reducible apply StillO.next | with_reducible apply StillO.ite | with_reducible apply sendMctp_still | with_reducible apply updUpdate_still | intro _ | with_reducible apply Still.ite | simp only [Still.upd] | dsimp only | split)

theorem execVerifyComplete_still {s0 : State} (s : State) (hk : Still s0 s) : StillO s0 (execVerifyComplete s) := by
  unfold execVerifyComplete
  repeat (first | with_reducible assumption | with_reducible apply StillO.next | with_reducible apply StillO.ite | with_reducible apply sendMctp_still | with_reducible apply updUpdate_still | with_reducible apply stopUpdate_still | intro _ | with_reducible apply Still.ite | simp only [Still.upd] | dsimp only | split)

theorem execApplyComplete_still {s0 : State} (s : State) (hk : Still s0 s) : StillO s0 (execApplyComplete s) := by
  unfold execApplyComplete
  repeat (first | with_reducible assumption | with_reducible apply StillO.next | with_reducible apply StillO.ite | with_reducible apply secLog_still | with_reducible apply sendMctp_still | with_reducible apply updUpdate_still | with_reducible apply complete_still | intro _ | with_reducible apply Still.ite | simp only [Still.upd] | dsimp only | split)

theorem execCancelUpdate_still {s0 : State} (bd : MctpBinding) (s : State) (hk : Still s0 s) : StillO s0 (execCancelUpdate bd s) := by
  unfold execCancelUpdate
  repeat (first | with_reducible assumption | with_reducible apply StillO.next | with_reducible apply StillO.ite | with_reducible apply serveMctp_still | with_reducible apply pldmReply_still | with_reducible apply stopUpdate_still | intro _ | with_reducible apply Still.ite | simp only [Still.upd] | dsimp only | split)

theorem hearPair_still {s0 t : State} {hd : PairHead} {b msg : Bytes} {kind : Nat} {s : State} (e : hearPair msg kind s = some (hd, b, t)) (h : Still s0 s) : Still s0 t := by
  unfold hearPair at e
  (try dsimp only at e)
  repeat' split at e
  all_goals (try cases e)
  all_goals repeat (first | with_reducible assumption | intro _ | with_reducible apply Still.ite | simp only [Still.upd] | dsimp only | split)

theorem clearPair_still {s0 : State} (s : State) (hk : Still s0 s) : Still s0 (clearPair s) := by
  unfold clearPair
  repeat (first | with_reducible assumption | with_reducible apply eachOf_still | with_reducible apply settleReleased_still | with_reducible apply updSb_still | intro _ | with_reducible apply Still.ite | simp only [Still.upd] | dsimp only | split)

theorem fullSnapshots_still {s0 : State} (s : State) (hk : Still s0 s) : Still s0 (fullSnapshots s) := by
  unfold fullSnapshots
  repeat (first | with_reducible assumption | with_reducible apply eachOf_still | with_reducible apply sendSnapshot_still | intro _ | with_reducible apply Still.ite | simp only [Still.upd] | dsimp only | split)

theorem uncoverAll_still {s0 : State} (s : State) (hk : Still s0 s) : Still s0 (uncoverAll s) := by
  unfold uncoverAll
  repeat (first | with_reducible assumption | with_reducible apply eachOf_still | with_reducible apply uncover_still | intro _ | with_reducible apply Still.ite | simp only [Still.upd] | dsimp only | split)

theorem depose_still {s0 : State} (cause : Nat) (s : State) (hk : Still s0 s) : Still s0 (depose cause s) := by
  unfold depose
  repeat (first | with_reducible assumption | with_reducible apply cntDev_still | with_reducible apply setSb_still | with_reducible apply eachOf_still | with_reducible apply updSb_still | with_reducible apply sendPair_still | with_reducible apply resetPartition_still | intro _ | with_reducible apply Still.ite | simp only [Still.upd] | dsimp only | split)

theorem execPairHelloSend_still {s0 : State} (s : State) (hk : Still s0 s) : StillO s0 (execPairHelloSend s) := by
  unfold execPairHelloSend
  repeat (first | with_reducible assumption | with_reducible apply StillO.next | with_reducible apply StillO.ite | with_reducible apply pairHello_still | intro _ | with_reducible apply Still.ite | simp only [Still.upd] | dsimp only | split)

theorem execPairHelloReceive_still {s0 : State} (msg : Bytes) (s : State) (hk : Still s0 s) : StillO s0 (execPairHelloReceive msg s) := by
  unfold execPairHelloReceive
  repeat (first | with_reducible assumption | with_reducible apply StillO.next | with_reducible apply StillO.ite | with_reducible refine hearPair_still (by with_reducible assumption) ?_ | with_reducible apply recordAll_still | with_reducible apply setSb_still | with_reducible apply clearPair_still | with_reducible apply fullSnapshots_still | with_reducible apply depose_still | with_reducible apply eachOf_still | with_reducible apply updSb_still | with_reducible apply uncoverAll_still | intro _ | with_reducible apply Still.ite | simp only [Still.upd] | dsimp only | split)

theorem execMirrorReceive_still {s0 : State} (msg : Bytes) (s : State) (hk : Still s0 s) : StillO s0 (execMirrorReceive msg s) := by
  unfold execMirrorReceive
  repeat (first | with_reducible assumption | with_reducible apply StillO.next | with_reducible apply StillO.ite | with_reducible refine hearPair_still (by with_reducible assumption) ?_ | with_reducible apply updSb_still | intro _ | with_reducible apply Still.ite | with_reducible apply Still.iteSnd | with_reducible apply Still.iteFst | simp only [Still.upd] | dsimp only | split)

theorem ackSnapshot_still {s0 : State} (p : PartId) (epoch flags : Nat) (s : State) (hk : Still s0 s) : Still s0 (ackSnapshot p epoch flags s) := by
  unfold ackSnapshot
  repeat (first | with_reducible assumption | with_reducible apply sendPair_still | intro _ | with_reducible apply Still.ite | simp only [Still.upd] | dsimp only | split)

theorem refuseSnapshot_still {s0 : State} (p : PartId) (s : State) (hk : Still s0 s) : Still s0 (refuseSnapshot p s) := by
  unfold refuseSnapshot
  repeat (first | with_reducible assumption | with_reducible apply ackSnapshot_still | with_reducible apply tornSnapshot_still | intro _ | with_reducible apply Still.ite | simp only [Still.upd] | dsimp only | split)

theorem judgeSnapshot_still {s0 : State} (p : PartId) (s : State) (hk : Still s0 s) : Still s0 (judgeSnapshot p s) := by
  unfold judgeSnapshot
  repeat (first | with_reducible assumption | with_reducible apply refuseSnapshot_still | with_reducible apply ackSnapshot_still | with_reducible apply updSb_still | with_reducible apply Still.foldl | intro _ | with_reducible apply Still.ite | with_reducible apply Still.iteSnd | with_reducible apply Still.iteFst | simp only [Still.upd] | dsimp only | split)

theorem execSnapReceive_still {s0 : State} (msg : Bytes) (s : State) (hk : Still s0 s) : StillO s0 (execSnapReceive msg s) := by
  unfold execSnapReceive
  repeat (first | with_reducible assumption | with_reducible apply StillO.next | with_reducible apply StillO.ite | with_reducible refine hearPair_still (by with_reducible assumption) ?_ | with_reducible apply refuseSnapshot_still | with_reducible apply updSb_still | with_reducible apply judgeSnapshot_still | intro _ | with_reducible apply Still.ite | simp only [Still.upd] | dsimp only | split)

theorem execHeartbeatSnapshot_still {s0 : State} (p : PartId) (s : State) (hk : Still s0 s) : StillO s0 (execHeartbeatSnapshot p s) := by
  unfold execHeartbeatSnapshot
  repeat (first | with_reducible assumption | with_reducible apply StillO.next | with_reducible apply StillO.ite | with_reducible apply sendSnapshot_still | intro _ | with_reducible apply Still.ite | simp only [Still.upd] | dsimp only | split)

theorem execPairAckReceive_still {s0 : State} (msg : Bytes) (s : State) (hk : Still s0 s) : StillO s0 (execPairAckReceive msg s) := by
  unfold execPairAckReceive
  repeat (first | with_reducible assumption | with_reducible apply StillO.next | with_reducible apply StillO.ite | with_reducible refine hearPair_still (by with_reducible assumption) ?_ | with_reducible apply sendSnapshot_still | with_reducible apply uncover_still | with_reducible apply updSb_still | with_reducible apply issueWhile_still | intro _ | with_reducible apply Still.ite | with_reducible apply Still.iteSnd | with_reducible apply Still.iteFst | simp only [Still.upd] | dsimp only | split)

theorem execAckSilence_still {s0 : State} (s : State) (hk : Still s0 s) : StillO s0 (execAckSilence s) := by
  unfold execAckSilence
  repeat (first | with_reducible assumption | with_reducible apply StillO.next | with_reducible apply StillO.ite | with_reducible apply depose_still | with_reducible apply uncoverAll_still | intro _ | with_reducible apply Still.ite | simp only [Still.upd] | dsimp only | split)

theorem sendOverTether_still {s0 : State} (pl : PlaneId) (d : DevId) (h : PairHead) (s : State) (hk : Still s0 s) : Still s0 (sendOverTether pl d h s) := by
  unfold sendOverTether
  repeat (first | with_reducible assumption | with_reducible refine sendTether_still (by with_reducible assumption) ?_ | with_reducible apply emit_still | intro _ | with_reducible apply Still.ite | simp only [Still.upd] | dsimp only | split)

theorem execDeposedReceive_still {s0 : State} (msg : Bytes) (s : State) (hk : Still s0 s) : StillO s0 (execDeposedReceive msg s) := by
  unfold execDeposedReceive
  repeat (first | with_reducible assumption | with_reducible apply StillO.next | with_reducible apply StillO.ite | with_reducible refine hearPair_still (by with_reducible assumption) ?_ | with_reducible apply failover_still | intro _ | with_reducible apply Still.ite | simp only [Still.upd] | dsimp only | split)

theorem execStandbySilence_still {s0 : State} (s : State) (hk : Still s0 s) : StillO s0 (execStandbySilence s) := by
  unfold execStandbySilence
  repeat (first | with_reducible assumption | with_reducible apply StillO.next | with_reducible apply StillO.ite | with_reducible apply setSb_still | with_reducible apply eachOf_still | with_reducible apply sendOverTether_still | intro _ | with_reducible apply Still.ite | simp only [Still.upd] | dsimp only | split)

theorem execPairProbeReceive_still {s0 : State} (pl : PlaneId) (msg : Bytes) (s : State) (hk : Still s0 s) : StillO s0 (execPairProbeReceive pl msg s) := by
  unfold execPairProbeReceive
  repeat (first | with_reducible assumption | with_reducible apply StillO.next | with_reducible apply StillO.ite | with_reducible apply sendOverTether_still | intro _ | with_reducible apply Still.ite | simp only [Still.upd] | dsimp only | split)

theorem standDown_still {s0 : State} (s : State) (hk : Still s0 s) : Still s0 (standDown s) := by
  unfold standDown
  repeat (first | with_reducible assumption | with_reducible apply eachOf_still | with_reducible apply updSb_still | with_reducible apply setSb_still | intro _ | with_reducible apply Still.ite | simp only [Still.upd] | dsimp only | split)

theorem execPairProbeAckReceive_still {s0 : State} (_pl : PlaneId) (msg : Bytes) (s : State) (hk : Still s0 s) : StillO s0 (execPairProbeAckReceive _pl msg s) := by
  unfold execPairProbeAckReceive
  repeat (first | with_reducible assumption | with_reducible apply StillO.next | with_reducible apply StillO.ite | with_reducible apply failover_still | with_reducible apply standDown_still | intro _ | with_reducible apply Still.ite | simp only [Still.upd] | dsimp only | split)

theorem execWitnessQReceive_still {s0 : State} (pl : PlaneId) (src : DevId) (msg : Bytes) (s : State) (hk : Still s0 s) : StillO s0 (execWitnessQReceive pl src msg s) := by
  unfold execWitnessQReceive
  repeat (first | with_reducible assumption | with_reducible apply StillO.next | with_reducible apply StillO.ite | with_reducible apply sendOverTether_still | intro _ | with_reducible apply Still.ite | simp only [Still.upd] | dsimp only | split)

theorem execWitnessAReceive_still {s0 : State} (_pl : PlaneId) (msg : Bytes) (s : State) (hk : Still s0 s) : StillO s0 (execWitnessAReceive _pl msg s) := by
  unfold execWitnessAReceive
  repeat (first | with_reducible assumption | with_reducible apply StillO.next | with_reducible apply StillO.ite | with_reducible apply standDown_still | intro _ | with_reducible apply Still.ite | simp only [Still.upd] | dsimp only | split)

theorem execTakeoverDecision_still {s0 : State} (s : State) (hk : Still s0 s) : StillO s0 (execTakeoverDecision s) := by
  unfold execTakeoverDecision
  repeat (first | with_reducible assumption | with_reducible apply StillO.next | with_reducible apply StillO.ite | with_reducible apply setSb_still | with_reducible apply failover_still | intro _ | with_reducible apply Still.ite | simp only [Still.upd] | dsimp only | split)

theorem execSbActivate_still {s0 : State} (r : Requester) (v : Nat) (s : State) (hk : Still s0 s) : StillO s0 (execSbActivate r v s) := by
  unfold execSbActivate
  repeat (first | with_reducible assumption | with_reducible apply StillO.next | with_reducible apply StillO.ite | with_reducible apply clearPair_still | with_reducible apply setSb_still | with_reducible apply failover_still | intro _ | with_reducible apply Still.ite | simp only [Still.upd] | dsimp only | split)

theorem execSbDepose_still {s0 : State} (r : Requester) (v : Nat) (s : State) (hk : Still s0 s) : StillO s0 (execSbDepose r v s) := by
  unfold execSbDepose
  repeat (first | with_reducible assumption | with_reducible apply StillO.next | with_reducible apply StillO.ite | with_reducible apply depose_still | intro _ | with_reducible apply Still.ite | simp only [Still.upd] | dsimp only | split)

theorem execSbRejoin_still {s0 : State} (r : Requester) (v : Nat) (s : State) (hk : Still s0 s) : StillO s0 (execSbRejoin r v s) := by
  unfold execSbRejoin
  repeat (first | with_reducible assumption | with_reducible apply StillO.next | with_reducible apply StillO.ite | with_reducible apply eachOf_still | with_reducible apply pump_still | with_reducible apply setSb_still | intro _ | with_reducible apply Still.ite | simp only [Still.upd] | dsimp only | split)

theorem seqRun_still {s0 : State} (p : PartId) (op : Nat) (body : Bytes → State → State) (s : State) (hf : ∀ d t, Still s0 t → Still s0 (body d t)) (hk : Still s0 s) : StillO s0 (seqRun p op [] body s) := by
  unfold seqRun
  refine runCmd_still _ _ _ _ _ (fun d t h => ?_) hk
  dsimp only [List.foldl]
  split
  · exact hf _ _ (seqBusy_still _ _ h)
  · exact h

theorem execSeqLd_still {s0 : State} (p : PartId) (s : State) (hk : Still s0 s) : StillO s0 (execSeqLd p [] s) :=
  seqRun_still _ _ _ _ (fun d t h => seqLd_still p d t h) hk

theorem execSeqSt_still {s0 : State} (p : PartId) (s : State) (hk : Still s0 s) : StillO s0 (execSeqSt p [] s) :=
  seqRun_still _ _ _ _ (fun d t h => seqSt_still p d t h) hk

theorem execSeqZero_still {s0 : State} (p : PartId) (s : State) (hk : Still s0 s) : StillO s0 (execSeqZero p s) := by
  unfold execSeqZero
  repeat (first | with_reducible assumption | with_reducible apply StillO.next | with_reducible apply StillO.ite | with_reducible apply seqRun_still | with_reducible apply seqZero_still | intro _ | with_reducible apply Still.ite | simp only [Still.upd] | dsimp only | split)

theorem execSeqMma_still {s0 : State} (p : PartId) (s : State) (hk : Still s0 s) : StillO s0 (execSeqMma p [] s) :=
  seqRun_still _ _ _ _ (fun d t h => seqMma_still p d t h) hk

theorem execSeqAct_still {s0 : State} (p : PartId) (s : State) (hk : Still s0 s) : StillO s0 (execSeqAct p [] s) :=
  seqRun_still _ _ _ _ (fun d t h => seqAct_still p d t h) hk

theorem execSeqMul_still {s0 : State} (p : PartId) (s : State) (hk : Still s0 s) : StillO s0 (execSeqMul p [] s) :=
  seqRun_still _ _ _ _ (fun d t h => seqMul_still p d t h) hk

theorem execSeqScale_still {s0 : State} (p : PartId) (s : State) (hk : Still s0 s) : StillO s0 (execSeqScale p [] s) :=
  seqRun_still _ _ _ _ (fun d t h => seqScale_still p d t h) hk

theorem execSeqCvt_still {s0 : State} (p : PartId) (s : State) (hk : Still s0 s) : StillO s0 (execSeqCvt p [] s) :=
  seqRun_still _ _ _ _ (fun d t h => seqCvt_still p d t h) hk

theorem execSeqExpert_still {s0 : State} (p : PartId) (s : State) (hk : Still s0 s) : StillO s0 (execSeqExpert p [] s) := by
  unfold execSeqExpert
  with_reducible apply StillO.ite
  · exact .next hk
  · exact seqRun_still _ _ _ _ (fun d t h => seqExpert_still p _ d t h) hk

theorem passEcc_still {s0 : State} (p : PartId) (x : Pass) (s : State) (hk : Still s0 s) : Still s0 (passEcc p x [] s) := by
  have e : s0.sramErr = [] → passEcc p x [] s = s := fun n => by
    have h := hk.sram n
    unfold passEcc
    simp [h]
    rw [← h]
  constructor <;> intro n <;> rw [e n]
  · exact hk.sram n
  all_goals first | exact hk.boot n | exact hk.pins n | exact hk.fuses n | exact hk.cfg n | exact hk.img n

theorem execPassEnd_still {s0 : State} (p : PartId) (s : State) (hk : Still s0 s) : StillO s0 (execPassEnd p [] s) := by
  unfold execPassEnd
  split
  · exact .next hk
  · with_reducible apply StillO.ite
    · exact .next hk
    · with_reducible apply StillO.ite
      · exact .next (hbmHold_still _ _ _ hk)
      · exact .next (drainPart_still _ _ (passEnd_still _ _ (passEcc_still _ _ _ (hbmGo_still _ _ _ hk))))

end Sys2Proof.Laws
end

