-- ==== Sys2Proof/Laws/Updates.lean ====
section
/-!
SUPPORT. Updates.lean: what the updates of a flow, a context, a slot and the like leave alone, field by field.
-/
namespace Sys2Proof.Laws
open Sys2Proof Sys2Proof.Machine

@[simp] theorem updPeer_boot (d : DevId) (f : Peer → Peer) (s : State) : (updPeer d f s).boot = s.boot := rfl
@[simp] theorem updPeer_pins (d : DevId) (f : Peer → Peer) (s : State) : (updPeer d f s).pins = s.pins := rfl
@[simp] theorem updPeer_fuses (d : DevId) (f : Peer → Peer) (s : State) : (updPeer d f s).fuses = s.fuses := rfl
@[simp] theorem updPeer_flash (d : DevId) (f : Peer → Peer) (s : State) : (updPeer d f s).flash = s.flash := rfl
@[simp] theorem updPeer_cfg (d : DevId) (f : Peer → Peer) (s : State) : (updPeer d f s).cfg = s.cfg := rfl
@[simp] theorem updPeer_img (d : DevId) (f : Peer → Peer) (s : State) : (updPeer d f s).img = s.img := rfl
@[simp] theorem updPeer_time (d : DevId) (f : Peer → Peer) (s : State) : (updPeer d f s).time = s.time := rfl
@[simp] theorem updPeer_commit (d : DevId) (f : Peer → Peer) (s : State) : (updPeer d f s).commit = s.commit := rfl
@[simp] theorem updPeer_ports (d : DevId) (f : Peer → Peer) (s : State) : (updPeer d f s).ports = s.ports := rfl
@[simp] theorem updPeer_parts (d : DevId) (f : Peer → Peer) (s : State) : (updPeer d f s).parts = s.parts := rfl
@[simp] theorem updPeer_syc (d : DevId) (f : Peer → Peer) (s : State) : (updPeer d f s).syc = s.syc := rfl
@[simp] theorem updPeer_hbm (d : DevId) (f : Peer → Peer) (s : State) : (updPeer d f s).hbm = s.hbm := rfl
@[simp] theorem updPeer_hbmPoison (d : DevId) (f : Peer → Peer) (s : State) : (updPeer d f s).hbmPoison = s.hbmPoison := rfl
@[simp] theorem updPeer_hbmErr (d : DevId) (f : Peer → Peer) (s : State) : (updPeer d f s).hbmErr = s.hbmErr := rfl
@[simp] theorem updPeer_sramErr (d : DevId) (f : Peer → Peer) (s : State) : (updPeer d f s).sramErr = s.sramErr := rfl
@[simp] theorem updPeer_links (d : DevId) (f : Peer → Peer) (s : State) : (updPeer d f s).links = s.links := rfl
@[simp] theorem updPeer_bridle (d : DevId) (f : Peer → Peer) (s : State) : (updPeer d f s).bridle = s.bridle := rfl
@[simp] theorem updPeer_planes (d : DevId) (f : Peer → Peer) (s : State) : (updPeer d f s).planes = s.planes := rfl
@[simp] theorem updPeer_tether (d : DevId) (f : Peer → Peer) (s : State) : (updPeer d f s).tether = s.tether := rfl
@[simp] theorem updPeer_col (d : DevId) (f : Peer → Peer) (s : State) : (updPeer d f s).col = s.col := rfl
@[simp] theorem updPeer_clusters (d : DevId) (f : Peer → Peer) (s : State) : (updPeer d f s).clusters = s.clusters := rfl
@[simp] theorem updPeer_power (d : DevId) (f : Peer → Peer) (s : State) : (updPeer d f s).power = s.power := rfl
@[simp] theorem updPeer_pair (d : DevId) (f : Peer → Peer) (s : State) : (updPeer d f s).pair = s.pair := rfl
@[simp] theorem updPeer_dual (d : DevId) (f : Peer → Peer) (s : State) : (updPeer d f s).dual = s.dual := rfl
@[simp] theorem updPeer_sec (d : DevId) (f : Peer → Peer) (s : State) : (updPeer d f s).sec = s.sec := rfl
@[simp] theorem updPeer_bist (d : DevId) (f : Peer → Peer) (s : State) : (updPeer d f s).bist = s.bist := rfl
@[simp] theorem updPeer_mgt (d : DevId) (f : Peer → Peer) (s : State) : (updPeer d f s).mgt = s.mgt := rfl
@[simp] theorem updPeer_mp (d : DevId) (f : Peer → Peer) (s : State) : (updPeer d f s).mp = s.mp := rfl
@[simp] theorem updPeer_mgtRing (d : DevId) (f : Peer → Peer) (s : State) : (updPeer d f s).mgtRing = s.mgtRing := rfl
@[simp] theorem updPeer_errSelect (d : DevId) (f : Peer → Peer) (s : State) : (updPeer d f s).errSelect = s.errSelect := rfl
@[simp] theorem updPeer_regs (d : DevId) (f : Peer → Peer) (s : State) : (updPeer d f s).regs = s.regs := rfl
@[simp] theorem updPeer_latches (d : DevId) (f : Peer → Peer) (s : State) : (updPeer d f s).latches = s.latches := rfl
@[simp] theorem updPeer_snaps (d : DevId) (f : Peer → Peer) (s : State) : (updPeer d f s).snaps = s.snaps := rfl
@[simp] theorem updPeer_free (d : DevId) (f : Peer → Peer) (s : State) : (updPeer d f s).free = s.free := rfl
@[simp] theorem updPeer_out (d : DevId) (f : Peer → Peer) (s : State) : (updPeer d f s).out = s.out := rfl
@[simp] theorem updPeer_pending (d : DevId) (f : Peer → Peer) (s : State) : (updPeer d f s).pending = s.pending := rfl

@[simp] theorem updFlow_boot (d : DevId) (p : Nat) (f : Flow → Flow) (s : State) : (updFlow d p f s).boot = s.boot := rfl
@[simp] theorem updFlow_pins (d : DevId) (p : Nat) (f : Flow → Flow) (s : State) : (updFlow d p f s).pins = s.pins := rfl
@[simp] theorem updFlow_fuses (d : DevId) (p : Nat) (f : Flow → Flow) (s : State) : (updFlow d p f s).fuses = s.fuses := rfl
@[simp] theorem updFlow_flash (d : DevId) (p : Nat) (f : Flow → Flow) (s : State) : (updFlow d p f s).flash = s.flash := rfl
@[simp] theorem updFlow_cfg (d : DevId) (p : Nat) (f : Flow → Flow) (s : State) : (updFlow d p f s).cfg = s.cfg := rfl
@[simp] theorem updFlow_img (d : DevId) (p : Nat) (f : Flow → Flow) (s : State) : (updFlow d p f s).img = s.img := rfl
@[simp] theorem updFlow_time (d : DevId) (p : Nat) (f : Flow → Flow) (s : State) : (updFlow d p f s).time = s.time := rfl
@[simp] theorem updFlow_commit (d : DevId) (p : Nat) (f : Flow → Flow) (s : State) : (updFlow d p f s).commit = s.commit := rfl
@[simp] theorem updFlow_ports (d : DevId) (p : Nat) (f : Flow → Flow) (s : State) : (updFlow d p f s).ports = s.ports := rfl
@[simp] theorem updFlow_parts (d : DevId) (p : Nat) (f : Flow → Flow) (s : State) : (updFlow d p f s).parts = s.parts := rfl
@[simp] theorem updFlow_syc (d : DevId) (p : Nat) (f : Flow → Flow) (s : State) : (updFlow d p f s).syc = s.syc := rfl
@[simp] theorem updFlow_hbm (d : DevId) (p : Nat) (f : Flow → Flow) (s : State) : (updFlow d p f s).hbm = s.hbm := rfl
@[simp] theorem updFlow_hbmPoison (d : DevId) (p : Nat) (f : Flow → Flow) (s : State) : (updFlow d p f s).hbmPoison = s.hbmPoison := rfl
@[simp] theorem updFlow_hbmErr (d : DevId) (p : Nat) (f : Flow → Flow) (s : State) : (updFlow d p f s).hbmErr = s.hbmErr := rfl
@[simp] theorem updFlow_sramErr (d : DevId) (p : Nat) (f : Flow → Flow) (s : State) : (updFlow d p f s).sramErr = s.sramErr := rfl
@[simp] theorem updFlow_links (d : DevId) (p : Nat) (f : Flow → Flow) (s : State) : (updFlow d p f s).links = s.links := rfl
@[simp] theorem updFlow_bridle (d : DevId) (p : Nat) (f : Flow → Flow) (s : State) : (updFlow d p f s).bridle = s.bridle := rfl
@[simp] theorem updFlow_planes (d : DevId) (p : Nat) (f : Flow → Flow) (s : State) : (updFlow d p f s).planes = s.planes := rfl
@[simp] theorem updFlow_tether (d : DevId) (p : Nat) (f : Flow → Flow) (s : State) : (updFlow d p f s).tether = s.tether := rfl
@[simp] theorem updFlow_col (d : DevId) (p : Nat) (f : Flow → Flow) (s : State) : (updFlow d p f s).col = s.col := rfl
@[simp] theorem updFlow_clusters (d : DevId) (p : Nat) (f : Flow → Flow) (s : State) : (updFlow d p f s).clusters = s.clusters := rfl
@[simp] theorem updFlow_power (d : DevId) (p : Nat) (f : Flow → Flow) (s : State) : (updFlow d p f s).power = s.power := rfl
@[simp] theorem updFlow_pair (d : DevId) (p : Nat) (f : Flow → Flow) (s : State) : (updFlow d p f s).pair = s.pair := rfl
@[simp] theorem updFlow_dual (d : DevId) (p : Nat) (f : Flow → Flow) (s : State) : (updFlow d p f s).dual = s.dual := rfl
@[simp] theorem updFlow_sec (d : DevId) (p : Nat) (f : Flow → Flow) (s : State) : (updFlow d p f s).sec = s.sec := rfl
@[simp] theorem updFlow_bist (d : DevId) (p : Nat) (f : Flow → Flow) (s : State) : (updFlow d p f s).bist = s.bist := rfl
@[simp] theorem updFlow_mgt (d : DevId) (p : Nat) (f : Flow → Flow) (s : State) : (updFlow d p f s).mgt = s.mgt := rfl
@[simp] theorem updFlow_mp (d : DevId) (p : Nat) (f : Flow → Flow) (s : State) : (updFlow d p f s).mp = s.mp := rfl
@[simp] theorem updFlow_mgtRing (d : DevId) (p : Nat) (f : Flow → Flow) (s : State) : (updFlow d p f s).mgtRing = s.mgtRing := rfl
@[simp] theorem updFlow_errSelect (d : DevId) (p : Nat) (f : Flow → Flow) (s : State) : (updFlow d p f s).errSelect = s.errSelect := rfl
@[simp] theorem updFlow_regs (d : DevId) (p : Nat) (f : Flow → Flow) (s : State) : (updFlow d p f s).regs = s.regs := rfl
@[simp] theorem updFlow_latches (d : DevId) (p : Nat) (f : Flow → Flow) (s : State) : (updFlow d p f s).latches = s.latches := rfl
@[simp] theorem updFlow_snaps (d : DevId) (p : Nat) (f : Flow → Flow) (s : State) : (updFlow d p f s).snaps = s.snaps := rfl
@[simp] theorem updFlow_free (d : DevId) (p : Nat) (f : Flow → Flow) (s : State) : (updFlow d p f s).free = s.free := rfl
@[simp] theorem updFlow_out (d : DevId) (p : Nat) (f : Flow → Flow) (s : State) : (updFlow d p f s).out = s.out := rfl
@[simp] theorem updFlow_pending (d : DevId) (p : Nat) (f : Flow → Flow) (s : State) : (updFlow d p f s).pending = s.pending := rfl

@[simp] theorem setCtx_boot (i : Nat) (c : Option Ctx) (s : State) : (setCtx i c s).boot = s.boot := rfl
@[simp] theorem setCtx_pins (i : Nat) (c : Option Ctx) (s : State) : (setCtx i c s).pins = s.pins := rfl
@[simp] theorem setCtx_fuses (i : Nat) (c : Option Ctx) (s : State) : (setCtx i c s).fuses = s.fuses := rfl
@[simp] theorem setCtx_flash (i : Nat) (c : Option Ctx) (s : State) : (setCtx i c s).flash = s.flash := rfl
@[simp] theorem setCtx_cfg (i : Nat) (c : Option Ctx) (s : State) : (setCtx i c s).cfg = s.cfg := rfl
@[simp] theorem setCtx_img (i : Nat) (c : Option Ctx) (s : State) : (setCtx i c s).img = s.img := rfl
@[simp] theorem setCtx_time (i : Nat) (c : Option Ctx) (s : State) : (setCtx i c s).time = s.time := rfl
@[simp] theorem setCtx_commit (i : Nat) (c : Option Ctx) (s : State) : (setCtx i c s).commit = s.commit := rfl
@[simp] theorem setCtx_ports (i : Nat) (c : Option Ctx) (s : State) : (setCtx i c s).ports = s.ports := rfl
@[simp] theorem setCtx_parts (i : Nat) (c : Option Ctx) (s : State) : (setCtx i c s).parts = s.parts := rfl
@[simp] theorem setCtx_syc (i : Nat) (c : Option Ctx) (s : State) : (setCtx i c s).syc = s.syc := rfl
@[simp] theorem setCtx_hbm (i : Nat) (c : Option Ctx) (s : State) : (setCtx i c s).hbm = s.hbm := rfl
@[simp] theorem setCtx_hbmPoison (i : Nat) (c : Option Ctx) (s : State) : (setCtx i c s).hbmPoison = s.hbmPoison := rfl
@[simp] theorem setCtx_hbmErr (i : Nat) (c : Option Ctx) (s : State) : (setCtx i c s).hbmErr = s.hbmErr := rfl
@[simp] theorem setCtx_sramErr (i : Nat) (c : Option Ctx) (s : State) : (setCtx i c s).sramErr = s.sramErr := rfl
@[simp] theorem setCtx_links (i : Nat) (c : Option Ctx) (s : State) : (setCtx i c s).links = s.links := rfl
@[simp] theorem setCtx_bridle (i : Nat) (c : Option Ctx) (s : State) : (setCtx i c s).bridle = s.bridle := rfl
@[simp] theorem setCtx_planes (i : Nat) (c : Option Ctx) (s : State) : (setCtx i c s).planes = s.planes := rfl
@[simp] theorem setCtx_net (i : Nat) (c : Option Ctx) (s : State) : (setCtx i c s).net = s.net := rfl
@[simp] theorem setCtx_col (i : Nat) (c : Option Ctx) (s : State) : (setCtx i c s).col = s.col := rfl
@[simp] theorem setCtx_clusters (i : Nat) (c : Option Ctx) (s : State) : (setCtx i c s).clusters = s.clusters := rfl
@[simp] theorem setCtx_power (i : Nat) (c : Option Ctx) (s : State) : (setCtx i c s).power = s.power := rfl
@[simp] theorem setCtx_pair (i : Nat) (c : Option Ctx) (s : State) : (setCtx i c s).pair = s.pair := rfl
@[simp] theorem setCtx_dual (i : Nat) (c : Option Ctx) (s : State) : (setCtx i c s).dual = s.dual := rfl
@[simp] theorem setCtx_sec (i : Nat) (c : Option Ctx) (s : State) : (setCtx i c s).sec = s.sec := rfl
@[simp] theorem setCtx_bist (i : Nat) (c : Option Ctx) (s : State) : (setCtx i c s).bist = s.bist := rfl
@[simp] theorem setCtx_mgt (i : Nat) (c : Option Ctx) (s : State) : (setCtx i c s).mgt = s.mgt := rfl
@[simp] theorem setCtx_mp (i : Nat) (c : Option Ctx) (s : State) : (setCtx i c s).mp = s.mp := rfl
@[simp] theorem setCtx_mgtRing (i : Nat) (c : Option Ctx) (s : State) : (setCtx i c s).mgtRing = s.mgtRing := rfl
@[simp] theorem setCtx_errSelect (i : Nat) (c : Option Ctx) (s : State) : (setCtx i c s).errSelect = s.errSelect := rfl
@[simp] theorem setCtx_regs (i : Nat) (c : Option Ctx) (s : State) : (setCtx i c s).regs = s.regs := rfl
@[simp] theorem setCtx_latches (i : Nat) (c : Option Ctx) (s : State) : (setCtx i c s).latches = s.latches := rfl
@[simp] theorem setCtx_snaps (i : Nat) (c : Option Ctx) (s : State) : (setCtx i c s).snaps = s.snaps := rfl
@[simp] theorem setCtx_free (i : Nat) (c : Option Ctx) (s : State) : (setCtx i c s).free = s.free := rfl
@[simp] theorem setCtx_out (i : Nat) (c : Option Ctx) (s : State) : (setCtx i c s).out = s.out := rfl
@[simp] theorem setCtx_pending (i : Nat) (c : Option Ctx) (s : State) : (setCtx i c s).pending = s.pending := rfl

@[simp] theorem updSlot_boot (p : PartId) (i : Nat) (f : Slot → Slot) (s : State) : (updSlot p i f s).boot = s.boot := rfl
@[simp] theorem updSlot_pins (p : PartId) (i : Nat) (f : Slot → Slot) (s : State) : (updSlot p i f s).pins = s.pins := rfl
@[simp] theorem updSlot_fuses (p : PartId) (i : Nat) (f : Slot → Slot) (s : State) : (updSlot p i f s).fuses = s.fuses := rfl
@[simp] theorem updSlot_flash (p : PartId) (i : Nat) (f : Slot → Slot) (s : State) : (updSlot p i f s).flash = s.flash := rfl
@[simp] theorem updSlot_cfg (p : PartId) (i : Nat) (f : Slot → Slot) (s : State) : (updSlot p i f s).cfg = s.cfg := rfl
@[simp] theorem updSlot_img (p : PartId) (i : Nat) (f : Slot → Slot) (s : State) : (updSlot p i f s).img = s.img := rfl
@[simp] theorem updSlot_time (p : PartId) (i : Nat) (f : Slot → Slot) (s : State) : (updSlot p i f s).time = s.time := rfl
@[simp] theorem updSlot_commit (p : PartId) (i : Nat) (f : Slot → Slot) (s : State) : (updSlot p i f s).commit = s.commit := rfl
@[simp] theorem updSlot_ports (p : PartId) (i : Nat) (f : Slot → Slot) (s : State) : (updSlot p i f s).ports = s.ports := rfl
@[simp] theorem updSlot_syc (p : PartId) (i : Nat) (f : Slot → Slot) (s : State) : (updSlot p i f s).syc = s.syc := rfl
@[simp] theorem updSlot_hbm (p : PartId) (i : Nat) (f : Slot → Slot) (s : State) : (updSlot p i f s).hbm = s.hbm := rfl
@[simp] theorem updSlot_hbmPoison (p : PartId) (i : Nat) (f : Slot → Slot) (s : State) : (updSlot p i f s).hbmPoison = s.hbmPoison := rfl
@[simp] theorem updSlot_hbmErr (p : PartId) (i : Nat) (f : Slot → Slot) (s : State) : (updSlot p i f s).hbmErr = s.hbmErr := rfl
@[simp] theorem updSlot_sramErr (p : PartId) (i : Nat) (f : Slot → Slot) (s : State) : (updSlot p i f s).sramErr = s.sramErr := rfl
@[simp] theorem updSlot_links (p : PartId) (i : Nat) (f : Slot → Slot) (s : State) : (updSlot p i f s).links = s.links := rfl
@[simp] theorem updSlot_bridle (p : PartId) (i : Nat) (f : Slot → Slot) (s : State) : (updSlot p i f s).bridle = s.bridle := rfl
@[simp] theorem updSlot_planes (p : PartId) (i : Nat) (f : Slot → Slot) (s : State) : (updSlot p i f s).planes = s.planes := rfl
@[simp] theorem updSlot_tether (p : PartId) (i : Nat) (f : Slot → Slot) (s : State) : (updSlot p i f s).tether = s.tether := rfl
@[simp] theorem updSlot_net (p : PartId) (i : Nat) (f : Slot → Slot) (s : State) : (updSlot p i f s).net = s.net := rfl
@[simp] theorem updSlot_col (p : PartId) (i : Nat) (f : Slot → Slot) (s : State) : (updSlot p i f s).col = s.col := rfl
@[simp] theorem updSlot_clusters (p : PartId) (i : Nat) (f : Slot → Slot) (s : State) : (updSlot p i f s).clusters = s.clusters := rfl
@[simp] theorem updSlot_power (p : PartId) (i : Nat) (f : Slot → Slot) (s : State) : (updSlot p i f s).power = s.power := rfl
@[simp] theorem updSlot_pair (p : PartId) (i : Nat) (f : Slot → Slot) (s : State) : (updSlot p i f s).pair = s.pair := rfl
@[simp] theorem updSlot_dual (p : PartId) (i : Nat) (f : Slot → Slot) (s : State) : (updSlot p i f s).dual = s.dual := rfl
@[simp] theorem updSlot_sec (p : PartId) (i : Nat) (f : Slot → Slot) (s : State) : (updSlot p i f s).sec = s.sec := rfl
@[simp] theorem updSlot_bist (p : PartId) (i : Nat) (f : Slot → Slot) (s : State) : (updSlot p i f s).bist = s.bist := rfl
@[simp] theorem updSlot_mgt (p : PartId) (i : Nat) (f : Slot → Slot) (s : State) : (updSlot p i f s).mgt = s.mgt := rfl
@[simp] theorem updSlot_mp (p : PartId) (i : Nat) (f : Slot → Slot) (s : State) : (updSlot p i f s).mp = s.mp := rfl
@[simp] theorem updSlot_mgtRing (p : PartId) (i : Nat) (f : Slot → Slot) (s : State) : (updSlot p i f s).mgtRing = s.mgtRing := rfl
@[simp] theorem updSlot_errSelect (p : PartId) (i : Nat) (f : Slot → Slot) (s : State) : (updSlot p i f s).errSelect = s.errSelect := rfl
@[simp] theorem updSlot_regs (p : PartId) (i : Nat) (f : Slot → Slot) (s : State) : (updSlot p i f s).regs = s.regs := rfl
@[simp] theorem updSlot_latches (p : PartId) (i : Nat) (f : Slot → Slot) (s : State) : (updSlot p i f s).latches = s.latches := rfl
@[simp] theorem updSlot_snaps (p : PartId) (i : Nat) (f : Slot → Slot) (s : State) : (updSlot p i f s).snaps = s.snaps := rfl
@[simp] theorem updSlot_free (p : PartId) (i : Nat) (f : Slot → Slot) (s : State) : (updSlot p i f s).free = s.free := rfl
@[simp] theorem updSlot_out (p : PartId) (i : Nat) (f : Slot → Slot) (s : State) : (updSlot p i f s).out = s.out := rfl
@[simp] theorem updSlot_pending (p : PartId) (i : Nat) (f : Slot → Slot) (s : State) : (updSlot p i f s).pending = s.pending := rfl

@[simp] theorem updConj_boot (p : PartId) (f : Conj → Conj) (s : State) : (updConj p f s).boot = s.boot := rfl
@[simp] theorem updConj_pins (p : PartId) (f : Conj → Conj) (s : State) : (updConj p f s).pins = s.pins := rfl
@[simp] theorem updConj_fuses (p : PartId) (f : Conj → Conj) (s : State) : (updConj p f s).fuses = s.fuses := rfl
@[simp] theorem updConj_flash (p : PartId) (f : Conj → Conj) (s : State) : (updConj p f s).flash = s.flash := rfl
@[simp] theorem updConj_cfg (p : PartId) (f : Conj → Conj) (s : State) : (updConj p f s).cfg = s.cfg := rfl
@[simp] theorem updConj_img (p : PartId) (f : Conj → Conj) (s : State) : (updConj p f s).img = s.img := rfl
@[simp] theorem updConj_time (p : PartId) (f : Conj → Conj) (s : State) : (updConj p f s).time = s.time := rfl
@[simp] theorem updConj_commit (p : PartId) (f : Conj → Conj) (s : State) : (updConj p f s).commit = s.commit := rfl
@[simp] theorem updConj_ports (p : PartId) (f : Conj → Conj) (s : State) : (updConj p f s).ports = s.ports := rfl
@[simp] theorem updConj_syc (p : PartId) (f : Conj → Conj) (s : State) : (updConj p f s).syc = s.syc := rfl
@[simp] theorem updConj_hbm (p : PartId) (f : Conj → Conj) (s : State) : (updConj p f s).hbm = s.hbm := rfl
@[simp] theorem updConj_hbmPoison (p : PartId) (f : Conj → Conj) (s : State) : (updConj p f s).hbmPoison = s.hbmPoison := rfl
@[simp] theorem updConj_hbmErr (p : PartId) (f : Conj → Conj) (s : State) : (updConj p f s).hbmErr = s.hbmErr := rfl
@[simp] theorem updConj_sramErr (p : PartId) (f : Conj → Conj) (s : State) : (updConj p f s).sramErr = s.sramErr := rfl
@[simp] theorem updConj_links (p : PartId) (f : Conj → Conj) (s : State) : (updConj p f s).links = s.links := rfl
@[simp] theorem updConj_bridle (p : PartId) (f : Conj → Conj) (s : State) : (updConj p f s).bridle = s.bridle := rfl
@[simp] theorem updConj_planes (p : PartId) (f : Conj → Conj) (s : State) : (updConj p f s).planes = s.planes := rfl
@[simp] theorem updConj_tether (p : PartId) (f : Conj → Conj) (s : State) : (updConj p f s).tether = s.tether := rfl
@[simp] theorem updConj_net (p : PartId) (f : Conj → Conj) (s : State) : (updConj p f s).net = s.net := rfl
@[simp] theorem updConj_col (p : PartId) (f : Conj → Conj) (s : State) : (updConj p f s).col = s.col := rfl
@[simp] theorem updConj_clusters (p : PartId) (f : Conj → Conj) (s : State) : (updConj p f s).clusters = s.clusters := rfl
@[simp] theorem updConj_power (p : PartId) (f : Conj → Conj) (s : State) : (updConj p f s).power = s.power := rfl
@[simp] theorem updConj_pair (p : PartId) (f : Conj → Conj) (s : State) : (updConj p f s).pair = s.pair := rfl
@[simp] theorem updConj_dual (p : PartId) (f : Conj → Conj) (s : State) : (updConj p f s).dual = s.dual := rfl
@[simp] theorem updConj_sec (p : PartId) (f : Conj → Conj) (s : State) : (updConj p f s).sec = s.sec := rfl
@[simp] theorem updConj_bist (p : PartId) (f : Conj → Conj) (s : State) : (updConj p f s).bist = s.bist := rfl
@[simp] theorem updConj_mgt (p : PartId) (f : Conj → Conj) (s : State) : (updConj p f s).mgt = s.mgt := rfl
@[simp] theorem updConj_mp (p : PartId) (f : Conj → Conj) (s : State) : (updConj p f s).mp = s.mp := rfl
@[simp] theorem updConj_mgtRing (p : PartId) (f : Conj → Conj) (s : State) : (updConj p f s).mgtRing = s.mgtRing := rfl
@[simp] theorem updConj_errSelect (p : PartId) (f : Conj → Conj) (s : State) : (updConj p f s).errSelect = s.errSelect := rfl
@[simp] theorem updConj_regs (p : PartId) (f : Conj → Conj) (s : State) : (updConj p f s).regs = s.regs := rfl
@[simp] theorem updConj_latches (p : PartId) (f : Conj → Conj) (s : State) : (updConj p f s).latches = s.latches := rfl
@[simp] theorem updConj_snaps (p : PartId) (f : Conj → Conj) (s : State) : (updConj p f s).snaps = s.snaps := rfl
@[simp] theorem updConj_free (p : PartId) (f : Conj → Conj) (s : State) : (updConj p f s).free = s.free := rfl
@[simp] theorem updConj_out (p : PartId) (f : Conj → Conj) (s : State) : (updConj p f s).out = s.out := rfl
@[simp] theorem updConj_pending (p : PartId) (f : Conj → Conj) (s : State) : (updConj p f s).pending = s.pending := rfl

@[simp] theorem updRows_boot (p : PartId) (f : List RowRec → List RowRec) (s : State) : (updRows p f s).boot = s.boot := rfl
@[simp] theorem updRows_pins (p : PartId) (f : List RowRec → List RowRec) (s : State) : (updRows p f s).pins = s.pins := rfl
@[simp] theorem updRows_fuses (p : PartId) (f : List RowRec → List RowRec) (s : State) : (updRows p f s).fuses = s.fuses := rfl
@[simp] theorem updRows_flash (p : PartId) (f : List RowRec → List RowRec) (s : State) : (updRows p f s).flash = s.flash := rfl
@[simp] theorem updRows_cfg (p : PartId) (f : List RowRec → List RowRec) (s : State) : (updRows p f s).cfg = s.cfg := rfl
@[simp] theorem updRows_img (p : PartId) (f : List RowRec → List RowRec) (s : State) : (updRows p f s).img = s.img := rfl
@[simp] theorem updRows_time (p : PartId) (f : List RowRec → List RowRec) (s : State) : (updRows p f s).time = s.time := rfl
@[simp] theorem updRows_commit (p : PartId) (f : List RowRec → List RowRec) (s : State) : (updRows p f s).commit = s.commit := rfl
@[simp] theorem updRows_ports (p : PartId) (f : List RowRec → List RowRec) (s : State) : (updRows p f s).ports = s.ports := rfl
@[simp] theorem updRows_syc (p : PartId) (f : List RowRec → List RowRec) (s : State) : (updRows p f s).syc = s.syc := rfl
@[simp] theorem updRows_hbm (p : PartId) (f : List RowRec → List RowRec) (s : State) : (updRows p f s).hbm = s.hbm := rfl
@[simp] theorem updRows_hbmPoison (p : PartId) (f : List RowRec → List RowRec) (s : State) : (updRows p f s).hbmPoison = s.hbmPoison := rfl
@[simp] theorem updRows_hbmErr (p : PartId) (f : List RowRec → List RowRec) (s : State) : (updRows p f s).hbmErr = s.hbmErr := rfl
@[simp] theorem updRows_sramErr (p : PartId) (f : List RowRec → List RowRec) (s : State) : (updRows p f s).sramErr = s.sramErr := rfl
@[simp] theorem updRows_links (p : PartId) (f : List RowRec → List RowRec) (s : State) : (updRows p f s).links = s.links := rfl
@[simp] theorem updRows_bridle (p : PartId) (f : List RowRec → List RowRec) (s : State) : (updRows p f s).bridle = s.bridle := rfl
@[simp] theorem updRows_planes (p : PartId) (f : List RowRec → List RowRec) (s : State) : (updRows p f s).planes = s.planes := rfl
@[simp] theorem updRows_tether (p : PartId) (f : List RowRec → List RowRec) (s : State) : (updRows p f s).tether = s.tether := rfl
@[simp] theorem updRows_net (p : PartId) (f : List RowRec → List RowRec) (s : State) : (updRows p f s).net = s.net := rfl
@[simp] theorem updRows_col (p : PartId) (f : List RowRec → List RowRec) (s : State) : (updRows p f s).col = s.col := rfl
@[simp] theorem updRows_clusters (p : PartId) (f : List RowRec → List RowRec) (s : State) : (updRows p f s).clusters = s.clusters := rfl
@[simp] theorem updRows_power (p : PartId) (f : List RowRec → List RowRec) (s : State) : (updRows p f s).power = s.power := rfl
@[simp] theorem updRows_pair (p : PartId) (f : List RowRec → List RowRec) (s : State) : (updRows p f s).pair = s.pair := rfl
@[simp] theorem updRows_dual (p : PartId) (f : List RowRec → List RowRec) (s : State) : (updRows p f s).dual = s.dual := rfl
@[simp] theorem updRows_sec (p : PartId) (f : List RowRec → List RowRec) (s : State) : (updRows p f s).sec = s.sec := rfl
@[simp] theorem updRows_bist (p : PartId) (f : List RowRec → List RowRec) (s : State) : (updRows p f s).bist = s.bist := rfl
@[simp] theorem updRows_mgt (p : PartId) (f : List RowRec → List RowRec) (s : State) : (updRows p f s).mgt = s.mgt := rfl
@[simp] theorem updRows_mp (p : PartId) (f : List RowRec → List RowRec) (s : State) : (updRows p f s).mp = s.mp := rfl
@[simp] theorem updRows_mgtRing (p : PartId) (f : List RowRec → List RowRec) (s : State) : (updRows p f s).mgtRing = s.mgtRing := rfl
@[simp] theorem updRows_errSelect (p : PartId) (f : List RowRec → List RowRec) (s : State) : (updRows p f s).errSelect = s.errSelect := rfl
@[simp] theorem updRows_regs (p : PartId) (f : List RowRec → List RowRec) (s : State) : (updRows p f s).regs = s.regs := rfl
@[simp] theorem updRows_latches (p : PartId) (f : List RowRec → List RowRec) (s : State) : (updRows p f s).latches = s.latches := rfl
@[simp] theorem updRows_snaps (p : PartId) (f : List RowRec → List RowRec) (s : State) : (updRows p f s).snaps = s.snaps := rfl
@[simp] theorem updRows_free (p : PartId) (f : List RowRec → List RowRec) (s : State) : (updRows p f s).free = s.free := rfl
@[simp] theorem updRows_out (p : PartId) (f : List RowRec → List RowRec) (s : State) : (updRows p f s).out = s.out := rfl
@[simp] theorem updRows_pending (p : PartId) (f : List RowRec → List RowRec) (s : State) : (updRows p f s).pending = s.pending := rfl

@[simp] theorem updExec_boot (p : PartId) (st : StreamId) (f : Exec → Exec) (s : State) : (updExec p st f s).boot = s.boot := rfl
@[simp] theorem updExec_pins (p : PartId) (st : StreamId) (f : Exec → Exec) (s : State) : (updExec p st f s).pins = s.pins := rfl
@[simp] theorem updExec_fuses (p : PartId) (st : StreamId) (f : Exec → Exec) (s : State) : (updExec p st f s).fuses = s.fuses := rfl
@[simp] theorem updExec_flash (p : PartId) (st : StreamId) (f : Exec → Exec) (s : State) : (updExec p st f s).flash = s.flash := rfl
@[simp] theorem updExec_cfg (p : PartId) (st : StreamId) (f : Exec → Exec) (s : State) : (updExec p st f s).cfg = s.cfg := rfl
@[simp] theorem updExec_img (p : PartId) (st : StreamId) (f : Exec → Exec) (s : State) : (updExec p st f s).img = s.img := rfl
@[simp] theorem updExec_time (p : PartId) (st : StreamId) (f : Exec → Exec) (s : State) : (updExec p st f s).time = s.time := rfl
@[simp] theorem updExec_commit (p : PartId) (st : StreamId) (f : Exec → Exec) (s : State) : (updExec p st f s).commit = s.commit := rfl
@[simp] theorem updExec_ports (p : PartId) (st : StreamId) (f : Exec → Exec) (s : State) : (updExec p st f s).ports = s.ports := rfl
@[simp] theorem updExec_syc (p : PartId) (st : StreamId) (f : Exec → Exec) (s : State) : (updExec p st f s).syc = s.syc := rfl
@[simp] theorem updExec_hbm (p : PartId) (st : StreamId) (f : Exec → Exec) (s : State) : (updExec p st f s).hbm = s.hbm := rfl
@[simp] theorem updExec_hbmPoison (p : PartId) (st : StreamId) (f : Exec → Exec) (s : State) : (updExec p st f s).hbmPoison = s.hbmPoison := rfl
@[simp] theorem updExec_hbmErr (p : PartId) (st : StreamId) (f : Exec → Exec) (s : State) : (updExec p st f s).hbmErr = s.hbmErr := rfl
@[simp] theorem updExec_sramErr (p : PartId) (st : StreamId) (f : Exec → Exec) (s : State) : (updExec p st f s).sramErr = s.sramErr := rfl
@[simp] theorem updExec_links (p : PartId) (st : StreamId) (f : Exec → Exec) (s : State) : (updExec p st f s).links = s.links := rfl
@[simp] theorem updExec_bridle (p : PartId) (st : StreamId) (f : Exec → Exec) (s : State) : (updExec p st f s).bridle = s.bridle := rfl
@[simp] theorem updExec_planes (p : PartId) (st : StreamId) (f : Exec → Exec) (s : State) : (updExec p st f s).planes = s.planes := rfl
@[simp] theorem updExec_tether (p : PartId) (st : StreamId) (f : Exec → Exec) (s : State) : (updExec p st f s).tether = s.tether := rfl
@[simp] theorem updExec_net (p : PartId) (st : StreamId) (f : Exec → Exec) (s : State) : (updExec p st f s).net = s.net := rfl
@[simp] theorem updExec_col (p : PartId) (st : StreamId) (f : Exec → Exec) (s : State) : (updExec p st f s).col = s.col := rfl
@[simp] theorem updExec_clusters (p : PartId) (st : StreamId) (f : Exec → Exec) (s : State) : (updExec p st f s).clusters = s.clusters := rfl
@[simp] theorem updExec_power (p : PartId) (st : StreamId) (f : Exec → Exec) (s : State) : (updExec p st f s).power = s.power := rfl
@[simp] theorem updExec_pair (p : PartId) (st : StreamId) (f : Exec → Exec) (s : State) : (updExec p st f s).pair = s.pair := rfl
@[simp] theorem updExec_dual (p : PartId) (st : StreamId) (f : Exec → Exec) (s : State) : (updExec p st f s).dual = s.dual := rfl
@[simp] theorem updExec_sec (p : PartId) (st : StreamId) (f : Exec → Exec) (s : State) : (updExec p st f s).sec = s.sec := rfl
@[simp] theorem updExec_bist (p : PartId) (st : StreamId) (f : Exec → Exec) (s : State) : (updExec p st f s).bist = s.bist := rfl
@[simp] theorem updExec_mgt (p : PartId) (st : StreamId) (f : Exec → Exec) (s : State) : (updExec p st f s).mgt = s.mgt := rfl
@[simp] theorem updExec_mp (p : PartId) (st : StreamId) (f : Exec → Exec) (s : State) : (updExec p st f s).mp = s.mp := rfl
@[simp] theorem updExec_mgtRing (p : PartId) (st : StreamId) (f : Exec → Exec) (s : State) : (updExec p st f s).mgtRing = s.mgtRing := rfl
@[simp] theorem updExec_errSelect (p : PartId) (st : StreamId) (f : Exec → Exec) (s : State) : (updExec p st f s).errSelect = s.errSelect := rfl
@[simp] theorem updExec_regs (p : PartId) (st : StreamId) (f : Exec → Exec) (s : State) : (updExec p st f s).regs = s.regs := rfl
@[simp] theorem updExec_latches (p : PartId) (st : StreamId) (f : Exec → Exec) (s : State) : (updExec p st f s).latches = s.latches := rfl
@[simp] theorem updExec_snaps (p : PartId) (st : StreamId) (f : Exec → Exec) (s : State) : (updExec p st f s).snaps = s.snaps := rfl
@[simp] theorem updExec_free (p : PartId) (st : StreamId) (f : Exec → Exec) (s : State) : (updExec p st f s).free = s.free := rfl
@[simp] theorem updExec_out (p : PartId) (st : StreamId) (f : Exec → Exec) (s : State) : (updExec p st f s).out = s.out := rfl
@[simp] theorem updExec_pending (p : PartId) (st : StreamId) (f : Exec → Exec) (s : State) : (updExec p st f s).pending = s.pending := rfl

@[simp] theorem updPtp_boot (f : Ptp → Ptp) (s : State) : (updPtp f s).boot = s.boot := rfl
@[simp] theorem updPtp_pins (f : Ptp → Ptp) (s : State) : (updPtp f s).pins = s.pins := rfl
@[simp] theorem updPtp_fuses (f : Ptp → Ptp) (s : State) : (updPtp f s).fuses = s.fuses := rfl
@[simp] theorem updPtp_flash (f : Ptp → Ptp) (s : State) : (updPtp f s).flash = s.flash := rfl
@[simp] theorem updPtp_cfg (f : Ptp → Ptp) (s : State) : (updPtp f s).cfg = s.cfg := rfl
@[simp] theorem updPtp_img (f : Ptp → Ptp) (s : State) : (updPtp f s).img = s.img := rfl
@[simp] theorem updPtp_commit (f : Ptp → Ptp) (s : State) : (updPtp f s).commit = s.commit := rfl
@[simp] theorem updPtp_ports (f : Ptp → Ptp) (s : State) : (updPtp f s).ports = s.ports := rfl
@[simp] theorem updPtp_parts (f : Ptp → Ptp) (s : State) : (updPtp f s).parts = s.parts := rfl
@[simp] theorem updPtp_syc (f : Ptp → Ptp) (s : State) : (updPtp f s).syc = s.syc := rfl
@[simp] theorem updPtp_hbm (f : Ptp → Ptp) (s : State) : (updPtp f s).hbm = s.hbm := rfl
@[simp] theorem updPtp_hbmPoison (f : Ptp → Ptp) (s : State) : (updPtp f s).hbmPoison = s.hbmPoison := rfl
@[simp] theorem updPtp_hbmErr (f : Ptp → Ptp) (s : State) : (updPtp f s).hbmErr = s.hbmErr := rfl
@[simp] theorem updPtp_sramErr (f : Ptp → Ptp) (s : State) : (updPtp f s).sramErr = s.sramErr := rfl
@[simp] theorem updPtp_links (f : Ptp → Ptp) (s : State) : (updPtp f s).links = s.links := rfl
@[simp] theorem updPtp_bridle (f : Ptp → Ptp) (s : State) : (updPtp f s).bridle = s.bridle := rfl
@[simp] theorem updPtp_planes (f : Ptp → Ptp) (s : State) : (updPtp f s).planes = s.planes := rfl
@[simp] theorem updPtp_tether (f : Ptp → Ptp) (s : State) : (updPtp f s).tether = s.tether := rfl
@[simp] theorem updPtp_net (f : Ptp → Ptp) (s : State) : (updPtp f s).net = s.net := rfl
@[simp] theorem updPtp_col (f : Ptp → Ptp) (s : State) : (updPtp f s).col = s.col := rfl
@[simp] theorem updPtp_clusters (f : Ptp → Ptp) (s : State) : (updPtp f s).clusters = s.clusters := rfl
@[simp] theorem updPtp_power (f : Ptp → Ptp) (s : State) : (updPtp f s).power = s.power := rfl
@[simp] theorem updPtp_pair (f : Ptp → Ptp) (s : State) : (updPtp f s).pair = s.pair := rfl
@[simp] theorem updPtp_dual (f : Ptp → Ptp) (s : State) : (updPtp f s).dual = s.dual := rfl
@[simp] theorem updPtp_sec (f : Ptp → Ptp) (s : State) : (updPtp f s).sec = s.sec := rfl
@[simp] theorem updPtp_bist (f : Ptp → Ptp) (s : State) : (updPtp f s).bist = s.bist := rfl
@[simp] theorem updPtp_mgt (f : Ptp → Ptp) (s : State) : (updPtp f s).mgt = s.mgt := rfl
@[simp] theorem updPtp_mp (f : Ptp → Ptp) (s : State) : (updPtp f s).mp = s.mp := rfl
@[simp] theorem updPtp_mgtRing (f : Ptp → Ptp) (s : State) : (updPtp f s).mgtRing = s.mgtRing := rfl
@[simp] theorem updPtp_errSelect (f : Ptp → Ptp) (s : State) : (updPtp f s).errSelect = s.errSelect := rfl
@[simp] theorem updPtp_regs (f : Ptp → Ptp) (s : State) : (updPtp f s).regs = s.regs := rfl
@[simp] theorem updPtp_latches (f : Ptp → Ptp) (s : State) : (updPtp f s).latches = s.latches := rfl
@[simp] theorem updPtp_snaps (f : Ptp → Ptp) (s : State) : (updPtp f s).snaps = s.snaps := rfl
@[simp] theorem updPtp_free (f : Ptp → Ptp) (s : State) : (updPtp f s).free = s.free := rfl
@[simp] theorem updPtp_out (f : Ptp → Ptp) (s : State) : (updPtp f s).out = s.out := rfl
@[simp] theorem updPtp_pending (f : Ptp → Ptp) (s : State) : (updPtp f s).pending = s.pending := rfl

@[simp] theorem setComm_boot (h : Nat) (c : Option Comm) (s : State) : (setComm h c s).boot = s.boot := rfl
@[simp] theorem setComm_pins (h : Nat) (c : Option Comm) (s : State) : (setComm h c s).pins = s.pins := rfl
@[simp] theorem setComm_fuses (h : Nat) (c : Option Comm) (s : State) : (setComm h c s).fuses = s.fuses := rfl
@[simp] theorem setComm_flash (h : Nat) (c : Option Comm) (s : State) : (setComm h c s).flash = s.flash := rfl
@[simp] theorem setComm_cfg (h : Nat) (c : Option Comm) (s : State) : (setComm h c s).cfg = s.cfg := rfl
@[simp] theorem setComm_img (h : Nat) (c : Option Comm) (s : State) : (setComm h c s).img = s.img := rfl
@[simp] theorem setComm_time (h : Nat) (c : Option Comm) (s : State) : (setComm h c s).time = s.time := rfl
@[simp] theorem setComm_commit (h : Nat) (c : Option Comm) (s : State) : (setComm h c s).commit = s.commit := rfl
@[simp] theorem setComm_ports (h : Nat) (c : Option Comm) (s : State) : (setComm h c s).ports = s.ports := rfl
@[simp] theorem setComm_parts (h : Nat) (c : Option Comm) (s : State) : (setComm h c s).parts = s.parts := rfl
@[simp] theorem setComm_syc (h : Nat) (c : Option Comm) (s : State) : (setComm h c s).syc = s.syc := rfl
@[simp] theorem setComm_hbm (h : Nat) (c : Option Comm) (s : State) : (setComm h c s).hbm = s.hbm := rfl
@[simp] theorem setComm_hbmPoison (h : Nat) (c : Option Comm) (s : State) : (setComm h c s).hbmPoison = s.hbmPoison := rfl
@[simp] theorem setComm_hbmErr (h : Nat) (c : Option Comm) (s : State) : (setComm h c s).hbmErr = s.hbmErr := rfl
@[simp] theorem setComm_sramErr (h : Nat) (c : Option Comm) (s : State) : (setComm h c s).sramErr = s.sramErr := rfl
@[simp] theorem setComm_links (h : Nat) (c : Option Comm) (s : State) : (setComm h c s).links = s.links := rfl
@[simp] theorem setComm_bridle (h : Nat) (c : Option Comm) (s : State) : (setComm h c s).bridle = s.bridle := rfl
@[simp] theorem setComm_planes (h : Nat) (c : Option Comm) (s : State) : (setComm h c s).planes = s.planes := rfl
@[simp] theorem setComm_tether (h : Nat) (c : Option Comm) (s : State) : (setComm h c s).tether = s.tether := rfl
@[simp] theorem setComm_net (h : Nat) (c : Option Comm) (s : State) : (setComm h c s).net = s.net := rfl
@[simp] theorem setComm_clusters (h : Nat) (c : Option Comm) (s : State) : (setComm h c s).clusters = s.clusters := rfl
@[simp] theorem setComm_power (h : Nat) (c : Option Comm) (s : State) : (setComm h c s).power = s.power := rfl
@[simp] theorem setComm_pair (h : Nat) (c : Option Comm) (s : State) : (setComm h c s).pair = s.pair := rfl
@[simp] theorem setComm_dual (h : Nat) (c : Option Comm) (s : State) : (setComm h c s).dual = s.dual := rfl
@[simp] theorem setComm_sec (h : Nat) (c : Option Comm) (s : State) : (setComm h c s).sec = s.sec := rfl
@[simp] theorem setComm_bist (h : Nat) (c : Option Comm) (s : State) : (setComm h c s).bist = s.bist := rfl
@[simp] theorem setComm_mgt (h : Nat) (c : Option Comm) (s : State) : (setComm h c s).mgt = s.mgt := rfl
@[simp] theorem setComm_mp (h : Nat) (c : Option Comm) (s : State) : (setComm h c s).mp = s.mp := rfl
@[simp] theorem setComm_mgtRing (h : Nat) (c : Option Comm) (s : State) : (setComm h c s).mgtRing = s.mgtRing := rfl
@[simp] theorem setComm_errSelect (h : Nat) (c : Option Comm) (s : State) : (setComm h c s).errSelect = s.errSelect := rfl
@[simp] theorem setComm_regs (h : Nat) (c : Option Comm) (s : State) : (setComm h c s).regs = s.regs := rfl
@[simp] theorem setComm_latches (h : Nat) (c : Option Comm) (s : State) : (setComm h c s).latches = s.latches := rfl
@[simp] theorem setComm_snaps (h : Nat) (c : Option Comm) (s : State) : (setComm h c s).snaps = s.snaps := rfl
@[simp] theorem setComm_free (h : Nat) (c : Option Comm) (s : State) : (setComm h c s).free = s.free := rfl
@[simp] theorem setComm_out (h : Nat) (c : Option Comm) (s : State) : (setComm h c s).out = s.out := rfl
@[simp] theorem setComm_pending (h : Nat) (c : Option Comm) (s : State) : (setComm h c s).pending = s.pending := rfl

@[simp] theorem updUpdate_boot (f : PldmUpdate → PldmUpdate) (s : State) : (updUpdate f s).boot = s.boot := rfl
@[simp] theorem updUpdate_pins (f : PldmUpdate → PldmUpdate) (s : State) : (updUpdate f s).pins = s.pins := rfl
@[simp] theorem updUpdate_fuses (f : PldmUpdate → PldmUpdate) (s : State) : (updUpdate f s).fuses = s.fuses := rfl
@[simp] theorem updUpdate_flash (f : PldmUpdate → PldmUpdate) (s : State) : (updUpdate f s).flash = s.flash := rfl
@[simp] theorem updUpdate_cfg (f : PldmUpdate → PldmUpdate) (s : State) : (updUpdate f s).cfg = s.cfg := rfl
@[simp] theorem updUpdate_img (f : PldmUpdate → PldmUpdate) (s : State) : (updUpdate f s).img = s.img := rfl
@[simp] theorem updUpdate_time (f : PldmUpdate → PldmUpdate) (s : State) : (updUpdate f s).time = s.time := rfl
@[simp] theorem updUpdate_commit (f : PldmUpdate → PldmUpdate) (s : State) : (updUpdate f s).commit = s.commit := rfl
@[simp] theorem updUpdate_ports (f : PldmUpdate → PldmUpdate) (s : State) : (updUpdate f s).ports = s.ports := rfl
@[simp] theorem updUpdate_parts (f : PldmUpdate → PldmUpdate) (s : State) : (updUpdate f s).parts = s.parts := rfl
@[simp] theorem updUpdate_syc (f : PldmUpdate → PldmUpdate) (s : State) : (updUpdate f s).syc = s.syc := rfl
@[simp] theorem updUpdate_hbm (f : PldmUpdate → PldmUpdate) (s : State) : (updUpdate f s).hbm = s.hbm := rfl
@[simp] theorem updUpdate_hbmPoison (f : PldmUpdate → PldmUpdate) (s : State) : (updUpdate f s).hbmPoison = s.hbmPoison := rfl
@[simp] theorem updUpdate_hbmErr (f : PldmUpdate → PldmUpdate) (s : State) : (updUpdate f s).hbmErr = s.hbmErr := rfl
@[simp] theorem updUpdate_sramErr (f : PldmUpdate → PldmUpdate) (s : State) : (updUpdate f s).sramErr = s.sramErr := rfl
@[simp] theorem updUpdate_links (f : PldmUpdate → PldmUpdate) (s : State) : (updUpdate f s).links = s.links := rfl
@[simp] theorem updUpdate_bridle (f : PldmUpdate → PldmUpdate) (s : State) : (updUpdate f s).bridle = s.bridle := rfl
@[simp] theorem updUpdate_planes (f : PldmUpdate → PldmUpdate) (s : State) : (updUpdate f s).planes = s.planes := rfl
@[simp] theorem updUpdate_tether (f : PldmUpdate → PldmUpdate) (s : State) : (updUpdate f s).tether = s.tether := rfl
@[simp] theorem updUpdate_net (f : PldmUpdate → PldmUpdate) (s : State) : (updUpdate f s).net = s.net := rfl
@[simp] theorem updUpdate_col (f : PldmUpdate → PldmUpdate) (s : State) : (updUpdate f s).col = s.col := rfl
@[simp] theorem updUpdate_clusters (f : PldmUpdate → PldmUpdate) (s : State) : (updUpdate f s).clusters = s.clusters := rfl
@[simp] theorem updUpdate_power (f : PldmUpdate → PldmUpdate) (s : State) : (updUpdate f s).power = s.power := rfl
@[simp] theorem updUpdate_pair (f : PldmUpdate → PldmUpdate) (s : State) : (updUpdate f s).pair = s.pair := rfl
@[simp] theorem updUpdate_dual (f : PldmUpdate → PldmUpdate) (s : State) : (updUpdate f s).dual = s.dual := rfl
@[simp] theorem updUpdate_sec (f : PldmUpdate → PldmUpdate) (s : State) : (updUpdate f s).sec = s.sec := rfl
@[simp] theorem updUpdate_bist (f : PldmUpdate → PldmUpdate) (s : State) : (updUpdate f s).bist = s.bist := rfl
@[simp] theorem updUpdate_mp (f : PldmUpdate → PldmUpdate) (s : State) : (updUpdate f s).mp = s.mp := rfl
@[simp] theorem updUpdate_mgtRing (f : PldmUpdate → PldmUpdate) (s : State) : (updUpdate f s).mgtRing = s.mgtRing := rfl
@[simp] theorem updUpdate_errSelect (f : PldmUpdate → PldmUpdate) (s : State) : (updUpdate f s).errSelect = s.errSelect := rfl
@[simp] theorem updUpdate_regs (f : PldmUpdate → PldmUpdate) (s : State) : (updUpdate f s).regs = s.regs := rfl
@[simp] theorem updUpdate_latches (f : PldmUpdate → PldmUpdate) (s : State) : (updUpdate f s).latches = s.latches := rfl
@[simp] theorem updUpdate_snaps (f : PldmUpdate → PldmUpdate) (s : State) : (updUpdate f s).snaps = s.snaps := rfl
@[simp] theorem updUpdate_free (f : PldmUpdate → PldmUpdate) (s : State) : (updUpdate f s).free = s.free := rfl
@[simp] theorem updUpdate_out (f : PldmUpdate → PldmUpdate) (s : State) : (updUpdate f s).out = s.out := rfl
@[simp] theorem updUpdate_pending (f : PldmUpdate → PldmUpdate) (s : State) : (updUpdate f s).pending = s.pending := rfl

@[simp] theorem updAsm_boot (k : PortId) (st : StreamId) (f : Assembly → Assembly) (s : State) : (updAsm k st f s).boot = s.boot := rfl
@[simp] theorem updAsm_pins (k : PortId) (st : StreamId) (f : Assembly → Assembly) (s : State) : (updAsm k st f s).pins = s.pins := rfl
@[simp] theorem updAsm_fuses (k : PortId) (st : StreamId) (f : Assembly → Assembly) (s : State) : (updAsm k st f s).fuses = s.fuses := rfl
@[simp] theorem updAsm_flash (k : PortId) (st : StreamId) (f : Assembly → Assembly) (s : State) : (updAsm k st f s).flash = s.flash := rfl
@[simp] theorem updAsm_cfg (k : PortId) (st : StreamId) (f : Assembly → Assembly) (s : State) : (updAsm k st f s).cfg = s.cfg := rfl
@[simp] theorem updAsm_img (k : PortId) (st : StreamId) (f : Assembly → Assembly) (s : State) : (updAsm k st f s).img = s.img := rfl
@[simp] theorem updAsm_time (k : PortId) (st : StreamId) (f : Assembly → Assembly) (s : State) : (updAsm k st f s).time = s.time := rfl
@[simp] theorem updAsm_commit (k : PortId) (st : StreamId) (f : Assembly → Assembly) (s : State) : (updAsm k st f s).commit = s.commit := rfl
@[simp] theorem updAsm_parts (k : PortId) (st : StreamId) (f : Assembly → Assembly) (s : State) : (updAsm k st f s).parts = s.parts := rfl
@[simp] theorem updAsm_syc (k : PortId) (st : StreamId) (f : Assembly → Assembly) (s : State) : (updAsm k st f s).syc = s.syc := rfl
@[simp] theorem updAsm_hbm (k : PortId) (st : StreamId) (f : Assembly → Assembly) (s : State) : (updAsm k st f s).hbm = s.hbm := rfl
@[simp] theorem updAsm_hbmPoison (k : PortId) (st : StreamId) (f : Assembly → Assembly) (s : State) : (updAsm k st f s).hbmPoison = s.hbmPoison := rfl
@[simp] theorem updAsm_hbmErr (k : PortId) (st : StreamId) (f : Assembly → Assembly) (s : State) : (updAsm k st f s).hbmErr = s.hbmErr := rfl
@[simp] theorem updAsm_sramErr (k : PortId) (st : StreamId) (f : Assembly → Assembly) (s : State) : (updAsm k st f s).sramErr = s.sramErr := rfl
@[simp] theorem updAsm_links (k : PortId) (st : StreamId) (f : Assembly → Assembly) (s : State) : (updAsm k st f s).links = s.links := rfl
@[simp] theorem updAsm_bridle (k : PortId) (st : StreamId) (f : Assembly → Assembly) (s : State) : (updAsm k st f s).bridle = s.bridle := rfl
@[simp] theorem updAsm_planes (k : PortId) (st : StreamId) (f : Assembly → Assembly) (s : State) : (updAsm k st f s).planes = s.planes := rfl
@[simp] theorem updAsm_tether (k : PortId) (st : StreamId) (f : Assembly → Assembly) (s : State) : (updAsm k st f s).tether = s.tether := rfl
@[simp] theorem updAsm_net (k : PortId) (st : StreamId) (f : Assembly → Assembly) (s : State) : (updAsm k st f s).net = s.net := rfl
@[simp] theorem updAsm_col (k : PortId) (st : StreamId) (f : Assembly → Assembly) (s : State) : (updAsm k st f s).col = s.col := rfl
@[simp] theorem updAsm_clusters (k : PortId) (st : StreamId) (f : Assembly → Assembly) (s : State) : (updAsm k st f s).clusters = s.clusters := rfl
@[simp] theorem updAsm_power (k : PortId) (st : StreamId) (f : Assembly → Assembly) (s : State) : (updAsm k st f s).power = s.power := rfl
@[simp] theorem updAsm_pair (k : PortId) (st : StreamId) (f : Assembly → Assembly) (s : State) : (updAsm k st f s).pair = s.pair := rfl
@[simp] theorem updAsm_dual (k : PortId) (st : StreamId) (f : Assembly → Assembly) (s : State) : (updAsm k st f s).dual = s.dual := rfl
@[simp] theorem updAsm_sec (k : PortId) (st : StreamId) (f : Assembly → Assembly) (s : State) : (updAsm k st f s).sec = s.sec := rfl
@[simp] theorem updAsm_bist (k : PortId) (st : StreamId) (f : Assembly → Assembly) (s : State) : (updAsm k st f s).bist = s.bist := rfl
@[simp] theorem updAsm_mgt (k : PortId) (st : StreamId) (f : Assembly → Assembly) (s : State) : (updAsm k st f s).mgt = s.mgt := rfl
@[simp] theorem updAsm_mp (k : PortId) (st : StreamId) (f : Assembly → Assembly) (s : State) : (updAsm k st f s).mp = s.mp := rfl
@[simp] theorem updAsm_mgtRing (k : PortId) (st : StreamId) (f : Assembly → Assembly) (s : State) : (updAsm k st f s).mgtRing = s.mgtRing := rfl
@[simp] theorem updAsm_errSelect (k : PortId) (st : StreamId) (f : Assembly → Assembly) (s : State) : (updAsm k st f s).errSelect = s.errSelect := rfl
@[simp] theorem updAsm_regs (k : PortId) (st : StreamId) (f : Assembly → Assembly) (s : State) : (updAsm k st f s).regs = s.regs := rfl
@[simp] theorem updAsm_latches (k : PortId) (st : StreamId) (f : Assembly → Assembly) (s : State) : (updAsm k st f s).latches = s.latches := rfl
@[simp] theorem updAsm_snaps (k : PortId) (st : StreamId) (f : Assembly → Assembly) (s : State) : (updAsm k st f s).snaps = s.snaps := rfl
@[simp] theorem updAsm_free (k : PortId) (st : StreamId) (f : Assembly → Assembly) (s : State) : (updAsm k st f s).free = s.free := rfl
@[simp] theorem updAsm_out (k : PortId) (st : StreamId) (f : Assembly → Assembly) (s : State) : (updAsm k st f s).out = s.out := rfl
@[simp] theorem updAsm_pending (k : PortId) (st : StreamId) (f : Assembly → Assembly) (s : State) : (updAsm k st f s).pending = s.pending := rfl

@[simp] theorem updLoad_boot (p : PartId) (f : Load → Load) (s : State) : (updLoad p f s).boot = s.boot := rfl
@[simp] theorem updLoad_pins (p : PartId) (f : Load → Load) (s : State) : (updLoad p f s).pins = s.pins := rfl
@[simp] theorem updLoad_fuses (p : PartId) (f : Load → Load) (s : State) : (updLoad p f s).fuses = s.fuses := rfl
@[simp] theorem updLoad_flash (p : PartId) (f : Load → Load) (s : State) : (updLoad p f s).flash = s.flash := rfl
@[simp] theorem updLoad_cfg (p : PartId) (f : Load → Load) (s : State) : (updLoad p f s).cfg = s.cfg := rfl
@[simp] theorem updLoad_img (p : PartId) (f : Load → Load) (s : State) : (updLoad p f s).img = s.img := rfl
@[simp] theorem updLoad_time (p : PartId) (f : Load → Load) (s : State) : (updLoad p f s).time = s.time := rfl
@[simp] theorem updLoad_commit (p : PartId) (f : Load → Load) (s : State) : (updLoad p f s).commit = s.commit := rfl
@[simp] theorem updLoad_ports (p : PartId) (f : Load → Load) (s : State) : (updLoad p f s).ports = s.ports := rfl
@[simp] theorem updLoad_syc (p : PartId) (f : Load → Load) (s : State) : (updLoad p f s).syc = s.syc := rfl
@[simp] theorem updLoad_hbm (p : PartId) (f : Load → Load) (s : State) : (updLoad p f s).hbm = s.hbm := rfl
@[simp] theorem updLoad_hbmPoison (p : PartId) (f : Load → Load) (s : State) : (updLoad p f s).hbmPoison = s.hbmPoison := rfl
@[simp] theorem updLoad_hbmErr (p : PartId) (f : Load → Load) (s : State) : (updLoad p f s).hbmErr = s.hbmErr := rfl
@[simp] theorem updLoad_sramErr (p : PartId) (f : Load → Load) (s : State) : (updLoad p f s).sramErr = s.sramErr := rfl
@[simp] theorem updLoad_links (p : PartId) (f : Load → Load) (s : State) : (updLoad p f s).links = s.links := rfl
@[simp] theorem updLoad_bridle (p : PartId) (f : Load → Load) (s : State) : (updLoad p f s).bridle = s.bridle := rfl
@[simp] theorem updLoad_planes (p : PartId) (f : Load → Load) (s : State) : (updLoad p f s).planes = s.planes := rfl
@[simp] theorem updLoad_tether (p : PartId) (f : Load → Load) (s : State) : (updLoad p f s).tether = s.tether := rfl
@[simp] theorem updLoad_net (p : PartId) (f : Load → Load) (s : State) : (updLoad p f s).net = s.net := rfl
@[simp] theorem updLoad_col (p : PartId) (f : Load → Load) (s : State) : (updLoad p f s).col = s.col := rfl
@[simp] theorem updLoad_clusters (p : PartId) (f : Load → Load) (s : State) : (updLoad p f s).clusters = s.clusters := rfl
@[simp] theorem updLoad_power (p : PartId) (f : Load → Load) (s : State) : (updLoad p f s).power = s.power := rfl
@[simp] theorem updLoad_pair (p : PartId) (f : Load → Load) (s : State) : (updLoad p f s).pair = s.pair := rfl
@[simp] theorem updLoad_dual (p : PartId) (f : Load → Load) (s : State) : (updLoad p f s).dual = s.dual := rfl
@[simp] theorem updLoad_sec (p : PartId) (f : Load → Load) (s : State) : (updLoad p f s).sec = s.sec := rfl
@[simp] theorem updLoad_bist (p : PartId) (f : Load → Load) (s : State) : (updLoad p f s).bist = s.bist := rfl
@[simp] theorem updLoad_mgt (p : PartId) (f : Load → Load) (s : State) : (updLoad p f s).mgt = s.mgt := rfl
@[simp] theorem updLoad_mp (p : PartId) (f : Load → Load) (s : State) : (updLoad p f s).mp = s.mp := rfl
@[simp] theorem updLoad_mgtRing (p : PartId) (f : Load → Load) (s : State) : (updLoad p f s).mgtRing = s.mgtRing := rfl
@[simp] theorem updLoad_errSelect (p : PartId) (f : Load → Load) (s : State) : (updLoad p f s).errSelect = s.errSelect := rfl
@[simp] theorem updLoad_regs (p : PartId) (f : Load → Load) (s : State) : (updLoad p f s).regs = s.regs := rfl
@[simp] theorem updLoad_latches (p : PartId) (f : Load → Load) (s : State) : (updLoad p f s).latches = s.latches := rfl
@[simp] theorem updLoad_snaps (p : PartId) (f : Load → Load) (s : State) : (updLoad p f s).snaps = s.snaps := rfl
@[simp] theorem updLoad_free (p : PartId) (f : Load → Load) (s : State) : (updLoad p f s).free = s.free := rfl
@[simp] theorem updLoad_out (p : PartId) (f : Load → Load) (s : State) : (updLoad p f s).out = s.out := rfl
@[simp] theorem updLoad_pending (p : PartId) (f : Load → Load) (s : State) : (updLoad p f s).pending = s.pending := rfl

@[simp] theorem updSb_boot (p : PartId) (f : SbPart → SbPart) (s : State) : (updSb p f s).boot = s.boot := rfl
@[simp] theorem updSb_pins (p : PartId) (f : SbPart → SbPart) (s : State) : (updSb p f s).pins = s.pins := rfl
@[simp] theorem updSb_fuses (p : PartId) (f : SbPart → SbPart) (s : State) : (updSb p f s).fuses = s.fuses := rfl
@[simp] theorem updSb_flash (p : PartId) (f : SbPart → SbPart) (s : State) : (updSb p f s).flash = s.flash := rfl
@[simp] theorem updSb_cfg (p : PartId) (f : SbPart → SbPart) (s : State) : (updSb p f s).cfg = s.cfg := rfl
@[simp] theorem updSb_img (p : PartId) (f : SbPart → SbPart) (s : State) : (updSb p f s).img = s.img := rfl
@[simp] theorem updSb_time (p : PartId) (f : SbPart → SbPart) (s : State) : (updSb p f s).time = s.time := rfl
@[simp] theorem updSb_commit (p : PartId) (f : SbPart → SbPart) (s : State) : (updSb p f s).commit = s.commit := rfl
@[simp] theorem updSb_ports (p : PartId) (f : SbPart → SbPart) (s : State) : (updSb p f s).ports = s.ports := rfl
@[simp] theorem updSb_syc (p : PartId) (f : SbPart → SbPart) (s : State) : (updSb p f s).syc = s.syc := rfl
@[simp] theorem updSb_hbm (p : PartId) (f : SbPart → SbPart) (s : State) : (updSb p f s).hbm = s.hbm := rfl
@[simp] theorem updSb_hbmPoison (p : PartId) (f : SbPart → SbPart) (s : State) : (updSb p f s).hbmPoison = s.hbmPoison := rfl
@[simp] theorem updSb_hbmErr (p : PartId) (f : SbPart → SbPart) (s : State) : (updSb p f s).hbmErr = s.hbmErr := rfl
@[simp] theorem updSb_sramErr (p : PartId) (f : SbPart → SbPart) (s : State) : (updSb p f s).sramErr = s.sramErr := rfl
@[simp] theorem updSb_links (p : PartId) (f : SbPart → SbPart) (s : State) : (updSb p f s).links = s.links := rfl
@[simp] theorem updSb_bridle (p : PartId) (f : SbPart → SbPart) (s : State) : (updSb p f s).bridle = s.bridle := rfl
@[simp] theorem updSb_planes (p : PartId) (f : SbPart → SbPart) (s : State) : (updSb p f s).planes = s.planes := rfl
@[simp] theorem updSb_tether (p : PartId) (f : SbPart → SbPart) (s : State) : (updSb p f s).tether = s.tether := rfl
@[simp] theorem updSb_net (p : PartId) (f : SbPart → SbPart) (s : State) : (updSb p f s).net = s.net := rfl
@[simp] theorem updSb_col (p : PartId) (f : SbPart → SbPart) (s : State) : (updSb p f s).col = s.col := rfl
@[simp] theorem updSb_clusters (p : PartId) (f : SbPart → SbPart) (s : State) : (updSb p f s).clusters = s.clusters := rfl
@[simp] theorem updSb_power (p : PartId) (f : SbPart → SbPart) (s : State) : (updSb p f s).power = s.power := rfl
@[simp] theorem updSb_pair (p : PartId) (f : SbPart → SbPart) (s : State) : (updSb p f s).pair = s.pair := rfl
@[simp] theorem updSb_dual (p : PartId) (f : SbPart → SbPart) (s : State) : (updSb p f s).dual = s.dual := rfl
@[simp] theorem updSb_sec (p : PartId) (f : SbPart → SbPart) (s : State) : (updSb p f s).sec = s.sec := rfl
@[simp] theorem updSb_bist (p : PartId) (f : SbPart → SbPart) (s : State) : (updSb p f s).bist = s.bist := rfl
@[simp] theorem updSb_mgt (p : PartId) (f : SbPart → SbPart) (s : State) : (updSb p f s).mgt = s.mgt := rfl
@[simp] theorem updSb_mp (p : PartId) (f : SbPart → SbPart) (s : State) : (updSb p f s).mp = s.mp := rfl
@[simp] theorem updSb_mgtRing (p : PartId) (f : SbPart → SbPart) (s : State) : (updSb p f s).mgtRing = s.mgtRing := rfl
@[simp] theorem updSb_errSelect (p : PartId) (f : SbPart → SbPart) (s : State) : (updSb p f s).errSelect = s.errSelect := rfl
@[simp] theorem updSb_regs (p : PartId) (f : SbPart → SbPart) (s : State) : (updSb p f s).regs = s.regs := rfl
@[simp] theorem updSb_latches (p : PartId) (f : SbPart → SbPart) (s : State) : (updSb p f s).latches = s.latches := rfl
@[simp] theorem updSb_snaps (p : PartId) (f : SbPart → SbPart) (s : State) : (updSb p f s).snaps = s.snaps := rfl
@[simp] theorem updSb_free (p : PartId) (f : SbPart → SbPart) (s : State) : (updSb p f s).free = s.free := rfl
@[simp] theorem updSb_out (p : PartId) (f : SbPart → SbPart) (s : State) : (updSb p f s).out = s.out := rfl
@[simp] theorem updSb_pending (p : PartId) (f : SbPart → SbPart) (s : State) : (updSb p f s).pending = s.pending := rfl

@[simp] theorem updCore_boot (c : ClusterId) (i : Fin 8) (f : CoreSt → CoreSt) (s : State) : (updCore c i f s).boot = s.boot := rfl
@[simp] theorem updCore_pins (c : ClusterId) (i : Fin 8) (f : CoreSt → CoreSt) (s : State) : (updCore c i f s).pins = s.pins := rfl
@[simp] theorem updCore_fuses (c : ClusterId) (i : Fin 8) (f : CoreSt → CoreSt) (s : State) : (updCore c i f s).fuses = s.fuses := rfl
@[simp] theorem updCore_flash (c : ClusterId) (i : Fin 8) (f : CoreSt → CoreSt) (s : State) : (updCore c i f s).flash = s.flash := rfl
@[simp] theorem updCore_cfg (c : ClusterId) (i : Fin 8) (f : CoreSt → CoreSt) (s : State) : (updCore c i f s).cfg = s.cfg := rfl
@[simp] theorem updCore_img (c : ClusterId) (i : Fin 8) (f : CoreSt → CoreSt) (s : State) : (updCore c i f s).img = s.img := rfl
@[simp] theorem updCore_time (c : ClusterId) (i : Fin 8) (f : CoreSt → CoreSt) (s : State) : (updCore c i f s).time = s.time := rfl
@[simp] theorem updCore_commit (c : ClusterId) (i : Fin 8) (f : CoreSt → CoreSt) (s : State) : (updCore c i f s).commit = s.commit := rfl
@[simp] theorem updCore_ports (c : ClusterId) (i : Fin 8) (f : CoreSt → CoreSt) (s : State) : (updCore c i f s).ports = s.ports := rfl
@[simp] theorem updCore_parts (c : ClusterId) (i : Fin 8) (f : CoreSt → CoreSt) (s : State) : (updCore c i f s).parts = s.parts := rfl
@[simp] theorem updCore_syc (c : ClusterId) (i : Fin 8) (f : CoreSt → CoreSt) (s : State) : (updCore c i f s).syc = s.syc := rfl
@[simp] theorem updCore_hbm (c : ClusterId) (i : Fin 8) (f : CoreSt → CoreSt) (s : State) : (updCore c i f s).hbm = s.hbm := rfl
@[simp] theorem updCore_hbmPoison (c : ClusterId) (i : Fin 8) (f : CoreSt → CoreSt) (s : State) : (updCore c i f s).hbmPoison = s.hbmPoison := rfl
@[simp] theorem updCore_hbmErr (c : ClusterId) (i : Fin 8) (f : CoreSt → CoreSt) (s : State) : (updCore c i f s).hbmErr = s.hbmErr := rfl
@[simp] theorem updCore_sramErr (c : ClusterId) (i : Fin 8) (f : CoreSt → CoreSt) (s : State) : (updCore c i f s).sramErr = s.sramErr := rfl
@[simp] theorem updCore_links (c : ClusterId) (i : Fin 8) (f : CoreSt → CoreSt) (s : State) : (updCore c i f s).links = s.links := rfl
@[simp] theorem updCore_bridle (c : ClusterId) (i : Fin 8) (f : CoreSt → CoreSt) (s : State) : (updCore c i f s).bridle = s.bridle := rfl
@[simp] theorem updCore_planes (c : ClusterId) (i : Fin 8) (f : CoreSt → CoreSt) (s : State) : (updCore c i f s).planes = s.planes := rfl
@[simp] theorem updCore_tether (c : ClusterId) (i : Fin 8) (f : CoreSt → CoreSt) (s : State) : (updCore c i f s).tether = s.tether := rfl
@[simp] theorem updCore_net (c : ClusterId) (i : Fin 8) (f : CoreSt → CoreSt) (s : State) : (updCore c i f s).net = s.net := rfl
@[simp] theorem updCore_col (c : ClusterId) (i : Fin 8) (f : CoreSt → CoreSt) (s : State) : (updCore c i f s).col = s.col := rfl
@[simp] theorem updCore_power (c : ClusterId) (i : Fin 8) (f : CoreSt → CoreSt) (s : State) : (updCore c i f s).power = s.power := rfl
@[simp] theorem updCore_pair (c : ClusterId) (i : Fin 8) (f : CoreSt → CoreSt) (s : State) : (updCore c i f s).pair = s.pair := rfl
@[simp] theorem updCore_dual (c : ClusterId) (i : Fin 8) (f : CoreSt → CoreSt) (s : State) : (updCore c i f s).dual = s.dual := rfl
@[simp] theorem updCore_sec (c : ClusterId) (i : Fin 8) (f : CoreSt → CoreSt) (s : State) : (updCore c i f s).sec = s.sec := rfl
@[simp] theorem updCore_bist (c : ClusterId) (i : Fin 8) (f : CoreSt → CoreSt) (s : State) : (updCore c i f s).bist = s.bist := rfl
@[simp] theorem updCore_mgt (c : ClusterId) (i : Fin 8) (f : CoreSt → CoreSt) (s : State) : (updCore c i f s).mgt = s.mgt := rfl
@[simp] theorem updCore_mp (c : ClusterId) (i : Fin 8) (f : CoreSt → CoreSt) (s : State) : (updCore c i f s).mp = s.mp := rfl
@[simp] theorem updCore_mgtRing (c : ClusterId) (i : Fin 8) (f : CoreSt → CoreSt) (s : State) : (updCore c i f s).mgtRing = s.mgtRing := rfl
@[simp] theorem updCore_errSelect (c : ClusterId) (i : Fin 8) (f : CoreSt → CoreSt) (s : State) : (updCore c i f s).errSelect = s.errSelect := rfl
@[simp] theorem updCore_regs (c : ClusterId) (i : Fin 8) (f : CoreSt → CoreSt) (s : State) : (updCore c i f s).regs = s.regs := rfl
@[simp] theorem updCore_latches (c : ClusterId) (i : Fin 8) (f : CoreSt → CoreSt) (s : State) : (updCore c i f s).latches = s.latches := rfl
@[simp] theorem updCore_snaps (c : ClusterId) (i : Fin 8) (f : CoreSt → CoreSt) (s : State) : (updCore c i f s).snaps = s.snaps := rfl
@[simp] theorem updCore_free (c : ClusterId) (i : Fin 8) (f : CoreSt → CoreSt) (s : State) : (updCore c i f s).free = s.free := rfl
@[simp] theorem updCore_out (c : ClusterId) (i : Fin 8) (f : CoreSt → CoreSt) (s : State) : (updCore c i f s).out = s.out := rfl
@[simp] theorem updCore_pending (c : ClusterId) (i : Fin 8) (f : CoreSt → CoreSt) (s : State) : (updCore c i f s).pending = s.pending := rfl

end Sys2Proof.Laws
end

