-- ==== Sys2Proof/WellFormed.lean ====
section
/-!
DEFINITION. WellFormed.lean: the ranges of a command's operands. `exec` is total and gives every operand a meaning; a
well-formed command is one whose operands the hardware can carry: a register value has the register's width, a
DEVICE_ID 14 bits (R24), a flit 256 bytes (R340), a granule lies in HBM, and so on.
-/
namespace Sys2Proof.WellFormed
open Sys2Proof

def u8 (v : Nat) : Bool := decide (v < 2 ^ 8)
def u16 (v : Nat) : Bool := decide (v < 2 ^ 16)
def u32 (v : Nat) : Bool := decide (v < 2 ^ 32)
def u64 (v : Nat) : Bool := decide (v < 2 ^ 64)

/-- A DEVICE_ID (R24). -/
def dev (d : DevId) : Bool := decide (d < 2 ^ 14)

/-- A member of a group (R24). -/
def member (m : Nat) : Bool := decide (m < 16)

/-- A string of exactly `n` bytes, or of 1 to `n`. -/
def exactly (n : Nat) (b : Bytes) : Bool := b.length == n
def atMost (n : Nat) (b : Bytes) : Bool := decide (1 ≤ b.length) && decide (b.length ≤ n)

/-- A register access of 1 to 8 bytes with a value of that width (R11). -/
def access (len v : Nat) : Bool := decide (1 ≤ len) && decide (len ≤ 8) && decide (v < 2 ^ (8 * len))

/-- An aligned 32-bit register offset (R11). -/
def regOff (off : Nat) : Bool := off % 4 == 0 && u32 off

/-- A range of a BAR window. -/
def window (size off len : Nat) : Bool := decide (1 ≤ len) && decide (off + len ≤ size)

/-- The head of a commit: 14-bit groups and a 64-bit instant (R115). -/
def head (h : CommitHead) : Bool := u64 h.id && u64 h.instant && h.groups.all (fun g => decide (g < 2 ^ 10))

/-- A commit message (R115 to R121). -/
def cfgMsg : CfgMsg → Bool
  | .voteReq h digest => head h && exactly 32 digest
  | .vote id _ reason => u64 id && u8 reason
  | .outcome id _ reason voter => u64 id && u8 reason && (match voter with | some d => dev d | none => true)
  | .announce h => head h
  | .query id => u64 id
  | .answer id o => u64 id && (match o with | some (_, r, v) => u8 r && (match v with | some d => dev d | none => true) | none => true)

/-- What IDENTIFY carries (R339). -/
def identity (i : Identity) : Bool :=
  dev i.dev && decide (i.link < 16) && decide (1 ≤ i.groupSize) && decide (i.groupSize ≤ 16) && decide (i.pairMode < 3) && u32 i.startId

/-- A bond advertisement (R352). -/
def advert (a : Advert) : Bool := u16 a.map && u32 a.startId && a.peers.all (fun x => member x.1 && u32 x.2)

/-- A LINK message (R341, R352, R355). -/
def linkMsg : LinkMsg → Bool
  | .identify i => identity i
  | .advert a => advert a
  | .notice b => exactly 32 b
  | .keying n => u64 n
  | .sleepReq | .sleepAck | .sleepNak | .dormantReq | .dormantAck | .dormantNak | .wake | .training => true

/-- What the ECC finds lies where the memory is (R460, R463). -/
def eccFind : EccFind → Bool
  | .tile _ _ code row => u8 code && decide (row < 64)
  | .storedRow tag => u64 tag
  | .backedRow tag _ => u64 tag
  | .hold tag => u64 tag
  | _ => true

/-- A message of the pair links, of at most 8 KiB of payload (R439, R479). -/
def pairMsg (b : Bytes) : Bool := atMost 8256 b

/-- A PTP message (R380). -/
def ptpMsg (m : PtpMsg) : Bool :=
  decide (m.domain < 2 ^ 8) && decide (m.sdoId < 2 ^ 12) && u16 m.seq && decide (m.src < 2 ^ 80) && decide (m.corr.natAbs < 2 ^ 47) &&
    decide (m.time < 2 ^ 78) && decide (m.req < 2 ^ 80) && decide (m.logInterval.natAbs ≤ 128) && u8 m.ds.priority1 &&
    u8 m.ds.clockClass && u8 m.ds.accuracy && u16 m.ds.variance && u8 m.ds.priority2 && u64 m.ds.gm && u16 m.ds.steps

/-- The packet number of a SecTAG, of 64 bits at most (R377). -/
def packetNo (n : Option Nat) : Bool := match n with | some x => u64 x | none => true

/-- The tags of a received frame that is no transport datagram (R361, R377). -/
def ethFrame : EthCheck → Bool
  | .good t => decide (t.vlan < 4096) && decide (t.pcp < 8) && packetNo t.pn
  | _ => true

/-- The headers of a received frame (R361, R365, R377). -/
def frame : FrameCheck → Bool
  | .good h => decide (h.vlan < 4096) && decide (h.pcp < 8) && (h.ver == 4 || h.ver == 6) && decide (h.src < 2 ^ 128) && decide (h.dst < 2 ^ 128) &&
      decide (h.dscp < 64) && decide (h.ecn < 4) && u8 h.ttl && u16 h.ident && decide (h.flow < 2 ^ 20) && u16 h.sport && u16 h.dport && u16 h.udpSum && packetNo h.pn
  | _ => true

/-- A Tether datagram (R364). -/
def dgram (b : Bytes) : Bool := atMost 9000 b

end Sys2Proof.WellFormed

namespace Sys2Proof
open Sys2Proof.WellFormed

/-- Are the command's operands in the ranges the hardware can carry? -/
def Instr.wf : Instr → Bool
  | .registerWrite _ (.reg off) len v _ => u32 off && access len v
  | .registerWrite _ _ len v _ => access len v
  | .rcRegisterRead _ (.reg off) len => u32 off && decide (1 ≤ len) && decide (len ≤ 4096)
  | .rcRegisterRead _ (.field (.doeDiscovery i)) len => u8 i && decide (1 ≤ len) && decide (len ≤ 4096)
  | .rcRegisterRead _ (.bar2 off) len => decide (1 ≤ len) && decide (len ≤ 4096) && decide (off + len ≤ 2 ^ 26)
  | .rcRegisterRead _ _ len => decide (1 ≤ len) && decide (len ≤ 8)
  | .lowHalfRead _ off => regOff off && off % 8 == 0
  | .highHalfRead _ off => regOff off && off % 8 == 4
  | .railBelowThreshold rail => decide (rail < 14)
  | .devResetReqWarm _ v | .devResetReqPartition _ v | .mgtWdtRefresh _ v | .cfgStageOpen _ v | .cfgStageSeal _ v
  | .cfgStageStart _ v | .cfgStageAbort _ v | .ringTailWrite _ _ v | .ringCtlWrite _ _ v | .brlRetrain _ _ v
  | .brlDormant _ _ v | .brlWake _ _ v | .tthRetrain _ _ v | .tthDormant _ _ v | .tthWake _ _ v | .errHeadWrite _ v
  | .sbActivate _ v | .sbDepose _ v | .sbRejoin _ v | .setPstate _ v | .pwrLimitWWrite _ v | .pwrCloseUsWrite _ v
  | .gate _ v | .pwrWake _ v | .quietEnter _ v | .quietExit _ v | .provision _ v | .deploy _ v | .unlockDebug _ v
  | .relock _ v | .decommission _ v | .zeroize _ v | .setVault _ v | .advanceFloor _ v | .logClear _ v | .bistRun _ v
  | .bistShutdown _ v | .mgtEventHeadWrite _ v | .mgtMsgCtlSend _ v | .dbgTraceCtlWrite _ v | .dbgTraceRdWrite _ v
  | .dbgMark _ v | .cntSnapTake _ v | .cntSnapRelease _ v | .mpHalt _ v | .mpStep _ v | .mgtWakeReqWrite _ v => u32 v
  | .sycHostAdd _ idx v => decide (idx < 16384) && u32 v
  | .selftestDone failed => decide (failed ≤ 10)
  | .portRetrainDone _ gen width => decide (1 ≤ gen) && decide (gen ≤ 6) && decide (width ≤ 16)
  | .hostLinkUp _ gen width _ _ => decide (1 ≤ gen) && decide (gen ≤ 6) && decide (width ≤ 16)
  | .thermalTrip sensor value => decide (sensor < 24) && u16 value
  | .timeMessageReceive _ dt off epoch m fc table _ => u64 dt && u64 off && decide (epoch < 4) && member m && u32 fc && atMost 4096 table
  | .ptpEventMessage _ (.receive f m) => ethFrame f && ptpMsg m
  | .ptpEventMessage _ (.send _) => true
  | .voteRequestReceive src e h digest => dev src && decide (e < 4) && head h && exactly 32 digest
  | .voteReceive src e id _ reason => dev src && decide (e < 4) && u64 id && u8 reason
  | .outcomeReceive src e id _ reason voter => dev src && decide (e < 4) && u64 id && u8 reason && (match voter with | some d => dev d | none => true)
  | .announcementReceive src e h => dev src && decide (e < 4) && head h
  | .queryReceive src e msg => dev src && decide (e < 4) && cfgMsg msg
  | .bar2Write _ off data _ => window (2 ^ 26) off data.length
  | .bar4Read _ off len ecc => u64 off && decide (1 ≤ len) && decide (len ≤ 4096) && ecc.all eccFind
  | .bar4Write _ off data _ ecc => u64 off && atMost 4096 data && ecc.all eccFind
  | .dmaReadCompletion _ _ _ data => decide (data.length ≤ 4096)
  | .seqLd _ ecc | .seqSt _ ecc | .seqMma _ ecc | .seqAct _ ecc | .seqMul _ ecc | .seqScale _ ecc | .seqCvt _ ecc
  | .seqExpert _ ecc | .passEnd _ ecc => ecc.all eccFind
  | .tokenSelectionCommit _ pos | .shadowScoreDone _ pos => u16 pos
  | .passStart _ e | .reissuePassTimer _ e => u16 e
  | .rowReceive src _ pkt | .resultReceive src _ pkt | .verdictReceive src _ pkt | .closeReceive src _ pkt
  | .dropReceive src _ pkt | .refuseReceive src _ pkt | .colAckReceive src _ pkt | .colNackReceive src _ pkt
  | .joinReceive src _ pkt | .readyReceive src _ pkt | .colAbortReceive src _ pkt | .colProbeReceive src _ pkt
  | .colProbeAckReceive src _ pkt => dev src && atMost 32768 pkt
  | .colDataReceive src _ pkt ops => dev src && atMost 32768 pkt &&
      (match ops with | some o => u8 o.dtype && u8 o.redop && u16 o.root && u16 o.cap | none => true)
  | .identifyReceive _ i => identity i
  | .flitReceive _ fec flit msg => decide (fec ≤ 2) && exactly 256 flit && msg.all linkMsg
  | .nakReceive _ ack => decide (ack < 4096)
  | .integrityReceive _ flit => exactly 256 flit
  | .timeFlitReceive _ farDt farRx => u64 farDt && u64 farRx
  | .mkaSecured _ peer _ => u8 peer
  | .bondAdvertisementReceive _ a => advert a
  | .tthDataReceive _ f d | .tthHelloReceive _ f d => frame f && dgram d
  | .tthAckReceive _ f d | .tthHelloAckReceive _ f d | .closeCtxReceive _ f d => frame f && dgram d
  | .helloRetry c | .tthAckTimer c | .rtoExpiry c | .contextIdleClose c | .tthRetxExhaust c => decide (c < 1024)
  | .failedPlaneProbe _ peer _ => dev peer
  | .colProbeTimeout _ d => dev d
  | .dlHelloReceive m | .dlCompareReceive m | .dlAbandonReceive m => exactly 64 m
  | .patrolScrubRead _ r => decide (r ≤ 2)
  | .pairHelloReceive m | .mirrorReceive m | .snapReceive m | .pairAckReceive m | .deposedReceive m => pairMsg m
  | .pairProbeReceive _ m | .pairProbeAckReceive _ m | .witnessAReceive _ m => pairMsg m
  | .witnessQReceive _ src m => dev src && pairMsg m
  | .railReadbackSample mv => u16 mv
  | .sensorSample temps => temps.length == 18
  | .powerEstimate w => u16 w
  | .clusterNoticeReceive n => exactly 32 n
  | .spdmGetCertificate _ slot off len => u8 slot && u16 off && u16 len
  | .spdmChallenge _ slot nonce => u8 slot && exactly 32 nonce
  | .spdmGetMeasurements _ op nonce => u8 op && exactly 32 nonce
  | .spdmKeyExchange _ share => exactly 96 share
  | .spdmKeyUpdate _ x | .spdmHeartbeat _ x | .spdmEndSession _ x | .ideKmQuery _ x _ | .ideKmKeyProg _ x _ _ _ _
  | .ideKmKSetGo _ x _ _ _ | .ideKmKSetStop _ x _ _ _ => u32 x
  | .jtagInstruction ir => u8 ir
  | .entropyTestFail t => t == 11 || t == 12
  | .mfgTestRun units => decide (units < 2 ^ 13)
  | .bistUnitDone unit result detail => decide (unit ≤ 0x14) && decide (result ≤ 1) && u32 detail
  | .bistWindowSample cause => decide (cause ≤ 3)
  | .read32 _ addr count => u32 addr && u8 count
  | .secRelay _ buf => decide (buf.length ≤ 4096)
  | .logRead _ sector off len => u16 sector && u16 off && u16 len
  | .policyMessage _ cmd body => u8 cmd && decide (body.length ≤ 4096)
  | .setEndpointId _ op eid => decide (op < 4) && u8 eid
  | .setEventReceiver _ e => u8 e
  | .getSensorReading _ id => u16 id
  | .sensorEventTimer id => u16 id
  | .requestUpdate _ size count => u32 size && u16 count
  | .passComponentTable _ cls ident stamp => u16 cls && u16 ident && u32 stamp
  | .updateComponent _ cls ident size => u16 cls && u16 ident && u32 size
  | .firmwareDataReceive _ off data => u32 off && decide (data.length ≤ 4096)
  | .arpNdRequest _ f a t => ethFrame f && decide (a < 2 ^ 128) && decide (t < 2 ^ 128)
  | .neighbourRefresh _ a | .neighbourResolutionRetry _ a => decide (a < 2 ^ 128)
  | .arpNdReplyReceive _ f a mac => ethFrame f && decide (a < 2 ^ 128) && decide (mac < 2 ^ 48)
  | .icmpEchoRequest _ f a ident => ethFrame f && decide (a < 2 ^ 128) && u32 ident
  | .pwrGoodFall | .boardResetAssert | .testEnHigh | .coldResetRelease | .warmResetComplete
  | .partitionResetComplete _ | .perstAssert _ | .perstRelease _ | .flr _ | .functionReady _ | .romBankChoice
  | .imageVerifyDone _ | .garkuLoadDone _ | .bistReadDone _ | .hbmTrainDone _ | .hbmClearDone _ | .groupSyncRise _
  | .groupSyncLineHigh | .alignTimeout _ | .linkTrainEnd | .linkTrainTimeout | .timeSyncAchieved | .timeSyncTimeout
  | .fwWatchdog | .fallbackAlertStep | .timeMessageSend | .timeRefLock | .ppsInEdge | .ppsOutEdge | .sysSyncLoss
  | .ptpPortMove | .checkerDone | .voteDeadline | .commitInstant | .fencedQuery | .fenceTimeout | .powerStateD3hot _
  | .powerStateD0 _ | .pmPmeTransmit _ | .pmPmeRetransmit _ | .aspmL1Entry _ | .pmeTurnOff _ | .dlDown _
  | .busMasterEnableChange _ _ | .msixUnmask _ _ | .dmaCompletionTimeout _ _ | .ideIntegrityFail _ _
  | .ringFetchComplete _ _ | .nop _ _ | .jobBegin _ _ | .jobEnd _ _ | .ctSet _ _ | .ctAdd _ _ | .cmpSkip _ _
  | .cmpBranch _ _ | .sycWait _ _ | .sycSet _ _ | .tdSet _ _ | .prgRun _ _ | .prgEnd _ _ | .rteSelect _
  | .rtePropose _ | .rteAssign _ | .srtBucket _ | .dspGather _ | .seqZero _ | .cmbAccum _ | .cmbFinal _ | .colCommCreate _
  | .colCommDestroy _ | .colAllreduce _ | .colAllgather _ | .colReducescatter _ | .colBroadcast _ | .colBarrier _
  | .colAlltoallv _ | .colBallotMerge _ | .xfrTokensIn _ | .xfrTokensOut _ | .xfrCopy _ | .xfrLoadModel _
  | .xfrUnloadModel _ | .conjStep _ | .commandComplete _ _ | .sycWaitTimeout _ _ | .teardownComplete _
  | .stepClosureProbe _ | .teardownServeEnd _ | .deadlineCheckpoint _ _ | .regulatorWindowRefill | .requestAging _
  | .brlSignalDetect _ | .brlEqualizeDone _ | .brlKeyingDone _ _ | .brlTrainTimeout _ | .brlDownRetry _
  | .nakRepeat _ | .ackTimer _ | .lossOfLink _ | .bondAdvertisementSend | .brlIdleTimer _ | .sleepReqReceive _
  | .wakePattern _ | .tthAlignDone _ | .tthTrainTimeout _ | .tthFault _ | .tthDownRetry _
  | .mkaPeerLoss _ | .macsecRekey _ | .pauseFrameReceive _ | .colProbeTimer _ | .commCreateTimeout _
  | .colCommandTimeout _ | .reducerSlotGrant | .dlCompareTimeout _ | .dlPairLinkDown | .pairHelloSend
  | .heartbeatSnapshot _ | .ackSilence | .standbySilence | .takeoverDecision | .pstateRampDone | .hbmTempReport _ _
  | .clusterNoticeTimer | .closeTimeElapsed _ | .drainComplete _ | .drainCap _ | .isolationTimer _
  | .clusterPowerUpDone _ | .authLockoutEnd | .brlRekey _ | .errorWarmReset | .policyMessageTimeout | .smbusTimeout
  | .tripLatchRead | .bankEraseDone | .transferComplete | .verifyComplete | .applyComplete | .cancelUpdate _
  | .activateFirmware _ | .traceRecordDrain _ | .timeRefLoss | .activationWarmReset | .firmwareDataRetry
  | .smbusArbitrationRetry => true

end Sys2Proof
end

