-- ==== Sys2Proof/Tests/Slice0.lean ====
section
/-!
SUPPORT. Slice0.lean: the model's own tests: ill-formed commands refused by each check of WellFormed, the worked
examples of the spec, and for every statement with hypotheses a state and operands that meet them.
-/
namespace Sys2Proof.Tests
open Sys2Proof Sys2Proof.Machine Sys2Proof.Safety

set_option maxRecDepth 20000

-- Ill-formed commands, one for each check of WellFormed

theorem test_wf_refuses_u8 :
    ([.voteReceive 1 0 2 true 256, .queryReceive 1 0 (.vote 3 true 256), .outcomeReceive 1 0 2 false 256 none,
    .spdmGetCertificate .mctp 256 0 0, .spdmGetMeasurements .mctp 256 (List.replicate 32 0),
    .jtagInstruction 256, .read32 .smbus 0 256,
    .policyMessage .smbus 256 [], .setEndpointId .smbus 0 256,
    .setEventReceiver .smbus 256, .mkaSecured 0 256 false, .colDataReceive 1 .loc [0] (some { dtype := 256, redop := 0, root := 0, cap := 0 })] : List Instr).all (fun i => !i.wf) = true := by decide

theorem test_wf_refuses_u16 :
    ([.tokenSelectionCommit 0 65536, .shadowScoreDone 0 65536,
    .passStart 0 65536, .thermalTrip 0 65536,
    .railReadbackSample 65536,
    .powerEstimate 65536, .getSensorReading .smbus 65536,
    .sensorEventTimer 65536, .logRead .smbus 65536 0 0,
    .requestUpdate .smbus 0 65536, .updateComponent .smbus 65536 0 0] : List Instr).all (fun i => !i.wf) = true := by decide

theorem test_wf_refuses_u32 :
    ([.devResetReqWarm .mgt (2 ^ 32), .gate .mgt (2 ^ 32),
    .errHeadWrite .mgt (2 ^ 32), .sycHostAdd .mgt 0 (2 ^ 32),
    .registerWrite .mgt (.reg (2 ^ 32)) 4 0 false, .spdmKeyUpdate .mctp (2 ^ 32),
    .bistUnitDone 0 0 (2 ^ 32), .passComponentTable .smbus 0 0 (2 ^ 32),
    .icmpEchoRequest 0 .fcs 0 (2 ^ 32), .firmwareDataReceive .smbus (2 ^ 32) []] : List Instr).all (fun i => !i.wf) = true := by decide

theorem test_wf_refuses_u64 :
    ([.outcomeReceive 1 0 (2 ^ 64) true 0 none, .bar4Read .mgt (2 ^ 64) 1 [],
    .timeFlitReceive 0 (2 ^ 64) 0, .timeFlitReceive 0 0 (2 ^ 64), .seqLd 0 [.storedRow (2 ^ 64)]] : List Instr).all (fun i => !i.wf) = true := by decide

theorem test_wf_refuses_device :
    ([.voteReceive 16384 0 0 true 0, .outcomeReceive 1 0 0 false 0 (some 16384), .rowReceive 16384 .loc [0],
    .failedPlaneProbe 0 16384 0, .colProbeTimeout 0 16384,
    .identifyReceive 0 { dev := 16384, groupSize := 1 }] : List Instr).all (fun i => !i.wf) = true := by decide

theorem test_wf_refuses_member :
    ([.timeMessageReceive 0 0 0 0 16 0 [0] true, .bondAdvertisementReceive 0 { peers := [(16, 0)] }] : List Instr).all (fun i => !i.wf) = true := by decide

theorem test_wf_refuses_length :
    ([.flitReceive 0 0 [] none, .integrityReceive 0 [],
    .dlHelloReceive [], .clusterNoticeReceive [],
    .spdmChallenge .mctp 0 [], .spdmKeyExchange .mctp [],
    .voteRequestReceive 1 0 {} [], .pairHelloReceive [],
    .tthDataReceive 0 .fcs [], .rowReceive 1 .loc [],
    .sensorSample [], .timeMessageReceive 0 0 0 0 0 0 [] true] : List Instr).all (fun i => !i.wf) = true := by decide

theorem test_wf_refuses_access :
    ([.registerWrite .mgt (.reg 0) 0 0 false, .registerWrite .mgt (.reg 0) 9 0 false,
    .registerWrite .mgt (.reg 0) 1 256 false, .rcRegisterRead .mgt (.reg 0) 0,
    .rcRegisterRead .mgt (.bar2 (2 ^ 26)) 4, .lowHalfRead .mgt 4,
    .highHalfRead .mgt 8, .bar2Write .mgt (2 ^ 26) [0] false,
    .bar2Write .mgt 0 [] false, .bar4Read .mgt 0 4097 []] : List Instr).all (fun i => !i.wf) = true := by decide

theorem test_wf_refuses_message :
    ([.voteRequestReceive 1 0 { groups := [1024] } (List.replicate 32 0), .announcementReceive 1 0 { instant := 2 ^ 64 },
    .announcementReceive 1 4 {}, .ptpEventMessage 0 (.receive .fcs { domain := 256 }), .ptpEventMessage 0 (.receive (.good { vlan := 4096 }) {}), .tthDataReceive 0 (.good { ver := 5 }) [0],
    .identifyReceive 0 { link := 16, groupSize := 1 }, .identifyReceive 0 { groupSize := 17 },
    .identifyReceive 0 { groupSize := 1, pairMode := 3 }, .bondAdvertisementReceive 0 { map := 65536 },
    .flitReceive 0 0 (List.replicate 256 0) (some (.notice [])), .nakReceive 0 4096,
    .flitReceive 0 3 (List.replicate 256 0) none] : List Instr).all (fun i => !i.wf) = true := by decide

theorem test_wf_refuses_range :
    ([.railBelowThreshold 14, .sycHostAdd .mgt 16384 0,
    .selftestDone 11, .portRetrainDone 0 0 16,
    .portRetrainDone 0 7 16, .hostLinkUp 0 5 17 false false,
    .thermalTrip 24 0, .helloRetry 1024,
    .patrolScrubRead 0 3, .entropyTestFail 13,
    .mfgTestRun 8192, .bistUnitDone 21 0 0,
    .bistUnitDone 0 2 0, .bistWindowSample 4,
    .setEndpointId .smbus 4 0, .arpNdReplyReceive 0 .fcs 0 (2 ^ 48), .arpNdRequest 0 (.good { pcp := 8 }) 0 0,
    .neighbourRefresh 0 (2 ^ 128), .seqLd 0 [.tile 0 0 0 64]] : List Instr).all (fun i => !i.wf) = true := by decide

/-- A command of each of these shapes with operands in range is well-formed. -/
theorem test_wf_accepts :
    ([.registerWrite .mgt (.reg 0) 4 0 false, .bar4Read .mgt 0 4096 [], .voteReceive 16383 3 0 true 255, .ptpEventMessage 0 (.receive (.good {}) {}), .tthDataReceive 0 (.good {}) [0], .thermalTrip 23 65535,
      .flitReceive 0 2 (List.replicate 256 0) (some .sleepAck), .entropyTestFail 11, .railBelowThreshold 13] :
      List Instr).all Instr.wf = true := by decide

-- Worked examples of the spec

/-- spec/02, worked example: the peers of a group of 10 and the two link words. -/
def tenSt : State :=
  { State.reset with
    boot := { state := .ready, coreFabLock := true }
    img := { image := some { link := { brlEnable := 65535 } } }
    cfg := { link := { brlEnable := 65535 }, group := { size := 10, member := 7 } } }
theorem test_bond_of_ten : brlPeerWord tenSt 4 = 0x2142 ∧ brlPeerWord tenSt 9 = 0 ∧ (brlPeerWord tenSt 0) % 16 = 8 := by decide

/-- spec/12, worked example: the committed tag of rank 5. -/
theorem test_tag_committed : mkTag 0x0253 0x0041 5 41 0 false 17 = 0x094C01056900119C := by decide

/-- spec/11, worked example: the speculative tag of rank 3. -/
theorem test_tag_speculative : mkTag 0x0253 0x0041 3 41 0 true 17 = 0x094C0104E910110D := by decide

/-- spec/12, worked example: the header of the ROW packet. -/
theorem test_row_header :
    packetHead {
      tag := 0x094C01056900119C
      kind := 1
      cfgEpoch := 2
      dst := 0x025B
      cluster := 4
      expert := 203
      slotGen := 0x0C2A
      step := 41
      comm := 3
      weight := 0x3DC00000
      key := 0x3CC00000
      payload := List.replicate 4 0 } =
      ([0x9C, 0x11, 0x00, 0x69, 0x05, 0x01, 0x4C, 0x09, 1, 2, 0x5B, 2, 4, 0, 0xCB, 0, 0, 0, 0x2A, 0x0C, 4, 0, 0, 0,
        0, 0, 0, 0, 0x29, 0, 3, 0, 0, 0, 0xC0, 0x3D, 0, 0, 0xC0, 0x3C] ++ List.replicate 20 0 : Bytes) := by decide

/-- spec/10, worked example: the selected six in rank order and the three ties. -/
theorem test_selection_example :
    selectTop 6 [0x3D000000, 0x3DA00000, 0x3CC00000, 0x3D800000, 0x3D000000, 0x3CC00000, 0x3CC00000]
        [0x3D000000, 0x3DA00000, 0x3CC00000, 0x3D800000, 0x3D000000, 0x3CC00000, 0x3CC00000] =
      ([(1, 0x3DA00000, 0x3DA00000), (3, 0x3D800000, 0x3D800000), (0, 0x3D000000, 0x3D000000), (4, 0x3D000000, 0x3D000000),
        (2, 0x3CC00000, 0x3CC00000), (5, 0x3CC00000, 0x3CC00000)], 3) := by decide

/-- spec/10, worked example: the weights are four times p. -/
theorem test_gate_weights :
    gateWeights { norm := true, scale := 0x3F800000 } [0x3DA00000, 0x3D800000, 0x3D000000, 0x3D000000, 0x3CC00000, 0x3CC00000] =
      [0x3EA00000, 0x3E800000, 0x3E000000, 0x3E000000, 0x3DC00000, 0x3DC00000] := by decide

/-- spec/12, worked example: the backing region is 3,844 times 2 MiB. -/
theorem test_backing_region : backingFor 65536 6656 5 = 3844 * 2 ^ 21 := by decide

/-- spec/15, worked example: the COMM_ID, the experts of a ballot chunk, the 23 pieces. -/
theorem test_comm_id : commId 0 592 0x52010003 = 0x0940000052010003 := by decide
theorem test_ballot_chunk : ballotExperts 30 = 546 ∧ (pieceList 184320).length = 23 ∧ (pieceList 184320).getLast? = some (180224, 4096) := by decide

-- The hypotheses of the statements

def atBoot (b : BootState) : State := { State.reset with boot := { state := b } }
def alignSt (low : Bool) (cause : Nat) : State :=
  { State.reset with
    boot := { state := .clockAlign, hbmTrained := true, alignCause := cause }
    pins := { groupSyncLow := low }
    img := { image := some {}, chosen := some false } }
def fwSt (n : Nat) : State := { atBoot .ready with mgt := { fwState := n } }
def cfgSt : ImageCfg :=
  { parts := .replicate 4 { defined := true, hbmUnits := 4, spoolMib := 1, reelMib := 1, sycCount := 64, tokenSlots := 4, clusterMask := 1 }
    ports := Vector.ofFn (fun k => { partition := some k }) }
def portSt : State :=
  { State.reset with
    boot := { state := .ready }
    cfg := cfgSt
    pins := { perstLow := .replicate 4 false }
    ports := .replicate 4 { rrs := false, mse := true, bme := true, bar4 := true, gen := 5, width := 16 } }
def onPort (f : Port → Port) : State := updPort portSt 0 f
def rdSt : State := onPort (fun q => { q with reads := [{ len := 4 }] })
def ideSt : State := onPort (fun q => { q with ide := q.ide.set 0 { secure := true } })
def timeSt : State := { portSt with boot := { state := .ready, beat := true }, time := { isMaster := true } }
def cmtSt (c : CommitState) : State := { timeSt with commit := { state := c } }
def tmSt : State :=
  { timeSt with
    cfg := { cfgSt with group := { size := 1 } }
    links := .replicate 16 { state := .active, peerValid := true } }
def tmRx (b : BootState) : State :=
  { tmSt with boot := { state := b }, cfg := { cfgSt with group := { size := 2, member := 1 } } }
def chkSt : State := { cmtSt .checking with cfg := { cfgSt with clock := { boardPowerW := 1000 } } }
def ptpSt : State :=
  { State.reset with
    cfg := { topo := some { ptpEn := true, masks := [1], planes := [{}] } }
    boot := { state := .ready }
    time := { isMaster := true }
    planes := .replicate 32 { state := .up } }
def mkDesc (op : Nat) (fs : List (Nat × Nat × Nat)) : Bytes :=
  memReadN (fs.foldl (fun m f => memWriteN m f.1 (toLe f.2.1 f.2.2)) (memWriteN [] 0 (toLe 2 op))) 0 64
def mkTd (base space type rank d0 d1 stride : Nat) : Bytes :=
  toLe 8 (base + 2 ^ 48 * space + 2 ^ 52 * type + 2 ^ 56 * rank + 2 ^ 63) ++ toLe 2 d0 ++ toLe 2 d1 ++ toLe 4 0 ++ toLe 4 stride ++
    List.replicate 12 0
def workModel (mode : Nat) : Model :=
  { handle := 1, experts := 2, layers := 1, dmodel := 4, hidden := 4, homeHidden := 4, topk := 1, localDispatch := true
    sections := [{ kind := 1, offset := 4096 * mode, length := 4096 }, { kind := 4, offset := 16384, length := 128 },
      { kind := 6, offset := 20480, length := 4096 }] }
def workTds : Tab Bytes :=
  [(0, mkTd 0 1 0 1 4 8 8), (1, mkTd 4096 1 4 0 16 0 0), (2, mkTd 8192 1 5 1 256 4 256), (3, mkTd 16384 1 3 0 64 0 0),
   (4, mkTd 20480 1 5 1 16 8 16), (5, mkTd 24576 1 4 0 16 0 0), (6, mkTd 28672 1 0 1 64 8 128), (7, mkTd 32768 1 3 1 64 8 256),
   (8, mkTd 36864 1 4 0 1 0 0)]
def workPart (st : StreamId) (d : Bytes) (mode : Nat) : Part :=
  { streams := Vector.ofFn (fun i => if i = st then { queue := [d], inJob := true } else {})
    job := { open_ := true, id := 5, serial := 1, mask := 127, model := 1, clusters := 1 }
    models := [workModel mode]
    curModel := 1
    tds := workTds }
def workSt (st : StreamId) (d : Bytes) (mode : Nat := 0) : State :=
  { portSt with
    hbm := [(4160, 1)]
    parts := portSt.parts.set 0 (workPart st d mode)
    clusters := portSt.clusters.set 0 { state := .on } }
def workCol (st : StreamId) (d : Bytes) (c : CommState) : State :=
  { workSt st d with col := { comms := [(1, some { state := c, members := [0] })] } }
theorem taken (st : StreamId) (d : Bytes) (op : Nat) (s : State) (h : (takeCmd 0 st op s).1 = some d) :
    takeCmd 0 st op s = (some d, (takeCmd 0 st op s).2) := Prod.ext h rfl
def jobSt : State := updStream (workSt 0 (mkDesc 0x9001 [(24, 2, 5)])) 0 0 (fun x => { x with inJob := false })
def xfrJobSt : State := updJob (updStream (workSt 6 (mkDesc 0x9001 [(24, 2, 5), (26, 1, 64)])) 0 6 (fun x => { x with inJob := false })) 0 (fun _ => {})
def tdFieldsSt : List (Nat × Nat × Nat) := (24, 2, 9) :: (mkTd 0 1 0 1 4 8 8).mapIdx (fun i b => (32 + i, 1, b.toNat))
def resDesc (op : Nat) : Bytes := mkDesc op []
def resSt (op : Nat) : State :=
  let s := workSt 0 []
  { updStream s 0 0 (fun x => { x with resident := 1, pc := 0 }) with hbm := memWriteN [] 16384 (resDesc op) }
def waitDesc : Bytes := mkDesc 0x9000 [(3, 1, 1), (8, 4, 65536)]
def waitSt : State := updStream (workSt 0 waitDesc) 0 0 (fun x => { x with exec := some { phase := .waiting 0, desc := waitDesc } })
def selExec : Exec := { phase := .running, desc := mkDesc 0x1001 [(26, 2, 2), (32, 2, 2), (38, 2, 0xFFFF)], tds := [(2, mkTd 8192 1 5 1 256 4 256)] }
def selSt : State := updStream (workSt 0 []) 0 0 (fun x => { x with exec := some selExec })
theorem okOf {α ε : Type} [DecidableEq α] {x : Except ε α} {a : α} (h : x.toOption = some a) : x = .ok a := by
  cases x <;> simp_all [Except.toOption]
def finSt : State := updSlot 0 0 (fun r => { r with rounded := true }) (workSt 4 (mkDesc 0x5002 [(26, 2, 1)]))
def xrun (op : Nat) (fs : List (Nat × Nat × Nat)) (n : Nat) : State :=
  updStream (workSt 6 []) 0 6 (fun x => { x with exec := some { desc := mkDesc op fs, phase := .running, at_ := n } })
def loadSt : State := updJob (workSt 6 (mkDesc 0x7010 [(40, 8, 64)])) 0 (fun j => { j with model := 0 })
def loadedSt : State := updPart (xrun 0x7010 [(40, 8, 64)] 0) 0 (fun q => { q with load := some { stage := 4 } })
def unloadSt : State := updJob (workSt 6 (mkDesc 0x7011 [(28, 4, 1)])) 0 (fun j => { j with model := 0 })
def shadowModel : Model :=
  { workModel 0 with hasShadow := true, sections := (workModel 0).sections ++ [{ kind := 2, offset := 24576, length := 4096 }] }
def passModel (s : State) (p : Pass) : State := updPart s 0 (fun q => { q with pass := some p })
def passSt : State := updPart (workSt 0 []) 0 (fun q => { q with
  conj := some { closed := true, count := 4, parts := [0] }
  rows := [{ expert := 0 }] })
def passOnSt : State := passModel (workSt 0 []) { tags := [0] }
def reissueSt : State := updPart (workSt 0 []) 0 (fun q => { q with rows := [{ expert := 0, reissue := true }] })
def shadowSt : State :=
  let s := updPart selSt 0 (fun q => { q with
    conj := some { feedEn := true, count := 4 }
    models := [shadowModel]
    job := { q.job with updraft := true } })
  { s with hbm := [(4160, 1), (24578, 1), (24640, 1)], cfg := { cfgSt with parts := cfgSt.parts.set 0 { cfgSt.parts[0] with updraftEn := true } } }
def probeSt : State := updPart { workSt 0 [] with col := { comms := [(1, some { state := .active, members := [0] })] } } 0 (fun q => { q with
  conj := some { closed := true, comm := 1 } })
def pktBytes (k : Nat) : Bytes := mkDesc 0 [(8, 1, k)]
def goodPkt (k : Nat) : Packet := { tag := mkTag 0 0 0 0 0 false 0, kind := k }
def heldSt : State := updFlow 1 0 (fun f => { f with rxHeld := [{ bytes := pktBytes 1 }] }) portSt
def fencedSt : State := { portSt with commit := { state := .fenced } }
def oldEpochSt : State := updFlow 1 0 (fun f => { f with epoch := some 1 }) (workSt 0 [])
def slot1 (seen : Nat) : Slot := { held := true, active := true, expected := 1, seen := seen }
def slotSt (seen : Nat) : State := updSlot 0 0 (fun _ => slot1 seen) (workSt 0 [])
def runSt : State := updPart (workCol 5 [] .active) 0 (fun q => { q with colRun := some { handle := 1, chunks := [{ needsSlot := true }] } })
def waitSlotSt : State := runSt
def creatingSt : State :=
  updStream (workCol 5 [] .creating) 0 5 (fun x => { x with exec := some { desc := mkDesc 0x6001 [], phase := .running, base := 1 } })
def deadSt (a b : Option Nat) : State :=
  updPart portSt 0 (fun q => { q with conj := some { count := 0, checkS := a, checkD := b }, job := { deadline := 5 } })
def scrubSt : State := { portSt with boot := { state := .ready, hbmTrained := true } }
def grpSt : State := { portSt with cfg := { cfgSt with group := { size := 4 } } }
def brlSt (b : BrlState) : State := updLink grpSt 1 (fun q => { q with state := b })
def idMsg (n : Nat) : Identity := { dev := 2, link := n, groupSize := 4 }
def pskSt (b : BrlState) : State := { brlSt b with sec := { vault := [{ type := 2, secret := [1] }] } }
def dormSt : State := { grpSt with links := .replicate 16 { state := .active } }
def plSt (b : TthState) : State := { grpSt with planes := .replicate 32 { state := b } }
def sakSt (b : TthState) : State :=
  { grpSt with planes := .replicate 32 { state := b, secured := true }, sec := { vault := [{ type := 1, planeMask := 1 }] } }
def plAddrSt : State := { plSt .up with cfg := { grpSt.cfg with topo := some { planes := [{ plane := 0, baseAddr := 100 }] } } }
def neighSt (n : Nat) : State := updPlane (plSt .up) 0 (fun q => { q with neigh := [{ addr := 7, tries := n }] })
def ctxSt (c : CtxState) : State := { plSt .up with tether := { ctxs := [(0, some { peer := 1, state := c })] } }
def ctx2St : State := { plSt .up with tether := { ctxs := [(0, some { peer := 1, state := .open_, remoteId := 0, jumbo := false })] } }
def segCtx : Ctx := { streams := (Vector.replicate 4 {}).set 0 { unacked := [{}] } }
def dlSt (d : DlState) : State := { grpSt with dual := { state := d }, links := .replicate 16 { state := .active } }
def dlWaitSt : State := updPart (dlSt .paired) 0 (fun q => { q with dl := { q.dl with wait := some {} } })
def sbSt (b : SbState) : State := { grpSt with pair := { state := b }, links := .replicate 16 { state := .active } }
def dlBytes (kind flags defined : Nat) (check : Bytes) : Bytes := dualMsg kind 0 0 0 0 0 flags defined check
def pwSt (f : Power → Power) : State := { portSt with boot := { state := .ready, coreFabLock := true }, power := f {} }
def clSt (c : ClusterState) : State := { portSt with clusters := .replicate 8 { state := c } }
def secBufOf (op : Nat) (args : Bytes) : Bytes :=
  toLe 2 op ++ toLe 2 args.length ++ toLe 4 0 ++ List.replicate 240 0 ++ args
def secFuses (lc : LifeCycle) : Fuses :=
  let b : Fuse := { a := true, b := true }
  match lc with
  | .blank => {}
  | .provisioned => { prov := b, serial := List.replicate 16 0 }
  | .deployed => { prov := b, deploy := b }
  | .debugUnlocked => { prov := b, unlock := ({} : Fuses).unlock.set 0 b }
  | .decommissioned => { decom := b }
def secSt (op : Nat) (args : Bytes) (lc : LifeCycle) : State :=
  { portSt with
    fuses := secFuses lc
    sec := { selftestPassed := true, nonce := List.replicate 48 0, cmdBuf := memWriteN [] 0 (secBufOf op args) } }
def sessSt : State := { portSt with sec := { sessions := [{ id := 1, binding := .doe 0, key := 0 }] } }
def bistSt (x : Bist) : State := { portSt with fuses := secFuses .provisioned, bist := x }
def mgSt (f : Mgt → Mgt) : State := { portSt with mgt := f {} }
def upSt (u : PldmUpdate) : State := { portSt with fuses := secFuses .deployed, mgt := { update := u } }
def trSt : State := updPart portSt 0 (fun q => { q with trace := { q.trace with buf := [{}] } })
def tornSt : State := { State.reset with sec := { logSeq := 1 } }
def pendSt (b : Bool) : State :=
  { State.reset with
    sec := { logSeq := 1 }
    fuses := { deploy := { a := b } }
    flash := flashWriteN [] (slotAddr 0) (List.replicate 16 0 ++ [0x10, 0, 0, 0] ++ List.replicate 4 0 ++ [2, 0] ++ List.replicate 38 0) }
def slaveSt : State :=
  { ptpSt with
    time := { isMaster := true, ptp := { plane := some 0, state := 9, rxSync := some (0, 0, 0), req := some (0, 0), pair := some (0, 0), delay := some 7 } } }
def dryCfg : ImageCfg := { cfgSt with parts := cfgSt.parts.set 0 { cfgSt.parts[0] with regHbm := 1 } }
theorem seqTakes (d : Bytes) (op : Nat) (s : State) (h : (takeCmd 0 3 op s).1 = some d)
    (hx : (getStream (takeCmd 0 3 op s).2 0 3).exec.isSome = true) : SeqTakes 0 op [] d s (seqBusy 0 (takeCmd 0 3 op s).2) :=
  ⟨_, _, Prod.ext h rfl, rfl, hx, rfl⟩
/-- The state at 1,000 s after the release of reset, and at DT 1,000 s. -/
def upLate (s : State) : State := { s with boot := { s.boot with sinceNs := 10 ^ 12 } }
def dtLate (s : State) : State := { s with time := { s.time with dt := 10 ^ 12 } }
def ipSt (s : State) : State := { s with cfg := { s.cfg with topo := some { planes := [{}] } } }
def goodF : FrameCheck := .good { src := 1, dport := 50716 }
def pendCtx : Ctx := { peer := 1, state := .open_, queue := [{ flags := 1 }] }
theorem zero_ne_ownPort (pl : PlaneId) : 0 ≠ ownPort pl := by unfold ownPort; omega
def doneExec : Exec := { phase := .done, desc := mkDesc 0x9000 [] }
def dryDesc : Bytes := mkDesc 0x4010 [(24,2,0),(26,2,0xFFFF),(28,2,0),(30,2,0),(32,2,0),(34,2,0xFFFF),(38,2,1)]
def gHead (n : Nat) : TthHead := { type := n, src := 1, dst := 0, ctx := 0, len := 0 }
def ctx2 : Ctx := { peer := 1, state := .open_, remoteId := 0, jumbo := false }
def fullSt : State :=
  { updPart portSt 0 (fun q => { q with models := [{ dmodel := 2 ^ 30 }] }) with clusters := portSt.clusters.set 0 { state := .on } }
def outSt : State := updPart (workCol 5 [] .active) 0 (fun q => { q with colRun := some { handle := 1, chunks := [{ outs := [{ dst := 0 }] }] } })

/-- The hypotheses of IdleStepIsANanosecond can be met. -/
theorem witness_IdleStepIsANanosecond : (atBoot .ready).pending = [] ∧ (atBoot .ready).boot.state ≠ .coldReset ∧
    (atBoot .ready).boot.state ≠ .tripped := by decide

/-- The hypotheses of ColdResetsFromAnyState can be met. -/
theorem witness_ColdResetsFromAnyState :
    (∃ (s : State) (rail : Nat), s.boot.state ≠ .coldReset ∧ (s.boot.state = .tripped → rail ≤ 1)) ∧
    (∃ (s : State), s.boot.state ≠ .coldReset) ∧
    (∃ (s : State), s.boot.state = .coldReset) :=
    ⟨⟨atBoot .tripped, 1, by decide⟩,
    ⟨atBoot .ready, by decide⟩,
    ⟨State.reset, by decide⟩⟩

/-- The hypotheses of WarmResetsAndTheRomTheyReach can be met. -/
theorem witness_WarmResetsAndTheRomTheyReach :
    (∃ (s : State) (v : Nat), resetReqOk .mgt v s = true ∧ bitOf v 0 = true ∧ s.boot.state ≠ .coldReset ∧ s.boot.state ≠ .tripped) ∧
    (∃ (s : State) (v : Nat), resetReqOk .mgt v s = true ∧ bitOf v 0 = false ∧ clocked s = true ∧ s.boot.state = .warmReset) ∧
    (∃ (s : State) (v : Nat), resetReqOk .mgt v s = true ∧ bitOf v 0 = false ∧ clocked s = true ∧ s.boot.state ≠ .warmReset) ∧
    (∃ (s : State), s.boot.state = .coldReset ∧ s.pins.testEn = false ∧ s.sec.logSeq = 0) ∧
    (∃ (s : State), s.boot.state = .warmReset ∧ s.sec.logSeq = 0) ∧
    (∃ (s : State), s.boot.state = .warmReset) ∧
    (∃ (s : State), slotTorn s = true) ∧
    (∃ (s : State), openLc s = none) ∧
    (∃ (s : State) (r : Bytes), openLc s = some r ∧ lcReads (leAt r 24 2) s = true) ∧
    (∃ (s : State) (r : Bytes), openLc s = some r ∧ lcReads (leAt r 24 2) s = false) ∧
    (∃ (s : State) (p : PartId), (getPart s p).resetting = true) :=
    ⟨⟨atBoot .ready, 0xB0070001, by decide⟩,
    ⟨atBoot .warmReset, 0xB0070010, by decide⟩,
    ⟨atBoot .ready, 0xB0070010, by decide⟩,
    ⟨State.reset, by decide⟩,
    ⟨atBoot .warmReset, by decide⟩,
    ⟨atBoot .warmReset, by decide⟩,
    ⟨tornSt, by decide⟩,
    ⟨State.reset, by decide⟩,
    ⟨pendSt true, logRecord (pendSt true) 0, by decide⟩,
    ⟨pendSt false, logRecord (pendSt false) 0, by decide⟩,
    ⟨updPart State.reset 0 (fun q => { q with resetting := true }), 0, by decide⟩⟩

/-- The hypotheses of StartUpFromRomToTraining can be met. -/
theorem witness_StartUpFromRomToTraining :
    (∃ (s : State), s.boot.state = .rom ∧ s.boot.retry = 3) ∧
    (∃ (s : State), s.boot.state = .rom ∧ s.boot.retry ≠ 3 ∧ (lifeCycle s = .blank ∨ lifeCycle s = .decommissioned)) ∧
    (∃ (s : State), s.boot.state = .rom ∧ s.boot.retry ≠ 3 ∧ lifeCycle s ≠ .blank ∧ lifeCycle s ≠ .decommissioned) ∧
    (∃ (s : State) (_errs : List Nat) (b : Bool), s.boot.state = .verify ∧ s.img.candidates = [b]) ∧
    (∃ (s : State) (f : Nat), s.boot.state = .selftest ∧ f ≠ 0) ∧
    (∃ (s : State), s.boot.state = .selftest ∧ s.boot.heldCause ≠ 0) ∧
    (∃ (s : State), s.boot.state = .selftest ∧ s.boot.heldCause = 0) ∧
    (∃ (s : State) (_errs : List Nat) (i : ImageCfg) (b : Bool), s.boot.state = .fwLoad ∧ s.img.image = some i ∧ s.img.chosen = some b) ∧
    (∃ (s : State) (_errs : List Nat), s.boot.state = .bistRead ∧ bistCritical s = true) ∧
    (∃ (s : State) (errs : List Nat) (i : ImageCfg) (b : Bool), s.boot.state = .bistRead ∧ bistCritical s = false ∧ s.img.image = some i ∧ s.img.chosen = some b ∧ (∀ x, i.comps.find? (fun x => x.kind == 2) = some x → compLoadOk s.flash b errs x = true)) ∧
    (∃ (s : State), s.boot.state = .clockAlign ∧ s.boot.hbmTrained = false) ∧
    (∃ (s : State), s.boot.state = .clockAlign ∧ s.boot.hbmTrained = false) :=
    ⟨⟨{ State.reset with boot := { state := .rom, retry := 3 } }, by decide⟩,
    ⟨atBoot .rom, by decide⟩,
    ⟨{ atBoot .rom with fuses := secFuses .deployed }, by decide⟩,
    ⟨{ State.reset with boot := { state := .verify }, img := { candidates := [true] } }, [], true, by decide⟩,
    ⟨atBoot .selftest, 1, by decide⟩,
    ⟨{ State.reset with boot := { state := .selftest, heldCause := 5 } }, by decide⟩,
    ⟨atBoot .selftest, by decide⟩,
    ⟨{ State.reset with boot := { state := .fwLoad }, img := { image := some {}, chosen := some false } }, [], {}, false, by decide⟩,
    ⟨{ State.reset with boot := { state := .bistRead }, bist := { standing := 256 } }, [], by decide⟩,
    ⟨{ State.reset with boot := { state := .bistRead }, img := { image := some {}, chosen := some false } }, [], {}, false, by decide, by decide, rfl, rfl, by simp⟩,
    ⟨atBoot .clockAlign, by decide⟩,
    ⟨atBoot .clockAlign, by decide⟩⟩

/-- The hypotheses of AlignmentTrainingAndTimeSync can be met. -/
theorem witness_AlignmentTrainingAndTimeSync :
    (∃ (s : State) (_errs : List Nat), s.boot.state = .clockAlign ∧ s.boot.hbmTrained = true ∧ s.pins.groupSyncLow = true ∧ s.boot.alignCause ≠ 2) ∧
    (∃ (s : State) (_errs : List Nat), s.boot.state = .clockAlign ∧ s.boot.hbmTrained = true ∧ s.pins.groupSyncLow = true ∧ s.boot.alignCause = 2) ∧
    (∃ (s : State) (_errs : List Nat) (since : Nat), s.boot.state = .clockAlign ∧ s.pins.groupSyncLow = false ∧ s.boot.sinceNs = s.boot.releaseNs + since ∧ edgeRun ≤ since ∧ since ≤ s.cfg.tmo.alignMs * 1000000) ∧
    (∃ (s : State) (_errs : List Nat) (since : Nat), s.boot.state = .clockAlign ∧ s.pins.groupSyncLow = false ∧ s.boot.sinceNs = s.boot.releaseNs + since ∧ s.cfg.tmo.alignMs * 1000000 ≤ since) ∧
    (∃ (s : State) (errs : List Nat) (i : ImageCfg) (b _al : Bool) (_cause _wait : Nat), s.img.image = some i ∧ s.img.chosen = some b ∧ (∀ x, i.comps.find? (fun x => x.kind == 1) = some x → compLoadOk s.flash b errs x = true)) ∧
    (∃ (s : State), s.pins.groupSyncLow = true ∧ s.boot.state ≠ .coldReset ∧ s.boot.state ≠ .tripped ∧ s.boot.alignCause = 3 ∧ (s.boot.warm = true → 10000 ≤ s.boot.sinceNs)) ∧
    (∃ (s : State), s.boot.state = .linkTrain ∧ linksDown s = false) ∧
    (∃ (s : State), s.boot.state = .linkTrain ∧ s.boot.stageNs + s.cfg.tmo.linkTrainMs * 1000000 ≤ s.boot.sinceNs) ∧
    (∃ (s : State), s.boot.state = .timeSync ∧ s.time.groupSync = true) ∧
    (∃ (s : State), s.boot.state = .timeSync ∧ s.boot.stageNs + s.cfg.tmo.timeSyncMs * 1000000 ≤ s.boot.sinceNs) :=
    ⟨⟨alignSt true 3, [], by decide⟩,
    ⟨alignSt true 2, [], by decide⟩,
    ⟨{ alignSt false 3 with boot := { (alignSt false 3).boot with sinceNs := 1000 }, cfg := { tmo := { alignMs := 1 } } }, [], 1000, by decide⟩,
    ⟨{ alignSt false 3 with boot := { (alignSt false 3).boot with sinceNs := 1000000 }, cfg := { tmo := { alignMs := 1 } } }, [], 1000000, by decide⟩,
    ⟨alignSt false 3, [], {}, false, true, 0, 0, rfl, rfl, by simp⟩,
    ⟨alignSt true 3, by decide⟩,
    ⟨atBoot .linkTrain, by decide⟩,
    ⟨{ State.reset with boot := { state := .linkTrain, sinceNs := 10 ^ 12 } }, by decide⟩,
    ⟨{ atBoot .timeSync with time := { groupSync := true } }, by decide⟩,
    ⟨{ State.reset with boot := { state := .timeSync, sinceNs := 10 ^ 12 } }, by decide⟩⟩

/-- The hypotheses of TripWatchdogAndFallback can be met. -/
theorem witness_TripWatchdogAndFallback :
    (∃ (s : State) (_sensor _value : Nat), s.boot.state ≠ .coldReset ∧ s.boot.state ≠ .tripped) ∧
    (∃ (s : State), s.mgt.fwState = 1 ∧ s.mgt.wdtLeft = 0) ∧
    (∃ (s : State), s.mgt.fwState = 2 ∧ s.mgt.wdtLeft = 0) ∧
    (∃ (s : State), s.mgt.fwState = 2 ∧ s.power.alert = true ∧ s.cfg.clock.pinPstate = none ∧ s.mgt.alertAt + 10000000 ≤ s.boot.sinceNs) ∧
    (∃ (s : State) (p : Nat), p < s.boot.pstate ∧ s.mgt.fwState = 2) ∧
    (∃ (s : State) (r : Requester), isMgt r s = true ∧ s.mgt.fwState ≠ 0) ∧
    (∃ (_s : State) (_r : Requester) (v : Nat), v ≠ 0xD06E0001) :=
    ⟨⟨atBoot .ready, 0, 920, by decide⟩,
    ⟨fwSt 1, by decide⟩,
    ⟨fwSt 2, by decide⟩,
    ⟨{ fwSt 2 with power := { alert := true }, boot := { state := .ready, sinceNs := 10000000 } }, by decide⟩,
    ⟨{ fwSt 2 with boot := { state := .ready, pstate := 3 } }, 2, by decide⟩,
    ⟨fwSt 2, .mgt, by decide⟩,
    ⟨fwSt 2, .mgt, 0, by decide⟩⟩

/-- The hypotheses of RegisterReadsAndWrites can be met. -/
theorem witness_RegisterReadsAndWrites :
    (∃ (s : State) (_off _len : Nat), mgtOpen .mgt s = true) ∧
    (∃ (s : State) (k : PortId) (off len : Nat) (u : State), hostMem k false (some off) s = (.go, u) ∧ off % 8 + len ≤ 8) ∧
    (∃ (s : State) (k : PortId) (off _len : Nat) (u : State), hostMem k false (some off) s = (.ur, u)) ∧
    (∃ (s : State) (off _len _v : Nat), mgtOpen .mgt s = true ∧ inWindow off = false) ∧
    (∃ (s : State) (off _len _v : Nat), mgtOpen .mgt s = true ∧ inWindow off = true) ∧
    (∃ (s : State) (k : PortId) (off len _v : Nat) (u : State), hostMem k false (some off) s = (.go, u) ∧ off % 8 + len ≤ 8) ∧
    (∃ (s : State) (k : PortId) (off _len _v : Nat) (u : State), hostMem k false (some off) s = (.go, u)) ∧
    (∃ (s : State) (k : PortId) (off len _v : Nat) (u : State), hostMem k false (some off) s = (.zero, u) ∧ off % 8 + len ≤ 8) ∧
    (∃ (s : State) (k : PortId) (a : RegAddr) (_len _v : Nat), regOffset a = none ∧ a ≠ .unsupported ∧ (∀ x, a ≠ .bar2 x) ∧ cfgOpen s k = true) ∧
    (∃ (s : State) (k : PortId) (a : RegAddr) (_len _v : Nat), regOffset a = none ∧ a ≠ .unsupported ∧ (∀ x, a ≠ .bar2 x) ∧ cfgOpen s k = false ∧ cfgReach s k = true) ∧
    (∃ (s : State) (k : PortId) (_off _len : Nat) (u : State), hostMem k false none s = (.go, u)) ∧
    (∃ (s : State) (k : PortId) (_len _v : Nat), cfgReach s k = true) ∧
    (∃ (_s : State) (off len _v : Nat) (_f : Nat → Nat → State → State), (off % 4 ≠ 0 ∨ len % 4 ≠ 0)) :=
    ⟨⟨portSt, 0x10000, 4, by decide⟩,
    ⟨portSt, 0, 0x20000, 4, portSt, by decide⟩,
    ⟨State.reset, 0, 0x20000, 4, State.reset, by decide⟩,
    ⟨portSt, 0x00060014, 4, 2, by decide⟩,
    ⟨portSt, 0x01010100, 4, 2, by decide⟩,
    ⟨portSt, 0, 0x20074, 4, 1, portSt, by decide⟩,
    ⟨portSt, 0, 0x20074, 4, 1, portSt, by decide⟩,
    ⟨{ portSt with boot := { state := .selftest } }, 0, 0x20000, 4, 0, _, ⟨rfl, by decide⟩⟩,
    ⟨portSt, 0, .mse, 4, 0, ⟨rfl, by decide, by simp, by decide⟩⟩,
    ⟨{ portSt with ports := .replicate 4 { rrs := true } }, 0, .mse, 4, 0, ⟨rfl, by decide, by simp, by decide, by decide⟩⟩,
    ⟨portSt, 0, 0, 4, portSt, by decide⟩,
    ⟨portSt, 0, 4, 0, by decide⟩,
    ⟨portSt, 1, 4, 0, fun _ _ s => s, by decide⟩⟩

/-- The hypotheses of HostBarAccesses can be met. -/
theorem witness_HostBarAccesses :
    (∃ (s : State) (r : Requester) (b : Bool) (k : PortId) (p : PartId) (off : Nat) (data : Bytes) (_ep : Bool) (u : State), portReq r = some (k, b) ∧ hostMem k b none s = (.go, u) ∧ partOf u k = some p ∧ off + data.length ≤ 0x4000000) ∧
    (∃ (s : State) (r : Requester) (b : Bool) (k : PortId) (p : PartId) (off len x : Nat) (ecc : List EccFind) (u : State), portReq r = some (k, b) ∧ hostMem k b none (bar4Ecc r off len false ecc s) = (.go, u) ∧ partOf u k = some p ∧ bar4Fits u k off len = true ∧ bar4Addr u k p off len = some x ∧ bar4Credit u k p = true) ∧
    (∃ (s : State) (r : Requester) (b : Bool) (k : PortId) (p : PartId) (off len x : Nat) (ecc : List EccFind) (u : State), portReq r = some (k, b) ∧ hostMem k b none (bar4Ecc r off len false ecc s) = (.go, u) ∧ partOf u k = some p ∧ bar4Fits u k off len = true ∧ bar4Addr u k p off len = some x ∧ bar4Credit u k p = false) ∧
    (∃ (s : State) (r : Requester) (b : Bool) (k : PortId) (p : PartId) (off len : Nat) (ecc : List EccFind) (u : State), portReq r = some (k, b) ∧ hostMem k b none (bar4Ecc r off len false ecc s) = (.go, u) ∧ partOf u k = some p ∧ bar4Fits u k off len = true ∧ bar4Addr u k p off len = none) ∧
    (∃ (s : State) (r : Requester) (b : Bool) (k : PortId) (p : PartId) (off x : Nat) (data : Bytes) (_ep : Bool) (ecc : List EccFind) (u : State), portReq r = some (k, b) ∧ hostMem k b none (bar4Ecc r off data.length true ecc s) = (.go, u) ∧ partOf u k = some p ∧ bar4Fits u k off data.length = true ∧ bar4Addr u k p off data.length = some x ∧ bar4Credit u k p = true) ∧
    (∃ (s : State) (r : Requester) (b : Bool) (k : PortId) (p : PartId) (off x : Nat) (data : Bytes) (_ep : Bool) (ecc : List EccFind) (u : State), portReq r = some (k, b) ∧ hostMem k b none (bar4Ecc r off data.length true ecc s) = (.go, u) ∧ partOf u k = some p ∧ bar4Fits u k off data.length = true ∧ bar4Addr u k p off data.length = some x ∧ bar4Credit u k p = false) ∧
    (∃ (s : State) (r : Requester) (b : Bool) (k : PortId) (p : PartId) (off : Nat) (data : Bytes) (_ep : Bool) (ecc : List EccFind) (u : State), portReq r = some (k, b) ∧ hostMem k b none (bar4Ecc r off data.length true ecc s) = (.go, u) ∧ partOf u k = some p ∧ bar4Fits u k off data.length = true ∧ bar4Addr u k p off data.length = none) :=
    ⟨⟨portSt, .hp 0, false, 0, 0, 0, [1], true, portSt, by decide⟩,
    ⟨portSt, .hp 0, false, 0, 0, 64, 64, 64, [], portSt, by decide⟩,
    ⟨{ portSt with cfg := dryCfg }, .hp 0, false, 0, 0, 64, 64, 64, [], _, by decide, rfl, by decide⟩,
    ⟨portSt, .hp 0, false, 0, 0, 1073741824, 1, [], portSt, by decide⟩,
    ⟨portSt, .hp 0, false, 0, 0, 64, 64, [1], true, [], portSt, by decide⟩,
    ⟨{ portSt with cfg := dryCfg }, .hp 0, false, 0, 0, 64, 64, [1], true, [], _, by decide, rfl, by decide⟩,
    ⟨portSt, .hp 0, false, 0, 0, 1073741824, [1], true, [], portSt, by decide⟩⟩

/-- The hypotheses of PoisonMarksOfBar4Granules can be met. -/
theorem witness_PoisonMarksOfBar4Granules :
    (∃ (s : State) (r : Requester) (b : Bool) (k : PortId) (p : PartId) (off len x : Nat) (u : State), portReq r = some (k, b) ∧ hostMem k b none s = (.go, u) ∧ partOf u k = some p ∧ bar4Fits u k off len = true ∧ bar4Addr u k p off len = some x ∧ bar4Credit u k p = true ∧ (∀ g, tabGet .none u.hbmErr g = .none)) ∧
    (∃ (s : State) (r : Requester) (b : Bool) (k : PortId) (p : PartId) (off x : Nat) (data : Bytes) (u : State), portReq r = some (k, b) ∧ hostMem k b none s = (.go, u) ∧ partOf u k = some p ∧ bar4Fits u k off data.length = true ∧ bar4Addr u k p off data.length = some x ∧ bar4Credit u k p = true ∧ tabWf false u.hbmPoison = true ∧ tabWf .none u.hbmErr = true) :=
    ⟨⟨portSt, .hp 0, false, 0, 0, 64, 64, 64, portSt, by decide, by decide, by decide, by decide, by decide, by decide, fun _ => rfl⟩,
    ⟨portSt, .hp 0, false, 0, 0, 64, 64, [1], portSt, by decide⟩⟩

/-- The hypotheses of PortResetsAndLink can be met. -/
theorem witness_PortResetsAndLink :
    (∃ (s : State) (k : PortId), s.pins.perstLow[k] = false ∧ (getPort s k).downWait = false) ∧
    (∃ (s : State) (k : PortId), s.pins.perstLow[k] = false ∧ (getPort s k).downWait = true) ∧
    (∃ (s : State) (k : PortId), s.pins.perstLow[k] = true) ∧
    (∃ (s : State) (k : PortId), cfgOpen s k = true) ∧
    (∃ (s : State) (k : PortId) (p : PartId), (getPort s k).resetting ≠ .none ∧ s.pins.perstLow[k] = false ∧ partOf s k = some p) ∧
    (∃ (s : State) (k : PortId), s.pins.perstLow[k] = false ∧ (getPort s k).downWait = false ∧ (∀ p, partOf s k = some p → workOutstanding s k p = false)) ∧
    (∃ (s : State) (k : PortId) (p : PartId), s.pins.perstLow[k] = false ∧ (getPort s k).downWait = false ∧ partOf s k = some p ∧ workOutstanding s k p = true) ∧
    (∃ (s : State) (k : PortId) (_gen _width : Nat) (_flit _rev : Bool), s.pins.perstLow[k] = false ∧ (getPort s k).quiet = false) ∧
    (∃ (s : State) (k : PortId) (_gen _width : Nat), (getPort s k).retrain = true) :=
    ⟨⟨portSt, 0, by decide⟩,
    ⟨onPort (fun q => { q with downWait := true }), 0, by decide⟩,
    ⟨State.reset, 0, by decide⟩,
    ⟨portSt, 0, by decide⟩,
    ⟨onPort (fun q => { q with resetting := .flr }), 0, 0, by decide⟩,
    ⟨portSt, 0, by decide⟩,
    ⟨updJob portSt 0 (fun j => { j with open_ := true }), 0, 0, by decide⟩,
    ⟨portSt, 0, 6, 16, true, false, by decide⟩,
    ⟨onPort (fun q => { q with retrain := true }), 0, 5, 8, by decide⟩⟩

/-- The hypotheses of PortPowerManagementAndDma can be met. -/
theorem witness_PortPowerManagementAndDma :
    (∃ (s : State) (k : PortId) (p : PartId) (u : State), cfgOpen s k = true ∧ (getPort s k).d3hot = false ∧ u = portEvent k (heldWakes k (discardBlock ((getPort s k).asm.toList.filter (fun a => a.block.isSome)).length k
      (updPort (leaveL1 k s) k (fun q => { q with d3hot := true, inL1 := true, asm := .replicate 7 {} })))) ∧ partOf u k = some p) ∧
    (∃ (s : State) (k : PortId) (p : PartId), cfgOpen s k = true ∧ (getPort s k).d3hot = true ∧ partOf s k = some p) ∧
    (∃ (s : State) (k : PortId), (getPort s k).pmePending = true ∧ (getPort s k).d3hot = true) ∧
    (∃ (s : State) (k : PortId), (getPort s k).pmeStatus = true ∧ (getPort s k).d3hot = true ∧ (getPort s k).pmeEn = true ∧ (getPort s k).pmePending = false) ∧
    (∃ (s : State) (k : PortId), (getPort s k).aspmL1 = true ∧ (getPort s k).d3hot = false ∧ (getPort s k).inL1 = false ∧ cfgOpen s k = true ∧ (getPort s k).reads = [] ∧ ((getPort s k).dmaQ = [] ∨ canIssue s k = false)) ∧
    (∃ (s : State) (k : PortId), s.pins.perstLow[k] = false ∧ (getPort s k).turnOff = false) ∧
    (∃ (s : State) (k : PortId) (_on : Bool), cfgOpen s k = true) ∧
    (∃ (s : State) (k : PortId) (_v : Fin 16) (u : State), hostMem k false (some 0xFE0000) s = (.go, u)) ∧
    (∃ (s : State) (k : PortId) (p : PartId) (tag : Nat) (data : Bytes) (r : DmaRead), (getPort s k).reads.find? (fun r => r.tag == tag) = some r ∧ partOf s k = some p ∧ r.got + (data.take (r.len - r.got)).length ≥ r.len) ∧
    (∃ (s : State) (k : PortId) (p : PartId) (tag : Nat) (_data : Bytes) (r : DmaRead), (getPort s k).reads.find? (fun r => r.tag == tag) = some r ∧ partOf s k = some p) ∧
    (∃ (s : State) (k : PortId) (tag : Nat) (_st : CplStatus) (_data : Bytes), (getPort s k).reads.find? (fun r => r.tag == tag) = none) ∧
    (∃ (s : State) (k : PortId) (tag : Nat) (r : DmaRead), (getPort s k).reads.find? (fun r => r.tag == tag) = some r ∧ s.boot.sinceNs < r.issued + r.timeout) ∧
    (∃ (s : State) (k : PortId) (p : PartId) (tag : Nat) (r : DmaRead), (getPort s k).reads.find? (fun r => r.tag == tag) = some r ∧ partOf s k = some p ∧ r.issued + r.timeout ≤ s.boot.sinceNs) ∧
    (∃ (s : State) (k : PortId) (i : Fin 5) (p : PartId) (u : State), (getPort s k).ide[i].secure = true ∧ u = updPort (secLogMerged 0x0051 (16 + k.val) [BitVec.ofNat 8 (16 + k.val)] (ideInsecure k i s)) k (fun q => { q with dmaStopped := true }) ∧ partOf u k = some p ∧ (partCfg u p).defined = true) ∧
    (∃ (s : State) (r : Requester) (_v : Nat), mgtOpen r s = true) :=
    ⟨⟨portSt, 0, 0, _, ⟨by decide, by decide, rfl, by decide⟩⟩,
    ⟨onPort (fun q => { q with d3hot := true }), 0, 0, by decide⟩,
    ⟨onPort (fun q => { q with d3hot := true, pmePending := true }), 0, by decide⟩,
    ⟨onPort (fun q => { q with d3hot := true, pmeStatus := true, pmeEn := true }), 0, by decide⟩,
    ⟨onPort (fun q => { q with aspmL1 := true }), 0, by decide⟩,
    ⟨portSt, 0, by decide⟩,
    ⟨portSt, 0, true, by decide⟩,
    ⟨portSt, 0, 0, portSt, by decide⟩,
    ⟨rdSt, 0, 0, 0, [1, 2, 3, 4], { len := 4 }, by decide⟩,
    ⟨rdSt, 0, 0, 0, [], { len := 4 }, by decide⟩,
    ⟨portSt, 0, 0, .ok, [], by decide⟩,
    ⟨onPort (fun q => { q with reads := [{ len := 4, timeout := 1 }] }), 0, 0, { len := 4, timeout := 1 }, by decide⟩,
    ⟨rdSt, 0, 0, 0, { len := 4 }, by decide⟩,
    ⟨ideSt, 0, 0, 0, _, ⟨by decide, rfl, by decide, by decide⟩⟩,
    ⟨portSt, .mgt, 1, by decide⟩⟩

/-- The hypotheses of PpsOutMarksEverySecond can be met. -/
theorem witness_PpsOutMarksEverySecond :
    (∃ (s : State), s.boot.beat = true ∧ clocked s = true ∧ sysTime s % 1000000000 = 0) ∧
    (∃ (s : State), s.boot.beat = true ∧ clocked s = true ∧ sysTime s % 1000000000 ≠ 0) :=
    ⟨⟨timeSt, by decide⟩,
    ⟨{ timeSt with time := { dt := 1 } }, by decide⟩⟩

/-- The hypotheses of TimeBaseAndReferences can be met. -/
theorem witness_TimeBaseAndReferences :
    (∃ (s u : State), timed s = true ∧ s.time.isMaster = true ∧ u = eachOf (List.range s.cfg.group.size) (timeMessageTo s.commit.fabricCount (epochBytes s.commit.epochs) (refValid s)) s) ∧
    (∃ (s : State), (timed s = false ∨ s.time.isMaster = false)) ∧
    (∃ (s : State) (_fc : Nat) (_tb : Bytes) (_ref : Bool) (m : Nat) (l : LinkId), timeLink s m = some l) ∧
    (∃ (s : State) (l : LinkId) (_dt _off e master m _fc : Nat) (_tb : Bytes) (_ref : Bool) (u : State), linkMember s l = some m ∧ timed s = true ∧ working (getLink s l) = true ∧ u = showEpoch (16 * s.cfg.group.group + m) (e % 4) (hearMember m master s) ∧ u.boot.state = .timeSync ∧ u.time.took = false) ∧
    (∃ (s : State) (l : LinkId) (_dt _off e master m _fc : Nat) (_tb : Bytes) (_ref : Bool) (u : State), linkMember s l = some m ∧ timed s = true ∧ working (getLink s l) = true ∧ u = showEpoch (16 * s.cfg.group.group + m) (e % 4) (hearMember m master s) ∧ u.boot.state = .ready ∧ followed u = some m) ∧
    (∃ (s : State) (l : LinkId) (_dt _off e master m _fc : Nat) (_tb : Bytes) (_ref : Bool) (u : State), linkMember s l = some m ∧ timed s = true ∧ working (getLink s l) = true ∧ u = showEpoch (16 * s.cfg.group.group + m) (e % 4) (hearMember m master s) ∧ u.boot.state = .ready ∧ followed u ≠ some m) ∧
    (∃ (s : State) (far off : Nat) (ref : Bool) (t : State), t = followTime far off ref s) ∧
    (∃ (s : State), clocked s = true) ∧
    (∃ (s : State) (gap run : Nat), s.boot.beat = true ∧ clocked s = true ∧ gap = dtNow s - 4 - s.time.ppsInDt ∧ run = (if s.time.ppsInDt ≠ 0 ∧ 999900000 ≤ gap ∧ gap ≤ 1000100000 then min 3 (s.time.ppsRun + 1) else 0) ∧ (timed s = false ∨ s.time.isMaster = false ∨ ptpChosen s = true ∨ run < 3)) ∧
    (∃ (s : State), s.boot.beat = true ∧ timed s = true ∧ s.time.isMaster = true ∧ ptpChosen s = false ∧ 2 ≤ s.time.ppsRun ∧ s.time.ppsInDt ≠ 0 ∧ dtNow s - 4 - s.time.ppsInDt = 1000000000 ∧ s.time.sysSet = false) ∧
    (∃ (s : State), s.boot.beat = true ∧ timed s = true ∧ s.time.isMaster = true ∧ ptpChosen s = false ∧ 2 ≤ s.time.ppsRun ∧ s.time.ppsInDt ≠ 0 ∧ dtNow s - 4 - s.time.ppsInDt = 1000000000 ∧ s.time.sysSet = true) ∧
    (∃ (s : State) (pl : PlaneId) (_k : PtpKind), (placePtp s).time.ptp.plane ≠ some pl.val) ∧
    (∃ (s : State) (pl : PlaneId) (_f : EthCheck) (_m : PtpMsg), (getPlane (placePtp s) pl).state ≠ .up) ∧
    (∃ (s : State) (pl : PlaneId) (f : EthCheck) (_m : PtpMsg) (t : State), (getPlane (placePtp s) pl).state = .up ∧ ethBad pl f (placePtp s) = some t) ∧
    (∃ (s : State) (pl : PlaneId) (f : EthCheck) (_m : PtpMsg) (u : State), (getPlane (placePtp s) pl).state = .up ∧ ethBad pl f (placePtp s) = none ∧ u = notePn pl (ethPn f) (placePtp s)) ∧
    (∃ (s : State) (pl : PlaneId) (_k : PtpKind), (placePtp s).time.ptp.plane = some pl.val) ∧
    (∃ (s : State) (pl : PlaneId) (m : PtpMsg), m.kind = .sync ∧ m.domain = 0 ∧ m.sdoId = 0 ∧ m.src ≠ ownPort pl ∧ m.src = s.time.ptp.parent ∧ s.time.ptp.state = 9 ∧ m.twoStep = false) ∧
    (∃ (s : State) (pl : PlaneId) (m : PtpMsg) (t2 : Nat) (c : Int), m.kind = .followUp ∧ m.domain = 0 ∧ m.sdoId = 0 ∧ m.src ≠ ownPort pl ∧ m.src = s.time.ptp.parent ∧ s.time.ptp.state = 9 ∧ s.time.ptp.rxSync = some (m.seq, t2, c)) ∧
    (∃ (s : State) (pl : PlaneId) (m : PtpMsg) (t1 : Int) (t2 t3 : Nat), m.kind = .delayResp ∧ m.domain = 0 ∧ m.sdoId = 0 ∧ m.src ≠ ownPort pl ∧ m.src = s.time.ptp.parent ∧ s.time.ptp.state = 9 ∧ m.req = ownPort pl ∧ s.time.ptp.req = some (m.seq, t3) ∧ s.time.ptp.pair = some (t1, t2)) ∧
    (∃ (s : State) (t1 d : Int) (t2 : Nat) (t : State), s.time.ptp.delay = some d ∧ t = gotSync t1 t2 s ∧ s.time.sysSet = false) ∧
    (∃ (s : State), timed s = true ∧ dtNow s < s.time.lastRef + 100000000) ∧
    (∃ (s : State), timed s = true ∧ s.time.lastRef + 100000000 ≤ dtNow s) :=
    ⟨⟨timeSt, _, by decide, by decide, rfl⟩,
    ⟨{ timeSt with time := {} }, by decide⟩,
    ⟨tmRx .ready, 0, [], false, 0, 0, by decide⟩,
    ⟨tmRx .timeSync, 0, 5, 0, 0, 0, 0, 0, [], false, _, by decide, by decide, by decide, rfl, by decide, by decide⟩,
    ⟨tmRx .ready, 0, 5, 0, 0, 0, 0, 0, [], true, _, by decide, by decide, by decide, rfl, by decide, by decide⟩,
    ⟨{ tmRx .ready with cfg := { cfgSt with group := { size := 3, member := 2 } } }, 1, 5, 0, 0, 0, 1, 0, [], false, _, by decide, by decide, by decide, rfl, by decide, by decide⟩,
    ⟨timeSt, 0, 0, true, _, rfl⟩,
    ⟨timeSt, by decide⟩,
    ⟨{ timeSt with time := {} }, _, _, by decide, by decide, rfl, rfl, by decide⟩,
    ⟨{ timeSt with time := { isMaster := true, ppsRun := 2, ppsInDt := 100, dt := 1000000104 } }, by decide⟩,
    ⟨{ timeSt with time := { isMaster := true, ppsRun := 2, ppsInDt := 100, dt := 1000000104, sysSet := true } }, by decide⟩,
    ⟨ptpSt, 1, .sync, by decide⟩,
    ⟨State.reset, 0, .fcs, {}, by decide⟩,
    ⟨ptpSt, 0, .fcs, {}, _, by decide, rfl⟩,
    ⟨ptpSt, 0, .good {}, {}, _, by decide, by decide, rfl⟩,
    ⟨ptpSt, 0, .sync, by decide⟩,
    ⟨slaveSt, 0, { kind := .sync }, by decide, by decide, by decide, zero_ne_ownPort 0, by decide⟩,
    ⟨slaveSt, 0, { kind := .followUp }, 0, 0, by decide, by decide, by decide, zero_ne_ownPort 0, by decide⟩,
    ⟨slaveSt, 0, { kind := .delayResp, req := ownPort 0 }, 0, 0, 0, by decide, by decide, by decide, zero_ne_ownPort 0, by decide, by decide, rfl, by decide, by decide⟩,
    ⟨slaveSt, 5, 7, 0, _, by decide, rfl, by decide⟩,
    ⟨timeSt, by decide⟩,
    ⟨{ timeSt with time := { dt := 100000000 } }, by decide⟩⟩

/-- The hypotheses of StagedCommitStates can be met. -/
theorem witness_StagedCommitStates :
    (∃ (s : State) (r : Requester) (v : Nat), stageCmd r v 1 s = true ∧ (s.commit.state = .idle ∨ (s.commit.state = .fenced ∧ s.commit.rejoin = true))) ∧
    (∃ (s : State) (r : Requester) (v : Nat), stageCmd r v 2 s = true ∧ s.commit.state = .staging) ∧
    (∃ (s : State) (is : List StageItem) (u : State), s.commit.state = .checking ∧ runChecks s = (0, is, u)) ∧
    (∃ (s : State) (n : Nat) (is : List StageItem) (u : State), s.commit.state = .checking ∧ runChecks s = (n, is, u) ∧ n ≠ 0) ∧
    (∃ (s : State) (r : Requester) (v : Nat), stageCmd r v 4 s = true ∧ (s.commit.state = .staging ∨ s.commit.state = .sealed)) ∧
    (∃ (s : State) (r : Requester) (v : Nat) (head : CommitHead) (u : State), stageCmd r v 3 s = true ∧ s.commit.state = .sealed ∧ head = { id := s.commit.stageId, groups := stageScopeGroups s, instant := s.commit.stageInstant } ∧ u = sendCfgAll (scopeDevices (startVote head s) head.groups) (.voteReq head (startVote head s).commit.stageDigest) (startVote head s)) ∧
    (∃ (s : State) (src : DevId) (_e : Nat), (getPeer s src).behind = false) ∧
    (∃ (s : State) (src : DevId) (e : Nat) (head : CommitHead) (_dg : Bytes) (u v : State), u = showEpoch src (e % 4) s ∧ u.commit.state = .sealed ∧ head.id = u.commit.stageId ∧ v = setCommit .voting { u with commit := { u.commit with
        id := head.id, instant := head.instant, scope := head.groups, coordinator := false, noDevice := none, noOutcome := [] } }) ∧
    (∃ (s : State) (src : DevId) (e : Nat) (head : CommitHead) (_dg : Bytes) (u : State), u = showEpoch src (e % 4) s ∧ ((u.commit.state = .sealed ∨ u.commit.state = .staging ∨ u.commit.state = .checking) ∧ head.id ≠ u.commit.stageId)) ∧
    (∃ (s : State) (src : DevId) (e : Nat) (head : CommitHead) (_dg : Bytes) (u : State), u = showEpoch src (e % 4) s ∧ ((u.commit.state = .idle ∨ u.commit.state = .fenced) ∨ ((u.commit.state = .staging ∨ u.commit.state = .checking) ∧ head.id = u.commit.stageId))) ∧
    (∃ (s : State) (src : DevId) (e : Nat) (_head : CommitHead) (_dg : Bytes) (u : State), u = showEpoch src (e % 4) s ∧ (u.commit.state = .voting ∨ u.commit.state = .armed)) ∧
    (∃ (s : State) (src : DevId) (e id : Nat) (_yes : Bool) (_r : Nat) (u : State), u = showEpoch src (e % 4) s ∧ u.commit.state = .voting ∧ u.commit.coordinator = true ∧ id = u.commit.id ∧ (scopeDevices u u.commit.scope).contains src = true ∧ sysTime u + 1000000 ≤ u.commit.instant) ∧
    (∃ (s : State), s.commit.state = .voting ∧ s.commit.coordinator = true ∧ s.commit.instant ≤ sysTime s + 1000000) ∧
    (∃ (s : State) (src : DevId) (e id _r : Nat) (_b : Bool) (_w : Option DevId) (u : State), u = showEpoch src (e % 4) s ∧ id = u.commit.id ∧ (u.commit.state = .voting ∨ (u.commit.state = .fenced ∧ u.commit.rejoin = false))) ∧
    (∃ (s : State) (src : DevId) (e id _r : Nat) (_w : Option DevId) (u : State), u = showEpoch src (e % 4) s ∧ awaits u id = false ∧ u.commit.outcomes.any (fun e => e.1 == id) = false) ∧
    (∃ (s : State) (src : DevId) (e id _r : Nat) (b : Bool) (_w : Option DevId) (u : State), u = showEpoch src (e % 4) s ∧ awaits u id = false ∧ (b = true ∨ u.commit.outcomes.any (fun e => e.1 == id) = true)) ∧
    (∃ (s : State) (_r : Nat) (_w : Option DevId), s.commit.state = .voting) ∧
    (∃ (s : State) (src : DevId) (e : Nat) (head : CommitHead) (u : State), u = showEpoch src (e % 4) s ∧ u.commit.applied.contains head.id = false ∧ u.commit.announced.any (fun h => h.id == head.id) = false ∧ u.time.isMaster = false ∧ sysTime u < head.instant) ∧
    (∃ (s : State), s.commit.state = .armed ∧ s.commit.instant ≤ sysTime s ∧ s.commit.announced = []) ∧
    (∃ (s : State), s.commit.state = .voting ∧ s.commit.instant ≤ sysTime s ∧ s.commit.announced = []) ∧
    (∃ (s : State) (h : CommitHead), s.commit.applied.contains h.id = false ∧ h.groups.Nodup) ∧
    (∃ (s : State), s.commit.state = .fenced ∧ s.commit.rejoin = false) ∧
    (∃ (s : State) (src : DevId) (e id : Nat) (u : State), u = showEpoch src (e % 4) s ∧ id ≠ 0) ∧
    (∃ (s : State) (src : DevId) (e _r : Nat) (_b : Bool) (_w : Option DevId) (u : State), u = showEpoch src (e % 4) s ∧ u.commit.state = .fenced ∧ u.commit.rejoin = false) ∧
    (∃ (s : State), s.commit.state = .fenced ∧ s.commit.rejoin = false ∧ s.commit.instant + 10000000 ≤ sysTime s ∧ (scopeDevices s s.commit.scope).all (fun d => d == ownId s || (getPeer s d).unreachable || s.commit.noOutcome.contains d) = true) :=
    ⟨⟨cmtSt .idle, .mgt, 0xC0F90001, by decide⟩,
    ⟨cmtSt .staging, .mgt, 0xC0F90002, by decide⟩,
    ⟨chkSt, (runChecks chkSt).2.1, (runChecks chkSt).2.2, ⟨by decide, Prod.ext (by decide) rfl⟩⟩,
    ⟨cmtSt .checking, (runChecks (cmtSt .checking)).1, (runChecks (cmtSt .checking)).2.1, (runChecks (cmtSt .checking)).2.2, ⟨by decide, rfl, by decide⟩⟩,
    ⟨cmtSt .sealed, .mgt, 0xC0F90004, by decide⟩,
    ⟨cmtSt .sealed, .mgt, 0xC0F90003, _, _, ⟨by decide, by decide, rfl, rfl⟩⟩,
    ⟨cmtSt .idle, 1, 7, by decide⟩,
    ⟨cmtSt .sealed, 1, 0, {}, [], _, _, rfl, by decide, by decide, rfl⟩,
    ⟨cmtSt .staging, 1, 0, { id := 5 }, [], _, rfl, by decide⟩,
    ⟨cmtSt .idle, 1, 0, {}, [], _, rfl, by decide⟩,
    ⟨cmtSt .voting, 1, 0, {}, [], _, rfl, by decide⟩,
    ⟨{ cmtSt .voting with commit := { state := .voting, coordinator := true, instant := 5000000, id := 1 } }, 0, 0, 1, true, 0, _, rfl, by decide⟩,
    ⟨{ cmtSt .voting with commit := { state := .voting, coordinator := true } }, by decide⟩,
    ⟨cmtSt .voting, 1, 7, 0, 0, true, none, _, rfl, by decide⟩,
    ⟨cmtSt .idle, 1, 7, 9, 0, none, _, rfl, by decide⟩,
    ⟨cmtSt .idle, 1, 7, 9, 0, true, none, _, rfl, by decide⟩,
    ⟨cmtSt .voting, 0, none, by decide⟩,
    ⟨{ cmtSt .idle with time := {} }, 1, 0, { id := 3, instant := 9 }, _, rfl, by decide⟩,
    ⟨cmtSt .armed, by decide⟩,
    ⟨cmtSt .voting, by decide⟩,
    ⟨cmtSt .idle, { id := 1, groups := [0, 3] }, by decide⟩,
    ⟨cmtSt .fenced, by decide⟩,
    ⟨cmtSt .idle, 1, 0, 7, _, rfl, by decide⟩,
    ⟨cmtSt .fenced, 1, 0, 0, true, none, _, rfl, by decide⟩,
    ⟨{ cmtSt .fenced with time := { dt := 10000000 } }, by decide⟩⟩

/-- The hypotheses of StreamControlCommands can be met. -/
theorem witness_StreamControlCommands :
    (∃ (s : State) (p : PartId) (st : StreamId) (d : Bytes) (u : State), takeCmd p st 0x9000 s = (some d, u)) ∧
    (∃ (s : State) (p : PartId) (st : StreamId) (d : Bytes) (u : State), takeCmd p st 0x9001 s = (some d, u) ∧ st ≠ 6 ∧ d16 d 24 = (getPart u p).job.id) ∧
    (∃ (s : State) (p : PartId) (d : Bytes) (u : State), takeCmd p 6 0x9001 s = (some d, u) ∧ beginFault u p d = none) ∧
    (∃ (s : State) (p : PartId) (st : StreamId) (d : Bytes) (u : State), takeCmd p st 0x9002 s = (some d, u)) ∧
    (∃ (s : State) (p : PartId) (st : StreamId) (d : Bytes) (u : State), takeCmd p st 0x9010 s = (some d, u)) ∧
    (∃ (s : State) (p : PartId) (st : StreamId) (d : Bytes) (u : State), takeCmd p st 0x9011 s = (some d, u)) ∧
    (∃ (_s : State) (_x : Stream) (i _v : Nat), i < 8) ∧
    (∃ (s : State) (p : PartId) (st : StreamId) (d : Bytes) (u : State), takeCmd p st 0x9020 s = (some d, u)) ∧
    (∃ (s : State) (p : PartId) (st : StreamId) (d : Bytes) (u : State), takeCmd p st 0x9021 s = (some d, u)) ∧
    (∃ (s : State) (p : PartId) (st : StreamId) (d : Bytes) (u : State), takeCmd p st 0x9030 s = (some d, u)) ∧
    (∃ (s : State) (p : PartId) (st : StreamId) (d : Bytes) (u : State), takeCmd p st 0x9031 s = (some d, u)) ∧
    (∃ (s : State) (p : PartId) (st : StreamId) (d : Bytes) (u : State), takeCmd p st 0x9040 s = (some d, u) ∧ (getPart u p).models.any (fun m => m.tds.any (fun e => e.1 == d16 d 24)) = false ∧ tdValid (bytesAt d 32 32) = true ∧ tdExtent (bytesAt d 32 32) ≤ spaceSize u p (tdSpace (bytesAt d 32 32))) ∧
    (∃ (s : State) (p : PartId) (st : StreamId) (d : Bytes) (u : State), takeCmd p st 0x9050 s = (some d, u)) ∧
    (∃ (s : State) (p : PartId) (st : StreamId) (d : Bytes) (u : State), takeCmd p st 0x9051 s = (some d, u)) ∧
    (∃ (s : State) (p : PartId) (st : StreamId) (e : Exec), (getStream s p st).exec = some e ∧ e.phase = .done ∧ dOp e.desc ≠ 0x9051 ∧ mirrorOwed s p (fun b => leAt b 4 4 == dTag e.desc) = false ∧ (movesHbm s p e.desc = false ∨ hbmPaid s p = true)) ∧
    (∃ (s : State) (p : PartId) (st : StreamId) (e : Exec), (getStream s p st).exec = some e ∧ mirrorOwed s p (fun b => leAt b 4 4 == dTag e.desc) = true) ∧
    (∃ (s : State) (p : PartId) (st : StreamId) (e : Exec), (getStream s p st).exec = some e ∧ e.phase = .done ∧ mirrorOwed s p (fun b => leAt b 4 4 == dTag e.desc) = false ∧ movesHbm s p e.desc = true ∧ hbmPaid s p = false) ∧
    (∃ (s : State) (p : PartId) (st : StreamId) (e : Exec) (t0 : Nat), (getStream s p st).exec = some e ∧ e.phase = .waiting t0 ∧ waitedOut s t0 = true ∧ (waitsHold s p e.desc && jobReady s p st e.desc) = false) ∧
    (∃ (s : State) (p : PartId), (getPart s p).halted = false) ∧
    (∃ (s : State) (p : PartId), mirrorOwed s p (fun b => leAt b 2 1 % 16 == classCode .job) = true) ∧
    (∃ (s : State) (p : PartId), (getPart s p).halted = true ∧ mirrorOwed s p (fun b => leAt b 2 1 % 16 == classCode .job) = false) :=
    ⟨⟨workSt 0 (mkDesc 0x9000 []), 0, 0, mkDesc 0x9000 [], (takeCmd 0 0 0x9000 (workSt 0 (mkDesc 0x9000 []))).2, taken 0 _ 0x9000 _ (by decide)⟩,
    ⟨jobSt, 0, 0, mkDesc 0x9001 [(24, 2, 5)], (takeCmd 0 0 0x9001 jobSt).2, ⟨taken 0 _ _ _ (by decide), by decide, by decide⟩⟩,
    ⟨xfrJobSt, 0, mkDesc 0x9001 [(24, 2, 5), (26, 1, 64)], (takeCmd 0 6 0x9001 xfrJobSt).2, ⟨taken 6 _ _ _ (by decide), by decide⟩⟩,
    ⟨workSt 0 (mkDesc 0x9002 []), 0, 0, mkDesc 0x9002 [], (takeCmd 0 0 0x9002 (workSt 0 (mkDesc 0x9002 []))).2, taken 0 _ 0x9002 _ (by decide)⟩,
    ⟨workSt 0 (mkDesc 0x9010 [(24, 1, 1), (28, 4, 7)]), 0, 0, mkDesc 0x9010 [(24, 1, 1), (28, 4, 7)], (takeCmd 0 0 0x9010 (workSt 0 (mkDesc 0x9010 [(24, 1, 1), (28, 4, 7)]))).2, taken 0 _ 0x9010 _ (by decide)⟩,
    ⟨workSt 0 (mkDesc 0x9011 [(24, 1, 1), (28, 4, 7)]), 0, 0, mkDesc 0x9011 [(24, 1, 1), (28, 4, 7)], (takeCmd 0 0 0x9011 (workSt 0 (mkDesc 0x9011 [(24, 1, 1), (28, 4, 7)]))).2, taken 0 _ 0x9011 _ (by decide)⟩,
    ⟨State.reset, {}, 1, 4294967296, by decide⟩,
    ⟨workSt 0 (mkDesc 0x9020 [(27, 1, 1)]), 0, 0, mkDesc 0x9020 [(27, 1, 1)], (takeCmd 0 0 0x9020 (workSt 0 (mkDesc 0x9020 [(27, 1, 1)]))).2, taken 0 _ 0x9020 _ (by decide)⟩,
    ⟨resSt 0x9021, 0, 0, resDesc 0x9021, (takeCmd 0 0 0x9021 (resSt 0x9021)).2, taken 0 _ _ _ (by decide)⟩,
    ⟨workSt 0 (mkDesc 0x9030 []), 0, 0, mkDesc 0x9030 [], (takeCmd 0 0 0x9030 (workSt 0 (mkDesc 0x9030 []))).2, taken 0 _ 0x9030 _ (by decide)⟩,
    ⟨workSt 0 (mkDesc 0x9031 [(24, 2, 3), (28, 4, 9)]), 0, 0, mkDesc 0x9031 [(24, 2, 3), (28, 4, 9)], (takeCmd 0 0 0x9031 (workSt 0 (mkDesc 0x9031 [(24, 2, 3), (28, 4, 9)]))).2, taken 0 _ 0x9031 _ (by decide)⟩,
    ⟨workSt 0 (mkDesc 0x9040 tdFieldsSt), 0, 0, mkDesc 0x9040 tdFieldsSt, (takeCmd 0 0 0x9040 (workSt 0 (mkDesc 0x9040 tdFieldsSt))).2, ⟨taken 0 _ 0x9040 _ (by decide), by decide, by decide, by decide⟩⟩,
    ⟨workSt 0 (mkDesc 0x9050 [(28, 4, 1)]), 0, 0, mkDesc 0x9050 [(28, 4, 1)], (takeCmd 0 0 0x9050 (workSt 0 (mkDesc 0x9050 [(28, 4, 1)]))).2, taken 0 _ 0x9050 _ (by decide)⟩,
    ⟨resSt 0x9051, 0, 0, resDesc 0x9051, (takeCmd 0 0 0x9051 (resSt 0x9051)).2, taken 0 _ _ _ (by decide)⟩,
    ⟨updStream (workSt 0 []) 0 0 (fun x => { x with exec := some { phase := .done, desc := mkDesc 0x9000 [] } }), 0, 0, { phase := .done, desc := mkDesc 0x9000 [] }, by decide⟩,
    ⟨updPort (updStream (workSt 0 []) 0 0 (fun x => { x with exec := some doneExec })) 0 (fun q => { q with dmaQ := [.write .mirror 0 (List.replicate 64 0) 0 0 true] }), 0, 0, doneExec, by decide⟩,
    ⟨updPart (updStream { workSt 0 [] with cfg := dryCfg } 0 0 (fun x => { x with exec := some { doneExec with desc := mkDesc 0x4010 [] } })) 0 (fun q => { q with regul := .replicate 4 { credit := -1000 } }), 0, 0, { doneExec with desc := mkDesc 0x4010 [] }, by decide⟩,
    ⟨{ waitSt with time := { dt := 10 ^ 12 } }, 0, 0, { phase := .waiting 0, desc := waitDesc }, 0, by decide⟩,
    ⟨portSt, 0, by decide⟩,
    ⟨updPort portSt 0 (fun q => { q with dmaQ := [.write .mirror 0 [0, 0, classCode .job] 0 0 true] }), 0, by decide⟩,
    ⟨updPart portSt 0 (fun q => { q with halted := true }), 0, by decide⟩⟩

/-- The hypotheses of CommandsAreTakenInOrder can be met. -/
theorem witness_CommandsAreTakenInOrder :
    (∃ (s : State) (p : PartId) (st : StreamId) (d : Bytes) (w : State), acceptsDesc s p = true ∧ (getStream s p st).exec = none ∧ headDesc s p st = some (.ok d) ∧ ((getStream s p st).resident = 0 ∨ hasCredit s p 0 = true) ∧ w = (if (getStream s p st).resident != 0 then charge p 0 64 s else s) ∧ decodeFault s p st d = none ∧ ((getStream s p st).inJob = true ∨ dOp d = 0x9001) ∧ waitsHold w p d = true ∧ jobReady w p st d = true ∧ hbmWaits w p d = false) ∧
    (∃ (s : State) (p : PartId) (st : StreamId) (_d : Bytes), (∀ e ∈ s.sramErr, e.1 = p → readsWord st e.2 = false)) ∧
    (∃ (s : State) (p : PartId) (st : StreamId) (d : Bytes) (w : State), acceptsDesc s p = true ∧ (getStream s p st).exec = none ∧ headDesc s p st = some (.ok d) ∧ ((getStream s p st).resident = 0 ∨ hasCredit s p 0 = true) ∧ w = (if (getStream s p st).resident != 0 then charge p 0 64 s else s) ∧ decodeFault s p st d = none ∧ ((getStream s p st).inJob = true ∨ dOp d = 0x9001) ∧ (waitsHold w p d && jobReady w p st d) = false) ∧
    (∃ (s : State) (p : PartId) (st : StreamId) (d : Bytes) (w : State), acceptsDesc s p = true ∧ (getStream s p st).exec = none ∧ headDesc s p st = some (.ok d) ∧ ((getStream s p st).resident = 0 ∨ hasCredit s p 0 = true) ∧ w = (if (getStream s p st).resident != 0 then charge p 0 64 s else s) ∧ decodeFault s p st d = none ∧ ((getStream s p st).inJob = true ∨ dOp d = 0x9001) ∧ waitsHold w p d = true ∧ jobReady w p st d = true ∧ hbmWaits w p d = true) ∧
    (∃ (s : State) (p : PartId) (st : StreamId) (_op : Nat), acceptsDesc s p = true ∧ (getStream s p st).exec = none ∧ (getStream s p st).resident ≠ 0 ∧ hasCredit s p 0 = false) ∧
    (∃ (s : State) (p : PartId) (st : StreamId) (_op : Nat) (d : Bytes) (e : CmdErr) (w : State), acceptsDesc s p = true ∧ (getStream s p st).exec = none ∧ headDesc s p st = some (.ok d) ∧ ((getStream s p st).resident = 0 ∨ hasCredit s p 0 = true) ∧ w = (if (getStream s p st).resident != 0 then charge p 0 64 s else s) ∧ decodeFault s p st d = some e) ∧
    (∃ (s : State) (p : PartId) (st : StreamId) (_op : Nat) (d : Bytes) (w : State), acceptsDesc s p = true ∧ (getStream s p st).exec = none ∧ headDesc s p st = some (.ok d) ∧ ((getStream s p st).resident = 0 ∨ hasCredit s p 0 = true) ∧ w = (if (getStream s p st).resident != 0 then charge p 0 64 s else s) ∧ decodeFault s p st d = none ∧ (getStream s p st).inJob = false ∧ dOp d ≠ 0x9001) ∧
    (∃ (s : State) (p : PartId) (_st : StreamId) (_op : Nat), acceptsDesc s p = false) :=
    ⟨⟨workSt 0 (mkDesc 0x9000 []), 0, 0, mkDesc 0x9000 [], _, ⟨by decide, by decide, by rfl, by decide, rfl, by decide, by decide, by decide, by decide, by decide⟩⟩,
    ⟨State.reset, 0, 0, [], by decide⟩,
    ⟨workSt 0 waitDesc, 0, 0, waitDesc, _, ⟨by decide, by decide, by rfl, by decide, rfl, by decide, by decide, by decide⟩⟩,
    ⟨{ workSt 3 dryDesc with cfg := dryCfg }, 0, 3, dryDesc, _, ⟨by decide, by decide, by rfl, by decide, rfl, by decide, by decide, by decide, by decide, by decide⟩⟩,
    ⟨{ resSt 0x9000 with cfg := dryCfg }, 0, 0, 0x9000, by decide⟩,
    ⟨workSt 0 (mkDesc 0x9999 []), 0, 0, 0x9000, mkDesc 0x9999 [], { code := 0x0102, detail := 0x9999 }, _, ⟨by decide, by decide, by rfl, by decide, rfl, by decide⟩⟩,
    ⟨updStream (workSt 0 (mkDesc 0x9000 [])) 0 0 (fun x => { x with inJob := false }), 0, 0, 0x9000, mkDesc 0x9000 [], _, ⟨by decide, by decide, by rfl, by decide, rfl, by decide, by decide, by decide⟩⟩,
    ⟨State.reset, 0, 0, 0x9000, by decide⟩⟩

/-- The hypotheses of RoutingCommands can be met. -/
theorem witness_RoutingCommands :
    (∃ (s : State) (p : PartId) (d : Bytes) (u : State) (m : Model) (td : Nat × Bytes) (sc : Option (Nat × Bytes)), takeCmd p 0 0x1001 s = (some d, u) ∧ jobModel (getPart u p) = some m ∧ layerMode u p (d16 d 34) 0 = true ∧ useTd u p d 32 true (isClauseList (d16 d 26)) = .ok td ∧ useTdOpt u p d 38 true (fun t => tdType t == 3 && tdSpace t != 3 && decide (tdElems t ≥ d16 d 26 * m.experts)) = .ok sc ∧ specStep (updExec p 0 (fun e => { e with tds := td :: sc.toList, base := relValue (getStream u p 0) (d8 d 28) (d16 d 24), at_ := 0 })
  (fillGate p (dTag d) m (d16 d 34) (d16 d 26) u)) p (d16 d 34) = none) ∧
    (∃ (s : State) (p : PartId) (pos : Nat) (e : Exec) (td : Nat × Bytes), (getStream s p 0).exec = some e ∧ e.phase = .running ∧ dOp e.desc = 0x1001 ∧ pos = e.at_ ∧ pos < d16 e.desc 26 ∧ e.tds.head? = some td) ∧
    (∃ (s : State) (p : PartId) (d : Bytes) (u : State) (m : Model) (td : Nat × Bytes) (v w : State) (rows : List (Nat × Bool × List Nat)), takeCmd p 0 0x1002 s = (some d, u) ∧ jobModel (getPart u p) = some m ∧ layerMode u p (d16 d 34) 1 = true ∧ useTd u p d 32 true (isBallot (m.experts * d16 d 36)) = .ok td ∧ v = updExec p 0 (fun e => { e with tds := [td], base := relValue (getStream u p 0) (d8 d 28) (d16 d 24), at_ := d16 d 26 })
  (fillGate p (dTag d) m (d16 d 34) (d16 d 26) u) ∧ rows = proposeRows v p m (routerLayer v p m (d16 d 34)) (relValue (getStream u p 0) (d8 d 28) (d16 d 24)) (d16 d 26) ∧ w = eachOf (List.range (d16 d 26)) (fun i s => updSlot p (relValue (getStream u p 0) (d8 d 28) (d16 d 24) + i)
  (fun x => { x with gateBad := gatePoisoned v p m (routerLayer v p m (d16 d 34)) }) s) v) ∧
    (∃ (s : State) (p : PartId) (d : Bytes) (u : State) (m : Model) (bt ct : Nat × Bytes), takeCmd p 0 0x1003 s = (some d, u) ∧ jobModel (getPart u p) = some m ∧ layerMode u p (d16 d 36) 1 = true ∧ useTd u p d 32 false (isBallot m.experts) = .ok bt ∧ useTd u p d 34 true (isClauseList (d16 d 26)) = .ok ct ∧ ctlFault u p (tdSpace bt.2) (tdBase bt.2) (tdExtent bt.2 - tdBase bt.2) = none ∧ (ballotEntries u p bt.2).find? (strayEntry (relValue (getStream u p 0) (d8 d 28) (d16 d 24)) (d16 d 26) m.experts) = none) ∧
    (∃ (s : State) (p : PartId) (d : Bytes) (u : State) (m : Model) (td ix off : Nat × Bytes) (l : List (Nat × Nat × Bytes)), takeCmd p 1 0x2001 s = (some d, u) ∧ jobModel (getPart u p) = some m ∧ useTd u p d 24 (d8 d 34 == 0) (isClauseList (d16 d 26)) = .ok td ∧ useTd u p d 28 true (fun t => isIndex t && tdSpace t != 3) = .ok ix ∧ useTd u p d 30 true (fun t => isIndex t && tdSpace t != 3) = .ok off ∧ ctlFault u p (tdSpace td.2) (tdBase td.2) (256 * d16 d 26) = none ∧ (listClauses u p td.2 (d16 d 26)).find? (fun x => recExpert x.2 != 0xFFFF && recExpert x.2 ≥ m.experts) = none ∧ (∀ x ∈ listClauses u p td.2 (d16 d 26), d8 d 34 = 0 → recExpert x.2 ≠ 0xFFFF → recResolved x.2 = none → mapPoison u p m (d16 d 32) (recExpert x.2) = none) ∧ l = bucketSorted (bucketKeyed u p m (d16 d 32) (d8 d 34 == 0) (listClauses u p td.2 (d16 d 26))) ∧ l.length ≤ tdElems ix.2 ∧ (bucketOffs (d8 d 34 == 0) m.experts l).length ≤ tdElems off.2) ∧
    (∃ (s : State) (p : PartId) (d : Bytes) (u : State) (src ix dst : Nat × Bytes), takeCmd p 2 0x3001 s = (some d, u) ∧ useTd u p d 24 false (fun t => tdSpace t != 3) = .ok src ∧ useTd u p d 26 false (fun t => isIndex t && tdSpace t != 3) = .ok ix ∧ useTd u p d 28 true (fun t => tdSpace t != 3) = .ok dst ∧ (¬ (tdType src.2 ≠ tdType dst.2 ∨ tdDim src.2 0 ≠ tdDim dst.2 0 ∨ tdSliceElems src.2 ≠ tdSliceElems dst.2)) ∧ (eachUntil (gatherRow p d src ix dst) (List.range (d32 d 32)) u).2 = none) :=
    ⟨⟨workSt 0 (mkDesc 0x1001 [(26,2,1),(32,2,2),(38,2,0xFFFF)]), 0, mkDesc 0x1001 [(26,2,1),(32,2,2),(38,2,0xFFFF)], (takeCmd 0 0 0x1001 (workSt 0 (mkDesc 0x1001 [(26,2,1),(32,2,2),(38,2,0xFFFF)]))).2, workModel 0, (2, mkTd 8192 1 5 1 256 4 256), none, ⟨taken 0 _ 0x1001 _ (by decide), by decide, by decide, okOf (by decide), okOf (by decide), by decide⟩⟩,
    ⟨selSt, 0, 0, selExec, (2, mkTd 8192 1 5 1 256 4 256), by decide⟩,
    ⟨workSt 0 (mkDesc 0x1002 [(26,2,1),(32,2,4),(36,2,1)]) 1, 0, mkDesc 0x1002 [(26,2,1),(32,2,4),(36,2,1)], (takeCmd 0 0 0x1002 (workSt 0 (mkDesc 0x1002 [(26,2,1),(32,2,4),(36,2,1)]) 1)).2, workModel 1, (4, mkTd 20480 1 5 1 16 8 16), _, _, _, ⟨taken 0 _ 0x1002 _ (by decide), by decide, by decide, okOf (by decide), rfl, rfl, rfl⟩⟩,
    ⟨workSt 0 (mkDesc 0x1003 [(26,2,4),(32,2,4),(34,2,2)]) 1, 0, mkDesc 0x1003 [(26,2,4),(32,2,4),(34,2,2)], (takeCmd 0 0 0x1003 (workSt 0 (mkDesc 0x1003 [(26,2,4),(32,2,4),(34,2,2)]) 1)).2, workModel 1, (4, mkTd 20480 1 5 1 16 8 16), (2, mkTd 8192 1 5 1 256 4 256), ⟨taken 0 _ 0x1003 _ (by decide), by decide, by decide, okOf (by decide), okOf (by decide), by decide, by decide⟩⟩,
    ⟨workSt 1 (mkDesc 0x2001 [(24,2,2),(26,2,1),(28,2,1),(30,2,5)]), 0, mkDesc 0x2001 [(24,2,2),(26,2,1),(28,2,1),(30,2,5)], (takeCmd 0 1 0x2001 (workSt 1 (mkDesc 0x2001 [(24,2,2),(26,2,1),(28,2,1),(30,2,5)]))).2, workModel 0, (2, mkTd 8192 1 5 1 256 4 256), (1, mkTd 4096 1 4 0 16 0 0), (5, mkTd 24576 1 4 0 16 0 0), [], ⟨taken 1 _ 0x2001 _ (by decide), by decide, okOf (by decide), okOf (by decide), okOf (by decide), by decide, by decide, by decide, by decide, by decide⟩⟩,
    ⟨workSt 2 (mkDesc 0x3001 [(24,2,0),(26,2,1),(28,2,0),(32,4,1)]), 0, mkDesc 0x3001 [(24,2,0),(26,2,1),(28,2,0),(32,4,1)], (takeCmd 0 2 0x3001 (workSt 2 (mkDesc 0x3001 [(24,2,0),(26,2,1),(28,2,0),(32,4,1)]))).2, (0, mkTd 0 1 0 1 4 8 8), (1, mkTd 4096 1 4 0 16 0 0), (0, mkTd 0 1 0 1 4 8 8), ⟨taken 2 _ 0x3001 _ (by decide), okOf (by decide), okOf (by decide), okOf (by decide), by decide, by decide⟩⟩⟩

/-- The hypotheses of SequencerCommands can be met. -/
theorem witness_SequencerCommands :
    (∃ (s : State) (p : PartId) (ecc : List EccFind) (d : Bytes) (u : State) (td : Nat × Bytes) (ix : Option (Nat × Bytes)) (v : State), SeqTakes p 0x4001 ecc d s u ∧ useTd u p d 26 false (fun t => tdRank t == 1 && decide (tdType t ≤ 2)) = .ok td ∧ useTdOpt u p d 28 false isIndex = .ok ix ∧ v = onCores p (setTileTag (d8 d 24) (tdType td.2)) u ∧ (eachUntil (loadRow p d td ix) (coreRows v p (d8 d 25)) v).2 = none) ∧
    (∃ (s : State) (p : PartId) (ecc : List EccFind) (d : Bytes) (u : State) (td : Nat × Bytes) (ix : Option (Nat × Bytes)), SeqTakes p 0x4002 ecc d s u ∧ useTd u p d 26 true (storeSuits u p (d8 d 24)) = .ok td ∧ useTdOpt u p d 28 false isIndex = .ok ix ∧ (eachUntil (storeTileRow p d td ix) (coreRows u p (d8 d 25)) u).2 = none) ∧
    (∃ (s : State) (p : PartId) (d : Bytes) (u : State), SeqTakes p 0x4003 [] d s u) ∧
    (∃ (_s : State) (_q : CoreSt) (code row : Nat), (isT code = true ∨ isA code = true) ∧ row < 64) ∧
    (∃ (s : State) (p : PartId) (ecc : List EccFind) (d : Bytes) (u : State), SeqTakes p 0x4004 ecc d s u) ∧
    (∃ (s : State) (p : PartId) (ecc : List EccFind) (d : Bytes) (u : State), SeqTakes p 0x4005 ecc d s u ∧ vecFault u p d [24, 25] = none) ∧
    (∃ (s : State) (p : PartId) (ecc : List EccFind) (d : Bytes) (u : State), SeqTakes p 0x4006 ecc d s u ∧ vecFault u p d [24, 25, 26] = none) ∧
    (∃ (s : State) (p : PartId) (ecc : List EccFind) (d : Bytes) (u : State) (td : Nat × Bytes), SeqTakes p 0x4007 ecc d s u ∧ vecFault u p d [24, 25] = none ∧ useTd u p d 26 false (fun t => tdType t == 3) = .ok td ∧ (eachUntil (scaleTileRow p d td) (coreRows u p (d8 d 36)) u).2 = none) ∧
    (∃ (s : State) (p : PartId) (ecc : List EccFind) (d : Bytes) (u : State), SeqTakes p 0x4008 ecc d s u) ∧
    (∃ (s : State) (p : PartId) (ecc : List EccFind) (d : Bytes) (u : State) (m : Model) (rows out : Nat × Bytes) (ix gate : Option (Nat × Bytes)) (w v : State) (suits : Bytes → Bool), (getPart s p).pass = none ∧ SeqTakes p 0x4010 ecc d s u ∧ jobModel (getPart u p) = some m ∧ suits = (fun t => tdType t == 0 && tdRank t == 1 && tdDim t 0 == m.dmodel && tdSpace t != 3) ∧ residentExpert u p m (d16 d 28) (d16 d 30) = true ∧ useTd u p d 24 false suits = .ok rows ∧ useTdOpt u p d 26 false (fun t => isIndex t && tdSpace t != 3) = .ok ix ∧ useTd u p d 32 true suits = .ok out ∧ useTdOpt u p d 34 false (fun t => tdType t == 3 && tdSpace t != 3) = .ok gate ∧ w = dropClusters p u ∧ v = passCycles p (touchWeights p (dTag d) m (d16 d 28) (d16 d 30)
  (beginPass p { model := m.handle, expert := d16 d 30, layer := d16 d 28, lead := lowLead w p, alone := true } w)) ∧ (eachUntil (expertRow p d m (ecc.any isWork) rows out ix gate) (List.range (d16 d 38)) v).2 = none) ∧
    (∃ (s : State) (p : PartId) (op : Nat) (ecc : List EccFind) (d : Bytes) (v : State) (_f : Bytes → State → State), takeCmd p 3 op s = (some d, v) ∧ (getStream (ecc.foldl (rowFind p (dTag d)) v) p 3).exec = none) ∧
    (∃ (s : State) (p : PartId) (op : Nat) (_ecc : List EccFind) (v : State) (_f : Bytes → State → State), takeCmd p 3 op s = (none, v)) :=
    ⟨⟨workSt 3 (mkDesc 0x4001 [(24,1,0),(25,1,1),(26,2,6),(28,2,0xFFFF)]), 0, [], mkDesc 0x4001 [(24,1,0),(25,1,1),(26,2,6),(28,2,0xFFFF)], _, (6, mkTd 28672 1 0 1 64 8 128), none, _, seqTakes _ 0x4001 _ (by decide) (by decide), okOf (by decide), okOf (by decide), rfl, by decide⟩,
    ⟨workSt 3 (mkDesc 0x4002 [(24,1,0),(25,1,1),(26,2,6),(28,2,0xFFFF)]), 0, [], mkDesc 0x4002 [(24,1,0),(25,1,1),(26,2,6),(28,2,0xFFFF)], _, (6, mkTd 28672 1 0 1 64 8 128), none, seqTakes _ 0x4002 _ (by decide) (by decide), okOf (by decide), okOf (by decide), by decide⟩,
    ⟨workSt 3 (mkDesc 0x4003 [(24,1,0)]), 0, mkDesc 0x4003 [(24,1,0)], _, seqTakes _ 0x4003 _ (by decide) (by decide)⟩,
    ⟨State.reset, {}, 0, 0, by decide⟩,
    ⟨workSt 3 (mkDesc 0x4004 [(24,1,0x40),(25,1,0),(26,1,1),(27,1,1)]), 0, [], mkDesc 0x4004 [(24,1,0x40),(25,1,0),(26,1,1),(27,1,1)], _, seqTakes _ 0x4004 _ (by decide) (by decide)⟩,
    ⟨workSt 3 (mkDesc 0x4005 [(24,1,0x40),(25,1,0x40),(26,1,0),(27,1,1)]), 0, [], mkDesc 0x4005 [(24,1,0x40),(25,1,0x40),(26,1,0),(27,1,1)], _, seqTakes _ 0x4005 _ (by decide) (by decide), by decide⟩,
    ⟨workSt 3 (mkDesc 0x4006 [(24,1,0),(25,1,1),(26,1,2),(27,1,1)]), 0, [], mkDesc 0x4006 [(24,1,0),(25,1,1),(26,1,2),(27,1,1)], _, seqTakes _ 0x4006 _ (by decide) (by decide), by decide⟩,
    ⟨workSt 3 (mkDesc 0x4007 [(24,1,0x40),(25,1,0x40),(26,2,3),(36,1,1)]), 0, [], mkDesc 0x4007 [(24,1,0x40),(25,1,0x40),(26,2,3),(36,1,1)], _, (3, mkTd 16384 1 3 0 64 0 0), seqTakes _ 0x4007 _ (by decide) (by decide), by decide, okOf (by decide), by decide⟩,
    ⟨workSt 3 (mkDesc 0x4008 [(24,1,0),(25,1,0x40),(26,1,1)]), 0, [], mkDesc 0x4008 [(24,1,0),(25,1,0x40),(26,1,1)], _, seqTakes _ 0x4008 _ (by decide) (by decide)⟩,
    ⟨workSt 3 (mkDesc 0x4010 [(24,2,0),(26,2,0xFFFF),(28,2,0),(30,2,0),(32,2,0),(34,2,0xFFFF),(38,2,1)]), 0, [], mkDesc 0x4010 [(24,2,0),(26,2,0xFFFF),(28,2,0),(30,2,0),(32,2,0),(34,2,0xFFFF),(38,2,1)], _, workModel 0, (0, mkTd 0 1 0 1 4 8 8), (0, mkTd 0 1 0 1 4 8 8), none, none, _, _, _, by decide, seqTakes _ 0x4010 _ (by decide) (by decide), by decide, rfl, by decide, okOf (by decide), okOf (by decide), okOf (by decide), okOf (by decide), rfl, rfl, by decide⟩,
    ⟨workSt 3 (mkDesc 0x4003 [(24,1,0)]), 0, 0x4003, [.control], mkDesc 0x4003 [(24,1,0)], _, fun _ s => s, taken 3 _ 0x4003 _ (by decide), by decide⟩,
    ⟨portSt, 0, 0x4003, [], _, fun _ s => s, Prod.ext (by decide) rfl⟩⟩

/-- The hypotheses of CombineCommands can be met. -/
theorem witness_CombineCommands :
    (∃ (s : State) (p : PartId) (d : Bytes) (u : State) (m : Model) (rows td ix : Nat × Bytes), takeCmd p 4 0x5001 s = (some d, u) ∧ jobModel (getPart u p) = some m ∧ useTd u p d 24 false (fun t => tdType t == 0 && tdRank t == 1 && tdDim t 0 == m.dmodel && tdSpace t != 3) = .ok rows ∧ useTd u p d 26 false (isClauseList 1) = .ok td ∧ useTd u p d 28 false (fun t => isIndex t && tdSpace t != 3) = .ok ix ∧ (eachUntil (accumRow p d m rows td ix) (List.range (d16 d 36)) u).2 = none) ∧
    (∃ (s : State) (p : PartId) (d : Bytes) (u : State) (is : List Nat), takeCmd p 4 0x5002 s = (some d, u) ∧ is = (List.range (d16 d 26)).map (· + relValue (getStream u p 4) (d8 d 28) (d16 d 24)) ∧ (∀ i ∈ is, slotFull (getSlot u p i) = true)) :=
    ⟨⟨workSt 4 (mkDesc 0x5001 [(24,2,0),(26,2,2),(28,2,1),(36,2,1)]), 0, mkDesc 0x5001 [(24,2,0),(26,2,2),(28,2,1),(36,2,1)], (takeCmd 0 4 0x5001 (workSt 4 (mkDesc 0x5001 [(24,2,0),(26,2,2),(28,2,1),(36,2,1)]))).2, workModel 0, (0, mkTd 0 1 0 1 4 8 8), (2, mkTd 8192 1 5 1 256 4 256), (1, mkTd 4096 1 4 0 16 0 0), ⟨taken 4 _ 0x5001 _ (by decide), by decide, okOf (by decide), okOf (by decide), okOf (by decide), by decide⟩⟩,
    ⟨finSt, 0, mkDesc 0x5002 [(26,2,1)], (takeCmd 0 4 0x5002 finSt).2, [0], ⟨taken 4 _ _ _ (by decide), by decide, by decide⟩⟩⟩

/-- The hypotheses of CollectiveCommands can be met. -/
theorem witness_CollectiveCommands :
    (∃ (s : State) (p : PartId) (d : Bytes) (u : State) (td : Nat × Bytes) (l : List DevId), takeCmd p 5 0x6001 s = (some d, u) ∧ (getPart u p).job.replayed = false ∧ useTd u p d 26 false isIndex = .ok td ∧ d32 d 28 ≤ tdElems td.2 ∧ memberList u p td (d32 d 28) = .ok l) ∧
    (∃ (s : State) (p : PartId) (d : Bytes) (u : State) (k : Comm), takeCmd p 5 0x6002 s = (some d, u) ∧ getComm u (d8 d 24) = some k ∧ k.part = p ∧ k.state ≠ .creating ∧ (getPart u p).job.replayed = false ∧ stepUses u p (d8 d 24) = false) ∧
    (∃ (s : State) (p : PartId) (d : Bytes) (u : State) (k : Comm) (r : ColRun), takeCmd p 5 0x6010 s = (some d, u) ∧ getComm u (d8 d 24) = some k ∧ k.part = p ∧ k.state = .active ∧ (getPart u p).job.replayed = false ∧ colOperands u p d k 0 = .ok r ∧ (r.src = [] ∨ poisonFault u p r.src = none)) ∧
    (∃ (s : State) (p : PartId) (d : Bytes) (u : State) (k : Comm) (r : ColRun), takeCmd p 5 0x6011 s = (some d, u) ∧ getComm u (d8 d 24) = some k ∧ k.part = p ∧ k.state = .active ∧ (getPart u p).job.replayed = false ∧ colOperands u p d k 1 = .ok r ∧ (r.src = [] ∨ poisonFault u p r.src = none)) ∧
    (∃ (s : State) (p : PartId) (d : Bytes) (u : State) (k : Comm) (r : ColRun), takeCmd p 5 0x6012 s = (some d, u) ∧ getComm u (d8 d 24) = some k ∧ k.part = p ∧ k.state = .active ∧ (getPart u p).job.replayed = false ∧ colOperands u p d k 2 = .ok r ∧ (r.src = [] ∨ poisonFault u p r.src = none)) ∧
    (∃ (s : State) (p : PartId) (d : Bytes) (u : State) (k : Comm) (r : ColRun), takeCmd p 5 0x6013 s = (some d, u) ∧ getComm u (d8 d 24) = some k ∧ k.part = p ∧ k.state = .active ∧ (getPart u p).job.replayed = false ∧ colOperands u p d k 3 = .ok r ∧ (r.src = [] ∨ poisonFault u p r.src = none)) ∧
    (∃ (s : State) (p : PartId) (d : Bytes) (u : State) (k : Comm) (r : ColRun), takeCmd p 5 0x6014 s = (some d, u) ∧ getComm u (d8 d 24) = some k ∧ k.part = p ∧ k.state = .active ∧ (getPart u p).job.replayed = false ∧ colOperands u p d k 4 = .ok r ∧ (r.src = [] ∨ poisonFault u p r.src = none)) ∧
    (∃ (s : State) (p : PartId) (d : Bytes) (u : State) (k : Comm) (r : ColRun), takeCmd p 5 0x6015 s = (some d, u) ∧ getComm u (d8 d 24) = some k ∧ k.part = p ∧ k.state = .active ∧ (getPart u p).job.replayed = false ∧ colOperands u p d k 5 = .ok r ∧ (r.src = [] ∨ poisonFault u p r.src = none)) ∧
    (∃ (s : State) (p : PartId) (d : Bytes) (u : State) (k : Comm) (r : ColRun), takeCmd p 5 0x6016 s = (some d, u) ∧ getComm u (d8 d 24) = some k ∧ k.part = p ∧ k.state = .active ∧ (getPart u p).job.replayed = false ∧ colOperands u p d k 6 = .ok r ∧ (r.src = [] ∨ poisonFault u p r.src = none)) ∧
    (∃ (s : State) (p : PartId) (d : Bytes) (u : State), takeCmd p 5 0x6002 s = (some d, u) ∧ (getComm u (d8 d 24) = none ∨ stepUses u p (d8 d 24) = true ∨ ∃ k, getComm u (d8 d 24) = some k ∧ (k.part ≠ p ∨ k.state = .creating))) ∧
    (∃ (s : State) (p : PartId) (d : Bytes) (u : State) (k : Comm) (c : Instr) (n : Nat), (c, n) ∈ [(.colAllreduce p, 0x6010), (.colAllgather p, 0x6011), (.colReducescatter p, 0x6012), (.colBroadcast p, 0x6013),
  (.colBarrier p, 0x6014), (.colAlltoallv p, 0x6015), (.colBallotMerge p, 0x6016)] ∧ takeCmd p 5 n s = (some d, u) ∧ getComm u (d8 d 24) = some k ∧ k.part = p ∧ k.state = .aborted ∧ (getPart u p).job.replayed = false) :=
    ⟨⟨workSt 5 (mkDesc 0x6001 [(26,2,1),(28,4,1)]), 0, mkDesc 0x6001 [(26,2,1),(28,4,1)], (takeCmd 0 5 0x6001 (workSt 5 (mkDesc 0x6001 [(26,2,1),(28,4,1)]))).2, (1, mkTd 4096 1 4 0 16 0 0), [0], ⟨taken 5 _ 0x6001 _ (by decide), by decide, okOf (by decide), by decide, okOf (by decide)⟩⟩,
    ⟨workCol 5 (mkDesc 0x6002 [(24,1,1)]) .active, 0, mkDesc 0x6002 [(24,1,1)], (takeCmd 0 5 0x6002 (workCol 5 (mkDesc 0x6002 [(24,1,1)]) .active)).2, { state := .active, members := [0] }, ⟨taken 5 _ 0x6002 _ (by decide), by decide, by decide, by decide, by decide, by decide⟩⟩,
    ⟨workCol 5 (mkDesc 0x6010 [(24,1,1),(26,2,0),(28,2,0)]) .active, 0, mkDesc 0x6010 [(24,1,1),(26,2,0),(28,2,0)], (takeCmd 0 5 0x6010 (workCol 5 (mkDesc 0x6010 [(24,1,1),(26,2,0),(28,2,0)]) .active)).2, { state := .active, members := [0] }, _, ⟨taken 5 _ 0x6010 _ (by decide), by decide, by decide, by decide, by decide, rfl, by decide⟩⟩,
    ⟨workCol 5 (mkDesc 0x6011 [(24,1,1),(26,2,0),(28,2,0)]) .active, 0, mkDesc 0x6011 [(24,1,1),(26,2,0),(28,2,0)], (takeCmd 0 5 0x6011 (workCol 5 (mkDesc 0x6011 [(24,1,1),(26,2,0),(28,2,0)]) .active)).2, { state := .active, members := [0] }, _, ⟨taken 5 _ 0x6011 _ (by decide), by decide, by decide, by decide, by decide, rfl, by decide⟩⟩,
    ⟨workCol 5 (mkDesc 0x6012 [(24,1,1),(26,2,0),(28,2,0)]) .active, 0, mkDesc 0x6012 [(24,1,1),(26,2,0),(28,2,0)], (takeCmd 0 5 0x6012 (workCol 5 (mkDesc 0x6012 [(24,1,1),(26,2,0),(28,2,0)]) .active)).2, { state := .active, members := [0] }, _, ⟨taken 5 _ 0x6012 _ (by decide), by decide, by decide, by decide, by decide, rfl, by decide⟩⟩,
    ⟨workCol 5 (mkDesc 0x6013 [(24,1,1),(26,2,0),(28,2,0)]) .active, 0, mkDesc 0x6013 [(24,1,1),(26,2,0),(28,2,0)], (takeCmd 0 5 0x6013 (workCol 5 (mkDesc 0x6013 [(24,1,1),(26,2,0),(28,2,0)]) .active)).2, { state := .active, members := [0] }, _, ⟨taken 5 _ 0x6013 _ (by decide), by decide, by decide, by decide, by decide, rfl, by decide⟩⟩,
    ⟨workCol 5 (mkDesc 0x6014 [(24,1,1)]) .active, 0, mkDesc 0x6014 [(24,1,1)], (takeCmd 0 5 0x6014 (workCol 5 (mkDesc 0x6014 [(24,1,1)]) .active)).2, { state := .active, members := [0] }, _, ⟨taken 5 _ 0x6014 _ (by decide), by decide, by decide, by decide, by decide, rfl, by decide⟩⟩,
    ⟨workCol 5 (mkDesc 0x6015 [(24,1,1),(26,2,0),(28,2,0),(30,2,8),(32,2,8)]) .active, 0, mkDesc 0x6015 [(24,1,1),(26,2,0),(28,2,0),(30,2,8),(32,2,8)], (takeCmd 0 5 0x6015 (workCol 5 (mkDesc 0x6015 [(24,1,1),(26,2,0),(28,2,0),(30,2,8),(32,2,8)]) .active)).2, { state := .active, members := [0] }, _, ⟨taken 5 _ 0x6015 _ (by decide), by decide, by decide, by decide, by decide, rfl, by decide⟩⟩,
    ⟨workCol 5 (mkDesc 0x6016 [(24,1,1),(26,2,4),(28,2,4),(36,2,1)]) .active, 0, mkDesc 0x6016 [(24,1,1),(26,2,4),(28,2,4),(36,2,1)], (takeCmd 0 5 0x6016 (workCol 5 (mkDesc 0x6016 [(24,1,1),(26,2,4),(28,2,4),(36,2,1)]) .active)).2, { state := .active, members := [0] }, _, ⟨taken 5 _ 0x6016 _ (by decide), by decide, by decide, by decide, by decide, rfl, by decide⟩⟩,
    ⟨workCol 5 (mkDesc 0x6002 [(24,1,9)]) .active, 0, mkDesc 0x6002 [(24,1,9)], (takeCmd 0 5 0x6002 (workCol 5 (mkDesc 0x6002 [(24,1,9)]) .active)).2, ⟨taken 5 _ 0x6002 _ (by decide), .inl (by decide)⟩⟩,
    ⟨workCol 5 (mkDesc 0x6014 [(24,1,1)]) .aborted, 0, mkDesc 0x6014 [(24,1,1)], (takeCmd 0 5 0x6014 (workCol 5 (mkDesc 0x6014 [(24,1,1)]) .aborted)).2, { state := .aborted, members := [0] }, .colBarrier 0, 0x6014, ⟨by decide, taken 5 _ 0x6014 _ (by decide), by decide, by decide, by decide, by decide⟩⟩⟩

/-- The hypotheses of TransferCommands can be met. -/
theorem witness_TransferCommands :
    (∃ (s : State) (p : PartId) (d : Bytes) (u : State) (m : Model), (getStream s p 6).exec = none ∧ takeCmd p 6 0x7001 s = (some d, u) ∧ jobModel (getPart u p) = some m ∧ (getStream (takeSlots p d m (rangeBase u p 6 d) ((List.range (d16 d 26)).drop (xfrAt u p)) u) p 6).exec ≠ none) ∧
    (∃ (s : State) (p : PartId) (e : Exec) (m : Model), (getStream s p 6).exec = some e ∧ e.phase = .running ∧ dOp e.desc = 0x7001 ∧ jobModel (getPart s p) = some m ∧ e.at_ = d16 e.desc 26 ∧ (List.range (d16 e.desc 26)).any (fun i => (getSlot s p (rangeBase s p 6 e.desc + i)).awaited != 0) = false ∧ (getPart s p).job.digest = false) ∧
    (∃ (s : State) (p : PartId) (e : Exec), (getStream s p 6).exec = some e ∧ e.phase = .running ∧ dOp e.desc = 0x7002 ∧ e.at_ = 1 ∧ heldRecord p s = s ∧ writesWait s p .output = false ∧ (getPart s p).job.stillAir = false ∧ stages (setXfrAt p 3 s) p = false ∧ hostReady (setXfrAt p 3 s) p = true) ∧
    (∃ (s : State) (p : PartId) (e : Exec), (getStream s p 6).exec = some e ∧ e.phase = .running ∧ dOp e.desc = 0x7002 ∧ e.at_ = 7 ∧ heldRecord p s = s ∧ writesWait s p .record = false) ∧
    (∃ (s : State) (p : PartId) (d : Bytes), (outSlots s p d).all (fun r => r.rounded) = true) ∧
    (∃ (s : State) (p : PartId) (d : Bytes) (u : State) (td dst : Nat × Bytes), (getStream s p 6).exec = none ∧ takeCmd p 6 0x7003 s = (some d, u) ∧ 2 ≤ d8 d 26 ∧ useTd u p d 24 false copyable = .ok td ∧ useTd u p d 28 true (fun t => copyable t && tdType t == tdType td.2 && tdElems t == tdElems td.2) = .ok dst) ∧
    (∃ (s : State) (p : PartId) (d : Bytes) (u : State) (td : Nat × Bytes), (getStream s p 6).exec = none ∧ takeCmd p 6 0x7003 s = (some d, u) ∧ d8 d 26 = 0 ∧ useTd u p d 24 true copyable = .ok td) ∧
    (∃ (s : State) (p : PartId) (e : Exec), (getStream s p 6).exec = some e ∧ e.phase = .running ∧ dOp e.desc = 0x7003 ∧ d8 e.desc 26 = 1 ∧ writesWait s p .copyOut = false) ∧
    (∃ (s : State) (p : PartId) (d : Bytes) (u : State), (getStream s p 6).exec = none ∧ takeCmd p 6 0x7010 s = (some d, u) ∧ (getPart u p).job.model = 0) ∧
    (∃ (s : State) (p : PartId) (e : Exec) (x : Load), (getStream s p 6).exec = some e ∧ e.phase = .running ∧ dOp e.desc = 0x7010 ∧ (getPart s p).load = some x ∧ x.stage = 4 ∧ hostReady s p = true) ∧
    (∃ (s : State) (p : PartId) (_d : Bytes) (x : Load), (getPart s p).load = some x ∧ x.stage = 5 ∧ writesWait s p .report = false ∧ x.code = 0) ∧
    (∃ (s : State) (p : PartId) (d : Bytes) (u : State) (m : Model), (getStream s p 6).exec = none ∧ takeCmd p 6 0x7011 s = (some d, u) ∧ modelOf (getPart u p) (d32 d 28) = some m ∧ m.handle ≠ (getPart u p).job.model ∧ placedHere u p m = false) ∧
    (∃ (s : State) (p : PartId) (d : Bytes) (u : State) (m : Model) (ds : List DevId) (td : Nat × Bytes), takeCmd p 2 0x8001 s = (some d, u) ∧ jobModel (getPart u p) = some m ∧ conjParts u p m (d8 d 36) = some ds ∧ useTd u p d 32 true (isClauseList (d16 d 26)) = .ok td) :=
    ⟨⟨workSt 6 (mkDesc 0x7001 [(26,2,1),(40,4,8)]), 0, mkDesc 0x7001 [(26,2,1),(40,4,8)], (takeCmd 0 6 0x7001 (workSt 6 (mkDesc 0x7001 [(26,2,1),(40,4,8)]))).2, workModel 0, ⟨by decide, taken 6 _ 0x7001 _ (by decide), by decide, by decide⟩⟩,
    ⟨xrun 0x7001 [(26,2,1),(40,4,8)] 1, 0, { desc := mkDesc 0x7001 [(26,2,1),(40,4,8)], phase := .running, at_ := 1 }, workModel 0, by decide⟩,
    ⟨xrun 0x7002 [(26,2,1),(40,4,8),(48,8,64)] 1, 0, { desc := mkDesc 0x7002 [(26,2,1),(40,4,8),(48,8,64)], phase := .running, at_ := 1 }, by decide⟩,
    ⟨xrun 0x7002 [] 7, 0, { desc := mkDesc 0x7002 [], phase := .running, at_ := 7 }, by decide⟩,
    ⟨finSt, 0, mkDesc 0x7002 [(26,2,1)], by decide⟩,
    ⟨workSt 6 (mkDesc 0x7003 [(24,2,0),(26,1,2),(28,2,0)]), 0, mkDesc 0x7003 [(24,2,0),(26,1,2),(28,2,0)], (takeCmd 0 6 0x7003 (workSt 6 (mkDesc 0x7003 [(24,2,0),(26,1,2),(28,2,0)]))).2, (0, mkTd 0 1 0 1 4 8 8), (0, mkTd 0 1 0 1 4 8 8), ⟨by decide, taken 6 _ 0x7003 _ (by decide), by decide, okOf (by decide), okOf (by decide)⟩⟩,
    ⟨workSt 6 (mkDesc 0x7003 [(24,2,0),(26,1,0)]), 0, mkDesc 0x7003 [(24,2,0),(26,1,0)], (takeCmd 0 6 0x7003 (workSt 6 (mkDesc 0x7003 [(24,2,0),(26,1,0)]))).2, (0, mkTd 0 1 0 1 4 8 8), ⟨by decide, taken 6 _ 0x7003 _ (by decide), by decide, okOf (by decide)⟩⟩,
    ⟨xrun 0x7003 [(24,2,0),(26,1,1)] 0, 0, { desc := mkDesc 0x7003 [(24,2,0),(26,1,1)], phase := .running, at_ := 0 }, by decide⟩,
    ⟨loadSt, 0, mkDesc 0x7010 [(40,8,64)], (takeCmd 0 6 0x7010 (loadSt)).2, ⟨by decide, taken 6 _ 0x7010 _ (by decide), by decide⟩⟩,
    ⟨loadedSt, 0, { desc := mkDesc 0x7010 [(40,8,64)], phase := .running }, { stage := 4 }, by decide⟩,
    ⟨updPart portSt 0 (fun q => { q with load := some { stage := 5 } }), 0, [], { stage := 5 }, by decide⟩,
    ⟨unloadSt, 0, mkDesc 0x7011 [(28,4,1)], (takeCmd 0 6 0x7011 (unloadSt)).2, workModel 0, ⟨by decide, taken 6 _ 0x7011 _ (by decide), by decide, by decide, by decide⟩⟩,
    ⟨workSt 2 (mkDesc 0x8001 [(26,2,1),(32,2,2),(36,1,0xFF)]), 0, mkDesc 0x8001 [(26,2,1),(32,2,2),(36,1,0xFF)], (takeCmd 0 2 0x8001 (workSt 2 (mkDesc 0x8001 [(26,2,1),(32,2,2),(36,1,0xFF)]))).2, workModel 0, [0], (2, mkTd 8192 1 5 1 256 4 256), ⟨taken 2 _ 0x8001 _ (by decide), by decide, by decide, okOf (by decide)⟩⟩⟩

/-- The hypotheses of RingAndHostAdds can be met. -/
theorem witness_RingAndHostAdds :
    (∃ (s : State) (r : Requester) (st : StreamId) (v : Nat) (p : PartId) (u : State), hostPart r (0x0003001C + 64 * st.val) s = (some p, u) ∧ (2 ^ 32 + v - (getStream u p st).ringHead) % 2 ^ 32 ≤ 2 ^ (getStream u p st).ringLog2) ∧
    (∃ (s : State) (r : Requester) (st : StreamId) (v : Nat) (p : PartId) (u : State), hostPart r (0x0003001C + 64 * st.val) s = (some p, u) ∧ 2 ^ (getStream u p st).ringLog2 < (2 ^ 32 + v - (getStream u p st).ringHead) % 2 ^ 32) ∧
    (∃ (s : State) (r : Requester) (st : StreamId) (_v : Nat) (p : PartId) (u : State), hostPart r (0x00030018 + 64 * st.val) s = (some p, u) ∧ (getStream u p st).ringEnable = false) ∧
    (∃ (s : State) (p : PartId) (st : StreamId) (n : Nat) (b : Bytes) (l : List (Nat × Option Bytes)), (getStream s p st).fetches = (n, some b) :: l ∧ 64 ≤ b.length) ∧
    (∃ (s : State) (r : Requester) (i _v : Nat) (p : PartId) (u : State), hostPart r (0x00040004 + 8 * i) s = (some p, u) ∧ i < (partCfg u p).sycCount ∧ (getPart u p).halted = false) ∧
    (∃ (s : State) (p : PartId) (i v _k _g : Nat), sycGet s p i + v < 2 ^ 32) :=
    ⟨⟨portSt, .hp 0, 0, 1, 0, portSt, by decide⟩,
    ⟨portSt, .hp 0, 0, 1000, 0, portSt, by decide⟩,
    ⟨portSt, .hp 0, 0, 1, 0, portSt, by decide⟩,
    ⟨updStream portSt 0 0 (fun x => { x with fetches := [(0, some (List.replicate 64 0))] }), 0, 0, 0, List.replicate 64 0, [], by decide⟩,
    ⟨portSt, .hp 0, 0, 1, 0, portSt, by decide⟩,
    ⟨State.reset, 0, 0, 1, 7, 0, by decide⟩⟩

/-- The hypotheses of PassesAndPredictions can be met. -/
theorem witness_PassesAndPredictions :
    (∃ (s : State) (p : PartId) (x : Nat) (m : Model), (getPart s p).pass = none ∧ jobModel (getPart s p) = some m ∧ (readyRows s p x).isEmpty = false ∧ residentExpert s p m (headLayer (readyRows s p x)) x = true ∧ hasCredit s p 0 = true) ∧
    (∃ (s : State) (p : PartId) (x : Nat) (m : Model), (getPart s p).pass = none ∧ jobModel (getPart s p) = some m ∧ (readyRows s p x).isEmpty = false ∧ residentExpert s p m (headLayer (readyRows s p x)) x = true ∧ hasCredit s p 0 = false) ∧
    (∃ (_s : State) (_p : PartId) (_m : Model) (_x : Nat) (l : List RowRec) (h : RowRec) (_b : Bool), l.head? = some h) ∧
    (∃ (s : State) (p : PartId) (_ecc : List EccFind) (x : Pass), (getPart s p).pass = some x ∧ x.alone = false ∧ hbmPaid s p = true) ∧
    (∃ (s : State) (p : PartId) (_ecc : List EccFind) (x : Pass), (getPart s p).pass = some x ∧ x.alone = false ∧ hbmPaid s p = false) ∧
    (∃ (s : State) (p : PartId) (x : Pass) (m : Model), (getPart s p).pass = some x ∧ modelOf (getPart s p) x.model = some m) ∧
    (∃ (s : State) (p : PartId) (_m : Model) (_bad : Bool) (t : Nat) (r : RowRec), (getPart s p).rows.find? (fun r => r.tag == t && r.stage == .computing) = some r ∧ r.spec = true) ∧
    (∃ (s : State) (p : PartId) (x : Nat) (m : Model) (l : List RowRec) (h : RowRec), (getPart s p).pass = none ∧ serveModel s p h.layer x = some m ∧ residentExpert s p m h.layer x = true ∧ ((getPart s p).rows.filter (fun r => r.expert == x && r.reissue && r.stage == .stored && (stepOf s p r).isNone)).head? = some h ∧ l = ((getPart s p).rows.filter (fun r => r.expert == x && r.reissue && r.stage == .stored && (stepOf s p r).isNone)).filter (fun r => r.layer == h.layer) ∧ (64 ≤ l.length ∨ ∀ r ∈ l, r.dt + 2000 ≤ dtNow s) ∧ hasCredit s p 0 = true) ∧
    (∃ (s : State) (p : PartId) (pos : Nat) (e : Exec) (m : Model) (k : Conj), (getStream s p 0).exec = some e ∧ jobModel (getPart s p) = some m ∧ specStep s p (d16 e.desc 34) = some k ∧ shadowFresh s p e k pos = true ∧ (getSlot s p (e.base + pos)).rowPoison = false ∧ shadowPoisoned s p m (d16 e.desc 34) = false) ∧
    (∃ (s : State) (p : PartId) (pos : Nat) (e : Exec) (m : Model) (k : Conj), (getStream s p 0).exec = some e ∧ jobModel (getPart s p) = some m ∧ specStep s p (d16 e.desc 34) = some k ∧ shadowFresh s p e k pos = true ∧ (getSlot s p (e.base + pos)).rowPoison = false ∧ shadowPoisoned s p m (d16 e.desc 34) = true) ∧
    (∃ (s : State) (p : PartId) (k : Conj) (x : Comm), (getPart s p).conj = some k ∧ k.closed = true ∧ passOf s p k = false ∧ stepRows s p k = [] ∧ getComm s k.comm = some x) ∧
    (∃ (s : State) (p : PartId) (k : Conj), (getPart s p).served = some k ∧ k.served.getD 0 ≤ dtNow s) :=
    ⟨⟨passSt, 0, 0, workModel 0, by decide⟩,
    ⟨{ passSt with cfg := dryCfg }, 0, 0, workModel 0, by decide⟩,
    ⟨State.reset, 0, {}, 0, [{}], {}, false, by decide⟩,
    ⟨passOnSt, 0, [], { tags := [0] }, by decide⟩,
    ⟨updPart { passOnSt with cfg := dryCfg } 0 (fun q => { q with regul := .replicate 4 { credit := -1000 } }), 0, [], { tags := [0] }, by decide⟩,
    ⟨passModel (workSt 0 []) { model := 1, tags := [0] }, 0, { model := 1, tags := [0] }, workModel 0, by decide⟩,
    ⟨updPart portSt 0 (fun q => { q with rows := [{ spec := true, stage := .computing }] }), 0, {}, false, 0, { spec := true, stage := .computing }, by decide⟩,
    ⟨{ reissueSt with time := { dt := 2000 } }, 0, 0, workModel 0, [{ expert := 0, reissue := true }], { expert := 0, reissue := true }, by decide⟩,
    ⟨shadowSt, 0, 0, selExec, shadowModel, { feedEn := true, count := 4 }, by decide⟩,
    ⟨{ shadowSt with hbmPoison := [(384, true)] }, 0, 0, selExec, shadowModel, { feedEn := true, count := 4 }, by decide⟩,
    ⟨probeSt, 0, { closed := true, comm := 1 }, { state := .active, members := [0] }, by decide⟩,
    ⟨updPart portSt 0 (fun q => { q with served := some {} }), 0, {}, by decide⟩⟩

/-- The hypotheses of PacketsArriveInFlowOrder can be met. -/
theorem witness_PacketsArriveInFlowOrder :
    (∃ (s : State) (_src : DevId) (_path : Path) (b : Bytes), s.boot.state = .ready ∧ (rawPacket b).kind = 2) ∧
    (∃ (s : State) (_src : DevId) (_path : Path) (b : Bytes), s.boot.state = .ready ∧ (rawPacket b).kind = 3) ∧
    (∃ (s : State) (_src : DevId) (_path : Path) (b : Bytes), s.boot.state = .ready ∧ (rawPacket b).kind = 4) ∧
    (∃ (s : State) (_src : DevId) (_path : Path) (b : Bytes), s.boot.state = .ready ∧ (rawPacket b).kind = 5) ∧
    (∃ (s : State) (_src : DevId) (_path : Path) (b : Bytes), s.boot.state = .ready ∧ (rawPacket b).kind = 6) ∧
    (∃ (s : State) (_src : DevId) (_path : Path) (b : Bytes), (quietRow s).boot.state = .ready ∧ ((rawPacket b).kind = 0 ∨ (rawPacket b).kind = 1 ∨ 6 < (rawPacket b).kind)) ∧
    (∃ (s : State) (_src : DevId) (path : Path) (b : Bytes) (k : Packet) (u : State), u = arriveMeets path (flowPartOf false b) s ∧ parsePacket b = some k ∧ k.kind = 6) ∧
    (∃ (s : State) (src : DevId) (path : Path) (b : Bytes) (k : Packet) (u : State), u = arriveMeets path (flowPartOf false b) s ∧ parsePacket b = some k ∧ k.kind ≠ 6 ∧ seqSeen u src (flowPartOf false b) (flowSeqOf false b) = false) ∧
    (∃ (s : State) (src : DevId) (path : Path) (b : Bytes) (k : Packet) (u : State), u = arriveMeets path (flowPartOf false b) s ∧ parsePacket b = some k ∧ k.kind ≠ 6 ∧ seqSeen u src (flowPartOf false b) (flowSeqOf false b) = true) ∧
    (∃ (s : State) (_src : DevId) (path : Path) (b : Bytes) (u : State), u = arriveMeets path (flowPartOf false b) s ∧ parsePacket b = none ∧ (rawPacket b).kind ≠ 6) ∧
    (∃ (_s : State) (_src : DevId) (_p : PartId) (b : Bytes), (rawPacket b).kind ≠ 2) ∧
    (∃ (s : State) (d : DevId) (p : PartId) (_n : Nat), (getFlow s d p.val).rxHeld.find? (fun e => e.seq == (getFlow s d p.val).rxNext) = none) ∧
    (∃ (s : State) (d : DevId) (p : PartId) (_n : Nat) (e : HeldPkt) (t : State), (getFlow s d p.val).rxHeld.find? (fun e => e.seq == (getFlow s d p.val).rxNext) = some e ∧ t = updFlow d p.val (fun f => { f with rxNext := wrapAdd 32 f.rxNext 1, rxHeld := f.rxHeld.filter (fun x => x.seq != e.seq) }) s) ∧
    (∃ (s : State) (src : DevId) (_path : Path) (dt : Nat) (_p : PartId) (b : Bytes) (k : Packet) (u : State), parsePacket b = some k ∧ (1 ≤ k.kind ∧ k.kind ≤ 6) ∧ judgeEpoch src k.cfgEpoch dt s = (false, u)) ∧
    (∃ (s : State) (src : DevId) (_path : Path) (dt : Nat) (_p : PartId) (b : Bytes) (k : Packet) (u : State), parsePacket b = some k ∧ judgeEpoch src k.cfgEpoch dt s = (true, u) ∧ (k.kind = 2 ∨ k.kind = 5)) ∧
    (∃ (s : State) (p : PartId) (k : Packet), (tagDev k.tag = ownId s ∧ staleEpoch (getPart s p).epoch k.partEpoch = true)) ∧
    (∃ (s : State) (p : PartId) (k : Packet), (tagDev k.tag ≠ ownId s ∨ staleEpoch (getPart s p).epoch k.partEpoch = false)) ∧
    (∃ (s : State) (src : DevId) (_path : Path) (dt : Nat) (p : PartId) (b : Bytes) (k : Packet) (u : State), parsePacket b = some k ∧ judgeEpoch src k.cfgEpoch dt s = (true, u) ∧ (k.kind = 1 ∨ k.kind = 3 ∨ k.kind = 4) ∧ judgePart src p k.partEpoch u = none) ∧
    (∃ (s : State) (src : DevId) (_path : Path) (dt : Nat) (p : PartId) (b : Bytes) (k : Packet) (u v : State), parsePacket b = some k ∧ judgeEpoch src k.cfgEpoch dt s = (true, u) ∧ k.kind = 1 ∧ judgePart src p k.partEpoch u = some v) ∧
    (∃ (s : State) (src : DevId) (_path : Path) (dt : Nat) (p : PartId) (b : Bytes) (k : Packet) (u v : State), parsePacket b = some k ∧ judgeEpoch src k.cfgEpoch dt s = (true, u) ∧ k.kind = 3 ∧ judgePart src p k.partEpoch u = some v) ∧
    (∃ (s : State) (src : DevId) (_path : Path) (dt : Nat) (p : PartId) (b : Bytes) (k : Packet) (u v : State), parsePacket b = some k ∧ judgeEpoch src k.cfgEpoch dt s = (true, u) ∧ k.kind = 4 ∧ judgePart src p k.partEpoch u = some v) ∧
    (∃ (s : State) (_src : DevId) (_path : Path) (_dt : Nat) (p : PartId) (_b : Bytes) (k : Packet) (x : Cluster), s.clusters.toList[k.cluster]? = some x ∧ x.state ≠ .isolated ∧ x.state ≠ .off ∧ tagSpec k.tag = false ∧ rowWithheld s p = false) ∧
    (∃ (s : State) (_src : DevId) (_path : Path) (_dt : Nat) (p : PartId) (_b : Bytes) (k : Packet) (x : Cluster), s.clusters.toList[k.cluster]? = some x ∧ x.state ≠ .isolated ∧ x.state ≠ .off ∧ tagSpec k.tag = false ∧ rowWithheld s p = true) :=
    ⟨⟨portSt, 1, .loc, pktBytes 2, by decide⟩,
    ⟨portSt, 1, .loc, pktBytes 3, by decide⟩,
    ⟨portSt, 1, .loc, pktBytes 4, by decide⟩,
    ⟨portSt, 1, .loc, pktBytes 5, by decide⟩,
    ⟨portSt, 1, .loc, pktBytes 6, by decide⟩,
    ⟨portSt, 1, .loc, pktBytes 1, by decide⟩,
    ⟨portSt, 1, .loc, packetBytes (goodPkt 6), goodPkt 6, _, rfl, by decide⟩,
    ⟨portSt, 1, .loc, packetBytes (goodPkt 1), goodPkt 1, _, rfl, by decide⟩,
    ⟨updFlow 1 0 (fun f => { f with rxNext := 1 }) portSt, 1, .loc, packetBytes (goodPkt 1), goodPkt 1, _, rfl, by decide⟩,
    ⟨portSt, 1, .loc, pktBytes 1, _, rfl, by decide⟩,
    ⟨portSt, 1, 0, pktBytes 1, by decide⟩,
    ⟨portSt, 1, 0, 0, by decide⟩,
    ⟨heldSt, 1, 0, 0, { bytes := pktBytes 1 }, _, ⟨by decide, rfl⟩⟩,
    ⟨fencedSt, 1, .loc, 0, 0, packetBytes (goodPkt 1), goodPkt 1, fencedSt, by decide⟩,
    ⟨workSt 0 [], 1, .loc, 0, 0, packetBytes (goodPkt 2), goodPkt 2, workSt 0 [], by decide⟩,
    ⟨updPart portSt 0 (fun q => { q with epoch := 1 }), 0, goodPkt 2, by decide⟩,
    ⟨portSt, 0, goodPkt 2, by decide⟩,
    ⟨oldEpochSt, 1, .loc, 0, 0, packetBytes (goodPkt 1), goodPkt 1, oldEpochSt, by decide⟩,
    ⟨workSt 0 [], 1, .loc, 0, 0, packetBytes (goodPkt 1), goodPkt 1, workSt 0 [], _, ⟨by decide, by rfl, by decide, by rfl⟩⟩,
    ⟨workSt 0 [], 1, .loc, 0, 0, packetBytes (goodPkt 3), goodPkt 3, workSt 0 [], _, ⟨by decide, by rfl, by decide, by rfl⟩⟩,
    ⟨workSt 0 [], 1, .loc, 0, 0, packetBytes (goodPkt 4), goodPkt 4, workSt 0 [], _, ⟨by decide, by rfl, by decide, by rfl⟩⟩,
    ⟨workSt 0 [], 1, .loc, 0, 0, [], goodPkt 1, { state := .on }, by decide⟩,
    ⟨fullSt, 1, .loc, 0, 0, [], goodPkt 1, { state := .on }, by decide⟩⟩

/-- The hypotheses of AContributionCountsOnce can be met. -/
theorem witness_AContributionCountsOnce :
    (∃ (s : State) (p : PartId) (tag e g : Nat) (_y : Option (List Nat)) (_b _h : Bool) (r : Slot), r = getSlot s p (tagSlot tag) ∧ (e ≠ (getPart s p).epoch ∨ r.held = false ∨ r.active = false ∨ r.gen ≠ g ∨ r.epoch ≠ tagEpoch tag ∨ r.layer ≠ tagLayer tag ∨ r.expected ≤ tagRank tag)) ∧
    (∃ (s : State) (p : PartId) (tag e g : Nat) (_y : Option (List Nat)) (_b _h : Bool) (r : Slot), r = getSlot s p (tagSlot tag) ∧ (e = (getPart s p).epoch ∧ r.held = true ∧ r.active = true ∧ r.gen = g ∧ r.epoch = tagEpoch tag ∧ r.layer = tagLayer tag ∧ tagRank tag < r.expected) ∧ bitOf r.seen (tagRank tag) = true) ∧
    (∃ (s : State) (p : PartId) (i : Nat), ((getSlot s p i).rounded = true ∨ (getSlot s p i).active = false ∨ (unseen (getSlot s p i)).isSome = true)) :=
    ⟨⟨workSt 0 [], 0, 0, 0, 0, none, false, false, {}, by decide⟩,
    ⟨slotSt 1, 0, 0, 0, 0, none, false, false, slot1 1, by decide⟩,
    ⟨portSt, 0, 0, by decide⟩⟩

/-- The hypotheses of CollectiveMessages can be met. -/
theorem witness_CollectiveMessages :
    (∃ (s : State) (src : DevId) (_path : Path) (b : Bytes) (ops : Option ColOps), (noteOps src b ops s).boot.state = .ready ∧ (rawPiece b).kind = 1) ∧
    (∃ (s : State) (_src : DevId) (_path : Path) (b : Bytes), s.boot.state = .ready ∧ (rawPiece b).kind = 2) ∧
    (∃ (s : State) (_src : DevId) (_path : Path) (b : Bytes), s.boot.state = .ready ∧ (rawPiece b).kind = 3) ∧
    (∃ (s : State) (_src : DevId) (_path : Path) (b : Bytes), s.boot.state = .ready ∧ (rawPiece b).kind = 4) ∧
    (∃ (s : State) (_src : DevId) (_path : Path) (b : Bytes), s.boot.state = .ready ∧ (rawPiece b).kind = 5) ∧
    (∃ (s : State) (_src : DevId) (_path : Path) (b : Bytes), s.boot.state = .ready ∧ (rawPiece b).kind = 6) ∧
    (∃ (s : State) (_src : DevId) (_path : Path) (b : Bytes), s.boot.state = .ready ∧ (rawPiece b).kind = 7) ∧
    (∃ (s : State) (_src : DevId) (_path : Path) (b : Bytes), s.boot.state = .ready ∧ (rawPiece b).kind = 8) ∧
    (∃ (s : State) (src : DevId) (path : Path) (b : Bytes) (u : State), u = arriveMeets path (flowPartOf true b) s ∧ seqSeen u src (flowPartOf true b) (flowSeqOf true b) = false) ∧
    (∃ (s : State) (src : DevId) (_path : Path) (dt : Nat) (p : PartId) (b : Bytes) (x : Piece) (u v : State), parsePiece b = some x ∧ judgeEpoch src x.cfgEpoch dt s = (true, u) ∧ judgePart src p x.partEpoch u = some v) ∧
    (∃ (s : State) (src : DevId) (_path : Path) (dt : Nat) (p : PartId) (b : Bytes) (x : Piece) (u : State), parsePiece b = some x ∧ judgeEpoch src x.cfgEpoch dt s = (true, u) ∧ judgePart src p x.partEpoch u = none) ∧
    (∃ (s : State) (src : DevId) (path : Path) (_dt : Nat) (_p : PartId) (b : Bytes), parsePiece b = none ∧ (rawPiece b).kind = 1 ∧ pieceFate (leavePool src path b s) (rawPiece b) ≠ .early) ∧
    (∃ (_s : State) (_src : DevId) (_path : Path) (_dt : Nat) (_b : Bytes) (x : Piece), x.kind = 1) ∧
    (∃ (_s : State) (_src : DevId) (_path : Path) (_dt : Nat) (_b : Bytes) (x : Piece), x.kind = 2) ∧
    (∃ (_s : State) (_src : DevId) (_path : Path) (_dt : Nat) (_b : Bytes) (x : Piece), x.kind = 3) ∧
    (∃ (_s : State) (_src : DevId) (_path : Path) (_dt : Nat) (_b : Bytes) (x : Piece), x.kind = 4) ∧
    (∃ (_s : State) (_src : DevId) (_path : Path) (_dt : Nat) (_b : Bytes) (x : Piece), x.kind = 5) ∧
    (∃ (_s : State) (_src : DevId) (_path : Path) (_dt : Nat) (_b : Bytes) (x : Piece), x.kind = 6) ∧
    (∃ (_s : State) (_src : DevId) (_path : Path) (_dt : Nat) (_b : Bytes) (x : Piece), x.kind = 7) ∧
    (∃ (_s : State) (_src : DevId) (_path : Path) (_dt : Nat) (_b : Bytes) (x : Piece), x.kind = 8) ∧
    (∃ (_s : State) (_src : DevId) (_path : Path) (_dt : Nat) (_b : Bytes) (x : Piece), (x.kind = 0 ∨ 8 < x.kind)) ∧
    (∃ (s : State) (x : Piece) (h : Nat) (k : Comm), findComm s x.commId = some (h, k) ∧ k.state ≠ .active) ∧
    (∃ (s : State) (x : Piece) (h : Nat) (k : Comm), findComm s x.commId = some (h, k) ∧ k.state = .active) ∧
    (∃ (s : State) (x : Piece) (h : Nat) (k : Comm), findCreating s x.commId = some (h, k)) ∧
    (∃ (s : State) (x : Piece), findCreating s x.commId = none) ∧
    (∃ (s : State) (x : Piece) (p : PartId) (v : ColView) (c : ChunkOut), runOf s x = some (p, v) ∧ (v.run.chunks.flatMap (·.outs)).find? (outNamed x) = some c) ∧
    (∃ (s : State) (x : Piece) (p : PartId) (v : ColView), runOf s x = some (p, v)) :=
    ⟨⟨portSt, 1, .loc, pktBytes 1, none, by decide⟩,
    ⟨portSt, 1, .loc, pktBytes 2, by decide⟩,
    ⟨portSt, 1, .loc, pktBytes 3, by decide⟩,
    ⟨portSt, 1, .loc, pktBytes 4, by decide⟩,
    ⟨portSt, 1, .loc, pktBytes 5, by decide⟩,
    ⟨portSt, 1, .loc, pktBytes 6, by decide⟩,
    ⟨portSt, 1, .loc, pktBytes 7, by decide⟩,
    ⟨portSt, 1, .loc, pktBytes 8, by decide⟩,
    ⟨portSt, 1, .loc, pktBytes 1, _, rfl, by decide⟩,
    ⟨portSt, 1, .loc, 0, 0, pieceBytes { kind := 2 }, { kind := 2 }, portSt, _, ⟨by decide, by rfl, by rfl⟩⟩,
    ⟨oldEpochSt, 1, .loc, 0, 0, pieceBytes { kind := 2 }, { kind := 2 }, oldEpochSt, ⟨by decide, by rfl, by decide⟩⟩,
    ⟨portSt, 1, .loc, 0, 0, pktBytes 1, by decide⟩,
    ⟨portSt, 1, .loc, 0, [], { kind := 1 }, by decide⟩,
    ⟨portSt, 1, .loc, 0, [], { kind := 2 }, by decide⟩,
    ⟨portSt, 1, .loc, 0, [], { kind := 3 }, by decide⟩,
    ⟨portSt, 1, .loc, 0, [], { kind := 4 }, by decide⟩,
    ⟨portSt, 1, .loc, 0, [], { kind := 5 }, by decide⟩,
    ⟨portSt, 1, .loc, 0, [], { kind := 6 }, by decide⟩,
    ⟨portSt, 1, .loc, 0, [], { kind := 7 }, by decide⟩,
    ⟨portSt, 1, .loc, 0, [], { kind := 8 }, by decide⟩,
    ⟨portSt, 1, .loc, 0, [], { kind := 9 }, by decide⟩,
    ⟨workCol 5 [] .creating, {}, 1, { state := .creating, members := [0] }, by decide⟩,
    ⟨workCol 5 [] .active, {}, 1, { state := .active, members := [0] }, by decide⟩,
    ⟨workCol 5 [] .creating, {}, 1, { state := .creating, members := [0] }, by decide⟩,
    ⟨portSt, {}, by decide⟩,
    ⟨outSt, { opSeq := 0 }, 0, _, _, by rfl, by rfl⟩,
    ⟨runSt, { opSeq := 0 }, 0, _, by rfl⟩⟩

/-- The hypotheses of CollectiveTimers can be met. -/
theorem witness_CollectiveTimers :
    (∃ (s : State) (p : PartId) (d : DevId) (v : ColView), colView s p = some v ∧ pathUp s d = false) ∧
    (∃ (s : State) (p : PartId) (d : DevId) (r : ColRun), (getPart s p).colRun = some r ∧ probeOver s r.probes d = true) ∧
    (∃ (s : State) (p : PartId) (_d : DevId) (k : Conj), (getPart s p).colRun = none ∧ (getPart s p).conj = some k) ∧
    (∃ (s : State) (p : PartId) (d : DevId) (v : ColView), colView s p = some v ∧ pathUp s d = true) ∧
    (∃ (s : State) (_p : PartId) (h : Nat) (k : Comm) (t : State), getComm s h = some k ∧ k.state = .creating ∧ waitedOut s k.started = true ∧ t = setComm h none { s with col := { s.col with joins := s.col.joins.filter (fun j => j.1 != k.id) } }) ∧
    (∃ (s : State) (_p : PartId) (h : Nat) (k : Comm), getComm s h = some k ∧ (k.state ≠ .creating ∨ waitedOut s k.started = false)) ∧
    (∃ (s : State) (p : PartId) (r : ColRun), (getPart s p).colRun = some r ∧ waitedOut s (colSince s p) = true) ∧
    (∃ (s : State) (x : PartId × Nat × Nat × Nat × Bool), (sortBy slotLt ((slotChunks s).filter (fun x => !x.2.2.2.2))).find? (fun x => slotFree s x.1) = some x) ∧
    (∃ (s : State) (p : PartId), currentPri s p ≠ 0 ∧ slotCount s ≤ (slotsUsed s).2 + 4) :=
    ⟨⟨runSt, 0, 0, (colView runSt 0).get (by decide), by rfl, by decide⟩,
    ⟨{ updPart portSt 0 (fun q => { q with colRun := some { probes := [(1, 0)] } }) with time := { dt := 10000000 } }, 0, 1, { probes := [(1, 0)] }, by decide⟩,
    ⟨updPart portSt 0 (fun q => { q with conj := some {} }), 0, 1, {}, by decide⟩,
    ⟨{ runSt with cfg := grpSt.cfg, links := .replicate 16 { state := .active, peerValid := true } }, 0, 1, _, ⟨by rfl, by decide⟩⟩,
    ⟨dtLate creatingSt, 0, 1, { state := .creating, members := [0] }, _, by decide, by decide, by decide, rfl⟩,
    ⟨creatingSt, 0, 1, { state := .creating, members := [0] }, by decide⟩,
    ⟨dtLate (updPart portSt 0 (fun q => { q with colRun := some {} })), 0, {}, by decide⟩,
    ⟨waitSlotSt, (0, 0, 0, 0, false), by decide⟩,
    ⟨{ updJob portSt 0 (fun j => { j with priority := 2 }) with bist := { slotsApplied := 268435455 } }, 0, by decide⟩⟩

/-- The hypotheses of DeadlinesRegulatorsAndAging can be met. -/
theorem witness_DeadlinesRegulatorsAndAging :
    (∃ (s : State) (p : PartId) (k : Conj), (getPart s p).conj = some k ∧ hasDeadline s p = true ∧ k.closeSent = false ∧ k.count ≤ readyCount s p k ∧ k.checkS = none) ∧
    (∃ (s : State) (p : PartId) (k : Conj), (getPart s p).conj = some k ∧ hasDeadline s p = true ∧ k.closeSent = false ∧ k.count ≤ readyCount s p k ∧ k.checkS.isSome = true ∧ k.checkD = none) ∧
    (∃ (s : State) (p : PartId) (k : Conj) (b : Bool), (getPart s p).conj = some k ∧ (if b = true then k.checkD.isSome = true ∨ k.checkS = none else k.checkS.isSome = true)) ∧
    (∃ (s u : State), windowsDue s ≠ 0 ∧ u = { s with time := { s.time with window := windowNow s } }) ∧
    (∃ (s : State), windowsDue s = 0) ∧
    (∃ (_s : State) (_n b : Nat) (_r : Regulator), 0 < b) ∧
    (∃ (s : State) (p : PartId) (n : Nat) (l : List WaitReq), n = waitingRequests s p ∧ l = (getPart s p).waitReqs) ∧
    (∃ (_s : State) (_now _pri : Nat) (w : WaitReq), w.raises = 0) ∧
    (∃ (_s : State) (_now pri _n : Nat) (l : List WaitReq), (∀ w ∈ l, w.raises ≤ pri - 1)) :=
    ⟨⟨deadSt none none, 0, { count := 0 }, by decide⟩,
    ⟨deadSt (some 0) none, 0, { count := 0, checkS := some 0 }, by decide⟩,
    ⟨deadSt (some 0) none, 0, { count := 0, checkS := some 0 }, false, by decide⟩,
    ⟨dtLate portSt, _, by decide, rfl⟩,
    ⟨State.reset, by decide⟩,
    ⟨State.reset, 1, 1, {}, by decide⟩,
    ⟨State.reset, 2, _, _, rfl, rfl⟩,
    ⟨State.reset, 0, 1, {}, rfl⟩,
    ⟨State.reset, 0, 2, 1, [{}], by decide⟩⟩

/-- The hypotheses of ScrubsAndTheErrorRing can be met. -/
theorem witness_ScrubsAndTheErrorRing :
    (∃ (s : State) (g : Nat), s.boot.hbmTrained = true ∧ tabGet .none s.hbmErr g = .none) ∧
    (∃ (s : State) (g : Nat) (p : PartId), s.boot.hbmTrained = true ∧ tabGet .none s.hbmErr g = .ce ∧ granuleOwner s g = some p) ∧
    (∃ (s : State) (g : Nat), s.boot.hbmTrained = true ∧ tabGet .none s.hbmErr g = .ue) ∧
    (∃ (s : State) (g : Nat) (p : PartId), s.boot.hbmTrained = true ∧ granuleOwner s g = some p) ∧
    (∃ (s : State) (_g : Nat), s.boot.hbmTrained = true) ∧
    (∃ (s : State) (g : Nat) (p : PartId), granuleOwner (markGranule g s) g = some p) ∧
    (∃ (s : State) (g : Nat), granuleOwner (markGranule g s) g = none) ∧
    (∃ (s : State) (k : PortId) (_v : Nat) (p : PartId) (u : State), hostPart (.hp k) 0x00060004 s = (some p, u)) ∧
    (∃ (s : State) (r : Requester) (_v : Nat), (r = .mgt ∨ r = .jtag) ∧ mgtOpen r s = true ∧ s.errSelect = 4) ∧
    (∃ (_s : State) (g : ErrRing) (_v : Nat), g.head ≤ g.tail) :=
    ⟨⟨alignSt false 0, 1000, by decide⟩,
    ⟨{ scrubSt with hbmErr := [(0, .ce)] }, 0, 0, by decide⟩,
    ⟨{ scrubSt with hbmErr := [(0, .ue)] }, 0, by decide⟩,
    ⟨scrubSt, 0, 0, by decide⟩,
    ⟨alignSt false 0, 0, by decide⟩,
    ⟨scrubSt, 0, 0, by decide⟩,
    ⟨alignSt false 0, 1000, by decide⟩,
    ⟨portSt, 0, 1, 0, portSt, by decide⟩,
    ⟨{ portSt with errSelect := 4 }, .mgt, 1, by decide⟩,
    ⟨State.reset, {}, 0, by decide⟩⟩

/-- The hypotheses of BridleTraining can be met. -/
theorem witness_BridleTraining :
    (∃ (s : State) (l : LinkId) (u : State), (getLink s l).state = .detect ∧ u = setBrl l .equalize (updLink s l (fun q => { q with lanesLocked := 15 }))) ∧
    (∃ (s : State) (l : LinkId), ((getLink s l).state = .equalize ∨ (getLink s l).state = .identify ∨ (getLink s l).state = .keying) ∧ (getLink s l).leader = false) ∧
    (∃ (s : State) (l : LinkId), (getLink s l).state = .dormant) ∧
    (∃ (s : State) (l : LinkId), (getLink s l).state = .equalize) ∧
    (∃ (s : State) (l : LinkId) (i : Identity) (u : State), (getLink s l).state = .identify ∧ u = learnStart i.dev i.startId (updLink s l (fun q => { q with peer := i, peerValid := true })) ∧ some i.dev = linkPeer u l ∧ i.link = farLink u l ∧ i.groupSize = u.cfg.group.size ∧ i.pairMode = u.cfg.group.pairMode ∧ i.crypt = u.cfg.link.brlCrypt) ∧
    (∃ (s : State) (l : LinkId) (i : Identity) (u : State), (getLink s l).state = .identify ∧ u = learnStart i.dev i.startId (updLink s l (fun q => { q with peer := i, peerValid := true })) ∧ (some i.dev ≠ linkPeer u l ∨ i.link ≠ farLink u l)) ∧
    (∃ (s : State) (l : LinkId) (i : Identity) (u : State), (getLink s l).state = .identify ∧ u = learnStart i.dev i.startId (updLink s l (fun q => { q with peer := i, peerValid := true })) ∧ some i.dev = linkPeer u l ∧ i.link = farLink u l ∧ (i.groupSize ≠ u.cfg.group.size ∨ i.pairMode ≠ u.cfg.group.pairMode ∨ i.crypt ≠ u.cfg.link.brlCrypt)) ∧
    (∃ (s : State) (l : LinkId) (k : Bytes), (getLink s l).state = .keying ∧ groupPsk s = some k) ∧
    (∃ (s : State) (l : LinkId) (b : Bool), (getLink s l).state = .keying ∧ (b = false ∨ groupPsk s = none)) ∧
    (∃ (s : State) (l : LinkId), ((getLink s l).state = .detect ∨ (getLink s l).state = .equalize ∨ (getLink s l).state = .identify ∨ (getLink s l).state = .keying) ∧ (getLink s l).trainAt + s.cfg.tmo.linkTrainMs * 1000000 ≤ upNs s) ∧
    (∃ (s : State) (l : LinkId), ((getLink s l).state = .down ∨ (getLink s l).state = .miswired) ∧ (getLink s l).since + 1000000000 ≤ upNs s) ∧
    (∃ (s : State) (l : LinkId), working (getLink s l) = true) ∧
    (∃ (s : State) (r : Requester) (l : LinkId) (v : Nat), brlCmd r v 1 s = true ∧ working (getLink s l) = true) ∧
    (∃ (s : State) (r : Requester) (l : LinkId) (v : Nat), brlCmd r v 1 s = true ∧ ((getLink s l).state = .down ∨ (getLink s l).state = .miswired)) ∧
    (∃ (s : State) (r : Requester) (l : LinkId) (v : Nat), brlCmd r v 2 s = true ∧ working (getLink s l) = true ∧ lastOfBond s l = false ∧ (l.val ≠ 15 ∨ s.cfg.group.pairMode = 0)) ∧
    (∃ (s : State) (r : Requester) (l : LinkId) (v : Nat), brlCmd r v 3 s = true ∧ (getLink s l).state = .dormant) ∧
    (∃ (s : State) (l : LinkId) (k : Bytes), working (getLink s l) = true ∧ (getLink s l).cryptOn = true ∧ groupPsk s = some k) ∧
    (∃ (_s : State) (_l : LinkId) (b : BrlState), b ≠ .active) :=
    ⟨⟨brlSt .detect, 1, _, by decide, rfl⟩,
    ⟨brlSt .equalize, 1, by decide⟩,
    ⟨brlSt .dormant, 1, by decide⟩,
    ⟨brlSt .equalize, 1, by decide⟩,
    ⟨brlSt .identify, 1, idMsg 1, _, ⟨by decide, rfl, by decide, by decide, by decide, by decide, by decide⟩⟩,
    ⟨brlSt .identify, 1, idMsg 9, _, ⟨by decide, rfl, by decide⟩⟩,
    ⟨brlSt .identify, 1, { idMsg 1 with groupSize := 9 }, _, ⟨by decide, rfl, by decide, by decide, by decide⟩⟩,
    ⟨pskSt .keying, 1, _, ⟨by decide, by rfl⟩⟩,
    ⟨brlSt .keying, 1, false, by decide⟩,
    ⟨upLate (brlSt .keying), 1, by decide⟩,
    ⟨upLate (brlSt .down), 1, by decide⟩,
    ⟨brlSt .active, 1, by decide⟩,
    ⟨brlSt .active, .mgt, 1, 0xB1D00001, by decide⟩,
    ⟨brlSt .down, .mgt, 1, 0xB1D00001, by decide⟩,
    ⟨dormSt, .mgt, 1, 0xB1D00002, by decide⟩,
    ⟨brlSt .dormant, .mgt, 1, 0xB1D00003, by decide⟩,
    ⟨updLink (pskSt .active) 1 (fun q => { q with cryptOn := true }), 1, _, ⟨by decide, by decide, by rfl⟩⟩,
    ⟨State.reset, 1, .down, by decide⟩⟩

/-- The hypotheses of BridleFlitsAndSleep can be met. -/
theorem witness_BridleFlitsAndSleep :
    (∃ (s : State) (l : LinkId) (fec : Nat) (_b : Bytes) (_m : Option LinkMsg), (getLink s l).state = .active ∧ 2 ≤ fec) ∧
    (∃ (s : State) (l : LinkId) (fec : Nat) (_b : Bytes) (_m : Option LinkMsg), (getLink s l).state = .active ∧ fec < 2) ∧
    (∃ (_s : State) (_l : LinkId) (b : Bytes) (_m : Option LinkMsg), parseFlit b = none) ∧
    (∃ (s : State) (l : LinkId) (b p : Bytes) (h : FlitHead) (_m : Option LinkMsg), parseFlit b = some (h, p) ∧ h.type ≠ 0 ∧ h.fseq ≠ (getLink s l).rxNext) ∧
    (∃ (s : State) (l : LinkId) (u : State), u = updLink s l (fun q => { q with ackOwed := 0 })) ∧
    (∃ (s : State) (l : LinkId) (_k : Nat), working (getLink s l) = true) ∧
    (∃ (s : State) (l : LinkId), working (getLink s l) = true ∧ (getLink s l).nakOpen = true) ∧
    (∃ (s : State) (l : LinkId), working (getLink s l) = true ∧ (getLink s l).ackOwed ≠ 0 ∧ (getLink s l).ackAt + 200 ≤ upNs s) ∧
    (∃ (s : State) (l : LinkId) (b p : Bytes) (h : FlitHead), parseFlit b = some (h, p) ∧ h.type = 4 ∧ (getLink s l).state = .active) ∧
    (∃ (s : State) (l : LinkId) (_a _b t : Nat), working (getLink s l) = true ∧ (getLink s l).timeTx = some t) ∧
    (∃ (s : State) (l : LinkId) (_a _b : Nat), working (getLink s l) = true ∧ (getLink s l).timeTx = none) ∧
    (∃ (s : State) (l : LinkId) (_a : Advert) (m : Nat), working (getLink s l) = true ∧ linkMember s l = some m) ∧
    (∃ (s : State) (l : LinkId), (getLink s l).state = .active ∧ (getLink s l).idleUs ≠ 0 ∧ (getLink s l).sleepAsked = false ∧ queuedFor s l = false ∧ max (getLink s l).since (getLink s l).lastSent + (getLink s l).idleUs * 1000 ≤ upNs s) ∧
    (∃ (s : State) (l : LinkId), (getLink s l).state = .active ∧ queuedFor s l = true) ∧
    (∃ (s : State) (l : LinkId), (getLink s l).state = .active ∧ queuedFor s l = false) ∧
    (∃ (s : State) (l : LinkId), working (getLink s l) = true) :=
    ⟨⟨brlSt .active, 1, 2, [], none, by decide⟩,
    ⟨brlSt .active, 1, 0, [], none, by decide⟩,
    ⟨brlSt .active, 1, [], none, by decide⟩,
    ⟨brlSt .active, 1, flitBytes { type := 1, fseq := 1 } [], List.replicate 242 0, { type := 1, fseq := 1 }, none, by decide +kernel⟩,
    ⟨brlSt .active, 1, _, rfl⟩,
    ⟨brlSt .active, 1, 0, by decide⟩,
    ⟨updLink (brlSt .active) 1 (fun q => { q with nakOpen := true }), 1, by decide⟩,
    ⟨upLate (updLink (brlSt .active) 1 (fun q => { q with ackOwed := 1 })), 1, by decide⟩,
    ⟨brlSt .active, 1, flitBytes { type := 4 } [], List.replicate 242 0, { type := 4 }, ⟨by decide +kernel, by decide, by decide⟩⟩,
    ⟨updLink (brlSt .active) 1 (fun q => { q with timeTx := some 3 }), 1, 0, 5, 3, by decide⟩,
    ⟨brlSt .active, 1, 0, 5, by decide⟩,
    ⟨brlSt .active, 1, {}, 2, by decide⟩,
    ⟨upLate (updLink (brlSt .active) 1 (fun q => { q with idleUs := 1 })), 1, by decide⟩,
    ⟨updLink (brlSt .active) 1 (fun q => { q with queue := [default] }), 1, by decide⟩,
    ⟨brlSt .active, 1, by decide⟩,
    ⟨brlSt .sleep, 1, by decide⟩⟩

/-- The hypotheses of TetherPlanes can be met. -/
theorem witness_TetherPlanes :
    (∃ (s : State) (pl : PlaneId), (getPlane s pl).state = .align ∧ s.cfg.sec.macsec = false) ∧
    (∃ (s : State) (pl : PlaneId), (getPlane s pl).state = .align ∧ s.cfg.sec.macsec = true) ∧
    (∃ (s : State) (pl : PlaneId) (i : VaultItem) (_n : Nat) (_x : Bool), (getPlane s pl).state = .keying ∧ macsecItem s pl = some i) ∧
    (∃ (s : State) (pl : PlaneId), (getPlane s pl).state = .align ∧ (getPlane s pl).trainAt + s.cfg.tmo.linkTrainMs * 1000000 ≤ upNs s) ∧
    (∃ (s : State) (pl : PlaneId), (getPlane s pl).state = .keying ∧ (getPlane s pl).trainAt + s.cfg.tmo.linkTrainMs * 1000000 ≤ upNs s) ∧
    (∃ (s : State) (pl : PlaneId), (getPlane s pl).state = .up) ∧
    (∃ (s : State) (pl : PlaneId), (getPlane s pl).state = .down ∧ (getPlane s pl).since + 1000000000 ≤ upNs s) ∧
    (∃ (s : State) (pl : PlaneId), (getPlane s pl).state = .up ∧ (getPlane s pl).secured = true) ∧
    (∃ (s : State) (pl : PlaneId) (i : VaultItem), (getPlane s pl).secured = true ∧ (0xC0000000 ≤ max (getPlane s pl).txPn (getPlane s pl).rxPn ∨ ((getPlane s pl).xpn = false ∧ (getPlane s pl).sakAt + 60000000000 ≤ dtNow s)) ∧ macsecItem s pl = some i) ∧
    (∃ (s : State) (r : Requester) (pl : PlaneId) (v : Nat), tthCmd r v 1 s = true ∧ (getPlane s pl).state = .down) ∧
    (∃ (s : State) (r : Requester) (pl : PlaneId) (v : Nat), tthCmd r v 2 s = true ∧ (getPlane s pl).state = .up ∧ s.time.ptp.plane ≠ some pl.val) ∧
    (∃ (s : State) (r : Requester) (pl : PlaneId) (v : Nat), tthCmd r v 3 s = true ∧ (getPlane s pl).state = .dormant) ∧
    (∃ (s : State) (pl : PlaneId) (f : EthCheck) (_a _m : Nat) (t : State), (getPlane s pl).state = .up ∧ ethBad pl f s = some t) ∧
    (∃ (s : State) (pl : PlaneId) (_x : EthTag) (k : PlaneCfg), planeCfg s pl = some k) ∧
    (∃ (s : State) (pl : PlaneId) (f : EthCheck) (_a t : Nat) (u : State), (getPlane s pl).state = .up ∧ ethBad pl f s = none ∧ u = notePn pl (ethPn f) s ∧ ownAddr u pl = some t) ∧
    (∃ (s : State) (pl : PlaneId) (f : EthCheck) (a m : Nat) (u v : State), (getPlane s pl).state = .up ∧ ethBad pl f s = none ∧ u = notePn pl (ethPn f) s ∧ v = updPlane u pl (fun q => { q with
  neigh := q.neigh.map (fun e => if e.addr = a then { e with mac := some m, tries := 0, at_ := dtNow u } else e) })) ∧
    (∃ (s : State) (pl : PlaneId) (a : Nat), (getPlane s pl).state = .up ∧ (getPlane s pl).neigh.any (fun e => e.addr == a && decide (dtNow s ≥ e.at_ + 30000000000)) = true) ∧
    (∃ (s : State) (pl : PlaneId) (a : Nat) (e : Neigh), (getPlane s pl).state = .up ∧ (getPlane s pl).neigh.find? (fun x => x.addr == a) = some e ∧ (e.tries = 1 ∨ e.tries = 2) ∧ e.at_ + 1000000 ≤ dtNow s) ∧
    (∃ (s : State) (pl : PlaneId) (f : EthCheck) (_a _i : Nat) (u : State), (getPlane s pl).state = .up ∧ ethBad pl f s = none ∧ u = notePn pl (ethPn f) s ∧ (recent (dtNow u) 1000000000 (getPlane u pl).echoTimes).length ≤ 100) ∧
    (∃ (s : State) (pl : PlaneId) (f : EthCheck) (_a _i : Nat) (u : State), (getPlane s pl).state = .up ∧ ethBad pl f s = none ∧ u = notePn pl (ethPn f) s ∧ 100 < (recent (dtNow u) 1000000000 (getPlane u pl).echoTimes).length) ∧
    (∃ (s : State) (pl : PlaneId), (getPlane s pl).state ≠ .off) :=
    ⟨⟨plSt .align, 0, by decide⟩,
    ⟨{ plSt .align with cfg := { cfgSt with sec := { macsec := true } } }, 0, by decide⟩,
    ⟨sakSt .keying, 0, { type := 1, planeMask := 1 }, 255, true, by decide⟩,
    ⟨upLate (plSt .align), 0, by decide⟩,
    ⟨upLate (plSt .keying), 0, by decide⟩,
    ⟨plSt .up, 0, by decide⟩,
    ⟨upLate (plSt .down), 0, by decide⟩,
    ⟨sakSt .up, 0, by decide⟩,
    ⟨updPlane (dtLate (sakSt .up)) 0 (fun q => { q with xpn := false }), 0, { type := 1, planeMask := 1 }, by decide⟩,
    ⟨plSt .down, .mgt, 0, 0x7E700001, by decide⟩,
    ⟨plSt .up, .mgt, 0, 0x7E700002, by decide⟩,
    ⟨plSt .dormant, .mgt, 0, 0x7E700003, by decide⟩,
    ⟨plAddrSt, 0, .fcs, 7, 100, _, by decide, rfl⟩,
    ⟨plAddrSt, 0, {}, { plane := 0, baseAddr := 100 }, by decide⟩,
    ⟨plAddrSt, 0, .good {}, 7, 100, _, by decide, by decide, rfl, by decide⟩,
    ⟨ipSt (neighSt 1), 0, .good {}, 7, 9, _, _, by decide, by decide, rfl, rfl⟩,
    ⟨dtLate (neighSt 0), 0, 7, by decide⟩,
    ⟨dtLate (neighSt 1), 0, 7, { addr := 7, tries := 1 }, by decide⟩,
    ⟨ipSt (plSt .up), 0, .good {}, 7, 9, _, by decide, by decide, rfl, by decide⟩,
    ⟨updPlane (ipSt (plSt .up)) 0 (fun q => { q with echoTimes := List.replicate 101 0 }), 0, .good {}, 7, 9, _, by decide, by decide, rfl, by decide⟩,
    ⟨plSt .up, 0, by decide⟩⟩

/-- The hypotheses of TetherTransport can be met. -/
theorem witness_TetherTransport :
    (∃ (s : State) (pl : PlaneId) (f : FrameCheck) (g : Bytes) (t : State), (getPlane s pl).state = .up ∧ frameBad pl f g s = some t) ∧
    (∃ (s : State) (pl : PlaneId) (_x : IpHead) (_g : Bytes) (k : PlaneCfg), planeCfg s pl = some k) ∧
    (∃ (s : State) (pl : PlaneId) (f : FrameCheck) (g b : Bytes) (h : TthHead) (k : Ctx) (w : State), (getPlane s pl).state = .up ∧ frameBad pl f g s = none ∧ w = notePn pl (framePn f) s ∧ acceptDgram w 1 g = some (h, b) ∧ ctxNamed w pl h = some k ∧ k.state = .open_) ∧
    (∃ (s : State) (pl : PlaneId) (f : FrameCheck) (g b : Bytes) (h : TthHead) (k : Ctx) (w : State), (getPlane s pl).state = .up ∧ frameBad pl f g s = none ∧ w = notePn pl (framePn f) s ∧ acceptDgram w 2 g = some (h, b) ∧ ctxNamed w pl h = some k ∧ k.state = .open_ ∧ b.length = 192) ∧
    (∃ (s : State) (pl : PlaneId) (f : FrameCheck) (g b : Bytes) (h : TthHead) (p : PartId) (i : Nat) (w u v : State), (getPlane s pl).state = .up ∧ frameBad pl f g s = none ∧ w = notePn pl (framePn f) s ∧ acceptDgram w 3 g = some (h, b) ∧ h.part = p.val ∧ u = showEpoch h.src h.cfgEpoch (learnStart h.src (beAt b 8 4) w) ∧ findCtx u h.src p pl = none ∧ freeCtx u = (some i, v)) ∧
    (∃ (s : State) (pl : PlaneId) (f : FrameCheck) (g b : Bytes) (h : TthHead) (p : PartId) (i : Nat) (k : Ctx) (w u : State), (getPlane s pl).state = .up ∧ frameBad pl f g s = none ∧ w = notePn pl (framePn f) s ∧ acceptDgram w 3 g = some (h, b) ∧ h.part = p.val ∧ u = showEpoch h.src h.cfgEpoch (learnStart h.src (beAt b 8 4) w) ∧ findCtx u h.src p pl = some (i, k) ∧ helloAgain k h b = true) ∧
    (∃ (s : State) (pl : PlaneId) (f : FrameCheck) (g b : Bytes) (h : TthHead) (p : PartId) (i : Nat) (k : Ctx) (w u : State), (getPlane s pl).state = .up ∧ frameBad pl f g s = none ∧ w = notePn pl (framePn f) s ∧ acceptDgram w 3 g = some (h, b) ∧ h.part = p.val ∧ u = showEpoch h.src h.cfgEpoch (learnStart h.src (beAt b 8 4) w) ∧ findCtx u h.src p pl = some (i, k) ∧ k.state = .open_ ∧ helloAgain k h b = false) ∧
    (∃ (s : State) (pl : PlaneId) (f : FrameCheck) (g b : Bytes) (h : TthHead) (k : Ctx) (w u : State), (getPlane s pl).state = .up ∧ frameBad pl f g s = none ∧ w = notePn pl (framePn f) s ∧ acceptDgram w 4 g = some (h, b) ∧ ctxNamed w pl h = some k ∧ k.state = .opening ∧ u = showEpoch h.src h.cfgEpoch (learnStart h.src (beAt b 8 4) w) ∧ ctxNamed u pl h ≠ none) ∧
    (∃ (s : State) (pl : PlaneId) (f : FrameCheck) (g b : Bytes) (h : TthHead) (k : Ctx) (w : State), (getPlane s pl).state = .up ∧ frameBad pl f g s = none ∧ w = notePn pl (framePn f) s ∧ acceptDgram w 5 g = some (h, b) ∧ ctxNamed w pl h = some k ∧ k.state = .open_ ∧ ctxPending k = []) ∧
    (∃ (s : State) (pl : PlaneId) (f : FrameCheck) (g b : Bytes) (h : TthHead) (k : Ctx) (w : State), (getPlane s pl).state = .up ∧ frameBad pl f g s = none ∧ w = notePn pl (framePn f) s ∧ acceptDgram w 5 g = some (h, b) ∧ ctxNamed w pl h = some k ∧ k.state = .open_ ∧ ctxPending k ≠ []) ∧
    (∃ (s : State) (pl : PlaneId) (f : FrameCheck) (g b : Bytes) (h : TthHead) (k : Ctx) (w : State), (getPlane s pl).state = .up ∧ frameBad pl f g s = none ∧ w = notePn pl (framePn f) s ∧ acceptDgram w 5 g = some (h, b) ∧ ctxNamed w pl h = some k ∧ k.state = .opening) ∧
    (∃ (s : State) (pl : PlaneId) (f : FrameCheck) (g : Bytes) (w : State), (getPlane s pl).state = .up ∧ frameBad pl f g s = none ∧ w = notePn pl (framePn f) s) ∧
    (∃ (s : State) (pl : PlaneId) (f : FrameCheck) (g _b : Bytes) (h : TthHead) (w : State), (getPlane s pl).state = .up ∧ frameBad pl f g s = none ∧ w = notePn pl (framePn f) s ∧ ctxNamed w pl h = none) ∧
    (∃ (s : State) (pl : PlaneId) (f : FrameCheck) (g _b : Bytes) (h : TthHead) (k : Ctx) (w : State), (getPlane s pl).state = .up ∧ frameBad pl f g s = none ∧ w = notePn pl (framePn f) s ∧ ctxNamed w pl h = some k ∧ k.state = .opening) ∧
    (∃ (s : State) (x : Nat) (k : Ctx), getCtx s x = some k ∧ k.state = .opening ∧ k.lastHello + 200000 ≤ dtNow s) ∧
    (∃ (s : State) (x : Nat) (k : Ctx), getCtx s x = some k ∧ k.state = .open_ ∧ k.ackOwed ≠ 0 ∧ k.ackAt + 10000 ≤ dtNow s) ∧
    (∃ (s : State) (x : Nat) (k : Ctx) (st : Fin 4) (g : TxSeg), getCtx s x = some k ∧ oldestSeg k = some (st, g) ∧ g.lastTx + k.rtoNs ≤ dtNow s ∧ k.owed.contains (st, g.ssn) = false ∧ (∀ (n : Nat) (b : Bytes), k.pkts[g.pkt - k.pktBase]? = some (n, b) → fencedHold s n b = false)) ∧
    (∃ (s : State) (x : Nat) (k : Ctx), getCtx s x = some k ∧ k.state = .open_ ∧ ctxPending k = [] ∧ k.lastUse + 1000000 ≤ dtNow s) ∧
    (∃ (s : State) (x t : Nat) (k : Ctx), getCtx s x = some k ∧ retxStart k = some t ∧ t + s.cfg.tmo.tthRetxMs * 1000000 ≤ dtNow s ∧ ctxPending k = []) ∧
    (∃ (s : State) (x t : Nat) (k : Ctx) (w : Waiting) (l : List Waiting), getCtx s x = some k ∧ retxStart k = some t ∧ t + s.cfg.tmo.tthRetxMs * 1000000 ≤ dtNow s ∧ ctxPending k = w :: l) ∧
    (∃ (s : State) (pl : PlaneId) (d : DevId) (p : PartId) (i : Nat) (u : State), (getPlane s pl).state = .up ∧ probeDue s pl d = true ∧ findCtx s d p pl = none ∧ freeCtx (noteProbe pl d s) = (some i, u)) ∧
    (∃ (s : State) (pl : PlaneId) (d : DevId) (p : PartId) (i : Nat) (k : Ctx), (getPlane s pl).state = .up ∧ probeDue s pl d = true ∧ findCtx s d p pl = some (i, k) ∧ k.state = .opening) :=
    ⟨⟨plSt .up, 0, .fcs, [], _, ⟨by decide, rfl⟩⟩,
    ⟨ipSt (plSt .up), 0, {}, [], {}, by decide⟩,
    ⟨ipSt (ctxSt .open_), 0, goodF, tthBytes (gHead 1) [], [], gHead 1, { peer := 1, state := .open_ }, _, ⟨by decide, by decide +kernel, rfl, by decide +kernel, by decide, by decide⟩⟩,
    ⟨ipSt (ctxSt .open_), 0, goodF, tthBytes { gHead 2 with len := 192 } (List.replicate 192 0), (List.replicate 192 0), { gHead 2 with len := 192 }, { peer := 1, state := .open_ }, _, ⟨by decide, by decide +kernel, rfl, by decide +kernel, by decide, by decide, by decide⟩⟩,
    ⟨ipSt (plSt .up), 0, goodF, tthBytes { type := 3, src := 1, dst := 0 } [], [], { type := 3, src := 1, dst := 0 }, 0, 0, _, _, _, ⟨by decide, by decide +kernel, rfl, by decide +kernel, by decide, rfl, by decide, by rfl⟩⟩,
    ⟨ipSt ctx2St, 0, goodF, tthBytes { type := 3, src := 1, dst := 0 } [], [], { type := 3, src := 1, dst := 0 }, 0, 0, ctx2, _, _, ⟨by decide, by decide +kernel, rfl, by decide +kernel, by decide, rfl, by decide, by decide⟩⟩,
    ⟨ipSt (ctxSt .open_), 0, goodF, tthBytes { type := 3, src := 1, dst := 0 } [], [], { type := 3, src := 1, dst := 0 }, 0, 0, { peer := 1, state := .open_ }, _, _, ⟨by decide, by decide +kernel, rfl, by decide +kernel, by decide, rfl, by decide, by decide, by decide⟩⟩,
    ⟨ipSt (ctxSt .opening), 0, goodF, tthBytes (gHead 4) [], [], gHead 4, { peer := 1, state := .opening }, _, _, ⟨by decide, by decide +kernel, rfl, by decide +kernel, by decide, by decide, rfl, by decide⟩⟩,
    ⟨ipSt (ctxSt .open_), 0, goodF, tthBytes (gHead 5) [], [], gHead 5, { peer := 1, state := .open_ }, _, ⟨by decide, by decide +kernel, rfl, by decide +kernel, by decide, by decide, by decide⟩⟩,
    ⟨ipSt { plSt .up with tether := { ctxs := [(0, some pendCtx)] } }, 0, goodF, tthBytes (gHead 5) [], [], gHead 5, pendCtx, _, ⟨by decide, by decide +kernel, rfl, by decide +kernel, by decide, by decide, by decide⟩⟩,
    ⟨ipSt (ctxSt .opening), 0, goodF, tthBytes (gHead 5) [], [], gHead 5, { peer := 1, state := .opening }, _, ⟨by decide, by decide +kernel, rfl, by decide +kernel, by decide, by decide⟩⟩,
    ⟨ipSt (plSt .up), 0, goodF, tthBytes (gHead 1) [], _, ⟨by decide, by decide +kernel, rfl⟩⟩,
    ⟨ipSt (plSt .up), 0, goodF, tthBytes (gHead 1) [], [], gHead 1, _, ⟨by decide, by decide +kernel, rfl, by decide⟩⟩,
    ⟨ipSt (ctxSt .opening), 0, goodF, tthBytes (gHead 1) [], [], gHead 1, { peer := 1, state := .opening }, _, ⟨by decide, by decide +kernel, rfl, by decide, by decide⟩⟩,
    ⟨dtLate (ctxSt .opening), 0, { peer := 1, state := .opening }, by decide⟩,
    ⟨dtLate { plSt .up with tether := { ctxs := [(0, some { state := .open_, ackOwed := 1 })] } }, 0, { state := .open_, ackOwed := 1 }, by decide⟩,
    ⟨dtLate { plSt .up with tether := { ctxs := [(0, some segCtx)] } }, 0, segCtx, 0, {}, by decide, by decide, by decide, by decide, by intro n b h; cases h⟩,
    ⟨dtLate (ctxSt .open_), 0, { peer := 1, state := .open_ }, by decide⟩,
    ⟨dtLate (ctxSt .opening), 0, 0, { peer := 1, state := .opening }, by decide⟩,
    ⟨dtLate { plSt .up with tether := { ctxs := [(0, some { pendCtx with state := .opening })] } }, 0, 0, { pendCtx with state := .opening }, { flags := 1 }, [], by decide⟩,
    ⟨dtLate (updPlane (plSt .up) 0 (fun q => { q with failed := [(1, 0)] })), 0, 1, 0, 0, _, ⟨by decide, by decide, by decide, by rfl⟩⟩,
    ⟨dtLate (updPlane (ctxSt .opening) 0 (fun q => { q with failed := [(1, 0)] })), 0, 1, 0, 0, { peer := 1, state := .opening }, by decide⟩⟩

/-- The hypotheses of DualLineMessages can be met. -/
theorem witness_DualLineMessages :
    (∃ (s : State) (m : Bytes), dualOk m = true ∧ leAt m 0 1 = 3 ∧ s.dual.state = .waiting ∧ bytesAt m 24 32 = settingsBlock s 0 0 ∧ leAt m 17 1 = definedMask s ∧ bitOf (leAt m 16 1) 1 = true ∧ s.boot.aligned = true) ∧
    (∃ (s : State) (m : Bytes) (same : Bool), dualOk m = true ∧ leAt m 0 1 = 3 ∧ s.dual.state = .waiting ∧ (same = decide (bytesAt m 24 32 = settingsBlock s 0 0 ∧ leAt m 17 1 = definedMask s)) ∧ (same = false ∨ bitOf (leAt m 16 1) 1 = false ∨ s.boot.aligned = false)) ∧
    (∃ (s : State) (m : Bytes), dualOk m = true ∧ leAt m 0 1 = 3 ∧ s.dual.state = .paired) ∧
    (∃ (s : State) (m : Bytes), dualOk m = true ∧ leAt m 0 1 = 3 ∧ s.dual.state = .refused) ∧
    (∃ (s : State) (m : Bytes) (p : PartId), dualOk m = true ∧ dualPart m = some p ∧ s.dual.state = .paired ∧ leAt m 0 1 = 1) ∧
    (∃ (s : State) (m : Bytes) (p : PartId), dualOk m = true ∧ dualPart m = some p ∧ s.dual.state = .paired ∧ leAt m 0 1 = 2) ∧
    (∃ (s : State) (m : Bytes), (dualOk m = false ∨ s.dual.state ≠ .paired)) ∧
    (∃ (s : State) (p : PartId) (_r : DlRx), (getPart s p).dl.wait = none) ∧
    (∃ (s : State) (p : PartId) (r : DlRx) (w : DlWait), (getPart s p).dl.wait = some w ∧ (r.abandon = false ∨ r.seq = w.seq)) ∧
    (∃ (_s : State) (_p : PartId) (w : DlWait) (r : DlRx) (same : Prop), (same = (r.seq = w.seq ∧ r.jobId = w.jobId ∧ r.count = w.count ∧ r.request = w.request))) ∧
    (∃ (s : State) (p : PartId) (w : DlWait), (getPart s p).dl.wait = some w ∧ waitedOut s w.sentDt = true) ∧
    (∃ (s : State) (p : PartId) (w : DlWait) (r : DlRx), (getPart s p).dl.wait = some w ∧ r.abandon = true ∧ r.seq ≠ w.seq) ∧
    (∃ (s : State) (p : PartId), (∀ w : DlWait, (getPart s p).dl.wait = some w → waitedOut s w.sentDt = false)) ∧
    (∃ (s : State), s.dual.state = .paired) ∧
    (∃ (s : State), s.dual.state ≠ .paired) :=
    ⟨⟨{ dlSt .waiting with boot := { state := .ready, aligned := true } }, dlBytes 3 2 15 (settingsBlock { dlSt .waiting with boot := { state := .ready, aligned := true } } 0 0), ⟨by decide +kernel, by decide +kernel, by decide, by decide +kernel, by decide +kernel, by decide +kernel, by decide⟩⟩,
    ⟨dlSt .waiting, dlBytes 3 2 15 [], _, ⟨by decide +kernel, by decide +kernel, by decide, rfl, by decide +kernel⟩⟩,
    ⟨dlSt .paired, dlBytes 3 2 15 [], ⟨by decide +kernel, by decide +kernel, by decide +kernel⟩⟩,
    ⟨dlSt .refused, dlBytes 3 2 15 [], ⟨by decide +kernel, by decide +kernel, by decide +kernel⟩⟩,
    ⟨dlSt .paired, dlBytes 1 2 15 [], 0, ⟨by decide +kernel, by decide +kernel, by decide, by decide +kernel⟩⟩,
    ⟨dlSt .paired, dlBytes 2 2 15 [], 0, ⟨by decide +kernel, by decide +kernel, by decide, by decide +kernel⟩⟩,
    ⟨dlSt .off, [], by decide⟩,
    ⟨dlSt .paired, 0, {}, by decide⟩,
    ⟨dlWaitSt, 0, {}, {}, by decide⟩,
    ⟨dlWaitSt, 0, {}, {}, _, rfl⟩,
    ⟨dtLate dlWaitSt, 0, {}, by decide⟩,
    ⟨dlWaitSt, 0, {}, { abandon := true, seq := 1 }, by decide⟩,
    ⟨portSt, 0, by intro w h; cases h⟩,
    ⟨dlWaitSt, by decide⟩,
    ⟨dlSt .off, by decide⟩⟩

/-- The hypotheses of PairRolesAndHello can be met. -/
theorem witness_PairRolesAndHello :
    (∃ (s : State), s.cfg.group.pairMode = 2 ∧ working (getLink s 15) = true) ∧
    (∃ (s : State) (m b : Bytes) (h : PairHead) (u : State), hearPair m 1 s = some (h, b, u) ∧ s.pair.state = .waiting ∧ h.digest ≠ pairDigest u) ∧
    (∃ (s : State) (m b : Bytes) (h : PairHead) (u v : State), hearPair m 1 s = some (h, b, u) ∧ s.pair.state = .waiting ∧ h.digest = pairDigest u ∧ v = { u with pair := { u.pair with pairUp := true } }) ∧
    (∃ (s : State) (m b : Bytes) (h : PairHead) (u v : State), hearPair m 1 s = some (h, b, u) ∧ s.pair.state = .active ∧ v = (if h.digest = pairDigest u then { u with pair := { u.pair with pairUp := true } } else u)) ∧
    (∃ (s u : State), s.pair.state = .active ∧ ackSilent s = true ∧ u = { s with free := s.free + 1, pair := { s.pair with pairUp := false } }) ∧
    (∃ (s : State), s.pair.state = .active ∧ ackSilent s = false) ∧
    (∃ (s : State) (cause : Nat) (u : State), u = sendPair { kind := 5 } [] (eachOf allParts (fun p t => updSb p (fun b => { b with staged := [] }) t)
  (cntDev 0x00010108 1 (setSb .deposed { s with pair := { s.pair with lastCause := cause } })))) ∧
    (∃ (s : State) (m b : Bytes) (h : PairHead) (u : State), hearPair m 5 s = some (h, b, u) ∧ mirrors u = true) ∧
    (∃ (s u v : State), s.pair.state = .standby ∧ s.pair.lastRx + 3 * s.cfg.tmo.snapshotUs * 1000 ≤ dtNow s ∧ u = setSb .takeover { s with pair := { s.pair with probedDt := dtNow s, probeAck := false, witness := false, noWitness := false, pairUp := false } } ∧ v = eachOf ((commonPlanes u (pairId u)).filter (fun pl => (getPlane u pl).state == .up)) (fun pl t => sendOverTether pl (pairId t) { kind := 6 } t) u) ∧
    (∃ (s : State) (_pl : PlaneId) (m : Bytes) (h : PairHead), tetherPair m 6 = some h ∧ s.pair.state ≠ .off) ∧
    (∃ (s : State) (_pl : PlaneId) (m : Bytes) (h : PairHead), tetherPair m 7 = some h ∧ s.pair.state = .takeover) ∧
    (∃ (s : State) (_pl : PlaneId) (m : Bytes) (h : PairHead), tetherPair m 7 = some h ∧ s.pair.state = .standby) ∧
    (∃ (s : State) (_pl : PlaneId) (_src : DevId) (m : Bytes) (h : PairHead) (up : Bool), tetherPair m 8 = some h ∧ up = (sameGroup s h.index && (bondUp s (h.index % 16) || !(relaySet s (h.index % 16)).isEmpty))) ∧
    (∃ (s : State) (_pl : PlaneId) (m : Bytes) (h : PairHead), tetherPair m 9 = some h ∧ s.pair.state = .takeover ∧ h.index = pairId s) ∧
    (∃ (s : State), s.pair.state = .takeover ∧ s.pair.probedDt + 1000000 ≤ dtNow s) ∧
    (∃ (s : State) (r : Requester) (v : Nat), sbCommand r v 1 s = true) ∧
    (∃ (s : State) (r : Requester) (v : Nat), sbCommand r v 2 s = true ∧ s.pair.state = .active) ∧
    (∃ (s : State) (r : Requester) (v : Nat), sbCommand r v 3 s = true ∧ s.pair.state = .deposed) :=
    ⟨⟨{ sbSt .waiting with cfg := { grpSt.cfg with group := { size := 4, pairMode := 2 } } }, by decide⟩,
    ⟨sbSt .waiting, pairBytes { kind := 1, digest := List.replicate 32 0 } ([]), [], { kind := 1, digest := List.replicate 32 0 }, { sbSt .waiting with pair := { (sbSt .waiting).pair with lastRx := dtNow (sbSt .waiting) } }, ⟨by decide +kernel, by decide, by decide +kernel⟩⟩,
    ⟨sbSt .waiting, pairBytes { kind := 1, digest := pairDigest (sbSt .waiting) } [], [], { kind := 1, digest := pairDigest (sbSt .waiting) }, { sbSt .waiting with pair := { (sbSt .waiting).pair with lastRx := dtNow (sbSt .waiting) } }, _, ⟨by decide +kernel, by decide, by decide +kernel, rfl⟩⟩,
    ⟨sbSt .active, pairBytes { kind := 1, digest := List.replicate 32 0 } ([]), [], { kind := 1, digest := List.replicate 32 0 }, { sbSt .active with pair := { (sbSt .active).pair with lastRx := dtNow (sbSt .active) } }, _, ⟨by decide +kernel, by decide, rfl⟩⟩,
    ⟨dtLate (sbSt .active), _, ⟨by decide, by decide, rfl⟩⟩,
    ⟨sbSt .active, by decide⟩,
    ⟨sbSt .active, 4, _, rfl⟩,
    ⟨sbSt .standby, pairBytes { kind := 5, digest := List.replicate 32 0 } ([]), [], { kind := 5, digest := List.replicate 32 0 }, { sbSt .standby with pair := { (sbSt .standby).pair with lastRx := dtNow (sbSt .standby) } }, ⟨by decide +kernel, by decide⟩⟩,
    ⟨dtLate (sbSt .standby), _, _, ⟨by decide, by decide, rfl, rfl⟩⟩,
    ⟨sbSt .active, 0, pairBytes { kind := 6, digest := List.replicate 32 0 } [], { kind := 6, digest := List.replicate 32 0 }, ⟨by decide +kernel, by decide⟩⟩,
    ⟨sbSt .takeover, 0, pairBytes { kind := 7, digest := List.replicate 32 0 } [], { kind := 7, digest := List.replicate 32 0 }, ⟨by decide +kernel, by decide⟩⟩,
    ⟨sbSt .standby, 0, pairBytes { kind := 7 } [], { kind := 7, digest := List.replicate 32 0 }, by decide +kernel, by decide⟩,
    ⟨sbSt .active, 0, 1, pairBytes { kind := 8, digest := List.replicate 32 0 } [], { kind := 8, digest := List.replicate 32 0 }, _, ⟨by decide +kernel, rfl⟩⟩,
    ⟨sbSt .takeover, 0, pairBytes { kind := 9, digest := List.replicate 32 0 } [], { kind := 9, digest := List.replicate 32 0 }, ⟨by decide +kernel, by decide, by decide⟩⟩,
    ⟨dtLate (sbSt .takeover), by decide⟩,
    ⟨sbSt .waiting, .mgt, 0x5A1E0001, by decide⟩,
    ⟨sbSt .active, .mgt, 0x5A1E0002, by decide⟩,
    ⟨sbSt .deposed, .mgt, 0x5A1E0003, by decide⟩⟩

/-- The hypotheses of MirrorsAndSnapshots can be met. -/
theorem witness_MirrorsAndSnapshots :
    (∃ (s : State) (m b : Bytes) (h : PairHead) (u : State) (p : PartId), hearPair m 2 s = some (h, b, u) ∧ msgPart u h = some p ∧ mirrors u = true ∧ h.index / 2 ^ 29 < 7 ∧ b.length = 64) ∧
    (∃ (s : State) (m b : Bytes) (h : PairHead) (u : State) (p : PartId) (v : State), hearPair m 3 s = some (h, b, u) ∧ msgPart u h = some p ∧ mirrors u = true ∧ h.index = 0 ∧ (v = updSb p (fun x => { x with newBuf := b, newEpoch := h.epoch, newFilling := true })
  (if (getPart u p).sb.newFilling = true ∧ h.epoch ≠ (getPart u p).sb.newEpoch then refuseSnapshot p u else u))) ∧
    (∃ (s : State) (m b : Bytes) (h : PairHead) (u : State) (p : PartId) (v : State), hearPair m 3 s = some (h, b, u) ∧ msgPart u h = some p ∧ mirrors u = true ∧ 0 < h.index ∧ (getPart u p).sb.newFilling = true ∧ h.epoch = (getPart u p).sb.newEpoch ∧ h.index = (getPart u p).sb.newBuf.length ∧ v = updSb p (fun x => { x with newBuf := x.newBuf ++ b }) u) ∧
    (∃ (s : State) (m b : Bytes) (h : PairHead) (u : State) (p : PartId), hearPair m 3 s = some (h, b, u) ∧ msgPart u h = some p ∧ mirrors u = true ∧ 0 < h.index ∧ (getPart u p).sb.newFilling = true ∧ h.epoch = (getPart u p).sb.newEpoch ∧ h.index ≠ (getPart u p).sb.newBuf.length) ∧
    (∃ (s : State) (m b : Bytes) (h : PairHead) (u : State) (p : PartId), hearPair m 3 s = some (h, b, u) ∧ msgPart u h = some p ∧ mirrors u = true ∧ 0 < h.index ∧ (getPart u p).sb.newFilling = false) ∧
    (∃ (s : State) (p : PartId), (partCfg s p).defined = true ∧ (getPart s p).sb.snapDt + s.cfg.tmo.snapshotUs * 1000 ≤ dtNow s) ∧
    (∃ (s : State) (m b : Bytes) (h : PairHead) (u w : State) (p : PartId), hearPair m 4 s = some (h, b, u) ∧ w = { u with pair := { u.pair with ackSt := max u.pair.ackSt h.st, ackDt := dtNow u } } ∧ msgPart w h = some p ∧ u.pair.state = .active ∧ bitOf h.flags 1 = true) ∧
    (∃ (s : State) (m b : Bytes) (h : PairHead) (u w : State) (p : PartId), hearPair m 4 s = some (h, b, u) ∧ w = { u with pair := { u.pair with ackSt := max u.pair.ackSt h.st, ackDt := dtNow u } } ∧ msgPart w h = some p ∧ u.pair.state = .active ∧ bitOf h.flags 1 = false ∧ bitOf h.flags 2 = true) ∧
    (∃ (s : State) (m b : Bytes) (h : PairHead) (u w : State) (p : PartId) (upTo : Nat → Bool), hearPair m 4 s = some (h, b, u) ∧ w = { u with pair := { u.pair with ackSt := max u.pair.ackSt h.st, ackDt := dtNow u } } ∧ msgPart w h = some p ∧ u.pair.state = .active ∧ bitOf h.flags 1 = false ∧ bitOf h.flags 2 = false ∧ (upTo = fun e => decide ((2 ^ 32 + h.epoch - e) % 2 ^ 32 < 2 ^ 31))) :=
    ⟨⟨sbSt .standby, pairBytes { kind := 2, digest := List.replicate 32 0 } (List.replicate 64 0), List.replicate 64 0, { kind := 2, digest := List.replicate 32 0 }, { sbSt .standby with pair := { (sbSt .standby).pair with lastRx := dtNow (sbSt .standby) } }, 0, ⟨by decide +kernel, by decide, by decide, by decide, by decide⟩⟩,
    ⟨sbSt .standby, pairBytes { kind := 3, digest := List.replicate 32 0 } ([]), [], { kind := 3, digest := List.replicate 32 0 }, { sbSt .standby with pair := { (sbSt .standby).pair with lastRx := dtNow (sbSt .standby) } }, 0, _, ⟨by decide +kernel, by decide, by decide, by decide, rfl⟩⟩,
    ⟨updSb 0 (fun x => { x with newFilling := true, newBuf := [0] }) (sbSt .standby), pairBytes { kind := 3, digest := List.replicate 32 0, index := 1 } ([]), [], { kind := 3, digest := List.replicate 32 0, index := 1 }, { updSb 0 (fun x => { x with newFilling := true, newBuf := [0] }) (sbSt .standby) with pair := { (updSb 0 (fun x => { x with newFilling := true, newBuf := [0] }) (sbSt .standby)).pair with lastRx := dtNow (updSb 0 (fun x => { x with newFilling := true, newBuf := [0] }) (sbSt .standby)) } }, 0, _, ⟨by decide +kernel, by decide, by decide, by decide, by decide, by decide, by decide, rfl⟩⟩,
    ⟨updSb 0 (fun x => { x with newFilling := true, newBuf := [0] }) (sbSt .standby), pairBytes { kind := 3, digest := List.replicate 32 0, index := 2 } ([]), [], { kind := 3, digest := List.replicate 32 0, index := 2 }, { updSb 0 (fun x => { x with newFilling := true, newBuf := [0] }) (sbSt .standby) with pair := { (updSb 0 (fun x => { x with newFilling := true, newBuf := [0] }) (sbSt .standby)).pair with lastRx := dtNow (updSb 0 (fun x => { x with newFilling := true, newBuf := [0] }) (sbSt .standby)) } }, 0, ⟨by decide +kernel, by decide, by decide, by decide, by decide, by decide, by decide⟩⟩,
    ⟨sbSt .standby, pairBytes { kind := 3, digest := List.replicate 32 0, index := 2 } ([]), [], { kind := 3, digest := List.replicate 32 0, index := 2 }, { sbSt .standby with pair := { (sbSt .standby).pair with lastRx := dtNow (sbSt .standby) } }, 0, ⟨by decide +kernel, by decide, by decide, by decide, by decide⟩⟩,
    ⟨dtLate (sbSt .active), 0, by decide⟩,
    ⟨sbSt .active, pairBytes { kind := 4, digest := List.replicate 32 0, flags := 2 } [], [], { kind := 4, digest := List.replicate 32 0, flags := 2 }, { sbSt .active with pair := { (sbSt .active).pair with lastRx := dtNow (sbSt .active) } }, _, 0, ⟨by decide +kernel, rfl, by decide, by decide, by decide⟩⟩,
    ⟨sbSt .active, pairBytes { kind := 4, digest := List.replicate 32 0, flags := 4 } [], [], { kind := 4, digest := List.replicate 32 0, flags := 4 }, { sbSt .active with pair := { (sbSt .active).pair with lastRx := dtNow (sbSt .active) } }, _, 0, ⟨by decide +kernel, rfl, by decide, by decide, by decide, by decide⟩⟩,
    ⟨sbSt .active, pairBytes { kind := 4, digest := List.replicate 32 0, flags := 0 } [], [], { kind := 4, digest := List.replicate 32 0, flags := 0 }, { sbSt .active with pair := { (sbSt .active).pair with lastRx := dtNow (sbSt .active) } }, _, 0, _, ⟨by decide +kernel, rfl, by decide, by decide, by decide, by decide, rfl⟩⟩⟩

/-- The hypotheses of PowerStatesRailAndSensors can be met. -/
theorem witness_PowerStatesRailAndSensors :
    (∃ (s : State) (r : Requester) (v p : Nat) (pinned : Bool), pwrCtl r v 1 s = some p ∧ pinned = (s.cfg.clock.pinPstate.any (fun x => x != p))) ∧
    (∃ (s : State), s.power.changing = true ∧ clocked s = true) ∧
    (∃ (s : State) (mv bad good : Nat) (t : Int), s.boot.coreFabLock = true ∧ clocked s = true ∧ s.power.railOor = false ∧ t = vddTarget s.power.target ∧ (bad = (if s.power.changing = true ∨ ((((mv : Int) - t).natAbs * 100 : Nat) : Int) ≤ 5 * t then 0 else s.power.railBad + 1)) ∧ good = (if ((((mv : Int) - t).natAbs * 100 : Nat) : Int) ≤ 3 * t then s.power.railGood + 1 else 0)) ∧
    (∃ (s : State) (mv bad good : Nat) (t : Int), s.boot.coreFabLock = true ∧ clocked s = true ∧ s.power.railOor = true ∧ t = vddTarget s.power.target ∧ (bad = (if s.power.changing = true ∨ ((((mv : Int) - t).natAbs * 100 : Nat) : Int) ≤ 5 * t then 0 else s.power.railBad + 1)) ∧ good = (if ((((mv : Int) - t).natAbs * 100 : Nat) : Int) ≤ 3 * t then s.power.railGood + 1 else 0)) ∧
    (∃ (s : State) (x : List Int) (t : Vector Int 18), clocked s = true ∧ (t = Vector.ofFn (fun i => x.getD i.val s.power.sensors[i]))) ∧
    (∃ (s : State) (_k : Fin 6) (_x : Int), clocked s = true) ∧
    (∃ (s : State) (n : Nat) (u : State), clocked s = true ∧ s.power.winIdx = dtNow s / 10000 ∧ u = energyStep n { s with power := { s.power with winSum := s.power.winSum + n, winCount := s.power.winCount + 1 } }) ∧
    (∃ (s : State) (n : Nat) (t u v : State), clocked s = true ∧ s.power.winIdx ≠ dtNow s / 10000 ∧ t = windowEnd s ∧ v = { t with power := { t.power with winIdx := dtNow s / 10000, winSum := t.power.winSum + n, winCount := t.power.winCount + 1 } } ∧ u = energyStep n v) ∧
    (∃ (s : State) (_x : Nat), (s.power.clampEdp || s.power.clampLimit) = true) ∧
    (∃ (s : State) (r : Requester) (_v : Nat), mgtOpen r s = true) ∧
    (∃ (s : State) (r : Requester) (_v : Nat), mgtOpen r s = false) :=
    ⟨⟨pwSt id, .mgt, 0x9A7E0001, 0, _, ⟨by decide, rfl⟩⟩,
    ⟨pwSt (fun w => { w with changing := true }), by decide⟩,
    ⟨pwSt id, 870, _, _, _, ⟨by decide, by decide, by decide, rfl, rfl, rfl⟩⟩,
    ⟨pwSt (fun w => { w with railOor := true }), 870, _, _, _, ⟨by decide, by decide, by decide, rfl, rfl, rfl⟩⟩,
    ⟨pwSt id, [], _, ⟨by decide, rfl⟩⟩,
    ⟨pwSt id, 0, 800, by decide⟩,
    ⟨pwSt id, 500, _, ⟨by decide, by decide, rfl⟩⟩,
    ⟨pwSt (fun w => { w with winIdx := 7 }), 500, _, _, _, ⟨by decide, by decide, rfl, rfl, rfl⟩⟩,
    ⟨pwSt (fun w => { w with clampEdp := true }), 0, by decide⟩,
    ⟨pwSt id, .mgt, 0, by decide⟩,
    ⟨State.reset, .mgt, 0, by decide⟩⟩

/-- The hypotheses of ClusterGatingAndQuiet can be met. -/
theorem witness_ClusterGatingAndQuiet :
    (∃ (s : State) (r : Requester) (v : Nat) (c : ClusterId), (pwrCtl r v 2 s).bind clusterNo = some c) ∧
    (∃ (s : State), s.boot.state = .ready ∧ s.power.noticeAt + 10000000 ≤ upNs s) ∧
    (∃ (s : State) (n : Bytes) (d seq : Nat) (u v : State), leAt n 28 4 = crc32c (bytesAt n 0 28) ∧ d = leAt n 0 2 % 2 ^ 14 ∧ seq = leAt n 4 4 ∧ (u = eachOf allPlanes (fun pl s => updPlane s pl (fun q => { q with pool := dropFirst (fun x => x.2 == n) q.pool })) s) ∧ v = learnStart d (leAt n 16 4) u) ∧
    (∃ (_s : State) (n : Bytes), leAt n 28 4 ≠ crc32c (bytesAt n 0 28)) ∧
    (∃ (s : State) (c : ClusterId), (getCluster s c).state = .closing ∧ (getCluster s c).since + s.power.closeUs * 1000 ≤ upNs s) ∧
    (∃ (s : State) (c : ClusterId), (getCluster s c).state = .draining ∧ leadsPass s c = false ∧ ((∀ p : PartId, (getPart s p).rows.any (heldAt c) = false))) ∧
    (∃ (s : State) (c : ClusterId) (u : State), (getCluster s c).state = .draining ∧ (getCluster s c).since + 500000 ≤ upNs s ∧ u = setCluster c .isolated s) ∧
    (∃ (s : State) (_p : PartId) (x : RowRec), x.src ≠ ownId s) ∧
    (∃ (s : State) (p : PartId) (x : RowRec) (u : State), x.src = ownId s ∧ u = cntPower 0x00130018 1 (dropRow p x.tag s)) ∧
    (∃ (s : State) (c : ClusterId), (getCluster s c).state = .isolated ∧ (getCluster s c).waking = false ∧ (getCluster s c).since + 20000 ≤ upNs s) ∧
    (∃ (s : State) (r : Requester) (v : Nat) (c : ClusterId), (pwrCtl r v 3 s).bind clusterNo = some c ∧ (getCluster s c).disabled = false ∧ bistKeeps s c = false ∧ s.boot.state ≠ .safe) ∧
    (∃ (s : State) (r : Requester) (v : Nat) (c : ClusterId), (pwrCtl r v 3 s).bind clusterNo = some c ∧ (((getCluster s c).disabled || bistKeeps s c) = true ∨ s.boot.state = .safe)) ∧
    (∃ (s : State) (c : ClusterId), (getCluster s c).waking = true ∧ s.boot.state ≠ .safe) ∧
    (∃ (s : State) (r : Requester) (v a : Nat), pwrCtl r v 4 s = some a ∧ quietOk s = false) ∧
    (∃ (s : State) (r : Requester) (v a : Nat) (u : State), pwrCtl r v 4 s = some a ∧ quietOk s = true ∧ s.power.quiet = false ∧ u = { s with power := { s.power with quiet := true, saved := s.boot.pstate, rowDts := [] } }) ∧
    (∃ (s : State) (r : Requester) (v a : Nat), pwrCtl r v 4 s = some a ∧ quietOk s = true ∧ s.power.quiet = true) ∧
    (∃ (s : State) (r : Requester) (v a : Nat), pwrCtl r v 5 s = some a) :=
    ⟨⟨clSt .on, .mgt, 0x9A7E0002, 0, by decide⟩,
    ⟨upLate portSt, by decide⟩,
    ⟨portSt, (let b : Bytes := toLe 4 (1 + 2 ^ 16) ++ toLe 4 1 ++ List.replicate 20 0; b ++ toLe 4 (crc32c b)), _, _, _, _, ⟨by decide +kernel, rfl, rfl, rfl, rfl⟩⟩,
    ⟨portSt, [], by decide +kernel⟩,
    ⟨upLate (clSt .closing), 0, by decide⟩,
    ⟨clSt .draining, 0, by decide⟩,
    ⟨upLate (clSt .draining), 0, _, ⟨by decide, by decide, rfl⟩⟩,
    ⟨grpSt, 0, { src := 5 }, by decide⟩,
    ⟨clSt .draining, 0, {}, _, ⟨by decide, rfl⟩⟩,
    ⟨upLate (clSt .isolated), 0, by decide⟩,
    ⟨clSt .off, .mgt, 0x9A7E0003, 0, by decide⟩,
    ⟨{ clSt .off with bist := { parked := true } }, .mgt, 0x9A7E0003, 0, by decide⟩,
    ⟨updCluster (clSt .off) 0 (fun q => { q with waking := true }), 0, by decide⟩,
    ⟨portSt, .mgt, 0x9A7E0004, 0, by decide⟩,
    ⟨{ portSt with cfg := {} }, .mgt, 0x9A7E0004, 0, _, ⟨by decide, by decide, by decide, rfl⟩⟩,
    ⟨{ portSt with cfg := {}, power := { quiet := true } }, .mgt, 0x9A7E0004, 0, by decide⟩,
    ⟨portSt, .mgt, 0x9A7E0005, 0, by decide⟩⟩

/-- The hypotheses of SignedCommandsOfTheMailbox can be met. -/
theorem witness_SignedCommandsOfTheMailbox :
    (∃ (s : State) (b : Bytes) (n : Nat) (u : Nat × State) (w : State), clocked s = true ∧ secServed s = true ∧ s.sec.cmdBusy = false ∧ b = secBuf s ∧ n = secOp b ∧ argRefused s b = false ∧ secCheck s b 0 = 0 ∧ u = secAct n b { s with sec := { s.sec with failRun := 0 } } ∧ w = (if u.1 = 0 then secEnd n 0 u.2 else secEnd n u.1 (secLog 0x0031 1 u.1 (toLe 2 n) u.2))) ∧
    (∃ (s : State) (b : Bytes) (n k : Nat), clocked s = true ∧ secServed s = true ∧ s.sec.cmdBusy = false ∧ b = secBuf s ∧ n = secOp b ∧ argRefused s b = false ∧ k = secCheck s b 0 ∧ k ≠ 0 ∧ k ≠ 2) ∧
    (∃ (s : State) (b : Bytes) (n : Nat), clocked s = true ∧ secServed s = true ∧ s.sec.cmdBusy = false ∧ b = secBuf s ∧ n = secOp b ∧ argRefused s b = false ∧ secCheck s b 0 = 2) ∧
    (∃ (s : State), s.sec.lockedAt + 10000000000 ≤ upNs s) :=
    ⟨⟨secSt 1 (List.replicate 50 0) .blank, _, _, _, _, ⟨by decide, by decide, by decide, rfl, rfl, by decide +kernel, by decide +kernel, rfl, rfl⟩⟩,
    ⟨{ secSt 1 [] .blank with sec := { (secSt 1 [] .blank).sec with locked := true } }, _, _, _, ⟨by decide, by decide, by decide, rfl, rfl, by decide +kernel, rfl, by decide +kernel, by decide +kernel⟩⟩,
    ⟨secSt 2 [] .provisioned, _, _, ⟨by decide, by decide, by decide, rfl, rfl, by decide +kernel, by decide +kernel⟩⟩,
    ⟨upLate portSt, by decide⟩⟩

/-- The hypotheses of AttestationIdeAndJtag can be met. -/
theorem witness_AttestationIdeAndJtag :
    (∃ (s : State) (d : SpdmBinding) (_off _len : Nat), spdmGate d s = some true) ∧
    (∃ (s : State) (d : SpdmBinding) (slot _off _len : Nat) (_nn : Bytes), spdmGate d s = some true ∧ slot ≠ 0) ∧
    (∃ (s : State) (d : SpdmBinding) (_nn own : Bytes) (u : State), spdmGate d s = some true ∧ drbgBytes 32 s = (own, u)) ∧
    (∃ (s : State) (d : SpdmBinding) (op : Nat) (_nn own : Bytes) (u : State) (l : List (Nat × Bytes)) (body : Bytes), spdmGate d s = some true ∧ (if op = 0 then some [] else if op = 0xFF then some (measuredAll d s) else (measured d s op).map (fun b => [(op, b)])) = some l ∧ drbgBytes 32 s = (own, u) ∧ body = toLe 1 (if op = 0 then (measuredAll d s).length else l.length) ++ blockBytes l ++ own) ∧
    (∃ (s : State) (d : SpdmBinding) (op : Nat) (_nn : Bytes), spdmGate d s = some true ∧ op ≠ 0 ∧ op ≠ 0xFF ∧ measured d s op = none) ∧
    (∃ (s : State) (k : PortId) (p : PartId), partOf s k ≠ some p) ∧
    (∃ (s : State) (d : SpdmBinding) (_share own : Bytes) (u : State), spdmGate d s = some true ∧ s.sec.sessions.length < 8 ∧ drbgBytes 96 s = (own, u)) ∧
    (∃ (s : State) (d : SpdmBinding) (_share : Bytes), spdmGate d s = some true ∧ 8 ≤ s.sec.sessions.length) ∧
    (∃ (s : State) (d : SpdmBinding) (n : Nat) (x : SpdmSession), spdmGate d s = some true ∧ findSession s d n = some x) ∧
    (∃ (s : State) (d : SpdmBinding) (n : Nat), spdmGate d s = some true ∧ findSession s d n = none) ∧
    (∃ (s : State) (k : PortId) (n : Nat) (x : SpdmSession) (_i : Fin 5), spdmGate (.doe k) s = some true ∧ findSession s (.doe k) n = some x) ∧
    (∃ (s : State) (k : PortId) (n : Nat) (x : SpdmSession) (_i : Fin 5) (_set : Fin 12) (_key : Nat), spdmGate (.doe k) s = some true ∧ findSession s (.doe k) n = some x) ∧
    (∃ (s : State) (k : PortId) (n : Nat) (x : SpdmSession) (i : Fin 5) (set : Fin 12) (y : IdeStream) (act : List Nat) (u : State), spdmGate (.doe k) s = some true ∧ findSession s (.doe k) n = some x ∧ y = (getPort s k).ide[i] ∧ y.keys.getD set.val 0 ≠ 0 ∧ act = y.active.set (set.val / 2) (set.val % 2) ∧ u = updPort s k (fun q => { q with dmaStopped := q.dmaStopped && !act.all (fun a => decide (a < 2)), ide := q.ide.set i { y with active := act, secure := act.all (fun a => decide (a < 2)) } })) ∧
    (∃ (s : State) (k : PortId) (n : Nat) (x : SpdmSession) (i : Fin 5) (set : Fin 12) (u : State), spdmGate (.doe k) s = some true ∧ findSession s (.doe k) n = some x ∧ (getPort s k).ide[i].active.getD (set.val / 2) 2 = set.val % 2 ∧ u = ideInsecure k i s) ∧
    (∃ (s : State) (ir : Nat), clocked s = true ∧ jtagActs s ir = false) ∧
    (∃ (s : State) (ir : Nat), clocked s = true ∧ jtagActs s ir = true ∧ ir ≠ 0x20 ∧ ir ≠ 0x01) ∧
    (∃ (s : State), clocked s = true) ∧
    (∃ (s u : State), clocked s = true ∧ lifeCycle s = .debugUnlocked ∧ u = (if s.sec.jtagOpen = true then s else secLog 0x0070 3 0 [] { s with sec := { s.sec with jtagOpen := true } })) ∧
    (∃ (s : State) (n : Nat), clocked s = true ∧ s.boot.state ≠ .error ∧ s.boot.state ≠ .warmReset ∧ (n = 11 ∨ n = 12)) ∧
    (∃ (s : State), s.boot.state = .error ∧ s.boot.retry < 3 ∧ s.boot.stageNs + 10000000 ≤ upNs s) ∧
    (∃ (s : State), s.boot.state = .error ∧ 3 ≤ s.boot.retry) :=
    ⟨⟨portSt, .mctp, 0, 0, by decide⟩,
    ⟨portSt, .mctp, 1, 0, 0, [], by decide⟩,
    ⟨portSt, .mctp, [], _, _, ⟨by decide, rfl⟩⟩,
    ⟨portSt, .mctp, 0, [], _, _, _, _, ⟨by decide, rfl, rfl, rfl⟩⟩,
    ⟨portSt, .mctp, 9, [], ⟨by decide, by decide, by decide, by rfl⟩⟩,
    ⟨portSt, 0, 1, by decide⟩,
    ⟨portSt, .mctp, [], _, _, ⟨by decide, by decide, rfl⟩⟩,
    ⟨{ portSt with sec := { sessions := List.replicate 8 { id := 1, binding := .mctp, key := 0 } } }, .mctp, [], by decide⟩,
    ⟨sessSt, .doe 0, 1, { id := 1, binding := .doe 0, key := 0 }, by decide⟩,
    ⟨portSt, .mctp, 0, by decide⟩,
    ⟨sessSt, 0, 1, { id := 1, binding := .doe 0, key := 0 }, 0, by decide⟩,
    ⟨sessSt, 0, 1, { id := 1, binding := .doe 0, key := 0 }, 0, 0, 0, by decide⟩,
    ⟨updPort sessSt 0 (fun q => { q with ide := q.ide.set 0 { q.ide[0] with keys := List.replicate 12 1 } }), 0, 1, { id := 1, binding := .doe 0, key := 0 }, 0, 0, _, _, _, ⟨by decide, by decide, rfl, by decide, rfl, rfl⟩⟩,
    ⟨updPort sessSt 0 (fun q => { q with ide := q.ide.set 0 { q.ide[0] with active := List.replicate 6 0 } }), 0, 1, { id := 1, binding := .doe 0, key := 0 }, 0, 0, _, ⟨by decide, by decide, by decide, rfl⟩⟩,
    ⟨portSt, 0x20, by decide⟩,
    ⟨portSt, 0xFF, by decide⟩,
    ⟨portSt, by decide⟩,
    ⟨{ portSt with fuses := secFuses .debugUnlocked }, _, ⟨by decide, by decide, rfl⟩⟩,
    ⟨portSt, 11, by decide⟩,
    ⟨upLate (atBoot .error), by decide⟩,
    ⟨{ State.reset with boot := { state := .error, retry := 3 } }, by decide⟩⟩

/-- The hypotheses of BuiltInSelfTestRuns can be met. -/
theorem witness_BuiltInSelfTestRuns :
    (∃ (s : State) (r : Requester) (v u : Nat), bstCtl r v 1 s = true ∧ u = s.bist.units ∧ s.boot.state = .ready ∧ lifeCycle s = .provisioned ∧ s.bist.parked = false ∧ s.bist.run = none ∧ ((∀ k : ClusterId, bitOf u k.val = true → gated s k = true)) ∧ (bitsOf u 11 8 = 0 ∨ (anyJob s = false ∧ deviceModels s = 0))) ∧
    (∃ (s : State) (r : Requester) (v : Nat), bstCtl r v 1 s = true ∧ (s.boot.state ≠ .ready ∨ lifeCycle s ≠ .provisioned ∨ s.bist.parked = true)) ∧
    (∃ (s : State) (r : Requester) (v : Nat), bstCtl r v 1 s = true ∧ s.boot.state = .ready ∧ lifeCycle s = .provisioned ∧ s.bist.parked = false ∧ s.bist.run ≠ none) ∧
    (∃ (s : State) (r : Requester) (v : Nat) (k : ClusterId), bstCtl r v 1 s = true ∧ s.boot.state = .ready ∧ lifeCycle s = .provisioned ∧ s.bist.parked = false ∧ s.bist.run = none ∧ bitOf s.bist.units k.val = true ∧ gated s k = false) ∧
    (∃ (s : State) (r : Requester) (v : Nat), bstCtl r v 1 s = true ∧ s.boot.state = .ready ∧ lifeCycle s = .provisioned ∧ s.bist.parked = false ∧ s.bist.run = none ∧ (∀ k : ClusterId, bitOf s.bist.units k.val = true → gated s k = true) ∧ bitsOf s.bist.units 11 8 ≠ 0 ∧ (anyJob s = true ∨ deviceModels s ≠ 0)) ∧
    (∃ (s : State) (r : Requester) (v : Nat), bstCtl r v 2 s = true ∧ (s.boot.state ≠ .ready ∨ s.bist.parked = true)) ∧
    (∃ (s : State) (r : Requester) (v : Nat), bstCtl r v 2 s = true ∧ s.boot.state = .ready ∧ s.bist.parked = false ∧ s.bist.run ≠ none) ∧
    (∃ (s : State) (r : Requester) (v n : Nat) (u w : State), bstCtl r v 2 s = true ∧ s.boot.state = .ready ∧ s.bist.parked = false ∧ s.bist.run = none ∧ anyJob s = false ∧ n = s.bist.shutdownSeq + 1 ∧ (u = eachOf allClusters (fun k t => setCluster k .isolated (updCluster t k (fun q => { q with waking := false }))) { s with bist := { s.bist with shutdownSeq := n } }) ∧ w = setP2 (linksOff (noticeChange (inService s) u))) ∧
    (∃ (s : State) (r : Requester) (v : Nat), bstCtl r v 2 s = true ∧ s.boot.state = .ready ∧ s.bist.parked = false ∧ s.bist.run = none ∧ anyJob s = true) ∧
    (∃ (s : State) (_n : Nat), s.sec.jtagIr = 0x30 ∧ lifeCycle s = .blank ∧ s.bist.run = none ∧ clocked s = true) ∧
    (∃ (_s : State) (x : BistRun) (k : Nat) (l : List Nat), x.todo = k :: l) ∧
    (∃ (s : State) (x : BistRun) (k res det m : Nat) (u w : State) (left : BistRun), s.bist.run = some x ∧ x.batch.contains k = true ∧ res ≤ 1 ∧ m = (if res = 1 then det % 2 ^ 32 else 0) ∧ u = unitRecord x.trigger k res 0 m ((s.boot.sinceNs - x.startNs) / 1000) (reinitUnit k s) ∧ left = { x with batch := x.batch.filter (· ≠ k) } ∧ w = { u with bist := { standAfter k (res == 0) m u.bist with run := some left } }) ∧
    (∃ (s : State) (x : BistRun) (cause : Nat) (y : BistRun) (u w : State), s.bist.run = some x ∧ x.batch ≠ [] ∧ (1 ≤ cause ∧ cause ≤ 3) ∧ y = { x with batch := [] } ∧ (u = x.batch.foldl (fun t k => unitRecord x.trigger k 2 cause 0 ((s.boot.sinceNs - x.startNs) / 1000) (reinitUnit k t)) s) ∧ w = { u with bist := { u.bist with run := some y } }) :=
    ⟨⟨bistSt {}, .mgt, 0xB1570001, _, ⟨by decide, rfl, by decide, by decide, by decide, by decide, by decide, by decide⟩⟩,
    ⟨portSt, .mgt, 0xB1570001, by decide⟩,
    ⟨bistSt { run := some {} }, .mgt, 0xB1570001, by decide⟩,
    ⟨{ bistSt { units := 1 } with clusters := .replicate 8 { state := .on } }, .mgt, 0xB1570001, 0, by decide⟩,
    ⟨updJob (bistSt { units := 0x800 }) 0 (fun j => { j with open_ := true }), .mgt, 0xB1570001, by decide⟩,
    ⟨{ bistSt {} with boot := { state := .safe } }, .mgt, 0xB1570002, by decide⟩,
    ⟨bistSt { run := some {} }, .mgt, 0xB1570002, by decide⟩,
    ⟨bistSt {}, .mgt, 0xB1570002, _, _, _, ⟨by decide, by decide, by decide, by decide, by decide, rfl, rfl, rfl⟩⟩,
    ⟨updJob (bistSt {}) 0 (fun j => { j with open_ := true }), .mgt, 0xB1570002, by decide⟩,
    ⟨{ portSt with sec := { jtagIr := 0x30 } }, 1, by decide⟩,
    ⟨portSt, { todo := [0] }, 0, [], by decide⟩,
    ⟨bistSt { run := some { batch := [0x13] } }, { batch := [0x13] }, 0x13, 0, 0, _, _, _, _, ⟨by decide, by decide, by decide, rfl, rfl, rfl, rfl⟩⟩,
    ⟨bistSt { run := some { batch := [0x13] } }, { batch := [0x13] }, 2, _, _, _, ⟨by decide, by decide, by decide, rfl, rfl, rfl⟩⟩⟩

/-- The hypotheses of ManagementMessages can be met. -/
theorem witness_ManagementMessages :
    (∃ (s : State) (r : Requester) (v n : Nat), mgtOpen r s = true ∧ n = (2 ^ 32 + v % 2 ^ 32 - s.mgt.head % 2 ^ 32) % 2 ^ 32 ∧ s.mgt.head + n ≤ s.mgt.tail) ∧
    (∃ (s : State) (_r : Requester) (v n : Nat), n = (2 ^ 32 + v % 2 ^ 32 - s.mgt.head % 2 ^ 32) % 2 ^ 32 ∧ s.mgt.tail < s.mgt.head + n) ∧
    (∃ (s : State) (d : MctpBinding) (op e : Nat), mctpOpen d s = true ∧ op ≤ 1 ∧ 1 ≤ e ∧ e < 0xFF) ∧
    (∃ (s : State) (d : MctpBinding) (op _e : Nat), mctpOpen d s = true ∧ 1 < op) ∧
    (∃ (s : State), clocked s = true) ∧
    (∃ (s : State) (x : Nat) (b : Bytes), s.mgt.smbLast = some (x, b) ∧ s.mgt.smbAt + 1000000 ≤ upNs s) ∧
    (∃ (s : State), s.boot.state = .tripped) ∧
    (∃ (s : State) (d : MctpBinding) (a n : Nat) (l : List Nat) (u : State), mctpOpen d s = true ∧ 1 ≤ n ∧ n ≤ 16 ∧ (l = (List.range n).map (fun i => a + 4 * i)) ∧ u = { s with errSelect := 4 }) ∧
    (∃ (s : State) (d : MctpBinding) (_a n : Nat), mctpOpen d s = true ∧ (n = 0 ∨ 16 < n)) ∧
    (∃ (s : State) (d : MctpBinding) (_k off n : Nat), mctpOpen d s = true ∧ (1024 < n ∨ 4096 < off + n)) ∧
    (∃ (s : State) (d : MctpBinding) (m : Nat) (_b : Bytes), mctpOpen d s = true ∧ (m < 0x10 ∨ 0x1F < m)) ∧
    (∃ (s : State) (d : MctpBinding) (m : Nat) (b : Bytes), mctpOpen d s = true ∧ 0x10 ≤ m ∧ m ≤ 0x1F ∧ s.boot.state = .ready ∧ s.mgt.fwState = 1 ∧ 1024 < b.length) ∧
    (∃ (s : State) (d : MctpBinding) (b : Bytes) (u : State) (x : State × Bool), mctpOpen d s = true ∧ (s.boot.state = .ready ∨ s.boot.state = .safe) ∧ b.length ≤ 1024 ∧ u = { s with sec := { s.sec with cmdBuf := memWriteN s.sec.cmdBuf 0 b } } ∧ x = (if secServed u = true then secTry u else (u, false))) ∧
    (∃ (s : State) (d : MctpBinding) (_b : Bytes), mctpOpen d s = true ∧ s.boot.state ≠ .ready ∧ s.boot.state ≠ .safe) ∧
    (∃ (s : State) (d : MctpBinding) (_k off n : Nat), mctpOpen d s = true ∧ n ≤ 1024 ∧ off + n ≤ 4096) ∧
    (∃ (s : State) (d : MctpBinding) (m : Nat) (b : Bytes), mctpOpen d s = true ∧ 0x10 ≤ m ∧ m ≤ 0x1F ∧ s.boot.state = .ready ∧ s.mgt.fwState = 1 ∧ b.length ≤ 1024) ∧
    (∃ (s : State) (d : MctpBinding) (m : Nat) (_b : Bytes), mctpOpen d s = true ∧ 0x10 ≤ m ∧ m ≤ 0x1F ∧ (s.boot.state ≠ .ready ∨ s.mgt.fwState ≠ 1)) ∧
    (∃ (s : State) (d : MctpBinding) (m : Nat), s.mgt.msgPending = some (m, d) ∧ s.mgt.msgAt + 100000000 ≤ upNs s) ∧
    (∃ (s : State) (d : MctpBinding) (m : Nat) (r : Requester) (v : Nat), s.mgt.msgPending = some (m, d) ∧ mgtOpen r s = true ∧ bitOf v 31 = true ∧ bitsOf v 10 0 ≤ 1024) ∧
    (∃ (s : State) (_r : Requester) (_v : Nat), s.mgt.msgPending = none) :=
    ⟨⟨mgSt (fun m => { m with tail := 2 }), .mgt, 1, _, ⟨by decide, rfl, by decide⟩⟩,
    ⟨mgSt id, .mgt, 1, _, ⟨rfl, by decide⟩⟩,
    ⟨portSt, .smbus, 0, 9, by decide⟩,
    ⟨portSt, .smbus, 2, 9, by decide⟩,
    ⟨portSt, by decide⟩,
    ⟨upLate (mgSt (fun m => { m with smbLast := some (1, []) })), 1, [], by decide⟩,
    ⟨atBoot .tripped, by decide⟩,
    ⟨portSt, .smbus, 0, 1, _, _, ⟨by decide, by decide, by decide, rfl, rfl⟩⟩,
    ⟨portSt, .smbus, 0, 17, by decide⟩,
    ⟨portSt, .smbus, 0, 4000, 1024, by decide⟩,
    ⟨portSt, .smbus, 0x20, [], by decide⟩,
    ⟨mgSt (fun m => { m with fwState := 1 }), .smbus, 0x10, List.replicate 1025 0, by decide +kernel⟩,
    ⟨portSt, .smbus, [], _, _, ⟨by decide, by decide, by decide, rfl, rfl⟩⟩,
    ⟨atBoot .error, .smbus, [], by decide⟩,
    ⟨portSt, .smbus, 0, 0, 64, by decide⟩,
    ⟨mgSt (fun m => { m with fwState := 1 }), .smbus, 0x10, [], by decide⟩,
    ⟨portSt, .smbus, 0x10, [], by decide⟩,
    ⟨upLate (mgSt (fun m => { m with msgPending := some (16, .smbus) })), .smbus, 16, by decide⟩,
    ⟨mgSt (fun m => { m with msgPending := some (16, .smbus) }), .smbus, 16, .mgt, 2 ^ 31, by decide⟩,
    ⟨portSt, .mgt, 0, by decide⟩⟩

/-- The hypotheses of SensorsAndFirmwareUpdate can be met. -/
theorem witness_SensorsAndFirmwareUpdate :
    (∃ (s : State) (d : MctpBinding) (_n : Nat), mctpOpen d s = true) ∧
    (∃ (s : State) (d : MctpBinding) (_n : Nat), mctpOpen d s = true) ∧
    (∃ (s : State) (d : MctpBinding) (n : Nat), s.mgt.eventReceiver = some d ∧ mctpOpen d s = true ∧ n ∈ sensorIds ∧ sensorUp s n = true ∧ sensorLevel s n ≠ tabGet 0 s.mgt.sensorLast n ∧ (tabGet 0 s.mgt.sensorAt n = 0 ∨ tabGet 0 s.mgt.sensorAt n + 1000000000 ≤ upNs s + 1)) ∧
    (∃ (s : State) (_n : Nat), s.mgt.eventReceiver = none) ∧
    (∃ (s : State) (d : MctpBinding) (_a _b : Nat), mctpOpen d s = true ∧ (lifeCycle s = .blank ∨ lifeCycle s = .decommissioned ∨ s.boot.state = .error ∨ commitHoldsImage s = true)) ∧
    (∃ (s : State) (d : MctpBinding) (_a _b : Nat), mctpOpen d s = true ∧ lifeCycle s ≠ .blank ∧ lifeCycle s ≠ .decommissioned ∧ s.boot.state ≠ .error ∧ commitHoldsImage s = false) ∧
    (∃ (s : State) (d : MctpBinding) (_a _b _x : Nat), mctpOpen d s = true ∧ s.mgt.update.phase = .requested) ∧
    (∃ (s : State) (d : MctpBinding) (_a _b _x : Nat), mctpOpen d s = true ∧ s.mgt.update.phase = .tablePassed) ∧
    (∃ (s : State), s.mgt.update.phase = .erasing ∧ bankInUse s s.mgt.update.bankB = true) ∧
    (∃ (s : State), s.mgt.update.phase = .erasing ∧ bankInUse s s.mgt.update.bankB = false) ∧
    (∃ (s : State) (d : MctpBinding) (b : Bytes) (u : State), mctpOpen d s = true ∧ (s.mgt.update.phase = .requested ∨ s.mgt.update.phase = .tablePassed) ∧ d = s.mgt.update.agent ∧ s.mgt.update.headerHeld = false ∧ b.length = 512 ∧ u = updUpdate (fun u => { u with hold := memWriteN [] 0 b, headerHeld := true }) s) ∧
    (∃ (s : State) (d : MctpBinding) (o : Nat) (b : Bytes) (u : State), mctpOpen d s = true ∧ s.mgt.update.phase = .transferring ∧ d = s.mgt.update.agent ∧ o = s.mgt.update.nextOffset ∧ o < s.mgt.update.length ∧ b.length = min 4096 (s.mgt.update.length - o) ∧ u = updUpdate (fun u => { u with nextOffset := o + b.length }) (if o = 0 then updUpdate (fun u => { u with hold := memWriteN [] 0 b }) s
  else { s with flash := flashWriteN s.flash (bankBase s.mgt.update.bankB + o) b })) ∧
    (∃ (s : State), (s.mgt.update.phase = .requested ∨ s.mgt.update.phase = .tablePassed) ∧ s.mgt.update.headerHeld = false) ∧
    (∃ (s : State), s.mgt.update.phase = .transferring ∧ s.mgt.update.nextOffset < s.mgt.update.length) ∧
    (∃ (s : State), s.mgt.update.phase = .transferring ∧ s.mgt.update.length ≤ s.mgt.update.nextOffset) ∧
    (∃ (s : State) (ok : Bool), s.mgt.update.phase = .verifying ∧ ok = (newHeader s s.mgt.update.bankB (memReadN s.mgt.update.hold 0 512) == 0 && (verifyImage s (heldImage s) s.mgt.update.bankB).isOk)) ∧
    (∃ (s u : State), s.mgt.update.phase = .applying ∧ u = secLog 0x0040 0 0 (toLe 1 (b2n s.mgt.update.bankB) ++ toLe 8 (bankSeq s.flash s.mgt.update.bankB)) s) ∧
    (∃ (s : State) (d : MctpBinding), mctpOpen d s = true) ∧
    (∃ (s : State) (d : MctpBinding) (u : State), mctpOpen d s = true ∧ u = (if s.mgt.update.phase = .complete then updUpdate (fun _ => {}) s else s) ∧ s.boot.state = .ready) ∧
    (∃ (s : State) (d : MctpBinding) (u : State), mctpOpen d s = true ∧ u = (if s.mgt.update.phase = .complete then updUpdate (fun _ => {}) s else s) ∧ s.boot.state = .safe) ∧
    (∃ (s : State) (t : Nat), s.mgt.activationAt = some t ∧ s.boot.state = .safe ∧ t + 100000000 ≤ upNs s) :=
    ⟨⟨portSt, .smbus, 1, by decide⟩,
    ⟨portSt, .smbus, 1, by decide⟩,
    ⟨mgSt (fun m => { m with eventReceiver := some .smbus }), .smbus, 1, by decide⟩,
    ⟨portSt, 1, by decide⟩,
    ⟨portSt, .smbus, 0, 0, by decide⟩,
    ⟨upSt {}, .smbus, 0, 0, by decide⟩,
    ⟨upSt { phase := .requested }, .smbus, 0, 0, 0, by decide⟩,
    ⟨upSt { phase := .tablePassed }, .smbus, 0, 0, 0, by decide⟩,
    ⟨{ upSt { phase := .erasing } with img := { chosen := some false } }, by decide⟩,
    ⟨upSt { phase := .erasing }, by decide⟩,
    ⟨upSt { phase := .requested }, .smbus, List.replicate 512 0, _, ⟨by decide, by decide, by decide, by decide, by decide, rfl⟩⟩,
    ⟨upSt { phase := .transferring, length := 1 }, .smbus, 0, [0], _, ⟨by decide, by decide, by decide, by decide, by decide, by decide, rfl⟩⟩,
    ⟨upSt { phase := .requested }, by decide⟩,
    ⟨upSt { phase := .transferring, length := 1 }, by decide⟩,
    ⟨upSt { phase := .transferring }, by decide⟩,
    ⟨upSt { phase := .verifying }, _, ⟨by decide, rfl⟩⟩,
    ⟨upSt { phase := .applying }, _, ⟨by decide, rfl⟩⟩,
    ⟨portSt, .smbus, by decide⟩,
    ⟨portSt, .smbus, _, ⟨by decide, rfl, by decide⟩⟩,
    ⟨atBoot .safe, .smbus, _, ⟨by decide, rfl, by decide⟩⟩,
    ⟨upLate { atBoot .safe with mgt := { activationAt := some 0 } }, 0, by decide⟩⟩

/-- The hypotheses of TraceSnapshotsAndProcessorDebug can be met. -/
theorem witness_TraceSnapshotsAndProcessorDebug :
    (∃ (s : State) (r : Requester) (_v : Nat) (p : PartId) (u : State), hostPart r 0x00160000 s = (some p, u)) ∧
    (∃ (s : State) (p : PartId) (v : Nat) (t : Trace), t = (getPart s p).trace ∧ bitOf t.ctl 0 = false ∧ v < 2 ^ 15 ∧ bitOf v 0 = true) ∧
    (∃ (s : State) (p : PartId), (hasCredit s p 0 = true ∨ (getPart s p).trace.buf = [])) ∧
    (∃ (s : State) (p : PartId), hasCredit s p 0 = false ∧ (getPart s p).trace.buf ≠ []) ∧
    (∃ (s : State) (p : PartId), (getPart s p).trace.buf = []) ∧
    (∃ (s : State) (r : Requester) (_v : Nat) (p : PartId) (u : State), hostPart r 0x0016001C s = (some p, u)) ∧
    (∃ (s : State) (r : Requester) (_v : Nat) (p : PartId) (u : State), hostPart r 0x00160030 s = (some p, u)) ∧
    (∃ (s : State) (p : PartId) (_x : TraceRec) (t : Trace), t = (getPart s p).trace ∧ traceOn t = true ∧ bitsOf t.ctl 2 1 = 0 ∧ 512 ≤ t.buf.length) ∧
    (∃ (s : State) (r : Requester) (v : Nat) (u : State), snapWriter r s = (true, u) ∧ bitOf v 0 = true) ∧
    (∃ (s : State) (r : Requester) (v : Nat) (u : State), snapWriter r s = (true, u) ∧ bitOf v 0 = false ∧ bitOf v 1 = true) ∧
    (∃ (s : State) (r : Requester) (_v : Nat) (u : State), snapWriter r s = (false, u)) ∧
    (∃ (s : State) (r : Requester) (v : Nat) (m0 m1 : Bool), mpDebugOpen r s = true ∧ m0 = (bitOf v 0 && (!bitOf s.mp.halt 0 || bitOf v 2)) ∧ m1 = (bitOf v 1 && (!bitOf s.mp.halt 1 || bitOf v 3))) ∧
    (∃ (s : State) (r : Requester) (_v : Nat), (r ≠ .jtag ∨ (lifeCycle s ≠ .blank ∧ lifeCycle s ≠ .debugUnlocked))) :=
    ⟨⟨portSt, .hp 0, 1, 0, portSt, by decide⟩,
    ⟨portSt, 0, 1, _, ⟨rfl, by decide, by decide, by decide⟩⟩,
    ⟨portSt, 0, by decide⟩,
    ⟨{ trSt with cfg := dryCfg }, 0, by decide⟩,
    ⟨portSt, 0, by decide⟩,
    ⟨portSt, .hp 0, 1, 0, portSt, by decide⟩,
    ⟨portSt, .hp 0, 1, 0, portSt, by decide⟩,
    ⟨updPart portSt 0 (fun q => { q with trace := { q.trace with ctl := 1, buf := List.replicate 512 {} } }), 0, {}, _, ⟨rfl, by decide, by decide, by decide⟩⟩,
    ⟨portSt, .hp 0, 1, portSt, by decide⟩,
    ⟨portSt, .hp 0, 2, portSt, by decide⟩,
    ⟨State.reset, .hp 0, 1, State.reset, by decide⟩,
    ⟨{ portSt with sec := { jtagIr := 0x30 } }, .jtag, 1, _, _, ⟨by decide, rfl, rfl⟩⟩,
    ⟨portSt, .mgt, 1, by decide⟩⟩

/-- The hypotheses of WaitSpecificationLayout can be met. -/
theorem witness_WaitSpecificationLayout : (5 : Nat) < 2 ^ 14 ∧ (9 : Nat) < 2 ^ 16 ∧ (589829 : Nat) = 5 + 2 ^ 14 * 0 + 2 ^ 16 * 9 ∧
    (606213 : Nat) = 5 + 2 ^ 14 * 1 + 2 ^ 16 * 9 ∧ (622597 : Nat) = 5 + 2 ^ 14 * 2 + 2 ^ 16 * 9 ∧ (638981 : Nat) = 5 + 2 ^ 14 * 3 + 2 ^ 16 * 9 := by
  decide

/-- The hypotheses of BallotMergesAgree can be met. -/
def ballotOf (l : List (Nat × Nat)) : Bytes :=
  (l.map (fun x => toLe 4 x.1 ++ toLe 4 0 ++ toLe 2 x.2 ++ toLe 6 0)).flatten
theorem witness_BallotMergesAgree :
    (ballotOf [(0x3F800000, 1), (0xFFFFFFFF, 0)]).length = 16 * 2 ∧
    (∀ x ∈ cands 2 (ballotOf [(0x3F800000, 1), (0xFFFFFFFF, 0)]) ++ cands 2 (ballotOf [(0x3F800000, 2), (0, 3)]) ++
      cands 2 (ballotOf [(0x40000000, 4), (0, 5)]), isNan32 x.1.1 = false) ∧
    ((cands 2 (ballotOf [(0x3F800000, 1), (0xFFFFFFFF, 0)]) ++ cands 2 (ballotOf [(0x3F800000, 2), (0, 3)]) ++
      cands 2 (ballotOf [(0x40000000, 4), (0, 5)])).map (·.1.2)).Nodup := by decide +kernel

/-- The hypotheses of TagsAndPacketsReadBack can be met. -/
theorem witness_TagsAndPacketsReadBack : PacketFits (goodPkt 1) ∧ PacketFits { goodPkt 6 with payload := [7], comm := 255, dst := 16383 } := by
  unfold PacketFits; decide +kernel

/-- The hypotheses of PiecesAndPairMessagesReadBack can be met. -/
theorem witness_PiecesAndPairMessagesReadBack : PieceFits { kind := 1, payload := [1] } ∧ PairFits { kind := 9, digest := List.replicate 32 1 } [5] := by
  unfold PieceFits PairFits; decide +kernel

/-- The hypotheses of FlitsAndDatagramsReadBack can be met. -/
theorem witness_FlitsAndDatagramsReadBack : FlitFits { type := 4, fseq := 4095, end_ := 242 } ∧ (List.replicate 242 (0 : Byte)).length = 242 ∧
    TthFits { type := 5, len := 1 } [3] := by
  unfold FlitFits TthFits; decide +kernel

/-- The hypotheses of MemoryStaysCanonical can be met. -/
theorem witness_MemoryStaysCanonical : MemWf portSt ∧ step portSt = .next (tick portSt) := by
  unfold MemWf; exact ⟨by decide, rfl⟩

/-- The hypotheses of FusesOnlyBurn can be met. -/
theorem witness_FusesOnlyBurn : step { portSt with fuses := secFuses .decommissioned } = .next (tick { portSt with fuses := secFuses .decommissioned }) ∧
    lifeCycle { portSt with fuses := secFuses .decommissioned } = .decommissioned := ⟨rfl, by decide⟩

/-- The hypotheses of CommandsKeepTheQueueAndTheRecord can be met. -/
theorem witness_CommandsKeepTheQueueAndTheRecord :
    exec .timeRefLoss portSt = .next { portSt with time := { portSt.time with timeRefOk := false } } := rfl

/-- The hypotheses of StandingFrame can be met. -/
theorem witness_StandingFrame : portSt.sramErr = [] ∧ mayChangeStanding .timeRefLoss = false ∧
    exec .timeRefLoss portSt = .next { portSt with time := { portSt.time with timeRefOk := false } } := ⟨rfl, rfl, rfl⟩

/-- The hypotheses of HbmFrame can be met. -/
theorem witness_HbmFrame : portSt.sramErr = [] ∧ mayStoreHbm .timeRefLoss = false ∧
    exec .timeRefLoss portSt = .next { portSt with time := { portSt.time with timeRefOk := false } } ∧
    portReq (.hp 0) = some (0, false) ∧ partOf portSt 0 = some 0 ∧ partOf State.reset 0 = none ∧
    (∃ t, exec (.bar4Write (.hp 0) 0 [1] false []) portSt = .next t) ∧ (∃ t, exec (.bar4Write (.hp 0) 0 [1] false []) State.reset = .next t) ∧
    memWf portSt.hbm = true ∧ 0 < [(1 : Byte)].length := ⟨rfl, rfl, rfl, rfl, by decide, by decide, ⟨_, rfl⟩, ⟨_, rfl⟩, by decide, by decide⟩

/-- The hypotheses of CoresAndRolesFrame can be met. -/
theorem witness_CoresAndRolesFrame : portSt.sramErr = [] ∧ mayChangeCores .timeRefLoss = false ∧
    exec .timeRefLoss portSt = .next { portSt with time := { portSt.time with timeRefOk := false } } := ⟨rfl, rfl, rfl⟩

end Sys2Proof.Tests
end

section
/-!
SUPPORT. What a command answers, and what a step does with it: the statements EveryCommandRuns and StepRunsTheFrontCommand.
-/
namespace Sys2Proof.Laws
open Sys2Proof Sys2Proof.Machine

/-- The command answers a next state: no fault and no refusal. -/
def Answers (o : Out) : Prop := ∃ t, o = .next t

theorem answers_next (t : State) : Answers (.next t) := ⟨t, rfl⟩

theorem answers_ite {c : Prop} [Decidable c] {a b : Out} (ha : Answers a) (hb : Answers b) : Answers (if c then a else b) := by
  split <;> assumption

-- The shared operations through which several commands run

theorem runCmd_answers (p : PartId) (st : StreamId) (op : Nat) (body : Bytes → State → State) (s : State) :
    Answers (runCmd p st op body s) := by
  unfold runCmd
  split <;> exact answers_next _

theorem spdmServe_answers (bd : SpdmBinding) (f : State → State) (s : State) : Answers (spdmServe bd f s) := by
  unfold spdmServe
  split <;> exact answers_next _

theorem bar4Read_answers (r : Requester) (off len : Nat) (s : State) : Answers (bar4Read r off len s) := by
  unfold bar4Read
  repeat' split
  all_goals exact answers_next _

theorem bar4Write_answers (r : Requester) (off : Nat) (data : Bytes) (ep : Bool) (s : State) : Answers (bar4Write r off data ep s) := by
  unfold bar4Write
  repeat' split
  all_goals exact answers_next _

/-- Every row of the command table answers a next state. The rows are grouped by the reason: their meaning is one next state,
it runs through a shared operation, or each of its branches ends in a next state. -/
theorem exec_answers (c : Instr) (s : State) : Answers (exec c s) := by
  cases c with
  -- One next state, whatever the operands.
  | dlPairLinkDown | bondAdvertisementSend | ptpPortMove | xfrTokensIn | xfrTokensOut | xfrCopy | colProbeTimer | commCreateTimeout |
    xfrLoadModel | xfrUnloadModel | bar2Write | flr | powerStateD3hot | powerStateD0 | busMasterEnableChange | passStart |
    reissuePassTimer | teardownServeEnd | provision | deploy | unlockDebug | relock | decommission | zeroize | setVault | advanceFloor |
    logClear | pwrGoodFall | boardResetAssert | partitionResetComplete | commandComplete | lowHalfRead | highHalfRead | cntSnapTake |
    cntSnapRelease | mpHalt | mpStep | requestAging | regulatorWindowRefill | rowReceive | resultReceive | verdictReceive | closeReceive |
    dropReceive | refuseReceive | colDataReceive | colAckReceive | colNackReceive | joinReceive | readyReceive | colAbortReceive |
    colProbeReceive | colProbeAckReceive => exact answers_next _
  -- A command that a stream takes from its queue (spec/07).
  | jobBegin | jobEnd | nop | ctSet | ctAdd | cmpSkip | cmpBranch | sycWait | tdSet | prgRun | prgEnd | rteSelect | rtePropose |
    rteAssign | srtBucket | dspGather | cmbAccum | cmbFinal | conjStep | colCommCreate | colCommDestroy | colAllreduce | colAllgather |
    colReducescatter | colBroadcast | colBarrier | colAlltoallv | colBallotMerge | sycSet | seqLd | seqSt | seqZero | seqMma | seqAct |
    seqMul | seqScale | seqCvt => exact runCmd_answers ..
  | seqExpert => exact answers_ite (answers_next _) (runCmd_answers ..)
  -- An SPDM or IDE_KM request (spec/21).
  | spdmGetCertificate | spdmChallenge | spdmGetMeasurements | spdmKeyExchange | spdmKeyUpdate | spdmHeartbeat | spdmEndSession |
    ideKmQuery | ideKmKeyProg | ideKmKSetGo | ideKmKSetStop =>
    simp only [exec, execSpdmGetCertificate, execSpdmChallenge, execSpdmGetMeasurements, execSpdmKeyExchange, execSpdmKeyUpdate,
      execSpdmHeartbeat, execSpdmEndSession, execIdeKmQuery, execIdeKmKeyProg, execIdeKmKSetGo, execIdeKmKSetStop, inSession, ideServe,
      spdmServe_answers]
  | bar4Read => exact bar4Read_answers ..
  | bar4Write => exact bar4Write_answers ..
  -- Guarded by conditions on the state: with its effect where they hold, without it elsewhere.
  | setEndpointId | read32 | secRelay | logRead | policyMessage | setEventReceiver | getSensorReading | requestUpdate |
    passComponentTable | updateComponent | firmwareDataReceive | cancelUpdate | activateFirmware | teardownComplete | brlEqualizeDone |
    identifyReceive | flitReceive | nakReceive | nakRepeat | ackTimer | lossOfLink | brlIdleTimer | sleepReqReceive | brlDormant |
    brlWake | tthAlignDone | tthFault | tthDownRetry | mkaPeerLoss | tthRetrain | tthDormant | tthWake | neighbourRefresh |
    pauseFrameReceive | timeMessageSend | timeRefLock | timeRefLoss | ppsInEdge | ppsOutEdge | sysSyncLoss | cfgStageOpen | checkerDone |
    cfgStageAbort | voteReceive | voteDeadline | commitInstant | outcomeReceive | announcementReceive | fencedQuery | fenceTimeout |
    perstAssert | perstRelease | hostLinkUp | pmPmeTransmit | pmPmeRetransmit | aspmL1Entry | pmeTurnOff | mgtWakeReqWrite |
    pstateRampDone | railReadbackSample | sensorSample | hbmTempReport | powerEstimate | pwrLimitWWrite | pwrCloseUsWrite |
    clusterNoticeTimer | closeTimeElapsed | drainComplete | drainCap | isolationTimer | clusterPowerUpDone | authLockoutEnd |
    jtagInstruction | entropyTestFail | errorWarmReset | bistRun | bistShutdown | mfgTestRun | railBelowThreshold | testEnHigh |
    coldResetRelease | devResetReqWarm | devResetReqPartition | warmResetComplete | romBankChoice | selftestDone | portRetrainDone |
    hbmTrainDone | hbmClearDone | groupSyncRise | groupSyncLineHigh | alignTimeout | linkTrainEnd | linkTrainTimeout | timeSyncAchieved |
    timeSyncTimeout | thermalTrip | fwWatchdog | fallbackAlertStep | mgtWdtRefresh | traceRecordDrain | mgtEventHeadWrite | smbusTimeout |
    tripLatchRead | bankEraseDone | transferComplete | verifyComplete | applyComplete | pairHelloSend | heartbeatSnapshot | ackSilence |
    takeoverDecision | sbActivate | sbDepose | sbRejoin =>
    repeat' apply answers_ite
    all_goals exact answers_next _
  -- The others go by cases on what the state or the operands hold, and every case is a next state.
  | _ =>
    simp only [exec, execBrlSignalDetect, execBrlKeyingDone, execBrlTrainTimeout, execBrlDownRetry, execIntegrityReceive,
      execTimeFlitReceive, execBondAdvertisementReceive, execWakePattern, execBrlRetrain, execBrlRekey, execDlHelloReceive,
      execDlCompareReceive, execDlAbandonReceive, execDlCompareTimeout, execMkaSecured, execTthTrainTimeout, execMacsecRekey,
      execTthDataReceive, execTthAckReceive, execTthHelloReceive, execTthHelloAckReceive, execCloseCtxReceive, execHelloRetry,
      execTthAckTimer, execRtoExpiry, execContextIdleClose, execTthRetxExhaust, execFailedPlaneProbe, execArpNdRequest,
      execIcmpEchoRequest, execArpNdReplyReceive, execNeighbourResolutionRetry, execTimeMessageReceive, execPtpEventMessage,
      execCfgStageSeal, execCfgStageStart, execVoteRequestReceive, execQueryReceive, execTokenSelectionCommit, execShadowScoreDone,
      execDeadlineCheckpoint, execStepClosureProbe, execColProbeTimeout, execColCommandTimeout, execReducerSlotGrant, execPassEnd,
      execFunctionReady, execDlDown, execMsixUnmask, execIdeIntegrityFail, execRingTailWrite, execRingCtlWrite, execRingFetchComplete,
      execDmaReadCompletion, execDmaCompletionTimeout, execSycHostAdd, execSycWaitTimeout, execRcRegisterRead, execRegisterWrite,
      execDbgTraceCtlWrite, execDbgTraceRdWrite, execDbgMark, execPatrolScrubRead, execErrHeadWrite, execImageVerifyDone,
      execGarkuLoadDone, execBistReadDone, execSetPstate, execGate, execClusterNoticeReceive, execPwrWake, execQuietEnter, execQuietExit,
      execBistUnitDone, execBistWindowSample, execSmbusArbitrationRetry, execMgtMsgCtlSend, execPolicyMessageTimeout,
      execSensorEventTimer, execFirmwareDataRetry, execActivationWarmReset, execPairHelloReceive, execMirrorReceive, execSnapReceive,
      execPairAckReceive, execDeposedReceive, execStandbySilence, execPairProbeReceive, execPairProbeAckReceive, execWitnessQReceive,
      execWitnessAReceive]
    repeat' split
    all_goals exact answers_next _

theorem step_nil {s : State} (h : s.pending = []) : step s = .next (tick s) := by
  simp only [step, h]

theorem step_cons {s : State} {c : Instr} {q : List Instr} (h : s.pending = c :: q) : step s = exec c { s with pending := q } := by
  simp only [step, h]

theorem step_answers (s : State) : Answers (step s) := by
  cases h : s.pending with
  | nil => exact ⟨_, step_nil h⟩
  | cons c q => rw [step_cons h]; exact exec_answers c _

end Sys2Proof.Laws

namespace Sys2Proof.Proofs
open Sys2Proof Sys2Proof.Machine Sys2Proof.Laws

/-- Settles O1: the front command is taken off the queue before it runs. -/
theorem stepRunsTheFrontCommand : Obligations.StepRunsTheFrontCommand :=
  fun _ _ _ => step_cons rfl

/-- Settles O52, by cases on the command, and for a step by cases on the queue. -/
theorem everyCommandRuns : Obligations.EveryCommandRuns :=
  ⟨exec_answers, step_answers⟩

end Sys2Proof.Proofs
end

section
/-!
SUPPORT. Accesses to registers and to the configuration space, one lemma for each way an access is served: the statement
RegisterReadsAndWrites.
-/
namespace Sys2Proof.Laws
open Sys2Proof Sys2Proof.Machine

-- Reads

/-- A read changes at most the latches (R11). -/
theorem readValue_snd (r : Requester) (off len : Nat) (s : State) : ∃ l, (readValue r off len s).2 = { s with latches := l } := by
  unfold readValue
  dsimp only
  repeat' split
  all_goals exact ⟨_, rfl⟩

/-- A read of the management requester has no read effect (R573): it leaves a latch (R11) and its answer. -/
theorem readServed_mgt (off len : Nat) (s : State) :
    ∃ l, readServed .mgt off len s =
      { s with latches := l, free := s.free + 3, out := .regValue .mgt off (readValue .mgt off len s).1 :: s.out } := by
  obtain ⟨l, hl⟩ := readValue_snd .mgt off len s
  exact ⟨l, by simp [readServed, hl, portReq, emit]⟩

theorem readReg_mgt {s : State} (h : mgtOpen .mgt s = true) (off len : Nat) : readReg .mgt off len s = readServed .mgt off len s := by
  have hr : mgtReads .mgt off s = true := by simp [mgtReads, h]
  simp [readReg, portReq, hr]

theorem readReg_hp_go {k : PortId} {off len : Nat} {s u : State} (h : hostMem k false (some off) s = (.go, u))
    (hlen : off % 8 + len ≤ 8) : readReg (.hp k) off len s = readServed (.hp k) off len u := by
  have hfit : ¬ 8 < off % 8 + len := Nat.not_lt.mpr hlen
  simp [readReg, portReq, h, hfit]

theorem readReg_hp_zero {k : PortId} {off len : Nat} {s u : State} (h : hostMem k false (some off) s = (.zero, u))
    (hlen : off % 8 + len ≤ 8) : readReg (.hp k) off len s = emit (.regValue (.hp k) off 0) u := by
  have hfit : ¬ 8 < off % 8 + len := Nat.not_lt.mpr hlen
  simp [readReg, portReq, h, hfit]

theorem readReg_hp_ur {k : PortId} {off : Nat} {s u : State} (h : hostMem k false (some off) s = (.ur, u)) (len : Nat) :
    readReg (.hp k) off len s = emit (.completion k 1 []) u := by
  simp [readReg, portReq, h]

theorem bar2Read_go {k : PortId} {bare : Bool} {s u : State} (h : hostMem k bare none s = (.go, u)) (len : Nat) :
    bar2Read k bare len s = emit (.completion k 0 (List.replicate len 0)) u := by
  simp [bar2Read, h]

-- Writes

theorem writeMgt_mgt {s : State} (h : mgtOpen .mgt s = true) (off len v : Nat) :
    writeMgt .mgt off len v s = if inWindow off then writeWindow off (toLe len v) s else eachWord off len v writeMgtWord s := by
  simp [writeMgt, h, jtagDbg]

theorem writeBar0_go {k : PortId} {bare : Bool} {off len : Nat} {s u : State} (h : hostMem k bare (some off) s = (.go, u))
    (hlen : off % 8 + len ≤ 8) (v : Nat) : writeBar0 k bare off len v false s = eachWord off len v (writeHostWord k) u := by
  have hfit : ¬ 8 < off % 8 + len := Nat.not_lt.mpr hlen
  simp [writeBar0, h, hfit]

theorem writeBar0_zero {k : PortId} {bare : Bool} {off : Nat} {s u : State} (h : hostMem k bare (some off) s = (.zero, u))
    (len v : Nat) : writeBar0 k bare off len v false s = u := by
  simp [writeBar0, h]

theorem writeBar0_go_poisoned {k : PortId} {bare : Bool} {off : Nat} {s u : State} (h : hostMem k bare (some off) s = (.go, u))
    (len v : Nat) : writeBar0 k bare off len v true s = poisonedWrite k u := by
  simp [writeBar0, h]

theorem eachWord_misaligned {off len : Nat} (h : off % 4 ≠ 0 ∨ len % 4 ≠ 0) (v : Nat) (f : Nat → Nat → State → State) (s : State) :
    eachWord off len v f s = s := if_pos h

-- The operation that an address selects

theorem exec_rcRegisterRead (r : Requester) (a : RegAddr) (len : Nat) (s : State) :
    exec (.rcRegisterRead r a len) s = execRcRegisterRead r a len s := rfl

theorem exec_registerWrite (r : Requester) (a : RegAddr) (len v : Nat) (ep : Bool) (s : State) :
    exec (.registerWrite r a len v ep) s = execRegisterWrite r a len v ep s := rfl

theorem exec_rcRegisterRead_reg (r : Requester) (off len : Nat) (s : State) :
    exec (.rcRegisterRead r (.reg off) len) s = .next (readReg r off len s) := by
  simp only [exec_rcRegisterRead, execRcRegisterRead, regOffset]

theorem exec_registerWrite_mgt (off len v : Nat) (ep : Bool) (s : State) :
    exec (.registerWrite .mgt (.reg off) len v ep) s = .next (writeMgt .mgt off len v s) := rfl

theorem exec_registerWrite_hp (k : PortId) (off len v : Nat) (ep : Bool) (s : State) :
    exec (.registerWrite (.hp k) (.reg off) len v ep) s = .next (writeBar0 k false off len v ep s) := rfl

theorem exec_rcRegisterRead_bar2 (k : PortId) (off len : Nat) (s : State) :
    exec (.rcRegisterRead (.hp k) (.bar2 off) len) s = .next (bar2Read k false len s) := rfl

theorem exec_rcRegisterRead_unsupported (k : PortId) (len : Nat) (s : State) :
    exec (.rcRegisterRead (.hp k) .unsupported len) s = .next (unsupportedReq k s) := rfl

theorem exec_registerWrite_unsupported (k : PortId) (len v : Nat) (ep : Bool) (s : State) :
    exec (.registerWrite (.hp k) .unsupported len v ep) s = .next (unsupportedReq k s) := rfl

section
variable {a : RegAddr} (hoff : regOffset a = none) (hu : a ≠ .unsupported) (hb : ∀ x, a ≠ .bar2 x)
include hoff hu hb

theorem exec_rcRegisterRead_config (k : PortId) (len : Nat) (s : State) :
    exec (.rcRegisterRead (.hp k) a len) s = .next (configRead k a len s) := by
  cases a <;> simp_all [exec_rcRegisterRead, execRcRegisterRead, portReq]

theorem exec_registerWrite_config (k : PortId) (len v : Nat) (ep : Bool) (s : State) :
    exec (.registerWrite (.hp k) a len v ep) s = .next (cfgWrite k (setConfig k a v) s) := by
  cases a <;> simp_all [exec_registerWrite, execRegisterWrite, portReq]

end

end Sys2Proof.Laws

namespace Sys2Proof.Proofs
open Sys2Proof Sys2Proof.Machine Sys2Proof.Laws

/-- Settles O9, clause by clause: the address selects the operation, and the gate of the port or of the management space decides
how it is served. -/
theorem registerReadsAndWrites : Obligations.RegisterReadsAndWrites := by
  intro s
  refine ⟨fun off len h => ?mgtRead, fun k off len u h hlen => ?hostRead, fun k off len u h => ?hostReadUr, fun r off => ?halves,
    fun off len v h hw => ?mgtWords, fun off len v h hw => ?mgtWindow, fun k off len v u h hlen => ?hostWrite,
    fun k off len v u h => ?poisoned, fun k off len v u h hlen => ?zero, fun k a len v hoff hu hb hopen => ?cfgServed,
    fun k a len v hoff hu hb hshut hreach => ?cfgRetried, fun k off len u h => ?bar2, fun k len v hreach => ?unsupported,
    fun off len v f h => eachWord_misaligned h v f s⟩
  case mgtRead =>
    obtain ⟨l, hl⟩ := readServed_mgt off len s
    refine ⟨readServed .mgt off len s, by rw [exec_rcRegisterRead_reg, readReg_mgt h], ?_⟩
    rw [hl]
    exact ⟨rfl, rfl, rfl, rfl, rfl, rfl, rfl⟩
  case hostRead => rw [exec_rcRegisterRead_reg, readReg_hp_go h hlen]
  case hostReadUr => rw [exec_rcRegisterRead_reg, readReg_hp_ur h]
  case halves => exact ⟨(exec_rcRegisterRead_reg r off 4 s).symm, (exec_rcRegisterRead_reg r off 4 s).symm, rfl, rfl⟩
  case mgtWords => rw [exec_registerWrite_mgt, writeMgt_mgt h, hw, if_neg (by decide)]
  case mgtWindow => rw [exec_registerWrite_mgt, writeMgt_mgt h, if_pos hw]
  case hostWrite => rw [exec_registerWrite_hp, writeBar0_go h hlen]
  case poisoned => rw [exec_registerWrite_hp, writeBar0_go_poisoned h]
  case zero =>
    constructor
    · rw [exec_rcRegisterRead_reg, readReg_hp_zero h hlen]
    · rw [exec_registerWrite_hp, writeBar0_zero h]
  case cfgServed =>
    rw [exec_rcRegisterRead_config hoff hu hb, exec_registerWrite_config hoff hu hb]
    simp [configRead, cfgWrite, hopen]
  case cfgRetried =>
    rw [exec_rcRegisterRead_config hoff hu hb, exec_registerWrite_config hoff hu hb]
    simp [configRead, cfgWrite, hshut, hreach]
  case bar2 => rw [exec_rcRegisterRead_bar2, bar2Read_go h]
  case unsupported => simp [exec_rcRegisterRead_unsupported, exec_registerWrite_unsupported, unsupportedReq, hreach]

end Sys2Proof.Proofs
end

section
/-!
SUPPORT. Expert passes, re-issue passes, shadow scores, closure probes and the end of a torn-down step, one lemma for each way an
operation goes: the statement PassesAndPredictions.
-/
namespace Sys2Proof.Laws
open Sys2Proof Sys2Proof.Machine

-- The start of a pass: the HBM regulator and the lead cluster

@[simp] theorem homeLead_updPart {s : State} {p : PartId} {f : Part → Part} (h : (f (getPart s p)).job = (getPart s p).job) :
    homeLead (updPart s p f) p = homeLead s p := by
  simp only [homeLead, getPart_updPart, h]
  rfl

@[simp] theorem homeLead_charge (p : PartId) (i : Fin 4) (n : Nat) (s : State) : homeLead (charge p i n s) p = homeLead s p := by
  unfold charge
  split
  · rfl
  · exact homeLead_updPart rfl

@[simp] theorem homeLead_hbmGo (p : PartId) (i : Nat) (s : State) : homeLead (hbmGo p i s) p = homeLead s p :=
  homeLead_updPart rfl

@[simp] theorem charge_hbm (p : PartId) (i : Fin 4) (n : Nat) (s : State) : (charge p i n s).hbm = s.hbm := by
  unfold charge; split <;> rfl

@[simp] theorem charge_out (p : PartId) (i : Fin 4) (n : Nat) (s : State) : (charge p i n s).out = s.out := by
  unfold charge; split <;> rfl

/-- A pass stands from its start with the layer and step of its first row. -/
theorem startPass_pass (p : PartId) (m : Model) (x : Nat) {l : List RowRec} {h : RowRec} (hl : l.head? = some h) (b : Bool) (s : State) :
    (getPart (startPass p m x l b s) p).pass = some
      { expert := x, layer := h.layer, step := h.step, model := m.handle, lead := (if x = 0xFFFF then homeLead s p else h.cluster),
        tags := l.map (·.tag), reissue := b } := by
  simp [startPass, hl, updConj, beginPass]

/-- The start of a pass stores nothing in HBM. -/
theorem startPass_hbm (p : PartId) (m : Model) (x : Nat) (l : List RowRec) (b : Bool) (s : State) :
    (startPass p m x l b s).hbm = s.hbm := by
  unfold startPass
  split
  · rfl
  · simp [updConj, beginPass, updRows, hbmGo]

/-- The start of a pass sends nothing. -/
theorem startPass_out (p : PartId) (m : Model) (x : Nat) (l : List RowRec) (b : Bool) (s : State) :
    (startPass p m x l b s).out = s.out := by
  unfold startPass
  split
  · rfl
  · simp [updConj, beginPass, updRows, hbmGo]

-- PASS_START (R20, R417)

theorem exec_passStart (p : PartId) (x : Nat) (s : State) : exec (.passStart p x) s = .next (drainPart p (passStart p x s)) := rfl

section
variable {s : State} {p : PartId} {x : Nat} {m : Model} (hpass : (getPart s p).pass = none) (hm : jobModel (getPart s p) = some m)
  (hrows : (readyRows s p x).isEmpty = false) (hres : residentExpert s p m (headLayer (readyRows s p x)) x = true)
include hpass hm hrows hres

theorem passStart_credit (hc : hasCredit s p 0 = true) :
    passStart p x s = startPass p m x ((readyRows s p x).take 64) false (dropClusters p s) := by
  simp [passStart, hpass, hm, hrows, hres, hc]

theorem passStart_noCredit (hc : hasCredit s p 0 = false) : passStart p x s = hbmHold p 7 s := by
  simp [passStart, hpass, hm, hrows, hres, hc]

end

-- REISSUE_PASS_TIMER (R470)

/-- The stored re-issued rows of an expert whose step does not execute here. -/
def reissueRows (s : State) (p : PartId) (x : Nat) : List RowRec :=
  (getPart s p).rows.filter (fun r => r.expert == x && r.reissue && r.stage == .stored && (stepOf s p r).isNone)

theorem exec_reissuePassTimer (p : PartId) (x : Nat) (s : State) :
    exec (.reissuePassTimer p x) s = .next (drainPart p (reissuePass p x s)) := rfl

/-- The rows of the first row's layer start with the first row. -/
theorem head?_filter_layer {l : List RowRec} {h : RowRec} (hl : l.head? = some h) :
    (l.filter (fun r => r.layer == h.layer)).head? = some h := by
  obtain ⟨t, rfl⟩ := List.head?_eq_some_iff.mp hl
  simp

theorem reissuePass_due {s : State} {p : PartId} {x : Nat} {m : Model} {l : List RowRec} {h : RowRec} (hpass : (getPart s p).pass = none)
    (hm : serveModel s p h.layer x = some m) (hres : residentExpert s p m h.layer x = true) (hh : (reissueRows s p x).head? = some h)
    (hl : l = (reissueRows s p x).filter (fun r => r.layer == h.layer)) (hdue : 64 ≤ l.length ∨ ∀ r ∈ l, r.dt + 2000 ≤ dtNow s)
    (hc : hasCredit s p 0 = true) :
    reissuePass p x s = startPass p m x (l.take 64) true (dropClusters p s) := by
  have hhead : l.head? = some h := hl ▸ head?_filter_layer hh
  have hlayer : headLayer l = h.layer := by simp [headLayer, hhead]
  have hne : l.isEmpty = false := by
    obtain ⟨t, rfl⟩ := List.head?_eq_some_iff.mp hhead
    rfl
  unfold reissueRows at hh hl
  simp only [reissuePass, hh, ← hl, hlayer, hpass, hm, hne, hres, hc]
  rcases hdue with hn | ht
  · simp [hn]
  · simp [List.all_eq_true.mpr (fun r hr => decide_eq_true (ht r hr))]

-- PASS_END (R20, R295, R299, R329, R417)

section
variable {s : State} {p : PartId} {x : Pass} (hx : (getPart s p).pass = some x)
include hx

theorem exec_passEnd_paid (ha : x.alone = false) (hp : hbmPaid s p = true) (ecc : List EccFind) :
    exec (.passEnd p ecc) s = .next (drainPart p (passEnd p (passEcc p x ecc (hbmGo p 7 s)))) := by
  change execPassEnd p ecc s = _
  simp [execPassEnd, hx, ha, hp]

theorem exec_passEnd_unpaid (ha : x.alone = false) (hp : hbmPaid s p = false) (ecc : List EccFind) :
    exec (.passEnd p ecc) s = .next (hbmHold p 7 s) := by
  change execPassEnd p ecc s = _
  simp [execPassEnd, hx, ha, hp]

theorem passEnd_model {m : Model} (hm : modelOf (getPart s p) x.model = some m) :
    passEnd p s = conjSettle p (dropClusters p (updPart
      (eachOf x.tags (applyKept p) (eachOf x.tags (fun t v => endRow p m (weightsPoisoned s p m x.layer x.expert) t v)
        (passCharge p m x (passFault p m x s)))) p (fun q => { q with pass := none }))) := by
  simp [passEnd, hx, hm]

end

theorem endRow_spec {s : State} {p : PartId} {t : Nat} {r : RowRec}
    (hr : (getPart s p).rows.find? (fun r => r.tag == t && r.stage == .computing) = some r) (hs : r.spec = true) (m : Model) (bad : Bool) :
    endRow p m bad t s = cntPart 0x000A0040 1 p (updRow p t (fun r' => { r' with
      stage := .held, heldD := passRow s p m r.layer r.expert r.row, heldPoison := r.poison || bad }) s) := by
  simp [endRow, hr, hs]

-- SHADOW_SCORE_DONE (R287, R299)

section
variable {s : State} {p : PartId} {pos : Nat} {e : Exec} {m : Model} {k : Conj} (he : (getStream s p 0).exec = some e)
  (hm : jobModel (getPart s p) = some m) (hk : specStep s p (d16 e.desc 34) = some k) (hf : shadowFresh s p e k pos = true)
  (hp : (getSlot s p (e.base + pos)).rowPoison = false)
include he hm hk hf hp

theorem exec_shadowScoreDone_taken (hg : shadowPoisoned s p m (d16 e.desc 34) = false) :
    exec (.shadowScoreDone p pos) s = .next (takeShadow p k m (e.base + pos) (shadowPredict s p m e.desc (e.base + pos)) s) := by
  change execShadowScoreDone p pos s = _
  simp [execShadowScoreDone, he, hm, hk, hf, hp, hg]

theorem exec_shadowScoreDone_poisoned (hg : shadowPoisoned s p m (d16 e.desc 34) = true) :
    exec (.shadowScoreDone p pos) s = .next (suppress p 1 s) := by
  change execShadowScoreDone p pos s = _
  simp [execShadowScoreDone, he, hm, hk, hf, hp, hg]

end

-- STEP_CLOSURE_PROBE (R469) and TEARDOWN_SERVE_END (R471)

theorem exec_stepClosureProbe_closed {s : State} {p : PartId} {k : Conj} {x : Comm} (hk : (getPart s p).conj = some k)
    (hcl : k.closed = true) (hpass : passOf s p k = false) (hrows : stepRows s p k = []) (hx : getComm s k.comm = some x) :
    exec (.stepClosureProbe p) s = .next (eachOf ((clauseDevs s k).filter (longQuiet k (dtNow s))) (probeDev p x) s) := by
  change execStepClosureProbe p s = _
  simp [execStepClosureProbe, hk, hcl, hpass, hrows, hx]

theorem exec_teardownServeEnd (p : PartId) (s : State) : exec (.teardownServeEnd p) s = .next (drainPart p (serveEnd p s)) := rfl

theorem serveEnd_due {s : State} {p : PartId} {k : Conj} (hk : (getPart s p).served = some k) (hdue : k.served.getD 0 ≤ dtNow s) :
    serveEnd p s = updPart (eachOf (stepRows s p k) (fun r v => if r.spec then orphanRow p r v else dropRow p r.tag v) s) p (fun q => { q with
      served := none
      pass := if q.pass.any (fun x => x.step == k.step && x.layer == k.layer && !x.alone) then none else q.pass }) := by
  simp only [serveEnd, hk, if_neg (Nat.not_lt.mpr hdue)]
  congr 1
  funext q
  cases hq : q.pass with
  | none => simp
  | some x => simp

end Sys2Proof.Laws

namespace Sys2Proof.Proofs
open Sys2Proof Sys2Proof.Machine Sys2Proof.Laws

/-- Settles O25, clause by clause: each command under its conditions, and what the shared operations of a pass do. -/
theorem passesAndPredictions : Obligations.PassesAndPredictions := by
  intro s
  refine ⟨fun p x m hpass hm hrows hres hc => ?start, fun p x m hpass hm hrows hres hc => ?startWaits,
    fun p m x l h b hl => ⟨startPass_pass p m x hl b s, startPass_hbm .., startPass_out ..⟩,
    fun p ecc x hx ha hp => exec_passEnd_paid hx ha hp ecc, fun p ecc x hx ha hp => exec_passEnd_unpaid hx ha hp ecc,
    fun p x m hx hm => passEnd_model hx hm, fun p m bad t r hr hs => endRow_spec hr hs m bad,
    fun p x m l h hpass hm hres hh hl hdue hc => ?reissue,
    fun p pos e m k he hm hk hf hp hg => exec_shadowScoreDone_taken he hm hk hf hp hg,
    fun p pos e m k he hm hk hf hp hg => exec_shadowScoreDone_poisoned he hm hk hf hp hg, fun p k m i l => rfl,
    fun p k x hk hcl hpass hrows hx => exec_stepClosureProbe_closed hk hcl hpass hrows hx, fun p k hk hdue => ?teardown⟩
  case start => rw [exec_passStart, passStart_credit hpass hm hrows hres hc]
  case startWaits => rw [exec_passStart, passStart_noCredit hpass hm hrows hres hc]
  case reissue => rw [exec_reissuePassTimer, reissuePass_due hpass hm hres hh hl hdue hc]
  case teardown =>
    refine ⟨serveEnd p s, exec_teardownServeEnd p s, ?_, serveEnd_due hk hdue⟩
    rw [serveEnd_due hk hdue, getPart_updPart]

end Sys2Proof.Proofs
end

section
/-!
SUPPORT. One nanosecond of the clock, PPS_OUT, and the staged commit, one lemma for each way a command goes: the statements
IdleStepIsANanosecond, PpsOutMarksEverySecond and StagedCommitStates.
-/
namespace Sys2Proof.Laws
open Sys2Proof Sys2Proof.Machine

-- One nanosecond (R98, R460)

/-- An upset strikes HBM or an SRAM (R460). -/
theorem strike_eq (s : State) : ∃ e r, strike s = { s with free := s.free + 1, hbmErr := e, sramErr := r } := by
  unfold strike
  dsimp only
  split <;> exact ⟨_, _, rfl⟩

/-- Counting the time of open jobs changes the partitions only. -/
theorem countOpenJobs_eq (l : List PartId) (s : State) :
    ∃ ps, eachOf l (fun p s => if (getPart s p).job.open_ then cntPart64 0x00070018 1 p s else s) s = { s with parts := ps } := by
  induction l generalizing s with
  | nil => exact ⟨s.parts, rfl⟩
  | cons p l ih =>
    obtain ⟨ps, h⟩ := ih (if (getPart s p).job.open_ then cntPart64 0x00070018 1 p s else s)
    refine ⟨ps, h.trans ?_⟩
    split <;> rfl

/-- While the clocks run, DT counts exactly where the beat runs; then the time of open jobs counts and an upset may strike. -/
theorem tick_clocked {s : State} (h : clocked s = true) :
    ∃ t, tick s = strike (eachOf allParts (fun p s => if (getPart s p).job.open_ then cntPart64 0x00070018 1 p s else s) t) ∧
      ∃ m w, t = { s with
        boot := { s.boot with sinceNs := s.boot.sinceNs + 1 }
        time := if s.boot.beat then { s.time with dt := (s.time.dt + 1) % 2 ^ 64 } else s.time
        mgt := m, power := w } := by
  have hup : (s.boot.state == .tripped) = false := by simp_all [clocked]
  unfold tick
  rw [hup, h]
  refine ⟨_, rfl, ?_⟩
  by_cases hd : s.power.dutyPower < 16 ∨ s.power.dutyThermal < 16
  · cases s.boot.beat <;> exact ⟨_, _, if_pos hd⟩
  · cases s.boot.beat <;> exact ⟨_, _, if_neg hd⟩

theorem clocked_of_running {s : State} (hc : s.boot.state ≠ .coldReset) (ht : s.boot.state ≠ .tripped) : clocked s = true := by
  simp [clocked, hc, ht]

-- PPS_OUT_EDGE (R104)

theorem exec_ppsOutEdge_second {s : State} (hb : s.boot.beat = true) (hc : clocked s = true) (ht : sysTime s % 1000000000 = 0) :
    exec .ppsOutEdge s = .next { s with out := .ppsOut :: s.out } :=
  if_pos (by simp [hb, hc, ht])

theorem exec_ppsOutEdge_between {s : State} (ht : sysTime s % 1000000000 ≠ 0) : exec .ppsOutEdge s = .next s :=
  if_neg (by simp [ht])

-- The stage (R113, R117, R122, R123)

theorem exec_cfgStageOpen_open {s : State} {r : Requester} {v : Nat} (hc : stageCmd r v 1 s = true)
    (hs : s.commit.state = .idle ∨ (s.commit.state = .fenced ∧ s.commit.rejoin = true)) :
    exec (.cfgStageOpen r v) s = .next (setCommit .staging { s with
      commit := { s.commit with stageBuf := [], items := [], checkSub := 0, voteReason := 0 } }) := by
  refine if_neg ?_
  rcases hs with hs | ⟨hs, hr⟩
  · simp [hc, hs]
  · simp [hc, hs, hr]

/-- The digest is of the placement maps of a well-formed stage, and zeros otherwise (R115). -/
theorem exec_cfgStageSeal_staging {s : State} {r : Requester} {v : Nat} (hc : stageCmd r v 2 s = true) (hs : s.commit.state = .staging) :
    exec (.cfgStageSeal r v) s = .next (setCommit .checking { s with commit := { s.commit with
      stageDigest := (checkForm s).elim (List.replicate 32 0) (fun is => contentDigest (stageMaps is)) } }) := by
  change execCfgStageSeal r v s = _
  rw [execCfgStageSeal, if_neg (by simp [hc, hs])]
  cases checkForm s <;> rfl

section
variable {s u : State} {n : Nat} {is : List StageItem} (hs : s.commit.state = .checking) (hrun : runChecks s = (n, is, u))
include hs hrun

theorem exec_checkerDone_yes (hn : n = 0) :
    exec .checkerDone s = .next (setCommit .sealed { u with commit := { u.commit with items := is, verdictYes := true, checkSub := 0 } }) := by
  change execCheckerDone s = _
  rw [execCheckerDone, if_neg (by simp [hs]), hrun]
  exact if_pos hn

theorem exec_checkerDone_no (hn : n ≠ 0) :
    exec .checkerDone s = .next
      (let w := mgtRecord { code := 0x0801, cls := .corrected, source := 0xB, sub := n } u
       setCommit .sealed { w with commit := { w.commit with items := is, verdictYes := false, checkSub := n, lastOutcome := 3 } }) := by
  change execCheckerDone s = _
  rw [execCheckerDone, if_neg (by simp [hs]), hrun]
  exact if_neg hn

end

theorem exec_cfgStageAbort_unvoted {s : State} {r : Requester} {v : Nat} (hc : stageCmd r v 4 s = true)
    (hs : s.commit.state = .staging ∨ s.commit.state = .sealed) : exec (.cfgStageAbort r v) s = .next (discardStage s) :=
  if_neg (by rcases hs with hs | hs <;> simp [hc, hs])

-- The vote (R115, R123)

/-- The coordinator in VOTING, its vote request sent. -/
def askVotes (head : CommitHead) (s : State) : State :=
  sendCfgAll (scopeDevices (startVote head s) head.groups) (.voteReq head (startVote head s).commit.stageDigest) (startVote head s)

/-- The head of the commit that START begins (R115). -/
def stageHead (s : State) : CommitHead := { id := s.commit.stageId, groups := stageScopeGroups s, instant := s.commit.stageInstant }

section
variable {s u : State} {r : Requester} {v : Nat} (hc : stageCmd r v 3 s = true) (hs : s.commit.state = .sealed)
  (hu : u = askVotes (stageHead s) s)
include hc hs hu

theorem exec_cfgStageStart_yes (hr : voteReason (stageHead s) u.commit.stageDigest u = none) :
    exec (.cfgStageStart r v) s = .next (takeVote (ownId u) true 0 u) := by
  subst hu
  simp only [askVotes, stageHead] at hr ⊢
  change execCfgStageStart r v s = _
  rw [execCfgStageStart, if_neg (by simp [hc, hs])]
  simp only [hr]

theorem exec_cfgStageStart_no {n : Nat} (hr : voteReason (stageHead s) u.commit.stageDigest u = some n) :
    exec (.cfgStageStart r v) s = .next (takeVote (ownId u) false n { u with commit := { u.commit with voteReason := n } }) := by
  subst hu
  simp only [askVotes, stageHead] at hr ⊢
  change execCfgStageStart r v s = _
  rw [execCfgStageStart, if_neg (by simp [hc, hs])]
  simp only [hr]

end

theorem showEpoch_current {s : State} {src : DevId} (h : (getPeer s src).behind = false) (e : Nat) : showEpoch src e s = s := by
  simp [showEpoch, h]

/-- A device in VOTING on a request, not as its coordinator (R115). -/
def enterVoting (head : CommitHead) (u : State) : State :=
  setCommit .voting { u with commit := { u.commit with
    id := head.id, instant := head.instant, scope := head.groups, coordinator := false, noDevice := none, noOutcome := [] } }

section
variable {s u : State} {src : DevId} {e : Nat} (hu : u = showEpoch src (e % 4) s)
include hu

section
variable {head : CommitHead} {dg : Bytes}

theorem exec_voteRequestReceive_yes (hs : u.commit.state = .sealed) (hid : head.id = u.commit.stageId)
    (hr : voteReason head dg (enterVoting head u) = none) :
    exec (.voteRequestReceive src e head dg) s = .next (sendCfg src (.vote head.id true 0) (enterVoting head u)) := by
  change execVoteRequestReceive src e head dg s = _
  simp only [enterVoting, hs, hid] at hr ⊢
  simp only [execVoteRequestReceive, ← hu, hs, hid, hr]
  exact if_neg (not_not_intro rfl)

theorem exec_voteRequestReceive_no {n : Nat} (hs : u.commit.state = .sealed) (hid : head.id = u.commit.stageId)
    (hr : voteReason head dg (enterVoting head u) = some n) :
    exec (.voteRequestReceive src e head dg) s = .next (sendCfg src (.vote head.id false n)
      { enterVoting head u with commit := { (enterVoting head u).commit with voteReason := n } }) := by
  change execVoteRequestReceive src e head dg s = _
  simp only [enterVoting, hs, hid] at hr ⊢
  simp only [execVoteRequestReceive, ← hu, hs, hid, hr]
  exact if_neg (not_not_intro rfl)

/-- A request for another commit than the stage's gets NO with reason 4. -/
theorem exec_voteRequestReceive_otherId (hs : u.commit.state = .sealed ∨ u.commit.state = .staging ∨ u.commit.state = .checking)
    (hid : head.id ≠ u.commit.stageId) :
    exec (.voteRequestReceive src e head dg) s = .next (sendCfg src (.vote head.id false 4) u) := by
  change execVoteRequestReceive src e head dg s = _
  rcases hs with hs | hs | hs <;> simp [execVoteRequestReceive, ← hu, hs, hid]

/-- A request while no stage is sealed gets NO with reason 3. -/
theorem exec_voteRequestReceive_notSealed (hs : (u.commit.state = .idle ∨ u.commit.state = .fenced) ∨
      ((u.commit.state = .staging ∨ u.commit.state = .checking) ∧ head.id = u.commit.stageId)) :
    exec (.voteRequestReceive src e head dg) s = .next (sendCfg src (.vote head.id false 3) u) := by
  change execVoteRequestReceive src e head dg s = _
  rcases hs with hs | ⟨hs, hid⟩
  · rcases hs with hs | hs <;> simp only [execVoteRequestReceive, ← hu, hs]
  · rcases hs with hs | hs <;> simp only [execVoteRequestReceive, ← hu, hs, if_pos hid]

theorem exec_voteRequestReceive_voted (hs : u.commit.state = .voting ∨ u.commit.state = .armed) :
    exec (.voteRequestReceive src e head dg) s = .next (if head.id = u.commit.id then u else sendCfg src (.vote head.id false 4) u) := by
  change execVoteRequestReceive src e head dg s = _
  rcases hs with hs | hs <;> simp only [execVoteRequestReceive, ← hu, hs] <;> exact (apply_ite _ _ _ _).symm

end

theorem exec_voteReceive_inTime {id : Nat} (hs : u.commit.state = .voting) (hco : u.commit.coordinator = true) (hid : id = u.commit.id)
    (hsc : (scopeDevices u u.commit.scope).contains src = true) (ht : sysTime u + 1000000 ≤ u.commit.instant) (yes : Bool) (r : Nat) :
    exec (.voteReceive src e id yes r) s = .next (takeVote src yes r u) := by
  change execVoteReceive src e id yes r s = _
  simp only [execVoteReceive, ← hu]
  exact if_neg (by rw [hsc]; simp [hs, hco, hid, ht])

-- The outcome (R116, R117, R121, R123)

theorem exec_outcomeReceive_awaited {id : Nat} (hid : id = u.commit.id)
    (hs : u.commit.state = .voting ∨ (u.commit.state = .fenced ∧ u.commit.rejoin = false)) (b : Bool) (r : Nat) (w : Option DevId) :
    exec (.outcomeReceive src e id b r w) s = .next (takeOutcome b r w u) := by
  change execOutcomeReceive src e id b r w s = _
  simp only [execOutcomeReceive, ← hu]
  exact if_pos (by simpa [awaits, hid] using hs)

theorem exec_outcomeReceive_record {id : Nat} (ha : awaits u id = false) (ho : u.commit.outcomes.any (fun e => e.1 == id) = false)
    (r : Nat) (w : Option DevId) :
    exec (.outcomeReceive src e id false r w) s = .next (recordAbort id r w u) := by
  change execOutcomeReceive src e id false r w s = _
  rw [execOutcomeReceive, ← hu, ha, ho]
  rfl

theorem exec_outcomeReceive_left {id : Nat} {b : Bool} (ha : awaits u id = false)
    (ho : b = true ∨ u.commit.outcomes.any (fun e => e.1 == id) = true) (r : Nat) (w : Option DevId) :
    exec (.outcomeReceive src e id b r w) s = .next u := by
  change execOutcomeReceive src e id b r w s = _
  rw [execOutcomeReceive, ← hu, ha]
  exact if_pos ((Bool.or_eq_true _ _).mpr ho)

/-- An announcement whose instant lies ahead waits for it at a device that is no group master. -/
theorem exec_announcementReceive_kept {head : CommitHead} (ha : u.commit.applied.contains head.id = false)
    (hn : u.commit.announced.any (fun h => h.id == head.id) = false) (hm : u.time.isMaster = false) (ht : sysTime u < head.instant) :
    exec (.announcementReceive src e head) s = .next { u with commit := { u.commit with announced := u.commit.announced ++ [head] } } := by
  have hp : passOn head u = u := by simp [passOn, hm]
  change execAnnouncementReceive src e head s = _
  rw [execAnnouncementReceive, ← hu, ha, hn]
  simp only [hp]
  exact if_neg (Nat.not_le.mpr ht)

theorem exec_queryReceive_query {id : Nat} (hid : id ≠ 0) :
    exec (.queryReceive src e (.query id)) s =
      .next (sendCfg src (.answer id ((u.commit.outcomes.find? (fun e => e.1 == id)).map (·.2))) u) := by
  subst hu
  exact if_neg hid

theorem exec_queryReceive_answer (hs : u.commit.state = .fenced) (hr : u.commit.rejoin = false) (b : Bool) (r : Nat) (w : Option DevId) :
    exec (.queryReceive src e (.answer u.commit.id (some (b, r, w)))) s = .next (takeOutcome b r w u) := by
  subst hu
  exact if_neg (by simp [hs, hr])

end

theorem msgEpoch_notRejoining {s : State} (h : s.commit.rejoin = false) (m : CfgMsg) : msgEpoch m s = ownEpoch s := by
  cases m <;> simp [msgEpoch, h]

theorem voteReason_eq (head : CommitHead) (dg : Bytes) (s : State) :
    voteReason head dg s = (if s.commit.verdictYes = false then some 1
      else if s.commit.stageDigest ≠ dg then some 2
      else if s.boot.timeUnsync = true ∨ (1 < head.groups.length ∧ s.time.sysSync = false) then some 5
      else if head.instant < sysTime s + 2000000 ∨ sysTime s + 1000000000 < head.instant then some 6
      else none) := by
  simp [voteReason]

section
variable {s : State}

theorem exec_voteDeadline_due (hs : s.commit.state = .voting) (hco : s.commit.coordinator = true)
    (ht : s.commit.instant ≤ sysTime s + 1000000) : exec .voteDeadline s = .next (decideAbort 7 none s) :=
  if_neg (by simp [hs, hco, ht])

theorem takeOutcome_voting (hs : s.commit.state = .voting) (b : Bool) (r : Nat) (w : Option DevId) :
    takeOutcome b r w s = if b then takeCommit s else takeAbort r w s := by
  simp only [takeOutcome, hs]

-- The instant and fencing (R118, R119, R121)

theorem exec_commitInstant_armed (hs : s.commit.state = .armed) (ht : s.commit.instant ≤ sysTime s) (ha : s.commit.announced = []) :
    exec .commitInstant s = .next (applyCommit false { s with commit := { s.commit with announced := [] } }) := by
  change execCommitInstant s = _
  rw [execCommitInstant, ha]
  exact congrArg _ (if_pos (by rw [hs]; exact decide_eq_true ht))

theorem exec_commitInstant_voting (hs : s.commit.state = .voting) (ht : s.commit.instant ≤ sysTime s) (ha : s.commit.announced = []) :
    exec .commitInstant s = .next (setCommit .fenced { s with commit := { s.commit with announced := [] } }) := by
  change execCommitInstant s = _
  rw [execCommitInstant, ha]
  exact congrArg _ ((if_neg (by rw [hs]; simp)).trans (if_pos (by rw [hs]; exact decide_eq_true ht)))

theorem bumpEpochs_new {h : CommitHead} (ha : s.commit.applied.contains h.id = false) :
    (bumpEpochs h s).commit = { s.commit with
      epochs := h.groups.foldl (fun t g => tabUpd 0 g (fun e => (e + 1) % 4) t) s.commit.epochs
      epochAt := h.groups.foldl (fun t g => tabSet 0 g (dtNow s) t) s.commit.epochAt
      applied := s.commit.applied ++ [h.id], lastFabric := some h
      fabricCount := if h.groups.contains s.cfg.group.group then (s.commit.fabricCount + 1) % 65536 else s.commit.fabricCount } := by
  rw [bumpEpochs, if_neg (by rw [ha]; decide)]

theorem exec_fencedQuery_fenced (hs : s.commit.state = .fenced) (hr : s.commit.rejoin = false) :
    exec .fencedQuery s = .next (sendCfgAll (scopeDevices s s.commit.scope) (.query s.commit.id) s) :=
  if_neg (by simp [hs, hr])

theorem exec_fenceTimeout_due (hs : s.commit.state = .fenced) (hr : s.commit.rejoin = false) (ht : s.commit.instant + 10000000 ≤ sysTime s)
    (hall : (scopeDevices s s.commit.scope).all (fun d => d == ownId s || (getPeer s d).unreachable || s.commit.noOutcome.contains d) = true) :
    exec .fenceTimeout s = .next (takeOutcome false s.commit.voteReason none s) :=
  if_neg (by rw [hall]; simp [hs, hr, ht])

end

end Sys2Proof.Laws

namespace Sys2Proof.Proofs
open Sys2Proof Sys2Proof.Machine Sys2Proof.Laws

/-- Settles O2: a step on an empty queue is a tick of the running clocks. -/
theorem idleStepIsANanosecond : Obligations.IdleStepIsANanosecond := by
  intro s hq hc ht
  obtain ⟨_, htick, m, w, rfl⟩ := tick_clocked (clocked_of_running hc ht)
  obtain ⟨ps, hjobs⟩ := countOpenJobs_eq allParts _
  obtain ⟨e, r, hstrike⟩ := strike_eq _
  rw [step_nil hq, htick, hjobs, hstrike]
  exact ⟨_, rfl, rfl, fun hb => by rw [hb]; rfl, fun hb => by rw [hb]; rfl, hq, rfl, rfl, rfl, rfl, rfl⟩

/-- Settles O14: ST does not depend on SYS_SYNC. -/
theorem ppsOutMarksEverySecond : Obligations.PpsOutMarksEverySecond := fun s =>
  ⟨fun hb hc ht => ⟨exec_ppsOutEdge_second hb hc ht, fun b =>
      exec_ppsOutEdge_second (s := { s with time := { s.time with sysSync := b } }) hb hc ht⟩,
    fun _ _ ht => exec_ppsOutEdge_between ht⟩

/-- Settles O16, clause by clause: each command in the state of R123 that it applies in. -/
theorem stagedCommitStates : Obligations.StagedCommitStates := by
  intro s
  refine ⟨fun r v hc hs => exec_cfgStageOpen_open hc hs, fun r v hc hs => ⟨_, exec_cfgStageSeal_staging hc hs, ?digest, ?noDigest⟩,
    fun is u hs hrun => exec_checkerDone_yes hs hrun rfl, fun n is u hs hrun hn => exec_checkerDone_no hs hrun hn,
    fun r v hc hs => exec_cfgStageAbort_unvoted hc hs, fun r v head u hc hs hh hu => ?start, fun src e h => showEpoch_current h e,
    fun src e head dg u v hu hs hid hv => ?vote, fun src e head dg u hu h => exec_voteRequestReceive_otherId hu h.1 h.2,
    fun src e head dg u hu h => exec_voteRequestReceive_notSealed hu h, fun src e head dg u hu h => exec_voteRequestReceive_voted hu h,
    fun d m => ⟨rfl, fun h => msgEpoch_notRejoining h m⟩, fun head dg => voteReason_eq head dg s,
    fun src e id yes r u hu hs hco hid hsc ht => exec_voteReceive_inTime hu hs hco hid hsc ht yes r,
    fun hs hco ht => exec_voteDeadline_due hs hco ht,
    fun src e id r b w u hu hid hs => exec_outcomeReceive_awaited hu hid hs b r w,
    fun src e id r w u hu ha ho => exec_outcomeReceive_record hu ha ho r w,
    fun src e id r b w u hu ha ho => exec_outcomeReceive_left hu ha ho r w,
    fun r w hs => ⟨takeOutcome_voting hs true r w, takeOutcome_voting hs false r w⟩,
    fun src e head u hu ha hn hm ht => exec_announcementReceive_kept hu ha hn hm ht, fun hs ht ha => exec_commitInstant_armed hs ht ha,
    fun hs ht ha => exec_commitInstant_voting hs ht ha, fun h ha _ => ?epochs, fun hs hr => exec_fencedQuery_fenced hs hr,
    fun src e id u hu hid => exec_queryReceive_query hu hid, fun src e r b w u hu hs hr => exec_queryReceive_answer hu hs hr b r w,
    fun hs hr ht hall => exec_fenceTimeout_due hs hr ht hall⟩
  case digest => intro is h; rw [h]; rfl
  case noDigest => intro h; rw [h]; rfl
  case start =>
    subst hh
    split
    · exact exec_cfgStageStart_yes hc hs hu ‹_›
    · exact exec_cfgStageStart_no hc hs hu ‹_›
  case vote =>
    subst hv
    split
    · exact exec_voteRequestReceive_yes hu hs hid ‹_›
    · exact exec_voteRequestReceive_no hu hs hid ‹_›
  case epochs => rw [bumpEpochs_new ha]; exact ⟨rfl, rfl, rfl⟩

end Sys2Proof.Proofs
end

section
/-!
SUPPORT. What every command and every step keeps, assembled from the laws of the operations: the statement MemoryStaysCanonical.
-/
namespace Sys2Proof.Laws
open Sys2Proof Sys2Proof.Machine Sys2Proof.Safety

/-- What a command keeps, with one arm for each command, as in `exec`. -/
theorem exec_keeps {s0 s : State} (hk : Keeps s0 s) (c : Instr) : KeepsO s0 (exec c s) := by
  cases c with
  | registerWrite r a len v ep => exact execRegisterWrite_keeps r a len v ep s hk
  | rcRegisterRead r a len => exact execRcRegisterRead_keeps r a len s hk
  | lowHalfRead r off => exact execLowHalfRead_keeps r off s hk
  | highHalfRead r off => exact execHighHalfRead_keeps r off s hk
  | pwrGoodFall => exact execPwrGoodFall_keeps s hk
  | boardResetAssert => exact execBoardResetAssert_keeps s hk
  | railBelowThreshold rail => exact execRailBelowThreshold_keeps rail s hk
  | testEnHigh => exact execTestEnHigh_keeps s hk
  | coldResetRelease => exact execColdResetRelease_keeps s hk
  | devResetReqWarm r v => exact execDevResetReqWarm_keeps r v s hk
  | devResetReqPartition r v => exact execDevResetReqPartition_keeps r v s hk
  | warmResetComplete => exact execWarmResetComplete_keeps s hk
  | partitionResetComplete p => exact execPartitionResetComplete_keeps p s hk
  | perstAssert k => exact execPerstAssert_keeps k s hk
  | perstRelease k => exact execPerstRelease_keeps k s hk
  | flr k => exact execFlr_keeps k s hk
  | functionReady k => exact execFunctionReady_keeps k s hk
  | romBankChoice => exact execRomBankChoice_keeps s hk
  | imageVerifyDone errs => exact execImageVerifyDone_keeps errs s hk
  | selftestDone failed => exact execSelftestDone_keeps failed s hk
  | garkuLoadDone errs => exact execGarkuLoadDone_keeps errs s hk
  | portRetrainDone k gen width => exact execPortRetrainDone_keeps k gen width s hk
  | bistReadDone errs => exact execBistReadDone_keeps errs s hk
  | hbmTrainDone ok => exact execHbmTrainDone_keeps ok s hk
  | hbmClearDone errs => exact execHbmClearDone_keeps errs s hk
  | groupSyncRise errs => exact execGroupSyncRise_keeps errs s hk
  | groupSyncLineHigh => exact execGroupSyncLineHigh_keeps s hk
  | alignTimeout errs => exact execAlignTimeout_keeps errs s hk
  | linkTrainEnd => exact execLinkTrainEnd_keeps s hk
  | linkTrainTimeout => exact execLinkTrainTimeout_keeps s hk
  | timeSyncAchieved => exact execTimeSyncAchieved_keeps s hk
  | timeSyncTimeout => exact execTimeSyncTimeout_keeps s hk
  | thermalTrip sensor value => exact execThermalTrip_keeps sensor value s hk
  | fwWatchdog => exact execFwWatchdog_keeps s hk
  | fallbackAlertStep => exact execFallbackAlertStep_keeps s hk
  | mgtWdtRefresh r v => exact execMgtWdtRefresh_keeps r v s hk
  | timeMessageSend => exact execTimeMessageSend_keeps s hk
  | timeMessageReceive l dt sysOffset epoch master fabricCount table ref =>
    exact execTimeMessageReceive_keeps l dt sysOffset epoch master fabricCount table ref s hk
  | timeRefLock => exact execTimeRefLock_keeps s hk
  | ppsInEdge => exact execPpsInEdge_keeps s hk
  | ppsOutEdge => exact execPpsOutEdge_keeps s hk
  | ptpEventMessage pl e => exact execPtpEventMessage_keeps pl e s hk
  | sysSyncLoss => exact execSysSyncLoss_keeps s hk
  | ptpPortMove => exact execPtpPortMove_keeps s hk
  | cfgStageOpen r v => exact execCfgStageOpen_keeps r v s hk
  | cfgStageSeal r v => exact execCfgStageSeal_keeps r v s hk
  | checkerDone => exact execCheckerDone_keeps s hk
  | cfgStageStart r v => exact execCfgStageStart_keeps r v s hk
  | cfgStageAbort r v => exact execCfgStageAbort_keeps r v s hk
  | voteRequestReceive src epoch head digest => exact execVoteRequestReceive_keeps src epoch head digest s hk
  | voteReceive src epoch id yes reason => exact execVoteReceive_keeps src epoch id yes reason s hk
  | voteDeadline => exact execVoteDeadline_keeps s hk
  | outcomeReceive src epoch id commit reason voter => exact execOutcomeReceive_keeps src epoch id commit reason voter s hk
  | announcementReceive src epoch head => exact execAnnouncementReceive_keeps src epoch head s hk
  | commitInstant => exact execCommitInstant_keeps s hk
  | fencedQuery => exact execFencedQuery_keeps s hk
  | queryReceive src epoch msg => exact execQueryReceive_keeps src epoch msg s hk
  | fenceTimeout => exact execFenceTimeout_keeps s hk
  | bar2Write r off data ep => exact execBar2Write_keeps r off data ep s hk
  | bar4Read r off len ecc => exact execBar4Read_keeps r off len ecc s hk
  | bar4Write r off data ep ecc => exact execBar4Write_keeps r off data ep ecc s hk
  | powerStateD3hot k => exact execPowerStateD3hot_keeps k s hk
  | powerStateD0 k => exact execPowerStateD0_keeps k s hk
  | pmPmeTransmit k => exact execPmPmeTransmit_keeps k s hk
  | pmPmeRetransmit k => exact execPmPmeRetransmit_keeps k s hk
  | aspmL1Entry k => exact execAspmL1Entry_keeps k s hk
  | pmeTurnOff k => exact execPmeTurnOff_keeps k s hk
  | dlDown k => exact execDlDown_keeps k s hk
  | busMasterEnableChange k on => exact execBusMasterEnableChange_keeps k on s hk
  | msixUnmask k v => exact execMsixUnmask_keeps k v s hk
  | dmaReadCompletion k tag status data => exact execDmaReadCompletion_keeps k tag status data s hk
  | dmaCompletionTimeout k tag => exact execDmaCompletionTimeout_keeps k tag s hk
  | ideIntegrityFail k stream => exact execIdeIntegrityFail_keeps k stream s hk
  | ringTailWrite r st v => exact execRingTailWrite_keeps r st v s hk
  | ringCtlWrite r st v => exact execRingCtlWrite_keeps r st v s hk
  | ringFetchComplete p st => exact execRingFetchComplete_keeps p st s hk
  | sycHostAdd r idx v => exact execSycHostAdd_keeps r idx v s hk
  | nop p st => exact execNop_keeps p st s hk
  | jobBegin p st => exact execJobBegin_keeps p st s hk
  | jobEnd p st => exact execJobEnd_keeps p st s hk
  | ctSet p st => exact execCtSet_keeps p st s hk
  | ctAdd p st => exact execCtAdd_keeps p st s hk
  | cmpSkip p st => exact execCmpSkip_keeps p st s hk
  | cmpBranch p st => exact execCmpBranch_keeps p st s hk
  | sycWait p st => exact execSycWait_keeps p st s hk
  | sycSet p st => exact execSycSet_keeps p st s hk
  | tdSet p st => exact execTdSet_keeps p st s hk
  | prgRun p st => exact execPrgRun_keeps p st s hk
  | prgEnd p st => exact execPrgEnd_keeps p st s hk
  | rteSelect p => exact execRteSelect_keeps p s hk
  | tokenSelectionCommit p pos => exact execTokenSelectionCommit_keeps p pos s hk
  | rtePropose p => exact execRtePropose_keeps p s hk
  | rteAssign p => exact execRteAssign_keeps p s hk
  | srtBucket p => exact execSrtBucket_keeps p s hk
  | dspGather p => exact execDspGather_keeps p s hk
  | seqLd p ecc => exact execSeqLd_keeps p ecc s hk
  | seqSt p ecc => exact execSeqSt_keeps p ecc s hk
  | seqZero p => exact execSeqZero_keeps p s hk
  | seqMma p ecc => exact execSeqMma_keeps p ecc s hk
  | seqAct p ecc => exact execSeqAct_keeps p ecc s hk
  | seqMul p ecc => exact execSeqMul_keeps p ecc s hk
  | seqScale p ecc => exact execSeqScale_keeps p ecc s hk
  | seqCvt p ecc => exact execSeqCvt_keeps p ecc s hk
  | seqExpert p ecc => exact execSeqExpert_keeps p ecc s hk
  | cmbAccum p => exact execCmbAccum_keeps p s hk
  | cmbFinal p => exact execCmbFinal_keeps p s hk
  | colCommCreate p => exact execColCommCreate_keeps p s hk
  | colCommDestroy p => exact execColCommDestroy_keeps p s hk
  | colAllreduce p => exact execColAllreduce_keeps p s hk
  | colAllgather p => exact execColAllgather_keeps p s hk
  | colReducescatter p => exact execColReducescatter_keeps p s hk
  | colBroadcast p => exact execColBroadcast_keeps p s hk
  | colBarrier p => exact execColBarrier_keeps p s hk
  | colAlltoallv p => exact execColAlltoallv_keeps p s hk
  | colBallotMerge p => exact execColBallotMerge_keeps p s hk
  | xfrTokensIn p => exact execXfrTokensIn_keeps p s hk
  | xfrTokensOut p => exact execXfrTokensOut_keeps p s hk
  | xfrCopy p => exact execXfrCopy_keeps p s hk
  | xfrLoadModel p => exact execXfrLoadModel_keeps p s hk
  | xfrUnloadModel p => exact execXfrUnloadModel_keeps p s hk
  | conjStep p => exact execConjStep_keeps p s hk
  | commandComplete p st => exact execCommandComplete_keeps p st s hk
  | sycWaitTimeout p st => exact execSycWaitTimeout_keeps p st s hk
  | teardownComplete p => exact execTeardownComplete_keeps p s hk
  | passStart p expert => exact execPassStart_keeps p expert s hk
  | passEnd p ecc => exact execPassEnd_keeps p ecc s hk
  | reissuePassTimer p expert => exact execReissuePassTimer_keeps p expert s hk
  | shadowScoreDone p pos => exact execShadowScoreDone_keeps p pos s hk
  | rowReceive src path pkt => exact execRowReceive_keeps src path pkt s hk
  | resultReceive src path pkt => exact execResultReceive_keeps src path pkt s hk
  | verdictReceive src path pkt => exact execVerdictReceive_keeps src path pkt s hk
  | closeReceive src path pkt => exact execCloseReceive_keeps src path pkt s hk
  | dropReceive src path pkt => exact execDropReceive_keeps src path pkt s hk
  | refuseReceive src path pkt => exact execRefuseReceive_keeps src path pkt s hk
  | stepClosureProbe p => exact execStepClosureProbe_keeps p s hk
  | teardownServeEnd p => exact execTeardownServeEnd_keeps p s hk
  | deadlineCheckpoint p dispatch => exact execDeadlineCheckpoint_keeps p dispatch s hk
  | regulatorWindowRefill => exact execRegulatorWindowRefill_keeps s hk
  | requestAging p => exact execRequestAging_keeps p s hk
  | brlSignalDetect l => exact execBrlSignalDetect_keeps l s hk
  | brlEqualizeDone l => exact execBrlEqualizeDone_keeps l s hk
  | identifyReceive l ident => exact execIdentifyReceive_keeps l ident s hk
  | brlKeyingDone l ok => exact execBrlKeyingDone_keeps l ok s hk
  | brlTrainTimeout l => exact execBrlTrainTimeout_keeps l s hk
  | brlDownRetry l => exact execBrlDownRetry_keeps l s hk
  | flitReceive l fec flit msg => exact execFlitReceive_keeps l fec flit msg s hk
  | nakReceive l ack => exact execNakReceive_keeps l ack s hk
  | nakRepeat l => exact execNakRepeat_keeps l s hk
  | ackTimer l => exact execAckTimer_keeps l s hk
  | integrityReceive l flit => exact execIntegrityReceive_keeps l flit s hk
  | timeFlitReceive l farDt farRx => exact execTimeFlitReceive_keeps l farDt farRx s hk
  | lossOfLink l => exact execLossOfLink_keeps l s hk
  | bondAdvertisementSend => exact execBondAdvertisementSend_keeps s hk
  | bondAdvertisementReceive l a => exact execBondAdvertisementReceive_keeps l a s hk
  | brlIdleTimer l => exact execBrlIdleTimer_keeps l s hk
  | sleepReqReceive l => exact execSleepReqReceive_keeps l s hk
  | wakePattern l => exact execWakePattern_keeps l s hk
  | brlRetrain r l v => exact execBrlRetrain_keeps r l v s hk
  | brlDormant r l v => exact execBrlDormant_keeps r l v s hk
  | brlWake r l v => exact execBrlWake_keeps r l v s hk
  | tthAlignDone pl => exact execTthAlignDone_keeps pl s hk
  | mkaSecured pl peerPriority xpn => exact execMkaSecured_keeps pl peerPriority xpn s hk
  | tthTrainTimeout pl => exact execTthTrainTimeout_keeps pl s hk
  | tthFault pl => exact execTthFault_keeps pl s hk
  | tthDownRetry pl => exact execTthDownRetry_keeps pl s hk
  | mkaPeerLoss pl => exact execMkaPeerLoss_keeps pl s hk
  | macsecRekey pl => exact execMacsecRekey_keeps pl s hk
  | tthRetrain r pl v => exact execTthRetrain_keeps r pl v s hk
  | tthDormant r pl v => exact execTthDormant_keeps r pl v s hk
  | tthWake r pl v => exact execTthWake_keeps r pl v s hk
  | tthDataReceive pl fr dgram => exact execTthDataReceive_keeps pl fr dgram s hk
  | tthAckReceive pl fr dgram => exact execTthAckReceive_keeps pl fr dgram s hk
  | tthHelloReceive pl fr dgram => exact execTthHelloReceive_keeps pl fr dgram s hk
  | tthHelloAckReceive pl fr dgram => exact execTthHelloAckReceive_keeps pl fr dgram s hk
  | closeCtxReceive pl fr dgram => exact execCloseCtxReceive_keeps pl fr dgram s hk
  | helloRetry ctx => exact execHelloRetry_keeps ctx s hk
  | tthAckTimer ctx => exact execTthAckTimer_keeps ctx s hk
  | rtoExpiry ctx => exact execRtoExpiry_keeps ctx s hk
  | contextIdleClose ctx => exact execContextIdleClose_keeps ctx s hk
  | tthRetxExhaust ctx => exact execTthRetxExhaust_keeps ctx s hk
  | failedPlaneProbe pl peer part => exact execFailedPlaneProbe_keeps pl peer part s hk
  | arpNdRequest pl frame asker target => exact execArpNdRequest_keeps pl frame asker target s hk
  | neighbourRefresh pl addr => exact execNeighbourRefresh_keeps pl addr s hk
  | icmpEchoRequest pl frame asker ident => exact execIcmpEchoRequest_keeps pl frame asker ident s hk
  | pauseFrameReceive pl => exact execPauseFrameReceive_keeps pl s hk
  | colDataReceive src path pkt ops => exact execColDataReceive_keeps src path pkt ops s hk
  | colAckReceive src path pkt => exact execColAckReceive_keeps src path pkt s hk
  | colNackReceive src path pkt => exact execColNackReceive_keeps src path pkt s hk
  | joinReceive src path pkt => exact execJoinReceive_keeps src path pkt s hk
  | readyReceive src path pkt => exact execReadyReceive_keeps src path pkt s hk
  | colAbortReceive src path pkt => exact execColAbortReceive_keeps src path pkt s hk
  | colProbeReceive src path pkt => exact execColProbeReceive_keeps src path pkt s hk
  | colProbeAckReceive src path pkt => exact execColProbeAckReceive_keeps src path pkt s hk
  | colProbeTimer p => exact execColProbeTimer_keeps p s hk
  | colProbeTimeout p dev => exact execColProbeTimeout_keeps p dev s hk
  | commCreateTimeout p => exact execCommCreateTimeout_keeps p s hk
  | colCommandTimeout p => exact execColCommandTimeout_keeps p s hk
  | reducerSlotGrant => exact execReducerSlotGrant_keeps s hk
  | dlHelloReceive msg => exact execDlHelloReceive_keeps msg s hk
  | dlCompareReceive msg => exact execDlCompareReceive_keeps msg s hk
  | dlAbandonReceive msg => exact execDlAbandonReceive_keeps msg s hk
  | dlCompareTimeout p => exact execDlCompareTimeout_keeps p s hk
  | dlPairLinkDown => exact execDlPairLinkDown_keeps s hk
  | patrolScrubRead gran result => exact execPatrolScrubRead_keeps gran result s hk
  | errHeadWrite r v => exact execErrHeadWrite_keeps r v s hk
  | pairHelloSend => exact execPairHelloSend_keeps s hk
  | pairHelloReceive msg => exact execPairHelloReceive_keeps msg s hk
  | mirrorReceive msg => exact execMirrorReceive_keeps msg s hk
  | snapReceive msg => exact execSnapReceive_keeps msg s hk
  | heartbeatSnapshot p => exact execHeartbeatSnapshot_keeps p s hk
  | pairAckReceive msg => exact execPairAckReceive_keeps msg s hk
  | ackSilence => exact execAckSilence_keeps s hk
  | deposedReceive msg => exact execDeposedReceive_keeps msg s hk
  | standbySilence => exact execStandbySilence_keeps s hk
  | pairProbeReceive pl msg => exact execPairProbeReceive_keeps pl msg s hk
  | pairProbeAckReceive pl msg => exact execPairProbeAckReceive_keeps pl msg s hk
  | witnessQReceive pl src msg => exact execWitnessQReceive_keeps pl src msg s hk
  | witnessAReceive pl msg => exact execWitnessAReceive_keeps pl msg s hk
  | takeoverDecision => exact execTakeoverDecision_keeps s hk
  | sbActivate r v => exact execSbActivate_keeps r v s hk
  | sbDepose r v => exact execSbDepose_keeps r v s hk
  | sbRejoin r v => exact execSbRejoin_keeps r v s hk
  | setPstate r v => exact execSetPstate_keeps r v s hk
  | pstateRampDone => exact execPstateRampDone_keeps s hk
  | railReadbackSample mv => exact execRailReadbackSample_keeps mv s hk
  | sensorSample temps => exact execSensorSample_keeps temps s hk
  | hbmTempReport stack temp => exact execHbmTempReport_keeps stack temp s hk
  | powerEstimate watts => exact execPowerEstimate_keeps watts s hk
  | pwrLimitWWrite r v => exact execPwrLimitWWrite_keeps r v s hk
  | pwrCloseUsWrite r v => exact execPwrCloseUsWrite_keeps r v s hk
  | gate r v => exact execGate_keeps r v s hk
  | clusterNoticeTimer => exact execClusterNoticeTimer_keeps s hk
  | clusterNoticeReceive notice => exact execClusterNoticeReceive_keeps notice s hk
  | closeTimeElapsed c => exact execCloseTimeElapsed_keeps c s hk
  | drainComplete c => exact execDrainComplete_keeps c s hk
  | drainCap c => exact execDrainCap_keeps c s hk
  | isolationTimer c => exact execIsolationTimer_keeps c s hk
  | pwrWake r v => exact execPwrWake_keeps r v s hk
  | clusterPowerUpDone c => exact execClusterPowerUpDone_keeps c s hk
  | quietEnter r v => exact execQuietEnter_keeps r v s hk
  | quietExit r v => exact execQuietExit_keeps r v s hk
  | provision r v => exact execProvision_keeps r v s hk
  | deploy r v => exact execDeploy_keeps r v s hk
  | unlockDebug r v => exact execUnlockDebug_keeps r v s hk
  | relock r v => exact execRelock_keeps r v s hk
  | decommission r v => exact execDecommission_keeps r v s hk
  | zeroize r v => exact execZeroize_keeps r v s hk
  | setVault r v => exact execSetVault_keeps r v s hk
  | advanceFloor r v => exact execAdvanceFloor_keeps r v s hk
  | logClear r v => exact execLogClear_keeps r v s hk
  | authLockoutEnd => exact execAuthLockoutEnd_keeps s hk
  | spdmGetCertificate bd slot off len => exact execSpdmGetCertificate_keeps bd slot off len s hk
  | spdmChallenge bd slot nonce => exact execSpdmChallenge_keeps bd slot nonce s hk
  | spdmGetMeasurements bd op nonce => exact execSpdmGetMeasurements_keeps bd op nonce s hk
  | spdmKeyExchange bd share => exact execSpdmKeyExchange_keeps bd share s hk
  | spdmKeyUpdate bd session => exact execSpdmKeyUpdate_keeps bd session s hk
  | spdmHeartbeat bd session => exact execSpdmHeartbeat_keeps bd session s hk
  | ideKmQuery bd session port => exact execIdeKmQuery_keeps bd session port s hk
  | ideKmKeyProg bd session port stream set key => exact execIdeKmKeyProg_keeps bd session port stream set key s hk
  | ideKmKSetGo bd session port stream set => exact execIdeKmKSetGo_keeps bd session port stream set s hk
  | ideKmKSetStop bd session port stream set => exact execIdeKmKSetStop_keeps bd session port stream set s hk
  | brlRekey l => exact execBrlRekey_keeps l s hk
  | jtagInstruction ir => exact execJtagInstruction_keeps ir s hk
  | entropyTestFail test => exact execEntropyTestFail_keeps test s hk
  | errorWarmReset => exact execErrorWarmReset_keeps s hk
  | bistRun r v => exact execBistRun_keeps r v s hk
  | bistShutdown r v => exact execBistShutdown_keeps r v s hk
  | mfgTestRun units => exact execMfgTestRun_keeps units s hk
  | bistUnitDone unit result detail => exact execBistUnitDone_keeps unit result detail s hk
  | bistWindowSample cause => exact execBistWindowSample_keeps cause s hk
  | mgtEventHeadWrite r v => exact execMgtEventHeadWrite_keeps r v s hk
  | mgtMsgCtlSend r v => exact execMgtMsgCtlSend_keeps r v s hk
  | policyMessageTimeout => exact execPolicyMessageTimeout_keeps s hk
  | read32 bd addr count => exact execRead32_keeps bd addr count s hk
  | secRelay bd buf => exact execSecRelay_keeps bd buf s hk
  | logRead bd sector off len => exact execLogRead_keeps bd sector off len s hk
  | policyMessage bd cmd body => exact execPolicyMessage_keeps bd cmd body s hk
  | setEndpointId bd op eid => exact execSetEndpointId_keeps bd op eid s hk
  | smbusTimeout => exact execSmbusTimeout_keeps s hk
  | tripLatchRead => exact execTripLatchRead_keeps s hk
  | setEventReceiver bd enable => exact execSetEventReceiver_keeps bd enable s hk
  | getSensorReading bd sensor => exact execGetSensorReading_keeps bd sensor s hk
  | sensorEventTimer sensor => exact execSensorEventTimer_keeps sensor s hk
  | requestUpdate bd maxSize count => exact execRequestUpdate_keeps bd maxSize count s hk
  | passComponentTable bd cls ident stamp => exact execPassComponentTable_keeps bd cls ident stamp s hk
  | updateComponent bd cls ident size => exact execUpdateComponent_keeps bd cls ident size s hk
  | bankEraseDone => exact execBankEraseDone_keeps s hk
  | firmwareDataReceive bd off data => exact execFirmwareDataReceive_keeps bd off data s hk
  | transferComplete => exact execTransferComplete_keeps s hk
  | verifyComplete => exact execVerifyComplete_keeps s hk
  | applyComplete => exact execApplyComplete_keeps s hk
  | cancelUpdate bd => exact execCancelUpdate_keeps bd s hk
  | activateFirmware bd => exact execActivateFirmware_keeps bd s hk
  | dbgTraceCtlWrite r v => exact execDbgTraceCtlWrite_keeps r v s hk
  | traceRecordDrain p => exact execTraceRecordDrain_keeps p s hk
  | dbgTraceRdWrite r v => exact execDbgTraceRdWrite_keeps r v s hk
  | dbgMark r v => exact execDbgMark_keeps r v s hk
  | cntSnapTake r v => exact execCntSnapTake_keeps r v s hk
  | cntSnapRelease r v => exact execCntSnapRelease_keeps r v s hk
  | mpHalt r v => exact execMpHalt_keeps r v s hk
  | mpStep r v => exact execMpStep_keeps r v s hk
  | timeRefLoss => exact execTimeRefLoss_keeps s hk
  | hostLinkUp k gen width flit reversed => exact execHostLinkUp_keeps k gen width flit reversed s hk
  | mgtWakeReqWrite r v => exact execMgtWakeReqWrite_keeps r v s hk
  | arpNdReplyReceive pl frame addr mac => exact execArpNdReplyReceive_keeps pl frame addr mac s hk
  | neighbourResolutionRetry pl addr => exact execNeighbourResolutionRetry_keeps pl addr s hk
  | spdmEndSession bd session => exact execSpdmEndSession_keeps bd session s hk
  | activationWarmReset => exact execActivationWarmReset_keeps s hk
  | firmwareDataRetry => exact execFirmwareDataRetry_keeps s hk
  | smbusArbitrationRetry => exact execSmbusArbitrationRetry_keeps s hk

/-- A step keeps what a command keeps, but for the queue, whose front command leaves it. -/
theorem step_keeps {s t : State} (h : step s = .next t) : ∃ q, Keeps { s with pending := q } t := by
  cases hq : s.pending with
  | nil =>
    rw [step_nil hq] at h
    cases h
    exact ⟨s.pending, tick_keeps s (.refl s)⟩
  | cons c q =>
    rw [step_cons hq] at h
    have hk := exec_keeps (.refl { s with pending := q }) c
    rw [h] at hk
    exact ⟨q, hk⟩

theorem Keeps.memWf {s t : State} (h : Keeps s t) (hs : MemWf s) : MemWf t := by
  obtain ⟨hhbm, hpoison, herr, hflash, hsyc⟩ := hs
  exact ⟨h.hbm hhbm, h.poison hpoison, h.err herr, h.flash hflash, h.syc hsyc⟩

end Sys2Proof.Laws

namespace Sys2Proof.Proofs
open Sys2Proof Sys2Proof.Machine Sys2Proof.Laws

/-- Settles O53: every operation of the model keeps the canonical form, and so does a step. -/
theorem memoryStaysCanonical : Obligations.MemoryStaysCanonical := by
  intro s t hs h
  obtain ⟨_, hk⟩ := step_keeps h
  exact hk.memWf hs

end Sys2Proof.Proofs
end

section
/-!
SUPPORT. What is changed by a record and what it sends: partitions, ports and the record of what was sent. Then the BAR2 and BAR4
accesses of a host port, one lemma for each way an access is served, and the marks and errors of HBM that a BAR4 access leaves:
the statements HbmFrame, HostBarAccesses and PoisonMarksOfBar4Granules.
-/
namespace Sys2Proof.Laws
open Sys2Proof Sys2Proof.Machine Sys2Proof.Safety

-- What a record changes (R454 to R456)

/-- `t` is `s` but for what the partitions and ports hold and for what was sent. -/
def Reports (s t : State) : Prop := ∃ parts ports out, t = { s with parts := parts, ports := ports, out := out }

namespace Reports
variable {s0 s : State}

theorem refl (s : State) : Reports s s := ⟨_, _, _, rfl⟩

theorem hbm (h : Reports s0 s) : s.hbm = s0.hbm := by obtain ⟨_, _, _, rfl⟩ := h; rfl
theorem hbmPoison (h : Reports s0 s) : s.hbmPoison = s0.hbmPoison := by obtain ⟨_, _, _, rfl⟩ := h; rfl
theorem hbmErr (h : Reports s0 s) : s.hbmErr = s0.hbmErr := by obtain ⟨_, _, _, rfl⟩ := h; rfl
theorem cfg (h : Reports s0 s) : s.cfg = s0.cfg := by obtain ⟨_, _, _, rfl⟩ := h; rfl

theorem updPart (h : Reports s0 s) (p : PartId) (f : Part → Part) : Reports s0 (updPart s p f) := by
  obtain ⟨_, _, _, rfl⟩ := h; exact ⟨_, _, _, rfl⟩

theorem updPort (h : Reports s0 s) (k : PortId) (f : Port → Port) : Reports s0 (updPort s k f) := by
  obtain ⟨_, _, _, rfl⟩ := h; exact ⟨_, _, _, rfl⟩

theorem emit (h : Reports s0 s) (e : Emit) : Reports s0 (emit e s) := by
  obtain ⟨_, _, _, rfl⟩ := h; exact ⟨_, _, _, rfl⟩

theorem ite {c : Prop} [Decidable c] {a b : State} (ha : Reports s0 a) (hb : Reports s0 b) : Reports s0 (if c then a else b) := by
  split <;> assumption

theorem eachOf {α : Type} {f : α → State → State} (hf : ∀ x s, Reports s0 s → Reports s0 (f x s)) (l : List α) :
    ∀ {s : State}, Reports s0 s → Reports s0 (eachOf l f s) := by
  induction l with
  | nil => exact id
  | cons x l ih => exact fun h => ih (hf x _ h)

theorem charge (h : Reports s0 s) (p : PartId) (i : Fin 4) (n : Nat) : Reports s0 (charge p i n s) :=
  ite h (h.updPart ..)

theorem stall (h : Reports s0 s) (p : PartId) (i : Fin 4) : Reports s0 (stall p i s) :=
  ite h ((h.updPart ..).updPart ..)

theorem wakeEvent (h : Reports s0 s) (k : PortId) (cause : Nat) : Reports s0 (wakeEvent k cause s) :=
  ite h (h.updPort ..)

theorem issueOne {t : State} {k : PortId} {r : DmaReq} (h : Reports s0 s) (e : issueOne k r s = some t) : Reports s0 t := by
  have pay (n : Nat) {u : State} (hu : Reports s0 u) :
      Reports s0 (match partOf s k with | some p => Machine.charge p 3 n u | none => u) := by
    cases partOf s k with
    | none => exact hu
    | some p => exact hu.charge ..
  cases r with
  | read addr len tgt =>
    simp only [Machine.issueOne, Option.ite_none_left_eq_some, Option.some.injEq] at e
    rw [← e.2]
    exact pay _ (((h.updPort ..).updPort ..).emit _)
  | write kind addr data u n first =>
    simp only [Machine.issueOne, Option.ite_none_left_eq_some, Option.some.injEq] at e
    rw [← e.2]
    exact pay _ ((h.updPort ..).emit _)
  | msix v =>
    simp only [Machine.issueOne, Option.some.injEq] at e
    rw [← e]
    exact ite (h.updPort ..) (ite ((h.updPort ..).updPort ..) ((h.updPort ..).emit _))

theorem pumpList (k : PortId) (l : List DmaReq) : ∀ {s : State}, Reports s0 s → Reports s0 (pumpList k l s) := by
  induction l with
  | nil => exact fun h => h.updPort ..
  | cons r l ih =>
    intro s h
    rw [Machine.pumpList]
    split
    · exact ih (h.issueOne ‹_›)
    · dsimp only
      split
      · exact h.updPort ..
      · exact ite (h.updPort ..) ((h.updPort ..).stall ..)
      · exact h.updPort ..

theorem dmaPush (h : Reports s0 s) (k : PortId) (rs : List DmaReq) : Reports s0 (dmaPush k rs s) := by
  unfold Machine.dmaPush pump
  dsimp only
  split
  · exact (ite (pumpList _ _ (h.updPort ..)) (h.updPort ..)).updPart ..
  · exact ite (pumpList _ _ (h.updPort ..)) (h.updPort ..)

theorem msixPart (h : Reports s0 s) (p : PartId) (v : Nat) : Reports s0 (msixPart p v s) := by
  unfold Machine.msixPart
  split
  · exact ite h (ite (h.updPort ..) ((h.dmaPush ..).wakeEvent ..))
  · exact h

theorem partRecord (h : Reports s0 s) (p : PartId) (r : ErrRec) : Reports s0 (partRecord p r s) := by
  unfold Machine.partRecord
  dsimp only
  refine ite (((h.updPart ..).updPart ..).updPart ..) (ite (.updPart (.msixPart ?mirrored ..) ..) (.msixPart ?mirrored ..))
  refine ite ?_ ((h.updPart ..).updPart ..)
  split
  · exact (((h.updPart ..).updPart ..).dmaPush ..).wakeEvent ..
  · exact (h.updPart ..).updPart ..

theorem record (h : Reports s0 s) (p : PartId) (r : ErrRec) : Reports s0 (record p r s) := by
  unfold Machine.record
  split
  · exact h.partRecord ..
  · exact ite (h.updPart ..) ((h.updPart ..).partRecord ..)

theorem noteOnce (h : Reports s0 s) (p : PartId) (st : StreamId) (r : ErrRec) : Reports s0 (noteOnce p st r s) := by
  unfold Machine.noteOnce
  split
  · exact ite (h.record ..) (ite h ((h.updPart ..).record ..))
  · exact h.record ..

end Reports

-- The gate of a memory request (R139, R148)

/-- A served request changes at most the link state. -/
theorem hostMem_go {k : PortId} {bare : Bool} {b : Option Nat} {s u : State} (h : hostMem k bare b s = (.go, u)) : u = leaveL1 k s := by
  unfold hostMem at h
  dsimp only at h
  repeat' split at h
  all_goals cases h
  all_goals rfl

/-- A request leaves L1, and is counted and recorded where it is refused for want of IDE protection. -/
theorem hostMem_snd (k : PortId) (bare : Bool) (b : Option Nat) (s : State) :
    (hostMem k bare b s).2 = leaveL1 k s ∨ (hostMem k bare b s).2 = refuseBare k (leaveL1 k s) := by
  unfold hostMem
  dsimp only
  repeat' split
  all_goals simp

@[simp] theorem leaveL1_bar4BaseGib (k : PortId) (s : State) : (getPort (leaveL1 k s) k).bar4BaseGib = (getPort s k).bar4BaseGib := by
  simp [leaveL1]

@[simp] theorem record_hbm (p : PartId) (r : ErrRec) (s : State) : (record p r s).hbm = s.hbm := ((Reports.refl s).record p r).hbm

@[simp] theorem secLogMerged_hbm (e key : Nat) (d : Bytes) (s : State) : (secLogMerged e key d s).hbm = s.hbm := by
  unfold secLogMerged secLogMergedAs
  dsimp only
  split
  · rfl
  · exact secLog_hbm ..

@[simp] theorem refuseBare_hbm (k : PortId) (s : State) : (refuseBare k s).hbm = s.hbm := by
  unfold refuseBare
  dsimp only
  rw [secLogMerged_hbm]
  split
  · split
    · exact record_hbm ..
    · rfl
  · rfl

/-- No memory request stores at the gate. -/
theorem hostMem_hbm (k : PortId) (bare : Bool) (b : Option Nat) (s : State) : (hostMem k bare b s).2.hbm = s.hbm := by
  rcases hostMem_snd k bare b s with h | h
  · rw [h]; rfl
  · rw [h, refuseBare_hbm]; rfl

-- BAR2 and BAR4 accesses of a served port (R133, R134, R136, R137, R146, R416)

theorem exec_bar2Write (r : Requester) (off : Nat) (data : Bytes) (ep : Bool) (s : State) :
    exec (.bar2Write r off data ep) s = .next (bar2Write r off data ep s) := rfl

theorem exec_bar4Read (r : Requester) (off len : Nat) (ecc : List EccFind) (s : State) :
    exec (.bar4Read r off len ecc) s = bar4Read r off len (bar4Ecc r off len false ecc s) := rfl

theorem exec_bar4Write (r : Requester) (off : Nat) (data : Bytes) (ep : Bool) (ecc : List EccFind) (s : State) :
    exec (.bar4Write r off data ep ecc) s = bar4Write r off data ep (bar4Ecc r off data.length true ecc s) := rfl

/-- A BAR4 write with credit: its bytes are stored, and what the merges met is marked and recorded (R137, R461). -/
def bar4Merged (k : PortId) (p : PartId) (x : Nat) (data : Bytes) (ep : Bool) (u : State) : State :=
  settleMerge p 0 0 (spaceWrite p 0 x data (charge p 3 data.length (if ep then poisonedWrite k u else u)))

/-- With EP its range is marked too (R146). -/
def bar4Stored (k : PortId) (p : PartId) (x : Nat) (data : Bytes) (ep : Bool) (u : State) : State :=
  if ep then spaceMark p 0 x data.length (bar4Merged k p x data ep u) else bar4Merged k p x data ep u

section
variable {r : Requester} {b : Bool} {k : PortId} {p : PartId} {s u : State} (hr : portReq r = some (k, b))
  (hgo : hostMem k b none s = (.go, u))
include hr hgo

theorem bar2Write_go {off : Nat} {data : Bytes} (hp : partOf u k = some p) (hlen : off + data.length ≤ 0x4000000) (ep : Bool) :
    bar2Write r off data ep s =
      eachOf (blockPieces off data.length) (bar2Piece k p off ep data) (if ep then poisonedWrite k u else u) := by
  simp only [bar2Write, hr, hgo, hp, if_neg (Nat.not_lt.mpr hlen)]

theorem bar4Read_go (off len : Nat) : bar4Read r off len s = .next (bar4ReadOn k off len u) := by
  simp only [bar4Read, hr, hgo]

theorem bar4Write_go (off : Nat) (data : Bytes) (ep : Bool) : bar4Write r off data ep s = .next (bar4WriteOn k off data ep u) := by
  simp only [bar4Write, hr, hgo]

end

section
variable {k : PortId} {p : PartId} {off len : Nat} {u : State} (hp : partOf u k = some p) (hf : bar4Fits u k off len = true)
include hp hf

theorem bar4ReadOn_credit {x : Nat} (ha : bar4Addr u k p off len = some x) (hc : bar4Credit u k p = true) :
    bar4ReadOn k off len u = eachOf (blockPieces x len) (fun e s =>
        emit (.completion k (if spacePoisoned s p 0 e.1 e.2 then 2 else 0) (spaceRead s p 0 e.1 e.2)) s)
      (eachOf (badGranules u p x len) (fun g s => record p (ueRec s p 0 g) s) (meetHbm p 0 x len (charge p 3 len (charge p 0 len u)))) := by
  simp [bar4ReadOn, hp, hf, ha, hc]

theorem bar4ReadOn_hold {x : Nat} (ha : bar4Addr u k p off len = some x) (hc : bar4Credit u k p = false) :
    bar4ReadOn k off len u = bar4Hold k p (off, len, none) u := by
  simp [bar4ReadOn, hp, hf, ha, hc]

theorem bar4ReadOn_outside (ha : bar4Addr u k p off len = none) :
    bar4ReadOn k off len u = emit (.completion k 1 []) (bar4Refuse k p off u) := by
  simp [bar4ReadOn, hp, hf, ha]

end

section
variable {k : PortId} {p : PartId} {off : Nat} {data : Bytes} {u : State} (hp : partOf u k = some p)
  (hf : bar4Fits u k off data.length = true) (ep : Bool)
include hp hf

theorem bar4WriteOn_credit {x : Nat} (ha : bar4Addr u k p off data.length = some x) (hc : bar4Credit u k p = true) :
    bar4WriteOn k off data ep u = bar4Stored k p x data ep u := by
  simp [bar4WriteOn, bar4Stored, bar4Merged, hp, hf, ha, hc]

theorem bar4WriteOn_hold {x : Nat} (ha : bar4Addr u k p off data.length = some x) (hc : bar4Credit u k p = false) :
    bar4WriteOn k off data ep u = bar4Hold k p (off, data.length, some (data, ep)) u := by
  simp [bar4WriteOn, hp, hf, ha, hc]

theorem bar4WriteOn_outside (ha : bar4Addr u k p off data.length = none) :
    bar4WriteOn k off data ep u = bar4Refuse k p off (if ep then poisonedWrite k u else u) := by
  simp [bar4WriteOn, hp, hf, ha]

end

-- Sparse tables and byte strings

/-- A key below every listed one reads the default. -/
theorem tabGet_below {α : Type} [DecidableEq α] {d : α} {q : Nat} :
    ∀ {t : Tab α} {lo : Nat}, q < lo → tabWfFrom d lo t = true → tabGet d t q = d
  | [], _, _, _ => rfl
  | (k, w) :: t, lo, hq, h => by
    simp only [tabWfFrom, Bool.and_eq_true, decide_eq_true_eq] at h
    rw [tabGet, if_neg (by omega)]
    exact tabGet_below (by omega) h.2

/-- In canonical form the entries are what the table reads as, but for the default. -/
theorem mem_iff_tabGet {α : Type} [DecidableEq α] {d v : α} (hv : v ≠ d) {q : Nat} :
    ∀ {t : Tab α} {lo : Nat}, tabWfFrom d lo t = true → ((q, v) ∈ t ↔ tabGet d t q = v)
  | [], _, _ => by simp [tabGet, hv.symm]
  | (k, w) :: t, lo, h => by
    simp only [tabWfFrom, Bool.and_eq_true, decide_eq_true_eq] at h
    have ih := mem_iff_tabGet hv (q := q) h.2
    by_cases hk : k = q
    · subst hk
      simp [tabGet, ih, tabGet_below (Nat.lt_succ_self _) h.2, hv.symm, eq_comm]
    · simp [tabGet, hk, ih, Ne.symm hk]

theorem memRead_memWriteN_inside : ∀ (b : Bytes) (m : Memory) (a i : Nat) (h : i < b.length), memWf m = true →
    memRead (memWriteN m a b) (a + i) = b[i]
  | x :: b, m, a, 0, _, hm => by
    rw [memWriteN, memRead_memWriteN_outside b _ _ _ (.inl (by omega))]
    exact tabGet_tabSet_same memDefault a x m 0 hm
  | x :: b, m, a, i + 1, h, hm => by
    have hlt : i < b.length := Nat.lt_of_succ_lt_succ h
    have ih := memRead_memWriteN_inside b (memWrite m a x) (a + 1) i hlt (tabWf_tabSet memDefault a x m hm)
    rwa [Nat.add_assoc, Nat.add_comm 1 i] at ih

-- Granules and their marks (R136, R137, R461)

theorem mem_granules {a n g : Nat} : g ∈ granules a n ↔ 0 < n ∧ a / Config.granule ≤ g ∧ g ≤ (a + n - 1) / Config.granule := by
  unfold granules Config.granule
  split
  · simp; omega
  · simp only [List.mem_map, List.mem_range]
    constructor
    · rintro ⟨i, hi, rfl⟩
      omega
    · rintro ⟨_, hlo, hhi⟩
      exact ⟨g - a / 64, by omega, by omega⟩

/-- A granule that the range covers whole is one of its granules. -/
theorem mem_granules_of_whole {a n g : Nat} (h : a ≤ g * Config.granule ∧ (g + 1) * Config.granule ≤ a + n) : g ∈ granules a n := by
  rw [mem_granules]
  unfold Config.granule at h ⊢
  omega

theorem tabGet_unmark {P : Nat → Prop} [DecidablePred P] (q : Nat) (l : List Nat) :
    ∀ {t : Tab Bool}, tabWf false t = true →
      tabGet false (l.foldl (fun t g => if P g then tabSet false g false t else t) t) q =
        (tabGet false t q && !(decide (P q) && decide (q ∈ l))) := by
  induction l with
  | nil => simp
  | cons g l ih =>
    intro t h
    rw [List.foldl_cons, ih]
    · by_cases hP : P g
      · by_cases hg : q = g
        · subst hg
          simp [hP, tabGet_tabSet_same false q false t 0 h]
        · simp [hP, hg, tabGet_tabSet_other false g q false hg t]
      · by_cases hg : q = g
        · subst hg
          simp [hP]
        · simp [hP, hg]
    · split
      · exact tabWf_tabSet false g false t h
      · exact h

/-- A write clears the marks of the granules that it covers whole (R461). -/
theorem tabGet_clearWhole (a n g : Nat) {t : Tab Bool} (h : tabWf false t = true) :
    tabGet false (clearWhole a n t) g =
      (tabGet false t g && !(decide (a ≤ g * Config.granule ∧ (g + 1) * Config.granule ≤ a + n))) := by
  rw [clearWhole, tabGet_unmark g _ h]
  by_cases hw : a ≤ g * Config.granule ∧ (g + 1) * Config.granule ≤ a + n
  · simp [hw, mem_granules_of_whole hw]
  · simp [hw]

theorem granuleOwner_congr {s t : State} (h : t.cfg = s.cfg) (g : Nat) : granuleOwner t g = granuleOwner s g := by
  unfold granuleOwner definedParts hbmBase hbmSize partCfg
  rw [h]

theorem markGranule_eq (g : Nat) (s : State) : Reports { s with hbmPoison := tabSet false g true s.hbmPoison } (markGranule g s) := by
  unfold markGranule
  dsimp only
  split
  · exact .ite (.updPart (.refl _) ..) (.refl _)
  · exact .refl _

-- The errors that the merges of a write met (R461)

/-- One error that a merge met: marked and recorded, or corrected and recorded. -/
def settleErr (p : PartId) (st : StreamId) (tag : Nat) (e : Nat × HbmErr) (s : State) : State :=
  let s := { s with hbmErr := tabSet .none e.1 .none s.hbmErr }
  if e.2 == .ueMet then noteOnce p st (ueRec s p tag e.1) (markGranule e.1 s)
  else record p (ceRec s p tag e.1) (cntPart 0x00060040 1 p s)

/-- The errors that merges in the partition's region have met. -/
def metErrs (p : PartId) (s : State) : List (Nat × HbmErr) :=
  s.hbmErr.filter (fun e => (e.2 == .ceMet || e.2 == .ueMet) && granuleOwner s e.1 == some p)

theorem settleMerge_eq (p : PartId) (st : StreamId) (tag : Nat) (s : State) :
    settleMerge p st tag s = eachOf (metErrs p s) (settleErr p st tag) s := rfl

theorem settleErr_hbm (p : PartId) (st : StreamId) (tag : Nat) (e : Nat × HbmErr) (s : State) :
    (settleErr p st tag e s).hbm = s.hbm := by
  unfold settleErr
  dsimp only
  split
  · rw [((Reports.refl _).noteOnce ..).hbm, (markGranule_eq ..).hbm]
  · exact (((Reports.refl _).updPart ..).record ..).hbm

theorem settleErr_poison (p : PartId) (st : StreamId) (tag : Nat) (e : Nat × HbmErr) (s : State) :
    (settleErr p st tag e s).hbmPoison = if e.2 == .ueMet then tabSet false e.1 true s.hbmPoison else s.hbmPoison := by
  unfold settleErr
  dsimp only
  split
  · rw [((Reports.refl _).noteOnce ..).hbmPoison, (markGranule_eq ..).hbmPoison]
  · exact (((Reports.refl _).updPart ..).record ..).hbmPoison

@[simp] theorem settleMerge_hbm (p : PartId) (st : StreamId) (tag : Nat) (s : State) : (settleMerge p st tag s).hbm = s.hbm := by
  rw [settleMerge_eq]
  generalize metErrs p s = l
  induction l generalizing s with
  | nil => rfl
  | cons e l ih => exact (ih (settleErr p st tag e s)).trans (settleErr_hbm ..)

theorem eachOf_settleErr_poison (p : PartId) (st : StreamId) (tag g : Nat) (l : List (Nat × HbmErr)) :
    ∀ {s : State}, tabWf false s.hbmPoison = true →
      tabGet false (eachOf l (settleErr p st tag) s).hbmPoison g = (tabGet false s.hbmPoison g || decide ((g, HbmErr.ueMet) ∈ l)) := by
  induction l with
  | nil => simp [eachOf]
  | cons e l ih =>
    intro s h
    obtain ⟨q, v⟩ := e
    have hp := settleErr_poison p st tag (q, v) s
    change tabGet false (eachOf l (settleErr p st tag) (settleErr p st tag (q, v) s)).hbmPoison g = _
    cases hv : v == .ueMet with
    | true =>
      rw [hv, if_pos rfl] at hp
      rw [ih (hp ▸ tabWf_tabSet false q true _ h), hp, eq_of_beq hv]
      by_cases hg : g = q
      · subst hg
        simp [tabGet_tabSet_same false g true _ 0 h]
      · simp [tabGet_tabSet_other false q g true hg, hg]
    | false =>
      rw [hv, if_neg (by decide)] at hp
      rw [ih (hp ▸ h), hp]
      simp [Ne.symm (ne_of_beq_false hv)]

/-- The merges of a write mark the granules of the partition in which they met an uncorrectable word (R461). -/
theorem settleMerge_poison (p : PartId) (st : StreamId) (tag g : Nat) {s : State} (hp : tabWf false s.hbmPoison = true)
    (he : tabWf .none s.hbmErr = true) :
    tabGet false (settleMerge p st tag s).hbmPoison g =
      (tabGet false s.hbmPoison g || (tabGet .none s.hbmErr g == .ueMet && granuleOwner s g == some p)) := by
  rw [settleMerge_eq, eachOf_settleErr_poison _ _ _ _ _ hp]
  congr 1
  have hmem := mem_iff_tabGet (v := HbmErr.ueMet) (by decide) (q := g) he
  rw [Bool.eq_iff_iff]
  simp [metErrs, hmem]

-- What a BAR4 access reads and stores (R136, R137, R460, R461)

theorem hbmBase_congr {s t : State} (h : t.cfg = s.cfg) (p : PartId) : hbmBase t p = hbmBase s p := by
  unfold hbmBase partCfg
  rw [h]

theorem meetHbm_of_noErr {s : State} (h : ∀ g, tabGet .none s.hbmErr g = .none) (p : PartId) (tag off n : Nat) :
    meetHbm p tag off n s = s := by
  have hnone : (granules (hbmBase s p + off) n).filter (fun g => tabGet .none s.hbmErr g != .none) = [] :=
    List.filter_eq_nil_iff.mpr (fun g _ => by rw [h g]; decide)
  rw [meetHbm, hnone]
  rfl

theorem spacePoisoned_of_noErr {s : State} (h : ∀ g, tabGet .none s.hbmErr g = .none) (p : PartId) (off n : Nat) :
    spacePoisoned s p 0 off n = rangePoisoned s.hbmPoison (hbmBase s p + off) n := by
  have hg : granBad s = fun g => tabGet false s.hbmPoison g := by
    funext g
    rw [granBad, h, Bool.or_assoc]
    exact Bool.or_false _
  simp [spacePoisoned, rangePoisoned, hg]

/-- The completions of a BAR4 read, where no latent error stands in HBM. -/
theorem bar4Completions_out {u : State} (h : ∀ g, tabGet .none u.hbmErr g = .none) (k : PortId) (p : PartId) (l : List (Nat × Nat)) :
    ∀ {s : State}, Reports u s →
      (eachOf l (fun e s => emit (.completion k (if spacePoisoned s p 0 e.1 e.2 then 2 else 0) (spaceRead s p 0 e.1 e.2)) s) s).out =
        (l.map (fun e => Emit.completion k (if rangePoisoned u.hbmPoison (hbmBase u p + e.1) e.2 then 2 else 0)
          (memReadN u.hbm (hbmBase u p + e.1) e.2))).reverse ++ s.out := by
  induction l with
  | nil => exact fun _ => rfl
  | cons e l ih =>
    intro s hs
    refine (ih (hs.emit _)).trans ?_
    have hread : spaceRead s p 0 e.1 e.2 = memReadN u.hbm (hbmBase u p + e.1) e.2 := by
      simp only [spaceRead, hbmRead, hs.hbm, hbmBase_congr hs.cfg]
    rw [spacePoisoned_of_noErr (hs.hbmErr ▸ h), hread, hs.hbmPoison, hbmBase_congr hs.cfg]
    simp

/-- Each piece lies in one granule and is not empty. -/
theorem blockPieces_granule {off n : Nat} {e : Nat × Nat} (h : e ∈ blockPieces off n) :
    e.1 / Config.granule = (e.1 + e.2 - 1) / Config.granule ∧ 0 < e.2 := by
  unfold blockPieces at h
  split at h
  · cases h
  · simp only [List.mem_map, List.mem_range] at h
    obtain ⟨i, hi, rfl⟩ := h
    unfold Config.granule
    dsimp only
    omega

theorem Reports.bar4Hold {s0 s : State} (h : Reports s0 s) (k : PortId) (p : PartId) (x : Nat × Nat × Option (Bytes × Bool)) :
    Reports s0 (bar4Hold k p x s) := by
  unfold Machine.bar4Hold
  have stalled {u : State} (hu : Reports s0 u) (i : Fin 4) : Reports s0 (if hasCredit u p i then u else Machine.stall p i u) :=
    ite hu (hu.stall ..)
  exact (stalled (stalled h 0) 3).updPort ..

theorem Reports.poisonedWrite {s0 s : State} (h : Reports s0 s) (k : PortId) : Reports s0 (poisonedWrite k s) := by
  unfold Machine.poisonedWrite aerPoisoned cntPort
  exact (h.updPort ..).updPort ..

theorem Reports.bar4Refuse {s0 s : State} (h : Reports s0 s) (k : PortId) (p : PartId) (off : Nat) : Reports s0 (bar4Refuse k p off s) := by
  unfold Machine.bar4Refuse cntPort
  exact (h.updPort ..).record ..

/-- The state in which the bytes of a BAR4 write are stored: its EP is counted and its bytes are charged. -/
theorem Reports.bar4Charged (k : PortId) (p : PartId) (n : Nat) (ep : Bool) (u : State) :
    Reports u (Machine.charge p 3 n (if ep then Machine.poisonedWrite k u else u)) :=
  (ite ((refl u).poisonedWrite k) (refl u)).charge ..

theorem spaceWrite_hbm (p : PartId) (x : Nat) (b : Bytes) (s : State) :
    Reports (hbmWrite (hbmBase s p + x) b s) (spaceWrite p 0 x b s) := (Reports.refl _).charge ..

theorem spaceMark_hbm (p : PartId) (x n : Nat) (s : State) : (spaceMark p 0 x n s).hbm = s.hbm := rfl

theorem bar4Merged_hbm (k : PortId) (p : PartId) (x : Nat) (data : Bytes) (ep : Bool) (u : State) :
    (bar4Merged k p x data ep u).hbm = memWriteN u.hbm (hbmBase u p + x) data := by
  have hu := Reports.bar4Charged k p data.length ep u
  rw [bar4Merged, settleMerge_hbm, (spaceWrite_hbm ..).hbm, hbmWrite, hu.hbm, hbmBase_congr hu.cfg]

/-- A BAR4 write stores its bytes and no other. -/
theorem bar4Stored_hbm (k : PortId) (p : PartId) (x : Nat) (data : Bytes) (ep : Bool) (u : State) :
    (bar4Stored k p x data ep u).hbm = memWriteN u.hbm (hbmBase u p + x) data := by
  unfold bar4Stored
  split
  · rw [spaceMark_hbm, bar4Merged_hbm]
  · exact bar4Merged_hbm ..

/-- A BAR4 write changes no byte outside its range, whether it is stored, waits or is refused. -/
theorem bar4WriteOn_hbm_outside {k : PortId} {p : PartId} {off : Nat} {data : Bytes} {u : State} {x a : Nat}
    (hp : partOf u k = some p) (hx : x = hbmBase u p + (2 ^ 30 * (getPort u k).bar4BaseGib + off)) (ha : a < x ∨ x + data.length ≤ a)
    (ep : Bool) : memRead (bar4WriteOn k off data ep u).hbm a = memRead u.hbm a := by
  by_cases hf : bar4Fits u k off data.length = true
  · cases hb : bar4Addr u k p off data.length with
    | none => rw [bar4WriteOn_outside hp hf ep hb, ((Reports.ite ((Reports.refl u).poisonedWrite k) (.refl u)).bar4Refuse ..).hbm]
    | some y =>
      cases hc : bar4Credit u k p with
      | false => rw [bar4WriteOn_hold hp hf ep hb hc, ((Reports.refl u).bar4Hold ..).hbm]
      | true =>
        have hy : 2 ^ 30 * (getPort u k).bar4BaseGib + off = y := by
          simp only [bar4Addr, Option.ite_none_right_eq_some, Option.some.injEq] at hb
          exact hb.2
        rw [bar4WriteOn_credit hp hf ep hb hc, bar4Stored_hbm, memRead_memWriteN_outside _ _ _ _ (by rwa [← hy, ← hx])]
  · simp [bar4WriteOn, hp, hf]

theorem bar4WriteOn_noPart {k : PortId} {u : State} (hp : partOf u k = none) (off : Nat) (data : Bytes) (ep : Bool) :
    bar4WriteOn k off data ep u = u := by
  simp [bar4WriteOn, hp]

/-- A BAR4 write that no ECC event precedes: the gate decides whether it is performed, and stores nothing itself. -/
theorem exec_bar4Write_gate {r : Requester} {k : PortId} {b : Bool} {off : Nat} {data : Bytes} {ep : Bool} {s t : State}
    (hr : portReq r = some (k, b)) (h : exec (.bar4Write r off data ep []) s = .next t) :
    t = bar4WriteOn k off data ep (leaveL1 k s) ∨ t.hbm = s.hbm := by
  rw [exec_bar4Write, bar4Ecc_nil] at h
  match hg : hostMem k b none s with
  | (.go, u) =>
    rw [bar4Write_go hr hg, hostMem_go hg] at h
    cases h
    exact .inl rfl
  | (.ur, u) | (.zero, u) =>
    simp only [bar4Write, hr, hg, Host.Outcome.next.injEq] at h
    rw [← h, ← hostMem_hbm k b none s, hg]
    exact .inr rfl

/-- The marks that a BAR4 write without EP leaves (R137, R461). -/
theorem bar4Stored_poison (k : PortId) (p : PartId) (x : Nat) (data : Bytes) (g : Nat) {u : State}
    (hp : tabWf false u.hbmPoison = true) (he : tabWf .none u.hbmErr = true) :
    tabGet false (bar4Stored k p x data false u).hbmPoison g =
      ((tabGet false u.hbmPoison g &&
        !(decide (hbmBase u p + x ≤ g * Config.granule ∧ (g + 1) * Config.granule ≤ hbmBase u p + x + data.length))) ||
       (tabGet .none (mergeErr (hbmBase u p + x) data.length u.hbmPoison u.hbmErr) g == .ueMet && granuleOwner u g == some p)) := by
  have hu := Reports.bar4Charged k p data.length false u
  have hw := spaceWrite_hbm p x data (charge p 3 data.length (if false then poisonedWrite k u else u))
  have hpoison := hw.hbmPoison
  have herr := hw.hbmErr
  have hcfg := hw.cfg
  simp only [hbmWrite, hu.hbmPoison, hu.hbmErr, hbmBase_congr hu.cfg] at hpoison herr
  rw [hbmWrite, hu.cfg] at hcfg
  change tabGet false (bar4Merged k p x data false u).hbmPoison g = _
  rw [bar4Merged, settleMerge_poison, hpoison, herr, granuleOwner_congr hcfg, tabGet_clearWhole _ _ _ hp]
  · rw [hpoison]
    exact tabWf_clearWhole _ _ _ hp
  · rw [herr]
    exact tabWf_mergeErr _ _ _ _ he

/-- Where no error stands in SRAM, a command that does not store leaves HBM alone: one arm for each of them, as in `exec`. -/
theorem exec_memo {s0 s : State} (hk : Memo s0 s) (c : Instr) (hm : mayStoreHbm c = false) : MemoO s0 (exec c s) := by
  cases c with
  | rcRegisterRead r a len => exact execRcRegisterRead_memo r a len s hk
  | lowHalfRead r off => exact execLowHalfRead_memo r off s hk
  | highHalfRead r off => exact execHighHalfRead_memo r off s hk
  | partitionResetComplete p => exact execPartitionResetComplete_memo p s hk
  | perstRelease k => exact execPerstRelease_memo k s hk
  | functionReady k => exact execFunctionReady_memo k s hk
  | romBankChoice => exact execRomBankChoice_memo s hk
  | selftestDone failed => exact execSelftestDone_memo failed s hk
  | portRetrainDone k gen width => exact execPortRetrainDone_memo k gen width s hk
  | hbmTrainDone ok => exact execHbmTrainDone_memo ok s hk
  | groupSyncLineHigh => exact execGroupSyncLineHigh_memo s hk
  | timeSyncAchieved => exact execTimeSyncAchieved_memo s hk
  | timeSyncTimeout => exact execTimeSyncTimeout_memo s hk
  | thermalTrip sensor value => exact execThermalTrip_memo sensor value s hk
  | fallbackAlertStep => exact execFallbackAlertStep_memo s hk
  | mgtWdtRefresh r v => exact execMgtWdtRefresh_memo r v s hk
  | timeMessageSend => exact execTimeMessageSend_memo s hk
  | timeMessageReceive l dt sysOffset epoch master fabricCount table ref =>
    exact execTimeMessageReceive_memo l dt sysOffset epoch master fabricCount table ref s hk
  | timeRefLock => exact execTimeRefLock_memo s hk
  | ppsInEdge => exact execPpsInEdge_memo s hk
  | ppsOutEdge => exact execPpsOutEdge_memo s hk
  | ptpEventMessage pl e => exact execPtpEventMessage_memo pl e s hk
  | sysSyncLoss => exact execSysSyncLoss_memo s hk
  | ptpPortMove => exact execPtpPortMove_memo s hk
  | cfgStageOpen r v => exact execCfgStageOpen_memo r v s hk
  | cfgStageSeal r v => exact execCfgStageSeal_memo r v s hk
  | checkerDone => exact execCheckerDone_memo s hk
  | cfgStageStart r v => exact execCfgStageStart_memo r v s hk
  | cfgStageAbort r v => exact execCfgStageAbort_memo r v s hk
  | voteRequestReceive src epoch head digest => exact execVoteRequestReceive_memo src epoch head digest s hk
  | voteReceive src epoch id yes reason => exact execVoteReceive_memo src epoch id yes reason s hk
  | voteDeadline => exact execVoteDeadline_memo s hk
  | announcementReceive src epoch head => exact execAnnouncementReceive_memo src epoch head s hk
  | fencedQuery => exact execFencedQuery_memo s hk
  | bar2Write r off data ep => exact execBar2Write_memo r off data ep s hk
  | bar4Read r off len ecc => exact execBar4Read_memo r off len ecc s hk
  | powerStateD3hot k => exact execPowerStateD3hot_memo k s hk
  | powerStateD0 k => exact execPowerStateD0_memo k s hk
  | pmPmeTransmit k => exact execPmPmeTransmit_memo k s hk
  | pmPmeRetransmit k => exact execPmPmeRetransmit_memo k s hk
  | aspmL1Entry k => exact execAspmL1Entry_memo k s hk
  | pmeTurnOff k => exact execPmeTurnOff_memo k s hk
  | busMasterEnableChange k on => exact execBusMasterEnableChange_memo k on s hk
  | msixUnmask k v => exact execMsixUnmask_memo k v s hk
  | ringTailWrite r st v => exact execRingTailWrite_memo r st v s hk
  | ringCtlWrite r st v => exact execRingCtlWrite_memo r st v s hk
  | ringFetchComplete p st => exact execRingFetchComplete_memo p st s hk
  | nop p st => exact execNop_memo p st s hk
  | jobBegin p st => exact execJobBegin_memo p st s hk
  | jobEnd p st => exact execJobEnd_memo p st s hk
  | ctSet p st => exact execCtSet_memo p st s hk
  | ctAdd p st => exact execCtAdd_memo p st s hk
  | cmpSkip p st => exact execCmpSkip_memo p st s hk
  | cmpBranch p st => exact execCmpBranch_memo p st s hk
  | sycWait p st => exact execSycWait_memo p st s hk
  | tdSet p st => exact execTdSet_memo p st s hk
  | prgRun p st => exact execPrgRun_memo p st s hk
  | prgEnd p st => exact execPrgEnd_memo p st s hk
  | seqLd p ecc => cases ecc with
    | nil => exact execSeqLd_memo p s hk
    | cons => cases hm
  | seqZero p => exact execSeqZero_memo p s hk
  | seqMma p ecc => cases ecc with
    | nil => exact execSeqMma_memo p s hk
    | cons => cases hm
  | seqAct p ecc => cases ecc with
    | nil => exact execSeqAct_memo p s hk
    | cons => cases hm
  | seqMul p ecc => cases ecc with
    | nil => exact execSeqMul_memo p s hk
    | cons => cases hm
  | seqScale p ecc => cases ecc with
    | nil => exact execSeqScale_memo p s hk
    | cons => cases hm
  | seqCvt p ecc => cases ecc with
    | nil => exact execSeqCvt_memo p s hk
    | cons => cases hm
  | cmbAccum p => exact execCmbAccum_memo p s hk
  | cmbFinal p => exact execCmbFinal_memo p s hk
  | colCommCreate p => exact execColCommCreate_memo p s hk
  | colCommDestroy p => exact execColCommDestroy_memo p s hk
  | xfrTokensIn p => exact execXfrTokensIn_memo p s hk
  | xfrTokensOut p => exact execXfrTokensOut_memo p s hk
  | xfrLoadModel p => exact execXfrLoadModel_memo p s hk
  | xfrUnloadModel p => exact execXfrUnloadModel_memo p s hk
  | sycWaitTimeout p st => exact execSycWaitTimeout_memo p st s hk
  | teardownComplete p => exact execTeardownComplete_memo p s hk
  | stepClosureProbe p => exact execStepClosureProbe_memo p s hk
  | requestAging p => exact execRequestAging_memo p s hk
  | brlSignalDetect l => exact execBrlSignalDetect_memo l s hk
  | brlEqualizeDone l => exact execBrlEqualizeDone_memo l s hk
  | brlTrainTimeout l => exact execBrlTrainTimeout_memo l s hk
  | brlDownRetry l => exact execBrlDownRetry_memo l s hk
  | nakRepeat l => exact execNakRepeat_memo l s hk
  | ackTimer l => exact execAckTimer_memo l s hk
  | timeFlitReceive l farDt farRx => exact execTimeFlitReceive_memo l farDt farRx s hk
  | brlIdleTimer l => exact execBrlIdleTimer_memo l s hk
  | sleepReqReceive l => exact execSleepReqReceive_memo l s hk
  | wakePattern l => exact execWakePattern_memo l s hk
  | brlDormant r l v => exact execBrlDormant_memo r l v s hk
  | brlWake r l v => exact execBrlWake_memo r l v s hk
  | tthAlignDone pl => exact execTthAlignDone_memo pl s hk
  | mkaSecured pl peerPriority xpn => exact execMkaSecured_memo pl peerPriority xpn s hk
  | tthDownRetry pl => exact execTthDownRetry_memo pl s hk
  | macsecRekey pl => exact execMacsecRekey_memo pl s hk
  | tthRetrain r pl v => exact execTthRetrain_memo r pl v s hk
  | tthWake r pl v => exact execTthWake_memo r pl v s hk
  | tthDataReceive pl fr dgram => exact execTthDataReceive_memo pl fr dgram s hk
  | tthAckReceive pl fr dgram => exact execTthAckReceive_memo pl fr dgram s hk
  | tthHelloReceive pl fr dgram => exact execTthHelloReceive_memo pl fr dgram s hk
  | tthHelloAckReceive pl fr dgram => exact execTthHelloAckReceive_memo pl fr dgram s hk
  | closeCtxReceive pl fr dgram => exact execCloseCtxReceive_memo pl fr dgram s hk
  | helloRetry ctx => exact execHelloRetry_memo ctx s hk
  | tthAckTimer ctx => exact execTthAckTimer_memo ctx s hk
  | rtoExpiry ctx => exact execRtoExpiry_memo ctx s hk
  | contextIdleClose ctx => exact execContextIdleClose_memo ctx s hk
  | failedPlaneProbe pl peer part => exact execFailedPlaneProbe_memo pl peer part s hk
  | arpNdRequest pl frame asker target => exact execArpNdRequest_memo pl frame asker target s hk
  | neighbourRefresh pl addr => exact execNeighbourRefresh_memo pl addr s hk
  | icmpEchoRequest pl frame asker ident => exact execIcmpEchoRequest_memo pl frame asker ident s hk
  | pauseFrameReceive pl => exact execPauseFrameReceive_memo pl s hk
  | commCreateTimeout p => exact execCommCreateTimeout_memo p s hk
  | colCommandTimeout p => exact execColCommandTimeout_memo p s hk
  | dlHelloReceive msg => exact execDlHelloReceive_memo msg s hk
  | dlCompareReceive msg => exact execDlCompareReceive_memo msg s hk
  | dlAbandonReceive msg => exact execDlAbandonReceive_memo msg s hk
  | dlCompareTimeout p => exact execDlCompareTimeout_memo p s hk
  | dlPairLinkDown => exact execDlPairLinkDown_memo s hk
  | patrolScrubRead gran result => exact execPatrolScrubRead_memo gran result s hk
  | errHeadWrite r v => exact execErrHeadWrite_memo r v s hk
  | pairHelloSend => exact execPairHelloSend_memo s hk
  | mirrorReceive msg => exact execMirrorReceive_memo msg s hk
  | snapReceive msg => exact execSnapReceive_memo msg s hk
  | heartbeatSnapshot p => exact execHeartbeatSnapshot_memo p s hk
  | pairAckReceive msg => exact execPairAckReceive_memo msg s hk
  | deposedReceive msg => exact execDeposedReceive_memo msg s hk
  | standbySilence => exact execStandbySilence_memo s hk
  | pairProbeReceive pl msg => exact execPairProbeReceive_memo pl msg s hk
  | pairProbeAckReceive pl msg => exact execPairProbeAckReceive_memo pl msg s hk
  | witnessQReceive pl src msg => exact execWitnessQReceive_memo pl src msg s hk
  | witnessAReceive pl msg => exact execWitnessAReceive_memo pl msg s hk
  | takeoverDecision => exact execTakeoverDecision_memo s hk
  | sbActivate r v => exact execSbActivate_memo r v s hk
  | sbRejoin r v => exact execSbRejoin_memo r v s hk
  | setPstate r v => exact execSetPstate_memo r v s hk
  | pstateRampDone => exact execPstateRampDone_memo s hk
  | railReadbackSample mv => exact execRailReadbackSample_memo mv s hk
  | sensorSample temps => exact execSensorSample_memo temps s hk
  | hbmTempReport stack temp => exact execHbmTempReport_memo stack temp s hk
  | powerEstimate watts => exact execPowerEstimate_memo watts s hk
  | pwrLimitWWrite r v => exact execPwrLimitWWrite_memo r v s hk
  | pwrCloseUsWrite r v => exact execPwrCloseUsWrite_memo r v s hk
  | gate r v => exact execGate_memo r v s hk
  | clusterNoticeTimer => exact execClusterNoticeTimer_memo s hk
  | clusterNoticeReceive notice => exact execClusterNoticeReceive_memo notice s hk
  | closeTimeElapsed c => exact execCloseTimeElapsed_memo c s hk
  | drainComplete c => exact execDrainComplete_memo c s hk
  | isolationTimer c => exact execIsolationTimer_memo c s hk
  | pwrWake r v => exact execPwrWake_memo r v s hk
  | clusterPowerUpDone c => exact execClusterPowerUpDone_memo c s hk
  | quietEnter r v => exact execQuietEnter_memo r v s hk
  | quietExit r v => exact execQuietExit_memo r v s hk
  | authLockoutEnd => exact execAuthLockoutEnd_memo s hk
  | spdmGetCertificate bd slot off len => exact execSpdmGetCertificate_memo bd slot off len s hk
  | spdmChallenge bd slot nonce => exact execSpdmChallenge_memo bd slot nonce s hk
  | spdmGetMeasurements bd op nonce => exact execSpdmGetMeasurements_memo bd op nonce s hk
  | spdmKeyExchange bd share => exact execSpdmKeyExchange_memo bd share s hk
  | spdmKeyUpdate bd session => exact execSpdmKeyUpdate_memo bd session s hk
  | spdmHeartbeat bd session => exact execSpdmHeartbeat_memo bd session s hk
  | ideKmQuery bd session port => exact execIdeKmQuery_memo bd session port s hk
  | ideKmKeyProg bd session port stream set key => exact execIdeKmKeyProg_memo bd session port stream set key s hk
  | ideKmKSetGo bd session port stream set => exact execIdeKmKSetGo_memo bd session port stream set s hk
  | ideKmKSetStop bd session port stream set => exact execIdeKmKSetStop_memo bd session port stream set s hk
  | brlRekey l => exact execBrlRekey_memo l s hk
  | jtagInstruction ir => exact execJtagInstruction_memo ir s hk
  | entropyTestFail test => exact execEntropyTestFail_memo test s hk
  | bistRun r v => exact execBistRun_memo r v s hk
  | mfgTestRun units => exact execMfgTestRun_memo units s hk
  | bistUnitDone unit result detail => exact execBistUnitDone_memo unit result detail s hk
  | bistWindowSample cause => exact execBistWindowSample_memo cause s hk
  | mgtEventHeadWrite r v => exact execMgtEventHeadWrite_memo r v s hk
  | mgtMsgCtlSend r v => exact execMgtMsgCtlSend_memo r v s hk
  | policyMessageTimeout => exact execPolicyMessageTimeout_memo s hk
  | read32 bd addr count => exact execRead32_memo bd addr count s hk
  | logRead bd sector off len => exact execLogRead_memo bd sector off len s hk
  | policyMessage bd cmd body => exact execPolicyMessage_memo bd cmd body s hk
  | setEndpointId bd op eid => exact execSetEndpointId_memo bd op eid s hk
  | smbusTimeout => exact execSmbusTimeout_memo s hk
  | tripLatchRead => exact execTripLatchRead_memo s hk
  | setEventReceiver bd enable => exact execSetEventReceiver_memo bd enable s hk
  | getSensorReading bd sensor => exact execGetSensorReading_memo bd sensor s hk
  | sensorEventTimer sensor => exact execSensorEventTimer_memo sensor s hk
  | requestUpdate bd maxSize count => exact execRequestUpdate_memo bd maxSize count s hk
  | passComponentTable bd cls ident stamp => exact execPassComponentTable_memo bd cls ident stamp s hk
  | updateComponent bd cls ident size => exact execUpdateComponent_memo bd cls ident size s hk
  | bankEraseDone => exact execBankEraseDone_memo s hk
  | firmwareDataReceive bd off data => exact execFirmwareDataReceive_memo bd off data s hk
  | transferComplete => exact execTransferComplete_memo s hk
  | verifyComplete => exact execVerifyComplete_memo s hk
  | applyComplete => exact execApplyComplete_memo s hk
  | cancelUpdate bd => exact execCancelUpdate_memo bd s hk
  | activateFirmware bd => exact execActivateFirmware_memo bd s hk
  | dbgTraceCtlWrite r v => exact execDbgTraceCtlWrite_memo r v s hk
  | dbgTraceRdWrite r v => exact execDbgTraceRdWrite_memo r v s hk
  | dbgMark r v => exact execDbgMark_memo r v s hk
  | cntSnapTake r v => exact execCntSnapTake_memo r v s hk
  | cntSnapRelease r v => exact execCntSnapRelease_memo r v s hk
  | mpHalt r v => exact execMpHalt_memo r v s hk
  | mpStep r v => exact execMpStep_memo r v s hk
  | timeRefLoss => exact execTimeRefLoss_memo s hk
  | hostLinkUp k gen width flit reversed => exact execHostLinkUp_memo k gen width flit reversed s hk
  | mgtWakeReqWrite r v => exact execMgtWakeReqWrite_memo r v s hk
  | arpNdReplyReceive pl frame addr mac => exact execArpNdReplyReceive_memo pl frame addr mac s hk
  | neighbourResolutionRetry pl addr => exact execNeighbourResolutionRetry_memo pl addr s hk
  | spdmEndSession bd session => exact execSpdmEndSession_memo bd session s hk
  | firmwareDataRetry => exact execFirmwareDataRetry_memo s hk
  | smbusArbitrationRetry => exact execSmbusArbitrationRetry_memo s hk
  | _ => cases hm

end Sys2Proof.Laws

namespace Sys2Proof.Proofs
open Sys2Proof Sys2Proof.Machine Sys2Proof.Laws

/-- Settles O58: what stores nothing is the law of each command; a BAR4 write stores where `bar4Addr` puts it. -/
theorem hbmFrame : Obligations.HbmFrame := by
  refine ⟨fun c s t hs hm h => ?frame, fun r off data ep s t k b p hr hp h x hx a ha => ?range,
    fun r off data ep s t k b hr hp h => ?noPart, fun s x d a ha => memRead_memWriteN_outside d s.hbm x a ha, fun s x d hm i hi => memRead_memWriteN_inside d s.hbm x i hi hm⟩
  case frame =>
    have hk := exec_memo (.refl s) c hm
    rw [h] at hk
    intro a
    rw [hk.hbm hs]
  case range =>
    rcases exec_bar4Write_gate hr h with rfl | hh
    · exact bar4WriteOn_hbm_outside (u := leaveL1 k s) hp (by rw [leaveL1_bar4BaseGib]; exact hx) ha ep
    · rw [hh]
  case noPart =>
    rcases exec_bar4Write_gate hr h with rfl | hh
    · rw [bar4WriteOn_noPart (u := leaveL1 k s) hp]
      rfl
    · exact hh

/-- Settles O10, clause by clause: the gate lets the access through, and region and credit decide how it goes. -/
theorem hostBarAccesses : Obligations.HostBarAccesses := by
  intro s
  refine ⟨fun r b k p off data ep u hr hgo hp hlen => ?bar2, fun r b k p off len x ecc u hr hgo hp hf ha hc => ?read,
    fun r b k p off len x ecc u hr hgo hp hf ha hc => ?readWaits, fun r b k p off len ecc u hr hgo hp hf ha => ?readOutside,
    fun r b k p off x data ep ecc u hr hgo hp hf ha hc => ?write, fun r b k p off x data ep ecc u hr hgo hp hf ha hc => ?writeWaits,
    fun r b k p off data ep ecc u hr hgo hp hf ha => ?writeOutside⟩
  case bar2 => rw [exec_bar2Write, bar2Write_go hr hgo hp hlen]
  case read => rw [exec_bar4Read, bar4Read_go hr hgo, bar4ReadOn_credit hp hf ha hc]
  case readWaits => rw [exec_bar4Read, bar4Read_go hr hgo, bar4ReadOn_hold hp hf ha hc]
  case readOutside => rw [exec_bar4Read, bar4Read_go hr hgo, bar4ReadOn_outside hp hf ha]
  case write => rw [exec_bar4Write, bar4Write_go hr hgo, bar4WriteOn_credit hp hf ep ha hc]; rfl
  case writeWaits => rw [exec_bar4Write, bar4Write_go hr hgo, bar4WriteOn_hold hp hf ep ha hc]
  case writeOutside => rw [exec_bar4Write, bar4Write_go hr hgo, bar4WriteOn_outside hp hf ep ha]

/-- Settles O11: with no ECC event, the completions are those of the granules' marks, and the marks after a write those of the write. -/
theorem poisonMarksOfBar4Granules : Obligations.PoisonMarksOfBar4Granules := by
  intro s
  refine ⟨fun r b k p off len x u hr hgo hp hf ha hc hn => ?read, fun r b k p off x data u hr hgo hp hf ha hc hpw hew => ?write⟩
  case read =>
    have hch : Reports u (charge p 3 len (charge p 0 len u)) := ((Reports.refl u).charge ..).charge ..
    have hrec := Reports.eachOf (fun g v hv => hv.record p (ueRec v p 0 g)) (badGranules u p x len) hch
    refine ⟨_, by rw [exec_bar4Read, bar4Ecc_nil, bar4Read_go hr hgo, bar4ReadOn_credit hp hf ha hc], ?_,
      fun e he => blockPieces_granule he⟩
    rw [meetHbm_of_noErr (hch.hbmErr ▸ hn), bar4Completions_out hn k p _ hrec]
  case write =>
    refine ⟨_, by rw [exec_bar4Write, bar4Ecc_nil, bar4Write_go hr hgo, bar4WriteOn_credit hp hf false ha hc], fun g => ?_⟩
    exact bar4Stored_poison k p x data g hpw hew

end Sys2Proof.Proofs
end

section
/-!
SUPPORT. The resets and the link of a host port, its power management, its DMA reads and its IDE streams, one lemma for each way a
command goes: the statements PortResetsAndLink and PortPowerManagementAndDma.
-/
namespace Sys2Proof.Laws
open Sys2Proof Sys2Proof.Machine

-- Configuration writes (R139, R155)

theorem cfgWrite_open {k : PortId} {s : State} (h : cfgOpen s k = true) (f : State → State) :
    cfgWrite k f s = emit (.completion k 0 []) (f (leaveL1 k s)) := if_pos h

-- PERST_n, FLR and DL_Down (R130, R154 to R158)

/-- PERST_n of a port at a level. -/
def setPerst (k : PortId) (low : Bool) (s : State) : State := { s with pins := { s.pins with perstLow := s.pins.perstLow.set k low } }

section
variable {k : PortId} {s : State}

theorem exec_perstAssert_reset (hp : s.pins.perstLow[k] = false) (hw : (getPort s k).downWait = false) :
    exec (.perstAssert k) s = .next (driveWake k (portEvent k (resetMapped k .perst
      (updPort (resetFunction .perst k (setPerst k true s)) k (fun q => { q with rrs := true, reads := [] }))))) := by
  change execPerstAssert k s = _
  rw [execPerstAssert, hp]
  exact if_neg (Bool.eq_false_iff.mp hw)

/-- While the sequence of R157 runs, PERST_n is absorbed into it (R158). -/
theorem exec_perstAssert_absorbed (hp : s.pins.perstLow[k] = false) (hw : (getPort s k).downWait = true) :
    exec (.perstAssert k) s = .next (driveWake k (portEvent k (updPort (setPerst k true s) k
      (fun q => { q with resetting := .perst, rrs := true })))) := by
  change execPerstAssert k s = _
  rw [execPerstAssert, hp]
  exact if_pos hw

theorem exec_perstRelease_low (hp : s.pins.perstLow[k] = true) :
    exec (.perstRelease k) s = .next (quietExit 2 (portEvent k (driveWake k (setPerst k false s)))) :=
  if_neg (by simp [hp])

theorem exec_flr_open (h : cfgOpen s k = true) :
    exec (.flr k) s = .next (emit (.completion k 0 []) (startFlr k (leaveL1 k s))) :=
  congrArg Host.Outcome.next (cfgWrite_open h (startFlr k))

theorem exec_functionReady_mapped {p : PartId} (hr : (getPort s k).resetting ≠ .none) (hp : s.pins.perstLow[k] = false)
    (hm : partOf s k = some p) :
    exec (.functionReady k) s = .next (partitionReady p
      (updPort s k (fun q => { q with resetting := .none, rrs := beforeMap s || q.retrain }))) := by
  change execFunctionReady k s = _
  rw [execFunctionReady, if_neg (by simp [hr, hp])]
  simp only [partOf, portCfg, updPort_cfg] at hm ⊢
  rw [hm]

theorem exec_dlDown_idle (hp : s.pins.perstLow[k] = false) (hw : (getPort s k).downWait = false)
    (hno : ∀ p, partOf s k = some p → workOutstanding s k p = false) :
    exec (.dlDown k) s = .next (portEvent k (updPort (resetFunction .linkDown k s) k
      (fun q => { q with dmaQ := q.dmaQ.filter (fun r => !isMsixReq r) }))) := by
  change execDlDown k s = _
  rw [execDlDown, if_neg (by simp [hp, hw])]
  cases hm : partOf s k with
  | none => rfl
  | some p => simp [hno p hm]

theorem exec_dlDown_work {p : PartId} (hp : s.pins.perstLow[k] = false) (hw : (getPort s k).downWait = false)
    (hm : partOf s k = some p) (hwork : workOutstanding s k p = true) :
    exec (.dlDown k) s = .next
      (let u := resetFunction .linkDown k s
       let n := ((getPort u k).dmaQ.filter isWrite).length
       portEvent k (downReady k (cntPort 0x0002802C n k
         (updPort u k (fun q => { q with dmaQ := q.dmaQ.filter (tornRequest q), downWait := true }))))) := by
  change execDlDown k s = _
  rw [execDlDown, if_neg (by simp [hp, hw]), hm]
  simp only [hwork, if_true]

-- The link (R127, R130, R131)

theorem exec_hostLinkUp_up (hp : s.pins.perstLow[k] = false) (hq : (getPort s k).quiet = false) (gen width : Nat) (flit rev : Bool) :
    exec (.hostLinkUp k gen width flit rev) s = .next (portEvent k (updPort s k (fun q => { q with
      gen := min gen (portCap s k).1, width := min width (portCap s k).2, flit := flit
      reversed := rev || (q.mapped && (portCfg s k).laneReverse) }))) :=
  if_neg (by simp [hp, hq])

theorem exec_portRetrainDone_due (hr : (getPort s k).retrain = true) (gen width : Nat) :
    exec (.portRetrainDone k gen width) s = .next (portEvent k (updPort s k (fun q => { q with
      gen := min gen (portCap s k).1, width := min width (portCap s k).2
      reversed := q.reversed || (portCfg s k).laneReverse, retrain := false, rrs := q.resetting != .none }))) :=
  if_neg (by simp [hr])

end

-- Power management (R134, R149 to R154)

section
variable {k : PortId} {s : State}

/-- The function in D3hot: the blocks under assembly are discarded, and what is held raises its wake events (R134, R149, R151). -/
def intoD3hot (k : PortId) (s : State) : State :=
  portEvent k (heldWakes k (discardBlock ((getPort s k).asm.toList.filter (fun a => a.block.isSome)).length k
    (updPort s k (fun q => { q with d3hot := true, inL1 := true, asm := .replicate 7 {} }))))

@[simp] theorem leaveL1_d3hot (k : PortId) (s : State) : (getPort (leaveL1 k s) k).d3hot = (getPort s k).d3hot := by
  simp [leaveL1]

@[simp] theorem leaveL1_asm (k : PortId) (s : State) : (getPort (leaveL1 k s) k).asm = (getPort s k).asm := by
  simp [leaveL1]

theorem exec_powerStateD3hot_enter {p : PartId} (h : cfgOpen s k = true) (hd : (getPort s k).d3hot = false)
    (hm : partOf (intoD3hot k (leaveL1 k s)) k = some p) :
    exec (.powerStateD3hot k) s = .next (emit (.completion k 0 []) (xfrAdvance p (intoD3hot k (leaveL1 k s)))) := by
  change Host.Outcome.next (cfgWrite k (enterD3hot k) s) = _
  rw [cfgWrite_open h, enterD3hot, if_neg (by simp [hd])]
  simp only [intoD3hot] at hm ⊢
  rw [hm]

/-- The function back in D0: a PM_PME not yet transmitted is withdrawn (R149, R152). -/
def intoD0 (k : PortId) (s : State) : State :=
  updPort s k (fun q => { q with
    d3hot := false
    inL1 := false
    pmePending := false
    wakeCause := if q.pmePending then maskSet q.wakeCause 8 else q.wakeCause })

theorem exec_powerStateD0_enter {p : PartId} (h : cfgOpen s k = true) (hd : (getPort s k).d3hot = true) (hm : partOf s k = some p) :
    exec (.powerStateD0 k) s = .next (emit (.completion k 0 []) (release k (quietExit 1 (portEvent k
      (updExec p 6 (fun e => { e with noted := e.noted.filter (· ≠ 0) }) (intoD0 k (leaveL1 k s))))))) := by
  change Host.Outcome.next (cfgWrite k (enterD0 k) s) = _
  have hm' : partOf (intoD0 k (leaveL1 k s)) k = some p := hm
  rw [cfgWrite_open h, enterD0, if_neg (by simp [hd])]
  simp only [intoD0] at hm' ⊢
  rw [hm']

theorem exec_pmPmeTransmit_pending (hp : (getPort s k).pmePending = true) (hd : (getPort s k).d3hot = true) :
    exec (.pmPmeTransmit k) s = .next (emit (.pmPme k) (updPort s k (fun q => { q with
      pmePending := false, inL1 := false, wakeCause := maskSet q.wakeCause 9 }))) :=
  if_neg (by simp [hp, hd])

theorem exec_pmPmeRetransmit_due (hs : (getPort s k).pmeStatus = true) (hd : (getPort s k).d3hot = true)
    (he : (getPort s k).pmeEn = true) (hp : (getPort s k).pmePending = false) :
    exec (.pmPmeRetransmit k) s = .next (emit (.pmPme k) (updPort s k (fun q => { q with
      inL1 := false, wakeCause := maskSet q.wakeCause 9 }))) :=
  if_neg (by simp [hs, hd, he, hp])

theorem exec_aspmL1Entry_idle (ha : (getPort s k).aspmL1 = true) (hd : (getPort s k).d3hot = false) (hl : (getPort s k).inL1 = false)
    (hc : cfgOpen s k = true) (hr : (getPort s k).reads = []) (hq : (getPort s k).dmaQ = [] ∨ canIssue s k = false) :
    exec (.aspmL1Entry k) s = .next (emit (.l1Request k) (updPort s k (fun q => { q with inL1 := true }))) :=
  if_neg (by rcases hq with hq | hq <;> simp [ha, hd, hl, hc, hr, hq])

theorem exec_pmeTurnOff_first (hp : s.pins.perstLow[k] = false) (ht : (getPort s k).turnOff = false) :
    exec (.pmeTurnOff k) s = .next (turnOffReady k (updPort s k (fun q => { q with turnOff := true }))) :=
  if_neg (by simp [hp, ht])

theorem exec_busMasterEnableChange_open (h : cfgOpen s k = true) (on : Bool) :
    exec (.busMasterEnableChange k on) s =
      .next (emit (.completion k 0 []) (release k (updPort (leaveL1 k s) k (fun q => { q with bme := on })))) :=
  congrArg Host.Outcome.next (cfgWrite_open h _)

theorem exec_mgtWakeReqWrite_open {r : Requester} (h : mgtOpen r s = true) (v : Nat) :
    exec (.mgtWakeReqWrite r v) s = .next (eachOf allPorts (fun k s =>
      driveWake k (if bitOf v k.val && (partOf s k).isSome then wakeEvent k 3 s else s))
      { s with mgt := { s.mgt with wakeReq := v % 16 } }) :=
  if_neg (by simp [h])

-- MSI-X (R147)

theorem exec_msixUnmask_go {u : State} (h : hostMem k false (some 0xFE0000) s = (.go, u)) (v : Fin 16) :
    exec (.msixUnmask k v) s = .next (msixFlush k (updPort u k
      (fun q => { q with vecs := q.vecs.set v { q.vecs[v] with mask := false } }))) := by
  change execMsixUnmask k v s = _
  rw [execMsixUnmask, h]

-- DMA reads (R109, R144, R145)

/-- A read of the port ends: its tag is free again. -/
def endRead (k : PortId) (tag : Nat) (s : State) : State :=
  updPort s k (fun q => { q with reads := q.reads.filter (fun x => x.tag != tag) })

section
variable {p : PartId} {tag : Nat} {r : DmaRead} (hr : (getPort s k).reads.find? (fun r => r.tag == tag) = some r)
include hr

theorem exec_dmaReadCompletion_last (hm : partOf s k = some p) {data : Bytes}
    (hlen : r.len ≤ r.got + (data.take (r.len - r.got)).length) :
    exec (.dmaReadCompletion k tag .ok data) s =
      .next (afterRead k (deliver p r.tgt r.got (data.take (r.len - r.got)) false (endRead k tag s))) := by
  change execDmaReadCompletion k tag .ok data s = _
  simp only [execDmaReadCompletion, hr, hm, if_pos hlen, endRead, ge_iff_le]

theorem exec_dmaReadCompletion_ur (hm : partOf s k = some p) (data : Bytes) :
    exec (.dmaReadCompletion k tag .ur data) s = .next (afterRead k (readFailed p r 0x0702 1 r.got (r.len - r.got) none
      (cntPort 0x0002800C 1 k (endRead k tag s)))) := by
  change execDmaReadCompletion k tag .ur data s = _
  simp only [execDmaReadCompletion, hr, hm, endRead]

theorem exec_dmaCompletionTimeout_early (ht : s.boot.sinceNs < r.issued + r.timeout) :
    exec (.dmaCompletionTimeout k tag) s = .next s := by
  change execDmaCompletionTimeout k tag s = _
  cases hm : partOf s k with
  | none => simp only [execDmaCompletionTimeout, hr, hm]
  | some p => simp only [execDmaCompletionTimeout, hr, hm, if_pos ht]

theorem exec_dmaCompletionTimeout_due (hm : partOf s k = some p) (ht : r.issued + r.timeout ≤ s.boot.sinceNs) :
    exec (.dmaCompletionTimeout k tag) s = .next (afterRead k (readFailed p r 0x0701 0 r.got (r.len - r.got) none
      (cntPort 0x00028008 1 k (endRead k tag s)))) := by
  change execDmaCompletionTimeout k tag s = _
  simp only [execDmaCompletionTimeout, hr, hm, if_neg (Nat.not_lt.mpr ht), endRead]

end

/-- A completion without a request is counted and logged (R145). -/
theorem exec_dmaReadCompletion_unexpected {tag : Nat} (hr : (getPort s k).reads.find? (fun r => r.tag == tag) = none) (st : CplStatus)
    (data : Bytes) : exec (.dmaReadCompletion k tag st data) s = .next (aerUnexpected k (cntPort 0x00028010 1 k s)) := by
  change execDmaReadCompletion k tag st data s = _
  simp only [execDmaReadCompletion, hr]

-- IDE (R148)

/-- A stream of the port is Insecure, its failure logged, and the DMA of the port stopped (R148). -/
def ideFailed (k : PortId) (i : Fin 5) (s : State) : State :=
  updPort (secLogMerged 0x0051 (16 + k.val) [BitVec.ofNat 8 (16 + k.val)] (ideInsecure k i s)) k (fun q => { q with dmaStopped := true })

theorem exec_ideIntegrityFail_secure {i : Fin 5} {p : PartId} (hi : (getPort s k).ide[i].secure = true)
    (hm : partOf (ideFailed k i s) k = some p) (hd : (partCfg (ideFailed k i s) p).defined = true) :
    exec (.ideIntegrityFail k i) s = .next (partFault p { code := 0x0A01, source := 7 } (ideFailed k i s)) := by
  change execIdeIntegrityFail k i s = _
  rw [execIdeIntegrityFail, hi]
  simp only [ideFailed] at hm hd ⊢
  simp only [hm, hd]
  rfl

end

end Sys2Proof.Laws

namespace Sys2Proof.Proofs
open Sys2Proof Sys2Proof.Machine Sys2Proof.Laws

/-- Settles O12, clause by clause: each command in the state of the port that it applies in. -/
theorem portResetsAndLink : Obligations.PortResetsAndLink := fun _ =>
  ⟨fun _ hp hw => exec_perstAssert_reset hp hw, fun _ hp hw => exec_perstAssert_absorbed hp hw, fun _ hp => exec_perstRelease_low hp,
    fun _ h => exec_flr_open h, fun _ _ hr hp hm => exec_functionReady_mapped hr hp hm,
    fun _ hp hw hno => exec_dlDown_idle hp hw hno, fun _ _ hp hw hm hwork => exec_dlDown_work hp hw hm hwork,
    fun _ gen width flit rev hp hq => exec_hostLinkUp_up hp hq gen width flit rev,
    fun _ gen width hr => exec_portRetrainDone_due hr gen width⟩

/-- Settles O13, clause by clause: each command in the state of the port that it applies in. -/
theorem portPowerManagementAndDma : Obligations.PortPowerManagementAndDma := by
  intro s
  refine ⟨fun k p u h hd hu hm => ?d3hot, fun k p h hd hm => exec_powerStateD0_enter h hd hm,
    fun k hp hd => exec_pmPmeTransmit_pending hp hd, fun k hs hd he hp => exec_pmPmeRetransmit_due hs hd he hp,
    fun k ha hd hl hc hr hq => exec_aspmL1Entry_idle ha hd hl hc hr hq, fun k hp ht => exec_pmeTurnOff_first hp ht,
    fun k on h => exec_busMasterEnableChange_open h on, fun k v u h => exec_msixUnmask_go h v,
    fun k p tag data r hr hm hlen => exec_dmaReadCompletion_last hr hm hlen,
    fun k p tag data r hr hm => exec_dmaReadCompletion_ur hr hm data,
    fun k tag st data hr => exec_dmaReadCompletion_unexpected hr st data, fun k tag r hr ht => exec_dmaCompletionTimeout_early hr ht,
    fun k p tag r hr hm ht => exec_dmaCompletionTimeout_due hr hm ht, fun k i p u hi hu hm hd => ?ide,
    fun r v h => exec_mgtWakeReqWrite_open h v⟩
  case d3hot =>
    have hd3 : u = intoD3hot k (leaveL1 k s) := by rw [hu, intoD3hot, leaveL1_asm]
    subst hd3
    exact exec_powerStateD3hot_enter h hd hm
  case ide =>
    subst hu
    exact exec_ideIntegrityFail_secure hi hm hd

end Sys2Proof.Proofs
end

section
/-!
SUPPORT. Wait words, the start of a stream's command, the control commands and their completion, and the host's writes of rings and
sync counters, one lemma for each way an operation goes: the statements WaitSpecificationLayout, CommandsAreTakenInOrder,
StreamControlCommands and RingAndHostAdds.
-/
namespace Sys2Proof.Laws
open Sys2Proof Sys2Proof.Machine

-- Wait words (R172)

section
variable {i c v : Nat} (hi : i < 2 ^ 14) (hc : c < 4) (hv : v < 2 ^ 16)
include hi hc hv

theorem bitsOf_waitWord :
    bitsOf (i + 2 ^ 14 * c + 2 ^ 16 * v) 13 0 = i ∧ bitsOf (i + 2 ^ 14 * c + 2 ^ 16 * v) 15 14 = c ∧
      bitsOf (i + 2 ^ 14 * c + 2 ^ 16 * v) 31 16 = v := by
  unfold bitsOf
  omega

theorem waitHolds_waitWord (s : State) (p : PartId) :
    waitHolds s p (i + 2 ^ 14 * c + 2 ^ 16 * v) = cmpHolds c (sycGet s p i) v := by
  obtain ⟨hindex, hcmp, hvalue⟩ := bitsOf_waitWord hi hc hv
  rw [waitHolds, hindex, hcmp, hvalue]

end

-- The start of a command (R160, R165, R169, R173, R417)

/-- The fetch of a resident program's descriptor is charged to HBM (R415). -/
def fetchHead (p : PartId) (st : StreamId) (s : State) : State :=
  if (getStream s p st).resident != 0 then charge p 0 64 s else s

/-- A head that does not start waits, since a time. -/
def waitHead (p : PartId) (st : StreamId) (d : Bytes) (since : Nat) (s : State) : State :=
  updStream s p st (fun x => { x with exec := some { desc := d, phase := .waiting since } })

/-- A head that starts: it executes from now, is traced, and meets the errors of the words it reads. -/
def startHead (p : PartId) (st : StreamId) (d : Bytes) (s : State) : State :=
  startMeets p st (dTag d) (traceCmd p st d .start (leAt d 8 8)
    (updStream (hbmGo p st.val s) p st (fun x => { x with exec := some { desc := d, phase := .running, start := dtNow s } })))

/-- A head that passed its checks starts where its waits, the job and the HBM credit let it. -/
def beginHead (p : PartId) (st : StreamId) (d : Bytes) (since : Nat) (s : State) : Option Bytes × State :=
  if waitsHold s p d && jobReady s p st d then
    if hbmWaits s p d then (none, hbmHold p st.val (waitHead p st d since s))
    else ((getStream (startHead p st d s) p st).exec.map (·.desc), startHead p st d s)
  else (none, waitHead p st d since s)

@[simp] theorem dtNow_charge (p : PartId) (i : Fin 4) (n : Nat) (s : State) : dtNow (charge p i n s) = dtNow s := by
  unfold charge; split <;> rfl

@[simp] theorem dtNow_fetchHead (p : PartId) (st : StreamId) (s : State) : dtNow (fetchHead p st s) = dtNow s := by
  unfold fetchHead; split <;> simp

section
variable {p : PartId} {st : StreamId} {d : Bytes} {s : State}

theorem beginHead_starts (hw : waitsHold s p d = true) (hj : jobReady s p st d = true) (hc : hbmWaits s p d = false) (since : Nat) :
    beginHead p st d since s = ((getStream (startHead p st d s) p st).exec.map (·.desc), startHead p st d s) := by
  simp [beginHead, hw, hj, hc]

theorem beginHead_waits (hw : (waitsHold s p d && jobReady s p st d) = false) (since : Nat) :
    beginHead p st d since s = (none, waitHead p st d since s) := by
  simp [beginHead, hw]

theorem beginHead_noCredit (hw : waitsHold s p d = true) (hj : jobReady s p st d = true) (hc : hbmWaits s p d = true) (since : Nat) :
    beginHead p st d since s = (none, hbmHold p st.val (waitHead p st d since s)) := by
  simp [beginHead, hw, hj, hc]

theorem takeCmd_closed (ha : acceptsDesc s p = false) (op : Nat) : takeCmd p st op s = (none, s) := by
  simp [takeCmd, ha]

section
variable (ha : acceptsDesc s p = true) (hx : (getStream s p st).exec = none)
include ha hx

theorem takeCmd_noFetchCredit (hr : (getStream s p st).resident ≠ 0) (hc : hasCredit s p 0 = false) (op : Nat) :
    takeCmd p st op s = (none, hbmHold p st.val s) := by
  simp [takeCmd, ha, hx, hr, hc]

variable (hd : headDesc s p st = some (.ok d)) (hc : (getStream s p st).resident = 0 ∨ hasCredit s p 0 = true)
include hd hc

theorem takeCmd_decodeFault {e : CmdErr} (hf : decodeFault s p st d = some e) (op : Nat) :
    takeCmd p st op s = (none, cmdFail p st d e (fetchHead p st s)) := by
  rcases hc with hc | hc <;> simp [takeCmd, fetchHead, ha, hx, hd, hc, hf]

variable (hf : decodeFault s p st d = none)
include hf

theorem takeCmd_outsideJob (hj : (getStream s p st).inJob = false) (ho : dOp d ≠ 0x9001) (op : Nat) :
    takeCmd p st op s = (none, cmdFail p st d (badOperand 0) (fetchHead p st s)) := by
  rcases hc with hc | hc <;> simp [takeCmd, fetchHead, ha, hx, hd, hc, hf, hj, ho]

theorem takeCmd_checked (hj : (getStream s p st).inJob = true ∨ dOp d = 0x9001) :
    takeCmd p st (dOp d) s = beginHead p st d (dtNow (fetchHead p st s)) (fetchHead p st s) := by
  have hin : (!(getStream s p st).inJob && dOp d != 0x9001) = false := by rcases hj with hj | hj <;> simp [hj]
  rw [dtNow_fetchHead]
  rcases hc with hc | hc <;>
    simp [takeCmd, beginHead, startHead, waitHead, fetchHead, ha, hx, hd, hc, hf, hin]

end

/-- A command that reads no word in which an error stands starts without one (R463). -/
theorem startMeets_of_noErr (h : ∀ e ∈ s.sramErr, e.1 = p → readsWord st e.2 = false) (tag : Nat) : startMeets p st tag s = s := by
  have hhit : ∀ e ∈ s.sramErr, (e.1 == p && readsWord st e.2) = false := by
    intro e he
    by_cases hp : e.1 = p
    · simp [h e he hp]
    · simp [hp]
  have hnone : s.sramErr.filter (fun e => e.1 == p && readsWord st e.2) = [] := by simpa using hhit
  have hall : s.sramErr.filter (fun e => !(e.1 == p && readsWord st e.2)) = s.sramErr :=
    List.filter_eq_self.mpr (fun e he => by rw [hhit e he]; rfl)
  simp only [startMeets, hnone, hall, List.foldl_nil]

end

-- The control commands (R178 to R181, R185, R199, R202)

section
variable {p : PartId} {st : StreamId} {op : Nat} {d : Bytes} {s u : State}

theorem runCmd_taken (h : takeCmd p st op s = (some d, u)) (body : Bytes → State → State) :
    runCmd p st op body s = .next (body d u) := by
  rw [runCmd, h]

theorem exec_jobBegin_enters (h : takeCmd p st 0x9001 s = (some d, u)) (hst : st ≠ 6) (hid : d16 d 24 = (getPart u p).job.id) :
    exec (.jobBegin p st) s = .next (cmdDone p st u) := by
  change execJobBegin p st s = _
  simp [execJobBegin, runCmd_taken h, hst, hid]

theorem exec_jobBegin_opens (h : takeCmd p 6 0x9001 s = (some d, u)) (hf : beginFault u p d = none) :
    exec (.jobBegin p 6) s = .next (cmdDone p 6 u) := by
  change execJobBegin p 6 s = _
  simp [execJobBegin, runCmd_taken h, hf]

theorem exec_tdSet_valid (h : takeCmd p st 0x9040 s = (some d, u))
    (hm : (getPart u p).models.any (fun m => m.tds.any (fun e => e.1 == d16 d 24)) = false) (hv : tdValid (bytesAt d 32 32) = true)
    (hx : tdExtent (bytesAt d 32 32) ≤ spaceSize u p (tdSpace (bytesAt d 32 32))) :
    exec (.tdSet p st) s = .next (cmdDone p st (tdPut p (d16 d 24) (bytesAt d 32 32) u)) := by
  change execTdSet p st s = _
  simp only [execTdSet, runCmd_taken h, hm, hv, if_neg (Nat.not_lt.mpr hx)]
  rfl

end

theorem ctVal_lt (x : Stream) {i : Nat} (hi : i < 8) : ctVal x i = x.ct[i].toNat := by
  simp [ctVal, hi]

theorem ctVal_ctSet_same (x : Stream) {i : Nat} (hi : i < 8) (v : Nat) : ctVal (ctSet x i v) i = v % 2 ^ 32 := by
  simp [ctVal_lt _ hi, ctSet]

theorem ctVal_ctSet_ne (x : Stream) {i j : Nat} (hj : j < 8) (hne : j ≠ i) (v : Nat) : ctVal (ctSet x i v) j = ctVal x j := by
  simp [ctVal_lt _ hj, ctSet, hne]

-- COMMAND_COMPLETE (R160, R165, R175, R417, R449)

section
variable {p : PartId} {st : StreamId} {e : Exec} {s : State} (he : (getStream s p st).exec = some e)
include he

theorem complete_mirrorOwed (ho : mirrorOwed s p (fun b => leAt b 4 4 == dTag e.desc) = true) : complete p st s = s := by
  simp [complete, he, ho]

section
variable (hd : e.phase = .done) (ho : mirrorOwed s p (fun b => leAt b 4 4 == dTag e.desc) = false)
include hd ho

theorem complete_unpaid (hm : movesHbm s p e.desc = true) (hp : hbmPaid s p = false) : complete p st s = hbmHold p st.val s := by
  simp [complete, he, hd, ho, hm, hp]

theorem complete_done (hop : dOp e.desc ≠ 0x9051) (hp : movesHbm s p e.desc = false ∨ hbmPaid s p = true) :
    complete p st s = fetchNow p st (conjAdvance p (goOn p st e (signOff p st e
      (endEffect p st e (settleMerge p st (dTag e.desc) (hbmGo p st.val s)))))) := by
  have hgo : (movesHbm s p e.desc && !hbmPaid s p) = false := by rcases hp with hp | hp <;> simp [hp]
  simp [complete, he, hd, ho, hgo, hop]

end

-- SYC_WAIT_TIMEOUT (R174)

theorem exec_sycWaitTimeout_waiting {t0 : Nat} (hw : e.phase = .waiting t0) (ht : waitedOut s t0 = true)
    (hno : (waitsHold s p e.desc && jobReady s p st e.desc) = false) :
    exec (.sycWaitTimeout p st) s =
      .next (cmdFail p st e.desc { code := 0x0108, detail := (unmetWait s p e.desc).getD 0 } s) := by
  change execSycWaitTimeout p st s = _
  simp [execSycWaitTimeout, waitTimeout, he, hw, ht, hno]

end

-- TEARDOWN_COMPLETE (R187, R449)

/-- What every operation of a sequence keeps, the sequence keeps. -/
theorem eachOf_keeps_field {α β : Type} (g : State → β) {f : α → State → State} (hf : ∀ x s, g (f x s) = g s) (l : List α) (s : State) :
    g (eachOf l f s) = g s := by
  induction l generalizing s with
  | nil => rfl
  | cons x l ih => exact (ih (f x s)).trans (hf x s)

/-- Clearing cores changes clusters alone. -/
theorem clearCores_keeps_field {β : Type} (g : State → β) (hg : ∀ s c f, g (updCluster s c f) = g s) (m : Nat) (s : State) :
    g (clearCores m s) = g s :=
  eachOf_keeps_field g (fun c s => hg s c _) _ s

@[simp] theorem getPart_clearCores (m : Nat) (s : State) (p : PartId) : getPart (clearCores m s) p = getPart s p :=
  clearCores_keeps_field (getPart · p) (fun _ _ _ => rfl) m s
@[simp] theorem clearCores_hbm (m : Nat) (s : State) : (clearCores m s).hbm = s.hbm :=
  clearCores_keeps_field State.hbm updCluster_hbm m s
@[simp] theorem clearCores_cfg (m : Nat) (s : State) : (clearCores m s).cfg = s.cfg :=
  clearCores_keeps_field State.cfg updCluster_cfg m s
@[simp] theorem clearCores_out (m : Nat) (s : State) : (clearCores m s).out = s.out :=
  clearCores_keeps_field State.out updCluster_out m s

section
variable {p : PartId} {s : State}

theorem exec_teardownComplete_running (h : (getPart s p).halted = false) : exec (.teardownComplete p) s = .next s :=
  if_pos (by simp [h])

theorem exec_teardownComplete_mirrorOwed (h : mirrorOwed s p (fun b => leAt b 2 1 % 16 == classCode .job) = true) :
    exec (.teardownComplete p) s = .next s :=
  if_pos (by simp [h])

section
variable (hh : (getPart s p).halted = true) (ho : mirrorOwed s p (fun b => leAt b 2 1 % 16 == classCode .job) = false)
include hh ho

/-- After the fault of an XFR JOB_BEGIN nothing is left to tear down (R201). -/
theorem exec_teardownComplete_untorn (ht : (getPart s p).torn = false) :
    exec (.teardownComplete p) s = .next (updPart s p (fun q => { q with halted := false })) := by
  change execTeardownComplete p s = _
  simp [execTeardownComplete, hh, ho, ht]

/-- After a job's teardown the partition keeps its tensors and models, and the cores of the job are cleared (R187, R539). -/
theorem exec_teardownComplete_torn (ht : (getPart s p).torn = true) :
    ∃ f : Part → Part, (∀ q, (f q).halted = false ∧ (f q).tds = q.tds ∧ (f q).models = q.models) ∧
      exec (.teardownComplete p) s = .next (clearCores (getPart s p).job.clusters (updPart s p f)) := by
  change ∃ f : Part → Part, _ ∧ execTeardownComplete p s = _
  rw [execTeardownComplete, if_neg (by simp [hh, ho]), if_neg (by simp [ht])]
  refine ⟨_, ?_, rfl⟩
  exact fun _ => ⟨rfl, rfl, rfl⟩

end

end

-- Rings and host adds (R161, R162, R164, R176, R177)

section
variable {r : Requester} {st : StreamId} {p : PartId} {s u : State} {v : Nat}

theorem exec_ringTailWrite_fits (h : hostPart r (0x0003001C + 64 * st.val) s = (some p, u))
    (hv : (2 ^ 32 + v - (getStream u p st).ringHead) % 2 ^ 32 ≤ 2 ^ (getStream u p st).ringLog2) :
    exec (.ringTailWrite r st v) s = .next (fetchNow p st (updStream u p st (fun x => { x with ringTail := v % 2 ^ 32 }))) := by
  change execRingTailWrite r st v s = _
  simp only [execRingTailWrite, h, if_neg (Nat.not_lt.mpr hv)]

theorem exec_ringTailWrite_overruns (h : hostPart r (0x0003001C + 64 * st.val) s = (some p, u))
    (hv : 2 ^ (getStream u p st).ringLog2 < (2 ^ 32 + v - (getStream u p st).ringHead) % 2 ^ 32) :
    exec (.ringTailWrite r st v) s = .next (queOverrun p st (updStream u p st (fun x => { x with ringEnable := false }))) := by
  change execRingTailWrite r st v s = _
  simp only [execRingTailWrite, h, if_pos hv]

theorem exec_ringCtlWrite_disabled (h : hostPart r (0x00030018 + 64 * st.val) s = (some p, u)) (he : (getStream u p st).ringEnable = false)
    (v : Nat) :
    exec (.ringCtlWrite r st v) s = .next (fetchNow p st (updStream u p st (fun x => { x with
      ringLog2 := if 8 ≤ v % 32 ∧ v % 32 ≤ 16 then v % 32 else 8
      ringEnable := bitOf v 31 }))) := by
  change execRingCtlWrite r st v s = _
  simp [execRingCtlWrite, h, he]

theorem exec_ringFetchComplete_arrived {n : Nat} {b : Bytes} {l : List (Nat × Option Bytes)} (h : (getStream s p st).fetches = (n, some b) :: l)
    (hb : 64 ≤ b.length) :
    exec (.ringFetchComplete p st) s = .next (fetchNow p st (enterDesc p st (b.take 64)
      (updStream s p st (fun x => { x with fetches := l })))) := by
  change execRingFetchComplete p st s = _
  simp only [execRingFetchComplete, h, if_neg (Nat.not_lt.mpr hb)]

theorem exec_sycHostAdd_served {i : Nat} (h : hostPart r (0x00040004 + 8 * i) s = (some p, u)) (hi : i < (partCfg u p).sycCount)
    (hh : (getPart u p).halted = false) (v : Nat) :
    exec (.sycHostAdd r i v) s = .next (conjAdvance p (sycAdd p i (v % 2 ^ 32) 7 0 u)) := by
  change execSycHostAdd r i v s = _
  simp [execSycHostAdd, h, Nat.not_le.mpr hi, hh]

/-- A sum that fits in 32 bits does not saturate. -/
theorem sycAdd_fits {i : Nat} (h : sycGet s p i + v < 2 ^ 32) (source tag : Nat) :
    sycAdd p i v source tag s = sycSetAt p i (sycGet s p i + v) s :=
  if_neg (Nat.not_le.mpr h)

end

end Sys2Proof.Laws

namespace Sys2Proof.Proofs
open Sys2Proof Sys2Proof.Machine Sys2Proof.Laws

/-- Settles O47: the fields of the word are the counter, the comparison and the value. -/
theorem waitSpecificationLayout : Obligations.WaitSpecificationLayout := by
  intro s p i v w hi hv
  refine ⟨?ge, ?eq, ?ne, ?lt⟩ <;> rintro rfl
  case ge => rw [waitHolds_waitWord hi (c := 0) (by decide) hv]; simp [cmpHolds]
  case eq => rw [waitHolds_waitWord hi (c := 1) (by decide) hv]; simp [cmpHolds]
  case ne => rw [waitHolds_waitWord hi (c := 2) (by decide) hv]; simp [cmpHolds]
  case lt => rw [waitHolds_waitWord hi (c := 3) (by decide) hv]; simp [cmpHolds]

/-- Settles O18, clause by clause: a head that passes its checks begins, and begins to wait where it may not start. -/
theorem commandsAreTakenInOrder : Obligations.CommandsAreTakenInOrder := by
  intro s
  refine ⟨fun p st d w ha hx hd hc hw hf hj hwait hjob hcr => ?starts, fun p st d h => startMeets_of_noErr h (dTag d),
    fun p st d w ha hx hd hc hw hf hj hwait => ?waits, fun p st d w ha hx hd hc hw hf hj hwait hjob hcr => ?noCredit,
    fun p st op ha hx hr hc => takeCmd_noFetchCredit ha hx hr hc op, fun p st op d e w ha hx hd hc hw hf => ?faults,
    fun p st op d w ha hx hd hc hw hf hj ho => ?outside, fun p st op ha => takeCmd_closed ha op⟩
  all_goals obtain rfl : w = fetchHead p st s := hw
  case starts => rw [takeCmd_checked ha hx hd hc hf hj, beginHead_starts hwait hjob hcr]; rfl
  case waits => rw [takeCmd_checked ha hx hd hc hf hj, beginHead_waits hwait]; rfl
  case noCredit => rw [takeCmd_checked ha hx hd hc hf hj, beginHead_noCredit hwait hjob hcr]; rfl
  case faults => exact takeCmd_decodeFault ha hx hd hc hf op
  case outside => exact takeCmd_outsideJob ha hx hd hc hf hj ho op

/-- Settles O17, clause by clause: each command does its effect once it is taken, and ends where nothing of it is owed. -/
theorem streamControlCommands : Obligations.StreamControlCommands := by
  intro s
  refine ⟨fun p st d u h => runCmd_taken h _, fun p st d u h hst hid => exec_jobBegin_enters h hst hid,
    fun p d u h hf => exec_jobBegin_opens h hf, fun p st d u h => runCmd_taken h _, fun p st d u h => runCmd_taken h _,
    fun p st d u h => runCmd_taken h _, fun x i v hi => ⟨ctVal_ctSet_same x hi v, fun j hj hne => ctVal_ctSet_ne x hj hne v⟩,
    fun p st d u h => runCmd_taken h _, fun p st d u h => runCmd_taken h _, fun p st d u h => runCmd_taken h _,
    fun p st d u h => runCmd_taken h _, fun p st d u h hm hv hx => exec_tdSet_valid h hm hv hx, fun p st d u h => runCmd_taken h _,
    fun p st d u h => runCmd_taken h _, fun p st => rfl, fun p st e he hd hop ho hp => complete_done he hd ho hop hp,
    fun p st e he ho => complete_mirrorOwed he ho, fun p st e he hd ho hm hp => complete_unpaid he hd ho hm hp,
    fun p st e t0 he hw ht hno => exec_sycWaitTimeout_waiting he hw ht hno, fun p h => exec_teardownComplete_running h,
    fun p h => exec_teardownComplete_mirrorOwed h, fun p hh ho => ?teardown⟩
  case teardown =>
    cases ht : (getPart s p).torn with
    | false => exact ⟨_, exec_teardownComplete_untorn hh ho ht, by simp⟩
    | true =>
      obtain ⟨f, hf, hexec⟩ := exec_teardownComplete_torn hh ho ht
      exact ⟨_, hexec, by simp [hf]⟩

/-- Settles O24, clause by clause: the host reaches a partition, and the ring or the counter decides what its write does. -/
theorem ringAndHostAdds : Obligations.RingAndHostAdds := fun _ =>
  ⟨fun _ _ _ _ _ h hv => exec_ringTailWrite_fits h hv, fun _ _ _ _ _ h hv => exec_ringTailWrite_overruns h hv,
    fun _ _ v _ _ h he => exec_ringCtlWrite_disabled h he v, fun _ _ _ _ _ h hb => exec_ringFetchComplete_arrived h hb,
    fun _ _ v _ _ h hi hh => exec_sycHostAdd_served h hi hh v, fun _ _ _ k g h => sycAdd_fits h k g⟩

end Sys2Proof.Proofs
end

section
/-!
SUPPORT. The commands of the router, the Sort Engine, the Dispatch Engine and the Combine Engine on operands that pass, one lemma for
each: the statements RoutingCommands and CombineCommands.
-/
namespace Sys2Proof.Laws
open Sys2Proof Sys2Proof.Machine

/-- A command that has worked through its list without a fault is done (R183). -/
theorem finish_noFault {p : PartId} {st : StreamId} {d : Bytes} {r : State × Option CmdErr} (h : r.2 = none) :
    finish p st d r = cmdDone p st r.1 := by
  simp only [finish, h]

-- RTE.SELECT (R203, R263 to R266, R292)

/-- RTE.SELECT on operands that passed: the gate matrix is read, and the command holds its tensors and its first slot. -/
def selectStart (p : PartId) (d : Bytes) (m : Model) (tds : List (Nat × Bytes)) (s : State) : State :=
  updExec p 0 (fun e => { e with tds := tds, base := relValue (getStream s p 0) (d8 d 28) (d16 d 24), at_ := 0 })
    (fillGate p (dTag d) m (d16 d 34) (d16 d 26) s)

section
variable {p : PartId} {d : Bytes} {s u : State} {m : Model}

theorem exec_rteSelect_commitsAll {td : Nat × Bytes} {sc : Option (Nat × Bytes)} (h : takeCmd p 0 0x1001 s = (some d, u))
    (hm : jobModel (getPart u p) = some m) (hl : layerMode u p (d16 d 34) 0 = true)
    (htd : useTd u p d 32 true (isClauseList (d16 d 26)) = .ok td)
    (hsc : useTdOpt u p d 38 true (fun t => tdType t == 3 && tdSpace t != 3 && decide (tdElems t ≥ d16 d 26 * m.experts)) = .ok sc)
    (hs : specStep (selectStart p d m (td :: sc.toList) u) p (d16 d 34) = none) :
    exec (.rteSelect p) s = .next (cmdDone p 0 (updExec p 0 (fun e => { e with at_ := d16 d 26 })
      (commitAll p d td.2 (sc.map (·.2)) (relValue (getStream u p 0) (d8 d 28) (d16 d 24)) (d16 d 26) 0
        (selectStart p d m (td :: sc.toList) u)))) := by
  rw [selectStart] at hs
  change execRteSelect p s = _
  simp only [execRteSelect, runCmd_taken h, hm, hl, htd, hsc, hs]
  rfl

theorem exec_tokenSelectionCommit_next {e : Exec} {td : Nat × Bytes} (he : (getStream s p 0).exec = some e) (hr : e.phase = .running)
    (ho : dOp e.desc = 0x1001) (hn : e.at_ < d16 e.desc 26) (htd : e.tds.head? = some td) :
    exec (.tokenSelectionCommit p e.at_) s = .next
      (let t := updExec p 0 (fun x => { x with at_ := e.at_ + 1 }) (commitToken p e.desc td.2 ((e.tds[1]?).map (·.2)) e.base e.at_ s)
       if e.at_ + 1 = d16 e.desc 26 then cmdDone p 0 t else t) := by
  change execTokenSelectionCommit p e.at_ s = _
  simp [execTokenSelectionCommit, he, hr, ho, hn, htd]

-- RTE.PROPOSE (R204, R267)

theorem exec_rtePropose_writes {td : Nat × Bytes} {v w : State} {rows : List (Nat × Bool × List Nat)} {base : Nat}
    (h : takeCmd p 0 0x1002 s = (some d, u)) (hm : jobModel (getPart u p) = some m) (hl : layerMode u p (d16 d 34) 1 = true)
    (htd : useTd u p d 32 true (isBallot (m.experts * d16 d 36)) = .ok td) (hb : base = relValue (getStream u p 0) (d8 d 28) (d16 d 24))
    (hv : v = updExec p 0 (fun e => { e with tds := [td], base := base, at_ := d16 d 26 })
      (fillGate p (dTag d) m (d16 d 34) (d16 d 26) u))
    (hrows : rows = proposeRows v p m (routerLayer v p m (d16 d 34)) base (d16 d 26))
    (hw : w = eachOf (List.range (d16 d 26)) (fun i s => updSlot p (base + i)
      (fun x => { x with gateBad := gatePoisoned v p m (routerLayer v p m (d16 d 34)) }) s) v) :
    exec (.rtePropose p) s = .next (cmdDone p 0 (writeRecs p td.2 0
      ((List.range m.experts).flatMap (fun e => proposeRecs w (d16 d 36) e rows)) (proposeCounts p (d16 d 26) rows w))) := by
  subst hb hv hrows hw
  change execRtePropose p s = _
  simp only [execRtePropose, runCmd_taken h, hm, hl, htd]
  rfl

theorem length_proposeRecs (s : State) (c e : Nat) (rows : List (Nat × Bool × List Nat)) : (proposeRecs s c e rows).length = c := by
  have hbest : (proposeBest s c e rows).length ≤ c := List.length_take_le _ _
  simp only [proposeRecs, List.length_append, List.length_map, List.length_replicate]
  omega

/-- Every candidate is a row without poison, with its p of the expert as key (R267). -/
theorem mem_proposeBest {c e : Nat} {rows : List (Nat × Bool × List Nat)} {x : Nat × Nat} (h : x ∈ proposeBest s c e rows) :
    ∃ r ∈ rows, r.2.1 = false ∧ x = (r.2.2.getD e 0, candId (ownId s) r.1) := by
  have hx := (mem_sortBy _ _ _).mp (List.mem_of_mem_take h)
  obtain ⟨r, hr, rfl⟩ := List.mem_map.mp hx
  obtain ⟨hmem, hfit⟩ := List.mem_filter.mp hr
  simp only [Bool.and_eq_true, Bool.not_eq_true'] at hfit
  exact ⟨r, hmem, hfit.1, rfl⟩

-- RTE.ASSIGN (R205, R269)

theorem exec_rteAssign_assigns {bt ct : Nat × Bytes} {base : Nat} (h : takeCmd p 0 0x1003 s = (some d, u))
    (hm : jobModel (getPart u p) = some m) (hl : layerMode u p (d16 d 36) 1 = true)
    (hbt : useTd u p d 32 false (isBallot m.experts) = .ok bt) (hct : useTd u p d 34 true (isClauseList (d16 d 26)) = .ok ct)
    (hf : ctlFault u p (tdSpace bt.2) (tdBase bt.2) (tdExtent bt.2 - tdBase bt.2) = none)
    (hb : base = relValue (getStream u p 0) (d8 d 28) (d16 d 24))
    (hs : (ballotEntries u p bt.2).find? (strayEntry base (d16 d 26) m.experts) = none) :
    exec (.rteAssign p) s = .next (cmdDone p 0 (eachOf (List.range (d16 d 26))
      (assignToken p ct.2 base (d16 d 36) (routerLayer u p m (d16 d 36)) (ballotEntries u p bt.2))
      (updExec p 0 (fun e => { e with tds := [bt, ct], base := base, at_ := d16 d 26 })
        (updPart u p (fun q => { q with rteLayer := d16 d 36, rteEc := true }))))) := by
  subst hb
  change execRteAssign p s = _
  simp only [execRteAssign, runCmd_taken h, hm, hl, hbt, hct, hf, hs]
  rfl

/-- The picks that a token keeps are entries of the ballot for its slot, at most 16 of them (R269). -/
theorem mem_keptOf {es : List (Nat × Nat × Nat × Nat)} {slot : Nat} {x : Nat × Nat × Nat} (h : x ∈ keptOf es slot) :
    ∃ e ∈ es, e.2.1 = slot ∧ x = (e.2.2.1, e.2.2.2, e.2.2.2) := by
  have hx := (mem_sortBy _ _ _).mp (List.mem_of_mem_take h)
  obtain ⟨e, he, rfl⟩ := List.mem_map.mp hx
  obtain ⟨hmem, hslot⟩ := List.mem_filter.mp he
  exact ⟨e, hmem, by simpa using hslot, rfl⟩

theorem length_keptOf_le (es : List (Nat × Nat × Nat × Nat)) (slot : Nat) : (keptOf es slot).length ≤ 16 := List.length_take_le _ _

-- SRT.BUCKET (R207, R307, R308)

/-- With KEY 0 no clause that is still to be resolved names a poisoned part of the map: nothing of the map faults (R464). -/
theorem bucketPoison_none {layer : Nat} {cs : List (Nat × Bytes)}
    (h : ∀ x ∈ cs, d8 d 34 = 0 → recExpert x.2 ≠ 0xFFFF → recResolved x.2 = none → mapPoison u p m layer (recExpert x.2) = none) :
    (if d8 d 34 = 0 then cs.findSome? (fun x =>
      if recExpert x.2 = 0xFFFF || (recResolved x.2).isSome then none else mapPoison u p m layer (recExpert x.2)) else none) = none := by
  split
  case isFalse => rfl
  case isTrue hkey =>
    refine List.findSome?_eq_none_iff.mpr fun x hx => ?_
    split
    case isTrue => rfl
    case isFalse hto =>
      simp only [Bool.or_eq_true, decide_eq_true_eq, not_or, Option.not_isSome_iff_eq_none] at hto
      exact h x hx hkey hto.1 hto.2

theorem exec_srtBucket_writes {td ix off : Nat × Bytes} {cs : List (Nat × Bytes)} {l : List (Nat × Nat × Bytes)}
    (h : takeCmd p 1 0x2001 s = (some d, u)) (hm : jobModel (getPart u p) = some m)
    (htd : useTd u p d 24 (d8 d 34 == 0) (isClauseList (d16 d 26)) = .ok td)
    (hix : useTd u p d 28 true (fun t => isIndex t && tdSpace t != 3) = .ok ix)
    (hoff : useTd u p d 30 true (fun t => isIndex t && tdSpace t != 3) = .ok off)
    (hf : ctlFault u p (tdSpace td.2) (tdBase td.2) (256 * d16 d 26) = none) (hcs : cs = listClauses u p td.2 (d16 d 26))
    (hx : cs.find? (fun x => recExpert x.2 != 0xFFFF && recExpert x.2 ≥ m.experts) = none)
    (hp : ∀ x ∈ cs, d8 d 34 = 0 → recExpert x.2 ≠ 0xFFFF → recResolved x.2 = none → mapPoison u p m (d16 d 32) (recExpert x.2) = none)
    (hl : l = bucketSorted (bucketKeyed u p m (d16 d 32) (d8 d 34 == 0) cs)) (hli : l.length ≤ tdElems ix.2)
    (hlo : (bucketOffs (d8 d 34 == 0) m.experts l).length ≤ tdElems off.2) :
    exec (.srtBucket p) s = .next (cmdDone p 1
      (cntPart 0x000C0010 (cs.length - (bucketKeyed u p m (d16 d 32) (d8 d 34 == 0) cs).length) p
        (cntPart64 0x000C0008 l.length p
          (tdWriteWords p off.2 0 (bucketOffs (d8 d 34 == 0) m.experts l)
            (tdWriteWords p ix.2 0 (l.map (fun e => indexEntry e.2.1 (recRank e.2.2)))
              (if d8 d 34 = 0 then resolveList p (dTag d) m (d16 d 32) td.2 cs u else u)))))) := by
  subst hl hcs
  change execSrtBucket p s = _
  simp only [execSrtBucket, runCmd_taken h, hm, htd, hix, hoff, hf, hx, beq_iff_eq, bucketPoison_none hp,
    if_neg (Nat.not_lt.mpr hli), if_neg (Nat.not_lt.mpr hlo)]

-- DSP.GATHER (R208)

theorem exec_dspGather_copies {src ix dst : Nat × Bytes} (h : takeCmd p 2 0x3001 s = (some d, u))
    (hsrc : useTd u p d 24 false (fun t => tdSpace t != 3) = .ok src)
    (hix : useTd u p d 26 false (fun t => isIndex t && tdSpace t != 3) = .ok ix)
    (hdst : useTd u p d 28 true (fun t => tdSpace t != 3) = .ok dst)
    (hfit : ¬ (tdType src.2 ≠ tdType dst.2 ∨ tdDim src.2 0 ≠ tdDim dst.2 0 ∨ tdSliceElems src.2 ≠ tdSliceElems dst.2))
    (hrows : (eachUntil (gatherRow p d src ix dst) (List.range (d32 d 32)) u).2 = none) :
    exec (.dspGather p) s = .next (cmdDone p 2 (eachUntil (gatherRow p d src ix dst) (List.range (d32 d 32)) u).1) := by
  change execDspGather p s = _
  simp only [execDspGather, runCmd_taken h, hsrc, hix, hdst, if_neg hfit, finish_noFault hrows]

-- CMB.ACCUM and CMB.FINAL (R218, R219)

theorem exec_cmbAccum_adds {rows td ix : Nat × Bytes} (h : takeCmd p 4 0x5001 s = (some d, u)) (hm : jobModel (getPart u p) = some m)
    (hrows : useTd u p d 24 false (fun t => tdType t == 0 && tdRank t == 1 && tdDim t 0 == m.dmodel && tdSpace t != 3) = .ok rows)
    (htd : useTd u p d 26 false (isClauseList 1) = .ok td)
    (hix : useTd u p d 28 false (fun t => isIndex t && tdSpace t != 3) = .ok ix)
    (hadd : (eachUntil (accumRow p d m rows td ix) (List.range (d16 d 36)) u).2 = none) :
    exec (.cmbAccum p) s = .next (cmdDone p 4 (eachUntil (accumRow p d m rows td ix) (List.range (d16 d 36)) u).1) := by
  change execCmbAccum p s = _
  simp only [execCmbAccum, runCmd_taken h, hm, hrows, htd, hix, finish_noFault hadd]

theorem exec_cmbFinal_rounds {is : List Nat} (h : takeCmd p 4 0x5002 s = (some d, u))
    (his : is = (List.range (d16 d 26)).map (· + relValue (getStream u p 4) (d8 d 28) (d16 d 24)))
    (hfull : ∀ i ∈ is, slotFull (getSlot u p i) = true) :
    exec (.cmbFinal p) s = .next (cmdDone p 4 (eachOf is (fun i s => roundSlot p i s) u)) := by
  have hall : is.all (fun i => slotFull (getSlot u p i)) = true := List.all_eq_true.mpr hfull
  change execCmbFinal p s = _
  simp only [execCmbFinal, runCmd_taken h, ← his, hall]
  rfl

end

end Sys2Proof.Laws

namespace Sys2Proof.Proofs
open Sys2Proof Sys2Proof.Machine Sys2Proof.Laws

/-- Settles O19, clause by clause: each command takes its operands and goes its way without a fault. -/
theorem routingCommands : Obligations.RoutingCommands := by
  intro s
  refine ⟨fun _ _ _ _ _ _ h hm hl htd hsc hs => exec_rteSelect_commitsAll h hm hl htd hsc hs, ?commit,
    fun _ _ _ _ _ _ _ _ h hm hl htd hv hrows hw => exec_rtePropose_writes h hm hl htd rfl hv hrows hw,
    fun _ _ _ => ⟨length_proposeRecs _ _ _ _, fun _ => mem_proposeBest⟩,
    fun _ _ _ _ _ _ h hm hl hbt hct hf hs => exec_rteAssign_assigns h hm hl hbt hct hf rfl hs,
    fun _ _ => ⟨length_keptOf_le _ _, fun _ => mem_keptOf⟩,
    fun _ _ _ _ _ _ _ _ h hm htd hix hoff hf hx hp hl hli hlo => exec_srtBucket_writes h hm htd hix hoff hf rfl hx hp hl hli hlo,
    fun _ _ _ _ _ _ h hsrc hix hdst hfit hrows => exec_dspGather_copies h hsrc hix hdst hfit hrows⟩
  case commit =>
    rintro p _ e td he hr ho rfl hn htd
    exact exec_tokenSelectionCommit_next he hr ho hn htd

/-- Settles O21: every row is added, and every slot of the range is rounded. -/
theorem combineCommands : Obligations.CombineCommands := fun _ =>
  ⟨fun _ _ _ _ _ _ _ h hm hrows htd hix hadd => exec_cmbAccum_adds h hm hrows htd hix hadd,
    fun _ _ _ _ h his hfull => exec_cmbFinal_rounds h his hfull⟩

end Sys2Proof.Proofs
end

section
/-!
SUPPORT. The Expert Sequencer: the rows it takes under what the ECC finds, and the effect of each of its commands on operands that
pass: the statement SequencerCommands.
-/
namespace Sys2Proof.Laws
open Sys2Proof Sys2Proof.Machine Sys2Proof.Safety

-- The rows of the sequencer (R214, R235)

section
variable {p : PartId} {op : Nat} {ecc : List EccFind} {d : Bytes} {s u v : State}

theorem seqRun_takes {body : Bytes → State → State} {t : State} (h : SeqTakes p op ecc d s u) (hbody : body d u = t) :
    seqRun p op ecc body s = .next t := by
  obtain ⟨v, _, htake, rfl, hrun, rfl⟩ := h
  obtain ⟨e, he⟩ := Option.isSome_iff_exists.mp hrun
  simp only [seqRun, runCmd_taken htake, he, hbody]

/-- A find that ends the command leaves nothing of the row to run (R463). -/
theorem seqRun_ended (h : takeCmd p 3 op s = (some d, v)) (hend : (getStream (ecc.foldl (rowFind p (dTag d)) v) p 3).exec = none)
    (body : Bytes → State → State) : seqRun p op ecc body s = .next (ecc.foldl (rowFind p (dTag d)) v) := by
  simp only [seqRun, runCmd_taken h, hend]

theorem seqRun_untaken (h : takeCmd p 3 op s = (none, v)) (body : Bytes → State → State) : seqRun p op ecc body s = .next v := by
  simp only [seqRun, runCmd, h]

end

-- A cleared tile (R242)

/-- A cleared range of a table reads as the default. -/
theorem tabGet_tabClear_inside {α : Type} (x : α) {lo hi q : Nat} (hlo : lo ≤ q) (hhi : q < hi) (t : Tab α) :
    tabGet x (tabClear lo hi t) q = x := by
  induction t with
  | nil => rfl
  | cons e t ih =>
    rw [tabClear, List.filter_cons]
    split
    next hkept =>
      have hne : e.1 ≠ q := by
        simp only [Bool.or_eq_true, decide_eq_true_eq] at hkept
        omega
      rw [tabGet, if_neg hne]
      exact ih
    next => exact ih

theorem tileRow_zeroTile (q : CoreSt) {code row : Nat} (hc : isT code = true ∨ isA code = true) (hr : row < 64) :
    tileRow (zeroTile code q) code row = List.replicate 64 0 := by
  refine List.eq_replicate_iff.mpr ⟨by simp [tileRow], fun x hx => ?_⟩
  obtain ⟨j, hj, rfl⟩ := List.mem_map.mp hx
  have hj := List.mem_range.mp hj
  cases ht : isT code with
  | true =>
    simp only [zeroTile, ht, if_true]
    exact tabGet_tabClear_inside 0 (by omega) (by omega) q.t
  | false =>
    have ha : isA code = true := by simpa [ht] using hc
    have hcode : 64 ≤ code := by simpa [isT] using ht
    simp only [zeroTile, ha, if_true, Bool.false_eq_true, if_false]
    exact tabGet_tabClear_inside 0 (by omega) (by omega) q.a

theorem tileTag_zeroTile (q : CoreSt) {code : Nat} (ht : isT code = true) : tileTag (zeroTile code q) code = 0 := by
  simp only [tileTag, zeroTile, ht, if_true]
  exact tabGet_tabClear_inside 0 (Nat.le_refl _) (Nat.lt_succ_self _) q.tags

-- The effect of each command (R214 to R217)

section
variable {p : PartId} {d : Bytes} {s : State} {td : Nat × Bytes} {ix : Option (Nat × Bytes)}

theorem seqLd_loads {v : State} (htd : useTd s p d 26 false (fun t => tdRank t == 1 && decide (tdType t ≤ 2)) = .ok td)
    (hix : useTdOpt s p d 28 false isIndex = .ok ix) (hv : v = onCores p (setTileTag (d8 d 24) (tdType td.2)) s)
    (hrows : (eachUntil (loadRow p d td ix) (coreRows v p (d8 d 25)) v).2 = none) :
    seqLd p d s = cmdDone p 3 (eachUntil (loadRow p d td ix) (coreRows v p (d8 d 25)) v).1 := by
  simp only [seqLd, htd, hix, ← hv, finish_noFault hrows]

theorem seqSt_stores (htd : useTd s p d 26 true (storeSuits s p (d8 d 24)) = .ok td) (hix : useTdOpt s p d 28 false isIndex = .ok ix)
    (hrows : (eachUntil (storeTileRow p d td ix) (coreRows s p (d8 d 25)) s).2 = none) :
    seqSt p d s = cmdDone p 3 (eachUntil (storeTileRow p d td ix) (coreRows s p (d8 d 25)) s).1 := by
  simp only [seqSt, htd, hix, finish_noFault hrows]

theorem seqAct_writes (hf : vecFault s p d [24, 25] = none) :
    seqAct p d s = cmdDone p 3 (onCores p (tileRows (d8 d 27) (actRow (d8 d 24) (d8 d 25) (d8 d 26))) s) := by
  simp only [seqAct, hf]

theorem seqMul_writes (hf : vecFault s p d [24, 25, 26] = none) :
    seqMul p d s = cmdDone p 3 (onCores p (tileRows (d8 d 27) (mulRow (d8 d 24) (d8 d 25) (d8 d 26))) s) := by
  simp only [seqMul, hf]

theorem seqScale_writes (hf : vecFault s p d [24, 25] = none) (htd : useTd s p d 26 false (fun t => tdType t == 3) = .ok td)
    (hrows : (eachUntil (scaleTileRow p d td) (coreRows s p (d8 d 36)) s).2 = none) :
    seqScale p d s = cmdDone p 3 (eachUntil (scaleTileRow p d td) (coreRows s p (d8 d 36)) s).1 := by
  simp only [seqScale, hf, htd, finish_noFault hrows]

theorem seqExpert_runs {m : Model} {rows out : Nat × Bytes} {gate : Option (Nat × Bytes)} {w v : State} {suits : Bytes → Bool} {work : Bool}
    (hm : jobModel (getPart s p) = some m)
    (hsuits : suits = (fun t => tdType t == 0 && tdRank t == 1 && tdDim t 0 == m.dmodel && tdSpace t != 3))
    (hres : residentExpert s p m (d16 d 28) (d16 d 30) = true) (hrows : useTd s p d 24 false suits = .ok rows)
    (hix : useTdOpt s p d 26 false (fun t => isIndex t && tdSpace t != 3) = .ok ix) (hout : useTd s p d 32 true suits = .ok out)
    (hgate : useTdOpt s p d 34 false (fun t => tdType t == 3 && tdSpace t != 3) = .ok gate) (hw : w = dropClusters p s)
    (hv : v = passCycles p (touchWeights p (dTag d) m (d16 d 28) (d16 d 30)
      (beginPass p { model := m.handle, expert := d16 d 30, layer := d16 d 28, lead := lowLead w p, alone := true } w)))
    (hrun : (eachUntil (expertRow p d m work rows out ix gate) (List.range (d16 d 38)) v).2 = none) :
    seqExpert p work d s = cmdDone p 3 (eachUntil (expertRow p d m work rows out ix gate) (List.range (d16 d 38)) v).1 := by
  subst hsuits hw
  simp only [seqExpert, hm, hres, hrows, hix, hout, hgate, ← hv, finish_noFault hrun]
  rfl

/-- A stand-alone pass begins when no pass of the partition runs (R254). -/
theorem exec_seqExpert_free {ecc : List EccFind} (h : (getPart s p).pass = none) :
    exec (.seqExpert p ecc) s = seqRun p 0x4010 ecc (seqExpert p (ecc.any isWork)) s := by
  change execSeqExpert p ecc s = _
  simp only [execSeqExpert, h]
  rfl

end

end Sys2Proof.Laws

namespace Sys2Proof.Proofs
open Sys2Proof Sys2Proof.Machine Sys2Proof.Laws

/-- Settles O20, clause by clause: the sequencer takes the row, and its operands decide its effect on every core. -/
theorem sequencerCommands : Obligations.SequencerCommands := by
  intro s
  refine ⟨fun _ _ _ _ _ _ _ h htd hix hv hrows => seqRun_takes h (seqLd_loads htd hix hv hrows),
    fun _ _ _ _ _ _ h htd hix hrows => seqRun_takes h (seqSt_stores htd hix hrows), fun _ _ _ h => seqRun_takes h rfl,
    fun q _ _ hc hr => ⟨tileRow_zeroTile q hc hr, tileTag_zeroTile q⟩, fun _ _ _ _ h => seqRun_takes h rfl,
    fun _ _ _ _ h hf => seqRun_takes h (seqAct_writes hf), fun _ _ _ _ h hf => seqRun_takes h (seqMul_writes hf),
    fun _ _ _ _ _ h hf htd hrows => seqRun_takes h (seqScale_writes hf htd hrows), fun _ _ _ _ h => seqRun_takes h rfl,
    fun _ _ _ _ _ _ _ _ _ _ _ _ hp h hm hsuits hres hrows hix hout hgate hw hv hrun => ?expert,
    fun _ _ _ _ _ f h hend => seqRun_ended h hend f, fun _ _ _ _ f h => seqRun_untaken h f⟩
  case expert =>
    rw [exec_seqExpert_free hp]
    exact seqRun_takes h (seqExpert_runs hm hsuits hres hrows hix hout hgate hw hv hrun)

end Sys2Proof.Proofs
end

section
/-!
SUPPORT. Communicators and the seven collective operations, one lemma for each way a command goes: the statement CollectiveCommands.
-/
namespace Sys2Proof.Laws
open Sys2Proof Sys2Proof.Machine

section
variable {p : PartId} {d : Bytes} {s u : State} {k : Comm}

-- COMM_CREATE and COMM_DESTROY (R220, R386, R387)

theorem exec_colCommCreate_starts {td : Nat × Bytes} {l : List DevId} (h : takeCmd p 5 0x6001 s = (some d, u))
    (hr : (getPart u p).job.replayed = false) (htd : useTd u p d 26 false isIndex = .ok td) (hn : d32 d 28 ≤ tdElems td.2)
    (hl : memberList u p td (d32 d 28) = .ok l) :
    exec (.colCommCreate p) s = .next (startCreate p d l (chargeRead p (tdSpace td.2) (4 * d32 d 28) u)) := by
  change execColCommCreate p s = _
  simp only [execColCommCreate, runCmd_taken h, hr, htd, hl, if_neg (Nat.not_lt.mpr hn)]
  rfl

theorem exec_colCommDestroy_frees (h : takeCmd p 5 0x6002 s = (some d, u)) (hk : getComm u (d8 d 24) = some k) (hp : k.part = p)
    (hc : k.state ≠ .creating) (hr : (getPart u p).job.replayed = false) (hu : stepUses u p (d8 d 24) = false) :
    exec (.colCommDestroy p) s = .next (cmdDone p 5 (setComm (d8 d 24) none u)) := by
  change execColCommDestroy p s = _
  simp [execColCommDestroy, runCmd_taken h, hk, hp, hc, hr, hu]

/-- No communicator, one that a step uses, one of another partition or one that is CREATING is not destroyed (R220). -/
theorem exec_colCommDestroy_faults (h : takeCmd p 5 0x6002 s = (some d, u))
    (hno : getComm u (d8 d 24) = none ∨ stepUses u p (d8 d 24) = true ∨
      ∃ k, getComm u (d8 d 24) = some k ∧ (k.part ≠ p ∨ k.state = .creating)) :
    exec (.colCommDestroy p) s = .next (cmdFail p 5 d (badOperand 24) u) := by
  change execColCommDestroy p s = _
  cases hk : getComm u (d8 d 24) with
  | none => simp only [execColCommDestroy, runCmd_taken h, hk]
  | some k =>
    have hbad : k.part ≠ p ∨ k.state = .creating ∨ (getPart u p).job.replayed = true ∨ stepUses u p (d8 d 24) = true := by
      rcases hno with hnone | huse | ⟨k', hk', hbad⟩
      · simp [hnone] at hk
      · exact .inr (.inr (.inr huse))
      · obtain rfl : k = k' := by simpa [hk] using hk'
        exact hbad.imp_right .inl
    simp only [execColCommDestroy, runCmd_taken h, hk, if_pos hbad]

-- The operations (R221, R222)

section
variable (hk : getComm u (d8 d 24) = some k) (hp : k.part = p) (hr : (getPart u p).job.replayed = false)
include hk hp hr

theorem colStart_begins {op : Nat} {r : ColRun} (ha : k.state = .active) (hops : colOperands u p d k op = .ok r)
    (hsrc : r.src = [] ∨ poisonFault u p r.src = none) : colStart p op d u = beginRun p r u := by
  rcases hsrc with hsrc | hsrc <;> simp [colStart, hk, hp, hr, ha, hops, hsrc]

theorem colStart_aborted (ha : k.state = .aborted) (op : Nat) : colStart p op d u = cmdFail p 5 d (abortErr k) u := by
  simp [colStart, hk, hp, hr, ha]

end

/-- The seven operations with their opcodes, and the number each has in a run (R221). -/
def colOps (p : PartId) : List (Instr × Nat × Nat) :=
  [(.colAllreduce p, 0x6010, 0), (.colAllgather p, 0x6011, 1), (.colReducescatter p, 0x6012, 2), (.colBroadcast p, 0x6013, 3),
   (.colBarrier p, 0x6014, 4), (.colAlltoallv p, 0x6015, 5), (.colBallotMerge p, 0x6016, 6)]

/-- Every operation runs as one: a command of the COL stream that starts its own number. -/
theorem exec_colOp {c : Instr} {n op : Nat} (hc : (c, n, op) ∈ colOps p) (s : State) : exec c s = runCmd p 5 n (colStart p op) s := by
  simp only [colOps, List.mem_cons, List.not_mem_nil, or_false, Prod.mk.injEq] at hc
  rcases hc with ⟨rfl, rfl, rfl⟩ | ⟨rfl, rfl, rfl⟩ | ⟨rfl, rfl, rfl⟩ | ⟨rfl, rfl, rfl⟩ | ⟨rfl, rfl, rfl⟩ | ⟨rfl, rfl, rfl⟩ |
    ⟨rfl, rfl, rfl⟩ <;> rfl

section
variable {c : Instr} {n op : Nat} (hc : (c, n, op) ∈ colOps p) (h : takeCmd p 5 n s = (some d, u))
  (hk : getComm u (d8 d 24) = some k) (hp : k.part = p) (hr : (getPart u p).job.replayed = false)
include hc h hk hp hr

theorem exec_colOp_begins {r : ColRun} (ha : k.state = .active) (hops : colOperands u p d k op = .ok r)
    (hsrc : r.src = [] ∨ poisonFault u p r.src = none) : exec c s = .next (beginRun p r u) := by
  rw [exec_colOp hc, runCmd_taken h, colStart_begins hk hp hr ha hops hsrc]

theorem exec_colOp_aborted (ha : k.state = .aborted) : exec c s = .next (cmdFail p 5 d (abortErr k) u) := by
  rw [exec_colOp hc, runCmd_taken h, colStart_aborted hk hp hr ha]

end

end

end Sys2Proof.Laws

namespace Sys2Proof.Proofs
open Sys2Proof Sys2Proof.Machine Sys2Proof.Laws

/-- Settles O22, clause by clause: the seven operations are one command of the COL stream, each with its own number. -/
theorem collectiveCommands : Obligations.CollectiveCommands := by
  intro s
  refine ⟨fun _ _ _ _ _ h hr htd hn hl => exec_colCommCreate_starts h hr htd hn hl,
    fun _ _ _ _ h hk hp hc hr hu => exec_colCommDestroy_frees h hk hp hc hr hu, ?_, ?_, ?_, ?_, ?_, ?_, ?_,
    fun _ _ _ h hno => exec_colCommDestroy_faults h hno, ?aborted⟩
  case aborted =>
    intro p d u k c n hc h hk hp ha hr
    obtain ⟨⟨c', n', op⟩, hop, heq⟩ : ∃ x ∈ colOps p, (x.1, x.2.1) = (c, n) := List.mem_map.mp (by simpa [colOps] using hc)
    obtain ⟨rfl, rfl⟩ := Prod.mk.inj heq
    exact exec_colOp_aborted hop h hk hp hr ha
  all_goals
    intro p d u k r h hk hp ha hr hops hsrc
    exact exec_colOp_begins (by simp [colOps]) h hk hp hr ha hops hsrc

end Sys2Proof.Proofs
end

section
/-!
SUPPORT. The commands of the XFR stream and CONJ.STEP, one lemma for each way a command starts, goes on or ends: the statement
TransferCommands.
-/
namespace Sys2Proof.Laws
open Sys2Proof Sys2Proof.Machine

-- A command of the XFR stream (R227)

section
variable {p : PartId} {op : Nat} {d : Bytes} {s u : State} {e : Exec}

theorem runXfr_starts (hx : (getStream s p 6).exec = none) (h : takeCmd p 6 op s = (some d, u)) (body more : Bytes → State → State) :
    runXfr p op body more s = body d u := by
  simp only [runXfr, runXfr.start, hx, h]

theorem runXfr_goesOn (he : (getStream s p 6).exec = some e) (hr : e.phase = .running) (ho : dOp e.desc = op)
    (body more : Bytes → State → State) : runXfr p op body more s = more e.desc s := by
  simp [runXfr, he, hr, ho]

@[simp] theorem getStream_updExec_exec (p : PartId) (st : StreamId) (f : Exec → Exec) (s : State) :
    (getStream (updExec p st f s) p st).exec = (getStream s p st).exec.map f := by
  simp [updExec]

theorem xfrAt_running (he : (getStream s p 6).exec = some e) : xfrAt s p = e.at_ := by
  simp only [xfrAt, he]

theorem xfrAt_setXfrAt (he : (getStream s p 6).exec = some e) (n : Nat) : xfrAt (setXfrAt p n s) p = n := by
  simp [xfrAt, setXfrAt, he]

end

-- TOKENS_IN (R21, R224, R225)

section
variable {p : PartId} {d : Bytes} {s u : State} {e : Exec} {m : Model}

theorem exec_xfrTokensIn (p : PartId) (s : State) :
    exec (.xfrTokensIn p) s = .next (runXfr p 0x7001 (tokensIn p) (tokensIn p) s) := rfl

theorem tokensIn_takes (hm : jobModel (getPart s p) = some m)
    (hx : (getStream (takeSlots p d m (rangeBase s p 6 d) ((List.range (d16 d 26)).drop (xfrAt s p)) s) p 6).exec ≠ none) :
    tokensIn p d s =
      tokensInEnd p d (takeSlots p d m (rangeBase s p 6 d) ((List.range (d16 d 26)).drop (xfrAt s p)) s) := by
  obtain ⟨x, hx⟩ := Option.ne_none_iff_exists'.mp hx
  simp only [tokensIn, hm, hx]

/-- Every row has arrived and none is to be digested: the command is done. -/
theorem tokensInEnd_arrived (hall : xfrAt s p = d16 d 26)
    (hrows : (List.range (d16 d 26)).any (fun i => (getSlot s p (rangeBase s p 6 d + i)).awaited != 0) = false)
    (hd : (getPart s p).job.digest = false) : tokensInEnd p d s = cmdDone p 6 s := by
  simp [tokensInEnd, hall, hrows, hd]

theorem tokensIn_arrived (he : (getStream s p 6).exec = some e) (hm : jobModel (getPart s p) = some m) (hall : e.at_ = d16 d 26)
    (hrows : (List.range (d16 d 26)).any (fun i => (getSlot s p (rangeBase s p 6 d + i)).awaited != 0) = false)
    (hd : (getPart s p).job.digest = false) : tokensIn p d s = cmdDone p 6 s := by
  have hat : xfrAt s p = d16 d 26 := (xfrAt_running he).trans hall
  have hnone : takeSlots p d m (rangeBase s p 6 d) ((List.range (d16 d 26)).drop (xfrAt s p)) s = s := by
    rw [hat, List.drop_eq_nil_of_le (by simp), takeSlots]
  rw [tokensIn_takes hm (by simp [hnone, he]), hnone, tokensInEnd_arrived hat hrows hd]

-- TOKENS_OUT (R224, R330 to R333)

theorem exec_xfrTokensOut (p : PartId) (s : State) :
    exec (.xfrTokensOut p) s = .next (runXfr p 0x7002 (tokensOut p) (tokensOut p) s) := rfl

/-- The rows are out, no compare is due and nothing is staged: the record is issued once the host is ready (R331). -/
theorem tokensOut_record (he : (getStream s p 6).exec = some e) (hat : e.at_ = 1) (hheld : heldRecord p s = s)
    (hw : writesWait s p .output = false) (hair : (getPart s p).job.stillAir = false) (hst : stages (setXfrAt p 3 s) p = false)
    (hr : hostReady (setXfrAt p 3 s) p = true) : tokensOut p d s = tokensOutRecord p d (setXfrAt p 3 s) := by
  have h1 : xfrAt s p = 1 := (xfrAt_running he).trans hat
  simp [tokensOut, h1, hheld, he, hw, hair, xfrAt_setXfrAt he, hst, hr]

theorem tokensOut_recordIssued (he : (getStream s p 6).exec = some e) (hat : e.at_ = 7) (hheld : heldRecord p s = s)
    (hw : writesWait s p .record = false) : tokensOut p d s = cmdDone p 6 s := by
  have h7 : xfrAt s p = 7 := (xfrAt_running he).trans hat
  simp [tokensOut, recordIssued, h7, hheld, hw]

theorem tokensOutRows_rounded (h : (outSlots s p d).all (fun r => r.rounded) = true) :
    tokensOutRows p d s = setXfrAt p 1 (cntPart64 0x00110008 (outSlots s p d).length p
      (eachOf (List.range (outSlots s p d).length) (fun i x =>
        hostWrite p .output ((d64 d 32 + i * d32 d 40) % 2 ^ 64) ((outSlots s p d).getD i {}).out x) s)) := by
  have hnone : (outSlots s p d).any (fun r => !r.rounded) = false := by simpa using h
  simp only [tokensOutRows, hnone]
  rfl

-- COPY (R226, R227)

theorem copyStart_fromHost {td : Nat × Bytes} (hk : d8 d 26 = 0) (htd : useTd s p d 24 true copyable = .ok td) :
    copyStart p d s = hostRead p (d64 d 32) (tdBytes td.2) (fun o => .copyIn o) (updExec p 6 (fun e => { e with tds := [td] }) s) := by
  have hwrite : (d8 d 26 == 0) = true := by simpa using hk
  simp only [copyStart, hwrite, htd, if_pos hk]

theorem copyStart_inDevice {td dst : Nat × Bytes} (hk : 2 ≤ d8 d 26) (htd : useTd s p d 24 false copyable = .ok td)
    (hdst : useTd s p d 28 true (fun t => copyable t && tdType t == tdType td.2 && tdElems t == tdElems td.2) = .ok dst) :
    copyStart p d s = cmdDone p 6 (copyElems p td.2 dst.2 0 0 (tdElems td.2) (touchTd p 6 (dTag d) td.2 s)) := by
  have h0 : d8 d 26 ≠ 0 := by omega
  have h1 : d8 d 26 ≠ 1 := by omega
  have hread : (d8 d 26 == 0) = false := by simpa using h0
  simp only [copyStart, hread, htd, hdst, if_neg h0, if_neg h1]

/-- A command that is done does not go on. -/
theorem phase_of_cmdDone {st : StreamId} (h : (getStream (cmdDone p st s) p st).exec = some e) : e.phase = .done := by
  simp only [cmdDone, getStream_updExec_exec, Option.map_eq_some_iff] at h
  obtain ⟨_, _, rfl⟩ := h
  rfl

theorem exec_xfrCopy_inDevice {td dst : Nat × Bytes} (hx : (getStream s p 6).exec = none) (h : takeCmd p 6 0x7003 s = (some d, u))
    (hk : 2 ≤ d8 d 26) (htd : useTd u p d 24 false copyable = .ok td)
    (hdst : useTd u p d 28 true (fun t => copyable t && tdType t == tdType td.2 && tdElems t == tdElems td.2) = .ok dst) :
    exec (.xfrCopy p) s = .next (cmdDone p 6 (copyElems p td.2 dst.2 0 0 (tdElems td.2) (touchTd p 6 (dTag d) td.2 u))) := by
  change execXfrCopy p s = _
  simp only [execXfrCopy, runXfr_starts hx h, copyStart_inDevice hk htd hdst]
  split
  next e he => simp [phase_of_cmdDone he]
  next => rfl

theorem exec_xfrCopy_toHostIssued (he : (getStream s p 6).exec = some e) (hr : e.phase = .running) (ho : dOp e.desc = 0x7003)
    (hk : d8 e.desc 26 = 1) (hw : writesWait s p .copyOut = false) : exec (.xfrCopy p) s = .next (cmdDone p 6 s) := by
  change execXfrCopy p s = _
  simp [execXfrCopy, runXfr_goesOn he hr ho, copyMore, hk, hw]

-- LOAD_MODEL (R228 to R231)

theorem exec_xfrLoadModel_starts (hx : (getStream s p 6).exec = none) (h : takeCmd p 6 0x7010 s = (some d, u))
    (hj : (getPart u p).job.model = 0) :
    exec (.xfrLoadModel p) s =
      .next (hostRead p (d64 d 32) 384 (fun o => .manifest o) (updPart u p (fun q => { q with load := some {} }))) := by
  change execXfrLoadModel p s = _
  simp [execXfrLoadModel, runXfr_starts hx h, hj]

theorem exec_xfrLoadModel_goesOn (he : (getStream s p 6).exec = some e) (hr : e.phase = .running) (ho : dOp e.desc = 0x7010) :
    exec (.xfrLoadModel p) s = .next (loadReport p e.desc s) := by
  change execXfrLoadModel p s = _
  rw [execXfrLoadModel, runXfr_goesOn he hr ho]

/-- A load whose report has been issued ends: its handle stands in the counter the command names, and a load that failed faults. -/
def loadEnd (p : PartId) (d : Bytes) (x : Load) (s : State) : State :=
  let t := updStream (updPart s p (fun q => { q with load := none })) p 6
    (fun y => ctSet y (d8 d 48 % 8) (if x.code = 0 then x.handle else 0))
  if x.code = 0 then cmdDone p 6 t else cmdFail p 6 d { code := x.code, sub := x.sub, detail := x.detail } t

section
variable {x : Load} (hx : (getPart s p).load = some x)
include hx

theorem loadReport_reported (h5 : x.stage = 5) :
    loadReport p d s = if writesWait s p .report = true then s else loadEnd p d x s := by
  simp [loadReport, hx, h5, loadEnd]

theorem loadReport_writes (h4 : x.stage = 4) (hr : hostReady s p = true) {w : State}
    (hw : w = updPart (hostWrite p .report (d64 d 40) (reportBytes s x) s) p (fun q => { q with load := some { x with stage := 5 } })) :
    loadReport p d s = if writesWait w p .report = true then w else loadReport p d w := by
  have hl : (getPart w p).load = some { x with stage := 5 } := by simp [hw]
  rw [loadReport_reported hl rfl]
  cases hwait : writesWait w p .report <;> simp [loadReport, hx, h4, hr, ← hw, hl, hwait, loadEnd]

theorem loadReport_ends (h5 : x.stage = 5) (hw : writesWait s p .report = false) (hc : x.code = 0) :
    loadReport p d s =
      cmdDone p 6 (updStream (updPart s p (fun q => { q with load := none })) p 6 (fun y => ctSet y (d8 d 48 % 8) x.handle)) := by
  simp [loadReport_reported hx h5, hw, loadEnd, hc]

end

-- UNLOAD_MODEL (R232)

theorem exec_xfrUnloadModel_frees (hx : (getStream s p 6).exec = none) (h : takeCmd p 6 0x7011 s = (some d, u))
    (hm : modelOf (getPart u p) (d32 d 28) = some m) (hj : m.handle ≠ (getPart u p).job.model) (hp : placedHere u p m = false) :
    exec (.xfrUnloadModel p) s = .next (cmdDone p 6 (modelsChanged p
      (updPart (eachOf m.tds (fun e s => tdPut p e.1 (List.replicate 32 0) s) u) p (forgetModel m.handle)))) := by
  change execXfrUnloadModel p s = _
  simp [execXfrUnloadModel, runXfr_starts hx h, hm, hj, hp]

-- CONJ.STEP (R209 to R213)

theorem exec_conjStep_starts {ds : List DevId} {td : Nat × Bytes} (h : takeCmd p 2 0x8001 s = (some d, u))
    (hm : jobModel (getPart u p) = some m) (hds : conjParts u p m (d8 d 36) = some ds)
    (htd : useTd u p d 32 true (isClauseList (d16 d 26)) = .ok td) :
    exec (.conjStep p) s = .next (conjSettle p (conjAdvance p (startConj p d td.2 ds u))) := by
  change execConjStep p s = _
  simp only [execConjStep, runCmd_taken h, hm, hds, htd]

end

end Sys2Proof.Laws

namespace Sys2Proof.Proofs
open Sys2Proof Sys2Proof.Machine Sys2Proof.Laws

/-- Settles O23, clause by clause: a command starts when it is taken, goes on while it runs, and ends once nothing of it is owed. -/
theorem transferCommands : Obligations.TransferCommands := by
  intro s
  refine ⟨fun p d u m hx h hm hrun => ?takesSlots, fun p e m he hr ho hm hall hrows hd => ?rowsIn, fun _ _ _ _ _ => rfl,
    fun p e he hr ho hat hheld hw hair hst hready => ?record, fun p e he hr ho hat hheld hw => ?recordIssued,
    fun _ _ h => tokensOutRows_rounded h, fun _ _ _ _ _ hx h hk htd hdst => exec_xfrCopy_inDevice hx h hk htd hdst,
    fun _ _ _ _ _ _ hk htd => copyStart_fromHost hk htd, fun _ _ he hr ho hk hw => exec_xfrCopy_toHostIssued he hr ho hk hw,
    fun _ _ _ hx h hj => exec_xfrLoadModel_starts hx h hj, fun p e x he hr ho hx h4 hready => ⟨_, rfl, ?report⟩,
    fun _ _ _ hx h5 hw hc => loadReport_ends hx h5 hw hc, fun _ _ _ _ hx h hm hj hp => exec_xfrUnloadModel_frees hx h hm hj hp,
    fun _ _ _ _ _ _ h hm hds htd => exec_conjStep_starts h hm hds htd⟩
  case takesSlots => rw [exec_xfrTokensIn, runXfr_starts hx h, tokensIn_takes hm hrun]
  case rowsIn => rw [exec_xfrTokensIn, runXfr_goesOn he hr ho, tokensIn_arrived he hm hall hrows hd]
  case record => rw [exec_xfrTokensOut, runXfr_goesOn he hr ho, tokensOut_record he hat hheld hw hair hst hready]
  case recordIssued => rw [exec_xfrTokensOut, runXfr_goesOn he hr ho, tokensOut_recordIssued he hat hheld hw]
  case report => rw [exec_xfrLoadModel_goesOn he hr ho, loadReport_writes hx h4 hready rfl]

end Sys2Proof.Proofs
end

section
/-!
SUPPORT. What a command leaves of the cores, the pair role, Dual-Line, BIST and processor debug: the statement
CoresAndRolesFrame.
-/
namespace Sys2Proof.Laws
open Sys2Proof Sys2Proof.Machine Sys2Proof.Safety

/-- Where no error stands in SRAM, a command that does not act on clusters or roles leaves them alone: one arm for each of
them, as in `exec`. A SEQ.EXPERT row and a pass end do so only where the ECC finds nothing in the words they read. -/
theorem exec_roles {s0 s : State} (hk : Roles s0 s) (c : Instr) (hc : mayChangeCores c = false) : RolesO s0 (exec c s) := by
  cases c with
  | rcRegisterRead r a len => exact execRcRegisterRead_roles r a len s hk
  | lowHalfRead r off => exact execLowHalfRead_roles r off s hk
  | highHalfRead r off => exact execHighHalfRead_roles r off s hk
  | coldResetRelease => exact execColdResetRelease_roles s hk
  | warmResetComplete => exact execWarmResetComplete_roles s hk
  | partitionResetComplete p => exact execPartitionResetComplete_roles p s hk
  | perstRelease k => exact execPerstRelease_roles k s hk
  | functionReady k => exact execFunctionReady_roles k s hk
  | romBankChoice => exact execRomBankChoice_roles s hk
  | portRetrainDone k gen width => exact execPortRetrainDone_roles k gen width s hk
  | groupSyncLineHigh => exact execGroupSyncLineHigh_roles s hk
  | linkTrainEnd => exact execLinkTrainEnd_roles s hk
  | linkTrainTimeout => exact execLinkTrainTimeout_roles s hk
  | thermalTrip sensor value => exact execThermalTrip_roles sensor value s hk
  | fallbackAlertStep => exact execFallbackAlertStep_roles s hk
  | mgtWdtRefresh r v => exact execMgtWdtRefresh_roles r v s hk
  | timeMessageSend => exact execTimeMessageSend_roles s hk
  | timeMessageReceive l dt sysOffset epoch master fabricCount table ref =>
    exact execTimeMessageReceive_roles l dt sysOffset epoch master fabricCount table ref s hk
  | timeRefLock => exact execTimeRefLock_roles s hk
  | ppsInEdge => exact execPpsInEdge_roles s hk
  | ppsOutEdge => exact execPpsOutEdge_roles s hk
  | ptpEventMessage pl e => exact execPtpEventMessage_roles pl e s hk
  | sysSyncLoss => exact execSysSyncLoss_roles s hk
  | ptpPortMove => exact execPtpPortMove_roles s hk
  | cfgStageOpen r v => exact execCfgStageOpen_roles r v s hk
  | cfgStageSeal r v => exact execCfgStageSeal_roles r v s hk
  | checkerDone => exact execCheckerDone_roles s hk
  | cfgStageStart r v => exact execCfgStageStart_roles r v s hk
  | cfgStageAbort r v => exact execCfgStageAbort_roles r v s hk
  | voteRequestReceive src epoch head digest => exact execVoteRequestReceive_roles src epoch head digest s hk
  | voteReceive src epoch id yes reason => exact execVoteReceive_roles src epoch id yes reason s hk
  | voteDeadline => exact execVoteDeadline_roles s hk
  | announcementReceive src epoch head => exact execAnnouncementReceive_roles src epoch head s hk
  | fencedQuery => exact execFencedQuery_roles s hk
  | bar2Write r off data ep => exact execBar2Write_roles r off data ep s hk
  | bar4Read r off len ecc => exact execBar4Read_roles r off len ecc s hk
  | bar4Write r off data ep ecc => exact execBar4Write_roles r off data ep ecc s hk
  | pmPmeTransmit k => exact execPmPmeTransmit_roles k s hk
  | pmPmeRetransmit k => exact execPmPmeRetransmit_roles k s hk
  | aspmL1Entry k => exact execAspmL1Entry_roles k s hk
  | pmeTurnOff k => exact execPmeTurnOff_roles k s hk
  | msixUnmask k v => exact execMsixUnmask_roles k v s hk
  | ringTailWrite r st v => exact execRingTailWrite_roles r st v s hk
  | ringCtlWrite r st v => exact execRingCtlWrite_roles r st v s hk
  | ringFetchComplete p st => exact execRingFetchComplete_roles p st s hk
  | sycHostAdd r idx v => exact execSycHostAdd_roles r idx v s hk
  | nop p st => exact execNop_roles p st s hk
  | jobBegin p st => exact execJobBegin_roles p st s hk
  | jobEnd p st => exact execJobEnd_roles p st s hk
  | ctSet p st => exact execCtSet_roles p st s hk
  | ctAdd p st => exact execCtAdd_roles p st s hk
  | cmpSkip p st => exact execCmpSkip_roles p st s hk
  | cmpBranch p st => exact execCmpBranch_roles p st s hk
  | sycWait p st => exact execSycWait_roles p st s hk
  | sycSet p st => exact execSycSet_roles p st s hk
  | tdSet p st => exact execTdSet_roles p st s hk
  | prgRun p st => exact execPrgRun_roles p st s hk
  | prgEnd p st => exact execPrgEnd_roles p st s hk
  | rteSelect p => exact execRteSelect_roles p s hk
  | tokenSelectionCommit p pos => exact execTokenSelectionCommit_roles p pos s hk
  | rtePropose p => exact execRtePropose_roles p s hk
  | rteAssign p => exact execRteAssign_roles p s hk
  | srtBucket p => exact execSrtBucket_roles p s hk
  | dspGather p => exact execDspGather_roles p s hk
  | seqExpert p ecc => cases ecc with
    | nil => exact execSeqExpert_roles p s hk
    | cons => cases hc
  | cmbAccum p => exact execCmbAccum_roles p s hk
  | cmbFinal p => exact execCmbFinal_roles p s hk
  | colCommCreate p => exact execColCommCreate_roles p s hk
  | colCommDestroy p => exact execColCommDestroy_roles p s hk
  | colAllreduce p => exact execColAllreduce_roles p s hk
  | colAllgather p => exact execColAllgather_roles p s hk
  | colReducescatter p => exact execColReducescatter_roles p s hk
  | colBroadcast p => exact execColBroadcast_roles p s hk
  | colBarrier p => exact execColBarrier_roles p s hk
  | colAlltoallv p => exact execColAlltoallv_roles p s hk
  | colBallotMerge p => exact execColBallotMerge_roles p s hk
  | xfrTokensIn p => exact execXfrTokensIn_roles p s hk
  | xfrCopy p => exact execXfrCopy_roles p s hk
  | xfrLoadModel p => exact execXfrLoadModel_roles p s hk
  | xfrUnloadModel p => exact execXfrUnloadModel_roles p s hk
  | conjStep p => exact execConjStep_roles p s hk
  | sycWaitTimeout p st => exact execSycWaitTimeout_roles p st s hk
  | passStart p expert => exact execPassStart_roles p expert s hk
  | passEnd p ecc => cases ecc with
    | nil => exact execPassEnd_roles p s hk
    | cons => cases hc
  | reissuePassTimer p expert => exact execReissuePassTimer_roles p expert s hk
  | shadowScoreDone p pos => exact execShadowScoreDone_roles p pos s hk
  | rowReceive src path pkt => exact execRowReceive_roles src path pkt s hk
  | resultReceive src path pkt => exact execResultReceive_roles src path pkt s hk
  | verdictReceive src path pkt => exact execVerdictReceive_roles src path pkt s hk
  | closeReceive src path pkt => exact execCloseReceive_roles src path pkt s hk
  | dropReceive src path pkt => exact execDropReceive_roles src path pkt s hk
  | refuseReceive src path pkt => exact execRefuseReceive_roles src path pkt s hk
  | stepClosureProbe p => exact execStepClosureProbe_roles p s hk
  | teardownServeEnd p => exact execTeardownServeEnd_roles p s hk
  | deadlineCheckpoint p dispatch => exact execDeadlineCheckpoint_roles p dispatch s hk
  | regulatorWindowRefill => exact execRegulatorWindowRefill_roles s hk
  | requestAging p => exact execRequestAging_roles p s hk
  | brlSignalDetect l => exact execBrlSignalDetect_roles l s hk
  | brlEqualizeDone l => exact execBrlEqualizeDone_roles l s hk
  | nakRepeat l => exact execNakRepeat_roles l s hk
  | ackTimer l => exact execAckTimer_roles l s hk
  | timeFlitReceive l farDt farRx => exact execTimeFlitReceive_roles l farDt farRx s hk
  | bondAdvertisementSend => exact execBondAdvertisementSend_roles s hk
  | bondAdvertisementReceive l a => exact execBondAdvertisementReceive_roles l a s hk
  | brlIdleTimer l => exact execBrlIdleTimer_roles l s hk
  | sleepReqReceive l => exact execSleepReqReceive_roles l s hk
  | wakePattern l => exact execWakePattern_roles l s hk
  | brlDormant r l v => exact execBrlDormant_roles r l v s hk
  | brlWake r l v => exact execBrlWake_roles r l v s hk
  | tthAlignDone pl => exact execTthAlignDone_roles pl s hk
  | mkaSecured pl peerPriority xpn => exact execMkaSecured_roles pl peerPriority xpn s hk
  | tthTrainTimeout pl => exact execTthTrainTimeout_roles pl s hk
  | tthFault pl => exact execTthFault_roles pl s hk
  | tthDownRetry pl => exact execTthDownRetry_roles pl s hk
  | mkaPeerLoss pl => exact execMkaPeerLoss_roles pl s hk
  | macsecRekey pl => exact execMacsecRekey_roles pl s hk
  | tthRetrain r pl v => exact execTthRetrain_roles r pl v s hk
  | tthDormant r pl v => exact execTthDormant_roles r pl v s hk
  | tthWake r pl v => exact execTthWake_roles r pl v s hk
  | tthDataReceive pl fr dgram => exact execTthDataReceive_roles pl fr dgram s hk
  | tthAckReceive pl fr dgram => exact execTthAckReceive_roles pl fr dgram s hk
  | tthHelloReceive pl fr dgram => exact execTthHelloReceive_roles pl fr dgram s hk
  | tthHelloAckReceive pl fr dgram => exact execTthHelloAckReceive_roles pl fr dgram s hk
  | closeCtxReceive pl fr dgram => exact execCloseCtxReceive_roles pl fr dgram s hk
  | helloRetry ctx => exact execHelloRetry_roles ctx s hk
  | tthAckTimer ctx => exact execTthAckTimer_roles ctx s hk
  | rtoExpiry ctx => exact execRtoExpiry_roles ctx s hk
  | contextIdleClose ctx => exact execContextIdleClose_roles ctx s hk
  | tthRetxExhaust ctx => exact execTthRetxExhaust_roles ctx s hk
  | failedPlaneProbe pl peer part => exact execFailedPlaneProbe_roles pl peer part s hk
  | arpNdRequest pl frame asker target => exact execArpNdRequest_roles pl frame asker target s hk
  | neighbourRefresh pl addr => exact execNeighbourRefresh_roles pl addr s hk
  | icmpEchoRequest pl frame asker ident => exact execIcmpEchoRequest_roles pl frame asker ident s hk
  | pauseFrameReceive pl => exact execPauseFrameReceive_roles pl s hk
  | colDataReceive src path pkt ops => exact execColDataReceive_roles src path pkt ops s hk
  | colAckReceive src path pkt => exact execColAckReceive_roles src path pkt s hk
  | colNackReceive src path pkt => exact execColNackReceive_roles src path pkt s hk
  | joinReceive src path pkt => exact execJoinReceive_roles src path pkt s hk
  | readyReceive src path pkt => exact execReadyReceive_roles src path pkt s hk
  | colAbortReceive src path pkt => exact execColAbortReceive_roles src path pkt s hk
  | colProbeReceive src path pkt => exact execColProbeReceive_roles src path pkt s hk
  | colProbeAckReceive src path pkt => exact execColProbeAckReceive_roles src path pkt s hk
  | colProbeTimer p => exact execColProbeTimer_roles p s hk
  | colProbeTimeout p dev => exact execColProbeTimeout_roles p dev s hk
  | commCreateTimeout p => exact execCommCreateTimeout_roles p s hk
  | colCommandTimeout p => exact execColCommandTimeout_roles p s hk
  | reducerSlotGrant => exact execReducerSlotGrant_roles s hk
  | patrolScrubRead gran result => exact execPatrolScrubRead_roles gran result s hk
  | errHeadWrite r v => exact execErrHeadWrite_roles r v s hk
  | pairHelloSend => exact execPairHelloSend_roles s hk
  | heartbeatSnapshot p => exact execHeartbeatSnapshot_roles p s hk
  | pairProbeReceive pl msg => exact execPairProbeReceive_roles pl msg s hk
  | witnessQReceive pl src msg => exact execWitnessQReceive_roles pl src msg s hk
  | setPstate r v => exact execSetPstate_roles r v s hk
  | pstateRampDone => exact execPstateRampDone_roles s hk
  | railReadbackSample mv => exact execRailReadbackSample_roles mv s hk
  | sensorSample temps => exact execSensorSample_roles temps s hk
  | hbmTempReport stack temp => exact execHbmTempReport_roles stack temp s hk
  | powerEstimate watts => exact execPowerEstimate_roles watts s hk
  | pwrLimitWWrite r v => exact execPwrLimitWWrite_roles r v s hk
  | pwrCloseUsWrite r v => exact execPwrCloseUsWrite_roles r v s hk
  | clusterNoticeTimer => exact execClusterNoticeTimer_roles s hk
  | clusterNoticeReceive notice => exact execClusterNoticeReceive_roles notice s hk
  | quietExit r v => exact execQuietExit_roles r v s hk
  | authLockoutEnd => exact execAuthLockoutEnd_roles s hk
  | spdmGetCertificate bd slot off len => exact execSpdmGetCertificate_roles bd slot off len s hk
  | spdmChallenge bd slot nonce => exact execSpdmChallenge_roles bd slot nonce s hk
  | spdmGetMeasurements bd op nonce => exact execSpdmGetMeasurements_roles bd op nonce s hk
  | spdmKeyExchange bd share => exact execSpdmKeyExchange_roles bd share s hk
  | spdmKeyUpdate bd session => exact execSpdmKeyUpdate_roles bd session s hk
  | spdmHeartbeat bd session => exact execSpdmHeartbeat_roles bd session s hk
  | ideKmQuery bd session port => exact execIdeKmQuery_roles bd session port s hk
  | ideKmKeyProg bd session port stream set key => exact execIdeKmKeyProg_roles bd session port stream set key s hk
  | ideKmKSetStop bd session port stream set => exact execIdeKmKSetStop_roles bd session port stream set s hk
  | brlRekey l => exact execBrlRekey_roles l s hk
  | jtagInstruction ir => exact execJtagInstruction_roles ir s hk
  | entropyTestFail test => exact execEntropyTestFail_roles test s hk
  | mgtEventHeadWrite r v => exact execMgtEventHeadWrite_roles r v s hk
  | mgtMsgCtlSend r v => exact execMgtMsgCtlSend_roles r v s hk
  | policyMessageTimeout => exact execPolicyMessageTimeout_roles s hk
  | read32 bd addr count => exact execRead32_roles bd addr count s hk
  | logRead bd sector off len => exact execLogRead_roles bd sector off len s hk
  | policyMessage bd cmd body => exact execPolicyMessage_roles bd cmd body s hk
  | setEndpointId bd op eid => exact execSetEndpointId_roles bd op eid s hk
  | smbusTimeout => exact execSmbusTimeout_roles s hk
  | tripLatchRead => exact execTripLatchRead_roles s hk
  | setEventReceiver bd enable => exact execSetEventReceiver_roles bd enable s hk
  | getSensorReading bd sensor => exact execGetSensorReading_roles bd sensor s hk
  | sensorEventTimer sensor => exact execSensorEventTimer_roles sensor s hk
  | requestUpdate bd maxSize count => exact execRequestUpdate_roles bd maxSize count s hk
  | passComponentTable bd cls ident stamp => exact execPassComponentTable_roles bd cls ident stamp s hk
  | updateComponent bd cls ident size => exact execUpdateComponent_roles bd cls ident size s hk
  | bankEraseDone => exact execBankEraseDone_roles s hk
  | firmwareDataReceive bd off data => exact execFirmwareDataReceive_roles bd off data s hk
  | transferComplete => exact execTransferComplete_roles s hk
  | verifyComplete => exact execVerifyComplete_roles s hk
  | applyComplete => exact execApplyComplete_roles s hk
  | cancelUpdate bd => exact execCancelUpdate_roles bd s hk
  | activateFirmware bd => exact execActivateFirmware_roles bd s hk
  | dbgTraceCtlWrite r v => exact execDbgTraceCtlWrite_roles r v s hk
  | traceRecordDrain p => exact execTraceRecordDrain_roles p s hk
  | dbgTraceRdWrite r v => exact execDbgTraceRdWrite_roles r v s hk
  | dbgMark r v => exact execDbgMark_roles r v s hk
  | cntSnapTake r v => exact execCntSnapTake_roles r v s hk
  | cntSnapRelease r v => exact execCntSnapRelease_roles r v s hk
  | timeRefLoss => exact execTimeRefLoss_roles s hk
  | hostLinkUp k gen width flit reversed => exact execHostLinkUp_roles k gen width flit reversed s hk
  | mgtWakeReqWrite r v => exact execMgtWakeReqWrite_roles r v s hk
  | arpNdReplyReceive pl frame addr mac => exact execArpNdReplyReceive_roles pl frame addr mac s hk
  | neighbourResolutionRetry pl addr => exact execNeighbourResolutionRetry_roles pl addr s hk
  | spdmEndSession bd session => exact execSpdmEndSession_roles bd session s hk
  | firmwareDataRetry => exact execFirmwareDataRetry_roles s hk
  | smbusArbitrationRetry => exact execSmbusArbitrationRetry_roles s hk
  | _ => cases hc

end Sys2Proof.Laws

namespace Sys2Proof.Proofs
open Sys2Proof Sys2Proof.Machine Sys2Proof.Laws

/-- Settles O59: `Roles` holds of a state and itself, and each command outside the list keeps it. -/
theorem coresAndRolesFrame : Obligations.CoresAndRolesFrame := by
  intro c s t hs hc h
  have hk := exec_roles (.refl s) c hc
  rw [h] at hk
  obtain ⟨-, hclusters, hpair, hdual, hbist, hmp⟩ := hk
  exact ⟨hclusters hs, hpair hs, hdual hs, hbist hs, hmp hs⟩

end Sys2Proof.Proofs
end

section
/-!
SUPPORT. The reading of byte strings and clause tags, data-plane packets from their arrival to their effect, and the contributions of
the combine: the statements TagsAndPacketsReadBack, PacketsArriveInFlowOrder and AContributionCountsOnce.
-/
namespace Sys2Proof.Laws
open Sys2Proof Sys2Proof.Machine Sys2Proof.Safety

-- Little-endian fields of byte strings (R7)

@[simp] theorem length_toLe (n v : Nat) : (toLe n v).length = n := by
  induction n generalizing v with
  | zero => rfl
  | succ n ih => simp [toLe, ih]

@[simp] theorem leNat_toLe (n v : Nat) : leNat (toLe n v) = v % 256 ^ n := by
  induction n generalizing v with
  | zero => simp [toLe, leNat, Nat.mod_one]
  | succ n ih => simp [toLe, leNat, ih, Nat.pow_succ', Nat.mod_mul]

/-- A field that starts past the first part of a string is one of the second part. -/
theorem leAt_append_right {a : Bytes} {off : Nat} (h : a.length ≤ off) (b : Bytes) (n : Nat) :
    leAt (a ++ b) off n = leAt b (off - a.length) n := by
  refine congrArg leNat (List.map_congr_left fun i _ => ?_)
  rw [List.getD_eq_getElem?_getD, List.getD_eq_getElem?_getD, List.getElem?_append_right (by omega), Nat.sub_add_comm h]

theorem bytesAt_append_self (a b : Bytes) : bytesAt (a ++ b) 0 a.length = a := by
  refine List.ext_getElem (by simp [bytesAt]) fun i _ hi => ?_
  simp [bytesAt, List.getElem?_append_left hi, hi]

/-- The field at the front of a string is the number it was made of. -/
@[simp] theorem leAt_toLe_append (n v : Nat) (b : Bytes) : leAt (toLe n v ++ b) 0 n = v % 256 ^ n := by
  have h := bytesAt_append_self (toLe n v) b
  rw [length_toLe] at h
  rw [leAt, h, leNat_toLe]

/-- A field behind the field at the front of a string. -/
@[simp] theorem leAt_toLe_append_of_le {m off : Nat} (h : m ≤ off) (v : Nat) (b : Bytes) (n : Nat) :
    leAt (toLe m v ++ b) off n = leAt b (off - m) n := by
  simpa using leAt_append_right (a := toLe m v) (by simpa using h) b n

theorem b2n_lt (b : Bool) : b2n b < 2 := by cases b <;> decide

theorem b2n_beq_one (b : Bool) : (b2n b == 1) = b := by cases b <;> rfl

theorem crc32c_lt (b : Bytes) : crc32c b < 2 ^ 32 := BitVec.isLt _

-- Clause tags (R310, R311)

theorem tagChk_lt (t : Nat) : tagChk t < 2 ^ 8 := by
  unfold tagChk
  repeat' apply Nat.xor_lt_two_pow
  all_goals omega

/-- The check byte is made of bytes 1 to 7 alone. -/
theorem tagChk_congr {t u : Nat} (h : t / 2 ^ 8 = u / 2 ^ 8) : tagChk t = tagChk u := by
  have hdiv (n : Nat) : t / 2 ^ (8 + n) = u / 2 ^ (8 + n) := by
    rw [Nat.pow_add, ← Nat.div_div_eq_div_mul, ← Nat.div_div_eq_div_mul, h]
  simp only [tagChk, h, hdiv 8, hdiv 16, hdiv 24, hdiv 32, hdiv 40, hdiv 48]

/-- A number whose byte 0 is zero passes its check once the check byte is added. -/
theorem tagOk_add_tagChk {t : Nat} (h : t % 2 ^ 8 = 0) : tagOk (t + tagChk t) = true := by
  have hc := tagChk_lt t
  have hchk : tagChk (t + tagChk t) = tagChk t := tagChk_congr (by omega)
  simp only [tagOk, hchk, beq_iff_eq]
  omega

/-- The fields of a tag in their places, over a check byte of 0 (R310). -/
def tagBody (dev slot rank epoch part : Nat) (spec : Bool) (layer : Nat) : Nat :=
  dev * 2 ^ 50 + slot * 2 ^ 34 + rank * 2 ^ 30 + epoch * 2 ^ 24 + part * 2 ^ 21 + b2n spec * 2 ^ 20 + layer * 2 ^ 8

theorem tagBody_mod (dev slot rank epoch part : Nat) (spec : Bool) (layer : Nat) :
    tagBody dev slot rank epoch part spec layer % 2 ^ 8 = 0 := by
  unfold tagBody
  omega

section
variable {dev slot rank epoch part layer : Nat} (hdev : dev < 2 ^ 14) (hslot : slot < 2 ^ 16) (hrank : rank < 2 ^ 4)
  (hepoch : epoch < 2 ^ 6) (hpart : part < 2 ^ 3) (hlayer : layer < 2 ^ 12)
include hdev hslot hrank hepoch hpart hlayer

theorem mkTag_eq_tagBody_add (spec : Bool) : mkTag dev slot rank epoch part spec layer =
    tagBody dev slot rank epoch part spec layer + tagChk (tagBody dev slot rank epoch part spec layer) := by
  have hrank' : rank % 16 = rank := Nat.mod_eq_of_lt hrank
  have hepoch' : epoch % 64 = epoch := Nat.mod_eq_of_lt hepoch
  have hpart' : part % 8 = part := Nat.mod_eq_of_lt hpart
  simp only [mkTag, Nat.mod_eq_of_lt hdev, Nat.mod_eq_of_lt hslot, hrank', hepoch', hpart', Nat.mod_eq_of_lt hlayer, packBits,
    tagBody, List.foldl, Nat.zero_add]

/-- Every field is read back from its place, whatever the check byte. -/
theorem tagBody_add_fields (spec : Bool) {c t : Nat} (hc : c < 2 ^ 8) (ht : t = tagBody dev slot rank epoch part spec layer + c) :
    tagDev t = dev ∧ tagSlot t = slot ∧ tagRank t = rank ∧ tagEpoch t = epoch ∧ tagPart t = part ∧ tagSpec t = spec ∧
      tagLayer t = layer ∧ t < 2 ^ 64 := by
  have hs := b2n_lt spec
  have hbit : t / 2 ^ 20 % 2 = b2n spec := by rw [ht, tagBody]; omega
  have hspec : tagSpec t = spec := by rw [tagSpec, bitOf, hbit, b2n_beq_one]
  simp only [hspec, tagDev, tagSlot, tagRank, tagEpoch, tagPart, tagLayer, bitsOf, true_and]
  rw [ht, tagBody]
  omega

end

-- Data-plane packets in the bytes they travel in (R312, R314)

theorem length_packetHead (k : Packet) : (packetHead k).length = 60 := by simp [packetHead]

theorem packetBytes_eq (k : Packet) :
    packetBytes k = k.payload ++ (packetHead k ++ toLe 4 (crc32c (k.payload ++ packetHead k))) :=
  List.append_assoc ..

theorem length_packetBytes (k : Packet) : (packetBytes k).length = k.payload.length + 64 := by
  simp [packetBytes_eq, length_packetHead]

/-- What the CRC of a packet covers: all but its last 4 bytes. -/
theorem take_packetBytes (k : Packet) : (packetBytes k).take (k.payload.length + 60) = k.payload ++ packetHead k :=
  List.take_left' (by rw [List.length_append, length_packetHead])

/-- The CRC of a packet stands behind its header. -/
theorem leAt_packetHead_crc (k : Packet) (b : Bytes) : leAt (packetHead k ++ toLe 4 (crc32c b)) 60 4 = crc32c b := by
  have hcrc : leAt (toLe 4 (crc32c b)) 0 4 = crc32c b % 2 ^ 32 := by simpa using leAt_toLe_append 4 (crc32c b) []
  rw [leAt_append_right (Nat.le_of_eq (length_packetHead k)), length_packetHead, hcrc, Nat.mod_eq_of_lt (crc32c_lt b)]

/-- KIND, POISON and REISSUE share a byte. -/
theorem packetFlags_fields {kind f : Nat} (hkind : kind < 16) (poison reissue : Bool)
    (hf : f = kind + 16 * b2n poison + 32 * b2n reissue) : f < 256 ∧ f % 16 = kind ∧ bitOf f 4 = poison ∧ bitOf f 5 = reissue := by
  have hp := b2n_lt poison
  have hr := b2n_lt reissue
  have h4 : f / 2 ^ 4 % 2 = b2n poison := by omega
  have h5 : f / 2 ^ 5 % 2 = b2n reissue := by omega
  exact ⟨by omega, by omega, by rw [bitOf, h4, b2n_beq_one], by rw [bitOf, h5, b2n_beq_one]⟩

/-- The layout of R312: each field of a header that fits its place is read back from there. -/
theorem packetHead_fields {k : Packet} (h : PacketFits k) (b : Bytes) :
    leAt (packetHead k ++ b) 0 8 = k.tag ∧ leAt (packetHead k ++ b) 8 1 = k.kind + 16 * b2n k.poison + 32 * b2n k.reissue ∧
    leAt (packetHead k ++ b) 9 1 = k.cfgEpoch ∧ leAt (packetHead k ++ b) 10 2 = k.dst ∧ leAt (packetHead k ++ b) 12 1 = k.cluster ∧
    leAt (packetHead k ++ b) 13 1 = k.reason ∧ leAt (packetHead k ++ b) 14 2 = k.expert ∧
    leAt (packetHead k ++ b) 16 2 = k.partEpoch ∧ leAt (packetHead k ++ b) 18 2 = k.slotGen ∧
    leAt (packetHead k ++ b) 20 4 = k.payload.length ∧ leAt (packetHead k ++ b) 24 4 = k.flowSeq ∧
    leAt (packetHead k ++ b) 28 2 = k.step ∧ leAt (packetHead k ++ b) 30 1 = k.comm ∧ leAt (packetHead k ++ b) 32 4 = k.weight ∧
    leAt (packetHead k ++ b) 36 4 = k.key ∧ leAt (packetHead k ++ b) 40 4 = k.count := by
  obtain ⟨htag, -, hkind, hepoch, hdst, hcluster, hreason, hexpert, hpart, hgen, hseq, hstep, hcomm, hweight, hkey, hcount, hlen⟩ := h
  obtain ⟨hflags, -⟩ := packetFlags_fields hkind k.poison k.reissue rfl
  have hdst := Nat.mod_eq_of_lt (b := 65536) (Nat.lt_trans hdst (by decide))
  simp [packetHead, hdst]
  omega

theorem parsePacket_packetBytes {k : Packet} (h : PacketFits k) : parsePacket (packetBytes k) = some k := by
  obtain ⟨tag, flags, epoch, dst, cluster, reason, expert, part, gen, length, seq, step, comm, weight, key, count⟩ :=
    packetHead_fields h (toLe 4 (crc32c (k.payload ++ packetHead k)))
  obtain ⟨-, hok, hkind, hepoch, hdst, hcluster, -⟩ := h
  obtain ⟨-, kind, poison, reissue⟩ := packetFlags_fields hkind k.poison k.reissue rfl
  have hlong : ¬ (packetBytes k).length < 64 := by rw [length_packetBytes]; omega
  have hn : (packetBytes k).length - 64 = k.payload.length := by rw [length_packetBytes]; omega
  have hcover : (packetBytes k).length - 4 = k.payload.length + 60 := by rw [length_packetBytes]; omega
  rw [parsePacket, if_neg hlong]
  simp only [hn, hcover, take_packetBytes]
  rw [packetBytes_eq, List.drop_left, List.take_left]
  have hdst := Nat.mod_eq_of_lt (b := 16384) hdst
  simp [*, leAt_packetHead_crc, Nat.mod_eq_of_lt]

-- The contributions of the combine (R324, R325, R327)

/-- A counter of a partition is none of its slots. -/
theorem getPart_cntPart_slots (off n : Nat) (p : PartId) (s : State) :
    (getPart (cntPart off n p s) p).slots = (getPart s p).slots := by
  simp [cntPart]

section
variable {s : State} {p : PartId} {tag e g : Nat} {r : Slot} (hr : r = getSlot s p (tagSlot tag))
include hr

theorem contribute_late (h : e ≠ (getPart s p).epoch ∨ r.held = false ∨ r.active = false ∨ r.gen ≠ g ∨ r.epoch ≠ tagEpoch tag ∨
      r.layer ≠ tagLayer tag ∨ r.expected ≤ tagRank tag) (y : Option (List Nat)) (poison home : Bool) :
    contribute p tag e g y poison home s = cntPart 0x000F0014 1 p s := by
  subst hr
  exact if_pos (by simpa using h)

theorem contribute_duplicate (h : e = (getPart s p).epoch ∧ r.held = true ∧ r.active = true ∧ r.gen = g ∧ r.epoch = tagEpoch tag ∧
      r.layer = tagLayer tag ∧ tagRank tag < r.expected) (hseen : bitOf r.seen (tagRank tag) = true)
    (y : Option (List Nat)) (poison home : Bool) :
    contribute p tag e g y poison home s = cntPart 0x000F0010 1 p s := by
  subst hr
  obtain ⟨hepoch, hheld, hactive, hgen, hstep, hlayer, hrank⟩ := h
  simp [contribute, hepoch, hheld, hactive, hgen, hstep, hlayer, hseen, Nat.not_le.mpr hrank]

end

theorem roundSlot_of_not_due {s : State} {p : PartId} {i : Nat}
    (h : (getSlot s p i).rounded = true ∨ (getSlot s p i).active = false ∨ (unseen (getSlot s p i)).isSome = true) :
    roundSlot p i s = s :=
  if_pos (by simpa [or_assoc] using h)

-- The arrival of a packet (R314, R315)

/-- The row of the command table that names the packet's KIND takes it. -/
theorem exec_receive_taken {c : Instr} {s u : State} {src : DevId} {path : Path} {b : Bytes} {kinds : Nat → Bool}
    (hc : exec c s = arriveKind src path false kinds b u) (hready : u.boot.state = .ready)
    (hkind : kinds (rawPacket b).kind = true) : exec c s = .next (arrive src path false b u) := by
  have hkind' : kinds (kindOf false b) = true := hkind
  simp [hc, arriveKind, hready, hkind']

section
variable {s u : State} {path : Path} {b : Bytes} {k : Packet} (hu : u = arriveMeets path (flowPartOf false b) s)
include hu

theorem arrive_refuse (hb : parsePacket b = some k) (hk : k.kind = 6) (src : DevId) :
    arrive src path false b s =
      drainPart (flowPartOf false b) (takeRefuse src (flowPartOf false b) k (leavePool src path b u)) := by
  subst hu
  simp [arrive, hb, hk]

theorem arrive_sound (hb : parsePacket b = some k) (hk : k.kind ≠ 6) (src : DevId) :
    arrive src path false b s = takeTurn src path false (flowPartOf false b) b u := by
  subst hu
  simp [arrive, hb, hk]

theorem arrive_damaged (hb : parsePacket b = none) (hk : (rawPacket b).kind ≠ 6) (src : DevId) :
    arrive src path false b s = drainPart (flowPartOf false b) (passOver src path (flowPartOf false b) (rawPacket b).flowSeq
      (takeBad src (flowPartOf false b) b (leavePool src path b u))) := by
  subst hu
  simp [arrive, hb, arriveBad, hk]

end

section
variable {s : State} {src : DevId} {isPiece : Bool} {p : PartId} {b : Bytes}

theorem takeTurn_fresh (h : seqSeen s src p (flowSeqOf isPiece b) = false) (path : Path) :
    takeTurn src path isPiece p b s =
      drainPart p (holdPacket src path isPiece p (flowSeqOf isPiece b) b (seeRise src p isPiece (flowSeqOf isPiece b) b s)) :=
  if_neg (by simp [h])

theorem takeTurn_seen (h : seqSeen s src p (flowSeqOf isPiece b) = true) (path : Path) :
    takeTurn src path isPiece p b s = cntBridle 0x00150420 1 (leavePool src path b s) :=
  if_pos h

end

theorem takeBad_notResult {b : Bytes} (h : (rawPacket b).kind ≠ 2) (src : DevId) (p : PartId) (s : State) :
    takeBad src p b s = cntPart 0x000D0020 1 p (sendRefuse src p 1 (rawPacket b) s) :=
  if_neg fun hk => h hk.1

-- The order of a flow (R315, R350)

section
variable {s : State} {d : DevId} {p : PartId}

theorem drainFlow_missing (h : (getFlow s d p.val).rxHeld.find? (fun e => e.seq == (getFlow s d p.val).rxNext) = none) (n : Nat) :
    drainFlow d p (n + 1) s = s := by
  rw [drainFlow, h]

theorem drainFlow_next {e : HeldPkt} {t : State}
    (h : (getFlow s d p.val).rxHeld.find? (fun e => e.seq == (getFlow s d p.val).rxNext) = some e)
    (ht : t = updFlow d p.val (fun f => { f with rxNext := wrapAdd 32 f.rxNext 1, rxHeld := f.rxHeld.filter (fun x => x.seq != e.seq) }) s)
    (n : Nat) :
    drainFlow d p (n + 1) s =
      drainFlow d p n (if e.bytes.isEmpty = true then t else markMoved p e (deliverHeld d p e.path e.piece e.dt e.bytes t)) := by
  rw [drainFlow, h, ht]

end

-- A packet in its turn (R120, R311 to R316, R324)

section
variable {s u : State} {src : DevId} {dt : Nat} {b : Bytes} {k : Packet} (hb : parsePacket b = some k)
include hb

theorem deliverPacket_otherEpoch (hk : 1 ≤ k.kind ∧ k.kind ≤ 6) (hj : judgeEpoch src k.cfgEpoch dt s = (false, u)) (path : Path)
    (p : PartId) :
    deliverPacket src path dt p b s =
      refuseEpoch src p k.cfgEpoch k (pathSource path) (k.kind == 1 && tagSpec k.tag) (leavePool src path b u) := by
  have hknown : ¬ (k.kind < 1 ∨ k.kind > 6) := by omega
  simp only [deliverPacket, hb, if_neg hknown, hj]

variable (hj : judgeEpoch src k.cfgEpoch dt s = (true, u))
include hj

/-- A RESULT or a DROP goes to the combine. -/
theorem deliverPacket_result (hk : k.kind = 2 ∨ k.kind = 5) (path : Path) (p : PartId) :
    deliverPacket src path dt p b s = judgeResult p k (leavePool src path b u) := by
  have hknown : ¬ (k.kind < 1 ∨ k.kind > 6) := by omega
  simp only [deliverPacket, hb, if_neg hknown, hj, if_pos hk]

theorem deliverPacket_stale {p : PartId} (hk : k.kind = 1 ∨ k.kind = 3 ∨ k.kind = 4) (hp : judgePart src p k.partEpoch u = none)
    (path : Path) : deliverPacket src path dt p b s = cntPart 0x000D0028 1 p (leavePool src path b u) := by
  have hknown : ¬ (k.kind < 1 ∨ k.kind > 6) := by omega
  have hother : ¬ (k.kind = 2 ∨ k.kind = 5) := by omega
  simp only [deliverPacket, hb, if_neg hknown, hj, if_neg hother, hp]

section
variable {p : PartId} {v : State} (hp : judgePart src p k.partEpoch u = some v)
include hp

theorem deliverPacket_row (hk : k.kind = 1) (path : Path) : deliverPacket src path dt p b s = takeRow src path p k dt b v := by
  simp [deliverPacket, hb, hj, hp, hk]

theorem deliverPacket_verdict (hk : k.kind = 3) (path : Path) :
    deliverPacket src path dt p b s =
      conjSettle p (eachOf (List.range k.count) (fun i x => takeVerdict p k.payload i x) (leavePool src path b v)) := by
  simp [deliverPacket, hb, hj, hp, hk]

theorem deliverPacket_close (hk : k.kind = 4) (path : Path) :
    deliverPacket src path dt p b s = takeClose src p k (leavePool src path b v) := by
  simp [deliverPacket, hb, hj, hp, hk]

end

end

section
variable {s : State} {p : PartId} {k : Packet}

theorem judgeResult_stale (h : tagDev k.tag = ownId s ∧ staleEpoch (getPart s p).epoch k.partEpoch = true) :
    judgeResult p k s = cntPart 0x000D0028 1 p s :=
  if_pos h

theorem judgeResult_current (h : tagDev k.tag ≠ ownId s ∨ staleEpoch (getPart s p).epoch k.partEpoch = false) :
    judgeResult p k s = takeResult p k s :=
  if_neg fun ⟨hdev, hstale⟩ => h.elim (· hdev) (fun hcur => by simp [hcur] at hstale)

end

-- A ROW that passed the checks (R272, R322)

/-- Whether ROW credit is withheld does not depend on a counter. -/
@[simp] theorem rowWithheld_cntPart64 (off n : Nat) (p : PartId) (s : State) :
    rowWithheld (cntPart64 off n p s) p = rowWithheld s p := by
  simp only [rowWithheld, storeFull, ballastFull, rowStoreUse, rowStoreCap, ballastUse, ballastCap, cntPart64, getPart_updPart]
  rfl

section
variable {s : State} {p : PartId} {k : Packet} {x : Cluster} (hx : s.clusters.toList[k.cluster]? = some x) (hiso : x.state ≠ .isolated)
  (hoff : x.state ≠ .off) (hspec : tagSpec k.tag = false)
include hspec

/-- A ROW that is not speculative takes the place of no speculative one. -/
theorem find?_speculative_none (l : List RowRec) : l.find? (fun r => r.tag == k.tag && r.spec && tagSpec k.tag) = none := by
  simp [hspec]

include hx hiso hoff

theorem takeRow_stored (hw : rowWithheld s p = false) (src : DevId) (path : Path) (dt : Nat) (b : Bytes) :
    takeRow src path p k dt b s = storeRow p (rowOfPacket src path k dt) (leavePool src path b (cntPart64 0x000D0008 1 p s)) := by
  simp only [takeRow, find?_speculative_none hspec]
  simp [hx, hiso, hoff, hspec, hw]

theorem takeRow_waits (hw : rowWithheld s p = true) (src : DevId) (path : Path) (dt : Nat) (b : Bytes) :
    takeRow src path p k dt b s = noteStalls p (storeRow p { rowOfPacket src path k dt with stage := .waiting, pkt := b }
      (cntPart64 0x000D0008 1 p s)) := by
  simp only [takeRow, find?_speculative_none hspec]
  simp [hx, hiso, hoff, hspec, hw]

end

end Sys2Proof.Laws

namespace Sys2Proof.Proofs
open Sys2Proof Sys2Proof.Machine Sys2Proof.Laws

/-- Settles O49: the fields of a tag and of a header stand in places of their own, under a check byte and a CRC that hold. -/
theorem tagsAndPacketsReadBack : Obligations.TagsAndPacketsReadBack := by
  refine ⟨fun dev slot rank epoch part spec layer hdev hslot hrank hepoch hpart hlayer t ht => ?tag, fun _ => parsePacket_packetBytes⟩
  have hbody := ht.trans (mkTag_eq_tagBody_add hdev hslot hrank hepoch hpart hlayer spec)
  obtain ⟨hd, hs, hr, he, hp, hspec, hl, hwidth⟩ :=
    tagBody_add_fields hdev hslot hrank hepoch hpart hlayer spec (tagChk_lt _) hbody
  have hok : tagOk t = true := hbody ▸ tagOk_add_tagChk (tagBody_mod ..)
  exact ⟨hd, hs, hr, he, hp, hspec, hl, hok, hwidth⟩

/-- Settles O27, clause by clause: each contribution that does not count ends at its counter, and a slot that is not due is left. -/
theorem aContributionCountsOnce : Obligations.AContributionCountsOnce := by
  intro s
  refine ⟨fun p tag e g y b h r hr hlate => ?late, fun p tag e g y b h r hr hfits hseen => ?duplicate,
    fun p i h => roundSlot_of_not_due h⟩
  case late =>
    rw [contribute_late hr hlate]
    exact ⟨rfl, getPart_cntPart_slots ..⟩
  case duplicate =>
    rw [contribute_duplicate hr hfits hseen]
    exact ⟨rfl, getPart_cntPart_slots ..⟩

/-- Settles O26, clause by clause: the row that names the KIND takes the packet, its place in the flow decides when it acts, and its
checks and its KIND decide how. -/
theorem packetsArriveInFlowOrder : Obligations.PacketsArriveInFlowOrder := by
  intro s
  refine ⟨fun src path b hready hk => exec_receive_taken (kinds := (· == 2)) rfl hready (beq_iff_eq.mpr hk),
    fun src path b hready hk => exec_receive_taken (kinds := (· == 3)) rfl hready (beq_iff_eq.mpr hk),
    fun src path b hready hk => exec_receive_taken (kinds := (· == 4)) rfl hready (beq_iff_eq.mpr hk),
    fun src path b hready hk => exec_receive_taken (kinds := (· == 5)) rfl hready (beq_iff_eq.mpr hk),
    fun src path b hready hk => exec_receive_taken (kinds := (· == 6)) rfl hready (beq_iff_eq.mpr hk), fun src path b hready hk => ?row,
    fun src path b k u hu hb hk => arrive_refuse hu hb hk src, fun src path b k u hu hb hk hnew => ?fresh,
    fun src path b k u hu hb hk hold => ?seen, fun src path b u hu hb hk => arrive_damaged hu hb hk src,
    fun src p b hk => takeBad_notResult hk src p s, fun d p n h => drainFlow_missing h n, fun d p n e t h ht => drainFlow_next h ht n,
    fun d p path dt b => ⟨rfl, rfl⟩, fun src path dt p b k u hb hk hj => deliverPacket_otherEpoch hb hk hj path p,
    fun src path dt p b k u hb hj hk => deliverPacket_result hb hj hk path p, fun p k h => judgeResult_stale h,
    fun p k h => judgeResult_current h, fun src path dt p b k u hb hj hk hp => deliverPacket_stale hb hj hk hp path,
    fun src path dt p b k u v hb hj hk hp => deliverPacket_row hb hj hp hk path,
    fun src path dt p b k u v hb hj hk hp => deliverPacket_verdict hb hj hp hk path,
    fun src path dt p b k u v hb hj hk hp => deliverPacket_close hb hj hp hk path,
    fun src path dt p b k x hx hiso hoff hspec hw => takeRow_stored hx hiso hoff hspec hw src path dt b,
    fun src path dt p b k x hx hiso hoff hspec hw => takeRow_waits hx hiso hoff hspec hw src path dt b⟩
  case row =>
    have hrow : ((rawPacket b).kind == 1 || (rawPacket b).kind == 0 || (rawPacket b).kind > 6) = true := by
      simpa [or_assoc, or_left_comm] using hk
    exact exec_receive_taken (kinds := fun k => k == 1 || k == 0 || k > 6) rfl hready hrow
  case fresh => rw [arrive_sound hu hb hk, takeTurn_fresh hnew]
  case seen => rw [arrive_sound hu hb hk, takeTurn_seen hold]

end Sys2Proof.Proofs
end

section
/-!
SUPPORT. Flits and transport datagrams in the bytes they travel in: the statement FlitsAndDatagramsReadBack.
-/
namespace Sys2Proof.Laws
open Sys2Proof Sys2Proof.Machine Sys2Proof.Safety

-- Parts and fields of byte strings (R6, R7, R364)

@[simp] theorem length_bytesAt (b : Bytes) (off n : Nat) : (bytesAt b off n).length = n := by simp [bytesAt]

theorem bytesAt_append_right {a : Bytes} {off : Nat} (h : a.length ≤ off) (b : Bytes) (n : Nat) :
    bytesAt (a ++ b) off n = bytesAt b (off - a.length) n := by
  refine List.map_congr_left fun i _ => ?_
  rw [List.getD_eq_getElem?_getD, List.getD_eq_getElem?_getD, List.getElem?_append_right (by omega), Nat.sub_add_comm h]

@[simp] theorem length_toBe (n v : Nat) : (toBe n v).length = n := by simp [toBe]

@[simp] theorem beAt_toBe_append (n v : Nat) (b : Bytes) : beAt (toBe n v ++ b) 0 n = v % 256 ^ n := by
  have h := bytesAt_append_self (toBe n v) b
  rw [length_toBe] at h
  rw [beAt, h, toBe, List.reverse_reverse, leNat_toLe]

@[simp] theorem bytesAt_toBe_append_of_le {m off : Nat} (h : m ≤ off) (v : Nat) (b : Bytes) (n : Nat) :
    bytesAt (toBe m v ++ b) off n = bytesAt b (off - m) n := by
  simpa using bytesAt_append_right (a := toBe m v) (by simpa using h) b n

/-- A big-endian field behind the field at the front of a string. -/
@[simp] theorem beAt_toBe_append_of_le {m off : Nat} (h : m ≤ off) (v : Nat) (b : Bytes) (n : Nat) :
    beAt (toBe m v ++ b) off n = beAt b (off - m) n := by
  rw [beAt, bytesAt_toBe_append_of_le h, beAt]

theorem bitOf_of_b2n {t i : Nat} {b : Bool} (h : t / 2 ^ i % 2 = b2n b) : bitOf t i = b := by rw [bitOf, h, b2n_beq_one]

theorem crc32_lt (b : Bytes) : crc32 b < 2 ^ 32 := BitVec.isLt _

/-- A field that is the whole string. -/
theorem leAt_toLe_of_lt {n v : Nat} (h : v < 256 ^ n) : leAt (toLe n v) 0 n = v := by
  simpa [Nat.mod_eq_of_lt h] using leAt_toLe_append n v []

theorem bytesAt_self (b : Bytes) : bytesAt b 0 b.length = b := by simpa using bytesAt_append_self b []

theorem packBits_eq_sum (fs : List (Nat × Nat)) : packBits fs = (fs.map (fun f => f.1 * 2 ^ f.2)).sum := by
  rw [packBits, List.sum_eq_foldl, List.foldl_map]

theorem packBits_nil : packBits [] = 0 := rfl

theorem packBits_cons (v p : Nat) (fs : List (Nat × Nat)) : packBits ((v, p) :: fs) = v * 2 ^ p + packBits fs := by
  simp only [packBits_eq_sum, List.map_cons, List.sum_cons]

-- Flits in the bytes they travel in (R340)

/-- The header of a flit as a number, its fields in their places (R340). -/
def flitWord (h : FlitHead) : Nat :=
  packBits [(h.type, 0), (h.fseq % 4096, 4), (h.ack % 4096, 16), (b2n h.nak, 28), (h.vc % 8, 29), (h.end_, 32), (b2n h.next, 40),
    (h.creditVc % 8, 41), (h.creditPart % 4, 44), (h.creditCount % 2048, 46)]

/-- What the CRC of a flit covers: all but its last 4 bytes. -/
def flitBody (h : FlitHead) (payload : Bytes) : Bytes := toLe 10 (flitWord h) ++ bytesAt payload 0 242

theorem length_flitBody (h : FlitHead) (payload : Bytes) : (flitBody h payload).length = 252 := by simp [flitBody]

theorem flitBytes_eq (h : FlitHead) (payload : Bytes) :
    flitBytes h payload = flitBody h payload ++ toLe 4 (crc32 (flitBody h payload)) := rfl

/-- The layout of R340: each field of a header that fits its place is read back from there, and the bits above are zero. -/
theorem flitWord_fields {h : FlitHead} (hf : FlitFits h) {w : Nat} (hw : w = flitWord h) :
    bitsOf w 3 0 = h.type ∧ bitsOf w 15 4 = h.fseq ∧ bitsOf w 27 16 = h.ack ∧ bitOf w 28 = h.nak ∧ bitsOf w 31 29 = h.vc ∧
      bitsOf w 39 32 = h.end_ ∧ bitOf w 40 = h.next ∧ bitsOf w 43 41 = h.creditVc ∧ bitsOf w 45 44 = h.creditPart ∧
      bitsOf w 56 46 = h.creditCount ∧ bitsOf w 79 57 = 0 ∧ w < 2 ^ 80 := by
  obtain ⟨htype, hfseq, hack, hvc, -, hend, hcvc, hcpart, hcount⟩ := hf
  have hn := b2n_lt h.nak
  have hx := b2n_lt h.next
  simp only [flitWord, packBits_cons, packBits_nil, Nat.mod_eq_of_lt hfseq, Nat.mod_eq_of_lt hack, Nat.mod_eq_of_lt hvc,
    Nat.mod_eq_of_lt hcvc, Nat.mod_eq_of_lt hcpart, Nat.mod_eq_of_lt hcount] at hw
  have hlow : w % 2 ^ 32 = h.type + h.fseq * 2 ^ 4 + h.ack * 2 ^ 16 + b2n h.nak * 2 ^ 28 + h.vc * 2 ^ 29 := by omega
  have hhigh : w / 2 ^ 32 = h.end_ + b2n h.next * 2 ^ 8 + h.creditVc * 2 ^ 9 + h.creditPart * 2 ^ 12 + h.creditCount * 2 ^ 14 := by
    omega
  clear hw
  have hnak : w / 2 ^ 28 % 2 = b2n h.nak := by omega
  have hnext : w / 2 ^ 40 % 2 = b2n h.next := by omega
  simp only [bitOf_of_b2n hnak, bitOf_of_b2n hnext, bitsOf, true_and]
  clear hnak hnext
  and_intros <;> omega

theorem parseFlit_flitBytes {h : FlitHead} (hf : FlitFits h) {payload : Bytes} (hp : payload.length = 242) :
    parseFlit (flitBytes h payload) = some (h, payload) := by
  obtain ⟨type, fseq, ack, nak, vc, end_, next, creditVc, creditPart, creditCount, above, hlt⟩ := flitWord_fields hf rfl
  obtain ⟨htype, -, -, -, hvc, hend, -⟩ := hf
  have hlen : (flitBytes h payload).length = 256 := by simp [flitBytes_eq, length_flitBody]
  have hcover : (flitBytes h payload).take 252 = flitBody h payload := List.take_left' (length_flitBody h payload)
  have hcrc : leAt (flitBytes h payload) 252 4 = crc32 (flitBody h payload) := by
    rw [flitBytes_eq, leAt_append_right (Nat.le_of_eq (length_flitBody h payload)), length_flitBody, leAt_toLe_of_lt (crc32_lt _)]
  have hword : leAt (flitBytes h payload) 0 10 = flitWord h := by
    rw [flitBytes_eq, flitBody, List.append_assoc, leAt_toLe_append, Nat.mod_eq_of_lt (by omega)]
  have hpayload : bytesAt (flitBytes h payload) 10 242 = payload := by
    rw [flitBytes_eq, flitBody, ← hp, bytesAt_self, List.append_assoc, bytesAt_append_right (by simp), length_toLe]
    exact bytesAt_append_self ..
  simp only [parseFlit, hlen, hcover, hcrc, hword, hpayload, type, fseq, ack, nak, vc, end_, next, creditVc, creditPart, creditCount,
    above]
  rw [if_neg (by simp), if_neg (by omega)]

-- Transport datagrams in the bytes they travel in (R368)

/-- STREAM, FIRST, LAST, RETX and CFG_EPOCH share a byte. -/
theorem tthFlags_fields {stream epoch f : Nat} (hstream : stream < 4) (hepoch : epoch < 4) (first last retx : Bool)
    (hf : f = 64 * stream + 32 * b2n first + 16 * b2n last + 8 * b2n retx + 2 * epoch) :
    f < 256 ∧ f / 64 = stream ∧ bitOf f 5 = first ∧ bitOf f 4 = last ∧ bitOf f 3 = retx ∧ bitsOf f 2 1 = epoch ∧
      bitOf f 0 = false := by
  have h5 := b2n_lt first
  have h4 := b2n_lt last
  have h3 := b2n_lt retx
  have hbit0 : bitOf f 0 = false := bitOf_of_b2n (b := false) (by rw [b2n]; simp; omega)
  refine ⟨by omega, by omega, bitOf_of_b2n (by omega), bitOf_of_b2n (by omega), bitOf_of_b2n (by omega), ?_, hbit0⟩
  rw [bitsOf]
  omega

/-- PART and the source share two bytes. -/
theorem tthSource_fields {part src : Nat} (hpart : part < 4) (hsrc : src < 2 ^ 14) :
    2 ^ 14 * part + src < 65536 ∧ (2 ^ 14 * part + src) / 2 ^ 14 = part ∧ (2 ^ 14 * part + src) % 2 ^ 14 = src := by
  omega

theorem length_tthBytes (h : TthHead) (payload : Bytes) : (tthBytes h payload).length = payload.length + 32 := by
  simp [tthBytes]
  omega

theorem drop_tthBytes (h : TthHead) (payload : Bytes) : (tthBytes h payload).drop 32 = payload := List.drop_left' (by simp)

/-- The layout of R368: each field of a header that fits its place is read back from there. -/
theorem tthBytes_fields {h : TthHead} {payload : Bytes} (hf : TthFits h payload) {b : Bytes} (hb : b = tthBytes h payload) :
    beAt b 0 1 = 16 + h.type ∧
    beAt b 1 1 = 64 * h.stream + 32 * b2n h.first + 16 * b2n h.last + 8 * b2n h.retx + 2 * h.cfgEpoch ∧
    beAt b 2 2 = 2 ^ 14 * h.part + h.src ∧ beAt b 4 2 = h.dst ∧ beAt b 6 2 = h.ctx ∧ beAt b 8 4 = h.ssn ∧ beAt b 12 4 = h.off ∧
    beAt b 16 2 = h.len ∧ beAt b 18 2 = 0 ∧ beAt b 20 4 = h.ts ∧ bytesAt b 24 8 = toBe 8 0 := by
  obtain ⟨-, htype, hstream, -, hepoch, hpart, hsrc, hdst, hctx, hssn, hoff, hlen, hts, -⟩ := hf
  obtain ⟨hflags, -⟩ := tthFlags_fields hstream hepoch h.first h.last h.retx rfl
  obtain ⟨hsource, -⟩ := tthSource_fields hpart hsrc
  have hzeros : bytesAt (toBe 8 0 ++ payload) 0 8 = toBe 8 0 := bytesAt_append_self (toBe 8 0) payload
  have hsrc := Nat.mod_eq_of_lt (b := 16384) hsrc
  have hdst' := Nat.mod_eq_of_lt (b := 65536) (Nat.lt_trans hdst (by decide))
  have hdst := Nat.mod_eq_of_lt (b := 16384) hdst
  simp [hb, tthBytes, hzeros, hsrc, hdst, hdst', Nat.mod_eq_of_lt hpart]
  omega

theorem parseTth_tthBytes {h : TthHead} {payload : Bytes} (hf : TthFits h payload) : parseTth (tthBytes h payload) = some (h, payload) := by
  obtain ⟨version, flags, source, dst, ctx, ssn, off, len, reserved, ts, zeros⟩ := tthBytes_fields hf rfl
  obtain ⟨hmin, htype, hstream, hdata, hepoch, hpart, hsrc, hdst, -, -, -, -, -, hlen⟩ := hf
  obtain ⟨-, stream, first, last, retx, epoch, low⟩ := tthFlags_fields hstream hepoch h.first h.last h.retx rfl
  obtain ⟨-, part, src⟩ := tthSource_fields hpart hsrc
  have hlength : (tthBytes h payload).length = h.len + 32 := by rw [length_tthBytes, hlen]
  have htype16 : (16 + h.type) % 16 = h.type := by omega
  have hversion : (16 + h.type) / 16 = 1 := by omega
  have hreach : h.dst / 2 ^ 14 = 0 := Nat.div_eq_of_lt hdst
  have hzeros : allZero (toBe 8 0) = true := by decide
  simp only [parseTth, version, flags, source, dst, ctx, ssn, off, len, reserved, ts, zeros, drop_tthBytes, stream, first, last, retx,
    epoch, low, part, src, hlength, htype16, hversion, hreach, hzeros, Nat.mod_eq_of_lt hdst]
  rw [if_neg (by simp; omega)]

end Sys2Proof.Laws

namespace Sys2Proof.Proofs
open Sys2Proof Sys2Proof.Machine Sys2Proof.Laws

/-- Settles O51: the fields of a header stand in places of their own, and what a receiver checks holds of them. -/
theorem flitsAndDatagramsReadBack : Obligations.FlitsAndDatagramsReadBack :=
  ⟨fun _ _ hf hp => parseFlit_flitBytes hf hp, fun _ _ hf => parseTth_tthBytes hf⟩

end Sys2Proof.Proofs
end

section
/-!
SUPPORT. The training of the Bridle links, their flits and their sleep, one lemma for each way a command goes: the statements
BridleTraining and BridleFlitsAndSleep.
-/
namespace Sys2Proof.Laws
open Sys2Proof Sys2Proof.Machine

-- The states of a link (R337)

@[simp] theorem getLink_mgtEvent (ev unit arg : Nat) (s : State) (l : LinkId) : getLink (mgtEvent ev unit arg s) l = getLink s l := by
  unfold mgtEvent
  split <;> rfl

@[simp] theorem setBrl_state (l : LinkId) (b : BrlState) (s : State) : (getLink (setBrl l b s) l).state = b := by
  unfold setBrl
  split
  case isTrue h => exact beq_iff_eq.mp h
  case isFalse => simp

/-- No change of state secures a link. -/
theorem setBrl_unsecured {l : LinkId} {s : State} (h : (getLink s l).cryptOn = false) (b : BrlState) :
    (getLink (setBrl l b s) l).cryptOn = false := by
  unfold setBrl
  split
  case isTrue => exact h
  case isFalse => simp [h]

theorem enterDetect_state (l : LinkId) (s : State) : (getLink (enterDetect l s) l).state = .detect := by
  unfold enterDetect
  dsimp only
  split <;> simp

theorem enterDetect_unsecured (l : LinkId) (s : State) : (getLink (enterDetect l s) l).cryptOn = false := by
  unfold enterDetect
  dsimp only
  split <;> simp [setBrl_unsecured]

/-- A link works in the states ACTIVE and SLEEP. -/
theorem working_cases {q : Link} (h : working q = true) : q.state = .active ∨ q.state = .sleep := by
  simpa [working] using h

-- Training (R337 to R339)

section
variable {s : State} {l : LinkId}

theorem exec_brlSignalDetect_detect {u : State} (h : (getLink s l).state = .detect)
    (hu : u = setBrl l .equalize (updLink s l (fun q => { q with lanesLocked := 15 }))) :
    exec (.brlSignalDetect l) s = .next (if (getLink s l).leader = true then u else emit (.link l .training) u) := by
  subst hu
  change execBrlSignalDetect l s = _
  cases hl : (getLink s l).leader <;> simp only [execBrlSignalDetect, h, hl] <;> rfl

/-- A follower in training starts over. -/
theorem exec_brlSignalDetect_training
    (h : (getLink s l).state = .equalize ∨ (getLink s l).state = .identify ∨ (getLink s l).state = .keying)
    (hl : (getLink s l).leader = false) : exec (.brlSignalDetect l) s = .next (enterDetect l s) := by
  change execBrlSignalDetect l s = _
  rcases h with h | h | h <;> simp [execBrlSignalDetect, h, hl]

theorem exec_brlSignalDetect_dormant (h : (getLink s l).state = .dormant) :
    exec (.brlSignalDetect l) s = .next (enterDetect l s) := by
  change execBrlSignalDetect l s = _
  simp only [execBrlSignalDetect, h]

theorem exec_brlEqualizeDone_equalize (h : (getLink s l).state = .equalize) :
    exec (.brlEqualizeDone l) s = .next (sendLinkMsg l (.identify (ownIdentity s l)) (setBrl l .identify s)) :=
  if_neg (by simp [h])

section
variable {i : Identity} {u : State} (h : (getLink s l).state = .identify)
  (hu : u = learnStart i.dev i.startId (updLink s l (fun q => { q with peer := i, peerValid := true })))
include h hu

/-- What an identity does in IDENTIFY: the far end is judged first, its settings next. -/
theorem exec_identifyReceive_identify : exec (.identifyReceive l i) s =
    if some i.dev ≠ linkPeer u l ∨ i.link ≠ farLink u l then .next (linkDown l .miswired 2 u)
    else if i.groupSize ≠ u.cfg.group.size ∨ i.pairMode ≠ u.cfg.group.pairMode ∨ i.crypt ≠ u.cfg.link.brlCrypt then
      .next (linkDown l .down 3 u)
    else if u.cfg.link.brlCrypt then .next (setBrl l .keying u)
    else .next (linkActive l false u) := by
  subst hu
  exact if_neg (by simp [h])

theorem exec_identifyReceive_foreign (hfar : some i.dev ≠ linkPeer u l ∨ i.link ≠ farLink u l) :
    exec (.identifyReceive l i) s = .next (linkDown l .miswired 2 u) := by
  rw [exec_identifyReceive_identify h hu, if_pos hfar]

section
variable (hdev : some i.dev = linkPeer u l) (hlink : i.link = farLink u l)
include hdev hlink

theorem exec_identifyReceive_otherSettings
    (hset : i.groupSize ≠ u.cfg.group.size ∨ i.pairMode ≠ u.cfg.group.pairMode ∨ i.crypt ≠ u.cfg.link.brlCrypt) :
    exec (.identifyReceive l i) s = .next (linkDown l .down 3 u) := by
  rw [exec_identifyReceive_identify h hu, if_neg (by simp [hdev, hlink]), if_pos hset]

theorem exec_identifyReceive_agrees (hsize : i.groupSize = u.cfg.group.size) (hmode : i.pairMode = u.cfg.group.pairMode)
    (hcrypt : i.crypt = u.cfg.link.brlCrypt) :
    exec (.identifyReceive l i) s = .next (if u.cfg.link.brlCrypt then setBrl l .keying u else linkActive l false u) := by
  rw [exec_identifyReceive_identify h hu, if_neg (by simp [hdev, hlink]), if_neg (by simp [hsize, hmode, hcrypt])]
  split <;> rfl

end

end

theorem exec_brlKeyingDone_ok {k : Bytes} (h : (getLink s l).state = .keying) (hk : groupPsk s = some k) :
    exec (.brlKeyingDone l true) s = .next (linkActive l true (freshKey l k s)) := by
  change execBrlKeyingDone l true s = _
  simp [execBrlKeyingDone, h, hk]

theorem exec_brlKeyingDone_failed {ok : Bool} (h : (getLink s l).state = .keying) (hk : ok = false ∨ groupPsk s = none) :
    exec (.brlKeyingDone l ok) s = .next (linkDown l .down 4 (linkAuthFail l s)) := by
  change execBrlKeyingDone l ok s = _
  rcases hk with hk | hk <;> simp [execBrlKeyingDone, h, hk]

theorem exec_brlTrainTimeout_training
    (h : (getLink s l).state = .detect ∨ (getLink s l).state = .equalize ∨ (getLink s l).state = .identify ∨
      (getLink s l).state = .keying)
    (ht : (getLink s l).trainAt + s.cfg.tmo.linkTrainMs * 1000000 ≤ upNs s) :
    exec (.brlTrainTimeout l) s = .next (linkDown l .down 1 s) := by
  change execBrlTrainTimeout l s = _
  rw [execBrlTrainTimeout, if_neg (Nat.not_lt.mpr ht)]
  rcases h with h | h | h | h <;> rw [h]

-- Retries, retrains, DORMANT and REKEY (R337, R343, R344, R356, R359)

theorem exec_brlDownRetry_due (h : (getLink s l).state = .down ∨ (getLink s l).state = .miswired)
    (ht : (getLink s l).since + 1000000000 ≤ upNs s) : exec (.brlDownRetry l) s = .next (retryLink l s) := by
  change execBrlDownRetry l s = _
  rw [execBrlDownRetry, if_neg (Nat.not_lt.mpr ht)]
  rcases h with h | h <;> rw [h]

theorem exec_lossOfLink_working (h : working (getLink s l) = true) : exec (.lossOfLink l) s = .next (retrainLink l s) :=
  if_neg (by simp [h])

section
variable {r : Requester} {v : Nat}

theorem exec_brlRetrain_working (hc : brlCmd r v 1 s = true) (h : working (getLink s l) = true) :
    exec (.brlRetrain r l v) s = .next (retrainLink l s) := by
  change execBrlRetrain r l v s = _
  rcases working_cases h with h | h <;> simp [execBrlRetrain, hc, h]

theorem exec_brlRetrain_down (hc : brlCmd r v 1 s = true) (h : (getLink s l).state = .down ∨ (getLink s l).state = .miswired) :
    exec (.brlRetrain r l v) s = .next (retryLink l s) := by
  change execBrlRetrain r l v s = _
  rcases h with h | h <;> simp [execBrlRetrain, hc, h]

theorem exec_brlDormant_asks (hc : brlCmd r v 2 s = true) (h : working (getLink s l) = true) (hlast : lastOfBond s l = false)
    (hpair : l.val ≠ 15 ∨ s.cfg.group.pairMode = 0) :
    exec (.brlDormant r l v) s =
      .next (sendLinkMsg l .dormantReq (wakeLink l (updLink s l (fun q => { q with dormantAsked := true })))) :=
  if_neg (by rcases hpair with hp | hp <;> simp [hc, h, hlast, hp])

theorem exec_brlWake_dormant (hc : brlCmd r v 3 s = true) (h : (getLink s l).state = .dormant) :
    exec (.brlWake r l v) s = .next (enterDetect l s) :=
  if_neg (by simp [hc, h])

end

theorem exec_brlRekey_secured {k : Bytes} (h : working (getLink s l) = true) (hc : (getLink s l).cryptOn = true)
    (hk : groupPsk s = some k) : exec (.brlRekey l) s = .next (freshKey l k s) := by
  change execBrlRekey l s = _
  simp [execBrlRekey, h, hc, hk]

-- Flits and their acknowledgement (R340 to R342, R344)

theorem exec_flitReceive_uncorrectable {fec : Nat} (h : (getLink s l).state = .active) (hf : 2 ≤ fec) (b : Bytes) (m : Option LinkMsg) :
    exec (.flitReceive l fec b m) s = .next (discardFlit l (cntLink 0x1C 1 l s)) := by
  change execFlitReceive l fec b m s = _
  rw [execFlitReceive, if_neg (by simp [h]), if_pos hf]

theorem exec_flitReceive_taken {fec : Nat} (h : (getLink s l).state = .active) (hf : fec < 2) (b : Bytes) (m : Option LinkMsg) :
    exec (.flitReceive l fec b m) s = .next (takeFlit l b m (if fec = 1 then cntLink 0x18 1 l s else s)) := by
  change execFlitReceive l fec b m s = _
  rw [execFlitReceive, if_neg (by simp [h]), if_neg (Nat.not_le.mpr hf)]

theorem takeFlit_damaged {b : Bytes} (hb : parseFlit b = none) (m : Option LinkMsg) : takeFlit l b m s = discardFlit l s := by
  rw [takeFlit, hb]

theorem takeFlit_outOfTurn {b p : Bytes} {h : FlitHead} (hb : parseFlit b = some (h, p)) (ht : h.type ≠ 0)
    (hseq : h.fseq ≠ (getLink s l).rxNext) (m : Option LinkMsg) : takeFlit l b m s = s := by
  rw [takeFlit, hb]
  exact if_pos ⟨ht, hseq⟩

theorem exec_nakReceive_working (h : working (getLink s l) = true) (k : Nat) :
    exec (.nakReceive l k) s = .next (takeNak l (k % 4096) s) :=
  if_neg (by simp [h])

theorem exec_nakRepeat_open (h : working (getLink s l) = true) (hn : (getLink s l).nakOpen = true) :
    exec (.nakRepeat l) s = .next (sendAck l s) :=
  if_pos (by simp [h, hn])

theorem exec_ackTimer_due (h : working (getLink s l) = true) (ho : (getLink s l).ackOwed ≠ 0)
    (ht : (getLink s l).ackAt + 200 ≤ upNs s) : exec (.ackTimer l) s = .next (sendAck l s) :=
  if_pos (by simp [h, ho, ht])

theorem exec_integrityReceive_taken {b p : Bytes} {h : FlitHead} (hb : parseFlit b = some (h, p)) (ht : h.type = 4)
    (hs : (getLink s l).state = .active) : exec (.integrityReceive l b) s = .next (takeFlit l b none s) := by
  change execIntegrityReceive l b s = _
  rw [execIntegrityReceive, hb]
  exact if_pos ⟨ht, hs⟩

-- TIME flits (R345)

theorem updLink_congr {f g : Link → Link} (h : f (getLink s l) = g (getLink s l)) : updLink s l f = updLink s l g := by
  unfold getLink at h
  rw [updLink, updLink, h]

theorem exec_timeFlitReceive_exchanged {t : Nat} (h : working (getLink s l) = true) (ht : (getLink s l).timeTx = some t) (a b : Nat) :
    exec (.timeFlitReceive l a b) s =
      .next (updLink s l (fun q => { q with timeRx := some (dtNow s), delayNs := oneWayDelay t b a (dtNow s) })) :=
  (if_neg (by simp [h])).trans (congrArg Host.Outcome.next (updLink_congr (by simp only [ht])))

theorem exec_timeFlitReceive_first (h : working (getLink s l) = true) (ht : (getLink s l).timeTx = none) (a b : Nat) :
    exec (.timeFlitReceive l a b) s = .next (updLink s l (fun q => { q with timeRx := some (dtNow s) })) :=
  (if_neg (by simp [h])).trans (congrArg Host.Outcome.next (updLink_congr (by simp only [ht])))

/-- The delay of a link whose ends' clocks differ by `o`, over an exchange that the far end held for `h`. -/
theorem oneWayDelay_exchange (t d o h : Nat) : oneWayDelay t (t + d + o) (t + d + o + h) (t + d + h + d) = d % 2 ^ 16 := by
  have hdelay : (((((t + d + h + d : Nat) : Int) - t) - (((t + d + o + h : Nat) : Int) - (t + d + o : Nat))) / 2).toNat = d := by omega
  rw [oneWayDelay, hdelay]

-- Advertisements (R352)

theorem exec_bondAdvertisementReceive_member {m : Nat} (h : working (getLink s l) = true) (hm : linkMember s l = some m) (a : Advert) :
    exec (.bondAdvertisementReceive l a) s = .next (drainOut (relayReach s (judgeReach (takeAdvert m a s)))) := by
  change execBondAdvertisementReceive l a s = _
  rw [execBondAdvertisementReceive, if_neg (by simp [h]), hm]

-- SLEEP (R355)

theorem exec_brlIdleTimer_idle (h : (getLink s l).state = .active) (hi : (getLink s l).idleUs ≠ 0) (ha : (getLink s l).sleepAsked = false)
    (hq : queuedFor s l = false)
    (ht : max (getLink s l).since (getLink s l).lastSent + (getLink s l).idleUs * 1000 ≤ upNs s) :
    exec (.brlIdleTimer l) s = .next (sendLinkMsg l .sleepReq (updLink s l (fun q => { q with sleepAsked := true }))) :=
  if_neg (by simp [h, hi, ha, hq, Nat.not_lt.mpr ht])

theorem exec_sleepReqReceive_queued (h : (getLink s l).state = .active) (hq : queuedFor s l = true) :
    exec (.sleepReqReceive l) s = .next (sendLinkMsg l .sleepNak s) := by
  change execSleepReqReceive l s = _
  simp [execSleepReqReceive, h, hq]

theorem exec_sleepReqReceive_empty (h : (getLink s l).state = .active) (hq : queuedFor s l = false) :
    exec (.sleepReqReceive l) s = .next (setBrl l .sleep (cntLink 0x34 1 l
      (updLink (sendLinkMsg l .sleepAck s) l (fun q => { q with sleepAsked := false })))) := by
  change execSleepReqReceive l s = _
  simp [execSleepReqReceive, h, hq]

theorem exec_wakePattern_working (h : working (getLink s l) = true) :
    exec (.wakePattern l) s = .next (drainLink l (setBrl l .active
      (updLink s l (fun q => { q with sleepAsked := false, dormantAsked := false })))) := by
  change execWakePattern l s = _
  rcases working_cases h with h | h <;> rw [execWakePattern, h]

end

end Sys2Proof.Laws

namespace Sys2Proof.Proofs
open Sys2Proof Sys2Proof.Machine Sys2Proof.Laws

/-- Settles O32, clause by clause: each event in the state of R337 that it applies in. -/
theorem bridleTraining : Obligations.BridleTraining := by
  intro s
  refine ⟨fun l u h hu => exec_brlSignalDetect_detect h hu, fun l h hl => exec_brlSignalDetect_training h hl,
    fun l h => exec_brlSignalDetect_dormant h, fun l h => exec_brlEqualizeDone_equalize h,
    fun l i u h hu hdev hlink hsize hmode hcrypt => exec_identifyReceive_agrees h hu hdev hlink hsize hmode hcrypt,
    fun l i u h hu hfar => exec_identifyReceive_foreign h hu hfar,
    fun l i u h hu hdev hlink hset => exec_identifyReceive_otherSettings h hu hdev hlink hset,
    fun l k h hk => exec_brlKeyingDone_ok h hk, fun l b h hk => exec_brlKeyingDone_failed h hk,
    fun l h ht => exec_brlTrainTimeout_training h ht, fun l h ht => exec_brlDownRetry_due h ht,
    fun l h => exec_lossOfLink_working h, fun r l v hc h => exec_brlRetrain_working hc h,
    fun r l v hc h => exec_brlRetrain_down hc h, fun r l v hc h hlast hpair => exec_brlDormant_asks hc h hlast hpair,
    fun r l v hc h => exec_brlWake_dormant hc h, fun l k h hc hk => exec_brlRekey_secured h hc hk,
    fun l b _ => ⟨setBrl_state l b s, enterDetect_state l s, enterDetect_unsecured l s⟩⟩

/-- Settles O33, clause by clause: each flit, timer and message under its conditions. -/
theorem bridleFlitsAndSleep : Obligations.BridleFlitsAndSleep := by
  intro s
  refine ⟨fun l fec b m h hf => exec_flitReceive_uncorrectable h hf b m, fun l fec b m h hf => exec_flitReceive_taken h hf b m,
    fun l b m hb => takeFlit_damaged hb m, fun l b p h m hb ht hseq => takeFlit_outOfTurn hb ht hseq m, fun l => rfl,
    fun l u hu => hu ▸ rfl, fun l k h => exec_nakReceive_working h k, fun l h hn => exec_nakRepeat_open h hn,
    fun l h ho ht => exec_ackTimer_due h ho ht, fun l b p h hb ht hs => exec_integrityReceive_taken hb ht hs,
    fun l a b t h ht => exec_timeFlitReceive_exchanged h ht a b, fun l a b h ht => exec_timeFlitReceive_first h ht a b,
    oneWayDelay_exchange, rfl, fun l a m h hm => exec_bondAdvertisementReceive_member h hm a,
    fun l h hi ha hq ht => exec_brlIdleTimer_idle h hi ha hq ht, fun l h hq => exec_sleepReqReceive_queued h hq,
    fun l h hq => exec_sleepReqReceive_empty h hq, fun l h => exec_wakePattern_working h⟩

end Sys2Proof.Proofs
end
